-- ==== Sys2Proof/Word.lean ====
section
/-! DEFINITION. Word types of the manual and their plainest arithmetic: 32-bit point-link words, 128-bit words of
pages, records and orders (spec/00). -/

namespace Sys2Proof

/-- A 32-bit word of a point-link frame (06 R199, R200). -/
abbrev W32 := BitVec 32

/-- A 128-bit word of a page, a record or an order (00 R12, 04 R139, 15 R505). -/
abbrev W128 := BitVec 128

/-- A byte. -/
abbrev Byte := BitVec 8

end Sys2Proof
end

