-- ==== Sys2Proof/Names.lean ====
section
/-! DEFINITION. The closed sets of names the manual uses (modes, states, kinds) and the small records that both the
commands and the state carry. -/

namespace Sys2Proof

/-- The microcoded engines of 01 Table 1.3 and SEN. -/
inductive EngineId
  | boot | met | led | ses | lnk | rdo | dsp | sen
  deriving DecidableEq, Repr

/-- An engine as the key table names it; BOOT by its two halves (04 R126 MASTERS). -/
inductive EngHalf
  | bootM | bootC | met | led | ses | lnk | rdo | dsp
  deriving DecidableEq, Repr

/-- Clock states of 02 Table 2.1. -/
inductive ClkState
  | acquire | locked | holdover | pullIn | free
  deriving DecidableEq, Repr

/-- Source input of the cycle clock (02 Table 2.5). -/
inductive Source
  | none | l1 | l2 | l3
  deriving DecidableEq, Repr

/-- A mains-sense input. -/
inductive MsIn
  | l1 | l2 | l3
  deriving DecidableEq, Repr

/-- Hub condition (01 Table 1.12, 03 R107 COND). -/
inductive Cond
  | off | start | run | noConfig | retired | outage | dormant | stopped
  deriving DecidableEq, Repr

/-- Which bits of a two-bit life-cycle cell are burnt (03 R91, R92). -/
inductive CellBits
  | one | both
  deriving DecidableEq, Repr

/-- Status of a key slot (04 R126 STATUS). -/
inductive SlotStatus
  | empty | loaded | zeroised | fault
  deriving DecidableEq, Repr

/-- What a transient slot holds (04 R130). -/
inductive TransKind
  | token | derived | agreed | ephemeral
  deriving DecidableEq, Repr

/-- The slot operations (04 R128). -/
inductive SlotOp
  | sign | verify | encrypt | decrypt | mac | derive | agree
  deriving DecidableEq, Repr

/-- What a slot operation hands back to its engine (04 R128, R129). -/
structure SlotResult where
  /-- engine that placed the operation -/
  owner : EngHalf
  op : SlotOp
  slot : Nat
  /-- refusal reason of 04 R129; 0 = carried out -/
  reason : Nat
  /-- the result (a signature, a text, a MAC, a verdict as 0 or 1, or the transient slot written) -/
  data : List Nat
  deriving DecidableEq, Repr

/-- Where an order record came from (01 R27). -/
inductive OrderSrc
  | rdo | lnk
  deriving DecidableEq, Repr

/-- An order record, whole, as an engine put it into the ORDER inlet (04 R139). -/
structure OrderRec where
  words : List W128
  src : OrderSrc
  /-- node the order came from, for LNK -/
  orig : Nat
  /-- transport tag of the sender -/
  tag : Nat
  deriving DecidableEq, Repr

/-- A start or an end binding notice (01 R29). -/
structure BindNotice where
  point : Nat
  tenant : Nat
  path : Nat
  session : Nat
  /-- none: a start notice; some r: an end notice with end reason r -/
  ending : Option Nat
  /-- count of the cycle in which SES placed it -/
  placed : Nat
  /-- PROTO of the session, in an end notice -/
  proto : Nat := 0
  /-- eMAID of a contract session -/
  emaid : List Nat := []
  deriving DecidableEq, Repr

/-- An open binding as the LEDGER gate publishes it (01 Table 1.5). -/
structure BindSnap where
  point : Nat
  tenant : Nat
  path : Nat
  session : Nat
  deriving DecidableEq, Repr

/-- A flash operation in progress (05 R184). -/
inductive FlashOp
  | dlvErase | dlvVerify | dlvProgram | jrnErase
  deriving DecidableEq, Repr

/-- Delivery states of 05 Table 5.16. -/
inductive DlvState
  | idle | erasing | receiving | verifying | verified | failed
  deriving DecidableEq, Repr

/-- Port states of 06 Table 6.9 for a slot that has a HEAD record. -/
inductive PortSt
  | dark | pairing | testing | failed | ready | admitted | slow
  deriving DecidableEq, Repr

/-- A head's own pairing state (06 R206). -/
inductive HeadPair
  | unpaired | challenged | paired
  deriving DecidableEq, Repr

/-- States of a redundant resource (07 Table 7.3, 22 Table 22.3), with the state codes 0-4 in this order. -/
inductive ModSt
  | inService | underTest | spare | suspect | retired | unused
  deriving DecidableEq, Repr

/-- What a parallel placement of a halo slot is for (07 R239-R246). -/
inductive HaloUse
  | idle | step | retest | confirm | subst
  deriving DecidableEq, Repr

/-- The sums of a halo comparison, reduced as 07 R241 sets out (log entry 20): usable cycles, cycles with signal, gain deviation
in ppm, offset deviation in LSB, phase deviation in 0.0001 degree. -/
structure HaloCmp where
  usable : Nat
  nSig : Nat
  gain : Rat
  off : Rat
  phase : Rat
  deriving DecidableEq, Repr

/-- What a sampled tick is (06 R217, 08 R259). -/
inductive TickKind
  | usable | bridged | gap
  deriving DecidableEq, Repr

/-- Safety states of a point (09 Table 9.2). -/
inductive SafeSt
  | opened | testing | closing | closed | stopped | lockedOut
  deriving DecidableEq, Repr

/-- Point states PSTATE of 10 Table 10.6. -/
inductive PState
  | absent | outOfService | available | connected | authorised | charging | paused | ending | fault
  deriving DecidableEq, Repr

/-- Control-pilot states (10 R342). -/
inductive CpState
  | a | b | c | d | e | f | unknown
  deriving DecidableEq, Repr

/-- Cable codes (10 R348). -/
inductive Cable
  | none | a13 | a20 | a32 | a63 | invalid | fixed
  deriving DecidableEq, Repr

/-- Socket-lock states (10 Table 10.9 LOCK). -/
inductive LockSt
  | none | unlocked | locking | locked | unlocking | fault
  deriving DecidableEq, Repr

/-- SLAC states of 11 Table 11.6. -/
inductive SlacSt
  | idle | waitParm | sounding | waitAtten | waitMatch | waitJoin | matched | fallback
  deriving DecidableEq, Repr

/-- A SLAC message that SES sends (11 R389). -/
inductive SlacOut
  | parmCnf | attenInd | matchCnf | validateCnf | nekCnf
  deriving DecidableEq, Repr

/-- State of a receive pipe (11 R386). -/
inductive PipeSt
  | inService | underTest | spare | suspect | retired
  deriving DecidableEq, Repr

/-- Session stages of 12 Table 12.4. -/
inductive Stage
  | idle | link | sdp | connect | handshake | app | setup | auth | param | loop | stopping | basic
  deriving DecidableEq, Repr

/-- What later REQ_UD2 telegrams serve (15 R524). -/
inductive MbCmd
  | standard
  /-- parts of the latched item, from this one on -/
  | part (n : Nat)
  /-- a response header without data -/
  | reply (header : List Nat)
  /-- the status of the last order -/
  | order
  deriving DecidableEq, Repr

/-- Security of an M-Bus request (15 R523): it came in mode 5, and its verification bytes hold. -/
structure MbFrame where
  mode5 : Bool
  verifies : Bool
  deriving DecidableEq, Repr

/-- The last M-Bus answer (15 Table 15.9). -/
inductive MbAnswer
  | none | ack | rspUd (body : List Nat)
  deriving DecidableEq, Repr

/-- An item latched for M-Bus (15 R525). -/
structure Latch where
  isRecord : Bool
  /-- page number, or record number -/
  item : Nat
  /-- REF of its parts: the snapshot count of a page, the number of a record -/
  ref : Nat
  /-- the item is protected -/
  isProt : Bool
  words : List W128
  /-- who latched it: 0 M-Bus, 1 + node a reader on the building link -/
  reader : Nat := 0
  deriving DecidableEq, Repr

/-- ISO/IEC 15693 states of the tag (16 R532). -/
inductive TagSt
  | ready | quiet | selected
  deriving DecidableEq, Repr

/-- How a field request addresses the tag (16 R532): the UID of an addressed request, the select flag, the option flag. -/
structure TagReq where
  uid : Option Nat
  sel : Bool
  opt : Bool
  deriving DecidableEq, Repr

/-- A transmission of the Acrad PHY (17 R564). -/
structure TxReq where
  coupler : Nat
  fc : W128
  blocks : List (List Nat)
  deriving DecidableEq, Repr

/-- An Acrad frame of TYPE 0 or 1 as the PHY and the decryption hand it to LNK (18 R608 to R610): the fields of its frame control and
of its MAC header, whether its MIC holds, its body, and the phase of its frame-control symbol in own pu. -/
structure AcFrame where
  src : Nat
  dst : Nat := 0
  bcast : Bool := true
  fseq : Nat := 0
  tmi : Nat := 0
  fctr : Nat
  keysel : Nat
  mic : Bool := true
  msgId : Nat := 0
  orig : Nat := 0
  final : Nat := 0
  bcastFinal : Bool := false
  last : Bool := true
  hops : Nat := 0
  frag : Nat := 0
  stamp : Nat := 0
  body : List Nat
  deriving DecidableEq, Repr

/-- Link states of 18 Table 18.4. -/
inductive LinkSt
  | listen | synced | joined | coord
  deriving DecidableEq, Repr

/-- A drawn TEXT element of a layout and its text bytes (20 R691). -/
structure Drawn where
  layout : Nat
  elem : Nat
  point : Nat
  text : List Nat
  deriving DecidableEq, Repr

/-- Sentinel states of 21 Table 21.1. -/
inductive SenSt
  | cold | powered | outage | dormant
  deriving DecidableEq, Repr

/-- Journal sector states of 21 Table 21.7; `noState` is a header that matches no row. -/
inductive JSecSt
  | erased | opening | active | full | retiring | noState
  deriving DecidableEq, Repr

/-- What the parsing of a certificate chain shows (12 R410, R416): sub-CA certificates, every signature verifies under its issuer,
the anchor record that the top certificate verifies under, latest start and earliest end of the validity periods, CA constraints
and usages hold, algorithm of the keys (1 P-256, 2 P-521, 3 Ed448), the subject CN as written, every asset block verifies (else
its index). -/
structure Chain where
  subCas : Nat
  sigOk : Bool
  anchor : Option Nat
  notBefore : Nat
  notAfter : Nat
  caOk : Bool
  alg : Nat
  cn : List Nat
  badAsset : Option Nat
  deriving DecidableEq, Repr

/-- The MRAM structure that a word belongs to, where a recovery rule of its own reads its CRC (22 R743). -/
inductive MramStruct
  | lockRecA | lockRecB | regsA (i : Fin 32) | regsB (i : Fin 32) | rootCopy1 | rootCopy2 | modelA | modelB | keySlot (k : Fin 64)
  | checkpoint | other
  deriving DecidableEq, Repr

/-- What a cycle boundary finds outside the hub's registers: periods of the 32.768 kHz oscillator since the last latch, the engines whose
heartbeat did not come in the ended cycle, and how many journal records fail verification at it (log entry 5). -/
structure BndObs where
  adv : Nat := 655
  silent : List EngineId := []
  jFails : Nat := 0
  deriving DecidableEq, Repr

/-- What steps S3 to S6 of a start find: the repair-map copies that agree; failing rows (bank, row), MRAM blocks and lanes; failing
known-answer tests by number; failed keying attempts; for each PUF read whether copies 1 and 2 of the root secret verify; key slots whose
tag fails; register copies whose CRC fails (point, copy A bad, copy B bad); whether each lock-out copy verifies; intent slots whose CRC
fails; period copies that fail (0 none, 1 one, 2 both); whether the journal ends in a torn record; whether slots A and B cannot be read
(log entry 5). -/
structure StartObs where
  mapOk : Nat := 3
  rows : List (Fin 32 × Nat) := []
  blks : List Nat := []
  lanes : List (Fin 18) := []
  kat : List Nat := []
  keyFails : Nat := 0
  puf : List (Bool × Bool) := [(true, true)]
  badSlots : List (Fin 64) := []
  badRegs : List (Fin 32 × Bool × Bool) := []
  lockA : Bool := true
  lockB : Bool := true
  badIntents : List Nat := []
  per : Nat := 0
  torn : Bool := false
  failA : Bool := false
  failB : Bool := false
  deriving DecidableEq, Repr

/-- The parts of the start sequence that the hub's table holds in one row: steps S1 to S6, and the arming of step S9 or of a re-arming
with the readings of its rail test. -/
inductive StartStep
  | begin (o : StartObs)
  | arm (mons : List (Bool × Bool))
  deriving DecidableEq, Repr

/-- The times at which the outage steps 1 to 4 were done, in units of 10 µs from the rise of the signal (21 Table 21.9). -/
structure OutTimes where
  rail : Nat := 0
  meter : Nat := 0
  ledger : Nat := 0
  journal : Nat := 0
  jFails : Nat := 0
  deriving DecidableEq, Repr

end Sys2Proof
end

