-- ==== Sys2Proof/Syntax.lean ====
section
/-! DEFINITION. The commands: one constructor per row of the table of operations and events. An operand is what the
command brings from outside the block: an observation, a measured value, a frame, a message or a test's outcome
(log entry 5). Everything the hub keeps itself is state. -/

namespace Sys2Proof


/-- The commands of the table of operations and events (spec/opcode_table.json). -/
inductive Instr
  /-- No heartbeat has come from an engine at three consecutive cycle boundaries, so the SSMs write event 0x9010 and react by engine as Table 1.11 sets out. (R46. Operands: engine whose heartbeat did not come.) -/
  | heartbeatLost (e : EngineId)
  /-- A communication engine attempts a write into metrology-world memory; the write is blocked, event 0x6001 is written and the engine is treated as having lost its heartbeat. (R48. Operands: communication engine and target address.) -/
  | crossWorldWrite (e : EngineId) (addr : Nat)
  /-- LED takes a start or end binding notice from the BIND inlet and accepts or refuses it. (R29.) -/
  | bindingNotice
  /-- A qualifying crossing on an MS input is classified and steers the cycle clock under the loop law, the PULL-IN step or the state table. (R53. Operands: input; interval from its previous qualifying crossing in microseconds; phase in pu.) -/
  | zeroCrossing (inp : MsIn) (iv : Option Rat) (phase : Nat)
  /-- The acceptance window of a crossing closes empty; the slip is counted and the third consecutive slip enters HOLDOVER. (R56. Operands: input.) -/
  | crossingSlip (inp : MsIn)
  /-- 100 cy of nominal time pass in ACQUIRE without lock, so the clock starts in FREE at 1/fnom. (R56.) -/
  | acquireTimeout
  /-- The 51st boundary since HOLDOVER was entered from LOCKED passes, so the clock enters FREE with event 0x7112. (R56.) -/
  | holdoverTimeout
  /-- An MS input's fundamental rms stays below 50 V for more than 0.5 cy, so the input becomes absent. (R51. Operands: input.) -/
  | msInputAbsent (inp : MsIn)
  /-- An MS input's fundamental rms stays at or above 70 V for 1 cy, so the input becomes present again. (R51. Operands: input.) -/
  | msInputPresent (inp : MsIn)
  /-- At the next cycle boundary after the source input becomes absent, the clock changes source to the first present input and writes event 0x7114. (R59.) -/
  | sourceChange
  /-- After 8 consecutive good L1 crossings during fallback, the source returns to L1 at the next cycle boundary. (R60.) -/
  | returnToL1
  /-- At each cycle boundary the actions due take effect in the order of Table 2.4. (R72. Operands: what the boundary finds.) -/
  | cycleBoundary (o : BndObs)
  /-- At every epoch boundary BOOT writes the count and the latched RTC to MRAM, and the epoch-bound actions take effect. (R81.) -/
  | countCheckpoint
  /-- At each tick start the hub launches the downstream frame that governs the following tick on every configured port. (R197. Operands: samples of TAR0/TAR1 and of LLIM.) -/
  | tickStart (tar : Nat) (llim : Bool)
  /-- At a qualifying boundary the hub moves its count forward to the estate count and writes event 0x7116. (R76. Operands: what the boundary finds.) -/
  | countAlignment (o : BndObs)
  /-- nRESET goes low, driving SAFE_EN_A and SAFE_EN_B low within 10 µs and silencing every point-link port. (R85.) -/
  | nresetAssert
  /-- A power-on, reset release, restart or mains return runs steps S1 to S9 of the start sequence. (R86. Operands: steps S1 to S6 with what they find, or an arming with the readings of its rail test.) -/
  | startSequence (x : StartStep)
  /-- At boundary C0+64 the hub enters RUN, releases the engines, admits ready heads and writes event 0x7102. (R87. Operands: an asset that DSP needs at its release cannot be read.) -/
  | runEntry (assetFault : Bool)
  /-- A time-set order is validated and scheduled for the next cycle boundary, or refused with event 0x7131. (R698. Operands: the order record.) -/
  | orderTimeSet (o : OrderRec)
  /-- At the next cycle boundary SEN sets the RTC, sets RTC_VALID, writes event 0x7130 and counts a clock-set tamper. (R69.) -/
  | timeSetApply
  /-- A point service state order is validated, or refused with event 0x4103. (R358. Operands: the order record.) -/
  | orderPointService (o : OrderRec)
  /-- At EFFECT_COUNT the point service states named in the order are applied and kept in MRAM. (R357.) -/
  | serviceStateApply
  /-- LED validates a tenant block order and schedules it. (R457. Operands: the order record.) -/
  | orderTenantBlock (o : OrderRec)
  /-- LED validates a tenant unblock order and schedules it. (R457. Operands: the order record.) -/
  | orderTenantUnblock (o : OrderRec)
  /-- At its boundary, a block or unblock order sets or clears the tenant's bit in the block list. (R458.) -/
  | tenantBlockApply
  /-- A seal order is validated and scheduled for its EFFECT_COUNT, or refused with event 0x6106. (R95. Operands: the order record.) -/
  | orderSeal (o : OrderRec)
  /-- An unseal order is validated and scheduled, or refused with event 0x6106. (R95. Operands: the order record.) -/
  | orderUnseal (o : OrderRec)
  /-- A retire order is validated and replaces any pending seal, unseal or retire order, or is refused. (R112. Operands: the order record.) -/
  | orderRetire (o : OrderRec)
  /-- At its boundary, a seal or unseal order writes the digest if needed and burns the next counter cell. (R96.) -/
  | lifeCycleChange
  /-- At boundary B, a retire ends every session and LED begins signing register readings for every bound slot. (R100.) -/
  | retireSequence
  /-- At the first boundary after the retire readings are done, BOOT-M burns RETIRED, zeroises and restarts the hub. (R100.) -/
  | retireCellBurn
  /-- A restart order of kind IDLE or AT is accepted, replacing any pending restart, with event 0x7104. (R103. Operands: the order record.) -/
  | orderRestart (o : OrderRec)
  /-- From (MARK_COUNT − 250):0 under an AT restart, the hub takes no new session. (R103.) -/
  | restartSessionFreeze
  /-- The restart mark or the first idle boundary is reached; EXPECT_GEN is checked again and the hub restarts. (R103.) -/
  | restartDue
  /-- An order with a reserved TYPE fails its framing check and is refused with event 0x6120. (R141. Operands: the order record.) -/
  | orderUnknownType (o : OrderRec)
  /-- A delivery BEGIN order opens a delivery and erases the target slot and the write range. (R180. Operands: the order record.) -/
  | deliveryBegin (o : OrderRec)
  /-- A delivery DATA chunk is programmed, read back and marked in the chunk map. (R180. Operands: the order record.) -/
  | deliveryData (o : OrderRec)
  /-- A delivery END order with every chunk present starts verification of the target slot in place. (R180. Operands: the order record.) -/
  | deliveryEnd (o : OrderRec)
  /-- A delivery ABANDON order for the open delivery returns it to IDLE with event 0x6147. (R180. Operands: the order record.) -/
  | deliveryAbandon (o : OrderRec)
  /-- The last erase of a delivery completes and the delivery enters RECEIVING. (R180.) -/
  | deliveryEraseDone
  /-- Verification of a delivered slot completes and the delivery becomes VERIFIED or FAILED. (R181. Operands: the flash failed to read.) -/
  | deliveryVerifyDone (readFail : Bool)
  /-- A readout request of kind 1 for protected pages is checked and accepted or refused. (R517. Operands: the order record.) -/
  | orderReadoutPages (o : OrderRec)
  /-- A readout request of kind 2 for Favesel records is checked and accepted or refused. (R517. Operands: the order record.) -/
  | orderReadoutRecords (o : OrderRec)
  /-- A readout request of kind 3 for a register reading is checked and accepted or refused. (R517. Operands: the order record.) -/
  | orderReadoutRegister (o : OrderRec)
  /-- At the next boundary after acceptance, a readout grant opens and is published through STATE with event 0x5053. (R518.) -/
  | grantOpen
  /-- A readout grant ends at VALID_COUNT:0 and any kind 3 reading leaves the delivery buffer. (R518.) -/
  | grantExpiry
  /-- At the boundary after validation LED composes and signs the requested register reading. (R512.) -/
  | registerReadingCompose
  /-- An authorise order passed by BOOT-M is applied by SES to bind a tenant to a point or to hold it pending. (R454. Operands: the order record.) -/
  | orderAuthorise (o : OrderRec)
  /-- An engine invokes a sign operation on a key slot, checked against the slot's attributes. (R129. Operands: engine half that invokes; point of the session, 255 none; slot; signed content.) -/
  | slotSign (h : EngHalf) (point slot : Nat) (data : List Nat)
  /-- An engine invokes a verify operation on a key slot. (R129. Operands: engine half; point, 255 none; slot; content, then the 64 bytes of the signature.) -/
  | slotVerify (h : EngHalf) (point slot : Nat) (data : List Nat)
  /-- An engine invokes an encrypt operation on a key slot. (R129. Operands: engine half; slot; text.) -/
  | slotEncrypt (h : EngHalf) (slot : Nat) (data : List Nat)
  /-- An engine invokes a decrypt operation on a key slot. (R129. Operands: engine half; slot; ciphertext.) -/
  | slotDecrypt (h : EngHalf) (slot : Nat) (data : List Nat)
  /-- An engine invokes a MAC generate or verify operation on a key slot. (R129. Operands: engine half; slot; content; tag to verify, none to generate.) -/
  | slotMac (h : EngHalf) (slot : Nat) (data : List Nat) (tag : Option Nat)
  /-- An engine invokes a key derivation on a key slot into a transient slot. (R129. Operands: engine half; slot; window key (else token key); tenant.) -/
  | slotDerive (h : EngHalf) (slot : Nat) (window : Bool) (tenant : Nat)
  /-- An engine invokes an ECDH key agreement on a key slot. (R129. Operands: engine half; point, 255 none; slot; peer's point.) -/
  | slotKeyAgreement (h : EngHalf) (point slot : Nat) (peer : List Nat)
  /-- An asymmetric crypto-queue job completes on the VE, releasing a session that stalled on it. (R122.) -/
  | cryptoJobDone
  /-- A continuous TRNG health test fails; DRBG output is withheld and the start-up tests are rerun. (R155. Operands: adaptive proportion test (else repetition count); reruns of the start-up tests that fail before one passes.) -/
  | trngHealthFail (adaptive : Bool) (fails : Nat)
  /-- An engine fetches an asset block, whose hash is checked, with a fallback on failure. (R176. Operands: kind code of 05 Table 5.14; block of the image's range; reads in a row that fail or whose hash differs.) -/
  | assetFetch (kind block fails : Nat)
  /-- An upstream frame from a head is classified, and its sample, status and tunnel blocks are used or discarded. (R215. Operands: head slot; words 0 to LEN - 1 as received; framing good and in time.) -/
  | upstreamFrame (slot : Fin 8) (ws : List W32) (framed : Bool)
  /-- The start of tick k+2 passes without a usable upstream frame for tick k, making a missing sample tick. (R198. Operands: head slot.) -/
  | upstreamDeadline (slot : Fin 8)
  /-- After 160 consecutive usable ticks, SLOW ends at the next cycle boundary with event 0x3012. (R207. Operands: head slot.) -/
  | slowEnd (slot : Fin 8)
  /-- A port stays SLOW for more than 500 cy, so the head is lost. (R215. Operands: head slot.) -/
  | slowTimeout (slot : Fin 8)
  /-- No upstream frame with a good CRC arrives for 256 consecutive ticks, so the head is lost or the port returns to DARK. (R215. Operands: head slot.) -/
  | headSilenceLoss (slot : Fin 8)
  /-- After 16 consecutive ticks without a usable status block, both SSMs withdraw every token of the head. (R218. Operands: head slot.) -/
  | statusMissingWithdraw (slot : Fin 8)
  /-- A head gives no pairing answer within 16 tk, so the port becomes FAILED with event 0x6132. (R207. Operands: head slot.) -/
  | pairingTimeout (slot : Fin 8)
  /-- A head's self-test does not pass within 16 cy of TESTING, so the port fails. (R207. Operands: head slot.) -/
  | headSelfTestTimeout (slot : Fin 8)
  /-- A safety-channel check step of 8 tk, or the silence of 20 tk, ends and is judged by both SSMs. (R208. Operands: head slot.) -/
  | checkStepEnd (slot : Fin 8)
  /-- A head takes a RUN downstream frame, decides permission per point from the tokens and applies its commands. (R202. Operands: head slot; words 0 to LEN - 1 as received; code groups that frame them are good; bit p: the fluxgate injection ending at point p read 7.00 to 13.00 mA.) -/
  | headRunFrame (slot : Fin 8) (ws : List W32) (framed : Bool) (fgPass : Fin 16)
  /-- A head takes a PAIR frame and answers a challenge or verifies the hub's confirm. (R206. Operands: head slot; words as received; framing good; the nonce that the head draws; serial of the hub it is fitted to.) -/
  | headPairFrame (slot : Fin 8) (ws : List W32) (framed : Bool) (nd hub : Nat)
  /-- A head takes a CHECK frame, runs its self-test or evaluates the test tokens with K_LS held off. (R205. Operands: head slot; words as received; framing good; the self-test has ended: verdict and fault bits.) -/
  | headCheckFrame (slot : Fin 8) (ws : List W32) (framed : Bool) (result : Option (Bool × Nat))
  /-- At the 16th consecutive tick start without a valid downstream frame, the head drops every K_LS and sets FAILSAFE. (R219. Operands: head slot.) -/
  | headFailsafe (slot : Fin 8)
  /-- After 256 tick starts without a valid downstream frame, the head returns to UNPAIRED. (R206. Operands: head slot.) -/
  | headUnpairTimeout (slot : Fin 8)
  /-- An open input or a stuck bitstream persists, so the head sets or clears EXC_FAIL for the channel. (R235. Operands: head slot; channel; EXC_FAIL is set (else cleared).) -/
  | headExcDetect (slot : Fin 8) (c : Fin 28) (fail : Bool)
  /-- The head trips a point locally on DC residual current within the times of Table 9.4. (R303. Operands: point; IDC in 0.01 mA.) -/
  | headDcTrip (point : Fin 32) (idc : Nat)
  /-- The head trips a point locally on AC residual current of 30 mA for 250 ms or 150 mA for 25 ms. (R304. Operands: point; IAC in 0.1 mA.) -/
  | headAcTrip (point : Fin 32) (iac : Nat)
  /-- An open or shorted fluxgate winding sets RC_FLAGS bit 3 and the head trips the point. (R305. Operands: point.) -/
  | fluxgateFault (point : Fin 32)
  /-- The head reports a low-side driver fault, trips the point locally and a point lock-out follows. (R299. Operands: point.) -/
  | lowSideDriverFault (point : Fin 32)
  /-- The head ends a continuous lock drive after 1 200 ms. (R349. Operands: point.) -/
  | headLockDriveCap (point : Fin 32)
  /-- At an epoch boundary a halo step begins, placing the free spares on the next channels in MODE 1. (R239. Operands: head slot.) -/
  | haloStep (slot : Fin 8)
  /-- At the end of the first cycle after its window, MET judges a halo step as pass, offset pass, fail or incomplete. (R242. Operands: head slot; parallel slot; the comparison.) -/
  | haloJudge (slot : Fin 8) (x : Fin 2) (c : HaloCmp)
  /-- The hold cycle of a confirmation ends and MET judges it, substituting, charging the spare or repeating. (R244. Operands: head slot; parallel slot; the comparison; every tick of the hold cycle VALID without OVR.) -/
  | haloConfirmHoldEnd (slot : Fin 8) (x : Fin 2) (c : HaloCmp) (clean : Bool)
  /-- After three consecutive re-test passes, the channel returns from substitution at the next boundary. (R246. Operands: head slot; parallel slot.) -/
  | haloReturn (slot : Fin 8) (x : Fin 2)
  /-- MET completes the quantities of a cycle, adds them to the registers and hands the amounts to LED. (R273.) -/
  | meterCycle
  /-- A filtered ESTOP input shows the pressed value, so the SSMs open the rail and set the hub lock-out. (R300. Operands: ESTOP_A and ESTOP_B filtered.) -/
  | estopPressed (a b : Bool)
  /-- The emergency stop reads released, with event 0x1102, and the rail stays open. (R300.) -/
  | estopReleased
  /-- The two ESTOP inputs disagree for more than 10 ms, giving lock-out cause 0x02. (R300.) -/
  | estopDiscrepancy
  /-- The SSMs' opinions or SAFE_EN outputs differ for more than 10 ms, so they open the rail and lock out. (R293. Operands: point on which the opinions differ, none for SAFE_EN.) -/
  | ssmDiscrepancy (point : Option (Fin 32))
  /-- An SSM's clock stops for more than 50 µs, so its SAFE_EN output is forced low. (R291. Operands: SSM-B (else SSM-A).) -/
  | ssmClockStop (isB : Bool)
  /-- SES places a close request, which the SSMs accept only when every closing condition holds. (R295. Operands: point.) -/
  | closeRequest (point : Fin 32)
  /-- The 40-tick fluxgate injection ends and the pre-closure test is judged. (R296. Operands: point.) -/
  | preclosureTestEnd (point : Fin 32)
  /-- The closing mark is reached and both tokens permit, or the request fails. (R297. Operands: point.) -/
  | closingMark (point : Fin 32)
  /-- SES places an open request, which withdraws both tokens from the next cycle boundary. (R298. Operands: point.) -/
  | openRequest (point : Fin 32)
  /-- A contactor reports NO equal to NC for more than 20 ms, so a point lock-out is set. (R301. Operands: point.) -/
  | feedbackDiscrepancy (point : Fin 32)
  /-- Contactor feedback differs from the command for more than 50 ms, so a point lock-out is set. (R301. Operands: point.) -/
  | feedbackAgainstCommand (point : Fin 32)
  /-- Voltage stays on an open-commanded point for two published cycles, so a weld lock-out is set. (R302. Operands: point.) -/
  | weldDetected (point : Fin 32)
  /-- The head has not reported a DC trip by the table time plus 5 ms, so the SSMs withdraw the tokens. (R303. Operands: point.) -/
  | ssmDcBackup (point : Fin 32)
  /-- IAC stays at IAC_TRIP or more for 200 ms, or 5 × IAC_TRIP for 20 ms, so the SSMs withdraw the tokens. (R304. Operands: point.) -/
  | ssmAcTrip (point : Fin 32)
  /-- Three PWM periods show no diode, so the point is stopped. (R306. Operands: point.) -/
  | cpMissingDiode (point : Fin 32)
  /-- Three PWM periods show CP_HI near zero, so the point is stopped. (R306. Operands: point.) -/
  | cpShortToPe (point : Fin 32)
  /-- PP reads open, short or out of band for more than 3 ms while closed, so the point is stopped. (R307. Operands: point.) -/
  | proximityFault (point : Fin 32)
  /-- LOCK_FB stops reporting locked for more than 3 ms on a closed socket point, so the point is stopped. (R308. Operands: point.) -/
  | lockFeedbackLost (point : Fin 32)
  /-- UNPE exceeds NPE_MAX in two consecutive snapshots, giving a HEAD reaction. (R309. Operands: head slot.) -/
  | npeOvervoltage (slot : Fin 8)
  /-- UNPE stays at or below NPE_MAX − 5 V for 250 cy and the over-voltage clears. (R309. Operands: head slot.) -/
  | npeCleared (slot : Fin 8)
  /-- The point temperature reaches T2 in two consecutive cycles, so the point is stopped. (R311. Operands: point.) -/
  | t2Stop (point : Fin 32)
  /-- The point temperature stays below T2 − 5 °C for 3 000 cy and the stop clears. (R311. Operands: point.) -/
  | t2Cleared (point : Fin 32)
  /-- A fitted PT1000 input reports 0x8000 for more than 8 tk, so the point is stopped. (R311. Operands: point; input 2p + 1 (else 2p).) -/
  | ptExcitationFault (point : Fin 32) (second : Bool)
  /-- A faulted PT1000 input reports valid values for 160 tk and the stop clears. (R311. Operands: point.) -/
  | ptExcitationClear (point : Fin 32)
  /-- A rising edge on RST_REQ starts a reset pulse measurement in each SSM. (R314.) -/
  | rstReqRise
  /-- A falling edge on RST_REQ ends the pulse, which both SSMs accept or refuse. (R314. Operands: pulse length in microseconds as SSM-A and SSM-B measured it.) -/
  | rstReqFall (usA usB : Nat)
  /-- At the boundary after an accepted pulse, the SSMs clear every lock-out whose condition is absent and re-arm. (R315. Operands: readings SAFE_MON_A, SAFE_MON_B of the four steps of the re-arming rail test.) -/
  | lockoutReset (mons : List (Bool × Bool))
  /-- At the first idle boundary after 00:00 UTC the SSMs run the four-step rail test. (R322. Operands: readings SAFE_MON_A, SAFE_MON_B of the four steps.) -/
  | railTest (mons : List (Bool × Bool))
  /-- No rail test has passed for 168 h, so close requests are refused with event 0x1206. (R322.) -/
  | railTestOverdue
  /-- A SAFE_MON input contradicts its commanded node for more than 5 ms, so the rail opens with a hub lock-out. (R331. Operands: SAFE_MON_A and SAFE_MON_B as read.) -/
  | safeMonFault (monA monB : Bool)
  /-- Three consecutive reported periods fall in a new control-pilot band and the point's state machine acts. (R342. Operands: point.) -/
  | cpStateChange (point : Fin 32)
  /-- VCP supplies stay out of range for 10 cycles, putting every point of the head in generator fault. (R344. Operands: head slot.) -/
  | generatorFault (slot : Fin 8)
  /-- VCP supplies stay in range for 160 cycles and the generator fault ends. (R344. Operands: head slot.) -/
  | generatorFaultClear (slot : Fin 8)
  /-- PP stays in a code band for more than 3 ms and the cable code is adopted. (R348. Operands: point.) -/
  | cableCodeAdopt (point : Fin 32)
  /-- PP stays outside every band for more than 3 ms and the cable code becomes invalid. (R348. Operands: point.) -/
  | cableCodeInvalid (point : Fin 32)
  /-- LOCK_FB reports the drive's target, so SES brakes the motor for 2 cy and releases it. (R349. Operands: point.) -/
  | lockTargetReached (point : Fin 32)
  /-- The lock target is not reported within LOCK_T, so the drive stops and has timed out. (R349. Operands: point.) -/
  | lockDriveTimeout (point : Fin 32)
  /-- The retry wait after a timed-out drive ends and the hub drives again, or declares a lock fault. (R350. Operands: point.) -/
  | lockRetry (point : Fin 32)
  /-- LOCK_FB reports unlocked in 50 consecutive cycles and the lock fault clears. (R364. Operands: point.) -/
  | lockFaultClear (point : Fin 32)
  /-- An out-of-service point whose return conditions hold becomes AVAILABLE with event 0x4101. (R356. Operands: point.) -/
  | pointReturnToService (point : Fin 32)
  /-- The ceiling stays below 6.0 A for more than 6 s while charging, so the point requests open and goes to PAUSED. (R355. Operands: point.) -/
  | ceilingPause (point : Fin 32)
  /-- The head takes a TX_MPDU message and transmits it on the pilot with channel access and retransmission. (R373. Operands: point; descriptor; MPDU bytes; over 2 624 bytes or broken off by a new SOM.) -/
  | headTxMpdu (point : Fin 32) (desc : Nat) (body : List (BitVec 8)) (long : Bool)
  /-- The head loads the gain codes and trim of a TX_FILTER message. (R371. Operands: point; descriptor; gain codes.) -/
  | headTxFilter (point : Fin 32) (desc : Nat) (codes : List Nat)
  /-- The head sets or clears the point's logical network from a NET message. (R373. Operands: point; descriptor.) -/
  | headNetSet (point : Fin 32) (desc : Nat)
  /-- An RX_CONTROL SWAP starts the spare pipe shadowing a point. (R384. Operands: point.) -/
  | headPipeSwap (point : Fin 32)
  /-- An RX_CONTROL RETURN starts the home pipe shadowing its point again. (R384. Operands: point.) -/
  | headPipeReturn (point : Fin 32)
  /-- An RX_CONTROL TEST feeds a free pipe from the internal generator. (R385. Operands: point whose tunnel carries it; pipe.) -/
  | headPipeTest (point : Fin 32) (pipe : Fin 5)
  /-- After the shadow period, the head hands the point to the new pipe at the first idle instant. (R384. Operands: head slot.) -/
  | headPipeHandover (slot : Fin 8)
  /-- A pipe test ends and the head sends a PIPE_TEST report. (R385. Operands: head slot; frames decoded; level in 0.1 dB below the reference; tick.) -/
  | headPipeTestDone (slot : Fin 8) (frames : Fin 33) (level tick : Nat)
  /-- The head decodes an MPDU from the vehicle and forwards, acknowledges or drops it. (R373. Operands: point; tick of the preamble; level in dB; mode; broadcast; SNID and DTEI; bytes; frame control and every PB pass.) -/
  | headMpduReceived (point : Fin 32) (tick level mode : Nat) (bcast : Bool) (snid tei : Nat) (body : List (BitVec 8)) (good : Bool)
  /-- A transmission ends after SACK or retries, and the head queues a TX_REPORT. (R373. Operands: point; start of the last attempt; attempts made less one; 0 acknowledged, 1 broadcast sent, 2 negative SACK, 3 no SACK.) -/
  | headTxComplete (point : Fin 32) (tick : Nat) (attempts : Fin 8) (result : Fin 4)
  /-- SES takes an RX_MPDU message from the tunnel. (R376. Operands: point; descriptor; bytes.) -/
  | rxMpdu (point : Fin 32) (desc : Nat) (body : List (BitVec 8))
  /-- SES takes a SOUND report of attenuation per group for a sound MPDU. (R390. Operands: point; RX_TICK; attenuation of groups 0 to 57 in dB.) -/
  | soundReport (point : Fin 32) (tick : Nat) (atten : List Nat)
  /-- The hub takes a PIPE_TEST report and moves the pipe's state. (R386. Operands: head slot; descriptor.) -/
  | pipeTestReport (slot : Fin 8) (desc : Nat)
  /-- SES takes a TX_REPORT, frees the transmit count and handles the result. (R380. Operands: point; descriptor.) -/
  | txReport (point : Fin 32) (desc : Nat)
  /-- Every 2 cy SES sends the CCo beacon of each HLC point at its scheduled tick. (R374. Operands: point.) -/
  | hpgpBeacon (point : Fin 32)
  /-- At a boundary that is a multiple of 256, the pipe rotation begins the next step. (R383. Operands: head slot.) -/
  | pipeStep (slot : Fin 8)
  /-- Every 1 024 cy a retired pipe is re-tested. (R386. Operands: head slot; pipe.) -/
  | pipeRetest (slot : Fin 8) (pipe : Fin 5)
  /-- SES answers CM_SLAC_PARM.REQ and keeps the RunID and the vehicle MAC. (R389. Operands: point; RunID; vehicle MAC; SECURITY_TYPE.) -/
  | cmSlacParmReq (point : Fin 32) (runId mac secType : Nat)
  /-- SES takes CM_START_ATTEN_CHAR.IND and opens the sound window. (R389. Operands: point; RunID.) -/
  | cmStartAttenCharInd (point : Fin 32) (runId : Nat)
  /-- The 10th sound or 600 ms ends sounding, and SES sends CM_ATTEN_CHAR.IND. (R389. Operands: point.) -/
  | slacSoundWindowEnd (point : Fin 32)
  /-- SES takes CM_ATTEN_CHAR.RSP and waits for the match request. (R389. Operands: point; RunID; result.) -/
  | cmAttenCharRsp (point : Fin 32) (runId result : Nat)
  /-- 200 ms pass without CM_ATTEN_CHAR.RSP, so SES resends or counts a failure after the third send. (R388. Operands: point.) -/
  | cmAttenCharResend (point : Fin 32)
  /-- SES draws NMK and NEK, sets the network and answers CM_SLAC_MATCH.CNF. (R389. Operands: point; RunID; SECURITY_TYPE.) -/
  | cmSlacMatchReq (point : Fin 32) (runId secType : Nat)
  /-- SES answers CM_VALIDATE.REQ with the result not required. (R389. Operands: point.) -/
  | cmValidateReq (point : Fin 32)
  /-- The vehicle's station associates and obtains the NEK, so the data link is ready. (R389. Operands: point; TEI of the station; milliseconds since CM_SLAC_PARM.REQ.) -/
  | slacJoin (point : Fin 32) (tei ms : Nat)
  /-- The station leaves the logical network and the network is cleared. (R389. Operands: point.) -/
  | ccLeave (point : Fin 32)
  /-- 40 s pass without CM_SLAC_PARM.REQ, so the point falls back to basic charging. (R388. Operands: point.) -/
  | slacInitTimeout (point : Fin 32)
  /-- No CM_START_ATTEN_CHAR.IND arrives within 1 s of the CNF, counting a failure. (R389. Operands: point.) -/
  | slacNoSoundingTimeout (point : Fin 32)
  /-- 10 s pass without CM_SLAC_MATCH.REQ, counting a failure. (R388. Operands: point.) -/
  | slacMatchTimeout (point : Fin 32)
  /-- 12 s pass without the vehicle joining, counting a failure and clearing the network. (R388. Operands: point.) -/
  | slacJoinTimeout (point : Fin 32)
  /-- No MPDU from the matched station for 15 s, so the network is left. (R389. Operands: point.) -/
  | slacLinkSilence (point : Fin 32)
  /-- SES answers an SDP request, or defers it when 8 handshakes run. (R407. Operands: point; the vehicle requests TLS; transport TCP; the request is malformed.) -/
  | sdpRequest (point : Fin 32) (wantTls tcp malformed : Bool)
  /-- SES accepts or refuses a TCP connection from the vehicle. (R408. Operands: point; TCP port of the SYN.) -/
  | tcpConnect (point : Fin 32) (port : Nat)
  /-- The TCP connection drops and the session ends with reason 16. (R415. Operands: point.) -/
  | tcpConnectionLost (point : Fin 32)
  /-- SES takes a ClientHello and sends its server flight or a HelloRetryRequest. (R410. Operands: point; versions offered; the suite, group and scheme of the version taken are offered; a secp521r1 key share is present; first acceptable scheme, 2 P-521, 3 Ed448; block of the chain bundle that is faulty.) -/
  | tlsClientHello (point : Fin 32) (has12 has13 fits share : Bool) (scheme : Nat) (badAsset : Option Nat)
  /-- SES takes a TLS 1.2 ClientKeyExchange and computes the shared secret. (R409. Operands: point; the vehicle's ephemeral point.) -/
  | tlsClientKeyExchange (point : Fin 32) (peer : List Nat)
  /-- SES takes the vehicle certificate and CertificateVerify and checks the chain. (R410. Operands: point; the vehicle's chain, none for an empty Certificate; CertificateVerify verifies.) -/
  | tlsClientCertificate (point : Fin 32) (chain : Option Chain) (proof : Bool)
  /-- SES verifies the client Finished, frees the admission slot and moves to APP. (R413. Operands: point; Finished verifies.) -/
  | tlsClientFinished (point : Fin 32) (ok : Bool)
  /-- SES selects the protocol of highest vehicle priority, or withdraws HLC. (R411. Operands: point; entries of the vehicle: priority, 1 highest, and protocol code 1 to 3, others unknown; response time in ms.) -/
  | supportedAppProtocolReq (point : Fin 32) (entries : List (Nat × Nat)) (ms : Nat)
  /-- SES answers the session setup with the session identifier. (R412. Operands: point; response time in ms.) -/
  | sessionSetupReq (point : Fin 32) (ms : Nat)
  /-- SES answers service and payment selection, ending the session for a service not offered. (R402. Operands: point; SessionID; service, 1 AC, 2 AC_BPT, others not offered; control mode, 1 scheduled, 2 dynamic; PnC (else EIM); response time in ms.) -/
  | serviceSelectionReq (point : Fin 32) (sid service mode : Nat) (contract : Bool) (ms : Nat)
  /-- SES checks the contract certificate chain and maps the eMAID to a tenant. (R416. Operands: point; SessionID; contract chain; response time in ms.) -/
  | paymentDetailsReq (point : Fin 32) (sid : Nat) (chain : Chain) (ms : Nat)
  /-- SES answers an AuthorizationReq Ongoing or Finished and places the PnC binding notice. (R418. Operands: point; SessionID; contract chain of a -20 request; the request signature verifies; response time in ms.) -/
  | authorizationReq (point : Fin 32) (sid : Nat) (chain : Option Chain) (sigOk : Bool) (ms : Nat)
  /-- SES answers the charge parameter exchange with the ceiling and schedule. (R423. Operands: point; SessionID; EVMaxCurrent in 0.1 A; EVMaximumChargePower and EVMaximumDischargePower in W; response time in ms.) -/
  | chargeParameterReq (point : Fin 32) (sid maxI maxP maxDis ms : Nat)
  /-- SES answers a charge-loop request with the current ceiling and, under -2, meter information. (R423. Operands: point; SessionID; EVMaximumChargePower and EVMaximumDischargePower in W; response time in ms.) -/
  | chargeLoopReq (point : Fin 32) (sid maxP maxDis ms : Nat)
  /-- SES verifies a metering receipt signature, ending the session on failure. (R427. Operands: point; SessionID; the signature verifies; response time in ms.) -/
  | meteringReceiptReq (point : Fin 32) (sid : Nat) (sigOk : Bool) (ms : Nat)
  /-- The vehicle requests stop or pause and the session ends with reason 2. (R415. Operands: point; SessionID; pause asked for (else Terminate); response time in ms.) -/
  | sessionStopReq (point : Fin 32) (sid : Nat) (pause : Bool) (ms : Nat)
  /-- SES answers certificate installation or update with FAILED. (R402. Operands: point; SessionID; response time in ms.) -/
  | certificateInstallationReq (point : Fin 32) (sid ms : Nat)
  /-- No connection is established within 5 s of the SDP response, counting a strike. (R413. Operands: point.) -/
  | connectTimeout (point : Fin 32)
  /-- A handshake does not complete within 5 s, counting a strike and freeing the slot. (R413. Operands: point.) -/
  | handshakeTimeout (point : Fin 32)
  /-- No valid request arrives for 60 s after CONNECT and the session ends with reason 15. (R415. Operands: point.) -/
  | sequenceTimeout (point : Fin 32)
  /-- No binding appears within EIM_WAIT of the first AuthorizationReq, so SES answers FAILED. (R418. Operands: point.) -/
  | eimWaitExpiry (point : Fin 32)
  /-- After the grace, Irms exceeds the ceiling limit in 250 consecutive cycles, so the session ends with reason 14. (R437. Operands: point; phase.) -/
  | overdraw (point : Fin 32) (phase : Fin 3)
  /-- SES verifies a token message from the mailbox and binds, holds pending or refuses it. (R450.) -/
  | tokenMessage
  /-- RDO takes a window request and assigns the tenant's window. (R549.) -/
  | windowRequest
  /-- A pending authorisation passes its EXPIRY or VALID_COUNT and lapses with event 0x4404. (R452. Operands: point.) -/
  | pendingLapse (point : Fin 32)
  /-- A new tariff code read for four consecutive cycles becomes active at the next boundary. (R470.) -/
  | tariffSwitch
  /-- Tariff inputs stay unstable for 50 consecutive cycles and event 0x5002 is written. (R494.) -/
  | tariffUnstable
  /-- LED writes the commits tied to a boundary as merged ledger transactions. (R478.) -/
  | ledgerCommit
  /-- At the first boundary at or after the close instant LED flips the banks and opens the new period. (R486.) -/
  | periodClose
  /-- At the snapshot instant LED stores the period totals in the ring of 24. (R487.) -/
  | monthlySnapshot
  /-- At the first boundary after the last statement of a close is sealed, uncarried slots are freed and the spare bank zeroed. (R488.) -/
  | statementsSealed
  /-- The hub acknowledges SND_NKE, resets FCB, clears selection and drops the latch. (R522. Operands: A field.) -/
  | sndNke (addr : Fin 256)
  /-- A READ_PAGE command snapshots a page into the latch, or reports a part or grant error. (R525. Operands: A field; security of the frame; page and first part.) -/
  | sndUdReadPage (addr : Fin 256) (f : MbFrame) (page part : Nat)
  /-- A READ_RECORD command composes a Favesel record into the latch. (R525. Operands: A field; security of the frame; record number and first part.) -/
  | sndUdReadRecord (addr : Fin 256) (f : MbFrame) (no part : Nat)
  /-- An ORDER_CHUNK command adds a chunk to the order being assembled. (R526. Operands: A field; security of the frame; TAG, PART, CHUNKS and data bytes.) -/
  | sndUdOrderChunk (addr : Fin 256) (f : MbFrame) (tag chunk chunks : Nat) (data : List Nat)
  /-- A STANDARD command returns later responses to the standard data records. (R524. Operands: A field; security of the frame.) -/
  | sndUdStandard (addr : Fin 256) (f : MbFrame)
  /-- A SND_UD with CI 0x52 to address 253 selects the hub by secondary address. (R522. Operands: fields of the secondary address.) -/
  | sndUdSelect (ident man version medium : Nat)
  /-- An application reset drops the latch and returns to standard records. (R522. Operands: A field.) -/
  | sndUdAppReset (addr : Fin 256)
  /-- A baud-rate change is acknowledged at the old rate and then applied. (R521. Operands: A field; CI.) -/
  | sndUdBaud (addr : Fin 256) (ci : Fin 256)
  /-- A primary-address write is acknowledged, changes nothing and writes event 0x3043. (R522. Operands: A field; address requested.) -/
  | sndUdPrimaryWrite (addr : Fin 256) (new : Nat)
  /-- The hub answers REQ_UD2 with RSP_UD carrying standard records or the next part. (R525. Operands: A field; FCV; FCB.) -/
  | reqUd2 (addr : Fin 256) (fcv fcb : Bool)
  /-- The hub answers REQ_UD1 with E5 and no class 1 data. (R522. Operands: A field.) -/
  | reqUd1 (addr : Fin 256)
  /-- Any other M-Bus request or CI gets no reply. (R522. Operands: A field.) -/
  | mbusUnsupported (addr : Fin 256)
  /-- 600 s pass without a valid frame at the new rate and the hub returns to BAUD. (R521.) -/
  | baudRevert
  /-- The M-Bus latch drops its item 30 s after it was filled. (R525.) -/
  | mbusLatchExpiry
  /-- 120 s pass after the last chunk, so the order assembly is discarded. (R526.) -/
  | orderAssemblyTimeout
  /-- The tag answers an Inventory request with its UID. (R533. Operands: mask length and value; AFI asked for.) -/
  | tagInventory (maskLen mask : Nat) (afi : Option Nat)
  /-- The tag takes a Stay Quiet command. (R532. Operands: addressing of the request.) -/
  | stayQuiet (q : TagReq)
  /-- The tag takes a Select command. (R532. Operands: UID; option flag.) -/
  | tagSelect (uid : Nat) (opt : Bool)
  /-- The tag takes a Reset to Ready command. (R532. Operands: addressing of the request.) -/
  | resetToReady (q : TagReq)
  /-- The tag returns one block of 0–255. (R535. Operands: addressing; block.) -/
  | readSingleBlock (q : TagReq) (b : Fin 256)
  /-- The tag returns 1–32 consecutive blocks, or error 0x0F for more. (R552. Operands: addressing; first block; number of blocks.) -/
  | readMultipleBlocks (q : TagReq) (b : Fin 256) (n : Nat)
  /-- The tag stores a field write to a field-owned block, or refuses it with error 0x12. (R534. Operands: addressing; block; eight bytes.) -/
  | writeSingleBlock (q : TagReq) (b : Fin 256) (data : Nat)
  /-- The tag returns one block of 0–1 023. (R534. Operands: addressing; block.) -/
  | extendedReadSingle (q : TagReq) (b : Fin 1024)
  /-- The tag takes an extended single-block write under the ownership rules. (R534. Operands: addressing; block; eight bytes.) -/
  | extendedWriteSingle (q : TagReq) (b : Fin 1024) (data : Nat)
  /-- The tag returns 1–32 blocks by extended address. (R552. Operands: addressing; first block; number of blocks.) -/
  | extendedReadMultiple (q : TagReq) (b : Fin 1024) (n : Nat)
  /-- The tag reports DSFID, AFI and IC reference. (R533. Operands: addressing.) -/
  | getSystemInformation (q : TagReq)
  /-- The tag reports its system information with 1 024 blocks of 8 bytes. (R533. Operands: addressing.) -/
  | extendedGetSystemInfo (q : TagReq)
  /-- The tag reports block security status, 0x00 for field-owned blocks and 0x01 for all others. (R534. Operands: addressing; first block; number of blocks.) -/
  | getBlockSecurityStatus (q : TagReq) (b : Fin 256) (n : Nat)
  /-- The tag reports block security status by extended address. (R534. Operands: addressing; first block; number of blocks.) -/
  | extendedGetSecurityStatus (q : TagReq) (b : Fin 1024) (n : Nat)
  /-- An unsupported command gets error 0x01 when addressed or selected, and silence otherwise. (R532. Operands: addressing.) -/
  | tagUnsupportedCommand (q : TagReq)
  /-- RDO takes up to 4 doorbelled cells per cycle and dispatches or refuses each. (R550.) -/
  | mailboxTake
  /-- The 50 ms latch of a frame ends. (R545. Operands: frame.) -/
  | frameLatchExpiry (frame : Fin 12)
  /-- RDO writes a window's new content into a shadow frame. (R544. Operands: window; offset in the frame of a block whose program fails twice, none if all verify.) -/
  | windowPublish (w : Fin 8) (failBlock : Option Nat)
  /-- Once the field has been idle for 20 ms and the old frame is unlatched, the directory entry flips to the new frame. (R544. Operands: window; the field has sent no request for 20 ms or is absent; the program of the entry fails twice.) -/
  | windowFlip (w : Fin 8) (idle fail : Bool)
  /-- A flip has been pending for 500 cy and event 0x3063 is written once. (R552. Operands: window.) -/
  | flipPendingTimeout (w : Fin 8)
  /-- RDO rewrites a changed public block, at most once per 50 cy. (R539. Operands: public block; its program fails twice.) -/
  | publicAreaUpdate (b : Fin 64) (fail : Bool)
  /-- The PHY sends a frame on the coupler named by LNK. (R564. Operands: samples of the frame in which the driver limited its current.) -/
  | phyTransmit (limited : Nat)
  /-- The PHY detects a preamble, validates the frame control and passes the frame to LNK. (R582. Operands: 64 field bits of the frame control; its CRC is good; the frame has been received whole (else only its frame control); CRC result of each block; received level per carrier in 0.5 dB.) -/
  | phyFrameReceived (fc : Nat) (crcOk whole : Bool) (blocks : List Bool) (level : List Int)
  /-- The PHY updates the noise table of a slot from its usable noise windows. (R585. Operands: noise slot; mean power of its usable windows per carrier 74 to 490 in 0.5 dB, empty if none was usable.) -/
  | noiseSlot (noiseSlot : Fin 6) (mean : List Int)
  /-- The PHY loads a tone map, or refuses it with event 0x3086. (R590. Operands: the eleven words; the map serves sending (else receiving).) -/
  | toneMapLoad (words : List W128) (sending : Bool)
  /-- A CPL_SEL readback differs from the driven level for more than 5 µs, taking the coupler out of use. (R565. Operands: coupler, 0 for CPL_SEL1; level driven; level read.) -/
  | couplerFault (c : Fin 3) (driven level : Bool)
  /-- VLD leaves its range for more than 1 ms and the driver is kept off. (R597. Operands: VLD in mV.) -/
  | vldOutOfRange (mv : Nat)
  /-- VLD stays in range for 100 ms and transmission resumes. (R597.) -/
  | vldRecovery
  /-- The line driver shuts down thermally and the frame in progress is abandoned. (R597.) -/
  | driverThermalShutdown
  /-- The coordinator sends a beacon in slot 0 of each superframe. (R614.) -/
  | beaconSend
  /-- A relay sends its beacon copy at the stamp of the received copy plus 5 461 pu. (R607. Operands: the copy received.) -/
  | beaconRelay (f : AcFrame)
  /-- LNK takes a valid beacon copy, updating phase, count, link state and handover. (R614. Operands: the copy; relays it has passed.) -/
  | beaconRx (f : AcFrame) (hop : Nat)
  /-- A capable hub hears no beacon for its wait and becomes coordinator. (R615.) -/
  | coordinatorTakeover
  /-- At the handover epoch the claimant starts beaconing and the old coordinator stops. (R616.) -/
  | coordinationHandover
  /-- No beacon is heard for 3 epochs, so the hub returns to LISTEN as an island. (R618.) -/
  | islandEntry
  /-- The parent's share frame is missing in 2 consecutive epochs and a parent is chosen again. (R618.) -/
  | parentLost
  /-- The hub sends its share frame in its share slot of the epoch. (R619.) -/
  | shareFrameSend
  /-- LNK takes a share frame, keeping its demand record and neighbour data. (R619. Operands: the frame.) -/
  | shareFrameRx (f : AcFrame)
  /-- A receiver takes TM_REQ, computes its tone maps and answers with TM_OFFER. (R624. Operands: the frame.) -/
  | tmReq (f : AcFrame)
  /-- A sender takes TM_OFFER, loads the maps and answers with TM_ACK. (R624. Operands: the frame.) -/
  | tmOffer (f : AcFrame)
  /-- A receiver takes TM_ACK and commits the maps with its acknowledgement. (R625. Operands: the frame; link slot of its acknowledgement.) -/
  | tmAck (f : AcFrame) (q : Fin 48)
  /-- 2 048 cy since the last commit, or block errors, trigger a new tone-map request. (R626. Operands: neighbour; it has received fewer than 16 frames from this hub in the last 256 cy.) -/
  | toneMapRefresh (node : Nat) (few : Bool)
  /-- A backoff runs out on an idle medium and the pending frame is sent. (R627. Operands: own slot; units of 64 µs for which the medium is idle in it.) -/
  | contentionAccess (j : Fin 12) (units : Nat)
  /-- LNK takes an acknowledgement and completes or retries the frame. (R628. Operands: sender; FSEQ and STATUS of the acknowledgement; link slot.) -/
  | acradAckRx (node fseq status : Nat) (q : Fin 48)
  /-- A unicast frame gets no acknowledgement and is sent again, or counted failed. (R628. Operands: neighbour; FSEQ.) -/
  | acradAckTimeout (node fseq : Nat)
  /-- A message's fragments are not all received within 250 cy, so it is dropped. (R629. Operands: ORIG; MSG_ID.) -/
  | reassemblyTimeout (orig msgId : Nat)
  /-- A hub takes a COLLECT message with demand records from its subtree. (R632. Operands: the frame.) -/
  | collectMsg (f : AcFrame)
  /-- The coordinator closes the bundle of epoch e at link boundary 64(e+1)+32. (R632.) -/
  | bundleClose
  /-- The coordinator sends a bundle segment in link slot 22 of its superframe. (R633. Operands: segment.) -/
  | bundleSegmentSend (g : Fin 3)
  /-- A hub takes a bundle segment, relays it at its depth and holds the bundle when complete. (R633. Operands: the frame.) -/
  | bundleSeg (f : AcFrame)
  /-- LNK takes an ORDER message, routes it or places it in the ORDER inlet. (R634. Operands: the frame.) -/
  | orderMsg (f : AcFrame)
  /-- The originating hub takes ORDER_STATUS and reports it as the order status. (R634. Operands: the frame.) -/
  | orderStatus (f : AcFrame)
  /-- A hub serves a READ_REQ from another node under its grants. (R635. Operands: the frame.) -/
  | readReq (f : AcFrame)
  /-- A proxy hub takes Y's READ_RSP and answers the M-Bus collector with it. (R635. Operands: the frame.) -/
  | readRsp (f : AcFrame)
  /-- No READ_RSP arrives within 20 s of a proxied command, so the hub answers with RESULT 6. (R635.) -/
  | proxyReadTimeout
  /-- LLIM reads a new level for four cycles and becomes active or inactive at the next boundary. (R654.) -/
  | llimChange
  /-- DSP commits the queue head once a region is free and it overlaps no running region. (R685. Operands: commit word written at or after the start of the last active line; the fetched table is malformed.) -/
  | displayCommit (late malformed : Bool)
  /-- SEN returns the thermistor reading and DSP chooses the waveform band. (R670. Operands: resistance in ohm.) -/
  | thermistorResult (r : Nat)
  /-- A panel frame ends, latching sampled commits and advancing the running regions. (R678.) -/
  | panelFrame
  /-- EPD_PWR_GOOD reads high, so VCOM is set and scanning begins. (R668.) -/
  | epdPowerGood
  /-- EPD_PWR_GOOD does not rise within PWR_TIMEOUT, so regions are abandoned. (R688.) -/
  | epdPowerTimeout
  /-- EPD_PWR_GOOD falls while the rails are on, so regions are abandoned. (R688.) -/
  | epdPowerLost
  /-- FULL_INT hours pass, so the whole panel is committed under MODE_FULL. (R685. Operands: resistance in ohm; as DISPLAY_COMMIT.) -/
  | fullRefresh (r : Nat) (late malformed : Bool)
  /-- A postponed update or a power-fault retry is attempted again after 3 000 cy. (R686.) -/
  | displayRetry
  /-- SEN raises the mains-loss signal and the hub runs outage steps 1 to 4. (R706. Operands: which conditions raise the signal, and when steps 1 to 4 are done.) -/
  | mainsLoss (pwrFail ms : Bool) (t : OutTimes)
  /-- The outage journal step completes, and SEN restarts the hub or proceeds to last light. (R708. Operands: the signal has fallen.) -/
  | outageJournalDone (fallen : Bool)
  /-- The last light completes, the panel powers down and SEN enters DORMANT. (R694.) -/
  | lastLightDone
  /-- STORE_Q reaches 2.20 V, so SEN cold-starts and resumes the RTC from the tag. (R697.) -/
  | sentinelColdStart
  /-- The sentinel rail falls below 1.90 V, so every sentinel function stops and SEN is COLD. (R696.) -/
  | sentinelRailLoss
  /-- SEN measures STORE_D and recomputes the stored energy and the level. (R703. Operands: oscillator periods since the last report; STORE_D and STORE_Q in mV; surplus field energy arrives.) -/
  | gaugeSample (adv vStore vQuick : Nat) (field : Bool)
  /-- The cell voltage stays below 2.60 V for 1 s and CELL_LOW is set. (R701.) -/
  | cellLow
  /-- Every 16 s the PV input's open-circuit voltage is measured and the operating point set. (R700. Operands: open-circuit voltage of PV_IN in mV.) -/
  | mpptSample (openMv : Nat)
  /-- SEN samples the cover inputs and counts an opening after two open samples. (R721. Operands: oscillator periods since the last report; COVER_SW and TERM_SW read closed.) -/
  | tamperSample (adv : Nat) (cover term : Bool)
  /-- Every 3 600 s of RTC, SEN rewrites the gauge and outage tag area. (R540. Operands: oscillator periods since the last report.) -/
  | gaugeTagUpdate (adv : Nat)
  /-- The 32.768 kHz oscillator shows no edge for more than 2 ms, so RTC_VALID clears. (R728.) -/
  | rtcOscStop
  /-- The crystal restarts and XTAL_FAULT is cleared. (R728.) -/
  | rtcOscRestart
  /-- A sector erase completes and MARK is programmed, leaving the sector ERASED. (R718.) -/
  | journalEraseDone
  /-- At a multiple of 512 cy a spare lane takes a position and the lane enters its test. (R737. Operands: the results of the dual run differ.) -/
  | laneStep (mismatch : Bool)
  /-- At B+512 the lane under test is judged and, after a pass, returns through a dual run. (R737. Operands: lane judged; a pattern group fails, the first of them; the results of the return dual run differ.) -/
  | laneJudge (lane : Fin 18) (fails : Bool) (group : Nat) (retMismatch : Bool)
  /-- A residue error reruns the job and makes the lane SUSPECT. (R736. Operands: lane.) -/
  | laneResidueError (l : Fin 18)
  /-- A SUSPECT lane is handed off to a spare at the next boundary at which a spare lane is free. (R738. Operands: lane handed off.) -/
  | laneHandoff (lane : Fin 18)
  /-- Every 16 cy each bank moves a row to a spare, March-tests it and copies it back. (R740. Operands: bank; the March test fails.) -/
  | sramRowStep (bank : Fin 32) (fails : Bool)
  /-- A corrected SRAM read is written back and may make the row SUSPECT. (R741. Operands: bank and row read.) -/
  | sramCorrectableError (bank : Fin 32) (row : Nat)
  /-- At the next boundary a SUSPECT row moves to a free spare row. (R741. Operands: bank and row moved.) -/
  | sramRowMove (bank : Fin 32) (row : Nat)
  /-- An uncorrectable SRAM error treats the owning engine as having lost its heartbeat. (R741. Operands: bank and row.) -/
  | sramUncorrectableError (bank : Fin 32) (row : Nat)
  /-- Each epoch boundary begins a block step that copies, tests and restores one MRAM block. (R742. Operands: the pattern test fails.) -/
  | mramBlockStep (fails : Bool)
  /-- A corrected MRAM word is written back and may make the block SUSPECT. (R743. Operands: block read.) -/
  | mramCorrectableError (blk : Nat)
  /-- At the next epoch boundary a SUSPECT block moves to a free spare. (R743. Operands: block moved.) -/
  | mramBlockMove (blk : Nat)
  /-- An uncorrectable MRAM word reads as a CRC failure of the structure that holds it. (R743. Operands: word address and the structure it belongs to.) -/
  | mramUncorrectableError (addr : Nat) (w : MramStruct)
  /-- The event unit accepts an event, gives it an ESEQ and writes it into the ring. (R745. Operands: event code, source code, point field and argument.) -/
  | eventRaised (code source point arg : Nat)
  /-- VDD33 or VCORE falls below its reset threshold without mains loss, so the hub resets at once. (R789.) -/
  | supplyBrownout
  /-- The 25 MHz oscillator stops for more than 50 µs, so SAFE_EN goes low and the hub holds in reset. (R790.) -/
  | xtal25Stop
  /-- A head's supply falls below its reset threshold, so it drops every K_LS and goes silent. (R791. Operands: head slot.) -/
  | headSupplyLoss (slot : Fin 8)
  /-- The TCP retransmission timeout of a vehicle connection expires and SES retransmits, dropping the connection after the fifth retransmission. (R408. Operands: point.) -/
  | tcpRetransmissionTimeout (point : Fin 32)
  /-- A TLS alert received from the vehicle closes the connection, writes event 0x4304 and counts a strike. (R436. Operands: point; alert received.) -/
  | tlsAlert (point : Fin 32) (alert : Nat)
  /-- A V2GTP frame with a bad header, an unknown payload type, an oversize payload or undecodable EXI closes the connection with event 0x4307 and a strike. (R436. Operands: point; 1 V2GTP, 2 EXI, 3 pipelined request.) -/
  | v2gtpProtocolError (point : Fin 32) (kind : Nat)
  /-- SES answers an IPv6 neighbour solicitation from the vehicle on the point's logical network. (R406. Operands: point; target address.) -/
  | neighbourSolicitation (point : Fin 32) (target : List Nat)
  /-- An M-Bus frame with parity or framing errors is discarded and the first error of a run writes event 0x3042. (R529.) -/
  | mbusFrameError
  /-- The line driver's junction cools to 130 °C and the driver may transmit again after a thermal shutdown. (R562.) -/
  | driverThermalRestart
  /-- VSENT becomes present or absent, changing the sentinel rail source, harvest charging and the connection of the cell. (R701. Operands: VSENT present.) -/
  | vsentChange (present : Bool)
  /-- During an outage VDD33 falls below its reset threshold, so outage steps not yet begun are lost and later events go to the sentinel buffer. (R712.) -/
  | supplyFallInOutage
  /-- A head's nRESET is held low, so the head drops every output to its reset state, stops sending frames and clears its fault counters. (R792. Operands: head slot; nRESET held, or released again.) -/
  | headReset (slot : Fin 8) (held : Bool)
  deriving DecidableEq, Repr

end Sys2Proof
end

