-- ==== Sys2Proof/Decode.lean ====
section
/-! DEFINITION. The table of operations and events gives no bits: a command has no word of its own and reaches the block over its pins, ports
and links as its chapter sets out. The decoder of table words therefore refuses every word (log entry 8). -/

namespace Sys2Proof

/-- The command that a word spells by the bits of the table: no row gives bits, so none. -/
def decodeTableWord (_nbits _w : Nat) : Option Instr := none

end Sys2Proof
end

