-- ==== Sys2Proof/Config.lean ====
section
/-! DEFINITION. What the manual leaves open or leaves outside the machine: free values and uninterpreted functions.
None of them has a body, so nothing can be proved of a particular value. -/

namespace Sys2Proof.Config

/-- A free value (log entry 4): the n-th value that the manual leaves open, as a natural number.
DESIGN CHOICE. -/
opaque freeValue : Nat → Nat

/-- SHA-256 of a list of words or bytes (log entry 9). DESIGN CHOICE. -/
opaque sha256 : List Nat → Nat

/-- AES-CMAC under a key (log entry 9). DESIGN CHOICE. -/
opaque cmac : Nat → List Nat → Nat

/-- A key derivation: key, label, context (log entry 9). DESIGN CHOICE. -/
opaque kdf : Nat → List Nat → Nat

/-- AES encryption in the mode of the slot's algorithm (log entry 9). DESIGN CHOICE. -/
opaque encrypt : Nat → Nat → List Nat → List Nat

/-- AES decryption in the mode of the slot's algorithm; none: the tag does not verify (log entry 9). DESIGN CHOICE. -/
opaque decrypt : Nat → Nat → List Nat → Option (List Nat)

/-- ECDSA P-256 signature: private key, signed content, nonce (log entry 9). DESIGN CHOICE. -/
opaque ecdsaSign : Nat → List Nat → Nat → List Nat

/-- ECDSA P-256 verification: public key words, signed content, signature (log entry 9). DESIGN CHOICE. -/
opaque ecdsaVerify : List Nat → List Nat → List Nat → Bool

/-- The public half of a private key, 65 bytes (log entry 9). DESIGN CHOICE. -/
opaque publicHalf : Nat → List Nat

/-- The shared secret of an ECDH (log entry 9). DESIGN CHOICE. -/
opaque ecdh : Nat → List Nat → Nat

/-- The thermistor law of 20 R670: R, R25, BETA to 0.1 degree C (log entry 10). DESIGN CHOICE. -/
opaque thermistor : Nat → Nat → Nat → Int

/-- The ROM strings of 20 R681 by index, as bytes (log entry 11). DESIGN CHOICE. -/
opaque romString : Nat → List Nat

/-- Last light's ROM layout, and the ROM fallback layout, as layout words by purpose (log entry 11). DESIGN CHOICE. -/
opaque romLayout : Nat → List W128

/-- Cosine of an angle in turns, at the internal precision of the VE (08 R262; log entry 18). DESIGN CHOICE. -/
opaque cosTurn : Rat → Rat

/-- Sine of an angle in turns, at the internal precision of the VE (08 R262; log entry 18). DESIGN CHOICE. -/
opaque sinTurn : Rat → Rat

/-- Tap j of the delay stage of 07 R233 for a phase code and a nominal frequency (log entry 18). DESIGN CHOICE. -/
opaque delayTap : Int → Nat → Nat → Rat

/-- The integrator of an air-cored coil, 07 R232: corner code, nominal frequency, base length, state, input; the new state
and the output (log entry 18). DESIGN CHOICE. -/
opaque coilStep : Nat → Nat → Rat → Rat → Rat → Rat × Rat

/-- The MPDUs, as bytes, that carry a message of SLAC, of the CCo or of a session (HomePlug Green PHY, ISO 15118): message code
and fields (log entry 26). DESIGN CHOICE. -/
opaque hpgpFrames : Nat → List Nat → List (List Nat)

/-- Whether a carrier 74 to 1 228 is on under the default tone mask of Green PHY 1.1 (11 R371; log entry 26). DESIGN CHOICE. -/
opaque toneMask : Nat → Bool

/-- The engine, by its ID of 01 Table 1.3, that owns an SRAM bank alone; 0 where no single engine does. The spec gives the engines their own
banks (01 R47, 22 R741) and no list of them (log entry 40). DESIGN CHOICE. -/
opaque bankEngine : Nat → Nat

end Sys2Proof.Config
end

