-- ==== Sys2Proof/Parts/P01.lean ====
section
/-! DEFINITION. Architecture: the engines, the worlds and their gates (spec/01): the part of the state that this chapter gives the machine. -/

namespace Sys2Proof.Machine

/-- One microcoded engine of Table 1.3 (BOOT, MET, LED, SES, LNK, RDO, DSP) or SEN. -/
structure EngSt where
  /-- consecutive cycle boundaries at which no heartbeat of the engine had come (01 R46; 2 bits) -/
  missed : Nat := 0
  /-- boundary numbers (clk.bndTot) at which the engine restarted alone, the last 3 000 cy only (01 R47; list of boundary numbers) -/
  restarts : List Nat := []
  deriving DecidableEq, Repr

/-- The engines and the write gate between the worlds. -/
structure Eng where
  /-- engine with ID k at index k - 1 (01 R21; 8 engines) -/
  sts : Vector EngSt 8 := Vector.replicate 8 {}
  /-- cross-world writes blocked (the model's own count beside event 0x6001) (01 R48; counter) -/
  blockedWrites : Nat := 0
  deriving DecidableEq, Repr

/-- What the metrology-to-communication gates last published, and the two inlets. -/
structure Gates where
  /-- count of the boundary whose snapshot every gate shows (01 R26; 64 bits) -/
  snapCount : Nat := 0
  /-- LEDGER gate: the open bindings as published (01 R26, Table 1.5; list) -/
  ledgerSnap : List BindSnap := []
  /-- LEDGER gate: the tenant block list as published (01 R26, Table 1.5; list of tenants) -/
  blockSnap : List Nat := []
  /-- LEDGER gate: the active tariff as published (01 R26, Table 1.5; 2 bits) -/
  tariffSnap : Nat := 0
  /-- observation pages as the gates published them at the last boundary, by page number, trailing zero words left out (01 R26, R45, 15 R515; 64 words each) -/
  pages : List (Nat × List W128) := []
  /-- ESEQ that the next event took at the snapshot boundary: the event window shows events accepted by then (22 R749, Table 22.5 NEXT_ESEQ; 64 bits) -/
  evMark : Nat := 1
  /-- BIND inlet: notices SES placed and LED has not yet taken, oldest first (01 R29, Table 1.5; queue) -/
  bindInlet : List BindNotice := []
  /-- ORDER inlet: order records received whole and not yet validated, oldest first (01 R27, Table 1.5; queue) -/
  orderInlet : List OrderRec := []
  deriving DecidableEq, Repr

end Sys2Proof.Machine
end

