-- ==== Sys2Proof/Parts/P02.lean ====
section
/-! DEFINITION. Cycle clock (spec/02): the part of the state that this chapter gives the machine. -/

namespace Sys2Proof.Machine

/-- The count checkpoint in MRAM. -/
structure Ckpt where
  /-- count K of the checkpoint (02 R81; 64 bits) -/
  count : Nat := 0
  /-- RTC seconds latched at the checkpoint (02 R81; 64 bits) -/
  rtcS : Nat := 0
  /-- RTC sub-second latched at the checkpoint (02 R81; 15 bits) -/
  rtcSub : Nat := 0
  deriving DecidableEq, Repr

/-- The cycle clock that BOOT runs. -/
structure Clk where
  /-- state of Table 2.1 (02 R56; 4 bits) -/
  state : ClkState := .acquire
  /-- the first boundary of this start has been set (02 R83; 1 bit) -/
  started : Bool := false
  /-- count of the cycle in progress (02 R52, R82; 64 bits) -/
  count : Nat := 0
  /-- tick number of the last tick start (02 R64; 16 bits) -/
  tick : Nat := 0
  /-- tick starts since the first boundary (02 R63; counter) -/
  tickTot : Nat := 0
  /-- boundaries since the first one of this start (every duration in cy counts them) (02 R57, R8; counter) -/
  bndTot : Nat := 0
  /-- count in which the last tick started (02 R65; 64 bits) -/
  lastTickCount : Nat := 0
  /-- phase of the last tick start, rounded down (02 R65; 16 bits) -/
  lastTickPhase : Nat := 0
  /-- base length (02 R54; microseconds, exact) -/
  base : Rat := 20000
  /-- length set for the cycle in progress (02 R54; microseconds, exact) -/
  lenCur : Rat := 20000
  /-- length already set for the next cycle (an early crossing), none = base (02 R54; microseconds, exact) -/
  lenNext : Option Rat := none
  /-- number n of the crossing expected next (02 R53; 64 bits) -/
  expect : Nat := 0
  /-- source input (02 R59, Table 2.5; 2 bits) -/
  src : Source := .none
  /-- nominal frequency in force, Hz (02 R79, 03 R116; 16 bits) -/
  fnom : Nat := 50
  /-- nominal frequency of the last applied CLOCK record (03 R116; 16 bits, MRAM) -/
  fnomMram : Option Nat := none
  /-- phase rotation: true = negative (02 R58; 1 bit, MRAM) -/
  rotNeg : Bool := false
  /-- the rotation has been determined (02 R58; 1 bit, MRAM) -/
  rotKnown : Bool := false
  /-- consecutive L2 or L3 crossings near one offset (02 R58; 0-8) -/
  rotRun : Nat := 0
  /-- rotation that the run in progress points to (02 R58; 1 bit) -/
  rotRunNeg : Bool := false
  /-- MS_L1 present (02 R51; 1 bit) -/
  present1 : Bool := false
  /-- MS_L2 present (02 R51; 1 bit) -/
  present2 : Bool := false
  /-- MS_L3 present (02 R51; 1 bit) -/
  present3 : Bool := false
  /-- consecutive slips (02 R79 SLIPS; 0-3) -/
  slips : Nat := 0
  /-- consecutive good crossings (02 R79 GOOD; 0-8) -/
  good : Nat := 0
  /-- error of the last good crossing (02 R79 ERR; 16 bits signed pu) -/
  err : Int := 0
  /-- consecutive consistent crossings (02 R55; 0-8) -/
  consistent : Nat := 0
  /-- ACQUIRE: intervals of the count in progress, newest first (02 R55, Table 2.1; at most 7, microseconds) -/
  intervals : List Rat := []
  /-- PULL-IN: failures in a row, by crossing number (02 R56; 0-3) -/
  fails : Nat := 0
  /-- PULL-IN: crossing number already judged (consistent outside crossing or failure counted) (02 R56; 64 bits) -/
  failedN : Option Nat := none
  /-- boundary (bndTot) at which HOLDOVER was last entered from LOCKED (02 R56; counter) -/
  holdBnd : Nat := 0
  /-- the state left for PULL-IN was FREE (02 R56; 1 bit) -/
  pullFromFree : Bool := false
  /-- fallback: consecutive good L1 crossings (02 R60; 0-8) -/
  l1Good : Nat := 0
  /-- slips since start (02 R79; 32 bits saturating) -/
  slipTotal : Nat := 0
  /-- boundaries outside LOCKED since start (02 R79; 32 bits saturating) -/
  outTotal : Nat := 0
  /-- boundaries since LOCKED was left (02 R80 0x7111; 32 bits saturating) -/
  outRun : Nat := 0
  /-- count alignments since start (02 R79; 16 bits saturating) -/
  alignTotal : Nat := 0
  /-- RTC seconds latched at the last boundary (02 R68, R79 RTC_S; 64 bits) -/
  rtcS : Nat := 0
  /-- RTC sub-second latched at the last boundary (02 R68, R79 RTC_SUB; 15 bits) -/
  rtcSub : Nat := 0
  /-- count checkpoint; none = none exists (02 R81; MRAM) -/
  ckpt : Option Ckpt := none
  /-- counts and lengths of the last cycles of this start (the RTC correction adds them) (21 R698; count and microseconds, newest first, at most 3 000) -/
  lens : List (Nat × Rat) := []
  deriving DecidableEq, Repr

end Sys2Proof.Machine
end

