-- ==== Sys2Proof/Parts/P03.lean ====
section
/-! DEFINITION. Start, life cycle and sealing (spec/03): the part of the state that this chapter gives the machine. -/

namespace Sys2Proof.Machine

/-- A life-cycle order waiting for its boundary (R95, R96). -/
structure LcPend where
  /-- TO_STATE: 3 SEALED, 4 SERVICE, 5 RETIRED (03 R95; 8 bits) -/
  toState : Nat := 0
  /-- count of the boundary at which it takes effect (03 R95, R96; 64 bits) -/
  effect : Nat := 0
  deriving DecidableEq, Repr

/-- A restart order waiting (R102, R103). -/
structure RstPend where
  /-- KIND: true = AT, false = IDLE (03 R102; 8 bits) -/
  atKind : Bool := false
  /-- EXPECT_GEN (03 R102; 32 bits) -/
  gen : Nat := 0
  /-- MARK_COUNT (03 R102; 64 bits) -/
  mark : Nat := 0
  deriving DecidableEq, Repr

/-- Start, life-cycle cells and hub condition. -/
structure Life where
  /-- hub condition (01 R49, 03 R107; 4 bits) -/
  cond : Cond := .start
  /-- start steps completed (0 = S1 in progress, 10 = RUN entered) (03 R86; 4 bits) -/
  step : Nat := 0
  /-- production test-port fuse reads intact (03 R105, R106; 1 bit, OTP) -/
  testFuseIntact : Bool := false
  /-- hub serial (03 R86 S2, R90; 64 bits, OTP) -/
  serial : Nat := 0
  /-- burnt life-cycle cells by index, ascending; an unlisted cell has neither bit burnt (03 R91, Table 3.3; OTP) -/
  cells : List (Nat × CellBits) := []
  /-- the cells match no row of Table 3.4 and the hub treats itself as RETIRED (03 R115; 1 bit) -/
  treatRetired : Bool := false
  /-- cause of NO-CONFIG (03 R107 NOCFG_CAUSE; 4 bits) -/
  nocfg : Nat := 0
  /-- start cause of this start (power-on) (03 R84; 8 bits) -/
  cause : Nat := 1
  /-- starts since KEYED (03 R107 STARTS; 32 bits saturating, MRAM) -/
  starts : Nat := 0
  /-- first count of this start (03 R82, R87; 64 bits) -/
  c0 : Nat := 0
  /-- count of the boundary of the last life-cycle change (03 R107 LC_COUNT; 64 bits, MRAM) -/
  lcCount : Nat := 0
  /-- RTC seconds latched at that boundary (03 R107 LC_RTC; 64 bits, MRAM) -/
  lcRtc : Nat := 0
  /-- a cell was burnt during this start: LC_COUNT and LC_RTC are taken at C0 (03 R107; 1 bit) -/
  lcAtC0 : Bool := false
  /-- seal digest; none = never sealed (03 R98; 256 bits, MRAM) -/
  digest : Option Nat := none
  /-- life-cycle order pending (03 R96; -) -/
  pend : Option LcPend := none
  /-- boundary B of the retire sequence under way (03 R100; 64 bits) -/
  retireAt : Option Nat := none
  /-- the retire readings are all stored (03 R100 step 2; 1 bit) -/
  retireRead : Bool := false
  /-- restart pending (03 R103, R107 word 5; -) -/
  rst : Option RstPend := none
  /-- no new session is taken before the AT restart (03 R103; 1 bit) -/
  freeze : Bool := false
  /-- the hub restarts through the start sequence with this cause (03 R103, 01 R46; start cause) -/
  restartDue : Option Nat := none
  /-- 0 pass, 1 pass with soft repair, 2 fail (03 R107 BIST; 8 bits) -/
  bist : Nat := 0
  /-- VE lanes found working (03 R107 LANES; 8 bits) -/
  lanes : Nat := 0
  /-- SRAM rows soft-repaired at this start (03 R107 ROWS; 16 bits) -/
  rows : Nat := 0
  /-- MRAM blocks remapped at this start (03 R107 BLOCKS; 16 bits) -/
  blocks : Nat := 0
  /-- test-port fuse intact: no output is driven (03 R106; 1 bit) -/
  outputsOff : Bool := false
  deriving DecidableEq, Repr

end Sys2Proof.Machine
end

