-- ==== Sys2Proof/Parts/P04.lean ====
section
/-! DEFINITION. Keys and trust (spec/04): the part of the state that this chapter gives the machine. -/

namespace Sys2Proof.Machine

/-- One persistent key slot: the descriptor of Table 4.5 and its material. -/
structure KeySlot where
  /-- key identifier (04 R126 KEY_ID; 32 bits) -/
  keyId : Nat := 0
  /-- algorithm code of Table 4.4 (04 R126 ALG; 8 bits) -/
  alg : Nat := 0
  /-- usage bits of Table 4.4 (04 R126 USAGE; 8 bits) -/
  usage : Nat := 0
  /-- engine mask (04 R126 MASTERS; 16 bits) -/
  masters : Nat := 0
  /-- life-cycle states in which it is usable (04 R126 LC_MASK; 8 bits) -/
  lcMask : Nat := 0
  /-- true = communication world (04 R126 WORLD; 2 bits) -/
  comm : Bool := false
  /-- true = imported (04 R126 ORIGIN; 2 bits) -/
  imported : Bool := false
  /-- empty, loaded, zeroised or fault (04 R126 STATUS; 4 bits) -/
  status : SlotStatus := .empty
  /-- image generation that loaded it (04 R126 GEN; 32 bits) -/
  gen : Nat := 0
  /-- import role of Table 4.10 (04 R126 ROLE; 8 bits) -/
  role : Nat := 0
  /-- head serial of a role 0x09 key (04 R132 BIND; 64 bits) -/
  bindSer : Nat := 0
  /-- public half or public key (65 bytes, then zero bytes); empty = none (04 R131, R134; five words) -/
  pub : List W128 := []
  /-- secret material (wrapped in MRAM; no operation reads it out) (04 R124, R128; up to 528 bits) -/
  secret : Nat := 0
  deriving DecidableEq, Repr

/-- One replay window (R142). -/
structure ReplayWin where
  /-- signer of the window (04 R143 KEY_ID; 32 bits, MRAM) -/
  keyId : Nat := 0
  /-- highest SEQ accepted (04 R142 SEQ_HIGH; 64 bits, MRAM) -/
  high : Nat := 0
  /-- bit j set: SEQ_HIGH - 1 - j accepted (04 R142 SEQ_MAP; 64 bits, MRAM) -/
  map : BitVec 64 := 0
  deriving DecidableEq, Repr

/-- One transient slot in use (R125, R130). -/
structure TransSlot where
  /-- slot number 64-191 (04 R125; 8 bits) -/
  num : Nat := 64
  /-- engine against whose quota it counts (04 R130; 4 bits) -/
  owner : EngineId := .boot
  /-- what was placed into it (04 R130; -) -/
  kind : TransKind := .token
  /-- point of the session that holds it; 255 = none (04 R130; 8 bits) -/
  point : Nat := 255
  /-- the key placed into it (04 R130; secret) -/
  key : Nat := 0
  deriving DecidableEq, Repr

/-- One job of the crypto queue (R37, R122). -/
structure Job where
  /-- engine (for BOOT the half) that placed the job (04 R129; -) -/
  owner : EngHalf := .bootM
  /-- session that placed it; 255 = none (12 R430; 8 bits) -/
  point : Nat := 255
  /-- operation (04 R128; -) -/
  op : SlotOp := .sign
  /-- slot named (04 R129; 8 bits) -/
  slot : Nat := 0
  /-- operand handed over (04 R128; bytes or words) -/
  data : List Nat := []
  deriving DecidableEq, Repr

/-- Key slots, trust, replay windows, transient slots, DRBG and the crypto queue. -/
structure Keys where
  /-- persistent slots 0-63 (04 R125, R126; 64 slots, MRAM) -/
  slots : Vector KeySlot 64 := Vector.replicate 64 {}
  /-- transient slots in use (cleared at every start) (04 R125, R130; at most 128) -/
  trans : List TransSlot := []
  /-- wrap counter (04 R124; 64 bits, MRAM) -/
  wrapCtr : Nat := 0
  /-- root secret (only ever the key of derivations) (04 R123, 03 R88; 256 bits) -/
  root : Nat := 0
  /-- root-secret copy 1 is present and its tag verifies (03 R88, R89; MRAM) -/
  rootCopy1 : Bool := false
  /-- root-secret copy 2 is present and its tag verifies (03 R88, R89; MRAM) -/
  rootCopy2 : Bool := false
  /-- PUF helper data is stored (03 R88, R101; MRAM) -/
  pufHelper : Bool := false
  /-- the KWK has been derived in this start (04 R124, R156; 1 bit) -/
  kwkReady : Bool := false
  /-- commissioner key roll number (04 R131 ROLL; 32 bits, MRAM) -/
  roll : Nat := 0
  /-- metrology keys generated (04 R131 MKGEN; 16 bits saturating, MRAM) -/
  mkgen : Nat := 0
  /-- words 0-17 of page 0x0002 as last signed; empty = never signed (04 R131; 18 words, MRAM) -/
  ident : List W128 := []
  /-- commissioner, operator keys 1-4, readout MAC key, vendor root, reserved (04 R142; 8 windows, MRAM) -/
  wins : Vector ReplayWin 8 := Vector.replicate 8 {}
  /-- DRBG stopped until the next start (04 R143 DRBG, R155; 1 bit) -/
  drbgStopped : Bool := false
  /-- DRBG output withheld while the start-up tests are rerun (04 R155; 1 bit) -/
  drbgHeld : Bool := false
  /-- failed reruns in a row (04 R155; 0-3) -/
  drbgFails : Nat := 0
  /-- reseeds made (the model's own count of draws of entropy) (04 R146; counter) -/
  drbgReseeds : Nat := 0
  /-- crypto queue, metrology jobs first, each world in order of arrival (01 R37, 04 R122; at most 64 jobs) -/
  queue : List Job := []
  /-- what the last finished slot operation handed to its engine (the model's own field) (04 R128; -) -/
  result : Option SlotResult := none
  deriving DecidableEq, Repr

end Sys2Proof.Machine
end

