-- ==== Sys2Proof/Parts/P05.lean ====
section
/-! DEFINITION. Configuration image and delivery (spec/05): the part of the state that this chapter gives the machine. -/

namespace Sys2Proof.Machine

/-- One record of the applied image: its header fields and payload words. -/
structure ImgRec where
  /-- record type of Table 5.4 (05 R161 TYPE; 16 bits) -/
  typ : Nat := 0
  /-- instance number (05 R161 INDEX; 16 bits) -/
  idx : Nat := 0
  /-- payload words after the header word (05 R161; words) -/
  pay : List W128 := []
  deriving DecidableEq, Repr

/-- The running image as applied in step S6 (the SRAM copy of R171). -/
structure Img where
  /-- 0 A, 1 B, 255 none (05 R182 RUN_SLOT; 8 bits) -/
  slot : Nat := 255
  /-- running generation, 0 = none (05 R182 RUN_GEN; 32 bits) -/
  gen : Nat := 0
  /-- running ASSET_OFFSET (05 R182 RUN_AOFF; 32 bits) -/
  aOff : Nat := 0
  /-- running ASSET_LEN (05 R182 RUN_ALEN; 32 bits) -/
  aLen : Nat := 0
  /-- records of the applied image in image order (05 R171, R175; records) -/
  recs : List ImgRec := []
  /-- result of slot A: 0 valid, reason, 255 not checked (05 R182 A_RESULT; 8 bits) -/
  aRes : Nat := 255
  /-- result of slot B (05 R182 B_RESULT; 8 bits) -/
  bRes : Nat := 255
  /-- header GEN of slot A (05 R182 A_GEN; 32 bits) -/
  aGen : Nat := 0
  /-- header GEN of slot B (05 R182 B_GEN; 32 bits) -/
  bGen : Nat := 0
  /-- asset-region blocks faulty in this run (05 R176, R182 ASSET_FAULTS; asset blocks) -/
  faulty : List Nat := []
  /-- block last fetched and whether it was served from flash (false: by its fallback) (05 R176; -) -/
  fetched : Option (Nat × Bool) := none
  /-- ESTATE_ID of the last applied image (05 R175; 32 bits, MRAM) -/
  estateMram : Option Nat := none
  /-- SENTINEL payload of the last applied image (05 R175; word, MRAM) -/
  sentinelMram : Option W128 := none
  deriving DecidableEq, Repr

/-- The serial NOR flash: slots A and B and the asset region. -/
structure Flash where
  /-- bytes that are not erased (0xFF) (05 R158; bytes 0x000000-0x7FFFFF) -/
  mem : List Host.Cell := []
  /-- flash operation in progress (05 R184; -) -/
  busy : Option FlashOp := none
  deriving DecidableEq, Repr

/-- Image delivery (R178-R190), held in MRAM. -/
structure Dlv where
  /-- open DELIVERY_ID (05 R182 DLV_ID; 32 bits, MRAM) -/
  id : Nat := 0
  /-- state of Table 5.16 (05 R182 DLV_STATE; 8 bits, MRAM) -/
  state : DlvState := .idle
  /-- target slot (05 R182 DLV_SLOT; 8 bits, MRAM) -/
  slot : Nat := 0
  /-- reason of the last refusal or failed check (05 R182 DLV_REASON; 8 bits) -/
  reason : Nat := 0
  /-- GEN of the open delivery (05 R182 DLV_GEN; 32 bits, MRAM) -/
  gen : Nat := 0
  /-- its IMAGE_LEN (05 R182 DLV_LEN; 32 bits, MRAM) -/
  len : Nat := 0
  /-- write-range start (05 R182 AWRITE_OFFSET; 32 bits, MRAM) -/
  awOff : Nat := 0
  /-- write-range length (05 R182 AWRITE_LEN; 32 bits, MRAM) -/
  awLen : Nat := 0
  /-- slot chunks set, ascending (05 R182 SLOT_MAP; 1 024 bits, MRAM) -/
  slotMap : List Nat := []
  /-- asset chunks set, ascending (05 R182 ASSET_MAP; 2 048 bits, MRAM) -/
  assetMap : List Nat := []
  deriving DecidableEq, Repr

end Sys2Proof.Machine
end

