-- ==== Sys2Proof/Parts/P06.lean ====
section
/-! DEFINITION. Heads and the point link (spec/06): the part of the state that this chapter gives the machine. -/

namespace Sys2Proof.Machine

/-- The hub's side of one head slot (Table 6.9, Table 6.12). -/
structure Port where
  /-- port state of a slot with a HEAD record (06 R207, R221 STATE; 8 bits) -/
  st : PortSt := .dark
  /-- consecutive announcing frames of one serial (06 R207; 0-8) -/
  annRun : Nat := 0
  /-- serial of that run (06 R207; 64 bits) -/
  annSerial : Nat := 0
  /-- other serials already reported by event 0x3018 (06 R207; serials) -/
  unknown : List Nat := []
  /-- STEP the hub sends in PAIR frames: 0 idle, 1 challenge, 3 confirm (06 R205, 04 R145; 8 bits) -/
  pairStep : Nat := 0
  /-- the hub's nonce (04 R145; 128 bits) -/
  nonceH : Nat := 0
  /-- the head's nonce (04 R145; 128 bits) -/
  nonceD : Nat := 0
  /-- the hub's CMAC of step 3 (04 R145; 128 bits) -/
  confirm : Nat := 0
  /-- CHECK_STEP in progress: 1-4, 5 = the silence, 6 = end (06 R205, R207; 8 bits) -/
  checkStep : Nat := 0
  /-- ticks for which the check step has held (06 R207; ticks) -/
  checkTk : Nat := 0
  /-- FS_COUNT before the silence step (06 R207; 16 bits) -/
  fsBefore : Nat := 0
  /-- consecutive missing sample ticks (06 R207, R217; ticks) -/
  missRun : Nat := 0
  /-- consecutive usable sample ticks (06 R207; ticks) -/
  usableRun : Nat := 0
  /-- consecutive ticks without a usable status block (06 R218; ticks) -/
  statMiss : Nat := 0
  /-- consecutive ticks without an upstream frame with good CRC (06 R215; ticks) -/
  silence : Nat := 0
  /-- cycle boundaries spent in SLOW (06 R207, R215; boundaries) -/
  slowBnd : Nat := 0
  /-- a run of length errors is in progress (06 Table 6.11 0x3014; 1 bit) -/
  lenRun : Bool := false
  /-- last sampled tick judged, by clk.tickTot (a repeated TICK is a sequence error) (06 R215; tick starts) -/
  lastTick : Option Nat := none
  /-- 160 consecutive usable ticks have passed in SLOW (06 R207; 1 bit) -/
  slowDone : Bool := false
  /-- CRC and framing errors in the cycle in progress (06 R220; 16 bits saturating) -/
  crcCy : Nat := 0
  /-- sequence errors in the cycle in progress (06 R220; 16 bits saturating) -/
  seqCy : Nat := 0
  /-- CRC and framing errors (06 R221 CRC_ERR; 32 bits saturating) -/
  crcErr : Nat := 0
  /-- length errors (06 R221 LEN_ERR; 32 bits saturating) -/
  lenErr : Nat := 0
  /-- sequence errors (06 R221 SEQ_ERR; 32 bits saturating) -/
  seqErr : Nat := 0
  /-- heads lost (06 R221 LOSSES; 32 bits saturating) -/
  losses : Nat := 0
  /-- bridged ticks (06 R221 BRIDGED; 32 bits saturating) -/
  bridged : Nat := 0
  /-- gap ticks (06 R221 GAP_TICKS; 32 bits saturating) -/
  gapTicks : Nat := 0
  /-- SLOW entries (06 R221 SLOWS; 32 bits saturating) -/
  slows : Nat := 0
  /-- gaps opened (06 R221 GAPS; 32 bits saturating) -/
  gaps : Nat := 0
  /-- admissions since start (06 R221 ADMITS; 32 bits) -/
  admits : Nat := 0
  /-- count of the last admission boundary (06 R221 ADMIT_COUNT; 64 bits) -/
  admitCount : Nat := 0
  /-- last usable status block s0-s23; empty = none yet (06 R199, R221; 24 words) -/
  stat : List W32 := []
  /-- tokens of all four points withdrawn (status missing, head lost or mains-loss) (06 R216, R218; 1 bit) -/
  tokensOff : Bool := false
  /-- parallel slots and FG_TST as the hub commands them (both slots idle) (06 R200 word 8; 32 bits) -/
  word8 : W32 := 0xF80F8000
  /-- downstream tunnel words waiting (06 R211; words) -/
  txQueue : List W32 := []
  /-- downstream frame last sent on the port (06 R200; words) -/
  tx : List W32 := []
  /-- the sessions of the head's points end at the next cycle boundary (06 R216; 1 bit) -/
  lossPending : Bool := false
  deriving DecidableEq, Repr

/-- One point of a head, as the head itself holds it. -/
structure HeadPt where
  /-- permission held (06 R202 SAFE bit 7; 1 bit) -/
  permit : Bool := false
  /-- local trip of the safety channel (06 R202 SAFE bit 6; 1 bit) -/
  localTrip : Bool := false
  /-- last tokens evaluated did not permit although sent (06 SAFE bit 4; 1 bit) -/
  tokenBad : Bool := false
  /-- low-side driver fault (06 FB bit 2, 09 R309; 1 bit) -/
  lsFault : Bool := false
  /-- control-pilot duty applied (06 R200 DUTY; 0.1 %) -/
  duty : Nat := 0
  /-- generator mode applied (3 = generator off) (06 R200 CP_MODE, 23 R792; 4 bits) -/
  cpMode : Nat := 3
  /-- lock command applied (06 R200 LOCK; 2 bits) -/
  lock : Nat := 0
  /-- drive pulse ended by the head's own cap (10 R361; 1 bit) -/
  lockCapped : Bool := false
  /-- indicator duty applied (06 R200 IND; 8 bits) -/
  ind : Nat := 0
  /-- DC residual-current trip (06 RC_FLAGS bit 1; 1 bit) -/
  dcTrip : Bool := false
  /-- AC residual-current trip (06 RC_FLAGS bit 0; 1 bit) -/
  acTrip : Bool := false
  /-- fluxgate excitation fault (06 RC_FLAGS bit 3; 1 bit) -/
  fgFault : Bool := false
  /-- fluxgate test passed (06 RC_FLAGS bit 2; 1 bit) -/
  testPassed : Bool := false
  /-- test current injected in this tick (06 R200 FG_TST; 1 bit) -/
  fgTst : Bool := false
  /-- RCM_OUT driven high (09 R298, 23 R792; pin) -/
  rcmOut : Bool := false
  deriving DecidableEq, Repr

/-- One GY3208 head: its pairing state, safety channels, commands applied and counters. -/
structure Head where
  /-- head serial (04 R145, 06 R191; 64 bits, OTP) -/
  serial : Nat := 0
  /-- pairing key (04 R145; 128 bits, OTP) -/
  pairKey : Nat := 0
  /-- the head is powered and out of reset (23 R791; 1 bit) -/
  on : Bool := true
  /-- unpaired, challenged or paired (06 R206; -) -/
  pair : HeadPair := .unpaired
  /-- STEP reported upstream: 0, 2, 4 or 0xEE (06 R205; 8 bits) -/
  step : Nat := 0
  /-- hub nonce received (04 R145; 128 bits) -/
  nonceH : Nat := 0
  /-- own nonce (04 R145; 128 bits) -/
  nonceD : Nat := 0
  /-- own CMAC of step 2 (04 R145; 128 bits) -/
  mac : Nat := 0
  /-- head slot learnt at pairing (06 R203, R199; 3 bits) -/
  slotLearnt : Nat := 0
  /-- TICK the next valid frame must carry; none = set afresh (06 R203; 16 bits) -/
  expTick : Option Nat := none
  /-- consecutive tick starts without a valid downstream frame (06 R206, R219; tick starts) -/
  missTk : Nat := 0
  /-- FAILSAFE (06 R219 SAFE bit 5; 1 bit) -/
  failsafe : Bool := false
  /-- fail-safe withdrawals since head reset (06 FS_COUNT; 16 bits saturating) -/
  fsCount : Nat := 0
  /-- TICK of the last valid downstream frame (06 RX_TICK; 16 bits) -/
  rxTick : Nat := 0
  /-- downstream frames with bad CRC since head reset (06 RX_ERR; 16 bits saturating) -/
  rxErr : Nat := 0
  /-- 0 not run, 1 pass, 2 fail (06 SELFTEST; 8 bits) -/
  selftest : Nat := 0
  /-- fault bits of s20 (06 FAULTS; 8 bits) -/
  faults : Nat := 0
  /-- CHECK_STEP last received (06 R205; 8 bits) -/
  chk : Nat := 0
  /-- downstream word 8 as applied (both parallel slots idle) (06 R201 PAR_ECHO; 32 bits) -/
  word8 : W32 := 0xF80F8000
  /-- settings as applied (06 R200 word 9; 32 bits) -/
  word9 : W32 := 0
  /-- channels whose EXC_FAIL the head raises, ascending (07 R236; 28 bits) -/
  exc : List Nat := []
  /-- the four points (06 R20; 4 points) -/
  pts : Vector HeadPt 4 := Vector.replicate 4 {}
  deriving DecidableEq, Repr

end Sys2Proof.Machine
end

