-- ==== Sys2Proof/Parts/P07.lean ====
section
/-! DEFINITION. Measurement chain (spec/07): the part of the state that this chapter gives the machine. -/

namespace Sys2Proof.Machine

/-- One channel of a head, as MET keeps it. -/
structure Chan where
  /-- channel in SENSOR_FAULT (07 R256 SFAULT; 1 bit) -/
  sfault : Bool := false
  /-- consecutive usable sample blocks without EXC_FAIL (07 R236; usable blocks) -/
  clrRun : Nat := 0
  /-- ticks in SENSOR_FAULT (07 Table 7.4 0x2011; 24 bits saturating) -/
  sfTicks : Nat := 0
  /-- SENSOR_FAULT entries (07 R256 EXC_RUNS; 32 bits saturating) -/
  excRuns : Nat := 0
  /-- overrange run in progress: ticks since the last OVR; none = no run (07 R237; ticks) -/
  ovrQuiet : Option Nat := none
  /-- overrange ticks (07 R256 OVR_TICKS; 32 bits saturating) -/
  ovrTicks : Nat := 0
  /-- SRC-mismatch run in progress: ticks since the last mismatch (07 R255; ticks) -/
  srcQuiet : Option Nat := none
  /-- SRC mismatch ticks (07 R256 SRC_ERR; 32 bits saturating) -/
  srcErr : Nat := 0
  /-- values before the delay stage, newest first (07 R231, R233; at most 19 values) -/
  hist : List Rat := []
  /-- state of the coil integrator (07 R232; value) -/
  coil : Rat := 0
  /-- processed value of the last usable tick (07 R231; micro-units) -/
  val : Rat := 0
  deriving DecidableEq, Repr

/-- One modulator, 0-29, of a head. -/
structure HaloMod where
  /-- state of Table 7.3 (07 R256 STATE, R248; 4 bits, MRAM) -/
  st : ModSt := .inService
  /-- channel in its sample word, 31 none (07 R256 SERVES; 5 bits) -/
  serves : Nat := 31
  /-- failure count, or charges for a spare (07 R256 FAILS; 3 bits, MRAM) -/
  fails : Nat := 0
  /-- re-test passes (07 R256 PASSES; 3 bits, MRAM) -/
  passes : Nat := 0
  /-- last gain deviation (07 R256 GAIN_DEV; 16 bits signed ppm) -/
  gainDev : Int := 0
  /-- last offset deviation (07 R256 OFFSET_DEV; 16 bits signed LSB) -/
  offDev : Int := 0
  /-- last phase deviation (07 R256 PHASE_DEV; 16 bits signed 0.0001 degree) -/
  phaseDev : Int := 0
  /-- 0 none, 1 pass, 2 offset pass, 3 fail, 4 incomplete (07 R256 RESULT; 8 bits) -/
  result : Nat := 0
  /-- modulator compared with (07 R256 PARTNER; 8 bits) -/
  partner : Nat := 0
  /-- count of the boundary ending the last judged window (07 R256 AT_COUNT; 64 bits) -/
  atCount : Nat := 0
  deriving DecidableEq, Repr

/-- One parallel slot of word 8, as MET uses it. -/
structure HaloSlot where
  /-- modulator placed, 31 none (06 R200 P_MOD; 5 bits) -/
  mod : Nat := 31
  /-- channel it serves (06 R200 P_CH; 5 bits) -/
  ch : Nat := 0
  /-- 0 idle, 1 parallel, 2 substitute (06 R200 P_MODE; 2 bits) -/
  mode : Nat := 0
  /-- what the placement is for (07 R239-R246; -) -/
  kind : HaloUse := .idle
  /-- boundary (clk.bndTot) at which the comparison window of the step opens (07 R240; boundaries) -/
  windowAt : Nat := 0
  /-- hold cycles repeated (07 R244; 0-8) -/
  holdRep : Nat := 0
  /-- placement whose window has ended and is not yet judged (07 R242; modulator, channel, use) -/
  judge : Option (Nat × Nat × HaloUse) := none
  /-- the hold cycle of a confirmation runs (07 R244; 1 bit) -/
  hold : Bool := false
  /-- spare whose failure a confirmation checks (07 R243; 5 bits) -/
  failer : Nat := 31
  /-- confirmation failed: MODE 2 awaits a hold cycle that meets the condition (07 R244; 1 bit) -/
  swapDue : Bool := false
  deriving DecidableEq, Repr

/-- The halo check of one head. -/
structure Halo where
  /-- HEAD_SERIAL the stored modulator states belong to (07 R257; 64 bits, MRAM) -/
  serial : Option Nat := none
  /-- the head is admitted and rotations run (07 R239; 1 bit) -/
  on : Bool := false
  /-- rotations since admission (07 R256 ROTATION; 32 bits saturating) -/
  rotation : Nat := 0
  /-- step within the rotation (07 R256 STEP; 16 bits) -/
  step : Nat := 0
  /-- rotation length, cy (07 R256 ROT_LEN; 16 bits) -/
  rotLen : Nat := 0
  /-- boundary (clk.bndTot) at which the step in progress began (07 R239; boundaries) -/
  stepAt : Nat := 0
  /-- channels still to be covered in this rotation, in order, displaced ones at the end (07 R239, R243; channels) -/
  todo : List Nat := []
  /-- confirmations due in the next step: channel and the spare that failed it (07 R243; channel, spare) -/
  confirm : List (Nat × Nat) := []
  /-- the step in progress is the first of its rotation (07 R246; 1 bit) -/
  retest : Bool := false
  /-- no rotation has begun since admission (07 R239; 1 bit) -/
  fresh : Bool := true
  /-- coverage suspended (07 R256 SUSP, R249; 1 bit) -/
  susp : Bool := false
  /-- modulators 0-27 home, 28 and 29 spare (07 R248; 30 modulators) -/
  mods : Vector HaloMod 30 := Vector.replicate 30 {}
  /-- parallel slots 0 and 1 (06 R201; 2 slots) -/
  slots : Vector HaloSlot 2 := Vector.replicate 2 {}
  deriving DecidableEq, Repr

/-- The measurement side of one head slot. -/
structure HeadMeas where
  /-- channels 0-27 (07 R224; 28 channels) -/
  chans : Vector Chan 28 := Vector.replicate 28 {}
  /-- halo check (07 R238; -) -/
  halo : Halo := {}
  deriving DecidableEq, Repr

end Sys2Proof.Machine
end

