-- ==== Sys2Proof/Parts/P08.lean ====
section
/-! DEFINITION. Energy quantities and registers (spec/08): the part of the state that this chapter gives the machine. -/

namespace Sys2Proof.Machine

/-- One sampled tick of a point in MET's buffer. -/
structure MTick where
  /-- tick starts since the first boundary (its exact position) (08 R260; counter) -/
  tk : Nat := 0
  /-- usable, bridged or gap (08 R270, R271; -) -/
  kind : TickKind := .usable
  /-- processed currents L1-L3 (08 R262; three values, µA) -/
  i : List Rat := []
  /-- processed voltages L1-L3 (08 R262; three values, µV) -/
  u : List Rat := []
  /-- K_FB_NO and K_FB_NC reported closed (08 R269; 1 bit) -/
  closed : Bool := false
  /-- an overrange sample (08 R237; 1 bit) -/
  ovr : Bool := false
  /-- feeder voltages L1-L3 and UNPE (08 R262; four values, µV) -/
  f : List Rat := []
  /-- a channel of the point in SENSOR_FAULT (08 R274 SFAULT; 1 bit) -/
  sf : Bool := false
  /-- a channel of the point in substitution (08 R274 SUBST; 1 bit) -/
  sub : Bool := false
  /-- the low-side driver reported on (09 R301; 1 bit) -/
  cmdOn : Bool := false
  /-- estimate of a gap that this tick closed (06 R217, 08 R272; µWh, exact) -/
  est : Rat := 0
  deriving DecidableEq, Repr

/-- The quantities of one cycle (words 0-7 of Table 8.3). -/
structure MetRes where
  /-- cycle whose results follow (08 R274 COUNT; 64 bits) -/
  count : Nat := 0
  /-- the cycle was metered (08 R274 VALID; 1 bit) -/
  valid : Bool := false
  /-- at least one gap tick (08 R274 GAP; 1 bit) -/
  gap : Bool := false
  /-- overrange in the cycle (08 R274 OVR; 1 bit) -/
  ovr : Bool := false
  /-- a channel of the point in SENSOR_FAULT (08 R274 SFAULT; 1 bit) -/
  sfault : Bool := false
  /-- L1-L3 in creep (08 R264 CREEP; 3 bits) -/
  creep : List Bool := []
  /-- clock not LOCKED at some boundary of the cycle (08 R274 CLK; 1 bit) -/
  clk : Bool := false
  /-- a channel of the point in substitution (08 R274 SUBST; 1 bit) -/
  subst : Bool := false
  /-- contactor closed throughout (08 R274 CLOSED; 1 bit) -/
  closed : Bool := false
  /-- cycle closed by the outage sequence (08 R274 PARTIAL; 1 bit) -/
  isPartial : Bool := false
  /-- 0 Q1, 1 Q2, 2 Q3, 3 Q4 (08 R265 QUAD; 2 bits) -/
  quad : Nat := 0
  /-- bridged ticks that start in the cycle (08 R274 BRIDGED_TK; 8 bits) -/
  bridgedTk : Nat := 0
  /-- gap ticks that start in the cycle (08 R274 GAP_TK; 8 bits) -/
  gapTk : Nat := 0
  /-- phase voltages (08 R274 URMS; 3 x 32 bits, mV) -/
  urms : List Nat := []
  /-- phase currents (08 R274 IRMS; 3 x 32 bits, µA) -/
  irms : List Nat := []
  /-- active powers (08 R274 P; 3 x 32 bits, mW) -/
  p : List Int := []
  /-- reactive powers (08 R274 Q; 3 x 32 bits, mvar) -/
  q : List Int := []
  /-- apparent powers (08 R274 S1-S3; 3 x 32 bits, mVA) -/
  sx : List Nat := []
  /-- duration of the cycle (08 R261 DURATION; 32 bits, ns) -/
  dur : Nat := 0
  /-- sum of active powers (08 R274 P_SUM; 32 bits, mW) -/
  psum : Int := 0
  /-- sum of reactive powers (08 R274 Q_SUM; 32 bits, mvar) -/
  qsum : Int := 0
  /-- sum of apparent powers (08 R274 S_SUM; 32 bits, mVA) -/
  ssum : Nat := 0
  /-- feeder voltages of the head (08 R274 UF1-UF3; 3 x 32 bits, mV) -/
  uf : List Nat := []
  /-- N-PE voltage of the head (08 R274 UNPE; 32 bits, mV) -/
  unpe : Nat := 0
  /-- addition to ACT_IMP (08 R274 INC_IMP; 64 bits Q32.32) -/
  incImp : Nat := 0
  /-- addition to ACT_EXP (08 R274 INC_EXP; 64 bits Q32.32) -/
  incExp : Nat := 0
  /-- addition to BRG_IMP (08 R268; Q32.32) -/
  brgImp : Nat := 0
  /-- addition to BRG_EXP (08 R268; Q32.32) -/
  brgExp : Nat := 0
  /-- commanded open throughout, and not opened in the cycle (09 R302; 1 bit) -/
  cmdOpen : Bool := false
  deriving DecidableEq, Repr

/-- The 14 registers of a point with their carried remainders (R266, R267). -/
structure RegSet where
  /-- registers 0-13; Q96.32 ones in units of 2^-32 (08 R266; 14 x 128 bits, MRAM) -/
  regs : Vector Nat 14 := Vector.replicate 14 0
  /-- truncated remainders carried into the next addition (08 R267; exact, MRAM) -/
  rem : Vector Rat 14 := Vector.replicate 14 0
  /-- registers that have saturated (08 R275 SAT; 14 bits, MRAM) -/
  sat : List Nat := []
  /-- register set reset (08 R286 REG_RESET; 1 bit, MRAM) -/
  reset : Bool := false
  deriving DecidableEq, Repr

/-- One MRAM copy of a register set (R285). -/
structure RegCopy where
  /-- COUNT of its last cycle (08 R285; 64 bits, MRAM) -/
  count : Nat := 0
  /-- the copy has been completed once (its CRC is written) (08 R285; MRAM) -/
  written : Bool := false
  /-- registers, remainders and flags (08 R285; MRAM) -/
  set : RegSet := {}
  deriving DecidableEq, Repr

/-- Metering of one point. -/
structure PtMet where
  /-- sampled ticks not yet closed into a cycle (08 R259; ticks, oldest first) -/
  buf : List MTick := []
  /-- the head is admitted and the point is metered (08 R288; 1 bit) -/
  on : Bool := false
  /-- consecutive missing sample ticks of the point (06 R217, 07 R234; ticks) -/
  missRun : Nat := 0
  /-- open gap: gap ticks so far, the last usable power before it and its length so far (06 R217; ticks, W, µs) -/
  gap : Option (Nat × Rat × Rat) := none
  /-- processed currents of the point's last usable tick (08 R270; three values, µA) -/
  lastI : List Rat := []
  /-- processed voltages of that tick (08 R270; three values, µV) -/
  lastU : List Rat := []
  /-- the low-side driver was reported on in the tick before the buffer (09 R302; 1 bit) -/
  lastOn : Bool := false
  /-- estimate waiting for the next cycle boundary (06 R217, 08 R272; µWh, exact) -/
  est : Rat := 0
  /-- registers in force (08 R266; -) -/
  set : RegSet := {}
  /-- first MRAM copy (08 R285; MRAM) -/
  copyA : RegCopy := {}
  /-- second MRAM copy (08 R285; MRAM) -/
  copyB : RegCopy := {}
  /-- quantities last computed (08 R273; -) -/
  res : MetRes := {}
  /-- quantities the RESULT gate publishes (08 R273, 01 R26; -) -/
  pub : MetRes := {}
  /-- register values the RESULT gate publishes (08 R273; -) -/
  pubRegs : Vector Nat 14 := Vector.replicate 14 0
  deriving DecidableEq, Repr

/-- A cycle that has ended and is not yet metered. -/
structure CycInfo where
  /-- number of the cycle since the first boundary (08 R259; counter) -/
  idx : Nat := 0
  /-- its count (08 R281; 64 bits) -/
  count : Nat := 0
  /-- length the clock gave it (08 R261; µs) -/
  lenUs : Rat := 0
  /-- the clock was not LOCKED at a boundary of it (08 R274 CLK; 1 bit) -/
  unlocked : Bool := false
  /-- tariff in force during the cycle (02 R73; 2 bits) -/
  tariff : Nat := 0
  deriving DecidableEq, Repr

/-- MET: the cycles to be metered. -/
structure Met where
  /-- ended cycles not yet metered, oldest first (08 R273; queue) -/
  todo : List CycInfo := []
  /-- the clock was not LOCKED at the boundary that opened the cycle in progress (08 R274 CLK; 1 bit) -/
  unlockedNow : Bool := false
  /-- the partial cycle of an outage has been closed (08 R287; 1 bit) -/
  closedOut : Bool := false
  deriving DecidableEq, Repr

end Sys2Proof.Machine
end

