-- ==== Sys2Proof/Parts/P09.lean ====
section
/-! DEFINITION. Safety functions (spec/09): the part of the state that this chapter gives the machine. -/

namespace Sys2Proof.Machine

/-- One SSM's copy of the lock-out record (R313). -/
structure LockRec where
  /-- hub lock-out cause, 0 none (09 R313; 8 bits, MRAM) -/
  hub : Nat := 0
  /-- lock-out cause per point, 0 none (09 R313; 32 x 8 bits, MRAM) -/
  cause : Vector Nat 32 := Vector.replicate 32 0
  /-- lock-outs of the point, saturating (09 R313 LOCK_N; 32 x 8 bits, MRAM) -/
  n : Vector Nat 32 := Vector.replicate 32 0
  /-- count of the boundary of the last lock-out (09 R313 LOCK_AT; 32 x 64 bits, MRAM) -/
  atCnt : Vector Nat 32 := Vector.replicate 32 0
  deriving DecidableEq, Repr

/-- One safety state machine, SSM-A or SSM-B. -/
structure Ssm where
  /-- armed (09 R334 ARMED; 1 bit) -/
  armed : Bool := false
  /-- SAFE_EN output of this SSM (09 R292 SAFE_EN; pin) -/
  out : Bool := false
  /-- its clock runs (09 R291; 1 bit) -/
  clockOk : Bool := true
  /-- permit (true) or withdraw per point (09 R292; 32 bits) -/
  opinion : Vector Bool 32 := Vector.replicate 32 false
  /-- its copy of the lock-out record (09 R313; MRAM) -/
  lockRec : LockRec := {}
  /-- the copy's CRC-32 verifies (09 R332; CRC-32, MRAM) -/
  lockOk : Bool := true
  deriving DecidableEq, Repr

/-- What both SSMs share through their inputs and outputs. -/
structure Safe where
  /-- SSM-A (09 R291; -) -/
  a : Ssm := {}
  /-- SSM-B (09 R291; -) -/
  b : Ssm := {}
  /-- SAFE_MON_A as read (09 R290; pin) -/
  monA : Bool := false
  /-- SAFE_MON_B as read (09 R290; pin) -/
  monB : Bool := false
  /-- ESTOP_A filtered (09 R300; 1 bit) -/
  estopA : Bool := false
  /-- ESTOP_B filtered (09 R300; 1 bit) -/
  estopB : Bool := false
  /-- RST_REQ level (09 R314 RST_REQ; pin) -/
  rstReq : Bool := false
  /-- a reset pulse is in progress (09 R314; 1 bit) -/
  rstPulse : Bool := false
  /-- an ESTOP press invalidated the pulse in progress (09 R329; 1 bit) -/
  rstBad : Bool := false
  /-- an accepted falling edge waits for its boundary (09 R315; 1 bit) -/
  rstDue : Bool := false
  /-- the re-arming sequence is due (09 R315, R334; 1 bit) -/
  rearm : Bool := false
  /-- hub lock-out causes whose criterion was met in the cycle in progress (09 R315; causes) -/
  condHub : List Nat := []
  /-- the same of the cycle that the last boundary closed (09 R315; causes) -/
  condHubPrev : List Nat := []
  /-- consecutive snapshots with UNPE above NPE_MAX, per head (09 R309; 0-2) -/
  npeHi : Vector Nat 8 := Vector.replicate 8 0
  /-- consecutive snapshots with UNPE at most NPE_MAX - 5 V, per head (09 R309; 0-250) -/
  npeLo : Vector Nat 8 := Vector.replicate 8 0
  /-- RAIL condition without lock-out in force (0x20 heartbeat, 0x21 mains loss, 0x22 order or retire; 0 none) (09 R292; 8 bits) -/
  railCause : Nat := 0
  /-- count of the boundary of the last passed rail test (09 R333 TEST_COUNT; 64 bits, MRAM) -/
  testCount : Nat := 0
  /-- RTC seconds of that test (09 R333 TEST_RTC; 64 bits, MRAM) -/
  testRtc : Nat := 0
  /-- 00:00 UTC has passed since the last rail test and none has run (09 R322; 1 bit) -/
  testDue : Bool := false
  /-- no test has passed for 168 h (09 R322; 1 bit) -/
  overdue : Bool := false
  /-- lock-outs set since start (09 R333 LOCKOUTS; 32 bits saturating) -/
  lockouts : Nat := 0
  /-- accepted reset pulses since start (09 R333 RESETS; 32 bits) -/
  resets : Nat := 0
  /-- refused reset pulses since start (09 R333 REFUSED; 32 bits) -/
  refused : Nat := 0
  deriving DecidableEq, Repr

/-- The safety state of one point index. -/
structure PtSafe where
  /-- state of Table 9.2 (09 R298 Table 9.2; 3 bits) -/
  st : SafeSt := .opened
  /-- consecutive failed pre-closure tests (09 R297; 0-2) -/
  attempts : Nat := 0
  /-- count of the cycle in which the close request was accepted (09 R296; 64 bits) -/
  testAt : Nat := 0
  /-- injection ticks still to be sent (09 R296; ticks) -/
  testLeft : Nat := 0
  /-- an open request waits for the next boundary (09 R298; 1 bit) -/
  openDue : Bool := false
  /-- last pre-closure test: 0 none, 1 pass, 2 fail (09 R333 TEST; 2 bits) -/
  test : Nat := 0
  /-- missing diode holds (09 R306 STOPS 105; 1 bit) -/
  missDiode : Bool := false
  /-- short to PE holds (09 R306 STOPS 106; 1 bit) -/
  shortPe : Bool := false
  /-- proximity-pilot fault holds (09 R307 STOPS 107; 1 bit) -/
  proximity : Bool := false
  /-- lock feedback lost (09 R308 STOPS 108; 1 bit) -/
  lockFb : Bool := false
  /-- N-PE over-voltage of the head (09 R309 STOPS 109; 1 bit) -/
  npe : Bool := false
  /-- N-PE supervision of the head lost (09 R310 STOPS 110; 1 bit) -/
  npeLost : Bool := false
  /-- stop temperature (09 R311 STOPS 111; 1 bit) -/
  t2 : Bool := false
  /-- PT excitation fault (09 R311 STOPS 112; 1 bit) -/
  ptExc : Bool := false
  /-- status blocks missing (06 R218 STOPS 113; 1 bit) -/
  statMiss : Bool := false
  /-- lock-out causes whose criterion holds in the cycle in progress (09 R315; causes) -/
  condNow : List Nat := []
  /-- the same of the cycle that the last boundary closed (09 R315; causes) -/
  condPrev : List Nat := []
  /-- IDC of the last injection ticks, newest first (09 R296; at most 16, 0.01 mA) -/
  idcTest : List Nat := []
  /-- sum of input 2p over the usable status blocks of the cycle (09 R311; 0.1 degree) -/
  tSum0 : Int := 0
  /-- sum of input 2p + 1 (09 R311; 0.1 degree) -/
  tSum1 : Int := 0
  /-- values in tSum0 (09 R311; blocks) -/
  tN0 : Nat := 0
  /-- values in tSum1 (09 R311; blocks) -/
  tN1 : Nat := 0
  /-- consecutive cycles with T at T2 or above (09 R311; 0-2) -/
  t2Run : Nat := 0
  /-- consecutive cycles with T below T2 - 5.0 degrees (09 R311; 0-3000) -/
  t2Low : Nat := 0
  /-- consecutive published cycles commanded open with 50 V or more (09 R302; 0-2) -/
  weldRun : Nat := 0
  /-- point temperature of the last cycle; none = no input fitted (09 R311 TEMP; 16 bits, 0.1 degree) -/
  temp : Option Int := none
  /-- derating has begun (09 R312; 1 bit) -/
  derating : Bool := false
  /-- derating ceiling published; none = withdrawn (09 R312 CEIL_T; 16 bits, 0.1 A) -/
  ceilT : Option Nat := none
  /-- last IDC (09 R333 IDC; 16 bits, 0.01 mA) -/
  idc : Nat := 0
  /-- last IAC (09 R333 IAC; 12 bits, 0.1 mA) -/
  iac : Nat := 0
  /-- the SSMs request CP_MODE 2 and LOCK hold until the lock-out is cleared (09 R302; 1 bit) -/
  weldHold : Bool := false
  deriving DecidableEq, Repr

end Sys2Proof.Machine
end

