-- ==== Sys2Proof/Parts/P10.lean ====
section
/-! DEFINITION. Control pilot, proximity and socket (spec/10): the part of the state that this chapter gives the machine. -/

namespace Sys2Proof.Machine

/-- The pilot, lock, indicator and point state of one point index, as SES keeps them. -/
structure PtCp where
  /-- point state of Table 10.6 (10 R354 PSTATE; 8 bits) -/
  pst : PState := .absent
  /-- count of the boundary of the last PSTATE change (10 Table 10.9 PSTATE_AT; 64 bits) -/
  pstAt : Nat := 0
  /-- service state: in (true) or out; none = the index never received a POINT record (10 R357 SERVICE; 8 bits, MRAM) -/
  service : Option Bool := none
  /-- service state order pending: state and the count of its boundary (10 R357; -) -/
  svcPend : Option (Bool × Nat) := none
  /-- control-pilot state (10 R342 CP_STATE; 4 bits) -/
  cp : CpState := .unknown
  /-- state confirmed in the cycle in progress, to act at its end (10 R355; -) -/
  cpPend : Option CpState := none
  /-- mode as sent (10 Table 10.9 CP_MODE; 4 bits) -/
  cpMode : Nat := 0
  /-- duty as sent (10 Table 10.9 DUTY; 10 bits, 0.1 %) -/
  duty : Nat := 0
  /-- cable code (10 R348 CABLE; 8 bits) -/
  cable : Cable := .none
  /-- lock state (10 Table 10.9 LOCK; 8 bits) -/
  lock : LockSt := .none
  /-- LOCK command as sent (10 R349; 2 bits) -/
  lockCmd : Nat := 0
  /-- target of the drive in progress or awaiting its retry: 1 locked, 2 unlocked, 0 none (10 R349; 2 bits) -/
  lockDir : Nat := 0
  /-- drives made toward the target (10 R350; 0-3) -/
  lockTry : Nat := 0
  /-- command to be sent from the next boundary, 3 brake, 0 release (with lockPendOn) (10 R349; 2 bits) -/
  lockPend : Nat := 0
  /-- lockPend waits for the next boundary (10 R349; 1 bit) -/
  lockPendOn : Bool := false
  /-- boundaries of braking still to pass (10 R349; 0-2 cy) -/
  brakeLeft : Nat := 0
  /-- consecutive cycles in which LOCK_FB reported unlocked during a lock fault (10 R364; 0-50 cy) -/
  lockFaultRun : Nat := 0
  /-- indicator duty as sent (10 R352 IND; 8 bits) -/
  ind : Nat := 0
  /-- boundary (clk.bndTot) at which the pattern's state was entered (10 R352; boundaries) -/
  indAt : Nat := 0
  /-- last PP value (10 Table 10.9 PP; 16 bits) -/
  pp : Nat := 65535
  /-- last CP_HI (10 Table 10.9 CP_HI; 16 bits, mV) -/
  cpHi : Int := 0
  /-- last CP_LO (10 Table 10.9 CP_LO; 16 bits, mV) -/
  cpLo : Int := 0
  /-- merged ceiling (10 Table 10.9 CEIL; 16 bits, 0.1 A) -/
  ceil : Nat := 0
  /-- level 3 term (10 Table 10.9 CEIL_LLIM; 16 bits, 0.1 A) -/
  llim : Option Nat := none
  /-- level 5 term (10 Table 10.9 CEIL_SHARE; 16 bits, 0.1 A) -/
  share : Option Nat := none
  /-- vehicle request (10 Table 10.9 CEIL_VEH; 16 bits, 0.1 A) -/
  veh : Option Nat := none
  /-- sessions since start (10 Table 10.9 SESSIONS; 32 bits saturating) -/
  sessions : Nat := 0
  /-- lock faults since start (10 Table 10.9 LOCK_FAULTS; 32 bits) -/
  lockFaults : Nat := 0
  /-- pilot and generator faults since start (10 Table 10.9 CP_FAULTS; 32 bits) -/
  cpFaults : Nat := 0
  /-- returns to service since start (10 Table 10.9 RETURNS; 32 bits) -/
  returns : Nat := 0
  /-- consecutive cycles in state A under CP_MODE 0 (10 R356; 0-50 cy) -/
  aRun : Nat := 0
  /-- boundary (clk.bndTot) at which it went out of service (10 Table 10.10 0x4101; boundaries) -/
  outSince : Nat := 0
  /-- generator fault of the head (10 R344; 1 bit) -/
  genFault : Bool := false
  /-- pilot fault holds (10 R343; 1 bit) -/
  pilotFault : Bool := false
  /-- lock fault: direction, 0 none (10 R350; 2 bits) -/
  lockFault : Nat := 0
  /-- a close request of SES is with the SSMs (10 R355; 1 bit) -/
  closeReq : Bool := false
  /-- boundary (clk.bndTot) of a first failed close attempt: no new close request for 5 s (10 R355; boundaries) -/
  closeHold : Option Nat := none
  deriving DecidableEq, Repr

end Sys2Proof.Machine
end

