-- ==== Sys2Proof/Parts/P11.lean ====
section
/-! DEFINITION. Power-line link to the vehicle (spec/11): the part of the state that this chapter gives the machine. -/

namespace Sys2Proof.Machine

/-- An MPDU: its descriptor word and its bytes (R376-R378). -/
structure Mpdu where
  /-- descriptor as sent or received (11 R377; 64 bits) -/
  desc : Nat := 0
  /-- frame control and PBs (11 R376; at most 2 616 bytes) -/
  body : List (BitVec 8) := []
  deriving DecidableEq, Repr

/-- One SOUND report of the run being served (R390). -/
structure SoundRep where
  /-- RX_TICK of the sound MPDU (11 R377; 16 bits) -/
  tick : Nat := 0
  /-- attenuation of groups 0-57 (11 R390; 58 bytes, dB) -/
  atten : List Nat := []
  deriving DecidableEq, Repr

/-- The power-line link of one point, as SES keeps it. -/
structure PtPlc where
  /-- SLAC state of Table 11.6 (11 R389; -) -/
  slac : SlacSt := .idle
  /-- RunID being served (11 R389; 64 bits) -/
  runId : Nat := 0
  /-- vehicle MAC address (11 R389, 12 R440 VEH_MAC; 48 bits) -/
  mac : Nat := 0
  /-- SOUND reports received for the run (11 R389, R390; at most 10) -/
  sounds : List SoundRep := []
  /-- CM_START_ATTEN_CHAR.IND received in the run (11 R388; counter) -/
  startSeen : Nat := 0
  /-- CM_ATTEN_CHAR.IND sends made (11 R388; 0-3) -/
  sends : Nat := 0
  /-- group means last sent in CM_ATTEN_CHAR.IND (11 R390; 58 bytes, dB) -/
  attenInd : List Nat := []
  /-- failed matchings in this plug-in (11 R389; 0-3) -/
  failures : Nat := 0
  /-- NMK of the logical network (11 R375; 128 bits) -/
  nmk : Nat := 0
  /-- NEK of the logical network (11 R375; 128 bits) -/
  nek : Nat := 0
  /-- SNID of the point's network (11 R377, R389; 4 bits) -/
  snid : Nat := 0
  /-- the network is set (11 R377 VALID; 1 bit) -/
  netValid : Bool := false
  /-- TEI given to the vehicle's station (11 R374; 8 bits) -/
  joinTei : Nat := 0
  /-- TX_MPDUs sent and not yet reported (11 R380; 0-8) -/
  txCount : Nat := 0
  /-- MPDUs held while the count is 8 (11 R380; queue) -/
  held : List Mpdu := []
  /-- MPDUs received and not yet decoded by SES (11 R376; queue) -/
  rx : List Mpdu := []
  /-- run of receive drops in progress: cycles since the last drop (11 Table 11.7 0x4205; cy) -/
  dropQuiet : Option Nat := none
  /-- no working pipe: HLC_EN counts as 0 from the next plug-in (11 R387; 1 bit) -/
  noHlc : Bool := false
  /-- beacons sent in the network (11 R374; counter) -/
  beacons : Nat := 0
  /-- SLAC answers sent in the run (the model's own record of what went out) (11 R389; list, newest first) -/
  slacMsgs : List SlacOut := []
  deriving DecidableEq, Repr

/-- One receive pipe of a head (Table 11.4), held in MRAM by HEAD_SERIAL. -/
structure Pipe where
  /-- pipe state (11 R386, R399; MRAM) -/
  st : PipeSt := .inService
  /-- failure count (11 R399; MRAM) -/
  fails : Nat := 0
  /-- pass count of the re-test (11 R399; MRAM) -/
  passes : Nat := 0
  /-- boundary (clk.bndTot) of the last test of a retired pipe (11 R386; boundaries) -/
  retestAt : Nat := 0
  deriving DecidableEq, Repr

/-- The pipe rotation of one head. -/
structure Pipes where
  /-- HEAD_SERIAL the stored states belong to (11 R399; 64 bits, MRAM) -/
  serial : Option Nat := none
  /-- pipes 0-3 home, 4 spare (11 R383; 5 pipes) -/
  pipes : Vector Pipe 5 := #v[{}, {}, {}, {}, { st := .spare }]
  /-- point that the hub has asked pipe 4 to serve, 7 none (06 PIPE_SPARE, 11 R384; 3 bits) -/
  spareFor : Nat := 7
  /-- position in the rotation 4, 0, 1, 2, 3 (11 R383; 0-4) -/
  idx : Nat := 0
  /-- pipe of the step in progress, 7 none (11 R383; 3 bits) -/
  stepPipe : Nat := 7
  /-- TEST of the step has been sent (11 R383; 1 bit) -/
  testSent : Bool := false
  /-- RETURN at the next boundary (11 R383, R386; 1 bit) -/
  returnDue : Bool := false
  /-- point whose SWAP is due at the next boundary, 7 none (11 R386; 3 bits) -/
  swapDue : Nat := 7
  /-- the head is admitted and the rotation runs (11 R399; 1 bit) -/
  on : Bool := false
  deriving DecidableEq, Repr

/-- The power-line side of one point inside the head. -/
structure HeadPlc where
  /-- TEI of the point's CCo (11 R377 NET; 8 bits) -/
  tei : Nat := 0
  /-- short network identifier (11 R377 NET; 4 bits) -/
  snid : Nat := 0
  /-- network set (11 R377 NET; 1 bit) -/
  valid : Bool := false
  /-- gain codes of carriers 74-1 228; empty = built-in default (11 R371; gain codes) -/
  filt : List Nat := []
  /-- level trim (11 R377 TX_FILTER; 8 bits, 0.5 dB) -/
  trim : Int := 0
  /-- occupied transmit buffers (11 R379; at most 8) -/
  tx : List Mpdu := []
  /-- occupied receive buffers (11 R379; at most 8) -/
  rx : List Mpdu := []
  /-- MPDUs dropped since the last RX_MPDU (11 R377 DROPS; 8 bits saturating) -/
  drops : Nat := 0
  /-- last SACK sent: positive, or every PB marked failed (the model's own record of what went out) (11 R373, R381; 1 bit) -/
  sack : Option Bool := none
  /-- a message is open (SOM seen, EOM not) (11 R392; 1 bit) -/
  openMsg : Bool := false
  /-- reports waiting to go upstream (11 R376; queue) -/
  up : List Mpdu := []
  deriving DecidableEq, Repr

/-- The receive pipes of a head, as the head itself works them. -/
structure HeadPipes where
  /-- point served by pipe 4, 7 none (06 PIPE_SPARE; 3 bits) -/
  spareFor : Nat := 7
  /-- handover in progress: pipe that is to take the point (11 R384; -) -/
  handTo : Option Nat := none
  /-- point of that handover (11 R384; 3 bits) -/
  handPt : Nat := 7
  /-- pipe under TEST and the point whose tunnel asked for it (11 R385; -) -/
  testing : Option (Nat × Nat) := none
  /-- pipe passes (06 PIPE_OK; 5 bits) -/
  ok : Vector Bool 5 := Vector.replicate 5 true
  /-- the four points (11 R379; 4 points) -/
  pts : Vector HeadPlc 4 := Vector.replicate 4 {}
  deriving DecidableEq, Repr

end Sys2Proof.Machine
end

