-- ==== Sys2Proof/Parts/P12.lean ====
section
/-! DEFINITION. Charging sessions (spec/12): the part of the state that this chapter gives the machine. -/

namespace Sys2Proof.Machine

/-- One session context (R412, Table 12.4, Table 12.11). -/
structure PtSes where
  /-- stage of Table 12.4 (12 R413 STAGE; 8 bits) -/
  stage : Stage := .idle
  /-- session number of the context, 0 none (12 R412 SESSION; 32 bits) -/
  no : Nat := 0
  /-- last four bytes of the SessionID, from the DRBG (12 R412; 32 bits) -/
  idTail : Nat := 0
  /-- 0 basic, 1 -2, 2 -20 AC, 3 -20 AC_BPT (12 R440 PROTO; 4 bits) -/
  proto : Nat := 0
  /-- 0 none, 1 TLS 1.2, 2 TLS 1.3 (12 R440 TLS; 2 bits) -/
  tls : Nat := 0
  /-- security value of the SDP response (12 R407; 1 bit) -/
  tlsWanted : Bool := false
  /-- 0 none, 1 scheduled, 2 dynamic (12 R440 MODE; 2 bits) -/
  mode : Nat := 0
  /-- path code of the binding (12 R440 PATH; 4 bits) -/
  path : Nat := 0
  /-- in the admission queue (12 R419 DEFERRED; 1 bit) -/
  deferred : Bool := false
  /-- HLC withdrawn for the plug-in (12 R436 HLC_OFF; 1 bit) -/
  hlcOff : Bool := false
  /-- strikes in the plug-in (12 R436 STRIKES; 0-3) -/
  strikes : Nat := 0
  /-- tenant of the binding (12 R440 TENANT; 16 bits) -/
  tenant : Nat := 0
  /-- end reason of the last session (12 R440 LAST_REASON; 8 bits) -/
  lastReason : Nat := 0
  /-- requests answered in the session (12 R440 MSGS; 32 bits) -/
  msgs : Nat := 0
  /-- count of the session's start (12 R440 START_COUNT; 64 bits) -/
  startCnt : Nat := 0
  /-- count of the last session's end (12 R440 END_COUNT; 64 bits) -/
  endCnt : Nat := 0
  /-- normalised eMAID (12 R417 EMAID; 14 bytes) -/
  emaid : List Nat := []
  /-- last response time (12 R440 RESP_LAST; 16 bits, ms) -/
  respLast : Nat := 0
  /-- longest response time since start (12 R440 RESP_MAX; 16 bits, ms) -/
  respMax : Nat := 0
  /-- time spent deferred (12 R440 SDP_WAIT; 16 bits saturating, ms) -/
  sdpWait : Nat := 0
  /-- SDP requests counted in the running second (12 R436; counter) -/
  sdpCount : Nat := 0
  /-- export ceiling (12 R425 EXP_CEIL; 16 bits, 0.1 A) -/
  expCeil : Nat := 0
  /-- demand last reported (12 R426 DEMAND; 16 bits, 0.1 A) -/
  demand : Nat := 0
  /-- power last sent (12 R440 TARGET_P; 32 bits, W) -/
  targetP : Int := 0
  /-- EVMaximumChargePower (12 R440 EV_MAXP; 32 bits, W) -/
  evMaxP : Nat := 0
  /-- EVMaxCurrent under -2 (12 R426; 0.1 A) -/
  evMaxI : Nat := 0
  /-- EVMaximumDischargePower (12 R425; W) -/
  evMaxDis : Nat := 0
  /-- a renegotiation is running (12 R423, R430; 1 bit) -/
  reneg : Bool := false
  /-- the next response carries the renegotiation notification (12 R423; 1 bit) -/
  notify : Bool := false
  /-- the ceiling lies below 6.0 A: 0 A and 0 W are reported (12 R424; 1 bit) -/
  pauseNote : Bool := false
  /-- PnC selected (12 R418; 1 bit) -/
  pnc : Bool := false
  /-- EIM selected (12 R418, 13 R455; 1 bit) -/
  eim : Bool := false
  /-- the contract chain has verified (12 R416, R418; 1 bit) -/
  chainOk : Bool := false
  /-- the first AuthorizationReq has come (EIM_WAIT runs) (12 R418; 1 bit) -/
  authSince : Bool := false
  /-- MeterReading of the last receipt (12 R427; Wh) -/
  receiptAt : Nat := 0
  /-- consecutive cycles of overdraw per phase (12 R437; 3 x 0-250 cy) -/
  overRun : Vector Nat 3 := Vector.replicate 3 0
  /-- grace left after a fall of the ceiling (12 R437; 0-500 cy) -/
  grace : Nat := 0
  /-- the session is stalled (12 R420; 1 bit) -/
  stalled : Bool := false
  /-- the first stall of the session has been reported (12 R420; 1 bit) -/
  stallSeen : Bool := false
  /-- progress of the TLS handshake: 1 the server flight has gone out, 2 the key exchange or the vehicle's certificate step is done (12 R409, R410; 0-2) -/
  hs : Nat := 0
  /-- a SessionID has been given on this connection (12 R412; 1 bit) -/
  idSet : Bool := false
  /-- the contract's start notice has been refused; the next AuthorizationReq is answered FAILED (12 R418, Table 12.4; 1 bit) -/
  authBad : Bool := false
  /-- MeterReading last sent (12 R427; Wh) -/
  meterSent : Nat := 0
  /-- the TCP connection stands (12 R408; 1 bit) -/
  tcpOpen : Bool := false
  /-- retransmissions made (12 R408; 0-5) -/
  retrans : Nat := 0
  /-- a HelloRetryRequest has been sent (12 R410; 1 bit) -/
  helloRetry : Bool := false
  /-- end decided, its actions taken at the next boundary (12 R414; reason) -/
  ended : Option Nat := none
  /-- last answer sent: message kind and response code (the model's own record of what went out) (12 R402; kind, code) -/
  answer : Option (Nat × Nat) := none
  /-- duplicate address detection done (12 R406; 1 bit) -/
  dad : Bool := false
  deriving DecidableEq, Repr

/-- Values that all sessions share. -/
structure SesSys where
  /-- admission queue, first deferred first, of one tick the lower point first (12 R419, R433; tick starts, points) -/
  admission : List (Nat × Nat) := []
  /-- points that hold an admission slot (12 R419 HANDSHAKES; at most 8 points) -/
  handshakes : List Nat := []
  /-- stalls since start (12 R440 STALLS; 32 bits) -/
  stalls : Nat := 0
  /-- late responses since start (12 R440 LATE; 32 bits) -/
  late : Nat := 0
  /-- next session number to be drawn (12 R412, R429; 32 bits, MRAM) -/
  nextNo : Nat := 1
  /-- 0xFFFF_FFFF has been drawn (12 R429; MRAM) -/
  exhausted : Bool := false
  deriving DecidableEq, Repr

end Sys2Proof.Machine
end

