-- ==== Sys2Proof/Parts/P13.lean ====
section
/-! DEFINITION. Authorisation and tenants (spec/13): the part of the state that this chapter gives the machine. -/

namespace Sys2Proof.Machine

/-- One entry of the token replay table (R451). -/
structure Replay where
  /-- tenant ID (13 R451; 16 bits, MRAM) -/
  tenant : Nat := 0
  /-- nonce of the token (13 R451; 64 bits, MRAM) -/
  nonce : Nat := 0
  /-- EXPIRY of the token (13 R451; 64 bits, MRAM) -/
  expiry : Nat := 0
  deriving DecidableEq, Repr

/-- A pending authorisation of a point (R452, R454). -/
structure PendAuth where
  /-- path code, 2 or 3 (13 R467 PEND_PATH; 4 bits) -/
  path : Nat := 0
  /-- tenant pending (13 R467 PEND_TENANT; 16 bits) -/
  tenant : Nat := 0
  /-- EXPIRY (path 2) or VALID_COUNT (path 3) (13 R467 PEND_UNTIL; 64 bits) -/
  untilCnt : Nat := 0
  /-- nonce of the token held (13 R453; 64 bits) -/
  nonce : Nat := 0
  deriving DecidableEq, Repr

/-- Authorisation at one point. -/
structure PtAuth where
  /-- pending authorisation (13 R452; -) -/
  pend : Option PendAuth := none
  /-- authorisations that became ready in the cycle in progress, in order of arrival (13 R456; path, tenant, nonce) -/
  ready : List (Nat × Nat × Nat) := []
  /-- last refusal reason of Table 13.6 (13 R467 LAST_REASON; 8 bits) -/
  lastReason : Nat := 0
  /-- last refusal reason of Table 13.9 (13 R460; 8 bits) -/
  ledReason : Nat := 0
  /-- token whose notice has been placed and whose result is not yet final (13 R453; tenant, nonce) -/
  waitTok : Option (Nat × Nat) := none
  deriving DecidableEq, Repr

/-- Authorisation values of the hub. -/
structure AuthSys where
  /-- replay table (13 R451; at most 128, MRAM) -/
  replay : List Replay := []
  /-- tokens bound or held since start (13 R467 TOKENS_OK; 32 bits saturating) -/
  tokensOk : Nat := 0
  /-- tokens refused since start (13 R467 TOKENS_REFUSED; 32 bits) -/
  tokensRefused : Nat := 0
  /-- notices refused with reason 4 in this period (13 R467 FULL_REFUSALS; 32 bits, MRAM) -/
  fullRefusals : Nat := 0
  /-- authorisations lost in the cycle since start (13 R467 LOST; 32 bits) -/
  lost : Nat := 0
  /-- token result and its MAC last placed in the hub-to-field mailbox (13 R453; two words) -/
  result : List W128 := []
  deriving DecidableEq, Repr

end Sys2Proof.Machine
end

