-- ==== Sys2Proof/Parts/P14.lean ====
section
/-! DEFINITION. Tariffs, ledger and billing periods (spec/14): the part of the state that this chapter gives the machine. -/

namespace Sys2Proof.Machine

/-- The session record of a point: running values of words 4-26 of its session seal (R509). -/
structure SesRec where
  /-- import booked per tariff (15 R508 IMP_E; 4 x 128 bits, MRAM) -/
  impT : Vector Nat 4 := Vector.replicate 4 0
  /-- export booked per tariff (15 R508 EXP_E; 4 x 128 bits, MRAM) -/
  expT : Vector Nat 4 := Vector.replicate 4 0
  /-- import amount, fee included (15 R508 IMP_AMT; 128 bits, MRAM) -/
  impAmt : Nat := 0
  /-- export credit (15 R508 EXP_CR; 128 bits, MRAM) -/
  expCr : Nat := 0
  /-- session fee booked (15 R508 FEE; 128 bits, MRAM) -/
  fee : Nat := 0
  /-- charging seconds booked (15 R508 SECONDS; 128 bits, MRAM) -/
  seconds : Nat := 0
  /-- bridged share of import (15 R508 BRG_IMP; 128 bits, MRAM) -/
  brgImp : Nat := 0
  /-- additions to EST_IMP (15 R508 EST_IMP; 128 bits, MRAM) -/
  estImp : Nat := 0
  /-- ACT_IMP after the last cycle covered (15 R508 REG_IMP_E; 128 bits, MRAM) -/
  regImpE : Nat := 0
  /-- ACT_EXP after the last cycle covered (15 R508 REG_EXP_E; 128 bits, MRAM) -/
  regExpE : Nat := 0
  /-- a bridged tick (15 R508; 1 bit, MRAM) -/
  bridged : Bool := false
  /-- a gap tick (15 R508; 1 bit, MRAM) -/
  gap : Bool := false
  /-- CLK set in some cycle (15 R508; 1 bit, MRAM) -/
  clk : Bool := false
  /-- SUBST set (15 R508; 1 bit, MRAM) -/
  subst : Bool := false
  /-- OVR set (15 R508; 1 bit, MRAM) -/
  ovr : Bool := false
  /-- SFAULT set (15 R508; 1 bit, MRAM) -/
  sfault : Bool := false
  /-- ran across a period close (15 R508; 1 bit, MRAM) -/
  split : Bool := false
  /-- closed by the outage sequence (15 R508; 1 bit, MRAM) -/
  isPartial : Bool := false
  /-- a cell or register saturated (15 R508; 1 bit, MRAM) -/
  sat : Bool := false
  deriving DecidableEq, Repr

/-- An open binding of a point. -/
structure Binding where
  /-- tenant bound (01 R29; 16 bits) -/
  tenant : Nat := 0
  /-- authorisation path (13 R446; 4 bits) -/
  path : Nat := 0
  /-- session number (12 R412; 32 bits) -/
  session : Nat := 0
  /-- ledger slot (13 R460; 8 bits) -/
  slot : Nat := 0
  /-- count of the accept boundary (14 R476; 64 bits) -/
  s : Nat := 0
  /-- the same boundary by clk.bndTot (the 50 cy cadence counts boundaries) (14 R478; boundaries) -/
  sBnd : Nat := 0
  /-- tariff of cycle s (14 R477; 2 bits) -/
  startTariff : Nat := 0
  /-- end notice accepted: its reason; the end boundary is endAt (14 R477, 12 R414; reason) -/
  endReason : Option Nat := none
  /-- count of the end boundary e (14 R476; 64 bits) -/
  endAt : Nat := 0
  /-- the same boundary by clk.bndTot (14 R476; boundaries) -/
  endBnd : Nat := 0
  /-- IMP_E booked by the session (14 R477; Q96.32) -/
  impE : Nat := 0
  /-- ACT_IMP at the session's start boundary (15 R513; 128 bits) -/
  startImp : Nat := 0
  /-- ACT_EXP at the session's start boundary (15 R513; 128 bits) -/
  startExp : Nat := 0
  /-- RTC seconds latched at the start boundary (15 R513; 64 bits) -/
  startRtc : Nat := 0
  /-- the hub has been SEALED in every cycle so far (the UNSEALED flag is its negation) (15 R507; 1 bit) -/
  startSealed : Bool := false
  /-- startImp and startExp have been taken (15 R508; 1 bit) -/
  regSet : Bool := false
  /-- RTC seconds latched at the end boundary (15 R508 END_RTC; 64 bits) -/
  endRtc : Nat := 0
  /-- class at binding (15 R508 CLASS; 2 bits) -/
  cls : Nat := 0
  /-- protocol of the session, from its end notice (15 R508 PROTO; 4 bits) -/
  proto : Nat := 0
  /-- eMAID of a contract session (15 R508 EMAID; 14 bytes) -/
  emaid : List Nat := []
  /-- its end commit has been formed (14 R477; 1 bit) -/
  endBooked : Bool := false
  /-- period of cycle e - 1 (15 R508 PERIOD_NO; 32 bits) -/
  endPeriod : Nat := 0
  /-- running values of its session record (15 R509; -) -/
  run : SesRec := {}
  /-- running values at its last tied boundary (15 R509; -) -/
  runTied : SesRec := {}
  deriving DecidableEq, Repr

/-- Booked amounts of a slot and tariff that await their commit. -/
structure Pend where
  /-- bank of the period of the cycle (14 R476; 2 bits) -/
  bank : Nat := 0
  /-- slot (14 R476; 8 bits) -/
  slot : Nat := 0
  /-- point of the binding (14 R478; 8 bits) -/
  point : Nat := 0
  /-- tariff (14 R476; 2 bits) -/
  tariff : Nat := 0
  /-- import energy (14 R476; Q96.32) -/
  impE : Nat := 0
  /-- export energy (14 R476; Q96.32) -/
  expE : Nat := 0
  /-- import amount, truncated (14 R476; Q96.32) -/
  impAmt : Nat := 0
  /-- export credit, truncated (14 R476; Q96.32) -/
  expCr : Nat := 0
  /-- charging time, whole seconds (14 R476; s) -/
  sec : Nat := 0
  /-- sessions to be counted (14 R477; count) -/
  sess : Nat := 0
  /-- a tied boundary has passed: it is due for commit (14 R478; 1 bit) -/
  tied : Bool := false
  /-- it belongs to an end commit (14 R483; 1 bit) -/
  isEnd : Bool := false
  /-- it is tied to a period close (14 R483; 1 bit) -/
  isClose : Bool := false
  deriving DecidableEq, Repr

/-- One ledger slot in one bank. -/
structure SlotRow where
  /-- tenant bound, 0 free (14 R474 TENANT; 16 bits, MRAM) -/
  tenant : Nat := 0
  /-- class recorded at binding (14 R474 CLASS; 2 bits, MRAM) -/
  cls : Nat := 0
  /-- binding carried over a close (14 R474 CARRIED; 1 bit, MRAM) -/
  carried : Bool := false
  /-- cells saturated (14 R474 SAT; 24 bits, MRAM) -/
  sat : List Nat := []
  /-- count of the binding boundary in this period (14 R474 BIND_COUNT; 64 bits, MRAM) -/
  bindCount : Nat := 0
  /-- cells 6t + k, in units of their step (14 R474; 24 x 128 bits, MRAM) -/
  cells : Vector Nat 24 := Vector.replicate 24 0
  deriving DecidableEq, Repr

/-- One of the four ledger banks. -/
structure Bank where
  /-- period number in the tag word (14 R484 PERIOD_NO; 32 bits, MRAM) -/
  period : Nat := 0
  /-- 0 current, 1 closed-1, 2 closed-2, 3 spare (14 R484 ROLE; 8 bits, MRAM) -/
  role : Nat := 3
  /-- slots that are not all zero, by slot number, ascending (14 R474; 256 slots, MRAM) -/
  rows : List (Nat × SlotRow) := []
  deriving DecidableEq, Repr

/-- One intent slot (Table 14.4). -/
structure Intent where
  /-- transaction sequence number (14 R481 SEQ; 64 bits, MRAM) -/
  seq : Nat := 0
  /-- address and new value of each entry (14 R481; at most 16, MRAM) -/
  entries : List (Nat × Nat) := []
  /-- equal to SEQ once done (14 R481 DONE_SEQ; 64 bits, MRAM) -/
  done : Nat := 0
  deriving DecidableEq, Repr

/-- Carried remainders of a slot (R476), in SRAM. -/
structure Remainder where
  /-- bank (14 R476; 2 bits) -/
  bank : Nat := 0
  /-- slot (14 R476; 8 bits) -/
  slot : Nat := 0
  /-- tariff (14 R476; 2 bits) -/
  tariff : Nat := 0
  /-- remainder of IMP_AMT (14 R476; exact) -/
  impAmt : Rat := 0
  /-- remainder of EXP_CR (14 R476; exact) -/
  expCr : Rat := 0
  /-- remainder of SECONDS (14 R476; ns) -/
  ns : Nat := 0
  deriving DecidableEq, Repr

/-- The period record (R484). -/
structure Period where
  /-- current period number, 0 = none opened yet (14 R484; 32 bits, MRAM) -/
  no : Nat := 0
  /-- bank of current, closed-1, closed-2, spare (14 R491 BANKS; 4 x 2 bits, MRAM) -/
  banks : Vector Nat 4 := #v[0, 1, 2, 3]
  /-- currency of the period (14 R473 CUR_NUM; 16 bits, MRAM) -/
  cur : Nat := 0
  /-- alphabetic code of the currency (14 R473; 24 bits, MRAM) -/
  curAlpha : Nat := 0
  /-- count at which the period opened (14 R491 P_START; 64 bits, MRAM) -/
  startCount : Nat := 0
  /-- RTC seconds at which it opened (14 R484; 64 bits, MRAM) -/
  startRtc : Nat := 0
  /-- next close instant (14 R491 NEXT_CLOSE; 64 bits, MRAM) -/
  nextClose : Nat := 0
  /-- next snapshot instant (14 R491 NEXT_SNAP; 64 bits, MRAM) -/
  nextSnap : Nat := 0
  /-- statements of the last close sealed (14 R491 SEALED; 16 bits, MRAM) -/
  sealedN : Nat := 0
  /-- the spare bank has been zeroed (14 R484; 1 bit, MRAM) -/
  zeroed : Bool := true
  /-- PERIOD schedule (month, day, minute) the instants were computed from (14 R485; 32 bits, MRAM) -/
  schedule : Nat := 0
  deriving DecidableEq, Repr

/-- One monthly snapshot (Table 14.5). -/
structure Snapshot where
  /-- period of the totals (14 R487; 32 bits, MRAM) -/
  period : Nat := 0
  /-- ring position (14 R487; 8 bits, MRAM) -/
  index : Nat := 0
  /-- count of the snapshot boundary (14 R487; 64 bits, MRAM) -/
  count : Nat := 0
  /-- RTC seconds latched there (14 R487; 64 bits, MRAM) -/
  rtc : Nat := 0
  /-- bound slots: slot, tenant, four totals (14 R487; MRAM) -/
  rows : List (Nat × Nat × List Nat) := []
  deriving DecidableEq, Repr

/-- The close whose statements are still to be sealed (R488). -/
structure CloseInfo where
  /-- bank of the closed period (14 R488; 2 bits, MRAM) -/
  bank : Nat := 0
  /-- period closed (15 R511; 32 bits, MRAM) -/
  period : Nat := 0
  /-- count at which it opened (15 R511 P_START; 64 bits, MRAM) -/
  pStart : Nat := 0
  /-- RTC seconds at which it opened (15 R511 P_START_RTC; 64 bits, MRAM) -/
  pStartRtc : Nat := 0
  /-- close boundary B (15 R511 CLOSE_COUNT; 64 bits, MRAM) -/
  count : Nat := 0
  /-- close instant taken (15 R511 CLOSE_INSTANT; 64 bits, MRAM) -/
  instant : Nat := 0
  /-- currency of the period closed (15 R505 CUR_NUM; 16 bits, MRAM) -/
  cur : Nat := 0
  /-- the hub was SEALED in every cycle of the period (15 R507; 1 bit, MRAM) -/
  legal : Bool := false
  deriving DecidableEq, Repr

/-- A monthly snapshot that waits for the commits tied to its boundary (R487). -/
structure SnapWait where
  /-- bank of the cycles up to B - 1 (14 R487; 2 bits) -/
  bank : Nat := 0
  /-- boundary number (14 R487; counter) -/
  bnd : Nat := 0
  /-- count of B (14 R487; 64 bits) -/
  count : Nat := 0
  /-- RTC seconds latched at B (14 R487; 64 bits) -/
  rtc : Nat := 0
  deriving DecidableEq, Repr

/-- Tariffs, ledger, intents and periods of the hub. -/
structure Led where
  /-- codes sampled in the cycle in progress (14 R469; samples) -/
  tarCodes : List Nat := []
  /-- consecutive cycles reading one code other than the active one (14 R491 STABLE_N; 0-4) -/
  tarRun : Nat := 0
  /-- that code (14 R470; 2 bits) -/
  tarRunCode : Nat := 0
  /-- code read in the last stable cycle (14 R491 READ; 2 bits) -/
  tarRead : Nat := 0
  /-- the last cycle was unstable (14 R491 UNSTABLE; 1 bit) -/
  tarUnstable : Bool := false
  /-- code of the last cycle since C0 that was not unstable (14 R471; 2 bits) -/
  tarLastOk : Option Nat := none
  /-- readings of the last four cycles, newest first (14 R471; at most 4) -/
  tarBoot : List (Option Nat) := []
  /-- active tariff (14 R491 ACTIVE; 2 bits) -/
  active : Nat := 0
  /-- a switch due at this boundary: the new tariff (14 R470; 2 bits) -/
  tarDue : Option Nat := none
  /-- count of the last tariff switch (14 R491 SWITCH_COUNT; 64 bits) -/
  switchCount : Nat := 0
  /-- consecutive unstable cycles (14 R494; cy) -/
  unstRun : Nat := 0
  /-- open bindings (01 R30, 13 R468; 32) -/
  binds : Vector (Option Binding) 32 := Vector.replicate 32 none
  /-- amounts booked and not yet committed (14 R478; list) -/
  pends : List Pend := []
  /-- carried remainders (14 R476, R502; list) -/
  rems : List Remainder := []
  /-- ledger banks (14 R484, R482; MRAM and its SRAM mirror) -/
  banks : Vector Bank 4 := Vector.replicate 4 {}
  /-- intent log (14 R481; 16 slots, MRAM) -/
  intents : Vector Intent 16 := Vector.replicate 16 {}
  /-- SEQ of the last transaction (14 R491 LAST_SEQ; 64 bits, MRAM) -/
  lastSeq : Nat := 0
  /-- transactions waiting at the last boundary (14 R491 DEFERRED; 16 bits) -/
  deferred : Nat := 0
  /-- period record (14 R484; two copies, MRAM) -/
  period : Period := {}
  /-- monthly snapshots by ring position (14 R487; ring of 24, MRAM) -/
  snaps : List Snapshot := []
  /-- ring position of the next snapshot (14 R491 SNAP_NEXT; 8 bits, MRAM) -/
  snapNext : Nat := 0
  /-- a period close is due at this boundary (14 R486; 1 bit) -/
  closeDue : Bool := false
  /-- the last close (14 R488, 15 R511; MRAM) -/
  closing : CloseInfo := {}
  /-- headers of carried bindings still to be written (14 R483, R489; slots) -/
  hdrDue : List Nat := []
  /-- transactions that wait for the next boundary, in order (14 R483; slots) -/
  waiting : List Nat := []
  /-- intents written at the boundary in progress (14 R483; 0-16) -/
  intentsNow : Nat := 0
  /-- event 0x5033 has been written at the boundary in progress (14 R483; 1 bit) -/
  defSeen : Bool := false
  /-- boundaries to which a commit of every open binding is tied (tariff switch, snapshot, close); true: a period close (14 R478; boundary numbers) -/
  ties : List (Nat × Bool) := []
  /-- event 0x5002 has been written in the run of unstable cycles (14 R494; 1 bit) -/
  unstSeen : Bool := false
  /-- boundary number at which the last statement of the close was sealed (14 R488; counter) -/
  sealedBnd : Nat := 0
  /-- snapshot to be taken once the commits tied to its boundary are written (14 R487; -) -/
  snapWait : Option SnapWait := none
  /-- slots of the closed period whose statement is still to be sealed (14 R488; slots, MRAM) -/
  sealing : List Nat := []
  /-- the slots of the closed period are still to be freed (14 R488; 1 bit, MRAM) -/
  freeDue : Bool := false
  /-- slots carried by the last close (14 R489; slots, MRAM) -/
  carried : List Nat := []
  /-- event 0x5012 has been written in this period (13 R460; 1 bit, MRAM) -/
  slotFullSeen : Bool := false
  /-- tenants in the block list, ascending (13 R458; 65 536 bits, MRAM) -/
  blocks : List Nat := []
  /-- block and unblock orders waiting for their boundary (13 R458; tenant, set, count) -/
  blockPend : List (Nat × Bool × Nat) := []
  deriving DecidableEq, Repr

end Sys2Proof.Machine
end

