-- ==== Sys2Proof/Parts/P15.lean ====
section
/-! DEFINITION. Sealed records and wired readout (spec/15): the part of the state that this chapter gives the machine. -/

namespace Sys2Proof.Machine

/-- One of the two MRAM copies of a session record (R509). -/
structure SesCopy where
  /-- SEQ of the transaction it belongs to (15 R509; 64 bits, MRAM) -/
  stamp : Nat := 0
  /-- point index (15 R509; 8 bits, MRAM) -/
  point : Nat := 0
  /-- running values (15 R509; MRAM) -/
  srec : SesRec := {}
  /-- head of the record: the binding it belongs to; none = no session (15 R509; MRAM) -/
  bind : Option Binding := none
  deriving DecidableEq, Repr

/-- A readout grant (R518). -/
structure Grant where
  /-- payload word 0 of its request; KIND 0 = empty (15 R530 GRANT; 128 bits) -/
  w0 : W128 := 0
  /-- payload word 1; for KIND 3 RECORD_NO in bits 127:64 (15 R530 GRANT_REC; 128 bits) -/
  w1 : W128 := 0
  deriving DecidableEq, Repr

/-- A stored period statement or retire reading. -/
structure Stmt where
  /-- ledger slot (15 R511; 8 bits, MRAM) -/
  slot : Nat := 0
  /-- RECORD_NO (15 R511; 64 bits, MRAM) -/
  no : Nat := 0
  /-- words stored (15 R511; words 0-7, MRAM) -/
  head : List W128 := []
  /-- signature (15 R505; four words, MRAM) -/
  sig : List W128 := []
  deriving DecidableEq, Repr

/-- LED's sealed records. -/
structure Recs where
  /-- next RECORD_NO (15 R506; 64 bits, MRAM) -/
  next : Nat := 1
  /-- session seals by record number, oldest first (15 R510; at most 128, MRAM) -/
  ring : List (Nat × List W128) := []
  /-- session seals composed and not yet written to the journal (15 R510; record numbers) -/
  jnlDue : List Nat := []
  /-- statements of closed-1 (15 R511, R530 STMT1; MRAM) -/
  stmt1 : List Stmt := []
  /-- their period (15 R530 STMT1_PERIOD; 32 bits, MRAM) -/
  stmt1Period : Nat := 0
  /-- statements of closed-2 (15 R511, R530 STMT2; MRAM) -/
  stmt2 : List Stmt := []
  /-- their period (15 R530 STMT2_PERIOD; 32 bits, MRAM) -/
  stmt2Period : Nat := 0
  /-- retire readings (15 R512, R530 RETIRE; MRAM) -/
  retire : List Stmt := []
  /-- slots whose retire reading is still to be signed (03 R100 step 2; slots) -/
  retireTodo : List Nat := []
  /-- requested readings by record number (15 R512; at most 8) -/
  delivery : List (Nat × List W128) := []
  /-- UNSEALED flag of the current period (15 R507; 1 bit, MRAM) -/
  unsealedPeriod : Bool := false
  /-- session record copies per point (15 R509; 32 x two copies, MRAM) -/
  copies : Vector (SesCopy × SesCopy) 32 := Vector.replicate 32 ({}, {})
  /-- session seals still to be composed (15 R508, R157; points, MRAM) -/
  sealDue : List Nat := []
  /-- grant table (15 R518, R530; 8 grants) -/
  grants : Vector Grant 8 := Vector.replicate 8 {}
  /-- accepted requests whose grant opens at the next boundary: payload words, boundary number of the acceptance (15 R518; requests) -/
  grantPend : List (W128 × W128 × Nat) := []
  /-- kind 3 requests whose reading is composed at the next boundary (15 R512; requests) -/
  readPend : List (W128 × W128 × Nat) := []
  deriving DecidableEq, Repr

/-- RDO's M-Bus side. -/
structure Mbus where
  /-- rate code in use (15 R521, R530 MB_BAUD; 8 bits (0xBB)) -/
  baud : Nat := 187
  /-- another rate than BAUD is in use (the 600 s run) (15 R521; 1 bit) -/
  baudPend : Bool := false
  /-- last access number (15 R523 ACCESS_NO; 8 bits) -/
  access : Nat := 0
  /-- FCB of the last REQ_UD2; none = reset (15 R522; 1 bit) -/
  fcb : Option Bool := none
  /-- selected by secondary address (15 R522 SELECTED; 1 bit) -/
  selected : Bool := false
  /-- remote node selected (18 R635; node) -/
  proxy : Option Nat := none
  /-- READ_REQ forwarded and not yet answered (18 R635; message id) -/
  proxyCmd : Option Nat := none
  /-- READ_RSP received: header and data; the error header after a time-out (18 R635; bytes) -/
  proxyRsp : Option (List Nat) := none
  /-- item latched (15 R525; 64 words) -/
  latch : Option Latch := none
  /-- what later REQ_UD2 telegrams serve (15 R524; -) -/
  cmd : MbCmd := .standard
  /-- previous RSP_UD (repeated on an unchanged FCB) (15 R522; bytes) -/
  last : List Nat := []
  /-- TAG of the order being assembled (15 R526; 16 bits) -/
  asmTag : Nat := 0
  /-- chunk count of the order being assembled; 0 = none (15 R526; 0-34) -/
  asmN : Nat := 0
  /-- chunks held: index and data bytes (15 R526; chunks) -/
  asm : List (Nat × List Nat) := []
  /-- TAG of the last order (15 R526; 16 bits) -/
  ordTag : Nat := 0
  /-- its status: 8, 9, 10, 11 or 12 (15 R526, Table 15.13; 8 bits) -/
  ordResult : Nat := 0
  /-- refusal reason of the last order (15 R524 REASON; 8 bits) -/
  ordReason : Nat := 0
  /-- chunks received of the last order (15 R524 REASON; 0-34) -/
  ordChunks : Nat := 0
  /-- MSG_ID under which the last order went to another node, none = it went to the own inlet (18 R634; 16 bits) -/
  ordMsg : Option Nat := none
  /-- RSP_UD sent (15 R530 TELEGRAMS; 32 bits saturating) -/
  telegrams : Nat := 0
  /-- frame errors (15 R530 MB_ERRORS; 32 bits saturating) -/
  errors : Nat := 0
  /-- verification failures (15 R530 MODE5_FAIL; 32 bits) -/
  mode5Fail : Nat := 0
  /-- protected refusals (15 R530 REFUSED; 32 bits) -/
  refused : Nat := 0
  /-- orders handed to the inlet (15 R530 ORDERS; 32 bits) -/
  orders : Nat := 0
  /-- run of parity or framing errors: second (oscillator) of its last error and errors in the run (15 R529; s, errors) -/
  errRun : Option (Nat × Nat) := none
  /-- run of mode 5 failures: second (oscillator) of the last one (15 R529; s) -/
  m5Run : Option Nat := none
  /-- last answer sent (the model's own record of what went out) (15 Table 15.9; -) -/
  answer : MbAnswer := .none
  deriving DecidableEq, Repr

end Sys2Proof.Machine
end

