-- ==== Sys2Proof/Parts/P16.lean ====
section
/-! DEFINITION. Tag interface (spec/16): the part of the state that this chapter gives the machine. -/

namespace Sys2Proof.Machine

/-- One of the eight windows. -/
structure TagWin where
  /-- tenant it is assigned to; 0 = free (16 R543; 16 bits) -/
  tenant : Nat := 0
  /-- window handle (16 R541 HANDLE; 16 bits) -/
  handle : Nat := 0
  /-- boundary (clk.bndTot) of its last request or token (16 R543; boundaries) -/
  lastReq : Nat := 0
  /-- boundary (clk.bndTot) of its last publication (16 R543; boundaries) -/
  lastPub : Nat := 0
  /-- plaintext last published (16 R543; 13 words) -/
  content : List W128 := []
  /-- frame written whole whose flip is pending (16 R544; frame) -/
  flipTo : Option Nat := none
  /-- boundary since which the flip is pending (16 R552; boundaries) -/
  flipSince : Nat := 0
  /-- event 0x3063 has been written for it (16 R552; 1 bit) -/
  flipSeen : Bool := false
  deriving DecidableEq, Repr

/-- The ISO/IEC 15693 tag. -/
structure Tag where
  /-- bytes that are not zero, by address 8 x block + byte (16 R534; 8 KiB EEPROM) -/
  mem : List Host.Cell := []
  /-- ISO/IEC 15693 state: ready, quiet, selected (16 R532; -) -/
  st : TagSt := .ready
  /-- frames latched by a field read (16 R545; frames) -/
  latched : List Nat := []
  /-- frames out of use until the next start (16 R557; frames) -/
  outFrames : List Nat := []
  /-- windows (16 R543; 8 windows) -/
  wins : Vector TagWin 8 := Vector.replicate 8 {}
  /-- publication counter (16 R542; 32 bits, MRAM) -/
  pubCtr : Nat := 0
  /-- doorbelled cells not yet taken, ascending (16 R550; cells) -/
  bells : List Nat := []
  /-- cells taken in the cycle in progress (16 R550; 0-4) -/
  takenCy : Nat := 0
  /-- window requests taken and not yet served, oldest first (16 R550; cell, word) -/
  reqQ : List (Nat × W128) := []
  /-- token messages taken and not yet verified by SES, oldest first (16 R550; cell, three words) -/
  tokQ : List (Nat × List W128) := []
  /-- token cells whose final result is awaited (16 R551; cell, tenant, nonce, window) -/
  tokCell : List (Nat × Nat × Nat × Nat) := []
  /-- run of field writes to hub-owned blocks: second (oscillator) of the last (16 R556; s) -/
  wrRun : Option Nat := none
  /-- boundary (clk.bndTot) at which each public block was last rewritten (16 R539; boundaries) -/
  pubAt : Vector Nat 64 := Vector.replicate 64 0
  /-- directory and public blocks to be retried at the next boundary (16 R557; blocks) -/
  retry : List Nat := []
  /-- updates of the public area (16 R537 PUBLIC_N; 32 bits saturating) -/
  pubN : Nat := 0
  /-- updates of the gauge area (16 R540 G_N; 16 bits saturating) -/
  gaugeN : Nat := 0
  /-- last answer to the field: flags, then data; none = silent (the model's own record of what went out) (16 R532; bytes) -/
  answer : Option (List Nat) := none
  deriving DecidableEq, Repr

end Sys2Proof.Machine
end

