-- ==== Sys2Proof/Parts/P17.lean ====
section
/-! DEFINITION. Acrad physical layer (spec/17): the part of the state that this chapter gives the machine. -/

namespace Sys2Proof.Machine

/-- A tone map as held (Table 17.9). -/
structure ToneMap where
  /-- the map exactly as Table 17.9 sets it out (17 R589; 11 words) -/
  words : List W128 := []
  /-- neighbour (17 R592; 8 bits) -/
  peer : Nat := 0
  /-- true = map for sending to the neighbour, false = for receiving from it (17 R589; 1 bit) -/
  sending : Bool := false
  /-- committed (false: pending) (18 R625; 1 bit) -/
  inUse : Bool := false
  /-- boundary (clk.bndTot) from which it is in use (18 R625, R626; boundaries) -/
  commitAt : Nat := 0
  /-- results of the last blocks under the map (true = failed) (18 R626; at most 64 blocks) -/
  errWin : List Bool := []
  deriving DecidableEq, Repr

/-- A frame as the PHY coded and mapped it (the model's own record of what went out; R573-R581). -/
structure TxFrame where
  /-- the transmit request (17 R564; -) -/
  req : TxReq := { coupler := 0, fc := 0, blocks := [] }
  /-- coded and interleaved bits of the frame-control symbol (17 R573; 172 bits) -/
  fcBits : List Bool := []
  /-- payload symbols (17 R578, R580; 8 bits) -/
  symbols : Nat := 0
  /-- per payload symbol the on-carriers and the bits each carries (17 R578-R581; list) -/
  tones : List (List (Nat × List Bool)) := []
  deriving DecidableEq, Repr

/-- The Acrad PHY. -/
structure Phy where
  /-- CPL_SEL output that is high, 0 none (17 R564, 23 R792; 3 pins) -/
  sel : Nat := 0
  /-- couplers out of use until the next start (17 R598; couplers) -/
  cplBad : List Nat := []
  /-- VLD in range (17 R597; 1 bit) -/
  vldOk : Bool := true
  /-- driver in thermal shutdown (17 R597; 1 bit) -/
  thermal : Bool := false
  /-- line driver on (17 R562, R600; 1 bit) -/
  driver : Bool := false
  /-- transmissions that LNK has requested, the one in progress first (17 R564, R594; queue) -/
  tx : List TxReq := []
  /-- last frame sent (the model's own record of what went out) (17 R575; -) -/
  lastTx : Option TxFrame := none
  /-- a frame is being received (17 R593; 1 bit) -/
  rxActive : Bool := false
  /-- receive aborts (17 R593; counter) -/
  rxAborts : Nat := 0
  /-- frames discarded because their frame control is not valid (17 R574; counter) -/
  fcBad : Nat := 0
  /-- noise N per slot and carrier; empty = not yet measured (17 R585; 6 x 417, 1/16 of 0.5 dB steps) -/
  noise : Vector (List Int) 6 := Vector.replicate 6 []
  /-- cycles of LOCKED measurement since the start (17 R600; 0-64 cy) -/
  lockedCy : Nat := 0
  /-- class of each noise slot (17 R586, R600; 6 x 2 bits) -/
  classMap : Vector Nat 6 := Vector.replicate 6 1
  /-- boundary (clk.bndTot) of the last class-map change (18 R626; boundaries) -/
  classAt : Nat := 0
  /-- tone maps held (17 R592; at most 32 neighbours) -/
  maps : List ToneMap := []
  /-- received levels of the last frames per neighbour (17 R587; node, at most 16 frames of levels) -/
  levels : List (Nat × List (List Int)) := []
  /-- run of current-limit events: second (oscillator) of the last (17 R599; s) -/
  limRun : Option Nat := none
  /-- last transmit report: completed, samples limited (17 R597; -) -/
  report : Option (Bool × Nat) := none
  deriving DecidableEq, Repr

end Sys2Proof.Machine
end

