-- ==== Sys2Proof/Parts/P18.lean ====
section
/-! DEFINITION. Acrad network (spec/18): the part of the state that this chapter gives the machine. -/

namespace Sys2Proof.Machine

/-- A neighbour entry (R620). -/
structure Neigh where
  /-- neighbour (18 R639 NODE; 8 bits) -/
  node : Nat := 0
  /-- its serial (18 R639 SERIAL; 64 bits) -/
  serial : Nat := 0
  /-- its M-Bus IDENT (18 R620; 32 bits) -/
  ident : Nat := 0
  /-- its DEPTH (18 R639 DEPTH; 8 bits) -/
  depth : Nat := 255
  /-- its PARENT (18 R639 PARENT; 8 bits) -/
  parent : Nat := 0
  /-- its RELAY flag (18 R622; 1 bit) -/
  relay : Bool := false
  /-- P it publishes (18 R620 PHASE; 16 bits) -/
  phase : Nat := 0
  /-- relative phase step; none = phase not known (18 R620; 0-5) -/
  k : Option Nat := none
  /-- quality (18 R639 QUALITY; 8 bits, 0.5 dB) -/
  quality : Nat := 0
  /-- share frame received in the epoch (18 R620, R622; at most 4 epochs, newest first) -/
  heard : List Bool := []
  /-- consecutive failed frames (18 R639 FAILS; 8 bits) -/
  fails : Nat := 0
  /-- sends go in ROBO (18 R628, R626; 1 bit) -/
  robo : Bool := false
  /-- last GEN committed (18 R639 TM_GEN; 32 bits) -/
  tmGen : Nat := 0
  /-- last GEN given in an offer to it (18 R624; 32 bits) -/
  genLast : Nat := 0
  /-- count of the last frame heard (18 R639 LAST_COUNT; 64 bits) -/
  lastCount : Nat := 0
  deriving DecidableEq, Repr

/-- A child and the descendants learnt through it (R623). -/
structure Child where
  /-- descendant (18 R623; 8 bits) -/
  node : Nat := 0
  /-- child whose subtree holds it (18 R630; 8 bits) -/
  via : Nat := 0
  /-- epoch of its last record (18 R623; epoch) -/
  epoch : Nat := 0
  deriving DecidableEq, Repr

/-- A demand record held (Table 19.4). -/
structure Demand where
  /-- epoch of the record (18 R632; epoch) -/
  epoch : Nat := 0
  /-- sender (19 R646 NODE; 8 bits) -/
  node : Nat := 0
  /-- sender's feeder (19 R646 FEEDER; 4 bits) -/
  feeder : Nat := 0
  /-- sender was an island (19 R646 ISLAND; 1 bit) -/
  island : Bool := false
  /-- sender's LLIM active (19 R646 LLIM; 1 bit) -/
  llim : Bool := false
  /-- bits 1:0 of byte 1 (19 R646, R658; 2 bits) -/
  low : Nat := 0
  /-- demand per phase (19 R646 D; 3 x 16 bits, 0.1 A) -/
  d : List Nat := []
  /-- the parent has acknowledged it (18 R632; 1 bit) -/
  acked : Bool := false
  deriving DecidableEq, Repr

/-- A receiver's replay window for one source and key (R611). -/
structure FrWin where
  /-- source node (18 R611; 8 bits, MRAM) -/
  src : Nat := 0
  /-- KEYSEL (18 R611; 8 bits, MRAM) -/
  key : Nat := 0
  /-- highest FCTR accepted (18 R611; 32 bits, MRAM) -/
  high : Nat := 0
  /-- the 64 values below it (18 R611; 64 bits, MRAM) -/
  map : BitVec 64 := 0
  /-- a frame has been accepted (18 R611; 1 bit, MRAM) -/
  any : Bool := false
  deriving DecidableEq, Repr

/-- A frame or message waiting or awaiting acknowledgement. -/
structure TxMsg where
  /-- next hop; 255 with bcast = every node (18 R628; 8 bits) -/
  dst : Nat := 0
  /-- broadcast (18 R608; 1 bit) -/
  bcast : Bool := false
  /-- FSEQ of a unicast frame (18 R608; 8 bits) -/
  fseq : Nat := 0
  /-- MKIND (18 R629; 8 bits) -/
  kind : Nat := 0
  /-- MSG_ID (18 R609; 16 bits) -/
  msgId : Nat := 0
  /-- ORIG (18 R609; 8 bits) -/
  orig : Nat := 0
  /-- FINAL (18 R609; 8 bits) -/
  final : Nat := 0
  /-- BCAST_FINAL (18 R609; 1 bit) -/
  bcastFinal : Bool := false
  /-- HOPS left (18 R630; 4 bits) -/
  hops : Nat := 12
  /-- frame counter (18 R611; 32 bits) -/
  fctr : Nat := 0
  /-- sends made (18 R628; 0-8) -/
  tries : Nat := 0
  /-- fragment index (18 R609 FRAG; 8 bits) -/
  frag : Nat := 0
  /-- last fragment (18 R609 FLAGS; 1 bit) -/
  last : Bool := true
  /-- flood frame (18 R608 FLOOD; 1 bit) -/
  flood : Bool := false
  /-- FCTR and FSEQ have been given (18 R611; 1 bit) -/
  counted : Bool := false
  /-- key of the frame (18 R609 KEYSEL; 8 bits) -/
  keysel : Nat := 0
  /-- tone map of the last send (18 R626; 4 bits) -/
  tmi : Nat := 0
  /-- body (18 R629; bytes) -/
  body : List Nat := []
  deriving DecidableEq, Repr

/-- A reassembly buffer (R629). -/
structure Reasm where
  /-- ORIG (18 R629; 8 bits) -/
  orig : Nat := 0
  /-- MSG_ID (18 R629; 16 bits) -/
  msgId : Nat := 0
  /-- fragments received (18 R629; fragments) -/
  frags : List (Nat × List Nat) := []
  /-- index of the LAST fragment (18 R629; 8 bits) -/
  last : Option Nat := none
  /-- hop it comes from (18 R630; 8 bits) -/
  via : Nat := 255
  deriving DecidableEq, Repr

/-- LNK: the Acrad network. -/
structure Lnk where
  /-- state of Table 18.4 (18 R618, R639 STATE; 8 bits) -/
  st : LinkSt := .listen
  /-- the hub is an island (18 R639 ISLAND; 1 bit) -/
  island : Bool := true
  /-- coordinator followed (18 R639 COORD; 8 bits) -/
  coord : Nat := 255
  /-- parent (18 R639 PARENT; 8 bits) -/
  parent : Nat := 255
  /-- DEPTH (18 R639 DEPTH; 8 bits) -/
  depth : Nat := 255
  /-- DEPTH held at the epoch's first boundary (18 R622; 8 bits) -/
  epochDepth : Nat := 255
  /-- offset Dc (18 R639 DC; 4 bits) -/
  dc : Nat := 0
  /-- NEXT_COORD of the last beacon (18 R639 NEXT_COORD; 8 bits) -/
  nextCoord : Nat := 0
  /-- handover announced (18 R616; epoch, node) -/
  handover : Option (Nat × Nat) := none
  /-- phase of the coordinator's boundary from the last beacon copies (18 R604; at most 8, pu) -/
  phis : List Nat := []
  /-- COUNT of the last beacon (18 R639 BEACON_COUNT; 64 bits) -/
  beaconCount : Nat := 0
  /-- own count of the matching own boundary (18 R617; count) -/
  beaconAt : Nat := 0
  /-- superframes since the last beacon (18 R639 BEACON_MISS; 32 bits) -/
  beaconMiss : Nat := 0
  /-- consecutive superframes with a beacon heard (18 R618; 0-3) -/
  beaconRun : Nat := 0
  /-- a beacon has been heard in the superframe in progress (18 R615; 1 bit) -/
  heardNow : Bool := false
  /-- epochs in island (18 R638 0x30A2; epochs) -/
  islandEpochs : Nat := 0
  /-- epochs in which the phase tolerance was not met (18 R618; epochs) -/
  tolBad : Nat := 0
  /-- estate count less the hub's own count of the matching boundary (18 R617, 02 R76; 64 bits) -/
  countDiff : Int := 0
  /-- highest COUNT_SEEN of the subtree (18 R617; 64 bits) -/
  countSeen : Nat := 0
  /-- lowest claimant of the subtree, 255 none (18 R616; 8 bits) -/
  claimant : Nat := 255
  /-- neighbour entries (18 R620; at most 32) -/
  neigh : List Neigh := []
  /-- descendants (18 R623; list) -/
  children : List Child := []
  /-- demand records held for collection (18 R632; list) -/
  demands : List Demand := []
  /-- segments of the bundle in reception: index and bytes (18 R633; segments) -/
  bundleIn : List (Nat × List Nat) := []
  /-- segments of the bundle to be flooded (18 R633; segments) -/
  bundleOut : List (Nat × List Nat) := []
  /-- epoch of the last bundle held (18 R639 BUNDLE_EPOCH; 32 bits) -/
  bundleEpoch : Nat := 0
  /-- bundle last held: epoch and records (18 R633; records) -/
  bundle : Option (Nat × List Demand) := none
  /-- last epoch for which event 0x30AB was judged (18 R633; epoch) -/
  missedEpoch : Nat := 0
  /-- epoch whose bundle a handover cancels (18 R637; epoch) -/
  cancelEpoch : Option Nat := none
  /-- next frame counter of network-key slot 0 (18 R611; 32 bits) -/
  fctr0 : Nat := 0
  /-- next frame counter of network-key slot 1 (18 R611; 32 bits) -/
  fctr1 : Nat := 0
  /-- reservation of slot 0 (18 R611; 32 bits, MRAM) -/
  res0 : Nat := 0
  /-- reservation of slot 1 (18 R611; 32 bits, MRAM) -/
  res1 : Nat := 0
  /-- key ID the counter of slot 0 belongs to (18 R611; 32 bits, MRAM) -/
  fkey0 : Nat := 0
  /-- key ID the counter of slot 1 belongs to (18 R611; 32 bits, MRAM) -/
  fkey1 : Nat := 0
  /-- event 0x30AF has been written (18 R612; 1 bit) -/
  exhausted : Bool := false
  /-- receive windows (18 R611; MRAM) -/
  wins : List FrWin := []
  /-- frames pending, in sending order (18 R627; queue) -/
  queue : List TxMsg := []
  /-- frames awaiting acknowledgement (18 R628, R639 OUTSTANDING; at most 32) -/
  out : List TxMsg := []
  /-- reassembly buffers (18 R629; at most 8) -/
  reasm : List Reasm := []
  /-- broadcast messages delivered in the last 3 000 cy (18 R630; orig, msg id, boundary) -/
  dup : List (Nat × Nat × Nat) := []
  /-- acknowledgements sent, newest first, at most 8 (the model's own record of what went out) (18 R608, R628; src, fseq, status) -/
  acks : List (Nat × Nat × Nat) := []
  /-- next MSG_ID (18 R609; 16 bits) -/
  msgNext : Nat := 0
  /-- last FSEQ per destination (18 R608; node, fseq) -/
  fseqs : List (Nat × Nat) := []
  /-- contention window (18 R627; 8-64) -/
  cw : Nat := 8
  /-- backoff left of the pending frame (18 R627; 0-63) -/
  backoff : Option Nat := none
  /-- authentication failures (18 R639 AUTH_FAIL; 32 bits saturating) -/
  authFail : Nat := 0
  /-- messages dropped (18 R639 DROPPED; 32 bits saturating) -/
  dropped : Nat := 0
  /-- frames retried (18 R639 RETRIED; 32 bits saturating) -/
  retried : Nat := 0
  /-- bundles not held (18 R639 MISSED; 32 bits saturating) -/
  missed : Nat := 0
  /-- run of authentication failures: second (oscillator) of the last (18 R638; s) -/
  authRun : Option Nat := none
  /-- event 0x30AD has been written (18 R621; 1 bit) -/
  cplSeen : Bool := false
  /-- epoch in which event 0x30AE was last written (18 R636; epoch) -/
  fullEpoch : Nat := 0
  /-- epoch of the last share frame sent (18 R619; epoch) -/
  sharedEpoch : Option Nat := none
  /-- orders received over the link whose status is still owed (18 R634; orig, tag, msg id) -/
  orders : List (Nat × Nat × Nat) := []
  deriving DecidableEq, Repr

end Sys2Proof.Machine
end

