-- ==== Sys2Proof/Parts/P19.lean ====
section
/-! DEFINITION. Estate load sharing (spec/19): the part of the state that this chapter gives the machine. -/

namespace Sys2Proof.Machine

/-- One entry of the own feeder's allocation (Table 19.7 ALLOC). -/
structure AllocRow where
  /-- hub entry (19 R662; 8 bits) -/
  node : Nat := 0
  /-- 0 missing, 1 island, 2 demand (19 R662; 2 bits) -/
  floorCase : Nat := 0
  /-- allocation per phase (19 R662; 3 x 16 bits, 0.1 A) -/
  a : List Nat := []
  deriving DecidableEq, Repr

/-- Load sharing of the hub. -/
structure Share where
  /-- epoch whose demand the hub amount in force used (19 R662 SRC_EPOCH; 64 bits) -/
  srcEpoch : Nat := 0
  /-- 0 none, 1 bundle, 2 fallback, 3 island (19 R662 SOURCE; 8 bits) -/
  source : Nat := 3
  /-- LLIM active (19 R654, R662 LLIM; 1 bit) -/
  llim : Bool := false
  /-- LLIM samples of the cycle in progress (19 R654; samples) -/
  llimSamp : List Bool := []
  /-- consecutive cycles reading the other level (19 R654; 0-4) -/
  llimRun : Nat := 0
  /-- LLIM at past boundaries (19 R655; at most 256 boundaries, newest first) -/
  llimHist : List Bool := []
  /-- amount in force scaled (19 R662 SCALED; 1 bit) -/
  scaled : Bool := false
  /-- level-3 term in force (19 R662 TERM3; 1 bit) -/
  term3 : Bool := false
  /-- hub amount in force (19 R662 H; 3 x 16 bits, 0.1 A) -/
  h : List Nat := [0, 0, 0]
  /-- demand last sent (19 R662 D; 3 x 16 bits, 0.1 A) -/
  dSent : List Nat := [0, 0, 0]
  /-- own records of the last epochs (19 R651; records) -/
  sent : List Demand := []
  /-- own feeder limit used, after scaling (19 R662 LIM; 3 x 16 bits, 0.1 A) -/
  lim : List Nat := [0, 0, 0]
  /-- records of the own feeder in the last bundle held (19 R662 PRESENT; 16 bits) -/
  present : Nat := 0
  /-- bundles applied (19 R662 HELD; 32 bits saturating) -/
  held : Nat := 0
  /-- fallbacks applied (19 R662 FALLBACKS; 32 bits saturating) -/
  fallbacks : Nat := 0
  /-- allocation of the own feeder from the last bundle held (19 R662 ALLOC; list) -/
  rows : List AllocRow := []
  /-- epoch of that allocation (19 R649; epoch) -/
  allocEpoch : Option Nat := none
  /-- that allocation was computed on scaled values (19 R655; 1 bit) -/
  allocScaled : Bool := false
  /-- feeder limit that allocation used (19 R655; 3 x 16 bits) -/
  allocLim : List Nat := [0, 0, 0]
  /-- runs of clipped demands: second (oscillator) of the last (19 R658, R661; node, phase, s) -/
  clipRun : List (Nat × Nat × Nat) := []
  /-- runs of points removed from the split (19 R661; point, s) -/
  cutRun : List (Nat × Nat) := []
  /-- candidates of the last split (19 R653; points) -/
  cands : List Nat := []
  deriving DecidableEq, Repr

end Sys2Proof.Machine
end

