-- ==== Sys2Proof/Parts/P20.lean ====
section
/-! DEFINITION. E-paper status board (spec/20): the part of the state that this chapter gives the machine. -/

namespace Sys2Proof.Machine

/-- A rectangle of panel pixels. -/
structure Rect where
  /-- left pixel (20 R690 X; 12 bits) -/
  x : Nat := 0
  /-- top line (20 R690 Y; 12 bits) -/
  y : Nat := 0
  /-- width (20 R690 W; 12 bits) -/
  w : Nat := 0
  /-- height (20 R690 H; 12 bits) -/
  h : Nat := 0
  deriving DecidableEq, Repr

/-- One entry of the region set (R675, words 1-4 of page 0x0800). -/
structure Region where
  /-- running (20 R690 ACTIVE; 1 bit) -/
  active : Bool := false
  /-- rectangle (20 R690 X, Y, W, H; 4 x 12 bits) -/
  rect : Rect := {}
  /-- mode, 15 for the built-in waveform (20 R690 MODE; 4 bits) -/
  mode : Nat := 0
  /-- band, 15 for the built-in waveform (20 R690 BAND; 4 bits) -/
  band : Nat := 0
  /-- frame in progress (20 R690 FRAME; 8 bits) -/
  frame : Nat := 0
  /-- frames of the table (20 R690 FRAMES; 8 bits) -/
  frames : Nat := 0
  /-- count at which the commit was written (20 R690 START; 48 bits) -/
  startCnt : Nat := 0
  /-- frames still to begin before the commit applies (2, 1; 0 = applies) (20 R678; frames) -/
  wait : Nat := 0
  /-- a full refresh or first whole-panel update (20 R685; 1 bit) -/
  isFull : Bool := false
  /-- the last-light update (20 R694; 1 bit) -/
  lastLight : Bool := false
  /-- texts rendered into NEW inside the rectangle (20 R674, R677; list) -/
  texts : List Drawn := []
  deriving DecidableEq, Repr

/-- One MRAM copy of the content model (R691). -/
structure ModelCopy where
  /-- the copy's CRC-32 verifies (20 R691; CRC-32, MRAM) -/
  good : Bool := false
  /-- order of the writes (the later write is used) (20 R692; MRAM) -/
  seq : Nat := 0
  /-- generation (20 R691; 32 bits, MRAM) -/
  gen : Nat := 0
  /-- digest (20 R691; 256 bits, MRAM) -/
  digest : Nat := 0
  /-- last light shown (20 R691 LAST_LIGHT; 1 bit, MRAM) -/
  lastLight : Bool := false
  /-- the panel's content is unknown (20 R691 UNKNOWN; 1 bit, MRAM) -/
  unknown : Bool := false
  /-- last light was being driven (20 R691 IN_PROGRESS; 1 bit, MRAM) -/
  inProgress : Bool := false
  /-- ROM layout drawn (20 R691 ROM_LAYOUT; 1 bit, MRAM) -/
  romLayout : Bool := false
  /-- ROM font drawn (20 R691 ROM_FONT; 1 bit, MRAM) -/
  romFont : Bool := false
  /-- one entry per drawn TEXT element (20 R691; 32 bytes each, MRAM) -/
  entries : List Drawn := []
  deriving DecidableEq, Repr

/-- DSP's display side. -/
structure Epd where
  /-- 0 disabled, 1 off, 2 powering up, 3 scanning, 4 powering down, 5 fault (20 R690 PANEL; 4 bits) -/
  panel : Nat := 1
  /-- fate of the content model at this start (20 R690 MODEL; 4 bits) -/
  model : Nat := 1
  /-- ROM fallback layout in use (20 R690 ROM_LAYOUT; 1 bit) -/
  romLayout : Bool := false
  /-- ROM font in use (20 R690 ROM_FONT; 1 bit) -/
  romFont : Bool := false
  /-- built-in waveform in use (20 R690 BUILTIN; 1 bit) -/
  builtin : Bool := false
  /-- last light at the last outage: 0 none, 1 shown, 2 not shown (20 R690 LL; 2 bits, MRAM) -/
  ll : Nat := 0
  /-- last reading; none = fault (0x8000) (20 R690 TEMP; 16 bits, 0.1 degree) -/
  temp : Option Int := none
  /-- band of the last update (20 R690 BAND; 4 bits) -/
  band : Nat := 0
  /-- regions completed since start (20 R690 UPDATES; 32 bits saturating) -/
  updates : Nat := 0
  /-- power faults since start (20 R690 FAULTS; 16 bits) -/
  faults : Nat := 0
  /-- consecutive power faults (20 R688; 0-3) -/
  faultRun : Nat := 0
  /-- boundary (clk.bndTot) of the next retry, 0 none (20 R686, R688; boundaries) -/
  retryAt : Nat := 0
  /-- EPD_PWR_EN (20 R668, 23 Table 23.10; pin) -/
  pwrEn : Bool := false
  /-- EPD_PWR_GOOD as read (20 R668; pin) -/
  pwrGood : Bool := false
  /-- EPD_VCOM output (20 R668; pin, 0.1 mV) -/
  vcom : Nat := 0
  /-- running regions (20 R675; 4 regions) -/
  regions : Vector Region 4 := Vector.replicate 4 {}
  /-- dirty rectangles in order of marking (20 R684, R690 QUEUED; at most 16) -/
  queue : List Rect := []
  /-- texts the panel shows (buffer OLD) (20 R674; list) -/
  drawn : List Drawn := []
  /-- boundary of the commit of the last update that covered each ticking element (layout, element, point) (20 R684; element, boundary) -/
  lastTickAt : List (Nat × Nat × Nat × Nat) := []
  /-- updates postponed by temperature (20 R686; 1 bit) -/
  postponed : Bool := false
  /-- a thermistor reading is requested for the queue head (20 R676; 1 bit) -/
  readPend : Bool := false
  /-- band chosen for the update that awaits its commit (20 R676; 0-15) -/
  bandFor : Option Nat := none
  /-- a whole-panel update is due (20 R685, R692; 1 bit) -/
  fullDue : Bool := false
  /-- the next update covers the whole panel under mode 0 (20 R688, R692; 1 bit) -/
  firstWhole : Bool := false
  /-- the board is unknown (20 R688; 1 bit) -/
  unknown : Bool := false
  /-- count of the last full refresh (20 R690 FULL_COUNT; 64 bits, MRAM) -/
  fullCount : Nat := 0
  /-- second (oscillator) of the last full refresh or of the release (20 R685; s) -/
  fullS : Nat := 0
  /-- malformed tables already reported (20 R672; 16 x mode + band) -/
  badTables : List Nat := []
  /-- run of thermistor faults: second (oscillator) of the last (20 R689; s) -/
  thermRun : Option Nat := none
  /-- a copy-back awaits the model write of the next boundary (20 R691; 1 bit) -/
  copyDue : Bool := false
  /-- first copy of the content model (20 R691; MRAM) -/
  modelA : ModelCopy := {}
  /-- second copy of the content model (20 R691; MRAM) -/
  modelB : ModelCopy := {}
  /-- stored DISPLAY record payload (20 R665; MRAM) -/
  stored : Option (List W128) := none
  /-- DSP has been released at this start (20 R692; 1 bit) -/
  released : Bool := false
  /-- last light is being driven (20 R694; 1 bit) -/
  lastLight : Bool := false
  /-- frames of last light driven (20 R694; frames) -/
  llFrames : Nat := 0
  deriving DecidableEq, Repr

end Sys2Proof.Machine
end

