-- ==== Sys2Proof/Parts/P22.lean ====
section
/-! DEFINITION. Health, repair and events (spec/22): the part of the state that this chapter gives the machine. -/

namespace Sys2Proof.Machine

/-- An event record (Table 22.4). -/
structure EventRec where
  /-- count of the cycle in which it was accepted (22 R744 COUNT; 64 bits) -/
  count : Nat := 0
  /-- event code (22 R744 CODE; 16 bits) -/
  code : Nat := 0
  /-- source code of Table 1.4 (22 R744 SOURCE; 8 bits) -/
  source : Nat := 0
  /-- point index, node or 4 x slot, or 0xFF (22 R744 POINT; 8 bits) -/
  point : Nat := 255
  /-- argument (two's complement where signed) (22 R744 ARG; 32 bits) -/
  arg : Nat := 0
  deriving DecidableEq, Repr

/-- One VE lane (Table 22.8). -/
structure Lane where
  /-- state of Table 22.3 (22 R735; 4 bits, MRAM) -/
  st : ModSt := .inService
  /-- position held (22 R756 POSITION; 0-15) -/
  pos : Option Nat := none
  /-- fused off in production (22 R731, R756 FUSEDL; fuse) -/
  fused : Bool := false
  /-- failure count (22 R756 LFAILS; 3 bits, MRAM) -/
  fails : Nat := 0
  /-- residue errors since start (22 R756 LRESIDUE; 16 bits saturating) -/
  residue : Nat := 0
  /-- tests since start (22 R756 TESTS; 32 bits saturating) -/
  tests : Nat := 0
  /-- count of the last judgement (22 R756 LAST; 64 bits) -/
  last : Nat := 0
  /-- residue errors in the cycle in progress (22 R736; 0-2) -/
  resCy : Nat := 0
  /-- count at which its re-test is judged (22 R739; 64 bits) -/
  retestAt : Option Nat := none
  deriving DecidableEq, Repr

/-- A lane step in progress (R737). -/
structure LaneStep where
  /-- position tested, 255 none (22 R756 STEP_POS; 8 bits) -/
  pos : Nat := 255
  /-- lane under test (22 R756 STEP_LANE; 8 bits) -/
  lane : Nat := 255
  /-- spare that carries or is to carry the position (22 R737; 8 bits) -/
  spare : Nat := 255
  /-- count B at which the step begins (22 R756 STEP_COUNT; 64 bits) -/
  at_ : Nat := 0
  /-- 0 none, 1 handoff dual run, 2 lane under test, 3 spare under test, 4 return dual run (22 R737, R738; 0-4) -/
  phase : Nat := 0
  deriving DecidableEq, Repr

/-- A row of a bank that is not plainly in service. -/
structure Row where
  /-- row (22 R735; 9 bits) -/
  row : Nat := 0
  /-- state (22 R735; 4 bits) -/
  st : ModSt := .inService
  /-- spare row that replaces it (22 R732; 3 bits, MRAM) -/
  spare : Option Nat := none
  /-- kind of replacement: 0 fused, 1 soft, 2 rolling, 3 none (22 R732; 2 bits, MRAM) -/
  kind : Nat := 3
  /-- correctable-error reads in the rotation in progress (22 R741; counter) -/
  ceRot : Nat := 0
  deriving DecidableEq, Repr

/-- One SRAM bank (Table 22.8, page 0x0091). -/
structure BankH where
  /-- rows that are not plainly in service, by row (22 R735; 512 rows) -/
  rows : List Row := []
  /-- SUSPECT rows that move at the next boundary (22 R741; rows) -/
  moveDue : List Nat := []
  /-- row of the current step (22 R756 ROW; 9 bits) -/
  row : Nat := 0
  /-- step in progress (22 R756 TESTING; 1 bit) -/
  testing : Bool := false
  /-- correctable errors since start (22 R756 CE; 32 bits saturating) -/
  ce : Nat := 0
  /-- uncorrectable errors since start (22 R756 UE; 32 bits saturating) -/
  ue : Nat := 0
  /-- rotations since start (22 R756 ROTATIONS; 32 bits saturating) -/
  rotations : Nat := 0
  deriving DecidableEq, Repr

/-- An MRAM block that is not plainly in service. -/
structure Blk where
  /-- block (22 R735; 10 bits) -/
  blk : Nat := 0
  /-- state (22 R735; 4 bits) -/
  st : ModSt := .inService
  /-- words with correctable errors in the rotation in progress (22 R743; words) -/
  ceRot : Nat := 0
  /-- correctable errors in the rotation before (22 R743; 1 bit) -/
  cePrev : Bool := false
  deriving DecidableEq, Repr

/-- One spare MRAM block (page 0x0092). -/
structure SpareBlk where
  /-- state (22 R756 SPARE_x; 4 bits, MRAM) -/
  st : ModSt := .spare
  /-- 0 fused, 1 soft, 2 rolling, 3 free (22 R756 SPARE_x; 2 bits, MRAM) -/
  use : Nat := 3
  /-- block replaced (22 R756 SPARE_x; 10 bits, MRAM) -/
  repl : Nat := 0
  deriving DecidableEq, Repr

/-- The hub's own fabric: VE lanes, SRAM banks, MRAM blocks. -/
structure Fab where
  /-- lanes 0-17 (22 R736, R756; 18 lanes) -/
  lanes : Vector Lane 18 := Vector.replicate 18 {}
  /-- lane step whose lane is under test or coming under test (22 R737; -) -/
  step : LaneStep := {}
  /-- step whose lane is in its return dual run (22 R737; -) -/
  ret : LaneStep := {}
  /-- steps skipped since RUN (each leaves its position to the next step) (22 R737; counter) -/
  skips : Nat := 0
  /-- number of spare lanes last reported (22 R739; 0-2) -/
  spareN : Nat := 2
  /-- SUSPECT lanes to be handed off without a dual run, and whether for a residue error (22 R736, R738; lanes) -/
  takeDue : List (Nat × Bool) := []
  /-- residue errors since start (22 R756 RESIDUE; 32 bits saturating) -/
  residue : Nat := 0
  /-- dual-run mismatches since start (22 R756 MISMATCH; 32 bits saturating) -/
  mismatch : Nat := 0
  /-- failed tests since start (22 R756 FAILS; 32 bits saturating) -/
  fails : Nat := 0
  /-- steps since start (22 R756 STEPS; 32 bits saturating) -/
  steps : Nat := 0
  /-- SRAM banks (22 R740, R756; 32 banks) -/
  banks : Vector BankH 32 := Vector.replicate 32 {}
  /-- blocks that are not plainly in service, by block (22 R742; 1 024 blocks) -/
  blks : List Blk := []
  /-- spare blocks (22 R756; 64 spare blocks, MRAM) -/
  spares : Vector SpareBlk 64 := Vector.replicate 64 {}
  /-- block of the current step (22 R756 BLOCK; 16 bits) -/
  block : Nat := 0
  /-- rolling entry in the repair map (22 R742; block, spare, MRAM) -/
  rolling : Option (Nat × Nat) := none
  /-- SUSPECT blocks whose content moves at the next epoch boundary (22 R743; blocks) -/
  blkMove : List Nat := []
  /-- correctable errors since start (22 R756 BCE; 32 bits saturating) -/
  bce : Nat := 0
  /-- uncorrectable words since start (22 R756 BUE; 32 bits saturating) -/
  bue : Nat := 0
  /-- rotations (22 R756 BROT; 32 bits) -/
  brot : Nat := 0
  /-- blocks returned (22 R756 RETURNS; 32 bits) -/
  returns : Nat := 0
  /-- repair-map copies in agreement (22 R756 MAP_OK; 8 bits, MRAM) -/
  mapOk : Nat := 3
  /-- no free spare block: event 0x9055 has been written (22 R751; 1 bit) -/
  noSpare : Bool := false
  deriving DecidableEq, Repr

/-- The event-window cursor of a readout grant (R749). -/
structure Cursor where
  /-- grant (22 R749; 0-7) -/
  grant : Nat := 0
  /-- next ESEQ to return (22 R749; 64 bits) -/
  atCnt : Nat := 0
  deriving DecidableEq, Repr

/-- The event unit. -/
structure Ev where
  /-- ESEQ the next event takes (22 R745 ESEQ; 64 bits, MRAM) -/
  next : Nat := 1
  /-- ring: ESEQ, boundary (clk.bndTot) of acceptance and record, newest first (22 R747, R748; at most 1 024, MRAM) -/
  ring : List (Nat × Nat × EventRec) := []
  /-- events of any class accepted in the cycle in progress (22 R746; 0-48) -/
  acc : Nat := 0
  /-- events of class 0x1xxx accepted beyond them (22 R746; 0-16) -/
  accSafe : Nat := 0
  /-- events dropped in the cycle in progress (22 R746; counter) -/
  dropped : Nat := 0
  /-- events held before C0, oldest first (22 R746, 03 R87; at most 128) -/
  held : List EventRec := []
  /-- events dropped before C0 (22 R746; counter) -/
  heldDrop : Nat := 0
  /-- highest ESEQ journaled (22 R748; 64 bits, MRAM) -/
  journaled : Nat := 0
  /-- events lost unjournaled (22 R749 LOST; 32 bits saturating, MRAM) -/
  lost : Nat := 0
  /-- run of losses: second (oscillator) of the last (22 R747, R755; s) -/
  lostRun : Option Nat := none
  /-- first event lost in the run, to be reported at the next boundary (22 R747; ESEQ) -/
  lostDue : Option Nat := none
  /-- cursors of the open grants (22 R749; at most 8) -/
  cursors : List Cursor := []
  deriving DecidableEq, Repr

end Sys2Proof.Machine
end

