-- ==== Sys2Proof/Parts/P21.lean ====
section
/-! DEFINITION. Sentinel, outage, journal and tamper (spec/21): the part of the state that this chapter gives the machine. -/

namespace Sys2Proof.Machine

/-- A time set validated and not yet applied (R698). -/
structure TimeSet where
  /-- UTC seconds (21 R698 RTC_S; 64 bits) -/
  rtcS : Nat := 0
  /-- sub-second (21 R698 RTC_SUB; 15 bits) -/
  sub : Nat := 0
  /-- reference count, 0 = applies as given (21 R698 REF_COUNT; 64 bits) -/
  refCount : Nat := 0
  /-- boundary (clk.bndTot) in whose cycle it was validated (it applies at the next boundary) (21 R698; boundary number) -/
  bnd : Nat := 0
  deriving DecidableEq, Repr

/-- The sentinel domain: RTC, stores, gauge, mains-loss signal and outage bookkeeping. -/
structure Sen where
  /-- state of Table 21.1 (a hub just powered after a cold start) (21 R696; -) -/
  st : SenSt := .powered
  /-- RTC seconds (21 R697; 64 bits) -/
  rtcS : Nat := 0
  /-- RTC sub-second (21 R697; 15 bits) -/
  rtcSub : Nat := 0
  /-- oscillator periods counted since power-on (periodic timers and runs count on it) (21 R699; 1/32 768 s) -/
  mono : Nat := 0
  /-- a time set has been applied since the last cold start or oscillator stop (21 R697 RTC_VALID; 1 bit) -/
  rtcValid : Bool := false
  /-- the 32.768 kHz oscillator has stopped (21 R724 XTAL_FAULT; 1 bit) -/
  xtalFault : Bool := false
  /-- gauge level code (NIGHT with no SENTINEL record) (21 R704, R703; 4 bits) -/
  level : Nat := 4
  /-- percent (21 R703 PCT; 8 bits) -/
  pct : Nat := 0
  /-- STORE_D as measured (21 R724 VSTORE; 16 bits, mV) -/
  vStore : Nat := 0
  /-- STORE_Q as measured (21 R724 VQUICK; 16 bits, mV) -/
  vQuick : Nat := 0
  /-- VSENT at 2.0 V or above (21 R724 SOURCES 79; 1 bit) -/
  vsent : Bool := true
  /-- PV harvesting (21 R724 SOURCES 78; 1 bit) -/
  pvOn : Bool := false
  /-- surplus field energy (21 R724 SOURCES 77; 1 bit) -/
  field : Bool := false
  /-- cell connected (21 R701, R724 SOURCES 76; 1 bit) -/
  cellOn : Bool := false
  /-- STORE_D charging (21 R700, R724 SOURCES 75; 1 bit) -/
  deepChg : Bool := false
  /-- cell low (21 R701 CELL_LOW; 1 bit) -/
  cellLow : Bool := false
  /-- PV operating voltage (21 R724 PV_MV; 16 bits, mV) -/
  pvMv : Nat := 0
  /-- cold starts (21 R724 COLD_STARTS; 32 bits saturating, MRAM) -/
  coldStarts : Nat := 0
  /-- mains-loss signal (21 R706; 1 bit) -/
  mlSig : Bool := false
  /-- 1 MS inputs, 2 PWR_FAIL, 3 both (21 R716 CAUSE, R724; 8 bits, MRAM) -/
  mlCause : Nat := 0
  /-- PWR_FAIL as read (21 R706; pin) -/
  pwrFail : Bool := false
  /-- outage steps taken in this outage (21 R707; 0-6) -/
  seq : Nat := 0
  /-- bit 0 rail off, 1 partial cycle, 2 ledgers, 3 journal, 4 last light (block 68 OUT_STEPS) (21 R716 STEPS; 8 bits, MRAM) -/
  steps : Nat := 0
  /-- points charging at the outage (21 R716 CHARGING; 8 bits, MRAM) -/
  charging : Nat := 0
  /-- RTC seconds of the last outage (21 R724 OUT_RTC; 64 bits, MRAM) -/
  outRtc : Nat := 0
  /-- sub-second of the last outage (21 R716 RTC_SUB; 15 bits) -/
  outSub : Nat := 0
  /-- partial cycle of the last outage (21 R724 OUT_COUNT; 64 bits, MRAM) -/
  outCount : Nat := 0
  /-- RTC seconds of the last return (21 R724 RET_RTC; 64 bits, MRAM) -/
  retRtc : Nat := 0
  /-- seconds dormant (21 R724 DORMANT_S; 32 bits saturating, MRAM) -/
  dormantS : Nat := 0
  /-- outages (21 R724 OUTAGES; 32 bits saturating, MRAM) -/
  outages : Nat := 0
  /-- RTC seconds at which DORMANT was entered (21 R713; 64 bits) -/
  dormSince : Nat := 0
  /-- step of the last time set (21 R724 SET_STEP; 64 bits signed, MRAM) -/
  setStep : Int := 0
  /-- time set validated and not yet applied (21 R698; -) -/
  pend : Option TimeSet := none
  /-- sentinel event buffer, oldest first (21 R712; at most 15 entries) -/
  buf : List EventRec := []
  /-- events lost from the buffer (21 R712; 32 bits) -/
  bufLost : Nat := 0
  /-- cover openings during the outage (21 R716 COVER_D; 16 bits) -/
  coverD : Nat := 0
  /-- terminal-cover openings during the outage (21 R716 TERM_D; 16 bits) -/
  termD : Nat := 0
  /-- the RTC is counted from the 25 MHz reference (21 R728; 1 bit) -/
  rtcRef : Bool := false
  /-- STORE_D switched onto VBACK (21 R709; 1 bit) -/
  vback : Bool := false
  /-- seconds since the last hourly tag update (21 R699; s) -/
  tmr3600 : Nat := 0
  deriving DecidableEq, Repr

/-- A journal record as programmed (Table 21.8). -/
structure JRec where
  /-- type of Table 21.9 (21 R716 TYPE; 8 bits) -/
  typ : Nat := 0
  /-- length in words (21 R716 WORDS; 8 bits) -/
  words : Nat := 2
  /-- journal record number (21 R716 JSEQ; 48 bits) -/
  jseq : Nat := 0
  /-- body words (21 R716; words) -/
  body : List W128 := []
  /-- ESEQ of each event of an EVENTS record (the model's own note; the hub counts them) (22 R748; 64 bits each) -/
  eseqs : List Nat := []
  deriving DecidableEq, Repr

/-- One journal sector (R714). -/
structure JSec where
  /-- state of Table 21.7; a blank flash holds no valid header (21 R715; 32 bits) -/
  st : JSecSt := .noState
  /-- sector sequence number (21 R714 SECTOR_SEQ; 32 bits) -/
  seq : Nat := 0
  /-- RECORD_NO of its first SEAL record (21 R714 FIRST_SEAL; 64 bits) -/
  firstSeal : Option Nat := none
  /-- JSEQ of its first record (21 R714 FIRST_JSEQ; 48 bits) -/
  firstJseq : Nat := 0
  /-- records, oldest first (21 R714; at most 254 words) -/
  recs : List JRec := []
  /-- SUSPECT at this start (21 R718; 1 bit) -/
  suspect : Bool := false
  deriving DecidableEq, Repr

/-- LED's journal. -/
structure Jrn where
  /-- sectors whose header is not that of an unopened blank sector, by index (21 R714; flash journal region) -/
  secs : List (Nat × JSec) := []
  /-- active sector (21 R724 ACTIVE_SECTOR; 16 bits) -/
  active : Option Nat := none
  /-- next JSEQ (21 R724 JSEQ_NEXT; 48 bits, MRAM) -/
  next : Nat := 1
  /-- low mark (21 R717 OLDEST_JSEQ; 48 bits, MRAM) -/
  oldJseq : Nat := 1
  /-- low mark (21 R717 OLDEST_SEAL; 64 bits, MRAM) -/
  oldSeal : Nat := 1
  /-- low mark (21 R717 OLDEST_EVENT; 64 bits, MRAM) -/
  oldEvent : Nat := 1
  /-- next SECTOR_SEQ (21 R714; 32 bits) -/
  seqNext : Nat := 0
  /-- erase marker: index of the sector being erased (21 R718; MRAM) -/
  marker : Option Nat := none
  /-- sector under erase (21 R717; sector) -/
  erasing : Option Nat := none
  /-- journal stopped until the next start (21 R720; 1 bit) -/
  stopped : Bool := false
  /-- consecutive sectors that failed verification (21 R720; 0-3) -/
  failRun : Nat := 0
  /-- SUSPECT sectors since start (21 R724 SUSPECT_N; 16 bits) -/
  suspectN : Nat := 0
  deriving DecidableEq, Repr

/-- A tamper record (R721, R722, R724). -/
structure TRec where
  /-- count, saturating (21 R724 COUNT; 16 bits, MRAM) -/
  count : Nat := 0
  /-- stamp of the first occurrence (21 R724 FIRST; 55 bits, MRAM) -/
  first : Nat := 0
  /-- RTC_VALID was clear at FIRST (21 R724 FIRST_INV; 1 bit, MRAM) -/
  firstInv : Bool := false
  /-- stamp of the last occurrence (21 R724 LAST; 55 bits, MRAM) -/
  last : Nat := 0
  /-- RTC_VALID was clear at LAST (21 R724 LAST_INV; 1 bit, MRAM) -/
  lastInv : Bool := false
  deriving DecidableEq, Repr

/-- The tamper watch. -/
structure Tamper where
  /-- cabinet cover (21 R721; MRAM and tag) -/
  cover : TRec := {}
  /-- terminal cover (21 R721; MRAM and tag) -/
  term : TRec := {}
  /-- open readings of the cover (21 R721; at most 2 samples, newest first) -/
  coverHist : List Bool := []
  /-- open readings of the terminal cover (21 R721; at most 2 samples, newest first) -/
  termHist : List Bool := []
  /-- a closed sample precedes the open ones (cover) (21 R721; 1 bit) -/
  coverArm : Bool := false
  /-- a closed sample precedes the open ones (terminal cover) (21 R721; 1 bit) -/
  termArm : Bool := false
  /-- clock set (21 R722; MRAM) -/
  clock : TRec := {}
  /-- head removal per slot (21 R722; 8 records, MRAM) -/
  headRem : Vector TRec 8 := Vector.replicate 8 {}
  /-- slot change per slot (21 R722; 8 records, MRAM) -/
  slotChg : Vector TRec 8 := Vector.replicate 8 {}
  /-- sensor-excitation loss per slot (21 R722; 8 records, MRAM) -/
  exc : Vector TRec 8 := Vector.replicate 8 {}
  /-- count per channel, index 28 x slot + channel (21 R724 EXC_N; 224 x 16 bits, MRAM) -/
  excN : Vector Nat 224 := Vector.replicate 224 0
  deriving DecidableEq, Repr

end Sys2Proof.Machine
end

