-- ==== Sys2Proof/Parts/P23.lean ====
section
/-! DEFINITION. Electrical and the model's own fields (spec/23): the part of the state that this chapter gives the machine. -/

namespace Sys2Proof.Machine

/-- Pins and supplies that no other part holds. -/
structure Elec where
  /-- nRESET level (true = high) (03 R85, 23 R787; pin) -/
  nreset : Bool := true
  /-- VDD33 and VCORE above their reset thresholds (23 R764, R789; 1 bit) -/
  supplyOk : Bool := true
  /-- the 25 MHz oscillator runs (23 R768, R790; 1 bit) -/
  xtalOk : Bool := true
  /-- MB_TX idles high (23 R774, Table 23.10; pin) -/
  mbTxHigh : Bool := true
  /-- a production test-port request has been made (03 R106; 1 bit) -/
  testReq : Bool := false
  deriving DecidableEq, Repr

end Sys2Proof.Machine
end

