-- ==== Sys2Proof/Machine/State.lean ====
section
/-! DEFINITION. The state of the block as plain data, its fault and refusal names, and the machine right after reset.
Every field of every part carries its reset value as its default; INVENTORY.md lists each with its rule. -/

namespace Sys2Proof.Machine

/-- Why the machine stops with a fault. -/
inductive Fault where
  /-- Raised by no command: the manual gives every command an effect. Kept so that the outcome type is closed (safe). -/
  | none
  deriving DecidableEq, Repr

/-- Why a command is refused. -/
inductive Refusal where
  /-- Raised by an arm of exec whose command has no meaning yet (safe: nothing is claimed of it). -/
  | notModelled (mnemonic : String)
  deriving DecidableEq, Repr

/-- The whole state of the hub and its heads, and the queue of commands that are waiting. -/
structure State where
  /-- engines (01) -/
  eng : Eng
  /-- gates and inlets (01) -/
  gates : Gates
  /-- cycle clock (02) -/
  clk : Clk
  /-- start and life cycle (03) -/
  life : Life
  /-- keys and trust (04) -/
  keys : Keys
  /-- running image (05) -/
  img : Img
  /-- flash memory (05) -/
  flash : Flash
  /-- image delivery (05) -/
  dlv : Dlv
  /-- point-link ports (06) -/
  ports : Vector Port 8
  /-- the heads themselves (06) -/
  heads : Vector Head 8
  /-- measurement chain per head slot (07) -/
  meas : Vector HeadMeas 8
  /-- metering queue (08) -/
  met : Met
  /-- metering per point (08) -/
  pmet : Vector PtMet 32
  /-- safety state machines (09) -/
  safe : Safe
  /-- safety per point (09) -/
  psafe : Vector PtSafe 32
  /-- pilot, lock and point state per point (10) -/
  cp : Vector PtCp 32
  /-- SLAC and tunnel per point (11) -/
  plc : Vector PtPlc 32
  /-- pipe rotation per head slot (11) -/
  pipes : Vector Pipes 8
  /-- pipes and buffers inside each head (11) -/
  hpipes : Vector HeadPipes 8
  /-- session contexts (12) -/
  ses : Vector PtSes 32
  /-- shared session values (12) -/
  sesSys : SesSys
  /-- authorisation per point (13) -/
  auth : Vector PtAuth 32
  /-- authorisation of the hub (13) -/
  authSys : AuthSys
  /-- ledger (14) -/
  led : Led
  /-- sealed records (15) -/
  recs : Recs
  /-- M-Bus (15) -/
  mbus : Mbus
  /-- tag (16) -/
  tag : Tag
  /-- Acrad PHY (17) -/
  phy : Phy
  /-- Acrad network (18) -/
  lnk : Lnk
  /-- load sharing (19) -/
  share : Share
  /-- display (20) -/
  epd : Epd
  /-- VE lanes, SRAM and MRAM health (22) -/
  fab : Fab
  /-- event unit (22) -/
  ev : Ev
  /-- sentinel (21) -/
  sen : Sen
  /-- journal (21) -/
  jrn : Jrn
  /-- tamper records (21) -/
  tamper : Tamper
  /-- pins and supplies (23) -/
  elec : Elec
  /-- the model's own count of free values drawn (log entry 4) -/
  freeCtr : Nat
  /-- commands waiting, first in, first out -/
  pending : List Instr
  deriving DecidableEq, Repr

/-- A blank factory part right after its power came up: the reset values of the manual, and for what it leaves
open the values that log entries 1 and 2 name. The queue is empty. -/
def State.reset : State where
  eng := {}
  gates := {}
  clk := {}
  life := {}
  keys := {}
  img := {}
  flash := {}
  dlv := {}
  ports := Vector.replicate 8 {}
  heads := Vector.replicate 8 {}
  meas := Vector.replicate 8 {}
  met := {}
  pmet := Vector.replicate 32 {}
  safe := {}
  psafe := Vector.replicate 32 {}
  cp := Vector.replicate 32 {}
  plc := Vector.replicate 32 {}
  pipes := Vector.replicate 8 {}
  hpipes := Vector.replicate 8 {}
  ses := Vector.replicate 32 {}
  sesSys := {}
  auth := Vector.replicate 32 {}
  authSys := {}
  led := {}
  recs := {}
  mbus := {}
  tag := {}
  phy := {}
  lnk := {}
  share := {}
  epd := {}
  fab := {}
  ev := {}
  sen := {}
  jrn := {}
  tamper := {}
  elec := {}
  freeCtr := 0
  pending := []

/-- Change `eng`. -/
def State.modEng (f : Eng → Eng) (s : State) : State :=
  { s with eng := f s.eng }

/-- Change `gates`. -/
def State.modGates (f : Gates → Gates) (s : State) : State :=
  { s with gates := f s.gates }

/-- Change `clk`. -/
def State.modClk (f : Clk → Clk) (s : State) : State :=
  { s with clk := f s.clk }

/-- Change `life`. -/
def State.modLife (f : Life → Life) (s : State) : State :=
  { s with life := f s.life }

/-- Change `keys`. -/
def State.modKeys (f : Keys → Keys) (s : State) : State :=
  { s with keys := f s.keys }

/-- Change `img`. -/
def State.modImg (f : Img → Img) (s : State) : State :=
  { s with img := f s.img }

/-- Change `flash`. -/
def State.modFlash (f : Flash → Flash) (s : State) : State :=
  { s with flash := f s.flash }

/-- Change `dlv`. -/
def State.modDlv (f : Dlv → Dlv) (s : State) : State :=
  { s with dlv := f s.dlv }

/-- Change one entry of `ports`. -/
def State.modPort (i : Fin 8) (f : Port → Port) (s : State) : State :=
  { s with ports := s.ports.set i (f s.ports[i]) }

/-- Change one entry of `heads`. -/
def State.modHead (i : Fin 8) (f : Head → Head) (s : State) : State :=
  { s with heads := s.heads.set i (f s.heads[i]) }

/-- Change one entry of `meas`. -/
def State.modMeas (i : Fin 8) (f : HeadMeas → HeadMeas) (s : State) : State :=
  { s with meas := s.meas.set i (f s.meas[i]) }

/-- Change `met`. -/
def State.modMet (f : Met → Met) (s : State) : State :=
  { s with met := f s.met }

/-- Change one entry of `pmet`. -/
def State.modPmet (i : Fin 32) (f : PtMet → PtMet) (s : State) : State :=
  { s with pmet := s.pmet.set i (f s.pmet[i]) }

/-- Change `safe`. -/
def State.modSafe (f : Safe → Safe) (s : State) : State :=
  { s with safe := f s.safe }

/-- Change one entry of `psafe`. -/
def State.modPsafe (i : Fin 32) (f : PtSafe → PtSafe) (s : State) : State :=
  { s with psafe := s.psafe.set i (f s.psafe[i]) }

/-- Change one entry of `cp`. -/
def State.modCp (i : Fin 32) (f : PtCp → PtCp) (s : State) : State :=
  { s with cp := s.cp.set i (f s.cp[i]) }

/-- Change one entry of `plc`. -/
def State.modPlc (i : Fin 32) (f : PtPlc → PtPlc) (s : State) : State :=
  { s with plc := s.plc.set i (f s.plc[i]) }

/-- Change one entry of `pipes`. -/
def State.modPipes (i : Fin 8) (f : Pipes → Pipes) (s : State) : State :=
  { s with pipes := s.pipes.set i (f s.pipes[i]) }

/-- Change one entry of `hpipes`. -/
def State.modHpipes (i : Fin 8) (f : HeadPipes → HeadPipes) (s : State) : State :=
  { s with hpipes := s.hpipes.set i (f s.hpipes[i]) }

/-- Change one entry of `ses`. -/
def State.modSes (i : Fin 32) (f : PtSes → PtSes) (s : State) : State :=
  { s with ses := s.ses.set i (f s.ses[i]) }

/-- Change `sesSys`. -/
def State.modSesSys (f : SesSys → SesSys) (s : State) : State :=
  { s with sesSys := f s.sesSys }

/-- Change one entry of `auth`. -/
def State.modAuth (i : Fin 32) (f : PtAuth → PtAuth) (s : State) : State :=
  { s with auth := s.auth.set i (f s.auth[i]) }

/-- Change `authSys`. -/
def State.modAuthSys (f : AuthSys → AuthSys) (s : State) : State :=
  { s with authSys := f s.authSys }

/-- Change `led`. -/
def State.modLed (f : Led → Led) (s : State) : State :=
  { s with led := f s.led }

/-- Change `recs`. -/
def State.modRecs (f : Recs → Recs) (s : State) : State :=
  { s with recs := f s.recs }

/-- Change `mbus`. -/
def State.modMbus (f : Mbus → Mbus) (s : State) : State :=
  { s with mbus := f s.mbus }

/-- Change `tag`. -/
def State.modTag (f : Tag → Tag) (s : State) : State :=
  { s with tag := f s.tag }

/-- Change `phy`. -/
def State.modPhy (f : Phy → Phy) (s : State) : State :=
  { s with phy := f s.phy }

/-- Change `lnk`. -/
def State.modLnk (f : Lnk → Lnk) (s : State) : State :=
  { s with lnk := f s.lnk }

/-- Change `share`. -/
def State.modShare (f : Share → Share) (s : State) : State :=
  { s with share := f s.share }

/-- Change `epd`. -/
def State.modEpd (f : Epd → Epd) (s : State) : State :=
  { s with epd := f s.epd }

/-- Change `fab`. -/
def State.modFab (f : Fab → Fab) (s : State) : State :=
  { s with fab := f s.fab }

/-- Change `ev`. -/
def State.modEv (f : Ev → Ev) (s : State) : State :=
  { s with ev := f s.ev }

/-- Change `sen`. -/
def State.modSen (f : Sen → Sen) (s : State) : State :=
  { s with sen := f s.sen }

/-- Change `jrn`. -/
def State.modJrn (f : Jrn → Jrn) (s : State) : State :=
  { s with jrn := f s.jrn }

/-- Change `tamper`. -/
def State.modTamper (f : Tamper → Tamper) (s : State) : State :=
  { s with tamper := f s.tamper }

/-- Change `elec`. -/
def State.modElec (f : Elec → Elec) (s : State) : State :=
  { s with elec := f s.elec }

/-- Change `freeCtr`. -/
def State.modFreeCtr (f : Nat → Nat) (s : State) : State :=
  { s with freeCtr := f s.freeCtr }

end Sys2Proof.Machine
end

