-- ==== Sys2Proof/Machine/Ops.lean ====
section
/-! DEFINITION. Shared operations: saturating counters, words and bytes, time, free values, and the event unit by which
every chapter reports (22 R744 to R747). -/

namespace Sys2Proof.Machine

/-- Saturating addition at 2^n - 1. -/
def satAdd (n a b : Nat) : Nat := min (a + b) (2 ^ n - 1)

/-- Saturating increment of a 32-bit counter. -/
def inc32 (a : Nat) : Nat := satAdd 32 a 1

/-- Saturating increment of a 16-bit counter. -/
def inc16 (a : Nat) : Nat := satAdd 16 a 1

/-- Map a vector entry by entry. -/
def vmap {α β : Type} {n : Nat} (f : α → β) (v : Vector α n) : Vector β n :=
  ⟨(v.toList.map f).toArray, by simp⟩

/-- The indices below n as a list. -/
def finList : (n : Nat) → List (Fin n)
  | 0 => []
  | n + 1 => (finList n).map Fin.castSucc ++ [Fin.last n]

/-- A natural number as an index below n, if it is one. -/
def fin? (n i : Nat) : Option (Fin n) := if h : i < n then some ⟨i, h⟩ else none

/-- Bits hi down to lo of a number. -/
def bits (w hi lo : Nat) : Nat := (w / 2 ^ lo) % 2 ^ (hi + 1 - lo)

/-- Bits hi down to lo of a 128-bit word. -/
def fld (w : W128) (hi lo : Nat) : Nat := bits w.toNat hi lo

/-- Bit i of a number. -/
def bitOf (w i : Nat) : Bool := bits w i i == 1

/-- A flag as a bit. -/
def b2n (b : Bool) : Nat := if b then 1 else 0

/-- A 128-bit word from fields: each a low bit and a value. -/
def mkWord (fs : List (Nat × Nat)) : W128 :=
  BitVec.ofNat 128 ((fs.map fun f => f.2 * 2 ^ f.1).foldl (· + ·) 0)

/-- A signed number as its n-bit two's complement. -/
def twos (n : Nat) (x : Int) : Nat := (x % (2 ^ n : Int)).toNat

/-- A signed number saturated to n bits and written in two's complement. -/
def satTwos (n : Nat) (x : Int) : Nat :=
  twos n (max (-(2 ^ (n - 1) : Int)) (min (2 ^ (n - 1) - 1 : Int) x))

/-- The signed number that n bits in two's complement spell. -/
def ofTwos (n w : Nat) : Int := if w < 2 ^ (n - 1) then w else (w : Int) - 2 ^ n

/-- The n low bytes of a number, lowest byte first (00 R12). -/
def bytesLE : (n : Nat) → Nat → List Nat
  | 0, _ => []
  | n + 1, w => w % 256 :: bytesLE n (w / 256)

/-- The number that bytes spell, lowest byte first. -/
def natLE : List Nat → Nat
  | [] => 0
  | b :: bs => b % 256 + 256 * natLE bs

/-- The n low bytes of a number, highest byte first. -/
def bytesBE (n w : Nat) : List Nat := (bytesLE n w).reverse

/-- The number that bytes spell, highest byte first. -/
def natBE (bs : List Nat) : Nat := natLE bs.reverse

/-- One bit step of the reflected CRC-32. -/
def crcBit (c : BitVec 32) : BitVec 32 :=
  if c.getLsbD 0 then (c >>> 1) ^^^ 0xEDB88320#32 else c >>> 1

/-- One byte step of the CRC-32. -/
def crcByte (c : BitVec 32) (b : Nat) : BitVec 32 :=
  crcBit (crcBit (crcBit (crcBit (crcBit (crcBit (crcBit (crcBit (c ^^^ BitVec.ofNat 32 (b % 256)))))))))

/-- The CRC-32 of 05 R160. -/
def crc32 (bs : List Nat) : Nat := ((bs.foldl crcByte 0xFFFFFFFF#32) ^^^ 0xFFFFFFFF#32).toNat

/-- The 16 bytes of a word, byte 0 lowest (00 R12). -/
def wordBytes (w : W128) : List Nat := bytesLE 16 w.toNat

/-- The bytes of words in order. -/
def wordsBytes (ws : List W128) : List Nat := (ws.map wordBytes).flatten

/-- Bytes as words, the last padded with zeros; at most n words. -/
def bytesWords : Nat → List Nat → List W128
  | 0, _ => []
  | _ + 1, [] => []
  | n + 1, bs => BitVec.ofNat 128 (natLE (bs.take 16)) :: bytesWords n (bs.drop 16)

/-- Whether a list holds no number twice. -/
def noDup : List Nat → Bool
  | [] => true
  | x :: xs => !xs.contains x && noDup xs

/-- Put a number into an ascending list without repeats. -/
def insertAsc (x : Nat) : List Nat → List Nat
  | [] => [x]
  | y :: ys => if x < y then x :: y :: ys else if x = y then y :: ys else y :: insertAsc x ys

/-- Set the entry of a key in an association list, in ascending order of keys. -/
def kset {α : Type} (k : Nat) (v : α) : List (Nat × α) → List (Nat × α)
  | [] => [(k, v)]
  | e :: es => if k < e.1 then (k, v) :: e :: es else if k = e.1 then (k, v) :: es else e :: kset k v es

/-- The entry of a key. -/
def kget? {α : Type} (k : Nat) (l : List (Nat × α)) : Option α := (l.find? (·.1 == k)).map (·.2)

/-- Remove a key. -/
def kdel {α : Type} (k : Nat) (l : List (Nat × α)) : List (Nat × α) := l.filter (·.1 != k)

/-- Insert by key, after the entries of a key not greater. -/
def insertBy {α : Type} (key : α → Nat) (x : α) : List α → List α
  | [] => [x]
  | y :: ys => if key x < key y then x :: y :: ys else y :: insertBy key x ys

/-- Sort by key, keeping the order of equal keys. -/
def sortBy {α : Type} (key : α → Nat) (l : List α) : List α := l.foldl (fun acc x => insertBy key x acc) []

/-- The byte of a canonical memory at an address; an unlisted address reads d. -/
def memRead (d : Byte) (m : List Host.Cell) (a : Nat) : Byte :=
  match m.find? (·.1 == a) with
  | some c => c.2
  | none => d

/-- Write one byte, keeping addresses ascending and listing no byte equal to d. -/
def memWrite (d : Byte) (a : Nat) (b : Byte) : List Host.Cell → List Host.Cell
  | [] => if b = d then [] else [(a, b)]
  | c :: cs =>
    if a < c.1 then (if b = d then c :: cs else (a, b) :: c :: cs)
    else if a = c.1 then (if b = d then cs else (a, b) :: cs)
    else c :: memWrite d a b cs

/-- Write bytes from an address up. -/
def memWriteAll (d : Byte) : Nat → List Nat → List Host.Cell → List Host.Cell
  | _, [], m => m
  | a, b :: bs, m => memWriteAll d (a + 1) bs (memWrite d a (BitVec.ofNat 8 b) m)

/-- n bytes from an address up. -/
def memReadN (d : Byte) (m : List Host.Cell) : Nat → Nat → List Nat
  | _, 0 => []
  | a, n + 1 => (memRead d m a).toNat :: memReadN d m (a + 1) n

/-- The canonical form of a memory: addresses strictly ascending, no byte equal to d. -/
def memWf (d : Byte) : List Host.Cell → Bool
  | [] => true
  | [c] => c.2 != d
  | c :: e :: cs => c.2 != d && decide (c.1 < e.1) && memWf d (e :: cs)

/-- Integer square root by bits, from bit k down. -/
def isqrtGo (x : Nat) : Nat → Nat → Nat
  | 0, r => if (r + 1) * (r + 1) ≤ x then r + 1 else r
  | k + 1, r =>
    let r' := r + 2 ^ (k + 1)
    isqrtGo x k (if r' * r' ≤ x then r' else r)

/-- Integer square root of a number below 2^128, truncated. -/
def isqrt (x : Nat) : Nat := isqrtGo x 63 0

/-- Truncation of an exact value toward zero. -/
def truncRat (x : Rat) : Int := if 0 ≤ x then x.floor else -(-x).floor

/-- Rounding of an exact value to the nearest whole number, halves away from zero. -/
def roundRat (x : Rat) : Int := if 0 ≤ x then (x + 1 / 2).floor else -(-x + 1 / 2).floor

/-- Draw one free value (log entry 4). -/
def draw (s : State) : Nat × State := (Config.freeValue s.freeCtr, s.modFreeCtr (· + 1))

/-- Seconds of the sentinel oscillator since power-on (21 R699), on which runs of events end. -/
def nowS (s : State) : Nat := s.sen.mono / 32768

/-- Time passes: the RTC counts n periods of its 32.768 kHz oscillator, or of the 25 MHz reference while the crystal
is stopped (21 R697, R728). In COLD nothing counts. -/
def passTime (n : Nat) (s : State) : State :=
  if s.sen.st = .cold then s
  else s.modSen fun e =>
    let e := { e with mono := e.mono + n }
    if e.xtalFault && !e.rtcRef then e
    else { e with rtcS := e.rtcS + (e.rtcSub + n) / 32768, rtcSub := (e.rtcSub + n) % 32768 }

/-- Whether a run that last saw its event at second t is still on at second now: it ends after 60 s without. -/
def runOn (t : Option Nat) (now : Nat) : Bool :=
  match t with
  | some x => decide (now < x + 60)
  | none => false

/-- The event unit writes one accepted event into the ring (22 R745, R747). -/
def evPut (e : EventRec) (s : State) : State :=
  let n := s.ev.next
  let loses := decide (1024 < n) && decide (s.ev.journaled < n - 1024)
  s.modEv fun v =>
    { v with
      next := n + 1
      ring := (n, s.clk.bndTot, e) :: v.ring.take 1023
      lost := if loses then inc32 v.lost else v.lost
      lostDue := if loses && !runOn v.lostRun (nowS s) then some (n - 1024) else v.lostDue
      lostRun := if loses then some (nowS s) else v.lostRun }

/-- The event unit accepts an event or drops it beyond the limits of a cycle (22 R746). -/
def evAccept (e : EventRec) (s : State) : State :=
  if s.ev.acc < 48 then evPut e (s.modEv fun v => { v with acc := v.acc + 1 })
  else if e.code / 0x1000 = 1 && s.ev.accSafe < 16 then
    evPut e (s.modEv fun v => { v with accSafe := v.accSafe + 1 })
  else s.modEv fun v => { v with dropped := v.dropped + 1 }

/-- Keep an event raised before C0: at most 128 are held (22 R746, 03 R87). -/
def evHold (e : EventRec) (s : State) : State :=
  if s.ev.held.length < 128 then s.modEv fun v => { v with held := v.held ++ [e] }
  else s.modEv fun v => { v with heldDrop := v.heldDrop + 1 }

/-- The sentinel event buffer takes an event: 15 entries and a count of the lost (21 R712). -/
def evBuffer (e : EventRec) (s : State) : State :=
  if s.sen.st = .cold then s
  else if s.sen.buf.length < 15 then s.modSen fun v => { v with buf := v.buf ++ [e] }
  else s.modSen fun v => { v with bufLost := inc32 v.bufLost }

/-- An event of a source is raised: while the hub is unpowered it goes to the sentinel buffer, before C0 it is held, and
otherwise the event unit accepts it (22 R745, R746; 21 R712; 03 R87). -/
def raise (code source point arg : Nat) (s : State) : State :=
  let e : EventRec := { count := s.clk.count, code, source, point, arg := arg % 2 ^ 32 }
  if !s.elec.supplyOk then evBuffer e s
  else if !s.clk.started then evHold e s
  else evAccept e s

/-- Raise an event if a condition holds. -/
def raiseIf (c : Bool) (code source point arg : Nat) (s : State) : State :=
  if c then raise code source point arg s else s

/-- Source codes of 01 Table 1.4. -/
def srcOf : EngineId → Nat
  | .boot => 1 | .met => 2 | .led => 3 | .ses => 4 | .lnk => 5 | .rdo => 6 | .dsp => 7 | .sen => 8

end Sys2Proof.Machine
end

