-- ==== Sys2Proof/Machine/Image.lean ====
section
/-! DEFINITION. Reading the running configuration image by record and field (05 R161 to R170). A field of a record that
the image does not hold reads zero. -/

namespace Sys2Proof.Machine

/-- The payload of the record of a type and an index. -/
def recOf (s : State) (typ idx : Nat) : Option (List W128) :=
  (s.img.recs.find? fun r => r.typ == typ && r.idx == idx).map (·.pay)

/-- A field of a payload: word, high bit, low bit. -/
def payFld (p : List W128) (w hi lo : Nat) : Nat := fld (p.getD w 0) hi lo

/-- A field of a record. -/
def cfg (s : State) (typ idx w hi lo : Nat) : Nat :=
  match recOf s typ idx with
  | some p => payFld p w hi lo
  | none => 0

/-- Whether an image runs. -/
def hasImage (s : State) : Bool := s.img.gen != 0

/-- IDENTITY (05 Table 5.5). -/
def nodeId (s : State) : Nat := cfg s 0x10 0 0 127 120
def ownFeeder (s : State) : Nat := cfg s 0x10 0 0 119 112
def coordCapable (s : State) : Bool := cfg s 0x10 0 0 111 111 == 1
def flashMib (s : State) : Nat := cfg s 0x10 0 0 103 96

/-- ESTATE (05 Table 5.6); without an image the ESTATE_ID of the last applied one (05 R175). -/
def estateId (s : State) : Option Nat :=
  match recOf s 0x11 0 with
  | some p => some (payFld p 0 127 96)
  | none => s.img.estateMram
def inNodeMap (s : State) (k : Nat) : Bool :=
  if k < 128 then bitOf (cfg s 0x11 0 1 127 0) k else bitOf (cfg s 0x11 0 2 127 0) (k - 128)

/-- CLOCK (05 Table 5.7). -/
def msTrim (s : State) : MsIn → Int
  | .l1 => ofTwos 16 (cfg s 0x20 0 0 63 48)
  | .l2 => ofTwos 16 (cfg s 0x20 0 0 47 32)
  | .l3 => ofTwos 16 (cfg s 0x20 0 0 31 16)

/-- SAFETY (05 Table 5.8). -/
def iacTrip (s : State) : Nat := cfg s 0x40 0 0 127 120
def npeMax (s : State) : Nat := cfg s 0x40 0 0 119 112
def t1Cfg (s : State) : Nat := cfg s 0x40 0 0 111 96
def t2Cfg (s : State) : Nat := cfg s 0x40 0 0 95 80

/-- SENTINEL (05 Table 5.10): the running record, else the stored one (21 R703). -/
def sentinelRec (s : State) : Option W128 :=
  match recOf s 0xB0 0 with
  | some (w :: _) => some w
  | _ => s.img.sentinelMram

/-- A field of the SENTINEL record, or d when the hub has never applied one. -/
def senFld (s : State) (hi lo d : Nat) : Nat :=
  match sentinelRec s with
  | some w => fld w hi lo
  | none => d

/-- Whether a head slot has a HEAD record. -/
def hasHead (s : State) (slot : Nat) : Bool := (recOf s 0x30 slot).isSome

/-- Whether a point index is fitted: its POINT record is present (06 R192). -/
def hasPoint (s : State) (i : Nat) : Bool := (recOf s 0x31 i).isSome

/-- POINT (10 Table 10.1). -/
def ptTethered (s : State) (i : Nat) : Bool := cfg s 0x31 i 0 127 124 == 1
def ptPhases (s : State) (i : Nat) : Nat := cfg s 0x31 i 0 123 122
def ptLockPol (s : State) (i : Nat) : Bool := cfg s 0x31 i 0 121 121 == 1
def ptFreeVend (s : State) (i : Nat) : Bool := cfg s 0x31 i 0 120 120 == 1
def ptHlcEn (s : State) (i : Nat) : Bool := cfg s 0x31 i 0 119 119 == 1
def ptBidir (s : State) (i : Nat) : Bool := cfg s 0x31 i 0 118 118 == 1
def ptDOk (s : State) (i : Nat) : Bool := cfg s 0x31 i 0 117 117 == 1
def ptIMax (s : State) (i : Nat) : Nat := cfg s 0x31 i 0 111 96
def ptCableMax (s : State) (i : Nat) : Nat := cfg s 0x31 i 0 95 80
def ptExpMax (s : State) (i : Nat) : Nat := cfg s 0x31 i 0 79 64
def ptLockT (s : State) (i : Nat) : Nat := cfg s 0x31 i 0 63 48
def ptIndLevel (s : State) (i : Nat) : Nat := cfg s 0x31 i 0 47 40
def ptRot (s : State) (i : Nat) : Nat := cfg s 0x31 i 0 39 32
def ptLabel (s : State) (i : Nat) : List Nat := cutZero16 (cfg s 0x31 i 1 127 0)
where cutZero16 (w : Nat) : List Nat := (bytesLE 16 w).takeWhile (· != 0)

/-- A TENANT_DIR entry (13 Table 13.2): its two words, looked up by tenant. -/
def tenantEntryGo (t : Nat) : List W128 → Option (W128 × W128)
  | a :: b :: ws => if fld a 127 112 = t then some (a, b) else tenantEntryGo t ws
  | _ => none
def tenantEntry (s : State) (t : Nat) : Option (W128 × W128) :=
  match recOf s 0x51 0 with
  | some (_ :: ws) => tenantEntryGo t ws
  | _ => none

end Sys2Proof.Machine
end

