-- ==== Sys2Proof/Machine/Clock.lean ====
section
/-! DEFINITION. The cycle clock (spec/02): crossings, loop law, clock states, source fallback, rotation. Lengths are exact,
in microseconds. A crossing comes with its interval from the previous qualifying crossing of its input and, once the
clock runs, with its mark (count and phase). -/

namespace Sys2Proof.Machine

/-- Shortest and longest base length: the periods of 65 Hz and 45 Hz (02 R54). -/
def baseMin : Rat := 1000000 / 65
def baseMax : Rat := 1000000 / 45

/-- Clamp of a base length (02 R54). -/
def clampBase (x : Rat) : Rat := if x < baseMin then baseMin else if baseMax < x then baseMax else x

/-- An exact interval lies within 1/65 s to 1/45 s. -/
def inLock (x : Rat) : Bool := decide (baseMin ≤ x) && decide (x ≤ baseMax)

/-- Length and new base of the loop law for a crossing error e in pu (02 R54). -/
def loopLen (base : Rat) (e : Int) : Rat := base + base * (e : Rat) / 131072
def loopBase (base : Rat) (e : Int) : Rat := clampBase (base + base * (e : Rat) / 1048576)

/-- Length of a PULL-IN step: base plus or minus min(|e|, 1 024 pu) in the sign of e (02 Table 2.1). -/
def pullLen (base : Rat) (e : Int) : Rat := base + base * ((max (-1024) (min 1024 e) : Int) : Rat) / 65536

/-- Source offsets (02 Table 2.2). -/
def srcOffset (neg : Bool) : MsIn → Nat
  | .l1 => 0
  | .l2 => if neg then 43691 else 21845
  | .l3 => if neg then 21845 else 43691

/-- The input of a source. -/
def srcIn : Source → Option MsIn
  | .none => none | .l1 => some .l1 | .l2 => some .l2 | .l3 => some .l3
def inSrc : MsIn → Source
  | .l1 => .l1 | .l2 => .l2 | .l3 => .l3
def srcNum : Source → Nat
  | .none => 0 | .l1 => 1 | .l2 => 2 | .l3 => 3

/-- Presence of an input (02 R51). -/
def Clk.present (c : Clk) : MsIn → Bool
  | .l1 => c.present1 | .l2 => c.present2 | .l3 => c.present3

/-- The first present input in the order L1, L2, L3 (02 R59). -/
def firstPresent (c : Clk) : Source :=
  if c.present1 then .l1 else if c.present2 then .l2 else if c.present3 then .l3 else .none

/-- 1/fnom in microseconds. -/
def nomLen (c : Clk) : Rat := 1000000 / (max 1 c.fnom : Nat)

/-- Crossing number and error of a position (count and phase, trim applied) against an offset (02 R53). -/
def crossAt (pos : Int) (o : Nat) : Int × Int :=
  let d := pos - o
  let n := (d + 32768) / 65536
  (n, d - n * 65536)

/-- Set the length of cycle n: the next cycle's while cycle n has not begun, else the one in progress (02 R54). -/
def setLen (n : Int) (len : Rat) (c : Clk) : Clk :=
  if (c.count : Int) < n then { c with lenNext := some len } else { c with lenCur := len }

/-- Apply the loop law to a good crossing n of error e (02 R54). -/
def steer (n e : Int) (c : Clk) : Clk :=
  { setLen n (loopLen c.base e) c with base := loopBase c.base e }

/-- LOCKED is entered: event 0x7111 with the boundaries spent outside (02 Table 2.6). -/
def enterLocked (s : State) : State :=
  let n := min s.clk.outRun (2 ^ 32 - 1)
  raise 0x7111 1 255 n (s.modClk fun c => { c with state := .locked, outRun := 0, slips := 0 })

/-- FREE is entered from HOLDOVER or PULL-IN: base length 1/fnom, event 0x7112 (02 Table 2.1). -/
def enterFree (s : State) : State :=
  raise 0x7112 1 255 0 (s.modClk fun c => { c with state := .free, base := nomLen c })

/-- Whether an interval is consistent with the base length (02 R55). -/
def consistentIv (base iv : Rat) : Bool :=
  inLock iv && decide (iv - base ≤ base * 2048 / 65536) && decide (base - iv ≤ base * 2048 / 65536)

/-- The third failure in a row leaves PULL-IN (02 Table 2.1). -/
def pullFail (n : Int) (s : State) : State :=
  if s.clk.failedN = some n.toNat then s
  else if s.clk.fails + 1 < 3 then
    s.modClk fun c => { c with fails := c.fails + 1, failedN := some n.toNat }
  else
    let s := s.modClk fun c => { c with fails := 0, failedN := none }
    if s.clk.pullFromFree then s.modClk fun c => { c with state := .free }
    else if s.clk.bndTot < s.clk.holdBnd + 51 then s.modClk fun c => { c with state := .holdover }
    else enterFree s

/-- A good crossing n of error e, by state (02 Table 2.1). -/
def goodCrossing (n e : Int) (s : State) : State :=
  let s := s.modClk fun c => { c with expect := (n + 1).toNat, err := e, slips := 0, good := min 8 (c.good + 1)
                                      fails := 0, failedN := none }
  match s.clk.state with
  | .locked => s.modClk (steer n e)
  | .pullIn =>
    let s := s.modClk (steer n e)
    if s.clk.good = 8 then enterLocked s else s
  | .holdover | .free => if s.clk.good = 8 then enterLocked (s.modClk (steer n e)) else s
  | .acquire => s

/-- An outside crossing of number n and error e (02 R53, Table 2.1); `ok`: it is consistent. -/
def outsideCrossing (n e : Int) (ok : Bool) (s : State) : State :=
  match s.clk.state with
  | .holdover | .free =>
    if ok && s.clk.consistent = 8 then
      raise 0x7113 1 255 (twos 32 e)
        ((s.modClk fun c => { c with state := .pullIn, pullFromFree := c.state == .free, fails := 0, good := 0
                                     failedN := some n.toNat }).modClk fun c => setLen n (pullLen c.base e) c)
    else s
  | .pullIn =>
    if ok then s.modClk fun c => { setLen n (pullLen c.base e) c with fails := 0, good := 0, failedN := some n.toNat }
    else pullFail n s
  | _ => s

/-- The steering of a crossing on the source input (02 R53 to R56). -/
def sourceCrossing (iv : Option Rat) (pos : Int) (o : Nat) (s : State) : State :=
  let ok := match iv with
    | some d => consistentIv s.clk.base d
    | none => true
  let s := s.modClk fun c => { c with consistent := if ok then min 8 (c.consistent + 1) else 1 }
  let x := crossAt pos o
  if -2048 ≤ x.2 && x.2 ≤ 2048 then
    if (s.clk.expect : Int) ≤ x.1 then goodCrossing x.1 x.2 s else s
  else outsideCrossing x.1 x.2 ok s

/-- First count of a start, from the checkpoint (02 R82). -/
def firstCount (ckpt : Option Ckpt) (rtcS rtcSub : Nat) (rtcValid : Bool) (fnom : Nat) : Nat :=
  match ckpt with
  | none => 0
  | some k =>
    let d := if rtcValid then rtcS * 32768 + rtcSub - (k.rtcS * 32768 + k.rtcSub) else 0
    64 * ((k.count + 64 + (d * fnom + 32767) / 32768 + 63) / 64)

/-- ACQUIRE ends: state entered, base length set; the first boundary follows (02 Table 2.1, R59, R83). Event 0x7118. -/
def clockStarted (st : ClkState) (base : Rat) (s : State) : State :=
  let c0 := firstCount s.clk.ckpt s.sen.rtcS s.sen.rtcSub s.sen.rtcValid s.clk.fnom
  let s := s.modLife fun l => { l with c0 }
  raise 0x7118 1 255 ((if st = .locked then 1 else 3) * 16 + srcNum s.clk.src)
    (s.modClk fun c =>
      { c with state := st, base, lenCur := base, lenNext := none, slips := 0, good := 0, consistent := 0, err := 0
               fails := 0, failedN := none, outRun := 0, intervals := [] })

/-- The mean of seven intervals. -/
def meanLen (l : List Rat) : Rat := l.foldl (· + ·) 0 / 7

/-- A crossing of the counted input in ACQUIRE (02 R55, R59). -/
def acquireCrossing (iv : Option Rat) (s : State) : State :=
  let c := s.clk
  let ok := match iv, c.consistent with
    | _, 0 => true
    | some d, 1 => inLock d
    | some d, _ => inLock d && (match c.intervals.head? with
        | some p => decide (d - p ≤ p * 2048 / 65536) && decide (p - d ≤ p * 2048 / 65536)
        | none => true)
    | none, _ => false
  if !ok then s.modClk fun c => { c with consistent := 1, intervals := [] }
  else
    let ivs := match iv, c.consistent with
      | _, 0 => []
      | some d, _ => (d :: c.intervals).take 7
      | none, _ => []
    let s := s.modClk fun c => { c with consistent := c.consistent + 1, intervals := ivs }
    if s.clk.consistent = 8 then clockStarted .locked (clampBase (meanLen ivs)) s else s

/-- ROTATION_DETERMINED: L2 crossings, or L3 crossings while L2 is absent, near one offset fix the rotation while the source
is L1 (02 R58). -/
def rotationCrossing (inp : MsIn) (phase : Int) (s : State) : State :=
  let near := fun (o : Int) => decide (o - 4096 ≤ phase) && decide (phase ≤ o + 4096)
  if s.clk.src ≠ .l1 || inp = .l1 || (inp = .l3 && s.clk.present2) then s
  else if !near 21845 && !near 43691 then s.modClk fun c => { c with rotRun := 0 }
  else
    let neg := if inp = .l2 then near 43691 else near 21845
    let s := s.modClk fun c =>
      { c with rotRun := if 0 < c.rotRun && c.rotRunNeg == neg then c.rotRun + 1 else 1, rotRunNeg := neg }
    if s.clk.rotRun < 8 then s
    else
      let new := !s.clk.rotKnown || s.clk.rotNeg != neg
      raiseIf new 0x7115 1 255 (b2n neg) (s.modClk fun c => { c with rotNeg := neg, rotKnown := true, rotRun := 0 })

/-- L1 crossings against offset 0 while the source is L2 or L3 (02 R60). -/
def monitorL1 (pos : Int) (s : State) : State :=
  let x := crossAt pos 0
  s.modClk fun c => { c with l1Good := if -2048 ≤ x.2 && x.2 ≤ 2048 then min 8 (c.l1Good + 1) else 0 }

/-- ZERO_CROSSING: a qualifying crossing on an input (02 R50 to R60). `iv`: interval from the previous qualifying crossing of
the input, in microseconds; `phase`: its phase in the cycle in progress, TRIM not yet added. -/
def execZeroCrossing (inp : MsIn) (iv : Option Rat) (phase : Nat) (s : State) : Host.Outcome State Fault Refusal :=
  .next <|
    if !s.clk.present inp then s
    else if s.clk.state = .acquire then
      let s := if s.clk.src = .none then s.modClk fun c => { c with src := firstPresent c } else s
      if s.clk.src = inSrc inp then acquireCrossing iv s else s
    else if !s.clk.started then s
    else
      let pos := (s.clk.count : Int) * 65536 + phase + msTrim s inp
      if s.clk.src = inSrc inp then sourceCrossing iv pos (srcOffset s.clk.rotNeg inp) s
      else
        let s := rotationCrossing inp (pos % 65536) s
        if inp = .l1 then monitorL1 pos s else s

/-- CROSSING_SLIP: the acceptance window of the crossing expected next closes empty. On the source it is a slip, the third in a
row in LOCKED enters HOLDOVER, and in PULL-IN it may be a failure; on L1 in fallback it ends the good run
(02 R53, Table 2.1, R60). -/
def execCrossingSlip (inp : MsIn) (s : State) : Host.Outcome State Fault Refusal :=
  .next <|
    if s.clk.state = .acquire || !s.clk.started then s
    else if s.clk.src ≠ inSrc inp then
      (if inp = .l1 then s.modClk fun c => { c with l1Good := 0 } else s)
    else
      let n := s.clk.expect
      let s := s.modClk fun c =>
        { c with expect := c.expect + 1, slips := min 3 (c.slips + 1), slipTotal := inc32 c.slipTotal, good := 0 }
      match s.clk.state with
      | .locked =>
        if s.clk.slips = 3 then
          raise 0x7110 1 255 (twos 32 s.clk.err) (s.modClk fun c => { c with state := .holdover, holdBnd := c.bndTot })
        else s
      | .pullIn => pullFail n s
      | _ => s

/-- ACQUIRE_TIMEOUT: 100 cy of nominal time without lock; the clock starts in FREE at 1/fnom (02 Table 2.1, 03 R110). -/
def execAcquireTimeout (s : State) : Host.Outcome State Fault Refusal :=
  .next <| if s.clk.state = .acquire && s.life.cond = .start then clockStarted .free (nomLen s.clk) s else s

/-- HOLDOVER_TIMEOUT: the 51st boundary since HOLDOVER was last entered from LOCKED (02 Table 2.1). -/
def execHoldoverTimeout (s : State) : Host.Outcome State Fault Refusal :=
  .next <| if s.clk.state = .holdover && s.clk.holdBnd + 51 ≤ s.clk.bndTot then enterFree s else s

/-- Set the presence of an input. -/
def setPresent (inp : MsIn) (b : Bool) (c : Clk) : Clk :=
  match inp with
  | .l1 => { c with present1 := b } | .l2 => { c with present2 := b } | .l3 => { c with present3 := b }

/-- MS_INPUT_ABSENT: the input is absent; ACQUIRE takes the next present input and counts afresh (02 R51, R59). -/
def execMsInputAbsent (inp : MsIn) (s : State) : Host.Outcome State Fault Refusal :=
  .next <|
    let s := s.modClk (setPresent inp false)
    if s.clk.state = .acquire && s.clk.src = inSrc inp then
      s.modClk fun c => { c with src := firstPresent c, consistent := 0, intervals := [] }
    else s

/-- MS_INPUT_PRESENT: the input is present again; ACQUIRE keeps the input it counts (02 R51, R59). -/
def execMsInputPresent (inp : MsIn) (s : State) : Host.Outcome State Fault Refusal :=
  .next <|
    let s := s.modClk (setPresent inp true)
    if s.clk.state = .acquire && s.clk.src = .none then s.modClk fun c => { c with src := firstPresent c } else s

/-- SOURCE_CHANGE: at the cycle boundary after the source became absent, the first present input becomes the source; the window
in which it changes counts neither way (02 R59, R74). -/
def doSourceChange (s : State) : State :=
  match srcIn s.clk.src with
    | some i =>
      if s.clk.state = .acquire || s.clk.present i || firstPresent s.clk = .none then s
      else
        let new := firstPresent s.clk
        raise 0x7114 1 255 (srcNum new)
          (s.modClk fun c => { c with src := new, l1Good := 0, rotRun := 0
                                      expect := if new = .l1 then c.count + 1 else c.count })
    | none =>
      if s.clk.state = .acquire || firstPresent s.clk = .none then s
      else
        let new := firstPresent s.clk
        raise 0x7114 1 255 (srcNum new) (s.modClk fun c => { c with src := new, expect := c.count + 1 })

/-- RETURN_TO_L1: after 8 consecutive good L1 crossings the source returns to L1 at the cycle boundary (02 R60, R74). -/
def doReturnToL1 (s : State) : State :=
    if (s.clk.src = .l2 || s.clk.src = .l3) && s.clk.l1Good = 8 && s.clk.started then
      raise 0x7114 1 255 1 (s.modClk fun c => { c with src := .l1, l1Good := 0, rotRun := 0, expect := c.count + 1 })
    else s

/-- What the clock itself does at a boundary that carries count k (02 R52, R54, R68, R80): the length of the cycle that ends is
kept, the next begins, the RTC is latched. -/
def clkBoundary (k : Nat) (s : State) : State :=
  let out := s.clk.started && s.clk.state != .locked
  s.modClk fun c =>
    { c with
      count := k
      bndTot := c.bndTot + 1
      lens := if c.started then ((c.count, c.lenCur) :: c.lens).take 3000 else []
      lenCur := c.lenNext.getD c.base
      lenNext := none
      expect := if c.started then c.expect + (k - (c.count + 1)) else k
      started := true
      outRun := if out then inc32 c.outRun else c.outRun
      outTotal := if out then inc32 c.outTotal else c.outTotal
      rtcS := s.sen.rtcS
      rtcSub := s.sen.rtcSub }

/-- Serial-number comparison of 16-bit values: a precedes b (02 R61). -/
def precedes16 (a b : Nat) : Bool :=
  let d := (b + 65536 - a % 65536) % 65536
  decide (1 ≤ d) && decide (d ≤ 32767)

/-- The count that a 16-bit cycle tag resolves to (02 R62). -/
def resolveTag (t now : Nat) : Option Nat :=
  let d := (t % 65536 + 65536 - now % 65536) % 65536
  if d ≤ 32767 then some (now + d)
  else if d = 32768 then none
  else if 65536 - d ≤ now then some (now - (65536 - d)) else none

end Sys2Proof.Machine
end

