-- ==== Sys2Proof/Machine/Life.lean ====
section
/-! DEFINITION. Life-cycle cells, states and the seal digest (03 R91 to R101), and the word an accepted image holds of them. -/

namespace Sys2Proof.Machine

/-- Cell indices (03 Table 3.3). -/
def cellKeyed : Nat := 0
def cellCommissioned : Nat := 1
def cellRetired : Nat := 2
def cellSeal (i : Nat) : Nat := 0x100 + i
def cellService (i : Nat) : Nat := 0x1000 + i

/-- A cell reads as burnt when either bit of its pair reads burnt (03 R91). -/
def burnt (s : State) (i : Nat) : Bool := s.life.cells.any (·.1 == i)

/-- A counter's value: the number of its burnt cells (03 R91). -/
def cellsIn (s : State) (lo n : Nat) : Nat :=
  (s.life.cells.filter fun c => decide (lo ≤ c.1) && decide (c.1 < lo + n)).length

/-- S, the SEAL counter, and V, the SERVICE counter. -/
def sealCount (s : State) : Nat := cellsIn s 0x100 2048
def serviceCount (s : State) : Nat := cellsIn s 0x1000 2047

/-- State from cells (03 Table 3.4); none where no row matches. -/
def cellState (s : State) : Option Nat :=
  let k := burnt s cellKeyed
  let c := burnt s cellCommissioned
  let sc := sealCount s
  let v := serviceCount s
  if burnt s cellRetired then some 5
  else if !k && !c && sc == 0 && v == 0 then some 0
  else if k && !c && sc == 0 && v == 0 then some 1
  else if k && c && sc == 0 && v == 0 then some 2
  else if k && c && sc == v + 1 then some 3
  else if k && c && sc == v && decide (1 ≤ v) then some 4
  else none

/-- The life-cycle state code in force; a hub whose cells match no row treats itself as RETIRED (03 R93, R115). -/
def lcCode (s : State) : Nat := if s.life.treatRetired then 5 else (cellState s).getD 5

/-- Burn a cell: both bits (03 R91). -/
def burn (i : Nat) (s : State) : State :=
  s.modLife fun l => { l with cells := kset i .both l.cells }

/-- The first unburnt cell of a counter: cells burn in ascending order (03 R91). -/
def nextCell (s : State) (lo : Nat) : (fuel : Nat) → Nat → Option Nat
  | 0, _ => none
  | k + 1, i => if burnt s (lo + i) then nextCell s lo k (i + 1) else some (lo + i)

/-- The record header word of an applied record (05 Table 5.3). -/
def recHeader (r : ImgRec) : W128 :=
  mkWord [(112, r.typ), (96, r.pay.length + 1), (88, 1), (64, r.idx)]

/-- A complete record: header word and payload. -/
def recWords (r : ImgRec) : List W128 := recHeader r :: r.pay

/-- Whether a record type belongs to the metrology set (03 R98, 05 Table 5.4). -/
def inMetrologySet (typ : Nat) : Bool := typ == 0x20 || typ == 0x30 || typ == 0x31 || typ == 0x32

/-- Seal digest of an image's records: SHA-256 over its metrology set in image order (03 R98). -/
def sealDigest (recs : List ImgRec) : Nat :=
  Config.sha256 (wordsBytes ((recs.filter fun r => inMetrologySet r.typ).flatMap recWords))

/-- The life-cycle stamp: count and RTC of the boundary of the change (03 R107); before C0 it is taken at C0. -/
def lcStamp (s : State) : State :=
  if s.clk.started then
    s.modLife fun l => { l with lcCount := s.clk.count, lcRtc := s.clk.rtcS }
  else s.modLife fun l => { l with lcAtC0 := true }

/-- Zeroisation (03 R101, 04 R135, R156): root-secret copies, helper data, wrapped keys and the pinned key are zero, STATUS
is zeroised in every persistent slot but those of operator order keys; the other descriptor fields stay. -/
def zeroiseSlot (k : KeySlot) : KeySlot :=
  if k.role = 4 then k else { k with status := .zeroised, secret := 0, pub := [] }

def zeroise (s : State) : State :=
  s.modKeys fun k =>
    { k with
      slots := vmap zeroiseSlot k.slots
      root := 0, rootCopy1 := false, rootCopy2 := false, pufHelper := false, kwkReady := false
      trans := [], queue := [] }

/-- LIFE_CYCLE_CHANGE: at its boundary a seal order writes the digest and burns the next SEAL cell, event 0x6103 with S; an
unseal order burns the next SERVICE cell, event 0x6104 with V (03 Table 3.5, R96, R98, R118). -/
def doLifeCycleChange (s : State) : State :=
  match s.life.pend with
    | none => s
    | some p =>
      if s.clk.count < p.effect || p.toState = 5 || s.sen.mlSig || s.life.cond ≠ .run then s
      else
        let s := s.modLife fun l => { l with pend := none }
        if p.toState = 3 then
          match nextCell s 0x100 2048 0 with
          | some i =>
            let s := s.modLife fun l => { l with digest := some (sealDigest s.img.recs) }
            let s := lcStamp (burn i s)
            raise 0x6103 1 255 (sealCount s) s
          | none => s
        else
          match nextCell s 0x1000 2047 0 with
          | some i =>
            let s := lcStamp (burn i s)
            raise 0x6104 1 255 (serviceCount s) s
          | none => s

/-- Whether the hub runs in a condition that serves order validation. -/
def noConfig (s : State) : Bool := s.life.cond == .noConfig

end Sys2Proof.Machine
end

