-- ==== Sys2Proof/Machine/Keys.lean ====
section
/-! DEFINITION. Key slots, their operations, the crypto queue and the entropy source (04 R120 to R131, R146, R150 to R157). -/

namespace Sys2Proof.Machine

/-- The engine ID of an engine half (01 Table 1.3) and whether it belongs to the metrology world (01 R24). -/
def halfId : EngHalf → Nat
  | .bootM | .bootC => 1 | .met => 2 | .led => 3 | .ses => 4 | .lnk => 5 | .rdo => 6 | .dsp => 7
def halfMetro : EngHalf → Bool
  | .bootM | .met | .led => true
  | .bootC | .ses | .lnk | .rdo | .dsp => false
def halfEngine : EngHalf → EngineId
  | .bootM | .bootC => .boot | .met => .met | .led => .led | .ses => .ses | .lnk => .lnk | .rdo => .rdo | .dsp => .dsp

/-- The usage bit of an operation (04 Table 4.4). -/
def usageBit : SlotOp → Nat
  | .sign => 7 | .verify => 6 | .encrypt => 5 | .decrypt => 4 | .mac => 3 | .derive => 2 | .agree => 1

/-- A key slot by number. -/
def keySlot (s : State) (n : Nat) : KeySlot :=
  match fin? 64 n with
  | some i => s.keys.slots[i]
  | none => {}

/-- A transient slot in use. -/
def transSlot (s : State) (n : Nat) : Option TransSlot := s.keys.trans.find? (·.num == n)

/-- Usages of a transient slot by what was placed into it (04 R130): a token key only MACs, a derived window key only
encrypts; a session's own keys serve its TLS (log entry 15). -/
def transUse (k : TransKind) (op : SlotOp) : Bool :=
  match k, op with
  | .token, .mac => true
  | .derived, .encrypt => true
  | .agreed, .encrypt | .agreed, .decrypt | .agreed, .mac | .agreed, .derive => true
  | .ephemeral, .agree => true
  | _, _ => false

/-- The first condition of 04 R129 that fails, 0 if all hold. -/
def slotCond (s : State) (h : EngHalf) (n : Nat) (op : SlotOp) : Nat :=
  if 64 ≤ n then
    match transSlot s n with
    | none => 1
    | some t => if t.owner != halfEngine h then 2 else if transUse t.kind op then 0 else 5
  else
    let k := keySlot s n
    if k.status != .loaded then 1
    else if !bitOf k.masters (halfId h) then 2
    else if k.comm == halfMetro h then 3
    else if !bitOf k.lcMask (lcCode s) then 4
    else if !bitOf k.usage (usageBit op) then 5
    else 0

/-- The secret that a slot holds, for use inside the crypto blocks only. -/
def slotSecret (s : State) (n : Nat) : Nat :=
  if 64 ≤ n then
    match transSlot s n with
    | some t => t.key
    | none => 0
  else (keySlot s n).secret

/-- Quota of transient slots (04 R130). -/
def transQuota : EngineId → Nat
  | .ses => 104 | .rdo => 16 | .boot => 8
  | _ => 0
def transHeld (s : State) (e : EngineId) : Nat := (s.keys.trans.filter (·.owner == e)).length

/-- The lowest free transient slot number. -/
def transFree (s : State) : Option Nat :=
  ((List.range 128).map (· + 64)).find? fun n => !s.keys.trans.any (·.num == n)

/-- Take a transient slot within the quota of its engine (04 R130, R147). -/
def transAlloc (e : EngineId) (kind : TransKind) (point key : Nat) (s : State) : Option (Nat × State) :=
  if transHeld s e < transQuota e then
    match transFree s with
    | some n => some (n, s.modKeys fun k => { k with trans := k.trans ++ [{ num := n, owner := e, kind, point, key }] })
    | none => none
  else none

/-- Free transient slots (04 R130, R144). -/
def transDrop (p : TransSlot → Bool) (s : State) : State :=
  s.modKeys fun k => { k with trans := k.trans.filter fun t => !p t }

/-- Hand a result to the engine. -/
def slotAnswer (h : EngHalf) (op : SlotOp) (n reason : Nat) (data : List Nat) (s : State) : State :=
  s.modKeys fun k => { k with result := some { owner := h, op, slot := n, reason, data } }

/-- The crypto blocks refuse an operation, event 0x6121 (04 R129, R152). -/
def slotRefuse (h : EngHalf) (op : SlotOp) (n cond : Nat) (s : State) : State :=
  slotAnswer h op n cond []
    (raise 0x6121 (halfId h) 255 (n * 2 ^ 24 + halfId h * 2 ^ 16 + usageBit op * 2 ^ 8 + cond) s)

/-- Whether a job belongs to the metrology world. -/
def jobMetro (j : Job) : Bool := halfMetro j.owner

/-- Place a job: metrology jobs before communication jobs, each world in order of arrival (01 R37). -/
def queuePut (j : Job) (q : List Job) : List Job :=
  if jobMetro j then q.filter jobMetro ++ [j] ++ q.filter (fun x => !jobMetro x) else q ++ [j]

/-- Jobs of one session in the queue. -/
def jobsOf (s : State) (point : Nat) : Nat := (s.keys.queue.filter fun j => j.owner == .ses && j.point == point).length

/-- Whether a session's next job would stall it (12 R420). -/
def wouldStall (s : State) (point : Nat) : Bool :=
  decide (4 ≤ jobsOf s point) || decide (64 ≤ s.keys.queue.length)

/-- Stall a session: event 0x4309 at its first stall, with what stalled it: 1 session cap, 2 queue full, 3 transient slots
(12 R420, Table 12.10). -/
def stallSession (point kind : Nat) (s : State) : State :=
  match fin? 32 point with
  | none => s
  | some p =>
    if s.ses[p].stalled then s
    else
      let first := !s.ses[p].stallSeen
      raiseIf first 0x4309 4 point (kind * 2 ^ 24)
        ((s.modSes p fun x => { x with stalled := true, stallSeen := true }).modSesSys fun y =>
          { y with stalls := inc32 y.stalls })

/-- Enqueue an asymmetric job (04 R122, 12 R420); a full queue stalls the session of a SES job, and holds any other job
back until it drains (reason 6, no event). -/
def enqueue (j : Job) (s : State) : State :=
  if j.owner = .ses && j.point ≠ 255 && wouldStall s j.point then
    slotAnswer j.owner j.op j.slot 6 [] (stallSession j.point (if 4 ≤ jobsOf s j.point then 1 else 2) s)
  else if 64 ≤ s.keys.queue.length then slotAnswer j.owner j.op j.slot 6 [] s
  else s.modKeys fun k => { k with queue := queuePut j k.queue }

/-- No key operation begins while the mains-loss signal is raised (04 R157). -/
def keysHeld (s : State) : Bool := s.sen.mlSig

/-- An asymmetric operation: checked, then queued (04 R122, R129). -/
def slotAsym (op : SlotOp) (h : EngHalf) (point n : Nat) (data : List Nat) (s : State) : State :=
  if keysHeld s then s
  else match slotCond s h n op with
    | 0 => enqueue { owner := h, point, op, slot := n, data } s
    | c => slotRefuse h op n c s

/-- A symmetric operation: checked, then carried out at once; `f` computes the result from the secret. -/
def slotSym (op : SlotOp) (h : EngHalf) (n : Nat) (f : Nat → List Nat) (s : State) : State :=
  if keysHeld s then s
  else match slotCond s h n op with
    | 0 => slotAnswer h op n 0 (f (slotSecret s n)) s
    | c => slotRefuse h op n c s

/-- SLOT_SIGN: ECDSA or Ed448 with a slot's private key, as a job of the crypto queue (04 R121, R122, R129). -/
def execSlotSign (h : EngHalf) (point slot : Nat) (data : List Nat) (s : State) : Host.Outcome State Fault Refusal :=
  .next <| slotAsym .sign h point slot data s

/-- SLOT_VERIFY: verification with a slot's public key; the last 64 bytes of the data are the signature (04 R129). -/
def execSlotVerify (h : EngHalf) (point slot : Nat) (data : List Nat) (s : State) : Host.Outcome State Fault Refusal :=
  .next <| slotAsym .verify h point slot data s

/-- SLOT_ENCRYPT: AES with the slot's key (04 R128, R129). -/
def execSlotEncrypt (h : EngHalf) (slot : Nat) (data : List Nat) (s : State) : Host.Outcome State Fault Refusal :=
  .next <| slotSym .encrypt h slot (fun k => Config.encrypt k (keySlot s slot).alg data) s

/-- SLOT_DECRYPT: AES with the slot's key; a tag that fails gives an empty result and verdict 0 (04 R128, R129). -/
def execSlotDecrypt (h : EngHalf) (slot : Nat) (data : List Nat) (s : State) : Host.Outcome State Fault Refusal :=
  .next <| slotSym .decrypt h slot
    (fun k => match Config.decrypt k (keySlot s slot).alg data with
      | some t => 1 :: t
      | none => [0]) s

/-- SLOT_MAC: AES-CMAC generate (no tag given) or verify (04 R128, R129). -/
def execSlotMac (h : EngHalf) (slot : Nat) (data : List Nat) (tag : Option Nat) (s : State) : Host.Outcome State Fault Refusal :=
  .next <| slotSym .mac h slot
    (fun k => match tag with
      | none => [Config.cmac k data]
      | some t => [b2n (Config.cmac k data == t)]) s

/-- Labels of 04 Table 4.3. -/
def labelToken : List Nat := [0x47, 0x59, 0x2D, 0x54, 0x4F, 0x4B, 0x45, 0x4E]
def labelWindow : List Nat := [0x47, 0x59, 0x2D, 0x57, 0x49, 0x4E, 0x44, 0x4F, 0x57]
def labelKwk : List Nat := [0x47, 0x59, 0x2D, 0x4B, 0x57, 0x4B]

/-- Input of the single iteration of a derivation: counter, label, zero, context, length, integers most significant byte
first (04 R123). -/
def kdfInput (label context : List Nat) (len : Nat) : List Nat :=
  bytesBE 4 1 ++ label ++ [0] ++ context ++ bytesBE 4 len

/-- A tenant's token or window key (04 R144). -/
def tenantKey (master : Nat) (window : Bool) (tenant : Nat) : Nat :=
  Config.kdf master (kdfInput (if window then labelWindow else labelToken) (bytesBE 2 tenant) 128)

/-- SLOT_DERIVE: a tenant's token key (SES) or window key into a transient slot (04 R123, R129, R130, R144). -/
def execSlotDerive (h : EngHalf) (slot : Nat) (window : Bool) (tenant : Nat) (s : State) : Host.Outcome State Fault Refusal :=
  .next <|
    if keysHeld s then s
    else match slotCond s h slot .derive with
      | 0 =>
        match transAlloc (halfEngine h) (if window then .derived else .token) 255 (tenantKey (slotSecret s slot) window tenant) s with
        | some (n, s) => slotAnswer h .derive slot 0 [n] s
        | none => slotAnswer h .derive slot 6 [] s
      | c => slotRefuse h .derive slot c s

/-- SLOT_KEY_AGREEMENT: ECDH of a private key and a peer's point, as a job; the shared secret goes into a transient slot
(04 R122, R128 to R130). -/
def execSlotKeyAgreement (h : EngHalf) (point slot : Nat) (peer : List Nat) (s : State) : Host.Outcome State Fault Refusal :=
  .next <| slotAsym .agree h point slot peer s

/-- The result of a finished job (04 R128): a signature, a verdict, or the transient slot that took the secret. -/
def jobResult (j : Job) (s : State) : State :=
  let k := slotSecret s j.slot
  match j.op with
  | .sign => slotAnswer j.owner .sign j.slot 0 (Config.ecdsaSign k j.data 0) s
  | .verify =>
    let n := j.data.length - 64
    let pub := if 64 ≤ j.slot then [] else (wordsBytes (keySlot s j.slot).pub).take 65
    slotAnswer j.owner .verify j.slot 0 [b2n (Config.ecdsaVerify pub (j.data.take n) (j.data.drop n))] s
  | .agree =>
    match transAlloc (halfEngine j.owner) .agreed j.point (Config.ecdh k j.data) s with
    | some (n, s) => slotAnswer j.owner .agree j.slot 0 [n] s
    | none => slotAnswer j.owner .agree j.slot 6 [] s
  | _ => s

/-- CRYPTO_JOB_DONE: the front job completes on the VE and its session, if stalled, goes on (04 R122, 12 R420). -/
def execCryptoJobDone (s : State) : Host.Outcome State Fault Refusal :=
  .next <| match s.keys.queue with
    | [] => s
    | j :: q =>
      let s := jobResult j (s.modKeys fun k => { k with queue := q })
      match fin? 32 j.point with
      | some p => s.modSes p fun x => { x with stalled := false }
      | none => s

/-- Whether randomness is available (04 R155). -/
def drbgOk (s : State) : Bool := !s.keys.drbgStopped && !s.keys.drbgHeld

/-- A draw of the DRBG: a free value below 2^n (log entry 4). -/
def drbgDraw (n : Nat) (s : State) : Nat × State :=
  let d := draw s
  (d.1 % 2 ^ n, d.2)

/-- DRBG_RESEED: 384 bits of TRNG output (04 R146). -/
def drbgReseed (s : State) : State :=
  if s.keys.drbgStopped then s else s.modKeys fun k => { k with drbgReseeds := k.drbgReseeds + 1 }

/-- Reruns of the start-up tests after a failed continuous test: `fails` reruns fail before one passes (04 R155). -/
def drbgReruns : (fails : Nat) → State → State
  | 0, s => drbgReseed (s.modKeys fun k => { k with drbgHeld := false, drbgFails := 0 })
  | n + 1, s =>
    let s := s.modKeys fun k => { k with drbgFails := k.drbgFails + 1 }
    if s.keys.drbgFails < 3 then drbgReruns n s
    else raise 0x6131 1 255 0 (s.modKeys fun k => { k with drbgStopped := true, drbgHeld := false })

/-- TRNG_HEALTH_FAIL: event 0x6130 (1 repetition count, 2 adaptive proportion), output withheld, the start-up tests rerun; the
third failure in a row stops the DRBG with event 0x6131 (04 R155). -/
def execTrngHealthFail (adaptive : Bool) (fails : Nat) (s : State) : Host.Outcome State Fault Refusal :=
  .next <|
    if s.keys.drbgStopped then s
    else drbgReruns fails (raise 0x6130 1 255 (if adaptive then 2 else 1) (s.modKeys fun k => { k with drbgHeld := true }))

/-- The slot that holds a role, lowest first (04 R132). -/
def roleSlot (s : State) (role : Nat) : Option Nat :=
  ((List.range 64).find? fun n => (keySlot s n).role == role && (keySlot s n).status == .loaded)

/-- The words of a public key: 65 bytes, then zero bytes. -/
def pubWords (b : List Nat) : List W128 := bytesWords 5 (b ++ List.replicate 15 0)

/-- X then Y of a stored public key, as four words; zero if none. -/
def pubXY (k : KeySlot) : List W128 :=
  if k.pub.isEmpty then List.replicate 4 0#128 else bytesWords 4 (((wordsBytes k.pub).drop 1).take 64)

/-- SHA-256 bytes as two words. -/
def hashWords (h : Nat) : List W128 := bytesWords 2 (bytesBE 32 h)

/-- Key ID of a public key: bytes 0 to 3 of its SHA-256 read big-endian (04 R127). -/
def keyIdOf (pub : List Nat) : Nat := (Config.sha256 pub / 2 ^ 224) % 2 ^ 32

/-- The hash of the vendor commissioning root in ROM (04 R136): uninterpreted (log entry 9). -/
def romRootHash : Nat := natBE (Config.romString 0xF000)
/-- Key ID of the vendor commissioning root: the first four bytes of that hash (04 R127). -/
def romRootId : Nat := (romRootHash / 2 ^ 224) % 2 ^ 32

/-- Words 0 to 13 of page 0x0002 with a statement count (04 Table 4.8). -/
def identWords (s : State) (count : Nat) : List W128 :=
  let c := keySlot s 2
  let cid := if c.status = .loaded then c.keyId else 0
  mkWord [(64, s.life.serial), (32, romRootId), (0, cid)] :: pubXY (keySlot s 0) ++ pubXY (keySlot s 1)
    ++ hashWords romRootHash
    ++ (if c.status = .loaded then hashWords (Config.sha256 ((wordsBytes c.pub).take 65)) else [0#128, 0#128])
    ++ [mkWord [(96, s.keys.roll), (80, min s.keys.mkgen 0xFFFF), (72, lcCode s), (0, count % 2 ^ 64)]]

/-- Whether slot 0 can sign (04 R131). -/
def identCanSign (s : State) : Bool :=
  lcCode s != 5 && !(s.life.cond == .noConfig && decide (2 ≤ s.life.nocfg)) && (keySlot s 0).status == .loaded

/-- Word 13 without STMT_COUNT. -/
def dropStmtCount (ws : List W128) : List W128 :=
  ws.take 13 ++ ((ws.drop 13).take 1).map fun w => mkWord [(64, fld w 127 64)]

/-- IDENTITY_STATEMENT: signed at C0 and at every boundary at which a field of words 0 to 13 changes (04 R131). `first`: the
boundary is C0. -/
def identStatement (first : Bool) (s : State) : State :=
  if !identCanSign s || s.sen.mlSig then s
  else
    let live := identWords s s.clk.count
    if !first && dropStmtCount live == dropStmtCount s.keys.ident then s
    else
      let sig := bytesWords 4 (Config.ecdsaSign (keySlot s 0).secret (wordsBytes live) 0)
      s.modKeys fun k => { k with ident := live ++ sig ++ List.replicate (4 - sig.length) 0#128 }

/-- A new metrology signing key in slot 1, event 0x6112 with MKGEN (04 R137, R154). -/
def newMetrologyKey (s : State) : State :=
  let d := drbgDraw 256 s
  let s := d.2
  let k1 : KeySlot :=
    { keyId := keyIdOf (Config.publicHalf d.1), alg := 0x10, usage := 0x80, masters := 8, lcMask := 0x1C
      comm := false, imported := false, status := .loaded, gen := 0, role := 0
      pub := pubWords (Config.publicHalf d.1), secret := d.1 }
  let s := s.modKeys fun k =>
    { k with slots := k.slots.set 1 k1, mkgen := min 0xFFFF (k.mkgen + 1), wrapCtr := k.wrapCtr + 1 }
  raise 0x6112 1 255 s.keys.mkgen s

end Sys2Proof.Machine
end

