-- ==== Sys2Proof/Machine/Route.lean ====
section
/-! DEFINITION. LNK's routing and sending queue (18 R609, R627 to R630), used by every engine that sends over the link. -/

namespace Sys2Proof.Machine

/-- The child whose subtree holds a node (18 R623, R630). -/
def childFor (s : State) (node : Nat) : Option Nat := (s.lnk.children.find? (·.node == node)).map (·.via)

/-- Next hop of a unicast message: the child whose subtree holds FINAL, else the parent; the coordinator has none for an
unknown FINAL (18 R630). -/
def nextHop (s : State) (final : Nat) : Option Nat :=
  match childFor s final with
  | some c => some c
  | none => if s.lnk.depth = 0 || s.lnk.parent = 255 then none else some s.lnk.parent

/-- Rank of a message kind in the queue: TM and COLLECT, then ORDER_STATUS and READ, then the rest (18 R627). -/
def kindRank (k : Nat) : Nat :=
  if k = 1 || k = 3 || k = 4 || k = 5 then 0 else if k = 7 || k = 8 || k = 9 then 1 else 2

/-- Body bytes of one fragment: 8 PHY blocks less header and MIC, which the slots after a beacon can hold (18 R629; log entry 37).
DESIGN CHOICE. -/
def fragBytes : Nat := 1000

/-- The fragments of a message, in order (18 R609, R629). -/
def fragments (m : TxMsg) : List TxMsg :=
  let n := max 1 ((m.body.length + fragBytes - 1) / fragBytes)
  (List.range n).map fun j => { m with frag := j, last := j + 1 == n, body := (m.body.drop (fragBytes * j)).take fragBytes }

/-- Put a message into the sending queue, whole fragments in order (18 R627). -/
def lnkQueue (m : TxMsg) (s : State) : State :=
  (fragments m).foldl (fun s f => s.modLnk fun l => { l with queue := insertBy (fun x => kindRank x.kind) f l.queue }) s

/-- A message drops: counted, event 0x30AA with its reason: 1 HOPS, 2 retries, 3 reassembly, 4 unknown FINAL (18 R630, R638). -/
def lnkDrop (reason msgId : Nat) (s : State) : State :=
  raise 0x30AA 5 255 (reason * 2 ^ 24 + msgId) (s.modLnk fun l => { l with dropped := inc32 l.dropped })

/-- Send a new unicast message of this hub toward a node (18 R609, R630). -/
def lnkSend (kind final : Nat) (body : List Nat) (s : State) : State :=
  match nextHop s final with
  | none => lnkDrop 4 s.lnk.msgNext s
  | some d =>
    let id := s.lnk.msgNext
    lnkQueue { dst := d, kind, msgId := id, orig := nodeId s, final, body }
      (s.modLnk fun l => { l with msgNext := (id + 1) % 65536 })

/-- Send a new message of this hub to a neighbour itself (18 R624). -/
def lnkTo (kind node : Nat) (body : List Nat) (s : State) : State :=
  let id := s.lnk.msgNext
  lnkQueue { dst := node, kind, msgId := id, orig := nodeId s, final := node, body } (s.modLnk fun l => { l with msgNext := (id + 1) % 65536 })

/-- The neighbours of the tree: the parent and every child (18 R630). -/
def treeHops (s : State) : List Nat :=
  let kids := (s.lnk.children.map (·.via)).foldl (fun acc x => insertAsc x acc) []
  if s.lnk.depth = 0 || s.lnk.parent = 255 then kids else kids ++ [s.lnk.parent]

/-- Send a message of this hub to every hub: to the parent and every child (18 R630). -/
def lnkBroadcast (kind : Nat) (body : List Nat) (s : State) : State :=
  let id := s.lnk.msgNext
  (treeHops s).foldl (fun s d =>
    lnkQueue { dst := d, kind, msgId := id, orig := nodeId s, final := 255, bcastFinal := true, body } s)
    (s.modLnk fun l => { l with msgNext := (id + 1) % 65536 })

end Sys2Proof.Machine
end

