-- ==== Sys2Proof/Machine/Tag.lean ====
section
/-! DEFINITION. The ISO/IEC 15693 tag (spec/16) as the field sees it, and SEN's gauge and outage area. The field is served
whether or not the hub runs (16 R535, R558). -/

namespace Sys2Proof.Machine

/-- The eight bytes of a tag block. -/
def tagBlock (s : State) (b : Nat) : List Nat := memReadN 0 s.tag.mem (8 * b) 8

/-- Program one tag block with eight bytes. -/
def tagPut (b : Nat) (bs : List Nat) (s : State) : State :=
  s.modTag fun t => { t with mem := memWriteAll 0 (8 * b) ((bs ++ List.replicate 8 0).take 8) t.mem }

/-- The UID (16 R533). -/
def tagUid (s : State) : Nat := 0xE0 * 2 ^ 56 + 0xB9 * 2 ^ 48 + s.life.serial % 2 ^ 48

/-- Whether the tag takes a request: addressed to its UID, selected, or neither while it is not quiet. -/
def tagHears (s : State) (q : TagReq) : Bool :=
  match q.uid with
  | some u => u == tagUid s
  | none => if q.sel then s.tag.st == .selected else s.tag.st != .quiet

/-- Answer to the field; none is silence. -/
def tagSay (a : Option (List Nat)) (s : State) : State := s.modTag fun t => { t with answer := a }

/-- Serve a supported command: silence when the request is not for this tag, error 0x03 under the option flag (16 R532). -/
def tagServe (q : TagReq) (f : State → State) (s : State) : State :=
  if !tagHears s q then tagSay none s else if q.opt then tagSay (some [1, 0x03]) s else f s

/-- A field read of the low half of a frame word latches that frame (16 R545). -/
def tagLatch (b : Nat) (s : State) : State :=
  if 128 ≤ b && b < 512 && b % 2 = 0 then
    s.modTag fun t => { t with latched := insertAsc ((b - 128) / 32) t.latched }
  else s

/-- Read n blocks from one block up: their bytes, every frame read latched. More than 32 blocks are answered with error 0x0F
(16 R552); blocks beyond the last, with error 0x10 (PRESUMED, log entry 13). -/
def tagReadN (b n last : Nat) (s : State) : State :=
  if 32 < n then tagSay (some [1, 0x0F]) s
  else if n = 0 || last < b + n - 1 then tagSay (some [1, 0x10]) s
  else
    let bs := (List.range n).flatMap fun i => tagBlock s (b + i)
    tagSay (some (0 :: bs)) ((List.range n).foldl (fun s i => tagLatch (b + i) s) s)

/-- A field write: field-owned blocks are stored, and a header block with a TYPE and a new CELL_SEQ rings the doorbell; any
other block is left unchanged and answered with error 0x12, with event 0x3064 for the first of a run
(16 R534, R550, R556). -/
def tagFieldWrite (b : Nat) (data : Nat) (s : State) : State :=
  let bs := bytesLE 8 data
  if 512 ≤ b && b < 768 then
    let old := tagBlock s b
    let rings := b % 16 = 0 && bs.getD 0 0 != 0 && natLE ((bs.drop 2).take 2) != natLE ((old.drop 2).take 2)
    let s := tagPut b bs s
    tagSay (some [0]) (if rings then s.modTag fun t => { t with bells := insertAsc ((b - 512) / 16) t.bells } else s)
  else
    let first := !runOn s.tag.wrRun (nowS s) && s.elec.supplyOk && s.life.cond == .run
    let s := raiseIf first 0x3064 6 255 b s
    tagSay (some [1, 0x12]) (s.modTag fun t => { t with wrRun := some (nowS s) })

/-- INVENTORY: the UID, when the mask fits, no non-zero AFI is asked for and the tag is not quiet (16 R533). -/
def execTagInventory (maskLen mask : Nat) (afi : Option Nat) (s : State) : Host.Outcome State Fault Refusal :=
  .next <|
    if s.tag.st = .quiet || tagUid s % 2 ^ maskLen ≠ mask % 2 ^ maskLen || afi.getD 0 ≠ 0 then tagSay none s
    else tagSay (some (0 :: 0 :: bytesLE 8 (tagUid s))) s

/-- STAY_QUIET: an addressed request makes the tag quiet; it never answers (16 R532). -/
def execStayQuiet (q : TagReq) (s : State) : Host.Outcome State Fault Refusal :=
  .next <| tagSay none (if q.uid = some (tagUid s) then s.modTag fun t => { t with st := .quiet } else s)

/-- SELECT: with its own UID the tag is selected; a selected tag that hears another UID returns to ready (16 R532). -/
def execTagSelect (uid : Nat) (opt : Bool) (s : State) : Host.Outcome State Fault Refusal :=
  .next <|
    if uid = tagUid s then
      if opt then tagSay (some [1, 0x03]) s else tagSay (some [0]) (s.modTag fun t => { t with st := .selected })
    else tagSay none (s.modTag fun t => { t with st := if t.st = .selected then .ready else t.st })

/-- RESET_TO_READY (16 R532). -/
def execResetToReady (q : TagReq) (s : State) : Host.Outcome State Fault Refusal :=
  .next <| tagServe q (fun s => tagSay (some [0]) (s.modTag fun t => { t with st := .ready })) s

/-- READ_SINGLE_BLOCK of blocks 0 to 255 (16 R535). -/
def execReadSingleBlock (q : TagReq) (b : Fin 256) (s : State) : Host.Outcome State Fault Refusal :=
  .next <| tagServe q (tagReadN b.val 1 255) s

/-- READ_MULTIPLE_BLOCKS of blocks 0 to 255 (16 R532, R552). -/
def execReadMultipleBlocks (q : TagReq) (b : Fin 256) (n : Nat) (s : State) : Host.Outcome State Fault Refusal :=
  .next <| tagServe q (tagReadN b.val n 255) s

/-- WRITE_SINGLE_BLOCK of blocks 0 to 255: none of them is field-owned (16 R534). -/
def execWriteSingleBlock (q : TagReq) (b : Fin 256) (data : Nat) (s : State) : Host.Outcome State Fault Refusal :=
  .next <| tagServe q (tagFieldWrite b.val data) s

/-- EXTENDED_READ_SINGLE of blocks 0 to 1 023 (16 R535). -/
def execExtendedReadSingle (q : TagReq) (b : Fin 1024) (s : State) : Host.Outcome State Fault Refusal :=
  .next <| tagServe q (tagReadN b.val 1 1023) s

/-- EXTENDED_WRITE_SINGLE of blocks 0 to 1 023, by ownership (16 R534, R550). -/
def execExtendedWriteSingle (q : TagReq) (b : Fin 1024) (data : Nat) (s : State) : Host.Outcome State Fault Refusal :=
  .next <| tagServe q (tagFieldWrite b.val data) s

/-- EXTENDED_READ_MULTIPLE of blocks 0 to 1 023 (16 R552). -/
def execExtendedReadMultiple (q : TagReq) (b : Fin 1024) (n : Nat) (s : State) : Host.Outcome State Fault Refusal :=
  .next <| tagServe q (tagReadN b.val n 1023) s

/-- GET_SYSTEM_INFORMATION: DSFID, AFI and IC reference, no memory size (16 R533). -/
def execGetSystemInformation (q : TagReq) (s : State) : Host.Outcome State Fault Refusal :=
  .next <| tagServe q (fun s => tagSay (some ([0, 0x0B] ++ bytesLE 8 (tagUid s) ++ [0, 0, 1])) s) s

/-- EXTENDED_GET_SYSTEM_INFO: also 1 024 blocks of 8 bytes (16 R533). -/
def execExtendedGetSystemInfo (q : TagReq) (s : State) : Host.Outcome State Fault Refusal :=
  .next <| tagServe q (fun s => tagSay (some ([0, 0x0F] ++ bytesLE 8 (tagUid s) ++ [0, 0, 0xFF, 0x03, 0x07, 1])) s) s

/-- Block security status: 0x00 for field-owned blocks, 0x01 for all others (16 R534). -/
def tagSecurity (b n last : Nat) (s : State) : State :=
  if n = 0 || last < b + n - 1 then tagSay (some [1, 0x10]) s
  else tagSay (some (0 :: (List.range n).map fun i => if 512 ≤ b + i && b + i < 768 then 0 else 1)) s

/-- GET_BLOCK_SECURITY_STATUS of blocks 0 to 255 (16 R534). -/
def execGetBlockSecurityStatus (q : TagReq) (b : Fin 256) (n : Nat) (s : State) : Host.Outcome State Fault Refusal :=
  .next <| tagServe q (tagSecurity b.val n 255) s

/-- EXTENDED_GET_SECURITY_STATUS of blocks 0 to 1 023 (16 R534). -/
def execExtendedGetSecurityStatus (q : TagReq) (b : Fin 1024) (n : Nat) (s : State) : Host.Outcome State Fault Refusal :=
  .next <| tagServe q (tagSecurity b.val n 1023) s

/-- TAG_UNSUPPORTED_COMMAND: error 0x01 when addressed or selected, otherwise silence; under the option flag error 0x03
(16 R532). -/
def execTagUnsupportedCommand (q : TagReq) (s : State) : Host.Outcome State Fault Refusal :=
  .next <|
    if tagHears s q && (q.uid.isSome || q.sel) then tagSay (some [1, if q.opt then 0x03 else 0x01]) s else tagSay none s

/-- FRAME_LATCH_EXPIRY: 50 ms after the read the frame is no longer latched (16 R545). -/
def execFrameLatchExpiry (frame : Fin 12) (s : State) : Host.Outcome State Fault Refusal :=
  .next <| s.modTag fun t => { t with latched := t.latched.filter (· != frame.val) }

/-- The four bytes of directory entry w (16 R541). -/
def dirEntry (s : State) (w : Nat) : List Nat := memReadN 0 s.tag.mem (8 * 56 + 4 * w) 4

/-- Write directory entry w: frame (0xFF none), flags, handle; a single block write (16 R541, R544). -/
def putDir (w frame flags handle : Nat) (s : State) : State :=
  s.modTag fun t => { t with mem := memWriteAll 0 (8 * 56 + 4 * w) ([frame, flags] ++ bytesLE 2 handle) t.mem }

/-- Whether entry w is live, and its frame. -/
def dirFrame (s : State) (w : Nat) : Option Nat :=
  let e := dirEntry s w
  if bitOf (e.getD 1 0) 0 then some (e.getD 0 0) else none

/-- SEN sets the outage flag in every live directory entry (16 R559). -/
def tagOutageFlags (s : State) : State :=
  (List.range 8).foldl (fun s w =>
    let e := dirEntry s w
    if bitOf (e.getD 1 0) 0 then putDir w (e.getD 0 0) 3 (natLE (e.drop 2)) s else s) s

/-- Whether a cover input was open at its last sample. -/
def openNow (h : List Bool) : Bool := h.headD false

/-- SEN writes blocks 64 to 74 when the gauge reads DUSK or better (16 R540, Table 16.4). In OUTAGE and DORMANT the permit
level decides, which is DUSK while the cell is connected (21 R705). -/
def tagGauge (s : State) : State :=
  let permit := if s.sen.st = .powered then s.sen.level else if s.sen.cellOn then 3 else s.sen.level
  if 3 < permit then s
  else
    let s := s.modTag fun t => { t with gaugeN := inc16 t.gaugeN }
    let e := s.sen
    let t := s.tamper
    let w := [(64, bytesLE 8 e.rtcS), (65, [e.level, e.pct] ++ bytesLE 2 e.vStore ++ bytesLE 2 s.tag.gaugeN),
      (66, bytesLE 8 e.outRtc), (67, bytesLE 8 e.outCount),
      (68, [e.steps, e.charging, 0, 0] ++ bytesLE 4 e.outages),
      (69, bytesLE 8 (if e.mlSig || e.st = .dormant then 0 else e.retRtc)),
      (70, bytesLE 8 t.cover.first), (71, bytesLE 8 t.cover.last),
      (72, bytesLE 8 t.term.first), (73, bytesLE 8 t.term.last),
      (74, bytesLE 2 t.cover.count ++ bytesLE 2 t.term.count ++ [b2n (openNow t.coverHist) + 2 * b2n (openNow t.termHist)])]
    w.foldl (fun s b => tagPut b.1 b.2 s) s

end Sys2Proof.Machine
end

