-- ==== Sys2Proof/Machine/Sentinel.lean ====
section
/-! DEFINITION. The sentinel domain (21 R695 to R705, R712, R721 to R728): RTC, stores, gauge, cell, cover watch. Commands
that SEN's own periodic timers raise carry the oscillator periods since the last such command (log entry 14). -/

namespace Sys2Proof.Machine

/-- The permit level (21 R705): the gauge level, but DUSK while the cell is connected. -/
def permitLevel (s : State) : Nat := if s.sen.cellOn then min 3 s.sen.level else s.sen.level

/-- Whether a sentinel function that needs a permit level may run: in POWERED always (21 R705). -/
def permits (s : State) (worst : Nat) : Bool := s.sen.st == .powered || decide (permitLevel s ≤ worst)

/-- Stored energy by 21 R703, in units of 1/2 mF mV^2: CAP (V^2 - VMIN^2), 0 below VMIN. -/
def storeE (cap v vmin : Nat) : Nat := cap * (v * v - vmin * vmin)

/-- PCT of 21 R703; 0 on a hub that has never applied a SENTINEL record. -/
def gaugePct (s : State) (v : Nat) : Nat :=
  match sentinelRec s with
  | none => 0
  | some w =>
    let cap := fld w 127 112
    let vmax := fld w 111 96
    let vmin := fld w 95 80
    let full := storeE cap vmax vmin
    if full = 0 then 0 else min 100 (100 * storeE cap v vmin / full)

/-- Lower bound of a level (21 Table 21.3). -/
def levelBound : Nat → Nat
  | 0 => 80 | 1 => 50 | 2 => 20 | 3 => 5 | _ => 0

/-- The level that a PCT has on the way down: the best level whose lower bound it reaches. -/
def levelAt (pct : Nat) : Nat :=
  if 80 ≤ pct then 0 else if 50 ≤ pct then 1 else if 20 ≤ pct then 2 else if 5 ≤ pct then 3 else 4

/-- The level after a sample (21 R704): downward when PCT falls below the level's lower bound, upward when PCT reaches the
lower bound of a higher level plus 2. -/
def levelNext (level pct : Nat) : Nat :=
  if pct < levelBound level then levelAt pct
  else match (List.range level).find? fun l => decide (levelBound l + 2 ≤ pct) with
    | some l => l
    | none => level

/-- The cell is connected when it is fitted, the gauge reads NIGHT and VSENT is absent, and disconnected when the gauge
reaches DUSK or VSENT is present; event 0x7127 when it is connected (21 R701, Table 21.12). -/
def cellSwitch (s : State) : State :=
  let fitted := senFld s 71 71 0 == 1
  let want := fitted && s.sen.level == 4 && !s.sen.vsent
  let off := s.sen.cellOn && (decide (s.sen.level ≤ 3) || s.sen.vsent)
  if want && !s.sen.cellOn then raise 0x7127 8 255 1 (s.modSen fun e => { e with cellOn := true })
  else if off then s.modSen fun e => { e with cellOn := false }
  else s

/-- The gauge level changes: event 0x7124, the tag area is rewritten, the cell switched (21 R704, 16 R540). -/
def gaugeLevel (pct : Nat) (s : State) : State :=
  let old := s.sen.level
  let new := if (sentinelRec s).isNone then 4 else levelNext old pct
  let s := s.modSen fun e => { e with pct, level := new }
  let s := if new = old then s else tagGauge (raise 0x7124 8 255 (old * 16 + new) s)
  cellSwitch s

/-- GAUGE_SAMPLE: SEN measures STORE_D and STORE_Q, recomputes PCT and the level, and the harvest controller charges STORE_Q
up to 3.00 V before STORE_D up to VMAX (21 R700, R703). -/
def execGaugeSample (adv vStore vQuick : Nat) (field : Bool) (s : State) : Host.Outcome State Fault Refusal :=
  .next <|
    if s.sen.st = .cold then s
    else
      let s := passTime adv s
      let src := s.sen.vsent || field || s.sen.pvOn
      let s := s.modSen fun e =>
        { e with vStore, vQuick, field,
                 deepChg := src && decide (3000 ≤ vQuick) && (sentinelRec s).isSome && decide (vStore < senFld s 111 96 0) }
      gaugeLevel (gaugePct s vStore) s

/-- CELL_LOW: the cell voltage stayed below 2.60 V for 1 s (21 R701). -/
def execCellLow (s : State) : Host.Outcome State Fault Refusal :=
  .next <|
    if s.sen.cellOn && s.sen.st ≠ .cold then raise 0x7127 8 255 2 (s.modSen fun e => { e with cellLow := true }) else s

/-- MPPT_SAMPLE: PV_IN is regulated at MPPT % of its open-circuit voltage, 76 % with no SENTINEL record (21 R700, R703). -/
def execMpptSample (openMv : Nat) (s : State) : Host.Outcome State Fault Refusal :=
  .next <|
    if s.sen.st = .cold then s
    else s.modSen fun e => { e with pvMv := openMv * senFld s 79 72 76 / 100, pvOn := decide (0 < openMv) }

/-- The stamp of a tamper: RTC seconds, and whether RTC_VALID is clear (21 R723). -/
def stampOf (s : State) : Nat × Bool := (s.sen.rtcS % 2 ^ 55, !s.sen.rtcValid)

/-- Count one occurrence in a tamper record: COUNT saturates, FIRST is stamped once, LAST always (21 R721, R723, R725). -/
def TRec.hit (st : Nat × Bool) (r : TRec) : TRec :=
  { count := inc16 r.count
    first := if r.count = 0 then st.1 else r.first
    firstInv := if r.count = 0 then st.2 else r.firstInv
    last := st.1, lastInv := st.2 }

/-- Whether a contact reading is open: the opposite of what its polarity gives for a shut cover (21 R721). -/
def readsOpen (pol closed : Bool) : Bool := closed == pol

/-- One cover input sample: an opening counts when a closed sample is followed by two consecutive open ones. Answers the new
history (newest first), the new arming flag and whether an opening is counted (21 R721). -/
def coverStep (hist : List Bool) (arm isOpen : Bool) : List Bool × Bool × Bool :=
  if !isOpen then ([false], true, false)
  else if arm && hist.headD false then ([true, true], false, true)
  else ((true :: hist).take 2, arm, false)

/-- TAMPER_SAMPLE: SEN samples the enabled cover inputs and counts openings, with tag blocks 70 to 74 rewritten and events
0x7140 and 0x7141 (21 R721). `cover` and `term`: the contact reads closed. -/
def execTamperSample (adv : Nat) (cover term : Bool) (s : State) : Host.Outcome State Fault Refusal :=
  .next <|
    if s.sen.st = .cold then s
    else
      let s := passTime adv s
      if !permits s 3 then s
      else
        let c := if senFld s 70 70 0 = 1 then coverStep s.tamper.coverHist s.tamper.coverArm (readsOpen (senFld s 69 69 0 == 1) cover)
          else (s.tamper.coverHist, s.tamper.coverArm, false)
        let t := if senFld s 68 68 0 = 1 then coverStep s.tamper.termHist s.tamper.termArm (readsOpen (senFld s 67 67 0 == 1) term)
          else (s.tamper.termHist, s.tamper.termArm, false)
        let st := stampOf s
        let out := s.sen.st != .powered
        let s := s.modTamper fun m =>
          { m with coverHist := c.1, coverArm := c.2.1, termHist := t.1, termArm := t.2.1
                   cover := if c.2.2 then m.cover.hit st else m.cover
                   term := if t.2.2 then m.term.hit st else m.term }
        let s := s.modSen fun e =>
          { e with coverD := if c.2.2 && out then inc16 e.coverD else e.coverD
                   termD := if t.2.2 && out then inc16 e.termD else e.termD }
        let s := if c.2.2 || t.2.2 then tagGauge s else s
        let s := raiseIf c.2.2 0x7140 8 255 s.tamper.cover.count s
        raiseIf t.2.2 0x7141 8 255 s.tamper.term.count s

/-- GAUGE_TAG_UPDATE: every 3 600 s SEN rewrites the gauge and outage area (16 R540, 21 R699). -/
def execGaugeTagUpdate (adv : Nat) (s : State) : Host.Outcome State Fault Refusal :=
  .next <|
    if s.sen.st = .cold then s
    else
      let s := passTime adv s
      if permits s 3 then (tagGauge s).modSen fun e => { e with tmr3600 := s.sen.mono / 32768 } else s

/-- RTC_OSC_STOP: no edge for more than 2 ms; RTC_VALID clears, XTAL_FAULT sets, and the RTC counts from the 25 MHz reference
while that runs (21 R697, R728). -/
def execRtcOscStop (s : State) : Host.Outcome State Fault Refusal :=
  .next <|
    if s.sen.st = .cold || s.sen.xtalFault then s
    else raise 0x7126 8 255 0
      (s.modSen fun e => { e with rtcValid := false, xtalFault := true, rtcRef := s.elec.xtalOk && s.elec.supplyOk })

/-- RTC_OSC_RESTART: XTAL_FAULT clears; RTC_VALID returns only with a time set (21 R728). -/
def execRtcOscRestart (s : State) : Host.Outcome State Fault Refusal :=
  .next <| if s.sen.st = .cold then s else s.modSen fun e => { e with xtalFault := false, rtcRef := false }

/-- VSENT_CHANGE: VSENT becomes present or absent; the cell is connected or disconnected by it (21 R695, R700, R701). -/
def execVsentChange (present : Bool) (s : State) : Host.Outcome State Fault Refusal :=
  .next <| if s.sen.st = .cold then s.modSen fun e => { e with vsent := present }
    else cellSwitch (s.modSen fun e => { e with vsent := present })

/-- The 8 bytes of a tag block as a number. -/
def tagNat (s : State) (b : Nat) : Nat := natLE (tagBlock s b)

/-- SENTINEL_COLD_START: STORE_Q reaches 2.20 V. The RTC resumes from G_RTC of tag block 64 with sub-second 0 and RTC_VALID
clear, the cover records are loaded from blocks 70 to 74, event 0x7125 is held, and SEN is POWERED when the supplies are
in range, else DORMANT (21 R696, R697, R729). -/
def execSentinelColdStart (s : State) : Host.Outcome State Fault Refusal :=
  .next <|
    if s.sen.st ≠ .cold then s
    else
      let g := tagNat s 64
      let n := tagBlock s 74
      let rec' := fun (c f l : Nat) => ({ count := c, first := f % 2 ^ 55, last := l % 2 ^ 55 } : TRec)
      let s := s.modSen fun e =>
        { e with st := if s.elec.supplyOk then .powered else .dormant, rtcS := g, rtcSub := 0, rtcValid := false, xtalFault := false
                 coldStarts := inc32 e.coldStarts, buf := [], bufLost := 0, dormSince := g, mlSig := false }
      let s := s.modTamper fun m =>
        { m with cover := rec' (natLE (n.take 2)) (tagNat s 70) (tagNat s 71)
                 term := rec' (natLE ((n.drop 2).take 2)) (tagNat s 72) (tagNat s 73)
                 coverHist := [], termHist := [], coverArm := false, termArm := false }
      evBuffer { count := s.clk.count, code := 0x7125, source := 8, point := 255, arg := g % 2 ^ 32 } s

/-- SENTINEL_RAIL_LOSS: below 1.90 V every sentinel function stops and SEN is COLD (21 R695, R696). -/
def execSentinelRailLoss (s : State) : Host.Outcome State Fault Refusal :=
  .next <| s.modSen fun e =>
    { e with st := .cold, rtcValid := false, mlSig := false, cellOn := false, deepChg := false, pvOn := false, field := false
             vback := false, buf := [], bufLost := 0 }

end Sys2Proof.Machine
end

