-- ==== Sys2Proof/Machine/Order.lean ====
section
/-! DEFINITION. Order records: framing, authentication, replay windows (04 R139 to R143, R147 to R151), and the orders that
BOOT-M and LED schedule: time set, service state, tenant block, life cycle, restart (21 R698, 10 R357, 13 R457, 03 R94 to
R112). -/

namespace Sys2Proof.Machine

/-- Word k of an order, zero beyond its end. -/
def oWord (o : OrderRec) (k : Nat) : W128 := o.words.getD k 0

/-- Header fields (04 Table 4.13). -/
def oType (o : OrderRec) : Nat := fld (oWord o 0) 87 80
def oAuth (o : OrderRec) : Nat := fld (oWord o 0) 79 72
def oPayWords (o : OrderRec) : Nat := fld (oWord o 0) 71 64
def oTarget (o : OrderRec) : Nat := fld (oWord o 0) 63 0
def oSigner (o : OrderRec) : Nat := fld (oWord o 1) 127 96
def oEstate (o : OrderRec) : Nat := fld (oWord o 1) 95 64
def oSeq (o : OrderRec) : Nat := fld (oWord o 1) 63 0
def oPayload (o : OrderRec) : List W128 := (o.words.drop 2).take (oPayWords o)
def oAuthBlock (o : OrderRec) : List W128 := o.words.drop (2 + oPayWords o)

/-- Words of the authentication block (04 R139). -/
def authWords : Nat → Nat
  | 0 => 0 | 1 => 4 | 2 => 1 | _ => 9

/-- Order types in service (04 Table 4.14); LED validates 3, 4 and 10, BOOT-M the rest (01 R27). -/
def knownType (t : Nat) : Bool := decide (1 ≤ t) && decide (t ≤ 11)
def ledType (t : Nat) : Bool := t == 3 || t == 4 || t == 10
def target0 (t : Nat) : Bool := t == 1 || t == 3 || t == 4

/-- Types an operator order key signs (04 Table 4.14). -/
def operatorType (t : Nat) : Bool := knownType t && !(t == 5 || t == 6 || t == 7)

/-- The source code of the validating engine. -/
def oSource (o : OrderRec) : Nat := if ledType (oType o) then 3 else 1

/-- Framing, version and reserved fields (04 R139, R14; R141 reason 1). -/
def framed (o : OrderRec) : Bool :=
  let a := oAuth o
  fld (oWord o 0) 127 96 == 0x524F5947 && fld (oWord o 0) 95 88 == 1 && knownType (oType o) && decide (a ≤ 3)
    && decide (1 ≤ oPayWords o) && o.words.length == 2 + oPayWords o + authWords a
    && (if a = 0 then oSigner o == 0 && oEstate o == 0 && oSeq o == 0 else decide (1 ≤ oSeq o))
    && (a != 3 || (oEstate o == 0 && ((wordsBytes ((oAuthBlock o).take 5)).drop 65).all (· == 0)))

/-- Order types accepted in a state and condition (03 Table 3.8, R116; 15 R531). -/
def typeAccepted (s : State) (t : Nat) : Bool :=
  match lcCode s with
  | 0 => false
  | 1 => t == 7 || t == 8 || t == 9
  | 5 => t == 10
  | _ => if s.life.cond = .noConfig then t == 7 || t == 8 || t == 9 || t == 10 else true

/-- Slots of operator order keys in ascending order (04 R142). -/
def operatorSlots (s : State) : List Nat :=
  ((List.range 64).filter fun n => (keySlot s n).role == 4 && (keySlot s n).status == .loaded).take 4

/-- The slot and replay window of a signer (04 R141 reason 5, R142). -/
def signerSlot (s : State) (o : OrderRec) : Option (Nat × Nat) :=
  if oAuth o = 2 then
    if oType o = 10 then
      match roleSlot s 5 with
      | some n => if (keySlot s n).keyId = oSigner o then some (n, 5) else none
      | none => none
    else none
  else if (keySlot s 2).status = .loaded && (keySlot s 2).keyId = oSigner o then some (2, 0)
  else if operatorType (oType o) then
    ((operatorSlots s).zipIdx.find? fun e => (keySlot s e.1).keyId == oSigner o).map fun e => (e.1, e.2 + 1)
  else none

/-- The window passes a sequence number: above the highest, or among the 64 below it and not yet seen (04 R142, R147). -/
def replayOk (w : ReplayWin) (seq : Nat) : Bool :=
  if w.high = 2 ^ 64 - 1 then false
  else decide (w.high < seq) ||
    (decide (w.high ≤ seq + 64) && decide (seq < w.high) && !w.map.getLsbD (w.high - 1 - seq))

/-- The window after an accepted sequence number (04 R142). -/
def replayTake (w : ReplayWin) (seq : Nat) : ReplayWin :=
  if w.high < seq then
    let d := seq - w.high
    let m := if d < 64 then w.map <<< d else 0
    { w with high := seq, map := if 0 < w.high && d ≤ 64 then m ||| (1#64 <<< (d - 1)) else m }
  else { w with map := w.map ||| (1#64 <<< (w.high - 1 - seq)) }

/-- A replay window by index. -/
def win (s : State) (i : Nat) : ReplayWin := s.keys.wins.toList.getD i {}
def modWin (i : Nat) (f : ReplayWin → ReplayWin) (s : State) : State :=
  match fin? 8 i with
  | some j => s.modKeys fun k => { k with wins := k.wins.set j (f k.wins[j]) }
  | none => s

/-- The key IDs in the places of the eight windows (04 R142). -/
def winIds (s : State) : List Nat :=
  let ops := (operatorSlots s).map fun n => (keySlot s n).keyId
  let c := if (keySlot s 2).status = .loaded then (keySlot s 2).keyId else 0
  let m := match roleSlot s 5 with
    | some n => (keySlot s n).keyId
    | none => 0
  [c] ++ (ops ++ List.replicate (4 - ops.length) 0) ++ [m, romRootId, 0]

/-- A window resets to zero when the key in its place changes its key ID (04 R142). -/
def syncWins (s : State) : State :=
  let ids := winIds s
  s.modKeys fun k =>
    { k with wins := ⟨(k.wins.toList.zipIdx.map fun e =>
        let id := ids.getD e.2 0
        if e.1.keyId = id then e.1 else { keyId := id }).toArray, by simp⟩ }

/-- Who signed an order and whether the signature or MAC verifies: reason 5, reason 6, or 0 and the replay window; none:
no window (04 R141, Table 4.17). -/
def authOrder (o : OrderRec) (s : State) : Nat × Option Nat :=
  let content := wordsBytes (o.words.take (2 + oPayWords o))
  let half : EngHalf := if ledType (oType o) then .led else .bootM
  match oAuth o with
  | 0 => if lcCode s = 1 && (oType o = 8 || oType o = 9) then (0, none) else (5, none)
  | 3 =>
    let root := (wordsBytes ((oAuthBlock o).take 5)).take 65
    if lcCode s = 1 && oType o = 7 && Config.sha256 root = romRootHash && oSigner o = keyIdOf root then
      if Config.ecdsaVerify root (content ++ wordsBytes ((oAuthBlock o).take 5)) (wordsBytes ((oAuthBlock o).drop 5))
      then (0, some 6) else (6, none)
    else (5, none)
  | a =>
    match signerSlot s o with
    | none => (5, none)
    | some (n, w) =>
      let op : SlotOp := if a = 2 then .mac else .verify
      if slotCond s half n op ≠ 0 then (5, none)
      else if a = 2 then
        if Config.cmac (slotSecret s n) content % 2 ^ 128 = (oWord o (2 + oPayWords o)).toNat then (0, some w) else (6, none)
      else if Config.ecdsaVerify ((wordsBytes (keySlot s n).pub).take 65) content (wordsBytes (oAuthBlock o)) then (0, some w)
      else (6, none)

/-- Reason of 04 R141 and the state with the replay state written when the order passes. -/
def orderCheck (o : OrderRec) (s : State) : Nat × State :=
  if !framed o then (1, s)
  else if oTarget o ≠ s.life.serial && !(oTarget o = 0 && target0 (oType o)) then (2, s)
  else if (oAuth o = 1 || oAuth o = 2) && estateId s ≠ some (oEstate o) then (3, s)
  else if !typeAccepted s (oType o) then (4, s)
  else match authOrder o s with
    | (0, none) => (0, s)
    | (0, some w) => if replayOk (win s w) (oSeq o) then (0, modWin w (replayTake · (oSeq o)) s) else (7, s)
    | (r, _) => (r, s)

/-- The outcome of an order is reported: to RDO's order status, or over the link as ORDER_STATUS (15 R526, 18 R634). -/
def orderDone (o : OrderRec) (reason : Nat) (s : State) : State :=
  match o.src with
  | .rdo =>
    if s.mbus.ordTag = o.tag then
      s.modMbus fun m => { m with ordResult := if reason = 0 then 10 else 11, ordReason := reason }
    else s
  | .lnk =>
    let s := s.modLnk fun l => { l with orders := l.orders.filter fun e => !(e.1 == o.orig && e.2.1 == o.tag) }
    lnkSend 7 o.orig (bytesLE 2 o.tag ++ [if reason = 0 then 10 else 11, reason]) s

/-- Whether an engine validates orders in the hub's condition (01 Table 1.12); none begins under the mains-loss signal
(04 R157). -/
def validates (s : State) : Bool :=
  (s.life.cond == .run || s.life.cond == .noConfig || s.life.cond == .retired) && !s.sen.mlSig

/-- ORDER_VALIDATION and the payload's own judgement: `f` gives the owning chapter's refusal reason, 0 if it acts. -/
def ordered (types : List Nat) (o : OrderRec) (f : List W128 → State → Nat × State) (s : State) : State :=
  if !types.contains (oType o) || !validates s then s
  else
    let s := s.modGates fun g => { g with orderInlet := g.orderInlet.erase o }
    match orderCheck o s with
    | (0, s) => let r := f (oPayload o) s; orderDone o r.1 r.2
    | (n, s) => orderDone o n (raise 0x6120 (oSource o) 255 (n * 2 ^ 24 + oType o * 2 ^ 16 + oAuth o * 2 ^ 8) s)

/-- ORDER_UNKNOWN_TYPE: an order of a reserved TYPE fails its framing check, event 0x6120 with reason 1 (04 R141). -/
def execOrderUnknownType (o : OrderRec) (s : State) : Host.Outcome State Fault Refusal :=
  .next <|
    if knownType (oType o) || !validates s then s
    else
      let s := s.modGates fun g => { g with orderInlet := g.orderInlet.erase o }
      orderDone o 1 (raise 0x6120 1 255 (2 ^ 24 + oType o * 2 ^ 16 + oAuth o * 2 ^ 8) s)

/-- The boundary at which a mark takes effect: 0, or a mark already passed, means the next boundary (02 R67). -/
def effectAt (s : State) (c : Nat) : Nat := if c ≤ s.clk.count then s.clk.count + 1 else c

/-- Word k of a payload. -/
def pWord (p : List W128) (k : Nat) : W128 := p.getD k 0

/-- Sum of the lengths the clock gave to the cycles it ran from a count up to the applying boundary, in µs; none: no boundary
of this start carried that count (21 R698). -/
def lensFrom (s : State) (c : Nat) : Option Rat :=
  if c = s.clk.count then some 0
  else if s.clk.lens.any (·.1 == c) then
    some (((s.clk.lens.filter fun e => decide (c ≤ e.1)).map (·.2)).foldl (· + ·) 0)
  else none

/-- Refusal reason of a time set (21 R698); 0 none. -/
def timeSetReason (p : List W128) (s : State) : Nat :=
  let rtc := fld (pWord p 0) 127 64
  let ref := fld (pWord p 1) 127 64
  if p.length ≠ 2 || fld (pWord p 0) 48 0 ≠ 0 || fld (pWord p 1) 63 0 ≠ 0 then 1
  else if s.clk.count < ref then 2
  else if ref ≠ 0 && ref + 3000 < s.clk.count then 3
  else if rtc < 1577836800 then 4
  else if ref ≠ 0 && (lensFrom s ref).isNone then 5
  else 0

/-- ORDER_TIME_SET: validated and scheduled for the next cycle boundary, or refused with event 0x7131 (21 R698, 02 R69). -/
def execOrderTimeSet (o : OrderRec) (s : State) : Host.Outcome State Fault Refusal :=
  .next <| ordered [1] o (fun p s =>
    match timeSetReason p s with
    | 0 =>
      let t : TimeSet :=
        { rtcS := fld (pWord p 0) 127 64, sub := fld (pWord p 0) 63 49, refCount := fld (pWord p 1) 127 64, bnd := s.clk.bndTot }
      (0, s.modSen fun e => { e with pend := some t })
    | r => (r, raise 0x7131 1 255 r s)) s

/-- Point indices named by a mask. -/
def maskPoints (m : Nat) : List (Fin 32) := (finList 32).filter fun i => bitOf m i

/-- ORDER_POINT_SERVICE: validated, or refused with event 0x4103 (10 R357, R358). -/
def execOrderPointService (o : OrderRec) (s : State) : Host.Outcome State Fault Refusal :=
  .next <| ordered [2] o (fun p s =>
    let w := pWord p 0
    let m := fld w 127 96
    if p.length ≠ 1 || fld w 87 64 ≠ 0 || 1 < fld w 95 88 then (1, raise 0x4103 1 255 1 s)
    else if m = 0 || (maskPoints m).any (fun i => !hasPoint s i) then (2, raise 0x4103 1 255 2 s)
    else
      let c := effectAt s (fld w 63 0)
      (0, (maskPoints m).foldl (fun s i => s.modCp i fun x => { x with svcPend := some (fld w 95 88 == 1, c) }) s)) s

/-- SERVICE_STATE_APPLY: at EFFECT_COUNT the service states named are applied and kept in MRAM (10 R357). -/
def doServiceStateApply (s : State) : State :=
  (finList 32).foldl (fun s i =>
    match s.cp[i].svcPend with
    | some (st, c) =>
      if c ≤ s.clk.count then s.modCp i fun x => { x with service := some st, svcPend := none } else s
    | none => s) s

/-- A block or unblock order: refused with reason 1 and event 0x5022 when TENANT is 0 or a reserved field is non-zero, else
scheduled (13 R457, R458). -/
def blockOrder (set : Bool) (p : List W128) (s : State) : Nat × State :=
  let w := pWord p 0
  if p.length ≠ 1 || fld w 127 112 = 0 || fld w 111 64 ≠ 0 then (1, raise 0x5022 3 255 (2 ^ 24 + (if set then 3 else 4) * 2 ^ 16 + fld w 127 112) s)
  else (0, s.modLed fun l => { l with blockPend := l.blockPend ++ [(fld w 127 112, set, effectAt s (fld w 63 0))] })

/-- ORDER_TENANT_BLOCK (13 R457). -/
def execOrderTenantBlock (o : OrderRec) (s : State) : Host.Outcome State Fault Refusal :=
  .next <| ordered [3] o (blockOrder true) s

/-- ORDER_TENANT_UNBLOCK (13 R457). -/
def execOrderTenantUnblock (o : OrderRec) (s : State) : Host.Outcome State Fault Refusal :=
  .next <| ordered [4] o (blockOrder false) s

/-- Whether Table 3.5 accepts a transition. -/
def lcRow (fromSt toSt : Nat) : Bool :=
  (fromSt == 1 && toSt == 5) || (fromSt == 2 && (toSt == 3 || toSt == 5)) || (fromSt == 3 && (toSt == 4 || toSt == 5))
    || (fromSt == 4 && (toSt == 3 || toSt == 5))

/-- Refusal reason of a life-cycle order of a type (03 Table 3.7, R97); 0 none. -/
def lcReason (typ : Nat) (p : List W128) (s : State) : Nat :=
  let w := pWord p 0
  let toSt := fld w 55 48
  let want := if typ = 5 then 3 else if typ = 6 then 4 else 5
  let cnt := if toSt = 3 then sealCount s else if toSt = 4 then serviceCount s else 0
  let full := (toSt = 3 && sealCount s = 2048) || (toSt = 4 && serviceCount s = 2047)
  if p.length ≠ 2 || fld w 47 32 ≠ 0 || fld (pWord p 1) 63 0 ≠ 0 || toSt < 3 || 5 < toSt || 5 < fld w 63 56 then 8
  else if fld w 127 64 ≠ s.life.serial then 1
  else if fld w 63 56 ≠ lcCode s then 2
  else if !lcRow (lcCode s) toSt || toSt ≠ want then 3
  else if fld w 31 0 ≠ cnt then 4
  else if full then 5
  else if toSt ≠ 5 && s.life.cond ≠ .run then 6
  else if (toSt ≠ 5 && (s.life.pend.isSome || s.life.retireAt.isSome)) || (toSt = 5 && s.life.retireAt.isSome) then 7
  else 0

/-- A life-cycle order: pending for its boundary, or refused with event 0x6106; a retire order replaces any pending seal,
unseal or retire order (03 R94 to R97, R112). -/
def lcOrder (typ : Nat) (p : List W128) (s : State) : Nat × State :=
  match lcReason typ p s with
  | 0 =>
    let q : LcPend := { toState := fld (pWord p 0) 55 48, effect := effectAt s (fld (pWord p 1) 127 64) }
    (0, s.modLife fun l => { l with pend := some q })
  | r => (r, raise 0x6106 1 255 (r * 2 ^ 24 + lcCode s * 2 ^ 16 + fld (pWord p 0) 55 48 * 2 ^ 8) s)

/-- ORDER_SEAL (03 R95 to R97). -/
def execOrderSeal (o : OrderRec) (s : State) : Host.Outcome State Fault Refusal := .next <| ordered [5] o (lcOrder 5) s

/-- ORDER_UNSEAL (03 R95 to R97, R109). -/
def execOrderUnseal (o : OrderRec) (s : State) : Host.Outcome State Fault Refusal := .next <| ordered [6] o (lcOrder 6) s

/-- ORDER_RETIRE (03 R95 to R97, R112). -/
def execOrderRetire (o : OrderRec) (s : State) : Host.Outcome State Fault Refusal := .next <| ordered [7] o (lcOrder 7) s

/-- The inactive slot holds a verified image of a generation (03 R104). -/
def inactiveHolds (s : State) (gen : Nat) : Bool :=
  s.dlv.state == .verified && s.dlv.slot != s.img.slot && s.dlv.gen == gen

/-- Refusal reason of a restart order (03 R104); 0 none. -/
def restartReason (p : List W128) (s : State) : Nat :=
  let w := pWord p 0
  if p.length ≠ 2 || fld w 55 48 ≠ 0 || fld w 15 0 ≠ 0 || fld (pWord p 1) 63 0 ≠ 0 || 1 < fld w 63 56 then 3
  else if fld w 127 64 ≠ s.life.serial then 1
  else if fld w 47 16 ≠ 0 && !inactiveHolds s (fld w 47 16) then 2
  else 0

/-- ORDER_RESTART: accepted with event 0x7104, replacing any pending restart, or refused with event 0x7105
(03 R102 to R104). -/
def execOrderRestart (o : OrderRec) (s : State) : Host.Outcome State Fault Refusal :=
  .next <| ordered [9] o (fun p s =>
    match restartReason p s with
    | 0 =>
      let w := pWord p 0
      let mark := fld (pWord p 1) 127 64
      let isAt := fld w 63 56 == 1
      (0, raise 0x7104 1 255 (mark % 2 ^ 31 + (if isAt then 2 ^ 31 else (mark / 2 ^ 31) % 2 * 2 ^ 31))
        (s.modLife fun l => { l with rst := some { atKind := isAt, gen := fld w 47 16, mark }, freeze := false }))
    | r => (r, raise 0x7105 1 255 r s)) s

/-- RESTART_SESSION_FREEZE: from (MARK_COUNT - 250):0 under an AT restart the hub takes no new session (03 R103). -/
def doRestartSessionFreeze (s : State) : State :=
  match s.life.rst with
    | some r => if r.atKind && r.mark ≤ s.clk.count + 250 then s.modLife fun l => { l with freeze := true } else s
    | none => s

end Sys2Proof.Machine
end

