-- ==== Sys2Proof/Machine/Points.lean ====
section
/-! DEFINITION. What the hub reads of a point: the fields of the last usable status block (06 Table 6.5), the lock-outs and
stops in force (09 Table 9.7), and the decision that a session ends. -/

namespace Sys2Proof.Machine

/-- Head slot of a point index (00 R10). -/
def slotOf (i : Fin 32) : Fin 8 := ⟨i.val / 4, by omega⟩

/-- Point of the head. -/
def posOf (i : Fin 32) : Fin 4 := ⟨i.val % 4, by omega⟩

/-- Point index of a point of a head slot. -/
def ptIdx (slot : Fin 8) (p : Fin 4) : Fin 32 := ⟨4 * slot.val + p.val, by omega⟩

/-- The points of a head slot. -/
def headPts (slot : Fin 8) : List (Fin 32) := (finList 4).map (ptIdx slot)

/-- Word j of the last usable status block of a slot. -/
def sWord (s : State) (slot : Fin 8) (j : Nat) : Nat := (s.ports[slot].stat.getD j 0).toNat

/-- Byte p of a status word, for a point. -/
def sByte (s : State) (i : Fin 32) (j : Nat) : Nat := bits (sWord s (slotOf i) j) (8 * (i.val % 4) + 7) (8 * (i.val % 4))

/-- K_FB_NO, K_FB_NC, LOCK_FB, low-side driver on and its fault (06 Table 6.5 s14). -/
def fbNo (s : State) (i : Fin 32) : Bool := bitOf (sByte s i 14) 7
def fbNc (s : State) (i : Fin 32) : Bool := bitOf (sByte s i 14) 6
def lockFbBit (s : State) (i : Fin 32) : Bool := bitOf (sByte s i 14) 5
def lsOn (s : State) (i : Fin 32) : Bool := bitOf (sByte s i 14) 3
def lsFaultBit (s : State) (i : Fin 32) : Bool := bitOf (sByte s i 14) 2

/-- The contactor reports closed, and reports open (09 R301). -/
def ctrClosed (s : State) (i : Fin 32) : Bool := fbNo s i && !fbNc s i
def ctrOpen (s : State) (i : Fin 32) : Bool := !fbNo s i && fbNc s i

/-- LOCK_FB read through LOCK_POL: locked (10 R349). -/
def lockFb (s : State) (i : Fin 32) : Bool := lockFbBit s i != ptLockPol s i.val

/-- Residual currents and RC_FLAGS of a point (06 Table 6.5 s6 to s9). -/
def stIdc (s : State) (i : Fin 32) : Nat := bits (sWord s (slotOf i) (6 + i.val % 4)) 31 16
def stIac (s : State) (i : Fin 32) : Nat := bits (sWord s (slotOf i) (6 + i.val % 4)) 15 4
def rcFlag (s : State) (i : Fin 32) (b : Nat) : Bool := bitOf (sWord s (slotOf i) (6 + i.val % 4)) b

/-- Proximity-pilot value of a point (06 Table 6.5 s4, s5). -/
def stPp (s : State) (i : Fin 32) : Nat :=
  let w := sWord s (slotOf i) (4 + i.val % 4 / 2)
  if i.val % 2 = 0 then bits w 15 0 else bits w 31 16

/-- Control-pilot plateaus of a point (06 Table 6.5 s0 to s3). -/
def stCpHi (s : State) (i : Fin 32) : Int := ofTwos 16 (bits (sWord s (slotOf i) (i.val % 4)) 31 16)
def stCpLo (s : State) (i : Fin 32) : Int := ofTwos 16 (bits (sWord s (slotOf i) (i.val % 4)) 15 0)

/-- PT1000 input j of a head as reported (06 Table 6.5 s10 to s13). -/
def stPt (s : State) (slot : Fin 8) (j : Nat) : Nat :=
  let w := sWord s slot (10 + j / 2)
  if j % 2 = 0 then bits w 15 0 else bits w 31 16

/-- Whether PT1000 input j of a slot is fitted (06 Table 6.1 PT_EN). -/
def ptFitted (s : State) (slot : Fin 8) (j : Nat) : Bool := bitOf (cfg s 0x30 slot.val 0 43 36) j

/-- Lock-out cause of a point in force: either copy shows it (09 R313). -/
def lockCause (s : State) (i : Fin 32) : Nat :=
  let a := s.safe.a.lockRec.cause[i]
  if a ≠ 0 then a else s.safe.b.lockRec.cause[i]

/-- Hub lock-out cause in force (09 R313). -/
def hubLock (s : State) : Nat :=
  let a := s.safe.a.lockRec.hub
  if a ≠ 0 then a else s.safe.b.lockRec.hub

/-- Both SSMs armed. -/
def armed (s : State) : Bool := s.safe.a.armed && s.safe.b.armed

/-- The rail is off for a RAIL condition. -/
def railStop (s : State) : Bool := hubLock s != 0 || s.safe.railCause != 0

/-- Active stops of a point: the bit numbers of STOPS (09 Table 9.7). -/
def stopBits (s : State) (i : Fin 32) : List Nat :=
  let x := s.psafe[i]
  [(104, railStop s), (105, x.missDiode), (106, x.shortPe), (107, x.proximity), (108, x.lockFb), (109, x.npe),
   (110, x.npeLost), (111, x.t2), (112, x.ptExc), (113, x.statMiss), (114, lockCause s i != 0), (115, !armed s)].filterMap
    fun e => if e.2 then some e.1 else none

/-- The stops that a reaction of 09 Table 9.3 holds on a point: all but the missing arming. -/
def stopped (s : State) (i : Fin 32) : Bool := (stopBits s i).any (· != 115)

/-- The head of a point is ADMITTED and not SLOW (06 R207). -/
def headOk (s : State) (i : Fin 32) : Bool := s.ports[slotOf i].st == .admitted

/-- A port runs: ADMITTED or SLOW. -/
def portRuns (p : Port) : Bool := p.st == .admitted || p.st == .slow

/-- A session ends with a reason of 12 Table 12.5: SES acts on it at the next cycle boundary; the first reason decided
stands. Without a binding, a placed notice or a connection there is nothing to end. -/
def endSes (i : Fin 32) (reason : Nat) (s : State) : State :=
  let live := s.led.binds[i].isSome || s.ses[i].tcpOpen || s.gates.bindInlet.any (fun b => b.point == i.val && b.ending.isNone)
  if live && s.ses[i].ended.isNone then s.modSes i fun x => { x with ended := some reason } else s

/-- A point enters a state at this boundary (10 R355). -/
def setPst (i : Fin 32) (p : PState) (s : State) : State :=
  s.modCp i fun x => if x.pst = p then x else { x with pst := p, pstAt := s.clk.count, indAt := s.clk.bndTot }

/-- The points of the hub that an image fits. -/
def fitted (s : State) : List (Fin 32) := (finList 32).filter fun i => hasPoint s i.val

end Sys2Proof.Machine
end

