-- ==== Sys2Proof/Machine/Metering.lean ====
section
/-! DEFINITION. Energy quantities and registers: the window of a cycle, its quantities, the register set with its carried
remainders, bridged and gap ticks (spec/08). -/

namespace Sys2Proof.Machine

/-- Length of a tick in cycles (02 R63). -/
def tickCy (s : State) : Rat := if s.clk.fnom = 60 then 3 / 400 else 1 / 160

/-- Weight of tick k in cycle n: the part of its interval that lies in the cycle (08 R260). -/
def weight (w : Rat) (k n : Nat) : Rat :=
  let lo := max ((k : Rat) * w) n
  let hi := min (((k : Rat) + 1) * w) ((n : Rat) + 1)
  if lo < hi then hi - lo else 0

/-- Integer square root of any natural number. -/
def isqrtN (n : Nat) : Nat := isqrtGo n (n.log2 / 2 + 1) 0

/-- Square root: exact when the root is a fraction, else truncated to a multiple of 2^-64 (log entry 18). DESIGN CHOICE. -/
def sqrtRat (x : Rat) : Rat :=
  if x ≤ 0 then 0
  else
    let n := x.num.toNat
    let rn := isqrtN n
    let rd := isqrtN x.den
    if rn * rn = n && rd * rd = x.den then (rn : Rat) / (rd : Rat)
    else (isqrtN (n * 2 ^ 128 / x.den) : Rat) / (2 ^ 64 : Nat)

/-- Sum of exact values. -/
def sumRat (l : List Rat) : Rat := l.foldl (· + ·) 0

/-- Registers 8 and 13 are integers, the others Q96.32 (08 R266). -/
def regInt (r : Nat) : Bool := r == 8 || r == 13

/-- Saturated value of a register (08 R275). -/
def regMax (r : Nat) : Nat := if regInt r then 2 ^ 128 - 1 else (2 ^ 96 - 1) * 2 ^ 32

/-- Add an exact amount to a register: whole steps are added, the truncated remainder is carried. Answers the set, the steps
added and whether the register has saturated now (08 R267, R275). A saturated register takes no further additions. -/
def addReg (r : Fin 14) (amt : Rat) (t : RegSet) : RegSet × Nat × Bool :=
  let x := t.rem[r] + (if regInt r then amt else amt * (2 ^ 32 : Nat))
  let inc := x.floor.toNat
  let t := { t with rem := t.rem.set r (x - inc) }
  if t.sat.contains r.val then (t, inc, false)
  else
    let v := t.regs[r] + inc
    if v ≤ regMax r then ({ t with regs := t.regs.set r v }, inc, false)
    else ({ t with regs := t.regs.set r (regMax r), sat := insertAsc r.val t.sat }, inc, true)

/-- The sums of one phase over the weighted ticks of a cycle (08 R262, R270, R271). -/
structure PhaseSums where
  /-- mean square of the voltage, µV² -/
  u2 : Rat
  /-- mean square of the current, µA² -/
  i2 : Rat
  /-- active power, 1e-12 W -/
  p : Rat
  /-- active power over the ticks that are not gap ticks, weighted and not normalised, 1e-12 W -/
  pe : Rat
  /-- reactive power, 1e-12 var -/
  q : Rat
  /-- magnitude of the power of the bridged ticks, weighted, 1e-12 W -/
  br : Rat
  deriving DecidableEq, Repr

/-- A value of a phase. -/
def at3 (l : List Rat) (x : Nat) : Rat := l.getD x 0

/-- Phase of the centre of tick k, in turns (08 R262). -/
def thetaOf (w : Rat) (k : Nat) : Rat :=
  let c := ((k : Rat) + 1 / 2) * w
  c - c.floor

/-- Reactive power of a phase: the harmonics up to hmax (08 R262). `l`: ticks with their weights, normalised. -/
def reactive (w : Rat) (hmax : Nat) (x : Nat) (l : List (MTick × Rat)) : Rat :=
  sumRat ((List.range hmax).map fun h =>
    let sum := fun (f : MTick → Rat) (g : Rat → Rat) =>
      sumRat (l.map fun e => e.2 * f e.1 * g ((h + 1 : Nat) * thetaOf w e.1.tk))
    let u := fun (t : MTick) => at3 t.u x
    let i := fun (t : MTick) => at3 t.i x
    2 * (sum u Config.cosTurn * sum i Config.sinTurn - sum u Config.sinTurn * sum i Config.cosTurn))

/-- The sums of phase x (0 to 2) over weighted ticks. -/
def phaseSums (w : Rat) (hmax x : Nat) (l : List (MTick × Rat)) : PhaseSums :=
  let tot := sumRat (l.map (·.2))
  let n := l.map fun e => (e.1, e.2 / tot)
  let sum := fun (f : MTick → Rat) => sumRat (n.map fun e => e.2 * f e.1)
  let ui := fun (t : MTick) => at3 t.u x * at3 t.i x
  let abs := fun (r : Rat) => if r < 0 then -r else r
  { u2 := sum fun t => at3 t.u x * at3 t.u x
    i2 := sum fun t => at3 t.i x * at3 t.i x
    p := sum ui
    pe := sumRat ((l.filter fun e => e.1.kind != .gap).map fun e => e.2 * ui e.1)
    q := reactive w hmax x n
    br := sumRat ((l.filter fun e => e.1.kind == .bridged).map fun e => e.2 * abs (ui e.1)) }

/-- A phase is in creep: Irms below 2.5 mA (08 R264). -/
def creeps (ph : PhaseSums) : Bool := decide (ph.i2 < 2500 * 2500)

/-- A power in 1e-12 W as mW, rounded and saturated (08 R274). -/
def toMilli (x : Rat) : Int := max (-0x7FFFFFFF) (min 0x7FFFFFFF (roundRat (x / (10 ^ 9 : Nat))))

/-- A value saturated to 32 bits. -/
def u32 (x : Int) : Nat := min x.toNat (2 ^ 32 - 1)

/-- Add amounts to registers in turn; answers the set, the steps of each and the registers newly saturated. -/
def addRegs : List (Fin 14 × Rat) → RegSet → RegSet × List Nat × List Nat
  | [], t => (t, [], [])
  | (r, a) :: rest, t =>
    let (t, inc, sat) := addReg r a t
    let (t, incs, sats) := addRegs rest t
    (t, inc :: incs, if sat then r.val :: sats else sats)

/-- Write the register set into the copy with the older COUNT (08 R285). -/
def putCopy (count : Nat) (x : PtMet) : PtMet :=
  let c : RegCopy := { count, written := true, set := x.set }
  if !x.copyA.written then { x with copyA := c }
  else if !x.copyB.written then { x with copyB := c }
  else if x.copyA.count ≤ x.copyB.count then { x with copyA := c }
  else { x with copyB := c }

/-- Energy in the unit of a register (µWh, µvarh, µVAh) of a power in 1e-12 W over a time in µs. -/
def energyOf (p us : Rat) : Rat := p * us / (3600 * 10 ^ 12 : Nat)

/-- The quantities of a metered cycle and the register amounts they bring (08 R262 to R272). -/
def cycleOf (s : State) (info : CycInfo) (part : Bool) (lastOn : Bool) (l : List (MTick × Rat)) : MetRes × List (Fin 14 × Rat) :=
  let w := tickCy s
  let hmax := if s.clk.fnom = 60 then 41 else 50
  let ph := (List.range 3).map fun x => phaseSums w hmax x l
  let live := ph.filter fun e => !creeps e
  let tot := sumRat (l.map (·.2))
  let g := sumRat ((l.filter fun e => e.1.kind != .gap).map (·.2))
  let app := fun (e : PhaseSums) => if creeps e then 0 else sqrtRat (e.u2 * e.i2)
  let psum := sumRat (live.map (·.pe))
  let qsum := sumRat (live.map (·.q))
  let ssum := sumRat (live.map app)
  let imp := decide (0 ≤ psum)
  let quad : Nat := if imp then (if 0 ≤ qsum then 0 else 3) else if 0 ≤ qsum then 1 else 2
  let starts := l.filter fun e => decide ((info.idx : Rat) ≤ (e.1.tk : Rat) * w)
  let gap := l.any fun e => e.1.kind == .gap
  let full := tot == 1
  let closed := full && !part && l.all fun e => e.1.closed
  let abs := fun (r : Rat) => if r < 0 then -r else r
  let mean := fun (j : Nat) => sumRat (l.map fun e => e.2 / tot * (e.1.f.getD j 0) * (e.1.f.getD j 0))
  let volts := fun (j : Nat) => u32 (roundRat (sqrtRat (mean j) / 1000))
  let qReg : Fin 14 := if quad = 0 then 2 else if quad = 1 then 3 else if quad = 2 then 4 else 5
  let amts : List (Fin 14 × Rat) :=
    [(if imp then 0 else 1, energyOf (abs psum) info.lenUs), (qReg, energyOf (abs qsum * g) info.lenUs),
     (if imp then 6 else 7, energyOf (ssum * g) info.lenUs), (8, if closed && !gap then info.lenUs / (10 ^ 6 : Nat) else 0),
     (if imp then 9 else 10, energyOf (sumRat (live.map (·.br))) info.lenUs), (13, 1)]
  ({ count := info.count, valid := true, gap, ovr := l.any fun e => e.1.ovr
     sfault := l.any fun e => e.1.sf
     creep := ph.map creeps
     clk := info.unlocked
     subst := l.any fun e => e.1.sub
     closed, isPartial := part, quad
     bridgedTk := min 255 (starts.filter fun e => e.1.kind == .bridged).length
     gapTk := min 255 (starts.filter fun e => e.1.kind == .gap).length
     urms := ph.map fun e => u32 (roundRat (sqrtRat e.u2 / 1000))
     irms := ph.map fun e => u32 (roundRat (sqrtRat e.i2))
     p := ph.map fun e => if creeps e then 0 else toMilli e.p
     q := ph.map fun e => if creeps e then 0 else toMilli e.q
     sx := ph.map fun e => (toMilli (app e)).toNat
     dur := u32 (roundRat (info.lenUs * 1000))
     psum := toMilli psum, qsum := toMilli qsum, ssum := (toMilli ssum).toNat
     uf := (List.range 3).map volts, unpe := volts 3
     cmdOpen := !lastOn && starts.all fun e => !e.1.cmdOn }, amts)

/-- Events 0x2030 of the registers newly saturated (08 R275). -/
def satEvents (i : Fin 32) : List Nat → State → State
  | [], s => s
  | r :: rs, s => satEvents i rs (raise 0x2030 2 i.val (r * 2 ^ 24) s)

/-- Meter one point over a cycle: its quantities, its registers, its MRAM copy (08 R259 to R273, R283, R285). -/
def meterPoint (info : CycInfo) (part : Bool) (i : Fin 32) (s : State) : State :=
  let w := tickCy s
  let x := s.pmet[i]
  let l := (x.buf.map fun t => (t, weight w t.tk info.idx)).filter fun e => decide (0 < e.2)
  let starts := l.filter fun e => decide ((info.idx : Rat) ≤ (e.1.tk : Rat) * w)
  let est := x.est + sumRat (starts.map fun e => e.1.est)
  let rest := x.buf.filter fun t => decide ((info.idx : Rat) + 1 < ((t.tk : Rat) + 1) * w) && !part
  let lastOn := match starts.getLast? with | some e => e.1.cmdOn | none => x.lastOn
  let estAmt : List (Fin 14 × Rat) := if 0 < est then [(11, est)] else if est < 0 then [(12, -est)] else []
  if l.isEmpty then
    let (set, _, sats) := addRegs estAmt x.set
    let x := { x with buf := rest, est := 0, set, res := { count := info.count } }
    satEvents i sats (s.modPmet i fun _ => if estAmt.isEmpty then x else putCopy info.count x)
  else
    let (res, amts) := cycleOf s info part x.lastOn l
    let (set, incs, sats) := addRegs (amts ++ estAmt) x.set
    let imp := res.quad = 0 || res.quad = 3
    let e := incs.getD 0 0
    let b := incs.getD 4 0
    let res := { res with incImp := if imp then e else 0, incExp := if imp then 0 else e
                          brgImp := if imp then b else 0, brgExp := if imp then 0 else b }
    satEvents i sats (s.modPmet i fun x => putCopy info.count { x with buf := rest, lastOn, est := 0, set, res })

/-- Meter every point over the oldest ended cycle (08 R273). -/
def meterCycle (info : CycInfo) (part : Bool) (s : State) : State :=
  (finList 32).foldl (fun s (i : Fin 32) => meterPoint info part i s) s

/-- Whether the frames of a cycle have all arrived or passed their deadline (08 R273). -/
def cycleArrived (s : State) (info : CycInfo) : Bool :=
  decide ((info.idx : Rat) + 1 + tickCy s ≤ ((s.clk.tickTot : Rat) - 1) * tickCy s)

/-- The RESULT gate publishes cycle n at (n+2):0: the quantities computed last and the registers after them (08 R273). -/
def publishResult (s : State) : State :=
  (finList 32).foldl (fun s (i : Fin 32) => s.modPmet i fun x => { x with pub := x.res, pubRegs := x.set.regs }) s

/-- REGISTER_RESTORE in step S5: the copy with the higher COUNT and a good CRC; an older one with event 0x2031, none with the set
reset and event 0x2032 (08 R286). A copy never written is absent; `written` is cleared when a copy is lost. `badA`, `badB`: the
copy fails its CRC. -/
def restoreRegs (i : Fin 32) (badA badB : Bool) (s : State) : State :=
  let x := s.pmet[i]
  let a := x.copyA.written && !badA
  let b := x.copyB.written && !badB
  let any := x.copyA.written || x.copyB.written
  if !any then s.modPmet i fun x => { x with set := {} }
  else if !a && !b then
    raise 0x2032 2 i.val 0 (s.modPmet i fun x => { x with set := { reset := true }, copyA := {}, copyB := {} })
  else
    let useA := a && (!b || decide (x.copyB.count ≤ x.copyA.count))
    let c := if useA then x.copyA else x.copyB
    let other := if useA then x.copyB else x.copyA
    let older := (if useA then badB else badA) && other.written && decide (c.count ≤ other.count)
    raiseIf older 0x2031 2 i.val c.count (s.modPmet i fun x =>
      { x with set := c.set, copyA := if badA then {} else x.copyA, copyB := if badB then {} else x.copyB })

end Sys2Proof.Machine
end

