-- ==== Sys2Proof/Machine/Safety.lean ====
section
/-! DEFINITION. The safety state machines: reactions, lock-outs, closing and opening, supervised conditions, reset and
rail test (spec/09). -/

namespace Sys2Proof.Machine

/-- Change both SSMs alike. -/
def modSsms (f : Ssm → Ssm) (s : State) : State := s.modSafe fun x => { x with a := f x.a, b := f x.b }

/-- Set the opinion of both SSMs on a point (09 R292). -/
def setOpinion (i : Fin 32) (permit : Bool) (s : State) : State :=
  modSsms (fun m => { m with opinion := m.opinion.set i permit }) s

/-- Both opinions permit. -/
def permitted (s : State) (i : Fin 32) : Bool := s.safe.a.opinion[i] && s.safe.b.opinion[i]

/-- The POINT reaction: both tokens of the point withdrawn; a close request in progress fails (09 R294, R324). -/
def withdraw (i : Fin 32) (s : State) : State :=
  (setOpinion i false s).modCp i fun x => { x with closeReq := false }

/-- A point goes to a safety state, unless it is locked out (09 Table 9.2). -/
def toSafeSt (i : Fin 32) (st : SafeSt) (s : State) : State :=
  s.modPsafe i fun x => { x with st := if x.st = .lockedOut then .lockedOut else st, testLeft := 0, openDue := false }

/-- A condition of 09 Table 9.3 without lock-out: its event, both tokens withdrawn, the point STOPPED. -/
def stopPoint (i : Fin 32) (s : State) : State := toSafeSt i .stopped (withdraw i s)

/-- STOPPED ends once no condition holds (09 Table 9.2). -/
def unstop (i : Fin 32) (s : State) : State :=
  if s.psafe[i].st = .stopped && !stopped s i then s.modPsafe i fun x => { x with st := .opened } else s

/-- The outputs SAFE_EN of both SSMs, and the nodes as the SSMs sense them (09 R289, R290). -/
def setOuts (a b : Bool) (s : State) : State :=
  s.modSafe fun x => { x with a := { x.a with out := a }, b := { x.b with out := b }, monA := a, monB := a && b }

/-- The RAIL reaction: both outputs low, every token of the hub withdrawn; event 0x1203 with the cause when the rail was on
(09 R293, Table 9.6). -/
def railOpen (cause : Nat) (s : State) : State :=
  let was := s.safe.a.out || s.safe.b.out || armed s
  let s := setOuts false false (modSsms (fun m => { m with armed := false }) s)
  let s := raiseIf was 0x1203 0x10 255 (cause * 2 ^ 24) s
  (finList 32).foldl (fun s (i : Fin 32) => stopPoint i s) s

/-- Set the hub lock-out in both copies: the cause already recorded stands, but for the emergency stop that its discrepancy
replaces (09 R300, R313; log entry 21). -/
def recHub (cause : Nat) (s : State) : State :=
  let f := fun (m : Ssm) => { m with lockRec := { m.lockRec with hub := cause } }
  if hubLock s = 0 || (hubLock s = 1 && cause = 2) then modSsms f s else s

/-- A condition with lock-out of the hub: the record is written, then the event, then the rail opens (09 R299, R313). -/
def lockHub (cause code arg : Nat) (s : State) : State :=
  let new := hubLock s = 0 || (hubLock s = 1 && cause = 2)
  let s := (recHub cause s).modSafe fun x =>
    { x with condHub := insertAsc cause x.condHub, lockouts := if new then inc32 x.lockouts else x.lockouts }
  let s := raise code 0x10 255 arg s
  railOpen cause (raiseIf new 0x1170 0x10 255 (cause * 2 ^ 24) s)

/-- Set the lock-out of a point in both copies, with its count and boundary (09 R313). -/
def recPoint (i : Fin 32) (cause : Nat) (s : State) : State :=
  modSsms (fun m => { m with lockRec :=
    { m.lockRec with cause := m.lockRec.cause.set i cause, n := m.lockRec.n.set i (satAdd 8 m.lockRec.n[i] 1),
                     atCnt := m.lockRec.atCnt.set i s.clk.count } }) s

/-- A condition with lock-out of a point: the record is written, then the event from its source, then the tokens are withdrawn
(09 R299, R313). A lock-out in force keeps its cause. -/
def lockPoint (i : Fin 32) (cause code source arg : Nat) (s : State) : State :=
  let new := lockCause s i = 0
  let s := if new then (recPoint i cause s).modSafe fun x => { x with lockouts := inc32 x.lockouts } else s
  let s := s.modPsafe i fun x => { x with condNow := insertAsc cause x.condNow }
  let s := raise code source i.val arg s
  let s := raiseIf new 0x1170 0x10 i.val (cause * 2 ^ 24) s
  (withdraw i s).modPsafe i fun x => { x with st := .lockedOut, testLeft := 0, openDue := false }

/-- ESTOP_PRESSED: a filtered ESTOP input shows the pressed value (09 R300, R329). -/
def execEstopPressed (a b : Bool) (s : State) : Host.Outcome State Fault Refusal :=
  .next <|
    let s := s.modSafe fun x => { x with estopA := a, estopB := b, rstBad := x.rstBad || x.rstPulse }
    if a && !b then s else lockHub 1 0x1101 (2 * b2n a + b2n b) s

/-- ESTOP_RELEASED: the pair reads released; the rail stays open (09 R300). -/
def execEstopReleased (s : State) : Host.Outcome State Fault Refusal :=
  .next <| raise 0x1102 0x10 255 2 (s.modSafe fun x => { x with estopA := true, estopB := false })

/-- ESTOP_DISCREPANCY: the two filtered inputs disagree for more than 10 ms (09 R300). -/
def execEstopDiscrepancy (s : State) : Host.Outcome State Fault Refusal :=
  .next <|
    if s.safe.estopA = s.safe.estopB then lockHub 2 0x1103 (2 * b2n s.safe.estopA + b2n s.safe.estopB) s else s

/-- SSM_DISCREPANCY: opinions on a point, or (none) the SAFE_EN outputs, differ for more than 10 ms (09 R293). -/
def execSsmDiscrepancy (point : Option (Fin 32)) (s : State) : Host.Outcome State Fault Refusal :=
  .next <| lockHub 3 0x1207 (match point with | some i => i.val | none => 255) s

/-- SSM_CLOCK_STOP: the clock of SSM-A (or SSM-B) stopped; its SAFE_EN output is forced low and it
writes no permitting token (09 R291, R292). -/
def execSsmClockStop (isB : Bool) (s : State) : Host.Outcome State Fault Refusal :=
  .next <|
    let f := fun (m : Ssm) => { m with clockOk := false, opinion := Vector.replicate 32 false }
    let s := s.modSafe fun x => if isB then { x with b := f x.b } else { x with a := f x.a }
    if isB then setOuts s.safe.a.out false s else setOuts false s.safe.b.out s

/-- Downstream Urms of a point below 50 V on every phase in the latest RESULT snapshot; a point without one shows none
(09 R295). -/
def coldDown (s : State) (i : Fin 32) : Bool :=
  !s.pmet[i].pub.valid || s.pmet[i].pub.urms.all fun u => decide (u < 50000)

/-- A valid cable code (09 R295). -/
def cableOk (c : Cable) : Bool := c == .a13 || c == .a20 || c == .a32 || c == .a63

/-- A socket point has a valid cable code and reports locked (09 R295). -/
def plugOk (s : State) (i : Fin 32) : Bool := ptTethered s i.val || (cableOk s.cp[i].cable && lockFb s i)

/-- Whether a point state is in service (10 Table 10.6). -/
def inService (p : PState) : Bool := p != .absent && p != .outOfService && p != .fault

/-- The conditions of 09 R295 that last through the test: the K_FB condition stands apart. -/
def closeHolds (s : State) (i : Fin 32) : Bool :=
  armed s && !s.safe.overdue && headOk s i && inService s.cp[i].pst && !stopped s i && s.psafe[i].condNow.isEmpty
    && (s.cp[i].cp == .c || s.cp[i].cp == .d) && plugOk s i && ctrOpen s i && coldDown s i

/-- SES may place a close request (10 Table 10.7, R355). -/
def mayAsk (s : State) (i : Fin 32) : Bool :=
  (s.cp[i].pst == .authorised || s.cp[i].pst == .paused) && (s.cp[i].cp == .c || (s.cp[i].cp == .d && ptDOk s i.val))
    && decide (60 ≤ s.cp[i].ceil) && plugOk s i && s.ses[i].ended.isNone && !s.sen.mlSig
    && (match s.cp[i].closeHold with
      | some b => decide (b + 5 * s.clk.fnom ≤ s.clk.bndTot)
      | none => true)

/-- CLOSE_REQUEST: SES places a close request, which the SSMs accept only under 09 R295; the pre-closure test then starts at
the next boundary (09 R296). -/
def execCloseRequest (point : Fin 32) (s : State) : Host.Outcome State Fault Refusal :=
  .next <|
    if mayAsk s point && closeHolds s point && s.psafe[point].st = .opened then
      (s.modCp point fun x => { x with closeReq := true, closeHold := none }).modPsafe point fun x =>
        { x with st := .testing, testAt := s.clk.count, testLeft := 40, idcTest := [] }
    else s

/-- Mean IDC of the last 16 injection ticks, 0.01 mA (09 R296). -/
def meanIdc (l : List Nat) : Nat := if l.isEmpty then 0 else l.sum / l.length

/-- A failed pre-closure test: event 0x1123; the second in a row locks out with cause 0x16 (09 R297). -/
def testFailed (i : Fin 32) (mean : Nat) (s : State) : State :=
  let n := s.psafe[i].attempts + 1
  let s := s.modPsafe i fun x => { x with st := .opened, test := 2, attempts := if n = 2 then 0 else n, testLeft := 0 }
  let s := s.modCp i fun x => { x with closeReq := false, closeHold := some s.clk.bndTot }
  if n = 2 then lockPoint i 0x16 0x1123 0x10 (2 * 2 ^ 24 + mean % 65536) s
  else raise 0x1123 0x10 i.val (2 ^ 24 + mean % 65536) s

/-- PRECLOSURE_TEST_END: the 40-tick injection ends and the test is judged on the reported IDC; a passed test whose conditions no
longer hold withdraws the request (09 R296, R297, 10 R363). -/
def execPreclosureTestEnd (point : Fin 32) (s : State) : Host.Outcome State Fault Refusal :=
  .next <|
    let x := s.psafe[point]
    if x.st ≠ .testing || x.testLeft ≠ 0 then s
    else
      let mean := meanIdc x.idcTest
      let pass := decide (700 ≤ mean) && decide (mean ≤ 1300) && !rcFlag s point 3 && rcFlag s point 2
      if !pass then testFailed point mean s
      else if closeHolds s point then s.modPsafe point fun x => { x with st := .closing, test := 1, attempts := 0 }
      else (withdraw point s).modPsafe point fun x => { x with st := .opened, test := 1 }

/-- CLOSING_MARK: from the mark both tokens permit and the point is CHARGING, or the request fails (09 R297, 10 Table 10.7). -/
def execClosingMark (point : Fin 32) (s : State) : Host.Outcome State Fault Refusal :=
  .next <|
    let x := s.psafe[point]
    if x.st ≠ .closing || s.clk.count < x.testAt + 2 then s
    else if closeHolds s point && mayAsk s point then
      setPst point .charging ((setOpinion point true s).modPsafe point fun x => { x with st := .closed })
    else
      let s := (withdraw point s).modPsafe point fun x => { x with st := .opened }
      if s.cp[point].pst = .authorised && decide (s.cp[point].ceil < 60) then setPst point .paused s else s

/-- An open request of SES: both tokens are withdrawn from the next cycle boundary (09 R298). -/
def openReq (i : Fin 32) (s : State) : State :=
  let st := s.psafe[i].st
  if st = .testing || st = .closing || st = .closed then s.modPsafe i fun x => { x with openDue := true } else s

/-- OPEN_REQUEST (09 R298). -/
def execOpenRequest (point : Fin 32) (s : State) : Host.Outcome State Fault Refusal := .next <| openReq point s

/-- The open requests due at a cycle boundary act (09 R298). -/
def openBoundary (s : State) : State :=
  (finList 32).foldl (fun s (i : Fin 32) =>
    if s.psafe[i].openDue then toSafeSt i .opened (withdraw i s) else s) s

/-- Argument of events 0x1110 and 0x1111. -/
def fbArg (s : State) (i : Fin 32) : Nat := 256 * b2n (lsOn s i) + 2 * b2n (fbNo s i) + b2n (fbNc s i)

/-- FEEDBACK_DISCREPANCY: NO equals NC for more than 20 ms (09 R301). -/
def execFeedbackDiscrepancy (point : Fin 32) (s : State) : Host.Outcome State Fault Refusal :=
  .next <| if fbNo s point = fbNc s point then lockPoint point 0x10 0x1110 0x10 (fbArg s point) s else s

/-- FEEDBACK_AGAINST_COMMAND: the report differs from the command for more than 50 ms (09 R301). -/
def execFeedbackAgainstCommand (point : Fin 32) (s : State) : Host.Outcome State Fault Refusal :=
  .next <|
    if (lsOn s point && ctrOpen s point) || (!lsOn s point && ctrClosed s point) then
      lockPoint point 0x11 0x1111 0x10 (fbArg s point) s
    else s

/-- Highest downstream Urms of the latest snapshot, V. -/
def hotVolts (s : State) (i : Fin 32) : Nat := (s.pmet[i].pub.urms.foldl max 0) / 1000

/-- WELD_DETECTED: two consecutive published cycles commanded open with 50 V or more on some phase (09 R302). -/
def execWeldDetected (point : Fin 32) (s : State) : Host.Outcome State Fault Refusal :=
  .next <|
    if 2 ≤ s.psafe[point].weldRun then
      (lockPoint point 0x12 0x1112 0x10 (hotVolts s point) s).modPsafe point fun x => { x with weldHold := true }
    else s

/-- HEAD_DC_TRIP: the head trips a point on its own; never below 3.00 mA, not while FG_TST is set (09 R303, R296). -/
def execHeadDcTrip (point : Fin 32) (idc : Nat) (s : State) : Host.Outcome State Fault Refusal :=
  .next <|
    let h := s.heads[slotOf point].pts[posOf point]
    if idc < 300 || h.fgTst || !s.heads[slotOf point].on then s
    else
      let s := s.modHead (slotOf point) fun x =>
        { x with pts := x.pts.set (posOf point) { h with localTrip := true, dcTrip := true, permit := false, testPassed := false } }
      lockPoint point 0x13 0x1120 (0x20 + (slotOf point).val) (2 ^ 24 + min idc 65535) s

/-- HEAD_AC_TRIP: 30 mA for 250 ms or 150 mA for 25 ms (09 R304). -/
def execHeadAcTrip (point : Fin 32) (iac : Nat) (s : State) : Host.Outcome State Fault Refusal :=
  .next <|
    let h := s.heads[slotOf point].pts[posOf point]
    if iac < 300 || !s.heads[slotOf point].on then s
    else
      let s := s.modHead (slotOf point) fun x =>
        { x with pts := x.pts.set (posOf point) { h with localTrip := true, acTrip := true, permit := false, testPassed := false } }
      lockPoint point 0x14 0x1121 (0x20 + (slotOf point).val) (2 ^ 24 + min iac 65535) s

/-- FLUXGATE_FAULT: an open or shorted winding of a fitted channel (09 R305). -/
def execFluxgateFault (point : Fin 32) (s : State) : Host.Outcome State Fault Refusal :=
  .next <|
    let h := s.heads[slotOf point].pts[posOf point]
    if !bitOf (cfg s 0x30 (slotOf point).val 0 35 32) (posOf point).val || !s.heads[slotOf point].on then s
    else
      let h := { h with localTrip := true, fgFault := true, permit := false, testPassed := false, rcmOut := false }
      let s := s.modHead (slotOf point) fun x => { x with pts := x.pts.set (posOf point) h }
      lockPoint point 0x15 0x1122 (0x20 + (slotOf point).val) 0 s

/-- LOW_SIDE_DRIVER_FAULT: the head reports it and trips the point (09 R299). -/
def execLowSideDriverFault (point : Fin 32) (s : State) : Host.Outcome State Fault Refusal :=
  .next <|
    let h := s.heads[slotOf point].pts[posOf point]
    if !s.heads[slotOf point].on then s
    else
      let s := s.modHead (slotOf point) fun x =>
        { x with pts := x.pts.set (posOf point) { h with localTrip := true, lsFault := true, permit := false, testPassed := false } }
      lockPoint point 0x17 0x1160 (0x20 + (slotOf point).val) 0 s

/-- SSM_DC_BACKUP: the head has not reported a DC trip by the table time plus 5 ms (09 R303). -/
def execSsmDcBackup (point : Fin 32) (s : State) : Host.Outcome State Fault Refusal :=
  .next <|
    if 600 ≤ stIdc s point && !rcFlag s point 1 then lockPoint point 0x13 0x1120 0x10 (2 * 2 ^ 24 + stIdc s point) s else s

/-- SSM_AC_TRIP: IAC_TRIP for 200 ms, or 5 x IAC_TRIP for 20 ms (09 R304). -/
def execSsmAcTrip (point : Fin 32) (s : State) : Host.Outcome State Fault Refusal :=
  .next <|
    if 10 * iacTrip s ≤ stIac s point && hasImage s then lockPoint point 0x14 0x1121 0x10 (2 * 2 ^ 24 + stIac s point) s else s

/-- Argument of events 0x1130, 0x1131 and 0x4107: CP_HI and CP_LO. -/
def cpArg (s : State) (i : Fin 32) : Nat := twos 16 s.cp[i].cpHi * 65536 + twos 16 s.cp[i].cpLo

/-- CP_MISSING_DIODE: three reported PWM periods show no diode (09 R306). -/
def execCpMissingDiode (point : Fin 32) (s : State) : Host.Outcome State Fault Refusal :=
  .next <|
    if s.cp[point].cpMode = 1 && s.cp[point].cpHi ≤ 10500 && -10500 ≤ s.cp[point].cpLo && !s.psafe[point].missDiode then
      stopPoint point (raise 0x1130 0x10 point.val (cpArg s point) (s.modPsafe point fun x => { x with missDiode := true }))
    else s

/-- CP_SHORT_TO_PE: three reported PWM periods show CP_HI near zero (09 R306). -/
def execCpShortToPe (point : Fin 32) (s : State) : Host.Outcome State Fault Refusal :=
  .next <|
    if s.cp[point].cpMode = 1 && -1500 ≤ s.cp[point].cpHi && s.cp[point].cpHi ≤ 1500 && !s.psafe[point].shortPe then
      stopPoint point (raise 0x1131 0x10 point.val (cpArg s point) (s.modPsafe point fun x => { x with shortPe := true }))
    else s

/-- Cable code whose band a PP value lies in (10 Table 10.4). -/
def cableBand (pp : Nat) : Option Cable :=
  if 1100 ≤ pp && pp ≤ 2200 then some .a13
  else if 500 ≤ pp && pp ≤ 900 then some .a20
  else if 165 ≤ pp && pp ≤ 300 then some .a32
  else if 75 ≤ pp && pp ≤ 135 then some .a63
  else if pp = 0xFFFF then some .none
  else none

/-- PROXIMITY_FAULT: PP open, short or outside every band for more than 3 ms while the contactor is commanded closed; tethered
points ignore PP (09 R307, 10 R348). -/
def execProximityFault (point : Fin 32) (s : State) : Host.Outcome State Fault Refusal :=
  .next <|
    let pp := s.cp[point].pp
    let bad := match cableBand pp with | some c => c == .none | none => true
    if bad && permitted s point && !ptTethered s point.val && !s.psafe[point].proximity then
      stopPoint point (raise 0x1132 0x10 point.val pp (s.modPsafe point fun x => { x with proximity := true }))
    else s

/-- LOCK_FEEDBACK_LOST: on a socket point commanded closed LOCK_FB stops reporting locked for more than 3 ms (09 R308). -/
def execLockFeedbackLost (point : Fin 32) (s : State) : Host.Outcome State Fault Refusal :=
  .next <|
    if permitted s point && !ptTethered s point.val && !lockFb s point && !s.psafe[point].lockFb then
      stopPoint point (raise 0x1133 0x10 point.val 0 (s.modPsafe point fun x => { x with lockFb := true }))
    else s

/-- The HEAD reaction on the points of a slot. -/
def stopHead (slot : Fin 8) (f : PtSafe → PtSafe) (s : State) : State :=
  (headPts slot).foldl (fun s (i : Fin 32) => stopPoint i (s.modPsafe i f)) s

/-- A condition of a whole head clears. -/
def clearHead (slot : Fin 8) (f : PtSafe → PtSafe) (s : State) : State :=
  (headPts slot).foldl (fun s (i : Fin 32) => unstop i (s.modPsafe i f)) s

/-- UNPE of a head in the latest snapshot, V. -/
def unpeV (s : State) (slot : Fin 8) : Nat := s.pmet[ptIdx slot 0].pub.unpe / 1000

/-- NPE_OVERVOLTAGE: UNPE above NPE_MAX in two consecutive snapshots (09 R309). -/
def execNpeOvervoltage (slot : Fin 8) (s : State) : Host.Outcome State Fault Refusal :=
  .next <|
    if 2 ≤ s.safe.npeHi[slot] && !s.psafe[ptIdx slot 0].npe then
      stopHead slot (fun x => { x with npe := true }) (raise 0x1140 0x10 (4 * slot.val) (unpeV s slot) s)
    else s

/-- NPE_CLEARED: at most NPE_MAX - 5 V in every snapshot for 250 cy (09 R309). -/
def execNpeCleared (slot : Fin 8) (s : State) : Host.Outcome State Fault Refusal :=
  .next <|
    if 250 ≤ s.safe.npeLo[slot] && s.psafe[ptIdx slot 0].npe then
      clearHead slot (fun x => { x with npe := false }) (raise 0x1141 0x10 (4 * slot.val) 0 s)
    else s

/-- N-PE supervision of a head is lost while channel 27 is in SENSOR_FAULT (09 R310). -/
def npeSupervision (slot : Fin 8) (lost : Bool) (s : State) : State :=
  if lost then stopHead slot (fun x => { x with npeLost := true }) (raise 0x1142 0x10 (4 * slot.val) 0 s)
  else clearHead slot (fun x => { x with npeLost := false }) s

/-- T2_STOP: the point temperature reaches T2 in two consecutive cycles (09 R311). -/
def execT2Stop (point : Fin 32) (s : State) : Host.Outcome State Fault Refusal :=
  .next <|
    if 2 ≤ s.psafe[point].t2Run && !s.psafe[point].t2 then
      stopPoint point (raise 0x1152 0x10 point.val (satTwos 32 (s.psafe[point].temp.getD 0))
        (s.modPsafe point fun x => { x with t2 := true, t2Low := 0 }))
    else s

/-- T2_CLEARED: below T2 - 5.0 degrees for 3 000 cy (09 R311). -/
def execT2Cleared (point : Fin 32) (s : State) : Host.Outcome State Fault Refusal :=
  .next <|
    if 3000 ≤ s.psafe[point].t2Low && s.psafe[point].t2 then
      unstop point (raise 0x1153 0x10 point.val (satTwos 32 (s.psafe[point].temp.getD 0))
        (s.modPsafe point fun x => { x with t2 := false }))
    else s

/-- PT_EXCITATION_FAULT: a fitted input reports 0x8000 for more than 8 tk (09 R311). -/
def execPtExcitationFault (point : Fin 32) (second : Bool) (s : State) : Host.Outcome State Fault Refusal :=
  .next <|
    let j := 2 * (posOf point).val + b2n second
    if ptFitted s (slotOf point) j && stPt s (slotOf point) j = 0x8000 && !s.psafe[point].ptExc then
      stopPoint point (raise 0x1154 0x10 point.val j (s.modPsafe point fun x => { x with ptExc := true }))
    else s

/-- PT_EXCITATION_CLEAR: valid values for 160 tk (09 R311). -/
def execPtExcitationClear (point : Fin 32) (s : State) : Host.Outcome State Fault Refusal :=
  .next <|
    let ok := (finList 2).all fun (k : Fin 2) =>
      let j := 2 * (posOf point).val + k.val
      !ptFitted s (slotOf point) j || stPt s (slotOf point) j != 0x8000
    if ok && s.psafe[point].ptExc then unstop point (s.modPsafe point fun x => { x with ptExc := false }) else s

/-- RST_REQ_RISE: the measurement of a reset pulse starts (09 R314). -/
def execRstReqRise (s : State) : Host.Outcome State Fault Refusal :=
  .next <| s.modSafe fun x => { x with rstReq := true, rstPulse := true, rstBad := false }

/-- A pulse length, in microseconds, lies within 0.1 s to 3 s, both accepted (09 R314, R323). -/
def pulseOk (us : Nat) : Bool := decide (100000 ≤ us) && decide (us ≤ 3000000)

/-- RST_REQ_FALL: the pulse ends, as long as each SSM measured it; both must accept it (09 R314, R329). -/
def execRstReqFall (usA usB : Nat) (s : State) : Host.Outcome State Fault Refusal :=
  .next <|
    if !s.safe.rstPulse then s.modSafe fun x => { x with rstReq := false }
    else
      let bad := s.safe.rstBad
      let s := s.modSafe fun x => { x with rstReq := false, rstPulse := false, rstBad := false }
      if pulseOk usA && pulseOk usB && !bad then s.modSafe fun x => { x with rstDue := true, resets := inc32 x.resets }
      else
        let arg := if pulseOk usA ≠ pulseOk usB then 0xFFFFFFFF else min (usA / 1000) 0xFFFFFFFE
        raise 0x1173 0x10 255 arg (s.modSafe fun x => { x with refused := inc32 x.refused })

/-- Whether the condition of a hub lock-out cause is present at a reset boundary (09 R315). -/
def hubCondHolds (s : State) (cause : Nat) : Bool :=
  let x := s.safe
  x.condHubPrev.contains cause
    || (match cause with
      | 1 => !x.estopA || x.estopB
      | 2 => x.estopA == x.estopB || !x.estopA || x.estopB
      | 3 => x.a.out != x.b.out || x.a.clockOk != x.b.clockOk
      | 4 => x.monA != x.a.out || x.monB != (x.a.out && x.b.out)
      | _ => false)

/-- Whether the condition of a point lock-out cause is present at a reset boundary; after a weld the downstream voltage must
also be gone (09 R315). -/
def ptCondHolds (s : State) (i : Fin 32) (cause : Nat) : Bool :=
  let x := s.psafe[i]
  x.condPrev.contains cause
    || (match cause with
      | 0x10 => fbNo s i == fbNc s i
      | 0x11 => (lsOn s i && ctrOpen s i) || (!lsOn s i && ctrClosed s i)
      | 0x12 => !coldDown s i
      | 0x13 => decide (600 ≤ stIdc s i) || rcFlag s i 1
      | 0x14 => decide (10 * iacTrip s ≤ stIac s i) || rcFlag s i 0
      | 0x15 => rcFlag s i 3
      | 0x17 => lsFaultBit s i
      | _ => false)
    || (x.weldHold && !coldDown s i)

/-- Reset of one point lock-out: cleared with event 0x1171, or kept with event 0x1172 (09 R315). -/
def resetPoint (i : Fin 32) (s : State) : State :=
  let c := lockCause s i
  if c = 0 then s
  else if ptCondHolds s i c then raise 0x1172 0x10 i.val (c * 2 ^ 24) s
  else
    let s := modSsms (fun m => { m with lockRec := { m.lockRec with cause := m.lockRec.cause.set i 0 } }) s
    let s := s.modPsafe i fun x => { x with st := .opened, attempts := 0, weldHold := false }
    raise 0x1171 0x10 i.val (c * 2 ^ 24) s

/-- The four readings (SAFE_MON_A, SAFE_MON_B) that a passing rail test gives (09 R334). -/
def railTestGood : List (Bool × Bool) := [(false, false), (true, false), (false, false), (true, true)]

/-- Hours since the last passed rail test. -/
def testHours (s : State) : Nat := (s.clk.rtcS - s.safe.testRtc) / 3600

/-- A rail test passed: event 0x1205 with the hours since the last pass (09 R322). -/
def railTestPass (s : State) : State :=
  raise 0x1205 0x10 255 (testHours s)
    (s.modSafe fun x => { x with testCount := s.clk.count, testRtc := s.clk.rtcS, testDue := false, overdue := false })

/-- A rail test failed: the rail off, event 0x1202 with reason 3, hub lock-out with cause 0x04 (09 R334). -/
def railTestFail (s : State) : State :=
  let new := hubLock s = 0
  let s := (recHub 4 s).modSafe fun x =>
    { x with testDue := false, condHub := insertAsc 4 x.condHub, lockouts := if new then inc32 x.lockouts else x.lockouts }
  railOpen 4 (raiseIf new 0x1170 0x10 255 (4 * 2 ^ 24) (raise 0x1202 0x10 255 3 s))

/-- SAFETY_ARMING: the lock-out record, the ESTOP pair, the rail test, then armed (09 R334). -/
def arm (mons : List (Bool × Bool)) (s : State) : State :=
  let s := s.modSafe fun x => { x with rearm := false }
  if hubLock s ≠ 0 then raise 0x1202 0x10 255 1 s
  else if !s.safe.estopA || s.safe.estopB then raise 0x1202 0x10 255 2 s
  else if mons ≠ railTestGood then railTestFail s
  else
    let s := setOuts true true (modSsms (fun m => { m with armed := true, clockOk := true }) s)
    let s := (s.modSafe fun x => { x with railCause := 0 })
    let s := (finList 32).foldl (fun s (i : Fin 32) => unstop i s) s
    railTestPass (raise 0x1201 0x10 255 0 s)

/-- LOCKOUT_RESET: at the boundary after an accepted pulse every lock-out whose condition is absent is cleared, and the SSMs
re-arm when the hub lock-out is cleared (09 R315). `mons`: the readings of the re-arming rail test. -/
def execLockoutReset (mons : List (Bool × Bool)) (s : State) : Host.Outcome State Fault Refusal :=
  .next <|
    if !s.safe.rstDue then s
    else
      let s := s.modSafe fun x => { x with rstDue := false }
      let s := (finList 32).foldl (fun s (i : Fin 32) => resetPoint i s) s
      let c := hubLock s
      if c = 0 then (if s.safe.rearm then arm mons s else s)
      else if hubCondHolds s c then raise 0x1172 0x10 255 (c * 2 ^ 24) s
      else
        let s := modSsms (fun m => { m with lockRec := { m.lockRec with hub := 0 } }) s
        arm mons (raise 0x1171 0x10 255 (c * 2 ^ 24) s)

/-- RAIL_TEST: at the first boundary at or after 00:00 UTC at which no contactor is commanded closed, the four-step test runs
(09 R322, R334). -/
def execRailTest (mons : List (Bool × Bool)) (s : State) : Host.Outcome State Fault Refusal :=
  .next <|
    if !s.safe.testDue || !armed s || (finList 32).any (fun i => permitted s i) then s
    else if mons = railTestGood then railTestPass s
    else railTestFail s

/-- RAIL_TEST_OVERDUE: no test has passed for 168 h (09 R322). -/
def execRailTestOverdue (s : State) : Host.Outcome State Fault Refusal :=
  .next <|
    if 604800 < s.clk.rtcS - s.safe.testRtc && !s.safe.overdue then
      raise 0x1206 0x10 255 (testHours s) (s.modSafe fun x => { x with overdue := true })
    else s

/-- SAFE_MON_FAULT: an input contradicts its commanded node for more than 5 ms (09 R331). -/
def execSafeMonFault (monA monB : Bool) (s : State) : Host.Outcome State Fault Refusal :=
  .next <|
    let ca := s.safe.a.out
    let cb := s.safe.a.out && s.safe.b.out
    if monA = ca && monB = cb then s
    else
      let s := lockHub 4 0x1204 (8 * b2n ca + 4 * b2n s.safe.b.out + 2 * b2n monA + b2n monB) s
      s.modSafe fun x => { x with monA := monA, monB := monB }

end Sys2Proof.Machine
end

