-- ==== Sys2Proof/Machine/Measure.lean ====
section
/-! DEFINITION. Measurement chain: sensor kinds and calibration, the processing of a sample, sensor faults, overrange and
source runs, and the halo check (spec/07). -/

namespace Sys2Proof.Machine

/-- SENSOR_CAL fields of a channel (07 Table 7.2). -/
def calFld (s : State) (slot c hi lo : Nat) : Nat := cfg s 0x32 (28 * slot + c) 0 hi lo
def chanKind (s : State) (slot c : Nat) : Nat := calFld s slot c 127 124
def calGain (s : State) (slot c : Nat) : Nat := calFld s slot c 119 88
def calOffset (s : State) (slot c : Nat) : Int := ofTwos 32 (calFld s slot c 87 56)
def calPhase (s : State) (slot c : Nat) : Int := ofTwos 16 (calFld s slot c 55 40)
def calCorner (s : State) (slot c : Nat) : Nat := calFld s slot c 39 24

/-- Point field of a channel's events (07 R255). -/
def chanPt (slot c : Nat) : Nat := 4 * slot + (if c < 24 then c / 6 else 0)

/-- The parallel slot, if any, that substitutes a channel (06 R201). -/
def substOf (h : Halo) (c : Nat) : Option HaloSlot :=
  h.slots.toList.find? fun x => x.mode == 2 && x.ch == c

/-- Word 8 of a downstream frame without FG_TST (06 Table 6.6). -/
def word8Of (h : Halo) : Nat :=
  h.slots[0].mod * 2 ^ 27 + h.slots[0].ch * 2 ^ 22 + h.slots[0].mode * 2 ^ 20
    + h.slots[1].mod * 2 ^ 15 + h.slots[1].ch * 2 ^ 10 + h.slots[1].mode * 2 ^ 8

/-- Whether PAR_ECHO shows a substitution of a channel by a modulator (06 R213). -/
def echoSubst (echo c m : Nat) : Bool :=
  (bits echo 31 27 == m && bits echo 26 22 == c && bits echo 21 20 == 2)
    || (bits echo 19 15 == m && bits echo 14 10 == c && bits echo 9 8 == 2)

/-- SRC expected of a channel for a tick with an echo (07 R234, 06 R213). -/
def srcExpected (s : State) (slot : Fin 8) (c echo : Nat) : Nat :=
  if chanKind s slot.val c = 3 then 30
  else
    match substOf s.meas[slot].halo c with
    | some x => if echoSubst echo c x.mod then x.mod else c
    | none => c

/-- Fields of a channel word (06 Table 6.4). -/
def cwSample (w : W32) : Int := ofTwos 24 (bits w.toNat 31 8)
def cwValid (w : W32) : Bool := bitOf w.toNat 7
def cwOvr (w : W32) : Bool := bitOf w.toNat 6
def cwExc (w : W32) : Bool := bitOf w.toNat 5
def cwSrc (w : W32) : Nat := bits w.toNat 4 0

/-- The delay stage on a history, newest first: exactly 3 tk for PHASE 0, else the interpolator (07 R233). -/
def delayed (phase : Int) (fnom : Nat) (hist : List Rat) : Rat :=
  if phase = 0 then hist.getD 3 0
  else sumGo ((List.range 16).map fun j => Config.delayTap phase fnom j * hist.getD j 0)
where sumGo (l : List Rat) : Rat := l.foldl (· + ·) 0

/-- Put a value into the history of a channel and form its processed value in µA or µV (07 R231, R232). -/
def chanPush (s : State) (slot : Fin 8) (c : Nat) (x : Rat) (ch : Chan) : Chan :=
  let (coil, y) :=
    if chanKind s slot.val c = 2 then Config.coilStep (calCorner s slot.val c) s.clk.fnom s.clk.base ch.coil x
    else (ch.coil, x)
  let hist := (y :: ch.hist).take 19
  { ch with coil, hist, val := delayed (calPhase s slot.val c) s.clk.fnom hist * calGain s slot.val c / (2 ^ 24 : Nat) }

/-- Reported value of a channel word, less the offset, in LSB (07 R231). -/
def chanInput (s : State) (slot c : Nat) (w : W32) : Rat := (cwSample w : Rat) - (calOffset s slot c : Rat) / 256

/-- A sensor-excitation loss is counted by SEN, while POWERED (21 R722). -/
def tamperExc (slot : Fin 8) (c : Fin 28) (s : State) : State :=
  if s.sen.st ≠ .powered then s
  else
    let st := stampOf s
    let k : Fin 224 := ⟨28 * slot.val + c.val, by omega⟩
    let s := s.modTamper fun t => { t with exc := t.exc.set slot (t.exc[slot].hit st), excN := t.excN.set k (inc16 t.excN[k]) }
    raise 0x7143 8 (chanPt slot.val c.val) (c.val * 2 ^ 24 + s.tamper.excN[k]) s

/-- Change one channel. -/
def modChan (slot : Fin 8) (c : Fin 28) (f : Chan → Chan) (s : State) : State :=
  s.modMeas slot fun m => { m with chans := m.chans.set c (f m.chans[c]) }

/-- SENSOR_FAULT is entered (07 R236): event 0x2010, the tamper, the session of the point ends with reason "meter fault", N-PE
supervision is lost with channel 27 (09 R310). -/
def sensorFault (slot : Fin 8) (c : Fin 28) (s : State) : State :=
  let s := modChan slot c (fun x => { x with sfault := true, clrRun := 0, sfTicks := 0, excRuns := inc32 x.excRuns }) s
  let s := raise 0x2010 2 (chanPt slot.val c.val) (c.val * 2 ^ 24) s
  let s := tamperExc slot c s
  if c.val < 24 then endSes (ptIdx slot ⟨c.val / 6 % 4, by omega⟩) 7 s
  else if c.val = 27 then npeSupervision slot true s
  else s

/-- SENSOR_FAULT is left after 160 usable blocks without EXC_FAIL (07 R236). -/
def sensorClear (slot : Fin 8) (c : Fin 28) (s : State) : State :=
  let n := s.meas[slot].chans[c].sfTicks
  let s := modChan slot c (fun x => { x with sfault := false, clrRun := 0 }) s
  let s := raise 0x2011 2 (chanPt slot.val c.val) (c.val * 2 ^ 24 + min n (2 ^ 24 - 1)) s
  if c.val = 27 then npeSupervision slot false s else s

/-- A run that ends after 160 ticks without its cause. -/
def runStep (q : Option Nat) (hit : Bool) : Option Nat :=
  if hit then some 0
  else
    match q with
    | some n => if 160 ≤ n + 1 then none else some (n + 1)
    | none => none

/-- One channel word of a usable sample block: sensor fault, overrange and SRC runs (07 R234 to R237, R255). -/
def chanFlags (slot : Fin 8) (c : Fin 28) (w : W32) (echo : Nat) (s : State) : State :=
  let x := s.meas[slot].chans[c]
  let s :=
    if cwExc w && !x.sfault then sensorFault slot c s
    else if x.sfault then
      let n := if cwExc w then 0 else x.clrRun + 1
      let s := modChan slot c (fun x => { x with sfTicks := satAdd 24 x.sfTicks 1, clrRun := n }) s
      if n = 160 then sensorClear slot c s else s
    else s
  let ovr := cwOvr w
  let s := raiseIf (ovr && x.ovrQuiet.isNone) 0x2012 2 (chanPt slot.val c.val) (c.val * 2 ^ 24) s
  let e := srcExpected s slot c.val echo
  let bad := cwValid w && cwSrc w != e
  let s := raiseIf (bad && x.srcQuiet.isNone) 0x2013 2 (chanPt slot.val c.val) (c.val * 2 ^ 24 + cwSrc w * 2 ^ 16 + e * 2 ^ 8) s
  modChan slot c (fun x =>
    { x with ovrQuiet := runStep x.ovrQuiet ovr, ovrTicks := if ovr then inc32 x.ovrTicks else x.ovrTicks
             srcQuiet := runStep x.srcQuiet bad, srcErr := if bad then inc32 x.srcErr else x.srcErr }) s

/-- A channel sample is usable (07 R234). -/
def chanUsable (s : State) (slot : Fin 8) (c : Nat) (w : W32) (echo : Nat) : Bool :=
  cwValid w && !cwExc w && cwSrc w == srcExpected s slot c echo

/-- A tick without a usable sample of a channel: the history repeats its newest value (log entry 19), runs and fault times go
on. DESIGN CHOICE. -/
def chanMiss (s : State) (slot : Fin 8) (c : Nat) (ch : Chan) : Chan :=
  let hist := (ch.hist.headD 0 :: ch.hist).take 19
  { ch with hist, val := delayed (calPhase s slot.val c) s.clk.fnom hist * calGain s slot.val c / (2 ^ 24 : Nat)
            sfTicks := if ch.sfault then satAdd 24 ch.sfTicks 1 else ch.sfTicks
            ovrQuiet := runStep ch.ovrQuiet false, srcQuiet := runStep ch.srcQuiet false }

/-- HEAD_EXC_DETECT: the head sets or clears EXC_FAIL of a channel after the persistence of 07 R235. -/
def execHeadExcDetect (slot : Fin 8) (c : Fin 28) (fail : Bool) (s : State) : Host.Outcome State Fault Refusal :=
  .next <|
    if !s.heads[slot].on then s
    else s.modHead slot fun h => { h with exc := if fail then insertAsc c.val h.exc else h.exc.filter (· != c.val) }

/-! Halo check (07 R238 to R258). -/

/-- Change the halo of a head slot, one of its modulators, one of its parallel slots. -/
def modHalo (slot : Fin 8) (f : Halo → Halo) (s : State) : State := s.modMeas slot fun m => { m with halo := f m.halo }
def modMod (m : Nat) (f : HaloMod → HaloMod) (h : Halo) : Halo :=
  match fin? 30 m with
  | some i => { h with mods := h.mods.set i (f h.mods[i]) }
  | none => h
def modSlot (x : Fin 2) (f : HaloSlot → HaloSlot) (h : Halo) : Halo := { h with slots := h.slots.set x (f h.slots[x]) }
def haloMod (h : Halo) (m : Nat) : HaloMod := h.mods.toList.getD m {}

/-- A spare is free: SPARE or SUSPECT, with no substitution duty (07 R239, R248). -/
def spareFree (h : Halo) (m : Nat) : Bool :=
  ((haloMod h m).st == .spare || (haloMod h m).st == .suspect) && (haloMod h m).serves == 31

/-- The free spares, ascending; their number is F. -/
def freeSpares (h : Halo) : List Nat := [28, 29].filter (spareFree h)

/-- The covered channels: KIND 0 to 2, not in substitution (07 R238). -/
def covered (s : State) (slot : Fin 8) : List Nat :=
  (List.range 28).filter fun c =>
    decide (chanKind s slot.val c ≤ 2) && (haloMod s.meas[slot].halo c).serves == c

/-- An idle parallel slot. -/
def idleSlot (x : HaloSlot) : HaloSlot := { judge := x.judge }

/-- Coverage is suspended when F falls to 0: event 0x2025 (07 R249). -/
def haloSuspend (slot : Fin 8) (s : State) : State :=
  let h := s.meas[slot].halo
  if (freeSpares h).isEmpty && !h.susp then
    raise 0x2025 2 (4 * slot.val) 0 (modHalo slot (fun h => { h with susp := true }) s)
  else s

/-- The modulators of a head whose serial has no stored entry (07 R257, R230). -/
def freshMods (s : State) (slot : Fin 8) : Vector HaloMod 30 :=
  ⟨((List.range 30).map fun m =>
    if 28 ≤ m then ({ st := .spare, serves := 31 } : HaloMod)
    else if chanKind s slot.val m = 3 then { st := .unused, serves := 31 }
    else { st := .inService, serves := m }).toArray, by simp⟩

/-- The stored substitutions go into the parallel slots in MODE 2 (07 R258). -/
def haloRestore (h : Halo) : Halo :=
  let put := fun (x : Fin 2) (m : Nat) (h : Halo) =>
    if (haloMod h m).serves < 28 then modSlot x (fun e => { e with mod := m, ch := (haloMod h m).serves, mode := 2, kind := .subst }) h
    else modSlot x (fun _ => {}) h
  put 1 29 (put 0 28 h)

/-- A head is paired: the stored modulator states of its serial, or fresh ones (07 R257, R258). -/
def haloAdopt (slot : Fin 8) (serial : Nat) (s : State) : State :=
  let s := if s.meas[slot].halo.serial = some serial then s
    else modHalo slot (fun h => { h with serial := some serial, mods := freshMods s slot, slots := Vector.replicate 2 {} }) s
  modHalo slot (fun h => haloRestore { h with on := false, confirm := [], todo := [] }) s

/-- Admission: a new rotation begins at step 0 with the stored counts (07 R239, R258). -/
def haloAdmit (slot : Fin 8) (s : State) : State :=
  modHalo slot (fun h => { h with on := true, fresh := true, todo := [], confirm := [], rotation := 0, step := 0, retest := false }) s

/-- A head is lost or becomes SLOW: a due MODE 2 is dropped, to be set up again at re-admission, and an unjudged step is
discarded (07 R253, R258). -/
def haloDrop (slot : Fin 8) (s : State) : State :=
  modHalo slot (fun h =>
    let go := fun (x : Fin 2) (h : Halo) =>
      let e := h.slots[x]
      let h := if e.swapDue then modMod e.mod (fun m => { m with st := .inService, serves := e.ch }) (modMod e.ch (fun m => { m with serves := 31 }) h) else h
      if e.kind = .subst then modSlot x (fun e => { e with judge := none }) h
      else
        let h := modMod e.ch (fun m => if m.st = .underTest then { m with st := .inService } else m) h
        modSlot x (fun _ => {}) h
    { go 1 (go 0 h) with confirm := [] }) s

/-- The spare that hosts each parallel slot in a rotation: even rotations begin with the lower-numbered free spare, odd ones
with the higher; a slot in MODE 2 keeps its substitute (07 R239). -/
def hostOf (h : Halo) (x : Fin 2) : Option Nat :=
  let busy := fun (y : Fin 2) => h.slots[y].kind == .subst || h.slots[y].mode == 2
  if busy x then none
  else
    let f := freeSpares h
    let f := if h.rotation % 2 = 0 then f else f.reverse
    if x.val = 0 || busy 0 then f[0]? else f[1]?

/-- Place a parallel slot for a step: a confirmation that its spare is to make displaces the planned channel to the end; else the
next listed channel (07 R239, R240, R243). -/
def placeSlot (now : Nat) (late : Bool) (x : Fin 2) (h : Halo) : Halo :=
  match hostOf h x with
  | none => h
  | some m =>
    let mine := h.confirm.find? fun e => e.2 != m || !(freeSpares h).any (· != m)
    let at_ := now + (if late then 0 else 1)
    match mine with
    | some e =>
      let h := { h with confirm := h.confirm.filter (· != e), todo := h.todo.drop 1 ++ h.todo.take 1 }
      modSlot x (fun s => { judge := s.judge, mod := m, ch := e.1, mode := 1, kind := .confirm, windowAt := at_, failer := e.2 }) h
    | none =>
      match h.todo with
      | c :: rest =>
        modSlot x (fun s => { judge := s.judge, mod := m, ch := c, mode := 1, kind := .step, windowAt := at_ }) { h with todo := rest }
      | [] => modSlot x idleSlot h

/-- A rotation begins when the channels of the last are covered, or after 896 cy with no free spare (07 R239). -/
def rotationDue (h : Halo) : Bool :=
  h.fresh || (if h.susp then decide (13 ≤ h.step) else h.todo.isEmpty)

/-- The end of a step at the start of the next: what has been compared awaits its judgement, a confirmation holds (07 R242,
R244, R246). -/
def endStep (retest : Bool) (x : Fin 2) (h : Halo) : Halo :=
  modSlot x (fun e =>
    match e.kind with
    | .step => { idleSlot e with judge := some (e.mod, e.ch, .step) }
    | .confirm => { e with hold := true, holdRep := 0 }
    | .subst => if retest then { e with judge := some (e.mod, e.ch, .retest) } else e
    | _ => e) h

/-- HALO_STEP: at an epoch boundary of an admitted head a step begins; its rotation begins with it when due, and coverage resumes
with a rotation (07 R239, R240, R243, R249, R254). -/
def doHaloStep (slot : Fin 8) (s : State) : State :=
    let h := s.meas[slot].halo
    if !h.on || s.clk.count % 64 ≠ 0 || !s.clk.started || (!h.fresh && h.stepAt = s.clk.bndTot) then s
    else
      let h := endStep h.retest 1 (endStep h.retest 0 h)
      let due := rotationDue h
      let f := (freeSpares h).length
      let cov := covered (modHalo slot (fun _ => h) s) slot
      let resume := due && h.susp && f ≠ 0
      let h :=
        if due then
          { h with rotation := if h.fresh then 0 else inc32 h.rotation, step := 0, fresh := false, retest := true
                   susp := h.susp && f == 0
                   todo := if f = 0 then [] else cov
                   rotLen := if f = 0 then 896 else 64 * ((cov.length + f - 1) / f) }
        else { h with step := h.step + 1, retest := false }
      let h := { h with stepAt := s.clk.bndTot }
      let go := fun (x : Fin 2) (h : Halo) => if h.slots[x].hold then h else placeSlot s.clk.bndTot false x h
      let s := modHalo slot (fun _ => go 1 (go 0 h)) s
      haloSuspend slot (raiseIf resume 0x2026 2 (4 * slot.val) f s)

/-- Result of a comparison: 1 pass, 2 offset pass, 3 fail, 4 incomplete, with the failed quantities (07 R241). -/
def haloResult (c : HaloCmp) : Nat × Nat :=
  let big := fun (x lim : Rat) => decide (lim < x) || decide (x < -lim)
  if c.usable < 32 then (4, 0)
  else
    let o := big c.off 420
    if 32 ≤ c.nSig then
      let g := big c.gain 300
      let p := big c.phase 100
      if g || o || p then (3, b2n g + 2 * b2n o + 4 * b2n p) else (1, 0)
    else if o then (3, 2)
    else (2, 0)

/-- The outcome is kept with both modulators compared (07 Table 7.5). -/
def noteCmp (home spare : Nat) (c : HaloCmp) (atCnt : Nat) (h : Halo) : Halo :=
  let r := (haloResult c).1
  let put := fun (other : Nat) (m : HaloMod) =>
    { m with result := r, partner := other, atCount := atCnt
             offDev := if r = 4 then m.offDev else max (-32768) (min 32767 (roundRat c.off))
             gainDev := if r = 4 || c.nSig < 32 then m.gainDev else max (-32768) (min 32767 (roundRat c.gain))
             phaseDev := if r = 4 || c.nSig < 32 then m.phaseDev else max (-32768) (min 32767 (roundRat c.phase)) }
  modMod spare (put home) (modMod home (put spare) h)

/-- A pass clears the failure count of the spare that made the check (07 R242, Table 7.3). -/
def sparePass (m : Nat) (h : Halo) : Halo :=
  modMod m (fun x => { x with fails := 0, st := if x.st = .suspect then .spare else x.st }) h

/-- The home modulator of a channel passes: its failure count clears (07 R242, R244). -/
def homePass (c : Nat) (h : Halo) : Halo := modMod c (fun x => { x with st := .inService, fails := 0 }) h

/-- A spare is charged with a failure: event 0x2023, and 0x2024 at the second with no pass in between (07 R247). -/
def chargeSpare (slot : Fin 8) (m c : Nat) (s : State) : State :=
  let n := (haloMod s.meas[slot].halo m).fails + 1
  let s := modHalo slot (modMod m fun x => { x with fails := n, st := if 2 ≤ n then .retired else .suspect }) s
  let s := raise 0x2023 2 (4 * slot.val) (m * 2 ^ 24 + c * 2 ^ 16 + n) s
  if 2 ≤ n then haloSuspend slot (raise 0x2024 2 (4 * slot.val) (m * 2 ^ 24) s) else s

/-- Count of the boundary that began the step in progress: the end of the window judged in it. -/
def windowEnd (s : State) (h : Halo) : Nat := s.clk.count - (s.clk.bndTot - h.stepAt)

/-- HALO_JUDGE: MET judges the step, or the re-test, that a parallel slot has compared (07 R241 to R243, R246). -/
def execHaloJudge (slot : Fin 8) (x : Fin 2) (c : HaloCmp) (s : State) : Host.Outcome State Fault Refusal :=
  .next <|
    let h := s.meas[slot].halo
    match h.slots[x].judge with
    | none => s
    | some (m, ch, use) =>
      let (r, q) := haloResult c
      let s := modHalo slot (fun h => noteCmp ch m c (windowEnd s h) (modSlot x (fun e => { e with judge := none }) h)) s
      if use = .retest then
        modHalo slot (modMod ch fun y => { y with passes := if r = 1 then min 3 (y.passes + 1) else if r = 3 then 0 else y.passes }) s
      else if r = 4 then modHalo slot (modMod ch fun y => if y.st = .underTest then { y with st := .inService } else y) s
      else if r = 3 then
        let s := modHalo slot (fun h => { modMod ch (fun y => { y with st := .suspect, fails := 1 }) h with confirm := h.confirm ++ [(ch, m)] }) s
        raise 0x2020 2 (chanPt slot.val ch) (ch * 2 ^ 24 + m * 2 ^ 16 + q * 2 ^ 8 + 1) s
      else modHalo slot (fun h => let h := homePass ch h; if r = 1 then sparePass m h else h) s

/-- MODE 2 takes effect: the spare fills the sample word, event 0x2021 (07 R244, R245). -/
def haloSubst (slot : Fin 8) (x : Fin 2) (s : State) : State :=
  let e := s.meas[slot].halo.slots[x]
  let s := modHalo slot (fun h =>
    let h := modSlot x (fun e => { mod := e.mod, ch := e.ch, mode := 2, kind := .subst, judge := none }) h
    modMod e.ch (fun m => { m with serves := 31, passes := 0 }) (modMod e.mod (fun m => { m with st := .inService, serves := e.ch, fails := 0 }) h)) s
  haloSuspend slot (raise 0x2021 2 (chanPt slot.val e.ch) (e.ch * 2 ^ 24 + e.mod * 2 ^ 16 + e.ch * 2 ^ 8) s)

/-- The hold of a parallel slot ends and its spare returns to the rotation plan (07 R240, R244). -/
def holdDone (slot : Fin 8) (x : Fin 2) (s : State) : State :=
  modHalo slot (fun h => placeSlot (s.clk.bndTot + 1) true x (modSlot x (fun _ => {}) h)) s

/-- HALO_CONFIRM_HOLD_END: the hold cycle ends; the confirmation is judged and substitutes, charges the first spare or is
repeated (07 R244, R251). `clean`: every tick of the hold cycle brought a VALID conversion from the spare without OVR. -/
def doHaloConfirmHoldEnd (slot : Fin 8) (x : Fin 2) (c : HaloCmp) (clean : Bool) (s : State) : State :=
    let h := s.meas[slot].halo
    let e := h.slots[x]
    if e.kind ≠ .confirm || !e.hold then s
    else if e.swapDue then
      if clean then haloSubst slot x s
      else if 8 ≤ e.holdRep then holdDone slot x s
      else modHalo slot (modSlot x fun e => { e with holdRep := e.holdRep + 1 }) s
    else
      let (r, q) := haloResult c
      let s := modHalo slot (fun h => noteCmp e.ch e.mod c (windowEnd s h) h) s
      if r = 4 then holdDone slot x (modHalo slot (fun h => { h with confirm := h.confirm ++ [(e.ch, e.failer)] }) s)
      else if r = 3 then
        let s := modHalo slot (modMod e.ch fun y => { y with st := .retired, fails := 2, passes := 0 }) s
        let s := raise 0x2020 2 (chanPt slot.val e.ch) (e.ch * 2 ^ 24 + e.mod * 2 ^ 16 + q * 2 ^ 8 + 2) s
        if clean then haloSubst slot x s
        else modHalo slot (modSlot x fun e => { e with swapDue := true, holdRep := 1 }) s
      else
        let s := modHalo slot (fun h => let h := homePass e.ch h; if r = 1 then sparePass e.mod h else h) s
        let s := if e.failer ≠ e.mod then chargeSpare slot e.failer e.ch s else s
        holdDone slot x s

/-- HALO_RETURN: after three consecutive re-test passes the channel returns: MODE 1 for one cycle, with event 0x2022
(07 R246). -/
def doHaloReturn (slot : Fin 8) (x : Fin 2) (s : State) : State :=
    let e := s.meas[slot].halo.slots[x]
    if e.kind ≠ .subst || (haloMod s.meas[slot].halo e.ch).passes < 3 then s
    else
      let s := modHalo slot (fun h =>
        let h := modMod e.ch (fun m => { m with st := .inService, serves := e.ch, fails := 0, passes := 0 }) h
        modSlot x (fun e => { mod := e.mod, ch := e.ch, mode := 1, kind := .idle, windowAt := s.clk.bndTot + 1 }) h) s
      raise 0x2022 2 (chanPt slot.val e.ch) (e.ch * 2 ^ 24 + e.ch * 2 ^ 16 + e.mod * 2 ^ 8) s

/-- What the halo does at a cycle boundary: a window opens (UNDER_TEST), and a return reaches MODE 0 (07 Table 7.3, R246). -/
def haloBoundary (s : State) : State :=
  (finList 8).foldl (fun s (slot : Fin 8) =>
    let go := fun (x : Fin 2) (s : State) =>
      let e := s.meas[slot].halo.slots[x]
      if e.kind = .idle && e.mode = 1 && e.windowAt ≤ s.clk.bndTot then
        modHalo slot (fun h => modMod e.mod (fun m => { m with st := .spare, serves := 31 }) (modSlot x (fun _ => {}) h)) s
      else if e.kind = .step && e.windowAt = s.clk.bndTot then
        modHalo slot (modMod e.ch fun m => if m.st = .inService then { m with st := .underTest } else m) s
      else s
    go 1 (go 0 s)) s

end Sys2Proof.Machine
end

