-- ==== Sys2Proof/Machine/Tunnel.lean ====
section
/-! DEFINITION. The hub's use of the tunnel: segments, descriptors, the transmit count of a point, its logical network, and the
pipe rotation of a head (06 R204, R211; 11 R375 to R387, R397, R399, R400). -/

namespace Sys2Proof.Machine

/-- A segment: its header word (06 Table 6.7), then its bytes in whole words. -/
def segment (p kind : Nat) (som eom : Bool) (bs : List Nat) : List W32 :=
  BitVec.ofNat 32 (p * 2 ^ 30 + b2n som * 2 ^ 29 + b2n eom * 2 ^ 28 + kind * 2 ^ 26 + bs.length)
    :: (List.range ((bs.length + 3) / 4)).map fun j => BitVec.ofNat 32 (natLE ((bs.drop (4 * j)).take 4))

/-- A message in segments of at most 1 020 bytes (06 R204); `fuel` segments at most. -/
def segments (p kind : Nat) : (fuel : Nat) → (som : Bool) → List Nat → List W32
  | 0, _, _ => []
  | n + 1, som, bs =>
    if bs.length ≤ 1020 then segment p kind som true bs
    else segment p kind som false (bs.take 1020) ++ segments p kind n false (bs.drop 1020)

/-- Queue a message for the tunnel of a point; none while the port does not run or the mains-loss signal is up (11 R400). -/
def tunnelMsg (i : Fin 32) (kind : Nat) (bytes : List Nat) (s : State) : State :=
  if s.sen.mlSig || !portRuns s.ports[slotOf i] then s
  else s.modPort (slotOf i) fun p => { p with txQueue := p.txQueue ++ segments (posOf i).val kind 4 true bytes }

/-- Descriptors of 11 Table 11.3, hub to head. -/
def txMpduDesc (tick tag retry cap : Nat) (sched : Bool) (mode : Nat) : Nat :=
  tick % 65536 * 2 ^ 48 + tag % 256 * 2 ^ 40 + retry * 2 ^ 37 + cap * 2 ^ 35 + b2n sched * 2 ^ 34 + mode * 2 ^ 32 + 1
def rxControlDesc (action pipe : Nat) : Nat := action * 2 ^ 40 + pipe * 2 ^ 32 + 3
def netDesc (tei snid : Nat) (valid : Bool) : Nat := tei * 2 ^ 40 + snid * 2 ^ 36 + b2n valid * 2 ^ 35 + 4

/-- Send RX_CONTROL in the tunnel of a point. -/
def rxControl (i : Fin 32) (action pipe : Nat) (s : State) : State := tunnelMsg i 0 (bytesLE 8 (rxControlDesc action pipe)) s

/-- Send an MPDU, or hold it while the point has eight on their way (11 R380). -/
def sendMpdu (i : Fin 32) (desc : Nat) (body : List Nat) (s : State) : State :=
  let x := s.plc[i]
  if s.sen.mlSig || !portRuns s.ports[slotOf i] then s
  else if x.txCount < 8 && x.held.isEmpty then
    (tunnelMsg i 0 (bytesLE 8 desc ++ body) s).modPlc i fun x => { x with txCount := x.txCount + 1 }
  else s.modPlc i fun x => { x with held := x.held ++ [{ desc, body := body.map (BitVec.ofNat 8) }] }

/-- Send the MPDUs of one message of SLAC or of a session (log entry 26). -/
def sendMessage (i : Fin 32) (code : Nat) (fields : List Nat) (s : State) : State :=
  (Config.hpgpFrames code fields).foldl (fun s b => sendMpdu i (txMpduDesc 0 code 7 3 false 0) b s) s

/-- A held MPDU goes out once the count allows (11 R380). -/
def sendHeld (i : Fin 32) (s : State) : State :=
  match s.plc[i].held with
  | [] => s
  | m :: ms =>
    if s.plc[i].txCount < 8 then
      sendMpdu i m.desc (m.body.map BitVec.toNat) (s.modPlc i fun x => { x with held := [] }) |>.modPlc i fun x => { x with held := ms }
    else s

/-- The point leaves its logical network: NET VALID 0, keys discarded (11 R375, R389). -/
def netClear (i : Fin 32) (s : State) : State :=
  let s := if s.plc[i].netValid then tunnelMsg i 0 (bytesLE 8 (netDesc 1 s.plc[i].snid false)) s else s
  s.modPlc i fun x => { x with nmk := 0, nek := 0, netValid := false, joinTei := 0, beacons := 0, held := [] }

/-- SLAC is IDLE: the point left the session states, or its head is lost or SLOW (11 Table 11.6, R397). -/
def slacIdle (i : Fin 32) (s : State) : State :=
  (netClear i s).modPlc i fun x =>
    { x with slac := .idle, runId := 0, mac := 0, sounds := [], startSeen := 0, sends := 0, attenInd := [], failures := 0, slacMsgs := [] }

/-! Receive pipes (11 R383 to R387). -/

/-- Change one pipe. -/
def modPipe (slot : Fin 8) (p : Fin 5) (f : Pipe → Pipe) (s : State) : State :=
  s.modPipes slot fun x => { x with pipes := x.pipes.set p (f x.pipes[p]) }

/-- A pipe by number. -/
def pipeOf (s : State) (slot : Fin 8) (p : Nat) : Pipe := s.pipes[slot].pipes.toList.getD p {}

/-- Pipe 4 is SPARE and serves no point. -/
def spareReady (s : State) (slot : Fin 8) : Bool :=
  (pipeOf s slot 4).st == .spare && s.pipes[slot].spareFor == 7 && s.pipes[slot].swapDue == 7 && !s.pipes[slot].returnDue

/-- Event of a pipe: source SES, 4 x slot (11 R398). -/
def pipeEvent (slot : Fin 8) (code arg : Nat) (s : State) : State := raise code 4 (4 * slot.val) arg s

/-- A home pipe fails: pipe 4 takes the point at the next boundary, or the point has no working pipe and loses ISO 15118 from the
next plug-in (11 R386, R387). -/
def pipeLost (slot : Fin 8) (p : Fin 4) (s : State) : State :=
  let ready := spareReady s slot
  let s := modPipe slot ⟨p.val, by omega⟩ (fun x => { x with st := .suspect }) s
  if ready then
    pipeEvent slot 0x9040 (p.val * 2 ^ 24 + p.val * 2 ^ 16) (s.modPipes slot fun x => { x with swapDue := p.val })
  else pipeEvent slot 0x9044 (p.val * 2 ^ 24) (s.modPlc (ptIdx slot p) fun x => { x with noHlc := true })

/-- What a usable status block says of the pipes (word s19): PIPE_OK of a pipe in service clears, or the SWAP of a step is done and
TEST follows (11 R383, R386). -/
def pipeStatus (slot : Fin 8) (s : State) : State :=
  if !s.pipes[slot].on then s
  else
    let w := sWord s slot 19
    let s := (finList 4).foldl (fun s (p : Fin 4) =>
      if !bitOf w (27 + p.val) && (pipeOf s slot p.val).st = .inService then pipeLost slot p s else s) s
    let x := s.pipes[slot]
    match fin? 4 x.stepPipe with
    | some p =>
      if !x.testSent && bits w 26 24 = p.val && (pipeOf s slot p.val).st = .inService then
        rxControl (ptIdx slot p) 3 p.val
          ((modPipe slot ⟨p.val, by omega⟩ (fun y => { y with st := .underTest }) s).modPipes slot fun x => { x with testSent := true })
      else s
    | none => s

/-- Admission: the stored pipe states of the serial or fresh ones, then the built-in filter, no network, and a SWAP for the first
home pipe stored as SUSPECT or RETIRED (11 R371, R399). -/
def pipesAdmit (slot : Fin 8) (serial : Nat) (s : State) : State :=
  let s := if s.pipes[slot].serial = some serial then s else s.modPipes slot fun _ => { serial := some serial }
  let s := s.modPipes slot fun x =>
    { x with on := true, idx := 0, spareFor := 7, stepPipe := 7, testSent := false, returnDue := false, swapDue := 7 }
  let s := s.modPort slot fun p => { p with txQueue := [] }
  let s := (headPts slot).foldl (fun s (i : Fin 32) =>
    let s := s.modPlc i fun x => { x with slac := .idle, txCount := 0, held := [], rx := [], netValid := false, nmk := 0, nek := 0 }
    let codes := (List.range 1155).map fun c => if Config.toneMask (74 + c) then 1 else 0
    let s := tunnelMsg i 0 (bytesLE 8 (74 * 2 ^ 48 + 1155 * 2 ^ 32 + 2) ++ codes) s
    tunnelMsg i 0 (bytesLE 8 (netDesc 1 0 false)) s) s
  (finList 4).foldl (fun s (p : Fin 4) =>
    let st := (pipeOf s slot p.val).st
    if st = .suspect || st = .retired then
      if (pipeOf s slot 4).st = .spare && s.pipes[slot].spareFor = 7 then
        rxControl (ptIdx slot p) 1 0 (s.modPipes slot fun x => { x with spareFor := p.val })
      else pipeEvent slot 0x9044 (p.val * 2 ^ 24) (s.modPlc (ptIdx slot p) fun x => { x with noHlc := true })
    else s.modPlc (ptIdx slot p) fun x => { x with noHlc := false }) s

/-- What the pipe rotation does at a cycle boundary: a RETURN or a SWAP that is due (11 R383, R386); runs of receive drops end
after 160 cy (11 Table 11.7). -/
def pipeBoundary (s : State) : State :=
  let s := (finList 8).foldl (fun s (slot : Fin 8) =>
    let x := s.pipes[slot]
    let s := match x.returnDue, fin? 4 x.spareFor with
      | true, some p => rxControl (ptIdx slot p) 2 0 (s.modPipes slot fun x => { x with returnDue := false, spareFor := 7 })
      | _, _ => s
    match fin? 4 s.pipes[slot].swapDue with
    | some p =>
      if s.pipes[slot].spareFor = 7 then
        rxControl (ptIdx slot p) 1 0 (s.modPipes slot fun x => { x with swapDue := 7, spareFor := p.val })
      else s
    | none => s) s
  (finList 32).foldl (fun s (i : Fin 32) =>
    match s.plc[i].dropQuiet with
    | some n => s.modPlc i fun x => { x with dropQuiet := if 160 ≤ n + 1 then none else some (n + 1) }
    | none => s) s

end Sys2Proof.Machine
end

