-- ==== Sys2Proof/Machine/PointLink.lean ====
section
/-! DEFINITION. The hub's side of the point link: classification of upstream frames, missing ticks, port states, pairing and
the check steps (spec/06). -/

namespace Sys2Proof.Machine

/-- HEAD record fields of a slot (06 Table 6.1). -/
def headSerial (s : State) (slot : Nat) : Nat := cfg s 0x30 slot 0 127 64
def tunWords (s : State) (slot : Nat) : Nat := cfg s 0x30 slot 0 63 56
def lCfg (s : State) (slot : Nat) : Nat := 57 + tunWords s slot
def lenMax (s : State) : Nat := if s.clk.fnom = 60 then 312 else 296

/-- Word j of a frame. -/
def fw (ws : List W32) (j : Nat) : Nat := (ws.getD j 0).toNat

/-- The bytes of 32-bit words, lowest byte first. -/
def w32Bytes (ws : List W32) : List Nat := (ws.map fun w => bytesLE 4 w.toNat).flatten

/-- The CRC word of a frame verifies over words 1 to LEN - 2 (06 R196). -/
def crcGood (ws : List W32) : Bool :=
  decide (3 ≤ ws.length) && crc32 (w32Bytes ((ws.drop 1).take (ws.length - 2))) == fw ws (ws.length - 1)

/-- Fields of the upstream header (06 Table 6.4). -/
def upTick (ws : List W32) : Nat := bits (fw ws 1) 31 16
def upTag (ws : List W32) : Nat := bits (fw ws 1) 15 0
def upType (ws : List W32) : Nat := bits (fw ws 2) 28 25
def upLen (ws : List W32) : Nat := bits (fw ws 2) 24 16
/-- STEP of an UNPAIRED or PAIR frame, in sample word 0 (06 Table 6.8). -/
def upStep (ws : List W32) : Nat := bits (fw ws 3) 31 24
/-- Four words from word j as one value, first word lowest. -/
def fw128 (ws : List W32) (j : Nat) : Nat :=
  fw ws j + fw ws (j + 1) * 2 ^ 32 + fw ws (j + 2) * 2 ^ 64 + fw ws (j + 3) * 2 ^ 96

/-- Index (since the first boundary) of the cycle in which tick k starts (02 R63). -/
def tickCycle (s : State) (k : Nat) : Nat := ((k : Rat) * tickCy s).floor.toNat

/-- Count of the cycle with an index. -/
def cycCount (s : State) (n : Nat) : Nat :=
  if s.clk.bndTot ≤ n + 1 then s.clk.count + (n + 1 - s.clk.bndTot)
  else match s.clk.lens[s.clk.bndTot - 2 - n]? with
    | some e => e.1
    | none => 0

/-- Length of the cycle with an index, µs. -/
def cycLen (s : State) (n : Nat) : Rat :=
  if s.clk.bndTot ≤ n + 1 then s.clk.lenCur
  else match s.clk.lens[s.clk.bndTot - 2 - n]? with
    | some e => e.2
    | none => s.clk.base

/-- Duration of tick k: its parts in the cycles that it touches (02 R63). -/
def tickUs (s : State) (k : Nat) : Rat :=
  let n := tickCycle s k
  weight (tickCy s) k n * cycLen s n + weight (tickCy s) k (n + 1) * cycLen s (n + 1)

/-- Power of samples, W. -/
def powerW (i u : List Rat) : Rat := sumRat ((List.range 3).map fun x => at3 i x * at3 u x) / (10 ^ 12 : Nat)

/-- Energy of a power over a time, µWh. -/
def wUs (w us : Rat) : Rat := w * us / 3600

/-! Ticks of a point (06 R217, 07 R234, 08 R270, R271). -/

/-- The flags of the point that a tick carries along. -/
def tickBase (s : State) (i : Fin 32) (k : Nat) : MTick :=
  let slot := slotOf i
  let cs := (List.range 6).map fun j => 6 * (posOf i).val + j
  let m := s.meas[slot]
  { tk := k, closed := ctrClosed s i, cmdOn := lsOn s i
    f := [24, 25, 26, 27].map fun c => (m.chans.toList.getD c {}).val
    sf := cs.any fun c => (m.chans.toList.getD c {}).sfault
    sub := cs.any fun c => (substOf m.halo c).isSome }

/-- A usable tick of a point: an open gap closes with its estimate. Answers the gap ticks closed. -/
def pointTick (i : Fin 32) (k : Nat) (cur vol : List Rat) (ovr : Bool) (s : State) : State × Option Nat :=
  let x := s.pmet[i]
  let (est, n) := match x.gap with
    | some (n, before, us) => (wUs ((before + powerW cur vol) / 2) us, some n)
    | none => (0, none)
  let t := { tickBase s i k with i := cur, u := vol, ovr, est }
  (s.modPmet i fun x => { x with buf := x.buf ++ [t], missRun := 0, gap := none, lastI := cur, lastU := vol }, n)

/-- A missing tick of a point: the 1st to the 4th is bridged, the 5th opens a gap. Answers 1 bridged, 2 gap opened, 3 gap. -/
def pointMiss (i : Fin 32) (k : Nat) (s : State) : State × Nat :=
  let x := s.pmet[i]
  let n := x.missRun + 1
  let t := { tickBase s i k with i := x.lastI, u := x.lastU, kind := if n ≤ 4 then .bridged else .gap }
  let us := tickUs s k
  let gap := if n ≤ 4 then none
    else match x.gap with
      | some (m, w, d) => some (m + 1, w, d + us)
      | none => some (1, powerW x.lastI x.lastU, us)
  (s.modPmet i fun x => { x with buf := x.buf ++ [t], missRun := n, gap }, if n ≤ 4 then 1 else if n = 5 then 2 else 3)

/-- Whether a point of a head is metered. -/
def metered (s : State) (i : Fin 32) : Bool := s.pmet[i].on && hasPoint s i.val

/-- Counts and events of a tick on a head: bridged, gap, gap opened (event 0x3016), gaps closed (event 0x3017, once for each
length) (06 R217, R221; log entry 22). -/
def tickEvents (slot : Fin 8) (k : Nat) (kinds closedGaps : List Nat) (s : State) : State :=
  let br := kinds.contains 1
  let op := kinds.contains 2
  let gp := op || kinds.contains 3
  let s := s.modPort slot fun p =>
    { p with bridged := if br then inc32 p.bridged else p.bridged, gapTicks := if gp then inc32 p.gapTicks else p.gapTicks
             gaps := if op then inc32 p.gaps else p.gaps }
  let s := raiseIf op 0x3016 1 (4 * slot.val) (k % 65536) s
  (closedGaps.foldl (fun l n => insertAsc n l) []).foldl (fun s n => raise 0x3017 1 (4 * slot.val) (min n (2 ^ 32 - 1)) s) s

/-- Process the points of a slot for tick k: `usable i` gives currents, voltages and overrange of a usable point. -/
def headTick (slot : Fin 8) (k : Nat) (usable : Fin 32 → Option (List Rat × List Rat × Bool)) (s : State) : State :=
  let r := (headPts slot).foldl (fun (a : State × List Nat × List Nat) (i : Fin 32) =>
    let (s, kinds, gs) := a
    if !metered s i then a
    else
      match usable i with
      | some (cur, vol, ovr) =>
        let (s, n) := pointTick i k cur vol ovr s
        (s, kinds, match n with | some n => n :: gs | none => gs)
      | none =>
        let (s, m) := pointMiss i k s
        (s, m :: kinds, gs)) (s, [], [])
  tickEvents slot k r.2.1 r.2.2 r.1

/-- Tamper records that SEN keeps while POWERED (21 R722). -/
def tamperRemoval (slot : Fin 8) (s : State) : State :=
  if s.sen.st ≠ .powered then s
  else s.modTamper fun t => { t with headRem := t.headRem.set slot (t.headRem[slot].hit (stampOf s)) }
def tamperSlotChange (slot : Fin 8) (s : State) : State :=
  if s.sen.st ≠ .powered then s
  else s.modTamper fun t => { t with slotChg := t.slotChg.set slot (t.slotChg[slot].hit (stampOf s)) }

/-- A gap open at a loss closes with the power after it taken as 0 W (06 R217, 08 R283). -/
def lossGap (i : Fin 32) (s : State) : State × Option Nat :=
  match s.pmet[i].gap with
  | some (n, before, us) => (s.modPmet i fun x => { x with gap := none, est := x.est + wUs (before / 2) us }, some n)
  | none => (s, none)

/-- HEAD_LOST (06 R216): tokens withdrawn, sessions end with reason "head lost", head removal to SEN, event 0x3013. -/
def headLost (slot : Fin 8) (reason : Nat) (s : State) : State :=
  let r := (headPts slot).foldl (fun (a : State × List Nat) (i : Fin 32) =>
    let (s, n) := lossGap i a.1
    let s := (slacIdle i (endSes i 6 (withdraw i s))).modPmet i fun x => { x with on := false, missRun := 0, lastI := [], lastU := [] }
    let s := if s.psafe[i].st = .opened || s.psafe[i].st = .lockedOut then s else toSafeSt i .opened s
    (s, match n with | some n => n :: a.2 | none => a.2)) (s, [])
  let s := tickEvents slot 0 [] r.2 r.1
  let s := haloDrop slot s
  let s := modHaloOff slot s
  let s := s.modPort slot fun p =>
    { p with st := .dark, tokensOff := true, lossPending := true, losses := inc32 p.losses, annRun := 0, checkStep := 0, pairStep := 0
             stat := [], lastTick := none, missRun := 0, usableRun := 0, statMiss := 0, silence := 0, slowDone := false, lenRun := false }
  let s := s.modPipes slot fun p => { p with on := false }
  raise 0x3013 1 (4 * slot.val) reason (tamperRemoval slot s)
where modHaloOff (slot : Fin 8) (s : State) : State := modHalo slot (fun h => { h with on := false }) s

/-- A whole missing sample tick of an admitted head (06 R215, R217, Table 6.9). -/
def headMiss (slot : Fin 8) (k : Nat) (s : State) : State :=
  if !portRuns s.ports[slot] then s
  else
    let s := s.modMeas slot fun m =>
      { m with chans := ⟨((List.range 28).map fun c => chanMiss s slot c (m.chans.toList.getD c {})).toArray, by simp⟩ }
    let s := headTick slot k (fun _ => none) s
    let n := s.ports[slot].missRun + 1
    let s := s.modPort slot fun p => { p with missRun := n, usableRun := 0 }
    if n = 64 && s.ports[slot].st = .admitted then
      let s := s.modPort slot fun p => { p with st := .slow, slows := inc32 p.slows, slowBnd := 0, slowDone := false }
      let s := (headPts slot).foldl (fun s (i : Fin 32) => slacIdle i (endSes i 6 s)) s
      haloDrop slot (raise 0x3011 1 (4 * slot.val) (k % 65536) s)
    else s

/-- A usable status block (06 R199, R215): the pilot, proximity, temperature and residual-current readings follow it; the stop for
missing blocks ends; a rise of FS_COUNT writes event 0x301B (06 R219). -/
def takeStatus (slot : Fin 8) (st : List W32) (s : State) : State :=
  let old := s.ports[slot].stat
  let fs := bits (fw st 22) 15 0
  let rise := !old.isEmpty && portRuns s.ports[slot] && decide (bits (fw old 22) 15 0 < fs)
  let s := s.modPort slot fun p => { p with stat := st, statMiss := 0 }
  let s := (headPts slot).foldl (fun s (i : Fin 32) =>
    let p := (posOf i).val
    let t0 := stPt s slot (2 * p)
    let t1 := stPt s slot (2 * p + 1)
    let use0 := ptFitted s slot (2 * p) && t0 != 0x8000 && t0 != 0x7FFF
    let use1 := ptFitted s slot (2 * p + 1) && t1 != 0x8000 && t1 != 0x7FFF
    let inj := bitOf (fw st 18) (4 + p)
    let s := s.modCp i fun x => { x with cpHi := stCpHi s i, cpLo := stCpLo s i, pp := stPp s i }
    let s := s.modPsafe i fun x =>
      { x with idc := stIdc s i, iac := stIac s i
               idcTest := if inj then (stIdc s i :: x.idcTest).take 16 else x.idcTest
               tSum0 := if use0 then x.tSum0 + ofTwos 16 t0 else x.tSum0, tN0 := if use0 then x.tN0 + 1 else x.tN0
               tSum1 := if use1 then x.tSum1 + ofTwos 16 t1 else x.tSum1, tN1 := if use1 then x.tN1 + 1 else x.tN1 }
    if s.psafe[i].statMiss then unstop i (s.modPsafe i fun x => { x with statMiss := false }) else s) s
  let s := if portRuns s.ports[slot] then pipeStatus slot s else s
  raiseIf rise 0x301B 1 (4 * slot.val) fs s

/-- The sample block of tick k of a head that runs: flags of every channel, processed values, then the ticks of its points. -/
def takeSamples (slot : Fin 8) (k : Nat) (blk : List W32) (echo : Nat) (s : State) : State :=
  let word := fun (c : Nat) => blk.getD c 0
  let s := (finList 28).foldl (fun s (c : Fin 28) => chanFlags slot c (word c.val) echo s) s
  let s := (finList 28).foldl (fun s (c : Fin 28) =>
    if chanUsable s slot c.val (word c.val) echo then modChan slot c (chanPush s slot c.val (chanInput s slot.val c.val (word c.val))) s
    else modChan slot c (fun x =>
      let y := chanMiss s slot c.val x
      { y with sfTicks := x.sfTicks, ovrQuiet := x.ovrQuiet, srcQuiet := x.srcQuiet }) s) s
  let val := fun (c : Nat) => (s.meas[slot].chans.toList.getD c {}).val
  let s := headTick slot k (fun i =>
    let b := 6 * (posOf i).val
    if (List.range 6).all fun j => chanUsable s slot (b + j) (word (b + j)) echo then
      some ([val b, val (b + 1), val (b + 2)], [val (b + 3), val (b + 4), val (b + 5)], (List.range 6).any fun j => cwOvr (word (b + j)))
    else none) s
  s.modPort slot fun p =>
    let n := p.usableRun + 1
    { p with missRun := 0, usableRun := n, slowDone := p.slowDone || (p.st == .slow && decide (160 ≤ n)) }

/-- Event 0x6132: pairing failed at a step of 04 R145; the port becomes FAILED (06 Table 6.9). -/
def pairFail (slot : Fin 8) (step : Nat) (s : State) : State :=
  raise 0x6132 1 (4 * slot.val) (slot.val * 2 ^ 24 + step * 2 ^ 16) (s.modPort slot fun p => { p with st := .failed, pairStep := 0 })

/-- The imported pairing key of a head, if its slot is loaded (04 R145, R154). -/
def pairKey (s : State) (serial : Nat) : Option Nat :=
  (s.keys.slots.toList.find? fun k => k.role == 9 && k.bindSer == serial && k.status == .loaded).map (·.secret)

/-- Serial and slot as bytes, most significant first (04 R145). -/
def ser8 (n : Nat) : List Nat := bytesBE 8 n

/-- CMAC of step 2: 0x01, N_h, N_d, head serial, head slot (04 R145). -/
def pairMac2 (key nh nd serial slot : Nat) : Nat :=
  Config.cmac key ([1] ++ bytesLE 16 nh ++ bytesLE 16 nd ++ ser8 serial ++ [slot]) % 2 ^ 128

/-- CMAC of step 3: 0x02, N_d, N_h, hub serial (04 R145). -/
def pairMac3 (key nh nd hub : Nat) : Nat :=
  Config.cmac key ([2] ++ bytesLE 16 nd ++ bytesLE 16 nh ++ ser8 hub) % 2 ^ 128

/-- PORT_ANNOUNCE: eight consecutive announcing frames with HEAD_SERIAL start pairing; with another serial they write event 0x3018
once per serial and count a slot-change tamper (06 Table 6.9). -/
def announce (slot : Fin 8) (serial : Nat) (s : State) : State :=
  let p := s.ports[slot]
  let n := if serial = p.annSerial then p.annRun + 1 else 1
  let s := s.modPort slot fun p => { p with annRun := n, annSerial := serial }
  if n < 8 then s
  else if serial = headSerial s slot.val then
    if !drbgOk s then pairFail slot 1 s
    else
      let (nh, s) := drbgDraw 128 s
      s.modPort slot fun p => { p with st := .pairing, pairStep := 1, nonceH := nh, annRun := 0, silence := 0 }
  else if p.unknown.contains serial then s
  else tamperSlotChange slot (raise 0x3018 1 (4 * slot.val) (serial % 2 ^ 32) (s.modPort slot fun p => { p with unknown := insertAsc serial p.unknown }))

/-- An upstream frame in PAIRING (04 R145, 06 Table 6.8). -/
def pairFrame (slot : Fin 8) (ws : List W32) (s : State) : State :=
  let p := s.ports[slot]
  match pairKey s (headSerial s slot.val) with
  | none => pairFail slot 1 s
  | some key =>
    if upType ws = 1 && upStep ws = 2 && p.pairStep = 1 then
      let nd := fw128 ws 6
      if fw128 ws 10 = pairMac2 key p.nonceH nd (headSerial s slot.val) slot.val then
        s.modPort slot fun p => { p with pairStep := 3, nonceD := nd, confirm := pairMac3 key p.nonceH nd s.life.serial }
      else pairFail slot 3 s
    else if upStep ws = 4 && p.pairStep = 3 then
      let s := s.modPort slot fun p => { p with st := .testing, pairStep := 0, checkStep := 1, checkTk := 0, stat := [], silence := 0 }
      haloAdopt slot (headSerial s slot.val) s
    else if upStep ws = 0xEE && p.pairStep = 3 then pairFail slot 3 s
    else s

/-- The self-test of TESTING: a pass begins CHECK_STEP 2, a fail writes event 0x3019 (06 Table 6.9, R220). -/
def selfTest (slot : Fin 8) (s : State) : State :=
  let w := sWord s slot 20
  if s.ports[slot].checkStep ≠ 1 then s
  else if bits w 31 24 = 1 then s.modPort slot fun p => { p with checkStep := 2, checkTk := 0 }
  else if bits w 31 24 = 2 then raise 0x3019 (0x20 + slot.val) (4 * slot.val) (bits w 23 16) (s.modPort slot fun p => { p with st := .failed, checkStep := 0 })
  else s

/-- A CRC or framing error, and a sequence error (06 R220, R221). -/
def crcError (slot : Fin 8) (s : State) : State := s.modPort slot fun p => { p with crcErr := inc32 p.crcErr, crcCy := inc16 p.crcCy }
def seqError (slot : Fin 8) (s : State) : State := s.modPort slot fun p => { p with seqErr := inc32 p.seqErr, seqCy := inc16 p.seqCy }

/-- A length error: event 0x3014 at the first of a run (06 Table 6.11). -/
def lenError (slot : Fin 8) (len : Nat) (s : State) : State :=
  let first := !s.ports[slot].lenRun
  let s := s.modPort slot fun p => { p with lenErr := inc32 p.lenErr, lenRun := true }
  raiseIf first 0x3014 1 (4 * slot.val) (len * 65536 + lCfg s slot.val) s

/-- TICK and CTAG are those expected of tick k, and tick k has not been judged (06 R215, 02 R61, R62). -/
def seqOk (s : State) (slot : Fin 8) (k : Nat) (ws : List W32) : Bool :=
  upTick ws == k % 65536 && resolveTag (upTag ws) s.clk.count == some (cycCount s (tickCycle s k))
    && (match s.ports[slot].lastTick with
      | some l => decide (l < k)
      | none => true)

/-- Blocks of a frame with good CRC and the expected sequence (06 Table 6.10). -/
def takeFrame (slot : Fin 8) (k : Nat) (ws : List W32) (s : State) : State :=
  let len := ws.length
  let tun := tunWords s slot.val
  let at_ := len - 26 - tun
  let st := (ws.drop at_).take 24
  let s := s.modPort slot fun p => { p with lastTick := some k }
  if len = lCfg s slot.val then
    let s := takeStatus slot st (s.modPort slot fun p => { p with lenRun := false })
    let s := if s.ports[slot].st = .testing then selfTest slot s else s
    if portRuns s.ports[slot] then takeSamples slot k ((ws.drop 3).take 28) (fw st 18) s else s
  else
    let s := lenError slot len s
    let inside := decide (29 + tun ≤ len) && decide (len ≤ lenMax s)
    let s := if inside then takeStatus slot st s else s.modPort slot fun p => { p with statMiss := p.statMiss + 1 }
    let s := if inside && s.ports[slot].st = .testing then selfTest slot s else s
    headMiss slot k s

/-- UPSTREAM_FRAME: classified for the tick sampled two tick starts ago (06 R198, R207, R215). `ws`: words 0 to LEN - 1 as received;
`framed`: the code groups that frame them are good and the frame is in time. -/
def execUpstreamFrame (slot : Fin 8) (ws : List W32) (framed : Bool) (s : State) : Host.Outcome State Fault Refusal :=
  .next <|
    if !s.clk.started || !hasHead s slot.val || s.clk.tickTot < 2 || s.met.closedOut then s
    else if !framed || !crcGood ws || upLen ws ≠ ws.length then crcError slot s
    else
      let k := s.clk.tickTot - 2
      let s := s.modPort slot fun p => { p with silence := 0 }
      let ann := upType ws = 3 && upStep ws = 0
      let serial := fw ws 4 + fw ws 5 * 2 ^ 32
      match s.ports[slot].st with
      | .dark => if ann then announce slot serial s else s.modPort slot fun p => { p with annRun := 0 }
      | .failed => s
      | .pairing => pairFrame slot ws s
      | st =>
        if upType ws = 3 then
          if st = .admitted || st = .slow then headLost slot (if ann && serial ≠ headSerial s slot.val then 4 else 2) s else s
        else if seqOk s slot k ws then takeFrame slot k ws s
        else seqError slot s

/-- UPSTREAM_DEADLINE: the start of tick k + 2 passed without a usable frame for tick k (06 R198, R215, R217). -/
def execUpstreamDeadline (slot : Fin 8) (s : State) : Host.Outcome State Fault Refusal :=
  .next <|
    if !s.clk.started || !hasHead s slot.val || s.clk.tickTot < 3 || s.met.closedOut then s
    else
      let k := s.clk.tickTot - 3
      let judged := match s.ports[slot].lastTick with | some l => decide (k ≤ l) | none => false
      let st := s.ports[slot].st
      if judged || st = .dark || st = .failed then s
      else headMiss slot k (s.modPort slot fun p => { p with lastTick := some k, silence := p.silence + 1, statMiss := p.statMiss + 1 })

/-- SLOW_END: after 160 consecutive usable ticks, at the next cycle boundary (06 Table 6.9, 07 R253). -/
def doSlowEnd (slot : Fin 8) (s : State) : State :=
    let p := s.ports[slot]
    if p.st = .slow && p.slowDone then
      let s := raise 0x3012 1 (4 * slot.val) p.slowBnd (s.modPort slot fun p => { p with st := .admitted, slowDone := false })
      modHalo slot haloRestore s
    else s

/-- SLOW_TIMEOUT: in SLOW for more than 500 cy (06 R215). -/
def execSlowTimeout (slot : Fin 8) (s : State) : Host.Outcome State Fault Refusal :=
  .next <| if s.ports[slot].st = .slow && decide (500 < s.ports[slot].slowBnd) then headLost slot 3 s else s

/-- HEAD_SILENCE_LOSS: 256 consecutive ticks without a frame with good CRC (06 R207, R215). -/
def execHeadSilenceLoss (slot : Fin 8) (s : State) : Host.Outcome State Fault Refusal :=
  .next <|
    let p := s.ports[slot]
    if p.silence < 256 then s
    else if portRuns p then headLost slot 1 s
    else if p.st = .pairing || p.st = .testing || p.st = .ready then
      s.modPort slot fun p => { p with st := .dark, annRun := 0, pairStep := 0, checkStep := 0, silence := 0 }
    else s

/-- STATUS_MISSING_WITHDRAW: 16 consecutive ticks without a usable status block (06 R218, 09 R299). -/
def execStatusMissingWithdraw (slot : Fin 8) (s : State) : Host.Outcome State Fault Refusal :=
  .next <|
    if 16 ≤ s.ports[slot].statMiss && portRuns s.ports[slot] then stopHead slot (fun x => { x with statMiss := true }) s else s

/-- PAIRING_TIMEOUT: no answer within 16 tk (06 Table 6.9): step 2 to the challenge, step 3 to the confirm. -/
def execPairingTimeout (slot : Fin 8) (s : State) : Host.Outcome State Fault Refusal :=
  .next <| if s.ports[slot].st = .pairing then pairFail slot (if s.ports[slot].pairStep = 3 then 3 else 2) s else s

/-- HEAD_SELF_TEST_TIMEOUT: the self-test did not pass within 16 cy (06 Table 6.9). -/
def execHeadSelfTestTimeout (slot : Fin 8) (s : State) : Host.Outcome State Fault Refusal :=
  .next <|
    if s.ports[slot].st = .testing && s.ports[slot].checkStep = 1 then
      raise 0x3019 (0x20 + slot.val) (4 * slot.val) (bits (sWord s slot 20) 23 16) (s.modPort slot fun p => { p with st := .failed, checkStep := 0 })
    else s

/-- SAFE bits of a point (06 Table 6.5 s15): PERMIT, FAILSAFE, TOKEN_BAD. -/
def safeBit (s : State) (i : Fin 32) (b : Nat) : Bool := bitOf (sByte s i 15) b

/-- The report that a check step expects of every point (06 R208). -/
def checkReport (s : State) (slot : Fin 8) (step : Nat) : Bool :=
  (headPts slot).all fun i =>
    safeBit s i 7 == (step == 2) && safeBit s i 4 == (step != 2) && !lsOn s i && !lsFaultBit s i

/-- CHECK_STEP_END: a check step of 8 tk, or the silence of 20 tk, ends and both SSMs judge its report (06 R208, Table 6.9). -/
def execCheckStepEnd (slot : Fin 8) (s : State) : Host.Outcome State Fault Refusal :=
  .next <|
    let p := s.ports[slot]
    let bad := fun (a : Nat) => raise 0x301A 1 (4 * slot.val) a (s.modPort slot fun p => { p with st := .failed, checkStep := 0 })
    if p.st ≠ .testing || p.checkStep < 2 then s
    else if p.checkStep ≤ 4 then
      if p.checkTk < 8 then s
      else if checkReport s slot p.checkStep then
        s.modPort slot fun p => { p with checkStep := p.checkStep + 1, checkTk := 0, fsBefore := bits (sWord s slot 22) 15 0 }
      else bad p.checkStep
    else if p.checkTk < 20 then s
    else if (headPts slot).all (fun i => safeBit s i 5) && bits (sWord s slot 22) 15 0 = satAdd 16 p.fsBefore 1 then
      s.modPort slot fun p => { p with st := .ready, checkStep := 6 }
    else bad 5

/-- HEAD_ADMIT: a READY head is admitted; its points go out-of-service and metering begins (06 R207, R209, 08 R288, 10 R366). -/
def admitHead (slot : Fin 8) (s : State) : State :=
  if s.ports[slot].st ≠ .ready then s
  else
    let s := s.modPort slot fun p =>
      { p with st := .admitted, tokensOff := false, lossPending := false, admits := inc32 p.admits, admitCount := s.clk.count
               missRun := 0, usableRun := 0, statMiss := 0, slowBnd := 0, slowDone := false, checkStep := 0 }
    let s := raise 0x3010 1 (4 * slot.val) s.ports[slot].admits s
    let s := (headPts slot).foldl (fun s (i : Fin 32) =>
      if !hasPoint s i.val then s
      else
        let s := s.modPmet i fun x => { x with on := true, buf := [], missRun := 0, gap := none, lastI := [], lastU := [], lastOn := false }
        let s := (setPst i .outOfService s).modCp i fun x => { x with aRun := 0, outSince := s.clk.bndTot, cpMode := 0, ind := 0, cp := .unknown }
        raise 0x4102 4 i.val 2 s) s
    pipesAdmit slot (headSerial s slot.val) (haloAdmit slot s)

/-- PORT_RETRY: a FAILED port returns to DARK at the next epoch boundary (06 Table 6.9). -/
def portRetry (slot : Fin 8) (s : State) : State :=
  if s.ports[slot].st = .failed then s.modPort slot fun p => { p with st := .dark, annRun := 0, pairStep := 0 } else s

/-- What the ports do at a cycle boundary: event 0x3015 of a cycle with errors, boundaries spent in SLOW (06 R215, R220). -/
def portBoundary (s : State) : State :=
  (finList 8).foldl (fun s (slot : Fin 8) =>
    let p := s.ports[slot]
    let s := raiseIf (p.crcCy != 0 || p.seqCy != 0) 0x3015 1 (4 * slot.val) (p.crcCy * 65536 + p.seqCy) s
    s.modPort slot fun p => { p with crcCy := 0, seqCy := 0, slowBnd := if p.st = .slow then p.slowBnd + 1 else p.slowBnd }) s

end Sys2Proof.Machine
end

