-- ==== Sys2Proof/Machine/SesCore.lean ====
section
/-! DEFINITION. Session contexts: opening and closing, session ends, connections, strikes, handshake slots and responses
(spec/12 R412 to R415, R419, R422, R433, R436). -/

namespace Sys2Proof.Machine

/-- V2G record (12 Table 12.2). -/
def v2g (s : State) (w hi lo : Nat) : Nat := cfg s 0x70 0 w hi lo

/-- MAC address of a point: 0x02, the low 32 bits of the hub serial, the point index (11 R374). -/
def pointMac (s : State) (i : Fin 32) : Nat := 2 * 2 ^ 40 + s.life.serial % 2 ^ 32 * 256 + i.val

/-- The hub's IPv6 address at a point: fe80::/64 with the modified EUI-64 of the point's MAC address, 16 bytes (12 R406). -/
def hubAddr (s : State) (i : Fin 32) : List Nat :=
  let m := bytesBE 6 (pointMac s i)
  [0xFE, 0x80, 0, 0, 0, 0, 0, 0, (m.getD 0 0) ^^^ 2] ++ (m.drop 1).take 2 ++ [0xFF, 0xFE] ++ m.drop 3

/-- ISO 15118 is in use at a point: its context has a stage other than IDLE and BASIC (12 Table 12.4). -/
def hlcOn (s : State) (i : Fin 32) : Bool := s.ses[i].stage != .idle && s.ses[i].stage != .basic

/-- Points of the session states (10 Table 10.6). -/
def inSession (p : PState) : Bool := p == .connected || p == .authorised || p == .charging || p == .paused

/-- SES places a notice into the BIND inlet (01 R29). -/
def pushNotice (b : BindNotice) (s : State) : State := s.modGates fun g => { g with bindInlet := g.bindInlet ++ [b] }

/-- A start notice of a point that LED has not yet taken. -/
def startWaits (s : State) (i : Fin 32) : Option BindNotice :=
  s.gates.bindInlet.find? fun b => b.point == i.val && b.ending.isNone

/-- An end notice of a point waits in the inlet. -/
def endWaits (s : State) (i : Fin 32) : Bool := s.gates.bindInlet.any fun b => b.point == i.val && b.ending.isSome

/-- The point has an open binding (01 R29). -/
def bound (s : State) (i : Fin 32) : Bool :=
  match s.led.binds[i] with
  | some b => b.endReason.isNone
  | none => false

/-- SESSION_END: an open binding, or a start notice on its way, is ended by a notice with the reason; event 0x4302; the contactor
is asked to open (12 R414, 06 R214). -/
def sesEnd (i : Fin 32) (reason : Nat) (s : State) : State :=
  let x := s.ses[i]
  let notice : Option BindNotice :=
    if endWaits s i then none
    else match s.led.binds[i], startWaits s i with
      | some b, w =>
        if b.endReason.isNone then some { point := i.val, tenant := b.tenant, path := b.path, session := b.session, ending := some reason, placed := s.clk.count, proto := x.proto, emaid := x.emaid }
        else w.map fun n => { n with ending := some reason, placed := s.clk.count, proto := x.proto, emaid := x.emaid }
      | none, w => w.map fun n => { n with ending := some reason, placed := s.clk.count, proto := x.proto, emaid := x.emaid }
  let s := match notice with
    | some n =>
      let s := raise 0x4302 4 i.val (reason * 2 ^ 24 + n.session % 2 ^ 24) (pushNotice n s)
      s.modSes i fun x => { x with lastReason := reason, endCnt := s.clk.count }
    | none => s
  (openReq i s).modSes i fun x => { x with ended := none }

/-- Free the handshake slot of a point; the slot goes to the point deferred first (12 R428, R433). SDP_WAIT takes the time deferred, at
eight ticks to the millisecond. -/
def freeHandshake (i : Fin 32) (s : State) : State :=
  if !s.sesSys.handshakes.contains i.val then s
  else
    let s := s.modSesSys fun y => { y with handshakes := y.handshakes.filter (· != i.val) }
    match s.sesSys.admission with
    | [] => s
    | e :: rest =>
      let s := s.modSesSys fun y => { y with admission := rest, handshakes := y.handshakes ++ [e.2] }
      match fin? 32 e.2 with
      | some p => s.modSes p fun x => { x with deferred := false, sdpWait := satAdd 16 x.sdpWait ((s.clk.tickTot - e.1) / 8) }
      | none => s

/-- Keys and queued jobs of a session are dropped (04 R130, 12 R420). -/
def dropSesKeys (i : Fin 32) (s : State) : State :=
  let s := transDrop (fun t => t.owner == .ses && t.point == i.val) s
  s.modKeys fun k => { k with queue := k.queue.filter fun j => !(j.owner == .ses && j.point == i.val) }

/-- The TCP connection is closed: its slot and keys are freed, and the next SDP request may open another (12 Table 12.4). -/
def closeConn (i : Fin 32) (s : State) : State :=
  let s := dropSesKeys i (freeHandshake i s)
  let s := (s.modPlc i fun x => { x with rx := [] }).modCp i fun x => { x with veh := none }
  s.modSes i fun x =>
    { x with tcpOpen := false, retrans := 0, helloRetry := false, tls := 0, stalled := false, authSince := false, chainOk := false
             pnc := false, eim := false, reneg := false, notify := false, hs := 0, idSet := false, authBad := false
             stage := if x.stage = .idle || x.stage = .basic then x.stage else if s.plc[i].slac = .matched then .sdp else .link }

/-- The context closes: the point left the session states (12 Table 12.4, 11 Table 11.6). The last session's reason, its end count and
the longest response time stay. -/
def closeContext (i : Fin 32) (s : State) : State :=
  let s := slacIdle i (closeConn i s)
  let s := s.modSesSys fun y => { y with admission := y.admission.filter (·.2 != i.val) }
  (s.modSes i fun x => { lastReason := x.lastReason, endCnt := x.endCnt, respMax := x.respMax, startCnt := x.startCnt }).modCp i fun x =>
    { x with veh := none }

/-- A context opens as its point enters CONNECTED: the next session number is drawn, each once; after 0xFFFF_FFFF the point takes no
session (12 R412, R429). ISO 15118 starts with SLAC where it is offered and a pipe works (11 R387, R389). -/
def openContext (i : Fin 32) (s : State) : State :=
  if s.sesSys.exhausted then raise 0x4309 4 i.val 0xFFFFFFFF s
  else
    let n := s.sesSys.nextNo
    let s := s.modSesSys fun y => { y with nextNo := n + 1, exhausted := n == 2 ^ 32 - 1 }
    let hlc := ptHlcEn s i.val && !s.plc[i].noHlc
    let s := s.modSes i fun x =>
      { lastReason := x.lastReason, endCnt := x.endCnt, respMax := x.respMax, startCnt := x.startCnt, no := n, stage := if hlc then .link else .basic }
    if hlc then s.modPlc i fun x => { x with slac := .waitParm, failures := 0, slacMsgs := [] } else s

/-- HLC is withdrawn for the plug-in: the point behaves as if HLC_EN were 0 (12 R411, R436; 11 Table 11.6 FALLBACK). -/
def toBasic (i : Fin 32) (s : State) : State :=
  let s := closeConn i s
  let s := s.modSesSys fun y => { y with admission := y.admission.filter (·.2 != i.val) }
  s.modSes i fun x => { x with stage := if x.stage = .idle then .idle else .basic, deferred := false, proto := 0, mode := 0 }

/-- HLC withdrawn with event 0x4308; an open binding ends with reason 13 (12 R436). -/
def withdrawHlc (i : Fin 32) (s : State) : State :=
  let s := (toBasic i s).modSes i fun x => { x with hlcOff := true }
  endSes i 13 (raise 0x4308 4 i.val s.ses[i].strikes s)

/-- A strike is counted; the third withdraws HLC (12 R436). -/
def addStrike (i : Fin 32) (s : State) : State :=
  let s := s.modSes i fun x => { x with strikes := min 3 (x.strikes + 1) }
  if s.ses[i].strikes = 3 && !s.ses[i].hlcOff then withdrawHlc i s else s

/-- A strike that closes the connection (12 R436). -/
def strike (i : Fin 32) (s : State) : State := addStrike i (closeConn i s)

/-- The logical network of a point was left: the connection is gone and a session ends with reason 16 (12 R415). -/
def linkLost (i : Fin 32) (s : State) : State :=
  let s := if bound s i || (startWaits s i).isSome || s.ses[i].tcpOpen then endSes i 16 s else s
  (closeConn i s).modSes i fun x => { x with stage := if x.stage = .idle || x.stage = .basic then x.stage else .link }

/-- A response goes out `ms` after its request: times, the count of requests answered, event 0x430B past the bound of 12 Table 12.7,
and the answer sent. `jobs`: the response needed VE jobs. -/
def respond (i : Fin 32) (jobs : Bool) (kind code ms : Nat) (fields : List Nat) (s : State) : State :=
  let inClose := decide (s.led.period.startCount ≤ s.clk.count) && decide (s.clk.count < s.led.period.startCount + s.clk.fnom)
  let bound := if !jobs then 60 else if inClose then 800 else 600
  let late := decide (bound < ms)
  let s := s.modSes i fun x =>
    { x with respLast := min ms 65535, respMax := max x.respMax (min ms 65535), msgs := x.msgs + 1, answer := some (kind, code) }
  let s := if late then raise 0x430B 4 i.val ms (s.modSesSys fun y => { y with late := inc32 y.late }) else s
  sendMessage i (0x100 + kind) (code :: fields) s

/-- Place the VE jobs of a protocol step (12 R421); a job past the session's four, or a full queue, stalls the session (12 R420). -/
def placeJobs (i : Fin 32) (jobs : List (SlotOp × Nat)) (data : List Nat) (s : State) : State :=
  jobs.foldl (fun s j => enqueue { owner := .ses, point := i.val, op := j.1, slot := j.2, data } s) s

end Sys2Proof.Machine
end

