-- ==== Sys2Proof/Machine/Pilot.lean ====
section
/-! DEFINITION. Control pilot, proximity, socket lock, indicator and the Mode 3 state machine of a point (spec/10). -/

namespace Sys2Proof.Machine

/-- Band of a CP_HI value (10 Table 10.2), with the lower and the upper boundary moved by h outward. -/
def cpBand (v : Int) : CpState :=
  if 10500 < v then .a else if 7500 < v then .b else if 4500 < v then .c else if 1500 < v then .d
  else if -1500 ≤ v then .e else .f

/-- Lower and upper boundary of a band, mV; none: unbounded. -/
def cpLimits : CpState → Option Int × Option Int
  | .a => (some 10500, none) | .b => (some 7500, some 10500) | .c => (some 4500, some 7500) | .d => (some 1500, some 4500)
  | .e => (some (-1500), some 1500) | .f => (none, some (-1500)) | .unknown => (none, none)

/-- A reading leaves the band of the present state: it lies at least 300 mV beyond its boundary (10 R342). -/
def cpLeaves (st : CpState) (v : Int) : Bool :=
  let (lo, hi) := cpLimits st
  st == .unknown || (match lo with | some l => decide (v ≤ l - 300) | none => false)
    || (match hi with | some h => decide (h + 300 ≤ v) | none => false)

/-- CP_STATE_CHANGE: three consecutive reported periods fall in a new band; the state machine acts at the end of the cycle
(10 R342, R355). While CP_MODE is 2 or 3 the state reads unknown. -/
def execCpStateChange (point : Fin 32) (s : State) : Host.Outcome State Fault Refusal :=
  .next <|
    let x := s.cp[point]
    if 2 ≤ x.cpMode || x.pst = .absent then s
    else
      let n := cpBand x.cpHi
      if n != x.cp && cpLeaves x.cp x.cpHi then s.modCp point fun x => { x with cp := n, cpPend := some n } else s

/-- Supplies VCP_POS and VCP_NEG of a head lie within 12.00 V +-5 % (10 R344). -/
def vcpOk (s : State) (slot : Fin 8) : Bool :=
  let w := sWord s slot 21
  let p := ofTwos 16 (bits w 31 16)
  let n := ofTwos 16 (bits w 15 0)
  decide (11400 ≤ p) && decide (p ≤ 12600) && decide (-12600 ≤ n) && decide (n ≤ -11400)

/-- GENERATOR_FAULT: a supply out of range for ten consecutive cycles (10 R344). -/
def execGeneratorFault (slot : Fin 8) (s : State) : Host.Outcome State Fault Refusal :=
  .next <|
    if portRuns s.ports[slot] && !vcpOk s slot then
      (headPts slot).foldl (fun s (i : Fin 32) => s.modCp i fun x => { x with genFault := true }) s
    else s

/-- GENERATOR_FAULT_CLEAR: 160 consecutive cycles within range (10 R344). -/
def execGeneratorFaultClear (slot : Fin 8) (s : State) : Host.Outcome State Fault Refusal :=
  .next <|
    if portRuns s.ports[slot] && vcpOk s slot then
      (headPts slot).foldl (fun s (i : Fin 32) => s.modCp i fun x => { x with genFault := false }) s
    else s

/-- Current of a cable code, A. -/
def cableAmps : Cable → Nat
  | .a13 => 13 | .a20 => 20 | .a32 => 32 | .a63 => 63
  | _ => 0

/-- CABLE_CODE_ADOPT: PP stays in a code's band for more than 3 ms; while the contactor is closed, event 0x4109 (10 R348, R360). -/
def execCableCodeAdopt (point : Fin 32) (s : State) : Host.Outcome State Fault Refusal :=
  .next <|
    match cableBand s.cp[point].pp with
    | some c =>
      if ptTethered s point.val || !hasPoint s point.val || c = s.cp[point].cable then s
      else raiseIf (ctrClosed s point) 0x4109 4 point.val (cableAmps c) (s.modCp point fun x => { x with cable := c })
    | none => s

/-- CABLE_CODE_INVALID: PP outside every band for more than 3 ms (10 R348). -/
def execCableCodeInvalid (point : Fin 32) (s : State) : Host.Outcome State Fault Refusal :=
  .next <|
    if ptTethered s point.val || !hasPoint s point.val || (cableBand s.cp[point].pp).isSome then s
    else s.modCp point fun x => { x with cable := .invalid }

/-! Socket lock (10 R349 to R351). -/

/-- A drive toward the target is in progress. -/
def driving (x : PtCp) : Bool := x.lockDir != 0 && x.lockCmd == x.lockDir

/-- Begin a drive toward a target: 1 locked, 2 unlocked; effective at the next boundary, or at this one before its outputs are set
(10 R349). A drive toward the same target goes on. No drive starts under a weld lock-out or the mains-loss signal (09 R302, 10 R368). -/
def startDrive (i : Fin 32) (dir : Nat) (s : State) : State :=
  let x := s.cp[i]
  if ptTethered s i.val || s.sen.mlSig || s.psafe[i].weldHold || x.lockDir = dir then s
  else if x.lockDir = 0 && lockFb s i = (dir = 1) then s
  else s.modCp i fun x => { x with lockDir := dir, lockTry := 0, lockPend := dir, lockPendOn := true, brakeLeft := 0 }

/-- Stop a drive: command 0 from the next boundary (10 R363). -/
def stopDrive (i : Fin 32) (s : State) : State :=
  s.modCp i fun x => { x with lockDir := 0, lockTry := 0, lockPend := 0, lockPendOn := true, brakeLeft := 0 }

/-- LOCK_TARGET_REACHED: LOCK_FB reports the target; brake for 2 cy from the next boundary, then release (10 R349). -/
def execLockTargetReached (point : Fin 32) (s : State) : Host.Outcome State Fault Refusal :=
  .next <|
    let x := s.cp[point]
    if driving x && lockFb s point = (x.lockDir = 1) then
      s.modCp point fun x => { x with lockDir := 0, lockTry := 0, lockPend := 3, lockPendOn := true }
    else s

/-- Drives allowed toward a target before the lock fault: 2 to locked, 3 to unlocked (10 R350). -/
def maxDrives (dir : Nat) : Nat := if dir = 2 then 3 else 2

/-- LOCK_DRIVE_TIMEOUT: the target is not reported within LOCK_T; event 0x4104, command 0 from the next boundary; after the last
drive the point has a lock fault (10 R349, R350). -/
def execLockDriveTimeout (point : Fin 32) (s : State) : Host.Outcome State Fault Refusal :=
  .next <|
    let x := s.cp[point]
    if !driving x || lockFb s point = (x.lockDir = 1) then s
    else
      let s := raise 0x4104 4 point.val (x.lockDir * 2 ^ 24 + x.lockTry) s
      if x.lockTry < maxDrives x.lockDir then s.modCp point fun x => { x with lockPend := 0, lockPendOn := true }
      else s.modCp point fun x =>
        { x with lockFault := x.lockDir, lockFaultRun := 0, lockDir := 0, lockTry := 0, lockPend := 0, lockPendOn := true }

/-- LOCK_RETRY: 2 s (5 s when unlocking) after a time-out the hub drives again (10 R350). -/
def execLockRetry (point : Fin 32) (s : State) : Host.Outcome State Fault Refusal :=
  .next <|
    let x := s.cp[point]
    if x.lockDir != 0 && x.lockCmd = 0 && !x.lockPendOn && x.lockTry != 0 && !s.sen.mlSig then
      s.modCp point fun x => { x with lockPend := x.lockDir, lockPendOn := true }
    else s

/-- LOCK_FAULT_CLEAR: LOCK_FB reports unlocked in 50 consecutive cycles; event 0x4106, the point goes OUT_OF_SERVICE (10 R364). -/
def execLockFaultClear (point : Fin 32) (s : State) : Host.Outcome State Fault Refusal :=
  .next <|
    let x := s.cp[point]
    if x.lockFault = 0 || x.lockFaultRun < 50 then s
    else
      let s := unstop point (s.modPsafe point fun y => { y with lockFb := false })
      let s := raise 0x4106 4 point.val 0 (s.modCp point fun x => { x with lockFault := 0, lockFaultRun := 0 })
      if x.pst = .fault && !x.pilotFault && !x.genFault then
        setPst point .outOfService (s.modCp point fun x => { x with outSince := s.clk.bndTot })
      else s

/-! Ceilings, duty and the indicator (10 R345, R346, R352). -/

/-- Level-6 term: I_MAX, capped by CABLE_MAX or by the decoded cable code (10 before R345). -/
def localCeil (s : State) (i : Fin 32) : Nat :=
  if ptTethered s i.val then min (ptIMax s i.val) (ptCableMax s i.val)
  else if cableOk s.cp[i].cable then min (ptIMax s i.val) (10 * cableAmps s.cp[i].cable)
  else ptIMax s i.val

/-- Minimum with a term, if it is in force. -/
def capWith (c : Nat) (t : Option Nat) : Nat :=
  match t with
  | some x => min c x
  | none => c

/-- The merged ceiling: the minimum of the terms in force at levels 3 to 6 and of the vehicle's request (09 R318). -/
def mergedCeil (s : State) (i : Fin 32) : Nat :=
  let x := s.cp[i]
  capWith (capWith (capWith (capWith (localCeil s i) x.llim) s.psafe[i].ceilT) x.share) x.veh

/-- Duty of a ceiling, 0.1 %; none: pause (10 R345). -/
def dutyOf (c : Nat) : Option Nat :=
  if c < 60 then none
  else
    let c := min c 800
    if c < 528 then some (min (c * 5 / 3) 850) else some (640 + c * 2 / 5)

/-- Set the merged ceiling; a fall is carried to the vehicle and starts the grace of 500 cy (09 R318; 12 R423, R424, R430, R437). -/
def updateCeil (i : Fin 32) (s : State) : State :=
  let c := mergedCeil s i
  let falls := decide (c < s.cp[i].ceil)
  let s := s.modCp i fun x => { x with ceil := c }
  s.modSes i fun x =>
    { x with
      pauseNote := c < 60
      grace := if falls then 500 else x.grace
      overRun := if falls then Vector.replicate 3 0 else x.overRun
      notify := if falls && x.stage == .loop && !x.reneg then true else x.notify }

/-- CP_MODE and DUTY of a point for the starting cycle; the duty stays while it is not sent (10 Table 10.6, R346; 09 R302). -/
def pilotOut (s : State) (i : Fin 32) : Nat × Nat :=
  let x := s.cp[i]
  if s.sen.mlSig then (0, x.duty)
  else if s.psafe[i].weldHold then (2, x.duty)
  else match x.pst with
    | .connected => if hlcOn s i then (1, 50) else (0, x.duty)
    | .authorised | .charging | .paused =>
      match dutyOf x.ceil with
      | none => (0, x.duty)
      | some d => (1, if hlcOn s i then 50 else d)
    | .fault => (if x.lockFault != 0 then 2 else 0, x.duty)
    | .absent | .outOfService | .available | .ending => (0, x.duty)

/-- Indicator duty (10 Table 10.5). -/
def indOut (s : State) (i : Fin 32) : Nat :=
  let l := ptIndLevel s i.val
  let blink := fun (half a b : Nat) => if (s.clk.bndTot - s.cp[i].indAt) / half % 2 = 0 then a else b
  match s.cp[i].pst with
  | .absent | .outOfService => 0
  | .available => l / 4
  | .connected | .authorised => blink (s.clk.fnom / 2) l 0
  | .charging => l
  | .paused | .ending => blink (s.clk.fnom / 2) l (l / 4)
  | .fault => blink (s.clk.fnom / 5) l 0

/-- LOCK command of the starting cycle: a pending command goes out, but never command 2 while a token permits or K_FB_NO reports
closed; the brake lasts 2 cy; a weld lock-out and the mains-loss signal hold (10 R349, R351, R368; 09 R302). -/
def lockStep (s : State) (i : Fin 32) (x : PtCp) : PtCp :=
  if s.sen.mlSig || s.psafe[i].weldHold then
    { x with lockCmd := 0, lockDir := 0, lockTry := 0, lockPend := 0, lockPendOn := false, brakeLeft := 0 }
  else if x.lockPendOn then
    if x.lockPend = 2 && (s.safe.a.opinion[i] || s.safe.b.opinion[i] || fbNo s i) then { x with lockCmd := 0 }
    else if x.lockPend = 3 then { x with lockCmd := 3, lockPendOn := false, brakeLeft := 2 }
    else if x.lockPend = 0 then { x with lockCmd := 0, lockPendOn := false }
    else { x with lockCmd := x.lockPend, lockPendOn := false, lockTry := x.lockTry + 1 }
  else if x.lockCmd = 3 then
    if x.brakeLeft ≤ 1 then { x with lockCmd := 0, brakeLeft := 0 } else { x with brakeLeft := x.brakeLeft - 1 }
  else x

/-- LOCK as published (10 Table 10.9). -/
def lockView (s : State) (i : Fin 32) : LockSt :=
  let x := s.cp[i]
  if !hasPoint s i.val || ptTethered s i.val then .none
  else if x.lockFault != 0 then .fault
  else if driving x then (if x.lockDir = 1 then .locking else .unlocking)
  else if lockFb s i then .locked else .unlocked

/-- Set duty, CP_MODE, LOCK and IND of a point for the starting cycle (10 R340, R346, R362 item 5). -/
def setOutputs (i : Fin 32) (s : State) : State :=
  let (mode, duty) := pilotOut s i
  let ind := indOut s i
  let s := s.modCp i fun x => { x with cpMode := mode, duty, ind, cp := if 2 ≤ mode then .unknown else x.cp }
  s.modCp i fun x => { x with lock := lockView s i }

/-! Point states (10 R354 to R356, R362 to R364). -/

/-- Out-of-service cause in force, 0 none: hub not in RUN or retiring, head, lock-out, order, in this order (10 R355; log entry 27).
DESIGN CHOICE. -/
def oosCause (s : State) (i : Fin 32) : Nat :=
  if s.life.cond != .run || s.life.retireAt.isSome then 5
  else if !headOk s i then 3
  else if lockCause s i != 0 || hubLock s != 0 then 4
  else if s.cp[i].service == some false then 1
  else 0

/-- Session end reason of an out-of-service cause (12 Table 12.5). -/
def oosReason : Nat → Nat
  | 5 => 9 | 3 => 6 | 4 => 3
  | _ => 11

/-- Control pilot: C, or D with D_OK (10 Table 10.7). -/
def wantsCharge (s : State) (i : Fin 32) : Bool := s.cp[i].cp == .c || (s.cp[i].cp == .d && ptDOk s i.val)

/-- A socket that is locked with K_FB open and no weld lock-out is driven to unlocked (10 R356). -/
def unlockIfOpen (i : Fin 32) (s : State) : State :=
  if ctrOpen s i && lockFb s i && lockCause s i != 0x12 then startDrive i 2 s else s

/-- A socket with a valid code is driven to locked (10 Table 10.7 AVAILABLE; log entry 28). -/
def lockIfPlugged (i : Fin 32) (s : State) : State :=
  if cableOk s.cp[i].cable && s.cp[i].lockDir = 0 && !s.cp[i].lockPendOn then startDrive i 1 s else s

/-- Leave the session states: contactor open, context closed, state entered. -/
def leaveSession (i : Fin 32) (p : PState) (s : State) : State := setPst i p (closeContext i (openReq i s))

/-- Out of service with a cause: the session ends, event 0x4102, a drive in progress is stopped (10 Table 10.7, R363). -/
def goOut (i : Fin 32) (cause : Nat) (s : State) : State :=
  let reason := if cause = 5 then (s.ses[i].ended).getD 9 else oosReason cause
  let drives := driving s.cp[i]
  let s := raise 0x4102 4 i.val cause (sesEnd i reason s)
  let s := if drives then stopDrive i s else s
  leaveSession i .outOfService (s.modCp i fun x => { x with outSince := s.clk.bndTot, aRun := 0 })

/-- FAULT with its event and count (10 Table 10.7). -/
def goFault (i : Fin 32) (s : State) : State :=
  let x := s.cp[i]
  let (reason, code, arg) :=
    if x.pilotFault then (4, 0x4107, cpArg s i)
    else if x.genFault then (4, 0x4108, sWord s (slotOf i) 21)
    else (5, 0x4105, x.lockFault)
  let s := raise code 4 i.val arg (sesEnd i reason s)
  let s := leaveSession i .fault s
  let s := s.modCp i fun x =>
    if code = 0x4105 then { x with lockFaults := inc32 x.lockFaults, lockFaultRun := 0 } else { x with cpFaults := inc32 x.cpFaults }
  if code = 0x4105 && x.lockFault = 1 && ctrOpen s i then startDrive i 2 s else s

/-- Readings of the ended cycle: the runs of state A and of unlocked reports, the pilot and proximity faults that state A clears, the
lock fault that lost feedback brings (10 R343, R356, R364; 09 R306 to R308). -/
def pointRuns (i : Fin 32) (s : State) : State :=
  let runs := portRuns s.ports[slotOf i]
  let isA := s.cp[i].cp == .a
  let un := runs && !ptTethered s i.val && !lockFb s i && !driving s.cp[i]
  let s := s.modCp i fun x =>
    { x with
      aRun := if isA && x.cpMode == 0 && runs then min 50 (x.aRun + 1) else 0
      lockFaultRun := if x.lockFault != 0 && un then min 50 (x.lockFaultRun + 1) else 0
      lockFault := if x.lockFault = 0 && s.psafe[i].lockFb then 1 else x.lockFault }
  let s := if isA then unstop i (s.modPsafe i fun y => { y with missDiode := false, shortPe := false, proximity := false }) else s
  s.modCp i fun x => { x with pilotFault := (x.cp == .f && decide (x.cpMode ≤ 1)) || s.psafe[i].missDiode || s.psafe[i].shortPe }

/-- A safety stop that ends a session: a reaction of 09 Table 9.3 other than those that are pilot or lock faults. -/
def safetyStop (s : State) (i : Fin 32) : Bool := (stopBits s i).any fun b => b != 115 && b != 105 && b != 106 && b != 108

/-- What the state machine of a point does at a cycle boundary (10 Table 10.7, in the order of R362). -/
def pointStep (i : Fin 32) (s : State) : State :=
  if s.cp[i].pst = .absent then s
  else
    let s := pointRuns i s
    let acted := s.cp[i].cpPend.isSome
    let s := s.modCp i fun x => { x with cpPend := none }
    let x := s.cp[i]
    let isA := x.cp == .a
    let inSes := x.pst == .authorised || x.pst == .charging || x.pst == .paused
    let cause := oosCause s i
    let faulty := x.pilotFault || x.genFault || x.lockFault != 0
    -- a state A confirmed in the ending cycle ends the session first (R362)
    let s := if acted && isA && (inSes || (startWaits s i).isSome) then sesEnd i 1 s else s
    let s := if isA && (s.psafe[i].st = .testing || s.psafe[i].st = .closing) then toSafeSt i .opened (withdraw i s) else s
    if cause ≠ 0 then
      if x.pst != .outOfService then goOut i cause s else if x.lockPendOn then s else unlockIfOpen i s
    else if faulty && x.pst != .fault then goFault i s
    else match x.pst with
      | .absent => s
      | .outOfService => unlockIfOpen i s
      | .fault =>
        if faulty then (if x.lockFault = 1 then unlockIfOpen i s else s)
        else setPst i .outOfService (s.modCp i fun x => { x with outSince := s.clk.bndTot, aRun := 0 })
      | .available =>
        if x.cp == .b || x.cp == .c || x.cp == .d then lockIfPlugged i (openContext i (setPst i .connected s)) else s
      | .connected =>
        if isA then
          let s := leaveSession i .available s
          if lockFb s i then startDrive i 2 s else s
        else
          let s := match s.ses[i].ended with
            | some r => sesEnd i r s
            | none => s
          lockIfPlugged i s
      | .authorised | .charging | .paused =>
        let ending : Option Nat := if isA then some 1 else match s.ses[i].ended with
          | some r => some r
          | none => if safetyStop s i then some 3 else none
        match ending with
        | some r => unlockIfOpen i (leaveSession i .ending (sesEnd i r s))
        | none =>
          if x.pst == .charging then
            if wantsCharge s i then s else setPst i .paused (openReq i s)
          else lockIfPlugged i s
      | .ending =>
        if !ctrOpen s i then s
        else if isA && (ptTethered s i.val || !lockFb s i) then setPst i .available s
        else if lockFb s i then startDrive i 2 s else s

/-- Item 7 of 02 Table 2.4 for every point: state changes, causes and faults, session ends, requests, then the outputs (10 R362). -/
def pilotBoundary (s : State) : State :=
  let s := (finList 32).foldl (fun s (i : Fin 32) => if s.cp[i].pst = .absent then s else updateCeil i s) s
  let s := (finList 32).foldl (fun s (i : Fin 32) => pointStep i s) s
  let s := openBoundary s
  (finList 32).foldl (fun s (i : Fin 32) =>
    if s.cp[i].pst = .absent then s else setOutputs i (s.modCp i fun x => lockStep s i x)) s

/-- POINT_RETURN_TO_SERVICE: no cause holds, state A in 50 consecutive cycles under CP_MODE 0, a socket unlocked; event 0x4101 with
the cycles spent out of service (10 R356). -/
def execPointReturnToService (point : Fin 32) (s : State) : Host.Outcome State Fault Refusal :=
  .next <|
    let x := s.cp[point]
    if x.pst = .outOfService && oosCause s point = 0 && x.aRun = 50 && (ptTethered s point.val || !lockFb s point)
        && !x.pilotFault && !x.genFault && x.lockFault = 0 then
      let s := raise 0x4101 4 point.val (min (s.clk.bndTot - x.outSince) (2 ^ 32 - 1)) s
      setOutputs point (setPst point .available (s.modCp point fun x => { x with returns := inc32 x.returns }))
    else s

/-- CEILING_PAUSE: below 6.0 A for more than 6 s while charging (10 Table 10.7). -/
def execCeilingPause (point : Fin 32) (s : State) : Host.Outcome State Fault Refusal :=
  .next <|
    if s.cp[point].pst = .charging && decide (s.cp[point].ceil < 60) then setPst point .paused (openReq point s) else s

end Sys2Proof.Machine
end

