-- ==== Sys2Proof/Machine/TagWin.lean ====
section
/-! DEFINITION. RDO's windows and result cells of the tag: which frames are free, the assignment of a window to a tenant, and
the headers of the hub-to-field cells (16 R543, R551, R795). -/

namespace Sys2Proof.Machine

/-- Flags of the NFC record; without one both are set (16 R795). -/
def nfcTokens (s : State) : Bool := (recOf s 0x81 0).isNone || cfg s 0x81 0 0 127 127 == 1
def nfcWindows (s : State) : Bool := (recOf s 0x81 0).isNone || cfg s 0x81 0 0 126 126 == 1

/-- RDO writes the tag: the hub runs and the mains-loss signal is down (16 R559). -/
def rdoWrites (s : State) : Bool := !s.sen.mlSig && s.elec.supplyOk

/-- A window by number, and a change of one. -/
def tagWin (s : State) (w : Nat) : TagWin := s.tag.wins.toList.getD w {}
def modWin8 (w : Nat) (f : TagWin → TagWin) (s : State) : State :=
  match fin? 8 w with
  | some i => s.modTag fun t => { t with wins := t.wins.set i (f t.wins[i]) }
  | none => s

/-- Frames that a directory entry names, or that wait for a flip. -/
def usedFrames (s : State) : List Nat :=
  (List.range 8).filterMap (dirFrame s) ++ s.tag.wins.toList.filterMap (·.flipTo)

/-- The lowest shadow frame that may be written: not live, not waiting for a flip, not latched, in use (16 R544, R545, R557). -/
def freeFrame (s : State) : Option Nat :=
  (List.range 12).find? fun f => !(usedFrames s).contains f && !s.tag.latched.contains f && !s.tag.outFrames.contains f

/-- The window least recently requested, the lower of equals. -/
def oldestWin (s : State) : Nat :=
  (List.range 8).foldl (fun b w => if (tagWin s w).lastReq < (tagWin s b).lastReq then w else b) 0

/-- Assign a window to a tenant: the one it holds, else a free one, else the least recently requested, with a new HANDLE and event
0x3062 (16 R543). Without windows or randomness none is assigned (16 R795, 04 R155). -/
def assignWindow (tenant : Nat) (s : State) : Option Nat × State :=
  if !nfcWindows s then (none, s)
  else match (List.range 8).find? fun w => (tagWin s w).tenant == tenant && tenant != 0 with
    | some w => (some w, modWin8 w (fun x => { x with lastReq := s.clk.bndTot }) s)
    | none =>
      if !drbgOk s then (none, s)
      else
        let w := ((List.range 8).find? fun w => (tagWin s w).tenant == 0).getD (oldestWin s)
        let (h, s) := drbgDraw 16 s
        let f := (freeFrame s).getD 0xFF
        let s := modWin8 w (fun _ => { tenant, handle := h, lastReq := s.clk.bndTot }) s
        (some w, raise 0x3062 6 255 (w * 2 ^ 24 + f * 2 ^ 16 + h) s)

/-- Write the header of hub-to-field cell k: TYPE, STATUS, CELL_SEQ, HANDLE, window index (16 R551). -/
def putResultHeader (k typ status cellSeq : Nat) (win : Option Nat) (s : State) : State :=
  let h := match win with
    | some w => (tagWin s w).handle
    | none => 0
  tagPut (768 + 16 * k) ([typ, status] ++ bytesLE 2 cellSeq ++ bytesLE 2 h ++ [win.getD 0xFF, 0]) s

/-- CELL_SEQ of field cell k. -/
def cellSeq (s : State) (k : Nat) : Nat := natLE (((tagBlock s (512 + 16 * k)).drop 2).take 2)

/-- A token's result is final: the body blocks, then the header with STATUS 2 (16 R551). -/
def tokenAnswer (tenant nonce : Nat) (ws : List W128) (s : State) : State :=
  match s.tag.tokCell.find? fun e => e.2.1 == tenant && e.2.2.1 == nonce with
  | none => s
  | some e =>
    let k := e.1
    let s := s.modTag fun t => { t with tokCell := t.tokCell.filter fun x => x.1 != k }
    if !rdoWrites s then s
    else
      let bs := wordsBytes ws
      let s := (List.range 4).foldl (fun s j => tagPut (769 + 16 * k + j) ((bs.drop (8 * j)).take 8) s) s
      putResultHeader k 1 2 (cellSeq s k) (if e.2.2.2 < 8 then some e.2.2.2 else none) s

end Sys2Proof.Machine
end

