-- ==== Sys2Proof/Machine/Auth.lean ====
section
/-! DEFINITION. Authorisation: the checks before a start notice, tokens, link orders, free vend and competing authorisations
(spec/13). -/

namespace Sys2Proof.Machine

/-- Reason of 13 Table 13.6 that R447 gives for a tenant apart from the point's own state; 0: none. -/
def tenantCheck (s : State) (i : Fin 32) (path tenant : Nat) : Nat :=
  match tenantEntry s tenant with
  | none => 4
  | some e =>
    if s.gates.blockSnap.contains tenant then 12
    else if !bitOf (fld e.1 95 64) i.val then 10
    else if path = 1 && fld e.1 108 108 = 0 then 10
    else if path = 2 && fld e.1 109 109 = 0 then 10
    else 0

/-- A current or downstream-voltage channel of the point is in SENSOR_FAULT (07 R236). -/
def pointSfault (s : State) (i : Fin 32) : Bool :=
  (List.range 6).any fun k => (s.meas[slotOf i].chans.toList.getD (6 * (posOf i).val + k) {}).sfault

/-- The point takes no new session: its head is not ADMITTED, a channel is in SENSOR_FAULT, an AT restart is near, or a retire sequence is
under way (03 R100, R103; 06 Table 6.9; 07 R236). -/
def noNewSession (s : State) (i : Fin 32) : Bool :=
  s.life.freeze || s.life.retireAt.isSome || !headOk s i || pointSfault s i

/-- R447 before a start notice: the point is CONNECTED without a binding, then the tenant; free vend needs the point's flag and no
block of 0xFFFF (13 R447, R455, R458). -/
def startCheck (s : State) (i : Fin 32) (path tenant : Nat) : Nat :=
  if s.cp[i].pst != .connected || bound s i || (startWaits s i).isSome || s.ses[i].no = 0 || noNewSession s i then 11
  else if path = 4 then (if ptFreeVend s i.val && !s.gates.blockSnap.contains 0xFFFF then 0 else 12)
  else tenantCheck s i path tenant

/-- The result word of a token (13 Table 13.5). -/
def resultWord (s : State) (point tenant nonce result slot : Nat) : W128 :=
  mkWord [(120, 1), (112, result), (96, tenant), (88, nodeId s), (80, point), (72, slot), (0, nonce)]

/-- The token key of a tenant, if role 0x02 is loaded (13 R450, 04 R123). -/
def tokenKey (s : State) (tenant : Nat) : Option Nat := (roleSlot s 2).map fun n => tenantKey (slotSecret s n) false tenant

/-- Publish a token's result with its MAC, or with a zero word for reasons 1 to 5 and 13 (13 R453). -/
def tokenResult (mac : Bool) (point tenant nonce result slot : Nat) (s : State) : State :=
  let w := resultWord s point tenant nonce result slot
  let m := match tokenKey s tenant with
    | some k => if mac then Config.cmac k (wordBytes w) else 0
    | none => 0
  tokenAnswer tenant nonce [w, BitVec.ofNat 128 m] (s.modAuthSys fun y => { y with result := [w, BitVec.ofNat 128 m] })

/-- Whether the result of a refusal reason carries a MAC (13 R453). -/
def macFor (reason : Nat) : Bool := decide (5 < reason) && reason != 13

/-- An authorisation is refused: event 0x4401; a token's result is published, a contract's session is answered FAILED (13 R447,
R453, 12 Table 12.4). -/
def refuseAuth (i : Fin 32) (path tenant nonce reason : Nat) (s : State) : State :=
  let s := raise 0x4401 4 i.val (reason * 2 ^ 24 + path * 2 ^ 20 + tenant) (s.modAuth i fun x => { x with lastReason := reason })
  let s := if path = 1 then s.modSes i fun x => { x with authBad := true } else s
  if path = 2 then tokenResult (macFor reason) i.val tenant nonce reason 0xFF (s.modAuthSys fun y => { y with tokensRefused := inc32 y.tokensRefused }) else s

/-- An authorisation becomes ready in the cycle in progress (13 R456). -/
def authReady (i : Fin 32) (path tenant nonce : Nat) (s : State) : State :=
  s.modAuth i fun x => { x with ready := x.ready ++ [(path, tenant, nonce)] }

/-- Hold an authorisation pending; one already held is replaced without an event (13 R452). -/
def holdPending (i : Fin 32) (p : PendAuth) (s : State) : State :=
  let first := s.auth[i].pend.isNone
  let s := raiseIf first 0x4403 4 i.val (p.path * 2 ^ 20 + p.tenant) (s.modAuth i fun x => { x with pend := some p })
  if p.path = 2 then
    tokenResult true i.val p.tenant p.nonce 1 0xFF (s.modAuthSys fun y => { y with tokensOk := inc32 y.tokensOk })
  else s

/-- An authorisation by token or order acts by the state of its point: answers its refusal reason, 0 when it is ready or held
(13 R452, R454). -/
def applyAuth (i : Fin 32) (p : PendAuth) (mayHold : Bool) (s : State) : Nat × State :=
  let no := fun (r : Nat) => (r, refuseAuth i p.path p.tenant p.nonce r s)
  match s.cp[i].pst with
  | .connected =>
    match startCheck s i p.path p.tenant with
    | 0 => (0, authReady i p.path p.tenant p.nonce s)
    | r => no r
  | .available =>
    match tenantCheck s i p.path p.tenant with
    | 0 => if mayHold then (0, holdPending i p s) else no 11
    | r => no r
  | _ => no 11

/-- Reasons of the checks on a token message up to its replay entry, in the order of 13 R450; 0: all pass. -/
def tokenCheck (s : State) (ws : List W128) : Nat :=
  let w0 := ws.getD 0 0
  let w1 := ws.getD 1 0
  let tenant := fld w0 111 96
  let expiry := fld w0 63 0
  let rtc := s.clk.rtcS
  if ws.length ≠ 3 || fld w0 127 120 ≠ 1 || fld w0 119 112 ≠ 1 || fld w0 79 64 ≠ 0 || fld w1 63 0 ≠ 0 then 1
  else if fld w0 95 88 ≠ nodeId s then 2
  else if !hasPoint s (fld w0 87 80) then 3
  else if (tenantEntry s tenant).isNone then 4
  else match tokenKey s tenant with
    | none => 13
    | some k =>
      if BitVec.ofNat 128 (Config.cmac k (wordsBytes (ws.take 2))) ≠ ws.getD 2 0 then 5
      else if !s.sen.rtcValid then 9
      else if expiry < rtc || rtc + 900 < expiry then 6
      else if s.authSys.replay.any fun e => e.tenant == tenant && e.nonce == fld w1 127 64 then 7
      else if 128 ≤ s.authSys.replay.length then 8
      else 0

/-- TOKEN_MESSAGE: SES verifies the oldest token that RDO has passed on; its replay entry is written before it acts; once the MAC
has verified RDO assigns the tenant's window (13 R450 to R453, 16 R550). No token is verified under the mains-loss signal. -/
def execTokenMessage (s : State) : Host.Outcome State Fault Refusal :=
  .next <|
    match s.tag.tokQ with
    | [] => s
    | (cell, ws) :: rest =>
      if s.sen.mlSig then s
      else
        let w0 := ws.getD 0 0
        let tenant := fld w0 111 96
        let nonce := fld (ws.getD 1 0) 127 64
        let point := fld w0 87 80
        let r := tokenCheck s ws
        let s := s.modTag fun t => { t with tokQ := rest }
        let macOk := r = 0 || (6 ≤ r && r ≤ 9)
        let a := if macOk then assignWindow tenant s else (none, s)
        let win := a.1
        let s := a.2
        let s := s.modTag fun t => { t with tokCell := t.tokCell ++ [(cell, tenant, nonce, win.getD 0xFF)] }
        match fin? 32 point with
        | none =>
          let s := raise 0x4401 4 255 (r * 2 ^ 24 + 2 * 2 ^ 20 + tenant) s
          tokenResult (macFor r) point tenant nonce (if r = 0 then 3 else r) 0xFF (s.modAuthSys fun y => { y with tokensRefused := inc32 y.tokensRefused })
        | some i =>
          if r ≠ 0 then refuseAuth i 2 tenant nonce r s
          else
            let s := s.modAuthSys fun y => { y with replay := y.replay ++ [{ tenant, nonce, expiry := fld w0 63 0 }] }
            (applyAuth i { path := 2, tenant, untilCnt := fld w0 63 0, nonce } true s).2

/-- The payload of an authorise order acts through SES (13 R454): its refusal reason, 0 if it is ready or held. -/
def authoriseAct (p : List W128) (s : State) : Nat × State :=
  let w := pWord p 0
  let tenant := fld w 111 96
  let point := fld w 127 120
  let cnt := fld w 63 0
  let bad := fun (r : Nat) => (r, raise 0x4401 4 (min point 255) (r * 2 ^ 24 + 3 * 2 ^ 20 + tenant) s)
  if p.length ≠ 1 || tenant = 0 || tenant = 0xFFFF || fld w 119 112 ≠ 0 || fld w 95 64 ≠ 0 then bad 1
  else match fin? 32 point with
    | none => bad 3
    | some i =>
      if !hasPoint s point then bad 3
      else if s.sen.mlSig then (11, s)
      else applyAuth i { path := 3, tenant, untilCnt := cnt, nonce := 0 } (decide (s.clk.count < cnt)) s

/-- ORDER_AUTHORISE: validated by BOOT-M, then applied by SES (13 R454). -/
def execOrderAuthorise (o : OrderRec) (s : State) : Host.Outcome State Fault Refusal := .next <| ordered [11] o authoriseAct s

/-- PENDING_LAPSE: a pending authorisation passes its EXPIRY or its VALID_COUNT:0 and lapses with event 0x4404 (13 R452, R454). -/
def execPendingLapse (point : Fin 32) (s : State) : Host.Outcome State Fault Refusal :=
  .next <|
    match s.auth[point].pend with
    | none => s
    | some p =>
      if (p.path = 2 && decide (p.untilCnt < s.clk.rtcS)) || (p.path ≠ 2 && decide (p.untilCnt ≤ s.clk.count)) then
        raise 0x4404 4 point.val (p.path * 2 ^ 20 + p.tenant) (s.modAuth point fun x => { x with pend := none })
      else s

/-- Rank of 09 R319: the lower path code stands first. The winner among ready authorisations: the lowest path, of one path the
earliest (13 R456). -/
def winnerOf : List (Nat × Nat × Nat) → Option (Nat × Nat × Nat)
  | [] => none
  | a :: rest =>
    match winnerOf rest with
    | none => some a
    | some b => if b.1 < a.1 then some b else some a

/-- An authorisation lost to another path in its cycle: event 0x4402, reason 14 (13 R456). -/
def loseAuth (i : Fin 32) (win : Nat) (a : Nat × Nat × Nat) (s : State) : State :=
  let s := (s.modAuth i fun x => { x with lastReason := 14 }).modAuthSys fun y => { y with lost := inc32 y.lost }
  let s := raise 0x4402 4 i.val (a.1 * 2 ^ 28 + win * 2 ^ 24 + a.2.1) s
  if a.1 = 2 then tokenResult true i.val a.2.1 a.2.2 14 0xFF (s.modAuthSys fun y => { y with tokensRefused := inc32 y.tokensRefused }) else s

/-- Place the start notice of the winner among candidates and refuse the losers (13 R447, R456, 09 R319). `placed`: the cycle that
the notice belongs to. -/
def arbitrate (i : Fin 32) (placed : Nat) (cands : List (Nat × Nat × Nat)) (s : State) : State :=
  match winnerOf cands with
  | none => s
  | some w =>
    let s := (cands.erase w).foldl (fun s a => loseAuth i w.1 a s) s
    match startCheck s i w.1 w.2.1 with
    | 0 =>
      let s := if w.1 = 2 then s.modAuth i fun x => { x with waitTok := some (w.2.1, w.2.2) } else s
      pushNotice { point := i.val, tenant := w.2.1, path := w.1, session := s.ses[i].no, ending := none, placed } s
    | r => refuseAuth i w.1 w.2.1 w.2.2 r s

/-- AUTHORISATION_ARBITRATION and FREE_VEND_START at a boundary: what became ready in the ended cycle; then a pending authorisation of
a point that is CONNECTED now, and free vend (13 R452, R455, R456). None under the mains-loss signal (13 R468). -/
def authBoundary (s : State) : State :=
  if s.sen.mlSig then s
  else (finList 32).foldl (fun s (i : Fin 32) =>
    let x := s.auth[i]
    let s := s.modAuth i fun x => { x with ready := [] }
    let s := arbitrate i (s.clk.count - 1) x.ready s
    if s.cp[i].pst != .connected || bound s i || (startWaits s i).isSome then s
    else
      let pend := match s.auth[i].pend with
        | some p =>
          if (p.path = 2 && decide (s.clk.rtcS ≤ p.untilCnt)) || (p.path ≠ 2 && decide (s.clk.count < p.untilCnt)) then [(p.path, p.tenant, p.nonce)] else []
        | none => []
      let free := ptFreeVend s i.val && !s.gates.blockSnap.contains 0xFFFF
        && (s.ses[i].stage == .basic || (s.ses[i].stage == .auth && s.ses[i].eim))
      let s := if pend.isEmpty then s else s.modAuth i fun x => { x with pend := none }
      arbitrate i s.clk.count (pend ++ if free then [(4, 0xFFFF, 0)] else []) s) s

/-- REPLAY_ENTRY_FREE: an entry is freed at the first boundary whose latched RTC exceeds its EXPIRY (13 R451). -/
def replayBoundary (s : State) : State :=
  s.modAuthSys fun y => { y with replay := y.replay.filter fun e => decide (s.clk.rtcS ≤ e.expiry) }

end Sys2Proof.Machine
end

