-- ==== Sys2Proof/Machine/Text.lean ====
section
/-! DEFINITION. Text and calendar helpers: decimal and hexadecimal digits, UTC dates (20 Table 20.6, 14 R485). -/

namespace Sys2Proof.Machine

/-- ASCII codes of a string. -/
def ascii (t : String) : List Nat := t.toList.map Char.toNat

/-- Decimal digits of a number, at most k of them, no leading zero. -/
def decGo : (k : Nat) → Nat → List Nat → List Nat
  | 0, _, acc => acc
  | k + 1, n, acc => if n < 10 then (48 + n) :: acc else decGo k (n / 10) ((48 + n % 10) :: acc)

/-- A number in decimal. -/
def dec (n : Nat) : List Nat := decGo 40 n []

/-- A number in exactly k decimal digits. -/
def decPad : (k : Nat) → Nat → List Nat
  | 0, _ => []
  | k + 1, n => decPad k (n / 10) ++ [48 + n % 10]

/-- A number in exactly k hexadecimal digits, capitals. -/
def hexPad : (k : Nat) → Nat → List Nat
  | 0, _ => []
  | k + 1, n => hexPad k (n / 16) ++ [if n % 16 < 10 then 48 + n % 16 else 55 + n % 16]

/-- Bytes up to the first zero byte. -/
def cutZero (bs : List Nat) : List Nat := bs.takeWhile (· != 0)

/-- Days since 1970-01-01 of a date of the proleptic Gregorian calendar, years from 1970. -/
def daysOfDate (y m d : Nat) : Nat :=
  let y' := if m ≤ 2 then y - 1 else y
  let era := y' / 400
  let yoe := y' % 400
  let mp := if m > 2 then m - 3 else m + 9
  let doy := (153 * mp + 2) / 5 + d - 1
  era * 146097 + (yoe * 365 + yoe / 4 - yoe / 100 + doy) - 719468

/-- The date (year, month, day) of a number of days since 1970-01-01. -/
def dateOfDays (z : Nat) : Nat × Nat × Nat :=
  let z := z + 719468
  let era := z / 146097
  let doe := z % 146097
  let yoe := (doe - doe / 1460 + doe / 36524 - doe / 146096) / 365
  let doy := doe - (365 * yoe + yoe / 4 - yoe / 100)
  let mp := (5 * doy + 2) / 153
  let d := doy - (153 * mp + 2) / 5 + 1
  let m := if mp < 10 then mp + 3 else mp - 9
  let y := yoe + era * 400
  (if m ≤ 2 then y + 1 else y, m, d)

/-- UTC seconds as "YYYY-MM-DD hh:mm UTC" (20 Table 20.6 code 9). -/
def utcText (s : Nat) : List Nat :=
  let d := dateOfDays (s / 86400)
  let t := s % 86400
  decPad 4 d.1 ++ [45] ++ decPad 2 d.2.1 ++ [45] ++ decPad 2 d.2.2 ++ [32] ++ decPad 2 (t / 3600) ++ [58]
    ++ decPad 2 (t / 60 % 60) ++ ascii " UTC"

end Sys2Proof.Machine
end

