-- ==== Sys2Proof/Machine/Display.lean ====
section
/-! DEFINITION. The e-paper status board (spec/20): layouts and texts, dirty rectangles, regions and frames, panel power,
temperature bands, the content model and last light. -/

namespace Sys2Proof.Machine

/-- The DISPLAY payload in force: the image's, or in NO-CONFIG and RETIRED the stored one (20 R665, R693). -/
def dispRec (s : State) : Option (List W128) :=
  match recOf s 0x90 0 with
  | some p => some p
  | none => if s.life.cond = .noConfig || s.life.cond = .retired then s.epd.stored else none

/-- A field of the DISPLAY payload (20 Table 20.1). -/
def dispFld (s : State) (w hi lo : Nat) : Nat :=
  match dispRec s with
  | some p => payFld p w hi lo
  | none => 0

def dispWidth (s : State) : Nat := dispFld s 0 127 116
def dispHeight (s : State) : Nat := dispFld s 0 115 104
def llEn (s : State) : Bool := dispFld s 0 100 100 == 1
def modeUpdate (s : State) : Nat := dispFld s 0 23 20
def modeFull (s : State) : Nat := dispFld s 0 19 16
def modeLl (s : State) : Nat := dispFld s 0 15 12

/-- The words of a layout: the image's LAYOUT record, or the ROM layout while that is in use (20 R679, R693). -/
def layoutWords (s : State) (n : Nat) : List W128 :=
  if s.epd.romLayout then Config.romLayout n else (recOf s 0x91 n).getD []

/-- Element words of a layout (20 Table 20.4: COUNT). -/
def layoutElems (s : State) (n : Nat) : List W128 :=
  let ws := layoutWords s n
  (ws.drop 1).take (payFld ws 0 99 92)

/-- A string by index: from the STRINGS layout, or from ROM when STRINGS is 0xFF or the string is empty (20 R681). -/
def boardString (s : State) (idx : Nat) : List Nat :=
  let n := dispFld s 1 63 56
  if n = 0xFF || s.epd.romLayout then Config.romString idx
  else
    let ws := layoutWords s n
    let k := 1 + payFld ws 0 99 92 + 2 * idx
    let t := if idx < payFld ws 0 91 84 then cutZero (wordsBytes [ws.getD k 0, ws.getD (k + 1) 0]) else []
    if t.isEmpty then Config.romString idx else t

/-- Gauge level names (21 Table 21.3). -/
def levelName : Nat → List Nat
  | 0 => ascii "CLEAR" | 1 => ascii "HAZE" | 2 => ascii "CLOUD" | 3 => ascii "DUSK" | _ => ascii "NIGHT"

/-- PSTATE codes (10 Table 10.6). -/
def pstCode : PState → Nat
  | .absent => 0 | .outOfService => 1 | .available => 2 | .connected => 3 | .authorised => 4
  | .charging => 5 | .paused => 6 | .ending => 7 | .fault => 8

/-- The text of a field code for a point, as it stands at this boundary (20 Table 20.6, 13 R462). -/
def fieldText (s : State) (code arg point : Nat) : List Nat :=
  let pt := fin? 32 point
  let bind := pt.bind fun i => s.led.binds[i]
  let tag (t : Nat) : List Nat :=
    if t = 0xFFFF then boardString s 11
    else match tenantEntry s t with
      | some e => cutZero (bytesLE 4 (fld e.1 63 32))
      | none => []
  match code with
  | 0 => boardString s arg
  | 1 => ptLabel s point
  | 2 => match pt with
    | some i =>
      let st := s.cp[i].pst
      if st = .available && s.auth[i].pend.isSome then boardString s 9
      else if st = .connected && bind.isNone then boardString s 10
      else boardString s (pstCode st)
    | none => []
  | 3 => match bind with
    | some b => tag b.tenant
    | none => match pt with
      | some i => match s.auth[i].pend with
        | some p => tag p.tenant
        | none => []
      | none => []
  | 4 => match pt, bind with
    | some i, some b =>
      let wh := (s.pmet[i].pubRegs[0] - b.startImp) / 2 ^ 32
      dec (wh / 1000) ++ [46] ++ decPad 2 (wh / 10 % 100)
    | _, _ => []
  | 5 => [84, 48 + s.gates.tariffSnap]
  | 6 => match pt with
    | some i => if s.auth[i].lastReason = 0 then [] else boardString s (15 + s.auth[i].lastReason)
    | none => []
  | 7 => cutZero (bytesLE 16 (cfg s 0x10 0 1 127 0) ++ bytesLE 16 (cfg s 0x10 0 2 127 0))
  | 8 => dec (nodeId s)
  | 9 => utcText s.clk.rtcS
  | 10 => levelName s.sen.level
  | 11 => utcText s.sen.outRtc
  | 12 => dec (nodeId s) ++ [47] ++ dec point
  | 13 => hexPad 16 s.life.serial
  | _ => []

/-- One TEXT element as it is to be drawn: its key and text, its rectangle on the panel, whether its field ticks. -/
abbrev LiveText := Drawn × Rect × Bool

/-- A TEXT element word at an origin, for a point (20 Table 20.5). -/
def liveText (s : State) (layout elem point ox oy : Nat) (w : W128) : Option LiveText :=
  if fld w 127 124 = 3 then
    let code := fld w 61 54
    some ({ layout, elem, point, text := (fieldText s code (fld w 53 38) point).take 32 },
      { x := ox + fld w 123 112, y := oy + fld w 111 100, w := fld w 99 88, h := fld w 87 76 },
      code == 4 || code == 9)
  else none

/-- The TEXT elements of one layout at an origin, in element order. -/
def layoutTexts (s : State) (layout point ox oy : Nat) : List LiveText :=
  ((layoutElems s layout).zipIdx).filterMap fun e => liveText s layout e.2 point ox oy e.1

/-- A PANES element: its pane layout once for each fitted point index (20 R680). -/
def panesTexts (s : State) (w : W128) : List LiveText :=
  let cols := max 1 (fld w 37 30)
  ((List.range 32).filter (hasPoint s)).flatMap fun i =>
    layoutTexts s (fld w 53 38) i (fld w 123 112 + i % cols * fld w 99 88) (fld w 111 100 + i / cols * fld w 87 76)

/-- Every TEXT element of a whole-panel layout, in element order, panes by ascending point index (20 R687). -/
def boardTexts (s : State) (layout : Nat) : List LiveText :=
  ((layoutElems s layout).zipIdx).flatMap fun e =>
    if fld e.1 127 124 = 4 then panesTexts s e.1
    else (liveText s layout e.2 255 0 0 e.1).toList

/-- The live board. -/
def liveBoard (s : State) : List LiveText := boardTexts s (dispFld s 1 79 72)

/-- Whether two rectangles share a pixel. -/
def Rect.meets (a b : Rect) : Bool :=
  decide (a.x < b.x + b.w) && decide (b.x < a.x + a.w) && decide (a.y < b.y + b.h) && decide (b.y < a.y + a.h)

/-- The bounding rectangle of two. -/
def Rect.join (a b : Rect) : Rect :=
  let x := min a.x b.x
  let y := min a.y b.y
  { x, y, w := max (a.x + a.w) (b.x + b.w) - x, h := max (a.y + a.h) (b.y + b.h) - y }

/-- Merge a rectangle into a queue until no two overlap, with fuel (20 R684). -/
def mergeRect : (fuel : Nat) → List Rect → Rect → Nat → List Rect
  | 0, q, r, pos => q.take pos ++ [r] ++ q.drop pos
  | n + 1, q, r, pos =>
    match q.findIdx? r.meets with
    | none => q.take pos ++ [r] ++ q.drop pos
    | some i => mergeRect n (q.eraseIdx i) (r.join (q.getD i {})) (min pos i)

/-- Mark a rectangle dirty: at most 16 are queued, a 17th merges all (20 R684). -/
def markRect (q : List Rect) (r : Rect) : List Rect :=
  let q' := mergeRect 17 q r q.length
  if q'.length ≤ 16 then q' else [q'.foldl Rect.join (q'.headD {})]

/-- The regions in order. -/
def epdRegions (s : State) : List Region := s.epd.regions.toList

/-- The text last drawn for an element: in a running region, else on the panel. -/
def lastDrawn (s : State) (k : Drawn) : Option Drawn :=
  let same := fun (d : Drawn) => d.layout == k.layout && d.elem == k.elem && d.point == k.point
  match ((epdRegions s).filter (·.active)).findSome? fun r => r.texts.find? same with
  | some d => some d
  | none => s.epd.drawn.find? same

/-- Whether a ticking element may be marked again: TICK_MIN cy since the commit that last covered it (20 R684). -/
def tickReady (s : State) (k : Drawn) : Bool :=
  match s.epd.lastTickAt.find? fun e => e.1 == k.layout && e.2.1 == k.elem && e.2.2.1 == k.point with
  | some e => decide (e.2.2.2 + dispFld s 1 55 40 ≤ s.clk.bndTot)
  | none => true

/-- DIRTY_MARK: changed texts mark their rectangles dirty at a boundary (20 R684). -/
def dspMark (s : State) : State :=
  if (dispRec s).isNone || !s.epd.released || s.sen.mlSig || s.epd.panel = 0 then s
  else
    let dirty := (liveBoard s).filter fun t => lastDrawn s t.1 != some t.1 && (!t.2.2 || tickReady s t.1)
    s.modEpd fun e => { e with queue := dirty.foldl (fun q t => markRect q t.2.1) e.queue }

/-- The older and the newer copy of the content model: true when copy A is the older (20 R691). -/
def modelAOlder (s : State) : Bool :=
  !s.epd.modelA.good || (s.epd.modelB.good && decide (s.epd.modelA.seq < s.epd.modelB.seq))

/-- Digest of the content model: the display records and the hashes of the blocks they name (20 R691). -/
def modelDigest (s : State) : Nat :=
  let recs := s.img.recs.filter fun r => r.typ == 0x90 || r.typ == 0x91 || r.typ == 0x92
  let blocks := recs.flatMap fun r =>
    if r.typ = 0x91 then
      ((r.pay.drop 1).take (payFld r.pay 0 99 92)).filterMap fun w => if fld w 127 124 = 2 then some (fld w 53 38) else none
    else if r.typ = 0x92 then (r.pay.drop 1).map fun w => fld w 127 112
    else []
  Config.sha256 (((recs.flatMap (·.pay)).map BitVec.toNat) ++
    blocks.flatMap fun b => [cfg s 0xC0 0 (1 + 2 * b) 127 0, cfg s 0xC0 0 (2 + 2 * b) 127 0])

/-- CONTENT_MODEL_WRITE: DSP writes the older copy with the texts on the panel and the flags given (20 R691). -/
def modelWrite (lastLight unknown inProgress : Bool) (s : State) : State :=
  let c : ModelCopy :=
    { good := true, seq := max s.epd.modelA.seq s.epd.modelB.seq + 1, gen := s.img.gen, digest := modelDigest s,
      lastLight, unknown, inProgress, romLayout := s.epd.romLayout, romFont := s.epd.romFont, entries := s.epd.drawn }
  if modelAOlder s then s.modEpd fun e => { e with modelA := c } else s.modEpd fun e => { e with modelB := c }

/-- The model write of the boundary after a copy-back. -/
def dspModel (s : State) : State :=
  if s.epd.copyDue then (modelWrite false s.epd.unknown false s).modEpd fun e => { e with copyDue := false } else s

/-- The waveform table of a mode and band: mode, band and FRAMES, the built-in one (15, 15, 24) where there is no usable
table; event 0x8005 once per malformed table (20 R671 to R673). -/
def waveTable (s : State) (mode band : Nat) (malformed : Bool) : Nat × Nat × Nat × State :=
  match recOf s 0x93 0 with
  | none => (15, 15, 24, s)
  | some p =>
    let bands := payFld p 0 123 120 + 1
    let e := mode * bands + band
    let w := payFld p (4 + e / 4) (32 * (e % 4) + 31) (32 * (e % 4))
    if s.epd.romLayout || s.img.faulty.contains (w / 2 ^ 16) then (15, 15, 24, s)
    else if malformed then
      if s.epd.badTables.contains (16 * mode + band) then (15, 15, 24, s)
      else (15, 15, 24, raise 0x8005 7 255 (mode * 2 ^ 24 + band * 2 ^ 16)
        (s.modEpd fun x => { x with badTables := (16 * mode + band) :: x.badTables }))
    else (mode, band, bits w 15 8, s)

/-- The band of a temperature (20 R671). -/
def bandOf (s : State) (t : Int) : Nat :=
  match recOf s 0x93 0 with
  | none => 0
  | some p =>
    let bands := payFld p 0 123 120 + 1
    ((List.range (bands - 1)).find? fun b =>
      decide (t < ofTwos 16 (payFld p (1 + b / 8) (16 * (b % 8) + 15) (16 * (b % 8))))).getD (bands - 1)

/-- Whether a temperature lies outside the update limits LOW and HIGH (20 R671, R686). -/
def tempOut (s : State) (t : Int) : Bool :=
  match recOf s 0x93 0 with
  | none => false
  | some p => decide (t < ofTwos 16 (payFld p 0 119 104)) || decide (ofTwos 16 (payFld p 0 103 88) < t)

/-- SEN's reading of R is converted; outside 100 Ohm to 2 MOhm it is a thermistor fault, and the band of the last valid
reading, or band 0, is used (20 R670, R686). -/
def thermTake (r : Nat) (s : State) : State :=
  if r < 100 || 2000000 < r then
    let first := !runOn s.epd.thermRun (nowS s)
    raiseIf first 0x8003 7 255 (min r (2 ^ 32 - 1))
      (s.modEpd fun e => { e with temp := none, thermRun := some (nowS s) })
  else
    let t := Config.thermistor r (dispFld s 1 127 96) (dispFld s 1 95 80)
    s.modEpd fun e => { e with temp := some t, band := bandOf s t }

/-- The region entry that a commit writes (20 R675, R678). -/
def mkRegion (s : State) (rect : Rect) (tab : Nat × Nat × Nat) (late full ll : Bool) (texts : List LiveText) : Region :=
  { active := true, rect, mode := tab.1, band := tab.2.1, frame := 0, frames := tab.2.2
    startCnt := s.clk.count % 2 ^ 48
    wait := if s.epd.panel = 3 then (if late then 2 else 1) else 0
    isFull := full, lastLight := ll
    texts := (texts.filter fun t => t.2.1.meets rect).map (·.1) }

/-- Index of the first free region. -/
def freeRegion (s : State) : Option (Fin 4) := (finList 4).find? fun k => !s.epd.regions[k].active

/-- A commit: the region entry is written, the ticking elements it covers are stamped, and a panel that is off powers up
(20 R668, R675, R678, R684). -/
def commitRegion (k : Fin 4) (r : Region) (s : State) : State :=
  s.modEpd fun e =>
    { e with
      regions := e.regions.set k r
      lastTickAt := (r.texts.map fun d => (d.layout, d.elem, d.point, s.clk.bndTot)) ++
        e.lastTickAt.filter fun x => !(r.texts.any fun d => d.layout == x.1 && d.elem == x.2.1 && d.point == x.2.2.1)
      panel := if e.panel = 1 then 2 else e.panel
      pwrEn := if e.panel = 1 then true else e.pwrEn
      builtin := r.mode == 15 }

/-- The whole panel. -/
def wholePanel (s : State) : Rect := { x := 0, y := 0, w := dispWidth s, h := dispHeight s }

/-- Whether an update may start at all: a board, DSP released, no mains loss, no postponement or wait for a retry. -/
def epdReady (s : State) : Bool :=
  (dispRec s).isSome && s.epd.released && !s.sen.mlSig && s.epd.panel != 0 && s.epd.panel != 5 && s.epd.retryAt = 0

/-- DISPLAY_COMMIT: DSP commits the queue head once it overlaps no running region and a region is free; a whole-panel
update that is due goes first, when no region runs. Without a band it asks for the thermistor reading instead
(20 R676, R677, R685, R688, R692). `late`: the commit word was written at or after the start of the last active line.
`malformed`: the fetched table holds the code 11 or, for mode 0, depends on the old state. -/
def execDisplayCommit (late malformed : Bool) (s : State) : Host.Outcome State Fault Refusal :=
  .next <|
    if !epdReady s then s
    else
      let none_run := (epdRegions s).all fun r => !r.active
      let whole := s.epd.firstWhole && none_run
      let head : Option Rect :=
        if whole then some (wholePanel s)
        else match s.epd.queue with
          | q :: _ => if s.epd.firstWhole || (epdRegions s).any fun r => r.active && r.rect.meets q then none else some q
          | [] => none
      match head, freeRegion s with
      | some rect, some k =>
        match s.epd.bandFor with
        | none => s.modEpd fun e => { e with readPend := true }
        | some band =>
          let mode := if whole then 0 else modeUpdate s
          let t := waveTable s mode band malformed
          let s := t.2.2.2
          let r := mkRegion s rect (t.1, t.2.1, t.2.2.1) late false false (liveBoard s)
          (commitRegion k r s).modEpd fun e =>
            { e with queue := if whole then [] else e.queue.drop 1, bandFor := none, firstWhole := e.firstWhole && !whole }
      | _, _ => s

/-- THERMISTOR_RESULT: SEN returns R; DSP takes the temperature, and the band of the update that waits, or postpones the
update when the temperature lies outside LOW to HIGH (20 R670, R676, R686). -/
def execThermistorResult (r : Nat) (s : State) : Host.Outcome State Fault Refusal :=
  .next <|
    let asked := s.epd.readPend
    let s := thermTake r (s.modEpd fun e => { e with readPend := false })
    if !asked then s
    else match s.epd.temp with
      | some t =>
        if tempOut s t then
          raise 0x8004 7 255 (twos 32 t)
            (s.modEpd fun e => { e with postponed := true, retryAt := s.clk.bndTot + 3000 })
        else s.modEpd fun e => { e with bandFor := some e.band }
      | none => s.modEpd fun e => { e with bandFor := some e.band }

/-- Copy-back of a region: its texts are what the panel shows (20 R675). -/
def copyBack (r : Region) (e : Epd) : Epd :=
  { e with
    drawn := r.texts ++ e.drawn.filter fun d =>
      !(r.texts.any fun t => t.layout == d.layout && t.elem == d.elem && t.point == d.point)
    updates := inc32 e.updates
    unknown := if r.isFull || r.mode = 0 then false else e.unknown
    copyDue := true }

/-- One region at the end of a frame: a pending commit comes nearer, a running region goes on or ends. -/
def regionFrame (r : Region) : Region × Bool :=
  if !r.active then (r, false)
  else if 0 < r.wait then ({ r with wait := r.wait - 1 }, false)
  else if r.frame + 1 < r.frames then ({ r with frame := r.frame + 1 }, false)
  else ({ r with active := false, frame := r.frames }, true)

/-- Power the panel down (20 R668). -/
def panelDown (e : Epd) : Epd := { e with panel := 4, pwrEn := false, vcom := 0, faultRun := 0 }

/-- Abandon every running region (20 R688, R694). -/
def abandonAll (e : Epd) : Epd := { e with regions := vmap (fun r => { r with active := false, wait := 0 }) e.regions }

/-- Number of running regions. -/
def runningN (s : State) : Nat := ((epdRegions s).filter (·.active)).length

/-- Abandonment at mains loss: the model is marked UNKNOWN with event 0x8009 (20 R694). -/
def epdAbandonLoss (s : State) : State :=
  let n := runningN s
  if n = 0 then s
  else
    let s := raise 0x8009 7 255 n ((s.modEpd abandonAll).modEpd fun e => { e with unknown := true })
    modelWrite false true false s

/-- PANEL_FRAME: a frame ends. Sampled commits take effect, running regions advance, an ended region is copied back, and
a frame with an empty region set powers the panel down; from the mains-loss signal running regions are abandoned
(20 R675, R678, R694). -/
def execPanelFrame (s : State) : Host.Outcome State Fault Refusal :=
  .next <|
    if s.epd.panel ≠ 3 then s
    else if s.sen.mlSig && !s.epd.lastLight then epdAbandonLoss s
    else if runningN s = 0 then (if s.epd.lastLight then s else s.modEpd panelDown)
    else
      let stepped := (epdRegions s).map regionFrame
      let ended := (((epdRegions s).zip stepped).filter fun p => p.2.2).map (·.1)
      let s := s.modEpd fun e =>
        { e with
          regions := vmap (fun r => (regionFrame r).1) e.regions
          llFrames := if e.lastLight then e.llFrames + 1 else 0 }
      s.modEpd fun e => ended.foldl (fun e r => copyBack r e) e

/-- EPD_POWER_GOOD: EPD_PWR_GOOD reads high within PWR_TIMEOUT; VCOM is set and the first frame begins with every pending
commit (20 R668, R678). -/
def execEpdPowerGood (s : State) : Host.Outcome State Fault Refusal :=
  .next <|
    if s.epd.panel = 2 then
      s.modEpd fun e =>
        { e with panel := 3, pwrGood := true, vcom := dispFld s 0 47 32 * 5,
                 regions := vmap (fun r => { r with wait := 0 }) e.regions }
    else s.modEpd fun e => { e with pwrGood := true }

/-- A power fault of the panel (20 R688). -/
def epdFault (code arg : Nat) (s : State) : State :=
  let run := min 3 (s.epd.faultRun + 1)
  raise code 7 255 arg
    ((s.modEpd abandonAll).modEpd fun e =>
      { e with pwrEn := false, pwrGood := false, vcom := 0, unknown := true, firstWhole := true, faultRun := run
               faults := inc16 e.faults, bandFor := none
               panel := if run < 3 then 1 else 5
               retryAt := if run < 3 then e.retryAt else s.clk.bndTot + 3000 })

/-- EPD_POWER_TIMEOUT: EPD_PWR_GOOD failed to rise within PWR_TIMEOUT (20 R688). -/
def execEpdPowerTimeout (s : State) : Host.Outcome State Fault Refusal :=
  .next <| if s.epd.panel = 2 then epdFault 0x8001 (min 3 (s.epd.faultRun + 1)) s else s

/-- EPD_POWER_LOST: EPD_PWR_GOOD falls. While the rails are commanded on it is a power fault; after a power-down it is the
low reading that lets EPD_PWR_EN rise again, at once when a commit is pending (20 R668, R688). -/
def execEpdPowerLost (s : State) : Host.Outcome State Fault Refusal :=
  .next <|
    if s.epd.panel = 3 then epdFault 0x8002 (runningN s) s
    else if s.epd.panel = 4 then
      let more := runningN s != 0
      s.modEpd fun e => { e with pwrGood := false, panel := if more then 2 else 1, pwrEn := more }
    else s.modEpd fun e => { e with pwrGood := false }

/-- FULL_REFRESH: FULL_INT hours after the last full refresh, with no region running, DSP empties the queue and commits the
whole panel under MODE_FULL with the reading R taken for it; outside LOW to HIGH it uses the built-in waveform at once
(20 R685, R686). -/
def execFullRefresh (r : Nat) (late malformed : Bool) (s : State) : Host.Outcome State Fault Refusal :=
  .next <|
    let int := dispFld s 1 39 32
    if !epdReady s || int = 0 || nowS s < s.epd.fullS + int * 3600 || runningN s ≠ 0 then s
    else
      let s := thermTake r s
      let out := match s.epd.temp with
        | some t => tempOut s t
        | none => false
      let t := if out then (15, 15, 24, s) else waveTable s (modeFull s) s.epd.band malformed
      let s := t.2.2.2
      match freeRegion s with
      | some k =>
        let reg := mkRegion s (wholePanel s) (t.1, t.2.1, t.2.2.1) late true false (liveBoard s)
        (commitRegion k reg s).modEpd fun e =>
          { e with queue := [], fullCount := s.clk.count, fullS := nowS s, firstWhole := false, bandFor := none }
      | none => s

/-- DISPLAY_RETRY: 3 000 cy after a postponement or the third power fault, the update is tried again (20 R686, R688). -/
def execDisplayRetry (s : State) : Host.Outcome State Fault Refusal :=
  .next <|
    if s.epd.retryAt = 0 || s.clk.bndTot < s.epd.retryAt then s
    else s.modEpd fun e =>
      { e with retryAt := 0, postponed := false, panel := if e.panel = 5 then 1 else e.panel, readPend := true }

/-- The content model that DSP takes at RUN: the good copy of the later write (20 R692). -/
def modelTaken (s : State) : Option ModelCopy :=
  let a := s.epd.modelA
  let b := s.epd.modelB
  if a.good && (!b.good || decide (b.seq < a.seq)) then some a else if b.good then some b else none

/-- MODEL code of a start: 0 rebuilt, 1 none stored, 2 no good copy, 3 digest differs, 4 board unknown, 5 asset fault,
6 ROM layout in use (20 Table 20.8). -/
def modelFate (assetFault : Bool) (s : State) : Nat :=
  match modelTaken s with
  | none => if s.epd.modelA.seq = 0 && s.epd.modelB.seq = 0 then 1 else 2
  | some c =>
    if c.digest ≠ modelDigest s then 3
    else if c.unknown || c.inProgress then 4
    else if c.romLayout then 6
    else if assetFault then 5
    else 0

/-- CONTENT_MODEL_REBUILD: DSP is released at RUN (20 R692, R664). -/
def epdRelease (assetFault : Bool) (s : State) : State :=
  if (recOf s 0x90 0).isNone then s.modEpd fun e => { e with panel := 0, released := true }
  else
    let m := modelFate assetFault s
    let drawn := match modelTaken s with
      | some c => if m = 0 then c.entries else []
      | none => []
    raiseIf (m != 0) 0x8006 7 255 m
      (s.modEpd fun e =>
        { e with released := true, model := m, panel := 1, drawn, firstWhole := m != 0, unknown := m != 0,
                 romLayout := false, romFont := false, builtin := (recOf s 0x93 0).isNone, fullS := nowS s,
                 stored := recOf s 0x90 0 })

/-- In NO-CONFIG and RETIRED the board is driven from the stored DISPLAY record, in ROM layout, font and waveform
(20 R693). -/
def epdRom (s : State) : State :=
  match s.epd.stored with
  | none => s.modEpd fun e => { e with panel := 0, released := true }
  | some _ => s.modEpd fun e =>
    { e with panel := 1, released := true, romLayout := true, romFont := true, builtin := true, firstWhole := true,
             fullS := nowS s }

/-- Last light, from the outage sequence: drive the last-light layout over the whole panel, or say why not
(20 R694, 21 R708). `permit`: the permit level allows it. -/
def epdLastLight (permit : Bool) (s : State) : State :=
  let s := epdAbandonLoss s
  let why := if (dispRec s).isNone then 3 else if !llEn s then 1 else if !permit then 2 else 0
  if why ≠ 0 then raise 0x8008 7 255 why (s.modEpd fun e => { e with ll := 2 })
  else
    let s := modelWrite false s.epd.unknown true s
    let t := waveTable s (if s.epd.unknown then 0 else modeLl s) s.epd.band false
    let s := t.2.2.2
    let reg := mkRegion s (wholePanel s) (t.1, t.2.1, t.2.2.1) false true true (boardTexts s (dispFld s 1 71 64))
    (commitRegion 0 reg (s.modEpd fun e => { e with lastLight := true, llFrames := 0, queue := [] }))
      |>.modSen fun v => { v with vback := true }

end Sys2Proof.Machine
end

