-- ==== Sys2Proof/Machine/PhyCode.lean ====
section
/-! DEFINITION. The signals of the Acrad PHY up to the bits that each carrier bears: on-carriers, frame control, scrambler, code,
interleaver and mapping (17 R566 to R581), and the bit loading of tone maps (R586 to R590). -/

namespace Sys2Proof.Machine

/-! Carriers (17 R568, R569). -/

/-- Carriers that the built-in default takes off (17 Table 17.4). -/
def defaultNotch (k : Nat) : Bool :=
  [(74, 82), (143, 164), (219, 220), (286, 300), (413, 416)].any fun r => decide (r.1 ≤ k) && decide (k ≤ r.2)

/-- Word w of the shaping block in force: words 1 to 33 of LINK; zero without one. -/
def shapeWord (s : State) (w : Nat) : W128 := match recOf s 0x60 0 with
  | some p => p.getD (1 + w) 0
  | none => 0

/-- The built-in default applies. -/
def shapeDefault (s : State) : Bool := (recOf s 0x60 0).isNone || fld (shapeWord s 0) 127 127 == 1

/-- MARGIN in 0.5 dB (17 Table 17.3, R569). -/
def shapeMargin (s : State) : Nat := if shapeDefault s then 6 else fld (shapeWord s 0) 111 104

/-- Gain code of carrier k. -/
def gainOf (s : State) (k : Nat) : Nat :=
  if shapeDefault s then (if defaultNotch k then 0 else 1)
  else
    let i := k - 74
    fld (shapeWord s (6 + i / 16)) (8 * (i % 16) + 7) (8 * (i % 16))

/-- The on-carriers, ascending (17 R566, R570). -/
def onCarriers (s : State) : List Nat := ((List.range 417).map (74 + ·)).filter fun k => gainOf s k != 0

/-! Bits (17 R573 to R577). -/

/-- The n low bits of a number, highest first. -/
def bitsMsb (n w : Nat) : List Bool := ((List.range n).map fun i => bitOf w i).reverse

/-- The bits of bytes, each least significant bit first. -/
def bitsOfBytes (bs : List Nat) : List Bool := bs.flatMap fun b => (List.range 8).map fun i => bitOf b i

/-- CRC-16 of a frame control: polynomial 0x1021, initial value 0xFFFF (17 R573). -/
def crc16 (bs : List Bool) : Nat :=
  (bs.foldl (fun (c : BitVec 16) b => if c.getLsbD 15 != b then (c <<< 1) ^^^ 0x1021#16 else c <<< 1) 0xFFFF#16).toNat

/-- Parity of a seven-bit number. -/
def parity7 (n : Nat) : Bool := (List.range 7).foldl (fun p i => p != bitOf n i) false

/-- The convolutional code: constraint length 7, generators 133 and 171, from the zero state (17 R576). -/
def convolve : (st : Nat) → List Bool → List (Bool × Bool)
  | _, [] => []
  | st, b :: bs =>
    let r := 64 * b2n b + st
    (parity7 (r &&& 0x5B), parity7 (r &&& 0x79)) :: convolve (r / 2) bs

/-- Puncturing by RATE code (17 Table 17.6). -/
def puncture (rate : Nat) (l : List (Bool × Bool)) : List Bool :=
  l.zipIdx.flatMap fun e =>
    if rate = 1 then if e.2 % 2 = 0 then [e.1.1, e.1.2] else [e.1.1]
    else if rate = 2 then if e.2 % 3 = 0 then [e.1.1, e.1.2] else if e.2 % 3 = 1 then [e.1.1] else [e.1.2]
    else [e.1.1, e.1.2]

/-- The block interleaver of 24 columns: written row by row, read column by column (17 R577). -/
def interleave (l : List Bool) : List Bool :=
  (List.range 24).flatMap fun c => (l.zipIdx.filter fun e => e.2 % 24 == c).map (·.1)

/-- n bits of the scrambler from a state (17 R575, R581). -/
def scrambler : (n : Nat) → (st : Nat) → List Bool
  | 0, _ => []
  | n + 1, st =>
    let b := bitOf st 6 != bitOf st 3
    b :: scrambler n ((2 * st + b2n b) % 128)

/-- Coded and interleaved bits of a block of 128 bytes with its CRC-32 (17 R575 to R577). -/
def blockBits (rate : Nat) (data : List Nat) : List Bool :=
  let d := (data ++ List.replicate 128 0).take 128
  let raw := bitsOfBytes (d ++ bytesLE 4 (crc32 d))
  let scr := (raw.zip (scrambler 1056 127)).map fun e => e.1 != e.2
  interleave (puncture rate (convolve 0 (scr ++ List.replicate 6 false)))

/-- Coded and interleaved bits of a frame control (17 R573). -/
def fcCoded (fc : Nat) : List Bool :=
  let f := bitsMsb 64 fc
  interleave (puncture 0 (convolve 0 (f ++ bitsMsb 16 (crc16 f) ++ List.replicate 6 false)))

/-- Coded bits of a block by RATE code (17 R576). -/
def codedLen (rate : Nat) : Nat := if rate = 1 then 1593 else if rate = 2 then 1416 else 2124

/-! Tone maps (17 R589, Table 17.9). -/

def tmTmi (m : List W128) : Nat := fld (m.getD 0 0) 127 124
def tmRate (m : List W128) : Nat := fld (m.getD 0 0) 123 122
def tmClass (m : List W128) : Nat := fld (m.getD 0 0) 121 120
def tmClassMap (m : List W128) : Nat := fld (m.getD 0 0) 119 108
def tmGen (m : List W128) : Nat := fld (m.getD 0 0) 95 64
def tmOn (m : List W128) : Nat := fld (m.getD 0 0) 63 48
def tmBits (m : List W128) : Nat := fld (m.getD 0 0) 47 32
def tmTx (m : List W128) : Nat := fld (m.getD 0 0) 31 24
def tmRx (m : List W128) : Nat := fld (m.getD 0 0) 23 16

/-- Code of carrier 74 + i. -/
def tmCode (m : List W128) (i : Nat) : Nat := fld (m.getD (1 + i / 42) 0) (3 * (i % 42) + 2) (3 * (i % 42))

/-- Bits of a modulation code (17 Table 17.8). -/
def modBits : Nat → Nat
  | 1 => 1 | 2 => 2 | 3 => 3 | 4 => 4 | 5 => 6 | 6 => 8 | _ => 0

/-- Class of noise slot σ in a CLASS_MAP. -/
def classOf (cm σ : Nat) : Nat := bits cm (11 - 2 * σ) (10 - 2 * σ)

/-- Word 0 of a tone map. -/
def tmWord (tmi rate cls cm gen on bitsN tx rx : Nat) : W128 :=
  mkWord [(124, tmi), (122, rate), (120, cls), (108, cm), (64, gen), (48, on), (32, bitsN), (24, tx), (16, rx)]

/-- The words of a tone map from its codes. -/
def tmWords (tmi rate cls cm gen tx rx : Nat) (codes : List Nat) : List W128 :=
  tmWord tmi rate cls cm gen (codes.filter (· != 0)).length (codes.map modBits).sum tx rx
    :: (List.range 10).map fun w => mkWord (((codes.drop (42 * w)).take 42).zipIdx.map fun e => (3 * e.2, e.1))

/-- The first failing condition of 17 R590, 0 if the map may be loaded. -/
def tmRefusal (s : State) (m : List W128) : Nat :=
  let codes := (List.range 417).map (tmCode m)
  if codes.any (· == 7) then 1
  else if codes.zipIdx.any fun e => e.1 != 0 && gainOf s (74 + e.2) == 0 then 2
  else if tmOn m = 0 || tmOn m ≠ (codes.filter (· != 0)).length then 3
  else if tmBits m ≠ (codes.map modBits).sum then 4
  else if tmClass m = 0 || (List.range 6).any (fun σ => classOf (tmClassMap m) σ == 0) then 5
  else if fld (m.getD 0 0) 107 96 ≠ 0 || fld (m.getD 0 0) 15 0 ≠ 0 || m.length ≠ 11
      || ((m.drop 1).zipIdx.any fun e => fld e.1 127 126 != 0)
      || (List.range 3).any (fun j => tmCode m (417 + j) != 0) then 6
  else 0

/-! Symbols (17 R578 to R581). -/

/-- Payload symbols in ROBO for N on-carriers (17 R580). -/
def roboSymbols (n pbs : Nat) : Nat :=
  let m := n / 4
  if m = 0 then 0 else (pbs * 2124 + 2 * m - 1) / (2 * m)

/-- Payload symbols under a tone map (17 R578). -/
def tmSymbols (m : List W128) (pbs : Nat) : Nat :=
  if tmBits m = 0 then 0 else (pbs * codedLen (tmRate m) + tmBits m - 1) / tmBits m

/-- Deal a bit stream to carriers symbol by symbol: each takes as many bits as it holds (17 R578). -/
def dealSymbol : List (Nat × Nat) → List Bool → List (Nat × List Bool)
  | [], _ => []
  | c :: cs, bs => (c.1, bs.take c.2) :: dealSymbol cs (bs.drop c.2)

def dealSymbols (cs : List (Nat × Nat)) (per : Nat) : (n : Nat) → List Bool → List (List (Nat × List Bool))
  | 0, _ => []
  | n + 1, bs => dealSymbol cs bs :: dealSymbols cs per n (bs.drop per)

/-- A ROBO symbol: the j-th on-carrier carries value j mod M of the symbol's M values of two bits (17 R579, R580). -/
def roboSymbol (on : List Nat) (m : Nat) (bs : List Bool) : List (Nat × List Bool) :=
  on.zipIdx.map fun e => (e.1, (bs.drop (2 * (e.2 % m))).take 2)

def roboDeal (on : List Nat) (m : Nat) : (n : Nat) → List Bool → List (List (Nat × List Bool))
  | 0, _ => []
  | n + 1, bs => roboSymbol on m bs :: roboDeal on m n (bs.drop (2 * m))

/-- Fields of a frame control (17 Table 17.5). -/
def fcType (fc : Nat) : Nat := bits fc 63 60
def fcSrc (fc : Nat) : Nat := bits fc 59 52
def fcDst (fc : Nat) : Nat := bits fc 51 44
def fcBcast (fc : Nat) : Bool := bitOf fc 43
def fcTmi (fc : Nat) : Nat := bits fc 42 39
def fcSymbols (fc : Nat) : Nat := bits fc 38 31
def fcPbs (fc : Nat) : Nat := bits fc 30 27
def fcCpl (fc : Nat) : Nat := bits fc 26 25
def fcMac (fc : Nat) : Nat := bits fc 15 0

/-- The frame control with the coupler that sends it in CPL (17 Table 17.5). -/
def fcWithCpl (fc c : Nat) : Nat := fc - fcCpl fc * 2 ^ 25 + c * 2 ^ 25

/-- A frame control from its fields. -/
def fcWord (typ src dst : Nat) (bcast : Bool) (tmi symbols pbs cpl mac : Nat) : Nat :=
  typ * 2 ^ 60 + src * 2 ^ 52 + (if bcast then 0 else dst) * 2 ^ 44 + b2n bcast * 2 ^ 43 + tmi * 2 ^ 39 + symbols * 2 ^ 31
    + pbs * 2 ^ 27 + cpl * 2 ^ 25 + mac

/-- A tone map in use: for sending to a neighbour, or for receiving from it, by TMI (17 R589). -/
def mapOf (s : State) (peer tmi : Nat) (sending : Bool) : Option (List W128) :=
  (s.phy.maps.find? fun m => m.peer == peer && m.sending == sending && m.inUse && tmTmi m.words == tmi).map (·.words)

/-- Payload symbols of PBS blocks under TMI; none: the map is not held (17 R578, R580). -/
def symbolsFor (s : State) (peer tmi pbs : Nat) (sending : Bool) : Option Nat :=
  if tmi = 0 then some (roboSymbols (onCarriers s).length pbs) else (mapOf s peer tmi sending).map fun m => tmSymbols m pbs

/-- Length of a frame in microseconds: preamble, frame control, payload (17 R581). -/
def frameUs (symbols : Nat) : Rat := 256 / 5 + (1 + symbols) * (1152 / 25)

/-- The payload bits on the carriers of a frame sent (17 R578 to R581). -/
def frameTones (s : State) (r : TxReq) : List (List (Nat × List Bool)) :=
  let fc := r.fc.toNat
  let on := onCarriers s
  let n := fcSymbols fc
  if fcType fc = 3 then dealSymbols (on.map fun k => (k, 2)) (2 * on.length) n (scrambler (2 * on.length * n) (fcSrc fc % 127 + 1))
  else if fcType fc = 2 then []
  else
    match if fcTmi fc = 0 then none else mapOf s (fcDst fc) (fcTmi fc) true with
    | some m =>
      let cs := ((List.range 417).map fun i => (74 + i, modBits (tmCode m i))).filter fun c => c.2 != 0
      let body := r.blocks.flatMap (blockBits (tmRate m))
      dealSymbols cs (tmBits m) n (body ++ (scrambler (1056 + tmBits m) 127).drop 1056)
    | none =>
      let body := r.blocks.flatMap (blockBits 0)
      roboDeal on (on.length / 4) n (body ++ (scrambler (1056 + 2 * on.length) 127).drop 1056)

/-! Noise and bit loading (17 R585 to R588). -/

/-- Mean noise of slot σ over the on-carriers, in 1/16 of 0.5 dB. -/
def meanNoise (s : State) (σ : Nat) : Rat :=
  let on := onCarriers s
  let l := s.phy.noise.toList.getD σ []
  if on.isEmpty then 0 else (((on.map fun k => l.getD (k - 74) 0).foldl (· + ·) 0 : Int) : Rat) / on.length

/-- Grouping of slots into classes: the lowest mean and every slot within 3 dB of it; class 3 takes all that remain
(17 R586). -/
def groupClasses : (cls fuel : Nat) → List (Nat × Rat) → List (Nat × Nat)
  | _, 0, _ => []
  | _, _, [] => []
  | cls, fuel + 1, e :: es =>
    let l := e :: es
    let q := l.foldl (fun m x => if x.2 < m then x.2 else m) e.2
    let member := fun (x : Nat × Rat) => cls == 3 || decide (x.2 ≤ q + 96)
    (l.filter member).map (fun x => (x.1, cls)) ++ groupClasses (cls + 1) fuel (l.filter fun x => !member x)

/-- The class map of the noise table. -/
def classMapNow (s : State) : Vector Nat 6 :=
  let g := groupClasses 1 3 ((List.range 6).map fun σ => (σ, meanNoise s σ))
  ⟨((List.range 6).map fun σ => (kget? σ g).getD 1).toArray, by simp⟩

/-- A class map as the 12 bits of CLASS_MAP. -/
def classMapBits (v : Vector Nat 6) : Nat := (v.toList.zipIdx.map fun e => e.1 * 2 ^ (10 - 2 * e.2)).sum

/-- Thresholds of 17 Table 17.8 in 0.5 dB, by modulation code and RATE. -/
def loadThreshold (code rate : Nat) : Int :=
  ((([[8, 11, 13], [14, 17, 19], [21, 24, 26], [26, 29, 31], [38, 41, 43], [50, 53, 55]] : List (List Int)).getD (code - 1) []).getD rate 0)

/-- The highest modulation whose threshold plus margin does not exceed an SNR in 1/16 of 0.5 dB. -/
def loadCode (margin : Nat) (rate : Nat) (snr : Rat) : Nat :=
  (List.range 7).foldl (fun best c => if 1 ≤ c && decide (((loadThreshold c rate + margin) * 16 : Int) ≤ snr) then c else best) 0

/-- Received level of a neighbour per carrier, averaged over its last frames, in 1/16 of 0.5 dB (17 R587). -/
def levelOf (s : State) (node i : Nat) : Rat :=
  match kget? node s.phy.levels with
  | some fs => if fs.isEmpty then 0 else ((16 * (fs.map fun f => f.getD i 0).foldl (· + ·) 0 : Int) : Rat) / fs.length
  | none => 0

/-- Codes of all carriers for a class and rate (17 R587). -/
def loadCodes (s : State) (node cls rate : Nat) : List Nat :=
  let slots := (List.range 6).filter fun σ => s.phy.classMap.toList.getD σ 1 == cls
  (List.range 417).map fun i =>
    if gainOf s (74 + i) = 0 then 0
    else
      let ns := slots.map fun σ => (s.phy.noise.toList.getD σ []).getD i 0
      let worst := (ns.foldl max (ns.headD 0) : Int)
      loadCode (shapeMargin s) rate (levelOf s node i - worst)

/-- Rate as a fraction. -/
def rateOf (rate : Nat) : Rat := if rate = 1 then 2 / 3 else if rate = 2 then 3 / 4 else 1 / 2

/-- The rate and codes that the PHY selects for a class; none: the class uses ROBO (17 R588). -/
def loadClass (s : State) (node cls : Nat) : Option (Nat × List Nat) :=
  let value := fun (r : Nat) => (((loadCodes s node cls r).map modBits).sum : Rat) * rateOf r
  let best := (List.range 3).foldl (fun b r => if value b < value r then r else b) 0
  if value best < ((onCarriers s).length / 4 : Nat) then none else some (best, loadCodes s node cls best)

/-- Classes that the class map uses, ascending. -/
def classesUsed (s : State) : List Nat := (List.range 4).filter fun c => s.phy.classMap.toList.contains c && c != 0

end Sys2Proof.Machine
end

