-- ==== Sys2Proof/Machine/Phy.lean ====
section
/-! DEFINITION. What the Acrad PHY does: transmissions, couplers, the line driver, noise measurement and the loading of tone maps
(17 R564, R585, R586, R590 to R601). -/

namespace Sys2Proof.Machine

/-- LNK is released and nothing forbids sending: the hub is in RUN and the mains-loss signal is down (17 R600, R601). -/
def lnkUp (s : State) : Bool := s.life.cond == .run && !s.sen.mlSig && s.elec.supplyOk

/-- A coupler is in use. -/
def couplerOk (s : State) (c : Nat) : Bool := decide (1 ≤ c) && decide (c ≤ 3) && !s.phy.cplBad.contains c

/-- The next coupler in the order 1, 2, 3, 1. -/
def nextCoupler (c : Nat) : Nat := c % 3 + 1

/-- The coupler that LNK uses for one it names: itself, else the next working one, with event 0x30AD once (18 R621). -/
def useCoupler (c : Nat) (s : State) : Option Nat × State :=
  if couplerOk s c then (some c, s)
  else match [nextCoupler c, nextCoupler (nextCoupler c)].find? (couplerOk s) with
    | none => (none, s)
    | some d =>
      (some d, raiseIf (!s.lnk.cplSeen) 0x30AD 5 255 (c * 2 ^ 24 + d * 2 ^ 16) (s.modLnk fun l => { l with cplSeen := true }))

/-- LNK requests a transmission (17 R564). -/
def phyReq (r : TxReq) (s : State) : State := s.modPhy fun p => { p with tx := p.tx ++ [r] }

/-- PHY_TRANSMIT: the oldest request is sent on its coupler; a reception in progress ends and is counted. Over 64 limited samples mark
the report, with event 0x3080 for the first of a run. All CPL_SEL outputs are low again afterwards and the driver off
(17 R562, R564, R593, R597, R598). A request without a working coupler is left unsent. -/
def execPhyTransmit (limited : Nat) (s : State) : Host.Outcome State Fault Refusal :=
  .next <|
    match s.phy.tx with
    | [] => s
    | r :: rest =>
      if !lnkUp s || !s.phy.vldOk || s.phy.thermal then s
      else
        let (c, s) := useCoupler r.coupler s
        match c with
        | none => s.modPhy fun p => { p with tx := rest, report := some (false, 0) }
        | some c =>
          let fc' := fcWithCpl r.fc.toNat c
          let r := { r with coupler := c, fc := BitVec.ofNat 128 fc' }
          let f : TxFrame := { req := r, fcBits := fcCoded fc', symbols := fcSymbols fc', tones := frameTones s r }
          let lim := decide (64 < limited)
          let first := lim && !runOn s.phy.limRun (nowS s)
          let s := s.modPhy fun p =>
            { p with tx := rest, sel := 0, driver := false, lastTx := some f, report := some (true, limited),
                     rxAborts := if p.rxActive then p.rxAborts + 1 else p.rxAborts, rxActive := false,
                     limRun := if lim then some (nowS s) else p.limRun }
          raiseIf first 0x3080 5 255 (c * 2 ^ 24 + limited % 2 ^ 24) s

/-- A transmission in progress is abandoned: 1 thermal, 2 mains loss, 3 VLD; event 0x3085 when a frame was cut
(17 R597, R601). -/
def phyAbandon (cause : Nat) (s : State) : State :=
  let cut := !s.phy.tx.isEmpty
  raiseIf cut 0x3085 5 255 cause
    (s.modPhy fun p =>
      { p with tx := if cause = 2 then [] else p.tx.drop 1, sel := 0, driver := false
               report := if cut then some (false, 0) else p.report })

/-- VLD_OUT_OF_RANGE: the driver is kept off, event 0x3083; a frame in progress is abandoned (17 R597). -/
def execVldOutOfRange (mv : Nat) (s : State) : Host.Outcome State Fault Refusal :=
  .next <| if !s.phy.vldOk then s else phyAbandon 3 (raise 0x3083 5 255 mv (s.modPhy fun p => { p with vldOk := false }))

/-- VLD_RECOVERY: in range for 100 ms, transmission resumes (17 R597). -/
def execVldRecovery (s : State) : Host.Outcome State Fault Refusal := .next <| s.modPhy fun p => { p with vldOk := true }

/-- DRIVER_THERMAL_SHUTDOWN: event 0x3081, the frame is abandoned at once (17 R562, R597). -/
def execDriverThermalShutdown (s : State) : Host.Outcome State Fault Refusal :=
  .next <| if s.phy.thermal then s else phyAbandon 1 (raise 0x3081 5 255 0 (s.modPhy fun p => { p with thermal := true }))

/-- DRIVER_THERMAL_RESTART: the junction has cooled (17 R562). -/
def execDriverThermalRestart (s : State) : Host.Outcome State Fault Refusal := .next <| s.modPhy fun p => { p with thermal := false }

/-- COUPLER_FAULT: the coupler is out of use until the next start, event 0x3082; a frame in progress on it goes no further
(17 R565, R598). -/
def execCouplerFault (c : Fin 3) (driven level : Bool) (s : State) : Host.Outcome State Fault Refusal :=
  .next <|
    if driven == level || s.phy.cplBad.contains (c.val + 1) then s
    else
      raise 0x3082 5 255 ((c.val + 1) * 2 ^ 24 + b2n driven * 2 ^ 16 + b2n level * 2 ^ 8)
        (s.modPhy fun p => { p with cplBad := insertAsc (c.val + 1) p.cplBad, sel := if p.sel = c.val + 1 then 0 else p.sel })

/-- NOISE_SLOT: one occurrence of slot σ gives the mean power per carrier in 0.5 dB; none usable, or the clock not LOCKED, leaves the
table unchanged; the first occurrence starts it (17 R585, R595, R600). -/
def execNoiseSlot (σ : Fin 6) (mean : List Int) (s : State) : Host.Outcome State Fault Refusal :=
  .next <|
    if mean.length ≠ 417 || s.clk.state != .locked || !s.clk.started || !s.phy.tx.isEmpty || s.phy.rxActive then s
    else s.modPhy fun p =>
      let old := p.noise[σ]
      let new := if old.isEmpty then mean.map (16 * ·) else (old.zip mean).map fun e => e.1 + (16 * e.2 - e.1) / 16
      { p with noise := p.noise.set σ new }

/-- The PHY at a cycle boundary counts its cycles of LOCKED measurement (17 R600). -/
def phyBoundary (s : State) : State :=
  if s.clk.state = .locked then s.modPhy fun p => { p with lockedCy := min 64 (p.lockedCy + 1) } else s

/-- CLASS_MAP_RECOMPUTE at an epoch boundary, event 0x3084 on a change; frozen while the clock is not LOCKED, class 1 everywhere until
64 cy of LOCKED measurement (17 R586, R595, R600). -/
def phyEpoch (s : State) : State :=
  if s.clk.state = .locked && s.phy.lockedCy = 64 && s.phy.noise.toList.all (fun l => !l.isEmpty) then
    let m := classMapNow s
    if m.toList = s.phy.classMap.toList then s
    else raise 0x3084 5 255 (classMapBits m) (s.modPhy fun p => { p with classMap := m, classAt := s.clk.bndTot })
  else s

/-- Neighbours for which maps are held. -/
def mapPeers (s : State) : List Nat := (s.phy.maps.map (·.peer)).foldl (fun acc n => insertAsc n acc) []

/-- A map may be taken beside those held: 32 neighbours, for each 3 in use and one pending per class (17 R592). -/
def mapRoom (s : State) (peer cls : Nat) (sending : Bool) : Bool :=
  ((mapPeers s).contains peer || decide ((mapPeers s).length < 32))
    && !(s.phy.maps.any fun m => m.peer == peer && m.sending == sending && !m.inUse && tmClass m.words == cls)

/-- Load a tone map as pending, or refuse it with event 0x3086 (17 R590, R592). -/
def loadMap (m : List W128) (sending : Bool) (s : State) : Bool × State :=
  let r := tmRefusal s m
  let peer := if sending then tmRx m else tmTx m
  if r ≠ 0 || !mapRoom s peer (tmClass m) sending then
    (false, raise 0x3086 5 255 (tmTx m * 2 ^ 24 + tmTmi m * 2 ^ 20 + r) s)
  else (true, s.modPhy fun p => { p with maps := p.maps ++ [{ words := m, peer, sending }] })

/-- TONE_MAP_LOAD: the PHY loads a map that LNK hands it, or refuses it (17 R590, R592). -/
def execToneMapLoad (words : List W128) (sending : Bool) (s : State) : Host.Outcome State Fault Refusal :=
  .next <| if !lnkUp s then s else (loadMap words sending s).2

/-- Pending maps of an exchange. -/
def mapsPending (s : State) (peer : Nat) (sending : Bool) : List ToneMap :=
  s.phy.maps.filter fun m => m.peer == peer && m.sending == sending && !m.inUse && m.commitAt == 0

/-- The maps of the generations given are committed and come into use at boundary `at_`; the pending ones not accepted are dropped
(18 R625). -/
def commitMaps (peer at_ : Nat) (sending : Bool) (gens : List Nat) (s : State) : State :=
  s.modPhy fun p =>
    let mine := fun (m : ToneMap) => m.peer == peer && m.sending == sending && !m.inUse && m.commitAt == 0
    { p with maps := (p.maps.filter fun m => !mine m || gens.contains (tmGen m.words)).map fun m =>
        if mine m then { m with commitAt := at_ } else m }

/-- Maps whose commit boundary has come are in use; replaced sending maps leave at once, receiving ones after 2 048 cy. -/
def mapsBoundary (s : State) : State :=
  s.modPhy fun p =>
    let now := s.clk.bndTot
    let due := fun (m : ToneMap) => !m.inUse && m.commitAt != 0 && decide (m.commitAt ≤ now)
    let newer := fun (m n : ToneMap) => n.peer == m.peer && n.sending == m.sending && tmClass n.words == tmClass m.words
      && m.inUse && n.words != m.words && ((n.inUse && decide (m.commitAt < n.commitAt)) || due n)
    let gone := fun (m : ToneMap) => p.maps.any fun n => newer m n && (m.sending || decide (n.commitAt + 2048 ≤ now))
    { p with maps := (p.maps.filter fun m => !gone m).map fun m => if due m then { m with inUse := true } else m }

/-- A frame has arrived under a TMI: the map it replaces is dropped (18 R625). -/
def mapArrived (peer tmi : Nat) (s : State) : State :=
  s.modPhy fun p =>
    match p.maps.find? fun m => m.peer == peer && !m.sending && m.inUse && tmTmi m.words == tmi with
    | none => p
    | some n => { p with maps := p.maps.filter fun m =>
        !(m.peer == peer && !m.sending && m.inUse && tmClass m.words == tmClass n.words && decide (m.commitAt < n.commitAt)) }

/-- The PHY at RUN or at a restart of LNK: driver off, couplers low, no maps and no noise tables (17 R600). Couplers out of use
stay so until the next start. -/
def phyReset (s : State) : State :=
  s.modPhy fun p => { ({} : Phy) with cplBad := p.cplBad, vldOk := p.vldOk, thermal := p.thermal, rxAborts := p.rxAborts, fcBad := p.fcBad,
                                      limRun := p.limRun, lastTx := p.lastTx, noise := p.noise, lockedCy := p.lockedCy, classMap := p.classMap, classAt := p.classAt }

end Sys2Proof.Machine
end

