-- ==== Sys2Proof/Machine/LinkFrames.lean ====
section
/-! DEFINITION. Link time, frame security, sending and acknowledgement of the Acrad network (18 R602 to R613, R621, R626 to R628),
and the frames that the PHY hands over (17 R574, R582). -/

namespace Sys2Proof.Machine

/-! Link time (18 R604 to R606). -/

/-- A phase difference as a signed number of pu. -/
def wrapPu (x : Int) : Int := let y := x % 65536; if 32768 ≤ y then y - 65536 else y

/-- φ_c: the mean over the last 8 beacon copies, taken about the newest so that the turn of the cycle does no harm; 0 for the
coordinator (18 R604). -/
def phiC (s : State) : Nat :=
  match s.lnk.phis with
  | [] => 0
  | p :: ps =>
    let l := p :: ps
    let ds : List Int := l.map fun (q : Nat) => wrapPu ((q : Int) - (p : Int))
    let d : Int := ds.foldl (· + ·) 0
    (roundRat ((p : Rat) + (d : Rat) / l.length) % 65536).toNat

/-- Dc = round(φ_c / 5 461⅓) mod 12 (18 R604). -/
def dcOf (phi : Nat) : Nat := (roundRat ((phi : Rat) * 12 / 65536) % 12).toNat

/-- φ_c less Dc × 5 461⅓ pu, signed; within ±1 024 pu the hub is in phase tolerance (18 R604). -/
def phaseErr (s : State) : Rat :=
  let phi := phiC s
  let d := (phi : Rat) - (dcOf phi : Rat) * 65536 / 12
  if 32768 < d then d - 65536 else d

def inTolerance (s : State) : Bool := decide (-1024 ≤ phaseErr s) && decide (phaseErr s ≤ 1024)

/-- P = (65 536 - φ_c) mod 65 536 (18 R605). -/
def phaseP (s : State) : Nat := (65536 - phiC s) % 65536

/-- The estate count that the cycle in progress answers to (18 R617). -/
def estCount (s : State) : Nat := ((s.clk.count : Int) + s.lnk.countDiff).toNat

/-- The link slot number L of own slot j of the cycle in progress (18 R605). -/
def linkSlot (s : State) (j : Nat) : Int :=
  let phi := phiC s
  12 * (estCount s : Int) + j - (if phi < 32768 then (dcOf phi : Int) else (dcOf phi : Int) - 12)

/-- Link slot q within its superframe, and the superframe's number. -/
def slotQ (s : State) (j : Nat) : Nat := (linkSlot s j % 48).toNat
def superOf (s : State) (j : Nat) : Nat := (linkSlot s j / 48).toNat

/-- Contention slots left from link slot q on, this one included, in superframe u of the epoch (18 Table 18.2). -/
def contentionLeft (q u : Nat) : Nat :=
  let from_ := if u = 8 ∨ u = 9 ∨ u = 10 then 46 else 22
  if from_ ≤ q then 48 - q else 0

/-- The coupler of broadcasts, beacons and floods in superframe k (18 R614, R619, R621). -/
def floodCoupler (k : Nat) : Nat := 1 + k % 3

/-! Keys and frame counters (18 R610 to R613). -/

/-- The two network-key slots: those of role 0x01, in ascending order. -/
def netSlots (s : State) : List Nat := ((List.range 64).filter fun n => (keySlot s n).role == 1).take 2

/-- KEYSEL of a slot. -/
def keySelOf (s : State) (n : Nat) : Nat := (keySlot s n).keyId % 256

/-- The loaded network key of a KEYSEL (18 R613). -/
def netKey (s : State) (keysel : Nat) : Option Nat :=
  (netSlots s).find? fun n => (keySlot s n).status == .loaded && keySelOf s n == keysel

/-- Frame counter and reservation of network-key slot x, 0 or 1 (18 R611). -/
def fctrOf (s : State) (x : Nat) : Nat := if x = 0 then s.lnk.fctr0 else s.lnk.fctr1
def resOf (s : State) (x : Nat) : Nat := if x = 0 then s.lnk.res0 else s.lnk.res1

/-- A slot can give a counter: its key is loaded and its range, or one more reservation, holds (18 R612). -/
def canGive (s : State) (x : Nat) : Bool :=
  match (netSlots s)[x]? with
  | some n => (keySlot s n).status == .loaded && (decide (fctrOf s x < resOf s x) || decide (resOf s x + 65536 ≤ 2 ^ 32))
  | none => false

/-- Place of the TX_KEY_ID key among the network-key slots. -/
def txPlace (s : State) : Option Nat := (netSlots s).findIdx? fun n => (keySlot s n).keyId == cfg s 0x60 0 0 127 96

/-- The place under which LNK sends: the TX_KEY_ID key, else the other slot; none: it sends nothing (18 R612, R613, 04 R153). -/
def sendPlace (s : State) : Option Nat :=
  match txPlace s with
  | some x => if canGive s x then some x else if canGive s (1 - x) then some (1 - x) else none
  | none => [0, 1].find? (canGive s)

/-- FCTR_EXHAUSTED: the counter of the TX_KEY_ID key has run out, event 0x30AF once (18 R612). -/
def fctrExhausted (s : State) : State :=
  match txPlace s with
  | none => s
  | some x =>
    match (netSlots s)[x]? with
    | none => s
    | some n =>
      if canGive s x || s.lnk.exhausted || (keySlot s n).status != .loaded then s
      else
        let next := match sendPlace s with
          | some y => ((netSlots s)[y]?.map (keySelOf s)).getD 0xFF
          | none => 0xFF
        raise 0x30AF 5 255 (keySelOf s n * 2 ^ 24 + next * 2 ^ 16) (s.modLnk fun l => { l with exhausted := true })

/-- Draw the next frame counter: KEYSEL, slot and FCTR; counters are reserved in MRAM in steps of 65 536 (18 R611). -/
def drawFctr (s : State) : Option (Nat × Nat × Nat) × State :=
  let s := fctrExhausted s
  match sendPlace s with
  | none => (none, s)
  | some x =>
    let n := ((netSlots s)[x]?).getD 0
    let f := fctrOf s x
    let res := if f < resOf s x then resOf s x else resOf s x + 65536
    let s := s.modLnk fun l =>
      if x = 0 then { l with fctr0 := f + 1, res0 := res, fkey0 := (keySlot s n).keyId }
      else { l with fctr1 := f + 1, res1 := res, fkey1 := (keySlot s n).keyId }
    (some (keySelOf s n, n, f), s)

/-- Counters and windows of the network keys at RUN: they resume above the last reservation, or at 0 under a new key ID (18 R611). -/
def fctrAtRun (s : State) : State :=
  let id := fun (x : Nat) => (((netSlots s)[x]?).map fun n => (keySlot s n).keyId).getD 0
  s.modLnk fun l =>
    let same0 := l.fkey0 == id 0
    let same1 := l.fkey1 == id 1
    let keep := fun (w : FrWin) => (same0 && w.key == id 0 % 256) || (same1 && w.key == id 1 % 256)
    { l with fctr0 := if same0 then l.res0 else 0, res0 := if same0 then l.res0 else 0, fkey0 := id 0
             fctr1 := if same1 then l.res1 else 0, res1 := if same1 then l.res1 else 0, fkey1 := id 1
             wins := l.wins.filter keep, exhausted := false }

/-- MAC header of a frame (18 Table 18.3). -/
def macHeader (m : TxMsg) : List Nat :=
  bytesLE 4 m.fctr ++ [m.keysel, m.kind] ++ bytesLE 2 m.msgId
    ++ [m.orig, if m.bcastFinal then 0 else m.final, b2n m.bcastFinal + 2 * b2n m.last + 16 * (m.hops % 16), m.frag]
    ++ bytesLE 2 m.body.length ++ [0, 0]

/-- PHY blocks of a frame: header, body and MIC in blocks of 128 bytes (18 R609). -/
def frameBlocks (m : TxMsg) : Nat := (16 + m.body.length + 8 + 127) / 128

/-- The bytes of a frame in blocks: header in clear, body and MIC under AES-128-CCM with the nonce and additional data of 18 R610. -/
def frameBytes (s : State) (slot src fc : Nat) (m : TxMsg) : List (List Nat) :=
  let h := macHeader m
  let nonce := [src] ++ bytesBE 4 m.fctr ++ bytesBE 4 ((estateId s).getD 0) ++ [0, 0, 0, 0]
  let text := Config.encrypt (slotSecret s slot) (keySlot s slot).alg (nonce ++ bytesBE 8 fc ++ h ++ m.body)
  let bs := h ++ text
  (List.range (frameBlocks m)).map fun k => ((bs.drop (128 * k)).take 128 ++ List.replicate 128 0).take 128

/-- A transmit request for a frame of TYPE 0 or 1 (17 Table 17.5, 18 R608). -/
def txRequest (s : State) (typ src tmi coupler slot : Nat) (m : TxMsg) : TxReq :=
  let pbs := frameBlocks m
  let sym := (symbolsFor s m.dst tmi pbs true).getD 0
  let mac := if typ = 0 then 0 else m.fseq * 256 + (if m.bcast then 0 else 128) + 64 * b2n m.flood
  let fc := fcWord typ src m.dst m.bcast tmi sym pbs coupler mac
  { coupler, fc := BitVec.ofNat 128 fc, blocks := frameBytes s slot src fc m }

/-- Send a new broadcast frame of this hub in the superframe given (18 R607, R614, R619, R633). -/
def sendBroadcast (typ super : Nat) (m : TxMsg) (s : State) : State :=
  match drawFctr s with
  | (none, s) => s
  | (some (ks, slot, f), s) =>
    let m := { m with bcast := true, fctr := f, keysel := ks, counted := true }
    phyReq (txRequest s typ (nodeId s) 0 (floodCoupler super) slot m) s

/-- Relay a frame as received: the same bytes, in ROBO (18 R607, R614, R633). -/
def relayFrame (typ super kind : Nat) (flood : Bool) (f : AcFrame) (s : State) : State :=
  match netKey s f.keysel with
  | none => s
  | some slot =>
    let m : TxMsg := { bcast := true, kind, msgId := f.msgId, orig := f.orig, final := f.final, bcastFinal := f.bcastFinal, hops := f.hops,
                       fctr := f.fctr, keysel := f.keysel, frag := f.frag, last := f.last, flood, body := f.body }
    phyReq (txRequest s typ f.src 0 (floodCoupler super) slot m) s

/-! Reception (18 R602, R610, R611, R628). -/

/-- The neighbour entry of a node (18 R620). -/
def neighOf (s : State) (node : Nat) : Option Neigh := s.lnk.neigh.find? (·.node == node)

def modNeigh (node : Nat) (f : Neigh → Neigh) (s : State) : State :=
  s.modLnk fun l => { l with neigh := l.neigh.map fun n => if n.node == node then f n else n }

/-- Rotation of the hub, positive while unknown (18 R620). -/
def rotPositive (s : State) : Bool := !(s.clk.rotKnown && s.clk.rotNeg)

/-- Conductor 1 to 3 of a relative phase step (18 Table 18.6). -/
def conductorOf (pos : Bool) (k : Nat) : Nat :=
  if k % 3 = 0 then 1 else if k % 3 = 1 then (if pos then 3 else 2) else (if pos then 2 else 3)

/-- The coupler toward a neighbour: its conductor, else the one of broadcasts (18 R621). -/
def couplerFor (s : State) (node super : Nat) : Nat :=
  match (neighOf s node).bind (·.k) with
  | some k => conductorOf (rotPositive s) k
  | none => floodCoupler super

/-- Send an acknowledgement frame, 50 µs after the end of the frame (18 R608, R628). -/
def sendAck (f : AcFrame) (status : Nat) (s : State) : State :=
  let c := couplerFor s f.src (estCount s / 4)
  let fc := fcWord 2 (nodeId s) f.src false 0 0 0 c (f.fseq * 256 + status)
  phyReq { coupler := c, fc := BitVec.ofNat 128 fc, blocks := [] }
    (s.modLnk fun l => { l with acks := (f.src, f.fseq, status) :: l.acks.take 7 })

/-- The window of a source and key. -/
def frWin (s : State) (src key : Nat) : FrWin := (s.lnk.wins.find? fun w => w.src == src && w.key == key).getD { src, key }

/-- A counter is new to a window: above the highest, or in the map and not yet seen (18 R611). -/
def fctrNew (w : FrWin) (c : Nat) : Bool :=
  !w.any || decide (w.high < c) || (decide (c < w.high) && decide (w.high ≤ c + 64) && !w.map.getLsbD (w.high - 1 - c))

/-- A counter has been accepted. -/
def fctrSeen (w : FrWin) (c : Nat) : Bool :=
  w.any && (c == w.high || (decide (c < w.high) && decide (w.high ≤ c + 64) && w.map.getLsbD (w.high - 1 - c)))

/-- The window after an accepted counter. -/
def fctrTake (w : FrWin) (c : Nat) : FrWin :=
  if !w.any then { w with high := c, any := true }
  else if w.high < c then
    let d := c - w.high
    let m := if d < 64 then w.map <<< d else 0
    { w with high := c, map := if d ≤ 64 then m ||| (1#64 <<< (d - 1)) else m }
  else { w with map := w.map ||| (1#64 <<< (w.high - 1 - c)) }

/-- Frames of a node are accepted: its bit and the own one are set in NODE_MAP, a unicast frame names this hub (18 R602). -/
def frameForUs (s : State) (f : AcFrame) : Bool :=
  inNodeMap s f.src && f.src != nodeId s && (f.bcast || (f.dst == nodeId s && inNodeMap s f.dst))

/-- A frame whose MIC fails, or without its key: counted, event 0x30A9 for the first of a run; STATUS 3 to a unicast sender
(18 R610, R638). -/
def authFailed (f : AcFrame) (s : State) : State :=
  let first := !runOn s.lnk.authRun (nowS s)
  let s := raiseIf first 0x30A9 5 255 (f.src * 2 ^ 24 + f.keysel * 2 ^ 16)
    (s.modLnk fun l => { l with authFail := inc32 l.authFail, authRun := some (nowS s) })
  if f.bcast then s else sendAck f 3 s

/-- A buffer for a message stands open, or is free (18 R629). -/
def hasBuffer (s : State) (f : AcFrame) : Bool :=
  (f.frag == 0 && f.last) || decide (s.lnk.reasm.length < 8) || s.lnk.reasm.any fun r => r.orig == f.orig && r.msgId == f.msgId && r.via == f.src

/-- LNK takes a frame: true if it is accepted and new; unicast frames are acknowledged, a repeat with STATUS 0 and no delivery, one
without a buffer with STATUS 2 (18 R602, R608, R610, R611, R628). -/
def lnkAccept (f : AcFrame) (s : State) : Bool × State :=
  if !lnkUp s || !frameForUs s f then (false, s)
  else if !f.mic || (netKey s f.keysel).isNone then (false, authFailed f s)
  else
    let w := frWin s f.src f.keysel
    if fctrNew w f.fctr then
      if !f.bcast && !hasBuffer s f then (false, sendAck f 2 s)
      else
        let s := s.modLnk fun l =>
          { l with wins := (l.wins.filter fun x => !(x.src == f.src && x.key == f.keysel)) ++ [fctrTake w f.fctr] }
        let s := if f.tmi ≠ 0 then mapArrived f.src f.tmi s else s
        (true, if f.bcast then s else sendAck f 0 s)
    else (false, if !f.bcast && fctrSeen w f.fctr then sendAck f 0 s else s)

/-- Reassembly: the whole body once every fragment is there (18 R629). -/
def reassemble (f : AcFrame) (s : State) : Option (List Nat) × State :=
  if f.frag = 0 && f.last then (some f.body, s)
  else
    let same := fun (r : Reasm) => r.orig == f.orig && r.msgId == f.msgId && r.via == f.src
    let r := (s.lnk.reasm.find? same).getD { orig := f.orig, msgId := f.msgId, via := f.src }
    let r := { r with frags := kset f.frag f.body r.frags, last := if f.last then some f.frag else r.last }
    let rest := s.lnk.reasm.filter fun x => !same x
    match r.last with
    | some n =>
      if r.frags.length = n + 1 then (some (r.frags.flatMap (·.2)), s.modLnk fun l => { l with reasm := rest })
      else (none, s.modLnk fun l => { l with reasm := rest ++ [r] })
    | none => (none, s.modLnk fun l => { l with reasm := rest ++ [r] })

/-- REASSEMBLY_TIMEOUT: not all fragments in 250 cy, the message is dropped, event 0x30AA reason 3 (18 R629, R638). -/
def execReassemblyTimeout (orig msgId : Nat) (s : State) : Host.Outcome State Fault Refusal :=
  .next <|
    if s.lnk.reasm.any fun r => r.orig == orig && r.msgId == msgId then
      lnkDrop 3 msgId (s.modLnk fun l => { l with reasm := l.reasm.filter fun r => !(r.orig == orig && r.msgId == msgId) })
    else s

/-! Contention (18 R626 to R628). -/

/-- The tone map for a frame to a neighbour in own slot j: the one of the slot's class by the neighbour's CLASS_MAP, translated by its
slot offset; ROBO without one or while more than half of its last blocks failed (18 R626, R628). -/
def sendTmi (s : State) (node j : Nat) : Nat :=
  match neighOf s node with
  | none => 0
  | some n =>
    match n.k with
    | none => 0
    | some k =>
      if n.robo then 0
      else
        let σ := (j + 12 - 2 * k) % 6
        match s.phy.maps.find? fun m => m.peer == node && m.sending && m.inUse && classOf (tmClassMap m.words) σ == tmClass m.words with
        | some m => if m.errWin.length < 2 * (m.errWin.filter id).length then 0 else tmTmi m.words
        | none => 0

/-- A unicast frame waits while 32 frames await acknowledgement (18 R628, R636): the first message that may be sent. -/
def nextTx (s : State) : Option TxMsg := s.lnk.queue.find? fun m => m.bcast || decide (s.lnk.out.length < 32)

/-- Length of a frame with its acknowledgement and guards, after a backoff of n units, in microseconds (18 R607, R627, R628). -/
def accessUs (backoff symbols : Nat) : Rat := 100 + 64 * backoff + frameUs symbols + (50 + frameUs 0) + 250

/-- Take a message out of the queue. -/
def unqueue (m : TxMsg) (l : Lnk) : Lnk := { l with queue := l.queue.erase m }

/-- FSEQ of a new unicast frame to a node (18 R608). -/
def drawFseq (node : Nat) (s : State) : Nat × State :=
  let q := ((kget? node s.lnk.fseqs).map fun q => (q + 1) % 256).getD 0
  (q, s.modLnk fun l => { l with fseqs := kset node q l.fseqs })

/-- The pending frame goes out: a repeat keeps its FCTR and FSEQ (18 R611, R628). -/
def sendFrame (m : TxMsg) (j : Nat) (s : State) : State :=
  let super := superOf s j
  let tmi := if m.bcast then 0 else sendTmi s m.dst j
  let coupler := if m.bcast then floodCoupler super else couplerFor s m.dst super
  let go := fun (slot : Nat) (m' : TxMsg) (s : State) =>
    let m' := { m' with tries := m'.tries + 1, tmi }
    phyReq (txRequest s 1 (nodeId s) tmi coupler slot m')
      (s.modLnk fun l =>
        let l := unqueue m l
        { l with backoff := none, out := if m.bcast then l.out else l.out ++ [m'] })
  if m.counted then
    match netKey s m.keysel with
    | some slot => go slot m s
    | none => s.modLnk (unqueue m)
  else
    match drawFctr s with
    | (none, s) => s
    | (some (ks, slot, f), s) =>
      let (q, s) := if m.bcast then (0, s) else drawFseq m.dst s
      go slot { m with fctr := f, keysel := ks, fseq := q, counted := true } s

/-- CONTENTION_ACCESS in own slot j: the backoff is drawn, runs out on an idle medium after at most `units` units, and the frame goes
out if it fits with its acknowledgement; otherwise the backoff is frozen (18 R627). -/
def execContentionAccess (j : Fin 12) (units : Nat) (s : State) : Host.Outcome State Fault Refusal :=
  .next <|
    match nextTx s with
    | none => s
    | some m =>
      let left := contentionLeft (slotQ s j) (superOf s j % 16)
      if !lnkUp s || left = 0 || s.lnk.st == .listen then s
      else
        let (b, s) := match s.lnk.backoff with
          | some b => (b, s)
          | none => if drbgOk s then
              let r := drbgDraw 6 s
              (r.1 % s.lnk.cw, r.2)
            else (0, s)
        let sym := (symbolsFor s m.dst (if m.bcast then 0 else sendTmi s m.dst j) (frameBlocks m) true).getD 0
        if b ≤ units && accessUs b sym ≤ (left : Rat) * s.clk.lenCur / 12 then sendFrame m j s
        else s.modLnk fun l => { l with backoff := some (b - units) }

/-- Results of the blocks of an acknowledged frame under its tone map (18 R626). -/
def blockResults (m : TxMsg) (failed : Bool) (s : State) : State :=
  if m.tmi = 0 then s
  else s.modPhy fun p => { p with maps := p.maps.map fun t =>
    if t.peer == m.dst && t.sending && t.inUse && tmTmi t.words == m.tmi then
      { t with errWin := (List.replicate (frameBlocks m) failed ++ t.errWin).take 64 } else t }

/-- A frame has failed: it is sent again up to RETRIES times with the contention window doubled, else dropped with event 0x30AA; the
8th failed frame in a row drops the neighbour's tone maps, and it is served in ROBO (18 R627, R628). -/
def txFailed (m : TxMsg) (s : State) : State :=
  let s := s.modLnk fun l => { l with out := l.out.erase m, cw := min 64 (2 * l.cw) }
  if m.tries ≤ cfg s 0x60 0 0 79 72 then
    s.modLnk fun l => { l with queue := m :: l.queue, retried := inc32 l.retried }
  else
    let s := modNeigh m.dst (fun n => { n with fails := n.fails + 1 }) (lnkDrop 2 m.msgId s)
    match neighOf s m.dst with
    | some n =>
      if 8 ≤ n.fails then
        modNeigh m.dst (fun n => { n with robo := true })
          (s.modPhy fun p => { p with maps := p.maps.filter fun t => !(t.peer == m.dst) })
      else s
    | none => s

/-- The frame that an acknowledgement or a time-out is about. -/
def outFrame (s : State) (node fseq : Nat) : Option TxMsg := s.lnk.out.find? fun m => m.dst == node && m.fseq == fseq

/-- ACRAD_ACK_TIMEOUT: no acknowledgement has come (18 R628). -/
def execAcradAckTimeout (node fseq : Nat) (s : State) : Host.Outcome State Fault Refusal :=
  .next <| match outFrame s node fseq with
    | none => s
    | some m => if lnkUp s then txFailed m s else s

/-! Frames from the PHY (17 R574, R582). -/

/-- A frame control is valid (17 R574); SYMBOLS are checked where the map is known to this hub. -/
def fcValid (s : State) (fc : Nat) : Bool :=
  let t := fcType fc
  let sym := match symbolsFor s (fcSrc fc) (fcTmi fc) (fcPbs fc) false with
    | some n => fcSymbols fc == n
    | none => fcDst fc != nodeId s || fcBcast fc
  bits fc 24 16 == 0
    && (if t = 0 then fcBcast fc && fcTmi fc == 0 && decide (1 ≤ fcPbs fc) && sym
        else if t = 1 then decide (1 ≤ fcPbs fc) && sym
        else if t = 2 then fcPbs fc == 0 && fcSymbols fc == 0
        else t == 3 && fcPbs fc == 0 && fcTmi fc == 0 && decide (1 ≤ fcSymbols fc) && decide (fcSymbols fc ≤ 8))

/-- PHY_FRAME_RECEIVED: a preamble is detected and its frame control decoded; while the payload is still coming the frame is in
reception. A frame control that is not valid is discarded and counted. Levels and the time of the frame are kept for the sender, and
a unicast frame with a failed block is acknowledged with STATUS 1 (17 R574, R582, R593; 18 R608, R628). -/
def execPhyFrameReceived (fc : Nat) (crcOk whole : Bool) (blocks : List Bool) (level : List Int) (s : State) :
    Host.Outcome State Fault Refusal :=
  .next <|
    if !s.elec.supplyOk || !(s.life.cond == .run || s.life.cond == .start) then s
    else if !crcOk || !fcValid s fc then s.modPhy fun p => { p with fcBad := p.fcBad + 1, rxActive := false }
    else if !whole then s.modPhy fun p => { p with rxActive := true }
    else
      let src := fcSrc fc
      let s := s.modPhy fun p =>
        { p with rxActive := false, levels := kset src ((level :: (kget? src p.levels).getD []).take 16) p.levels }
      let s := modNeigh src (fun n => { n with lastCount := s.clk.count }) s
      if lnkUp s && fcType fc = 1 && !fcBcast fc && fcDst fc = nodeId s && inNodeMap s src && blocks.any (! ·) then
        sendAck { src, dst := fcDst fc, bcast := false, fseq := fcMac fc / 256, fctr := 0, keysel := 0, body := [] } 1 s
      else s

end Sys2Proof.Machine
end

