-- ==== Sys2Proof/Machine/Journal.lean ====
section
/-! DEFINITION. LED's journal on the NOR flash (21 R714 to R720) and the journaling of events (22 R748). -/

namespace Sys2Proof.Machine

/-- Number of 4 KiB sectors of the journal region, by FLASH_MIB (05 Table 5.1). -/
def jrnSectors (s : State) : Nat :=
  if flashMib s = 64 then 14336 else if flashMib s = 32 then 6144 else 2048

/-- A sector by index; one never written holds no valid header. -/
def jsec (s : State) (i : Nat) : JSec := (kget? i s.jrn.secs).getD {}

/-- Change a sector. -/
def modSec (i : Nat) (f : JSec → JSec) (s : State) : State :=
  s.modJrn fun j => { j with secs := kset i (f ((kget? i j.secs).getD {})) j.secs }

/-- Words used in a sector: two header words and its records. -/
def secUsed (c : JSec) : Nat := 2 + (c.recs.map (·.words)).sum

/-- Words of a sector. -/
def secWords : Nat := 256

/-- Whether a sector must be erased before it is used (21 R718). -/
def secSuspect (c : JSec) : Bool := c.suspect || c.st == .noState || c.st == .opening

/-- Whether a record of n words fits, leaving the outage reserve of 4 words to all but the OUTAGE record (21 R716). -/
def secFits (c : JSec) (n : Nat) (outage : Bool) : Bool :=
  decide (secUsed c + n + (if outage then 0 else 4) ≤ secWords)

/-- The sector after the active one. -/
def jrnAhead (s : State) : Nat :=
  match s.jrn.active with
  | some a => (a + 1) % jrnSectors s
  | none => 0

/-- Open the next sector if it is ERASED: OPENING, then ACTIVE once its header is programmed (21 R714, R715). -/
def jrnOpen (s : State) : State × Bool :=
  let i := jrnAhead s
  if (jsec s i).st = .erased && !(jsec s i).suspect then
    let s := match s.jrn.active with
      | some a => modSec a (fun c => { c with st := .full }) s
      | none => s
    let s := modSec i (fun _ => { st := .active, seq := s.jrn.seqNext, firstJseq := s.jrn.next }) s
    (s.modJrn fun j => { j with active := some i, seqNext := j.seqNext + 1 }, true)
  else (s, false)

/-- An active sector with room, opening the next one where needed. -/
def jrnRoom (n : Nat) (outage : Bool) (s : State) : State × Bool :=
  match s.jrn.active with
  | some a => if (jsec s a).st = .active && secFits (jsec s a) n outage then (s, true) else jrnOpen s
  | none => jrnOpen s

/-- Program one record into the active sector. -/
def jrnPut (r : JRec) (sealNo : Option Nat) (s : State) : State :=
  match s.jrn.active with
  | none => s
  | some a =>
    let s := modSec a (fun c =>
      { c with recs := c.recs ++ [{ r with jseq := s.jrn.next }],
               firstSeal := c.firstSeal.or sealNo }) s
    s.modJrn fun j => { j with next := j.next + 1, failRun := 0 }

/-- Write a record of a type; `fails` sectors fail verification first, each set FULL with event 0x7152, and the third in a
row stops the journal with event 0x7153 (21 R720). The flag says whether the record stands in the journal. -/
def jrnWrite (typ : Nat) (body : List W128) (sealNo : Option Nat) (eseqs : List Nat) : (fails : Nat) → State → State × Bool
  | 0, s =>
    if s.jrn.stopped then (s, false)
    else
      let p := jrnRoom (body.length + 1) (typ == 1) s
      if p.2 then (jrnPut { typ, words := body.length + 1, body, eseqs } sealNo p.1, true) else (p.1, false)
  | k + 1, s =>
    if s.jrn.stopped then (s, false)
    else
      let p := jrnRoom (body.length + 1) (typ == 1) s
      if !p.2 then (p.1, false)
      else
        let s := p.1
        let i := s.jrn.active.getD 0
        let s := raise 0x7152 3 255 i (modSec i (fun c => { c with st := .full }) s)
        if s.jrn.failRun + 1 < 3 then
          jrnWrite typ body sealNo eseqs k (s.modJrn fun j => { j with failRun := j.failRun + 1 })
        else (raise 0x7153 3 255 0 (s.modJrn fun j => { j with failRun := 3, stopped := true }), false)

/-- The word of an event record (22 Table 22.4). -/
def eventWord (e : EventRec) : W128 :=
  mkWord [(64, e.count % 2 ^ 64), (48, e.code), (40, e.source), (32, e.point), (0, e.arg)]

/-- Unjournaled events still in the ring, oldest first. -/
def unjournaled (s : State) : List (Nat × Nat × EventRec) :=
  (s.ev.ring.filter fun e => decide (s.ev.journaled < e.1)).reverse

/-- Write one EVENTS record of at most 16 of the events given. -/
def jrnEvents (es : List (Nat × Nat × EventRec)) (fails : Nat) (s : State) : State :=
  let b := es.take 16
  let p := jrnWrite 2 (b.map fun e => eventWord e.2.2) none (b.map (·.1)) fails s
  if p.2 then p.1.modEv fun v => { v with journaled := (b.getLast?.map (·.1)).getD v.journaled } else p.1

/-- EVENTS_JOURNAL: while 16 or more events are unjournaled, records of 16, at most `k`; when the oldest has waited
3 000 cy, one record of all of them, up to 16 (22 R748). After the mains-loss signal none is written (22 R758). -/
def eventsJournal : (k : Nat) → (fails : Nat) → State → State
  | 0, _, s => s
  | k + 1, fails, s =>
    let u := unjournaled s
    if s.sen.mlSig || s.jrn.stopped then s
    else if 16 ≤ u.length then eventsJournal k 0 (jrnEvents u fails s)
    else match u with
      | e :: _ => if e.2.1 + 3000 ≤ s.clk.bndTot then jrnEvents u fails s else s
      | [] => s

/-- ERASED sectors right ahead of the active one, up to 2. -/
def erasedAhead (s : State) : Nat :=
  let a := jrnAhead s
  let ok := fun i => (jsec s i).st == .erased && !(jsec s i).suspect
  if ok a then (if ok ((a + 1) % jrnSectors s) then 2 else 1) else 0

/-- The first sector from an index up that is not ERASED. -/
def notErased (s : State) : (fuel : Nat) → Nat → Option Nat
  | 0, _ => none
  | k + 1, i =>
    if (jsec s i).st = .erased && !(jsec s i).suspect then notErased s k ((i + 1) % jrnSectors s) else some i

/-- The FULL sector of the lowest SECTOR_SEQ. -/
def oldestFull (s : State) : Option Nat :=
  ((s.jrn.secs.filter fun c => c.2.st == .full && !c.2.suspect).foldl
    (fun best c => match best with
      | some b => if c.2.seq < b.2 then some (c.1, c.2.seq) else best
      | none => some (c.1, c.2.seq)) (none : Option (Nat × Nat))).map (·.1)

/-- Move the low marks past every record of a sector (21 R717, 22 R748). -/
def passMarks (c : JSec) (j : Jrn) : Jrn :=
  let seals := (c.recs.filter fun r => r.typ == 3).map fun r => fld (r.body.getD 0 0) 127 64
  let evs := (c.recs.flatMap (·.eseqs)).getLast?
  { j with
    oldJseq := (c.recs.getLast?.map fun r => r.jseq + 1).getD j.oldJseq
    oldSeal := (seals.getLast?.map (· + 1)).getD j.oldSeal
    oldEvent := match evs with
      | some e => e + 1
      | none => j.oldEvent }

/-- JOURNAL_SECTOR_RETIRE: with fewer than 2 ERASED sectors ahead, LED starts one erase: of a SUSPECT sector ahead, else
of the oldest FULL sector, which the low marks pass first (21 R717, R718). -/
def jrnUpkeep (s : State) : State :=
  if s.sen.mlSig || s.jrn.stopped || s.jrn.erasing.isSome || erasedAhead s = 2 then s
  else
    let start := fun (i : Nat) (s : State) =>
      (s.modJrn fun j => { j with marker := some i, erasing := some i })
    match notErased s 3 (jrnAhead s) with
    | some i =>
      if secSuspect (jsec s i) then start i s
      else match oldestFull s with
        | some i =>
          let c := jsec s i
          start i (modSec i (fun c => { c with st := .retiring }) (s.modJrn (passMarks c)))
        | none => s
    | none => s

/-- JOURNAL_ERASE_DONE: the erase is verified and MARK programmed; the sector is ERASED and the marker cleared, with event
0x7150 when the sector was SUSPECT (21 R715, R718). After the OUTAGE record no erase is resumed. -/
def execJournalEraseDone (s : State) : Host.Outcome State Fault Refusal :=
  .next <| match s.jrn.erasing with
    | none => s
    | some i =>
      if s.sen.mlSig then s
      else
        let was := secSuspect (jsec s i)
        let s := modSec i (fun _ => { st := .erased }) (s.modJrn fun j => { j with erasing := none, marker := none })
        raiseIf was 0x7150 3 255 i s

/-- JOURNAL_RECOVERY in step S5: the sector the marker names, sectors without a valid state and OPENING ones are SUSPECT;
the ACTIVE sector goes on, or is closed at a torn record with event 0x7151 (21 R718, R719, R729). -/
def jrnRecover (torn : Bool) (s : State) : State :=
  let mark := fun (e : Nat × JSec) =>
    (e.1, { e.2 with suspect := s.jrn.marker == some e.1 || e.2.st == .noState || e.2.st == .opening || e.2.st == .retiring })
  let s := s.modJrn fun j =>
    { j with secs := j.secs.map mark, erasing := none, stopped := false, failRun := 0,
             suspectN := ((j.secs.map mark).filter fun e => e.2.suspect).length,
             active := (j.secs.find? fun e => e.2.st == .active).map (·.1) }
  match s.jrn.active with
  | some a => if torn then raise 0x7151 3 255 s.jrn.next (modSec a (fun c => { c with st := .full }) s) else s
  | none => s

/-- Every event the journal holds: ESEQ and record word, in JSEQ order. -/
def journalEvents (s : State) : List (Nat × W128) :=
  let recs := (s.jrn.secs.flatMap fun c => c.2.recs).filter fun r => r.typ == 2 && decide (s.jrn.oldJseq ≤ r.jseq)
  (sortBy (·.jseq) recs).flatMap fun r => r.eseqs.zip r.body

/-- The words of a session seal that the journal holds. -/
def journalSeal (s : State) (no : Nat) : Option (List W128) :=
  ((s.jrn.secs.flatMap fun c => c.2.recs).find? fun r =>
    r.typ == 3 && decide (s.jrn.oldJseq ≤ r.jseq) && fld (r.body.getD 1 0) 127 64 == no).map (·.body)

end Sys2Proof.Machine
end

