-- ==== Sys2Proof/Machine/Fabric.lean ====
section
/-! DEFINITION. Health and repair of the hub's own fabric (22 R730 to R743, R751, R755 to R758): VE lanes, SRAM rows,
MRAM blocks. Boundaries at which a step begins come with the command of the table; a step acts only when its boundary,
the hub's condition and the spares let it. -/

namespace Sys2Proof.Machine

/-- Change one lane. -/
def modLane (l : Fin 18) (f : Lane → Lane) (s : State) : State :=
  s.modFab fun v => { v with lanes := v.lanes.set l (f v.lanes[l]) }

/-- Change one bank. -/
def modBank (b : Fin 32) (f : BankH → BankH) (s : State) : State :=
  s.modFab fun v => { v with banks := v.banks.set b (f v.banks[b]) }

/-- A lane that is SPARE, holds no position and takes part in no dual run (22 R737). -/
def laneFree (s : State) (l : Fin 18) : Bool :=
  let a := s.fab.lanes[l]
  a.st == .spare && a.pos.isNone && !(s.fab.ret.phase != 0 && (s.fab.ret.lane == l.val || s.fab.ret.spare == l.val))

/-- The lane that holds a position. -/
def laneAt (s : State) (p : Nat) : Option (Fin 18) := (finList 18).find? fun l => s.fab.lanes[l].pos == some p

/-- Lanes in state SPARE that hold no position. -/
def spareLanes (s : State) : Nat :=
  ((finList 18).filter fun l => s.fab.lanes[l].st == .spare && s.fab.lanes[l].pos.isNone).length

/-- Whether rolling tests run: in RUN and with the mains-loss signal low (22 R757, R758). -/
def rolling (s : State) : Bool := decide (s.life.cond = .run) && !s.sen.mlSig

/-- Event 0x9024 when, with no lane step in progress, the number of spare lanes differs from the one last reported
(22 R739). DEDUCED (log entry 12): rolling substitutions do not count. -/
def spareReport (s : State) : State :=
  if s.fab.step.phase ≠ 0 || s.fab.ret.phase ≠ 0 || spareLanes s = s.fab.spareN then s
  else raise 0x9024 1 255 (spareLanes s) (s.modFab fun v => { v with spareN := spareLanes s })

/-- Whether a multiple of m is the count of the cycle in progress, or was skipped by an alignment at its boundary (02 R77). -/
def markHere (m : Nat) (s : State) : Bool :=
  match s.clk.lens.head? with
  | some c => s.clk.count % m == 0 || decide (c.1 / m < s.clk.count / m)
  | none => s.clk.count % m == 0

/-- LANE_STEP at B = 512 m: the dual run of cycle B - 1 has ended (`mismatch`: its results differed, or a residue error
fell into it). The free spare takes the position and the lane goes under test; after a mismatch the lane keeps its
position and the spare is tested instead (22 R737, R738, R752). -/
def doLaneStep (mismatch : Bool) (s : State) : State :=
    if !rolling s || !markHere 512 s || s.fab.step.phase ≠ 0 then s
    else
      let m := s.clk.count / 512
      let p := (m + 16 - s.fab.skips % 16) % 16
      let free := (finList 18).filter (laneFree s)
      match (if m % 2 = 0 then free.head? else free.getLast?), laneAt s p with
      | some sp, some l =>
        let st : LaneStep := { pos := p, lane := l.val, spare := sp.val, at_ := s.clk.count, phase := if mismatch then 3 else 2 }
        let s := s.modFab fun v => { v with step := st, steps := inc32 v.steps }
        if mismatch then
          raise 0x9021 1 255 (l.val * 2 ^ 24 + sp.val * 2 ^ 16 + 2 ^ 8)
            (modLane sp (fun a => { a with st := .underTest }) (s.modFab fun v => { v with mismatch := inc32 v.mismatch }))
        else
          modLane l (fun a => { a with st := .underTest, pos := none })
            (modLane sp (fun a => { a with st := .inService, pos := some p }) s)
      | _, _ => s.modFab fun v => { v with skips := v.skips + 1 }

/-- A lane fails its test: SUSPECT, or RETIRED when it was SUSPECT already (22 R735, R739). -/
def laneFails (l : Fin 18) (carrier group : Nat) (s : State) : State :=
  let a := s.fab.lanes[l]
  let n := min 7 (a.fails + 1)
  let s := s.modFab fun v => { v with fails := inc32 v.fails }
  if a.st = .suspect then
    raise 0x9023 1 255 (l.val * 2 ^ 24)
      (modLane l (fun a => { a with st := .retired, fails := n, retestAt := none, pos := none }) s)
  else
    raise 0x9022 1 255 (l.val * 2 ^ 24 + carrier * 2 ^ 16 + n * 2 ^ 8 + group)
      (modLane l (fun a => { a with st := .suspect, fails := n, retestAt := some (s.clk.count + 512) }) s)

/-- LANE_JUDGE at B + 512: the lane of the step, its spare after a handoff mismatch, or a SUSPECT lane at its re-test is
judged. After a pass the lane of the step returns through a dual run of one cycle (`retMismatch`: that run's results
differ) (22 R737 to R739). `fails`: a pattern group failed, `group` the first. -/
def execLaneJudge (l : Fin 18) (fails : Bool) (group : Nat) (retMismatch : Bool) (s : State) :
    Host.Outcome State Fault Refusal :=
  .next <|
    let st := s.fab.step
    let judged := fun (s : State) => modLane l (fun a => { a with tests := inc32 a.tests, last := s.clk.count }) s
    if st.phase = 2 && st.lane = l.val && st.at_ + 512 ≤ s.clk.count then
      let s := judged (s.modFab fun v => { v with step := {} })
      if fails then laneFails l st.spare group s
      else s.modFab fun v => { v with ret := { st with at_ := s.clk.count + 1, phase := if retMismatch then 5 else 4 } }
    else if st.phase = 3 && st.spare = l.val && st.at_ + 512 ≤ s.clk.count then
      let s := judged (s.modFab fun v => { v with step := {} })
      if fails then laneFails l 0xFF group s
      else
        let s := modLane l (fun a => { a with st := .spare }) s
        match fin? 18 st.lane with
        | some k => (modLane k (fun a => { a with st := .suspect }) s).modFab fun v =>
            { v with takeDue := v.takeDue ++ [(st.lane, false)] }
        | none => s
    else match s.fab.lanes[l].retestAt with
      | some t =>
        if t ≤ s.clk.count && s.fab.lanes[l].st = .suspect && s.fab.lanes[l].pos = none then
          let s := judged s
          if fails then laneFails l 0xFF group s
          else modLane l (fun a => { a with st := .spare, retestAt := none }) s
        else s
      | none => s

/-- The end of a return dual run at a boundary: the lane carries its position again and the spare is free, or after a
mismatch the spare keeps it and the lane is SUSPECT (22 R737, R738). -/
def laneReturn (s : State) : State :=
  let r := s.fab.ret
  if r.phase = 0 || s.clk.count < r.at_ then s
  else match fin? 18 r.lane, fin? 18 r.spare with
    | some l, some sp =>
      let s := s.modFab fun v => { v with ret := {} }
      if r.phase = 5 then
        raise 0x9021 1 255 (r.lane * 2 ^ 24 + r.spare * 2 ^ 16 + 2 * 2 ^ 8)
          (modLane l (fun a => { a with st := .suspect, retestAt := some (s.clk.count + 512) })
            (s.modFab fun v => { v with mismatch := inc32 v.mismatch }))
      else
        modLane l (fun a => { a with st := .inService, pos := some r.pos })
          (modLane sp (fun a => { a with st := .spare, pos := none }) s)
    | _, _ => s.modFab fun v => { v with ret := {} }

/-- What the fabric does at every cycle boundary. -/
def fabBoundary (s : State) : State :=
  let s := spareReport (laneReturn s)
  s.modFab fun v => { v with lanes := vmap (fun a => { a with resCy := 0 }) v.lanes
                             rolling := if s.sen.mlSig then v.rolling else none }

/-- LANE_HANDOFF: at a boundary with a free spare lane, a SUSPECT lane's position goes to the lowest of them without a dual
run; after a residue error with event 0x9020, and with no free spare such a lane stays in service (22 R736, R738). -/
def doLaneHandoff (l : Fin 18) (s : State) : State :=
  match s.fab.takeDue.find? (·.1 == l.val), (finList 18).find? (laneFree s) with
    | some d, some sp =>
      let p := s.fab.lanes[l].pos
      let s := modLane sp (fun a => { a with st := .inService, pos := p })
        (modLane l (fun a => { a with st := .suspect, pos := none, retestAt := some (s.clk.count + 512) }) s)
      raiseIf d.2 0x9020 1 255 (l.val * 2 ^ 24 + sp.val * 2 ^ 16)
        (s.modFab fun v => { v with takeDue := v.takeDue.filter (·.1 != l.val) })
    | some (_, true), none =>
      let s := modLane l (fun a => { a with st := .inService }) s
      raise 0x9020 1 255 (l.val * 2 ^ 24 + 0xFF * 2 ^ 16) (s.modFab fun v => { v with takeDue := v.takeDue.filter (·.1 != l.val) })
    | _, _ => s

/-- Spare rows of a bank in use. -/
def rowsUsed (b : BankH) : List Nat := b.rows.filterMap (·.spare)

/-- The lowest free spare row of a bank. -/
def freeRow (b : BankH) : Option Nat := (List.range 8).find? fun k => !(rowsUsed b).contains k

/-- The entry of a row; a row plainly in service has none. -/
def rowOf (b : BankH) (r : Nat) : Row := (b.rows.find? (·.row == r)).getD { row := r }

/-- Keep an entry of a row only while it says something. -/
def putRow (e : Row) (b : BankH) : BankH :=
  let rest := b.rows.filter (·.row != e.row)
  { b with rows := if e.st = .inService && e.spare.isNone && e.ceRot = 0 then rest else insertBy (·.row) e rest }

/-- The row that a bank's rotation takes next: ascending, retired rows left out, by a search of n rows. -/
def nextRow (b : BankH) : (n : Nat) → Nat → Nat
  | 0, r => r
  | n + 1, r => if (rowOf b r).st = .retired then nextRow b n ((r + 1) % 512) else r

/-- SRAM_ROW_STEP: every 16 cy a bank with a free spare row copies its next row to the spare, March-tests it (`fails`) and
copies it back. A row that fails becomes SUSPECT on its spare with event 0x9031; a SUSPECT row at its turn takes its
address back after a pass, and is RETIRED with event 0x9032 after a fail (22 R735, R740, R741). -/
def doSramRowStep (bank : Fin 32) (fails : Bool) (s : State) : State :=
    let b := s.fab.banks[bank]
    if !rolling s || s.clk.count % 16 ≠ 0 then s
    else match freeRow b with
      | none => modBank bank (fun b => { b with testing := false }) s
      | some sp =>
        let first := if b.testing then (b.row + 1) % 512 else b.row
        let r := nextRow b 512 first
        let e := rowOf b r
        let wrap := decide (r < b.row)
        let s := modBank bank (fun b => { b with
          row := r, testing := true, rotations := if wrap then inc32 b.rotations else b.rotations
          rows := if wrap then (b.rows.map fun x => { x with ceRot := 0 }).filter fun x => x.st != .inService || x.spare.isSome
            else b.rows }) s
        if e.st = .suspect && e.spare.isSome then
          if fails then raise 0x9032 1 255 (bank.val * 2 ^ 24 + r * 2 ^ 12)
            (modBank bank (putRow { e with st := .retired, kind := 1 }) s)
          else modBank bank (putRow { row := r }) s
        else if fails then
          raise 0x9031 1 255 (bank.val * 2 ^ 24 + r * 2 ^ 12 + sp * 2 ^ 8)
            (modBank bank (putRow { e with st := .suspect, spare := some sp, kind := 2 }) s)
        else s

/-- SRAM_CORRECTABLE_ERROR: the read is corrected and written back; a row with 2 such reads in one rotation becomes SUSPECT
and moves at the next boundary, or stays with event 0x9034 when no spare row is free (22 R740, R741). -/
def execSramCorrectableError (bank : Fin 32) (row : Nat) (s : State) : Host.Outcome State Fault Refusal :=
  .next <|
    let e := rowOf s.fab.banks[bank] row
    let s := modBank bank (fun b => { putRow { e with ceRot := e.ceRot + 1 } b with ce := inc32 b.ce }) s
    if e.st ≠ .inService || e.ceRot + 1 < 2 then s
    else match freeRow s.fab.banks[bank] with
      | some _ => modBank bank (fun b => { putRow { e with ceRot := e.ceRot + 1, st := .suspect } b with
          moveDue := b.moveDue ++ [row] }) s
      | none => raise 0x9034 1 255 (bank.val * 2 ^ 24) s

/-- SRAM_ROW_MOVE: from the next cycle boundary a SUSPECT row's address moves to a free spare row, with event 0x9031
(22 R741). -/
def doSramRowMove (bank : Fin 32) (row : Nat) (s : State) : State :=
    let b := s.fab.banks[bank]
    if !b.moveDue.contains row then s
    else
      let s := modBank bank (fun b => { b with moveDue := b.moveDue.erase row }) s
      match freeRow b with
      | some sp => raise 0x9031 1 255 (bank.val * 2 ^ 24 + row * 2 ^ 12 + sp * 2 ^ 8)
          (modBank bank (putRow { rowOf b row with st := .suspect, spare := some sp, kind := 1 }) s)
      | none => raise 0x9034 1 255 (bank.val * 2 ^ 24) (modBank bank (putRow { rowOf b row with st := .inService }) s)

/-- The lowest free spare block. -/
def freeBlk (s : State) : Option (Fin 64) := (finList 64).find? fun k => s.fab.spares[k].use == 3 && s.fab.spares[k].st == .spare

/-- The entry of a block; a block plainly in service has none. -/
def blkOf (s : State) (b : Nat) : Blk := (s.fab.blks.find? (·.blk == b)).getD { blk := b }

/-- Keep an entry of a block only while it says something. -/
def putBlk (e : Blk) (s : State) : State :=
  s.modFab fun v =>
    let rest := v.blks.filter (·.blk != e.blk)
    { v with blks := if e.st = .inService && e.ceRot = 0 && !e.cePrev then rest else insertBy (·.blk) e rest }

/-- Change a spare block. -/
def modSpare (k : Fin 64) (f : SpareBlk → SpareBlk) (s : State) : State :=
  s.modFab fun v => { v with spares := v.spares.set k (f v.spares[k]) }

/-- The spare that holds a block's content. -/
def spareOf (s : State) (b : Nat) : Option (Fin 64) :=
  (finList 64).find? fun k => s.fab.spares[k].use == 1 && s.fab.spares[k].repl == b

/-- The block that the rotation takes next, by a search of n blocks: retired ones are left out. -/
def nextBlk (s : State) : (n : Nat) → Nat → Nat
  | 0, b => b
  | n + 1, b => if (blkOf s b).st = .retired then nextBlk s n ((b + 1) % 1024) else b

/-- MRAM_BLOCK_STEP: each epoch boundary one block is copied to the lowest free spare, tested (`fails`) and restored. A block
that fails becomes SUSPECT on its spare with event 0x9051; a SUSPECT block at its turn returns with event 0x9053 or is
RETIRED with event 0x9052. With no free spare the test stops, event 0x9055 (22 R735, R742, R743, R751). -/
def doMramBlockStep (fails : Bool) (s : State) : State :=
    if !rolling s || s.clk.count % 64 ≠ 0 then s
    else
      let b := nextBlk s 1024 ((s.fab.block + 1) % 1024)
      let e := blkOf s b
      let wrap := decide (b ≤ s.fab.block)
      let s := s.modFab fun v => { v with
        block := b
        brot := if wrap then inc32 v.brot else v.brot
        blks := if wrap then (v.blks.map fun x => { x with ceRot := 0, cePrev := x.ceRot != 0 }).filter fun x =>
            x.st != .inService || x.cePrev else v.blks }
      match freeBlk s with
      | none => if s.fab.noSpare then s else raise 0x9055 1 255 0 (s.modFab fun v => { v with noSpare := true })
      | some sp =>
        if e.st = .suspect then
          match spareOf s b with
          | some k =>
            if fails then raise 0x9052 1 255 (b * 2 ^ 22) (putBlk { e with st := .retired } s)
            else raise 0x9053 1 255 (b * 2 ^ 22)
              (putBlk { blk := b } (modSpare k (fun x => { x with st := .spare, use := 3, repl := 0 })
                (s.modFab fun v => { v with returns := inc32 v.returns })))
          | none => s
        else if fails then
          raise 0x9051 1 255 (b * 2 ^ 22 + sp.val * 2 ^ 16)
            (putBlk { e with st := .suspect } (modSpare sp (fun _ => { st := .inService, use := 1, repl := b }) s))
        else s.modFab fun v => { v with rolling := some (b, sp.val) }

/-- MRAM_CORRECTABLE_ERROR: the word is written back; a block with such words on two consecutive rotations, or in more than
4 words of one, becomes SUSPECT (22 R743). -/
def execMramCorrectableError (blk : Nat) (s : State) : Host.Outcome State Fault Refusal :=
  .next <|
    let e := blkOf s blk
    let e' := { e with ceRot := e.ceRot + 1 }
    let s := putBlk e' (s.modFab fun v => { v with bce := inc32 v.bce })
    if e.st = .inService && (e.cePrev || 4 < e'.ceRot) then
      (putBlk { e' with st := .suspect } s).modFab fun v => { v with blkMove := v.blkMove ++ [blk] }
    else s

/-- MRAM_BLOCK_MOVE: at the next epoch boundary a SUSPECT block's content moves to a free spare as a soft repair, with event
0x9051 (22 R743). -/
def doMramBlockMove (blk : Nat) (s : State) : State :=
    if !s.fab.blkMove.contains blk || s.clk.count % 64 ≠ 0 then s
    else
      let s := s.modFab fun v => { v with blkMove := v.blkMove.erase blk }
      match freeBlk s with
      | some sp => raise 0x9051 1 255 (blk * 2 ^ 22 + sp.val * 2 ^ 16)
          (putBlk { blkOf s blk with st := .suspect } (modSpare sp (fun _ => { st := .inService, use := 1, repl := blk }) s))
      | none => raise 0x9055 1 255 0 (putBlk { blkOf s blk with st := .inService } s)

/-- EVENT_RAISED: the event unit takes an event from a source (22 R745 to R747). -/
def execEventRaised (code source point arg : Nat) (s : State) : Host.Outcome State Fault Refusal :=
  .next (raise code source point arg s)

/-- EVENTS_DROPPED and the first loss of a run, reported at the next boundary ahead of the limits: 0x9060, then 0x9061;
the counts of the cycle start anew (22 R745 to R747). -/
def evBoundary (s : State) : State :=
  let d := s.ev.dropped
  let l := s.ev.lostDue
  let s := s.modEv fun v => { v with acc := 0, accSafe := 0, dropped := 0, lostDue := none }
  let put := fun (code arg : Nat) (s : State) =>
    evPut { count := s.clk.count, code, source := 0, point := 255, arg := arg % 2 ^ 32 } s
  let s := if d = 0 then s else put 0x9060 (min d (2 ^ 30 - 1)) s
  match l with
  | some n => put 0x9061 n s
  | none => s

/-- The oldest ESEQ held in the ring or the journal (22 Table 22.5). -/
def evOldest (s : State) : Nat :=
  let r := (s.ev.ring.getLast?.map (·.1)).getD s.ev.next
  match (journalEvents s).head? with
  | some e => min e.1 r
  | none => r

end Sys2Proof.Machine
end

