-- ==== Sys2Proof/Machine/RecCore.lean ====
section
/-! DEFINITION. Ledger cells and banks, and the composition of Favesel records (14 R474, R484; 15 R505 to R512). -/

namespace Sys2Proof.Machine

/-! Ledger banks. -/

/-- A bank by number, and a change of one. -/
def bankAt (s : State) (b : Nat) : Bank := s.led.banks.toList.getD b {}
def modBankAt (b : Nat) (f : Bank → Bank) (s : State) : State :=
  match fin? 4 b with
  | some k => s.modLed fun l => { l with banks := l.banks.set k (f l.banks[k]) }
  | none => s

/-- The bank that holds a role: 0 current, 1 closed-1, 2 closed-2, 3 spare (14 R484). -/
def bankOfRole (s : State) (r : Nat) : Nat := s.led.period.banks.toList.getD r 0

/-- The bank of the period of a cycle (14 R476, R486). -/
def bankOfCycle (s : State) (n : Nat) : Nat := if n < s.led.period.startCount then bankOfRole s 1 else bankOfRole s 0

/-- A ledger slot in a bank; a slot not listed is all zero. -/
def ledRow (s : State) (b slot : Nat) : SlotRow := (kget? slot (bankAt s b).rows).getD {}
def putLedRow (b slot : Nat) (r : SlotRow) (s : State) : State :=
  modBankAt b (fun k => { k with rows := if r = {} then kdel slot k.rows else kset slot r k.rows }) s

/-- The slot header word (14 Table 14.3). -/
def slotHeader (r : SlotRow) : W128 :=
  mkWord [(112, r.tenant), (110, r.cls), (109, b2n r.carried), (72, (r.sat.map fun c => 2 ^ c).sum), (0, r.bindCount)]

/-- The largest value of a cell: all ones with a zero fraction for energy and money, all ones for counts (14 R492). -/
def cellMax (c : Nat) : Nat :=
  match c % 6 with
  | 0 | 1 => (2 ^ 96 - 1) * 2 ^ 32
  | 2 | 3 => (2 ^ 95 - 1) * 2 ^ 32
  | _ => 2 ^ 128 - 1

/-- A cell of a slot. -/
def cellOf (r : SlotRow) (c : Nat) : Nat := r.cells.toList.getD c 0

/-- Totals of a slot over the four tariffs: IMP_E, EXP_E, IMP_AMT, EXP_CR, saturating (14 R487, R492). -/
def slotTotals (r : SlotRow) : List Nat :=
  (List.range 4).map fun k => min (cellMax k) ((List.range 4).map fun t => cellOf r (6 * t + k)).sum

/-- Prices and fees of TARIFF_PRICE (14 Table 14.1): class 0 in the highest bits of its word. -/
def priceFld (s : State) (w cls : Nat) : Nat := cfg s 0x50 0 w (127 - 32 * cls) (96 - 32 * cls)
def impPrice (s : State) (t cls : Nat) : Nat := priceFld s (1 + t) cls
def expPrice (s : State) (t cls : Nat) : Nat := priceFld s (5 + t) cls
def feeOf (s : State) (cls : Nat) : Nat := priceFld s 9 cls

/-- Class of a tenant in TENANT_DIR, 0 for 0xFFFF and for a tenant not listed (13 Table 13.2). -/
def tenantClass (s : State) (t : Nat) : Option Nat := (tenantEntry s t).map fun e => fld e.1 111 110

/-! Favesel records. -/

/-- LED signs: slot 1 holds the metrology key, the hub is not RETIRED, the mains-loss signal is down (15 R505, R531, 04 R157). -/
def ledSigns (s : State) : Bool := (keySlot s 1).status == .loaded && !s.sen.mlSig && lcCode s != 5

/-- The common header (15 Table 15.1). -/
def recHead (s : State) (kind words no cur : Nat) (legal retire : Bool) : List W128 :=
  [mkWord [(96, 0x53464759), (88, 1), (80, kind), (79, b2n legal), (78, b2n retire), (64, words), (0, s.life.serial)],
   mkWord [(64, no % 2 ^ 64), (0, s.clk.count % 2 ^ 64)],
   mkWord [(64, s.clk.rtcS % 2 ^ 64), (32, (keySlot s 1).keyId), (0, s.img.gen)],
   mkWord [(96, (estateId s).getD 0), (88, nodeId s), (80, lcCode s), (64, cur), (32, cfg s 0x50 0 0 63 32), (16, min (serviceCount s) 0xFFFF)]]

/-- Four signature words of a record's content under slot 1 (15 R505). -/
def recSig (s : State) (ws : List W128) : List W128 :=
  let g := bytesWords 4 (Config.ecdsaSign (keySlot s 1).secret (wordsBytes ws) 0)
  g ++ List.replicate (4 - g.length) 0#128

/-- Draw a record number; none is drawn twice (15 R506). -/
def drawRecNo (s : State) : Nat × State := (s.recs.next, s.modRecs fun r => { r with next := r.next + 1 })

/-- A 128-bit word of a value. -/
def word (n : Nat) : W128 := BitVec.ofNat 128 n

/-- Body of a session seal, words 4 to 26 (15 Table 15.2). -/
def sealBody (i : Fin 32) (b : Binding) (r : SesRec) : List W128 :=
  [mkWord [(96, b.session), (88, i.val), (80, b.endReason.getD 0), (76, b.path), (74, b.cls), (72, b.startTariff), (68, b.proto)
           , (48, b.tenant), (40, b.slot), (0, b.endPeriod)],
   mkWord [(64, b.s % 2 ^ 64), (0, b.endAt % 2 ^ 64)], mkWord [(64, b.startRtc % 2 ^ 64), (0, b.endRtc % 2 ^ 64)],
   BitVec.ofNat 128 (if b.path = 1 then natLE (b.emaid.take 14) else 0)]
  ++ r.impT.toList.map word ++ r.expT.toList.map word
  ++ [r.impAmt, r.expCr, r.fee, r.seconds, r.brgImp, r.estImp, b.startImp, r.regImpE, b.startExp, r.regExpE].map word
  ++ [mkWord [(127, b2n r.bridged), (126, b2n r.gap), (125, b2n r.clk), (124, b2n r.subst), (123, b2n r.ovr), (122, b2n r.sfault),
              (121, b2n r.split), (120, b2n r.isPartial), (119, b2n r.sat)]]

/-- The governing copy of a point's session record: the higher stamp that the intent log still vouches for (15 R509). -/
def sesCopyOf (s : State) (i : Fin 32) : SesCopy :=
  let c := s.recs.copies[i]
  let ok := fun (x : SesCopy) => decide (x.stamp ≤ s.led.lastSeq)
  if ok c.1 && (!ok c.2 || decide (c.2.stamp ≤ c.1.stamp)) then c.1 else c.2

/-- Currency of a period: the closed one's is kept with its close. -/
def curOf (s : State) (period : Nat) : Nat :=
  if period = s.led.closing.period && period ≠ s.led.period.no then s.led.closing.cur else s.led.period.cur

/-- SESSION_SEAL: compose and sign the seal of a point from its session record, event 0x5050; it enters the ring of 128 and waits for
the journal (15 R508, R510). -/
def sealSession (i : Fin 32) (s : State) : State :=
  let c := sesCopyOf s i
  let s := s.modRecs fun r => { r with sealDue := r.sealDue.filter (· != i.val) }
  match c.bind with
  | none => s
  | some b =>
    let (no, s) := drawRecNo s
    let ws := recHead s 1 31 no (curOf s b.endPeriod) b.startSealed false ++ sealBody i b c.srec
    let ws := ws ++ recSig s ws
    let s := s.modRecs fun r =>
      { r with
        ring := (r.ring ++ [(no, ws)]).drop (r.ring.length + 1 - 128)
        jnlDue := r.jnlDue ++ [no]
        copies := r.copies.set i ({ r.copies[i].1 with bind := none }, { r.copies[i].2 with bind := none }) }
    raise 0x5050 3 i.val (no % 2 ^ 32) s

/-- Compose the session seals that are due, in ascending point index, once LED can sign (15 R528, R531; 04 R157). -/
def sealSessions (s : State) : State :=
  if !ledSigns s then s
  else (finList 32).foldl (fun s (i : Fin 32) => if s.recs.sealDue.contains i.val then sealSession i s else s) s

/-- Words 0 to 7 of a period statement (15 Table 15.3). -/
def stmtHead (s : State) (no slot : Nat) (c : CloseInfo) : List W128 :=
  let r := ledRow s c.bank slot
  recHead s 2 36 no c.cur c.legal false ++
    [mkWord [(96, c.period), (80, r.tenant), (72, slot), (70, r.cls), (69, b2n r.carried), (68, b2n (s.led.carried.contains slot))],
     mkWord [(64, c.pStart % 2 ^ 64), (0, c.count % 2 ^ 64)], mkWord [(64, c.pStartRtc % 2 ^ 64), (0, c.instant % 2 ^ 64)],
     mkWord [(64, r.bindCount % 2 ^ 64), (40, (r.sat.map fun x => 2 ^ x).sum)]]

/-- The cells of a slot as words. -/
def rowCells (r : SlotRow) : List W128 := r.cells.toList.map word

/-- Seal the statement of one slot of the closed period (15 R511). -/
def sealStatement (slot : Nat) (s : State) : State :=
  let c := s.led.closing
  let (no, s) := drawRecNo s
  let head := stmtHead s no slot c
  let sig := recSig s (head ++ rowCells (ledRow s c.bank slot))
  (s.modRecs fun r => { r with stmt1 := r.stmt1 ++ [{ slot, no, head, sig }] }).modLed fun l =>
    { l with sealing := l.sealing.filter (· != slot), period := { l.period with sealedN := min 65535 (l.period.sealedN + 1) } }

/-- Seal the statements that are due, in ascending slot order, once the commits tied to the close are written (14 R488). -/
def sealStatements (s : State) : State :=
  if !ledSigns s || s.led.sealing.isEmpty || s.led.pends.any (fun p => p.tied && p.isClose) || !s.led.hdrDue.isEmpty then s
  else
    let s := (s.led.sealing.foldl (fun s k => sealStatement k s) s)
    s.modLed fun l => { l with sealedBnd := s.clk.bndTot }

/-- A register reading, words 0 to its end, of a point or of a slot (15 Table 15.4, R512); `cause` 1 request, 2 retire. A point's values
are those of the RESULT snapshot, and READ_COUNT is the boundary after the cycle they end with (log entry 34). -/
def readingWords (s : State) (no subject index cause challenge : Nat) (legal : Bool) : List W128 :=
  let p := s.led.period.no
  let w4 := fun (tenant : Nat) => mkWord [(120, subject), (112, index), (104, cause), (64, p), (48, tenant)]
  let w5 := fun (n : Nat) => mkWord [(64, n % 2 ^ 64), (0, challenge)]
  let ws :=
    if subject = 1 then
      let i := (fin? 32 index).getD 0
      let x := s.pmet[i]
      let n := if x.pub.count = 0 then s.clk.count else x.pub.count + 1
      let tenant := match s.led.binds[i] with | some b => if b.endReason.isNone then b.tenant else 0 | none => 0
      recHead s 3 25 no s.led.period.cur legal (cause == 2) ++ [w4 tenant, w5 n, mkWord [(114, (x.set.sat.map fun r => 2 ^ r).sum), (113, b2n x.set.reset)]]
        ++ x.pubRegs.toList.map word
    else
      let r := ledRow s (bankOfRole s 0) index
      recHead s 3 35 no s.led.period.cur legal (cause == 2) ++ [w4 r.tenant, w5 s.clk.count, slotHeader r] ++ rowCells r
  ws ++ recSig s ws

end Sys2Proof.Machine
end

