-- ==== Sys2Proof/Machine/Ledger.lean ====
section
/-! DEFINITION. Tariffs, bookings, commits, periods and snapshots; the BIND inlet (spec/14; 01 R29, R30; 13 R457 to R461). -/

namespace Sys2Proof.Machine

/-! Booking a metered cycle (14 R476, R477; 15 R508). -/

/-- The remainders of a slot and tariff in a bank. -/
def remOf (s : State) (b slot t : Nat) : Remainder :=
  (s.led.rems.find? fun r => r.bank == b && r.slot == slot && r.tariff == t).getD { bank := b, slot, tariff := t }
def putRem (x : Remainder) (s : State) : State :=
  s.modLed fun l => { l with rems := x :: l.rems.filter fun r => !(r.bank == x.bank && r.slot == x.slot && r.tariff == x.tariff) }

/-- Add amounts to the pending entry of a point, bank and tariff that no tied boundary has passed. -/
def addPend (p : Pend) (s : State) : State :=
  if p.impE + p.expE + p.impAmt + p.expCr + p.sec + p.sess = 0 then s
  else s.modLed fun l =>
    let same := fun (q : Pend) => q.bank == p.bank && q.slot == p.slot && q.point == p.point && q.tariff == p.tariff && !q.tied
    match l.pends.find? same with
    | some q =>
      let n := { q with impE := q.impE + p.impE, expE := q.expE + p.expE, impAmt := q.impAmt + p.impAmt, expCr := q.expCr + p.expCr
                        sec := q.sec + p.sec, sess := q.sess + p.sess }
      { l with pends := l.pends.map fun x => if same x then n else x }
    | none => { l with pends := l.pends ++ [p] }

/-- Change a point's binding. -/
def modBind (i : Fin 32) (f : Binding → Binding) (s : State) : State :=
  s.modLed fun l => { l with binds := l.binds.set i (l.binds[i].map f) }

/-- Add to entry t of a list of four. -/
def add4 (v : Vector Nat 4) (t n : Nat) : Vector Nat 4 :=
  match fin? 4 t with
  | some k => v.set k (v[k] + n)
  | none => v

/-- Book a cycle of a point with a binding that covers it; `regs` are its registers before the cycle (14 R476; 15 R508). -/
def bookPoint (info : CycInfo) (regs : Vector Nat 14) (i : Fin 32) (s : State) : State :=
  match s.led.binds[i] with
  | none => s
  | some b =>
    if info.count < b.s || (b.endReason.isSome && b.endAt ≤ info.count) then s
    else
      let x := s.pmet[i]
      let r := x.res
      let bank := bankOfCycle s info.count
      let t := info.tariff
      let cls := (ledRow s bank b.slot).cls
      let rem := remOf s bank b.slot t
      let pays := b.tenant != 0xFFFF
      let amt := rem.impAmt + (if pays then (r.incImp * impPrice s t cls : Nat) / (10 ^ 9 : Rat) else 0)
      let cr := rem.expCr + (if pays then (r.incExp * expPrice s t cls : Nat) / (10 ^ 9 : Rat) else 0)
      let ns := rem.ns + (if r.valid && r.closed && !r.gap then r.dur else 0)
      let a := amt.floor.toNat
      let c := cr.floor.toNat
      let sec := ns / 1000000000
      let s := putRem { bank, slot := b.slot, tariff := t, impAmt := amt - (a : Rat), expCr := cr - (c : Rat), ns := ns % 1000000000 } s
      let s := addPend { bank, slot := b.slot, point := i.val, tariff := t, impE := r.incImp, expE := r.incExp, impAmt := a, expCr := c, sec } s
      let reg := fun (k : Nat) => x.set.regs.toList.getD k 0
      let est := reg 11 - regs.toList.getD 11 0
      modBind i (fun b =>
        let b := if b.regSet then b else { b with startImp := regs.toList.getD 0 0, startExp := regs.toList.getD 1 0, regSet := true }
        let q := b.run
        let q := { q with
          impT := add4 q.impT t r.incImp, expT := add4 q.expT t r.incExp, impAmt := q.impAmt + a, expCr := q.expCr + c
          seconds := q.seconds + sec, brgImp := q.brgImp + r.brgImp, estImp := q.estImp + est, regImpE := reg 0, regExpE := reg 1
          bridged := q.bridged || r.bridgedTk != 0, gap := q.gap || r.gap, clk := q.clk || r.clk, subst := q.subst || r.subst
          ovr := q.ovr || r.ovr, sfault := q.sfault || r.sfault, isPartial := q.isPartial || r.isPartial
          sat := q.sat || x.set.sat.contains 0 || x.set.sat.contains 1 }
        { b with run := q, impE := b.impE + r.incImp }) s

/-- The end commit of a session: one session, and the fee if it booked import, under the tariff of cycle s in the bank of cycle e - 1
(14 R477). -/
def bookEnd (i : Fin 32) (b : Binding) (s : State) : State :=
  let bank := bankOfCycle s (b.endAt - 1)
  let fee := if b.impE ≠ 0 && b.tenant ≠ 0xFFFF then feeOf s (ledRow s bank b.slot).cls * 2 ^ 32 else 0
  let s := addPend { bank, slot := b.slot, point := i.val, tariff := b.startTariff, impAmt := fee, sess := 1 } s
  modBind i (fun b =>
    let q := { b.run with fee := b.run.fee + fee, impAmt := b.run.impAmt + fee }
    { b with endPeriod := (bankAt s bank).period, run := q, endBooked := true }) s

/-- Tie the pending amounts of a point to the boundary that closed a cycle (14 R478). -/
def tiePends (i : Fin 32) (isEnd isClose : Bool) (s : State) : State :=
  modBind i (fun b => { b with runTied := b.run })
    (s.modLed fun l => { l with pends := l.pends.map fun p =>
      if p.point == i.val then { p with tied := true, isEnd := p.isEnd || isEnd, isClose := p.isClose || isClose } else p })

/-- The commits tied to the boundary that closed a cycle: every 50 cy from the accept boundary, a tariff switch, a snapshot, a close,
the end (14 R478). `all`: every binding ends or is committed here, as at a restart, a retire or an outage (14 R479, R504). -/
def tieCycle (info : CycInfo) (all : Bool) (s : State) : State :=
  let n := info.idx + 2
  let tie := s.led.ties.find? (·.1 == n)
  let s := (finList 32).foldl (fun s (i : Fin 32) =>
    match s.led.binds[i] with
    | none => s
    | some b =>
      let ends := b.endReason.isSome && !b.endBooked && decide (b.endBnd ≤ n)
      let s := if ends then bookEnd i b s else s
      if ends || all || tie.isSome || (decide (b.sBnd < n) && (n - b.sBnd) % 50 = 0) then
        tiePends i ends (match tie with | some t => t.2 | none => false) s
      else s) s
  s.modLed fun l => { l with ties := l.ties.filter fun t => decide (n < t.1) }

/-- LED takes the amounts of a metered cycle and ties the commits of the boundary that closed it (08 R268, 14 R476, R478). -/
def bookCycle (info : CycInfo) (before : Vector (Vector Nat 14) 32) (all : Bool) (s : State) : State :=
  tieCycle info all ((finList 32).foldl (fun s (i : Fin 32) => bookPoint info before[i] i s) s)

/-- Meter and book one ended cycle. -/
def meterAndBook (info : CycInfo) (part all : Bool) (s : State) : State :=
  let before := vmap (fun x => x.set.regs) s.pmet
  bookCycle info before all (meterCycle info part s)

/-- METER_CYCLE: MET completes the oldest ended cycle whose frames have arrived and hands its amounts to LED (08 R273). -/
def execMeterCycle (s : State) : Host.Outcome State Fault Refusal :=
  .next <| match s.met.todo with
    | [] => s
    | info :: rest =>
      if s.met.closedOut || !cycleArrived s info then s
      else meterAndBook info false false (s.modMet fun m => { m with todo := rest })

/-! Transactions (14 R480 to R483, R492). -/

/-- Cell amounts of a pending entry: cell index and value. -/
def pendCells (p : Pend) : List (Nat × Nat) :=
  let b := 6 * p.tariff
  [(b, p.impE), (b + 1, p.expE), (b + 2, p.impAmt), (b + 3, p.expCr), (b + 4, p.sec), (b + 5, p.sess)].filter (·.2 != 0)

/-- Add to a cell of a slot: a saturated cell takes nothing; one that would pass its largest value saturates, event 0x5030 (14 R492). -/
def cellAdd (bank slot point c n : Nat) (s : State) : State :=
  let r := ledRow s bank slot
  match fin? 24 c with
  | none => s
  | some k =>
    if r.sat.contains c then s
    else if cellMax c < r.cells[k] + n then
      raise 0x5030 3 point (slot * 2 ^ 24 + c * 2 ^ 16)
        (putLedRow bank slot { r with cells := r.cells.set k (cellMax c), sat := insertAsc c r.sat } s)
    else putLedRow bank slot { r with cells := r.cells.set k (r.cells[k] + n) } s

/-- Address of an intent entry (14 Table 14.4). -/
def intentAddr (bank slot cell : Nat) : Nat := bank * 2 ^ 14 + slot * 2 ^ 6 + cell

/-- The cells and the header of a slot that differ between two states, as intent entries (14 R480). -/
def changedEntries (a b : State) (slot : Nat) : List (Nat × Nat) :=
  (List.range 4).flatMap fun k =>
    let x := ledRow a k slot
    let y := ledRow b k slot
    ((List.range 24).filterMap fun c => if cellOf x c = cellOf y c then none else some (intentAddr k slot c, cellOf y c))
      ++ (if slotHeader x = slotHeader y then [] else [(intentAddr k slot 24, (slotHeader y).toNat)])

/-- Write the intents of a transaction, at most 16 entries each, and mark them done (14 R481). -/
def putIntents : (fuel : Nat) → List (Nat × Nat) → State → State
  | 0, _, s => s
  | n + 1, es, s =>
    if es.isEmpty then s
    else
      let seq := s.led.lastSeq + 1
      let it : Intent := { seq, entries := es.take 16, done := seq }
      putIntents n (es.drop 16) (s.modLed fun l =>
        { l with lastSeq := seq, intentsNow := l.intentsNow + 1
                 intents := l.intents.set (seq % 16) it (Nat.mod_lt _ (by decide)) })

/-- The session record of a point goes into the copy with the older stamp, stamped with the SEQ the transaction will take (15 R509). -/
def putSesCopy (i : Fin 32) (b : Binding) (s : State) : State :=
  s.modRecs fun r =>
    let c := r.copies[i]
    let n : SesCopy := { stamp := s.led.lastSeq + 1, point := i.val, srec := b.runTied, bind := some b }
    { r with copies := r.copies.set i (if c.1.stamp ≤ c.2.stamp then (n, c.2) else (c.1, n)) }

/-- The points whose tied amounts a slot holds, and those among them that end. -/
def tiedOf (s : State) (slot : Nat) : List Pend := s.led.pends.filter fun p => p.tied && p.slot == slot

/-- One ledger transaction: the session records first, then the intent, then the cells; an end commit closes its binding and makes
its session seal due (14 R480, R481; 15 R508, R509). -/
def slotTxn (slot : Nat) (s : State) : State :=
  let ps := tiedOf s slot
  let before := s
  let s := if s.led.hdrDue.contains slot then
      let old := ledRow s (bankOfRole s 1) slot
      let row : SlotRow := { tenant := old.tenant, cls := (tenantClass s old.tenant).getD old.cls, carried := true, bindCount := s.led.period.startCount }
      putLedRow (bankOfRole s 0) slot row s
    else s
  let s := ps.foldl (fun s p => (pendCells p).foldl (fun s c => cellAdd p.bank slot p.point c.1 c.2 s) s) s
  let es := changedEntries before s slot
  let pts := (finList 32).filter fun i => ps.any (·.point == i.val)
  let satOf := fun (i : Fin 32) => ps.any fun p => p.point == i.val && (ledRow s p.bank slot).sat.any fun c => c / 6 == p.tariff
  let s := pts.foldl (fun s (i : Fin 32) =>
    let mark := fun (q : SesRec) => { q with sat := q.sat || satOf i }
    modBind i (fun b => { b with runTied := mark b.runTied, run := mark b.run }) s) s
  let s := pts.foldl (fun s (i : Fin 32) => match s.led.binds[i] with | some b => putSesCopy i b s | none => s) s
  let s := putIntents 8 es s
  let s := s.modLed fun l =>
    { l with pends := l.pends.filter fun p => !(p.tied && p.slot == slot)
             hdrDue := l.hdrDue.filter (· != slot), waiting := l.waiting.filter (· != slot) }
  (pts.filter fun i => ps.any fun p => p.point == i.val && p.isEnd).foldl (fun s (i : Fin 32) =>
    (s.modLed fun l => { l with binds := l.binds.set i none }).modRecs fun r => { r with sealDue := insertAsc i.val r.sealDue }) s

/-- Group of a slot's transaction in the order of 14 R483. -/
def txnGroup (s : State) (slot : Nat) : Nat :=
  let ps := tiedOf s slot
  if s.led.hdrDue.contains slot then 1 else if ps.any (·.isClose) then 2 else if ps.any (·.isEnd) then 3 else 4

/-- Slots with a transaction to write, those that waited first (14 R483). -/
def txnSlots (s : State) : List Nat :=
  let due := (s.led.hdrDue ++ (s.led.pends.filter (·.tied)).map (·.slot)).foldl (fun acc x => insertAsc x acc) []
  let wait := s.led.waiting.filter due.contains
  wait ++ sortBy (txnGroup s) (due.filter fun x => !wait.contains x)

/-- Write the transactions that are due, 16 intents at most unless `unl`; the rest waits, with event 0x5033 once (14 R479, R483,
R504); then the session seals and the statements that follow. -/
def ledFlush (unl : Bool) (s : State) : State :=
  let s := (txnSlots s).foldl (fun s slot =>
    if unl || s.led.intentsNow < 16 then slotTxn slot s
    else s.modLed fun l => { l with waiting := if l.waiting.contains slot then l.waiting else l.waiting ++ [slot] }) s
  let n := s.led.waiting.length
  let s := raiseIf (n != 0 && !s.led.defSeen) 0x5033 3 255 n (s.modLed fun l => { l with deferred := min 65535 n, defSeen := l.defSeen || n != 0 })
  sealStatements (sealSessions s)

/-- The LEDGER gate publishes bindings, block list and tariff (01 R26, Table 1.5). -/
def publishLedger (s : State) : State :=
  let binds := (finList 32).filterMap fun (i : Fin 32) =>
    match s.led.binds[i] with
    | some b => if b.endReason.isNone then some ({ point := i.val, tenant := b.tenant, path := b.path, session := b.session } : BindSnap) else none
    | none => none
  s.modGates fun g => { g with ledgerSnap := binds, blockSnap := s.led.blocks, tariffSnap := s.led.active }

/-- LEDGER_COMMIT: the commits tied to the boundary before are written as merged transactions (14 R478, R480, R483). -/
def doLedgerCommit (s : State) : State :=
  if s.sen.mlSig || !s.clk.started then s else publishLedger (ledFlush false s)

/-! Periods, snapshots and statements (14 R484 to R489, R493, R503). -/

/-- The instant of a schedule (month, day, minute of day) in a year and month. -/
def instantOf (y m d min : Nat) : Nat := daysOfDate y m d * 86400 + min * 60
def schMonth (p : Nat) : Nat := p / 2 ^ 24 % 256
def schDay (p : Nat) : Nat := p / 2 ^ 16 % 256
def schMin (p : Nat) : Nat := p % 65536

/-- The first yearly and the first monthly instant after a time (14 R485). -/
def closeAfter (sch t : Nat) : Nat :=
  let y := (dateOfDays (t / 86400)).1
  let a := instantOf y (schMonth sch) (schDay sch) (schMin sch)
  if t < a then a else instantOf (y + 1) (schMonth sch) (schDay sch) (schMin sch)
def snapAfter (sch t : Nat) : Nat :=
  let (y, m, _) := dateOfDays (t / 86400)
  let a := instantOf y m (schDay sch) (schMin sch)
  if t < a then a else if m = 12 then instantOf (y + 1) 1 (schDay sch) (schMin sch) else instantOf y (m + 1) (schDay sch) (schMin sch)

/-- The last instant at or before a time, the next one, and how many there are, from an instant up; `fuel` at most. -/
def passInstants (next : Nat → Nat) (t : Nat) : (fuel : Nat) → Nat → Nat × Nat × Nat
  | 0, a => (a, a, 0)
  | n + 1, a =>
    if t < a then (a, a, 0)
    else
      let (l, x, k) := passInstants next t n (next a)
      if k = 0 then (a, x, 1) else (l, x, k + 1)

/-- The schedule of the PERIOD record. -/
def schedule (s : State) : Nat := cfg s 0x52 0 0 127 96

/-- Close and snapshot that fall due at a boundary: closes are marked for PERIOD_CLOSE, a snapshot waits for its commits; instants
passed over are reported (14 R486, R487, R493). Nothing falls due while the RTC is not valid or under the mains-loss signal. -/
def ledDue (s : State) : State :=
  let p := s.led.period
  if p.no = 0 || !s.sen.rtcValid || s.sen.mlSig then s
  else if p.nextClose = 0 then
    s.modLed fun l => { l with period := { p with nextClose := closeAfter p.schedule s.clk.rtcS, nextSnap := snapAfter p.schedule s.clk.rtcS } }
  else
    let (_, _, nc) := passInstants (closeAfter p.schedule) s.clk.rtcS 300 p.nextClose
    let (_, xs, ns) := passInstants (snapAfter p.schedule) s.clk.rtcS 3600 p.nextSnap
    let s := raiseIf (1 < nc || 1 < ns) 0x5043 3 255 (min 65535 (nc - 1) * 65536 + min 65535 (ns - 1)) s
    let s := if nc = 0 then s else s.modLed fun l => { l with closeDue := true }
    if ns = 0 then s
    else
      let w : SnapWait := { bank := bankOfRole s 0, bnd := s.clk.bndTot, count := s.clk.count, rtc := s.clk.rtcS }
      s.modLed fun l => { l with period := { l.period with nextSnap := xs }, snapWait := some w, ties := l.ties ++ [(s.clk.bndTot, false)] }

/-- Flip the banks at a close boundary (14 R486, R489; 13 R461): tags, roles, the new period, the carried slots, event 0x5040. -/
def closePeriod (s : State) : State :=
  let p := s.led.period
  let (inst, next, _) := passInstants (closeAfter p.schedule) s.clk.rtcS 300 p.nextClose
  let cur := bankOfRole s 0
  let c1 := bankOfRole s 1
  let c2 := bankOfRole s 2
  let sp := bankOfRole s 3
  let bound := ((bankAt s cur).rows.filter fun r => r.2.tenant != 0).map (·.1)
  let open_ := (finList 32).filterMap fun (i : Fin 32) => match s.led.binds[i] with
    | some b => if b.endReason.isNone && !endWaits s i && !s.led.blocks.contains b.tenant then some b.slot else none
    | none => none
  let carried := bound.filter open_.contains
  let s := if p.zeroed then s else modBankAt sp (fun k => { k with rows := [] }) s
  let s := modBankAt sp (fun k => { k with period := p.no + 1, role := 0 }) s
  let s := modBankAt cur (fun k => { k with role := 1 }) s
  let s := modBankAt c1 (fun k => { k with role := 2 }) s
  let s := modBankAt c2 (fun k => { k with role := 3 }) s
  let info : CloseInfo :=
    { bank := cur, period := p.no, pStart := p.startCount, pStartRtc := p.startRtc, count := s.clk.count, instant := inst, cur := p.cur
      legal := !s.recs.unsealedPeriod }
  let n : Period :=
    { p with no := p.no + 1, banks := #v[sp, cur, c1, c2], startCount := s.clk.count, startRtc := s.clk.rtcS
             nextClose := next, sealedN := 0, zeroed := false }
  let s := s.modLed fun l =>
    { l with
      period := n
      closing := info, closeDue := false, carried, hdrDue := carried, sealing := bound, freeDue := true, slotFullSeen := false
      ties := (l.ties.filter (·.1 != s.clk.bndTot)) ++ [(s.clk.bndTot, true)]
      rems := l.rems.filter fun r => r.bank == cur }
  let s := (finList 32).foldl (fun s (i : Fin 32) =>
    modBind i (fun b => { b with run := { b.run with split := b.run.split || b.endReason.isNone } }) s) s
  let s := s.modAuthSys fun y => { y with fullRefusals := 0 }
  let s := s.modRecs fun r => { r with stmt2 := r.stmt1, stmt2Period := r.stmt1Period, stmt1 := [], stmt1Period := p.no, unsealedPeriod := false }
  raise 0x5040 3 255 p.no s

/-- PERIOD_CLOSE: at the first boundary whose latched RTC is at or after the close instant (14 R486, R489). -/
def doPeriodClose (s : State) : State :=
  if s.led.closeDue && !s.sen.mlSig then publishLedger (ledFlush false (closePeriod s)) else s

/-- MONTHLY_SNAPSHOT: once the commits tied to its boundary are written the snapshot enters the ring of 24, event 0x5042 (14 R487). -/
def snapTake (s : State) : State :=
  match s.led.snapWait with
  | none => s
  | some w =>
    let rows := ((bankAt s w.bank).rows.filter fun r => r.2.tenant != 0).map fun r => (r.1, r.2.tenant, slotTotals r.2)
    let k := s.led.snapNext
    let n : Snapshot := { period := (bankAt s w.bank).period, index := k, count := w.count, rtc := w.rtc, rows }
    let s := s.modLed fun l =>
      { l with snaps := sortBy (·.index) (n :: l.snaps.filter (·.index != k)), snapNext := (k + 1) % 24, snapWait := none }
    raise 0x5042 3 255 (k * 2 ^ 24 + rows.length) s

def doMonthlySnapshot (s : State) : State :=
  match s.led.snapWait with
    | some w => if w.bnd < s.clk.bndTot && !(s.led.pends.any (·.tied)) && !s.sen.mlSig then snapTake s else s
    | none => s

/-- Free the slots of the closed period that are not carried, event 0x5041, and zero the spare bank (14 R488). -/
def freeSlots (s : State) : State :=
  let bound := ((bankAt s s.led.closing.bank).rows.filter fun r => r.2.tenant != 0).map (·.1)
  let n := (bound.filter fun k => !s.led.carried.contains k).length
  let s := modBankAt (bankOfRole s 3) (fun k => { k with rows := [] }) s
  let s := s.modLed fun l => { l with freeDue := false, carried := [], period := { l.period with zeroed := true } }
  raise 0x5041 3 255 n s

/-- STATEMENTS_SEALED: the first boundary after the last statement of a close is sealed (14 R488, 13 R461). -/
def doStatementsSealed (s : State) : State :=
    if s.led.freeDue && s.led.sealing.isEmpty && s.led.hdrDue.isEmpty && s.led.sealedBnd < s.clk.bndTot && !s.sen.mlSig then freeSlots s else s

/-! Tariff inputs (14 R469 to R471, R494). -/

/-- The reading of the ended cycle: the code that every sample gave, none if they differ or there was none. -/
def tarReading (l : List Nat) : Option Nat :=
  match l with
  | [] => none
  | c :: cs => if cs.all (· == c) then some c else none

/-- The tariff inputs at a boundary: a code other than the active one read in four cycles in a row falls due (14 R470, R471, R494). -/
def tarBoundary (s : State) : State :=
  s.modLed fun l =>
    let r := tarReading l.tarCodes
    let run := match r with
      | none => 0
      | some c => if c = l.active && s.life.cond == .run then 0 else if l.tarRunCode = c && l.tarRun ≠ 0 then min 4 (l.tarRun + 1) else 1
    { l with
      tarCodes := []
      tarRun := run
      tarRunCode := r.getD l.tarRunCode
      tarRead := r.getD l.tarRead
      tarUnstable := r.isNone
      tarLastOk := r.or l.tarLastOk
      tarBoot := (r :: l.tarBoot).take 4
      tarDue := if run = 4 && s.life.cond == .run then r else none
      unstRun := if r.isNone then inc32 l.unstRun else 0
      unstSeen := l.unstSeen && r.isNone }

/-- The active tariff changes: event 0x5001, a commit of every open binding is tied to the boundary (14 R470, R478). -/
def tarSwitch (old new : Nat) (s : State) : State :=
  let s := s.modLed fun l =>
    { l with active := new, tarDue := none, tarRun := 0, switchCount := s.clk.count, ties := l.ties ++ [(s.clk.bndTot, false)] }
  raise 0x5001 3 255 (old * 16 + new) s

/-- TARIFF_SWITCH: at the boundary at which a new code is due (14 R470). -/
def doTariffSwitch (s : State) : State :=
  match s.led.tarDue with
    | some c => publishLedger (tarSwitch s.led.active c s)
    | none => s

/-- The tariff at the RUN boundary: the code of the last four cycles, else of the last stable one, else T0 (14 R471). -/
def tarAtRun (s : State) : State :=
  let l := s.led
  let four := match l.tarBoot with
    | [some a, some b, some c, some d] => if a = b && b = c && c = d then some a else none
    | _ => none
  tarSwitch 15 ((four.or l.tarLastOk).getD 0) s

/-- TARIFF_UNSTABLE: unstable for 50 consecutive cycles, event 0x5002 once in the run (14 R494). -/
def execTariffUnstable (s : State) : Host.Outcome State Fault Refusal :=
  .next <|
    if 50 ≤ s.led.unstRun && !s.led.unstSeen then raise 0x5002 3 255 s.led.unstRun (s.modLed fun l => { l with unstSeen := true }) else s

/-! Blocks and bindings (13 R457 to R461, R465; 01 R29, R43). -/

/-- Apply one block or unblock; a block ends the tenant's sessions with reason 12 (13 R458, R459; 12 R431). -/
def blockApply (t : Nat) (set : Bool) (s : State) : State :=
  let was := s.led.blocks.contains t
  let s := s.modLed fun l => { l with blocks := if set then insertAsc t l.blocks else l.blocks.filter (· != t) }
  let s := raise (if set then 0x5020 else 0x5021) 3 255 (t + (if was = set then 2 ^ 31 else 0)) s
  if !set then s
  else (finList 32).foldl (fun s (i : Fin 32) =>
    match s.led.binds[i] with
    | some b =>
      if b.tenant = t && b.endReason.isNone then (sesEnd i 12 s).modSes i fun x => { x with ended := some 12 } else s
    | none => s) s

/-- TENANT_BLOCK_APPLY: the orders due at this boundary act on the block list in order of arrival (13 R458). -/
def doTenantBlockApply (s : State) : State :=
    let due := s.led.blockPend.filter fun e => decide (e.2.2 ≤ s.clk.count)
    publishLedger (due.foldl (fun s e => blockApply e.1 e.2.1 s)
      (s.modLed fun l => { l with blockPend := l.blockPend.filter fun e => !decide (e.2.2 ≤ s.clk.count) }))

/-- Reason of 13 Table 13.9 against a start notice, 0 if it stands: open binding, tenant, block (01 R29). -/
def noticeReason (s : State) (i : Fin 32) (tenant : Nat) : Nat :=
  if s.led.binds[i].isSome then 1
  else if !((tenant = 0xFFFF && ptFreeVend s i.val) || (tenantEntry s tenant).isSome) then 2
  else if s.led.blocks.contains tenant then 3
  else 0

/-- The slot of a tenant in the current period, or the lowest free one, which before the freeing after a close was free throughout
the closed period as well (13 R460, 14 R489). The flag says that it is newly bound. -/
def slotFor (s : State) (tenant : Nat) : Option (Nat × Bool) :=
  let cur := (bankAt s (bankOfRole s 0)).rows.filter fun r => r.2.tenant != 0
  match cur.find? (·.2.tenant == tenant) with
  | some r => some (r.1, false)
  | none =>
    let taken := cur.map (·.1) ++ s.led.hdrDue
      ++ (if s.led.freeDue then ((bankAt s s.led.closing.bank).rows.filter fun r => r.2.tenant != 0).map (·.1) else [])
    ((List.range 256).find? fun k => !taken.contains k).map fun k => (k, true)

/-- A start notice is refused: event 0x5010; the token or the contract learns it (13 R453, R460, Table 13.9; 12 Table 12.4). -/
def refuseNotice (i : Fin 32) (n : BindNotice) (r : Nat) (s : State) : State :=
  let s := raise 0x5010 3 i.val (r * 2 ^ 24 + n.tenant) (s.modAuth i fun x => { x with ledReason := r })
  let s := if r = 4 then
      raiseIf (!s.led.slotFullSeen) 0x5012 3 i.val n.tenant
        ((s.modAuthSys fun y => { y with fullRefusals := inc32 y.fullRefusals }).modLed fun l => { l with slotFullSeen := true })
    else s
  match s.auth[i].waitTok with
  | some w =>
    let s := (s.modAuth i fun x => { x with waitTok := none }).modAuthSys fun y => { y with tokensRefused := inc32 y.tokensRefused }
    refuseAuthOnly i n.path n.tenant w.2 s
  | none => refuseAuthOnly i n.path n.tenant 0 s
where
  /-- SES passes the refusal on with reason 15. -/
  refuseAuthOnly (i : Fin 32) (path tenant nonce : Nat) (s : State) : State :=
    let s := raise 0x4401 4 i.val (15 * 2 ^ 24 + path * 2 ^ 20 + tenant) (s.modAuth i fun x => { x with lastReason := 15 })
    let s := if path = 1 then s.modSes i fun x => { x with authBad := true } else s
    if path = 2 then tokenResult true i.val tenant nonce 15 0xFF s else s

/-- A start notice is accepted: the tenant's slot, the binding, and what SES does once the snapshot shows it: AUTHORISED, event 0x4301
with the session number, the token's result (01 R29; 10 Table 10.7; 12 R412; 13 R453, R460). -/
def acceptNotice (i : Fin 32) (n : BindNotice) (slot : Nat) (isNew : Bool) (s : State) : State :=
  let cur := bankOfRole s 0
  let cls := if n.tenant = 0xFFFF then 0 else (tenantClass s n.tenant).getD 0
  let s := if isNew then
      let before := s
      let s := putLedRow cur slot { tenant := n.tenant, cls, bindCount := s.clk.count } s
      raise 0x5011 3 i.val (slot * 2 ^ 24 + n.tenant) (putIntents 1 (changedEntries before s slot) s)
    else s
  let b : Binding :=
    { tenant := n.tenant, path := n.path, session := n.session, slot, s := s.clk.count, sBnd := s.clk.bndTot, startTariff := s.led.active
      startRtc := s.clk.rtcS, startSealed := true, cls := (ledRow s cur slot).cls, emaid := n.emaid }
  let s := publishLedger (s.modLed fun l => { l with binds := l.binds.set i (some b) })
  let s := s.modSes i fun x => { x with tenant := n.tenant, path := n.path, startCnt := s.clk.count }
  let s := if s.cp[i].pst = .connected then
      setOutputs i (raise 0x4301 4 i.val n.session ((setPst i .authorised s).modCp i fun x => { x with sessions := inc32 x.sessions }))
    else s
  match s.auth[i].waitTok with
  | some w =>
    let s := (s.modAuth i fun x => { x with waitTok := none }).modAuthSys fun y => { y with tokensOk := inc32 y.tokensOk }
    tokenResult true i.val w.1 w.2 0 slot s
  | none => s

/-- An end notice ends the open binding at this boundary (14 R476, R478). -/
def endNotice (i : Fin 32) (n : BindNotice) (reason : Nat) (s : State) : State :=
  publishLedger (modBind i (fun b =>
    if b.endReason.isNone && b.session = n.session then
      { b with endReason := some reason, endAt := s.clk.count, endBnd := s.clk.bndTot, endRtc := s.clk.rtcS, proto := n.proto, emaid := n.emaid }
    else b) s)

/-- A notice may be taken: an end at once; a start from the boundary after the cycle in which SES placed it, once the point's former
binding is committed, after a close due at this boundary (01 R29, 13 R465). -/
def noticeReady (s : State) (n : BindNotice) : Bool :=
  match n.ending with
  | some _ => true
  | none =>
    decide (n.placed < s.clk.count) && !s.led.closeDue
      && !(match (fin? 32 n.point).bind fun i => s.led.binds[i] with | some b => b.endReason.isSome | none => false)

/-- BINDING_NOTICE: LED takes the notice of the lowest point index that is ready, an end before a start (01 R29, R30, R43; 13 R460,
R465). -/
def doBindingNotice (s : State) : State :=
    let ready := s.gates.bindInlet.filter (noticeReady s)
    match (sortBy (fun n => 2 * n.point + (if n.ending.isSome then 0 else 1)) ready) with
    | [] => s
    | n :: _ =>
      let s := s.modGates fun g => { g with bindInlet := g.bindInlet.erase n }
      match fin? 32 n.point, n.ending with
      | none, _ => s
      | some i, some r => endNotice i n r s
      | some i, none =>
        match noticeReason s i n.tenant with
        | 0 =>
          match slotFor s n.tenant with
          | some (slot, isNew) => acceptNotice i n slot isNew s
          | none => refuseNotice i n 4 s
        | r => refuseNotice i n r s

/-! Start, restart and outage (14 R471, R473, R479, R485, R501 to R504). -/

/-- The first period opens at the first RUN boundary after COMMISSIONED (14 R485); with no valid RTC its instants are set at the first
boundary that has one. -/
def openPeriod (s : State) : State :=
  if s.led.period.no ≠ 0 then s
  else
    let sch := schedule s
    let s := modBankAt (bankOfRole s 0) (fun k => { k with period := 1, role := 0 }) s
    let s := (List.range 3).foldl (fun s r => modBankAt (bankOfRole s (r + 1)) (fun k => { k with role := r + 1 }) s) s
    let n : Period :=
      { s.led.period with
        no := 1, startCount := s.clk.count, startRtc := s.clk.rtcS, schedule := sch
        nextClose := if s.sen.rtcValid then closeAfter sch s.clk.rtcS else 0
        nextSnap := if s.sen.rtcValid then snapAfter sch s.clk.rtcS else 0 }
    (s.modLed fun l => { l with period := n }).modRecs fun r => { r with unsealedPeriod := false }

/-- At a RUN boundary: the period is open, its currency is the image's while no slot is bound, its instants follow the PERIOD record
(14 R473, R485). -/
def ledAtRun (s : State) : State :=
  let s := openPeriod s
  let free := !(bankAt s (bankOfRole s 0)).rows.any fun r => r.2.tenant != 0
  let s := if free then s.modLed fun l => { l with period := { l.period with cur := cfg s 0x50 0 0 127 112, curAlpha := cfg s 0x50 0 0 111 88 } } else s
  let s := if s.led.period.schedule = schedule s then s
    else
      let sch := schedule s
      let t := s.led.period.startRtc
      s.modLed fun l => { l with period := { l.period with schedule := sch, nextClose := closeAfter sch t, nextSnap := snapAfter sch t } }
  tarAtRun s

/-- Roll the intent log forward: an intent that is not done is written and marked done, event 0x5031 (14 R502). -/
def intentRoll (k : Fin 16) (s : State) : State :=
  let it := s.led.intents[k]
  if it.done = it.seq then s
  else
    let s := it.entries.foldl (fun s e =>
      let bank := e.1 / 2 ^ 14
      let slot := e.1 / 2 ^ 6 % 256
      let c := e.1 % 64
      let r := ledRow s bank slot
      if c = 24 then
        let w := word e.2
        putLedRow bank slot { r with tenant := fld w 127 112, cls := fld w 111 110, carried := fld w 109 109 == 1, bindCount := fld w 63 0
                                     sat := (List.range 24).filter fun x => bitOf (fld w 95 72) x } s
      else match fin? 24 c with
        | some q => putLedRow bank slot { r with cells := r.cells.set q e.2 } s
        | none => s) s
    raise 0x5031 3 255 (it.seq % 2 ^ 32) (s.modLed fun l => { l with intents := l.intents.set k { it with done := it.seq } })

/-- Discard an intent that is unreadable and not done, event 0x5032 (14 R502). -/
def intentDrop (k : Fin 16) (s : State) : State :=
  let it := s.led.intents[k]
  if it.done = it.seq then s
  else raise 0x5032 3 255 (it.seq % 2 ^ 32) (s.modLed fun l => { l with intents := l.intents.set k { it with entries := [], done := it.seq } })

/-- Ledger recovery in step S5 (14 R501, R502): the intents in ascending SEQ; the period record, from its other copy (`per` 1) or from
the bank tags (`per` 2: its start is not stated, a free value); remainders and everything in SRAM are lost; the spare bank is zeroed.
`bad`: intent slots whose CRC fails. -/
def ledRecover (bad : List Nat) (per : Nat) (s : State) : State :=
  let order := sortBy (fun k => (s.led.intents[k] : Intent).seq) (finList 16)
  let s := order.foldl (fun s (k : Fin 16) => if bad.contains k.val then intentDrop k s else intentRoll k s) s
  let s := if per = 1 then raise 0x5045 3 255 1 s
    else if per = 2 then
      let role := fun (r : Nat) => ((List.range 4).find? fun b => (bankAt s b).role == r).getD r
      let (c, s) := draw s
      let (t, s) := draw s
      let p : Period := { no := max 1 (bankAt s (role 0)).period, banks := #v[role 0, role 1, role 2, role 3], startCount := c % (s.life.c0 + 1)
                          startRtc := t % (s.sen.rtcS + 1), zeroed := false, schedule := s.led.period.schedule }
      let p := { p with nextClose := closeAfter p.schedule p.startRtc, nextSnap := snapAfter p.schedule p.startRtc }
      raise 0x5045 3 255 2 (s.modLed fun l => { l with period := p })
    else s
  let s := if s.led.period.zeroed then s
    else if s.led.freeDue then s
    else (modBankAt (bankOfRole s 3) (fun k => { k with rows := [] }) s).modLed fun l => { l with period := { l.period with zeroed := true } }
  s.modLed fun l =>
    { l with
      rems := [], pends := [], ties := [], waiting := [], intentsNow := 0, defSeen := false, deferred := 0, tarCodes := [], tarRun := 0
      tarRunCode := 0, tarRead := 0, tarUnstable := false, tarLastOk := none, tarBoot := [], tarDue := none, unstRun := 0, unstSeen := false
      active := 0, switchCount := 0, closeDue := false, snapWait := none, blockPend := [], binds := Vector.replicate 32 none }

/-- A close and a snapshot that are pending at C0 are taken there, before any booking; event 0x5044 (14 R503). -/
def ledAtC0 (s : State) : State :=
  let s := ledDue s
  let n := s.led.period.no
  let s := if s.led.closeDue then raise 0x5044 3 255 n (closePeriod s) else s
  let s := ledFlush true s
  snapTake s

/-- MET completes the cycles that have ended, and LED writes the commits tied to this boundary, before a restart or a retire acts
(14 R479). -/
def ledFinal (s : State) : State :=
  let s := s.met.todo.foldl (fun s info => meterAndBook info false true s) s
  ledFlush true (s.modMet fun m => { m with todo := [] })

end Sys2Proof.Machine
end

