-- ==== Sys2Proof/Machine/Readout.lean ====
section
/-! DEFINITION. Readout requests, grants, register readings, and the fetch of pages and records (15 R511 to R518). -/

namespace Sys2Proof.Machine

/-! Readout requests (15 R517, R518). -/

/-- Fields of a readout request. -/
def rqKind (w : W128) : Nat := fld w 127 120
def rqChannel (w : W128) : Nat := fld w 119 112
def rqValid (w : W128) : Nat := fld w 63 0

/-- Word 0 and word 1 keep their reserved and unused fields at zero (15 Table 15.6, reason 1). -/
def rqFormed (p : List W128) : Bool :=
  let a := pWord p 0
  let b := pWord p 1
  p.length == 2 && decide (1 ≤ rqKind a) && decide (rqKind a ≤ 3) && decide (rqChannel a ≤ 1)
    && (rqChannel a == 1 || fld a 111 104 == 0) && fld a 103 96 == 0 && (rqKind a == 1 || fld a 95 64 == 0)
    && (if rqKind a = 1 then b == 0
        else if rqKind a = 2 then decide (1 ≤ fld b 63 48) && decide (fld b 63 48 ≤ 256) && fld b 47 0 == 0
        else fld b 111 64 == 0 && (fld b 127 120 == 1 || fld b 127 120 == 2))

/-- A page range inside one protected range of 15 Table 15.5. -/
def protRange (a b : Nat) : Bool :=
  decide (a ≤ b) && ([(0x60, 0x60), (0x200, 0x2FF), (0x700, 0x700), (0x900, 0x91F)].any fun r => decide (r.1 ≤ a) && decide (b ≤ r.2))

/-- The subject of a register reading exists: a fitted point, a bound slot (15 Table 15.7 reason 4). -/
def rqSubject (s : State) (b : W128) : Bool :=
  let k := fld b 119 112
  if fld b 127 120 = 1 then hasPoint s k else decide ((ledRow s (bankOfRole s 0) k).tenant ≠ 0)

/-- The refusal reason of a readout request, 0 if it is accepted (15 Table 15.7); in NO-CONFIG and RETIRED readings are refused with
reason 5 (15 R531). -/
def rqReason (p : List W128) (s : State) : Nat :=
  let a := pWord p 0
  let b := pWord p 1
  let n := rqValid a
  let used := (s.recs.grants.toList.filter fun g => rqKind g.w0 != 0).length + s.recs.grantPend.length
  if !rqFormed p then 1
  else if n ≤ s.clk.count || s.clk.count + 262144 < n then 2
  else if rqKind a = 1 && !protRange (fld a 95 80) (fld a 79 64) then 3
  else if rqKind a = 3 && s.life.cond != .run && s.life.cond != .start then 5
  else if rqKind a = 3 && !rqSubject s b then 4
  else if rqKind a = 3 && (s.life.cond != .run || 8 ≤ s.recs.delivery.length + s.recs.readPend.length) then 5
  else if 8 ≤ used then 6
  else 0

/-- What LED does with an authenticated readout request: refuse it with event 0x5052, or hold its grant and its reading for the next
boundary. -/
def rqAct (p : List W128) (s : State) : Nat × State :=
  match rqReason p s with
  | 0 =>
    let e := (pWord p 0, pWord p 1, s.clk.bndTot)
    (0, s.modRecs fun r =>
      { r with grantPend := r.grantPend ++ [e], readPend := if rqKind (pWord p 0) = 3 then r.readPend ++ [e] else r.readPend })
  | n => (n, raise 0x5052 3 255 (n * 2 ^ 24 + rqKind (pWord p 0) * 2 ^ 16) s)

/-- A readout order whose KIND is one of those named. -/
def rqOrder (kinds : Nat → Bool) (o : OrderRec) (s : State) : State :=
  if kinds (rqKind (pWord (oPayload o) 0)) then ordered [10] o rqAct s else s

/-- ORDER_READOUT_PAGES: kind 1; a reserved kind is refused here as malformed (15 R517). -/
def execOrderReadoutPages (o : OrderRec) (s : State) : Host.Outcome State Fault Refusal := .next <| rqOrder (fun k => k != 2 && k != 3) o s

/-- ORDER_READOUT_RECORDS: kind 2 (15 R517). -/
def execOrderReadoutRecords (o : OrderRec) (s : State) : Host.Outcome State Fault Refusal := .next <| rqOrder (· == 2) o s

/-- ORDER_READOUT_REGISTER: kind 3 (15 R517). -/
def execOrderReadoutRegister (o : OrderRec) (s : State) : Host.Outcome State Fault Refusal := .next <| rqOrder (· == 3) o s

/-- The lowest empty grant. -/
def freeGrant (s : State) : Option (Fin 8) := (finList 8).find? fun g => rqKind s.recs.grants[g].w0 == 0

/-- The cursor of a grant that opens, when it covers the event window (22 R749). -/
def cursorOpen (g : Nat) (w0 : W128) (s : State) : State :=
  if rqKind w0 = 1 ∧ fld w0 95 80 ≤ 0x700 ∧ 0x700 ≤ fld w0 79 64 then
    s.modEv fun v => { v with cursors := (v.cursors.filter fun x => x.grant != g) ++ [{ grant := g, atCnt := evOldest s }] }
  else s

/-- GRANT_OPEN: the oldest accepted request of an earlier cycle opens its grant, event 0x5053 (15 R518). -/
def doGrantOpen (s : State) : State :=
    match s.recs.grantPend, freeGrant s with
    | e :: rest, some g =>
      if s.clk.bndTot ≤ e.2.2 || s.sen.mlSig then s
      else
        raise 0x5053 3 255 (g.val * 2 ^ 24 + rqKind e.1 * 2 ^ 16 + rqChannel e.1 * 2 ^ 8)
          (cursorOpen g.val e.1 (s.modRecs fun r => { r with grantPend := rest, grants := r.grants.set g { w0 := e.1, w1 := e.2.1 } }))
    | _, _ => s

/-- The number of a reading placed into word 1 of its grant (15 Table 15.15). -/
def withRecNo (w : W128) (no : Nat) : W128 := mkWord [(64, no % 2 ^ 64), (0, fld w 63 0)]

/-- REGISTER_READING_COMPOSE: the oldest reading requested in an earlier cycle is composed and signed, event 0x5051; its grant takes its
number (15 R506, R507, R512). -/
def doRegisterReadingCompose (s : State) : State :=
    match s.recs.readPend with
    | [] => s
    | e :: rest =>
      if s.clk.bndTot ≤ e.2.2 || !ledSigns s then s
      else
        let subject := fld e.2.1 127 120
        let legal := if subject = 1 then lcCode s == 3 else lcCode s == 3 && !s.recs.unsealedPeriod
        let (no, s) := drawRecNo s
        let ws := readingWords s no subject (fld e.2.1 119 112) 1 (fld e.2.1 63 0) legal
        let pend := s.recs.grantPend.any (· == e)
        let s := s.modRecs fun r =>
          let at_ := (finList 8).find? fun g => r.grants[g].w0 == e.1 && r.grants[g].w1 == e.2.1
          { r with
            readPend := rest
            delivery := r.delivery ++ [(no, ws)]
            grantPend := if pend then r.grantPend.map (fun x => if x == e then (x.1, withRecNo x.2.1 no, x.2.2) else x) else r.grantPend
            grants := if pend then r.grants
              else match at_ with
                | some g => r.grants.set g { w0 := e.1, w1 := withRecNo e.2.1 no }
                | none => r.grants }
        raise 0x5051 3 255 (no % 2 ^ 32) s

/-- GRANT_EXPIRY: grants end at VALID_COUNT:0, and the reading of a kind 3 grant leaves the delivery buffer (15 R518). -/
def doGrantExpiry (s : State) : State :=
  s.modRecs fun r =>
    let past := fun (w : W128) => rqKind w != 0 && decide (rqValid w ≤ s.clk.count)
    let gone := (r.grants.toList.filter fun g => past g.w0 && rqKind g.w0 == 3).map fun g => fld g.w1 127 64
    { r with
      grants := vmap (fun g => if past g.w0 then {} else g) r.grants
      grantPend := r.grantPend.filter fun e => !past e.1
      readPend := r.readPend.filter fun e => !past e.1
      delivery := r.delivery.filter fun d => !gone.contains d.1 }

/-! Pages and records (15 R510 to R512, R515, R516). -/

/-- A page as the gates published it last; none: not defined. -/
def pageWords (s : State) (page : Nat) : Option (List W128) :=
  (kget? page s.gates.pages).map fun ws => ws ++ List.replicate (64 - ws.length) 0#128

/-- A page is protected (15 Table 15.5). -/
def isProtected (page : Nat) : Bool := protRange page page

/-- One grant covers a page or a record for a reader on a channel, which on the building link is the REPLY_NODE (15 R516, R518). -/
def grantCovers (s : State) (channel node : Nat) (isRecord : Bool) (n : Nat) (g : Grant) : Bool :=
  let k := rqKind g.w0
  decide (s.clk.count < rqValid g.w0) && rqChannel g.w0 == channel && (channel == 0 || fld g.w0 111 104 == node)
    && (if isRecord then
          (k == 2 && decide (fld g.w1 127 64 ≤ n) && decide (n < fld g.w1 127 64 + fld g.w1 63 48)) || (k == 3 && fld g.w1 127 64 == n)
        else k == 1 && decide (fld g.w0 95 80 ≤ n) && decide (n ≤ fld g.w0 79 64))

/-- A grant covers a page or a record for a reader on a channel, which on the building link is the REPLY_NODE (15 R516, R518). -/
def granted (s : State) (channel node : Nat) (isRecord : Bool) (n : Nat) : Bool :=
  s.recs.grants.toList.any (grantCovers s channel node isRecord n)

/-! The event window (22 R749, Table 22.5). -/

/-- Event numbers held that the snapshot boundary had accepted, ascending: the word, and whether only the journal holds it. -/
def eventsHeld (s : State) : List (Nat × W128 × Bool) :=
  let ring := (s.ev.ring.map fun e => (e.1, eventWord e.2.2, false)).reverse
  let jrn := ((journalEvents s).filter fun e => !ring.any (·.1 == e.1)).map fun e => (e.1, e.2, true)
  (sortBy (·.1) (jrn ++ ring)).filter fun e => decide (e.1 < s.gates.evMark)

/-- The contiguous run of event numbers from e on, at most n. -/
def eventRun (held : List (Nat × W128 × Bool)) : (n : Nat) → Nat → List (W128 × Bool)
  | 0, _ => []
  | n + 1, e =>
    match held.find? (·.1 == e) with
    | some x => x.2 :: eventRun held n (e + 1)
    | none => []

/-- A snapshot of page 0x0700 under a grant: the cursor moves past what is no longer held, up to 62 contiguous events are returned,
and the cursor advances past them (22 R749). FIRST_ESEQ of a window without events is stated nowhere: a free value. -/
def eventWindow (g : Nat) (s : State) : List W128 × State :=
  let held := eventsHeld s
  let c0 := ((s.ev.cursors.find? (·.grant == g)).map (·.atCnt)).getD (evOldest s)
  let c := match held.find? fun e => decide (c0 ≤ e.1) with
    | some e => e.1
    | none => max c0 s.gates.evMark
  let evs := eventRun held 62 c
  let d := draw s
  let s := if evs.isEmpty then d.2 else s
  let s := s.modEv fun v =>
    { v with cursors := (v.cursors.filter fun x => x.grant != g) ++ [{ grant := g, atCnt := c + evs.length }] }
  let first := if evs.isEmpty then d.1 % 2 ^ 64 else c
  ([mkWord [(64, first), (56, evs.length), (55, b2n (evs.any (·.2))), (54, b2n (decide (c0 < c))), (0, s.ev.lost)],
    mkWord [(64, s.gates.evMark), (0, evOldest s)]] ++ evs.map (·.1), s)

/-- The whole words of a stored statement or retire reading: what is stored, then the cells of a bank, then the signature. -/
def stmtWords (s : State) (bank : Nat) (x : Stmt) : List W128 := x.head ++ rowCells (ledRow s bank x.slot) ++ x.sig

/-- A Favesel record by number: the ring, the statements of the closed periods, the retire readings, the delivery buffer, the journal
(15 R510 to R512). -/
def recordWords (s : State) (no : Nat) : Option (List W128) :=
  let stored := fun (l : List Stmt) (bank : Nat) => (l.find? (·.no == no)).map (stmtWords s bank)
  if s.recs.next ≤ no then none
  else ((((kget? no s.recs.ring).or (stored s.recs.stmt1 (bankOfRole s 1))).or (stored s.recs.stmt2 (bankOfRole s 2))).or
    (stored s.recs.retire (bankOfRole s 0))).or ((kget? no s.recs.delivery).or (journalSeal s no))

/-- A register reading of a bound slot for the retire sequence: words 0 to 6 and the signature are stored, event 0x5051 (15 R512). -/
def retireReading (slot : Nat) (s : State) : State :=
  let (no, s) := drawRecNo s
  let ws := readingWords s no 2 slot 2 0 (lcCode s == 3 && !s.recs.unsealedPeriod)
  let x : Stmt := { slot, no, head := ws.take 7, sig := ws.drop 31 }
  raise 0x5051 3 255 (no % 2 ^ 32) (s.modRecs fun r => { r with retire := r.retire ++ [x], retireTodo := r.retireTodo.filter (· != slot) })

/-- Re-sign a record whose words are given with RESIGNED and the new SIGNER_KEY_ID (15 R514). -/
def resignHead (s : State) (ws : List W128) : List W128 :=
  match ws with
  | a :: b :: c :: rest =>
    (if fld a 77 77 = 1 then a else BitVec.ofNat 128 (a.toNat + 2 ^ 77)) :: b
      :: mkWord [(64, fld c 127 64), (32, (keySlot s 1).keyId), (0, fld c 31 0)] :: rest
  | l => l

/-- RECORDS_RESIGN: every record stored in MRAM is signed again under the regenerated key, event 0x5054 with their number (15 R514). -/
def resignRecords (s : State) : State :=
  let ring := s.recs.ring.map fun e =>
    let h := resignHead s (e.2.take (e.2.length - 4))
    (e.1, h ++ recSig s h)
  let stmt := fun (bank : Nat) (x : Stmt) =>
    let h := resignHead s x.head
    { x with head := h, sig := recSig s (h ++ rowCells (ledRow s bank x.slot)) }
  let n := ring.length + s.recs.stmt1.length + s.recs.stmt2.length + s.recs.retire.length
  raiseIf (n != 0) 0x5054 3 255 n (s.modRecs fun r =>
    { r with ring, stmt1 := r.stmt1.map (stmt (bankOfRole s 1)), stmt2 := r.stmt2.map (stmt (bankOfRole s 2))
             retire := r.retire.map (stmt (bankOfRole s 0)) })

/-- Session records in step S5: a session without an end was cut off by the stop before this start; its seal is due, with the reason
given (15 R509, R531; log entry 35). `older`: points whose newer copy failed, event 0x5055. -/
def recsRecover (reason : Nat) (s : State) : State :=
  let s := (finList 32).foldl (fun s (i : Fin 32) =>
    let c := s.recs.copies[i]
    let g := sesCopyOf s i
    let s := raiseIf (g.bind.isSome && decide (g.stamp < max c.1.stamp c.2.stamp)) 0x5055 3 i.val i.val s
    match g.bind with
    | none => s
    | some b =>
      let b := if b.endReason.isSome then b else { b with endReason := some reason }
      s.modRecs fun r =>
        let fix := fun (x : SesCopy) => if x == g then { x with bind := some b } else x
        { r with copies := r.copies.set i (fix r.copies[i].1, fix r.copies[i].2), sealDue := insertAsc i.val r.sealDue }) s
  s.modRecs fun r => { r with grants := Vector.replicate 8 {}, grantPend := [], readPend := [], delivery := [], jnlDue := [] }

/-- SEAL records of the journal, written at the boundary after the seal is composed (15 R510, 21 R716). -/
def sealsJournal (s : State) : State :=
  if s.sen.mlSig then s
  else s.recs.jnlDue.foldl (fun s no =>
    match kget? no s.recs.ring with
    | none => s.modRecs fun r => { r with jnlDue := r.jnlDue.filter (· != no) }
    | some ws =>
      let p := jrnWrite 3 ws (some no) [] 0 s
      if p.2 then p.1.modRecs fun r => { r with jnlDue := r.jnlDue.filter (· != no) } else p.1) s

end Sys2Proof.Machine
end

