-- ==== Sys2Proof/Machine/Mbus.lean ====
section
/-! DEFINITION. The M-Bus slave: addressing, telegrams, standard records, latched parts, mode 5 and orders in chunks (15 R519 to
R529), and the proxy selection of a remote node (18 R635). -/

namespace Sys2Proof.Machine

/-! The MBUS record (15 R520). -/

/-- A number below 10^8 as eight BCD digits. -/
def bcd8 (n : Nat) : Nat := ((List.range 8).map fun i => (n / 10 ^ i % 10) * 16 ^ i).sum

/-- The MBUS payload word in force, the defaults of 15 R520 without a record. -/
def mbCfg (s : State) : W128 :=
  match recOf s 0x80 0 with
  | some p => p.getD 0 0
  | none => mkWord [(120, 0), (112, 0xBB), (80, bcd8 (s.life.serial % 100000000)), (72, 1), (71, 0), (70, 1)]

def mbPrimary (s : State) : Nat := fld (mbCfg s) 127 120
def mbBaud (s : State) : Nat := fld (mbCfg s) 119 112
def mbIdent (s : State) : Nat := fld (mbCfg s) 111 80
def mbVersion (s : State) : Nat := fld (mbCfg s) 79 72
def mbMode5Only (s : State) : Bool := fld (mbCfg s) 71 71 == 1
def mbSecondary (s : State) : Bool := fld (mbCfg s) 70 70 == 1

/-- Manufacturer field and medium (15 R521). -/
def mbMan : Nat := 0x690C
def mbMedium : Nat := 2

/-! Link layer (15 R522). -/

/-- RDO answers telegrams: it runs and is not halted by an outage (01 Table 1.12, 15 R531). -/
def mbUp (s : State) : Bool :=
  (s.life.cond == .run || s.life.cond == .noConfig || s.life.cond == .retired) && !s.sen.mlSig && s.elec.supplyOk

/-- Whether the A field addresses this hub, and whether an answer goes out (15 R522). -/
def mbHears (s : State) (a : Nat) : Option Bool :=
  if a = mbPrimary s || a = 254 then some true
  else if a = 253 then if (s.mbus.selected || s.mbus.proxy.isSome) && mbSecondary s then some true else none
  else if a = 255 then some false
  else none

/-- The answer on the bus; a request to 255 gets none. -/
def mbAnswer (loud : Bool) (a : MbAnswer) (s : State) : State :=
  s.modMbus fun m => { m with answer := if loud then a else .none }

/-- Take a telegram to A field `a`: execute `f` and answer with an E5; silence if it is not for this hub. -/
def mbTake (a : Nat) (f : State → State) (s : State) : State :=
  if !mbUp s then s
  else match mbHears s a with
    | none => mbAnswer false .none s
    | some loud => mbAnswer loud .ack (f s)

/-- The latch dropped, standard records. -/
def mbStandard (m : Mbus) : Mbus := { m with latch := none, cmd := .standard }

/-- SND_NKE: FCB reset, selection cleared, latch dropped, standard records (15 Table 15.9). -/
def execSndNke (addr : Fin 256) (s : State) : Host.Outcome State Fault Refusal :=
  .next <| mbTake addr (fun s => s.modMbus fun m =>
    { mbStandard m with fcb := none, selected := false, proxy := none, proxyCmd := none, proxyRsp := none }) s

/-- SND_UD_APP_RESET: latch dropped, standard records (15 Table 15.9). -/
def execSndUdAppReset (addr : Fin 256) (s : State) : Host.Outcome State Fault Refusal :=
  .next <| mbTake addr (fun s => s.modMbus mbStandard) s

/-- REQ_UD1: E5, no class 1 data (15 Table 15.9). -/
def execReqUd1 (addr : Fin 256) (s : State) : Host.Outcome State Fault Refusal := .next <| mbTake addr id s

/-- MBUS_UNSUPPORTED: no reply (15 Table 15.9). -/
def execMbusUnsupported (addr : Fin 256) (s : State) : Host.Outcome State Fault Refusal :=
  .next <| if !mbUp s || (mbHears s addr).isNone then s else mbAnswer false .none s

/-- Whether eight BCD digits match under the wildcard nibble 0xF (15 R522). -/
def bcdMatch (want have_ : Nat) : Bool :=
  (List.range 8).all fun i => want / 16 ^ i % 16 == 15 || want / 16 ^ i % 16 == have_ / 16 ^ i % 16

/-- Whether n bytes match under the wildcard byte 0xFF (15 R522). -/
def byteMatch (n want have_ : Nat) : Bool :=
  (List.range n).all fun i => want / 256 ^ i % 256 == 255 || want / 256 ^ i % 256 == have_ / 256 ^ i % 256

/-- SND_UD_SELECT: selection by secondary address, of this hub or of a remote node whose IDENT share frames have told (15 R522,
18 R635); a hub that does not match is deselected. -/
def execSndUdSelect (ident man version medium : Nat) (s : State) : Host.Outcome State Fault Refusal :=
  .next <|
    if !mbUp s || !mbSecondary s then s
    else
      let rest := byteMatch 2 man mbMan && byteMatch 1 version (mbVersion s) && byteMatch 1 medium mbMedium
      let own := bcdMatch ident (mbIdent s) && rest
      let far := if rest then (s.lnk.neigh.find? fun n => bcdMatch ident n.ident).map (·.node) else none
      let s := s.modMbus fun m =>
        { m with selected := own, proxy := if own then none else far, proxyCmd := none, proxyRsp := none }
      mbAnswer (own || far.isSome) .ack s

/-- SND_UD_BAUD: acknowledged at the old rate, then the new rate applies, event 0x3040; CI 0xBE and 0xBF get no reply
(15 R521). -/
def execSndUdBaud (addr ci : Fin 256) (s : State) : Host.Outcome State Fault Refusal :=
  .next <|
    if 0xB8 ≤ ci.val ∧ ci.val ≤ 0xBD then
      mbTake addr (fun s =>
        raise 0x3040 6 255 ci (s.modMbus fun m => { m with baud := ci, baudPend := ci.val != mbBaud s })) s
    else s

/-- BAUD_REVERT: 600 s without a valid frame at the new rate, the rate returns to BAUD, event 0x3040 (15 R521). -/
def execBaudRevert (s : State) : Host.Outcome State Fault Refusal :=
  .next <|
    if !s.mbus.baudPend || !mbUp s then s
    else raise 0x3040 6 255 (mbBaud s) (s.modMbus fun m => { m with baud := mbBaud s, baudPend := false })

/-- SND_UD_PRIMARY_WRITE: acknowledged, changes nothing, event 0x3043 (15 R522). -/
def execSndUdPrimaryWrite (addr : Fin 256) (new : Nat) (s : State) : Host.Outcome State Fault Refusal :=
  .next <| mbTake addr (raise 0x3043 6 255 new) s

/-- MBUS_FRAME_ERROR: parity or framing errors are counted; event 0x3042 at the first of a run, which ends after 60 s without
(15 R529). -/
def execMbusFrameError (s : State) : Host.Outcome State Fault Refusal :=
  .next <|
    if !mbUp s then s
    else
      let on := runOn (s.mbus.errRun.map (·.1)) (nowS s)
      let n := if on then ((s.mbus.errRun.map (·.2)).getD 0) + 1 else 1
      raiseIf (!on) 0x3042 6 255 n (s.modMbus fun m => { m with errors := inc32 m.errors, errRun := some (nowS s, n) })

/-! Items in parts (15 R524, R525). -/

/-- The response header (15 Table 15.12). -/
def respHeader (rkind result page part parts reason ref : Nat) : List Nat :=
  [rkind, result] ++ bytesLE 2 page ++ [part, parts, reason, 0] ++ bytesLE 8 ref

/-- Parts of an item: 8 words each (15 R525). -/
def partsOf (l : Latch) : Nat := (l.words.length + 7) / 8

/-- The M-Bus key is loaded (15 R523). -/
def mbKey (s : State) : Option Nat := roleSlot s 3

/-- In RUN with the key faulty (15 R523). -/
def mbKeyFault (s : State) : Bool := s.life.cond == .run && (mbKey s).isNone

/-- The grant under which a reader sees the event window: the lowest that covers it. -/
def coverGrant (channel node : Nat) (s : State) : Nat :=
  ((finList 8).find? fun (g : Fin 8) => grantCovers s channel node false 0x700 s.recs.grants[g]).map (·.val) |>.getD 8

/-- READ_PAGE and READ_RECORD up to the latch: the result of 15 Table 15.13, and for result 0 the item in the latch. The grant is
checked at part 0 only (15 R516, R525). `channel` 0 M-Bus, 1 the building link with the requesting node. -/
def readItem (channel node : Nat) (isRecord : Bool) (item part : Nat) (s : State) : Nat × State :=
  let reader := if channel = 0 then 0 else node + 1
  if 0 < part then
    match s.mbus.latch with
    | some l =>
      if l.isRecord == isRecord && l.item == item && l.reader == reader then (if part < partsOf l then 0 else 7, s) else (6, s)
    | none => (6, s)
  else
    let win := !isRecord && item == 0x700
    let ws := if isRecord then recordWords s item else if win then some [] else pageWords s item
    let prot := isRecord || isProtected item
    if !isRecord && ws.isNone then (2, s)
    else if prot && !granted s channel node isRecord item then
      (3, raise 0x3045 6 255 (item % 65536) (s.modMbus fun m => { m with refused := inc32 m.refused }))
    else match ws with
      | none => (5, s)
      | some ws =>
        if channel = 0 && (prot || mbMode5Only s) && mbKeyFault s then (4, s)
        else
          let snap := if win then eventWindow (coverGrant channel node s) s else (ws, s)
          let words := if isRecord then snap.1 else snap.1 ++ List.replicate (64 - snap.1.length) 0#128
          let l : Latch := { isRecord, item, ref := if isRecord then item else s.gates.snapCount, isProt := prot, words, reader }
          (0, snap.2.modMbus fun m => { m with latch := some l })

/-- Header and data of a part of the latched item. -/
def partBytes (l : Latch) (part : Nat) : List Nat :=
  respHeader (if l.isRecord then 2 else 1) 0 (if l.isRecord then 0 else l.item) part (partsOf l) 0 l.ref
    ++ wordsBytes ((l.words.drop (8 * part)).take 8)

/-- A whole answer to a read over the building link: header and data (18 R635). -/
def readAnswer (node : Nat) (isRecord : Bool) (item part : Nat) (s : State) : List Nat × State :=
  let page := if isRecord then 0 else item
  match readItem 1 node isRecord item part s with
  | (0, s) =>
    match s.mbus.latch with
    | some l => (partBytes l part, s)
    | none => (respHeader 4 6 page part 0 0 0, s)
  | (r, s) => (respHeader 4 r page part 0 0 0, s)

/-- Byte-wise form of a command block's first 16 bytes (15 Table 15.11). -/
def cmdBlock (cmd part chunks page no : Nat) : List Nat := [cmd, part, chunks, 0] ++ bytesLE 2 page ++ [0, 0] ++ bytesLE 8 no

/-! Commands (15 R523, R524). -/

/-- Mode 5 of a request: a frame whose verification bytes fail, or one in clear under MODE5_ONLY, is discarded, event 0x3041 at the
first of a run (15 R523). -/
def mbSecure (f : MbFrame) (s : State) : Bool :=
  if f.mode5 then f.verifies && (mbKey s).isSome else !mbMode5Only s

def mbDiscard (s : State) : State :=
  raiseIf (!runOn s.mbus.m5Run (nowS s)) 0x3041 6 255 s.mbus.access
    (s.modMbus fun m => { m with mode5Fail := inc32 m.mode5Fail, m5Run := some (nowS s) })

/-- Forward a command to the remote node selected, in a READ_REQ (18 R635). -/
def mbForward (y : Nat) (block : List Nat) (s : State) : State :=
  let id := s.lnk.msgNext
  lnkSend 8 y block (s.modMbus fun m => { m with proxyCmd := some id, proxyRsp := none })

/-- A command of 15 Table 15.11: acknowledged; discarded, forwarded, or executed. -/
def mbCommand (a : Nat) (f : MbFrame) (block : List Nat) (act : State → State) (s : State) : State :=
  mbTake a (fun s =>
    if !mbSecure f s then mbDiscard s
    else match s.mbus.proxy with
      | some y => if a = 253 then mbForward y block s else act s
      | none => act s) s

/-- What later REQ_UD2 telegrams serve. -/
def mbServe (c : MbCmd) (s : State) : State := s.modMbus fun m => { m with cmd := c }

/-- A read command on M-Bus. -/
def mbRead (isRecord : Bool) (item part : Nat) (s : State) : State :=
  let page := if isRecord then 0 else item
  match readItem 0 0 isRecord item part s with
  | (0, s) => mbServe (.part part) s
  | (r, s) => mbServe (.reply (respHeader 4 r page part 0 0 0)) s

/-- SND_UD_READ_PAGE: part 0 takes a new snapshot into the latch; a later part is served from it (15 R524, R525). -/
def execSndUdReadPage (addr : Fin 256) (f : MbFrame) (page part : Nat) (s : State) : Host.Outcome State Fault Refusal :=
  .next <| mbCommand addr f (cmdBlock 1 part 0 page 0) (mbRead false (page % 65536) part) s

/-- SND_UD_READ_RECORD: part 0 composes the record into the latch (15 R524, R525). -/
def execSndUdReadRecord (addr : Fin 256) (f : MbFrame) (no part : Nat) (s : State) : Host.Outcome State Fault Refusal :=
  .next <| mbCommand addr f (cmdBlock 2 part 0 0 no) (mbRead true no part) s

/-- SND_UD_STANDARD: later responses carry the standard records (15 R524). -/
def execSndUdStandard (addr : Fin 256) (f : MbFrame) (s : State) : Host.Outcome State Fault Refusal :=
  .next <| mbCommand addr f (cmdBlock 4 0 0 0 0) (mbServe .standard) s

/-- MBUS_LATCH_EXPIRY: 30 s after it was filled (15 R525). -/
def execMbusLatchExpiry (s : State) : Host.Outcome State Fault Refusal := .next <| s.modMbus fun m => { m with latch := none }

/-! Orders (15 R526, 18 R634). -/

/-- An assembly is discarded: event 0x3044, result 12. -/
def asmDiscard (s : State) : State :=
  if s.mbus.asmN = 0 then s
  else
    raise 0x3044 6 255 (s.mbus.asmTag * 65536 + s.mbus.asm.length)
      (s.modMbus fun m => { m with asmN := 0, asm := [], ordTag := m.asmTag, ordResult := 12, ordReason := 0, ordChunks := m.asm.length })

/-- ORDER_ASSEMBLY_TIMEOUT: 120 s pass after the last chunk (15 R526). -/
def execOrderAssemblyTimeout (s : State) : Host.Outcome State Fault Refusal := .next <| asmDiscard s

/-- The assembled length agrees with the framing of 04 R139. -/
def asmFramed (ws : List W128) : Bool :=
  decide (2 ≤ ws.length) && ws.length == 2 + fld (ws.getD 0 0) 71 64 + authWords (fld (ws.getD 0 0) 79 72)

/-- An order completed at RDO: for this hub into the ORDER inlet, with target 0 also broadcast, for another node over the link
(15 R526, 18 R634). -/
def handOrder (ws : List W128) (tag : Nat) (s : State) : State :=
  let o : OrderRec := { words := ws, src := .rdo, orig := nodeId s, tag }
  let inlet := fun (s : State) => s.modGates fun g => { g with orderInlet := g.orderInlet ++ [o] }
  let target := oTarget o
  let far := if target = 0 || target = s.life.serial then none else (s.lnk.neigh.find? fun n => n.serial == target).map (·.node)
  let id := s.lnk.msgNext
  let s := s.modMbus fun m =>
    { m with asmN := 0, asm := [], ordTag := tag, ordResult := 9, ordReason := 0, ordChunks := m.asm.length, orders := inc32 m.orders,
             ordMsg := far.map fun _ => id }
  match far with
  | some y => lnkSend 6 y (wordsBytes ws) s
  | none => if target = 0 then lnkBroadcast 6 (wordsBytes ws) (inlet s) else inlet s

/-- A chunk keeps the form of 15 Table 15.11: 128 bytes, the last one the rest in whole words. -/
def chunkFormed (chunk chunks : Nat) (data : List Nat) : Bool :=
  decide (1 ≤ chunks) && decide (chunks ≤ 34) && decide (chunk < chunks) && decide (1 ≤ data.length)
    && (if chunk + 1 < chunks then data.length == 128 else decide (data.length ≤ 128) && data.length % 16 == 0)

/-- A chunk is added; the last one missing completes the order (15 R526). -/
def asmChunk (tag chunk chunks : Nat) (data : List Nat) (s : State) : State :=
  if !chunkFormed chunk chunks data then mbServe (.reply (respHeader 4 7 tag chunk 0 0 0)) s
  else
    let s := if s.mbus.asmN ≠ 0 && (s.mbus.asmTag ≠ tag || s.mbus.asmN ≠ chunks) then asmDiscard s else s
    let s := mbServe .order (s.modMbus fun m =>
      { m with asmTag := tag, asmN := chunks, asm := kset chunk data m.asm, ordTag := tag, ordResult := 8, ordReason := 0 })
    if s.mbus.asm.length < chunks then s
    else
      let ws := bytesWords 272 (s.mbus.asm.flatMap (·.2))
      if asmFramed ws then handOrder ws tag s else asmDiscard s

/-- SND_UD_ORDER_CHUNK: a chunk of the order being assembled; the complete order enters the ORDER inlet (15 R526). -/
def execSndUdOrderChunk (addr : Fin 256) (f : MbFrame) (tag chunk chunks : Nat) (data : List Nat) (s : State) :
    Host.Outcome State Fault Refusal :=
  .next <| mbCommand addr f (cmdBlock 3 chunk chunks tag 0) (asmChunk (tag % 65536) chunk chunks data) s

/-! RSP_UD (15 R523, R524, Table 15.10). -/

/-- RTC as a type F date and time; its layout is that of EN 13757-3 (log entry 36). PRESUMED. -/
def typeF (s : State) : List Nat :=
  let t := s.clk.rtcS
  let d := dateOfDays (t / 86400)
  let y := d.1
  [t / 60 % 60 + (if s.sen.rtcValid then 0 else 0x80), t / 3600 % 24 + 32 * ((y - 1900) / 100 % 4),
   d.2.2 + 32 * (y % 100 % 8), d.2.1 + 16 * (y % 100 / 8)]

/-- Error flags of the standard records (15 Table 15.10). -/
def mbErrors (s : State) : Nat :=
  b2n (noConfig s) + 2 * b2n (s.life.cond == .retired) + 4 * b2n (s.clk.state != .locked)
    + 8 * b2n (hubLock s != 0 || (finList 32).any fun i => lockCause s i != 0)
    + 16 * b2n ((finList 8).any fun (j : Fin 8) => hasHead s j.val && !portRuns s.ports[j])
    + 32 * b2n (!s.sen.rtcValid) + 64 * b2n ((finList 32).any fun (i : Fin 32) => !s.pmet[i].set.sat.isEmpty)
    + 128 * b2n (!s.img.faulty.isEmpty) + 256 * b2n (lcCode s != 3)

/-- Sum of a register over the points in whole Wh, truncated, saturating at 64 bits. -/
def sumWh (s : State) (r : Nat) : Nat :=
  min (2 ^ 64 - 1) ((((finList 32).map fun (i : Fin 32) => s.pmet[i].pubRegs.toList.getD r 0).sum) / 2 ^ 32 / 1000000)

/-- The standard data records from the latest snapshots (15 Table 15.10). -/
def standardRecords (s : State) : List Nat :=
  let p : Int := ((finList 32).map fun (i : Fin 32) => s.pmet[i].pub.psum).foldl (· + ·) 0
  [0x07, 0x78] ++ bytesLE 8 s.life.serial ++ [0x07, 0x03] ++ bytesLE 8 (sumWh s 0)
    ++ [0x07, 0x83, 0x3C] ++ bytesLE 8 (sumWh s 1) ++ [0x04, 0x2B] ++ bytesLE 4 (satTwos 32 (truncRat ((p : Rat) / 1000)))
    ++ [0x04, 0x6D] ++ typeF s ++ [0x02, 0xFD, 0x17] ++ bytesLE 2 (mbErrors s)

/-- Data records of the next RSP_UD, whether they carry a protected item, and the state after them. -/
def mbNext (s : State) : List Nat × Bool × State :=
  match s.mbus.cmd with
  | .standard => (standardRecords s, false, s)
  | .reply h => (0x0F :: h, false, mbServe .standard s)
  | .order =>
    let m := s.mbus
    (0x0F :: respHeader 3 m.ordResult m.ordTag 0 0
      (if m.ordResult = 11 then m.ordReason else if m.asmN ≠ 0 then m.asm.length else m.ordChunks) 0, false, s)
  | .part n =>
    match s.mbus.latch with
    | none => (0x0F :: respHeader 4 6 0 n 0 0 0, false, mbServe .standard s)
    | some l =>
      if n + 1 < partsOf l then (0x1F :: partBytes l n, l.isProt, mbServe (.part (n + 1)) s)
      else (0x0F :: partBytes l n, l.isProt, mbServe .standard s)

/-- Data records while a remote node is selected (18 R635). -/
def mbProxyNext (y : Nat) (s : State) : List Nat × Bool × State :=
  match s.mbus.proxyRsp, s.mbus.proxyCmd with
  | some b, _ =>
    let prot := b.getD 1 0 == 0 && (b.getD 0 0 == 2 || (b.getD 0 0 == 1 && isProtected (natLE ((b.drop 2).take 2))))
    (0x0F :: b, prot, s.modMbus fun m => { m with proxyRsp := none, proxyCmd := none })
  | none, some _ => (0x0F :: respHeader 4 1 0 0 0 0 0, false, s)
  | none, none => ([0x07, 0x78] ++ bytesLE 8 (((s.lnk.neigh.find? fun n => n.node == y).map (·.serial)).getD 0), false, s)

/-- The long header and the body, in mode 5 where it must be: initialisation vector, verification bytes 0x2F 0x2F, filled with 0x2F
(15 R523). The STATUS and CONFIG fields of the header are those of EN 13757-7 (log entry 36). PRESUMED. -/
def mbFrame (s : State) (ident : Nat) (data : List Nat) (prot : Bool) : List Nat :=
  let addr := bytesLE 2 mbMan ++ bytesLE 4 ident ++ [mbVersion s, mbMedium]
  let head := fun (config : Nat) => [0x08, mbPrimary s, 0x72] ++ bytesLE 4 ident ++ bytesLE 2 mbMan ++ [mbVersion s, mbMedium]
    ++ [s.mbus.access, 0] ++ bytesLE 2 config
  match mbKey s with
  | some n =>
    if prot || mbMode5Only s then
      let plain := [0x2F, 0x2F] ++ data
      let plain := plain ++ List.replicate ((16 - plain.length % 16) % 16) 0x2F
      head (0x0500 + 16 * (plain.length / 16)) ++
        Config.encrypt (slotSecret s n) (keySlot s n).alg (addr ++ List.replicate 8 s.mbus.access ++ plain)
    else head 0 ++ data
  | none => head 0 ++ data

/-- The next RSP_UD of this hub, or of the remote node selected. -/
def mbRespond (a : Nat) (s : State) : State :=
  let s := s.modMbus fun m => { m with access := (m.access + 1) % 256, telegrams := inc32 m.telegrams }
  let far := if a = 253 then s.mbus.proxy else none
  let r := match far with
    | some y => mbProxyNext y s
    | none => mbNext s
  let ident := match far with
    | some y => ((s.lnk.neigh.find? fun n => n.node == y).map (·.ident)).getD 0
    | none => mbIdent s
  let data := if mbMode5Only s && mbKeyFault s then 0x0F :: respHeader 4 4 0 0 0 0 0 else r.1
  let out := mbFrame s ident data r.2.1
  r.2.2.modMbus fun m => { m with last := out }

/-- REQ_UD2: an unchanged FCB repeats the previous RSP_UD, a toggled one advances (15 R522, R525). -/
def execReqUd2 (addr : Fin 256) (fcv fcb : Bool) (s : State) : Host.Outcome State Fault Refusal :=
  .next <|
    if !mbUp s then s
    else match mbHears s addr with
      | none => mbAnswer false .none s
      | some loud =>
        let same := fcv && s.mbus.fcb == some fcb && !s.mbus.last.isEmpty
        let s := if same then s.modMbus fun m => { m with telegrams := inc32 m.telegrams } else mbRespond addr s
        let s := if fcv then s.modMbus fun m => { m with fcb := some fcb } else s
        mbAnswer loud (.rspUd s.mbus.last) s

end Sys2Proof.Machine
end

