-- ==== Sys2Proof/Machine/ImageRules.lean ====
section
/-! DEFINITION. When a record of a configuration image is well formed: lengths, reserved fields, ranges and the rules that
tie records together (05 R161 to R170, R794, and the record layouts of chapters 06, 07, 10, 12 to 20). -/

namespace Sys2Proof.Machine

/-- A record as read from a slot: ordinal after the header from 1, header word, payload. -/
structure RawRec where
  ord : Nat
  hdr : W128
  pay : List W128
  deriving DecidableEq, Repr

def rTyp (r : RawRec) : Nat := fld r.hdr 127 112
def rLen (r : RawRec) : Nat := fld r.hdr 111 96
def rIdx (r : RawRec) : Nat := fld r.hdr 79 64

/-- One bounded field: word, high bit, low bit, smallest and largest value. A reserved field is bounded by 0 and 0. -/
structure Bound where
  w : Nat
  hi : Nat
  lo : Nat
  a : Nat
  b : Nat
  deriving DecidableEq, Repr

def boundOk (p : List W128) (f : Bound) : Bool :=
  let x := payFld p f.w f.hi f.lo
  decide (f.a ≤ x) && decide (x ≤ f.b)

def bounds (p : List W128) (l : List Bound) : Bool := l.all (boundOk p)

/-- Text bytes from byte 0, then zero bytes only; every text byte passes (05 R794). -/
def textOk (ok : Nat → Bool) (b : List Nat) : Bool :=
  (b.takeWhile (· != 0)).all ok && (b.dropWhile (· != 0)).all (· == 0)
def asciiByte (b : Nat) : Bool := decide (0x20 ≤ b) && decide (b ≤ 0x7E)
def upperByte (b : Nat) : Bool := decide (0x41 ≤ b) && decide (b ≤ 0x5A)
def digitByte (b : Nat) : Bool := decide (0x30 ≤ b) && decide (b ≤ 0x39)
def textIn (p : List W128) (w n : Nat) : List Nat := wordsBytes ((p.drop w).take n)

/-- A signed field lies within limits. -/
def sIn (n x : Nat) (a b : Int) : Bool := decide (a ≤ ofTwos n x) && decide (ofTwos n x ≤ b)

/-- A record of an image. -/
def rec1 (l : List RawRec) (typ idx : Nat) : Option RawRec := l.find? fun r => rTyp r == typ && rIdx r == idx
def recAny (l : List RawRec) (typ : Nat) : Option RawRec := l.find? fun r => rTyp r == typ
def recAll (l : List RawRec) (typ : Nat) : List RawRec := l.filter fun r => rTyp r == typ
def recPay (l : List RawRec) (typ idx : Nat) : List W128 := match rec1 l typ idx with
  | some r => r.pay
  | none => []

/-- NODE_MAP of the image's ESTATE record holds a node. -/
def nodeIn (l : List RawRec) (k : Nat) : Bool :=
  let p := recPay l 0x11 0
  if k < 128 then bitOf (payFld p 1 127 0) k else bitOf (payFld p 2 127 0) (k - 128)

/-- FNOM of the image. -/
def imgFnom (l : List RawRec) : Nat := payFld (recPay l 0x20 0) 0 127 112

/-- Blocks of the image's asset range. -/
def imgBlocks (aLen : Nat) : Nat := aLen / 4096

/-- IDENTITY (05 R163). -/
def okIdentity (l : List RawRec) (p : List W128) : Bool :=
  p.length == 3 && bounds p [⟨0, 119, 112, 0, 15⟩, ⟨0, 110, 104, 0, 0⟩, ⟨0, 95, 0, 0, 0⟩]
    && [16, 32, 64].contains (payFld p 0 103 96) && textOk asciiByte (textIn p 1 2)
    && bitOf (payFld (recPay l 0x11 0) 0 95 80) (payFld p 0 119 112)

/-- ESTATE (05 R164). -/
def okEstate (l : List RawRec) (p : List W128) : Bool :=
  p.length == 5 && bounds p [⟨0, 127, 96, 1, 0xFFFFFFFF⟩, ⟨0, 79, 0, 0, 0⟩] && textOk asciiByte (textIn p 3 2)
    && nodeIn l (payFld (recPay l 0x10 0) 0 127 120)

/-- CLOCK (05 R165). -/
def okClock (p : List W128) : Bool :=
  p.length == 1 && (payFld p 0 127 112 == 50 || payFld p 0 127 112 == 60)
    && bounds p [⟨0, 111, 96, 0x7000, 0x9000⟩, ⟨0, 95, 80, 0x7000, 0x9000⟩, ⟨0, 79, 64, 0x7000, 0x9000⟩, ⟨0, 15, 0, 0, 0⟩]
    && sIn 16 (payFld p 0 63 48) (-256) 256 && sIn 16 (payFld p 0 47 32) (-256) 256 && sIn 16 (payFld p 0 31 16) (-256) 256

/-- HEAD (06 R191, R192): a role 0x09 import of the image binds its serial, which no other HEAD carries. -/
def okHead (l : List RawRec) (idx : Nat) (p : List W128) : Bool :=
  let sn := payFld p 0 127 64
  p.length == 1 && decide (idx ≤ 7) && bounds p [⟨0, 63, 56, 16, if imgFnom l = 60 then 255 else 239⟩, ⟨0, 31, 0, 0, 0⟩]
    && ((recAll l 0x30).filter fun r => payFld r.pay 0 127 64 == sn).length == 1
    && (recAll l 0xA0).any fun r => payFld r.pay 0 55 48 == 9 && payFld r.pay 1 63 0 == sn

/-- POINT (10 R337). -/
def okPoint (l : List RawRec) (p : List W128) : Bool :=
  let teth := payFld p 0 127 124 == 1
  p.length == 2 && bounds p [⟨0, 127, 124, 0, 1⟩, ⟨0, 116, 112, 0, 0⟩, ⟨0, 111, 96, 60, 800⟩, ⟨0, 47, 40, 1, 255⟩,
      ⟨0, 39, 32, 0, 5⟩, ⟨0, 31, 0, 0, 0⟩]
    && (payFld p 0 123 122 == 1 || payFld p 0 123 122 == 3)
    && (if teth then bounds p [⟨0, 121, 121, 0, 0⟩, ⟨0, 95, 80, 60, 800⟩, ⟨0, 63, 48, 0, 0⟩]
        else bounds p [⟨0, 95, 80, 0, 0⟩, ⟨0, 63, 48, 100, 1000⟩])
    && (payFld p 0 118 118 == 0 || payFld p 0 119 119 == 1)
    && (if payFld p 0 118 118 = 1 then bounds p [⟨0, 79, 64, 60, 800⟩] else bounds p [⟨0, 79, 64, 0, 0⟩])
    && textOk asciiByte (textIn p 1 1)
    && ((recAll l 0x31).filter fun r => payFld r.pay 1 47 0 == payFld p 1 47 0).length == 1

/-- SENSOR_CAL (07 R224, R225): the kind is allowed on the channel, and KIND 3 stands exactly where BS_EN is set. -/
def okSensorCal (l : List RawRec) (idx : Nat) (p : List W128) : Bool :=
  let ch := idx % 28
  let kind := payFld p 0 127 124
  let cur := decide (ch < 24) && decide (ch % 6 < 3)
  let bs := cur && bitOf (payFld (recPay l 0x30 (idx / 28)) 0 55 44) (3 * (ch / 6) + ch % 6)
  p.length == 2 && decide (kind ≤ 3) && bounds p [⟨0, 123, 120, 0, 0⟩, ⟨0, 119, 88, 1, 0xFFFFFFFF⟩, ⟨0, 23, 0, 0, 0⟩, ⟨1, 31, 0, 0, 0⟩]
    && sIn 32 (payFld p 0 87 56) (-0x7FFFFF00) 0x7FFFFF00 && sIn 16 (payFld p 0 55 40) (-5000) 5000
    && (if kind = 2 then bounds p [⟨0, 39, 24, 100, 2000⟩] else bounds p [⟨0, 39, 24, 0, 0⟩])
    && (if cur then (if bs then kind == 3 else kind == 1 || kind == 2) else kind == 0)

/-- SAFETY (05 R166). -/
def okSafety (p : List W128) : Bool :=
  p.length == 1 && bounds p [⟨0, 127, 120, 20, 30⟩, ⟨0, 119, 112, 10, 50⟩, ⟨0, 111, 96, 400, 1000⟩, ⟨0, 95, 80, 0, 1200⟩, ⟨0, 79, 0, 0, 0⟩]
    && decide (payFld p 0 111 96 + 50 ≤ payFld p 0 95 80)

/-- TARIFF_PRICE (14 R472, R473): the currency is that of the current period unless no slot of it is bound. -/
def okTariff (s : State) (p : List W128) : Bool :=
  let bound := s.led.banks.toList.any fun b => b.role == 0 && !b.rows.isEmpty
  let quarter := fun (w : Nat) => [⟨w, 127, 96, 0, 100000000⟩, ⟨w, 95, 64, 0, 100000000⟩, ⟨w, 63, 32, 0, 100000000⟩, ⟨w, 31, 0, 0, 100000000⟩]
  p.length == 10 && bounds p [⟨0, 127, 112, 1, 999⟩, ⟨0, 85, 64, 0, 0⟩, ⟨0, 31, 0, 0, 0⟩]
    && (bytesLE 3 (payFld p 0 111 88)).all upperByte
    && ((List.range 9).all fun k => bounds p (quarter (k + 1)))
    && (!bound || s.led.period.no == 0 || (payFld p 0 127 112 == s.led.period.cur && payFld p 0 111 88 == s.led.period.curAlpha))

/-- One TENANT_DIR entry and the rest in ascending order (13 R444). -/
def okTenants : (prev : Nat) → (seen : List Nat) → List W128 → Bool
  | _, _, [] => true
  | _, _, [_] => false
  | prev, seen, a :: b :: ws =>
    let t := fld a 127 112
    let em := b.toNat
    decide (prev < t) && decide (t ≤ 0xFFFE) && fld a 107 96 == 0 && fld a 31 0 == 0
      && textOk asciiByte (bytesLE 4 (fld a 63 32))
      && (em == 0 || ((bytesLE 14 em).all (fun c => upperByte c || digitByte c) && fld b 127 112 == 0 && !seen.contains em))
      && (fld a 108 108 == 0 || em != 0)
      && okTenants t (em :: seen) ws

/-- TENANT_DIR (13 R443, R444; 05 R183). -/
def okTenantDir (p : List W128) : Bool :=
  let n := payFld p 0 127 112
  decide (n ≤ 4096) && p.length == 1 + 2 * n && bounds p [⟨0, 111, 96, 0, 0⟩, ⟨0, 63, 0, 0, 0⟩] && okTenants 0 [] (p.drop 1)

/-- PERIOD (05 R167). -/
def okPeriod (p : List W128) : Bool :=
  p.length == 1 && bounds p [⟨0, 127, 120, 1, 12⟩, ⟨0, 119, 112, 1, 28⟩, ⟨0, 111, 96, 0, 1439⟩, ⟨0, 95, 0, 0, 0⟩]

/-- Gain codes of a shaping block's 417 carriers, 74 on (17 Table 17.3). -/
def gainCode (p : List W128) (w0 i : Nat) : Nat := payFld p (w0 + 6 + i / 16) (8 * (i % 16) + 7) (8 * (i % 16))

/-- A shaping block at word w0 (17 R568). A carrier is on unless its gain code is 0 (17 R568). -/
def okShaping (p : List W128) (w0 : Nat) : Bool :=
  let dflt := payFld p w0 127 127 == 1
  let gains := (List.range 417).map (gainCode p w0)
  bounds p [⟨w0, 126, 120, 0, 0⟩, ⟨w0, 111, 104, 0, 20⟩, ⟨w0, 103, 0, 0, 0⟩] && sIn 8 (payFld p w0 119 112) (-12) 12
    && (if dflt then ((p.drop (w0 + 1)).take 32).all (· == 0#128)
        else gains.all (fun g => decide (g ≤ 81)) && decide (344 ≤ (gains.filter (· != 0)).length)
          && bounds p [⟨w0 + 5, 127, 16, 0, 0⟩, ⟨w0 + 32, 127, 8, 0, 0⟩])

/-- LINK (18 R603). -/
def okLink (l : List RawRec) (p : List W128) : Bool :=
  let net := (recAll l 0xA0).filter fun r => payFld r.pay 0 55 48 == 1
  p.length == 34 && bounds p [⟨0, 94, 88, 0, 0⟩, ⟨0, 87, 80, 1, 50⟩, ⟨0, 79, 72, 1, 7⟩, ⟨0, 71, 0, 0, 0⟩] && okShaping p 1
    && (net.any fun r => payFld r.pay 1 127 96 == payFld p 0 127 96)
    && noDup (net.map fun r => payFld r.pay 1 127 96 % 256)

/-- Hub entry j of a FEEDER payload (19 Table 19.2). -/
def feederEntry (p : List W128) (j : Nat) : Nat := payFld p (1 + j / 2) (64 * (j % 2) + 63) (64 * (j % 2))
def feN (e : Nat) : Nat := bits e 63 56
def feW (e : Nat) : Nat := bits e 55 48
def feStand (e : Nat) : Nat := bits e 47 32
def feIsland (e : Nat) : Nat := bits e 31 16
def feCap (e : Nat) : Nat := bits e 15 0

/-- Entries of a FEEDER payload. -/
def feederEntries (p : List W128) : List Nat := (List.range (payFld p 0 119 104)).map (feederEntry p)

/-- Strictly ascending numbers. -/
def ascending : List Nat → Bool
  | a :: b :: l => decide (a < b) && ascending (b :: l)
  | _ => true

/-- FEEDER (19 R641, R642). -/
def okFeeder (l : List RawRec) (idx : Nat) (p : List W128) : Bool :=
  let n := payFld p 0 119 104
  let es := feederEntries p
  let sum := (es.map feStand).foldl (· + ·) 0
  decide (1 ≤ n) && decide (n ≤ 256) && p.length == 1 + (n + 1) / 2 && payFld p 0 127 120 == idx
    && bounds p [⟨0, 127, 120, 0, 15⟩, ⟨0, 103, 96, 0, 100⟩, ⟨0, 94, 48, 0, 0⟩, ⟨0, 47, 32, 100, 65000⟩, ⟨0, 31, 16, 100, 65000⟩, ⟨0, 15, 0, 100, 65000⟩]
    && (n % 2 == 0 || payFld p (1 + n / 2) 127 64 == 0)
    && (es.all fun e => decide (1 ≤ feW e) && decide (feStand e ≤ feCap e) && decide (feIsland e ≤ feStand e)
        && decide (60 ≤ feCap e) && decide (feCap e ≤ 25600) && nodeIn l (feN e))
    && ascending (es.map feN)
    && decide (sum ≤ payFld p 0 47 32) && decide (sum ≤ payFld p 0 31 16) && decide (sum ≤ payFld p 0 15 0)

/-- A chain or bundle reference inside the asset range: first block and count. -/
def blocksOk (aLen first n : Nat) : Bool := decide (first + n ≤ imgBlocks aLen)

/-- V2G (12 R403). -/
def okV2g (l : List RawRec) (aLen : Nat) (p : List W128) : Bool :=
  let chain := fun (hi : Nat) =>
    let f := payFld p 4 (hi + 31) (hi + 16)
    let n := payFld p 4 (hi + 15) hi
    if n = 0 then f == 0 else decide (n ≤ 16) && blocksOk aLen f n
  let hlc := (recAll l 0x31).any fun r => payFld r.pay 0 119 119 == 1
  let pnc := payFld p 0 122 122 == 1
  let iso2 := payFld p 0 127 127 == 1
  let iso20 := payFld p 0 126 126 == 1 || payFld p 0 125 125 == 1
  let ev := wordsBytes ((p.drop 1).take 3)
  let n := (ev.takeWhile (· != 0)).length
  p.length == 5 && bounds p [⟨0, 116, 112, 0, 0⟩, ⟨0, 111, 96, 49152, 65535⟩, ⟨0, 95, 80, 100, 300⟩, ⟨0, 79, 72, 0, 2⟩,
      ⟨0, 71, 64, 10, 55⟩, ⟨0, 63, 0, 0, 0⟩, ⟨4, 31, 0, 0, 0⟩]
    && (payFld p 0 126 126 == 0 || payFld p 0 119 118 != 0)
    && (payFld p 0 125 125 == 0 || payFld p 0 126 126 == 1)
    && textOk asciiByte ev && decide (7 ≤ n) && decide (n ≤ 37)
    && chain 96 && chain 64 && chain 32
    && (!hlc || (payFld p 0 127 125 != 0 && payFld p 0 123 122 != 0))
    && (!(hlc && pnc && iso2) || payFld p 4 111 96 != 0)
    && (!(hlc && pnc && iso20) || payFld p 4 79 64 != 0 || payFld p 4 47 32 != 0)

/-- TRUST_ANCHOR (12 R405). -/
def okAnchor (aLen idx : Nat) (p : List W128) : Bool :=
  p.length == 3 && decide (idx ≤ 15) && bounds p [⟨0, 127, 120, 1, 3⟩, ⟨0, 119, 112, 1, 3⟩, ⟨0, 95, 80, 1, 4⟩, ⟨0, 79, 64, 0, 0⟩]
    && blocksOk aLen (payFld p 0 111 96) (payFld p 0 95 80)

/-- MBUS (15 R520). -/
def okMbus (p : List W128) : Bool :=
  p.length == 1 && bounds p [⟨0, 127, 120, 0, 250⟩, ⟨0, 119, 112, 0xB8, 0xBD⟩, ⟨0, 69, 0, 0, 0⟩]
    && (List.range 8).all fun d => decide (bits (payFld p 0 111 80) (4 * d + 3) (4 * d) ≤ 9)

/-- NFC (16 R795). -/
def okNfc (p : List W128) : Bool := p.length == 1 && bounds p [⟨0, 125, 0, 0, 0⟩]

/-- Modes and bands of WAVEFORM_INDEX. -/
def wfModes (p : List W128) : Nat := payFld p 0 127 124 + 1
def wfBands (p : List W128) : Nat := payFld p 0 123 120 + 1
def wfUb (p : List W128) (b : Nat) : Nat := payFld p (1 + b / 8) (16 * (b % 8) + 15) (16 * (b % 8))
def wfEntry (p : List W128) (e : Nat) : Nat := payFld p (4 + e / 4) (32 * (e % 4) + 31) (32 * (e % 4))

/-- Signed values strictly ascending. -/
def ascInt : List Int → Bool
  | a :: b :: l => decide (a < b) && ascInt (b :: l)
  | _ => true

/-- WAVEFORM_INDEX (20 R671). -/
def okWaveform (aLen : Nat) (p : List W128) : Bool :=
  let n := wfModes p * wfBands p
  let nb := wfBands p
  let low := ofTwos 16 (payFld p 0 119 104)
  let high := ofTwos 16 (payFld p 0 103 88)
  let ubs := (List.range (nb - 1)).map fun b => ofTwos 16 (wfUb p b)
  decide (wfModes p ≤ 8) && p.length == 4 + (n + 3) / 4 && bounds p [⟨0, 87, 0, 0, 0⟩, ⟨2, 127, 112, 0, 0⟩, ⟨3, 127, 0, 0, 0⟩]
    && decide (low < high) && ascInt (if nb = 1 then [] else low :: ubs)
    && ((List.range 15).all fun b => decide (b < nb - 1) || wfUb p b == 0)
    && ((List.range (4 * ((n + 3) / 4))).all fun e =>
        if e < n then
          let v := wfEntry p e
          bits v 7 0 == 0 && decide (1 ≤ bits v 15 8) && decide (bits v 15 8 ≤ 64) && decide (bits v 31 16 < imgBlocks aLen)
        else wfEntry p e == 0)

/-- A layout of a number and a purpose exists. -/
def layoutIs (l : List RawRec) (n purpose : Nat) : Bool :=
  (recAll l 0x91).any fun r => rIdx r == n && payFld r.pay 0 127 124 == purpose

/-- DISPLAY (20 R664, R665). -/
def okDisplay (l : List RawRec) (p : List W128) : Bool :=
  let ppc := if payFld p 0 103 103 = 1 then 8 else 4
  let lines := payFld p 0 63 56 + payFld p 0 115 104 + payFld p 0 55 48
  let per := payFld p 0 87 80 + payFld p 0 79 72 + payFld p 0 127 116 / ppc + payFld p 0 71 64
  let clocks := lines * per * payFld p 0 95 88
  let modes := match recAny l 0x93 with
    | some r => wfModes r.pay
    | none => 1
  p.length == 2 && bounds p [⟨0, 127, 116, 400, 1600⟩, ⟨0, 115, 104, 300, 1200⟩, ⟨0, 99, 96, 0, 0⟩, ⟨0, 95, 88, 4, 40⟩, ⟨0, 87, 80, 1, 255⟩,
      ⟨0, 79, 72, 1, 255⟩, ⟨0, 71, 64, 1, 255⟩, ⟨0, 63, 56, 1, 255⟩, ⟨0, 55, 48, 1, 255⟩, ⟨0, 47, 32, 0, 5000⟩, ⟨0, 31, 24, 5, 200⟩,
      ⟨0, 11, 0, 0, 0⟩, ⟨0, 23, 20, 0, modes - 1⟩, ⟨0, 19, 16, 0, modes - 1⟩, ⟨0, 15, 12, 0, modes - 1⟩,
      ⟨1, 127, 96, 1000, 1000000⟩, ⟨1, 95, 80, 2000, 6000⟩, ⟨1, 55, 40, 50, 30000⟩, ⟨1, 39, 32, 0, 168⟩, ⟨1, 31, 0, 0, 0⟩]
    && payFld p 0 127 116 % 8 == 0 && payFld p 0 47 32 % 5 == 0
    && decide (50 * clocks ≤ 200000000) && decide (200000000 ≤ 100 * clocks)
    && layoutIs l (payFld p 1 79 72) 0
    && (payFld p 1 71 64 == 0xFF || layoutIs l (payFld p 1 71 64) 2)
    && (payFld p 1 63 56 == 0xFF || layoutIs l (payFld p 1 63 56) 3)

/-- One layout element (20 R679, R680). -/
def okElement (l : List RawRec) (purpose : Nat) (w : W128) : Bool :=
  let k := fld w 127 124
  decide (1 ≤ k) && decide (k ≤ 4) && fld w 29 0 == 0
    && (fld w 63 62 != 3) && (k != 3 || decide (fld w 61 54 ≤ 13))
    && decide (fld w 123 112 + fld w 99 88 ≤ 4095) && decide (fld w 111 100 + fld w 87 76 ≤ 4095)
    && (k != 4 || (purpose == 0 && layoutIs l (fld w 53 38) 1 && decide (1 ≤ fld w 37 30) && decide (fld w 37 30 ≤ 32)))

/-- LAYOUT (20 R679, R680). -/
def okLayout (l : List RawRec) (idx : Nat) (p : List W128) : Bool :=
  let n := payFld p 0 99 92
  let k := payFld p 0 91 84
  let purpose := payFld p 0 127 124
  decide (idx ≤ 31) && p.length == 1 + n + 2 * k
    && bounds p [⟨0, 127, 124, 0, 3⟩, ⟨0, 99, 92, 0, 128⟩, ⟨0, 91, 84, 0, 64⟩, ⟨0, 83, 0, 0, 0⟩]
    && (purpose == 1 || bounds p [⟨0, 123, 100, 0, 0⟩])
    && ((p.drop 1).take n).all (okElement l purpose)
    && (List.range k).all fun j => textOk asciiByte (textIn p (1 + n + 2 * j) 2)

/-- FONT_INDEX (20 R683). -/
def okFont (aLen : Nat) (p : List W128) : Bool :=
  let n := payFld p 0 127 124
  decide (1 ≤ n) && p.length == 1 + n && bounds p [⟨0, 123, 0, 0, 0⟩]
    && (p.drop 1).all fun w => fld w 71 0 == 0 && asciiByte (fld w 87 80) && asciiByte (fld w 79 72)
        && decide (fld w 87 80 ≤ fld w 79 72) && blocksOk aLen (fld w 127 112) (fld w 111 104)

/-- KEY_IMPORT, its layout alone (04 Table 4.9). -/
def okKeyImport (idx : Nat) (p : List W128) : Bool :=
  let form := payFld p 0 5 4
  let n := payFld p 1 95 88
  p.length == 13 && payFld p 0 63 56 == idx && bounds p [⟨0, 63, 56, 8, 63⟩, ⟨0, 55, 48, 1, 9⟩, ⟨0, 7, 6, 0, 1⟩, ⟨0, 5, 4, 0, 1⟩, ⟨0, 3, 0, 0, 0⟩,
      ⟨0, 15, 14, 0, 0⟩, ⟨0, 32, 32, 0, 0⟩, ⟨0, 16, 16, 0, 0⟩, ⟨0, 31, 25, 0, 0⟩, ⟨1, 127, 96, 1, 0xFFFFFFFF⟩, ⟨1, 87, 64, 0, 0⟩]
    && [16, 32, 57, 65, 66].contains n
    && (payFld p 0 55 48 == 9 || payFld p 1 63 0 == 0)
    && ((wordsBytes ((p.drop 7).take 5)).drop n).all (· == 0)
    && ((wordsBytes ((p.drop 2).take 5)).drop 65).all (· == 0)
    && (form == 0 || (((p.drop 2).take 5).all (· == 0#128) && p.getD 12 0 == 0#128))

/-- SENTINEL (05 R168). -/
def okSentinel (p : List W128) : Bool :=
  p.length == 1 && bounds p [⟨0, 127, 112, 470, 4700⟩, ⟨0, 111, 96, payFld p 0 95 80 + 1000, 5000⟩, ⟨0, 95, 80, 1800, 3500⟩, ⟨0, 79, 72, 60, 90⟩, ⟨0, 66, 0, 0, 0⟩]

/-- ASSET_HASHES (05 R169). -/
def okHashes (aLen : Nat) (p : List W128) : Bool :=
  let n := payFld p 0 127 112
  decide (1 ≤ n) && decide (n ≤ 1024) && n == imgBlocks aLen && p.length == 1 + 2 * n && bounds p [⟨0, 111, 0, 0, 0⟩]

/-- KEY_ROLL layout (04 Table 4.12). -/
def okKeyRoll (p : List W128) : Bool :=
  p.length == 10 && bounds p [⟨0, 127, 96, 1, 0xFFFFFFFF⟩, ⟨0, 31, 0, 0, 0⟩] && ((wordsBytes ((p.drop 1).take 5)).drop 65).all (· == 0)

/-- A commissioner certificate is well formed (04 Table 4.11). -/
def okCert (c : List W128) : Bool :=
  c.length == 16 && bounds c [⟨0, 127, 96, 0x43435947, 0x43435947⟩, ⟨0, 95, 88, 1, 1⟩, ⟨0, 87, 64, 0, 0⟩, ⟨1, 95, 0, 0, 0⟩]
    && ((wordsBytes ((c.drop 2).take 5)).drop 65).all (· == 0) && ((wordsBytes ((c.drop 7).take 5)).drop 65).all (· == 0)

/-- SIGNATURE layout (05 R170). -/
def okSignature (signer : Nat) (p : List W128) : Bool :=
  payFld p 0 127 96 == signer && bounds p [⟨0, 95, 88, 1, 1⟩, ⟨0, 87, 80, 0, 1⟩, ⟨0, 79, 0, 0, 0⟩]
    && (if payFld p 0 87 80 = 1 then p.length == 21 && okCert ((p.drop 5).take 16) else p.length == 5)

/-- Record types that occur once carry INDEX 0 (05 Table 5.3). -/
def single (t : Nat) : Bool :=
  [0x10, 0x11, 0x20, 0x40, 0x50, 0x51, 0x52, 0x60, 0x70, 0x80, 0x81, 0x90, 0x92, 0x93, 0xB0, 0xC0, 0xF0, 0xFFFF].contains t

/-- Whether a record is well formed (05 R162; check 6 of Table 5.13). -/
def okRec (s : State) (l : List RawRec) (aLen signer : Nat) (r : RawRec) : Bool :=
  let p := r.pay
  let i := rIdx r
  fld r.hdr 95 88 == 1 && fld r.hdr 87 80 == 0 && fld r.hdr 63 0 == 0 && (!single (rTyp r) || i == 0) &&
  match rTyp r with
  | 0x10 => okIdentity l p | 0x11 => okEstate l p | 0x20 => okClock p | 0x30 => okHead l i p | 0x31 => okPoint l p
  | 0x32 => okSensorCal l i p | 0x40 => okSafety p | 0x50 => okTariff s p | 0x51 => okTenantDir p | 0x52 => okPeriod p
  | 0x60 => okLink l p | 0x61 => okFeeder l i p | 0x70 => okV2g l aLen p | 0x71 => okAnchor aLen i p | 0x80 => okMbus p
  | 0x81 => okNfc p | 0x90 => okDisplay l p | 0x91 => okLayout l i p | 0x92 => okFont aLen p | 0x93 => okWaveform aLen p
  | 0xA0 => okKeyImport i p | 0xB0 => okSentinel p | 0xC0 => okHashes aLen p | 0xF0 => okKeyRoll p
  | 0xFFFF => okSignature signer p
  | _ => false

/-- Rules over the whole image: HLC_EN needs a V2G record, every node of NODE_MAP stands in exactly one FEEDER record, the
hub's own in its own (12 R403, 19 R642). -/
def okWhole (l : List RawRec) : Bool :=
  let hlc := (recAll l 0x31).any fun r => payFld r.pay 0 119 119 == 1
  let nodes := (recAll l 0x61).flatMap fun r => (feederEntries r.pay).map feN
  let me := recPay l 0x10 0
  (!hlc || (recAny l 0x70).isSome)
    && ((List.range 256).all fun k => !nodeIn l k || (nodes.filter (· == k)).length == 1)
    && ((feederEntries (recPay l 0x61 (payFld me 0 119 112))).map feN).contains (payFld me 0 127 120)

/-- Allowed counts of a type (05 Table 5.4). -/
def countRule (l : List RawRec) (aLen : Nat) : Bool :=
  let n := fun (t : Nat) => (recAll l t).length
  let idxs := fun (t : Nat) => (recAll l t).map rIdx
  let slots := idxs 0x30
  let fmap := payFld (recPay l 0x11 0) 0 95 80
  let once := fun (t : Nat) => n t == 1
  let upTo := fun (t k : Nat) => decide (n t ≤ k)
  once 0x10 && once 0x11 && once 0x20 && decide (1 ≤ n 0x30) && upTo 0x30 8 && once 0x40 && once 0x50 && once 0x51 && once 0x52
    && once 0x60 && upTo 0x70 1 && upTo 0x71 16 && upTo 0x80 1 && upTo 0x81 1 && upTo 0x90 1 && upTo 0x91 32 && upTo 0x92 1
    && upTo 0x93 1 && upTo 0xA0 56 && once 0xB0 && (if 0 < aLen then once 0xC0 else n 0xC0 == 0) && upTo 0xF0 1 && once 0xFFFF
    && n 0x31 == 4 * slots.length && (idxs 0x31).all (fun i => slots.contains (i / 4))
    && n 0x32 == 28 * slots.length && (idxs 0x32).all (fun i => slots.contains (i / 28))
    && (idxs 0x61).all (fun i => decide (i < 16) && bitOf fmap i)
    && ((List.range 16).all fun i => !bitOf fmap i || (idxs 0x61).contains i)
    && noDup (l.map fun r => rTyp r * 65536 + rIdx r)

end Sys2Proof.Machine
end

