-- ==== Sys2Proof/Machine/Share.lean ====
section
/-! DEFINITION. Estate load sharing: demand records, the allocation of a feeder, its application, the point split and LLIM
(spec/19). -/

namespace Sys2Proof.Machine

/-! FEEDER records (19 R641). -/

/-- The FEEDER payload of a feeder. -/
def feederPay (s : State) (k : Nat) : Option (List W128) := recOf s 0x61 k

/-- The feeder whose record lists a node. -/
def feederOf (s : State) (node : Nat) : Option Nat :=
  (List.range 16).find? fun k => match feederPay s k with
    | some p => (feederEntries p).any fun e => feN e == node
    | none => false

/-- LLIM_FACTOR, LLIM_POL and the limits of the own feeder. -/
def ownPay (s : State) : List W128 := (feederPay s (ownFeeder s)).getD []
def llimFactor (p : List W128) : Nat := payFld p 0 103 96
def llimPol (p : List W128) : Bool := payFld p 0 95 95 == 1
def feederLimits (p : List W128) : List Nat := [payFld p 0 47 32, payFld p 0 31 16, payFld p 0 15 0]

/-- The hub's own entry, as its packed value. -/
def ownEntry (s : State) : Nat := ((feederEntries (ownPay s)).find? fun e => feN e == nodeId s).getD 0

/-- Scaling under LLIM, rounded down (19 R655). -/
def scaleBy (factor : Nat) (scaled : Bool) (v : Nat) : Nat := if scaled then v * factor / 100 else v

/-! Demand (19 R644 to R646). -/

/-- Feeder phases, 0 to 2, that a point's phases map to (19 Table 19.3). -/
def rotMap : Nat → List Nat
  | 0 => [0, 1, 2] | 1 => [1, 2, 0] | 2 => [2, 0, 1] | 3 => [0, 2, 1] | 4 => [2, 1, 0] | _ => [1, 0, 2]

def phasesUsed (s : State) (i : Fin 32) : List Nat :=
  if ptPhases s i.val = 3 then rotMap (ptRot s i.val) else (rotMap (ptRot s i.val)).take 1

/-- A point's demand: that of SES capped by its level-3 and level-4 terms; 0.1 A to 5.9 A count as 6.0 A (19 R645). -/
def pointDemand (s : State) (i : Fin 32) : Nat :=
  let cap := fun (c : Nat) (t : Option Nat) => match t with
    | some x => min c x
    | none => c
  let d := cap (cap s.ses[i].demand s.cp[i].llim) s.psafe[i].ceilT
  if 0 < d ∧ d < 60 then 60 else d

/-- The hub's demand per feeder phase, saturating (19 R645). -/
def hubDemand (s : State) : List Nat :=
  (List.range 3).map fun x =>
    min 0xFFFF (((fitted s).map fun i => if (phasesUsed s i).contains x then pointDemand s i else 0).sum)

/-- DEMAND_FORMED at 64e:0: the record of epoch e joins the records held (19 R645, R646; 18 R619); none under the mains-loss signal
(R663). -/
def formDemand (s : State) : State :=
  if s.sen.mlSig then s
  else
    let e := s.clk.count / 64
    let r : Demand := { epoch := e, node := nodeId s, feeder := ownFeeder s, island := s.lnk.island, llim := s.share.llim, d := hubDemand s }
    let s := s.modShare fun h => { h with sent := (r :: h.sent).take 4, dSent := r.d }
    s.modLnk fun l => { l with demands := (l.demands.filter fun x => !(x.node == r.node && x.epoch == e)) ++ [r] }

/-- The eight bytes of a demand record (19 Table 19.4). -/
def demandBytes (r : Demand) : List Nat :=
  [r.node, r.feeder * 16 + 8 * b2n r.island + 4 * b2n r.llim + r.low] ++ (r.d.flatMap fun x => bytesLE 2 x)

/-- A demand record from its eight bytes. -/
def demandOfBytes (epoch : Nat) (bs : List Nat) : Demand :=
  let b := bs.getD 1 0
  { epoch, node := bs.getD 0 0, feeder := b / 16, island := bitOf b 3, llim := bitOf b 2, low := b % 4
    d := (List.range 3).map fun x => natLE ((bs.drop (2 + 2 * x)).take 2) }

/-! The allocation (19 R648 to R650, R655, R658). -/

/-- A record counts: its reserved bits are zero and it names the feeder whose record lists its node (19 R658). -/
def demandGood (s : State) (r : Demand) : Bool := r.low == 0 && feederOf s r.node == some r.feeder

/-- The demand of a record on a phase, clipped to CAP (19 R648). -/
def clipped (e : Nat) (r : Demand) (x : Nat) : Nat := min (r.d.getD x 0) (feCap e)

/-- Floor and want of an entry on a phase, with the floor case (19 R648). -/
def floorOf (factor : Nat) (scaled : Bool) (e : Nat) (r : Option Demand) (x : Nat) : Nat × Nat × Nat :=
  match r with
  | none => (scaleBy factor scaled (feStand e), 0, 0)
  | some r =>
    if r.island then (scaleBy factor scaled (feIsland e), 0, 1)
    else
      let d := clipped e r x
      let f := min d (scaleBy factor scaled (feStand e))
      (f, d - f, 2)

/-- An entry under allocation: node, weight, amount, want. -/
abbrev AllocSt := Nat × Nat × Nat × Nat

def wantsMore (h : AllocSt) : Bool := decide (0 < h.2.2.2)

/-- The level loop of 19 R649. -/
def levelLoop : (fuel : Nat) → Nat → List AllocSt → Nat × List AllocSt
  | 0, rest, l => (rest, l)
  | fuel + 1, rest, l =>
    let w := ((l.filter wantsMore).map fun h => h.2.1).sum
    if w = 0 ∨ rest = 0 then (rest, l)
    else
      let level := rest / w
      if level = 0 then (rest, l)
      else
        let give := fun (h : AllocSt) => min h.2.2.2 (level * h.2.1)
        levelLoop fuel (rest - (l.map give).sum) (l.map fun h => (h.1, h.2.1, h.2.2.1 + give h, h.2.2.2 - give h))

/-- One pass of the remainder: one unit each, in node order, while any rest is left. -/
def unitPass : Nat → List AllocSt → Nat × List AllocSt
  | rest, [] => (rest, [])
  | rest, h :: hs =>
    if wantsMore h ∧ 0 < rest then
      let r := unitPass (rest - 1) hs
      (r.1, (h.1, h.2.1, h.2.2.1 + 1, h.2.2.2 - 1) :: r.2)
    else
      let r := unitPass rest hs
      (r.1, h :: r.2)

/-- The remainder loop of 19 R649. -/
def unitLoop : (fuel : Nat) → Nat → List AllocSt → List AllocSt
  | 0, _, l => l
  | fuel + 1, rest, l =>
    if rest = 0 || !(l.any wantsMore) then l
    else
      let r := unitPass rest l
      unitLoop fuel r.1 r.2

/-- The allocation of one feeder phase: floors and wants in, amounts in node order out (19 R649). -/
def allocPhase (cap : Nat) (l : List AllocSt) : List Nat :=
  let rest := cap - (l.map fun h => h.2.2.1).sum
  let r := levelLoop (l.length + 2) rest l
  (unitLoop (r.1 + 1) r.1 r.2).map fun h => h.2.2.1

/-- The records that count in a feeder. -/
def feederRecs (s : State) (k : Nat) (rs : List Demand) : List Demand := rs.filter fun r => demandGood s r && r.feeder == k

/-- The allocation of a feeder from the records of a bundle: rows in node order, whether the feeder is under LLIM, its limits as used
(19 R648, R649, R655). -/
def allocFeeder (s : State) (k : Nat) (rs : List Demand) : List AllocRow × Bool × List Nat :=
  let p := (feederPay s k).getD []
  let es := feederEntries p
  let mine := feederRecs s k rs
  let scaled := mine.any (·.llim)
  let fac := llimFactor p
  let recFor := fun (e : Nat) => mine.find? fun r => r.node == feN e
  let lims := (feederLimits p).map (scaleBy fac scaled)
  let phase := fun (x : Nat) =>
    allocPhase (lims.getD x 0) (es.map fun e =>
      let f := floorOf fac scaled e (recFor e) x
      (feN e, feW e, f.1, f.2.1))
  let a := [phase 0, phase 1, phase 2]
  (es.zipIdx.map fun e =>
    { node := feN e.1, floorCase := (floorOf fac scaled e.1 (recFor e.1) 0).2.2, a := a.map fun l => l.getD e.2 0 }, scaled, lims)

/-- Events of the records of a bundle: treated as missing, and demands above CAP, the first of a run per node and phase
(19 R658, R661). -/
def recordEvents (rs : List Demand) (s : State) : State :=
  rs.foldl (fun s r =>
    if !demandGood s r then raise 0x30B2 5 255 (r.node * 2 ^ 24 + r.feeder * 2 ^ 16) s
    else
      let e := ((feederEntries ((feederPay s r.feeder).getD [])).find? fun e => feN e == r.node).getD 0
      (List.range 3).foldl (fun s x =>
        let d := r.d.getD x 0
        if feCap e < d then
          let old := s.share.clipRun.find? fun c => c.1 == r.node && c.2.1 == x
          let first := !runOn (old.map (·.2.2)) (nowS s)
          let s := s.modShare fun h =>
            { h with clipRun := (h.clipRun.filter fun c => !(c.1 == r.node && c.2.1 == x)) ++ [(r.node, x, nowS s)] }
          raiseIf first 0x30B1 5 255 (r.node * 2 ^ 24 + (x + 1) * 2 ^ 16 + d) s
        else s) s) s

/-- ALLOCATION_COMPUTE: a holder of bundle e computes the allocation (19 R647 to R650). -/
def allocCompute (e : Nat) (rs : List Demand) (s : State) : State :=
  let s := recordEvents rs s
  let (rows, scaled, lims) := allocFeeder s (ownFeeder s) rs
  s.modShare fun h =>
    { h with rows, allocEpoch := some e, allocScaled := scaled, allocLim := lims, present := (feederRecs s (ownFeeder s) rs).length }

/-! Application (19 R651, R655, R663). -/

/-- LLIM of this hub was active at a boundary of the last n boundaries, this one included. -/
def llimWithin (s : State) (n : Nat) : Bool := (s.share.llimHist.take n).any id

/-- Own floor of a phase from the record sent, STAND without one (19 R648, R651). -/
def ownFloor (s : State) (scaled : Bool) (r : Option Demand) (x : Nat) : Nat :=
  (floorOf (llimFactor (ownPay s)) scaled (ownEntry s) r x).1

/-- ALLOCATION_APPLY at 64(e+2):0: the allocation of bundle e, else the fallback with event 0x30B0; until a held bundle has applied
since RUN, the island limit (19 R651, R655, R660, R663). A bundle not held by a hub in the tree: event 0x30AB (18 R633). -/
def allocApply (s : State) : State :=
  let e := s.clk.count / 64 - 2
  let held := s.share.allocEpoch == some e
  if held && !s.lnk.island then
    let h := ((s.share.rows.find? fun r => r.node == nodeId s).map (·.a)).getD [0, 0, 0]
    s.modShare fun x => { x with h, source := 1, srcEpoch := e, scaled := x.allocScaled, lim := x.allocLim, held := inc32 x.held }
  else
    let miss := !held && !s.lnk.island && s.lnk.missedEpoch != e
    let s := if miss then raise 0x30AB 5 255 e (s.modLnk fun l => { l with missed := inc32 l.missed, missedEpoch := e }) else s
    let scaled := llimWithin s 129
    let r := s.share.sent.find? fun x => x.epoch == e
    let fac := llimFactor (ownPay s)
    let h := if s.share.held = 0 then List.replicate 3 (scaleBy fac scaled (feIsland (ownEntry s)))
      else (List.range 3).map (ownFloor s scaled r)
    let cause := if s.lnk.island then 2 else if r.isNone then 3 else 1
    raise 0x30B0 5 255 (cause * 2 ^ 24 + e % 2 ^ 24)
      (s.modShare fun x =>
        { x with h, source := if s.lnk.island then 3 else 2, srcEpoch := e, scaled, lim := (feederLimits (ownPay s)).map (scaleBy fac scaled)
                 fallbacks := inc32 x.fallbacks })

/-! The point split (19 R652, R653, R656). -/

/-- A point under the split: index, demand, feeder phases, amount, frozen. -/
structure SplitPt where
  p : Nat
  d : Nat
  ph : List Nat
  c : Nat := 0
  frozen : Bool := false
  deriving DecidableEq, Repr

/-- Unfrozen users of a phase. -/
def users (l : List SplitPt) (x : Nat) : Nat := (l.filter fun q => !q.frozen && q.ph.contains x).length

/-- Freeze the points that are served or that use a phase without a unit for each of its users. -/
def freeze (rem : List Nat) (l : List SplitPt) : List SplitPt :=
  l.map fun q => if q.frozen || q.c == q.d || q.ph.any (fun x => decide (rem.getD x 0 < users l x)) then { q with frozen := true } else q

/-- The main loop of 19 R652. -/
def splitLoop : (fuel : Nat) → List Nat → List SplitPt → List Nat × List SplitPt
  | 0, rem, l => (rem, l)
  | fuel + 1, rem, l =>
    let m := freeze rem l
    if m != l then splitLoop fuel rem m
    else
      let un := l.filter fun q => !q.frozen
      match un with
      | [] => (rem, l)
      | q :: _ =>
        let ph := (List.range 3).filter fun x => users l x != 0
        let first := q.d - q.c
        let step := (ph.map fun x => rem.getD x 0 / users l x).foldl min ((un.map fun q => q.d - q.c).foldl min first)
        splitLoop fuel ((List.range 3).map fun x => rem.getD x 0 - step * users l x)
          (l.map fun q => if q.frozen then q else { q with c := q.c + step })

/-- One remainder pass in order σ; the flag says whether it gave anything. -/
def splitPass : List Nat → List SplitPt → List Nat × List SplitPt × Bool
  | rem, [] => (rem, [], false)
  | rem, q :: qs =>
    if decide (q.c < q.d) && q.ph.all (fun x => decide (1 ≤ rem.getD x 0)) then
      let r := splitPass ((List.range 3).map fun x => if q.ph.contains x then rem.getD x 0 - 1 else rem.getD x 0) qs
      (r.1, { q with c := q.c + 1 } :: r.2.1, true)
    else
      let r := splitPass rem qs
      (r.1, q :: r.2.1, r.2.2)

def splitRest : (fuel : Nat) → List Nat → List SplitPt → List SplitPt
  | 0, _, l => l
  | fuel + 1, rem, l =>
    let r := splitPass rem l
    if r.2.2 then splitRest fuel r.1 r.2.1 else l

/-- The split in order σ with its removals: shares, and the points removed (19 R652). -/
def splitRun : (fuel : Nat) → List Nat → List SplitPt → List SplitPt × List Nat
  | 0, _, l => (l, [])
  | fuel + 1, h, l =>
    let r := splitLoop 200 h l
    let m := splitRest 400 r.1 r.2
    if m.any fun q => decide (0 < q.c) && decide (q.c < 60) then
      match l.getLast? with
      | none => (m, [])
      | some q =>
        let r := splitRun fuel h l.dropLast
        (r.1, q.p :: r.2)
    else (m, [])

/-- Candidates: points in AUTHORISED, CHARGING or PAUSED with a demand above zero (19 R652). -/
def isCandidate (s : State) (i : Fin 32) : Bool :=
  (s.cp[i].pst == .authorised || s.cp[i].pst == .charging || s.cp[i].pst == .paused) && pointDemand s i != 0

/-- Order σ of an epoch: indices from e mod 32 on, ascending cyclically. -/
def sigmaOrder (e : Nat) (l : List (Fin 32)) : List (Fin 32) := sortBy (fun i => (i.val + 32 - e % 32) % 32) l

/-- The level-3 terms while LLIM is active and the hub amount was computed without scaling (19 R656). -/
def llimTerms (s : State) : State :=
  let on := s.share.llim && !s.share.scaled
  let fac := llimFactor (ownPay s)
  let s := s.modShare fun h => { h with term3 := on }
  (fitted s).foldl (fun s i => s.modCp i fun x => { x with llim := if on then x.share.map fun c => c * fac / 100 else none }) s

/-- POINT_SPLIT: LNK divides the hub amount among the candidates into share ceilings; a point removed writes event 0x30B5 for the
first of a run (19 R652, R653, R661). -/
def pointSplit (s : State) : State :=
  let e := s.clk.count / 64
  let cands := (fitted s).filter (isCandidate s)
  let l := (sigmaOrder e cands).map fun i => ({ p := i.val, d := pointDemand s i, ph := phasesUsed s i } : SplitPt)
  let r := splitRun 33 s.share.h l
  let s := (fitted s).foldl (fun s i =>
    s.modCp i fun x => { x with share := some (((r.1.find? fun q => q.p == i.val).map (·.c)).getD 0) }) s
  let s := r.2.foldl (fun s p =>
    let first := !runOn ((kget? p s.share.cutRun)) (nowS s)
    raiseIf first 0x30B5 5 p e (s.modShare fun h => { h with cutRun := kset p (nowS s) h.cutRun })) s
  llimTerms (s.modShare fun h => { h with cands := cands.map (·.val) })

/-- The split at a boundary at which a point enters or leaves the candidates (19 R653). -/
def splitBoundary (s : State) : State :=
  if ((fitted s).filter (isCandidate s)).map (·.val) = s.share.cands then s else pointSplit s

/-! LLIM (19 R654). -/

/-- A cycle has ended: whether it read the other level throughout (19 R654). The new boundary's LLIM state joins the history. -/
def llimBoundary (s : State) : State :=
  s.modShare fun h =>
    let other := !h.llimSamp.isEmpty && h.llimSamp.all (· != h.llim)
    { h with llimSamp := [], llimRun := if other then min 4 (h.llimRun + 1) else 0, llimHist := (h.llim :: h.llimHist).take 256 }

/-- LLIM_CHANGE: four consecutive cycles have read the new level, event 0x30B3 or 0x30B4; the level-3 terms follow at this boundary
(19 R654, R656). -/
def doLlimChange (s : State) : State :=
    if s.share.llimRun < 4 || s.life.cond != .run || (feederPay s (ownFeeder s)).isNone then s
    else
      let now := !s.share.llim
      let s := s.modShare fun h => { h with llim := now, llimRun := 0, llimHist := now :: h.llimHist.drop 1 }
      llimTerms (raise (if now then 0x30B3 else 0x30B4) 5 255 (llimFactor (ownPay s)) s)

/-- Load sharing at RUN: island, the island limit in force; nothing survives a start (19 R663). -/
def shareReset (s : State) : State :=
  let sc := s.share.llim
  let fac := llimFactor (ownPay s)
  s.modShare fun h =>
    { ({} : Share) with llim := h.llim, llimRun := h.llimRun, llimHist := h.llimHist, llimSamp := h.llimSamp, scaled := sc
                        h := List.replicate 3 (scaleBy fac sc (feIsland (ownEntry s)))
                        lim := (feederLimits (ownPay s)).map (scaleBy fac sc) }

end Sys2Proof.Machine
end

