-- ==== Sys2Proof/Machine/Link.lean ====
section
/-! DEFINITION. The Acrad network: beacons and the coordinator, joining, share frames and neighbours, tone maps, the relay tree, demand
collection and bundles, orders and readout over the link (18 R614 to R640). -/

namespace Sys2Proof.Machine

/-! States (18 R615, R618). -/

/-- Enter or leave island: leaving writes event 0x30A2 (18 R618). -/
def setIsland (on : Bool) (s : State) : State :=
  if on == s.lnk.island then s
  else if on then s.modLnk fun l => { l with island := true, islandEpochs := 0 }
  else raise 0x30A2 5 255 s.lnk.islandEpochs (s.modLnk fun l => { l with island := false })

/-- Leave the tree for LISTEN. -/
def toListen (s : State) : State :=
  setIsland true (s.modLnk fun l =>
    { l with st := .listen, depth := 255, parent := 255, phis := [], dc := 0, beaconRun := 0, beaconMiss := 0, heardNow := false, tolBad := 0,
             countDiff := 0, handover := none })

/-- Become coordinator. -/
def toCoord (s : State) : State :=
  setIsland false (s.modLnk fun l =>
    { l with st := .coord, depth := 0, parent := nodeId s, coord := nodeId s, phis := [], dc := 0, countDiff := 0, handover := none,
             nextCoord := 0, beaconRun := 0, beaconMiss := 0 })

/-- A coordinator stops because of another one (18 R615, R616): event 0x30A4. -/
def coordStops (new : Nat) (s : State) : State :=
  toListen (raise 0x30A4 5 255 (nodeId s * 2 ^ 24 + new * 2 ^ 16) s)

/-- A handover epoch named by its low 32 bits is the epoch that begins now. -/
def handoverNow (s : State) : Option Nat :=
  match s.lnk.handover with
  | some (e, n) => if e % 2 ^ 32 = s.clk.count / 64 % 2 ^ 32 then some n else none
  | none => none

/-- COORDINATION_HANDOVER at the first link cycle of the handover epoch: the claimant becomes coordinator, the old one stops, both with
event 0x30A4; the bundle of the epoch before is cancelled (18 R616, R637). -/
def execCoordinationHandover (s : State) : Host.Outcome State Fault Refusal :=
  .next <|
    if !lnkUp s then s
    else match handoverNow s with
      | none => s
      | some n =>
        let s := s.modLnk fun l => { l with cancelEpoch := some (s.clk.count / 64 - 1) }
        if s.lnk.st = .coord then
          if n = nodeId s then s.modLnk fun l => { l with handover := none } else coordStops n s
        else if n = nodeId s then toCoord (raise 0x30A4 5 255 (s.lnk.coord * 2 ^ 24 + n * 2 ^ 16) s)
        else s.modLnk fun l => { l with handover := none }

/-- COORDINATOR_TAKEOVER: a capable hub in LISTEN has heard no beacon for 3 + ⌊node / 32⌋ superframes, event 0x30A3
(18 R615, Table 18.4). It needs a key to send under (R612). -/
def execCoordinatorTakeover (s : State) : Host.Outcome State Fault Refusal :=
  .next <|
    if lnkUp s && s.lnk.st = .listen && coordCapable s && decide (3 + nodeId s / 32 ≤ s.lnk.beaconMiss) && (sendPlace s).isSome then
      toCoord (raise 0x30A3 5 255 (estCount s) s)
    else s

/-- ISLAND_ENTRY: no beacon for 3 epochs, event 0x30A1 (18 R618). -/
def execIslandEntry (s : State) : Host.Outcome State Fault Refusal :=
  .next <|
    if lnkUp s && (s.lnk.st = .synced || s.lnk.st = .joined) && decide (48 ≤ s.lnk.beaconMiss) then
      let m := s.lnk.beaconMiss
      let s := toListen (raise 0x30A1 5 255 m s)
      s.modLnk fun l => { l with beaconMiss := m }
    else s

/-! Beacons (18 R604, R607, R614, R617). -/

/-- Beacon body (18 R614). -/
def beaconBody (s : State) : List Nat :=
  let h := s.lnk.handover
  [nodeId s, b2n h.isSome, (h.map (·.2)).getD 0, 0] ++ bytesLE 8 (estCount s) ++ bytesLE 4 ((h.map (·.1)).getD 0)

/-- BEACON_SEND: the coordinator in slot 0 of a superframe, once (18 R606, R614). -/
def execBeaconSend (s : State) : Host.Outcome State Fault Refusal :=
  .next <|
    if !lnkUp s || s.lnk.st != .coord || estCount s % 4 ≠ 0 || s.lnk.beaconCount = estCount s then s
    else
      let c := estCount s
      sendBroadcast 0 (c / 4) { kind := 0, orig := nodeId s, bcastFinal := true, hops := 0, body := beaconBody s }
        (s.modLnk fun l => { l with beaconCount := c })

/-- BEACON_RELAY: a JOINED relay of DEPTH 1 to 5 sends the copy it has heard on (18 R607, R614). -/
def execBeaconRelay (f : AcFrame) (s : State) : Host.Outcome State Fault Refusal :=
  .next <|
    if lnkUp s && s.lnk.st = .joined && cfg s 0x60 0 0 95 95 = 1 && decide (1 ≤ s.lnk.epochDepth) && decide (s.lnk.epochDepth ≤ 5) && f.mic then
      relayFrame 0 (estCount s / 4) 0 false f s
    else s

/-- T_fc = 151.2 µs in pu at the base length (18 R604). -/
def tfcPu (s : State) : Int := roundRat (756 / 5 / s.clk.base * 65536)

/-- The φ_c that a copy gives: `hop` relays lie between, which is DEPTH - 1 where the hub has a DEPTH (18 R604; log entry 38). -/
def copyPhi (s : State) (hop stamp : Nat) : Nat :=
  let n : Int := if s.lnk.depth ≤ 6 && 1 ≤ s.lnk.depth then (s.lnk.depth - 1 : Nat) else hop
  (((stamp : Int) - n * 5461 - tfcPu s) % 65536).toNat

/-- A beacon copy is heard: phase, counts and handover are taken (18 R604, R614, R617, R618). -/
def beaconHeard (f : AcFrame) (hop : Nat) (s : State) : State :=
  let b := f.body
  let count := natLE ((b.drop 4).take 8)
  let v := copyPhi s hop f.stamp
  let s := s.modLnk fun l =>
    { l with
      phis := v :: l.phis.take 7
      coord := b.getD 0 0
      nextCoord := b.getD 2 0
      handover := if bitOf (b.getD 1 0) 0 then some (natLE ((b.drop 12).take 4), b.getD 2 0) else none
      cancelEpoch := if bitOf (b.getD 1 0) 0 then some (natLE ((b.drop 12).take 4) - 1) else l.cancelEpoch
      beaconCount := count
      beaconRun := if l.heardNow then l.beaconRun else l.beaconRun + 1
      heardNow := true
      beaconMiss := 0 }
  let phi := phiC s
  let own : Int := ((s.clk.count : Int) * 65536 + f.stamp - phi) / 65536 + (if 32768 ≤ phi then 1 else 0)
  let s := s.modLnk fun l => { l with dc := dcOf phi }
  if s.lnk.st = .listen && s.lnk.beaconRun < 3 then s
  else s.modLnk fun l =>
    { l with st := if l.st = .listen then .synced else l.st, countDiff := (count : Int) - own, beaconAt := own.toNat }

/-- BEACON_RX: a valid copy; JOINED hubs hear it only where their DEPTH predicts it; a coordinator that hears one of a lower node ID
stops (18 R614, R615). -/
def execBeaconRx (f : AcFrame) (hop : Nat) (s : State) : Host.Outcome State Fault Refusal :=
  .next <|
    match lnkAccept f s with
    | (false, s) => s
    | (true, s) =>
      if s.lnk.st = .coord then if f.body.getD 0 0 < nodeId s then coordStops (f.body.getD 0 0) s else s
      else if s.lnk.st = .joined && decide (2048 < (wrapPu ((copyPhi s hop f.stamp : Int) - phiC s)).natAbs) then s
      else beaconHeard f hop s

/-! The tree (18 R618, R622). -/

/-- A neighbour is eligible as parent (18 R622). -/
def eligible (n : Neigh) : Bool := n.relay && decide (n.depth ≤ 5) && decide (3 ≤ ((n.heard.take 4).filter id).length)

/-- The better parent: lower DEPTH, then higher quality, then lower node ID (18 R622). -/
def betterParent (a b : Neigh) : Bool :=
  decide (a.depth < b.depth) || (a.depth == b.depth && (decide (b.quality < a.quality) || (a.quality == b.quality && decide (a.node < b.node))))

def bestParent (s : State) : Option Neigh :=
  (s.lnk.neigh.filter eligible).foldl (fun best n => match best with
    | some b => if betterParent n b then some n else some b
    | none => some n) none

/-- Follow a parent. -/
def followParent (n : Neigh) (s : State) : State := s.modLnk fun l => { l with parent := n.node, depth := n.depth + 1 }

/-- The parent is chosen again, event 0x30A5; without an eligible one the hub is SYNCED (18 R618). -/
def chooseAgain (s : State) : State :=
  let old := s.lnk.parent
  match bestParent s with
  | some n => raise 0x30A5 5 255 (old * 2 ^ 24 + n.node * 2 ^ 16) (followParent n s)
  | none =>
    setIsland true (raise 0x30A5 5 255 (old * 2 ^ 24 + 255 * 2 ^ 16)
      (s.modLnk fun l => { l with st := .synced, depth := 255, parent := 255 }))

/-- PARENT_LOST at an epoch boundary: the parent's share frame was missing in 2 consecutive epochs (18 R618). -/
def execParentLost (s : State) : Host.Outcome State Fault Refusal :=
  .next <|
    let gone := match neighOf s s.lnk.parent with
      | some n => ((n.heard.drop 1).take 2).all (! ·)
      | none => true
    if lnkUp s && s.lnk.st = .joined && s.clk.count % 64 = 0 && gone then chooseAgain s else s

/-- A SYNCED hub joins when the counts agree, the phase tolerance is met and a parent is eligible, event 0x30A0; event 0x30A7 after 3
epochs out of tolerance (18 R618). -/
def tryJoin (s : State) : State :=
  if !inTolerance s then
    let n := s.lnk.tolBad + 1
    raiseIf (n == 3) 0x30A7 5 255 (twos 32 (roundRat (phaseErr s))) (s.modLnk fun l => { l with tolBad := if n = 3 then 0 else n })
  else
    let s := s.modLnk fun l => { l with tolBad := 0 }
    match bestParent s with
    | some n =>
      if s.lnk.countDiff = 0 then
        let s := setIsland false (followParent n (s.modLnk fun l => { l with st := .joined }))
        raise 0x30A0 5 255 (s.lnk.depth * 2 ^ 24 + n.node * 2 ^ 16 + s.lnk.coord * 2 ^ 8) s
      else s
    | none => s

/-- A JOINED hub changes its parent only for a lower DEPTH, or an equal one with 3 dB more (18 R622); its DEPTH follows its parent's. -/
def keepParent (s : State) : State :=
  match neighOf s s.lnk.parent, bestParent s with
  | some p, some n =>
    if n.node ≠ p.node && (n.depth < p.depth || (n.depth = p.depth && p.quality + 6 ≤ n.quality)) then
      raise 0x30A5 5 255 (p.node * 2 ^ 24 + n.node * 2 ^ 16) (followParent n s)
    else if p.depth ≤ 5 then followParent p s else s
  | some p, none => if p.depth ≤ 5 then followParent p s else s
  | none, _ => s

/-- NEIGHBOUR_UPDATE at an epoch boundary: silent neighbours and descendants leave, the hub joins or keeps its parent, the DEPTH of the
epoch is fixed, and a new epoch of hearing begins (18 R618, R620, R622, R623). -/
def linkEpoch (s : State) : State :=
  let e := s.clk.count / 64
  let s := s.modLnk fun l =>
    { l with
      islandEpochs := if l.island then l.islandEpochs + 1 else l.islandEpochs
      neigh := l.neigh.filter fun n => n.heard.any id
      children := l.children.filter fun c => decide (e < c.epoch + 3)
      demands := l.demands.filter fun d => decide (e < d.epoch + 6)
      countSeen := 0
      claimant := 255 }
  let s := match s.lnk.st with
    | .synced => tryJoin s
    | .joined => keepParent s
    | _ => s
  s.modLnk fun l =>
    { l with epochDepth := l.depth, neigh := l.neigh.map fun n => { n with heard := (false :: n.heard).take 4 } }

/-! Share frames (18 R619, R620, R602). -/

/-- The hub sets CLAIM (18 R616). -/
def claims (s : State) : Bool := s.lnk.st == .joined && coordCapable s && decide (nodeId s < s.lnk.coord)

/-- Share frame body (18 Table 18.5). -/
def shareBody (s : State) (d : Demand) : List Nat :=
  let ahead := decide (s.lnk.countDiff < 0)
  let depth := s.lnk.depth
  [depth, if depth = 0 || depth = 255 then nodeId s else s.lnk.parent, s.lnk.coord,
   b2n (coordCapable s) + 2 * cfg s 0x60 0 0 95 95 + 4 * b2n (claims s) + 8 * b2n s.lnk.island + 16 * b2n ahead]
    ++ bytesLE 2 (phaseP s) ++ bytesLE 8 s.life.serial ++ bytesLE 4 (mbIdent s)
    ++ bytesLE 8 (if ahead then s.clk.count else estCount s) ++ demandBytes d

/-- The link cycle of the epoch in which a node's share slot falls (18 Table 18.2). -/
def shareCycle (node : Nat) : Nat := 4 * (node / 16) + (6 + node % 16) / 12

/-- SHARE_FRAME_SEND: one share frame in the hub's share slot of every epoch (18 R619). -/
def execShareFrameSend (s : State) : Host.Outcome State Fault Refusal :=
  .next <|
    let e := estCount s / 64
    match s.share.sent.find? fun d => d.epoch == s.clk.count / 64 with
    | none => s
    | some d =>
      if !lnkUp s || s.lnk.st == .listen || s.lnk.sharedEpoch == some e || estCount s % 64 ≠ shareCycle (nodeId s) then s
      else
        sendBroadcast 1 (estCount s / 4) { kind := 11, orig := nodeId s, bcastFinal := true, hops := 0, body := shareBody s d }
          (s.modLnk fun l => { l with sharedEpoch := some e })

/-- Quality of a neighbour: mean received level over the on-carriers less the class 1 noise, in 0.5 dB (18 R620). -/
def qualityOf (s : State) (node : Nat) : Nat :=
  let on := onCarriers s
  let ls : List Rat := on.map fun k => (levelOf s node (k - 74) : Rat)
  let lev : Rat := if on.isEmpty then 0 else ls.foldl (· + ·) 0 / (on.length : Rat)
  let c1 := (List.range 6).filter fun σ => s.phy.classMap.toList.getD σ 1 == 1
  let ns : List Rat := c1.map fun σ => (meanNoise s σ : Rat)
  let noise : Rat := if c1.isEmpty then 0 else ns.foldl (· + ·) 0 / (c1.length : Rat)
  min 255 (truncRat ((lev - noise) / 16)).toNat

/-- Relative phase step of a neighbour, none outside ±2 048 pu (18 R620). -/
def phaseStep (s : State) (phase : Nat) : Option Nat :=
  let rel := (phase + 65536 - phaseP s) % 65536
  let k := (roundRat ((rel : Rat) * 6 / 65536)).toNat
  let d := (rel : Rat) - (k : Rat) * 65536 / 6
  if -2048 ≤ d ∧ d ≤ 2048 then some (k % 6) else none

/-- An entry for a node: its own, a free one, or that of lowest quality silent for 4 epochs; none: event 0x30AE once per epoch
(18 R620, R636). -/
def neighRoom (node : Nat) (s : State) : Bool × State :=
  if (neighOf s node).isSome then (true, s)
  else if s.lnk.neigh.length < 32 then (true, s.modLnk fun l => { l with neigh := l.neigh ++ [{ node }] })
  else
    let quiet := s.lnk.neigh.filter fun n => !(n.heard.any id)
    match quiet.foldl (fun (b : Option Neigh) n => match b with
        | some x => if n.quality < x.quality then some n else some x
        | none => some n) none with
    | some x => (true, s.modLnk fun l => { l with neigh := (l.neigh.filter fun n => n.node != x.node) ++ [{ node }] })
    | none =>
      let e := s.clk.count / 64
      if s.lnk.fullEpoch = e then (false, s) else (false, raise 0x30AE 5 255 node (s.modLnk fun l => { l with fullEpoch := e }))

/-- COUNT_SEEN of a node: ignored with event 0x30AC when over 2^32 cy above the estate count; a coordinator aligns forward, others
forward the highest (18 R617). -/
def takeCountSeen (node seen : Nat) (s : State) : State :=
  if estCount s + 2 ^ 32 < seen then raise 0x30AC 5 255 (node * 2 ^ 24) s
  else if s.lnk.st = .coord then
    if s.clk.count < seen then s.modLnk fun l => { l with countDiff := max l.countDiff ((seen : Int) - s.clk.count) } else s
  else s.modLnk fun l => { l with countSeen := max l.countSeen seen }

/-- Keep a demand record for collection (18 R619, R632). -/
def keepDemand (d : Demand) (s : State) : State :=
  s.modLnk fun l =>
    if l.demands.any fun x => x.node == d.node && x.epoch == d.epoch && { x with acked := false } == d then l
    else { l with demands := (l.demands.filter fun x => !(x.node == d.node && x.epoch == d.epoch)) ++ [d] }

/-- The epoch whose low 32 bits are given, near the present one. -/
def nearEpoch (s : State) (low : Nat) : Nat := s.clk.count / 64 / 2 ^ 32 * 2 ^ 32 + low % 2 ^ 32

/-- SHARE_FRAME_RX: the neighbour's entry, its phase with event 0x30A6 on a change, its demand record, its count and its coordinator
(18 R615, R617, R619, R620). -/
def execShareFrameRx (f : AcFrame) (s : State) : Host.Outcome State Fault Refusal :=
  .next <|
    match lnkAccept f s with
    | (false, s) => s
    | (true, s) =>
      let b := f.body
      let flags := b.getD 3 0
      let phase := natLE ((b.drop 4).take 2)
      let s := keepDemand (demandOfBytes (estCount s / 64) ((b.drop 26).take 8)) s
      let (room, s) := neighRoom f.src s
      let k := phaseStep s phase
      let old := (neighOf s f.src).bind (·.k)
      let q := qualityOf s f.src
      let s := if !room then s else modNeigh f.src (fun n =>
        { n with depth := b.getD 0 255, parent := b.getD 1 0, relay := bitOf flags 1, phase, k, quality := q,
                 serial := natLE ((b.drop 6).take 8), ident := natLE ((b.drop 14).take 4), heard := true :: n.heard.drop 1,
                 lastCount := s.clk.count }) s
      let s := match k with
        | some k => raiseIf (room && old != some k) 0x30A6 5 255
            (f.src * 2 ^ 24 + conductorOf (rotPositive s) k * 16 + (k % 2) * 8) s
        | none => s
      let s := if bitOf flags 4 then takeCountSeen f.src (natLE ((b.drop 18).take 8)) s else s
      let s := if bitOf flags 2 then s.modLnk (fun l => { l with claimant := min l.claimant f.src }) else s
      if s.lnk.st = .coord && decide (b.getD 2 255 < nodeId s) then coordStops (b.getD 2 255) s else s

/-! Messages (18 R629, R630). -/

/-- Forward a message one hop on: HOPS falls by one, at 0 it is dropped (18 R630). -/
def forwardTo (dst kind : Nat) (f : AcFrame) (body : List Nat) (s : State) : State :=
  if f.hops ≤ 1 then lnkDrop 1 f.msgId s
  else lnkQueue { dst, kind, msgId := f.msgId, orig := f.orig, final := f.final, bcastFinal := f.bcastFinal, hops := f.hops - 1, body } s

/-- LNK takes a frame of a message: accepted, reassembled, delivered here, forwarded, or both for a broadcast message, once per ORIG and
MSG_ID in 3 000 cy (18 R629, R630). -/
def takeMsg (kind : Nat) (f : AcFrame) (act : List Nat → State → State) (s : State) : State :=
  match lnkAccept f s with
  | (false, s) => s
  | (true, s) =>
    match reassemble f s with
    | (none, s) => s
    | (some body, s) =>
      if f.bcastFinal then
        let now := s.clk.bndTot
        let dup := s.lnk.dup.filter fun d => decide (now < d.2.2 + 3000)
        let seen := f.orig == nodeId s || dup.any fun d => d.1 == f.orig && d.2.1 == f.msgId
        let s := s.modLnk fun l => { l with dup := if seen then dup else dup ++ [(f.orig, f.msgId, now)] }
        if seen then s else act body (((treeHops s).filter (· != f.src)).foldl (fun s d => forwardTo d kind f body s) s)
      else if f.final = nodeId s then act body s
      else match nextHop s f.final with
        | some d => forwardTo d kind f body s
        | none => lnkDrop 4 f.msgId s

/-! Tone maps (18 R624 to R626). -/

/-- The boundary from which committed maps are in use: the next superframe, or one later when the acknowledgement falls in link slot 47
or 0 to 5 (18 R625). -/
def commitBnd (s : State) (q : Nat) : Nat :=
  s.clk.bndTot + (4 - estCount s % 4) + (if q = 47 ∨ q ≤ 5 then 4 else 0)

/-- Commit the maps of an exchange, event 0x30A8 for each (18 R625). -/
def commitWith (peer q : Nat) (sending : Bool) (gens : List Nat) (s : State) : State :=
  let ms := (mapsPending s peer sending).filter fun m => gens.contains (tmGen m.words)
  let s := commitMaps peer (commitBnd s q) sending gens s
  let s := modNeigh peer (fun n => { n with robo := false, tmGen := (ms.map fun m => tmGen m.words).foldl max n.tmGen }) s
  ms.foldl (fun s m =>
    raise 0x30A8 5 255 (peer * 2 ^ 24 + tmTmi m.words * 2 ^ 20 + tmClass m.words * 2 ^ 16 + tmGen m.words % 2 ^ 16) s) s

/-- The lowest TMI values that no receiving map for a node uses (18 R624). -/
def freeTmis (s : State) (node : Nat) : List Nat :=
  (List.range 16).filter fun t => t != 0 && !(s.phy.maps.any fun m => m.peer == node && !m.sending && tmTmi m.words == t)

/-- TM_REQ: the receiver computes a map per class in use, holds them as pending and answers with TM_OFFER (18 R624). -/
def execTmReq (f : AcFrame) (s : State) : Host.Outcome State Fault Refusal :=
  .next <| takeMsg 3 f (fun _ s =>
    let a := f.orig
    let s := s.modPhy fun p => { p with maps := p.maps.filter fun m => !(m.peer == a && !m.sending && !m.inUse && m.commitAt == 0) }
    let tmis := freeTmis s a
    let gen := ((neighOf s a).map (·.genLast)).getD 0 + 1
    let loads := (classesUsed s).filterMap fun c => (loadClass s a c).map fun r => (c, r)
    let cm := classMapBits s.phy.classMap
    let maps := (loads.zip tmis).map fun e => tmWords e.2 e.1.2.1 e.1.1 cm gen a (nodeId s) e.1.2.2
    let s := modNeigh a (fun n => { n with genLast := gen }) s
    let s := maps.foldl (fun s m => (loadMap m false s).2) s
    lnkTo 4 a (maps.flatMap wordsBytes) s) s

/-- Maps of an offer: eleven words each. -/
def offerMaps (body : List Nat) : List (List W128) :=
  (List.range (body.length / 176)).map fun k => bytesWords 11 ((body.drop (176 * k)).take 176)

/-- TM_OFFER: the sender loads the maps and answers with TM_ACK, which holds the GEN of each accepted one (18 R624). -/
def execTmOffer (f : AcFrame) (s : State) : Host.Outcome State Fault Refusal :=
  .next <| takeMsg 4 f (fun body s =>
    let b := f.orig
    let s := s.modPhy fun p => { p with maps := p.maps.filter fun m => !(m.peer == b && m.sending && !m.inUse && m.commitAt == 0) }
    let r := (offerMaps body).foldl (fun (acc : List Nat × State) m =>
      match loadMap m true acc.2 with
      | (true, s) => (acc.1 ++ [tmGen m], s)
      | (false, s) => (acc.1, s)) ([], s)
    lnkTo 5 b (r.1.flatMap (bytesLE 4)) r.2) s

/-- Generations in a TM_ACK body. -/
def ackGens (body : List Nat) : List Nat := (List.range (body.length / 4)).map fun k => natLE ((body.drop (4 * k)).take 4)

/-- TM_ACK: the receiver commits with the acknowledgement that it sends, in link slot q (18 R625). -/
def execTmAck (f : AcFrame) (q : Fin 48) (s : State) : Host.Outcome State Fault Refusal :=
  .next <| takeMsg 5 f (fun body s => commitWith f.orig q.val false (ackGens body) s) s

/-- New maps are due from a neighbour: none in use, 2 048 cy since the last commit, too many failed blocks, or a changed class map
(18 R626). -/
def refreshDue (s : State) (node : Nat) : Bool :=
  let ms := s.phy.maps.filter fun m => m.peer == node && m.sending && m.inUse
  ms.isEmpty || ms.any fun m =>
    decide (m.commitAt + 2048 ≤ s.clk.bndTot) || decide (m.commitAt < s.phy.classAt)
      || decide (cfg s 0x60 0 0 87 80 * m.errWin.length < 100 * (m.errWin.filter id).length)

/-- TONE_MAP_REFRESH: the sender asks a neighbour for new maps, with a sound frame of 8 symbols first when the neighbour has received
fewer than 16 frames from it in 256 cy (18 R624, R626). -/
def execToneMapRefresh (node : Nat) (few : Bool) (s : State) : Host.Outcome State Fault Refusal :=
  .next <|
    if !lnkUp s || (neighOf s node).isNone || !refreshDue s node || s.lnk.queue.any (fun m => m.kind == 3 && m.dst == node) then s
    else
      let c := couplerFor s node (estCount s / 4)
      let sound : TxReq := { coupler := c, fc := BitVec.ofNat 128 (fcWord 3 (nodeId s) node false 0 8 0 c 0), blocks := [] }
      lnkTo 3 node [] (if few then phyReq sound s else s)

/-- ACRAD_ACK_RX in link slot q: STATUS 0 completes the frame and its effects, the records of a COLLECT and the commit of a TM_ACK; any
other STATUS sends it again (18 R625, R628, R632). -/
def execAcradAckRx (node fseq status : Nat) (q : Fin 48) (s : State) : Host.Outcome State Fault Refusal :=
  .next <|
    match outFrame s node fseq with
    | none => s
    | some m =>
      if !lnkUp s then s
      else if status ≠ 0 then txFailed m (blockResults m (status == 1) s)
      else
        let s := blockResults m false (s.modLnk fun l => { l with out := l.out.erase m, cw := 8 })
        let s := modNeigh node (fun n => { n with fails := 0 }) s
        if m.kind = 5 then commitWith node q.val true (ackGens m.body) s
        else if m.kind = 1 then
          let e := natLE ((m.body.drop 10).take 4)
          let ids := (List.range (m.body.getD 9 0)).map fun k => m.body.getD (14 + 8 * k) 0
          s.modLnk fun l => { l with demands := l.demands.map fun d =>
            if d.epoch % 2 ^ 32 == e && ids.contains d.node then { d with acked := true } else d }
        else s

/-! Collection and bundles (18 R616, R617, R632, R633). -/

/-- Records that the parent has not yet acknowledged, of the oldest epoch still open (18 R632). At most 123 go into one COLLECT. -/
def collectDue (s : State) : Option (Nat × List Demand) :=
  let isOpen := fun (d : Demand) => !d.acked && decide (s.clk.count < 64 * (d.epoch + 1) + 32)
  match s.lnk.demands.filter isOpen with
  | [] => none
  | d :: ds =>
    let e := ds.foldl (fun m x => min m x.epoch) d.epoch
    some (e, ((d :: ds).filter fun x => x.epoch == e).take 123)

/-- COLLECT body (18 Table 18.7). -/
def collectBody (s : State) (e : Nat) (ds : List Demand) : List Nat :=
  let own := if s.lnk.countDiff < 0 then s.clk.count else estCount s
  bytesLE 8 (max own s.lnk.countSeen) ++ [min (if claims s then nodeId s else 255) s.lnk.claimant, ds.length] ++ bytesLE 4 e
    ++ ds.flatMap demandBytes

/-- A JOINED hub queues a COLLECT to its parent while none is under way (18 R632). -/
def sendCollect (s : State) : State :=
  let busy := s.lnk.queue.any (·.kind == 1) || s.lnk.out.any (·.kind == 1)
  if s.lnk.st != .joined || busy || s.lnk.parent = 255 then s
  else match collectDue s with
    | some (e, ds) => lnkTo 1 s.lnk.parent (collectBody s e ds) s
    | none => s

/-- A coordinator announces the lowest claimant, with HANDOVER_EPOCH two epochs ahead (18 R616). -/
def announceClaim (claimant : Nat) (s : State) : State :=
  if s.lnk.st = .coord && decide (claimant < nodeId s) && s.lnk.handover.isNone then
    s.modLnk fun l => { l with handover := some (s.clk.count / 64 + 2, claimant), nextCoord := claimant }
  else s

/-- COLLECT: records, descendants, the highest count and the lowest claimant of the subtree (18 R616, R617, R623, R632). -/
def execCollectMsg (f : AcFrame) (s : State) : Host.Outcome State Fault Refusal :=
  .next <| takeMsg 1 f (fun body s =>
    let e := nearEpoch s (natLE ((body.drop 10).take 4))
    let ds := (List.range (body.getD 9 0)).map fun k => demandOfBytes e ((body.drop (14 + 8 * k)).take 8)
    let s := ds.foldl (fun s d => keepDemand d s) s
    let s := s.modLnk fun l =>
      { l with
        children := ds.foldl (fun cs d => (cs.filter fun c => c.node != d.node) ++ [{ node := d.node, via := f.src, epoch := s.clk.count / 64 }]) l.children
        claimant := min l.claimant (body.getD 8 255) }
    announceClaim s.lnk.claimant (takeCountSeen f.src (natLE (body.take 8)) s)) s

/-- Bundle body: epoch, PRESENT, records in ascending node ID (18 R633). -/
def bundleBytes (e : Nat) (ds : List Demand) : List Nat :=
  let present := (List.range 32).map fun j => ((List.range 8).map fun b => if ds.any (·.node == 8 * j + b) then 2 ^ b else 0).sum
  bytesLE 4 e ++ present ++ ds.flatMap demandBytes

/-- A bundle is held: the allocation is computed (18 R633, 19 R647). -/
def holdBundle (e : Nat) (ds : List Demand) (s : State) : State :=
  if s.lnk.cancelEpoch.map (· % 2 ^ 32) = some (e % 2 ^ 32) then s
  else allocCompute e ds (s.modLnk fun l => { l with bundle := some (e, ds), bundleEpoch := e % 2 ^ 32 })

/-- BUNDLE_CLOSE: the coordinator closes the bundle of epoch e at link boundary 64(e+1)+32 with exactly the records it holds
(18 R632, R633); a handover epoch cancels it (R637). -/
def execBundleClose (s : State) : Host.Outcome State Fault Refusal :=
  .next <|
    let e := s.clk.count / 64 - 1
    if !lnkUp s || s.lnk.st != .coord || s.clk.count % 64 ≠ 32 || s.lnk.cancelEpoch.map (· % 2 ^ 32) = some (e % 2 ^ 32)
        || (s.lnk.bundle.map (·.1)) == some e then s
    else
      let ds := sortBy (·.node) (s.lnk.demands.filter fun d => d.epoch == e)
      let b := bundleBytes e ds
      let segs := (List.range ((b.length + 999) / 1000)).map fun g => (g, (b.drop (1000 * g)).take 1000)
      holdBundle e ds (s.modLnk fun l => { l with bundleOut := segs })

/-- BUNDLE_SEGMENT_SEND: segment g in link slot 22 of superframe 8 + g (18 R606, R633). -/
def execBundleSegmentSend (g : Fin 3) (s : State) : Host.Outcome State Fault Refusal :=
  .next <|
    match kget? g.val s.lnk.bundleOut with
    | none => s
    | some b =>
      if !lnkUp s || s.lnk.st != .coord || estCount s / 4 % 16 ≠ 8 + g.val then s
      else
        let last := s.lnk.bundleOut.all fun x => decide (x.1 ≤ g.val)
        sendBroadcast 1 (estCount s / 4)
          { kind := 2, orig := nodeId s, bcastFinal := true, hops := 0, frag := g.val, last, flood := true, body := b }
          (s.modLnk fun l => { l with bundleOut := l.bundleOut.filter fun x => x.1 != g.val })

/-- The records of a whole bundle. -/
def bundleRecs (e : Nat) (b : List Nat) : List Demand :=
  let n := (((b.drop 4).take 32).map fun x => ((List.range 8).filter fun j => bitOf x j).length).sum
  (List.range n).map fun k => demandOfBytes e ((b.drop (36 + 8 * k)).take 8)

/-- BUNDLE: a segment is taken, relayed at the hub's depth, and the bundle held when it is whole (18 R606, R633). -/
def execBundleSeg (f : AcFrame) (s : State) : Host.Outcome State Fault Refusal :=
  .next <|
    match lnkAccept f s with
    | (false, s) => s
    | (true, s) =>
      let d := s.lnk.epochDepth
      let relays := s.lnk.st = .joined && cfg s 0x60 0 0 95 95 = 1 && decide (1 ≤ d) && decide (d ≤ 5)
      let s := if relays then relayFrame 1 (estCount s / 4) 2 true f s else s
      let segs := kset f.frag f.body (if f.frag = 0 then [] else s.lnk.bundleIn)
      let s := s.modLnk fun l => { l with bundleIn := segs }
      let b := segs.flatMap (·.2)
      let e := nearEpoch s (natLE (b.take 4))
      let n := (((b.drop 4).take 32).map fun x => ((List.range 8).filter fun j => bitOf x j).length).sum
      if segs.head?.map (·.1) = some 0 && 36 + 8 * n = b.length then
        holdBundle e (bundleRecs e b) (s.modLnk fun l => { l with bundleIn := [] })
      else s

/-! Orders and readout (18 R634, R635). -/

/-- ORDER: an order record into the ORDER inlet, its status still owed (18 R634). The TAG of its status is the MSG_ID that brought it
(log entry 39). -/
def execOrderMsg (f : AcFrame) (s : State) : Host.Outcome State Fault Refusal :=
  .next <| takeMsg 6 f (fun body s =>
    let o : OrderRec := { words := bytesWords 272 body, src := .lnk, orig := f.orig, tag := f.msgId }
    (s.modGates fun g => { g with orderInlet := g.orderInlet ++ [o] }).modLnk fun l =>
      { l with orders := l.orders ++ [(f.orig, f.msgId, f.msgId)] }) s

/-- ORDER_STATUS: the originating RDO reports it as the order status (18 R634). -/
def execOrderStatus (f : AcFrame) (s : State) : Host.Outcome State Fault Refusal :=
  .next <| takeMsg 7 f (fun body s =>
    if s.mbus.ordMsg = some (natLE (body.take 2)) then
      s.modMbus fun m => { m with ordResult := body.getD 2 0, ordReason := body.getD 3 0 }
    else s) s

/-- READ_REQ: the hub serves the command block as a reader on the building link, under the grants with CHANNEL 1 and ORIG as the node
(18 R635). A block other than a read is malformed. -/
def execReadReq (f : AcFrame) (s : State) : Host.Outcome State Fault Refusal :=
  .next <| takeMsg 8 f (fun body s =>
    let cmd := body.getD 0 0
    let part := body.getD 1 0
    let page := natLE ((body.drop 4).take 2)
    let r := if cmd = 1 then readAnswer f.orig false page part s
      else if cmd = 2 then readAnswer f.orig true (natLE ((body.drop 8).take 8)) part s
      else (respHeader 4 7 page part 0 0 0, s)
    lnkSend 9 f.orig r.1 r.2) s

/-- READ_RSP: Y's header and data for the collector (18 R635). -/
def execReadRsp (f : AcFrame) (s : State) : Host.Outcome State Fault Refusal :=
  .next <| takeMsg 9 f (fun body s =>
    if s.mbus.proxyCmd.isSome && s.mbus.proxy = some f.orig then s.modMbus fun m => { m with proxyRsp := some body } else s) s

/-- PROXY_READ_TIMEOUT: 20 s after the command, RKIND 4 and RESULT 6 (18 R635). -/
def execProxyReadTimeout (s : State) : Host.Outcome State Fault Refusal :=
  .next <|
    if s.mbus.proxyCmd.isSome && s.mbus.proxyRsp.isNone then
      s.modMbus fun m => { m with proxyRsp := some (respHeader 4 6 0 0 0 0 0) }
    else s

/-! The cycle boundary, RUN, and the mains-loss signal. -/

/-- The link at a cycle boundary: at a superframe the run of beacons heard or missed, and a COLLECT; maps that come into use
(18 R614, R618, R625, R632). -/
def linkBoundary (s : State) : State :=
  if !lnkUp s then s
  else
    let s := mapsBoundary s
    if s.clk.count % 4 ≠ 0 then s
    else
      let s := s.modLnk fun l =>
        if l.st = .coord then { l with heardNow := false }
        else if l.heardNow then { l with heardNow := false }
        else { l with beaconRun := 0, beaconMiss := inc32 l.beaconMiss }
      let s := if s.clk.count % 64 = 32 then s.modLnk (fun l => { l with bundleIn := [] }) else s
      sendCollect s

/-- LNK begins in LISTEN at RUN or at its own restart: tables, queues and buffers empty; reservations, windows and totals stay
(18 R640; 04 R153). -/
def linkReset (s : State) : State :=
  let s := s.modLnk fun l =>
    { ({} : Lnk) with
      fctr0 := l.fctr0, fctr1 := l.fctr1, res0 := l.res0, res1 := l.res1, fkey0 := l.fkey0, fkey1 := l.fkey1, wins := l.wins
      authFail := l.authFail, dropped := l.dropped, retried := l.retried, missed := l.missed, msgNext := l.msgNext, fseqs := l.fseqs
      cplSeen := l.cplSeen }
  shareReset (fctrAtRun (phyReset s))

/-- From the rise of the mains-loss signal LNK sends nothing; frames awaiting acknowledgement are dropped without an event
(18 R640, 17 R601). -/
def linkLoss (s : State) : State := phyAbandon 2 (s.modLnk fun l => { l with queue := [], out := [], backoff := none })

end Sys2Proof.Machine
end

