-- ==== Sys2Proof/Machine/Engines.lean ====
section
/-! DEFINITION. Engines: what a restart of the hub loses and keeps, an engine that restarts alone, a lost heartbeat, a cross-world write,
and the errors that are treated as a lost heartbeat (spec/01 R46 to R48, Tables 1.11 and 1.12; spec/22 R736, R741, R743). -/

namespace Sys2Proof.Machine

/-! What a restart of the hub loses: everything but what MRAM, the life-cycle cells, the flash, the tag and the sentinel domain hold
(03 Start causes). -/

/-- The cycle clock from ACQUIRE; checkpoint, rotation and nominal frequency stand in MRAM (02 R58, R81, R83). -/
def clkDown (c : Clk) : Clk :=
  { ({} : Clk) with
    fnomMram := c.fnomMram, fnom := c.fnomMram.getD 50, rotNeg := c.rotNeg, rotKnown := c.rotKnown, ckpt := c.ckpt
    present1 := c.present1, present2 := c.present2, present3 := c.present3, rtcS := c.rtcS, rtcSub := c.rtcSub }

/-- Start and life cycle: cells, serial, seal digest and counters stand. -/
def lifeDown (cause : Nat) (l : Life) : Life :=
  { ({} : Life) with
    cells := l.cells, serial := l.serial, testFuseIntact := l.testFuseIntact, starts := l.starts, lcCount := l.lcCount
    lcRtc := l.lcRtc, digest := l.digest, cond := .start, step := 0, cause }

/-- Keys: persistent slots, root copies, replay windows and the statement stand; transient slots, queue and DRBG are volatile. -/
def keysDown (k : Keys) : Keys :=
  { ({} : Keys) with
    slots := k.slots, wrapCtr := k.wrapCtr, root := k.root, rootCopy1 := k.rootCopy1, rootCopy2 := k.rootCopy2
    pufHelper := k.pufHelper, roll := k.roll, mkgen := k.mkgen, ident := k.ident, wins := k.wins, drbgReseeds := k.drbgReseeds }

/-- The halo check: the states of a head's modulators stand, its placements end (07 R250). -/
def haloDown (slot : Fin 8) (s : State) : State :=
  (haloDrop slot s).modMeas slot fun m =>
    { ({} : HeadMeas) with halo := { ({} : Halo) with
        serial := m.halo.serial
        mods := vmap (fun x => { ({} : HaloMod) with st := if x.st = .underTest then .inService else x.st, serves := x.serves,
                                                     fails := x.fails, passes := x.passes }) m.halo.mods } }

/-- The SSMs of a hub that starts: not armed, both outputs low; the lock-out records and the last rail test stand, the external inputs
keep their levels (09 R289, R313, R322). -/
def safeDown (x : Safe) : Safe :=
  let down := fun (m : Ssm) => { ({} : Ssm) with lockRec := m.lockRec, lockOk := m.lockOk }
  { ({} : Safe) with
    a := down x.a, b := down x.b, estopA := x.estopA, estopB := x.estopB, rstReq := x.rstReq, testCount := x.testCount, testRtc := x.testRtc }

/-- The event unit: ring, numbers and journal mark stand in MRAM (22 R745, R747); events held before C0 are in SRAM. What a cycle that the
restart ended dropped is reported at the next boundary, C0 (22 R746). -/
def evDown (e : Ev) : Ev :=
  { ({} : Ev) with next := e.next, ring := e.ring, journaled := e.journaled, lost := e.lost, lostRun := e.lostRun, lostDue := e.lostDue, dropped := e.dropped }

/-- The tag: memory, field state and counters of its areas stand; what RDO holds about it is volatile. -/
def tagDown (t : Tag) : Tag :=
  { ({} : Tag) with mem := t.mem, st := t.st, latched := t.latched, bells := t.bells, wrRun := t.wrRun, pubCtr := t.pubCtr, pubN := t.pubN, gaugeN := t.gaugeN, answer := t.answer }

/-- The display: both copies of the content model and the stored record stand. -/
def epdDown (e : Epd) : Epd :=
  { ({} : Epd) with
    modelA := e.modelA, modelB := e.modelB, stored := e.stored, fullCount := e.fullCount, ll := e.ll, pwrGood := e.pwrGood }

/-- The link: frame-counter reservations, receive windows and the last keys stand (18 R640). -/
def lnkDown (l : Lnk) : Lnk :=
  { ({} : Lnk) with
    fctr0 := l.res0, fctr1 := l.res1, res0 := l.res0, res1 := l.res1, fkey0 := l.fkey0, fkey1 := l.fkey1, wins := l.wins }

/-- The hub goes down for a start with a cause: outputs of the SSMs low, everything volatile lost (03 R84, R85; 12 R441; 13; 22 R757).
A point with a lock-out is locked out at once (03 R119). The state of the heads is their own. -/
def hubDown (cause : Nat) (s : State) : State :=
  let s := (finList 8).foldl (fun s (k : Fin 8) => haloDown k s) s
  let s :=
    { s with
      eng := {}, gates := {}, clk := clkDown s.clk, life := lifeDown cause s.life, keys := keysDown s.keys
      img := { ({} : Img) with estateMram := s.img.estateMram, sentinelMram := s.img.sentinelMram }
      flash := { s.flash with busy := none }
      ports := Vector.replicate 8 {}, met := {}
      pmet := vmap (fun (x : PtMet) => { ({} : PtMet) with copyA := x.copyA, copyB := x.copyB }) s.pmet
      safe := safeDown s.safe
      cp := vmap (fun (x : PtCp) => { ({} : PtCp) with service := x.service }) s.cp
      plc := Vector.replicate 32 {}
      pipes := vmap (fun (x : Pipes) => { ({} : Pipes) with serial := x.serial, pipes := x.pipes }) s.pipes
      ses := Vector.replicate 32 {}
      sesSys := { ({} : SesSys) with nextNo := s.sesSys.nextNo, exhausted := s.sesSys.exhausted }
      auth := Vector.replicate 32 {}
      authSys := { ({} : AuthSys) with replay := s.authSys.replay, fullRefusals := s.authSys.fullRefusals }
      mbus := {}, tag := tagDown s.tag
      phy := { ({} : Phy) with vldOk := s.phy.vldOk, thermal := s.phy.thermal }
      lnk := lnkDown s.lnk, share := {}, epd := epdDown s.epd, ev := evDown s.ev }
  let s := (finList 32).foldl (fun s (i : Fin 32) =>
    s.modPsafe i fun _ => { ({} : PtSafe) with st := if lockCause s i = 0 then .opened else .lockedOut }) s
  s

/-! An engine restarts (01 R46, R47). -/

/-- Engine with an ID. -/
def engOfId (n : Nat) : Option EngineId :=
  match n with
  | 1 => some .boot | 2 => some .met | 3 => some .led | 4 => some .ses | 5 => some .lnk | 6 => some .rdo | 7 => some .dsp | 8 => some .sen
  | _ => none

/-- Engine ID (01 Table 1.3). -/
def engId : EngineId → Nat
  | .boot => 1 | .met => 2 | .led => 3 | .ses => 4 | .lnk => 5 | .rdo => 6 | .dsp => 7 | .sen => 8

/-- Index of an engine in the table of heartbeats. -/
def engIdx (e : EngineId) : Fin 8 :=
  match e with
  | .boot => 0 | .met => 1 | .led => 2 | .ses => 3 | .lnk => 4 | .rdo => 5 | .dsp => 6 | .sen => 7

/-- Engines that run and post a heartbeat, by hub condition (01 R46, Table 1.12): SEN posts none. -/
def engRuns (c : Cond) (e : EngineId) : Bool :=
  match c, e with
  | _, .sen => false
  | .run, _ => true
  | .start, .boot => true
  | .noConfig, .boot | .noConfig, .led | .noConfig, .rdo | .noConfig, .dsp => true
  | .retired, .boot | .retired, .led | .retired, .rdo | .retired, .dsp => true
  | _, _ => false

/-- Row steps in the banks of an engine that restarts alone end; those rows are taken again at their next turn (22 R753). -/
def endRowSteps (e : EngineId) (s : State) : State :=
  (finList 32).foldl (fun s (b : Fin 32) =>
    if Config.bankEngine b.val = engId e then modBank b (fun k => { k with testing := false }) s else s) s

/-- SES restarts: its banks are cleared, its points come back out-of-service (01 Table 1.11; 10 R368). -/
def sesRestart (s : State) : State :=
  let s := (finList 32).foldl (fun s (i : Fin 32) =>
    let old := s.cp[i]
    let was := old.pst
    let s := closeContext i s
    let s := s.modCp i fun x => { ({} : PtCp) with service := x.service, sessions := x.sessions, lockFaults := x.lockFaults, cpFaults := x.cpFaults, returns := x.returns }
    let s := s.modPlc i fun _ => {}
    let s := s.modAuth i fun _ => {}
    if was = .absent then s
    else
      let s := s.modCp i fun x => { x with pst := .outOfService, pstAt := s.clk.count, outSince := s.clk.bndTot }
      raiseIf (was != .outOfService) 0x4102 4 i.val 2 s) s
  let s := s.modSesSys fun y => { y with admission := [], handshakes := [] }
  let s := s.modKeys fun k => { k with trans := k.trans.filter fun t => t.owner != EngineId.ses
                                       queue := k.queue.filter fun j => j.owner != EngHalf.ses }
  s.modAuthSys fun a => { a with result := [] }

/-- An engine that restarts alone, other than SES, clears what its banks held (01 R47). LNK goes back to LISTEN as an island (Table 1.11);
RDO loses its M-Bus latch, its assemblies and its windows; DSP rebuilds the board from the stored model. -/
def clearEngine (e : EngineId) (s : State) : State :=
  match e with
  | .ses => sesRestart s
  | .lnk => linkReset s
  | .rdo =>
    let s := s.modMbus fun m =>
      { ({} : Mbus) with baud := m.baud, telegrams := m.telegrams, errors := m.errors, mode5Fail := m.mode5Fail, refused := m.refused, orders := m.orders }
    s.modTag fun t => { t with wins := Vector.replicate 8 {}, reqQ := [], tokQ := [], retry := [] }
  | .dsp => if s.life.cond = .run then epdRelease false s else epdRom s
  | _ => s

/-- ENGINE_RESTART: the engine restarts alone with event 0x9011; a fifth restart within 3 000 cy restarts the hub instead (01 R47). -/
def restartAlone (e : EngineId) (s : State) : State :=
  let k := engIdx e
  let now := s.clk.bndTot
  let recent := s.eng.sts[k].restarts.filter fun b => decide (now < b + 3000)
  if 4 ≤ recent.length then hubDown 4 s
  else
    let s := s.modEng fun x => { x with sts := x.sts.set k { missed := 0, restarts := now :: recent } }
    clearEngine e (endRowSteps e (raise 0x9011 1 255 (srcOf e) s))

/-- The reaction to a lost heartbeat of an engine: event 0x9010, then by engine (01 R46, Table 1.11). The rail cause is 0x20. -/
def engineLost (e : EngineId) (s : State) : State :=
  let s := raise 0x9010 0x10 255 (srcOf e) s
  match e with
  | .boot | .met | .led => hubDown 3 (railOpen 0x20 (s.modSafe fun x => { x with railCause := 0x20 }))
  | .ses =>
    let s := railOpen 0x20 (s.modSafe fun x => { x with railCause := 0x20, rearm := true })
    restartAlone .ses ((finList 32).foldl (fun s (i : Fin 32) => if bound s i || (startWaits s i).isSome then sesEnd i 8 s else s) s)
  | .sen => s
  | _ => restartAlone e s

/-- HEARTBEAT_LOST: no heartbeat has come from a running engine at three consecutive cycle boundaries (01 R46). -/
def execHeartbeatLost (e : EngineId) (s : State) : Host.Outcome State Fault Refusal :=
  .next <|
    if engRuns s.life.cond e && decide (3 ≤ s.eng.sts[engIdx e].missed) then
      engineLost e (s.modEng fun x => { x with sts := x.sts.set (engIdx e) { x.sts[engIdx e] with missed := 0 } })
    else s

/-- CROSS_WORLD_WRITE: a write of a communication engine into metrology-world memory is blocked, event 0x6001 with the engine's source
code and the low 32 bits of the address, then the reaction to its lost heartbeat (01 R25, R48). The engine is named by the event's source
field, the address by its argument (log entry 41). DEDUCED. -/
def execCrossWorldWrite (e : EngineId) (addr : Nat) (s : State) : Host.Outcome State Fault Refusal :=
  .next <|
    if !engRuns s.life.cond e then s
    else
      match e with
      | .met | .led | .sen | .boot => s
      | _ =>
        let s := s.modEng fun x => { x with blockedWrites := x.blockedWrites + 1 }
        engineLost e (raise 0x6001 (srcOf e) 255 (addr % 2 ^ 32) s)

/-! Errors of the fabric that reach an engine (22 R736, R741, R743). -/

/-- LANE_RESIDUE_ERROR: the job runs again and the lane becomes SUSPECT; at the next cycle boundary a free spare takes its position, or it
stays in service; a second error in one cycle is a lost heartbeat of MET (22 R736). In a return dual run the spare keeps the position.
A lane that holds no position and shadows none runs no job. -/
def execLaneResidueError (l : Fin 18) (s : State) : Host.Outcome State Fault Refusal :=
  .next <|
    let e := s.fab.lanes[l]
    let inReturn := s.fab.ret.phase = 4 && (s.fab.ret.lane = l.val || s.fab.ret.spare = l.val)
    if (e.pos.isNone && !inReturn) || s.life.cond != .run then s
    else
      let s := modLane l (fun x => { x with residue := inc16 x.residue, resCy := x.resCy + 1 }) s
      let s := s.modFab fun f => { f with residue := inc32 f.residue }
      if 2 ≤ e.resCy + 1 then engineLost .met s
      else if inReturn then s.modFab fun f => { f with ret := { f.ret with phase := 5 } }
      else (modLane l (fun x => { x with st := .suspect }) s).modFab fun f =>
        { f with takeDue := if f.takeDue.any (·.1 == l.val) then f.takeDue else f.takeDue ++ [(l.val, true)] }

/-- SRAM_UNCORRECTABLE_ERROR: event 0x9033, and the owning engine is treated as if its heartbeat were lost; for a bank of no single engine
the reaction is that for MET (22 R741). -/
def execSramUncorrectableError (bank : Fin 32) (row : Nat) (s : State) : Host.Outcome State Fault Refusal :=
  .next <|
    if 512 ≤ row || !s.elec.supplyOk then s
    else
      let e := (engOfId (Config.bankEngine bank.val)).getD .met
      let s := modBank bank (fun k => { k with ue := inc32 k.ue }) s
      engineLost e (raise 0x9033 1 255 (bank.val * 2 ^ 24 + row * 2 ^ 12 + srcOf e) s)

/-- The structure that an uncorrectable MRAM word belongs to reads as a CRC failure: the recovery of that structure applies (22 R743). -/
def structBad (w : MramStruct) (s : State) : State :=
  match w with
  | .lockRecA => s.modSafe fun x => { x with a := { x.a with lockOk := false } }
  | .lockRecB => s.modSafe fun x => { x with b := { x.b with lockOk := false } }
  | .regsA i => s.modPmet i fun x => { x with copyA := { x.copyA with written := false } }
  | .regsB i => s.modPmet i fun x => { x with copyB := { x.copyB with written := false } }
  | .rootCopy1 => s.modKeys fun k => { k with rootCopy1 := false }
  | .rootCopy2 => s.modKeys fun k => { k with rootCopy2 := false }
  | .modelA => s.modEpd fun e => { e with modelA := { e.modelA with good := false } }
  | .modelB => s.modEpd fun e => { e with modelB := { e.modelB with good := false } }
  | .keySlot k => s.modKeys fun x => { x with slots := x.slots.set k { x.slots[k] with status := .fault } }
  | .checkpoint => s.modClk fun c => { c with ckpt := none }
  | .other => s

/-- MRAM_UNCORRECTABLE_ERROR: event 0x9054 with the low 32 bits of the word address; the word reads as a CRC failure of the structure that
holds it (22 R743). -/
def execMramUncorrectableError (addr : Nat) (w : MramStruct) (s : State) : Host.Outcome State Fault Refusal :=
  .next <|
    if !s.elec.supplyOk then s
    else structBad w (raise 0x9054 1 255 (addr % 2 ^ 32) (s.modFab fun f => { f with bue := inc32 f.bue }))

end Sys2Proof.Machine
end

