-- ==== Sys2Proof/Machine/Sessions.lean ====
section
/-! DEFINITION. ISO 15118 sessions: SDP, TCP, TLS, the messages of both editions, timeouts and overdraw (spec/12). What a message
carries and whether it verifies is an operand of its command (log entry 5). -/

namespace Sys2Proof.Machine

/-! Records and values (12 R403, R405, R423 to R427). -/

/-- Enabled protocols of the V2G record by code: 1 -2, 2 -20 AC, 3 -20 AC_BPT. -/
def v2gProto (s : State) (p : Nat) : Bool := 1 ≤ p && p ≤ 3 && bitOf (v2g s 0 127 125) (3 - p)
def v2gEim (s : State) : Bool := v2g s 0 123 123 == 1
def v2gPnc (s : State) : Bool := v2g s 0 122 122 == 1
def v2gReceipt (s : State) : Bool := v2g s 0 120 120 == 1
def v2gPort (s : State) : Nat := v2g s 0 111 96
def v2gUnom (s : State) : Nat := v2g s 0 95 80

/-- Message kinds of an answer as `PtSes.answer` keeps them: 1 supportedAppProtocol, 2 SessionSetup, 3 service selection, 4 payment
details, 5 Authorization, 6 charge parameter, 7 charge loop, 8 metering receipt, 9 session stop, 10 certificate installation. Codes:
0 OK, 1 FAILED, 2 UnknownSession, 3 SequenceError, 4 service selection failure, 5 certificate chain error, 6 no negotiation,
7 signature error (log entry 29). -/
def answerOk : Nat := 0

/-- Phases of a point as a number. -/
def phasesOf (s : State) (i : Fin 32) : Nat := if ptPhases s i.val = 3 then 3 else 1

/-- Ceiling as reported: 0 below 6.0 A (12 R424). -/
def ceilSent (s : State) (i : Fin 32) : Nat := if s.cp[i].ceil < 60 then 0 else s.cp[i].ceil

/-- Power of a current in 0.1 A, W (12 R423). -/
def powerOf (s : State) (i : Fin 32) (c : Nat) : Nat := c * v2gUnom s * phasesOf s i / 10

/-- A power value and its equal parts on L1 to L3 (12 R423). -/
def split3 (s : State) (i : Fin 32) (p : Int) : List Nat :=
  twos 32 p :: (if phasesOf s i = 3 then List.replicate 3 (twos 32 (Int.tdiv p 3)) else [])

/-- Export ceiling: under AC_BPT with BIDIR_EN the minimum of EXP_MAX, the cable capability and the derating ceiling (12 R425). -/
def exportCeil (s : State) (i : Fin 32) : Nat :=
  if s.ses[i].proto ≠ 3 || !ptBidir s i.val then 0
  else
    let cable := if ptTethered s i.val then some (ptCableMax s i.val)
      else if cableOk s.cp[i].cable then some (10 * cableAmps s.cp[i].cable) else none
    capWith (capWith (ptExpMax s i.val) cable) s.psafe[i].ceilT

/-- The vehicle's request in 0.1 A: EVMaxCurrent, or EVMaximumChargePower over the nominal power per ampere (12 R426). A vehicle that
asks for discharge sets none (log entry 30). -/
def vehRequest (s : State) (i : Fin 32) : Option Nat :=
  let x := s.ses[i]
  if x.proto = 1 then some x.evMaxI
  else if x.proto = 3 && x.evMaxP = 0 && x.evMaxDis ≠ 0 then none
  else if x.proto = 0 then none
  else some (x.evMaxP * 10 / max 1 (v2gUnom s * phasesOf s i))

/-- Demand of a point: in AUTHORISED, CHARGING and PAUSED the minimum of the level-6 ceiling and the vehicle's request (12 R426). -/
def demandOf (s : State) (i : Fin 32) : Nat :=
  match s.cp[i].pst with
  | .authorised | .charging | .paused => capWith (localCeil s i) s.cp[i].veh
  | _ => 0

/-- MeterReading: ACT_IMP of the last RESULT snapshot in whole Wh (12 R427, 08 R266). -/
def meterReading (s : State) (i : Fin 32) : Nat := s.pmet[i].pubRegs.toList.getD 0 0 / 2 ^ 32 / 1000000

/-! SDP and TCP (12 R407, R408, R415, R419, R434, R436). -/

/-- The point has a logical network on which SES answers. -/
def netServed (s : State) (i : Fin 32) : Bool := !s.sen.mlSig && s.plc[i].slac == .matched && hlcOn s i && s.ses[i].no != 0

/-- Whether SES answers a request for no TLS so (12 R407). -/
def noTlsAllowed (s : State) : Bool := v2g s 0 121 121 == 1 && v2gProto s 1 && v2gEim s

/-- The SDP response: address, port, transport, security; the point waits for its connection (12 R407, Table 12.4). -/
def sdpAnswer (i : Fin 32) (tls : Bool) (s : State) : State :=
  let s := sendMessage i 0x201 (hubAddr s i ++ [v2gPort s, 0, if tls then 0 else 0x10]) s
  s.modSes i fun x => { x with stage := .connect, tlsWanted := tls }

/-- SDP_REQUEST: answered, or deferred while eight handshakes run; excess, malformed and foreign requests are ignored (12 R407, R419,
R433, R434, R436). -/
def execSdpRequest (point : Fin 32) (wantTls tcp malformed : Bool) (s : State) : Host.Outcome State Fault Refusal :=
  .next <|
    let x := s.ses[point]
    if !netServed s point || (x.stage != .sdp && x.stage != .connect) || 10 ≤ x.sdpCount then s
    else
      let s := s.modSes point fun x => { x with sdpCount := x.sdpCount + 1 }
      if malformed || !tcp then s
      else if !wantTls && noTlsAllowed s then sdpAnswer point false (freeHandshake point s)
      else if s.sesSys.handshakes.contains point.val then sdpAnswer point true s
      else if s.sesSys.handshakes.length < 8 && s.sesSys.admission.isEmpty then
        sdpAnswer point true (s.modSesSys fun y => { y with handshakes := y.handshakes ++ [point.val] })
      else if x.deferred then s
      else
        let s := s.modSesSys fun y => { y with admission := insertBy (fun e => e.1 * 32 + e.2) (s.clk.tickTot, point.val) y.admission }
        raise 0x4303 4 point.val s.sesSys.admission.length (s.modSes point fun x => { x with deferred := true })

/-- TCP_CONNECT: one connection per point on TCP_PORT; a SYN to another port gets RST, a second connection RST and a strike; one that no
SDP response announced gets RST (12 R408, R434, R436; log entry 31). -/
def execTcpConnect (point : Fin 32) (port : Nat) (s : State) : Host.Outcome State Fault Refusal :=
  .next <|
    let rst := sendMessage point 0x203 [port]
    if !netServed s point then s
    else if port ≠ v2gPort s then rst s
    else if s.ses[point].tcpOpen then addStrike point (rst s)
    else if s.ses[point].stage ≠ .connect then rst s
    else
      (sendMessage point 0x202 [port] s).modSes point fun x =>
        { x with tcpOpen := true, retrans := 0, hs := 0, stage := if x.tlsWanted then .handshake else .app }

/-- The connection of a point is gone: a handshake fails, a session ends with reason 16 (12 R415, Table 12.4). -/
def tcpLost (i : Fin 32) (s : State) : State :=
  let x := s.ses[i]
  if !x.tcpOpen then s
  else
    let s := if x.stage = .stopping then s else if x.stage = .handshake && !bound s i then s else endSes i 16 s
    if x.stage = .handshake then strike i s else closeConn i s

/-- TCP_CONNECTION_LOST (12 R415). -/
def execTcpConnectionLost (point : Fin 32) (s : State) : Host.Outcome State Fault Refusal := .next <| tcpLost point s

/-- TCP_RETRANSMISSION_TIMEOUT: SES retransmits, and drops the connection after the fifth retransmission (12 R408). -/
def execTcpRetransmissionTimeout (point : Fin 32) (s : State) : Host.Outcome State Fault Refusal :=
  .next <|
    let x := s.ses[point]
    if !x.tcpOpen || s.sen.mlSig then s
    else if x.retrans < 5 then (sendMessage point 0x204 [x.retrans] s).modSes point fun x => { x with retrans := x.retrans + 1 }
    else tcpLost point s

/-- NEIGHBOUR_SOLICITATION: answered for the hub's own address (12 R406). -/
def execNeighbourSolicitation (point : Fin 32) (target : List Nat) (s : State) : Host.Outcome State Fault Refusal :=
  .next <|
    if !s.sen.mlSig && s.plc[point].slac == .matched && target = hubAddr s point then sendMessage point 0x205 (hubAddr s point) s else s

/-! TLS (12 R404, R409, R410, R419, R421, R436, R438). -/

/-- A session may be served: its connection stands, it is not stalled, the mains-loss signal is down (12 R420, R441). -/
def served (s : State) (i : Fin 32) : Bool := s.ses[i].tcpOpen && !s.ses[i].stalled && !s.sen.mlSig

/-- A connection closed for a vehicle fault: a strike; a session past its handshake ends with reason 13 (12 R436; log entry 32). -/
def vehicleFault (i : Fin 32) (s : State) : State :=
  let inApp := s.ses[i].stage != .handshake
  strike i (if inApp then endSes i 13 s else s)

/-- TLS version of a point's handshake as the events carry it: 2 TLS 1.2, 3 TLS 1.3. -/
def tlsVer (s : State) (i : Fin 32) : Nat := if s.ses[i].tls = 2 then 3 else 2

/-- The handshake fails with an alert sent or received: event 0x4304, a strike (12 Table 12.9). -/
def tlsFail (i : Fin 32) (alert : Nat) (s : State) : State :=
  vehicleFault i (raise 0x4304 4 i.val (alert * 2 ^ 24 + tlsVer s i * 2 ^ 16) s)

/-- An asset fault ends the handshake with the alert internal_error: event 0x430C, a strike (12 R438). -/
def tlsAsset (i : Fin 32) (block : Nat) (s : State) : State :=
  tlsFail i 80 (raise 0x430C 4 i.val block s)

/-- Block count of a configured chain: 1 P-256, 2 P-521, 3 Ed448 (12 Table 12.2). -/
def chainBlocks (s : State) (alg : Nat) : Nat :=
  match alg with
  | 1 => v2g s 4 111 96 | 2 => v2g s 4 79 64 | 3 => v2g s 4 47 32
  | _ => 0

/-- The ephemeral transient slot of a session. -/
def ephSlot (s : State) (i : Fin 32) : Option Nat :=
  (s.keys.trans.find? fun t => t.owner == .ses && t.point == i.val && t.kind == .ephemeral).map (·.num)

/-- The server flight: an ephemeral key in a transient slot, and the jobs of 12 Table 12.6; the generation of the key is the job
named derive. A request beyond the quota stalls the session (12 R420, R421). -/
def serverFlight (i : Fin 32) (tls role : Nat) (s : State) : State :=
  match roleSlot s role with
  | none => tlsFail i 40 s
  | some sign =>
    if !drbgOk s then tlsFail i 80 s
    else
      let (key, s) := drbgDraw (if tls = 2 then 521 else 256) s
      match transAlloc .ses .ephemeral i.val key s with
      | none => stallSession i.val 3 s
      | some (n, s) =>
        let jobs : List (SlotOp × Nat) := if tls = 2 then [(.derive, n), (.agree, n), (.sign, sign)] else [(.derive, n), (.sign, sign)]
        let s := placeJobs i jobs [] s
        (sendMessage i 0x210 [tls] s).modSes i fun x => { x with hs := 1 }

/-- TLS_CLIENT_HELLO: TLS 1.3 where an enabled -20 protocol meets an offer of it, else TLS 1.2 for -2; unsupported offers fail; a
TLS 1.3 hello without the key share is answered once by HelloRetryRequest; a later hello is refused (12 R409, R410). -/
def execTlsClientHello (point : Fin 32) (has12 has13 fits share : Bool) (scheme : Nat) (badAsset : Option Nat) (s : State) :
    Host.Outcome State Fault Refusal :=
  .next <|
    let x := s.ses[point]
    if !served s point || !x.tlsWanted then s
    else if x.stage ≠ .handshake || x.hs ≠ 0 then tlsFail point (if x.tls = 1 then 100 else 10) s
    else
      let is13 := has13 && (v2gProto s 2 || v2gProto s 3)
      let is12 := !is13 && has12 && v2gProto s 1
      if !is13 && !is12 then tlsFail point 70 s
      else
        let s := s.modSes point fun x => { x with tls := if is13 then 2 else 1 }
        let alg := if is12 then 1 else scheme
        if !fits || chainBlocks s alg = 0 || (is13 && scheme ≠ 2 && scheme ≠ 3) then tlsFail point 40 s
        else if is13 && !share then
          if x.helloRetry then tlsFail point 40 s
          else (sendMessage point 0x211 [] s).modSes point fun x => { x with helloRetry := true }
        else match badAsset with
          | some b => tlsAsset point b s
          | none => serverFlight point (if is13 then 2 else 1) (if alg = 1 then 6 else if alg = 2 then 7 else 8) s

/-- TLS_CLIENT_KEY_EXCHANGE: one ECDH job (12 R409, Table 12.6). -/
def execTlsClientKeyExchange (point : Fin 32) (peer : List Nat) (s : State) : Host.Outcome State Fault Refusal :=
  .next <|
    let x := s.ses[point]
    if !served s point || x.stage ≠ .handshake then s
    else if x.tls ≠ 1 || x.hs ≠ 1 then tlsFail point 10 s
    else match ephSlot s point with
      | none => tlsFail point 80 s
      | some n => (placeJobs point [(.agree, n)] peer s).modSes point fun x => { x with hs := 2 }

/-- Kind of a trust anchor (12 Table 12.3), 0 if none. -/
def anchorKind (s : State) (k : Nat) : Nat := cfg s 0x71 k 0 127 120

/-- Whether an eMAID is well formed: two letters, then twelve letters or digits and at most a check character, hyphens left out
(12 R416, R417; log entry 33). -/
def emaidChars (cn : List Nat) : List Nat :=
  (cn.filter (· != 0x2D)).map fun c => if 0x61 ≤ c && c ≤ 0x7A then c - 32 else c
def upperChar (b : Nat) : Bool := decide (0x41 ≤ b) && decide (b ≤ 0x5A)
def digitChar (b : Nat) : Bool := decide (0x30 ≤ b) && decide (b ≤ 0x39)
def emaidOk (cn : List Nat) : Bool :=
  let l := emaidChars cn
  (l.length == 14 || l.length == 15) && (l.take 2).all upperChar && l.all fun c => upperChar c || digitChar c

/-- The first rule of 12 R416 that a chain breaks, 0 if none; `kinds`: the anchor kinds that count, `algs`: the key algorithms. -/
def chainCheck (s : State) (kinds algs : List Nat) (cnRule : Bool) (c : Chain) : Nat :=
  let rtc := s.clk.rtcS
  if v2g s 0 79 72 < c.subCas then 1
  else if !c.sigOk then 2
  else match c.anchor with
    | none => 4
    | some k =>
      if !kinds.contains (anchorKind s k) then 4
      else if s.sen.rtcValid && (rtc < c.notBefore || c.notAfter < rtc || cfg s 0x71 k 0 63 0 < rtc) then 3
      else if !c.caOk then 5
      else if !algs.contains c.alg then 6
      else if cnRule && !emaidOk c.cn then 7
      else if c.badAsset.isSome then 8
      else 0

/-- TLS_CLIENT_CERTIFICATE: the vehicle's certificate chains to a KIND 3 anchor; with CLIENT_CERT set none fails the handshake; four
VE jobs (12 R410, R438, Table 12.6). -/
def execTlsClientCertificate (point : Fin 32) (chain : Option Chain) (proof : Bool) (s : State) : Host.Outcome State Fault Refusal :=
  .next <|
    let x := s.ses[point]
    if !served s point || x.stage ≠ .handshake then s
    else if x.tls ≠ 2 || x.hs ≠ 1 then tlsFail point 10 s
    else match chain with
      | none =>
        if v2g s 0 117 117 = 1 then tlsFail point 116 s else s.modSes point fun x => { x with hs := 2 }
      | some c =>
        let s := placeJobs point (List.replicate 4 (.verify, 0xFF)) [] s
        match chainCheck s [3] [2, 3] false c with
        | 0 => if proof then s.modSes point fun x => { x with hs := 2 } else tlsFail point 51 s
        | 8 => tlsAsset point (c.badAsset.getD 0) s
        | 4 => tlsFail point 48 s
        | 3 => tlsFail point 45 s
        | _ => tlsFail point 42 s

/-- TLS_CLIENT_FINISHED: verified, it frees the admission slot and the session goes to APP (12 R413, R419). -/
def execTlsClientFinished (point : Fin 32) (ok : Bool) (s : State) : Host.Outcome State Fault Refusal :=
  .next <|
    let x := s.ses[point]
    if !served s point || x.stage ≠ .handshake then s
    else if x.hs ≠ 2 then tlsFail point 10 s
    else if !ok then tlsFail point 51 s
    else freeHandshake point ((sendMessage point 0x212 [] s).modSes point fun x => { x with stage := .app })

/-- TLS_ALERT: the connection closes, event 0x4304, a strike (12 Table 12.9). -/
def execTlsAlert (point : Fin 32) (alert : Nat) (s : State) : Host.Outcome State Fault Refusal :=
  .next <| if s.ses[point].tcpOpen && s.ses[point].tlsWanted && !s.sen.mlSig then tlsFail point (alert % 256) s else s

/-- V2GTP_PROTOCOL_ERROR: the connection closes, event 0x4307, a strike (12 Table 12.9). -/
def execV2gtpProtocolError (point : Fin 32) (kind : Nat) (s : State) : Host.Outcome State Fault Refusal :=
  .next <|
    let x := s.ses[point]
    if served s point && x.stage != .handshake && 1 ≤ kind && kind ≤ 3 then
      vehicleFault point (raise 0x4307 4 point.val (kind * 2 ^ 24) s)
    else s

/-! Messages (12 R402, R411 to R418, R423 to R427). -/

/-- The SessionID of a point: the session number, then the four DRBG bytes (12 R412). -/
def sessionId (s : State) (i : Fin 32) : Nat := s.ses[i].no * 2 ^ 32 + s.ses[i].idTail

/-- FAILED_UnknownSession or FAILED_SequenceError, then the connection closes; reason 13, a strike (12 Table 12.9). -/
def protocolFail (i : Fin 32) (kind code ms : Nat) (s : State) : State := vehicleFault i (respond i false kind code ms [] s)

/-- A message request is served: the connection has passed its handshake, the SessionID is the session's and the stage admits the
message; else it fails (12 R436). -/
def request (i : Fin 32) (kind : Nat) (sid : Option Nat) (stages : List Stage) (ms : Nat) (f : State → State) (s : State) : State :=
  let x := s.ses[i]
  if !served s i || x.stage = .handshake then s
  else
    let s := s.modSes i fun x => { x with retrans := 0 }
    if sid.isSome && (!x.idSet || sid ≠ some (sessionId s i)) then protocolFail i kind 2 ms s
    else if !stages.contains x.stage then protocolFail i kind 3 ms s
    else f s

/-- The entry of highest vehicle priority, of equal ones the protocol that PREFER_2 puts first (12 R403, R411). -/
def bestEntry (prefer2 : Bool) : List (Nat × Nat) → Option (Nat × Nat)
  | [] => none
  | e :: es =>
    match bestEntry prefer2 es with
    | none => some e
    | some b =>
      if e.1 < b.1 then some e
      else if b.1 < e.1 then some b
      else if prefer2 then (if e.2 ≤ b.2 then some e else some b) else (if b.2 ≤ e.2 then some e else some b)

/-- SUPPORTED_APP_PROTOCOL_REQ: -2 runs over TLS 1.2 or none, -20 over TLS 1.3; with no listed protocol HLC is withdrawn (12 R401,
R402, R411). -/
def execSupportedAppProtocolReq (point : Fin 32) (entries : List (Nat × Nat)) (ms : Nat) (s : State) : Host.Outcome State Fault Refusal :=
  .next <| request point 1 none [.app] ms (fun s =>
    let tls13 := s.ses[point].tls == 2
    let fits := entries.filter fun e => v2gProto s e.2 && (if tls13 then 2 ≤ e.2 else e.2 == 1)
    match bestEntry (v2g s 0 124 124 == 1) fits with
    | some e => (respond point false 1 0 ms [e.2] s).modSes point fun x => { x with proto := e.2, stage := .setup }
    | none => withdrawHlc point ((respond point false 1 6 ms [] s).modSes point fun x => { x with strikes := 3 })) s

/-- SESSION_SETUP_REQ: the SessionID is the session number and four bytes of the DRBG (12 R412); without randomness FAILED. -/
def execSessionSetupReq (point : Fin 32) (ms : Nat) (s : State) : Host.Outcome State Fault Refusal :=
  .next <| request point 2 none (if s.ses[point].idSet then [] else [.setup]) ms (fun s =>
    if !drbgOk s then closeConn point (respond point false 2 1 ms [] s)
    else
      let (t, s) := drbgDraw 32 s
      let s := s.modSes point fun x => { x with idTail := t, idSet := true }
      respond point false 2 0 ms (bytesBE 8 (sessionId s point)) s) s

/-- Services offered: AC, and under AC_BPT with BIDIR_EN also AC_BPT (12 R401, R425). -/
def offersService (s : State) (i : Fin 32) (service : Nat) : Bool :=
  service == 1 || (service == 2 && s.ses[i].proto == 3 && ptBidir s i.val)

/-- Control mode offered: -20 by MODES, -2 none (12 Table 12.2). -/
def offersMode (s : State) (i : Fin 32) (mode : Nat) : Bool :=
  s.ses[i].proto == 1 || (mode == 1 && v2g s 0 119 119 == 1) || (mode == 2 && v2g s 0 118 118 == 1)

/-- Payment options offered; a session without TLS carries only EIM (12 R407). -/
def offersPayment (s : State) (i : Fin 32) (contract : Bool) : Bool :=
  if contract then v2gPnc s && s.ses[i].tls != 0 else v2gEim s

/-- SERVICE_SELECTION_REQ: service, payment and mode; a choice not offered gets the edition's service-selection failure and the
session ends with reason 13 (12 R402, Table 12.4). -/
def execServiceSelectionReq (point : Fin 32) (sid service mode : Nat) (contract : Bool) (ms : Nat) (s : State) :
    Host.Outcome State Fault Refusal :=
  .next <| request point 3 (some sid) [.setup] ms (fun s =>
    if offersService s point service && offersMode s point mode && offersPayment s point contract then
      (respond point false 3 0 ms [] s).modSes point fun x =>
        { x with
          pnc := contract, eim := !contract, stage := .auth
          mode := if x.proto = 1 then 0 else mode
          proto := if x.proto = 1 then 1 else if service = 2 then 3 else 2 }
    else
      (endSes point 13 (respond point false 3 4 ms [] s)).modSes point fun x => { x with stage := .stopping }) s

/-- The tenant of a normalised eMAID (13 R445). -/
def emaidTenant (emaid : List Nat) : List W128 → Option Nat
  | a :: b :: ws => if (wordBytes b).take 14 = emaid then some (fld a 127 112) else emaidTenant emaid ws
  | _ => none

/-- The contract's tenant, 12 R416 and R417: the error code of the answer, 0 if the contract stands. -/
def contractCheck (i : Fin 32) (c : Chain) (s : State) : Nat × State :=
  let algs := if s.ses[i].proto = 1 then [1] else [2, 3]
  match chainCheck s [1, 2] algs true c with
  | 0 =>
    let emaid := (emaidChars c.cn).take 14
    let s := s.modSes i fun x => { x with emaid }
    match emaidTenant emaid (((recOf s 0x51 0).getD []).drop 1) with
    | none => (1, raise 0x4306 4 i.val 0 s)
    | some t => if s.gates.blockSnap.contains t then (1, raise 0x4306 4 i.val 1 s) else (0, s.modSes i fun x => { x with chainOk := true })
  | r => (5, raise 0x4305 4 i.val r s)

/-- PAYMENT_DETAILS_REQ: the contract chain of a -2 session, three VE jobs; a failure closes the connection (12 R416, R417). -/
def execPaymentDetailsReq (point : Fin 32) (sid : Nat) (chain : Chain) (ms : Nat) (s : State) : Host.Outcome State Fault Refusal :=
  .next <| request point 4 (some sid) (if s.ses[point].proto = 1 && s.ses[point].pnc && !s.ses[point].chainOk then [.auth] else []) ms (fun s =>
    let s := placeJobs point (List.replicate 3 (.verify, 0xFF)) [] s
    match contractCheck point chain s with
    | (0, s) => respond point true 4 0 ms [] s
    | (code, s) => closeConn point (respond point true 4 code ms [] s)) s

/-- The contract is verified: its authorisation becomes ready (12 R418, 13 R456). -/
def contractReady (i : Fin 32) (s : State) : State :=
  match emaidTenant s.ses[i].emaid (((recOf s 0x51 0).getD []).drop 1) with
  | some t => authReady i 1 t 0 (s.modSes i fun x => { x with authSince := true })
  | none => s

/-- AUTHORIZATION_REQ: Finished once the LEDGER snapshot shows the binding, else Ongoing; the first verified PnC request places the
contract's authorisation; a rejected contract gets FAILED and the connection closes (12 R418, Table 12.4). -/
def execAuthorizationReq (point : Fin 32) (sid : Nat) (chain : Option Chain) (sigOk : Bool) (ms : Nat) (s : State) :
    Host.Outcome State Fault Refusal :=
  .next <| request point 5 (some sid) (if s.ses[point].pnc && s.ses[point].proto = 1 && !s.ses[point].chainOk then [] else [.auth]) ms (fun s =>
    let x := s.ses[point]
    let reject := fun (jobs : Bool) (code : Nat) (s : State) => closeConn point (respond point jobs 5 code ms [] s)
    if s.gates.ledgerSnap.any (·.point == point.val) then
      (respond point false 5 0 ms [0] s).modSes point fun x => { x with stage := .param }
    else if x.authBad then reject false 1 s
    else if !x.pnc then (respond point false 5 0 ms [1] s).modSes point fun x => { x with authSince := true }
    else if x.authSince then respond point false 5 0 ms [1] s
    else if x.proto = 1 then
      let s := placeJobs point [(.verify, 0xFF)] [] s
      if sigOk then contractReady point (respond point true 5 0 ms [1] s) else reject true 7 s
    else match chain with
      | none => reject false 1 s
      | some c =>
        let s := placeJobs point (List.replicate 4 (.verify, 0xFF)) [] s
        match contractCheck point c s with
        | (0, s) => if sigOk then contractReady point (respond point true 5 0 ms [1] s) else reject true 7 s
        | (code, s) => reject true code s) s

/-- The vehicle's request takes effect on the ceiling (09 R318, 12 R426). -/
def setVehRequest (i : Fin 32) (s : State) : State := s.modCp i fun x => { x with veh := vehRequest s i }

/-- The power sent in a parameter exchange or a schedule: P_c of the reported ceiling (12 R423). -/
def scheduleP (s : State) (i : Fin 32) : Nat := powerOf s i (ceilSent s i)

/-- CHARGE_PARAMETER_REQ: ceiling and one schedule entry of 86 400 s, or the maximum power in dynamic mode; ends a renegotiation
(12 R423, R424, R430). -/
def execChargeParameterReq (point : Fin 32) (sid maxI maxP maxDis ms : Nat) (s : State) : Host.Outcome State Fault Refusal :=
  .next <| request point 6 (some sid) [.param, .loop] ms (fun s =>
    let two := s.ses[point].proto == 1
    let s := s.modSes point fun x =>
      { x with
        evMaxI := if two then maxI else x.evMaxI
        evMaxP := if two then x.evMaxP else min maxP (2 ^ 32 - 1)
        evMaxDis := if two then 0 else min maxDis (2 ^ 32 - 1)
        receiptAt := if x.stage = .param then meterReading s point else x.receiptAt
        stage := .loop, reneg := false, notify := false }
    let s := setVehRequest point s
    let p := scheduleP s point
    let fields := (if two then [ceilSent s point] else []) ++ split3 s point p ++ (if s.ses[point].mode = 2 then [] else [86400])
    (respond point false 6 0 ms fields s).modSes point fun x => { x with targetP := p }) s

/-- EVSETargetActivePower in dynamic mode: discharge where the vehicle asks for it under AC_BPT, else the ceiling's power up to
EVMaximumChargePower (12 R423, R425). -/
def targetPower (s : State) (i : Fin 32) : Int :=
  let x := s.ses[i]
  if x.proto = 3 && ptBidir s i.val && x.evMaxP = 0 && x.evMaxDis ≠ 0 then -((min (powerOf s i x.expCeil) x.evMaxDis : Nat) : Int)
  else ((min (scheduleP s i) x.evMaxP : Nat) : Int)

/-- CHARGE_LOOP_REQ: the ceiling in use; the notification of a fall, once; Pause below 6.0 A; the target power in dynamic mode; meter
information under -2 PnC with RECEIPT (12 R423 to R427, R430). -/
def execChargeLoopReq (point : Fin 32) (sid maxP maxDis ms : Nat) (s : State) : Host.Outcome State Fault Refusal :=
  .next <| request point 7 (some sid) [.loop] ms (fun s =>
    let two := s.ses[point].proto == 1
    let s := if two then s
      else setVehRequest point (s.modSes point fun x => { x with evMaxP := min maxP (2 ^ 32 - 1), evMaxDis := min maxDis (2 ^ 32 - 1) })
    let x := s.ses[point]
    let dyn := !two && x.mode == 2
    let renegotiate := x.notify && !dyn
    let note := if renegotiate then 1 else if !two && x.pauseNote then 2 else 0
    let read := meterReading s point
    let info := if two && x.pnc && v2gReceipt s then [read, b2n (decide (x.receiptAt < read))] else []
    let power := if dyn then split3 s point (targetPower s point) else []
    let s := s.modSes point fun x =>
      { x with
        notify := false
        reneg := x.reneg || renegotiate
        targetP := if dyn then targetPower s point else x.targetP
        meterSent := if info.isEmpty then x.meterSent else read }
    respond point false 7 0 ms ([note] ++ (if two then [ceilSent s point] else power) ++ info) s) s

/-- METERING_RECEIPT_REQ: a signature that fails ends the session with reason 13 (12 R427). -/
def execMeteringReceiptReq (point : Fin 32) (sid : Nat) (sigOk : Bool) (ms : Nat) (s : State) : Host.Outcome State Fault Refusal :=
  .next <| request point 8 (some sid) (if s.ses[point].proto = 1 && s.ses[point].pnc && v2gReceipt s then [.loop] else []) ms (fun s =>
    let s := placeJobs point [(.verify, 0xFF)] [] s
    if sigOk then (respond point true 8 0 ms [] s).modSes point fun x => { x with receiptAt := x.meterSent }
    else (endSes point 13 (respond point true 8 7 ms [] s)).modSes point fun x => { x with stage := .stopping }) s

/-- SESSION_STOP_REQ: stop or pause, answered alike; reason 2 (12 R415). -/
def execSessionStopReq (point : Fin 32) (sid : Nat) (pause : Bool) (ms : Nat) (s : State) : Host.Outcome State Fault Refusal :=
  .next <| request point 9 (some sid) [.setup, .auth, .param, .loop] ms (fun s =>
    (endSes point 2 (respond point false 9 0 ms [b2n pause] s)).modSes point fun x => { x with stage := .stopping }) s

/-- CERTIFICATE_INSTALLATION_REQ: FAILED, and the session continues (12 R402). -/
def execCertificateInstallationReq (point : Fin 32) (sid ms : Nat) (s : State) : Host.Outcome State Fault Refusal :=
  .next <| request point 10 (some sid) [.setup, .auth, .param, .loop] ms (respond point false 10 1 ms []) s

/-! Timeouts and overdraw (12 R413, R415, R418, R437). -/

/-- CONNECT_TIMEOUT: no connection within 5 s of the SDP response (12 Table 12.4). -/
def execConnectTimeout (point : Fin 32) (s : State) : Host.Outcome State Fault Refusal :=
  .next <| if s.ses[point].stage = .connect && !s.sen.mlSig then strike point s else s

/-- HANDSHAKE_TIMEOUT: the handshake is not complete within 5 s (12 Table 12.4). -/
def execHandshakeTimeout (point : Fin 32) (s : State) : Host.Outcome State Fault Refusal :=
  .next <| if s.ses[point].stage = .handshake && !s.sen.mlSig then strike point s else s

/-- SEQUENCE_TIMEOUT: no valid request for 60 s after CONNECT; reason 15 (12 R415). -/
def execSequenceTimeout (point : Fin 32) (s : State) : Host.Outcome State Fault Refusal :=
  .next <|
    let x := s.ses[point]
    if x.tcpOpen && x.stage != .handshake && x.stage != .stopping && !s.sen.mlSig then closeConn point (endSes point 15 s) else s

/-- EIM_WAIT_EXPIRY: no binding within EIM_WAIT of the first AuthorizationReq: FAILED, and the connection closes (12 R418). -/
def execEimWaitExpiry (point : Fin 32) (s : State) : Host.Outcome State Fault Refusal :=
  .next <|
    let x := s.ses[point]
    if x.stage = .auth && x.eim && x.authSince && !s.gates.ledgerSnap.any (·.point == point.val) && !s.sen.mlSig then
      closeConn point ((sendMessage point 0x105 [1] s).modSes point fun x => { x with answer := some (5, 1) })
    else s

/-- A point whose current is held against its ceiling. -/
def drawsHeld (p : PState) : Bool := p == .authorised || p == .charging || p == .paused

/-- OVERDRAW: after the grace, a phase lay above the limit in 250 consecutive cycles; event 0x430A with the phase from 1 and Irms,
the contactor is asked to open, the session ends with reason 14 (12 R437). -/
def execOverdraw (point : Fin 32) (phase : Fin 3) (s : State) : Host.Outcome State Fault Refusal :=
  .next <|
    if s.ses[point].overRun[phase] < 250 || !drawsHeld s.cp[point].pst then s
    else
      let irms := s.pmet[point].pub.irms.getD phase.val 0 / 100000
      let s := raise 0x430A 4 point.val ((phase.val + 1) * 2 ^ 24 + min irms 65535) s
      endSes point 14 (openReq point (s.modSes point fun x => { x with overRun := Vector.replicate 3 0 }))

/-- A phase's current against its limit, c × 1.05 + 0.5 A, the export ceiling where it exports (12 R437). -/
def overLimit (s : State) (i : Fin 32) (x : Nat) : Bool :=
  let r := s.pmet[i].pub
  let c := if r.p.getD x 0 < 0 then s.ses[i].expCeil else s.cp[i].ceil
  r.valid && decide (c * 105000 + 500000 < r.irms.getD x 0)

/-- What SES keeps at each boundary: the export ceiling, the grace and the runs of overdraw, the count of SDP requests of a second
(12 R425, R436, R437). -/
def sesBoundary (s : State) : State :=
  let second := decide (s.clk.bndTot % max 1 s.clk.fnom = 0)
  (finList 32).foldl (fun s (i : Fin 32) =>
    let e := exportCeil s i
    let s := s.modSes i fun x => { x with expCeil := e, sdpCount := if second then 0 else x.sdpCount, grace := x.grace - 1 }
    let live := drawsHeld s.cp[i].pst && s.ses[i].grace = 0
    let run := fun (n : Nat) (k : Nat) => if live && overLimit s i k then min 250 (n + 1) else 0
    s.modSes i fun x => { x with overRun := ⟨((List.range 3).map fun k => run (x.overRun.toList.getD k 0) k).toArray, by simp⟩ }) s

end Sys2Proof.Machine
end

