-- ==== Sys2Proof/Machine/TagHub.lean ====
section
/-! DEFINITION. RDO's side of the tag: mailboxes, window requests, publications and flips, the public area, and what enters the tag
when the hub starts to run (16 R536 to R560). -/

namespace Sys2Proof.Machine

/-! Mailboxes (16 R547 to R551). -/

/-- Message word j of field cell k. -/
def cellWord (s : State) (k j : Nat) : W128 :=
  BitVec.ofNat 128 (natLE (tagBlock s (513 + 16 * k + 2 * j) ++ tagBlock s (514 + 16 * k + 2 * j)))

/-- Header fields of field cell k. -/
def cellType (s : State) (k : Nat) : Nat := (tagBlock s (512 + 16 * k)).getD 0 0
def cellLen (s : State) (k : Nat) : Nat := (tagBlock s (512 + 16 * k)).getD 1 0

/-- A cell keeps its form: a TYPE in service, the LEN of its type, reserved bytes zero (16 R550). -/
def cellFormed (s : State) (k : Nat) : Bool :=
  ((tagBlock s (512 + 16 * k)).drop 4).all (· == 0)
    && ((cellType s k == 1 && cellLen s k == 3) || (cellType s k == 2 && cellLen s k == 1))

/-- A cell is refused as malformed: STATUS 3, event 0x3060 (16 R550, R551). -/
def refuseCell (k : Nat) (s : State) : State :=
  raise 0x3060 6 255 (k * 2 ^ 24 + cellType s k * 2 ^ 16) (putResultHeader k (cellType s k) 3 (cellSeq s k) none s)

/-- MAILBOX_TAKE: the lowest doorbelled cell, at most 4 in a cycle; it is refused, not served (NO-CONFIG, RETIRED, or the NFC record
says so), or received and passed on (16 R550, R551, R560, R795). -/
def execMailboxTake (s : State) : Host.Outcome State Fault Refusal :=
  .next <|
    match s.tag.bells with
    | [] => s
    | k :: rest =>
      if !rdoWrites s || 4 ≤ s.tag.takenCy || !(s.life.cond == .run || s.life.cond == .noConfig || s.life.cond == .retired) then s
      else
        let s := s.modTag fun t => { t with bells := rest, takenCy := t.takenCy + 1 }
        let served := s.life.cond == .run && (if cellType s k = 1 then nfcTokens s else nfcWindows s)
        if !cellFormed s k then refuseCell k s
        else if !served then putResultHeader k (cellType s k) 5 (cellSeq s k) none s
        else
          let s := putResultHeader k (cellType s k) 1 (cellSeq s k) none s
          let w := [cellWord s k 0, cellWord s k 1, cellWord s k 2]
          s.modTag fun t =>
            if cellType s k = 1 then { t with tokQ := t.tokQ ++ [(k, w)] } else { t with reqQ := t.reqQ ++ [(k, w.getD 0 0)] }

/-- A window request names VERSION 1, its marker and this hub, and zero below (16 R549). -/
def reqFormed (s : State) (w : W128) : Bool :=
  fld w 127 120 == 1 && fld w 119 112 == 0x57 && fld w 95 88 == nodeId s && fld w 87 0 == 0

/-- WINDOW_REQUEST: the oldest request assigns the tenant's window and its answer is final; otherwise it is refused as malformed
(16 R543, R549, R550); without a window the cell is not served. -/
def execWindowRequest (s : State) : Host.Outcome State Fault Refusal :=
  .next <|
    match s.tag.reqQ with
    | [] => s
    | (k, w) :: rest =>
      if !rdoWrites s then s
      else
        let s := s.modTag fun t => { t with reqQ := rest }
        if !reqFormed s w then refuseCell k s
        else
          let (win, s) := assignWindow (fld w 111 96) s
          putResultHeader k 2 (if win.isSome then 2 else 5) (cellSeq s k) win s

/-! Windows (16 R542 to R545). -/

/-- The slot of a tenant in a bank. -/
def slotIn (s : State) (bank tenant : Nat) : Option Nat :=
  ((bankAt s bank).rows.find? fun e => e.2.tenant == tenant && tenant != 0).map (·.1)

/-- The plaintext words P0 to P12 of a tenant's window (16 Table 16.6). -/
def windowWords (s : State) (tenant : Nat) : List W128 :=
  let listed := (tenantEntry s tenant).isSome
  let cur := bankOfRole s 0
  let old := bankOfRole s 1
  let slot := if listed then slotIn s cur tenant else none
  let oldSlot := if listed then slotIn s old tenant else none
  let totals := fun (b : Nat) (k : Option Nat) => match k with
    | some k => (slotTotals (ledRow s b k)).map word
    | none => List.replicate 4 0#128
  let rec0 := match oldSlot with
    | some k => ((s.recs.stmt1.find? fun x => x.slot == k).map (·.no)).getD 0
    | none => 0
  let bound := s.gates.ledgerSnap.filter fun b => b.tenant == tenant
  let low := (sortBy (·.point) bound).head?
  let bind := match low.bind fun b => fin? 32 b.point with
    | some i => s.led.binds[i].map fun b => (i, b)
    | none => none
  [mkWord [(112, tenant), (104, slot.getD 0xFF), (102, match slot with
      | some k => (ledRow s cur k).cls
      | none => 0), (101, b2n listed), (100, b2n (s.gates.blockSnap.contains tenant)), (64, s.led.period.no), (0, s.gates.snapCount)],
   mkWord [(64, s.clk.rtcS), (48, s.led.period.cur), (40, s.gates.tariffSnap), (0, (bound.map fun b => 2 ^ b.point).sum)]]
    ++ totals cur slot
    ++ [mkWord [(96, if oldSlot.isSome then (bankAt s old).period else 0), (32, rec0)]]
    ++ totals old oldSlot
    ++ (match bind with
      | some (i, b) => [mkWord [(96, b.session), (0, b.s)], word (s.pmet[i].pubRegs.toList.getD 0 0 - b.startImp)]
      | none => [0#128, 0#128])

/-- The 16 words of a frame: word 0, the text under the tenant's window key, its tag, SEQ_END (16 Table 16.5). -/
def frameWords (s : State) (master seq tenant handle : Nat) (plain : List W128) : List W128 :=
  let w0 := mkWord [(96, seq), (80, handle), (72, 1)]
  let iv := bytesBE 4 seq ++ bytesBE 8 s.life.serial
  let key := tenantKey (slotSecret s master) true tenant
  let text := Config.encrypt key 1 (iv ++ wordBytes w0 ++ wordsBytes plain)
  let ws := bytesWords 14 text
  [w0] ++ ws ++ List.replicate (14 - ws.length) 0#128 ++ [mkWord [(96, seq)]]

/-- Write a frame: word 0 to word 15, low half then high half (16 R541, R544). -/
def putFrame (f : Nat) (ws : List W128) (s : State) : State :=
  ws.zipIdx.foldl (fun s e =>
    tagPut (129 + 32 * f + 2 * e.2) ((wordBytes e.1).drop 8) (tagPut (128 + 32 * f + 2 * e.2) ((wordBytes e.1).take 8) s)) s

/-- Publications that await their flip. -/
def flipsPending (s : State) : Nat := (s.tag.wins.toList.filter fun w => w.flipTo.isSome).length

/-- A window is due for publication: assigned, its content changed, 250 cy after the last, within 3 000 cy of its last request or
token (16 R543, R552). -/
def windowDue (s : State) (x : TagWin) : Bool :=
  x.tenant != 0 && x.flipTo.isNone && windowWords s x.tenant != x.content
    && (x.content.isEmpty || decide (x.lastPub + 250 ≤ s.clk.bndTot)) && decide (s.clk.bndTot < x.lastReq + 3000)
    && decide (flipsPending s < 4) && decide (s.tag.pubCtr < 0xFFFFFFFF)

/-- WINDOW_PUBLISH: the new content goes into a shadow frame, which then awaits its flip; a block that fails its readback twice takes
the frame out of use, event 0x3065 (16 R544, R557). -/
def execWindowPublish (w : Fin 8) (failBlock : Option Nat) (s : State) : Host.Outcome State Fault Refusal :=
  .next <|
    let x := tagWin s w
    match roleSlot s 2, freeFrame s with
    | some master, some f =>
      if !rdoWrites s || s.life.cond != .run || !windowDue s x then s
      else
        let seq := s.tag.pubCtr + 1
        let plain := windowWords s x.tenant
        let s := s.modTag fun t => { t with pubCtr := seq }
        match failBlock with
        | some b => raise 0x3065 6 255 (128 + 32 * f + b % 32) (s.modTag fun t => { t with outFrames := insertAsc f t.outFrames })
        | none =>
          modWin8 w (fun x => { x with content := plain, lastPub := s.clk.bndTot, flipTo := some f, flipSince := s.clk.bndTot, flipSeen := false })
            (putFrame f (frameWords s master seq x.tenant x.handle plain) s)
    | _, _ => s

/-- WINDOW_FLIP: the field idle and the frame left not latched, the entry flips with one block write (16 R544, R545); a program that
fails twice is retried at the next boundary, event 0x3065 (R557). -/
def execWindowFlip (w : Fin 8) (idle fail : Bool) (s : State) : Host.Outcome State Fault Refusal :=
  .next <|
    let x := tagWin s w
    match x.flipTo with
    | none => s
    | some f =>
      let held := match dirFrame s w with
        | some g => s.tag.latched.contains g
        | none => false
      if !rdoWrites s || !idle || held then s
      else if fail then raise 0x3065 6 255 (56 + w.val / 2) s
      else putDir w f 1 x.handle (modWin8 w (fun x => { x with flipTo := none }) s)

/-- FLIP_PENDING_TIMEOUT: pending for 500 cy, event 0x3063 once (16 R552). -/
def execFlipPendingTimeout (w : Fin 8) (s : State) : Host.Outcome State Fault Refusal :=
  .next <|
    let x := tagWin s w
    if x.flipTo.isSome && !x.flipSeen && decide (x.flipSince + 500 ≤ s.clk.bndTot) && rdoWrites s then
      raise 0x3063 6 255 (w.val * 2 ^ 24) (modWin8 w (fun x => { x with flipSeen := true }) s)
    else s

/-! The public area (16 R536 to R539). -/

/-- CONDITION of the hub as page 0x0001 shows it; 15 where nothing is published (01 Table 1.12, 03 R107). -/
def condCode : Cond → Nat
  | .start => 0 | .run => 1 | .noConfig => 2 | .retired => 3 | .off | .outage | .dormant | .stopped => 15

/-- Bytes of the Type 5 content: TLV, NDEF record, terminator, zeros (16 R536). -/
def ndefBytes (s : State) : List Nat :=
  [0x03, 0x1C, 0xD4, 0x09, 0x10, 0x7A, 0x68, 0x6F, 0x6C, 0x6F, 0x6E, 0x3A, 0x67, 0x79] ++ bytesLE 8 s.life.serial
    ++ bytesLE 4 ((estateId s).getD 0) ++ [nodeId s, lcCode s, condCode s.life.cond, (fitted s).length] ++ [0xFE]

/-- What a public block reads as (16 R536, Table 16.3). -/
def publicBlock (s : State) (b : Nat) : List Nat :=
  let pad := fun (bs : List Nat) => (bs ++ List.replicate 8 0).take 8
  if b = 0 then [0xE2, 0x43, 0, 1, 0, 0, 0, 7]
  else if b < 8 then pad ((ndefBytes s).drop (8 * (b - 1)))
  else if b = 8 then bytesLE 8 s.life.serial
  else if b = 9 then
    bytesLE 4 ((estateId s).getD 0) ++ [nodeId s, lcCode s, condCode s.life.cond,
      ((finList 8).map fun (j : Fin 8) => if s.ports[j].st == .admitted then 2 ^ j.val else 0).sum]
  else if b = 10 then bytesLE 4 s.img.gen ++ bytesLE 4 s.tag.pubN
  else if b = 11 then bytesLE 8 s.clk.rtcS
  else if b < 21 then pad (((wordsBytes (keySlot s 0).pub).take 65).drop (8 * (b - 12)))
  else if b < 24 then pad []
  else
    match fin? 32 (b - 24) with
    | none => pad []
    | some i =>
      if !hasPoint s i.val then pad []
      else
        let l := ((ptLabel s i.val) ++ List.replicate 6 0).take 6
        l ++ [pstCode s.cp[i].pst, b2n (ptFreeVend s i.val) + 2 * b2n (ptHlcEn s i.val) + 4 * b2n (!ptTethered s i.val)
                + 8 * b2n (s.cp[i].service == some true)]

/-- RDO programs public block b if its content differs; a program that fails twice is retried at the next boundary, event 0x3065
(16 R539, R557). -/
def putPublic (b : Nat) (fail : Bool) (s : State) : State :=
  let bs := publicBlock s b
  if tagBlock s b = bs then s
  else if fail then raise 0x3065 6 255 b (s.modTag fun t => { t with retry := insertAsc b t.retry })
  else
    let s := tagPut b bs s
    s.modTag fun t =>
      { t with retry := t.retry.filter (· != b), pubAt := match fin? 64 b with
          | some i => t.pubAt.set i s.clk.bndTot
          | none => t.pubAt }

/-- PUBLIC_AREA_UPDATE: a changed block, at most once per 50 cy; blocks 8 to 20 only when retried (16 R539, R557). -/
def execPublicAreaUpdate (b : Fin 64) (fail : Bool) (s : State) : Host.Outcome State Fault Refusal :=
  .next <|
    let free := b.val < 8 || (24 ≤ b.val && b.val < 56)
    let first := s.tag.pubAt[b] = 0
    if !rdoWrites s || !s.clk.started || 56 ≤ b.val || !(s.tag.retry.contains b.val || (free && (first || s.tag.pubAt[b] + 50 ≤ s.clk.bndTot)))
        || tagBlock s b = publicBlock s b then s
    else putPublic b fail (s.modTag fun t => { t with pubN := inc32 t.pubN })

/-- Whether field cell k holds a message that no final result answers (16 R560). -/
def cellStale (s : State) (k : Nat) : Bool :=
  let r := tagBlock s (768 + 16 * k)
  cellType s k != 0 && !(decide (2 ≤ r.getD 1 0) && natLE ((r.drop 2).take 2) == cellSeq s k)

/-- The tag at the boundary at which the hub enters RUN, NO-CONFIG or RETIRED: in RUN stale cells get STATUS 4 with event 0x3061; the
directory is cleared, every frame a shadow, and the public area written (16 R539, R560). -/
def tagAtRun (s : State) : State :=
  if !rdoWrites s then s
  else
    let stale := if s.life.cond == .run then (List.range 16).filter (cellStale s) else []
    let s := stale.foldl (fun s k => putResultHeader k (cellType s k) 4 (cellSeq s k) none s) s
    let s := raiseIf (!stale.isEmpty) 0x3061 6 255 stale.length s
    let s := (List.range 8).foldl (fun s w => putDir w 0xFF 0 0 s) s
    let s := s.modTag fun t =>
      { t with wins := Vector.replicate 8 {}, outFrames := [], latched := [], bells := t.bells.filter fun k => !stale.contains k,
               tokQ := [], reqQ := [], tokCell := [], retry := [], pubN := inc32 t.pubN }
    (List.range 56).foldl (fun s b => putPublic b false s) s

end Sys2Proof.Machine
end

