-- ==== Sys2Proof/Machine/Pages.lean ====
section
/-! DEFINITION. The observation pages that the gates publish at a cycle boundary (01 R26, R45; 15 R515): one function per page,
after the page table of its chapter. The event window 0x0700 is composed per grant (22 R749) and stands in Readout. -/

namespace Sys2Proof.Machine

/-- A page word from fields: high bit, low bit, value, of which the field takes its low bits. -/
def pw (fs : List (Nat × Nat × Nat)) : W128 := mkWord (fs.map fun f => (f.2.1, f.2.2 % 2 ^ (f.1 + 1 - f.2.1)))

/-- Signed and optional fields of 16 bits. -/
def s16 (x : Int) : Nat := satTwos 16 x
def opt16 (x : Option Nat) : Nat := x.getD 0xFFFF

/-- Bits of a map as words of 128. -/
def mapWords (n : Nat) (l : List Nat) : List W128 :=
  (List.range n).map fun j => mkWord ((l.filter fun c => c / 128 == j).map fun c => (c % 128, 1))

/-- State codes of 07 Table 7.5 and 22 Table 22.8. -/
def modCode : ModSt → Nat
  | .inService => 0 | .underTest => 1 | .spare => 2 | .suspect => 3 | .retired => 4 | .unused => 15

/-! Pages 0x0001 to 0x0030. -/

/-- Page 0x0001, life cycle and start (03 Table 3.10). -/
def pageLife (s : State) : List W128 :=
  let l := s.life
  [pw [(127, 120, lcCode s), (119, 116, condCode l.cond), (115, 112, l.nocfg), (95, 64, serviceCount s), (63, 32, sealCount s), (31, 0, l.starts)],
   pw [(127, 64, l.c0), (63, 56, l.cause), (55, 48, s.img.slot), (47, 16, s.img.gen)],
   pw [(127, 64, l.lcCount), (63, 0, l.lcRtc)]]
    ++ hashWords (l.digest.getD 0)
    ++ [match l.rst with
        | some r => pw [(127, 64, r.mark), (63, 56, b2n r.atKind), (47, 16, r.gen)]
        | none => 0#128,
        pw [(127, 120, l.bist), (119, 112, l.lanes), (111, 96, l.rows), (95, 80, l.blocks)]]

/-- Page 0x0002, identity (04 Table 4.8): the fields as they stand, STMT_COUNT and STMT_SIG of the last statement. -/
def pageIdent (s : State) : List W128 := identWords s (fld (s.keys.ident.getD 13 0) 63 0) ++ (s.keys.ident.drop 14).take 4

/-- Status codes of 04 Table 4.5. -/
def statusCode : SlotStatus → Nat
  | .empty => 0 | .loaded => 1 | .zeroised => 2 | .fault => 3

/-- Page 0x0010, key slots (04 Table 4.5). -/
def pageSlots (s : State) : List W128 :=
  s.keys.slots.toList.map fun k =>
    pw [(127, 96, k.keyId), (95, 88, k.alg), (87, 80, k.usage), (79, 64, k.masters), (63, 56, k.lcMask), (55, 54, b2n k.comm),
        (53, 52, b2n k.imported), (51, 48, statusCode k.status), (47, 16, k.gen), (15, 8, k.role)]

/-- Page 0x0011, signers and transient slots (04 Table 4.15). -/
def pageSigners (s : State) : List W128 :=
  (s.keys.wins.toList.flatMap fun w => [pw [(127, 96, w.keyId), (63, 0, w.high)], pw [(127, 64, w.map.toNat)]])
    ++ [pw [(127, 120, transHeld s .ses), (119, 112, transHeld s .rdo), (111, 104, transHeld s .boot), (103, 96, b2n s.keys.drbgStopped)]]

/-- Clock state and source codes of 02 Table 2.5. -/
def clkCode : ClkState → Nat
  | .acquire => 0 | .locked => 1 | .holdover => 2 | .free => 3 | .pullIn => 4

/-- Page 0x0020, cycle clock (02 Table 2.5). -/
def pageClock (s : State) : List W128 :=
  let c := s.clk
  [pw [(127, 64, c.count), (63, 60, clkCode c.state), (59, 58, srcNum c.src), (57, 57, b2n c.rotNeg), (56, 56, b2n c.rotKnown),
       (55, 55, b2n c.present1), (54, 54, b2n c.present2), (53, 53, b2n c.present3), (51, 48, c.slips), (47, 44, c.good),
       (31, 16, s16 c.err), (15, 0, c.fnom)],
   pw [(127, 96, (roundRat (1000000000000 / c.base)).toNat), (95, 64, c.slipTotal), (63, 32, c.outTotal), (31, 16, c.alignTotal)],
   pw [(127, 64, c.rtcS), (63, 49, c.rtcSub)]]

/-- Delivery state codes of 05 Table 5.18. -/
def dlvCode : DlvState → Nat
  | .idle => 0 | .erasing => 1 | .receiving => 2 | .verifying => 3 | .verified => 4 | .failed => 5

/-- Page 0x0030, configuration (05 Table 5.18). -/
def pageConfig (s : State) : List W128 :=
  let i := s.img
  let d := s.dlv
  [pw [(127, 120, i.slot), (119, 112, i.aRes), (111, 104, i.bRes), (95, 64, i.aGen), (63, 32, i.bGen), (31, 0, i.gen)],
   pw [(127, 96, d.id), (95, 88, dlvCode d.state), (87, 80, d.slot), (79, 72, d.reason), (63, 32, d.gen), (31, 0, d.len)],
   pw [(127, 96, d.awOff), (95, 64, d.awLen), (63, 48, d.slotMap.length), (47, 32, d.assetMap.length)],
   pw [(127, 96, i.aOff), (95, 64, i.aLen), (63, 48, i.faulty.length)], 0#128, 0#128, 0#128, 0#128]
    ++ mapWords 8 d.slotMap ++ mapWords 16 d.assetMap

/-! Pages of the heads: 0x0040 on, 0x0300 on. -/

/-- Page 0x0040 + s, measurement chain (07 Table 7.5); zero for a slot without a HEAD record. -/
def pageChain (s : State) (slot : Fin 8) : List W128 :=
  if !hasHead s slot.val then []
  else
    let h := s.meas[slot].halo
    let cov := covered s slot
    [pw [(127, 96, h.rotation), (95, 80, h.step), (79, 64, h.rotLen), (63, 40, s.ports[slot].word8.toNat / 256),
         (39, 38, (freeSpares h).length), (37, 37, b2n h.susp)]]
      ++ (h.mods.toList.map fun m =>
            pw [(127, 124, modCode m.st), (123, 119, m.serves), (118, 116, m.fails), (115, 113, m.passes), (111, 96, s16 m.gainDev),
                (95, 80, s16 m.offDev), (79, 64, s16 m.phaseDev), (63, 56, m.result), (55, 48, m.partner), (47, 0, m.atCount)])
      ++ ((finList 28).map fun (c : Fin 28) =>
            let x := s.meas[slot].chans[c]
            pw [(127, 124, chanKind s slot.val c.val), (123, 119, srcExpected s slot c.val (word8Of h)), (118, 118, b2n x.sfault),
                (117, 117, b2n (cov.contains c.val)), (95, 64, x.excRuns), (63, 32, x.ovrTicks), (31, 0, x.srcErr)])

/-- Port state codes of 06 Table 6.12. -/
def portCode : PortSt → Nat
  | .dark => 1 | .pairing => 2 | .testing => 3 | .failed => 4 | .ready => 5 | .admitted => 6 | .slow => 7

/-- Downstream word 9 from the HEAD record (06 Table 6.6): its fields stand in the same order. -/
def headSettings (s : State) (slot : Nat) : Nat := cfg s 0x30 slot 0 63 32

/-- Page 0x0300 + s, heads (06 Table 6.12); zero for a slot without a HEAD record. -/
def pageHead (s : State) (slot : Fin 8) : List W128 :=
  if !hasHead s slot.val then []
  else
    let p := s.ports[slot]
    [pw [(127, 64, headSerial s slot.val), (63, 56, portCode p.st), (31, 0, p.admits)],
     pw [(127, 96, p.crcErr), (95, 64, p.lenErr), (63, 32, p.seqErr), (31, 0, p.losses)],
     pw [(127, 96, p.bridged), (95, 64, p.gapTicks), (63, 32, p.slows), (31, 0, p.gaps)],
     pw [(127, 96, headSettings s slot.val), (95, 64, lCfg s slot.val), (63, 0, p.admitCount)],
     pw [(127, 96, sWord s slot 20), (95, 64, sWord s slot 21), (63, 32, sWord s slot 22), (31, 0, sWord s slot 23)],
     pw [(127, 96, sWord s slot 15), (95, 64, sWord s slot 14), (63, 32, sWord s slot 18), (31, 0, sWord s slot 19)]]

/-! Pages of safety, tenants, tariffs, readout. -/

/-- Page 0x0050, safety (09 Table 9.7). -/
def pageSafety (s : State) : List W128 :=
  let a := s.safe
  [pw [(127, 127, b2n a.a.out), (126, 126, b2n a.b.out), (125, 125, b2n a.monA), (124, 124, b2n a.monB), (123, 123, b2n a.estopA),
       (122, 122, b2n a.estopB), (121, 121, b2n (armed s)), (120, 120, b2n a.rstReq), (119, 112, hubLock s), (95, 64, a.lockouts),
       (63, 32, a.resets), (31, 0, a.refused)],
   pw [(127, 64, a.testCount), (63, 0, a.testRtc)]]
    ++ (finList 32).map fun (i : Fin 32) =>
      let x := s.psafe[i]
      mkWord ((stopBits s i).map fun b => (b, 1)) ||| pw
        [(127, 120, lockCause s i), (103, 88, (x.temp.map s16).getD 0x7FFF), (87, 72, opt16 x.ceilT), (71, 56, x.idc), (55, 44, x.iac),
         (43, 42, x.test), (39, 32, a.a.lockRec.n[i]), (31, 0, a.a.lockRec.atCnt[i])]

/-- Page 0x0060, tenants and authorisation (13 Table 13.12). -/
def pageTenants (s : State) : List W128 :=
  let g := s.authSys
  let bound := ((bankAt s (bankOfRole s 0)).rows.filter fun r => r.2.tenant != 0).length
  [pw [(127, 112, cfg s 0x51 0 0 127 112), (111, 80, cfg s 0x51 0 0 95 64), (79, 64, bound), (63, 48, s.led.blocks.length), (47, 32, g.replay.length)],
   pw [(127, 96, g.tokensOk), (95, 64, g.tokensRefused), (63, 32, g.fullRefusals), (31, 0, g.lost)]]
    ++ (finList 32).map fun (i : Fin 32) =>
      let a := s.auth[i]
      pw ([(103, 96, a.lastReason)] ++ match a.pend with
        | some p => [(127, 124, p.path), (119, 104, p.tenant), (63, 0, p.untilCnt)]
        | none => [])

/-- Page 0x0070, tariffs and periods (14 Table 14.7). -/
def pageTariff (s : State) : List W128 :=
  let l := s.led
  let p := l.period
  let bk := p.banks.toList.foldl (fun acc b => acc * 4 + b % 4) 0
  let open_ := (l.intents.toList.filter fun x => x.done != x.seq).length
  [pw [(127, 126, l.active), (125, 124, l.tarRead), (123, 123, b2n l.tarUnstable), (122, 120, l.tarRun), (119, 112, open_), (111, 96, l.deferred),
       (95, 64, p.no), (63, 0, l.switchCount)],
   pw [(127, 64, p.startCount), (63, 0, p.nextClose)],
   pw [(127, 64, p.nextSnap), (63, 56, l.snapNext), (55, 48, bk), (47, 32, p.sealedN), (31, 16, p.cur)],
   pw [(127, 64, l.lastSeq), (63, 32, cfg s 0x50 0 0 127 96)]]

/-- Page 0x0080, readout (15 Table 15.15). -/
def pageReadout (s : State) : List W128 :=
  let r := s.recs
  let m := s.mbus
  let first := fun (l : List Stmt) => ((l.head?).map (·.no)).getD 0
  [pw [(127, 64, r.next), (63, 0, ((r.ring.head?).map (·.1)).getD 0)],
   pw [(127, 64, first r.stmt1), (63, 48, r.stmt1.length), (47, 16, r.stmt1Period)],
   pw [(127, 64, first r.stmt2), (63, 48, r.stmt2.length), (47, 16, r.stmt2Period)],
   pw [(127, 64, first r.retire), (63, 48, r.retire.length)],
   pw [(127, 120, mbPrimary s), (119, 112, m.baud), (111, 80, mbIdent s), (79, 72, m.access), (71, 71, b2n (mbKey s).isSome),
       (70, 70, b2n m.selected), (63, 32, m.telegrams), (31, 0, m.errors)],
   pw [(127, 96, m.mode5Fail), (95, 64, m.refused), (63, 32, m.orders)], 0#128, 0#128]
    ++ r.grants.toList.flatMap fun g => [g.w0, g.w1]

/-! Pages of the fabric (22 Table 22.8). -/

/-- Page 0x0090, VE lanes. -/
def pageLanes (s : State) : List W128 :=
  let f := s.fab
  let ls := f.lanes.toList
  let soft := (f.banks.toList.map fun b => (b.rows.filter fun r => r.kind == 1 && r.spare.isSome).length).sum
  let softB := (f.spares.toList.filter fun x => x.use == 1).length
  [pw [(127, 120, (ls.filter (·.pos.isSome)).length), (119, 112, spareLanes s), (111, 104, (ls.filter (·.fused)).length),
       (103, 96, (ls.filter fun l => l.fused || l.st == .retired).length), (95, 88, f.step.pos), (87, 80, f.step.lane), (63, 0, f.step.at_)],
   pw [(127, 96, f.residue), (95, 64, f.mismatch), (63, 32, f.fails), (31, 0, f.steps)]]
    ++ (ls.map fun l =>
          pw [(127, 124, modCode l.st), (123, 119, l.pos.getD 31), (118, 118, b2n l.fused), (117, 115, l.fails), (111, 96, l.residue),
              (95, 64, l.tests), (63, 0, l.last)])
    ++ [pw [(127, 120, f.mapOk), (119, 104, soft), (103, 88, softB)]]

/-- Page 0x0091, SRAM banks. -/
def pageBanks (s : State) : List W128 :=
  s.fab.banks.toList.map fun b =>
    let used := b.rows.filter (·.spare.isSome)
    pw [(127, 124, (used.filter (·.kind == 0)).length), (123, 120, (used.filter (·.kind == 1)).length), (119, 116, 8 - used.length),
        (115, 112, (b.rows.filter (·.st == .suspect)).length), (111, 103, b.row), (102, 102, b2n b.testing), (95, 64, b.ce), (63, 32, b.ue),
        (31, 0, b.rotations)]

/-- Page 0x0092, MRAM blocks. -/
def pageBlocks (s : State) : List W128 :=
  let f := s.fab
  let n := fun u => (f.spares.toList.filter fun x => x.use == u).length
  let sp := f.spares.toList.map fun x => bits (modCode x.st) 3 0 * 2 ^ 28 + x.use % 4 * 2 ^ 26 + x.repl % 1024 * 2 ^ 16
  [pw [(127, 120, n 0), (119, 112, n 1), (111, 104, n 3), (95, 80, f.block), (63, 32, f.bce), (31, 0, f.bue)],
   pw [(127, 96, f.brot), (95, 64, f.returns)]]
    ++ (List.range 16).map fun j => mkWord ((List.range 4).map fun k => (32 * k, sp.getD (4 * j + k) 0))

/-! Pages of the points: 0x0100 on and 0x0900 on. -/

/-- Words 0 to 31 of page 0x0100 + i, metering (08 Table 8.3). -/
def pageMeter (s : State) (i : Fin 32) : List W128 :=
  let m := s.pmet[i]
  let r := m.pub
  let g := fun (l : List Nat) x => l.getD x 0
  let z := fun (l : List Int) x => satTwos 32 (l.getD x 0)
  [pw ([(127, 64, r.count), (63, 63, b2n r.valid), (62, 62, b2n (decide (0 < r.bridgedTk))), (61, 61, b2n r.gap), (60, 60, b2n r.ovr),
        (59, 59, b2n r.sfault), (58, 58, b2n (r.creep.getD 0 false)), (57, 57, b2n (r.creep.getD 1 false)), (56, 56, b2n (r.creep.getD 2 false)),
        (55, 55, b2n r.clk), (54, 54, b2n r.subst), (53, 53, b2n r.closed), (52, 52, b2n r.isPartial), (51, 50, r.quad),
        (47, 40, r.bridgedTk), (39, 32, r.gapTk), (15, 15, b2n m.set.reset)] ++ m.set.sat.map fun k => (16 + k, 16 + k, 1))]
    ++ ((List.range 3).map fun x => pw [(127, 96, g r.urms x), (95, 64, g r.irms x), (63, 32, z r.p x), (31, 0, z r.q x)])
    ++ [pw [(127, 96, g r.sx 0), (95, 64, g r.sx 1), (63, 32, g r.sx 2), (31, 0, r.dur)],
        pw [(127, 96, satTwos 32 r.psum), (95, 64, satTwos 32 r.qsum), (63, 32, r.ssum)],
        pw [(127, 96, g r.uf 0), (95, 64, g r.uf 1), (63, 32, g r.uf 2), (31, 0, r.unpe)],
        pw [(127, 64, r.incImp), (63, 0, r.incExp)]]
    ++ m.pubRegs.toList.map (fun v => BitVec.ofNat 128 v) ++ List.replicate 10 0#128

/-- Codes of 10 Table 10.9. -/
def cpCode : CpState → Nat
  | .a => 0 | .b => 1 | .c => 2 | .d => 3 | .e => 4 | .f => 5 | .unknown => 15
def cableCode : Cable → Nat
  | .none => 0 | .a13 => 13 | .a20 => 20 | .a32 => 32 | .a63 => 63 | .invalid => 0xFE | .fixed => 0xFF
def lockCode : LockSt → Nat
  | .unlocked => 0 | .locked => 1 | .locking => 2 | .unlocking => 3 | .fault => 4 | .none => 5

/-- Words 32 to 35 of page 0x0100 + i, point (10 Table 10.9). -/
def pagePoint (s : State) (i : Fin 32) : List W128 :=
  let c := s.cp[i]
  let ses := ((s.gates.ledgerSnap.find? (·.point == i.val)).map (·.session)).getD 0
  [pw [(127, 120, pstCode c.pst), (119, 112, b2n (c.service == some true)), (111, 108, cpCode c.cp), (107, 104, c.cpMode), (103, 94, c.duty),
       (87, 80, cableCode c.cable), (79, 72, lockCode c.lock), (71, 64, c.ind), (63, 48, c.pp), (31, 0, ses)],
   pw [(127, 112, s16 c.cpHi), (111, 96, s16 c.cpLo), (63, 0, c.pstAt)],
   pw [(127, 112, c.ceil), (111, 96, opt16 c.llim), (95, 80, opt16 s.psafe[i].ceilT), (79, 64, opt16 c.share), (63, 48, localCeil s i),
       (47, 32, opt16 c.veh)],
   pw [(127, 96, c.sessions), (95, 64, c.lockFaults), (63, 32, c.cpFaults), (31, 0, c.returns)]]

/-- Stage codes of 12 Table 12.4. -/
def stageCode : Stage → Nat
  | .idle => 0 | .link => 1 | .sdp => 2 | .connect => 3 | .handshake => 4 | .app => 5 | .setup => 6 | .auth => 7 | .param => 8 | .loop => 9
  | .stopping => 10 | .basic => 11

/-- Page 0x0900 + i, sessions (12 Table 12.11). -/
def pageSession (s : State) (i : Fin 32) : List W128 :=
  let x := s.ses[i]
  let y := s.sesSys
  [pw [(127, 96, x.no), (95, 88, stageCode x.stage), (87, 84, x.proto), (83, 82, x.tls), (81, 80, x.mode), (79, 76, x.path),
       (75, 75, b2n x.deferred), (74, 74, b2n x.hlcOff), (73, 72, x.strikes), (71, 64, jobsOf s i.val), (63, 48, x.tenant),
       (47, 40, x.lastReason), (31, 0, x.msgs)],
   pw [(127, 64, x.startCnt), (63, 0, x.endCnt)]]
    ++ ((bytesWords 1 x.emaid ++ [0#128]).take 1)
    ++ [pw [(127, 80, s.plc[i].mac), (79, 64, x.respLast), (63, 48, x.respMax), (47, 32, x.sdpWait)],
        pw [(127, 112, x.expCeil), (111, 96, x.demand), (95, 64, satTwos 32 x.targetP), (63, 32, x.evMaxP)],
        pw [(127, 120, y.handshakes.length), (119, 112, y.admission.length), (111, 104, s.keys.queue.length), (95, 64, y.stalls), (63, 32, y.late)]]

/-! Pages of the ledger: 0x0200 on. -/

/-- Period, tenant, class and totals of a slot in a closed bank (14 Table 14.6 words 25 to 34). -/
def closedWords (s : State) (role slot : Nat) : List W128 :=
  let b := bankOfRole s role
  let r := ledRow s b slot
  pw [(127, 96, (bankAt s b).period), (95, 80, r.tenant), (79, 78, r.cls)] :: (slotTotals r).map fun v => BitVec.ofNat 128 v

/-- Page 0x0200 + slot, ledger slots (14 Table 14.6). -/
def pageSlot (s : State) (slot : Nat) : List W128 :=
  let r := ledRow s (bankOfRole s 0) slot
  slotHeader r :: rowCells r ++ closedWords s 1 slot ++ closedWords s 2 slot

/-! Pages of the link, the load share, the display and the sentinel. -/

/-- Pages 0x0500 and 0x0501, link (18 Table 18.9). -/
def pageLink (s : State) : List W128 :=
  let l := s.lnk
  let st := match l.st with
    | .listen => 0 | .synced => 1 | .joined => 2 | .coord => 3
  [pw [(127, 120, st), (119, 119, b2n l.island), (111, 104, l.coord), (103, 96, l.parent), (95, 88, l.depth), (87, 80, l.neigh.length),
       (79, 72, l.dc), (71, 64, l.nextCoord), (63, 48, phaseP s), (47, 40, l.out.length)],
   pw [(127, 64, l.beaconCount), (63, 32, l.beaconMiss), (31, 0, l.bundleEpoch)],
   pw [(127, 96, l.authFail), (95, 64, l.dropped), (63, 32, l.retried), (31, 0, l.missed)]]

def pageNeighbours (s : State) : List W128 :=
  (s.lnk.neigh.take 32).flatMap fun n =>
    let ms := s.phy.maps.filter fun m => m.peer == n.node && m.sending && m.inUse
    let tmi := fun c => ((ms.find? fun m => tmClass m.words == c).map fun m => tmTmi m.words).getD 0
    let errs := ms.foldl (fun (a : Nat) m => max a (m.errWin.filter id).length) 0
    let con := match n.k with
      | some k => [(103, 100, conductorOf (rotPositive s) k), (99, 99, k % 2)]
      | none => []
    [pw ([(127, 120, n.node), (119, 112, n.depth), (111, 104, n.parent), (95, 80, (n.phase + 65536 - phaseP s) % 65536), (79, 72, n.quality),
          (71, 64, n.fails), (63, 0, n.serial)] ++ con),
     pw [(127, 96, n.tmGen), (95, 92, tmi 1), (91, 88, tmi 2), (87, 84, tmi 3), (71, 64, errs), (63, 0, n.lastCount)]]

/-- Three 16-bit values from a high bit down. -/
def three (hi : Nat) (l : List Nat) : List (Nat × Nat × Nat) :=
  [(hi, hi - 15, l.getD 0 0), (hi - 16, hi - 31, l.getD 1 0), (hi - 32, hi - 47, l.getD 2 0)]

/-- Pages 0x0600 to 0x0602, load share (19 Table 19.7). -/
def pageShare (s : State) : List W128 :=
  let h := s.share
  [pw [(127, 64, h.srcEpoch), (63, 56, h.source), (55, 52, ownFeeder s), (51, 51, b2n h.llim), (50, 50, b2n h.scaled), (49, 49, b2n h.term3)],
   pw (three 127 h.h ++ three 79 h.dSent),
   pw (three 127 h.lim ++ [(79, 64, h.present), (63, 32, h.held), (31, 0, h.fallbacks)])]

def pageAlloc (s : State) (n : Nat) : List W128 :=
  (List.range 64).map fun w => mkWord ((List.range 2).map fun k =>
    (64 * k, match (s.share.rows.drop (128 * n + 2 * w + k)).head? with
      | some r => (pw ([(63, 56, r.node), (55, 54, r.floorCase)] ++ three 47 r.a)).toNat
      | none => 0))

/-- Frame rate of the configured timing, 0.01 Hz, truncated; SDCLK is 200 MHz over SDCLK_DIV (20 R665, Table 20.1). -/
def frameRate (s : State) : Nat :=
  let d := dispFld s 0
  let ppc := if d 103 103 = 1 then 8 else 4
  let periods := (d 63 56 + d 115 104 + d 55 48) * (d 87 80 + d 79 72 + d 127 116 / ppc + d 71 64)
  100 * 200000000 / (d 95 88 * periods)

/-- Page 0x0800, display (20 Table 20.8). -/
def pageDisplay (s : State) : List W128 :=
  let e := s.epd
  [pw [(127, 124, e.panel), (123, 120, e.model), (119, 119, b2n e.romLayout), (118, 118, b2n e.romFont), (117, 117, b2n e.builtin),
       (116, 115, e.ll), (114, 112, runningN s), (111, 96, (e.temp.map s16).getD 0x8000), (95, 92, e.band), (91, 84, e.queue.length),
       (79, 64, frameRate s), (63, 48, dispFld s 0 47 32), (47, 16, e.updates), (15, 0, e.faults)]]
    ++ (e.regions.toList.map fun r =>
          pw [(127, 116, r.rect.x), (115, 104, r.rect.y), (103, 92, r.rect.w), (91, 80, r.rect.h), (79, 76, r.mode), (75, 72, r.band),
              (71, 64, r.frame), (63, 56, r.frames), (55, 55, b2n r.active), (47, 0, r.startCnt)])
    ++ [pw [(127, 64, e.fullCount), (63, 32, ((modelTaken s).map (·.gen)).getD 0)]]

/-- A tamper record word (21 below Table 21.11). -/
def tamperWord (r : TRec) : W128 :=
  if r.count = 0 then 0#128
  else pw [(127, 112, r.count), (111, 111, b2n r.firstInv), (110, 56, r.first), (55, 55, b2n r.lastInv), (54, 0, r.last)]

/-- Page 0x0400, sentinel and gauge (21 Table 21.11). `none_`: what ACTIVE_SECTOR shows while no sector is active. -/
def pageSentinel (none_ : Nat) (s : State) : List W128 :=
  let e := s.sen
  let j := s.jrn
  let t := s.tamper
  let n := fun (st : JSecSt) => (j.secs.filter fun x => x.2.st == st).length
  let exc := (finList 8).map fun (k : Fin 8) =>
    tamperWord { t.exc[k] with count := min 0xFFFF ((t.excN.toList.drop (28 * k.val)).take 28).sum }
  [pw [(127, 124, e.level), (123, 120, permitLevel s), (119, 112, e.pct), (111, 96, e.vStore), (95, 80, e.vQuick), (79, 79, b2n e.vsent),
       (78, 78, b2n e.pvOn), (77, 77, b2n e.field), (76, 76, b2n e.cellOn), (75, 75, b2n e.deepChg), (71, 71, b2n e.cellLow),
       (70, 70, b2n e.rtcValid), (69, 69, b2n e.xtalFault), (63, 48, e.pvMv), (31, 0, e.coldStarts)],
   pw [(127, 64, e.outRtc), (63, 0, e.outCount)],
   pw [(127, 64, e.retRtc), (63, 32, e.dormantS), (31, 0, e.outages)],
   pw [(127, 120, e.steps), (119, 112, e.mlCause), (111, 104, e.charging), (63, 0, twos 64 e.setStep)],
   pw [(127, 112, j.active.getD none_), (111, 96, n .erased), (95, 80, n .full), (79, 64, j.suspectN), (63, 16, j.next)],
   pw [(127, 80, j.oldJseq), (79, 16, j.oldSeal)],
   tamperWord t.cover, tamperWord t.term, tamperWord t.clock]
    ++ t.headRem.toList.map tamperWord ++ t.slotChg.toList.map tamperWord ++ exc
    ++ (List.range 28).map fun w => mkWord ((List.range 8).map fun k => (16 * k, min 0xFFFF (t.excN.toList.getD (8 * w + k) 0)))

/-! Publication. -/

/-- A page without its trailing zero words. -/
def trimPage (ws : List W128) : List W128 := (ws.reverse.dropWhile (· == 0#128)).reverse

/-- Every page but the event window. -/
def allPages (none_ : Nat) (s : State) : List (Nat × List W128) :=
  [(0x0001, pageLife s), (0x0002, pageIdent s), (0x0010, pageSlots s), (0x0011, pageSigners s), (0x0020, pageClock s), (0x0030, pageConfig s)]
    ++ ((finList 8).map fun (k : Fin 8) => (0x0040 + k.val, pageChain s k))
    ++ [(0x0050, pageSafety s), (0x0060, pageTenants s), (0x0070, pageTariff s), (0x0080, pageReadout s), (0x0090, pageLanes s),
        (0x0091, pageBanks s), (0x0092, pageBlocks s)]
    ++ ((finList 32).map fun (i : Fin 32) => (0x0100 + i.val, pageMeter s i ++ pagePoint s i))
    ++ ((List.range 256).map fun k => (0x0200 + k, pageSlot s k))
    ++ ((finList 8).map fun (k : Fin 8) => (0x0300 + k.val, pageHead s k))
    ++ [(0x0400, pageSentinel none_ s), (0x0500, pageLink s), (0x0501, pageNeighbours s), (0x0600, pageShare s), (0x0601, pageAlloc s 0),
        (0x0602, pageAlloc s 1), (0x0800, pageDisplay s)]
    ++ ((finList 32).map fun (i : Fin 32) => (0x0900 + i.val, pageSession s i))

/-- The gates publish: the LEDGER gate's bindings, block list and tariff, then every page, with the count of the boundary and the event
number up to which the event window reaches (01 R26, Table 1.5; 15 R515; 22 R749). What ACTIVE_SECTOR shows while no sector is
active is stated nowhere: a free value. -/
def publishAll (s : State) : State :=
  let s := publishLedger s
  let d := draw s
  let s := d.2
  let ps := (allPages (d.1 % 2 ^ 16) s).map fun p => (p.1, trimPage p.2)
  s.modGates fun g => { g with snapCount := s.clk.count, pages := ps, evMark := s.ev.next }

end Sys2Proof.Machine
end

