-- ==== Sys2Proof/Machine/Boundary.lean ====
section
/-! DEFINITION. The cycle boundary: what every boundary does in the order of 02 Table 2.4, the first boundary of a start, a count alignment, and
the supervision that runs on published cycles (spec/02 R68 to R77; spec/03 R87, R107; spec/09 R302, R309 to R312, R322; spec/21 R713). -/

namespace Sys2Proof.Machine

/-! Thermal supervision (09 R311, R312). -/

/-- Mean of a PT1000 input over the cycle, 0.1 °C, none without a value. -/
def ptMean (sum : Int) (n : Nat) : Option Rat := if n = 0 then none else some ((sum : Rat) / (n : Rat))

/-- The higher of two means. -/
def maxMean : Option Rat → Option Rat → Option Rat
  | some a, some b => some (if a < b then b else a)
  | some a, none => some a
  | none, b => b

/-- The derating ceiling of a temperature between T1 and T2, 0.1 A, rounded down (09 R312). -/
def deratedCeil (s : State) (i : Fin 32) (t : Rat) : Nat :=
  let t1 : Rat := t1Cfg s
  let t2 : Rat := t2Cfg s
  (truncRat ((ptIMax s i.val : Rat) * (t2 - t) / (t2 - t1))).toNat

/-- A new ceiling is published when it differs by 0.5 A or more (09 R312). -/
def ceilMoves (old : Option Nat) (c : Nat) : Bool :=
  match old with
  | none => true
  | some o => decide (o + 5 ≤ c) || decide (c + 5 ≤ o)

/-- DERATING: it begins at T1 with event 0x1150 and ends at T1 - 2.0 °C with event 0x1151; in between the ceiling follows T between T1 and T2
in changes of 0.5 A or more (09 R312). `t`: the temperature of the ended cycle. -/
def derateAt (i : Fin 32) (t : Rat) (s : State) : State :=
  let arg := satTwos 32 t.floor
  let x := s.psafe[i]
  if !x.derating && decide (t < (t1Cfg s : Rat)) then s
  else if x.derating && decide (t ≤ (t1Cfg s : Rat) - 20) then
    raise 0x1151 0x10 i.val arg (s.modPsafe i fun x => { x with derating := false, ceilT := none })
  else
    let s := if x.derating then s else raise 0x1150 0x10 i.val arg (s.modPsafe i fun x => { x with derating := true })
    if t < (t1Cfg s : Rat) || (t2Cfg s : Rat) ≤ t then s
    else
      let c := deratedCeil s i t
      if ceilMoves s.psafe[i].ceilT c then s.modPsafe i fun x => { x with ceilT := some c } else s

/-- The point temperature of the ended cycle, the higher mean of its fitted inputs, with the runs that T2 is judged on (09 R311). The page
shows it rounded down (log entry 42); a cycle without a value changes nothing. DESIGN CHOICE. -/
def thermBoundary (i : Fin 32) (s : State) : State :=
  let x := s.psafe[i]
  let slot := slotOf i
  let fit := ptFitted s slot (2 * (posOf i).val) || ptFitted s slot (2 * (posOf i).val + 1)
  let m := maxMean (ptMean x.tSum0 x.tN0) (ptMean x.tSum1 x.tN1)
  let s := s.modPsafe i fun x => { x with tSum0 := 0, tSum1 := 0, tN0 := 0, tN1 := 0, temp := if fit then x.temp else none }
  match m with
  | none => s
  | some t =>
    let hi := decide ((t2Cfg s : Rat) ≤ t)
    let lo := decide (t < (t2Cfg s : Rat) - 50)
    derateAt i t (s.modPsafe i fun x =>
      { x with temp := some t.floor, t2Run := if hi then min 2 (x.t2Run + 1) else 0, t2Low := if lo then min 3000 (x.t2Low + 1) else 0 })

/-! Supervision on published cycles (09 R302, R309). -/

/-- Runs of published cycles commanded open with 50 V or more on a phase (09 R302). -/
def weldBoundary (i : Fin 32) (s : State) : State :=
  s.modPsafe i fun x =>
    let p := s.pmet[i].pub
    { x with weldRun := if p.valid && p.cmdOpen && p.urms.any (fun u => decide (50000 ≤ u)) then min 2 (x.weldRun + 1) else 0 }

/-- Runs of snapshots with UNPE above NPE_MAX, and at most NPE_MAX - 5 V (09 R309). -/
def npeBoundary (slot : Fin 8) (s : State) : State :=
  let p := s.pmet[ptIdx slot 0].pub
  let hi := p.valid && decide (npeMax s * 1000 < p.unpe)
  let lo := p.valid && decide (p.unpe + 5000 ≤ npeMax s * 1000)
  s.modSafe fun x =>
    { x with npeHi := x.npeHi.set slot (if hi then min 2 (x.npeHi[slot] + 1) else 0)
             npeLo := x.npeLo.set slot (if lo then min 250 (x.npeLo[slot] + 1) else 0) }

/-- The SSMs at a boundary: what the published cycle shows, and the lock-out criteria of the ended cycle (09 R302, R309, R315). -/
def safetyBoundary (s : State) : State :=
  let s := (finList 32).foldl (fun s (i : Fin 32) => weldBoundary i s) s
  let s := (finList 8).foldl (fun s (k : Fin 8) => npeBoundary k s) s
  let s := (finList 32).foldl (fun s (i : Fin 32) => s.modPsafe i fun x => { x with condPrev := x.condNow, condNow := [] }) s
  s.modSafe fun x => { x with condHubPrev := x.condHub, condHub := [] }

/-! Time (02 R68, R69, R75; 09 R322; 14 R485). -/

/-- 00:00 UTC lies between two latches: the rail test falls due (09 R322). -/
def midnight (old : Nat) (s : State) : State :=
  if s.sen.rtcValid && s.life.cond == .run && decide (old / 86400 < s.clk.rtcS / 86400) then s.modSafe fun x => { x with testDue := true } else s

/-- Actions tied to an RTC instant, judged against the latched RTC (02 R68, R75): closes and snapshots, replay entries. -/
def rtcActions (s : State) : State :=
  let s := if s.life.cond = .run then ledDue s else s
  replayBoundary s

/-- Whether a time set applies at the boundary that opened the cycle in progress (02 R69). -/
def setDue (s : State) : Bool :=
  match s.sen.pend with
  | some t => decide (t.bnd < s.clk.bndTot)
  | none => false

/-! The count (02 R57, R76, R77). -/

/-- A count alignment is due at the next boundary: the estate counts ahead, and with it that boundary opens an epoch (02 R76). -/
def alignDue (s : State) : Bool :=
  s.clk.started && decide (0 < s.lnk.countDiff) && s.lnk.st != .listen && s.life.cond == .run && !s.sen.mlSig
    && decide (((s.clk.count : Int) + 1 + s.lnk.countDiff) % 64 = 0)

/-- The count that the next boundary opens (02 R57, R76, R82). -/
def nextCount (s : State) : Nat :=
  if !s.clk.started then s.life.c0
  else if alignDue s then s.clk.count + 1 + s.lnk.countDiff.toNat
  else s.clk.count + 1

/-- Event 0x7116 of an alignment that skipped counts (02 R76). -/
def noteAlign (skipped : Nat) (s : State) : State :=
  if skipped = 0 then s
  else
    let s := s.modClk fun c => { c with alignTotal := inc16 c.alignTotal }
    raise 0x7116 1 255 (min skipped (2 ^ 32 - 1)) (s.modLnk fun l => { l with countDiff := 0 })

/-! The first boundary of a start (03 R87, R107; 21 R713). -/

/-- Put events with count C0 into the ring, under their own bound (22 R746). -/
def putAtC0 (es : List EventRec) (s : State) : State := es.foldl (fun s e => evPut { e with count := s.life.c0 } s) s

/-- What the start held is written at C0: after OUTAGE or DORMANT the sentinel buffer, its lost count and event 0x7122 first, then the held
events, then the count of those not held (03 R87; 21 R713; 22 R746). -/
def flushC0 (s : State) : State :=
  let one := fun (code source arg : Nat) => [({ count := 0, code, source, point := 255, arg := arg % 2 ^ 32 } : EventRec)]
  let s := putAtC0 s.sen.buf s
  let s := if s.sen.bufLost = 0 then s else putAtC0 (one 0x9060 0 (2 ^ 30 + min s.sen.bufLost (2 ^ 30 - 1))) s
  let s := if s.life.cause = 7 then putAtC0 (one 0x7122 8 (min s.sen.dormantS (2 ^ 32 - 1))) s else s
  let s := putAtC0 s.ev.held s
  let s := if s.ev.heldDrop = 0 then s else putAtC0 (one 0x9060 0 (2 ^ 31 + min s.ev.heldDrop (2 ^ 30 - 1))) s
  let s := s.modEv fun v => { v with held := [], heldDrop := 0 }
  s.modSen fun v => { v with buf := [], bufLost := if s.life.cond == .start then v.bufLost else 0 }

/-- The stamp of a cell burnt during the start (03 R107). -/
def stampC0 (s : State) : State :=
  if s.life.lcAtC0 then s.modLife fun l => { l with lcAtC0 := false, lcCount := s.clk.count, lcRtc := s.clk.rtcS } else s

/-- Boundary C0 of a start: the events held, the stamp, the pending close, and outside a start toward RUN the panel and the tag
(03 R86, R87, R107, R116; 14 R503; 16 R560; 20 R693). -/
def firstBoundary (s : State) : State :=
  let s := stampC0 (flushC0 s)
  let s := if s.life.cond = .start then
      s.modLife fun l => { l with step := max l.step 7 }
    else s
  let s := if s.life.cond = .start then ledAtC0 s else tagAtRun (epdRom s)
  identStatement true s

/-! Every boundary. -/

/-- MET takes note of the cycle that has ended: its window is closed (02 Table 2.4 item 2; 08 R260). -/
def closeWindow (s : State) : State :=
  let unlocked := s.clk.state != .locked
  match s.clk.lens with
  | [] => s.modMet fun m => { m with unlockedNow := unlocked }
  | e :: _ =>
    let info : CycInfo := { idx := s.clk.bndTot - 2, count := e.1, lenUs := e.2, unlocked := s.met.unlockedNow || unlocked, tariff := s.led.active }
    s.modMet fun m => { m with todo := if m.closedOut then m.todo else m.todo ++ [info], unlockedNow := unlocked }

/-- A cycle in which the hub was not SEALED takes the legal flag from the period and from the open bindings (03 R99, 15 R508). -/
def legalBoundary (s : State) : State :=
  if lcCode s = 3 then s
  else
    let s := s.modRecs fun r => { r with unsealedPeriod := true }
    (finList 32).foldl (fun s (i : Fin 32) => modBind i (fun b => { b with startSealed := false }) s) s

/-- Heartbeats of the ended cycle (01 R46). -/
def heartBoundary (silent : List EngineId) (s : State) : State :=
  silentOf silent [.boot, .met, .led, .ses, .lnk, .rdo, .dsp] s
where
  /-- Count the missing heartbeat of each engine that runs. -/
  silentOf (silent es : List EngineId) (s : State) : State :=
    es.foldl (fun s e => s.modEng fun x =>
      let k := engIdx e
      { x with sts := x.sts.set k { x.sts[k] with missed := if engRuns s.life.cond e && silent.contains e then x.sts[k].missed + 1 else 0 } }) s

/-- What RUN does at a boundary, in the order of 02 Table 2.4: windows and safety first, then authorisations, sessions, pilots and heads,
the link, the fabric, and last what the gates publish and the journal takes. -/
def runBoundary (jFails : Nat) (s : State) : State :=
  let s := legalBoundary (closeWindow s)
  let s := tarBoundary s
  let s := (finList 32).foldl (fun s (i : Fin 32) => thermBoundary i s) s
  let s := authBoundary s
  let s := sesBoundary (llimBoundary s)
  let s := splitBoundary s
  let s := pilotBoundary s
  let s := linkBoundary (phyBoundary s)
  let s := haloBoundary (pipeBoundary (portBoundary s))
  let s := safetyBoundary (publishResult (fabBoundary s))
  let s := s.modTag fun t => { t with takenCy := 0 }
  let s := s.modLed fun l => { l with intentsNow := 0, defSeen := false }
  let s := dspModel (dspMark s)
  if s.sen.mlSig then s
  else jrnUpkeep (eventsJournal 4 jFails (sealsJournal (sealStatements (sealSessions s))))

/-- What START does at a boundary: the ports run, the inputs of tariff and LLIM are sampled, nothing is metered or booked (03 R87); the
SSMs supervise. -/
def startBoundary (s : State) : State :=
  let s := llimBoundary (tarBoundary s)
  let s := safetyBoundary ((finList 32).foldl (fun s (i : Fin 32) => thermBoundary i s) s)
  portBoundary (s.modMet fun m => { m with unlockedNow := s.clk.state != .locked })

/-- What the conditions without charging do at a boundary: RDO and DSP serve (01 Table 1.12). -/
def idleBoundary (s : State) : State := dspModel (dspMark (s.modTag fun t => { t with takenCy := 0 }))

/-- A cycle boundary at which the clock opens count k (02 R68, R72): time passes and is latched, the event unit begins a cycle, and each
condition does what it does. The gates publish at the end; in OUTAGE nothing is published. -/
def boundary (k skipped : Nat) (o : BndObs) (s : State) : State :=
  let old := s.clk.rtcS
  let s := clkBoundary k (passTime o.adv s)
  let s := if s.clk.bndTot = 1 then evBoundary (firstBoundary s) else noteAlign skipped (evBoundary s)
  let s := midnight old (if setDue s then s else rtcActions s)
  let s := heartBoundary o.silent s
  if s.sen.mlSig then s
  else
    let s := if s.life.cond = .run then runBoundary o.jFails s
      else if s.life.cond = .start then startBoundary s
      else idleBoundary s
    publishAll (identStatement false s)

/-- Whether the hub's clock makes boundaries: it has left ACQUIRE and the hub is powered and started (02 R57; 03 R86). -/
def clockRuns (s : State) : Bool :=
  s.clk.state != .acquire && s.elec.supplyOk
    && (s.life.cond == .run || s.life.cond == .noConfig || s.life.cond == .retired || s.life.cond == .outage
      || (s.life.cond == .start && decide (6 ≤ s.life.step)))

/-- CYCLE_BOUNDARY: the actions due take effect in the order of 02 Table 2.4 (02 R72); a count alignment that is due comes with it
(log entry 43). DESIGN CHOICE. -/
def execCycleBoundary (o : BndObs) (s : State) : Host.Outcome State Fault Refusal :=
  .next <|
    if !clockRuns s then s
    else
      let k := nextCount s
      boundary k (if s.clk.started then k - (s.clk.count + 1) else 0) o s

/-- COUNT_ALIGNMENT: at the boundary that qualifies the count moves forward to the estate count, event 0x7116 (02 R76, R77). -/
def execCountAlignment (o : BndObs) (s : State) : Host.Outcome State Fault Refusal :=
  .next <|
    if clockRuns s && alignDue s then
      let k := nextCount s
      boundary k (k - (s.clk.count + 1)) o s
    else s

end Sys2Proof.Machine
end

