-- ==== Sys2Proof/Machine/PowerLine.lean ====
section
/-! DEFINITION. Power-line link to the vehicle: the head's transmit and receive side, its pipes, the hub's tunnel reports and
SLAC (spec/11). -/

namespace Sys2Proof.Machine

/-! The head (11 R371 to R373, R378, R379, R381, R384, R385, R392). -/

/-- Change the power-line side of one point inside its head. -/
def modHeadPlc (i : Fin 32) (f : HeadPlc → HeadPlc) (s : State) : State :=
  s.modHpipes (slotOf i) fun x => { x with pts := x.pts.set (posOf i) (f x.pts[posOf i]) }
def headPlc (s : State) (i : Fin 32) : HeadPlc := s.hpipes[slotOf i].pts[posOf i]

/-- A head is powered and paired. -/
def headUp (s : State) (i : Fin 32) : Bool := s.heads[slotOf i].on && s.heads[slotOf i].pair == .paired

/-- A TX_REPORT descriptor (11 Table 11.3). -/
def txReport (tick tag attempts result free : Nat) : Mpdu :=
  { desc := tick % 65536 * 2 ^ 48 + tag * 2 ^ 40 + attempts % 8 * 2 ^ 37 + result * 2 ^ 32 + free * 2 ^ 28 + 0x20, body := [] }

/-- Queue a report in the upstream tunnel of a point. -/
def headReport (i : Fin 32) (m : Mpdu) (s : State) : State := modHeadPlc i (fun x => { x with up := x.up ++ [m] }) s

/-- PB count of an MPDU of a mode and a length, none where 11 R378 is broken. -/
def pbCount (mode len : Nat) : Option Nat :=
  if mode = 0 then (if len = 16 + 136 then some 1 else none)
  else if mode = 1 || mode = 2 then
    if 16 + 520 ≤ len && len ≤ 16 + 5 * 520 && (len - 16) % 520 = 0 then some ((len - 16) / 520) else none
  else none

/-- HEAD_TX_MPDU: a TX_MPDU message has arrived whole; `long`: over 2 624 bytes or broken off by a new SOM (11 R373, R378, R392). -/
def execHeadTxMpdu (point : Fin 32) (desc : Nat) (body : List (BitVec 8)) (long : Bool) (s : State) : Host.Outcome State Fault Refusal :=
  .next <|
    if !headUp s point then s
    else
      let x := headPlc s point
      let tick := s.heads[slotOf point].rxTick
      let tag := bits desc 47 40
      let txTick := bits desc 63 48
      let passed := bitOf desc 34 && decide (txTick ≠ tick) && decide (32768 ≤ (txTick + 65536 - tick) % 65536)
      if long || (pbCount (bits desc 33 32) body.length).isNone then headReport point (txReport tick tag 0 4 (8 - x.tx.length)) s
      else if passed then headReport point (txReport tick tag 0 3 (8 - x.tx.length)) s
      else if 8 ≤ x.tx.length then s
      else modHeadPlc point (fun x => { x with tx := x.tx ++ [{ desc, body }] }) s

/-- HEAD_TX_FILTER: gain codes for COUNT carriers from FIRST and the level trim; a message out of range loads nothing
(11 R371, Table 11.3). -/
def execHeadTxFilter (point : Fin 32) (desc : Nat) (codes : List Nat) (s : State) : Host.Outcome State Fault Refusal :=
  .next <|
    let first := bits desc 63 48
    let n := bits desc 47 32
    let trim := ofTwos 8 (bits desc 31 24)
    if !headUp s point || first < 74 || n = 0 || 1229 < first + n || codes.length ≠ n || codes.any (fun c => decide (81 < c))
        || trim < -12 || 6 < trim then s
    else modHeadPlc point (fun x =>
      let old := if x.filt.isEmpty then (List.range 1155).map fun c => if Config.toneMask (74 + c) then 1 else 0 else x.filt
      { x with trim, filt := (List.range 1155).map fun c =>
          if first ≤ 74 + c && 74 + c < first + n then codes.getD (74 + c - first) 0 else old.getD c 0 }) s

/-- Flush the transmit buffers: each MPDU is reported with RESULT 5; the attempts made are not stated (log entry 4). -/
def flushTx (i : Fin 32) : List Mpdu → State → State
  | [], s => s
  | m :: ms, s =>
    let (v, s) := draw s
    let s := modHeadPlc i (fun x => { x with tx := ms }) s
    flushTx i ms (headReport i (txReport s.heads[slotOf i].rxTick (bits m.desc 47 40) (v % 8) 5 (8 - ms.length)) s)

/-- HEAD_NET_SET: the logical network of the point is set, or cleared with its transmit buffers flushed (11 R373, Table 11.3). -/
def execHeadNetSet (point : Fin 32) (desc : Nat) (s : State) : Host.Outcome State Fault Refusal :=
  .next <|
    if !headUp s point then s
    else
      let valid := bitOf desc 35
      let s := modHeadPlc point (fun x => { x with tei := bits desc 47 40, snid := bits desc 39 36, valid }) s
      if valid then s else flushTx point (headPlc s point).tx s

/-- HEAD_PIPE_SWAP: pipe 4 starts shadowing the point (11 R384). -/
def execHeadPipeSwap (point : Fin 32) (s : State) : Host.Outcome State Fault Refusal :=
  .next <|
    let x := s.hpipes[slotOf point]
    if headUp s point && x.spareFor = 7 && x.handTo.isNone && (match x.testing with | some t => t.1 != 4 | none => true) then
      s.modHpipes (slotOf point) fun x => { x with handTo := some 4, handPt := (posOf point).val }
    else s

/-- HEAD_PIPE_RETURN: the home pipe starts shadowing its point again (11 R384). -/
def execHeadPipeReturn (point : Fin 32) (s : State) : Host.Outcome State Fault Refusal :=
  .next <|
    let x := s.hpipes[slotOf point]
    if headUp s point && x.spareFor = (posOf point).val && x.handTo.isNone then
      s.modHpipes (slotOf point) fun x => { x with handTo := some (posOf point).val, handPt := (posOf point).val }
    else s

/-- HEAD_PIPE_HANDOVER: after 128 tk of shadowing, at the first idle instant, the point is handed to the new pipe (11 R384). -/
def execHeadPipeHandover (slot : Fin 8) (s : State) : Host.Outcome State Fault Refusal :=
  .next <|
    match s.hpipes[slot].handTo with
    | some p => s.modHpipes slot fun x => { x with spareFor := if p = 4 then x.handPt else 7, handTo := none, handPt := 7 }
    | none => s

/-- A pipe of a head serves a point. -/
def pipeServes (x : HeadPipes) (p : Nat) : Bool := if p = 4 then x.spareFor != 7 || x.handTo == some 4 else x.spareFor != p || x.handTo == some p

/-- HEAD_PIPE_TEST: a free pipe is fed from the internal generator; a serving pipe is never tested (11 R385). -/
def execHeadPipeTest (point : Fin 32) (pipe : Fin 5) (s : State) : Host.Outcome State Fault Refusal :=
  .next <|
    let x := s.hpipes[slotOf point]
    if headUp s point && !pipeServes x pipe.val && x.testing.isNone then
      s.modHpipes (slotOf point) fun x => { x with testing := some (pipe.val, (posOf point).val) }
    else s

/-- HEAD_PIPE_TEST_DONE: the 32 frames have been sent; the test passes when all decode and the level lies within +-2 dB of 55 dB below
the reference, given in tenths of a dB (11 R385). -/
def execHeadPipeTestDone (slot : Fin 8) (frames : Fin 33) (level tick : Nat) (s : State) : Host.Outcome State Fault Refusal :=
  .next <|
    match s.hpipes[slot].testing with
    | some (p, pt) =>
      let pass := frames.val = 32 && decide (530 ≤ level) && decide (level ≤ 570)
      let s := s.modHpipes slot fun x =>
        { x with testing := none, ok := match fin? 5 p with | some k => x.ok.set k pass | none => x.ok }
      let d := tick % 65536 * 2 ^ 48 + (if pass then 1 else 2) * 2 ^ 32 + frames.val * 2 ^ 24 + p * 2 ^ 8 + 0x12
      match fin? 4 pt with
      | some q => headReport (ptIdx slot q) { desc := d, body := [] } s
      | none => s
    | none => s

/-- HEAD_MPDU_RECEIVED: forwarded when every check passes and it is a broadcast or belongs to the point's network; a ninth is dropped
with a negative SACK (11 R372, R373, R378, R381). `level` in dB below the reference. -/
def execHeadMpduReceived (point : Fin 32) (tick level mode : Nat) (bcast : Bool) (snid tei : Nat) (body : List (BitVec 8)) (good : Bool)
    (s : State) : Host.Outcome State Fault Refusal :=
  .next <|
    let x := headPlc s point
    let mine := x.valid && snid = x.snid && tei = x.tei
    match pbCount mode body.length with
    | none => s
    | some n =>
      if !headUp s point || (!bcast && !mine) then s
      else if !good then modHeadPlc point (fun x => if bcast then x else { x with sack := some false }) s
      else if 8 ≤ x.rx.length then
        modHeadPlc point (fun x => { x with drops := satAdd 8 x.drops 1, sack := if bcast then x.sack else some false }) s
      else
        let pipe := if s.hpipes[slotOf point].spareFor = (posOf point).val then 4 else (posOf point).val
        let d := tick % 65536 * 2 ^ 48 + level % 256 * 2 ^ 40 + n * 2 ^ 32 + x.drops * 2 ^ 24 + mode * 2 ^ 16 + pipe * 2 ^ 8 + 0x10
        modHeadPlc point (fun x =>
          { x with rx := x.rx ++ [{ desc := d, body }], up := x.up ++ [{ desc := d, body }], drops := 0, sack := if bcast then x.sack else some true }) s

/-- HEAD_TX_COMPLETE: a transmission of the oldest buffer ends; without a positive SACK it is sent again up to RETRY times
(11 R373, Table 11.3). `result`: 0 acknowledged, 1 broadcast sent, 2 negative SACK, 3 no SACK. -/
def execHeadTxComplete (point : Fin 32) (tick : Nat) (attempts : Fin 8) (result : Fin 4) (s : State) : Host.Outcome State Fault Refusal :=
  .next <|
    match (headPlc s point).tx with
    | [] => s
    | m :: ms =>
      if !headUp s point || (2 ≤ result.val && decide (attempts.val + 1 ≤ bits m.desc 39 37)) then s
      else
        headReport point (txReport tick (bits m.desc 47 40) (attempts.val + 1) result.val (8 - ms.length))
          (modHeadPlc point (fun x => { x with tx := ms }) s)

/-! The hub: reports of the tunnel (11 R376, R380, R383, R386, R390). -/

/-- A message of a head reached SES: it leaves the head's upstream queue. -/
def upTaken (i : Fin 32) (s : State) : State := modHeadPlc i (fun x => { x with up := x.up.drop 1 }) s

/-- RX_MPDU: SES takes a received MPDU; the head's buffer is free again; event 0x4205 at the first drop of a run (11 R376, R379,
Table 11.7). A stalled session's MPDUs wait undecoded (12 R420). -/
def execRxMpdu (point : Fin 32) (desc : Nat) (body : List (BitVec 8)) (s : State) : Host.Outcome State Fault Refusal :=
  .next <|
    if !portRuns s.ports[slotOf point] then s
    else
      let s := modHeadPlc point (fun x => { x with rx := x.rx.drop 1 }) (upTaken point s)
      let drops := bits desc 31 24
      let first := drops ≠ 0 && s.plc[point].dropQuiet.isNone
      let s := raiseIf first 0x4205 4 point.val drops s
      s.modPlc point fun x =>
        { x with dropQuiet := if drops ≠ 0 then some 0 else x.dropQuiet
                 rx := if s.ses[point].stalled then x.rx ++ [{ desc, body }] else [] }

/-- SOUND_REPORT: attenuation of the groups for a sound MPDU of the run (11 R390). -/
def execSoundReport (point : Fin 32) (tick : Nat) (atten : List Nat) (s : State) : Host.Outcome State Fault Refusal :=
  .next <|
    let x := s.plc[point]
    if x.slac = .sounding && decide (x.sounds.length < 10) then
      (upTaken point s).modPlc point fun x =>
        { x with sounds := x.sounds ++ [{ tick := tick % 65536, atten := (List.range 58).map fun g => min 255 (atten.getD g 0) }] }
    else upTaken point s

/-- A pipe returns to service. -/
def pipeBack (slot : Fin 8) (p : Fin 5) (s : State) : State :=
  let s := modPipe slot p (fun y => { y with st := if p = 4 then .spare else .inService, fails := 0, passes := 0 }) s
  let s := s.modPipes slot fun x => { x with returnDue := x.returnDue || x.spareFor == p.val }
  match fin? 4 p.val with
  | some q => s.modPlc (ptIdx slot q) fun x => { x with noHlc := false }
  | none => s

/-- PIPE_TEST_REPORT: the pipe moves by 11 Table 11.4. -/
def execPipeTestReport (slot : Fin 8) (desc : Nat) (s : State) : Host.Outcome State Fault Refusal :=
  .next <|
    match fin? 5 (bits desc 15 8) with
    | none => s
    | some p =>
      if !s.pipes[slot].on then s
      else
        let pass := bits desc 39 32 = 1
        let frames := bits desc 31 24
        let s := s.modPipes slot fun x => { x with stepPipe := if x.stepPipe = p.val then 7 else x.stepPipe, testSent := false }
        let st := (pipeOf s slot p.val).st
        if p.val = 4 && st = .spare then
          let n := if pass then 0 else (pipeOf s slot 4).fails + 1
          let s := modPipe slot p (fun y => { y with fails := n }) s
          if n < 2 then s
          else pipeEvent slot 0x9042 (4 * 2 ^ 24) (modPipe slot p (fun y => { y with st := .retired, passes := 0, retestAt := s.clk.bndTot }) s)
        else match st with
          | .underTest =>
            if pass then pipeBack slot p s
            else pipeEvent slot 0x9041 (p.val * 2 ^ 24 + frames) (modPipe slot p (fun y => { y with st := .suspect, fails := 1 }) s)
          | .suspect =>
            if pass then pipeBack slot p s
            else pipeEvent slot 0x9042 (p.val * 2 ^ 24)
              (modPipe slot p (fun y => { y with st := .retired, fails := 2, passes := 0, retestAt := s.clk.bndTot }) s)
          | .retired =>
            let n := if pass then (pipeOf s slot p.val).passes + 1 else 0
            let s := modPipe slot p (fun y => { y with passes := n }) s
            if 3 ≤ n then pipeEvent slot 0x9043 (p.val * 2 ^ 24) (pipeBack slot p s) else s
          | .inService | .spare => s

/-- TX_REPORT: the count falls, a held MPDU follows, event 0x4206 where the transmission failed (11 R380, Table 11.7). -/
def execTxReport (point : Fin 32) (desc : Nat) (s : State) : Host.Outcome State Fault Refusal :=
  .next <|
    let s := upTaken point s
    let result := bits desc 35 32
    let s := s.modPlc point fun x => { x with txCount := x.txCount - 1 }
    let s := raiseIf (decide (2 ≤ result)) 0x4206 4 point.val (result * 2 ^ 24 + bits desc 47 40 * 2 ^ 16) s
    sendHeld point s

/-- First tick that starts at or after a phase of the cycle in progress, as a tick number (02 R66). -/
def tickAtPhase (s : State) (phase : Nat) : Nat :=
  let w := tickCy s
  let t : Rat := ((s.clk.bndTot - 1 : Nat) : Rat) + (phase : Rat) / 65536
  (-((-(t / w)).floor)).toNat % 65536

/-- HPGP_BEACON: every even count, the central beacon of the point at mark c:(16 384 x p), sent with SCHED (11 R374). -/
def execHpgpBeacon (point : Fin 32) (s : State) : Host.Outcome State Fault Refusal :=
  .next <|
    if s.clk.count % 2 = 0 && s.plc[point].netValid then
      let tick := tickAtPhase s (16384 * (posOf point).val)
      let s := (Config.hpgpFrames 0xBEAC [point.val, s.plc[point].snid, s.clk.count]).foldl
        (fun s b => sendMpdu point (txMpduDesc tick 0xFF 0 0 true 0) b s) s
      s.modPlc point fun x => { x with beacons := x.beacons + 1 }
    else s

/-- The pipe of a place in the rotation 4, 0, 1, 2, 3 (11 R383). -/
def rotationPipe (idx : Nat) : Nat := if idx = 0 then 4 else idx - 1

/-- PIPE_STEP: at a multiple of 256 the suspect pipe that pipe 4 replaces is tested again, else the next pipe of the rotation is
swapped out or pipe 4 is tested (11 R383, R386). A point in SOUNDING or WAIT_ATTEN postpones the step (R394). -/
def doPipeStep (slot : Fin 8) (s : State) : State :=
    let x := s.pipes[slot]
    if !x.on || x.stepPipe ≠ 7 then s
    else match fin? 4 x.spareFor with
      | some p =>
        if (pipeOf s slot p.val).st = .suspect && s.clk.count % 256 = 0 then rxControl (ptIdx slot p) 3 p.val s else s
      | none =>
        if !spareReady s slot then s
        else
          let k := rotationPipe x.idx
          let next := fun (x : Pipes) => { x with idx := (x.idx + 1) % 5, stepPipe := k, testSent := false }
          if k = 4 then
            if s.clk.count % 256 = 0 then rxControl (ptIdx slot 0) 3 4 ((s.modPipes slot next).modPipes slot fun x => { x with testSent := true }) else s
          else match fin? 4 k with
            | some p =>
              let slac := s.plc[ptIdx slot p].slac
              if slac = .sounding || slac = .waitAtten then s
              else if (pipeOf s slot k).st ≠ .inService then s.modPipes slot fun x => { x with idx := (x.idx + 1) % 5 }
              else rxControl (ptIdx slot p) 1 0 ((s.modPipes slot next).modPipes slot fun x => { x with spareFor := k })
            | none => s

/-- PIPE_RETEST: a retired pipe is tested every 1 024 cy; a pipe that serves a point is not (11 R385, R386). -/
def execPipeRetest (slot : Fin 8) (pipe : Fin 5) (s : State) : Host.Outcome State Fault Refusal :=
  .next <|
    let x := s.pipes[slot]
    let y := pipeOf s slot pipe.val
    let pt : Fin 4 := (fin? 4 pipe.val).getD 0
    if x.on && y.st = .retired && decide (y.retestAt + 1024 ≤ s.clk.bndTot) && (pipe.val = 4 || x.spareFor = pipe.val) then
      rxControl (ptIdx slot pt) 3 pipe.val (modPipe slot pipe (fun y => { y with retestAt := s.clk.bndTot }) s)
    else s

/-! SLAC (11 R388 to R391, R395, R396). -/

/-- SES serves SLAC on a point (11 R391). -/
def slacServed (s : State) (i : Fin 32) : Bool := inSession s.cp[i].pst && hlcOn s i && !s.sen.mlSig

/-- An answer of SLAC goes out. -/
def slacSend (i : Fin 32) (m : SlacOut) (code : Nat) (fields : List Nat) (s : State) : State :=
  sendMessage i code fields (s.modPlc i fun x => { x with slacMsgs := m :: x.slacMsgs })

/-- FALLBACK: event 0x4203 with the failures; the point goes on without ISO 15118 (11 Table 11.6). -/
def slacFallback (i : Fin 32) (s : State) : State :=
  toBasic i (raise 0x4203 4 i.val s.plc[i].failures (s.modPlc i fun x => { x with slac := .fallback }))

/-- A failed matching: event 0x4202 with the reason; the third leads to FALLBACK (11 R389). -/
def slacFail (i : Fin 32) (reason : Nat) (s : State) : State :=
  let s := s.modPlc i fun x =>
    { x with failures := min 3 (x.failures + 1), slac := .waitParm, runId := 0, sounds := [], startSeen := 0, sends := 0 }
  let s := raise 0x4202 4 i.val reason s
  if s.plc[i].failures = 3 then slacFallback i s else s

/-- CM_SLAC_PARM_REQ: answered; RunID and the vehicle MAC are kept; a new RunID restarts the exchange (11 Table 11.6, R389, R395). -/
def execCmSlacParmReq (point : Fin 32) (runId mac secType : Nat) (s : State) : Host.Outcome State Fault Refusal :=
  .next <|
    let x := s.plc[point]
    let restart := (x.slac = .sounding || x.slac = .waitAtten || x.slac = .waitMatch) && x.runId ≠ runId
    if slacServed s point && secType = 0 && (x.slac = .waitParm || restart) then
      let s := s.modPlc point fun x =>
        { x with slac := .sounding, runId, mac := mac % 2 ^ 48, sounds := [], startSeen := 0, sends := 0, attenInd := [] }
      slacSend point .parmCnf 1 [point.val, runId, mac, 10, 6, 1] s
    else s

/-- CM_START_ATTEN_CHAR_IND: the first opens the sound window of 600 ms (11 R388). -/
def execCmStartAttenCharInd (point : Fin 32) (runId : Nat) (s : State) : Host.Outcome State Fault Refusal :=
  .next <|
    let x := s.plc[point]
    if slacServed s point && x.slac = .sounding && x.runId = runId then s.modPlc point fun x => { x with startSeen := x.startSeen + 1 } else s

/-- Mean of numbers, rounded to the nearest (11 R390). -/
def roundMean (l : List Nat) : Nat := if l.isEmpty then 0 else (2 * l.sum + l.length) / (2 * l.length)

/-- SLAC_SOUND_WINDOW_END: the tenth sound, or 600 ms after the first CM_START_ATTEN_CHAR.IND; the group means go out, and are not
stated where no report came (11 R390; log entry 4). -/
def execSlacSoundWindowEnd (point : Fin 32) (s : State) : Host.Outcome State Fault Refusal :=
  .next <|
    let x := s.plc[point]
    if !slacServed s point || x.slac ≠ .sounding || (x.startSeen = 0 && x.sounds.length < 10) then s
    else
      let (means, s) := if x.sounds.isEmpty then
          let (v, s) := draw s
          ((List.range 58).map fun g => v / 256 ^ g % 256, s)
        else ((List.range 58).map fun g => roundMean (x.sounds.map fun r => r.atten.getD g 0), s)
      let s := s.modPlc point fun x => { x with slac := .waitAtten, attenInd := means, sends := 1 }
      slacSend point .attenInd 2 ([point.val, x.runId, x.sounds.length] ++ means) s

/-- CM_ATTEN_CHAR_RSP with result 0 (11 Table 11.6). -/
def execCmAttenCharRsp (point : Fin 32) (runId result : Nat) (s : State) : Host.Outcome State Fault Refusal :=
  .next <|
    let x := s.plc[point]
    if slacServed s point && x.slac = .waitAtten && x.runId = runId && result = 0 then s.modPlc point fun x => { x with slac := .waitMatch } else s

/-- CM_ATTEN_CHAR_RESEND: 200 ms without an answer; three sends in all, then a failure with reason 3 (11 R388, Table 11.6). -/
def execCmAttenCharResend (point : Fin 32) (s : State) : Host.Outcome State Fault Refusal :=
  .next <|
    let x := s.plc[point]
    if !slacServed s point || x.slac ≠ .waitAtten then s
    else if x.sends < 3 then
      slacSend point .attenInd 2 ([point.val, x.runId, x.sounds.length] ++ x.attenInd) (s.modPlc point fun x => { x with sends := x.sends + 1 })
    else slacFail point 3 s

/-- CM_SLAC_MATCH_REQ: NMK and NEK are drawn, a new SNID is set and the match confirmed; with the DRBG stopped each request counts a
failure with reason 4 (11 R375, R389, R396). The new SNID is any other than the last (log entry 4). -/
def execCmSlacMatchReq (point : Fin 32) (runId secType : Nat) (s : State) : Host.Outcome State Fault Refusal :=
  .next <|
    let x := s.plc[point]
    if !slacServed s point || x.slac ≠ .waitMatch || x.runId ≠ runId || secType ≠ 0 then s
    else if !drbgOk s then slacFail point 4 s
    else
      let (nmk, s) := drbgDraw 128 s
      let (nek, s) := drbgDraw 128 s
      let (v, s) := draw s
      let snid := (x.snid + 1 + v % 15) % 16
      let s := s.modPlc point fun x => { x with slac := .waitJoin, nmk, nek, snid, netValid := true }
      let s := tunnelMsg point 0 (bytesLE 8 (netDesc 1 snid true)) s
      slacSend point .matchCnf 3 [point.val, runId, nmk, snid] s

/-- CM_VALIDATE_REQ: answered "not required"; no state changes (11 R389). -/
def execCmValidateReq (point : Fin 32) (s : State) : Host.Outcome State Fault Refusal :=
  .next <| if slacServed s point then slacSend point .validateCnf 4 [point.val] s else s

/-- SLAC_JOIN: the vehicle's station has associated and obtained the NEK; event 0x4201 with the sounds, the mean attenuation and the
time since CM_SLAC_PARM.REQ; duplicate address detection is done once, and the session goes on with SDP (11 Table 11.6, 12 R406,
Table 12.4). -/
def execSlacJoin (point : Fin 32) (tei ms : Nat) (s : State) : Host.Outcome State Fault Refusal :=
  .next <|
    let x := s.plc[point]
    if !slacServed s point || x.slac ≠ .waitJoin then s
    else
      let s := s.modPlc point fun x => { x with slac := .matched, joinTei := tei % 256 }
      let s := slacSend point .nekCnf 5 [point.val, tei] s
      let s := raise 0x4201 4 point.val (x.sounds.length * 2 ^ 24 + roundMean x.attenInd * 2 ^ 16 + min ms 65535) s
      let s := sendMessage point 0x200 (hubAddr s point) s
      s.modSes point fun y => { y with stage := if y.stage = .link then .sdp else y.stage, dad := true }

/-- The matched network is left: NET VALID 0, event 0x4204, sessions informed (11 Table 11.6, 12 R415). -/
def netLeft (i : Fin 32) (how : Nat) (s : State) : State :=
  if s.plc[i].slac ≠ .matched then s
  else
    let s := (netClear i s).modPlc i fun x => { x with slac := .waitParm, runId := 0, sounds := [], startSeen := 0, sends := 0 }
    linkLost i (raise 0x4204 4 i.val how s)

/-- CC_LEAVE from the station (11 Table 11.6). -/
def execCcLeave (point : Fin 32) (s : State) : Host.Outcome State Fault Refusal := .next <| netLeft point 1 s

/-- SLAC_LINK_SILENCE: no MPDU from the matched station for 15 s (11 Table 11.6). -/
def execSlacLinkSilence (point : Fin 32) (s : State) : Host.Outcome State Fault Refusal := .next <| netLeft point 2 s

/-- SLAC_INIT_TIMEOUT: 40 s without CM_SLAC_PARM.REQ (11 Table 11.6). -/
def execSlacInitTimeout (point : Fin 32) (s : State) : Host.Outcome State Fault Refusal :=
  .next <| if s.plc[point].slac = .waitParm && slacServed s point then slacFallback point s else s

/-- SLAC_NO_SOUNDING_TIMEOUT: no CM_START_ATTEN_CHAR.IND within 1 s of the CNF: failure, reason 2. -/
def execSlacNoSoundingTimeout (point : Fin 32) (s : State) : Host.Outcome State Fault Refusal :=
  .next <| if s.plc[point].slac = .sounding && s.plc[point].startSeen = 0 then slacFail point 2 s else s

/-- SLAC_MATCH_TIMEOUT: 10 s without CM_SLAC_MATCH.REQ: failure, reason 4. -/
def execSlacMatchTimeout (point : Fin 32) (s : State) : Host.Outcome State Fault Refusal :=
  .next <| if s.plc[point].slac = .waitMatch then slacFail point 4 s else s

/-- SLAC_JOIN_TIMEOUT: 12 s without the vehicle joining: failure, reason 5, NET VALID 0. -/
def execSlacJoinTimeout (point : Fin 32) (s : State) : Host.Outcome State Fault Refusal :=
  .next <| if s.plc[point].slac = .waitJoin then slacFail point 5 (netClear point s) else s

end Sys2Proof.Machine
end

