-- ==== Sys2Proof/Machine/BoundaryCmds.lean ====
section
/-! DEFINITION. The commands of a cycle boundary that the table names one by one: each runs the operation its chapter gives and
republishes what the gates show, since the snapshots are of the end of the boundary (spec/02 R72; spec/01 R26). Which of them are due is
kept by the hub: a command that is not due changes nothing (log entry 6). -/

namespace Sys2Proof.Machine

/-- What a boundary's action leaves: nothing where it was not due, else the gates publish its outcome; under the mains-loss signal nothing
is published (02 R72, 01 R26). -/
def atBoundary (s t : State) : State := if t = s then s else if t.sen.mlSig then t else publishAll t

/-- SOURCE_CHANGE: at the cycle boundary after the source became absent, the first present input becomes the source; the window
in which it changes counts neither way (02 R59, R74). -/
def execSourceChange (s : State) : Host.Outcome State Fault Refusal := .next <| atBoundary s (doSourceChange s)

/-- RETURN_TO_L1: after 8 consecutive good L1 crossings the source returns to L1 at the cycle boundary (02 R60, R74). -/
def execReturnToL1 (s : State) : Host.Outcome State Fault Refusal := .next <| atBoundary s (doReturnToL1 s)

/-- LANE_STEP at B = 512 m: the dual run of cycle B - 1 has ended (`mismatch`: its results differed, or a residue error
fell into it). The free spare takes the position and the lane goes under test; after a mismatch the lane keeps its
position and the spare is tested instead (22 R737, R738, R752). -/
def execLaneStep (mismatch : Bool) (s : State) : Host.Outcome State Fault Refusal := .next <| atBoundary s (doLaneStep mismatch s)

/-- LANE_HANDOFF: at a boundary with a free spare lane, a SUSPECT lane's position goes to the lowest of them without a dual
run; after a residue error with event 0x9020 (22 R736, R738). -/
def execLaneHandoff (l : Fin 18) (s : State) : Host.Outcome State Fault Refusal := .next <| atBoundary s (doLaneHandoff l s)

/-- SRAM_ROW_STEP: every 16 cy a bank with a free spare row copies its next row to the spare, March-tests it (`fails`) and
copies it back. A row that fails becomes SUSPECT on its spare with event 0x9031; a SUSPECT row at its turn takes its
address back after a pass, and is RETIRED with event 0x9032 after a fail (22 R735, R740, R741). -/
def execSramRowStep (bank : Fin 32) (fails : Bool) (s : State) : Host.Outcome State Fault Refusal := .next <| atBoundary s (doSramRowStep bank fails s)

/-- SRAM_ROW_MOVE: from the next cycle boundary a SUSPECT row's address moves to a free spare row, with event 0x9031
(22 R741). -/
def execSramRowMove (bank : Fin 32) (row : Nat) (s : State) : Host.Outcome State Fault Refusal := .next <| atBoundary s (doSramRowMove bank row s)

/-- MRAM_BLOCK_STEP: each epoch boundary one block is copied to the lowest free spare, tested (`fails`) and restored. A block
that fails becomes SUSPECT on its spare with event 0x9051; a SUSPECT block at its turn returns with event 0x9053 or is
RETIRED with event 0x9052. With no free spare the test stops, event 0x9055 (22 R735, R742, R743, R751). -/
def execMramBlockStep (fails : Bool) (s : State) : Host.Outcome State Fault Refusal := .next <| atBoundary s (doMramBlockStep fails s)

/-- MRAM_BLOCK_MOVE: at the next epoch boundary a SUSPECT block's content moves to a free spare as a soft repair, with event
0x9051 (22 R743). -/
def execMramBlockMove (blk : Nat) (s : State) : Host.Outcome State Fault Refusal := .next <| atBoundary s (doMramBlockMove blk s)

/-- PERIOD_CLOSE: at the first boundary whose latched RTC is at or after the close instant (14 R486, R489). -/
def execPeriodClose (s : State) : Host.Outcome State Fault Refusal := .next <| atBoundary s (doPeriodClose s)

/-- LEDGER_COMMIT: the commits tied to the boundary before are written as merged transactions (14 R478, R480, R483). -/
def execLedgerCommit (s : State) : Host.Outcome State Fault Refusal := .next <| atBoundary s (doLedgerCommit s)

/-- TARIFF_SWITCH: at the boundary at which a new code is due (14 R470). -/
def execTariffSwitch (s : State) : Host.Outcome State Fault Refusal := .next <| atBoundary s (doTariffSwitch s)

/-- MONTHLY_SNAPSHOT: once the commits tied to its boundary are written the snapshot enters the ring of 24, event 0x5042 (14 R487). -/
def execMonthlySnapshot (s : State) : Host.Outcome State Fault Refusal := .next <| atBoundary s (doMonthlySnapshot s)

/-- BINDING_NOTICE: LED takes the notice of the lowest point index that is ready, an end before a start (01 R29, R30, R43; 13 R460,
R465). -/
def execBindingNotice (s : State) : Host.Outcome State Fault Refusal := .next <| atBoundary s (doBindingNotice s)

/-- TENANT_BLOCK_APPLY: the orders due at this boundary act on the block list in order of arrival (13 R458). -/
def execTenantBlockApply (s : State) : Host.Outcome State Fault Refusal := .next <| atBoundary s (doTenantBlockApply s)

/-- STATEMENTS_SEALED: the first boundary after the last statement of a close is sealed (14 R488, 13 R461). -/
def execStatementsSealed (s : State) : Host.Outcome State Fault Refusal := .next <| atBoundary s (doStatementsSealed s)

/-- LIFE_CYCLE_CHANGE: at its boundary a seal order writes the digest and burns the next SEAL cell, event 0x6103 with S; an
unseal order burns the next SERVICE cell, event 0x6104 with V (03 Table 3.5, R96, R98, R118). -/
def execLifeCycleChange (s : State) : Host.Outcome State Fault Refusal := .next <| atBoundary s (doLifeCycleChange s)

/-- HALO_STEP: at an epoch boundary of an admitted head a step begins; its rotation begins with it when due, and coverage resumes
with a rotation (07 R239, R240, R243, R249, R254). -/
def execHaloStep (slot : Fin 8) (s : State) : Host.Outcome State Fault Refusal := .next <| atBoundary s (doHaloStep slot s)

/-- HALO_CONFIRM_HOLD_END: the hold cycle ends; the confirmation is judged and substitutes, charges the first spare or is
repeated (07 R244, R251). `clean`: every tick of the hold cycle brought a VALID conversion from the spare without OVR. -/
def execHaloConfirmHoldEnd (slot : Fin 8) (x : Fin 2) (c : HaloCmp) (clean : Bool) (s : State) : Host.Outcome State Fault Refusal := .next <| atBoundary s (doHaloConfirmHoldEnd slot x c clean s)

/-- HALO_RETURN: after three consecutive re-test passes the channel returns: MODE 1 for one cycle, with event 0x2022
(07 R246). -/
def execHaloReturn (slot : Fin 8) (x : Fin 2) (s : State) : Host.Outcome State Fault Refusal := .next <| atBoundary s (doHaloReturn slot x s)

/-- SERVICE_STATE_APPLY: at EFFECT_COUNT the service states named are applied and kept in MRAM (10 R357). -/
def execServiceStateApply (s : State) : Host.Outcome State Fault Refusal := .next <| atBoundary s (doServiceStateApply s)

/-- RESTART_SESSION_FREEZE: from (MARK_COUNT - 250):0 under an AT restart the hub takes no new session (03 R103). -/
def execRestartSessionFreeze (s : State) : Host.Outcome State Fault Refusal := .next <| atBoundary s (doRestartSessionFreeze s)

/-- SLOW_END: after 160 consecutive usable ticks, at the next cycle boundary (06 Table 6.9, 07 R253). -/
def execSlowEnd (slot : Fin 8) (s : State) : Host.Outcome State Fault Refusal := .next <| atBoundary s (doSlowEnd slot s)

/-- PIPE_STEP: at a multiple of 256 the suspect pipe that pipe 4 replaces is tested again, else the next pipe of the rotation is
swapped out or pipe 4 is tested (11 R383, R386). A point in SOUNDING or WAIT_ATTEN postpones the step (R394). -/
def execPipeStep (slot : Fin 8) (s : State) : Host.Outcome State Fault Refusal := .next <| atBoundary s (doPipeStep slot s)

/-- GRANT_OPEN: the oldest accepted request of an earlier cycle opens its grant, event 0x5053 (15 R518). -/
def execGrantOpen (s : State) : Host.Outcome State Fault Refusal := .next <| atBoundary s (doGrantOpen s)

/-- GRANT_EXPIRY: grants end at VALID_COUNT:0, and the reading of a kind 3 grant leaves the delivery buffer (15 R518). -/
def execGrantExpiry (s : State) : Host.Outcome State Fault Refusal := .next <| atBoundary s (doGrantExpiry s)

/-- REGISTER_READING_COMPOSE: the oldest reading requested in an earlier cycle is composed and signed, event 0x5051; its grant takes its
number (15 R506, R507, R512). -/
def execRegisterReadingCompose (s : State) : Host.Outcome State Fault Refusal := .next <| atBoundary s (doRegisterReadingCompose s)

/-- LLIM_CHANGE: four consecutive cycles have read the new level, event 0x30B3 or 0x30B4; the level-3 terms follow at this boundary
(19 R654, R656). -/
def execLlimChange (s : State) : Host.Outcome State Fault Refusal := .next <| atBoundary s (doLlimChange s)

/-- The RTC as it stands at the boundary after a set: the value sent, corrected by the cycles run since REF_COUNT, in units of 1/32768 s
(21 R698). -/
def setInstant (t : TimeSet) (s : State) : Nat :=
  let add : Rat := if t.refCount = 0 then 0 else (lensFrom s t.refCount).getD 0
  t.rtcS * 32768 + t.sub + (truncRat (add * 32768 / 1000000)).toNat

/-- The step of a set in whole seconds, toward zero (21 R698). -/
def setStepOf (new old : Nat) : Int :=
  if old ≤ new then ((new - old) / 32768 : Nat) else -(((old - new) / 32768 : Nat) : Int)

/-- Apply a time set: SEN sets the RTC and RTC_VALID, event 0x7130 with the step, a clock-set tamper is counted, and the boundary's latch takes
the new time, against which the actions due are judged (21 R698, R722; 02 R68, R69). -/
def applyTimeSet (t : TimeSet) (s : State) : State :=
  let new := setInstant t s
  let step := setStepOf new (s.sen.rtcS * 32768 + s.sen.rtcSub)
  let old := s.clk.rtcS
  let s := s.modSen fun e => { e with rtcS := new / 32768, rtcSub := new % 32768, rtcValid := true, setStep := step, pend := none }
  let s := s.modClk fun c => { c with rtcS := new / 32768, rtcSub := new % 32768 }
  let s := s.modTamper fun m => { m with clock := m.clock.hit (t.rtcS % 2 ^ 55, false) }
  rtcActions (midnight old (raise 0x7130 8 255 (satTwos 32 step) s))

/-- TIME_SET_APPLY at the first boundary after the order was taken: as `applyTimeSet` (21 R698; 02 R69). While SEN has lost its rail no
set is applied. -/
def execTimeSetApply (s : State) : Host.Outcome State Fault Refusal :=
  .next <|
    match s.sen.pend with
    | none => s
    | some t => if s.sen.st = .cold || !setDue s || s.sen.mlSig then s else publishAll (applyTimeSet t s)

/-- What RUN does at an epoch boundary: the demands of the points, the heads that are ready, the class map, the tree, the hub's demand, the
allocation in force, its split and the ceilings that follow (06 R207, R209; 12 R426; 17 R586; 18 R618; 19 R645, R651, R652). -/
def runEpoch (s : State) : State :=
  let s := (finList 8).foldl (fun s (k : Fin 8) => admitHead k s) s
  let s := (finList 32).foldl (fun s (i : Fin 32) => s.modSes i fun x => { x with demand := demandOf s i }) s
  let s := pointSplit (allocApply (formDemand (linkEpoch (phyEpoch s))))
  (finList 32).foldl (fun s (i : Fin 32) => if s.cp[i].pst = .absent then s else setOutputs i (updateCeil i s)) s

/-- COUNT_CHECKPOINT at an epoch boundary: BOOT writes the count and the latched RTC to MRAM and reseeds the generator; FAILED ports begin
again; RUN does what an epoch brings (02 R81; 04 R146; 06 R207). -/
def execCountCheckpoint (s : State) : Host.Outcome State Fault Refusal :=
  .next <|
    if !clockRuns s || !s.clk.started || s.clk.count % 64 ≠ 0 then s
    else
      let s := s.modClk fun c => { c with ckpt := some { count := c.count, rtcS := c.rtcS, rtcSub := c.rtcSub } }
      if s.sen.mlSig then s
      else
        let s := drbgReseed s
        let s := if s.life.cond = .start || s.life.cond = .run then (finList 8).foldl (fun s (k : Fin 8) => portRetry k s) s else s
        publishAll (if s.life.cond = .run then runEpoch s else s)

end Sys2Proof.Machine
end

