-- ==== Sys2Proof/Machine/ImageCheck.lean ====
section
/-! DEFINITION. Checking a slot, commissioner trust, key imports, applying an image and selecting a slot (05 R160, R171 to
R177, 04 R132 to R138, R148, R153). -/

namespace Sys2Proof.Machine

/-- First byte of a slot (05 Table 5.1). -/
def slotBase (k : Nat) : Nat := if k = 1 then 0x200000 else 0
/-- First byte of the asset region. -/
def assetBase : Nat := 0x400000

/-- n bytes of flash; an unlisted byte is erased. -/
def flashBytes (s : State) (a n : Nat) : List Nat := memReadN 0xFF#8 s.flash.mem a n

/-- n words of flash. -/
def flashWords (s : State) (a n : Nat) : List W128 :=
  (List.range n).map fun k => BitVec.ofNat 128 (natLE (flashBytes s (a + 16 * k) 16))

/-- Header fields of an image (05 Table 5.2). -/
def hGen (h : List W128) : Nat := payFld h 1 127 96
def hLen (h : List W128) : Nat := payFld h 1 95 64
def hCount (h : List W128) : Nat := payFld h 1 63 48
def hSigner (h : List W128) : Nat := payFld h 1 31 0
def hAOff (h : List W128) : Nat := payFld h 2 127 96
def hALen (h : List W128) : Nat := payFld h 2 95 64

/-- Check 1: MAGIC, FORMAT, HDR_CRC, GEN and reserved fields (05 Table 5.13). -/
def headerOk (h : List W128) : Bool :=
  bounds h [⟨0, 127, 96, 0x49435947, 0x49435947⟩, ⟨0, 95, 88, 1, 1⟩, ⟨0, 87, 64, 0, 0⟩, ⟨1, 127, 96, 1, 0xFFFFFFFF⟩, ⟨1, 47, 32, 0, 0⟩,
    ⟨2, 63, 0, 0, 0⟩, ⟨3, 127, 32, 0, 0⟩] && payFld h 3 31 0 == crc32 (wordsBytes (h.take 3))

/-- GEN of a slot; a header that fails check 1 counts as 0 (05 R174). -/
def slotGen (s : State) (k : Nat) : Nat :=
  let h := flashWords s (slotBase k) 4
  if headerOk h then hGen h else 0

/-- Check 3: IMAGE_LEN and the asset range (05 Table 5.2). -/
def boundsOk (h : List W128) : Bool :=
  decide (64 ≤ hLen h) && decide (hLen h ≤ 2097152) && hLen h % 16 == 0 && hAOff h % 4096 == 0 && hALen h % 4096 == 0
    && decide (hAOff h + hALen h ≤ 4194304)

/-- Split the words after the header into records; none: they do not fill the image exactly (check 4). -/
def splitRecs : (n ord : Nat) → List W128 → Option (List RawRec)
  | 0, _, ws => if ws.isEmpty then some [] else none
  | n + 1, ord, ws =>
    match ws with
    | [] => none
    | h :: rest =>
      let len := fld h 111 96
      if len = 0 || rest.length < len - 1 then none
      else (splitRecs n (ord + 1) (rest.drop (len - 1))).map fun l => { ord, hdr := h, pay := rest.take (len - 1) } :: l

/-- Check 4: records fill the image, IDENTITY first, ESTATE second, SIGNATURE last. -/
def framing (h : List W128) (ws : List W128) : Option (List RawRec) :=
  match splitRecs (hCount h) 1 ws with
  | some l =>
    if (l.head?.map rTyp) = some 0x10 && ((l.drop 1).head?.map rTyp) = some 0x11 && (l.getLast?.map rTyp) = some 0xFFFF
    then some l else none
  | none => none

/-- The prime, the coefficient b and the order of P-256 (named standard FIPS 186-5, log entry 16). PRESUMED. -/
def p256P : Nat := 0xFFFFFFFF00000001000000000000000000000000FFFFFFFFFFFFFFFFFFFFFFFF
def p256B : Nat := 0x5AC635D8AA3A93E7B3EBBD55769886BC651D06B0CC53B0F63BCE3C3E27D2604B
def p256N : Nat := 0xFFFFFFFF00000000FFFFFFFFFFFFFFFFBCE6FAADA7179E84F3B9CAC2FC632551
/-- The order of P-521 (log entry 16). PRESUMED. -/
def p521N : Nat :=
  0x01FFFFFFFFFFFFFFFFFFFFFFFFFFFFFFFFFFFFFFFFFFFFFFFFFFFFFFFFFFFFFFFFFFFA51868783BF2F966B7FCC0148F709A5D03BB5C9B8899C47AEBB6FB71E91386409

/-- A 65-byte uncompressed point that lies on P-256 (04 R134, R136). -/
def pointOk (b : List Nat) : Bool :=
  let x := natBE ((b.drop 1).take 32)
  let y := natBE ((b.drop 33).take 32)
  b.length == 65 && b.head? == some 4 && decide (x < p256P) && decide (y < p256P)
    && (y * y + 3 * x) % p256P == (x * x % p256P * x + p256B) % p256P

/-- The 65 bytes of a stored public key at word w. -/
def keyAt (p : List W128) (w : Nat) : List Nat := (wordsBytes ((p.drop w).take 5)).take 65
/-- The 64 bytes of a signature at word w. -/
def sigAt (p : List W128) (w : Nat) : List Nat := wordsBytes ((p.drop w).take 4)

/-- The certificate of an image's SIGNATURE. -/
def certOf (sig : List W128) : Option (List W128) :=
  if payFld sig 0 87 80 = 1 then some ((sig.drop 5).take 16) else none

/-- First failing condition 1 to 5 of 04 R136; 0 none. -/
def certCond (sig : List W128) (estate : Nat) : Nat :=
  match certOf sig with
  | none => 1
  | some c =>
    let root := keyAt c 7
    let pub := keyAt c 2
    if Config.sha256 root ≠ romRootHash then 1
    else if payFld c 0 31 0 ≠ keyIdOf root then 2
    else if !pointOk pub || payFld c 0 63 32 ≠ keyIdOf pub then 3
    else if payFld c 1 127 96 ≠ 0 && payFld c 1 127 96 ≠ estate then 4
    else if !Config.ecdsaVerify root (wordsBytes (c.take 7)) (sigAt c 12) then 5
    else 0

/-- "GYKR". -/
def gykr : List Nat := [0x47, 0x59, 0x4B, 0x52]

/-- First failing condition of a KEY_ROLL against an old key: its ID, its bytes and the stored roll (04 R138); 0 none. -/
def rollCond (p : List W128) (oldId : Nat) (old : List Nat) (roll : Nat) : Nat :=
  let new := keyAt p 1
  if payFld p 0 63 32 ≠ oldId then 1
  else if payFld p 0 127 96 ≤ roll then 2
  else if !pointOk new || payFld p 0 95 64 ≠ keyIdOf new then 3
  else if !Config.ecdsaVerify old (gykr ++ wordsBytes (p.take 6)) (sigAt p 6) then 4
  else 0

/-- Role maxima of 04 Table 4.10: algorithm, usage, masters, communication world, life-cycle mask, slots, key length. -/
def roleRow : Nat → Option (Nat × Nat × Nat × Nat × Nat × Nat × Nat)
  | 1 => some (0x01, 0x38, 0x20, 1, 0x1C, 2, 16)
  | 2 => some (0x02, 0x04, 0x50, 1, 0x1C, 1, 32)
  | 3 => some (0x01, 0x30, 0x40, 1, 0x1C, 1, 16)
  | 4 => some (0x20, 0x40, 0x0A, 0, 0x3C, 4, 65)
  | 5 => some (0x01, 0x08, 0x08, 0, 0x1C, 1, 16)
  | 6 => some (0x10, 0x80, 0x10, 1, 0x1C, 1, 32)
  | 7 => some (0x11, 0x80, 0x10, 1, 0x1C, 1, 66)
  | 8 => some (0x12, 0x80, 0x10, 1, 0x1C, 1, 57)
  | 9 => some (0x01, 0x08, 0x02, 0, 0x1C, 8, 16)
  | _ => none

/-- Bits of a inside b. -/
def maskIn (n a b : Nat) : Bool := (List.range n).all fun i => !bitOf a i || bitOf b i

/-- The decrypted key data of a sealed import: ECIES to slot 0 (04 R133). -/
def unsealImport (s : State) (p : List W128) : Option (List Nat) :=
  let n := payFld p 1 95 88
  let shared := Config.ecdh (keySlot s 0).secret (keyAt p 2)
  let info := [0x47, 0x59, 0x2D, 0x4B, 0x49] ++ bytesBE 8 s.life.serial ++ [payFld p 0 63 56] ++ bytesBE 4 (payFld p 1 127 96)
  Config.decrypt (Config.kdf shared info) 1 (wordsBytes (p.take 2) ++ (wordsBytes ((p.drop 7).take 5)).take n ++ wordBytes (p.getD 12 0))

/-- First failing condition of a KEY_IMPORT (04 R134); 0 none. `before`: the imports that precede it. -/
def importCond (s : State) (heads : List Nat) (before : List (List W128)) (p : List W128) : Nat :=
  let role := payFld p 0 55 48
  let form := payFld p 0 5 4
  let n := payFld p 1 95 88
  match roleRow role with
  | none => 3
  | some (alg, usage, masters, world, lc, slots, len) =>
    if payFld p 0 127 64 ≠ s.life.serial then 1
    else if before.any (fun q => payFld q 0 63 56 == payFld p 0 63 56) then 2
    else if payFld p 0 47 40 ≠ alg || n ≠ len || form ≠ (if role = 4 then 1 else 0) then 3
    else if !maskIn 8 (payFld p 0 39 32) usage || !maskIn 16 (payFld p 0 31 16) masters || !maskIn 8 (payFld p 0 15 8) lc then 4
    else if payFld p 0 7 6 ≠ world then 5
    else if slots ≤ (before.filter fun q => payFld q 0 55 48 == role).length then 6
    else if role = 4 && (!pointOk (keyAt p 7) || payFld p 1 127 96 ≠ keyIdOf (keyAt p 7)) then 7
    else if role = 9 && !heads.contains (payFld p 1 63 0) then 8
    else if form = 0 && !pointOk (keyAt p 2) then 9
    else if form = 0 then
      match unsealImport s p with
      | none => 10
      | some d =>
        if d.length ≠ n || (alg = 0x10 && !(1 ≤ natBE d && natBE d < p256N)) || (alg = 0x11 && !(1 ≤ natBE d && natBE d < p521N))
        then 11 else 0
    else 0

/-- The first import that fails: ordinal, slot and condition. -/
def importsGo (s : State) (heads : List Nat) : (before : List (List W128)) → List RawRec → Option (Nat × Nat × Nat)
  | _, [] => none
  | b, r :: rs =>
    match importCond s heads b r.pay with
    | 0 => importsGo s heads (b ++ [r.pay]) rs
    | c => some (r.ord, payFld r.pay 0 63 56, c)

/-- What a slot check found: reason (0 valid), ordinal, the trust event it writes, and the image. -/
structure SlotCheck where
  reason : Nat := 0
  ord : Nat := 0
  /-- event code and argument of a rejected KEY_ROLL, certificate or KEY_IMPORT (04 Table 4.16) -/
  ev : Option (Nat × Nat) := none
  hdr : List W128 := []
  recs : List RawRec := []
  deriving DecidableEq, Repr

/-- Whether a KEY_ROLL introduces the commissioner key that slot 2 already holds: it is ignored (04 R138). -/
def rollStale (s : State) (p : List W128) : Bool :=
  (keySlot s 2).status == .loaded && (wordsBytes (keySlot s 2).pub).take 65 == keyAt p 1

/-- Checks 7 and 8: KEY_ROLL, then image signature and commissioner trust (04 R136 to R138, R148; 05 R170). -/
def trustCheck (s : State) (h : List W128) (l : List RawRec) (bytes : List Nat) : Nat × Nat × Option (Nat × Nat) :=
  let sigR := l.getLast?.getD { ord := 0, hdr := 0#128, pay := [] }
  let sig := sigR.pay
  let keyed := lcCode s == 1
  let estate := payFld (recPay l 0x11 0) 0 127 96
  let cc := if keyed then certCond sig estate else 0
  if cc ≠ 0 then (8, sigR.ord, some (0x6125, cc))
  else
    let cert := (certOf sig).getD []
    let old := if keyed then keyAt cert 2 else (wordsBytes (keySlot s 2).pub).take 65
    let oldId := if keyed then payFld cert 0 63 32 else (keySlot s 2).keyId
    let roll := if keyed then 0 else s.keys.roll
    let rr := recAny l 0xF0
    let rc := match rr with
      | some r => if !keyed && rollStale s r.pay then 0 else rollCond r.pay oldId old roll
      | none => 0
    if rc ≠ 0 then (7, (rr.map (·.ord)).getD 0, some (0x6124, rc))
    else
      let key := match rr with
        | some r => keyAt r.pay 1
        | none => old
      let kid := match rr with
        | some r => payFld r.pay 0 95 64
        | none => oldId
      let n := bytes.length - 16 * (sig.length - 1)
      if hSigner h = kid && Config.ecdsaVerify key (bytes.take n) (sigAt sig 1) then (0, 0, none)
      else (8, sigR.ord, some (0x6125, 6))

/-- Check 11: the first asset block whose hash differs, from 0 (delivery verification only). -/
def assetBad (s : State) (h : List W128) (hashes : List W128) : Option Nat :=
  (List.range (imgBlocks (hALen h))).find? fun b =>
    let d := Config.sha256 (flashBytes s (assetBase + hAOff h + 4096 * b) 4096)
    hashWords d != [hashes.getD (1 + 2 * b) 0, hashes.getD (2 + 2 * b) 0]

/-- A list of records as applied records. -/
def toImgRecs (l : List RawRec) : List ImgRec := l.map fun r => { typ := rTyp r, idx := rIdx r, pay := r.pay }

/-- Check a slot in the order of 05 Table 5.13. `readFail`: the flash failed to read; `dlv`: delivery verification. -/
def checkSlot (s : State) (k : Nat) (readFail dlv : Bool) : SlotCheck :=
  let h := flashWords s (slotBase k) 4
  if readFail then { reason := 12, hdr := h }
  else if !headerOk h then { reason := 1, hdr := h }
  else if payFld h 0 63 0 ≠ s.life.serial then { reason := 2, hdr := h }
  else if !boundsOk h then { reason := 3, hdr := h }
  else match framing h (flashWords s (slotBase k + 64) (hLen h / 16 - 4)) with
    | none => { reason := 4, hdr := h }
    | some l =>
      if !countRule l (hALen h) then { reason := 5, hdr := h }
      else match l.find? fun r => !okRec s l (hALen h) (hSigner h) r with
        | some r => { reason := 6, ord := r.ord, hdr := h }
        | none =>
          if !okWhole l then { reason := 6, hdr := h }
          else
            let t := trustCheck s h l (flashBytes s (slotBase k) (hLen h))
            if t.1 ≠ 0 then { reason := t.1, ord := t.2.1, ev := t.2.2, hdr := h }
            else match importsGo s ((recAll l 0x30).map fun r => payFld r.pay 0 127 64) [] (recAll l 0xA0) with
              | some (ord, slot, c) => { reason := 9, ord, ev := some (0x6123, c * 2 ^ 24 + slot * 2 ^ 16), hdr := h }
              | none =>
                if lcCode s = 3 && s.life.digest ≠ some (sealDigest (toImgRecs l)) then { reason := 10, hdr := h }
                else if dlv then
                  match assetBad s h (recPay l 0xC0 0) with
                  | some b => { reason := 11, ord := b, hdr := h }
                  | none => { hdr := h, recs := l }
                else { hdr := h, recs := l }

/-- The trust event of a failed check. -/
def checkEvent (c : SlotCheck) (s : State) : State :=
  match c.ev with
  | some (code, arg) => raise code 1 255 arg s
  | none => s

/-- A slot of an accepted KEY_IMPORT (04 R132 to R134). -/
def importSlot (s : State) (gen : Nat) (p : List W128) : KeySlot :=
  let n := payFld p 1 95 88
  let clear := payFld p 0 5 4 == 1
  let data := if clear then (wordsBytes ((p.drop 7).take 5)).take n else (unsealImport s p).getD []
  { keyId := payFld p 1 127 96, alg := payFld p 0 47 40, usage := payFld p 0 39 32, masters := payFld p 0 31 16
    lcMask := payFld p 0 15 8, comm := payFld p 0 7 6 == 1, imported := true, status := .loaded, gen
    role := payFld p 0 55 48, bindSer := payFld p 1 63 0
    pub := if clear then pubWords data else [], secret := if clear then 0 else natBE data }

/-- Load slots 8 to 63: a slot that no KEY_IMPORT names is empty (04 R132). -/
def loadImports (gen : Nat) (l : List RawRec) (s : State) : State :=
  let imps := recAll l 0xA0
  s.modKeys fun k =>
    { k with
      wrapCtr := k.wrapCtr + (imps.filter fun r => payFld r.pay 0 5 4 == 0).length
      slots := ⟨(k.slots.toList.zipIdx.map fun e =>
        if e.2 < 8 then e.1
        else match imps.find? fun r => payFld r.pay 0 63 56 == e.2 with
          | some r => importSlot s gen r.pay
          | none => {}).toArray, by simp⟩ }

/-- The commissioner key as slot 2 (04 Table 4.7, R137). -/
def commissionerSlot (pub : List Nat) (kid gen : Nat) : KeySlot :=
  { keyId := kid, alg := 0x20, usage := 0x40, masters := 0x0A, lcMask := 0x1C, comm := false, imported := true, status := .loaded
    gen, role := 0, pub := pubWords pub, secret := 0 }

/-- Pin the commissioner key of the first accepted image, burn COMMISSIONED and generate the metrology key
(03 Table 3.5, 04 R136, R137). -/
def pinCommissioner (gen : Nat) (l : List RawRec) (s : State) : State :=
  let sig := (l.getLast?.map (·.pay)).getD []
  let cert := (certOf sig).getD []
  let rr := recAny l 0xF0
  let pub := match rr with
    | some r => keyAt r.pay 1
    | none => keyAt cert 2
  let kid := keyIdOf pub
  let roll := match rr with
    | some r => payFld r.pay 0 127 96
    | none => 0
  let s := s.modKeys fun k => { k with slots := k.slots.set 2 (commissionerSlot pub kid gen), roll }
  let s := raiseIf rr.isSome 0x6111 1 255 kid s
  let s := lcStamp (burn cellCommissioned s)
  newMetrologyKey (raise 0x6102 1 255 gen s)

/-- A valid KEY_ROLL of an accepted image replaces slot 2, event 0x6111 (04 R138). -/
def applyRoll (gen : Nat) (l : List RawRec) (s : State) : State :=
  match recAny l 0xF0 with
  | some r =>
    if rollStale s r.pay then s
    else
      let kid := payFld r.pay 0 95 64
      raise 0x6111 1 255 kid (s.modKeys fun k =>
        { k with slots := k.slots.set 2 (commissionerSlot (keyAt r.pay 1) kid gen), roll := payFld r.pay 0 127 96 })
  | none => s

/-- BOOT-M applies a valid image: keys, records, FNOM, ESTATE_ID and SENTINEL in MRAM, event 0x6141 (05 R173, R175, R190).
The delivery of an adopted target slot returns to IDLE. -/
def applyImage (k : Nat) (c : SlotCheck) (s : State) : State :=
  let gen := hGen c.hdr
  let s := if lcCode s = 1 then pinCommissioner gen c.recs s else applyRoll gen c.recs s
  let s := loadImports gen c.recs s
  let recs := toImgRecs c.recs
  let s := s.modImg fun i =>
    { i with slot := k, gen, aOff := hAOff c.hdr, aLen := hALen c.hdr, recs, faulty := []
             estateMram := some (payFld (recPay c.recs 0x11 0) 0 127 96)
             sentinelMram := some ((recPay c.recs 0xB0 0).getD 0 0) }
  let s := s.modClk fun x => { x with fnom := imgFnom c.recs, fnomMram := some (imgFnom c.recs) }
  let s := s.modEpd fun e => { e with stored := (recAny c.recs 0x90).map (·.pay) }
  let s := if s.dlv.state = .verified && s.dlv.slot = k then s.modDlv fun d => { d with state := .idle, id := 0 } else s
  let s := (finList 32).foldl (fun s (i : Fin 32) =>
    if hasPoint s i && s.cp[i].service.isNone then s.modCp i fun x => { x with service := some true } else s) s
  syncWins (raise 0x6141 1 255 gen s)

/-- Record the result of a slot (05 R182). -/
def slotResult (k reason : Nat) (s : State) : State :=
  s.modImg fun i => if k = 0 then { i with aRes := reason } else { i with bRes := reason }

/-- Try one slot: apply it, or write event 0x6140 (05 R174). -/
def trySlot (k : Nat) (readFail : Bool) (s : State) : State × Bool :=
  let c := checkSlot s k readFail false
  let s := slotResult k c.reason s
  if c.reason = 0 then (applyImage k c s, true)
  else (raise 0x6140 1 255 (c.reason * 2 ^ 24 + k * 2 ^ 16 + min c.ord 0xFFFF) (checkEvent c s), false)

/-- SLOT_SELECTION: the slot of the higher GEN first, equal ones A first (05 R174). The flag says whether an image runs. -/
def selectSlot (failA failB : Bool) (s : State) : State × Bool :=
  let ga := slotGen s 0
  let gb := slotGen s 1
  let s := s.modImg fun i =>
    { i with slot := 255, gen := 0, aOff := 0, aLen := 0, recs := [], faulty := [], aRes := 255, bRes := 255, aGen := ga, bGen := gb }
  let first := if ga < gb then 1 else 0
  let f := fun k => if k = 0 then failA else failB
  let p := trySlot first (f first) s
  if p.2 then p else trySlot (1 - first) (f (1 - first)) p.1

/-- Whether a block number of the image's range may be fetched: inside the range, not faulty. -/
def assetIn (s : State) (b : Nat) : Bool := decide (b < imgBlocks s.img.aLen)

/-- ASSET_FETCH: the block's hash is checked; a second failure makes the block faulty, event 0x6142 once, and serves it by the
fallback of its kind (05 R176, R177). `kind`: code of Table 5.14; `fails`: reads in a row that fail or mismatch. -/
def execAssetFetch (kind block fails : Nat) (s : State) : Host.Outcome State Fault Refusal :=
  .next <|
    let abs := s.img.aOff / 4096 + block
    let served := fun (ok : Bool) (s : State) => s.modImg fun i => { i with fetched := some (block, ok) }
    if !hasImage s then s
    else if s.img.faulty.contains block then served false s
    else if !assetIn s block || 2 ≤ fails then
      raise 0x6142 1 255 (kind * 2 ^ 24 + abs % 65536) (served false (s.modImg fun i => { i with faulty := insertAsc block i.faulty }))
    else served true s

end Sys2Proof.Machine
end

