-- ==== Sys2Proof/Machine/Delivery.lean ====
section
/-! DEFINITION. Image delivery (05 R178 to R190). -/

namespace Sys2Proof.Machine

/-- KIND of a delivery payload. -/
def dKind (p : List W128) : Nat := payFld p 0 95 88

/-- Target slot at BEGIN: the one that does not run; with none running the lower header GEN, A when equal (05 R178). -/
def dlvTarget (s : State) : Nat :=
  if s.img.slot = 0 then 1 else if s.img.slot = 1 then 0 else if slotGen s 1 < slotGen s 0 then 1 else 0

/-- Whether two ranges meet. -/
def rangesMeet (a n b m : Nat) : Bool := decide (a < b + m) && decide (b < a + n) && n != 0 && m != 0

/-- A payload is well formed for its kind (05 R178, Table 5.15; reason 8). -/
def dlvFormed (p : List W128) : Bool :=
  let k := dKind p
  let n := payFld p 1 95 80
  decide (k ≤ 3) && payFld p 0 127 96 != 0 && bounds p [⟨0, 79, 64, 0, 0⟩, ⟨0, 31, 0, 0, 0⟩]
    && (if k = 1 then decide (payFld p 0 87 80 ≤ 1) else payFld p 0 87 80 == 0)
    && (match k with
      | 0 => p.length == 2 && bounds p [⟨1, 31, 0, 0, 0⟩]
      | 1 => bounds p [⟨1, 79, 0, 0, 0⟩] && (n % 16 != 0 || p.length == 2 + n / 16)
      | _ => p.length == 1)

/-- Event 0x6144: a delivery order refused (05 R180, Table 5.19). -/
def dlvRefuse (p : List W128) (r chunk : Nat) (s : State) : Nat × State :=
  (r, raise 0x6144 1 255 (r * 2 ^ 24 + min (dKind p) 255 * 2 ^ 16 + chunk % 65536) (s.modDlv fun d => { d with reason := r }))

/-- Erase bytes of flash: they read 0xFF again. -/
def flashErase (a n : Nat) (s : State) : State :=
  s.modFlash fun f => { f with mem := f.mem.filter fun c => decide (c.1 < a) || decide (a + n ≤ c.1) }

/-- Program bytes of flash. -/
def flashProgram (a : Nat) (bs : List Nat) (s : State) : State :=
  s.modFlash fun f => { f with mem := memWriteAll 0xFF#8 a bs f.mem }

/-- An open delivery is abandoned, event 0x6147 (05 R180). -/
def dlvAbandon (s : State) : State :=
  raise 0x6147 1 255 s.dlv.id (s.modDlv fun d => { d with state := .idle, id := 0 })

/-- A BEGIN drops a pending restart that expects a generation, event 0x7105 with reason 2 (05 R185). -/
def dropRestart (s : State) : State :=
  match s.life.rst with
  | some r => if r.gen = 0 then s else raise 0x7105 1 255 2 (s.modLife fun l => { l with rst := none, freeze := false })
  | none => s

/-- BEGIN of Table 5.16. -/
def dlvBegin (p : List W128) (s : State) : Nat × State :=
  let gen := payFld p 0 63 32
  let len := payFld p 1 127 96
  let ao := payFld p 1 95 64
  let al := payFld p 1 63 32
  if !dlvFormed p then dlvRefuse p 8 0 s
  else if gen ≤ s.img.gen then dlvRefuse p 2 0 s
  else if len < 64 || 2097152 < len || len % 16 ≠ 0 then dlvRefuse p 3 0 s
  else if ao % 4096 ≠ 0 || al % 4096 ≠ 0 || 4194304 < ao + al || rangesMeet ao al s.img.aOff s.img.aLen then dlvRefuse p 4 0 s
  else
    let t := dlvTarget s
    let s := if s.dlv.id ≠ 0 && s.dlv.state ≠ .idle then dlvAbandon s else s
    let s := dropRestart s
    let s := s.modDlv fun d =>
      { d with id := payFld p 0 127 96, state := .erasing, slot := t, gen, len, awOff := ao, awLen := al, slotMap := [], assetMap := [] }
    (0, raise 0x6143 1 255 gen (s.modFlash fun f => { f with busy := some .dlvErase }))

/-- Chunk number of a DATA order, counted in its area (05 R179). -/
def dChunk (p : List W128) : Nat := payFld p 1 127 96 / 2048

/-- OFFSET and DATA_LEN against 05 R179. -/
def chunkOk (d : Dlv) (p : List W128) : Bool :=
  let off := payFld p 1 127 96
  let n := payFld p 1 95 80
  if off % 2048 ≠ 0 then false
  else if payFld p 0 87 80 = 0 then
    (n == 2048 && decide (off + 2048 ≤ d.len)) || (decide (off < d.len) && decide (d.len < off + 2048) && n == d.len - off)
  else n == 2048 && decide (d.awOff ≤ off) && decide (off + 2048 ≤ d.awOff + d.awLen)

/-- DATA of Table 5.16: the chunk is programmed, read back and marked; identical data for a set bit has no effect. -/
def dlvData (p : List W128) (s : State) : Nat × State :=
  let d := s.dlv
  let area := payFld p 0 87 80
  let c := dChunk p
  let off := payFld p 1 127 96
  let bs := (wordsBytes (p.drop 2)).take (payFld p 1 95 80)
  let base := if area = 0 then slotBase d.slot + off else assetBase + off
  let set := (if area = 0 then d.slotMap else d.assetMap).contains c
  if !dlvFormed p then dlvRefuse p 8 c s
  else if d.id = 0 || d.state = .idle || payFld p 0 127 96 ≠ d.id then dlvRefuse p 1 c s
  else if payFld p 0 63 32 ≠ d.gen then dlvRefuse p 2 c s
  else if !chunkOk d p then dlvRefuse p 5 c s
  else if set && flashBytes s base bs.length ≠ bs then dlvRefuse p 6 c s
  else if d.state ≠ .receiving then dlvRefuse p 7 c s
  else if set then (0, s)
  else
    (0, (flashProgram base bs s).modDlv fun d =>
      if area = 0 then { d with slotMap := insertAsc c d.slotMap } else { d with assetMap := insertAsc c d.assetMap })

/-- Every chunk of the delivery is set (05 R180). -/
def chunksAll (d : Dlv) : Bool :=
  ((List.range ((d.len + 2047) / 2048)).all fun c => d.slotMap.contains c)
    && (List.range (d.awLen / 2048)).all fun a => d.assetMap.contains (d.awOff / 2048 + a)

/-- END of Table 5.16. -/
def dlvEnd (p : List W128) (s : State) : Nat × State :=
  let d := s.dlv
  if !dlvFormed p then dlvRefuse p 8 0 s
  else if d.id = 0 || d.state = .idle || payFld p 0 127 96 ≠ d.id then dlvRefuse p 1 0 s
  else if payFld p 0 63 32 ≠ d.gen then dlvRefuse p 2 0 s
  else if d.state ≠ .receiving || !chunksAll d then dlvRefuse p 7 0 s
  else (0, (s.modDlv fun d => { d with state := .verifying }).modFlash fun f => { f with busy := some .dlvVerify })

/-- ABANDON of Table 5.16. -/
def dlvDrop (p : List W128) (s : State) : Nat × State :=
  if !dlvFormed p then dlvRefuse p 8 0 s
  else if s.dlv.id = 0 || s.dlv.state = .idle || payFld p 0 127 96 ≠ s.dlv.id then dlvRefuse p 1 0 s
  else (0, (dlvAbandon s).modFlash fun f => { f with busy := if f.busy = some .jrnErase then f.busy else none })

/-- A delivery order of one kind. A payload whose KIND is reserved is refused by any of the four. -/
def dlvOrder (k : Nat) (o : OrderRec) (f : List W128 → State → Nat × State) (s : State) : State :=
  if dKind (oPayload o) = k || 3 < dKind (oPayload o) then ordered [8] o f s else s

/-- DELIVERY_BEGIN (05 R180, R185). -/
def execDeliveryBegin (o : OrderRec) (s : State) : Host.Outcome State Fault Refusal := .next <| dlvOrder 0 o dlvBegin s

/-- DELIVERY_DATA (05 R179, R180). -/
def execDeliveryData (o : OrderRec) (s : State) : Host.Outcome State Fault Refusal := .next <| dlvOrder 1 o dlvData s

/-- DELIVERY_END (05 R180). -/
def execDeliveryEnd (o : OrderRec) (s : State) : Host.Outcome State Fault Refusal := .next <| dlvOrder 2 o dlvEnd s

/-- DELIVERY_ABANDON (05 R180). -/
def execDeliveryAbandon (o : OrderRec) (s : State) : Host.Outcome State Fault Refusal := .next <| dlvOrder 3 o dlvDrop s

/-- DELIVERY_ERASE_DONE: the target slot and the write range are erased, and the delivery enters RECEIVING (05 R180, R189). -/
def execDeliveryEraseDone (s : State) : Host.Outcome State Fault Refusal :=
  .next <|
    if s.dlv.state ≠ .erasing || s.sen.mlSig then s
    else
      let s := flashErase (assetBase + s.dlv.awOff) s.dlv.awLen (flashErase (slotBase s.dlv.slot) 0x200000 s)
      (s.modDlv fun d => { d with state := .receiving }).modFlash fun f => { f with busy := none }

/-- DELIVERY_VERIFY_DONE: Table 5.13 on the target slot, with GEN and IMAGE_LEN equal to BEGIN (another GEN fails as check 1,
another length as check 3: log entry 17); VERIFIED with event 0x6145 or FAILED with 0x6146 (05 R180, R181). Nothing is applied. -/
def execDeliveryVerifyDone (readFail : Bool) (s : State) : Host.Outcome State Fault Refusal :=
  .next <|
    if s.dlv.state ≠ .verifying || s.sen.mlSig then s
    else
      let d := s.dlv
      let c := checkSlot s d.slot readFail true
      let c := if c.reason ≠ 0 then c else if hGen c.hdr ≠ d.gen then { c with reason := 1 }
        else if hLen c.hdr ≠ d.len then { c with reason := 3 } else c
      let g := slotGen s d.slot
      let s := s.modFlash fun f => { f with busy := none }
      let s := slotResult d.slot c.reason (s.modImg fun i => if d.slot = 0 then { i with aGen := g } else { i with bGen := g })
      if c.reason = 0 then raise 0x6145 1 255 d.gen (s.modDlv fun d => { d with state := .verified })
      else raise 0x6146 1 255 (c.reason * 2 ^ 24 + min c.ord 0xFFFF)
        (checkEvent c (s.modDlv fun d => { d with state := .failed, reason := c.reason }))

/-- The delivery at a start: VERIFYING returns to RECEIVING, ERASING erases again from the start (05 R189). -/
def dlvResume (s : State) : State :=
  match s.dlv.state with
  | .verifying => s.modDlv fun d => { d with state := .receiving }
  | .erasing => s.modFlash fun f => { f with busy := some .dlvErase }
  | _ => s

end Sys2Proof.Machine
end

