-- ==== Sys2Proof/Machine/HeadSide.lean ====
section
/-! DEFINITION. The head's side of the point link: what a GY3208 head does with a downstream frame, and its fail-safe
(spec/06; spec/10 R349, R353, R367). -/

namespace Sys2Proof.Machine

/-- Fields of a downstream frame (06 Table 6.6). -/
def dnTick (ws : List W32) : Nat := bits (fw ws 1) 31 16
def dnSlot (ws : List W32) : Nat := bits (fw ws 2) 15 13
def dnType (ws : List W32) : Nat := bits (fw ws 2) 12 9
def dnLen (ws : List W32) : Nat := bits (fw ws 2) 8 0
def dnStep (ws : List W32) : Nat := bits (fw ws 3) 31 24

/-- A frame arrived whole: framing and CRC good, LEN within 12 to 280 and in agreement with the end code groups (06 R203). -/
def headGood (ws : List W32) (framed : Bool) : Bool :=
  framed && crcGood ws && decide (12 ≤ dnLen ws) && decide (dnLen ws ≤ 280) && dnLen ws == ws.length

/-- A downstream frame is valid at a head (06 R203): an unpaired head has not yet learnt a slot, and after a gap of missing
frames any TICK is accepted. -/
def headValid (h : Head) (ws : List W32) (framed : Bool) : Bool :=
  headGood ws framed && (h.pair == .unpaired || dnSlot ws == h.slotLearnt)
    && (match h.expTick with
      | none => true
      | some t => dnTick ws == t)

/-- The head records a valid frame: RX_TICK, the next expected TICK, and the end of a run of missing frames (06 R203, R219). -/
def headTake (ws : List W32) (h : Head) : Head :=
  { h with rxTick := dnTick ws, expTick := some ((dnTick ws + 1) % 65536), missTk := 0, failsafe := false }

/-- A tick start without a valid frame: a bad CRC is counted in RX_ERR; a frame that did not arrive whole opens a gap, after which
the expected TICK is set afresh (06 R202, R203, Table 6.5; log entry 23). DEDUCED. -/
def headMissed (ws : List W32) (framed : Bool) (h : Head) : Head :=
  { h with
    missTk := h.missTk + 1
    rxErr := if framed && !crcGood ws then inc16 h.rxErr else h.rxErr
    expTick := if headGood ws framed then h.expTick else none }

/-- Map the four points of a head, with their numbers. -/
def headMap (f : Nat → HeadPt → HeadPt) (h : Head) : Head :=
  { h with pts := ⟨((List.range 4).map fun p => f p (h.pts.toList.getD p {})).toArray, by simp⟩ }

/-- A frame of the expected TYPE reaches a powered head: `f` acts on a valid one, any other counts as missed. -/
def headFrame (slot : Fin 8) (typ : Nat) (ws : List W32) (framed : Bool) (f : Head → Head) (s : State) : State :=
  s.modHead slot fun h =>
    if !h.on then h
    else if dnType ws = typ && headValid h ws framed then f (headTake ws h)
    else headMissed ws framed h

/-- Token codes of a tick number (06 R202). -/
def codeA (tick : Nat) : Nat := (tick % 16) ^^^ 0xA
def codeB (tick : Nat) : Nat := (tick % 16) ^^^ 0x5

/-- Both tokens of point p in a frame permit (06 R202). -/
def bothPermit (ws : List W32) (p : Nat) : Bool :=
  let b := bits (fw ws 7) (8 * p + 7) (8 * p)
  bits b 7 4 == codeA (dnTick ws) && bits b 3 0 == codeB (dnTick ws)

/-- The safety channel of a point evaluates the tokens of a valid frame: a local trip and its flags end with a frame that
withdraws (06 R202, Table 6.5; log entry 24); the test-passed flag ends with the permission. DESIGN CHOICE. -/
def evalTokens (ok fg pass : Bool) (x : HeadPt) : HeadPt :=
  let trip := x.localTrip && ok
  let permit := ok && !trip
  { x with
    permit, tokenBad := !ok, localTrip := trip
    dcTrip := x.dcTrip && ok, acTrip := x.acTrip && ok
    fgTst := fg
    testPassed := if fg then false else if x.fgTst then pass && !x.fgFault else x.testPassed && (permit || !x.permit) }

/-- The commands of a frame for point p: duty, generator mode, lock, indicator; RCM_OUT is at its fault level while the channel
is not fitted or its excitation fails (06 R200, 10 R349, R353). A capped drive stays ended until the command changes. -/
def applyCmds (ws : List W32) (p : Nat) (x : HeadPt) : HeadPt :=
  let lock := bits (fw ws 5) (2 * p + 9) (2 * p + 8)
  { x with
    duty := bits (fw ws (3 + p / 2)) (16 * (p % 2) + 15) (16 * (p % 2))
    cpMode := bits (fw ws 5) (4 * p + 19) (4 * p + 16)
    lock, lockCapped := x.lockCapped && lock == x.lock
    ind := bits (fw ws 6) (8 * p + 7) (8 * p)
    rcmOut := bitOf (fw ws 9) p && !x.fgFault }

/-- HEAD_RUN_FRAME: permission per point from the tokens, then the commands, parallel slots and settings; an unpaired head
evaluates no token (06 R200 to R203, R206). `fgPass` bit p: the injection ending at point p read 7.00 to 13.00 mA (09 R296). -/
def execHeadRunFrame (slot : Fin 8) (ws : List W32) (framed : Bool) (fgPass : Fin 16) (s : State) : Host.Outcome State Fault Refusal :=
  .next <| headFrame slot 0 ws framed (fun h =>
    if h.pair ≠ .paired then h
    else headMap (fun p x => applyCmds ws p (evalTokens (bothPermit ws p) (bitOf (fw ws 8) (4 + p)) (bitOf fgPass.val p) x))
      { h with chk := 0, word8 := ws.getD 8 0, word9 := ws.getD 9 0 }) s

/-- The head holds no permission and drives no K_LS. -/
def dropPermits (h : Head) : Head := headMap (fun _ x => { x with permit := false, testPassed := false }) h

/-- A challenge starts an exchange, from any pairing state; the same challenge again is still the same exchange. The head learns
its slot and answers with its nonce and CMAC (04 R145, 06 R206). -/
def headChallenge (ws : List W32) (nd : Nat) (h : Head) : Head :=
  let nh := fw128 ws 4
  if h.pair = .challenged && h.nonceH = nh then h
  else
    let h := dropPermits h
    { h with pair := .challenged, step := 2, slotLearnt := dnSlot ws, nonceH := nh, nonceD := nd
             mac := pairMac2 h.pairKey nh nd h.serial (dnSlot ws), chk := 0 }

/-- HEAD_PAIR_FRAME: idle ends an open exchange, a challenge is answered, a confirm is verified (04 R145, 06 R205, R206). `nd`: the
nonce that the head draws; `hub`: serial of the hub that it is fitted to (log entry 25). -/
def execHeadPairFrame (slot : Fin 8) (ws : List W32) (framed : Bool) (nd hub : Nat) (s : State) : Host.Outcome State Fault Refusal :=
  .next <| headFrame slot 1 ws framed (fun h =>
    let h := dropPermits h
    if dnStep ws = 1 then headChallenge ws (nd % 2 ^ 128) h
    else if dnStep ws = 3 && h.pair = .challenged then
      if fw128 ws 4 = pairMac3 h.pairKey h.nonceH h.nonceD hub then { h with pair := .paired, step := 4 }
      else { h with pair := .unpaired, step := 0xEE }
    else if dnStep ws = 0 && h.pair = .challenged then { h with pair := .unpaired, step := 0 }
    else if dnStep ws = 0 && h.pair = .unpaired then { h with step := 0 }
    else h) s

/-- HEAD_CHECK_FRAME: settings applied; CHECK_STEP 1 runs the self-test, the steps after it evaluate the test tokens with K_LS held
off (06 R205, R208). `result`: the self-test has ended, with its verdict and fault bits. -/
def execHeadCheckFrame (slot : Fin 8) (ws : List W32) (framed : Bool) (result : Option (Bool × Nat)) (s : State) :
    Host.Outcome State Fault Refusal :=
  .next <| headFrame slot 2 ws framed (fun h =>
    if h.pair ≠ .paired then h
    else
      let h := { h with chk := dnStep ws, word9 := ws.getD 9 0 }
      let h := match result with
        | some (pass, faults) =>
          if dnStep ws = 1 && h.selftest = 0 then { h with selftest := if pass then 1 else 2, faults := faults % 256 } else h
        | none => h
      headMap (fun p x => evalTokens (bothPermit ws p) false false x) h) s

/-- HEAD_FAILSAFE: at the 16th consecutive tick start without a valid frame the head drops K_LS and sets FAILSAFE, CP_MODE 0, LOCK 0
and IND 0 (06 R219, 10 R367). -/
def execHeadFailsafe (slot : Fin 8) (s : State) : Host.Outcome State Fault Refusal :=
  .next <| s.modHead slot fun h =>
    if !h.on || h.pair ≠ .paired || h.failsafe then h
    else
      let h := headMap (fun _ x => { x with permit := false, testPassed := false, cpMode := 0, lock := 0, lockCapped := false, ind := 0 }) h
      { h with failsafe := true, fsCount := inc16 h.fsCount, missTk := 16, expTick := none }

/-- HEAD_UNPAIR_TIMEOUT: after 256 consecutive tick starts without a valid frame the head is UNPAIRED (06 R206). -/
def execHeadUnpairTimeout (slot : Fin 8) (s : State) : Host.Outcome State Fault Refusal :=
  .next <| s.modHead slot fun h =>
    if !h.on || h.pair = .unpaired then h
    else { dropPermits h with pair := .unpaired, step := 0, missTk := 256, expTick := none, chk := 0 }

/-- HEAD_LOCK_DRIVE_CAP: the head ends a continuous drive after 1 200 ms, whatever the command (10 R349). -/
def execHeadLockDriveCap (point : Fin 32) (s : State) : Host.Outcome State Fault Refusal :=
  .next <| s.modHead (slotOf point) fun h =>
    let x := h.pts[posOf point]
    if h.on && (x.lock = 1 || x.lock = 2) then { h with pts := h.pts.set (posOf point) { x with lockCapped := true } } else h

end Sys2Proof.Machine
end

