-- ==== Sys2Proof/Machine/Outage.lean ====
section
/-! DEFINITION. The outage sequence from the rise of the mains-loss signal to DORMANT, and the supplies of hub and heads (spec/21 R706 to R713;
spec/08 R287; spec/14 R504; spec/20 R694; spec/23 R787 to R792). -/

namespace Sys2Proof.Machine

/-- Event 0x7121 of an outage step that was done late: the step and the time taken, in units of 10 µs (21 R711). -/
def stepLate (step t limit : Nat) (s : State) : State :=
  raiseIf (decide (limit < t)) 0x7121 8 255 (step * 2 ^ 24 + min t (2 ^ 24 - 1)) s

/-- Points that are charging. -/
def chargingN (s : State) : Nat := ((finList 32).filter fun (i : Fin 32) => s.cp[i].pst == .charging).length

/-- The cause of the mains-loss signal: 1 MS inputs, 2 PWR_FAIL, 3 both (21 Table 21.9). -/
def lossCause (pwrFail ms : Bool) : Nat := b2n ms + 2 * b2n pwrFail

/-- t0: SEN raises the signal, event 0x7120, and records the outage (21 R706, R707). -/
def lossRise (cause : Nat) (s : State) : State :=
  let s := s.modSen fun e =>
    { e with mlSig := true, mlCause := cause, pwrFail := decide (2 ≤ cause), seq := 0, steps := 0, charging := chargingN s, outRtc := e.rtcS
             outSub := e.rtcSub, outCount := s.clk.count, outages := inc32 e.outages, st := .outage }
  raise 0x7120 8 255 cause s

/-- Step 1: the rail off and every token withdrawn (09 R335, 06 R223); LOCK 0 and CP_MODE 0 for every point (10 R368). -/
def lossRail (s : State) : State :=
  let s := railOpen 0x21 (s.modSafe fun x => { x with railCause := 0x21 })
  let s := (finList 8).foldl (fun s (k : Fin 8) => s.modPort k fun p => { p with tokensOff := true }) s
  let s := (finList 32).foldl (fun s (i : Fin 32) => s.modCp i fun x => { x with cpMode := 0, lockCmd := 0, lockPendOn := false }) s
  s.modSen fun e => { e with seq := 1, steps := e.steps + 1 }

/-- What stops at t0 beside the points: the link, delivery, key operations and RDO (21 R707; 05 R189; 18 R640). -/
def lossStops (s : State) : State := (linkLoss s).modFlash fun f => { f with busy := none }

/-- Every open binding ends with the partial cycle: with the reason of an end notice that waits, else with reason 17 (12 R441, 14 R504). -/
def lossEndSessions (s : State) : State :=
  let s := (finList 32).foldl (fun s (i : Fin 32) => if bound s i then sesEnd i 17 s else s) s
  let s := (finList 32).foldl (fun s (i : Fin 32) =>
    let w := s.gates.bindInlet.find? fun n => n.point == i.val && n.ending.isSome
    modBind i (fun b =>
      if b.endReason.isSome then b
      else { b with endReason := some ((w.bind (·.ending)).getD 17), endAt := s.clk.count + 1, endBnd := s.clk.bndTot + 1, endRtc := s.clk.rtcS
                    proto := (w.map (·.proto)).getD b.proto, emaid := (w.map (·.emaid)).getD b.emaid }) s) s
  s.modGates fun g => { g with bindInlet := [] }

/-- Step 2: the cycles that ended are completed, then MET closes the cycle in progress over the ticks whose frames have arrived, event 0x2033
for each metered point (08 R287). Step 3: LED writes the final commits of every binding (14 R504). -/
def lossMeter (s : State) : State :=
  let s := lossEndSessions s
  let s := s.met.todo.foldl (fun s info => meterAndBook info false true s) s
  let w := tickCy s
  let info : CycInfo :=
    { idx := s.clk.bndTot - 1, count := s.clk.count, lenUs := s.clk.lenCur, unlocked := s.met.unlockedNow || s.clk.state != .locked, tariff := s.led.active }
  let ticks := fun (i : Fin 32) => ((s.pmet[i].buf.map fun t => weight w t.tk info.idx).filter fun r => decide (0 < r)).length
  let s := (finList 32).foldl (fun s (i : Fin 32) =>
    let x := s.pmet[i]
    raiseIf (x.on && ticks i != 0) 0x2033 2 i.val (ticks i) (s.modPmet i fun x => { x with gap := none })) s
  let s := meterAndBook info true true s
  let s := s.modMet fun m => { m with todo := [], closedOut := true }
  let s := s.modSen fun e => { e with seq := 2, steps := e.steps + 2 }
  (ledFlush true s).modSen fun e => { e with seq := 3, steps := e.steps + 4 }

/-- Body of the OUTAGE record (21 Table 21.9). -/
def outageBody (t : OutTimes) (s : State) : List W128 :=
  let e := s.sen
  let u := fun (n : Nat) => min n 65535
  [mkWord [(64, e.outRtc % 2 ^ 64), (0, e.outCount % 2 ^ 64)],
   mkWord [(120, e.mlCause), (112, e.steps % 256), (104, e.charging), (100, e.level), (80, u e.vStore), (72, e.pct), (48, u t.rail), (32, u t.meter),
           (16, u t.ledger), (0, u t.journal)],
   mkWord [(64, s.led.lastSeq % 2 ^ 64), (49, e.outSub)]]

/-- Step 4: LED writes the OUTAGE record (21 R707, R716). The record names the steps before it (log entry 44). DEDUCED. -/
def lossJournal (t : OutTimes) (s : State) : State :=
  let p := jrnWrite 1 (outageBody t s) none [] t.jFails s
  p.1.modSen fun e => { e with seq := 4, steps := if p.2 then e.steps + 8 else e.steps }

/-- MAINS_LOSS: SEN raises the mains-loss signal and the hub runs outage steps 1 to 4; outside RUN only the rail step applies
(21 R706, R707, R726; 03 R117). -/
def execMainsLoss (pwrFail ms : Bool) (t : OutTimes) (s : State) : Host.Outcome State Fault Refusal :=
  .next <|
    let up := s.life.cond == .start || s.life.cond == .run || s.life.cond == .noConfig || s.life.cond == .retired
    if !up || s.sen.mlSig || !s.elec.supplyOk || s.sen.st != .powered || !(pwrFail || ms) then s
    else
      let running := s.life.cond == .run
      let s := lossStops (lossRail (lossRise (lossCause pwrFail ms) s))
      let s := stepLate 1 t.rail 200 s
      let s := if running then
          let s := stepLate 3 t.ledger 1500 (stepLate 2 t.meter 1000 (lossMeter s))
          stepLate 4 t.journal 4000 (lossJournal t s)
        else s.modSen fun e => { e with seq := 4 }
      s.modLife fun l => { l with cond := .outage }

/-- SEN enters DORMANT: only the RTC, the gauge, the tamper watch and the tag go on (21 R712). -/
def enterDormant (s : State) : State :=
  (s.modSen fun e => { e with st := .dormant, seq := 6, dormSince := e.rtcS, vback := false }).modLife fun l => { l with cond := .dormant }

/-- What SEN writes into the tag in an outage: the outage flags at CLOUD or better, then the gauge and outage area (16 R559, R540). -/
def outageTag (s : State) : State := tagGauge (if permits s 2 then tagOutageFlags s else s)

/-- OUTAGE_JOURNAL_DONE: after step 4 SEN reads the signal. Fallen: the hub restarts with cause 0x07, event 0x7123. Still raised: the tag is
marked, and last light begins where it is allowed, else SEN enters DORMANT (21 R708, R712). -/
def execOutageJournalDone (fallen : Bool) (s : State) : Host.Outcome State Fault Refusal :=
  .next <|
    if s.life.cond != .outage || s.sen.seq != 4 || !s.elec.supplyOk then s
    else if fallen then
      let s := raise 0x7123 8 255 s.sen.seq s
      hubDown 7 (s.modSen fun e => { e with mlSig := false, pwrFail := false, st := .powered, retRtc := e.rtcS, dormantS := 0 })
    else
      let s := epdLastLight (permits s 1) (outageTag s)
      let s := s.modSen fun e => { e with seq := 5 }
      if s.epd.lastLight then s else enterDormant s

/-- LAST_LIGHT_DONE: the last frame has ended; the panel is powered down, the model says LAST_LIGHT, event 0x8007 with the frames driven, and
SEN enters DORMANT (20 R694, 21 R709, R712). -/
def execLastLightDone (s : State) : Host.Outcome State Fault Refusal :=
  .next <|
    if !s.epd.lastLight then s
    else
      let n := s.epd.llFrames
      let s := s.modEpd fun e => { panelDown e with lastLight := false, unknown := false, ll := 1 }
      let s := raise 0x8007 7 255 n (modelWrite true false false s)
      enterDormant (tagGauge (s.modSen fun e => { e with steps := if e.steps / 16 % 2 = 0 then e.steps + 16 else e.steps, vback := false }))

/-! Supplies and resets (23 R785 to R792). -/

/-- SUPPLY_FALL_IN_OUTAGE: VDD33 falls below its reset threshold during an outage. Steps not yet begun are lost; events go to the sentinel
buffer from here on (21 R711, R712). Where no last light runs, SEN enters DORMANT. -/
def execSupplyFallInOutage (s : State) : Host.Outcome State Fault Refusal :=
  .next <|
    if !s.sen.mlSig || !s.elec.supplyOk then s
    else
      let s := s.modElec fun e => { e with supplyOk := false }
      if s.life.cond != .outage || s.epd.lastLight then s
      else enterDormant (if s.sen.seq = 4 then outageTag s else s)

/-- The hub drops into reset at once with a cause for its next start: outputs low, everything volatile lost (23 R789, R790; 03 R85). -/
def dropDead (cause : Nat) (s : State) : State := (hubDown cause s).modLife fun l => { l with cond := .off }

/-- SUPPLY_BROWNOUT: VDD33 or VCORE falls below its reset threshold while the mains-loss signal is down: reset without the outage sequence,
next start with cause 0x01 (23 R789). -/
def execSupplyBrownout (s : State) : Host.Outcome State Fault Refusal :=
  .next <|
    if s.sen.mlSig || !s.elec.supplyOk then s
    else
      let s := dropDead 1 s
      s.modElec fun e => { e with supplyOk := false }

/-- XTAL25_STOP: the 25 MHz oscillator stops for more than 50 µs: outputs low, the hub holds in reset, next start with cause 0x01
(23 R790). During an outage only the outputs fall. -/
def execXtal25Stop (s : State) : Host.Outcome State Fault Refusal :=
  .next <|
    let s := s.modElec fun e => { e with xtalOk := false }
    if s.sen.mlSig || !s.elec.supplyOk then setOuts false false s else dropDead 1 s

/-- NRESET_ASSERT: nRESET goes low. Both SAFE_EN outputs go low and the ports fall silent; the start that follows has cause 0x02
(03 R85). While the mains-loss signal is raised nothing else follows (23 R787). -/
def execNresetAssert (s : State) : Host.Outcome State Fault Refusal :=
  .next <|
    if !s.elec.supplyOk || s.life.cond == .dormant then s
    else if s.sen.mlSig then setOuts false false s
    else
      let s := dropDead 2 s
      s.modElec fun e => { e with nreset := false }

/-- A head in reset, or unpowered: every output in its reset state, unpaired, its counters cleared (23 R792, Table 23.10; 06 R206). Serial,
pairing key and the level of its supply stand. -/
def headDown (h : Head) : Head := { ({} : Head) with serial := h.serial, pairKey := h.pairKey, on := false }

/-- A head goes down: its outputs and what its pipes held. -/
def dropHead (slot : Fin 8) (s : State) : State := (s.modHead slot headDown).modHpipes slot fun _ => {}

/-- HEAD_SUPPLY_LOSS: the head drops every K_LS and goes silent; the hub finds it lost by its silence (23 R791). -/
def execHeadSupplyLoss (slot : Fin 8) (s : State) : Host.Outcome State Fault Refusal := .next <| dropHead slot s

/-- HEAD_RESET: while its nRESET is held low a head keeps every output in its reset state and sends nothing; released, it starts unpaired with
its counters at zero (23 R792; 06 R206, R220). -/
def execHeadReset (slot : Fin 8) (held : Bool) (s : State) : Host.Outcome State Fault Refusal :=
  .next <|
    let s := dropHead slot s
    if held then s else s.modHead slot fun h => { h with on := true }

end Sys2Proof.Machine
end

