-- ==== Sys2Proof/Machine/Start.lean ====
section
/-! DEFINITION. The start sequence S1 to S10 (spec/03 R84 to R93, R101, R106 to R119; spec/22 R731 to R734, R757; spec/09 R332, R334, R336;
spec/14 R501 to R503; spec/21 R713, R729). -/

namespace Sys2Proof.Machine

/-! S1 (03 Table 3.2). -/

/-- Whether a start may begin: the hub waits for its supplies or is held in reset, or the mains returns to a hub that an outage stopped
(03 R84, R117; 21 R713). -/
def startOpen (s : State) : Bool :=
  (s.life.cond == .start && s.life.step == 0) || s.life.cond == .off || s.life.cond == .dormant
    || (s.life.cond == .outage && !s.elec.supplyOk && !s.epd.lastLight)

/-- The hub comes back from an outage: cause 0x07, or 0x01 where the sentinel domain has lost its supply as well; SEN notes the return and the
seconds it was DORMANT (03 R84; 21 R713). -/
def outageReturn (s : State) : State :=
  if s.life.cond != .outage && s.life.cond != .dormant then s
  else
    let slept := if s.sen.st = .dormant then s.sen.rtcS - s.sen.dormSince else 0
    let cause := if s.sen.st = .cold then 1 else 7
    hubDown cause (s.modSen fun e =>
      { e with st := if e.st = .cold then .cold else .powered, retRtc := e.rtcS, dormantS := slept })

/-- S1: the supplies are in range, nRESET is high, PWR_FAIL low and the oscillator settled (03 Table 3.2). -/
def startS1 (s : State) : State :=
  let s := outageReturn s
  let s := s.modSen fun e => { e with mlSig := false, pwrFail := false }
  let s := s.modElec fun e => { e with supplyOk := true, nreset := true, xtalOk := true }
  s.modLife fun l => { l with cond := .start, step := 0, outputsOff := false }

/-! S2 (03 R91 to R93, R106, R115). -/

/-- Cells of which one bit is burnt. -/
def halfBurnt (s : State) : List Nat := (s.life.cells.filter (·.2 == .one)).map (·.1)

/-- S2: the start is reported, half-burnt cells are completed with event 0x6110 each, the state is derived; cells that match no row write
event 0x6107 and the hub treats itself as RETIRED. STARTS counts from KEYED on (03 R84, R92, R93, R107, R115). -/
def startS2 (s : State) : State :=
  let s := raise 0x7101 1 255 s.life.cause s
  let s := (halfBurnt s).foldl (fun s i => raise 0x6110 1 255 i (burn i s)) s
  let s := match cellState s with
    | some _ => s
    | none => raise 0x6107 1 255 (min (sealCount s) 0xFFFF * 65536 + min (serviceCount s) 0xFFFF)
        (s.modLife fun l => { l with treatRetired := true })
  if burnt s cellKeyed then s.modLife fun l => { l with starts := inc32 l.starts } else s

/-! S3 (22 R731 to R734, R757). -/

/-- What a start leaves of the fabric before its test: counters since start at zero, rolling substitutions and the SUSPECT states of lanes
and rows gone, soft repairs as the map holds them (22 R732, R757). -/
def fabFresh (v : Fab) : Fab :=
  { v with
    lanes := vmap (fun (a : Lane) => { ({} : Lane) with st := if a.st = .retired then .retired else .inService, fused := a.fused, fails := a.fails }) v.lanes
    step := {}, ret := {}, skips := 0, takeDue := [], residue := 0, mismatch := 0, fails := 0, steps := 0
    banks := vmap (fun (b : BankH) => { ({} : BankH) with rows := (b.rows.filter fun r => r.st == .retired).map fun r => { r with ceRot := 0 } }) v.banks
    blks := (v.blks.filter fun b => b.st == .retired || v.spares.toList.any fun k => k.use == 1 && k.repl == b.blk).map fun b =>
      { b with ceRot := 0, cePrev := false }
    block := 0, rolling := none, blkMove := [], bce := 0, bue := 0, brot := 0, returns := 0, noSpare := false }

/-- Remap one failing row of a bank to its lowest free spare row and record the repair; none free: false (22 Table 22.2 order 3). -/
def rowRepair (bank : Fin 32) (r : Nat) (s : State) : State × Bool :=
  match freeRow s.fab.banks[bank] with
  | some sp => (modBank bank (putRow { row := r, st := .retired, spare := some sp, kind := 1 }) s, true)
  | none => (s, false)

/-- The failing rows of a bank that no repair covers yet. -/
def newRows (rows : List (Fin 32 × Nat)) (bank : Fin 32) (s : State) : List Nat :=
  (((rows.filter fun e => e.1 == bank && decide (e.2 < 512)).map (·.2)).filter fun r => (rowOf s.fab.banks[bank] r).st != .retired).eraseDups

/-- Order 3: March C- over every row; the repairs made at this start, and the banks with more failing rows than free spares, each with its
failing rows. -/
def testRows (rows : List (Fin 32 × Nat)) (s : State) : State × Nat × List (Nat × Nat) :=
  (finList 32).foldl (fun acc (b : Fin 32) =>
    let fs := newRows rows b acc.1
    let r := fs.foldl (fun (p : State × Nat) x =>
      let q := rowRepair b x p.1
      (q.1, p.2 + b2n q.2)) (acc.1, 0)
    (r.1, acc.2.1 + r.2, if r.2 < fs.length then acc.2.2 ++ [(b.val, fs.length)] else acc.2.2)) (s, 0, [])

/-- Remap one failing block to the lowest free spare block and record the repair; none free: false (22 Table 22.2 order 4). -/
def blkRepair (b : Nat) (s : State) : State × Bool :=
  match freeBlk s with
  | some k => (putBlk { blk := b, st := .retired } (modSpare k (fun _ => { st := .inService, use := 1, repl := b }) s), true)
  | none => (s, false)

/-- Order 4: the blocks remapped at this start, and how many found no spare. -/
def testBlks (blks : List Nat) (s : State) : State × Nat × Nat :=
  let fs := ((blks.filter fun b => decide (b < 1024)).filter fun b => (blkOf s b).st != .retired && (spareOf s b).isNone).eraseDups
  let r := fs.foldl (fun (p : State × Nat) b =>
    let q := blkRepair b p.1
    (q.1, p.2 + b2n q.2)) (s, 0)
  let r := (if r.2 < fs.length then (r.1.modFab fun v => { v with noSpare := true }) else r.1, r.2)
  (r.1, r.2, fs.length - r.2)

/-- The lanes that work: not fused off, not retired, passing the lane test (22 Table 22.2 order 5). -/
def goodLanes (bad : List (Fin 18)) (s : State) : List (Fin 18) :=
  (finList 18).filter fun l => !s.fab.lanes[l].fused && s.fab.lanes[l].st != .retired && !bad.contains l

/-- The number of an entry in a list. -/
def indexIn {α : Type} [DecidableEq α] (x : α) : List α → Nat
  | [] => 0
  | y :: ys => if y = x then 0 else indexIn x ys + 1

/-- A lane after order 5: positions 0 to 15 in ascending lane number, the rest spare, failing lanes RETIRED. -/
def laneAfter (good : List (Fin 18)) (l : Fin 18) (a : Lane) : Lane :=
  if good.contains l then
    let k := indexIn l good
    if k < 16 then { a with st := .inService, pos := some k } else { a with st := .spare, pos := none }
  else { a with st := .retired, pos := none }

/-- Order 5. -/
def testLanes (bad : List (Fin 18)) (s : State) : State :=
  let good := goodLanes bad s
  (finList 18).foldl (fun s (l : Fin 18) => modLane l (laneAfter good l) s) s

/-- Argument of event 0x9002. -/
def testFail (order unit count : Nat) (s : State) : State :=
  raise 0x9002 1 255 (order * 2 ^ 24 + min unit 255 * 2 ^ 16 + min count 0xFFFF) s

/-- S3: the start-up self-test in the order of 22 Table 22.2; event 0x9002 for each failure, then event 0x9001, and page 0x0001 word 6
(22 R733, R734). The flag says whether it failed. -/
def startS3 (o : StartObs) (s : State) : State × Bool :=
  let mapBad := decide (o.mapOk ≤ 1)
  let s := s.modFab fun v => { fabFresh v with mapOk := if mapBad then o.mapOk else 3 }
  let r := testRows o.rows s
  let b := testBlks o.blks r.1
  let s := b.1
  let good := goodLanes o.lanes s
  let s := testLanes o.lanes s
  let rowsN := r.2.1
  let blksN := b.2.1
  let failed := mapBad || !r.2.2.isEmpty || b.2.2 != 0 || decide (good.length < 16) || !o.kat.isEmpty
  let s := if mapBad then testFail 1 0 1 s else s
  let s := r.2.2.foldl (fun s e => testFail 3 e.1 e.2 s) s
  let s := if b.2.2 = 0 then s else testFail 4 0 b.2.2 s
  let bad := (finList 18).filter fun l => !good.contains l
  let s := if good.length < 16 then testFail 5 ((bad.head?.map (·.val)).getD 0) bad.length s else s
  let s := o.kat.foldl (fun s n => testFail 6 n 1 s) s
  let outcome := if failed then 2 else if rowsN + blksN ≠ 0 then 1 else 0
  let s := s.modLife fun l => { l with bist := outcome, lanes := good.length, rows := min rowsN 0xFFFF, blocks := min blksN 0xFFFF }
  (raise 0x9001 1 255 (outcome * 2 ^ 24 + good.length * 2 ^ 16 + min rowsN 255 * 2 ^ 8 + min blksN 255) s, failed)

/-! S4 (03 R88, R89, R101; 04 R154). -/

/-- Slot 0 as first-start keying fills it: the identity key pair (03 R88 step 6; 04 Table 4.6). -/
def identSlot (d : Nat) : KeySlot :=
  { keyId := keyIdOf (Config.publicHalf d), alg := 0x10, usage := 0x82, masters := 2, lcMask := 0x1F, status := .loaded
    pub := pubWords (Config.publicHalf d), secret := d }

/-- First-start keying that succeeds: root secret, PUF enrolment, both copies, the identity key; the KEYED cell is burnt last, event 0x6101
(03 R88). Values drawn are free (log entry 4). -/
def firstKeying (s : State) : State :=
  let r := drbgDraw 256 s
  let d := drbgDraw 256 r.2
  let s := d.2.modKeys fun k =>
    { k with root := r.1, rootCopy1 := true, rootCopy2 := true, pufHelper := true, kwkReady := true
             slots := k.slots.set 0 (identSlot d.1), wrapCtr := k.wrapCtr + 1 }
  let s := lcStamp (burn cellKeyed s)
  raise 0x6101 1 255 0 (s.modLife fun l => { l with starts := 1 })

/-- One PUF read: whether copy 1, and whether copy 2, of the root secret decrypts. -/
def readOk (s : State) (x : Bool × Bool) : Bool × Bool := (x.1 && s.keys.rootCopy1, x.2 && s.keys.rootCopy2)

/-- The first of at most three PUF reads that yields a valid copy: a failed copy 1 is rewritten from copy 2 (03 R89). The flag says whether
the root secret is known. -/
def unwrapRoot (reads : List (Bool × Bool)) (s : State) : State × Bool :=
  match (reads.take 3).find? fun x => (readOk s x).1 || (readOk s x).2 with
  | some x =>
    let one := (readOk s x).1
    (s.modKeys fun k => { k with kwkReady := true, rootCopy1 := true, rootCopy2 := if one then k.rootCopy2 else true }, true)
  | none => (raise 0x6109 1 255 3 s, false)

/-- The wrapped keys are checked: a slot whose tag or CRC fails is set to fault with event 0x6122; slot 0 or 2 in fault leads to NO-CONFIG
with cause 3, a faulted slot 1 is regenerated and every stored record re-signed (04 R154, Table 4.17; 15 R514). The flag says whether the
start goes on. -/
def checkSlots (bad : List (Fin 64)) (s : State) : State × Bool :=
  let s := bad.foldl (fun s (k : Fin 64) =>
    let x := s.keys.slots[k]
    if x.status != .loaded then s
    else raise 0x6122 1 255 (k.val * 2 ^ 24 + x.role * 2 ^ 16)
      (s.modKeys fun y => { y with slots := y.slots.set k { x with status := .fault } })) s
  let broken := fun (k : Fin 64) => s.keys.slots[k].status == .fault
  if broken 0 || broken 2 then (s, false)
  else if broken 1 then (resignRecords (newMetrologyKey s), true)
  else (s, true)

/-- S4 by the life-cycle state: BLANK keys itself, RETIRED completes zeroisation, else the root secret is unwrapped and the slots are
checked. The answer is the NO-CONFIG cause, 0 none (03 R88, R89, R101). `failed`: the self-test has failed, and no key is touched. -/
def startS4 (o : StartObs) (failed : Bool) (s : State) : State × Nat :=
  if lcCode s = 5 then (zeroise s, 0)
  else if failed then (s, 2)
  else if lcCode s = 0 then (if 3 ≤ o.keyFails then (s, 4) else (firstKeying s, 0))
  else
    let u := unwrapRoot o.puf s
    if !u.2 then (u.1, 3)
    else
      let c := checkSlots o.badSlots u.1
      (c.1, if c.2 then 0 else 3)

/-! S5 (09 R332; 14 R501, R502; 08 R286; 15 R509; 21 R729; 05 R189). -/

/-- LOCKOUT_RECORD_RESTORE: a copy whose CRC fails is rewritten from the other, event 0x1208 with argument 1; when both fail every point and
the hub are locked out with cause 0x05, event 0x1208 with argument 2 (09 R332). -/
def lockRestore (okA okB : Bool) (s : State) : State :=
  let a := okA && s.safe.a.lockOk
  let b := okB && s.safe.b.lockOk
  let s := if a && b then s
    else if a then raise 0x1208 0x10 255 1 (s.modSafe fun x => { x with b := { x.b with lockRec := x.a.lockRec, lockOk := true } })
    else if b then raise 0x1208 0x10 255 1 (s.modSafe fun x => { x with a := { x.a with lockRec := x.b.lockRec, lockOk := true } })
    else raise 0x1208 0x10 255 2
      (modSsms (fun m => { m with lockRec := { m.lockRec with hub := 5, cause := Vector.replicate 32 5 }, lockOk := true }) s)
  (finList 32).foldl (fun s (i : Fin 32) =>
    s.modPsafe i fun x => { x with st := if lockCause s i = 0 then .opened else .lockedOut }) s

/-- Whether the list of failing register copies names a point's copy A, or B. -/
def badCopies (l : List (Fin 32 × Bool × Bool)) (i : Fin 32) : Bool × Bool :=
  (l.any fun e => e.1 == i && e.2.1, l.any fun e => e.1 == i && e.2.2)

/-- The end reason of a session that the stop before this start cut off, by start cause (12 Table 12.5; log entry 35). -/
def cutReason (cause : Nat) : Nat :=
  if cause = 3 || cause = 4 then 8 else if cause = 2 || cause = 5 || cause = 6 then 9 else if cause = 8 then 10 else 17

/-- S5: recovery of ledger, registers, journal, records and delivery (03 Table 3.2). -/
def startS5 (o : StartObs) (s : State) : State :=
  let s := ledRecover o.badIntents o.per s
  let s := (finList 32).foldl (fun s (i : Fin 32) => restoreRegs i (badCopies o.badRegs i).1 (badCopies o.badRegs i).2 s) s
  dlvResume (recsRecover (cutReason s.life.cause) (jrnRecover o.torn s))

/-! S6 (03 R98, R115, R116; 05 R174). -/

/-- NO_CONFIG_ENTRY: the start will end in NO-CONFIG with a cause, event 0x7103 (03 R116). -/
def enterNoConfig (cause : Nat) (s : State) : State :=
  raise 0x7103 1 255 cause (s.modLife fun l => { l with cond := .noConfig, nocfg := cause })

/-- The points that the image fits are out-of-service until their head is admitted (10 R355, R366). -/
def pointsAtStart (s : State) : State :=
  (finList 32).foldl (fun s (i : Fin 32) => s.modCp i fun x => { x with pst := if hasPoint s i.val then .outOfService else .absent }) s

/-- S6: a slot is selected where the keys allow it; the hub goes on toward RUN, or into NO-CONFIG, or is RETIRED
(03 Table 3.2, R114 to R116; 05 R174). -/
def startS6 (o : StartObs) (cause : Nat) (s : State) : State :=
  if lcCode s = 5 then s.modLife fun l => { l with cond := .retired, nocfg := 0 }
  else if cause ≠ 0 then enterNoConfig cause s
  else
    let p := selectSlot o.failA o.failB s
    if p.2 then pointsAtStart p.1 else enterNoConfig 1 p.1

/-- Steps S1 to S6. A test-port fuse that reads intact stops the hub with every output off, and nothing is written (03 R86, R106). -/
def startBegin (o : StartObs) (s : State) : State :=
  if s.life.testFuseIntact then
    (setOuts false false s).modLife fun l => { l with cond := .stopped, outputsOff := true }
  else
    let s := startS2 (startS1 s)
    let s := lockRestore o.lockA o.lockB s
    let t := startS3 o s
    let k := startS4 o t.2 t.1
    let s := startS6 o k.2 (startS5 o k.1)
    let s := (syncWins s).modMbus fun m => { m with baud := mbBaud s }
    s.modLife fun l => { l with step := 6 }

/-! S9 (09 R334). -/

/-- S9 within cycle C0 + 63, or the re-arming that a lock-out reset asked for: the SSMs arm by the outcome of `arm` (03 Table 3.2;
09 R315, R334). -/
def startArm (mons : List (Bool × Bool)) (s : State) : State :=
  if s.sen.mlSig then s
  else if s.life.cond = .start then
    if s.clk.started && decide (7 ≤ s.life.step) && decide (s.life.c0 + 63 ≤ s.clk.count) && !armed s then
      (arm mons s).modLife fun l => { l with step := max l.step 9 }
    else s
  else if s.life.cond = .run && s.safe.rearm then arm mons s
  else s

/-- START_SEQUENCE: steps S1 to S6 with what they find, or the arming of step S9 (03 R86). Steps S7, S8 and S10 are the clock's, the heads'
and RUN_ENTRY's commands. -/
def execStartSequence (x : StartStep) (s : State) : Host.Outcome State Fault Refusal :=
  .next <|
    match x with
    | .begin o => if startOpen s then startBegin o s else s
    | .arm mons => startArm mons s

/-! S10 (03 R87; 21 R713). -/

/-- Body of the RETURN record (21 Table 21.9). -/
def returnBody (s : State) : List W128 :=
  let e := s.sen
  let u := fun (n : Nat) => min n 65535
  [mkWord [(64, e.retRtc % 2 ^ 64), (32, min e.dormantS (2 ^ 32 - 1)), (16, u e.coverD), (0, u e.termD)],
   mkWord [(64, s.life.c0 % 2 ^ 64), (60, e.level % 16), (58, s.epd.ll % 4), (32, u e.vStore), (0, min e.bufLost (2 ^ 32 - 1))]]

/-- After a start with cause 0x07 LED writes the RETURN record once it runs (21 R713). -/
def writeReturn (s : State) : State :=
  let s := if s.life.cause = 7 then (jrnWrite 4 (returnBody s) none [] 0 s).1 else s
  s.modSen fun e => { e with bufLost := 0, coverD := 0, termD := 0 }

/-- Mask of the admitted slots. -/
def admittedMask (s : State) : Nat :=
  ((finList 8).map fun (k : Fin 8) => if s.ports[k].st = .admitted then 2 ^ k.val else 0).sum

/-- RUN_ENTRY at (C0 + 64):0: the engines are released, heads that are ready are admitted, event 0x7102 with their mask; the tag, the panel,
the link and the ledger begin their run (03 R87; 14 R471, R485; 16 R560; 18 R640; 20 R692; 21 R713). `assetFault`: an asset that DSP needs
cannot be read. -/
def execRunEntry (assetFault : Bool) (s : State) : Host.Outcome State Fault Refusal :=
  .next <|
    if s.life.cond != .start || !s.clk.started || s.clk.count ≠ s.life.c0 + 64 || s.sen.mlSig then s
    else
      let s := s.modLife fun l => { l with cond := .run, step := 10 }
      let s := (finList 8).foldl (fun s (k : Fin 8) => admitHead k s) s
      let s := raise 0x7102 1 255 (admittedMask s) s
      let s := epdRelease assetFault (tagAtRun (linkReset (ledAtRun s)))
      publishAll (writeReturn s)

end Sys2Proof.Machine
end

