-- ==== Sys2Proof/Machine/Retire.lean ====
section
/-! DEFINITION. Retiring and restarting: the retire sequence, the burning of the RETIRED cell and a restart that is due (spec/03 R96, R100,
R101, R103, R104, R111; spec/14 R479; spec/15 R512). -/

namespace Sys2Proof.Machine

/-- Every session ends at this boundary with a reason, and every point goes out-of-service (03 R100 step 1, R103). -/
def endAllSessions (reason : Nat) (s : State) : State :=
  (finList 32).foldl (fun s (i : Fin 32) =>
    if s.cp[i].pst = .absent then s
    else
      let open_ := bound s i || (startWaits s i).isSome
      let s := if open_ then s.modSes i fun x => { x with ended := some reason } else s
      if s.cp[i].pst = .outOfService then s else goOut i 5 s) s

/-- The bindings that end at this boundary, each with the reason its end notice brings; notices of starts are dropped (03 R100, R103;
14 R479). -/
def closeBindings (reason : Nat) (s : State) : State :=
  let s := (finList 32).foldl (fun s (i : Fin 32) =>
    let w := s.gates.bindInlet.find? fun n => n.point == i.val && n.ending.isSome
    modBind i (fun b =>
      if b.endReason.isSome then b
      else { b with endReason := some ((w.bind (·.ending)).getD reason), endAt := s.clk.count, endBnd := s.clk.bndTot, endRtc := s.clk.rtcS
                    proto := (w.map (·.proto)).getD b.proto, emaid := (w.map (·.emaid)).getD b.emaid }) s) s
  s.modGates fun g => { g with bindInlet := [] }

/-- What the end of RUN by a life-cycle order or a restart does first: sessions end, MET completes the last cycle, LED writes the commits tied
to this boundary, and the rail opens with cause 0x22 (03 R100, R103; 09 R335; 14 R479). -/
def endRun (reason : Nat) (s : State) : State :=
  let s := ledFinal (closeBindings reason (endAllSessions reason s))
  railOpen 0x22 (s.modSafe fun x => { x with railCause := 0x22 })

/-- The bound slots of the current period, ascending. -/
def boundSlots (s : State) : List Nat :=
  ((bankAt s (bankOfRole s 0)).rows.filter fun r => r.2.tenant != 0).map (·.1)

/-- Step 2 of R100: a register reading of every bound slot is signed and stored (03 R100; 15 R512). Without a metrology key nothing can be
signed. -/
def retireReadings (s : State) : State :=
  let l := boundSlots s
  let s := s.modRecs fun r => { r with retireTodo := l }
  let s := if (keySlot s 1).status == .loaded && !(s.life.cond == .noConfig && decide (2 ≤ s.life.nocfg)) then
      l.foldl (fun s k => retireReading k s) s
    else s.modRecs fun r => { r with retireTodo := [] }
  s.modLife fun l => { l with retireRead := true }

/-- RETIRE_SEQUENCE: at its boundary B a retire order ends every session with reason 10, drops a pending restart and has the register readings
made (03 R96, R100, R111). -/
def execRetireSequence (s : State) : Host.Outcome State Fault Refusal :=
  .next <|
    match s.life.pend with
    | none => s
    | some p =>
      if p.toState ≠ 5 || s.clk.count < p.effect || s.sen.mlSig || !(s.life.cond == .run || s.life.cond == .noConfig) then s
      else
        let s := s.modLife fun l => { l with pend := none, rst := none, freeze := false, retireAt := some s.clk.count }
        let s := if s.life.cond = .run then endRun 10 s else s
        publishAll (retireReadings s)

/-- RETIRE_CELL_BURN: at the first boundary after the readings are stored BOOT-M burns RETIRED, event 0x6105 with the previous state, zeroises,
and the hub restarts with cause 0x08 (03 R100, R101). -/
def execRetireCellBurn (s : State) : Host.Outcome State Fault Refusal :=
  .next <|
    match s.life.retireAt with
    | none => s
    | some b =>
      if s.clk.count ≤ b || !s.life.retireRead || s.sen.mlSig then s
      else
        let old := lcCode s
        hubDown 8 (zeroise (raise 0x6105 1 255 old (lcStamp (burn cellRetired s))))

/-- Whether a pending restart takes place at this boundary: AT at its mark; IDLE at or after it when no point has a session in progress
(03 R103). -/
def restartNow (r : RstPend) (s : State) : Bool :=
  decide (r.mark ≤ s.clk.count)
    && (r.atKind || (finList 32).all fun (i : Fin 32) => !bound s i && (startWaits s i).isNone)

/-- RESTART_DUE: EXPECT_GEN is checked again, event 0x7105 with reason 2 when it fails; else the sessions that remain end with reason 9, the
commits of this boundary are written and the hub restarts with cause 0x06 or 0x05 (03 R103, R104; 14 R479). -/
def execRestartDue (s : State) : Host.Outcome State Fault Refusal :=
  .next <|
    match s.life.rst with
    | none => s
    | some r =>
      if s.life.retireAt.isSome || s.sen.mlSig || !s.clk.started || !restartNow r s then s
      else if r.gen ≠ 0 && !inactiveHolds s r.gen then
        raise 0x7105 1 255 2 (s.modLife fun l => { l with rst := none, freeze := false })
      else hubDown (if r.gen ≠ 0 then 6 else 5) (if s.life.cond = .run then endRun 9 s else s)

end Sys2Proof.Machine
end

