-- ==== Sys2Proof/Machine/Ticks.lean ====
section
/-! DEFINITION. Tick starts: the downstream frame of every configured port, and the samples of the tariff and LLIM inputs (spec/06 R194 to R208, R223,
Tables 6.6, 6.8 and 6.9; spec/02 R63 to R66; spec/14 R469; spec/19 R654). -/

namespace Sys2Proof.Machine

/-- The SYNC word of a downstream frame, first byte in bits 7:0 (06 R195). -/
def syncDown : Nat := 0x55FB50BC

/-- The frame type of a port in a state, none where the port sends no frame (06 Tables 6.6 and 6.9): 0 RUN, 1 PAIR, 2 CHECK. A FAILED port
is silent until its retry (log entry 45). DESIGN CHOICE. -/
def portType (p : Port) : Option Nat :=
  match p.st with
  | .dark | .pairing => some 1
  | .testing => if p.checkStep = 5 then none else some 2
  | .ready => some 2
  | .admitted | .slow => some 0
  | .failed => none

/-- Tokens A and B of a point for a tick number: each SSM writes the code that permits, or its complement, which withdraws
(06 R202; log entry 46). DESIGN CHOICE. -/
def tokenByte (tick : Nat) (a b : Bool) : Nat :=
  let n := tick % 16
  let ca := n ^^^ 0xA
  let cb := n ^^^ 0x5
  (if a then ca else 15 - ca) * 16 + (if b then cb else 15 - cb)

/-- Words 3 to 10 of a PAIR frame (06 Table 6.8). -/
def pairWords (p : Port) : List Nat :=
  let v := if p.pairStep = 1 then p.nonceH else if p.pairStep = 3 then p.confirm else 0
  [p.pairStep * 2 ^ 24] ++ (List.range 4).map (fun k => bits v (32 * k + 31) (32 * k)) ++ [0, 0, 0]

/-- Words 3 to 10 of a CHECK frame: CHECK_STEP, the test tokens, the settings (06 Table 6.8, R208). -/
def checkWords (s : State) (slot : Fin 8) (tick : Nat) : List Nat :=
  let st := s.ports[slot].checkStep
  let tok := tokenByte tick (st = 2 || st = 3) (st = 2 || st = 4)
  [st * 2 ^ 24, 0, 0, 0, tok * 0x01010101, 0, headSettings s slot.val, 0]

/-- The fluxgate test current of a point is injected in tick k of the cycle with count c (09 R296). -/
def injects (s : State) (i : Fin 32) (c : Nat) : Bool :=
  s.psafe[i].st == .testing && s.psafe[i].testLeft != 0 && decide (s.psafe[i].testAt < c)

/-- Whether the SSMs permit a point in a tick of the cycle with count c: their opinions, and from the closing mark on a closing that still
holds (09 R297). -/
def permitsIn (s : State) (i : Fin 32) (b : Bool) (c : Nat) : Bool :=
  (if b then s.safe.b.opinion[i] else s.safe.a.opinion[i])
    || (s.psafe[i].st == .closing && decide (s.psafe[i].testAt + 2 ≤ c) && closeHolds s i && mayAsk s i)

/-- Words 3 to 9 of a RUN frame (06 Table 6.6); FG_TST stands in word 8. -/
def runWords (s : State) (slot : Fin 8) (tick c : Nat) : List Nat :=
  let pts := headPts slot
  let x := fun (f : Fin 32 → Nat) (w : Nat) => ((pts.zip [0, 1, 2, 3]).map fun e => f e.1 * 2 ^ (w * e.2)).foldl (· + ·) 0
  let duty := x (fun i => s.cp[i].duty % 2 ^ 16) 16
  let off := s.ports[slot].tokensOff
  let tok := fun (i : Fin 32) => tokenByte tick (!off && permitsIn s i false c) (!off && permitsIn s i true c)
  [duty % 2 ^ 32, duty / 2 ^ 32, x (fun i => s.cp[i].cpMode % 16) 4 * 2 ^ 16 + x (fun i => s.cp[i].lockCmd % 4) 2 * 2 ^ 8,
   x (fun i => s.cp[i].ind % 256) 8, x tok 8,
   word8Of s.meas[slot].halo + x (fun i => b2n (injects s i c)) 1 * 16, headSettings s slot.val]

/-- A whole frame from its header fields and the words after them (06 R195, R196, R200). -/
def frameOf (tick ctag phase slot typ : Nat) (ws : List Nat) : List W32 :=
  let len := ws.length + 4
  let body := ([tick % 65536 * 2 ^ 16 + ctag % 65536, phase * 2 ^ 16 + slot * 2 ^ 13 + typ * 2 ^ 9 + len] ++ ws).map fun w => BitVec.ofNat 32 w
  [BitVec.ofNat 32 syncDown] ++ body ++ [BitVec.ofNat 32 (crc32 (w32Bytes body))]

/-- The state whose commands a frame for the next cycle carries: what the coming boundary decides for pilots, locks and openings is in
force from the first tick that starts at it (02 R66; log entry 47). DEDUCED. -/
def nextCommands (s : State) : State :=
  pilotBoundary (s.modClk fun c => { c with count := nextCount s, bndTot := c.bndTot + 1 })

/-- The frame that governs a tick goes out on one port; a RUN frame takes at most 268 tunnel words from the queue (06 R204, R211).
`v`: the state whose commands it carries; `c`: the count of the governed tick. -/
def portFrame (slot : Fin 8) (v : State) (tick c phase : Nat) (s : State) : State :=
  if !hasHead s slot.val || s.sen.mlSig then s.modPort slot fun p => { p with tx := [] }
  else
    match portType s.ports[slot] with
    | none => s.modPort slot fun p => { p with tx := [], checkTk := p.checkTk + 1 }
    | some typ =>
      let tun := if typ = 0 then s.ports[slot].txQueue.take 268 else []
      let ws := if typ = 0 then runWords v slot tick c ++ [tun.length * 2 ^ 16] ++ tun.map (·.toNat)
        else if typ = 1 then pairWords s.ports[slot]
        else checkWords s slot tick
      let f := frameOf tick c phase slot.val typ ws
      s.modPort slot fun p =>
        { p with tx := f, txQueue := if typ = 0 then p.txQueue.drop 268 else p.txQueue
                 checkTk := if p.st = .testing then p.checkTk + 1 else p.checkTk
                 word8 := if typ = 0 then f.getD 8 0 else p.word8 }

/-- The injections that a launched frame carries are counted down (09 R296). -/
def countInjections (c : Nat) (s : State) : State :=
  (finList 32).foldl (fun s (i : Fin 32) =>
    if injects s i c then s.modPsafe i fun x => { x with testLeft := x.testLeft - 1 } else s) s

/-- The inputs sampled at a tick start: the tariff code with TAR_POL, and LLIM with LLIM_POL (14 R469, 19 R654). -/
def sampleInputs (tar : Nat) (llim : Bool) (s : State) : State :=
  let code := (tar % 4) ^^^ cfg s 0x50 0 0 87 86
  let s := s.modLed fun l => { l with tarCodes := l.tarCodes ++ [code] }
  s.modShare fun h => { h with llimSamp := h.llimSamp ++ [llim != llimPol (ownPay s)] }

/-- Whether the tick starts of the cycle in progress are not all over: the next one starts in it (02 R63). -/
def tickDue (s : State) : Bool :=
  clockRuns s && s.clk.started && decide (tickCycle s s.clk.tickTot + 1 = s.clk.bndTot)

/-- TICK_START: tick j starts. The hub launches the frame that governs tick j + 1 on every configured port and samples its inputs
(06 R197, R200; 02 R63 to R65). `tar`: 2 × TAR1 + TAR0 as read. -/
def execTickStart (tar : Nat) (llim : Bool) (s : State) : Host.Outcome State Fault Refusal :=
  .next <|
    if !tickDue s then s
    else
      let j := s.clk.tickTot
      let pos : Rat := (j : Rat) * tickCy s
      let frac := fun (r : Rat) => (truncRat ((r - (r.floor : Rat)) * 65536)).toNat
      let s := s.modClk fun c => { c with tick := j % 65536, tickTot := j + 1, lastTickCount := c.count, lastTickPhase := frac pos }
      let crosses := decide (s.clk.bndTot ≤ tickCycle s (j + 1))
      let c := if crosses then nextCount s else s.clk.count
      let v := if crosses then nextCommands s else s
      let s := (finList 8).foldl (fun s (slot : Fin 8) => portFrame slot v ((j + 1) % 65536) c (frac ((j + 1 : Nat) * tickCy s)) s) s
      let s := countInjections c s
      if s.life.cond = .run || s.life.cond = .start then sampleInputs tar llim s else s

end Sys2Proof.Machine
end

