-- ==== Sys2Proof/Machine/Dispatch.lean ====
section
/-! DEFINITION. One arm per command: each calls the one meaning of its command. -/

namespace Sys2Proof.Machine

/-- The effect of a command on everything but the queue. -/
def exec (i : Instr) (s : State) : Host.Outcome State Fault Refusal :=
  match i with
  | .heartbeatLost e => Sys2Proof.Machine.execHeartbeatLost e s
  | .crossWorldWrite e addr => Sys2Proof.Machine.execCrossWorldWrite e addr s
  | .bindingNotice => Sys2Proof.Machine.execBindingNotice s
  | .zeroCrossing inp iv phase => Sys2Proof.Machine.execZeroCrossing inp iv phase s
  | .crossingSlip inp => Sys2Proof.Machine.execCrossingSlip inp s
  | .acquireTimeout => Sys2Proof.Machine.execAcquireTimeout s
  | .holdoverTimeout => Sys2Proof.Machine.execHoldoverTimeout s
  | .msInputAbsent inp => Sys2Proof.Machine.execMsInputAbsent inp s
  | .msInputPresent inp => Sys2Proof.Machine.execMsInputPresent inp s
  | .sourceChange => Sys2Proof.Machine.execSourceChange s
  | .returnToL1 => Sys2Proof.Machine.execReturnToL1 s
  | .cycleBoundary o => Sys2Proof.Machine.execCycleBoundary o s
  | .countCheckpoint => Sys2Proof.Machine.execCountCheckpoint s
  | .tickStart tar llim => Sys2Proof.Machine.execTickStart tar llim s
  | .countAlignment o => Sys2Proof.Machine.execCountAlignment o s
  | .nresetAssert => Sys2Proof.Machine.execNresetAssert s
  | .startSequence x => Sys2Proof.Machine.execStartSequence x s
  | .runEntry assetFault => Sys2Proof.Machine.execRunEntry assetFault s
  | .orderTimeSet o => Sys2Proof.Machine.execOrderTimeSet o s
  | .timeSetApply => Sys2Proof.Machine.execTimeSetApply s
  | .orderPointService o => Sys2Proof.Machine.execOrderPointService o s
  | .serviceStateApply => Sys2Proof.Machine.execServiceStateApply s
  | .orderTenantBlock o => Sys2Proof.Machine.execOrderTenantBlock o s
  | .orderTenantUnblock o => Sys2Proof.Machine.execOrderTenantUnblock o s
  | .tenantBlockApply => Sys2Proof.Machine.execTenantBlockApply s
  | .orderSeal o => Sys2Proof.Machine.execOrderSeal o s
  | .orderUnseal o => Sys2Proof.Machine.execOrderUnseal o s
  | .orderRetire o => Sys2Proof.Machine.execOrderRetire o s
  | .lifeCycleChange => Sys2Proof.Machine.execLifeCycleChange s
  | .retireSequence => Sys2Proof.Machine.execRetireSequence s
  | .retireCellBurn => Sys2Proof.Machine.execRetireCellBurn s
  | .orderRestart o => Sys2Proof.Machine.execOrderRestart o s
  | .restartSessionFreeze => Sys2Proof.Machine.execRestartSessionFreeze s
  | .restartDue => Sys2Proof.Machine.execRestartDue s
  | .orderUnknownType o => Sys2Proof.Machine.execOrderUnknownType o s
  | .deliveryBegin o => Sys2Proof.Machine.execDeliveryBegin o s
  | .deliveryData o => Sys2Proof.Machine.execDeliveryData o s
  | .deliveryEnd o => Sys2Proof.Machine.execDeliveryEnd o s
  | .deliveryAbandon o => Sys2Proof.Machine.execDeliveryAbandon o s
  | .deliveryEraseDone => Sys2Proof.Machine.execDeliveryEraseDone s
  | .deliveryVerifyDone readFail => Sys2Proof.Machine.execDeliveryVerifyDone readFail s
  | .orderReadoutPages o => Sys2Proof.Machine.execOrderReadoutPages o s
  | .orderReadoutRecords o => Sys2Proof.Machine.execOrderReadoutRecords o s
  | .orderReadoutRegister o => Sys2Proof.Machine.execOrderReadoutRegister o s
  | .grantOpen => Sys2Proof.Machine.execGrantOpen s
  | .grantExpiry => Sys2Proof.Machine.execGrantExpiry s
  | .registerReadingCompose => Sys2Proof.Machine.execRegisterReadingCompose s
  | .orderAuthorise o => Sys2Proof.Machine.execOrderAuthorise o s
  | .slotSign h point slot data => Sys2Proof.Machine.execSlotSign h point slot data s
  | .slotVerify h point slot data => Sys2Proof.Machine.execSlotVerify h point slot data s
  | .slotEncrypt h slot data => Sys2Proof.Machine.execSlotEncrypt h slot data s
  | .slotDecrypt h slot data => Sys2Proof.Machine.execSlotDecrypt h slot data s
  | .slotMac h slot data tag => Sys2Proof.Machine.execSlotMac h slot data tag s
  | .slotDerive h slot window tenant => Sys2Proof.Machine.execSlotDerive h slot window tenant s
  | .slotKeyAgreement h point slot peer => Sys2Proof.Machine.execSlotKeyAgreement h point slot peer s
  | .cryptoJobDone => Sys2Proof.Machine.execCryptoJobDone s
  | .trngHealthFail adaptive fails => Sys2Proof.Machine.execTrngHealthFail adaptive fails s
  | .assetFetch kind block fails => Sys2Proof.Machine.execAssetFetch kind block fails s
  | .upstreamFrame slot ws framed => Sys2Proof.Machine.execUpstreamFrame slot ws framed s
  | .upstreamDeadline slot => Sys2Proof.Machine.execUpstreamDeadline slot s
  | .slowEnd slot => Sys2Proof.Machine.execSlowEnd slot s
  | .slowTimeout slot => Sys2Proof.Machine.execSlowTimeout slot s
  | .headSilenceLoss slot => Sys2Proof.Machine.execHeadSilenceLoss slot s
  | .statusMissingWithdraw slot => Sys2Proof.Machine.execStatusMissingWithdraw slot s
  | .pairingTimeout slot => Sys2Proof.Machine.execPairingTimeout slot s
  | .headSelfTestTimeout slot => Sys2Proof.Machine.execHeadSelfTestTimeout slot s
  | .checkStepEnd slot => Sys2Proof.Machine.execCheckStepEnd slot s
  | .headRunFrame slot ws framed fgPass => Sys2Proof.Machine.execHeadRunFrame slot ws framed fgPass s
  | .headPairFrame slot ws framed nd hub => Sys2Proof.Machine.execHeadPairFrame slot ws framed nd hub s
  | .headCheckFrame slot ws framed result => Sys2Proof.Machine.execHeadCheckFrame slot ws framed result s
  | .headFailsafe slot => Sys2Proof.Machine.execHeadFailsafe slot s
  | .headUnpairTimeout slot => Sys2Proof.Machine.execHeadUnpairTimeout slot s
  | .headExcDetect slot c fail => Sys2Proof.Machine.execHeadExcDetect slot c fail s
  | .headDcTrip point idc => Sys2Proof.Machine.execHeadDcTrip point idc s
  | .headAcTrip point iac => Sys2Proof.Machine.execHeadAcTrip point iac s
  | .fluxgateFault point => Sys2Proof.Machine.execFluxgateFault point s
  | .lowSideDriverFault point => Sys2Proof.Machine.execLowSideDriverFault point s
  | .headLockDriveCap point => Sys2Proof.Machine.execHeadLockDriveCap point s
  | .haloStep slot => Sys2Proof.Machine.execHaloStep slot s
  | .haloJudge slot x c => Sys2Proof.Machine.execHaloJudge slot x c s
  | .haloConfirmHoldEnd slot x c clean => Sys2Proof.Machine.execHaloConfirmHoldEnd slot x c clean s
  | .haloReturn slot x => Sys2Proof.Machine.execHaloReturn slot x s
  | .meterCycle => Sys2Proof.Machine.execMeterCycle s
  | .estopPressed a b => Sys2Proof.Machine.execEstopPressed a b s
  | .estopReleased => Sys2Proof.Machine.execEstopReleased s
  | .estopDiscrepancy => Sys2Proof.Machine.execEstopDiscrepancy s
  | .ssmDiscrepancy point => Sys2Proof.Machine.execSsmDiscrepancy point s
  | .ssmClockStop isB => Sys2Proof.Machine.execSsmClockStop isB s
  | .closeRequest point => Sys2Proof.Machine.execCloseRequest point s
  | .preclosureTestEnd point => Sys2Proof.Machine.execPreclosureTestEnd point s
  | .closingMark point => Sys2Proof.Machine.execClosingMark point s
  | .openRequest point => Sys2Proof.Machine.execOpenRequest point s
  | .feedbackDiscrepancy point => Sys2Proof.Machine.execFeedbackDiscrepancy point s
  | .feedbackAgainstCommand point => Sys2Proof.Machine.execFeedbackAgainstCommand point s
  | .weldDetected point => Sys2Proof.Machine.execWeldDetected point s
  | .ssmDcBackup point => Sys2Proof.Machine.execSsmDcBackup point s
  | .ssmAcTrip point => Sys2Proof.Machine.execSsmAcTrip point s
  | .cpMissingDiode point => Sys2Proof.Machine.execCpMissingDiode point s
  | .cpShortToPe point => Sys2Proof.Machine.execCpShortToPe point s
  | .proximityFault point => Sys2Proof.Machine.execProximityFault point s
  | .lockFeedbackLost point => Sys2Proof.Machine.execLockFeedbackLost point s
  | .npeOvervoltage slot => Sys2Proof.Machine.execNpeOvervoltage slot s
  | .npeCleared slot => Sys2Proof.Machine.execNpeCleared slot s
  | .t2Stop point => Sys2Proof.Machine.execT2Stop point s
  | .t2Cleared point => Sys2Proof.Machine.execT2Cleared point s
  | .ptExcitationFault point second => Sys2Proof.Machine.execPtExcitationFault point second s
  | .ptExcitationClear point => Sys2Proof.Machine.execPtExcitationClear point s
  | .rstReqRise => Sys2Proof.Machine.execRstReqRise s
  | .rstReqFall usA usB => Sys2Proof.Machine.execRstReqFall usA usB s
  | .lockoutReset mons => Sys2Proof.Machine.execLockoutReset mons s
  | .railTest mons => Sys2Proof.Machine.execRailTest mons s
  | .railTestOverdue => Sys2Proof.Machine.execRailTestOverdue s
  | .safeMonFault monA monB => Sys2Proof.Machine.execSafeMonFault monA monB s
  | .cpStateChange point => Sys2Proof.Machine.execCpStateChange point s
  | .generatorFault slot => Sys2Proof.Machine.execGeneratorFault slot s
  | .generatorFaultClear slot => Sys2Proof.Machine.execGeneratorFaultClear slot s
  | .cableCodeAdopt point => Sys2Proof.Machine.execCableCodeAdopt point s
  | .cableCodeInvalid point => Sys2Proof.Machine.execCableCodeInvalid point s
  | .lockTargetReached point => Sys2Proof.Machine.execLockTargetReached point s
  | .lockDriveTimeout point => Sys2Proof.Machine.execLockDriveTimeout point s
  | .lockRetry point => Sys2Proof.Machine.execLockRetry point s
  | .lockFaultClear point => Sys2Proof.Machine.execLockFaultClear point s
  | .pointReturnToService point => Sys2Proof.Machine.execPointReturnToService point s
  | .ceilingPause point => Sys2Proof.Machine.execCeilingPause point s
  | .headTxMpdu point desc body long => Sys2Proof.Machine.execHeadTxMpdu point desc body long s
  | .headTxFilter point desc codes => Sys2Proof.Machine.execHeadTxFilter point desc codes s
  | .headNetSet point desc => Sys2Proof.Machine.execHeadNetSet point desc s
  | .headPipeSwap point => Sys2Proof.Machine.execHeadPipeSwap point s
  | .headPipeReturn point => Sys2Proof.Machine.execHeadPipeReturn point s
  | .headPipeTest point pipe => Sys2Proof.Machine.execHeadPipeTest point pipe s
  | .headPipeHandover slot => Sys2Proof.Machine.execHeadPipeHandover slot s
  | .headPipeTestDone slot frames level tick => Sys2Proof.Machine.execHeadPipeTestDone slot frames level tick s
  | .headMpduReceived point tick level mode bcast snid tei body good => Sys2Proof.Machine.execHeadMpduReceived point tick level mode bcast snid tei body good s
  | .headTxComplete point tick attempts result => Sys2Proof.Machine.execHeadTxComplete point tick attempts result s
  | .rxMpdu point desc body => Sys2Proof.Machine.execRxMpdu point desc body s
  | .soundReport point tick atten => Sys2Proof.Machine.execSoundReport point tick atten s
  | .pipeTestReport slot desc => Sys2Proof.Machine.execPipeTestReport slot desc s
  | .txReport point desc => Sys2Proof.Machine.execTxReport point desc s
  | .hpgpBeacon point => Sys2Proof.Machine.execHpgpBeacon point s
  | .pipeStep slot => Sys2Proof.Machine.execPipeStep slot s
  | .pipeRetest slot pipe => Sys2Proof.Machine.execPipeRetest slot pipe s
  | .cmSlacParmReq point runId mac secType => Sys2Proof.Machine.execCmSlacParmReq point runId mac secType s
  | .cmStartAttenCharInd point runId => Sys2Proof.Machine.execCmStartAttenCharInd point runId s
  | .slacSoundWindowEnd point => Sys2Proof.Machine.execSlacSoundWindowEnd point s
  | .cmAttenCharRsp point runId result => Sys2Proof.Machine.execCmAttenCharRsp point runId result s
  | .cmAttenCharResend point => Sys2Proof.Machine.execCmAttenCharResend point s
  | .cmSlacMatchReq point runId secType => Sys2Proof.Machine.execCmSlacMatchReq point runId secType s
  | .cmValidateReq point => Sys2Proof.Machine.execCmValidateReq point s
  | .slacJoin point tei ms => Sys2Proof.Machine.execSlacJoin point tei ms s
  | .ccLeave point => Sys2Proof.Machine.execCcLeave point s
  | .slacInitTimeout point => Sys2Proof.Machine.execSlacInitTimeout point s
  | .slacNoSoundingTimeout point => Sys2Proof.Machine.execSlacNoSoundingTimeout point s
  | .slacMatchTimeout point => Sys2Proof.Machine.execSlacMatchTimeout point s
  | .slacJoinTimeout point => Sys2Proof.Machine.execSlacJoinTimeout point s
  | .slacLinkSilence point => Sys2Proof.Machine.execSlacLinkSilence point s
  | .sdpRequest point wantTls tcp malformed => Sys2Proof.Machine.execSdpRequest point wantTls tcp malformed s
  | .tcpConnect point port => Sys2Proof.Machine.execTcpConnect point port s
  | .tcpConnectionLost point => Sys2Proof.Machine.execTcpConnectionLost point s
  | .tlsClientHello point has12 has13 fits share scheme badAsset => Sys2Proof.Machine.execTlsClientHello point has12 has13 fits share scheme badAsset s
  | .tlsClientKeyExchange point peer => Sys2Proof.Machine.execTlsClientKeyExchange point peer s
  | .tlsClientCertificate point chain proof => Sys2Proof.Machine.execTlsClientCertificate point chain proof s
  | .tlsClientFinished point ok => Sys2Proof.Machine.execTlsClientFinished point ok s
  | .supportedAppProtocolReq point entries ms => Sys2Proof.Machine.execSupportedAppProtocolReq point entries ms s
  | .sessionSetupReq point ms => Sys2Proof.Machine.execSessionSetupReq point ms s
  | .serviceSelectionReq point sid service mode contract ms => Sys2Proof.Machine.execServiceSelectionReq point sid service mode contract ms s
  | .paymentDetailsReq point sid chain ms => Sys2Proof.Machine.execPaymentDetailsReq point sid chain ms s
  | .authorizationReq point sid chain sigOk ms => Sys2Proof.Machine.execAuthorizationReq point sid chain sigOk ms s
  | .chargeParameterReq point sid maxI maxP maxDis ms => Sys2Proof.Machine.execChargeParameterReq point sid maxI maxP maxDis ms s
  | .chargeLoopReq point sid maxP maxDis ms => Sys2Proof.Machine.execChargeLoopReq point sid maxP maxDis ms s
  | .meteringReceiptReq point sid sigOk ms => Sys2Proof.Machine.execMeteringReceiptReq point sid sigOk ms s
  | .sessionStopReq point sid pause ms => Sys2Proof.Machine.execSessionStopReq point sid pause ms s
  | .certificateInstallationReq point sid ms => Sys2Proof.Machine.execCertificateInstallationReq point sid ms s
  | .connectTimeout point => Sys2Proof.Machine.execConnectTimeout point s
  | .handshakeTimeout point => Sys2Proof.Machine.execHandshakeTimeout point s
  | .sequenceTimeout point => Sys2Proof.Machine.execSequenceTimeout point s
  | .eimWaitExpiry point => Sys2Proof.Machine.execEimWaitExpiry point s
  | .overdraw point phase => Sys2Proof.Machine.execOverdraw point phase s
  | .tokenMessage => Sys2Proof.Machine.execTokenMessage s
  | .windowRequest => Sys2Proof.Machine.execWindowRequest s
  | .pendingLapse point => Sys2Proof.Machine.execPendingLapse point s
  | .tariffSwitch => Sys2Proof.Machine.execTariffSwitch s
  | .tariffUnstable => Sys2Proof.Machine.execTariffUnstable s
  | .ledgerCommit => Sys2Proof.Machine.execLedgerCommit s
  | .periodClose => Sys2Proof.Machine.execPeriodClose s
  | .monthlySnapshot => Sys2Proof.Machine.execMonthlySnapshot s
  | .statementsSealed => Sys2Proof.Machine.execStatementsSealed s
  | .sndNke addr => Sys2Proof.Machine.execSndNke addr s
  | .sndUdReadPage addr f page part => Sys2Proof.Machine.execSndUdReadPage addr f page part s
  | .sndUdReadRecord addr f no part => Sys2Proof.Machine.execSndUdReadRecord addr f no part s
  | .sndUdOrderChunk addr f tag chunk chunks data => Sys2Proof.Machine.execSndUdOrderChunk addr f tag chunk chunks data s
  | .sndUdStandard addr f => Sys2Proof.Machine.execSndUdStandard addr f s
  | .sndUdSelect ident man version medium => Sys2Proof.Machine.execSndUdSelect ident man version medium s
  | .sndUdAppReset addr => Sys2Proof.Machine.execSndUdAppReset addr s
  | .sndUdBaud addr ci => Sys2Proof.Machine.execSndUdBaud addr ci s
  | .sndUdPrimaryWrite addr new => Sys2Proof.Machine.execSndUdPrimaryWrite addr new s
  | .reqUd2 addr fcv fcb => Sys2Proof.Machine.execReqUd2 addr fcv fcb s
  | .reqUd1 addr => Sys2Proof.Machine.execReqUd1 addr s
  | .mbusUnsupported addr => Sys2Proof.Machine.execMbusUnsupported addr s
  | .baudRevert => Sys2Proof.Machine.execBaudRevert s
  | .mbusLatchExpiry => Sys2Proof.Machine.execMbusLatchExpiry s
  | .orderAssemblyTimeout => Sys2Proof.Machine.execOrderAssemblyTimeout s
  | .tagInventory maskLen mask afi => Sys2Proof.Machine.execTagInventory maskLen mask afi s
  | .stayQuiet q => Sys2Proof.Machine.execStayQuiet q s
  | .tagSelect uid opt => Sys2Proof.Machine.execTagSelect uid opt s
  | .resetToReady q => Sys2Proof.Machine.execResetToReady q s
  | .readSingleBlock q b => Sys2Proof.Machine.execReadSingleBlock q b s
  | .readMultipleBlocks q b n => Sys2Proof.Machine.execReadMultipleBlocks q b n s
  | .writeSingleBlock q b data => Sys2Proof.Machine.execWriteSingleBlock q b data s
  | .extendedReadSingle q b => Sys2Proof.Machine.execExtendedReadSingle q b s
  | .extendedWriteSingle q b data => Sys2Proof.Machine.execExtendedWriteSingle q b data s
  | .extendedReadMultiple q b n => Sys2Proof.Machine.execExtendedReadMultiple q b n s
  | .getSystemInformation q => Sys2Proof.Machine.execGetSystemInformation q s
  | .extendedGetSystemInfo q => Sys2Proof.Machine.execExtendedGetSystemInfo q s
  | .getBlockSecurityStatus q b n => Sys2Proof.Machine.execGetBlockSecurityStatus q b n s
  | .extendedGetSecurityStatus q b n => Sys2Proof.Machine.execExtendedGetSecurityStatus q b n s
  | .tagUnsupportedCommand q => Sys2Proof.Machine.execTagUnsupportedCommand q s
  | .mailboxTake => Sys2Proof.Machine.execMailboxTake s
  | .frameLatchExpiry frame => Sys2Proof.Machine.execFrameLatchExpiry frame s
  | .windowPublish w failBlock => Sys2Proof.Machine.execWindowPublish w failBlock s
  | .windowFlip w idle fail => Sys2Proof.Machine.execWindowFlip w idle fail s
  | .flipPendingTimeout w => Sys2Proof.Machine.execFlipPendingTimeout w s
  | .publicAreaUpdate b fail => Sys2Proof.Machine.execPublicAreaUpdate b fail s
  | .phyTransmit limited => Sys2Proof.Machine.execPhyTransmit limited s
  | .phyFrameReceived fc crcOk whole blocks level => Sys2Proof.Machine.execPhyFrameReceived fc crcOk whole blocks level s
  | .noiseSlot noiseSlot mean => Sys2Proof.Machine.execNoiseSlot noiseSlot mean s
  | .toneMapLoad words sending => Sys2Proof.Machine.execToneMapLoad words sending s
  | .couplerFault c driven level => Sys2Proof.Machine.execCouplerFault c driven level s
  | .vldOutOfRange mv => Sys2Proof.Machine.execVldOutOfRange mv s
  | .vldRecovery => Sys2Proof.Machine.execVldRecovery s
  | .driverThermalShutdown => Sys2Proof.Machine.execDriverThermalShutdown s
  | .beaconSend => Sys2Proof.Machine.execBeaconSend s
  | .beaconRelay f => Sys2Proof.Machine.execBeaconRelay f s
  | .beaconRx f hop => Sys2Proof.Machine.execBeaconRx f hop s
  | .coordinatorTakeover => Sys2Proof.Machine.execCoordinatorTakeover s
  | .coordinationHandover => Sys2Proof.Machine.execCoordinationHandover s
  | .islandEntry => Sys2Proof.Machine.execIslandEntry s
  | .parentLost => Sys2Proof.Machine.execParentLost s
  | .shareFrameSend => Sys2Proof.Machine.execShareFrameSend s
  | .shareFrameRx f => Sys2Proof.Machine.execShareFrameRx f s
  | .tmReq f => Sys2Proof.Machine.execTmReq f s
  | .tmOffer f => Sys2Proof.Machine.execTmOffer f s
  | .tmAck f q => Sys2Proof.Machine.execTmAck f q s
  | .toneMapRefresh node few => Sys2Proof.Machine.execToneMapRefresh node few s
  | .contentionAccess j units => Sys2Proof.Machine.execContentionAccess j units s
  | .acradAckRx node fseq status q => Sys2Proof.Machine.execAcradAckRx node fseq status q s
  | .acradAckTimeout node fseq => Sys2Proof.Machine.execAcradAckTimeout node fseq s
  | .reassemblyTimeout orig msgId => Sys2Proof.Machine.execReassemblyTimeout orig msgId s
  | .collectMsg f => Sys2Proof.Machine.execCollectMsg f s
  | .bundleClose => Sys2Proof.Machine.execBundleClose s
  | .bundleSegmentSend g => Sys2Proof.Machine.execBundleSegmentSend g s
  | .bundleSeg f => Sys2Proof.Machine.execBundleSeg f s
  | .orderMsg f => Sys2Proof.Machine.execOrderMsg f s
  | .orderStatus f => Sys2Proof.Machine.execOrderStatus f s
  | .readReq f => Sys2Proof.Machine.execReadReq f s
  | .readRsp f => Sys2Proof.Machine.execReadRsp f s
  | .proxyReadTimeout => Sys2Proof.Machine.execProxyReadTimeout s
  | .llimChange => Sys2Proof.Machine.execLlimChange s
  | .displayCommit late malformed => Sys2Proof.Machine.execDisplayCommit late malformed s
  | .thermistorResult r => Sys2Proof.Machine.execThermistorResult r s
  | .panelFrame => Sys2Proof.Machine.execPanelFrame s
  | .epdPowerGood => Sys2Proof.Machine.execEpdPowerGood s
  | .epdPowerTimeout => Sys2Proof.Machine.execEpdPowerTimeout s
  | .epdPowerLost => Sys2Proof.Machine.execEpdPowerLost s
  | .fullRefresh r late malformed => Sys2Proof.Machine.execFullRefresh r late malformed s
  | .displayRetry => Sys2Proof.Machine.execDisplayRetry s
  | .mainsLoss pwrFail ms t => Sys2Proof.Machine.execMainsLoss pwrFail ms t s
  | .outageJournalDone fallen => Sys2Proof.Machine.execOutageJournalDone fallen s
  | .lastLightDone => Sys2Proof.Machine.execLastLightDone s
  | .sentinelColdStart => Sys2Proof.Machine.execSentinelColdStart s
  | .sentinelRailLoss => Sys2Proof.Machine.execSentinelRailLoss s
  | .gaugeSample adv vStore vQuick field => Sys2Proof.Machine.execGaugeSample adv vStore vQuick field s
  | .cellLow => Sys2Proof.Machine.execCellLow s
  | .mpptSample openMv => Sys2Proof.Machine.execMpptSample openMv s
  | .tamperSample adv cover term => Sys2Proof.Machine.execTamperSample adv cover term s
  | .gaugeTagUpdate adv => Sys2Proof.Machine.execGaugeTagUpdate adv s
  | .rtcOscStop => Sys2Proof.Machine.execRtcOscStop s
  | .rtcOscRestart => Sys2Proof.Machine.execRtcOscRestart s
  | .journalEraseDone => Sys2Proof.Machine.execJournalEraseDone s
  | .laneStep mismatch => Sys2Proof.Machine.execLaneStep mismatch s
  | .laneJudge lane fails group retMismatch => Sys2Proof.Machine.execLaneJudge lane fails group retMismatch s
  | .laneResidueError l => Sys2Proof.Machine.execLaneResidueError l s
  | .laneHandoff lane => Sys2Proof.Machine.execLaneHandoff lane s
  | .sramRowStep bank fails => Sys2Proof.Machine.execSramRowStep bank fails s
  | .sramCorrectableError bank row => Sys2Proof.Machine.execSramCorrectableError bank row s
  | .sramRowMove bank row => Sys2Proof.Machine.execSramRowMove bank row s
  | .sramUncorrectableError bank row => Sys2Proof.Machine.execSramUncorrectableError bank row s
  | .mramBlockStep fails => Sys2Proof.Machine.execMramBlockStep fails s
  | .mramCorrectableError blk => Sys2Proof.Machine.execMramCorrectableError blk s
  | .mramBlockMove blk => Sys2Proof.Machine.execMramBlockMove blk s
  | .mramUncorrectableError addr w => Sys2Proof.Machine.execMramUncorrectableError addr w s
  | .eventRaised code source point arg => Sys2Proof.Machine.execEventRaised code source point arg s
  | .supplyBrownout => Sys2Proof.Machine.execSupplyBrownout s
  | .xtal25Stop => Sys2Proof.Machine.execXtal25Stop s
  | .headSupplyLoss slot => Sys2Proof.Machine.execHeadSupplyLoss slot s
  | .tcpRetransmissionTimeout point => Sys2Proof.Machine.execTcpRetransmissionTimeout point s
  | .tlsAlert point alert => Sys2Proof.Machine.execTlsAlert point alert s
  | .v2gtpProtocolError point kind => Sys2Proof.Machine.execV2gtpProtocolError point kind s
  | .neighbourSolicitation point target => Sys2Proof.Machine.execNeighbourSolicitation point target s
  | .mbusFrameError => Sys2Proof.Machine.execMbusFrameError s
  | .driverThermalRestart => Sys2Proof.Machine.execDriverThermalRestart s
  | .vsentChange present => Sys2Proof.Machine.execVsentChange present s
  | .supplyFallInOutage => Sys2Proof.Machine.execSupplyFallInOutage s
  | .headReset slot held => Sys2Proof.Machine.execHeadReset slot held s

end Sys2Proof.Machine
end

