-- ==== Sys2Proof/Machine/Flags.lean ====
section
/-! DEFINITION. The status flags of the block by name: what its condition, its safety outputs and its lock-outs say (spec/01 Table 1.12;
spec/03 R107; spec/09 R292, R313). -/

namespace Sys2Proof.Machine

/-- SEN's mains-loss signal is raised (21 R706). -/
def mainsLost (s : State) : Bool := s.sen.mlSig

/-- Both SAFE_EN outputs are high: the safety rail is on (09 R289). -/
def railOn (s : State) : Bool := s.safe.a.out && s.safe.b.out

/-- The hub is in RUN (03 R87). -/
def inRun (s : State) : Bool := s.life.cond == .run

/-- The point is locked out, by its own record or with the hub (09 R313). -/
def lockedOut (s : State) (i : Fin 32) : Bool := lockCause s i != 0 || hubLock s != 0

/-- A key slot holds a key that may be used (04 R126). -/
def keyLoaded (s : State) (k : Fin 64) : Bool := s.keys.slots[k].status == .loaded

end Sys2Proof.Machine
end

