-- ==== Sys2Proof/Safety.lean ====
section
/-! DEFINITION. What the claims say of a run: what a command may change, what never goes back whatever is commanded, and which states are safe. -/

namespace Sys2Proof.Machine

/-- The parts of the state. -/
inductive Part
  | eng | gates | clk | life | keys | img | flash | dlv | ports | heads | meas | met | pmet | safe | psafe | cp | plc | pipes | hpipes | ses | sesSys | auth | authSys | led | recs | mbus | tag | phy | lnk | share | epd | fab | ev | sen | jrn | tamper | elec | freeCtr
  deriving DecidableEq, Repr

/-- What never goes back, whatever is commanded: serial and fuse stand, burnt cells stay burnt, ESEQ, RECORD_NO and JSEQ rise, and both byte
memories keep their canonical form. -/
structure Later (s t : State) : Prop where
  serial : t.life.serial = s.life.serial
  fuse : t.life.testFuseIntact = s.life.testFuseIntact
  cells : ∀ i, burnt s i = true → burnt t i = true
  eseq : s.ev.next ≤ t.ev.next
  recNo : s.recs.next ≤ t.recs.next
  jseq : s.jrn.next ≤ t.jrn.next
  tagMem : memWf 0 s.tag.mem = true → memWf 0 t.tag.mem = true
  flashMem : memWf 0xFF#8 s.flash.mem = true → memWf 0xFF#8 t.flash.mem = true

/-- t differs from s at most in the parts P, the queue stands, and nothing has gone back. -/
structure Upd (P : List Part) (s t : State) : Prop where
  later : Later s t
  pending : t.pending = s.pending
  eng : P.contains .eng = false → t.eng = s.eng
  gates : P.contains .gates = false → t.gates = s.gates
  clk : P.contains .clk = false → t.clk = s.clk
  life : P.contains .life = false → t.life = s.life
  keys : P.contains .keys = false → t.keys = s.keys
  img : P.contains .img = false → t.img = s.img
  flash : P.contains .flash = false → t.flash = s.flash
  dlv : P.contains .dlv = false → t.dlv = s.dlv
  ports : P.contains .ports = false → t.ports = s.ports
  heads : P.contains .heads = false → t.heads = s.heads
  meas : P.contains .meas = false → t.meas = s.meas
  met : P.contains .met = false → t.met = s.met
  pmet : P.contains .pmet = false → t.pmet = s.pmet
  safe : P.contains .safe = false → t.safe = s.safe
  psafe : P.contains .psafe = false → t.psafe = s.psafe
  cp : P.contains .cp = false → t.cp = s.cp
  plc : P.contains .plc = false → t.plc = s.plc
  pipes : P.contains .pipes = false → t.pipes = s.pipes
  hpipes : P.contains .hpipes = false → t.hpipes = s.hpipes
  ses : P.contains .ses = false → t.ses = s.ses
  sesSys : P.contains .sesSys = false → t.sesSys = s.sesSys
  auth : P.contains .auth = false → t.auth = s.auth
  authSys : P.contains .authSys = false → t.authSys = s.authSys
  led : P.contains .led = false → t.led = s.led
  recs : P.contains .recs = false → t.recs = s.recs
  mbus : P.contains .mbus = false → t.mbus = s.mbus
  tag : P.contains .tag = false → t.tag = s.tag
  phy : P.contains .phy = false → t.phy = s.phy
  lnk : P.contains .lnk = false → t.lnk = s.lnk
  share : P.contains .share = false → t.share = s.share
  epd : P.contains .epd = false → t.epd = s.epd
  fab : P.contains .fab = false → t.fab = s.fab
  ev : P.contains .ev = false → t.ev = s.ev
  sen : P.contains .sen = false → t.sen = s.sen
  jrn : P.contains .jrn = false → t.jrn = s.jrn
  tamper : P.contains .tamper = false → t.tamper = s.tamper
  elec : P.contains .elec = false → t.elec = s.elec
  freeCtr : P.contains .freeCtr = false → t.freeCtr = s.freeCtr

/-! Orders (04 R141): what the checks of a signed order ask but for its signature, and the state its action starts from. -/

/-- An order of one of the TYPEs given that passes every check of 04 R141 but the signature, which the key in slot n verifies and whose
replay window is w. -/
def orderReady (types : List Nat) (o : OrderRec) (n w : Nat) (s : State) : Bool :=
  types.contains (oType o) && validates s && framed o && oTarget o == s.life.serial && oAuth o == 1 && estateId s == some (oEstate o)
    && typeAccepted s (oType o) && signerSlot s o == some (n, w)
    && slotCond s (if ledType (oType o) then .led else .bootM) n .verify == 0 && replayOk (win s w) (oSeq o)

/-- Its signature verifies (uninterpreted: log entry 9). -/
def orderSigned (o : OrderRec) (n : Nat) (s : State) : Bool :=
  Config.ecdsaVerify ((wordsBytes (keySlot s n).pub).take 65) (wordsBytes (o.words.take (2 + oPayWords o))) (wordsBytes (oAuthBlock o))

/-- The order has left the inlet. -/
def orderOut (o : OrderRec) (s : State) : State := s.modGates fun g => { g with orderInlet := g.orderInlet.erase o }

/-- The order has left the inlet and its SEQ is taken (04 R141). -/
def orderTaken (o : OrderRec) (w : Nat) (s : State) : State := modWin w (replayTake · (oSeq o)) (orderOut o s)

/-! Messages of the Acrad network (18 R628 to R630). -/

/-- The state in which a message is delivered: its last frame accepted, its buffer gone (18 R628, R629). -/
def msgState (f : AcFrame) (s : State) : State := (reassemble f (lnkAccept f s).2).2

/-- The frame is accepted, completes its message, and the message is for this hub alone (18 R628 to R630). -/
def msgHere (f : AcFrame) (body : List Nat) (s : State) : Bool :=
  (lnkAccept f s).1 && (reassemble f (lnkAccept f s).2).1 == some body && !f.bcastFinal && f.final == nodeId (msgState f s)

/-! What a statement says of one command. -/

/-- The command answers a next state that differs from s at most in the parts P, in which nothing has gone back, and of which Q holds. -/
def Does (c : Instr) (s : State) (P : List Part) (Q : State → Prop) : Prop := ∃ t, exec c s = .next t ∧ Upd P s t ∧ Q t

/-- The command answers the very state it was given: nothing was due (log entry 6). -/
def Idles (c : Instr) (s : State) : Prop := exec c s = .next s

/-- The order's outcome r (0 accepted) is known: its SEQ is taken in window w, it has left the inlet, and where it came over the M-Bus RDO
answers with it (04 R141, R142; 15 R526). -/
def Judged (o : OrderRec) (w r : Nat) (s t : State) : Prop :=
  win t w = replayTake (win s w) (oSeq o) ∧ t.gates.orderInlet = s.gates.orderInlet.erase o ∧
    (o.src = .rdo → s.mbus.ordTag = o.tag → t.mbus.ordResult = (if r = 0 then 10 else 11) ∧ t.mbus.ordReason = r)

/-- The order is refused with reason 6, its signature being wrong: it leaves the inlet, event 0x6120 says why, and no key, no window, no
life-cycle state moves (04 R141). -/
def OrderBad (o : OrderRec) (s t : State) : Prop :=
  t.keys = s.keys ∧ t.life = s.life ∧ t.gates.orderInlet = s.gates.orderInlet.erase o ∧
    (o.src = .rdo → s.mbus.ordTag = o.tag → t.mbus.ordResult = 11 ∧ t.mbus.ordReason = 6) ∧
    (o.src = .rdo → t.ev = (raise 0x6120 (oSource o) 255 (6 * 2 ^ 24 + oType o * 2 ^ 16 + oAuth o * 2 ^ 8) s).ev)

/-- The restart that an order's payload asks for (03 R102). -/
def restartAsked (p : List W128) : RstPend :=
  { atKind := fld (pWord p 0) 63 56 == 1, gen := fld (pWord p 0) 47 16, mark := fld (pWord p 1) 127 64 }

/-- Argument of event 0x7104: the low 32 bits of MARK_COUNT, bit 31 set for AT (03 R103). -/
def restartArg (r : RstPend) : Nat := if r.atKind then 2 ^ 31 + r.mark % 2 ^ 31 else r.mark % 2 ^ 32

/-- What an order of the given TYPEs does that passes every check but perhaps its signature: with a good signature its outcome is that of its
content and Q holds, with a wrong one it is refused (04 R141). `r` is the refusal reason of its content, 0 for none. -/
abbrev OrderActs (c : OrderRec → Instr) (types : List Nat) (ok : OrderRec → Bool) (P : List Part) (r : OrderRec → State → Nat)
    (Q : OrderRec → State → State → Prop) : Prop :=
  ∀ (o : OrderRec) (n w : Nat) (s : State), orderReady types o n w s = true → ok o = true →
    Does (c o) s P fun t => if orderSigned o n s then Judged o w (r o s) s t ∧ Q o s t else OrderBad o s t

/-- Refusal reason of a point service order (10 R358); 0 none. -/
def svcReason (p : List W128) (s : State) : Nat :=
  if p.length ≠ 1 || fld (pWord p 0) 87 64 ≠ 0 || 1 < fld (pWord p 0) 95 88 then 1
  else if fld (pWord p 0) 127 96 = 0 || (maskPoints (fld (pWord p 0) 127 96)).any (fun i => !hasPoint s i) then 2
  else 0

/-- Where the chunk of a DATA order stands in the flash (05 R179). -/
def chunkBase (p : List W128) (s : State) : Nat :=
  if payFld p 0 87 80 = 0 then slotBase s.dlv.slot + payFld p 1 127 96 else assetBase + payFld p 1 127 96

/-- The bytes of the chunk of a DATA order. -/
def chunkData (p : List W128) : List Nat := (wordsBytes (p.drop 2)).take (payFld p 1 95 80)

/-- The frame received carries good framing, CRC and length (06 R196, R203). -/
def upGood (ws : List W32) (framed : Bool) : Bool := framed && crcGood ws && upLen ws == ws.length

/-- The hub listens to a slot: the clock has started, a head is configured there, two ticks have begun, no outage has closed the cycle. -/
def listens (k : Fin 8) (s : State) : Bool := s.clk.started && hasHead s k.val && decide (2 ≤ s.clk.tickTot) && !s.met.closedOut

/-- The head as a frame that it must not act on leaves it: one more missing frame, permissions and commands as they were (06 R203, R219). -/
def HeadMissed (ws : List W32) (framed : Bool) (h g : Head) : Prop :=
  g.pts = h.pts ∧ g.missTk = h.missTk + 1 ∧ g.pair = h.pair ∧ g.failsafe = h.failsafe ∧
    g.rxErr = (if framed && !crcGood ws then inc16 h.rxErr else h.rxErr)

/-- The head took the frame: its tick is the last one, no frame is missing, the fail-safe is over (06 R203, R219). -/
def HeadTook (ws : List W32) (h g : Head) : Prop :=
  g.rxTick = dnTick ws ∧ g.expTick = some ((dnTick ws + 1) % 65536) ∧ g.missTk = 0 ∧ g.failsafe = false ∧ g.serial = h.serial ∧
    g.pairKey = h.pairKey ∧ g.rxErr = h.rxErr

/-- Steps of a register in one unit of its amounts (08 R266). -/
def regUnit (r : Nat) : Rat := if regInt r then 1 else (2 ^ 32 : Nat)

/-- The parts that a restart of the hub may change (03 R84, R85): those that MRAM, OTP, the flash and the sentinel domain hold are not
among them. -/
def restartParts : List Part :=
  [.eng, .gates, .clk, .life, .keys, .img, .flash, .ports, .meas, .met, .pmet, .safe, .psafe, .cp, .plc, .pipes, .ses, .sesSys, .auth,
    .authSys, .mbus, .tag, .phy, .lnk, .share, .epd, .fab, .ev, .sen]

/-- The parts that a cycle boundary may change. -/
def boundaryParts : List Part :=
  [.eng, .gates, .clk, .life, .keys, .ports, .meas, .met, .pmet, .safe, .psafe, .cp, .plc, .pipes, .ses, .sesSys, .auth, .authSys, .led,
    .recs, .tag, .phy, .lnk, .share, .epd, .fab, .ev, .sen, .jrn, .freeCtr]

/-- The hub goes through the start sequence again with a cause: START, step S1, the clock in ACQUIRE without a boundary, no session, no
order waiting, both SSMs disarmed with their outputs low (03 R84, R86; 09 R289). -/
def Restarted (cause : Nat) (t : State) : Prop :=
  t.life.cond = .start ∧ t.life.step = 0 ∧ t.life.cause = cause ∧ t.clk.state = .acquire ∧ t.clk.started = false ∧
    t.safe.a.armed = false ∧ t.safe.b.armed = false ∧ t.safe.a.out = false ∧ t.safe.b.out = false ∧
    (∀ i : Fin 32, t.ses[i] = {} ∧ t.safe.a.opinion[i] = false ∧ t.safe.b.opinion[i] = false) ∧ t.gates.orderInlet = []

/-- The rail is off: both SSMs disarmed, both outputs low, every token withdrawn, no close request, and every point STOPPED unless it is
locked out (09 R293, Table 9.6). -/
def RailOff (t : State) : Prop :=
  t.safe.a.armed = false ∧ t.safe.b.armed = false ∧ t.safe.a.out = false ∧ t.safe.b.out = false ∧
    ∀ i : Fin 32, t.safe.a.opinion[i] = false ∧ t.safe.b.opinion[i] = false ∧ t.cp[i].closeReq = false ∧
      (t.psafe[i].st = .stopped ∨ t.psafe[i].st = .lockedOut)

/-- Both tokens of a point are withdrawn and its close request is gone (09 R294). -/
def Withdrawn (i : Fin 32) (t : State) : Prop :=
  t.safe.a.opinion[i] = false ∧ t.safe.b.opinion[i] = false ∧ t.cp[i].closeReq = false

/-- Every point but one is as it was: its safety state, its pilot, its session, its link, its authorisation, its metering and the opinions
on it. -/
def OtherPoints (i : Fin 32) (s t : State) : Prop :=
  ∀ j : Fin 32, j ≠ i → t.psafe[j] = s.psafe[j] ∧ t.cp[j] = s.cp[j] ∧ t.ses[j] = s.ses[j] ∧ t.plc[j] = s.plc[j] ∧ t.auth[j] = s.auth[j] ∧
    t.pmet[j] = s.pmet[j] ∧ t.safe.a.opinion[j] = s.safe.a.opinion[j] ∧ t.safe.b.opinion[j] = s.safe.b.opinion[j]

/-- Every head slot but one is as it was: its port, its head, its measurement chain and its pipes. -/
def OtherSlots (k : Fin 8) (s t : State) : Prop :=
  ∀ j : Fin 8, j ≠ k → t.ports[j] = s.ports[j] ∧ t.heads[j] = s.heads[j] ∧ t.meas[j] = s.meas[j] ∧ t.pipes[j] = s.pipes[j] ∧
    t.hpipes[j] = s.hpipes[j]

/-- The head of a slot is lost: its port is DARK with its tokens withdrawn, the loss is counted and the status forgotten, its points are
withdrawn and no longer metered (06 R216). -/
def HeadGone (k : Fin 8) (s t : State) : Prop :=
  t.ports[k].st = .dark ∧ t.ports[k].tokensOff = true ∧ t.ports[k].lossPending = true ∧ t.ports[k].losses = inc32 s.ports[k].losses ∧
    t.ports[k].stat = [] ∧ t.ports[k].lastTick = none ∧ (∀ j : Fin 8, j ≠ k → t.ports[j] = s.ports[j]) ∧
    ∀ p : Fin 4, Withdrawn (ptIdx k p) t ∧ t.pmet[ptIdx k p].on = false ∧ t.pmet[ptIdx k p].gap = none

/-- A hub lock-out of a cause: the rail is off; a cause already recorded stands, but for the emergency stop that its discrepancy replaces; a new
one stands in both copies of the record and is counted (09 R293, R300, R313; log entry 21). -/
def HubLocked (cause : Nat) (s t : State) : Prop :=
  RailOff t ∧
    (if hubLock s = 0 ∨ (hubLock s = 1 ∧ cause = 2) then
      t.safe.a.lockRec.hub = cause ∧ t.safe.b.lockRec.hub = cause ∧ t.safe.lockouts = inc32 s.safe.lockouts
    else hubLock t = hubLock s ∧ t.safe.lockouts = s.safe.lockouts)

/-- A lock-out of a point with a cause: both tokens are withdrawn, the point is locked out; a lock-out in force keeps its cause, a new one
stands in both copies with its count and is counted; the event of the condition comes first, then 0x1170; no other point is touched
(09 R294, R299, R313). -/
def PointLocked (i : Fin 32) (cause code source arg : Nat) (s t : State) : Prop :=
  Withdrawn i t ∧ t.psafe[i].st = .lockedOut ∧ OtherPoints i s t ∧ hubLock t = hubLock s ∧
    t.ev = (raiseIf (lockCause s i == 0) 0x1170 0x10 i.val (cause * 2 ^ 24) (raise code source i.val arg s)).ev ∧
    (if lockCause s i = 0 then
      t.safe.a.lockRec.cause[i] = cause ∧ t.safe.b.lockRec.cause[i] = cause ∧ t.safe.a.lockRec.atCnt[i] = s.clk.count ∧
        t.safe.lockouts = inc32 s.safe.lockouts
    else lockCause t i = lockCause s i ∧ t.safe.lockouts = s.safe.lockouts)

/-- A point is stopped without lock-out: both tokens are withdrawn and it is STOPPED unless it is locked out; no lock-out and no other point
is touched (09 R294, Table 9.2). -/
def PointStopped (i : Fin 32) (s t : State) : Prop :=
  Withdrawn i t ∧ t.psafe[i].st = (if s.psafe[i].st = .lockedOut then .lockedOut else .stopped) ∧ OtherPoints i s t ∧
    t.safe.a.lockRec = s.safe.a.lockRec ∧ t.safe.b.lockRec = s.safe.b.lockRec ∧ t.safe.a.armed = s.safe.a.armed ∧ t.safe.a.out = s.safe.a.out

/-- A cleared condition of a point: its tokens stay as they are, and it leaves STOPPED only if no condition holds (09 Table 9.2). -/
def PointCleared (i : Fin 32) (s t : State) : Prop :=
  t.psafe[i].st = (if s.psafe[i].st = .stopped ∧ stopped t i = false then .opened else s.psafe[i].st) ∧ OtherPoints i s t

/-- The descriptor of an MPDU that a head forwards (11 Table 11.3). -/
def rxDesc (i : Fin 32) (tick level n mode : Nat) (s : State) : Nat :=
  tick % 65536 * 2 ^ 48 + level % 256 * 2 ^ 40 + n * 2 ^ 32 + (headPlc s i).drops * 2 ^ 24 + mode * 2 ^ 16 +
    (if s.hpipes[slotOf i].spareFor = (posOf i).val then 4 else (posOf i).val) * 2 ^ 8 + 0x10

/-- Every point but one is as it was inside its head, and no head's pipes moved. -/
def OtherHeadPlc (i : Fin 32) (s t : State) : Prop :=
  (∀ j : Fin 32, j ≠ i → headPlc t j = headPlc s j) ∧
    ∀ k : Fin 8, { t.hpipes[k] with pts := s.hpipes[k].pts } = s.hpipes[k]

/-- Every point but one keeps its link, its pilot and the stage of its session. -/
def OtherLinks (i : Fin 32) (s t : State) : Prop :=
  ∀ j : Fin 32, j ≠ i → t.plc[j] = s.plc[j] ∧ t.cp[j] = s.cp[j] ∧ t.ses[j].stage = s.ses[j].stage

/-- A matching of a point failed for a reason: the failure is counted with event 0x4202, what the run brought is forgotten, and the point
waits for CM_SLAC_PARM.REQ again; the third failure takes it to FALLBACK with event 0x4203, and its session goes on as basic charging
(11 R389). -/
def SlacFailed (i : Fin 32) (reason : Nat) (s t : State) : Prop :=
  t.plc[i].failures = min 3 (s.plc[i].failures + 1) ∧ t.plc[i].runId = 0 ∧ t.plc[i].sounds = [] ∧ t.plc[i].startSeen = 0 ∧
    t.plc[i].slac = (if 2 ≤ s.plc[i].failures then .fallback else .waitParm) ∧
    (2 ≤ s.plc[i].failures → t.ses[i].stage = if s.ses[i].stage = .idle then .idle else .basic) ∧
    t.ev = (raiseIf (decide (2 ≤ s.plc[i].failures)) 0x4203 4 i.val 3 (raise 0x4202 4 i.val reason s)).ev ∧ OtherLinks i s t

/-- The matched network of a point is left: no network, no keys, SLAC waits again, event 0x4204 says how, the connection is gone (11 R389,
12 R415). -/
def SlacLeft (i : Fin 32) (how : Nat) (s t : State) : Prop :=
  t.plc[i].slac = .waitParm ∧ t.plc[i].netValid = false ∧ t.plc[i].nmk = 0 ∧ t.plc[i].nek = 0 ∧ t.plc[i].joinTei = 0 ∧
    t.ses[i].tcpOpen = false ∧ t.ev = (raise 0x4204 4 i.val how s).ev ∧ OtherLinks i s t

/-- A response past the bound of 12 Table 12.7, longer where it needed VE jobs and longer still at a period's start. -/
def respLate (jobs : Bool) (ms : Nat) (s : State) : Bool :=
  decide ((if !jobs then 60
    else if decide (s.led.period.startCount ≤ s.clk.count) && decide (s.clk.count < s.led.period.startCount + s.clk.fnom) then 800 else 600) < ms)

/-- The event of a late response (12 Table 12.7). -/
def lateEv (i : Fin 32) (jobs : Bool) (ms : Nat) (s : State) : State := raiseIf (respLate jobs ms s) 0x430B 4 i.val ms s

/-- The session answered a message of a kind with a code: one more message, its time kept and the longest too (12 R440). -/
def Replied (i : Fin 32) (kind code ms : Nat) (s t : State) : Prop :=
  t.ses[i].answer = some (kind, code) ∧ t.ses[i].msgs = s.ses[i].msgs + 1 ∧ t.ses[i].respLast = min ms 65535 ∧
    t.ses[i].respMax = max s.ses[i].respMax (min ms 65535) ∧ t.ses[i].no = s.ses[i].no

/-- The connection of a point is closed: no TLS, no SessionID, no identification, no request of the vehicle, no key and no job of the session
is left (12 Table 12.4, 04 R130). -/
def ConnClosed (i : Fin 32) (s t : State) : Prop :=
  t.ses[i].tcpOpen = false ∧ t.ses[i].tls = 0 ∧ t.ses[i].idSet = false ∧ t.ses[i].pnc = false ∧ t.ses[i].eim = false ∧ t.ses[i].chainOk = false ∧
    t.ses[i].stalled = false ∧ t.cp[i].veh = none ∧ t.plc[i].rx = [] ∧ t.plc[i].slac = s.plc[i].slac ∧
    (∀ x ∈ t.keys.trans, x.owner ≠ .ses ∨ x.point ≠ i.val) ∧ (∀ j ∈ t.keys.queue, j.owner ≠ .ses ∨ j.point ≠ i.val) ∧
    t.keys.slots = s.keys.slots ∧ OtherLinks i s t

/-- The connection closed with a strike; the third strike of a plug-in withdraws HLC (12 R436). -/
def Struck (i : Fin 32) (s t : State) : Prop :=
  ConnClosed i s t ∧ t.ses[i].strikes = min 3 (s.ses[i].strikes + 1) ∧
    t.ses[i].hlcOff = (s.ses[i].hlcOff || decide (2 ≤ s.ses[i].strikes)) ∧
    (2 ≤ s.ses[i].strikes → s.ses[i].hlcOff = false → t.ses[i].stage = if s.ses[i].stage = .idle then .idle else .basic)

/-- The event of the third strike. -/
def strikeEv (i : Fin 32) (s u : State) : State :=
  raiseIf (decide (2 ≤ s.ses[i].strikes) && !s.ses[i].hlcOff) 0x4308 4 i.val 3 u

/-- A session that may be asked: its connection is past the handshake and served, and it has its SessionID. -/
def sesAsked (i : Fin 32) (stage : Stage) (s : State) : Bool :=
  served s i && s.ses[i].stage == stage && s.ses[i].idSet

/-- VE jobs of the session fit: none of its own waits, and the queue has room for four. -/
def jobsFit (i : Fin 32) (s : State) : Bool := jobsOf s i.val == 0 && decide (s.keys.queue.length + 4 ≤ 64)

/-- Tenant, point and nonce of a token message (13 Table 13.4). -/
def tokTenant (ws : List W128) : Nat := fld (ws.getD 0 0) 111 96
def tokPoint (ws : List W128) : Nat := fld (ws.getD 0 0) 87 80
def tokNonce (ws : List W128) : Nat := fld (ws.getD 1 0) 127 64

/-- The notice that LED takes next: of those ready the one of the lowest point, an end before a start (01 R30). -/
def nextNotice (s : State) : Option BindNotice :=
  (sortBy (fun n => 2 * n.point + (if n.ending.isSome then 0 else 1)) (s.gates.bindInlet.filter (noticeReady s))).head?

/-- Every binding but one is as it was, and no cell, no bank and no pending amount moved. -/
def OtherBinds (i : Fin 32) (s t : State) : Prop :=
  (∀ j : Fin 32, j ≠ i → t.led.binds[j] = s.led.binds[j]) ∧ t.led.pends = s.led.pends ∧ t.led.rems = s.led.rems ∧ t.led.period = s.led.period ∧
    t.led.blocks = s.led.blocks

/-- RDO takes telegrams and hears this A field loudly (15 R522). -/
def mbHere (a : Fin 256) (s : State) : Bool := mbUp s && mbHears s a.val == some true

/-- A command telegram for this hub itself, secured as it must be (15 R522, R523). -/
def mbOwn (a : Fin 256) (f : MbFrame) (s : State) : Bool := mbHere a s && mbSecure f s && (s.mbus.proxy.isNone || a.val != 253)

/-- The error answer of a read (15 Table 15.12). -/
def mbError (r page part : Nat) : MbCmd := .reply (respHeader 4 r page part 0 0 0)

/-- The frames that a field read of n blocks from b latches (16 R545). -/
def latchedBy (b n : Nat) (l : List Nat) : List Nat :=
  (List.range n).foldl (fun l j => if 128 ≤ b + j && b + j < 512 && (b + j) % 2 = 0 then insertAsc ((b + j - 128) / 32) l else l) l

/-- The tag answers a field read of n blocks from b: their bytes, or an error; nothing but the latches moves (16 R545, R552). -/
def TagReads (b n last : Nat) (s t : State) : Prop :=
  t.tag = if 32 < n then { s.tag with answer := some [1, 0x0F] }
    else if n = 0 ∨ last < b + n - 1 then { s.tag with answer := some [1, 0x10] }
    else { s.tag with answer := some (0 :: (List.range n).flatMap fun j => tagBlock s (b + j)), latched := latchedBy b n s.tag.latched }

/-- The tag answers with the security status of n blocks from b (16 R534). -/
def TagSecures (b n last : Nat) (s t : State) : Prop :=
  t.tag = if n = 0 ∨ last < b + n - 1 then { s.tag with answer := some [1, 0x10] }
    else { s.tag with answer := some (0 :: (List.range n).map fun j => if 512 ≤ b + j ∧ b + j < 768 then 0 else 1) }

/-- A field write to a block of the hub is refused: no byte moves, error 0x12, event 0x3064 at the first of a run (16 R534, R556). -/
def TagRefusesWrite (b : Nat) (s t : State) : Prop :=
  t.tag = { s.tag with answer := some [1, 0x12], wrRun := some (nowS s) } ∧
    t.ev = (raiseIf (!runOn s.tag.wrRun (nowS s) && s.elec.supplyOk && s.life.cond == .run) 0x3064 6 255 b s).ev

/-- Tag memory outside the blocks from b up to c reads as before. -/
def TagKeeps (b c : Nat) (s t : State) : Prop := ∀ a : Nat, a < 8 * b ∨ 8 * c ≤ a → memRead 0 t.tag.mem a = memRead 0 s.tag.mem a

/-! The Acrad PHY (17). -/

/-- What goes out for a request on coupler c: its frame control with c in CPL, coded, and its payload on the carriers (17 R564, R573 to R581). -/
def frameSent (r : TxReq) (c : Nat) (s : State) : TxFrame :=
  let q : TxReq := { r with coupler := c, fc := BitVec.ofNat 128 (fcWithCpl r.fc.toNat c) }
  { req := q, fcBits := fcCoded (fcWithCpl r.fc.toNat c), symbols := fcSymbols (fcWithCpl r.fc.toNat c), tones := frameTones s q }

/-- The PHY receives: powered, in START or RUN (17 R600). -/
def phyHears (s : State) : Bool := s.elec.supplyOk && (s.life.cond == .run || s.life.cond == .start)

/-- A noise occurrence counts: the clock is LOCKED, and neither a transmission nor a reception overlaps it (17 R585, R593, R595). -/
def noiseUsable (s : State) : Bool := s.clk.state == .locked && s.clk.started && s.phy.tx.isEmpty && !s.phy.rxActive

/-- A unicast data frame for this hub has arrived with a failed block: it is acknowledged with STATUS 1 (18 R608, R628). -/
def ackFails (fc : Nat) (bs : List Bool) (s : State) : Bool :=
  lnkUp s && fcType fc == 1 && !fcBcast fc && fcDst fc == nodeId s && inNodeMap s (fcSrc fc) && bs.contains false

/-- The acknowledgement of a frame, through the coupler of its sender's conductor (18 R608, R621, R628). -/
def ackReq (src fseq status : Nat) (s : State) : TxReq :=
  let c := couplerFor s src (estCount s / 4)
  { coupler := c, fc := BitVec.ofNat 128 (fcWord 2 (nodeId s) src false 0 0 0 c (fseq * 256 + status)), blocks := [] }

/-- The frame in progress is cut, if there is one, and every CPL_SEL output is low with the driver off (17 R597, R601). -/
def FrameCut (s t : State) : Prop :=
  t.phy.tx = s.phy.tx.drop 1 ∧ t.phy.sel = 0 ∧ t.phy.driver = false ∧
    t.phy.report = (if s.phy.tx = [] then s.phy.report else some (false, 0)) ∧ t.phy.rxActive = s.phy.rxActive ∧ t.phy.maps = s.phy.maps

/-! The Acrad network (18). -/

/-- LNK sends under network-key slot n, place x: the TX_KEY_ID key, whose counter is not exhausted (18 R611 to R613). -/
def txOpen (x n : Nat) (s : State) : Bool := txPlace s == some x && (netSlots s)[x]? == some n && canGive s x

/-- A new broadcast frame has gone to the PHY under the next counter of place x, which is used once and reserved in steps of 65 536
(18 R607, R611). -/
def BroadcastSent (typ super x n : Nat) (m : TxMsg) (s t : State) : Prop :=
  t.phy = { s.phy with
    tx := s.phy.tx ++ [txRequest s typ (nodeId s) 0 (floodCoupler super) n
      { m with bcast := true, fctr := fctrOf s x, keysel := keySelOf s n, counted := true }] } ∧
    fctrOf t x = fctrOf s x + 1 ∧ resOf t x = (if fctrOf s x < resOf s x then resOf s x else resOf s x + 65536) ∧
    fctrOf t (1 - x) = fctrOf s (1 - x)

/-- The hub is the coordinator at DEPTH 0 and no island (18 R615, R618). -/
def Coordinates (t : State) : Prop :=
  t.lnk.st = .coord ∧ t.lnk.depth = 0 ∧ t.lnk.parent = nodeId t ∧ t.lnk.coord = nodeId t ∧ t.lnk.handover = none ∧ t.lnk.island = false

/-- The hub listens, out of the tree and an island (18 R618). -/
def Listens (t : State) : Prop :=
  t.lnk.st = .listen ∧ t.lnk.depth = 255 ∧ t.lnk.parent = 255 ∧ t.lnk.island = true ∧ t.lnk.handover = none ∧ t.lnk.phis = []

/-- The parent's share frame was missing in the two epochs that have ended, or it has no entry (18 R618). -/
def parentGone (s : State) : Bool :=
  match neighOf s s.lnk.parent with
  | some n => ((n.heard.drop 1).take 2).all (! ·)
  | none => true

/-- The node is the parent by 18 R622: eligible, and no eligible neighbour is of lower DEPTH, or of higher quality at that DEPTH, or of a
lower node ID at both. -/
def BestParent (n : Neigh) (s : State) : Prop :=
  n ∈ s.lnk.neigh ∧ eligible n = true ∧ ∀ m ∈ s.lnk.neigh, eligible m = true →
    n.depth < m.depth ∨ (n.depth = m.depth ∧ (m.quality < n.quality ∨ (m.quality = n.quality ∧ n.node ≤ m.node)))

/-- The command is one by which LNK takes a frame. -/
def TakesFrame (f : AcFrame) (hop : Nat) (q : Fin 48) (c : Instr) : Prop :=
  c ∈ [Instr.beaconRx f hop, .shareFrameRx f, .tmReq f, .tmOffer f, .tmAck f q, .collectMsg f, .bundleSeg f, .orderMsg f, .orderStatus f, .readReq f,
    .readRsp f]

/-- The command is one that takes a message of kind k (18 Table 18.7). -/
def TakesMsg (f : AcFrame) (q : Fin 48) (c : Instr) (k : Nat) : Prop :=
  (c, k) ∈ [(Instr.collectMsg f, 1), (.tmReq f, 3), (.tmOffer f, 4), (.tmAck f q, 5), (.orderMsg f, 6), (.orderStatus f, 7), (.readReq f, 8), (.readRsp f, 9)]

/-- What the commands of `TakesFrame` may change. -/
def linkParts : List Part := [.gates, .mbus, .phy, .lnk, .share, .ev, .sen, .freeCtr]

/-- An acknowledgement with this STATUS has been requested of the PHY (18 R608, R628). -/
def Acked (f : AcFrame) (status : Nat) (s t : State) : Prop :=
  t.lnk.acks = (f.src, f.fseq, status) :: s.lnk.acks.take 7 ∧ t.phy.tx = s.phy.tx ++ [ackReq f.src f.fseq status s]

/-- A message stands in the sending queue, in fragments, behind those of no lower rank (18 R627, R629). -/
def Queued (m : TxMsg) (s t : State) : Prop :=
  t.lnk.queue = (fragments m).foldl (fun q x => insertBy (fun y => kindRank y.kind) x q) s.lnk.queue

/-- The frame is accepted and completes a message that is not for this hub alone (18 R629, R630). -/
def msgAway (f : AcFrame) (body : List Nat) (s : State) : Bool :=
  (lnkAccept f s).1 && (reassemble f (lnkAccept f s).2).1 == some body && !f.bcastFinal && f.final != nodeId s

/-- The frame is accepted and completes a broadcast message (18 R629, R630). -/
def msgAll (f : AcFrame) (body : List Nat) (s : State) : Bool :=
  (lnkAccept f s).1 && (reassemble f (lnkAccept f s).2).1 == some body && f.bcastFinal

/-- The broadcast message has been delivered in the last 3 000 cy, or is this hub's own (18 R630). -/
def msgSeen (f : AcFrame) (s : State) : Bool :=
  f.orig == nodeId s || s.lnk.dup.any fun d => decide (s.clk.bndTot < d.2.2 + 3000) && d.1 == f.orig && d.2.1 == f.msgId

/-- An order record as a message brings it (18 R634). -/
def msgOrder (f : AcFrame) (body : List Nat) : OrderRec := { words := bytesWords 272 body, src := .lnk, orig := f.orig, tag := f.msgId }

/-- The segments of a bundle in reception with one more (18 R633). -/
def segsWith (f : AcFrame) (s : State) : List (Nat × List Nat) := kset f.frag f.body (if f.frag = 0 then [] else s.lnk.bundleIn)

/-- Segments that make a whole bundle: 36 bytes and 8 for each node of PRESENT (18 R633). -/
def segsWhole (segs : List (Nat × List Nat)) : Bool :=
  let b := segs.flatMap (·.2)
  segs.head?.map (·.1) == some 0
    && 36 + 8 * (((b.drop 4).take 32).map fun x => ((List.range 8).filter fun j => bitOf x j).length).sum == b.length

/-- A bundle is held and its allocation computed (18 R633, 19 R647 to R650). -/
def BundleHeld (e : Nat) (ds : List Demand) (s t : State) : Prop :=
  t.lnk.bundle = some (e, ds) ∧ t.lnk.bundleEpoch = e % 2 ^ 32 ∧ t.share.allocEpoch = some e ∧
    t.share.rows = (allocFeeder s (ownFeeder s) ds).1 ∧ t.share.present = (feederRecs s (ownFeeder s) ds).length ∧ t.share.h = s.share.h

/-- The backoff in force at a contention slot: the frozen one, else a draw of the DRBG below CW (a free value), else 0 while the DRBG gives none
(18 R627, 04 R155). -/
def BackoffIs (b : Nat) (s : State) : Prop :=
  s.lnk.backoff = some b ∨ (s.lnk.backoff = none ∧ drbgOk s = true ∧ b = Config.freeValue s.freeCtr % 64 % s.lnk.cw) ∨
    (s.lnk.backoff = none ∧ drbgOk s = false ∧ b = 0)

/-- The tone map of the pending frame in own slot j. -/
def frameTmi (m : TxMsg) (j : Nat) (s : State) : Nat := if m.bcast then 0 else sendTmi s m.dst j

/-- The pending frame fits what is left of the contention slots, with its backoff and its acknowledgement (18 R607, R627). -/
def frameFits (m : TxMsg) (b j : Nat) (s : State) : Bool :=
  decide (accessUs b ((symbolsFor s m.dst (frameTmi m j s) (frameBlocks m) true).getD 0)
    ≤ (contentionLeft (slotQ s j) (superOf s j % 16) : Rat) * s.clk.lenCur / 12)

/-- A contention slot is open to a hub with a frame pending (18 R606, R627). -/
def slotOpen (j : Nat) (s : State) : Bool := lnkUp s && contentionLeft (slotQ s j) (superOf s j % 16) != 0 && s.lnk.st != .listen

/-- The frame has gone to the PHY under the key of slot n and left the queue; a unicast one awaits its acknowledgement (18 R627, R628). -/
def FrameOut (m o : TxMsg) (j n : Nat) (s t : State) : Prop :=
  t.lnk.queue = s.lnk.queue.erase m ∧ t.lnk.backoff = none ∧
    t.lnk.out = (if m.bcast then s.lnk.out else s.lnk.out ++ [{ o with tries := m.tries + 1, tmi := frameTmi m j s }]) ∧
    t.phy.tx = s.phy.tx ++ [txRequest s 1 (nodeId s) (frameTmi m j s)
      (if m.bcast then floodCoupler (superOf s j) else couplerFor s m.dst (superOf s j)) n { o with tries := m.tries + 1, tmi := frameTmi m j s }]

/-- FSEQ of the next new unicast frame to a node (18 R608). -/
def nextFseq (node : Nat) (s : State) : Nat := ((kget? node s.lnk.fseqs).map fun q => (q + 1) % 256).getD 0

/-- A failed frame waits to be sent again, with the contention window doubled (18 R627, R628). -/
def FrameAgain (m : TxMsg) (s t : State) : Prop :=
  t.lnk.queue = m :: s.lnk.queue ∧ t.lnk.out = s.lnk.out.erase m ∧ t.lnk.cw = min 64 (2 * s.lnk.cw) ∧ t.lnk.retried = inc32 s.lnk.retried ∧
    t.lnk.dropped = s.lnk.dropped ∧ t.ev = s.ev

/-- A frame has failed for good: its message drops with event 0x30AA; the 8th failure in a row to a neighbour drops its tone maps and puts it on
ROBO (18 R628, R638). -/
def FrameLost (m : TxMsg) (maps : List ToneMap) (s t : State) : Prop :=
  t.lnk.queue = s.lnk.queue ∧ t.lnk.out = s.lnk.out.erase m ∧ t.lnk.dropped = inc32 s.lnk.dropped ∧
    t.ev = (raise 0x30AA 5 255 (2 * 2 ^ 24 + m.msgId) s).ev ∧
    (∀ n, neighOf s m.dst = some n →
      neighOf t m.dst = some { n with fails := n.fails + 1, robo := n.robo || decide (8 ≤ n.fails + 1) } ∧
        t.phy.maps = if 8 ≤ n.fails + 1 then maps.filter (fun x => x.peer != m.dst) else maps) ∧
    (neighOf s m.dst = none → t.phy.maps = maps)

/-- The pending maps of an exchange with a neighbour. -/
def pendOf (peer : Nat) (sending : Bool) (x : ToneMap) : Bool := x.peer == peer && x.sending == sending && !x.inUse && x.commitAt == 0

/-- The maps accepted come into use at a boundary; the pending ones not accepted leave (18 R625). -/
def mapsCommitted (peer at_ : Nat) (sending : Bool) (gens : List Nat) (maps : List ToneMap) : List ToneMap :=
  (maps.filter fun x => !pendOf peer sending x || gens.contains (tmGen x.words)).map fun x =>
    if pendOf peer sending x then { x with commitAt := at_ } else x

/-- Event 0x30A8 for each map committed (18 R625, R638). -/
def commitEvents (peer : Nat) (sending : Bool) (gens : List Nat) (maps : List ToneMap) (s : State) : State :=
  (maps.filter fun x => pendOf peer sending x && gens.contains (tmGen x.words)).foldl (fun s x =>
    raise 0x30A8 5 255 (peer * 2 ^ 24 + tmTmi x.words * 2 ^ 20 + tmClass x.words * 2 ^ 16 + tmGen x.words % 2 ^ 16) s) s

/-- The state in which an exchange is answered: the earlier pending maps of that neighbour are dropped (18 R624). -/
def exchangeState (peer : Nat) (sending : Bool) (u : State) : State :=
  u.modPhy fun p => { p with maps := p.maps.filter fun x => !pendOf peer sending x }

/-- The maps that a receiver offers a sender: one per class in use that is worth it, under the lowest free TMI values and the next GEN
(18 R624; 17 R587 to R589). -/
def offerFor (a : Nat) (u : State) : List (List W128) :=
  (((classesUsed u).filterMap fun c => (loadClass u a c).map fun r => (c, r)).zip (freeTmis u a)).map fun e =>
    tmWords e.2 e.1.2.1 e.1.1 (classMapBits u.phy.classMap) (((neighOf u a).map (·.genLast)).getD 0 + 1) a (nodeId u) e.1.2.2

/-- Load the maps of an offer one by one: the GEN of each accepted map, and the state. -/
def offerLoaded (ms : List (List W128)) (u : State) : List Nat × State :=
  ms.foldl (fun a m => if (loadMap m true a.2).1 then (a.1 ++ [tmGen m], (loadMap m true a.2).2) else (a.1, (loadMap m true a.2).2)) ([], u)

/-! Share frames and load sharing (18 R619, R620; 19). -/

/-- The neighbour entry that a share frame leaves for its sender (18 R620). -/
def neighAfter (f : AcFrame) (s : State) : Neigh :=
  { (neighOf s f.src).getD { node := f.src } with
    depth := f.body.getD 0 255, parent := f.body.getD 1 0, relay := bitOf (f.body.getD 3 0) 1, phase := natLE ((f.body.drop 4).take 2)
    k := phaseStep s (natLE ((f.body.drop 4).take 2)), quality := qualityOf s f.src, serial := natLE ((f.body.drop 6).take 8)
    ident := natLE ((f.body.drop 14).take 4), heard := true :: ((neighOf s f.src).getD { node := f.src }).heard.drop 1, lastCount := s.clk.count }

/-- The count that a share frame reports under AHEAD is over 2^32 cy above the estate count (18 R617). -/
def aheadBad (f : AcFrame) (s : State) : Bool :=
  bitOf (f.body.getD 3 0) 4 && decide (estCount s + 2 ^ 32 < natLE ((f.body.drop 18).take 8))

/-- This coordinator learns of another one of a lower node ID (18 R615). -/
def coordBelow (f : AcFrame) (s : State) : Bool := s.lnk.st == .coord && decide (f.body.getD 2 255 < nodeId s)

/-- The events of a share frame whose sender has an entry: its phase learnt or changed, its count ignored, the role given up (18 R638). -/
def shareEvents (f : AcFrame) (s : State) : State :=
  let k := (neighAfter f s).k
  raiseIf (coordBelow f s) 0x30A4 5 255 (nodeId s * 2 ^ 24 + f.body.getD 2 255 * 2 ^ 16)
    (raiseIf (aheadBad f s) 0x30AC 5 255 (f.src * 2 ^ 24)
      (raiseIf (k.isSome && k != (neighOf s f.src).bind (·.k)) 0x30A6 5 255
        (f.src * 2 ^ 24 + conductorOf (rotPositive s) (k.getD 0) * 16 + (k.getD 0 % 2) * 8) s))

/-- The node has a neighbour entry, or there is a free one (18 R620). -/
def neighFits (f : AcFrame) (s : State) : Bool := (neighOf s f.src).isSome || decide (s.lnk.neigh.length < 32)

/-- An entry silent for 4 epochs (18 R620, R636). -/
def silent (n : Neigh) : Bool := !(n.heard.any id)

/-! The board (20). -/

/-- Regions that run. -/
def running (s : State) : List Region := s.epd.regions.toList.filter (·.active)

/-- The rectangle that DSP would commit next: the whole panel where that is due and no region runs, else the head of the queue where it overlaps
no running region (20 R677, R685, R688). -/
def nextRect (s : State) : Option Rect :=
  if s.epd.firstWhole then (if running s = [] then some (wholePanel s) else none)
  else match s.epd.queue with
    | q :: _ => if (running s).any fun r => r.rect.meets q then none else some q
    | [] => none

/-- The table an update uses: mode, band and FRAMES of WAVEFORM_INDEX, or the built-in waveform 15, 15, 24 where there is none that is usable
(20 R671 to R673). -/
def boardTable (s : State) (mode band : Nat) (malformed : Bool) : Nat × Nat × Nat :=
  match recOf s 0x93 0 with
  | none => (15, 15, 24)
  | some p =>
    let e := mode * (payFld p 0 123 120 + 1) + band
    let w := payFld p (4 + e / 4) (32 * (e % 4) + 31) (32 * (e % 4))
    if s.epd.romLayout || s.img.faulty.contains (w / 2 ^ 16) || malformed then (15, 15, 24) else (mode, band, bits w 15 8)

/-- A table that exists is malformed and has not been reported (20 R672). -/
def tableBad (s : State) (mode band : Nat) (malformed : Bool) : Bool :=
  match recOf s 0x93 0 with
  | none => false
  | some p =>
    let e := mode * (payFld p 0 123 120 + 1) + band
    malformed && !s.epd.romLayout && !s.img.faulty.contains (payFld p (4 + e / 4) (32 * (e % 4) + 31) (32 * (e % 4)) / 2 ^ 16)
      && !s.epd.badTables.contains (16 * mode + band)

/-- A region has been committed in place k: its rectangle, its table, the frames to wait for; a panel that was off powers up; the other regions
run on (20 R668, R675, R678). -/
def Committed (k : Fin 4) (rect : Rect) (tab : Nat × Nat × Nat) (late : Bool) (s t : State) : Prop :=
  t.epd.regions[k].active = true ∧ t.epd.regions[k].rect = rect ∧ t.epd.regions[k].mode = tab.1 ∧ t.epd.regions[k].band = tab.2.1 ∧
    t.epd.regions[k].frames = tab.2.2 ∧ t.epd.regions[k].frame = 0 ∧
    t.epd.regions[k].wait = (if s.epd.panel = 3 then (if late then 2 else 1) else 0) ∧
    (∀ j : Fin 4, j ≠ k → t.epd.regions[j] = s.epd.regions[j]) ∧ t.epd.panel = (if s.epd.panel = 1 then 2 else s.epd.panel) ∧
    t.epd.pwrEn = (s.epd.pwrEn || s.epd.panel == 1)

/-- Every region is abandoned and the panel's content unknown (20 R688, R694). -/
def BoardUnknown (t : State) : Prop := (∀ j : Fin 4, t.epd.regions[j].active = false) ∧ t.epd.unknown = true

/-- A power fault has switched the panel off; after the third in a row the next try is 3 000 cy away, and the next update covers the whole panel
under mode 0 (20 R688). -/
def PanelFault (s t : State) : Prop :=
  BoardUnknown t ∧ t.epd.pwrEn = false ∧ t.epd.vcom = 0 ∧ t.epd.firstWhole = true ∧ t.epd.faults = inc16 s.epd.faults ∧
    (s.epd.faultRun < 2 → t.epd.panel = 1 ∧ t.epd.faultRun = s.epd.faultRun + 1 ∧ t.epd.retryAt = s.epd.retryAt) ∧
    (2 ≤ s.epd.faultRun → t.epd.panel = 5 ∧ t.epd.faultRun = 3 ∧ t.epd.retryAt = s.clk.bndTot + 3000)

/-- R is a thermistor fault (20 R670). -/
def thermBad (r : Nat) : Bool := decide (r < 100) || decide (2000000 < r)

/-- The temperature and band that a valid reading gives (20 R670, R671). -/
def thermTemp (r : Nat) (s : State) : Int := Config.thermistor r (dispFld s 1 127 96) (dispFld s 1 95 80)

/-- FULL_INT hours have passed since the last full refresh and no region runs (20 R685). -/
def fullDue (s : State) : Bool :=
  epdReady s && dispFld s 1 39 32 != 0 && decide (s.epd.fullS + dispFld s 1 39 32 * 3600 ≤ nowS s) && running s == []

/-! The sentinel and the outage (21). -/

/-- SEN would raise the mains-loss signal: the hub is up and powered, and the signal not yet raised (21 R706, 03 R117). -/
def lossOpen (s : State) : Bool :=
  (s.life.cond == .start || s.life.cond == .run || s.life.cond == .noConfig || s.life.cond == .retired) && !s.sen.mlSig && s.elec.supplyOk
    && s.sen.st == .powered

/-- The outage has begun: the signal, its cause and its instant are kept, the rail is off and every token withdrawn, nothing is locked or sent
(21 R706, R707; 06 R223, 09 R335, 10 R368, 18 R640). -/
def OutageBegun (cause : Nat) (s t : State) : Prop :=
  t.sen.mlSig = true ∧ t.sen.mlCause = cause ∧ t.sen.st = .outage ∧ t.sen.seq = 4 ∧ t.life.cond = .outage ∧ t.life.cells = s.life.cells ∧
    t.sen.outages = inc32 s.sen.outages ∧ t.sen.outRtc = s.sen.rtcS ∧ t.sen.outCount = s.clk.count ∧
    t.safe.a.armed = false ∧ t.safe.b.armed = false ∧ t.safe.a.out = false ∧ t.safe.b.out = false ∧ t.safe.railCause = 0x21 ∧
    (∀ i : Fin 32, t.safe.a.opinion[i] = false ∧ t.safe.b.opinion[i] = false ∧ t.cp[i].closeReq = false ∧ t.cp[i].lockCmd = 0 ∧ t.cp[i].cpMode = 0) ∧
    (∀ k : Fin 8, t.ports[k].tokensOff = true) ∧ t.lnk.queue = [] ∧ t.lnk.out = [] ∧ t.phy.tx = [] ∧ t.flash.busy = none

/-- Why last light is not shown: 3 no DISPLAY record, 1 LL_EN clear, 2 the permit level; 0 it is (20 R694, 21 R705, R708). -/
def llWhy (s : State) : Nat := if dispRec s = none then 3 else if llEn s = false then 1 else if permits s 1 = false then 2 else 0

/-- SEN is DORMANT (21 R712). -/
def Dormant (s t : State) : Prop := t.sen.st = .dormant ∧ t.life.cond = .dormant ∧ t.sen.seq = 6 ∧ t.sen.dormSince = s.sen.rtcS ∧ t.sen.vback = false

/-- The level after a sample (21 R703, R704): NIGHT with no SENTINEL record. -/
def levelAfter (v : Nat) (s : State) : Nat := if sentinelRec s = none then 4 else levelNext s.sen.level (gaugePct s v)

/-- SEN connects the cell (21 R701): it is fitted, the gauge reads NIGHT and VSENT is absent. -/
def cellOnAt (level : Nat) (vsent : Bool) (s : State) : Bool := senFld s 71 71 0 == 1 && level == 4 && !vsent && !s.sen.cellOn

/-- The cell after that: connected, or disconnected at DUSK or better and while VSENT is present. -/
def cellAfter (level : Nat) (vsent : Bool) (s : State) : Bool :=
  cellOnAt level vsent s || (s.sen.cellOn && !(decide (level ≤ 3) || vsent))

/-- A sample counts an opening: its input is enabled, it reads open, the sample before it did, and a closed one came before (21 R721). -/
def opensNow (en pol closed : Bool) (hist : List Bool) (arm : Bool) : Bool := en && closed == pol && arm && hist.headD false

/-- The cover and the terminal cover of a sample. -/
def coverOpens (closed : Bool) (s : State) : Bool :=
  opensNow (senFld s 70 70 0 == 1) (senFld s 69 69 0 == 1) closed s.tamper.coverHist s.tamper.coverArm
def termOpens (closed : Bool) (s : State) : Bool :=
  opensNow (senFld s 68 68 0 == 1) (senFld s 67 67 0 == 1) closed s.tamper.termHist s.tamper.termArm

/-- The hub is off with a cause for its next start: outputs low, nothing armed, no session; cells, keys and registers' copies stand
(23 R789, R790; 03 R85). -/
def HubOff (cause : Nat) (s t : State) : Prop :=
  t.life.cond = .off ∧ t.life.cause = cause ∧ t.life.cells = s.life.cells ∧ t.keys.slots = s.keys.slots ∧ t.safe.a.armed = false ∧
    t.safe.b.armed = false ∧ t.safe.a.out = false ∧ t.safe.b.out = false ∧
    ∀ i : Fin 32, t.ses[i] = {} ∧ t.pmet[i].copyA = s.pmet[i].copyA ∧ t.pmet[i].copyB = s.pmet[i].copyB

/-- The position that a lane step begun now tests (22 R737): the step's number less the steps skipped, modulo 16. -/
def stepPos (s : State) : Nat := (s.clk.count / 512 + 16 - s.fab.skips % 16) % 16

/-- The free spare that it takes: the lowest in an even step, the highest in an odd one (22 R737). -/
def stepSpare (s : State) : Option (Fin 18) :=
  if s.clk.count / 512 % 2 = 0 then (finList 18).find? (laneFree s) else ((finList 18).filter (laneFree s)).getLast?

/-- A step that acts on lanes begins now (22 R737, R757, R758). -/
def laneStepDue (s : State) : Bool := rolling s && markHere 512 s && s.fab.step.phase == 0

/-- A lane's own step has run its 512 cycles: the lane is judged, or its spare after a handoff mismatch (22 R737, R738). -/
def stepJudged (l : Fin 18) (s : State) : Bool :=
  decide (s.fab.step.at_ + 512 ≤ s.clk.count) &&
    ((s.fab.step.phase == 2 && s.fab.step.lane == l.val) || (s.fab.step.phase == 3 && s.fab.step.spare == l.val))

/-- A SUSPECT lane without traffic is due for its re-test (22 R739). -/
def retestDue (l : Fin 18) (s : State) : Bool :=
  let a := s.fab.lanes[l]
  (a.retestAt.map fun t => decide (t ≤ s.clk.count)).getD false && a.st == .suspect && a.pos.isNone && !stepJudged l s

/-- What event 0x9022 names as the carrier: the spare of the lane's own step, or 0xFF (22 R739). -/
def judgeCarrier (l : Fin 18) (s : State) : Nat := if stepJudged l s && s.fab.step.phase == 2 then s.fab.step.spare else 0xFF

/-- A judgement ends the lane's step and is counted; a re-test leaves the step in progress. -/
def LaneCounted (l : Fin 18) (s t : State) : Prop :=
  t.fab.step = (if stepJudged l s then {} else s.fab.step) ∧ t.fab.lanes[l].tests = inc32 s.fab.lanes[l].tests ∧
    t.fab.lanes[l].last = s.clk.count ∧ t.fab.banks = s.fab.banks

/-- Every lane but those named is as it was. -/
def OtherLanes (ls : List (Fin 18)) (s t : State) : Prop := ∀ j : Fin 18, j ∉ ls → t.fab.lanes[j] = s.fab.lanes[j]

/-- A lane takes part in a return dual run that no error has spoilt (22 R738, R752). -/
def inReturn (l : Fin 18) (s : State) : Bool := s.fab.ret.phase == 4 && (s.fab.ret.lane == l.val || s.fab.ret.spare == l.val)

/-- The row that a bank's next step takes: the one after the row of the step before, retired rows left out (22 R740). -/
def turnRow (b : BankH) : Nat := nextRow b 512 (if b.testing then (b.row + 1) % 512 else b.row)

/-- A row step begins now in a bank (22 R740, R757, R758). -/
def rowStepDue (s : State) : Bool := rolling s && s.clk.count % 16 == 0

/-- Every bank but one, every lane and every block is as it was. -/
def OtherBanks (k : Fin 32) (s t : State) : Prop :=
  (∀ j : Fin 32, j ≠ k → t.fab.banks[j] = s.fab.banks[j]) ∧ t.fab.lanes = s.fab.lanes ∧ t.fab.blks = s.fab.blks ∧ t.fab.spares = s.fab.spares

/-- A row step of a bank has begun on row r: a rotation is counted when it passes the last row, and before that no other row's entry
changes (22 R740). -/
def RowTurn (k : Fin 32) (r : Nat) (s t : State) : Prop :=
  t.fab.banks[k].row = r ∧ t.fab.banks[k].testing = true ∧ t.fab.banks[k].ce = s.fab.banks[k].ce ∧ t.fab.banks[k].ue = s.fab.banks[k].ue ∧
    t.fab.banks[k].rotations = (if r < s.fab.banks[k].row then inc32 s.fab.banks[k].rotations else s.fab.banks[k].rotations) ∧
    (s.fab.banks[k].row ≤ r → ∀ q : Fin 512, q.val ≠ r → rowOf t.fab.banks[k] q = rowOf s.fab.banks[k] q) ∧ OtherBanks k s t

/-- A bank once one more correctable read of a row is counted (22 R741). -/
def bankRead (row : Nat) (b : BankH) : BankH :=
  { putRow { rowOf b row with ceRot := (rowOf b row).ceRot + 1 } b with ce := inc32 b.ce }

/-- The engine that owns a bank; MET for a bank of no single engine (22 R741). Which banks an engine owns: log entry 40. -/
def bankOwner (k : Fin 32) : EngineId := (engOfId (Config.bankEngine k.val)).getD .met

/-- The block that the next block step takes (22 R742). -/
def turnBlk (s : State) : Nat := nextBlk s 1024 ((s.fab.block + 1) % 1024)

/-- A block step begins now (22 R742, R757, R758). -/
def blkStepDue (s : State) : Bool := rolling s && s.clk.count % 64 == 0

/-- A block step has begun on block b; lanes and rows are as they were. -/
def BlkTurn (b : Nat) (s t : State) : Prop :=
  t.fab.block = b ∧ t.fab.brot = (if b ≤ s.fab.block then inc32 s.fab.brot else s.fab.brot) ∧ t.fab.lanes = s.fab.lanes ∧
    t.fab.banks = s.fab.banks ∧ t.fab.bce = s.fab.bce ∧ t.fab.bue = s.fab.bue

/-- Every spare block but one is as it was. -/
def OtherSpares (k : Fin 64) (s t : State) : Prop := ∀ j : Fin 64, j ≠ k → t.fab.spares[j] = s.fab.spares[j]

/-- The structure that an uncorrectable MRAM word belongs to reads as a failure (22 R743). -/
def StructLost (w : MramStruct) (s t : State) : Prop :=
  match w with
  | .lockRecA => t.safe.a.lockOk = false ∧ t.safe.b = s.safe.b
  | .lockRecB => t.safe.b.lockOk = false ∧ t.safe.a = s.safe.a
  | .regsA i => t.pmet[i].copyA.written = false ∧ t.pmet[i].copyB = s.pmet[i].copyB
  | .regsB i => t.pmet[i].copyB.written = false ∧ t.pmet[i].copyA = s.pmet[i].copyA
  | .rootCopy1 => t.keys.rootCopy1 = false ∧ t.keys.rootCopy2 = s.keys.rootCopy2
  | .rootCopy2 => t.keys.rootCopy2 = false ∧ t.keys.rootCopy1 = s.keys.rootCopy1
  | .modelA => t.epd.modelA.good = false ∧ t.epd.modelB = s.epd.modelB
  | .modelB => t.epd.modelB.good = false ∧ t.epd.modelA = s.epd.modelA
  | .keySlot k => t.keys.slots[k].status = .fault ∧ ∀ j : Fin 64, j ≠ k → t.keys.slots[j] = s.keys.slots[j]
  | .checkpoint => t.clk.ckpt = none
  | .other => t.safe = s.safe ∧ t.pmet = s.pmet ∧ t.keys = s.keys ∧ t.epd = s.epd ∧ t.clk = s.clk

/-! The whole machine. -/

/-- Both byte memories are in canonical form: the tag's EEPROM and the flash. -/
def MemInv (s : State) : Prop := memWf 0 s.tag.mem = true ∧ memWf 0xFF#8 s.flash.mem = true

/-- n steps of the block, ending early with a fault or a refusal. -/
def steps : Nat → State → Host.Outcome State Fault Refusal
  | 0, s => .next s
  | n + 1, s =>
    match step s with
    | .next t => steps n t
    | o => o

/-- Commands that reach the hub over its vehicle links, its sessions, its NFC and Acrad side, its M-Bus and its board: SES, RDO, LNK and DSP, the
engines of the communication world, carry them out (01 R24). -/
def commCommand (c : Instr) : Bool :=
  match c with
  | .cpStateChange .. | .generatorFault .. | .generatorFaultClear .. | .cableCodeAdopt .. | .cableCodeInvalid .. | .lockTargetReached ..
  | .lockDriveTimeout .. | .lockRetry .. | .lockFaultClear .. | .pointReturnToService .. | .ceilingPause .. | .rxMpdu ..
  | .soundReport .. | .pipeTestReport .. | .txReport .. | .hpgpBeacon .. | .pipeStep .. | .pipeRetest .. | .cmSlacParmReq ..
  | .cmStartAttenCharInd .. | .slacSoundWindowEnd .. | .cmAttenCharRsp .. | .cmAttenCharResend .. | .cmSlacMatchReq ..
  | .cmValidateReq .. | .slacJoin .. | .ccLeave .. | .slacInitTimeout .. | .slacNoSoundingTimeout .. | .slacMatchTimeout ..
  | .slacJoinTimeout .. | .slacLinkSilence .. | .sdpRequest .. | .tcpConnect .. | .tcpConnectionLost .. | .tlsClientHello ..
  | .tlsClientKeyExchange .. | .tlsClientCertificate .. | .tlsClientFinished .. | .supportedAppProtocolReq .. | .sessionSetupReq ..
  | .serviceSelectionReq .. | .paymentDetailsReq .. | .authorizationReq .. | .chargeParameterReq .. | .chargeLoopReq ..
  | .meteringReceiptReq .. | .sessionStopReq .. | .certificateInstallationReq .. | .connectTimeout .. | .handshakeTimeout ..
  | .sequenceTimeout .. | .eimWaitExpiry .. | .overdraw .. | .tokenMessage .. | .windowRequest .. | .pendingLapse .. | .sndNke ..
  | .sndUdReadPage .. | .sndUdReadRecord .. | .sndUdOrderChunk .. | .sndUdStandard .. | .sndUdSelect .. | .sndUdAppReset ..
  | .sndUdBaud .. | .sndUdPrimaryWrite .. | .reqUd2 .. | .reqUd1 .. | .mbusUnsupported .. | .baudRevert .. | .mbusLatchExpiry ..
  | .orderAssemblyTimeout .. | .tagInventory .. | .stayQuiet .. | .tagSelect .. | .resetToReady .. | .readSingleBlock ..
  | .readMultipleBlocks .. | .writeSingleBlock .. | .extendedReadSingle .. | .extendedWriteSingle .. | .extendedReadMultiple ..
  | .getSystemInformation .. | .extendedGetSystemInfo .. | .getBlockSecurityStatus .. | .extendedGetSecurityStatus ..
  | .tagUnsupportedCommand .. | .mailboxTake .. | .frameLatchExpiry .. | .windowPublish .. | .windowFlip .. | .flipPendingTimeout ..
  | .publicAreaUpdate .. | .phyTransmit .. | .phyFrameReceived .. | .noiseSlot .. | .toneMapLoad .. | .couplerFault ..
  | .vldOutOfRange .. | .vldRecovery .. | .driverThermalShutdown .. | .beaconSend .. | .beaconRelay .. | .beaconRx ..
  | .coordinatorTakeover .. | .coordinationHandover .. | .islandEntry .. | .parentLost .. | .shareFrameSend .. | .shareFrameRx ..
  | .tmReq .. | .tmOffer .. | .tmAck .. | .toneMapRefresh .. | .contentionAccess .. | .acradAckRx .. | .acradAckTimeout ..
  | .reassemblyTimeout .. | .collectMsg .. | .bundleClose .. | .bundleSegmentSend .. | .bundleSeg .. | .orderMsg .. | .orderStatus ..
  | .readReq .. | .readRsp .. | .proxyReadTimeout .. | .llimChange .. | .displayCommit .. | .thermistorResult .. | .panelFrame ..
  | .epdPowerGood .. | .epdPowerTimeout .. | .epdPowerLost .. | .fullRefresh .. | .displayRetry .. | .tcpRetransmissionTimeout ..
  | .tlsAlert .. | .v2gtpProtocolError .. | .neighbourSolicitation .. | .mbusFrameError .. | .driverThermalRestart .. => true
  | _ => false

/-- Those of them for which the engine asks an operation of its own key slots (04 R128, R152). -/
def keyCommand (c : Instr) : Bool :=
  match c with
  | .cmAttenCharResend .. | .cmSlacMatchReq .. | .ccLeave .. | .slacInitTimeout .. | .slacNoSoundingTimeout .. | .slacMatchTimeout ..
  | .slacJoinTimeout .. | .slacLinkSilence .. | .tcpConnect .. | .tcpConnectionLost .. | .tlsClientHello .. | .tlsClientKeyExchange ..
  | .tlsClientCertificate .. | .tlsClientFinished .. | .supportedAppProtocolReq .. | .sessionSetupReq .. | .serviceSelectionReq ..
  | .paymentDetailsReq .. | .authorizationReq .. | .chargeParameterReq .. | .chargeLoopReq .. | .meteringReceiptReq ..
  | .sessionStopReq .. | .certificateInstallationReq .. | .connectTimeout .. | .handshakeTimeout .. | .sequenceTimeout ..
  | .eimWaitExpiry .. | .tcpRetransmissionTimeout .. | .tlsAlert .. | .v2gtpProtocolError .. => true
  | _ => false

/-- The memory of the metrology world and what it lives on stand: measurement, registers, ledger, records, journal, tamper records, life cycle, image,
flash, delivery, clock, the heads, engines and fabric (01 R25). -/
def MetrologyStands (s t : State) : Prop :=
  t.meas = s.meas ∧ t.met = s.met ∧ t.pmet = s.pmet ∧ t.led = s.led ∧ t.recs = s.recs ∧ t.jrn = s.jrn ∧ t.tamper = s.tamper ∧ t.life = s.life ∧
    t.img = s.img ∧ t.flash = s.flash ∧ t.dlv = s.dlv ∧ t.clk = s.clk ∧ t.heads = s.heads ∧ t.eng = s.eng ∧ t.fab = s.fab ∧ t.elec = s.elec

end Sys2Proof.Machine
end

