-- ==== Sys2Proof/Machine/Operands.lean ====
section
/-! DEFINITION. The operand forms of the commands: numbers of a width, bytes, and values that may be absent. A command's operand is what the
outside world brings (log entry 5); an index of a point, a head slot, a lane or a tag block is a bounded number by its type. -/

namespace Sys2Proof.Machine

/-- The number fits into a field of w bits. -/
def fits (w n : Nat) : Bool := decide (n < 2 ^ w)

/-- An absent value, or one that fits into w bits. -/
def optFits (w : Nat) : Option Nat → Bool
  | some n => fits w n
  | none => true

/-- Every entry is a byte. -/
def bytesOk (l : List Nat) : Bool := l.all fun b => fits 8 b

/-- An interval between crossings is positive. -/
def intervalOk : Option Rat → Bool
  | some d => decide (0 < d)
  | none => true

end Sys2Proof.Machine
end

