-- ==== Sys2Proof/WellFormed.lean ====
section
/-! DEFINITION. Well-formed commands: every operand lies in the width of the field or the range of the measured value that it stands for. The
machine runs every command; what lies outside these ranges is no observation that the outside world can make. -/

namespace Sys2Proof

open Sys2Proof.Machine

/-- An order record as it comes over M-Bus or the building link: at most 64 words, a node and a tag of one byte (04 R139). -/
def orderOk (o : OrderRec) : Bool := decide (o.words.length ≤ 64) && fits 8 o.orig && fits 8 o.tag

/-- The fields of an Acrad frame in their widths (18 R608, R609). -/
def frameOk (f : AcFrame) : Bool :=
  fits 8 f.src && fits 8 f.dst && fits 8 f.fseq && fits 8 f.tmi && fits 64 f.fctr && fits 8 f.keysel && fits 16 f.msgId && fits 8 f.orig
    && fits 8 f.final && fits 8 f.hops && fits 8 f.frag && fits 64 f.stamp && bytesOk f.body

/-- What a start finds: copies of the repair map, rows, blocks, PUF reads, period copies and intent slots that exist
(03 Table 3.2; 22 Table 22.2). -/
def startOk : StartStep → Bool
  | .begin o =>
    decide (o.mapOk ≤ 3) && (o.rows.all fun e => fits 9 e.2) && (o.blks.all fun b => fits 10 b) && decide (o.puf.length ≤ 3)
      && decide (o.per ≤ 2) && o.badIntents.all fun k => fits 4 k
  | .arm mons => decide (mons.length = 4)

/-- Times of the outage steps in their order (21 R707). -/
def timesOk (t : OutTimes) : Bool :=
  fits 32 t.journal && decide (t.rail ≤ t.meter) && decide (t.meter ≤ t.ledger) && decide (t.ledger ≤ t.journal)

/-- A certificate chain: its instants and its subject (12 R410, R416). -/
def chainOk (c : Chain) : Bool := fits 64 c.notBefore && fits 64 c.notAfter && bytesOk c.cn && optFits 16 c.badAsset

/-- A command whose operands lie in their widths. -/
def Instr.wf : Instr → Bool
  | .heartbeatLost _ => true
  | .crossWorldWrite _ addr => fits 64 addr
  | .bindingNotice => true
  | .zeroCrossing _ iv phase => intervalOk iv && fits 16 phase
  | .crossingSlip _ => true
  | .acquireTimeout => true
  | .holdoverTimeout => true
  | .msInputAbsent _ => true
  | .msInputPresent _ => true
  | .sourceChange => true
  | .returnToL1 => true
  | .cycleBoundary o => fits 32 o.adv
  | .countCheckpoint => true
  | .tickStart tar _ => fits 2 tar
  | .countAlignment o => fits 32 o.adv
  | .nresetAssert => true
  | .startSequence x => startOk x
  | .runEntry _ => true
  | .orderTimeSet o => orderOk o
  | .timeSetApply => true
  | .orderPointService o => orderOk o
  | .serviceStateApply => true
  | .orderTenantBlock o => orderOk o
  | .orderTenantUnblock o => orderOk o
  | .tenantBlockApply => true
  | .orderSeal o => orderOk o
  | .orderUnseal o => orderOk o
  | .orderRetire o => orderOk o
  | .lifeCycleChange => true
  | .retireSequence => true
  | .retireCellBurn => true
  | .orderRestart o => orderOk o
  | .restartSessionFreeze => true
  | .restartDue => true
  | .orderUnknownType o => orderOk o
  | .deliveryBegin o => orderOk o
  | .deliveryData o => orderOk o
  | .deliveryEnd o => orderOk o
  | .deliveryAbandon o => orderOk o
  | .deliveryEraseDone => true
  | .deliveryVerifyDone _ => true
  | .orderReadoutPages o => orderOk o
  | .orderReadoutRecords o => orderOk o
  | .orderReadoutRegister o => orderOk o
  | .grantOpen => true
  | .grantExpiry => true
  | .registerReadingCompose => true
  | .orderAuthorise o => orderOk o
  | .slotSign _ point slot data => fits 8 point && fits 8 slot && bytesOk data
  | .slotVerify _ point slot data => fits 8 point && fits 8 slot && bytesOk data
  | .slotEncrypt _ slot data => fits 8 slot && bytesOk data
  | .slotDecrypt _ slot data => fits 8 slot && bytesOk data
  | .slotMac _ slot data tag => fits 8 slot && bytesOk data && optFits 128 tag
  | .slotDerive _ slot _ tenant => fits 8 slot && fits 16 tenant
  | .slotKeyAgreement _ point slot peer => fits 8 point && fits 8 slot && bytesOk peer
  | .cryptoJobDone => true
  | .trngHealthFail _ _ => true
  | .assetFetch kind block _ => fits 8 kind && fits 16 block
  | .upstreamFrame _ ws _ => decide (ws.length ≤ 64)
  | .upstreamDeadline _ => true
  | .slowEnd _ => true
  | .slowTimeout _ => true
  | .headSilenceLoss _ => true
  | .statusMissingWithdraw _ => true
  | .pairingTimeout _ => true
  | .headSelfTestTimeout _ => true
  | .checkStepEnd _ => true
  | .headRunFrame _ ws _ _ => decide (ws.length ≤ 64)
  | .headPairFrame _ ws _ nd hub => decide (ws.length ≤ 64) && fits 64 nd && fits 64 hub
  | .headCheckFrame _ ws _ result => decide (ws.length ≤ 64) && (match result with | some y => fits 16 y.2 | none => true)
  | .headFailsafe _ => true
  | .headUnpairTimeout _ => true
  | .headExcDetect _ _ _ => true
  | .headDcTrip _ idc => fits 16 idc
  | .headAcTrip _ iac => fits 16 iac
  | .fluxgateFault _ => true
  | .lowSideDriverFault _ => true
  | .headLockDriveCap _ => true
  | .haloStep _ => true
  | .haloJudge _ _ c => decide (c.nSig ≤ c.usable)
  | .haloConfirmHoldEnd _ _ c _ => decide (c.nSig ≤ c.usable)
  | .haloReturn _ _ => true
  | .meterCycle => true
  | .estopPressed _ _ => true
  | .estopReleased => true
  | .estopDiscrepancy => true
  | .ssmDiscrepancy _ => true
  | .ssmClockStop _ => true
  | .closeRequest _ => true
  | .preclosureTestEnd _ => true
  | .closingMark _ => true
  | .openRequest _ => true
  | .feedbackDiscrepancy _ => true
  | .feedbackAgainstCommand _ => true
  | .weldDetected _ => true
  | .ssmDcBackup _ => true
  | .ssmAcTrip _ => true
  | .cpMissingDiode _ => true
  | .cpShortToPe _ => true
  | .proximityFault _ => true
  | .lockFeedbackLost _ => true
  | .npeOvervoltage _ => true
  | .npeCleared _ => true
  | .t2Stop _ => true
  | .t2Cleared _ => true
  | .ptExcitationFault _ _ => true
  | .ptExcitationClear _ => true
  | .rstReqRise => true
  | .rstReqFall usA usB => fits 32 usA && fits 32 usB
  | .lockoutReset mons => decide (mons.length = 4)
  | .railTest mons => decide (mons.length = 4)
  | .railTestOverdue => true
  | .safeMonFault _ _ => true
  | .cpStateChange _ => true
  | .generatorFault _ => true
  | .generatorFaultClear _ => true
  | .cableCodeAdopt _ => true
  | .cableCodeInvalid _ => true
  | .lockTargetReached _ => true
  | .lockDriveTimeout _ => true
  | .lockRetry _ => true
  | .lockFaultClear _ => true
  | .pointReturnToService _ => true
  | .ceilingPause _ => true
  | .headTxMpdu _ desc body _ => fits 64 desc && decide (body.length ≤ 4096)
  | .headTxFilter _ desc codes => fits 64 desc && bytesOk codes
  | .headNetSet _ desc => fits 64 desc
  | .headPipeSwap _ => true
  | .headPipeReturn _ => true
  | .headPipeTest _ _ => true
  | .headPipeHandover _ => true
  | .headPipeTestDone _ _ level tick => fits 16 level && fits 16 tick
  | .headMpduReceived _ tick level mode _ snid tei body _ => fits 16 tick && fits 16 level && fits 8 mode && fits 8 snid && fits 8 tei && decide (body.length ≤ 4096)
  | .headTxComplete _ tick _ _ => fits 16 tick
  | .rxMpdu _ desc body => fits 64 desc && decide (body.length ≤ 4096)
  | .soundReport _ tick atten => fits 16 tick && bytesOk atten
  | .pipeTestReport _ desc => fits 64 desc
  | .txReport _ desc => fits 64 desc
  | .hpgpBeacon _ => true
  | .pipeStep _ => true
  | .pipeRetest _ _ => true
  | .cmSlacParmReq _ runId mac secType => fits 64 runId && fits 48 mac && fits 8 secType
  | .cmStartAttenCharInd _ runId => fits 64 runId
  | .slacSoundWindowEnd _ => true
  | .cmAttenCharRsp _ runId result => fits 64 runId && fits 8 result
  | .cmAttenCharResend _ => true
  | .cmSlacMatchReq _ runId secType => fits 64 runId && fits 8 secType
  | .cmValidateReq _ => true
  | .slacJoin _ tei ms => fits 8 tei && fits 32 ms
  | .ccLeave _ => true
  | .slacInitTimeout _ => true
  | .slacNoSoundingTimeout _ => true
  | .slacMatchTimeout _ => true
  | .slacJoinTimeout _ => true
  | .slacLinkSilence _ => true
  | .sdpRequest _ _ _ _ => true
  | .tcpConnect _ port => fits 16 port
  | .tcpConnectionLost _ => true
  | .tlsClientHello _ _ _ _ _ scheme badAsset => fits 8 scheme && optFits 16 badAsset
  | .tlsClientKeyExchange _ peer => bytesOk peer
  | .tlsClientCertificate _ chain _ => (match chain with | some y => chainOk y | none => true)
  | .tlsClientFinished _ _ => true
  | .supportedAppProtocolReq _ entries ms => (entries.all fun e => fits 8 e.1 && fits 8 e.2) && fits 32 ms
  | .sessionSetupReq _ ms => fits 32 ms
  | .serviceSelectionReq _ sid service mode _ ms => fits 64 sid && fits 16 service && fits 8 mode && fits 32 ms
  | .paymentDetailsReq _ sid chain ms => fits 64 sid && chainOk chain && fits 32 ms
  | .authorizationReq _ sid chain _ ms => fits 64 sid && (match chain with | some y => chainOk y | none => true) && fits 32 ms
  | .chargeParameterReq _ sid maxI maxP maxDis ms => fits 64 sid && fits 16 maxI && fits 32 maxP && fits 32 maxDis && fits 32 ms
  | .chargeLoopReq _ sid maxP maxDis ms => fits 64 sid && fits 32 maxP && fits 32 maxDis && fits 32 ms
  | .meteringReceiptReq _ sid _ ms => fits 64 sid && fits 32 ms
  | .sessionStopReq _ sid _ ms => fits 64 sid && fits 32 ms
  | .certificateInstallationReq _ sid ms => fits 64 sid && fits 32 ms
  | .connectTimeout _ => true
  | .handshakeTimeout _ => true
  | .sequenceTimeout _ => true
  | .eimWaitExpiry _ => true
  | .overdraw _ _ => true
  | .tokenMessage => true
  | .windowRequest => true
  | .pendingLapse _ => true
  | .tariffSwitch => true
  | .tariffUnstable => true
  | .ledgerCommit => true
  | .periodClose => true
  | .monthlySnapshot => true
  | .statementsSealed => true
  | .sndNke _ => true
  | .sndUdReadPage _ _ page part => fits 16 page && fits 8 part
  | .sndUdReadRecord _ _ no part => fits 64 no && fits 8 part
  | .sndUdOrderChunk _ _ tag chunk chunks data => fits 8 tag && fits 8 chunk && fits 8 chunks && bytesOk data
  | .sndUdStandard _ _ => true
  | .sndUdSelect ident man version medium => fits 32 ident && fits 16 man && fits 8 version && fits 8 medium
  | .sndUdAppReset _ => true
  | .sndUdBaud _ _ => true
  | .sndUdPrimaryWrite _ new => fits 8 new
  | .reqUd2 _ _ _ => true
  | .reqUd1 _ => true
  | .mbusUnsupported _ => true
  | .baudRevert => true
  | .mbusLatchExpiry => true
  | .orderAssemblyTimeout => true
  | .tagInventory maskLen mask afi => fits 7 maskLen && fits 64 mask && optFits 8 afi
  | .stayQuiet q => optFits 64 q.uid
  | .tagSelect uid _ => fits 64 uid
  | .resetToReady q => optFits 64 q.uid
  | .readSingleBlock q _ => optFits 64 q.uid
  | .readMultipleBlocks q _ n => optFits 64 q.uid && fits 16 n
  | .writeSingleBlock q _ data => optFits 64 q.uid && fits 64 data
  | .extendedReadSingle q _ => optFits 64 q.uid
  | .extendedWriteSingle q _ data => optFits 64 q.uid && fits 64 data
  | .extendedReadMultiple q _ n => optFits 64 q.uid && fits 16 n
  | .getSystemInformation q => optFits 64 q.uid
  | .extendedGetSystemInfo q => optFits 64 q.uid
  | .getBlockSecurityStatus q _ n => optFits 64 q.uid && fits 16 n
  | .extendedGetSecurityStatus q _ n => optFits 64 q.uid && fits 16 n
  | .tagUnsupportedCommand q => optFits 64 q.uid
  | .mailboxTake => true
  | .frameLatchExpiry _ => true
  | .windowPublish _ failBlock => optFits 10 failBlock
  | .windowFlip _ _ _ => true
  | .flipPendingTimeout _ => true
  | .publicAreaUpdate _ _ => true
  | .phyTransmit limited => fits 32 limited
  | .phyFrameReceived fc _ _ _ _ => fits 64 fc
  | .noiseSlot _ _ => true
  | .toneMapLoad words _ => decide (words.length = 11)
  | .couplerFault _ _ _ => true
  | .vldOutOfRange mv => fits 16 mv
  | .vldRecovery => true
  | .driverThermalShutdown => true
  | .beaconSend => true
  | .beaconRelay f => frameOk f
  | .beaconRx f hop => frameOk f && fits 8 hop
  | .coordinatorTakeover => true
  | .coordinationHandover => true
  | .islandEntry => true
  | .parentLost => true
  | .shareFrameSend => true
  | .shareFrameRx f => frameOk f
  | .tmReq f => frameOk f
  | .tmOffer f => frameOk f
  | .tmAck f _ => frameOk f
  | .toneMapRefresh node _ => fits 8 node
  | .contentionAccess _ units => fits 16 units
  | .acradAckRx node fseq status _ => fits 8 node && fits 8 fseq && fits 8 status
  | .acradAckTimeout node fseq => fits 8 node && fits 8 fseq
  | .reassemblyTimeout orig msgId => fits 8 orig && fits 16 msgId
  | .collectMsg f => frameOk f
  | .bundleClose => true
  | .bundleSegmentSend _ => true
  | .bundleSeg f => frameOk f
  | .orderMsg f => frameOk f
  | .orderStatus f => frameOk f
  | .readReq f => frameOk f
  | .readRsp f => frameOk f
  | .proxyReadTimeout => true
  | .llimChange => true
  | .displayCommit _ _ => true
  | .thermistorResult r => fits 32 r
  | .panelFrame => true
  | .epdPowerGood => true
  | .epdPowerTimeout => true
  | .epdPowerLost => true
  | .fullRefresh r _ _ => fits 32 r
  | .displayRetry => true
  | .mainsLoss _ _ t => timesOk t
  | .outageJournalDone _ => true
  | .lastLightDone => true
  | .sentinelColdStart => true
  | .sentinelRailLoss => true
  | .gaugeSample adv vStore vQuick _ => fits 32 adv && fits 16 vStore && fits 16 vQuick
  | .cellLow => true
  | .mpptSample openMv => fits 16 openMv
  | .tamperSample adv _ _ => fits 32 adv
  | .gaugeTagUpdate adv => fits 32 adv
  | .rtcOscStop => true
  | .rtcOscRestart => true
  | .journalEraseDone => true
  | .laneStep _ => true
  | .laneJudge _ _ group _ => fits 3 group
  | .laneResidueError _ => true
  | .laneHandoff _ => true
  | .sramRowStep _ _ => true
  | .sramCorrectableError _ row => fits 9 row
  | .sramRowMove _ row => fits 9 row
  | .sramUncorrectableError _ row => fits 9 row
  | .mramBlockStep _ => true
  | .mramCorrectableError blk => fits 10 blk
  | .mramBlockMove blk => fits 10 blk
  | .mramUncorrectableError addr _ => fits 64 addr
  | .eventRaised code source point arg => fits 16 code && fits 8 source && fits 8 point && fits 32 arg
  | .supplyBrownout => true
  | .xtal25Stop => true
  | .headSupplyLoss _ => true
  | .tcpRetransmissionTimeout _ => true
  | .tlsAlert _ alert => fits 8 alert
  | .v2gtpProtocolError _ kind => fits 8 kind
  | .neighbourSolicitation _ target => bytesOk target
  | .mbusFrameError => true
  | .driverThermalRestart => true
  | .vsentChange _ => true
  | .supplyFallInOutage => true
  | .headReset _ _ => true

end Sys2Proof
end

