-- ==== Sys2Proof/Certificates/Slice0/Obligations.lean ====
section
/-! DEFINITION. The statements for the provers, chapter by chapter of the manual: what each command does, under conditions on the state and
its operands alone, which parts it may change, and what holds of the whole machine whatever is commanded. -/

open Sys2Proof Sys2Proof.Machine

/-! ## The chipset and the estate (spec/01) -/

/-- 01 R25, R46, Table 1.11, R47, R48: what a lost heartbeat does, engine by engine. For BOOT, MET and LED the rail goes off and the hub restarts, and
what MRAM holds of keys and life cycle stands; for SES the rail goes off and SES restarts alone, its points out of service; LNK restarts alone
into LISTEN; RDO and DSP restart alone and leave charging and metering as they are. A fifth restart alone within 3 000 cy restarts the hub. A
write of a communication engine into metrology-world memory is blocked, counted and reported with event 0x6001 (source field and argument:
log entry 41), and the engine counts as lost. -/
def Obligations.EngineErrorsAndBlockedWrites : Prop :=
  (∀ (e : EngineId) (s : State), e = .boot ∨ e = .met ∨ e = .led → engRuns s.life.cond e = true → 3 ≤ s.eng.sts[engIdx e].missed →
    Does (.heartbeatLost e) s restartParts fun t => Restarted 3 t ∧ t.keys.slots = s.keys.slots ∧ t.life.cells = s.life.cells) ∧
  (∀ s : State, engRuns s.life.cond .ses = true → 3 ≤ s.eng.sts[engIdx .ses].missed →
    ((s.eng.sts[engIdx .ses].restarts.filter fun b => decide (s.clk.bndTot < b + 3000)).length < 4) →
    Does (.heartbeatLost .ses) s [.eng, .gates, .keys, .ports, .safe, .psafe, .cp, .plc, .ses, .sesSys, .auth, .authSys, .fab, .ev, .sen] fun t =>
      RailOff t ∧ t.safe.railCause = 0x20 ∧
        (∀ i : Fin 32, s.cp[i].pst ≠ .absent → t.cp[i].pst = .outOfService) ∧
        t.eng.sts[engIdx .ses].missed = 0 ∧ s.clk.bndTot ∈ t.eng.sts[engIdx .ses].restarts) ∧
  (∀ s : State, engRuns s.life.cond .lnk = true → 3 ≤ s.eng.sts[engIdx .lnk].missed →
    ((s.eng.sts[engIdx .lnk].restarts.filter fun b => decide (s.clk.bndTot < b + 3000)).length < 4) →
    Does (.heartbeatLost .lnk) s [.eng, .phy, .lnk, .share, .fab, .ev, .sen] fun t =>
      t.lnk.st = .listen ∧ t.eng.sts[engIdx .lnk].missed = 0 ∧ s.clk.bndTot ∈ t.eng.sts[engIdx .lnk].restarts) ∧
  (∀ (e : EngineId) (s : State), e = .rdo ∨ e = .dsp → engRuns s.life.cond e = true → 3 ≤ s.eng.sts[engIdx e].missed →
    ((s.eng.sts[engIdx e].restarts.filter fun b => decide (s.clk.bndTot < b + 3000)).length < 4) →
    Does (.heartbeatLost e) s [.eng, .mbus, .tag, .epd, .fab, .ev, .sen] fun t =>
      t.eng.sts[engIdx e].missed = 0 ∧ s.clk.bndTot ∈ t.eng.sts[engIdx e].restarts) ∧
  (∀ (e : EngineId) (s : State), e = .lnk ∨ e = .rdo ∨ e = .dsp → engRuns s.life.cond e = true → 3 ≤ s.eng.sts[engIdx e].missed →
    4 ≤ (s.eng.sts[engIdx e].restarts.filter fun b => decide (s.clk.bndTot < b + 3000)).length →
    Does (.heartbeatLost e) s restartParts fun t => Restarted 4 t) ∧
  (∀ (e : EngineId) (s : State), engRuns s.life.cond e = false ∨ s.eng.sts[engIdx e].missed < 3 → Idles (.heartbeatLost e) s) ∧
  (∀ (e : EngineId) (addr : Nat) (s : State), e = .ses ∨ e = .lnk ∨ e = .rdo ∨ e = .dsp → engRuns s.life.cond e = true →
    Does (.crossWorldWrite e addr) s restartParts fun t =>
      t = engineLost e (raise 0x6001 (srcOf e) 255 (addr % 2 ^ 32) (s.modEng fun x => { x with blockedWrites := x.blockedWrites + 1 })) ∧
        t.keys.slots = s.keys.slots ∧ (∀ i : Fin 32, t.pmet[i].copyA = s.pmet[i].copyA ∧ t.pmet[i].copyB = s.pmet[i].copyB)) ∧
  (∀ (e : EngineId) (addr : Nat) (s : State), engRuns s.life.cond e = false ∨ e = .boot ∨ e = .met ∨ e = .led →
    Idles (.crossWorldWrite e addr) s)

/-! ## Cycle clock (spec/02) -/

/-- 02 R53, R54, R56 (Table 2.1): what a qualifying crossing on the source input does to the clock. Crossing n with error e, in pu, lies at
position n × 65 536 + offset + e. A good crossing in LOCKED steers by the loop law; the eighth good one in a row enters LOCKED from HOLDOVER,
FREE or PULL-IN with event 0x7111; the eighth consistent one in a row, outside the window, enters PULL-IN from HOLDOVER or FREE with event
0x7113; in ACQUIRE the eighth consistent one in a row starts the clock in LOCKED on the mean of seven intervals with event 0x7118. -/
def Obligations.CrossingsSteerTheClock : Prop :=
  (∀ (inp : MsIn) (iv : Option Rat) (phase : Nat) (n e : Int) (s : State),
    s.clk.present inp = true → s.clk.started = true → s.clk.src = inSrc inp → (s.clk.expect : Int) ≤ n → -2048 ≤ e → e ≤ 2048 →
    (s.clk.count : Int) * 65536 + phase + msTrim s inp = n * 65536 + srcOffset s.clk.rotNeg inp + e →
    (s.clk.state = .locked →
      Does (.zeroCrossing inp iv phase) s [.clk] fun t =>
        t.clk.state = .locked ∧ t.clk.err = e ∧ t.clk.slips = 0 ∧ t.clk.good = min 8 (s.clk.good + 1) ∧
          t.clk.base = clampBase (s.clk.base + s.clk.base * e / (16 * 65536)) ∧
          (if (s.clk.count : Int) < n then
            t.clk.lenNext = some (s.clk.base + s.clk.base * e / (2 * 65536)) ∧ t.clk.lenCur = s.clk.lenCur
          else t.clk.lenCur = s.clk.base + s.clk.base * e / (2 * 65536) ∧ t.clk.lenNext = s.clk.lenNext)) ∧
    ((s.clk.state = .holdover ∨ s.clk.state = .free ∨ s.clk.state = .pullIn) → s.clk.good = 7 →
      Does (.zeroCrossing inp iv phase) s [.clk, .ev, .sen] fun t =>
        t.clk.state = .locked ∧ t.clk.err = e ∧ t.clk.base = clampBase (s.clk.base + s.clk.base * e / (16 * 65536)) ∧
          t.ev = (raise 0x7111 1 255 (min s.clk.outRun (2 ^ 32 - 1)) s).ev)) ∧
  (∀ (inp : MsIn) (d : Rat) (phase : Nat) (n e : Int) (s : State),
    s.clk.present inp = true → s.clk.started = true → s.clk.src = inSrc inp → (e < -2048 ∨ 2048 < e) → -32768 ≤ e → e < 32768 →
    (s.clk.count : Int) * 65536 + phase + msTrim s inp = n * 65536 + srcOffset s.clk.rotNeg inp + e →
    consistentIv s.clk.base d = true → 7 ≤ s.clk.consistent → (s.clk.state = .holdover ∨ s.clk.state = .free) →
      Does (.zeroCrossing inp (some d) phase) s [.clk, .ev, .sen] fun t =>
        t.clk.state = .pullIn ∧ t.clk.base = s.clk.base ∧ (t.clk.pullFromFree = true ↔ s.clk.state = .free) ∧
          t.ev = (raise 0x7113 1 255 (twos 32 e) s).ev) ∧
  (∀ (inp : MsIn) (d p : Rat) (rest : List Rat) (phase : Nat) (s : State),
    s.clk.state = .acquire → s.clk.present inp = true → s.clk.src = inSrc inp → s.clk.consistent = 7 → s.clk.intervals = p :: rest →
    baseMin ≤ d → d ≤ baseMax → d - p ≤ p * 2048 / 65536 → p - d ≤ p * 2048 / 65536 →
      Does (.zeroCrossing inp (some d) phase) s [.clk, .life, .ev, .sen] fun t =>
        t.clk.state = .locked ∧ t.clk.base = clampBase (meanLen ((d :: p :: rest).take 7)) ∧ t.clk.started = s.clk.started ∧
          t.life.c0 = firstCount s.clk.ckpt s.sen.rtcS s.sen.rtcSub s.sen.rtcValid s.clk.fnom ∧
          t.ev = (raise 0x7118 1 255 (16 + srcNum (inSrc inp)) s).ev)

/-- 02 R51, R56, R59, R60, R74 (Table 2.1): slips, timeouts, presence and the source. The third slip in a row enters HOLDOVER from LOCKED with
event 0x7110; 100 nominal cycles in ACQUIRE start the clock in FREE; the 51st boundary of HOLDOVER enters FREE with event 0x7112; an input
changes its presence alone, and ACQUIRE counts afresh on the next present one; a boundary changes the source, or returns it to L1 after
eight good L1 crossings, with event 0x7114. -/
def Obligations.ClockStatesAndSources : Prop :=
  (∀ (inp : MsIn) (s : State), s.clk.state = .locked → s.clk.started = true → s.clk.src = inSrc inp →
    Does (.crossingSlip inp) s [.clk, .ev, .sen] fun t =>
      t.clk.expect = s.clk.expect + 1 ∧ t.clk.good = 0 ∧ t.clk.slipTotal = inc32 s.clk.slipTotal ∧ t.clk.base = s.clk.base ∧
        t.clk.lenCur = s.clk.lenCur ∧ t.clk.lenNext = s.clk.lenNext ∧
        (s.clk.slips < 2 → t.clk.state = .locked ∧ t.clk.slips = s.clk.slips + 1 ∧ t.ev = s.ev) ∧
        (s.clk.slips = 2 → t.clk.state = .holdover ∧ t.clk.slips = 3 ∧ t.clk.holdBnd = s.clk.bndTot ∧
          t.ev = (raise 0x7110 1 255 (twos 32 s.clk.err) s).ev)) ∧
  (∀ s : State, s.clk.state = .acquire → s.life.cond = .start →
    Does .acquireTimeout s [.clk, .life, .ev, .sen] fun t =>
      t.clk.state = .free ∧ t.clk.base = nomLen s.clk ∧
        t.life.c0 = firstCount s.clk.ckpt s.sen.rtcS s.sen.rtcSub s.sen.rtcValid s.clk.fnom ∧
        t.ev = (raise 0x7118 1 255 (48 + srcNum s.clk.src) s).ev) ∧
  (∀ s : State, s.clk.state = .holdover → s.clk.holdBnd + 51 ≤ s.clk.bndTot →
    Does .holdoverTimeout s [.clk, .ev, .sen] fun t =>
      t.clk = { s.clk with state := .free, base := nomLen s.clk } ∧ t.ev = (raise 0x7112 1 255 0 s).ev) ∧
  (∀ s : State, s.clk.state ≠ .holdover ∨ s.clk.bndTot < s.clk.holdBnd + 51 → Idles .holdoverTimeout s) ∧
  (∀ (inp : MsIn) (s : State), Does (.msInputAbsent inp) s [.clk] fun t =>
    t.clk.present inp = false ∧ (∀ j, j ≠ inp → t.clk.present j = s.clk.present j) ∧ t.clk.state = s.clk.state ∧ t.clk.base = s.clk.base ∧
      (s.clk.state = .acquire → s.clk.src = inSrc inp → t.clk.src = firstPresent t.clk ∧ t.clk.consistent = 0) ∧
      (s.clk.state ≠ .acquire ∨ s.clk.src ≠ inSrc inp → t.clk.src = s.clk.src ∧ t.clk.consistent = s.clk.consistent)) ∧
  (∀ (inp : MsIn) (s : State), Does (.msInputPresent inp) s [.clk] fun t =>
    t.clk.present inp = true ∧ (∀ j, j ≠ inp → t.clk.present j = s.clk.present j) ∧ t.clk.state = s.clk.state ∧ t.clk.base = s.clk.base ∧
      (s.clk.src ≠ .none → t.clk.src = s.clk.src)) ∧
  (∀ (i : MsIn) (s : State), s.clk.src = inSrc i → s.clk.present i = false → s.clk.state ≠ .acquire → firstPresent s.clk ≠ .none →
    Does .sourceChange s [.gates, .clk, .ev, .sen, .freeCtr] fun t =>
      t.clk.src = firstPresent s.clk ∧ t.clk.state = s.clk.state ∧ t.clk.slips = s.clk.slips ∧ t.clk.good = s.clk.good ∧
        t.ev = (raise 0x7114 1 255 (srcNum (firstPresent s.clk)) s).ev) ∧
  (∀ s : State, s.clk.src = .l2 ∨ s.clk.src = .l3 → s.clk.l1Good = 8 → s.clk.started = true →
    Does .returnToL1 s [.gates, .clk, .ev, .sen, .freeCtr] fun t =>
      t.clk.src = .l1 ∧ t.clk.l1Good = 0 ∧ t.clk.state = s.clk.state ∧ t.ev = (raise 0x7114 1 255 1 s).ev)

/-- 02 R52, R57, R64, R68, R76, R77, R81, R82, R83 (Table 2.4): boundaries, alignments, checkpoints and ticks. A boundary raises the count by one
(the first opens the first count of the start), begins the length set for the cycle, latches the RTC and publishes the gates at its count;
an alignment moves the count forward to a multiple of 64, counts it, and adds no boundary; neither touches the tick number. An epoch boundary
writes the checkpoint. A tick start numbers its tick modulo 65 536 and launches a frame, opened by SYNC, on every configured port that
sends. -/
def Obligations.BoundariesAndTicks : Prop :=
  (∀ (o : BndObs) (s : State), clockRuns s = true →
    Does (.cycleBoundary o) s boundaryParts fun t =>
      t.clk.count = nextCount s ∧ (s.clk.started = false → t.clk.count = s.life.c0) ∧
        (s.clk.started = true → alignDue s = false → t.clk.count = s.clk.count + 1) ∧ t.clk.started = true ∧
        t.clk.bndTot = s.clk.bndTot + 1 ∧ t.clk.tick = s.clk.tick ∧ t.clk.tickTot = s.clk.tickTot ∧
        t.clk.lenCur = s.clk.lenNext.getD s.clk.base ∧ t.clk.lenNext = none ∧ t.clk.base = s.clk.base ∧ t.clk.state = s.clk.state ∧
        t.clk.rtcS = (passTime o.adv s).sen.rtcS ∧ t.clk.rtcSub = (passTime o.adv s).sen.rtcSub ∧
        (s.sen.mlSig = false → t.gates.snapCount = t.clk.count)) ∧
  (∀ (o : BndObs) (s : State), clockRuns s = true → alignDue s = true →
    Does (.countAlignment o) s boundaryParts fun t =>
      s.clk.count + 1 < t.clk.count ∧ t.clk.count % 64 = 0 ∧ (t.clk.count : Int) = s.clk.count + 1 + s.lnk.countDiff ∧
        t.clk.bndTot = s.clk.bndTot + 1 ∧ t.clk.tick = s.clk.tick ∧ t.clk.alignTotal = inc16 s.clk.alignTotal) ∧
  (∀ (o : BndObs) (s : State), clockRuns s = false ∨ alignDue s = false → Idles (.countAlignment o) s) ∧
  (∀ s : State, clockRuns s = true → s.clk.started = true → s.clk.count % 64 = 0 →
    Does .countCheckpoint s [.gates, .clk, .keys, .ports, .meas, .pmet, .cp, .plc, .pipes, .ses, .phy, .lnk, .share, .ev, .sen, .freeCtr]
      fun t => t.clk = { s.clk with ckpt := some { count := s.clk.count, rtcS := s.clk.rtcS, rtcSub := s.clk.rtcSub } }) ∧
  (∀ (tar : Nat) (llim : Bool) (s : State), tickDue s = true →
    Does (.tickStart tar llim) s [.gates, .clk, .keys, .ports, .safe, .psafe, .cp, .plc, .ses, .sesSys, .led, .share, .ev, .sen] fun t =>
      t.clk.tick = s.clk.tickTot % 65536 ∧ t.clk.tickTot = s.clk.tickTot + 1 ∧ t.clk.lastTickCount = s.clk.count ∧
        t.clk.count = s.clk.count ∧
        ∀ k : Fin 8, hasHead s k.val = true → s.sen.mlSig = false → portType s.ports[k] ≠ none →
          t.ports[k].tx.head? = some (BitVec.ofNat 32 syncDown))

/-! ## Start, life cycle, sealing (spec/03) -/

/-- 03 R94 to R97, R102 to R104, R112; 04 R141, R142: orders of the life cycle and of a restart, signed by a key the hub holds. Whatever the
signature, the order completes: with a good one its SEQ is taken and the order acts or is refused for its content by the first check of
03 Table 3.7 or R104 that fails, with event 0x6106 or 0x7105; a seal or unseal waits for its boundary, a retire replaces what waits, a
restart replaces any pending restart with event 0x7104. A wrong one changes neither key, window nor life cycle. -/
def Obligations.LifeCycleOrders : Prop :=
  OrderActs .orderSeal [5] (fun _ => true) [.gates, .life, .keys, .mbus, .lnk, .ev, .sen] (fun o s => lcReason 5 (oPayload o) s) (fun o s t =>
    if lcReason 5 (oPayload o) s = 0 then
      t.life = { s.life with pend := some { toState := 3, effect := effectAt s (fld (pWord (oPayload o) 1) 127 64) } }
    else t.life = s.life ∧ (o.src = .rdo → t.ev = (raise 0x6106 1 255
      (lcReason 5 (oPayload o) s * 2 ^ 24 + lcCode s * 2 ^ 16 + fld (pWord (oPayload o) 0) 55 48 * 2 ^ 8) s).ev)) ∧
  OrderActs .orderUnseal [6] (fun _ => true) [.gates, .life, .keys, .mbus, .lnk, .ev, .sen] (fun o s => lcReason 6 (oPayload o) s) (fun o s t =>
    if lcReason 6 (oPayload o) s = 0 then
      t.life = { s.life with pend := some { toState := 4, effect := effectAt s (fld (pWord (oPayload o) 1) 127 64) } }
    else t.life = s.life ∧ (o.src = .rdo → t.ev = (raise 0x6106 1 255
      (lcReason 6 (oPayload o) s * 2 ^ 24 + lcCode s * 2 ^ 16 + fld (pWord (oPayload o) 0) 55 48 * 2 ^ 8) s).ev)) ∧
  OrderActs .orderRetire [7] (fun _ => true) [.gates, .life, .keys, .mbus, .lnk, .ev, .sen] (fun o s => lcReason 7 (oPayload o) s) (fun o s t =>
    if lcReason 7 (oPayload o) s = 0 then
      t.life = { s.life with pend := some { toState := 5, effect := effectAt s (fld (pWord (oPayload o) 1) 127 64) } }
    else t.life = s.life ∧ (o.src = .rdo → t.ev = (raise 0x6106 1 255
      (lcReason 7 (oPayload o) s * 2 ^ 24 + lcCode s * 2 ^ 16 + fld (pWord (oPayload o) 0) 55 48 * 2 ^ 8) s).ev)) ∧
  OrderActs .orderRestart [9] (fun _ => true) [.gates, .life, .keys, .mbus, .lnk, .ev, .sen] (fun o s => restartReason (oPayload o) s) (fun o s t =>
    if restartReason (oPayload o) s = 0 then
      t.life = { s.life with freeze := false, rst := some (restartAsked (oPayload o)) } ∧
        (o.src = .rdo → t.ev = (raise 0x7104 1 255 (restartArg (restartAsked (oPayload o))) s).ev)
    else t.life = s.life ∧ (o.src = .rdo → t.ev = (raise 0x7105 1 255 (restartReason (oPayload o) s) s).ev))

/-- 03 R84, R91, R96, R98, R100, R101, R103, R104, R111, R118: what the life cycle does at a boundary. A due seal order writes the digest and burns the
next SEAL cell, an unseal order the next SERVICE cell, with events 0x6103 and 0x6104. A due retire order ends every session with every point
out-of-service and opens the rail; once the readings are stored the next boundary burns RETIRED, zeroises every slot but those of operator order
keys, and the hub restarts with cause 0x08. A due restart restarts the hub with cause 0x06 or 0x05, or is dropped with event 0x7105. nRESET stops
the hub with both SAFE_EN outputs low and cause 0x02. What is not due changes nothing. -/
def Obligations.LifeCycleBoundaries : Prop :=
  (∀ (p : LcPend) (i : Nat) (s : State), s.life.pend = some p → p.toState = 3 → p.effect ≤ s.clk.count → s.sen.mlSig = false →
    s.life.cond = .run → nextCell s 0x100 2048 0 = some i →
    Does .lifeCycleChange s [.gates, .life, .ev, .sen, .freeCtr] fun t =>
      t.life.pend = none ∧ burnt s i = false ∧ burnt t i = true ∧ sealCount t = sealCount s + 1 ∧ serviceCount t = serviceCount s ∧
        (lcCode s = 2 ∨ lcCode s = 4 → lcCode t = 3) ∧ t.life.digest = some (sealDigest s.img.recs) ∧ t.life.cond = .run ∧
        t.ev = (raise 0x6103 1 255 (sealCount s + 1) s).ev) ∧
  (∀ (p : LcPend) (i : Nat) (s : State), s.life.pend = some p → p.toState = 4 → p.effect ≤ s.clk.count → s.sen.mlSig = false →
    s.life.cond = .run → nextCell s 0x1000 2047 0 = some i →
    Does .lifeCycleChange s [.gates, .life, .ev, .sen, .freeCtr] fun t =>
      t.life.pend = none ∧ burnt s i = false ∧ burnt t i = true ∧ serviceCount t = serviceCount s + 1 ∧ sealCount t = sealCount s ∧
        (lcCode s = 3 → lcCode t = 4) ∧ t.life.digest = s.life.digest ∧ t.life.cond = .run ∧
        t.ev = (raise 0x6104 1 255 (serviceCount s + 1) s).ev) ∧
  (∀ s : State, (∀ p, s.life.pend = some p → s.clk.count < p.effect) → Idles .lifeCycleChange s) ∧
  (∀ (r : RstPend) (s : State), s.life.rst = some r → r.atKind = true → r.mark ≤ s.clk.count + 250 →
    Does .restartSessionFreeze s [.gates, .life, .freeCtr] fun t => t.life = { s.life with freeze := true }) ∧
  (∀ s : State, (∀ r, s.life.rst = some r → r.atKind = false ∨ s.clk.count + 250 < r.mark) → Idles .restartSessionFreeze s) ∧
  (∀ (p : LcPend) (s : State), s.life.pend = some p → p.toState = 5 → p.effect ≤ s.clk.count → s.sen.mlSig = false → s.life.cond = .run →
    Does .retireSequence s [.gates, .life, .keys, .ports, .met, .pmet, .safe, .psafe, .cp, .plc, .ses, .sesSys, .led, .recs, .ev, .sen, .freeCtr]
      fun t => t.life.pend = none ∧ t.life.rst = none ∧ t.life.retireAt = some s.clk.count ∧ t.life.retireRead = true ∧
        t.life.cells = s.life.cells ∧ RailOff t ∧ t.safe.railCause = 0x22 ∧
        (∀ i : Fin 32, s.cp[i].pst ≠ .absent → t.cp[i].pst = .outOfService)) ∧
  (∀ (b : Nat) (s : State), s.life.retireAt = some b → b < s.clk.count → s.life.retireRead = true → s.sen.mlSig = false →
    Does .retireCellBurn s restartParts fun t =>
      Restarted 8 t ∧ burnt t cellRetired = true ∧ lcCode t = 5 ∧ t.keys.rootCopy1 = false ∧ t.keys.rootCopy2 = false ∧
        (∀ k : Fin 64, t.keys.slots[k] = zeroiseSlot s.keys.slots[k]) ∧
        (∀ k : Fin 64, s.keys.slots[k].role ≠ 4 → t.keys.slots[k].status = .zeroised ∧ t.keys.slots[k].secret = 0) ∧
        t.ev.ring = (raise 0x6105 1 255 (lcCode s) s).ev.ring) ∧
  (∀ (r : RstPend) (s : State), s.life.rst = some r → s.life.retireAt = none → s.sen.mlSig = false → s.clk.started = true →
    restartNow r s = true → (r.gen = 0 ∨ inactiveHolds s r.gen = true) →
    Does .restartDue s ([.led, .recs] ++ restartParts) fun t =>
      Restarted (if r.gen ≠ 0 then 6 else 5) t ∧ t.life.cells = s.life.cells ∧ t.keys.slots = s.keys.slots) ∧
  (∀ (r : RstPend) (s : State), s.life.rst = some r → s.life.retireAt = none → s.sen.mlSig = false → s.clk.started = true →
    restartNow r s = true → r.gen ≠ 0 → inactiveHolds s r.gen = false →
    Does .restartDue s [.life, .ev, .sen] fun t =>
      t.life = { s.life with rst := none, freeze := false } ∧ t.ev = (raise 0x7105 1 255 2 s).ev) ∧
  (∀ s : State, s.elec.supplyOk = true → s.life.cond ≠ .dormant → s.sen.mlSig = false →
    Does .nresetAssert s ([.elec] ++ restartParts) fun t =>
      t.life.cond = .off ∧ t.life.cause = 2 ∧ t.life.cells = s.life.cells ∧ t.elec.nreset = false ∧ t.safe.a.armed = false ∧
        t.safe.b.armed = false ∧ t.safe.a.out = false ∧ t.safe.b.out = false ∧ ∀ i : Fin 32, t.ses[i] = {})

/-- 03 R86 to R88, R106, R115, R116; 09 R334: the start. With the test-port fuse intact the hub stops with every output off. Else steps S1 to S6
run: a RETIRED hub ends RETIRED, a hub whose self-test fails ends in NO-CONFIG, one that goes on has an image; a blank hub whose test passes
keys itself: KEYED is burnt, the identity key and both root copies are there, STARTS is 1. The SSMs arm at or after C0 + 63 when no hub
lock-out holds, ESTOP is released and the rail test reads as it should. RUN is entered at C0 + 64. -/
def Obligations.StartSequence : Prop :=
  (∀ (o : StartObs) (s : State), startOpen s = true → s.life.testFuseIntact = true →
    Does (.startSequence (.begin o)) s [.life, .safe] fun t =>
      t.life.cond = .stopped ∧ t.life.outputsOff = true ∧ t.life.cells = s.life.cells ∧ t.safe.a.out = false ∧ t.safe.b.out = false) ∧
  (∀ (o : StartObs) (s : State), startOpen s = true → s.life.testFuseIntact = false →
    Does (.startSequence (.begin o)) s ([.dlv, .led, .recs, .jrn, .elec, .freeCtr] ++ restartParts) fun t =>
      t.life.step = 6 ∧ t.elec.supplyOk = true ∧ t.elec.nreset = true ∧ t.sen.mlSig = false ∧
        (t.life.cond = .start ∨ t.life.cond = .noConfig ∨ t.life.cond = .retired) ∧
        (t.life.cond = .start → hasImage t = true ∧ t.life.bist ≠ 2) ∧
        (t.life.cond = .retired → lcCode t = 5) ∧
        (t.life.cond = .noConfig → t.life.nocfg = 1 ∨ t.life.nocfg = 2 ∨ t.life.nocfg = 3 ∨ t.life.nocfg = 4) ∧
        (s.life.cells = [] → s.life.treatRetired = false → o.keyFails < 3 → t.life.bist ≠ 2 →
          burnt t cellKeyed = true ∧ t.keys.rootCopy1 = true ∧ t.keys.rootCopy2 = true ∧ t.keys.slots[0].status = .loaded ∧
            t.keys.slots[0].alg = 0x10 ∧ t.life.starts = 1)) ∧
  (∀ (m : List (Bool × Bool)) (s : State), s.sen.mlSig = false → s.life.cond = .start → s.clk.started = true → 7 ≤ s.life.step →
    s.life.c0 + 63 ≤ s.clk.count → armed s = false → hubLock s = 0 → s.safe.estopA = true → s.safe.estopB = false → m = railTestGood →
    Does (.startSequence (.arm m)) s [.life, .safe, .psafe, .ev, .sen] fun t =>
      t.safe.a.armed = true ∧ t.safe.b.armed = true ∧ t.safe.a.out = true ∧ t.safe.b.out = true ∧ t.safe.railCause = 0 ∧ 9 ≤ t.life.step) ∧
  (∀ (b : Bool) (s : State), s.life.cond = .start → s.clk.started = true → s.clk.count = s.life.c0 + 64 → s.sen.mlSig = false →
    Does (.runEntry b) s [.gates, .life, .ports, .meas, .pmet, .cp, .plc, .pipes, .led, .recs, .tag, .phy, .lnk, .share, .epd, .ev, .sen, .jrn, .freeCtr]
      fun t => t.life.cond = .run ∧ t.life.step = 10 ∧ t.life.cells = s.life.cells ∧
        ∀ k : Fin 8, s.ports[k].st = .ready → t.ports[k].st = .admitted) ∧
  (∀ (b : Bool) (s : State), s.life.cond ≠ .start ∨ s.clk.count ≠ s.life.c0 + 64 → Idles (.runEntry b) s)

/-! ## Keys, orders that wait for a boundary (spec/04, spec/02 R69, spec/10 R357, spec/13 R457) -/

/-- 04 R139, R141; 21 R698; 02 R69; 10 R357, R358; 13 R457, R458; 12 R431: orders that set the time, the service state of points and the block list, and
what they do at their boundary. With a good signature an order whose content passes is held; one whose content is refused changes nothing but the
event that names the reason (0x7131, 0x4103, 0x5022); an unknown TYPE fails its framing check with event 0x6120. A time set gives SEN and the latch
the new time, and counts a clock-set tamper; service states due are in force; a block due enters the list and its tenant's sessions are to end with
reason 12. -/
def Obligations.OrdersThatWaitAndAct : Prop :=
  OrderActs .orderTimeSet [1] (fun _ => true) [.gates, .keys, .mbus, .lnk, .ev, .sen] (fun o s => timeSetReason (oPayload o) s) (fun o s t =>
    if timeSetReason (oPayload o) s = 0 then
      t.sen.pend = some { rtcS := fld (pWord (oPayload o) 0) 127 64, sub := fld (pWord (oPayload o) 0) 63 49,
                          refCount := fld (pWord (oPayload o) 1) 127 64, bnd := s.clk.bndTot }
    else t.sen.pend = s.sen.pend ∧ (o.src = .rdo → t.ev = (raise 0x7131 1 255 (timeSetReason (oPayload o) s) s).ev)) ∧
  OrderActs .orderPointService [2] (fun _ => true) [.gates, .keys, .cp, .mbus, .lnk, .ev, .sen] (fun o s => svcReason (oPayload o) s) (fun o s t =>
    if svcReason (oPayload o) s = 0 then
      ∀ i : Fin 32, t.cp[i] = if bitOf (fld (pWord (oPayload o) 0) 127 96) i.val then
        { s.cp[i] with svcPend := some (fld (pWord (oPayload o) 0) 95 88 == 1, effectAt s (fld (pWord (oPayload o) 0) 63 0)) } else s.cp[i]
    else t.cp = s.cp ∧ (o.src = .rdo → t.ev = (raise 0x4103 1 255 (svcReason (oPayload o) s) s).ev)) ∧
  OrderActs .orderTenantBlock [3] (fun _ => true) [.gates, .keys, .led, .mbus, .lnk, .ev, .sen] (fun o s => (blockOrder true (oPayload o) s).1)
    (fun o s t =>
      if (blockOrder true (oPayload o) s).1 = 0 then
        t.led = { s.led with blockPend := s.led.blockPend ++
          [(fld (pWord (oPayload o) 0) 127 112, true, effectAt s (fld (pWord (oPayload o) 0) 63 0))] }
      else t.led = s.led ∧ (o.src = .rdo → t.ev = (raise 0x5022 3 255 (2 ^ 24 + 3 * 2 ^ 16 + fld (pWord (oPayload o) 0) 127 112) s).ev)) ∧
  OrderActs .orderTenantUnblock [4] (fun _ => true) [.gates, .keys, .led, .mbus, .lnk, .ev, .sen] (fun o s => (blockOrder false (oPayload o) s).1)
    (fun o s t =>
      if (blockOrder false (oPayload o) s).1 = 0 then
        t.led = { s.led with blockPend := s.led.blockPend ++
          [(fld (pWord (oPayload o) 0) 127 112, false, effectAt s (fld (pWord (oPayload o) 0) 63 0))] }
      else t.led = s.led ∧ (o.src = .rdo → t.ev = (raise 0x5022 3 255 (2 ^ 24 + 4 * 2 ^ 16 + fld (pWord (oPayload o) 0) 127 112) s).ev)) ∧
  (∀ (o : OrderRec) (s : State), knownType (oType o) = false → validates s = true →
    Does (.orderUnknownType o) s [.gates, .mbus, .lnk, .ev, .sen] fun t =>
      t.gates.orderInlet = s.gates.orderInlet.erase o ∧
        (o.src = .rdo → s.mbus.ordTag = o.tag → t.mbus.ordResult = 11 ∧ t.mbus.ordReason = 1) ∧
        (o.src = .rdo → t.ev = (raise 0x6120 1 255 (2 ^ 24 + oType o * 2 ^ 16 + oAuth o * 2 ^ 8) s).ev)) ∧
  (∀ (p : TimeSet) (s : State), s.sen.pend = some p → s.sen.st ≠ .cold → setDue s = true → s.sen.mlSig = false →
    Does .timeSetApply s [.gates, .clk, .safe, .authSys, .led, .ev, .sen, .tamper, .freeCtr] fun t =>
      t.sen.pend = none ∧ t.sen.rtcValid = true ∧ t.sen.rtcS = setInstant p s / 32768 ∧ t.sen.rtcSub = setInstant p s % 32768 ∧
        t.clk.rtcS = t.sen.rtcS ∧ t.clk.rtcSub = t.sen.rtcSub ∧ t.clk.count = s.clk.count ∧
        t.tamper.clock = s.tamper.clock.hit (p.rtcS % 2 ^ 55, false)) ∧
  (∀ s : State, s.sen.pend = none → Idles .timeSetApply s) ∧
  (∀ s : State, Does .serviceStateApply s [.gates, .cp, .freeCtr] fun t =>
    ∀ i : Fin 32, t.cp[i] = match s.cp[i].svcPend with
      | some (st, c) => if c ≤ s.clk.count then { s.cp[i] with service := some st, svcPend := none } else s.cp[i]
      | none => s.cp[i]) ∧
  (∀ (ten c : Nat) (rest : List (Nat × Bool × Nat)) (s : State), s.led.blockPend = (ten, true, c) :: rest → c ≤ s.clk.count →
    (∀ e ∈ rest, s.clk.count < e.2.2) →
    Does .tenantBlockApply s [.gates, .psafe, .ses, .led, .ev, .sen, .freeCtr] fun t =>
      t.led.blocks = insertAsc ten s.led.blocks ∧ t.led.blockPend = rest ∧ t.gates.blockSnap = t.led.blocks ∧
        ∀ (i : Fin 32) (b : Binding), s.led.binds[i] = some b → b.tenant = ten → b.endReason = none → t.ses[i].ended = some 12) ∧
  (∀ (ten c : Nat) (rest : List (Nat × Bool × Nat)) (s : State), s.led.blockPend = (ten, false, c) :: rest → c ≤ s.clk.count →
    (∀ e ∈ rest, s.clk.count < e.2.2) →
    Does .tenantBlockApply s [.gates, .led, .ev, .sen, .freeCtr] fun t =>
      t.led.blocks = s.led.blocks.filter (· != ten) ∧ t.led.blockPend = rest ∧ t.gates.blockSnap = t.led.blocks ∧
        t.ev = (raise 0x5021 3 255 (ten + (if s.led.blocks.contains ten then 0 else 2 ^ 31)) s).ev)

/-- 04 R128, R129, R130, R144, R152: the operations of a key slot. A symmetric one gives its result at once, a derivation puts the tenant's key
into a transient slot within the quota, an asymmetric one becomes a job of the queue; one whose slot fails a condition of R129 is refused
with event 0x6121 and no result; a fifth job of a session stalls it. No operation changes a persistent slot or gives the material out. The
front job completes and its session goes on. (Cryptography is uninterpreted: log entry 9.) -/
def Obligations.KeySlotOperations : Prop :=
  (∀ (h : EngHalf) (n : Nat) (data : List Nat) (tag : Option Nat) (s : State), s.sen.mlSig = false →
    Does (.slotMac h n data tag) s [.keys, .ev, .sen] fun t =>
      if slotCond s h n .mac = 0 then
        t.ev = s.ev ∧ t.keys = { s.keys with
          result := some { owner := h, op := .mac, slot := n, reason := 0, data := tag.elim [Config.cmac (slotSecret s n) data] fun m => [b2n (Config.cmac (slotSecret s n) data == m)] } }
      else t.keys = { s.keys with result := some { owner := h, op := .mac, slot := n, reason := slotCond s h n .mac, data := [] } } ∧
        t.ev = (raise 0x6121 (halfId h) 255 (n * 2 ^ 24 + halfId h * 2 ^ 16 + 3 * 2 ^ 8 + slotCond s h n .mac) s).ev) ∧
  (∀ (h : EngHalf) (n : Nat) (data : List Nat) (s : State), s.sen.mlSig = false →
    Does (.slotEncrypt h n data) s [.keys, .ev, .sen] fun t =>
      if slotCond s h n .encrypt = 0 then
        t.ev = s.ev ∧ t.keys = { s.keys with result := some { owner := h, op := .encrypt, slot := n, reason := 0,
                                                              data := Config.encrypt (slotSecret s n) (keySlot s n).alg data } }
      else t.keys = { s.keys with result := some { owner := h, op := .encrypt, slot := n, reason := slotCond s h n .encrypt, data := [] } } ∧
        t.ev = (raise 0x6121 (halfId h) 255 (n * 2 ^ 24 + halfId h * 2 ^ 16 + 5 * 2 ^ 8 + slotCond s h n .encrypt) s).ev) ∧
  (∀ (h : EngHalf) (n : Nat) (data : List Nat) (s : State), s.sen.mlSig = false →
    Does (.slotDecrypt h n data) s [.keys, .ev, .sen] fun t =>
      if slotCond s h n .decrypt = 0 then
        t.ev = s.ev ∧ t.keys = { s.keys with result := some { owner := h, op := .decrypt, slot := n, reason := 0,
                                                              data := (Config.decrypt (slotSecret s n) (keySlot s n).alg data).elim [0] (1 :: ·) } }
      else t.keys = { s.keys with result := some { owner := h, op := .decrypt, slot := n, reason := slotCond s h n .decrypt, data := [] } } ∧
        t.ev = (raise 0x6121 (halfId h) 255 (n * 2 ^ 24 + halfId h * 2 ^ 16 + 4 * 2 ^ 8 + slotCond s h n .decrypt) s).ev) ∧
  (∀ (h : EngHalf) (n k ten : Nat) (win : Bool) (s : State), s.sen.mlSig = false → slotCond s h n .derive = 0 →
    transHeld s (halfEngine h) < transQuota (halfEngine h) → transFree s = some k →
    Does (.slotDerive h n win ten) s [.keys] fun t =>
      t.keys.slots = s.keys.slots ∧ t.keys.result = some { owner := h, op := .derive, slot := n, reason := 0, data := [k] } ∧
        t.keys.trans = s.keys.trans ++
          [{ num := k, owner := halfEngine h, kind := if win then .derived else .token, point := 255, key := tenantKey (slotSecret s n) win ten }]) ∧
  (∀ (op : SlotOp) (c : Instr) (h : EngHalf) (n p : Nat) (data : List Nat) (s : State), s.sen.mlSig = false →
    (op = .sign ∧ c = .slotSign h p n data) ∨ (op = .verify ∧ c = .slotVerify h p n data) ∨ (op = .agree ∧ c = .slotKeyAgreement h p n data) →
    (slotCond s h n op = 0 → s.keys.queue.length < 64 → (h = .ses → jobsOf s p < 4) →
      Does c s [.keys] fun t => t.keys = { s.keys with queue := queuePut { owner := h, point := p, op, slot := n, data } s.keys.queue }) ∧
    (slotCond s h n op = 0 → h = .ses → 4 ≤ jobsOf s p → ∀ i : Fin 32, i.val = p →
      Does c s [.keys, .ses, .sesSys, .ev, .sen] fun t => t.keys.queue = s.keys.queue ∧ t.ses[i].stalled = true) ∧
    (slotCond s h n op ≠ 0 → Does c s [.keys, .ev, .sen] fun t => t.keys.queue = s.keys.queue ∧ t.keys.slots = s.keys.slots ∧
      t.ev = (raise 0x6121 (halfId h) 255 (n * 2 ^ 24 + halfId h * 2 ^ 16 + usageBit op * 2 ^ 8 + slotCond s h n op) s).ev)) ∧
  (∀ (j : Job) (q : List Job) (s : State), s.keys.queue = j :: q →
    Does .cryptoJobDone s [.keys, .ses] fun t => t.keys.queue = q ∧ t.keys.slots = s.keys.slots ∧
      (∀ i : Fin 32, i.val = j.point → t.ses[i].stalled = false) ∧
      (j.op = .sign → t.keys.result =
        some { owner := j.owner, op := .sign, slot := j.slot, reason := 0, data := Config.ecdsaSign (slotSecret s j.slot) j.data 0 })) ∧
  (∀ s : State, s.keys.queue = [] → Idles .cryptoJobDone s)

/-- 04 R146, R155: a failed continuous test withholds the generator's output and runs the start-up tests again; one that passes reseeds it, the
third failure in a row stops it until the next start, with event 0x6131; a stopped generator stays as it is. -/
def Obligations.EntropySourceFailures : Prop :=
  (∀ (a : Bool) (n : Nat) (s : State), s.keys.drbgStopped = false → n = 0 ∨ s.keys.drbgFails + n < 3 →
    Does (.trngHealthFail a n) s [.keys, .ev, .sen] fun t =>
      t.keys = { s.keys with drbgHeld := false, drbgFails := 0, drbgReseeds := s.keys.drbgReseeds + 1 } ∧
        t.ev = (raise 0x6130 1 255 (if a then 2 else 1) s).ev) ∧
  (∀ (a : Bool) (n : Nat) (s : State), s.keys.drbgStopped = false → 0 < n → 3 ≤ s.keys.drbgFails + n →
    Does (.trngHealthFail a n) s [.keys, .ev, .sen] fun t =>
      t.keys.drbgStopped = true ∧ t.keys.drbgHeld = false ∧ t.keys.drbgReseeds = s.keys.drbgReseeds ∧ t.keys.slots = s.keys.slots ∧
        drbgOk t = false ∧ t.ev = (raise 0x6131 1 255 0 (raise 0x6130 1 255 (if a then 2 else 1) s)).ev) ∧
  (∀ (a : Bool) (n : Nat) (s : State), s.keys.drbgStopped = true → Idles (.trngHealthFail a n) s)

/-! ## Configuration image and delivery (spec/05) -/

/-- 05 R178 to R181, R184, R185: the four delivery orders. BEGIN opens a delivery into the slot that does not run, starts erasing, and
drops a pending restart with a non-zero EXPECT_GEN, event 0x7105 with reason 2; DATA
programs exactly its chunk, marks it, and leaves every other byte of the flash as it was, while a chunk already set changes nothing; END
starts the verification once every chunk is set; ABANDON closes the delivery with event 0x6147. A refused order sets DLV_REASON, writes
event 0x6144, and leaves flash and delivery as they were. The running image is never touched. -/
def Obligations.DeliveryOrders : Prop :=
  OrderActs .deliveryBegin [8] (fun o => dKind (oPayload o) == 0 || decide (3 < dKind (oPayload o)))
    [.gates, .life, .keys, .flash, .dlv, .mbus, .lnk, .ev, .sen] (fun o s => (dlvBegin (oPayload o) s).1) (fun o s t =>
      t.flash.mem = s.flash.mem ∧ t.life.cells = s.life.cells ∧
      if (dlvBegin (oPayload o) s).1 = 0 then
        t.dlv.state = .erasing ∧ t.dlv.id = payFld (oPayload o) 0 127 96 ∧ t.dlv.gen = payFld (oPayload o) 0 63 32 ∧
          t.dlv.len = payFld (oPayload o) 1 127 96 ∧ t.dlv.slot = dlvTarget s ∧ t.dlv.slotMap = [] ∧ t.dlv.assetMap = [] ∧
          t.flash.busy = some .dlvErase ∧ (∀ r, s.life.rst = some r → r.gen ≠ 0 → t.life.rst = none) ∧
          t.ev = (raise 0x6143 1 255 (payFld (oPayload o) 0 63 32) (raiseIf ((s.life.rst.map (·.gen)).getD 0 != 0) 0x7105 1 255 2
            (if s.dlv.id ≠ 0 ∧ s.dlv.state ≠ .idle then dlvAbandon s else s))).ev
      else t.dlv = { s.dlv with reason := (dlvBegin (oPayload o) s).1 } ∧ t.life = s.life ∧ t.flash = s.flash) ∧
  OrderActs .deliveryData [8] (fun o => dKind (oPayload o) == 1 || decide (3 < dKind (oPayload o)))
    [.gates, .keys, .flash, .dlv, .mbus, .lnk, .ev, .sen] (fun o s => (dlvData (oPayload o) s).1) (fun o s t =>
      memWf 0xFF#8 s.flash.mem = true →
      (∀ a : Nat, a < chunkBase (oPayload o) s ∨ chunkBase (oPayload o) s + (chunkData (oPayload o)).length ≤ a →
        memRead 0xFF#8 t.flash.mem a = memRead 0xFF#8 s.flash.mem a) ∧
      if (dlvData (oPayload o) s).1 = 0 then
        t.dlv.state = s.dlv.state ∧ t.dlv.id = s.dlv.id ∧
          (if payFld (oPayload o) 0 87 80 = 0 then dChunk (oPayload o) ∈ t.dlv.slotMap ∧ t.dlv.assetMap = s.dlv.assetMap
          else dChunk (oPayload o) ∈ t.dlv.assetMap ∧ t.dlv.slotMap = s.dlv.slotMap) ∧
          (dChunk (oPayload o) ∈ (if payFld (oPayload o) 0 87 80 = 0 then s.dlv.slotMap else s.dlv.assetMap) → t.flash = s.flash ∧ t.dlv = s.dlv) ∧
          (¬ dChunk (oPayload o) ∈ (if payFld (oPayload o) 0 87 80 = 0 then s.dlv.slotMap else s.dlv.assetMap) →
            ∀ k : Fin (chunkData (oPayload o)).length,
              memRead 0xFF#8 t.flash.mem (chunkBase (oPayload o) s + k.val) = BitVec.ofNat 8 ((chunkData (oPayload o))[k]))
      else t.dlv = { s.dlv with reason := (dlvData (oPayload o) s).1 } ∧ t.flash = s.flash) ∧
  OrderActs .deliveryEnd [8] (fun o => dKind (oPayload o) == 2 || decide (3 < dKind (oPayload o)))
    [.gates, .keys, .flash, .dlv, .mbus, .lnk, .ev, .sen] (fun o s => (dlvEnd (oPayload o) s).1) (fun o s t =>
      t.flash.mem = s.flash.mem ∧
      if (dlvEnd (oPayload o) s).1 = 0 then
        chunksAll s.dlv = true ∧ t.dlv = { s.dlv with state := .verifying } ∧ t.flash.busy = some .dlvVerify
      else t.dlv = { s.dlv with reason := (dlvEnd (oPayload o) s).1 } ∧ t.flash = s.flash) ∧
  OrderActs .deliveryAbandon [8] (fun o => dKind (oPayload o) == 3 || decide (3 < dKind (oPayload o)))
    [.gates, .keys, .flash, .dlv, .mbus, .lnk, .ev, .sen] (fun o s => (dlvDrop (oPayload o) s).1) (fun o s t =>
      t.flash.mem = s.flash.mem ∧
      if (dlvDrop (oPayload o) s).1 = 0 then
        t.dlv = { s.dlv with state := .idle, id := 0 } ∧ (o.src = .rdo → t.ev = (raise 0x6147 1 255 s.dlv.id s).ev)
      else t.dlv = { s.dlv with reason := (dlvDrop (oPayload o) s).1 } ∧ t.flash = s.flash)

/-- 05 R180, R181, R176, R177: the erasure leaves slot and write range reading 0xFF and every other byte as it was, and the delivery receives;
the verification ends VERIFIED only if the target slot passes every check with the GEN and the length of BEGIN, and changes no byte of
flash and nothing of the running image. An asset block whose reads fail twice is faulty, with event 0x6142 once, and served by its
fallback from then on. -/
def Obligations.DeliveryProgressAndAssets : Prop :=
  (∀ s : State, s.dlv.state = .erasing → s.sen.mlSig = false →
    Does .deliveryEraseDone s [.flash, .dlv] fun t =>
      t.dlv = { s.dlv with state := .receiving } ∧ t.flash.busy = none ∧
        ∀ a : Nat, memRead 0xFF#8 t.flash.mem a =
          if (slotBase s.dlv.slot ≤ a ∧ a < slotBase s.dlv.slot + 0x200000) ∨
             (assetBase + s.dlv.awOff ≤ a ∧ a < assetBase + s.dlv.awOff + s.dlv.awLen) then 0xFF#8
          else memRead 0xFF#8 s.flash.mem a) ∧
  (∀ s : State, s.dlv.state ≠ .erasing → Idles .deliveryEraseDone s) ∧
  (∀ (f : Bool) (s : State), s.dlv.state = .verifying → s.sen.mlSig = false →
    Does (.deliveryVerifyDone f) s [.img, .flash, .dlv, .ev, .sen] fun t =>
      (t.dlv.state = .verified ∨ t.dlv.state = .failed) ∧ t.flash.mem = s.flash.mem ∧ t.flash.busy = none ∧ t.img.recs = s.img.recs ∧
        t.img.slot = s.img.slot ∧ t.img.gen = s.img.gen ∧ t.dlv.id = s.dlv.id ∧
        (t.dlv.state = .verified → f = false ∧ (checkSlot s s.dlv.slot f true).reason = 0 ∧
          hGen (checkSlot s s.dlv.slot f true).hdr = s.dlv.gen ∧ hLen (checkSlot s s.dlv.slot f true).hdr = s.dlv.len ∧
          t.ev = (raise 0x6145 1 255 s.dlv.gen s).ev)) ∧
  (∀ (f : Bool) (s : State), s.dlv.state ≠ .verifying → Idles (.deliveryVerifyDone f) s) ∧
  (∀ (kind block fails : Nat) (s : State), hasImage s = true → block ∉ s.img.faulty → assetIn s block = true → fails < 2 →
    Does (.assetFetch kind block fails) s [.img] fun t => t.img = { s.img with fetched := some (block, true) }) ∧
  (∀ (kind block fails : Nat) (s : State), hasImage s = true → block ∉ s.img.faulty → assetIn s block = false ∨ 2 ≤ fails →
    Does (.assetFetch kind block fails) s [.img, .ev, .sen] fun t =>
      t.img = { s.img with fetched := some (block, false), faulty := insertAsc block s.img.faulty } ∧
        t.ev = (raise 0x6142 1 255 (kind * 2 ^ 24 + (s.img.aOff / 4096 + block) % 65536) s).ev) ∧
  (∀ (kind block fails : Nat) (s : State), hasImage s = true → block ∈ s.img.faulty →
    Does (.assetFetch kind block fails) s [.img] fun t => t.img = { s.img with fetched := some (block, false) })

/-! ## Point heads and point link (spec/06) -/

/-- 06 R196, R198, R207, R215 to R217, Tables 6.9 to 6.11: an upstream frame. A bad frame is counted as CRC error and changes nothing else; a
frame of an admitted head out of sequence counts as sequence error; an announcing or pairing frame of an admitted head loses it; a frame of
the configured length in sequence gives the hub its status block and one tick of every metered point of the head. A deadline that passes
without a frame is one missing tick of each of them: bridged up to the fourth in a row, a gap from the fifth on; the 64th in a row makes
the port SLOW. -/
def Obligations.UpstreamFrames : Prop :=
  (∀ (k : Fin 8) (ws : List W32) (f : Bool) (s : State), listens k s = true → upGood ws f = false →
    Does (.upstreamFrame k ws f) s [.ports] fun t =>
      t.ports = s.ports.set k { s.ports[k] with crcErr := inc32 s.ports[k].crcErr, crcCy := inc16 s.ports[k].crcCy }) ∧
  (∀ (k : Fin 8) (ws : List W32) (f : Bool) (s : State), listens k s = true → upGood ws f = true → portRuns s.ports[k] = true →
    upType ws ≠ 3 → seqOk s k (s.clk.tickTot - 2) ws = false →
    Does (.upstreamFrame k ws f) s [.ports] fun t =>
      t.ports = s.ports.set k { s.ports[k] with silence := 0, seqErr := inc32 s.ports[k].seqErr, seqCy := inc16 s.ports[k].seqCy }) ∧
  (∀ (k : Fin 8) (ws : List W32) (f : Bool) (s : State), listens k s = true → upGood ws f = true → portRuns s.ports[k] = true →
    upType ws = 3 →
    Does (.upstreamFrame k ws f) s [.ports, .meas, .pmet, .safe, .psafe, .cp, .plc, .pipes, .ses, .ev, .sen, .tamper] fun t => HeadGone k s t) ∧
  (∀ (k : Fin 8) (ws : List W32) (f : Bool) (s : State), listens k s = true → upGood ws f = true → portRuns s.ports[k] = true →
    upType ws ≠ 3 → seqOk s k (s.clk.tickTot - 2) ws = true → ws.length = lCfg s k.val →
    Does (.upstreamFrame k ws f) s [.ports, .meas, .pmet, .safe, .psafe, .cp, .plc, .pipes, .ses, .ev, .sen, .tamper, .freeCtr] fun t =>
      t.ports[k].st = s.ports[k].st ∧ t.ports[k].silence = 0 ∧ t.ports[k].statMiss = 0 ∧ t.ports[k].missRun = 0 ∧
        t.ports[k].usableRun = s.ports[k].usableRun + 1 ∧ t.ports[k].lastTick = some (s.clk.tickTot - 2) ∧
        t.ports[k].stat = (ws.drop (ws.length - 26 - tunWords s k.val)).take 24 ∧
        ∀ p : Fin 4, metered s (ptIdx k p) = true → t.pmet[ptIdx k p].buf.length = s.pmet[ptIdx k p].buf.length + 1) ∧
  (∀ (k : Fin 8) (s : State), listens k s = true → 3 ≤ s.clk.tickTot → s.ports[k].st = .admitted →
    (∀ l, s.ports[k].lastTick = some l → l < s.clk.tickTot - 3) →
    Does (.upstreamDeadline k) s [.ports, .meas, .pmet, .plc, .ses, .ev, .sen] fun t =>
      t.ports[k].lastTick = some (s.clk.tickTot - 3) ∧ t.ports[k].silence = s.ports[k].silence + 1 ∧
        t.ports[k].statMiss = s.ports[k].statMiss + 1 ∧ t.ports[k].missRun = s.ports[k].missRun + 1 ∧ t.ports[k].usableRun = 0 ∧
        t.ports[k].st = (if s.ports[k].missRun + 1 = 64 then .slow else .admitted) ∧
        ∀ p : Fin 4, metered s (ptIdx k p) = true →
          t.pmet[ptIdx k p].missRun = s.pmet[ptIdx k p].missRun + 1 ∧
            ∃ e ∈ t.pmet[ptIdx k p].buf.getLast?, e.tk = s.clk.tickTot - 3 ∧
              e.kind = if s.pmet[ptIdx k p].missRun + 1 ≤ 4 then .bridged else .gap) ∧
  (∀ (k : Fin 8) (l : Nat) (s : State), s.ports[k].lastTick = some l → s.clk.tickTot - 3 ≤ l → Idles (.upstreamDeadline k) s)

/-- 06 R206 to R208, R215 to R218, Table 6.9; 09 R299: the states of a port. An admitted or slow head is lost after 256 silent ticks or more than
500 cy in SLOW; one still pairing or testing goes back to DARK; SLOW ends with event 0x3012; 16 ticks without status stop its points; a
pairing, a self-test or a check step that fails leaves the port FAILED with its event; a check step that passes leads to the next, and after
the silence to READY. -/
def Obligations.PortStates : Prop :=
  (∀ (k : Fin 8) (s : State), 256 ≤ s.ports[k].silence → portRuns s.ports[k] = true →
    Does (.headSilenceLoss k) s [.ports, .meas, .pmet, .safe, .psafe, .cp, .plc, .pipes, .ses, .ev, .sen, .tamper] fun t => HeadGone k s t) ∧
  (∀ (k : Fin 8) (s : State), 256 ≤ s.ports[k].silence → s.ports[k].st = .pairing ∨ s.ports[k].st = .testing ∨ s.ports[k].st = .ready →
    Does (.headSilenceLoss k) s [.ports] fun t => t.ports[k].st = .dark ∧ t.ports[k].pairStep = 0 ∧ t.ports[k].silence = 0) ∧
  (∀ (k : Fin 8) (s : State), s.ports[k].silence < 256 → Idles (.headSilenceLoss k) s) ∧
  (∀ (k : Fin 8) (s : State), s.ports[k].st = .slow → 500 < s.ports[k].slowBnd →
    Does (.slowTimeout k) s [.ports, .meas, .pmet, .safe, .psafe, .cp, .plc, .pipes, .ses, .ev, .sen, .tamper] fun t => HeadGone k s t) ∧
  (∀ (k : Fin 8) (s : State), s.ports[k].st = .slow → s.ports[k].slowDone = true →
    Does (.slowEnd k) s [.gates, .ports, .meas, .ev, .sen, .freeCtr] fun t =>
      t.ports[k].st = .admitted ∧ t.ports[k].slowDone = false ∧ t.ev = (raise 0x3012 1 (4 * k.val) s.ports[k].slowBnd s).ev) ∧
  (∀ (k : Fin 8) (s : State), 16 ≤ s.ports[k].statMiss → portRuns s.ports[k] = true →
    Does (.statusMissingWithdraw k) s [.safe, .psafe, .cp] fun t =>
      ∀ p : Fin 4, Withdrawn (ptIdx k p) t ∧ t.psafe[ptIdx k p].statMiss = true) ∧
  (∀ (k : Fin 8) (s : State), s.ports[k].st = .pairing →
    Does (.pairingTimeout k) s [.ports, .ev, .sen] fun t => t.ports[k].st = .failed ∧ t.ports[k].pairStep = 0 ∧
      t.ev = (raise 0x6132 1 (4 * k.val) (k.val * 2 ^ 24 + (if s.ports[k].pairStep = 3 then 3 else 2) * 2 ^ 16) s).ev) ∧
  (∀ (k : Fin 8) (s : State), s.ports[k].st = .testing → s.ports[k].checkStep = 1 →
    Does (.headSelfTestTimeout k) s [.ports, .ev, .sen] fun t => t.ports[k].st = .failed ∧
      t.ev = (raise 0x3019 (0x20 + k.val) (4 * k.val) (bits (sWord s k 20) 23 16) s).ev) ∧
  (∀ (k : Fin 8) (s : State), s.ports[k].st = .testing → 2 ≤ s.ports[k].checkStep → s.ports[k].checkStep ≤ 4 → 8 ≤ s.ports[k].checkTk →
    Does (.checkStepEnd k) s [.ports, .ev, .sen] fun t =>
      if checkReport s k s.ports[k].checkStep then
        t.ports[k].st = .testing ∧ t.ports[k].checkStep = s.ports[k].checkStep + 1 ∧ t.ports[k].checkTk = 0 ∧ t.ev = s.ev
      else t.ports[k].st = .failed ∧ t.ev = (raise 0x301A 1 (4 * k.val) s.ports[k].checkStep s).ev) ∧
  (∀ (k : Fin 8) (s : State), s.ports[k].st = .testing → s.ports[k].checkStep = 5 → 20 ≤ s.ports[k].checkTk →
    Does (.checkStepEnd k) s [.ports, .ev, .sen] fun t =>
      if (headPts k).all (fun i => safeBit s i 5) && bits (sWord s k 22) 15 0 == satAdd 16 s.ports[k].fsBefore 1 then t.ports[k].st = .ready
      else t.ports[k].st = .failed ∧ t.ev = (raise 0x301A 1 (4 * k.val) 5 s).ev)

/-- 06 R200 to R206, R208, R219; 04 R145: the head itself. A valid RUN frame sets permission and commands of each point: a point is permitted
only if both token codes of the frame's tick stand in it and no local trip holds. A frame that is not valid changes no permission. A CHECK
frame evaluates tokens; a challenge ends every permission and is answered; a confirm pairs the head only if its MAC is right. (A local
trip that a withdrawing frame ends: log entry 24; the counting of bad frames: log entry 23.) -/
def Obligations.HeadFrames : Prop :=
  (∀ (k : Fin 8) (ws : List W32) (f : Bool) (g : Fin 16) (s : State), s.heads[k].on = true → s.heads[k].pair = .paired →
    dnType ws = 0 → headValid s.heads[k] ws f = true →
    Does (.headRunFrame k ws f g) s [.heads] fun t =>
      HeadTook ws s.heads[k] t.heads[k] ∧ t.heads[k].word9 = ws.getD 9 0 ∧ (∀ j : Fin 8, j ≠ k → t.heads[j] = s.heads[j]) ∧
        ∀ p : Fin 4, t.heads[k].pts[p].permit = (bothPermit ws p.val && !s.heads[k].pts[p].localTrip) ∧
          t.heads[k].pts[p].tokenBad = !bothPermit ws p.val ∧
          t.heads[k].pts[p].duty = bits (fw ws (3 + p.val / 2)) (16 * (p.val % 2) + 15) (16 * (p.val % 2)) ∧
          t.heads[k].pts[p].cpMode = bits (fw ws 5) (4 * p.val + 19) (4 * p.val + 16) ∧
          t.heads[k].pts[p].lock = bits (fw ws 5) (2 * p.val + 9) (2 * p.val + 8) ∧
          t.heads[k].pts[p].ind = bits (fw ws 6) (8 * p.val + 7) (8 * p.val)) ∧
  (∀ (k : Fin 8) (ws : List W32) (f : Bool) (g : Fin 16) (s : State), s.heads[k].on = true →
    dnType ws ≠ 0 ∨ headValid s.heads[k] ws f = false →
    Does (.headRunFrame k ws f g) s [.heads] fun t =>
      HeadMissed ws f s.heads[k] t.heads[k] ∧ ∀ j : Fin 8, j ≠ k → t.heads[j] = s.heads[j]) ∧
  (∀ (k : Fin 8) (ws : List W32) (f : Bool) (r : Option (Bool × Nat)) (s : State), s.heads[k].on = true → s.heads[k].pair = .paired →
    dnType ws = 2 → headValid s.heads[k] ws f = true →
    Does (.headCheckFrame k ws f r) s [.heads] fun t =>
      HeadTook ws s.heads[k] t.heads[k] ∧ t.heads[k].chk = dnStep ws ∧
        (∀ (pass : Bool) (faults : Nat), r = some (pass, faults) → dnStep ws = 1 → s.heads[k].selftest = 0 →
          t.heads[k].selftest = (if pass then 1 else 2) ∧ t.heads[k].faults = faults % 256) ∧
        ∀ p : Fin 4, t.heads[k].pts[p].permit = (bothPermit ws p.val && !s.heads[k].pts[p].localTrip) ∧
          t.heads[k].pts[p].tokenBad = !bothPermit ws p.val) ∧
  (∀ (k : Fin 8) (ws : List W32) (f : Bool) (nd hub : Nat) (s : State), s.heads[k].on = true → s.heads[k].pair = .unpaired →
    dnType ws = 1 → headValid s.heads[k] ws f = true → dnStep ws = 1 →
    Does (.headPairFrame k ws f nd hub) s [.heads] fun t =>
      HeadTook ws s.heads[k] t.heads[k] ∧ t.heads[k].pair = .challenged ∧ t.heads[k].step = 2 ∧ t.heads[k].slotLearnt = dnSlot ws ∧
        t.heads[k].mac = pairMac2 s.heads[k].pairKey (fw128 ws 4) (nd % 2 ^ 128) s.heads[k].serial (dnSlot ws) ∧
        ∀ p : Fin 4, t.heads[k].pts[p].permit = false) ∧
  (∀ (k : Fin 8) (ws : List W32) (f : Bool) (nd hub : Nat) (s : State), s.heads[k].on = true → s.heads[k].pair = .challenged →
    dnType ws = 1 → headValid s.heads[k] ws f = true → dnStep ws = 3 →
    Does (.headPairFrame k ws f nd hub) s [.heads] fun t =>
      HeadTook ws s.heads[k] t.heads[k] ∧ (∀ p : Fin 4, t.heads[k].pts[p].permit = false) ∧
        (if fw128 ws 4 = pairMac3 s.heads[k].pairKey s.heads[k].nonceH s.heads[k].nonceD hub then
          t.heads[k].pair = .paired ∧ t.heads[k].step = 4
        else t.heads[k].pair = .unpaired ∧ t.heads[k].step = 0xEE))

/-- 06 R206, R219; 10 R349, R367; 23 R791, R792; 07 R235: what befalls a head without a frame. Sixteen missing frames drop every permission, lock
command and pilot of a paired head and count one fail-safe withdrawal; 256 unpair it; a continuous lock drive is capped; a head that
loses its supply or is reset permits nothing, is unpaired and keeps only its serial and key. No other head is touched. -/
def Obligations.HeadAlone : Prop :=
  (∀ (k : Fin 8) (s : State), s.heads[k].on = true → s.heads[k].pair = .paired → s.heads[k].failsafe = false →
    Does (.headFailsafe k) s [.heads] fun t =>
      t.heads[k].failsafe = true ∧ t.heads[k].fsCount = inc16 s.heads[k].fsCount ∧ t.heads[k].pair = .paired ∧
        (∀ j : Fin 8, j ≠ k → t.heads[j] = s.heads[j]) ∧
        ∀ p : Fin 4, t.heads[k].pts[p].permit = false ∧ t.heads[k].pts[p].cpMode = 0 ∧ t.heads[k].pts[p].lock = 0 ∧ t.heads[k].pts[p].ind = 0) ∧
  (∀ (k : Fin 8) (s : State), s.heads[k].on = false ∨ s.heads[k].pair ≠ .paired ∨ s.heads[k].failsafe = true → Idles (.headFailsafe k) s) ∧
  (∀ (k : Fin 8) (s : State), s.heads[k].on = true → s.heads[k].pair ≠ .unpaired →
    Does (.headUnpairTimeout k) s [.heads] fun t =>
      t.heads[k].pair = .unpaired ∧ t.heads[k].step = 0 ∧ (∀ j : Fin 8, j ≠ k → t.heads[j] = s.heads[j]) ∧
        ∀ p : Fin 4, t.heads[k].pts[p].permit = false) ∧
  (∀ (i : Fin 32) (s : State), s.heads[slotOf i].on = true → s.heads[slotOf i].pts[posOf i].lock = 1 ∨ s.heads[slotOf i].pts[posOf i].lock = 2 →
    Does (.headLockDriveCap i) s [.heads] fun t =>
      t.heads = s.heads.set (slotOf i) { s.heads[slotOf i] with
        pts := s.heads[slotOf i].pts.set (posOf i) { s.heads[slotOf i].pts[posOf i] with lockCapped := true } }) ∧
  (∀ (k : Fin 8) (s : State), Does (.headSupplyLoss k) s [.heads, .hpipes] fun t =>
    t.heads = s.heads.set k { serial := s.heads[k].serial, pairKey := s.heads[k].pairKey, on := false } ∧ t.hpipes = s.hpipes.set k {}) ∧
  (∀ (k : Fin 8) (held : Bool) (s : State), Does (.headReset k held) s [.heads, .hpipes] fun t =>
    t.heads = s.heads.set k { serial := s.heads[k].serial, pairKey := s.heads[k].pairKey, on := !held } ∧ t.hpipes = s.hpipes.set k {}) ∧
  (∀ (k : Fin 8) (c : Fin 28) (fail : Bool) (s : State), s.heads[k].on = true →
    Does (.headExcDetect k c fail) s [.heads] fun t =>
      (c.val ∈ t.heads[k].exc ↔ fail = true) ∧ (∀ d : Nat, d ≠ c.val → (d ∈ t.heads[k].exc ↔ d ∈ s.heads[k].exc)) ∧
        t.heads[k].pts = s.heads[k].pts ∧ ∀ j : Fin 8, j ≠ k → t.heads[j] = s.heads[j])

/-! ## Measurement chain (spec/07) -/

/-- 07 R239, R241 to R247: the halo check. A step begins once at an epoch boundary and is numbered within its rotation. A comparison that passes puts
the home modulator back in service with no failure; one that fails makes it SUSPECT with event 0x2020 and asks the other spare to confirm; one with
fewer than 32 usable ticks says nothing against it. A confirmed failure retires the home modulator and, the hold cycle being clean, the spare serves
its channel in MODE 2 with event 0x2021; a confirmation that passes charges the spare that failed it, with event 0x2023. After three re-test passes
the channel returns to its home modulator with event 0x2022. No other head's measurement is touched. -/
def Obligations.HaloStepsAndSubstitution : Prop :=
  (∀ (k : Fin 8) (s : State), s.meas[k].halo.on = true → s.clk.count % 64 = 0 → s.clk.started = true →
    s.meas[k].halo.fresh = true ∨ s.meas[k].halo.stepAt ≠ s.clk.bndTot →
    Does (.haloStep k) s [.gates, .meas, .ev, .sen, .freeCtr] fun t =>
      t.meas[k].halo.stepAt = s.clk.bndTot ∧ t.meas[k].halo.fresh = false ∧ t.meas[k].chans = s.meas[k].chans ∧
        (∀ j : Fin 8, j ≠ k → t.meas[j] = s.meas[j]) ∧
        (if rotationDue (endStep s.meas[k].halo.retest 1 (endStep s.meas[k].halo.retest 0 s.meas[k].halo)) then
          t.meas[k].halo.step = 0 ∧ t.meas[k].halo.retest = true ∧
            t.meas[k].halo.rotation = (if s.meas[k].halo.fresh then 0 else inc32 s.meas[k].halo.rotation)
        else t.meas[k].halo.step = s.meas[k].halo.step + 1 ∧ t.meas[k].halo.retest = false ∧
          t.meas[k].halo.rotation = s.meas[k].halo.rotation)) ∧
  (∀ (k : Fin 8) (s : State), s.meas[k].halo.on = false ∨ s.clk.count % 64 ≠ 0 → Idles (.haloStep k) s) ∧
  (∀ (k : Fin 8) (x : Fin 2) (c : HaloCmp) (m ch : Nat) (s : State), s.meas[k].halo.slots[x].judge = some (m, ch, .step) →
    ch < 28 → m < 30 → m ≠ ch →
    Does (.haloJudge k x c) s [.meas, .ev, .sen] fun t =>
      t.meas[k].halo.slots[x].judge = none ∧ t.meas[k].chans = s.meas[k].chans ∧ (∀ j : Fin 8, j ≠ k → t.meas[j] = s.meas[j]) ∧
        (haloMod t.meas[k].halo ch).result = (haloResult c).1 ∧ (haloMod t.meas[k].halo m).result = (haloResult c).1 ∧
        ((haloResult c).1 = 1 ∨ (haloResult c).1 = 2 →
          (haloMod t.meas[k].halo ch).st = .inService ∧ (haloMod t.meas[k].halo ch).fails = 0 ∧ t.ev = s.ev) ∧
        ((haloResult c).1 = 3 →
          (haloMod t.meas[k].halo ch).st = .suspect ∧ (haloMod t.meas[k].halo ch).fails = 1 ∧
            t.meas[k].halo.confirm = s.meas[k].halo.confirm ++ [(ch, m)] ∧
            t.ev = (raise 0x2020 2 (chanPt k.val ch) (ch * 2 ^ 24 + m * 2 ^ 16 + (haloResult c).2 * 2 ^ 8 + 1) s).ev) ∧
        ((haloResult c).1 = 4 →
          (haloMod t.meas[k].halo ch).fails = (haloMod s.meas[k].halo ch).fails ∧ t.meas[k].halo.confirm = s.meas[k].halo.confirm ∧ t.ev = s.ev)) ∧
  (∀ (k : Fin 8) (x : Fin 2) (c : HaloCmp) (m ch : Nat) (s : State), s.meas[k].halo.slots[x].judge = some (m, ch, .retest) →
    ch < 28 → m < 30 → m ≠ ch →
    Does (.haloJudge k x c) s [.meas] fun t =>
      t.meas[k].halo.slots[x].judge = none ∧ (haloMod t.meas[k].halo ch).st = (haloMod s.meas[k].halo ch).st ∧
        (haloMod t.meas[k].halo ch).passes = (if (haloResult c).1 = 1 then min 3 ((haloMod s.meas[k].halo ch).passes + 1)
          else if (haloResult c).1 = 3 then 0 else (haloMod s.meas[k].halo ch).passes)) ∧
  (∀ (k : Fin 8) (x : Fin 2) (c : HaloCmp) (s : State), s.meas[k].halo.slots[x].judge = none → Idles (.haloJudge k x c) s) ∧
  (∀ (k : Fin 8) (x : Fin 2) (c : HaloCmp) (e : HaloSlot) (s : State), s.meas[k].halo.slots[x] = e → e.kind = .confirm → e.hold = true →
    e.swapDue = false → e.ch < 28 → e.mod < 30 → e.mod ≠ e.ch → (haloResult c).1 = 3 →
    Does (.haloConfirmHoldEnd k x c true) s [.gates, .meas, .ev, .sen, .freeCtr] fun t =>
      t.meas[k].halo.slots[x].mode = 2 ∧ t.meas[k].halo.slots[x].mod = e.mod ∧ t.meas[k].halo.slots[x].ch = e.ch ∧
        (haloMod t.meas[k].halo e.mod).serves = e.ch ∧ (haloMod t.meas[k].halo e.mod).st = .inService ∧
        (haloMod t.meas[k].halo e.ch).st = .retired ∧ (haloMod t.meas[k].halo e.ch).serves = 31 ∧
        ∀ j : Fin 8, j ≠ k → t.meas[j] = s.meas[j]) ∧
  (∀ (k : Fin 8) (x : Fin 2) (c : HaloCmp) (e : HaloSlot) (s : State), s.meas[k].halo.slots[x] = e → e.kind = .confirm → e.hold = true →
    e.swapDue = false → e.ch < 28 → e.mod < 30 → e.mod ≠ e.ch → (haloResult c).1 = 3 →
    Does (.haloConfirmHoldEnd k x c false) s [.gates, .meas, .ev, .sen, .freeCtr] fun t =>
      t.meas[k].halo.slots[x] = { e with swapDue := true, holdRep := 1 } ∧ (haloMod t.meas[k].halo e.ch).st = .retired ∧
        t.ev = (raise 0x2020 2 (chanPt k.val e.ch) (e.ch * 2 ^ 24 + e.mod * 2 ^ 16 + (haloResult c).2 * 2 ^ 8 + 2) s).ev) ∧
  (∀ (k : Fin 8) (x : Fin 2) (c : HaloCmp) (clean : Bool) (e : HaloSlot) (s : State), s.meas[k].halo.slots[x] = e → e.kind = .confirm →
    e.hold = true → e.swapDue = false → e.ch < 28 → e.mod < 30 → e.mod ≠ e.ch → e.failer < 30 → e.failer ≠ e.mod → e.failer ≠ e.ch →
    (haloResult c).1 = 1 ∨ (haloResult c).1 = 2 →
    Does (.haloConfirmHoldEnd k x c clean) s [.gates, .meas, .ev, .sen, .freeCtr] fun t =>
      t.meas[k].halo.slots[x].hold = false ∧ (haloMod t.meas[k].halo e.ch).st = .inService ∧ (haloMod t.meas[k].halo e.ch).fails = 0 ∧
        (haloMod t.meas[k].halo e.failer).fails = (haloMod s.meas[k].halo e.failer).fails + 1 ∧
        (haloMod t.meas[k].halo e.failer).st = (if 1 ≤ (haloMod s.meas[k].halo e.failer).fails then .retired else .suspect)) ∧
  (∀ (k : Fin 8) (x : Fin 2) (c : HaloCmp) (clean : Bool) (s : State), s.meas[k].halo.slots[x].kind ≠ .confirm ∨ s.meas[k].halo.slots[x].hold = false →
    Idles (.haloConfirmHoldEnd k x c clean) s) ∧
  (∀ (k : Fin 8) (x : Fin 2) (e : HaloSlot) (s : State), s.meas[k].halo.slots[x] = e → e.kind = .subst → e.ch < 28 → e.mod < 30 → e.mod ≠ e.ch →
    3 ≤ (haloMod s.meas[k].halo e.ch).passes →
    Does (.haloReturn k x) s [.gates, .meas, .ev, .sen, .freeCtr] fun t =>
      (haloMod t.meas[k].halo e.ch).st = .inService ∧ (haloMod t.meas[k].halo e.ch).serves = e.ch ∧ t.meas[k].halo.slots[x].mode = 1 ∧
        t.ev = (raise 0x2022 2 (chanPt k.val e.ch) (e.ch * 2 ^ 24 + e.ch * 2 ^ 16 + e.mod * 2 ^ 8) s).ev) ∧
  (∀ (k : Fin 8) (x : Fin 2) (s : State), s.meas[k].halo.slots[x].kind ≠ .subst → Idles (.haloReturn k x) s)

/-! ## Energy quantities and registers (spec/08) -/

/-- 08 R266, R267, R275: what a register holds. Each addition adds whole steps and carries the truncated remainder; after any number of additions
a register that has not saturated equals the exact sum of its amounts, truncated once. An addition that would carry it beyond its largest
value leaves that value and its sticky flag, and a saturated register takes no further additions. No addition touches another register. -/
def Obligations.RegistersAreExactSums : Prop :=
  (∀ (r : Fin 14) (l : List Rat) (t : RegSet), (∀ a ∈ l, 0 ≤ a) → (sumRat l * regUnit r.val).floor.toNat ≤ regMax r.val →
    t = l.foldl (fun t a => (addReg r a t).1) {} →
    t.regs[r] = (sumRat l * regUnit r.val).floor.toNat ∧ t.sat = [] ∧ 0 ≤ t.rem[r] ∧ t.rem[r] < 1 ∧
      (t.regs[r] : Rat) + t.rem[r] = sumRat l * regUnit r.val) ∧
  (∀ (r q : Fin 14) (a : Rat) (t : RegSet), q ≠ r → (addReg r a t).1.regs[q] = t.regs[q] ∧ (addReg r a t).1.rem[q] = t.rem[q]) ∧
  (∀ (r : Fin 14) (a : Rat) (t : RegSet), r.val ∉ t.sat → regMax r.val < t.regs[r] + (addReg r a t).2.1 →
    (addReg r a t).1.regs[r] = regMax r.val ∧ r.val ∈ (addReg r a t).1.sat ∧ (addReg r a t).2.2 = true) ∧
  (∀ (r : Fin 14) (a : Rat) (t : RegSet), r.val ∈ t.sat →
    (addReg r a t).1.regs = t.regs ∧ (addReg r a t).1.sat = t.sat ∧ (addReg r a t).2.2 = false)

/-- 08 R267, R268, R273, R275, R285: metering the oldest ended cycle. Every register of every point stays or rises and stays within its largest
value, a saturated one stays; ACT_IMP and ACT_EXP rise by exactly the increments that the result shows; what the gate publishes stands
until its boundary; of the two MRAM copies at most one is written, with the new set and the cycle's count. -/
def Obligations.MeteringNeverTakesBack : Prop :=
  (∀ (info : CycInfo) (rest : List CycInfo) (s : State), s.met.todo = info :: rest → s.met.closedOut = false → cycleArrived s info = true →
    Does .meterCycle s [.met, .pmet, .led, .ev, .sen] fun t =>
      t.met.todo = rest ∧
      ∀ i : Fin 32, t.pmet[i].res.count = info.count ∧ t.pmet[i].pub = s.pmet[i].pub ∧ t.pmet[i].pubRegs = s.pmet[i].pubRegs ∧
        (∀ r : Fin 14, s.pmet[i].set.regs[r] ≤ regMax r.val →
          s.pmet[i].set.regs[r] ≤ t.pmet[i].set.regs[r] ∧ t.pmet[i].set.regs[r] ≤ regMax r.val) ∧
        (∀ r : Fin 14, r.val ∈ s.pmet[i].set.sat → r.val ∈ t.pmet[i].set.sat ∧ t.pmet[i].set.regs[r] = s.pmet[i].set.regs[r]) ∧
        (0 ∉ s.pmet[i].set.sat → s.pmet[i].set.regs[0] + t.pmet[i].res.incImp ≤ regMax 0 →
          t.pmet[i].set.regs[0] = s.pmet[i].set.regs[0] + t.pmet[i].res.incImp) ∧
        (1 ∉ s.pmet[i].set.sat → s.pmet[i].set.regs[1] + t.pmet[i].res.incExp ≤ regMax 1 →
          t.pmet[i].set.regs[1] = s.pmet[i].set.regs[1] + t.pmet[i].res.incExp) ∧
        ((t.pmet[i].copyA = s.pmet[i].copyA ∧ t.pmet[i].copyB = s.pmet[i].copyB) ∨
          (t.pmet[i].copyA = { count := info.count, written := true, set := t.pmet[i].set } ∧ t.pmet[i].copyB = s.pmet[i].copyB) ∨
          (t.pmet[i].copyB = { count := info.count, written := true, set := t.pmet[i].set } ∧ t.pmet[i].copyA = s.pmet[i].copyA))) ∧
  (∀ s : State, s.met.todo = [] → Idles .meterCycle s)

/-! ## Safety functions (spec/09) -/

/-- 09 R290 to R293, R299, R300, R331: the rail. A pressed or discrepant ESTOP pair, SSMs that differ, and a sensing input that contradicts its
node each open the rail and lock the hub out with their cause, their event first and 0x1170 where the lock-out is new; a released pair is
only noted, and the rail stays as it is; an SSM whose clock stops drives its output low and permits nothing. -/
def Obligations.RailFaultsLockTheHub : Prop :=
  (∀ (a b : Bool) (s : State), ¬ (a = true ∧ b = false) →
    Does (.estopPressed a b) s [.safe, .psafe, .cp, .ev, .sen] fun t =>
      HubLocked 1 s t ∧ t.safe.estopA = a ∧ t.safe.estopB = b) ∧
  (∀ s : State, Does (.estopPressed true false) s [.safe] fun t =>
    t.safe = { s.safe with estopA := true, estopB := false, rstBad := s.safe.rstBad || s.safe.rstPulse }) ∧
  (∀ s : State, Does .estopReleased s [.safe, .ev, .sen] fun t =>
    t.safe = { s.safe with estopA := true, estopB := false } ∧ t.ev = (raise 0x1102 0x10 255 2 s).ev) ∧
  (∀ s : State, s.safe.estopA = s.safe.estopB →
    Does .estopDiscrepancy s [.safe, .psafe, .cp, .ev, .sen] fun t => HubLocked 2 s t) ∧
  (∀ s : State, s.safe.estopA ≠ s.safe.estopB → Idles .estopDiscrepancy s) ∧
  (∀ (p : Option (Fin 32)) (s : State), Does (.ssmDiscrepancy p) s [.safe, .psafe, .cp, .ev, .sen] fun t => HubLocked 3 s t) ∧
  (∀ (isB : Bool) (s : State), Does (.ssmClockStop isB) s [.safe] fun t =>
    (if isB then t.safe.b.out = false ∧ t.safe.b.clockOk = false ∧ t.safe.a.out = s.safe.a.out ∧ t.safe.a.opinion = s.safe.a.opinion
    else t.safe.a.out = false ∧ t.safe.a.clockOk = false ∧ t.safe.b.out = s.safe.b.out ∧ t.safe.b.opinion = s.safe.b.opinion) ∧
      (∀ i : Fin 32, permitted t i = false) ∧ t.safe.a.lockRec = s.safe.a.lockRec ∧ t.safe.b.lockRec = s.safe.b.lockRec) ∧
  (∀ (a b : Bool) (s : State), ¬ (a = s.safe.a.out ∧ b = (s.safe.a.out && s.safe.b.out)) →
    Does (.safeMonFault a b) s [.safe, .psafe, .cp, .ev, .sen] fun t => HubLocked 4 s t ∧ t.safe.monA = a ∧ t.safe.monB = b) ∧
  (∀ s : State, Idles (.safeMonFault s.safe.a.out (s.safe.a.out && s.safe.b.out)) s)

/-- 09 R299, R301 to R305, R313: the conditions that lock a point out: contactor feedback that contradicts itself or its command, a weld, residual
currents seen by the head or by the SSMs, a fault of fluxgate or low-side driver. A trip of the head also takes the head's own permission
away. Each touches its own point alone. -/
def Obligations.PointLockouts : Prop :=
  (∀ (i : Fin 32) (s : State), fbNo s i = fbNc s i →
    Does (.feedbackDiscrepancy i) s [.safe, .psafe, .cp, .ev, .sen] fun t => PointLocked i 0x10 0x1110 0x10 (fbArg s i) s t) ∧
  (∀ (i : Fin 32) (s : State), fbNo s i ≠ fbNc s i → Idles (.feedbackDiscrepancy i) s) ∧
  (∀ (i : Fin 32) (s : State), (lsOn s i = true ∧ ctrOpen s i = true) ∨ (lsOn s i = false ∧ ctrClosed s i = true) →
    Does (.feedbackAgainstCommand i) s [.safe, .psafe, .cp, .ev, .sen] fun t => PointLocked i 0x11 0x1111 0x10 (fbArg s i) s t) ∧
  (∀ (i : Fin 32) (s : State), 2 ≤ s.psafe[i].weldRun →
    Does (.weldDetected i) s [.safe, .psafe, .cp, .ev, .sen] fun t =>
      PointLocked i 0x12 0x1112 0x10 (hotVolts s i) s t ∧ t.psafe[i].weldHold = true) ∧
  (∀ (i : Fin 32) (s : State), s.psafe[i].weldRun < 2 → Idles (.weldDetected i) s) ∧
  (∀ (i : Fin 32) (idc : Nat) (s : State), 300 ≤ idc → s.heads[slotOf i].pts[posOf i].fgTst = false → s.heads[slotOf i].on = true →
    Does (.headDcTrip i idc) s [.heads, .safe, .psafe, .cp, .ev, .sen] fun t =>
      PointLocked i 0x13 0x1120 (0x20 + (slotOf i).val) (2 ^ 24 + min idc 65535) s t ∧
        t.heads[slotOf i].pts[posOf i].permit = false ∧ t.heads[slotOf i].pts[posOf i].localTrip = true ∧
        t.heads[slotOf i].pts[posOf i].dcTrip = true) ∧
  (∀ (i : Fin 32) (idc : Nat) (s : State), idc < 300 ∨ s.heads[slotOf i].pts[posOf i].fgTst = true → Idles (.headDcTrip i idc) s) ∧
  (∀ (i : Fin 32) (iac : Nat) (s : State), 300 ≤ iac → s.heads[slotOf i].on = true →
    Does (.headAcTrip i iac) s [.heads, .safe, .psafe, .cp, .ev, .sen] fun t =>
      PointLocked i 0x14 0x1121 (0x20 + (slotOf i).val) (2 ^ 24 + min iac 65535) s t ∧
        t.heads[slotOf i].pts[posOf i].permit = false ∧ t.heads[slotOf i].pts[posOf i].localTrip = true ∧
        t.heads[slotOf i].pts[posOf i].acTrip = true) ∧
  (∀ (i : Fin 32) (s : State), bitOf (cfg s 0x30 (slotOf i).val 0 35 32) (posOf i).val = true → s.heads[slotOf i].on = true →
    Does (.fluxgateFault i) s [.heads, .safe, .psafe, .cp, .ev, .sen] fun t =>
      PointLocked i 0x15 0x1122 (0x20 + (slotOf i).val) 0 s t ∧
        t.heads[slotOf i].pts[posOf i].permit = false ∧ t.heads[slotOf i].pts[posOf i].fgFault = true) ∧
  (∀ (i : Fin 32) (s : State), s.heads[slotOf i].on = true →
    Does (.lowSideDriverFault i) s [.heads, .safe, .psafe, .cp, .ev, .sen] fun t =>
      PointLocked i 0x17 0x1160 (0x20 + (slotOf i).val) 0 s t ∧
        t.heads[slotOf i].pts[posOf i].permit = false ∧ t.heads[slotOf i].pts[posOf i].lsFault = true) ∧
  (∀ (i : Fin 32) (s : State), 600 ≤ stIdc s i → rcFlag s i 1 = false →
    Does (.ssmDcBackup i) s [.safe, .psafe, .cp, .ev, .sen] fun t => PointLocked i 0x13 0x1120 0x10 (2 * 2 ^ 24 + stIdc s i) s t) ∧
  (∀ (i : Fin 32) (s : State), 10 * iacTrip s ≤ stIac s i → hasImage s = true →
    Does (.ssmAcTrip i) s [.safe, .psafe, .cp, .ev, .sen] fun t => PointLocked i 0x14 0x1121 0x10 (2 * 2 ^ 24 + stIac s i) s t)

/-- 09 R299, R306 to R311: the conditions that stop a point without lock-out, and how they end: a missing diode, a short of the pilot to PE, a
proximity fault, a lost lock, N-PE overvoltage of a head, over-temperature, a temperature input without excitation. -/
def Obligations.PointStopsAndTheirEnd : Prop :=
  (∀ (i : Fin 32) (s : State), s.cp[i].cpMode = 1 → s.cp[i].cpHi ≤ 10500 → -10500 ≤ s.cp[i].cpLo → s.psafe[i].missDiode = false →
    Does (.cpMissingDiode i) s [.safe, .psafe, .cp, .ev, .sen] fun t =>
      PointStopped i s t ∧ t.psafe[i].missDiode = true ∧ t.ev = (raise 0x1130 0x10 i.val (cpArg s i) s).ev) ∧
  (∀ (i : Fin 32) (s : State), s.cp[i].cpMode = 1 → -1500 ≤ s.cp[i].cpHi → s.cp[i].cpHi ≤ 1500 → s.psafe[i].shortPe = false →
    Does (.cpShortToPe i) s [.safe, .psafe, .cp, .ev, .sen] fun t =>
      PointStopped i s t ∧ t.psafe[i].shortPe = true ∧ t.ev = (raise 0x1131 0x10 i.val (cpArg s i) s).ev) ∧
  (∀ (i : Fin 32) (s : State), cableBand s.cp[i].pp = none ∨ cableBand s.cp[i].pp = some .none → permitted s i = true →
    ptTethered s i.val = false → s.psafe[i].proximity = false →
    Does (.proximityFault i) s [.safe, .psafe, .cp, .ev, .sen] fun t =>
      PointStopped i s t ∧ t.psafe[i].proximity = true ∧ t.ev = (raise 0x1132 0x10 i.val s.cp[i].pp s).ev) ∧
  (∀ (i : Fin 32) (s : State), permitted s i = true → ptTethered s i.val = false → lockFb s i = false → s.psafe[i].lockFb = false →
    Does (.lockFeedbackLost i) s [.safe, .psafe, .cp, .ev, .sen] fun t =>
      PointStopped i s t ∧ t.psafe[i].lockFb = true ∧ t.ev = (raise 0x1133 0x10 i.val 0 s).ev) ∧
  (∀ (i : Fin 32) (s : State), ptTethered s i.val = true → Idles (.proximityFault i) s ∧ Idles (.lockFeedbackLost i) s) ∧
  (∀ (k : Fin 8) (s : State), 2 ≤ s.safe.npeHi[k] → s.psafe[ptIdx k 0].npe = false →
    Does (.npeOvervoltage k) s [.safe, .psafe, .cp, .ev, .sen] fun t =>
      (∀ p : Fin 4, Withdrawn (ptIdx k p) t ∧ t.psafe[ptIdx k p].npe = true) ∧
        (∀ i : Fin 32, slotOf i ≠ k → t.psafe[i] = s.psafe[i] ∧ t.cp[i] = s.cp[i] ∧ permitted t i = permitted s i) ∧
        t.ev = (raise 0x1140 0x10 (4 * k.val) (unpeV s k) s).ev) ∧
  (∀ (k : Fin 8) (s : State), 250 ≤ s.safe.npeLo[k] → s.psafe[ptIdx k 0].npe = true →
    Does (.npeCleared k) s [.psafe, .ev, .sen] fun t =>
      (∀ p : Fin 4, t.psafe[ptIdx k p].npe = false) ∧ (∀ i : Fin 32, slotOf i ≠ k → t.psafe[i] = s.psafe[i]) ∧
        t.ev = (raise 0x1141 0x10 (4 * k.val) 0 s).ev) ∧
  (∀ (i : Fin 32) (s : State), 2 ≤ s.psafe[i].t2Run → s.psafe[i].t2 = false →
    Does (.t2Stop i) s [.safe, .psafe, .cp, .ev, .sen] fun t =>
      PointStopped i s t ∧ t.psafe[i].t2 = true ∧ t.ev = (raise 0x1152 0x10 i.val (satTwos 32 (s.psafe[i].temp.getD 0)) s).ev) ∧
  (∀ (i : Fin 32) (s : State), 3000 ≤ s.psafe[i].t2Low → s.psafe[i].t2 = true →
    Does (.t2Cleared i) s [.psafe, .ev, .sen] fun t =>
      PointCleared i s t ∧ t.psafe[i].t2 = false ∧ t.ev = (raise 0x1153 0x10 i.val (satTwos 32 (s.psafe[i].temp.getD 0)) s).ev) ∧
  (∀ (i : Fin 32) (b : Bool) (s : State), ptFitted s (slotOf i) (2 * (posOf i).val + b2n b) = true →
    stPt s (slotOf i) (2 * (posOf i).val + b2n b) = 0x8000 → s.psafe[i].ptExc = false →
    Does (.ptExcitationFault i b) s [.safe, .psafe, .cp, .ev, .sen] fun t =>
      PointStopped i s t ∧ t.psafe[i].ptExc = true ∧ t.ev = (raise 0x1154 0x10 i.val (2 * (posOf i).val + b2n b) s).ev) ∧
  (∀ (i : Fin 32) (s : State), (∀ k : Fin 2, ptFitted s (slotOf i) (2 * (posOf i).val + k.val) = true →
      stPt s (slotOf i) (2 * (posOf i).val + k.val) ≠ 0x8000) → s.psafe[i].ptExc = true →
    Does (.ptExcitationClear i) s [.psafe] fun t => PointCleared i s t ∧ t.psafe[i].ptExc = false)

/-- 09 R295 to R298; 10 R355, R363: how a contactor comes to close and to open. A request is accepted only under the conditions of R295 and
starts the pre-closure test; a passed test leads to CLOSING, the second failed one in a row locks the point out with cause 0x16; only the
closing mark, with the conditions still holding, makes both tokens permit and the point CHARGING; an open request is due at the next
boundary. -/
def Obligations.ClosingAndOpening : Prop :=
  (∀ (i : Fin 32) (s : State), mayAsk s i = true → closeHolds s i = true → s.psafe[i].st = .opened →
    Does (.closeRequest i) s [.psafe, .cp] fun t =>
      t.psafe[i].st = .testing ∧ t.psafe[i].testLeft = 40 ∧ t.psafe[i].testAt = s.clk.count ∧ t.psafe[i].idcTest = [] ∧
        t.cp[i].closeReq = true ∧ OtherPoints i s t ∧ permitted t i = permitted s i) ∧
  (∀ (i : Fin 32) (s : State), mayAsk s i = false ∨ closeHolds s i = false ∨ s.psafe[i].st ≠ .opened → Idles (.closeRequest i) s) ∧
  (∀ (i : Fin 32) (s : State), s.psafe[i].st = .testing → s.psafe[i].testLeft = 0 →
    700 ≤ meanIdc s.psafe[i].idcTest → meanIdc s.psafe[i].idcTest ≤ 1300 → rcFlag s i 3 = false → rcFlag s i 2 = true → closeHolds s i = true →
    Does (.preclosureTestEnd i) s [.psafe] fun t =>
      t.psafe[i].st = .closing ∧ t.psafe[i].test = 1 ∧ t.psafe[i].attempts = 0 ∧ OtherPoints i s t) ∧
  (∀ (i : Fin 32) (s : State), s.psafe[i].st = .testing → s.psafe[i].testLeft = 0 →
    meanIdc s.psafe[i].idcTest < 700 ∨ 1300 < meanIdc s.psafe[i].idcTest ∨ rcFlag s i 3 = true ∨ rcFlag s i 2 = false →
    Does (.preclosureTestEnd i) s [.safe, .psafe, .cp, .ev, .sen] fun t =>
      t.cp[i].closeReq = false ∧ t.psafe[i].test = 2 ∧ OtherPoints i s t ∧
        (if s.psafe[i].attempts = 1 then
          PointLocked i 0x16 0x1123 0x10 (2 * 2 ^ 24 + meanIdc s.psafe[i].idcTest % 65536) s t ∧ t.psafe[i].attempts = 0
        else t.psafe[i].st = .opened ∧ t.psafe[i].attempts = s.psafe[i].attempts + 1 ∧
          t.ev = (raise 0x1123 0x10 i.val (2 ^ 24 + meanIdc s.psafe[i].idcTest % 65536) s).ev)) ∧
  (∀ (i : Fin 32) (s : State), s.psafe[i].st = .closing → s.psafe[i].testAt + 2 ≤ s.clk.count → closeHolds s i = true → mayAsk s i = true →
    Does (.closingMark i) s [.safe, .psafe, .cp] fun t =>
      permitted t i = true ∧ t.psafe[i].st = .closed ∧ t.cp[i].pst = .charging ∧ OtherPoints i s t) ∧
  (∀ (i : Fin 32) (s : State), s.psafe[i].st = .closing → s.psafe[i].testAt + 2 ≤ s.clk.count → closeHolds s i = false ∨ mayAsk s i = false →
    Does (.closingMark i) s [.safe, .psafe, .cp] fun t => Withdrawn i t ∧ t.psafe[i].st = .opened ∧ OtherPoints i s t) ∧
  (∀ (i : Fin 32) (s : State), s.psafe[i].st ≠ .closing ∨ s.clk.count < s.psafe[i].testAt + 2 → Idles (.closingMark i) s) ∧
  (∀ (i : Fin 32) (s : State), s.psafe[i].st = .testing ∨ s.psafe[i].st = .closing ∨ s.psafe[i].st = .closed →
    Does (.openRequest i) s [.psafe] fun t => t.psafe = s.psafe.set i { s.psafe[i] with openDue := true })

/-- 09 R314, R315, R322, R323, R329, R334: reset and rail test. A pulse of 0.1 s to 3 s in both measurements is accepted, any other is refused with
event 0x1173; at the boundary after an accepted one every lock-out whose condition is absent is cleared and every other stands, and where
no hub lock-out stays or re-arming was asked for the SSMs arm if ESTOP is released and the rail test reads as it should. The daily test
passes, or fails with a hub lock-out of cause 0x04; after 168 h without one event 0x1206 says so. -/
def Obligations.ResetAndRailTest : Prop :=
  (∀ s : State, Does .rstReqRise s [.safe] fun t => t.safe = { s.safe with rstReq := true, rstPulse := true, rstBad := false }) ∧
  (∀ (a b : Bool) (s : State), s.safe.rstPulse = true →
    Does (.estopPressed a b) s [.safe, .psafe, .cp, .ev, .sen] fun t => t.safe.rstPulse = true ∧ t.safe.rstBad = true) ∧
  (∀ (a b : Nat) (s : State), s.safe.rstPulse = true → pulseOk a = true → pulseOk b = true → s.safe.rstBad = false →
    Does (.rstReqFall a b) s [.safe] fun t =>
      t.safe = { s.safe with rstReq := false, rstPulse := false, rstBad := false, rstDue := true, resets := inc32 s.safe.resets }) ∧
  (∀ (a b : Nat) (s : State), s.safe.rstPulse = true → pulseOk a = false ∨ pulseOk b = false ∨ s.safe.rstBad = true →
    Does (.rstReqFall a b) s [.safe, .ev, .sen] fun t =>
      t.safe = { s.safe with rstReq := false, rstPulse := false, rstBad := false, refused := inc32 s.safe.refused } ∧
        t.ev = (raise 0x1173 0x10 255 (if pulseOk a ≠ pulseOk b then 0xFFFFFFFF else min (a / 1000) 0xFFFFFFFE) s).ev) ∧
  (∀ (m : List (Bool × Bool)) (s : State), s.safe.rstDue = true →
    Does (.lockoutReset m) s [.safe, .psafe, .cp, .ev, .sen] fun t =>
      t.safe.rstDue = false ∧
        (∀ i : Fin 32, lockCause t i = if lockCause s i ≠ 0 ∧ ptCondHolds s i (lockCause s i) = true then lockCause s i else 0) ∧
        (hubLock s ≠ 0 → hubCondHolds s (hubLock s) = true → hubLock t = hubLock s ∧ t.safe.a.armed = s.safe.a.armed) ∧
        (hubLock s ≠ 0 → hubCondHolds s (hubLock s) = false → s.safe.estopA = true → s.safe.estopB = false → m = railTestGood →
          hubLock t = 0 ∧ armed t = true ∧ t.safe.a.out = true ∧ t.safe.b.out = true ∧ t.safe.railCause = 0)) ∧
  (∀ (m : List (Bool × Bool)) (s : State), s.safe.rstDue = false → Idles (.lockoutReset m) s) ∧
  (∀ (s : State), s.safe.testDue = true → armed s = true → (∀ i : Fin 32, permitted s i = false) →
    Does (.railTest railTestGood) s [.safe, .ev, .sen] fun t =>
      t.safe = { s.safe with testCount := s.clk.count, testRtc := s.clk.rtcS, testDue := false, overdue := false } ∧
        t.ev = (raise 0x1205 0x10 255 (testHours s) s).ev) ∧
  (∀ (m : List (Bool × Bool)) (s : State), s.safe.testDue = true → armed s = true → (∀ i : Fin 32, permitted s i = false) → m ≠ railTestGood →
    hubLock s = 0 →
    Does (.railTest m) s [.safe, .psafe, .cp, .ev, .sen] fun t => HubLocked 4 s t ∧ t.safe.testDue = false) ∧
  (∀ (m : List (Bool × Bool)) (i : Fin 32) (s : State), s.safe.testDue = false ∨ armed s = false ∨ permitted s i = true → Idles (.railTest m) s) ∧
  (∀ s : State, 604800 < s.clk.rtcS - s.safe.testRtc → s.safe.overdue = false →
    Does .railTestOverdue s [.safe, .ev, .sen] fun t =>
      t.safe = { s.safe with overdue := true } ∧ t.ev = (raise 0x1206 0x10 255 (testHours s) s).ev)

/-! ## Pilot, lock and point state (spec/10) -/

/-- 10 R342, R344, R348, R355, R360: what a head's reports move. A CP_HI that lies at least 300 mV beyond the band of the present state while the
pilot is a level or a duty becomes the band's state and acts at the end of the cycle, any other changes nothing; supplies out of range give
every point of the head the generator fault, and within range take it back; a proximity code is adopted on a socket point, with event
0x4109 where the contactor is closed, and a value outside every band makes it invalid. -/
def Obligations.PilotReportsMoveThePoint : Prop :=
  (∀ (i : Fin 32) (s : State), s.cp[i].cpMode < 2 → s.cp[i].pst ≠ .absent → cpBand s.cp[i].cpHi ≠ s.cp[i].cp →
    cpLeaves s.cp[i].cp s.cp[i].cpHi = true →
    Does (.cpStateChange i) s [.cp] fun t =>
      t.cp = s.cp.set i { s.cp[i] with cp := cpBand s.cp[i].cpHi, cpPend := some (cpBand s.cp[i].cpHi) }) ∧
  (∀ (i : Fin 32) (s : State), 2 ≤ s.cp[i].cpMode ∨ s.cp[i].pst = .absent ∨ cpBand s.cp[i].cpHi = s.cp[i].cp ∨
    cpLeaves s.cp[i].cp s.cp[i].cpHi = false → Idles (.cpStateChange i) s) ∧
  (∀ (k : Fin 8) (s : State), portRuns s.ports[k] = true → vcpOk s k = false →
    Does (.generatorFault k) s [.cp] fun t =>
      ∀ i : Fin 32, t.cp[i] = if slotOf i = k then { s.cp[i] with genFault := true } else s.cp[i]) ∧
  (∀ (k : Fin 8) (s : State), portRuns s.ports[k] = true → vcpOk s k = true →
    Does (.generatorFaultClear k) s [.cp] fun t =>
      ∀ i : Fin 32, t.cp[i] = if slotOf i = k then { s.cp[i] with genFault := false } else s.cp[i]) ∧
  (∀ (k : Fin 8) (s : State), portRuns s.ports[k] = true → vcpOk s k = true → Idles (.generatorFault k) s) ∧
  (∀ (k : Fin 8) (s : State), portRuns s.ports[k] = true → vcpOk s k = false → Idles (.generatorFaultClear k) s) ∧
  (∀ (i : Fin 32) (c : Cable) (s : State), ptTethered s i.val = false → hasPoint s i.val = true → cableBand s.cp[i].pp = some c →
    s.cp[i].cable ≠ c →
    Does (.cableCodeAdopt i) s [.cp, .ev, .sen] fun t =>
      t.cp = s.cp.set i { s.cp[i] with cable := c } ∧
        t.ev = (raiseIf (ctrClosed s i) 0x4109 4 i.val (cableAmps c) s).ev) ∧
  (∀ (i : Fin 32) (s : State), ptTethered s i.val = false → hasPoint s i.val = true → cableBand s.cp[i].pp = none →
    Does (.cableCodeInvalid i) s [.cp] fun t => t.cp = s.cp.set i { s.cp[i] with cable := .invalid }) ∧
  (∀ (i : Fin 32) (s : State), ptTethered s i.val = true → Idles (.cableCodeAdopt i) s ∧ Idles (.cableCodeInvalid i) s)

/-- 10 R349, R350, R355, R356, R364: the drives of a socket lock and a point's way back. A target reached is followed by the brake; one not reached in
time writes event 0x4104 and ends the drive, and after the last drive toward it the point has a lock fault, which 50 cycles that report unlocked end
with event 0x4106. An out-of-service point becomes AVAILABLE once no cause and no fault holds, state A has stood for 50 cycles and a socket is unlocked,
with event 0x4101, and not before; a ceiling below 6.0 A pauses a charging point, whose contactor is asked to open at the next boundary. -/
def Obligations.LocksReturnAndPause : Prop :=
  (∀ (i : Fin 32) (s : State), driving s.cp[i] = true → lockFb s i = decide (s.cp[i].lockDir = 1) →
    Does (.lockTargetReached i) s [.cp] fun t =>
      t.cp = s.cp.set i { s.cp[i] with lockDir := 0, lockTry := 0, lockPend := 3, lockPendOn := true }) ∧
  (∀ (i : Fin 32) (s : State), driving s.cp[i] = false ∨ lockFb s i ≠ decide (s.cp[i].lockDir = 1) → Idles (.lockTargetReached i) s) ∧
  (∀ (i : Fin 32) (s : State), driving s.cp[i] = true → lockFb s i ≠ decide (s.cp[i].lockDir = 1) →
    s.cp[i].lockTry < (if s.cp[i].lockDir = 2 then 3 else 2) →
    Does (.lockDriveTimeout i) s [.cp, .ev, .sen] fun t =>
      t.cp = s.cp.set i { s.cp[i] with lockPend := 0, lockPendOn := true } ∧
        t.ev = (raise 0x4104 4 i.val (s.cp[i].lockDir * 2 ^ 24 + s.cp[i].lockTry) s).ev) ∧
  (∀ (i : Fin 32) (s : State), driving s.cp[i] = true → lockFb s i ≠ decide (s.cp[i].lockDir = 1) →
    (if s.cp[i].lockDir = 2 then 3 else 2) ≤ s.cp[i].lockTry →
    Does (.lockDriveTimeout i) s [.cp, .ev, .sen] fun t =>
      t.cp[i].lockFault = s.cp[i].lockDir ∧ t.cp[i].lockDir = 0 ∧ t.cp[i].lockPend = 0 ∧ t.cp[i].lockPendOn = true ∧ t.cp[i].pst = s.cp[i].pst ∧
        OtherPoints i s t ∧ t.ev = (raise 0x4104 4 i.val (s.cp[i].lockDir * 2 ^ 24 + s.cp[i].lockTry) s).ev) ∧
  (∀ (i : Fin 32) (s : State), driving s.cp[i] = false → Idles (.lockDriveTimeout i) s) ∧
  (∀ (i : Fin 32) (s : State), s.cp[i].lockDir ≠ 0 → s.cp[i].lockCmd = 0 → s.cp[i].lockPendOn = false → s.cp[i].lockTry ≠ 0 →
    s.sen.mlSig = false →
    Does (.lockRetry i) s [.cp] fun t => t.cp = s.cp.set i { s.cp[i] with lockPend := s.cp[i].lockDir, lockPendOn := true }) ∧
  (∀ (i : Fin 32) (s : State), s.sen.mlSig = true → Idles (.lockRetry i) s) ∧
  (∀ (i : Fin 32) (s : State), s.cp[i].lockFault ≠ 0 → 50 ≤ s.cp[i].lockFaultRun →
    Does (.lockFaultClear i) s [.psafe, .cp, .ev, .sen] fun t =>
      t.cp[i].lockFault = 0 ∧ t.psafe[i].lockFb = false ∧ OtherPoints i s t ∧ t.ev = (raise 0x4106 4 i.val 0 s).ev ∧
        t.cp[i].pst = (if s.cp[i].pst = .fault ∧ s.cp[i].pilotFault = false ∧ s.cp[i].genFault = false then .outOfService else s.cp[i].pst)) ∧
  (∀ (i : Fin 32) (s : State), s.cp[i].lockFault = 0 ∨ s.cp[i].lockFaultRun < 50 → Idles (.lockFaultClear i) s) ∧
  (∀ (i : Fin 32) (s : State), s.cp[i].pst = .outOfService → oosCause s i = 0 → s.cp[i].aRun = 50 →
    (ptTethered s i.val = true ∨ lockFb s i = false) → s.cp[i].pilotFault = false → s.cp[i].genFault = false → s.cp[i].lockFault = 0 →
    Does (.pointReturnToService i) s [.cp, .ev, .sen] fun t =>
      t.cp[i].pst = .available ∧ t.cp[i].pstAt = s.clk.count ∧ t.cp[i].returns = inc32 s.cp[i].returns ∧ OtherPoints i s t ∧
        t.ev = (raise 0x4101 4 i.val (min (s.clk.bndTot - s.cp[i].outSince) (2 ^ 32 - 1)) s).ev) ∧
  (∀ (i : Fin 32) (s : State), s.cp[i].pst ≠ .outOfService ∨ oosCause s i ≠ 0 ∨ s.cp[i].aRun ≠ 50 ∨
    (ptTethered s i.val = false ∧ lockFb s i = true) ∨ s.cp[i].pilotFault = true ∨ s.cp[i].genFault = true ∨ s.cp[i].lockFault ≠ 0 →
    Idles (.pointReturnToService i) s) ∧
  (∀ (i : Fin 32) (s : State), s.cp[i].pst = .charging → s.cp[i].ceil < 60 →
    Does (.ceilingPause i) s [.psafe, .cp] fun t =>
      t.cp[i].pst = .paused ∧ t.cp[i].pstAt = s.clk.count ∧ OtherPoints i s t ∧
        (s.psafe[i].st = .closed → t.psafe = s.psafe.set i { s.psafe[i] with openDue := true })) ∧
  (∀ (i : Fin 32) (s : State), s.cp[i].pst ≠ .charging ∨ 60 ≤ s.cp[i].ceil → Idles (.ceilingPause i) s)

/-! ## Power-line link to the vehicle (spec/11) -/

/-- 11 R371 to R373, R378, R379, R381, R392: a powered, paired head takes the messages of its tunnel. A message of an MPDU that 11 R378 allows
takes a transmit buffer; a long one, or one of another size, is reported with RESULT 4, one whose tick has passed with RESULT 3; a filter
within its ranges is loaded carrier by carrier and the others stay; NET sets the network, and clearing it reports every buffered MPDU with
RESULT 5 and its TAG; an MPDU from the vehicle that is a broadcast or belongs to the network is forwarded, the ninth is dropped and
counted; a transmission that ended is reported with its TAG and leaves its buffer. No other point and no pipe is touched. -/
def Obligations.HeadTakesTunnelMessages : Prop :=
  (∀ (i : Fin 32) (d : Nat) (b : List (BitVec 8)) (s : State), headUp s i = true → (pbCount (bits d 33 32) b.length).isSome = true →
    bitOf d 34 = false → (headPlc s i).tx.length < 8 →
    Does (.headTxMpdu i d b false) s [.hpipes] fun t =>
      headPlc t i = { headPlc s i with tx := (headPlc s i).tx ++ [{ desc := d, body := b }] } ∧ OtherHeadPlc i s t) ∧
  (∀ (i : Fin 32) (d : Nat) (b : List (BitVec 8)) (long : Bool) (s : State), headUp s i = true →
    long = true ∨ pbCount (bits d 33 32) b.length = none →
    Does (.headTxMpdu i d b long) s [.hpipes] fun t =>
      headPlc t i = { headPlc s i with up := (headPlc s i).up ++
        [txReport s.heads[slotOf i].rxTick (bits d 47 40) 0 4 (8 - (headPlc s i).tx.length)] } ∧ OtherHeadPlc i s t) ∧
  (∀ (i : Fin 32) (d : Nat) (b : List (BitVec 8)) (s : State), headUp s i = true → (pbCount (bits d 33 32) b.length).isSome = true →
    bitOf d 34 = true → 32768 ≤ (bits d 63 48 + 65536 - s.heads[slotOf i].rxTick) % 65536 →
    Does (.headTxMpdu i d b false) s [.hpipes] fun t =>
      headPlc t i = { headPlc s i with up := (headPlc s i).up ++
        [txReport s.heads[slotOf i].rxTick (bits d 47 40) 0 3 (8 - (headPlc s i).tx.length)] } ∧ OtherHeadPlc i s t) ∧
  (∀ (i : Fin 32) (d : Nat) (g : List Nat) (s : State), headUp s i = true → 74 ≤ bits d 63 48 → g ≠ [] → g.length = bits d 47 32 →
    bits d 63 48 + bits d 47 32 ≤ 1229 → (∀ c ∈ g, c ≤ 81) → -12 ≤ ofTwos 8 (bits d 31 24) → ofTwos 8 (bits d 31 24) ≤ 6 →
    Does (.headTxFilter i d g) s [.hpipes] fun t =>
      (headPlc t i).trim = ofTwos 8 (bits d 31 24) ∧ (headPlc t i).filt.length = 1155 ∧
        (∀ c < g.length, (headPlc t i).filt[bits d 63 48 + c - 74]? = g[c]?) ∧
        (∀ c < 1155, (headPlc s i).filt.length = 1155 → 74 + c < bits d 63 48 ∨ bits d 63 48 + g.length ≤ 74 + c →
          (headPlc t i).filt[c]? = (headPlc s i).filt[c]?) ∧ OtherHeadPlc i s t) ∧
  (∀ (i : Fin 32) (d : Nat) (g : List Nat) (s : State), headUp s i = true →
    bits d 63 48 < 74 ∨ g.length ≠ bits d 47 32 ∨ 1229 < bits d 63 48 + bits d 47 32 → Idles (.headTxFilter i d g) s) ∧
  (∀ (i : Fin 32) (d : Nat) (s : State), headUp s i = true → bitOf d 35 = true →
    Does (.headNetSet i d) s [.heads, .hpipes, .freeCtr] fun t =>
      headPlc t i = { headPlc s i with tei := bits d 47 40, snid := bits d 39 36, valid := true } ∧ OtherHeadPlc i s t) ∧
  (∀ (i : Fin 32) (d : Nat) (s : State), headUp s i = true → bitOf d 35 = false →
    Does (.headNetSet i d) s [.heads, .hpipes, .freeCtr] fun t =>
      (headPlc t i).valid = false ∧ (headPlc t i).tx = [] ∧ OtherHeadPlc i s t ∧
        ((headPlc t i).up.map fun m => (bits m.desc 47 40, bits m.desc 35 32)) =
          ((headPlc s i).up.map fun m => (bits m.desc 47 40, bits m.desc 35 32)) ++ (headPlc s i).tx.map fun m => (bits m.desc 47 40, 5)) ∧
  (∀ (i : Fin 32) (tk lv mode sn te : Nat) (bc : Bool) (b : List (BitVec 8)) (n : Nat) (s : State), pbCount mode b.length = some n →
    headUp s i = true → bc = true ∨ ((headPlc s i).valid = true ∧ sn = (headPlc s i).snid ∧ te = (headPlc s i).tei) →
    (headPlc s i).rx.length < 8 →
    Does (.headMpduReceived i tk lv mode bc sn te b true) s [.hpipes] fun t =>
      headPlc t i = { headPlc s i with
        rx := (headPlc s i).rx ++ [{ desc := rxDesc i tk lv n mode s, body := b }]
        up := (headPlc s i).up ++ [{ desc := rxDesc i tk lv n mode s, body := b }]
        drops := 0
        sack := if bc then (headPlc s i).sack else some true } ∧ OtherHeadPlc i s t) ∧
  (∀ (i : Fin 32) (tk lv mode sn te : Nat) (b : List (BitVec 8)) (s : State), (pbCount mode b.length).isSome = true →
    headUp s i = true → (headPlc s i).valid = true → sn = (headPlc s i).snid → te = (headPlc s i).tei → 8 ≤ (headPlc s i).rx.length →
    Does (.headMpduReceived i tk lv mode false sn te b true) s [.hpipes] fun t =>
      headPlc t i = { headPlc s i with drops := satAdd 8 (headPlc s i).drops 1, sack := some false } ∧ OtherHeadPlc i s t) ∧
  (∀ (i : Fin 32) (tk lv mode sn te : Nat) (b : List (BitVec 8)) (good : Bool) (s : State),
    (headPlc s i).valid = false ∨ sn ≠ (headPlc s i).snid ∨ te ≠ (headPlc s i).tei → Idles (.headMpduReceived i tk lv mode false sn te b good) s) ∧
  (∀ (i : Fin 32) (tk : Nat) (a : Fin 8) (r : Fin 4) (m : Mpdu) (ms : List Mpdu) (s : State), headUp s i = true →
    (headPlc s i).tx = m :: ms → r.val < 2 ∨ bits m.desc 39 37 ≤ a.val →
    Does (.headTxComplete i tk a r) s [.hpipes] fun t =>
      headPlc t i = { headPlc s i with
        tx := ms, up := (headPlc s i).up ++ [txReport tk (bits m.desc 47 40) (a.val + 1) r.val (8 - ms.length)] } ∧ OtherHeadPlc i s t) ∧
  (∀ (i : Fin 32) (tk : Nat) (a : Fin 8) (r : Fin 4) (s : State), (headPlc s i).tx = [] → Idles (.headTxComplete i tk a r) s)

/-- 11 R383 to R387: the receive pipes. In the head, a swap or a return starts the new pipe shadowing and the handover gives it the point; a pipe
that serves no point may be tested, and passes with 32 frames and a level within 2 dB of 55 dB below the reference. In the hub, the rotation
asks for the next swap at its boundary, and a report moves its pipe: a pass brings a tested or suspect pipe back, the first failure makes it
SUSPECT with event 0x9041, the second retires it with 0x9042, and three passes in a row bring a retired one back with 0x9043. -/
def Obligations.PipesAreTestedInRotation : Prop :=
  (∀ (i : Fin 32) (s : State), headUp s i = true → s.hpipes[slotOf i].spareFor = 7 → s.hpipes[slotOf i].handTo = none →
    s.hpipes[slotOf i].testing = none →
    Does (.headPipeSwap i) s [.hpipes] fun t =>
      t.hpipes = s.hpipes.set (slotOf i) { s.hpipes[slotOf i] with handTo := some 4, handPt := (posOf i).val }) ∧
  (∀ (i : Fin 32) (s : State), headUp s i = true → s.hpipes[slotOf i].spareFor = (posOf i).val → s.hpipes[slotOf i].handTo = none →
    Does (.headPipeReturn i) s [.hpipes] fun t =>
      t.hpipes = s.hpipes.set (slotOf i) { s.hpipes[slotOf i] with handTo := some (posOf i).val, handPt := (posOf i).val }) ∧
  (∀ (k : Fin 8) (p : Nat) (s : State), s.hpipes[k].handTo = some p →
    Does (.headPipeHandover k) s [.hpipes] fun t =>
      t.hpipes = s.hpipes.set k { s.hpipes[k] with spareFor := if p = 4 then s.hpipes[k].handPt else 7, handTo := none, handPt := 7 }) ∧
  (∀ (i : Fin 32) (p : Fin 5) (s : State), headUp s i = true → pipeServes s.hpipes[slotOf i] p.val = false →
    s.hpipes[slotOf i].testing = none →
    Does (.headPipeTest i p) s [.hpipes] fun t =>
      t.hpipes = s.hpipes.set (slotOf i) { s.hpipes[slotOf i] with testing := some (p.val, (posOf i).val) }) ∧
  (∀ (i : Fin 32) (p : Fin 5) (s : State), pipeServes s.hpipes[slotOf i] p.val = true → Idles (.headPipeTest i p) s) ∧
  (∀ (k : Fin 8) (n : Fin 33) (lv tk : Nat) (p : Fin 5) (q : Fin 4) (s : State), s.hpipes[k].testing = some (p.val, q.val) →
    Does (.headPipeTestDone k n lv tk) s [.hpipes] fun t =>
      t.hpipes[k].testing = none ∧ t.hpipes[k].ok = s.hpipes[k].ok.set p (decide (n.val = 32) && decide (530 ≤ lv) && decide (lv ≤ 570)) ∧
        (headPlc t (ptIdx k q)).up = (headPlc s (ptIdx k q)).up ++
          [{ desc := tk % 65536 * 2 ^ 48 + (if n.val = 32 ∧ 530 ≤ lv ∧ lv ≤ 570 then 1 else 2) * 2 ^ 32 + n.val * 2 ^ 24 + p.val * 2 ^ 8 + 0x12,
             body := [] }] ∧ (∀ j : Fin 8, j ≠ k → t.hpipes[j] = s.hpipes[j])) ∧
  (∀ (k : Fin 8) (p : Fin 4) (s : State), s.pipes[k].on = true → s.pipes[k].stepPipe = 7 → s.pipes[k].spareFor = 7 →
    spareReady s k = true → s.pipes[k].idx = p.val + 1 → (pipeOf s k p.val).st = .inService → s.plc[ptIdx k p].slac ≠ .sounding →
    s.plc[ptIdx k p].slac ≠ .waitAtten →
    Does (.pipeStep k) s [.gates, .ports, .pipes, .freeCtr] fun t =>
      t.pipes = s.pipes.set k { s.pipes[k] with idx := (p.val + 2) % 5, stepPipe := p.val, testSent := false, spareFor := p.val } ∧
        t.ports = (rxControl (ptIdx k p) 1 0 s).ports) ∧
  (∀ (k : Fin 8) (s : State), s.pipes[k].on = false ∨ s.pipes[k].stepPipe ≠ 7 → Idles (.pipeStep k) s) ∧
  (∀ (k : Fin 8) (p : Fin 5) (s : State), s.pipes[k].on = true → (pipeOf s k p.val).st = .retired →
    (pipeOf s k p.val).retestAt + 1024 ≤ s.clk.bndTot → (p.val = 4 ∨ s.pipes[k].spareFor = p.val) →
    Does (.pipeRetest k p) s [.ports, .pipes] fun t =>
      pipeOf t k p.val = { pipeOf s k p.val with retestAt := s.clk.bndTot } ∧
        t.ports = (rxControl (ptIdx k ((fin? 4 p.val).getD 0)) 3 p.val s).ports ∧ (∀ j : Fin 8, j ≠ k → t.pipes[j] = s.pipes[j])) ∧
  (∀ (k : Fin 8) (p : Fin 5) (s : State), (pipeOf s k p.val).st ≠ .retired ∨ s.clk.bndTot < (pipeOf s k p.val).retestAt + 1024 →
    Idles (.pipeRetest k p) s) ∧
  (∀ (k : Fin 8) (d : Nat) (p : Fin 5) (s : State), bits d 15 8 = p.val → s.pipes[k].on = true →
    (pipeOf s k p.val).st = .underTest ∨ (pipeOf s k p.val).st = .suspect → bits d 39 32 = 1 →
    Does (.pipeTestReport k d) s [.plc, .pipes, .ev, .sen] fun t =>
      (pipeOf t k p.val).st = (if p.val = 4 then .spare else .inService) ∧ (pipeOf t k p.val).fails = 0 ∧ t.ev = s.ev ∧
        (s.pipes[k].spareFor = p.val → t.pipes[k].returnDue = true) ∧ ∀ j : Fin 8, j ≠ k → t.pipes[j] = s.pipes[j]) ∧
  (∀ (k : Fin 8) (d : Nat) (p : Fin 5) (s : State), bits d 15 8 = p.val → s.pipes[k].on = true → (pipeOf s k p.val).st = .underTest →
    bits d 39 32 ≠ 1 →
    Does (.pipeTestReport k d) s [.plc, .pipes, .ev, .sen] fun t =>
      (pipeOf t k p.val).st = .suspect ∧ (pipeOf t k p.val).fails = 1 ∧ t.plc = s.plc ∧
        t.ev = (raise 0x9041 4 (4 * k.val) (p.val * 2 ^ 24 + bits d 31 24) s).ev) ∧
  (∀ (k : Fin 8) (d : Nat) (p : Fin 5) (s : State), bits d 15 8 = p.val → s.pipes[k].on = true → (pipeOf s k p.val).st = .suspect →
    bits d 39 32 ≠ 1 →
    Does (.pipeTestReport k d) s [.plc, .pipes, .ev, .sen] fun t =>
      (pipeOf t k p.val).st = .retired ∧ (pipeOf t k p.val).retestAt = s.clk.bndTot ∧ t.plc = s.plc ∧
        t.ev = (raise 0x9042 4 (4 * k.val) (p.val * 2 ^ 24) s).ev) ∧
  (∀ (k : Fin 8) (d : Nat) (p : Fin 5) (s : State), bits d 15 8 = p.val → s.pipes[k].on = true → (pipeOf s k p.val).st = .retired →
    bits d 39 32 = 1 →
    Does (.pipeTestReport k d) s [.plc, .pipes, .ev, .sen] fun t =>
      if 2 ≤ (pipeOf s k p.val).passes then
        (pipeOf t k p.val).st = (if p.val = 4 then .spare else .inService) ∧ t.ev = (raise 0x9043 4 (4 * k.val) (p.val * 2 ^ 24) s).ev
      else (pipeOf t k p.val).st = .retired ∧ (pipeOf t k p.val).passes = (pipeOf s k p.val).passes + 1 ∧ t.ev = s.ev)

/-- 11 R374, R376, R379, R380, R390: what SES does with the reports of the tunnel. A received MPDU frees its buffer in the head, and the first
drop of a run writes event 0x4205; a sound report of the run is kept, at most ten; a transmit report lets the count fall, and writes event
0x4206 where it failed; a beacon is counted at even counts while the network is set, and none is sent otherwise. -/
def Obligations.SesTakesTunnelReports : Prop :=
  (∀ (i : Fin 32) (d : Nat) (b : List (BitVec 8)) (s : State), portRuns s.ports[slotOf i] = true →
    Does (.rxMpdu i d b) s [.plc, .hpipes, .ev, .sen] fun t =>
      headPlc t i = { headPlc s i with rx := (headPlc s i).rx.drop 1, up := (headPlc s i).up.drop 1 } ∧
        t.plc[i].rx = (if s.ses[i].stalled then s.plc[i].rx ++ [{ desc := d, body := b }] else []) ∧
        t.ev = (raiseIf (decide (bits d 31 24 ≠ 0) && s.plc[i].dropQuiet.isNone) 0x4205 4 i.val (bits d 31 24) s).ev ∧
        OtherHeadPlc i s t ∧ OtherPoints i s t) ∧
  (∀ (i : Fin 32) (d : Nat) (b : List (BitVec 8)) (s : State), portRuns s.ports[slotOf i] = false → Idles (.rxMpdu i d b) s) ∧
  (∀ (i : Fin 32) (tk : Nat) (a : List Nat) (s : State), s.plc[i].slac = .sounding → s.plc[i].sounds.length < 10 →
    Does (.soundReport i tk a) s [.plc, .hpipes] fun t =>
      t.plc = s.plc.set i { s.plc[i] with
        sounds := s.plc[i].sounds ++ [{ tick := tk % 65536, atten := (List.range 58).map fun g => min 255 (a.getD g 0) }] } ∧
        (headPlc t i).up = (headPlc s i).up.drop 1) ∧
  (∀ (i : Fin 32) (tk : Nat) (a : List Nat) (s : State), s.plc[i].slac ≠ .sounding ∨ 10 ≤ s.plc[i].sounds.length →
    Does (.soundReport i tk a) s [.hpipes] fun t => (headPlc t i).up = (headPlc s i).up.drop 1) ∧
  (∀ (i : Fin 32) (d : Nat) (s : State), s.plc[i].held = [] →
    Does (.txReport i d) s [.plc, .hpipes, .ev, .sen] fun t =>
      t.plc = s.plc.set i { s.plc[i] with txCount := s.plc[i].txCount - 1 } ∧ (headPlc t i).up = (headPlc s i).up.drop 1 ∧
        t.ev = (raiseIf (decide (2 ≤ bits d 35 32)) 0x4206 4 i.val (bits d 35 32 * 2 ^ 24 + bits d 47 40 * 2 ^ 16) s).ev) ∧
  (∀ (i : Fin 32) (s : State), s.clk.count % 2 = 0 → s.plc[i].netValid = true →
    Does (.hpgpBeacon i) s [.ports, .plc] fun t => t.plc[i].beacons = s.plc[i].beacons + 1 ∧ OtherPoints i s t) ∧
  (∀ (i : Fin 32) (s : State), s.clk.count % 2 = 1 ∨ s.plc[i].netValid = false → Idles (.hpgpBeacon i) s)

/-- 11 R375, R388, R389, R391: the matching as it should go. CM_SLAC_PARM.REQ starts the sounding of a RunID and CM_START_ATTEN_CHAR.IND counts in
it; the end of the window gives every group the mean of the reports, a wait without answer resends it at most three times, an answer without
error leads to the match, the match draws keys and a network that is not the last one, and a vehicle that joins makes the link MATCHED with
event 0x4201. A request outside the state that expects it, or with another RunID, moves nothing. -/
def Obligations.SlacMatching : Prop :=
  (∀ (i : Fin 32) (r m : Nat) (s : State), slacServed s i = true → s.plc[i].slac = .waitParm →
    Does (.cmSlacParmReq i r m 0) s [.ports, .plc] fun t =>
      t.plc[i].slac = .sounding ∧ t.plc[i].runId = r ∧ t.plc[i].mac = m % 2 ^ 48 ∧ t.plc[i].sounds = [] ∧ t.plc[i].startSeen = 0 ∧
        t.plc[i].slacMsgs = .parmCnf :: s.plc[i].slacMsgs ∧ OtherPoints i s t) ∧
  (∀ (i : Fin 32) (r m k : Nat) (s : State), slacServed s i = false ∨ k ≠ 0 → Idles (.cmSlacParmReq i r m k) s) ∧
  (∀ (i : Fin 32) (s : State), slacServed s i = true → s.plc[i].slac = .sounding →
    Does (.cmStartAttenCharInd i s.plc[i].runId) s [.plc] fun t =>
      t.plc = s.plc.set i { s.plc[i] with startSeen := s.plc[i].startSeen + 1 }) ∧
  (∀ (i : Fin 32) (r : Nat) (s : State), s.plc[i].slac ≠ .sounding ∨ s.plc[i].runId ≠ r → Idles (.cmStartAttenCharInd i r) s) ∧
  (∀ (i : Fin 32) (s : State), slacServed s i = true → s.plc[i].slac = .sounding → s.plc[i].sounds ≠ [] →
    (s.plc[i].startSeen ≠ 0 ∨ 10 ≤ s.plc[i].sounds.length) →
    Does (.slacSoundWindowEnd i) s [.ports, .plc] fun t =>
      t.plc[i].slac = .waitAtten ∧ t.plc[i].sends = 1 ∧ t.plc[i].slacMsgs = .attenInd :: s.plc[i].slacMsgs ∧ OtherPoints i s t ∧
        t.plc[i].attenInd = (List.range 58).map fun g => roundMean (s.plc[i].sounds.map fun r => r.atten.getD g 0)) ∧
  (∀ (i : Fin 32) (s : State), slacServed s i = true → s.plc[i].slac = .sounding → s.plc[i].sounds = [] → s.plc[i].startSeen ≠ 0 →
    Does (.slacSoundWindowEnd i) s [.ports, .plc, .freeCtr] fun t =>
      t.plc[i].slac = .waitAtten ∧ t.plc[i].sends = 1 ∧ t.plc[i].attenInd.length = 58 ∧ OtherPoints i s t) ∧
  (∀ (i : Fin 32) (s : State), slacServed s i = true → s.plc[i].slac = .waitAtten →
    Does (.cmAttenCharRsp i s.plc[i].runId 0) s [.plc] fun t => t.plc = s.plc.set i { s.plc[i] with slac := .waitMatch }) ∧
  (∀ (i : Fin 32) (r k : Nat) (s : State), s.plc[i].slac ≠ .waitAtten ∨ s.plc[i].runId ≠ r ∨ k ≠ 0 → Idles (.cmAttenCharRsp i r k) s) ∧
  (∀ (i : Fin 32) (s : State), slacServed s i = true → s.plc[i].slac = .waitAtten → s.plc[i].sends < 3 →
    Does (.cmAttenCharResend i) s [.ports, .plc] fun t =>
      t.plc[i].sends = s.plc[i].sends + 1 ∧ t.plc[i].slac = .waitAtten ∧ t.plc[i].attenInd = s.plc[i].attenInd ∧
        t.plc[i].slacMsgs = .attenInd :: s.plc[i].slacMsgs ∧ OtherPoints i s t) ∧
  (∀ (i : Fin 32) (s : State), slacServed s i = true → s.plc[i].slac = .waitMatch → drbgOk s = true →
    Does (.cmSlacMatchReq i s.plc[i].runId 0) s [.ports, .plc, .freeCtr] fun t =>
      t.plc[i].slac = .waitJoin ∧ t.plc[i].netValid = true ∧ t.plc[i].snid < 16 ∧ (s.plc[i].snid < 16 → t.plc[i].snid ≠ s.plc[i].snid) ∧
        t.plc[i].nmk = Config.freeValue s.freeCtr % 2 ^ 128 ∧ t.plc[i].nek = Config.freeValue (s.freeCtr + 1) % 2 ^ 128 ∧
        t.plc[i].slacMsgs = .matchCnf :: s.plc[i].slacMsgs ∧ OtherPoints i s t) ∧
  (∀ (i : Fin 32) (r k : Nat) (s : State), s.plc[i].slac ≠ .waitMatch ∨ s.plc[i].runId ≠ r ∨ k ≠ 0 → Idles (.cmSlacMatchReq i r k) s) ∧
  (∀ (i : Fin 32) (s : State), slacServed s i = true →
    Does (.cmValidateReq i) s [.ports, .plc] fun t =>
      t.plc[i].slac = s.plc[i].slac ∧ t.plc[i].slacMsgs = .validateCnf :: s.plc[i].slacMsgs ∧ OtherPoints i s t) ∧
  (∀ (i : Fin 32) (e ms : Nat) (s : State), slacServed s i = true → s.plc[i].slac = .waitJoin →
    Does (.slacJoin i e ms) s [.ports, .plc, .ses, .ev, .sen] fun t =>
      t.plc[i].slac = .matched ∧ t.plc[i].joinTei = e % 256 ∧ t.ses[i].dad = true ∧
        t.ses[i].stage = (if s.ses[i].stage = .link then .sdp else s.ses[i].stage) ∧ OtherPoints i s t ∧
        t.ev = (raise 0x4201 4 i.val (s.plc[i].sounds.length * 2 ^ 24 + roundMean s.plc[i].attenInd * 2 ^ 16 + min ms 65535) s).ev) ∧
  (∀ (i : Fin 32) (e ms : Nat) (s : State), s.plc[i].slac ≠ .waitJoin → Idles (.slacJoin i e ms) s)

/-- 11 R388, R389: how a matching fails and how a network is left. Each time-out counts a failure with its reason in event 0x4202, the third
leads to FALLBACK; 40 s without CM_SLAC_PARM.REQ lead there at once; a match asked for while the DRBG stands still fails with reason 4; a
station that leaves, or says nothing for 15 s, takes the network and the connection with it. In any other state these move nothing. -/
def Obligations.SlacFailures : Prop :=
  (∀ (i : Fin 32) (s : State), slacServed s i = true → s.plc[i].slac = .waitAtten → 3 ≤ s.plc[i].sends →
    Does (.cmAttenCharResend i) s [.keys, .cp, .plc, .ses, .sesSys, .ev, .sen] fun t => SlacFailed i 3 s t) ∧
  (∀ (i : Fin 32) (s : State), slacServed s i = true → s.plc[i].slac = .waitMatch → drbgOk s = false →
    Does (.cmSlacMatchReq i s.plc[i].runId 0) s [.keys, .cp, .plc, .ses, .sesSys, .ev, .sen] fun t => SlacFailed i 4 s t) ∧
  (∀ (i : Fin 32) (s : State), s.plc[i].slac = .sounding → s.plc[i].startSeen = 0 →
    Does (.slacNoSoundingTimeout i) s [.keys, .cp, .plc, .ses, .sesSys, .ev, .sen] fun t => SlacFailed i 2 s t) ∧
  (∀ (i : Fin 32) (s : State), s.plc[i].slac = .waitMatch →
    Does (.slacMatchTimeout i) s [.keys, .cp, .plc, .ses, .sesSys, .ev, .sen] fun t => SlacFailed i 4 s t) ∧
  (∀ (i : Fin 32) (s : State), s.plc[i].slac = .waitJoin →
    Does (.slacJoinTimeout i) s [.keys, .ports, .cp, .plc, .ses, .sesSys, .ev, .sen] fun t =>
      SlacFailed i 5 s t ∧ t.plc[i].netValid = false ∧ t.plc[i].nmk = 0 ∧ t.plc[i].nek = 0) ∧
  (∀ (i : Fin 32) (s : State), slacServed s i = true → s.plc[i].slac = .waitParm →
    Does (.slacInitTimeout i) s [.keys, .cp, .plc, .ses, .sesSys, .ev, .sen] fun t =>
      t.plc[i].slac = .fallback ∧ t.plc[i].failures = s.plc[i].failures ∧ t.ev = (raise 0x4203 4 i.val s.plc[i].failures s).ev ∧
        t.ses[i].stage = (if s.ses[i].stage = .idle then .idle else .basic) ∧ OtherLinks i s t) ∧
  (∀ (i : Fin 32) (s : State), s.plc[i].slac = .matched →
    Does (.ccLeave i) s [.keys, .ports, .cp, .plc, .ses, .sesSys, .ev, .sen] fun t => SlacLeft i 1 s t) ∧
  (∀ (i : Fin 32) (s : State), s.plc[i].slac = .matched →
    Does (.slacLinkSilence i) s [.keys, .ports, .cp, .plc, .ses, .sesSys, .ev, .sen] fun t => SlacLeft i 2 s t) ∧
  (∀ (i : Fin 32) (s : State), s.plc[i].slac = .matched → Idles (.slacNoSoundingTimeout i) s ∧ Idles (.slacMatchTimeout i) s ∧
    Idles (.slacJoinTimeout i) s ∧ Idles (.slacInitTimeout i) s) ∧
  (∀ (i : Fin 32) (s : State), s.plc[i].slac ≠ .matched → Idles (.ccLeave i) s ∧ Idles (.slacLinkSilence i) s)

/-! ## Charging sessions (spec/12) -/

/-- 12 R406 to R408, R413 to R415, R418, R419, R433 to R436: how a connection comes and goes. An SDP request takes a handshake slot where one of
the eight is free and nobody waits, and is deferred with event 0x4303 otherwise; a malformed one is only counted, and the tenth of a second is
ignored. A SYN to the port is taken once after an SDP response; another gets RST, a second connection a strike. A connection that is lost,
silent or late is closed: in the handshake with a strike, later with the end reason of the session. -/
def Obligations.ConnectionsComeAndGo : Prop :=
  (∀ (i : Fin 32) (s : State), netServed s i = true → s.ses[i].stage = .sdp → s.ses[i].sdpCount < 10 →
    i.val ∉ s.sesSys.handshakes → s.sesSys.handshakes.length < 8 → s.sesSys.admission = [] →
    Does (.sdpRequest i true true false) s [.ports, .plc, .ses, .sesSys] fun t =>
      t.ses = s.ses.set i { s.ses[i] with sdpCount := s.ses[i].sdpCount + 1, stage := .connect, tlsWanted := true } ∧
        t.sesSys = { s.sesSys with handshakes := s.sesSys.handshakes ++ [i.val] } ∧ OtherPoints i s t) ∧
  (∀ (i : Fin 32) (s : State), netServed s i = true → s.ses[i].stage = .sdp → s.ses[i].sdpCount < 10 →
    i.val ∉ s.sesSys.handshakes → 8 ≤ s.sesSys.handshakes.length → s.ses[i].deferred = false →
    Does (.sdpRequest i true true false) s [.ses, .sesSys, .ev, .sen] fun t =>
      t.ses = s.ses.set i { s.ses[i] with sdpCount := s.ses[i].sdpCount + 1, deferred := true } ∧
        t.sesSys.handshakes = s.sesSys.handshakes ∧ t.sesSys.admission.length = s.sesSys.admission.length + 1 ∧
        (s.clk.tickTot, i.val) ∈ t.sesSys.admission ∧ t.ev = (raise 0x4303 4 i.val (s.sesSys.admission.length + 1) s).ev) ∧
  (∀ (i : Fin 32) (s : State), netServed s i = true → s.ses[i].stage = .sdp → s.ses[i].sdpCount < 10 → noTlsAllowed s = true →
    i.val ∉ s.sesSys.handshakes →
    Does (.sdpRequest i false true false) s [.ports, .plc, .ses, .sesSys] fun t =>
      t.ses = s.ses.set i { s.ses[i] with sdpCount := s.ses[i].sdpCount + 1, stage := .connect, tlsWanted := false } ∧ t.sesSys = s.sesSys) ∧
  (∀ (i : Fin 32) (tls tcp bad : Bool) (s : State), netServed s i = true → s.ses[i].stage = .sdp → s.ses[i].sdpCount < 10 →
    bad = true ∨ tcp = false →
    Does (.sdpRequest i tls tcp bad) s [.ses] fun t => t.ses = s.ses.set i { s.ses[i] with sdpCount := s.ses[i].sdpCount + 1 }) ∧
  (∀ (i : Fin 32) (tls tcp bad : Bool) (s : State), 10 ≤ s.ses[i].sdpCount ∨ netServed s i = false → Idles (.sdpRequest i tls tcp bad) s) ∧
  (∀ (i : Fin 32) (s : State), netServed s i = true → s.ses[i].tcpOpen = false → s.ses[i].stage = .connect →
    Does (.tcpConnect i (v2gPort s)) s [.ports, .plc, .ses] fun t =>
      t.ses = s.ses.set i { s.ses[i] with
        tcpOpen := true, retrans := 0, hs := 0, stage := if s.ses[i].tlsWanted then .handshake else .app } ∧ OtherPoints i s t) ∧
  (∀ (i : Fin 32) (port : Nat) (s : State), netServed s i = true →
    port ≠ v2gPort s ∨ (s.ses[i].tcpOpen = false ∧ s.ses[i].stage ≠ .connect) →
    Does (.tcpConnect i port) s [.ports, .plc] fun t => OtherPoints i s t) ∧
  (∀ (i : Fin 32) (s : State), netServed s i = true → s.ses[i].tcpOpen = true → s.ses[i].strikes < 2 →
    Does (.tcpConnect i (v2gPort s)) s [.ports, .plc, .ses] fun t =>
      t.ses = s.ses.set i { s.ses[i] with strikes := s.ses[i].strikes + 1 }) ∧
  (∀ (i : Fin 32) (s : State), s.ses[i].tcpOpen = true → s.ses[i].stage = .handshake →
    Does (.tcpConnectionLost i) s [.keys, .cp, .plc, .ses, .sesSys, .ev, .sen] fun t => Struck i s t ∧ t.ev = (strikeEv i s s).ev) ∧
  (∀ (i : Fin 32) (s : State), s.ses[i].tcpOpen = true → s.ses[i].stage ≠ .handshake →
    Does (.tcpConnectionLost i) s [.keys, .cp, .plc, .ses, .sesSys] fun t =>
      ConnClosed i s t ∧ t.ses[i].ended = (if s.ses[i].stage = .stopping ∨ s.ses[i].ended.isSome then s.ses[i].ended else some 16)) ∧
  (∀ (i : Fin 32) (s : State), s.ses[i].tcpOpen = false → Idles (.tcpConnectionLost i) s ∧ Idles (.tcpRetransmissionTimeout i) s) ∧
  (∀ (i : Fin 32) (s : State), s.ses[i].tcpOpen = true → s.sen.mlSig = false → s.ses[i].retrans < 5 →
    Does (.tcpRetransmissionTimeout i) s [.ports, .plc, .ses] fun t =>
      t.ses = s.ses.set i { s.ses[i] with retrans := s.ses[i].retrans + 1 } ∧ OtherPoints i s t) ∧
  (∀ (i : Fin 32) (s : State), s.ses[i].tcpOpen = true → s.sen.mlSig = false → 5 ≤ s.ses[i].retrans →
    Does (.tcpRetransmissionTimeout i) s [.keys, .cp, .plc, .ses, .sesSys, .ev, .sen] fun t => ConnClosed i s t) ∧
  (∀ (i : Fin 32) (s : State), s.sen.mlSig = false → s.plc[i].slac = .matched →
    Does (.neighbourSolicitation i (hubAddr s i)) s [.ports, .plc] fun t => OtherPoints i s t) ∧
  (∀ (i : Fin 32) (a : List Nat) (s : State), a ≠ hubAddr s i → Idles (.neighbourSolicitation i a) s) ∧
  (∀ (i : Fin 32) (s : State), s.ses[i].stage = .connect → s.sen.mlSig = false →
    Does (.connectTimeout i) s [.keys, .cp, .plc, .ses, .sesSys, .ev, .sen] fun t => Struck i s t ∧ t.ev = (strikeEv i s s).ev) ∧
  (∀ (i : Fin 32) (s : State), s.ses[i].stage = .handshake → s.sen.mlSig = false →
    Does (.handshakeTimeout i) s [.keys, .cp, .plc, .ses, .sesSys, .ev, .sen] fun t => Struck i s t ∧ t.ev = (strikeEv i s s).ev) ∧
  (∀ (i : Fin 32) (s : State), s.ses[i].tcpOpen = true → s.ses[i].stage ≠ .handshake → s.ses[i].stage ≠ .stopping → s.sen.mlSig = false →
    Does (.sequenceTimeout i) s [.keys, .cp, .plc, .ses, .sesSys] fun t =>
      ConnClosed i s t ∧ t.ses[i].ended = (if s.ses[i].ended.isSome then s.ses[i].ended else some 15)) ∧
  (∀ (i : Fin 32) (s : State), s.ses[i].stage = .auth → s.ses[i].eim = true → s.ses[i].authSince = true →
    (∀ b ∈ s.gates.ledgerSnap, b.point ≠ i.val) → s.sen.mlSig = false →
    Does (.eimWaitExpiry i) s [.keys, .ports, .cp, .plc, .ses, .sesSys] fun t => ConnClosed i s t ∧ t.ses[i].answer = some (5, 1)) ∧
  (∀ (i : Fin 32) (s : State), s.ses[i].stage = .app → Idles (.connectTimeout i) s ∧ Idles (.handshakeTimeout i) s ∧ Idles (.eimWaitExpiry i) s)

/-- 12 R404, R409, R410, R413, R419, R436, R438: the TLS handshake. A hello of a version that an enabled protocol runs on is answered with the
server flight, its ephemeral key taken into a transient slot; a TLS 1.3 hello without a key share gets one HelloRetryRequest; key exchange,
vehicle certificate and Finished follow in this order. Whatever does not fit closes the connection with event 0x4304 (the alert and the
version) and a strike, and so does an alert of the vehicle; a malformed message past the handshake closes it with event 0x4307. -/
def Obligations.TlsHandshake : Prop :=
  (∀ (i : Fin 32) (has13 share : Bool) (k n : Nat) (s : State), served s i = true → s.ses[i].tlsWanted = true → s.ses[i].stage = .handshake →
    s.ses[i].hs = 0 → v2gProto s 1 = true → v2gProto s 2 = false → v2gProto s 3 = false → chainBlocks s 1 ≠ 0 → roleSlot s 6 = some n →
    drbgOk s = true → transHeld s .ses < 104 → (transFree s).isSome = true → jobsFit i s = true →
    Does (.tlsClientHello i true has13 true share k none) s [.keys, .ports, .plc, .ses, .freeCtr] fun t =>
      t.ses = s.ses.set i { s.ses[i] with tls := 1, hs := 1 } ∧ transHeld t .ses = transHeld s .ses + 1 ∧ jobsOf t i.val = 2 ∧
        t.keys.slots = s.keys.slots ∧ OtherPoints i s t) ∧
  (∀ (i : Fin 32) (has12 : Bool) (k : Nat) (a : Option Nat) (s : State), served s i = true → s.ses[i].tlsWanted = true →
    s.ses[i].stage = .handshake → s.ses[i].hs = 0 → v2gProto s 2 = true → (k = 2 ∨ k = 3) → chainBlocks s k ≠ 0 → s.ses[i].helloRetry = false →
    Does (.tlsClientHello i has12 true true false k a) s [.ports, .plc, .ses] fun t =>
      t.ses = s.ses.set i { s.ses[i] with tls := 2, helloRetry := true }) ∧
  (∀ (i : Fin 32) (f sh : Bool) (k : Nat) (a : Option Nat) (s : State), served s i = true → s.ses[i].tlsWanted = true →
    s.ses[i].stage = .handshake → s.ses[i].hs = 0 →
    Does (.tlsClientHello i false false f sh k a) s [.keys, .cp, .plc, .ses, .sesSys, .ev, .sen] fun t =>
      Struck i s t ∧ t.ev = (strikeEv i s (raise 0x4304 4 i.val (70 * 2 ^ 24 + tlsVer s i * 2 ^ 16) s)).ev) ∧
  (∀ (i : Fin 32) (p : List Nat) (n : Nat) (s : State), served s i = true → s.ses[i].stage = .handshake → s.ses[i].tls = 1 → s.ses[i].hs = 1 →
    ephSlot s i = some n → jobsOf s i.val < 4 → s.keys.queue.length < 64 →
    Does (.tlsClientKeyExchange i p) s [.keys, .ses] fun t =>
      t.ses = s.ses.set i { s.ses[i] with hs := 2 } ∧ jobsOf t i.val = jobsOf s i.val + 1) ∧
  (∀ (i : Fin 32) (p : List Nat) (s : State), served s i = true → s.ses[i].stage = .handshake → s.ses[i].tls ≠ 1 ∨ s.ses[i].hs ≠ 1 →
    Does (.tlsClientKeyExchange i p) s [.keys, .cp, .plc, .ses, .sesSys, .ev, .sen] fun t =>
      Struck i s t ∧ t.ev = (strikeEv i s (raise 0x4304 4 i.val (10 * 2 ^ 24 + tlsVer s i * 2 ^ 16) s)).ev) ∧
  (∀ (i : Fin 32) (c : Chain) (s : State), served s i = true → s.ses[i].stage = .handshake → s.ses[i].tls = 2 → s.ses[i].hs = 1 →
    chainCheck s [3] [2, 3] false c = 0 → jobsFit i s = true →
    Does (.tlsClientCertificate i (some c) true) s [.keys, .ses] fun t =>
      t.ses = s.ses.set i { s.ses[i] with hs := 2 } ∧ jobsOf t i.val = 4) ∧
  (∀ (i : Fin 32) (pf : Bool) (s : State), served s i = true → s.ses[i].stage = .handshake → s.ses[i].tls = 2 → s.ses[i].hs = 1 →
    Does (.tlsClientCertificate i none pf) s [.keys, .cp, .plc, .ses, .sesSys, .ev, .sen] fun t =>
      if v2g s 0 117 117 = 1 then
        Struck i s t ∧ t.ev = (strikeEv i s (raise 0x4304 4 i.val (116 * 2 ^ 24 + 3 * 2 ^ 16) s)).ev
      else t.ses = s.ses.set i { s.ses[i] with hs := 2 } ∧ t.keys = s.keys) ∧
  (∀ (i : Fin 32) (s : State), served s i = true → s.ses[i].stage = .handshake → s.ses[i].hs = 2 → i.val ∉ s.sesSys.handshakes →
    Does (.tlsClientFinished i true) s [.ports, .plc, .ses, .sesSys] fun t => t.ses = s.ses.set i { s.ses[i] with stage := .app }) ∧
  (∀ (i : Fin 32) (s : State), served s i = true → s.ses[i].stage = .handshake → s.ses[i].hs = 2 →
    s.sesSys.admission = [] →
    Does (.tlsClientFinished i true) s [.ports, .plc, .ses, .sesSys] fun t =>
      t.ses[i].stage = .app ∧ i.val ∉ t.sesSys.handshakes) ∧
  (∀ (i : Fin 32) (s : State), served s i = true → s.ses[i].stage = .handshake → s.ses[i].hs = 2 →
    Does (.tlsClientFinished i false) s [.keys, .cp, .plc, .ses, .sesSys, .ev, .sen] fun t =>
      Struck i s t ∧ t.ev = (strikeEv i s (raise 0x4304 4 i.val (51 * 2 ^ 24 + tlsVer s i * 2 ^ 16) s)).ev) ∧
  (∀ (i : Fin 32) (s : State), served s i = false → Idles (.tlsClientFinished i true) s ∧ Idles (.tlsClientCertificate i none true) s ∧
    Idles (.tlsClientKeyExchange i []) s) ∧
  (∀ (i : Fin 32) (a : Nat) (s : State), s.ses[i].tcpOpen = true → s.ses[i].tlsWanted = true → s.sen.mlSig = false →
    Does (.tlsAlert i a) s [.keys, .cp, .plc, .ses, .sesSys, .ev, .sen] fun t =>
      Struck i s t ∧ t.ev = (strikeEv i s (raise 0x4304 4 i.val (a % 256 * 2 ^ 24 + tlsVer s i * 2 ^ 16) s)).ev) ∧
  (∀ (i : Fin 32) (k : Nat) (s : State), served s i = true → s.ses[i].stage ≠ .handshake → 1 ≤ k → k ≤ 3 →
    Does (.v2gtpProtocolError i k) s [.keys, .cp, .plc, .ses, .sesSys, .ev, .sen] fun t =>
      Struck i s t ∧ t.ev = (strikeEv i s (raise 0x4307 4 i.val (k * 2 ^ 24) s)).ev ∧
        t.ses[i].ended = (if s.ses[i].ended.isSome then s.ses[i].ended else some 13)) ∧
  (∀ (i : Fin 32) (k : Nat) (s : State), s.ses[i].stage = .handshake → Idles (.v2gtpProtocolError i k) s)

/-- 12 R402, R411, R412, R416 to R418: the messages up to authorisation. The offered entry of best priority becomes the protocol; the SessionID
is the session's number and four bytes of the DRBG; a choice that is offered leads to AUTH, another is answered with its failure and ends the
session with reason 13; a contract that breaks a rule is answered FAILED with event 0x4305 and closes the connection; AuthorizationReq is
Finished once the LEDGER snapshot shows the binding and Ongoing before. A wrong SessionID, or a message in a stage that does not admit it, is
answered so, and closes the connection with a strike. -/
def Obligations.SessionMessagesToAuthorisation : Prop :=
  (∀ (i : Fin 32) (es : List (Nat × Nat)) (e : Nat × Nat) (ms : Nat) (s : State), served s i = true → s.ses[i].stage = .app →
    bestEntry (v2g s 0 124 124 == 1)
      (es.filter fun e => v2gProto s e.2 && (if s.ses[i].tls == 2 then decide (2 ≤ e.2) else e.2 == 1)) = some e →
    Does (.supportedAppProtocolReq i es ms) s [.ports, .plc, .ses, .sesSys, .ev, .sen] fun t =>
      t.ses[i].proto = e.2 ∧ t.ses[i].stage = .setup ∧ Replied i 1 0 ms s t ∧ t.ev = (lateEv i false ms s).ev) ∧
  (∀ (i : Fin 32) (es : List (Nat × Nat)) (ms : Nat) (s : State), served s i = true → s.ses[i].stage = .app →
    bestEntry (v2g s 0 124 124 == 1)
      (es.filter fun e => v2gProto s e.2 && (if s.ses[i].tls == 2 then decide (2 ≤ e.2) else e.2 == 1)) = none →
    Does (.supportedAppProtocolReq i es ms) s [.keys, .ports, .cp, .plc, .ses, .sesSys, .ev, .sen] fun t =>
      ConnClosed i s t ∧ t.ses[i].stage = .basic ∧ t.ses[i].hlcOff = true ∧ Replied i 1 6 ms s t ∧
        t.ev = (raise 0x4308 4 i.val 3 (lateEv i false ms s)).ev) ∧
  (∀ (i : Fin 32) (ms : Nat) (s : State), served s i = true → s.ses[i].stage = .setup → s.ses[i].idSet = false → drbgOk s = true →
    Does (.sessionSetupReq i ms) s [.ports, .plc, .ses, .sesSys, .ev, .sen, .freeCtr] fun t =>
      t.ses[i].idSet = true ∧ sessionId t i = s.ses[i].no * 2 ^ 32 + Config.freeValue s.freeCtr % 2 ^ 32 ∧ Replied i 2 0 ms s t ∧
        t.ses[i].stage = .setup ∧ t.ev = (lateEv i false ms s).ev) ∧
  (∀ (i : Fin 32) (v m : Nat) (pnc : Bool) (ms : Nat) (s : State), sesAsked i .setup s = true →
    offersService s i v = true → offersMode s i m = true → offersPayment s i pnc = true →
    Does (.serviceSelectionReq i (sessionId s i) v m pnc ms) s [.ports, .plc, .ses, .sesSys, .ev, .sen] fun t =>
      t.ses[i].pnc = pnc ∧ t.ses[i].eim = !pnc ∧ t.ses[i].stage = .auth ∧ t.ses[i].mode = (if s.ses[i].proto = 1 then 0 else m) ∧
        t.ses[i].proto = (if s.ses[i].proto = 1 then 1 else if v = 2 then 3 else 2) ∧ Replied i 3 0 ms s t ∧
        t.ev = (lateEv i false ms s).ev) ∧
  (∀ (i : Fin 32) (v m : Nat) (pnc : Bool) (ms : Nat) (s : State), sesAsked i .setup s = true →
    offersService s i v = false ∨ offersMode s i m = false ∨ offersPayment s i pnc = false →
    Does (.serviceSelectionReq i (sessionId s i) v m pnc ms) s [.ports, .plc, .ses, .sesSys, .ev, .sen] fun t =>
      t.ses[i].stage = .stopping ∧ t.ses[i].ended = (if s.ses[i].ended.isSome then s.ses[i].ended else some 13) ∧ Replied i 3 4 ms s t ∧
        t.ev = (lateEv i false ms s).ev) ∧
  (∀ (i : Fin 32) (c : Chain) (ten ms : Nat) (s : State), sesAsked i .auth s = true → s.ses[i].proto = 1 → s.ses[i].pnc = true →
    s.ses[i].chainOk = false → jobsFit i s = true → chainCheck s [1, 2] [1] true c = 0 →
    emaidTenant ((emaidChars c.cn).take 14) (((recOf s 0x51 0).getD []).drop 1) = some ten → ten ∉ s.gates.blockSnap →
    Does (.paymentDetailsReq i (sessionId s i) c ms) s [.keys, .ports, .plc, .ses, .sesSys, .ev, .sen] fun t =>
      t.ses[i].chainOk = true ∧ t.ses[i].emaid = (emaidChars c.cn).take 14 ∧ t.ses[i].stage = .auth ∧ jobsOf t i.val = 3 ∧
        Replied i 4 0 ms s t ∧ t.ev = (lateEv i true ms s).ev) ∧
  (∀ (i : Fin 32) (c : Chain) (ms : Nat) (s : State), sesAsked i .auth s = true → s.ses[i].proto = 1 → s.ses[i].pnc = true →
    s.ses[i].chainOk = false → jobsFit i s = true → chainCheck s [1, 2] [1] true c ≠ 0 →
    Does (.paymentDetailsReq i (sessionId s i) c ms) s [.keys, .ports, .cp, .plc, .ses, .sesSys, .ev, .sen] fun t =>
      ConnClosed i s t ∧ Replied i 4 5 ms s t ∧
        t.ev = (lateEv i true ms (raise 0x4305 4 i.val (chainCheck s [1, 2] [1] true c) s)).ev) ∧
  (∀ (i : Fin 32) (ch : Option Chain) (ok : Bool) (ms : Nat) (b : BindSnap) (s : State), sesAsked i .auth s = true → s.ses[i].chainOk = true →
    b ∈ s.gates.ledgerSnap → b.point = i.val →
    Does (.authorizationReq i (sessionId s i) ch ok ms) s [.ports, .plc, .ses, .sesSys, .ev, .sen] fun t =>
      t.ses[i].stage = .param ∧ Replied i 5 0 ms s t ∧ t.ev = (lateEv i false ms s).ev) ∧
  (∀ (i : Fin 32) (ch : Option Chain) (ok : Bool) (ms : Nat) (s : State), sesAsked i .auth s = true → s.ses[i].pnc = false →
    s.ses[i].authBad = false → (∀ b ∈ s.gates.ledgerSnap, b.point ≠ i.val) →
    Does (.authorizationReq i (sessionId s i) ch ok ms) s [.ports, .plc, .ses, .sesSys, .ev, .sen] fun t =>
      t.ses[i].stage = .auth ∧ t.ses[i].authSince = true ∧ Replied i 5 0 ms s t ∧ t.ev = (lateEv i false ms s).ev) ∧
  (∀ (i : Fin 32) (ms ten : Nat) (s : State), sesAsked i .auth s = true → s.ses[i].pnc = true → s.ses[i].proto = 1 → s.ses[i].chainOk = true →
    s.ses[i].authBad = false → s.ses[i].authSince = false → (∀ b ∈ s.gates.ledgerSnap, b.point ≠ i.val) → jobsFit i s = true →
    emaidTenant s.ses[i].emaid (((recOf s 0x51 0).getD []).drop 1) = some ten →
    Does (.authorizationReq i (sessionId s i) none true ms) s [.keys, .ports, .plc, .ses, .sesSys, .auth, .ev, .sen] fun t =>
      t.ses[i].authSince = true ∧ t.auth[i].ready = s.auth[i].ready ++ [(1, ten, 0)] ∧ Replied i 5 0 ms s t ∧ jobsOf t i.val = 1 ∧
        t.ev = (lateEv i true ms s).ev) ∧
  (∀ (i : Fin 32) (ch : Option Chain) (ok : Bool) (ms : Nat) (s : State), sesAsked i .auth s = true → s.ses[i].authBad = true →
    s.ses[i].pnc = false → (∀ b ∈ s.gates.ledgerSnap, b.point ≠ i.val) →
    Does (.authorizationReq i (sessionId s i) ch ok ms) s [.keys, .ports, .cp, .plc, .ses, .sesSys, .ev, .sen] fun t =>
      ConnClosed i s t ∧ Replied i 5 1 ms s t ∧ t.ev = (lateEv i false ms s).ev) ∧
  (∀ (i : Fin 32) (sid v m : Nat) (pnc : Bool) (ms : Nat) (s : State), served s i = true → s.ses[i].stage ≠ .handshake →
    sid ≠ sessionId s i ∨ s.ses[i].idSet = false →
    Does (.serviceSelectionReq i sid v m pnc ms) s [.keys, .ports, .cp, .plc, .ses, .sesSys, .ev, .sen] fun t =>
      Struck i s t ∧ Replied i 3 2 ms s t ∧ t.ev = (strikeEv i s (lateEv i false ms s)).ev) ∧
  (∀ (i : Fin 32) (v m : Nat) (pnc : Bool) (ms : Nat) (s : State), sesAsked i .loop s = true →
    Does (.serviceSelectionReq i (sessionId s i) v m pnc ms) s [.keys, .ports, .cp, .plc, .ses, .sesSys, .ev, .sen] fun t =>
      Struck i s t ∧ Replied i 3 3 ms s t ∧ t.ev = (strikeEv i s (lateEv i false ms s)).ev) ∧
  (∀ (i : Fin 32) (sid v m : Nat) (pnc : Bool) (ms : Nat) (s : State), served s i = false → Idles (.serviceSelectionReq i sid v m pnc ms) s)

/-- 12 R402, R415, R423 to R427, R430, R437: the messages of charging. The parameter exchange takes the vehicle's limits, sets its request on the
ceiling and begins the loop; the loop reports the ceiling, a renegotiation once; a receipt whose signature verifies moves the receipt to the
reading sent, another ends the session with reason 13; a stop ends it with reason 2; a certificate installation is answered FAILED and the
session goes on; an overdraw asks for the contactor to open, with event 0x430A and reason 14. -/
def Obligations.SessionMessagesOfCharging : Prop :=
  (∀ (i : Fin 32) (mi mp md ms : Nat) (s : State), sesAsked i .param s = true →
    Does (.chargeParameterReq i (sessionId s i) mi mp md ms) s [.ports, .cp, .plc, .ses, .sesSys, .ev, .sen] fun t =>
      t.ses[i].stage = .loop ∧ t.ses[i].reneg = false ∧ t.ses[i].notify = false ∧ t.ses[i].receiptAt = meterReading s i ∧
        (s.ses[i].proto = 1 → t.ses[i].evMaxI = mi ∧ t.cp[i].veh = some mi) ∧
        (s.ses[i].proto = 2 → t.ses[i].evMaxP = min mp (2 ^ 32 - 1) ∧ t.ses[i].evMaxDis = min md (2 ^ 32 - 1) ∧
          t.cp[i].veh = some (min mp (2 ^ 32 - 1) * 10 / max 1 (v2gUnom s * phasesOf s i))) ∧
        t.ses[i].targetP = scheduleP s i ∧ Replied i 6 0 ms s t ∧ t.ev = (lateEv i false ms s).ev) ∧
  (∀ (i : Fin 32) (mp md ms : Nat) (s : State), sesAsked i .loop s = true → s.ses[i].proto = 2 →
    Does (.chargeLoopReq i (sessionId s i) mp md ms) s [.ports, .cp, .plc, .ses, .sesSys, .ev, .sen] fun t =>
      t.ses[i].stage = .loop ∧ t.ses[i].notify = false ∧ t.ses[i].evMaxP = min mp (2 ^ 32 - 1) ∧
        t.ses[i].reneg = (s.ses[i].reneg || (s.ses[i].notify && s.ses[i].mode != 2)) ∧
        t.cp[i].veh = some (min mp (2 ^ 32 - 1) * 10 / max 1 (v2gUnom s * phasesOf s i)) ∧
        Replied i 7 0 ms s t ∧ t.ev = (lateEv i false ms s).ev) ∧
  (∀ (i : Fin 32) (mp md ms : Nat) (s : State), sesAsked i .loop s = true → s.ses[i].proto = 1 →
    Does (.chargeLoopReq i (sessionId s i) mp md ms) s [.ports, .plc, .ses, .sesSys, .ev, .sen] fun t =>
      t.ses[i].notify = false ∧ t.ses[i].reneg = (s.ses[i].reneg || s.ses[i].notify) ∧
        t.ses[i].meterSent = (if s.ses[i].pnc = true ∧ v2gReceipt s = true then meterReading s i else s.ses[i].meterSent) ∧
        Replied i 7 0 ms s t ∧ t.ev = (lateEv i false ms s).ev) ∧
  (∀ (i : Fin 32) (ok : Bool) (ms : Nat) (s : State), sesAsked i .loop s = true → s.ses[i].proto = 1 → s.ses[i].pnc = true →
    v2gReceipt s = true → jobsFit i s = true →
    Does (.meteringReceiptReq i (sessionId s i) ok ms) s [.keys, .ports, .plc, .ses, .sesSys, .ev, .sen] fun t =>
      jobsOf t i.val = 1 ∧ t.ev = (lateEv i true ms s).ev ∧
        (if ok then t.ses[i].receiptAt = s.ses[i].meterSent ∧ t.ses[i].stage = .loop ∧ Replied i 8 0 ms s t
        else t.ses[i].stage = .stopping ∧ t.ses[i].ended = (if s.ses[i].ended.isSome then s.ses[i].ended else some 13) ∧
          Replied i 8 7 ms s t)) ∧
  (∀ (i : Fin 32) (st : Stage) (pause : Bool) (ms : Nat) (s : State), sesAsked i st s = true → st ∈ [Stage.setup, .auth, .param, .loop] →
    Does (.sessionStopReq i (sessionId s i) pause ms) s [.ports, .plc, .ses, .sesSys, .ev, .sen] fun t =>
      t.ses[i].stage = .stopping ∧ t.ses[i].ended = (if s.ses[i].ended.isSome then s.ses[i].ended else some 2) ∧ Replied i 9 0 ms s t ∧
        t.ev = (lateEv i false ms s).ev) ∧
  (∀ (i : Fin 32) (st : Stage) (ms : Nat) (s : State), sesAsked i st s = true → st ∈ [Stage.setup, .auth, .param, .loop] →
    Does (.certificateInstallationReq i (sessionId s i) ms) s [.ports, .plc, .ses, .sesSys, .ev, .sen] fun t =>
      t.ses[i].stage = st ∧ t.ses[i].ended = s.ses[i].ended ∧ Replied i 10 1 ms s t ∧ t.ev = (lateEv i false ms s).ev) ∧
  (∀ (i : Fin 32) (k : Fin 3) (s : State), 250 ≤ s.ses[i].overRun[k] → drawsHeld s.cp[i].pst = true → s.psafe[i].st = .closed →
    s.led.binds[i].isSome = true →
    Does (.overdraw i k) s [.psafe, .ses, .ev, .sen] fun t =>
      t.psafe = s.psafe.set i { s.psafe[i] with openDue := true } ∧ t.ses[i].overRun = Vector.replicate 3 0 ∧
        t.ses[i].ended = (if s.ses[i].ended.isSome then s.ses[i].ended else some 14) ∧
        t.ev = (raise 0x430A 4 i.val ((k.val + 1) * 2 ^ 24 + min (s.pmet[i].pub.irms.getD k.val 0 / 100000) 65535) s).ev) ∧
  (∀ (i : Fin 32) (k : Fin 3) (s : State), s.ses[i].overRun[k] < 250 ∨ drawsHeld s.cp[i].pst = false → Idles (.overdraw i k) s)

/-! ## Authorisation and bindings (spec/13, spec/01 R29, R30) -/

/-- 13 R450 to R454: tokens, authorise orders and what they leave pending. A token that passes every check is noted against replay and its tenant
is ready at a CONNECTED point, pending at an AVAILABLE one; a refused one leaves no replay entry, is counted, and event 0x4401 names the
reason; an order acts alike on path 3; what is pending lapses with event 0x4404 once its instant has passed. -/
def Obligations.AuthorisationsActOrWait : Prop :=
  (∀ (c : Nat) (ws : List W128) (rest : List (Nat × List W128)) (i : Fin 32) (s : State), s.tag.tokQ = (c, ws) :: rest → s.sen.mlSig = false →
    tokenCheck s ws = 0 → tokPoint ws = i.val → s.cp[i].pst = .connected → startCheck s i 2 (tokTenant ws) = 0 →
    Does .tokenMessage s [.auth, .authSys, .tag, .ev, .sen, .freeCtr] fun t =>
      t.tag.tokQ = rest ∧ t.auth = s.auth.set i { s.auth[i] with ready := s.auth[i].ready ++ [(2, tokTenant ws, tokNonce ws)] } ∧
        t.authSys = { s.authSys with
          replay := s.authSys.replay ++ [{ tenant := tokTenant ws, nonce := tokNonce ws, expiry := fld (ws.getD 0 0) 63 0 }] }) ∧
  (∀ (c : Nat) (ws : List W128) (rest : List (Nat × List W128)) (i : Fin 32) (s : State), s.tag.tokQ = (c, ws) :: rest → s.sen.mlSig = false →
    tokenCheck s ws = 0 → tokPoint ws = i.val → s.cp[i].pst = .available → tenantCheck s i 2 (tokTenant ws) = 0 →
    Does .tokenMessage s [.auth, .authSys, .tag, .ev, .sen, .freeCtr] fun t =>
      t.tag.tokQ = rest ∧ t.auth = s.auth.set i { s.auth[i] with
          pend := some { path := 2, tenant := tokTenant ws, untilCnt := fld (ws.getD 0 0) 63 0, nonce := tokNonce ws } } ∧
        t.authSys.tokensOk = inc32 s.authSys.tokensOk ∧
        t.authSys.replay = s.authSys.replay ++ [{ tenant := tokTenant ws, nonce := tokNonce ws, expiry := fld (ws.getD 0 0) 63 0 }]) ∧
  (∀ (c : Nat) (ws : List W128) (rest : List (Nat × List W128)) (i : Fin 32) (s : State), s.tag.tokQ = (c, ws) :: rest → s.sen.mlSig = false →
    tokenCheck s ws ≠ 0 → tokPoint ws = i.val → nfcWindows s = false →
    Does .tokenMessage s [.auth, .authSys, .tag, .ev, .sen, .freeCtr] fun t =>
      t.tag.tokQ = rest ∧ t.auth = s.auth.set i { s.auth[i] with lastReason := tokenCheck s ws } ∧ t.authSys.replay = s.authSys.replay ∧
        t.authSys.tokensRefused = inc32 s.authSys.tokensRefused ∧
        t.ev = (raise 0x4401 4 i.val (tokenCheck s ws * 2 ^ 24 + 2 * 2 ^ 20 + tokTenant ws) s).ev) ∧
  (∀ s : State, s.tag.tokQ = [] ∨ s.sen.mlSig = true → Idles .tokenMessage s) ∧
  OrderActs .orderAuthorise [11] (fun _ => true) [.gates, .keys, .ses, .auth, .authSys, .mbus, .tag, .lnk, .ev, .sen]
    (fun o s => (authoriseAct (oPayload o) s).1) (fun o s t =>
      (∀ i : Fin 32, i.val ≠ fld (pWord (oPayload o) 0) 127 120 → t.auth[i] = s.auth[i]) ∧
        (∀ i : Fin 32, i.val = fld (pWord (oPayload o) 0) 127 120 →
          if (authoriseAct (oPayload o) s).1 ≠ 0 then t.auth[i].pend = s.auth[i].pend ∧ t.auth[i].ready = s.auth[i].ready
          else if s.cp[i].pst = .connected then
            t.auth[i] = { s.auth[i] with ready := s.auth[i].ready ++ [(3, fld (pWord (oPayload o) 0) 111 96, 0)] }
          else t.auth[i] = { s.auth[i] with
            pend := some (PendAuth.mk 3 (fld (pWord (oPayload o) 0) 111 96) (fld (pWord (oPayload o) 0) 63 0) 0) }) ∧
        ((authoriseAct (oPayload o) s).1 ≠ 0 → o.src = .rdo → t.ev = (raise 0x4401 4 (min (fld (pWord (oPayload o) 0) 127 120) 255)
          ((authoriseAct (oPayload o) s).1 * 2 ^ 24 + 3 * 2 ^ 20 + fld (pWord (oPayload o) 0) 111 96) s).ev)) ∧
  (∀ (i : Fin 32) (p : PendAuth) (s : State), s.auth[i].pend = some p →
    (p.path = 2 ∧ p.untilCnt < s.clk.rtcS) ∨ (p.path ≠ 2 ∧ p.untilCnt ≤ s.clk.count) →
    Does (.pendingLapse i) s [.auth, .ev, .sen] fun t =>
      t.auth = s.auth.set i { s.auth[i] with pend := none } ∧ t.ev = (raise 0x4404 4 i.val (p.path * 2 ^ 20 + p.tenant) s).ev) ∧
  (∀ (i : Fin 32) (p : PendAuth) (s : State), s.auth[i].pend = some p →
    (p.path = 2 ∧ s.clk.rtcS ≤ p.untilCnt) ∨ (p.path ≠ 2 ∧ s.clk.count < p.untilCnt) → Idles (.pendingLapse i) s) ∧
  (∀ (i : Fin 32) (s : State), s.auth[i].pend = none → Idles (.pendingLapse i) s)

/-- 01 R29, R30; 13 R460; 10 Table 10.7; 12 R412: LED takes the notices of the BIND inlet one by one. A start that stands binds the tenant in its slot
from this boundary, with the point AUTHORISED and event 0x4301, and the gate shows it; one that does not is refused with events 0x5010 and
0x4401 and binds nothing; an end closes the open binding of its session at this boundary with its reason. No other binding and no booked
amount moves. -/
def Obligations.NoticesBindAndEnd : Prop :=
  (∀ (n : BindNotice) (i : Fin 32) (k : Nat) (s : State), nextNotice s = some n → n.point = i.val → n.ending = none →
    noticeReason s i n.tenant = 0 → slotFor s n.tenant = some (k, false) → s.auth[i].waitTok = none → s.cp[i].pst = .connected →
    Does .bindingNotice s [.gates, .cp, .ses, .led, .ev, .sen, .freeCtr] fun t =>
      t.gates.bindInlet = s.gates.bindInlet.erase n ∧
        t.led.binds[i] = some { tenant := n.tenant, path := n.path, session := n.session, slot := k, s := s.clk.count
                                sBnd := s.clk.bndTot, startTariff := s.led.active, startRtc := s.clk.rtcS, startSealed := true
                                cls := (ledRow s (bankOfRole s 0) k).cls, emaid := n.emaid } ∧
        t.cp[i].pst = .authorised ∧ t.cp[i].sessions = inc32 s.cp[i].sessions ∧ t.ses[i].tenant = n.tenant ∧ t.ses[i].path = n.path ∧
        t.ses[i].startCnt = s.clk.count ∧ BindSnap.mk i.val n.tenant n.path n.session ∈ t.gates.ledgerSnap ∧
        t.led.banks = s.led.banks ∧ OtherBinds i s t ∧ t.ev = (raise 0x4301 4 i.val n.session s).ev) ∧
  (∀ (n : BindNotice) (i : Fin 32) (k : Nat) (s : State), nextNotice s = some n → n.point = i.val → n.ending = none →
    noticeReason s i n.tenant = 0 → slotFor s n.tenant = some (k, true) → s.auth[i].waitTok = none → s.cp[i].pst = .connected →
    n.tenant ≠ 0 → bankOfRole s 0 < 4 →
    Does .bindingNotice s [.gates, .cp, .ses, .led, .ev, .sen, .freeCtr] fun t =>
      t.gates.bindInlet = s.gates.bindInlet.erase n ∧ t.led.binds[i].isSome = true ∧ t.cp[i].pst = .authorised ∧
        (ledRow t (bankOfRole s 0) k).tenant = n.tenant ∧ (ledRow t (bankOfRole s 0) k).bindCount = s.clk.count ∧
        (∀ c : Fin 24, (ledRow t (bankOfRole s 0) k).cells[c] = 0) ∧ OtherBinds i s t ∧
        t.ev = (raise 0x4301 4 i.val n.session (raise 0x5011 3 i.val (k * 2 ^ 24 + n.tenant) s)).ev) ∧
  (∀ (n : BindNotice) (i : Fin 32) (s : State), nextNotice s = some n → n.point = i.val → n.ending = none →
    noticeReason s i n.tenant ≠ 0 → s.auth[i].waitTok = none → n.path ≠ 2 →
    Does .bindingNotice s [.gates, .ses, .auth, .ev, .sen, .freeCtr] fun t =>
      t.gates.bindInlet = s.gates.bindInlet.erase n ∧ t.auth[i].ledReason = noticeReason s i n.tenant ∧ t.auth[i].lastReason = 15 ∧
        t.ses[i].authBad = (s.ses[i].authBad || n.path == 1) ∧
        t.ev = (raise 0x4401 4 i.val (15 * 2 ^ 24 + n.path * 2 ^ 20 + n.tenant)
          (raise 0x5010 3 i.val (noticeReason s i n.tenant * 2 ^ 24 + n.tenant) s)).ev) ∧
  (∀ (n : BindNotice) (i : Fin 32) (r : Nat) (b : Binding) (s : State), nextNotice s = some n → n.point = i.val → n.ending = some r →
    s.led.binds[i] = some b → b.endReason = none → b.session = n.session →
    Does .bindingNotice s [.gates, .led, .freeCtr] fun t =>
      t.gates.bindInlet = s.gates.bindInlet.erase n ∧
        t.led.binds[i] = some { b with
          endReason := some r, endAt := s.clk.count, endBnd := s.clk.bndTot, endRtc := s.clk.rtcS, proto := n.proto, emaid := n.emaid } ∧
        (∀ x ∈ t.gates.ledgerSnap, x.point ≠ i.val) ∧ OtherBinds i s t) ∧
  (∀ s : State, nextNotice s = none → Idles .bindingNotice s)

/-! ## Tariffs, ledger and periods (spec/14), readout (spec/15) -/

/-- 14 R470, R486 to R489, R494; 13 R461: tariffs and periods. A new code that is due becomes the active tariff with event 0x5001 and ties a commit;
50 unstable cycles are reported once with event 0x5002; a close that is due opens the next period in the spare bank, keeps the totals of the
closed one, and moves the statements on; a snapshot whose commits are written enters the ring of 24 with event 0x5042; once the last
statement is sealed the slots that nobody carried are freed with event 0x5041. Nothing that is not due moves anything. -/
def Obligations.TariffsAndPeriods : Prop :=
  (∀ (c : Nat) (s : State), s.led.tarDue = some c →
    Does .tariffSwitch s [.gates, .led, .ev, .sen, .freeCtr] fun t =>
      t.led = { s.led with active := c, tarDue := none, tarRun := 0, switchCount := s.clk.count, ties := s.led.ties ++ [(s.clk.bndTot, false)] } ∧
        t.gates.tariffSnap = c ∧ t.ev = (raise 0x5001 3 255 (s.led.active * 16 + c) s).ev) ∧
  (∀ s : State, s.led.tarDue = none → Idles .tariffSwitch s) ∧
  (∀ s : State, 50 ≤ s.led.unstRun → s.led.unstSeen = false →
    Does .tariffUnstable s [.led, .ev, .sen] fun t =>
      t.led = { s.led with unstSeen := true } ∧ t.ev = (raise 0x5002 3 255 s.led.unstRun s).ev) ∧
  (∀ s : State, s.led.unstRun < 50 ∨ s.led.unstSeen = true → Idles .tariffUnstable s) ∧
  (∀ s : State, s.led.closeDue = true → s.sen.mlSig = false →
    Does .periodClose s [.gates, .authSys, .led, .recs, .ev, .sen, .freeCtr] fun t =>
      t.led.period.no = s.led.period.no + 1 ∧ t.led.period.startCount = s.clk.count ∧ t.led.period.startRtc = s.clk.rtcS ∧
        t.led.period.banks = #v[bankOfRole s 3, bankOfRole s 0, bankOfRole s 1, bankOfRole s 2] ∧ t.led.closeDue = false ∧
        t.led.closing.period = s.led.period.no ∧ t.led.closing.count = s.clk.count ∧ t.led.closing.bank = bankOfRole s 0 ∧
        t.led.closing.pStart = s.led.period.startCount ∧ t.led.freeDue = true ∧ t.authSys.fullRefusals = 0 ∧
        t.recs.stmt2 = s.recs.stmt1 ∧ t.recs.stmt2Period = s.recs.stmt1Period ∧ t.recs.stmt1Period = s.led.period.no) ∧
  (∀ s : State, s.led.closeDue = false ∨ s.sen.mlSig = true → Idles .periodClose s) ∧
  (∀ (x : SnapWait) (s : State), s.led.snapWait = some x → x.bnd < s.clk.bndTot → (∀ p ∈ s.led.pends, p.tied = false) → s.sen.mlSig = false →
    Does .monthlySnapshot s [.gates, .led, .ev, .sen, .freeCtr] fun t =>
      t.led.snapWait = none ∧ t.led.snapNext = (s.led.snapNext + 1) % 24 ∧
        (∃ e ∈ t.led.snaps, e.index = s.led.snapNext ∧ e.count = x.count ∧ e.rtc = x.rtc ∧ e.period = (bankAt s x.bank).period ∧
          e.rows = ((bankAt s x.bank).rows.filter fun r => r.2.tenant != 0).map fun r => (r.1, r.2.tenant, slotTotals r.2)) ∧
        t.led.banks = s.led.banks ∧ t.ev = (raise 0x5042 3 255
          (s.led.snapNext * 2 ^ 24 + ((bankAt s x.bank).rows.filter fun r => r.2.tenant != 0).length) s).ev) ∧
  (∀ s : State, s.led.snapWait = none → Idles .monthlySnapshot s) ∧
  (∀ s : State, s.led.freeDue = true → s.led.sealing = [] → s.led.hdrDue = [] → s.led.sealedBnd < s.clk.bndTot → s.sen.mlSig = false →
    bankOfRole s 3 < 4 →
    Does .statementsSealed s [.gates, .led, .ev, .sen, .freeCtr] fun t =>
      t.led.freeDue = false ∧ t.led.carried = [] ∧ t.led.period.zeroed = true ∧ (bankAt t (bankOfRole s 3)).rows = [] ∧
        (∀ b : Fin 4, b.val ≠ bankOfRole s 3 → t.led.banks[b] = s.led.banks[b]) ∧
        t.ev = (raise 0x5041 3 255 (((((bankAt s s.led.closing.bank).rows.filter fun r => r.2.tenant != 0).map (·.1)).filter
          fun k => !s.led.carried.contains k).length) s).ev) ∧
  (∀ s : State, s.led.freeDue = false ∨ s.led.sealing ≠ [] ∨ s.sen.mlSig = true → Idles .statementsSealed s)

/-- 14 R478, R480, R481, R492: a commit that is due is written as one transaction of its slot: each cell rises by exactly the pending amount, no
other cell, slot or bank moves, the intent takes the next SEQ and is done, and the amount waits no longer. -/
def Obligations.CommitsAddWhatWaits : Prop :=
  (∀ (p : Pend) (s : State), s.sen.mlSig = false → s.clk.started = true → s.led.pends = [p] → p.tied = true → p.isEnd = false → p.isClose = false →
    p.bank < 4 → p.tariff < 4 → s.led.hdrDue = [] → s.led.waiting = [] → s.led.sealing = [] → s.recs.sealDue = [] → s.led.intentsNow < 16 →
    (ledRow s p.bank p.slot).sat = [] → (∀ e ∈ pendCells p, cellOf (ledRow s p.bank p.slot) e.1 + e.2 ≤ cellMax e.1) →
    Does .ledgerCommit s [.gates, .led, .recs, .freeCtr] fun t =>
      t.led.pends = [] ∧
        (∀ c : Fin 24, (ledRow t p.bank p.slot).cells[c] =
          (ledRow s p.bank p.slot).cells[c] + (((pendCells p).find? (·.1 == c.val)).map (·.2)).getD 0) ∧
        (bankAt t p.bank).rows.filter (·.1 != p.slot) = (bankAt s p.bank).rows.filter (·.1 != p.slot) ∧
        (∀ (b : Fin 4), b.val ≠ p.bank → t.led.banks[b] = s.led.banks[b]) ∧
        t.led.lastSeq = s.led.lastSeq + (if pendCells p = [] then 0 else 1) ∧
        (pendCells p ≠ [] → (t.led.intents[t.led.lastSeq % 16]'(Nat.mod_lt _ (by decide))).done = t.led.lastSeq) ∧
        t.gates.ledgerSnap = (publishLedger s).gates.ledgerSnap) ∧
  (∀ s : State, s.sen.mlSig = true ∨ s.clk.started = false → Idles .ledgerCommit s)

/-- 15 R506, R512, R516 to R518: readout. A readout order of a kind that is formed, in time and within the grants is held, and one of kind 3 waits for
its reading too; a refused one writes event 0x5052 with its reason. At the next boundary the oldest opens its grant with event 0x5053, the
oldest reading takes the next record number, is composed, signed and placed for delivery with event 0x5051; at VALID_COUNT grants end, and
the reading of a kind 3 grant leaves the delivery buffer. -/
def Obligations.ReadoutUnderGrants : Prop :=
  OrderActs .orderReadoutPages [10] (fun o => rqKind (pWord (oPayload o) 0) != 2 && rqKind (pWord (oPayload o) 0) != 3) [.gates, .keys, .recs, .mbus, .lnk, .ev, .sen]
    (fun o s => rqReason (oPayload o) s) (fun o s t =>
      if rqReason (oPayload o) s = 0 then
        t.recs = { s.recs with grantPend := s.recs.grantPend ++ [(pWord (oPayload o) 0, pWord (oPayload o) 1, s.clk.bndTot)] }
      else t.recs = s.recs ∧ (o.src = .rdo → t.ev = (raise 0x5052 3 255
        (rqReason (oPayload o) s * 2 ^ 24 + rqKind (pWord (oPayload o) 0) * 2 ^ 16) s).ev)) ∧
  OrderActs .orderReadoutRecords [10] (fun o => rqKind (pWord (oPayload o) 0) == 2) [.gates, .keys, .recs, .mbus, .lnk, .ev, .sen]
    (fun o s => rqReason (oPayload o) s) (fun o s t =>
      if rqReason (oPayload o) s = 0 then
        t.recs = { s.recs with grantPend := s.recs.grantPend ++ [(pWord (oPayload o) 0, pWord (oPayload o) 1, s.clk.bndTot)] }
      else t.recs = s.recs ∧ (o.src = .rdo → t.ev = (raise 0x5052 3 255 (rqReason (oPayload o) s * 2 ^ 24 + 2 * 2 ^ 16) s).ev)) ∧
  OrderActs .orderReadoutRegister [10] (fun o => rqKind (pWord (oPayload o) 0) == 3) [.gates, .keys, .recs, .mbus, .lnk, .ev, .sen]
    (fun o s => rqReason (oPayload o) s) (fun o s t =>
      if rqReason (oPayload o) s = 0 then
        t.recs = { s.recs with
          grantPend := s.recs.grantPend ++ [(pWord (oPayload o) 0, pWord (oPayload o) 1, s.clk.bndTot)]
          readPend := s.recs.readPend ++ [(pWord (oPayload o) 0, pWord (oPayload o) 1, s.clk.bndTot)] }
      else t.recs = s.recs ∧ (o.src = .rdo → t.ev = (raise 0x5052 3 255 (rqReason (oPayload o) s * 2 ^ 24 + 3 * 2 ^ 16) s).ev)) ∧
  (∀ (a b : W128) (n : Nat) (rest : List (W128 × W128 × Nat)) (g : Fin 8) (s : State), s.recs.grantPend = (a, b, n) :: rest → freeGrant s = some g →
    n < s.clk.bndTot → s.sen.mlSig = false →
    Does .grantOpen s [.gates, .recs, .ev, .sen, .freeCtr] fun t =>
      t.recs = { s.recs with grantPend := rest, grants := s.recs.grants.set g { w0 := a, w1 := b } } ∧
        t.ev = (raise 0x5053 3 255 (g.val * 2 ^ 24 + rqKind a * 2 ^ 16 + rqChannel a * 2 ^ 8) (cursorOpen g.val a s)).ev) ∧
  (∀ s : State, s.recs.grantPend = [] ∨ freeGrant s = none ∨ s.sen.mlSig = true → Idles .grantOpen s) ∧
  (∀ s : State, Does .grantExpiry s [.gates, .recs, .freeCtr] fun t =>
    (∀ g : Fin 8, t.recs.grants[g] =
      if rqKind s.recs.grants[g].w0 ≠ 0 ∧ rqValid s.recs.grants[g].w0 ≤ s.clk.count then {} else s.recs.grants[g]) ∧
      (∀ g : Fin 8, rqKind s.recs.grants[g].w0 = 3 → rqValid s.recs.grants[g].w0 ≤ s.clk.count →
        ∀ d ∈ t.recs.delivery, d.1 ≠ fld s.recs.grants[g].w1 127 64) ∧
      t.recs.ring = s.recs.ring ∧ t.recs.next = s.recs.next) ∧
  (∀ (a b : W128) (n : Nat) (rest : List (W128 × W128 × Nat)) (s : State), s.recs.readPend = (a, b, n) :: rest → n < s.clk.bndTot → ledSigns s = true →
    Does .registerReadingCompose s [.gates, .recs, .ev, .sen, .freeCtr] fun t =>
      t.recs.next = s.recs.next + 1 ∧ t.recs.readPend = rest ∧ t.recs.ring = s.recs.ring ∧
        t.recs.delivery = s.recs.delivery ++ [(s.recs.next, readingWords s s.recs.next (fld b 127 120) (fld b 119 112) 1 (fld b 63 0)
          (if fld b 127 120 = 1 then lcCode s == 3 else lcCode s == 3 && !s.recs.unsealedPeriod))] ∧
        t.ev = (raise 0x5051 3 255 (s.recs.next % 2 ^ 32) s).ev) ∧
  (∀ s : State, s.recs.readPend = [] ∨ ledSigns s = false → Idles .registerReadingCompose s)

/-! ## M-Bus (spec/15) -/

/-- 15 R521, R522, R529, Table 15.9: the link layer. A telegram to this hub's primary address or to 254 is acknowledged and acts; to another
address it gets no answer and does nothing; while RDO does not run it is not taken at all. SND_NKE forgets the FCB, the selection and the
latch; an application reset the latch; a selection holds only where the whole secondary address fits; a rate applies after its
acknowledgement with event 0x3040 and reverts; a primary write changes nothing and writes event 0x3043; an unchanged FCB repeats the last
answer. -/
def Obligations.MbusLinkLayer : Prop :=
  (∀ (a : Fin 256) (s : State), mbHere a s = true →
    Does (.sndNke a) s [.mbus] fun t =>
      t.mbus = { s.mbus with
        latch := none, cmd := .standard, fcb := none, selected := false, proxy := none, proxyCmd := none, proxyRsp := none, answer := .ack }) ∧
  (∀ (a : Fin 256) (s : State), mbHere a s = true →
    Does (.sndUdAppReset a) s [.mbus] fun t => t.mbus = { s.mbus with latch := none, cmd := .standard, answer := .ack }) ∧
  (∀ (a : Fin 256) (s : State), mbHere a s = true → Does (.reqUd1 a) s [.mbus] fun t => t.mbus = { s.mbus with answer := .ack }) ∧
  (∀ (a : Fin 256) (s : State), mbHere a s = true → Does (.mbusUnsupported a) s [.mbus] fun t => t.mbus = { s.mbus with answer := .none }) ∧
  (∀ (a : Fin 256) (c : Instr) (s : State), c ∈ [Instr.sndNke a, .sndUdAppReset a, .reqUd1 a] → mbUp s = true → mbHears s a.val = none →
    Does c s [.mbus] fun t => t.mbus = { s.mbus with answer := .none }) ∧
  (∀ (a : Fin 256) (c : Instr) (s : State), c ∈ [Instr.sndNke a, .sndUdAppReset a, .reqUd1 a, .mbusUnsupported a, .baudRevert, .mbusFrameError] →
    mbUp s = false → Idles c s) ∧
  (∀ (d m v k : Nat) (s : State), mbUp s = true → mbSecondary s = true → bcdMatch d (mbIdent s) = true → byteMatch 2 m mbMan = true →
    byteMatch 1 v (mbVersion s) = true → byteMatch 1 k mbMedium = true →
    Does (.sndUdSelect d m v k) s [.mbus] fun t =>
      t.mbus = { s.mbus with selected := true, proxy := none, proxyCmd := none, proxyRsp := none, answer := .ack }) ∧
  (∀ (d m v k : Nat) (s : State), mbUp s = true → mbSecondary s = true →
    byteMatch 2 m mbMan = false ∨ byteMatch 1 v (mbVersion s) = false ∨ byteMatch 1 k mbMedium = false →
    Does (.sndUdSelect d m v k) s [.mbus] fun t =>
      t.mbus = { s.mbus with selected := false, proxy := none, proxyCmd := none, proxyRsp := none, answer := .none }) ∧
  (∀ (a c : Fin 256) (s : State), mbHere a s = true → 0xB8 ≤ c.val → c.val ≤ 0xBD →
    Does (.sndUdBaud a c) s [.mbus, .ev, .sen] fun t =>
      t.mbus = { s.mbus with baud := c.val, baudPend := c.val != mbBaud s, answer := .ack } ∧ t.ev = (raise 0x3040 6 255 c.val s).ev) ∧
  (∀ (a c : Fin 256) (s : State), c.val < 0xB8 ∨ 0xBD < c.val → Idles (.sndUdBaud a c) s) ∧
  (∀ s : State, s.mbus.baudPend = true → mbUp s = true →
    Does .baudRevert s [.mbus, .ev, .sen] fun t =>
      t.mbus = { s.mbus with baud := mbBaud s, baudPend := false } ∧ t.ev = (raise 0x3040 6 255 (mbBaud s) s).ev) ∧
  (∀ (a : Fin 256) (n : Nat) (s : State), mbHere a s = true →
    Does (.sndUdPrimaryWrite a n) s [.mbus, .ev, .sen] fun t =>
      t.mbus = { s.mbus with answer := .ack } ∧ t.ev = (raise 0x3043 6 255 n s).ev) ∧
  (∀ s : State, mbUp s = true →
    Does .mbusFrameError s [.mbus, .ev, .sen] fun t =>
      t.mbus.errors = inc32 s.mbus.errors ∧ t.mbus.errRun.map (·.1) = some (nowS s) ∧ t.mbus.answer = s.mbus.answer ∧
        t.ev = (raiseIf (!runOn (s.mbus.errRun.map (·.1)) (nowS s)) 0x3042 6 255 1 s).ev) ∧
  (∀ (a : Fin 256) (b : Bool) (s : State), mbHere a s = true → s.mbus.fcb = some b → s.mbus.last ≠ [] →
    Does (.reqUd2 a true b) s [.mbus] fun t =>
      t.mbus = { s.mbus with telegrams := inc32 s.mbus.telegrams, answer := .rspUd s.mbus.last }) ∧
  (∀ (a : Fin 256) (b : Bool) (s : State), mbHere a s = true → s.mbus.fcb ≠ some b → s.mbus.cmd = .standard →
    (s.mbus.proxy = none ∨ a.val ≠ 253) → mbMode5Only s = false →
    Does (.reqUd2 a true b) s [.mbus] fun t =>
      t.mbus.access = (s.mbus.access + 1) % 256 ∧ t.mbus.fcb = some b ∧ t.mbus.telegrams = inc32 s.mbus.telegrams ∧
        t.mbus.cmd = .standard ∧ t.mbus.latch = s.mbus.latch ∧ t.mbus.answer = .rspUd t.mbus.last ∧
        t.mbus.last = mbFrame (s.modMbus fun m => { m with access := (s.mbus.access + 1) % 256 }) (mbIdent s) (standardRecords s) false)

/-- 15 R516, R518, R522 to R527: what a command telegram asks for. A page or record that is defined, and covered by a grant where it is protected,
goes into the latch and is served from part 0; otherwise the next answer is an error: 2 undefined page, 3 no grant (counted, event 0x3045),
5 no such record, 6 not latched, 7 no such part or no such chunk. A frame that fails mode 5 does nothing but be counted. The last chunk
missing completes an order, which enters the ORDER inlet of this hub with status 9; an assembly that times out is status 12. -/
def Obligations.MbusCommands : Prop :=
  (∀ (a : Fin 256) (f : MbFrame) (p : Nat) (ws : List W128) (s : State), mbOwn a f s = true → p < 65536 → isProtected p = false →
    pageWords s p = some ws → mbMode5Only s = false →
    Does (.sndUdReadPage a f p 0) s [.mbus] fun t =>
      t.mbus = { s.mbus with
        latch := some { isRecord := false, item := p, ref := s.gates.snapCount, isProt := false, words := ws ++ List.replicate (64 - ws.length) 0
                        reader := 0 }
        cmd := .part 0, answer := .ack }) ∧
  (∀ (a : Fin 256) (f : MbFrame) (p : Nat) (s : State), mbOwn a f s = true → p < 65536 → p ≠ 0x700 → pageWords s p = none →
    Does (.sndUdReadPage a f p 0) s [.mbus] fun t => t.mbus = { s.mbus with cmd := mbError 2 p 0, answer := .ack }) ∧
  (∀ (a : Fin 256) (f : MbFrame) (p : Nat) (s : State), mbOwn a f s = true → p < 65536 → isProtected p = true →
    (p = 0x700 ∨ (pageWords s p).isSome = true) → granted s 0 0 false p = false →
    Does (.sndUdReadPage a f p 0) s [.mbus, .ev, .sen] fun t =>
      t.mbus = { s.mbus with cmd := mbError 3 p 0, refused := inc32 s.mbus.refused, answer := .ack } ∧ t.ev = (raise 0x3045 6 255 p s).ev) ∧
  (∀ (a : Fin 256) (f : MbFrame) (p : Nat) (ws : List W128) (s : State), mbOwn a f s = true → p < 65536 → isProtected p = true → p ≠ 0x700 →
    pageWords s p = some ws → granted s 0 0 false p = true → mbKeyFault s = false →
    Does (.sndUdReadPage a f p 0) s [.mbus] fun t =>
      t.mbus = { s.mbus with
        latch := some { isRecord := false, item := p, ref := s.gates.snapCount, isProt := true, words := ws ++ List.replicate (64 - ws.length) 0
                        reader := 0 }
        cmd := .part 0, answer := .ack }) ∧
  (∀ (a : Fin 256) (f : MbFrame) (p k : Nat) (l : Latch) (s : State), mbOwn a f s = true → p < 65536 → 0 < k → s.mbus.latch = some l →
    l.isRecord = false → l.item = p → l.reader = 0 →
    Does (.sndUdReadPage a f p k) s [.mbus] fun t =>
      t.mbus = { s.mbus with cmd := if k < partsOf l then .part k else mbError 7 p k, answer := .ack }) ∧
  (∀ (a : Fin 256) (f : MbFrame) (no : Nat) (s : State), mbOwn a f s = true → granted s 0 0 true no = false →
    Does (.sndUdReadRecord a f no 0) s [.mbus, .ev, .sen] fun t =>
      t.mbus = { s.mbus with cmd := mbError 3 0 0, refused := inc32 s.mbus.refused, answer := .ack } ∧
        t.ev = (raise 0x3045 6 255 (no % 65536) s).ev) ∧
  (∀ (a : Fin 256) (f : MbFrame) (no : Nat) (ws : List W128) (s : State), mbOwn a f s = true → granted s 0 0 true no = true →
    recordWords s no = some ws → mbKeyFault s = false →
    Does (.sndUdReadRecord a f no 0) s [.mbus] fun t =>
      t.mbus = { s.mbus with
        latch := some { isRecord := true, item := no, ref := no, isProt := true, words := ws, reader := 0 }, cmd := .part 0, answer := .ack }) ∧
  (∀ (a : Fin 256) (f : MbFrame) (no : Nat) (s : State), mbOwn a f s = true → granted s 0 0 true no = true → recordWords s no = none →
    Does (.sndUdReadRecord a f no 0) s [.mbus] fun t => t.mbus = { s.mbus with cmd := mbError 5 0 0, answer := .ack }) ∧
  (∀ (a : Fin 256) (f : MbFrame) (s : State), mbOwn a f s = true →
    Does (.sndUdStandard a f) s [.mbus] fun t => t.mbus = { s.mbus with cmd := .standard, answer := .ack }) ∧
  (∀ (a : Fin 256) (f : MbFrame) (s : State), mbHere a s = true → mbSecure f s = false →
    Does (.sndUdStandard a f) s [.mbus, .ev, .sen] fun t =>
      t.mbus = { s.mbus with mode5Fail := inc32 s.mbus.mode5Fail, m5Run := some (nowS s), answer := .ack } ∧
        t.ev = (raiseIf (!runOn s.mbus.m5Run (nowS s)) 0x3041 6 255 s.mbus.access s).ev) ∧
  (∀ s : State, Does .mbusLatchExpiry s [.mbus] fun t => t.mbus = { s.mbus with latch := none }) ∧
  (∀ (a : Fin 256) (f : MbFrame) (tag k n : Nat) (d : List Nat) (s : State), mbOwn a f s = true → tag < 65536 → chunkFormed k n d = false →
    Does (.sndUdOrderChunk a f tag k n d) s [.mbus] fun t => t.mbus = { s.mbus with cmd := mbError 7 tag k, answer := .ack }) ∧
  (∀ (a : Fin 256) (f : MbFrame) (tag k n : Nat) (d : List Nat) (s : State), mbOwn a f s = true → tag < 65536 → chunkFormed k n d = true →
    (s.mbus.asmN = 0 ∨ (s.mbus.asmTag = tag ∧ s.mbus.asmN = n)) → (kset k d s.mbus.asm).length < n →
    Does (.sndUdOrderChunk a f tag k n d) s [.mbus] fun t =>
      t.mbus = { s.mbus with
        asmTag := tag, asmN := n, asm := kset k d s.mbus.asm, ordTag := tag, ordResult := 8, ordReason := 0, cmd := .order, answer := .ack }) ∧
  (∀ (a : Fin 256) (f : MbFrame) (tag k n : Nat) (d : List Nat) (ws : List W128) (s : State), mbOwn a f s = true → tag < 65536 →
    chunkFormed k n d = true → (s.mbus.asmN = 0 ∨ (s.mbus.asmTag = tag ∧ s.mbus.asmN = n)) → (kset k d s.mbus.asm).length = n →
    ws = bytesWords 272 ((kset k d s.mbus.asm).flatMap (·.2)) → asmFramed ws = true → fld (ws.getD 0 0) 63 0 = s.life.serial → s.life.serial ≠ 0 →
    Does (.sndUdOrderChunk a f tag k n d) s [.gates, .mbus] fun t =>
      t.gates = { s.gates with orderInlet := s.gates.orderInlet ++ [{ words := ws, src := .rdo, orig := nodeId s, tag := tag }] } ∧
        t.mbus.asmN = 0 ∧ t.mbus.asm = [] ∧ t.mbus.ordTag = tag ∧ t.mbus.ordResult = 9 ∧ t.mbus.orders = inc32 s.mbus.orders ∧
        t.mbus.cmd = .order ∧ t.mbus.answer = .ack) ∧
  (∀ s : State, s.mbus.asmN ≠ 0 →
    Does .orderAssemblyTimeout s [.mbus, .ev, .sen] fun t =>
      t.mbus = { s.mbus with
        asmN := 0, asm := [], ordTag := s.mbus.asmTag, ordResult := 12, ordReason := 0, ordChunks := s.mbus.asm.length } ∧
        t.ev = (raise 0x3044 6 255 (s.mbus.asmTag * 65536 + s.mbus.asm.length) s).ev) ∧
  (∀ s : State, s.mbus.asmN = 0 → Idles .orderAssemblyTimeout s)

/-! ## Tag (spec/16) -/

/-- 16 R532 to R535, R545, R550, R552, R556: what the tag answers the field, whether the hub runs or not. A request for another tag gets silence,
the option flag error 0x03; reads answer their blocks, more than 32 with error 0x0F; writes are taken in the field's own blocks alone, where a
header with a TYPE and a new CELL_SEQ rings the doorbell; every other write moves no byte and is answered with error 0x12. -/
def Obligations.TagAnswersTheField : Prop :=
  (∀ (n m : Nat) (a : Option Nat) (s : State),
    Does (.tagInventory n m a) s [.tag] fun t =>
      t.tag = { s.tag with
        answer := if s.tag.st ≠ .quiet ∧ tagUid s % 2 ^ n = m % 2 ^ n ∧ a.getD 0 = 0 then some (0 :: 0 :: bytesLE 8 (tagUid s)) else none }) ∧
  (∀ (q : TagReq) (s : State),
    Does (.stayQuiet q) s [.tag] fun t =>
      t.tag = { s.tag with st := if q.uid = some (tagUid s) then .quiet else s.tag.st, answer := none }) ∧
  (∀ s : State, Does (.tagSelect (tagUid s) false) s [.tag] fun t => t.tag = { s.tag with st := .selected, answer := some [0] }) ∧
  (∀ (u : Nat) (o : Bool) (s : State), u ≠ tagUid s →
    Does (.tagSelect u o) s [.tag] fun t =>
      t.tag = { s.tag with st := if s.tag.st = .selected then .ready else s.tag.st, answer := none }) ∧
  (∀ (q : TagReq) (s : State), tagHears s q = true → q.opt = false →
    Does (.resetToReady q) s [.tag] (fun t => t.tag = { s.tag with st := .ready, answer := some [0] }) ∧
      Does (.getSystemInformation q) s [.tag] (fun t =>
        t.tag = { s.tag with answer := some ([0, 0x0B] ++ bytesLE 8 (tagUid s) ++ [0, 0, 1]) }) ∧
      Does (.extendedGetSystemInfo q) s [.tag] (fun t =>
        t.tag = { s.tag with answer := some ([0, 0x0F] ++ bytesLE 8 (tagUid s) ++ [0, 0, 0xFF, 0x03, 0x07, 1]) })) ∧
  (∀ (q : TagReq) (b : Fin 256) (n : Nat) (s : State), tagHears s q = true → q.opt = false →
    Does (.readSingleBlock q b) s [.tag] (fun t => TagReads b.val 1 255 s t) ∧
      Does (.readMultipleBlocks q b n) s [.tag] (fun t => TagReads b.val n 255 s t) ∧
      Does (.getBlockSecurityStatus q b n) s [.tag] (fun t => TagSecures b.val n 255 s t)) ∧
  (∀ (q : TagReq) (b : Fin 1024) (n : Nat) (s : State), tagHears s q = true → q.opt = false →
    Does (.extendedReadSingle q b) s [.tag] (fun t => TagReads b.val 1 1023 s t) ∧
      Does (.extendedReadMultiple q b n) s [.tag] (fun t => TagReads b.val n 1023 s t) ∧
      Does (.extendedGetSecurityStatus q b n) s [.tag] (fun t => TagSecures b.val n 1023 s t)) ∧
  (∀ (q : TagReq) (b : Fin 256) (d : Nat) (s : State), tagHears s q = true → q.opt = false →
    Does (.writeSingleBlock q b d) s [.tag, .ev, .sen] fun t => TagRefusesWrite b.val s t) ∧
  (∀ (q : TagReq) (b : Fin 1024) (d : Nat) (s : State), tagHears s q = true → q.opt = false → b.val < 512 ∨ 768 ≤ b.val →
    Does (.extendedWriteSingle q b d) s [.tag, .ev, .sen] fun t => TagRefusesWrite b.val s t) ∧
  (∀ (q : TagReq) (b : Fin 1024) (d : Nat) (s : State), tagHears s q = true → q.opt = false → 512 ≤ b.val → b.val < 768 →
    memWf 0 s.tag.mem = true →
    Does (.extendedWriteSingle q b d) s [.tag] fun t =>
      t.tag.answer = some [0] ∧ tagBlock t b.val = bytesLE 8 d ∧ TagKeeps b.val (b.val + 1) s t ∧
        t.tag.bells = (if b.val % 16 = 0 ∧ d % 256 ≠ 0 ∧ natLE (((bytesLE 8 d).drop 2).take 2) ≠ natLE (((tagBlock s b.val).drop 2).take 2) then
          insertAsc ((b.val - 512) / 16) s.tag.bells else s.tag.bells) ∧ t.tag.st = s.tag.st ∧ t.tag.latched = s.tag.latched) ∧
  (∀ (q : TagReq) (b : Fin 256) (e : Fin 1024) (n d : Nat) (c : Instr) (s : State), c ∈ [Instr.resetToReady q, .readSingleBlock q b,
      .readMultipleBlocks q b n, .writeSingleBlock q b d, .extendedReadSingle q e, .extendedWriteSingle q e d, .extendedReadMultiple q e n,
      .getSystemInformation q, .extendedGetSystemInfo q, .getBlockSecurityStatus q b n, .extendedGetSecurityStatus q e n] →
    tagHears s q = false ∨ q.opt = true →
    Does c s [.tag] fun t => t.tag = { s.tag with answer := if tagHears s q then some [1, 0x03] else none }) ∧
  (∀ (q : TagReq) (s : State),
    Does (.tagUnsupportedCommand q) s [.tag] fun t =>
      t.tag = { s.tag with answer := if tagHears s q && (q.uid.isSome || q.sel) then some [1, if q.opt then 0x03 else 0x01] else none })

/-- 16 R539, R541 to R545, R549 to R552, R557: what RDO does with the tag. A doorbelled cell that is formed and served is received with STATUS 1
and passed on, one that is not formed is refused with STATUS 3 and event 0x3060; a request gets its window; a publication writes its frame
alone and then awaits its flip; a flip rewrites its directory entry alone, and only with the field idle and the old frame not latched; a
public block is written alone; a program that fails writes event 0x3065 and no byte. -/
def Obligations.RdoServesTheTag : Prop :=
  (∀ (k : Nat) (rest : List Nat) (s : State), s.tag.bells = k :: rest → k < 16 → rdoWrites s = true → s.tag.takenCy < 4 → s.life.cond = .run →
    cellFormed s k = true → cellType s k = 1 → nfcTokens s = true → memWf 0 s.tag.mem = true →
    Does .mailboxTake s [.tag] fun t =>
      t.tag.bells = rest ∧ t.tag.takenCy = s.tag.takenCy + 1 ∧ t.tag.tokQ = s.tag.tokQ ++ [(k, [cellWord s k 0, cellWord s k 1, cellWord s k 2])] ∧
        (tagBlock t (768 + 16 * k)).take 4 = [1, 1] ++ bytesLE 2 (cellSeq s k) ∧ TagKeeps (768 + 16 * k) (769 + 16 * k) s t) ∧
  (∀ (k : Nat) (rest : List Nat) (s : State), s.tag.bells = k :: rest → k < 16 → rdoWrites s = true → s.tag.takenCy < 4 → s.life.cond = .run →
    cellFormed s k = false → memWf 0 s.tag.mem = true →
    Does .mailboxTake s [.tag, .ev, .sen] fun t =>
      t.tag.bells = rest ∧ t.tag.tokQ = s.tag.tokQ ∧ t.tag.reqQ = s.tag.reqQ ∧
        (tagBlock t (768 + 16 * k)).take 2 = [cellType s k, 3] ∧ TagKeeps (768 + 16 * k) (769 + 16 * k) s t ∧
        t.ev = (raise 0x3060 6 255 (k * 2 ^ 24 + cellType s k * 2 ^ 16) s).ev) ∧
  (∀ s : State, s.tag.bells = [] ∨ rdoWrites s = false ∨ 4 ≤ s.tag.takenCy → Idles .mailboxTake s) ∧
  (∀ (k : Nat) (x : W128) (rest : List (Nat × W128)) (v : Nat) (s : State), s.tag.reqQ = (k, x) :: rest → rdoWrites s = true → reqFormed s x = true →
    nfcWindows s = true → fld x 111 96 ≠ 0 → v < 8 → ((List.range 8).find? fun v => (tagWin s v).tenant == fld x 111 96) = some v →
    memWf 0 s.tag.mem = true →
    Does .windowRequest s [.tag] fun t =>
      t.tag.reqQ = rest ∧ (tagWin t v) = { tagWin s v with lastReq := s.clk.bndTot } ∧
        (tagBlock t (768 + 16 * k)).take 2 = [2, 2] ∧ (tagBlock t (768 + 16 * k)).drop 4 = bytesLE 2 (tagWin s v).handle ++ [v, 0] ∧
        TagKeeps (768 + 16 * k) (769 + 16 * k) s t) ∧
  (∀ s : State, s.tag.reqQ = [] ∨ rdoWrites s = false → Idles .windowRequest s) ∧
  (∀ (v : Fin 8) (m f : Nat) (s : State), roleSlot s 2 = some m → freeFrame s = some f → rdoWrites s = true → s.life.cond = .run →
    windowDue s (tagWin s v.val) = true → memWf 0 s.tag.mem = true →
    Does (.windowPublish v none) s [.tag] fun t =>
      t.tag.pubCtr = s.tag.pubCtr + 1 ∧ t.tag.wins = s.tag.wins.set v { s.tag.wins[v] with
          content := windowWords s s.tag.wins[v].tenant, lastPub := s.clk.bndTot, flipTo := some f, flipSince := s.clk.bndTot, flipSeen := false } ∧
        TagKeeps (128 + 32 * f) (160 + 32 * f) s t ∧
        (∀ j : Fin 16, tagBlock t (128 + 32 * f + 2 * j.val) ++ tagBlock t (129 + 32 * f + 2 * j.val) =
          wordBytes ((frameWords s m (s.tag.pubCtr + 1) s.tag.wins[v].tenant s.tag.wins[v].handle (windowWords s s.tag.wins[v].tenant)).getD j.val 0))) ∧
  (∀ (v : Fin 8) (m f b : Nat) (s : State), roleSlot s 2 = some m → freeFrame s = some f → rdoWrites s = true → s.life.cond = .run →
    windowDue s (tagWin s v.val) = true →
    Does (.windowPublish v (some b)) s [.tag, .ev, .sen] fun t =>
      t.tag.mem = s.tag.mem ∧ t.tag.wins = s.tag.wins ∧ t.tag.outFrames = insertAsc f s.tag.outFrames ∧
        t.ev = (raise 0x3065 6 255 (128 + 32 * f + b % 32) s).ev) ∧
  (∀ (v : Fin 8) (x : Option Nat) (s : State), roleSlot s 2 = none ∨ freeFrame s = none ∨ rdoWrites s = false ∨ windowDue s (tagWin s v.val) = false →
    Idles (.windowPublish v x) s) ∧
  (∀ (v : Fin 8) (f : Nat) (s : State), s.tag.wins[v].flipTo = some f → rdoWrites s = true →
    (∀ g ∈ s.tag.latched, dirFrame s v.val ≠ some g) → memWf 0 s.tag.mem = true →
    Does (.windowFlip v true false) s [.tag] fun t =>
      t.tag.wins = s.tag.wins.set v { s.tag.wins[v] with flipTo := none } ∧
        dirEntry t v.val = [f % 256, 1] ++ bytesLE 2 s.tag.wins[v].handle ∧ (∀ u : Fin 8, u ≠ v → dirEntry t u.val = dirEntry s u.val) ∧
        TagKeeps (56 + v.val / 2) (57 + v.val / 2) s t) ∧
  (∀ (v : Fin 8) (f : Nat) (s : State), s.tag.wins[v].flipTo = some f → rdoWrites s = true →
    (∀ g ∈ s.tag.latched, dirFrame s v.val ≠ some g) →
    Does (.windowFlip v true true) s [.ev, .sen] fun t => t.ev = (raise 0x3065 6 255 (56 + v.val / 2) s).ev) ∧
  (∀ (v : Fin 8) (fail : Bool) (s : State), Idles (.windowFlip v false fail) s) ∧
  (∀ (v : Fin 8) (s : State), s.tag.wins[v].flipTo.isSome = true → s.tag.wins[v].flipSeen = false →
    s.tag.wins[v].flipSince + 500 ≤ s.clk.bndTot → rdoWrites s = true →
    Does (.flipPendingTimeout v) s [.tag, .ev, .sen] fun t =>
      t.tag.wins = s.tag.wins.set v { s.tag.wins[v] with flipSeen := true } ∧ t.tag.mem = s.tag.mem ∧
        t.ev = (raise 0x3063 6 255 (v.val * 2 ^ 24) s).ev) ∧
  (∀ (v : Fin 8) (s : State), s.tag.wins[v].flipTo = none ∨ s.tag.wins[v].flipSeen = true → Idles (.flipPendingTimeout v) s) ∧
  (∀ (b : Fin 64) (s : State), rdoWrites s = true → s.clk.started = true → (b.val < 8 ∨ (24 ≤ b.val ∧ b.val < 56)) →
    s.tag.pubAt[b] + 50 ≤ s.clk.bndTot → tagBlock s b.val ≠ publicBlock s b.val → memWf 0 s.tag.mem = true →
    Does (.publicAreaUpdate b false) s [.tag] fun t =>
      tagBlock t b.val = (publicBlock s b.val).map (· % 256) ∧ TagKeeps b.val (b.val + 1) s t ∧ t.tag.pubN = inc32 s.tag.pubN ∧
        t.tag.pubAt[b] = s.clk.bndTot) ∧
  (∀ (b : Fin 64) (s : State), rdoWrites s = true → s.clk.started = true → (b.val < 8 ∨ (24 ≤ b.val ∧ b.val < 56)) →
    s.tag.pubAt[b] + 50 ≤ s.clk.bndTot → tagBlock s b.val ≠ publicBlock s b.val →
    Does (.publicAreaUpdate b true) s [.tag, .ev, .sen] fun t =>
      t.tag.mem = s.tag.mem ∧ t.tag.retry = insertAsc b.val s.tag.retry ∧ t.ev = (raise 0x3065 6 255 b.val s).ev) ∧
  (∀ (b : Fin 64) (fail : Bool) (s : State), rdoWrites s = false ∨ 56 ≤ b.val ∨ tagBlock s b.val = publicBlock s b.val →
    Idles (.publicAreaUpdate b fail) s) ∧
  (∀ (f : Fin 12) (s : State), Does (.frameLatchExpiry f) s [.tag] fun t =>
    t.tag = { s.tag with latched := s.tag.latched.filter (· != f.val) })

/-! ## Acrad PHY (spec/17) -/

/-- 17 R562, R564, R573, R574, R582, R585, R590, R592, R593, R597 to R600; 18 R621, R628: what the PHY sends, receives, measures and loads, and what
its faults do. A transmission goes out on the coupler asked for, or on the next working one; a reception it cuts is counted; the driver stays off
outside VLD's range and in thermal shutdown; a coupler that reads back wrong is out of use. -/
def Obligations.PhySendsAndReceives : Prop :=
  (∀ (n : Nat) (r : TxReq) (rest : List TxReq) (s : State), s.phy.tx = r :: rest → lnkUp s = true → s.phy.vldOk = true → s.phy.thermal = false →
    couplerOk s r.coupler = true →
    Does (.phyTransmit n) s [.phy, .ev, .sen] fun t =>
      t.phy = { s.phy with
        tx := rest, sel := 0, driver := false, report := some (true, n), rxActive := false
        rxAborts := s.phy.rxAborts + (if s.phy.rxActive then 1 else 0), lastTx := some (frameSent r r.coupler s)
        limRun := if 64 < n then some (nowS s) else s.phy.limRun } ∧
      t.ev = (raiseIf (decide (64 < n) && !runOn s.phy.limRun (nowS s)) 0x3080 5 255 (r.coupler * 2 ^ 24 + n % 2 ^ 24) s).ev) ∧
  (∀ (n c : Nat) (r : TxReq) (rest : List TxReq) (s : State), s.phy.tx = r :: rest → lnkUp s = true → s.phy.vldOk = true → s.phy.thermal = false →
    couplerOk s r.coupler = false → couplerOk s c = true → c = nextCoupler r.coupler ∨
      (couplerOk s (nextCoupler r.coupler) = false ∧ c = nextCoupler (nextCoupler r.coupler)) → n ≤ 64 →
    Does (.phyTransmit n) s [.phy, .lnk, .ev, .sen] fun t =>
      t.phy.tx = rest ∧ t.phy.report = some (true, n) ∧ t.phy.lastTx = some (frameSent r c s) ∧ t.lnk = { s.lnk with cplSeen := true } ∧
        t.ev = (raiseIf (!s.lnk.cplSeen) 0x30AD 5 255 (r.coupler * 2 ^ 24 + c * 2 ^ 16) s).ev) ∧
  (∀ (n : Nat) (r : TxReq) (rest : List TxReq) (s : State), s.phy.tx = r :: rest → lnkUp s = true → s.phy.vldOk = true → s.phy.thermal = false →
    (∀ c : Nat, c < 4 → couplerOk s c = false) → r.coupler < 4 →
    Does (.phyTransmit n) s [.phy] fun t => t.phy = { s.phy with tx := rest, report := some (false, 0) }) ∧
  (∀ (n : Nat) (s : State), s.phy.tx = [] ∨ lnkUp s = false ∨ s.phy.vldOk = false ∨ s.phy.thermal = true → Idles (.phyTransmit n) s) ∧
  (∀ (fc : Nat) (ok whole : Bool) (bs : List Bool) (l : List Int) (s : State), phyHears s = true → ok = false ∨ fcValid s fc = false →
    Does (.phyFrameReceived fc ok whole bs l) s [.phy] fun t => t.phy = { s.phy with fcBad := s.phy.fcBad + 1, rxActive := false }) ∧
  (∀ (fc : Nat) (bs : List Bool) (l : List Int) (s : State), phyHears s = true → fcValid s fc = true →
    Does (.phyFrameReceived fc true false bs l) s [.phy] fun t => t.phy = { s.phy with rxActive := true }) ∧
  (∀ (fc : Nat) (bs : List Bool) (l : List Int) (s : State), phyHears s = true → fcValid s fc = true →
    ackFails fc bs s = false →
    Does (.phyFrameReceived fc true true bs l) s [.phy, .lnk] fun t =>
      t.phy = { s.phy with rxActive := false, levels := kset (fcSrc fc) ((l :: (kget? (fcSrc fc) s.phy.levels).getD []).take 16) s.phy.levels } ∧
        t.lnk = { s.lnk with neigh := s.lnk.neigh.map fun n => if n.node = fcSrc fc then { n with lastCount := s.clk.count } else n }) ∧
  (∀ (fc : Nat) (bs : List Bool) (l : List Int) (s : State), phyHears s = true → fcValid s fc = true → ackFails fc bs s = true →
    Does (.phyFrameReceived fc true true bs l) s [.phy, .lnk] fun t =>
      t.phy.rxActive = false ∧ t.lnk.acks = (fcSrc fc, fcMac fc / 256, 1) :: s.lnk.acks.take 7 ∧
        t.phy.tx = s.phy.tx ++ [ackReq (fcSrc fc) (fcMac fc / 256) 1 s]) ∧
  (∀ (fc : Nat) (ok whole : Bool) (bs : List Bool) (l : List Int) (s : State), phyHears s = false → Idles (.phyFrameReceived fc ok whole bs l) s) ∧
  (∀ (σ : Fin 6) (mean : List Int) (s : State), mean.length = 417 → noiseUsable s = true →
    Does (.noiseSlot σ mean) s [.phy] fun t =>
      t.phy = { s.phy with
        noise := s.phy.noise.set σ (if s.phy.noise[σ] = [] then mean.map (16 * ·)
          else (s.phy.noise[σ].zip mean).map fun e => e.1 + (16 * e.2 - e.1) / 16) }) ∧
  (∀ (σ : Fin 6) (mean : List Int) (s : State), mean.length ≠ 417 ∨ noiseUsable s = false → Idles (.noiseSlot σ mean) s) ∧
  (∀ (m : List W128) (d : Bool) (s : State), lnkUp s = true → tmRefusal s m = 0 → mapRoom s (if d then tmRx m else tmTx m) (tmClass m) d = true →
    Does (.toneMapLoad m d) s [.phy] fun t =>
      t.phy = { s.phy with maps := s.phy.maps ++ [{ words := m, peer := if d then tmRx m else tmTx m, sending := d }] }) ∧
  (∀ (m : List W128) (d : Bool) (s : State), lnkUp s = true → tmRefusal s m ≠ 0 ∨ mapRoom s (if d then tmRx m else tmTx m) (tmClass m) d = false →
    Does (.toneMapLoad m d) s [.ev, .sen] fun t =>
      t.ev = (raise 0x3086 5 255 (tmTx m * 2 ^ 24 + tmTmi m * 2 ^ 20 + tmRefusal s m) s).ev) ∧
  (∀ (m : List W128) (d : Bool) (s : State), lnkUp s = false → Idles (.toneMapLoad m d) s) ∧
  (∀ (c : Fin 3) (d l : Bool) (s : State), d ≠ l → c.val + 1 ∉ s.phy.cplBad →
    Does (.couplerFault c d l) s [.phy, .ev, .sen] fun t =>
      couplerOk t (c.val + 1) = false ∧ (∀ e : Nat, e < 4 → e ≠ c.val + 1 → couplerOk t e = couplerOk s e) ∧ t.phy.tx = s.phy.tx ∧
        t.phy.sel = (if s.phy.sel = c.val + 1 then 0 else s.phy.sel) ∧
        t.ev = (raise 0x3082 5 255 ((c.val + 1) * 2 ^ 24 + b2n d * 2 ^ 16 + b2n l * 2 ^ 8) s).ev) ∧
  (∀ (c : Fin 3) (d l : Bool) (s : State), d = l ∨ c.val + 1 ∈ s.phy.cplBad → Idles (.couplerFault c d l) s) ∧
  (∀ (mv : Nat) (s : State), s.phy.vldOk = true →
    Does (.vldOutOfRange mv) s [.phy, .ev, .sen] fun t =>
      t.phy.vldOk = false ∧ FrameCut s t ∧ t.ev = (raiseIf (!s.phy.tx.isEmpty) 0x3085 5 255 3 (raise 0x3083 5 255 mv s)).ev) ∧
  (∀ (mv : Nat) (s : State), s.phy.vldOk = false → Idles (.vldOutOfRange mv) s) ∧
  (∀ s : State, Does .vldRecovery s [.phy] fun t => t.phy = { s.phy with vldOk := true }) ∧
  (∀ s : State, s.phy.thermal = false →
    Does .driverThermalShutdown s [.phy, .ev, .sen] fun t =>
      t.phy.thermal = true ∧ FrameCut s t ∧ t.ev = (raiseIf (!s.phy.tx.isEmpty) 0x3085 5 255 1 (raise 0x3081 5 255 0 s)).ev) ∧
  (∀ s : State, s.phy.thermal = true → Idles .driverThermalShutdown s) ∧
  (∀ s : State, Does .driverThermalRestart s [.phy] fun t => t.phy = { s.phy with thermal := false })

/-! ## Acrad network (spec/18) -/

/-- 18 R606, R607, R611, R612, R614 to R618, R622: beacons, the coordinator and the tree. The coordinator sends one beacon in slot 0 of a
superframe under the next counter, which rises by one; relays send the copy they heard; a hub that has waited long enough takes over, the handover
epoch moves the role, a hub without beacons for 3 epochs is an island, and one that has lost its parent takes the best eligible one. The commands
concern the link alone. -/
def Obligations.BeaconsAndTheTree : Prop :=
  (∀ (x n : Nat) (s : State), lnkUp s = true → s.lnk.st = .coord → estCount s % 4 = 0 → s.lnk.beaconCount ≠ estCount s → txOpen x n s = true →
    Does .beaconSend s [.phy, .lnk] fun t =>
      BroadcastSent 0 (estCount s / 4) x n { orig := nodeId s, bcastFinal := true, hops := 0, body := beaconBody s } s t ∧
        t.lnk.beaconCount = estCount s ∧ t.lnk.st = .coord) ∧
  (∀ (x n : Nat) (s : State), lnkUp s = true → s.lnk.st = .coord → estCount s % 4 = 0 → s.lnk.beaconCount ≠ estCount s → txPlace s = some x →
    (netSlots s)[x]? = some n → (keySlot s n).status = .loaded → canGive s 0 = false → canGive s 1 = false → s.lnk.exhausted = false →
    Does .beaconSend s [.lnk, .ev, .sen] fun t =>
      t.lnk = { s.lnk with beaconCount := estCount s, exhausted := true } ∧
        t.ev = (raise 0x30AF 5 255 (keySelOf s n * 2 ^ 24 + 255 * 2 ^ 16) s).ev) ∧
  (∀ s : State, lnkUp s = false ∨ s.lnk.st ≠ .coord ∨ estCount s % 4 ≠ 0 ∨ s.lnk.beaconCount = estCount s → Idles .beaconSend s) ∧
  (∀ (f : AcFrame) (n : Nat) (s : State), lnkUp s = true → s.lnk.st = .joined → cfg s 0x60 0 0 95 95 = 1 → 1 ≤ s.lnk.epochDepth →
    s.lnk.epochDepth ≤ 5 → f.mic = true → netKey s f.keysel = some n →
    Does (.beaconRelay f) s [.phy] fun t =>
      t.phy = { s.phy with
        tx := s.phy.tx ++ [txRequest s 0 f.src 0 (floodCoupler (estCount s / 4)) n
          { bcast := true, msgId := f.msgId, orig := f.orig, final := f.final, bcastFinal := f.bcastFinal, hops := f.hops,
            fctr := f.fctr, keysel := f.keysel, frag := f.frag, last := f.last, body := f.body }] }) ∧
  (∀ (f : AcFrame) (s : State), lnkUp s = false ∨ s.lnk.st ≠ .joined ∨ cfg s 0x60 0 0 95 95 ≠ 1 ∨ s.lnk.epochDepth = 0 ∨ 5 < s.lnk.epochDepth ∨
    f.mic = false → Idles (.beaconRelay f) s) ∧
  (∀ (f : AcFrame) (hop : Nat) (s : State), (lnkAccept f s).1 = true → s.lnk.st = .coord → f.body.getD 0 0 < nodeId s →
    Does (.beaconRx f hop) s [.phy, .lnk, .ev, .sen] fun t =>
      Listens t ∧ t.lnk.beaconCount = s.lnk.beaconCount ∧
        t.ev = (raise 0x30A4 5 255 (nodeId s * 2 ^ 24 + f.body.getD 0 0 * 2 ^ 16) s).ev) ∧
  (∀ (f : AcFrame) (hop : Nat) (s : State), (lnkAccept f s).1 = true →
    (s.lnk.st = .coord ∧ nodeId s ≤ f.body.getD 0 0) ∨
      (s.lnk.st = .joined ∧ 2048 < (wrapPu ((copyPhi s hop f.stamp : Int) - phiC s)).natAbs) →
    Does (.beaconRx f hop) s [.phy, .lnk] fun t => t.lnk = (lnkAccept f s).2.lnk ∧ t.phy = (lnkAccept f s).2.phy) ∧
  (∀ (f : AcFrame) (hop : Nat) (s : State), (lnkAccept f s).1 = true →
    s.lnk.st = .listen ∨ s.lnk.st = .synced ∨
      (s.lnk.st = .joined ∧ (wrapPu ((copyPhi s hop f.stamp : Int) - phiC s)).natAbs ≤ 2048) →
    Does (.beaconRx f hop) s [.phy, .lnk] fun t =>
      t.lnk.phis = copyPhi s hop f.stamp :: s.lnk.phis.take 7 ∧ t.lnk.dc = dcOf (phiC t) ∧ t.lnk.coord = f.body.getD 0 0 ∧
        t.lnk.nextCoord = f.body.getD 2 0 ∧ t.lnk.beaconCount = natLE ((f.body.drop 4).take 8) ∧ t.lnk.beaconMiss = 0 ∧
        t.lnk.beaconRun = s.lnk.beaconRun + (if s.lnk.heardNow then 0 else 1) ∧ t.lnk.heardNow = true ∧
        t.lnk.handover = (if bitOf (f.body.getD 1 0) 0 then some (natLE ((f.body.drop 12).take 4), f.body.getD 2 0) else none) ∧
        t.lnk.st = (if s.lnk.st = .listen ∧ 3 ≤ t.lnk.beaconRun then .synced else s.lnk.st) ∧ t.lnk.neigh = s.lnk.neigh) ∧
  (∀ s : State, lnkUp s = true → s.lnk.st = .listen → coordCapable s = true → 3 + nodeId s / 32 ≤ s.lnk.beaconMiss → (sendPlace s).isSome = true →
    Does .coordinatorTakeover s [.lnk, .ev, .sen] fun t =>
      Coordinates t ∧ t.ev = (raiseIf s.lnk.island 0x30A2 5 255 s.lnk.islandEpochs (raise 0x30A3 5 255 (estCount s) s)).ev) ∧
  (∀ s : State, lnkUp s = false ∨ s.lnk.st ≠ .listen ∨ coordCapable s = false ∨ s.lnk.beaconMiss < 3 + nodeId s / 32 ∨ sendPlace s = none →
    Idles .coordinatorTakeover s) ∧
  (∀ (n : Nat) (s : State), lnkUp s = true → handoverNow s = some n → s.lnk.st ≠ .coord → n = nodeId s →
    Does .coordinationHandover s [.lnk, .ev, .sen] fun t =>
      Coordinates t ∧ t.lnk.cancelEpoch = some (s.clk.count / 64 - 1) ∧
        t.ev = (raiseIf s.lnk.island 0x30A2 5 255 s.lnk.islandEpochs (raise 0x30A4 5 255 (s.lnk.coord * 2 ^ 24 + n * 2 ^ 16) s)).ev) ∧
  (∀ (n : Nat) (s : State), lnkUp s = true → handoverNow s = some n → s.lnk.st = .coord → n ≠ nodeId s →
    Does .coordinationHandover s [.lnk, .ev, .sen] fun t =>
      Listens t ∧ t.lnk.cancelEpoch = some (s.clk.count / 64 - 1) ∧ t.ev = (raise 0x30A4 5 255 (nodeId s * 2 ^ 24 + n * 2 ^ 16) s).ev) ∧
  (∀ (n : Nat) (s : State), lnkUp s = true → handoverNow s = some n → (s.lnk.st = .coord ↔ n = nodeId s) →
    Does .coordinationHandover s [.lnk] fun t => t.lnk = { s.lnk with handover := none, cancelEpoch := some (s.clk.count / 64 - 1) }) ∧
  (∀ s : State, lnkUp s = false ∨ handoverNow s = none → Idles .coordinationHandover s) ∧
  (∀ s : State, lnkUp s = true → s.lnk.st = .synced ∨ s.lnk.st = .joined → 48 ≤ s.lnk.beaconMiss →
    Does .islandEntry s [.lnk, .ev, .sen] fun t => Listens t ∧ t.ev = (raise 0x30A1 5 255 s.lnk.beaconMiss s).ev) ∧
  (∀ s : State, lnkUp s = false ∨ s.lnk.st = .listen ∨ s.lnk.st = .coord ∨ s.lnk.beaconMiss < 48 → Idles .islandEntry s) ∧
  (∀ (n : Neigh) (s : State), lnkUp s = true → s.lnk.st = .joined → s.clk.count % 64 = 0 → parentGone s = true → BestParent n s →
    (s.lnk.neigh.map (·.node)).Nodup →
    Does .parentLost s [.lnk, .ev, .sen] fun t =>
      t.lnk = { s.lnk with parent := n.node, depth := n.depth + 1 } ∧
        t.ev = (raise 0x30A5 5 255 (s.lnk.parent * 2 ^ 24 + n.node * 2 ^ 16) s).ev) ∧
  (∀ s : State, lnkUp s = true → s.lnk.st = .joined → s.clk.count % 64 = 0 → parentGone s = true → (∀ n ∈ s.lnk.neigh, eligible n = false) →
    Does .parentLost s [.lnk, .ev, .sen] fun t =>
      t.lnk.st = .synced ∧ t.lnk.parent = 255 ∧ t.lnk.depth = 255 ∧ t.lnk.island = true ∧ t.lnk.neigh = s.lnk.neigh ∧
        t.ev = (raise 0x30A5 5 255 (s.lnk.parent * 2 ^ 24 + 255 * 2 ^ 16) s).ev) ∧
  (∀ s : State, lnkUp s = false ∨ s.lnk.st ≠ .joined ∨ s.clk.count % 64 ≠ 0 ∨ parentGone s = false → Idles .parentLost s)

/-- 18 R602, R608, R610, R611, R628 to R630: LNK takes a frame only from and for nodes of the estate; one whose MIC fails is counted, with event
0x30A9 for the first of a run, and a unicast one answered with STATUS 3; a counter that is not new delivers nothing, and a repeat is answered with
STATUS 0; without a buffer the answer is 2; an accepted counter enters the window. A message for another node is passed one hop on with HOPS
one lower, dropped at 0 hops or without a next hop, and not delivered. -/
def Obligations.LinkFramesAndRouting : Prop :=
  (∀ (f : AcFrame) (hop : Nat) (q : Fin 48) (c : Instr) (s : State), TakesFrame f hop q c → lnkUp s = false ∨ frameForUs s f = false →
    Idles c s) ∧
  (∀ (f : AcFrame) (hop : Nat) (q : Fin 48) (c : Instr) (s : State), TakesFrame f hop q c → lnkUp s = true → frameForUs s f = true →
    f.mic = false ∨ netKey s f.keysel = none →
    Does c s [.phy, .lnk, .ev, .sen] fun t =>
      t.lnk.authFail = inc32 s.lnk.authFail ∧ t.lnk.wins = s.lnk.wins ∧ t.lnk.queue = s.lnk.queue ∧
        t.ev = (raiseIf (!runOn s.lnk.authRun (nowS s)) 0x30A9 5 255 (f.src * 2 ^ 24 + f.keysel * 2 ^ 16) s).ev ∧
        if f.bcast then t.lnk.acks = s.lnk.acks ∧ t.phy = s.phy else Acked f 3 s t) ∧
  (∀ (f : AcFrame) (hop : Nat) (q : Fin 48) (c : Instr) (s : State), TakesFrame f hop q c → lnkUp s = true → frameForUs s f = true →
    f.mic = true → (netKey s f.keysel).isSome = true → fctrNew (frWin s f.src f.keysel) f.fctr = false →
    Does c s [.phy, .lnk] fun t =>
      t.lnk = { s.lnk with acks := t.lnk.acks } ∧ t.phy = { s.phy with tx := t.phy.tx } ∧
        if f.bcast = false ∧ fctrSeen (frWin s f.src f.keysel) f.fctr = true then Acked f 0 s t else t.lnk = s.lnk ∧ t.phy = s.phy) ∧
  (∀ (f : AcFrame) (hop : Nat) (q : Fin 48) (c : Instr) (s : State), TakesFrame f hop q c → lnkUp s = true → frameForUs s f = true →
    f.mic = true → (netKey s f.keysel).isSome = true → fctrNew (frWin s f.src f.keysel) f.fctr = true → f.bcast = false → hasBuffer s f = false →
    Does c s [.phy, .lnk] fun t => Acked f 2 s t ∧ t.lnk = { s.lnk with acks := t.lnk.acks }) ∧
  (∀ (f : AcFrame) (hop : Nat) (q : Fin 48) (c : Instr) (s : State), TakesFrame f hop q c → lnkUp s = true → frameForUs s f = true →
    f.mic = true → (netKey s f.keysel).isSome = true → fctrNew (frWin s f.src f.keysel) f.fctr = true → f.bcast = true ∨ hasBuffer s f = true →
    Does c s linkParts fun t =>
      t.lnk.wins = (s.lnk.wins.filter fun x => !(x.src == f.src && x.key == f.keysel)) ++ [fctrTake (frWin s f.src f.keysel) f.fctr] ∧
        fctrNew (frWin t f.src f.keysel) f.fctr = false ∧
        t.lnk.acks = if f.bcast then s.lnk.acks else (f.src, f.fseq, 0) :: s.lnk.acks.take 7) ∧
  (∀ (f : AcFrame) (q : Fin 48) (body : List Nat) (c : Instr) (k : Nat) (d : Nat) (s : State), TakesMsg f q c k → msgAway f body s = true →
    nextHop s f.final = some d → 2 ≤ f.hops →
    Does c s [.phy, .lnk] fun t =>
      Queued { dst := d, kind := k, msgId := f.msgId, orig := f.orig, final := f.final, hops := f.hops - 1, body := body } s t ∧
        t.lnk.dropped = s.lnk.dropped) ∧
  (∀ (f : AcFrame) (q : Fin 48) (body : List Nat) (c : Instr) (k : Nat) (s : State), TakesMsg f q c k → msgAway f body s = true →
    (nextHop s f.final).isSome = true → f.hops ≤ 1 →
    Does c s [.phy, .lnk, .ev, .sen] fun t =>
      t.lnk.queue = s.lnk.queue ∧ t.lnk.dropped = inc32 s.lnk.dropped ∧ t.ev = (raise 0x30AA 5 255 (2 ^ 24 + f.msgId) s).ev) ∧
  (∀ (f : AcFrame) (q : Fin 48) (body : List Nat) (c : Instr) (k : Nat) (s : State), TakesMsg f q c k → msgAway f body s = true →
    nextHop s f.final = none →
    Does c s [.phy, .lnk, .ev, .sen] fun t =>
      t.lnk.queue = s.lnk.queue ∧ t.lnk.dropped = inc32 s.lnk.dropped ∧ t.ev = (raise 0x30AA 5 255 (4 * 2 ^ 24 + f.msgId) s).ev) ∧
  (∀ (orig id : Nat) (s : State), (∃ r ∈ s.lnk.reasm, r.orig = orig ∧ r.msgId = id) →
    Does (.reassemblyTimeout orig id) s [.lnk, .ev, .sen] fun t =>
      t.lnk = { s.lnk with
        dropped := inc32 s.lnk.dropped, reasm := s.lnk.reasm.filter fun r => decide (¬ (r.orig = orig ∧ r.msgId = id)) } ∧
        t.ev = (raise 0x30AA 5 255 (3 * 2 ^ 24 + id) s).ev) ∧
  (∀ (orig id : Nat) (s : State), (∀ r ∈ s.lnk.reasm, ¬ (r.orig = orig ∧ r.msgId = id)) → Idles (.reassemblyTimeout orig id) s)

/-- 18 R616, R617, R623, R632 to R635; 19 R647 to R650: what the messages do that have come to their hub. An order enters the ORDER inlet
unchanged, a broadcast one once; its status reaches the RDO that sent it; a read is answered to the reader under its grants; a COLLECT brings its
record, its descendant, the highest count and the lowest claimant; the coordinator closes the bundle on exactly the records it holds,
floods it in segments, and every hub that holds it computes the allocation. The TAG of an order status is the MSG_ID that brought the order (log entry 39). -/
def Obligations.LinkMessagesAndBundles : Prop :=
  (∀ (f : AcFrame) (body : List Nat) (s : State), msgHere f body s = true →
    Does (.orderMsg f) s [.gates, .phy, .lnk] fun t =>
      t.gates = { s.gates with orderInlet := s.gates.orderInlet ++ [msgOrder f body] } ∧
        t.lnk.orders = s.lnk.orders ++ [(f.orig, f.msgId, f.msgId)] ∧ t.lnk.queue = s.lnk.queue) ∧
  (∀ (f : AcFrame) (body : List Nat) (s : State), msgAll f body s = true → msgSeen f s = false → 2 ≤ f.hops →
    Does (.orderMsg f) s [.gates, .phy, .lnk] fun t =>
      t.gates = { s.gates with orderInlet := s.gates.orderInlet ++ [msgOrder f body] } ∧ (f.orig, f.msgId, s.clk.bndTot) ∈ t.lnk.dup ∧
        t.lnk.queue = (((treeHops s).filter (· != f.src)).flatMap fun d => fragments
          { dst := d, kind := 6, msgId := f.msgId, orig := f.orig, final := f.final, bcastFinal := true, hops := f.hops - 1, body := body }).foldl
            (fun q x => insertBy (fun y => kindRank y.kind) x q) s.lnk.queue) ∧
  (∀ (f : AcFrame) (q : Fin 48) (body : List Nat) (c : Instr) (k : Nat) (s : State), TakesMsg f q c k → msgAll f body s = true → msgSeen f s = true →
    Does c s [.phy, .lnk] fun t => t.lnk.queue = s.lnk.queue ∧ t.lnk.orders = s.lnk.orders ∧ t.lnk.demands = s.lnk.demands) ∧
  (∀ (f : AcFrame) (body : List Nat) (s : State), msgHere f body s = true →
    Does (.orderStatus f) s [.mbus, .phy, .lnk] fun t =>
      t.mbus = if s.mbus.ordMsg = some (natLE (body.take 2)) then { s.mbus with ordResult := body.getD 2 0, ordReason := body.getD 3 0 }
        else s.mbus) ∧
  (∀ (f : AcFrame) (body r : List Nat) (d : Nat) (u s : State), msgHere f body s = true → nextHop s f.orig = some d →
    (body.getD 0 0 = 1 ∧ readAnswer f.orig false (natLE ((body.drop 4).take 2)) (body.getD 1 0) (msgState f s) = (r, u)) ∨
      (body.getD 0 0 = 2 ∧ readAnswer f.orig true (natLE ((body.drop 8).take 8)) (body.getD 1 0) (msgState f s) = (r, u)) ∨
      (body.getD 0 0 ≠ 1 ∧ body.getD 0 0 ≠ 2 ∧ respHeader 4 7 (natLE ((body.drop 4).take 2)) (body.getD 1 0) 0 0 0 = r ∧ u = msgState f s) →
    Does (.readReq f) s [.mbus, .phy, .lnk, .ev, .sen, .freeCtr] fun t =>
      Queued { dst := d, kind := 9, msgId := s.lnk.msgNext, orig := nodeId s, final := f.orig, body := r } s t ∧ t.mbus = u.mbus ∧ t.ev = u.ev ∧
        t.lnk.msgNext = (s.lnk.msgNext + 1) % 65536) ∧
  (∀ (f : AcFrame) (body : List Nat) (s : State), msgHere f body s = true →
    Does (.readRsp f) s [.mbus, .phy, .lnk] fun t =>
      t.mbus = if s.mbus.proxyCmd.isSome = true ∧ s.mbus.proxy = some f.orig then { s.mbus with proxyRsp := some body } else s.mbus) ∧
  (∀ s : State, s.mbus.proxyCmd.isSome = true → s.mbus.proxyRsp = none →
    Does .proxyReadTimeout s [.mbus] fun t => t.mbus = { s.mbus with proxyRsp := some (4 :: 6 :: List.replicate 14 0) }) ∧
  (∀ s : State, s.mbus.proxyCmd = none ∨ s.mbus.proxyRsp.isSome = true → Idles .proxyReadTimeout s) ∧
  (∀ (f : AcFrame) (body : List Nat) (d : Demand) (seen : Nat) (s : State), msgHere f body s = true → body.getD 9 0 = 1 →
    d = demandOfBytes (nearEpoch s (natLE ((body.drop 10).take 4))) ((body.drop 14).take 8) → seen = natLE (body.take 8) →
    Does (.collectMsg f) s [.phy, .lnk, .ev, .sen] fun t =>
      (t.lnk.demands.any fun x => { x with acked := false } == d) = true ∧
        t.lnk.children = (s.lnk.children.filter fun c => c.node != d.node) ++ [Child.mk d.node f.src (s.clk.count / 64)] ∧
        t.lnk.claimant = min s.lnk.claimant (body.getD 8 255) ∧
        t.lnk.handover = (if s.lnk.st = .coord ∧ min s.lnk.claimant (body.getD 8 255) < nodeId s ∧ s.lnk.handover = none then
          some (s.clk.count / 64 + 2, min s.lnk.claimant (body.getD 8 255)) else s.lnk.handover) ∧
        t.ev = (raiseIf (decide (estCount s + 2 ^ 32 < seen)) 0x30AC 5 255 (f.src * 2 ^ 24) s).ev ∧
        (estCount s + 2 ^ 32 < seen → t.lnk.countDiff = s.lnk.countDiff ∧ t.lnk.countSeen = s.lnk.countSeen) ∧
        (seen ≤ estCount s + 2 ^ 32 → s.lnk.st ≠ .coord → t.lnk.countSeen = max s.lnk.countSeen seen) ∧
        (seen ≤ estCount s + 2 ^ 32 → s.lnk.st = .coord → s.clk.count < seen → t.lnk.countDiff = max s.lnk.countDiff ((seen : Int) - s.clk.count))) ∧
  (∀ (e : Nat) (ds : List Demand) (b : List Nat) (s : State), lnkUp s = true → s.lnk.st = .coord → s.clk.count = 64 * (e + 1) + 32 →
    ds = sortBy (·.node) (s.lnk.demands.filter fun d => d.epoch == e) → b = bundleBytes e ds →
    s.lnk.cancelEpoch.map (· % 2 ^ 32) ≠ some (e % 2 ^ 32) → s.lnk.bundle.map (·.1) ≠ some e →
    Does .bundleClose s [.lnk, .share, .ev, .sen] fun t =>
      BundleHeld e ds s t ∧ t.lnk.bundleOut = (List.range ((b.length + 999) / 1000)).map fun g => (g, (b.drop (1000 * g)).take 1000)) ∧
  (∀ s : State, lnkUp s = false ∨ s.lnk.st ≠ .coord ∨ s.clk.count % 64 ≠ 32 ∨
    s.lnk.cancelEpoch.map (· % 2 ^ 32) = some ((s.clk.count / 64 - 1) % 2 ^ 32) ∨ s.lnk.bundle.map (·.1) = some (s.clk.count / 64 - 1) →
    Idles .bundleClose s) ∧
  (∀ (g : Fin 3) (b : List Nat) (x n : Nat) (s : State), kget? g.val s.lnk.bundleOut = some b → lnkUp s = true → s.lnk.st = .coord →
    estCount s / 4 % 16 = 8 + g.val → txOpen x n s = true →
    Does (.bundleSegmentSend g) s [.phy, .lnk] fun t =>
      BroadcastSent 1 (estCount s / 4) x n
        { kind := 2, orig := nodeId s, bcastFinal := true, hops := 0, frag := g.val,
          last := s.lnk.bundleOut.all (fun x => decide (x.1 ≤ g.val)), flood := true, body := b } s t ∧
        t.lnk.bundleOut = s.lnk.bundleOut.filter fun x => x.1 != g.val) ∧
  (∀ (g : Fin 3) (s : State), kget? g.val s.lnk.bundleOut = none ∨ lnkUp s = false ∨ s.lnk.st ≠ .coord ∨ estCount s / 4 % 16 ≠ 8 + g.val →
    Idles (.bundleSegmentSend g) s) ∧
  (∀ (f : AcFrame) (e : Nat) (b : List Nat) (s : State), (lnkAccept f s).1 = true → segsWhole (segsWith f s) = true →
    b = (segsWith f s).flatMap (·.2) → e = nearEpoch s (natLE (b.take 4)) → s.lnk.cancelEpoch.map (· % 2 ^ 32) ≠ some (e % 2 ^ 32) →
    Does (.bundleSeg f) s [.phy, .lnk, .share, .ev, .sen] fun t => BundleHeld e (bundleRecs e b) s t ∧ t.lnk.bundleIn = []) ∧
  (∀ (f : AcFrame) (s : State), (lnkAccept f s).1 = true → segsWhole (segsWith f s) = false →
    Does (.bundleSeg f) s [.phy, .lnk] fun t => t.lnk.bundleIn = segsWith f s ∧ t.lnk.bundle = s.lnk.bundle) ∧
  (∀ (f : AcFrame) (n : Nat) (s : State), (lnkAccept f s).1 = true → s.lnk.st = .joined → cfg s 0x60 0 0 95 95 = 1 → 1 ≤ s.lnk.epochDepth →
    s.lnk.epochDepth ≤ 5 → netKey s f.keysel = some n →
    Does (.bundleSeg f) s [.phy, .lnk, .share, .ev, .sen] fun t =>
      txRequest s 1 f.src 0 (floodCoupler (estCount s / 4)) n
        { bcast := true, kind := 2, msgId := f.msgId, orig := f.orig, final := f.final, bcastFinal := f.bcastFinal, hops := f.hops,
          fctr := f.fctr, keysel := f.keysel, frag := f.frag, last := f.last, flood := true, body := f.body } ∈ t.phy.tx)

/-- 18 R608, R611, R621, R624 to R629, R632: access, acknowledgement and tone maps. A pending frame waits out its backoff, which is drawn below CW
(a free value: log entry 4), and goes out when it fits; the backoff is frozen otherwise. A repeat keeps its counter and its FSEQ. An
acknowledgement completes it, or it is sent again up to RETRIES times with CW doubled, and then drops. An offer holds the maps that the receiver computed,
and both ends commit them at the same boundary with event 0x30A8. -/
def Obligations.AccessAndToneMaps : Prop :=
  (∀ (j : Fin 12) (units : Nat) (s : State), nextTx s = none ∨ slotOpen j s = false → Idles (.contentionAccess j units) s) ∧
  (∀ (j : Fin 12) (units b : Nat) (m : TxMsg) (s : State), nextTx s = some m → slotOpen j s = true → BackoffIs b s →
    units < b ∨ frameFits m b j s = false →
    Does (.contentionAccess j units) s [.lnk, .freeCtr] fun t =>
      t.lnk = { s.lnk with backoff := some (b - units) } ∧
        t.freeCtr = s.freeCtr + (if s.lnk.backoff = none ∧ drbgOk s = true then 1 else 0)) ∧
  (∀ (j : Fin 12) (units b n : Nat) (m : TxMsg) (s : State), nextTx s = some m → slotOpen j s = true → BackoffIs b s → b ≤ units →
    frameFits m b j s = true → m.counted = true → netKey s m.keysel = some n →
    Does (.contentionAccess j units) s [.phy, .lnk, .freeCtr] fun t =>
      FrameOut m m j n s t ∧ t.lnk.fctr0 = s.lnk.fctr0 ∧ t.lnk.fctr1 = s.lnk.fctr1 ∧ t.lnk.fseqs = s.lnk.fseqs) ∧
  (∀ (j : Fin 12) (units b x n : Nat) (m : TxMsg) (s : State), nextTx s = some m → slotOpen j s = true → BackoffIs b s → b ≤ units →
    frameFits m b j s = true → m.counted = false → txOpen x n s = true →
    Does (.contentionAccess j units) s [.phy, .lnk, .freeCtr] fun t =>
      FrameOut m { m with fctr := fctrOf s x, keysel := keySelOf s n, counted := true, fseq := if m.bcast then 0 else nextFseq m.dst s } j n s t ∧
        fctrOf t x = fctrOf s x + 1 ∧ resOf t x = (if fctrOf s x < resOf s x then resOf s x else resOf s x + 65536) ∧
        (m.bcast = false → kget? m.dst t.lnk.fseqs = some (nextFseq m.dst s))) ∧
  (∀ (node fseq st : Nat) (q : Fin 48) (m : TxMsg) (s : State), outFrame s node fseq = some m → lnkUp s = true → st ≠ 0 →
    m.tries ≤ cfg s 0x60 0 0 79 72 →
    Does (.acradAckRx node fseq st q) s [.phy, .lnk] fun t => FrameAgain m s t ∧ t.phy = (blockResults m (st == 1) s).phy) ∧
  (∀ (node fseq st : Nat) (q : Fin 48) (m : TxMsg) (s : State), outFrame s node fseq = some m → lnkUp s = true → st ≠ 0 →
    cfg s 0x60 0 0 79 72 < m.tries →
    Does (.acradAckRx node fseq st q) s [.phy, .lnk, .ev, .sen] fun t => FrameLost m (blockResults m (st == 1) s).phy.maps s t) ∧
  (∀ (node fseq : Nat) (q : Fin 48) (m : TxMsg) (s : State), outFrame s node fseq = some m → lnkUp s = true → m.kind ≠ 5 → m.kind ≠ 1 →
    Does (.acradAckRx node fseq 0 q) s [.phy, .lnk] fun t =>
      t.lnk = { s.lnk with
        out := s.lnk.out.erase m, cw := 8, neigh := s.lnk.neigh.map fun n => if n.node = node then { n with fails := 0 } else n } ∧
        t.phy = (blockResults m false s).phy) ∧
  (∀ (node fseq : Nat) (q : Fin 48) (m : TxMsg) (s : State), outFrame s node fseq = some m → lnkUp s = true → m.kind = 1 →
    Does (.acradAckRx node fseq 0 q) s [.phy, .lnk] fun t =>
      t.lnk.out = s.lnk.out.erase m ∧ t.lnk.cw = 8 ∧
        t.lnk.demands = s.lnk.demands.map fun d =>
          if d.epoch % 2 ^ 32 = natLE ((m.body.drop 10).take 4) ∧ (∃ k ∈ List.range (m.body.getD 9 0), m.body.getD (14 + 8 * k) 0 = d.node) then
            { d with acked := true } else d) ∧
  (∀ (node fseq : Nat) (q : Fin 48) (m : TxMsg) (s : State), outFrame s node fseq = some m → lnkUp s = true → m.kind = 5 →
    Does (.acradAckRx node fseq 0 q) s [.phy, .lnk, .ev, .sen] fun t =>
      t.lnk.out = s.lnk.out.erase m ∧ t.lnk.cw = 8 ∧
        t.phy.maps = mapsCommitted node (commitBnd s q) true (ackGens m.body) (blockResults m false s).phy.maps ∧
        t.ev = (commitEvents node true (ackGens m.body) s.phy.maps s).ev) ∧
  (∀ (node fseq st : Nat) (q : Fin 48) (s : State), outFrame s node fseq = none ∨ lnkUp s = false → Idles (.acradAckRx node fseq st q) s) ∧
  (∀ (node fseq : Nat) (m : TxMsg) (s : State), outFrame s node fseq = some m → lnkUp s = true → m.tries ≤ cfg s 0x60 0 0 79 72 →
    Does (.acradAckTimeout node fseq) s [.lnk] fun t => FrameAgain m s t) ∧
  (∀ (node fseq : Nat) (m : TxMsg) (s : State), outFrame s node fseq = some m → lnkUp s = true → cfg s 0x60 0 0 79 72 < m.tries →
    Does (.acradAckTimeout node fseq) s [.phy, .lnk, .ev, .sen] fun t => FrameLost m s.phy.maps s t) ∧
  (∀ (node fseq : Nat) (s : State), outFrame s node fseq = none ∨ lnkUp s = false → Idles (.acradAckTimeout node fseq) s) ∧
  (∀ (node : Nat) (few : Bool) (s : State), lnkUp s = true → (neighOf s node).isSome = true → refreshDue s node = true →
    (∀ m ∈ s.lnk.queue, ¬ (m.kind = 3 ∧ m.dst = node)) →
    Does (.toneMapRefresh node few) s [.phy, .lnk] fun t =>
      Queued { dst := node, kind := 3, msgId := s.lnk.msgNext, orig := nodeId s, final := node } s t ∧
        t.phy.tx = s.phy.tx ++ (if few then [TxReq.mk (couplerFor s node (estCount s / 4))
          (BitVec.ofNat 128 (fcWord 3 (nodeId s) node false 0 8 0 (couplerFor s node (estCount s / 4)) 0)) []] else [])) ∧
  (∀ (node : Nat) (few : Bool) (s : State), lnkUp s = false ∨ neighOf s node = none ∨ refreshDue s node = false ∨
    (∃ m ∈ s.lnk.queue, m.kind = 3 ∧ m.dst = node) → Idles (.toneMapRefresh node few) s) ∧
  (∀ (f : AcFrame) (body : List Nat) (u s : State), msgHere f body s = true → u = exchangeState f.orig false (msgState f s) →
    Does (.tmReq f) s [.phy, .lnk, .ev, .sen] fun t =>
      Queued { dst := f.orig, kind := 4, msgId := s.lnk.msgNext, orig := nodeId s, final := f.orig,
               body := (offerFor f.orig u).flatMap wordsBytes } s t ∧
        (∀ m ∈ t.phy.maps, pendOf f.orig false m = true → m.words ∈ offerFor f.orig u) ∧
        (∀ n, neighOf s f.orig = some n → (neighOf t f.orig).map (·.genLast) = some (n.genLast + 1))) ∧
  (∀ (f : AcFrame) (body : List Nat) (r : List Nat × State) (s : State), msgHere f body s = true →
    r = offerLoaded (offerMaps body) (exchangeState f.orig true (msgState f s)) →
    Does (.tmOffer f) s [.phy, .lnk, .ev, .sen] fun t =>
      Queued { dst := f.orig, kind := 5, msgId := s.lnk.msgNext, orig := nodeId s, final := f.orig, body := r.1.flatMap (bytesLE 4) } s t ∧
        t.phy.maps = r.2.phy.maps ∧ t.ev = r.2.ev) ∧
  (∀ (f : AcFrame) (q : Fin 48) (body : List Nat) (s : State), msgHere f body s = true →
    Does (.tmAck f q) s [.phy, .lnk, .ev, .sen] fun t =>
      t.phy.maps = mapsCommitted f.orig (commitBnd s q) false (ackGens body) (msgState f s).phy.maps ∧
        t.ev = (commitEvents f.orig false (ackGens body) (msgState f s).phy.maps s).ev)

/-! ## Load sharing (spec/19), and the share frames that carry it (18 R619, R620) -/

/-- 18 R615 to R617, R619, R620, R636; 19 R654, R656: a hub sends one share frame in its share slot of an epoch, with its demand record. A frame
received gives the sender's entry (SERIAL, IDENT, DEPTH, PARENT, PHASE, quality, and the relative phase with event 0x30A6 on a change), its demand
record, its claim and its count; a 33rd neighbour enters only in place of the silent one of lowest quality, else event 0x30AE. Four cycles
of the other level change LLIM, with event 0x30B3 or 0x30B4, and the level-3 terms follow. -/
def Obligations.ShareFramesAndLlim : Prop :=
  (∀ (d : Demand) (x n : Nat) (s : State), s.share.sent.find? (fun d => d.epoch == s.clk.count / 64) = some d → lnkUp s = true → s.lnk.st ≠ .listen →
    s.lnk.sharedEpoch ≠ some (estCount s / 64) → estCount s % 64 = shareCycle (nodeId s) → txOpen x n s = true →
    Does .shareFrameSend s [.phy, .lnk] fun t =>
      BroadcastSent 1 (estCount s / 4) x n { kind := 11, orig := nodeId s, bcastFinal := true, hops := 0, body := shareBody s d } s t ∧
        t.lnk.sharedEpoch = some (estCount s / 64)) ∧
  (∀ s : State, (∀ d ∈ s.share.sent, d.epoch ≠ s.clk.count / 64) ∨ lnkUp s = false ∨ s.lnk.st = .listen ∨
    s.lnk.sharedEpoch = some (estCount s / 64) ∨ estCount s % 64 ≠ shareCycle (nodeId s) → Idles .shareFrameSend s) ∧
  (∀ (f : AcFrame) (s : State), (lnkAccept f s).1 = true → neighFits f s = true →
    Does (.shareFrameRx f) s [.phy, .lnk, .ev, .sen] fun t =>
      neighOf t f.src = some (neighAfter f s) ∧ (∀ n : Nat, n < 256 → n ≠ f.src → neighOf t n = neighOf s n) ∧
        (t.lnk.demands.any fun x => { x with acked := false } == demandOfBytes (estCount s / 64) ((f.body.drop 26).take 8)) = true ∧
        t.ev = (shareEvents f s).ev ∧
        t.lnk.claimant = (if bitOf (f.body.getD 3 0) 2 then min s.lnk.claimant f.src else s.lnk.claimant) ∧
        if coordBelow f s then Listens t else t.lnk.st = s.lnk.st ∧ t.lnk.parent = s.lnk.parent ∧ t.lnk.depth = s.lnk.depth) ∧
  (∀ (f : AcFrame) (x : Neigh) (s : State), (lnkAccept f s).1 = true → neighFits f s = false → x ∈ s.lnk.neigh → silent x = true →
    (∀ y ∈ s.lnk.neigh, silent y = true → y ≠ x → x.quality < y.quality) → (s.lnk.neigh.map (·.node)).Nodup →
    Does (.shareFrameRx f) s [.phy, .lnk, .ev, .sen] fun t =>
      t.lnk.neigh.map (·.node) = (s.lnk.neigh.map (·.node)).erase x.node ++ [f.src] ∧ (neighOf t f.src).map (·.serial) = some (natLE ((f.body.drop 6).take 8))) ∧
  (∀ (f : AcFrame) (s : State), (lnkAccept f s).1 = true → neighFits f s = false → (∀ y ∈ s.lnk.neigh, silent y = false) → aheadBad f s = false →
    coordBelow f s = false →
    Does (.shareFrameRx f) s [.phy, .lnk, .ev, .sen] fun t =>
      t.lnk.neigh = s.lnk.neigh ∧ t.lnk.fullEpoch = s.clk.count / 64 ∧
        t.ev = (raiseIf (decide (s.lnk.fullEpoch ≠ s.clk.count / 64)) 0x30AE 5 255 f.src s).ev) ∧
  (∀ s : State, 4 ≤ s.share.llimRun → s.life.cond = .run → (feederPay s (ownFeeder s)).isSome = true →
    Does .llimChange s [.gates, .cp, .share, .ev, .sen, .freeCtr] fun t =>
      t.share.llim = (!s.share.llim) ∧ t.share.llimRun = 0 ∧ t.share.term3 = (!s.share.llim && !s.share.scaled) ∧ t.share.h = s.share.h ∧
        t.ev = (raise (if s.share.llim then 0x30B4 else 0x30B3) 5 255 (llimFactor (ownPay s)) s).ev ∧
        ∀ i : Fin 32, t.cp[i] = if i ∈ fitted s then
          { s.cp[i] with
            llim := if s.share.llim = false ∧ s.share.scaled = false then s.cp[i].share.map fun c => c * llimFactor (ownPay s) / 100 else none }
          else s.cp[i]) ∧
  (∀ s : State, s.share.llimRun < 4 ∨ s.life.cond ≠ .run ∨ feederPay s (ownFeeder s) = none → Idles .llimChange s)

/-! ## The board (spec/20) -/

/-- 20 R668, R670 to R678, R684 to R688, R691, R694: the board. DSP commits the next rectangle to a free region under the band of a reading taken for
it, late commits one frame later; each frame advances the regions, and an ended one is what the panel shows; the panel powers down when nothing
runs, and up for a commit; a power fault abandons every region; a temperature outside the limits postpones; a malformed table is served by the
built-in waveform with event 0x8005 once; full refreshes come when due; from the mains-loss signal running regions are abandoned. -/
def Obligations.BoardUpdates : Prop :=
  (∀ (late bad : Bool) (s : State), epdReady s = false ∨ nextRect s = none ∨ freeRegion s = none → Idles (.displayCommit late bad) s) ∧
  (∀ (late bad : Bool) (s : State), epdReady s = true → (nextRect s).isSome = true → (freeRegion s).isSome = true → s.epd.bandFor = none →
    Does (.displayCommit late bad) s [.epd] fun t => t.epd = { s.epd with readPend := true }) ∧
  (∀ (late bad : Bool) (r : Rect) (k : Fin 4) (b m : Nat) (s : State), epdReady s = true → nextRect s = some r → freeRegion s = some k →
    s.epd.bandFor = some b → m = (if s.epd.firstWhole then 0 else modeUpdate s) →
    Does (.displayCommit late bad) s [.epd, .ev, .sen] fun t =>
      Committed k r (boardTable s m b bad) late s t ∧ t.epd.bandFor = none ∧ t.epd.firstWhole = false ∧
        t.epd.queue = (if s.epd.firstWhole then [] else s.epd.queue.drop 1) ∧
        t.ev = (raiseIf (tableBad s m b bad) 0x8005 7 255 (m * 2 ^ 24 + b * 2 ^ 16) s).ev ∧ (tableBad t m b bad = false)) ∧
  (∀ (r : Nat) (s : State), thermBad r = true →
    Does (.thermistorResult r) s [.epd, .ev, .sen] fun t =>
      t.epd = { s.epd with
        temp := none, thermRun := some (nowS s), readPend := false, bandFor := if s.epd.readPend then some s.epd.band else s.epd.bandFor } ∧
        t.ev = (raiseIf (!runOn s.epd.thermRun (nowS s)) 0x8003 7 255 (min r (2 ^ 32 - 1)) s).ev) ∧
  (∀ (r : Nat) (s : State), thermBad r = false → s.epd.readPend = false ∨ tempOut s (thermTemp r s) = false →
    Does (.thermistorResult r) s [.epd] fun t =>
      t.epd = { s.epd with
        temp := some (thermTemp r s), band := bandOf s (thermTemp r s), readPend := false
        bandFor := if s.epd.readPend then some (bandOf s (thermTemp r s)) else s.epd.bandFor }) ∧
  (∀ (r : Nat) (s : State), thermBad r = false → s.epd.readPend = true → tempOut s (thermTemp r s) = true →
    Does (.thermistorResult r) s [.epd, .ev, .sen] fun t =>
      t.epd = { s.epd with
        temp := some (thermTemp r s), band := bandOf s (thermTemp r s), readPend := false, postponed := true, retryAt := s.clk.bndTot + 3000 } ∧
        t.ev = (raise 0x8004 7 255 (twos 32 (thermTemp r s)) s).ev) ∧
  (∀ s : State, s.epd.panel = 3 → s.sen.mlSig = true → s.epd.lastLight = false → running s ≠ [] →
    Does .panelFrame s [.epd, .ev, .sen] fun t =>
      BoardUnknown t ∧ t.epd.panel = 3 ∧ (modelTaken t).map (·.unknown) = some true ∧ t.epd.drawn = s.epd.drawn ∧
        t.ev = (raise 0x8009 7 255 (running s).length s).ev) ∧
  (∀ s : State, s.epd.panel = 3 → s.sen.mlSig = false → s.epd.lastLight = false → running s = [] →
    Does .panelFrame s [.epd] fun t => t.epd = { s.epd with panel := 4, pwrEn := false, vcom := 0, faultRun := 0 }) ∧
  (∀ s : State, s.epd.panel = 3 → s.sen.mlSig = false ∨ s.epd.lastLight = true → running s ≠ [] →
    Does .panelFrame s [.epd] fun t =>
      (∀ k : Fin 4, t.epd.regions[k] = (regionFrame s.epd.regions[k]).1) ∧
        t.epd.updates = (if s.epd.regions.toList.all (fun r => !(regionFrame r).2) then s.epd.updates
          else satAdd 32 s.epd.updates ((s.epd.regions.toList.filter fun r => (regionFrame r).2).length)) ∧
        ((∀ r ∈ s.epd.regions.toList, (regionFrame r).2 = false) → t.epd.drawn = s.epd.drawn ∧ t.epd.copyDue = s.epd.copyDue) ∧
        (∀ k : Fin 4, (regionFrame s.epd.regions[k]).2 = true → (∀ j : Fin 4, j ≠ k → (regionFrame s.epd.regions[j]).2 = false) →
          t.epd.copyDue = true ∧ ∀ d ∈ s.epd.regions[k].texts, d ∈ t.epd.drawn)) ∧
  (∀ s : State, s.epd.panel ≠ 3 ∨ (running s = [] ∧ (s.sen.mlSig = true ∨ s.epd.lastLight = true)) → Idles .panelFrame s) ∧
  (∀ s : State, s.epd.panel = 2 →
    Does .epdPowerGood s [.epd] fun t =>
      t.epd.panel = 3 ∧ t.epd.pwrGood = true ∧ t.epd.vcom = dispFld s 0 47 32 * 5 ∧
        ∀ k : Fin 4, t.epd.regions[k] = { s.epd.regions[k] with wait := 0 }) ∧
  (∀ s : State, s.epd.panel ≠ 2 → Does .epdPowerGood s [.epd] fun t => t.epd = { s.epd with pwrGood := true }) ∧
  (∀ s : State, s.epd.panel = 2 →
    Does .epdPowerTimeout s [.epd, .ev, .sen] fun t => PanelFault s t ∧ t.ev = (raise 0x8001 7 255 (min 3 (s.epd.faultRun + 1)) s).ev) ∧
  (∀ s : State, s.epd.panel ≠ 2 → Idles .epdPowerTimeout s) ∧
  (∀ s : State, s.epd.panel = 3 →
    Does .epdPowerLost s [.epd, .ev, .sen] fun t => PanelFault s t ∧ t.ev = (raise 0x8002 7 255 (running s).length s).ev) ∧
  (∀ s : State, s.epd.panel ≠ 3 →
    Does .epdPowerLost s [.epd] fun t =>
      t.epd = { s.epd with
        pwrGood := false, panel := if s.epd.panel = 4 then (if running s = [] then 1 else 2) else s.epd.panel
        pwrEn := if s.epd.panel = 4 then decide (running s ≠ []) else s.epd.pwrEn }) ∧
  (∀ (r : Nat) (late bad : Bool) (b m : Nat) (s : State), fullDue s = true → freeRegion s = some 0 → thermBad r = false → b = bandOf s (thermTemp r s) →
    m = modeFull s →
    Does (.fullRefresh r late bad) s [.epd, .ev, .sen] fun t =>
      Committed 0 (wholePanel s) (if tempOut s (thermTemp r s) then (15, 15, 24) else boardTable s m b bad) late s t ∧ t.epd.queue = [] ∧
        t.epd.fullCount = s.clk.count ∧ t.epd.fullS = nowS s ∧ t.epd.temp = some (thermTemp r s) ∧ t.epd.firstWhole = false ∧
        t.ev = (raiseIf (!tempOut s (thermTemp r s) && tableBad s m b bad) 0x8005 7 255 (m * 2 ^ 24 + b * 2 ^ 16) s).ev) ∧
  (∀ (r : Nat) (late bad : Bool) (s : State), fullDue s = true → freeRegion s = some 0 → thermBad r = true →
    Does (.fullRefresh r late bad) s [.epd, .ev, .sen] fun t =>
      Committed 0 (wholePanel s) (boardTable s (modeFull s) s.epd.band bad) late s t ∧ t.epd.queue = [] ∧ t.epd.temp = none) ∧
  (∀ (r : Nat) (late bad : Bool) (s : State), fullDue s = false → Idles (.fullRefresh r late bad) s) ∧
  (∀ s : State, s.epd.retryAt ≠ 0 → s.epd.retryAt ≤ s.clk.bndTot →
    Does .displayRetry s [.epd] fun t =>
      t.epd = { s.epd with retryAt := 0, postponed := false, panel := if s.epd.panel = 5 then 1 else s.epd.panel, readPend := true }) ∧
  (∀ s : State, s.epd.retryAt = 0 ∨ s.clk.bndTot < s.epd.retryAt → Idles .displayRetry s)

/-! ## Sentinel, outage, journal and supplies (spec/21, spec/23) -/

/-- 21 R706 to R709, R711, R712, R716; 20 R694; 23 R785 to R790; 09 R335; 14 R504: the outage and the supplies. The mains-loss signal takes the rail
off and withdraws every token in every condition that has an image or could have one; in RUN the cycle is closed, the bindings end and the OUTAGE record is
written. Then the hub restarts with cause 0x07 when the signal has fallen, or shows last light where it is allowed and goes DORMANT. A brownout or a
stopped oscillator resets the hub at once. Life-cycle cells and key slots survive all of it. -/
def Obligations.OutageAndSupplies : Prop :=
  (∀ (pf ms : Bool) (o : OutTimes) (s : State), lossOpen s = true → s.life.cond = .run → pf = true ∨ ms = true →
    Does (.mainsLoss pf ms o) s [.gates, .life, .flash, .ports, .met, .pmet, .safe, .psafe, .cp, .ses, .led, .recs, .phy, .lnk, .ev, .sen, .jrn]
      fun t => OutageBegun (b2n ms + 2 * b2n pf) s t ∧ t.met.closedOut = true ∧ t.met.todo = [] ∧ t.gates.bindInlet = [] ∧
        (t.sen.steps = 7 ∨ t.sen.steps = 15) ∧ (t.sen.steps = 15 → t.jrn.next = s.jrn.next + 1) ∧ (s.jrn.stopped = true → t.sen.steps = 7)) ∧
  (∀ (pf ms : Bool) (o : OutTimes) (s : State), lossOpen s = true → s.life.cond ≠ .run → pf = true ∨ ms = true →
    Does (.mainsLoss pf ms o) s [.life, .flash, .ports, .safe, .psafe, .cp, .phy, .lnk, .ev, .sen] fun t =>
      OutageBegun (b2n ms + 2 * b2n pf) s t ∧ t.sen.steps = 1) ∧
  (∀ (pf ms : Bool) (o : OutTimes) (s : State), lossOpen s = false ∨ (pf = false ∧ ms = false) → Idles (.mainsLoss pf ms o) s) ∧
  (∀ s : State, s.life.cond = .outage → s.sen.seq = 4 → s.elec.supplyOk = true →
    Does (.outageJournalDone true) s ([.sen] ++ restartParts) fun t =>
      Restarted 7 t ∧ t.sen.mlSig = false ∧ t.sen.st = .powered ∧ t.sen.retRtc = s.sen.rtcS ∧ t.life.cells = s.life.cells ∧
        t.keys.slots = s.keys.slots ∧ t.ev.ring = (raise 0x7123 8 255 4 s).ev.ring) ∧
  (∀ s : State, s.life.cond = .outage → s.sen.seq = 4 → s.elec.supplyOk = true → llWhy s = 0 →
    Does (.outageJournalDone false) s [.tag, .epd, .ev, .sen] fun t =>
      t.epd.lastLight = true ∧ t.sen.vback = true ∧ t.sen.seq = 5 ∧ t.sen.st = s.sen.st ∧ t.epd.regions[0].active = true ∧
        t.epd.regions[0].rect = wholePanel s ∧ t.epd.regions[0].lastLight = true ∧ (modelTaken t).map (·.inProgress) = some true) ∧
  (∀ s : State, s.life.cond = .outage → s.sen.seq = 4 → s.elec.supplyOk = true → llWhy s ≠ 0 → s.epd.lastLight = false →
    Does (.outageJournalDone false) s [.life, .tag, .epd, .ev, .sen] fun t =>
      Dormant s t ∧ t.epd.ll = 2 ∧ (∀ k : Fin 4, t.epd.regions[k].active = false) ∧
        t.ev = (raise 0x8008 7 255 (llWhy s) (raiseIf (decide (running s ≠ [])) 0x8009 7 255 (running s).length s)).ev) ∧
  (∀ (f : Bool) (s : State), s.life.cond ≠ .outage ∨ s.sen.seq ≠ 4 ∨ s.elec.supplyOk = false → Idles (.outageJournalDone f) s) ∧
  (∀ s : State, s.epd.lastLight = true →
    Does .lastLightDone s [.life, .tag, .epd, .ev, .sen] fun t =>
      Dormant s t ∧ t.epd.lastLight = false ∧ t.epd.unknown = false ∧ t.epd.ll = 1 ∧ t.epd.pwrEn = false ∧ t.epd.vcom = 0 ∧
        (modelTaken t).map (fun c => (c.lastLight, c.inProgress, c.unknown)) = some (true, false, false) ∧
        bitOf t.sen.steps 4 = true ∧ t.ev = (raise 0x8007 7 255 s.epd.llFrames s).ev) ∧
  (∀ s : State, s.epd.lastLight = false → Idles .lastLightDone s) ∧
  (∀ s : State, s.sen.mlSig = true → s.elec.supplyOk = true → s.life.cond ≠ .outage ∨ s.epd.lastLight = true →
    Does .supplyFallInOutage s [.elec] fun t => t.elec = { s.elec with supplyOk := false }) ∧
  (∀ s : State, s.sen.mlSig = true → s.elec.supplyOk = true → s.life.cond = .outage → s.epd.lastLight = false →
    Does .supplyFallInOutage s [.life, .tag, .sen, .elec] fun t =>
      Dormant s t ∧ t.elec = { s.elec with supplyOk := false } ∧ (s.sen.seq ≠ 4 → t.tag = s.tag)) ∧
  (∀ s : State, s.sen.mlSig = false ∨ s.elec.supplyOk = false → Idles .supplyFallInOutage s) ∧
  (∀ s : State, s.sen.mlSig = false → s.elec.supplyOk = true →
    Does .supplyBrownout s ([.elec] ++ restartParts) (fun t =>
        HubOff 1 s t ∧ t.elec = { s.elec with supplyOk := false }) ∧
      Does .xtal25Stop s ([.elec] ++ restartParts) (fun t => HubOff 1 s t ∧ t.elec = { s.elec with xtalOk := false })) ∧
  (∀ s : State, s.sen.mlSig = true ∨ s.elec.supplyOk = false →
    Idles .supplyBrownout s ∧
      Does .xtal25Stop s [.safe, .elec] fun t =>
        t.elec = { s.elec with xtalOk := false } ∧ t.safe.a.out = false ∧ t.safe.b.out = false ∧ t.safe.a.armed = s.safe.a.armed)

/-- 21 R695 to R697, R699 to R705, R715, R718, R721, R723, R728; 16 R540: the sentinel's own commands. A gauge sample gives PCT and the level with
its hysteresis and event 0x7124, and connects or disconnects the cell; openings are counted once for a closed sample followed by two open ones,
stamped with the RTC; the tag's gauge area alone is rewritten; a stopped RTC oscillator clears RTC_VALID, which only a time set gives
back; a cold start resumes the RTC and the cover records from the tag; an erase that ends leaves its sector ERASED and the marker clear. Time between
periodic commands comes with them (log entry 14). -/
def Obligations.SentinelAndJournal : Prop :=
  (∀ (adv v q : Nat) (fl : Bool) (l : Nat) (s : State), s.sen.st ≠ .cold → memWf 0 s.tag.mem = true → l = levelAfter v s →
    Does (.gaugeSample adv v q fl) s [.tag, .ev, .sen] fun t =>
      t.sen.level = l ∧ t.sen.pct = gaugePct s v ∧ t.sen.vStore = v ∧ t.sen.vQuick = q ∧ t.sen.rtcS = (passTime adv s).sen.rtcS ∧
        t.sen.mono = s.sen.mono + adv ∧ t.sen.cellOn = cellAfter l s.sen.vsent s ∧
        t.sen.deepChg = ((s.sen.vsent || fl || s.sen.pvOn) && decide (3000 ≤ q) && (sentinelRec s).isSome && decide (v < senFld s 111 96 0)) ∧
        t.ev = (raiseIf (cellOnAt l s.sen.vsent s) 0x7127 8 255 1 (raiseIf (decide (l ≠ s.sen.level)) 0x7124 8 255 (s.sen.level * 16 + l) s)).ev ∧
        (l = s.sen.level → t.tag = s.tag) ∧ TagKeeps 64 75 s t) ∧
  (∀ s : State, s.sen.cellOn = true → s.sen.st ≠ .cold →
    Does .cellLow s [.ev, .sen] fun t => t.sen.cellLow = true ∧ t.sen.cellOn = true ∧ t.ev = (raise 0x7127 8 255 2 s).ev) ∧
  (∀ s : State, s.sen.cellOn = false ∨ s.sen.st = .cold → Idles .cellLow s) ∧
  (∀ (mv : Nat) (s : State), s.sen.st ≠ .cold →
    Does (.mpptSample mv) s [.sen] fun t => t.sen = { s.sen with pvMv := mv * senFld s 79 72 76 / 100, pvOn := decide (0 < mv) }) ∧
  (∀ (adv : Nat) (c e : Bool) (s : State), s.sen.st ≠ .cold → permits s 3 = true → memWf 0 s.tag.mem = true →
    Does (.tamperSample adv c e) s [.tag, .ev, .sen, .tamper] fun t =>
      t.tamper.cover = (if coverOpens c s then s.tamper.cover.hit (stampOf (passTime adv s)) else s.tamper.cover) ∧
        t.tamper.term = (if termOpens e s then s.tamper.term.hit (stampOf (passTime adv s)) else s.tamper.term) ∧
        t.tamper.headRem = s.tamper.headRem ∧ t.tamper.slotChg = s.tamper.slotChg ∧ t.tamper.exc = s.tamper.exc ∧ t.tamper.clock = s.tamper.clock ∧
        t.ev = (raiseIf (termOpens e s) 0x7141 8 255 (inc16 s.tamper.term.count)
          (raiseIf (coverOpens c s) 0x7140 8 255 (inc16 s.tamper.cover.count) s)).ev ∧
        (coverOpens c s = false → termOpens e s = false → t.tag = s.tag) ∧ TagKeeps 64 75 s t ∧
        (senFld s 70 70 0 = 1 → c ≠ (senFld s 69 69 0 == 1) → t.tamper.coverArm = true ∧ t.tamper.coverHist = [false])) ∧
  (∀ (adv : Nat) (c e : Bool) (s : State), s.sen.st ≠ .cold → permits s 3 = false →
    Does (.tamperSample adv c e) s [.sen] fun t => t.sen = (passTime adv s).sen) ∧
  (∀ (adv : Nat) (s : State), s.sen.st ≠ .cold → memWf 0 s.tag.mem = true →
    Does (.gaugeTagUpdate adv) s [.tag, .sen] fun t =>
      TagKeeps 64 75 s t ∧ t.sen.rtcS = (passTime adv s).sen.rtcS ∧
        (s.sen.level ≤ 3 ∨ (s.sen.st ≠ .powered ∧ s.sen.cellOn = true) → tagBlock t 64 = bytesLE 8 (passTime adv s).sen.rtcS ∧
          tagBlock t 65 = ([s.sen.level % 256, s.sen.pct % 256] ++ bytesLE 2 s.sen.vStore ++ bytesLE 2 (inc16 s.tag.gaugeN) ++ [0, 0])) ∧
        (permits s 3 = false → t.tag = s.tag)) ∧
  (∀ s : State, s.sen.st ≠ .cold → s.sen.xtalFault = false →
    Does .rtcOscStop s [.ev, .sen] fun t =>
      t.sen.rtcValid = false ∧ t.sen.xtalFault = true ∧ t.sen.rtcRef = (s.elec.xtalOk && s.elec.supplyOk) ∧ t.sen.rtcS = s.sen.rtcS ∧
        t.ev = (raise 0x7126 8 255 0 s).ev) ∧
  (∀ s : State, s.sen.st = .cold ∨ s.sen.xtalFault = true → Idles .rtcOscStop s) ∧
  (∀ s : State, s.sen.st ≠ .cold →
    Does .rtcOscRestart s [.sen] fun t => t.sen = { s.sen with xtalFault := false, rtcRef := false } ∧ t.sen.rtcValid = s.sen.rtcValid) ∧
  (∀ (p : Bool) (s : State), s.sen.st ≠ .cold →
    Does (.vsentChange p) s [.ev, .sen] fun t =>
      t.sen.vsent = p ∧ t.sen.cellOn = cellAfter s.sen.level p s ∧ t.ev = (raiseIf (cellOnAt s.sen.level p s) 0x7127 8 255 1 s).ev) ∧
  (∀ (p : Bool) (s : State), s.sen.st = .cold → Does (.vsentChange p) s [.sen] fun t => t.sen = { s.sen with vsent := p }) ∧
  (∀ s : State, s.sen.st = .cold →
    Does .sentinelColdStart s [.sen, .tamper] fun t =>
      t.sen.st = (if s.elec.supplyOk then .powered else .dormant) ∧ t.sen.rtcS = natLE (tagBlock s 64) ∧ t.sen.rtcSub = 0 ∧
        t.sen.rtcValid = false ∧ t.sen.coldStarts = inc32 s.sen.coldStarts ∧ t.sen.mlSig = false ∧ t.sen.bufLost = 0 ∧
        t.sen.buf = [{ count := s.clk.count, code := 0x7125, source := 8, point := 255, arg := natLE (tagBlock s 64) % 2 ^ 32 }] ∧
        t.tamper.cover.count = natLE ((tagBlock s 74).take 2) ∧ t.tamper.cover.last = natLE (tagBlock s 71) % 2 ^ 55 ∧
        t.tamper.term.count = natLE (((tagBlock s 74).drop 2).take 2) ∧ t.tamper.headRem = s.tamper.headRem ∧ t.tamper.clock = s.tamper.clock) ∧
  (∀ s : State, s.sen.st ≠ .cold → Idles .sentinelColdStart s) ∧
  (∀ s : State, Does .sentinelRailLoss s [.sen] fun t =>
    t.sen.st = .cold ∧ t.sen.mlSig = false ∧ t.sen.cellOn = false ∧ t.sen.vback = false ∧ t.sen.rtcValid = false ∧ t.sen.buf = [] ∧
      t.sen.outages = s.sen.outages ∧ t.sen.coldStarts = s.sen.coldStarts) ∧
  (∀ (adv v q : Nat) (a b : Bool) (c : Instr) (s : State), c ∈ [Instr.gaugeSample adv v q a, .mpptSample v, .tamperSample adv a b,
      .gaugeTagUpdate adv, .rtcOscRestart] → s.sen.st = .cold → Idles c s) ∧
  (∀ (i : Nat) (s : State), s.jrn.erasing = some i → s.sen.mlSig = false →
    Does .journalEraseDone s [.ev, .sen, .jrn] fun t =>
      t.jrn = { s.jrn with erasing := none, marker := none, secs := kset i { st := .erased } s.jrn.secs } ∧ (jsec t i).st = .erased ∧
        t.ev = (raiseIf (secSuspect (jsec s i)) 0x7150 3 255 i s).ev) ∧
  (∀ s : State, s.jrn.erasing = none ∨ s.sen.mlSig = true → Idles .journalEraseDone s)

/-! ## Health, repair and events (spec/22) -/

/-- 22 R735 to R743, R752, R757, R758: the fabric is tested and repaired in turn. A lane step hands a position to the free spare of its parity, or
tests the spare after a mismatch; a judged lane returns by a dual run, is SUSPECT, or RETIRED when it was SUSPECT; a residue error makes a lane SUSPECT and
hands it off, and a second in one cycle is a lost heartbeat of MET. Rows and blocks are copied, tested, moved and retired by Tables 22.3 and 22.7. A
step that is not due changes nothing. -/
def Obligations.FabricIsTestedAndRepaired : Prop :=
  (∀ (m : Bool) (s : State), laneStepDue s = false → Idles (.laneStep m) s) ∧
  (∀ (m : Bool) (s : State), laneStepDue s = true → stepSpare s = none ∨ laneAt s (stepPos s) = none →
    Does (.laneStep m) s [.gates, .fab, .freeCtr] fun t => t.fab = { s.fab with skips := s.fab.skips + 1 }) ∧
  (∀ (l sp : Fin 18) (s : State), laneStepDue s = true → stepSpare s = some sp → laneAt s (stepPos s) = some l →
    Does (.laneStep false) s [.gates, .fab, .freeCtr] fun t =>
      t.fab.lanes[l] = { s.fab.lanes[l] with st := .underTest, pos := none } ∧
        t.fab.lanes[sp] = { s.fab.lanes[sp] with st := .inService, pos := some (stepPos s) } ∧ OtherLanes [l, sp] s t ∧
        t.fab.step = { pos := stepPos s, lane := l.val, spare := sp.val, at_ := s.clk.count, phase := 2 } ∧
        t.fab.steps = inc32 s.fab.steps ∧ t.fab.banks = s.fab.banks ∧ t.fab.mismatch = s.fab.mismatch) ∧
  (∀ (l sp : Fin 18) (s : State), laneStepDue s = true → stepSpare s = some sp → laneAt s (stepPos s) = some l →
    Does (.laneStep true) s [.gates, .fab, .ev, .sen, .freeCtr] fun t =>
      t.fab.lanes[sp] = { s.fab.lanes[sp] with st := .underTest } ∧ OtherLanes [sp] s t ∧
        t.fab.step = { pos := stepPos s, lane := l.val, spare := sp.val, at_ := s.clk.count, phase := 3 } ∧
        t.fab.mismatch = inc32 s.fab.mismatch ∧ t.fab.banks = s.fab.banks ∧
        t.ev = (raise 0x9021 1 255 (l.val * 2 ^ 24 + sp.val * 2 ^ 16 + 2 ^ 8) s).ev) ∧
  (∀ (l : Fin 18) (g : Nat) (r : Bool) (s : State), stepJudged l s = true ∨ retestDue l s = true → s.fab.lanes[l].st ≠ .suspect →
    Does (.laneJudge l true g r) s [.fab, .ev, .sen] fun t =>
      LaneCounted l s t ∧ OtherLanes [l] s t ∧ t.fab.lanes[l].st = .suspect ∧ t.fab.lanes[l].fails = min 7 (s.fab.lanes[l].fails + 1) ∧
        t.fab.lanes[l].retestAt = some (s.clk.count + 512) ∧ t.fab.lanes[l].pos = s.fab.lanes[l].pos ∧ t.fab.fails = inc32 s.fab.fails ∧
        t.ev = (raise 0x9022 1 255 (l.val * 2 ^ 24 + judgeCarrier l s * 2 ^ 16 + min 7 (s.fab.lanes[l].fails + 1) * 2 ^ 8 + g) s).ev) ∧
  (∀ (l : Fin 18) (g : Nat) (r : Bool) (s : State), stepJudged l s = true ∨ retestDue l s = true → s.fab.lanes[l].st = .suspect →
    Does (.laneJudge l true g r) s [.fab, .ev, .sen] fun t =>
      LaneCounted l s t ∧ OtherLanes [l] s t ∧ t.fab.lanes[l].st = .retired ∧ t.fab.lanes[l].pos = none ∧
        t.fab.lanes[l].retestAt = none ∧ t.fab.fails = inc32 s.fab.fails ∧ t.ev = (raise 0x9023 1 255 (l.val * 2 ^ 24) s).ev) ∧
  (∀ (l : Fin 18) (g : Nat) (r : Bool) (s : State), stepJudged l s = true → s.fab.step.phase = 2 →
    Does (.laneJudge l false g r) s [.fab] fun t =>
      LaneCounted l s t ∧ OtherLanes [l] s t ∧ t.fab.lanes[l].st = s.fab.lanes[l].st ∧ t.fab.lanes[l].pos = s.fab.lanes[l].pos ∧
        t.fab.ret = { s.fab.step with at_ := s.clk.count + 1, phase := if r then 5 else 4 } ∧ t.fab.fails = s.fab.fails) ∧
  (∀ (l k : Fin 18) (g : Nat) (r : Bool) (s : State), stepJudged l s = true → s.fab.step.phase = 3 → s.fab.step.lane = k.val →
    Does (.laneJudge l false g r) s [.fab] fun t =>
      LaneCounted l s t ∧ OtherLanes [l, k] s t ∧ t.fab.lanes[k].st = .suspect ∧ (k ≠ l → t.fab.lanes[l].st = .spare) ∧
        t.fab.takeDue = s.fab.takeDue ++ [(k.val, false)] ∧ t.fab.fails = s.fab.fails) ∧
  (∀ (l : Fin 18) (g : Nat) (r : Bool) (s : State), retestDue l s = true →
    Does (.laneJudge l false g r) s [.fab] fun t =>
      LaneCounted l s t ∧ OtherLanes [l] s t ∧ t.fab.lanes[l].st = .spare ∧ t.fab.lanes[l].retestAt = none ∧ t.fab.lanes[l].pos = none) ∧
  (∀ (l : Fin 18) (f : Bool) (g : Nat) (r : Bool) (s : State), stepJudged l s = false → retestDue l s = false → Idles (.laneJudge l f g r) s) ∧
  (∀ (l : Fin 18) (s : State), s.life.cond = .run → s.fab.lanes[l].resCy = 0 → inReturn l s = true →
    Does (.laneResidueError l) s [.fab] fun t =>
      OtherLanes [l] s t ∧ t.fab.lanes[l] = { s.fab.lanes[l] with residue := inc16 s.fab.lanes[l].residue, resCy := 1 } ∧
        t.fab.residue = inc32 s.fab.residue ∧ t.fab.ret = { s.fab.ret with phase := 5 } ∧ t.fab.takeDue = s.fab.takeDue) ∧
  (∀ (l : Fin 18) (s : State), s.life.cond = .run → s.fab.lanes[l].resCy = 0 → inReturn l s = false → s.fab.lanes[l].pos ≠ none →
    Does (.laneResidueError l) s [.fab] fun t =>
      OtherLanes [l] s t ∧ t.fab.lanes[l] = { s.fab.lanes[l] with residue := inc16 s.fab.lanes[l].residue, resCy := 1, st := .suspect } ∧
        t.fab.residue = inc32 s.fab.residue ∧ t.fab.ret = s.fab.ret ∧ (∃ b, (l.val, b) ∈ t.fab.takeDue)) ∧
  (∀ (l : Fin 18) (s : State), s.life.cond = .run → 1 ≤ s.fab.lanes[l].resCy → inReturn l s = true ∨ s.fab.lanes[l].pos ≠ none →
    Does (.laneResidueError l) s restartParts fun t => Restarted 3 t) ∧
  (∀ (l : Fin 18) (s : State), s.life.cond ≠ .run ∨ (inReturn l s = false ∧ s.fab.lanes[l].pos = none) → Idles (.laneResidueError l) s) ∧
  (∀ (l sp : Fin 18) (d : Nat × Bool) (s : State), s.fab.takeDue.find? (·.1 == l.val) = some d → (finList 18).find? (laneFree s) = some sp →
    Does (.laneHandoff l) s [.gates, .fab, .ev, .sen, .freeCtr] fun t =>
      t.fab.lanes[sp].st = .inService ∧ t.fab.lanes[sp].pos = s.fab.lanes[l].pos ∧ OtherLanes [l, sp] s t ∧
        (sp ≠ l → t.fab.lanes[l] = { s.fab.lanes[l] with st := .suspect, pos := none, retestAt := some (s.clk.count + 512) }) ∧
        t.fab.takeDue = s.fab.takeDue.filter (·.1 != l.val) ∧ t.ev = (raiseIf d.2 0x9020 1 255 (l.val * 2 ^ 24 + sp.val * 2 ^ 16) s).ev) ∧
  (∀ (l : Fin 18) (n : Nat) (s : State), s.fab.takeDue.find? (·.1 == l.val) = some (n, true) → (finList 18).find? (laneFree s) = none →
    Does (.laneHandoff l) s [.gates, .fab, .ev, .sen, .freeCtr] fun t =>
      t.fab.lanes[l] = { s.fab.lanes[l] with st := .inService } ∧ OtherLanes [l] s t ∧
        t.fab.takeDue = s.fab.takeDue.filter (·.1 != l.val) ∧ t.ev = (raise 0x9020 1 255 (l.val * 2 ^ 24 + 0xFF * 2 ^ 16) s).ev) ∧
  (∀ (l : Fin 18) (n : Nat) (s : State), s.fab.takeDue.find? (·.1 == l.val) = none ∨
      (s.fab.takeDue.find? (·.1 == l.val) = some (n, false) ∧ (finList 18).find? (laneFree s) = none) → Idles (.laneHandoff l) s) ∧
  (∀ (k : Fin 32) (f : Bool) (s : State), rowStepDue s = false → Idles (.sramRowStep k f) s) ∧
  (∀ (k : Fin 32) (f : Bool) (s : State), rowStepDue s = true → freeRow s.fab.banks[k] = none →
    Does (.sramRowStep k f) s [.gates, .fab, .freeCtr] fun t =>
      t.fab.banks[k] = { s.fab.banks[k] with testing := false } ∧ OtherBanks k s t) ∧
  (∀ (k : Fin 32) (r sp : Nat) (s : State), rowStepDue s = true → freeRow s.fab.banks[k] = some sp → r = turnRow s.fab.banks[k] →
    (rowOf s.fab.banks[k] r).st ≠ .suspect ∨ (rowOf s.fab.banks[k] r).spare = none →
    Does (.sramRowStep k true) s [.gates, .fab, .ev, .sen, .freeCtr] (fun t =>
        RowTurn k r s t ∧ (rowOf t.fab.banks[k] r).st = .suspect ∧ (rowOf t.fab.banks[k] r).spare = some sp ∧
          t.ev = (raise 0x9031 1 255 (k.val * 2 ^ 24 + r * 2 ^ 12 + sp * 2 ^ 8) s).ev) ∧
      Does (.sramRowStep k false) s [.gates, .fab, .freeCtr] fun t =>
        RowTurn k r s t ∧
          ((s.fab.banks[k].rows.filter (·.row == r)).length ≤ 1 → (rowOf t.fab.banks[k] r).st = (rowOf s.fab.banks[k] r).st)) ∧
  (∀ (k : Fin 32) (r sp : Nat) (s : State), rowStepDue s = true → freeRow s.fab.banks[k] = some sp → r = turnRow s.fab.banks[k] →
    (rowOf s.fab.banks[k] r).st = .suspect → (rowOf s.fab.banks[k] r).spare ≠ none →
    Does (.sramRowStep k true) s [.gates, .fab, .ev, .sen, .freeCtr] (fun t =>
        RowTurn k r s t ∧ (rowOf t.fab.banks[k] r).st = .retired ∧ (rowOf t.fab.banks[k] r).spare = (rowOf s.fab.banks[k] r).spare ∧
          t.ev = (raise 0x9032 1 255 (k.val * 2 ^ 24 + r * 2 ^ 12) s).ev) ∧
      Does (.sramRowStep k false) s [.gates, .fab, .freeCtr] fun t => RowTurn k r s t ∧ rowOf t.fab.banks[k] r = { row := r }) ∧
  (∀ (k : Fin 32) (r sp : Nat) (s : State), r ∈ s.fab.banks[k].moveDue → freeRow s.fab.banks[k] = some sp →
    Does (.sramRowMove k r) s [.gates, .fab, .ev, .sen, .freeCtr] fun t =>
      OtherBanks k s t ∧ t.fab.banks[k].moveDue = s.fab.banks[k].moveDue.erase r ∧ (rowOf t.fab.banks[k] r).st = .suspect ∧
        (rowOf t.fab.banks[k] r).spare = some sp ∧ (∀ q : Fin 512, q.val ≠ r → rowOf t.fab.banks[k] q = rowOf s.fab.banks[k] q) ∧
        t.ev = (raise 0x9031 1 255 (k.val * 2 ^ 24 + r * 2 ^ 12 + sp * 2 ^ 8) s).ev) ∧
  (∀ (k : Fin 32) (r : Nat) (s : State), r ∈ s.fab.banks[k].moveDue → freeRow s.fab.banks[k] = none →
    Does (.sramRowMove k r) s [.gates, .fab, .ev, .sen, .freeCtr] fun t =>
      OtherBanks k s t ∧ t.fab.banks[k].moveDue = s.fab.banks[k].moveDue.erase r ∧ (rowOf t.fab.banks[k] r).st = .inService ∧
        (∀ q : Fin 512, q.val ≠ r → rowOf t.fab.banks[k] q = rowOf s.fab.banks[k] q) ∧ t.ev = (raise 0x9034 1 255 (k.val * 2 ^ 24) s).ev) ∧
  (∀ (k : Fin 32) (r : Nat) (s : State), r ∉ s.fab.banks[k].moveDue → Idles (.sramRowMove k r) s) ∧
  (∀ (k : Fin 32) (r : Nat) (s : State), (rowOf s.fab.banks[k] r).st ≠ .inService ∨ (rowOf s.fab.banks[k] r).ceRot = 0 →
    Does (.sramCorrectableError k r) s [.fab] fun t =>
      OtherBanks k s t ∧ t.fab.banks[k].ce = inc32 s.fab.banks[k].ce ∧ t.fab.banks[k].moveDue = s.fab.banks[k].moveDue ∧
        rowOf t.fab.banks[k] r = { rowOf s.fab.banks[k] r with ceRot := (rowOf s.fab.banks[k] r).ceRot + 1 }) ∧
  (∀ (k : Fin 32) (r sp : Nat) (s : State), (rowOf s.fab.banks[k] r).st = .inService → 1 ≤ (rowOf s.fab.banks[k] r).ceRot →
    freeRow (bankRead r s.fab.banks[k]) = some sp →
    Does (.sramCorrectableError k r) s [.fab] fun t =>
      OtherBanks k s t ∧ t.fab.banks[k].ce = inc32 s.fab.banks[k].ce ∧ t.fab.banks[k].moveDue = s.fab.banks[k].moveDue ++ [r] ∧
        (rowOf t.fab.banks[k] r).st = .suspect) ∧
  (∀ (k : Fin 32) (r : Nat) (s : State), (rowOf s.fab.banks[k] r).st = .inService → 1 ≤ (rowOf s.fab.banks[k] r).ceRot →
    freeRow (bankRead r s.fab.banks[k]) = none →
    Does (.sramCorrectableError k r) s [.fab, .ev, .sen] fun t =>
      OtherBanks k s t ∧ t.fab.banks[k] = bankRead r s.fab.banks[k] ∧ (rowOf t.fab.banks[k] r).st = .inService ∧
        t.ev = (raise 0x9034 1 255 (k.val * 2 ^ 24) s).ev) ∧
  (∀ (k : Fin 32) (r : Nat) (s : State), r < 512 → s.elec.supplyOk = true →
    Does (.sramUncorrectableError k r) s restartParts fun t =>
      t = engineLost (bankOwner k)
          (raise 0x9033 1 255 (k.val * 2 ^ 24 + r * 2 ^ 12 + srcOf (bankOwner k)) (modBank k (fun x => { x with ue := inc32 x.ue }) s)) ∧
        (bankOwner k = .boot ∨ bankOwner k = .met ∨ bankOwner k = .led → Restarted 3 t)) ∧
  (∀ (k : Fin 32) (r : Nat) (s : State), 512 ≤ r ∨ s.elec.supplyOk = false → Idles (.sramUncorrectableError k r) s) ∧
  (∀ (f : Bool) (s : State), blkStepDue s = false → Idles (.mramBlockStep f) s) ∧
  (∀ (f : Bool) (s : State), blkStepDue s = true → freeBlk s = none →
    Does (.mramBlockStep f) s [.gates, .fab, .ev, .sen, .freeCtr] fun t =>
      BlkTurn (turnBlk s) s t ∧ t.fab.noSpare = true ∧ t.fab.spares = s.fab.spares ∧ t.ev = (raiseIf (!s.fab.noSpare) 0x9055 1 255 0 s).ev) ∧
  (∀ (b : Nat) (sp : Fin 64) (s : State), blkStepDue s = true → freeBlk s = some sp → b = turnBlk s → (blkOf s b).st ≠ .suspect →
    Does (.mramBlockStep true) s [.gates, .fab, .ev, .sen, .freeCtr] (fun t =>
        BlkTurn b s t ∧ (blkOf t b).st = .suspect ∧ t.fab.spares[sp] = { st := .inService, use := 1, repl := b } ∧ OtherSpares sp s t ∧
          t.ev = (raise 0x9051 1 255 (b * 2 ^ 22 + sp.val * 2 ^ 16) s).ev) ∧
      Does (.mramBlockStep false) s [.gates, .fab, .freeCtr] fun t =>
        BlkTurn b s t ∧ t.fab.spares = s.fab.spares ∧ t.fab.rolling = some (b, sp.val) ∧
          ((s.fab.blks.filter (·.blk == b)).length ≤ 1 → (blkOf t b).st = (blkOf s b).st)) ∧
  (∀ (b : Nat) (sp k : Fin 64) (s : State), blkStepDue s = true → freeBlk s = some sp → b = turnBlk s → (blkOf s b).st = .suspect →
    spareOf s b = some k →
    Does (.mramBlockStep true) s [.gates, .fab, .ev, .sen, .freeCtr] (fun t =>
        BlkTurn b s t ∧ (blkOf t b).st = .retired ∧ t.fab.spares = s.fab.spares ∧ t.ev = (raise 0x9052 1 255 (b * 2 ^ 22) s).ev) ∧
      Does (.mramBlockStep false) s [.gates, .fab, .ev, .sen, .freeCtr] fun t =>
        BlkTurn b s t ∧ (blkOf t b).st = .inService ∧ t.fab.spares[k] = { st := .spare, use := 3, repl := 0 } ∧ OtherSpares k s t ∧
          t.fab.returns = inc32 s.fab.returns ∧ t.ev = (raise 0x9053 1 255 (b * 2 ^ 22) s).ev) ∧
  (∀ (b : Nat) (sp : Fin 64) (s : State), b ∈ s.fab.blkMove → s.clk.count % 64 = 0 → freeBlk s = some sp →
    Does (.mramBlockMove b) s [.gates, .fab, .ev, .sen, .freeCtr] fun t =>
      t.fab.blkMove = s.fab.blkMove.erase b ∧ (blkOf t b).st = .suspect ∧ t.fab.spares[sp] = { st := .inService, use := 1, repl := b } ∧
        OtherSpares sp s t ∧ t.fab.lanes = s.fab.lanes ∧ t.fab.banks = s.fab.banks ∧
        t.ev = (raise 0x9051 1 255 (b * 2 ^ 22 + sp.val * 2 ^ 16) s).ev) ∧
  (∀ (b : Nat) (s : State), b ∈ s.fab.blkMove → s.clk.count % 64 = 0 → freeBlk s = none →
    Does (.mramBlockMove b) s [.gates, .fab, .ev, .sen, .freeCtr] fun t =>
      t.fab.blkMove = s.fab.blkMove.erase b ∧ (blkOf t b).st = .inService ∧ t.fab.spares = s.fab.spares ∧
        t.ev = (raise 0x9055 1 255 0 s).ev) ∧
  (∀ (b : Nat) (s : State), b ∉ s.fab.blkMove ∨ s.clk.count % 64 ≠ 0 → Idles (.mramBlockMove b) s) ∧
  (∀ (b : Nat) (s : State), (blkOf s b).st = .inService → (blkOf s b).cePrev = true ∨ 4 ≤ (blkOf s b).ceRot →
    Does (.mramCorrectableError b) s [.fab] fun t =>
      t.fab.bce = inc32 s.fab.bce ∧ (blkOf t b).st = .suspect ∧ t.fab.blkMove = s.fab.blkMove ++ [b] ∧ t.fab.spares = s.fab.spares) ∧
  (∀ (b : Nat) (s : State), (blkOf s b).st ≠ .inService ∨ ((blkOf s b).cePrev = false ∧ (blkOf s b).ceRot < 4) →
    Does (.mramCorrectableError b) s [.fab] fun t =>
      t.fab.bce = inc32 s.fab.bce ∧ blkOf t b = { blkOf s b with ceRot := (blkOf s b).ceRot + 1 } ∧ t.fab.blkMove = s.fab.blkMove ∧
        t.fab.spares = s.fab.spares) ∧
  (∀ (a : Nat) (w : MramStruct) (s : State), s.elec.supplyOk = true →
    Does (.mramUncorrectableError a w) s [.clk, .keys, .pmet, .safe, .epd, .fab, .ev, .sen] fun t =>
      StructLost w s t ∧ t.fab = { s.fab with bue := inc32 s.fab.bue } ∧ t.ev = (raise 0x9054 1 255 (a % 2 ^ 32) s).ev) ∧
  (∀ (a : Nat) (w : MramStruct) (s : State), s.elec.supplyOk = false → Idles (.mramUncorrectableError a w) s) ∧
  (∀ (f : Bool) (b : Nat) (sp : Fin 64) (s : State), blkStepDue s = true → freeBlk s = some sp → b = turnBlk s → (blkOf s b).st = .suspect →
    spareOf s b = none → Does (.mramBlockStep f) s [.gates, .fab, .freeCtr] fun t => BlkTurn b s t ∧ t.fab.spares = s.fab.spares)

/-- 22 R745, R746, R747; 21 R712; 03 R87: the event unit. An event accepted takes the next ESEQ and heads the ring of 1 024; past 48 in a cycle
only 16 more of class 0x1xxx are accepted and the rest is counted as dropped; before C0 128 are held; with VDD33 gone the sentinel buffer
takes 15. The argument keeps 32 bits. -/
def Obligations.EventsAreAcceptedHeldOrDropped : Prop :=
  (∀ (c src p a : Nat) (s : State), s.elec.supplyOk = true → s.clk.started = true → s.ev.acc < 48 ∨ (c / 0x1000 = 1 ∧ s.ev.accSafe < 16) →
    Does (.eventRaised c src p a) s [.ev] fun t =>
      t.ev.next = s.ev.next + 1 ∧
        t.ev.ring = (s.ev.next, s.clk.bndTot, { count := s.clk.count, code := c, source := src, point := p, arg := a % 2 ^ 32 }) :: s.ev.ring.take 1023 ∧
        t.ev.acc + t.ev.accSafe = s.ev.acc + s.ev.accSafe + 1 ∧ t.ev.dropped = s.ev.dropped ∧ t.ev.held = s.ev.held ∧
        (s.ev.next ≤ 1024 ∨ s.ev.next - 1024 ≤ s.ev.journaled → t.ev.lost = s.ev.lost ∧ t.ev.lostDue = s.ev.lostDue) ∧
        (1024 < s.ev.next → s.ev.journaled < s.ev.next - 1024 → t.ev.lost = inc32 s.ev.lost)) ∧
  (∀ (c src p a : Nat) (s : State), s.elec.supplyOk = true → s.clk.started = true → 48 ≤ s.ev.acc → c / 0x1000 ≠ 1 ∨ 16 ≤ s.ev.accSafe →
    Does (.eventRaised c src p a) s [.ev] fun t => t.ev = { s.ev with dropped := s.ev.dropped + 1 }) ∧
  (∀ (c src p a : Nat) (s : State), s.elec.supplyOk = true → s.clk.started = false →
    Does (.eventRaised c src p a) s [.ev] fun t =>
      t.ev.next = s.ev.next ∧ t.ev.ring = s.ev.ring ∧
        (s.ev.held.length < 128 → t.ev.heldDrop = s.ev.heldDrop ∧
          t.ev.held = s.ev.held ++ [{ count := s.clk.count, code := c, source := src, point := p, arg := a % 2 ^ 32 }]) ∧
        (128 ≤ s.ev.held.length → t.ev.held = s.ev.held ∧ t.ev.heldDrop = s.ev.heldDrop + 1)) ∧
  (∀ (c src p a : Nat) (s : State), s.elec.supplyOk = false → s.sen.st ≠ .cold →
    Does (.eventRaised c src p a) s [.sen] fun t =>
      (s.sen.buf.length < 15 → t.sen = { s.sen with
        buf := s.sen.buf ++ [{ count := s.clk.count, code := c, source := src, point := p, arg := a % 2 ^ 32 }] }) ∧
        (15 ≤ s.sen.buf.length → t.sen = { s.sen with bufLost := inc32 s.sen.bufLost })) ∧
  (∀ (c src p a : Nat) (s : State), s.elec.supplyOk = false → s.sen.st = .cold → Idles (.eventRaised c src p a) s)

/-! ## The whole machine -/

/-- A step takes the command at the front of the queue and carries it out on the state with the rest of the queue. With an empty queue the block
idles (the model's choice: log entry 7). -/
def Obligations.StepRunsFrontCommand : Prop :=
  (∀ (c : Instr) (q : List Instr) (s : State), s.pending = c :: q → step s = exec c { s with pending := q }) ∧
  (∀ s : State, s.pending = [] → step s = .next s)

/-- Every command of the table, with any operands and in any state, completes: no fault, no refusal. It leaves the queue of waiting commands as it is,
and what the manual never takes back is not taken back: serial number and test-port fuse stand, a burnt life-cycle cell stays burnt (03 R91), ESEQ
(22 R747), RECORD_NO (15 R506) and JSEQ (21 Table 21.8) never fall, and both byte memories keep their form. So a queue of n commands is worked off in n
steps. -/
def Obligations.EveryCommandCompletesAndNothingGoesBack : Prop :=
  (∀ (c : Instr) (s : State), ∃ t, exec c s = .next t ∧ t.pending = s.pending ∧ Later s t) ∧
  (∀ s : State, ∃ t, steps s.pending.length s = .next t ∧ t.pending = [] ∧ Later s t)

/-- The tag's EEPROM and the flash hold rising addresses and no entry that an unlisted address reads as; every step keeps that. -/
def Obligations.StepsKeepTheMemoriesCanonical : Prop :=
  ∀ s t : State, MemInv s → step s = .next t → MemInv t

/-- What power-on leaves, of the values the manual gives: the hub is in START at step S1 with cause 0x01 (03 R84, R107), the clock in ACQUIRE at count 0
without a boundary (02 R56, R83), no image runs (05 R182), every port is DARK (06 R207), both SSMs are disarmed with their outputs low (09 R289), no
lock-out holds, no session, no transient key, and no command waits. Both memories are in canonical form. -/
def Obligations.ResetLeavesTheHubInStart : Prop :=
  MemInv State.reset ∧ State.reset.pending = [] ∧ State.reset.life.cond = .start ∧ State.reset.life.step = 0 ∧ State.reset.life.cause = 1 ∧
    State.reset.clk.state = .acquire ∧ State.reset.clk.started = false ∧ State.reset.clk.count = 0 ∧ State.reset.clk.tick = 0 ∧
    State.reset.img.slot = 255 ∧ State.reset.img.gen = 0 ∧ State.reset.img.recs = [] ∧ State.reset.keys.trans = [] ∧
    (∀ k : Fin 8, State.reset.ports[k].st = .dark) ∧ State.reset.safe.a.armed = false ∧ State.reset.safe.b.armed = false ∧
    State.reset.safe.a.out = false ∧ State.reset.safe.b.out = false ∧ hubLock State.reset = 0 ∧
    ∀ i : Fin 32, State.reset.ses[i] = {} ∧ lockCause State.reset i = 0 ∧ State.reset.cp[i].closeReq = false

/-- 01 R25: nothing that arrives over a vehicle link, a session, the tag, the M-Bus, the Acrad line or for the board reaches the metrology world: whatever
such a command carries and whatever the state, the memory of the metrology world stands, and so do all keys unless the command is one for
which the engine asks an operation of its own slots. -/
def Obligations.CommunicationCannotReachMetrology : Prop :=
  (∀ (c : Instr) (s : State), commCommand c = true → ∃ t, exec c s = .next t ∧ MetrologyStands s t) ∧
  (∀ (c : Instr) (s t : State), commCommand c = true → keyCommand c = false → exec c s = .next t → t.keys = s.keys)
end

