-- ==== Sys2Proof/Laws/Memory.lean ====
section
/-! SUPPORT. The byte memories: every write keeps the canonical form, reads what was written and leaves every other byte. -/

namespace Sys2Proof.Machine

/-- The address that a canonical memory lists first. -/
def memHead : List Host.Cell → Option Nat
  | [] => none
  | c :: _ => some c.1

theorem memWf_tail {d : Byte} {c : Host.Cell} {m : List Host.Cell} (h : memWf d (c :: m) = true) : memWf d m = true := by
  cases m with
  | nil => rfl
  | cons e es => simp [memWf] at h; exact h.2

theorem memWf_cons {d : Byte} {c : Host.Cell} {m : List Host.Cell} :
    memWf d (c :: m) = true ↔ c.2 ≠ d ∧ (∀ e ∈ m.head?, c.1 < e.1) ∧ memWf d m = true := by
  cases m with
  | nil => simp [memWf]
  | cons e es => simp [memWf, and_assoc]

theorem memWrite_head {d : Byte} {a : Nat} {b : Byte} {k : Nat} {m : List Host.Cell} (hk : k < a) (h : ∀ e ∈ m.head?, k < e.1) :
    (hw : memWf d m = true) → ∀ e ∈ (memWrite d a b m).head?, k < e.1 := by
  intro hw
  cases m with
  | nil => simp only [memWrite]; split <;> simp [hk]
  | cons c cs =>
    have hc : k < c.1 := h c (by simp)
    simp only [memWrite]
    split
    · split <;> simp [hk, hc]
    · split
      · split
        · intro e he
          have := (memWf_cons.mp hw).2.1 e he
          omega
        · simp [hk]
      · simp [hc]

/-- A write keeps the canonical form. -/
theorem memWrite_wf {d : Byte} {a : Nat} {b : Byte} {m : List Host.Cell} (h : memWf d m = true) : memWf d (memWrite d a b m) = true := by
  induction m with
  | nil =>
    simp only [memWrite]
    split
    · rfl
    · simpa [memWf] using ‹_›
  | cons c cs ih =>
    have hc := memWf_cons.mp h
    simp only [memWrite]
    split
    · split
      · exact h
      · exact memWf_cons.mpr ⟨‹_›, by simpa using ‹a < c.1›, h⟩
    · split
      · split
        · exact hc.2.2
        · rename_i ha _
          exact memWf_cons.mpr ⟨‹_›, by intro e he; have := hc.2.1 e he; simp only; omega, hc.2.2⟩
      · exact memWf_cons.mpr ⟨hc.1, memWrite_head (by omega) hc.2.1 hc.2.2, ih hc.2.2⟩

theorem memWriteAll_wf {d : Byte} {bs : List Nat} {a : Nat} {m : List Host.Cell} (h : memWf d m = true) :
    memWf d (memWriteAll d a bs m) = true := by
  induction bs generalizing a m with
  | nil => exact h
  | cons b bs ih => exact ih (memWrite_wf h)

theorem memFilter_head {d : Byte} {p : Host.Cell → Bool} {k : Nat} {m : List Host.Cell} (hw : memWf d m = true)
    (h : ∀ e ∈ m.head?, k < e.1) : ∀ e ∈ (m.filter p).head?, k < e.1 := by
  induction m with
  | nil => simp
  | cons c cs ih =>
    have hc := memWf_cons.mp hw
    have hk : k < c.1 := h c (by simp)
    rw [List.filter_cons]
    split
    · simpa using hk
    · exact ih hc.2.2 (fun e he => by have := hc.2.1 e he; omega)

/-- Erasing cells keeps the canonical form. -/
theorem memFilter_wf {d : Byte} {p : Host.Cell → Bool} {m : List Host.Cell} (h : memWf d m = true) : memWf d (m.filter p) = true := by
  induction m with
  | nil => rfl
  | cons c cs ih =>
    have hc := memWf_cons.mp h
    rw [List.filter_cons]
    split
    · exact memWf_cons.mpr ⟨hc.1, memFilter_head hc.2.2 hc.2.1, ih hc.2.2⟩
    · exact ih hc.2.2

/-- No address below the head is listed. -/
theorem memRead_below {d : Byte} {a : Nat} {m : List Host.Cell} (hw : memWf d m = true) (h : ∀ e ∈ m.head?, a < e.1) : memRead d m a = d := by
  induction m with
  | nil => rfl
  | cons c cs ih =>
    have hc := memWf_cons.mp hw
    have ha : a < c.1 := h c (by simp)
    have := ih hc.2.2 (fun e he => by have := hc.2.1 e he; omega)
    simp only [memRead, List.find?_cons] at this ⊢
    have hne : (c.1 == a) = false := by simp; omega
    rw [hne]
    exact this

theorem memRead_cons {d : Byte} {a : Nat} {c : Host.Cell} {m : List Host.Cell} :
    memRead d (c :: m) a = if c.1 = a then c.2 else memRead d m a := by
  simp only [memRead, List.find?_cons]
  by_cases h : c.1 = a
  · simp [h]
  · have : (c.1 == a) = false := by simpa using h
    simp [this, h]

/-- A read after a write: the byte written at its address, every other byte as before. -/
theorem memRead_write {d : Byte} {a x : Nat} {b : Byte} {m : List Host.Cell} (h : memWf d m = true) :
    memRead d (memWrite d a b m) x = if x = a then b else memRead d m x := by
  induction m with
  | nil =>
    simp only [memWrite]
    split
    · subst b; simp [memRead]
    · rw [memRead_cons]
      by_cases hx : x = a
      · simp [hx]
      · simp [hx, Ne.symm hx]
  | cons c cs ih =>
    have hc := memWf_cons.mp h
    simp only [memWrite]
    split
    · rename_i hlt
      split
      · rename_i hb
        by_cases hx : x = a
        · subst hx
          rw [if_pos rfl, memRead_below h (by simpa using hlt), hb]
        · rw [if_neg hx]
      · rw [memRead_cons]
        by_cases hx : x = a
        · simp [hx]
        · simp [hx, Ne.symm hx]
    · split
      · rename_i ha
        split
        · rename_i hb
          rw [memRead_cons]
          by_cases hx : x = a
          · subst hx
            rw [if_pos rfl, memRead_below hc.2.2 (fun e he => by have := hc.2.1 e he; omega), hb]
          · rw [if_neg hx, if_neg (by omega)]
        · rw [memRead_cons, memRead_cons]
          by_cases hx : x = a
          · simp [hx]
          · rw [if_neg hx, if_neg (Ne.symm hx), if_neg (by omega)]
      · rw [memRead_cons, memRead_cons, ih hc.2.2]
        by_cases hcx : c.1 = x
        · rw [if_pos hcx, if_neg (by omega), if_pos hcx]
        · rw [if_neg hcx, if_neg hcx]

end Sys2Proof.Machine
end

