-- ==== Sys2Proof/Laws/State.lean ====
section
/-! SUPPORT. One lemma per field per update: what an update of one part of the state leaves of every part. -/

namespace Sys2Proof.Machine

@[simp] theorem State.modEng_eng (f : Eng → Eng) (s : State) :
    (State.modEng f s).eng = f s.eng := rfl
@[simp] theorem State.modEng_gates (f : Eng → Eng) (s : State) :
    (State.modEng f s).gates = s.gates := rfl
@[simp] theorem State.modEng_clk (f : Eng → Eng) (s : State) :
    (State.modEng f s).clk = s.clk := rfl
@[simp] theorem State.modEng_life (f : Eng → Eng) (s : State) :
    (State.modEng f s).life = s.life := rfl
@[simp] theorem State.modEng_keys (f : Eng → Eng) (s : State) :
    (State.modEng f s).keys = s.keys := rfl
@[simp] theorem State.modEng_img (f : Eng → Eng) (s : State) :
    (State.modEng f s).img = s.img := rfl
@[simp] theorem State.modEng_flash (f : Eng → Eng) (s : State) :
    (State.modEng f s).flash = s.flash := rfl
@[simp] theorem State.modEng_dlv (f : Eng → Eng) (s : State) :
    (State.modEng f s).dlv = s.dlv := rfl
@[simp] theorem State.modEng_ports (f : Eng → Eng) (s : State) :
    (State.modEng f s).ports = s.ports := rfl
@[simp] theorem State.modEng_heads (f : Eng → Eng) (s : State) :
    (State.modEng f s).heads = s.heads := rfl
@[simp] theorem State.modEng_meas (f : Eng → Eng) (s : State) :
    (State.modEng f s).meas = s.meas := rfl
@[simp] theorem State.modEng_met (f : Eng → Eng) (s : State) :
    (State.modEng f s).met = s.met := rfl
@[simp] theorem State.modEng_pmet (f : Eng → Eng) (s : State) :
    (State.modEng f s).pmet = s.pmet := rfl
@[simp] theorem State.modEng_safe (f : Eng → Eng) (s : State) :
    (State.modEng f s).safe = s.safe := rfl
@[simp] theorem State.modEng_psafe (f : Eng → Eng) (s : State) :
    (State.modEng f s).psafe = s.psafe := rfl
@[simp] theorem State.modEng_cp (f : Eng → Eng) (s : State) :
    (State.modEng f s).cp = s.cp := rfl
@[simp] theorem State.modEng_plc (f : Eng → Eng) (s : State) :
    (State.modEng f s).plc = s.plc := rfl
@[simp] theorem State.modEng_pipes (f : Eng → Eng) (s : State) :
    (State.modEng f s).pipes = s.pipes := rfl
@[simp] theorem State.modEng_hpipes (f : Eng → Eng) (s : State) :
    (State.modEng f s).hpipes = s.hpipes := rfl
@[simp] theorem State.modEng_ses (f : Eng → Eng) (s : State) :
    (State.modEng f s).ses = s.ses := rfl
@[simp] theorem State.modEng_sesSys (f : Eng → Eng) (s : State) :
    (State.modEng f s).sesSys = s.sesSys := rfl
@[simp] theorem State.modEng_auth (f : Eng → Eng) (s : State) :
    (State.modEng f s).auth = s.auth := rfl
@[simp] theorem State.modEng_authSys (f : Eng → Eng) (s : State) :
    (State.modEng f s).authSys = s.authSys := rfl
@[simp] theorem State.modEng_led (f : Eng → Eng) (s : State) :
    (State.modEng f s).led = s.led := rfl
@[simp] theorem State.modEng_recs (f : Eng → Eng) (s : State) :
    (State.modEng f s).recs = s.recs := rfl
@[simp] theorem State.modEng_mbus (f : Eng → Eng) (s : State) :
    (State.modEng f s).mbus = s.mbus := rfl
@[simp] theorem State.modEng_tag (f : Eng → Eng) (s : State) :
    (State.modEng f s).tag = s.tag := rfl
@[simp] theorem State.modEng_phy (f : Eng → Eng) (s : State) :
    (State.modEng f s).phy = s.phy := rfl
@[simp] theorem State.modEng_lnk (f : Eng → Eng) (s : State) :
    (State.modEng f s).lnk = s.lnk := rfl
@[simp] theorem State.modEng_share (f : Eng → Eng) (s : State) :
    (State.modEng f s).share = s.share := rfl
@[simp] theorem State.modEng_epd (f : Eng → Eng) (s : State) :
    (State.modEng f s).epd = s.epd := rfl
@[simp] theorem State.modEng_fab (f : Eng → Eng) (s : State) :
    (State.modEng f s).fab = s.fab := rfl
@[simp] theorem State.modEng_ev (f : Eng → Eng) (s : State) :
    (State.modEng f s).ev = s.ev := rfl
@[simp] theorem State.modEng_sen (f : Eng → Eng) (s : State) :
    (State.modEng f s).sen = s.sen := rfl
@[simp] theorem State.modEng_jrn (f : Eng → Eng) (s : State) :
    (State.modEng f s).jrn = s.jrn := rfl
@[simp] theorem State.modEng_tamper (f : Eng → Eng) (s : State) :
    (State.modEng f s).tamper = s.tamper := rfl
@[simp] theorem State.modEng_elec (f : Eng → Eng) (s : State) :
    (State.modEng f s).elec = s.elec := rfl
@[simp] theorem State.modEng_freeCtr (f : Eng → Eng) (s : State) :
    (State.modEng f s).freeCtr = s.freeCtr := rfl
@[simp] theorem State.modEng_pending (f : Eng → Eng) (s : State) :
    (State.modEng f s).pending = s.pending := rfl
@[simp] theorem State.modGates_eng (f : Gates → Gates) (s : State) :
    (State.modGates f s).eng = s.eng := rfl
@[simp] theorem State.modGates_gates (f : Gates → Gates) (s : State) :
    (State.modGates f s).gates = f s.gates := rfl
@[simp] theorem State.modGates_clk (f : Gates → Gates) (s : State) :
    (State.modGates f s).clk = s.clk := rfl
@[simp] theorem State.modGates_life (f : Gates → Gates) (s : State) :
    (State.modGates f s).life = s.life := rfl
@[simp] theorem State.modGates_keys (f : Gates → Gates) (s : State) :
    (State.modGates f s).keys = s.keys := rfl
@[simp] theorem State.modGates_img (f : Gates → Gates) (s : State) :
    (State.modGates f s).img = s.img := rfl
@[simp] theorem State.modGates_flash (f : Gates → Gates) (s : State) :
    (State.modGates f s).flash = s.flash := rfl
@[simp] theorem State.modGates_dlv (f : Gates → Gates) (s : State) :
    (State.modGates f s).dlv = s.dlv := rfl
@[simp] theorem State.modGates_ports (f : Gates → Gates) (s : State) :
    (State.modGates f s).ports = s.ports := rfl
@[simp] theorem State.modGates_heads (f : Gates → Gates) (s : State) :
    (State.modGates f s).heads = s.heads := rfl
@[simp] theorem State.modGates_meas (f : Gates → Gates) (s : State) :
    (State.modGates f s).meas = s.meas := rfl
@[simp] theorem State.modGates_met (f : Gates → Gates) (s : State) :
    (State.modGates f s).met = s.met := rfl
@[simp] theorem State.modGates_pmet (f : Gates → Gates) (s : State) :
    (State.modGates f s).pmet = s.pmet := rfl
@[simp] theorem State.modGates_safe (f : Gates → Gates) (s : State) :
    (State.modGates f s).safe = s.safe := rfl
@[simp] theorem State.modGates_psafe (f : Gates → Gates) (s : State) :
    (State.modGates f s).psafe = s.psafe := rfl
@[simp] theorem State.modGates_cp (f : Gates → Gates) (s : State) :
    (State.modGates f s).cp = s.cp := rfl
@[simp] theorem State.modGates_plc (f : Gates → Gates) (s : State) :
    (State.modGates f s).plc = s.plc := rfl
@[simp] theorem State.modGates_pipes (f : Gates → Gates) (s : State) :
    (State.modGates f s).pipes = s.pipes := rfl
@[simp] theorem State.modGates_hpipes (f : Gates → Gates) (s : State) :
    (State.modGates f s).hpipes = s.hpipes := rfl
@[simp] theorem State.modGates_ses (f : Gates → Gates) (s : State) :
    (State.modGates f s).ses = s.ses := rfl
@[simp] theorem State.modGates_sesSys (f : Gates → Gates) (s : State) :
    (State.modGates f s).sesSys = s.sesSys := rfl
@[simp] theorem State.modGates_auth (f : Gates → Gates) (s : State) :
    (State.modGates f s).auth = s.auth := rfl
@[simp] theorem State.modGates_authSys (f : Gates → Gates) (s : State) :
    (State.modGates f s).authSys = s.authSys := rfl
@[simp] theorem State.modGates_led (f : Gates → Gates) (s : State) :
    (State.modGates f s).led = s.led := rfl
@[simp] theorem State.modGates_recs (f : Gates → Gates) (s : State) :
    (State.modGates f s).recs = s.recs := rfl
@[simp] theorem State.modGates_mbus (f : Gates → Gates) (s : State) :
    (State.modGates f s).mbus = s.mbus := rfl
@[simp] theorem State.modGates_tag (f : Gates → Gates) (s : State) :
    (State.modGates f s).tag = s.tag := rfl
@[simp] theorem State.modGates_phy (f : Gates → Gates) (s : State) :
    (State.modGates f s).phy = s.phy := rfl
@[simp] theorem State.modGates_lnk (f : Gates → Gates) (s : State) :
    (State.modGates f s).lnk = s.lnk := rfl
@[simp] theorem State.modGates_share (f : Gates → Gates) (s : State) :
    (State.modGates f s).share = s.share := rfl
@[simp] theorem State.modGates_epd (f : Gates → Gates) (s : State) :
    (State.modGates f s).epd = s.epd := rfl
@[simp] theorem State.modGates_fab (f : Gates → Gates) (s : State) :
    (State.modGates f s).fab = s.fab := rfl
@[simp] theorem State.modGates_ev (f : Gates → Gates) (s : State) :
    (State.modGates f s).ev = s.ev := rfl
@[simp] theorem State.modGates_sen (f : Gates → Gates) (s : State) :
    (State.modGates f s).sen = s.sen := rfl
@[simp] theorem State.modGates_jrn (f : Gates → Gates) (s : State) :
    (State.modGates f s).jrn = s.jrn := rfl
@[simp] theorem State.modGates_tamper (f : Gates → Gates) (s : State) :
    (State.modGates f s).tamper = s.tamper := rfl
@[simp] theorem State.modGates_elec (f : Gates → Gates) (s : State) :
    (State.modGates f s).elec = s.elec := rfl
@[simp] theorem State.modGates_freeCtr (f : Gates → Gates) (s : State) :
    (State.modGates f s).freeCtr = s.freeCtr := rfl
@[simp] theorem State.modGates_pending (f : Gates → Gates) (s : State) :
    (State.modGates f s).pending = s.pending := rfl
@[simp] theorem State.modClk_eng (f : Clk → Clk) (s : State) :
    (State.modClk f s).eng = s.eng := rfl
@[simp] theorem State.modClk_gates (f : Clk → Clk) (s : State) :
    (State.modClk f s).gates = s.gates := rfl
@[simp] theorem State.modClk_clk (f : Clk → Clk) (s : State) :
    (State.modClk f s).clk = f s.clk := rfl
@[simp] theorem State.modClk_life (f : Clk → Clk) (s : State) :
    (State.modClk f s).life = s.life := rfl
@[simp] theorem State.modClk_keys (f : Clk → Clk) (s : State) :
    (State.modClk f s).keys = s.keys := rfl
@[simp] theorem State.modClk_img (f : Clk → Clk) (s : State) :
    (State.modClk f s).img = s.img := rfl
@[simp] theorem State.modClk_flash (f : Clk → Clk) (s : State) :
    (State.modClk f s).flash = s.flash := rfl
@[simp] theorem State.modClk_dlv (f : Clk → Clk) (s : State) :
    (State.modClk f s).dlv = s.dlv := rfl
@[simp] theorem State.modClk_ports (f : Clk → Clk) (s : State) :
    (State.modClk f s).ports = s.ports := rfl
@[simp] theorem State.modClk_heads (f : Clk → Clk) (s : State) :
    (State.modClk f s).heads = s.heads := rfl
@[simp] theorem State.modClk_meas (f : Clk → Clk) (s : State) :
    (State.modClk f s).meas = s.meas := rfl
@[simp] theorem State.modClk_met (f : Clk → Clk) (s : State) :
    (State.modClk f s).met = s.met := rfl
@[simp] theorem State.modClk_pmet (f : Clk → Clk) (s : State) :
    (State.modClk f s).pmet = s.pmet := rfl
@[simp] theorem State.modClk_safe (f : Clk → Clk) (s : State) :
    (State.modClk f s).safe = s.safe := rfl
@[simp] theorem State.modClk_psafe (f : Clk → Clk) (s : State) :
    (State.modClk f s).psafe = s.psafe := rfl
@[simp] theorem State.modClk_cp (f : Clk → Clk) (s : State) :
    (State.modClk f s).cp = s.cp := rfl
@[simp] theorem State.modClk_plc (f : Clk → Clk) (s : State) :
    (State.modClk f s).plc = s.plc := rfl
@[simp] theorem State.modClk_pipes (f : Clk → Clk) (s : State) :
    (State.modClk f s).pipes = s.pipes := rfl
@[simp] theorem State.modClk_hpipes (f : Clk → Clk) (s : State) :
    (State.modClk f s).hpipes = s.hpipes := rfl
@[simp] theorem State.modClk_ses (f : Clk → Clk) (s : State) :
    (State.modClk f s).ses = s.ses := rfl
@[simp] theorem State.modClk_sesSys (f : Clk → Clk) (s : State) :
    (State.modClk f s).sesSys = s.sesSys := rfl
@[simp] theorem State.modClk_auth (f : Clk → Clk) (s : State) :
    (State.modClk f s).auth = s.auth := rfl
@[simp] theorem State.modClk_authSys (f : Clk → Clk) (s : State) :
    (State.modClk f s).authSys = s.authSys := rfl
@[simp] theorem State.modClk_led (f : Clk → Clk) (s : State) :
    (State.modClk f s).led = s.led := rfl
@[simp] theorem State.modClk_recs (f : Clk → Clk) (s : State) :
    (State.modClk f s).recs = s.recs := rfl
@[simp] theorem State.modClk_mbus (f : Clk → Clk) (s : State) :
    (State.modClk f s).mbus = s.mbus := rfl
@[simp] theorem State.modClk_tag (f : Clk → Clk) (s : State) :
    (State.modClk f s).tag = s.tag := rfl
@[simp] theorem State.modClk_phy (f : Clk → Clk) (s : State) :
    (State.modClk f s).phy = s.phy := rfl
@[simp] theorem State.modClk_lnk (f : Clk → Clk) (s : State) :
    (State.modClk f s).lnk = s.lnk := rfl
@[simp] theorem State.modClk_share (f : Clk → Clk) (s : State) :
    (State.modClk f s).share = s.share := rfl
@[simp] theorem State.modClk_epd (f : Clk → Clk) (s : State) :
    (State.modClk f s).epd = s.epd := rfl
@[simp] theorem State.modClk_fab (f : Clk → Clk) (s : State) :
    (State.modClk f s).fab = s.fab := rfl
@[simp] theorem State.modClk_ev (f : Clk → Clk) (s : State) :
    (State.modClk f s).ev = s.ev := rfl
@[simp] theorem State.modClk_sen (f : Clk → Clk) (s : State) :
    (State.modClk f s).sen = s.sen := rfl
@[simp] theorem State.modClk_jrn (f : Clk → Clk) (s : State) :
    (State.modClk f s).jrn = s.jrn := rfl
@[simp] theorem State.modClk_tamper (f : Clk → Clk) (s : State) :
    (State.modClk f s).tamper = s.tamper := rfl
@[simp] theorem State.modClk_elec (f : Clk → Clk) (s : State) :
    (State.modClk f s).elec = s.elec := rfl
@[simp] theorem State.modClk_freeCtr (f : Clk → Clk) (s : State) :
    (State.modClk f s).freeCtr = s.freeCtr := rfl
@[simp] theorem State.modClk_pending (f : Clk → Clk) (s : State) :
    (State.modClk f s).pending = s.pending := rfl
@[simp] theorem State.modLife_eng (f : Life → Life) (s : State) :
    (State.modLife f s).eng = s.eng := rfl
@[simp] theorem State.modLife_gates (f : Life → Life) (s : State) :
    (State.modLife f s).gates = s.gates := rfl
@[simp] theorem State.modLife_clk (f : Life → Life) (s : State) :
    (State.modLife f s).clk = s.clk := rfl
@[simp] theorem State.modLife_life (f : Life → Life) (s : State) :
    (State.modLife f s).life = f s.life := rfl
@[simp] theorem State.modLife_keys (f : Life → Life) (s : State) :
    (State.modLife f s).keys = s.keys := rfl
@[simp] theorem State.modLife_img (f : Life → Life) (s : State) :
    (State.modLife f s).img = s.img := rfl
@[simp] theorem State.modLife_flash (f : Life → Life) (s : State) :
    (State.modLife f s).flash = s.flash := rfl
@[simp] theorem State.modLife_dlv (f : Life → Life) (s : State) :
    (State.modLife f s).dlv = s.dlv := rfl
@[simp] theorem State.modLife_ports (f : Life → Life) (s : State) :
    (State.modLife f s).ports = s.ports := rfl
@[simp] theorem State.modLife_heads (f : Life → Life) (s : State) :
    (State.modLife f s).heads = s.heads := rfl
@[simp] theorem State.modLife_meas (f : Life → Life) (s : State) :
    (State.modLife f s).meas = s.meas := rfl
@[simp] theorem State.modLife_met (f : Life → Life) (s : State) :
    (State.modLife f s).met = s.met := rfl
@[simp] theorem State.modLife_pmet (f : Life → Life) (s : State) :
    (State.modLife f s).pmet = s.pmet := rfl
@[simp] theorem State.modLife_safe (f : Life → Life) (s : State) :
    (State.modLife f s).safe = s.safe := rfl
@[simp] theorem State.modLife_psafe (f : Life → Life) (s : State) :
    (State.modLife f s).psafe = s.psafe := rfl
@[simp] theorem State.modLife_cp (f : Life → Life) (s : State) :
    (State.modLife f s).cp = s.cp := rfl
@[simp] theorem State.modLife_plc (f : Life → Life) (s : State) :
    (State.modLife f s).plc = s.plc := rfl
@[simp] theorem State.modLife_pipes (f : Life → Life) (s : State) :
    (State.modLife f s).pipes = s.pipes := rfl
@[simp] theorem State.modLife_hpipes (f : Life → Life) (s : State) :
    (State.modLife f s).hpipes = s.hpipes := rfl
@[simp] theorem State.modLife_ses (f : Life → Life) (s : State) :
    (State.modLife f s).ses = s.ses := rfl
@[simp] theorem State.modLife_sesSys (f : Life → Life) (s : State) :
    (State.modLife f s).sesSys = s.sesSys := rfl
@[simp] theorem State.modLife_auth (f : Life → Life) (s : State) :
    (State.modLife f s).auth = s.auth := rfl
@[simp] theorem State.modLife_authSys (f : Life → Life) (s : State) :
    (State.modLife f s).authSys = s.authSys := rfl
@[simp] theorem State.modLife_led (f : Life → Life) (s : State) :
    (State.modLife f s).led = s.led := rfl
@[simp] theorem State.modLife_recs (f : Life → Life) (s : State) :
    (State.modLife f s).recs = s.recs := rfl
@[simp] theorem State.modLife_mbus (f : Life → Life) (s : State) :
    (State.modLife f s).mbus = s.mbus := rfl
@[simp] theorem State.modLife_tag (f : Life → Life) (s : State) :
    (State.modLife f s).tag = s.tag := rfl
@[simp] theorem State.modLife_phy (f : Life → Life) (s : State) :
    (State.modLife f s).phy = s.phy := rfl
@[simp] theorem State.modLife_lnk (f : Life → Life) (s : State) :
    (State.modLife f s).lnk = s.lnk := rfl
@[simp] theorem State.modLife_share (f : Life → Life) (s : State) :
    (State.modLife f s).share = s.share := rfl
@[simp] theorem State.modLife_epd (f : Life → Life) (s : State) :
    (State.modLife f s).epd = s.epd := rfl
@[simp] theorem State.modLife_fab (f : Life → Life) (s : State) :
    (State.modLife f s).fab = s.fab := rfl
@[simp] theorem State.modLife_ev (f : Life → Life) (s : State) :
    (State.modLife f s).ev = s.ev := rfl
@[simp] theorem State.modLife_sen (f : Life → Life) (s : State) :
    (State.modLife f s).sen = s.sen := rfl
@[simp] theorem State.modLife_jrn (f : Life → Life) (s : State) :
    (State.modLife f s).jrn = s.jrn := rfl
@[simp] theorem State.modLife_tamper (f : Life → Life) (s : State) :
    (State.modLife f s).tamper = s.tamper := rfl
@[simp] theorem State.modLife_elec (f : Life → Life) (s : State) :
    (State.modLife f s).elec = s.elec := rfl
@[simp] theorem State.modLife_freeCtr (f : Life → Life) (s : State) :
    (State.modLife f s).freeCtr = s.freeCtr := rfl
@[simp] theorem State.modLife_pending (f : Life → Life) (s : State) :
    (State.modLife f s).pending = s.pending := rfl
@[simp] theorem State.modKeys_eng (f : Keys → Keys) (s : State) :
    (State.modKeys f s).eng = s.eng := rfl
@[simp] theorem State.modKeys_gates (f : Keys → Keys) (s : State) :
    (State.modKeys f s).gates = s.gates := rfl
@[simp] theorem State.modKeys_clk (f : Keys → Keys) (s : State) :
    (State.modKeys f s).clk = s.clk := rfl
@[simp] theorem State.modKeys_life (f : Keys → Keys) (s : State) :
    (State.modKeys f s).life = s.life := rfl
@[simp] theorem State.modKeys_keys (f : Keys → Keys) (s : State) :
    (State.modKeys f s).keys = f s.keys := rfl
@[simp] theorem State.modKeys_img (f : Keys → Keys) (s : State) :
    (State.modKeys f s).img = s.img := rfl
@[simp] theorem State.modKeys_flash (f : Keys → Keys) (s : State) :
    (State.modKeys f s).flash = s.flash := rfl
@[simp] theorem State.modKeys_dlv (f : Keys → Keys) (s : State) :
    (State.modKeys f s).dlv = s.dlv := rfl
@[simp] theorem State.modKeys_ports (f : Keys → Keys) (s : State) :
    (State.modKeys f s).ports = s.ports := rfl
@[simp] theorem State.modKeys_heads (f : Keys → Keys) (s : State) :
    (State.modKeys f s).heads = s.heads := rfl
@[simp] theorem State.modKeys_meas (f : Keys → Keys) (s : State) :
    (State.modKeys f s).meas = s.meas := rfl
@[simp] theorem State.modKeys_met (f : Keys → Keys) (s : State) :
    (State.modKeys f s).met = s.met := rfl
@[simp] theorem State.modKeys_pmet (f : Keys → Keys) (s : State) :
    (State.modKeys f s).pmet = s.pmet := rfl
@[simp] theorem State.modKeys_safe (f : Keys → Keys) (s : State) :
    (State.modKeys f s).safe = s.safe := rfl
@[simp] theorem State.modKeys_psafe (f : Keys → Keys) (s : State) :
    (State.modKeys f s).psafe = s.psafe := rfl
@[simp] theorem State.modKeys_cp (f : Keys → Keys) (s : State) :
    (State.modKeys f s).cp = s.cp := rfl
@[simp] theorem State.modKeys_plc (f : Keys → Keys) (s : State) :
    (State.modKeys f s).plc = s.plc := rfl
@[simp] theorem State.modKeys_pipes (f : Keys → Keys) (s : State) :
    (State.modKeys f s).pipes = s.pipes := rfl
@[simp] theorem State.modKeys_hpipes (f : Keys → Keys) (s : State) :
    (State.modKeys f s).hpipes = s.hpipes := rfl
@[simp] theorem State.modKeys_ses (f : Keys → Keys) (s : State) :
    (State.modKeys f s).ses = s.ses := rfl
@[simp] theorem State.modKeys_sesSys (f : Keys → Keys) (s : State) :
    (State.modKeys f s).sesSys = s.sesSys := rfl
@[simp] theorem State.modKeys_auth (f : Keys → Keys) (s : State) :
    (State.modKeys f s).auth = s.auth := rfl
@[simp] theorem State.modKeys_authSys (f : Keys → Keys) (s : State) :
    (State.modKeys f s).authSys = s.authSys := rfl
@[simp] theorem State.modKeys_led (f : Keys → Keys) (s : State) :
    (State.modKeys f s).led = s.led := rfl
@[simp] theorem State.modKeys_recs (f : Keys → Keys) (s : State) :
    (State.modKeys f s).recs = s.recs := rfl
@[simp] theorem State.modKeys_mbus (f : Keys → Keys) (s : State) :
    (State.modKeys f s).mbus = s.mbus := rfl
@[simp] theorem State.modKeys_tag (f : Keys → Keys) (s : State) :
    (State.modKeys f s).tag = s.tag := rfl
@[simp] theorem State.modKeys_phy (f : Keys → Keys) (s : State) :
    (State.modKeys f s).phy = s.phy := rfl
@[simp] theorem State.modKeys_lnk (f : Keys → Keys) (s : State) :
    (State.modKeys f s).lnk = s.lnk := rfl
@[simp] theorem State.modKeys_share (f : Keys → Keys) (s : State) :
    (State.modKeys f s).share = s.share := rfl
@[simp] theorem State.modKeys_epd (f : Keys → Keys) (s : State) :
    (State.modKeys f s).epd = s.epd := rfl
@[simp] theorem State.modKeys_fab (f : Keys → Keys) (s : State) :
    (State.modKeys f s).fab = s.fab := rfl
@[simp] theorem State.modKeys_ev (f : Keys → Keys) (s : State) :
    (State.modKeys f s).ev = s.ev := rfl
@[simp] theorem State.modKeys_sen (f : Keys → Keys) (s : State) :
    (State.modKeys f s).sen = s.sen := rfl
@[simp] theorem State.modKeys_jrn (f : Keys → Keys) (s : State) :
    (State.modKeys f s).jrn = s.jrn := rfl
@[simp] theorem State.modKeys_tamper (f : Keys → Keys) (s : State) :
    (State.modKeys f s).tamper = s.tamper := rfl
@[simp] theorem State.modKeys_elec (f : Keys → Keys) (s : State) :
    (State.modKeys f s).elec = s.elec := rfl
@[simp] theorem State.modKeys_freeCtr (f : Keys → Keys) (s : State) :
    (State.modKeys f s).freeCtr = s.freeCtr := rfl
@[simp] theorem State.modKeys_pending (f : Keys → Keys) (s : State) :
    (State.modKeys f s).pending = s.pending := rfl
@[simp] theorem State.modImg_eng (f : Img → Img) (s : State) :
    (State.modImg f s).eng = s.eng := rfl
@[simp] theorem State.modImg_gates (f : Img → Img) (s : State) :
    (State.modImg f s).gates = s.gates := rfl
@[simp] theorem State.modImg_clk (f : Img → Img) (s : State) :
    (State.modImg f s).clk = s.clk := rfl
@[simp] theorem State.modImg_life (f : Img → Img) (s : State) :
    (State.modImg f s).life = s.life := rfl
@[simp] theorem State.modImg_keys (f : Img → Img) (s : State) :
    (State.modImg f s).keys = s.keys := rfl
@[simp] theorem State.modImg_img (f : Img → Img) (s : State) :
    (State.modImg f s).img = f s.img := rfl
@[simp] theorem State.modImg_flash (f : Img → Img) (s : State) :
    (State.modImg f s).flash = s.flash := rfl
@[simp] theorem State.modImg_dlv (f : Img → Img) (s : State) :
    (State.modImg f s).dlv = s.dlv := rfl
@[simp] theorem State.modImg_ports (f : Img → Img) (s : State) :
    (State.modImg f s).ports = s.ports := rfl
@[simp] theorem State.modImg_heads (f : Img → Img) (s : State) :
    (State.modImg f s).heads = s.heads := rfl
@[simp] theorem State.modImg_meas (f : Img → Img) (s : State) :
    (State.modImg f s).meas = s.meas := rfl
@[simp] theorem State.modImg_met (f : Img → Img) (s : State) :
    (State.modImg f s).met = s.met := rfl
@[simp] theorem State.modImg_pmet (f : Img → Img) (s : State) :
    (State.modImg f s).pmet = s.pmet := rfl
@[simp] theorem State.modImg_safe (f : Img → Img) (s : State) :
    (State.modImg f s).safe = s.safe := rfl
@[simp] theorem State.modImg_psafe (f : Img → Img) (s : State) :
    (State.modImg f s).psafe = s.psafe := rfl
@[simp] theorem State.modImg_cp (f : Img → Img) (s : State) :
    (State.modImg f s).cp = s.cp := rfl
@[simp] theorem State.modImg_plc (f : Img → Img) (s : State) :
    (State.modImg f s).plc = s.plc := rfl
@[simp] theorem State.modImg_pipes (f : Img → Img) (s : State) :
    (State.modImg f s).pipes = s.pipes := rfl
@[simp] theorem State.modImg_hpipes (f : Img → Img) (s : State) :
    (State.modImg f s).hpipes = s.hpipes := rfl
@[simp] theorem State.modImg_ses (f : Img → Img) (s : State) :
    (State.modImg f s).ses = s.ses := rfl
@[simp] theorem State.modImg_sesSys (f : Img → Img) (s : State) :
    (State.modImg f s).sesSys = s.sesSys := rfl
@[simp] theorem State.modImg_auth (f : Img → Img) (s : State) :
    (State.modImg f s).auth = s.auth := rfl
@[simp] theorem State.modImg_authSys (f : Img → Img) (s : State) :
    (State.modImg f s).authSys = s.authSys := rfl
@[simp] theorem State.modImg_led (f : Img → Img) (s : State) :
    (State.modImg f s).led = s.led := rfl
@[simp] theorem State.modImg_recs (f : Img → Img) (s : State) :
    (State.modImg f s).recs = s.recs := rfl
@[simp] theorem State.modImg_mbus (f : Img → Img) (s : State) :
    (State.modImg f s).mbus = s.mbus := rfl
@[simp] theorem State.modImg_tag (f : Img → Img) (s : State) :
    (State.modImg f s).tag = s.tag := rfl
@[simp] theorem State.modImg_phy (f : Img → Img) (s : State) :
    (State.modImg f s).phy = s.phy := rfl
@[simp] theorem State.modImg_lnk (f : Img → Img) (s : State) :
    (State.modImg f s).lnk = s.lnk := rfl
@[simp] theorem State.modImg_share (f : Img → Img) (s : State) :
    (State.modImg f s).share = s.share := rfl
@[simp] theorem State.modImg_epd (f : Img → Img) (s : State) :
    (State.modImg f s).epd = s.epd := rfl
@[simp] theorem State.modImg_fab (f : Img → Img) (s : State) :
    (State.modImg f s).fab = s.fab := rfl
@[simp] theorem State.modImg_ev (f : Img → Img) (s : State) :
    (State.modImg f s).ev = s.ev := rfl
@[simp] theorem State.modImg_sen (f : Img → Img) (s : State) :
    (State.modImg f s).sen = s.sen := rfl
@[simp] theorem State.modImg_jrn (f : Img → Img) (s : State) :
    (State.modImg f s).jrn = s.jrn := rfl
@[simp] theorem State.modImg_tamper (f : Img → Img) (s : State) :
    (State.modImg f s).tamper = s.tamper := rfl
@[simp] theorem State.modImg_elec (f : Img → Img) (s : State) :
    (State.modImg f s).elec = s.elec := rfl
@[simp] theorem State.modImg_freeCtr (f : Img → Img) (s : State) :
    (State.modImg f s).freeCtr = s.freeCtr := rfl
@[simp] theorem State.modImg_pending (f : Img → Img) (s : State) :
    (State.modImg f s).pending = s.pending := rfl
@[simp] theorem State.modFlash_eng (f : Flash → Flash) (s : State) :
    (State.modFlash f s).eng = s.eng := rfl
@[simp] theorem State.modFlash_gates (f : Flash → Flash) (s : State) :
    (State.modFlash f s).gates = s.gates := rfl
@[simp] theorem State.modFlash_clk (f : Flash → Flash) (s : State) :
    (State.modFlash f s).clk = s.clk := rfl
@[simp] theorem State.modFlash_life (f : Flash → Flash) (s : State) :
    (State.modFlash f s).life = s.life := rfl
@[simp] theorem State.modFlash_keys (f : Flash → Flash) (s : State) :
    (State.modFlash f s).keys = s.keys := rfl
@[simp] theorem State.modFlash_img (f : Flash → Flash) (s : State) :
    (State.modFlash f s).img = s.img := rfl
@[simp] theorem State.modFlash_flash (f : Flash → Flash) (s : State) :
    (State.modFlash f s).flash = f s.flash := rfl
@[simp] theorem State.modFlash_dlv (f : Flash → Flash) (s : State) :
    (State.modFlash f s).dlv = s.dlv := rfl
@[simp] theorem State.modFlash_ports (f : Flash → Flash) (s : State) :
    (State.modFlash f s).ports = s.ports := rfl
@[simp] theorem State.modFlash_heads (f : Flash → Flash) (s : State) :
    (State.modFlash f s).heads = s.heads := rfl
@[simp] theorem State.modFlash_meas (f : Flash → Flash) (s : State) :
    (State.modFlash f s).meas = s.meas := rfl
@[simp] theorem State.modFlash_met (f : Flash → Flash) (s : State) :
    (State.modFlash f s).met = s.met := rfl
@[simp] theorem State.modFlash_pmet (f : Flash → Flash) (s : State) :
    (State.modFlash f s).pmet = s.pmet := rfl
@[simp] theorem State.modFlash_safe (f : Flash → Flash) (s : State) :
    (State.modFlash f s).safe = s.safe := rfl
@[simp] theorem State.modFlash_psafe (f : Flash → Flash) (s : State) :
    (State.modFlash f s).psafe = s.psafe := rfl
@[simp] theorem State.modFlash_cp (f : Flash → Flash) (s : State) :
    (State.modFlash f s).cp = s.cp := rfl
@[simp] theorem State.modFlash_plc (f : Flash → Flash) (s : State) :
    (State.modFlash f s).plc = s.plc := rfl
@[simp] theorem State.modFlash_pipes (f : Flash → Flash) (s : State) :
    (State.modFlash f s).pipes = s.pipes := rfl
@[simp] theorem State.modFlash_hpipes (f : Flash → Flash) (s : State) :
    (State.modFlash f s).hpipes = s.hpipes := rfl
@[simp] theorem State.modFlash_ses (f : Flash → Flash) (s : State) :
    (State.modFlash f s).ses = s.ses := rfl
@[simp] theorem State.modFlash_sesSys (f : Flash → Flash) (s : State) :
    (State.modFlash f s).sesSys = s.sesSys := rfl
@[simp] theorem State.modFlash_auth (f : Flash → Flash) (s : State) :
    (State.modFlash f s).auth = s.auth := rfl
@[simp] theorem State.modFlash_authSys (f : Flash → Flash) (s : State) :
    (State.modFlash f s).authSys = s.authSys := rfl
@[simp] theorem State.modFlash_led (f : Flash → Flash) (s : State) :
    (State.modFlash f s).led = s.led := rfl
@[simp] theorem State.modFlash_recs (f : Flash → Flash) (s : State) :
    (State.modFlash f s).recs = s.recs := rfl
@[simp] theorem State.modFlash_mbus (f : Flash → Flash) (s : State) :
    (State.modFlash f s).mbus = s.mbus := rfl
@[simp] theorem State.modFlash_tag (f : Flash → Flash) (s : State) :
    (State.modFlash f s).tag = s.tag := rfl
@[simp] theorem State.modFlash_phy (f : Flash → Flash) (s : State) :
    (State.modFlash f s).phy = s.phy := rfl
@[simp] theorem State.modFlash_lnk (f : Flash → Flash) (s : State) :
    (State.modFlash f s).lnk = s.lnk := rfl
@[simp] theorem State.modFlash_share (f : Flash → Flash) (s : State) :
    (State.modFlash f s).share = s.share := rfl
@[simp] theorem State.modFlash_epd (f : Flash → Flash) (s : State) :
    (State.modFlash f s).epd = s.epd := rfl
@[simp] theorem State.modFlash_fab (f : Flash → Flash) (s : State) :
    (State.modFlash f s).fab = s.fab := rfl
@[simp] theorem State.modFlash_ev (f : Flash → Flash) (s : State) :
    (State.modFlash f s).ev = s.ev := rfl
@[simp] theorem State.modFlash_sen (f : Flash → Flash) (s : State) :
    (State.modFlash f s).sen = s.sen := rfl
@[simp] theorem State.modFlash_jrn (f : Flash → Flash) (s : State) :
    (State.modFlash f s).jrn = s.jrn := rfl
@[simp] theorem State.modFlash_tamper (f : Flash → Flash) (s : State) :
    (State.modFlash f s).tamper = s.tamper := rfl
@[simp] theorem State.modFlash_elec (f : Flash → Flash) (s : State) :
    (State.modFlash f s).elec = s.elec := rfl
@[simp] theorem State.modFlash_freeCtr (f : Flash → Flash) (s : State) :
    (State.modFlash f s).freeCtr = s.freeCtr := rfl
@[simp] theorem State.modFlash_pending (f : Flash → Flash) (s : State) :
    (State.modFlash f s).pending = s.pending := rfl
@[simp] theorem State.modDlv_eng (f : Dlv → Dlv) (s : State) :
    (State.modDlv f s).eng = s.eng := rfl
@[simp] theorem State.modDlv_gates (f : Dlv → Dlv) (s : State) :
    (State.modDlv f s).gates = s.gates := rfl
@[simp] theorem State.modDlv_clk (f : Dlv → Dlv) (s : State) :
    (State.modDlv f s).clk = s.clk := rfl
@[simp] theorem State.modDlv_life (f : Dlv → Dlv) (s : State) :
    (State.modDlv f s).life = s.life := rfl
@[simp] theorem State.modDlv_keys (f : Dlv → Dlv) (s : State) :
    (State.modDlv f s).keys = s.keys := rfl
@[simp] theorem State.modDlv_img (f : Dlv → Dlv) (s : State) :
    (State.modDlv f s).img = s.img := rfl
@[simp] theorem State.modDlv_flash (f : Dlv → Dlv) (s : State) :
    (State.modDlv f s).flash = s.flash := rfl
@[simp] theorem State.modDlv_dlv (f : Dlv → Dlv) (s : State) :
    (State.modDlv f s).dlv = f s.dlv := rfl
@[simp] theorem State.modDlv_ports (f : Dlv → Dlv) (s : State) :
    (State.modDlv f s).ports = s.ports := rfl
@[simp] theorem State.modDlv_heads (f : Dlv → Dlv) (s : State) :
    (State.modDlv f s).heads = s.heads := rfl
@[simp] theorem State.modDlv_meas (f : Dlv → Dlv) (s : State) :
    (State.modDlv f s).meas = s.meas := rfl
@[simp] theorem State.modDlv_met (f : Dlv → Dlv) (s : State) :
    (State.modDlv f s).met = s.met := rfl
@[simp] theorem State.modDlv_pmet (f : Dlv → Dlv) (s : State) :
    (State.modDlv f s).pmet = s.pmet := rfl
@[simp] theorem State.modDlv_safe (f : Dlv → Dlv) (s : State) :
    (State.modDlv f s).safe = s.safe := rfl
@[simp] theorem State.modDlv_psafe (f : Dlv → Dlv) (s : State) :
    (State.modDlv f s).psafe = s.psafe := rfl
@[simp] theorem State.modDlv_cp (f : Dlv → Dlv) (s : State) :
    (State.modDlv f s).cp = s.cp := rfl
@[simp] theorem State.modDlv_plc (f : Dlv → Dlv) (s : State) :
    (State.modDlv f s).plc = s.plc := rfl
@[simp] theorem State.modDlv_pipes (f : Dlv → Dlv) (s : State) :
    (State.modDlv f s).pipes = s.pipes := rfl
@[simp] theorem State.modDlv_hpipes (f : Dlv → Dlv) (s : State) :
    (State.modDlv f s).hpipes = s.hpipes := rfl
@[simp] theorem State.modDlv_ses (f : Dlv → Dlv) (s : State) :
    (State.modDlv f s).ses = s.ses := rfl
@[simp] theorem State.modDlv_sesSys (f : Dlv → Dlv) (s : State) :
    (State.modDlv f s).sesSys = s.sesSys := rfl
@[simp] theorem State.modDlv_auth (f : Dlv → Dlv) (s : State) :
    (State.modDlv f s).auth = s.auth := rfl
@[simp] theorem State.modDlv_authSys (f : Dlv → Dlv) (s : State) :
    (State.modDlv f s).authSys = s.authSys := rfl
@[simp] theorem State.modDlv_led (f : Dlv → Dlv) (s : State) :
    (State.modDlv f s).led = s.led := rfl
@[simp] theorem State.modDlv_recs (f : Dlv → Dlv) (s : State) :
    (State.modDlv f s).recs = s.recs := rfl
@[simp] theorem State.modDlv_mbus (f : Dlv → Dlv) (s : State) :
    (State.modDlv f s).mbus = s.mbus := rfl
@[simp] theorem State.modDlv_tag (f : Dlv → Dlv) (s : State) :
    (State.modDlv f s).tag = s.tag := rfl
@[simp] theorem State.modDlv_phy (f : Dlv → Dlv) (s : State) :
    (State.modDlv f s).phy = s.phy := rfl
@[simp] theorem State.modDlv_lnk (f : Dlv → Dlv) (s : State) :
    (State.modDlv f s).lnk = s.lnk := rfl
@[simp] theorem State.modDlv_share (f : Dlv → Dlv) (s : State) :
    (State.modDlv f s).share = s.share := rfl
@[simp] theorem State.modDlv_epd (f : Dlv → Dlv) (s : State) :
    (State.modDlv f s).epd = s.epd := rfl
@[simp] theorem State.modDlv_fab (f : Dlv → Dlv) (s : State) :
    (State.modDlv f s).fab = s.fab := rfl
@[simp] theorem State.modDlv_ev (f : Dlv → Dlv) (s : State) :
    (State.modDlv f s).ev = s.ev := rfl
@[simp] theorem State.modDlv_sen (f : Dlv → Dlv) (s : State) :
    (State.modDlv f s).sen = s.sen := rfl
@[simp] theorem State.modDlv_jrn (f : Dlv → Dlv) (s : State) :
    (State.modDlv f s).jrn = s.jrn := rfl
@[simp] theorem State.modDlv_tamper (f : Dlv → Dlv) (s : State) :
    (State.modDlv f s).tamper = s.tamper := rfl
@[simp] theorem State.modDlv_elec (f : Dlv → Dlv) (s : State) :
    (State.modDlv f s).elec = s.elec := rfl
@[simp] theorem State.modDlv_freeCtr (f : Dlv → Dlv) (s : State) :
    (State.modDlv f s).freeCtr = s.freeCtr := rfl
@[simp] theorem State.modDlv_pending (f : Dlv → Dlv) (s : State) :
    (State.modDlv f s).pending = s.pending := rfl
@[simp] theorem State.modPort_eng (i : Fin 8) (f : Port → Port) (s : State) :
    (State.modPort i f s).eng = s.eng := rfl
@[simp] theorem State.modPort_gates (i : Fin 8) (f : Port → Port) (s : State) :
    (State.modPort i f s).gates = s.gates := rfl
@[simp] theorem State.modPort_clk (i : Fin 8) (f : Port → Port) (s : State) :
    (State.modPort i f s).clk = s.clk := rfl
@[simp] theorem State.modPort_life (i : Fin 8) (f : Port → Port) (s : State) :
    (State.modPort i f s).life = s.life := rfl
@[simp] theorem State.modPort_keys (i : Fin 8) (f : Port → Port) (s : State) :
    (State.modPort i f s).keys = s.keys := rfl
@[simp] theorem State.modPort_img (i : Fin 8) (f : Port → Port) (s : State) :
    (State.modPort i f s).img = s.img := rfl
@[simp] theorem State.modPort_flash (i : Fin 8) (f : Port → Port) (s : State) :
    (State.modPort i f s).flash = s.flash := rfl
@[simp] theorem State.modPort_dlv (i : Fin 8) (f : Port → Port) (s : State) :
    (State.modPort i f s).dlv = s.dlv := rfl
@[simp] theorem State.modPort_ports (i : Fin 8) (f : Port → Port) (s : State) :
    (State.modPort i f s).ports = s.ports.set i (f s.ports[i]) := rfl
@[simp] theorem State.modPort_heads (i : Fin 8) (f : Port → Port) (s : State) :
    (State.modPort i f s).heads = s.heads := rfl
@[simp] theorem State.modPort_meas (i : Fin 8) (f : Port → Port) (s : State) :
    (State.modPort i f s).meas = s.meas := rfl
@[simp] theorem State.modPort_met (i : Fin 8) (f : Port → Port) (s : State) :
    (State.modPort i f s).met = s.met := rfl
@[simp] theorem State.modPort_pmet (i : Fin 8) (f : Port → Port) (s : State) :
    (State.modPort i f s).pmet = s.pmet := rfl
@[simp] theorem State.modPort_safe (i : Fin 8) (f : Port → Port) (s : State) :
    (State.modPort i f s).safe = s.safe := rfl
@[simp] theorem State.modPort_psafe (i : Fin 8) (f : Port → Port) (s : State) :
    (State.modPort i f s).psafe = s.psafe := rfl
@[simp] theorem State.modPort_cp (i : Fin 8) (f : Port → Port) (s : State) :
    (State.modPort i f s).cp = s.cp := rfl
@[simp] theorem State.modPort_plc (i : Fin 8) (f : Port → Port) (s : State) :
    (State.modPort i f s).plc = s.plc := rfl
@[simp] theorem State.modPort_pipes (i : Fin 8) (f : Port → Port) (s : State) :
    (State.modPort i f s).pipes = s.pipes := rfl
@[simp] theorem State.modPort_hpipes (i : Fin 8) (f : Port → Port) (s : State) :
    (State.modPort i f s).hpipes = s.hpipes := rfl
@[simp] theorem State.modPort_ses (i : Fin 8) (f : Port → Port) (s : State) :
    (State.modPort i f s).ses = s.ses := rfl
@[simp] theorem State.modPort_sesSys (i : Fin 8) (f : Port → Port) (s : State) :
    (State.modPort i f s).sesSys = s.sesSys := rfl
@[simp] theorem State.modPort_auth (i : Fin 8) (f : Port → Port) (s : State) :
    (State.modPort i f s).auth = s.auth := rfl
@[simp] theorem State.modPort_authSys (i : Fin 8) (f : Port → Port) (s : State) :
    (State.modPort i f s).authSys = s.authSys := rfl
@[simp] theorem State.modPort_led (i : Fin 8) (f : Port → Port) (s : State) :
    (State.modPort i f s).led = s.led := rfl
@[simp] theorem State.modPort_recs (i : Fin 8) (f : Port → Port) (s : State) :
    (State.modPort i f s).recs = s.recs := rfl
@[simp] theorem State.modPort_mbus (i : Fin 8) (f : Port → Port) (s : State) :
    (State.modPort i f s).mbus = s.mbus := rfl
@[simp] theorem State.modPort_tag (i : Fin 8) (f : Port → Port) (s : State) :
    (State.modPort i f s).tag = s.tag := rfl
@[simp] theorem State.modPort_phy (i : Fin 8) (f : Port → Port) (s : State) :
    (State.modPort i f s).phy = s.phy := rfl
@[simp] theorem State.modPort_lnk (i : Fin 8) (f : Port → Port) (s : State) :
    (State.modPort i f s).lnk = s.lnk := rfl
@[simp] theorem State.modPort_share (i : Fin 8) (f : Port → Port) (s : State) :
    (State.modPort i f s).share = s.share := rfl
@[simp] theorem State.modPort_epd (i : Fin 8) (f : Port → Port) (s : State) :
    (State.modPort i f s).epd = s.epd := rfl
@[simp] theorem State.modPort_fab (i : Fin 8) (f : Port → Port) (s : State) :
    (State.modPort i f s).fab = s.fab := rfl
@[simp] theorem State.modPort_ev (i : Fin 8) (f : Port → Port) (s : State) :
    (State.modPort i f s).ev = s.ev := rfl
@[simp] theorem State.modPort_sen (i : Fin 8) (f : Port → Port) (s : State) :
    (State.modPort i f s).sen = s.sen := rfl
@[simp] theorem State.modPort_jrn (i : Fin 8) (f : Port → Port) (s : State) :
    (State.modPort i f s).jrn = s.jrn := rfl
@[simp] theorem State.modPort_tamper (i : Fin 8) (f : Port → Port) (s : State) :
    (State.modPort i f s).tamper = s.tamper := rfl
@[simp] theorem State.modPort_elec (i : Fin 8) (f : Port → Port) (s : State) :
    (State.modPort i f s).elec = s.elec := rfl
@[simp] theorem State.modPort_freeCtr (i : Fin 8) (f : Port → Port) (s : State) :
    (State.modPort i f s).freeCtr = s.freeCtr := rfl
@[simp] theorem State.modPort_pending (i : Fin 8) (f : Port → Port) (s : State) :
    (State.modPort i f s).pending = s.pending := rfl
@[simp] theorem State.modHead_eng (i : Fin 8) (f : Head → Head) (s : State) :
    (State.modHead i f s).eng = s.eng := rfl
@[simp] theorem State.modHead_gates (i : Fin 8) (f : Head → Head) (s : State) :
    (State.modHead i f s).gates = s.gates := rfl
@[simp] theorem State.modHead_clk (i : Fin 8) (f : Head → Head) (s : State) :
    (State.modHead i f s).clk = s.clk := rfl
@[simp] theorem State.modHead_life (i : Fin 8) (f : Head → Head) (s : State) :
    (State.modHead i f s).life = s.life := rfl
@[simp] theorem State.modHead_keys (i : Fin 8) (f : Head → Head) (s : State) :
    (State.modHead i f s).keys = s.keys := rfl
@[simp] theorem State.modHead_img (i : Fin 8) (f : Head → Head) (s : State) :
    (State.modHead i f s).img = s.img := rfl
@[simp] theorem State.modHead_flash (i : Fin 8) (f : Head → Head) (s : State) :
    (State.modHead i f s).flash = s.flash := rfl
@[simp] theorem State.modHead_dlv (i : Fin 8) (f : Head → Head) (s : State) :
    (State.modHead i f s).dlv = s.dlv := rfl
@[simp] theorem State.modHead_ports (i : Fin 8) (f : Head → Head) (s : State) :
    (State.modHead i f s).ports = s.ports := rfl
@[simp] theorem State.modHead_heads (i : Fin 8) (f : Head → Head) (s : State) :
    (State.modHead i f s).heads = s.heads.set i (f s.heads[i]) := rfl
@[simp] theorem State.modHead_meas (i : Fin 8) (f : Head → Head) (s : State) :
    (State.modHead i f s).meas = s.meas := rfl
@[simp] theorem State.modHead_met (i : Fin 8) (f : Head → Head) (s : State) :
    (State.modHead i f s).met = s.met := rfl
@[simp] theorem State.modHead_pmet (i : Fin 8) (f : Head → Head) (s : State) :
    (State.modHead i f s).pmet = s.pmet := rfl
@[simp] theorem State.modHead_safe (i : Fin 8) (f : Head → Head) (s : State) :
    (State.modHead i f s).safe = s.safe := rfl
@[simp] theorem State.modHead_psafe (i : Fin 8) (f : Head → Head) (s : State) :
    (State.modHead i f s).psafe = s.psafe := rfl
@[simp] theorem State.modHead_cp (i : Fin 8) (f : Head → Head) (s : State) :
    (State.modHead i f s).cp = s.cp := rfl
@[simp] theorem State.modHead_plc (i : Fin 8) (f : Head → Head) (s : State) :
    (State.modHead i f s).plc = s.plc := rfl
@[simp] theorem State.modHead_pipes (i : Fin 8) (f : Head → Head) (s : State) :
    (State.modHead i f s).pipes = s.pipes := rfl
@[simp] theorem State.modHead_hpipes (i : Fin 8) (f : Head → Head) (s : State) :
    (State.modHead i f s).hpipes = s.hpipes := rfl
@[simp] theorem State.modHead_ses (i : Fin 8) (f : Head → Head) (s : State) :
    (State.modHead i f s).ses = s.ses := rfl
@[simp] theorem State.modHead_sesSys (i : Fin 8) (f : Head → Head) (s : State) :
    (State.modHead i f s).sesSys = s.sesSys := rfl
@[simp] theorem State.modHead_auth (i : Fin 8) (f : Head → Head) (s : State) :
    (State.modHead i f s).auth = s.auth := rfl
@[simp] theorem State.modHead_authSys (i : Fin 8) (f : Head → Head) (s : State) :
    (State.modHead i f s).authSys = s.authSys := rfl
@[simp] theorem State.modHead_led (i : Fin 8) (f : Head → Head) (s : State) :
    (State.modHead i f s).led = s.led := rfl
@[simp] theorem State.modHead_recs (i : Fin 8) (f : Head → Head) (s : State) :
    (State.modHead i f s).recs = s.recs := rfl
@[simp] theorem State.modHead_mbus (i : Fin 8) (f : Head → Head) (s : State) :
    (State.modHead i f s).mbus = s.mbus := rfl
@[simp] theorem State.modHead_tag (i : Fin 8) (f : Head → Head) (s : State) :
    (State.modHead i f s).tag = s.tag := rfl
@[simp] theorem State.modHead_phy (i : Fin 8) (f : Head → Head) (s : State) :
    (State.modHead i f s).phy = s.phy := rfl
@[simp] theorem State.modHead_lnk (i : Fin 8) (f : Head → Head) (s : State) :
    (State.modHead i f s).lnk = s.lnk := rfl
@[simp] theorem State.modHead_share (i : Fin 8) (f : Head → Head) (s : State) :
    (State.modHead i f s).share = s.share := rfl
@[simp] theorem State.modHead_epd (i : Fin 8) (f : Head → Head) (s : State) :
    (State.modHead i f s).epd = s.epd := rfl
@[simp] theorem State.modHead_fab (i : Fin 8) (f : Head → Head) (s : State) :
    (State.modHead i f s).fab = s.fab := rfl
@[simp] theorem State.modHead_ev (i : Fin 8) (f : Head → Head) (s : State) :
    (State.modHead i f s).ev = s.ev := rfl
@[simp] theorem State.modHead_sen (i : Fin 8) (f : Head → Head) (s : State) :
    (State.modHead i f s).sen = s.sen := rfl
@[simp] theorem State.modHead_jrn (i : Fin 8) (f : Head → Head) (s : State) :
    (State.modHead i f s).jrn = s.jrn := rfl
@[simp] theorem State.modHead_tamper (i : Fin 8) (f : Head → Head) (s : State) :
    (State.modHead i f s).tamper = s.tamper := rfl
@[simp] theorem State.modHead_elec (i : Fin 8) (f : Head → Head) (s : State) :
    (State.modHead i f s).elec = s.elec := rfl
@[simp] theorem State.modHead_freeCtr (i : Fin 8) (f : Head → Head) (s : State) :
    (State.modHead i f s).freeCtr = s.freeCtr := rfl
@[simp] theorem State.modHead_pending (i : Fin 8) (f : Head → Head) (s : State) :
    (State.modHead i f s).pending = s.pending := rfl
@[simp] theorem State.modMeas_eng (i : Fin 8) (f : HeadMeas → HeadMeas) (s : State) :
    (State.modMeas i f s).eng = s.eng := rfl
@[simp] theorem State.modMeas_gates (i : Fin 8) (f : HeadMeas → HeadMeas) (s : State) :
    (State.modMeas i f s).gates = s.gates := rfl
@[simp] theorem State.modMeas_clk (i : Fin 8) (f : HeadMeas → HeadMeas) (s : State) :
    (State.modMeas i f s).clk = s.clk := rfl
@[simp] theorem State.modMeas_life (i : Fin 8) (f : HeadMeas → HeadMeas) (s : State) :
    (State.modMeas i f s).life = s.life := rfl
@[simp] theorem State.modMeas_keys (i : Fin 8) (f : HeadMeas → HeadMeas) (s : State) :
    (State.modMeas i f s).keys = s.keys := rfl
@[simp] theorem State.modMeas_img (i : Fin 8) (f : HeadMeas → HeadMeas) (s : State) :
    (State.modMeas i f s).img = s.img := rfl
@[simp] theorem State.modMeas_flash (i : Fin 8) (f : HeadMeas → HeadMeas) (s : State) :
    (State.modMeas i f s).flash = s.flash := rfl
@[simp] theorem State.modMeas_dlv (i : Fin 8) (f : HeadMeas → HeadMeas) (s : State) :
    (State.modMeas i f s).dlv = s.dlv := rfl
@[simp] theorem State.modMeas_ports (i : Fin 8) (f : HeadMeas → HeadMeas) (s : State) :
    (State.modMeas i f s).ports = s.ports := rfl
@[simp] theorem State.modMeas_heads (i : Fin 8) (f : HeadMeas → HeadMeas) (s : State) :
    (State.modMeas i f s).heads = s.heads := rfl
@[simp] theorem State.modMeas_meas (i : Fin 8) (f : HeadMeas → HeadMeas) (s : State) :
    (State.modMeas i f s).meas = s.meas.set i (f s.meas[i]) := rfl
@[simp] theorem State.modMeas_met (i : Fin 8) (f : HeadMeas → HeadMeas) (s : State) :
    (State.modMeas i f s).met = s.met := rfl
@[simp] theorem State.modMeas_pmet (i : Fin 8) (f : HeadMeas → HeadMeas) (s : State) :
    (State.modMeas i f s).pmet = s.pmet := rfl
@[simp] theorem State.modMeas_safe (i : Fin 8) (f : HeadMeas → HeadMeas) (s : State) :
    (State.modMeas i f s).safe = s.safe := rfl
@[simp] theorem State.modMeas_psafe (i : Fin 8) (f : HeadMeas → HeadMeas) (s : State) :
    (State.modMeas i f s).psafe = s.psafe := rfl
@[simp] theorem State.modMeas_cp (i : Fin 8) (f : HeadMeas → HeadMeas) (s : State) :
    (State.modMeas i f s).cp = s.cp := rfl
@[simp] theorem State.modMeas_plc (i : Fin 8) (f : HeadMeas → HeadMeas) (s : State) :
    (State.modMeas i f s).plc = s.plc := rfl
@[simp] theorem State.modMeas_pipes (i : Fin 8) (f : HeadMeas → HeadMeas) (s : State) :
    (State.modMeas i f s).pipes = s.pipes := rfl
@[simp] theorem State.modMeas_hpipes (i : Fin 8) (f : HeadMeas → HeadMeas) (s : State) :
    (State.modMeas i f s).hpipes = s.hpipes := rfl
@[simp] theorem State.modMeas_ses (i : Fin 8) (f : HeadMeas → HeadMeas) (s : State) :
    (State.modMeas i f s).ses = s.ses := rfl
@[simp] theorem State.modMeas_sesSys (i : Fin 8) (f : HeadMeas → HeadMeas) (s : State) :
    (State.modMeas i f s).sesSys = s.sesSys := rfl
@[simp] theorem State.modMeas_auth (i : Fin 8) (f : HeadMeas → HeadMeas) (s : State) :
    (State.modMeas i f s).auth = s.auth := rfl
@[simp] theorem State.modMeas_authSys (i : Fin 8) (f : HeadMeas → HeadMeas) (s : State) :
    (State.modMeas i f s).authSys = s.authSys := rfl
@[simp] theorem State.modMeas_led (i : Fin 8) (f : HeadMeas → HeadMeas) (s : State) :
    (State.modMeas i f s).led = s.led := rfl
@[simp] theorem State.modMeas_recs (i : Fin 8) (f : HeadMeas → HeadMeas) (s : State) :
    (State.modMeas i f s).recs = s.recs := rfl
@[simp] theorem State.modMeas_mbus (i : Fin 8) (f : HeadMeas → HeadMeas) (s : State) :
    (State.modMeas i f s).mbus = s.mbus := rfl
@[simp] theorem State.modMeas_tag (i : Fin 8) (f : HeadMeas → HeadMeas) (s : State) :
    (State.modMeas i f s).tag = s.tag := rfl
@[simp] theorem State.modMeas_phy (i : Fin 8) (f : HeadMeas → HeadMeas) (s : State) :
    (State.modMeas i f s).phy = s.phy := rfl
@[simp] theorem State.modMeas_lnk (i : Fin 8) (f : HeadMeas → HeadMeas) (s : State) :
    (State.modMeas i f s).lnk = s.lnk := rfl
@[simp] theorem State.modMeas_share (i : Fin 8) (f : HeadMeas → HeadMeas) (s : State) :
    (State.modMeas i f s).share = s.share := rfl
@[simp] theorem State.modMeas_epd (i : Fin 8) (f : HeadMeas → HeadMeas) (s : State) :
    (State.modMeas i f s).epd = s.epd := rfl
@[simp] theorem State.modMeas_fab (i : Fin 8) (f : HeadMeas → HeadMeas) (s : State) :
    (State.modMeas i f s).fab = s.fab := rfl
@[simp] theorem State.modMeas_ev (i : Fin 8) (f : HeadMeas → HeadMeas) (s : State) :
    (State.modMeas i f s).ev = s.ev := rfl
@[simp] theorem State.modMeas_sen (i : Fin 8) (f : HeadMeas → HeadMeas) (s : State) :
    (State.modMeas i f s).sen = s.sen := rfl
@[simp] theorem State.modMeas_jrn (i : Fin 8) (f : HeadMeas → HeadMeas) (s : State) :
    (State.modMeas i f s).jrn = s.jrn := rfl
@[simp] theorem State.modMeas_tamper (i : Fin 8) (f : HeadMeas → HeadMeas) (s : State) :
    (State.modMeas i f s).tamper = s.tamper := rfl
@[simp] theorem State.modMeas_elec (i : Fin 8) (f : HeadMeas → HeadMeas) (s : State) :
    (State.modMeas i f s).elec = s.elec := rfl
@[simp] theorem State.modMeas_freeCtr (i : Fin 8) (f : HeadMeas → HeadMeas) (s : State) :
    (State.modMeas i f s).freeCtr = s.freeCtr := rfl
@[simp] theorem State.modMeas_pending (i : Fin 8) (f : HeadMeas → HeadMeas) (s : State) :
    (State.modMeas i f s).pending = s.pending := rfl
@[simp] theorem State.modMet_eng (f : Met → Met) (s : State) :
    (State.modMet f s).eng = s.eng := rfl
@[simp] theorem State.modMet_gates (f : Met → Met) (s : State) :
    (State.modMet f s).gates = s.gates := rfl
@[simp] theorem State.modMet_clk (f : Met → Met) (s : State) :
    (State.modMet f s).clk = s.clk := rfl
@[simp] theorem State.modMet_life (f : Met → Met) (s : State) :
    (State.modMet f s).life = s.life := rfl
@[simp] theorem State.modMet_keys (f : Met → Met) (s : State) :
    (State.modMet f s).keys = s.keys := rfl
@[simp] theorem State.modMet_img (f : Met → Met) (s : State) :
    (State.modMet f s).img = s.img := rfl
@[simp] theorem State.modMet_flash (f : Met → Met) (s : State) :
    (State.modMet f s).flash = s.flash := rfl
@[simp] theorem State.modMet_dlv (f : Met → Met) (s : State) :
    (State.modMet f s).dlv = s.dlv := rfl
@[simp] theorem State.modMet_ports (f : Met → Met) (s : State) :
    (State.modMet f s).ports = s.ports := rfl
@[simp] theorem State.modMet_heads (f : Met → Met) (s : State) :
    (State.modMet f s).heads = s.heads := rfl
@[simp] theorem State.modMet_meas (f : Met → Met) (s : State) :
    (State.modMet f s).meas = s.meas := rfl
@[simp] theorem State.modMet_met (f : Met → Met) (s : State) :
    (State.modMet f s).met = f s.met := rfl
@[simp] theorem State.modMet_pmet (f : Met → Met) (s : State) :
    (State.modMet f s).pmet = s.pmet := rfl
@[simp] theorem State.modMet_safe (f : Met → Met) (s : State) :
    (State.modMet f s).safe = s.safe := rfl
@[simp] theorem State.modMet_psafe (f : Met → Met) (s : State) :
    (State.modMet f s).psafe = s.psafe := rfl
@[simp] theorem State.modMet_cp (f : Met → Met) (s : State) :
    (State.modMet f s).cp = s.cp := rfl
@[simp] theorem State.modMet_plc (f : Met → Met) (s : State) :
    (State.modMet f s).plc = s.plc := rfl
@[simp] theorem State.modMet_pipes (f : Met → Met) (s : State) :
    (State.modMet f s).pipes = s.pipes := rfl
@[simp] theorem State.modMet_hpipes (f : Met → Met) (s : State) :
    (State.modMet f s).hpipes = s.hpipes := rfl
@[simp] theorem State.modMet_ses (f : Met → Met) (s : State) :
    (State.modMet f s).ses = s.ses := rfl
@[simp] theorem State.modMet_sesSys (f : Met → Met) (s : State) :
    (State.modMet f s).sesSys = s.sesSys := rfl
@[simp] theorem State.modMet_auth (f : Met → Met) (s : State) :
    (State.modMet f s).auth = s.auth := rfl
@[simp] theorem State.modMet_authSys (f : Met → Met) (s : State) :
    (State.modMet f s).authSys = s.authSys := rfl
@[simp] theorem State.modMet_led (f : Met → Met) (s : State) :
    (State.modMet f s).led = s.led := rfl
@[simp] theorem State.modMet_recs (f : Met → Met) (s : State) :
    (State.modMet f s).recs = s.recs := rfl
@[simp] theorem State.modMet_mbus (f : Met → Met) (s : State) :
    (State.modMet f s).mbus = s.mbus := rfl
@[simp] theorem State.modMet_tag (f : Met → Met) (s : State) :
    (State.modMet f s).tag = s.tag := rfl
@[simp] theorem State.modMet_phy (f : Met → Met) (s : State) :
    (State.modMet f s).phy = s.phy := rfl
@[simp] theorem State.modMet_lnk (f : Met → Met) (s : State) :
    (State.modMet f s).lnk = s.lnk := rfl
@[simp] theorem State.modMet_share (f : Met → Met) (s : State) :
    (State.modMet f s).share = s.share := rfl
@[simp] theorem State.modMet_epd (f : Met → Met) (s : State) :
    (State.modMet f s).epd = s.epd := rfl
@[simp] theorem State.modMet_fab (f : Met → Met) (s : State) :
    (State.modMet f s).fab = s.fab := rfl
@[simp] theorem State.modMet_ev (f : Met → Met) (s : State) :
    (State.modMet f s).ev = s.ev := rfl
@[simp] theorem State.modMet_sen (f : Met → Met) (s : State) :
    (State.modMet f s).sen = s.sen := rfl
@[simp] theorem State.modMet_jrn (f : Met → Met) (s : State) :
    (State.modMet f s).jrn = s.jrn := rfl
@[simp] theorem State.modMet_tamper (f : Met → Met) (s : State) :
    (State.modMet f s).tamper = s.tamper := rfl
@[simp] theorem State.modMet_elec (f : Met → Met) (s : State) :
    (State.modMet f s).elec = s.elec := rfl
@[simp] theorem State.modMet_freeCtr (f : Met → Met) (s : State) :
    (State.modMet f s).freeCtr = s.freeCtr := rfl
@[simp] theorem State.modMet_pending (f : Met → Met) (s : State) :
    (State.modMet f s).pending = s.pending := rfl
@[simp] theorem State.modPmet_eng (i : Fin 32) (f : PtMet → PtMet) (s : State) :
    (State.modPmet i f s).eng = s.eng := rfl
@[simp] theorem State.modPmet_gates (i : Fin 32) (f : PtMet → PtMet) (s : State) :
    (State.modPmet i f s).gates = s.gates := rfl
@[simp] theorem State.modPmet_clk (i : Fin 32) (f : PtMet → PtMet) (s : State) :
    (State.modPmet i f s).clk = s.clk := rfl
@[simp] theorem State.modPmet_life (i : Fin 32) (f : PtMet → PtMet) (s : State) :
    (State.modPmet i f s).life = s.life := rfl
@[simp] theorem State.modPmet_keys (i : Fin 32) (f : PtMet → PtMet) (s : State) :
    (State.modPmet i f s).keys = s.keys := rfl
@[simp] theorem State.modPmet_img (i : Fin 32) (f : PtMet → PtMet) (s : State) :
    (State.modPmet i f s).img = s.img := rfl
@[simp] theorem State.modPmet_flash (i : Fin 32) (f : PtMet → PtMet) (s : State) :
    (State.modPmet i f s).flash = s.flash := rfl
@[simp] theorem State.modPmet_dlv (i : Fin 32) (f : PtMet → PtMet) (s : State) :
    (State.modPmet i f s).dlv = s.dlv := rfl
@[simp] theorem State.modPmet_ports (i : Fin 32) (f : PtMet → PtMet) (s : State) :
    (State.modPmet i f s).ports = s.ports := rfl
@[simp] theorem State.modPmet_heads (i : Fin 32) (f : PtMet → PtMet) (s : State) :
    (State.modPmet i f s).heads = s.heads := rfl
@[simp] theorem State.modPmet_meas (i : Fin 32) (f : PtMet → PtMet) (s : State) :
    (State.modPmet i f s).meas = s.meas := rfl
@[simp] theorem State.modPmet_met (i : Fin 32) (f : PtMet → PtMet) (s : State) :
    (State.modPmet i f s).met = s.met := rfl
@[simp] theorem State.modPmet_pmet (i : Fin 32) (f : PtMet → PtMet) (s : State) :
    (State.modPmet i f s).pmet = s.pmet.set i (f s.pmet[i]) := rfl
@[simp] theorem State.modPmet_safe (i : Fin 32) (f : PtMet → PtMet) (s : State) :
    (State.modPmet i f s).safe = s.safe := rfl
@[simp] theorem State.modPmet_psafe (i : Fin 32) (f : PtMet → PtMet) (s : State) :
    (State.modPmet i f s).psafe = s.psafe := rfl
@[simp] theorem State.modPmet_cp (i : Fin 32) (f : PtMet → PtMet) (s : State) :
    (State.modPmet i f s).cp = s.cp := rfl
@[simp] theorem State.modPmet_plc (i : Fin 32) (f : PtMet → PtMet) (s : State) :
    (State.modPmet i f s).plc = s.plc := rfl
@[simp] theorem State.modPmet_pipes (i : Fin 32) (f : PtMet → PtMet) (s : State) :
    (State.modPmet i f s).pipes = s.pipes := rfl
@[simp] theorem State.modPmet_hpipes (i : Fin 32) (f : PtMet → PtMet) (s : State) :
    (State.modPmet i f s).hpipes = s.hpipes := rfl
@[simp] theorem State.modPmet_ses (i : Fin 32) (f : PtMet → PtMet) (s : State) :
    (State.modPmet i f s).ses = s.ses := rfl
@[simp] theorem State.modPmet_sesSys (i : Fin 32) (f : PtMet → PtMet) (s : State) :
    (State.modPmet i f s).sesSys = s.sesSys := rfl
@[simp] theorem State.modPmet_auth (i : Fin 32) (f : PtMet → PtMet) (s : State) :
    (State.modPmet i f s).auth = s.auth := rfl
@[simp] theorem State.modPmet_authSys (i : Fin 32) (f : PtMet → PtMet) (s : State) :
    (State.modPmet i f s).authSys = s.authSys := rfl
@[simp] theorem State.modPmet_led (i : Fin 32) (f : PtMet → PtMet) (s : State) :
    (State.modPmet i f s).led = s.led := rfl
@[simp] theorem State.modPmet_recs (i : Fin 32) (f : PtMet → PtMet) (s : State) :
    (State.modPmet i f s).recs = s.recs := rfl
@[simp] theorem State.modPmet_mbus (i : Fin 32) (f : PtMet → PtMet) (s : State) :
    (State.modPmet i f s).mbus = s.mbus := rfl
@[simp] theorem State.modPmet_tag (i : Fin 32) (f : PtMet → PtMet) (s : State) :
    (State.modPmet i f s).tag = s.tag := rfl
@[simp] theorem State.modPmet_phy (i : Fin 32) (f : PtMet → PtMet) (s : State) :
    (State.modPmet i f s).phy = s.phy := rfl
@[simp] theorem State.modPmet_lnk (i : Fin 32) (f : PtMet → PtMet) (s : State) :
    (State.modPmet i f s).lnk = s.lnk := rfl
@[simp] theorem State.modPmet_share (i : Fin 32) (f : PtMet → PtMet) (s : State) :
    (State.modPmet i f s).share = s.share := rfl
@[simp] theorem State.modPmet_epd (i : Fin 32) (f : PtMet → PtMet) (s : State) :
    (State.modPmet i f s).epd = s.epd := rfl
@[simp] theorem State.modPmet_fab (i : Fin 32) (f : PtMet → PtMet) (s : State) :
    (State.modPmet i f s).fab = s.fab := rfl
@[simp] theorem State.modPmet_ev (i : Fin 32) (f : PtMet → PtMet) (s : State) :
    (State.modPmet i f s).ev = s.ev := rfl
@[simp] theorem State.modPmet_sen (i : Fin 32) (f : PtMet → PtMet) (s : State) :
    (State.modPmet i f s).sen = s.sen := rfl
@[simp] theorem State.modPmet_jrn (i : Fin 32) (f : PtMet → PtMet) (s : State) :
    (State.modPmet i f s).jrn = s.jrn := rfl
@[simp] theorem State.modPmet_tamper (i : Fin 32) (f : PtMet → PtMet) (s : State) :
    (State.modPmet i f s).tamper = s.tamper := rfl
@[simp] theorem State.modPmet_elec (i : Fin 32) (f : PtMet → PtMet) (s : State) :
    (State.modPmet i f s).elec = s.elec := rfl
@[simp] theorem State.modPmet_freeCtr (i : Fin 32) (f : PtMet → PtMet) (s : State) :
    (State.modPmet i f s).freeCtr = s.freeCtr := rfl
@[simp] theorem State.modPmet_pending (i : Fin 32) (f : PtMet → PtMet) (s : State) :
    (State.modPmet i f s).pending = s.pending := rfl
@[simp] theorem State.modSafe_eng (f : Safe → Safe) (s : State) :
    (State.modSafe f s).eng = s.eng := rfl
@[simp] theorem State.modSafe_gates (f : Safe → Safe) (s : State) :
    (State.modSafe f s).gates = s.gates := rfl
@[simp] theorem State.modSafe_clk (f : Safe → Safe) (s : State) :
    (State.modSafe f s).clk = s.clk := rfl
@[simp] theorem State.modSafe_life (f : Safe → Safe) (s : State) :
    (State.modSafe f s).life = s.life := rfl
@[simp] theorem State.modSafe_keys (f : Safe → Safe) (s : State) :
    (State.modSafe f s).keys = s.keys := rfl
@[simp] theorem State.modSafe_img (f : Safe → Safe) (s : State) :
    (State.modSafe f s).img = s.img := rfl
@[simp] theorem State.modSafe_flash (f : Safe → Safe) (s : State) :
    (State.modSafe f s).flash = s.flash := rfl
@[simp] theorem State.modSafe_dlv (f : Safe → Safe) (s : State) :
    (State.modSafe f s).dlv = s.dlv := rfl
@[simp] theorem State.modSafe_ports (f : Safe → Safe) (s : State) :
    (State.modSafe f s).ports = s.ports := rfl
@[simp] theorem State.modSafe_heads (f : Safe → Safe) (s : State) :
    (State.modSafe f s).heads = s.heads := rfl
@[simp] theorem State.modSafe_meas (f : Safe → Safe) (s : State) :
    (State.modSafe f s).meas = s.meas := rfl
@[simp] theorem State.modSafe_met (f : Safe → Safe) (s : State) :
    (State.modSafe f s).met = s.met := rfl
@[simp] theorem State.modSafe_pmet (f : Safe → Safe) (s : State) :
    (State.modSafe f s).pmet = s.pmet := rfl
@[simp] theorem State.modSafe_safe (f : Safe → Safe) (s : State) :
    (State.modSafe f s).safe = f s.safe := rfl
@[simp] theorem State.modSafe_psafe (f : Safe → Safe) (s : State) :
    (State.modSafe f s).psafe = s.psafe := rfl
@[simp] theorem State.modSafe_cp (f : Safe → Safe) (s : State) :
    (State.modSafe f s).cp = s.cp := rfl
@[simp] theorem State.modSafe_plc (f : Safe → Safe) (s : State) :
    (State.modSafe f s).plc = s.plc := rfl
@[simp] theorem State.modSafe_pipes (f : Safe → Safe) (s : State) :
    (State.modSafe f s).pipes = s.pipes := rfl
@[simp] theorem State.modSafe_hpipes (f : Safe → Safe) (s : State) :
    (State.modSafe f s).hpipes = s.hpipes := rfl
@[simp] theorem State.modSafe_ses (f : Safe → Safe) (s : State) :
    (State.modSafe f s).ses = s.ses := rfl
@[simp] theorem State.modSafe_sesSys (f : Safe → Safe) (s : State) :
    (State.modSafe f s).sesSys = s.sesSys := rfl
@[simp] theorem State.modSafe_auth (f : Safe → Safe) (s : State) :
    (State.modSafe f s).auth = s.auth := rfl
@[simp] theorem State.modSafe_authSys (f : Safe → Safe) (s : State) :
    (State.modSafe f s).authSys = s.authSys := rfl
@[simp] theorem State.modSafe_led (f : Safe → Safe) (s : State) :
    (State.modSafe f s).led = s.led := rfl
@[simp] theorem State.modSafe_recs (f : Safe → Safe) (s : State) :
    (State.modSafe f s).recs = s.recs := rfl
@[simp] theorem State.modSafe_mbus (f : Safe → Safe) (s : State) :
    (State.modSafe f s).mbus = s.mbus := rfl
@[simp] theorem State.modSafe_tag (f : Safe → Safe) (s : State) :
    (State.modSafe f s).tag = s.tag := rfl
@[simp] theorem State.modSafe_phy (f : Safe → Safe) (s : State) :
    (State.modSafe f s).phy = s.phy := rfl
@[simp] theorem State.modSafe_lnk (f : Safe → Safe) (s : State) :
    (State.modSafe f s).lnk = s.lnk := rfl
@[simp] theorem State.modSafe_share (f : Safe → Safe) (s : State) :
    (State.modSafe f s).share = s.share := rfl
@[simp] theorem State.modSafe_epd (f : Safe → Safe) (s : State) :
    (State.modSafe f s).epd = s.epd := rfl
@[simp] theorem State.modSafe_fab (f : Safe → Safe) (s : State) :
    (State.modSafe f s).fab = s.fab := rfl
@[simp] theorem State.modSafe_ev (f : Safe → Safe) (s : State) :
    (State.modSafe f s).ev = s.ev := rfl
@[simp] theorem State.modSafe_sen (f : Safe → Safe) (s : State) :
    (State.modSafe f s).sen = s.sen := rfl
@[simp] theorem State.modSafe_jrn (f : Safe → Safe) (s : State) :
    (State.modSafe f s).jrn = s.jrn := rfl
@[simp] theorem State.modSafe_tamper (f : Safe → Safe) (s : State) :
    (State.modSafe f s).tamper = s.tamper := rfl
@[simp] theorem State.modSafe_elec (f : Safe → Safe) (s : State) :
    (State.modSafe f s).elec = s.elec := rfl
@[simp] theorem State.modSafe_freeCtr (f : Safe → Safe) (s : State) :
    (State.modSafe f s).freeCtr = s.freeCtr := rfl
@[simp] theorem State.modSafe_pending (f : Safe → Safe) (s : State) :
    (State.modSafe f s).pending = s.pending := rfl
@[simp] theorem State.modPsafe_eng (i : Fin 32) (f : PtSafe → PtSafe) (s : State) :
    (State.modPsafe i f s).eng = s.eng := rfl
@[simp] theorem State.modPsafe_gates (i : Fin 32) (f : PtSafe → PtSafe) (s : State) :
    (State.modPsafe i f s).gates = s.gates := rfl
@[simp] theorem State.modPsafe_clk (i : Fin 32) (f : PtSafe → PtSafe) (s : State) :
    (State.modPsafe i f s).clk = s.clk := rfl
@[simp] theorem State.modPsafe_life (i : Fin 32) (f : PtSafe → PtSafe) (s : State) :
    (State.modPsafe i f s).life = s.life := rfl
@[simp] theorem State.modPsafe_keys (i : Fin 32) (f : PtSafe → PtSafe) (s : State) :
    (State.modPsafe i f s).keys = s.keys := rfl
@[simp] theorem State.modPsafe_img (i : Fin 32) (f : PtSafe → PtSafe) (s : State) :
    (State.modPsafe i f s).img = s.img := rfl
@[simp] theorem State.modPsafe_flash (i : Fin 32) (f : PtSafe → PtSafe) (s : State) :
    (State.modPsafe i f s).flash = s.flash := rfl
@[simp] theorem State.modPsafe_dlv (i : Fin 32) (f : PtSafe → PtSafe) (s : State) :
    (State.modPsafe i f s).dlv = s.dlv := rfl
@[simp] theorem State.modPsafe_ports (i : Fin 32) (f : PtSafe → PtSafe) (s : State) :
    (State.modPsafe i f s).ports = s.ports := rfl
@[simp] theorem State.modPsafe_heads (i : Fin 32) (f : PtSafe → PtSafe) (s : State) :
    (State.modPsafe i f s).heads = s.heads := rfl
@[simp] theorem State.modPsafe_meas (i : Fin 32) (f : PtSafe → PtSafe) (s : State) :
    (State.modPsafe i f s).meas = s.meas := rfl
@[simp] theorem State.modPsafe_met (i : Fin 32) (f : PtSafe → PtSafe) (s : State) :
    (State.modPsafe i f s).met = s.met := rfl
@[simp] theorem State.modPsafe_pmet (i : Fin 32) (f : PtSafe → PtSafe) (s : State) :
    (State.modPsafe i f s).pmet = s.pmet := rfl
@[simp] theorem State.modPsafe_safe (i : Fin 32) (f : PtSafe → PtSafe) (s : State) :
    (State.modPsafe i f s).safe = s.safe := rfl
@[simp] theorem State.modPsafe_psafe (i : Fin 32) (f : PtSafe → PtSafe) (s : State) :
    (State.modPsafe i f s).psafe = s.psafe.set i (f s.psafe[i]) := rfl
@[simp] theorem State.modPsafe_cp (i : Fin 32) (f : PtSafe → PtSafe) (s : State) :
    (State.modPsafe i f s).cp = s.cp := rfl
@[simp] theorem State.modPsafe_plc (i : Fin 32) (f : PtSafe → PtSafe) (s : State) :
    (State.modPsafe i f s).plc = s.plc := rfl
@[simp] theorem State.modPsafe_pipes (i : Fin 32) (f : PtSafe → PtSafe) (s : State) :
    (State.modPsafe i f s).pipes = s.pipes := rfl
@[simp] theorem State.modPsafe_hpipes (i : Fin 32) (f : PtSafe → PtSafe) (s : State) :
    (State.modPsafe i f s).hpipes = s.hpipes := rfl
@[simp] theorem State.modPsafe_ses (i : Fin 32) (f : PtSafe → PtSafe) (s : State) :
    (State.modPsafe i f s).ses = s.ses := rfl
@[simp] theorem State.modPsafe_sesSys (i : Fin 32) (f : PtSafe → PtSafe) (s : State) :
    (State.modPsafe i f s).sesSys = s.sesSys := rfl
@[simp] theorem State.modPsafe_auth (i : Fin 32) (f : PtSafe → PtSafe) (s : State) :
    (State.modPsafe i f s).auth = s.auth := rfl
@[simp] theorem State.modPsafe_authSys (i : Fin 32) (f : PtSafe → PtSafe) (s : State) :
    (State.modPsafe i f s).authSys = s.authSys := rfl
@[simp] theorem State.modPsafe_led (i : Fin 32) (f : PtSafe → PtSafe) (s : State) :
    (State.modPsafe i f s).led = s.led := rfl
@[simp] theorem State.modPsafe_recs (i : Fin 32) (f : PtSafe → PtSafe) (s : State) :
    (State.modPsafe i f s).recs = s.recs := rfl
@[simp] theorem State.modPsafe_mbus (i : Fin 32) (f : PtSafe → PtSafe) (s : State) :
    (State.modPsafe i f s).mbus = s.mbus := rfl
@[simp] theorem State.modPsafe_tag (i : Fin 32) (f : PtSafe → PtSafe) (s : State) :
    (State.modPsafe i f s).tag = s.tag := rfl
@[simp] theorem State.modPsafe_phy (i : Fin 32) (f : PtSafe → PtSafe) (s : State) :
    (State.modPsafe i f s).phy = s.phy := rfl
@[simp] theorem State.modPsafe_lnk (i : Fin 32) (f : PtSafe → PtSafe) (s : State) :
    (State.modPsafe i f s).lnk = s.lnk := rfl
@[simp] theorem State.modPsafe_share (i : Fin 32) (f : PtSafe → PtSafe) (s : State) :
    (State.modPsafe i f s).share = s.share := rfl
@[simp] theorem State.modPsafe_epd (i : Fin 32) (f : PtSafe → PtSafe) (s : State) :
    (State.modPsafe i f s).epd = s.epd := rfl
@[simp] theorem State.modPsafe_fab (i : Fin 32) (f : PtSafe → PtSafe) (s : State) :
    (State.modPsafe i f s).fab = s.fab := rfl
@[simp] theorem State.modPsafe_ev (i : Fin 32) (f : PtSafe → PtSafe) (s : State) :
    (State.modPsafe i f s).ev = s.ev := rfl
@[simp] theorem State.modPsafe_sen (i : Fin 32) (f : PtSafe → PtSafe) (s : State) :
    (State.modPsafe i f s).sen = s.sen := rfl
@[simp] theorem State.modPsafe_jrn (i : Fin 32) (f : PtSafe → PtSafe) (s : State) :
    (State.modPsafe i f s).jrn = s.jrn := rfl
@[simp] theorem State.modPsafe_tamper (i : Fin 32) (f : PtSafe → PtSafe) (s : State) :
    (State.modPsafe i f s).tamper = s.tamper := rfl
@[simp] theorem State.modPsafe_elec (i : Fin 32) (f : PtSafe → PtSafe) (s : State) :
    (State.modPsafe i f s).elec = s.elec := rfl
@[simp] theorem State.modPsafe_freeCtr (i : Fin 32) (f : PtSafe → PtSafe) (s : State) :
    (State.modPsafe i f s).freeCtr = s.freeCtr := rfl
@[simp] theorem State.modPsafe_pending (i : Fin 32) (f : PtSafe → PtSafe) (s : State) :
    (State.modPsafe i f s).pending = s.pending := rfl
@[simp] theorem State.modCp_eng (i : Fin 32) (f : PtCp → PtCp) (s : State) :
    (State.modCp i f s).eng = s.eng := rfl
@[simp] theorem State.modCp_gates (i : Fin 32) (f : PtCp → PtCp) (s : State) :
    (State.modCp i f s).gates = s.gates := rfl
@[simp] theorem State.modCp_clk (i : Fin 32) (f : PtCp → PtCp) (s : State) :
    (State.modCp i f s).clk = s.clk := rfl
@[simp] theorem State.modCp_life (i : Fin 32) (f : PtCp → PtCp) (s : State) :
    (State.modCp i f s).life = s.life := rfl
@[simp] theorem State.modCp_keys (i : Fin 32) (f : PtCp → PtCp) (s : State) :
    (State.modCp i f s).keys = s.keys := rfl
@[simp] theorem State.modCp_img (i : Fin 32) (f : PtCp → PtCp) (s : State) :
    (State.modCp i f s).img = s.img := rfl
@[simp] theorem State.modCp_flash (i : Fin 32) (f : PtCp → PtCp) (s : State) :
    (State.modCp i f s).flash = s.flash := rfl
@[simp] theorem State.modCp_dlv (i : Fin 32) (f : PtCp → PtCp) (s : State) :
    (State.modCp i f s).dlv = s.dlv := rfl
@[simp] theorem State.modCp_ports (i : Fin 32) (f : PtCp → PtCp) (s : State) :
    (State.modCp i f s).ports = s.ports := rfl
@[simp] theorem State.modCp_heads (i : Fin 32) (f : PtCp → PtCp) (s : State) :
    (State.modCp i f s).heads = s.heads := rfl
@[simp] theorem State.modCp_meas (i : Fin 32) (f : PtCp → PtCp) (s : State) :
    (State.modCp i f s).meas = s.meas := rfl
@[simp] theorem State.modCp_met (i : Fin 32) (f : PtCp → PtCp) (s : State) :
    (State.modCp i f s).met = s.met := rfl
@[simp] theorem State.modCp_pmet (i : Fin 32) (f : PtCp → PtCp) (s : State) :
    (State.modCp i f s).pmet = s.pmet := rfl
@[simp] theorem State.modCp_safe (i : Fin 32) (f : PtCp → PtCp) (s : State) :
    (State.modCp i f s).safe = s.safe := rfl
@[simp] theorem State.modCp_psafe (i : Fin 32) (f : PtCp → PtCp) (s : State) :
    (State.modCp i f s).psafe = s.psafe := rfl
@[simp] theorem State.modCp_cp (i : Fin 32) (f : PtCp → PtCp) (s : State) :
    (State.modCp i f s).cp = s.cp.set i (f s.cp[i]) := rfl
@[simp] theorem State.modCp_plc (i : Fin 32) (f : PtCp → PtCp) (s : State) :
    (State.modCp i f s).plc = s.plc := rfl
@[simp] theorem State.modCp_pipes (i : Fin 32) (f : PtCp → PtCp) (s : State) :
    (State.modCp i f s).pipes = s.pipes := rfl
@[simp] theorem State.modCp_hpipes (i : Fin 32) (f : PtCp → PtCp) (s : State) :
    (State.modCp i f s).hpipes = s.hpipes := rfl
@[simp] theorem State.modCp_ses (i : Fin 32) (f : PtCp → PtCp) (s : State) :
    (State.modCp i f s).ses = s.ses := rfl
@[simp] theorem State.modCp_sesSys (i : Fin 32) (f : PtCp → PtCp) (s : State) :
    (State.modCp i f s).sesSys = s.sesSys := rfl
@[simp] theorem State.modCp_auth (i : Fin 32) (f : PtCp → PtCp) (s : State) :
    (State.modCp i f s).auth = s.auth := rfl
@[simp] theorem State.modCp_authSys (i : Fin 32) (f : PtCp → PtCp) (s : State) :
    (State.modCp i f s).authSys = s.authSys := rfl
@[simp] theorem State.modCp_led (i : Fin 32) (f : PtCp → PtCp) (s : State) :
    (State.modCp i f s).led = s.led := rfl
@[simp] theorem State.modCp_recs (i : Fin 32) (f : PtCp → PtCp) (s : State) :
    (State.modCp i f s).recs = s.recs := rfl
@[simp] theorem State.modCp_mbus (i : Fin 32) (f : PtCp → PtCp) (s : State) :
    (State.modCp i f s).mbus = s.mbus := rfl
@[simp] theorem State.modCp_tag (i : Fin 32) (f : PtCp → PtCp) (s : State) :
    (State.modCp i f s).tag = s.tag := rfl
@[simp] theorem State.modCp_phy (i : Fin 32) (f : PtCp → PtCp) (s : State) :
    (State.modCp i f s).phy = s.phy := rfl
@[simp] theorem State.modCp_lnk (i : Fin 32) (f : PtCp → PtCp) (s : State) :
    (State.modCp i f s).lnk = s.lnk := rfl
@[simp] theorem State.modCp_share (i : Fin 32) (f : PtCp → PtCp) (s : State) :
    (State.modCp i f s).share = s.share := rfl
@[simp] theorem State.modCp_epd (i : Fin 32) (f : PtCp → PtCp) (s : State) :
    (State.modCp i f s).epd = s.epd := rfl
@[simp] theorem State.modCp_fab (i : Fin 32) (f : PtCp → PtCp) (s : State) :
    (State.modCp i f s).fab = s.fab := rfl
@[simp] theorem State.modCp_ev (i : Fin 32) (f : PtCp → PtCp) (s : State) :
    (State.modCp i f s).ev = s.ev := rfl
@[simp] theorem State.modCp_sen (i : Fin 32) (f : PtCp → PtCp) (s : State) :
    (State.modCp i f s).sen = s.sen := rfl
@[simp] theorem State.modCp_jrn (i : Fin 32) (f : PtCp → PtCp) (s : State) :
    (State.modCp i f s).jrn = s.jrn := rfl
@[simp] theorem State.modCp_tamper (i : Fin 32) (f : PtCp → PtCp) (s : State) :
    (State.modCp i f s).tamper = s.tamper := rfl
@[simp] theorem State.modCp_elec (i : Fin 32) (f : PtCp → PtCp) (s : State) :
    (State.modCp i f s).elec = s.elec := rfl
@[simp] theorem State.modCp_freeCtr (i : Fin 32) (f : PtCp → PtCp) (s : State) :
    (State.modCp i f s).freeCtr = s.freeCtr := rfl
@[simp] theorem State.modCp_pending (i : Fin 32) (f : PtCp → PtCp) (s : State) :
    (State.modCp i f s).pending = s.pending := rfl
@[simp] theorem State.modPlc_eng (i : Fin 32) (f : PtPlc → PtPlc) (s : State) :
    (State.modPlc i f s).eng = s.eng := rfl
@[simp] theorem State.modPlc_gates (i : Fin 32) (f : PtPlc → PtPlc) (s : State) :
    (State.modPlc i f s).gates = s.gates := rfl
@[simp] theorem State.modPlc_clk (i : Fin 32) (f : PtPlc → PtPlc) (s : State) :
    (State.modPlc i f s).clk = s.clk := rfl
@[simp] theorem State.modPlc_life (i : Fin 32) (f : PtPlc → PtPlc) (s : State) :
    (State.modPlc i f s).life = s.life := rfl
@[simp] theorem State.modPlc_keys (i : Fin 32) (f : PtPlc → PtPlc) (s : State) :
    (State.modPlc i f s).keys = s.keys := rfl
@[simp] theorem State.modPlc_img (i : Fin 32) (f : PtPlc → PtPlc) (s : State) :
    (State.modPlc i f s).img = s.img := rfl
@[simp] theorem State.modPlc_flash (i : Fin 32) (f : PtPlc → PtPlc) (s : State) :
    (State.modPlc i f s).flash = s.flash := rfl
@[simp] theorem State.modPlc_dlv (i : Fin 32) (f : PtPlc → PtPlc) (s : State) :
    (State.modPlc i f s).dlv = s.dlv := rfl
@[simp] theorem State.modPlc_ports (i : Fin 32) (f : PtPlc → PtPlc) (s : State) :
    (State.modPlc i f s).ports = s.ports := rfl
@[simp] theorem State.modPlc_heads (i : Fin 32) (f : PtPlc → PtPlc) (s : State) :
    (State.modPlc i f s).heads = s.heads := rfl
@[simp] theorem State.modPlc_meas (i : Fin 32) (f : PtPlc → PtPlc) (s : State) :
    (State.modPlc i f s).meas = s.meas := rfl
@[simp] theorem State.modPlc_met (i : Fin 32) (f : PtPlc → PtPlc) (s : State) :
    (State.modPlc i f s).met = s.met := rfl
@[simp] theorem State.modPlc_pmet (i : Fin 32) (f : PtPlc → PtPlc) (s : State) :
    (State.modPlc i f s).pmet = s.pmet := rfl
@[simp] theorem State.modPlc_safe (i : Fin 32) (f : PtPlc → PtPlc) (s : State) :
    (State.modPlc i f s).safe = s.safe := rfl
@[simp] theorem State.modPlc_psafe (i : Fin 32) (f : PtPlc → PtPlc) (s : State) :
    (State.modPlc i f s).psafe = s.psafe := rfl
@[simp] theorem State.modPlc_cp (i : Fin 32) (f : PtPlc → PtPlc) (s : State) :
    (State.modPlc i f s).cp = s.cp := rfl
@[simp] theorem State.modPlc_plc (i : Fin 32) (f : PtPlc → PtPlc) (s : State) :
    (State.modPlc i f s).plc = s.plc.set i (f s.plc[i]) := rfl
@[simp] theorem State.modPlc_pipes (i : Fin 32) (f : PtPlc → PtPlc) (s : State) :
    (State.modPlc i f s).pipes = s.pipes := rfl
@[simp] theorem State.modPlc_hpipes (i : Fin 32) (f : PtPlc → PtPlc) (s : State) :
    (State.modPlc i f s).hpipes = s.hpipes := rfl
@[simp] theorem State.modPlc_ses (i : Fin 32) (f : PtPlc → PtPlc) (s : State) :
    (State.modPlc i f s).ses = s.ses := rfl
@[simp] theorem State.modPlc_sesSys (i : Fin 32) (f : PtPlc → PtPlc) (s : State) :
    (State.modPlc i f s).sesSys = s.sesSys := rfl
@[simp] theorem State.modPlc_auth (i : Fin 32) (f : PtPlc → PtPlc) (s : State) :
    (State.modPlc i f s).auth = s.auth := rfl
@[simp] theorem State.modPlc_authSys (i : Fin 32) (f : PtPlc → PtPlc) (s : State) :
    (State.modPlc i f s).authSys = s.authSys := rfl
@[simp] theorem State.modPlc_led (i : Fin 32) (f : PtPlc → PtPlc) (s : State) :
    (State.modPlc i f s).led = s.led := rfl
@[simp] theorem State.modPlc_recs (i : Fin 32) (f : PtPlc → PtPlc) (s : State) :
    (State.modPlc i f s).recs = s.recs := rfl
@[simp] theorem State.modPlc_mbus (i : Fin 32) (f : PtPlc → PtPlc) (s : State) :
    (State.modPlc i f s).mbus = s.mbus := rfl
@[simp] theorem State.modPlc_tag (i : Fin 32) (f : PtPlc → PtPlc) (s : State) :
    (State.modPlc i f s).tag = s.tag := rfl
@[simp] theorem State.modPlc_phy (i : Fin 32) (f : PtPlc → PtPlc) (s : State) :
    (State.modPlc i f s).phy = s.phy := rfl
@[simp] theorem State.modPlc_lnk (i : Fin 32) (f : PtPlc → PtPlc) (s : State) :
    (State.modPlc i f s).lnk = s.lnk := rfl
@[simp] theorem State.modPlc_share (i : Fin 32) (f : PtPlc → PtPlc) (s : State) :
    (State.modPlc i f s).share = s.share := rfl
@[simp] theorem State.modPlc_epd (i : Fin 32) (f : PtPlc → PtPlc) (s : State) :
    (State.modPlc i f s).epd = s.epd := rfl
@[simp] theorem State.modPlc_fab (i : Fin 32) (f : PtPlc → PtPlc) (s : State) :
    (State.modPlc i f s).fab = s.fab := rfl
@[simp] theorem State.modPlc_ev (i : Fin 32) (f : PtPlc → PtPlc) (s : State) :
    (State.modPlc i f s).ev = s.ev := rfl
@[simp] theorem State.modPlc_sen (i : Fin 32) (f : PtPlc → PtPlc) (s : State) :
    (State.modPlc i f s).sen = s.sen := rfl
@[simp] theorem State.modPlc_jrn (i : Fin 32) (f : PtPlc → PtPlc) (s : State) :
    (State.modPlc i f s).jrn = s.jrn := rfl
@[simp] theorem State.modPlc_tamper (i : Fin 32) (f : PtPlc → PtPlc) (s : State) :
    (State.modPlc i f s).tamper = s.tamper := rfl
@[simp] theorem State.modPlc_elec (i : Fin 32) (f : PtPlc → PtPlc) (s : State) :
    (State.modPlc i f s).elec = s.elec := rfl
@[simp] theorem State.modPlc_freeCtr (i : Fin 32) (f : PtPlc → PtPlc) (s : State) :
    (State.modPlc i f s).freeCtr = s.freeCtr := rfl
@[simp] theorem State.modPlc_pending (i : Fin 32) (f : PtPlc → PtPlc) (s : State) :
    (State.modPlc i f s).pending = s.pending := rfl
@[simp] theorem State.modPipes_eng (i : Fin 8) (f : Pipes → Pipes) (s : State) :
    (State.modPipes i f s).eng = s.eng := rfl
@[simp] theorem State.modPipes_gates (i : Fin 8) (f : Pipes → Pipes) (s : State) :
    (State.modPipes i f s).gates = s.gates := rfl
@[simp] theorem State.modPipes_clk (i : Fin 8) (f : Pipes → Pipes) (s : State) :
    (State.modPipes i f s).clk = s.clk := rfl
@[simp] theorem State.modPipes_life (i : Fin 8) (f : Pipes → Pipes) (s : State) :
    (State.modPipes i f s).life = s.life := rfl
@[simp] theorem State.modPipes_keys (i : Fin 8) (f : Pipes → Pipes) (s : State) :
    (State.modPipes i f s).keys = s.keys := rfl
@[simp] theorem State.modPipes_img (i : Fin 8) (f : Pipes → Pipes) (s : State) :
    (State.modPipes i f s).img = s.img := rfl
@[simp] theorem State.modPipes_flash (i : Fin 8) (f : Pipes → Pipes) (s : State) :
    (State.modPipes i f s).flash = s.flash := rfl
@[simp] theorem State.modPipes_dlv (i : Fin 8) (f : Pipes → Pipes) (s : State) :
    (State.modPipes i f s).dlv = s.dlv := rfl
@[simp] theorem State.modPipes_ports (i : Fin 8) (f : Pipes → Pipes) (s : State) :
    (State.modPipes i f s).ports = s.ports := rfl
@[simp] theorem State.modPipes_heads (i : Fin 8) (f : Pipes → Pipes) (s : State) :
    (State.modPipes i f s).heads = s.heads := rfl
@[simp] theorem State.modPipes_meas (i : Fin 8) (f : Pipes → Pipes) (s : State) :
    (State.modPipes i f s).meas = s.meas := rfl
@[simp] theorem State.modPipes_met (i : Fin 8) (f : Pipes → Pipes) (s : State) :
    (State.modPipes i f s).met = s.met := rfl
@[simp] theorem State.modPipes_pmet (i : Fin 8) (f : Pipes → Pipes) (s : State) :
    (State.modPipes i f s).pmet = s.pmet := rfl
@[simp] theorem State.modPipes_safe (i : Fin 8) (f : Pipes → Pipes) (s : State) :
    (State.modPipes i f s).safe = s.safe := rfl
@[simp] theorem State.modPipes_psafe (i : Fin 8) (f : Pipes → Pipes) (s : State) :
    (State.modPipes i f s).psafe = s.psafe := rfl
@[simp] theorem State.modPipes_cp (i : Fin 8) (f : Pipes → Pipes) (s : State) :
    (State.modPipes i f s).cp = s.cp := rfl
@[simp] theorem State.modPipes_plc (i : Fin 8) (f : Pipes → Pipes) (s : State) :
    (State.modPipes i f s).plc = s.plc := rfl
@[simp] theorem State.modPipes_pipes (i : Fin 8) (f : Pipes → Pipes) (s : State) :
    (State.modPipes i f s).pipes = s.pipes.set i (f s.pipes[i]) := rfl
@[simp] theorem State.modPipes_hpipes (i : Fin 8) (f : Pipes → Pipes) (s : State) :
    (State.modPipes i f s).hpipes = s.hpipes := rfl
@[simp] theorem State.modPipes_ses (i : Fin 8) (f : Pipes → Pipes) (s : State) :
    (State.modPipes i f s).ses = s.ses := rfl
@[simp] theorem State.modPipes_sesSys (i : Fin 8) (f : Pipes → Pipes) (s : State) :
    (State.modPipes i f s).sesSys = s.sesSys := rfl
@[simp] theorem State.modPipes_auth (i : Fin 8) (f : Pipes → Pipes) (s : State) :
    (State.modPipes i f s).auth = s.auth := rfl
@[simp] theorem State.modPipes_authSys (i : Fin 8) (f : Pipes → Pipes) (s : State) :
    (State.modPipes i f s).authSys = s.authSys := rfl
@[simp] theorem State.modPipes_led (i : Fin 8) (f : Pipes → Pipes) (s : State) :
    (State.modPipes i f s).led = s.led := rfl
@[simp] theorem State.modPipes_recs (i : Fin 8) (f : Pipes → Pipes) (s : State) :
    (State.modPipes i f s).recs = s.recs := rfl
@[simp] theorem State.modPipes_mbus (i : Fin 8) (f : Pipes → Pipes) (s : State) :
    (State.modPipes i f s).mbus = s.mbus := rfl
@[simp] theorem State.modPipes_tag (i : Fin 8) (f : Pipes → Pipes) (s : State) :
    (State.modPipes i f s).tag = s.tag := rfl
@[simp] theorem State.modPipes_phy (i : Fin 8) (f : Pipes → Pipes) (s : State) :
    (State.modPipes i f s).phy = s.phy := rfl
@[simp] theorem State.modPipes_lnk (i : Fin 8) (f : Pipes → Pipes) (s : State) :
    (State.modPipes i f s).lnk = s.lnk := rfl
@[simp] theorem State.modPipes_share (i : Fin 8) (f : Pipes → Pipes) (s : State) :
    (State.modPipes i f s).share = s.share := rfl
@[simp] theorem State.modPipes_epd (i : Fin 8) (f : Pipes → Pipes) (s : State) :
    (State.modPipes i f s).epd = s.epd := rfl
@[simp] theorem State.modPipes_fab (i : Fin 8) (f : Pipes → Pipes) (s : State) :
    (State.modPipes i f s).fab = s.fab := rfl
@[simp] theorem State.modPipes_ev (i : Fin 8) (f : Pipes → Pipes) (s : State) :
    (State.modPipes i f s).ev = s.ev := rfl
@[simp] theorem State.modPipes_sen (i : Fin 8) (f : Pipes → Pipes) (s : State) :
    (State.modPipes i f s).sen = s.sen := rfl
@[simp] theorem State.modPipes_jrn (i : Fin 8) (f : Pipes → Pipes) (s : State) :
    (State.modPipes i f s).jrn = s.jrn := rfl
@[simp] theorem State.modPipes_tamper (i : Fin 8) (f : Pipes → Pipes) (s : State) :
    (State.modPipes i f s).tamper = s.tamper := rfl
@[simp] theorem State.modPipes_elec (i : Fin 8) (f : Pipes → Pipes) (s : State) :
    (State.modPipes i f s).elec = s.elec := rfl
@[simp] theorem State.modPipes_freeCtr (i : Fin 8) (f : Pipes → Pipes) (s : State) :
    (State.modPipes i f s).freeCtr = s.freeCtr := rfl
@[simp] theorem State.modPipes_pending (i : Fin 8) (f : Pipes → Pipes) (s : State) :
    (State.modPipes i f s).pending = s.pending := rfl
@[simp] theorem State.modHpipes_eng (i : Fin 8) (f : HeadPipes → HeadPipes) (s : State) :
    (State.modHpipes i f s).eng = s.eng := rfl
@[simp] theorem State.modHpipes_gates (i : Fin 8) (f : HeadPipes → HeadPipes) (s : State) :
    (State.modHpipes i f s).gates = s.gates := rfl
@[simp] theorem State.modHpipes_clk (i : Fin 8) (f : HeadPipes → HeadPipes) (s : State) :
    (State.modHpipes i f s).clk = s.clk := rfl
@[simp] theorem State.modHpipes_life (i : Fin 8) (f : HeadPipes → HeadPipes) (s : State) :
    (State.modHpipes i f s).life = s.life := rfl
@[simp] theorem State.modHpipes_keys (i : Fin 8) (f : HeadPipes → HeadPipes) (s : State) :
    (State.modHpipes i f s).keys = s.keys := rfl
@[simp] theorem State.modHpipes_img (i : Fin 8) (f : HeadPipes → HeadPipes) (s : State) :
    (State.modHpipes i f s).img = s.img := rfl
@[simp] theorem State.modHpipes_flash (i : Fin 8) (f : HeadPipes → HeadPipes) (s : State) :
    (State.modHpipes i f s).flash = s.flash := rfl
@[simp] theorem State.modHpipes_dlv (i : Fin 8) (f : HeadPipes → HeadPipes) (s : State) :
    (State.modHpipes i f s).dlv = s.dlv := rfl
@[simp] theorem State.modHpipes_ports (i : Fin 8) (f : HeadPipes → HeadPipes) (s : State) :
    (State.modHpipes i f s).ports = s.ports := rfl
@[simp] theorem State.modHpipes_heads (i : Fin 8) (f : HeadPipes → HeadPipes) (s : State) :
    (State.modHpipes i f s).heads = s.heads := rfl
@[simp] theorem State.modHpipes_meas (i : Fin 8) (f : HeadPipes → HeadPipes) (s : State) :
    (State.modHpipes i f s).meas = s.meas := rfl
@[simp] theorem State.modHpipes_met (i : Fin 8) (f : HeadPipes → HeadPipes) (s : State) :
    (State.modHpipes i f s).met = s.met := rfl
@[simp] theorem State.modHpipes_pmet (i : Fin 8) (f : HeadPipes → HeadPipes) (s : State) :
    (State.modHpipes i f s).pmet = s.pmet := rfl
@[simp] theorem State.modHpipes_safe (i : Fin 8) (f : HeadPipes → HeadPipes) (s : State) :
    (State.modHpipes i f s).safe = s.safe := rfl
@[simp] theorem State.modHpipes_psafe (i : Fin 8) (f : HeadPipes → HeadPipes) (s : State) :
    (State.modHpipes i f s).psafe = s.psafe := rfl
@[simp] theorem State.modHpipes_cp (i : Fin 8) (f : HeadPipes → HeadPipes) (s : State) :
    (State.modHpipes i f s).cp = s.cp := rfl
@[simp] theorem State.modHpipes_plc (i : Fin 8) (f : HeadPipes → HeadPipes) (s : State) :
    (State.modHpipes i f s).plc = s.plc := rfl
@[simp] theorem State.modHpipes_pipes (i : Fin 8) (f : HeadPipes → HeadPipes) (s : State) :
    (State.modHpipes i f s).pipes = s.pipes := rfl
@[simp] theorem State.modHpipes_hpipes (i : Fin 8) (f : HeadPipes → HeadPipes) (s : State) :
    (State.modHpipes i f s).hpipes = s.hpipes.set i (f s.hpipes[i]) := rfl
@[simp] theorem State.modHpipes_ses (i : Fin 8) (f : HeadPipes → HeadPipes) (s : State) :
    (State.modHpipes i f s).ses = s.ses := rfl
@[simp] theorem State.modHpipes_sesSys (i : Fin 8) (f : HeadPipes → HeadPipes) (s : State) :
    (State.modHpipes i f s).sesSys = s.sesSys := rfl
@[simp] theorem State.modHpipes_auth (i : Fin 8) (f : HeadPipes → HeadPipes) (s : State) :
    (State.modHpipes i f s).auth = s.auth := rfl
@[simp] theorem State.modHpipes_authSys (i : Fin 8) (f : HeadPipes → HeadPipes) (s : State) :
    (State.modHpipes i f s).authSys = s.authSys := rfl
@[simp] theorem State.modHpipes_led (i : Fin 8) (f : HeadPipes → HeadPipes) (s : State) :
    (State.modHpipes i f s).led = s.led := rfl
@[simp] theorem State.modHpipes_recs (i : Fin 8) (f : HeadPipes → HeadPipes) (s : State) :
    (State.modHpipes i f s).recs = s.recs := rfl
@[simp] theorem State.modHpipes_mbus (i : Fin 8) (f : HeadPipes → HeadPipes) (s : State) :
    (State.modHpipes i f s).mbus = s.mbus := rfl
@[simp] theorem State.modHpipes_tag (i : Fin 8) (f : HeadPipes → HeadPipes) (s : State) :
    (State.modHpipes i f s).tag = s.tag := rfl
@[simp] theorem State.modHpipes_phy (i : Fin 8) (f : HeadPipes → HeadPipes) (s : State) :
    (State.modHpipes i f s).phy = s.phy := rfl
@[simp] theorem State.modHpipes_lnk (i : Fin 8) (f : HeadPipes → HeadPipes) (s : State) :
    (State.modHpipes i f s).lnk = s.lnk := rfl
@[simp] theorem State.modHpipes_share (i : Fin 8) (f : HeadPipes → HeadPipes) (s : State) :
    (State.modHpipes i f s).share = s.share := rfl
@[simp] theorem State.modHpipes_epd (i : Fin 8) (f : HeadPipes → HeadPipes) (s : State) :
    (State.modHpipes i f s).epd = s.epd := rfl
@[simp] theorem State.modHpipes_fab (i : Fin 8) (f : HeadPipes → HeadPipes) (s : State) :
    (State.modHpipes i f s).fab = s.fab := rfl
@[simp] theorem State.modHpipes_ev (i : Fin 8) (f : HeadPipes → HeadPipes) (s : State) :
    (State.modHpipes i f s).ev = s.ev := rfl
@[simp] theorem State.modHpipes_sen (i : Fin 8) (f : HeadPipes → HeadPipes) (s : State) :
    (State.modHpipes i f s).sen = s.sen := rfl
@[simp] theorem State.modHpipes_jrn (i : Fin 8) (f : HeadPipes → HeadPipes) (s : State) :
    (State.modHpipes i f s).jrn = s.jrn := rfl
@[simp] theorem State.modHpipes_tamper (i : Fin 8) (f : HeadPipes → HeadPipes) (s : State) :
    (State.modHpipes i f s).tamper = s.tamper := rfl
@[simp] theorem State.modHpipes_elec (i : Fin 8) (f : HeadPipes → HeadPipes) (s : State) :
    (State.modHpipes i f s).elec = s.elec := rfl
@[simp] theorem State.modHpipes_freeCtr (i : Fin 8) (f : HeadPipes → HeadPipes) (s : State) :
    (State.modHpipes i f s).freeCtr = s.freeCtr := rfl
@[simp] theorem State.modHpipes_pending (i : Fin 8) (f : HeadPipes → HeadPipes) (s : State) :
    (State.modHpipes i f s).pending = s.pending := rfl
@[simp] theorem State.modSes_eng (i : Fin 32) (f : PtSes → PtSes) (s : State) :
    (State.modSes i f s).eng = s.eng := rfl
@[simp] theorem State.modSes_gates (i : Fin 32) (f : PtSes → PtSes) (s : State) :
    (State.modSes i f s).gates = s.gates := rfl
@[simp] theorem State.modSes_clk (i : Fin 32) (f : PtSes → PtSes) (s : State) :
    (State.modSes i f s).clk = s.clk := rfl
@[simp] theorem State.modSes_life (i : Fin 32) (f : PtSes → PtSes) (s : State) :
    (State.modSes i f s).life = s.life := rfl
@[simp] theorem State.modSes_keys (i : Fin 32) (f : PtSes → PtSes) (s : State) :
    (State.modSes i f s).keys = s.keys := rfl
@[simp] theorem State.modSes_img (i : Fin 32) (f : PtSes → PtSes) (s : State) :
    (State.modSes i f s).img = s.img := rfl
@[simp] theorem State.modSes_flash (i : Fin 32) (f : PtSes → PtSes) (s : State) :
    (State.modSes i f s).flash = s.flash := rfl
@[simp] theorem State.modSes_dlv (i : Fin 32) (f : PtSes → PtSes) (s : State) :
    (State.modSes i f s).dlv = s.dlv := rfl
@[simp] theorem State.modSes_ports (i : Fin 32) (f : PtSes → PtSes) (s : State) :
    (State.modSes i f s).ports = s.ports := rfl
@[simp] theorem State.modSes_heads (i : Fin 32) (f : PtSes → PtSes) (s : State) :
    (State.modSes i f s).heads = s.heads := rfl
@[simp] theorem State.modSes_meas (i : Fin 32) (f : PtSes → PtSes) (s : State) :
    (State.modSes i f s).meas = s.meas := rfl
@[simp] theorem State.modSes_met (i : Fin 32) (f : PtSes → PtSes) (s : State) :
    (State.modSes i f s).met = s.met := rfl
@[simp] theorem State.modSes_pmet (i : Fin 32) (f : PtSes → PtSes) (s : State) :
    (State.modSes i f s).pmet = s.pmet := rfl
@[simp] theorem State.modSes_safe (i : Fin 32) (f : PtSes → PtSes) (s : State) :
    (State.modSes i f s).safe = s.safe := rfl
@[simp] theorem State.modSes_psafe (i : Fin 32) (f : PtSes → PtSes) (s : State) :
    (State.modSes i f s).psafe = s.psafe := rfl
@[simp] theorem State.modSes_cp (i : Fin 32) (f : PtSes → PtSes) (s : State) :
    (State.modSes i f s).cp = s.cp := rfl
@[simp] theorem State.modSes_plc (i : Fin 32) (f : PtSes → PtSes) (s : State) :
    (State.modSes i f s).plc = s.plc := rfl
@[simp] theorem State.modSes_pipes (i : Fin 32) (f : PtSes → PtSes) (s : State) :
    (State.modSes i f s).pipes = s.pipes := rfl
@[simp] theorem State.modSes_hpipes (i : Fin 32) (f : PtSes → PtSes) (s : State) :
    (State.modSes i f s).hpipes = s.hpipes := rfl
@[simp] theorem State.modSes_ses (i : Fin 32) (f : PtSes → PtSes) (s : State) :
    (State.modSes i f s).ses = s.ses.set i (f s.ses[i]) := rfl
@[simp] theorem State.modSes_sesSys (i : Fin 32) (f : PtSes → PtSes) (s : State) :
    (State.modSes i f s).sesSys = s.sesSys := rfl
@[simp] theorem State.modSes_auth (i : Fin 32) (f : PtSes → PtSes) (s : State) :
    (State.modSes i f s).auth = s.auth := rfl
@[simp] theorem State.modSes_authSys (i : Fin 32) (f : PtSes → PtSes) (s : State) :
    (State.modSes i f s).authSys = s.authSys := rfl
@[simp] theorem State.modSes_led (i : Fin 32) (f : PtSes → PtSes) (s : State) :
    (State.modSes i f s).led = s.led := rfl
@[simp] theorem State.modSes_recs (i : Fin 32) (f : PtSes → PtSes) (s : State) :
    (State.modSes i f s).recs = s.recs := rfl
@[simp] theorem State.modSes_mbus (i : Fin 32) (f : PtSes → PtSes) (s : State) :
    (State.modSes i f s).mbus = s.mbus := rfl
@[simp] theorem State.modSes_tag (i : Fin 32) (f : PtSes → PtSes) (s : State) :
    (State.modSes i f s).tag = s.tag := rfl
@[simp] theorem State.modSes_phy (i : Fin 32) (f : PtSes → PtSes) (s : State) :
    (State.modSes i f s).phy = s.phy := rfl
@[simp] theorem State.modSes_lnk (i : Fin 32) (f : PtSes → PtSes) (s : State) :
    (State.modSes i f s).lnk = s.lnk := rfl
@[simp] theorem State.modSes_share (i : Fin 32) (f : PtSes → PtSes) (s : State) :
    (State.modSes i f s).share = s.share := rfl
@[simp] theorem State.modSes_epd (i : Fin 32) (f : PtSes → PtSes) (s : State) :
    (State.modSes i f s).epd = s.epd := rfl
@[simp] theorem State.modSes_fab (i : Fin 32) (f : PtSes → PtSes) (s : State) :
    (State.modSes i f s).fab = s.fab := rfl
@[simp] theorem State.modSes_ev (i : Fin 32) (f : PtSes → PtSes) (s : State) :
    (State.modSes i f s).ev = s.ev := rfl
@[simp] theorem State.modSes_sen (i : Fin 32) (f : PtSes → PtSes) (s : State) :
    (State.modSes i f s).sen = s.sen := rfl
@[simp] theorem State.modSes_jrn (i : Fin 32) (f : PtSes → PtSes) (s : State) :
    (State.modSes i f s).jrn = s.jrn := rfl
@[simp] theorem State.modSes_tamper (i : Fin 32) (f : PtSes → PtSes) (s : State) :
    (State.modSes i f s).tamper = s.tamper := rfl
@[simp] theorem State.modSes_elec (i : Fin 32) (f : PtSes → PtSes) (s : State) :
    (State.modSes i f s).elec = s.elec := rfl
@[simp] theorem State.modSes_freeCtr (i : Fin 32) (f : PtSes → PtSes) (s : State) :
    (State.modSes i f s).freeCtr = s.freeCtr := rfl
@[simp] theorem State.modSes_pending (i : Fin 32) (f : PtSes → PtSes) (s : State) :
    (State.modSes i f s).pending = s.pending := rfl
@[simp] theorem State.modSesSys_eng (f : SesSys → SesSys) (s : State) :
    (State.modSesSys f s).eng = s.eng := rfl
@[simp] theorem State.modSesSys_gates (f : SesSys → SesSys) (s : State) :
    (State.modSesSys f s).gates = s.gates := rfl
@[simp] theorem State.modSesSys_clk (f : SesSys → SesSys) (s : State) :
    (State.modSesSys f s).clk = s.clk := rfl
@[simp] theorem State.modSesSys_life (f : SesSys → SesSys) (s : State) :
    (State.modSesSys f s).life = s.life := rfl
@[simp] theorem State.modSesSys_keys (f : SesSys → SesSys) (s : State) :
    (State.modSesSys f s).keys = s.keys := rfl
@[simp] theorem State.modSesSys_img (f : SesSys → SesSys) (s : State) :
    (State.modSesSys f s).img = s.img := rfl
@[simp] theorem State.modSesSys_flash (f : SesSys → SesSys) (s : State) :
    (State.modSesSys f s).flash = s.flash := rfl
@[simp] theorem State.modSesSys_dlv (f : SesSys → SesSys) (s : State) :
    (State.modSesSys f s).dlv = s.dlv := rfl
@[simp] theorem State.modSesSys_ports (f : SesSys → SesSys) (s : State) :
    (State.modSesSys f s).ports = s.ports := rfl
@[simp] theorem State.modSesSys_heads (f : SesSys → SesSys) (s : State) :
    (State.modSesSys f s).heads = s.heads := rfl
@[simp] theorem State.modSesSys_meas (f : SesSys → SesSys) (s : State) :
    (State.modSesSys f s).meas = s.meas := rfl
@[simp] theorem State.modSesSys_met (f : SesSys → SesSys) (s : State) :
    (State.modSesSys f s).met = s.met := rfl
@[simp] theorem State.modSesSys_pmet (f : SesSys → SesSys) (s : State) :
    (State.modSesSys f s).pmet = s.pmet := rfl
@[simp] theorem State.modSesSys_safe (f : SesSys → SesSys) (s : State) :
    (State.modSesSys f s).safe = s.safe := rfl
@[simp] theorem State.modSesSys_psafe (f : SesSys → SesSys) (s : State) :
    (State.modSesSys f s).psafe = s.psafe := rfl
@[simp] theorem State.modSesSys_cp (f : SesSys → SesSys) (s : State) :
    (State.modSesSys f s).cp = s.cp := rfl
@[simp] theorem State.modSesSys_plc (f : SesSys → SesSys) (s : State) :
    (State.modSesSys f s).plc = s.plc := rfl
@[simp] theorem State.modSesSys_pipes (f : SesSys → SesSys) (s : State) :
    (State.modSesSys f s).pipes = s.pipes := rfl
@[simp] theorem State.modSesSys_hpipes (f : SesSys → SesSys) (s : State) :
    (State.modSesSys f s).hpipes = s.hpipes := rfl
@[simp] theorem State.modSesSys_ses (f : SesSys → SesSys) (s : State) :
    (State.modSesSys f s).ses = s.ses := rfl
@[simp] theorem State.modSesSys_sesSys (f : SesSys → SesSys) (s : State) :
    (State.modSesSys f s).sesSys = f s.sesSys := rfl
@[simp] theorem State.modSesSys_auth (f : SesSys → SesSys) (s : State) :
    (State.modSesSys f s).auth = s.auth := rfl
@[simp] theorem State.modSesSys_authSys (f : SesSys → SesSys) (s : State) :
    (State.modSesSys f s).authSys = s.authSys := rfl
@[simp] theorem State.modSesSys_led (f : SesSys → SesSys) (s : State) :
    (State.modSesSys f s).led = s.led := rfl
@[simp] theorem State.modSesSys_recs (f : SesSys → SesSys) (s : State) :
    (State.modSesSys f s).recs = s.recs := rfl
@[simp] theorem State.modSesSys_mbus (f : SesSys → SesSys) (s : State) :
    (State.modSesSys f s).mbus = s.mbus := rfl
@[simp] theorem State.modSesSys_tag (f : SesSys → SesSys) (s : State) :
    (State.modSesSys f s).tag = s.tag := rfl
@[simp] theorem State.modSesSys_phy (f : SesSys → SesSys) (s : State) :
    (State.modSesSys f s).phy = s.phy := rfl
@[simp] theorem State.modSesSys_lnk (f : SesSys → SesSys) (s : State) :
    (State.modSesSys f s).lnk = s.lnk := rfl
@[simp] theorem State.modSesSys_share (f : SesSys → SesSys) (s : State) :
    (State.modSesSys f s).share = s.share := rfl
@[simp] theorem State.modSesSys_epd (f : SesSys → SesSys) (s : State) :
    (State.modSesSys f s).epd = s.epd := rfl
@[simp] theorem State.modSesSys_fab (f : SesSys → SesSys) (s : State) :
    (State.modSesSys f s).fab = s.fab := rfl
@[simp] theorem State.modSesSys_ev (f : SesSys → SesSys) (s : State) :
    (State.modSesSys f s).ev = s.ev := rfl
@[simp] theorem State.modSesSys_sen (f : SesSys → SesSys) (s : State) :
    (State.modSesSys f s).sen = s.sen := rfl
@[simp] theorem State.modSesSys_jrn (f : SesSys → SesSys) (s : State) :
    (State.modSesSys f s).jrn = s.jrn := rfl
@[simp] theorem State.modSesSys_tamper (f : SesSys → SesSys) (s : State) :
    (State.modSesSys f s).tamper = s.tamper := rfl
@[simp] theorem State.modSesSys_elec (f : SesSys → SesSys) (s : State) :
    (State.modSesSys f s).elec = s.elec := rfl
@[simp] theorem State.modSesSys_freeCtr (f : SesSys → SesSys) (s : State) :
    (State.modSesSys f s).freeCtr = s.freeCtr := rfl
@[simp] theorem State.modSesSys_pending (f : SesSys → SesSys) (s : State) :
    (State.modSesSys f s).pending = s.pending := rfl
@[simp] theorem State.modAuth_eng (i : Fin 32) (f : PtAuth → PtAuth) (s : State) :
    (State.modAuth i f s).eng = s.eng := rfl
@[simp] theorem State.modAuth_gates (i : Fin 32) (f : PtAuth → PtAuth) (s : State) :
    (State.modAuth i f s).gates = s.gates := rfl
@[simp] theorem State.modAuth_clk (i : Fin 32) (f : PtAuth → PtAuth) (s : State) :
    (State.modAuth i f s).clk = s.clk := rfl
@[simp] theorem State.modAuth_life (i : Fin 32) (f : PtAuth → PtAuth) (s : State) :
    (State.modAuth i f s).life = s.life := rfl
@[simp] theorem State.modAuth_keys (i : Fin 32) (f : PtAuth → PtAuth) (s : State) :
    (State.modAuth i f s).keys = s.keys := rfl
@[simp] theorem State.modAuth_img (i : Fin 32) (f : PtAuth → PtAuth) (s : State) :
    (State.modAuth i f s).img = s.img := rfl
@[simp] theorem State.modAuth_flash (i : Fin 32) (f : PtAuth → PtAuth) (s : State) :
    (State.modAuth i f s).flash = s.flash := rfl
@[simp] theorem State.modAuth_dlv (i : Fin 32) (f : PtAuth → PtAuth) (s : State) :
    (State.modAuth i f s).dlv = s.dlv := rfl
@[simp] theorem State.modAuth_ports (i : Fin 32) (f : PtAuth → PtAuth) (s : State) :
    (State.modAuth i f s).ports = s.ports := rfl
@[simp] theorem State.modAuth_heads (i : Fin 32) (f : PtAuth → PtAuth) (s : State) :
    (State.modAuth i f s).heads = s.heads := rfl
@[simp] theorem State.modAuth_meas (i : Fin 32) (f : PtAuth → PtAuth) (s : State) :
    (State.modAuth i f s).meas = s.meas := rfl
@[simp] theorem State.modAuth_met (i : Fin 32) (f : PtAuth → PtAuth) (s : State) :
    (State.modAuth i f s).met = s.met := rfl
@[simp] theorem State.modAuth_pmet (i : Fin 32) (f : PtAuth → PtAuth) (s : State) :
    (State.modAuth i f s).pmet = s.pmet := rfl
@[simp] theorem State.modAuth_safe (i : Fin 32) (f : PtAuth → PtAuth) (s : State) :
    (State.modAuth i f s).safe = s.safe := rfl
@[simp] theorem State.modAuth_psafe (i : Fin 32) (f : PtAuth → PtAuth) (s : State) :
    (State.modAuth i f s).psafe = s.psafe := rfl
@[simp] theorem State.modAuth_cp (i : Fin 32) (f : PtAuth → PtAuth) (s : State) :
    (State.modAuth i f s).cp = s.cp := rfl
@[simp] theorem State.modAuth_plc (i : Fin 32) (f : PtAuth → PtAuth) (s : State) :
    (State.modAuth i f s).plc = s.plc := rfl
@[simp] theorem State.modAuth_pipes (i : Fin 32) (f : PtAuth → PtAuth) (s : State) :
    (State.modAuth i f s).pipes = s.pipes := rfl
@[simp] theorem State.modAuth_hpipes (i : Fin 32) (f : PtAuth → PtAuth) (s : State) :
    (State.modAuth i f s).hpipes = s.hpipes := rfl
@[simp] theorem State.modAuth_ses (i : Fin 32) (f : PtAuth → PtAuth) (s : State) :
    (State.modAuth i f s).ses = s.ses := rfl
@[simp] theorem State.modAuth_sesSys (i : Fin 32) (f : PtAuth → PtAuth) (s : State) :
    (State.modAuth i f s).sesSys = s.sesSys := rfl
@[simp] theorem State.modAuth_auth (i : Fin 32) (f : PtAuth → PtAuth) (s : State) :
    (State.modAuth i f s).auth = s.auth.set i (f s.auth[i]) := rfl
@[simp] theorem State.modAuth_authSys (i : Fin 32) (f : PtAuth → PtAuth) (s : State) :
    (State.modAuth i f s).authSys = s.authSys := rfl
@[simp] theorem State.modAuth_led (i : Fin 32) (f : PtAuth → PtAuth) (s : State) :
    (State.modAuth i f s).led = s.led := rfl
@[simp] theorem State.modAuth_recs (i : Fin 32) (f : PtAuth → PtAuth) (s : State) :
    (State.modAuth i f s).recs = s.recs := rfl
@[simp] theorem State.modAuth_mbus (i : Fin 32) (f : PtAuth → PtAuth) (s : State) :
    (State.modAuth i f s).mbus = s.mbus := rfl
@[simp] theorem State.modAuth_tag (i : Fin 32) (f : PtAuth → PtAuth) (s : State) :
    (State.modAuth i f s).tag = s.tag := rfl
@[simp] theorem State.modAuth_phy (i : Fin 32) (f : PtAuth → PtAuth) (s : State) :
    (State.modAuth i f s).phy = s.phy := rfl
@[simp] theorem State.modAuth_lnk (i : Fin 32) (f : PtAuth → PtAuth) (s : State) :
    (State.modAuth i f s).lnk = s.lnk := rfl
@[simp] theorem State.modAuth_share (i : Fin 32) (f : PtAuth → PtAuth) (s : State) :
    (State.modAuth i f s).share = s.share := rfl
@[simp] theorem State.modAuth_epd (i : Fin 32) (f : PtAuth → PtAuth) (s : State) :
    (State.modAuth i f s).epd = s.epd := rfl
@[simp] theorem State.modAuth_fab (i : Fin 32) (f : PtAuth → PtAuth) (s : State) :
    (State.modAuth i f s).fab = s.fab := rfl
@[simp] theorem State.modAuth_ev (i : Fin 32) (f : PtAuth → PtAuth) (s : State) :
    (State.modAuth i f s).ev = s.ev := rfl
@[simp] theorem State.modAuth_sen (i : Fin 32) (f : PtAuth → PtAuth) (s : State) :
    (State.modAuth i f s).sen = s.sen := rfl
@[simp] theorem State.modAuth_jrn (i : Fin 32) (f : PtAuth → PtAuth) (s : State) :
    (State.modAuth i f s).jrn = s.jrn := rfl
@[simp] theorem State.modAuth_tamper (i : Fin 32) (f : PtAuth → PtAuth) (s : State) :
    (State.modAuth i f s).tamper = s.tamper := rfl
@[simp] theorem State.modAuth_elec (i : Fin 32) (f : PtAuth → PtAuth) (s : State) :
    (State.modAuth i f s).elec = s.elec := rfl
@[simp] theorem State.modAuth_freeCtr (i : Fin 32) (f : PtAuth → PtAuth) (s : State) :
    (State.modAuth i f s).freeCtr = s.freeCtr := rfl
@[simp] theorem State.modAuth_pending (i : Fin 32) (f : PtAuth → PtAuth) (s : State) :
    (State.modAuth i f s).pending = s.pending := rfl
@[simp] theorem State.modAuthSys_eng (f : AuthSys → AuthSys) (s : State) :
    (State.modAuthSys f s).eng = s.eng := rfl
@[simp] theorem State.modAuthSys_gates (f : AuthSys → AuthSys) (s : State) :
    (State.modAuthSys f s).gates = s.gates := rfl
@[simp] theorem State.modAuthSys_clk (f : AuthSys → AuthSys) (s : State) :
    (State.modAuthSys f s).clk = s.clk := rfl
@[simp] theorem State.modAuthSys_life (f : AuthSys → AuthSys) (s : State) :
    (State.modAuthSys f s).life = s.life := rfl
@[simp] theorem State.modAuthSys_keys (f : AuthSys → AuthSys) (s : State) :
    (State.modAuthSys f s).keys = s.keys := rfl
@[simp] theorem State.modAuthSys_img (f : AuthSys → AuthSys) (s : State) :
    (State.modAuthSys f s).img = s.img := rfl
@[simp] theorem State.modAuthSys_flash (f : AuthSys → AuthSys) (s : State) :
    (State.modAuthSys f s).flash = s.flash := rfl
@[simp] theorem State.modAuthSys_dlv (f : AuthSys → AuthSys) (s : State) :
    (State.modAuthSys f s).dlv = s.dlv := rfl
@[simp] theorem State.modAuthSys_ports (f : AuthSys → AuthSys) (s : State) :
    (State.modAuthSys f s).ports = s.ports := rfl
@[simp] theorem State.modAuthSys_heads (f : AuthSys → AuthSys) (s : State) :
    (State.modAuthSys f s).heads = s.heads := rfl
@[simp] theorem State.modAuthSys_meas (f : AuthSys → AuthSys) (s : State) :
    (State.modAuthSys f s).meas = s.meas := rfl
@[simp] theorem State.modAuthSys_met (f : AuthSys → AuthSys) (s : State) :
    (State.modAuthSys f s).met = s.met := rfl
@[simp] theorem State.modAuthSys_pmet (f : AuthSys → AuthSys) (s : State) :
    (State.modAuthSys f s).pmet = s.pmet := rfl
@[simp] theorem State.modAuthSys_safe (f : AuthSys → AuthSys) (s : State) :
    (State.modAuthSys f s).safe = s.safe := rfl
@[simp] theorem State.modAuthSys_psafe (f : AuthSys → AuthSys) (s : State) :
    (State.modAuthSys f s).psafe = s.psafe := rfl
@[simp] theorem State.modAuthSys_cp (f : AuthSys → AuthSys) (s : State) :
    (State.modAuthSys f s).cp = s.cp := rfl
@[simp] theorem State.modAuthSys_plc (f : AuthSys → AuthSys) (s : State) :
    (State.modAuthSys f s).plc = s.plc := rfl
@[simp] theorem State.modAuthSys_pipes (f : AuthSys → AuthSys) (s : State) :
    (State.modAuthSys f s).pipes = s.pipes := rfl
@[simp] theorem State.modAuthSys_hpipes (f : AuthSys → AuthSys) (s : State) :
    (State.modAuthSys f s).hpipes = s.hpipes := rfl
@[simp] theorem State.modAuthSys_ses (f : AuthSys → AuthSys) (s : State) :
    (State.modAuthSys f s).ses = s.ses := rfl
@[simp] theorem State.modAuthSys_sesSys (f : AuthSys → AuthSys) (s : State) :
    (State.modAuthSys f s).sesSys = s.sesSys := rfl
@[simp] theorem State.modAuthSys_auth (f : AuthSys → AuthSys) (s : State) :
    (State.modAuthSys f s).auth = s.auth := rfl
@[simp] theorem State.modAuthSys_authSys (f : AuthSys → AuthSys) (s : State) :
    (State.modAuthSys f s).authSys = f s.authSys := rfl
@[simp] theorem State.modAuthSys_led (f : AuthSys → AuthSys) (s : State) :
    (State.modAuthSys f s).led = s.led := rfl
@[simp] theorem State.modAuthSys_recs (f : AuthSys → AuthSys) (s : State) :
    (State.modAuthSys f s).recs = s.recs := rfl
@[simp] theorem State.modAuthSys_mbus (f : AuthSys → AuthSys) (s : State) :
    (State.modAuthSys f s).mbus = s.mbus := rfl
@[simp] theorem State.modAuthSys_tag (f : AuthSys → AuthSys) (s : State) :
    (State.modAuthSys f s).tag = s.tag := rfl
@[simp] theorem State.modAuthSys_phy (f : AuthSys → AuthSys) (s : State) :
    (State.modAuthSys f s).phy = s.phy := rfl
@[simp] theorem State.modAuthSys_lnk (f : AuthSys → AuthSys) (s : State) :
    (State.modAuthSys f s).lnk = s.lnk := rfl
@[simp] theorem State.modAuthSys_share (f : AuthSys → AuthSys) (s : State) :
    (State.modAuthSys f s).share = s.share := rfl
@[simp] theorem State.modAuthSys_epd (f : AuthSys → AuthSys) (s : State) :
    (State.modAuthSys f s).epd = s.epd := rfl
@[simp] theorem State.modAuthSys_fab (f : AuthSys → AuthSys) (s : State) :
    (State.modAuthSys f s).fab = s.fab := rfl
@[simp] theorem State.modAuthSys_ev (f : AuthSys → AuthSys) (s : State) :
    (State.modAuthSys f s).ev = s.ev := rfl
@[simp] theorem State.modAuthSys_sen (f : AuthSys → AuthSys) (s : State) :
    (State.modAuthSys f s).sen = s.sen := rfl
@[simp] theorem State.modAuthSys_jrn (f : AuthSys → AuthSys) (s : State) :
    (State.modAuthSys f s).jrn = s.jrn := rfl
@[simp] theorem State.modAuthSys_tamper (f : AuthSys → AuthSys) (s : State) :
    (State.modAuthSys f s).tamper = s.tamper := rfl
@[simp] theorem State.modAuthSys_elec (f : AuthSys → AuthSys) (s : State) :
    (State.modAuthSys f s).elec = s.elec := rfl
@[simp] theorem State.modAuthSys_freeCtr (f : AuthSys → AuthSys) (s : State) :
    (State.modAuthSys f s).freeCtr = s.freeCtr := rfl
@[simp] theorem State.modAuthSys_pending (f : AuthSys → AuthSys) (s : State) :
    (State.modAuthSys f s).pending = s.pending := rfl
@[simp] theorem State.modLed_eng (f : Led → Led) (s : State) :
    (State.modLed f s).eng = s.eng := rfl
@[simp] theorem State.modLed_gates (f : Led → Led) (s : State) :
    (State.modLed f s).gates = s.gates := rfl
@[simp] theorem State.modLed_clk (f : Led → Led) (s : State) :
    (State.modLed f s).clk = s.clk := rfl
@[simp] theorem State.modLed_life (f : Led → Led) (s : State) :
    (State.modLed f s).life = s.life := rfl
@[simp] theorem State.modLed_keys (f : Led → Led) (s : State) :
    (State.modLed f s).keys = s.keys := rfl
@[simp] theorem State.modLed_img (f : Led → Led) (s : State) :
    (State.modLed f s).img = s.img := rfl
@[simp] theorem State.modLed_flash (f : Led → Led) (s : State) :
    (State.modLed f s).flash = s.flash := rfl
@[simp] theorem State.modLed_dlv (f : Led → Led) (s : State) :
    (State.modLed f s).dlv = s.dlv := rfl
@[simp] theorem State.modLed_ports (f : Led → Led) (s : State) :
    (State.modLed f s).ports = s.ports := rfl
@[simp] theorem State.modLed_heads (f : Led → Led) (s : State) :
    (State.modLed f s).heads = s.heads := rfl
@[simp] theorem State.modLed_meas (f : Led → Led) (s : State) :
    (State.modLed f s).meas = s.meas := rfl
@[simp] theorem State.modLed_met (f : Led → Led) (s : State) :
    (State.modLed f s).met = s.met := rfl
@[simp] theorem State.modLed_pmet (f : Led → Led) (s : State) :
    (State.modLed f s).pmet = s.pmet := rfl
@[simp] theorem State.modLed_safe (f : Led → Led) (s : State) :
    (State.modLed f s).safe = s.safe := rfl
@[simp] theorem State.modLed_psafe (f : Led → Led) (s : State) :
    (State.modLed f s).psafe = s.psafe := rfl
@[simp] theorem State.modLed_cp (f : Led → Led) (s : State) :
    (State.modLed f s).cp = s.cp := rfl
@[simp] theorem State.modLed_plc (f : Led → Led) (s : State) :
    (State.modLed f s).plc = s.plc := rfl
@[simp] theorem State.modLed_pipes (f : Led → Led) (s : State) :
    (State.modLed f s).pipes = s.pipes := rfl
@[simp] theorem State.modLed_hpipes (f : Led → Led) (s : State) :
    (State.modLed f s).hpipes = s.hpipes := rfl
@[simp] theorem State.modLed_ses (f : Led → Led) (s : State) :
    (State.modLed f s).ses = s.ses := rfl
@[simp] theorem State.modLed_sesSys (f : Led → Led) (s : State) :
    (State.modLed f s).sesSys = s.sesSys := rfl
@[simp] theorem State.modLed_auth (f : Led → Led) (s : State) :
    (State.modLed f s).auth = s.auth := rfl
@[simp] theorem State.modLed_authSys (f : Led → Led) (s : State) :
    (State.modLed f s).authSys = s.authSys := rfl
@[simp] theorem State.modLed_led (f : Led → Led) (s : State) :
    (State.modLed f s).led = f s.led := rfl
@[simp] theorem State.modLed_recs (f : Led → Led) (s : State) :
    (State.modLed f s).recs = s.recs := rfl
@[simp] theorem State.modLed_mbus (f : Led → Led) (s : State) :
    (State.modLed f s).mbus = s.mbus := rfl
@[simp] theorem State.modLed_tag (f : Led → Led) (s : State) :
    (State.modLed f s).tag = s.tag := rfl
@[simp] theorem State.modLed_phy (f : Led → Led) (s : State) :
    (State.modLed f s).phy = s.phy := rfl
@[simp] theorem State.modLed_lnk (f : Led → Led) (s : State) :
    (State.modLed f s).lnk = s.lnk := rfl
@[simp] theorem State.modLed_share (f : Led → Led) (s : State) :
    (State.modLed f s).share = s.share := rfl
@[simp] theorem State.modLed_epd (f : Led → Led) (s : State) :
    (State.modLed f s).epd = s.epd := rfl
@[simp] theorem State.modLed_fab (f : Led → Led) (s : State) :
    (State.modLed f s).fab = s.fab := rfl
@[simp] theorem State.modLed_ev (f : Led → Led) (s : State) :
    (State.modLed f s).ev = s.ev := rfl
@[simp] theorem State.modLed_sen (f : Led → Led) (s : State) :
    (State.modLed f s).sen = s.sen := rfl
@[simp] theorem State.modLed_jrn (f : Led → Led) (s : State) :
    (State.modLed f s).jrn = s.jrn := rfl
@[simp] theorem State.modLed_tamper (f : Led → Led) (s : State) :
    (State.modLed f s).tamper = s.tamper := rfl
@[simp] theorem State.modLed_elec (f : Led → Led) (s : State) :
    (State.modLed f s).elec = s.elec := rfl
@[simp] theorem State.modLed_freeCtr (f : Led → Led) (s : State) :
    (State.modLed f s).freeCtr = s.freeCtr := rfl
@[simp] theorem State.modLed_pending (f : Led → Led) (s : State) :
    (State.modLed f s).pending = s.pending := rfl
@[simp] theorem State.modRecs_eng (f : Recs → Recs) (s : State) :
    (State.modRecs f s).eng = s.eng := rfl
@[simp] theorem State.modRecs_gates (f : Recs → Recs) (s : State) :
    (State.modRecs f s).gates = s.gates := rfl
@[simp] theorem State.modRecs_clk (f : Recs → Recs) (s : State) :
    (State.modRecs f s).clk = s.clk := rfl
@[simp] theorem State.modRecs_life (f : Recs → Recs) (s : State) :
    (State.modRecs f s).life = s.life := rfl
@[simp] theorem State.modRecs_keys (f : Recs → Recs) (s : State) :
    (State.modRecs f s).keys = s.keys := rfl
@[simp] theorem State.modRecs_img (f : Recs → Recs) (s : State) :
    (State.modRecs f s).img = s.img := rfl
@[simp] theorem State.modRecs_flash (f : Recs → Recs) (s : State) :
    (State.modRecs f s).flash = s.flash := rfl
@[simp] theorem State.modRecs_dlv (f : Recs → Recs) (s : State) :
    (State.modRecs f s).dlv = s.dlv := rfl
@[simp] theorem State.modRecs_ports (f : Recs → Recs) (s : State) :
    (State.modRecs f s).ports = s.ports := rfl
@[simp] theorem State.modRecs_heads (f : Recs → Recs) (s : State) :
    (State.modRecs f s).heads = s.heads := rfl
@[simp] theorem State.modRecs_meas (f : Recs → Recs) (s : State) :
    (State.modRecs f s).meas = s.meas := rfl
@[simp] theorem State.modRecs_met (f : Recs → Recs) (s : State) :
    (State.modRecs f s).met = s.met := rfl
@[simp] theorem State.modRecs_pmet (f : Recs → Recs) (s : State) :
    (State.modRecs f s).pmet = s.pmet := rfl
@[simp] theorem State.modRecs_safe (f : Recs → Recs) (s : State) :
    (State.modRecs f s).safe = s.safe := rfl
@[simp] theorem State.modRecs_psafe (f : Recs → Recs) (s : State) :
    (State.modRecs f s).psafe = s.psafe := rfl
@[simp] theorem State.modRecs_cp (f : Recs → Recs) (s : State) :
    (State.modRecs f s).cp = s.cp := rfl
@[simp] theorem State.modRecs_plc (f : Recs → Recs) (s : State) :
    (State.modRecs f s).plc = s.plc := rfl
@[simp] theorem State.modRecs_pipes (f : Recs → Recs) (s : State) :
    (State.modRecs f s).pipes = s.pipes := rfl
@[simp] theorem State.modRecs_hpipes (f : Recs → Recs) (s : State) :
    (State.modRecs f s).hpipes = s.hpipes := rfl
@[simp] theorem State.modRecs_ses (f : Recs → Recs) (s : State) :
    (State.modRecs f s).ses = s.ses := rfl
@[simp] theorem State.modRecs_sesSys (f : Recs → Recs) (s : State) :
    (State.modRecs f s).sesSys = s.sesSys := rfl
@[simp] theorem State.modRecs_auth (f : Recs → Recs) (s : State) :
    (State.modRecs f s).auth = s.auth := rfl
@[simp] theorem State.modRecs_authSys (f : Recs → Recs) (s : State) :
    (State.modRecs f s).authSys = s.authSys := rfl
@[simp] theorem State.modRecs_led (f : Recs → Recs) (s : State) :
    (State.modRecs f s).led = s.led := rfl
@[simp] theorem State.modRecs_recs (f : Recs → Recs) (s : State) :
    (State.modRecs f s).recs = f s.recs := rfl
@[simp] theorem State.modRecs_mbus (f : Recs → Recs) (s : State) :
    (State.modRecs f s).mbus = s.mbus := rfl
@[simp] theorem State.modRecs_tag (f : Recs → Recs) (s : State) :
    (State.modRecs f s).tag = s.tag := rfl
@[simp] theorem State.modRecs_phy (f : Recs → Recs) (s : State) :
    (State.modRecs f s).phy = s.phy := rfl
@[simp] theorem State.modRecs_lnk (f : Recs → Recs) (s : State) :
    (State.modRecs f s).lnk = s.lnk := rfl
@[simp] theorem State.modRecs_share (f : Recs → Recs) (s : State) :
    (State.modRecs f s).share = s.share := rfl
@[simp] theorem State.modRecs_epd (f : Recs → Recs) (s : State) :
    (State.modRecs f s).epd = s.epd := rfl
@[simp] theorem State.modRecs_fab (f : Recs → Recs) (s : State) :
    (State.modRecs f s).fab = s.fab := rfl
@[simp] theorem State.modRecs_ev (f : Recs → Recs) (s : State) :
    (State.modRecs f s).ev = s.ev := rfl
@[simp] theorem State.modRecs_sen (f : Recs → Recs) (s : State) :
    (State.modRecs f s).sen = s.sen := rfl
@[simp] theorem State.modRecs_jrn (f : Recs → Recs) (s : State) :
    (State.modRecs f s).jrn = s.jrn := rfl
@[simp] theorem State.modRecs_tamper (f : Recs → Recs) (s : State) :
    (State.modRecs f s).tamper = s.tamper := rfl
@[simp] theorem State.modRecs_elec (f : Recs → Recs) (s : State) :
    (State.modRecs f s).elec = s.elec := rfl
@[simp] theorem State.modRecs_freeCtr (f : Recs → Recs) (s : State) :
    (State.modRecs f s).freeCtr = s.freeCtr := rfl
@[simp] theorem State.modRecs_pending (f : Recs → Recs) (s : State) :
    (State.modRecs f s).pending = s.pending := rfl
@[simp] theorem State.modMbus_eng (f : Mbus → Mbus) (s : State) :
    (State.modMbus f s).eng = s.eng := rfl
@[simp] theorem State.modMbus_gates (f : Mbus → Mbus) (s : State) :
    (State.modMbus f s).gates = s.gates := rfl
@[simp] theorem State.modMbus_clk (f : Mbus → Mbus) (s : State) :
    (State.modMbus f s).clk = s.clk := rfl
@[simp] theorem State.modMbus_life (f : Mbus → Mbus) (s : State) :
    (State.modMbus f s).life = s.life := rfl
@[simp] theorem State.modMbus_keys (f : Mbus → Mbus) (s : State) :
    (State.modMbus f s).keys = s.keys := rfl
@[simp] theorem State.modMbus_img (f : Mbus → Mbus) (s : State) :
    (State.modMbus f s).img = s.img := rfl
@[simp] theorem State.modMbus_flash (f : Mbus → Mbus) (s : State) :
    (State.modMbus f s).flash = s.flash := rfl
@[simp] theorem State.modMbus_dlv (f : Mbus → Mbus) (s : State) :
    (State.modMbus f s).dlv = s.dlv := rfl
@[simp] theorem State.modMbus_ports (f : Mbus → Mbus) (s : State) :
    (State.modMbus f s).ports = s.ports := rfl
@[simp] theorem State.modMbus_heads (f : Mbus → Mbus) (s : State) :
    (State.modMbus f s).heads = s.heads := rfl
@[simp] theorem State.modMbus_meas (f : Mbus → Mbus) (s : State) :
    (State.modMbus f s).meas = s.meas := rfl
@[simp] theorem State.modMbus_met (f : Mbus → Mbus) (s : State) :
    (State.modMbus f s).met = s.met := rfl
@[simp] theorem State.modMbus_pmet (f : Mbus → Mbus) (s : State) :
    (State.modMbus f s).pmet = s.pmet := rfl
@[simp] theorem State.modMbus_safe (f : Mbus → Mbus) (s : State) :
    (State.modMbus f s).safe = s.safe := rfl
@[simp] theorem State.modMbus_psafe (f : Mbus → Mbus) (s : State) :
    (State.modMbus f s).psafe = s.psafe := rfl
@[simp] theorem State.modMbus_cp (f : Mbus → Mbus) (s : State) :
    (State.modMbus f s).cp = s.cp := rfl
@[simp] theorem State.modMbus_plc (f : Mbus → Mbus) (s : State) :
    (State.modMbus f s).plc = s.plc := rfl
@[simp] theorem State.modMbus_pipes (f : Mbus → Mbus) (s : State) :
    (State.modMbus f s).pipes = s.pipes := rfl
@[simp] theorem State.modMbus_hpipes (f : Mbus → Mbus) (s : State) :
    (State.modMbus f s).hpipes = s.hpipes := rfl
@[simp] theorem State.modMbus_ses (f : Mbus → Mbus) (s : State) :
    (State.modMbus f s).ses = s.ses := rfl
@[simp] theorem State.modMbus_sesSys (f : Mbus → Mbus) (s : State) :
    (State.modMbus f s).sesSys = s.sesSys := rfl
@[simp] theorem State.modMbus_auth (f : Mbus → Mbus) (s : State) :
    (State.modMbus f s).auth = s.auth := rfl
@[simp] theorem State.modMbus_authSys (f : Mbus → Mbus) (s : State) :
    (State.modMbus f s).authSys = s.authSys := rfl
@[simp] theorem State.modMbus_led (f : Mbus → Mbus) (s : State) :
    (State.modMbus f s).led = s.led := rfl
@[simp] theorem State.modMbus_recs (f : Mbus → Mbus) (s : State) :
    (State.modMbus f s).recs = s.recs := rfl
@[simp] theorem State.modMbus_mbus (f : Mbus → Mbus) (s : State) :
    (State.modMbus f s).mbus = f s.mbus := rfl
@[simp] theorem State.modMbus_tag (f : Mbus → Mbus) (s : State) :
    (State.modMbus f s).tag = s.tag := rfl
@[simp] theorem State.modMbus_phy (f : Mbus → Mbus) (s : State) :
    (State.modMbus f s).phy = s.phy := rfl
@[simp] theorem State.modMbus_lnk (f : Mbus → Mbus) (s : State) :
    (State.modMbus f s).lnk = s.lnk := rfl
@[simp] theorem State.modMbus_share (f : Mbus → Mbus) (s : State) :
    (State.modMbus f s).share = s.share := rfl
@[simp] theorem State.modMbus_epd (f : Mbus → Mbus) (s : State) :
    (State.modMbus f s).epd = s.epd := rfl
@[simp] theorem State.modMbus_fab (f : Mbus → Mbus) (s : State) :
    (State.modMbus f s).fab = s.fab := rfl
@[simp] theorem State.modMbus_ev (f : Mbus → Mbus) (s : State) :
    (State.modMbus f s).ev = s.ev := rfl
@[simp] theorem State.modMbus_sen (f : Mbus → Mbus) (s : State) :
    (State.modMbus f s).sen = s.sen := rfl
@[simp] theorem State.modMbus_jrn (f : Mbus → Mbus) (s : State) :
    (State.modMbus f s).jrn = s.jrn := rfl
@[simp] theorem State.modMbus_tamper (f : Mbus → Mbus) (s : State) :
    (State.modMbus f s).tamper = s.tamper := rfl
@[simp] theorem State.modMbus_elec (f : Mbus → Mbus) (s : State) :
    (State.modMbus f s).elec = s.elec := rfl
@[simp] theorem State.modMbus_freeCtr (f : Mbus → Mbus) (s : State) :
    (State.modMbus f s).freeCtr = s.freeCtr := rfl
@[simp] theorem State.modMbus_pending (f : Mbus → Mbus) (s : State) :
    (State.modMbus f s).pending = s.pending := rfl
@[simp] theorem State.modTag_eng (f : Tag → Tag) (s : State) :
    (State.modTag f s).eng = s.eng := rfl
@[simp] theorem State.modTag_gates (f : Tag → Tag) (s : State) :
    (State.modTag f s).gates = s.gates := rfl
@[simp] theorem State.modTag_clk (f : Tag → Tag) (s : State) :
    (State.modTag f s).clk = s.clk := rfl
@[simp] theorem State.modTag_life (f : Tag → Tag) (s : State) :
    (State.modTag f s).life = s.life := rfl
@[simp] theorem State.modTag_keys (f : Tag → Tag) (s : State) :
    (State.modTag f s).keys = s.keys := rfl
@[simp] theorem State.modTag_img (f : Tag → Tag) (s : State) :
    (State.modTag f s).img = s.img := rfl
@[simp] theorem State.modTag_flash (f : Tag → Tag) (s : State) :
    (State.modTag f s).flash = s.flash := rfl
@[simp] theorem State.modTag_dlv (f : Tag → Tag) (s : State) :
    (State.modTag f s).dlv = s.dlv := rfl
@[simp] theorem State.modTag_ports (f : Tag → Tag) (s : State) :
    (State.modTag f s).ports = s.ports := rfl
@[simp] theorem State.modTag_heads (f : Tag → Tag) (s : State) :
    (State.modTag f s).heads = s.heads := rfl
@[simp] theorem State.modTag_meas (f : Tag → Tag) (s : State) :
    (State.modTag f s).meas = s.meas := rfl
@[simp] theorem State.modTag_met (f : Tag → Tag) (s : State) :
    (State.modTag f s).met = s.met := rfl
@[simp] theorem State.modTag_pmet (f : Tag → Tag) (s : State) :
    (State.modTag f s).pmet = s.pmet := rfl
@[simp] theorem State.modTag_safe (f : Tag → Tag) (s : State) :
    (State.modTag f s).safe = s.safe := rfl
@[simp] theorem State.modTag_psafe (f : Tag → Tag) (s : State) :
    (State.modTag f s).psafe = s.psafe := rfl
@[simp] theorem State.modTag_cp (f : Tag → Tag) (s : State) :
    (State.modTag f s).cp = s.cp := rfl
@[simp] theorem State.modTag_plc (f : Tag → Tag) (s : State) :
    (State.modTag f s).plc = s.plc := rfl
@[simp] theorem State.modTag_pipes (f : Tag → Tag) (s : State) :
    (State.modTag f s).pipes = s.pipes := rfl
@[simp] theorem State.modTag_hpipes (f : Tag → Tag) (s : State) :
    (State.modTag f s).hpipes = s.hpipes := rfl
@[simp] theorem State.modTag_ses (f : Tag → Tag) (s : State) :
    (State.modTag f s).ses = s.ses := rfl
@[simp] theorem State.modTag_sesSys (f : Tag → Tag) (s : State) :
    (State.modTag f s).sesSys = s.sesSys := rfl
@[simp] theorem State.modTag_auth (f : Tag → Tag) (s : State) :
    (State.modTag f s).auth = s.auth := rfl
@[simp] theorem State.modTag_authSys (f : Tag → Tag) (s : State) :
    (State.modTag f s).authSys = s.authSys := rfl
@[simp] theorem State.modTag_led (f : Tag → Tag) (s : State) :
    (State.modTag f s).led = s.led := rfl
@[simp] theorem State.modTag_recs (f : Tag → Tag) (s : State) :
    (State.modTag f s).recs = s.recs := rfl
@[simp] theorem State.modTag_mbus (f : Tag → Tag) (s : State) :
    (State.modTag f s).mbus = s.mbus := rfl
@[simp] theorem State.modTag_tag (f : Tag → Tag) (s : State) :
    (State.modTag f s).tag = f s.tag := rfl
@[simp] theorem State.modTag_phy (f : Tag → Tag) (s : State) :
    (State.modTag f s).phy = s.phy := rfl
@[simp] theorem State.modTag_lnk (f : Tag → Tag) (s : State) :
    (State.modTag f s).lnk = s.lnk := rfl
@[simp] theorem State.modTag_share (f : Tag → Tag) (s : State) :
    (State.modTag f s).share = s.share := rfl
@[simp] theorem State.modTag_epd (f : Tag → Tag) (s : State) :
    (State.modTag f s).epd = s.epd := rfl
@[simp] theorem State.modTag_fab (f : Tag → Tag) (s : State) :
    (State.modTag f s).fab = s.fab := rfl
@[simp] theorem State.modTag_ev (f : Tag → Tag) (s : State) :
    (State.modTag f s).ev = s.ev := rfl
@[simp] theorem State.modTag_sen (f : Tag → Tag) (s : State) :
    (State.modTag f s).sen = s.sen := rfl
@[simp] theorem State.modTag_jrn (f : Tag → Tag) (s : State) :
    (State.modTag f s).jrn = s.jrn := rfl
@[simp] theorem State.modTag_tamper (f : Tag → Tag) (s : State) :
    (State.modTag f s).tamper = s.tamper := rfl
@[simp] theorem State.modTag_elec (f : Tag → Tag) (s : State) :
    (State.modTag f s).elec = s.elec := rfl
@[simp] theorem State.modTag_freeCtr (f : Tag → Tag) (s : State) :
    (State.modTag f s).freeCtr = s.freeCtr := rfl
@[simp] theorem State.modTag_pending (f : Tag → Tag) (s : State) :
    (State.modTag f s).pending = s.pending := rfl
@[simp] theorem State.modPhy_eng (f : Phy → Phy) (s : State) :
    (State.modPhy f s).eng = s.eng := rfl
@[simp] theorem State.modPhy_gates (f : Phy → Phy) (s : State) :
    (State.modPhy f s).gates = s.gates := rfl
@[simp] theorem State.modPhy_clk (f : Phy → Phy) (s : State) :
    (State.modPhy f s).clk = s.clk := rfl
@[simp] theorem State.modPhy_life (f : Phy → Phy) (s : State) :
    (State.modPhy f s).life = s.life := rfl
@[simp] theorem State.modPhy_keys (f : Phy → Phy) (s : State) :
    (State.modPhy f s).keys = s.keys := rfl
@[simp] theorem State.modPhy_img (f : Phy → Phy) (s : State) :
    (State.modPhy f s).img = s.img := rfl
@[simp] theorem State.modPhy_flash (f : Phy → Phy) (s : State) :
    (State.modPhy f s).flash = s.flash := rfl
@[simp] theorem State.modPhy_dlv (f : Phy → Phy) (s : State) :
    (State.modPhy f s).dlv = s.dlv := rfl
@[simp] theorem State.modPhy_ports (f : Phy → Phy) (s : State) :
    (State.modPhy f s).ports = s.ports := rfl
@[simp] theorem State.modPhy_heads (f : Phy → Phy) (s : State) :
    (State.modPhy f s).heads = s.heads := rfl
@[simp] theorem State.modPhy_meas (f : Phy → Phy) (s : State) :
    (State.modPhy f s).meas = s.meas := rfl
@[simp] theorem State.modPhy_met (f : Phy → Phy) (s : State) :
    (State.modPhy f s).met = s.met := rfl
@[simp] theorem State.modPhy_pmet (f : Phy → Phy) (s : State) :
    (State.modPhy f s).pmet = s.pmet := rfl
@[simp] theorem State.modPhy_safe (f : Phy → Phy) (s : State) :
    (State.modPhy f s).safe = s.safe := rfl
@[simp] theorem State.modPhy_psafe (f : Phy → Phy) (s : State) :
    (State.modPhy f s).psafe = s.psafe := rfl
@[simp] theorem State.modPhy_cp (f : Phy → Phy) (s : State) :
    (State.modPhy f s).cp = s.cp := rfl
@[simp] theorem State.modPhy_plc (f : Phy → Phy) (s : State) :
    (State.modPhy f s).plc = s.plc := rfl
@[simp] theorem State.modPhy_pipes (f : Phy → Phy) (s : State) :
    (State.modPhy f s).pipes = s.pipes := rfl
@[simp] theorem State.modPhy_hpipes (f : Phy → Phy) (s : State) :
    (State.modPhy f s).hpipes = s.hpipes := rfl
@[simp] theorem State.modPhy_ses (f : Phy → Phy) (s : State) :
    (State.modPhy f s).ses = s.ses := rfl
@[simp] theorem State.modPhy_sesSys (f : Phy → Phy) (s : State) :
    (State.modPhy f s).sesSys = s.sesSys := rfl
@[simp] theorem State.modPhy_auth (f : Phy → Phy) (s : State) :
    (State.modPhy f s).auth = s.auth := rfl
@[simp] theorem State.modPhy_authSys (f : Phy → Phy) (s : State) :
    (State.modPhy f s).authSys = s.authSys := rfl
@[simp] theorem State.modPhy_led (f : Phy → Phy) (s : State) :
    (State.modPhy f s).led = s.led := rfl
@[simp] theorem State.modPhy_recs (f : Phy → Phy) (s : State) :
    (State.modPhy f s).recs = s.recs := rfl
@[simp] theorem State.modPhy_mbus (f : Phy → Phy) (s : State) :
    (State.modPhy f s).mbus = s.mbus := rfl
@[simp] theorem State.modPhy_tag (f : Phy → Phy) (s : State) :
    (State.modPhy f s).tag = s.tag := rfl
@[simp] theorem State.modPhy_phy (f : Phy → Phy) (s : State) :
    (State.modPhy f s).phy = f s.phy := rfl
@[simp] theorem State.modPhy_lnk (f : Phy → Phy) (s : State) :
    (State.modPhy f s).lnk = s.lnk := rfl
@[simp] theorem State.modPhy_share (f : Phy → Phy) (s : State) :
    (State.modPhy f s).share = s.share := rfl
@[simp] theorem State.modPhy_epd (f : Phy → Phy) (s : State) :
    (State.modPhy f s).epd = s.epd := rfl
@[simp] theorem State.modPhy_fab (f : Phy → Phy) (s : State) :
    (State.modPhy f s).fab = s.fab := rfl
@[simp] theorem State.modPhy_ev (f : Phy → Phy) (s : State) :
    (State.modPhy f s).ev = s.ev := rfl
@[simp] theorem State.modPhy_sen (f : Phy → Phy) (s : State) :
    (State.modPhy f s).sen = s.sen := rfl
@[simp] theorem State.modPhy_jrn (f : Phy → Phy) (s : State) :
    (State.modPhy f s).jrn = s.jrn := rfl
@[simp] theorem State.modPhy_tamper (f : Phy → Phy) (s : State) :
    (State.modPhy f s).tamper = s.tamper := rfl
@[simp] theorem State.modPhy_elec (f : Phy → Phy) (s : State) :
    (State.modPhy f s).elec = s.elec := rfl
@[simp] theorem State.modPhy_freeCtr (f : Phy → Phy) (s : State) :
    (State.modPhy f s).freeCtr = s.freeCtr := rfl
@[simp] theorem State.modPhy_pending (f : Phy → Phy) (s : State) :
    (State.modPhy f s).pending = s.pending := rfl
@[simp] theorem State.modLnk_eng (f : Lnk → Lnk) (s : State) :
    (State.modLnk f s).eng = s.eng := rfl
@[simp] theorem State.modLnk_gates (f : Lnk → Lnk) (s : State) :
    (State.modLnk f s).gates = s.gates := rfl
@[simp] theorem State.modLnk_clk (f : Lnk → Lnk) (s : State) :
    (State.modLnk f s).clk = s.clk := rfl
@[simp] theorem State.modLnk_life (f : Lnk → Lnk) (s : State) :
    (State.modLnk f s).life = s.life := rfl
@[simp] theorem State.modLnk_keys (f : Lnk → Lnk) (s : State) :
    (State.modLnk f s).keys = s.keys := rfl
@[simp] theorem State.modLnk_img (f : Lnk → Lnk) (s : State) :
    (State.modLnk f s).img = s.img := rfl
@[simp] theorem State.modLnk_flash (f : Lnk → Lnk) (s : State) :
    (State.modLnk f s).flash = s.flash := rfl
@[simp] theorem State.modLnk_dlv (f : Lnk → Lnk) (s : State) :
    (State.modLnk f s).dlv = s.dlv := rfl
@[simp] theorem State.modLnk_ports (f : Lnk → Lnk) (s : State) :
    (State.modLnk f s).ports = s.ports := rfl
@[simp] theorem State.modLnk_heads (f : Lnk → Lnk) (s : State) :
    (State.modLnk f s).heads = s.heads := rfl
@[simp] theorem State.modLnk_meas (f : Lnk → Lnk) (s : State) :
    (State.modLnk f s).meas = s.meas := rfl
@[simp] theorem State.modLnk_met (f : Lnk → Lnk) (s : State) :
    (State.modLnk f s).met = s.met := rfl
@[simp] theorem State.modLnk_pmet (f : Lnk → Lnk) (s : State) :
    (State.modLnk f s).pmet = s.pmet := rfl
@[simp] theorem State.modLnk_safe (f : Lnk → Lnk) (s : State) :
    (State.modLnk f s).safe = s.safe := rfl
@[simp] theorem State.modLnk_psafe (f : Lnk → Lnk) (s : State) :
    (State.modLnk f s).psafe = s.psafe := rfl
@[simp] theorem State.modLnk_cp (f : Lnk → Lnk) (s : State) :
    (State.modLnk f s).cp = s.cp := rfl
@[simp] theorem State.modLnk_plc (f : Lnk → Lnk) (s : State) :
    (State.modLnk f s).plc = s.plc := rfl
@[simp] theorem State.modLnk_pipes (f : Lnk → Lnk) (s : State) :
    (State.modLnk f s).pipes = s.pipes := rfl
@[simp] theorem State.modLnk_hpipes (f : Lnk → Lnk) (s : State) :
    (State.modLnk f s).hpipes = s.hpipes := rfl
@[simp] theorem State.modLnk_ses (f : Lnk → Lnk) (s : State) :
    (State.modLnk f s).ses = s.ses := rfl
@[simp] theorem State.modLnk_sesSys (f : Lnk → Lnk) (s : State) :
    (State.modLnk f s).sesSys = s.sesSys := rfl
@[simp] theorem State.modLnk_auth (f : Lnk → Lnk) (s : State) :
    (State.modLnk f s).auth = s.auth := rfl
@[simp] theorem State.modLnk_authSys (f : Lnk → Lnk) (s : State) :
    (State.modLnk f s).authSys = s.authSys := rfl
@[simp] theorem State.modLnk_led (f : Lnk → Lnk) (s : State) :
    (State.modLnk f s).led = s.led := rfl
@[simp] theorem State.modLnk_recs (f : Lnk → Lnk) (s : State) :
    (State.modLnk f s).recs = s.recs := rfl
@[simp] theorem State.modLnk_mbus (f : Lnk → Lnk) (s : State) :
    (State.modLnk f s).mbus = s.mbus := rfl
@[simp] theorem State.modLnk_tag (f : Lnk → Lnk) (s : State) :
    (State.modLnk f s).tag = s.tag := rfl
@[simp] theorem State.modLnk_phy (f : Lnk → Lnk) (s : State) :
    (State.modLnk f s).phy = s.phy := rfl
@[simp] theorem State.modLnk_lnk (f : Lnk → Lnk) (s : State) :
    (State.modLnk f s).lnk = f s.lnk := rfl
@[simp] theorem State.modLnk_share (f : Lnk → Lnk) (s : State) :
    (State.modLnk f s).share = s.share := rfl
@[simp] theorem State.modLnk_epd (f : Lnk → Lnk) (s : State) :
    (State.modLnk f s).epd = s.epd := rfl
@[simp] theorem State.modLnk_fab (f : Lnk → Lnk) (s : State) :
    (State.modLnk f s).fab = s.fab := rfl
@[simp] theorem State.modLnk_ev (f : Lnk → Lnk) (s : State) :
    (State.modLnk f s).ev = s.ev := rfl
@[simp] theorem State.modLnk_sen (f : Lnk → Lnk) (s : State) :
    (State.modLnk f s).sen = s.sen := rfl
@[simp] theorem State.modLnk_jrn (f : Lnk → Lnk) (s : State) :
    (State.modLnk f s).jrn = s.jrn := rfl
@[simp] theorem State.modLnk_tamper (f : Lnk → Lnk) (s : State) :
    (State.modLnk f s).tamper = s.tamper := rfl
@[simp] theorem State.modLnk_elec (f : Lnk → Lnk) (s : State) :
    (State.modLnk f s).elec = s.elec := rfl
@[simp] theorem State.modLnk_freeCtr (f : Lnk → Lnk) (s : State) :
    (State.modLnk f s).freeCtr = s.freeCtr := rfl
@[simp] theorem State.modLnk_pending (f : Lnk → Lnk) (s : State) :
    (State.modLnk f s).pending = s.pending := rfl
@[simp] theorem State.modShare_eng (f : Share → Share) (s : State) :
    (State.modShare f s).eng = s.eng := rfl
@[simp] theorem State.modShare_gates (f : Share → Share) (s : State) :
    (State.modShare f s).gates = s.gates := rfl
@[simp] theorem State.modShare_clk (f : Share → Share) (s : State) :
    (State.modShare f s).clk = s.clk := rfl
@[simp] theorem State.modShare_life (f : Share → Share) (s : State) :
    (State.modShare f s).life = s.life := rfl
@[simp] theorem State.modShare_keys (f : Share → Share) (s : State) :
    (State.modShare f s).keys = s.keys := rfl
@[simp] theorem State.modShare_img (f : Share → Share) (s : State) :
    (State.modShare f s).img = s.img := rfl
@[simp] theorem State.modShare_flash (f : Share → Share) (s : State) :
    (State.modShare f s).flash = s.flash := rfl
@[simp] theorem State.modShare_dlv (f : Share → Share) (s : State) :
    (State.modShare f s).dlv = s.dlv := rfl
@[simp] theorem State.modShare_ports (f : Share → Share) (s : State) :
    (State.modShare f s).ports = s.ports := rfl
@[simp] theorem State.modShare_heads (f : Share → Share) (s : State) :
    (State.modShare f s).heads = s.heads := rfl
@[simp] theorem State.modShare_meas (f : Share → Share) (s : State) :
    (State.modShare f s).meas = s.meas := rfl
@[simp] theorem State.modShare_met (f : Share → Share) (s : State) :
    (State.modShare f s).met = s.met := rfl
@[simp] theorem State.modShare_pmet (f : Share → Share) (s : State) :
    (State.modShare f s).pmet = s.pmet := rfl
@[simp] theorem State.modShare_safe (f : Share → Share) (s : State) :
    (State.modShare f s).safe = s.safe := rfl
@[simp] theorem State.modShare_psafe (f : Share → Share) (s : State) :
    (State.modShare f s).psafe = s.psafe := rfl
@[simp] theorem State.modShare_cp (f : Share → Share) (s : State) :
    (State.modShare f s).cp = s.cp := rfl
@[simp] theorem State.modShare_plc (f : Share → Share) (s : State) :
    (State.modShare f s).plc = s.plc := rfl
@[simp] theorem State.modShare_pipes (f : Share → Share) (s : State) :
    (State.modShare f s).pipes = s.pipes := rfl
@[simp] theorem State.modShare_hpipes (f : Share → Share) (s : State) :
    (State.modShare f s).hpipes = s.hpipes := rfl
@[simp] theorem State.modShare_ses (f : Share → Share) (s : State) :
    (State.modShare f s).ses = s.ses := rfl
@[simp] theorem State.modShare_sesSys (f : Share → Share) (s : State) :
    (State.modShare f s).sesSys = s.sesSys := rfl
@[simp] theorem State.modShare_auth (f : Share → Share) (s : State) :
    (State.modShare f s).auth = s.auth := rfl
@[simp] theorem State.modShare_authSys (f : Share → Share) (s : State) :
    (State.modShare f s).authSys = s.authSys := rfl
@[simp] theorem State.modShare_led (f : Share → Share) (s : State) :
    (State.modShare f s).led = s.led := rfl
@[simp] theorem State.modShare_recs (f : Share → Share) (s : State) :
    (State.modShare f s).recs = s.recs := rfl
@[simp] theorem State.modShare_mbus (f : Share → Share) (s : State) :
    (State.modShare f s).mbus = s.mbus := rfl
@[simp] theorem State.modShare_tag (f : Share → Share) (s : State) :
    (State.modShare f s).tag = s.tag := rfl
@[simp] theorem State.modShare_phy (f : Share → Share) (s : State) :
    (State.modShare f s).phy = s.phy := rfl
@[simp] theorem State.modShare_lnk (f : Share → Share) (s : State) :
    (State.modShare f s).lnk = s.lnk := rfl
@[simp] theorem State.modShare_share (f : Share → Share) (s : State) :
    (State.modShare f s).share = f s.share := rfl
@[simp] theorem State.modShare_epd (f : Share → Share) (s : State) :
    (State.modShare f s).epd = s.epd := rfl
@[simp] theorem State.modShare_fab (f : Share → Share) (s : State) :
    (State.modShare f s).fab = s.fab := rfl
@[simp] theorem State.modShare_ev (f : Share → Share) (s : State) :
    (State.modShare f s).ev = s.ev := rfl
@[simp] theorem State.modShare_sen (f : Share → Share) (s : State) :
    (State.modShare f s).sen = s.sen := rfl
@[simp] theorem State.modShare_jrn (f : Share → Share) (s : State) :
    (State.modShare f s).jrn = s.jrn := rfl
@[simp] theorem State.modShare_tamper (f : Share → Share) (s : State) :
    (State.modShare f s).tamper = s.tamper := rfl
@[simp] theorem State.modShare_elec (f : Share → Share) (s : State) :
    (State.modShare f s).elec = s.elec := rfl
@[simp] theorem State.modShare_freeCtr (f : Share → Share) (s : State) :
    (State.modShare f s).freeCtr = s.freeCtr := rfl
@[simp] theorem State.modShare_pending (f : Share → Share) (s : State) :
    (State.modShare f s).pending = s.pending := rfl
@[simp] theorem State.modEpd_eng (f : Epd → Epd) (s : State) :
    (State.modEpd f s).eng = s.eng := rfl
@[simp] theorem State.modEpd_gates (f : Epd → Epd) (s : State) :
    (State.modEpd f s).gates = s.gates := rfl
@[simp] theorem State.modEpd_clk (f : Epd → Epd) (s : State) :
    (State.modEpd f s).clk = s.clk := rfl
@[simp] theorem State.modEpd_life (f : Epd → Epd) (s : State) :
    (State.modEpd f s).life = s.life := rfl
@[simp] theorem State.modEpd_keys (f : Epd → Epd) (s : State) :
    (State.modEpd f s).keys = s.keys := rfl
@[simp] theorem State.modEpd_img (f : Epd → Epd) (s : State) :
    (State.modEpd f s).img = s.img := rfl
@[simp] theorem State.modEpd_flash (f : Epd → Epd) (s : State) :
    (State.modEpd f s).flash = s.flash := rfl
@[simp] theorem State.modEpd_dlv (f : Epd → Epd) (s : State) :
    (State.modEpd f s).dlv = s.dlv := rfl
@[simp] theorem State.modEpd_ports (f : Epd → Epd) (s : State) :
    (State.modEpd f s).ports = s.ports := rfl
@[simp] theorem State.modEpd_heads (f : Epd → Epd) (s : State) :
    (State.modEpd f s).heads = s.heads := rfl
@[simp] theorem State.modEpd_meas (f : Epd → Epd) (s : State) :
    (State.modEpd f s).meas = s.meas := rfl
@[simp] theorem State.modEpd_met (f : Epd → Epd) (s : State) :
    (State.modEpd f s).met = s.met := rfl
@[simp] theorem State.modEpd_pmet (f : Epd → Epd) (s : State) :
    (State.modEpd f s).pmet = s.pmet := rfl
@[simp] theorem State.modEpd_safe (f : Epd → Epd) (s : State) :
    (State.modEpd f s).safe = s.safe := rfl
@[simp] theorem State.modEpd_psafe (f : Epd → Epd) (s : State) :
    (State.modEpd f s).psafe = s.psafe := rfl
@[simp] theorem State.modEpd_cp (f : Epd → Epd) (s : State) :
    (State.modEpd f s).cp = s.cp := rfl
@[simp] theorem State.modEpd_plc (f : Epd → Epd) (s : State) :
    (State.modEpd f s).plc = s.plc := rfl
@[simp] theorem State.modEpd_pipes (f : Epd → Epd) (s : State) :
    (State.modEpd f s).pipes = s.pipes := rfl
@[simp] theorem State.modEpd_hpipes (f : Epd → Epd) (s : State) :
    (State.modEpd f s).hpipes = s.hpipes := rfl
@[simp] theorem State.modEpd_ses (f : Epd → Epd) (s : State) :
    (State.modEpd f s).ses = s.ses := rfl
@[simp] theorem State.modEpd_sesSys (f : Epd → Epd) (s : State) :
    (State.modEpd f s).sesSys = s.sesSys := rfl
@[simp] theorem State.modEpd_auth (f : Epd → Epd) (s : State) :
    (State.modEpd f s).auth = s.auth := rfl
@[simp] theorem State.modEpd_authSys (f : Epd → Epd) (s : State) :
    (State.modEpd f s).authSys = s.authSys := rfl
@[simp] theorem State.modEpd_led (f : Epd → Epd) (s : State) :
    (State.modEpd f s).led = s.led := rfl
@[simp] theorem State.modEpd_recs (f : Epd → Epd) (s : State) :
    (State.modEpd f s).recs = s.recs := rfl
@[simp] theorem State.modEpd_mbus (f : Epd → Epd) (s : State) :
    (State.modEpd f s).mbus = s.mbus := rfl
@[simp] theorem State.modEpd_tag (f : Epd → Epd) (s : State) :
    (State.modEpd f s).tag = s.tag := rfl
@[simp] theorem State.modEpd_phy (f : Epd → Epd) (s : State) :
    (State.modEpd f s).phy = s.phy := rfl
@[simp] theorem State.modEpd_lnk (f : Epd → Epd) (s : State) :
    (State.modEpd f s).lnk = s.lnk := rfl
@[simp] theorem State.modEpd_share (f : Epd → Epd) (s : State) :
    (State.modEpd f s).share = s.share := rfl
@[simp] theorem State.modEpd_epd (f : Epd → Epd) (s : State) :
    (State.modEpd f s).epd = f s.epd := rfl
@[simp] theorem State.modEpd_fab (f : Epd → Epd) (s : State) :
    (State.modEpd f s).fab = s.fab := rfl
@[simp] theorem State.modEpd_ev (f : Epd → Epd) (s : State) :
    (State.modEpd f s).ev = s.ev := rfl
@[simp] theorem State.modEpd_sen (f : Epd → Epd) (s : State) :
    (State.modEpd f s).sen = s.sen := rfl
@[simp] theorem State.modEpd_jrn (f : Epd → Epd) (s : State) :
    (State.modEpd f s).jrn = s.jrn := rfl
@[simp] theorem State.modEpd_tamper (f : Epd → Epd) (s : State) :
    (State.modEpd f s).tamper = s.tamper := rfl
@[simp] theorem State.modEpd_elec (f : Epd → Epd) (s : State) :
    (State.modEpd f s).elec = s.elec := rfl
@[simp] theorem State.modEpd_freeCtr (f : Epd → Epd) (s : State) :
    (State.modEpd f s).freeCtr = s.freeCtr := rfl
@[simp] theorem State.modEpd_pending (f : Epd → Epd) (s : State) :
    (State.modEpd f s).pending = s.pending := rfl
@[simp] theorem State.modFab_eng (f : Fab → Fab) (s : State) :
    (State.modFab f s).eng = s.eng := rfl
@[simp] theorem State.modFab_gates (f : Fab → Fab) (s : State) :
    (State.modFab f s).gates = s.gates := rfl
@[simp] theorem State.modFab_clk (f : Fab → Fab) (s : State) :
    (State.modFab f s).clk = s.clk := rfl
@[simp] theorem State.modFab_life (f : Fab → Fab) (s : State) :
    (State.modFab f s).life = s.life := rfl
@[simp] theorem State.modFab_keys (f : Fab → Fab) (s : State) :
    (State.modFab f s).keys = s.keys := rfl
@[simp] theorem State.modFab_img (f : Fab → Fab) (s : State) :
    (State.modFab f s).img = s.img := rfl
@[simp] theorem State.modFab_flash (f : Fab → Fab) (s : State) :
    (State.modFab f s).flash = s.flash := rfl
@[simp] theorem State.modFab_dlv (f : Fab → Fab) (s : State) :
    (State.modFab f s).dlv = s.dlv := rfl
@[simp] theorem State.modFab_ports (f : Fab → Fab) (s : State) :
    (State.modFab f s).ports = s.ports := rfl
@[simp] theorem State.modFab_heads (f : Fab → Fab) (s : State) :
    (State.modFab f s).heads = s.heads := rfl
@[simp] theorem State.modFab_meas (f : Fab → Fab) (s : State) :
    (State.modFab f s).meas = s.meas := rfl
@[simp] theorem State.modFab_met (f : Fab → Fab) (s : State) :
    (State.modFab f s).met = s.met := rfl
@[simp] theorem State.modFab_pmet (f : Fab → Fab) (s : State) :
    (State.modFab f s).pmet = s.pmet := rfl
@[simp] theorem State.modFab_safe (f : Fab → Fab) (s : State) :
    (State.modFab f s).safe = s.safe := rfl
@[simp] theorem State.modFab_psafe (f : Fab → Fab) (s : State) :
    (State.modFab f s).psafe = s.psafe := rfl
@[simp] theorem State.modFab_cp (f : Fab → Fab) (s : State) :
    (State.modFab f s).cp = s.cp := rfl
@[simp] theorem State.modFab_plc (f : Fab → Fab) (s : State) :
    (State.modFab f s).plc = s.plc := rfl
@[simp] theorem State.modFab_pipes (f : Fab → Fab) (s : State) :
    (State.modFab f s).pipes = s.pipes := rfl
@[simp] theorem State.modFab_hpipes (f : Fab → Fab) (s : State) :
    (State.modFab f s).hpipes = s.hpipes := rfl
@[simp] theorem State.modFab_ses (f : Fab → Fab) (s : State) :
    (State.modFab f s).ses = s.ses := rfl
@[simp] theorem State.modFab_sesSys (f : Fab → Fab) (s : State) :
    (State.modFab f s).sesSys = s.sesSys := rfl
@[simp] theorem State.modFab_auth (f : Fab → Fab) (s : State) :
    (State.modFab f s).auth = s.auth := rfl
@[simp] theorem State.modFab_authSys (f : Fab → Fab) (s : State) :
    (State.modFab f s).authSys = s.authSys := rfl
@[simp] theorem State.modFab_led (f : Fab → Fab) (s : State) :
    (State.modFab f s).led = s.led := rfl
@[simp] theorem State.modFab_recs (f : Fab → Fab) (s : State) :
    (State.modFab f s).recs = s.recs := rfl
@[simp] theorem State.modFab_mbus (f : Fab → Fab) (s : State) :
    (State.modFab f s).mbus = s.mbus := rfl
@[simp] theorem State.modFab_tag (f : Fab → Fab) (s : State) :
    (State.modFab f s).tag = s.tag := rfl
@[simp] theorem State.modFab_phy (f : Fab → Fab) (s : State) :
    (State.modFab f s).phy = s.phy := rfl
@[simp] theorem State.modFab_lnk (f : Fab → Fab) (s : State) :
    (State.modFab f s).lnk = s.lnk := rfl
@[simp] theorem State.modFab_share (f : Fab → Fab) (s : State) :
    (State.modFab f s).share = s.share := rfl
@[simp] theorem State.modFab_epd (f : Fab → Fab) (s : State) :
    (State.modFab f s).epd = s.epd := rfl
@[simp] theorem State.modFab_fab (f : Fab → Fab) (s : State) :
    (State.modFab f s).fab = f s.fab := rfl
@[simp] theorem State.modFab_ev (f : Fab → Fab) (s : State) :
    (State.modFab f s).ev = s.ev := rfl
@[simp] theorem State.modFab_sen (f : Fab → Fab) (s : State) :
    (State.modFab f s).sen = s.sen := rfl
@[simp] theorem State.modFab_jrn (f : Fab → Fab) (s : State) :
    (State.modFab f s).jrn = s.jrn := rfl
@[simp] theorem State.modFab_tamper (f : Fab → Fab) (s : State) :
    (State.modFab f s).tamper = s.tamper := rfl
@[simp] theorem State.modFab_elec (f : Fab → Fab) (s : State) :
    (State.modFab f s).elec = s.elec := rfl
@[simp] theorem State.modFab_freeCtr (f : Fab → Fab) (s : State) :
    (State.modFab f s).freeCtr = s.freeCtr := rfl
@[simp] theorem State.modFab_pending (f : Fab → Fab) (s : State) :
    (State.modFab f s).pending = s.pending := rfl
@[simp] theorem State.modEv_eng (f : Ev → Ev) (s : State) :
    (State.modEv f s).eng = s.eng := rfl
@[simp] theorem State.modEv_gates (f : Ev → Ev) (s : State) :
    (State.modEv f s).gates = s.gates := rfl
@[simp] theorem State.modEv_clk (f : Ev → Ev) (s : State) :
    (State.modEv f s).clk = s.clk := rfl
@[simp] theorem State.modEv_life (f : Ev → Ev) (s : State) :
    (State.modEv f s).life = s.life := rfl
@[simp] theorem State.modEv_keys (f : Ev → Ev) (s : State) :
    (State.modEv f s).keys = s.keys := rfl
@[simp] theorem State.modEv_img (f : Ev → Ev) (s : State) :
    (State.modEv f s).img = s.img := rfl
@[simp] theorem State.modEv_flash (f : Ev → Ev) (s : State) :
    (State.modEv f s).flash = s.flash := rfl
@[simp] theorem State.modEv_dlv (f : Ev → Ev) (s : State) :
    (State.modEv f s).dlv = s.dlv := rfl
@[simp] theorem State.modEv_ports (f : Ev → Ev) (s : State) :
    (State.modEv f s).ports = s.ports := rfl
@[simp] theorem State.modEv_heads (f : Ev → Ev) (s : State) :
    (State.modEv f s).heads = s.heads := rfl
@[simp] theorem State.modEv_meas (f : Ev → Ev) (s : State) :
    (State.modEv f s).meas = s.meas := rfl
@[simp] theorem State.modEv_met (f : Ev → Ev) (s : State) :
    (State.modEv f s).met = s.met := rfl
@[simp] theorem State.modEv_pmet (f : Ev → Ev) (s : State) :
    (State.modEv f s).pmet = s.pmet := rfl
@[simp] theorem State.modEv_safe (f : Ev → Ev) (s : State) :
    (State.modEv f s).safe = s.safe := rfl
@[simp] theorem State.modEv_psafe (f : Ev → Ev) (s : State) :
    (State.modEv f s).psafe = s.psafe := rfl
@[simp] theorem State.modEv_cp (f : Ev → Ev) (s : State) :
    (State.modEv f s).cp = s.cp := rfl
@[simp] theorem State.modEv_plc (f : Ev → Ev) (s : State) :
    (State.modEv f s).plc = s.plc := rfl
@[simp] theorem State.modEv_pipes (f : Ev → Ev) (s : State) :
    (State.modEv f s).pipes = s.pipes := rfl
@[simp] theorem State.modEv_hpipes (f : Ev → Ev) (s : State) :
    (State.modEv f s).hpipes = s.hpipes := rfl
@[simp] theorem State.modEv_ses (f : Ev → Ev) (s : State) :
    (State.modEv f s).ses = s.ses := rfl
@[simp] theorem State.modEv_sesSys (f : Ev → Ev) (s : State) :
    (State.modEv f s).sesSys = s.sesSys := rfl
@[simp] theorem State.modEv_auth (f : Ev → Ev) (s : State) :
    (State.modEv f s).auth = s.auth := rfl
@[simp] theorem State.modEv_authSys (f : Ev → Ev) (s : State) :
    (State.modEv f s).authSys = s.authSys := rfl
@[simp] theorem State.modEv_led (f : Ev → Ev) (s : State) :
    (State.modEv f s).led = s.led := rfl
@[simp] theorem State.modEv_recs (f : Ev → Ev) (s : State) :
    (State.modEv f s).recs = s.recs := rfl
@[simp] theorem State.modEv_mbus (f : Ev → Ev) (s : State) :
    (State.modEv f s).mbus = s.mbus := rfl
@[simp] theorem State.modEv_tag (f : Ev → Ev) (s : State) :
    (State.modEv f s).tag = s.tag := rfl
@[simp] theorem State.modEv_phy (f : Ev → Ev) (s : State) :
    (State.modEv f s).phy = s.phy := rfl
@[simp] theorem State.modEv_lnk (f : Ev → Ev) (s : State) :
    (State.modEv f s).lnk = s.lnk := rfl
@[simp] theorem State.modEv_share (f : Ev → Ev) (s : State) :
    (State.modEv f s).share = s.share := rfl
@[simp] theorem State.modEv_epd (f : Ev → Ev) (s : State) :
    (State.modEv f s).epd = s.epd := rfl
@[simp] theorem State.modEv_fab (f : Ev → Ev) (s : State) :
    (State.modEv f s).fab = s.fab := rfl
@[simp] theorem State.modEv_ev (f : Ev → Ev) (s : State) :
    (State.modEv f s).ev = f s.ev := rfl
@[simp] theorem State.modEv_sen (f : Ev → Ev) (s : State) :
    (State.modEv f s).sen = s.sen := rfl
@[simp] theorem State.modEv_jrn (f : Ev → Ev) (s : State) :
    (State.modEv f s).jrn = s.jrn := rfl
@[simp] theorem State.modEv_tamper (f : Ev → Ev) (s : State) :
    (State.modEv f s).tamper = s.tamper := rfl
@[simp] theorem State.modEv_elec (f : Ev → Ev) (s : State) :
    (State.modEv f s).elec = s.elec := rfl
@[simp] theorem State.modEv_freeCtr (f : Ev → Ev) (s : State) :
    (State.modEv f s).freeCtr = s.freeCtr := rfl
@[simp] theorem State.modEv_pending (f : Ev → Ev) (s : State) :
    (State.modEv f s).pending = s.pending := rfl
@[simp] theorem State.modSen_eng (f : Sen → Sen) (s : State) :
    (State.modSen f s).eng = s.eng := rfl
@[simp] theorem State.modSen_gates (f : Sen → Sen) (s : State) :
    (State.modSen f s).gates = s.gates := rfl
@[simp] theorem State.modSen_clk (f : Sen → Sen) (s : State) :
    (State.modSen f s).clk = s.clk := rfl
@[simp] theorem State.modSen_life (f : Sen → Sen) (s : State) :
    (State.modSen f s).life = s.life := rfl
@[simp] theorem State.modSen_keys (f : Sen → Sen) (s : State) :
    (State.modSen f s).keys = s.keys := rfl
@[simp] theorem State.modSen_img (f : Sen → Sen) (s : State) :
    (State.modSen f s).img = s.img := rfl
@[simp] theorem State.modSen_flash (f : Sen → Sen) (s : State) :
    (State.modSen f s).flash = s.flash := rfl
@[simp] theorem State.modSen_dlv (f : Sen → Sen) (s : State) :
    (State.modSen f s).dlv = s.dlv := rfl
@[simp] theorem State.modSen_ports (f : Sen → Sen) (s : State) :
    (State.modSen f s).ports = s.ports := rfl
@[simp] theorem State.modSen_heads (f : Sen → Sen) (s : State) :
    (State.modSen f s).heads = s.heads := rfl
@[simp] theorem State.modSen_meas (f : Sen → Sen) (s : State) :
    (State.modSen f s).meas = s.meas := rfl
@[simp] theorem State.modSen_met (f : Sen → Sen) (s : State) :
    (State.modSen f s).met = s.met := rfl
@[simp] theorem State.modSen_pmet (f : Sen → Sen) (s : State) :
    (State.modSen f s).pmet = s.pmet := rfl
@[simp] theorem State.modSen_safe (f : Sen → Sen) (s : State) :
    (State.modSen f s).safe = s.safe := rfl
@[simp] theorem State.modSen_psafe (f : Sen → Sen) (s : State) :
    (State.modSen f s).psafe = s.psafe := rfl
@[simp] theorem State.modSen_cp (f : Sen → Sen) (s : State) :
    (State.modSen f s).cp = s.cp := rfl
@[simp] theorem State.modSen_plc (f : Sen → Sen) (s : State) :
    (State.modSen f s).plc = s.plc := rfl
@[simp] theorem State.modSen_pipes (f : Sen → Sen) (s : State) :
    (State.modSen f s).pipes = s.pipes := rfl
@[simp] theorem State.modSen_hpipes (f : Sen → Sen) (s : State) :
    (State.modSen f s).hpipes = s.hpipes := rfl
@[simp] theorem State.modSen_ses (f : Sen → Sen) (s : State) :
    (State.modSen f s).ses = s.ses := rfl
@[simp] theorem State.modSen_sesSys (f : Sen → Sen) (s : State) :
    (State.modSen f s).sesSys = s.sesSys := rfl
@[simp] theorem State.modSen_auth (f : Sen → Sen) (s : State) :
    (State.modSen f s).auth = s.auth := rfl
@[simp] theorem State.modSen_authSys (f : Sen → Sen) (s : State) :
    (State.modSen f s).authSys = s.authSys := rfl
@[simp] theorem State.modSen_led (f : Sen → Sen) (s : State) :
    (State.modSen f s).led = s.led := rfl
@[simp] theorem State.modSen_recs (f : Sen → Sen) (s : State) :
    (State.modSen f s).recs = s.recs := rfl
@[simp] theorem State.modSen_mbus (f : Sen → Sen) (s : State) :
    (State.modSen f s).mbus = s.mbus := rfl
@[simp] theorem State.modSen_tag (f : Sen → Sen) (s : State) :
    (State.modSen f s).tag = s.tag := rfl
@[simp] theorem State.modSen_phy (f : Sen → Sen) (s : State) :
    (State.modSen f s).phy = s.phy := rfl
@[simp] theorem State.modSen_lnk (f : Sen → Sen) (s : State) :
    (State.modSen f s).lnk = s.lnk := rfl
@[simp] theorem State.modSen_share (f : Sen → Sen) (s : State) :
    (State.modSen f s).share = s.share := rfl
@[simp] theorem State.modSen_epd (f : Sen → Sen) (s : State) :
    (State.modSen f s).epd = s.epd := rfl
@[simp] theorem State.modSen_fab (f : Sen → Sen) (s : State) :
    (State.modSen f s).fab = s.fab := rfl
@[simp] theorem State.modSen_ev (f : Sen → Sen) (s : State) :
    (State.modSen f s).ev = s.ev := rfl
@[simp] theorem State.modSen_sen (f : Sen → Sen) (s : State) :
    (State.modSen f s).sen = f s.sen := rfl
@[simp] theorem State.modSen_jrn (f : Sen → Sen) (s : State) :
    (State.modSen f s).jrn = s.jrn := rfl
@[simp] theorem State.modSen_tamper (f : Sen → Sen) (s : State) :
    (State.modSen f s).tamper = s.tamper := rfl
@[simp] theorem State.modSen_elec (f : Sen → Sen) (s : State) :
    (State.modSen f s).elec = s.elec := rfl
@[simp] theorem State.modSen_freeCtr (f : Sen → Sen) (s : State) :
    (State.modSen f s).freeCtr = s.freeCtr := rfl
@[simp] theorem State.modSen_pending (f : Sen → Sen) (s : State) :
    (State.modSen f s).pending = s.pending := rfl
@[simp] theorem State.modJrn_eng (f : Jrn → Jrn) (s : State) :
    (State.modJrn f s).eng = s.eng := rfl
@[simp] theorem State.modJrn_gates (f : Jrn → Jrn) (s : State) :
    (State.modJrn f s).gates = s.gates := rfl
@[simp] theorem State.modJrn_clk (f : Jrn → Jrn) (s : State) :
    (State.modJrn f s).clk = s.clk := rfl
@[simp] theorem State.modJrn_life (f : Jrn → Jrn) (s : State) :
    (State.modJrn f s).life = s.life := rfl
@[simp] theorem State.modJrn_keys (f : Jrn → Jrn) (s : State) :
    (State.modJrn f s).keys = s.keys := rfl
@[simp] theorem State.modJrn_img (f : Jrn → Jrn) (s : State) :
    (State.modJrn f s).img = s.img := rfl
@[simp] theorem State.modJrn_flash (f : Jrn → Jrn) (s : State) :
    (State.modJrn f s).flash = s.flash := rfl
@[simp] theorem State.modJrn_dlv (f : Jrn → Jrn) (s : State) :
    (State.modJrn f s).dlv = s.dlv := rfl
@[simp] theorem State.modJrn_ports (f : Jrn → Jrn) (s : State) :
    (State.modJrn f s).ports = s.ports := rfl
@[simp] theorem State.modJrn_heads (f : Jrn → Jrn) (s : State) :
    (State.modJrn f s).heads = s.heads := rfl
@[simp] theorem State.modJrn_meas (f : Jrn → Jrn) (s : State) :
    (State.modJrn f s).meas = s.meas := rfl
@[simp] theorem State.modJrn_met (f : Jrn → Jrn) (s : State) :
    (State.modJrn f s).met = s.met := rfl
@[simp] theorem State.modJrn_pmet (f : Jrn → Jrn) (s : State) :
    (State.modJrn f s).pmet = s.pmet := rfl
@[simp] theorem State.modJrn_safe (f : Jrn → Jrn) (s : State) :
    (State.modJrn f s).safe = s.safe := rfl
@[simp] theorem State.modJrn_psafe (f : Jrn → Jrn) (s : State) :
    (State.modJrn f s).psafe = s.psafe := rfl
@[simp] theorem State.modJrn_cp (f : Jrn → Jrn) (s : State) :
    (State.modJrn f s).cp = s.cp := rfl
@[simp] theorem State.modJrn_plc (f : Jrn → Jrn) (s : State) :
    (State.modJrn f s).plc = s.plc := rfl
@[simp] theorem State.modJrn_pipes (f : Jrn → Jrn) (s : State) :
    (State.modJrn f s).pipes = s.pipes := rfl
@[simp] theorem State.modJrn_hpipes (f : Jrn → Jrn) (s : State) :
    (State.modJrn f s).hpipes = s.hpipes := rfl
@[simp] theorem State.modJrn_ses (f : Jrn → Jrn) (s : State) :
    (State.modJrn f s).ses = s.ses := rfl
@[simp] theorem State.modJrn_sesSys (f : Jrn → Jrn) (s : State) :
    (State.modJrn f s).sesSys = s.sesSys := rfl
@[simp] theorem State.modJrn_auth (f : Jrn → Jrn) (s : State) :
    (State.modJrn f s).auth = s.auth := rfl
@[simp] theorem State.modJrn_authSys (f : Jrn → Jrn) (s : State) :
    (State.modJrn f s).authSys = s.authSys := rfl
@[simp] theorem State.modJrn_led (f : Jrn → Jrn) (s : State) :
    (State.modJrn f s).led = s.led := rfl
@[simp] theorem State.modJrn_recs (f : Jrn → Jrn) (s : State) :
    (State.modJrn f s).recs = s.recs := rfl
@[simp] theorem State.modJrn_mbus (f : Jrn → Jrn) (s : State) :
    (State.modJrn f s).mbus = s.mbus := rfl
@[simp] theorem State.modJrn_tag (f : Jrn → Jrn) (s : State) :
    (State.modJrn f s).tag = s.tag := rfl
@[simp] theorem State.modJrn_phy (f : Jrn → Jrn) (s : State) :
    (State.modJrn f s).phy = s.phy := rfl
@[simp] theorem State.modJrn_lnk (f : Jrn → Jrn) (s : State) :
    (State.modJrn f s).lnk = s.lnk := rfl
@[simp] theorem State.modJrn_share (f : Jrn → Jrn) (s : State) :
    (State.modJrn f s).share = s.share := rfl
@[simp] theorem State.modJrn_epd (f : Jrn → Jrn) (s : State) :
    (State.modJrn f s).epd = s.epd := rfl
@[simp] theorem State.modJrn_fab (f : Jrn → Jrn) (s : State) :
    (State.modJrn f s).fab = s.fab := rfl
@[simp] theorem State.modJrn_ev (f : Jrn → Jrn) (s : State) :
    (State.modJrn f s).ev = s.ev := rfl
@[simp] theorem State.modJrn_sen (f : Jrn → Jrn) (s : State) :
    (State.modJrn f s).sen = s.sen := rfl
@[simp] theorem State.modJrn_jrn (f : Jrn → Jrn) (s : State) :
    (State.modJrn f s).jrn = f s.jrn := rfl
@[simp] theorem State.modJrn_tamper (f : Jrn → Jrn) (s : State) :
    (State.modJrn f s).tamper = s.tamper := rfl
@[simp] theorem State.modJrn_elec (f : Jrn → Jrn) (s : State) :
    (State.modJrn f s).elec = s.elec := rfl
@[simp] theorem State.modJrn_freeCtr (f : Jrn → Jrn) (s : State) :
    (State.modJrn f s).freeCtr = s.freeCtr := rfl
@[simp] theorem State.modJrn_pending (f : Jrn → Jrn) (s : State) :
    (State.modJrn f s).pending = s.pending := rfl
@[simp] theorem State.modTamper_eng (f : Tamper → Tamper) (s : State) :
    (State.modTamper f s).eng = s.eng := rfl
@[simp] theorem State.modTamper_gates (f : Tamper → Tamper) (s : State) :
    (State.modTamper f s).gates = s.gates := rfl
@[simp] theorem State.modTamper_clk (f : Tamper → Tamper) (s : State) :
    (State.modTamper f s).clk = s.clk := rfl
@[simp] theorem State.modTamper_life (f : Tamper → Tamper) (s : State) :
    (State.modTamper f s).life = s.life := rfl
@[simp] theorem State.modTamper_keys (f : Tamper → Tamper) (s : State) :
    (State.modTamper f s).keys = s.keys := rfl
@[simp] theorem State.modTamper_img (f : Tamper → Tamper) (s : State) :
    (State.modTamper f s).img = s.img := rfl
@[simp] theorem State.modTamper_flash (f : Tamper → Tamper) (s : State) :
    (State.modTamper f s).flash = s.flash := rfl
@[simp] theorem State.modTamper_dlv (f : Tamper → Tamper) (s : State) :
    (State.modTamper f s).dlv = s.dlv := rfl
@[simp] theorem State.modTamper_ports (f : Tamper → Tamper) (s : State) :
    (State.modTamper f s).ports = s.ports := rfl
@[simp] theorem State.modTamper_heads (f : Tamper → Tamper) (s : State) :
    (State.modTamper f s).heads = s.heads := rfl
@[simp] theorem State.modTamper_meas (f : Tamper → Tamper) (s : State) :
    (State.modTamper f s).meas = s.meas := rfl
@[simp] theorem State.modTamper_met (f : Tamper → Tamper) (s : State) :
    (State.modTamper f s).met = s.met := rfl
@[simp] theorem State.modTamper_pmet (f : Tamper → Tamper) (s : State) :
    (State.modTamper f s).pmet = s.pmet := rfl
@[simp] theorem State.modTamper_safe (f : Tamper → Tamper) (s : State) :
    (State.modTamper f s).safe = s.safe := rfl
@[simp] theorem State.modTamper_psafe (f : Tamper → Tamper) (s : State) :
    (State.modTamper f s).psafe = s.psafe := rfl
@[simp] theorem State.modTamper_cp (f : Tamper → Tamper) (s : State) :
    (State.modTamper f s).cp = s.cp := rfl
@[simp] theorem State.modTamper_plc (f : Tamper → Tamper) (s : State) :
    (State.modTamper f s).plc = s.plc := rfl
@[simp] theorem State.modTamper_pipes (f : Tamper → Tamper) (s : State) :
    (State.modTamper f s).pipes = s.pipes := rfl
@[simp] theorem State.modTamper_hpipes (f : Tamper → Tamper) (s : State) :
    (State.modTamper f s).hpipes = s.hpipes := rfl
@[simp] theorem State.modTamper_ses (f : Tamper → Tamper) (s : State) :
    (State.modTamper f s).ses = s.ses := rfl
@[simp] theorem State.modTamper_sesSys (f : Tamper → Tamper) (s : State) :
    (State.modTamper f s).sesSys = s.sesSys := rfl
@[simp] theorem State.modTamper_auth (f : Tamper → Tamper) (s : State) :
    (State.modTamper f s).auth = s.auth := rfl
@[simp] theorem State.modTamper_authSys (f : Tamper → Tamper) (s : State) :
    (State.modTamper f s).authSys = s.authSys := rfl
@[simp] theorem State.modTamper_led (f : Tamper → Tamper) (s : State) :
    (State.modTamper f s).led = s.led := rfl
@[simp] theorem State.modTamper_recs (f : Tamper → Tamper) (s : State) :
    (State.modTamper f s).recs = s.recs := rfl
@[simp] theorem State.modTamper_mbus (f : Tamper → Tamper) (s : State) :
    (State.modTamper f s).mbus = s.mbus := rfl
@[simp] theorem State.modTamper_tag (f : Tamper → Tamper) (s : State) :
    (State.modTamper f s).tag = s.tag := rfl
@[simp] theorem State.modTamper_phy (f : Tamper → Tamper) (s : State) :
    (State.modTamper f s).phy = s.phy := rfl
@[simp] theorem State.modTamper_lnk (f : Tamper → Tamper) (s : State) :
    (State.modTamper f s).lnk = s.lnk := rfl
@[simp] theorem State.modTamper_share (f : Tamper → Tamper) (s : State) :
    (State.modTamper f s).share = s.share := rfl
@[simp] theorem State.modTamper_epd (f : Tamper → Tamper) (s : State) :
    (State.modTamper f s).epd = s.epd := rfl
@[simp] theorem State.modTamper_fab (f : Tamper → Tamper) (s : State) :
    (State.modTamper f s).fab = s.fab := rfl
@[simp] theorem State.modTamper_ev (f : Tamper → Tamper) (s : State) :
    (State.modTamper f s).ev = s.ev := rfl
@[simp] theorem State.modTamper_sen (f : Tamper → Tamper) (s : State) :
    (State.modTamper f s).sen = s.sen := rfl
@[simp] theorem State.modTamper_jrn (f : Tamper → Tamper) (s : State) :
    (State.modTamper f s).jrn = s.jrn := rfl
@[simp] theorem State.modTamper_tamper (f : Tamper → Tamper) (s : State) :
    (State.modTamper f s).tamper = f s.tamper := rfl
@[simp] theorem State.modTamper_elec (f : Tamper → Tamper) (s : State) :
    (State.modTamper f s).elec = s.elec := rfl
@[simp] theorem State.modTamper_freeCtr (f : Tamper → Tamper) (s : State) :
    (State.modTamper f s).freeCtr = s.freeCtr := rfl
@[simp] theorem State.modTamper_pending (f : Tamper → Tamper) (s : State) :
    (State.modTamper f s).pending = s.pending := rfl
@[simp] theorem State.modElec_eng (f : Elec → Elec) (s : State) :
    (State.modElec f s).eng = s.eng := rfl
@[simp] theorem State.modElec_gates (f : Elec → Elec) (s : State) :
    (State.modElec f s).gates = s.gates := rfl
@[simp] theorem State.modElec_clk (f : Elec → Elec) (s : State) :
    (State.modElec f s).clk = s.clk := rfl
@[simp] theorem State.modElec_life (f : Elec → Elec) (s : State) :
    (State.modElec f s).life = s.life := rfl
@[simp] theorem State.modElec_keys (f : Elec → Elec) (s : State) :
    (State.modElec f s).keys = s.keys := rfl
@[simp] theorem State.modElec_img (f : Elec → Elec) (s : State) :
    (State.modElec f s).img = s.img := rfl
@[simp] theorem State.modElec_flash (f : Elec → Elec) (s : State) :
    (State.modElec f s).flash = s.flash := rfl
@[simp] theorem State.modElec_dlv (f : Elec → Elec) (s : State) :
    (State.modElec f s).dlv = s.dlv := rfl
@[simp] theorem State.modElec_ports (f : Elec → Elec) (s : State) :
    (State.modElec f s).ports = s.ports := rfl
@[simp] theorem State.modElec_heads (f : Elec → Elec) (s : State) :
    (State.modElec f s).heads = s.heads := rfl
@[simp] theorem State.modElec_meas (f : Elec → Elec) (s : State) :
    (State.modElec f s).meas = s.meas := rfl
@[simp] theorem State.modElec_met (f : Elec → Elec) (s : State) :
    (State.modElec f s).met = s.met := rfl
@[simp] theorem State.modElec_pmet (f : Elec → Elec) (s : State) :
    (State.modElec f s).pmet = s.pmet := rfl
@[simp] theorem State.modElec_safe (f : Elec → Elec) (s : State) :
    (State.modElec f s).safe = s.safe := rfl
@[simp] theorem State.modElec_psafe (f : Elec → Elec) (s : State) :
    (State.modElec f s).psafe = s.psafe := rfl
@[simp] theorem State.modElec_cp (f : Elec → Elec) (s : State) :
    (State.modElec f s).cp = s.cp := rfl
@[simp] theorem State.modElec_plc (f : Elec → Elec) (s : State) :
    (State.modElec f s).plc = s.plc := rfl
@[simp] theorem State.modElec_pipes (f : Elec → Elec) (s : State) :
    (State.modElec f s).pipes = s.pipes := rfl
@[simp] theorem State.modElec_hpipes (f : Elec → Elec) (s : State) :
    (State.modElec f s).hpipes = s.hpipes := rfl
@[simp] theorem State.modElec_ses (f : Elec → Elec) (s : State) :
    (State.modElec f s).ses = s.ses := rfl
@[simp] theorem State.modElec_sesSys (f : Elec → Elec) (s : State) :
    (State.modElec f s).sesSys = s.sesSys := rfl
@[simp] theorem State.modElec_auth (f : Elec → Elec) (s : State) :
    (State.modElec f s).auth = s.auth := rfl
@[simp] theorem State.modElec_authSys (f : Elec → Elec) (s : State) :
    (State.modElec f s).authSys = s.authSys := rfl
@[simp] theorem State.modElec_led (f : Elec → Elec) (s : State) :
    (State.modElec f s).led = s.led := rfl
@[simp] theorem State.modElec_recs (f : Elec → Elec) (s : State) :
    (State.modElec f s).recs = s.recs := rfl
@[simp] theorem State.modElec_mbus (f : Elec → Elec) (s : State) :
    (State.modElec f s).mbus = s.mbus := rfl
@[simp] theorem State.modElec_tag (f : Elec → Elec) (s : State) :
    (State.modElec f s).tag = s.tag := rfl
@[simp] theorem State.modElec_phy (f : Elec → Elec) (s : State) :
    (State.modElec f s).phy = s.phy := rfl
@[simp] theorem State.modElec_lnk (f : Elec → Elec) (s : State) :
    (State.modElec f s).lnk = s.lnk := rfl
@[simp] theorem State.modElec_share (f : Elec → Elec) (s : State) :
    (State.modElec f s).share = s.share := rfl
@[simp] theorem State.modElec_epd (f : Elec → Elec) (s : State) :
    (State.modElec f s).epd = s.epd := rfl
@[simp] theorem State.modElec_fab (f : Elec → Elec) (s : State) :
    (State.modElec f s).fab = s.fab := rfl
@[simp] theorem State.modElec_ev (f : Elec → Elec) (s : State) :
    (State.modElec f s).ev = s.ev := rfl
@[simp] theorem State.modElec_sen (f : Elec → Elec) (s : State) :
    (State.modElec f s).sen = s.sen := rfl
@[simp] theorem State.modElec_jrn (f : Elec → Elec) (s : State) :
    (State.modElec f s).jrn = s.jrn := rfl
@[simp] theorem State.modElec_tamper (f : Elec → Elec) (s : State) :
    (State.modElec f s).tamper = s.tamper := rfl
@[simp] theorem State.modElec_elec (f : Elec → Elec) (s : State) :
    (State.modElec f s).elec = f s.elec := rfl
@[simp] theorem State.modElec_freeCtr (f : Elec → Elec) (s : State) :
    (State.modElec f s).freeCtr = s.freeCtr := rfl
@[simp] theorem State.modElec_pending (f : Elec → Elec) (s : State) :
    (State.modElec f s).pending = s.pending := rfl
@[simp] theorem State.modFreeCtr_eng (f : Nat → Nat) (s : State) :
    (State.modFreeCtr f s).eng = s.eng := rfl
@[simp] theorem State.modFreeCtr_gates (f : Nat → Nat) (s : State) :
    (State.modFreeCtr f s).gates = s.gates := rfl
@[simp] theorem State.modFreeCtr_clk (f : Nat → Nat) (s : State) :
    (State.modFreeCtr f s).clk = s.clk := rfl
@[simp] theorem State.modFreeCtr_life (f : Nat → Nat) (s : State) :
    (State.modFreeCtr f s).life = s.life := rfl
@[simp] theorem State.modFreeCtr_keys (f : Nat → Nat) (s : State) :
    (State.modFreeCtr f s).keys = s.keys := rfl
@[simp] theorem State.modFreeCtr_img (f : Nat → Nat) (s : State) :
    (State.modFreeCtr f s).img = s.img := rfl
@[simp] theorem State.modFreeCtr_flash (f : Nat → Nat) (s : State) :
    (State.modFreeCtr f s).flash = s.flash := rfl
@[simp] theorem State.modFreeCtr_dlv (f : Nat → Nat) (s : State) :
    (State.modFreeCtr f s).dlv = s.dlv := rfl
@[simp] theorem State.modFreeCtr_ports (f : Nat → Nat) (s : State) :
    (State.modFreeCtr f s).ports = s.ports := rfl
@[simp] theorem State.modFreeCtr_heads (f : Nat → Nat) (s : State) :
    (State.modFreeCtr f s).heads = s.heads := rfl
@[simp] theorem State.modFreeCtr_meas (f : Nat → Nat) (s : State) :
    (State.modFreeCtr f s).meas = s.meas := rfl
@[simp] theorem State.modFreeCtr_met (f : Nat → Nat) (s : State) :
    (State.modFreeCtr f s).met = s.met := rfl
@[simp] theorem State.modFreeCtr_pmet (f : Nat → Nat) (s : State) :
    (State.modFreeCtr f s).pmet = s.pmet := rfl
@[simp] theorem State.modFreeCtr_safe (f : Nat → Nat) (s : State) :
    (State.modFreeCtr f s).safe = s.safe := rfl
@[simp] theorem State.modFreeCtr_psafe (f : Nat → Nat) (s : State) :
    (State.modFreeCtr f s).psafe = s.psafe := rfl
@[simp] theorem State.modFreeCtr_cp (f : Nat → Nat) (s : State) :
    (State.modFreeCtr f s).cp = s.cp := rfl
@[simp] theorem State.modFreeCtr_plc (f : Nat → Nat) (s : State) :
    (State.modFreeCtr f s).plc = s.plc := rfl
@[simp] theorem State.modFreeCtr_pipes (f : Nat → Nat) (s : State) :
    (State.modFreeCtr f s).pipes = s.pipes := rfl
@[simp] theorem State.modFreeCtr_hpipes (f : Nat → Nat) (s : State) :
    (State.modFreeCtr f s).hpipes = s.hpipes := rfl
@[simp] theorem State.modFreeCtr_ses (f : Nat → Nat) (s : State) :
    (State.modFreeCtr f s).ses = s.ses := rfl
@[simp] theorem State.modFreeCtr_sesSys (f : Nat → Nat) (s : State) :
    (State.modFreeCtr f s).sesSys = s.sesSys := rfl
@[simp] theorem State.modFreeCtr_auth (f : Nat → Nat) (s : State) :
    (State.modFreeCtr f s).auth = s.auth := rfl
@[simp] theorem State.modFreeCtr_authSys (f : Nat → Nat) (s : State) :
    (State.modFreeCtr f s).authSys = s.authSys := rfl
@[simp] theorem State.modFreeCtr_led (f : Nat → Nat) (s : State) :
    (State.modFreeCtr f s).led = s.led := rfl
@[simp] theorem State.modFreeCtr_recs (f : Nat → Nat) (s : State) :
    (State.modFreeCtr f s).recs = s.recs := rfl
@[simp] theorem State.modFreeCtr_mbus (f : Nat → Nat) (s : State) :
    (State.modFreeCtr f s).mbus = s.mbus := rfl
@[simp] theorem State.modFreeCtr_tag (f : Nat → Nat) (s : State) :
    (State.modFreeCtr f s).tag = s.tag := rfl
@[simp] theorem State.modFreeCtr_phy (f : Nat → Nat) (s : State) :
    (State.modFreeCtr f s).phy = s.phy := rfl
@[simp] theorem State.modFreeCtr_lnk (f : Nat → Nat) (s : State) :
    (State.modFreeCtr f s).lnk = s.lnk := rfl
@[simp] theorem State.modFreeCtr_share (f : Nat → Nat) (s : State) :
    (State.modFreeCtr f s).share = s.share := rfl
@[simp] theorem State.modFreeCtr_epd (f : Nat → Nat) (s : State) :
    (State.modFreeCtr f s).epd = s.epd := rfl
@[simp] theorem State.modFreeCtr_fab (f : Nat → Nat) (s : State) :
    (State.modFreeCtr f s).fab = s.fab := rfl
@[simp] theorem State.modFreeCtr_ev (f : Nat → Nat) (s : State) :
    (State.modFreeCtr f s).ev = s.ev := rfl
@[simp] theorem State.modFreeCtr_sen (f : Nat → Nat) (s : State) :
    (State.modFreeCtr f s).sen = s.sen := rfl
@[simp] theorem State.modFreeCtr_jrn (f : Nat → Nat) (s : State) :
    (State.modFreeCtr f s).jrn = s.jrn := rfl
@[simp] theorem State.modFreeCtr_tamper (f : Nat → Nat) (s : State) :
    (State.modFreeCtr f s).tamper = s.tamper := rfl
@[simp] theorem State.modFreeCtr_elec (f : Nat → Nat) (s : State) :
    (State.modFreeCtr f s).elec = s.elec := rfl
@[simp] theorem State.modFreeCtr_freeCtr (f : Nat → Nat) (s : State) :
    (State.modFreeCtr f s).freeCtr = f s.freeCtr := rfl
@[simp] theorem State.modFreeCtr_pending (f : Nat → Nat) (s : State) :
    (State.modFreeCtr f s).pending = s.pending := rfl

end Sys2Proof.Machine
end

