-- ==== Sys2Proof/Laws/Orders.lean ====
section
/-! SUPPORT. What an order's command does, once: with the signature verified it runs its action, else it is refused with reason 6. -/

namespace Sys2Proof.Machine

theorem orderCheck_ready {types : List Nat} {o : OrderRec} {n w : Nat} {s : State} (h : orderReady types o n w s = true) :
    orderCheck o (orderOut o s) = if orderSigned o n s then (0, orderTaken o w s) else (6, orderOut o s) := by
  simp only [orderReady, Bool.and_eq_true, beq_iff_eq] at h
  obtain ⟨⟨⟨⟨⟨⟨⟨⟨⟨_, _⟩, hf⟩, ht⟩, ha⟩, he⟩, hy⟩, hs⟩, hc⟩, hr⟩ := h
  have e1 : (orderOut o s).life = s.life := rfl
  have e2 : estateId (orderOut o s) = estateId s := rfl
  have e3 : typeAccepted (orderOut o s) (oType o) = typeAccepted s (oType o) := rfl
  have e4 : signerSlot (orderOut o s) o = signerSlot s o := rfl
  have e5 : ∀ x, slotCond (orderOut o s) x n .verify = slotCond s x n .verify := fun _ => rfl
  have e6 : win (orderOut o s) w = win s w := rfl
  have e7 : keySlot (orderOut o s) n = keySlot s n := rfl
  unfold orderCheck authOrder
  simp only [hf, e1, ht, e2, he, e3, hy, ha, e4, hs, e7]
  by_cases hv : orderSigned o n s = true
  · have hv' := hv
    unfold orderSigned at hv'
    simp [hv, hv', e5, hc, e6, hr, orderTaken]
  · have hv' := hv
    unfold orderSigned at hv'
    simp only [Bool.not_eq_true] at hv hv'
    simp [hv, hv', e5, hc]

theorem ordered_ready {types : List Nat} {o : OrderRec} {n w : Nat} {s : State} (f : List W128 → State → Nat × State)
    (h : orderReady types o n w s = true) :
    ordered types o f s =
      if orderSigned o n s then
        orderDone o (f (oPayload o) (orderTaken o w s)).1 (f (oPayload o) (orderTaken o w s)).2
      else orderDone o 6 (raise 0x6120 (oSource o) 255 (6 * 2 ^ 24 + oType o * 2 ^ 16 + oAuth o * 2 ^ 8) (orderOut o s)) := by
  have hc := orderCheck_ready h
  simp only [orderReady, Bool.and_eq_true] at h
  obtain ⟨⟨⟨⟨⟨⟨⟨⟨⟨h1, h2⟩, _⟩, _⟩, _⟩, _⟩, _⟩, _⟩, _⟩, _⟩ := h
  unfold ordered
  simp only [h1, h2, Bool.not_true, Bool.or_self, Bool.false_eq_true, ite_false]
  unfold orderOut at hc
  by_cases hv : orderSigned o n s = true
  · rw [if_pos hv] at hc
    simp only [hc, hv, ite_true]
  · rw [if_neg hv] at hc
    simp only [hc, hv]
    rfl

end Sys2Proof.Machine
end

