-- ==== Sys2Proof/Laws/Upd.lean ====
section
/-! SUPPORT. What an operation may change: `Upd P s t` says that t agrees with s on every part of the state outside P, that the queue stands, and that
what the manual lets only grow has not gone back. One lemma per operation follows in the files beside this one. -/

namespace Sys2Proof.Machine

/-- Every part of A is one of B. -/
def subParts (A B : List Part) : Bool := A.all B.contains

theorem Later.refl (s : State) : Later s s :=
  ⟨rfl, rfl, fun _ h => h, Nat.le_refl _, Nat.le_refl _, Nat.le_refl _, fun h => h, fun h => h⟩

theorem Later.trans {s t u : State} (a : Later s t) (b : Later t u) : Later s u :=
  ⟨b.serial.trans a.serial, b.fuse.trans a.fuse, fun i h => b.cells i (a.cells i h), Nat.le_trans a.eseq b.eseq, Nat.le_trans a.recNo b.recNo,
    Nat.le_trans a.jseq b.jseq, fun h => b.tagMem (a.tagMem h), fun h => b.flashMem (a.flashMem h)⟩

theorem Upd.refl (P : List Part) (s : State) : Upd P s s where
  later := Later.refl s
  pending := rfl
  eng := fun _ => rfl
  gates := fun _ => rfl
  clk := fun _ => rfl
  life := fun _ => rfl
  keys := fun _ => rfl
  img := fun _ => rfl
  flash := fun _ => rfl
  dlv := fun _ => rfl
  ports := fun _ => rfl
  heads := fun _ => rfl
  meas := fun _ => rfl
  met := fun _ => rfl
  pmet := fun _ => rfl
  safe := fun _ => rfl
  psafe := fun _ => rfl
  cp := fun _ => rfl
  plc := fun _ => rfl
  pipes := fun _ => rfl
  hpipes := fun _ => rfl
  ses := fun _ => rfl
  sesSys := fun _ => rfl
  auth := fun _ => rfl
  authSys := fun _ => rfl
  led := fun _ => rfl
  recs := fun _ => rfl
  mbus := fun _ => rfl
  tag := fun _ => rfl
  phy := fun _ => rfl
  lnk := fun _ => rfl
  share := fun _ => rfl
  epd := fun _ => rfl
  fab := fun _ => rfl
  ev := fun _ => rfl
  sen := fun _ => rfl
  jrn := fun _ => rfl
  tamper := fun _ => rfl
  elec := fun _ => rfl
  freeCtr := fun _ => rfl

theorem subParts_not {A B : List Part} {p : Part} (h : subParts A B = true) (n : B.contains p = false) : A.contains p = false := by
  cases hc : A.contains p with
  | false => rfl
  | true =>
    have hm : p ∈ A := by simpa using hc
    have := (List.all_eq_true.mp h) p hm
    simp_all

/-- An operation that may change the parts A follows one that may change P. -/
theorem Upd.comp {A P : List Part} {s t u : State} (g : Upd A t u) (hs : subParts A P = true) (h : Upd P s t) : Upd P s u where
  later := h.later.trans g.later
  pending := g.pending.trans h.pending
  eng := fun n => (g.eng (subParts_not hs n)).trans (h.eng n)
  gates := fun n => (g.gates (subParts_not hs n)).trans (h.gates n)
  clk := fun n => (g.clk (subParts_not hs n)).trans (h.clk n)
  life := fun n => (g.life (subParts_not hs n)).trans (h.life n)
  keys := fun n => (g.keys (subParts_not hs n)).trans (h.keys n)
  img := fun n => (g.img (subParts_not hs n)).trans (h.img n)
  flash := fun n => (g.flash (subParts_not hs n)).trans (h.flash n)
  dlv := fun n => (g.dlv (subParts_not hs n)).trans (h.dlv n)
  ports := fun n => (g.ports (subParts_not hs n)).trans (h.ports n)
  heads := fun n => (g.heads (subParts_not hs n)).trans (h.heads n)
  meas := fun n => (g.meas (subParts_not hs n)).trans (h.meas n)
  met := fun n => (g.met (subParts_not hs n)).trans (h.met n)
  pmet := fun n => (g.pmet (subParts_not hs n)).trans (h.pmet n)
  safe := fun n => (g.safe (subParts_not hs n)).trans (h.safe n)
  psafe := fun n => (g.psafe (subParts_not hs n)).trans (h.psafe n)
  cp := fun n => (g.cp (subParts_not hs n)).trans (h.cp n)
  plc := fun n => (g.plc (subParts_not hs n)).trans (h.plc n)
  pipes := fun n => (g.pipes (subParts_not hs n)).trans (h.pipes n)
  hpipes := fun n => (g.hpipes (subParts_not hs n)).trans (h.hpipes n)
  ses := fun n => (g.ses (subParts_not hs n)).trans (h.ses n)
  sesSys := fun n => (g.sesSys (subParts_not hs n)).trans (h.sesSys n)
  auth := fun n => (g.auth (subParts_not hs n)).trans (h.auth n)
  authSys := fun n => (g.authSys (subParts_not hs n)).trans (h.authSys n)
  led := fun n => (g.led (subParts_not hs n)).trans (h.led n)
  recs := fun n => (g.recs (subParts_not hs n)).trans (h.recs n)
  mbus := fun n => (g.mbus (subParts_not hs n)).trans (h.mbus n)
  tag := fun n => (g.tag (subParts_not hs n)).trans (h.tag n)
  phy := fun n => (g.phy (subParts_not hs n)).trans (h.phy n)
  lnk := fun n => (g.lnk (subParts_not hs n)).trans (h.lnk n)
  share := fun n => (g.share (subParts_not hs n)).trans (h.share n)
  epd := fun n => (g.epd (subParts_not hs n)).trans (h.epd n)
  fab := fun n => (g.fab (subParts_not hs n)).trans (h.fab n)
  ev := fun n => (g.ev (subParts_not hs n)).trans (h.ev n)
  sen := fun n => (g.sen (subParts_not hs n)).trans (h.sen n)
  jrn := fun n => (g.jrn (subParts_not hs n)).trans (h.jrn n)
  tamper := fun n => (g.tamper (subParts_not hs n)).trans (h.tamper n)
  elec := fun n => (g.elec (subParts_not hs n)).trans (h.elec n)
  freeCtr := fun n => (g.freeCtr (subParts_not hs n)).trans (h.freeCtr n)

theorem subParts_trans {A B C : List Part} (h : subParts A B = true) (k : subParts B C = true) : subParts A C = true := by
  simp only [subParts, List.all_eq_true] at *
  intro p hp
  have := h p hp
  exact k p (by simpa using this)

theorem Upd.comp2 {A B P : List Part} {s t u : State} (g : Upd A t u) (h1 : subParts A B = true) (h2 : subParts B P = true) (h : Upd P s t) :
    Upd P s u := Upd.comp g (subParts_trans h1 h2) h

theorem Upd.mono {A P : List Part} {s t : State} (h : Upd A s t) (hs : subParts A P = true) : Upd P s t :=
  Upd.comp h hs (Upd.refl P s)

theorem Upd.eqR {α : Type} {P : List Part} {s t : State} {x : α × State} {a : α} (h : Upd P s x.2) (e : x = (a, t)) : Upd P s t := by
  rw [e] at h
  exact h
theorem Upd.eqL {α : Type} {P : List Part} {s t : State} {x : State × α} {a : α} (h : Upd P s x.1) (e : x = (t, a)) : Upd P s t := by
  rw [e] at h
  exact h
theorem Upd.cut {P : List Part} {s : State} {x : State} {p : Prop} (h : Upd P s x) (k : Upd P s x → p) : p := k h
theorem Upd.cutL {α : Type} {P : List Part} {s : State} {x : State × α} {p : Prop} (h : Upd P s x.1) (k : Upd P s x.1 → p) : p := k h
theorem Upd.cutR {α : Type} {P : List Part} {s : State} {x : α × State} {p : Prop} (h : Upd P s x.2) (k : Upd P s x.2 → p) : p := k h
theorem Upd.cutRRR {α β γ : Type} {P : List Part} {s : State} {x : α × β × γ × State} {p : Prop} (h : Upd P s x.2.2.2) (k : Upd P s x.2.2.2 → p) : p := k h
theorem Upd.cutF {α : Type} {P : List Part} {s : State} {f : α → State → State} {p : Prop}
    (h : ∀ a t, Upd P s t → Upd P s (f a t)) (k : (∀ a t, Upd P s t → Upd P s (f a t)) → p) : p := k h
theorem Upd.cutG {P : List Part} {s : State} {f : State → State} {p : Prop}
    (h : ∀ t, Upd P s t → Upd P s (f t)) (k : (∀ t, Upd P s t → Upd P s (f t)) → p) : p := k h

theorem Upd.foldl {α : Type} {P : List Part} {s : State} {F : State → α → State} {l : List α} {t : State}
    (hF : ∀ u a, Upd P s u → Upd P s (F u a)) (h : Upd P s t) : Upd P s (l.foldl F t) := by
  induction l generalizing t with
  | nil => exact h
  | cons a l ih => exact ih (hF t a h)

theorem Upd.foldlL {α β : Type} {P : List Part} {s : State} {F : State × β → α → State × β} {l : List α} {t : State × β}
    (hF : ∀ u a, Upd P s u.1 → Upd P s (F u a).1) (h : Upd P s t.1) : Upd P s (l.foldl F t).1 := by
  induction l generalizing t with
  | nil => exact h
  | cons a l ih => exact ih (hF t a h)

theorem Upd.ite {P : List Part} {s a b : State} {c : Prop} [Decidable c] (ha : Upd P s a) (hb : Upd P s b) :
    Upd P s (if c then a else b) := by
  split
  · exact ha
  · exact hb

theorem Upd.iteL {α : Type} {P : List Part} {s : State} {a b : State × α} {c : Prop} [Decidable c] (ha : Upd P s a.1) (hb : Upd P s b.1) :
    Upd P s (if c then a else b).1 := by
  split
  · exact ha
  · exact hb

theorem Upd.iteR {α : Type} {P : List Part} {s : State} {a b : α × State} {c : Prop} [Decidable c] (ha : Upd P s a.2) (hb : Upd P s b.2) :
    Upd P s (if c then a else b).2 := by
  split
  · exact ha
  · exact hb

theorem Upd.iteRRR {α β γ : Type} {P : List Part} {s : State} {a b : α × β × γ × State} {c : Prop} [Decidable c] (ha : Upd P s a.2.2.2)
    (hb : Upd P s b.2.2.2) : Upd P s (if c then a else b).2.2.2 := by
  split
  · exact ha
  · exact hb

theorem Upd.foldlR {α β : Type} {P : List Part} {s : State} {F : β × State → α → β × State} {l : List α} {t : β × State}
    (hF : ∀ u a, Upd P s u.2 → Upd P s (F u a).2) (h : Upd P s t.2) : Upd P s (l.foldl F t).2 := by
  induction l generalizing t with
  | nil => exact h
  | cons a l ih => exact ih (hF t a h)

theorem kset_any {α : Type} (i j : Nat) (v : α) (l : List (Nat × α)) (h : l.any (·.1 == j) = true) : (kset i v l).any (·.1 == j) = true := by
  induction l with
  | nil => simp at h
  | cons e es ih =>
    simp only [kset]
    split
    · simp only [List.any_cons, Bool.or_eq_true] at h ⊢; exact Or.inr h
    · split
      · rename_i _ he
        simp only [List.any_cons, Bool.or_eq_true] at h ⊢
        rw [he]; exact h
      · simp only [List.any_cons, Bool.or_eq_true] at h ⊢
        cases h with
        | inl h => exact Or.inl h
        | inr h => exact Or.inr (ih h)

/-! One lemma per part: changing it. Parts that hold what only grows ask that the change keeps it. -/

theorem upd_modEng (f : Eng → Eng) (s : State) : Upd [.eng] s (State.modEng f s) where
  later := ⟨rfl, rfl, fun _ h => h, Nat.le_refl _, Nat.le_refl _, Nat.le_refl _, fun h => h, fun h => h⟩
  pending := rfl
  eng := fun n => absurd n (by decide)
  gates := fun _ => rfl
  clk := fun _ => rfl
  life := fun _ => rfl
  keys := fun _ => rfl
  img := fun _ => rfl
  flash := fun _ => rfl
  dlv := fun _ => rfl
  ports := fun _ => rfl
  heads := fun _ => rfl
  meas := fun _ => rfl
  met := fun _ => rfl
  pmet := fun _ => rfl
  safe := fun _ => rfl
  psafe := fun _ => rfl
  cp := fun _ => rfl
  plc := fun _ => rfl
  pipes := fun _ => rfl
  hpipes := fun _ => rfl
  ses := fun _ => rfl
  sesSys := fun _ => rfl
  auth := fun _ => rfl
  authSys := fun _ => rfl
  led := fun _ => rfl
  recs := fun _ => rfl
  mbus := fun _ => rfl
  tag := fun _ => rfl
  phy := fun _ => rfl
  lnk := fun _ => rfl
  share := fun _ => rfl
  epd := fun _ => rfl
  fab := fun _ => rfl
  ev := fun _ => rfl
  sen := fun _ => rfl
  jrn := fun _ => rfl
  tamper := fun _ => rfl
  elec := fun _ => rfl
  freeCtr := fun _ => rfl

theorem upd_modGates (f : Gates → Gates) (s : State) : Upd [.gates] s (State.modGates f s) where
  later := ⟨rfl, rfl, fun _ h => h, Nat.le_refl _, Nat.le_refl _, Nat.le_refl _, fun h => h, fun h => h⟩
  pending := rfl
  eng := fun _ => rfl
  gates := fun n => absurd n (by decide)
  clk := fun _ => rfl
  life := fun _ => rfl
  keys := fun _ => rfl
  img := fun _ => rfl
  flash := fun _ => rfl
  dlv := fun _ => rfl
  ports := fun _ => rfl
  heads := fun _ => rfl
  meas := fun _ => rfl
  met := fun _ => rfl
  pmet := fun _ => rfl
  safe := fun _ => rfl
  psafe := fun _ => rfl
  cp := fun _ => rfl
  plc := fun _ => rfl
  pipes := fun _ => rfl
  hpipes := fun _ => rfl
  ses := fun _ => rfl
  sesSys := fun _ => rfl
  auth := fun _ => rfl
  authSys := fun _ => rfl
  led := fun _ => rfl
  recs := fun _ => rfl
  mbus := fun _ => rfl
  tag := fun _ => rfl
  phy := fun _ => rfl
  lnk := fun _ => rfl
  share := fun _ => rfl
  epd := fun _ => rfl
  fab := fun _ => rfl
  ev := fun _ => rfl
  sen := fun _ => rfl
  jrn := fun _ => rfl
  tamper := fun _ => rfl
  elec := fun _ => rfl
  freeCtr := fun _ => rfl

theorem upd_modClk (f : Clk → Clk) (s : State) : Upd [.clk] s (State.modClk f s) where
  later := ⟨rfl, rfl, fun _ h => h, Nat.le_refl _, Nat.le_refl _, Nat.le_refl _, fun h => h, fun h => h⟩
  pending := rfl
  eng := fun _ => rfl
  gates := fun _ => rfl
  clk := fun n => absurd n (by decide)
  life := fun _ => rfl
  keys := fun _ => rfl
  img := fun _ => rfl
  flash := fun _ => rfl
  dlv := fun _ => rfl
  ports := fun _ => rfl
  heads := fun _ => rfl
  meas := fun _ => rfl
  met := fun _ => rfl
  pmet := fun _ => rfl
  safe := fun _ => rfl
  psafe := fun _ => rfl
  cp := fun _ => rfl
  plc := fun _ => rfl
  pipes := fun _ => rfl
  hpipes := fun _ => rfl
  ses := fun _ => rfl
  sesSys := fun _ => rfl
  auth := fun _ => rfl
  authSys := fun _ => rfl
  led := fun _ => rfl
  recs := fun _ => rfl
  mbus := fun _ => rfl
  tag := fun _ => rfl
  phy := fun _ => rfl
  lnk := fun _ => rfl
  share := fun _ => rfl
  epd := fun _ => rfl
  fab := fun _ => rfl
  ev := fun _ => rfl
  sen := fun _ => rfl
  jrn := fun _ => rfl
  tamper := fun _ => rfl
  elec := fun _ => rfl
  freeCtr := fun _ => rfl

theorem upd_modLife (f : Life → Life) (s : State) (k : ∀ x, (f x).serial = x.serial ∧ (f x).testFuseIntact = x.testFuseIntact ∧ (f x).cells = x.cells) : Upd [.life] s (State.modLife f s) where
  later := ⟨(k s.life).1, (k s.life).2.1, fun i h => by simp only [burnt, State.modLife_life, (k s.life).2.2] at h ⊢; exact h, Nat.le_refl _, Nat.le_refl _, Nat.le_refl _, fun h => h, fun h => h⟩
  pending := rfl
  eng := fun _ => rfl
  gates := fun _ => rfl
  clk := fun _ => rfl
  life := fun n => absurd n (by decide)
  keys := fun _ => rfl
  img := fun _ => rfl
  flash := fun _ => rfl
  dlv := fun _ => rfl
  ports := fun _ => rfl
  heads := fun _ => rfl
  meas := fun _ => rfl
  met := fun _ => rfl
  pmet := fun _ => rfl
  safe := fun _ => rfl
  psafe := fun _ => rfl
  cp := fun _ => rfl
  plc := fun _ => rfl
  pipes := fun _ => rfl
  hpipes := fun _ => rfl
  ses := fun _ => rfl
  sesSys := fun _ => rfl
  auth := fun _ => rfl
  authSys := fun _ => rfl
  led := fun _ => rfl
  recs := fun _ => rfl
  mbus := fun _ => rfl
  tag := fun _ => rfl
  phy := fun _ => rfl
  lnk := fun _ => rfl
  share := fun _ => rfl
  epd := fun _ => rfl
  fab := fun _ => rfl
  ev := fun _ => rfl
  sen := fun _ => rfl
  jrn := fun _ => rfl
  tamper := fun _ => rfl
  elec := fun _ => rfl
  freeCtr := fun _ => rfl

theorem upd_modKeys (f : Keys → Keys) (s : State) : Upd [.keys] s (State.modKeys f s) where
  later := ⟨rfl, rfl, fun _ h => h, Nat.le_refl _, Nat.le_refl _, Nat.le_refl _, fun h => h, fun h => h⟩
  pending := rfl
  eng := fun _ => rfl
  gates := fun _ => rfl
  clk := fun _ => rfl
  life := fun _ => rfl
  keys := fun n => absurd n (by decide)
  img := fun _ => rfl
  flash := fun _ => rfl
  dlv := fun _ => rfl
  ports := fun _ => rfl
  heads := fun _ => rfl
  meas := fun _ => rfl
  met := fun _ => rfl
  pmet := fun _ => rfl
  safe := fun _ => rfl
  psafe := fun _ => rfl
  cp := fun _ => rfl
  plc := fun _ => rfl
  pipes := fun _ => rfl
  hpipes := fun _ => rfl
  ses := fun _ => rfl
  sesSys := fun _ => rfl
  auth := fun _ => rfl
  authSys := fun _ => rfl
  led := fun _ => rfl
  recs := fun _ => rfl
  mbus := fun _ => rfl
  tag := fun _ => rfl
  phy := fun _ => rfl
  lnk := fun _ => rfl
  share := fun _ => rfl
  epd := fun _ => rfl
  fab := fun _ => rfl
  ev := fun _ => rfl
  sen := fun _ => rfl
  jrn := fun _ => rfl
  tamper := fun _ => rfl
  elec := fun _ => rfl
  freeCtr := fun _ => rfl

theorem upd_modImg (f : Img → Img) (s : State) : Upd [.img] s (State.modImg f s) where
  later := ⟨rfl, rfl, fun _ h => h, Nat.le_refl _, Nat.le_refl _, Nat.le_refl _, fun h => h, fun h => h⟩
  pending := rfl
  eng := fun _ => rfl
  gates := fun _ => rfl
  clk := fun _ => rfl
  life := fun _ => rfl
  keys := fun _ => rfl
  img := fun n => absurd n (by decide)
  flash := fun _ => rfl
  dlv := fun _ => rfl
  ports := fun _ => rfl
  heads := fun _ => rfl
  meas := fun _ => rfl
  met := fun _ => rfl
  pmet := fun _ => rfl
  safe := fun _ => rfl
  psafe := fun _ => rfl
  cp := fun _ => rfl
  plc := fun _ => rfl
  pipes := fun _ => rfl
  hpipes := fun _ => rfl
  ses := fun _ => rfl
  sesSys := fun _ => rfl
  auth := fun _ => rfl
  authSys := fun _ => rfl
  led := fun _ => rfl
  recs := fun _ => rfl
  mbus := fun _ => rfl
  tag := fun _ => rfl
  phy := fun _ => rfl
  lnk := fun _ => rfl
  share := fun _ => rfl
  epd := fun _ => rfl
  fab := fun _ => rfl
  ev := fun _ => rfl
  sen := fun _ => rfl
  jrn := fun _ => rfl
  tamper := fun _ => rfl
  elec := fun _ => rfl
  freeCtr := fun _ => rfl

theorem upd_modFlash (f : Flash → Flash) (s : State) (k : ∀ x, memWf 0xFF#8 x.mem = true → memWf 0xFF#8 (f x).mem = true) : Upd [.flash] s (State.modFlash f s) where
  later := ⟨rfl, rfl, fun _ h => h, Nat.le_refl _, Nat.le_refl _, Nat.le_refl _, fun h => h, k s.flash⟩
  pending := rfl
  eng := fun _ => rfl
  gates := fun _ => rfl
  clk := fun _ => rfl
  life := fun _ => rfl
  keys := fun _ => rfl
  img := fun _ => rfl
  flash := fun n => absurd n (by decide)
  dlv := fun _ => rfl
  ports := fun _ => rfl
  heads := fun _ => rfl
  meas := fun _ => rfl
  met := fun _ => rfl
  pmet := fun _ => rfl
  safe := fun _ => rfl
  psafe := fun _ => rfl
  cp := fun _ => rfl
  plc := fun _ => rfl
  pipes := fun _ => rfl
  hpipes := fun _ => rfl
  ses := fun _ => rfl
  sesSys := fun _ => rfl
  auth := fun _ => rfl
  authSys := fun _ => rfl
  led := fun _ => rfl
  recs := fun _ => rfl
  mbus := fun _ => rfl
  tag := fun _ => rfl
  phy := fun _ => rfl
  lnk := fun _ => rfl
  share := fun _ => rfl
  epd := fun _ => rfl
  fab := fun _ => rfl
  ev := fun _ => rfl
  sen := fun _ => rfl
  jrn := fun _ => rfl
  tamper := fun _ => rfl
  elec := fun _ => rfl
  freeCtr := fun _ => rfl

theorem upd_modDlv (f : Dlv → Dlv) (s : State) : Upd [.dlv] s (State.modDlv f s) where
  later := ⟨rfl, rfl, fun _ h => h, Nat.le_refl _, Nat.le_refl _, Nat.le_refl _, fun h => h, fun h => h⟩
  pending := rfl
  eng := fun _ => rfl
  gates := fun _ => rfl
  clk := fun _ => rfl
  life := fun _ => rfl
  keys := fun _ => rfl
  img := fun _ => rfl
  flash := fun _ => rfl
  dlv := fun n => absurd n (by decide)
  ports := fun _ => rfl
  heads := fun _ => rfl
  meas := fun _ => rfl
  met := fun _ => rfl
  pmet := fun _ => rfl
  safe := fun _ => rfl
  psafe := fun _ => rfl
  cp := fun _ => rfl
  plc := fun _ => rfl
  pipes := fun _ => rfl
  hpipes := fun _ => rfl
  ses := fun _ => rfl
  sesSys := fun _ => rfl
  auth := fun _ => rfl
  authSys := fun _ => rfl
  led := fun _ => rfl
  recs := fun _ => rfl
  mbus := fun _ => rfl
  tag := fun _ => rfl
  phy := fun _ => rfl
  lnk := fun _ => rfl
  share := fun _ => rfl
  epd := fun _ => rfl
  fab := fun _ => rfl
  ev := fun _ => rfl
  sen := fun _ => rfl
  jrn := fun _ => rfl
  tamper := fun _ => rfl
  elec := fun _ => rfl
  freeCtr := fun _ => rfl

theorem upd_modPort (i : Fin 8) (f : Port → Port) (s : State) : Upd [.ports] s (State.modPort i f s) where
  later := ⟨rfl, rfl, fun _ h => h, Nat.le_refl _, Nat.le_refl _, Nat.le_refl _, fun h => h, fun h => h⟩
  pending := rfl
  eng := fun _ => rfl
  gates := fun _ => rfl
  clk := fun _ => rfl
  life := fun _ => rfl
  keys := fun _ => rfl
  img := fun _ => rfl
  flash := fun _ => rfl
  dlv := fun _ => rfl
  ports := fun n => absurd n (by decide)
  heads := fun _ => rfl
  meas := fun _ => rfl
  met := fun _ => rfl
  pmet := fun _ => rfl
  safe := fun _ => rfl
  psafe := fun _ => rfl
  cp := fun _ => rfl
  plc := fun _ => rfl
  pipes := fun _ => rfl
  hpipes := fun _ => rfl
  ses := fun _ => rfl
  sesSys := fun _ => rfl
  auth := fun _ => rfl
  authSys := fun _ => rfl
  led := fun _ => rfl
  recs := fun _ => rfl
  mbus := fun _ => rfl
  tag := fun _ => rfl
  phy := fun _ => rfl
  lnk := fun _ => rfl
  share := fun _ => rfl
  epd := fun _ => rfl
  fab := fun _ => rfl
  ev := fun _ => rfl
  sen := fun _ => rfl
  jrn := fun _ => rfl
  tamper := fun _ => rfl
  elec := fun _ => rfl
  freeCtr := fun _ => rfl

theorem upd_modHead (i : Fin 8) (f : Head → Head) (s : State) : Upd [.heads] s (State.modHead i f s) where
  later := ⟨rfl, rfl, fun _ h => h, Nat.le_refl _, Nat.le_refl _, Nat.le_refl _, fun h => h, fun h => h⟩
  pending := rfl
  eng := fun _ => rfl
  gates := fun _ => rfl
  clk := fun _ => rfl
  life := fun _ => rfl
  keys := fun _ => rfl
  img := fun _ => rfl
  flash := fun _ => rfl
  dlv := fun _ => rfl
  ports := fun _ => rfl
  heads := fun n => absurd n (by decide)
  meas := fun _ => rfl
  met := fun _ => rfl
  pmet := fun _ => rfl
  safe := fun _ => rfl
  psafe := fun _ => rfl
  cp := fun _ => rfl
  plc := fun _ => rfl
  pipes := fun _ => rfl
  hpipes := fun _ => rfl
  ses := fun _ => rfl
  sesSys := fun _ => rfl
  auth := fun _ => rfl
  authSys := fun _ => rfl
  led := fun _ => rfl
  recs := fun _ => rfl
  mbus := fun _ => rfl
  tag := fun _ => rfl
  phy := fun _ => rfl
  lnk := fun _ => rfl
  share := fun _ => rfl
  epd := fun _ => rfl
  fab := fun _ => rfl
  ev := fun _ => rfl
  sen := fun _ => rfl
  jrn := fun _ => rfl
  tamper := fun _ => rfl
  elec := fun _ => rfl
  freeCtr := fun _ => rfl

theorem upd_modMeas (i : Fin 8) (f : HeadMeas → HeadMeas) (s : State) : Upd [.meas] s (State.modMeas i f s) where
  later := ⟨rfl, rfl, fun _ h => h, Nat.le_refl _, Nat.le_refl _, Nat.le_refl _, fun h => h, fun h => h⟩
  pending := rfl
  eng := fun _ => rfl
  gates := fun _ => rfl
  clk := fun _ => rfl
  life := fun _ => rfl
  keys := fun _ => rfl
  img := fun _ => rfl
  flash := fun _ => rfl
  dlv := fun _ => rfl
  ports := fun _ => rfl
  heads := fun _ => rfl
  meas := fun n => absurd n (by decide)
  met := fun _ => rfl
  pmet := fun _ => rfl
  safe := fun _ => rfl
  psafe := fun _ => rfl
  cp := fun _ => rfl
  plc := fun _ => rfl
  pipes := fun _ => rfl
  hpipes := fun _ => rfl
  ses := fun _ => rfl
  sesSys := fun _ => rfl
  auth := fun _ => rfl
  authSys := fun _ => rfl
  led := fun _ => rfl
  recs := fun _ => rfl
  mbus := fun _ => rfl
  tag := fun _ => rfl
  phy := fun _ => rfl
  lnk := fun _ => rfl
  share := fun _ => rfl
  epd := fun _ => rfl
  fab := fun _ => rfl
  ev := fun _ => rfl
  sen := fun _ => rfl
  jrn := fun _ => rfl
  tamper := fun _ => rfl
  elec := fun _ => rfl
  freeCtr := fun _ => rfl

theorem upd_modMet (f : Met → Met) (s : State) : Upd [.met] s (State.modMet f s) where
  later := ⟨rfl, rfl, fun _ h => h, Nat.le_refl _, Nat.le_refl _, Nat.le_refl _, fun h => h, fun h => h⟩
  pending := rfl
  eng := fun _ => rfl
  gates := fun _ => rfl
  clk := fun _ => rfl
  life := fun _ => rfl
  keys := fun _ => rfl
  img := fun _ => rfl
  flash := fun _ => rfl
  dlv := fun _ => rfl
  ports := fun _ => rfl
  heads := fun _ => rfl
  meas := fun _ => rfl
  met := fun n => absurd n (by decide)
  pmet := fun _ => rfl
  safe := fun _ => rfl
  psafe := fun _ => rfl
  cp := fun _ => rfl
  plc := fun _ => rfl
  pipes := fun _ => rfl
  hpipes := fun _ => rfl
  ses := fun _ => rfl
  sesSys := fun _ => rfl
  auth := fun _ => rfl
  authSys := fun _ => rfl
  led := fun _ => rfl
  recs := fun _ => rfl
  mbus := fun _ => rfl
  tag := fun _ => rfl
  phy := fun _ => rfl
  lnk := fun _ => rfl
  share := fun _ => rfl
  epd := fun _ => rfl
  fab := fun _ => rfl
  ev := fun _ => rfl
  sen := fun _ => rfl
  jrn := fun _ => rfl
  tamper := fun _ => rfl
  elec := fun _ => rfl
  freeCtr := fun _ => rfl

theorem upd_modPmet (i : Fin 32) (f : PtMet → PtMet) (s : State) : Upd [.pmet] s (State.modPmet i f s) where
  later := ⟨rfl, rfl, fun _ h => h, Nat.le_refl _, Nat.le_refl _, Nat.le_refl _, fun h => h, fun h => h⟩
  pending := rfl
  eng := fun _ => rfl
  gates := fun _ => rfl
  clk := fun _ => rfl
  life := fun _ => rfl
  keys := fun _ => rfl
  img := fun _ => rfl
  flash := fun _ => rfl
  dlv := fun _ => rfl
  ports := fun _ => rfl
  heads := fun _ => rfl
  meas := fun _ => rfl
  met := fun _ => rfl
  pmet := fun n => absurd n (by decide)
  safe := fun _ => rfl
  psafe := fun _ => rfl
  cp := fun _ => rfl
  plc := fun _ => rfl
  pipes := fun _ => rfl
  hpipes := fun _ => rfl
  ses := fun _ => rfl
  sesSys := fun _ => rfl
  auth := fun _ => rfl
  authSys := fun _ => rfl
  led := fun _ => rfl
  recs := fun _ => rfl
  mbus := fun _ => rfl
  tag := fun _ => rfl
  phy := fun _ => rfl
  lnk := fun _ => rfl
  share := fun _ => rfl
  epd := fun _ => rfl
  fab := fun _ => rfl
  ev := fun _ => rfl
  sen := fun _ => rfl
  jrn := fun _ => rfl
  tamper := fun _ => rfl
  elec := fun _ => rfl
  freeCtr := fun _ => rfl

theorem upd_modSafe (f : Safe → Safe) (s : State) : Upd [.safe] s (State.modSafe f s) where
  later := ⟨rfl, rfl, fun _ h => h, Nat.le_refl _, Nat.le_refl _, Nat.le_refl _, fun h => h, fun h => h⟩
  pending := rfl
  eng := fun _ => rfl
  gates := fun _ => rfl
  clk := fun _ => rfl
  life := fun _ => rfl
  keys := fun _ => rfl
  img := fun _ => rfl
  flash := fun _ => rfl
  dlv := fun _ => rfl
  ports := fun _ => rfl
  heads := fun _ => rfl
  meas := fun _ => rfl
  met := fun _ => rfl
  pmet := fun _ => rfl
  safe := fun n => absurd n (by decide)
  psafe := fun _ => rfl
  cp := fun _ => rfl
  plc := fun _ => rfl
  pipes := fun _ => rfl
  hpipes := fun _ => rfl
  ses := fun _ => rfl
  sesSys := fun _ => rfl
  auth := fun _ => rfl
  authSys := fun _ => rfl
  led := fun _ => rfl
  recs := fun _ => rfl
  mbus := fun _ => rfl
  tag := fun _ => rfl
  phy := fun _ => rfl
  lnk := fun _ => rfl
  share := fun _ => rfl
  epd := fun _ => rfl
  fab := fun _ => rfl
  ev := fun _ => rfl
  sen := fun _ => rfl
  jrn := fun _ => rfl
  tamper := fun _ => rfl
  elec := fun _ => rfl
  freeCtr := fun _ => rfl

theorem upd_modPsafe (i : Fin 32) (f : PtSafe → PtSafe) (s : State) : Upd [.psafe] s (State.modPsafe i f s) where
  later := ⟨rfl, rfl, fun _ h => h, Nat.le_refl _, Nat.le_refl _, Nat.le_refl _, fun h => h, fun h => h⟩
  pending := rfl
  eng := fun _ => rfl
  gates := fun _ => rfl
  clk := fun _ => rfl
  life := fun _ => rfl
  keys := fun _ => rfl
  img := fun _ => rfl
  flash := fun _ => rfl
  dlv := fun _ => rfl
  ports := fun _ => rfl
  heads := fun _ => rfl
  meas := fun _ => rfl
  met := fun _ => rfl
  pmet := fun _ => rfl
  safe := fun _ => rfl
  psafe := fun n => absurd n (by decide)
  cp := fun _ => rfl
  plc := fun _ => rfl
  pipes := fun _ => rfl
  hpipes := fun _ => rfl
  ses := fun _ => rfl
  sesSys := fun _ => rfl
  auth := fun _ => rfl
  authSys := fun _ => rfl
  led := fun _ => rfl
  recs := fun _ => rfl
  mbus := fun _ => rfl
  tag := fun _ => rfl
  phy := fun _ => rfl
  lnk := fun _ => rfl
  share := fun _ => rfl
  epd := fun _ => rfl
  fab := fun _ => rfl
  ev := fun _ => rfl
  sen := fun _ => rfl
  jrn := fun _ => rfl
  tamper := fun _ => rfl
  elec := fun _ => rfl
  freeCtr := fun _ => rfl

theorem upd_modCp (i : Fin 32) (f : PtCp → PtCp) (s : State) : Upd [.cp] s (State.modCp i f s) where
  later := ⟨rfl, rfl, fun _ h => h, Nat.le_refl _, Nat.le_refl _, Nat.le_refl _, fun h => h, fun h => h⟩
  pending := rfl
  eng := fun _ => rfl
  gates := fun _ => rfl
  clk := fun _ => rfl
  life := fun _ => rfl
  keys := fun _ => rfl
  img := fun _ => rfl
  flash := fun _ => rfl
  dlv := fun _ => rfl
  ports := fun _ => rfl
  heads := fun _ => rfl
  meas := fun _ => rfl
  met := fun _ => rfl
  pmet := fun _ => rfl
  safe := fun _ => rfl
  psafe := fun _ => rfl
  cp := fun n => absurd n (by decide)
  plc := fun _ => rfl
  pipes := fun _ => rfl
  hpipes := fun _ => rfl
  ses := fun _ => rfl
  sesSys := fun _ => rfl
  auth := fun _ => rfl
  authSys := fun _ => rfl
  led := fun _ => rfl
  recs := fun _ => rfl
  mbus := fun _ => rfl
  tag := fun _ => rfl
  phy := fun _ => rfl
  lnk := fun _ => rfl
  share := fun _ => rfl
  epd := fun _ => rfl
  fab := fun _ => rfl
  ev := fun _ => rfl
  sen := fun _ => rfl
  jrn := fun _ => rfl
  tamper := fun _ => rfl
  elec := fun _ => rfl
  freeCtr := fun _ => rfl

theorem upd_modPlc (i : Fin 32) (f : PtPlc → PtPlc) (s : State) : Upd [.plc] s (State.modPlc i f s) where
  later := ⟨rfl, rfl, fun _ h => h, Nat.le_refl _, Nat.le_refl _, Nat.le_refl _, fun h => h, fun h => h⟩
  pending := rfl
  eng := fun _ => rfl
  gates := fun _ => rfl
  clk := fun _ => rfl
  life := fun _ => rfl
  keys := fun _ => rfl
  img := fun _ => rfl
  flash := fun _ => rfl
  dlv := fun _ => rfl
  ports := fun _ => rfl
  heads := fun _ => rfl
  meas := fun _ => rfl
  met := fun _ => rfl
  pmet := fun _ => rfl
  safe := fun _ => rfl
  psafe := fun _ => rfl
  cp := fun _ => rfl
  plc := fun n => absurd n (by decide)
  pipes := fun _ => rfl
  hpipes := fun _ => rfl
  ses := fun _ => rfl
  sesSys := fun _ => rfl
  auth := fun _ => rfl
  authSys := fun _ => rfl
  led := fun _ => rfl
  recs := fun _ => rfl
  mbus := fun _ => rfl
  tag := fun _ => rfl
  phy := fun _ => rfl
  lnk := fun _ => rfl
  share := fun _ => rfl
  epd := fun _ => rfl
  fab := fun _ => rfl
  ev := fun _ => rfl
  sen := fun _ => rfl
  jrn := fun _ => rfl
  tamper := fun _ => rfl
  elec := fun _ => rfl
  freeCtr := fun _ => rfl

theorem upd_modPipes (i : Fin 8) (f : Pipes → Pipes) (s : State) : Upd [.pipes] s (State.modPipes i f s) where
  later := ⟨rfl, rfl, fun _ h => h, Nat.le_refl _, Nat.le_refl _, Nat.le_refl _, fun h => h, fun h => h⟩
  pending := rfl
  eng := fun _ => rfl
  gates := fun _ => rfl
  clk := fun _ => rfl
  life := fun _ => rfl
  keys := fun _ => rfl
  img := fun _ => rfl
  flash := fun _ => rfl
  dlv := fun _ => rfl
  ports := fun _ => rfl
  heads := fun _ => rfl
  meas := fun _ => rfl
  met := fun _ => rfl
  pmet := fun _ => rfl
  safe := fun _ => rfl
  psafe := fun _ => rfl
  cp := fun _ => rfl
  plc := fun _ => rfl
  pipes := fun n => absurd n (by decide)
  hpipes := fun _ => rfl
  ses := fun _ => rfl
  sesSys := fun _ => rfl
  auth := fun _ => rfl
  authSys := fun _ => rfl
  led := fun _ => rfl
  recs := fun _ => rfl
  mbus := fun _ => rfl
  tag := fun _ => rfl
  phy := fun _ => rfl
  lnk := fun _ => rfl
  share := fun _ => rfl
  epd := fun _ => rfl
  fab := fun _ => rfl
  ev := fun _ => rfl
  sen := fun _ => rfl
  jrn := fun _ => rfl
  tamper := fun _ => rfl
  elec := fun _ => rfl
  freeCtr := fun _ => rfl

theorem upd_modHpipes (i : Fin 8) (f : HeadPipes → HeadPipes) (s : State) : Upd [.hpipes] s (State.modHpipes i f s) where
  later := ⟨rfl, rfl, fun _ h => h, Nat.le_refl _, Nat.le_refl _, Nat.le_refl _, fun h => h, fun h => h⟩
  pending := rfl
  eng := fun _ => rfl
  gates := fun _ => rfl
  clk := fun _ => rfl
  life := fun _ => rfl
  keys := fun _ => rfl
  img := fun _ => rfl
  flash := fun _ => rfl
  dlv := fun _ => rfl
  ports := fun _ => rfl
  heads := fun _ => rfl
  meas := fun _ => rfl
  met := fun _ => rfl
  pmet := fun _ => rfl
  safe := fun _ => rfl
  psafe := fun _ => rfl
  cp := fun _ => rfl
  plc := fun _ => rfl
  pipes := fun _ => rfl
  hpipes := fun n => absurd n (by decide)
  ses := fun _ => rfl
  sesSys := fun _ => rfl
  auth := fun _ => rfl
  authSys := fun _ => rfl
  led := fun _ => rfl
  recs := fun _ => rfl
  mbus := fun _ => rfl
  tag := fun _ => rfl
  phy := fun _ => rfl
  lnk := fun _ => rfl
  share := fun _ => rfl
  epd := fun _ => rfl
  fab := fun _ => rfl
  ev := fun _ => rfl
  sen := fun _ => rfl
  jrn := fun _ => rfl
  tamper := fun _ => rfl
  elec := fun _ => rfl
  freeCtr := fun _ => rfl

theorem upd_modSes (i : Fin 32) (f : PtSes → PtSes) (s : State) : Upd [.ses] s (State.modSes i f s) where
  later := ⟨rfl, rfl, fun _ h => h, Nat.le_refl _, Nat.le_refl _, Nat.le_refl _, fun h => h, fun h => h⟩
  pending := rfl
  eng := fun _ => rfl
  gates := fun _ => rfl
  clk := fun _ => rfl
  life := fun _ => rfl
  keys := fun _ => rfl
  img := fun _ => rfl
  flash := fun _ => rfl
  dlv := fun _ => rfl
  ports := fun _ => rfl
  heads := fun _ => rfl
  meas := fun _ => rfl
  met := fun _ => rfl
  pmet := fun _ => rfl
  safe := fun _ => rfl
  psafe := fun _ => rfl
  cp := fun _ => rfl
  plc := fun _ => rfl
  pipes := fun _ => rfl
  hpipes := fun _ => rfl
  ses := fun n => absurd n (by decide)
  sesSys := fun _ => rfl
  auth := fun _ => rfl
  authSys := fun _ => rfl
  led := fun _ => rfl
  recs := fun _ => rfl
  mbus := fun _ => rfl
  tag := fun _ => rfl
  phy := fun _ => rfl
  lnk := fun _ => rfl
  share := fun _ => rfl
  epd := fun _ => rfl
  fab := fun _ => rfl
  ev := fun _ => rfl
  sen := fun _ => rfl
  jrn := fun _ => rfl
  tamper := fun _ => rfl
  elec := fun _ => rfl
  freeCtr := fun _ => rfl

theorem upd_modSesSys (f : SesSys → SesSys) (s : State) : Upd [.sesSys] s (State.modSesSys f s) where
  later := ⟨rfl, rfl, fun _ h => h, Nat.le_refl _, Nat.le_refl _, Nat.le_refl _, fun h => h, fun h => h⟩
  pending := rfl
  eng := fun _ => rfl
  gates := fun _ => rfl
  clk := fun _ => rfl
  life := fun _ => rfl
  keys := fun _ => rfl
  img := fun _ => rfl
  flash := fun _ => rfl
  dlv := fun _ => rfl
  ports := fun _ => rfl
  heads := fun _ => rfl
  meas := fun _ => rfl
  met := fun _ => rfl
  pmet := fun _ => rfl
  safe := fun _ => rfl
  psafe := fun _ => rfl
  cp := fun _ => rfl
  plc := fun _ => rfl
  pipes := fun _ => rfl
  hpipes := fun _ => rfl
  ses := fun _ => rfl
  sesSys := fun n => absurd n (by decide)
  auth := fun _ => rfl
  authSys := fun _ => rfl
  led := fun _ => rfl
  recs := fun _ => rfl
  mbus := fun _ => rfl
  tag := fun _ => rfl
  phy := fun _ => rfl
  lnk := fun _ => rfl
  share := fun _ => rfl
  epd := fun _ => rfl
  fab := fun _ => rfl
  ev := fun _ => rfl
  sen := fun _ => rfl
  jrn := fun _ => rfl
  tamper := fun _ => rfl
  elec := fun _ => rfl
  freeCtr := fun _ => rfl

theorem upd_modAuth (i : Fin 32) (f : PtAuth → PtAuth) (s : State) : Upd [.auth] s (State.modAuth i f s) where
  later := ⟨rfl, rfl, fun _ h => h, Nat.le_refl _, Nat.le_refl _, Nat.le_refl _, fun h => h, fun h => h⟩
  pending := rfl
  eng := fun _ => rfl
  gates := fun _ => rfl
  clk := fun _ => rfl
  life := fun _ => rfl
  keys := fun _ => rfl
  img := fun _ => rfl
  flash := fun _ => rfl
  dlv := fun _ => rfl
  ports := fun _ => rfl
  heads := fun _ => rfl
  meas := fun _ => rfl
  met := fun _ => rfl
  pmet := fun _ => rfl
  safe := fun _ => rfl
  psafe := fun _ => rfl
  cp := fun _ => rfl
  plc := fun _ => rfl
  pipes := fun _ => rfl
  hpipes := fun _ => rfl
  ses := fun _ => rfl
  sesSys := fun _ => rfl
  auth := fun n => absurd n (by decide)
  authSys := fun _ => rfl
  led := fun _ => rfl
  recs := fun _ => rfl
  mbus := fun _ => rfl
  tag := fun _ => rfl
  phy := fun _ => rfl
  lnk := fun _ => rfl
  share := fun _ => rfl
  epd := fun _ => rfl
  fab := fun _ => rfl
  ev := fun _ => rfl
  sen := fun _ => rfl
  jrn := fun _ => rfl
  tamper := fun _ => rfl
  elec := fun _ => rfl
  freeCtr := fun _ => rfl

theorem upd_modAuthSys (f : AuthSys → AuthSys) (s : State) : Upd [.authSys] s (State.modAuthSys f s) where
  later := ⟨rfl, rfl, fun _ h => h, Nat.le_refl _, Nat.le_refl _, Nat.le_refl _, fun h => h, fun h => h⟩
  pending := rfl
  eng := fun _ => rfl
  gates := fun _ => rfl
  clk := fun _ => rfl
  life := fun _ => rfl
  keys := fun _ => rfl
  img := fun _ => rfl
  flash := fun _ => rfl
  dlv := fun _ => rfl
  ports := fun _ => rfl
  heads := fun _ => rfl
  meas := fun _ => rfl
  met := fun _ => rfl
  pmet := fun _ => rfl
  safe := fun _ => rfl
  psafe := fun _ => rfl
  cp := fun _ => rfl
  plc := fun _ => rfl
  pipes := fun _ => rfl
  hpipes := fun _ => rfl
  ses := fun _ => rfl
  sesSys := fun _ => rfl
  auth := fun _ => rfl
  authSys := fun n => absurd n (by decide)
  led := fun _ => rfl
  recs := fun _ => rfl
  mbus := fun _ => rfl
  tag := fun _ => rfl
  phy := fun _ => rfl
  lnk := fun _ => rfl
  share := fun _ => rfl
  epd := fun _ => rfl
  fab := fun _ => rfl
  ev := fun _ => rfl
  sen := fun _ => rfl
  jrn := fun _ => rfl
  tamper := fun _ => rfl
  elec := fun _ => rfl
  freeCtr := fun _ => rfl

theorem upd_modLed (f : Led → Led) (s : State) : Upd [.led] s (State.modLed f s) where
  later := ⟨rfl, rfl, fun _ h => h, Nat.le_refl _, Nat.le_refl _, Nat.le_refl _, fun h => h, fun h => h⟩
  pending := rfl
  eng := fun _ => rfl
  gates := fun _ => rfl
  clk := fun _ => rfl
  life := fun _ => rfl
  keys := fun _ => rfl
  img := fun _ => rfl
  flash := fun _ => rfl
  dlv := fun _ => rfl
  ports := fun _ => rfl
  heads := fun _ => rfl
  meas := fun _ => rfl
  met := fun _ => rfl
  pmet := fun _ => rfl
  safe := fun _ => rfl
  psafe := fun _ => rfl
  cp := fun _ => rfl
  plc := fun _ => rfl
  pipes := fun _ => rfl
  hpipes := fun _ => rfl
  ses := fun _ => rfl
  sesSys := fun _ => rfl
  auth := fun _ => rfl
  authSys := fun _ => rfl
  led := fun n => absurd n (by decide)
  recs := fun _ => rfl
  mbus := fun _ => rfl
  tag := fun _ => rfl
  phy := fun _ => rfl
  lnk := fun _ => rfl
  share := fun _ => rfl
  epd := fun _ => rfl
  fab := fun _ => rfl
  ev := fun _ => rfl
  sen := fun _ => rfl
  jrn := fun _ => rfl
  tamper := fun _ => rfl
  elec := fun _ => rfl
  freeCtr := fun _ => rfl

theorem upd_modRecs (f : Recs → Recs) (s : State) (k : ∀ x, x.next ≤ (f x).next) : Upd [.recs] s (State.modRecs f s) where
  later := ⟨rfl, rfl, fun _ h => h, Nat.le_refl _, k s.recs, Nat.le_refl _, fun h => h, fun h => h⟩
  pending := rfl
  eng := fun _ => rfl
  gates := fun _ => rfl
  clk := fun _ => rfl
  life := fun _ => rfl
  keys := fun _ => rfl
  img := fun _ => rfl
  flash := fun _ => rfl
  dlv := fun _ => rfl
  ports := fun _ => rfl
  heads := fun _ => rfl
  meas := fun _ => rfl
  met := fun _ => rfl
  pmet := fun _ => rfl
  safe := fun _ => rfl
  psafe := fun _ => rfl
  cp := fun _ => rfl
  plc := fun _ => rfl
  pipes := fun _ => rfl
  hpipes := fun _ => rfl
  ses := fun _ => rfl
  sesSys := fun _ => rfl
  auth := fun _ => rfl
  authSys := fun _ => rfl
  led := fun _ => rfl
  recs := fun n => absurd n (by decide)
  mbus := fun _ => rfl
  tag := fun _ => rfl
  phy := fun _ => rfl
  lnk := fun _ => rfl
  share := fun _ => rfl
  epd := fun _ => rfl
  fab := fun _ => rfl
  ev := fun _ => rfl
  sen := fun _ => rfl
  jrn := fun _ => rfl
  tamper := fun _ => rfl
  elec := fun _ => rfl
  freeCtr := fun _ => rfl

theorem upd_modMbus (f : Mbus → Mbus) (s : State) : Upd [.mbus] s (State.modMbus f s) where
  later := ⟨rfl, rfl, fun _ h => h, Nat.le_refl _, Nat.le_refl _, Nat.le_refl _, fun h => h, fun h => h⟩
  pending := rfl
  eng := fun _ => rfl
  gates := fun _ => rfl
  clk := fun _ => rfl
  life := fun _ => rfl
  keys := fun _ => rfl
  img := fun _ => rfl
  flash := fun _ => rfl
  dlv := fun _ => rfl
  ports := fun _ => rfl
  heads := fun _ => rfl
  meas := fun _ => rfl
  met := fun _ => rfl
  pmet := fun _ => rfl
  safe := fun _ => rfl
  psafe := fun _ => rfl
  cp := fun _ => rfl
  plc := fun _ => rfl
  pipes := fun _ => rfl
  hpipes := fun _ => rfl
  ses := fun _ => rfl
  sesSys := fun _ => rfl
  auth := fun _ => rfl
  authSys := fun _ => rfl
  led := fun _ => rfl
  recs := fun _ => rfl
  mbus := fun n => absurd n (by decide)
  tag := fun _ => rfl
  phy := fun _ => rfl
  lnk := fun _ => rfl
  share := fun _ => rfl
  epd := fun _ => rfl
  fab := fun _ => rfl
  ev := fun _ => rfl
  sen := fun _ => rfl
  jrn := fun _ => rfl
  tamper := fun _ => rfl
  elec := fun _ => rfl
  freeCtr := fun _ => rfl

theorem upd_modTag (f : Tag → Tag) (s : State) (k : ∀ x, memWf 0 x.mem = true → memWf 0 (f x).mem = true) : Upd [.tag] s (State.modTag f s) where
  later := ⟨rfl, rfl, fun _ h => h, Nat.le_refl _, Nat.le_refl _, Nat.le_refl _, k s.tag, fun h => h⟩
  pending := rfl
  eng := fun _ => rfl
  gates := fun _ => rfl
  clk := fun _ => rfl
  life := fun _ => rfl
  keys := fun _ => rfl
  img := fun _ => rfl
  flash := fun _ => rfl
  dlv := fun _ => rfl
  ports := fun _ => rfl
  heads := fun _ => rfl
  meas := fun _ => rfl
  met := fun _ => rfl
  pmet := fun _ => rfl
  safe := fun _ => rfl
  psafe := fun _ => rfl
  cp := fun _ => rfl
  plc := fun _ => rfl
  pipes := fun _ => rfl
  hpipes := fun _ => rfl
  ses := fun _ => rfl
  sesSys := fun _ => rfl
  auth := fun _ => rfl
  authSys := fun _ => rfl
  led := fun _ => rfl
  recs := fun _ => rfl
  mbus := fun _ => rfl
  tag := fun n => absurd n (by decide)
  phy := fun _ => rfl
  lnk := fun _ => rfl
  share := fun _ => rfl
  epd := fun _ => rfl
  fab := fun _ => rfl
  ev := fun _ => rfl
  sen := fun _ => rfl
  jrn := fun _ => rfl
  tamper := fun _ => rfl
  elec := fun _ => rfl
  freeCtr := fun _ => rfl

theorem upd_modPhy (f : Phy → Phy) (s : State) : Upd [.phy] s (State.modPhy f s) where
  later := ⟨rfl, rfl, fun _ h => h, Nat.le_refl _, Nat.le_refl _, Nat.le_refl _, fun h => h, fun h => h⟩
  pending := rfl
  eng := fun _ => rfl
  gates := fun _ => rfl
  clk := fun _ => rfl
  life := fun _ => rfl
  keys := fun _ => rfl
  img := fun _ => rfl
  flash := fun _ => rfl
  dlv := fun _ => rfl
  ports := fun _ => rfl
  heads := fun _ => rfl
  meas := fun _ => rfl
  met := fun _ => rfl
  pmet := fun _ => rfl
  safe := fun _ => rfl
  psafe := fun _ => rfl
  cp := fun _ => rfl
  plc := fun _ => rfl
  pipes := fun _ => rfl
  hpipes := fun _ => rfl
  ses := fun _ => rfl
  sesSys := fun _ => rfl
  auth := fun _ => rfl
  authSys := fun _ => rfl
  led := fun _ => rfl
  recs := fun _ => rfl
  mbus := fun _ => rfl
  tag := fun _ => rfl
  phy := fun n => absurd n (by decide)
  lnk := fun _ => rfl
  share := fun _ => rfl
  epd := fun _ => rfl
  fab := fun _ => rfl
  ev := fun _ => rfl
  sen := fun _ => rfl
  jrn := fun _ => rfl
  tamper := fun _ => rfl
  elec := fun _ => rfl
  freeCtr := fun _ => rfl

theorem upd_modLnk (f : Lnk → Lnk) (s : State) : Upd [.lnk] s (State.modLnk f s) where
  later := ⟨rfl, rfl, fun _ h => h, Nat.le_refl _, Nat.le_refl _, Nat.le_refl _, fun h => h, fun h => h⟩
  pending := rfl
  eng := fun _ => rfl
  gates := fun _ => rfl
  clk := fun _ => rfl
  life := fun _ => rfl
  keys := fun _ => rfl
  img := fun _ => rfl
  flash := fun _ => rfl
  dlv := fun _ => rfl
  ports := fun _ => rfl
  heads := fun _ => rfl
  meas := fun _ => rfl
  met := fun _ => rfl
  pmet := fun _ => rfl
  safe := fun _ => rfl
  psafe := fun _ => rfl
  cp := fun _ => rfl
  plc := fun _ => rfl
  pipes := fun _ => rfl
  hpipes := fun _ => rfl
  ses := fun _ => rfl
  sesSys := fun _ => rfl
  auth := fun _ => rfl
  authSys := fun _ => rfl
  led := fun _ => rfl
  recs := fun _ => rfl
  mbus := fun _ => rfl
  tag := fun _ => rfl
  phy := fun _ => rfl
  lnk := fun n => absurd n (by decide)
  share := fun _ => rfl
  epd := fun _ => rfl
  fab := fun _ => rfl
  ev := fun _ => rfl
  sen := fun _ => rfl
  jrn := fun _ => rfl
  tamper := fun _ => rfl
  elec := fun _ => rfl
  freeCtr := fun _ => rfl

theorem upd_modShare (f : Share → Share) (s : State) : Upd [.share] s (State.modShare f s) where
  later := ⟨rfl, rfl, fun _ h => h, Nat.le_refl _, Nat.le_refl _, Nat.le_refl _, fun h => h, fun h => h⟩
  pending := rfl
  eng := fun _ => rfl
  gates := fun _ => rfl
  clk := fun _ => rfl
  life := fun _ => rfl
  keys := fun _ => rfl
  img := fun _ => rfl
  flash := fun _ => rfl
  dlv := fun _ => rfl
  ports := fun _ => rfl
  heads := fun _ => rfl
  meas := fun _ => rfl
  met := fun _ => rfl
  pmet := fun _ => rfl
  safe := fun _ => rfl
  psafe := fun _ => rfl
  cp := fun _ => rfl
  plc := fun _ => rfl
  pipes := fun _ => rfl
  hpipes := fun _ => rfl
  ses := fun _ => rfl
  sesSys := fun _ => rfl
  auth := fun _ => rfl
  authSys := fun _ => rfl
  led := fun _ => rfl
  recs := fun _ => rfl
  mbus := fun _ => rfl
  tag := fun _ => rfl
  phy := fun _ => rfl
  lnk := fun _ => rfl
  share := fun n => absurd n (by decide)
  epd := fun _ => rfl
  fab := fun _ => rfl
  ev := fun _ => rfl
  sen := fun _ => rfl
  jrn := fun _ => rfl
  tamper := fun _ => rfl
  elec := fun _ => rfl
  freeCtr := fun _ => rfl

theorem upd_modEpd (f : Epd → Epd) (s : State) : Upd [.epd] s (State.modEpd f s) where
  later := ⟨rfl, rfl, fun _ h => h, Nat.le_refl _, Nat.le_refl _, Nat.le_refl _, fun h => h, fun h => h⟩
  pending := rfl
  eng := fun _ => rfl
  gates := fun _ => rfl
  clk := fun _ => rfl
  life := fun _ => rfl
  keys := fun _ => rfl
  img := fun _ => rfl
  flash := fun _ => rfl
  dlv := fun _ => rfl
  ports := fun _ => rfl
  heads := fun _ => rfl
  meas := fun _ => rfl
  met := fun _ => rfl
  pmet := fun _ => rfl
  safe := fun _ => rfl
  psafe := fun _ => rfl
  cp := fun _ => rfl
  plc := fun _ => rfl
  pipes := fun _ => rfl
  hpipes := fun _ => rfl
  ses := fun _ => rfl
  sesSys := fun _ => rfl
  auth := fun _ => rfl
  authSys := fun _ => rfl
  led := fun _ => rfl
  recs := fun _ => rfl
  mbus := fun _ => rfl
  tag := fun _ => rfl
  phy := fun _ => rfl
  lnk := fun _ => rfl
  share := fun _ => rfl
  epd := fun n => absurd n (by decide)
  fab := fun _ => rfl
  ev := fun _ => rfl
  sen := fun _ => rfl
  jrn := fun _ => rfl
  tamper := fun _ => rfl
  elec := fun _ => rfl
  freeCtr := fun _ => rfl

theorem upd_modFab (f : Fab → Fab) (s : State) : Upd [.fab] s (State.modFab f s) where
  later := ⟨rfl, rfl, fun _ h => h, Nat.le_refl _, Nat.le_refl _, Nat.le_refl _, fun h => h, fun h => h⟩
  pending := rfl
  eng := fun _ => rfl
  gates := fun _ => rfl
  clk := fun _ => rfl
  life := fun _ => rfl
  keys := fun _ => rfl
  img := fun _ => rfl
  flash := fun _ => rfl
  dlv := fun _ => rfl
  ports := fun _ => rfl
  heads := fun _ => rfl
  meas := fun _ => rfl
  met := fun _ => rfl
  pmet := fun _ => rfl
  safe := fun _ => rfl
  psafe := fun _ => rfl
  cp := fun _ => rfl
  plc := fun _ => rfl
  pipes := fun _ => rfl
  hpipes := fun _ => rfl
  ses := fun _ => rfl
  sesSys := fun _ => rfl
  auth := fun _ => rfl
  authSys := fun _ => rfl
  led := fun _ => rfl
  recs := fun _ => rfl
  mbus := fun _ => rfl
  tag := fun _ => rfl
  phy := fun _ => rfl
  lnk := fun _ => rfl
  share := fun _ => rfl
  epd := fun _ => rfl
  fab := fun n => absurd n (by decide)
  ev := fun _ => rfl
  sen := fun _ => rfl
  jrn := fun _ => rfl
  tamper := fun _ => rfl
  elec := fun _ => rfl
  freeCtr := fun _ => rfl

theorem upd_modEv (f : Ev → Ev) (s : State) (k : ∀ x, x.next ≤ (f x).next) : Upd [.ev] s (State.modEv f s) where
  later := ⟨rfl, rfl, fun _ h => h, k s.ev, Nat.le_refl _, Nat.le_refl _, fun h => h, fun h => h⟩
  pending := rfl
  eng := fun _ => rfl
  gates := fun _ => rfl
  clk := fun _ => rfl
  life := fun _ => rfl
  keys := fun _ => rfl
  img := fun _ => rfl
  flash := fun _ => rfl
  dlv := fun _ => rfl
  ports := fun _ => rfl
  heads := fun _ => rfl
  meas := fun _ => rfl
  met := fun _ => rfl
  pmet := fun _ => rfl
  safe := fun _ => rfl
  psafe := fun _ => rfl
  cp := fun _ => rfl
  plc := fun _ => rfl
  pipes := fun _ => rfl
  hpipes := fun _ => rfl
  ses := fun _ => rfl
  sesSys := fun _ => rfl
  auth := fun _ => rfl
  authSys := fun _ => rfl
  led := fun _ => rfl
  recs := fun _ => rfl
  mbus := fun _ => rfl
  tag := fun _ => rfl
  phy := fun _ => rfl
  lnk := fun _ => rfl
  share := fun _ => rfl
  epd := fun _ => rfl
  fab := fun _ => rfl
  ev := fun n => absurd n (by decide)
  sen := fun _ => rfl
  jrn := fun _ => rfl
  tamper := fun _ => rfl
  elec := fun _ => rfl
  freeCtr := fun _ => rfl

theorem upd_modSen (f : Sen → Sen) (s : State) : Upd [.sen] s (State.modSen f s) where
  later := ⟨rfl, rfl, fun _ h => h, Nat.le_refl _, Nat.le_refl _, Nat.le_refl _, fun h => h, fun h => h⟩
  pending := rfl
  eng := fun _ => rfl
  gates := fun _ => rfl
  clk := fun _ => rfl
  life := fun _ => rfl
  keys := fun _ => rfl
  img := fun _ => rfl
  flash := fun _ => rfl
  dlv := fun _ => rfl
  ports := fun _ => rfl
  heads := fun _ => rfl
  meas := fun _ => rfl
  met := fun _ => rfl
  pmet := fun _ => rfl
  safe := fun _ => rfl
  psafe := fun _ => rfl
  cp := fun _ => rfl
  plc := fun _ => rfl
  pipes := fun _ => rfl
  hpipes := fun _ => rfl
  ses := fun _ => rfl
  sesSys := fun _ => rfl
  auth := fun _ => rfl
  authSys := fun _ => rfl
  led := fun _ => rfl
  recs := fun _ => rfl
  mbus := fun _ => rfl
  tag := fun _ => rfl
  phy := fun _ => rfl
  lnk := fun _ => rfl
  share := fun _ => rfl
  epd := fun _ => rfl
  fab := fun _ => rfl
  ev := fun _ => rfl
  sen := fun n => absurd n (by decide)
  jrn := fun _ => rfl
  tamper := fun _ => rfl
  elec := fun _ => rfl
  freeCtr := fun _ => rfl

theorem upd_modJrn (f : Jrn → Jrn) (s : State) (k : ∀ x, x.next ≤ (f x).next) : Upd [.jrn] s (State.modJrn f s) where
  later := ⟨rfl, rfl, fun _ h => h, Nat.le_refl _, Nat.le_refl _, k s.jrn, fun h => h, fun h => h⟩
  pending := rfl
  eng := fun _ => rfl
  gates := fun _ => rfl
  clk := fun _ => rfl
  life := fun _ => rfl
  keys := fun _ => rfl
  img := fun _ => rfl
  flash := fun _ => rfl
  dlv := fun _ => rfl
  ports := fun _ => rfl
  heads := fun _ => rfl
  meas := fun _ => rfl
  met := fun _ => rfl
  pmet := fun _ => rfl
  safe := fun _ => rfl
  psafe := fun _ => rfl
  cp := fun _ => rfl
  plc := fun _ => rfl
  pipes := fun _ => rfl
  hpipes := fun _ => rfl
  ses := fun _ => rfl
  sesSys := fun _ => rfl
  auth := fun _ => rfl
  authSys := fun _ => rfl
  led := fun _ => rfl
  recs := fun _ => rfl
  mbus := fun _ => rfl
  tag := fun _ => rfl
  phy := fun _ => rfl
  lnk := fun _ => rfl
  share := fun _ => rfl
  epd := fun _ => rfl
  fab := fun _ => rfl
  ev := fun _ => rfl
  sen := fun _ => rfl
  jrn := fun n => absurd n (by decide)
  tamper := fun _ => rfl
  elec := fun _ => rfl
  freeCtr := fun _ => rfl

theorem upd_modTamper (f : Tamper → Tamper) (s : State) : Upd [.tamper] s (State.modTamper f s) where
  later := ⟨rfl, rfl, fun _ h => h, Nat.le_refl _, Nat.le_refl _, Nat.le_refl _, fun h => h, fun h => h⟩
  pending := rfl
  eng := fun _ => rfl
  gates := fun _ => rfl
  clk := fun _ => rfl
  life := fun _ => rfl
  keys := fun _ => rfl
  img := fun _ => rfl
  flash := fun _ => rfl
  dlv := fun _ => rfl
  ports := fun _ => rfl
  heads := fun _ => rfl
  meas := fun _ => rfl
  met := fun _ => rfl
  pmet := fun _ => rfl
  safe := fun _ => rfl
  psafe := fun _ => rfl
  cp := fun _ => rfl
  plc := fun _ => rfl
  pipes := fun _ => rfl
  hpipes := fun _ => rfl
  ses := fun _ => rfl
  sesSys := fun _ => rfl
  auth := fun _ => rfl
  authSys := fun _ => rfl
  led := fun _ => rfl
  recs := fun _ => rfl
  mbus := fun _ => rfl
  tag := fun _ => rfl
  phy := fun _ => rfl
  lnk := fun _ => rfl
  share := fun _ => rfl
  epd := fun _ => rfl
  fab := fun _ => rfl
  ev := fun _ => rfl
  sen := fun _ => rfl
  jrn := fun _ => rfl
  tamper := fun n => absurd n (by decide)
  elec := fun _ => rfl
  freeCtr := fun _ => rfl

theorem upd_modElec (f : Elec → Elec) (s : State) : Upd [.elec] s (State.modElec f s) where
  later := ⟨rfl, rfl, fun _ h => h, Nat.le_refl _, Nat.le_refl _, Nat.le_refl _, fun h => h, fun h => h⟩
  pending := rfl
  eng := fun _ => rfl
  gates := fun _ => rfl
  clk := fun _ => rfl
  life := fun _ => rfl
  keys := fun _ => rfl
  img := fun _ => rfl
  flash := fun _ => rfl
  dlv := fun _ => rfl
  ports := fun _ => rfl
  heads := fun _ => rfl
  meas := fun _ => rfl
  met := fun _ => rfl
  pmet := fun _ => rfl
  safe := fun _ => rfl
  psafe := fun _ => rfl
  cp := fun _ => rfl
  plc := fun _ => rfl
  pipes := fun _ => rfl
  hpipes := fun _ => rfl
  ses := fun _ => rfl
  sesSys := fun _ => rfl
  auth := fun _ => rfl
  authSys := fun _ => rfl
  led := fun _ => rfl
  recs := fun _ => rfl
  mbus := fun _ => rfl
  tag := fun _ => rfl
  phy := fun _ => rfl
  lnk := fun _ => rfl
  share := fun _ => rfl
  epd := fun _ => rfl
  fab := fun _ => rfl
  ev := fun _ => rfl
  sen := fun _ => rfl
  jrn := fun _ => rfl
  tamper := fun _ => rfl
  elec := fun n => absurd n (by decide)
  freeCtr := fun _ => rfl

theorem upd_modFreeCtr (f : Nat → Nat) (s : State) : Upd [.freeCtr] s (State.modFreeCtr f s) where
  later := ⟨rfl, rfl, fun _ h => h, Nat.le_refl _, Nat.le_refl _, Nat.le_refl _, fun h => h, fun h => h⟩
  pending := rfl
  eng := fun _ => rfl
  gates := fun _ => rfl
  clk := fun _ => rfl
  life := fun _ => rfl
  keys := fun _ => rfl
  img := fun _ => rfl
  flash := fun _ => rfl
  dlv := fun _ => rfl
  ports := fun _ => rfl
  heads := fun _ => rfl
  meas := fun _ => rfl
  met := fun _ => rfl
  pmet := fun _ => rfl
  safe := fun _ => rfl
  psafe := fun _ => rfl
  cp := fun _ => rfl
  plc := fun _ => rfl
  pipes := fun _ => rfl
  hpipes := fun _ => rfl
  ses := fun _ => rfl
  sesSys := fun _ => rfl
  auth := fun _ => rfl
  authSys := fun _ => rfl
  led := fun _ => rfl
  recs := fun _ => rfl
  mbus := fun _ => rfl
  tag := fun _ => rfl
  phy := fun _ => rfl
  lnk := fun _ => rfl
  share := fun _ => rfl
  epd := fun _ => rfl
  fab := fun _ => rfl
  ev := fun _ => rfl
  sen := fun _ => rfl
  jrn := fun _ => rfl
  tamper := fun _ => rfl
  elec := fun _ => rfl
  freeCtr := fun n => absurd n (by decide)

end Sys2Proof.Machine
end

