-- ==== Sys2Proof/Laws/UpdOps.lean ====
section
/-! SUPPORT. What the operations of Machine/Ops.lean change: one lemma for each, that its result differs from its state at most in the parts named,
and that what only grows has not gone back. -/

namespace Sys2Proof.Machine

theorem upd_evBuffer (e : EventRec) (s : State) : Upd [.sen] s (evBuffer e s) := by
  unfold evBuffer
  repeat' (first
    | with_reducible assumption
    | with_reducible exact Upd.refl _ _
    | (show subParts _ _ = true; rfl)
    | with_reducible apply Upd.ite
    | with_reducible apply Upd.comp (upd_modSen _ _)
    | split)

theorem upd_evHold (e : EventRec) (s : State) : Upd [.ev] s (evHold e s) := by
  unfold evHold
  repeat' (first
    | with_reducible assumption
    | with_reducible exact Upd.refl _ _
    | (show subParts _ _ = true; rfl)
    | with_reducible apply Upd.ite
    | exact (fun _ => Nat.le_refl _)
    | with_reducible apply Upd.comp (upd_modEv _ _ ?_)
    | split)

theorem upd_evPut (e : EventRec) (s : State) : Upd [.ev] s (evPut e s) where
  later := ⟨rfl, rfl, fun _ h => h, Nat.le_succ _, Nat.le_refl _, Nat.le_refl _, fun h => h, fun h => h⟩
  pending := rfl
  eng := fun _ => rfl
  gates := fun _ => rfl
  clk := fun _ => rfl
  life := fun _ => rfl
  keys := fun _ => rfl
  img := fun _ => rfl
  flash := fun _ => rfl
  dlv := fun _ => rfl
  ports := fun _ => rfl
  heads := fun _ => rfl
  meas := fun _ => rfl
  met := fun _ => rfl
  pmet := fun _ => rfl
  safe := fun _ => rfl
  psafe := fun _ => rfl
  cp := fun _ => rfl
  plc := fun _ => rfl
  pipes := fun _ => rfl
  hpipes := fun _ => rfl
  ses := fun _ => rfl
  sesSys := fun _ => rfl
  auth := fun _ => rfl
  authSys := fun _ => rfl
  led := fun _ => rfl
  recs := fun _ => rfl
  mbus := fun _ => rfl
  tag := fun _ => rfl
  phy := fun _ => rfl
  lnk := fun _ => rfl
  share := fun _ => rfl
  epd := fun _ => rfl
  fab := fun _ => rfl
  ev := fun n => absurd n (by decide)
  sen := fun _ => rfl
  jrn := fun _ => rfl
  tamper := fun _ => rfl
  elec := fun _ => rfl
  freeCtr := fun _ => rfl

theorem upd_evAccept (e : EventRec) (s : State) : Upd [.ev] s (evAccept e s) := by
  unfold evAccept
  repeat' (first
    | with_reducible assumption
    | with_reducible exact Upd.refl _ _
    | (show subParts _ _ = true; rfl)
    | with_reducible apply Upd.ite
    | exact (fun _ => Nat.le_refl _)
    | with_reducible apply Upd.comp (upd_modEv _ _ ?_)
    | with_reducible apply Upd.comp (upd_evPut _ _)
    | split)

theorem upd_raise (code : Nat) (source : Nat) (point : Nat) (arg : Nat) (s : State) : Upd [.ev, .sen] s (raise code source point arg s) := by
  unfold raise
  repeat' (first
    | with_reducible assumption
    | with_reducible exact Upd.refl _ _
    | (show subParts _ _ = true; rfl)
    | with_reducible apply Upd.ite
    | with_reducible apply Upd.comp (upd_evBuffer _ _)
    | with_reducible apply Upd.comp (upd_evHold _ _)
    | with_reducible apply Upd.comp (upd_evAccept _ _)
    | split)

theorem upd_raiseIf (c : Bool) (code : Nat) (source : Nat) (point : Nat) (arg : Nat) (s : State) : Upd [.ev, .sen] s (raiseIf c code source point arg s) := by
  unfold raiseIf
  repeat' (first
    | with_reducible assumption
    | with_reducible exact Upd.refl _ _
    | (show subParts _ _ = true; rfl)
    | with_reducible apply Upd.ite
    | with_reducible apply Upd.comp (upd_raise _ _ _ _ _)
    | split)

theorem upd_draw (s : State) : Upd [.freeCtr] s (draw s).2 := by
  unfold draw
  repeat' (first
    | with_reducible assumption
    | with_reducible exact Upd.refl _ _
    | (show subParts _ _ = true; rfl)
    | with_reducible apply Upd.ite
    | with_reducible apply Upd.comp (upd_modFreeCtr _ _)
    | split)

theorem upd_passTime (n : Nat) (s : State) : Upd [.sen] s (passTime n s) := by
  unfold passTime
  repeat' (first
    | with_reducible assumption
    | with_reducible exact Upd.refl _ _
    | (show subParts _ _ = true; rfl)
    | with_reducible apply Upd.ite
    | with_reducible apply Upd.comp (upd_modSen _ _)
    | split)

end Sys2Proof.Machine
end

