-- ==== Sys2Proof/Laws/UpdRoute.lean ====
section
/-! SUPPORT. What the operations of Machine/Route.lean change: one lemma for each, that its result differs from its state at most in the parts named,
and that what only grows has not gone back. -/

namespace Sys2Proof.Machine

theorem upd_lnkDrop (reason : Nat) (msgId : Nat) (s : State) : Upd [.lnk, .ev, .sen] s (lnkDrop reason msgId s) := by
  unfold lnkDrop
  repeat' (first
    | with_reducible assumption
    | with_reducible exact Upd.refl _ _
    | (show subParts _ _ = true; rfl)
    | with_reducible apply Upd.ite
    | with_reducible apply Upd.comp (upd_modLnk _ _)
    | with_reducible apply Upd.comp (upd_raise _ _ _ _ _)
    | split)

theorem upd_lnkQueue (m : TxMsg) (s : State) : Upd [.lnk] s (lnkQueue m s) := by
  unfold lnkQueue
  repeat' (first
    | with_reducible assumption
    | with_reducible exact Upd.refl _ _
    | (show subParts _ _ = true; rfl)
    | with_reducible apply Upd.ite
    | (with_reducible apply Upd.foldl; intro u a hu)
    | with_reducible apply Upd.comp (upd_modLnk _ _)
    | split)

theorem upd_lnkSend (kind : Nat) (final : Nat) (body : List Nat) (s : State) : Upd [.lnk, .ev, .sen] s (lnkSend kind final body s) := by
  unfold lnkSend
  repeat' (first
    | with_reducible assumption
    | with_reducible exact Upd.refl _ _
    | (show subParts _ _ = true; rfl)
    | with_reducible apply Upd.ite
    | with_reducible apply Upd.comp (upd_modLnk _ _)
    | with_reducible apply Upd.comp (upd_lnkDrop _ _ _)
    | with_reducible apply Upd.comp (upd_lnkQueue _ _)
    | split)

theorem upd_lnkBroadcast (kind : Nat) (body : List Nat) (s : State) : Upd [.lnk] s (lnkBroadcast kind body s) := by
  unfold lnkBroadcast
  repeat' (first
    | with_reducible assumption
    | with_reducible exact Upd.refl _ _
    | (show subParts _ _ = true; rfl)
    | with_reducible apply Upd.ite
    | (with_reducible apply Upd.foldl; intro u a hu)
    | with_reducible apply Upd.comp (upd_modLnk _ _)
    | with_reducible apply Upd.comp (upd_lnkQueue _ _)
    | split)

theorem upd_lnkTo (kind : Nat) (node : Nat) (body : List Nat) (s : State) : Upd [.lnk] s (lnkTo kind node body s) := by
  unfold lnkTo
  repeat' (first
    | with_reducible assumption
    | with_reducible exact Upd.refl _ _
    | (show subParts _ _ = true; rfl)
    | with_reducible apply Upd.ite
    | with_reducible apply Upd.comp (upd_modLnk _ _)
    | with_reducible apply Upd.comp (upd_lnkQueue _ _)
    | split)

end Sys2Proof.Machine
end

