-- ==== Sys2Proof/Laws/UpdOrder.lean ====
section
/-! SUPPORT. What the operations of Machine/Order.lean change: one lemma for each, that its result differs from its state at most in the parts named,
and that what only grows has not gone back. -/

namespace Sys2Proof.Machine

theorem upd_syncWins (s : State) : Upd [.keys] s (syncWins s) := by
  unfold syncWins
  repeat' (first
    | with_reducible assumption
    | with_reducible exact Upd.refl _ _
    | (show subParts _ _ = true; rfl)
    | with_reducible apply Upd.ite
    | with_reducible apply Upd.comp (upd_modKeys _ _)
    | split)

theorem upd_blockOrder (set : Bool) (p : List W128) (s : State) : Upd [.led, .ev, .sen] s (blockOrder set p s).2 := by
  unfold blockOrder
  repeat' (first
    | with_reducible assumption
    | with_reducible exact Upd.refl _ _
    | (show subParts _ _ = true; rfl)
    | with_reducible apply Upd.ite
    | with_reducible apply Upd.iteR
    | with_reducible apply Upd.comp (upd_modLed _ _)
    | with_reducible apply Upd.comp (upd_raise _ _ _ _ _)
    | split)

theorem upd_modWin (i : Nat) (f : ReplayWin → ReplayWin) (s : State) : Upd [.keys] s (modWin i f s) := by
  unfold modWin
  repeat' (first
    | with_reducible assumption
    | with_reducible exact Upd.refl _ _
    | (show subParts _ _ = true; rfl)
    | with_reducible apply Upd.ite
    | with_reducible apply Upd.comp (upd_modKeys _ _)
    | split)

theorem upd_orderCheck (o : OrderRec) (s : State) : Upd [.keys] s (orderCheck o s).2 := by
  unfold orderCheck
  repeat' (first
    | with_reducible assumption
    | with_reducible exact Upd.refl _ _
    | (show subParts _ _ = true; rfl)
    | with_reducible apply Upd.ite
    | with_reducible apply Upd.comp (upd_modWin _ _ _)
    | split)

theorem upd_orderDone (o : OrderRec) (reason : Nat) (s : State) : Upd [.mbus, .lnk, .ev, .sen] s (orderDone o reason s) := by
  unfold orderDone
  repeat' (first
    | with_reducible assumption
    | with_reducible exact Upd.refl _ _
    | (show subParts _ _ = true; rfl)
    | with_reducible apply Upd.ite
    | with_reducible apply Upd.comp (upd_modMbus _ _)
    | with_reducible apply Upd.comp (upd_modLnk _ _)
    | with_reducible apply Upd.comp (upd_lnkSend _ _ _ _)
    | split)

theorem upd_ordered {P : List Part} {s0 : State} (types : List Nat) (o : OrderRec) (f : List W128 → State → Nat × State) (s : State)
    (hs : subParts [.gates, .keys, .mbus, .lnk, .ev, .sen] P = true) (hf : ∀ b t, Upd P s0 t → Upd P s0 (f b t).2) (h : Upd P s0 s) :
    Upd P s0 (ordered types o f s) := by
  unfold ordered
  split
  · exact h
  · have h1 := Upd.comp2 (upd_modGates (fun g => { g with orderInlet := g.orderInlet.erase o }) s) (by decide) hs h
    have h2 := Upd.comp2 (upd_orderCheck o _) (by rfl) hs h1
    dsimp only
    split
    · rename_i heq
      rw [heq] at h2
      exact Upd.comp2 (upd_orderDone _ _ _) (by rfl) hs (hf _ _ h2)
    · rename_i heq
      rw [heq] at h2
      exact Upd.comp2 (upd_orderDone _ _ _) (by rfl) hs (Upd.comp2 (upd_raise _ _ _ _ _) (by rfl) hs h2)

theorem upd_doRestartSessionFreeze (s : State) : Upd [.life] s (doRestartSessionFreeze s) := by
  unfold doRestartSessionFreeze
  repeat' (first
    | with_reducible assumption
    | with_reducible exact Upd.refl _ _
    | (show subParts _ _ = true; rfl)
    | with_reducible apply Upd.ite
    | exact (fun _ => ⟨rfl, rfl, rfl⟩)
    | with_reducible apply Upd.comp (upd_modLife _ _ ?_)
    | split)

theorem upd_doServiceStateApply (s : State) : Upd [.cp] s (doServiceStateApply s) := by
  unfold doServiceStateApply
  repeat' (first
    | with_reducible assumption
    | with_reducible exact Upd.refl _ _
    | (show subParts _ _ = true; rfl)
    | with_reducible apply Upd.ite
    | (with_reducible apply Upd.foldl; intro u a hu)
    | with_reducible apply Upd.comp (upd_modCp _ _ _)
    | split)

theorem upd_execOrderPointService (o : OrderRec) (s : State) : ∃ u, execOrderPointService o s = .next u ∧ Upd [.gates, .keys, .cp, .mbus, .lnk, .ev, .sen] s u := by
  unfold execOrderPointService
  refine ⟨_, rfl, ?_⟩
  repeat' (first
    | with_reducible assumption
    | with_reducible exact Upd.refl _ _
    | (show subParts _ _ = true; rfl)
    | with_reducible apply Upd.ite
    | with_reducible apply Upd.iteR
    | (with_reducible apply Upd.foldl; intro u a hu)
    | with_reducible apply Upd.comp (upd_modCp _ _ _)
    | with_reducible apply upd_ordered
    | with_reducible apply Upd.comp (upd_raise _ _ _ _ _)
    | split
    | intro _ _ _)

theorem upd_execOrderRestart (o : OrderRec) (s : State) : ∃ u, execOrderRestart o s = .next u ∧ Upd [.gates, .life, .keys, .mbus, .lnk, .ev, .sen] s u := by
  unfold execOrderRestart
  refine ⟨_, rfl, ?_⟩
  repeat' (first
    | with_reducible assumption
    | with_reducible exact Upd.refl _ _
    | (show subParts _ _ = true; rfl)
    | with_reducible apply Upd.ite
    | exact (fun _ => ⟨rfl, rfl, rfl⟩)
    | with_reducible apply Upd.comp (upd_modLife _ _ ?_)
    | with_reducible apply upd_ordered
    | with_reducible apply Upd.comp (upd_raise _ _ _ _ _)
    | split
    | intro _ _ _)

theorem upd_lcOrder (typ : Nat) (p : List W128) (s : State) : Upd [.life, .ev, .sen] s (lcOrder typ p s).2 := by
  unfold lcOrder
  repeat' (first
    | with_reducible assumption
    | with_reducible exact Upd.refl _ _
    | (show subParts _ _ = true; rfl)
    | with_reducible apply Upd.ite
    | exact (fun _ => ⟨rfl, rfl, rfl⟩)
    | with_reducible apply Upd.comp (upd_modLife _ _ ?_)
    | with_reducible apply Upd.comp (upd_raise _ _ _ _ _)
    | split)

theorem upd_execOrderRetire (o : OrderRec) (s : State) : ∃ u, execOrderRetire o s = .next u ∧ Upd [.gates, .life, .keys, .mbus, .lnk, .ev, .sen] s u := by
  unfold execOrderRetire
  refine ⟨_, rfl, ?_⟩
  repeat' (first
    | with_reducible assumption
    | with_reducible exact Upd.refl _ _
    | (show subParts _ _ = true; rfl)
    | with_reducible apply Upd.ite
    | with_reducible apply upd_ordered
    | with_reducible apply Upd.comp (upd_lcOrder _ _ _)
    | split
    | intro _ _)

theorem upd_execOrderSeal (o : OrderRec) (s : State) : ∃ u, execOrderSeal o s = .next u ∧ Upd [.gates, .life, .keys, .mbus, .lnk, .ev, .sen] s u := by
  unfold execOrderSeal
  refine ⟨_, rfl, ?_⟩
  repeat' (first
    | with_reducible assumption
    | with_reducible exact Upd.refl _ _
    | (show subParts _ _ = true; rfl)
    | with_reducible apply Upd.ite
    | with_reducible apply upd_ordered
    | with_reducible apply Upd.comp (upd_lcOrder _ _ _)
    | split
    | intro _ _)

theorem upd_execOrderTenantBlock (o : OrderRec) (s : State) : ∃ u, execOrderTenantBlock o s = .next u ∧ Upd [.gates, .keys, .led, .mbus, .lnk, .ev, .sen] s u := by
  unfold execOrderTenantBlock
  refine ⟨_, rfl, ?_⟩
  repeat' (first
    | with_reducible assumption
    | with_reducible exact Upd.refl _ _
    | (show subParts _ _ = true; rfl)
    | with_reducible apply Upd.ite
    | with_reducible apply upd_ordered
    | with_reducible apply Upd.comp (upd_blockOrder _ _ _)
    | split
    | intro _ _)

theorem upd_execOrderTenantUnblock (o : OrderRec) (s : State) : ∃ u, execOrderTenantUnblock o s = .next u ∧ Upd [.gates, .keys, .led, .mbus, .lnk, .ev, .sen] s u := by
  unfold execOrderTenantUnblock
  refine ⟨_, rfl, ?_⟩
  repeat' (first
    | with_reducible assumption
    | with_reducible exact Upd.refl _ _
    | (show subParts _ _ = true; rfl)
    | with_reducible apply Upd.ite
    | with_reducible apply upd_ordered
    | with_reducible apply Upd.comp (upd_blockOrder _ _ _)
    | split
    | intro _ _)

theorem upd_execOrderTimeSet (o : OrderRec) (s : State) : ∃ u, execOrderTimeSet o s = .next u ∧ Upd [.gates, .keys, .mbus, .lnk, .ev, .sen] s u := by
  unfold execOrderTimeSet
  refine ⟨_, rfl, ?_⟩
  repeat' (first
    | with_reducible assumption
    | with_reducible exact Upd.refl _ _
    | (show subParts _ _ = true; rfl)
    | with_reducible apply Upd.ite
    | with_reducible apply Upd.comp (upd_modSen _ _)
    | with_reducible apply upd_ordered
    | with_reducible apply Upd.comp (upd_raise _ _ _ _ _)
    | split
    | intro _ _)

theorem upd_execOrderUnknownType (o : OrderRec) (s : State) : ∃ u, execOrderUnknownType o s = .next u ∧ Upd [.gates, .mbus, .lnk, .ev, .sen] s u := by
  unfold execOrderUnknownType
  refine ⟨_, rfl, ?_⟩
  repeat' (first
    | with_reducible assumption
    | with_reducible exact Upd.refl _ _
    | (show subParts _ _ = true; rfl)
    | with_reducible apply Upd.ite
    | with_reducible apply Upd.comp (upd_modGates _ _)
    | with_reducible apply Upd.comp (upd_orderDone _ _ _)
    | with_reducible apply Upd.comp (upd_raise _ _ _ _ _)
    | split)

theorem upd_execOrderUnseal (o : OrderRec) (s : State) : ∃ u, execOrderUnseal o s = .next u ∧ Upd [.gates, .life, .keys, .mbus, .lnk, .ev, .sen] s u := by
  unfold execOrderUnseal
  refine ⟨_, rfl, ?_⟩
  repeat' (first
    | with_reducible assumption
    | with_reducible exact Upd.refl _ _
    | (show subParts _ _ = true; rfl)
    | with_reducible apply Upd.ite
    | with_reducible apply upd_ordered
    | with_reducible apply Upd.comp (upd_lcOrder _ _ _)
    | split
    | intro _ _)

end Sys2Proof.Machine
end

