-- ==== Sys2Proof/Laws/UpdKeys.lean ====
section
/-! SUPPORT. What the operations of Machine/Keys.lean change: one lemma for each, that its result differs from its state at most in the parts named,
and that what only grows has not gone back. -/

namespace Sys2Proof.Machine

theorem upd_transDrop (p : TransSlot → Bool) (s : State) : Upd [.keys] s (transDrop p s) := by
  unfold transDrop
  repeat' (first
    | with_reducible assumption
    | with_reducible exact Upd.refl _ _
    | (show subParts _ _ = true; rfl)
    | with_reducible apply Upd.ite
    | with_reducible apply Upd.comp (upd_modKeys _ _)
    | split)

theorem upd_drbgDraw (n : Nat) (s : State) : Upd [.freeCtr] s (drbgDraw n s).2 := by
  unfold drbgDraw
  repeat' (first
    | with_reducible assumption
    | with_reducible exact Upd.refl _ _
    | (show subParts _ _ = true; rfl)
    | with_reducible apply Upd.ite
    | with_reducible apply Upd.comp (upd_draw _)
    | split)

theorem upd_newMetrologyKey (s : State) : Upd [.keys, .ev, .sen, .freeCtr] s (newMetrologyKey s) := by
  unfold newMetrologyKey
  repeat' (first
    | with_reducible assumption
    | with_reducible exact Upd.refl _ _
    | (show subParts _ _ = true; rfl)
    | with_reducible apply Upd.ite
    | with_reducible apply Upd.comp (upd_modKeys _ _)
    | with_reducible apply Upd.comp (upd_drbgDraw _ _)
    | with_reducible apply Upd.comp (upd_raise _ _ _ _ _)
    | split)

theorem upd_identStatement (first : Bool) (s : State) : Upd [.keys] s (identStatement first s) := by
  unfold identStatement
  repeat' (first
    | with_reducible assumption
    | with_reducible exact Upd.refl _ _
    | (show subParts _ _ = true; rfl)
    | with_reducible apply Upd.ite
    | with_reducible apply Upd.comp (upd_modKeys _ _)
    | split)

theorem upd_drbgReseed (s : State) : Upd [.keys] s (drbgReseed s) := by
  unfold drbgReseed
  repeat' (first
    | with_reducible assumption
    | with_reducible exact Upd.refl _ _
    | (show subParts _ _ = true; rfl)
    | with_reducible apply Upd.ite
    | with_reducible apply Upd.comp (upd_modKeys _ _)
    | split)

theorem upd_drbgReruns (fails : Nat) (s : State) : Upd [.keys, .ev, .sen] s (drbgReruns fails s) := by
  induction fails generalizing s
  case' zero => simp only [drbgReruns]
  case' succ m ih => simp only [drbgReruns]
  repeat' (first
    | with_reducible exact Upd.refl _ _
    | with_reducible apply Upd.comp (ih _)
    | with_reducible assumption
    | with_reducible exact Upd.refl _ _
    | (show subParts _ _ = true; rfl)
    | with_reducible apply Upd.ite
    | with_reducible apply Upd.comp (upd_modKeys _ _)
    | with_reducible apply Upd.comp (upd_raise _ _ _ _ _)
    | with_reducible apply Upd.comp (upd_drbgReseed _)
    | split)

theorem upd_slotAnswer (h : EngHalf) (op : SlotOp) (n : Nat) (reason : Nat) (data : List Nat) (s : State) : Upd [.keys] s (slotAnswer h op n reason data s) := by
  unfold slotAnswer
  repeat' (first
    | with_reducible assumption
    | with_reducible exact Upd.refl _ _
    | (show subParts _ _ = true; rfl)
    | with_reducible apply Upd.ite
    | with_reducible apply Upd.comp (upd_modKeys _ _)
    | split)

theorem upd_stallSession (point : Nat) (kind : Nat) (s : State) : Upd [.ses, .sesSys, .ev, .sen] s (stallSession point kind s) := by
  unfold stallSession
  repeat' (first
    | with_reducible assumption
    | with_reducible exact Upd.refl _ _
    | (show subParts _ _ = true; rfl)
    | with_reducible apply Upd.ite
    | with_reducible apply Upd.comp (upd_modSesSys _ _)
    | with_reducible apply Upd.comp (upd_modSes _ _ _)
    | with_reducible apply Upd.comp (upd_raiseIf _ _ _ _ _ _)
    | split)

theorem upd_enqueue (j : Job) (s : State) : Upd [.keys, .ses, .sesSys, .ev, .sen] s (enqueue j s) := by
  unfold enqueue
  repeat' (first
    | with_reducible assumption
    | with_reducible exact Upd.refl _ _
    | (show subParts _ _ = true; rfl)
    | with_reducible apply Upd.ite
    | with_reducible apply Upd.comp (upd_modKeys _ _)
    | with_reducible apply Upd.comp (upd_slotAnswer _ _ _ _ _ _)
    | with_reducible apply Upd.comp (upd_stallSession _ _ _)
    | split)

theorem upd_transAlloc {e : EngineId} {kind : TransKind} {point key n : Nat} {s t : State}
    (h : transAlloc e kind point key s = some (n, t)) : Upd [.keys] s t := by
  unfold transAlloc at h
  repeat' split at h
  all_goals first | contradiction | skip
  injection h with h
  injection h with _ h
  subst h
  exact upd_modKeys _ s

theorem upd_jobResult (j : Job) (s : State) : Upd [.keys] s (jobResult j s) := by
  unfold jobResult
  repeat' (first
    | with_reducible assumption
    | with_reducible exact Upd.refl _ _
    | (show subParts _ _ = true; rfl)
    | with_reducible apply Upd.ite
    | with_reducible apply Upd.comp (upd_slotAnswer _ _ _ _ _ _)
    | with_reducible apply Upd.comp (upd_transAlloc (by with_reducible assumption))
    | (extract_lets +onlyGivenNames x; first
        | (refine Upd.cut (P := [.keys]) (s := s) (x := x) ?_ ?_; (revert x; change Upd _ _ _); rotate_left; intro hx; clear_value x)
        | (refine Upd.cutL (P := [.keys]) (s := s) (x := x) ?_ ?_; (revert x; change Upd _ _ _); rotate_left; intro hx; clear_value x)
        | (refine Upd.cutR (P := [.keys]) (s := s) (x := x) ?_ ?_; (revert x; change Upd _ _ _); rotate_left; intro hx; clear_value x)
        | clear_value x)
    | split)

theorem upd_execCryptoJobDone (s : State) : ∃ u, execCryptoJobDone s = .next u ∧ Upd [.keys, .ses] s u := by
  unfold execCryptoJobDone
  refine ⟨_, rfl, ?_⟩
  repeat' (first
    | with_reducible assumption
    | with_reducible exact Upd.refl _ _
    | (show subParts _ _ = true; rfl)
    | with_reducible apply Upd.ite
    | with_reducible apply Upd.comp (upd_modKeys _ _)
    | with_reducible apply Upd.comp (upd_modSes _ _ _)
    | with_reducible apply Upd.comp (upd_jobResult _ _)
    | split)

theorem upd_slotRefuse (h : EngHalf) (op : SlotOp) (n : Nat) (cond : Nat) (s : State) : Upd [.keys, .ev, .sen] s (slotRefuse h op n cond s) := by
  unfold slotRefuse
  repeat' (first
    | with_reducible assumption
    | with_reducible exact Upd.refl _ _
    | (show subParts _ _ = true; rfl)
    | with_reducible apply Upd.ite
    | with_reducible apply Upd.comp (upd_slotAnswer _ _ _ _ _ _)
    | with_reducible apply Upd.comp (upd_raise _ _ _ _ _)
    | split)

theorem upd_slotSym (op : SlotOp) (h : EngHalf) (n : Nat) (f : Nat → List Nat) (s : State) : Upd [.keys, .ev, .sen] s (slotSym op h n f s) := by
  unfold slotSym
  repeat' (first
    | with_reducible assumption
    | with_reducible exact Upd.refl _ _
    | (show subParts _ _ = true; rfl)
    | with_reducible apply Upd.ite
    | with_reducible apply Upd.comp (upd_slotAnswer _ _ _ _ _ _)
    | with_reducible apply Upd.comp (upd_slotRefuse _ _ _ _ _)
    | split)

theorem upd_execSlotDecrypt (h : EngHalf) (slot : Nat) (data : List Nat) (s : State) : ∃ u, execSlotDecrypt h slot data s = .next u ∧ Upd [.keys, .ev, .sen] s u := by
  unfold execSlotDecrypt
  refine ⟨_, rfl, ?_⟩
  repeat' (first
    | with_reducible assumption
    | with_reducible exact Upd.refl _ _
    | (show subParts _ _ = true; rfl)
    | with_reducible apply Upd.ite
    | with_reducible apply Upd.comp (upd_slotSym _ _ _ _ _)
    | split)

theorem upd_execSlotDerive (h : EngHalf) (slot : Nat) (window : Bool) (tenant : Nat) (s : State) : ∃ u, execSlotDerive h slot window tenant s = .next u ∧ Upd [.keys, .ev, .sen] s u := by
  unfold execSlotDerive
  refine ⟨_, rfl, ?_⟩
  repeat' (first
    | with_reducible assumption
    | with_reducible exact Upd.refl _ _
    | (show subParts _ _ = true; rfl)
    | with_reducible apply Upd.ite
    | with_reducible apply Upd.comp (upd_transAlloc (by with_reducible assumption))
    | with_reducible apply Upd.comp (upd_slotAnswer _ _ _ _ _ _)
    | with_reducible apply Upd.comp (upd_slotRefuse _ _ _ _ _)
    | split)

theorem upd_execSlotEncrypt (h : EngHalf) (slot : Nat) (data : List Nat) (s : State) : ∃ u, execSlotEncrypt h slot data s = .next u ∧ Upd [.keys, .ev, .sen] s u := by
  unfold execSlotEncrypt
  refine ⟨_, rfl, ?_⟩
  repeat' (first
    | with_reducible assumption
    | with_reducible exact Upd.refl _ _
    | (show subParts _ _ = true; rfl)
    | with_reducible apply Upd.ite
    | with_reducible apply Upd.comp (upd_slotSym _ _ _ _ _)
    | split)

theorem upd_slotAsym (op : SlotOp) (h : EngHalf) (point : Nat) (n : Nat) (data : List Nat) (s : State) : Upd [.keys, .ses, .sesSys, .ev, .sen] s (slotAsym op h point n data s) := by
  unfold slotAsym
  repeat' (first
    | with_reducible assumption
    | with_reducible exact Upd.refl _ _
    | (show subParts _ _ = true; rfl)
    | with_reducible apply Upd.ite
    | with_reducible apply Upd.comp (upd_enqueue _ _)
    | with_reducible apply Upd.comp (upd_slotRefuse _ _ _ _ _)
    | split)

theorem upd_execSlotKeyAgreement (h : EngHalf) (point : Nat) (slot : Nat) (peer : List Nat) (s : State) : ∃ u, execSlotKeyAgreement h point slot peer s = .next u ∧ Upd [.keys, .ses, .sesSys, .ev, .sen] s u := by
  unfold execSlotKeyAgreement
  refine ⟨_, rfl, ?_⟩
  repeat' (first
    | with_reducible assumption
    | with_reducible exact Upd.refl _ _
    | (show subParts _ _ = true; rfl)
    | with_reducible apply Upd.ite
    | with_reducible apply Upd.comp (upd_slotAsym _ _ _ _ _ _)
    | split)

theorem upd_execSlotMac (h : EngHalf) (slot : Nat) (data : List Nat) (tag : Option Nat) (s : State) : ∃ u, execSlotMac h slot data tag s = .next u ∧ Upd [.keys, .ev, .sen] s u := by
  unfold execSlotMac
  refine ⟨_, rfl, ?_⟩
  repeat' (first
    | with_reducible assumption
    | with_reducible exact Upd.refl _ _
    | (show subParts _ _ = true; rfl)
    | with_reducible apply Upd.ite
    | with_reducible apply Upd.comp (upd_slotSym _ _ _ _ _)
    | split)

theorem upd_execSlotSign (h : EngHalf) (point : Nat) (slot : Nat) (data : List Nat) (s : State) : ∃ u, execSlotSign h point slot data s = .next u ∧ Upd [.keys, .ses, .sesSys, .ev, .sen] s u := by
  unfold execSlotSign
  refine ⟨_, rfl, ?_⟩
  repeat' (first
    | with_reducible assumption
    | with_reducible exact Upd.refl _ _
    | (show subParts _ _ = true; rfl)
    | with_reducible apply Upd.ite
    | with_reducible apply Upd.comp (upd_slotAsym _ _ _ _ _ _)
    | split)

theorem upd_execSlotVerify (h : EngHalf) (point : Nat) (slot : Nat) (data : List Nat) (s : State) : ∃ u, execSlotVerify h point slot data s = .next u ∧ Upd [.keys, .ses, .sesSys, .ev, .sen] s u := by
  unfold execSlotVerify
  refine ⟨_, rfl, ?_⟩
  repeat' (first
    | with_reducible assumption
    | with_reducible exact Upd.refl _ _
    | (show subParts _ _ = true; rfl)
    | with_reducible apply Upd.ite
    | with_reducible apply Upd.comp (upd_slotAsym _ _ _ _ _ _)
    | split)

theorem upd_execTrngHealthFail (adaptive : Bool) (fails : Nat) (s : State) : ∃ u, execTrngHealthFail adaptive fails s = .next u ∧ Upd [.keys, .ev, .sen] s u := by
  unfold execTrngHealthFail
  refine ⟨_, rfl, ?_⟩
  repeat' (first
    | with_reducible assumption
    | with_reducible exact Upd.refl _ _
    | (show subParts _ _ = true; rfl)
    | with_reducible apply Upd.ite
    | with_reducible apply Upd.comp (upd_modKeys _ _)
    | with_reducible apply Upd.comp (upd_drbgReruns _ _)
    | with_reducible apply Upd.comp (upd_raise _ _ _ _ _)
    | split)

end Sys2Proof.Machine
end

