-- ==== Sys2Proof/Laws/UpdPoints.lean ====
section
/-! SUPPORT. What the operations of Machine/Points.lean change: one lemma for each, that its result differs from its state at most in the parts named,
and that what only grows has not gone back. -/

namespace Sys2Proof.Machine

theorem upd_setPst (i : Fin 32) (p : PState) (s : State) : Upd [.cp] s (setPst i p s) := by
  unfold setPst
  repeat' (first
    | with_reducible assumption
    | with_reducible exact Upd.refl _ _
    | (show subParts _ _ = true; rfl)
    | with_reducible apply Upd.ite
    | with_reducible apply Upd.comp (upd_modCp _ _ _)
    | split)

theorem upd_endSes (i : Fin 32) (reason : Nat) (s : State) : Upd [.ses] s (endSes i reason s) := by
  unfold endSes
  repeat' (first
    | with_reducible assumption
    | with_reducible exact Upd.refl _ _
    | (show subParts _ _ = true; rfl)
    | with_reducible apply Upd.ite
    | with_reducible apply Upd.comp (upd_modSes _ _ _)
    | split)

end Sys2Proof.Machine
end

