-- ==== Sys2Proof/Laws/UpdSafety.lean ====
section
/-! SUPPORT. What the operations of Machine/Safety.lean change: one lemma for each, that its result differs from its state at most in the parts named,
and that what only grows has not gone back. -/

namespace Sys2Proof.Machine

theorem upd_modSsms (f : Ssm → Ssm) (s : State) : Upd [.safe] s (modSsms f s) := by
  unfold modSsms
  repeat' (first
    | with_reducible assumption
    | with_reducible exact Upd.refl _ _
    | (show subParts _ _ = true; rfl)
    | with_reducible apply Upd.ite
    | with_reducible apply Upd.comp (upd_modSafe _ _)
    | split)

theorem upd_recHub (cause : Nat) (s : State) : Upd [.safe] s (recHub cause s) := by
  unfold recHub
  repeat' (first
    | with_reducible assumption
    | with_reducible exact Upd.refl _ _
    | (show subParts _ _ = true; rfl)
    | with_reducible apply Upd.ite
    | with_reducible apply Upd.comp (upd_modSsms _ _)
    | split)

theorem upd_setOuts (a : Bool) (b : Bool) (s : State) : Upd [.safe] s (setOuts a b s) := by
  unfold setOuts
  repeat' (first
    | with_reducible assumption
    | with_reducible exact Upd.refl _ _
    | (show subParts _ _ = true; rfl)
    | with_reducible apply Upd.ite
    | with_reducible apply Upd.comp (upd_modSafe _ _)
    | split)

theorem upd_toSafeSt (i : Fin 32) (st : SafeSt) (s : State) : Upd [.psafe] s (toSafeSt i st s) := by
  unfold toSafeSt
  repeat' (first
    | with_reducible assumption
    | with_reducible exact Upd.refl _ _
    | (show subParts _ _ = true; rfl)
    | with_reducible apply Upd.ite
    | with_reducible apply Upd.comp (upd_modPsafe _ _ _)
    | split)

theorem upd_setOpinion (i : Fin 32) (permit : Bool) (s : State) : Upd [.safe] s (setOpinion i permit s) := by
  unfold setOpinion
  repeat' (first
    | with_reducible assumption
    | with_reducible exact Upd.refl _ _
    | (show subParts _ _ = true; rfl)
    | with_reducible apply Upd.ite
    | with_reducible apply Upd.comp (upd_modSsms _ _)
    | split)

theorem upd_withdraw (i : Fin 32) (s : State) : Upd [.safe, .cp] s (withdraw i s) := by
  unfold withdraw
  repeat' (first
    | with_reducible assumption
    | with_reducible exact Upd.refl _ _
    | (show subParts _ _ = true; rfl)
    | with_reducible apply Upd.ite
    | with_reducible apply Upd.comp (upd_modCp _ _ _)
    | with_reducible apply Upd.comp (upd_setOpinion _ _ _)
    | split)

theorem upd_stopPoint (i : Fin 32) (s : State) : Upd [.safe, .psafe, .cp] s (stopPoint i s) := by
  unfold stopPoint
  repeat' (first
    | with_reducible assumption
    | with_reducible exact Upd.refl _ _
    | (show subParts _ _ = true; rfl)
    | with_reducible apply Upd.ite
    | with_reducible apply Upd.comp (upd_toSafeSt _ _ _)
    | with_reducible apply Upd.comp (upd_withdraw _ _)
    | split)

theorem upd_railOpen (cause : Nat) (s : State) : Upd [.safe, .psafe, .cp, .ev, .sen] s (railOpen cause s) := by
  unfold railOpen
  repeat' (first
    | with_reducible assumption
    | with_reducible exact Upd.refl _ _
    | (show subParts _ _ = true; rfl)
    | with_reducible apply Upd.ite
    | (with_reducible apply Upd.foldl; intro u a hu)
    | with_reducible apply Upd.comp (upd_setOuts _ _ _)
    | with_reducible apply Upd.comp (upd_modSsms _ _)
    | with_reducible apply Upd.comp (upd_raiseIf _ _ _ _ _ _)
    | with_reducible apply Upd.comp (upd_stopPoint _ _)
    | split)

theorem upd_railTestFail (s : State) : Upd [.safe, .psafe, .cp, .ev, .sen] s (railTestFail s) := by
  unfold railTestFail
  repeat' (first
    | with_reducible assumption
    | with_reducible exact Upd.refl _ _
    | (show subParts _ _ = true; rfl)
    | with_reducible apply Upd.ite
    | with_reducible apply Upd.comp (upd_modSafe _ _)
    | with_reducible apply Upd.comp (upd_recHub _ _)
    | with_reducible apply Upd.comp (upd_railOpen _ _)
    | with_reducible apply Upd.comp (upd_raiseIf _ _ _ _ _ _)
    | with_reducible apply Upd.comp (upd_raise _ _ _ _ _)
    | split)

theorem upd_unstop (i : Fin 32) (s : State) : Upd [.psafe] s (unstop i s) := by
  unfold unstop
  repeat' (first
    | with_reducible assumption
    | with_reducible exact Upd.refl _ _
    | (show subParts _ _ = true; rfl)
    | with_reducible apply Upd.ite
    | with_reducible apply Upd.comp (upd_modPsafe _ _ _)
    | split)

theorem upd_railTestPass (s : State) : Upd [.safe, .ev, .sen] s (railTestPass s) := by
  unfold railTestPass
  repeat' (first
    | with_reducible assumption
    | with_reducible exact Upd.refl _ _
    | (show subParts _ _ = true; rfl)
    | with_reducible apply Upd.ite
    | with_reducible apply Upd.comp (upd_modSafe _ _)
    | with_reducible apply Upd.comp (upd_raise _ _ _ _ _)
    | split)

theorem upd_arm (mons : List (Bool × Bool)) (s : State) : Upd [.safe, .psafe, .cp, .ev, .sen] s (arm mons s) := by
  unfold arm
  repeat' (first
    | with_reducible assumption
    | with_reducible exact Upd.refl _ _
    | (show subParts _ _ = true; rfl)
    | with_reducible apply Upd.ite
    | (with_reducible apply Upd.foldl; intro u a hu)
    | with_reducible apply Upd.comp (upd_modSafe _ _)
    | with_reducible apply Upd.comp (upd_raise _ _ _ _ _)
    | with_reducible apply Upd.comp (upd_railTestFail _)
    | with_reducible apply Upd.comp (upd_setOuts _ _ _)
    | with_reducible apply Upd.comp (upd_modSsms _ _)
    | with_reducible apply Upd.comp (upd_unstop _ _)
    | with_reducible apply Upd.comp (upd_railTestPass _)
    | split)

theorem upd_openReq (i : Fin 32) (s : State) : Upd [.psafe] s (openReq i s) := by
  unfold openReq
  repeat' (first
    | with_reducible assumption
    | with_reducible exact Upd.refl _ _
    | (show subParts _ _ = true; rfl)
    | with_reducible apply Upd.ite
    | with_reducible apply Upd.comp (upd_modPsafe _ _ _)
    | split)

theorem upd_openBoundary (s : State) : Upd [.safe, .psafe, .cp] s (openBoundary s) := by
  unfold openBoundary
  repeat' (first
    | with_reducible assumption
    | with_reducible exact Upd.refl _ _
    | (show subParts _ _ = true; rfl)
    | with_reducible apply Upd.ite
    | (with_reducible apply Upd.foldl; intro u a hu)
    | with_reducible apply Upd.comp (upd_toSafeSt _ _ _)
    | with_reducible apply Upd.comp (upd_withdraw _ _)
    | split)

theorem upd_stopHead (slot : Fin 8) (f : PtSafe → PtSafe) (s : State) : Upd [.safe, .psafe, .cp] s (stopHead slot f s) := by
  unfold stopHead
  repeat' (first
    | with_reducible assumption
    | with_reducible exact Upd.refl _ _
    | (show subParts _ _ = true; rfl)
    | with_reducible apply Upd.ite
    | (with_reducible apply Upd.foldl; intro u a hu)
    | with_reducible apply Upd.comp (upd_modPsafe _ _ _)
    | with_reducible apply Upd.comp (upd_stopPoint _ _)
    | split)

theorem upd_clearHead (slot : Fin 8) (f : PtSafe → PtSafe) (s : State) : Upd [.psafe] s (clearHead slot f s) := by
  unfold clearHead
  repeat' (first
    | with_reducible assumption
    | with_reducible exact Upd.refl _ _
    | (show subParts _ _ = true; rfl)
    | with_reducible apply Upd.ite
    | (with_reducible apply Upd.foldl; intro u a hu)
    | with_reducible apply Upd.comp (upd_modPsafe _ _ _)
    | with_reducible apply Upd.comp (upd_unstop _ _)
    | split)

theorem upd_npeSupervision (slot : Fin 8) (lost : Bool) (s : State) : Upd [.safe, .psafe, .cp, .ev, .sen] s (npeSupervision slot lost s) := by
  unfold npeSupervision
  repeat' (first
    | with_reducible assumption
    | with_reducible exact Upd.refl _ _
    | (show subParts _ _ = true; rfl)
    | with_reducible apply Upd.ite
    | with_reducible apply Upd.comp (upd_stopHead _ _ _)
    | with_reducible apply Upd.comp (upd_raise _ _ _ _ _)
    | with_reducible apply Upd.comp (upd_clearHead _ _ _)
    | split)

theorem upd_execCloseRequest (point : Fin 32) (s : State) : ∃ u, execCloseRequest point s = .next u ∧ Upd [.psafe, .cp] s u := by
  unfold execCloseRequest
  refine ⟨_, rfl, ?_⟩
  repeat' (first
    | with_reducible assumption
    | with_reducible exact Upd.refl _ _
    | (show subParts _ _ = true; rfl)
    | with_reducible apply Upd.ite
    | with_reducible apply Upd.comp (upd_modPsafe _ _ _)
    | with_reducible apply Upd.comp (upd_modCp _ _ _)
    | split)

theorem upd_execClosingMark (point : Fin 32) (s : State) : ∃ u, execClosingMark point s = .next u ∧ Upd [.safe, .psafe, .cp] s u := by
  unfold execClosingMark
  refine ⟨_, rfl, ?_⟩
  repeat' (first
    | with_reducible assumption
    | with_reducible exact Upd.refl _ _
    | (show subParts _ _ = true; rfl)
    | with_reducible apply Upd.ite
    | with_reducible apply Upd.comp (upd_modPsafe _ _ _)
    | with_reducible apply Upd.comp (upd_setPst _ _ _)
    | with_reducible apply Upd.comp (upd_setOpinion _ _ _)
    | with_reducible apply Upd.comp (upd_withdraw _ _)
    | split)

theorem upd_execCpMissingDiode (point : Fin 32) (s : State) : ∃ u, execCpMissingDiode point s = .next u ∧ Upd [.safe, .psafe, .cp, .ev, .sen] s u := by
  unfold execCpMissingDiode
  refine ⟨_, rfl, ?_⟩
  repeat' (first
    | with_reducible assumption
    | with_reducible exact Upd.refl _ _
    | (show subParts _ _ = true; rfl)
    | with_reducible apply Upd.ite
    | with_reducible apply Upd.comp (upd_modPsafe _ _ _)
    | with_reducible apply Upd.comp (upd_stopPoint _ _)
    | with_reducible apply Upd.comp (upd_raise _ _ _ _ _)
    | split)

theorem upd_execCpShortToPe (point : Fin 32) (s : State) : ∃ u, execCpShortToPe point s = .next u ∧ Upd [.safe, .psafe, .cp, .ev, .sen] s u := by
  unfold execCpShortToPe
  refine ⟨_, rfl, ?_⟩
  repeat' (first
    | with_reducible assumption
    | with_reducible exact Upd.refl _ _
    | (show subParts _ _ = true; rfl)
    | with_reducible apply Upd.ite
    | with_reducible apply Upd.comp (upd_modPsafe _ _ _)
    | with_reducible apply Upd.comp (upd_stopPoint _ _)
    | with_reducible apply Upd.comp (upd_raise _ _ _ _ _)
    | split)

theorem upd_lockHub (cause : Nat) (code : Nat) (arg : Nat) (s : State) : Upd [.safe, .psafe, .cp, .ev, .sen] s (lockHub cause code arg s) := by
  unfold lockHub
  repeat' (first
    | with_reducible assumption
    | with_reducible exact Upd.refl _ _
    | (show subParts _ _ = true; rfl)
    | with_reducible apply Upd.ite
    | with_reducible apply Upd.comp (upd_modSafe _ _)
    | with_reducible apply Upd.comp (upd_recHub _ _)
    | with_reducible apply Upd.comp (upd_raise _ _ _ _ _)
    | with_reducible apply Upd.comp (upd_railOpen _ _)
    | with_reducible apply Upd.comp (upd_raiseIf _ _ _ _ _ _)
    | split)

theorem upd_execEstopDiscrepancy (s : State) : ∃ u, execEstopDiscrepancy s = .next u ∧ Upd [.safe, .psafe, .cp, .ev, .sen] s u := by
  unfold execEstopDiscrepancy
  refine ⟨_, rfl, ?_⟩
  repeat' (first
    | with_reducible assumption
    | with_reducible exact Upd.refl _ _
    | (show subParts _ _ = true; rfl)
    | with_reducible apply Upd.ite
    | with_reducible apply Upd.comp (upd_lockHub _ _ _ _)
    | split)

theorem upd_execEstopPressed (a : Bool) (b : Bool) (s : State) : ∃ u, execEstopPressed a b s = .next u ∧ Upd [.safe, .psafe, .cp, .ev, .sen] s u := by
  unfold execEstopPressed
  refine ⟨_, rfl, ?_⟩
  repeat' (first
    | with_reducible assumption
    | with_reducible exact Upd.refl _ _
    | (show subParts _ _ = true; rfl)
    | with_reducible apply Upd.ite
    | with_reducible apply Upd.comp (upd_modSafe _ _)
    | with_reducible apply Upd.comp (upd_lockHub _ _ _ _)
    | split)

theorem upd_execEstopReleased (s : State) : ∃ u, execEstopReleased s = .next u ∧ Upd [.safe, .ev, .sen] s u := by
  unfold execEstopReleased
  refine ⟨_, rfl, ?_⟩
  repeat' (first
    | with_reducible assumption
    | with_reducible exact Upd.refl _ _
    | (show subParts _ _ = true; rfl)
    | with_reducible apply Upd.ite
    | with_reducible apply Upd.comp (upd_modSafe _ _)
    | with_reducible apply Upd.comp (upd_raise _ _ _ _ _)
    | split)

theorem upd_recPoint (i : Fin 32) (cause : Nat) (s : State) : Upd [.safe] s (recPoint i cause s) := by
  unfold recPoint
  repeat' (first
    | with_reducible assumption
    | with_reducible exact Upd.refl _ _
    | (show subParts _ _ = true; rfl)
    | with_reducible apply Upd.ite
    | with_reducible apply Upd.comp (upd_modSsms _ _)
    | split)

theorem upd_lockPoint (i : Fin 32) (cause : Nat) (code : Nat) (source : Nat) (arg : Nat) (s : State) : Upd [.safe, .psafe, .cp, .ev, .sen] s (lockPoint i cause code source arg s) := by
  unfold lockPoint
  repeat' (first
    | with_reducible assumption
    | with_reducible exact Upd.refl _ _
    | (show subParts _ _ = true; rfl)
    | with_reducible apply Upd.ite
    | with_reducible apply Upd.comp (upd_modSafe _ _)
    | with_reducible apply Upd.comp (upd_modPsafe _ _ _)
    | with_reducible apply Upd.comp (upd_recPoint _ _ _)
    | with_reducible apply Upd.comp (upd_raise _ _ _ _ _)
    | with_reducible apply Upd.comp (upd_raiseIf _ _ _ _ _ _)
    | with_reducible apply Upd.comp (upd_withdraw _ _)
    | split)

theorem upd_execFeedbackAgainstCommand (point : Fin 32) (s : State) : ∃ u, execFeedbackAgainstCommand point s = .next u ∧ Upd [.safe, .psafe, .cp, .ev, .sen] s u := by
  unfold execFeedbackAgainstCommand
  refine ⟨_, rfl, ?_⟩
  repeat' (first
    | with_reducible assumption
    | with_reducible exact Upd.refl _ _
    | (show subParts _ _ = true; rfl)
    | with_reducible apply Upd.ite
    | with_reducible apply Upd.comp (upd_lockPoint _ _ _ _ _ _)
    | split)

theorem upd_execFeedbackDiscrepancy (point : Fin 32) (s : State) : ∃ u, execFeedbackDiscrepancy point s = .next u ∧ Upd [.safe, .psafe, .cp, .ev, .sen] s u := by
  unfold execFeedbackDiscrepancy
  refine ⟨_, rfl, ?_⟩
  repeat' (first
    | with_reducible assumption
    | with_reducible exact Upd.refl _ _
    | (show subParts _ _ = true; rfl)
    | with_reducible apply Upd.ite
    | with_reducible apply Upd.comp (upd_lockPoint _ _ _ _ _ _)
    | split)

theorem upd_execFluxgateFault (point : Fin 32) (s : State) : ∃ u, execFluxgateFault point s = .next u ∧ Upd [.heads, .safe, .psafe, .cp, .ev, .sen] s u := by
  unfold execFluxgateFault
  refine ⟨_, rfl, ?_⟩
  repeat' (first
    | with_reducible assumption
    | with_reducible exact Upd.refl _ _
    | (show subParts _ _ = true; rfl)
    | with_reducible apply Upd.ite
    | with_reducible apply Upd.comp (upd_modHead _ _ _)
    | with_reducible apply Upd.comp (upd_lockPoint _ _ _ _ _ _)
    | split)

theorem upd_execHeadAcTrip (point : Fin 32) (iac : Nat) (s : State) : ∃ u, execHeadAcTrip point iac s = .next u ∧ Upd [.heads, .safe, .psafe, .cp, .ev, .sen] s u := by
  unfold execHeadAcTrip
  refine ⟨_, rfl, ?_⟩
  repeat' (first
    | with_reducible assumption
    | with_reducible exact Upd.refl _ _
    | (show subParts _ _ = true; rfl)
    | with_reducible apply Upd.ite
    | with_reducible apply Upd.comp (upd_modHead _ _ _)
    | with_reducible apply Upd.comp (upd_lockPoint _ _ _ _ _ _)
    | split)

theorem upd_execHeadDcTrip (point : Fin 32) (idc : Nat) (s : State) : ∃ u, execHeadDcTrip point idc s = .next u ∧ Upd [.heads, .safe, .psafe, .cp, .ev, .sen] s u := by
  unfold execHeadDcTrip
  refine ⟨_, rfl, ?_⟩
  repeat' (first
    | with_reducible assumption
    | with_reducible exact Upd.refl _ _
    | (show subParts _ _ = true; rfl)
    | with_reducible apply Upd.ite
    | with_reducible apply Upd.comp (upd_modHead _ _ _)
    | with_reducible apply Upd.comp (upd_lockPoint _ _ _ _ _ _)
    | split)

theorem upd_execLockFeedbackLost (point : Fin 32) (s : State) : ∃ u, execLockFeedbackLost point s = .next u ∧ Upd [.safe, .psafe, .cp, .ev, .sen] s u := by
  unfold execLockFeedbackLost
  refine ⟨_, rfl, ?_⟩
  repeat' (first
    | with_reducible assumption
    | with_reducible exact Upd.refl _ _
    | (show subParts _ _ = true; rfl)
    | with_reducible apply Upd.ite
    | with_reducible apply Upd.comp (upd_modPsafe _ _ _)
    | with_reducible apply Upd.comp (upd_stopPoint _ _)
    | with_reducible apply Upd.comp (upd_raise _ _ _ _ _)
    | split)

theorem upd_resetPoint (i : Fin 32) (s : State) : Upd [.safe, .psafe, .ev, .sen] s (resetPoint i s) := by
  unfold resetPoint
  repeat' (first
    | with_reducible assumption
    | with_reducible exact Upd.refl _ _
    | (show subParts _ _ = true; rfl)
    | with_reducible apply Upd.ite
    | with_reducible apply Upd.comp (upd_modPsafe _ _ _)
    | with_reducible apply Upd.comp (upd_raise _ _ _ _ _)
    | with_reducible apply Upd.comp (upd_modSsms _ _)
    | split)

theorem upd_execLockoutReset (mons : List (Bool × Bool)) (s : State) : ∃ u, execLockoutReset mons s = .next u ∧ Upd [.safe, .psafe, .cp, .ev, .sen] s u := by
  unfold execLockoutReset
  refine ⟨_, rfl, ?_⟩
  repeat' (first
    | with_reducible assumption
    | with_reducible exact Upd.refl _ _
    | (show subParts _ _ = true; rfl)
    | with_reducible apply Upd.ite
    | (with_reducible apply Upd.foldl; intro u a hu)
    | with_reducible apply Upd.comp (upd_modSafe _ _)
    | with_reducible apply Upd.comp (upd_resetPoint _ _)
    | with_reducible apply Upd.comp (upd_arm _ _)
    | with_reducible apply Upd.comp (upd_raise _ _ _ _ _)
    | with_reducible apply Upd.comp (upd_modSsms _ _)
    | split)

theorem upd_execLowSideDriverFault (point : Fin 32) (s : State) : ∃ u, execLowSideDriverFault point s = .next u ∧ Upd [.heads, .safe, .psafe, .cp, .ev, .sen] s u := by
  unfold execLowSideDriverFault
  refine ⟨_, rfl, ?_⟩
  repeat' (first
    | with_reducible assumption
    | with_reducible exact Upd.refl _ _
    | (show subParts _ _ = true; rfl)
    | with_reducible apply Upd.ite
    | with_reducible apply Upd.comp (upd_modHead _ _ _)
    | with_reducible apply Upd.comp (upd_lockPoint _ _ _ _ _ _)
    | split)

theorem upd_execNpeCleared (slot : Fin 8) (s : State) : ∃ u, execNpeCleared slot s = .next u ∧ Upd [.psafe, .ev, .sen] s u := by
  unfold execNpeCleared
  refine ⟨_, rfl, ?_⟩
  repeat' (first
    | with_reducible assumption
    | with_reducible exact Upd.refl _ _
    | (show subParts _ _ = true; rfl)
    | with_reducible apply Upd.ite
    | with_reducible apply Upd.comp (upd_clearHead _ _ _)
    | with_reducible apply Upd.comp (upd_raise _ _ _ _ _)
    | split)

theorem upd_execNpeOvervoltage (slot : Fin 8) (s : State) : ∃ u, execNpeOvervoltage slot s = .next u ∧ Upd [.safe, .psafe, .cp, .ev, .sen] s u := by
  unfold execNpeOvervoltage
  refine ⟨_, rfl, ?_⟩
  repeat' (first
    | with_reducible assumption
    | with_reducible exact Upd.refl _ _
    | (show subParts _ _ = true; rfl)
    | with_reducible apply Upd.ite
    | with_reducible apply Upd.comp (upd_stopHead _ _ _)
    | with_reducible apply Upd.comp (upd_raise _ _ _ _ _)
    | split)

theorem upd_execOpenRequest (point : Fin 32) (s : State) : ∃ u, execOpenRequest point s = .next u ∧ Upd [.psafe] s u := by
  unfold execOpenRequest
  refine ⟨_, rfl, ?_⟩
  repeat' (first
    | with_reducible assumption
    | with_reducible exact Upd.refl _ _
    | (show subParts _ _ = true; rfl)
    | with_reducible apply Upd.ite
    | with_reducible apply Upd.comp (upd_openReq _ _)
    | split)

theorem upd_testFailed (i : Fin 32) (mean : Nat) (s : State) : Upd [.safe, .psafe, .cp, .ev, .sen] s (testFailed i mean s) := by
  unfold testFailed
  repeat' (first
    | with_reducible assumption
    | with_reducible exact Upd.refl _ _
    | (show subParts _ _ = true; rfl)
    | with_reducible apply Upd.ite
    | with_reducible apply Upd.comp (upd_modPsafe _ _ _)
    | with_reducible apply Upd.comp (upd_modCp _ _ _)
    | with_reducible apply Upd.comp (upd_lockPoint _ _ _ _ _ _)
    | with_reducible apply Upd.comp (upd_raise _ _ _ _ _)
    | split)

theorem upd_execPreclosureTestEnd (point : Fin 32) (s : State) : ∃ u, execPreclosureTestEnd point s = .next u ∧ Upd [.safe, .psafe, .cp, .ev, .sen] s u := by
  unfold execPreclosureTestEnd
  refine ⟨_, rfl, ?_⟩
  repeat' (first
    | with_reducible assumption
    | with_reducible exact Upd.refl _ _
    | (show subParts _ _ = true; rfl)
    | with_reducible apply Upd.ite
    | with_reducible apply Upd.comp (upd_modPsafe _ _ _)
    | with_reducible apply Upd.comp (upd_testFailed _ _ _)
    | with_reducible apply Upd.comp (upd_withdraw _ _)
    | split)

theorem upd_execProximityFault (point : Fin 32) (s : State) : ∃ u, execProximityFault point s = .next u ∧ Upd [.safe, .psafe, .cp, .ev, .sen] s u := by
  unfold execProximityFault
  refine ⟨_, rfl, ?_⟩
  repeat' (first
    | with_reducible assumption
    | with_reducible exact Upd.refl _ _
    | (show subParts _ _ = true; rfl)
    | with_reducible apply Upd.ite
    | with_reducible apply Upd.comp (upd_modPsafe _ _ _)
    | with_reducible apply Upd.comp (upd_stopPoint _ _)
    | with_reducible apply Upd.comp (upd_raise _ _ _ _ _)
    | split)

theorem upd_execPtExcitationClear (point : Fin 32) (s : State) : ∃ u, execPtExcitationClear point s = .next u ∧ Upd [.psafe] s u := by
  unfold execPtExcitationClear
  refine ⟨_, rfl, ?_⟩
  repeat' (first
    | with_reducible assumption
    | with_reducible exact Upd.refl _ _
    | (show subParts _ _ = true; rfl)
    | with_reducible apply Upd.ite
    | with_reducible apply Upd.comp (upd_modPsafe _ _ _)
    | with_reducible apply Upd.comp (upd_unstop _ _)
    | split)

theorem upd_execPtExcitationFault (point : Fin 32) (second : Bool) (s : State) : ∃ u, execPtExcitationFault point second s = .next u ∧ Upd [.safe, .psafe, .cp, .ev, .sen] s u := by
  unfold execPtExcitationFault
  refine ⟨_, rfl, ?_⟩
  repeat' (first
    | with_reducible assumption
    | with_reducible exact Upd.refl _ _
    | (show subParts _ _ = true; rfl)
    | with_reducible apply Upd.ite
    | with_reducible apply Upd.comp (upd_modPsafe _ _ _)
    | with_reducible apply Upd.comp (upd_stopPoint _ _)
    | with_reducible apply Upd.comp (upd_raise _ _ _ _ _)
    | split)

theorem upd_execRailTest (mons : List (Bool × Bool)) (s : State) : ∃ u, execRailTest mons s = .next u ∧ Upd [.safe, .psafe, .cp, .ev, .sen] s u := by
  unfold execRailTest
  refine ⟨_, rfl, ?_⟩
  repeat' (first
    | with_reducible assumption
    | with_reducible exact Upd.refl _ _
    | (show subParts _ _ = true; rfl)
    | with_reducible apply Upd.ite
    | with_reducible apply Upd.comp (upd_railTestPass _)
    | with_reducible apply Upd.comp (upd_railTestFail _)
    | split)

theorem upd_execRailTestOverdue (s : State) : ∃ u, execRailTestOverdue s = .next u ∧ Upd [.safe, .ev, .sen] s u := by
  unfold execRailTestOverdue
  refine ⟨_, rfl, ?_⟩
  repeat' (first
    | with_reducible assumption
    | with_reducible exact Upd.refl _ _
    | (show subParts _ _ = true; rfl)
    | with_reducible apply Upd.ite
    | with_reducible apply Upd.comp (upd_modSafe _ _)
    | with_reducible apply Upd.comp (upd_raise _ _ _ _ _)
    | split)

theorem upd_execRstReqFall (usA : Nat) (usB : Nat) (s : State) : ∃ u, execRstReqFall usA usB s = .next u ∧ Upd [.safe, .ev, .sen] s u := by
  unfold execRstReqFall
  refine ⟨_, rfl, ?_⟩
  repeat' (first
    | with_reducible assumption
    | with_reducible exact Upd.refl _ _
    | (show subParts _ _ = true; rfl)
    | with_reducible apply Upd.ite
    | with_reducible apply Upd.comp (upd_modSafe _ _)
    | with_reducible apply Upd.comp (upd_raise _ _ _ _ _)
    | split)

theorem upd_execRstReqRise (s : State) : ∃ u, execRstReqRise s = .next u ∧ Upd [.safe] s u := by
  unfold execRstReqRise
  refine ⟨_, rfl, ?_⟩
  repeat' (first
    | with_reducible assumption
    | with_reducible exact Upd.refl _ _
    | (show subParts _ _ = true; rfl)
    | with_reducible apply Upd.ite
    | with_reducible apply Upd.comp (upd_modSafe _ _)
    | split)

theorem upd_execSafeMonFault (monA : Bool) (monB : Bool) (s : State) : ∃ u, execSafeMonFault monA monB s = .next u ∧ Upd [.safe, .psafe, .cp, .ev, .sen] s u := by
  unfold execSafeMonFault
  refine ⟨_, rfl, ?_⟩
  repeat' (first
    | with_reducible assumption
    | with_reducible exact Upd.refl _ _
    | (show subParts _ _ = true; rfl)
    | with_reducible apply Upd.ite
    | with_reducible apply Upd.comp (upd_modSafe _ _)
    | with_reducible apply Upd.comp (upd_lockHub _ _ _ _)
    | split)

theorem upd_execSsmAcTrip (point : Fin 32) (s : State) : ∃ u, execSsmAcTrip point s = .next u ∧ Upd [.safe, .psafe, .cp, .ev, .sen] s u := by
  unfold execSsmAcTrip
  refine ⟨_, rfl, ?_⟩
  repeat' (first
    | with_reducible assumption
    | with_reducible exact Upd.refl _ _
    | (show subParts _ _ = true; rfl)
    | with_reducible apply Upd.ite
    | with_reducible apply Upd.comp (upd_lockPoint _ _ _ _ _ _)
    | split)

theorem upd_execSsmClockStop (isB : Bool) (s : State) : ∃ u, execSsmClockStop isB s = .next u ∧ Upd [.safe] s u := by
  unfold execSsmClockStop
  refine ⟨_, rfl, ?_⟩
  repeat' (first
    | with_reducible assumption
    | with_reducible exact Upd.refl _ _
    | (show subParts _ _ = true; rfl)
    | with_reducible apply Upd.ite
    | with_reducible apply Upd.comp (upd_modSafe _ _)
    | with_reducible apply Upd.comp (upd_setOuts _ _ _)
    | split)

theorem upd_execSsmDcBackup (point : Fin 32) (s : State) : ∃ u, execSsmDcBackup point s = .next u ∧ Upd [.safe, .psafe, .cp, .ev, .sen] s u := by
  unfold execSsmDcBackup
  refine ⟨_, rfl, ?_⟩
  repeat' (first
    | with_reducible assumption
    | with_reducible exact Upd.refl _ _
    | (show subParts _ _ = true; rfl)
    | with_reducible apply Upd.ite
    | with_reducible apply Upd.comp (upd_lockPoint _ _ _ _ _ _)
    | split)

theorem upd_execSsmDiscrepancy (point : Option (Fin 32)) (s : State) : ∃ u, execSsmDiscrepancy point s = .next u ∧ Upd [.safe, .psafe, .cp, .ev, .sen] s u := by
  unfold execSsmDiscrepancy
  refine ⟨_, rfl, ?_⟩
  repeat' (first
    | with_reducible assumption
    | with_reducible exact Upd.refl _ _
    | (show subParts _ _ = true; rfl)
    | with_reducible apply Upd.ite
    | with_reducible apply Upd.comp (upd_lockHub _ _ _ _)
    | split)

theorem upd_execT2Cleared (point : Fin 32) (s : State) : ∃ u, execT2Cleared point s = .next u ∧ Upd [.psafe, .ev, .sen] s u := by
  unfold execT2Cleared
  refine ⟨_, rfl, ?_⟩
  repeat' (first
    | with_reducible assumption
    | with_reducible exact Upd.refl _ _
    | (show subParts _ _ = true; rfl)
    | with_reducible apply Upd.ite
    | with_reducible apply Upd.comp (upd_modPsafe _ _ _)
    | with_reducible apply Upd.comp (upd_unstop _ _)
    | with_reducible apply Upd.comp (upd_raise _ _ _ _ _)
    | split)

theorem upd_execT2Stop (point : Fin 32) (s : State) : ∃ u, execT2Stop point s = .next u ∧ Upd [.safe, .psafe, .cp, .ev, .sen] s u := by
  unfold execT2Stop
  refine ⟨_, rfl, ?_⟩
  repeat' (first
    | with_reducible assumption
    | with_reducible exact Upd.refl _ _
    | (show subParts _ _ = true; rfl)
    | with_reducible apply Upd.ite
    | with_reducible apply Upd.comp (upd_modPsafe _ _ _)
    | with_reducible apply Upd.comp (upd_stopPoint _ _)
    | with_reducible apply Upd.comp (upd_raise _ _ _ _ _)
    | split)

theorem upd_execWeldDetected (point : Fin 32) (s : State) : ∃ u, execWeldDetected point s = .next u ∧ Upd [.safe, .psafe, .cp, .ev, .sen] s u := by
  unfold execWeldDetected
  refine ⟨_, rfl, ?_⟩
  repeat' (first
    | with_reducible assumption
    | with_reducible exact Upd.refl _ _
    | (show subParts _ _ = true; rfl)
    | with_reducible apply Upd.ite
    | with_reducible apply Upd.comp (upd_modPsafe _ _ _)
    | with_reducible apply Upd.comp (upd_lockPoint _ _ _ _ _ _)
    | split)

end Sys2Proof.Machine
end

