-- ==== Sys2Proof/Laws/UpdTunnel.lean ====
section
/-! SUPPORT. What the operations of Machine/Tunnel.lean change: one lemma for each, that its result differs from its state at most in the parts named,
and that what only grows has not gone back. -/

namespace Sys2Proof.Machine

theorem upd_tunnelMsg (i : Fin 32) (kind : Nat) (bytes : List Nat) (s : State) : Upd [.ports] s (tunnelMsg i kind bytes s) := by
  unfold tunnelMsg
  repeat' (first
    | with_reducible assumption
    | with_reducible exact Upd.refl _ _
    | (show subParts _ _ = true; rfl)
    | with_reducible apply Upd.ite
    | with_reducible apply Upd.comp (upd_modPort _ _ _)
    | split)

theorem upd_rxControl (i : Fin 32) (action : Nat) (pipe : Nat) (s : State) : Upd [.ports] s (rxControl i action pipe s) := by
  unfold rxControl
  repeat' (first
    | with_reducible assumption
    | with_reducible exact Upd.refl _ _
    | (show subParts _ _ = true; rfl)
    | with_reducible apply Upd.ite
    | with_reducible apply Upd.comp (upd_tunnelMsg _ _ _ _)
    | split)

theorem upd_pipeEvent (slot : Fin 8) (code : Nat) (arg : Nat) (s : State) : Upd [.ev, .sen] s (pipeEvent slot code arg s) := by
  unfold pipeEvent
  repeat' (first
    | with_reducible assumption
    | with_reducible exact Upd.refl _ _
    | (show subParts _ _ = true; rfl)
    | with_reducible apply Upd.ite
    | with_reducible apply Upd.comp (upd_raise _ _ _ _ _)
    | split)

theorem upd_pipesAdmit (slot : Fin 8) (serial : Nat) (s : State) : Upd [.ports, .plc, .pipes, .ev, .sen] s (pipesAdmit slot serial s) := by
  unfold pipesAdmit
  repeat' (first
    | with_reducible assumption
    | with_reducible exact Upd.refl _ _
    | (show subParts _ _ = true; rfl)
    | with_reducible apply Upd.ite
    | (with_reducible apply Upd.foldl; intro u a hu)
    | with_reducible apply Upd.comp (upd_modPipes _ _ _)
    | with_reducible apply Upd.comp (upd_modPort _ _ _)
    | with_reducible apply Upd.comp (upd_modPlc _ _ _)
    | with_reducible apply Upd.comp (upd_tunnelMsg _ _ _ _)
    | with_reducible apply Upd.comp (upd_rxControl _ _ _ _)
    | with_reducible apply Upd.comp (upd_pipeEvent _ _ _ _)
    | split)

theorem upd_netClear (i : Fin 32) (s : State) : Upd [.ports, .plc] s (netClear i s) := by
  unfold netClear
  repeat' (first
    | with_reducible assumption
    | with_reducible exact Upd.refl _ _
    | (show subParts _ _ = true; rfl)
    | with_reducible apply Upd.ite
    | with_reducible apply Upd.comp (upd_modPlc _ _ _)
    | with_reducible apply Upd.comp (upd_tunnelMsg _ _ _ _)
    | split)

theorem upd_slacIdle (i : Fin 32) (s : State) : Upd [.ports, .plc] s (slacIdle i s) := by
  unfold slacIdle
  repeat' (first
    | with_reducible assumption
    | with_reducible exact Upd.refl _ _
    | (show subParts _ _ = true; rfl)
    | with_reducible apply Upd.ite
    | with_reducible apply Upd.comp (upd_modPlc _ _ _)
    | with_reducible apply Upd.comp (upd_netClear _ _)
    | split)

theorem upd_pipeBoundary (s : State) : Upd [.ports, .plc, .pipes] s (pipeBoundary s) := by
  unfold pipeBoundary
  repeat' (first
    | with_reducible assumption
    | with_reducible exact Upd.refl _ _
    | (show subParts _ _ = true; rfl)
    | with_reducible apply Upd.ite
    | (with_reducible apply Upd.foldl; intro u a hu)
    | with_reducible apply Upd.comp (upd_modPipes _ _ _)
    | with_reducible apply Upd.comp (upd_modPlc _ _ _)
    | with_reducible apply Upd.comp (upd_rxControl _ _ _ _)
    | (extract_lets +onlyGivenNames x; first
        | (refine Upd.cut (P := [.ports, .plc, .pipes]) (s := s) (x := x) ?_ ?_; (revert x; change Upd _ _ _); rotate_left; intro hx; clear_value x)
        | (refine Upd.cutL (P := [.ports, .plc, .pipes]) (s := s) (x := x) ?_ ?_; (revert x; change Upd _ _ _); rotate_left; intro hx; clear_value x)
        | (refine Upd.cutR (P := [.ports, .plc, .pipes]) (s := s) (x := x) ?_ ?_; (revert x; change Upd _ _ _); rotate_left; intro hx; clear_value x)
        | clear_value x)
    | split)

theorem upd_sendMpdu (i : Fin 32) (desc : Nat) (body : List Nat) (s : State) : Upd [.ports, .plc] s (sendMpdu i desc body s) := by
  unfold sendMpdu
  repeat' (first
    | with_reducible assumption
    | with_reducible exact Upd.refl _ _
    | (show subParts _ _ = true; rfl)
    | with_reducible apply Upd.ite
    | with_reducible apply Upd.comp (upd_modPlc _ _ _)
    | with_reducible apply Upd.comp (upd_tunnelMsg _ _ _ _)
    | split)

theorem upd_sendMessage (i : Fin 32) (code : Nat) (fields : List Nat) (s : State) : Upd [.ports, .plc] s (sendMessage i code fields s) := by
  unfold sendMessage
  repeat' (first
    | with_reducible assumption
    | with_reducible exact Upd.refl _ _
    | (show subParts _ _ = true; rfl)
    | with_reducible apply Upd.ite
    | (with_reducible apply Upd.foldl; intro u a hu)
    | with_reducible apply Upd.comp (upd_sendMpdu _ _ _ _)
    | split)

theorem upd_modPipe (slot : Fin 8) (p : Fin 5) (f : Pipe → Pipe) (s : State) : Upd [.pipes] s (modPipe slot p f s) := by
  unfold modPipe
  repeat' (first
    | with_reducible assumption
    | with_reducible exact Upd.refl _ _
    | (show subParts _ _ = true; rfl)
    | with_reducible apply Upd.ite
    | with_reducible apply Upd.comp (upd_modPipes _ _ _)
    | split)

theorem upd_sendHeld (i : Fin 32) (s : State) : Upd [.ports, .plc] s (sendHeld i s) := by
  unfold sendHeld
  repeat' (first
    | with_reducible assumption
    | with_reducible exact Upd.refl _ _
    | (show subParts _ _ = true; rfl)
    | with_reducible apply Upd.ite
    | with_reducible apply Upd.comp (upd_modPlc _ _ _)
    | with_reducible apply Upd.comp (upd_sendMpdu _ _ _ _)
    | split)

theorem upd_pipeLost (slot : Fin 8) (p : Fin 4) (s : State) : Upd [.plc, .pipes, .ev, .sen] s (pipeLost slot p s) := by
  unfold pipeLost
  repeat' (first
    | with_reducible assumption
    | with_reducible exact Upd.refl _ _
    | (show subParts _ _ = true; rfl)
    | with_reducible apply Upd.ite
    | with_reducible apply Upd.comp (upd_modPipes _ _ _)
    | with_reducible apply Upd.comp (upd_modPlc _ _ _)
    | with_reducible apply Upd.comp (upd_modPipe _ _ _ _)
    | with_reducible apply Upd.comp (upd_pipeEvent _ _ _ _)
    | split)

theorem upd_pipeStatus (slot : Fin 8) (s : State) : Upd [.ports, .plc, .pipes, .ev, .sen] s (pipeStatus slot s) := by
  unfold pipeStatus
  repeat' (first
    | with_reducible assumption
    | with_reducible exact Upd.refl _ _
    | (show subParts _ _ = true; rfl)
    | with_reducible apply Upd.ite
    | (with_reducible apply Upd.foldl; intro u a hu)
    | with_reducible apply Upd.comp (upd_modPipes _ _ _)
    | with_reducible apply Upd.comp (upd_pipeLost _ _ _)
    | with_reducible apply Upd.comp (upd_rxControl _ _ _ _)
    | with_reducible apply Upd.comp (upd_modPipe _ _ _ _)
    | (extract_lets +onlyGivenNames x; first
        | (refine Upd.cut (P := [.ports, .plc, .pipes, .ev, .sen]) (s := s) (x := x) ?_ ?_; (revert x; change Upd _ _ _); rotate_left; intro hx; clear_value x)
        | (refine Upd.cutL (P := [.ports, .plc, .pipes, .ev, .sen]) (s := s) (x := x) ?_ ?_; (revert x; change Upd _ _ _); rotate_left; intro hx; clear_value x)
        | (refine Upd.cutR (P := [.ports, .plc, .pipes, .ev, .sen]) (s := s) (x := x) ?_ ?_; (revert x; change Upd _ _ _); rotate_left; intro hx; clear_value x)
        | clear_value x)
    | split)

end Sys2Proof.Machine
end

