-- ==== Sys2Proof/Laws/UpdSesCore.lean ====
section
/-! SUPPORT. What the operations of Machine/SesCore.lean change: one lemma for each, that its result differs from its state at most in the parts named,
and that what only grows has not gone back. -/

namespace Sys2Proof.Machine

theorem upd_dropSesKeys (i : Fin 32) (s : State) : Upd [.keys] s (dropSesKeys i s) := by
  unfold dropSesKeys
  repeat' (first
    | with_reducible assumption
    | with_reducible exact Upd.refl _ _
    | (show subParts _ _ = true; rfl)
    | with_reducible apply Upd.ite
    | with_reducible apply Upd.comp (upd_modKeys _ _)
    | with_reducible apply Upd.comp (upd_transDrop _ _)
    | split)

theorem upd_freeHandshake (i : Fin 32) (s : State) : Upd [.ses, .sesSys] s (freeHandshake i s) := by
  unfold freeHandshake
  repeat' (first
    | with_reducible assumption
    | with_reducible exact Upd.refl _ _
    | (show subParts _ _ = true; rfl)
    | with_reducible apply Upd.ite
    | with_reducible apply Upd.comp (upd_modSesSys _ _)
    | with_reducible apply Upd.comp (upd_modSes _ _ _)
    | (extract_lets +onlyGivenNames x; first
        | (refine Upd.cut (P := [.ses, .sesSys]) (s := s) (x := x) ?_ ?_; (revert x; change Upd _ _ _); rotate_left; intro hx; clear_value x)
        | (refine Upd.cutL (P := [.ses, .sesSys]) (s := s) (x := x) ?_ ?_; (revert x; change Upd _ _ _); rotate_left; intro hx; clear_value x)
        | (refine Upd.cutR (P := [.ses, .sesSys]) (s := s) (x := x) ?_ ?_; (revert x; change Upd _ _ _); rotate_left; intro hx; clear_value x)
        | clear_value x)
    | split)

theorem upd_closeConn (i : Fin 32) (s : State) : Upd [.keys, .cp, .plc, .ses, .sesSys] s (closeConn i s) := by
  unfold closeConn
  repeat' (first
    | with_reducible assumption
    | with_reducible exact Upd.refl _ _
    | (show subParts _ _ = true; rfl)
    | with_reducible apply Upd.ite
    | with_reducible apply Upd.comp (upd_modCp _ _ _)
    | with_reducible apply Upd.comp (upd_modPlc _ _ _)
    | with_reducible apply Upd.comp (upd_modSes _ _ _)
    | with_reducible apply Upd.comp (upd_dropSesKeys _ _)
    | with_reducible apply Upd.comp (upd_freeHandshake _ _)
    | split)

theorem upd_toBasic (i : Fin 32) (s : State) : Upd [.keys, .cp, .plc, .ses, .sesSys] s (toBasic i s) := by
  unfold toBasic
  repeat' (first
    | with_reducible assumption
    | with_reducible exact Upd.refl _ _
    | (show subParts _ _ = true; rfl)
    | with_reducible apply Upd.ite
    | with_reducible apply Upd.comp (upd_modSesSys _ _)
    | with_reducible apply Upd.comp (upd_modSes _ _ _)
    | with_reducible apply Upd.comp (upd_closeConn _ _)
    | split)

theorem upd_withdrawHlc (i : Fin 32) (s : State) : Upd [.keys, .cp, .plc, .ses, .sesSys, .ev, .sen] s (withdrawHlc i s) := by
  unfold withdrawHlc
  repeat' (first
    | with_reducible assumption
    | with_reducible exact Upd.refl _ _
    | (show subParts _ _ = true; rfl)
    | with_reducible apply Upd.ite
    | with_reducible apply Upd.comp (upd_modSes _ _ _)
    | with_reducible apply Upd.comp (upd_toBasic _ _)
    | with_reducible apply Upd.comp (upd_endSes _ _ _)
    | with_reducible apply Upd.comp (upd_raise _ _ _ _ _)
    | split)

theorem upd_addStrike (i : Fin 32) (s : State) : Upd [.keys, .cp, .plc, .ses, .sesSys, .ev, .sen] s (addStrike i s) := by
  unfold addStrike
  repeat' (first
    | with_reducible assumption
    | with_reducible exact Upd.refl _ _
    | (show subParts _ _ = true; rfl)
    | with_reducible apply Upd.ite
    | with_reducible apply Upd.comp (upd_modSes _ _ _)
    | with_reducible apply Upd.comp (upd_withdrawHlc _ _)
    | split)

theorem upd_pushNotice (b : BindNotice) (s : State) : Upd [.gates] s (pushNotice b s) := by
  unfold pushNotice
  repeat' (first
    | with_reducible assumption
    | with_reducible exact Upd.refl _ _
    | (show subParts _ _ = true; rfl)
    | with_reducible apply Upd.ite
    | with_reducible apply Upd.comp (upd_modGates _ _)
    | split)

theorem upd_sesEnd (i : Fin 32) (reason : Nat) (s : State) : Upd [.gates, .psafe, .ses, .ev, .sen] s (sesEnd i reason s) := by
  unfold sesEnd
  repeat' (first
    | with_reducible assumption
    | with_reducible exact Upd.refl _ _
    | (show subParts _ _ = true; rfl)
    | with_reducible apply Upd.ite
    | with_reducible apply Upd.comp (upd_modSes _ _ _)
    | with_reducible apply Upd.comp (upd_raise _ _ _ _ _)
    | with_reducible apply Upd.comp (upd_pushNotice _ _)
    | with_reducible apply Upd.comp (upd_openReq _ _)
    | split)

theorem upd_closeContext (i : Fin 32) (s : State) : Upd [.keys, .ports, .cp, .plc, .ses, .sesSys] s (closeContext i s) := by
  unfold closeContext
  repeat' (first
    | with_reducible assumption
    | with_reducible exact Upd.refl _ _
    | (show subParts _ _ = true; rfl)
    | with_reducible apply Upd.ite
    | with_reducible apply Upd.comp (upd_modSesSys _ _)
    | with_reducible apply Upd.comp (upd_modCp _ _ _)
    | with_reducible apply Upd.comp (upd_modSes _ _ _)
    | with_reducible apply Upd.comp (upd_slacIdle _ _)
    | with_reducible apply Upd.comp (upd_closeConn _ _)
    | split)

theorem upd_openContext (i : Fin 32) (s : State) : Upd [.plc, .ses, .sesSys, .ev, .sen] s (openContext i s) := by
  unfold openContext
  repeat' (first
    | with_reducible assumption
    | with_reducible exact Upd.refl _ _
    | (show subParts _ _ = true; rfl)
    | with_reducible apply Upd.ite
    | with_reducible apply Upd.comp (upd_modSesSys _ _)
    | with_reducible apply Upd.comp (upd_modSes _ _ _)
    | with_reducible apply Upd.comp (upd_modPlc _ _ _)
    | with_reducible apply Upd.comp (upd_raise _ _ _ _ _)
    | split)

theorem upd_strike (i : Fin 32) (s : State) : Upd [.keys, .cp, .plc, .ses, .sesSys, .ev, .sen] s (strike i s) := by
  unfold strike
  repeat' (first
    | with_reducible assumption
    | with_reducible exact Upd.refl _ _
    | (show subParts _ _ = true; rfl)
    | with_reducible apply Upd.ite
    | with_reducible apply Upd.comp (upd_addStrike _ _)
    | with_reducible apply Upd.comp (upd_closeConn _ _)
    | split)

theorem upd_respond (i : Fin 32) (jobs : Bool) (kind : Nat) (code : Nat) (ms : Nat) (fields : List Nat) (s : State) : Upd [.ports, .plc, .ses, .sesSys, .ev, .sen] s (respond i jobs kind code ms fields s) := by
  unfold respond
  repeat' (first
    | with_reducible assumption
    | with_reducible exact Upd.refl _ _
    | (show subParts _ _ = true; rfl)
    | with_reducible apply Upd.ite
    | with_reducible apply Upd.comp (upd_modSes _ _ _)
    | with_reducible apply Upd.comp (upd_modSesSys _ _)
    | with_reducible apply Upd.comp (upd_raise _ _ _ _ _)
    | with_reducible apply Upd.comp (upd_sendMessage _ _ _ _)
    | split)

theorem upd_placeJobs (i : Fin 32) (jobs : List (SlotOp × Nat)) (data : List Nat) (s : State) : Upd [.keys, .ses, .sesSys, .ev, .sen] s (placeJobs i jobs data s) := by
  unfold placeJobs
  repeat' (first
    | with_reducible assumption
    | with_reducible exact Upd.refl _ _
    | (show subParts _ _ = true; rfl)
    | with_reducible apply Upd.ite
    | (with_reducible apply Upd.foldl; intro u a hu)
    | with_reducible apply Upd.comp (upd_enqueue _ _)
    | split)

theorem upd_linkLost (i : Fin 32) (s : State) : Upd [.keys, .cp, .plc, .ses, .sesSys] s (linkLost i s) := by
  unfold linkLost
  repeat' (first
    | with_reducible assumption
    | with_reducible exact Upd.refl _ _
    | (show subParts _ _ = true; rfl)
    | with_reducible apply Upd.ite
    | with_reducible apply Upd.comp (upd_modSes _ _ _)
    | with_reducible apply Upd.comp (upd_endSes _ _ _)
    | with_reducible apply Upd.comp (upd_closeConn _ _)
    | split)

end Sys2Proof.Machine
end

