-- ==== Sys2Proof/Laws/UpdTag.lean ====
section
/-! SUPPORT. What the operations of Machine/Tag.lean change: one lemma for each, that its result differs from its state at most in the parts named,
and that what only grows has not gone back. -/

namespace Sys2Proof.Machine

theorem upd_tagPut (b : Nat) (bs : List Nat) (s : State) : Upd [.tag] s (tagPut b bs s) := by
  unfold tagPut
  repeat' (first
    | (intro x h; exact memWriteAll_wf h)
    | with_reducible assumption
    | with_reducible exact Upd.refl _ _
    | (show subParts _ _ = true; rfl)
    | with_reducible apply Upd.ite
    | exact (fun _ h => h)
    | with_reducible apply Upd.comp (upd_modTag _ _ ?_)
    | split)

theorem upd_putDir (w : Nat) (frame : Nat) (flags : Nat) (handle : Nat) (s : State) : Upd [.tag] s (putDir w frame flags handle s) := by
  unfold putDir
  repeat' (first
    | (intro x h; exact memWriteAll_wf h)
    | with_reducible assumption
    | with_reducible exact Upd.refl _ _
    | (show subParts _ _ = true; rfl)
    | with_reducible apply Upd.ite
    | exact (fun _ h => h)
    | with_reducible apply Upd.comp (upd_modTag _ _ ?_)
    | split)

theorem upd_tagSay (a : Option (List Nat)) (s : State) : Upd [.tag] s (tagSay a s) := by
  unfold tagSay
  repeat' (first
    | with_reducible assumption
    | with_reducible exact Upd.refl _ _
    | (show subParts _ _ = true; rfl)
    | with_reducible apply Upd.ite
    | exact (fun _ h => h)
    | with_reducible apply Upd.comp (upd_modTag _ _ ?_)
    | split)

theorem upd_tagServe {P : List Part} {s0 : State} (q : TagReq) (f : State → State) (s : State)
    (hs : subParts [.tag] P = true) (hf : ∀ t, Upd P s0 t → Upd P s0 (f t)) (h : Upd P s0 s) :
    Upd P s0 (tagServe q f s) :=
  Upd.ite (Upd.comp2 (upd_tagSay _ _) (by rfl) hs h) (Upd.ite (Upd.comp2 (upd_tagSay _ _) (by rfl) hs h) (hf _ h))

theorem upd_tagSecurity (b : Nat) (n : Nat) (last : Nat) (s : State) : Upd [.tag] s (tagSecurity b n last s) := by
  unfold tagSecurity
  repeat' (first
    | with_reducible assumption
    | with_reducible exact Upd.refl _ _
    | (show subParts _ _ = true; rfl)
    | with_reducible apply Upd.ite
    | with_reducible apply Upd.comp (upd_tagSay _ _)
    | split)

theorem upd_execExtendedGetSecurityStatus (q : TagReq) (b : Fin 1024) (n : Nat) (s : State) : ∃ u, execExtendedGetSecurityStatus q b n s = .next u ∧ Upd [.tag] s u := by
  unfold execExtendedGetSecurityStatus
  refine ⟨_, rfl, ?_⟩
  repeat' (first
    | with_reducible assumption
    | with_reducible exact Upd.refl _ _
    | (show subParts _ _ = true; rfl)
    | with_reducible apply Upd.ite
    | with_reducible apply upd_tagServe
    | with_reducible apply Upd.comp (upd_tagSecurity _ _ _ _)
    | split
    | intro _ _)

theorem upd_execExtendedGetSystemInfo (q : TagReq) (s : State) : ∃ u, execExtendedGetSystemInfo q s = .next u ∧ Upd [.tag] s u := by
  unfold execExtendedGetSystemInfo
  refine ⟨_, rfl, ?_⟩
  repeat' (first
    | with_reducible assumption
    | with_reducible exact Upd.refl _ _
    | (show subParts _ _ = true; rfl)
    | with_reducible apply Upd.ite
    | with_reducible apply upd_tagServe
    | with_reducible apply Upd.comp (upd_tagSay _ _)
    | split
    | intro _ _)

theorem upd_tagLatch (b : Nat) (s : State) : Upd [.tag] s (tagLatch b s) := by
  unfold tagLatch
  repeat' (first
    | with_reducible assumption
    | with_reducible exact Upd.refl _ _
    | (show subParts _ _ = true; rfl)
    | with_reducible apply Upd.ite
    | exact (fun _ h => h)
    | with_reducible apply Upd.comp (upd_modTag _ _ ?_)
    | split)

theorem upd_tagReadN (b : Nat) (n : Nat) (last : Nat) (s : State) : Upd [.tag] s (tagReadN b n last s) := by
  unfold tagReadN
  repeat' (first
    | with_reducible assumption
    | with_reducible exact Upd.refl _ _
    | (show subParts _ _ = true; rfl)
    | with_reducible apply Upd.ite
    | (with_reducible apply Upd.foldl; intro u a hu)
    | with_reducible apply Upd.comp (upd_tagSay _ _)
    | with_reducible apply Upd.comp (upd_tagLatch _ _)
    | split)

theorem upd_execExtendedReadMultiple (q : TagReq) (b : Fin 1024) (n : Nat) (s : State) : ∃ u, execExtendedReadMultiple q b n s = .next u ∧ Upd [.tag] s u := by
  unfold execExtendedReadMultiple
  refine ⟨_, rfl, ?_⟩
  repeat' (first
    | with_reducible assumption
    | with_reducible exact Upd.refl _ _
    | (show subParts _ _ = true; rfl)
    | with_reducible apply Upd.ite
    | with_reducible apply upd_tagServe
    | with_reducible apply Upd.comp (upd_tagReadN _ _ _ _)
    | split
    | intro _ _)

theorem upd_execExtendedReadSingle (q : TagReq) (b : Fin 1024) (s : State) : ∃ u, execExtendedReadSingle q b s = .next u ∧ Upd [.tag] s u := by
  unfold execExtendedReadSingle
  refine ⟨_, rfl, ?_⟩
  repeat' (first
    | with_reducible assumption
    | with_reducible exact Upd.refl _ _
    | (show subParts _ _ = true; rfl)
    | with_reducible apply Upd.ite
    | with_reducible apply upd_tagServe
    | with_reducible apply Upd.comp (upd_tagReadN _ _ _ _)
    | split
    | intro _ _)

theorem upd_tagFieldWrite (b : Nat) (data : Nat) (s : State) : Upd [.tag, .ev, .sen] s (tagFieldWrite b data s) := by
  unfold tagFieldWrite
  repeat' (first
    | with_reducible assumption
    | with_reducible exact Upd.refl _ _
    | (show subParts _ _ = true; rfl)
    | with_reducible apply Upd.ite
    | exact (fun _ h => h)
    | with_reducible apply Upd.comp (upd_modTag _ _ ?_)
    | with_reducible apply Upd.comp (upd_tagPut _ _ _)
    | with_reducible apply Upd.comp (upd_tagSay _ _)
    | with_reducible apply Upd.comp (upd_raiseIf _ _ _ _ _ _)
    | split)

theorem upd_execExtendedWriteSingle (q : TagReq) (b : Fin 1024) (data : Nat) (s : State) : ∃ u, execExtendedWriteSingle q b data s = .next u ∧ Upd [.tag, .ev, .sen] s u := by
  unfold execExtendedWriteSingle
  refine ⟨_, rfl, ?_⟩
  repeat' (first
    | with_reducible assumption
    | with_reducible exact Upd.refl _ _
    | (show subParts _ _ = true; rfl)
    | with_reducible apply Upd.ite
    | with_reducible apply upd_tagServe
    | with_reducible apply Upd.comp (upd_tagFieldWrite _ _ _)
    | split
    | intro _ _)

theorem upd_execFrameLatchExpiry (frame : Fin 12) (s : State) : ∃ u, execFrameLatchExpiry frame s = .next u ∧ Upd [.tag] s u := by
  unfold execFrameLatchExpiry
  refine ⟨_, rfl, ?_⟩
  repeat' (first
    | with_reducible assumption
    | with_reducible exact Upd.refl _ _
    | (show subParts _ _ = true; rfl)
    | with_reducible apply Upd.ite
    | exact (fun _ h => h)
    | with_reducible apply Upd.comp (upd_modTag _ _ ?_)
    | split)

theorem upd_tagGauge (s : State) : Upd [.tag] s (tagGauge s) := by
  unfold tagGauge
  repeat' (first
    | with_reducible assumption
    | with_reducible exact Upd.refl _ _
    | (show subParts _ _ = true; rfl)
    | with_reducible apply Upd.ite
    | (with_reducible apply Upd.foldl; intro u a hu)
    | exact (fun _ h => h)
    | with_reducible apply Upd.comp (upd_modTag _ _ ?_)
    | with_reducible apply Upd.comp (upd_tagPut _ _ _)
    | split)

theorem upd_execGetBlockSecurityStatus (q : TagReq) (b : Fin 256) (n : Nat) (s : State) : ∃ u, execGetBlockSecurityStatus q b n s = .next u ∧ Upd [.tag] s u := by
  unfold execGetBlockSecurityStatus
  refine ⟨_, rfl, ?_⟩
  repeat' (first
    | with_reducible assumption
    | with_reducible exact Upd.refl _ _
    | (show subParts _ _ = true; rfl)
    | with_reducible apply Upd.ite
    | with_reducible apply upd_tagServe
    | with_reducible apply Upd.comp (upd_tagSecurity _ _ _ _)
    | split
    | intro _ _)

theorem upd_execGetSystemInformation (q : TagReq) (s : State) : ∃ u, execGetSystemInformation q s = .next u ∧ Upd [.tag] s u := by
  unfold execGetSystemInformation
  refine ⟨_, rfl, ?_⟩
  repeat' (first
    | with_reducible assumption
    | with_reducible exact Upd.refl _ _
    | (show subParts _ _ = true; rfl)
    | with_reducible apply Upd.ite
    | with_reducible apply upd_tagServe
    | with_reducible apply Upd.comp (upd_tagSay _ _)
    | split
    | intro _ _)

theorem upd_tagOutageFlags (s : State) : Upd [.tag] s (tagOutageFlags s) := by
  unfold tagOutageFlags
  repeat' (first
    | with_reducible assumption
    | with_reducible exact Upd.refl _ _
    | (show subParts _ _ = true; rfl)
    | with_reducible apply Upd.ite
    | (with_reducible apply Upd.foldl; intro u a hu)
    | with_reducible apply Upd.comp (upd_putDir _ _ _ _ _)
    | split)

theorem upd_execReadMultipleBlocks (q : TagReq) (b : Fin 256) (n : Nat) (s : State) : ∃ u, execReadMultipleBlocks q b n s = .next u ∧ Upd [.tag] s u := by
  unfold execReadMultipleBlocks
  refine ⟨_, rfl, ?_⟩
  repeat' (first
    | with_reducible assumption
    | with_reducible exact Upd.refl _ _
    | (show subParts _ _ = true; rfl)
    | with_reducible apply Upd.ite
    | with_reducible apply upd_tagServe
    | with_reducible apply Upd.comp (upd_tagReadN _ _ _ _)
    | split
    | intro _ _)

theorem upd_execReadSingleBlock (q : TagReq) (b : Fin 256) (s : State) : ∃ u, execReadSingleBlock q b s = .next u ∧ Upd [.tag] s u := by
  unfold execReadSingleBlock
  refine ⟨_, rfl, ?_⟩
  repeat' (first
    | with_reducible assumption
    | with_reducible exact Upd.refl _ _
    | (show subParts _ _ = true; rfl)
    | with_reducible apply Upd.ite
    | with_reducible apply upd_tagServe
    | with_reducible apply Upd.comp (upd_tagReadN _ _ _ _)
    | split
    | intro _ _)

theorem upd_execResetToReady (q : TagReq) (s : State) : ∃ u, execResetToReady q s = .next u ∧ Upd [.tag] s u := by
  unfold execResetToReady
  refine ⟨_, rfl, ?_⟩
  repeat' (first
    | with_reducible assumption
    | with_reducible exact Upd.refl _ _
    | (show subParts _ _ = true; rfl)
    | with_reducible apply Upd.ite
    | exact (fun _ h => h)
    | with_reducible apply Upd.comp (upd_modTag _ _ ?_)
    | with_reducible apply upd_tagServe
    | with_reducible apply Upd.comp (upd_tagSay _ _)
    | split
    | intro _ _)

theorem upd_execStayQuiet (q : TagReq) (s : State) : ∃ u, execStayQuiet q s = .next u ∧ Upd [.tag] s u := by
  unfold execStayQuiet
  refine ⟨_, rfl, ?_⟩
  repeat' (first
    | with_reducible assumption
    | with_reducible exact Upd.refl _ _
    | (show subParts _ _ = true; rfl)
    | with_reducible apply Upd.ite
    | exact (fun _ h => h)
    | with_reducible apply Upd.comp (upd_modTag _ _ ?_)
    | with_reducible apply Upd.comp (upd_tagSay _ _)
    | split)

theorem upd_execTagInventory (maskLen : Nat) (mask : Nat) (afi : Option Nat) (s : State) : ∃ u, execTagInventory maskLen mask afi s = .next u ∧ Upd [.tag] s u := by
  unfold execTagInventory
  refine ⟨_, rfl, ?_⟩
  repeat' (first
    | with_reducible assumption
    | with_reducible exact Upd.refl _ _
    | (show subParts _ _ = true; rfl)
    | with_reducible apply Upd.ite
    | with_reducible apply Upd.comp (upd_tagSay _ _)
    | split)

theorem upd_execTagSelect (uid : Nat) (opt : Bool) (s : State) : ∃ u, execTagSelect uid opt s = .next u ∧ Upd [.tag] s u := by
  unfold execTagSelect
  refine ⟨_, rfl, ?_⟩
  repeat' (first
    | with_reducible assumption
    | with_reducible exact Upd.refl _ _
    | (show subParts _ _ = true; rfl)
    | with_reducible apply Upd.ite
    | exact (fun _ h => h)
    | with_reducible apply Upd.comp (upd_modTag _ _ ?_)
    | with_reducible apply Upd.comp (upd_tagSay _ _)
    | split)

theorem upd_execTagUnsupportedCommand (q : TagReq) (s : State) : ∃ u, execTagUnsupportedCommand q s = .next u ∧ Upd [.tag] s u := by
  unfold execTagUnsupportedCommand
  refine ⟨_, rfl, ?_⟩
  repeat' (first
    | with_reducible assumption
    | with_reducible exact Upd.refl _ _
    | (show subParts _ _ = true; rfl)
    | with_reducible apply Upd.ite
    | with_reducible apply Upd.comp (upd_tagSay _ _)
    | split)

theorem upd_execWriteSingleBlock (q : TagReq) (b : Fin 256) (data : Nat) (s : State) : ∃ u, execWriteSingleBlock q b data s = .next u ∧ Upd [.tag, .ev, .sen] s u := by
  unfold execWriteSingleBlock
  refine ⟨_, rfl, ?_⟩
  repeat' (first
    | with_reducible assumption
    | with_reducible exact Upd.refl _ _
    | (show subParts _ _ = true; rfl)
    | with_reducible apply Upd.ite
    | with_reducible apply upd_tagServe
    | with_reducible apply Upd.comp (upd_tagFieldWrite _ _ _)
    | split
    | intro _ _)

end Sys2Proof.Machine
end

