-- ==== Sys2Proof/Laws/UpdTagWin.lean ====
section
/-! SUPPORT. What the operations of Machine/TagWin.lean change: one lemma for each, that its result differs from its state at most in the parts named,
and that what only grows has not gone back. -/

namespace Sys2Proof.Machine

theorem upd_putResultHeader (k : Nat) (typ : Nat) (status : Nat) (cellSeq : Nat) (win : Option Nat) (s : State) : Upd [.tag] s (putResultHeader k typ status cellSeq win s) := by
  unfold putResultHeader
  repeat' (first
    | with_reducible assumption
    | with_reducible exact Upd.refl _ _
    | (show subParts _ _ = true; rfl)
    | with_reducible apply Upd.ite
    | with_reducible apply Upd.comp (upd_tagPut _ _ _)
    | split)

theorem upd_tokenAnswer (tenant : Nat) (nonce : Nat) (ws : List W128) (s : State) : Upd [.tag] s (tokenAnswer tenant nonce ws s) := by
  unfold tokenAnswer
  repeat' (first
    | with_reducible assumption
    | with_reducible exact Upd.refl _ _
    | (show subParts _ _ = true; rfl)
    | with_reducible apply Upd.ite
    | (with_reducible apply Upd.foldl; intro u a hu)
    | exact (fun _ h => h)
    | with_reducible apply Upd.comp (upd_modTag _ _ ?_)
    | with_reducible apply Upd.comp (upd_tagPut _ _ _)
    | with_reducible apply Upd.comp (upd_putResultHeader _ _ _ _ _ _)
    | split)

theorem upd_modWin8 (w : Nat) (f : TagWin → TagWin) (s : State) : Upd [.tag] s (modWin8 w f s) := by
  unfold modWin8
  repeat' (first
    | with_reducible assumption
    | with_reducible exact Upd.refl _ _
    | (show subParts _ _ = true; rfl)
    | with_reducible apply Upd.ite
    | exact (fun _ h => h)
    | with_reducible apply Upd.comp (upd_modTag _ _ ?_)
    | split)

theorem upd_assignWindow (tenant : Nat) (s : State) : Upd [.tag, .ev, .sen, .freeCtr] s (assignWindow tenant s).2 := by
  unfold assignWindow
  repeat' (first
    | with_reducible assumption
    | with_reducible exact Upd.refl _ _
    | (show subParts _ _ = true; rfl)
    | with_reducible apply Upd.ite
    | with_reducible apply Upd.comp (upd_modWin8 _ _ _)
    | with_reducible apply Upd.comp (upd_drbgDraw _ _)
    | with_reducible apply Upd.comp (upd_raise _ _ _ _ _)
    | split)

end Sys2Proof.Machine
end

