-- ==== Sys2Proof/Laws/UpdAuth.lean ====
section
/-! SUPPORT. What the operations of Machine/Auth.lean change: one lemma for each, that its result differs from its state at most in the parts named,
and that what only grows has not gone back. -/

namespace Sys2Proof.Machine

theorem upd_tokenResult (mac : Bool) (point : Nat) (tenant : Nat) (nonce : Nat) (result : Nat) (slot : Nat) (s : State) : Upd [.authSys, .tag] s (tokenResult mac point tenant nonce result slot s) := by
  unfold tokenResult
  repeat' (first
    | with_reducible assumption
    | with_reducible exact Upd.refl _ _
    | (show subParts _ _ = true; rfl)
    | with_reducible apply Upd.ite
    | with_reducible apply Upd.comp (upd_modAuthSys _ _)
    | with_reducible apply Upd.comp (upd_tokenAnswer _ _ _ _)
    | split)

theorem upd_refuseAuth (i : Fin 32) (path : Nat) (tenant : Nat) (nonce : Nat) (reason : Nat) (s : State) : Upd [.ses, .auth, .authSys, .tag, .ev, .sen] s (refuseAuth i path tenant nonce reason s) := by
  unfold refuseAuth
  repeat' (first
    | with_reducible assumption
    | with_reducible exact Upd.refl _ _
    | (show subParts _ _ = true; rfl)
    | with_reducible apply Upd.ite
    | with_reducible apply Upd.comp (upd_modAuth _ _ _)
    | with_reducible apply Upd.comp (upd_modSes _ _ _)
    | with_reducible apply Upd.comp (upd_modAuthSys _ _)
    | with_reducible apply Upd.comp (upd_raise _ _ _ _ _)
    | with_reducible apply Upd.comp (upd_tokenResult _ _ _ _ _ _ _)
    | split)

theorem upd_authReady (i : Fin 32) (path : Nat) (tenant : Nat) (nonce : Nat) (s : State) : Upd [.auth] s (authReady i path tenant nonce s) := by
  unfold authReady
  repeat' (first
    | with_reducible assumption
    | with_reducible exact Upd.refl _ _
    | (show subParts _ _ = true; rfl)
    | with_reducible apply Upd.ite
    | with_reducible apply Upd.comp (upd_modAuth _ _ _)
    | split)

theorem upd_holdPending (i : Fin 32) (p : PendAuth) (s : State) : Upd [.auth, .authSys, .tag, .ev, .sen] s (holdPending i p s) := by
  unfold holdPending
  repeat' (first
    | with_reducible assumption
    | with_reducible exact Upd.refl _ _
    | (show subParts _ _ = true; rfl)
    | with_reducible apply Upd.ite
    | with_reducible apply Upd.comp (upd_modAuth _ _ _)
    | with_reducible apply Upd.comp (upd_modAuthSys _ _)
    | with_reducible apply Upd.comp (upd_raiseIf _ _ _ _ _ _)
    | with_reducible apply Upd.comp (upd_tokenResult _ _ _ _ _ _ _)
    | split)

theorem upd_applyAuth (i : Fin 32) (p : PendAuth) (mayHold : Bool) (s : State) : Upd [.ses, .auth, .authSys, .tag, .ev, .sen] s (applyAuth i p mayHold s).2 := by
  unfold applyAuth
  dsimp only
  repeat' (first
    | with_reducible assumption
    | with_reducible exact Upd.refl _ _
    | (show subParts _ _ = true; rfl)
    | with_reducible apply Upd.ite
    | with_reducible apply Upd.comp (upd_refuseAuth _ _ _ _ _ _)
    | with_reducible apply Upd.comp (upd_authReady _ _ _ _ _)
    | with_reducible apply Upd.comp (upd_holdPending _ _ _)
    | split)

theorem upd_replayBoundary (s : State) : Upd [.authSys] s (replayBoundary s) := by
  unfold replayBoundary
  repeat' (first
    | with_reducible assumption
    | with_reducible exact Upd.refl _ _
    | (show subParts _ _ = true; rfl)
    | with_reducible apply Upd.ite
    | with_reducible apply Upd.comp (upd_modAuthSys _ _)
    | split)

theorem upd_loseAuth (i : Fin 32) (win : Nat) (a : Nat × Nat × Nat) (s : State) : Upd [.auth, .authSys, .tag, .ev, .sen] s (loseAuth i win a s) := by
  unfold loseAuth
  repeat' (first
    | with_reducible assumption
    | with_reducible exact Upd.refl _ _
    | (show subParts _ _ = true; rfl)
    | with_reducible apply Upd.ite
    | with_reducible apply Upd.comp (upd_modAuthSys _ _)
    | with_reducible apply Upd.comp (upd_modAuth _ _ _)
    | with_reducible apply Upd.comp (upd_raise _ _ _ _ _)
    | with_reducible apply Upd.comp (upd_tokenResult _ _ _ _ _ _ _)
    | split)

theorem upd_arbitrate (i : Fin 32) (placed : Nat) (cands : List (Nat × Nat × Nat)) (s : State) : Upd [.gates, .ses, .auth, .authSys, .tag, .ev, .sen] s (arbitrate i placed cands s) := by
  unfold arbitrate
  repeat' (first
    | with_reducible assumption
    | with_reducible exact Upd.refl _ _
    | (show subParts _ _ = true; rfl)
    | with_reducible apply Upd.ite
    | (with_reducible apply Upd.foldl; intro u a hu)
    | with_reducible apply Upd.comp (upd_modAuth _ _ _)
    | with_reducible apply Upd.comp (upd_loseAuth _ _ _ _)
    | with_reducible apply Upd.comp (upd_pushNotice _ _)
    | with_reducible apply Upd.comp (upd_refuseAuth _ _ _ _ _ _)
    | (extract_lets +onlyGivenNames x; first
        | (refine Upd.cut (P := [.gates, .ses, .auth, .authSys, .tag, .ev, .sen]) (s := s) (x := x) ?_ ?_; (revert x; change Upd _ _ _); rotate_left; intro hx; clear_value x)
        | (refine Upd.cutL (P := [.gates, .ses, .auth, .authSys, .tag, .ev, .sen]) (s := s) (x := x) ?_ ?_; (revert x; change Upd _ _ _); rotate_left; intro hx; clear_value x)
        | (refine Upd.cutR (P := [.gates, .ses, .auth, .authSys, .tag, .ev, .sen]) (s := s) (x := x) ?_ ?_; (revert x; change Upd _ _ _); rotate_left; intro hx; clear_value x)
        | clear_value x)
    | split)

theorem upd_authBoundary (s : State) : Upd [.gates, .ses, .auth, .authSys, .tag, .ev, .sen] s (authBoundary s) := by
  unfold authBoundary
  repeat' (first
    | with_reducible assumption
    | with_reducible exact Upd.refl _ _
    | (show subParts _ _ = true; rfl)
    | with_reducible apply Upd.ite
    | (with_reducible apply Upd.foldl; intro u a hu)
    | with_reducible apply Upd.comp (upd_modAuth _ _ _)
    | with_reducible apply Upd.comp (upd_arbitrate _ _ _ _)
    | split)

theorem upd_authoriseAct (p : List W128) (s : State) : Upd [.ses, .auth, .authSys, .tag, .ev, .sen] s (authoriseAct p s).2 := by
  unfold authoriseAct
  repeat' (first
    | with_reducible assumption
    | with_reducible exact Upd.refl _ _
    | (show subParts _ _ = true; rfl)
    | with_reducible apply Upd.ite
    | with_reducible apply Upd.iteR
    | with_reducible apply Upd.comp (upd_raise _ _ _ _ _)
    | with_reducible apply Upd.comp (upd_applyAuth _ _ _ _)
    | split)

theorem upd_execOrderAuthorise (o : OrderRec) (s : State) : ∃ u, execOrderAuthorise o s = .next u ∧ Upd [.gates, .keys, .ses, .auth, .authSys, .mbus, .tag, .lnk, .ev, .sen] s u := by
  unfold execOrderAuthorise
  refine ⟨_, rfl, ?_⟩
  repeat' (first
    | with_reducible assumption
    | with_reducible exact Upd.refl _ _
    | (show subParts _ _ = true; rfl)
    | with_reducible apply Upd.ite
    | with_reducible apply upd_ordered
    | with_reducible apply Upd.comp (upd_authoriseAct _ _)
    | split
    | intro _ _)

theorem upd_execPendingLapse (point : Fin 32) (s : State) : ∃ u, execPendingLapse point s = .next u ∧ Upd [.auth, .ev, .sen] s u := by
  unfold execPendingLapse
  refine ⟨_, rfl, ?_⟩
  repeat' (first
    | with_reducible assumption
    | with_reducible exact Upd.refl _ _
    | (show subParts _ _ = true; rfl)
    | with_reducible apply Upd.ite
    | with_reducible apply Upd.comp (upd_modAuth _ _ _)
    | with_reducible apply Upd.comp (upd_raise _ _ _ _ _)
    | split)

theorem upd_execTokenMessage (s : State) : ∃ u, execTokenMessage s = .next u ∧ Upd [.ses, .auth, .authSys, .tag, .ev, .sen, .freeCtr] s u := by
  unfold execTokenMessage
  refine ⟨_, rfl, ?_⟩
  repeat' (first
    | with_reducible assumption
    | with_reducible exact Upd.refl _ _
    | (show subParts _ _ = true; rfl)
    | with_reducible apply Upd.ite
    | exact (fun _ h => h)
    | with_reducible apply Upd.comp (upd_modTag _ _ ?_)
    | with_reducible apply Upd.comp (upd_modAuthSys _ _)
    | with_reducible apply Upd.comp (upd_assignWindow _ _)
    | with_reducible apply Upd.comp (upd_raise _ _ _ _ _)
    | with_reducible apply Upd.comp (upd_tokenResult _ _ _ _ _ _ _)
    | with_reducible apply Upd.comp (upd_refuseAuth _ _ _ _ _ _)
    | with_reducible apply Upd.comp (upd_applyAuth _ _ _ _)
    | (extract_lets +onlyGivenNames x; first
        | (refine Upd.cut (P := [.ses, .auth, .authSys, .tag, .ev, .sen, .freeCtr]) (s := s) (x := x) ?_ ?_; (revert x; change Upd _ _ _); rotate_left; intro hx; clear_value x)
        | (refine Upd.cutL (P := [.ses, .auth, .authSys, .tag, .ev, .sen, .freeCtr]) (s := s) (x := x) ?_ ?_; (revert x; change Upd _ _ _); rotate_left; intro hx; clear_value x)
        | (refine Upd.cutR (P := [.ses, .auth, .authSys, .tag, .ev, .sen, .freeCtr]) (s := s) (x := x) ?_ ?_; (revert x; change Upd _ _ _); rotate_left; intro hx; clear_value x)
        | clear_value x)
    | split)

end Sys2Proof.Machine
end

