-- ==== Sys2Proof/Laws/UpdMetering.lean ====
section
/-! SUPPORT. What the operations of Machine/Metering.lean change: one lemma for each, that its result differs from its state at most in the parts named,
and that what only grows has not gone back. -/

namespace Sys2Proof.Machine

theorem upd_publishResult (s : State) : Upd [.pmet] s (publishResult s) := by
  unfold publishResult
  repeat' (first
    | with_reducible assumption
    | with_reducible exact Upd.refl _ _
    | (show subParts _ _ = true; rfl)
    | with_reducible apply Upd.ite
    | (with_reducible apply Upd.foldl; intro u a hu)
    | with_reducible apply Upd.comp (upd_modPmet _ _ _)
    | split)

theorem upd_satEvents (i : Fin 32) (x1 : List Nat) (s : State) : Upd [.ev, .sen] s (satEvents i x1 s) := by
  induction x1 generalizing s
  case' nil => simp only [satEvents]
  case' cons m ms ih => simp only [satEvents]
  repeat' (first
    | with_reducible exact Upd.refl _ _
    | with_reducible apply Upd.comp (ih _)
    | with_reducible assumption
    | with_reducible exact Upd.refl _ _
    | (show subParts _ _ = true; rfl)
    | with_reducible apply Upd.ite
    | with_reducible apply Upd.comp (upd_raise _ _ _ _ _)
    | split)

theorem upd_meterPoint (info : CycInfo) (part : Bool) (i : Fin 32) (s : State) : Upd [.pmet, .ev, .sen] s (meterPoint info part i s) := by
  unfold meterPoint
  repeat' (first
    | with_reducible assumption
    | with_reducible exact Upd.refl _ _
    | (show subParts _ _ = true; rfl)
    | with_reducible apply Upd.ite
    | with_reducible apply Upd.comp (upd_modPmet _ _ _)
    | with_reducible apply Upd.comp (upd_satEvents _ _ _)
    | split)

theorem upd_meterCycle (info : CycInfo) (part : Bool) (s : State) : Upd [.pmet, .ev, .sen] s (meterCycle info part s) := by
  unfold meterCycle
  repeat' (first
    | with_reducible assumption
    | with_reducible exact Upd.refl _ _
    | (show subParts _ _ = true; rfl)
    | with_reducible apply Upd.ite
    | (with_reducible apply Upd.foldl; intro u a hu)
    | with_reducible apply Upd.comp (upd_meterPoint _ _ _ _)
    | split)

theorem upd_restoreRegs (i : Fin 32) (badA : Bool) (badB : Bool) (s : State) : Upd [.pmet, .ev, .sen] s (restoreRegs i badA badB s) := by
  unfold restoreRegs
  repeat' (first
    | with_reducible assumption
    | with_reducible exact Upd.refl _ _
    | (show subParts _ _ = true; rfl)
    | with_reducible apply Upd.ite
    | with_reducible apply Upd.comp (upd_modPmet _ _ _)
    | with_reducible apply Upd.comp (upd_raise _ _ _ _ _)
    | with_reducible apply Upd.comp (upd_raiseIf _ _ _ _ _ _)
    | split)

end Sys2Proof.Machine
end

