-- ==== Sys2Proof/Laws/UpdPilot.lean ====
section
/-! SUPPORT. What the operations of Machine/Pilot.lean change: one lemma for each, that its result differs from its state at most in the parts named,
and that what only grows has not gone back. -/

namespace Sys2Proof.Machine

theorem upd_setOutputs (i : Fin 32) (s : State) : Upd [.cp] s (setOutputs i s) := by
  unfold setOutputs
  repeat' (first
    | with_reducible assumption
    | with_reducible exact Upd.refl _ _
    | (show subParts _ _ = true; rfl)
    | with_reducible apply Upd.ite
    | with_reducible apply Upd.comp (upd_modCp _ _ _)
    | split)

theorem upd_updateCeil (i : Fin 32) (s : State) : Upd [.cp, .ses] s (updateCeil i s) := by
  unfold updateCeil
  repeat' (first
    | with_reducible assumption
    | with_reducible exact Upd.refl _ _
    | (show subParts _ _ = true; rfl)
    | with_reducible apply Upd.ite
    | with_reducible apply Upd.comp (upd_modCp _ _ _)
    | with_reducible apply Upd.comp (upd_modSes _ _ _)
    | split)

theorem upd_pointRuns (i : Fin 32) (s : State) : Upd [.psafe, .cp] s (pointRuns i s) := by
  unfold pointRuns
  repeat' (first
    | with_reducible assumption
    | with_reducible exact Upd.refl _ _
    | (show subParts _ _ = true; rfl)
    | with_reducible apply Upd.ite
    | with_reducible apply Upd.comp (upd_modCp _ _ _)
    | with_reducible apply Upd.comp (upd_modPsafe _ _ _)
    | with_reducible apply Upd.comp (upd_unstop _ _)
    | split)

theorem upd_stopDrive (i : Fin 32) (s : State) : Upd [.cp] s (stopDrive i s) := by
  unfold stopDrive
  repeat' (first
    | with_reducible assumption
    | with_reducible exact Upd.refl _ _
    | (show subParts _ _ = true; rfl)
    | with_reducible apply Upd.ite
    | with_reducible apply Upd.comp (upd_modCp _ _ _)
    | split)

theorem upd_leaveSession (i : Fin 32) (p : PState) (s : State) : Upd [.keys, .ports, .psafe, .cp, .plc, .ses, .sesSys] s (leaveSession i p s) := by
  unfold leaveSession
  repeat' (first
    | with_reducible assumption
    | with_reducible exact Upd.refl _ _
    | (show subParts _ _ = true; rfl)
    | with_reducible apply Upd.ite
    | with_reducible apply Upd.comp (upd_setPst _ _ _)
    | with_reducible apply Upd.comp (upd_closeContext _ _)
    | with_reducible apply Upd.comp (upd_openReq _ _)
    | split)

theorem upd_goOut (i : Fin 32) (cause : Nat) (s : State) : Upd [.gates, .keys, .ports, .psafe, .cp, .plc, .ses, .sesSys, .ev, .sen] s (goOut i cause s) := by
  unfold goOut
  repeat' (first
    | with_reducible assumption
    | with_reducible exact Upd.refl _ _
    | (show subParts _ _ = true; rfl)
    | with_reducible apply Upd.ite
    | with_reducible apply Upd.comp (upd_modCp _ _ _)
    | with_reducible apply Upd.comp (upd_raise _ _ _ _ _)
    | with_reducible apply Upd.comp (upd_sesEnd _ _ _)
    | with_reducible apply Upd.comp (upd_stopDrive _ _)
    | with_reducible apply Upd.comp (upd_leaveSession _ _ _)
    | split)

theorem upd_startDrive (i : Fin 32) (dir : Nat) (s : State) : Upd [.cp] s (startDrive i dir s) := by
  unfold startDrive
  repeat' (first
    | with_reducible assumption
    | with_reducible exact Upd.refl _ _
    | (show subParts _ _ = true; rfl)
    | with_reducible apply Upd.ite
    | with_reducible apply Upd.comp (upd_modCp _ _ _)
    | split)

theorem upd_unlockIfOpen (i : Fin 32) (s : State) : Upd [.cp] s (unlockIfOpen i s) := by
  unfold unlockIfOpen
  repeat' (first
    | with_reducible assumption
    | with_reducible exact Upd.refl _ _
    | (show subParts _ _ = true; rfl)
    | with_reducible apply Upd.ite
    | with_reducible apply Upd.comp (upd_startDrive _ _ _)
    | split)

theorem upd_goFault (i : Fin 32) (s : State) : Upd [.gates, .keys, .ports, .psafe, .cp, .plc, .ses, .sesSys, .ev, .sen] s (goFault i s) := by
  unfold goFault
  repeat' (first
    | with_reducible assumption
    | with_reducible exact Upd.refl _ _
    | (show subParts _ _ = true; rfl)
    | with_reducible apply Upd.ite
    | with_reducible apply Upd.comp (upd_modCp _ _ _)
    | with_reducible apply Upd.comp (upd_raise _ _ _ _ _)
    | with_reducible apply Upd.comp (upd_sesEnd _ _ _)
    | with_reducible apply Upd.comp (upd_leaveSession _ _ _)
    | with_reducible apply Upd.comp (upd_startDrive _ _ _)
    | split)

theorem upd_lockIfPlugged (i : Fin 32) (s : State) : Upd [.cp] s (lockIfPlugged i s) := by
  unfold lockIfPlugged
  repeat' (first
    | with_reducible assumption
    | with_reducible exact Upd.refl _ _
    | (show subParts _ _ = true; rfl)
    | with_reducible apply Upd.ite
    | with_reducible apply Upd.comp (upd_startDrive _ _ _)
    | split)

theorem upd_pointStep (i : Fin 32) (s : State) : Upd [.gates, .keys, .ports, .safe, .psafe, .cp, .plc, .ses, .sesSys, .ev, .sen] s (pointStep i s) := by
  unfold pointStep
  repeat' (first
    | with_reducible assumption
    | with_reducible exact Upd.refl _ _
    | (show subParts _ _ = true; rfl)
    | with_reducible apply Upd.ite
    | with_reducible apply Upd.comp (upd_modCp _ _ _)
    | with_reducible apply Upd.comp (upd_pointRuns _ _)
    | with_reducible apply Upd.comp (upd_sesEnd _ _ _)
    | with_reducible apply Upd.comp (upd_toSafeSt _ _ _)
    | with_reducible apply Upd.comp (upd_withdraw _ _)
    | with_reducible apply Upd.comp (upd_goOut _ _ _)
    | with_reducible apply Upd.comp (upd_unlockIfOpen _ _)
    | with_reducible apply Upd.comp (upd_goFault _ _)
    | with_reducible apply Upd.comp (upd_setPst _ _ _)
    | with_reducible apply Upd.comp (upd_lockIfPlugged _ _)
    | with_reducible apply Upd.comp (upd_openContext _ _)
    | with_reducible apply Upd.comp (upd_leaveSession _ _ _)
    | with_reducible apply Upd.comp (upd_startDrive _ _ _)
    | with_reducible apply Upd.comp (upd_openReq _ _)
    | split)

theorem upd_pilotBoundary (s : State) : Upd [.gates, .keys, .ports, .safe, .psafe, .cp, .plc, .ses, .sesSys, .ev, .sen] s (pilotBoundary s) := by
  unfold pilotBoundary
  repeat' (first
    | with_reducible assumption
    | with_reducible exact Upd.refl _ _
    | (show subParts _ _ = true; rfl)
    | with_reducible apply Upd.ite
    | (with_reducible apply Upd.foldl; intro u a hu)
    | with_reducible apply Upd.comp (upd_modCp _ _ _)
    | with_reducible apply Upd.comp (upd_updateCeil _ _)
    | with_reducible apply Upd.comp (upd_pointStep _ _)
    | with_reducible apply Upd.comp (upd_openBoundary _)
    | with_reducible apply Upd.comp (upd_setOutputs _ _)
    | split)

theorem upd_execCableCodeAdopt (point : Fin 32) (s : State) : ∃ u, execCableCodeAdopt point s = .next u ∧ Upd [.cp, .ev, .sen] s u := by
  unfold execCableCodeAdopt
  refine ⟨_, rfl, ?_⟩
  repeat' (first
    | with_reducible assumption
    | with_reducible exact Upd.refl _ _
    | (show subParts _ _ = true; rfl)
    | with_reducible apply Upd.ite
    | with_reducible apply Upd.comp (upd_modCp _ _ _)
    | with_reducible apply Upd.comp (upd_raiseIf _ _ _ _ _ _)
    | split)

theorem upd_execCableCodeInvalid (point : Fin 32) (s : State) : ∃ u, execCableCodeInvalid point s = .next u ∧ Upd [.cp] s u := by
  unfold execCableCodeInvalid
  refine ⟨_, rfl, ?_⟩
  repeat' (first
    | with_reducible assumption
    | with_reducible exact Upd.refl _ _
    | (show subParts _ _ = true; rfl)
    | with_reducible apply Upd.ite
    | with_reducible apply Upd.comp (upd_modCp _ _ _)
    | split)

theorem upd_execCeilingPause (point : Fin 32) (s : State) : ∃ u, execCeilingPause point s = .next u ∧ Upd [.psafe, .cp] s u := by
  unfold execCeilingPause
  refine ⟨_, rfl, ?_⟩
  repeat' (first
    | with_reducible assumption
    | with_reducible exact Upd.refl _ _
    | (show subParts _ _ = true; rfl)
    | with_reducible apply Upd.ite
    | with_reducible apply Upd.comp (upd_setPst _ _ _)
    | with_reducible apply Upd.comp (upd_openReq _ _)
    | split)

theorem upd_execCpStateChange (point : Fin 32) (s : State) : ∃ u, execCpStateChange point s = .next u ∧ Upd [.cp] s u := by
  unfold execCpStateChange
  refine ⟨_, rfl, ?_⟩
  repeat' (first
    | with_reducible assumption
    | with_reducible exact Upd.refl _ _
    | (show subParts _ _ = true; rfl)
    | with_reducible apply Upd.ite
    | with_reducible apply Upd.comp (upd_modCp _ _ _)
    | split)

theorem upd_execGeneratorFault (slot : Fin 8) (s : State) : ∃ u, execGeneratorFault slot s = .next u ∧ Upd [.cp] s u := by
  unfold execGeneratorFault
  refine ⟨_, rfl, ?_⟩
  repeat' (first
    | with_reducible assumption
    | with_reducible exact Upd.refl _ _
    | (show subParts _ _ = true; rfl)
    | with_reducible apply Upd.ite
    | (with_reducible apply Upd.foldl; intro u a hu)
    | with_reducible apply Upd.comp (upd_modCp _ _ _)
    | split)

theorem upd_execGeneratorFaultClear (slot : Fin 8) (s : State) : ∃ u, execGeneratorFaultClear slot s = .next u ∧ Upd [.cp] s u := by
  unfold execGeneratorFaultClear
  refine ⟨_, rfl, ?_⟩
  repeat' (first
    | with_reducible assumption
    | with_reducible exact Upd.refl _ _
    | (show subParts _ _ = true; rfl)
    | with_reducible apply Upd.ite
    | (with_reducible apply Upd.foldl; intro u a hu)
    | with_reducible apply Upd.comp (upd_modCp _ _ _)
    | split)

theorem upd_execLockDriveTimeout (point : Fin 32) (s : State) : ∃ u, execLockDriveTimeout point s = .next u ∧ Upd [.cp, .ev, .sen] s u := by
  unfold execLockDriveTimeout
  refine ⟨_, rfl, ?_⟩
  repeat' (first
    | with_reducible assumption
    | with_reducible exact Upd.refl _ _
    | (show subParts _ _ = true; rfl)
    | with_reducible apply Upd.ite
    | with_reducible apply Upd.comp (upd_modCp _ _ _)
    | with_reducible apply Upd.comp (upd_raise _ _ _ _ _)
    | split)

theorem upd_execLockFaultClear (point : Fin 32) (s : State) : ∃ u, execLockFaultClear point s = .next u ∧ Upd [.psafe, .cp, .ev, .sen] s u := by
  unfold execLockFaultClear
  refine ⟨_, rfl, ?_⟩
  repeat' (first
    | with_reducible assumption
    | with_reducible exact Upd.refl _ _
    | (show subParts _ _ = true; rfl)
    | with_reducible apply Upd.ite
    | with_reducible apply Upd.comp (upd_modPsafe _ _ _)
    | with_reducible apply Upd.comp (upd_modCp _ _ _)
    | with_reducible apply Upd.comp (upd_unstop _ _)
    | with_reducible apply Upd.comp (upd_raise _ _ _ _ _)
    | with_reducible apply Upd.comp (upd_setPst _ _ _)
    | split)

theorem upd_execLockRetry (point : Fin 32) (s : State) : ∃ u, execLockRetry point s = .next u ∧ Upd [.cp] s u := by
  unfold execLockRetry
  refine ⟨_, rfl, ?_⟩
  repeat' (first
    | with_reducible assumption
    | with_reducible exact Upd.refl _ _
    | (show subParts _ _ = true; rfl)
    | with_reducible apply Upd.ite
    | with_reducible apply Upd.comp (upd_modCp _ _ _)
    | split)

theorem upd_execLockTargetReached (point : Fin 32) (s : State) : ∃ u, execLockTargetReached point s = .next u ∧ Upd [.cp] s u := by
  unfold execLockTargetReached
  refine ⟨_, rfl, ?_⟩
  repeat' (first
    | with_reducible assumption
    | with_reducible exact Upd.refl _ _
    | (show subParts _ _ = true; rfl)
    | with_reducible apply Upd.ite
    | with_reducible apply Upd.comp (upd_modCp _ _ _)
    | split)

theorem upd_execPointReturnToService (point : Fin 32) (s : State) : ∃ u, execPointReturnToService point s = .next u ∧ Upd [.cp, .ev, .sen] s u := by
  unfold execPointReturnToService
  refine ⟨_, rfl, ?_⟩
  repeat' (first
    | with_reducible assumption
    | with_reducible exact Upd.refl _ _
    | (show subParts _ _ = true; rfl)
    | with_reducible apply Upd.ite
    | with_reducible apply Upd.comp (upd_modCp _ _ _)
    | with_reducible apply Upd.comp (upd_raise _ _ _ _ _)
    | with_reducible apply Upd.comp (upd_setOutputs _ _)
    | with_reducible apply Upd.comp (upd_setPst _ _ _)
    | split)

end Sys2Proof.Machine
end

