-- ==== Sys2Proof/Laws/UpdRecCore.lean ====
section
/-! SUPPORT. What the operations of Machine/RecCore.lean change: one lemma for each, that its result differs from its state at most in the parts named,
and that what only grows has not gone back. -/

namespace Sys2Proof.Machine

theorem upd_modBankAt (b : Nat) (f : Bank → Bank) (s : State) : Upd [.led] s (modBankAt b f s) := by
  unfold modBankAt
  repeat' (first
    | with_reducible assumption
    | with_reducible exact Upd.refl _ _
    | (show subParts _ _ = true; rfl)
    | with_reducible apply Upd.ite
    | with_reducible apply Upd.comp (upd_modLed _ _)
    | split)

theorem upd_putLedRow (b : Nat) (slot : Nat) (r : SlotRow) (s : State) : Upd [.led] s (putLedRow b slot r s) := by
  unfold putLedRow
  repeat' (first
    | with_reducible assumption
    | with_reducible exact Upd.refl _ _
    | (show subParts _ _ = true; rfl)
    | with_reducible apply Upd.ite
    | with_reducible apply Upd.comp (upd_modBankAt _ _ _)
    | split)

theorem upd_drawRecNo (s : State) : Upd [.recs] s (drawRecNo s).2 := by
  unfold drawRecNo
  repeat' (first
    | (intro x; exact Nat.le_succ _)
    | with_reducible assumption
    | with_reducible exact Upd.refl _ _
    | (show subParts _ _ = true; rfl)
    | with_reducible apply Upd.ite
    | exact (fun _ => Nat.le_refl _)
    | with_reducible apply Upd.comp (upd_modRecs _ _ ?_)
    | split)

theorem upd_sealStatement (slot : Nat) (s : State) : Upd [.led, .recs] s (sealStatement slot s) := by
  unfold sealStatement
  repeat' (first
    | with_reducible assumption
    | with_reducible exact Upd.refl _ _
    | (show subParts _ _ = true; rfl)
    | with_reducible apply Upd.ite
    | exact (fun _ => Nat.le_refl _)
    | with_reducible apply Upd.comp (upd_modLed _ _)
    | with_reducible apply Upd.comp (upd_modRecs _ _ ?_)
    | with_reducible apply Upd.comp (upd_drawRecNo _)
    | split)

theorem upd_sealStatements (s : State) : Upd [.led, .recs] s (sealStatements s) := by
  unfold sealStatements
  repeat' (first
    | with_reducible assumption
    | with_reducible exact Upd.refl _ _
    | (show subParts _ _ = true; rfl)
    | with_reducible apply Upd.ite
    | (with_reducible apply Upd.foldl; intro u a hu)
    | with_reducible apply Upd.comp (upd_modLed _ _)
    | with_reducible apply Upd.comp (upd_sealStatement _ _)
    | split)

theorem upd_sealSession (i : Fin 32) (s : State) : Upd [.recs, .ev, .sen] s (sealSession i s) := by
  unfold sealSession
  repeat' (first
    | with_reducible assumption
    | with_reducible exact Upd.refl _ _
    | (show subParts _ _ = true; rfl)
    | with_reducible apply Upd.ite
    | exact (fun _ => Nat.le_refl _)
    | with_reducible apply Upd.comp (upd_modRecs _ _ ?_)
    | with_reducible apply Upd.comp (upd_drawRecNo _)
    | with_reducible apply Upd.comp (upd_raise _ _ _ _ _)
    | (extract_lets +onlyGivenNames x; first
        | (refine Upd.cut (P := [.recs, .ev, .sen]) (s := s) (x := x) ?_ ?_; (revert x; change Upd _ _ _); rotate_left; intro hx; clear_value x)
        | (refine Upd.cutL (P := [.recs, .ev, .sen]) (s := s) (x := x) ?_ ?_; (revert x; change Upd _ _ _); rotate_left; intro hx; clear_value x)
        | (refine Upd.cutR (P := [.recs, .ev, .sen]) (s := s) (x := x) ?_ ?_; (revert x; change Upd _ _ _); rotate_left; intro hx; clear_value x)
        | clear_value x)
    | split)

theorem upd_sealSessions (s : State) : Upd [.recs, .ev, .sen] s (sealSessions s) := by
  unfold sealSessions
  repeat' (first
    | with_reducible assumption
    | with_reducible exact Upd.refl _ _
    | (show subParts _ _ = true; rfl)
    | with_reducible apply Upd.ite
    | (with_reducible apply Upd.foldl; intro u a hu)
    | with_reducible apply Upd.comp (upd_sealSession _ _)
    | split)

end Sys2Proof.Machine
end

