-- ==== Sys2Proof/Laws/UpdLedger.lean ====
section
/-! SUPPORT. What the operations of Machine/Ledger.lean change: one lemma for each, that its result differs from its state at most in the parts named,
and that what only grows has not gone back. -/

namespace Sys2Proof.Machine

theorem upd_putIntents (fuel : Nat) (x1 : List (Nat × Nat)) (s : State) : Upd [.led] s (putIntents fuel x1 s) := by
  induction fuel generalizing x1 s
  case' zero => simp only [putIntents]
  case' succ m ih => simp only [putIntents]
  repeat' (first
    | with_reducible exact Upd.refl _ _
    | with_reducible apply Upd.comp (ih _ _)
    | with_reducible assumption
    | with_reducible exact Upd.refl _ _
    | (show subParts _ _ = true; rfl)
    | with_reducible apply Upd.ite
    | with_reducible apply Upd.comp (upd_modLed _ _)
    | split)

theorem upd_publishLedger (s : State) : Upd [.gates] s (publishLedger s) := by
  unfold publishLedger
  repeat' (first
    | with_reducible assumption
    | with_reducible exact Upd.refl _ _
    | (show subParts _ _ = true; rfl)
    | with_reducible apply Upd.ite
    | with_reducible apply Upd.comp (upd_modGates _ _)
    | split)

theorem upd_acceptNotice (i : Fin 32) (n : BindNotice) (slot : Nat) (isNew : Bool) (s : State) : Upd [.gates, .cp, .ses, .auth, .authSys, .led, .tag, .ev, .sen] s (acceptNotice i n slot isNew s) := by
  unfold acceptNotice
  repeat' (first
    | with_reducible assumption
    | with_reducible exact Upd.refl _ _
    | (show subParts _ _ = true; rfl)
    | with_reducible apply Upd.ite
    | with_reducible apply Upd.comp (upd_modLed _ _)
    | with_reducible apply Upd.comp (upd_modSes _ _ _)
    | with_reducible apply Upd.comp (upd_modCp _ _ _)
    | with_reducible apply Upd.comp (upd_modAuthSys _ _)
    | with_reducible apply Upd.comp (upd_modAuth _ _ _)
    | with_reducible apply Upd.comp (upd_putLedRow _ _ _ _)
    | with_reducible apply Upd.comp (upd_raise _ _ _ _ _)
    | with_reducible apply Upd.comp (upd_putIntents _ _ _)
    | with_reducible apply Upd.comp (upd_publishLedger _)
    | with_reducible apply Upd.comp (upd_setOutputs _ _)
    | with_reducible apply Upd.comp (upd_setPst _ _ _)
    | with_reducible apply Upd.comp (upd_tokenResult _ _ _ _ _ _ _)
    | (extract_lets +onlyGivenNames x; first
        | (refine Upd.cut (P := [.gates, .cp, .ses, .auth, .authSys, .led, .tag, .ev, .sen]) (s := s) (x := x) ?_ ?_; (revert x; change Upd _ _ _); rotate_left; intro hx; clear_value x)
        | (refine Upd.cutL (P := [.gates, .cp, .ses, .auth, .authSys, .led, .tag, .ev, .sen]) (s := s) (x := x) ?_ ?_; (revert x; change Upd _ _ _); rotate_left; intro hx; clear_value x)
        | (refine Upd.cutR (P := [.gates, .cp, .ses, .auth, .authSys, .led, .tag, .ev, .sen]) (s := s) (x := x) ?_ ?_; (revert x; change Upd _ _ _); rotate_left; intro hx; clear_value x)
        | clear_value x)
    | split)

theorem upd_addPend (p : Pend) (s : State) : Upd [.led] s (addPend p s) := by
  unfold addPend
  repeat' (first
    | with_reducible assumption
    | with_reducible exact Upd.refl _ _
    | (show subParts _ _ = true; rfl)
    | with_reducible apply Upd.ite
    | with_reducible apply Upd.comp (upd_modLed _ _)
    | split)

theorem upd_ledDue (s : State) : Upd [.led, .ev, .sen] s (ledDue s) := by
  unfold ledDue
  repeat' (first
    | with_reducible assumption
    | with_reducible exact Upd.refl _ _
    | (show subParts _ _ = true; rfl)
    | with_reducible apply Upd.ite
    | with_reducible apply Upd.comp (upd_modLed _ _)
    | with_reducible apply Upd.comp (upd_raiseIf _ _ _ _ _ _)
    | split)

theorem upd_blockApply (t : Nat) (set : Bool) (s : State) : Upd [.gates, .psafe, .ses, .led, .ev, .sen] s (blockApply t set s) := by
  unfold blockApply
  repeat' (first
    | with_reducible assumption
    | with_reducible exact Upd.refl _ _
    | (show subParts _ _ = true; rfl)
    | with_reducible apply Upd.ite
    | (with_reducible apply Upd.foldl; intro u a hu)
    | with_reducible apply Upd.comp (upd_modLed _ _)
    | with_reducible apply Upd.comp (upd_modSes _ _ _)
    | with_reducible apply Upd.comp (upd_raise _ _ _ _ _)
    | with_reducible apply Upd.comp (upd_sesEnd _ _ _)
    | split)

theorem upd_modBind (i : Fin 32) (f : Binding → Binding) (s : State) : Upd [.led] s (modBind i f s) := by
  unfold modBind
  repeat' (first
    | with_reducible assumption
    | with_reducible exact Upd.refl _ _
    | (show subParts _ _ = true; rfl)
    | with_reducible apply Upd.ite
    | with_reducible apply Upd.comp (upd_modLed _ _)
    | split)

theorem upd_bookEnd (i : Fin 32) (b : Binding) (s : State) : Upd [.led] s (bookEnd i b s) := by
  unfold bookEnd
  repeat' (first
    | with_reducible assumption
    | with_reducible exact Upd.refl _ _
    | (show subParts _ _ = true; rfl)
    | with_reducible apply Upd.ite
    | with_reducible apply Upd.comp (upd_addPend _ _)
    | with_reducible apply Upd.comp (upd_modBind _ _ _)
    | split)

theorem upd_tiePends (i : Fin 32) (isEnd : Bool) (isClose : Bool) (s : State) : Upd [.led] s (tiePends i isEnd isClose s) := by
  unfold tiePends
  repeat' (first
    | with_reducible assumption
    | with_reducible exact Upd.refl _ _
    | (show subParts _ _ = true; rfl)
    | with_reducible apply Upd.ite
    | with_reducible apply Upd.comp (upd_modLed _ _)
    | with_reducible apply Upd.comp (upd_modBind _ _ _)
    | split)

theorem upd_tieCycle (info : CycInfo) (all : Bool) (s : State) : Upd [.led] s (tieCycle info all s) := by
  unfold tieCycle
  repeat' (first
    | with_reducible assumption
    | with_reducible exact Upd.refl _ _
    | (show subParts _ _ = true; rfl)
    | with_reducible apply Upd.ite
    | (with_reducible apply Upd.foldl; intro u a hu)
    | with_reducible apply Upd.comp (upd_modLed _ _)
    | with_reducible apply Upd.comp (upd_bookEnd _ _ _)
    | with_reducible apply Upd.comp (upd_tiePends _ _ _ _)
    | split)

theorem upd_putRem (x : Remainder) (s : State) : Upd [.led] s (putRem x s) := by
  unfold putRem
  repeat' (first
    | with_reducible assumption
    | with_reducible exact Upd.refl _ _
    | (show subParts _ _ = true; rfl)
    | with_reducible apply Upd.ite
    | with_reducible apply Upd.comp (upd_modLed _ _)
    | split)

theorem upd_bookPoint (info : CycInfo) (regs : Vector Nat 14) (i : Fin 32) (s : State) : Upd [.led] s (bookPoint info regs i s) := by
  unfold bookPoint
  repeat' (first
    | with_reducible assumption
    | with_reducible exact Upd.refl _ _
    | (show subParts _ _ = true; rfl)
    | with_reducible apply Upd.ite
    | with_reducible apply Upd.comp (upd_putRem _ _)
    | with_reducible apply Upd.comp (upd_addPend _ _)
    | with_reducible apply Upd.comp (upd_modBind _ _ _)
    | split)

theorem upd_bookCycle (info : CycInfo) (before : Vector (Vector Nat 14) 32) (all : Bool) (s : State) : Upd [.led] s (bookCycle info before all s) := by
  unfold bookCycle
  repeat' (first
    | with_reducible assumption
    | with_reducible exact Upd.refl _ _
    | (show subParts _ _ = true; rfl)
    | with_reducible apply Upd.ite
    | (with_reducible apply Upd.foldl; intro u a hu)
    | with_reducible apply Upd.comp (upd_tieCycle _ _ _)
    | with_reducible apply Upd.comp (upd_bookPoint _ _ _ _)
    | split)

theorem upd_closePeriod (s : State) : Upd [.authSys, .led, .recs, .ev, .sen] s (closePeriod s) := by
  unfold closePeriod
  repeat' (first
    | with_reducible assumption
    | with_reducible exact Upd.refl _ _
    | (show subParts _ _ = true; rfl)
    | with_reducible apply Upd.ite
    | (with_reducible apply Upd.foldl; intro u a hu)
    | exact (fun _ => Nat.le_refl _)
    | with_reducible apply Upd.comp (upd_modLed _ _)
    | with_reducible apply Upd.comp (upd_modAuthSys _ _)
    | with_reducible apply Upd.comp (upd_modRecs _ _ ?_)
    | with_reducible apply Upd.comp (upd_modBankAt _ _ _)
    | with_reducible apply Upd.comp (upd_modBind _ _ _)
    | with_reducible apply Upd.comp (upd_raise _ _ _ _ _)
    | split)

theorem upd_cellAdd (bank : Nat) (slot : Nat) (point : Nat) (c : Nat) (n : Nat) (s : State) : Upd [.led, .ev, .sen] s (cellAdd bank slot point c n s) := by
  unfold cellAdd
  repeat' (first
    | with_reducible assumption
    | with_reducible exact Upd.refl _ _
    | (show subParts _ _ = true; rfl)
    | with_reducible apply Upd.ite
    | with_reducible apply Upd.comp (upd_raise _ _ _ _ _)
    | with_reducible apply Upd.comp (upd_putLedRow _ _ _ _)
    | split)

theorem upd_putSesCopy (i : Fin 32) (b : Binding) (s : State) : Upd [.recs] s (putSesCopy i b s) := by
  unfold putSesCopy
  repeat' (first
    | with_reducible assumption
    | with_reducible exact Upd.refl _ _
    | (show subParts _ _ = true; rfl)
    | with_reducible apply Upd.ite
    | exact (fun _ => Nat.le_refl _)
    | with_reducible apply Upd.comp (upd_modRecs _ _ ?_)
    | split)

theorem upd_slotTxn (slot : Nat) (s : State) : Upd [.led, .recs, .ev, .sen] s (slotTxn slot s) := by
  unfold slotTxn
  repeat' (first
    | with_reducible assumption
    | with_reducible exact Upd.refl _ _
    | (show subParts _ _ = true; rfl)
    | with_reducible apply Upd.ite
    | (with_reducible apply Upd.foldl; intro u a hu)
    | exact (fun _ => Nat.le_refl _)
    | with_reducible apply Upd.comp (upd_modLed _ _)
    | with_reducible apply Upd.comp (upd_modRecs _ _ ?_)
    | with_reducible apply Upd.comp (upd_putLedRow _ _ _ _)
    | with_reducible apply Upd.comp (upd_cellAdd _ _ _ _ _ _)
    | with_reducible apply Upd.comp (upd_modBind _ _ _)
    | with_reducible apply Upd.comp (upd_putSesCopy _ _ _)
    | with_reducible apply Upd.comp (upd_putIntents _ _ _)
    | split)

theorem upd_ledFlush (unl : Bool) (s : State) : Upd [.led, .recs, .ev, .sen] s (ledFlush unl s) := by
  unfold ledFlush
  repeat' (first
    | with_reducible assumption
    | with_reducible exact Upd.refl _ _
    | (show subParts _ _ = true; rfl)
    | with_reducible apply Upd.ite
    | (with_reducible apply Upd.foldl; intro u a hu)
    | with_reducible apply Upd.comp (upd_modLed _ _)
    | with_reducible apply Upd.comp (upd_slotTxn _ _)
    | with_reducible apply Upd.comp (upd_raiseIf _ _ _ _ _ _)
    | with_reducible apply Upd.comp (upd_sealStatements _)
    | with_reducible apply Upd.comp (upd_sealSessions _)
    | split)

theorem upd_snapTake (s : State) : Upd [.led, .ev, .sen] s (snapTake s) := by
  unfold snapTake
  repeat' (first
    | with_reducible assumption
    | with_reducible exact Upd.refl _ _
    | (show subParts _ _ = true; rfl)
    | with_reducible apply Upd.ite
    | with_reducible apply Upd.comp (upd_modLed _ _)
    | with_reducible apply Upd.comp (upd_raise _ _ _ _ _)
    | split)

theorem upd_ledAtC0 (s : State) : Upd [.authSys, .led, .recs, .ev, .sen] s (ledAtC0 s) := by
  unfold ledAtC0
  repeat' (first
    | with_reducible assumption
    | with_reducible exact Upd.refl _ _
    | (show subParts _ _ = true; rfl)
    | with_reducible apply Upd.ite
    | with_reducible apply Upd.comp (upd_ledDue _)
    | with_reducible apply Upd.comp (upd_raise _ _ _ _ _)
    | with_reducible apply Upd.comp (upd_closePeriod _)
    | with_reducible apply Upd.comp (upd_ledFlush _ _)
    | with_reducible apply Upd.comp (upd_snapTake _)
    | split)

theorem upd_tarBoundary (s : State) : Upd [.led] s (tarBoundary s) := by
  unfold tarBoundary
  repeat' (first
    | with_reducible assumption
    | with_reducible exact Upd.refl _ _
    | (show subParts _ _ = true; rfl)
    | with_reducible apply Upd.ite
    | with_reducible apply Upd.comp (upd_modLed _ _)
    | split)

theorem upd_endNotice (i : Fin 32) (n : BindNotice) (reason : Nat) (s : State) : Upd [.gates, .led] s (endNotice i n reason s) := by
  unfold endNotice
  repeat' (first
    | with_reducible assumption
    | with_reducible exact Upd.refl _ _
    | (show subParts _ _ = true; rfl)
    | with_reducible apply Upd.ite
    | with_reducible apply Upd.comp (upd_publishLedger _)
    | with_reducible apply Upd.comp (upd_modBind _ _ _)
    | split)

theorem upd_refuseNotice_refuseAuthOnly (i : Fin 32) (path : Nat) (tenant : Nat) (nonce : Nat) (s : State) : Upd [.ses, .auth, .authSys, .tag, .ev, .sen] s (refuseNotice.refuseAuthOnly i path tenant nonce s) := by
  unfold refuseNotice.refuseAuthOnly
  repeat' (first
    | with_reducible assumption
    | with_reducible exact Upd.refl _ _
    | (show subParts _ _ = true; rfl)
    | with_reducible apply Upd.ite
    | with_reducible apply Upd.comp (upd_modAuth _ _ _)
    | with_reducible apply Upd.comp (upd_modSes _ _ _)
    | with_reducible apply Upd.comp (upd_raise _ _ _ _ _)
    | with_reducible apply Upd.comp (upd_tokenResult _ _ _ _ _ _ _)
    | split)

theorem upd_refuseNotice (i : Fin 32) (n : BindNotice) (r : Nat) (s : State) : Upd [.ses, .auth, .authSys, .led, .tag, .ev, .sen] s (refuseNotice i n r s) := by
  unfold refuseNotice
  repeat' (first
    | with_reducible assumption
    | with_reducible exact Upd.refl _ _
    | (show subParts _ _ = true; rfl)
    | with_reducible apply Upd.ite
    | with_reducible apply Upd.comp (upd_modAuth _ _ _)
    | with_reducible apply Upd.comp (upd_modLed _ _)
    | with_reducible apply Upd.comp (upd_modAuthSys _ _)
    | with_reducible apply Upd.comp (upd_raise _ _ _ _ _)
    | with_reducible apply Upd.comp (upd_raiseIf _ _ _ _ _ _)
    | with_reducible apply Upd.comp (upd_refuseNotice_refuseAuthOnly _ _ _ _ _)
    | (extract_lets +onlyGivenNames x; first
        | (refine Upd.cut (P := [.ses, .auth, .authSys, .led, .tag, .ev, .sen]) (s := s) (x := x) ?_ ?_; (revert x; change Upd _ _ _); rotate_left; intro hx; clear_value x)
        | (refine Upd.cutL (P := [.ses, .auth, .authSys, .led, .tag, .ev, .sen]) (s := s) (x := x) ?_ ?_; (revert x; change Upd _ _ _); rotate_left; intro hx; clear_value x)
        | (refine Upd.cutR (P := [.ses, .auth, .authSys, .led, .tag, .ev, .sen]) (s := s) (x := x) ?_ ?_; (revert x; change Upd _ _ _); rotate_left; intro hx; clear_value x)
        | clear_value x)
    | split)

theorem upd_doBindingNotice (s : State) : Upd [.gates, .cp, .ses, .auth, .authSys, .led, .tag, .ev, .sen] s (doBindingNotice s) := by
  unfold doBindingNotice
  repeat' (first
    | with_reducible assumption
    | with_reducible exact Upd.refl _ _
    | (show subParts _ _ = true; rfl)
    | with_reducible apply Upd.ite
    | with_reducible apply Upd.comp (upd_modGates _ _)
    | with_reducible apply Upd.comp (upd_endNotice _ _ _ _)
    | with_reducible apply Upd.comp (upd_acceptNotice _ _ _ _ _)
    | with_reducible apply Upd.comp (upd_refuseNotice _ _ _ _)
    | (extract_lets +onlyGivenNames x; first
        | (refine Upd.cut (P := [.gates, .cp, .ses, .auth, .authSys, .led, .tag, .ev, .sen]) (s := s) (x := x) ?_ ?_; (revert x; change Upd _ _ _); rotate_left; intro hx; clear_value x)
        | (refine Upd.cutL (P := [.gates, .cp, .ses, .auth, .authSys, .led, .tag, .ev, .sen]) (s := s) (x := x) ?_ ?_; (revert x; change Upd _ _ _); rotate_left; intro hx; clear_value x)
        | (refine Upd.cutR (P := [.gates, .cp, .ses, .auth, .authSys, .led, .tag, .ev, .sen]) (s := s) (x := x) ?_ ?_; (revert x; change Upd _ _ _); rotate_left; intro hx; clear_value x)
        | clear_value x)
    | split)

theorem upd_doLedgerCommit (s : State) : Upd [.gates, .led, .recs, .ev, .sen] s (doLedgerCommit s) := by
  unfold doLedgerCommit
  repeat' (first
    | with_reducible assumption
    | with_reducible exact Upd.refl _ _
    | (show subParts _ _ = true; rfl)
    | with_reducible apply Upd.ite
    | with_reducible apply Upd.comp (upd_publishLedger _)
    | with_reducible apply Upd.comp (upd_ledFlush _ _)
    | split)

theorem upd_doMonthlySnapshot (s : State) : Upd [.led, .ev, .sen] s (doMonthlySnapshot s) := by
  unfold doMonthlySnapshot
  repeat' (first
    | with_reducible assumption
    | with_reducible exact Upd.refl _ _
    | (show subParts _ _ = true; rfl)
    | with_reducible apply Upd.ite
    | with_reducible apply Upd.comp (upd_snapTake _)
    | split)

theorem upd_doPeriodClose (s : State) : Upd [.gates, .authSys, .led, .recs, .ev, .sen] s (doPeriodClose s) := by
  unfold doPeriodClose
  repeat' (first
    | with_reducible assumption
    | with_reducible exact Upd.refl _ _
    | (show subParts _ _ = true; rfl)
    | with_reducible apply Upd.ite
    | with_reducible apply Upd.comp (upd_publishLedger _)
    | with_reducible apply Upd.comp (upd_ledFlush _ _)
    | with_reducible apply Upd.comp (upd_closePeriod _)
    | split)

theorem upd_freeSlots (s : State) : Upd [.led, .ev, .sen] s (freeSlots s) := by
  unfold freeSlots
  repeat' (first
    | with_reducible assumption
    | with_reducible exact Upd.refl _ _
    | (show subParts _ _ = true; rfl)
    | with_reducible apply Upd.ite
    | with_reducible apply Upd.comp (upd_modLed _ _)
    | with_reducible apply Upd.comp (upd_modBankAt _ _ _)
    | with_reducible apply Upd.comp (upd_raise _ _ _ _ _)
    | split)

theorem upd_doStatementsSealed (s : State) : Upd [.led, .ev, .sen] s (doStatementsSealed s) := by
  unfold doStatementsSealed
  repeat' (first
    | with_reducible assumption
    | with_reducible exact Upd.refl _ _
    | (show subParts _ _ = true; rfl)
    | with_reducible apply Upd.ite
    | with_reducible apply Upd.comp (upd_freeSlots _)
    | split)

theorem upd_tarSwitch (old : Nat) (new : Nat) (s : State) : Upd [.led, .ev, .sen] s (tarSwitch old new s) := by
  unfold tarSwitch
  repeat' (first
    | with_reducible assumption
    | with_reducible exact Upd.refl _ _
    | (show subParts _ _ = true; rfl)
    | with_reducible apply Upd.ite
    | with_reducible apply Upd.comp (upd_modLed _ _)
    | with_reducible apply Upd.comp (upd_raise _ _ _ _ _)
    | split)

theorem upd_doTariffSwitch (s : State) : Upd [.gates, .led, .ev, .sen] s (doTariffSwitch s) := by
  unfold doTariffSwitch
  repeat' (first
    | with_reducible assumption
    | with_reducible exact Upd.refl _ _
    | (show subParts _ _ = true; rfl)
    | with_reducible apply Upd.ite
    | with_reducible apply Upd.comp (upd_publishLedger _)
    | with_reducible apply Upd.comp (upd_tarSwitch _ _ _)
    | split)

theorem upd_doTenantBlockApply (s : State) : Upd [.gates, .psafe, .ses, .led, .ev, .sen] s (doTenantBlockApply s) := by
  unfold doTenantBlockApply
  repeat' (first
    | with_reducible assumption
    | with_reducible exact Upd.refl _ _
    | (show subParts _ _ = true; rfl)
    | with_reducible apply Upd.ite
    | (with_reducible apply Upd.foldl; intro u a hu)
    | with_reducible apply Upd.comp (upd_modLed _ _)
    | with_reducible apply Upd.comp (upd_publishLedger _)
    | with_reducible apply Upd.comp (upd_blockApply _ _ _)
    | split)

theorem upd_meterAndBook (info : CycInfo) (part : Bool) (all : Bool) (s : State) : Upd [.pmet, .led, .ev, .sen] s (meterAndBook info part all s) := by
  unfold meterAndBook
  repeat' (first
    | with_reducible assumption
    | with_reducible exact Upd.refl _ _
    | (show subParts _ _ = true; rfl)
    | with_reducible apply Upd.ite
    | with_reducible apply Upd.comp (upd_bookCycle _ _ _ _)
    | with_reducible apply Upd.comp (upd_meterCycle _ _ _)
    | split)

theorem upd_ledFinal (s : State) : Upd [.met, .pmet, .led, .recs, .ev, .sen] s (ledFinal s) := by
  unfold ledFinal
  repeat' (first
    | with_reducible assumption
    | with_reducible exact Upd.refl _ _
    | (show subParts _ _ = true; rfl)
    | with_reducible apply Upd.ite
    | (with_reducible apply Upd.foldl; intro u a hu)
    | with_reducible apply Upd.comp (upd_modMet _ _)
    | with_reducible apply Upd.comp (upd_meterAndBook _ _ _ _)
    | with_reducible apply Upd.comp (upd_ledFlush _ _)
    | split)

theorem upd_execMeterCycle (s : State) : ∃ u, execMeterCycle s = .next u ∧ Upd [.met, .pmet, .led, .ev, .sen] s u := by
  unfold execMeterCycle
  refine ⟨_, rfl, ?_⟩
  repeat' (first
    | with_reducible assumption
    | with_reducible exact Upd.refl _ _
    | (show subParts _ _ = true; rfl)
    | with_reducible apply Upd.ite
    | with_reducible apply Upd.comp (upd_modMet _ _)
    | with_reducible apply Upd.comp (upd_meterAndBook _ _ _ _)
    | split)

theorem upd_openPeriod (s : State) : Upd [.led, .recs] s (openPeriod s) := by
  unfold openPeriod
  repeat' (first
    | with_reducible assumption
    | with_reducible exact Upd.refl _ _
    | (show subParts _ _ = true; rfl)
    | with_reducible apply Upd.ite
    | (with_reducible apply Upd.foldl; intro u a hu)
    | exact (fun _ => Nat.le_refl _)
    | with_reducible apply Upd.comp (upd_modRecs _ _ ?_)
    | with_reducible apply Upd.comp (upd_modLed _ _)
    | with_reducible apply Upd.comp (upd_modBankAt _ _ _)
    | split)

theorem upd_tarAtRun (s : State) : Upd [.led, .ev, .sen] s (tarAtRun s) := by
  unfold tarAtRun
  repeat' (first
    | with_reducible assumption
    | with_reducible exact Upd.refl _ _
    | (show subParts _ _ = true; rfl)
    | with_reducible apply Upd.ite
    | with_reducible apply Upd.comp (upd_tarSwitch _ _ _)
    | split)

theorem upd_ledAtRun (s : State) : Upd [.led, .recs, .ev, .sen] s (ledAtRun s) := by
  unfold ledAtRun
  repeat' (first
    | with_reducible assumption
    | with_reducible exact Upd.refl _ _
    | (show subParts _ _ = true; rfl)
    | with_reducible apply Upd.ite
    | with_reducible apply Upd.comp (upd_modLed _ _)
    | with_reducible apply Upd.comp (upd_openPeriod _)
    | with_reducible apply Upd.comp (upd_tarAtRun _)
    | split)

theorem upd_intentDrop (k : Fin 16) (s : State) : Upd [.led, .ev, .sen] s (intentDrop k s) := by
  unfold intentDrop
  repeat' (first
    | with_reducible assumption
    | with_reducible exact Upd.refl _ _
    | (show subParts _ _ = true; rfl)
    | with_reducible apply Upd.ite
    | with_reducible apply Upd.comp (upd_modLed _ _)
    | with_reducible apply Upd.comp (upd_raise _ _ _ _ _)
    | split)

theorem upd_intentRoll (k : Fin 16) (s : State) : Upd [.led, .ev, .sen] s (intentRoll k s) := by
  unfold intentRoll
  repeat' (first
    | with_reducible assumption
    | with_reducible exact Upd.refl _ _
    | (show subParts _ _ = true; rfl)
    | with_reducible apply Upd.ite
    | (with_reducible apply Upd.foldl; intro u a hu)
    | with_reducible apply Upd.comp (upd_modLed _ _)
    | with_reducible apply Upd.comp (upd_putLedRow _ _ _ _)
    | with_reducible apply Upd.comp (upd_raise _ _ _ _ _)
    | split)

theorem upd_ledRecover (bad : List Nat) (per : Nat) (s : State) : Upd [.led, .ev, .sen, .freeCtr] s (ledRecover bad per s) := by
  unfold ledRecover
  repeat' (first
    | with_reducible assumption
    | with_reducible exact Upd.refl _ _
    | (show subParts _ _ = true; rfl)
    | with_reducible apply Upd.ite
    | (with_reducible apply Upd.foldl; intro u a hu)
    | with_reducible apply Upd.comp (upd_modLed _ _)
    | with_reducible apply Upd.comp (upd_intentDrop _ _)
    | with_reducible apply Upd.comp (upd_intentRoll _ _)
    | with_reducible apply Upd.comp (upd_raise _ _ _ _ _)
    | with_reducible apply Upd.comp (upd_draw _)
    | with_reducible apply Upd.comp (upd_modBankAt _ _ _)
    | split)

theorem upd_execTariffUnstable (s : State) : ∃ u, execTariffUnstable s = .next u ∧ Upd [.led, .ev, .sen] s u := by
  unfold execTariffUnstable
  refine ⟨_, rfl, ?_⟩
  repeat' (first
    | with_reducible assumption
    | with_reducible exact Upd.refl _ _
    | (show subParts _ _ = true; rfl)
    | with_reducible apply Upd.ite
    | with_reducible apply Upd.comp (upd_modLed _ _)
    | with_reducible apply Upd.comp (upd_raise _ _ _ _ _)
    | split)

end Sys2Proof.Machine
end

