-- ==== Sys2Proof/Laws/UpdPages.lean ====
section
/-! SUPPORT. What the operations of Machine/Pages.lean change: one lemma for each, that its result differs from its state at most in the parts named,
and that what only grows has not gone back. -/

namespace Sys2Proof.Machine

theorem upd_publishAll (s : State) : Upd [.gates, .freeCtr] s (publishAll s) := by
  unfold publishAll
  repeat' (first
    | with_reducible assumption
    | with_reducible exact Upd.refl _ _
    | (show subParts _ _ = true; rfl)
    | with_reducible apply Upd.ite
    | with_reducible apply Upd.comp (upd_modGates _ _)
    | with_reducible apply Upd.comp (upd_publishLedger _)
    | with_reducible apply Upd.comp (upd_draw _)
    | split)

end Sys2Proof.Machine
end

