-- ==== Sys2Proof/Laws/Reads.lean ====
section
/-! SUPPORT. What the operations that end most commands leave of every part: an event touches the event unit and the sentinel buffer alone, and
the gates' publication touches the gates alone. -/

namespace Sys2Proof.Machine

@[simp] theorem raise_eng (c so p a : Nat) (s : State) : (raise c so p a s).eng = s.eng := (upd_raise c so p a s).eng rfl
@[simp] theorem raiseIf_eng (b : Bool) (c so p a : Nat) (s : State) : (raiseIf b c so p a s).eng = s.eng := (upd_raiseIf b c so p a s).eng rfl
@[simp] theorem raise_gates (c so p a : Nat) (s : State) : (raise c so p a s).gates = s.gates := (upd_raise c so p a s).gates rfl
@[simp] theorem raiseIf_gates (b : Bool) (c so p a : Nat) (s : State) : (raiseIf b c so p a s).gates = s.gates := (upd_raiseIf b c so p a s).gates rfl
@[simp] theorem raise_clk (c so p a : Nat) (s : State) : (raise c so p a s).clk = s.clk := (upd_raise c so p a s).clk rfl
@[simp] theorem raiseIf_clk (b : Bool) (c so p a : Nat) (s : State) : (raiseIf b c so p a s).clk = s.clk := (upd_raiseIf b c so p a s).clk rfl
@[simp] theorem raise_life (c so p a : Nat) (s : State) : (raise c so p a s).life = s.life := (upd_raise c so p a s).life rfl
@[simp] theorem raiseIf_life (b : Bool) (c so p a : Nat) (s : State) : (raiseIf b c so p a s).life = s.life := (upd_raiseIf b c so p a s).life rfl
@[simp] theorem raise_keys (c so p a : Nat) (s : State) : (raise c so p a s).keys = s.keys := (upd_raise c so p a s).keys rfl
@[simp] theorem raiseIf_keys (b : Bool) (c so p a : Nat) (s : State) : (raiseIf b c so p a s).keys = s.keys := (upd_raiseIf b c so p a s).keys rfl
@[simp] theorem raise_img (c so p a : Nat) (s : State) : (raise c so p a s).img = s.img := (upd_raise c so p a s).img rfl
@[simp] theorem raiseIf_img (b : Bool) (c so p a : Nat) (s : State) : (raiseIf b c so p a s).img = s.img := (upd_raiseIf b c so p a s).img rfl
@[simp] theorem raise_flash (c so p a : Nat) (s : State) : (raise c so p a s).flash = s.flash := (upd_raise c so p a s).flash rfl
@[simp] theorem raiseIf_flash (b : Bool) (c so p a : Nat) (s : State) : (raiseIf b c so p a s).flash = s.flash := (upd_raiseIf b c so p a s).flash rfl
@[simp] theorem raise_dlv (c so p a : Nat) (s : State) : (raise c so p a s).dlv = s.dlv := (upd_raise c so p a s).dlv rfl
@[simp] theorem raiseIf_dlv (b : Bool) (c so p a : Nat) (s : State) : (raiseIf b c so p a s).dlv = s.dlv := (upd_raiseIf b c so p a s).dlv rfl
@[simp] theorem raise_ports (c so p a : Nat) (s : State) : (raise c so p a s).ports = s.ports := (upd_raise c so p a s).ports rfl
@[simp] theorem raiseIf_ports (b : Bool) (c so p a : Nat) (s : State) : (raiseIf b c so p a s).ports = s.ports := (upd_raiseIf b c so p a s).ports rfl
@[simp] theorem raise_heads (c so p a : Nat) (s : State) : (raise c so p a s).heads = s.heads := (upd_raise c so p a s).heads rfl
@[simp] theorem raiseIf_heads (b : Bool) (c so p a : Nat) (s : State) : (raiseIf b c so p a s).heads = s.heads := (upd_raiseIf b c so p a s).heads rfl
@[simp] theorem raise_meas (c so p a : Nat) (s : State) : (raise c so p a s).meas = s.meas := (upd_raise c so p a s).meas rfl
@[simp] theorem raiseIf_meas (b : Bool) (c so p a : Nat) (s : State) : (raiseIf b c so p a s).meas = s.meas := (upd_raiseIf b c so p a s).meas rfl
@[simp] theorem raise_met (c so p a : Nat) (s : State) : (raise c so p a s).met = s.met := (upd_raise c so p a s).met rfl
@[simp] theorem raiseIf_met (b : Bool) (c so p a : Nat) (s : State) : (raiseIf b c so p a s).met = s.met := (upd_raiseIf b c so p a s).met rfl
@[simp] theorem raise_pmet (c so p a : Nat) (s : State) : (raise c so p a s).pmet = s.pmet := (upd_raise c so p a s).pmet rfl
@[simp] theorem raiseIf_pmet (b : Bool) (c so p a : Nat) (s : State) : (raiseIf b c so p a s).pmet = s.pmet := (upd_raiseIf b c so p a s).pmet rfl
@[simp] theorem raise_safe (c so p a : Nat) (s : State) : (raise c so p a s).safe = s.safe := (upd_raise c so p a s).safe rfl
@[simp] theorem raiseIf_safe (b : Bool) (c so p a : Nat) (s : State) : (raiseIf b c so p a s).safe = s.safe := (upd_raiseIf b c so p a s).safe rfl
@[simp] theorem raise_psafe (c so p a : Nat) (s : State) : (raise c so p a s).psafe = s.psafe := (upd_raise c so p a s).psafe rfl
@[simp] theorem raiseIf_psafe (b : Bool) (c so p a : Nat) (s : State) : (raiseIf b c so p a s).psafe = s.psafe := (upd_raiseIf b c so p a s).psafe rfl
@[simp] theorem raise_cp (c so p a : Nat) (s : State) : (raise c so p a s).cp = s.cp := (upd_raise c so p a s).cp rfl
@[simp] theorem raiseIf_cp (b : Bool) (c so p a : Nat) (s : State) : (raiseIf b c so p a s).cp = s.cp := (upd_raiseIf b c so p a s).cp rfl
@[simp] theorem raise_plc (c so p a : Nat) (s : State) : (raise c so p a s).plc = s.plc := (upd_raise c so p a s).plc rfl
@[simp] theorem raiseIf_plc (b : Bool) (c so p a : Nat) (s : State) : (raiseIf b c so p a s).plc = s.plc := (upd_raiseIf b c so p a s).plc rfl
@[simp] theorem raise_pipes (c so p a : Nat) (s : State) : (raise c so p a s).pipes = s.pipes := (upd_raise c so p a s).pipes rfl
@[simp] theorem raiseIf_pipes (b : Bool) (c so p a : Nat) (s : State) : (raiseIf b c so p a s).pipes = s.pipes := (upd_raiseIf b c so p a s).pipes rfl
@[simp] theorem raise_hpipes (c so p a : Nat) (s : State) : (raise c so p a s).hpipes = s.hpipes := (upd_raise c so p a s).hpipes rfl
@[simp] theorem raiseIf_hpipes (b : Bool) (c so p a : Nat) (s : State) : (raiseIf b c so p a s).hpipes = s.hpipes := (upd_raiseIf b c so p a s).hpipes rfl
@[simp] theorem raise_ses (c so p a : Nat) (s : State) : (raise c so p a s).ses = s.ses := (upd_raise c so p a s).ses rfl
@[simp] theorem raiseIf_ses (b : Bool) (c so p a : Nat) (s : State) : (raiseIf b c so p a s).ses = s.ses := (upd_raiseIf b c so p a s).ses rfl
@[simp] theorem raise_sesSys (c so p a : Nat) (s : State) : (raise c so p a s).sesSys = s.sesSys := (upd_raise c so p a s).sesSys rfl
@[simp] theorem raiseIf_sesSys (b : Bool) (c so p a : Nat) (s : State) : (raiseIf b c so p a s).sesSys = s.sesSys := (upd_raiseIf b c so p a s).sesSys rfl
@[simp] theorem raise_auth (c so p a : Nat) (s : State) : (raise c so p a s).auth = s.auth := (upd_raise c so p a s).auth rfl
@[simp] theorem raiseIf_auth (b : Bool) (c so p a : Nat) (s : State) : (raiseIf b c so p a s).auth = s.auth := (upd_raiseIf b c so p a s).auth rfl
@[simp] theorem raise_authSys (c so p a : Nat) (s : State) : (raise c so p a s).authSys = s.authSys := (upd_raise c so p a s).authSys rfl
@[simp] theorem raiseIf_authSys (b : Bool) (c so p a : Nat) (s : State) : (raiseIf b c so p a s).authSys = s.authSys := (upd_raiseIf b c so p a s).authSys rfl
@[simp] theorem raise_led (c so p a : Nat) (s : State) : (raise c so p a s).led = s.led := (upd_raise c so p a s).led rfl
@[simp] theorem raiseIf_led (b : Bool) (c so p a : Nat) (s : State) : (raiseIf b c so p a s).led = s.led := (upd_raiseIf b c so p a s).led rfl
@[simp] theorem raise_recs (c so p a : Nat) (s : State) : (raise c so p a s).recs = s.recs := (upd_raise c so p a s).recs rfl
@[simp] theorem raiseIf_recs (b : Bool) (c so p a : Nat) (s : State) : (raiseIf b c so p a s).recs = s.recs := (upd_raiseIf b c so p a s).recs rfl
@[simp] theorem raise_mbus (c so p a : Nat) (s : State) : (raise c so p a s).mbus = s.mbus := (upd_raise c so p a s).mbus rfl
@[simp] theorem raiseIf_mbus (b : Bool) (c so p a : Nat) (s : State) : (raiseIf b c so p a s).mbus = s.mbus := (upd_raiseIf b c so p a s).mbus rfl
@[simp] theorem raise_tag (c so p a : Nat) (s : State) : (raise c so p a s).tag = s.tag := (upd_raise c so p a s).tag rfl
@[simp] theorem raiseIf_tag (b : Bool) (c so p a : Nat) (s : State) : (raiseIf b c so p a s).tag = s.tag := (upd_raiseIf b c so p a s).tag rfl
@[simp] theorem raise_phy (c so p a : Nat) (s : State) : (raise c so p a s).phy = s.phy := (upd_raise c so p a s).phy rfl
@[simp] theorem raiseIf_phy (b : Bool) (c so p a : Nat) (s : State) : (raiseIf b c so p a s).phy = s.phy := (upd_raiseIf b c so p a s).phy rfl
@[simp] theorem raise_lnk (c so p a : Nat) (s : State) : (raise c so p a s).lnk = s.lnk := (upd_raise c so p a s).lnk rfl
@[simp] theorem raiseIf_lnk (b : Bool) (c so p a : Nat) (s : State) : (raiseIf b c so p a s).lnk = s.lnk := (upd_raiseIf b c so p a s).lnk rfl
@[simp] theorem raise_share (c so p a : Nat) (s : State) : (raise c so p a s).share = s.share := (upd_raise c so p a s).share rfl
@[simp] theorem raiseIf_share (b : Bool) (c so p a : Nat) (s : State) : (raiseIf b c so p a s).share = s.share := (upd_raiseIf b c so p a s).share rfl
@[simp] theorem raise_epd (c so p a : Nat) (s : State) : (raise c so p a s).epd = s.epd := (upd_raise c so p a s).epd rfl
@[simp] theorem raiseIf_epd (b : Bool) (c so p a : Nat) (s : State) : (raiseIf b c so p a s).epd = s.epd := (upd_raiseIf b c so p a s).epd rfl
@[simp] theorem raise_fab (c so p a : Nat) (s : State) : (raise c so p a s).fab = s.fab := (upd_raise c so p a s).fab rfl
@[simp] theorem raiseIf_fab (b : Bool) (c so p a : Nat) (s : State) : (raiseIf b c so p a s).fab = s.fab := (upd_raiseIf b c so p a s).fab rfl
@[simp] theorem raise_jrn (c so p a : Nat) (s : State) : (raise c so p a s).jrn = s.jrn := (upd_raise c so p a s).jrn rfl
@[simp] theorem raiseIf_jrn (b : Bool) (c so p a : Nat) (s : State) : (raiseIf b c so p a s).jrn = s.jrn := (upd_raiseIf b c so p a s).jrn rfl
@[simp] theorem raise_tamper (c so p a : Nat) (s : State) : (raise c so p a s).tamper = s.tamper := (upd_raise c so p a s).tamper rfl
@[simp] theorem raiseIf_tamper (b : Bool) (c so p a : Nat) (s : State) : (raiseIf b c so p a s).tamper = s.tamper := (upd_raiseIf b c so p a s).tamper rfl
@[simp] theorem raise_elec (c so p a : Nat) (s : State) : (raise c so p a s).elec = s.elec := (upd_raise c so p a s).elec rfl
@[simp] theorem raiseIf_elec (b : Bool) (c so p a : Nat) (s : State) : (raiseIf b c so p a s).elec = s.elec := (upd_raiseIf b c so p a s).elec rfl
@[simp] theorem raise_freeCtr (c so p a : Nat) (s : State) : (raise c so p a s).freeCtr = s.freeCtr := (upd_raise c so p a s).freeCtr rfl
@[simp] theorem raiseIf_freeCtr (b : Bool) (c so p a : Nat) (s : State) : (raiseIf b c so p a s).freeCtr = s.freeCtr := (upd_raiseIf b c so p a s).freeCtr rfl
@[simp] theorem raise_pending (c so p a : Nat) (s : State) : (raise c so p a s).pending = s.pending := (upd_raise c so p a s).pending
@[simp] theorem raiseIf_pending (b : Bool) (c so p a : Nat) (s : State) : (raiseIf b c so p a s).pending = s.pending := (upd_raiseIf b c so p a s).pending
@[simp] theorem publishAll_eng (s : State) : (publishAll s).eng = s.eng := (upd_publishAll s).eng rfl
@[simp] theorem atBoundary_eng (s t : State) : (atBoundary s t).eng = t.eng := by
  unfold atBoundary
  split
  · simp_all
  · split
    · rfl
    · exact publishAll_eng t
@[simp] theorem publishAll_clk (s : State) : (publishAll s).clk = s.clk := (upd_publishAll s).clk rfl
@[simp] theorem atBoundary_clk (s t : State) : (atBoundary s t).clk = t.clk := by
  unfold atBoundary
  split
  · simp_all
  · split
    · rfl
    · exact publishAll_clk t
@[simp] theorem publishAll_life (s : State) : (publishAll s).life = s.life := (upd_publishAll s).life rfl
@[simp] theorem atBoundary_life (s t : State) : (atBoundary s t).life = t.life := by
  unfold atBoundary
  split
  · simp_all
  · split
    · rfl
    · exact publishAll_life t
@[simp] theorem publishAll_keys (s : State) : (publishAll s).keys = s.keys := (upd_publishAll s).keys rfl
@[simp] theorem atBoundary_keys (s t : State) : (atBoundary s t).keys = t.keys := by
  unfold atBoundary
  split
  · simp_all
  · split
    · rfl
    · exact publishAll_keys t
@[simp] theorem publishAll_img (s : State) : (publishAll s).img = s.img := (upd_publishAll s).img rfl
@[simp] theorem atBoundary_img (s t : State) : (atBoundary s t).img = t.img := by
  unfold atBoundary
  split
  · simp_all
  · split
    · rfl
    · exact publishAll_img t
@[simp] theorem publishAll_flash (s : State) : (publishAll s).flash = s.flash := (upd_publishAll s).flash rfl
@[simp] theorem atBoundary_flash (s t : State) : (atBoundary s t).flash = t.flash := by
  unfold atBoundary
  split
  · simp_all
  · split
    · rfl
    · exact publishAll_flash t
@[simp] theorem publishAll_dlv (s : State) : (publishAll s).dlv = s.dlv := (upd_publishAll s).dlv rfl
@[simp] theorem atBoundary_dlv (s t : State) : (atBoundary s t).dlv = t.dlv := by
  unfold atBoundary
  split
  · simp_all
  · split
    · rfl
    · exact publishAll_dlv t
@[simp] theorem publishAll_ports (s : State) : (publishAll s).ports = s.ports := (upd_publishAll s).ports rfl
@[simp] theorem atBoundary_ports (s t : State) : (atBoundary s t).ports = t.ports := by
  unfold atBoundary
  split
  · simp_all
  · split
    · rfl
    · exact publishAll_ports t
@[simp] theorem publishAll_heads (s : State) : (publishAll s).heads = s.heads := (upd_publishAll s).heads rfl
@[simp] theorem atBoundary_heads (s t : State) : (atBoundary s t).heads = t.heads := by
  unfold atBoundary
  split
  · simp_all
  · split
    · rfl
    · exact publishAll_heads t
@[simp] theorem publishAll_meas (s : State) : (publishAll s).meas = s.meas := (upd_publishAll s).meas rfl
@[simp] theorem atBoundary_meas (s t : State) : (atBoundary s t).meas = t.meas := by
  unfold atBoundary
  split
  · simp_all
  · split
    · rfl
    · exact publishAll_meas t
@[simp] theorem publishAll_met (s : State) : (publishAll s).met = s.met := (upd_publishAll s).met rfl
@[simp] theorem atBoundary_met (s t : State) : (atBoundary s t).met = t.met := by
  unfold atBoundary
  split
  · simp_all
  · split
    · rfl
    · exact publishAll_met t
@[simp] theorem publishAll_pmet (s : State) : (publishAll s).pmet = s.pmet := (upd_publishAll s).pmet rfl
@[simp] theorem atBoundary_pmet (s t : State) : (atBoundary s t).pmet = t.pmet := by
  unfold atBoundary
  split
  · simp_all
  · split
    · rfl
    · exact publishAll_pmet t
@[simp] theorem publishAll_safe (s : State) : (publishAll s).safe = s.safe := (upd_publishAll s).safe rfl
@[simp] theorem atBoundary_safe (s t : State) : (atBoundary s t).safe = t.safe := by
  unfold atBoundary
  split
  · simp_all
  · split
    · rfl
    · exact publishAll_safe t
@[simp] theorem publishAll_psafe (s : State) : (publishAll s).psafe = s.psafe := (upd_publishAll s).psafe rfl
@[simp] theorem atBoundary_psafe (s t : State) : (atBoundary s t).psafe = t.psafe := by
  unfold atBoundary
  split
  · simp_all
  · split
    · rfl
    · exact publishAll_psafe t
@[simp] theorem publishAll_cp (s : State) : (publishAll s).cp = s.cp := (upd_publishAll s).cp rfl
@[simp] theorem atBoundary_cp (s t : State) : (atBoundary s t).cp = t.cp := by
  unfold atBoundary
  split
  · simp_all
  · split
    · rfl
    · exact publishAll_cp t
@[simp] theorem publishAll_plc (s : State) : (publishAll s).plc = s.plc := (upd_publishAll s).plc rfl
@[simp] theorem atBoundary_plc (s t : State) : (atBoundary s t).plc = t.plc := by
  unfold atBoundary
  split
  · simp_all
  · split
    · rfl
    · exact publishAll_plc t
@[simp] theorem publishAll_pipes (s : State) : (publishAll s).pipes = s.pipes := (upd_publishAll s).pipes rfl
@[simp] theorem atBoundary_pipes (s t : State) : (atBoundary s t).pipes = t.pipes := by
  unfold atBoundary
  split
  · simp_all
  · split
    · rfl
    · exact publishAll_pipes t
@[simp] theorem publishAll_hpipes (s : State) : (publishAll s).hpipes = s.hpipes := (upd_publishAll s).hpipes rfl
@[simp] theorem atBoundary_hpipes (s t : State) : (atBoundary s t).hpipes = t.hpipes := by
  unfold atBoundary
  split
  · simp_all
  · split
    · rfl
    · exact publishAll_hpipes t
@[simp] theorem publishAll_ses (s : State) : (publishAll s).ses = s.ses := (upd_publishAll s).ses rfl
@[simp] theorem atBoundary_ses (s t : State) : (atBoundary s t).ses = t.ses := by
  unfold atBoundary
  split
  · simp_all
  · split
    · rfl
    · exact publishAll_ses t
@[simp] theorem publishAll_sesSys (s : State) : (publishAll s).sesSys = s.sesSys := (upd_publishAll s).sesSys rfl
@[simp] theorem atBoundary_sesSys (s t : State) : (atBoundary s t).sesSys = t.sesSys := by
  unfold atBoundary
  split
  · simp_all
  · split
    · rfl
    · exact publishAll_sesSys t
@[simp] theorem publishAll_auth (s : State) : (publishAll s).auth = s.auth := (upd_publishAll s).auth rfl
@[simp] theorem atBoundary_auth (s t : State) : (atBoundary s t).auth = t.auth := by
  unfold atBoundary
  split
  · simp_all
  · split
    · rfl
    · exact publishAll_auth t
@[simp] theorem publishAll_authSys (s : State) : (publishAll s).authSys = s.authSys := (upd_publishAll s).authSys rfl
@[simp] theorem atBoundary_authSys (s t : State) : (atBoundary s t).authSys = t.authSys := by
  unfold atBoundary
  split
  · simp_all
  · split
    · rfl
    · exact publishAll_authSys t
@[simp] theorem publishAll_led (s : State) : (publishAll s).led = s.led := (upd_publishAll s).led rfl
@[simp] theorem atBoundary_led (s t : State) : (atBoundary s t).led = t.led := by
  unfold atBoundary
  split
  · simp_all
  · split
    · rfl
    · exact publishAll_led t
@[simp] theorem publishAll_recs (s : State) : (publishAll s).recs = s.recs := (upd_publishAll s).recs rfl
@[simp] theorem atBoundary_recs (s t : State) : (atBoundary s t).recs = t.recs := by
  unfold atBoundary
  split
  · simp_all
  · split
    · rfl
    · exact publishAll_recs t
@[simp] theorem publishAll_mbus (s : State) : (publishAll s).mbus = s.mbus := (upd_publishAll s).mbus rfl
@[simp] theorem atBoundary_mbus (s t : State) : (atBoundary s t).mbus = t.mbus := by
  unfold atBoundary
  split
  · simp_all
  · split
    · rfl
    · exact publishAll_mbus t
@[simp] theorem publishAll_tag (s : State) : (publishAll s).tag = s.tag := (upd_publishAll s).tag rfl
@[simp] theorem atBoundary_tag (s t : State) : (atBoundary s t).tag = t.tag := by
  unfold atBoundary
  split
  · simp_all
  · split
    · rfl
    · exact publishAll_tag t
@[simp] theorem publishAll_phy (s : State) : (publishAll s).phy = s.phy := (upd_publishAll s).phy rfl
@[simp] theorem atBoundary_phy (s t : State) : (atBoundary s t).phy = t.phy := by
  unfold atBoundary
  split
  · simp_all
  · split
    · rfl
    · exact publishAll_phy t
@[simp] theorem publishAll_lnk (s : State) : (publishAll s).lnk = s.lnk := (upd_publishAll s).lnk rfl
@[simp] theorem atBoundary_lnk (s t : State) : (atBoundary s t).lnk = t.lnk := by
  unfold atBoundary
  split
  · simp_all
  · split
    · rfl
    · exact publishAll_lnk t
@[simp] theorem publishAll_share (s : State) : (publishAll s).share = s.share := (upd_publishAll s).share rfl
@[simp] theorem atBoundary_share (s t : State) : (atBoundary s t).share = t.share := by
  unfold atBoundary
  split
  · simp_all
  · split
    · rfl
    · exact publishAll_share t
@[simp] theorem publishAll_epd (s : State) : (publishAll s).epd = s.epd := (upd_publishAll s).epd rfl
@[simp] theorem atBoundary_epd (s t : State) : (atBoundary s t).epd = t.epd := by
  unfold atBoundary
  split
  · simp_all
  · split
    · rfl
    · exact publishAll_epd t
@[simp] theorem publishAll_fab (s : State) : (publishAll s).fab = s.fab := (upd_publishAll s).fab rfl
@[simp] theorem atBoundary_fab (s t : State) : (atBoundary s t).fab = t.fab := by
  unfold atBoundary
  split
  · simp_all
  · split
    · rfl
    · exact publishAll_fab t
@[simp] theorem publishAll_ev (s : State) : (publishAll s).ev = s.ev := (upd_publishAll s).ev rfl
@[simp] theorem atBoundary_ev (s t : State) : (atBoundary s t).ev = t.ev := by
  unfold atBoundary
  split
  · simp_all
  · split
    · rfl
    · exact publishAll_ev t
@[simp] theorem publishAll_sen (s : State) : (publishAll s).sen = s.sen := (upd_publishAll s).sen rfl
@[simp] theorem atBoundary_sen (s t : State) : (atBoundary s t).sen = t.sen := by
  unfold atBoundary
  split
  · simp_all
  · split
    · rfl
    · exact publishAll_sen t
@[simp] theorem publishAll_jrn (s : State) : (publishAll s).jrn = s.jrn := (upd_publishAll s).jrn rfl
@[simp] theorem atBoundary_jrn (s t : State) : (atBoundary s t).jrn = t.jrn := by
  unfold atBoundary
  split
  · simp_all
  · split
    · rfl
    · exact publishAll_jrn t
@[simp] theorem publishAll_tamper (s : State) : (publishAll s).tamper = s.tamper := (upd_publishAll s).tamper rfl
@[simp] theorem atBoundary_tamper (s t : State) : (atBoundary s t).tamper = t.tamper := by
  unfold atBoundary
  split
  · simp_all
  · split
    · rfl
    · exact publishAll_tamper t
@[simp] theorem publishAll_elec (s : State) : (publishAll s).elec = s.elec := (upd_publishAll s).elec rfl
@[simp] theorem atBoundary_elec (s t : State) : (atBoundary s t).elec = t.elec := by
  unfold atBoundary
  split
  · simp_all
  · split
    · rfl
    · exact publishAll_elec t
@[simp] theorem publishAll_pending (s : State) : (publishAll s).pending = s.pending := (upd_publishAll s).pending
@[simp] theorem atBoundary_pending (s t : State) : (atBoundary s t).pending = t.pending := by
  unfold atBoundary
  split
  · simp_all
  · split
    · rfl
    · exact publishAll_pending t

theorem evPut_ev_congr {e : EventRec} {s t : State} (h1 : t.ev = s.ev) (h5 : t.clk.bndTot = s.clk.bndTot) (h6 : t.sen.mono = s.sen.mono) :
    (evPut e t).ev = (evPut e s).ev := by
  unfold evPut nowS
  dsimp only [State.modEv_ev]
  rw [h1, h5, h6]

theorem evAccept_ev_congr {e : EventRec} {s t : State} (h1 : t.ev = s.ev) (h5 : t.clk.bndTot = s.clk.bndTot)
    (h6 : t.sen.mono = s.sen.mono) : (evAccept e t).ev = (evAccept e s).ev := by
  simp only [evAccept, h1]
  split
  · exact evPut_ev_congr (by simp [h1]) (by simp [h5]) (by simp [h6])
  · split
    · exact evPut_ev_congr (by simp [h1]) (by simp [h5]) (by simp [h6])
    · simp [h1]

/-- What the event unit keeps of an event depends on the event unit, the supply, the count and the seconds alone. -/
theorem raise_ev_congr {c so p a : Nat} {s t : State} (h1 : t.ev = s.ev) (h2 : t.elec = s.elec) (h3 : t.clk.started = s.clk.started)
    (h4 : t.clk.count = s.clk.count) (h5 : t.clk.bndTot = s.clk.bndTot) (h6 : t.sen.mono = s.sen.mono) :
    (raise c so p a t).ev = (raise c so p a s).ev := by
  simp only [raise, h2, h3, h4]
  split
  · simp only [evBuffer]
    repeat' split
    all_goals simp [h1]
  · split
    · simp only [evHold, h1]
      split <;> simp [h1]
    · exact evAccept_ev_congr h1 h5 h6

end Sys2Proof.Machine
end

