-- ==== Sys2Proof/Laws/Rail.lean ====
section
/-! SUPPORT. The contactor-supply rail: what opening it, locking the hub out and stopping a point do to the SSMs' part of the state (09 R291, R293, R300). -/

namespace Sys2Proof.Machine

theorem foldl_same {α β : Type} (p : State → β) (F : State → α → State) (l : List α) (s : State) (h : ∀ u a, p (F u a) = p u) :
    p (l.foldl F s) = p s := by
  induction l generalizing s with
  | nil => rfl
  | cons a l ih => rw [List.foldl_cons, ih, h]

/-- Stopping a point withdraws both opinions on it and changes nothing else of the SSMs. -/
theorem stopPoint_safe (i : Fin 32) (s : State) :
    (stopPoint i s).safe = { s.safe with a := { s.safe.a with opinion := s.safe.a.opinion.set i false }
                                         b := { s.safe.b with opinion := s.safe.b.opinion.set i false } } := by
  simp [stopPoint, toSafeSt, withdraw, setOpinion, modSsms]

/-- The SSMs' part after the rail opened, read by anything that stopping points does not touch. -/
theorem railOpen_reads {β : Type} (p : Safe → β) (cause : Nat) (s : State)
    (h1 : ∀ (x : Safe) (u v : Vector Bool 32), p { x with a := { x.a with opinion := u }, b := { x.b with opinion := v } } = p x) :
    p (railOpen cause s).safe =
      p { s.safe with a := { s.safe.a with armed := false, out := false }, b := { s.safe.b with armed := false, out := false }
                      monA := false, monB := false } := by
  unfold railOpen
  dsimp only
  rw [foldl_same (fun s => p s.safe) _ _ _ (fun u a => by simp only [stopPoint_safe, h1])]
  simp only [(upd_raiseIf _ _ _ _ _ _).safe rfl]
  rfl

/-- Opening the rail disarms both SSMs and drives both SAFE_EN outputs low. -/
theorem railOpen_off (cause : Nat) (s : State) :
    (railOpen cause s).safe.a.armed = false ∧ (railOpen cause s).safe.b.armed = false ∧ (railOpen cause s).safe.a.out = false ∧
      (railOpen cause s).safe.b.out = false := by
  have h1 := railOpen_reads (fun x => x.a.armed) cause s (fun _ _ _ => by dsimp only)
  have h2 := railOpen_reads (fun x => x.b.armed) cause s (fun _ _ _ => by dsimp only)
  have h3 := railOpen_reads (fun x => x.a.out) cause s (fun _ _ _ => by dsimp only)
  have h4 := railOpen_reads (fun x => x.b.out) cause s (fun _ _ _ => by dsimp only)
  dsimp only at h1 h2 h3 h4
  exact ⟨h1, h2, h3, h4⟩

/-- What the whole of `railOpen` keeps of the SSMs' part: any reading that stopping points, events, the outputs and the arming do not touch. -/
theorem railOpen_keeps {β : Type} (p : Safe → β) (cause : Nat) (s : State)
    (h1 : ∀ (x : Safe) (u v : Vector Bool 32), p { x with a := { x.a with opinion := u }, b := { x.b with opinion := v } } = p x)
    (h2 : ∀ x : Safe, p { x with a := { x.a with armed := false, out := false }, b := { x.b with armed := false, out := false }, monA := false, monB := false } = p x) :
    p (railOpen cause s).safe = p s.safe :=
  (railOpen_reads p cause s h1).trans (h2 s.safe)

/-- A hub lock-out disarms both SSMs, drives both outputs low and notes its condition. -/
theorem lockHub_off (cause code arg : Nat) (s : State) :
    (lockHub cause code arg s).safe.a.armed = false ∧ (lockHub cause code arg s).safe.b.armed = false ∧
      (lockHub cause code arg s).safe.a.out = false ∧ (lockHub cause code arg s).safe.b.out = false := by
  unfold lockHub
  exact railOpen_off _ _

theorem lockHub_keeps {β : Type} (p : Safe → β) (cause code arg : Nat) (s : State)
    (h1 : ∀ (x : Safe) (u v : Vector Bool 32), p { x with a := { x.a with opinion := u }, b := { x.b with opinion := v } } = p x)
    (h2 : ∀ x : Safe, p { x with a := { x.a with armed := false, out := false }, b := { x.b with armed := false, out := false }, monA := false, monB := false } = p x)
    (h3 : ∀ (x : Safe) (l m : LockRec), p { x with a := { x.a with lockRec := l }, b := { x.b with lockRec := m } } = p x)
    (h4 : ∀ (x : Safe) (n : Nat), p { x with lockouts := n } = p x) :
    p (lockHub cause code arg s).safe = p { s.safe with condHub := insertAsc cause s.safe.condHub } := by
  unfold lockHub
  dsimp only
  rw [railOpen_keeps p _ _ h1 h2]
  simp only [(upd_raiseIf _ _ _ _ _ _).safe rfl, raise_safe]
  unfold recHub
  split
  · exact (h4 _ _).trans (h3 { s.safe with condHub := insertAsc cause s.safe.condHub } _ _)
  · exact h4 { s.safe with condHub := insertAsc cause s.safe.condHub } _

theorem insertAsc_mem (n : Nat) (l : List Nat) : (insertAsc n l).contains n = true := by
  induction l with
  | nil => simp [insertAsc]
  | cons a l ih =>
    unfold insertAsc
    split
    · simp
    · split
      · simp_all
      · simpa using Or.inr (by simpa using ih)

end Sys2Proof.Machine
end

