-- ==== Sys2Proof/Laws/UpdClock.lean ====
section
/-! SUPPORT. What the operations of Machine/Clock.lean change: one lemma for each, that its result differs from its state at most in the parts named,
and that what only grows has not gone back. -/

namespace Sys2Proof.Machine

theorem upd_clockStarted (st : ClkState) (base : Rat) (s : State) : Upd [.clk, .life, .ev, .sen] s (clockStarted st base s) := by
  unfold clockStarted
  repeat' (first
    | with_reducible assumption
    | with_reducible exact Upd.refl _ _
    | (show subParts _ _ = true; rfl)
    | with_reducible apply Upd.ite
    | exact (fun _ => ⟨rfl, rfl, rfl⟩)
    | with_reducible apply Upd.comp (upd_modLife _ _ ?_)
    | with_reducible apply Upd.comp (upd_modClk _ _)
    | with_reducible apply Upd.comp (upd_raise _ _ _ _ _)
    | split)

theorem upd_acquireCrossing (iv : Option Rat) (s : State) : Upd [.clk, .life, .ev, .sen] s (acquireCrossing iv s) := by
  unfold acquireCrossing
  repeat' (first
    | with_reducible assumption
    | with_reducible exact Upd.refl _ _
    | (show subParts _ _ = true; rfl)
    | with_reducible apply Upd.ite
    | with_reducible apply Upd.comp (upd_modClk _ _)
    | with_reducible apply Upd.comp (upd_clockStarted _ _ _)
    | split)

theorem upd_clkBoundary (k : Nat) (s : State) : Upd [.clk] s (clkBoundary k s) := by
  unfold clkBoundary
  repeat' (first
    | with_reducible assumption
    | with_reducible exact Upd.refl _ _
    | (show subParts _ _ = true; rfl)
    | with_reducible apply Upd.ite
    | with_reducible apply Upd.comp (upd_modClk _ _)
    | split)

theorem upd_doReturnToL1 (s : State) : Upd [.clk, .ev, .sen] s (doReturnToL1 s) := by
  unfold doReturnToL1
  repeat' (first
    | with_reducible assumption
    | with_reducible exact Upd.refl _ _
    | (show subParts _ _ = true; rfl)
    | with_reducible apply Upd.ite
    | with_reducible apply Upd.comp (upd_modClk _ _)
    | with_reducible apply Upd.comp (upd_raise _ _ _ _ _)
    | split)

theorem upd_doSourceChange (s : State) : Upd [.clk, .ev, .sen] s (doSourceChange s) := by
  unfold doSourceChange
  repeat' (first
    | with_reducible assumption
    | with_reducible exact Upd.refl _ _
    | (show subParts _ _ = true; rfl)
    | with_reducible apply Upd.ite
    | with_reducible apply Upd.comp (upd_modClk _ _)
    | with_reducible apply Upd.comp (upd_raise _ _ _ _ _)
    | split)

theorem upd_enterFree (s : State) : Upd [.clk, .ev, .sen] s (enterFree s) := by
  unfold enterFree
  repeat' (first
    | with_reducible assumption
    | with_reducible exact Upd.refl _ _
    | (show subParts _ _ = true; rfl)
    | with_reducible apply Upd.ite
    | with_reducible apply Upd.comp (upd_modClk _ _)
    | with_reducible apply Upd.comp (upd_raise _ _ _ _ _)
    | split)

theorem upd_enterLocked (s : State) : Upd [.clk, .ev, .sen] s (enterLocked s) := by
  unfold enterLocked
  repeat' (first
    | with_reducible assumption
    | with_reducible exact Upd.refl _ _
    | (show subParts _ _ = true; rfl)
    | with_reducible apply Upd.ite
    | with_reducible apply Upd.comp (upd_modClk _ _)
    | with_reducible apply Upd.comp (upd_raise _ _ _ _ _)
    | split)

theorem upd_execAcquireTimeout (s : State) : ∃ u, execAcquireTimeout s = .next u ∧ Upd [.clk, .life, .ev, .sen] s u := by
  unfold execAcquireTimeout
  refine ⟨_, rfl, ?_⟩
  repeat' (first
    | with_reducible assumption
    | with_reducible exact Upd.refl _ _
    | (show subParts _ _ = true; rfl)
    | with_reducible apply Upd.ite
    | with_reducible apply Upd.comp (upd_clockStarted _ _ _)
    | split)

theorem upd_pullFail (n : Int) (s : State) : Upd [.clk, .ev, .sen] s (pullFail n s) := by
  unfold pullFail
  repeat' (first
    | with_reducible assumption
    | with_reducible exact Upd.refl _ _
    | (show subParts _ _ = true; rfl)
    | with_reducible apply Upd.ite
    | with_reducible apply Upd.comp (upd_modClk _ _)
    | with_reducible apply Upd.comp (upd_enterFree _)
    | split)

theorem upd_execCrossingSlip (inp : MsIn) (s : State) : ∃ u, execCrossingSlip inp s = .next u ∧ Upd [.clk, .ev, .sen] s u := by
  unfold execCrossingSlip
  refine ⟨_, rfl, ?_⟩
  repeat' (first
    | with_reducible assumption
    | with_reducible exact Upd.refl _ _
    | (show subParts _ _ = true; rfl)
    | with_reducible apply Upd.ite
    | with_reducible apply Upd.comp (upd_modClk _ _)
    | with_reducible apply Upd.comp (upd_raise _ _ _ _ _)
    | with_reducible apply Upd.comp (upd_pullFail _ _)
    | (extract_lets +onlyGivenNames x; first
        | (refine Upd.cut (P := [.clk, .ev, .sen]) (s := s) (x := x) ?_ ?_; (revert x; change Upd _ _ _); rotate_left; intro hx; clear_value x)
        | (refine Upd.cutL (P := [.clk, .ev, .sen]) (s := s) (x := x) ?_ ?_; (revert x; change Upd _ _ _); rotate_left; intro hx; clear_value x)
        | (refine Upd.cutR (P := [.clk, .ev, .sen]) (s := s) (x := x) ?_ ?_; (revert x; change Upd _ _ _); rotate_left; intro hx; clear_value x)
        | clear_value x)
    | split)

theorem upd_execHoldoverTimeout (s : State) : ∃ u, execHoldoverTimeout s = .next u ∧ Upd [.clk, .ev, .sen] s u := by
  unfold execHoldoverTimeout
  refine ⟨_, rfl, ?_⟩
  repeat' (first
    | with_reducible assumption
    | with_reducible exact Upd.refl _ _
    | (show subParts _ _ = true; rfl)
    | with_reducible apply Upd.ite
    | with_reducible apply Upd.comp (upd_enterFree _)
    | split)

theorem upd_execMsInputAbsent (inp : MsIn) (s : State) : ∃ u, execMsInputAbsent inp s = .next u ∧ Upd [.clk] s u := by
  unfold execMsInputAbsent
  refine ⟨_, rfl, ?_⟩
  repeat' (first
    | with_reducible assumption
    | with_reducible exact Upd.refl _ _
    | (show subParts _ _ = true; rfl)
    | with_reducible apply Upd.ite
    | with_reducible apply Upd.comp (upd_modClk _ _)
    | split)

theorem upd_execMsInputPresent (inp : MsIn) (s : State) : ∃ u, execMsInputPresent inp s = .next u ∧ Upd [.clk] s u := by
  unfold execMsInputPresent
  refine ⟨_, rfl, ?_⟩
  repeat' (first
    | with_reducible assumption
    | with_reducible exact Upd.refl _ _
    | (show subParts _ _ = true; rfl)
    | with_reducible apply Upd.ite
    | with_reducible apply Upd.comp (upd_modClk _ _)
    | split)

theorem upd_goodCrossing (n : Int) (e : Int) (s : State) : Upd [.clk, .ev, .sen] s (goodCrossing n e s) := by
  unfold goodCrossing
  repeat' (first
    | with_reducible assumption
    | with_reducible exact Upd.refl _ _
    | (show subParts _ _ = true; rfl)
    | with_reducible apply Upd.ite
    | with_reducible apply Upd.comp (upd_modClk _ _)
    | with_reducible apply Upd.comp (upd_enterLocked _)
    | (extract_lets +onlyGivenNames x; first
        | (refine Upd.cut (P := [.clk, .ev, .sen]) (s := s) (x := x) ?_ ?_; (revert x; change Upd _ _ _); rotate_left; intro hx; clear_value x)
        | (refine Upd.cutL (P := [.clk, .ev, .sen]) (s := s) (x := x) ?_ ?_; (revert x; change Upd _ _ _); rotate_left; intro hx; clear_value x)
        | (refine Upd.cutR (P := [.clk, .ev, .sen]) (s := s) (x := x) ?_ ?_; (revert x; change Upd _ _ _); rotate_left; intro hx; clear_value x)
        | clear_value x)
    | split)

theorem upd_outsideCrossing (n : Int) (e : Int) (ok : Bool) (s : State) : Upd [.clk, .ev, .sen] s (outsideCrossing n e ok s) := by
  unfold outsideCrossing
  repeat' (first
    | with_reducible assumption
    | with_reducible exact Upd.refl _ _
    | (show subParts _ _ = true; rfl)
    | with_reducible apply Upd.ite
    | with_reducible apply Upd.comp (upd_modClk _ _)
    | with_reducible apply Upd.comp (upd_raise _ _ _ _ _)
    | with_reducible apply Upd.comp (upd_pullFail _ _)
    | split)

theorem upd_sourceCrossing (iv : Option Rat) (pos : Int) (o : Nat) (s : State) : Upd [.clk, .ev, .sen] s (sourceCrossing iv pos o s) := by
  unfold sourceCrossing
  repeat' (first
    | with_reducible assumption
    | with_reducible exact Upd.refl _ _
    | (show subParts _ _ = true; rfl)
    | with_reducible apply Upd.ite
    | with_reducible apply Upd.comp (upd_modClk _ _)
    | with_reducible apply Upd.comp (upd_goodCrossing _ _ _)
    | with_reducible apply Upd.comp (upd_outsideCrossing _ _ _ _)
    | split)

theorem upd_rotationCrossing (inp : MsIn) (phase : Int) (s : State) : Upd [.clk, .ev, .sen] s (rotationCrossing inp phase s) := by
  unfold rotationCrossing
  repeat' (first
    | with_reducible assumption
    | with_reducible exact Upd.refl _ _
    | (show subParts _ _ = true; rfl)
    | with_reducible apply Upd.ite
    | with_reducible apply Upd.comp (upd_modClk _ _)
    | with_reducible apply Upd.comp (upd_raiseIf _ _ _ _ _ _)
    | split)

theorem upd_monitorL1 (pos : Int) (s : State) : Upd [.clk] s (monitorL1 pos s) := by
  unfold monitorL1
  repeat' (first
    | with_reducible assumption
    | with_reducible exact Upd.refl _ _
    | (show subParts _ _ = true; rfl)
    | with_reducible apply Upd.ite
    | with_reducible apply Upd.comp (upd_modClk _ _)
    | split)

theorem upd_execZeroCrossing (inp : MsIn) (iv : Option Rat) (phase : Nat) (s : State) : ∃ u, execZeroCrossing inp iv phase s = .next u ∧ Upd [.clk, .life, .ev, .sen] s u := by
  unfold execZeroCrossing
  refine ⟨_, rfl, ?_⟩
  repeat' (first
    | with_reducible assumption
    | with_reducible exact Upd.refl _ _
    | (show subParts _ _ = true; rfl)
    | with_reducible apply Upd.ite
    | with_reducible apply Upd.comp (upd_modClk _ _)
    | with_reducible apply Upd.comp (upd_acquireCrossing _ _)
    | with_reducible apply Upd.comp (upd_sourceCrossing _ _ _ _)
    | with_reducible apply Upd.comp (upd_rotationCrossing _ _ _)
    | with_reducible apply Upd.comp (upd_monitorL1 _ _)
    | split)

end Sys2Proof.Machine
end

