-- ==== Sys2Proof/Laws/UpdDisplay.lean ====
section
/-! SUPPORT. What the operations of Machine/Display.lean change: one lemma for each, that its result differs from its state at most in the parts named,
and that what only grows has not gone back. -/

namespace Sys2Proof.Machine

theorem upd_epdRom (s : State) : Upd [.epd] s (epdRom s) := by
  unfold epdRom
  repeat' (first
    | with_reducible assumption
    | with_reducible exact Upd.refl _ _
    | (show subParts _ _ = true; rfl)
    | with_reducible apply Upd.ite
    | with_reducible apply Upd.comp (upd_modEpd _ _)
    | split)

theorem upd_modelWrite (lastLight : Bool) (unknown : Bool) (inProgress : Bool) (s : State) : Upd [.epd] s (modelWrite lastLight unknown inProgress s) := by
  unfold modelWrite
  repeat' (first
    | with_reducible assumption
    | with_reducible exact Upd.refl _ _
    | (show subParts _ _ = true; rfl)
    | with_reducible apply Upd.ite
    | with_reducible apply Upd.comp (upd_modEpd _ _)
    | split)

theorem upd_dspModel (s : State) : Upd [.epd] s (dspModel s) := by
  unfold dspModel
  repeat' (first
    | with_reducible assumption
    | with_reducible exact Upd.refl _ _
    | (show subParts _ _ = true; rfl)
    | with_reducible apply Upd.ite
    | with_reducible apply Upd.comp (upd_modEpd _ _)
    | with_reducible apply Upd.comp (upd_modelWrite _ _ _ _)
    | split)

theorem upd_dspMark (s : State) : Upd [.epd] s (dspMark s) := by
  unfold dspMark
  repeat' (first
    | with_reducible assumption
    | with_reducible exact Upd.refl _ _
    | (show subParts _ _ = true; rfl)
    | with_reducible apply Upd.ite
    | with_reducible apply Upd.comp (upd_modEpd _ _)
    | split)

theorem upd_epdRelease (assetFault : Bool) (s : State) : Upd [.epd, .ev, .sen] s (epdRelease assetFault s) := by
  unfold epdRelease
  repeat' (first
    | with_reducible assumption
    | with_reducible exact Upd.refl _ _
    | (show subParts _ _ = true; rfl)
    | with_reducible apply Upd.ite
    | with_reducible apply Upd.comp (upd_modEpd _ _)
    | with_reducible apply Upd.comp (upd_raiseIf _ _ _ _ _ _)
    | split)

theorem upd_commitRegion (k : Fin 4) (r : Region) (s : State) : Upd [.epd] s (commitRegion k r s) := by
  unfold commitRegion
  repeat' (first
    | with_reducible assumption
    | with_reducible exact Upd.refl _ _
    | (show subParts _ _ = true; rfl)
    | with_reducible apply Upd.ite
    | with_reducible apply Upd.comp (upd_modEpd _ _)
    | split)

theorem upd_epdAbandonLoss (s : State) : Upd [.epd, .ev, .sen] s (epdAbandonLoss s) := by
  unfold epdAbandonLoss
  repeat' (first
    | with_reducible assumption
    | with_reducible exact Upd.refl _ _
    | (show subParts _ _ = true; rfl)
    | with_reducible apply Upd.ite
    | with_reducible apply Upd.comp (upd_modEpd _ _)
    | with_reducible apply Upd.comp (upd_raise _ _ _ _ _)
    | with_reducible apply Upd.comp (upd_modelWrite _ _ _ _)
    | split)

theorem upd_epdFault (code : Nat) (arg : Nat) (s : State) : Upd [.epd, .ev, .sen] s (epdFault code arg s) := by
  unfold epdFault
  repeat' (first
    | with_reducible assumption
    | with_reducible exact Upd.refl _ _
    | (show subParts _ _ = true; rfl)
    | with_reducible apply Upd.ite
    | with_reducible apply Upd.comp (upd_modEpd _ _)
    | with_reducible apply Upd.comp (upd_raise _ _ _ _ _)
    | split)

theorem upd_waveTable (s : State) (mode band : Nat) (malformed : Bool) : Upd [.epd, .ev, .sen] s (waveTable s mode band malformed).2.2.2 := by
  unfold waveTable
  split
  · exact Upd.refl _ s
  · dsimp only
    repeat' split
    all_goals first | exact Upd.refl _ s | exact Upd.comp (upd_raise _ _ _ _ _) (by rfl) (upd_modEpd _ s |>.mono (by decide))

theorem upd_epdLastLight (permit : Bool) (s : State) : Upd [.epd, .ev, .sen] s (epdLastLight permit s) := by
  unfold epdLastLight
  repeat' (first
    | with_reducible assumption
    | with_reducible exact Upd.refl _ _
    | (show subParts _ _ = true; rfl)
    | with_reducible apply Upd.ite
    | with_reducible apply Upd.iteRRR
    | with_reducible apply Upd.comp (upd_modEpd _ _)
    | with_reducible apply Upd.comp (upd_modSen _ _)
    | with_reducible apply Upd.comp (upd_epdAbandonLoss _)
    | with_reducible apply Upd.comp (upd_raise _ _ _ _ _)
    | with_reducible apply Upd.comp (upd_modelWrite _ _ _ _)
    | with_reducible apply Upd.comp (upd_waveTable _ _ _ _)
    | with_reducible apply Upd.comp (upd_commitRegion _ _ _)
    | split)

theorem upd_execDisplayCommit (late : Bool) (malformed : Bool) (s : State) : ∃ u, execDisplayCommit late malformed s = .next u ∧ Upd [.epd, .ev, .sen] s u := by
  unfold execDisplayCommit
  refine ⟨_, rfl, ?_⟩
  repeat' (first
    | with_reducible assumption
    | with_reducible exact Upd.refl _ _
    | (show subParts _ _ = true; rfl)
    | with_reducible apply Upd.ite
    | with_reducible apply Upd.iteRRR
    | with_reducible apply Upd.comp (upd_modEpd _ _)
    | with_reducible apply Upd.comp (upd_waveTable _ _ _ _)
    | with_reducible apply Upd.comp (upd_commitRegion _ _ _)
    | (extract_lets +onlyGivenNames x; first
        | (refine Upd.cut (P := [.epd, .ev, .sen]) (s := s) (x := x) ?_ ?_; (revert x; change Upd _ _ _); rotate_left; intro hx; clear_value x)
        | (refine Upd.cutL (P := [.epd, .ev, .sen]) (s := s) (x := x) ?_ ?_; (revert x; change Upd _ _ _); rotate_left; intro hx; clear_value x)
        | (refine Upd.cutR (P := [.epd, .ev, .sen]) (s := s) (x := x) ?_ ?_; (revert x; change Upd _ _ _); rotate_left; intro hx; clear_value x)
        | (refine Upd.cutRRR (P := [.epd, .ev, .sen]) (s := s) (x := x) ?_ ?_; (revert x; change Upd _ _ _); rotate_left; intro hx; clear_value x)
        | clear_value x)
    | split)

theorem upd_execDisplayRetry (s : State) : ∃ u, execDisplayRetry s = .next u ∧ Upd [.epd] s u := by
  unfold execDisplayRetry
  refine ⟨_, rfl, ?_⟩
  repeat' (first
    | with_reducible assumption
    | with_reducible exact Upd.refl _ _
    | (show subParts _ _ = true; rfl)
    | with_reducible apply Upd.ite
    | with_reducible apply Upd.comp (upd_modEpd _ _)
    | split)

theorem upd_execEpdPowerGood (s : State) : ∃ u, execEpdPowerGood s = .next u ∧ Upd [.epd] s u := by
  unfold execEpdPowerGood
  refine ⟨_, rfl, ?_⟩
  repeat' (first
    | with_reducible assumption
    | with_reducible exact Upd.refl _ _
    | (show subParts _ _ = true; rfl)
    | with_reducible apply Upd.ite
    | with_reducible apply Upd.comp (upd_modEpd _ _)
    | split)

theorem upd_execEpdPowerLost (s : State) : ∃ u, execEpdPowerLost s = .next u ∧ Upd [.epd, .ev, .sen] s u := by
  unfold execEpdPowerLost
  refine ⟨_, rfl, ?_⟩
  repeat' (first
    | with_reducible assumption
    | with_reducible exact Upd.refl _ _
    | (show subParts _ _ = true; rfl)
    | with_reducible apply Upd.ite
    | with_reducible apply Upd.comp (upd_modEpd _ _)
    | with_reducible apply Upd.comp (upd_epdFault _ _ _)
    | split)

theorem upd_execEpdPowerTimeout (s : State) : ∃ u, execEpdPowerTimeout s = .next u ∧ Upd [.epd, .ev, .sen] s u := by
  unfold execEpdPowerTimeout
  refine ⟨_, rfl, ?_⟩
  repeat' (first
    | with_reducible assumption
    | with_reducible exact Upd.refl _ _
    | (show subParts _ _ = true; rfl)
    | with_reducible apply Upd.ite
    | with_reducible apply Upd.comp (upd_epdFault _ _ _)
    | split)

theorem upd_thermTake (r : Nat) (s : State) : Upd [.epd, .ev, .sen] s (thermTake r s) := by
  unfold thermTake
  repeat' (first
    | with_reducible assumption
    | with_reducible exact Upd.refl _ _
    | (show subParts _ _ = true; rfl)
    | with_reducible apply Upd.ite
    | with_reducible apply Upd.comp (upd_modEpd _ _)
    | with_reducible apply Upd.comp (upd_raiseIf _ _ _ _ _ _)
    | split)

theorem upd_execFullRefresh (r : Nat) (late : Bool) (malformed : Bool) (s : State) : ∃ u, execFullRefresh r late malformed s = .next u ∧ Upd [.epd, .ev, .sen] s u := by
  unfold execFullRefresh
  refine ⟨_, rfl, ?_⟩
  repeat' (first
    | with_reducible assumption
    | with_reducible exact Upd.refl _ _
    | (show subParts _ _ = true; rfl)
    | with_reducible apply Upd.ite
    | with_reducible apply Upd.iteRRR
    | with_reducible apply Upd.comp (upd_modEpd _ _)
    | with_reducible apply Upd.comp (upd_thermTake _ _)
    | with_reducible apply Upd.comp (upd_waveTable _ _ _ _)
    | with_reducible apply Upd.comp (upd_commitRegion _ _ _)
    | (extract_lets +onlyGivenNames x; first
        | (refine Upd.cut (P := [.epd, .ev, .sen]) (s := s) (x := x) ?_ ?_; (revert x; change Upd _ _ _); rotate_left; intro hx; clear_value x)
        | (refine Upd.cutL (P := [.epd, .ev, .sen]) (s := s) (x := x) ?_ ?_; (revert x; change Upd _ _ _); rotate_left; intro hx; clear_value x)
        | (refine Upd.cutR (P := [.epd, .ev, .sen]) (s := s) (x := x) ?_ ?_; (revert x; change Upd _ _ _); rotate_left; intro hx; clear_value x)
        | (refine Upd.cutRRR (P := [.epd, .ev, .sen]) (s := s) (x := x) ?_ ?_; (revert x; change Upd _ _ _); rotate_left; intro hx; clear_value x)
        | clear_value x)
    | split)

theorem upd_execPanelFrame (s : State) : ∃ u, execPanelFrame s = .next u ∧ Upd [.epd, .ev, .sen] s u := by
  unfold execPanelFrame
  refine ⟨_, rfl, ?_⟩
  repeat' (first
    | with_reducible assumption
    | with_reducible exact Upd.refl _ _
    | (show subParts _ _ = true; rfl)
    | with_reducible apply Upd.ite
    | with_reducible apply Upd.comp (upd_modEpd _ _)
    | with_reducible apply Upd.comp (upd_epdAbandonLoss _)
    | split)

theorem upd_execThermistorResult (r : Nat) (s : State) : ∃ u, execThermistorResult r s = .next u ∧ Upd [.epd, .ev, .sen] s u := by
  unfold execThermistorResult
  refine ⟨_, rfl, ?_⟩
  repeat' (first
    | with_reducible assumption
    | with_reducible exact Upd.refl _ _
    | (show subParts _ _ = true; rfl)
    | with_reducible apply Upd.ite
    | with_reducible apply Upd.comp (upd_modEpd _ _)
    | with_reducible apply Upd.comp (upd_thermTake _ _)
    | with_reducible apply Upd.comp (upd_raise _ _ _ _ _)
    | split)

end Sys2Proof.Machine
end

