-- ==== Sys2Proof/Laws/UpdFabric.lean ====
section
/-! SUPPORT. What the operations of Machine/Fabric.lean change: one lemma for each, that its result differs from its state at most in the parts named,
and that what only grows has not gone back. -/

namespace Sys2Proof.Machine

theorem upd_putBlk (e : Blk) (s : State) : Upd [.fab] s (putBlk e s) := by
  unfold putBlk
  repeat' (first
    | with_reducible assumption
    | with_reducible exact Upd.refl _ _
    | (show subParts _ _ = true; rfl)
    | with_reducible apply Upd.ite
    | with_reducible apply Upd.comp (upd_modFab _ _)
    | split)

theorem upd_modSpare (k : Fin 64) (f : SpareBlk → SpareBlk) (s : State) : Upd [.fab] s (modSpare k f s) := by
  unfold modSpare
  repeat' (first
    | with_reducible assumption
    | with_reducible exact Upd.refl _ _
    | (show subParts _ _ = true; rfl)
    | with_reducible apply Upd.ite
    | with_reducible apply Upd.comp (upd_modFab _ _)
    | split)

theorem upd_evBoundary (s : State) : Upd [.ev] s (evBoundary s) := by
  unfold evBoundary
  dsimp only
  repeat' (first
    | with_reducible assumption
    | with_reducible exact Upd.refl _ _
    | (show subParts _ _ = true; rfl)
    | with_reducible apply Upd.ite
    | exact (fun _ => Nat.le_refl _)
    | with_reducible apply Upd.comp (upd_modEv _ _ ?_)
    | with_reducible apply Upd.comp (upd_evPut _ _)
    | split)

theorem upd_spareReport (s : State) : Upd [.fab, .ev, .sen] s (spareReport s) := by
  unfold spareReport
  repeat' (first
    | with_reducible assumption
    | with_reducible exact Upd.refl _ _
    | (show subParts _ _ = true; rfl)
    | with_reducible apply Upd.ite
    | with_reducible apply Upd.comp (upd_modFab _ _)
    | with_reducible apply Upd.comp (upd_raise _ _ _ _ _)
    | split)

theorem upd_modLane (l : Fin 18) (f : Lane → Lane) (s : State) : Upd [.fab] s (modLane l f s) := by
  unfold modLane
  repeat' (first
    | with_reducible assumption
    | with_reducible exact Upd.refl _ _
    | (show subParts _ _ = true; rfl)
    | with_reducible apply Upd.ite
    | with_reducible apply Upd.comp (upd_modFab _ _)
    | split)

theorem upd_laneReturn (s : State) : Upd [.fab, .ev, .sen] s (laneReturn s) := by
  unfold laneReturn
  repeat' (first
    | with_reducible assumption
    | with_reducible exact Upd.refl _ _
    | (show subParts _ _ = true; rfl)
    | with_reducible apply Upd.ite
    | with_reducible apply Upd.comp (upd_modFab _ _)
    | with_reducible apply Upd.comp (upd_raise _ _ _ _ _)
    | with_reducible apply Upd.comp (upd_modLane _ _ _)
    | split)

theorem upd_fabBoundary (s : State) : Upd [.fab, .ev, .sen] s (fabBoundary s) := by
  unfold fabBoundary
  repeat' (first
    | with_reducible assumption
    | with_reducible exact Upd.refl _ _
    | (show subParts _ _ = true; rfl)
    | with_reducible apply Upd.ite
    | with_reducible apply Upd.comp (upd_modFab _ _)
    | with_reducible apply Upd.comp (upd_spareReport _)
    | with_reducible apply Upd.comp (upd_laneReturn _)
    | split)

theorem upd_doLaneHandoff (l : Fin 18) (s : State) : Upd [.fab, .ev, .sen] s (doLaneHandoff l s) := by
  unfold doLaneHandoff
  repeat' (first
    | with_reducible assumption
    | with_reducible exact Upd.refl _ _
    | (show subParts _ _ = true; rfl)
    | with_reducible apply Upd.ite
    | with_reducible apply Upd.comp (upd_modFab _ _)
    | with_reducible apply Upd.comp (upd_modLane _ _ _)
    | with_reducible apply Upd.comp (upd_raiseIf _ _ _ _ _ _)
    | with_reducible apply Upd.comp (upd_raise _ _ _ _ _)
    | split)

theorem upd_doLaneStep (mismatch : Bool) (s : State) : Upd [.fab, .ev, .sen] s (doLaneStep mismatch s) := by
  unfold doLaneStep
  repeat' (first
    | with_reducible assumption
    | with_reducible exact Upd.refl _ _
    | (show subParts _ _ = true; rfl)
    | with_reducible apply Upd.ite
    | with_reducible apply Upd.comp (upd_modFab _ _)
    | with_reducible apply Upd.comp (upd_raise _ _ _ _ _)
    | with_reducible apply Upd.comp (upd_modLane _ _ _)
    | (extract_lets +onlyGivenNames x; first
        | (refine Upd.cut (P := [.fab, .ev, .sen]) (s := s) (x := x) ?_ ?_; (revert x; change Upd _ _ _); rotate_left; intro hx; clear_value x)
        | (refine Upd.cutL (P := [.fab, .ev, .sen]) (s := s) (x := x) ?_ ?_; (revert x; change Upd _ _ _); rotate_left; intro hx; clear_value x)
        | (refine Upd.cutR (P := [.fab, .ev, .sen]) (s := s) (x := x) ?_ ?_; (revert x; change Upd _ _ _); rotate_left; intro hx; clear_value x)
        | clear_value x)
    | split)

theorem upd_doMramBlockMove (blk : Nat) (s : State) : Upd [.fab, .ev, .sen] s (doMramBlockMove blk s) := by
  unfold doMramBlockMove
  repeat' (first
    | with_reducible assumption
    | with_reducible exact Upd.refl _ _
    | (show subParts _ _ = true; rfl)
    | with_reducible apply Upd.ite
    | with_reducible apply Upd.comp (upd_modFab _ _)
    | with_reducible apply Upd.comp (upd_raise _ _ _ _ _)
    | with_reducible apply Upd.comp (upd_putBlk _ _)
    | with_reducible apply Upd.comp (upd_modSpare _ _ _)
    | (extract_lets +onlyGivenNames x; first
        | (refine Upd.cut (P := [.fab, .ev, .sen]) (s := s) (x := x) ?_ ?_; (revert x; change Upd _ _ _); rotate_left; intro hx; clear_value x)
        | (refine Upd.cutL (P := [.fab, .ev, .sen]) (s := s) (x := x) ?_ ?_; (revert x; change Upd _ _ _); rotate_left; intro hx; clear_value x)
        | (refine Upd.cutR (P := [.fab, .ev, .sen]) (s := s) (x := x) ?_ ?_; (revert x; change Upd _ _ _); rotate_left; intro hx; clear_value x)
        | clear_value x)
    | split)

theorem upd_doMramBlockStep (fails : Bool) (s : State) : Upd [.fab, .ev, .sen] s (doMramBlockStep fails s) := by
  unfold doMramBlockStep
  repeat' (first
    | with_reducible assumption
    | with_reducible exact Upd.refl _ _
    | (show subParts _ _ = true; rfl)
    | with_reducible apply Upd.ite
    | with_reducible apply Upd.comp (upd_modFab _ _)
    | with_reducible apply Upd.comp (upd_raise _ _ _ _ _)
    | with_reducible apply Upd.comp (upd_putBlk _ _)
    | with_reducible apply Upd.comp (upd_modSpare _ _ _)
    | (extract_lets +onlyGivenNames x; first
        | (refine Upd.cut (P := [.fab, .ev, .sen]) (s := s) (x := x) ?_ ?_; (revert x; change Upd _ _ _); rotate_left; intro hx; clear_value x)
        | (refine Upd.cutL (P := [.fab, .ev, .sen]) (s := s) (x := x) ?_ ?_; (revert x; change Upd _ _ _); rotate_left; intro hx; clear_value x)
        | (refine Upd.cutR (P := [.fab, .ev, .sen]) (s := s) (x := x) ?_ ?_; (revert x; change Upd _ _ _); rotate_left; intro hx; clear_value x)
        | clear_value x)
    | split)

theorem upd_modBank (b : Fin 32) (f : BankH → BankH) (s : State) : Upd [.fab] s (modBank b f s) := by
  unfold modBank
  repeat' (first
    | with_reducible assumption
    | with_reducible exact Upd.refl _ _
    | (show subParts _ _ = true; rfl)
    | with_reducible apply Upd.ite
    | with_reducible apply Upd.comp (upd_modFab _ _)
    | split)

theorem upd_doSramRowMove (bank : Fin 32) (row : Nat) (s : State) : Upd [.fab, .ev, .sen] s (doSramRowMove bank row s) := by
  unfold doSramRowMove
  repeat' (first
    | with_reducible assumption
    | with_reducible exact Upd.refl _ _
    | (show subParts _ _ = true; rfl)
    | with_reducible apply Upd.ite
    | with_reducible apply Upd.comp (upd_modBank _ _ _)
    | with_reducible apply Upd.comp (upd_raise _ _ _ _ _)
    | split)

theorem upd_doSramRowStep (bank : Fin 32) (fails : Bool) (s : State) : Upd [.fab, .ev, .sen] s (doSramRowStep bank fails s) := by
  unfold doSramRowStep
  repeat' (first
    | with_reducible assumption
    | with_reducible exact Upd.refl _ _
    | (show subParts _ _ = true; rfl)
    | with_reducible apply Upd.ite
    | with_reducible apply Upd.comp (upd_modBank _ _ _)
    | with_reducible apply Upd.comp (upd_raise _ _ _ _ _)
    | split)

theorem upd_execEventRaised (code : Nat) (source : Nat) (point : Nat) (arg : Nat) (s : State) : ∃ u, execEventRaised code source point arg s = .next u ∧ Upd [.ev, .sen] s u := by
  unfold execEventRaised
  refine ⟨_, rfl, ?_⟩
  repeat' (first
    | with_reducible assumption
    | with_reducible exact Upd.refl _ _
    | (show subParts _ _ = true; rfl)
    | with_reducible apply Upd.ite
    | with_reducible apply Upd.comp (upd_raise _ _ _ _ _)
    | split)

theorem upd_laneFails (l : Fin 18) (carrier : Nat) (group : Nat) (s : State) : Upd [.fab, .ev, .sen] s (laneFails l carrier group s) := by
  unfold laneFails
  repeat' (first
    | with_reducible assumption
    | with_reducible exact Upd.refl _ _
    | (show subParts _ _ = true; rfl)
    | with_reducible apply Upd.ite
    | with_reducible apply Upd.comp (upd_modFab _ _)
    | with_reducible apply Upd.comp (upd_raise _ _ _ _ _)
    | with_reducible apply Upd.comp (upd_modLane _ _ _)
    | split)

theorem upd_execLaneJudge (l : Fin 18) (fails : Bool) (group : Nat) (retMismatch : Bool) (s : State) : ∃ u, execLaneJudge l fails group retMismatch s = .next u ∧ Upd [.fab, .ev, .sen] s u := by
  unfold execLaneJudge
  refine ⟨_, rfl, ?_⟩
  repeat' (first
    | with_reducible assumption
    | with_reducible exact Upd.refl _ _
    | (show subParts _ _ = true; rfl)
    | with_reducible apply Upd.ite
    | with_reducible apply Upd.comp (upd_modFab _ _)
    | with_reducible apply Upd.comp (upd_modLane _ _ _)
    | with_reducible apply Upd.comp (upd_laneFails _ _ _ _)
    | split)

theorem upd_execMramCorrectableError (blk : Nat) (s : State) : ∃ u, execMramCorrectableError blk s = .next u ∧ Upd [.fab] s u := by
  unfold execMramCorrectableError
  refine ⟨_, rfl, ?_⟩
  repeat' (first
    | with_reducible assumption
    | with_reducible exact Upd.refl _ _
    | (show subParts _ _ = true; rfl)
    | with_reducible apply Upd.ite
    | with_reducible apply Upd.comp (upd_modFab _ _)
    | with_reducible apply Upd.comp (upd_putBlk _ _)
    | split)

theorem upd_execSramCorrectableError (bank : Fin 32) (row : Nat) (s : State) : ∃ u, execSramCorrectableError bank row s = .next u ∧ Upd [.fab, .ev, .sen] s u := by
  unfold execSramCorrectableError
  refine ⟨_, rfl, ?_⟩
  repeat' (first
    | with_reducible assumption
    | with_reducible exact Upd.refl _ _
    | (show subParts _ _ = true; rfl)
    | with_reducible apply Upd.ite
    | with_reducible apply Upd.comp (upd_modBank _ _ _)
    | with_reducible apply Upd.comp (upd_raise _ _ _ _ _)
    | split)

end Sys2Proof.Machine
end

