-- ==== Sys2Proof/Laws/UpdJournal.lean ====
section
/-! SUPPORT. What the operations of Machine/Journal.lean change: one lemma for each, that its result differs from its state at most in the parts named,
and that what only grows has not gone back. -/

namespace Sys2Proof.Machine

theorem upd_modSec (i : Nat) (f : JSec → JSec) (s : State) : Upd [.jrn] s (modSec i f s) := by
  unfold modSec
  repeat' (first
    | with_reducible assumption
    | with_reducible exact Upd.refl _ _
    | (show subParts _ _ = true; rfl)
    | with_reducible apply Upd.ite
    | exact (fun _ => Nat.le_refl _)
    | with_reducible apply Upd.comp (upd_modJrn _ _ ?_)
    | split)

theorem upd_jrnUpkeep (s : State) : Upd [.jrn] s (jrnUpkeep s) := by
  unfold jrnUpkeep
  dsimp only
  repeat' (first
    | with_reducible assumption
    | with_reducible exact Upd.refl _ _
    | (show subParts _ _ = true; rfl)
    | with_reducible apply Upd.ite
    | exact (fun _ => Nat.le_refl _)
    | with_reducible apply Upd.comp (upd_modJrn _ _ ?_)
    | with_reducible apply Upd.comp (upd_modSec _ _ _)
    | split)

theorem upd_jrnPut (r : JRec) (sealNo : Option Nat) (s : State) : Upd [.jrn] s (jrnPut r sealNo s) := by
  unfold jrnPut
  repeat' (first
    | (intro x; exact Nat.le_succ _)
    | with_reducible assumption
    | with_reducible exact Upd.refl _ _
    | (show subParts _ _ = true; rfl)
    | with_reducible apply Upd.ite
    | exact (fun _ => Nat.le_refl _)
    | with_reducible apply Upd.comp (upd_modJrn _ _ ?_)
    | with_reducible apply Upd.comp (upd_modSec _ _ _)
    | split)

theorem upd_jrnOpen (s : State) : Upd [.jrn] s (jrnOpen s).1 := by
  unfold jrnOpen
  repeat' (first
    | with_reducible assumption
    | with_reducible exact Upd.refl _ _
    | (show subParts _ _ = true; rfl)
    | with_reducible apply Upd.ite
    | with_reducible apply Upd.iteL
    | exact (fun _ => Nat.le_refl _)
    | with_reducible apply Upd.comp (upd_modJrn _ _ ?_)
    | with_reducible apply Upd.comp (upd_modSec _ _ _)
    | split)

theorem upd_jrnRoom (n : Nat) (outage : Bool) (s : State) : Upd [.jrn] s (jrnRoom n outage s).1 := by
  unfold jrnRoom
  repeat' (first
    | with_reducible assumption
    | with_reducible exact Upd.refl _ _
    | (show subParts _ _ = true; rfl)
    | with_reducible apply Upd.ite
    | with_reducible apply Upd.comp (upd_jrnOpen _)
    | split)

theorem upd_jrnWrite (typ : Nat) (body : List W128) (sealNo : Option Nat) (eseqs : List Nat) (fails : Nat) (s : State) : Upd [.ev, .sen, .jrn] s (jrnWrite typ body sealNo eseqs fails s).1 := by
  induction fails generalizing s
  case' zero => simp only [jrnWrite]
  case' succ m ih => simp only [jrnWrite]
  repeat' (first
    | with_reducible exact Upd.refl _ _
    | with_reducible apply Upd.comp (ih _)
    | with_reducible assumption
    | with_reducible exact Upd.refl _ _
    | (show subParts _ _ = true; rfl)
    | with_reducible apply Upd.ite
    | exact (fun _ => Nat.le_refl _)
    | with_reducible apply Upd.comp (upd_modJrn _ _ ?_)
    | with_reducible apply Upd.comp (upd_jrnPut _ _ _)
    | with_reducible apply Upd.comp (upd_jrnRoom _ _ _)
    | with_reducible apply Upd.comp (upd_raise _ _ _ _ _)
    | with_reducible apply Upd.comp (upd_modSec _ _ _)
    | split)

theorem upd_jrnEvents (es : List (Nat × Nat × EventRec)) (fails : Nat) (s : State) : Upd [.ev, .sen, .jrn] s (jrnEvents es fails s) := by
  unfold jrnEvents
  repeat' (first
    | with_reducible assumption
    | with_reducible exact Upd.refl _ _
    | (show subParts _ _ = true; rfl)
    | with_reducible apply Upd.ite
    | exact (fun _ => Nat.le_refl _)
    | with_reducible apply Upd.comp (upd_modEv _ _ ?_)
    | with_reducible apply Upd.comp (upd_jrnWrite _ _ _ _ _ _)
    | split)

theorem upd_eventsJournal (k : Nat) (fails : Nat) (s : State) : Upd [.ev, .sen, .jrn] s (eventsJournal k fails s) := by
  induction k generalizing fails s
  case' zero => simp only [eventsJournal]
  case' succ m ih => simp only [eventsJournal]
  repeat' (first
    | with_reducible exact Upd.refl _ _
    | with_reducible apply Upd.comp (ih _ _)
    | with_reducible assumption
    | with_reducible exact Upd.refl _ _
    | (show subParts _ _ = true; rfl)
    | with_reducible apply Upd.ite
    | with_reducible apply Upd.comp (upd_jrnEvents _ _ _)
    | split)

theorem upd_execJournalEraseDone (s : State) : ∃ u, execJournalEraseDone s = .next u ∧ Upd [.ev, .sen, .jrn] s u := by
  unfold execJournalEraseDone
  refine ⟨_, rfl, ?_⟩
  repeat' (first
    | with_reducible assumption
    | with_reducible exact Upd.refl _ _
    | (show subParts _ _ = true; rfl)
    | with_reducible apply Upd.ite
    | exact (fun _ => Nat.le_refl _)
    | with_reducible apply Upd.comp (upd_modJrn _ _ ?_)
    | with_reducible apply Upd.comp (upd_modSec _ _ _)
    | with_reducible apply Upd.comp (upd_raiseIf _ _ _ _ _ _)
    | split)

theorem upd_jrnRecover (torn : Bool) (s : State) : Upd [.ev, .sen, .jrn] s (jrnRecover torn s) := by
  unfold jrnRecover
  repeat' (first
    | with_reducible assumption
    | with_reducible exact Upd.refl _ _
    | (show subParts _ _ = true; rfl)
    | with_reducible apply Upd.ite
    | exact (fun _ => Nat.le_refl _)
    | with_reducible apply Upd.comp (upd_modJrn _ _ ?_)
    | with_reducible apply Upd.comp (upd_raise _ _ _ _ _)
    | with_reducible apply Upd.comp (upd_modSec _ _ _)
    | (extract_lets +onlyGivenNames x; first
        | (refine Upd.cut (P := [.ev, .sen, .jrn]) (s := s) (x := x) ?_ ?_; (revert x; change Upd _ _ _); rotate_left; intro hx; clear_value x)
        | (refine Upd.cutL (P := [.ev, .sen, .jrn]) (s := s) (x := x) ?_ ?_; (revert x; change Upd _ _ _); rotate_left; intro hx; clear_value x)
        | (refine Upd.cutR (P := [.ev, .sen, .jrn]) (s := s) (x := x) ?_ ?_; (revert x; change Upd _ _ _); rotate_left; intro hx; clear_value x)
        | clear_value x)
    | split)

end Sys2Proof.Machine
end

