-- ==== Sys2Proof/Laws/UpdPhy.lean ====
section
/-! SUPPORT. What the operations of Machine/Phy.lean change: one lemma for each, that its result differs from its state at most in the parts named,
and that what only grows has not gone back. -/

namespace Sys2Proof.Machine

theorem upd_phyReq (r : TxReq) (s : State) : Upd [.phy] s (phyReq r s) := by
  unfold phyReq
  repeat' (first
    | with_reducible assumption
    | with_reducible exact Upd.refl _ _
    | (show subParts _ _ = true; rfl)
    | with_reducible apply Upd.ite
    | with_reducible apply Upd.comp (upd_modPhy _ _)
    | split)

theorem upd_mapsBoundary (s : State) : Upd [.phy] s (mapsBoundary s) := by
  unfold mapsBoundary
  repeat' (first
    | with_reducible assumption
    | with_reducible exact Upd.refl _ _
    | (show subParts _ _ = true; rfl)
    | with_reducible apply Upd.ite
    | with_reducible apply Upd.comp (upd_modPhy _ _)
    | split)

theorem upd_phyBoundary (s : State) : Upd [.phy] s (phyBoundary s) := by
  unfold phyBoundary
  repeat' (first
    | with_reducible assumption
    | with_reducible exact Upd.refl _ _
    | (show subParts _ _ = true; rfl)
    | with_reducible apply Upd.ite
    | with_reducible apply Upd.comp (upd_modPhy _ _)
    | split)

theorem upd_phyReset (s : State) : Upd [.phy] s (phyReset s) := by
  unfold phyReset
  repeat' (first
    | with_reducible assumption
    | with_reducible exact Upd.refl _ _
    | (show subParts _ _ = true; rfl)
    | with_reducible apply Upd.ite
    | with_reducible apply Upd.comp (upd_modPhy _ _)
    | split)

theorem upd_commitMaps (peer : Nat) (at_ : Nat) (sending : Bool) (gens : List Nat) (s : State) : Upd [.phy] s (commitMaps peer at_ sending gens s) := by
  unfold commitMaps
  repeat' (first
    | with_reducible assumption
    | with_reducible exact Upd.refl _ _
    | (show subParts _ _ = true; rfl)
    | with_reducible apply Upd.ite
    | with_reducible apply Upd.comp (upd_modPhy _ _)
    | split)

theorem upd_mapArrived (peer : Nat) (tmi : Nat) (s : State) : Upd [.phy] s (mapArrived peer tmi s) := by
  unfold mapArrived
  repeat' (first
    | with_reducible assumption
    | with_reducible exact Upd.refl _ _
    | (show subParts _ _ = true; rfl)
    | with_reducible apply Upd.ite
    | with_reducible apply Upd.comp (upd_modPhy _ _)
    | split)

theorem upd_phyEpoch (s : State) : Upd [.phy, .ev, .sen] s (phyEpoch s) := by
  unfold phyEpoch
  repeat' (first
    | with_reducible assumption
    | with_reducible exact Upd.refl _ _
    | (show subParts _ _ = true; rfl)
    | with_reducible apply Upd.ite
    | with_reducible apply Upd.comp (upd_modPhy _ _)
    | with_reducible apply Upd.comp (upd_raise _ _ _ _ _)
    | split)

theorem upd_execCouplerFault (c : Fin 3) (driven : Bool) (level : Bool) (s : State) : ∃ u, execCouplerFault c driven level s = .next u ∧ Upd [.phy, .ev, .sen] s u := by
  unfold execCouplerFault
  refine ⟨_, rfl, ?_⟩
  repeat' (first
    | with_reducible assumption
    | with_reducible exact Upd.refl _ _
    | (show subParts _ _ = true; rfl)
    | with_reducible apply Upd.ite
    | with_reducible apply Upd.comp (upd_modPhy _ _)
    | with_reducible apply Upd.comp (upd_raise _ _ _ _ _)
    | split)

theorem upd_execDriverThermalRestart (s : State) : ∃ u, execDriverThermalRestart s = .next u ∧ Upd [.phy] s u := by
  unfold execDriverThermalRestart
  refine ⟨_, rfl, ?_⟩
  repeat' (first
    | with_reducible assumption
    | with_reducible exact Upd.refl _ _
    | (show subParts _ _ = true; rfl)
    | with_reducible apply Upd.ite
    | with_reducible apply Upd.comp (upd_modPhy _ _)
    | split)

theorem upd_phyAbandon (cause : Nat) (s : State) : Upd [.phy, .ev, .sen] s (phyAbandon cause s) := by
  unfold phyAbandon
  repeat' (first
    | with_reducible assumption
    | with_reducible exact Upd.refl _ _
    | (show subParts _ _ = true; rfl)
    | with_reducible apply Upd.ite
    | with_reducible apply Upd.comp (upd_modPhy _ _)
    | with_reducible apply Upd.comp (upd_raiseIf _ _ _ _ _ _)
    | split)

theorem upd_execDriverThermalShutdown (s : State) : ∃ u, execDriverThermalShutdown s = .next u ∧ Upd [.phy, .ev, .sen] s u := by
  unfold execDriverThermalShutdown
  refine ⟨_, rfl, ?_⟩
  repeat' (first
    | with_reducible assumption
    | with_reducible exact Upd.refl _ _
    | (show subParts _ _ = true; rfl)
    | with_reducible apply Upd.ite
    | with_reducible apply Upd.comp (upd_modPhy _ _)
    | with_reducible apply Upd.comp (upd_phyAbandon _ _)
    | with_reducible apply Upd.comp (upd_raise _ _ _ _ _)
    | split)

theorem upd_execNoiseSlot (σ : Fin 6) (mean : List Int) (s : State) : ∃ u, execNoiseSlot σ mean s = .next u ∧ Upd [.phy] s u := by
  unfold execNoiseSlot
  refine ⟨_, rfl, ?_⟩
  repeat' (first
    | with_reducible assumption
    | with_reducible exact Upd.refl _ _
    | (show subParts _ _ = true; rfl)
    | with_reducible apply Upd.ite
    | with_reducible apply Upd.comp (upd_modPhy _ _)
    | split)

theorem upd_useCoupler (c : Nat) (s : State) : Upd [.lnk, .ev, .sen] s (useCoupler c s).2 := by
  unfold useCoupler
  repeat' (first
    | with_reducible assumption
    | with_reducible exact Upd.refl _ _
    | (show subParts _ _ = true; rfl)
    | with_reducible apply Upd.ite
    | with_reducible apply Upd.comp (upd_modLnk _ _)
    | with_reducible apply Upd.comp (upd_raiseIf _ _ _ _ _ _)
    | split)

theorem upd_execPhyTransmit (limited : Nat) (s : State) : ∃ u, execPhyTransmit limited s = .next u ∧ Upd [.phy, .lnk, .ev, .sen] s u := by
  unfold execPhyTransmit
  refine ⟨_, rfl, ?_⟩
  repeat' (first
    | with_reducible assumption
    | with_reducible exact Upd.refl _ _
    | (show subParts _ _ = true; rfl)
    | with_reducible apply Upd.ite
    | with_reducible apply Upd.comp (upd_modPhy _ _)
    | with_reducible apply Upd.comp (upd_useCoupler _ _)
    | with_reducible apply Upd.comp (upd_raiseIf _ _ _ _ _ _)
    | with_reducible apply Upd.comp (Upd.eqR (upd_useCoupler _ _ ) (by with_reducible assumption))
    | split)

theorem upd_loadMap (m : List W128) (sending : Bool) (s : State) : Upd [.phy, .ev, .sen] s (loadMap m sending s).2 := by
  unfold loadMap
  repeat' (first
    | with_reducible assumption
    | with_reducible exact Upd.refl _ _
    | (show subParts _ _ = true; rfl)
    | with_reducible apply Upd.ite
    | with_reducible apply Upd.iteR
    | with_reducible apply Upd.comp (upd_modPhy _ _)
    | with_reducible apply Upd.comp (upd_raise _ _ _ _ _)
    | split)

theorem upd_execToneMapLoad (words : List W128) (sending : Bool) (s : State) : ∃ u, execToneMapLoad words sending s = .next u ∧ Upd [.phy, .ev, .sen] s u := by
  unfold execToneMapLoad
  refine ⟨_, rfl, ?_⟩
  repeat' (first
    | with_reducible assumption
    | with_reducible exact Upd.refl _ _
    | (show subParts _ _ = true; rfl)
    | with_reducible apply Upd.ite
    | with_reducible apply Upd.comp (upd_loadMap _ _ _)
    | split)

theorem upd_execVldOutOfRange (mv : Nat) (s : State) : ∃ u, execVldOutOfRange mv s = .next u ∧ Upd [.phy, .ev, .sen] s u := by
  unfold execVldOutOfRange
  refine ⟨_, rfl, ?_⟩
  repeat' (first
    | with_reducible assumption
    | with_reducible exact Upd.refl _ _
    | (show subParts _ _ = true; rfl)
    | with_reducible apply Upd.ite
    | with_reducible apply Upd.comp (upd_modPhy _ _)
    | with_reducible apply Upd.comp (upd_phyAbandon _ _)
    | with_reducible apply Upd.comp (upd_raise _ _ _ _ _)
    | split)

theorem upd_execVldRecovery (s : State) : ∃ u, execVldRecovery s = .next u ∧ Upd [.phy] s u := by
  unfold execVldRecovery
  refine ⟨_, rfl, ?_⟩
  repeat' (first
    | with_reducible assumption
    | with_reducible exact Upd.refl _ _
    | (show subParts _ _ = true; rfl)
    | with_reducible apply Upd.ite
    | with_reducible apply Upd.comp (upd_modPhy _ _)
    | split)

end Sys2Proof.Machine
end

