-- ==== Sys2Proof/Laws/UpdLinkFrames.lean ====
section
/-! SUPPORT. What the operations of Machine/LinkFrames.lean change: one lemma for each, that its result differs from its state at most in the parts named,
and that what only grows has not gone back. -/

namespace Sys2Proof.Machine

theorem upd_sendAck (f : AcFrame) (status : Nat) (s : State) : Upd [.phy, .lnk] s (sendAck f status s) := by
  unfold sendAck
  repeat' (first
    | with_reducible assumption
    | with_reducible exact Upd.refl _ _
    | (show subParts _ _ = true; rfl)
    | with_reducible apply Upd.ite
    | with_reducible apply Upd.comp (upd_modLnk _ _)
    | with_reducible apply Upd.comp (upd_phyReq _ _)
    | split)

theorem upd_authFailed (f : AcFrame) (s : State) : Upd [.phy, .lnk, .ev, .sen] s (authFailed f s) := by
  unfold authFailed
  repeat' (first
    | with_reducible assumption
    | with_reducible exact Upd.refl _ _
    | (show subParts _ _ = true; rfl)
    | with_reducible apply Upd.ite
    | with_reducible apply Upd.comp (upd_modLnk _ _)
    | with_reducible apply Upd.comp (upd_raiseIf _ _ _ _ _ _)
    | with_reducible apply Upd.comp (upd_sendAck _ _ _)
    | split)

theorem upd_blockResults (m : TxMsg) (failed : Bool) (s : State) : Upd [.phy] s (blockResults m failed s) := by
  unfold blockResults
  repeat' (first
    | with_reducible assumption
    | with_reducible exact Upd.refl _ _
    | (show subParts _ _ = true; rfl)
    | with_reducible apply Upd.ite
    | with_reducible apply Upd.comp (upd_modPhy _ _)
    | split)

theorem upd_fctrAtRun (s : State) : Upd [.lnk] s (fctrAtRun s) := by
  unfold fctrAtRun
  repeat' (first
    | with_reducible assumption
    | with_reducible exact Upd.refl _ _
    | (show subParts _ _ = true; rfl)
    | with_reducible apply Upd.ite
    | with_reducible apply Upd.comp (upd_modLnk _ _)
    | split)

theorem upd_modNeigh (node : Nat) (f : Neigh → Neigh) (s : State) : Upd [.lnk] s (modNeigh node f s) := by
  unfold modNeigh
  repeat' (first
    | with_reducible assumption
    | with_reducible exact Upd.refl _ _
    | (show subParts _ _ = true; rfl)
    | with_reducible apply Upd.ite
    | with_reducible apply Upd.comp (upd_modLnk _ _)
    | split)

theorem upd_fctrExhausted (s : State) : Upd [.lnk, .ev, .sen] s (fctrExhausted s) := by
  unfold fctrExhausted
  repeat' (first
    | with_reducible assumption
    | with_reducible exact Upd.refl _ _
    | (show subParts _ _ = true; rfl)
    | with_reducible apply Upd.ite
    | with_reducible apply Upd.comp (upd_modLnk _ _)
    | with_reducible apply Upd.comp (upd_raise _ _ _ _ _)
    | split)

theorem upd_drawFctr (s : State) : Upd [.lnk, .ev, .sen] s (drawFctr s).2 := by
  unfold drawFctr
  repeat' (first
    | with_reducible assumption
    | with_reducible exact Upd.refl _ _
    | (show subParts _ _ = true; rfl)
    | with_reducible apply Upd.ite
    | with_reducible apply Upd.comp (upd_modLnk _ _)
    | with_reducible apply Upd.comp (upd_fctrExhausted _)
    | (extract_lets +onlyGivenNames x; first
        | (refine Upd.cut (P := [.lnk, .ev, .sen]) (s := s) (x := x) ?_ ?_; (revert x; change Upd _ _ _); rotate_left; intro hx; clear_value x)
        | (refine Upd.cutL (P := [.lnk, .ev, .sen]) (s := s) (x := x) ?_ ?_; (revert x; change Upd _ _ _); rotate_left; intro hx; clear_value x)
        | (refine Upd.cutR (P := [.lnk, .ev, .sen]) (s := s) (x := x) ?_ ?_; (revert x; change Upd _ _ _); rotate_left; intro hx; clear_value x)
        | clear_value x)
    | split)

theorem upd_drawFseq (node : Nat) (s : State) : Upd [.lnk] s (drawFseq node s).2 := by
  unfold drawFseq
  repeat' (first
    | with_reducible assumption
    | with_reducible exact Upd.refl _ _
    | (show subParts _ _ = true; rfl)
    | with_reducible apply Upd.ite
    | with_reducible apply Upd.comp (upd_modLnk _ _)
    | split)

theorem upd_txFailed (m : TxMsg) (s : State) : Upd [.phy, .lnk, .ev, .sen] s (txFailed m s) := by
  unfold txFailed
  repeat' (first
    | with_reducible assumption
    | with_reducible exact Upd.refl _ _
    | (show subParts _ _ = true; rfl)
    | with_reducible apply Upd.ite
    | with_reducible apply Upd.comp (upd_modLnk _ _)
    | with_reducible apply Upd.comp (upd_modPhy _ _)
    | with_reducible apply Upd.comp (upd_modNeigh _ _ _)
    | with_reducible apply Upd.comp (upd_lnkDrop _ _ _)
    | (extract_lets +onlyGivenNames x; first
        | (refine Upd.cut (P := [.phy, .lnk, .ev, .sen]) (s := s) (x := x) ?_ ?_; (revert x; change Upd _ _ _); rotate_left; intro hx; clear_value x)
        | (refine Upd.cutL (P := [.phy, .lnk, .ev, .sen]) (s := s) (x := x) ?_ ?_; (revert x; change Upd _ _ _); rotate_left; intro hx; clear_value x)
        | (refine Upd.cutR (P := [.phy, .lnk, .ev, .sen]) (s := s) (x := x) ?_ ?_; (revert x; change Upd _ _ _); rotate_left; intro hx; clear_value x)
        | clear_value x)
    | split)

theorem upd_execAcradAckTimeout (node : Nat) (fseq : Nat) (s : State) : ∃ u, execAcradAckTimeout node fseq s = .next u ∧ Upd [.phy, .lnk, .ev, .sen] s u := by
  unfold execAcradAckTimeout
  refine ⟨_, rfl, ?_⟩
  repeat' (first
    | with_reducible assumption
    | with_reducible exact Upd.refl _ _
    | (show subParts _ _ = true; rfl)
    | with_reducible apply Upd.ite
    | with_reducible apply Upd.comp (upd_txFailed _ _)
    | split)

theorem upd_relayFrame (typ : Nat) (super : Nat) (kind : Nat) (flood : Bool) (f : AcFrame) (s : State) : Upd [.phy] s (relayFrame typ super kind flood f s) := by
  unfold relayFrame
  repeat' (first
    | with_reducible assumption
    | with_reducible exact Upd.refl _ _
    | (show subParts _ _ = true; rfl)
    | with_reducible apply Upd.ite
    | with_reducible apply Upd.comp (upd_phyReq _ _)
    | split)

theorem upd_lnkAccept (f : AcFrame) (s : State) : Upd [.phy, .lnk, .ev, .sen] s (lnkAccept f s).2 := by
  unfold lnkAccept
  repeat' (first
    | with_reducible assumption
    | with_reducible exact Upd.refl _ _
    | (show subParts _ _ = true; rfl)
    | with_reducible apply Upd.ite
    | with_reducible apply Upd.iteR
    | with_reducible apply Upd.comp (upd_modLnk _ _)
    | with_reducible apply Upd.comp (upd_authFailed _ _)
    | with_reducible apply Upd.comp (upd_sendAck _ _ _)
    | with_reducible apply Upd.comp (upd_mapArrived _ _ _)
    | split)

theorem upd_sendBroadcast (typ : Nat) (super : Nat) (m : TxMsg) (s : State) : Upd [.phy, .lnk, .ev, .sen] s (sendBroadcast typ super m s) := by
  unfold sendBroadcast
  repeat' (first
    | with_reducible assumption
    | with_reducible exact Upd.refl _ _
    | (show subParts _ _ = true; rfl)
    | with_reducible apply Upd.ite
    | with_reducible apply Upd.comp (upd_drawFctr _)
    | with_reducible apply Upd.comp (upd_phyReq _ _)
    | with_reducible apply Upd.comp (Upd.eqR (upd_drawFctr _ ) (by with_reducible assumption))
    | split)

theorem upd_reassemble (f : AcFrame) (s : State) : Upd [.lnk] s (reassemble f s).2 := by
  unfold reassemble
  repeat' (first
    | with_reducible assumption
    | with_reducible exact Upd.refl _ _
    | (show subParts _ _ = true; rfl)
    | with_reducible apply Upd.ite
    | with_reducible apply Upd.comp (upd_modLnk _ _)
    | (extract_lets +onlyGivenNames x; first
        | (refine Upd.cut (P := [.lnk]) (s := s) (x := x) ?_ ?_; (revert x; change Upd _ _ _); rotate_left; intro hx; clear_value x)
        | (refine Upd.cutL (P := [.lnk]) (s := s) (x := x) ?_ ?_; (revert x; change Upd _ _ _); rotate_left; intro hx; clear_value x)
        | (refine Upd.cutR (P := [.lnk]) (s := s) (x := x) ?_ ?_; (revert x; change Upd _ _ _); rotate_left; intro hx; clear_value x)
        | clear_value x)
    | split)

theorem upd_sendFrame (m : TxMsg) (j : Nat) (s : State) : Upd [.phy, .lnk, .ev, .sen] s (sendFrame m j s) := by
  unfold sendFrame
  dsimp only
  repeat' (first
    | with_reducible assumption
    | with_reducible exact Upd.refl _ _
    | (show subParts _ _ = true; rfl)
    | with_reducible apply Upd.ite
    | with_reducible apply Upd.comp (upd_modLnk _ _)
    | with_reducible apply Upd.comp (upd_phyReq _ _)
    | with_reducible apply Upd.comp (upd_drawFctr _)
    | with_reducible apply Upd.comp (upd_drawFseq _ _)
    | with_reducible apply Upd.comp (Upd.eqR (upd_drawFctr _ ) (by with_reducible assumption))
    | with_reducible apply Upd.comp (Upd.eqR (upd_drawFseq _ _ ) (by with_reducible assumption))
    | split)

theorem upd_execContentionAccess (j : Fin 12) (units : Nat) (s : State) : ∃ u, execContentionAccess j units s = .next u ∧ Upd [.phy, .lnk, .ev, .sen, .freeCtr] s u := by
  unfold execContentionAccess
  refine ⟨_, rfl, ?_⟩
  repeat' (first
    | with_reducible assumption
    | with_reducible exact Upd.refl _ _
    | (show subParts _ _ = true; rfl)
    | with_reducible apply Upd.ite
    | with_reducible apply Upd.comp (upd_modLnk _ _)
    | with_reducible apply Upd.comp (upd_drbgDraw _ _)
    | with_reducible apply Upd.comp (upd_sendFrame _ _ _)
    | split)

theorem upd_execPhyFrameReceived (fc : Nat) (crcOk : Bool) (whole : Bool) (blocks : List Bool) (level : List Int) (s : State) : ∃ u, execPhyFrameReceived fc crcOk whole blocks level s = .next u ∧ Upd [.phy, .lnk] s u := by
  unfold execPhyFrameReceived
  refine ⟨_, rfl, ?_⟩
  repeat' (first
    | with_reducible assumption
    | with_reducible exact Upd.refl _ _
    | (show subParts _ _ = true; rfl)
    | with_reducible apply Upd.ite
    | with_reducible apply Upd.comp (upd_modPhy _ _)
    | with_reducible apply Upd.comp (upd_modNeigh _ _ _)
    | with_reducible apply Upd.comp (upd_sendAck _ _ _)
    | split)

theorem upd_execReassemblyTimeout (orig : Nat) (msgId : Nat) (s : State) : ∃ u, execReassemblyTimeout orig msgId s = .next u ∧ Upd [.lnk, .ev, .sen] s u := by
  unfold execReassemblyTimeout
  refine ⟨_, rfl, ?_⟩
  repeat' (first
    | with_reducible assumption
    | with_reducible exact Upd.refl _ _
    | (show subParts _ _ = true; rfl)
    | with_reducible apply Upd.ite
    | with_reducible apply Upd.comp (upd_modLnk _ _)
    | with_reducible apply Upd.comp (upd_lnkDrop _ _ _)
    | split)

end Sys2Proof.Machine
end

