-- ==== Sys2Proof/Laws/UpdReadout.lean ====
section
/-! SUPPORT. What the operations of Machine/Readout.lean change: one lemma for each, that its result differs from its state at most in the parts named,
and that what only grows has not gone back. -/

namespace Sys2Proof.Machine

theorem upd_sealsJournal (s : State) : Upd [.recs, .ev, .sen, .jrn] s (sealsJournal s) := by
  unfold sealsJournal
  repeat' (first
    | with_reducible assumption
    | with_reducible exact Upd.refl _ _
    | (show subParts _ _ = true; rfl)
    | with_reducible apply Upd.ite
    | (with_reducible apply Upd.foldl; intro u a hu)
    | exact (fun _ => Nat.le_refl _)
    | with_reducible apply Upd.comp (upd_modRecs _ _ ?_)
    | with_reducible apply Upd.comp (upd_jrnWrite _ _ _ _ _ _)
    | split)

theorem upd_resignRecords (s : State) : Upd [.recs, .ev, .sen] s (resignRecords s) := by
  unfold resignRecords
  repeat' (first
    | with_reducible assumption
    | with_reducible exact Upd.refl _ _
    | (show subParts _ _ = true; rfl)
    | with_reducible apply Upd.ite
    | exact (fun _ => Nat.le_refl _)
    | with_reducible apply Upd.comp (upd_modRecs _ _ ?_)
    | with_reducible apply Upd.comp (upd_raiseIf _ _ _ _ _ _)
    | split)

theorem upd_cursorOpen (g : Nat) (w0 : W128) (s : State) : Upd [.ev] s (cursorOpen g w0 s) := by
  unfold cursorOpen
  repeat' (first
    | with_reducible assumption
    | with_reducible exact Upd.refl _ _
    | (show subParts _ _ = true; rfl)
    | with_reducible apply Upd.ite
    | exact (fun _ => Nat.le_refl _)
    | with_reducible apply Upd.comp (upd_modEv _ _ ?_)
    | split)

theorem upd_doGrantExpiry (s : State) : Upd [.recs] s (doGrantExpiry s) := by
  unfold doGrantExpiry
  repeat' (first
    | with_reducible assumption
    | with_reducible exact Upd.refl _ _
    | (show subParts _ _ = true; rfl)
    | with_reducible apply Upd.ite
    | exact (fun _ => Nat.le_refl _)
    | with_reducible apply Upd.comp (upd_modRecs _ _ ?_)
    | split)

theorem upd_doGrantOpen (s : State) : Upd [.recs, .ev, .sen] s (doGrantOpen s) := by
  unfold doGrantOpen
  repeat' (first
    | with_reducible assumption
    | with_reducible exact Upd.refl _ _
    | (show subParts _ _ = true; rfl)
    | with_reducible apply Upd.ite
    | exact (fun _ => Nat.le_refl _)
    | with_reducible apply Upd.comp (upd_modRecs _ _ ?_)
    | with_reducible apply Upd.comp (upd_raise _ _ _ _ _)
    | with_reducible apply Upd.comp (upd_cursorOpen _ _ _)
    | split)

theorem upd_doRegisterReadingCompose (s : State) : Upd [.recs, .ev, .sen] s (doRegisterReadingCompose s) := by
  unfold doRegisterReadingCompose
  repeat' (first
    | with_reducible assumption
    | with_reducible exact Upd.refl _ _
    | (show subParts _ _ = true; rfl)
    | with_reducible apply Upd.ite
    | exact (fun _ => Nat.le_refl _)
    | with_reducible apply Upd.comp (upd_modRecs _ _ ?_)
    | with_reducible apply Upd.comp (upd_drawRecNo _)
    | with_reducible apply Upd.comp (upd_raise _ _ _ _ _)
    | split)

theorem upd_eventWindow (g : Nat) (s : State) : Upd [.ev, .freeCtr] s (eventWindow g s).2 := by
  unfold eventWindow
  repeat' (first
    | with_reducible assumption
    | with_reducible exact Upd.refl _ _
    | (show subParts _ _ = true; rfl)
    | with_reducible apply Upd.ite
    | exact (fun _ => Nat.le_refl _)
    | with_reducible apply Upd.comp (upd_modEv _ _ ?_)
    | with_reducible apply Upd.comp (upd_draw _)
    | split)

theorem upd_rqAct (p : List W128) (s : State) : Upd [.recs, .ev, .sen] s (rqAct p s).2 := by
  unfold rqAct
  repeat' (first
    | with_reducible assumption
    | with_reducible exact Upd.refl _ _
    | (show subParts _ _ = true; rfl)
    | with_reducible apply Upd.ite
    | exact (fun _ => Nat.le_refl _)
    | with_reducible apply Upd.comp (upd_modRecs _ _ ?_)
    | with_reducible apply Upd.comp (upd_raise _ _ _ _ _)
    | split)

theorem upd_rqOrder (kinds : Nat → Bool) (o : OrderRec) (s : State) : Upd [.gates, .keys, .recs, .mbus, .lnk, .ev, .sen] s (rqOrder kinds o s) := by
  unfold rqOrder
  repeat' (first
    | with_reducible assumption
    | with_reducible exact Upd.refl _ _
    | (show subParts _ _ = true; rfl)
    | with_reducible apply Upd.ite
    | with_reducible apply upd_ordered
    | with_reducible apply Upd.comp (upd_rqAct _ _)
    | split
    | intro _ _)

theorem upd_execOrderReadoutPages (o : OrderRec) (s : State) : ∃ u, execOrderReadoutPages o s = .next u ∧ Upd [.gates, .keys, .recs, .mbus, .lnk, .ev, .sen] s u := by
  unfold execOrderReadoutPages
  refine ⟨_, rfl, ?_⟩
  repeat' (first
    | with_reducible assumption
    | with_reducible exact Upd.refl _ _
    | (show subParts _ _ = true; rfl)
    | with_reducible apply Upd.ite
    | with_reducible apply Upd.comp (upd_rqOrder _ _ _)
    | split)

theorem upd_execOrderReadoutRecords (o : OrderRec) (s : State) : ∃ u, execOrderReadoutRecords o s = .next u ∧ Upd [.gates, .keys, .recs, .mbus, .lnk, .ev, .sen] s u := by
  unfold execOrderReadoutRecords
  refine ⟨_, rfl, ?_⟩
  repeat' (first
    | with_reducible assumption
    | with_reducible exact Upd.refl _ _
    | (show subParts _ _ = true; rfl)
    | with_reducible apply Upd.ite
    | with_reducible apply Upd.comp (upd_rqOrder _ _ _)
    | split)

theorem upd_execOrderReadoutRegister (o : OrderRec) (s : State) : ∃ u, execOrderReadoutRegister o s = .next u ∧ Upd [.gates, .keys, .recs, .mbus, .lnk, .ev, .sen] s u := by
  unfold execOrderReadoutRegister
  refine ⟨_, rfl, ?_⟩
  repeat' (first
    | with_reducible assumption
    | with_reducible exact Upd.refl _ _
    | (show subParts _ _ = true; rfl)
    | with_reducible apply Upd.ite
    | with_reducible apply Upd.comp (upd_rqOrder _ _ _)
    | split)

theorem upd_retireReading (slot : Nat) (s : State) : Upd [.recs, .ev, .sen] s (retireReading slot s) := by
  unfold retireReading
  repeat' (first
    | with_reducible assumption
    | with_reducible exact Upd.refl _ _
    | (show subParts _ _ = true; rfl)
    | with_reducible apply Upd.ite
    | exact (fun _ => Nat.le_refl _)
    | with_reducible apply Upd.comp (upd_modRecs _ _ ?_)
    | with_reducible apply Upd.comp (upd_drawRecNo _)
    | with_reducible apply Upd.comp (upd_raise _ _ _ _ _)
    | split)

theorem upd_recsRecover (reason : Nat) (s : State) : Upd [.recs, .ev, .sen] s (recsRecover reason s) := by
  unfold recsRecover
  repeat' (first
    | with_reducible assumption
    | with_reducible exact Upd.refl _ _
    | (show subParts _ _ = true; rfl)
    | with_reducible apply Upd.ite
    | (with_reducible apply Upd.foldl; intro u a hu)
    | exact (fun _ => Nat.le_refl _)
    | with_reducible apply Upd.comp (upd_modRecs _ _ ?_)
    | with_reducible apply Upd.comp (upd_raiseIf _ _ _ _ _ _)
    | (extract_lets +onlyGivenNames x; first
        | (refine Upd.cut (P := [.recs, .ev, .sen]) (s := s) (x := x) ?_ ?_; (revert x; change Upd _ _ _); rotate_left; intro hx; clear_value x)
        | (refine Upd.cutL (P := [.recs, .ev, .sen]) (s := s) (x := x) ?_ ?_; (revert x; change Upd _ _ _); rotate_left; intro hx; clear_value x)
        | (refine Upd.cutR (P := [.recs, .ev, .sen]) (s := s) (x := x) ?_ ?_; (revert x; change Upd _ _ _); rotate_left; intro hx; clear_value x)
        | clear_value x)
    | split)

end Sys2Proof.Machine
end

