-- ==== Sys2Proof/Laws/UpdMbus.lean ====
section
/-! SUPPORT. What the operations of Machine/Mbus.lean change: one lemma for each, that its result differs from its state at most in the parts named,
and that what only grows has not gone back. -/

namespace Sys2Proof.Machine

theorem upd_mbServe (c : MbCmd) (s : State) : Upd [.mbus] s (mbServe c s) := by
  unfold mbServe
  repeat' (first
    | with_reducible assumption
    | with_reducible exact Upd.refl _ _
    | (show subParts _ _ = true; rfl)
    | with_reducible apply Upd.ite
    | with_reducible apply Upd.comp (upd_modMbus _ _)
    | split)

theorem upd_asmDiscard (s : State) : Upd [.mbus, .ev, .sen] s (asmDiscard s) := by
  unfold asmDiscard
  repeat' (first
    | with_reducible assumption
    | with_reducible exact Upd.refl _ _
    | (show subParts _ _ = true; rfl)
    | with_reducible apply Upd.ite
    | with_reducible apply Upd.comp (upd_modMbus _ _)
    | with_reducible apply Upd.comp (upd_raise _ _ _ _ _)
    | split)

theorem upd_handOrder (ws : List W128) (tag : Nat) (s : State) : Upd [.gates, .mbus, .lnk, .ev, .sen] s (handOrder ws tag s) := by
  unfold handOrder
  dsimp only
  repeat' (first
    | with_reducible assumption
    | with_reducible exact Upd.refl _ _
    | (show subParts _ _ = true; rfl)
    | with_reducible apply Upd.ite
    | with_reducible apply Upd.comp (upd_modGates _ _)
    | with_reducible apply Upd.comp (upd_modMbus _ _)
    | with_reducible apply Upd.comp (upd_lnkSend _ _ _ _)
    | with_reducible apply Upd.comp (upd_lnkBroadcast _ _ _)
    | split)

theorem upd_asmChunk (tag : Nat) (chunk : Nat) (chunks : Nat) (data : List Nat) (s : State) : Upd [.gates, .mbus, .lnk, .ev, .sen] s (asmChunk tag chunk chunks data s) := by
  unfold asmChunk
  repeat' (first
    | with_reducible assumption
    | with_reducible exact Upd.refl _ _
    | (show subParts _ _ = true; rfl)
    | with_reducible apply Upd.ite
    | with_reducible apply Upd.comp (upd_modMbus _ _)
    | with_reducible apply Upd.comp (upd_mbServe _ _)
    | with_reducible apply Upd.comp (upd_asmDiscard _)
    | with_reducible apply Upd.comp (upd_handOrder _ _ _)
    | split)

theorem upd_execBaudRevert (s : State) : ∃ u, execBaudRevert s = .next u ∧ Upd [.mbus, .ev, .sen] s u := by
  unfold execBaudRevert
  refine ⟨_, rfl, ?_⟩
  repeat' (first
    | with_reducible assumption
    | with_reducible exact Upd.refl _ _
    | (show subParts _ _ = true; rfl)
    | with_reducible apply Upd.ite
    | with_reducible apply Upd.comp (upd_modMbus _ _)
    | with_reducible apply Upd.comp (upd_raise _ _ _ _ _)
    | split)

theorem upd_execMbusFrameError (s : State) : ∃ u, execMbusFrameError s = .next u ∧ Upd [.mbus, .ev, .sen] s u := by
  unfold execMbusFrameError
  refine ⟨_, rfl, ?_⟩
  repeat' (first
    | with_reducible assumption
    | with_reducible exact Upd.refl _ _
    | (show subParts _ _ = true; rfl)
    | with_reducible apply Upd.ite
    | with_reducible apply Upd.comp (upd_modMbus _ _)
    | with_reducible apply Upd.comp (upd_raiseIf _ _ _ _ _ _)
    | split)

theorem upd_execMbusLatchExpiry (s : State) : ∃ u, execMbusLatchExpiry s = .next u ∧ Upd [.mbus] s u := by
  unfold execMbusLatchExpiry
  refine ⟨_, rfl, ?_⟩
  repeat' (first
    | with_reducible assumption
    | with_reducible exact Upd.refl _ _
    | (show subParts _ _ = true; rfl)
    | with_reducible apply Upd.ite
    | with_reducible apply Upd.comp (upd_modMbus _ _)
    | split)

theorem upd_mbAnswer (loud : Bool) (a : MbAnswer) (s : State) : Upd [.mbus] s (mbAnswer loud a s) := by
  unfold mbAnswer
  repeat' (first
    | with_reducible assumption
    | with_reducible exact Upd.refl _ _
    | (show subParts _ _ = true; rfl)
    | with_reducible apply Upd.ite
    | with_reducible apply Upd.comp (upd_modMbus _ _)
    | split)

theorem upd_execMbusUnsupported (addr : Fin 256) (s : State) : ∃ u, execMbusUnsupported addr s = .next u ∧ Upd [.mbus] s u := by
  unfold execMbusUnsupported
  refine ⟨_, rfl, ?_⟩
  repeat' (first
    | with_reducible assumption
    | with_reducible exact Upd.refl _ _
    | (show subParts _ _ = true; rfl)
    | with_reducible apply Upd.ite
    | with_reducible apply Upd.comp (upd_mbAnswer _ _ _)
    | split)

theorem upd_execOrderAssemblyTimeout (s : State) : ∃ u, execOrderAssemblyTimeout s = .next u ∧ Upd [.mbus, .ev, .sen] s u := by
  unfold execOrderAssemblyTimeout
  refine ⟨_, rfl, ?_⟩
  repeat' (first
    | with_reducible assumption
    | with_reducible exact Upd.refl _ _
    | (show subParts _ _ = true; rfl)
    | with_reducible apply Upd.ite
    | with_reducible apply Upd.comp (upd_asmDiscard _)
    | split)

theorem upd_readItem (channel : Nat) (node : Nat) (isRecord : Bool) (item : Nat) (part : Nat) (s : State) : Upd [.mbus, .ev, .sen, .freeCtr] s (readItem channel node isRecord item part s).2 := by
  unfold readItem
  repeat' (first
    | with_reducible assumption
    | with_reducible exact Upd.refl _ _
    | (show subParts _ _ = true; rfl)
    | with_reducible apply Upd.ite
    | with_reducible apply Upd.iteR
    | with_reducible apply Upd.comp (upd_modMbus _ _)
    | with_reducible apply Upd.comp (upd_raise _ _ _ _ _)
    | with_reducible apply Upd.comp (upd_eventWindow _ _)
    | split)

theorem upd_readAnswer (node : Nat) (isRecord : Bool) (item : Nat) (part : Nat) (s : State) : Upd [.mbus, .ev, .sen, .freeCtr] s (readAnswer node isRecord item part s).2 := by
  unfold readAnswer
  repeat' (first
    | with_reducible assumption
    | with_reducible exact Upd.refl _ _
    | (show subParts _ _ = true; rfl)
    | with_reducible apply Upd.ite
    | with_reducible apply Upd.comp (upd_readItem _ _ _ _ _ _)
    | with_reducible apply Upd.comp (Upd.eqR (upd_readItem _ _ _ _ _ _ ) (by with_reducible assumption))
    | split)

theorem upd_mbTake {P : List Part} {s0 : State} (a : Nat) (f : State → State) (s : State)
    (hs : subParts [.mbus] P = true) (hf : ∀ t, Upd P s0 t → Upd P s0 (f t)) (h : Upd P s0 s) :
    Upd P s0 (mbTake a f s) := by
  unfold mbTake
  split
  · exact h
  · split
    · exact Upd.comp2 (upd_mbAnswer _ _ _) (by rfl) hs h
    · exact Upd.comp2 (upd_mbAnswer _ _ _) (by rfl) hs (hf _ h)

theorem upd_execReqUd1 (addr : Fin 256) (s : State) : ∃ u, execReqUd1 addr s = .next u ∧ Upd [.mbus] s u := by
  unfold execReqUd1
  refine ⟨_, rfl, ?_⟩
  repeat' (first
    | (simp only [id]; assumption)
    | with_reducible assumption
    | with_reducible exact Upd.refl _ _
    | (show subParts _ _ = true; rfl)
    | with_reducible apply Upd.ite
    | with_reducible apply upd_mbTake
    | split
    | intro _ _)

theorem upd_mbProxyNext (y : Nat) (s : State) : Upd [.mbus] s (mbProxyNext y s).2.2 := by
  unfold mbProxyNext
  repeat' (first
    | with_reducible assumption
    | with_reducible exact Upd.refl _ _
    | (show subParts _ _ = true; rfl)
    | with_reducible apply Upd.ite
    | with_reducible apply Upd.comp (upd_modMbus _ _)
    | split)

theorem upd_mbNext (s : State) : Upd [.mbus] s (mbNext s).2.2 := by
  unfold mbNext
  repeat' (first
    | with_reducible assumption
    | with_reducible exact Upd.refl _ _
    | (show subParts _ _ = true; rfl)
    | with_reducible apply Upd.ite
    | with_reducible apply Upd.comp (upd_mbServe _ _)
    | split)

theorem upd_mbRespond (a : Nat) (s : State) : Upd [.mbus] s (mbRespond a s) := by
  unfold mbRespond
  repeat' (first
    | with_reducible assumption
    | with_reducible exact Upd.refl _ _
    | (show subParts _ _ = true; rfl)
    | with_reducible apply Upd.ite
    | with_reducible apply Upd.comp (upd_modMbus _ _)
    | with_reducible apply Upd.comp (upd_mbProxyNext _ _)
    | with_reducible apply Upd.comp (upd_mbNext _)
    | split)

theorem upd_execReqUd2 (addr : Fin 256) (fcv : Bool) (fcb : Bool) (s : State) : ∃ u, execReqUd2 addr fcv fcb s = .next u ∧ Upd [.mbus] s u := by
  unfold execReqUd2
  refine ⟨_, rfl, ?_⟩
  repeat' (first
    | with_reducible assumption
    | with_reducible exact Upd.refl _ _
    | (show subParts _ _ = true; rfl)
    | with_reducible apply Upd.ite
    | with_reducible apply Upd.comp (upd_modMbus _ _)
    | with_reducible apply Upd.comp (upd_mbAnswer _ _ _)
    | with_reducible apply Upd.comp (upd_mbRespond _ _)
    | split)

theorem upd_execSndNke (addr : Fin 256) (s : State) : ∃ u, execSndNke addr s = .next u ∧ Upd [.mbus] s u := by
  unfold execSndNke
  refine ⟨_, rfl, ?_⟩
  repeat' (first
    | with_reducible assumption
    | with_reducible exact Upd.refl _ _
    | (show subParts _ _ = true; rfl)
    | with_reducible apply Upd.ite
    | with_reducible apply Upd.comp (upd_modMbus _ _)
    | with_reducible apply upd_mbTake
    | split
    | intro _ _)

theorem upd_execSndUdAppReset (addr : Fin 256) (s : State) : ∃ u, execSndUdAppReset addr s = .next u ∧ Upd [.mbus] s u := by
  unfold execSndUdAppReset
  refine ⟨_, rfl, ?_⟩
  repeat' (first
    | with_reducible assumption
    | with_reducible exact Upd.refl _ _
    | (show subParts _ _ = true; rfl)
    | with_reducible apply Upd.ite
    | with_reducible apply Upd.comp (upd_modMbus _ _)
    | with_reducible apply upd_mbTake
    | split
    | intro _ _)

theorem upd_execSndUdBaud (addr : Fin 256) (ci : Fin 256) (s : State) : ∃ u, execSndUdBaud addr ci s = .next u ∧ Upd [.mbus, .ev, .sen] s u := by
  unfold execSndUdBaud
  refine ⟨_, rfl, ?_⟩
  repeat' (first
    | with_reducible assumption
    | with_reducible exact Upd.refl _ _
    | (show subParts _ _ = true; rfl)
    | with_reducible apply Upd.ite
    | with_reducible apply Upd.comp (upd_modMbus _ _)
    | with_reducible apply upd_mbTake
    | with_reducible apply Upd.comp (upd_raise _ _ _ _ _)
    | split
    | intro _ _)

theorem upd_mbDiscard (s : State) : Upd [.mbus, .ev, .sen] s (mbDiscard s) := by
  unfold mbDiscard
  repeat' (first
    | with_reducible assumption
    | with_reducible exact Upd.refl _ _
    | (show subParts _ _ = true; rfl)
    | with_reducible apply Upd.ite
    | with_reducible apply Upd.comp (upd_modMbus _ _)
    | with_reducible apply Upd.comp (upd_raiseIf _ _ _ _ _ _)
    | split)

theorem upd_mbForward (y : Nat) (block : List Nat) (s : State) : Upd [.mbus, .lnk, .ev, .sen] s (mbForward y block s) := by
  unfold mbForward
  repeat' (first
    | with_reducible assumption
    | with_reducible exact Upd.refl _ _
    | (show subParts _ _ = true; rfl)
    | with_reducible apply Upd.ite
    | with_reducible apply Upd.comp (upd_modMbus _ _)
    | with_reducible apply Upd.comp (upd_lnkSend _ _ _ _)
    | split)

theorem upd_mbCommand {P : List Part} {s0 : State} (a : Nat) (f : MbFrame) (block : List Nat) (act : State → State) (s : State)
    (hs : subParts [.mbus, .lnk, .ev, .sen] P = true) (hf : ∀ t, Upd P s0 t → Upd P s0 (act t)) (h : Upd P s0 s) :
    Upd P s0 (mbCommand a f block act s) := by
  refine upd_mbTake _ _ _ (subParts_trans (by rfl) hs) (fun t ht => ?_) h
  split
  · exact Upd.comp2 (upd_mbDiscard _) (by rfl) hs ht
  · split
    · exact Upd.ite (Upd.comp2 (upd_mbForward _ _ _) (by rfl) hs ht) (hf _ ht)
    · exact hf _ ht

theorem upd_execSndUdOrderChunk (addr : Fin 256) (f : MbFrame) (tag : Nat) (chunk : Nat) (chunks : Nat) (data : List Nat) (s : State) : ∃ u, execSndUdOrderChunk addr f tag chunk chunks data s = .next u ∧ Upd [.gates, .mbus, .lnk, .ev, .sen] s u := by
  unfold execSndUdOrderChunk
  refine ⟨_, rfl, ?_⟩
  repeat' (first
    | with_reducible assumption
    | with_reducible exact Upd.refl _ _
    | (show subParts _ _ = true; rfl)
    | with_reducible apply Upd.ite
    | with_reducible apply upd_mbCommand
    | with_reducible apply Upd.comp (upd_asmChunk _ _ _ _ _)
    | split
    | intro _ _)

theorem upd_execSndUdPrimaryWrite (addr : Fin 256) (new : Nat) (s : State) : ∃ u, execSndUdPrimaryWrite addr new s = .next u ∧ Upd [.mbus, .ev, .sen] s u := by
  unfold execSndUdPrimaryWrite
  refine ⟨_, rfl, ?_⟩
  repeat' (first
    | with_reducible assumption
    | with_reducible exact Upd.refl _ _
    | (show subParts _ _ = true; rfl)
    | with_reducible apply Upd.ite
    | with_reducible apply upd_mbTake
    | with_reducible apply Upd.comp (upd_raise _ _ _ _ _)
    | split
    | intro _ _)

theorem upd_mbRead (isRecord : Bool) (item : Nat) (part : Nat) (s : State) : Upd [.mbus, .ev, .sen, .freeCtr] s (mbRead isRecord item part s) := by
  unfold mbRead
  repeat' (first
    | with_reducible assumption
    | with_reducible exact Upd.refl _ _
    | (show subParts _ _ = true; rfl)
    | with_reducible apply Upd.ite
    | with_reducible apply Upd.comp (upd_readItem _ _ _ _ _ _)
    | with_reducible apply Upd.comp (upd_mbServe _ _)
    | with_reducible apply Upd.comp (Upd.eqR (upd_readItem _ _ _ _ _ _ ) (by with_reducible assumption))
    | split)

theorem upd_execSndUdReadPage (addr : Fin 256) (f : MbFrame) (page : Nat) (part : Nat) (s : State) : ∃ u, execSndUdReadPage addr f page part s = .next u ∧ Upd [.mbus, .lnk, .ev, .sen, .freeCtr] s u := by
  unfold execSndUdReadPage
  refine ⟨_, rfl, ?_⟩
  repeat' (first
    | with_reducible assumption
    | with_reducible exact Upd.refl _ _
    | (show subParts _ _ = true; rfl)
    | with_reducible apply Upd.ite
    | with_reducible apply upd_mbCommand
    | with_reducible apply Upd.comp (upd_mbRead _ _ _ _)
    | split
    | intro _ _)

theorem upd_execSndUdReadRecord (addr : Fin 256) (f : MbFrame) (no : Nat) (part : Nat) (s : State) : ∃ u, execSndUdReadRecord addr f no part s = .next u ∧ Upd [.mbus, .lnk, .ev, .sen, .freeCtr] s u := by
  unfold execSndUdReadRecord
  refine ⟨_, rfl, ?_⟩
  repeat' (first
    | with_reducible assumption
    | with_reducible exact Upd.refl _ _
    | (show subParts _ _ = true; rfl)
    | with_reducible apply Upd.ite
    | with_reducible apply upd_mbCommand
    | with_reducible apply Upd.comp (upd_mbRead _ _ _ _)
    | split
    | intro _ _)

theorem upd_execSndUdSelect (ident : Nat) (man : Nat) (version : Nat) (medium : Nat) (s : State) : ∃ u, execSndUdSelect ident man version medium s = .next u ∧ Upd [.mbus] s u := by
  unfold execSndUdSelect
  refine ⟨_, rfl, ?_⟩
  repeat' (first
    | with_reducible assumption
    | with_reducible exact Upd.refl _ _
    | (show subParts _ _ = true; rfl)
    | with_reducible apply Upd.ite
    | with_reducible apply Upd.comp (upd_modMbus _ _)
    | with_reducible apply Upd.comp (upd_mbAnswer _ _ _)
    | split)

theorem upd_execSndUdStandard (addr : Fin 256) (f : MbFrame) (s : State) : ∃ u, execSndUdStandard addr f s = .next u ∧ Upd [.mbus, .lnk, .ev, .sen] s u := by
  unfold execSndUdStandard
  refine ⟨_, rfl, ?_⟩
  repeat' (first
    | with_reducible assumption
    | with_reducible exact Upd.refl _ _
    | (show subParts _ _ = true; rfl)
    | with_reducible apply Upd.ite
    | with_reducible apply upd_mbCommand
    | with_reducible apply Upd.comp (upd_mbServe _ _)
    | split
    | intro _ _)

end Sys2Proof.Machine
end

