-- ==== Sys2Proof/Laws/UpdShare.lean ====
section
/-! SUPPORT. What the operations of Machine/Share.lean change: one lemma for each, that its result differs from its state at most in the parts named,
and that what only grows has not gone back. -/

namespace Sys2Proof.Machine

theorem upd_allocApply (s : State) : Upd [.lnk, .share, .ev, .sen] s (allocApply s) := by
  unfold allocApply
  repeat' (first
    | with_reducible assumption
    | with_reducible exact Upd.refl _ _
    | (show subParts _ _ = true; rfl)
    | with_reducible apply Upd.ite
    | with_reducible apply Upd.comp (upd_modShare _ _)
    | with_reducible apply Upd.comp (upd_modLnk _ _)
    | with_reducible apply Upd.comp (upd_raise _ _ _ _ _)
    | split)

theorem upd_recordEvents (rs : List Demand) (s : State) : Upd [.share, .ev, .sen] s (recordEvents rs s) := by
  unfold recordEvents
  repeat' (first
    | with_reducible assumption
    | with_reducible exact Upd.refl _ _
    | (show subParts _ _ = true; rfl)
    | with_reducible apply Upd.ite
    | (with_reducible apply Upd.foldl; intro u a hu)
    | with_reducible apply Upd.comp (upd_modShare _ _)
    | with_reducible apply Upd.comp (upd_raise _ _ _ _ _)
    | with_reducible apply Upd.comp (upd_raiseIf _ _ _ _ _ _)
    | split)

theorem upd_allocCompute (e : Nat) (rs : List Demand) (s : State) : Upd [.share, .ev, .sen] s (allocCompute e rs s) := by
  unfold allocCompute
  repeat' (first
    | with_reducible assumption
    | with_reducible exact Upd.refl _ _
    | (show subParts _ _ = true; rfl)
    | with_reducible apply Upd.ite
    | with_reducible apply Upd.comp (upd_modShare _ _)
    | with_reducible apply Upd.comp (upd_recordEvents _ _)
    | split)

theorem upd_llimBoundary (s : State) : Upd [.share] s (llimBoundary s) := by
  unfold llimBoundary
  repeat' (first
    | with_reducible assumption
    | with_reducible exact Upd.refl _ _
    | (show subParts _ _ = true; rfl)
    | with_reducible apply Upd.ite
    | with_reducible apply Upd.comp (upd_modShare _ _)
    | split)

theorem upd_llimTerms (s : State) : Upd [.cp, .share] s (llimTerms s) := by
  unfold llimTerms
  repeat' (first
    | with_reducible assumption
    | with_reducible exact Upd.refl _ _
    | (show subParts _ _ = true; rfl)
    | with_reducible apply Upd.ite
    | (with_reducible apply Upd.foldl; intro u a hu)
    | with_reducible apply Upd.comp (upd_modShare _ _)
    | with_reducible apply Upd.comp (upd_modCp _ _ _)
    | split)

theorem upd_pointSplit (s : State) : Upd [.cp, .share, .ev, .sen] s (pointSplit s) := by
  unfold pointSplit
  repeat' (first
    | with_reducible assumption
    | with_reducible exact Upd.refl _ _
    | (show subParts _ _ = true; rfl)
    | with_reducible apply Upd.ite
    | (with_reducible apply Upd.foldl; intro u a hu)
    | with_reducible apply Upd.comp (upd_modCp _ _ _)
    | with_reducible apply Upd.comp (upd_modShare _ _)
    | with_reducible apply Upd.comp (upd_raiseIf _ _ _ _ _ _)
    | with_reducible apply Upd.comp (upd_llimTerms _)
    | split)

theorem upd_splitBoundary (s : State) : Upd [.cp, .share, .ev, .sen] s (splitBoundary s) := by
  unfold splitBoundary
  repeat' (first
    | with_reducible assumption
    | with_reducible exact Upd.refl _ _
    | (show subParts _ _ = true; rfl)
    | with_reducible apply Upd.ite
    | with_reducible apply Upd.comp (upd_pointSplit _)
    | split)

theorem upd_shareReset (s : State) : Upd [.share] s (shareReset s) := by
  unfold shareReset
  repeat' (first
    | with_reducible assumption
    | with_reducible exact Upd.refl _ _
    | (show subParts _ _ = true; rfl)
    | with_reducible apply Upd.ite
    | with_reducible apply Upd.comp (upd_modShare _ _)
    | split)

theorem upd_doLlimChange (s : State) : Upd [.cp, .share, .ev, .sen] s (doLlimChange s) := by
  unfold doLlimChange
  repeat' (first
    | with_reducible assumption
    | with_reducible exact Upd.refl _ _
    | (show subParts _ _ = true; rfl)
    | with_reducible apply Upd.ite
    | with_reducible apply Upd.comp (upd_modShare _ _)
    | with_reducible apply Upd.comp (upd_llimTerms _)
    | with_reducible apply Upd.comp (upd_raise _ _ _ _ _)
    | split)

theorem upd_formDemand (s : State) : Upd [.lnk, .share] s (formDemand s) := by
  unfold formDemand
  repeat' (first
    | with_reducible assumption
    | with_reducible exact Upd.refl _ _
    | (show subParts _ _ = true; rfl)
    | with_reducible apply Upd.ite
    | with_reducible apply Upd.comp (upd_modShare _ _)
    | with_reducible apply Upd.comp (upd_modLnk _ _)
    | split)

end Sys2Proof.Machine
end

