-- ==== Sys2Proof/Laws/UpdLink.lean ====
section
/-! SUPPORT. What the operations of Machine/Link.lean change: one lemma for each, that its result differs from its state at most in the parts named,
and that what only grows has not gone back. -/

namespace Sys2Proof.Machine

theorem upd_announceClaim (claimant : Nat) (s : State) : Upd [.lnk] s (announceClaim claimant s) := by
  unfold announceClaim
  repeat' (first
    | with_reducible assumption
    | with_reducible exact Upd.refl _ _
    | (show subParts _ _ = true; rfl)
    | with_reducible apply Upd.ite
    | with_reducible apply Upd.comp (upd_modLnk _ _)
    | split)

theorem upd_beaconHeard (f : AcFrame) (hop : Nat) (s : State) : Upd [.lnk] s (beaconHeard f hop s) := by
  unfold beaconHeard
  repeat' (first
    | with_reducible assumption
    | with_reducible exact Upd.refl _ _
    | (show subParts _ _ = true; rfl)
    | with_reducible apply Upd.ite
    | with_reducible apply Upd.comp (upd_modLnk _ _)
    | split)

theorem upd_sendCollect (s : State) : Upd [.lnk] s (sendCollect s) := by
  unfold sendCollect
  repeat' (first
    | with_reducible assumption
    | with_reducible exact Upd.refl _ _
    | (show subParts _ _ = true; rfl)
    | with_reducible apply Upd.ite
    | with_reducible apply Upd.comp (upd_lnkTo _ _ _ _)
    | split)

theorem upd_linkBoundary (s : State) : Upd [.phy, .lnk] s (linkBoundary s) := by
  unfold linkBoundary
  repeat' (first
    | with_reducible assumption
    | with_reducible exact Upd.refl _ _
    | (show subParts _ _ = true; rfl)
    | with_reducible apply Upd.ite
    | with_reducible apply Upd.comp (upd_modLnk _ _)
    | with_reducible apply Upd.comp (upd_mapsBoundary _)
    | with_reducible apply Upd.comp (upd_sendCollect _)
    | split)

theorem upd_followParent (n : Neigh) (s : State) : Upd [.lnk] s (followParent n s) := by
  unfold followParent
  repeat' (first
    | with_reducible assumption
    | with_reducible exact Upd.refl _ _
    | (show subParts _ _ = true; rfl)
    | with_reducible apply Upd.ite
    | with_reducible apply Upd.comp (upd_modLnk _ _)
    | split)

theorem upd_setIsland (on : Bool) (s : State) : Upd [.lnk, .ev, .sen] s (setIsland on s) := by
  unfold setIsland
  repeat' (first
    | with_reducible assumption
    | with_reducible exact Upd.refl _ _
    | (show subParts _ _ = true; rfl)
    | with_reducible apply Upd.ite
    | with_reducible apply Upd.comp (upd_modLnk _ _)
    | with_reducible apply Upd.comp (upd_raise _ _ _ _ _)
    | split)

theorem upd_chooseAgain (s : State) : Upd [.lnk, .ev, .sen] s (chooseAgain s) := by
  unfold chooseAgain
  repeat' (first
    | with_reducible assumption
    | with_reducible exact Upd.refl _ _
    | (show subParts _ _ = true; rfl)
    | with_reducible apply Upd.ite
    | with_reducible apply Upd.comp (upd_modLnk _ _)
    | with_reducible apply Upd.comp (upd_raise _ _ _ _ _)
    | with_reducible apply Upd.comp (upd_followParent _ _)
    | with_reducible apply Upd.comp (upd_setIsland _ _)
    | split)

theorem upd_linkReset (s : State) : Upd [.phy, .lnk, .share] s (linkReset s) := by
  unfold linkReset
  repeat' (first
    | with_reducible assumption
    | with_reducible exact Upd.refl _ _
    | (show subParts _ _ = true; rfl)
    | with_reducible apply Upd.ite
    | with_reducible apply Upd.comp (upd_modLnk _ _)
    | with_reducible apply Upd.comp (upd_shareReset _)
    | with_reducible apply Upd.comp (upd_fctrAtRun _)
    | with_reducible apply Upd.comp (upd_phyReset _)
    | split)

theorem upd_commitWith (peer : Nat) (q : Nat) (sending : Bool) (gens : List Nat) (s : State) : Upd [.phy, .lnk, .ev, .sen] s (commitWith peer q sending gens s) := by
  unfold commitWith
  repeat' (first
    | with_reducible assumption
    | with_reducible exact Upd.refl _ _
    | (show subParts _ _ = true; rfl)
    | with_reducible apply Upd.ite
    | (with_reducible apply Upd.foldl; intro u a hu)
    | with_reducible apply Upd.comp (upd_commitMaps _ _ _ _ _)
    | with_reducible apply Upd.comp (upd_modNeigh _ _ _)
    | with_reducible apply Upd.comp (upd_raise _ _ _ _ _)
    | split)

theorem upd_toListen (s : State) : Upd [.lnk, .ev, .sen] s (toListen s) := by
  unfold toListen
  repeat' (first
    | with_reducible assumption
    | with_reducible exact Upd.refl _ _
    | (show subParts _ _ = true; rfl)
    | with_reducible apply Upd.ite
    | with_reducible apply Upd.comp (upd_modLnk _ _)
    | with_reducible apply Upd.comp (upd_setIsland _ _)
    | split)

theorem upd_coordStops (new : Nat) (s : State) : Upd [.lnk, .ev, .sen] s (coordStops new s) := by
  unfold coordStops
  repeat' (first
    | with_reducible assumption
    | with_reducible exact Upd.refl _ _
    | (show subParts _ _ = true; rfl)
    | with_reducible apply Upd.ite
    | with_reducible apply Upd.comp (upd_toListen _)
    | with_reducible apply Upd.comp (upd_raise _ _ _ _ _)
    | split)

theorem upd_execAcradAckRx (node : Nat) (fseq : Nat) (status : Nat) (q : Fin 48) (s : State) : ∃ u, execAcradAckRx node fseq status q s = .next u ∧ Upd [.phy, .lnk, .ev, .sen] s u := by
  unfold execAcradAckRx
  refine ⟨_, rfl, ?_⟩
  repeat' (first
    | with_reducible assumption
    | with_reducible exact Upd.refl _ _
    | (show subParts _ _ = true; rfl)
    | with_reducible apply Upd.ite
    | with_reducible apply Upd.comp (upd_modLnk _ _)
    | with_reducible apply Upd.comp (upd_txFailed _ _)
    | with_reducible apply Upd.comp (upd_blockResults _ _ _)
    | with_reducible apply Upd.comp (upd_modNeigh _ _ _)
    | with_reducible apply Upd.comp (upd_commitWith _ _ _ _ _)
    | split)

theorem upd_execBeaconRelay (f : AcFrame) (s : State) : ∃ u, execBeaconRelay f s = .next u ∧ Upd [.phy] s u := by
  unfold execBeaconRelay
  refine ⟨_, rfl, ?_⟩
  repeat' (first
    | with_reducible assumption
    | with_reducible exact Upd.refl _ _
    | (show subParts _ _ = true; rfl)
    | with_reducible apply Upd.ite
    | with_reducible apply Upd.comp (upd_relayFrame _ _ _ _ _ _)
    | split)

theorem upd_execBeaconRx (f : AcFrame) (hop : Nat) (s : State) : ∃ u, execBeaconRx f hop s = .next u ∧ Upd [.phy, .lnk, .ev, .sen] s u := by
  unfold execBeaconRx
  refine ⟨_, rfl, ?_⟩
  repeat' (first
    | with_reducible assumption
    | with_reducible exact Upd.refl _ _
    | (show subParts _ _ = true; rfl)
    | with_reducible apply Upd.ite
    | with_reducible apply Upd.comp (upd_lnkAccept _ _)
    | with_reducible apply Upd.comp (upd_coordStops _ _)
    | with_reducible apply Upd.comp (upd_beaconHeard _ _ _)
    | with_reducible apply Upd.comp (Upd.eqR (upd_lnkAccept _ _ ) (by with_reducible assumption))
    | split)

theorem upd_execBeaconSend (s : State) : ∃ u, execBeaconSend s = .next u ∧ Upd [.phy, .lnk, .ev, .sen] s u := by
  unfold execBeaconSend
  refine ⟨_, rfl, ?_⟩
  repeat' (first
    | with_reducible assumption
    | with_reducible exact Upd.refl _ _
    | (show subParts _ _ = true; rfl)
    | with_reducible apply Upd.ite
    | with_reducible apply Upd.comp (upd_modLnk _ _)
    | with_reducible apply Upd.comp (upd_sendBroadcast _ _ _ _)
    | split)

theorem upd_holdBundle (e : Nat) (ds : List Demand) (s : State) : Upd [.lnk, .share, .ev, .sen] s (holdBundle e ds s) := by
  unfold holdBundle
  repeat' (first
    | with_reducible assumption
    | with_reducible exact Upd.refl _ _
    | (show subParts _ _ = true; rfl)
    | with_reducible apply Upd.ite
    | with_reducible apply Upd.comp (upd_modLnk _ _)
    | with_reducible apply Upd.comp (upd_allocCompute _ _ _)
    | split)

theorem upd_execBundleClose (s : State) : ∃ u, execBundleClose s = .next u ∧ Upd [.lnk, .share, .ev, .sen] s u := by
  unfold execBundleClose
  refine ⟨_, rfl, ?_⟩
  repeat' (first
    | with_reducible assumption
    | with_reducible exact Upd.refl _ _
    | (show subParts _ _ = true; rfl)
    | with_reducible apply Upd.ite
    | with_reducible apply Upd.comp (upd_modLnk _ _)
    | with_reducible apply Upd.comp (upd_holdBundle _ _ _)
    | split)

theorem upd_execBundleSeg (f : AcFrame) (s : State) : ∃ u, execBundleSeg f s = .next u ∧ Upd [.phy, .lnk, .share, .ev, .sen] s u := by
  unfold execBundleSeg
  refine ⟨_, rfl, ?_⟩
  repeat' (first
    | with_reducible assumption
    | with_reducible exact Upd.refl _ _
    | (show subParts _ _ = true; rfl)
    | with_reducible apply Upd.ite
    | with_reducible apply Upd.comp (upd_modLnk _ _)
    | with_reducible apply Upd.comp (upd_lnkAccept _ _)
    | with_reducible apply Upd.comp (upd_relayFrame _ _ _ _ _ _)
    | with_reducible apply Upd.comp (upd_holdBundle _ _ _)
    | with_reducible apply Upd.comp (Upd.eqR (upd_lnkAccept _ _ ) (by with_reducible assumption))
    | split)

theorem upd_execBundleSegmentSend (g : Fin 3) (s : State) : ∃ u, execBundleSegmentSend g s = .next u ∧ Upd [.phy, .lnk, .ev, .sen] s u := by
  unfold execBundleSegmentSend
  refine ⟨_, rfl, ?_⟩
  repeat' (first
    | with_reducible assumption
    | with_reducible exact Upd.refl _ _
    | (show subParts _ _ = true; rfl)
    | with_reducible apply Upd.ite
    | with_reducible apply Upd.comp (upd_modLnk _ _)
    | with_reducible apply Upd.comp (upd_sendBroadcast _ _ _ _)
    | split)

theorem upd_forwardTo (dst : Nat) (kind : Nat) (f : AcFrame) (body : List Nat) (s : State) : Upd [.lnk, .ev, .sen] s (forwardTo dst kind f body s) := by
  unfold forwardTo
  repeat' (first
    | with_reducible assumption
    | with_reducible exact Upd.refl _ _
    | (show subParts _ _ = true; rfl)
    | with_reducible apply Upd.ite
    | with_reducible apply Upd.comp (upd_lnkDrop _ _ _)
    | with_reducible apply Upd.comp (upd_lnkQueue _ _)
    | split)

theorem upd_takeMsg {P : List Part} {s0 : State} (kind : Nat) (f : AcFrame) (act : List Nat → State → State) (s : State)
    (hs : subParts [.phy, .lnk, .ev, .sen] P = true) (hf : ∀ b t, Upd P s0 t → Upd P s0 (act b t)) (h : Upd P s0 s) :
    Upd P s0 (takeMsg kind f act s) := by
  unfold takeMsg
  have h1 := Upd.comp2 (upd_lnkAccept f s) (by rfl) hs h
  split
  · rename_i heq
    rw [heq] at h1
    exact h1
  · rename_i heq
    rw [heq] at h1
    have h2 := Upd.comp2 (upd_reassemble f _) (by rfl) hs h1
    split
    · rename_i heq
      rw [heq] at h2
      exact h2
    · rename_i heq
      rw [heq] at h2
      split
      · refine Upd.ite (Upd.comp2 (upd_modLnk _ _) (by decide) hs h2) (hf _ _ (Upd.foldl (fun u a hu => ?_) (Upd.comp2 (upd_modLnk _ _) (by decide) hs h2)))
        exact Upd.comp2 (upd_forwardTo _ _ _ _ _) (by rfl) hs hu
      · split
        · exact hf _ _ h2
        · split
          · exact Upd.comp2 (upd_forwardTo _ _ _ _ _) (by rfl) hs h2
          · exact Upd.comp2 (upd_lnkDrop _ _ _) (by rfl) hs h2

theorem upd_keepDemand (d : Demand) (s : State) : Upd [.lnk] s (keepDemand d s) := by
  unfold keepDemand
  repeat' (first
    | with_reducible assumption
    | with_reducible exact Upd.refl _ _
    | (show subParts _ _ = true; rfl)
    | with_reducible apply Upd.ite
    | with_reducible apply Upd.comp (upd_modLnk _ _)
    | split)

theorem upd_takeCountSeen (node : Nat) (seen : Nat) (s : State) : Upd [.lnk, .ev, .sen] s (takeCountSeen node seen s) := by
  unfold takeCountSeen
  repeat' (first
    | with_reducible assumption
    | with_reducible exact Upd.refl _ _
    | (show subParts _ _ = true; rfl)
    | with_reducible apply Upd.ite
    | with_reducible apply Upd.comp (upd_modLnk _ _)
    | with_reducible apply Upd.comp (upd_raise _ _ _ _ _)
    | split)

theorem upd_execCollectMsg (f : AcFrame) (s : State) : ∃ u, execCollectMsg f s = .next u ∧ Upd [.phy, .lnk, .ev, .sen] s u := by
  unfold execCollectMsg
  refine ⟨_, rfl, ?_⟩
  repeat' (first
    | with_reducible assumption
    | with_reducible exact Upd.refl _ _
    | (show subParts _ _ = true; rfl)
    | with_reducible apply Upd.ite
    | (with_reducible apply Upd.foldl; intro u a hu)
    | with_reducible apply Upd.comp (upd_modLnk _ _)
    | with_reducible apply upd_takeMsg
    | with_reducible apply Upd.comp (upd_keepDemand _ _)
    | with_reducible apply Upd.comp (upd_announceClaim _ _)
    | with_reducible apply Upd.comp (upd_takeCountSeen _ _ _)
    | split
    | intro _ _ _)

theorem upd_toCoord (s : State) : Upd [.lnk, .ev, .sen] s (toCoord s) := by
  unfold toCoord
  repeat' (first
    | with_reducible assumption
    | with_reducible exact Upd.refl _ _
    | (show subParts _ _ = true; rfl)
    | with_reducible apply Upd.ite
    | with_reducible apply Upd.comp (upd_modLnk _ _)
    | with_reducible apply Upd.comp (upd_setIsland _ _)
    | split)

theorem upd_execCoordinationHandover (s : State) : ∃ u, execCoordinationHandover s = .next u ∧ Upd [.lnk, .ev, .sen] s u := by
  unfold execCoordinationHandover
  refine ⟨_, rfl, ?_⟩
  repeat' (first
    | with_reducible assumption
    | with_reducible exact Upd.refl _ _
    | (show subParts _ _ = true; rfl)
    | with_reducible apply Upd.ite
    | with_reducible apply Upd.comp (upd_modLnk _ _)
    | with_reducible apply Upd.comp (upd_coordStops _ _)
    | with_reducible apply Upd.comp (upd_toCoord _)
    | with_reducible apply Upd.comp (upd_raise _ _ _ _ _)
    | split)

theorem upd_execCoordinatorTakeover (s : State) : ∃ u, execCoordinatorTakeover s = .next u ∧ Upd [.lnk, .ev, .sen] s u := by
  unfold execCoordinatorTakeover
  refine ⟨_, rfl, ?_⟩
  repeat' (first
    | with_reducible assumption
    | with_reducible exact Upd.refl _ _
    | (show subParts _ _ = true; rfl)
    | with_reducible apply Upd.ite
    | with_reducible apply Upd.comp (upd_toCoord _)
    | with_reducible apply Upd.comp (upd_raise _ _ _ _ _)
    | split)

theorem upd_tryJoin (s : State) : Upd [.lnk, .ev, .sen] s (tryJoin s) := by
  unfold tryJoin
  repeat' (first
    | with_reducible assumption
    | with_reducible exact Upd.refl _ _
    | (show subParts _ _ = true; rfl)
    | with_reducible apply Upd.ite
    | with_reducible apply Upd.comp (upd_modLnk _ _)
    | with_reducible apply Upd.comp (upd_raiseIf _ _ _ _ _ _)
    | with_reducible apply Upd.comp (upd_setIsland _ _)
    | with_reducible apply Upd.comp (upd_followParent _ _)
    | with_reducible apply Upd.comp (upd_raise _ _ _ _ _)
    | (extract_lets +onlyGivenNames x; first
        | (refine Upd.cut (P := [.lnk, .ev, .sen]) (s := s) (x := x) ?_ ?_; (revert x; change Upd _ _ _); rotate_left; intro hx; clear_value x)
        | (refine Upd.cutL (P := [.lnk, .ev, .sen]) (s := s) (x := x) ?_ ?_; (revert x; change Upd _ _ _); rotate_left; intro hx; clear_value x)
        | (refine Upd.cutR (P := [.lnk, .ev, .sen]) (s := s) (x := x) ?_ ?_; (revert x; change Upd _ _ _); rotate_left; intro hx; clear_value x)
        | clear_value x)
    | split)

theorem upd_keepParent (s : State) : Upd [.lnk, .ev, .sen] s (keepParent s) := by
  unfold keepParent
  repeat' (first
    | with_reducible assumption
    | with_reducible exact Upd.refl _ _
    | (show subParts _ _ = true; rfl)
    | with_reducible apply Upd.ite
    | with_reducible apply Upd.comp (upd_raise _ _ _ _ _)
    | with_reducible apply Upd.comp (upd_followParent _ _)
    | split)

theorem upd_linkEpoch (s : State) : Upd [.lnk, .ev, .sen] s (linkEpoch s) := by
  unfold linkEpoch
  repeat' (first
    | with_reducible assumption
    | with_reducible exact Upd.refl _ _
    | (show subParts _ _ = true; rfl)
    | with_reducible apply Upd.ite
    | with_reducible apply Upd.comp (upd_modLnk _ _)
    | with_reducible apply Upd.comp (upd_tryJoin _)
    | with_reducible apply Upd.comp (upd_keepParent _)
    | split)

theorem upd_execIslandEntry (s : State) : ∃ u, execIslandEntry s = .next u ∧ Upd [.lnk, .ev, .sen] s u := by
  unfold execIslandEntry
  refine ⟨_, rfl, ?_⟩
  repeat' (first
    | with_reducible assumption
    | with_reducible exact Upd.refl _ _
    | (show subParts _ _ = true; rfl)
    | with_reducible apply Upd.ite
    | with_reducible apply Upd.comp (upd_modLnk _ _)
    | with_reducible apply Upd.comp (upd_toListen _)
    | with_reducible apply Upd.comp (upd_raise _ _ _ _ _)
    | split)

theorem upd_linkLoss (s : State) : Upd [.phy, .lnk, .ev, .sen] s (linkLoss s) := by
  unfold linkLoss
  repeat' (first
    | with_reducible assumption
    | with_reducible exact Upd.refl _ _
    | (show subParts _ _ = true; rfl)
    | with_reducible apply Upd.ite
    | with_reducible apply Upd.comp (upd_modLnk _ _)
    | with_reducible apply Upd.comp (upd_phyAbandon _ _)
    | split)

theorem upd_execOrderMsg (f : AcFrame) (s : State) : ∃ u, execOrderMsg f s = .next u ∧ Upd [.gates, .phy, .lnk, .ev, .sen] s u := by
  unfold execOrderMsg
  refine ⟨_, rfl, ?_⟩
  repeat' (first
    | with_reducible assumption
    | with_reducible exact Upd.refl _ _
    | (show subParts _ _ = true; rfl)
    | with_reducible apply Upd.ite
    | with_reducible apply Upd.comp (upd_modLnk _ _)
    | with_reducible apply Upd.comp (upd_modGates _ _)
    | with_reducible apply upd_takeMsg
    | split
    | intro _ _ _)

theorem upd_execOrderStatus (f : AcFrame) (s : State) : ∃ u, execOrderStatus f s = .next u ∧ Upd [.mbus, .phy, .lnk, .ev, .sen] s u := by
  unfold execOrderStatus
  refine ⟨_, rfl, ?_⟩
  repeat' (first
    | with_reducible assumption
    | with_reducible exact Upd.refl _ _
    | (show subParts _ _ = true; rfl)
    | with_reducible apply Upd.ite
    | with_reducible apply Upd.comp (upd_modMbus _ _)
    | with_reducible apply upd_takeMsg
    | split
    | intro _ _ _)

theorem upd_execParentLost (s : State) : ∃ u, execParentLost s = .next u ∧ Upd [.lnk, .ev, .sen] s u := by
  unfold execParentLost
  refine ⟨_, rfl, ?_⟩
  repeat' (first
    | with_reducible assumption
    | with_reducible exact Upd.refl _ _
    | (show subParts _ _ = true; rfl)
    | with_reducible apply Upd.ite
    | with_reducible apply Upd.comp (upd_chooseAgain _)
    | split)

theorem upd_execProxyReadTimeout (s : State) : ∃ u, execProxyReadTimeout s = .next u ∧ Upd [.mbus] s u := by
  unfold execProxyReadTimeout
  refine ⟨_, rfl, ?_⟩
  repeat' (first
    | with_reducible assumption
    | with_reducible exact Upd.refl _ _
    | (show subParts _ _ = true; rfl)
    | with_reducible apply Upd.ite
    | with_reducible apply Upd.comp (upd_modMbus _ _)
    | split)

theorem upd_execReadReq (f : AcFrame) (s : State) : ∃ u, execReadReq f s = .next u ∧ Upd [.mbus, .phy, .lnk, .ev, .sen, .freeCtr] s u := by
  unfold execReadReq
  refine ⟨_, rfl, ?_⟩
  repeat' (first
    | with_reducible assumption
    | with_reducible exact Upd.refl _ _
    | (show subParts _ _ = true; rfl)
    | with_reducible apply Upd.ite
    | with_reducible apply upd_takeMsg
    | with_reducible apply Upd.comp (upd_readAnswer _ _ _ _ _)
    | with_reducible apply Upd.comp (upd_lnkSend _ _ _ _)
    | split
    | intro _ _ _)

theorem upd_execReadRsp (f : AcFrame) (s : State) : ∃ u, execReadRsp f s = .next u ∧ Upd [.mbus, .phy, .lnk, .ev, .sen] s u := by
  unfold execReadRsp
  refine ⟨_, rfl, ?_⟩
  repeat' (first
    | with_reducible assumption
    | with_reducible exact Upd.refl _ _
    | (show subParts _ _ = true; rfl)
    | with_reducible apply Upd.ite
    | with_reducible apply Upd.comp (upd_modMbus _ _)
    | with_reducible apply upd_takeMsg
    | split
    | intro _ _ _)

theorem upd_neighRoom (node : Nat) (s : State) : Upd [.lnk, .ev, .sen] s (neighRoom node s).2 := by
  unfold neighRoom
  repeat' (first
    | with_reducible assumption
    | with_reducible exact Upd.refl _ _
    | (show subParts _ _ = true; rfl)
    | with_reducible apply Upd.ite
    | with_reducible apply Upd.comp (upd_modLnk _ _)
    | with_reducible apply Upd.comp (upd_raise _ _ _ _ _)
    | (extract_lets +onlyGivenNames x; first
        | (refine Upd.cut (P := [.lnk, .ev, .sen]) (s := s) (x := x) ?_ ?_; (revert x; change Upd _ _ _); rotate_left; intro hx; clear_value x)
        | (refine Upd.cutL (P := [.lnk, .ev, .sen]) (s := s) (x := x) ?_ ?_; (revert x; change Upd _ _ _); rotate_left; intro hx; clear_value x)
        | (refine Upd.cutR (P := [.lnk, .ev, .sen]) (s := s) (x := x) ?_ ?_; (revert x; change Upd _ _ _); rotate_left; intro hx; clear_value x)
        | clear_value x)
    | split)

theorem upd_execShareFrameRx (f : AcFrame) (s : State) : ∃ u, execShareFrameRx f s = .next u ∧ Upd [.phy, .lnk, .ev, .sen] s u := by
  unfold execShareFrameRx
  refine ⟨_, rfl, ?_⟩
  repeat' (first
    | with_reducible assumption
    | with_reducible exact Upd.refl _ _
    | (show subParts _ _ = true; rfl)
    | with_reducible apply Upd.ite
    | with_reducible apply Upd.comp (upd_modLnk _ _)
    | with_reducible apply Upd.comp (upd_lnkAccept _ _)
    | with_reducible apply Upd.comp (upd_keepDemand _ _)
    | with_reducible apply Upd.comp (upd_neighRoom _ _)
    | with_reducible apply Upd.comp (upd_modNeigh _ _ _)
    | with_reducible apply Upd.comp (upd_raiseIf _ _ _ _ _ _)
    | with_reducible apply Upd.comp (upd_takeCountSeen _ _ _)
    | with_reducible apply Upd.comp (upd_coordStops _ _)
    | with_reducible apply Upd.comp (Upd.eqR (upd_lnkAccept _ _ ) (by with_reducible assumption))
    | with_reducible apply Upd.comp (Upd.eqR (upd_neighRoom _ _ ) (by with_reducible assumption))
    | split)

theorem upd_execShareFrameSend (s : State) : ∃ u, execShareFrameSend s = .next u ∧ Upd [.phy, .lnk, .ev, .sen] s u := by
  unfold execShareFrameSend
  refine ⟨_, rfl, ?_⟩
  repeat' (first
    | with_reducible assumption
    | with_reducible exact Upd.refl _ _
    | (show subParts _ _ = true; rfl)
    | with_reducible apply Upd.ite
    | with_reducible apply Upd.comp (upd_modLnk _ _)
    | with_reducible apply Upd.comp (upd_sendBroadcast _ _ _ _)
    | split)

theorem upd_execTmAck (f : AcFrame) (q : Fin 48) (s : State) : ∃ u, execTmAck f q s = .next u ∧ Upd [.phy, .lnk, .ev, .sen] s u := by
  unfold execTmAck
  refine ⟨_, rfl, ?_⟩
  repeat' (first
    | with_reducible assumption
    | with_reducible exact Upd.refl _ _
    | (show subParts _ _ = true; rfl)
    | with_reducible apply Upd.ite
    | with_reducible apply upd_takeMsg
    | with_reducible apply Upd.comp (upd_commitWith _ _ _ _ _)
    | split
    | intro _ _)

theorem upd_execTmOffer (f : AcFrame) (s : State) : ∃ u, execTmOffer f s = .next u ∧ Upd [.phy, .lnk, .ev, .sen] s u := by
  unfold execTmOffer
  refine ⟨_, rfl, ?_⟩
  repeat' (first
    | (dsimp only)
    | with_reducible assumption
    | with_reducible exact Upd.refl _ _
    | (show subParts _ _ = true; rfl)
    | with_reducible apply Upd.ite
    | (with_reducible apply Upd.foldlR; intro u a hu)
    | with_reducible apply Upd.comp (upd_modPhy _ _)
    | with_reducible apply upd_takeMsg
    | with_reducible apply Upd.comp (upd_loadMap _ _ _)
    | with_reducible apply Upd.comp (upd_lnkTo _ _ _ _)
    | with_reducible apply Upd.comp (Upd.eqR (upd_loadMap _ _ _ ) (by with_reducible assumption))
    | split
    | intro _ _ _)

theorem upd_execTmReq (f : AcFrame) (s : State) : ∃ u, execTmReq f s = .next u ∧ Upd [.phy, .lnk, .ev, .sen] s u := by
  unfold execTmReq
  refine ⟨_, rfl, ?_⟩
  repeat' (first
    | with_reducible assumption
    | with_reducible exact Upd.refl _ _
    | (show subParts _ _ = true; rfl)
    | with_reducible apply Upd.ite
    | (with_reducible apply Upd.foldl; intro u a hu)
    | with_reducible apply Upd.comp (upd_modPhy _ _)
    | with_reducible apply upd_takeMsg
    | with_reducible apply Upd.comp (upd_modNeigh _ _ _)
    | with_reducible apply Upd.comp (upd_loadMap _ _ _)
    | with_reducible apply Upd.comp (upd_lnkTo _ _ _ _)
    | split
    | intro _ _ _)

theorem upd_execToneMapRefresh (node : Nat) (few : Bool) (s : State) : ∃ u, execToneMapRefresh node few s = .next u ∧ Upd [.phy, .lnk] s u := by
  unfold execToneMapRefresh
  refine ⟨_, rfl, ?_⟩
  repeat' (first
    | with_reducible assumption
    | with_reducible exact Upd.refl _ _
    | (show subParts _ _ = true; rfl)
    | with_reducible apply Upd.ite
    | with_reducible apply Upd.comp (upd_lnkTo _ _ _ _)
    | with_reducible apply Upd.comp (upd_phyReq _ _)
    | split)

end Sys2Proof.Machine
end

