-- ==== Sys2Proof/Laws/UpdMeasure.lean ====
section
/-! SUPPORT. What the operations of Machine/Measure.lean change: one lemma for each, that its result differs from its state at most in the parts named,
and that what only grows has not gone back. -/

namespace Sys2Proof.Machine

theorem upd_modHalo (slot : Fin 8) (f : Halo → Halo) (s : State) : Upd [.meas] s (modHalo slot f s) := by
  unfold modHalo
  repeat' (first
    | with_reducible assumption
    | with_reducible exact Upd.refl _ _
    | (show subParts _ _ = true; rfl)
    | with_reducible apply Upd.ite
    | with_reducible apply Upd.comp (upd_modMeas _ _ _)
    | split)

theorem upd_haloAdmit (slot : Fin 8) (s : State) : Upd [.meas] s (haloAdmit slot s) := by
  unfold haloAdmit
  repeat' (first
    | with_reducible assumption
    | with_reducible exact Upd.refl _ _
    | (show subParts _ _ = true; rfl)
    | with_reducible apply Upd.ite
    | with_reducible apply Upd.comp (upd_modHalo _ _ _)
    | split)

theorem upd_haloBoundary (s : State) : Upd [.meas] s (haloBoundary s) := by
  unfold haloBoundary
  repeat' (first
    | with_reducible assumption
    | with_reducible exact Upd.refl _ _
    | (show subParts _ _ = true; rfl)
    | with_reducible apply Upd.ite
    | (with_reducible apply Upd.foldl; intro u a hu)
    | with_reducible apply Upd.comp (upd_modHalo _ _ _)
    | split)

theorem upd_modChan (slot : Fin 8) (c : Fin 28) (f : Chan → Chan) (s : State) : Upd [.meas] s (modChan slot c f s) := by
  unfold modChan
  repeat' (first
    | with_reducible assumption
    | with_reducible exact Upd.refl _ _
    | (show subParts _ _ = true; rfl)
    | with_reducible apply Upd.ite
    | with_reducible apply Upd.comp (upd_modMeas _ _ _)
    | split)

theorem upd_tamperExc (slot : Fin 8) (c : Fin 28) (s : State) : Upd [.ev, .sen, .tamper] s (tamperExc slot c s) := by
  unfold tamperExc
  repeat' (first
    | with_reducible assumption
    | with_reducible exact Upd.refl _ _
    | (show subParts _ _ = true; rfl)
    | with_reducible apply Upd.ite
    | with_reducible apply Upd.comp (upd_modTamper _ _)
    | with_reducible apply Upd.comp (upd_raise _ _ _ _ _)
    | split)

theorem upd_sensorFault (slot : Fin 8) (c : Fin 28) (s : State) : Upd [.meas, .safe, .psafe, .cp, .ses, .ev, .sen, .tamper] s (sensorFault slot c s) := by
  unfold sensorFault
  repeat' (first
    | with_reducible assumption
    | with_reducible exact Upd.refl _ _
    | (show subParts _ _ = true; rfl)
    | with_reducible apply Upd.ite
    | with_reducible apply Upd.comp (upd_modChan _ _ _ _)
    | with_reducible apply Upd.comp (upd_raise _ _ _ _ _)
    | with_reducible apply Upd.comp (upd_tamperExc _ _ _)
    | with_reducible apply Upd.comp (upd_endSes _ _ _)
    | with_reducible apply Upd.comp (upd_npeSupervision _ _ _)
    | split)

theorem upd_sensorClear (slot : Fin 8) (c : Fin 28) (s : State) : Upd [.meas, .safe, .psafe, .cp, .ev, .sen] s (sensorClear slot c s) := by
  unfold sensorClear
  repeat' (first
    | with_reducible assumption
    | with_reducible exact Upd.refl _ _
    | (show subParts _ _ = true; rfl)
    | with_reducible apply Upd.ite
    | with_reducible apply Upd.comp (upd_modChan _ _ _ _)
    | with_reducible apply Upd.comp (upd_raise _ _ _ _ _)
    | with_reducible apply Upd.comp (upd_npeSupervision _ _ _)
    | split)

theorem upd_chanFlags (slot : Fin 8) (c : Fin 28) (w : W32) (echo : Nat) (s : State) : Upd [.meas, .safe, .psafe, .cp, .ses, .ev, .sen, .tamper] s (chanFlags slot c w echo s) := by
  unfold chanFlags
  repeat' (first
    | with_reducible assumption
    | with_reducible exact Upd.refl _ _
    | (show subParts _ _ = true; rfl)
    | with_reducible apply Upd.ite
    | with_reducible apply Upd.comp (upd_sensorFault _ _ _)
    | with_reducible apply Upd.comp (upd_modChan _ _ _ _)
    | with_reducible apply Upd.comp (upd_sensorClear _ _ _)
    | with_reducible apply Upd.comp (upd_raiseIf _ _ _ _ _ _)
    | split)

theorem upd_haloSuspend (slot : Fin 8) (s : State) : Upd [.meas, .ev, .sen] s (haloSuspend slot s) := by
  unfold haloSuspend
  repeat' (first
    | with_reducible assumption
    | with_reducible exact Upd.refl _ _
    | (show subParts _ _ = true; rfl)
    | with_reducible apply Upd.ite
    | with_reducible apply Upd.comp (upd_raise _ _ _ _ _)
    | with_reducible apply Upd.comp (upd_modHalo _ _ _)
    | split)

theorem upd_chargeSpare (slot : Fin 8) (m : Nat) (c : Nat) (s : State) : Upd [.meas, .ev, .sen] s (chargeSpare slot m c s) := by
  unfold chargeSpare
  repeat' (first
    | with_reducible assumption
    | with_reducible exact Upd.refl _ _
    | (show subParts _ _ = true; rfl)
    | with_reducible apply Upd.ite
    | with_reducible apply Upd.comp (upd_modHalo _ _ _)
    | with_reducible apply Upd.comp (upd_raise _ _ _ _ _)
    | with_reducible apply Upd.comp (upd_haloSuspend _ _)
    | split)

theorem upd_haloSubst (slot : Fin 8) (x : Fin 2) (s : State) : Upd [.meas, .ev, .sen] s (haloSubst slot x s) := by
  unfold haloSubst
  repeat' (first
    | with_reducible assumption
    | with_reducible exact Upd.refl _ _
    | (show subParts _ _ = true; rfl)
    | with_reducible apply Upd.ite
    | with_reducible apply Upd.comp (upd_modHalo _ _ _)
    | with_reducible apply Upd.comp (upd_haloSuspend _ _)
    | with_reducible apply Upd.comp (upd_raise _ _ _ _ _)
    | split)

theorem upd_holdDone (slot : Fin 8) (x : Fin 2) (s : State) : Upd [.meas] s (holdDone slot x s) := by
  unfold holdDone
  repeat' (first
    | with_reducible assumption
    | with_reducible exact Upd.refl _ _
    | (show subParts _ _ = true; rfl)
    | with_reducible apply Upd.ite
    | with_reducible apply Upd.comp (upd_modHalo _ _ _)
    | split)

theorem upd_doHaloConfirmHoldEnd (slot : Fin 8) (x : Fin 2) (c : HaloCmp) (clean : Bool) (s : State) : Upd [.meas, .ev, .sen] s (doHaloConfirmHoldEnd slot x c clean s) := by
  unfold doHaloConfirmHoldEnd
  repeat' (first
    | with_reducible assumption
    | with_reducible exact Upd.refl _ _
    | (show subParts _ _ = true; rfl)
    | with_reducible apply Upd.ite
    | with_reducible apply Upd.comp (upd_haloSubst _ _ _)
    | with_reducible apply Upd.comp (upd_holdDone _ _ _)
    | with_reducible apply Upd.comp (upd_modHalo _ _ _)
    | with_reducible apply Upd.comp (upd_raise _ _ _ _ _)
    | with_reducible apply Upd.comp (upd_chargeSpare _ _ _ _)
    | split)

theorem upd_doHaloReturn (slot : Fin 8) (x : Fin 2) (s : State) : Upd [.meas, .ev, .sen] s (doHaloReturn slot x s) := by
  unfold doHaloReturn
  repeat' (first
    | with_reducible assumption
    | with_reducible exact Upd.refl _ _
    | (show subParts _ _ = true; rfl)
    | with_reducible apply Upd.ite
    | with_reducible apply Upd.comp (upd_modHalo _ _ _)
    | with_reducible apply Upd.comp (upd_raise _ _ _ _ _)
    | split)

theorem upd_doHaloStep (slot : Fin 8) (s : State) : Upd [.meas, .ev, .sen] s (doHaloStep slot s) := by
  unfold doHaloStep
  repeat' (first
    | with_reducible assumption
    | with_reducible exact Upd.refl _ _
    | (show subParts _ _ = true; rfl)
    | with_reducible apply Upd.ite
    | with_reducible apply Upd.comp (upd_modHalo _ _ _)
    | with_reducible apply Upd.comp (upd_haloSuspend _ _)
    | with_reducible apply Upd.comp (upd_raiseIf _ _ _ _ _ _)
    | split)

theorem upd_haloDrop (slot : Fin 8) (s : State) : Upd [.meas] s (haloDrop slot s) := by
  unfold haloDrop
  repeat' (first
    | with_reducible assumption
    | with_reducible exact Upd.refl _ _
    | (show subParts _ _ = true; rfl)
    | with_reducible apply Upd.ite
    | with_reducible apply Upd.comp (upd_modHalo _ _ _)
    | split)

theorem upd_execHaloJudge (slot : Fin 8) (x : Fin 2) (c : HaloCmp) (s : State) : ∃ u, execHaloJudge slot x c s = .next u ∧ Upd [.meas, .ev, .sen] s u := by
  unfold execHaloJudge
  refine ⟨_, rfl, ?_⟩
  repeat' (first
    | with_reducible assumption
    | with_reducible exact Upd.refl _ _
    | (show subParts _ _ = true; rfl)
    | with_reducible apply Upd.ite
    | with_reducible apply Upd.comp (upd_modHalo _ _ _)
    | with_reducible apply Upd.comp (upd_raise _ _ _ _ _)
    | (extract_lets +onlyGivenNames x; first
        | (refine Upd.cut (P := [.meas, .ev, .sen]) (s := s) (x := x) ?_ ?_; (revert x; change Upd _ _ _); rotate_left; intro hx; clear_value x)
        | (refine Upd.cutL (P := [.meas, .ev, .sen]) (s := s) (x := x) ?_ ?_; (revert x; change Upd _ _ _); rotate_left; intro hx; clear_value x)
        | (refine Upd.cutR (P := [.meas, .ev, .sen]) (s := s) (x := x) ?_ ?_; (revert x; change Upd _ _ _); rotate_left; intro hx; clear_value x)
        | clear_value x)
    | split)

theorem upd_execHeadExcDetect (slot : Fin 8) (c : Fin 28) (fail : Bool) (s : State) : ∃ u, execHeadExcDetect slot c fail s = .next u ∧ Upd [.heads] s u := by
  unfold execHeadExcDetect
  refine ⟨_, rfl, ?_⟩
  repeat' (first
    | with_reducible assumption
    | with_reducible exact Upd.refl _ _
    | (show subParts _ _ = true; rfl)
    | with_reducible apply Upd.ite
    | with_reducible apply Upd.comp (upd_modHead _ _ _)
    | split)

theorem upd_haloAdopt (slot : Fin 8) (serial : Nat) (s : State) : Upd [.meas] s (haloAdopt slot serial s) := by
  unfold haloAdopt
  repeat' (first
    | with_reducible assumption
    | with_reducible exact Upd.refl _ _
    | (show subParts _ _ = true; rfl)
    | with_reducible apply Upd.ite
    | with_reducible apply Upd.comp (upd_modHalo _ _ _)
    | split)

end Sys2Proof.Machine
end

