-- ==== Sys2Proof/Laws/UpdPointLink.lean ====
section
/-! SUPPORT. What the operations of Machine/PointLink.lean change: one lemma for each, that its result differs from its state at most in the parts named,
and that what only grows has not gone back. -/

namespace Sys2Proof.Machine

theorem upd_admitHead (slot : Fin 8) (s : State) : Upd [.ports, .meas, .pmet, .cp, .plc, .pipes, .ev, .sen] s (admitHead slot s) := by
  unfold admitHead
  repeat' (first
    | with_reducible assumption
    | with_reducible exact Upd.refl _ _
    | (show subParts _ _ = true; rfl)
    | with_reducible apply Upd.ite
    | (with_reducible apply Upd.foldl; intro u a hu)
    | with_reducible apply Upd.comp (upd_modPort _ _ _)
    | with_reducible apply Upd.comp (upd_modPmet _ _ _)
    | with_reducible apply Upd.comp (upd_modCp _ _ _)
    | with_reducible apply Upd.comp (upd_raise _ _ _ _ _)
    | with_reducible apply Upd.comp (upd_setPst _ _ _)
    | with_reducible apply Upd.comp (upd_pipesAdmit _ _ _)
    | with_reducible apply Upd.comp (upd_haloAdmit _ _)
    | split)

theorem upd_pairFail (slot : Fin 8) (step : Nat) (s : State) : Upd [.ports, .ev, .sen] s (pairFail slot step s) := by
  unfold pairFail
  repeat' (first
    | with_reducible assumption
    | with_reducible exact Upd.refl _ _
    | (show subParts _ _ = true; rfl)
    | with_reducible apply Upd.ite
    | with_reducible apply Upd.comp (upd_modPort _ _ _)
    | with_reducible apply Upd.comp (upd_raise _ _ _ _ _)
    | split)

theorem upd_tamperSlotChange (slot : Fin 8) (s : State) : Upd [.tamper] s (tamperSlotChange slot s) := by
  unfold tamperSlotChange
  repeat' (first
    | with_reducible assumption
    | with_reducible exact Upd.refl _ _
    | (show subParts _ _ = true; rfl)
    | with_reducible apply Upd.ite
    | with_reducible apply Upd.comp (upd_modTamper _ _)
    | split)

theorem upd_announce (slot : Fin 8) (serial : Nat) (s : State) : Upd [.ports, .ev, .sen, .tamper, .freeCtr] s (announce slot serial s) := by
  unfold announce
  repeat' (first
    | with_reducible assumption
    | with_reducible exact Upd.refl _ _
    | (show subParts _ _ = true; rfl)
    | with_reducible apply Upd.ite
    | with_reducible apply Upd.comp (upd_modPort _ _ _)
    | with_reducible apply Upd.comp (upd_pairFail _ _ _)
    | with_reducible apply Upd.comp (upd_drbgDraw _ _)
    | with_reducible apply Upd.comp (upd_tamperSlotChange _ _)
    | with_reducible apply Upd.comp (upd_raise _ _ _ _ _)
    | split)

theorem upd_portBoundary (s : State) : Upd [.ports, .ev, .sen] s (portBoundary s) := by
  unfold portBoundary
  repeat' (first
    | with_reducible assumption
    | with_reducible exact Upd.refl _ _
    | (show subParts _ _ = true; rfl)
    | with_reducible apply Upd.ite
    | (with_reducible apply Upd.foldl; intro u a hu)
    | with_reducible apply Upd.comp (upd_modPort _ _ _)
    | with_reducible apply Upd.comp (upd_raiseIf _ _ _ _ _ _)
    | split)

theorem upd_crcError (slot : Fin 8) (s : State) : Upd [.ports] s (crcError slot s) := by
  unfold crcError
  repeat' (first
    | with_reducible assumption
    | with_reducible exact Upd.refl _ _
    | (show subParts _ _ = true; rfl)
    | with_reducible apply Upd.ite
    | with_reducible apply Upd.comp (upd_modPort _ _ _)
    | split)

theorem upd_doSlowEnd (slot : Fin 8) (s : State) : Upd [.ports, .meas, .ev, .sen] s (doSlowEnd slot s) := by
  unfold doSlowEnd
  repeat' (first
    | with_reducible assumption
    | with_reducible exact Upd.refl _ _
    | (show subParts _ _ = true; rfl)
    | with_reducible apply Upd.ite
    | with_reducible apply Upd.comp (upd_modPort _ _ _)
    | with_reducible apply Upd.comp (upd_raise _ _ _ _ _)
    | with_reducible apply Upd.comp (upd_modHalo _ _ _)
    | split)

theorem upd_execCheckStepEnd (slot : Fin 8) (s : State) : ∃ u, execCheckStepEnd slot s = .next u ∧ Upd [.ports, .ev, .sen] s u := by
  unfold execCheckStepEnd
  refine ⟨_, rfl, ?_⟩
  repeat' (first
    | with_reducible assumption
    | with_reducible exact Upd.refl _ _
    | (show subParts _ _ = true; rfl)
    | with_reducible apply Upd.ite
    | with_reducible apply Upd.comp (upd_modPort _ _ _)
    | with_reducible apply Upd.comp (upd_raise _ _ _ _ _)
    | split)

theorem upd_portRetry (slot : Fin 8) (s : State) : Upd [.ports] s (portRetry slot s) := by
  unfold portRetry
  repeat' (first
    | with_reducible assumption
    | with_reducible exact Upd.refl _ _
    | (show subParts _ _ = true; rfl)
    | with_reducible apply Upd.ite
    | with_reducible apply Upd.comp (upd_modPort _ _ _)
    | split)

theorem upd_execHeadSelfTestTimeout (slot : Fin 8) (s : State) : ∃ u, execHeadSelfTestTimeout slot s = .next u ∧ Upd [.ports, .ev, .sen] s u := by
  unfold execHeadSelfTestTimeout
  refine ⟨_, rfl, ?_⟩
  repeat' (first
    | with_reducible assumption
    | with_reducible exact Upd.refl _ _
    | (show subParts _ _ = true; rfl)
    | with_reducible apply Upd.ite
    | with_reducible apply Upd.comp (upd_modPort _ _ _)
    | with_reducible apply Upd.comp (upd_raise _ _ _ _ _)
    | split)

theorem upd_lossGap (i : Fin 32) (s : State) : Upd [.pmet] s (lossGap i s).1 := by
  unfold lossGap
  repeat' (first
    | with_reducible assumption
    | with_reducible exact Upd.refl _ _
    | (show subParts _ _ = true; rfl)
    | with_reducible apply Upd.ite
    | with_reducible apply Upd.comp (upd_modPmet _ _ _)
    | split)

theorem upd_tickEvents (slot : Fin 8) (k : Nat) (kinds : List Nat) (closedGaps : List Nat) (s : State) : Upd [.ports, .ev, .sen] s (tickEvents slot k kinds closedGaps s) := by
  unfold tickEvents
  repeat' (first
    | with_reducible assumption
    | with_reducible exact Upd.refl _ _
    | (show subParts _ _ = true; rfl)
    | with_reducible apply Upd.ite
    | (with_reducible apply Upd.foldl; intro u a hu)
    | with_reducible apply Upd.comp (upd_modPort _ _ _)
    | with_reducible apply Upd.comp (upd_raiseIf _ _ _ _ _ _)
    | with_reducible apply Upd.comp (upd_raise _ _ _ _ _)
    | split)

theorem upd_headLost_modHaloOff (slot : Fin 8) (s : State) : Upd [.meas] s (headLost.modHaloOff slot s) := by
  unfold headLost.modHaloOff
  repeat' (first
    | with_reducible assumption
    | with_reducible exact Upd.refl _ _
    | (show subParts _ _ = true; rfl)
    | with_reducible apply Upd.ite
    | with_reducible apply Upd.comp (upd_modHalo _ _ _)
    | split)

theorem upd_tamperRemoval (slot : Fin 8) (s : State) : Upd [.tamper] s (tamperRemoval slot s) := by
  unfold tamperRemoval
  repeat' (first
    | with_reducible assumption
    | with_reducible exact Upd.refl _ _
    | (show subParts _ _ = true; rfl)
    | with_reducible apply Upd.ite
    | with_reducible apply Upd.comp (upd_modTamper _ _)
    | split)

theorem upd_headLost (slot : Fin 8) (reason : Nat) (s : State) : Upd [.ports, .meas, .pmet, .safe, .psafe, .cp, .plc, .pipes, .ses, .ev, .sen, .tamper] s (headLost slot reason s) := by
  unfold headLost
  repeat' (first
    | with_reducible assumption
    | with_reducible exact Upd.refl _ _
    | (show subParts _ _ = true; rfl)
    | with_reducible apply Upd.ite
    | (with_reducible apply Upd.foldlL; intro u a hu)
    | with_reducible apply Upd.comp (upd_modPmet _ _ _)
    | with_reducible apply Upd.comp (upd_modPort _ _ _)
    | with_reducible apply Upd.comp (upd_modPipes _ _ _)
    | with_reducible apply Upd.comp (upd_lossGap _ _)
    | with_reducible apply Upd.comp (upd_slacIdle _ _)
    | with_reducible apply Upd.comp (upd_endSes _ _ _)
    | with_reducible apply Upd.comp (upd_withdraw _ _)
    | with_reducible apply Upd.comp (upd_toSafeSt _ _ _)
    | with_reducible apply Upd.comp (upd_tickEvents _ _ _ _ _)
    | with_reducible apply Upd.comp (upd_haloDrop _ _)
    | with_reducible apply Upd.comp (upd_headLost_modHaloOff _ _)
    | with_reducible apply Upd.comp (upd_raise _ _ _ _ _)
    | with_reducible apply Upd.comp (upd_tamperRemoval _ _)
    | split)

theorem upd_execHeadSilenceLoss (slot : Fin 8) (s : State) : ∃ u, execHeadSilenceLoss slot s = .next u ∧ Upd [.ports, .meas, .pmet, .safe, .psafe, .cp, .plc, .pipes, .ses, .ev, .sen, .tamper] s u := by
  unfold execHeadSilenceLoss
  refine ⟨_, rfl, ?_⟩
  repeat' (first
    | with_reducible assumption
    | with_reducible exact Upd.refl _ _
    | (show subParts _ _ = true; rfl)
    | with_reducible apply Upd.ite
    | with_reducible apply Upd.comp (upd_modPort _ _ _)
    | with_reducible apply Upd.comp (upd_headLost _ _ _)
    | split)

theorem upd_execPairingTimeout (slot : Fin 8) (s : State) : ∃ u, execPairingTimeout slot s = .next u ∧ Upd [.ports, .ev, .sen] s u := by
  unfold execPairingTimeout
  refine ⟨_, rfl, ?_⟩
  repeat' (first
    | with_reducible assumption
    | with_reducible exact Upd.refl _ _
    | (show subParts _ _ = true; rfl)
    | with_reducible apply Upd.ite
    | with_reducible apply Upd.comp (upd_pairFail _ _ _)
    | split)

theorem upd_execSlowTimeout (slot : Fin 8) (s : State) : ∃ u, execSlowTimeout slot s = .next u ∧ Upd [.ports, .meas, .pmet, .safe, .psafe, .cp, .plc, .pipes, .ses, .ev, .sen, .tamper] s u := by
  unfold execSlowTimeout
  refine ⟨_, rfl, ?_⟩
  repeat' (first
    | with_reducible assumption
    | with_reducible exact Upd.refl _ _
    | (show subParts _ _ = true; rfl)
    | with_reducible apply Upd.ite
    | with_reducible apply Upd.comp (upd_headLost _ _ _)
    | split)

theorem upd_execStatusMissingWithdraw (slot : Fin 8) (s : State) : ∃ u, execStatusMissingWithdraw slot s = .next u ∧ Upd [.safe, .psafe, .cp] s u := by
  unfold execStatusMissingWithdraw
  refine ⟨_, rfl, ?_⟩
  repeat' (first
    | with_reducible assumption
    | with_reducible exact Upd.refl _ _
    | (show subParts _ _ = true; rfl)
    | with_reducible apply Upd.ite
    | with_reducible apply Upd.comp (upd_stopHead _ _ _)
    | split)

theorem upd_pointTick (i : Fin 32) (k : Nat) (cur : List Rat) (vol : List Rat) (ovr : Bool) (s : State) : Upd [.pmet] s (pointTick i k cur vol ovr s).1 := by
  unfold pointTick
  repeat' (first
    | with_reducible assumption
    | with_reducible exact Upd.refl _ _
    | (show subParts _ _ = true; rfl)
    | with_reducible apply Upd.ite
    | with_reducible apply Upd.comp (upd_modPmet _ _ _)
    | split)

theorem upd_pointMiss (i : Fin 32) (k : Nat) (s : State) : Upd [.pmet] s (pointMiss i k s).1 := by
  unfold pointMiss
  repeat' (first
    | with_reducible assumption
    | with_reducible exact Upd.refl _ _
    | (show subParts _ _ = true; rfl)
    | with_reducible apply Upd.ite
    | with_reducible apply Upd.comp (upd_modPmet _ _ _)
    | split)

theorem upd_headTick (slot : Fin 8) (k : Nat) (usable : Fin 32 → Option (List Rat × List Rat × Bool)) (s : State) : Upd [.ports, .pmet, .ev, .sen] s (headTick slot k usable s) := by
  unfold headTick
  repeat' (first
    | with_reducible assumption
    | with_reducible exact Upd.refl _ _
    | (show subParts _ _ = true; rfl)
    | with_reducible apply Upd.ite
    | (with_reducible apply Upd.foldlL; intro u a hu)
    | with_reducible apply Upd.comp (upd_pointTick _ _ _ _ _ _)
    | with_reducible apply Upd.comp (upd_pointMiss _ _ _)
    | with_reducible apply Upd.comp (upd_tickEvents _ _ _ _ _)
    | split)

theorem upd_headMiss (slot : Fin 8) (k : Nat) (s : State) : Upd [.ports, .meas, .pmet, .plc, .ses, .ev, .sen] s (headMiss slot k s) := by
  unfold headMiss
  repeat' (first
    | with_reducible assumption
    | with_reducible exact Upd.refl _ _
    | (show subParts _ _ = true; rfl)
    | with_reducible apply Upd.ite
    | (with_reducible apply Upd.foldl; intro u a hu)
    | with_reducible apply Upd.comp (upd_modMeas _ _ _)
    | with_reducible apply Upd.comp (upd_modPort _ _ _)
    | with_reducible apply Upd.comp (upd_headTick _ _ _ _)
    | with_reducible apply Upd.comp (upd_slacIdle _ _)
    | with_reducible apply Upd.comp (upd_endSes _ _ _)
    | with_reducible apply Upd.comp (upd_haloDrop _ _)
    | with_reducible apply Upd.comp (upd_raise _ _ _ _ _)
    | split)

theorem upd_execUpstreamDeadline (slot : Fin 8) (s : State) : ∃ u, execUpstreamDeadline slot s = .next u ∧ Upd [.ports, .meas, .pmet, .plc, .ses, .ev, .sen] s u := by
  unfold execUpstreamDeadline
  refine ⟨_, rfl, ?_⟩
  repeat' (first
    | with_reducible assumption
    | with_reducible exact Upd.refl _ _
    | (show subParts _ _ = true; rfl)
    | with_reducible apply Upd.ite
    | with_reducible apply Upd.comp (upd_modPort _ _ _)
    | with_reducible apply Upd.comp (upd_headMiss _ _ _)
    | split)

theorem upd_pairFrame (slot : Fin 8) (ws : List W32) (s : State) : Upd [.ports, .meas, .ev, .sen] s (pairFrame slot ws s) := by
  unfold pairFrame
  repeat' (first
    | with_reducible assumption
    | with_reducible exact Upd.refl _ _
    | (show subParts _ _ = true; rfl)
    | with_reducible apply Upd.ite
    | with_reducible apply Upd.comp (upd_modPort _ _ _)
    | with_reducible apply Upd.comp (upd_pairFail _ _ _)
    | with_reducible apply Upd.comp (upd_haloAdopt _ _ _)
    | split)

theorem upd_takeStatus (slot : Fin 8) (st : List W32) (s : State) : Upd [.ports, .psafe, .cp, .plc, .pipes, .ev, .sen] s (takeStatus slot st s) := by
  unfold takeStatus
  repeat' (first
    | with_reducible assumption
    | with_reducible exact Upd.refl _ _
    | (show subParts _ _ = true; rfl)
    | with_reducible apply Upd.ite
    | (with_reducible apply Upd.foldl; intro u a hu)
    | with_reducible apply Upd.comp (upd_modPort _ _ _)
    | with_reducible apply Upd.comp (upd_modCp _ _ _)
    | with_reducible apply Upd.comp (upd_modPsafe _ _ _)
    | with_reducible apply Upd.comp (upd_unstop _ _)
    | with_reducible apply Upd.comp (upd_pipeStatus _ _)
    | with_reducible apply Upd.comp (upd_raiseIf _ _ _ _ _ _)
    | split)

theorem upd_selfTest (slot : Fin 8) (s : State) : Upd [.ports, .ev, .sen] s (selfTest slot s) := by
  unfold selfTest
  repeat' (first
    | with_reducible assumption
    | with_reducible exact Upd.refl _ _
    | (show subParts _ _ = true; rfl)
    | with_reducible apply Upd.ite
    | with_reducible apply Upd.comp (upd_modPort _ _ _)
    | with_reducible apply Upd.comp (upd_raise _ _ _ _ _)
    | split)

theorem upd_takeSamples (slot : Fin 8) (k : Nat) (blk : List W32) (echo : Nat) (s : State) : Upd [.ports, .meas, .pmet, .safe, .psafe, .cp, .ses, .ev, .sen, .tamper] s (takeSamples slot k blk echo s) := by
  unfold takeSamples
  repeat' (first
    | with_reducible assumption
    | with_reducible exact Upd.refl _ _
    | (show subParts _ _ = true; rfl)
    | with_reducible apply Upd.ite
    | (with_reducible apply Upd.foldl; intro u a hu)
    | with_reducible apply Upd.comp (upd_modPort _ _ _)
    | with_reducible apply Upd.comp (upd_chanFlags _ _ _ _ _)
    | with_reducible apply Upd.comp (upd_modChan _ _ _ _)
    | with_reducible apply Upd.comp (upd_headTick _ _ _ _)
    | split)

theorem upd_lenError (slot : Fin 8) (len : Nat) (s : State) : Upd [.ports, .ev, .sen] s (lenError slot len s) := by
  unfold lenError
  repeat' (first
    | with_reducible assumption
    | with_reducible exact Upd.refl _ _
    | (show subParts _ _ = true; rfl)
    | with_reducible apply Upd.ite
    | with_reducible apply Upd.comp (upd_modPort _ _ _)
    | with_reducible apply Upd.comp (upd_raiseIf _ _ _ _ _ _)
    | split)

theorem upd_takeFrame (slot : Fin 8) (k : Nat) (ws : List W32) (s : State) : Upd [.ports, .meas, .pmet, .safe, .psafe, .cp, .plc, .pipes, .ses, .ev, .sen, .tamper] s (takeFrame slot k ws s) := by
  unfold takeFrame
  repeat' (first
    | with_reducible assumption
    | with_reducible exact Upd.refl _ _
    | (show subParts _ _ = true; rfl)
    | with_reducible apply Upd.ite
    | with_reducible apply Upd.comp (upd_modPort _ _ _)
    | with_reducible apply Upd.comp (upd_takeStatus _ _ _)
    | with_reducible apply Upd.comp (upd_selfTest _ _)
    | with_reducible apply Upd.comp (upd_takeSamples _ _ _ _ _)
    | with_reducible apply Upd.comp (upd_lenError _ _ _)
    | with_reducible apply Upd.comp (upd_headMiss _ _ _)
    | split)

theorem upd_seqError (slot : Fin 8) (s : State) : Upd [.ports] s (seqError slot s) := by
  unfold seqError
  repeat' (first
    | with_reducible assumption
    | with_reducible exact Upd.refl _ _
    | (show subParts _ _ = true; rfl)
    | with_reducible apply Upd.ite
    | with_reducible apply Upd.comp (upd_modPort _ _ _)
    | split)

theorem upd_execUpstreamFrame (slot : Fin 8) (ws : List W32) (framed : Bool) (s : State) : ∃ u, execUpstreamFrame slot ws framed s = .next u ∧ Upd [.ports, .meas, .pmet, .safe, .psafe, .cp, .plc, .pipes, .ses, .ev, .sen, .tamper, .freeCtr] s u := by
  unfold execUpstreamFrame
  refine ⟨_, rfl, ?_⟩
  repeat' (first
    | with_reducible assumption
    | with_reducible exact Upd.refl _ _
    | (show subParts _ _ = true; rfl)
    | with_reducible apply Upd.ite
    | with_reducible apply Upd.comp (upd_modPort _ _ _)
    | with_reducible apply Upd.comp (upd_crcError _ _)
    | with_reducible apply Upd.comp (upd_announce _ _ _)
    | with_reducible apply Upd.comp (upd_pairFrame _ _ _)
    | with_reducible apply Upd.comp (upd_headLost _ _ _)
    | with_reducible apply Upd.comp (upd_takeFrame _ _ _ _)
    | with_reducible apply Upd.comp (upd_seqError _ _)
    | (extract_lets +onlyGivenNames x; first
        | (refine Upd.cut (P := [.ports, .meas, .pmet, .safe, .psafe, .cp, .plc, .pipes, .ses, .ev, .sen, .tamper, .freeCtr]) (s := s) (x := x) ?_ ?_; (revert x; change Upd _ _ _); rotate_left; intro hx; clear_value x)
        | (refine Upd.cutL (P := [.ports, .meas, .pmet, .safe, .psafe, .cp, .plc, .pipes, .ses, .ev, .sen, .tamper, .freeCtr]) (s := s) (x := x) ?_ ?_; (revert x; change Upd _ _ _); rotate_left; intro hx; clear_value x)
        | (refine Upd.cutR (P := [.ports, .meas, .pmet, .safe, .psafe, .cp, .plc, .pipes, .ses, .ev, .sen, .tamper, .freeCtr]) (s := s) (x := x) ?_ ?_; (revert x; change Upd _ _ _); rotate_left; intro hx; clear_value x)
        | clear_value x)
    | split)

end Sys2Proof.Machine
end

