-- ==== Sys2Proof/Laws/UpdSessions.lean ====
section
/-! SUPPORT. What the operations of Machine/Sessions.lean change: one lemma for each, that its result differs from its state at most in the parts named,
and that what only grows has not gone back. -/

namespace Sys2Proof.Machine

theorem upd_sesBoundary (s : State) : Upd [.ses] s (sesBoundary s) := by
  unfold sesBoundary
  repeat' (first
    | with_reducible assumption
    | with_reducible exact Upd.refl _ _
    | (show subParts _ _ = true; rfl)
    | with_reducible apply Upd.ite
    | (with_reducible apply Upd.foldl; intro u a hu)
    | with_reducible apply Upd.comp (upd_modSes _ _ _)
    | split)

theorem upd_contractCheck (i : Fin 32) (c : Chain) (s : State) : Upd [.ses, .ev, .sen] s (contractCheck i c s).2 := by
  unfold contractCheck
  repeat' (first
    | with_reducible assumption
    | with_reducible exact Upd.refl _ _
    | (show subParts _ _ = true; rfl)
    | with_reducible apply Upd.ite
    | with_reducible apply Upd.comp (upd_modSes _ _ _)
    | with_reducible apply Upd.comp (upd_raise _ _ _ _ _)
    | (extract_lets +onlyGivenNames x; first
        | (refine Upd.cut (P := [.ses, .ev, .sen]) (s := s) (x := x) ?_ ?_; (revert x; change Upd _ _ _); rotate_left; intro hx; clear_value x)
        | (refine Upd.cutL (P := [.ses, .ev, .sen]) (s := s) (x := x) ?_ ?_; (revert x; change Upd _ _ _); rotate_left; intro hx; clear_value x)
        | (refine Upd.cutR (P := [.ses, .ev, .sen]) (s := s) (x := x) ?_ ?_; (revert x; change Upd _ _ _); rotate_left; intro hx; clear_value x)
        | clear_value x)
    | split)

theorem upd_contractReady (i : Fin 32) (s : State) : Upd [.ses, .auth] s (contractReady i s) := by
  unfold contractReady
  repeat' (first
    | with_reducible assumption
    | with_reducible exact Upd.refl _ _
    | (show subParts _ _ = true; rfl)
    | with_reducible apply Upd.ite
    | with_reducible apply Upd.comp (upd_modSes _ _ _)
    | with_reducible apply Upd.comp (upd_authReady _ _ _ _ _)
    | split)

theorem upd_vehicleFault (i : Fin 32) (s : State) : Upd [.keys, .cp, .plc, .ses, .sesSys, .ev, .sen] s (vehicleFault i s) := by
  unfold vehicleFault
  repeat' (first
    | with_reducible assumption
    | with_reducible exact Upd.refl _ _
    | (show subParts _ _ = true; rfl)
    | with_reducible apply Upd.ite
    | with_reducible apply Upd.comp (upd_strike _ _)
    | with_reducible apply Upd.comp (upd_endSes _ _ _)
    | split)

theorem upd_protocolFail (i : Fin 32) (kind : Nat) (code : Nat) (ms : Nat) (s : State) : Upd [.keys, .ports, .cp, .plc, .ses, .sesSys, .ev, .sen] s (protocolFail i kind code ms s) := by
  unfold protocolFail
  repeat' (first
    | with_reducible assumption
    | with_reducible exact Upd.refl _ _
    | (show subParts _ _ = true; rfl)
    | with_reducible apply Upd.ite
    | with_reducible apply Upd.comp (upd_vehicleFault _ _)
    | with_reducible apply Upd.comp (upd_respond _ _ _ _ _ _ _)
    | split)

theorem upd_request {P : List Part} {s0 : State} (i : Fin 32) (kind : Nat) (sid : Option Nat) (stages : List Stage) (ms : Nat)
    (f : State → State) (s : State) (hs : subParts [.keys, .ports, .cp, .plc, .ses, .sesSys, .ev, .sen] P = true) (hf : ∀ t, Upd P s0 t → Upd P s0 (f t))
    (h : Upd P s0 s) : Upd P s0 (request i kind sid stages ms f s) := by
  unfold request
  have h1 := Upd.comp2 (upd_modSes i (fun x => { x with retrans := 0 }) s) (by decide) hs h
  exact Upd.ite h (Upd.ite (Upd.comp2 (upd_protocolFail _ _ _ _ _) (by rfl) hs h1)
    (Upd.ite (Upd.comp2 (upd_protocolFail _ _ _ _ _) (by rfl) hs h1) (hf _ h1)))

theorem upd_execAuthorizationReq (point : Fin 32) (sid : Nat) (chain : Option Chain) (sigOk : Bool) (ms : Nat) (s : State) : ∃ u, execAuthorizationReq point sid chain sigOk ms s = .next u ∧ Upd [.keys, .ports, .cp, .plc, .ses, .sesSys, .auth, .ev, .sen] s u := by
  unfold execAuthorizationReq
  refine ⟨_, rfl, ?_⟩
  dsimp only
  repeat' (first
    | with_reducible assumption
    | with_reducible exact Upd.refl _ _
    | (show subParts _ _ = true; rfl)
    | with_reducible apply Upd.ite
    | with_reducible apply Upd.comp (upd_modSes _ _ _)
    | with_reducible apply upd_request
    | with_reducible apply Upd.comp (upd_closeConn _ _)
    | with_reducible apply Upd.comp (upd_respond _ _ _ _ _ _ _)
    | with_reducible apply Upd.comp (upd_placeJobs _ _ _ _)
    | with_reducible apply Upd.comp (upd_contractReady _ _)
    | with_reducible apply Upd.comp (upd_contractCheck _ _ _)
    | with_reducible apply Upd.comp (Upd.eqR (upd_contractCheck _ _ _ ) (by with_reducible assumption))
    | split
    | intro _ _)

theorem upd_execCertificateInstallationReq (point : Fin 32) (sid : Nat) (ms : Nat) (s : State) : ∃ u, execCertificateInstallationReq point sid ms s = .next u ∧ Upd [.keys, .ports, .cp, .plc, .ses, .sesSys, .ev, .sen] s u := by
  unfold execCertificateInstallationReq
  refine ⟨_, rfl, ?_⟩
  repeat' (first
    | with_reducible assumption
    | with_reducible exact Upd.refl _ _
    | (show subParts _ _ = true; rfl)
    | with_reducible apply Upd.ite
    | with_reducible apply upd_request
    | with_reducible apply Upd.comp (upd_respond _ _ _ _ _ _ _)
    | split
    | intro _ _)

theorem upd_setVehRequest (i : Fin 32) (s : State) : Upd [.cp] s (setVehRequest i s) := by
  unfold setVehRequest
  repeat' (first
    | with_reducible assumption
    | with_reducible exact Upd.refl _ _
    | (show subParts _ _ = true; rfl)
    | with_reducible apply Upd.ite
    | with_reducible apply Upd.comp (upd_modCp _ _ _)
    | split)

theorem upd_execChargeLoopReq (point : Fin 32) (sid : Nat) (maxP : Nat) (maxDis : Nat) (ms : Nat) (s : State) : ∃ u, execChargeLoopReq point sid maxP maxDis ms s = .next u ∧ Upd [.keys, .ports, .cp, .plc, .ses, .sesSys, .ev, .sen] s u := by
  unfold execChargeLoopReq
  refine ⟨_, rfl, ?_⟩
  repeat' (first
    | with_reducible assumption
    | with_reducible exact Upd.refl _ _
    | (show subParts _ _ = true; rfl)
    | with_reducible apply Upd.ite
    | with_reducible apply Upd.comp (upd_modSes _ _ _)
    | with_reducible apply upd_request
    | with_reducible apply Upd.comp (upd_setVehRequest _ _)
    | with_reducible apply Upd.comp (upd_respond _ _ _ _ _ _ _)
    | split
    | intro _ _)

theorem upd_execChargeParameterReq (point : Fin 32) (sid : Nat) (maxI : Nat) (maxP : Nat) (maxDis : Nat) (ms : Nat) (s : State) : ∃ u, execChargeParameterReq point sid maxI maxP maxDis ms s = .next u ∧ Upd [.keys, .ports, .cp, .plc, .ses, .sesSys, .ev, .sen] s u := by
  unfold execChargeParameterReq
  refine ⟨_, rfl, ?_⟩
  repeat' (first
    | with_reducible assumption
    | with_reducible exact Upd.refl _ _
    | (show subParts _ _ = true; rfl)
    | with_reducible apply Upd.ite
    | with_reducible apply Upd.comp (upd_modSes _ _ _)
    | with_reducible apply upd_request
    | with_reducible apply Upd.comp (upd_setVehRequest _ _)
    | with_reducible apply Upd.comp (upd_respond _ _ _ _ _ _ _)
    | split
    | intro _ _)

theorem upd_execConnectTimeout (point : Fin 32) (s : State) : ∃ u, execConnectTimeout point s = .next u ∧ Upd [.keys, .cp, .plc, .ses, .sesSys, .ev, .sen] s u := by
  unfold execConnectTimeout
  refine ⟨_, rfl, ?_⟩
  repeat' (first
    | with_reducible assumption
    | with_reducible exact Upd.refl _ _
    | (show subParts _ _ = true; rfl)
    | with_reducible apply Upd.ite
    | with_reducible apply Upd.comp (upd_strike _ _)
    | split)

theorem upd_execEimWaitExpiry (point : Fin 32) (s : State) : ∃ u, execEimWaitExpiry point s = .next u ∧ Upd [.keys, .ports, .cp, .plc, .ses, .sesSys] s u := by
  unfold execEimWaitExpiry
  refine ⟨_, rfl, ?_⟩
  repeat' (first
    | with_reducible assumption
    | with_reducible exact Upd.refl _ _
    | (show subParts _ _ = true; rfl)
    | with_reducible apply Upd.ite
    | with_reducible apply Upd.comp (upd_modSes _ _ _)
    | with_reducible apply Upd.comp (upd_closeConn _ _)
    | with_reducible apply Upd.comp (upd_sendMessage _ _ _ _)
    | split)

theorem upd_execHandshakeTimeout (point : Fin 32) (s : State) : ∃ u, execHandshakeTimeout point s = .next u ∧ Upd [.keys, .cp, .plc, .ses, .sesSys, .ev, .sen] s u := by
  unfold execHandshakeTimeout
  refine ⟨_, rfl, ?_⟩
  repeat' (first
    | with_reducible assumption
    | with_reducible exact Upd.refl _ _
    | (show subParts _ _ = true; rfl)
    | with_reducible apply Upd.ite
    | with_reducible apply Upd.comp (upd_strike _ _)
    | split)

theorem upd_execMeteringReceiptReq (point : Fin 32) (sid : Nat) (sigOk : Bool) (ms : Nat) (s : State) : ∃ u, execMeteringReceiptReq point sid sigOk ms s = .next u ∧ Upd [.keys, .ports, .cp, .plc, .ses, .sesSys, .ev, .sen] s u := by
  unfold execMeteringReceiptReq
  refine ⟨_, rfl, ?_⟩
  repeat' (first
    | with_reducible assumption
    | with_reducible exact Upd.refl _ _
    | (show subParts _ _ = true; rfl)
    | with_reducible apply Upd.ite
    | with_reducible apply Upd.comp (upd_modSes _ _ _)
    | with_reducible apply upd_request
    | with_reducible apply Upd.comp (upd_placeJobs _ _ _ _)
    | with_reducible apply Upd.comp (upd_respond _ _ _ _ _ _ _)
    | with_reducible apply Upd.comp (upd_endSes _ _ _)
    | split
    | intro _ _)

theorem upd_execNeighbourSolicitation (point : Fin 32) (target : List Nat) (s : State) : ∃ u, execNeighbourSolicitation point target s = .next u ∧ Upd [.ports, .plc] s u := by
  unfold execNeighbourSolicitation
  refine ⟨_, rfl, ?_⟩
  repeat' (first
    | with_reducible assumption
    | with_reducible exact Upd.refl _ _
    | (show subParts _ _ = true; rfl)
    | with_reducible apply Upd.ite
    | with_reducible apply Upd.comp (upd_sendMessage _ _ _ _)
    | split)

theorem upd_execOverdraw (point : Fin 32) (phase : Fin 3) (s : State) : ∃ u, execOverdraw point phase s = .next u ∧ Upd [.psafe, .ses, .ev, .sen] s u := by
  unfold execOverdraw
  refine ⟨_, rfl, ?_⟩
  repeat' (first
    | with_reducible assumption
    | with_reducible exact Upd.refl _ _
    | (show subParts _ _ = true; rfl)
    | with_reducible apply Upd.ite
    | with_reducible apply Upd.comp (upd_modSes _ _ _)
    | with_reducible apply Upd.comp (upd_raise _ _ _ _ _)
    | with_reducible apply Upd.comp (upd_endSes _ _ _)
    | with_reducible apply Upd.comp (upd_openReq _ _)
    | split)

theorem upd_execPaymentDetailsReq (point : Fin 32) (sid : Nat) (chain : Chain) (ms : Nat) (s : State) : ∃ u, execPaymentDetailsReq point sid chain ms s = .next u ∧ Upd [.keys, .ports, .cp, .plc, .ses, .sesSys, .ev, .sen] s u := by
  unfold execPaymentDetailsReq
  refine ⟨_, rfl, ?_⟩
  repeat' (first
    | with_reducible assumption
    | with_reducible exact Upd.refl _ _
    | (show subParts _ _ = true; rfl)
    | with_reducible apply Upd.ite
    | with_reducible apply upd_request
    | with_reducible apply Upd.comp (upd_placeJobs _ _ _ _)
    | with_reducible apply Upd.comp (upd_contractCheck _ _ _)
    | with_reducible apply Upd.comp (upd_respond _ _ _ _ _ _ _)
    | with_reducible apply Upd.comp (upd_closeConn _ _)
    | with_reducible apply Upd.comp (Upd.eqR (upd_contractCheck _ _ _ ) (by with_reducible assumption))
    | (extract_lets +onlyGivenNames x; first
        | (refine Upd.cut (P := [.keys, .ports, .cp, .plc, .ses, .sesSys, .ev, .sen]) (s := s) (x := x) ?_ ?_; (revert x; change Upd _ _ _); rotate_left; intro hx; clear_value x)
        | (refine Upd.cutL (P := [.keys, .ports, .cp, .plc, .ses, .sesSys, .ev, .sen]) (s := s) (x := x) ?_ ?_; (revert x; change Upd _ _ _); rotate_left; intro hx; clear_value x)
        | (refine Upd.cutR (P := [.keys, .ports, .cp, .plc, .ses, .sesSys, .ev, .sen]) (s := s) (x := x) ?_ ?_; (revert x; change Upd _ _ _); rotate_left; intro hx; clear_value x)
        | clear_value x)
    | split
    | intro _ _)

theorem upd_sdpAnswer (i : Fin 32) (tls : Bool) (s : State) : Upd [.ports, .plc, .ses] s (sdpAnswer i tls s) := by
  unfold sdpAnswer
  repeat' (first
    | with_reducible assumption
    | with_reducible exact Upd.refl _ _
    | (show subParts _ _ = true; rfl)
    | with_reducible apply Upd.ite
    | with_reducible apply Upd.comp (upd_modSes _ _ _)
    | with_reducible apply Upd.comp (upd_sendMessage _ _ _ _)
    | split)

theorem upd_execSdpRequest (point : Fin 32) (wantTls : Bool) (tcp : Bool) (malformed : Bool) (s : State) : ∃ u, execSdpRequest point wantTls tcp malformed s = .next u ∧ Upd [.ports, .plc, .ses, .sesSys, .ev, .sen] s u := by
  unfold execSdpRequest
  refine ⟨_, rfl, ?_⟩
  repeat' (first
    | with_reducible assumption
    | with_reducible exact Upd.refl _ _
    | (show subParts _ _ = true; rfl)
    | with_reducible apply Upd.ite
    | with_reducible apply Upd.comp (upd_modSes _ _ _)
    | with_reducible apply Upd.comp (upd_modSesSys _ _)
    | with_reducible apply Upd.comp (upd_sdpAnswer _ _ _)
    | with_reducible apply Upd.comp (upd_freeHandshake _ _)
    | with_reducible apply Upd.comp (upd_raise _ _ _ _ _)
    | split)

theorem upd_execSequenceTimeout (point : Fin 32) (s : State) : ∃ u, execSequenceTimeout point s = .next u ∧ Upd [.keys, .cp, .plc, .ses, .sesSys] s u := by
  unfold execSequenceTimeout
  refine ⟨_, rfl, ?_⟩
  repeat' (first
    | with_reducible assumption
    | with_reducible exact Upd.refl _ _
    | (show subParts _ _ = true; rfl)
    | with_reducible apply Upd.ite
    | with_reducible apply Upd.comp (upd_closeConn _ _)
    | with_reducible apply Upd.comp (upd_endSes _ _ _)
    | split)

theorem upd_execServiceSelectionReq (point : Fin 32) (sid : Nat) (service : Nat) (mode : Nat) (contract : Bool) (ms : Nat) (s : State) : ∃ u, execServiceSelectionReq point sid service mode contract ms s = .next u ∧ Upd [.keys, .ports, .cp, .plc, .ses, .sesSys, .ev, .sen] s u := by
  unfold execServiceSelectionReq
  refine ⟨_, rfl, ?_⟩
  repeat' (first
    | with_reducible assumption
    | with_reducible exact Upd.refl _ _
    | (show subParts _ _ = true; rfl)
    | with_reducible apply Upd.ite
    | with_reducible apply Upd.comp (upd_modSes _ _ _)
    | with_reducible apply upd_request
    | with_reducible apply Upd.comp (upd_respond _ _ _ _ _ _ _)
    | with_reducible apply Upd.comp (upd_endSes _ _ _)
    | split
    | intro _ _)

theorem upd_execSessionSetupReq (point : Fin 32) (ms : Nat) (s : State) : ∃ u, execSessionSetupReq point ms s = .next u ∧ Upd [.keys, .ports, .cp, .plc, .ses, .sesSys, .ev, .sen, .freeCtr] s u := by
  unfold execSessionSetupReq
  refine ⟨_, rfl, ?_⟩
  repeat' (first
    | with_reducible assumption
    | with_reducible exact Upd.refl _ _
    | (show subParts _ _ = true; rfl)
    | with_reducible apply Upd.ite
    | with_reducible apply Upd.comp (upd_modSes _ _ _)
    | with_reducible apply upd_request
    | with_reducible apply Upd.comp (upd_closeConn _ _)
    | with_reducible apply Upd.comp (upd_respond _ _ _ _ _ _ _)
    | with_reducible apply Upd.comp (upd_drbgDraw _ _)
    | split
    | intro _ _)

theorem upd_execSessionStopReq (point : Fin 32) (sid : Nat) (pause : Bool) (ms : Nat) (s : State) : ∃ u, execSessionStopReq point sid pause ms s = .next u ∧ Upd [.keys, .ports, .cp, .plc, .ses, .sesSys, .ev, .sen] s u := by
  unfold execSessionStopReq
  refine ⟨_, rfl, ?_⟩
  repeat' (first
    | with_reducible assumption
    | with_reducible exact Upd.refl _ _
    | (show subParts _ _ = true; rfl)
    | with_reducible apply Upd.ite
    | with_reducible apply Upd.comp (upd_modSes _ _ _)
    | with_reducible apply upd_request
    | with_reducible apply Upd.comp (upd_endSes _ _ _)
    | with_reducible apply Upd.comp (upd_respond _ _ _ _ _ _ _)
    | split
    | intro _ _)

theorem upd_execSupportedAppProtocolReq (point : Fin 32) (entries : List (Nat × Nat)) (ms : Nat) (s : State) : ∃ u, execSupportedAppProtocolReq point entries ms s = .next u ∧ Upd [.keys, .ports, .cp, .plc, .ses, .sesSys, .ev, .sen] s u := by
  unfold execSupportedAppProtocolReq
  refine ⟨_, rfl, ?_⟩
  repeat' (first
    | with_reducible assumption
    | with_reducible exact Upd.refl _ _
    | (show subParts _ _ = true; rfl)
    | with_reducible apply Upd.ite
    | with_reducible apply Upd.comp (upd_modSes _ _ _)
    | with_reducible apply upd_request
    | with_reducible apply Upd.comp (upd_respond _ _ _ _ _ _ _)
    | with_reducible apply Upd.comp (upd_withdrawHlc _ _)
    | (extract_lets +onlyGivenNames x; first
        | (refine Upd.cut (P := [.keys, .ports, .cp, .plc, .ses, .sesSys, .ev, .sen]) (s := s) (x := x) ?_ ?_; (revert x; change Upd _ _ _); rotate_left; intro hx; clear_value x)
        | (refine Upd.cutL (P := [.keys, .ports, .cp, .plc, .ses, .sesSys, .ev, .sen]) (s := s) (x := x) ?_ ?_; (revert x; change Upd _ _ _); rotate_left; intro hx; clear_value x)
        | (refine Upd.cutR (P := [.keys, .ports, .cp, .plc, .ses, .sesSys, .ev, .sen]) (s := s) (x := x) ?_ ?_; (revert x; change Upd _ _ _); rotate_left; intro hx; clear_value x)
        | clear_value x)
    | split
    | intro _ _)

theorem upd_execTcpConnect (point : Fin 32) (port : Nat) (s : State) : ∃ u, execTcpConnect point port s = .next u ∧ Upd [.keys, .ports, .cp, .plc, .ses, .sesSys, .ev, .sen] s u := by
  unfold execTcpConnect
  refine ⟨_, rfl, ?_⟩
  repeat' (first
    | with_reducible assumption
    | with_reducible exact Upd.refl _ _
    | (show subParts _ _ = true; rfl)
    | with_reducible apply Upd.ite
    | with_reducible apply Upd.comp (upd_modSes _ _ _)
    | with_reducible apply Upd.comp (upd_sendMessage _ _ _ _)
    | with_reducible apply Upd.comp (upd_addStrike _ _)
    | split)

theorem upd_tcpLost (i : Fin 32) (s : State) : Upd [.keys, .cp, .plc, .ses, .sesSys, .ev, .sen] s (tcpLost i s) := by
  unfold tcpLost
  repeat' (first
    | with_reducible assumption
    | with_reducible exact Upd.refl _ _
    | (show subParts _ _ = true; rfl)
    | with_reducible apply Upd.ite
    | with_reducible apply Upd.comp (upd_endSes _ _ _)
    | with_reducible apply Upd.comp (upd_strike _ _)
    | with_reducible apply Upd.comp (upd_closeConn _ _)
    | split)

theorem upd_execTcpConnectionLost (point : Fin 32) (s : State) : ∃ u, execTcpConnectionLost point s = .next u ∧ Upd [.keys, .cp, .plc, .ses, .sesSys, .ev, .sen] s u := by
  unfold execTcpConnectionLost
  refine ⟨_, rfl, ?_⟩
  repeat' (first
    | with_reducible assumption
    | with_reducible exact Upd.refl _ _
    | (show subParts _ _ = true; rfl)
    | with_reducible apply Upd.ite
    | with_reducible apply Upd.comp (upd_tcpLost _ _)
    | split)

theorem upd_execTcpRetransmissionTimeout (point : Fin 32) (s : State) : ∃ u, execTcpRetransmissionTimeout point s = .next u ∧ Upd [.keys, .ports, .cp, .plc, .ses, .sesSys, .ev, .sen] s u := by
  unfold execTcpRetransmissionTimeout
  refine ⟨_, rfl, ?_⟩
  repeat' (first
    | with_reducible assumption
    | with_reducible exact Upd.refl _ _
    | (show subParts _ _ = true; rfl)
    | with_reducible apply Upd.ite
    | with_reducible apply Upd.comp (upd_modSes _ _ _)
    | with_reducible apply Upd.comp (upd_sendMessage _ _ _ _)
    | with_reducible apply Upd.comp (upd_tcpLost _ _)
    | split)

theorem upd_tlsFail (i : Fin 32) (alert : Nat) (s : State) : Upd [.keys, .cp, .plc, .ses, .sesSys, .ev, .sen] s (tlsFail i alert s) := by
  unfold tlsFail
  repeat' (first
    | with_reducible assumption
    | with_reducible exact Upd.refl _ _
    | (show subParts _ _ = true; rfl)
    | with_reducible apply Upd.ite
    | with_reducible apply Upd.comp (upd_vehicleFault _ _)
    | with_reducible apply Upd.comp (upd_raise _ _ _ _ _)
    | split)

theorem upd_execTlsAlert (point : Fin 32) (alert : Nat) (s : State) : ∃ u, execTlsAlert point alert s = .next u ∧ Upd [.keys, .cp, .plc, .ses, .sesSys, .ev, .sen] s u := by
  unfold execTlsAlert
  refine ⟨_, rfl, ?_⟩
  repeat' (first
    | with_reducible assumption
    | with_reducible exact Upd.refl _ _
    | (show subParts _ _ = true; rfl)
    | with_reducible apply Upd.ite
    | with_reducible apply Upd.comp (upd_tlsFail _ _ _)
    | split)

theorem upd_tlsAsset (i : Fin 32) (block : Nat) (s : State) : Upd [.keys, .cp, .plc, .ses, .sesSys, .ev, .sen] s (tlsAsset i block s) := by
  unfold tlsAsset
  repeat' (first
    | with_reducible assumption
    | with_reducible exact Upd.refl _ _
    | (show subParts _ _ = true; rfl)
    | with_reducible apply Upd.ite
    | with_reducible apply Upd.comp (upd_tlsFail _ _ _)
    | with_reducible apply Upd.comp (upd_raise _ _ _ _ _)
    | split)

theorem upd_execTlsClientCertificate (point : Fin 32) (chain : Option Chain) (proof : Bool) (s : State) : ∃ u, execTlsClientCertificate point chain proof s = .next u ∧ Upd [.keys, .cp, .plc, .ses, .sesSys, .ev, .sen] s u := by
  unfold execTlsClientCertificate
  refine ⟨_, rfl, ?_⟩
  repeat' (first
    | with_reducible assumption
    | with_reducible exact Upd.refl _ _
    | (show subParts _ _ = true; rfl)
    | with_reducible apply Upd.ite
    | with_reducible apply Upd.comp (upd_modSes _ _ _)
    | with_reducible apply Upd.comp (upd_tlsFail _ _ _)
    | with_reducible apply Upd.comp (upd_placeJobs _ _ _ _)
    | with_reducible apply Upd.comp (upd_tlsAsset _ _ _)
    | (extract_lets +onlyGivenNames x; first
        | (refine Upd.cut (P := [.keys, .cp, .plc, .ses, .sesSys, .ev, .sen]) (s := s) (x := x) ?_ ?_; (revert x; change Upd _ _ _); rotate_left; intro hx; clear_value x)
        | (refine Upd.cutL (P := [.keys, .cp, .plc, .ses, .sesSys, .ev, .sen]) (s := s) (x := x) ?_ ?_; (revert x; change Upd _ _ _); rotate_left; intro hx; clear_value x)
        | (refine Upd.cutR (P := [.keys, .cp, .plc, .ses, .sesSys, .ev, .sen]) (s := s) (x := x) ?_ ?_; (revert x; change Upd _ _ _); rotate_left; intro hx; clear_value x)
        | clear_value x)
    | split)

theorem upd_execTlsClientFinished (point : Fin 32) (ok : Bool) (s : State) : ∃ u, execTlsClientFinished point ok s = .next u ∧ Upd [.keys, .ports, .cp, .plc, .ses, .sesSys, .ev, .sen] s u := by
  unfold execTlsClientFinished
  refine ⟨_, rfl, ?_⟩
  repeat' (first
    | with_reducible assumption
    | with_reducible exact Upd.refl _ _
    | (show subParts _ _ = true; rfl)
    | with_reducible apply Upd.ite
    | with_reducible apply Upd.comp (upd_modSes _ _ _)
    | with_reducible apply Upd.comp (upd_tlsFail _ _ _)
    | with_reducible apply Upd.comp (upd_freeHandshake _ _)
    | with_reducible apply Upd.comp (upd_sendMessage _ _ _ _)
    | split)

theorem upd_serverFlight (i : Fin 32) (tls : Nat) (role : Nat) (s : State) : Upd [.keys, .ports, .cp, .plc, .ses, .sesSys, .ev, .sen, .freeCtr] s (serverFlight i tls role s) := by
  unfold serverFlight
  repeat' (first
    | with_reducible assumption
    | with_reducible exact Upd.refl _ _
    | (show subParts _ _ = true; rfl)
    | with_reducible apply Upd.ite
    | with_reducible apply Upd.comp (upd_modSes _ _ _)
    | with_reducible apply Upd.comp (upd_tlsFail _ _ _)
    | with_reducible apply Upd.comp (upd_drbgDraw _ _)
    | with_reducible apply Upd.comp (upd_transAlloc (by with_reducible assumption))
    | with_reducible apply Upd.comp (upd_stallSession _ _ _)
    | with_reducible apply Upd.comp (upd_placeJobs _ _ _ _)
    | with_reducible apply Upd.comp (upd_sendMessage _ _ _ _)
    | with_reducible apply Upd.comp (Upd.eqR (upd_drbgDraw _ _ ) (by with_reducible assumption))
    | split)

theorem upd_execTlsClientHello (point : Fin 32) (has12 : Bool) (has13 : Bool) (fits : Bool) (share : Bool) (scheme : Nat) (badAsset : Option Nat) (s : State) : ∃ u, execTlsClientHello point has12 has13 fits share scheme badAsset s = .next u ∧ Upd [.keys, .ports, .cp, .plc, .ses, .sesSys, .ev, .sen, .freeCtr] s u := by
  unfold execTlsClientHello
  refine ⟨_, rfl, ?_⟩
  repeat' (first
    | with_reducible assumption
    | with_reducible exact Upd.refl _ _
    | (show subParts _ _ = true; rfl)
    | with_reducible apply Upd.ite
    | with_reducible apply Upd.comp (upd_modSes _ _ _)
    | with_reducible apply Upd.comp (upd_tlsFail _ _ _)
    | with_reducible apply Upd.comp (upd_sendMessage _ _ _ _)
    | with_reducible apply Upd.comp (upd_tlsAsset _ _ _)
    | with_reducible apply Upd.comp (upd_serverFlight _ _ _ _)
    | split)

theorem upd_execTlsClientKeyExchange (point : Fin 32) (peer : List Nat) (s : State) : ∃ u, execTlsClientKeyExchange point peer s = .next u ∧ Upd [.keys, .cp, .plc, .ses, .sesSys, .ev, .sen] s u := by
  unfold execTlsClientKeyExchange
  refine ⟨_, rfl, ?_⟩
  repeat' (first
    | with_reducible assumption
    | with_reducible exact Upd.refl _ _
    | (show subParts _ _ = true; rfl)
    | with_reducible apply Upd.ite
    | with_reducible apply Upd.comp (upd_modSes _ _ _)
    | with_reducible apply Upd.comp (upd_tlsFail _ _ _)
    | with_reducible apply Upd.comp (upd_placeJobs _ _ _ _)
    | split)

theorem upd_execV2gtpProtocolError (point : Fin 32) (kind : Nat) (s : State) : ∃ u, execV2gtpProtocolError point kind s = .next u ∧ Upd [.keys, .cp, .plc, .ses, .sesSys, .ev, .sen] s u := by
  unfold execV2gtpProtocolError
  refine ⟨_, rfl, ?_⟩
  repeat' (first
    | with_reducible assumption
    | with_reducible exact Upd.refl _ _
    | (show subParts _ _ = true; rfl)
    | with_reducible apply Upd.ite
    | with_reducible apply Upd.comp (upd_vehicleFault _ _)
    | with_reducible apply Upd.comp (upd_raise _ _ _ _ _)
    | split)

end Sys2Proof.Machine
end

