-- ==== Sys2Proof/Laws/UpdTagHub.lean ====
section
/-! SUPPORT. What the operations of Machine/TagHub.lean change: one lemma for each, that its result differs from its state at most in the parts named,
and that what only grows has not gone back. -/

namespace Sys2Proof.Machine

theorem upd_putPublic (b : Nat) (fail : Bool) (s : State) : Upd [.tag, .ev, .sen] s (putPublic b fail s) := by
  unfold putPublic
  repeat' (first
    | with_reducible assumption
    | with_reducible exact Upd.refl _ _
    | (show subParts _ _ = true; rfl)
    | with_reducible apply Upd.ite
    | exact (fun _ h => h)
    | with_reducible apply Upd.comp (upd_modTag _ _ ?_)
    | with_reducible apply Upd.comp (upd_raise _ _ _ _ _)
    | with_reducible apply Upd.comp (upd_tagPut _ _ _)
    | split)

theorem upd_tagAtRun (s : State) : Upd [.tag, .ev, .sen] s (tagAtRun s) := by
  unfold tagAtRun
  repeat' (first
    | with_reducible assumption
    | with_reducible exact Upd.refl _ _
    | (show subParts _ _ = true; rfl)
    | with_reducible apply Upd.ite
    | (with_reducible apply Upd.foldl; intro u a hu)
    | exact (fun _ h => h)
    | with_reducible apply Upd.comp (upd_modTag _ _ ?_)
    | with_reducible apply Upd.comp (upd_putResultHeader _ _ _ _ _ _)
    | with_reducible apply Upd.comp (upd_raiseIf _ _ _ _ _ _)
    | with_reducible apply Upd.comp (upd_putDir _ _ _ _ _)
    | with_reducible apply Upd.comp (upd_putPublic _ _ _)
    | split)

theorem upd_execFlipPendingTimeout (w : Fin 8) (s : State) : ∃ u, execFlipPendingTimeout w s = .next u ∧ Upd [.tag, .ev, .sen] s u := by
  unfold execFlipPendingTimeout
  refine ⟨_, rfl, ?_⟩
  repeat' (first
    | with_reducible assumption
    | with_reducible exact Upd.refl _ _
    | (show subParts _ _ = true; rfl)
    | with_reducible apply Upd.ite
    | with_reducible apply Upd.comp (upd_raise _ _ _ _ _)
    | with_reducible apply Upd.comp (upd_modWin8 _ _ _)
    | split)

theorem upd_refuseCell (k : Nat) (s : State) : Upd [.tag, .ev, .sen] s (refuseCell k s) := by
  unfold refuseCell
  repeat' (first
    | with_reducible assumption
    | with_reducible exact Upd.refl _ _
    | (show subParts _ _ = true; rfl)
    | with_reducible apply Upd.ite
    | with_reducible apply Upd.comp (upd_raise _ _ _ _ _)
    | with_reducible apply Upd.comp (upd_putResultHeader _ _ _ _ _ _)
    | split)

theorem upd_execMailboxTake (s : State) : ∃ u, execMailboxTake s = .next u ∧ Upd [.tag, .ev, .sen] s u := by
  unfold execMailboxTake
  refine ⟨_, rfl, ?_⟩
  repeat' (first
    | with_reducible assumption
    | with_reducible exact Upd.refl _ _
    | (show subParts _ _ = true; rfl)
    | with_reducible apply Upd.ite
    | exact (fun _ h => h)
    | with_reducible apply Upd.comp (upd_modTag _ _ ?_)
    | with_reducible apply Upd.comp (upd_refuseCell _ _)
    | with_reducible apply Upd.comp (upd_putResultHeader _ _ _ _ _ _)
    | split)

theorem upd_execPublicAreaUpdate (b : Fin 64) (fail : Bool) (s : State) : ∃ u, execPublicAreaUpdate b fail s = .next u ∧ Upd [.tag, .ev, .sen] s u := by
  unfold execPublicAreaUpdate
  refine ⟨_, rfl, ?_⟩
  repeat' (first
    | with_reducible assumption
    | with_reducible exact Upd.refl _ _
    | (show subParts _ _ = true; rfl)
    | with_reducible apply Upd.ite
    | exact (fun _ h => h)
    | with_reducible apply Upd.comp (upd_modTag _ _ ?_)
    | with_reducible apply Upd.comp (upd_putPublic _ _ _)
    | split)

theorem upd_execWindowFlip (w : Fin 8) (idle : Bool) (fail : Bool) (s : State) : ∃ u, execWindowFlip w idle fail s = .next u ∧ Upd [.tag, .ev, .sen] s u := by
  unfold execWindowFlip
  refine ⟨_, rfl, ?_⟩
  repeat' (first
    | with_reducible assumption
    | with_reducible exact Upd.refl _ _
    | (show subParts _ _ = true; rfl)
    | with_reducible apply Upd.ite
    | with_reducible apply Upd.comp (upd_raise _ _ _ _ _)
    | with_reducible apply Upd.comp (upd_putDir _ _ _ _ _)
    | with_reducible apply Upd.comp (upd_modWin8 _ _ _)
    | (extract_lets +onlyGivenNames x; first
        | (refine Upd.cut (P := [.tag, .ev, .sen]) (s := s) (x := x) ?_ ?_; (revert x; change Upd _ _ _); rotate_left; intro hx; clear_value x)
        | (refine Upd.cutL (P := [.tag, .ev, .sen]) (s := s) (x := x) ?_ ?_; (revert x; change Upd _ _ _); rotate_left; intro hx; clear_value x)
        | (refine Upd.cutR (P := [.tag, .ev, .sen]) (s := s) (x := x) ?_ ?_; (revert x; change Upd _ _ _); rotate_left; intro hx; clear_value x)
        | clear_value x)
    | split)

theorem upd_putFrame (f : Nat) (ws : List W128) (s : State) : Upd [.tag] s (putFrame f ws s) := by
  unfold putFrame
  repeat' (first
    | with_reducible assumption
    | with_reducible exact Upd.refl _ _
    | (show subParts _ _ = true; rfl)
    | with_reducible apply Upd.ite
    | (with_reducible apply Upd.foldl; intro u a hu)
    | with_reducible apply Upd.comp (upd_tagPut _ _ _)
    | split)

theorem upd_execWindowPublish (w : Fin 8) (failBlock : Option Nat) (s : State) : ∃ u, execWindowPublish w failBlock s = .next u ∧ Upd [.tag, .ev, .sen] s u := by
  unfold execWindowPublish
  refine ⟨_, rfl, ?_⟩
  repeat' (first
    | with_reducible assumption
    | with_reducible exact Upd.refl _ _
    | (show subParts _ _ = true; rfl)
    | with_reducible apply Upd.ite
    | exact (fun _ h => h)
    | with_reducible apply Upd.comp (upd_modTag _ _ ?_)
    | with_reducible apply Upd.comp (upd_raise _ _ _ _ _)
    | with_reducible apply Upd.comp (upd_modWin8 _ _ _)
    | with_reducible apply Upd.comp (upd_putFrame _ _ _)
    | split)

theorem upd_execWindowRequest (s : State) : ∃ u, execWindowRequest s = .next u ∧ Upd [.tag, .ev, .sen, .freeCtr] s u := by
  unfold execWindowRequest
  refine ⟨_, rfl, ?_⟩
  repeat' (first
    | with_reducible assumption
    | with_reducible exact Upd.refl _ _
    | (show subParts _ _ = true; rfl)
    | with_reducible apply Upd.ite
    | exact (fun _ h => h)
    | with_reducible apply Upd.comp (upd_modTag _ _ ?_)
    | with_reducible apply Upd.comp (upd_refuseCell _ _)
    | with_reducible apply Upd.comp (upd_assignWindow _ _)
    | with_reducible apply Upd.comp (upd_putResultHeader _ _ _ _ _ _)
    | split)

end Sys2Proof.Machine
end

