-- ==== Sys2Proof/Laws/UpdBoundary.lean ====
section
/-! SUPPORT. What the operations of Machine/Boundary.lean change: one lemma for each, that its result differs from its state at most in the parts named,
and that what only grows has not gone back. -/

namespace Sys2Proof.Machine

theorem upd_rtcActions (s : State) : Upd [.authSys, .led, .ev, .sen] s (rtcActions s) := by
  unfold rtcActions
  repeat' (first
    | with_reducible assumption
    | with_reducible exact Upd.refl _ _
    | (show subParts _ _ = true; rfl)
    | with_reducible apply Upd.ite
    | with_reducible apply Upd.comp (upd_ledDue _)
    | with_reducible apply Upd.comp (upd_replayBoundary _)
    | split)

theorem upd_midnight (old : Nat) (s : State) : Upd [.safe] s (midnight old s) := by
  unfold midnight
  repeat' (first
    | with_reducible assumption
    | with_reducible exact Upd.refl _ _
    | (show subParts _ _ = true; rfl)
    | with_reducible apply Upd.ite
    | with_reducible apply Upd.comp (upd_modSafe _ _)
    | split)

theorem upd_stampC0 (s : State) : Upd [.life] s (stampC0 s) := by
  unfold stampC0
  repeat' (first
    | with_reducible assumption
    | with_reducible exact Upd.refl _ _
    | (show subParts _ _ = true; rfl)
    | with_reducible apply Upd.ite
    | exact (fun _ => ⟨rfl, rfl, rfl⟩)
    | with_reducible apply Upd.comp (upd_modLife _ _ ?_)
    | split)

theorem upd_putAtC0 (es : List EventRec) (s : State) : Upd [.ev] s (putAtC0 es s) := by
  unfold putAtC0
  repeat' (first
    | with_reducible assumption
    | with_reducible exact Upd.refl _ _
    | (show subParts _ _ = true; rfl)
    | with_reducible apply Upd.ite
    | (with_reducible apply Upd.foldl; intro u a hu)
    | with_reducible apply Upd.comp (upd_evPut _ _)
    | split)

theorem upd_flushC0 (s : State) : Upd [.ev, .sen] s (flushC0 s) := by
  unfold flushC0
  repeat' (first
    | with_reducible assumption
    | with_reducible exact Upd.refl _ _
    | (show subParts _ _ = true; rfl)
    | with_reducible apply Upd.ite
    | exact (fun _ => Nat.le_refl _)
    | with_reducible apply Upd.comp (upd_modEv _ _ ?_)
    | with_reducible apply Upd.comp (upd_modSen _ _)
    | with_reducible apply Upd.comp (upd_putAtC0 _ _)
    | split)

theorem upd_firstBoundary (s : State) : Upd [.life, .keys, .authSys, .led, .recs, .tag, .epd, .ev, .sen] s (firstBoundary s) := by
  unfold firstBoundary
  repeat' (first
    | with_reducible assumption
    | with_reducible exact Upd.refl _ _
    | (show subParts _ _ = true; rfl)
    | with_reducible apply Upd.ite
    | exact (fun _ => ⟨rfl, rfl, rfl⟩)
    | with_reducible apply Upd.comp (upd_modLife _ _ ?_)
    | with_reducible apply Upd.comp (upd_stampC0 _)
    | with_reducible apply Upd.comp (upd_flushC0 _)
    | with_reducible apply Upd.comp (upd_ledAtC0 _)
    | with_reducible apply Upd.comp (upd_tagAtRun _)
    | with_reducible apply Upd.comp (upd_epdRom _)
    | with_reducible apply Upd.comp (upd_identStatement _ _)
    | split)

theorem upd_noteAlign (skipped : Nat) (s : State) : Upd [.clk, .lnk, .ev, .sen] s (noteAlign skipped s) := by
  unfold noteAlign
  repeat' (first
    | with_reducible assumption
    | with_reducible exact Upd.refl _ _
    | (show subParts _ _ = true; rfl)
    | with_reducible apply Upd.ite
    | with_reducible apply Upd.comp (upd_modClk _ _)
    | with_reducible apply Upd.comp (upd_modLnk _ _)
    | with_reducible apply Upd.comp (upd_raise _ _ _ _ _)
    | split)

theorem upd_heartBoundary_silentOf (silent : List EngineId) (es : List EngineId) (s : State) : Upd [.eng] s (heartBoundary.silentOf silent es s) := by
  unfold heartBoundary.silentOf
  repeat' (first
    | with_reducible assumption
    | with_reducible exact Upd.refl _ _
    | (show subParts _ _ = true; rfl)
    | with_reducible apply Upd.ite
    | (with_reducible apply Upd.foldl; intro u a hu)
    | with_reducible apply Upd.comp (upd_modEng _ _)
    | split)

theorem upd_heartBoundary (silent : List EngineId) (s : State) : Upd [.eng] s (heartBoundary silent s) := by
  unfold heartBoundary
  repeat' (first
    | with_reducible assumption
    | with_reducible exact Upd.refl _ _
    | (show subParts _ _ = true; rfl)
    | with_reducible apply Upd.ite
    | with_reducible apply Upd.comp (upd_heartBoundary_silentOf _ _ _)
    | split)

theorem upd_legalBoundary (s : State) : Upd [.led, .recs] s (legalBoundary s) := by
  unfold legalBoundary
  repeat' (first
    | with_reducible assumption
    | with_reducible exact Upd.refl _ _
    | (show subParts _ _ = true; rfl)
    | with_reducible apply Upd.ite
    | (with_reducible apply Upd.foldl; intro u a hu)
    | exact (fun _ => Nat.le_refl _)
    | with_reducible apply Upd.comp (upd_modRecs _ _ ?_)
    | with_reducible apply Upd.comp (upd_modBind _ _ _)
    | split)

theorem upd_closeWindow (s : State) : Upd [.met] s (closeWindow s) := by
  unfold closeWindow
  repeat' (first
    | with_reducible assumption
    | with_reducible exact Upd.refl _ _
    | (show subParts _ _ = true; rfl)
    | with_reducible apply Upd.ite
    | with_reducible apply Upd.comp (upd_modMet _ _)
    | split)

theorem upd_derateAt (i : Fin 32) (t : Rat) (s : State) : Upd [.psafe, .ev, .sen] s (derateAt i t s) := by
  unfold derateAt
  repeat' (first
    | with_reducible assumption
    | with_reducible exact Upd.refl _ _
    | (show subParts _ _ = true; rfl)
    | with_reducible apply Upd.ite
    | with_reducible apply Upd.comp (upd_modPsafe _ _ _)
    | with_reducible apply Upd.comp (upd_raise _ _ _ _ _)
    | split)

theorem upd_thermBoundary (i : Fin 32) (s : State) : Upd [.psafe, .ev, .sen] s (thermBoundary i s) := by
  unfold thermBoundary
  repeat' (first
    | with_reducible assumption
    | with_reducible exact Upd.refl _ _
    | (show subParts _ _ = true; rfl)
    | with_reducible apply Upd.ite
    | with_reducible apply Upd.comp (upd_modPsafe _ _ _)
    | with_reducible apply Upd.comp (upd_derateAt _ _ _)
    | (extract_lets +onlyGivenNames x; first
        | (refine Upd.cut (P := [.psafe, .ev, .sen]) (s := s) (x := x) ?_ ?_; (revert x; change Upd _ _ _); rotate_left; intro hx; clear_value x)
        | (refine Upd.cutL (P := [.psafe, .ev, .sen]) (s := s) (x := x) ?_ ?_; (revert x; change Upd _ _ _); rotate_left; intro hx; clear_value x)
        | (refine Upd.cutR (P := [.psafe, .ev, .sen]) (s := s) (x := x) ?_ ?_; (revert x; change Upd _ _ _); rotate_left; intro hx; clear_value x)
        | clear_value x)
    | split)

theorem upd_weldBoundary (i : Fin 32) (s : State) : Upd [.psafe] s (weldBoundary i s) := by
  unfold weldBoundary
  repeat' (first
    | with_reducible assumption
    | with_reducible exact Upd.refl _ _
    | (show subParts _ _ = true; rfl)
    | with_reducible apply Upd.ite
    | with_reducible apply Upd.comp (upd_modPsafe _ _ _)
    | split)

theorem upd_npeBoundary (slot : Fin 8) (s : State) : Upd [.safe] s (npeBoundary slot s) := by
  unfold npeBoundary
  repeat' (first
    | with_reducible assumption
    | with_reducible exact Upd.refl _ _
    | (show subParts _ _ = true; rfl)
    | with_reducible apply Upd.ite
    | with_reducible apply Upd.comp (upd_modSafe _ _)
    | split)

theorem upd_safetyBoundary (s : State) : Upd [.safe, .psafe] s (safetyBoundary s) := by
  unfold safetyBoundary
  repeat' (first
    | with_reducible assumption
    | with_reducible exact Upd.refl _ _
    | (show subParts _ _ = true; rfl)
    | with_reducible apply Upd.ite
    | (with_reducible apply Upd.foldl; intro u a hu)
    | with_reducible apply Upd.comp (upd_modPsafe _ _ _)
    | with_reducible apply Upd.comp (upd_modSafe _ _)
    | with_reducible apply Upd.comp (upd_weldBoundary _ _)
    | with_reducible apply Upd.comp (upd_npeBoundary _ _)
    | split)

theorem upd_runBoundary (jFails : Nat) (s : State) : Upd ([.gates, .keys, .ports, .meas, .met, .pmet, .safe, .psafe, .cp, .plc, .pipes, .ses, .sesSys, .auth, .authSys, .led, .recs, .tag, .phy, .lnk] ++ [.share, .epd, .fab, .ev, .sen, .jrn]) s (runBoundary jFails s) := by
  unfold runBoundary
  repeat' (first
    | with_reducible assumption
    | with_reducible exact Upd.refl _ _
    | (show subParts _ _ = true; rfl)
    | with_reducible apply Upd.ite
    | (with_reducible apply Upd.foldl; intro u a hu)
    | exact (fun _ h => h)
    | with_reducible apply Upd.comp (upd_modTag _ _ ?_)
    | with_reducible apply Upd.comp (upd_modLed _ _)
    | with_reducible apply Upd.comp (upd_legalBoundary _)
    | with_reducible apply Upd.comp (upd_closeWindow _)
    | with_reducible apply Upd.comp (upd_tarBoundary _)
    | with_reducible apply Upd.comp (upd_thermBoundary _ _)
    | with_reducible apply Upd.comp (upd_authBoundary _)
    | with_reducible apply Upd.comp (upd_sesBoundary _)
    | with_reducible apply Upd.comp (upd_llimBoundary _)
    | with_reducible apply Upd.comp (upd_splitBoundary _)
    | with_reducible apply Upd.comp (upd_pilotBoundary _)
    | with_reducible apply Upd.comp (upd_linkBoundary _)
    | with_reducible apply Upd.comp (upd_phyBoundary _)
    | with_reducible apply Upd.comp (upd_haloBoundary _)
    | with_reducible apply Upd.comp (upd_pipeBoundary _)
    | with_reducible apply Upd.comp (upd_portBoundary _)
    | with_reducible apply Upd.comp (upd_safetyBoundary _)
    | with_reducible apply Upd.comp (upd_publishResult _)
    | with_reducible apply Upd.comp (upd_fabBoundary _)
    | with_reducible apply Upd.comp (upd_dspModel _)
    | with_reducible apply Upd.comp (upd_dspMark _)
    | with_reducible apply Upd.comp (upd_jrnUpkeep _)
    | with_reducible apply Upd.comp (upd_eventsJournal _ _ _)
    | with_reducible apply Upd.comp (upd_sealsJournal _)
    | with_reducible apply Upd.comp (upd_sealStatements _)
    | with_reducible apply Upd.comp (upd_sealSessions _)
    | split)

theorem upd_startBoundary (s : State) : Upd [.ports, .met, .safe, .psafe, .led, .share, .ev, .sen] s (startBoundary s) := by
  unfold startBoundary
  repeat' (first
    | with_reducible assumption
    | with_reducible exact Upd.refl _ _
    | (show subParts _ _ = true; rfl)
    | with_reducible apply Upd.ite
    | (with_reducible apply Upd.foldl; intro u a hu)
    | with_reducible apply Upd.comp (upd_modMet _ _)
    | with_reducible apply Upd.comp (upd_llimBoundary _)
    | with_reducible apply Upd.comp (upd_tarBoundary _)
    | with_reducible apply Upd.comp (upd_safetyBoundary _)
    | with_reducible apply Upd.comp (upd_thermBoundary _ _)
    | with_reducible apply Upd.comp (upd_portBoundary _)
    | split)

theorem upd_idleBoundary (s : State) : Upd [.tag, .epd] s (idleBoundary s) := by
  unfold idleBoundary
  repeat' (first
    | with_reducible assumption
    | with_reducible exact Upd.refl _ _
    | (show subParts _ _ = true; rfl)
    | with_reducible apply Upd.ite
    | exact (fun _ h => h)
    | with_reducible apply Upd.comp (upd_modTag _ _ ?_)
    | with_reducible apply Upd.comp (upd_dspModel _)
    | with_reducible apply Upd.comp (upd_dspMark _)
    | split)

theorem upd_boundary (k : Nat) (skipped : Nat) (o : BndObs) (s : State) : Upd ([.eng, .gates, .clk, .life, .keys, .ports, .meas, .met, .pmet, .safe, .psafe, .cp, .plc, .pipes, .ses, .sesSys, .auth, .authSys, .led, .recs] ++ [.tag, .phy, .lnk, .share, .epd, .fab, .ev, .sen, .jrn, .freeCtr]) s (boundary k skipped o s) := by
  unfold boundary
  repeat' (first
    | with_reducible assumption
    | with_reducible exact Upd.refl _ _
    | (show subParts _ _ = true; rfl)
    | with_reducible apply Upd.ite
    | with_reducible apply Upd.comp (upd_clkBoundary _ _)
    | with_reducible apply Upd.comp (upd_passTime _ _)
    | with_reducible apply Upd.comp (upd_evBoundary _)
    | with_reducible apply Upd.comp (upd_firstBoundary _)
    | with_reducible apply Upd.comp (upd_noteAlign _ _)
    | with_reducible apply Upd.comp (upd_midnight _ _)
    | with_reducible apply Upd.comp (upd_rtcActions _)
    | with_reducible apply Upd.comp (upd_heartBoundary _ _)
    | with_reducible apply Upd.comp (upd_runBoundary _ _)
    | with_reducible apply Upd.comp (upd_startBoundary _)
    | with_reducible apply Upd.comp (upd_idleBoundary _)
    | with_reducible apply Upd.comp (upd_publishAll _)
    | with_reducible apply Upd.comp (upd_identStatement _ _)
    | split)

theorem upd_execCountAlignment (o : BndObs) (s : State) : ∃ u, execCountAlignment o s = .next u ∧ Upd ([.eng, .gates, .clk, .life, .keys, .ports, .meas, .met, .pmet, .safe, .psafe, .cp, .plc, .pipes, .ses, .sesSys, .auth, .authSys, .led, .recs] ++ [.tag, .phy, .lnk, .share, .epd, .fab, .ev, .sen, .jrn, .freeCtr]) s u := by
  unfold execCountAlignment
  refine ⟨_, rfl, ?_⟩
  repeat' (first
    | with_reducible assumption
    | with_reducible exact Upd.refl _ _
    | (show subParts _ _ = true; rfl)
    | with_reducible apply Upd.ite
    | with_reducible apply Upd.comp (upd_boundary _ _ _ _)
    | split)

theorem upd_execCycleBoundary (o : BndObs) (s : State) : ∃ u, execCycleBoundary o s = .next u ∧ Upd ([.eng, .gates, .clk, .life, .keys, .ports, .meas, .met, .pmet, .safe, .psafe, .cp, .plc, .pipes, .ses, .sesSys, .auth, .authSys, .led, .recs] ++ [.tag, .phy, .lnk, .share, .epd, .fab, .ev, .sen, .jrn, .freeCtr]) s u := by
  unfold execCycleBoundary
  refine ⟨_, rfl, ?_⟩
  repeat' (first
    | with_reducible assumption
    | with_reducible exact Upd.refl _ _
    | (show subParts _ _ = true; rfl)
    | with_reducible apply Upd.ite
    | with_reducible apply Upd.comp (upd_boundary _ _ _ _)
    | split)

end Sys2Proof.Machine
end

