-- ==== Sys2Proof/Laws/UpdLife.lean ====
section
/-! SUPPORT. What the operations of Machine/Life.lean change: one lemma for each, that its result differs from its state at most in the parts named,
and that what only grows has not gone back. -/

namespace Sys2Proof.Machine

theorem upd_lcStamp (s : State) : Upd [.life] s (lcStamp s) := by
  unfold lcStamp
  repeat' (first
    | with_reducible assumption
    | with_reducible exact Upd.refl _ _
    | (show subParts _ _ = true; rfl)
    | with_reducible apply Upd.ite
    | exact (fun _ => ⟨rfl, rfl, rfl⟩)
    | with_reducible apply Upd.comp (upd_modLife _ _ ?_)
    | split)

theorem upd_burn (i : Nat) (s : State) : Upd [.life] s (burn i s) where
  later := ⟨rfl, rfl, fun j h => by simp only [burnt, burn, State.modLife_life] at h ⊢; exact kset_any i j _ _ h, Nat.le_refl _, Nat.le_refl _,
    Nat.le_refl _, fun h => h, fun h => h⟩
  pending := rfl
  eng := fun _ => rfl
  gates := fun _ => rfl
  clk := fun _ => rfl
  life := fun n => absurd n (by decide)
  keys := fun _ => rfl
  img := fun _ => rfl
  flash := fun _ => rfl
  dlv := fun _ => rfl
  ports := fun _ => rfl
  heads := fun _ => rfl
  meas := fun _ => rfl
  met := fun _ => rfl
  pmet := fun _ => rfl
  safe := fun _ => rfl
  psafe := fun _ => rfl
  cp := fun _ => rfl
  plc := fun _ => rfl
  pipes := fun _ => rfl
  hpipes := fun _ => rfl
  ses := fun _ => rfl
  sesSys := fun _ => rfl
  auth := fun _ => rfl
  authSys := fun _ => rfl
  led := fun _ => rfl
  recs := fun _ => rfl
  mbus := fun _ => rfl
  tag := fun _ => rfl
  phy := fun _ => rfl
  lnk := fun _ => rfl
  share := fun _ => rfl
  epd := fun _ => rfl
  fab := fun _ => rfl
  ev := fun _ => rfl
  sen := fun _ => rfl
  jrn := fun _ => rfl
  tamper := fun _ => rfl
  elec := fun _ => rfl
  freeCtr := fun _ => rfl

theorem upd_doLifeCycleChange (s : State) : Upd [.life, .ev, .sen] s (doLifeCycleChange s) := by
  unfold doLifeCycleChange
  repeat' (first
    | with_reducible assumption
    | with_reducible exact Upd.refl _ _
    | (show subParts _ _ = true; rfl)
    | with_reducible apply Upd.ite
    | exact (fun _ => ⟨rfl, rfl, rfl⟩)
    | with_reducible apply Upd.comp (upd_modLife _ _ ?_)
    | with_reducible apply Upd.comp (upd_lcStamp _)
    | with_reducible apply Upd.comp (upd_burn _ _)
    | with_reducible apply Upd.comp (upd_raise _ _ _ _ _)
    | split)

theorem upd_zeroise (s : State) : Upd [.keys] s (zeroise s) := by
  unfold zeroise
  repeat' (first
    | with_reducible assumption
    | with_reducible exact Upd.refl _ _
    | (show subParts _ _ = true; rfl)
    | with_reducible apply Upd.ite
    | with_reducible apply Upd.comp (upd_modKeys _ _)
    | split)

end Sys2Proof.Machine
end

