-- ==== Sys2Proof/Laws/UpdPowerLine.lean ====
section
/-! SUPPORT. What the operations of Machine/PowerLine.lean change: one lemma for each, that its result differs from its state at most in the parts named,
and that what only grows has not gone back. -/

namespace Sys2Proof.Machine

theorem upd_doPipeStep (slot : Fin 8) (s : State) : Upd [.ports, .pipes] s (doPipeStep slot s) := by
  unfold doPipeStep
  repeat' (first
    | with_reducible assumption
    | with_reducible exact Upd.refl _ _
    | (show subParts _ _ = true; rfl)
    | with_reducible apply Upd.ite
    | with_reducible apply Upd.comp (upd_modPipes _ _ _)
    | with_reducible apply Upd.comp (upd_rxControl _ _ _ _)
    | split)

theorem upd_netLeft (i : Fin 32) (how : Nat) (s : State) : Upd [.keys, .ports, .cp, .plc, .ses, .sesSys, .ev, .sen] s (netLeft i how s) := by
  unfold netLeft
  repeat' (first
    | with_reducible assumption
    | with_reducible exact Upd.refl _ _
    | (show subParts _ _ = true; rfl)
    | with_reducible apply Upd.ite
    | with_reducible apply Upd.comp (upd_modPlc _ _ _)
    | with_reducible apply Upd.comp (upd_netClear _ _)
    | with_reducible apply Upd.comp (upd_linkLost _ _)
    | with_reducible apply Upd.comp (upd_raise _ _ _ _ _)
    | split)

theorem upd_execCcLeave (point : Fin 32) (s : State) : ∃ u, execCcLeave point s = .next u ∧ Upd [.keys, .ports, .cp, .plc, .ses, .sesSys, .ev, .sen] s u := by
  unfold execCcLeave
  refine ⟨_, rfl, ?_⟩
  repeat' (first
    | with_reducible assumption
    | with_reducible exact Upd.refl _ _
    | (show subParts _ _ = true; rfl)
    | with_reducible apply Upd.ite
    | with_reducible apply Upd.comp (upd_netLeft _ _ _)
    | split)

theorem upd_slacSend (i : Fin 32) (m : SlacOut) (code : Nat) (fields : List Nat) (s : State) : Upd [.ports, .plc] s (slacSend i m code fields s) := by
  unfold slacSend
  repeat' (first
    | with_reducible assumption
    | with_reducible exact Upd.refl _ _
    | (show subParts _ _ = true; rfl)
    | with_reducible apply Upd.ite
    | with_reducible apply Upd.comp (upd_modPlc _ _ _)
    | with_reducible apply Upd.comp (upd_sendMessage _ _ _ _)
    | split)

theorem upd_slacFallback (i : Fin 32) (s : State) : Upd [.keys, .cp, .plc, .ses, .sesSys, .ev, .sen] s (slacFallback i s) := by
  unfold slacFallback
  repeat' (first
    | with_reducible assumption
    | with_reducible exact Upd.refl _ _
    | (show subParts _ _ = true; rfl)
    | with_reducible apply Upd.ite
    | with_reducible apply Upd.comp (upd_modPlc _ _ _)
    | with_reducible apply Upd.comp (upd_toBasic _ _)
    | with_reducible apply Upd.comp (upd_raise _ _ _ _ _)
    | split)

theorem upd_slacFail (i : Fin 32) (reason : Nat) (s : State) : Upd [.keys, .cp, .plc, .ses, .sesSys, .ev, .sen] s (slacFail i reason s) := by
  unfold slacFail
  repeat' (first
    | with_reducible assumption
    | with_reducible exact Upd.refl _ _
    | (show subParts _ _ = true; rfl)
    | with_reducible apply Upd.ite
    | with_reducible apply Upd.comp (upd_modPlc _ _ _)
    | with_reducible apply Upd.comp (upd_raise _ _ _ _ _)
    | with_reducible apply Upd.comp (upd_slacFallback _ _)
    | split)

theorem upd_execCmAttenCharResend (point : Fin 32) (s : State) : ∃ u, execCmAttenCharResend point s = .next u ∧ Upd [.keys, .ports, .cp, .plc, .ses, .sesSys, .ev, .sen] s u := by
  unfold execCmAttenCharResend
  refine ⟨_, rfl, ?_⟩
  repeat' (first
    | with_reducible assumption
    | with_reducible exact Upd.refl _ _
    | (show subParts _ _ = true; rfl)
    | with_reducible apply Upd.ite
    | with_reducible apply Upd.comp (upd_modPlc _ _ _)
    | with_reducible apply Upd.comp (upd_slacSend _ _ _ _ _)
    | with_reducible apply Upd.comp (upd_slacFail _ _ _)
    | split)

theorem upd_execCmAttenCharRsp (point : Fin 32) (runId : Nat) (result : Nat) (s : State) : ∃ u, execCmAttenCharRsp point runId result s = .next u ∧ Upd [.plc] s u := by
  unfold execCmAttenCharRsp
  refine ⟨_, rfl, ?_⟩
  repeat' (first
    | with_reducible assumption
    | with_reducible exact Upd.refl _ _
    | (show subParts _ _ = true; rfl)
    | with_reducible apply Upd.ite
    | with_reducible apply Upd.comp (upd_modPlc _ _ _)
    | split)

theorem upd_execCmSlacMatchReq (point : Fin 32) (runId : Nat) (secType : Nat) (s : State) : ∃ u, execCmSlacMatchReq point runId secType s = .next u ∧ Upd [.keys, .ports, .cp, .plc, .ses, .sesSys, .ev, .sen, .freeCtr] s u := by
  unfold execCmSlacMatchReq
  refine ⟨_, rfl, ?_⟩
  repeat' (first
    | with_reducible assumption
    | with_reducible exact Upd.refl _ _
    | (show subParts _ _ = true; rfl)
    | with_reducible apply Upd.ite
    | with_reducible apply Upd.comp (upd_modPlc _ _ _)
    | with_reducible apply Upd.comp (upd_slacFail _ _ _)
    | with_reducible apply Upd.comp (upd_drbgDraw _ _)
    | with_reducible apply Upd.comp (upd_draw _)
    | with_reducible apply Upd.comp (upd_tunnelMsg _ _ _ _)
    | with_reducible apply Upd.comp (upd_slacSend _ _ _ _ _)
    | split)

theorem upd_execCmSlacParmReq (point : Fin 32) (runId : Nat) (mac : Nat) (secType : Nat) (s : State) : ∃ u, execCmSlacParmReq point runId mac secType s = .next u ∧ Upd [.ports, .plc] s u := by
  unfold execCmSlacParmReq
  refine ⟨_, rfl, ?_⟩
  repeat' (first
    | with_reducible assumption
    | with_reducible exact Upd.refl _ _
    | (show subParts _ _ = true; rfl)
    | with_reducible apply Upd.ite
    | with_reducible apply Upd.comp (upd_modPlc _ _ _)
    | with_reducible apply Upd.comp (upd_slacSend _ _ _ _ _)
    | split)

theorem upd_execCmStartAttenCharInd (point : Fin 32) (runId : Nat) (s : State) : ∃ u, execCmStartAttenCharInd point runId s = .next u ∧ Upd [.plc] s u := by
  unfold execCmStartAttenCharInd
  refine ⟨_, rfl, ?_⟩
  repeat' (first
    | with_reducible assumption
    | with_reducible exact Upd.refl _ _
    | (show subParts _ _ = true; rfl)
    | with_reducible apply Upd.ite
    | with_reducible apply Upd.comp (upd_modPlc _ _ _)
    | split)

theorem upd_execCmValidateReq (point : Fin 32) (s : State) : ∃ u, execCmValidateReq point s = .next u ∧ Upd [.ports, .plc] s u := by
  unfold execCmValidateReq
  refine ⟨_, rfl, ?_⟩
  repeat' (first
    | with_reducible assumption
    | with_reducible exact Upd.refl _ _
    | (show subParts _ _ = true; rfl)
    | with_reducible apply Upd.ite
    | with_reducible apply Upd.comp (upd_slacSend _ _ _ _ _)
    | split)

theorem upd_modHeadPlc (i : Fin 32) (f : HeadPlc → HeadPlc) (s : State) : Upd [.hpipes] s (modHeadPlc i f s) := by
  unfold modHeadPlc
  repeat' (first
    | with_reducible assumption
    | with_reducible exact Upd.refl _ _
    | (show subParts _ _ = true; rfl)
    | with_reducible apply Upd.ite
    | with_reducible apply Upd.comp (upd_modHpipes _ _ _)
    | split)

theorem upd_execHeadMpduReceived (point : Fin 32) (tick : Nat) (level : Nat) (mode : Nat) (bcast : Bool) (snid : Nat) (tei : Nat) (body : List (BitVec 8)) (good : Bool) (s : State) : ∃ u, execHeadMpduReceived point tick level mode bcast snid tei body good s = .next u ∧ Upd [.hpipes] s u := by
  unfold execHeadMpduReceived
  refine ⟨_, rfl, ?_⟩
  repeat' (first
    | with_reducible assumption
    | with_reducible exact Upd.refl _ _
    | (show subParts _ _ = true; rfl)
    | with_reducible apply Upd.ite
    | with_reducible apply Upd.comp (upd_modHeadPlc _ _ _)
    | split)

theorem upd_headReport (i : Fin 32) (m : Mpdu) (s : State) : Upd [.hpipes] s (headReport i m s) := by
  unfold headReport
  repeat' (first
    | with_reducible assumption
    | with_reducible exact Upd.refl _ _
    | (show subParts _ _ = true; rfl)
    | with_reducible apply Upd.ite
    | with_reducible apply Upd.comp (upd_modHeadPlc _ _ _)
    | split)

theorem upd_flushTx (i : Fin 32) (x1 : List Mpdu) (s : State) : Upd [.heads, .hpipes, .freeCtr] s (flushTx i x1 s) := by
  induction x1 generalizing s
  case' nil => simp only [flushTx]
  case' cons m ms ih => simp only [flushTx]
  repeat' (first
    | with_reducible exact Upd.refl _ _
    | with_reducible apply Upd.comp (ih _)
    | with_reducible assumption
    | with_reducible exact Upd.refl _ _
    | (show subParts _ _ = true; rfl)
    | with_reducible apply Upd.ite
    | with_reducible apply Upd.comp (upd_headReport _ _ _)
    | with_reducible apply Upd.comp (upd_modHeadPlc _ _ _)
    | with_reducible apply Upd.comp (upd_draw _)
    | split)

theorem upd_execHeadNetSet (point : Fin 32) (desc : Nat) (s : State) : ∃ u, execHeadNetSet point desc s = .next u ∧ Upd [.heads, .hpipes, .freeCtr] s u := by
  unfold execHeadNetSet
  refine ⟨_, rfl, ?_⟩
  repeat' (first
    | with_reducible assumption
    | with_reducible exact Upd.refl _ _
    | (show subParts _ _ = true; rfl)
    | with_reducible apply Upd.ite
    | with_reducible apply Upd.comp (upd_modHeadPlc _ _ _)
    | with_reducible apply Upd.comp (upd_flushTx _ _ _)
    | split)

theorem upd_execHeadPipeHandover (slot : Fin 8) (s : State) : ∃ u, execHeadPipeHandover slot s = .next u ∧ Upd [.hpipes] s u := by
  unfold execHeadPipeHandover
  refine ⟨_, rfl, ?_⟩
  repeat' (first
    | with_reducible assumption
    | with_reducible exact Upd.refl _ _
    | (show subParts _ _ = true; rfl)
    | with_reducible apply Upd.ite
    | with_reducible apply Upd.comp (upd_modHpipes _ _ _)
    | split)

theorem upd_execHeadPipeReturn (point : Fin 32) (s : State) : ∃ u, execHeadPipeReturn point s = .next u ∧ Upd [.hpipes] s u := by
  unfold execHeadPipeReturn
  refine ⟨_, rfl, ?_⟩
  repeat' (first
    | with_reducible assumption
    | with_reducible exact Upd.refl _ _
    | (show subParts _ _ = true; rfl)
    | with_reducible apply Upd.ite
    | with_reducible apply Upd.comp (upd_modHpipes _ _ _)
    | split)

theorem upd_execHeadPipeSwap (point : Fin 32) (s : State) : ∃ u, execHeadPipeSwap point s = .next u ∧ Upd [.hpipes] s u := by
  unfold execHeadPipeSwap
  refine ⟨_, rfl, ?_⟩
  repeat' (first
    | with_reducible assumption
    | with_reducible exact Upd.refl _ _
    | (show subParts _ _ = true; rfl)
    | with_reducible apply Upd.ite
    | with_reducible apply Upd.comp (upd_modHpipes _ _ _)
    | split)

theorem upd_execHeadPipeTest (point : Fin 32) (pipe : Fin 5) (s : State) : ∃ u, execHeadPipeTest point pipe s = .next u ∧ Upd [.hpipes] s u := by
  unfold execHeadPipeTest
  refine ⟨_, rfl, ?_⟩
  repeat' (first
    | with_reducible assumption
    | with_reducible exact Upd.refl _ _
    | (show subParts _ _ = true; rfl)
    | with_reducible apply Upd.ite
    | with_reducible apply Upd.comp (upd_modHpipes _ _ _)
    | split)

theorem upd_execHeadPipeTestDone (slot : Fin 8) (frames : Fin 33) (level : Nat) (tick : Nat) (s : State) : ∃ u, execHeadPipeTestDone slot frames level tick s = .next u ∧ Upd [.hpipes] s u := by
  unfold execHeadPipeTestDone
  refine ⟨_, rfl, ?_⟩
  repeat' (first
    | with_reducible assumption
    | with_reducible exact Upd.refl _ _
    | (show subParts _ _ = true; rfl)
    | with_reducible apply Upd.ite
    | with_reducible apply Upd.comp (upd_modHpipes _ _ _)
    | with_reducible apply Upd.comp (upd_headReport _ _ _)
    | split)

theorem upd_execHeadTxComplete (point : Fin 32) (tick : Nat) (attempts : Fin 8) (result : Fin 4) (s : State) : ∃ u, execHeadTxComplete point tick attempts result s = .next u ∧ Upd [.hpipes] s u := by
  unfold execHeadTxComplete
  refine ⟨_, rfl, ?_⟩
  repeat' (first
    | with_reducible assumption
    | with_reducible exact Upd.refl _ _
    | (show subParts _ _ = true; rfl)
    | with_reducible apply Upd.ite
    | with_reducible apply Upd.comp (upd_headReport _ _ _)
    | with_reducible apply Upd.comp (upd_modHeadPlc _ _ _)
    | split)

theorem upd_execHeadTxFilter (point : Fin 32) (desc : Nat) (codes : List Nat) (s : State) : ∃ u, execHeadTxFilter point desc codes s = .next u ∧ Upd [.hpipes] s u := by
  unfold execHeadTxFilter
  refine ⟨_, rfl, ?_⟩
  repeat' (first
    | with_reducible assumption
    | with_reducible exact Upd.refl _ _
    | (show subParts _ _ = true; rfl)
    | with_reducible apply Upd.ite
    | with_reducible apply Upd.comp (upd_modHeadPlc _ _ _)
    | split)

theorem upd_execHeadTxMpdu (point : Fin 32) (desc : Nat) (body : List (BitVec 8)) (long : Bool) (s : State) : ∃ u, execHeadTxMpdu point desc body long s = .next u ∧ Upd [.hpipes] s u := by
  unfold execHeadTxMpdu
  refine ⟨_, rfl, ?_⟩
  repeat' (first
    | with_reducible assumption
    | with_reducible exact Upd.refl _ _
    | (show subParts _ _ = true; rfl)
    | with_reducible apply Upd.ite
    | with_reducible apply Upd.comp (upd_headReport _ _ _)
    | with_reducible apply Upd.comp (upd_modHeadPlc _ _ _)
    | split)

theorem upd_execHpgpBeacon (point : Fin 32) (s : State) : ∃ u, execHpgpBeacon point s = .next u ∧ Upd [.ports, .plc] s u := by
  unfold execHpgpBeacon
  refine ⟨_, rfl, ?_⟩
  repeat' (first
    | with_reducible assumption
    | with_reducible exact Upd.refl _ _
    | (show subParts _ _ = true; rfl)
    | with_reducible apply Upd.ite
    | (with_reducible apply Upd.foldl; intro u a hu)
    | with_reducible apply Upd.comp (upd_modPlc _ _ _)
    | with_reducible apply Upd.comp (upd_sendMpdu _ _ _ _)
    | split)

theorem upd_execPipeRetest (slot : Fin 8) (pipe : Fin 5) (s : State) : ∃ u, execPipeRetest slot pipe s = .next u ∧ Upd [.ports, .pipes] s u := by
  unfold execPipeRetest
  refine ⟨_, rfl, ?_⟩
  repeat' (first
    | with_reducible assumption
    | with_reducible exact Upd.refl _ _
    | (show subParts _ _ = true; rfl)
    | with_reducible apply Upd.ite
    | with_reducible apply Upd.comp (upd_rxControl _ _ _ _)
    | with_reducible apply Upd.comp (upd_modPipe _ _ _ _)
    | split)

theorem upd_pipeBack (slot : Fin 8) (p : Fin 5) (s : State) : Upd [.plc, .pipes] s (pipeBack slot p s) := by
  unfold pipeBack
  repeat' (first
    | with_reducible assumption
    | with_reducible exact Upd.refl _ _
    | (show subParts _ _ = true; rfl)
    | with_reducible apply Upd.ite
    | with_reducible apply Upd.comp (upd_modPipes _ _ _)
    | with_reducible apply Upd.comp (upd_modPlc _ _ _)
    | with_reducible apply Upd.comp (upd_modPipe _ _ _ _)
    | split)

theorem upd_execPipeTestReport (slot : Fin 8) (desc : Nat) (s : State) : ∃ u, execPipeTestReport slot desc s = .next u ∧ Upd [.plc, .pipes, .ev, .sen] s u := by
  unfold execPipeTestReport
  refine ⟨_, rfl, ?_⟩
  repeat' (first
    | with_reducible assumption
    | with_reducible exact Upd.refl _ _
    | (show subParts _ _ = true; rfl)
    | with_reducible apply Upd.ite
    | with_reducible apply Upd.comp (upd_modPipes _ _ _)
    | with_reducible apply Upd.comp (upd_modPipe _ _ _ _)
    | with_reducible apply Upd.comp (upd_pipeEvent _ _ _ _)
    | with_reducible apply Upd.comp (upd_pipeBack _ _ _)
    | split)

theorem upd_upTaken (i : Fin 32) (s : State) : Upd [.hpipes] s (upTaken i s) := by
  unfold upTaken
  repeat' (first
    | with_reducible assumption
    | with_reducible exact Upd.refl _ _
    | (show subParts _ _ = true; rfl)
    | with_reducible apply Upd.ite
    | with_reducible apply Upd.comp (upd_modHeadPlc _ _ _)
    | split)

theorem upd_execRxMpdu (point : Fin 32) (desc : Nat) (body : List (BitVec 8)) (s : State) : ∃ u, execRxMpdu point desc body s = .next u ∧ Upd [.plc, .hpipes, .ev, .sen] s u := by
  unfold execRxMpdu
  refine ⟨_, rfl, ?_⟩
  repeat' (first
    | with_reducible assumption
    | with_reducible exact Upd.refl _ _
    | (show subParts _ _ = true; rfl)
    | with_reducible apply Upd.ite
    | with_reducible apply Upd.comp (upd_modPlc _ _ _)
    | with_reducible apply Upd.comp (upd_modHeadPlc _ _ _)
    | with_reducible apply Upd.comp (upd_upTaken _ _)
    | with_reducible apply Upd.comp (upd_raiseIf _ _ _ _ _ _)
    | split)

theorem upd_execSlacInitTimeout (point : Fin 32) (s : State) : ∃ u, execSlacInitTimeout point s = .next u ∧ Upd [.keys, .cp, .plc, .ses, .sesSys, .ev, .sen] s u := by
  unfold execSlacInitTimeout
  refine ⟨_, rfl, ?_⟩
  repeat' (first
    | with_reducible assumption
    | with_reducible exact Upd.refl _ _
    | (show subParts _ _ = true; rfl)
    | with_reducible apply Upd.ite
    | with_reducible apply Upd.comp (upd_slacFallback _ _)
    | split)

theorem upd_execSlacJoin (point : Fin 32) (tei : Nat) (ms : Nat) (s : State) : ∃ u, execSlacJoin point tei ms s = .next u ∧ Upd [.ports, .plc, .ses, .ev, .sen] s u := by
  unfold execSlacJoin
  refine ⟨_, rfl, ?_⟩
  repeat' (first
    | with_reducible assumption
    | with_reducible exact Upd.refl _ _
    | (show subParts _ _ = true; rfl)
    | with_reducible apply Upd.ite
    | with_reducible apply Upd.comp (upd_modPlc _ _ _)
    | with_reducible apply Upd.comp (upd_modSes _ _ _)
    | with_reducible apply Upd.comp (upd_slacSend _ _ _ _ _)
    | with_reducible apply Upd.comp (upd_raise _ _ _ _ _)
    | with_reducible apply Upd.comp (upd_sendMessage _ _ _ _)
    | split)

theorem upd_execSlacJoinTimeout (point : Fin 32) (s : State) : ∃ u, execSlacJoinTimeout point s = .next u ∧ Upd [.keys, .ports, .cp, .plc, .ses, .sesSys, .ev, .sen] s u := by
  unfold execSlacJoinTimeout
  refine ⟨_, rfl, ?_⟩
  repeat' (first
    | with_reducible assumption
    | with_reducible exact Upd.refl _ _
    | (show subParts _ _ = true; rfl)
    | with_reducible apply Upd.ite
    | with_reducible apply Upd.comp (upd_slacFail _ _ _)
    | with_reducible apply Upd.comp (upd_netClear _ _)
    | split)

theorem upd_execSlacLinkSilence (point : Fin 32) (s : State) : ∃ u, execSlacLinkSilence point s = .next u ∧ Upd [.keys, .ports, .cp, .plc, .ses, .sesSys, .ev, .sen] s u := by
  unfold execSlacLinkSilence
  refine ⟨_, rfl, ?_⟩
  repeat' (first
    | with_reducible assumption
    | with_reducible exact Upd.refl _ _
    | (show subParts _ _ = true; rfl)
    | with_reducible apply Upd.ite
    | with_reducible apply Upd.comp (upd_netLeft _ _ _)
    | split)

theorem upd_execSlacMatchTimeout (point : Fin 32) (s : State) : ∃ u, execSlacMatchTimeout point s = .next u ∧ Upd [.keys, .cp, .plc, .ses, .sesSys, .ev, .sen] s u := by
  unfold execSlacMatchTimeout
  refine ⟨_, rfl, ?_⟩
  repeat' (first
    | with_reducible assumption
    | with_reducible exact Upd.refl _ _
    | (show subParts _ _ = true; rfl)
    | with_reducible apply Upd.ite
    | with_reducible apply Upd.comp (upd_slacFail _ _ _)
    | split)

theorem upd_execSlacNoSoundingTimeout (point : Fin 32) (s : State) : ∃ u, execSlacNoSoundingTimeout point s = .next u ∧ Upd [.keys, .cp, .plc, .ses, .sesSys, .ev, .sen] s u := by
  unfold execSlacNoSoundingTimeout
  refine ⟨_, rfl, ?_⟩
  repeat' (first
    | with_reducible assumption
    | with_reducible exact Upd.refl _ _
    | (show subParts _ _ = true; rfl)
    | with_reducible apply Upd.ite
    | with_reducible apply Upd.comp (upd_slacFail _ _ _)
    | split)

theorem upd_execSlacSoundWindowEnd (point : Fin 32) (s : State) : ∃ u, execSlacSoundWindowEnd point s = .next u ∧ Upd [.ports, .plc, .freeCtr] s u := by
  unfold execSlacSoundWindowEnd
  refine ⟨_, rfl, ?_⟩
  repeat' (first
    | with_reducible assumption
    | with_reducible exact Upd.refl _ _
    | (show subParts _ _ = true; rfl)
    | with_reducible apply Upd.ite
    | with_reducible apply Upd.comp (upd_modPlc _ _ _)
    | with_reducible apply Upd.comp (upd_draw _)
    | with_reducible apply Upd.comp (upd_slacSend _ _ _ _ _)
    | split)

theorem upd_execSoundReport (point : Fin 32) (tick : Nat) (atten : List Nat) (s : State) : ∃ u, execSoundReport point tick atten s = .next u ∧ Upd [.plc, .hpipes] s u := by
  unfold execSoundReport
  refine ⟨_, rfl, ?_⟩
  repeat' (first
    | with_reducible assumption
    | with_reducible exact Upd.refl _ _
    | (show subParts _ _ = true; rfl)
    | with_reducible apply Upd.ite
    | with_reducible apply Upd.comp (upd_modPlc _ _ _)
    | with_reducible apply Upd.comp (upd_upTaken _ _)
    | split)

theorem upd_execTxReport (point : Fin 32) (desc : Nat) (s : State) : ∃ u, execTxReport point desc s = .next u ∧ Upd [.ports, .plc, .hpipes, .ev, .sen] s u := by
  unfold execTxReport
  refine ⟨_, rfl, ?_⟩
  repeat' (first
    | with_reducible assumption
    | with_reducible exact Upd.refl _ _
    | (show subParts _ _ = true; rfl)
    | with_reducible apply Upd.ite
    | with_reducible apply Upd.comp (upd_modPlc _ _ _)
    | with_reducible apply Upd.comp (upd_upTaken _ _)
    | with_reducible apply Upd.comp (upd_raiseIf _ _ _ _ _ _)
    | with_reducible apply Upd.comp (upd_sendHeld _ _)
    | split)

end Sys2Proof.Machine
end

