-- ==== Sys2Proof/Laws/UpdBoundaryCmds.lean ====
section
/-! SUPPORT. What the operations of Machine/BoundaryCmds.lean change: one lemma for each, that its result differs from its state at most in the parts named,
and that what only grows has not gone back. -/

namespace Sys2Proof.Machine

theorem upd_applyTimeSet (t : TimeSet) (s : State) : Upd [.clk, .safe, .authSys, .led, .ev, .sen, .tamper] s (applyTimeSet t s) := by
  unfold applyTimeSet
  repeat' (first
    | with_reducible assumption
    | with_reducible exact Upd.refl _ _
    | (show subParts _ _ = true; rfl)
    | with_reducible apply Upd.ite
    | with_reducible apply Upd.comp (upd_modSen _ _)
    | with_reducible apply Upd.comp (upd_modClk _ _)
    | with_reducible apply Upd.comp (upd_modTamper _ _)
    | with_reducible apply Upd.comp (upd_rtcActions _)
    | with_reducible apply Upd.comp (upd_midnight _ _)
    | with_reducible apply Upd.comp (upd_raise _ _ _ _ _)
    | split)

theorem upd_atBoundary {P : List Part} {s0 : State} (s t : State) (hs : subParts [.gates, .freeCtr] P = true)
    (h : Upd P s0 s) (k : Upd P s0 t) : Upd P s0 (atBoundary s t) :=
  Upd.ite h (Upd.ite k (Upd.comp2 (upd_publishAll t) (by rfl) hs k))

theorem upd_execBindingNotice (s : State) : ∃ u, execBindingNotice s = .next u ∧ Upd [.gates, .cp, .ses, .auth, .authSys, .led, .tag, .ev, .sen, .freeCtr] s u := by
  unfold execBindingNotice
  refine ⟨_, rfl, ?_⟩
  repeat' (first
    | with_reducible assumption
    | with_reducible exact Upd.refl _ _
    | (show subParts _ _ = true; rfl)
    | with_reducible apply Upd.ite
    | with_reducible apply upd_atBoundary
    | with_reducible apply Upd.comp (upd_doBindingNotice _)
    | split)

theorem upd_runEpoch (s : State) : Upd [.ports, .meas, .pmet, .cp, .plc, .pipes, .ses, .phy, .lnk, .share, .ev, .sen] s (runEpoch s) := by
  unfold runEpoch
  repeat' (first
    | with_reducible assumption
    | with_reducible exact Upd.refl _ _
    | (show subParts _ _ = true; rfl)
    | with_reducible apply Upd.ite
    | (with_reducible apply Upd.foldl; intro u a hu)
    | with_reducible apply Upd.comp (upd_modSes _ _ _)
    | with_reducible apply Upd.comp (upd_admitHead _ _)
    | with_reducible apply Upd.comp (upd_pointSplit _)
    | with_reducible apply Upd.comp (upd_allocApply _)
    | with_reducible apply Upd.comp (upd_formDemand _)
    | with_reducible apply Upd.comp (upd_linkEpoch _)
    | with_reducible apply Upd.comp (upd_phyEpoch _)
    | with_reducible apply Upd.comp (upd_setOutputs _ _)
    | with_reducible apply Upd.comp (upd_updateCeil _ _)
    | split)

theorem upd_execCountCheckpoint (s : State) : ∃ u, execCountCheckpoint s = .next u ∧ Upd [.gates, .clk, .keys, .ports, .meas, .pmet, .cp, .plc, .pipes, .ses, .phy, .lnk, .share, .ev, .sen, .freeCtr] s u := by
  unfold execCountCheckpoint
  refine ⟨_, rfl, ?_⟩
  repeat' (first
    | with_reducible assumption
    | with_reducible exact Upd.refl _ _
    | (show subParts _ _ = true; rfl)
    | with_reducible apply Upd.ite
    | (with_reducible apply Upd.foldl; intro u a hu)
    | with_reducible apply Upd.comp (upd_modClk _ _)
    | with_reducible apply Upd.comp (upd_drbgReseed _)
    | with_reducible apply Upd.comp (upd_portRetry _ _)
    | with_reducible apply Upd.comp (upd_publishAll _)
    | with_reducible apply Upd.comp (upd_runEpoch _)
    | split)

theorem upd_execGrantExpiry (s : State) : ∃ u, execGrantExpiry s = .next u ∧ Upd [.gates, .recs, .freeCtr] s u := by
  unfold execGrantExpiry
  refine ⟨_, rfl, ?_⟩
  repeat' (first
    | with_reducible assumption
    | with_reducible exact Upd.refl _ _
    | (show subParts _ _ = true; rfl)
    | with_reducible apply Upd.ite
    | with_reducible apply upd_atBoundary
    | with_reducible apply Upd.comp (upd_doGrantExpiry _)
    | split)

theorem upd_execGrantOpen (s : State) : ∃ u, execGrantOpen s = .next u ∧ Upd [.gates, .recs, .ev, .sen, .freeCtr] s u := by
  unfold execGrantOpen
  refine ⟨_, rfl, ?_⟩
  repeat' (first
    | with_reducible assumption
    | with_reducible exact Upd.refl _ _
    | (show subParts _ _ = true; rfl)
    | with_reducible apply Upd.ite
    | with_reducible apply upd_atBoundary
    | with_reducible apply Upd.comp (upd_doGrantOpen _)
    | split)

theorem upd_execHaloConfirmHoldEnd (slot : Fin 8) (x : Fin 2) (c : HaloCmp) (clean : Bool) (s : State) : ∃ u, execHaloConfirmHoldEnd slot x c clean s = .next u ∧ Upd [.gates, .meas, .ev, .sen, .freeCtr] s u := by
  unfold execHaloConfirmHoldEnd
  refine ⟨_, rfl, ?_⟩
  repeat' (first
    | with_reducible assumption
    | with_reducible exact Upd.refl _ _
    | (show subParts _ _ = true; rfl)
    | with_reducible apply Upd.ite
    | with_reducible apply upd_atBoundary
    | with_reducible apply Upd.comp (upd_doHaloConfirmHoldEnd _ _ _ _ _)
    | split)

theorem upd_execHaloReturn (slot : Fin 8) (x : Fin 2) (s : State) : ∃ u, execHaloReturn slot x s = .next u ∧ Upd [.gates, .meas, .ev, .sen, .freeCtr] s u := by
  unfold execHaloReturn
  refine ⟨_, rfl, ?_⟩
  repeat' (first
    | with_reducible assumption
    | with_reducible exact Upd.refl _ _
    | (show subParts _ _ = true; rfl)
    | with_reducible apply Upd.ite
    | with_reducible apply upd_atBoundary
    | with_reducible apply Upd.comp (upd_doHaloReturn _ _ _)
    | split)

theorem upd_execHaloStep (slot : Fin 8) (s : State) : ∃ u, execHaloStep slot s = .next u ∧ Upd [.gates, .meas, .ev, .sen, .freeCtr] s u := by
  unfold execHaloStep
  refine ⟨_, rfl, ?_⟩
  repeat' (first
    | with_reducible assumption
    | with_reducible exact Upd.refl _ _
    | (show subParts _ _ = true; rfl)
    | with_reducible apply Upd.ite
    | with_reducible apply upd_atBoundary
    | with_reducible apply Upd.comp (upd_doHaloStep _ _)
    | split)

theorem upd_execLaneHandoff (l : Fin 18) (s : State) : ∃ u, execLaneHandoff l s = .next u ∧ Upd [.gates, .fab, .ev, .sen, .freeCtr] s u := by
  unfold execLaneHandoff
  refine ⟨_, rfl, ?_⟩
  repeat' (first
    | with_reducible assumption
    | with_reducible exact Upd.refl _ _
    | (show subParts _ _ = true; rfl)
    | with_reducible apply Upd.ite
    | with_reducible apply upd_atBoundary
    | with_reducible apply Upd.comp (upd_doLaneHandoff _ _)
    | split)

theorem upd_execLaneStep (mismatch : Bool) (s : State) : ∃ u, execLaneStep mismatch s = .next u ∧ Upd [.gates, .fab, .ev, .sen, .freeCtr] s u := by
  unfold execLaneStep
  refine ⟨_, rfl, ?_⟩
  repeat' (first
    | with_reducible assumption
    | with_reducible exact Upd.refl _ _
    | (show subParts _ _ = true; rfl)
    | with_reducible apply Upd.ite
    | with_reducible apply upd_atBoundary
    | with_reducible apply Upd.comp (upd_doLaneStep _ _)
    | split)

theorem upd_execLedgerCommit (s : State) : ∃ u, execLedgerCommit s = .next u ∧ Upd [.gates, .led, .recs, .ev, .sen, .freeCtr] s u := by
  unfold execLedgerCommit
  refine ⟨_, rfl, ?_⟩
  repeat' (first
    | with_reducible assumption
    | with_reducible exact Upd.refl _ _
    | (show subParts _ _ = true; rfl)
    | with_reducible apply Upd.ite
    | with_reducible apply upd_atBoundary
    | with_reducible apply Upd.comp (upd_doLedgerCommit _)
    | split)

theorem upd_execLifeCycleChange (s : State) : ∃ u, execLifeCycleChange s = .next u ∧ Upd [.gates, .life, .ev, .sen, .freeCtr] s u := by
  unfold execLifeCycleChange
  refine ⟨_, rfl, ?_⟩
  repeat' (first
    | with_reducible assumption
    | with_reducible exact Upd.refl _ _
    | (show subParts _ _ = true; rfl)
    | with_reducible apply Upd.ite
    | with_reducible apply upd_atBoundary
    | with_reducible apply Upd.comp (upd_doLifeCycleChange _)
    | split)

theorem upd_execLlimChange (s : State) : ∃ u, execLlimChange s = .next u ∧ Upd [.gates, .cp, .share, .ev, .sen, .freeCtr] s u := by
  unfold execLlimChange
  refine ⟨_, rfl, ?_⟩
  repeat' (first
    | with_reducible assumption
    | with_reducible exact Upd.refl _ _
    | (show subParts _ _ = true; rfl)
    | with_reducible apply Upd.ite
    | with_reducible apply upd_atBoundary
    | with_reducible apply Upd.comp (upd_doLlimChange _)
    | split)

theorem upd_execMonthlySnapshot (s : State) : ∃ u, execMonthlySnapshot s = .next u ∧ Upd [.gates, .led, .ev, .sen, .freeCtr] s u := by
  unfold execMonthlySnapshot
  refine ⟨_, rfl, ?_⟩
  repeat' (first
    | with_reducible assumption
    | with_reducible exact Upd.refl _ _
    | (show subParts _ _ = true; rfl)
    | with_reducible apply Upd.ite
    | with_reducible apply upd_atBoundary
    | with_reducible apply Upd.comp (upd_doMonthlySnapshot _)
    | split)

theorem upd_execMramBlockMove (blk : Nat) (s : State) : ∃ u, execMramBlockMove blk s = .next u ∧ Upd [.gates, .fab, .ev, .sen, .freeCtr] s u := by
  unfold execMramBlockMove
  refine ⟨_, rfl, ?_⟩
  repeat' (first
    | with_reducible assumption
    | with_reducible exact Upd.refl _ _
    | (show subParts _ _ = true; rfl)
    | with_reducible apply Upd.ite
    | with_reducible apply upd_atBoundary
    | with_reducible apply Upd.comp (upd_doMramBlockMove _ _)
    | split)

theorem upd_execMramBlockStep (fails : Bool) (s : State) : ∃ u, execMramBlockStep fails s = .next u ∧ Upd [.gates, .fab, .ev, .sen, .freeCtr] s u := by
  unfold execMramBlockStep
  refine ⟨_, rfl, ?_⟩
  repeat' (first
    | with_reducible assumption
    | with_reducible exact Upd.refl _ _
    | (show subParts _ _ = true; rfl)
    | with_reducible apply Upd.ite
    | with_reducible apply upd_atBoundary
    | with_reducible apply Upd.comp (upd_doMramBlockStep _ _)
    | split)

theorem upd_execPeriodClose (s : State) : ∃ u, execPeriodClose s = .next u ∧ Upd [.gates, .authSys, .led, .recs, .ev, .sen, .freeCtr] s u := by
  unfold execPeriodClose
  refine ⟨_, rfl, ?_⟩
  repeat' (first
    | with_reducible assumption
    | with_reducible exact Upd.refl _ _
    | (show subParts _ _ = true; rfl)
    | with_reducible apply Upd.ite
    | with_reducible apply upd_atBoundary
    | with_reducible apply Upd.comp (upd_doPeriodClose _)
    | split)

theorem upd_execPipeStep (slot : Fin 8) (s : State) : ∃ u, execPipeStep slot s = .next u ∧ Upd [.gates, .ports, .pipes, .freeCtr] s u := by
  unfold execPipeStep
  refine ⟨_, rfl, ?_⟩
  repeat' (first
    | with_reducible assumption
    | with_reducible exact Upd.refl _ _
    | (show subParts _ _ = true; rfl)
    | with_reducible apply Upd.ite
    | with_reducible apply upd_atBoundary
    | with_reducible apply Upd.comp (upd_doPipeStep _ _)
    | split)

theorem upd_execRegisterReadingCompose (s : State) : ∃ u, execRegisterReadingCompose s = .next u ∧ Upd [.gates, .recs, .ev, .sen, .freeCtr] s u := by
  unfold execRegisterReadingCompose
  refine ⟨_, rfl, ?_⟩
  repeat' (first
    | with_reducible assumption
    | with_reducible exact Upd.refl _ _
    | (show subParts _ _ = true; rfl)
    | with_reducible apply Upd.ite
    | with_reducible apply upd_atBoundary
    | with_reducible apply Upd.comp (upd_doRegisterReadingCompose _)
    | split)

theorem upd_execRestartSessionFreeze (s : State) : ∃ u, execRestartSessionFreeze s = .next u ∧ Upd [.gates, .life, .freeCtr] s u := by
  unfold execRestartSessionFreeze
  refine ⟨_, rfl, ?_⟩
  repeat' (first
    | with_reducible assumption
    | with_reducible exact Upd.refl _ _
    | (show subParts _ _ = true; rfl)
    | with_reducible apply Upd.ite
    | with_reducible apply upd_atBoundary
    | with_reducible apply Upd.comp (upd_doRestartSessionFreeze _)
    | split)

theorem upd_execReturnToL1 (s : State) : ∃ u, execReturnToL1 s = .next u ∧ Upd [.gates, .clk, .ev, .sen, .freeCtr] s u := by
  unfold execReturnToL1
  refine ⟨_, rfl, ?_⟩
  repeat' (first
    | with_reducible assumption
    | with_reducible exact Upd.refl _ _
    | (show subParts _ _ = true; rfl)
    | with_reducible apply Upd.ite
    | with_reducible apply upd_atBoundary
    | with_reducible apply Upd.comp (upd_doReturnToL1 _)
    | split)

theorem upd_execServiceStateApply (s : State) : ∃ u, execServiceStateApply s = .next u ∧ Upd [.gates, .cp, .freeCtr] s u := by
  unfold execServiceStateApply
  refine ⟨_, rfl, ?_⟩
  repeat' (first
    | with_reducible assumption
    | with_reducible exact Upd.refl _ _
    | (show subParts _ _ = true; rfl)
    | with_reducible apply Upd.ite
    | with_reducible apply upd_atBoundary
    | with_reducible apply Upd.comp (upd_doServiceStateApply _)
    | split)

theorem upd_execSlowEnd (slot : Fin 8) (s : State) : ∃ u, execSlowEnd slot s = .next u ∧ Upd [.gates, .ports, .meas, .ev, .sen, .freeCtr] s u := by
  unfold execSlowEnd
  refine ⟨_, rfl, ?_⟩
  repeat' (first
    | with_reducible assumption
    | with_reducible exact Upd.refl _ _
    | (show subParts _ _ = true; rfl)
    | with_reducible apply Upd.ite
    | with_reducible apply upd_atBoundary
    | with_reducible apply Upd.comp (upd_doSlowEnd _ _)
    | split)

theorem upd_execSourceChange (s : State) : ∃ u, execSourceChange s = .next u ∧ Upd [.gates, .clk, .ev, .sen, .freeCtr] s u := by
  unfold execSourceChange
  refine ⟨_, rfl, ?_⟩
  repeat' (first
    | with_reducible assumption
    | with_reducible exact Upd.refl _ _
    | (show subParts _ _ = true; rfl)
    | with_reducible apply Upd.ite
    | with_reducible apply upd_atBoundary
    | with_reducible apply Upd.comp (upd_doSourceChange _)
    | split)

theorem upd_execSramRowMove (bank : Fin 32) (row : Nat) (s : State) : ∃ u, execSramRowMove bank row s = .next u ∧ Upd [.gates, .fab, .ev, .sen, .freeCtr] s u := by
  unfold execSramRowMove
  refine ⟨_, rfl, ?_⟩
  repeat' (first
    | with_reducible assumption
    | with_reducible exact Upd.refl _ _
    | (show subParts _ _ = true; rfl)
    | with_reducible apply Upd.ite
    | with_reducible apply upd_atBoundary
    | with_reducible apply Upd.comp (upd_doSramRowMove _ _ _)
    | split)

theorem upd_execSramRowStep (bank : Fin 32) (fails : Bool) (s : State) : ∃ u, execSramRowStep bank fails s = .next u ∧ Upd [.gates, .fab, .ev, .sen, .freeCtr] s u := by
  unfold execSramRowStep
  refine ⟨_, rfl, ?_⟩
  repeat' (first
    | with_reducible assumption
    | with_reducible exact Upd.refl _ _
    | (show subParts _ _ = true; rfl)
    | with_reducible apply Upd.ite
    | with_reducible apply upd_atBoundary
    | with_reducible apply Upd.comp (upd_doSramRowStep _ _ _)
    | split)

theorem upd_execStatementsSealed (s : State) : ∃ u, execStatementsSealed s = .next u ∧ Upd [.gates, .led, .ev, .sen, .freeCtr] s u := by
  unfold execStatementsSealed
  refine ⟨_, rfl, ?_⟩
  repeat' (first
    | with_reducible assumption
    | with_reducible exact Upd.refl _ _
    | (show subParts _ _ = true; rfl)
    | with_reducible apply Upd.ite
    | with_reducible apply upd_atBoundary
    | with_reducible apply Upd.comp (upd_doStatementsSealed _)
    | split)

theorem upd_execTariffSwitch (s : State) : ∃ u, execTariffSwitch s = .next u ∧ Upd [.gates, .led, .ev, .sen, .freeCtr] s u := by
  unfold execTariffSwitch
  refine ⟨_, rfl, ?_⟩
  repeat' (first
    | with_reducible assumption
    | with_reducible exact Upd.refl _ _
    | (show subParts _ _ = true; rfl)
    | with_reducible apply Upd.ite
    | with_reducible apply upd_atBoundary
    | with_reducible apply Upd.comp (upd_doTariffSwitch _)
    | split)

theorem upd_execTenantBlockApply (s : State) : ∃ u, execTenantBlockApply s = .next u ∧ Upd [.gates, .psafe, .ses, .led, .ev, .sen, .freeCtr] s u := by
  unfold execTenantBlockApply
  refine ⟨_, rfl, ?_⟩
  repeat' (first
    | with_reducible assumption
    | with_reducible exact Upd.refl _ _
    | (show subParts _ _ = true; rfl)
    | with_reducible apply Upd.ite
    | with_reducible apply upd_atBoundary
    | with_reducible apply Upd.comp (upd_doTenantBlockApply _)
    | split)

theorem upd_execTimeSetApply (s : State) : ∃ u, execTimeSetApply s = .next u ∧ Upd [.gates, .clk, .safe, .authSys, .led, .ev, .sen, .tamper, .freeCtr] s u := by
  unfold execTimeSetApply
  refine ⟨_, rfl, ?_⟩
  repeat' (first
    | with_reducible assumption
    | with_reducible exact Upd.refl _ _
    | (show subParts _ _ = true; rfl)
    | with_reducible apply Upd.ite
    | with_reducible apply Upd.comp (upd_publishAll _)
    | with_reducible apply Upd.comp (upd_applyTimeSet _ _)
    | split)

end Sys2Proof.Machine
end

