-- ==== Sys2Proof/Laws/UpdImageCheck.lean ====
section
/-! SUPPORT. What the operations of Machine/ImageCheck.lean change: one lemma for each, that its result differs from its state at most in the parts named,
and that what only grows has not gone back. -/

namespace Sys2Proof.Machine

theorem upd_pinCommissioner (gen : Nat) (l : List RawRec) (s : State) : Upd [.life, .keys, .ev, .sen, .freeCtr] s (pinCommissioner gen l s) := by
  unfold pinCommissioner
  repeat' (first
    | with_reducible assumption
    | with_reducible exact Upd.refl _ _
    | (show subParts _ _ = true; rfl)
    | with_reducible apply Upd.ite
    | with_reducible apply Upd.comp (upd_modKeys _ _)
    | with_reducible apply Upd.comp (upd_raiseIf _ _ _ _ _ _)
    | with_reducible apply Upd.comp (upd_lcStamp _)
    | with_reducible apply Upd.comp (upd_burn _ _)
    | with_reducible apply Upd.comp (upd_newMetrologyKey _)
    | with_reducible apply Upd.comp (upd_raise _ _ _ _ _)
    | split)

theorem upd_applyRoll (gen : Nat) (l : List RawRec) (s : State) : Upd [.keys, .ev, .sen] s (applyRoll gen l s) := by
  unfold applyRoll
  repeat' (first
    | with_reducible assumption
    | with_reducible exact Upd.refl _ _
    | (show subParts _ _ = true; rfl)
    | with_reducible apply Upd.ite
    | with_reducible apply Upd.comp (upd_modKeys _ _)
    | with_reducible apply Upd.comp (upd_raise _ _ _ _ _)
    | split)

theorem upd_loadImports (gen : Nat) (l : List RawRec) (s : State) : Upd [.keys] s (loadImports gen l s) := by
  unfold loadImports
  repeat' (first
    | with_reducible assumption
    | with_reducible exact Upd.refl _ _
    | (show subParts _ _ = true; rfl)
    | with_reducible apply Upd.ite
    | with_reducible apply Upd.comp (upd_modKeys _ _)
    | split)

theorem upd_applyImage (k : Nat) (c : SlotCheck) (s : State) : Upd [.clk, .life, .keys, .img, .dlv, .cp, .epd, .ev, .sen, .freeCtr] s (applyImage k c s) := by
  unfold applyImage
  repeat' (first
    | with_reducible assumption
    | with_reducible exact Upd.refl _ _
    | (show subParts _ _ = true; rfl)
    | with_reducible apply Upd.ite
    | (with_reducible apply Upd.foldl; intro u a hu)
    | with_reducible apply Upd.comp (upd_modImg _ _)
    | with_reducible apply Upd.comp (upd_modClk _ _)
    | with_reducible apply Upd.comp (upd_modEpd _ _)
    | with_reducible apply Upd.comp (upd_modDlv _ _)
    | with_reducible apply Upd.comp (upd_modCp _ _ _)
    | with_reducible apply Upd.comp (upd_pinCommissioner _ _ _)
    | with_reducible apply Upd.comp (upd_applyRoll _ _ _)
    | with_reducible apply Upd.comp (upd_loadImports _ _ _)
    | with_reducible apply Upd.comp (upd_syncWins _)
    | with_reducible apply Upd.comp (upd_raise _ _ _ _ _)
    | split)

theorem upd_checkEvent (c : SlotCheck) (s : State) : Upd [.ev, .sen] s (checkEvent c s) := by
  unfold checkEvent
  repeat' (first
    | with_reducible assumption
    | with_reducible exact Upd.refl _ _
    | (show subParts _ _ = true; rfl)
    | with_reducible apply Upd.ite
    | with_reducible apply Upd.comp (upd_raise _ _ _ _ _)
    | split)

theorem upd_execAssetFetch (kind : Nat) (block : Nat) (fails : Nat) (s : State) : ∃ u, execAssetFetch kind block fails s = .next u ∧ Upd [.img, .ev, .sen] s u := by
  unfold execAssetFetch
  refine ⟨_, rfl, ?_⟩
  repeat' (first
    | with_reducible assumption
    | with_reducible exact Upd.refl _ _
    | (show subParts _ _ = true; rfl)
    | with_reducible apply Upd.ite
    | with_reducible apply Upd.comp (upd_modImg _ _)
    | with_reducible apply Upd.comp (upd_raise _ _ _ _ _)
    | split)

theorem upd_slotResult (k : Nat) (reason : Nat) (s : State) : Upd [.img] s (slotResult k reason s) := by
  unfold slotResult
  repeat' (first
    | with_reducible assumption
    | with_reducible exact Upd.refl _ _
    | (show subParts _ _ = true; rfl)
    | with_reducible apply Upd.ite
    | with_reducible apply Upd.comp (upd_modImg _ _)
    | split)

theorem upd_trySlot (k : Nat) (readFail : Bool) (s : State) : Upd [.clk, .life, .keys, .img, .dlv, .cp, .epd, .ev, .sen, .freeCtr] s (trySlot k readFail s).1 := by
  unfold trySlot
  repeat' (first
    | with_reducible assumption
    | with_reducible exact Upd.refl _ _
    | (show subParts _ _ = true; rfl)
    | with_reducible apply Upd.ite
    | with_reducible apply Upd.iteL
    | with_reducible apply Upd.comp (upd_slotResult _ _ _)
    | with_reducible apply Upd.comp (upd_applyImage _ _ _)
    | with_reducible apply Upd.comp (upd_raise _ _ _ _ _)
    | with_reducible apply Upd.comp (upd_checkEvent _ _)
    | split)

theorem upd_selectSlot (failA : Bool) (failB : Bool) (s : State) : Upd [.clk, .life, .keys, .img, .dlv, .cp, .epd, .ev, .sen, .freeCtr] s (selectSlot failA failB s).1 := by
  unfold selectSlot
  repeat' (first
    | with_reducible assumption
    | with_reducible exact Upd.refl _ _
    | (show subParts _ _ = true; rfl)
    | with_reducible apply Upd.ite
    | with_reducible apply Upd.iteL
    | with_reducible apply Upd.comp (upd_modImg _ _)
    | with_reducible apply Upd.comp (upd_trySlot _ _ _)
    | split)

end Sys2Proof.Machine
end

