-- ==== Sys2Proof/Laws/UpdDelivery.lean ====
section
/-! SUPPORT. What the operations of Machine/Delivery.lean change: one lemma for each, that its result differs from its state at most in the parts named,
and that what only grows has not gone back. -/

namespace Sys2Proof.Machine

theorem upd_dlvAbandon (s : State) : Upd [.dlv, .ev, .sen] s (dlvAbandon s) := by
  unfold dlvAbandon
  repeat' (first
    | with_reducible assumption
    | with_reducible exact Upd.refl _ _
    | (show subParts _ _ = true; rfl)
    | with_reducible apply Upd.ite
    | with_reducible apply Upd.comp (upd_modDlv _ _)
    | with_reducible apply Upd.comp (upd_raise _ _ _ _ _)
    | split)

theorem upd_dlvRefuse (p : List W128) (r : Nat) (chunk : Nat) (s : State) : Upd [.dlv, .ev, .sen] s (dlvRefuse p r chunk s).2 := by
  unfold dlvRefuse
  repeat' (first
    | with_reducible assumption
    | with_reducible exact Upd.refl _ _
    | (show subParts _ _ = true; rfl)
    | with_reducible apply Upd.ite
    | with_reducible apply Upd.comp (upd_modDlv _ _)
    | with_reducible apply Upd.comp (upd_raise _ _ _ _ _)
    | split)

theorem upd_dropRestart (s : State) : Upd [.life, .ev, .sen] s (dropRestart s) := by
  unfold dropRestart
  repeat' (first
    | with_reducible assumption
    | with_reducible exact Upd.refl _ _
    | (show subParts _ _ = true; rfl)
    | with_reducible apply Upd.ite
    | exact (fun _ => ⟨rfl, rfl, rfl⟩)
    | with_reducible apply Upd.comp (upd_modLife _ _ ?_)
    | with_reducible apply Upd.comp (upd_raise _ _ _ _ _)
    | split)

theorem upd_dlvBegin (p : List W128) (s : State) : Upd [.life, .flash, .dlv, .ev, .sen] s (dlvBegin p s).2 := by
  unfold dlvBegin
  repeat' (first
    | with_reducible assumption
    | with_reducible exact Upd.refl _ _
    | (show subParts _ _ = true; rfl)
    | with_reducible apply Upd.ite
    | with_reducible apply Upd.iteR
    | exact (fun _ h => h)
    | with_reducible apply Upd.comp (upd_modDlv _ _)
    | with_reducible apply Upd.comp (upd_modFlash _ _ ?_)
    | with_reducible apply Upd.comp (upd_dlvRefuse _ _ _ _)
    | with_reducible apply Upd.comp (upd_dlvAbandon _)
    | with_reducible apply Upd.comp (upd_dropRestart _)
    | with_reducible apply Upd.comp (upd_raise _ _ _ _ _)
    | split)

theorem upd_flashProgram (a : Nat) (bs : List Nat) (s : State) : Upd [.flash] s (flashProgram a bs s) := by
  unfold flashProgram
  repeat' (first
    | (intro x h; exact memWriteAll_wf h)
    | with_reducible assumption
    | with_reducible exact Upd.refl _ _
    | (show subParts _ _ = true; rfl)
    | with_reducible apply Upd.ite
    | exact (fun _ h => h)
    | with_reducible apply Upd.comp (upd_modFlash _ _ ?_)
    | split)

theorem upd_dlvData (p : List W128) (s : State) : Upd [.flash, .dlv, .ev, .sen] s (dlvData p s).2 := by
  unfold dlvData
  repeat' (first
    | with_reducible assumption
    | with_reducible exact Upd.refl _ _
    | (show subParts _ _ = true; rfl)
    | with_reducible apply Upd.ite
    | with_reducible apply Upd.iteR
    | with_reducible apply Upd.comp (upd_modDlv _ _)
    | with_reducible apply Upd.comp (upd_dlvRefuse _ _ _ _)
    | with_reducible apply Upd.comp (upd_flashProgram _ _ _)
    | split)

theorem upd_dlvDrop (p : List W128) (s : State) : Upd [.flash, .dlv, .ev, .sen] s (dlvDrop p s).2 := by
  unfold dlvDrop
  repeat' (first
    | with_reducible assumption
    | with_reducible exact Upd.refl _ _
    | (show subParts _ _ = true; rfl)
    | with_reducible apply Upd.ite
    | exact (fun _ h => h)
    | with_reducible apply Upd.comp (upd_modFlash _ _ ?_)
    | with_reducible apply Upd.comp (upd_dlvRefuse _ _ _ _)
    | with_reducible apply Upd.comp (upd_dlvAbandon _)
    | split)

theorem upd_dlvEnd (p : List W128) (s : State) : Upd [.flash, .dlv, .ev, .sen] s (dlvEnd p s).2 := by
  unfold dlvEnd
  repeat' (first
    | with_reducible assumption
    | with_reducible exact Upd.refl _ _
    | (show subParts _ _ = true; rfl)
    | with_reducible apply Upd.ite
    | with_reducible apply Upd.iteR
    | exact (fun _ h => h)
    | with_reducible apply Upd.comp (upd_modFlash _ _ ?_)
    | with_reducible apply Upd.comp (upd_modDlv _ _)
    | with_reducible apply Upd.comp (upd_dlvRefuse _ _ _ _)
    | split)

theorem upd_dlvOrder {P : List Part} {s0 : State} (k : Nat) (o : OrderRec) (f : List W128 → State → Nat × State) (s : State)
    (hs : subParts [.gates, .keys, .mbus, .lnk, .ev, .sen] P = true) (hf : ∀ b t, Upd P s0 t → Upd P s0 (f b t).2) (h : Upd P s0 s) :
    Upd P s0 (dlvOrder k o f s) := Upd.ite (upd_ordered _ _ _ _ hs hf h) h

theorem upd_dlvResume (s : State) : Upd [.flash, .dlv] s (dlvResume s) := by
  unfold dlvResume
  repeat' (first
    | with_reducible assumption
    | with_reducible exact Upd.refl _ _
    | (show subParts _ _ = true; rfl)
    | with_reducible apply Upd.ite
    | exact (fun _ h => h)
    | with_reducible apply Upd.comp (upd_modDlv _ _)
    | with_reducible apply Upd.comp (upd_modFlash _ _ ?_)
    | split)

theorem upd_execDeliveryAbandon (o : OrderRec) (s : State) : ∃ u, execDeliveryAbandon o s = .next u ∧ Upd [.gates, .keys, .flash, .dlv, .mbus, .lnk, .ev, .sen] s u := by
  unfold execDeliveryAbandon
  refine ⟨_, rfl, ?_⟩
  repeat' (first
    | with_reducible assumption
    | with_reducible exact Upd.refl _ _
    | (show subParts _ _ = true; rfl)
    | with_reducible apply Upd.ite
    | with_reducible apply upd_dlvOrder
    | with_reducible apply Upd.comp (upd_dlvDrop _ _)
    | split
    | intro _ _)

theorem upd_execDeliveryBegin (o : OrderRec) (s : State) : ∃ u, execDeliveryBegin o s = .next u ∧ Upd [.gates, .life, .keys, .flash, .dlv, .mbus, .lnk, .ev, .sen] s u := by
  unfold execDeliveryBegin
  refine ⟨_, rfl, ?_⟩
  repeat' (first
    | with_reducible assumption
    | with_reducible exact Upd.refl _ _
    | (show subParts _ _ = true; rfl)
    | with_reducible apply Upd.ite
    | with_reducible apply upd_dlvOrder
    | with_reducible apply Upd.comp (upd_dlvBegin _ _)
    | split
    | intro _ _)

theorem upd_execDeliveryData (o : OrderRec) (s : State) : ∃ u, execDeliveryData o s = .next u ∧ Upd [.gates, .keys, .flash, .dlv, .mbus, .lnk, .ev, .sen] s u := by
  unfold execDeliveryData
  refine ⟨_, rfl, ?_⟩
  repeat' (first
    | with_reducible assumption
    | with_reducible exact Upd.refl _ _
    | (show subParts _ _ = true; rfl)
    | with_reducible apply Upd.ite
    | with_reducible apply upd_dlvOrder
    | with_reducible apply Upd.comp (upd_dlvData _ _)
    | split
    | intro _ _)

theorem upd_execDeliveryEnd (o : OrderRec) (s : State) : ∃ u, execDeliveryEnd o s = .next u ∧ Upd [.gates, .keys, .flash, .dlv, .mbus, .lnk, .ev, .sen] s u := by
  unfold execDeliveryEnd
  refine ⟨_, rfl, ?_⟩
  repeat' (first
    | with_reducible assumption
    | with_reducible exact Upd.refl _ _
    | (show subParts _ _ = true; rfl)
    | with_reducible apply Upd.ite
    | with_reducible apply upd_dlvOrder
    | with_reducible apply Upd.comp (upd_dlvEnd _ _)
    | split
    | intro _ _)

theorem upd_flashErase (a : Nat) (n : Nat) (s : State) : Upd [.flash] s (flashErase a n s) := by
  unfold flashErase
  repeat' (first
    | (intro x h; exact memFilter_wf h)
    | with_reducible assumption
    | with_reducible exact Upd.refl _ _
    | (show subParts _ _ = true; rfl)
    | with_reducible apply Upd.ite
    | exact (fun _ h => h)
    | with_reducible apply Upd.comp (upd_modFlash _ _ ?_)
    | split)

theorem upd_execDeliveryEraseDone (s : State) : ∃ u, execDeliveryEraseDone s = .next u ∧ Upd [.flash, .dlv] s u := by
  unfold execDeliveryEraseDone
  refine ⟨_, rfl, ?_⟩
  repeat' (first
    | with_reducible assumption
    | with_reducible exact Upd.refl _ _
    | (show subParts _ _ = true; rfl)
    | with_reducible apply Upd.ite
    | exact (fun _ h => h)
    | with_reducible apply Upd.comp (upd_modFlash _ _ ?_)
    | with_reducible apply Upd.comp (upd_modDlv _ _)
    | with_reducible apply Upd.comp (upd_flashErase _ _ _)
    | split)

theorem upd_execDeliveryVerifyDone (readFail : Bool) (s : State) : ∃ u, execDeliveryVerifyDone readFail s = .next u ∧ Upd [.img, .flash, .dlv, .ev, .sen] s u := by
  unfold execDeliveryVerifyDone
  refine ⟨_, rfl, ?_⟩
  repeat' (first
    | with_reducible assumption
    | with_reducible exact Upd.refl _ _
    | (show subParts _ _ = true; rfl)
    | with_reducible apply Upd.ite
    | exact (fun _ h => h)
    | with_reducible apply Upd.comp (upd_modFlash _ _ ?_)
    | with_reducible apply Upd.comp (upd_modImg _ _)
    | with_reducible apply Upd.comp (upd_modDlv _ _)
    | with_reducible apply Upd.comp (upd_slotResult _ _ _)
    | with_reducible apply Upd.comp (upd_raise _ _ _ _ _)
    | with_reducible apply Upd.comp (upd_checkEvent _ _)
    | split)

end Sys2Proof.Machine
end

