-- ==== Sys2Proof/Laws/UpdEngines.lean ====
section
/-! SUPPORT. What the operations of Machine/Engines.lean change: one lemma for each, that its result differs from its state at most in the parts named,
and that what only grows has not gone back. -/

namespace Sys2Proof.Machine

theorem upd_sesRestart (s : State) : Upd [.keys, .ports, .cp, .plc, .ses, .sesSys, .auth, .authSys, .ev, .sen] s (sesRestart s) := by
  unfold sesRestart
  repeat' (first
    | with_reducible assumption
    | with_reducible exact Upd.refl _ _
    | (show subParts _ _ = true; rfl)
    | with_reducible apply Upd.ite
    | (with_reducible apply Upd.foldl; intro u a hu)
    | with_reducible apply Upd.comp (upd_modCp _ _ _)
    | with_reducible apply Upd.comp (upd_modPlc _ _ _)
    | with_reducible apply Upd.comp (upd_modAuth _ _ _)
    | with_reducible apply Upd.comp (upd_modSesSys _ _)
    | with_reducible apply Upd.comp (upd_modKeys _ _)
    | with_reducible apply Upd.comp (upd_modAuthSys _ _)
    | with_reducible apply Upd.comp (upd_closeContext _ _)
    | with_reducible apply Upd.comp (upd_raiseIf _ _ _ _ _ _)
    | split)

theorem upd_clearEngine (e : EngineId) (s : State) : Upd [.keys, .ports, .cp, .plc, .ses, .sesSys, .auth, .authSys, .mbus, .tag, .phy, .lnk, .share, .epd, .ev, .sen] s (clearEngine e s) := by
  unfold clearEngine
  cases e <;> dsimp only
  repeat' (first
    | with_reducible assumption
    | with_reducible exact Upd.refl _ _
    | (show subParts _ _ = true; rfl)
    | with_reducible apply Upd.ite
    | exact (fun _ h => h)
    | with_reducible apply Upd.comp (upd_modMbus _ _)
    | with_reducible apply Upd.comp (upd_modTag _ _ ?_)
    | with_reducible apply Upd.comp (upd_sesRestart _)
    | with_reducible apply Upd.comp (upd_linkReset _)
    | with_reducible apply Upd.comp (upd_epdRelease _ _)
    | with_reducible apply Upd.comp (upd_epdRom _)
    | split)

theorem upd_haloDown (slot : Fin 8) (s : State) : Upd [.meas] s (haloDown slot s) := by
  unfold haloDown
  repeat' (first
    | with_reducible assumption
    | with_reducible exact Upd.refl _ _
    | (show subParts _ _ = true; rfl)
    | with_reducible apply Upd.ite
    | with_reducible apply Upd.comp (upd_modMeas _ _ _)
    | with_reducible apply Upd.comp (upd_haloDrop _ _)
    | split)

theorem upd_hubDown (cause : Nat) (s : State) : Upd ([.eng, .gates, .clk, .life, .keys, .img, .flash, .ports, .meas, .met, .pmet, .safe, .psafe, .cp, .plc, .pipes, .ses, .sesSys, .auth, .authSys] ++ [.mbus, .tag, .phy, .lnk, .share, .epd, .ev]) s (hubDown cause s) := by
  unfold hubDown
  dsimp only
  refine Upd.foldl (fun u a hu => Upd.comp (upd_modPsafe a _ u) (by rfl) hu) ?_
  have h := Upd.foldl (P := ([.eng, .gates, .clk, .life, .keys, .img, .flash, .ports, .meas, .met, .pmet, .safe, .psafe, .cp, .plc, .pipes, .ses, .sesSys, .auth, .authSys] ++ [.mbus, .tag, .phy, .lnk, .share, .epd, .ev])) (s := s) (t := s) (F := fun s k => haloDown k s) (l := finList 8)
    (fun u a hu => Upd.comp (upd_haloDown a u) (by rfl) hu) (Upd.refl _ s)
  generalize List.foldl (fun s k => haloDown k s) s (finList 8) = x at *
  refine Upd.comp (A := ([.eng, .gates, .clk, .life, .keys, .img, .flash, .ports, .met, .pmet, .safe, .cp, .plc, .pipes, .ses, .sesSys, .auth, .authSys, .mbus, .tag] ++ [.phy, .lnk, .share, .epd, .ev])) ?_ (by rfl) h
  constructor
  case later => exact ⟨rfl, rfl, fun _ h => h, Nat.le_refl _, Nat.le_refl _, Nat.le_refl _, fun h => h, fun h => h⟩
  all_goals first | rfl | (intro n; first | rfl | exact absurd n (by decide))

theorem upd_endRowSteps (e : EngineId) (s : State) : Upd [.fab] s (endRowSteps e s) := by
  unfold endRowSteps
  repeat' (first
    | with_reducible assumption
    | with_reducible exact Upd.refl _ _
    | (show subParts _ _ = true; rfl)
    | with_reducible apply Upd.ite
    | (with_reducible apply Upd.foldl; intro u a hu)
    | with_reducible apply Upd.comp (upd_modBank _ _ _)
    | split)

theorem upd_restartAlone (e : EngineId) (s : State) : Upd ([.eng, .gates, .clk, .life, .keys, .img, .flash, .ports, .meas, .met, .pmet, .safe, .psafe, .cp, .plc, .pipes, .ses, .sesSys, .auth, .authSys] ++ [.mbus, .tag, .phy, .lnk, .share, .epd, .fab, .ev, .sen]) s (restartAlone e s) := by
  unfold restartAlone
  repeat' (first
    | with_reducible assumption
    | with_reducible exact Upd.refl _ _
    | (show subParts _ _ = true; rfl)
    | with_reducible apply Upd.ite
    | with_reducible apply Upd.comp (upd_modEng _ _)
    | with_reducible apply Upd.comp (upd_hubDown _ _)
    | with_reducible apply Upd.comp (upd_clearEngine _ _)
    | with_reducible apply Upd.comp (upd_endRowSteps _ _)
    | with_reducible apply Upd.comp (upd_raise _ _ _ _ _)
    | split)

theorem upd_engineLost (e : EngineId) (s : State) : Upd ([.eng, .gates, .clk, .life, .keys, .img, .flash, .ports, .meas, .met, .pmet, .safe, .psafe, .cp, .plc, .pipes, .ses, .sesSys, .auth, .authSys] ++ [.mbus, .tag, .phy, .lnk, .share, .epd, .fab, .ev, .sen]) s (engineLost e s) := by
  unfold engineLost
  repeat' (first
    | with_reducible assumption
    | with_reducible exact Upd.refl _ _
    | (show subParts _ _ = true; rfl)
    | with_reducible apply Upd.ite
    | (with_reducible apply Upd.foldl; intro u a hu)
    | with_reducible apply Upd.comp (upd_modSafe _ _)
    | with_reducible apply Upd.comp (upd_raise _ _ _ _ _)
    | with_reducible apply Upd.comp (upd_hubDown _ _)
    | with_reducible apply Upd.comp (upd_railOpen _ _)
    | with_reducible apply Upd.comp (upd_restartAlone _ _)
    | with_reducible apply Upd.comp (upd_sesEnd _ _ _)
    | split)

theorem upd_execCrossWorldWrite (e : EngineId) (addr : Nat) (s : State) : ∃ u, execCrossWorldWrite e addr s = .next u ∧ Upd ([.eng, .gates, .clk, .life, .keys, .img, .flash, .ports, .meas, .met, .pmet, .safe, .psafe, .cp, .plc, .pipes, .ses, .sesSys, .auth, .authSys] ++ [.mbus, .tag, .phy, .lnk, .share, .epd, .fab, .ev, .sen]) s u := by
  unfold execCrossWorldWrite
  refine ⟨_, rfl, ?_⟩
  repeat' (first
    | with_reducible assumption
    | with_reducible exact Upd.refl _ _
    | (show subParts _ _ = true; rfl)
    | with_reducible apply Upd.ite
    | with_reducible apply Upd.comp (upd_modEng _ _)
    | with_reducible apply Upd.comp (upd_engineLost _ _)
    | with_reducible apply Upd.comp (upd_raise _ _ _ _ _)
    | split)

theorem upd_execHeartbeatLost (e : EngineId) (s : State) : ∃ u, execHeartbeatLost e s = .next u ∧ Upd ([.eng, .gates, .clk, .life, .keys, .img, .flash, .ports, .meas, .met, .pmet, .safe, .psafe, .cp, .plc, .pipes, .ses, .sesSys, .auth, .authSys] ++ [.mbus, .tag, .phy, .lnk, .share, .epd, .fab, .ev, .sen]) s u := by
  unfold execHeartbeatLost
  refine ⟨_, rfl, ?_⟩
  repeat' (first
    | with_reducible assumption
    | with_reducible exact Upd.refl _ _
    | (show subParts _ _ = true; rfl)
    | with_reducible apply Upd.ite
    | with_reducible apply Upd.comp (upd_modEng _ _)
    | with_reducible apply Upd.comp (upd_engineLost _ _)
    | split)

theorem upd_execLaneResidueError (l : Fin 18) (s : State) : ∃ u, execLaneResidueError l s = .next u ∧ Upd ([.eng, .gates, .clk, .life, .keys, .img, .flash, .ports, .meas, .met, .pmet, .safe, .psafe, .cp, .plc, .pipes, .ses, .sesSys, .auth, .authSys] ++ [.mbus, .tag, .phy, .lnk, .share, .epd, .fab, .ev, .sen]) s u := by
  unfold execLaneResidueError
  refine ⟨_, rfl, ?_⟩
  repeat' (first
    | with_reducible assumption
    | with_reducible exact Upd.refl _ _
    | (show subParts _ _ = true; rfl)
    | with_reducible apply Upd.ite
    | with_reducible apply Upd.comp (upd_modFab _ _)
    | with_reducible apply Upd.comp (upd_modLane _ _ _)
    | with_reducible apply Upd.comp (upd_engineLost _ _)
    | split)

theorem upd_structBad (w : MramStruct) (s : State) : Upd [.clk, .keys, .pmet, .safe, .epd] s (structBad w s) := by
  unfold structBad
  cases w <;> dsimp only
  repeat' (first
    | with_reducible assumption
    | with_reducible exact Upd.refl _ _
    | (show subParts _ _ = true; rfl)
    | with_reducible apply Upd.ite
    | with_reducible apply Upd.comp (upd_modSafe _ _)
    | with_reducible apply Upd.comp (upd_modPmet _ _ _)
    | with_reducible apply Upd.comp (upd_modKeys _ _)
    | with_reducible apply Upd.comp (upd_modEpd _ _)
    | with_reducible apply Upd.comp (upd_modClk _ _)
    | split)

theorem upd_execMramUncorrectableError (addr : Nat) (w : MramStruct) (s : State) : ∃ u, execMramUncorrectableError addr w s = .next u ∧ Upd [.clk, .keys, .pmet, .safe, .epd, .fab, .ev, .sen] s u := by
  unfold execMramUncorrectableError
  refine ⟨_, rfl, ?_⟩
  repeat' (first
    | with_reducible assumption
    | with_reducible exact Upd.refl _ _
    | (show subParts _ _ = true; rfl)
    | with_reducible apply Upd.ite
    | with_reducible apply Upd.comp (upd_modFab _ _)
    | with_reducible apply Upd.comp (upd_structBad _ _)
    | with_reducible apply Upd.comp (upd_raise _ _ _ _ _)
    | split)

theorem upd_execSramUncorrectableError (bank : Fin 32) (row : Nat) (s : State) : ∃ u, execSramUncorrectableError bank row s = .next u ∧ Upd ([.eng, .gates, .clk, .life, .keys, .img, .flash, .ports, .meas, .met, .pmet, .safe, .psafe, .cp, .plc, .pipes, .ses, .sesSys, .auth, .authSys] ++ [.mbus, .tag, .phy, .lnk, .share, .epd, .fab, .ev, .sen]) s u := by
  unfold execSramUncorrectableError
  refine ⟨_, rfl, ?_⟩
  repeat' (first
    | with_reducible assumption
    | with_reducible exact Upd.refl _ _
    | (show subParts _ _ = true; rfl)
    | with_reducible apply Upd.ite
    | with_reducible apply Upd.comp (upd_modBank _ _ _)
    | with_reducible apply Upd.comp (upd_engineLost _ _)
    | with_reducible apply Upd.comp (upd_raise _ _ _ _ _)
    | split)

end Sys2Proof.Machine
end

