-- ==== Sys2Proof/Laws/UpdHeadSide.lean ====
section
/-! SUPPORT. What the operations of Machine/HeadSide.lean change: one lemma for each, that its result differs from its state at most in the parts named,
and that what only grows has not gone back. -/

namespace Sys2Proof.Machine

theorem upd_headFrame (slot : Fin 8) (typ : Nat) (ws : List W32) (framed : Bool) (f : Head → Head) (s : State) : Upd [.heads] s (headFrame slot typ ws framed f s) := by
  unfold headFrame
  repeat' (first
    | with_reducible assumption
    | with_reducible exact Upd.refl _ _
    | (show subParts _ _ = true; rfl)
    | with_reducible apply Upd.ite
    | with_reducible apply Upd.comp (upd_modHead _ _ _)
    | split)

theorem upd_execHeadCheckFrame (slot : Fin 8) (ws : List W32) (framed : Bool) (result : Option (Bool × Nat)) (s : State) : ∃ u, execHeadCheckFrame slot ws framed result s = .next u ∧ Upd [.heads] s u := by
  unfold execHeadCheckFrame
  refine ⟨_, rfl, ?_⟩
  repeat' (first
    | with_reducible assumption
    | with_reducible exact Upd.refl _ _
    | (show subParts _ _ = true; rfl)
    | with_reducible apply Upd.ite
    | with_reducible apply Upd.comp (upd_headFrame _ _ _ _ _ _)
    | split)

theorem upd_execHeadFailsafe (slot : Fin 8) (s : State) : ∃ u, execHeadFailsafe slot s = .next u ∧ Upd [.heads] s u := by
  unfold execHeadFailsafe
  refine ⟨_, rfl, ?_⟩
  repeat' (first
    | with_reducible assumption
    | with_reducible exact Upd.refl _ _
    | (show subParts _ _ = true; rfl)
    | with_reducible apply Upd.ite
    | with_reducible apply Upd.comp (upd_modHead _ _ _)
    | split)

theorem upd_execHeadLockDriveCap (point : Fin 32) (s : State) : ∃ u, execHeadLockDriveCap point s = .next u ∧ Upd [.heads] s u := by
  unfold execHeadLockDriveCap
  refine ⟨_, rfl, ?_⟩
  repeat' (first
    | with_reducible assumption
    | with_reducible exact Upd.refl _ _
    | (show subParts _ _ = true; rfl)
    | with_reducible apply Upd.ite
    | with_reducible apply Upd.comp (upd_modHead _ _ _)
    | split)

theorem upd_execHeadPairFrame (slot : Fin 8) (ws : List W32) (framed : Bool) (nd : Nat) (hub : Nat) (s : State) : ∃ u, execHeadPairFrame slot ws framed nd hub s = .next u ∧ Upd [.heads] s u := by
  unfold execHeadPairFrame
  refine ⟨_, rfl, ?_⟩
  repeat' (first
    | with_reducible assumption
    | with_reducible exact Upd.refl _ _
    | (show subParts _ _ = true; rfl)
    | with_reducible apply Upd.ite
    | with_reducible apply Upd.comp (upd_headFrame _ _ _ _ _ _)
    | split)

theorem upd_execHeadRunFrame (slot : Fin 8) (ws : List W32) (framed : Bool) (fgPass : Fin 16) (s : State) : ∃ u, execHeadRunFrame slot ws framed fgPass s = .next u ∧ Upd [.heads] s u := by
  unfold execHeadRunFrame
  refine ⟨_, rfl, ?_⟩
  repeat' (first
    | with_reducible assumption
    | with_reducible exact Upd.refl _ _
    | (show subParts _ _ = true; rfl)
    | with_reducible apply Upd.ite
    | with_reducible apply Upd.comp (upd_headFrame _ _ _ _ _ _)
    | split)

theorem upd_execHeadUnpairTimeout (slot : Fin 8) (s : State) : ∃ u, execHeadUnpairTimeout slot s = .next u ∧ Upd [.heads] s u := by
  unfold execHeadUnpairTimeout
  refine ⟨_, rfl, ?_⟩
  repeat' (first
    | with_reducible assumption
    | with_reducible exact Upd.refl _ _
    | (show subParts _ _ = true; rfl)
    | with_reducible apply Upd.ite
    | with_reducible apply Upd.comp (upd_modHead _ _ _)
    | split)

end Sys2Proof.Machine
end

