-- ==== Sys2Proof/Laws/UpdOutage.lean ====
section
/-! SUPPORT. What the operations of Machine/Outage.lean change: one lemma for each, that its result differs from its state at most in the parts named,
and that what only grows has not gone back. -/

namespace Sys2Proof.Machine

theorem upd_dropDead (cause : Nat) (s : State) : Upd ([.eng, .gates, .clk, .life, .keys, .img, .flash, .ports, .meas, .met, .pmet, .safe, .psafe, .cp, .plc, .pipes, .ses, .sesSys, .auth, .authSys] ++ [.mbus, .tag, .phy, .lnk, .share, .epd, .ev]) s (dropDead cause s) := by
  unfold dropDead
  repeat' (first
    | with_reducible assumption
    | with_reducible exact Upd.refl _ _
    | (show subParts _ _ = true; rfl)
    | with_reducible apply Upd.ite
    | exact (fun _ => ⟨rfl, rfl, rfl⟩)
    | with_reducible apply Upd.comp (upd_modLife _ _ ?_)
    | with_reducible apply Upd.comp (upd_hubDown _ _)
    | split)

theorem upd_dropHead (slot : Fin 8) (s : State) : Upd [.heads, .hpipes] s (dropHead slot s) := by
  unfold dropHead
  repeat' (first
    | with_reducible assumption
    | with_reducible exact Upd.refl _ _
    | (show subParts _ _ = true; rfl)
    | with_reducible apply Upd.ite
    | with_reducible apply Upd.comp (upd_modHpipes _ _ _)
    | with_reducible apply Upd.comp (upd_modHead _ _ _)
    | split)

theorem upd_enterDormant (s : State) : Upd [.life, .sen] s (enterDormant s) := by
  unfold enterDormant
  repeat' (first
    | with_reducible assumption
    | with_reducible exact Upd.refl _ _
    | (show subParts _ _ = true; rfl)
    | with_reducible apply Upd.ite
    | exact (fun _ => ⟨rfl, rfl, rfl⟩)
    | with_reducible apply Upd.comp (upd_modLife _ _ ?_)
    | with_reducible apply Upd.comp (upd_modSen _ _)
    | split)

theorem upd_execHeadReset (slot : Fin 8) (held : Bool) (s : State) : ∃ u, execHeadReset slot held s = .next u ∧ Upd [.heads, .hpipes] s u := by
  unfold execHeadReset
  refine ⟨_, rfl, ?_⟩
  repeat' (first
    | with_reducible assumption
    | with_reducible exact Upd.refl _ _
    | (show subParts _ _ = true; rfl)
    | with_reducible apply Upd.ite
    | with_reducible apply Upd.comp (upd_modHead _ _ _)
    | with_reducible apply Upd.comp (upd_dropHead _ _)
    | split)

theorem upd_execHeadSupplyLoss (slot : Fin 8) (s : State) : ∃ u, execHeadSupplyLoss slot s = .next u ∧ Upd [.heads, .hpipes] s u := by
  unfold execHeadSupplyLoss
  refine ⟨_, rfl, ?_⟩
  repeat' (first
    | with_reducible assumption
    | with_reducible exact Upd.refl _ _
    | (show subParts _ _ = true; rfl)
    | with_reducible apply Upd.ite
    | with_reducible apply Upd.comp (upd_dropHead _ _)
    | split)

theorem upd_execLastLightDone (s : State) : ∃ u, execLastLightDone s = .next u ∧ Upd [.life, .tag, .epd, .ev, .sen] s u := by
  unfold execLastLightDone
  refine ⟨_, rfl, ?_⟩
  repeat' (first
    | with_reducible assumption
    | with_reducible exact Upd.refl _ _
    | (show subParts _ _ = true; rfl)
    | with_reducible apply Upd.ite
    | with_reducible apply Upd.comp (upd_modEpd _ _)
    | with_reducible apply Upd.comp (upd_modSen _ _)
    | with_reducible apply Upd.comp (upd_raise _ _ _ _ _)
    | with_reducible apply Upd.comp (upd_modelWrite _ _ _ _)
    | with_reducible apply Upd.comp (upd_enterDormant _)
    | with_reducible apply Upd.comp (upd_tagGauge _)
    | split)

theorem upd_lossStops (s : State) : Upd [.flash, .phy, .lnk, .ev, .sen] s (lossStops s) := by
  unfold lossStops
  repeat' (first
    | with_reducible assumption
    | with_reducible exact Upd.refl _ _
    | (show subParts _ _ = true; rfl)
    | with_reducible apply Upd.ite
    | exact (fun _ h => h)
    | with_reducible apply Upd.comp (upd_modFlash _ _ ?_)
    | with_reducible apply Upd.comp (upd_linkLoss _)
    | split)

theorem upd_lossRail (s : State) : Upd [.ports, .safe, .psafe, .cp, .ev, .sen] s (lossRail s) := by
  unfold lossRail
  repeat' (first
    | with_reducible assumption
    | with_reducible exact Upd.refl _ _
    | (show subParts _ _ = true; rfl)
    | with_reducible apply Upd.ite
    | (with_reducible apply Upd.foldl; intro u a hu)
    | with_reducible apply Upd.comp (upd_modSafe _ _)
    | with_reducible apply Upd.comp (upd_modPort _ _ _)
    | with_reducible apply Upd.comp (upd_modCp _ _ _)
    | with_reducible apply Upd.comp (upd_modSen _ _)
    | with_reducible apply Upd.comp (upd_railOpen _ _)
    | split)

theorem upd_lossRise (cause : Nat) (s : State) : Upd [.ev, .sen] s (lossRise cause s) := by
  unfold lossRise
  repeat' (first
    | with_reducible assumption
    | with_reducible exact Upd.refl _ _
    | (show subParts _ _ = true; rfl)
    | with_reducible apply Upd.ite
    | with_reducible apply Upd.comp (upd_modSen _ _)
    | with_reducible apply Upd.comp (upd_raise _ _ _ _ _)
    | split)

theorem upd_stepLate (step : Nat) (t : Nat) (limit : Nat) (s : State) : Upd [.ev, .sen] s (stepLate step t limit s) := by
  unfold stepLate
  repeat' (first
    | with_reducible assumption
    | with_reducible exact Upd.refl _ _
    | (show subParts _ _ = true; rfl)
    | with_reducible apply Upd.ite
    | with_reducible apply Upd.comp (upd_raiseIf _ _ _ _ _ _)
    | split)

theorem upd_lossEndSessions (s : State) : Upd [.gates, .psafe, .ses, .led, .ev, .sen] s (lossEndSessions s) := by
  unfold lossEndSessions
  repeat' (first
    | with_reducible assumption
    | with_reducible exact Upd.refl _ _
    | (show subParts _ _ = true; rfl)
    | with_reducible apply Upd.ite
    | (with_reducible apply Upd.foldl; intro u a hu)
    | with_reducible apply Upd.comp (upd_modGates _ _)
    | with_reducible apply Upd.comp (upd_sesEnd _ _ _)
    | with_reducible apply Upd.comp (upd_modBind _ _ _)
    | split)

theorem upd_lossMeter (s : State) : Upd [.gates, .met, .pmet, .psafe, .ses, .led, .recs, .ev, .sen] s (lossMeter s) := by
  unfold lossMeter
  repeat' (first
    | with_reducible assumption
    | with_reducible exact Upd.refl _ _
    | (show subParts _ _ = true; rfl)
    | with_reducible apply Upd.ite
    | (with_reducible apply Upd.foldl; intro u a hu)
    | with_reducible apply Upd.comp (upd_modPmet _ _ _)
    | with_reducible apply Upd.comp (upd_modMet _ _)
    | with_reducible apply Upd.comp (upd_modSen _ _)
    | with_reducible apply Upd.comp (upd_lossEndSessions _)
    | with_reducible apply Upd.comp (upd_meterAndBook _ _ _ _)
    | with_reducible apply Upd.comp (upd_raiseIf _ _ _ _ _ _)
    | with_reducible apply Upd.comp (upd_ledFlush _ _)
    | split)

theorem upd_lossJournal (t : OutTimes) (s : State) : Upd [.ev, .sen, .jrn] s (lossJournal t s) := by
  unfold lossJournal
  repeat' (first
    | with_reducible assumption
    | with_reducible exact Upd.refl _ _
    | (show subParts _ _ = true; rfl)
    | with_reducible apply Upd.ite
    | with_reducible apply Upd.comp (upd_modSen _ _)
    | with_reducible apply Upd.comp (upd_jrnWrite _ _ _ _ _ _)
    | split)

theorem upd_execMainsLoss (pwrFail : Bool) (ms : Bool) (t : OutTimes) (s : State) : ∃ u, execMainsLoss pwrFail ms t s = .next u ∧ Upd [.gates, .life, .flash, .ports, .met, .pmet, .safe, .psafe, .cp, .ses, .led, .recs, .phy, .lnk, .ev, .sen, .jrn] s u := by
  unfold execMainsLoss
  refine ⟨_, rfl, ?_⟩
  repeat' (first
    | with_reducible assumption
    | with_reducible exact Upd.refl _ _
    | (show subParts _ _ = true; rfl)
    | with_reducible apply Upd.ite
    | exact (fun _ => ⟨rfl, rfl, rfl⟩)
    | with_reducible apply Upd.comp (upd_modSen _ _)
    | with_reducible apply Upd.comp (upd_modLife _ _ ?_)
    | with_reducible apply Upd.comp (upd_lossStops _)
    | with_reducible apply Upd.comp (upd_lossRail _)
    | with_reducible apply Upd.comp (upd_lossRise _ _)
    | with_reducible apply Upd.comp (upd_stepLate _ _ _ _)
    | with_reducible apply Upd.comp (upd_lossMeter _)
    | with_reducible apply Upd.comp (upd_lossJournal _ _)
    | split)

theorem upd_execNresetAssert (s : State) : ∃ u, execNresetAssert s = .next u ∧ Upd ([.eng, .gates, .clk, .life, .keys, .img, .flash, .ports, .meas, .met, .pmet, .safe, .psafe, .cp, .plc, .pipes, .ses, .sesSys, .auth, .authSys] ++ [.mbus, .tag, .phy, .lnk, .share, .epd, .ev, .elec]) s u := by
  unfold execNresetAssert
  refine ⟨_, rfl, ?_⟩
  repeat' (first
    | with_reducible assumption
    | with_reducible exact Upd.refl _ _
    | (show subParts _ _ = true; rfl)
    | with_reducible apply Upd.ite
    | with_reducible apply Upd.comp (upd_modElec _ _)
    | with_reducible apply Upd.comp (upd_setOuts _ _ _)
    | with_reducible apply Upd.comp (upd_dropDead _ _)
    | split)

theorem upd_outageTag (s : State) : Upd [.tag] s (outageTag s) := by
  unfold outageTag
  repeat' (first
    | with_reducible assumption
    | with_reducible exact Upd.refl _ _
    | (show subParts _ _ = true; rfl)
    | with_reducible apply Upd.ite
    | with_reducible apply Upd.comp (upd_tagGauge _)
    | with_reducible apply Upd.comp (upd_tagOutageFlags _)
    | split)

theorem upd_execOutageJournalDone (fallen : Bool) (s : State) : ∃ u, execOutageJournalDone fallen s = .next u ∧ Upd ([.eng, .gates, .clk, .life, .keys, .img, .flash, .ports, .meas, .met, .pmet, .safe, .psafe, .cp, .plc, .pipes, .ses, .sesSys, .auth, .authSys] ++ [.mbus, .tag, .phy, .lnk, .share, .epd, .ev, .sen]) s u := by
  unfold execOutageJournalDone
  refine ⟨_, rfl, ?_⟩
  repeat' (first
    | with_reducible assumption
    | with_reducible exact Upd.refl _ _
    | (show subParts _ _ = true; rfl)
    | with_reducible apply Upd.ite
    | with_reducible apply Upd.comp (upd_modSen _ _)
    | with_reducible apply Upd.comp (upd_raise _ _ _ _ _)
    | with_reducible apply Upd.comp (upd_hubDown _ _)
    | with_reducible apply Upd.comp (upd_epdLastLight _ _)
    | with_reducible apply Upd.comp (upd_outageTag _)
    | with_reducible apply Upd.comp (upd_enterDormant _)
    | split)

theorem upd_execSupplyBrownout (s : State) : ∃ u, execSupplyBrownout s = .next u ∧ Upd ([.eng, .gates, .clk, .life, .keys, .img, .flash, .ports, .meas, .met, .pmet, .safe, .psafe, .cp, .plc, .pipes, .ses, .sesSys, .auth, .authSys] ++ [.mbus, .tag, .phy, .lnk, .share, .epd, .ev, .elec]) s u := by
  unfold execSupplyBrownout
  refine ⟨_, rfl, ?_⟩
  repeat' (first
    | with_reducible assumption
    | with_reducible exact Upd.refl _ _
    | (show subParts _ _ = true; rfl)
    | with_reducible apply Upd.ite
    | with_reducible apply Upd.comp (upd_modElec _ _)
    | with_reducible apply Upd.comp (upd_dropDead _ _)
    | split)

theorem upd_execSupplyFallInOutage (s : State) : ∃ u, execSupplyFallInOutage s = .next u ∧ Upd [.life, .tag, .sen, .elec] s u := by
  unfold execSupplyFallInOutage
  refine ⟨_, rfl, ?_⟩
  repeat' (first
    | with_reducible assumption
    | with_reducible exact Upd.refl _ _
    | (show subParts _ _ = true; rfl)
    | with_reducible apply Upd.ite
    | with_reducible apply Upd.comp (upd_modElec _ _)
    | with_reducible apply Upd.comp (upd_enterDormant _)
    | with_reducible apply Upd.comp (upd_outageTag _)
    | split)

theorem upd_execXtal25Stop (s : State) : ∃ u, execXtal25Stop s = .next u ∧ Upd ([.eng, .gates, .clk, .life, .keys, .img, .flash, .ports, .meas, .met, .pmet, .safe, .psafe, .cp, .plc, .pipes, .ses, .sesSys, .auth, .authSys] ++ [.mbus, .tag, .phy, .lnk, .share, .epd, .ev, .elec]) s u := by
  unfold execXtal25Stop
  refine ⟨_, rfl, ?_⟩
  repeat' (first
    | with_reducible assumption
    | with_reducible exact Upd.refl _ _
    | (show subParts _ _ = true; rfl)
    | with_reducible apply Upd.ite
    | with_reducible apply Upd.comp (upd_modElec _ _)
    | with_reducible apply Upd.comp (upd_setOuts _ _ _)
    | with_reducible apply Upd.comp (upd_dropDead _ _)
    | split)

end Sys2Proof.Machine
end

