-- ==== Sys2Proof/Laws/UpdRetire.lean ====
section
/-! SUPPORT. What the operations of Machine/Retire.lean change: one lemma for each, that its result differs from its state at most in the parts named,
and that what only grows has not gone back. -/

namespace Sys2Proof.Machine

theorem upd_closeBindings (reason : Nat) (s : State) : Upd [.gates, .led] s (closeBindings reason s) := by
  unfold closeBindings
  repeat' (first
    | with_reducible assumption
    | with_reducible exact Upd.refl _ _
    | (show subParts _ _ = true; rfl)
    | with_reducible apply Upd.ite
    | (with_reducible apply Upd.foldl; intro u a hu)
    | with_reducible apply Upd.comp (upd_modGates _ _)
    | with_reducible apply Upd.comp (upd_modBind _ _ _)
    | split)

theorem upd_endAllSessions (reason : Nat) (s : State) : Upd [.gates, .keys, .ports, .psafe, .cp, .plc, .ses, .sesSys, .ev, .sen] s (endAllSessions reason s) := by
  unfold endAllSessions
  repeat' (first
    | with_reducible assumption
    | with_reducible exact Upd.refl _ _
    | (show subParts _ _ = true; rfl)
    | with_reducible apply Upd.ite
    | (with_reducible apply Upd.foldl; intro u a hu)
    | with_reducible apply Upd.comp (upd_modSes _ _ _)
    | with_reducible apply Upd.comp (upd_goOut _ _ _)
    | split)

theorem upd_endRun (reason : Nat) (s : State) : Upd [.gates, .keys, .ports, .met, .pmet, .safe, .psafe, .cp, .plc, .ses, .sesSys, .led, .recs, .ev, .sen] s (endRun reason s) := by
  unfold endRun
  repeat' (first
    | with_reducible assumption
    | with_reducible exact Upd.refl _ _
    | (show subParts _ _ = true; rfl)
    | with_reducible apply Upd.ite
    | with_reducible apply Upd.comp (upd_modSafe _ _)
    | with_reducible apply Upd.comp (upd_ledFinal _)
    | with_reducible apply Upd.comp (upd_closeBindings _ _)
    | with_reducible apply Upd.comp (upd_endAllSessions _ _)
    | with_reducible apply Upd.comp (upd_railOpen _ _)
    | split)

theorem upd_execRestartDue (s : State) : ∃ u, execRestartDue s = .next u ∧ Upd ([.eng, .gates, .clk, .life, .keys, .img, .flash, .ports, .meas, .met, .pmet, .safe, .psafe, .cp, .plc, .pipes, .ses, .sesSys, .auth, .authSys] ++ [.led, .recs, .mbus, .tag, .phy, .lnk, .share, .epd, .ev, .sen]) s u := by
  unfold execRestartDue
  refine ⟨_, rfl, ?_⟩
  repeat' (first
    | with_reducible assumption
    | with_reducible exact Upd.refl _ _
    | (show subParts _ _ = true; rfl)
    | with_reducible apply Upd.ite
    | exact (fun _ => ⟨rfl, rfl, rfl⟩)
    | with_reducible apply Upd.comp (upd_modLife _ _ ?_)
    | with_reducible apply Upd.comp (upd_raise _ _ _ _ _)
    | with_reducible apply Upd.comp (upd_hubDown _ _)
    | with_reducible apply Upd.comp (upd_endRun _ _)
    | split)

theorem upd_execRetireCellBurn (s : State) : ∃ u, execRetireCellBurn s = .next u ∧ Upd ([.eng, .gates, .clk, .life, .keys, .img, .flash, .ports, .meas, .met, .pmet, .safe, .psafe, .cp, .plc, .pipes, .ses, .sesSys, .auth, .authSys] ++ [.mbus, .tag, .phy, .lnk, .share, .epd, .ev, .sen]) s u := by
  unfold execRetireCellBurn
  refine ⟨_, rfl, ?_⟩
  repeat' (first
    | with_reducible assumption
    | with_reducible exact Upd.refl _ _
    | (show subParts _ _ = true; rfl)
    | with_reducible apply Upd.ite
    | with_reducible apply Upd.comp (upd_hubDown _ _)
    | with_reducible apply Upd.comp (upd_zeroise _)
    | with_reducible apply Upd.comp (upd_raise _ _ _ _ _)
    | with_reducible apply Upd.comp (upd_lcStamp _)
    | with_reducible apply Upd.comp (upd_burn _ _)
    | split)

theorem upd_retireReadings (s : State) : Upd [.life, .recs, .ev, .sen] s (retireReadings s) := by
  unfold retireReadings
  repeat' (first
    | with_reducible assumption
    | with_reducible exact Upd.refl _ _
    | (show subParts _ _ = true; rfl)
    | with_reducible apply Upd.ite
    | (with_reducible apply Upd.foldl; intro u a hu)
    | exact (fun _ => Nat.le_refl _)
    | exact (fun _ => ⟨rfl, rfl, rfl⟩)
    | with_reducible apply Upd.comp (upd_modRecs _ _ ?_)
    | with_reducible apply Upd.comp (upd_modLife _ _ ?_)
    | with_reducible apply Upd.comp (upd_retireReading _ _)
    | split)

theorem upd_execRetireSequence (s : State) : ∃ u, execRetireSequence s = .next u ∧ Upd [.gates, .life, .keys, .ports, .met, .pmet, .safe, .psafe, .cp, .plc, .ses, .sesSys, .led, .recs, .ev, .sen, .freeCtr] s u := by
  unfold execRetireSequence
  refine ⟨_, rfl, ?_⟩
  repeat' (first
    | with_reducible assumption
    | with_reducible exact Upd.refl _ _
    | (show subParts _ _ = true; rfl)
    | with_reducible apply Upd.ite
    | exact (fun _ => ⟨rfl, rfl, rfl⟩)
    | with_reducible apply Upd.comp (upd_modLife _ _ ?_)
    | with_reducible apply Upd.comp (upd_endRun _ _)
    | with_reducible apply Upd.comp (upd_publishAll _)
    | with_reducible apply Upd.comp (upd_retireReadings _)
    | split)

end Sys2Proof.Machine
end

