-- ==== Sys2Proof/Laws/UpdSentinel.lean ====
section
/-! SUPPORT. What the operations of Machine/Sentinel.lean change: one lemma for each, that its result differs from its state at most in the parts named,
and that what only grows has not gone back. -/

namespace Sys2Proof.Machine

theorem upd_cellSwitch (s : State) : Upd [.ev, .sen] s (cellSwitch s) := by
  unfold cellSwitch
  repeat' (first
    | with_reducible assumption
    | with_reducible exact Upd.refl _ _
    | (show subParts _ _ = true; rfl)
    | with_reducible apply Upd.ite
    | with_reducible apply Upd.comp (upd_modSen _ _)
    | with_reducible apply Upd.comp (upd_raise _ _ _ _ _)
    | split)

theorem upd_execCellLow (s : State) : ∃ u, execCellLow s = .next u ∧ Upd [.ev, .sen] s u := by
  unfold execCellLow
  refine ⟨_, rfl, ?_⟩
  repeat' (first
    | with_reducible assumption
    | with_reducible exact Upd.refl _ _
    | (show subParts _ _ = true; rfl)
    | with_reducible apply Upd.ite
    | with_reducible apply Upd.comp (upd_modSen _ _)
    | with_reducible apply Upd.comp (upd_raise _ _ _ _ _)
    | split)

theorem upd_gaugeLevel (pct : Nat) (s : State) : Upd [.tag, .ev, .sen] s (gaugeLevel pct s) := by
  unfold gaugeLevel
  repeat' (first
    | with_reducible assumption
    | with_reducible exact Upd.refl _ _
    | (show subParts _ _ = true; rfl)
    | with_reducible apply Upd.ite
    | with_reducible apply Upd.comp (upd_modSen _ _)
    | with_reducible apply Upd.comp (upd_tagGauge _)
    | with_reducible apply Upd.comp (upd_raise _ _ _ _ _)
    | with_reducible apply Upd.comp (upd_cellSwitch _)
    | split)

theorem upd_execGaugeSample (adv : Nat) (vStore : Nat) (vQuick : Nat) (field : Bool) (s : State) : ∃ u, execGaugeSample adv vStore vQuick field s = .next u ∧ Upd [.tag, .ev, .sen] s u := by
  unfold execGaugeSample
  refine ⟨_, rfl, ?_⟩
  repeat' (first
    | with_reducible assumption
    | with_reducible exact Upd.refl _ _
    | (show subParts _ _ = true; rfl)
    | with_reducible apply Upd.ite
    | with_reducible apply Upd.comp (upd_modSen _ _)
    | with_reducible apply Upd.comp (upd_passTime _ _)
    | with_reducible apply Upd.comp (upd_gaugeLevel _ _)
    | split)

theorem upd_execGaugeTagUpdate (adv : Nat) (s : State) : ∃ u, execGaugeTagUpdate adv s = .next u ∧ Upd [.tag, .sen] s u := by
  unfold execGaugeTagUpdate
  refine ⟨_, rfl, ?_⟩
  repeat' (first
    | with_reducible assumption
    | with_reducible exact Upd.refl _ _
    | (show subParts _ _ = true; rfl)
    | with_reducible apply Upd.ite
    | with_reducible apply Upd.comp (upd_modSen _ _)
    | with_reducible apply Upd.comp (upd_passTime _ _)
    | with_reducible apply Upd.comp (upd_tagGauge _)
    | split)

theorem upd_execMpptSample (openMv : Nat) (s : State) : ∃ u, execMpptSample openMv s = .next u ∧ Upd [.sen] s u := by
  unfold execMpptSample
  refine ⟨_, rfl, ?_⟩
  repeat' (first
    | with_reducible assumption
    | with_reducible exact Upd.refl _ _
    | (show subParts _ _ = true; rfl)
    | with_reducible apply Upd.ite
    | with_reducible apply Upd.comp (upd_modSen _ _)
    | split)

theorem upd_execRtcOscRestart (s : State) : ∃ u, execRtcOscRestart s = .next u ∧ Upd [.sen] s u := by
  unfold execRtcOscRestart
  refine ⟨_, rfl, ?_⟩
  repeat' (first
    | with_reducible assumption
    | with_reducible exact Upd.refl _ _
    | (show subParts _ _ = true; rfl)
    | with_reducible apply Upd.ite
    | with_reducible apply Upd.comp (upd_modSen _ _)
    | split)

theorem upd_execRtcOscStop (s : State) : ∃ u, execRtcOscStop s = .next u ∧ Upd [.ev, .sen] s u := by
  unfold execRtcOscStop
  refine ⟨_, rfl, ?_⟩
  repeat' (first
    | with_reducible assumption
    | with_reducible exact Upd.refl _ _
    | (show subParts _ _ = true; rfl)
    | with_reducible apply Upd.ite
    | with_reducible apply Upd.comp (upd_modSen _ _)
    | with_reducible apply Upd.comp (upd_raise _ _ _ _ _)
    | split)

theorem upd_execSentinelColdStart (s : State) : ∃ u, execSentinelColdStart s = .next u ∧ Upd [.sen, .tamper] s u := by
  unfold execSentinelColdStart
  refine ⟨_, rfl, ?_⟩
  repeat' (first
    | with_reducible assumption
    | with_reducible exact Upd.refl _ _
    | (show subParts _ _ = true; rfl)
    | with_reducible apply Upd.ite
    | with_reducible apply Upd.comp (upd_modSen _ _)
    | with_reducible apply Upd.comp (upd_modTamper _ _)
    | with_reducible apply Upd.comp (upd_evBuffer _ _)
    | split)

theorem upd_execSentinelRailLoss (s : State) : ∃ u, execSentinelRailLoss s = .next u ∧ Upd [.sen] s u := by
  unfold execSentinelRailLoss
  refine ⟨_, rfl, ?_⟩
  repeat' (first
    | with_reducible assumption
    | with_reducible exact Upd.refl _ _
    | (show subParts _ _ = true; rfl)
    | with_reducible apply Upd.ite
    | with_reducible apply Upd.comp (upd_modSen _ _)
    | split)

theorem upd_execTamperSample (adv : Nat) (cover : Bool) (term : Bool) (s : State) : ∃ u, execTamperSample adv cover term s = .next u ∧ Upd [.tag, .ev, .sen, .tamper] s u := by
  unfold execTamperSample
  refine ⟨_, rfl, ?_⟩
  repeat' (first
    | with_reducible assumption
    | with_reducible exact Upd.refl _ _
    | (show subParts _ _ = true; rfl)
    | with_reducible apply Upd.ite
    | with_reducible apply Upd.comp (upd_modTamper _ _)
    | with_reducible apply Upd.comp (upd_modSen _ _)
    | with_reducible apply Upd.comp (upd_passTime _ _)
    | with_reducible apply Upd.comp (upd_tagGauge _)
    | with_reducible apply Upd.comp (upd_raiseIf _ _ _ _ _ _)
    | split)

theorem upd_execVsentChange (present : Bool) (s : State) : ∃ u, execVsentChange present s = .next u ∧ Upd [.ev, .sen] s u := by
  unfold execVsentChange
  refine ⟨_, rfl, ?_⟩
  repeat' (first
    | with_reducible assumption
    | with_reducible exact Upd.refl _ _
    | (show subParts _ _ = true; rfl)
    | with_reducible apply Upd.ite
    | with_reducible apply Upd.comp (upd_modSen _ _)
    | with_reducible apply Upd.comp (upd_cellSwitch _)
    | split)

end Sys2Proof.Machine
end

