-- ==== Sys2Proof/Laws/UpdStart.lean ====
section
/-! SUPPORT. What the operations of Machine/Start.lean change: one lemma for each, that its result differs from its state at most in the parts named,
and that what only grows has not gone back. -/

namespace Sys2Proof.Machine

theorem upd_blkRepair (b : Nat) (s : State) : Upd [.fab] s (blkRepair b s).1 := by
  unfold blkRepair
  repeat' (first
    | with_reducible assumption
    | with_reducible exact Upd.refl _ _
    | (show subParts _ _ = true; rfl)
    | with_reducible apply Upd.ite
    | with_reducible apply Upd.comp (upd_putBlk _ _)
    | with_reducible apply Upd.comp (upd_modSpare _ _ _)
    | split)

theorem upd_checkSlots (bad : List (Fin 64)) (s : State) : Upd [.keys, .recs, .ev, .sen, .freeCtr] s (checkSlots bad s).1 := by
  unfold checkSlots
  repeat' (first
    | with_reducible assumption
    | with_reducible exact Upd.refl _ _
    | (show subParts _ _ = true; rfl)
    | with_reducible apply Upd.ite
    | with_reducible apply Upd.iteL
    | (with_reducible apply Upd.foldl; intro u a hu)
    | with_reducible apply Upd.comp (upd_modKeys _ _)
    | with_reducible apply Upd.comp (upd_raise _ _ _ _ _)
    | with_reducible apply Upd.comp (upd_resignRecords _)
    | with_reducible apply Upd.comp (upd_newMetrologyKey _)
    | split)

theorem upd_enterNoConfig (cause : Nat) (s : State) : Upd [.life, .ev, .sen] s (enterNoConfig cause s) := by
  unfold enterNoConfig
  repeat' (first
    | with_reducible assumption
    | with_reducible exact Upd.refl _ _
    | (show subParts _ _ = true; rfl)
    | with_reducible apply Upd.ite
    | exact (fun _ => ⟨rfl, rfl, rfl⟩)
    | with_reducible apply Upd.comp (upd_modLife _ _ ?_)
    | with_reducible apply Upd.comp (upd_raise _ _ _ _ _)
    | split)

theorem upd_writeReturn (s : State) : Upd [.ev, .sen, .jrn] s (writeReturn s) := by
  unfold writeReturn
  repeat' (first
    | with_reducible assumption
    | with_reducible exact Upd.refl _ _
    | (show subParts _ _ = true; rfl)
    | with_reducible apply Upd.ite
    | with_reducible apply Upd.comp (upd_modSen _ _)
    | with_reducible apply Upd.comp (upd_jrnWrite _ _ _ _ _ _)
    | split)

theorem upd_execRunEntry (assetFault : Bool) (s : State) : ∃ u, execRunEntry assetFault s = .next u ∧ Upd [.gates, .life, .ports, .meas, .pmet, .cp, .plc, .pipes, .led, .recs, .tag, .phy, .lnk, .share, .epd, .ev, .sen, .jrn, .freeCtr] s u := by
  unfold execRunEntry
  refine ⟨_, rfl, ?_⟩
  repeat' (first
    | with_reducible assumption
    | with_reducible exact Upd.refl _ _
    | (show subParts _ _ = true; rfl)
    | with_reducible apply Upd.ite
    | (with_reducible apply Upd.foldl; intro u a hu)
    | exact (fun _ => ⟨rfl, rfl, rfl⟩)
    | with_reducible apply Upd.comp (upd_modLife _ _ ?_)
    | with_reducible apply Upd.comp (upd_admitHead _ _)
    | with_reducible apply Upd.comp (upd_raise _ _ _ _ _)
    | with_reducible apply Upd.comp (upd_epdRelease _ _)
    | with_reducible apply Upd.comp (upd_tagAtRun _)
    | with_reducible apply Upd.comp (upd_linkReset _)
    | with_reducible apply Upd.comp (upd_ledAtRun _)
    | with_reducible apply Upd.comp (upd_publishAll _)
    | with_reducible apply Upd.comp (upd_writeReturn _)
    | split)

theorem upd_startS2 (s : State) : Upd [.life, .ev, .sen] s (startS2 s) := by
  unfold startS2
  repeat' (first
    | with_reducible assumption
    | with_reducible exact Upd.refl _ _
    | (show subParts _ _ = true; rfl)
    | with_reducible apply Upd.ite
    | (with_reducible apply Upd.foldl; intro u a hu)
    | exact (fun _ => ⟨rfl, rfl, rfl⟩)
    | with_reducible apply Upd.comp (upd_modLife _ _ ?_)
    | with_reducible apply Upd.comp (upd_raise _ _ _ _ _)
    | with_reducible apply Upd.comp (upd_burn _ _)
    | split)

theorem upd_outageReturn (s : State) : Upd ([.eng, .gates, .clk, .life, .keys, .img, .flash, .ports, .meas, .met, .pmet, .safe, .psafe, .cp, .plc, .pipes, .ses, .sesSys, .auth, .authSys] ++ [.mbus, .tag, .phy, .lnk, .share, .epd, .ev, .sen]) s (outageReturn s) := by
  unfold outageReturn
  repeat' (first
    | with_reducible assumption
    | with_reducible exact Upd.refl _ _
    | (show subParts _ _ = true; rfl)
    | with_reducible apply Upd.ite
    | with_reducible apply Upd.comp (upd_modSen _ _)
    | with_reducible apply Upd.comp (upd_hubDown _ _)
    | split)

theorem upd_startS1 (s : State) : Upd ([.eng, .gates, .clk, .life, .keys, .img, .flash, .ports, .meas, .met, .pmet, .safe, .psafe, .cp, .plc, .pipes, .ses, .sesSys, .auth, .authSys] ++ [.mbus, .tag, .phy, .lnk, .share, .epd, .ev, .sen, .elec]) s (startS1 s) := by
  unfold startS1
  repeat' (first
    | with_reducible assumption
    | with_reducible exact Upd.refl _ _
    | (show subParts _ _ = true; rfl)
    | with_reducible apply Upd.ite
    | exact (fun _ => ⟨rfl, rfl, rfl⟩)
    | with_reducible apply Upd.comp (upd_modSen _ _)
    | with_reducible apply Upd.comp (upd_modElec _ _)
    | with_reducible apply Upd.comp (upd_modLife _ _ ?_)
    | with_reducible apply Upd.comp (upd_outageReturn _)
    | split)

theorem upd_lockRestore (okA : Bool) (okB : Bool) (s : State) : Upd [.safe, .psafe, .ev, .sen] s (lockRestore okA okB s) := by
  unfold lockRestore
  repeat' (first
    | with_reducible assumption
    | with_reducible exact Upd.refl _ _
    | (show subParts _ _ = true; rfl)
    | with_reducible apply Upd.ite
    | (with_reducible apply Upd.foldl; intro u a hu)
    | with_reducible apply Upd.comp (upd_modSafe _ _)
    | with_reducible apply Upd.comp (upd_modPsafe _ _ _)
    | with_reducible apply Upd.comp (upd_raise _ _ _ _ _)
    | with_reducible apply Upd.comp (upd_modSsms _ _)
    | split)

theorem upd_rowRepair (bank : Fin 32) (r : Nat) (s : State) : Upd [.fab] s (rowRepair bank r s).1 := by
  unfold rowRepair
  repeat' (first
    | with_reducible assumption
    | with_reducible exact Upd.refl _ _
    | (show subParts _ _ = true; rfl)
    | with_reducible apply Upd.ite
    | with_reducible apply Upd.comp (upd_modBank _ _ _)
    | split)

theorem upd_testRows (rows : List (Fin 32 × Nat)) (s : State) : Upd [.fab] s (testRows rows s).1 := by
  unfold testRows
  repeat' (first
    | with_reducible assumption
    | with_reducible exact Upd.refl _ _
    | (show subParts _ _ = true; rfl)
    | with_reducible apply Upd.ite
    | (with_reducible apply Upd.foldlL; intro u a hu)
    | with_reducible apply Upd.comp (upd_rowRepair _ _ _)
    | split)

theorem upd_testBlks (blks : List Nat) (s : State) : Upd [.fab] s (testBlks blks s).1 := by
  unfold testBlks
  repeat' (first
    | with_reducible assumption
    | with_reducible exact Upd.refl _ _
    | (show subParts _ _ = true; rfl)
    | with_reducible apply Upd.ite
    | (with_reducible apply Upd.foldlL; intro u a hu)
    | with_reducible apply Upd.comp (upd_modFab _ _)
    | with_reducible apply Upd.comp (upd_blkRepair _ _)
    | split)

theorem upd_testLanes (bad : List (Fin 18)) (s : State) : Upd [.fab] s (testLanes bad s) := by
  unfold testLanes
  repeat' (first
    | with_reducible assumption
    | with_reducible exact Upd.refl _ _
    | (show subParts _ _ = true; rfl)
    | with_reducible apply Upd.ite
    | (with_reducible apply Upd.foldl; intro u a hu)
    | with_reducible apply Upd.comp (upd_modLane _ _ _)
    | split)

theorem upd_testFail (order : Nat) (unit : Nat) (count : Nat) (s : State) : Upd [.ev, .sen] s (testFail order unit count s) := by
  unfold testFail
  repeat' (first
    | with_reducible assumption
    | with_reducible exact Upd.refl _ _
    | (show subParts _ _ = true; rfl)
    | with_reducible apply Upd.ite
    | with_reducible apply Upd.comp (upd_raise _ _ _ _ _)
    | split)

theorem upd_startS3 (o : StartObs) (s : State) : Upd [.life, .fab, .ev, .sen] s (startS3 o s).1 := by
  unfold startS3
  repeat' (first
    | with_reducible assumption
    | with_reducible exact Upd.refl _ _
    | (show subParts _ _ = true; rfl)
    | with_reducible apply Upd.ite
    | (with_reducible apply Upd.foldl; intro u a hu)
    | exact (fun _ => ⟨rfl, rfl, rfl⟩)
    | with_reducible apply Upd.comp (upd_modFab _ _)
    | with_reducible apply Upd.comp (upd_modLife _ _ ?_)
    | with_reducible apply Upd.comp (upd_testRows _ _)
    | with_reducible apply Upd.comp (upd_testBlks _ _)
    | with_reducible apply Upd.comp (upd_testLanes _ _)
    | with_reducible apply Upd.comp (upd_testFail _ _ _ _)
    | with_reducible apply Upd.comp (upd_raise _ _ _ _ _)
    | split)

theorem upd_firstKeying (s : State) : Upd [.life, .keys, .ev, .sen, .freeCtr] s (firstKeying s) := by
  unfold firstKeying
  repeat' (first
    | with_reducible assumption
    | with_reducible exact Upd.refl _ _
    | (show subParts _ _ = true; rfl)
    | with_reducible apply Upd.ite
    | exact (fun _ => ⟨rfl, rfl, rfl⟩)
    | with_reducible apply Upd.comp (upd_modKeys _ _)
    | with_reducible apply Upd.comp (upd_modLife _ _ ?_)
    | with_reducible apply Upd.comp (upd_drbgDraw _ _)
    | with_reducible apply Upd.comp (upd_lcStamp _)
    | with_reducible apply Upd.comp (upd_burn _ _)
    | with_reducible apply Upd.comp (upd_raise _ _ _ _ _)
    | split)

theorem upd_unwrapRoot (reads : List (Bool × Bool)) (s : State) : Upd [.keys, .ev, .sen] s (unwrapRoot reads s).1 := by
  unfold unwrapRoot
  repeat' (first
    | with_reducible assumption
    | with_reducible exact Upd.refl _ _
    | (show subParts _ _ = true; rfl)
    | with_reducible apply Upd.ite
    | with_reducible apply Upd.comp (upd_modKeys _ _)
    | with_reducible apply Upd.comp (upd_raise _ _ _ _ _)
    | split)

theorem upd_startS4 (o : StartObs) (failed : Bool) (s : State) : Upd [.life, .keys, .recs, .ev, .sen, .freeCtr] s (startS4 o failed s).1 := by
  unfold startS4
  repeat' (first
    | with_reducible assumption
    | with_reducible exact Upd.refl _ _
    | (show subParts _ _ = true; rfl)
    | with_reducible apply Upd.ite
    | with_reducible apply Upd.iteL
    | with_reducible apply Upd.comp (upd_zeroise _)
    | with_reducible apply Upd.comp (upd_firstKeying _)
    | with_reducible apply Upd.comp (upd_unwrapRoot _ _)
    | with_reducible apply Upd.comp (upd_checkSlots _ _)
    | split)

theorem upd_pointsAtStart (s : State) : Upd [.cp] s (pointsAtStart s) := by
  unfold pointsAtStart
  repeat' (first
    | with_reducible assumption
    | with_reducible exact Upd.refl _ _
    | (show subParts _ _ = true; rfl)
    | with_reducible apply Upd.ite
    | (with_reducible apply Upd.foldl; intro u a hu)
    | with_reducible apply Upd.comp (upd_modCp _ _ _)
    | split)

theorem upd_startS6 (o : StartObs) (cause : Nat) (s : State) : Upd [.clk, .life, .keys, .img, .dlv, .cp, .epd, .ev, .sen, .freeCtr] s (startS6 o cause s) := by
  unfold startS6
  repeat' (first
    | with_reducible assumption
    | with_reducible exact Upd.refl _ _
    | (show subParts _ _ = true; rfl)
    | with_reducible apply Upd.ite
    | exact (fun _ => ⟨rfl, rfl, rfl⟩)
    | with_reducible apply Upd.comp (upd_modLife _ _ ?_)
    | with_reducible apply Upd.comp (upd_enterNoConfig _ _)
    | with_reducible apply Upd.comp (upd_selectSlot _ _ _)
    | with_reducible apply Upd.comp (upd_pointsAtStart _)
    | split)

theorem upd_startS5 (o : StartObs) (s : State) : Upd [.flash, .dlv, .pmet, .led, .recs, .ev, .sen, .jrn, .freeCtr] s (startS5 o s) := by
  unfold startS5
  repeat' (first
    | with_reducible assumption
    | with_reducible exact Upd.refl _ _
    | (show subParts _ _ = true; rfl)
    | with_reducible apply Upd.ite
    | (with_reducible apply Upd.foldl; intro u a hu)
    | with_reducible apply Upd.comp (upd_ledRecover _ _ _)
    | with_reducible apply Upd.comp (upd_restoreRegs _ _ _ _)
    | with_reducible apply Upd.comp (upd_dlvResume _)
    | with_reducible apply Upd.comp (upd_recsRecover _ _)
    | with_reducible apply Upd.comp (upd_jrnRecover _ _)
    | split)

theorem upd_startBegin (o : StartObs) (s : State) : Upd ([.eng, .gates, .clk, .life, .keys, .img, .flash, .dlv, .ports, .meas, .met, .pmet, .safe, .psafe, .cp, .plc, .pipes, .ses, .sesSys, .auth] ++ [.authSys, .led, .recs, .mbus, .tag, .phy, .lnk, .share, .epd, .fab, .ev, .sen, .jrn, .elec, .freeCtr]) s (startBegin o s) := by
  unfold startBegin
  repeat' (first
    | with_reducible assumption
    | with_reducible exact Upd.refl _ _
    | (show subParts _ _ = true; rfl)
    | with_reducible apply Upd.ite
    | exact (fun _ => ⟨rfl, rfl, rfl⟩)
    | with_reducible apply Upd.comp (upd_modLife _ _ ?_)
    | with_reducible apply Upd.comp (upd_modMbus _ _)
    | with_reducible apply Upd.comp (upd_setOuts _ _ _)
    | with_reducible apply Upd.comp (upd_startS2 _)
    | with_reducible apply Upd.comp (upd_startS1 _)
    | with_reducible apply Upd.comp (upd_lockRestore _ _ _)
    | with_reducible apply Upd.comp (upd_startS3 _ _)
    | with_reducible apply Upd.comp (upd_startS4 _ _ _)
    | with_reducible apply Upd.comp (upd_startS6 _ _ _)
    | with_reducible apply Upd.comp (upd_startS5 _ _)
    | with_reducible apply Upd.comp (upd_syncWins _)
    | split)

theorem upd_startArm (mons : List (Bool × Bool)) (s : State) : Upd [.life, .safe, .psafe, .cp, .ev, .sen] s (startArm mons s) := by
  unfold startArm
  repeat' (first
    | with_reducible assumption
    | with_reducible exact Upd.refl _ _
    | (show subParts _ _ = true; rfl)
    | with_reducible apply Upd.ite
    | exact (fun _ => ⟨rfl, rfl, rfl⟩)
    | with_reducible apply Upd.comp (upd_modLife _ _ ?_)
    | with_reducible apply Upd.comp (upd_arm _ _)
    | split)

theorem upd_execStartSequence (x : StartStep) (s : State) : ∃ u, execStartSequence x s = .next u ∧ Upd ([.eng, .gates, .clk, .life, .keys, .img, .flash, .dlv, .ports, .meas, .met, .pmet, .safe, .psafe, .cp, .plc, .pipes, .ses, .sesSys, .auth] ++ [.authSys, .led, .recs, .mbus, .tag, .phy, .lnk, .share, .epd, .fab, .ev, .sen, .jrn, .elec, .freeCtr]) s u := by
  unfold execStartSequence
  refine ⟨_, rfl, ?_⟩
  repeat' (first
    | with_reducible assumption
    | with_reducible exact Upd.refl _ _
    | (show subParts _ _ = true; rfl)
    | with_reducible apply Upd.ite
    | with_reducible apply Upd.comp (upd_startBegin _ _)
    | with_reducible apply Upd.comp (upd_startArm _ _)
    | split)

end Sys2Proof.Machine
end

