-- ==== Sys2Proof/Laws/UpdTicks.lean ====
section
/-! SUPPORT. What the operations of Machine/Ticks.lean change: one lemma for each, that its result differs from its state at most in the parts named,
and that what only grows has not gone back. -/

namespace Sys2Proof.Machine

theorem upd_countInjections (c : Nat) (s : State) : Upd [.psafe] s (countInjections c s) := by
  unfold countInjections
  repeat' (first
    | with_reducible assumption
    | with_reducible exact Upd.refl _ _
    | (show subParts _ _ = true; rfl)
    | with_reducible apply Upd.ite
    | (with_reducible apply Upd.foldl; intro u a hu)
    | with_reducible apply Upd.comp (upd_modPsafe _ _ _)
    | split)

theorem upd_nextCommands (s : State) : Upd [.gates, .clk, .keys, .ports, .safe, .psafe, .cp, .plc, .ses, .sesSys, .ev, .sen] s (nextCommands s) := by
  unfold nextCommands
  repeat' (first
    | with_reducible assumption
    | with_reducible exact Upd.refl _ _
    | (show subParts _ _ = true; rfl)
    | with_reducible apply Upd.ite
    | with_reducible apply Upd.comp (upd_modClk _ _)
    | with_reducible apply Upd.comp (upd_pilotBoundary _)
    | split)

theorem upd_portFrame (slot : Fin 8) (v : State) (tick : Nat) (c : Nat) (phase : Nat) (s : State) : Upd [.ports] s (portFrame slot v tick c phase s) := by
  unfold portFrame
  repeat' (first
    | with_reducible assumption
    | with_reducible exact Upd.refl _ _
    | (show subParts _ _ = true; rfl)
    | with_reducible apply Upd.ite
    | with_reducible apply Upd.comp (upd_modPort _ _ _)
    | split)

theorem upd_sampleInputs (tar : Nat) (llim : Bool) (s : State) : Upd [.led, .share] s (sampleInputs tar llim s) := by
  unfold sampleInputs
  repeat' (first
    | with_reducible assumption
    | with_reducible exact Upd.refl _ _
    | (show subParts _ _ = true; rfl)
    | with_reducible apply Upd.ite
    | with_reducible apply Upd.comp (upd_modLed _ _)
    | with_reducible apply Upd.comp (upd_modShare _ _)
    | split)

theorem upd_execTickStart (tar : Nat) (llim : Bool) (s : State) : ∃ u, execTickStart tar llim s = .next u ∧ Upd [.gates, .clk, .keys, .ports, .safe, .psafe, .cp, .plc, .ses, .sesSys, .led, .share, .ev, .sen] s u := by
  unfold execTickStart
  refine ⟨_, rfl, ?_⟩
  repeat' (first
    | with_reducible assumption
    | with_reducible exact Upd.refl _ _
    | (show subParts _ _ = true; rfl)
    | with_reducible apply Upd.ite
    | (with_reducible apply Upd.foldl; intro u a hu)
    | with_reducible apply Upd.comp (upd_modClk _ _)
    | with_reducible apply Upd.comp (upd_nextCommands _)
    | with_reducible apply Upd.comp (upd_portFrame _ _ _ _ _ _)
    | with_reducible apply Upd.comp (upd_countInjections _ _)
    | with_reducible apply Upd.comp (upd_sampleInputs _ _ _)
    | split)

end Sys2Proof.Machine
end

