-- ==== Sys2Proof/Tests/Slice0.lean ====
section
/-! SUPPORT. Own tests: states and operands that meet the hypotheses of every statement, ill-formed commands that the check refuses, and a few
single steps whose results the manual states. -/

open Sys2Proof Sys2Proof.Machine

set_option maxRecDepth 10000

namespace Sys2Proof.Tests

/-- A 128-bit word from fields. -/
def w (fs : List (Nat × Nat)) : W128 := mkWord fs

/-- IDENTITY of node 1, ESTATE 7 with nodes 0 to 7, a HEAD record for slot 0, POINT records 0 and 1 (point 0 tethered), 32.0 A. -/
def recsA : List ImgRec :=
  [{ typ := 0x10, idx := 0, pay := [w [(120, 1), (111, 1)]] }, { typ := 0x11, idx := 0, pay := [w [(96, 7)], w [(0, 0xFF)], 0] },
   { typ := 0x30, idx := 0, pay := [w [(64, 5), (32, 15)]] },
   { typ := 0x31, idx := 0, pay := [w [(124, 1), (96, 320), (119, 1)], 0] }, { typ := 0x31, idx := 1, pay := [w [(96, 320)], 0] },
   { typ := 0x40, idx := 0, pay := [w [(120, 30), (112, 60), (96, 700), (80, 850)]] }]

/-- The clock LOCKED on L1 at count 1 000, ten boundaries into the start. -/
def clkA : Clk := { state := .locked, started := true, src := .l1, present1 := true, count := 1000, bndTot := 5000, expect := 1001 }

/-- A SEALED hub in RUN that runs an image with one admitted head; the rail is on. -/
def run : State :=
  { State.reset with
    clk := clkA
    life := { cond := .run, step := 10, serial := 0xABC, cells := [(0, .both), (1, .both), (0x100, .both)] }
    img := { slot := 0, gen := 1, recs := recsA }
    elec := { supplyOk := true }
    ports := State.reset.ports.set 0 { st := .admitted }
    heads := State.reset.heads.set 0 { on := true }
    safe := { a := { armed := true, out := true }, b := { armed := true, out := true }, monA := true, monB := true, estopA := true }
    cp := (State.reset.cp.set 0 { pst := .available }).set 1 { pst := .available }
    sen := { st := .powered } }

/-- an order -/
def mkO (typ : Nat) (pay : List W128) (auth : Nat := 1) (src : OrderSrc := .rdo) : OrderRec :=
  { words := [w [(96, 0x524F5947), (88, 1), (80, typ), (72, auth), (64, pay.length), (0, 0xABC)], w [(96, 0x77), (64, 7), (0, 5)]] ++ pay ++ List.replicate (if auth = 1 then 4 else 1) 0, src := src, orig := 3, tag := 9 }
def ks : State := (run.modKeys fun k => { k with slots := k.slots.set 2 { keyId := 0x77, alg := 0x10, usage := 0x40, masters := 0xFFFF, lcMask := 0x1F, status := .loaded, role := 2 } }).modMbus fun m => { m with ordTag := 9 }

end Sys2Proof.Tests

/-! Chipset and estate. -/

namespace Sys2Proof.Tests.C01

def lost (e : EngineId) : State := run.modEng fun x => { x with sts := x.sts.set (engIdx e) { missed := 3 } }

def lost5 (e : EngineId) : State := run.modEng fun x => { x with sts := x.sts.set (engIdx e) { missed := 3, restarts := [4000,4001,4002,4003] } }

/-- States and operands that meet the hypotheses of EngineErrorsAndBlockedWrites, clause by clause. -/
theorem wit_EngineErrorsAndBlockedWrites :
    (∃ (e : EngineId) (s : State), (e = .boot ∨ e = .met ∨ e = .led) ∧ engRuns s.life.cond e = true ∧ 3 ≤ s.eng.sts[engIdx e].missed) ∧
    (∃ (s : State), engRuns s.life.cond .ses = true ∧ 3 ≤ s.eng.sts[engIdx .ses].missed ∧ ((s.eng.sts[engIdx .ses].restarts.filter fun b => decide
      (s.clk.bndTot < b + 3000)).length < 4)) ∧
    (∃ (s : State), engRuns s.life.cond .lnk = true ∧ 3 ≤ s.eng.sts[engIdx .lnk].missed ∧ ((s.eng.sts[engIdx .lnk].restarts.filter fun b => decide
      (s.clk.bndTot < b + 3000)).length < 4)) ∧
    (∃ (e : EngineId) (s : State), (e = .rdo ∨ e = .dsp) ∧ engRuns s.life.cond e = true ∧ 3 ≤ s.eng.sts[engIdx e].missed ∧ ((s.eng.sts[engIdx
      e].restarts.filter fun b => decide (s.clk.bndTot < b + 3000)).length < 4)) ∧
    (∃ (e : EngineId) (s : State), (e = .lnk ∨ e = .rdo ∨ e = .dsp) ∧ engRuns s.life.cond e = true ∧ 3 ≤ s.eng.sts[engIdx e].missed ∧ (4 ≤
      (s.eng.sts[engIdx e].restarts.filter fun b => decide (s.clk.bndTot < b + 3000)).length)) ∧
    (∃ (e : EngineId) (s : State), engRuns s.life.cond e = false ∨ s.eng.sts[engIdx e].missed < 3) ∧
    (∃ (e : EngineId) (s : State), (e = .ses ∨ e = .lnk ∨ e = .rdo ∨ e = .dsp) ∧ engRuns s.life.cond e = true) ∧
    (∃ (e : EngineId) (s : State), engRuns s.life.cond e = false ∨ e = .boot ∨ e = .met ∨ e = .led) :=
  ⟨⟨.met, lost .met, by decide⟩,
    ⟨lost .ses, by decide⟩,
    ⟨lost .lnk, by decide⟩,
    ⟨.rdo, lost .rdo, by decide⟩,
    ⟨.rdo, lost5 .rdo, by decide⟩,
    ⟨.rdo, run, by decide⟩,
    ⟨.rdo, run, by decide⟩,
    ⟨.met, run, by decide⟩⟩

end Sys2Proof.Tests.C01

/-! Cycle clock. -/

namespace Sys2Proof.Tests.C02

def st0 : State := State.reset.modClk fun c => { c with state := .locked, started := true, src := .l1, present1 := true, count := 1000, bndTot := 10, expect := 1001, ckpt := some {} }

def st1 : State := (st0.modLife fun l => { l with cond := .run }).modElec fun e => { e with supplyOk := true }

def ob : BndObs := {}

/-- States and operands that meet the hypotheses of CrossingsSteerTheClock, clause by clause. -/
theorem wit_CrossingsSteerTheClock :
    (∃ (inp : MsIn) (phase : Nat) (n e : Int) (s : State), s.clk.present inp = true ∧ s.clk.started = true ∧ s.clk.src = inSrc inp ∧ (s.clk.expect : Int) ≤
      n ∧ -2048 ≤ e ∧ e ≤ 2048 ∧ (s.clk.count : Int) * 65536 + phase + msTrim s inp = n * 65536 + srcOffset s.clk.rotNeg inp + e) ∧
    (∃ (inp : MsIn) (d : Rat) (phase : Nat) (n e : Int) (s : State), s.clk.present inp = true ∧ s.clk.started = true ∧ s.clk.src = inSrc inp ∧ (e < -2048 ∨
      2048 < e) ∧ -32768 ≤ e ∧ e < 32768 ∧ (s.clk.count : Int) * 65536 + phase + msTrim s inp = n * 65536 + srcOffset s.clk.rotNeg inp + e ∧
      consistentIv s.clk.base d = true ∧ 7 ≤ s.clk.consistent ∧ (s.clk.state = .holdover ∨ s.clk.state = .free)) ∧
    (∃ (inp : MsIn) (d p : Rat) (rest : List Rat) (s : State), s.clk.state = .acquire ∧ s.clk.present inp = true ∧ s.clk.src = inSrc inp ∧ s.clk.consistent
      = 7 ∧ s.clk.intervals = p :: rest ∧ baseMin ≤ d ∧ d ≤ baseMax ∧ d - p ≤ p * 2048 / 65536 ∧ p - d ≤ p * 2048 / 65536) :=
  ⟨⟨.l1, 65536, 1001, 0, st1, by decide⟩,
    ⟨.l1, 20000, 5000, 1001, 5000, st1.modClk fun c => { c with count := 1001, state := .free, consistent := 7 }, by with_unfolding_all decide⟩,
    ⟨.l1, 20000, 20000, [20000,20000,20000,20000,20000], st1.modClk fun c => { c with state := .acquire, consistent := 7, intervals := [20000,20000,20000,20000,20000,20000] }, by with_unfolding_all decide⟩⟩

/-- States and operands that meet the hypotheses of ClockStatesAndSources, clause by clause. -/
theorem wit_ClockStatesAndSources :
    (∃ (inp : MsIn) (s : State), s.clk.state = .locked ∧ s.clk.started = true ∧ s.clk.src = inSrc inp) ∧
    (∃ (s : State), s.clk.state = .acquire ∧ s.life.cond = .start) ∧
    (∃ (s : State), s.clk.state = .holdover ∧ s.clk.holdBnd + 51 ≤ s.clk.bndTot) ∧
    (∃ (s : State), s.clk.state ≠ .holdover ∨ s.clk.bndTot < s.clk.holdBnd + 51) ∧
    (∃ (i : MsIn) (s : State), s.clk.src = inSrc i ∧ s.clk.present i = false ∧ s.clk.state ≠ .acquire ∧ firstPresent s.clk ≠ .none) ∧
    (∃ (s : State), (s.clk.src = .l2 ∨ s.clk.src = .l3) ∧ s.clk.l1Good = 8 ∧ s.clk.started = true) :=
  ⟨⟨.l1, st1, by decide⟩,
    ⟨st0.modClk fun c => {c with state := .acquire}, by decide⟩,
    ⟨st0.modClk fun c => {c with state := .holdover, bndTot := 51}, by decide⟩,
    ⟨st0.modClk fun c => {c with state := .holdover, bndTot := 50}, by decide⟩,
    ⟨.l1, st1.modClk fun c => {c with present1 := false, present3 := true}, by decide⟩,
    ⟨st1.modClk fun c => {c with src := .l3, l1Good := 8}, by decide⟩⟩

/-- States and operands that meet the hypotheses of BoundariesAndTicks, clause by clause. -/
theorem wit_BoundariesAndTicks :
    (∃ (s : State), clockRuns s = true) ∧
    (∃ (s : State), clockRuns s = true ∧ alignDue s = true) ∧
    (∃ (s : State), clockRuns s = false ∨ alignDue s = false) ∧
    (∃ (s : State), clockRuns s = true ∧ s.clk.started = true ∧ s.clk.count % 64 = 0) ∧
    (∃ (s : State), tickDue s = true) :=
  ⟨⟨st1, by decide⟩,
    ⟨(st1.modLnk fun l => {l with countDiff := 23 , st := .synced}), by decide⟩,
    ⟨st1, by decide⟩,
    ⟨st1.modClk fun c => { c with count := 1024 }, by decide⟩,
    ⟨st1.modClk fun c => { c with bndTot := 1 }, by with_unfolding_all decide⟩⟩

end Sys2Proof.Tests.C02

/-! Start and life cycle. -/

namespace Sys2Proof.Tests.C03

def sealP (fr dest cnt : Nat) : List W128 := [w [(64, 0xABC), (56, fr), (48, dest), (0, cnt)], w [(64, 2000)]]

def run4 : State := ks.modLife fun l => { l with cells := l.cells ++ [(0x1000, .both)] }

def pd (st : Nat) (s : State) : State := s.modLife fun l => { l with pend := some { toState := st, effect := 900 } }

def stt : State := (run.modLife fun l => { l with cond := .start, step := 8, c0 := 937 }).modSafe fun x => { x with a := {}, b := {} }

/-- States and operands that meet the hypotheses of LifeCycleOrders, clause by clause. -/
theorem wit_LifeCycleOrders :
    (∃ (o : OrderRec) (n w : Nat) (s : State), orderReady [5] o n w s = true) ∧
    (∃ (o : OrderRec) (n w : Nat) (s : State), orderReady [6] o n w s = true) ∧
    (∃ (o : OrderRec) (n w : Nat) (s : State), orderReady [7] o n w s = true) ∧
    (∃ (o : OrderRec) (n w : Nat) (s : State), orderReady [9] o n w s = true) :=
  ⟨⟨mkO 5 (sealP 3 3 1), 2, 0, ks, by decide⟩,
    ⟨mkO 6 (sealP 3 4 0), 2, 0, ks, by decide⟩,
    ⟨mkO 7 (sealP 3 5 0), 2, 0, ks, by decide⟩,
    ⟨mkO 9 [w [(64, 0xABC), (56, 1)], w [(64, 2000)]], 2, 0, ks, by decide⟩⟩

/-- States and operands that meet the hypotheses of LifeCycleBoundaries, clause by clause. -/
theorem wit_LifeCycleBoundaries :
    (∃ (p : LcPend) (i : Nat) (s : State), s.life.pend = some p ∧ p.toState = 3 ∧ p.effect ≤ s.clk.count ∧ s.sen.mlSig = false ∧ s.life.cond = .run ∧
      nextCell s 0x100 2048 0 = some i) ∧
    (∃ (p : LcPend) (i : Nat) (s : State), s.life.pend = some p ∧ p.toState = 4 ∧ p.effect ≤ s.clk.count ∧ s.sen.mlSig = false ∧ s.life.cond = .run ∧
      nextCell s 0x1000 2047 0 = some i) ∧
    (∃ (s : State), (∀ p, s.life.pend = some p → s.clk.count < p.effect)) ∧
    (∃ (r : RstPend) (s : State), s.life.rst = some r ∧ r.atKind = true ∧ r.mark ≤ s.clk.count + 250) ∧
    (∃ (s : State), (∀ r, s.life.rst = some r → r.atKind = false ∨ s.clk.count + 250 < r.mark)) ∧
    (∃ (p : LcPend) (s : State), s.life.pend = some p ∧ p.toState = 5 ∧ p.effect ≤ s.clk.count ∧ s.sen.mlSig = false ∧ s.life.cond = .run) ∧
    (∃ (b : Nat) (s : State), s.life.retireAt = some b ∧ b < s.clk.count ∧ s.life.retireRead = true ∧ s.sen.mlSig = false) ∧
    (∃ (r : RstPend) (s : State), s.life.rst = some r ∧ s.life.retireAt = none ∧ s.sen.mlSig = false ∧ s.clk.started = true ∧ restartNow r s = true ∧
      (r.gen = 0 ∨ inactiveHolds s r.gen = true)) ∧
    (∃ (r : RstPend) (s : State), s.life.rst = some r ∧ s.life.retireAt = none ∧ s.sen.mlSig = false ∧ s.clk.started = true ∧ restartNow r s = true ∧ r.gen
      ≠ 0 ∧ inactiveHolds s r.gen = false) ∧
    (∃ (s : State), s.elec.supplyOk = true ∧ s.life.cond ≠ .dormant ∧ s.sen.mlSig = false) :=
  ⟨⟨{ toState := 3, effect := 900 }, 0x101, pd 3 run4, by decide⟩,
    ⟨{ toState := 4, effect := 900 }, 0x1000, pd 4 run, by decide⟩,
    ⟨run, by decide⟩,
    ⟨{ atKind := true, mark := 1100 }, run.modLife fun l => { l with rst := some { atKind := true, mark := 1100 }}, by decide⟩,
    ⟨run, by decide⟩,
    ⟨{ toState := 5, effect := 900 }, pd 5 run, by decide⟩,
    ⟨999, run.modLife fun l => { l with retireAt := some 999, retireRead := true }, by decide⟩,
    ⟨{ atKind := true, mark := 900 }, run.modLife fun l => { l with rst := some { atKind := true, mark := 900 }}, by decide⟩,
    ⟨{ atKind := true, mark := 900, gen := 7 }, run.modLife fun l => { l with rst := some { atKind := true, mark := 900, gen := 7 }}, by decide⟩,
    ⟨run, by decide⟩⟩

/-- States and operands that meet the hypotheses of StartSequence, clause by clause. -/
theorem wit_StartSequence :
    (∃ (s : State), startOpen s = true ∧ s.life.testFuseIntact = true) ∧
    (∃ (s : State), startOpen s = true ∧ s.life.testFuseIntact = false) ∧
    (∃ (m : List (Bool × Bool)) (s : State), s.sen.mlSig = false ∧ s.life.cond = .start ∧ s.clk.started = true ∧ 7 ≤ s.life.step ∧ s.life.c0 + 63 ≤
      s.clk.count ∧ armed s = false ∧ hubLock s = 0 ∧ s.safe.estopA = true ∧ s.safe.estopB = false ∧ m = railTestGood) ∧
    (∃ (s : State), s.life.cond = .start ∧ s.clk.started = true ∧ s.clk.count = s.life.c0 + 64 ∧ s.sen.mlSig = false) ∧
    (∃ (s : State), s.life.cond ≠ .start ∨ s.clk.count ≠ s.life.c0 + 64) :=
  ⟨⟨State.reset.modLife fun l => { l with testFuseIntact := true }, by decide⟩,
    ⟨State.reset, by decide⟩,
    ⟨railTestGood, stt, by decide⟩,
    ⟨(stt.modLife fun l => {l with c0 := 936}).modPort 1 fun p => { p with st := .ready }, by decide⟩,
    ⟨stt, by decide⟩⟩

end Sys2Proof.Tests.C03

/-! Keys and orders. -/

namespace Sys2Proof.Tests.C04

def tp : TimeSet := { rtcS := 1700000000, sub := 3, refCount := 0, bnd := 4999 }

def bnd (t : Nat) : State := (ks.modLed fun l => { l with binds := l.binds.set 0 (some {tenant := t}) })

def kk : State := ks.modKeys fun k => { k with slots := k.slots.set 2 { keyId := 0x77, alg := 0x10, usage := 0xFE, masters := 0xFFFF, lcMask := 0x1F, status := .loaded, role := 2 } }

/-- States and operands that meet the hypotheses of OrdersThatWaitAndAct, clause by clause. -/
theorem wit_OrdersThatWaitAndAct :
    (∃ (o : OrderRec) (n w : Nat) (s : State), orderReady [1] o n w s = true) ∧
    (∃ (o : OrderRec) (n w : Nat) (s : State), orderReady [2] o n w s = true) ∧
    (∃ (o : OrderRec) (n w : Nat) (s : State), orderReady [3] o n w s = true) ∧
    (∃ (o : OrderRec) (n w : Nat) (s : State), orderReady [4] o n w s = true) ∧
    (∃ (o : OrderRec) (s : State), knownType (oType o) = false ∧ validates s = true) ∧
    (∃ (p : TimeSet) (s : State), s.sen.pend = some p ∧ s.sen.st ≠ .cold ∧ setDue s = true ∧ s.sen.mlSig = false) ∧
    (∃ (s : State), s.sen.pend = none) ∧
    (∃ (ten c : Nat) (rest : List (Nat × Bool × Nat)) (s : State), s.led.blockPend = (ten, true, c) :: rest ∧ c ≤ s.clk.count ∧ (∀ e ∈ rest, s.clk.count <
      e.2.2)) ∧
    (∃ (ten c : Nat) (rest : List (Nat × Bool × Nat)) (s : State), s.led.blockPend = (ten, false, c) :: rest ∧ c ≤ s.clk.count ∧ (∀ e ∈ rest, s.clk.count <
      e.2.2)) :=
  ⟨⟨mkO 1 [w [(64, 1700000000)], w [(64, 990)]], 2, 0, ks, by decide⟩,
    ⟨mkO 2 [w [(96, 3), (88, 1), (0, 1200)]], 2, 0, ks, by decide⟩,
    ⟨mkO 3 [w [(112, 5), (0, 1200)]], 2, 0, ks, by decide⟩,
    ⟨mkO 4 [w [(112, 5), (0, 1200)]], 2, 0, ks, by decide⟩,
    ⟨mkO 12 [w [(112, 5), (0, 1200)]], ks, by decide⟩,
    ⟨tp, ks.modSen fun e => {e with pend := some tp}, by decide⟩,
    ⟨run, by decide⟩,
    ⟨5, 900, [(6,true,1900)], (bnd 5).modLed fun l => { l with blockPend := [(5,true,900),(6,true,1900)] }, by decide⟩,
    ⟨5, 900, [(6,true,1900)], (bnd 5).modLed fun l => { l with blockPend := [(5,false,900),(6,true,1900)] }, by decide⟩⟩

/-- States and operands that meet the hypotheses of KeySlotOperations, clause by clause. -/
theorem wit_KeySlotOperations :
    (∃ (s : State), s.sen.mlSig = false) ∧
    (∃ (s : State), s.sen.mlSig = false) ∧
    (∃ (s : State), s.sen.mlSig = false) ∧
    (∃ (h : EngHalf) (n k : Nat) (s : State), s.sen.mlSig = false ∧ slotCond s h n .derive = 0 ∧ transHeld s (halfEngine h) < transQuota (halfEngine h) ∧
      transFree s = some k) ∧
    (∃ (op : SlotOp) (c : Instr) (h : EngHalf) (n p : Nat) (data : List Nat) (s : State), s.sen.mlSig = false ∧ ((op = .sign ∧ c = .slotSign h p n data) ∨
      (op = .verify ∧ c = .slotVerify h p n data) ∨ (op = .agree ∧ c = .slotKeyAgreement h p n data))) ∧
    (∃ (j : Job) (q : List Job) (s : State), s.keys.queue = j :: q) ∧
    (∃ (s : State), s.keys.queue = []) :=
  ⟨⟨kk, by decide⟩,
    ⟨kk, by decide⟩,
    ⟨kk, by decide⟩,
    ⟨.bootM, 2, 64, kk, by decide⟩,
    ⟨.sign, .slotSign .bootM 255 2 [], .bootM, 2, 255, [], kk, by decide⟩,
    ⟨{owner := .ses, point := 0}, [], kk.modKeys fun k => { k with queue := [{owner := .ses, point := 0}] }, by decide⟩,
    ⟨run, by decide⟩⟩

/-- States and operands that meet the hypotheses of EntropySourceFailures, clause by clause. -/
theorem wit_EntropySourceFailures :
    (∃ (n : Nat) (s : State), s.keys.drbgStopped = false ∧ (n = 0 ∨ s.keys.drbgFails + n < 3)) ∧
    (∃ (n : Nat) (s : State), s.keys.drbgStopped = false ∧ 0 < n ∧ 3 ≤ s.keys.drbgFails + n) ∧
    (∃ (s : State), s.keys.drbgStopped = true) :=
  ⟨⟨2, ks, by decide⟩,
    ⟨5, ks, by decide⟩,
    ⟨run.modKeys fun k => {k with drbgStopped := true}, by decide⟩⟩

end Sys2Proof.Tests.C04

/-! Image and delivery. -/

namespace Sys2Proof.Tests.C05

def dw0 (k area id gen : Nat) : W128 := w [(96, id), (88, k), (80, area), (32, gen)]

def dlv (st : DlvState) (s : State) : State := s.modDlv fun d => { d with id := 9, state := st, gen := 5, len := 2048, slot := 1 }

def dat := [dw0 1 0 9 5, w [(80, 2048)]] ++ List.replicate 128 (w [(0, 7)])

/-- States and operands that meet the hypotheses of DeliveryOrders, clause by clause. -/
theorem wit_DeliveryOrders :
    (∃ (o : OrderRec) (n w : Nat) (s : State), orderReady [8] o n w s = true ∧ ((fun o => dKind (oPayload o) == 0 || decide (3 < dKind (oPayload o))) o =
      true)) ∧
    (∃ (o : OrderRec) (n w : Nat) (s : State), orderReady [8] o n w s = true ∧ ((fun o => dKind (oPayload o) == 1 || decide (3 < dKind (oPayload o))) o =
      true)) ∧
    (∃ (o : OrderRec) (n w : Nat) (s : State), orderReady [8] o n w s = true ∧ ((fun o => dKind (oPayload o) == 2 || decide (3 < dKind (oPayload o))) o =
      true)) ∧
    (∃ (o : OrderRec) (n w : Nat) (s : State), orderReady [8] o n w s = true ∧ ((fun o => dKind (oPayload o) == 3 || decide (3 < dKind (oPayload o))) o =
      true)) :=
  ⟨⟨mkO 8 [dw0 0 0 9 5, w [(96, 2048)]], 2, 0, ks, by decide⟩,
    ⟨mkO 8 dat, 2, 0, dlv .receiving ks, by decide⟩,
    ⟨mkO 8 [dw0 2 0 9 5], 2, 0, (dlv .receiving ks).modDlv fun d => {d with slotMap := [0]}, by decide⟩,
    ⟨mkO 8 [dw0 3 0 9 5], 2, 0, (dlv .receiving ks), by decide⟩⟩

/-- States and operands that meet the hypotheses of DeliveryProgressAndAssets, clause by clause. -/
theorem wit_DeliveryProgressAndAssets :
    (∃ (s : State), s.dlv.state = .erasing ∧ s.sen.mlSig = false) ∧
    (∃ (s : State), s.dlv.state ≠ .erasing) ∧
    (∃ (s : State), s.dlv.state = .verifying ∧ s.sen.mlSig = false) ∧
    (∃ (s : State), s.dlv.state ≠ .verifying) ∧
    (∃ (block fails : Nat) (s : State), hasImage s = true ∧ block ∉ s.img.faulty ∧ assetIn s block = true ∧ fails < 2) ∧
    (∃ (block fails : Nat) (s : State), hasImage s = true ∧ block ∉ s.img.faulty ∧ (assetIn s block = false ∨ 2 ≤ fails)) ∧
    (∃ (block : Nat) (s : State), hasImage s = true ∧ block ∈ s.img.faulty) :=
  ⟨⟨(dlv .erasing ks).modFlash fun f => {f with mem := [(3, 5), (0x200003, 5), (0x400003, 7)]}, by decide⟩,
    ⟨run, by decide⟩,
    ⟨dlv .verifying ks, by decide⟩,
    ⟨run, by decide⟩,
    ⟨0, 1, ks.modImg fun i => {i with aLen := 4096}, by decide⟩,
    ⟨0, 2, ks.modImg fun i => {i with aLen := 4096}, by decide⟩,
    ⟨0, ks.modImg fun i => {i with aLen := 4096, faulty := [0]}, by decide⟩⟩

end Sys2Proof.Tests.C05

/-! Point link. -/

namespace Sys2Proof.Tests.C06

def mkUp (typ tick tag n : Nat) (body : List W32) : List W32 :=
  let b := ([BitVec.ofNat 32 (tick * 65536 + tag), BitVec.ofNat 32 (typ * 2^25 + n * 65536)] ++ body ++ List.replicate n 0).take (n - 2)
  [0] ++ b ++ [BitVec.ofNat 32 (crc32 (w32Bytes b))]

def mkDn (slot typ tick : Nat) (body : List W32) (n : Nat := 12) : List W32 :=
  let b := ([BitVec.ofNat 32 (tick * 65536), BitVec.ofNat 32 (slot * 2^13 + typ * 2^9 + n)] ++ body ++ List.replicate n 0).take (n - 2)
  [0] ++ b ++ [BitVec.ofNat 32 (crc32 (w32Bytes b))]

def ru : State := (run.modClk fun c => { c with tickTot := 2, tick := 1, bndTot := 1 }).modPmet 0 fun m => { m with on := true }

def hp (h : Head → Head) : State := ru.modHead 0 fun x => h { x with on := true, pair := .paired }

/-- States and operands that meet the hypotheses of UpstreamFrames, clause by clause. -/
theorem wit_UpstreamFrames :
    (∃ (k : Fin 8) (ws : List W32) (f : Bool) (s : State), listens k s = true ∧ upGood ws f = false) ∧
    (∃ (k : Fin 8) (ws : List W32) (f : Bool) (s : State), listens k s = true ∧ upGood ws f = true ∧ portRuns s.ports[k] = true ∧ upType ws ≠ 3 ∧ seqOk s k
      (s.clk.tickTot - 2) ws = false) ∧
    (∃ (k : Fin 8) (ws : List W32) (f : Bool) (s : State), listens k s = true ∧ upGood ws f = true ∧ portRuns s.ports[k] = true ∧ upType ws = 3) ∧
    (∃ (k : Fin 8) (ws : List W32) (f : Bool) (s : State), listens k s = true ∧ upGood ws f = true ∧ portRuns s.ports[k] = true ∧ upType ws ≠ 3 ∧ seqOk s k
      (s.clk.tickTot - 2) ws = true ∧ ws.length = lCfg s k.val) ∧
    (∃ (k : Fin 8) (s : State), listens k s = true ∧ 3 ≤ s.clk.tickTot ∧ s.ports[k].st = .admitted ∧ (∀ l, s.ports[k].lastTick = some l → l < s.clk.tickTot
      - 3)) ∧
    (∃ (k : Fin 8) (l : Nat) (s : State), s.ports[k].lastTick = some l ∧ s.clk.tickTot - 3 ≤ l) :=
  ⟨⟨0, mkUp 0 0 1000 57 [], false, ru, by decide⟩,
    ⟨0, mkUp 0 5 1000 57 [], true, ru, by decide +kernel⟩,
    ⟨0, mkUp 3 0 1000 57 [], true, ru, by decide +kernel⟩,
    ⟨0, mkUp 0 0 1000 57 [], true, ru, by decide +kernel⟩,
    ⟨0, ru.modClk fun c => { c with tickTot := 3}, by decide⟩,
    ⟨0, 4, ru.modPort 0 fun p => { p with lastTick := some 4}, by decide⟩⟩

/-- States and operands that meet the hypotheses of PortStates, clause by clause. -/
theorem wit_PortStates :
    (∃ (k : Fin 8) (s : State), 256 ≤ s.ports[k].silence ∧ portRuns s.ports[k] = true) ∧
    (∃ (k : Fin 8) (s : State), 256 ≤ s.ports[k].silence ∧ (s.ports[k].st = .pairing ∨ s.ports[k].st = .testing ∨ s.ports[k].st = .ready)) ∧
    (∃ (k : Fin 8) (s : State), s.ports[k].silence < 256) ∧
    (∃ (k : Fin 8) (s : State), s.ports[k].st = .slow ∧ 500 < s.ports[k].slowBnd) ∧
    (∃ (k : Fin 8) (s : State), s.ports[k].st = .slow ∧ s.ports[k].slowDone = true) ∧
    (∃ (k : Fin 8) (s : State), 16 ≤ s.ports[k].statMiss ∧ portRuns s.ports[k] = true) ∧
    (∃ (k : Fin 8) (s : State), s.ports[k].st = .pairing) ∧
    (∃ (k : Fin 8) (s : State), s.ports[k].st = .testing ∧ s.ports[k].checkStep = 1) ∧
    (∃ (k : Fin 8) (s : State), s.ports[k].st = .testing ∧ 2 ≤ s.ports[k].checkStep ∧ s.ports[k].checkStep ≤ 4 ∧ 8 ≤ s.ports[k].checkTk) ∧
    (∃ (k : Fin 8) (s : State), s.ports[k].st = .testing ∧ s.ports[k].checkStep = 5 ∧ 20 ≤ s.ports[k].checkTk) :=
  ⟨⟨0, ru.modPort 0 fun p => { p with silence := 256}, by decide⟩,
    ⟨1, ru.modPort 1 fun p => { p with silence := 256, st := .ready}, by decide⟩,
    ⟨0, run.modPort 0 fun p => {p with silence := 255}, by decide⟩,
    ⟨1, ru.modPort 1 fun p => { p with slowBnd := 556, st := .slow}, by decide⟩,
    ⟨1, ru.modPort 1 fun p => { p with slowDone := true, st := .slow}, by decide⟩,
    ⟨1, ru.modPort 1 fun p => { p with statMiss := 16, st := .slow}, by decide⟩,
    ⟨1, ru.modPort 1 fun p => { p with st := .pairing}, by decide⟩,
    ⟨1, ru.modPort 1 fun p => { p with st := .testing, checkStep := 1}, by decide⟩,
    ⟨1, ru.modPort 1 fun p => { p with st := .testing, checkStep := 2, checkTk := 8}, by decide⟩,
    ⟨1, ru.modPort 1 fun p => { p with st := .testing, checkStep := 5, checkTk := 20}, by decide⟩⟩

/-- States and operands that meet the hypotheses of HeadFrames, clause by clause. -/
theorem wit_HeadFrames :
    (∃ (k : Fin 8) (ws : List W32) (f : Bool) (s : State), s.heads[k].on = true ∧ s.heads[k].pair = .paired ∧ dnType ws = 0 ∧ headValid s.heads[k] ws f =
      true) ∧
    (∃ (k : Fin 8) (ws : List W32) (f : Bool) (s : State), s.heads[k].on = true ∧ (dnType ws ≠ 0 ∨ headValid s.heads[k] ws f = false)) ∧
    (∃ (k : Fin 8) (ws : List W32) (f : Bool) (s : State), s.heads[k].on = true ∧ s.heads[k].pair = .paired ∧ dnType ws = 2 ∧ headValid s.heads[k] ws f =
      true) ∧
    (∃ (k : Fin 8) (ws : List W32) (f : Bool) (s : State), s.heads[k].on = true ∧ s.heads[k].pair = .unpaired ∧ dnType ws = 1 ∧ headValid s.heads[k] ws f =
      true ∧ dnStep ws = 1) ∧
    (∃ (k : Fin 8) (ws : List W32) (f : Bool) (s : State), s.heads[k].on = true ∧ s.heads[k].pair = .challenged ∧ dnType ws = 1 ∧ headValid s.heads[k] ws f
      = true ∧ dnStep ws = 3) :=
  ⟨⟨0, mkDn 0 0 7 [1,2,3,4,0xDEADBEEF,6,7,8], true, hp id, by decide +kernel⟩,
    ⟨0, mkDn 0 0 7 [1,2,3,4,0xDEADBEEF,6,7,8], false, hp id, by decide⟩,
    ⟨0, mkDn 0 2 0 [0x01000000,2,3,4,0xA5A5A5A5,6,7,8], true, hp id, by decide +kernel⟩,
    ⟨0, mkDn 0 1 0 [0x01000000,2,3,4,0xA5A5A5A5,6,7,8], true, hp fun h => {h with pair := .unpaired}, by decide +kernel⟩,
    ⟨0, mkDn 0 1 0 [0x03000000,2,3,4,0xA5A5A5A5,6,7,8], true, hp fun h => {h with pair := .challenged}, by decide +kernel⟩⟩

/-- States and operands that meet the hypotheses of HeadAlone, clause by clause. -/
theorem wit_HeadAlone :
    (∃ (k : Fin 8) (s : State), s.heads[k].on = true ∧ s.heads[k].pair = .paired ∧ s.heads[k].failsafe = false) ∧
    (∃ (k : Fin 8) (s : State), s.heads[k].on = false ∨ s.heads[k].pair ≠ .paired ∨ s.heads[k].failsafe = true) ∧
    (∃ (k : Fin 8) (s : State), s.heads[k].on = true ∧ s.heads[k].pair ≠ .unpaired) ∧
    (∃ (i : Fin 32) (s : State), s.heads[slotOf i].on = true ∧ (s.heads[slotOf i].pts[posOf i].lock = 1 ∨ s.heads[slotOf i].pts[posOf i].lock = 2)) ∧
    (∃ (k : Fin 8) (s : State), s.heads[k].on = true) :=
  ⟨⟨0, hp id, by decide⟩,
    ⟨1, hp id, by decide⟩,
    ⟨0, hp id, by decide⟩,
    ⟨0, hp fun h => { h with pts := h.pts.set 0 { lock := 1 }}, by decide⟩,
    ⟨0, hp id, by decide⟩⟩

end Sys2Proof.Tests.C06

/-! Measurement chain. -/

namespace Sys2Proof.Tests.C07

def rh (f : Halo → Halo) : State := (run.modMeas 0 fun m => { m with halo := f { m.halo with on := true, fresh := false, mods := freshMods run 0, todo := [1,2], stepAt := 4 } }).modClk fun c => { c with count := 1024 }

def good : HaloCmp := ⟨40, 40, 10, 10, 10⟩

def badc : HaloCmp := ⟨40, 40, 1000, 10, 10⟩

def inc : HaloCmp := ⟨10, 40, 1000, 10, 10⟩

def off : HaloCmp := ⟨40, 4, 1000, 10, 10⟩

def rj (u : HaloUse) := rh fun h => {h with slots := h.slots.set 0 {judge := some (28, 3, u)}}

def e0 : HaloSlot := {kind := .confirm, mod := 28, ch := 3, hold := true, failer := 29}

def rc := rh fun h => {h with slots := h.slots.set 0 e0}

def e1 : HaloSlot := {kind := .subst, mod := 28, ch := 3, mode := 2}

/-- States and operands that meet the hypotheses of HaloStepsAndSubstitution, clause by clause. -/
theorem wit_HaloStepsAndSubstitution :
    (∃ (k : Fin 8) (s : State), s.meas[k].halo.on = true ∧ s.clk.count % 64 = 0 ∧ s.clk.started = true ∧ (s.meas[k].halo.fresh = true ∨
      s.meas[k].halo.stepAt ≠ s.clk.bndTot)) ∧
    (∃ (k : Fin 8) (s : State), s.meas[k].halo.on = false ∨ s.clk.count % 64 ≠ 0) ∧
    (∃ (k : Fin 8) (x : Fin 2) (m ch : Nat) (s : State), s.meas[k].halo.slots[x].judge = some (m, ch, .step) ∧ ch < 28 ∧ m < 30 ∧ m ≠ ch) ∧
    (∃ (k : Fin 8) (x : Fin 2) (m ch : Nat) (s : State), s.meas[k].halo.slots[x].judge = some (m, ch, .retest) ∧ ch < 28 ∧ m < 30 ∧ m ≠ ch) ∧
    (∃ (k : Fin 8) (x : Fin 2) (s : State), s.meas[k].halo.slots[x].judge = none) ∧
    (∃ (k : Fin 8) (x : Fin 2) (c : HaloCmp) (e : HaloSlot) (s : State), s.meas[k].halo.slots[x] = e ∧ e.kind = .confirm ∧ e.hold = true ∧ e.swapDue =
      false ∧ e.ch < 28 ∧ e.mod < 30 ∧ e.mod ≠ e.ch ∧ (haloResult c).1 = 3) ∧
    (∃ (k : Fin 8) (x : Fin 2) (c : HaloCmp) (e : HaloSlot) (s : State), s.meas[k].halo.slots[x] = e ∧ e.kind = .confirm ∧ e.hold = true ∧ e.swapDue =
      false ∧ e.ch < 28 ∧ e.mod < 30 ∧ e.mod ≠ e.ch ∧ (haloResult c).1 = 3) ∧
    (∃ (k : Fin 8) (x : Fin 2) (c : HaloCmp) (e : HaloSlot) (s : State), s.meas[k].halo.slots[x] = e ∧ e.kind = .confirm ∧ e.hold = true ∧ e.swapDue =
      false ∧ e.ch < 28 ∧ e.mod < 30 ∧ e.mod ≠ e.ch ∧ e.failer < 30 ∧ e.failer ≠ e.mod ∧ e.failer ≠ e.ch ∧ ((haloResult c).1 = 1 ∨ (haloResult c).1 =
      2)) ∧
    (∃ (k : Fin 8) (x : Fin 2) (s : State), s.meas[k].halo.slots[x].kind ≠ .confirm ∨ s.meas[k].halo.slots[x].hold = false) ∧
    (∃ (k : Fin 8) (x : Fin 2) (e : HaloSlot) (s : State), s.meas[k].halo.slots[x] = e ∧ e.kind = .subst ∧ e.ch < 28 ∧ e.mod < 30 ∧ e.mod ≠ e.ch ∧ 3 ≤
      (haloMod s.meas[k].halo e.ch).passes) ∧
    (∃ (k : Fin 8) (x : Fin 2) (s : State), s.meas[k].halo.slots[x].kind ≠ .subst) :=
  ⟨⟨0, rh id, by decide⟩,
    ⟨1, rh id, by decide⟩,
    ⟨0, 0, 28, 3, rj .step, by decide⟩,
    ⟨0, 0, 28, 3, rj .retest, by decide⟩,
    ⟨0, 1, rj .retest, by decide⟩,
    ⟨0, 0, badc, e0, rc, by decide⟩,
    ⟨0, 0, badc, e0, rc, by decide⟩,
    ⟨0, 0, good, e0, rc, by decide⟩,
    ⟨0, 1, rc, by decide⟩,
    ⟨0, 0, e1, rh fun h => modMod 3 (fun x => {x with passes := 3, serves := 31}) {h with slots := h.slots.set 0 e1}, by decide⟩,
    ⟨0, 1, rc, by decide⟩⟩

end Sys2Proof.Tests.C07

/-! Energy registers. -/

namespace Sys2Proof.Tests.C08

open Sys2Proof.Machine
def ci : CycInfo := { idx := 0, count := 1000, lenUs := 20000 }

def tk (k : Nat) (a b : Rat) (kind : TickKind := .usable): MTick := { tk := k, i := [a,a,a], u := [b,b,b], kind, closed := true, f := [1,1,1,1] }

def rm : State := ((run.modClk fun c => { c with tickTot := 400 }).modMet fun m => { m with todo := [ci] }).modPmet 0 fun m => { m with on := true, buf := (List.range 165).map fun k => tk k 16000000 230000000 }

def rm2 : State := rm.modPmet 1 fun m => { m with on := true, est := 5000, buf := (List.range 165).map fun k => tk k (-16000000) 230000000 (if k < 5 then .gap else .bridged) , set := {m.set with regs := m.set.regs.set 1 (regMax 1 - 5)}}

/-- States and operands that meet the hypotheses of RegistersAreExactSums, clause by clause. -/
theorem wit_RegistersAreExactSums :
    (∃ (r : Fin 14) (l : List Rat) (t : RegSet), (∀ a ∈ l, 0 ≤ a) ∧ (sumRat l * regUnit r.val).floor.toNat ≤ regMax r.val ∧ (t = l.foldl (fun t a =>
      (addReg r a t).1) {})) ∧
    (∃ (r q : Fin 14), q ≠ r) ∧
    (∃ (r : Fin 14) (a : Rat) (t : RegSet), r.val ∉ t.sat ∧ regMax r.val < t.regs[r] + (addReg r a t).2.1) ∧
    (∃ (r : Fin 14) (t : RegSet), r.val ∈ t.sat) :=
  ⟨⟨0, [1/3,1/3,1/3,5/7], ([1/3,1/3,1/3,5/7] : List Rat).foldl (fun t a => (addReg 0 a t).1) {}, by with_unfolding_all decide⟩,
    ⟨8, 3, by decide⟩,
    ⟨8, 10, {regs := Vector.replicate 14 (2^128 - 1)}, by with_unfolding_all decide⟩,
    ⟨8, {regs := Vector.replicate 14 (2^128 - 1), sat := [8]}, by decide⟩⟩

/-- States and operands that meet the hypotheses of MeteringNeverTakesBack, clause by clause. -/
theorem wit_MeteringNeverTakesBack :
    (∃ (info : CycInfo) (rest : List CycInfo) (s : State), s.met.todo = info :: rest ∧ s.met.closedOut = false ∧ cycleArrived s info = true) ∧
    (∃ (s : State), s.met.todo = []) :=
  ⟨⟨ci, [], rm, by with_unfolding_all decide⟩,
    ⟨run, by decide⟩⟩

end Sys2Proof.Tests.C08

/-! Safety. -/

namespace Sys2Proof.Tests.C09

def mp (f : PtSafe → PtSafe) (s : State := run) : State := s.modPsafe 1 f

def mc (f : PtCp → PtCp) (s : State := run) : State := s.modCp 1 f

def stt (l : List (Nat × Nat)) : State := run.modPort 0 fun p => { p with stat := (List.range 24).map fun j => BitVec.ofNat 32 ((l.find? (·.1 == j)).map (·.2) |>.getD 0) }

def runF : State := run.modImg fun i => { i with recs := i.recs.map fun r => if r.typ = 0x30 then {r with pay := [w [(64, 5), (32, 15)]]} else r }

def per (s : State) : State := s.modSafe fun x => {x with a := {x.a with opinion := x.a.opinion.set 1 true}, b := {x.b with opinion := x.b.opinion.set 1 true}}

def ptS : State := (run.modImg fun i => {i with recs := i.recs.map fun r => if r.typ = 0x30 then {r with pay := [w [(64, 5), (36, 0xFF), (32, 15)]]} else r })

def cl : State := ((stt [(14, 0x40), (6, 0x4)]).modCp 0 fun c => {c with pst := .authorised, cp := .c, ceil := 320}).modPsafe 0 fun x => {x with st := .opened}

def te (f : PtSafe → PtSafe) := cl.modPsafe 0 fun x => f {x with st := .testing, testLeft := 0, idcTest := [1000,1000]}

def cg (f : PtSafe → PtSafe) := cl.modPsafe 0 fun x => f {x with st := .closing, testAt := 900}

def pu := run.modSafe fun x => {x with rstPulse := true}

def lk := (run.modSafe fun x => {x with rstDue := true, a := {x.a with armed := false, out := false, lockRec := {x.a.lockRec with hub := 3, cause := x.a.lockRec.cause.set 1 0x11}}, b := {x.b with armed := false, out := false}}).modPsafe 1 fun x => {x with st := .lockedOut}

/-- States and operands that meet the hypotheses of RailFaultsLockTheHub, clause by clause. -/
theorem wit_RailFaultsLockTheHub :
    (∃ (a b : Bool), ¬ (a = true ∧ b = false)) ∧
    (∃ (s : State), s.safe.estopA = s.safe.estopB) ∧
    (∃ (s : State), s.safe.estopA ≠ s.safe.estopB) ∧
    (∃ (a b : Bool) (s : State), ¬ (a = s.safe.a.out ∧ b = (s.safe.a.out && s.safe.b.out))) :=
  ⟨⟨false, false, by decide⟩,
    ⟨run.modSafe fun x => {x with estopB := true, a := {x.a with lockRec := {x.a.lockRec with hub := 1}}}, by decide⟩,
    ⟨run, by decide⟩,
    ⟨true, false, run, by decide⟩⟩

/-- States and operands that meet the hypotheses of PointLockouts, clause by clause. -/
theorem wit_PointLockouts :
    (∃ (i : Fin 32) (s : State), fbNo s i = fbNc s i) ∧
    (∃ (i : Fin 32) (s : State), fbNo s i ≠ fbNc s i) ∧
    (∃ (i : Fin 32) (s : State), (lsOn s i = true ∧ ctrOpen s i = true) ∨ (lsOn s i = false ∧ ctrClosed s i = true)) ∧
    (∃ (i : Fin 32) (s : State), 2 ≤ s.psafe[i].weldRun) ∧
    (∃ (i : Fin 32) (s : State), s.psafe[i].weldRun < 2) ∧
    (∃ (i : Fin 32) (idc : Nat) (s : State), 300 ≤ idc ∧ s.heads[slotOf i].pts[posOf i].fgTst = false ∧ s.heads[slotOf i].on = true) ∧
    (∃ (i : Fin 32) (idc : Nat) (s : State), idc < 300 ∨ s.heads[slotOf i].pts[posOf i].fgTst = true) ∧
    (∃ (i : Fin 32) (iac : Nat) (s : State), 300 ≤ iac ∧ s.heads[slotOf i].on = true) ∧
    (∃ (i : Fin 32) (s : State), bitOf (cfg s 0x30 (slotOf i).val 0 35 32) (posOf i).val = true ∧ s.heads[slotOf i].on = true) ∧
    (∃ (i : Fin 32) (s : State), s.heads[slotOf i].on = true) ∧
    (∃ (i : Fin 32) (s : State), 600 ≤ stIdc s i ∧ rcFlag s i 1 = false) ∧
    (∃ (i : Fin 32) (s : State), 10 * iacTrip s ≤ stIac s i ∧ hasImage s = true) :=
  ⟨⟨1, stt [], by decide⟩,
    ⟨1, stt [(14, 0x8000)], by decide⟩,
    ⟨1, stt [(14, 0x8000)], by decide⟩,
    ⟨1, mp fun x => {x with weldRun := 2}, by decide⟩,
    ⟨1, run, by decide⟩,
    ⟨1, 600, run, by decide⟩,
    ⟨1, 299, run, by decide⟩,
    ⟨1, 600, run, by decide⟩,
    ⟨1, runF, by decide⟩,
    ⟨1, run, by decide⟩,
    ⟨1, stt [(7, 0x03000000)], by decide⟩,
    ⟨1, stt [(7, 0x0000FFF0)], by decide⟩⟩

/-- States and operands that meet the hypotheses of PointStopsAndTheirEnd, clause by clause. -/
theorem wit_PointStopsAndTheirEnd :
    (∃ (i : Fin 32) (s : State), s.cp[i].cpMode = 1 ∧ s.cp[i].cpHi ≤ 10500 ∧ -10500 ≤ s.cp[i].cpLo ∧ s.psafe[i].missDiode = false) ∧
    (∃ (i : Fin 32) (s : State), s.cp[i].cpMode = 1 ∧ -1500 ≤ s.cp[i].cpHi ∧ s.cp[i].cpHi ≤ 1500 ∧ s.psafe[i].shortPe = false) ∧
    (∃ (i : Fin 32) (s : State), (cableBand s.cp[i].pp = none ∨ cableBand s.cp[i].pp = some .none) ∧ permitted s i = true ∧ ptTethered s i.val = false ∧
      s.psafe[i].proximity = false) ∧
    (∃ (i : Fin 32) (s : State), permitted s i = true ∧ ptTethered s i.val = false ∧ lockFb s i = false ∧ s.psafe[i].lockFb = false) ∧
    (∃ (i : Fin 32) (s : State), ptTethered s i.val = true) ∧
    (∃ (k : Fin 8) (s : State), 2 ≤ s.safe.npeHi[k] ∧ s.psafe[ptIdx k 0].npe = false) ∧
    (∃ (k : Fin 8) (s : State), 250 ≤ s.safe.npeLo[k] ∧ s.psafe[ptIdx k 0].npe = true) ∧
    (∃ (i : Fin 32) (s : State), 2 ≤ s.psafe[i].t2Run ∧ s.psafe[i].t2 = false) ∧
    (∃ (i : Fin 32) (s : State), 3000 ≤ s.psafe[i].t2Low ∧ s.psafe[i].t2 = true) ∧
    (∃ (i : Fin 32) (b : Bool) (s : State), ptFitted s (slotOf i) (2 * (posOf i).val + b2n b) = true ∧ stPt s (slotOf i) (2 * (posOf i).val + b2n b) =
      0x8000 ∧ s.psafe[i].ptExc = false) ∧
    (∃ (i : Fin 32) (s : State), (∀ k : Fin 2, ptFitted s (slotOf i) (2 * (posOf i).val + k.val) = true → stPt s (slotOf i) (2 * (posOf i).val + k.val) ≠
      0x8000) ∧ s.psafe[i].ptExc = true) :=
  ⟨⟨1, mc fun c => {c with cpMode := 1, cpHi := 9000, cpLo := -9000}, by decide⟩,
    ⟨1, mc fun c => {c with cpMode := 1, cpHi := 900, cpLo := -9000}, by decide⟩,
    ⟨1, per (mc fun c => {c with pp := 3000}), by decide⟩,
    ⟨1, per (stt []), by decide⟩,
    ⟨0, run, by decide⟩,
    ⟨0, run.modSafe fun x => { x with npeHi := x.npeHi.set 0 2}, by decide⟩,
    ⟨0, (run.modSafe fun x => { x with npeLo := x.npeLo.set 0 250}).modPsafe 0 fun x => {x with npe := true, st := .stopped}, by decide⟩,
    ⟨1, mp fun x => {x with t2Run := 2}, by decide⟩,
    ⟨1, mp fun x => {x with t2Low := 3000, t2 := true, st := .stopped}, by decide⟩,
    ⟨1, true, ptS.modPort 0 fun p => { p with stat := List.replicate 24 0x80008000 }, by decide⟩,
    ⟨1, ptS.modPsafe 1 fun x => {x with ptExc := true, st := .stopped}, by decide⟩⟩

/-- States and operands that meet the hypotheses of ClosingAndOpening, clause by clause. -/
theorem wit_ClosingAndOpening :
    (∃ (i : Fin 32) (s : State), mayAsk s i = true ∧ closeHolds s i = true ∧ s.psafe[i].st = .opened) ∧
    (∃ (i : Fin 32) (s : State), mayAsk s i = false ∨ closeHolds s i = false ∨ s.psafe[i].st ≠ .opened) ∧
    (∃ (i : Fin 32) (s : State), s.psafe[i].st = .testing ∧ s.psafe[i].testLeft = 0 ∧ 700 ≤ meanIdc s.psafe[i].idcTest ∧ meanIdc s.psafe[i].idcTest ≤ 1300
      ∧ rcFlag s i 3 = false ∧ rcFlag s i 2 = true ∧ closeHolds s i = true) ∧
    (∃ (i : Fin 32) (s : State), s.psafe[i].st = .testing ∧ s.psafe[i].testLeft = 0 ∧ (meanIdc s.psafe[i].idcTest < 700 ∨ 1300 < meanIdc s.psafe[i].idcTest
      ∨ rcFlag s i 3 = true ∨ rcFlag s i 2 = false)) ∧
    (∃ (i : Fin 32) (s : State), s.psafe[i].st = .closing ∧ s.psafe[i].testAt + 2 ≤ s.clk.count ∧ closeHolds s i = true ∧ mayAsk s i = true) ∧
    (∃ (i : Fin 32) (s : State), s.psafe[i].st = .closing ∧ s.psafe[i].testAt + 2 ≤ s.clk.count ∧ (closeHolds s i = false ∨ mayAsk s i = false)) ∧
    (∃ (i : Fin 32) (s : State), s.psafe[i].st ≠ .closing ∨ s.clk.count < s.psafe[i].testAt + 2) ∧
    (∃ (i : Fin 32) (s : State), s.psafe[i].st = .testing ∨ s.psafe[i].st = .closing ∨ s.psafe[i].st = .closed) :=
  ⟨⟨0, cl, by decide⟩,
    ⟨1, cl, by decide⟩,
    ⟨0, te id, by decide⟩,
    ⟨0, te fun x => {x with idcTest := [100]}, by decide⟩,
    ⟨0, cg id, by decide⟩,
    ⟨0, cg fun x => {x with t2 := true}, by decide⟩,
    ⟨1, cl, by decide⟩,
    ⟨0, cg id, by decide⟩⟩

/-- States and operands that meet the hypotheses of ResetAndRailTest, clause by clause. -/
theorem wit_ResetAndRailTest :
    (∃ (s : State), s.safe.rstPulse = true) ∧
    (∃ (a b : Nat) (s : State), s.safe.rstPulse = true ∧ pulseOk a = true ∧ pulseOk b = true ∧ s.safe.rstBad = false) ∧
    (∃ (a b : Nat) (s : State), s.safe.rstPulse = true ∧ (pulseOk a = false ∨ pulseOk b = false ∨ s.safe.rstBad = true)) ∧
    (∃ (s : State), s.safe.rstDue = true) ∧
    (∃ (s : State), s.safe.rstDue = false) ∧
    (∃ (s : State), s.safe.testDue = true ∧ armed s = true ∧ (∀ i : Fin 32, permitted s i = false)) ∧
    (∃ (m : List (Bool × Bool)) (s : State), s.safe.testDue = true ∧ armed s = true ∧ (∀ i : Fin 32, permitted s i = false) ∧ m ≠ railTestGood ∧ hubLock s
      = 0) ∧
    (∃ (i : Fin 32) (s : State), s.safe.testDue = false ∨ armed s = false ∨ permitted s i = true) ∧
    (∃ (s : State), 604800 < s.clk.rtcS - s.safe.testRtc ∧ s.safe.overdue = false) :=
  ⟨⟨run.modSafe fun x => {x with rstPulse := true}, by decide⟩,
    ⟨100000, 3000000, pu, by decide⟩,
    ⟨100000, 3000001, pu, by decide⟩,
    ⟨lk, by decide⟩,
    ⟨run, by decide⟩,
    ⟨run.modSafe fun x => {x with testDue := true}, by decide⟩,
    ⟨[], run.modSafe fun x => {x with testDue := true}, by decide⟩,
    ⟨0, run, by decide⟩,
    ⟨run.modClk fun x => {x with rtcS := 604801}, by decide⟩⟩

end Sys2Proof.Tests.C09

/-! Pilot and lock. -/

namespace Sys2Proof.Tests.C10

def mp (f : PtSafe → PtSafe) (s : State := run) : State := s.modPsafe 1 f

def mc (f : PtCp → PtCp) (s : State := run) : State := s.modCp 1 f

def stt (l : List (Nat × Nat)) (s : State := run) : State := s.modPort 0 fun p => { p with stat := (List.range 24).map fun j => BitVec.ofNat 32 ((l.find? (·.1 == j)).map (·.2) |>.getD 0) }

def dr := mc fun c => {c with lockDir := 1, lockCmd := 1, lockTry := 1}

def dr2 := mc fun c => {c with lockDir := 2, lockCmd := 2, lockTry := 1}

/-- States and operands that meet the hypotheses of PilotReportsMoveThePoint, clause by clause. -/
theorem wit_PilotReportsMoveThePoint :
    (∃ (i : Fin 32) (s : State), s.cp[i].cpMode < 2 ∧ s.cp[i].pst ≠ .absent ∧ cpBand s.cp[i].cpHi ≠ s.cp[i].cp ∧ cpLeaves s.cp[i].cp s.cp[i].cpHi = true) ∧
    (∃ (i : Fin 32) (s : State), 2 ≤ s.cp[i].cpMode ∨ s.cp[i].pst = .absent ∨ cpBand s.cp[i].cpHi = s.cp[i].cp ∨ cpLeaves s.cp[i].cp s.cp[i].cpHi = false) ∧
    (∃ (k : Fin 8) (s : State), portRuns s.ports[k] = true ∧ vcpOk s k = false) ∧
    (∃ (k : Fin 8) (s : State), portRuns s.ports[k] = true ∧ vcpOk s k = true) ∧
    (∃ (k : Fin 8) (s : State), portRuns s.ports[k] = true ∧ vcpOk s k = true) ∧
    (∃ (k : Fin 8) (s : State), portRuns s.ports[k] = true ∧ vcpOk s k = false) ∧
    (∃ (i : Fin 32) (c : Cable) (s : State), ptTethered s i.val = false ∧ hasPoint s i.val = true ∧ cableBand s.cp[i].pp = some c ∧ s.cp[i].cable ≠ c) ∧
    (∃ (i : Fin 32) (s : State), ptTethered s i.val = false ∧ hasPoint s i.val = true ∧ cableBand s.cp[i].pp = none) ∧
    (∃ (i : Fin 32) (s : State), ptTethered s i.val = true) :=
  ⟨⟨1, mc fun c => {c with cpHi := 9000}, by decide⟩,
    ⟨1, mc fun c => {c with cpHi := 7400, cp := .b}, by decide⟩,
    ⟨0, stt [], by decide⟩,
    ⟨0, stt [(21, 12000*65536 + 65536-12000)], by decide⟩,
    ⟨0, stt [(21, 12000*65536 + 65536-12000)], by decide⟩,
    ⟨0, stt [], by decide⟩,
    ⟨1, .a13, stt [(14,0x8000)] (mc fun c => {c with pp := 1500}), by decide⟩,
    ⟨1, mc fun c => {c with pp := 30000}, by decide⟩,
    ⟨0, run, by decide⟩⟩

/-- States and operands that meet the hypotheses of LocksReturnAndPause, clause by clause. -/
theorem wit_LocksReturnAndPause :
    (∃ (i : Fin 32) (s : State), driving s.cp[i] = true ∧ lockFb s i = decide (s.cp[i].lockDir = 1)) ∧
    (∃ (i : Fin 32) (s : State), driving s.cp[i] = false ∨ lockFb s i ≠ decide (s.cp[i].lockDir = 1)) ∧
    (∃ (i : Fin 32) (s : State), driving s.cp[i] = true ∧ lockFb s i ≠ decide (s.cp[i].lockDir = 1) ∧ s.cp[i].lockTry < (if s.cp[i].lockDir = 2 then 3 else
      2)) ∧
    (∃ (i : Fin 32) (s : State), driving s.cp[i] = true ∧ lockFb s i ≠ decide (s.cp[i].lockDir = 1) ∧ (if s.cp[i].lockDir = 2 then 3 else 2) ≤
      s.cp[i].lockTry) ∧
    (∃ (i : Fin 32) (s : State), driving s.cp[i] = false) ∧
    (∃ (i : Fin 32) (s : State), s.cp[i].lockDir ≠ 0 ∧ s.cp[i].lockCmd = 0 ∧ s.cp[i].lockPendOn = false ∧ s.cp[i].lockTry ≠ 0 ∧ s.sen.mlSig = false) ∧
    (∃ (s : State), s.sen.mlSig = true) ∧
    (∃ (i : Fin 32) (s : State), s.cp[i].lockFault ≠ 0 ∧ 50 ≤ s.cp[i].lockFaultRun) ∧
    (∃ (i : Fin 32) (s : State), s.cp[i].lockFault = 0 ∨ s.cp[i].lockFaultRun < 50) ∧
    (∃ (i : Fin 32) (s : State), s.cp[i].pst = .outOfService ∧ oosCause s i = 0 ∧ s.cp[i].aRun = 50 ∧ (ptTethered s i.val = true ∨ lockFb s i = false) ∧
      s.cp[i].pilotFault = false ∧ s.cp[i].genFault = false ∧ s.cp[i].lockFault = 0) ∧
    (∃ (i : Fin 32) (s : State), s.cp[i].pst ≠ .outOfService ∨ oosCause s i ≠ 0 ∨ s.cp[i].aRun ≠ 50 ∨ (ptTethered s i.val = false ∧ lockFb s i = true) ∨
      s.cp[i].pilotFault = true ∨ s.cp[i].genFault = true ∨ s.cp[i].lockFault ≠ 0) ∧
    (∃ (i : Fin 32) (s : State), s.cp[i].pst = .charging ∧ s.cp[i].ceil < 60) ∧
    (∃ (i : Fin 32) (s : State), s.cp[i].pst ≠ .charging ∨ 60 ≤ s.cp[i].ceil) :=
  ⟨⟨1, stt [(14,0x2000)] dr, by decide⟩,
    ⟨1, dr, by decide⟩,
    ⟨1, dr, by decide⟩,
    ⟨1, mc (fun c => {c with lockTry := 3}) dr, by decide⟩,
    ⟨1, run, by decide⟩,
    ⟨1, mc fun c => {c with lockDir := 2, lockTry := 1}, by decide⟩,
    ⟨run.modSen fun x => {x with mlSig := true}, by decide⟩,
    ⟨1, mc fun c => {c with lockFault := 1, lockFaultRun := 50, pst := .fault}, by decide⟩,
    ⟨1, run, by decide⟩,
    ⟨1, mc fun c => {c with pst := .outOfService, aRun := 50}, by decide⟩,
    ⟨1, mc fun c => {c with pst := .outOfService, aRun := 49}, by decide⟩,
    ⟨1, mp (fun x => {x with st := .closed}) (mc fun c => {c with pst := .charging, ceil := 59}), by decide⟩,
    ⟨1, mc fun c => {c with pst := .charging, ceil := 60}, by decide⟩⟩

end Sys2Proof.Tests.C10

/-! Power line to the vehicle. -/

namespace Sys2Proof.Tests.C11

def mc (f : PtCp → PtCp) (s : State := run) : State := s.modCp 1 f

def ml (f : PtPlc → PtPlc) (s : State := run) : State := s.modPlc 1 f

def ms (f : PtSes → PtSes) (s : State := run) : State := s.modSes 1 f

def hd : State := run.modHead 0 fun h => {h with on := true, pair := .paired, rxTick := 100}

def mh (f : HeadPlc → HeadPlc) (s : State := hd) : State := modHeadPlc 1 f s

def mP (f : HeadPipes → HeadPipes) (s : State := hd) : State := s.modHpipes 0 f

def b152 : List (BitVec 8) := List.replicate 152 7

def pp (f : Pipes → Pipes) : State := run.modPipes 0 fun x => f {x with on := true}

def pq (st : PipeSt) (f n : Nat) (p : Fin 5) : State := pp fun x => {x with pipes := x.pipes.set p {st := st, fails := f, passes := n}, spareFor := p.val}

def sv (f : PtPlc → PtPlc) : State := ms (fun x => {x with stage := .link}) (mc (fun c => {c with pst := .connected}) (ml fun x => f {x with runId := 55, snid := 3}))

/-- States and operands that meet the hypotheses of HeadTakesTunnelMessages, clause by clause. -/
theorem wit_HeadTakesTunnelMessages :
    (∃ (i : Fin 32) (d : Nat) (b : List (BitVec 8)) (s : State), headUp s i = true ∧ (pbCount (bits d 33 32) b.length).isSome = true ∧ bitOf d 34 = false ∧
      (headPlc s i).tx.length < 8) ∧
    (∃ (i : Fin 32) (d : Nat) (b : List (BitVec 8)) (long : Bool) (s : State), headUp s i = true ∧ (long = true ∨ pbCount (bits d 33 32) b.length = none)) ∧
    (∃ (i : Fin 32) (d : Nat) (b : List (BitVec 8)) (s : State), headUp s i = true ∧ (pbCount (bits d 33 32) b.length).isSome = true ∧ bitOf d 34 = true ∧
      32768 ≤ (bits d 63 48 + 65536 - s.heads[slotOf i].rxTick) % 65536) ∧
    (∃ (i : Fin 32) (d : Nat) (g : List Nat) (s : State), headUp s i = true ∧ 74 ≤ bits d 63 48 ∧ g ≠ [] ∧ g.length = bits d 47 32 ∧ bits d 63 48 + bits d
      47 32 ≤ 1229 ∧ (∀ c ∈ g, c ≤ 81) ∧ -12 ≤ ofTwos 8 (bits d 31 24) ∧ ofTwos 8 (bits d 31 24) ≤ 6) ∧
    (∃ (i : Fin 32) (d : Nat) (g : List Nat) (s : State), headUp s i = true ∧ (bits d 63 48 < 74 ∨ g.length ≠ bits d 47 32 ∨ 1229 < bits d 63 48 + bits d
      47 32)) ∧
    (∃ (i : Fin 32) (d : Nat) (s : State), headUp s i = true ∧ bitOf d 35 = true) ∧
    (∃ (i : Fin 32) (d : Nat) (s : State), headUp s i = true ∧ bitOf d 35 = false) ∧
    (∃ (i : Fin 32) (mode sn te : Nat) (bc : Bool) (b : List (BitVec 8)) (n : Nat) (s : State), pbCount mode b.length = some n ∧ headUp s i = true ∧ (bc =
      true ∨ ((headPlc s i).valid = true ∧ sn = (headPlc s i).snid ∧ te = (headPlc s i).tei)) ∧ (headPlc s i).rx.length < 8) ∧
    (∃ (i : Fin 32) (mode sn te : Nat) (b : List (BitVec 8)) (s : State), (pbCount mode b.length).isSome = true ∧ headUp s i = true ∧ (headPlc s i).valid =
      true ∧ sn = (headPlc s i).snid ∧ te = (headPlc s i).tei ∧ 8 ≤ (headPlc s i).rx.length) ∧
    (∃ (i : Fin 32) (sn te : Nat) (s : State), (headPlc s i).valid = false ∨ sn ≠ (headPlc s i).snid ∨ te ≠ (headPlc s i).tei) ∧
    (∃ (i : Fin 32) (a : Fin 8) (r : Fin 4) (m : Mpdu) (ms : List Mpdu) (s : State), headUp s i = true ∧ (headPlc s i).tx = m :: ms ∧ (r.val < 2 ∨ bits
      m.desc 39 37 ≤ a.val)) ∧
    (∃ (i : Fin 32) (s : State), (headPlc s i).tx = []) :=
  ⟨⟨1, 5*2^40, b152, hd, by decide⟩,
    ⟨1, 5*2^40, b152, true, hd, by decide⟩,
    ⟨1, 99*2^48+5*2^40+2^34, b152, hd, by decide⟩,
    ⟨1, 75*2^48+2*2^32+250*2^24, [3,4], mh fun x => {x with filt := List.replicate 1155 9}, by decide⟩,
    ⟨1, 75*2^48+2*2^32+250*2^24, [3], hd, by decide⟩,
    ⟨1, 2^35+ 3*2^36+7*2^40, hd, by decide⟩,
    ⟨1, 0, mh fun x => {x with valid := true, tx := [{desc := 5*2^40, body := b152}, {desc := 255*2^40, body := b152}]}, by decide⟩,
    ⟨1, 0, 0, 0, false, b152, 1, mh fun x => {x with valid := true}, by decide⟩,
    ⟨1, 0, 0, 0, b152, mh fun x => {x with valid := true, rx := List.replicate 8 {}}, by decide⟩,
    ⟨1, 0, 0, hd, by decide⟩,
    ⟨1, 1, 0, {desc := 5*2^40, body := b152}, [], mh fun x => {x with valid := true, tx := [{desc := 5*2^40, body := b152}]}, by decide⟩,
    ⟨1, hd, by decide⟩⟩

/-- States and operands that meet the hypotheses of PipesAreTestedInRotation, clause by clause. -/
theorem wit_PipesAreTestedInRotation :
    (∃ (i : Fin 32) (s : State), headUp s i = true ∧ s.hpipes[slotOf i].spareFor = 7 ∧ s.hpipes[slotOf i].handTo = none ∧ s.hpipes[slotOf i].testing = none) ∧
    (∃ (i : Fin 32) (s : State), headUp s i = true ∧ s.hpipes[slotOf i].spareFor = (posOf i).val ∧ s.hpipes[slotOf i].handTo = none) ∧
    (∃ (k : Fin 8) (p : Nat) (s : State), s.hpipes[k].handTo = some p) ∧
    (∃ (i : Fin 32) (p : Fin 5) (s : State), headUp s i = true ∧ pipeServes s.hpipes[slotOf i] p.val = false ∧ s.hpipes[slotOf i].testing = none) ∧
    (∃ (i : Fin 32) (p : Fin 5) (s : State), pipeServes s.hpipes[slotOf i] p.val = true) ∧
    (∃ (k : Fin 8) (p : Fin 5) (q : Fin 4) (s : State), s.hpipes[k].testing = some (p.val, q.val)) ∧
    (∃ (k : Fin 8) (p : Fin 4) (s : State), s.pipes[k].on = true ∧ s.pipes[k].stepPipe = 7 ∧ s.pipes[k].spareFor = 7 ∧ spareReady s k = true ∧
      s.pipes[k].idx = p.val + 1 ∧ (pipeOf s k p.val).st = .inService ∧ s.plc[ptIdx k p].slac ≠ .sounding ∧ s.plc[ptIdx k p].slac ≠ .waitAtten) ∧
    (∃ (k : Fin 8) (s : State), s.pipes[k].on = false ∨ s.pipes[k].stepPipe ≠ 7) ∧
    (∃ (k : Fin 8) (p : Fin 5) (s : State), s.pipes[k].on = true ∧ (pipeOf s k p.val).st = .retired ∧ (pipeOf s k p.val).retestAt + 1024 ≤ s.clk.bndTot ∧
      (p.val = 4 ∨ s.pipes[k].spareFor = p.val)) ∧
    (∃ (k : Fin 8) (p : Fin 5) (s : State), (pipeOf s k p.val).st ≠ .retired ∨ s.clk.bndTot < (pipeOf s k p.val).retestAt + 1024) ∧
    (∃ (k : Fin 8) (d : Nat) (p : Fin 5) (s : State), bits d 15 8 = p.val ∧ s.pipes[k].on = true ∧ ((pipeOf s k p.val).st = .underTest ∨ (pipeOf s k
      p.val).st = .suspect) ∧ bits d 39 32 = 1) ∧
    (∃ (k : Fin 8) (d : Nat) (p : Fin 5) (s : State), bits d 15 8 = p.val ∧ s.pipes[k].on = true ∧ (pipeOf s k p.val).st = .underTest ∧ bits d 39 32 ≠ 1) ∧
    (∃ (k : Fin 8) (d : Nat) (p : Fin 5) (s : State), bits d 15 8 = p.val ∧ s.pipes[k].on = true ∧ (pipeOf s k p.val).st = .suspect ∧ bits d 39 32 ≠ 1) ∧
    (∃ (k : Fin 8) (d : Nat) (p : Fin 5) (s : State), bits d 15 8 = p.val ∧ s.pipes[k].on = true ∧ (pipeOf s k p.val).st = .retired ∧ bits d 39 32 = 1) :=
  ⟨⟨1, hd, by decide⟩,
    ⟨1, mP fun x => {x with spareFor := 1}, by decide⟩,
    ⟨0, 4, mP fun x => {x with handTo := some 4, handPt := 1}, by decide⟩,
    ⟨1, 4, hd, by decide⟩,
    ⟨1, 1, hd, by decide⟩,
    ⟨0, 4, 1, mP fun x => {x with testing := some (4,1)}, by decide⟩,
    ⟨0, 1, pp fun x => {x with idx := 2}, by decide⟩,
    ⟨0, run, by decide⟩,
    ⟨0, 1, pq .retired 2 0 1, by decide⟩,
    ⟨0, 1, run, by decide⟩,
    ⟨0, 2^32+1*256, 1, pq .underTest 0 0 1, by decide⟩,
    ⟨0, 2*2^32+1*256+9*2^24, 1, pq .underTest 0 0 1, by decide⟩,
    ⟨0, 2*2^32+1*256+9*2^24, 1, pq .suspect 0 0 1, by decide⟩,
    ⟨0, 1*2^32+1*256+32*2^24, 1, pq .retired 0 2 1, by decide⟩⟩

/-- States and operands that meet the hypotheses of SesTakesTunnelReports, clause by clause. -/
theorem wit_SesTakesTunnelReports :
    (∃ (i : Fin 32) (s : State), portRuns s.ports[slotOf i] = true) ∧
    (∃ (i : Fin 32) (s : State), portRuns s.ports[slotOf i] = false) ∧
    (∃ (i : Fin 32) (s : State), s.plc[i].slac = .sounding ∧ s.plc[i].sounds.length < 10) ∧
    (∃ (i : Fin 32) (s : State), s.plc[i].slac ≠ .sounding ∨ 10 ≤ s.plc[i].sounds.length) ∧
    (∃ (i : Fin 32) (s : State), s.plc[i].held = []) ∧
    (∃ (i : Fin 32) (s : State), s.clk.count % 2 = 0 ∧ s.plc[i].netValid = true) ∧
    (∃ (i : Fin 32) (s : State), s.clk.count % 2 = 1 ∨ s.plc[i].netValid = false) :=
  ⟨⟨1, mh fun x => {x with rx := [{}], up := [{},{}]}, by decide⟩,
    ⟨4, run, by decide⟩,
    ⟨1, ml fun x => {x with slac := .sounding}, by decide⟩,
    ⟨1, run, by decide⟩,
    ⟨1, ml fun x => {x with txCount := 3}, by decide⟩,
    ⟨1, ml fun x => {x with netValid := true}, by decide⟩,
    ⟨1, run, by decide⟩⟩

/-- States and operands that meet the hypotheses of SlacMatching, clause by clause. -/
theorem wit_SlacMatching :
    (∃ (i : Fin 32) (s : State), slacServed s i = true ∧ s.plc[i].slac = .waitParm) ∧
    (∃ (i : Fin 32) (k : Nat) (s : State), slacServed s i = false ∨ k ≠ 0) ∧
    (∃ (i : Fin 32) (s : State), slacServed s i = true ∧ s.plc[i].slac = .sounding) ∧
    (∃ (i : Fin 32) (r : Nat) (s : State), s.plc[i].slac ≠ .sounding ∨ s.plc[i].runId ≠ r) ∧
    (∃ (i : Fin 32) (s : State), slacServed s i = true ∧ s.plc[i].slac = .sounding ∧ s.plc[i].sounds ≠ [] ∧ (s.plc[i].startSeen ≠ 0 ∨ 10 ≤
      s.plc[i].sounds.length)) ∧
    (∃ (i : Fin 32) (s : State), slacServed s i = true ∧ s.plc[i].slac = .sounding ∧ s.plc[i].sounds = [] ∧ s.plc[i].startSeen ≠ 0) ∧
    (∃ (i : Fin 32) (s : State), slacServed s i = true ∧ s.plc[i].slac = .waitAtten) ∧
    (∃ (i : Fin 32) (r k : Nat) (s : State), s.plc[i].slac ≠ .waitAtten ∨ s.plc[i].runId ≠ r ∨ k ≠ 0) ∧
    (∃ (i : Fin 32) (s : State), slacServed s i = true ∧ s.plc[i].slac = .waitAtten ∧ s.plc[i].sends < 3) ∧
    (∃ (i : Fin 32) (s : State), slacServed s i = true ∧ s.plc[i].slac = .waitMatch ∧ drbgOk s = true) ∧
    (∃ (i : Fin 32) (r k : Nat) (s : State), s.plc[i].slac ≠ .waitMatch ∨ s.plc[i].runId ≠ r ∨ k ≠ 0) ∧
    (∃ (i : Fin 32) (s : State), slacServed s i = true) ∧
    (∃ (i : Fin 32) (s : State), slacServed s i = true ∧ s.plc[i].slac = .waitJoin) ∧
    (∃ (i : Fin 32) (s : State), s.plc[i].slac ≠ .waitJoin) :=
  ⟨⟨1, sv fun x => {x with slac := .waitParm}, by decide⟩,
    ⟨1, 1, sv fun x => {x with slac := .waitParm}, by decide⟩,
    ⟨1, sv fun x => {x with slac := .sounding}, by decide⟩,
    ⟨1, 54, sv fun x => {x with slac := .sounding}, by decide⟩,
    ⟨1, sv fun x => {x with slac := .sounding, startSeen := 1, sounds := [{tick := 1, atten := [3,4]},{tick := 1, atten := [3,5]}]}, by decide⟩,
    ⟨1, sv fun x => {x with slac := .sounding, startSeen := 1}, by decide⟩,
    ⟨1, sv fun x => {x with slac := .waitAtten}, by decide⟩,
    ⟨1, 55, 1, sv fun x => {x with slac := .waitAtten}, by decide⟩,
    ⟨1, sv fun x => {x with slac := .waitAtten, sends := 2}, by decide⟩,
    ⟨1, sv fun x => {x with slac := .waitMatch}, by decide⟩,
    ⟨1, 55, 1, sv fun x => {x with slac := .waitMatch}, by decide⟩,
    ⟨1, sv fun x => {x with slac := .waitMatch}, by decide⟩,
    ⟨1, sv fun x => {x with slac := .waitJoin}, by decide⟩,
    ⟨1, sv fun x => {x with slac := .waitMatch}, by decide⟩⟩

/-- States and operands that meet the hypotheses of SlacFailures, clause by clause. -/
theorem wit_SlacFailures :
    (∃ (i : Fin 32) (s : State), slacServed s i = true ∧ s.plc[i].slac = .waitAtten ∧ 3 ≤ s.plc[i].sends) ∧
    (∃ (i : Fin 32) (s : State), slacServed s i = true ∧ s.plc[i].slac = .waitMatch ∧ drbgOk s = false) ∧
    (∃ (i : Fin 32) (s : State), s.plc[i].slac = .sounding ∧ s.plc[i].startSeen = 0) ∧
    (∃ (i : Fin 32) (s : State), s.plc[i].slac = .waitMatch) ∧
    (∃ (i : Fin 32) (s : State), s.plc[i].slac = .waitJoin) ∧
    (∃ (i : Fin 32) (s : State), slacServed s i = true ∧ s.plc[i].slac = .waitParm) ∧
    (∃ (i : Fin 32) (s : State), s.plc[i].slac = .matched) ∧
    (∃ (i : Fin 32) (s : State), s.plc[i].slac = .matched) ∧
    (∃ (i : Fin 32) (s : State), s.plc[i].slac = .matched) ∧
    (∃ (i : Fin 32) (s : State), s.plc[i].slac ≠ .matched) :=
  ⟨⟨1, sv fun x => {x with slac := .waitAtten, sends := 3}, by decide⟩,
    ⟨1, (sv fun x => {x with slac := .waitMatch}).modKeys fun k => {k with drbgStopped := true}, by decide⟩,
    ⟨1, sv fun x => {x with slac := .sounding}, by decide⟩,
    ⟨1, sv fun x => {x with slac := .waitMatch, failures := 3}, by decide⟩,
    ⟨1, sv fun x => {x with slac := .waitJoin, netValid := true, nmk := 5, failures := 2}, by decide⟩,
    ⟨1, sv fun x => {x with slac := .waitParm, failures := 1}, by decide⟩,
    ⟨1, sv fun x => {x with slac := .matched, netValid := true}, by decide⟩,
    ⟨1, sv fun x => {x with slac := .matched, netValid := true}, by decide⟩,
    ⟨1, sv fun x => {x with slac := .matched, netValid := true}, by decide⟩,
    ⟨1, sv fun x => {x with slac := .waitParm, netValid := true}, by decide⟩⟩

end Sys2Proof.Tests.C11

/-! Charging session. -/

namespace Sys2Proof.Tests.C12

/-- V2G: protos 1..3, EIM(123), PnC 122, noTLS 121, receipt 120, modes 119,118; port 15118; Unom 230; chains blocks 1 -/

def v2gRec : ImgRec := { typ := 0x70, idx := 0, pay := [w [(120, 0xFF),(119,1),(118,1),(96,15118),(80,230),(72,3)], 0,0,0, w [(96,1),(64,1),(32,1)]] }

def anch (k kind : Nat) : ImgRec := { typ := 0x71, idx := k, pay := [w [(120,kind),(0,2^40)]] }

def em : List Nat := [0x44,0x45,0x41,0x42,0x43,0x31,0x31,0x31,0x31,0x31,0x31,0x31,0x31,0x31]

def ten : ImgRec := { typ := 0x51, idx := 0, pay := [w [(112,2),(64,5)], w [(112, 33)], BitVec.ofNat 128 (natLE (em ++ [0,0]))] }

def mS (f : PtSes → PtSes) (s : State) : State := s.modSes 1 f

def net (recs : List ImgRec := [v2gRec, anch 0 3, anch 1 1, ten]) (f : PtSes → PtSes := id) : State :=
  mS (fun x => f {x with stage := .sdp, no := 77}) ((run.modPlc 1 fun x => {x with slac := .matched}).modImg fun i => {i with recs := i.recs ++ recs})

def n (f : PtSes → PtSes := id) : State := net (f := f)

def hsk (f : PtSes → PtSes := id) : State := n fun x => f {x with tcpOpen := true, stage := .handshake, tlsWanted := true}

def lp (f : PtSes → PtSes := id) (st : Stage := .loop) : State := n fun x => f {x with tcpOpen := true, stage := st, tlsWanted := true, idSet := true, idTail := 5, tls := 1}

def only1 : ImgRec := { typ := 0x70, idx := 0, pay := [w [(120, 0x8F),(119,1),(118,1),(96,15118),(80,230),(72,3)], 0,0,0, w [(96,1),(64,1),(32,1)]] }

def k6 (s : State) : State := s.modKeys fun k => { k with slots := k.slots.set 6 { keyId := 0x66, alg := 0x10, usage := 0x80, masters := 0xFFFF, lcMask := 0x1F, status := .loaded, role := 6 } }

def ch3 : Chain := { subCas := 1, sigOk := true, anchor := some 0, notBefore := 0, notAfter := 2^40, caOk := true, alg := 2, cn := em, badAsset := none }

def ch1 : Chain := { subCas := 1, sigOk := true, anchor := some 1, notBefore := 0, notAfter := 2^40, caOk := true, alg := 1, cn := em, badAsset := none }

def lsn (s : State) : State := s.modGates fun g => {g with ledgerSnap := [{point := 1, tenant := 0, path := 0, session := 0}]}

/-- States and operands that meet the hypotheses of ConnectionsComeAndGo, clause by clause. -/
theorem wit_ConnectionsComeAndGo :
    (∃ (i : Fin 32) (s : State), netServed s i = true ∧ s.ses[i].stage = .sdp ∧ s.ses[i].sdpCount < 10 ∧ i.val ∉ s.sesSys.handshakes ∧
      s.sesSys.handshakes.length < 8 ∧ s.sesSys.admission = []) ∧
    (∃ (i : Fin 32) (s : State), netServed s i = true ∧ s.ses[i].stage = .sdp ∧ s.ses[i].sdpCount < 10 ∧ i.val ∉ s.sesSys.handshakes ∧ 8 ≤
      s.sesSys.handshakes.length ∧ s.ses[i].deferred = false) ∧
    (∃ (i : Fin 32) (s : State), netServed s i = true ∧ s.ses[i].stage = .sdp ∧ s.ses[i].sdpCount < 10 ∧ noTlsAllowed s = true ∧ i.val ∉
      s.sesSys.handshakes) ∧
    (∃ (i : Fin 32) (tcp bad : Bool) (s : State), netServed s i = true ∧ s.ses[i].stage = .sdp ∧ s.ses[i].sdpCount < 10 ∧ (bad = true ∨ tcp = false)) ∧
    (∃ (i : Fin 32) (s : State), 10 ≤ s.ses[i].sdpCount ∨ netServed s i = false) ∧
    (∃ (i : Fin 32) (s : State), netServed s i = true ∧ s.ses[i].tcpOpen = false ∧ s.ses[i].stage = .connect) ∧
    (∃ (i : Fin 32) (port : Nat) (s : State), netServed s i = true ∧ (port ≠ v2gPort s ∨ (s.ses[i].tcpOpen = false ∧ s.ses[i].stage ≠ .connect))) ∧
    (∃ (i : Fin 32) (s : State), netServed s i = true ∧ s.ses[i].tcpOpen = true ∧ s.ses[i].strikes < 2) ∧
    (∃ (i : Fin 32) (s : State), s.ses[i].tcpOpen = true ∧ s.ses[i].stage = .handshake) ∧
    (∃ (i : Fin 32) (s : State), s.ses[i].tcpOpen = true ∧ s.ses[i].stage ≠ .handshake) ∧
    (∃ (i : Fin 32) (s : State), s.ses[i].tcpOpen = false) ∧
    (∃ (i : Fin 32) (s : State), s.ses[i].tcpOpen = true ∧ s.sen.mlSig = false ∧ s.ses[i].retrans < 5) ∧
    (∃ (i : Fin 32) (s : State), s.ses[i].tcpOpen = true ∧ s.sen.mlSig = false ∧ 5 ≤ s.ses[i].retrans) ∧
    (∃ (i : Fin 32) (s : State), s.sen.mlSig = false ∧ s.plc[i].slac = .matched) ∧
    (∃ (i : Fin 32) (a : List Nat) (s : State), a ≠ hubAddr s i) ∧
    (∃ (i : Fin 32) (s : State), s.ses[i].stage = .connect ∧ s.sen.mlSig = false) ∧
    (∃ (i : Fin 32) (s : State), s.ses[i].stage = .handshake ∧ s.sen.mlSig = false) ∧
    (∃ (i : Fin 32) (s : State), s.ses[i].tcpOpen = true ∧ s.ses[i].stage ≠ .handshake ∧ s.ses[i].stage ≠ .stopping ∧ s.sen.mlSig = false) ∧
    (∃ (i : Fin 32) (s : State), s.ses[i].stage = .auth ∧ s.ses[i].eim = true ∧ s.ses[i].authSince = true ∧ (∀ b ∈ s.gates.ledgerSnap, b.point ≠ i.val) ∧
      s.sen.mlSig = false) ∧
    (∃ (i : Fin 32) (s : State), s.ses[i].stage = .app) :=
  ⟨⟨1, n, by decide⟩,
    ⟨1, n.modSesSys fun y => {y with handshakes := [2,3,4,5,6,7,8,9]}, by decide⟩,
    ⟨1, n, by decide⟩,
    ⟨1, false, false, n, by decide⟩,
    ⟨1, n fun x => {x with sdpCount := 10}, by decide⟩,
    ⟨1, n fun x => {x with stage := .connect, tlsWanted := true}, by decide⟩,
    ⟨1, 7, n, by decide⟩,
    ⟨1, n fun x => {x with tcpOpen := true, strikes := 1}, by decide⟩,
    ⟨1, hsk, by decide⟩,
    ⟨1, lp, by decide⟩,
    ⟨1, n, by decide⟩,
    ⟨1, lp, by decide⟩,
    ⟨1, lp fun x => {x with retrans := 5}, by decide⟩,
    ⟨1, n, by decide⟩,
    ⟨1, [], n, by decide⟩,
    ⟨1, n fun x => {x with stage := .connect}, by decide⟩,
    ⟨1, hsk, by decide⟩,
    ⟨1, lp, by decide⟩,
    ⟨1, lp (fun x => {x with eim := true, authSince := true}) .auth, by decide⟩,
    ⟨1, n fun x => {x with stage := .app}, by decide⟩⟩

/-- States and operands that meet the hypotheses of TlsHandshake, clause by clause. -/
theorem wit_TlsHandshake :
    (∃ (i : Fin 32) (n : Nat) (s : State), served s i = true ∧ s.ses[i].tlsWanted = true ∧ s.ses[i].stage = .handshake ∧ s.ses[i].hs = 0 ∧ v2gProto s 1 =
      true ∧ v2gProto s 2 = false ∧ v2gProto s 3 = false ∧ chainBlocks s 1 ≠ 0 ∧ roleSlot s 6 = some n ∧ drbgOk s = true ∧ transHeld s .ses < 104 ∧
      (transFree s).isSome = true ∧ jobsFit i s = true) ∧
    (∃ (i : Fin 32) (k : Nat) (s : State), served s i = true ∧ s.ses[i].tlsWanted = true ∧ s.ses[i].stage = .handshake ∧ s.ses[i].hs = 0 ∧ v2gProto s 2 =
      true ∧ (k = 2 ∨ k = 3) ∧ chainBlocks s k ≠ 0 ∧ s.ses[i].helloRetry = false) ∧
    (∃ (i : Fin 32) (s : State), served s i = true ∧ s.ses[i].tlsWanted = true ∧ s.ses[i].stage = .handshake ∧ s.ses[i].hs = 0) ∧
    (∃ (i : Fin 32) (n : Nat) (s : State), served s i = true ∧ s.ses[i].stage = .handshake ∧ s.ses[i].tls = 1 ∧ s.ses[i].hs = 1 ∧ ephSlot s i = some n ∧
      jobsOf s i.val < 4 ∧ s.keys.queue.length < 64) ∧
    (∃ (i : Fin 32) (s : State), served s i = true ∧ s.ses[i].stage = .handshake ∧ (s.ses[i].tls ≠ 1 ∨ s.ses[i].hs ≠ 1)) ∧
    (∃ (i : Fin 32) (c : Chain) (s : State), served s i = true ∧ s.ses[i].stage = .handshake ∧ s.ses[i].tls = 2 ∧ s.ses[i].hs = 1 ∧ chainCheck s [3] [2, 3]
      false c = 0 ∧ jobsFit i s = true) ∧
    (∃ (i : Fin 32) (s : State), served s i = true ∧ s.ses[i].stage = .handshake ∧ s.ses[i].tls = 2 ∧ s.ses[i].hs = 1) ∧
    (∃ (i : Fin 32) (s : State), served s i = true ∧ s.ses[i].stage = .handshake ∧ s.ses[i].hs = 2 ∧ i.val ∉ s.sesSys.handshakes) ∧
    (∃ (i : Fin 32) (s : State), served s i = true ∧ s.ses[i].stage = .handshake ∧ s.ses[i].hs = 2 ∧ s.sesSys.admission = []) ∧
    (∃ (i : Fin 32) (s : State), served s i = true ∧ s.ses[i].stage = .handshake ∧ s.ses[i].hs = 2) ∧
    (∃ (i : Fin 32) (s : State), served s i = false) ∧
    (∃ (i : Fin 32) (s : State), s.ses[i].tcpOpen = true ∧ s.ses[i].tlsWanted = true ∧ s.sen.mlSig = false) ∧
    (∃ (i : Fin 32) (k : Nat) (s : State), served s i = true ∧ s.ses[i].stage ≠ .handshake ∧ 1 ≤ k ∧ k ≤ 3) ∧
    (∃ (i : Fin 32) (s : State), s.ses[i].stage = .handshake) :=
  ⟨⟨1, 6, k6 (mS (fun x => {x with tcpOpen := true, stage := .handshake, tlsWanted := true}) (net (recs := [only1]))), by decide⟩,
    ⟨1, 2, hsk, by decide⟩,
    ⟨1, hsk, by decide⟩,
    ⟨1, 64, (hsk fun x => {x with tls := 1, hs := 1}).modKeys fun k => {k with trans := [{num := 64, owner := .ses, kind := .ephemeral, point := 1}]}, by decide⟩,
    ⟨1, hsk fun x => {x with tls := 2, hs := 1}, by decide⟩,
    ⟨1, ch3, hsk fun x => {x with tls := 2, hs := 1}, by decide⟩,
    ⟨1, hsk fun x => {x with tls := 2, hs := 1}, by decide⟩,
    ⟨1, hsk fun x => {x with tls := 2, hs := 2}, by decide⟩,
    ⟨1, (hsk fun x => {x with tls := 2, hs := 2}).modSesSys fun y => {y with handshakes := [1,2]}, by decide⟩,
    ⟨1, hsk fun x => {x with tls := 2, hs := 2}, by decide⟩,
    ⟨1, n, by decide⟩,
    ⟨1, lp, by decide⟩,
    ⟨1, 3, lp, by decide⟩,
    ⟨1, hsk, by decide⟩⟩

/-- States and operands that meet the hypotheses of SessionMessagesToAuthorisation, clause by clause. -/
theorem wit_SessionMessagesToAuthorisation :
    (∃ (i : Fin 32) (es : List (Nat × Nat)) (e : Nat × Nat) (s : State), served s i = true ∧ s.ses[i].stage = .app ∧ (bestEntry (v2g s 0 124 124 == 1)
      (es.filter fun e => v2gProto s e.2 && (if s.ses[i].tls == 2 then decide (2 ≤ e.2) else e.2 == 1)) = some e)) ∧
    (∃ (i : Fin 32) (es : List (Nat × Nat)) (s : State), served s i = true ∧ s.ses[i].stage = .app ∧ (bestEntry (v2g s 0 124 124 == 1) (es.filter fun e =>
      v2gProto s e.2 && (if s.ses[i].tls == 2 then decide (2 ≤ e.2) else e.2 == 1)) = none)) ∧
    (∃ (i : Fin 32) (s : State), served s i = true ∧ s.ses[i].stage = .setup ∧ s.ses[i].idSet = false ∧ drbgOk s = true) ∧
    (∃ (i : Fin 32) (v m : Nat) (pnc : Bool) (s : State), sesAsked i .setup s = true ∧ offersService s i v = true ∧ offersMode s i m = true ∧ offersPayment
      s i pnc = true) ∧
    (∃ (i : Fin 32) (v m : Nat) (pnc : Bool) (s : State), sesAsked i .setup s = true ∧ (offersService s i v = false ∨ offersMode s i m = false ∨
      offersPayment s i pnc = false)) ∧
    (∃ (i : Fin 32) (c : Chain) (ten : Nat) (s : State), sesAsked i .auth s = true ∧ s.ses[i].proto = 1 ∧ s.ses[i].pnc = true ∧ s.ses[i].chainOk = false ∧
      jobsFit i s = true ∧ chainCheck s [1, 2] [1] true c = 0 ∧ emaidTenant ((emaidChars c.cn).take 14) (((recOf s 0x51 0).getD []).drop 1) = some ten
      ∧ ten ∉ s.gates.blockSnap) ∧
    (∃ (i : Fin 32) (c : Chain) (s : State), sesAsked i .auth s = true ∧ s.ses[i].proto = 1 ∧ s.ses[i].pnc = true ∧ s.ses[i].chainOk = false ∧ jobsFit i s
      = true ∧ chainCheck s [1, 2] [1] true c ≠ 0) ∧
    (∃ (i : Fin 32) (b : BindSnap) (s : State), sesAsked i .auth s = true ∧ s.ses[i].chainOk = true ∧ b ∈ s.gates.ledgerSnap ∧ b.point = i.val) ∧
    (∃ (i : Fin 32) (s : State), sesAsked i .auth s = true ∧ s.ses[i].pnc = false ∧ s.ses[i].authBad = false ∧ (∀ b ∈ s.gates.ledgerSnap, b.point ≠ i.val)) ∧
    (∃ (i : Fin 32) (ten : Nat) (s : State), sesAsked i .auth s = true ∧ s.ses[i].pnc = true ∧ s.ses[i].proto = 1 ∧ s.ses[i].chainOk = true ∧
      s.ses[i].authBad = false ∧ s.ses[i].authSince = false ∧ (∀ b ∈ s.gates.ledgerSnap, b.point ≠ i.val) ∧ jobsFit i s = true ∧ emaidTenant
      s.ses[i].emaid (((recOf s 0x51 0).getD []).drop 1) = some ten) ∧
    (∃ (i : Fin 32) (s : State), sesAsked i .auth s = true ∧ s.ses[i].authBad = true ∧ s.ses[i].pnc = false ∧ (∀ b ∈ s.gates.ledgerSnap, b.point ≠ i.val)) ∧
    (∃ (i : Fin 32) (sid : Nat) (s : State), served s i = true ∧ s.ses[i].stage ≠ .handshake ∧ (sid ≠ sessionId s i ∨ s.ses[i].idSet = false)) ∧
    (∃ (i : Fin 32) (s : State), sesAsked i .loop s = true) ∧
    (∃ (i : Fin 32) (s : State), served s i = false) :=
  ⟨⟨1, [(2,1),(1,2)], (2,1), lp (st := .app), by decide⟩,
    ⟨1, [(1,2)], lp (st := .app), by decide⟩,
    ⟨1, lp (fun x => {x with idSet := false}) .setup, by decide⟩,
    ⟨1, 1, 1, true, lp (fun x => {x with proto := 1}) .setup, by decide⟩,
    ⟨1, 2, 1, true, lp (fun x => {x with proto := 1}) .setup, by decide⟩,
    ⟨1, ch1, 33, lp (fun x => {x with proto := 1, pnc := true}) .auth, by decide⟩,
    ⟨1, ch3, lp (fun x => {x with proto := 1, pnc := true}) .auth, by decide⟩,
    ⟨1, {point := 1, tenant := 0, path := 0, session := 0}, lsn (lp (fun x => {x with proto := 1, pnc := true, chainOk := true}) .auth), by decide⟩,
    ⟨1, lp (fun x => {x with proto := 1, eim := true}) .auth, by decide⟩,
    ⟨1, 33, lp (fun x => {x with proto := 1, pnc := true, chainOk := true, emaid := em}) .auth, by decide⟩,
    ⟨1, lp (fun x => {x with proto := 1, authBad := true}) .auth, by decide⟩,
    ⟨1, 4, lp (fun x => {x with proto := 1, strikes := 2}) .setup, by decide⟩,
    ⟨1, lp, by decide⟩,
    ⟨1, n, by decide⟩⟩

/-- States and operands that meet the hypotheses of SessionMessagesOfCharging, clause by clause. -/
theorem wit_SessionMessagesOfCharging :
    (∃ (i : Fin 32) (s : State), sesAsked i .param s = true) ∧
    (∃ (i : Fin 32) (s : State), sesAsked i .loop s = true ∧ s.ses[i].proto = 2) ∧
    (∃ (i : Fin 32) (s : State), sesAsked i .loop s = true ∧ s.ses[i].proto = 1) ∧
    (∃ (i : Fin 32) (s : State), sesAsked i .loop s = true ∧ s.ses[i].proto = 1 ∧ s.ses[i].pnc = true ∧ v2gReceipt s = true ∧ jobsFit i s = true) ∧
    (∃ (i : Fin 32) (st : Stage) (s : State), sesAsked i st s = true ∧ st ∈ [Stage.setup, .auth, .param, .loop]) ∧
    (∃ (i : Fin 32) (st : Stage) (s : State), sesAsked i st s = true ∧ st ∈ [Stage.setup, .auth, .param, .loop]) ∧
    (∃ (i : Fin 32) (k : Fin 3) (s : State), 250 ≤ s.ses[i].overRun[k] ∧ drawsHeld s.cp[i].pst = true ∧ s.psafe[i].st = .closed ∧ s.led.binds[i].isSome =
      true) ∧
    (∃ (i : Fin 32) (k : Fin 3) (s : State), s.ses[i].overRun[k] < 250 ∨ drawsHeld s.cp[i].pst = false) :=
  ⟨⟨1, lp (fun x => {x with proto := 1}) .param, by decide⟩,
    ⟨1, lp (fun x => {x with proto := 2, notify := true}), by decide⟩,
    ⟨1, lp (fun x => {x with proto := 1, notify := true, pnc := true}), by decide⟩,
    ⟨1, lp (fun x => {x with proto := 1, notify := true, pnc := true}), by decide⟩,
    ⟨1, .loop, lp, by decide⟩,
    ⟨1, .auth, lp (st := .auth), by decide⟩,
    ⟨1, 2, { (((lp fun x => {x with overRun := Vector.replicate 3 250}).modCp 1 fun c => {c with pst := .charging}).modPsafe 1 fun x => {x with st := .closed}) with led := {binds := (State.reset.led.binds.set 1 (some {}))}}, by decide⟩,
    ⟨1, 2, lp, by decide⟩⟩

end Sys2Proof.Tests.C12

/-! Authorisation. -/

namespace Sys2Proof.Tests.C13

def tenR : ImgRec := { typ := 0x51, idx := 0, pay := [w [(112,1),(64,1)], w [(112, 33),(64,2^32-1),(108,3)], 0] }

def mac (ws : List W128) : List W128 := ws ++ [BitVec.ofNat 128 (Config.cmac (tenantKey 0 false 33) (wordsBytes ws))]

def tokW (ten := 33) (pt := 1) (nonce := 777): List W128 := mac [w [(120,1),(112,1),(96,ten),(88,1),(80,pt),(0,1000)], w [(64,nonce)]]

def base : State := ((run.modImg fun i => {i with recs := i.recs ++ [tenR]}).modKeys fun k => { k with slots := k.slots.set 2 { keyId := 0x77, alg := 0x10, usage := 0x40, masters := 0xFFFF, lcMask := 0x1F, status := .loaded, role := 2 } }).modSen fun e => {e with rtcValid := true}

def tk (ws : List W128) (s : State := base) : State := (s.modTag fun t => {t with tokQ := [(3, ws), (4, ws)]}).modClk fun c => {c with rtcS := 900}

def con (s : State) : State := (s.modCp 1 fun c => {c with pst := .connected}).modSes 1 fun x => {x with no := 9}

def noW (s : State) : State := s.modImg fun i => {i with recs := {typ := 0x81, idx := 0, pay := [0]} :: i.recs}

def ks2 : State := (ks.modImg fun i => {i with recs := i.recs ++ [tenR]})

def no1 : BindNotice := { point := 1, tenant := 33, path := 1, session := 9, ending := none, placed := 900 }

def nt (n : BindNotice) (s : State := con base) : State := s.modGates fun g => {g with bindInlet := [{n with point := 7}, n]}

def row1 (s : State) : State := s.modLed fun l => {l with banks := l.banks.set 0 {role := 0, rows := [(4, {tenant := 33, cls := 2})]}}


theorem token_connected_passes : tokenCheck (con (tk tokW)) tokW = 0 := by
  have hk : tokenKey (con (tk tokW)) (fld (List.getD tokW 0 0) 111 96) = some (tenantKey 0 false 33) := rfl
  unfold tokenCheck
  simp only [hk]
  rw [if_neg (by decide), if_neg (by decide), if_neg (by decide), if_neg (by decide), if_neg (fun h => h rfl), if_neg (by decide),
    if_neg (by decide), if_neg (by decide), if_neg (by decide)]

theorem token_available_passes : tokenCheck (tk tokW) tokW = 0 := by
  have hk : tokenKey (tk tokW) (fld (List.getD tokW 0 0) 111 96) = some (tenantKey 0 false 33) := rfl
  unfold tokenCheck
  simp only [hk]
  rw [if_neg (by decide), if_neg (by decide), if_neg (by decide), if_neg (by decide), if_neg (fun h => h rfl), if_neg (by decide),
    if_neg (by decide), if_neg (by decide), if_neg (by decide)]

/-- States and operands that meet the hypotheses of AuthorisationsActOrWait, clause by clause. -/
theorem wit_AuthorisationsActOrWait :
    (∃ (c : Nat) (ws : List W128) (rest : List (Nat × List W128)) (i : Fin 32) (s : State), s.tag.tokQ = (c, ws) :: rest ∧ s.sen.mlSig = false ∧ tokenCheck
      s ws = 0 ∧ tokPoint ws = i.val ∧ s.cp[i].pst = .connected ∧ startCheck s i 2 (tokTenant ws) = 0) ∧
    (∃ (c : Nat) (ws : List W128) (rest : List (Nat × List W128)) (i : Fin 32) (s : State), s.tag.tokQ = (c, ws) :: rest ∧ s.sen.mlSig = false ∧ tokenCheck
      s ws = 0 ∧ tokPoint ws = i.val ∧ s.cp[i].pst = .available ∧ tenantCheck s i 2 (tokTenant ws) = 0) ∧
    (∃ (c : Nat) (ws : List W128) (rest : List (Nat × List W128)) (i : Fin 32) (s : State), s.tag.tokQ = (c, ws) :: rest ∧ s.sen.mlSig = false ∧ tokenCheck
      s ws ≠ 0 ∧ tokPoint ws = i.val ∧ nfcWindows s = false) ∧
    (∃ (s : State), s.tag.tokQ = [] ∨ s.sen.mlSig = true) ∧
    (∃ (o : OrderRec) (n w : Nat) (s : State), orderReady [11] o n w s = true) ∧
    (∃ (i : Fin 32) (p : PendAuth) (s : State), s.auth[i].pend = some p ∧ ((p.path = 2 ∧ p.untilCnt < s.clk.rtcS) ∨ (p.path ≠ 2 ∧ p.untilCnt ≤
      s.clk.count))) ∧
    (∃ (i : Fin 32) (p : PendAuth) (s : State), s.auth[i].pend = some p ∧ ((p.path = 2 ∧ s.clk.rtcS ≤ p.untilCnt) ∨ (p.path ≠ 2 ∧ s.clk.count <
      p.untilCnt))) ∧
    (∃ (i : Fin 32) (s : State), s.auth[i].pend = none) :=
  ⟨⟨3, tokW, [(4,tokW)], 1, con (tk tokW), rfl, by decide, token_connected_passes, by decide, by decide, by decide⟩,
    ⟨3, tokW, [(4,tokW)], 1, tk tokW, rfl, by decide, token_available_passes, by decide, by decide, by decide⟩,
    ⟨3, [], [(4,[])], 0, noW (tk []), by decide⟩,
    ⟨base, by decide⟩,
    ⟨mkO 11 [w [(120,1),(96,33),(0,1200)]], 2, 0, ks2, by decide⟩,
    ⟨1, {path := 3, tenant := 5, untilCnt := 1000}, run.modAuth 1 fun x => {x with pend := some {path := 3, tenant := 5, untilCnt := 1000}}, by decide⟩,
    ⟨1, {path := 3, tenant := 5, untilCnt := 1001}, run.modAuth 1 fun x => {x with pend := some {path := 3, tenant := 5, untilCnt := 1001}}, by decide⟩,
    ⟨1, run, by decide⟩⟩

/-- States and operands that meet the hypotheses of NoticesBindAndEnd, clause by clause. -/
theorem wit_NoticesBindAndEnd :
    (∃ (n : BindNotice) (i : Fin 32) (k : Nat) (s : State), nextNotice s = some n ∧ n.point = i.val ∧ n.ending = none ∧ noticeReason s i n.tenant = 0 ∧
      slotFor s n.tenant = some (k, false) ∧ s.auth[i].waitTok = none ∧ s.cp[i].pst = .connected) ∧
    (∃ (n : BindNotice) (i : Fin 32) (k : Nat) (s : State), nextNotice s = some n ∧ n.point = i.val ∧ n.ending = none ∧ noticeReason s i n.tenant = 0 ∧
      slotFor s n.tenant = some (k, true) ∧ s.auth[i].waitTok = none ∧ s.cp[i].pst = .connected ∧ n.tenant ≠ 0 ∧ bankOfRole s 0 < 4) ∧
    (∃ (n : BindNotice) (i : Fin 32) (s : State), nextNotice s = some n ∧ n.point = i.val ∧ n.ending = none ∧ noticeReason s i n.tenant ≠ 0 ∧
      s.auth[i].waitTok = none ∧ n.path ≠ 2) ∧
    (∃ (n : BindNotice) (i : Fin 32) (r : Nat) (b : Binding) (s : State), nextNotice s = some n ∧ n.point = i.val ∧ n.ending = some r ∧ s.led.binds[i] =
      some b ∧ b.endReason = none ∧ b.session = n.session) ∧
    (∃ (s : State), nextNotice s = none) :=
  ⟨⟨no1, 1, 4, row1 (nt no1), by decide⟩,
    ⟨no1, 1, 0, nt no1, by decide⟩,
    ⟨{no1 with tenant := 44}, 1, nt {no1 with tenant := 44}, by decide⟩,
    ⟨{no1 with ending := some 2}, 1, 2, {tenant := 33, session := 9}, (nt {no1 with ending := some 2}).modLed fun l => {l with binds := l.binds.set 1 (some {tenant := 33, session := 9})}, by decide⟩,
    ⟨run, by decide⟩⟩

end Sys2Proof.Tests.C13

/-! Ledger and readout. -/

namespace Sys2Proof.Tests.C14

def ml (f : Led → Led) (s : State := run) : State := s.modLed f

def pd : Pend := {bank := 0, slot := 4, point := 1, tariff := 2, impE := 77, sec := 8, tied := true}

def ko (_k : Nat) (x : W128) (b : W128 := 0): OrderRec := mkO 10 [x, b]

def r1 := ko 1 (w [(120,1),(80,0x60),(64,0x60),(0,5000)])

def ka (s : State) : State := s.modKeys fun k => { k with slots := k.slots.set 1 { status := .loaded } }

/-- States and operands that meet the hypotheses of TariffsAndPeriods, clause by clause. -/
theorem wit_TariffsAndPeriods :
    (∃ (c : Nat) (s : State), s.led.tarDue = some c) ∧
    (∃ (s : State), s.led.tarDue = none) ∧
    (∃ (s : State), 50 ≤ s.led.unstRun ∧ s.led.unstSeen = false) ∧
    (∃ (s : State), s.led.unstRun < 50 ∨ s.led.unstSeen = true) ∧
    (∃ (s : State), s.led.closeDue = true ∧ s.sen.mlSig = false) ∧
    (∃ (s : State), s.led.closeDue = false ∨ s.sen.mlSig = true) ∧
    (∃ (x : SnapWait) (s : State), s.led.snapWait = some x ∧ x.bnd < s.clk.bndTot ∧ (∀ p ∈ s.led.pends, p.tied = false) ∧ s.sen.mlSig = false) ∧
    (∃ (s : State), s.led.snapWait = none) ∧
    (∃ (s : State), s.led.freeDue = true ∧ s.led.sealing = [] ∧ s.led.hdrDue = [] ∧ s.led.sealedBnd < s.clk.bndTot ∧ s.sen.mlSig = false ∧ bankOfRole s 3 <
      4) ∧
    (∃ (s : State), s.led.freeDue = false ∨ s.led.sealing ≠ [] ∨ s.sen.mlSig = true) :=
  ⟨⟨2, ml fun l => {l with tarDue := some 2}, by decide⟩,
    ⟨run, by decide⟩,
    ⟨ml fun l => {l with unstRun := 50}, by decide⟩,
    ⟨run, by decide⟩,
    ⟨(ml fun l => {l with closeDue := true, period := {l.period with no := 3}, banks := l.banks.set 0 {role := 0, rows := [(4, {tenant := 33, cls := 2})]}}).modKeys fun k => { k with slots := k.slots.set 1 { status := .loaded } }, by decide⟩,
    ⟨run, by decide⟩,
    ⟨{bank := 0, bnd := 4999, count := 999, rtc := 5}, ml fun l => {l with snapWait := some {bank := 0, bnd := 4999, count := 999, rtc := 5}, banks := l.banks.set 0 {role := 0, rows := [(4, {tenant := 33, cls := 2})]}}, by decide⟩,
    ⟨run, by decide⟩,
    ⟨ml fun l => {l with freeDue := true, banks := l.banks.set 0 {role := 0, rows := [(4, {tenant := 33, cls := 2})]}}, by decide⟩,
    ⟨run, by decide⟩⟩

/-- States and operands that meet the hypotheses of CommitsAddWhatWaits, clause by clause. -/
theorem wit_CommitsAddWhatWaits :
    (∃ (p : Pend) (s : State), s.sen.mlSig = false ∧ s.clk.started = true ∧ s.led.pends = [p] ∧ p.tied = true ∧ p.isEnd = false ∧ p.isClose = false ∧
      p.bank < 4 ∧ p.tariff < 4 ∧ s.led.hdrDue = [] ∧ s.led.waiting = [] ∧ s.led.sealing = [] ∧ s.recs.sealDue = [] ∧ s.led.intentsNow < 16 ∧ (ledRow
      s p.bank p.slot).sat = [] ∧ (∀ e ∈ pendCells p, cellOf (ledRow s p.bank p.slot) e.1 + e.2 ≤ cellMax e.1)) ∧
    (∃ (s : State), s.sen.mlSig = true ∨ s.clk.started = false) :=
  ⟨⟨pd, ml fun l => {l with pends := [pd], binds := l.binds.set 1 (some {tenant := 33, slot := 4}), banks := l.banks.set 0 {role := 0, rows := [(4, {tenant := 33, cls := 2}), (5, {tenant := 34})]}}, by decide⟩,
    ⟨run.modClk fun c => {c with started := false}, by decide⟩⟩

/-- States and operands that meet the hypotheses of ReadoutUnderGrants, clause by clause. -/
theorem wit_ReadoutUnderGrants :
    (∃ (o : OrderRec) (n w : Nat) (s : State), orderReady [10] o n w s = true ∧ ((fun o => rqKind (pWord (oPayload o) 0) != 2 && rqKind (pWord (oPayload o)
      0) != 3) o = true)) ∧
    (∃ (o : OrderRec) (n w : Nat) (s : State), orderReady [10] o n w s = true ∧ ((fun o => rqKind (pWord (oPayload o) 0) == 2) o = true)) ∧
    (∃ (o : OrderRec) (n w : Nat) (s : State), orderReady [10] o n w s = true ∧ ((fun o => rqKind (pWord (oPayload o) 0) == 3) o = true)) ∧
    (∃ (a b : W128) (n : Nat) (rest : List (W128 × W128 × Nat)) (g : Fin 8) (s : State), s.recs.grantPend = (a, b, n) :: rest ∧ freeGrant s = some g ∧ n <
      s.clk.bndTot ∧ s.sen.mlSig = false) ∧
    (∃ (s : State), s.recs.grantPend = [] ∨ freeGrant s = none ∨ s.sen.mlSig = true) ∧
    (∃ (a b : W128) (n : Nat) (rest : List (W128 × W128 × Nat)) (s : State), s.recs.readPend = (a, b, n) :: rest ∧ n < s.clk.bndTot ∧ ledSigns s = true) ∧
    (∃ (s : State), s.recs.readPend = [] ∨ ledSigns s = false) :=
  ⟨⟨r1, 2, 0, ks, by decide⟩,
    ⟨ko 1 (w [(120,2),(0,5000)]) (w [(64,8),(48,3)]), 2, 0, ks, by decide⟩,
    ⟨ko 1 (w [(120,3),(0,5000)]) (w [(120,1),(112,1)]), 2, 0, ks, by decide⟩,
    ⟨w [(120,1),(80,0x700),(64,0x700),(0,5000)], 5, 4999, [], 0, ks.modRecs fun r => {r with grantPend := [(w [(120,1),(80,0x700),(64,0x700),(0,5000)], 5, 4999)]}, by decide⟩,
    ⟨run, by decide⟩,
    ⟨w [(120,3),(0,5000)], w [(120,1),(112,1)], 4999, [], ka (ks.modRecs fun r => {r with readPend := [(w [(120,3),(0,5000)], w [(120,1),(112,1)], 4999)], grants := r.grants.set 0 {w0 := w [(120,3),(0,5000)], w1 := w [(120,1),(112,1)]}}), by decide⟩,
    ⟨run, by decide⟩⟩

end Sys2Proof.Tests.C14

/-! M-Bus. -/

namespace Sys2Proof.Tests.C15

def mm (f : Mbus → Mbus) (s : State := run) : State := s.modMbus f

def f0 : MbFrame := { mode5 := false, verifies := false }

def pg (s : State := run) : State := s.modGates fun g => {g with pages := [(1,[7]),(0x60,[8])], snapCount := 44}

def gr (x y : W128) (s : State) : State := s.modRecs fun r => {r with next := 50, grants := r.grants.set 0 {w0 := x, w1 := y}, delivery := [(8,[3,4])]}

def mk (s : State) : State := s.modKeys fun k => { k with slots := k.slots.set 3 { status := .loaded, role := 3 } }

def ordB : List Nat := wordsBytes (mkO 1 [] (auth := 1)).words

/-- States and operands that meet the hypotheses of MbusLinkLayer, clause by clause. -/
theorem wit_MbusLinkLayer :
    (∃ (a : Fin 256) (s : State), mbHere a s = true) ∧
    (∃ (a : Fin 256) (s : State), mbHere a s = true) ∧
    (∃ (a : Fin 256) (s : State), mbHere a s = true) ∧
    (∃ (a : Fin 256) (s : State), mbHere a s = true) ∧
    (∃ (a : Fin 256) (c : Instr) (s : State), c ∈ [Instr.sndNke a, .sndUdAppReset a, .reqUd1 a] ∧ mbUp s = true ∧ mbHears s a.val = none) ∧
    (∃ (a : Fin 256) (c : Instr) (s : State), c ∈ [Instr.sndNke a, .sndUdAppReset a, .reqUd1 a, .mbusUnsupported a, .baudRevert, .mbusFrameError] ∧ mbUp s
      = false) ∧
    (∃ (d m v k : Nat) (s : State), mbUp s = true ∧ mbSecondary s = true ∧ bcdMatch d (mbIdent s) = true ∧ byteMatch 2 m mbMan = true ∧ byteMatch 1 v
      (mbVersion s) = true ∧ byteMatch 1 k mbMedium = true) ∧
    (∃ (m v k : Nat) (s : State), mbUp s = true ∧ mbSecondary s = true ∧ (byteMatch 2 m mbMan = false ∨ byteMatch 1 v (mbVersion s) = false ∨ byteMatch 1 k
      mbMedium = false)) ∧
    (∃ (a c : Fin 256) (s : State), mbHere a s = true ∧ 0xB8 ≤ c.val ∧ c.val ≤ 0xBD) ∧
    (∃ (c : Fin 256), c.val < 0xB8 ∨ 0xBD < c.val) ∧
    (∃ (s : State), s.mbus.baudPend = true ∧ mbUp s = true) ∧
    (∃ (a : Fin 256) (s : State), mbHere a s = true) ∧
    (∃ (s : State), mbUp s = true) ∧
    (∃ (a : Fin 256) (b : Bool) (s : State), mbHere a s = true ∧ s.mbus.fcb = some b ∧ s.mbus.last ≠ []) ∧
    (∃ (a : Fin 256) (b : Bool) (s : State), mbHere a s = true ∧ s.mbus.fcb ≠ some b ∧ s.mbus.cmd = .standard ∧ (s.mbus.proxy = none ∨ a.val ≠ 253) ∧
      mbMode5Only s = false) :=
  ⟨⟨0, run, by decide⟩,
    ⟨254, run, by decide⟩,
    ⟨0, run, by decide⟩,
    ⟨0, run, by decide⟩,
    ⟨9, .sndNke 9, run, by decide⟩,
    ⟨0, .mbusFrameError, State.reset, by decide⟩,
    ⟨0xFFFFFFFF, 0xFFFF, 255, 255, run, by decide⟩,
    ⟨0xFFFE, 255, 255, run, by decide⟩,
    ⟨0, 0xB8, run, by decide⟩,
    ⟨0xBE, by decide⟩,
    ⟨mm fun m => {m with baudPend := true, baud := 0xB8}, by decide⟩,
    ⟨0, run, by decide⟩,
    ⟨run, by decide⟩,
    ⟨0, true, mm fun m => {m with fcb := some true, last := [3]}, by decide⟩,
    ⟨0, true, run, by decide⟩⟩

/-- States and operands that meet the hypotheses of MbusCommands, clause by clause. -/
theorem wit_MbusCommands :
    (∃ (a : Fin 256) (f : MbFrame) (p : Nat) (ws : List W128) (s : State), mbOwn a f s = true ∧ p < 65536 ∧ isProtected p = false ∧ pageWords s p = some ws
      ∧ mbMode5Only s = false) ∧
    (∃ (a : Fin 256) (f : MbFrame) (p : Nat) (s : State), mbOwn a f s = true ∧ p < 65536 ∧ p ≠ 0x700 ∧ pageWords s p = none) ∧
    (∃ (a : Fin 256) (f : MbFrame) (p : Nat) (s : State), mbOwn a f s = true ∧ p < 65536 ∧ isProtected p = true ∧ (p = 0x700 ∨ (pageWords s p).isSome =
      true) ∧ granted s 0 0 false p = false) ∧
    (∃ (a : Fin 256) (f : MbFrame) (p : Nat) (ws : List W128) (s : State), mbOwn a f s = true ∧ p < 65536 ∧ isProtected p = true ∧ p ≠ 0x700 ∧ pageWords s
      p = some ws ∧ granted s 0 0 false p = true ∧ mbKeyFault s = false) ∧
    (∃ (a : Fin 256) (f : MbFrame) (p k : Nat) (l : Latch) (s : State), mbOwn a f s = true ∧ p < 65536 ∧ 0 < k ∧ s.mbus.latch = some l ∧ l.isRecord = false
      ∧ l.item = p ∧ l.reader = 0) ∧
    (∃ (a : Fin 256) (f : MbFrame) (no : Nat) (s : State), mbOwn a f s = true ∧ granted s 0 0 true no = false) ∧
    (∃ (a : Fin 256) (f : MbFrame) (no : Nat) (ws : List W128) (s : State), mbOwn a f s = true ∧ granted s 0 0 true no = true ∧ recordWords s no = some ws
      ∧ mbKeyFault s = false) ∧
    (∃ (a : Fin 256) (f : MbFrame) (no : Nat) (s : State), mbOwn a f s = true ∧ granted s 0 0 true no = true ∧ recordWords s no = none) ∧
    (∃ (a : Fin 256) (f : MbFrame) (s : State), mbOwn a f s = true) ∧
    (∃ (a : Fin 256) (f : MbFrame) (s : State), mbHere a s = true ∧ mbSecure f s = false) ∧
    (∃ (a : Fin 256) (f : MbFrame) (tag k n : Nat) (d : List Nat) (s : State), mbOwn a f s = true ∧ tag < 65536 ∧ chunkFormed k n d = false) ∧
    (∃ (a : Fin 256) (f : MbFrame) (tag k n : Nat) (d : List Nat) (s : State), mbOwn a f s = true ∧ tag < 65536 ∧ chunkFormed k n d = true ∧ (s.mbus.asmN =
      0 ∨ (s.mbus.asmTag = tag ∧ s.mbus.asmN = n)) ∧ (kset k d s.mbus.asm).length < n) ∧
    (∃ (a : Fin 256) (f : MbFrame) (tag k n : Nat) (d : List Nat) (ws : List W128) (s : State), mbOwn a f s = true ∧ tag < 65536 ∧ chunkFormed k n d = true
      ∧ (s.mbus.asmN = 0 ∨ (s.mbus.asmTag = tag ∧ s.mbus.asmN = n)) ∧ (kset k d s.mbus.asm).length = n ∧ ws = bytesWords 272 ((kset k d
      s.mbus.asm).flatMap (·.2)) ∧ asmFramed ws = true ∧ fld (ws.getD 0 0) 63 0 = s.life.serial ∧ s.life.serial ≠ 0) ∧
    (∃ (s : State), s.mbus.asmN ≠ 0) ∧
    (∃ (s : State), s.mbus.asmN = 0) :=
  ⟨⟨0, f0, 1, [7] ++ List.replicate 63 0, pg, by decide⟩,
    ⟨0, f0, 2, pg, by decide⟩,
    ⟨0, f0, 0x60, pg, by decide⟩,
    ⟨0, f0, 0x60, [8] ++ List.replicate 63 0, mk (gr (w [(120,1),(80,0x60),(64,0x60),(0,5000)]) 0 (pg)), by decide⟩,
    ⟨0, f0, 1, 1, {isRecord := false, item := 1, ref := 3, isProt := false, words := List.replicate 64 0}, mm fun m => {m with latch := some {isRecord := false, item := 1, ref := 3, isProt := false, words := List.replicate 64 0}}, by decide⟩,
    ⟨0, f0, 8, run, by decide⟩,
    ⟨0, f0, 8, [3,4], mk (gr (w [(120,2),(0,5000)]) (w [(64,8),(48,2)]) (pg)), by decide⟩,
    ⟨0, f0, 9, mk (gr (w [(120,2),(0,5000)]) (w [(64,8),(48,2)]) (pg)), by decide⟩,
    ⟨0, f0, run, by decide⟩,
    ⟨0, { mode5 := true, verifies := false }, run, by decide⟩,
    ⟨0, f0, 5, 2, 2, [3], run, by decide⟩,
    ⟨0, f0, 5, 1, 2, List.replicate 16 3, run, by decide⟩,
    ⟨0, f0, 5, 0, 1, ordB, bytesWords 272 ordB, run, by decide⟩,
    ⟨mm fun m => {m with asmN := 2, asm := [(0,[3])], asmTag := 6}, by decide⟩,
    ⟨run, by decide⟩⟩

end Sys2Proof.Tests.C15

/-! Tag. -/

namespace Sys2Proof.Tests.C16

def mtg (f : Tag → Tag) (s : State := run) : State := s.modTag f

def q0 : TagReq := { uid := none, sel := false, opt := false }

def m0 : List Host.Cell := [(3,5),(8*140,7),(8*528,9)]

def rm := mtg fun t => {t with mem := m0}

def cell (bs : List Nat) (f : Tag → Tag := id) : State := mtg fun t => f {t with mem := memWriteAll 0 (8*528) bs [], bells := [1,3]}

def wr : W128 := w [(120,1),(112,0x57),(96,33),(88,1)]

def wn (f : TagWin → TagWin) (s : State := rm) : State := s.modTag fun t => {t with wins := t.wins.set 2 (f {tenant := 33, handle := 0x1234, lastReq := 4000})}

def kp (s : State) : State := s.modKeys fun k => { k with slots := k.slots.set 2 { keyId := 0x77, status := .loaded, role := 2 } }

/-- States and operands that meet the hypotheses of TagAnswersTheField, clause by clause. -/
theorem wit_TagAnswersTheField :
    (∃ (u : Nat) (s : State), u ≠ tagUid s) ∧
    (∃ (q : TagReq) (s : State), tagHears s q = true ∧ q.opt = false) ∧
    (∃ (q : TagReq) (s : State), tagHears s q = true ∧ q.opt = false) ∧
    (∃ (q : TagReq) (s : State), tagHears s q = true ∧ q.opt = false) ∧
    (∃ (q : TagReq) (s : State), tagHears s q = true ∧ q.opt = false) ∧
    (∃ (q : TagReq) (b : Fin 1024) (s : State), tagHears s q = true ∧ q.opt = false ∧ (b.val < 512 ∨ 768 ≤ b.val)) ∧
    (∃ (q : TagReq) (b : Fin 1024) (s : State), tagHears s q = true ∧ q.opt = false ∧ 512 ≤ b.val ∧ b.val < 768 ∧ memWf 0 s.tag.mem = true) ∧
    (∃ (q : TagReq) (b : Fin 256) (e : Fin 1024) (n d : Nat) (c : Instr) (s : State), c ∈ [Instr.resetToReady q, .readSingleBlock q b, .readMultipleBlocks
      q b n, .writeSingleBlock q b d, .extendedReadSingle q e, .extendedWriteSingle q e d, .extendedReadMultiple q e n, .getSystemInformation q,
      .extendedGetSystemInfo q, .getBlockSecurityStatus q b n, .extendedGetSecurityStatus q e n] ∧ (tagHears s q = false ∨ q.opt = true)) :=
  ⟨⟨4, mtg fun t => {t with st := .selected}, by decide⟩,
    ⟨q0, run, by decide⟩,
    ⟨q0, rm, by decide⟩,
    ⟨q0, rm, by decide⟩,
    ⟨q0, rm, by decide⟩,
    ⟨q0, 768, rm, by decide⟩,
    ⟨q0, 528, rm, by decide⟩,
    ⟨{q0 with opt := true}, 5, 6, 7, 8, .resetToReady {q0 with opt := true}, rm, by decide⟩⟩

/-- States and operands that meet the hypotheses of RdoServesTheTag, clause by clause. -/
theorem wit_RdoServesTheTag :
    (∃ (k : Nat) (rest : List Nat) (s : State), s.tag.bells = k :: rest ∧ k < 16 ∧ rdoWrites s = true ∧ s.tag.takenCy < 4 ∧ s.life.cond = .run ∧ cellFormed
      s k = true ∧ cellType s k = 1 ∧ nfcTokens s = true ∧ memWf 0 s.tag.mem = true) ∧
    (∃ (k : Nat) (rest : List Nat) (s : State), s.tag.bells = k :: rest ∧ k < 16 ∧ rdoWrites s = true ∧ s.tag.takenCy < 4 ∧ s.life.cond = .run ∧ cellFormed
      s k = false ∧ memWf 0 s.tag.mem = true) ∧
    (∃ (s : State), s.tag.bells = [] ∨ rdoWrites s = false ∨ 4 ≤ s.tag.takenCy) ∧
    (∃ (k : Nat) (x : W128) (rest : List (Nat × W128)) (v : Nat) (s : State), s.tag.reqQ = (k, x) :: rest ∧ rdoWrites s = true ∧ reqFormed s x = true ∧
      nfcWindows s = true ∧ fld x 111 96 ≠ 0 ∧ v < 8 ∧ (((List.range 8).find? fun v => (tagWin s v).tenant == fld x 111 96) = some v) ∧ memWf 0
      s.tag.mem = true) ∧
    (∃ (s : State), s.tag.reqQ = [] ∨ rdoWrites s = false) ∧
    (∃ (v : Fin 8) (m f : Nat) (s : State), roleSlot s 2 = some m ∧ freeFrame s = some f ∧ rdoWrites s = true ∧ s.life.cond = .run ∧ windowDue s (tagWin s
      v.val) = true ∧ memWf 0 s.tag.mem = true) ∧
    (∃ (v : Fin 8) (m f : Nat) (s : State), roleSlot s 2 = some m ∧ freeFrame s = some f ∧ rdoWrites s = true ∧ s.life.cond = .run ∧ windowDue s (tagWin s
      v.val) = true) ∧
    (∃ (v : Fin 8) (s : State), roleSlot s 2 = none ∨ freeFrame s = none ∨ rdoWrites s = false ∨ windowDue s (tagWin s v.val) = false) ∧
    (∃ (v : Fin 8) (f : Nat) (s : State), s.tag.wins[v].flipTo = some f ∧ rdoWrites s = true ∧ (∀ g ∈ s.tag.latched, dirFrame s v.val ≠ some g) ∧ memWf 0
      s.tag.mem = true) ∧
    (∃ (v : Fin 8) (f : Nat) (s : State), s.tag.wins[v].flipTo = some f ∧ rdoWrites s = true ∧ (∀ g ∈ s.tag.latched, dirFrame s v.val ≠ some g)) ∧
    (∃ (v : Fin 8) (s : State), s.tag.wins[v].flipTo.isSome = true ∧ s.tag.wins[v].flipSeen = false ∧ s.tag.wins[v].flipSince + 500 ≤ s.clk.bndTot ∧
      rdoWrites s = true) ∧
    (∃ (v : Fin 8) (s : State), s.tag.wins[v].flipTo = none ∨ s.tag.wins[v].flipSeen = true) ∧
    (∃ (b : Fin 64) (s : State), rdoWrites s = true ∧ s.clk.started = true ∧ (b.val < 8 ∨ (24 ≤ b.val ∧ b.val < 56)) ∧ s.tag.pubAt[b] + 50 ≤ s.clk.bndTot ∧
      tagBlock s b.val ≠ publicBlock s b.val ∧ memWf 0 s.tag.mem = true) ∧
    (∃ (b : Fin 64) (s : State), rdoWrites s = true ∧ s.clk.started = true ∧ (b.val < 8 ∨ (24 ≤ b.val ∧ b.val < 56)) ∧ s.tag.pubAt[b] + 50 ≤ s.clk.bndTot ∧
      tagBlock s b.val ≠ publicBlock s b.val) ∧
    (∃ (b : Fin 64) (s : State), rdoWrites s = false ∨ 56 ≤ b.val ∨ tagBlock s b.val = publicBlock s b.val) :=
  ⟨⟨1, [3], cell ([1,3,7,0,0,0,0,0] ++ List.replicate 48 6), by decide⟩,
    ⟨1, [3], cell ([1,4,7,0,0,0,0,0] ++ List.replicate 48 6), by decide⟩,
    ⟨run, by decide⟩,
    ⟨1, wr, [], 2, wn id (rm.modTag fun t => {t with reqQ := [(1,wr)]}), by decide⟩,
    ⟨run, by decide⟩,
    ⟨2, 2, 0, kp (wn id), by decide⟩,
    ⟨2, 2, 0, kp (wn id), by decide⟩,
    ⟨2, kp rm, by decide⟩,
    ⟨2, 5, wn fun x => {x with flipTo := some 5}, by decide⟩,
    ⟨2, 5, wn fun x => {x with flipTo := some 5}, by decide⟩,
    ⟨2, wn fun x => {x with flipTo := some 5, flipSince := 4500}, by decide⟩,
    ⟨2, wn fun x => {x with flipTo := some 5, flipSince := 4500, flipSeen := true}, by decide⟩,
    ⟨0, rm, by decide⟩,
    ⟨0, rm, by decide⟩,
    ⟨60, rm, by decide⟩⟩

end Sys2Proof.Tests.C16

/-! Acrad PHY. -/

namespace Sys2Proof.Tests.C17

def mp (f : Phy → Phy) (s : State := run) : State := s.modPhy f

def rq : TxReq := { coupler := 2, fc := BitVec.ofNat 128 (fcWord 1 1 2 true 0 (roboSymbols 365 1) 1 0 0), blocks := [[1,2,3]] }

def t1 (f : Phy → Phy := id) : State := mp fun p => f {p with tx := [rq, rq], rxActive := true}

def fc1 : Nat := fcWord 1 2 1 false 0 (roboSymbols 365 1) 1 2 0x0580

def tmA : List W128 := tmWords 2 2 1 0x5A7 17 41 40 (List.replicate 9 0 ++ List.replicate 20 3 ++ List.replicate 388 0)

/-- States and operands that meet the hypotheses of PhySendsAndReceives, clause by clause. -/
theorem wit_PhySendsAndReceives :
    (∃ (r : TxReq) (rest : List TxReq) (s : State), s.phy.tx = r :: rest ∧ lnkUp s = true ∧ s.phy.vldOk = true ∧ s.phy.thermal = false ∧ couplerOk s
      r.coupler = true) ∧
    (∃ (n c : Nat) (r : TxReq) (rest : List TxReq) (s : State), s.phy.tx = r :: rest ∧ lnkUp s = true ∧ s.phy.vldOk = true ∧ s.phy.thermal = false ∧
      couplerOk s r.coupler = false ∧ couplerOk s c = true ∧ (c = nextCoupler r.coupler ∨ (couplerOk s (nextCoupler r.coupler) = false ∧ c =
      nextCoupler (nextCoupler r.coupler))) ∧ n ≤ 64) ∧
    (∃ (r : TxReq) (rest : List TxReq) (s : State), s.phy.tx = r :: rest ∧ lnkUp s = true ∧ s.phy.vldOk = true ∧ s.phy.thermal = false ∧ (∀ c : Nat, c < 4
      → couplerOk s c = false) ∧ r.coupler < 4) ∧
    (∃ (s : State), s.phy.tx = [] ∨ lnkUp s = false ∨ s.phy.vldOk = false ∨ s.phy.thermal = true) ∧
    (∃ (fc : Nat) (ok : Bool) (s : State), phyHears s = true ∧ (ok = false ∨ fcValid s fc = false)) ∧
    (∃ (fc : Nat) (s : State), phyHears s = true ∧ fcValid s fc = true) ∧
    (∃ (fc : Nat) (bs : List Bool) (s : State), phyHears s = true ∧ fcValid s fc = true ∧ ackFails fc bs s = false) ∧
    (∃ (fc : Nat) (bs : List Bool) (s : State), phyHears s = true ∧ fcValid s fc = true ∧ ackFails fc bs s = true) ∧
    (∃ (s : State), phyHears s = false) ∧
    (∃ (mean : List Int) (s : State), mean.length = 417 ∧ noiseUsable s = true) ∧
    (∃ (mean : List Int) (s : State), mean.length ≠ 417 ∨ noiseUsable s = false) ∧
    (∃ (m : List W128) (d : Bool) (s : State), lnkUp s = true ∧ tmRefusal s m = 0 ∧ mapRoom s (if d then tmRx m else tmTx m) (tmClass m) d = true) ∧
    (∃ (m : List W128) (d : Bool) (s : State), lnkUp s = true ∧ (tmRefusal s m ≠ 0 ∨ mapRoom s (if d then tmRx m else tmTx m) (tmClass m) d = false)) ∧
    (∃ (s : State), lnkUp s = false) ∧
    (∃ (c : Fin 3) (d l : Bool) (s : State), d ≠ l ∧ c.val + 1 ∉ s.phy.cplBad) ∧
    (∃ (c : Fin 3) (d l : Bool) (s : State), d = l ∨ c.val + 1 ∈ s.phy.cplBad) ∧
    (∃ (s : State), s.phy.vldOk = true) ∧
    (∃ (s : State), s.phy.vldOk = false) ∧
    (∃ (s : State), s.phy.thermal = false) ∧
    (∃ (s : State), s.phy.thermal = true) :=
  ⟨⟨rq, [rq], t1, by decide⟩,
    ⟨5, 3, rq, [rq], t1 fun p => {p with cplBad := [2]}, by decide⟩,
    ⟨rq, [rq], t1 fun p => {p with cplBad := [1,2,3]}, by decide⟩,
    ⟨run, by decide⟩,
    ⟨fc1, false, run, by decide⟩,
    ⟨fc1, run, by decide⟩,
    ⟨fc1, [true], run.modLnk fun l => {l with neigh := [{node := 2}, {node := 3}]}, by decide⟩,
    ⟨fc1, [false], run.modLnk fun l => {l with neigh := [{node := 2}, {node := 3}]}, by decide⟩,
    ⟨{run with life := {run.life with cond := .retired}}, by decide⟩,
    ⟨List.replicate 417 5, run, by decide⟩,
    ⟨List.replicate 416 5, run, by decide⟩,
    ⟨tmA, true, run, by decide⟩,
    ⟨tmA, false, mp fun p => {p with maps := [{words := tmA, peer := 41}]}, by decide⟩,
    ⟨State.reset, by decide⟩,
    ⟨1, true, false, mp fun p => {p with sel := 2}, by decide⟩,
    ⟨1, true, true, run, by decide⟩,
    ⟨t1, by decide⟩,
    ⟨mp fun p => {p with vldOk := false}, by decide⟩,
    ⟨t1, by decide⟩,
    ⟨mp fun p => {p with thermal := true}, by decide⟩⟩

end Sys2Proof.Tests.C17

/-! Acrad network: beacons. -/

namespace Sys2Proof.Tests.C18

/-- A LINK record: TX_KEY_ID 0x501, RELAY, TM_ERR 20 %, RETRIES 2, the default shaping. -/

def recsL : List ImgRec := recsA ++ [{ typ := 0x60, idx := 0, pay := [w [(96, 0x501), (95, 1), (80, 20), (72, 2)], w [(127, 1)]] ++ List.replicate 32 0 }]

def lk (f : Lnk → Lnk := id) : State := (({ run with img := { run.img with recs := recsL } }).modKeys fun k => { k with slots := (k.slots.set 3 { keyId := 0x501, status := .loaded, role := 1 }).set 4 { keyId := 0x602, status := .loaded, role := 1 } }).modLnk f

def f2 : AcFrame := { src := 2, fctr := 5, keysel := 1, body := [0, 1, 3, 0, 0,4,0,0,0,0,0,0, 17,0,0,0] }

def hd (n : Nat) (f : Lnk → Lnk) : State := lk fun l => f {l with handover := some (1000/64, n), coord := 3}

def n3 : Neigh := { node := 3, depth := 1, relay := true, heard := [true, true, false, true], quality := 9}

def jn (l : List Neigh) : State := ({lk with clk := {clkA with count := 1024}}).modLnk fun x => {x with st := .joined, parent := 2, neigh := l, island := false}

/-- States and operands that meet the hypotheses of BeaconsAndTheTree, clause by clause. -/
theorem wit_BeaconsAndTheTree :
    (∃ (x n : Nat) (s : State), lnkUp s = true ∧ s.lnk.st = .coord ∧ estCount s % 4 = 0 ∧ s.lnk.beaconCount ≠ estCount s ∧ txOpen x n s = true) ∧
    (∃ (x n : Nat) (s : State), lnkUp s = true ∧ s.lnk.st = .coord ∧ estCount s % 4 = 0 ∧ s.lnk.beaconCount ≠ estCount s ∧ txPlace s = some x ∧ (netSlots
      s)[x]? = some n ∧ (keySlot s n).status = .loaded ∧ canGive s 0 = false ∧ canGive s 1 = false ∧ s.lnk.exhausted = false) ∧
    (∃ (s : State), lnkUp s = false ∨ s.lnk.st ≠ .coord ∨ estCount s % 4 ≠ 0 ∨ s.lnk.beaconCount = estCount s) ∧
    (∃ (f : AcFrame) (n : Nat) (s : State), lnkUp s = true ∧ s.lnk.st = .joined ∧ cfg s 0x60 0 0 95 95 = 1 ∧ 1 ≤ s.lnk.epochDepth ∧ s.lnk.epochDepth ≤ 5 ∧
      f.mic = true ∧ netKey s f.keysel = some n) ∧
    (∃ (f : AcFrame) (s : State), lnkUp s = false ∨ s.lnk.st ≠ .joined ∨ cfg s 0x60 0 0 95 95 ≠ 1 ∨ s.lnk.epochDepth = 0 ∨ 5 < s.lnk.epochDepth ∨ f.mic =
      false) ∧
    (∃ (f : AcFrame) (s : State), (lnkAccept f s).1 = true ∧ s.lnk.st = .coord ∧ f.body.getD 0 0 < nodeId s) ∧
    (∃ (f : AcFrame) (hop : Nat) (s : State), (lnkAccept f s).1 = true ∧ ((s.lnk.st = .coord ∧ nodeId s ≤ f.body.getD 0 0) ∨ (s.lnk.st = .joined ∧ 2048 <
      (wrapPu ((copyPhi s hop f.stamp : Int) - phiC s)).natAbs))) ∧
    (∃ (f : AcFrame) (hop : Nat) (s : State), (lnkAccept f s).1 = true ∧ (s.lnk.st = .listen ∨ s.lnk.st = .synced ∨ (s.lnk.st = .joined ∧ (wrapPu ((copyPhi
      s hop f.stamp : Int) - phiC s)).natAbs ≤ 2048))) ∧
    (∃ (s : State), lnkUp s = true ∧ s.lnk.st = .listen ∧ coordCapable s = true ∧ 3 + nodeId s / 32 ≤ s.lnk.beaconMiss ∧ (sendPlace s).isSome = true) ∧
    (∃ (s : State), lnkUp s = false ∨ s.lnk.st ≠ .listen ∨ coordCapable s = false ∨ s.lnk.beaconMiss < 3 + nodeId s / 32 ∨ sendPlace s = none) ∧
    (∃ (n : Nat) (s : State), lnkUp s = true ∧ handoverNow s = some n ∧ s.lnk.st ≠ .coord ∧ n = nodeId s) ∧
    (∃ (n : Nat) (s : State), lnkUp s = true ∧ handoverNow s = some n ∧ s.lnk.st = .coord ∧ n ≠ nodeId s) ∧
    (∃ (n : Nat) (s : State), lnkUp s = true ∧ handoverNow s = some n ∧ (s.lnk.st = .coord ↔ n = nodeId s)) ∧
    (∃ (s : State), lnkUp s = false ∨ handoverNow s = none) ∧
    (∃ (s : State), lnkUp s = true ∧ (s.lnk.st = .synced ∨ s.lnk.st = .joined) ∧ 48 ≤ s.lnk.beaconMiss) ∧
    (∃ (s : State), lnkUp s = false ∨ s.lnk.st = .listen ∨ s.lnk.st = .coord ∨ s.lnk.beaconMiss < 48) ∧
    (∃ (n : Neigh) (s : State), lnkUp s = true ∧ s.lnk.st = .joined ∧ s.clk.count % 64 = 0 ∧ parentGone s = true ∧ BestParent n s ∧ (s.lnk.neigh.map
      (·.node)).Nodup) ∧
    (∃ (s : State), lnkUp s = true ∧ s.lnk.st = .joined ∧ s.clk.count % 64 = 0 ∧ parentGone s = true ∧ (∀ n ∈ s.lnk.neigh, eligible n = false)) ∧
    (∃ (s : State), lnkUp s = false ∨ s.lnk.st ≠ .joined ∨ s.clk.count % 64 ≠ 0 ∨ parentGone s = false) :=
  ⟨⟨0, 3, lk fun l => {l with st := .coord}, by decide⟩,
    ⟨0, 3, lk fun l => {l with st := .coord, fctr0 := 2^32 - 1, res0 := 2^32-1, fctr1 := 2^32 - 1, res1 := 2^32-1}, by decide⟩,
    ⟨lk, by decide⟩,
    ⟨f2, 3, lk fun l => {l with st := .joined, epochDepth := 2}, by decide⟩,
    ⟨f2, lk fun l => {l with st := .joined, epochDepth := 6}, by decide⟩,
    ⟨f2, lk fun l => {l with st := .coord}, by decide⟩,
    ⟨{f2 with body := [1]}, 0, lk fun l => {l with st := .coord}, by decide⟩,
    ⟨f2, 0, lk, by decide⟩,
    ⟨({lk with img := {lk.img with recs := { typ := 0x10, idx := 0, pay := [w [(120, 1), (111, 1)]] } :: lk.img.recs}}).modLnk fun l => {l with beaconMiss := 3}, by decide⟩,
    ⟨lk, by decide⟩,
    ⟨1, hd 1 fun l => {l with st := .joined}, by decide⟩,
    ⟨0, hd 0 fun l => {l with st := .coord}, by decide⟩,
    ⟨0, hd 0 fun l => {l with st := .joined}, by decide⟩,
    ⟨lk, by decide⟩,
    ⟨lk fun l => {l with st := .joined, beaconMiss := 48, island := false}, by decide⟩,
    ⟨lk, by decide⟩,
    ⟨n3, jn [{n3 with node := 4}, n3, {n3 with node := 5, quality := 8}], by unfold BestParent; decide⟩,
    ⟨jn [{n3 with relay := false}], by decide⟩,
    ⟨jn [{n3 with node := 2}], by decide⟩⟩

end Sys2Proof.Tests.C18

/-! Acrad network: frames. -/

namespace Sys2Proof.Tests.C18b

/-- A LINK record: TX_KEY_ID 0x501, RELAY, TM_ERR 20 %, RETRIES 2, the default shaping. -/

def recsL : List ImgRec := recsA ++ [{ typ := 0x60, idx := 0, pay := [w [(96, 0x501), (95, 1), (80, 20), (72, 2)], w [(127, 1)]] ++ List.replicate 32 0 }]

def lk (f : Lnk → Lnk := id) : State := (({ run with img := { run.img with recs := recsL } }).modKeys fun k => { k with slots := (k.slots.set 3 { keyId := 0x501, status := .loaded, role := 1 }).set 4 { keyId := 0x602, status := .loaded, role := 1 } }).modLnk f

def f2 : AcFrame := { src := 2, fctr := 5, keysel := 1, body := [0, 1, 3, 0, 0,4,0,0,0,0,0,0, 17,0,0,0] }

def fu : AcFrame := { src := 2, dst := 1, bcast := false, fseq := 7, fctr := 5, keysel := 1, orig := 2, final := 1, msgId := 9, hops := 4, body := [1,2,3,4] }

def seenW (f : Lnk → Lnk := id) : State := lk fun l => f {l with wins := [{src := 2, key := 1, high := 5, any := true}]}

def fuf : AcFrame := {fu with frag := 1, last := false}

def fa : AcFrame := {fu with final := 3, hops := 3}

def tr : State := lk fun l => {l with st := .joined, depth := 2, parent := 0, children := [{node := 3, via := 4}], queue := [{kind := 6}, {kind := 8}]}

def fb : AcFrame := {fu with bcastFinal := true, final := 0}

def rb : List Nat := [1,0,0,0,0x20,0,0,0] ++ List.replicate 8 0

def rb3 : List Nat := [3,0,0,0,0x20,0,0,0] ++ List.replicate 8 0

def cb (seen : Nat) : List Nat := bytesLE 8 seen ++ [0, 1] ++ bytesLE 4 15 ++ [4, 0x18, 1,0,2,0,3,0]

def bs : State := ({lk with clk := {clkA with count := 64*16+32}}).modLnk fun l => {l with st := .coord, demands := [demandOfBytes 15 [4, 0x18, 1,0,2,0,3,0], demandOfBytes 15 [2, 0x18, 1,0,2,0,3,0], demandOfBytes 14 [4, 0x18, 1,0,2,0,3,0]]}

def bds := sortBy (·.node) (bs.lnk.demands.filter fun d => d.epoch == 15)

def fs : AcFrame := {f2 with body := (bundleBytes 15 bds).drop 30, frag := 1, last := true}

def ss : State := lk fun l => {l with st := .joined, epochDepth := 3, bundleIn := [(0, (bundleBytes 15 bds).take 30)]}

/-- States and operands that meet the hypotheses of LinkFramesAndRouting, clause by clause. -/
theorem wit_LinkFramesAndRouting :
    (∃ (f : AcFrame) (hop : Nat) (q : Fin 48) (c : Instr) (s : State), TakesFrame f hop q c ∧ (lnkUp s = false ∨ frameForUs s f = false)) ∧
    (∃ (f : AcFrame) (hop : Nat) (q : Fin 48) (c : Instr) (s : State), TakesFrame f hop q c ∧ lnkUp s = true ∧ frameForUs s f = true ∧ (f.mic = false ∨
      netKey s f.keysel = none)) ∧
    (∃ (f : AcFrame) (hop : Nat) (q : Fin 48) (c : Instr) (s : State), TakesFrame f hop q c ∧ lnkUp s = true ∧ frameForUs s f = true ∧ f.mic = true ∧
      (netKey s f.keysel).isSome = true ∧ fctrNew (frWin s f.src f.keysel) f.fctr = false) ∧
    (∃ (f : AcFrame) (hop : Nat) (q : Fin 48) (c : Instr) (s : State), TakesFrame f hop q c ∧ lnkUp s = true ∧ frameForUs s f = true ∧ f.mic = true ∧
      (netKey s f.keysel).isSome = true ∧ fctrNew (frWin s f.src f.keysel) f.fctr = true ∧ f.bcast = false ∧ hasBuffer s f = false) ∧
    (∃ (f : AcFrame) (hop : Nat) (q : Fin 48) (c : Instr) (s : State), TakesFrame f hop q c ∧ lnkUp s = true ∧ frameForUs s f = true ∧ f.mic = true ∧
      (netKey s f.keysel).isSome = true ∧ fctrNew (frWin s f.src f.keysel) f.fctr = true ∧ (f.bcast = true ∨ hasBuffer s f = true)) ∧
    (∃ (f : AcFrame) (q : Fin 48) (body : List Nat) (c : Instr) (k d : Nat) (s : State), TakesMsg f q c k ∧ msgAway f body s = true ∧ nextHop s f.final =
      some d ∧ 2 ≤ f.hops) ∧
    (∃ (f : AcFrame) (q : Fin 48) (body : List Nat) (c : Instr) (k : Nat) (s : State), TakesMsg f q c k ∧ msgAway f body s = true ∧ (nextHop s
      f.final).isSome = true ∧ f.hops ≤ 1) ∧
    (∃ (f : AcFrame) (q : Fin 48) (body : List Nat) (c : Instr) (k : Nat) (s : State), TakesMsg f q c k ∧ msgAway f body s = true ∧ nextHop s f.final =
      none) ∧
    (∃ (orig id : Nat) (s : State), (∃ r ∈ s.lnk.reasm, r.orig = orig ∧ r.msgId = id)) ∧
    (∃ (orig id : Nat) (s : State), (∀ r ∈ s.lnk.reasm, ¬ (r.orig = orig ∧ r.msgId = id))) :=
  ⟨⟨{fu with src := 9}, 0, 3, .readRsp {fu with src := 9}, run, by unfold TakesFrame; decide⟩,
    ⟨{fu with mic := false}, 0, 3, .readRsp {fu with mic := false}, lk, by unfold TakesFrame; decide⟩,
    ⟨fu, 0, 3, .orderMsg fu, seenW, by unfold TakesFrame; decide⟩,
    ⟨fuf, 0, 3, .orderMsg fuf, lk fun l => {l with reasm := List.replicate 8 {orig := 3}}, by unfold TakesFrame; decide⟩,
    ⟨fuf, 0, 3, .orderMsg fuf, lk, by unfold TakesFrame; decide⟩,
    ⟨fa, 3, [1,2,3,4], .orderMsg fa, 6, 4, tr, by unfold TakesMsg; decide⟩,
    ⟨{fa with hops := 1}, 3, [1,2,3,4], .readReq {fa with hops := 1}, 8, tr, by unfold TakesMsg; decide⟩,
    ⟨fa, 3, [1,2,3,4], .readReq fa, 8, lk, by unfold TakesMsg; decide⟩,
    ⟨3, 9, lk fun l => {l with reasm := [{orig := 3, msgId := 9}, {orig := 4, msgId := 9}]}, by decide⟩,
    ⟨3, 9, lk, by decide⟩⟩

/-- States and operands that meet the hypotheses of LinkMessagesAndBundles, clause by clause. -/
theorem wit_LinkMessagesAndBundles :
    (∃ (f : AcFrame) (body : List Nat) (s : State), msgHere f body s = true) ∧
    (∃ (f : AcFrame) (body : List Nat) (s : State), msgAll f body s = true ∧ msgSeen f s = false ∧ 2 ≤ f.hops) ∧
    (∃ (f : AcFrame) (q : Fin 48) (body : List Nat) (c : Instr) (k : Nat) (s : State), TakesMsg f q c k ∧ msgAll f body s = true ∧ msgSeen f s = true) ∧
    (∃ (f : AcFrame) (body : List Nat) (s : State), msgHere f body s = true) ∧
    (∃ (f : AcFrame) (body r : List Nat) (d : Nat) (u s : State), msgHere f body s = true ∧ nextHop s f.orig = some d ∧ ((body.getD 0 0 = 1 ∧ readAnswer
      f.orig false (natLE ((body.drop 4).take 2)) (body.getD 1 0) (msgState f s) = (r, u)) ∨ (body.getD 0 0 = 2 ∧ readAnswer f.orig true (natLE
      ((body.drop 8).take 8)) (body.getD 1 0) (msgState f s) = (r, u)) ∨ (body.getD 0 0 ≠ 1 ∧ body.getD 0 0 ≠ 2 ∧ respHeader 4 7 (natLE ((body.drop
      4).take 2)) (body.getD 1 0) 0 0 0 = r ∧ u = msgState f s))) ∧
    (∃ (f : AcFrame) (body : List Nat) (s : State), msgHere f body s = true) ∧
    (∃ (s : State), s.mbus.proxyCmd.isSome = true ∧ s.mbus.proxyRsp = none) ∧
    (∃ (s : State), s.mbus.proxyCmd = none ∨ s.mbus.proxyRsp.isSome = true) ∧
    (∃ (f : AcFrame) (body : List Nat) (d : Demand) (seen : Nat) (s : State), msgHere f body s = true ∧ body.getD 9 0 = 1 ∧ d = demandOfBytes (nearEpoch s
      (natLE ((body.drop 10).take 4))) ((body.drop 14).take 8) ∧ seen = natLE (body.take 8)) ∧
    (∃ (e : Nat) (ds : List Demand) (b : List Nat) (s : State), lnkUp s = true ∧ s.lnk.st = .coord ∧ s.clk.count = 64 * (e + 1) + 32 ∧ (ds = sortBy
      (·.node) (s.lnk.demands.filter fun d => d.epoch == e)) ∧ b = bundleBytes e ds ∧ s.lnk.cancelEpoch.map (· % 2 ^ 32) ≠ some (e % 2 ^ 32) ∧
      s.lnk.bundle.map (·.1) ≠ some e) ∧
    (∃ (s : State), lnkUp s = false ∨ s.lnk.st ≠ .coord ∨ s.clk.count % 64 ≠ 32 ∨ s.lnk.cancelEpoch.map (· % 2 ^ 32) = some ((s.clk.count / 64 - 1) % 2 ^
      32) ∨ s.lnk.bundle.map (·.1) = some (s.clk.count / 64 - 1)) ∧
    (∃ (g : Fin 3) (b : List Nat) (x n : Nat) (s : State), kget? g.val s.lnk.bundleOut = some b ∧ lnkUp s = true ∧ s.lnk.st = .coord ∧ estCount s / 4 % 16
      = 8 + g.val ∧ txOpen x n s = true) ∧
    (∃ (g : Fin 3) (s : State), kget? g.val s.lnk.bundleOut = none ∨ lnkUp s = false ∨ s.lnk.st ≠ .coord ∨ estCount s / 4 % 16 ≠ 8 + g.val) ∧
    (∃ (f : AcFrame) (e : Nat) (b : List Nat) (s : State), (lnkAccept f s).1 = true ∧ segsWhole (segsWith f s) = true ∧ b = (segsWith f s).flatMap (·.2) ∧
      e = nearEpoch s (natLE (b.take 4)) ∧ s.lnk.cancelEpoch.map (· % 2 ^ 32) ≠ some (e % 2 ^ 32)) ∧
    (∃ (f : AcFrame) (s : State), (lnkAccept f s).1 = true ∧ segsWhole (segsWith f s) = false) ∧
    (∃ (f : AcFrame) (n : Nat) (s : State), (lnkAccept f s).1 = true ∧ s.lnk.st = .joined ∧ cfg s 0x60 0 0 95 95 = 1 ∧ 1 ≤ s.lnk.epochDepth ∧
      s.lnk.epochDepth ≤ 5 ∧ netKey s f.keysel = some n) :=
  ⟨⟨fu, [1,2,3,4], tr, by decide⟩,
    ⟨fb, [1,2,3,4], tr, by decide⟩,
    ⟨fb, 3, [1,2,3,4], .orderMsg fb, 6, tr.modLnk fun l => {l with dup := [(2,9,4000)]}, by unfold TakesMsg; decide⟩,
    ⟨{fu with body := [9,0,10,0]}, [9,0,10,0], lk.modMbus fun m => {m with ordMsg := some 9}, by decide⟩,
    ⟨{fu with body := rb}, rb, (readAnswer 2 false 0x20 0 (msgState {fu with body := rb} tr)).1, 0, (readAnswer 2 false 0x20 0 (msgState {fu with body := rb} tr)).2, tr, by decide⟩,
    ⟨fu, [1,2,3,4], lk.modMbus fun m => {m with proxyCmd := some 1, proxy := some 2}, by decide⟩,
    ⟨lk.modMbus fun m => {m with proxyCmd := some 1, proxy := some 2}, by decide⟩,
    ⟨lk, by decide⟩,
    ⟨{fu with body := cb 1010}, cb 1010, demandOfBytes 15 [4, 0x18, 1,0,2,0,3,0], 1010, tr, by decide⟩,
    ⟨15, bds, bundleBytes 15 bds, bs, by decide⟩,
    ⟨lk, by decide⟩,
    ⟨1, [4,5], 0, 3, ({lk with clk := {clkA with count := 4*(9+160)}}).modLnk fun l => {l with st := .coord, bundleOut := [(1,[4,5]),(2,[3])]}, by decide⟩,
    ⟨1, lk, by decide⟩,
    ⟨fs, 15, bundleBytes 15 bds, ss, by decide⟩,
    ⟨{fs with body := []}, ss, by decide⟩,
    ⟨fs, 3, ss, by decide⟩⟩

end Sys2Proof.Tests.C18b

/-! Acrad network: access. -/

namespace Sys2Proof.Tests.C18c

/-- A LINK record: TX_KEY_ID 0x501, RELAY, TM_ERR 20 %, RETRIES 2, the default shaping. -/

def recsL : List ImgRec := recsA ++ [{ typ := 0x60, idx := 0, pay := [w [(96, 0x501), (95, 1), (80, 20), (72, 2)], w [(127, 1)]] ++ List.replicate 32 0 }]

def lk (f : Lnk → Lnk := id) : State := (({ run with img := { run.img with recs := recsL } }).modKeys fun k => { k with slots := (k.slots.set 3 { keyId := 0x501, status := .loaded, role := 1 }).set 4 { keyId := 0x602, status := .loaded, role := 1 } }).modLnk f

def f2 : AcFrame := { src := 2, fctr := 5, keysel := 1, body := [0, 1, 3, 0, 0,4,0,0,0,0,0,0, 17,0,0,0] }

def n3 : Neigh := { node := 3, depth := 1, relay := true, heard := [true, true, false, true], quality := 9}

def fu : AcFrame := { src := 2, dst := 1, bcast := false, fseq := 7, fctr := 5, keysel := 1, orig := 2, final := 1, msgId := 9, hops := 4, body := [1,2,3,4] }

def fuf : AcFrame := {fu with frag := 1, last := false}

def tmA : List W128 := tmWords 2 2 1 0x555 17 1 2 (List.replicate 9 0 ++ List.replicate 20 3 ++ List.replicate 388 0)

def tmB : List W128 := tmWords 2 2 1 0x555 17 2 1 (List.replicate 9 0 ++ List.replicate 20 3 ++ List.replicate 388 0)

def um : TxMsg := { dst := 2, kind := 6, msgId := 5, orig := 1, final := 2, body := [1,2] }

/-- count 4*? + slot such that contention is open: link slot 24.. -/

def cs (f : Lnk → Lnk := id) : State := ({lk with clk := {clkA with count := 1018, lenCur := 20000}}).modLnk fun l => f {l with st := .joined, depth := 2, parent := 2, queue := [um], neigh := [{n3 with node := 2}]}

def om (k t : Nat) : TxMsg := {um with kind := k, counted := true, fseq := 7, tries := t, body := [0,0,0,0,0,0,0,0,0,1,15,0,0,0,4,0,0,0]}

def os (k t : Nat) (f : Lnk → Lnk := id) : State := (cs fun l => f {l with out := [{um with fseq := 6}, om k t], demands := [demandOfBytes 15 [4], demandOfBytes 14 [4]]}).modPhy fun p => {p with maps := [{words := tmA, peer := 2, sending := true}]}

def am : TxMsg := {om 5 1 with body := bytesLE 4 17}

def fq (b : List Nat) : AcFrame := {fu with body := b}

def rs : State := cs.modPhy fun p => {p with noise := Vector.replicate 6 (List.replicate 417 (16*20)), levels := [(2, [List.replicate 417 70])], maps := [{words := tmB, peer := 2}]}

/-- States and operands that meet the hypotheses of AccessAndToneMaps, clause by clause. -/
theorem wit_AccessAndToneMaps :
    (∃ (j : Fin 12) (s : State), nextTx s = none ∨ slotOpen j s = false) ∧
    (∃ (j : Fin 12) (units b : Nat) (m : TxMsg) (s : State), nextTx s = some m ∧ slotOpen j s = true ∧ BackoffIs b s ∧ (units < b ∨ frameFits m b j s =
      false)) ∧
    (∃ (j : Fin 12) (units b n : Nat) (m : TxMsg) (s : State), nextTx s = some m ∧ slotOpen j s = true ∧ BackoffIs b s ∧ b ≤ units ∧ frameFits m b j s =
      true ∧ m.counted = true ∧ netKey s m.keysel = some n) ∧
    (∃ (j : Fin 12) (units b x n : Nat) (m : TxMsg) (s : State), nextTx s = some m ∧ slotOpen j s = true ∧ BackoffIs b s ∧ b ≤ units ∧ frameFits m b j s =
      true ∧ m.counted = false ∧ txOpen x n s = true) ∧
    (∃ (node fseq st : Nat) (m : TxMsg) (s : State), outFrame s node fseq = some m ∧ lnkUp s = true ∧ st ≠ 0 ∧ m.tries ≤ cfg s 0x60 0 0 79 72) ∧
    (∃ (node fseq st : Nat) (m : TxMsg) (s : State), outFrame s node fseq = some m ∧ lnkUp s = true ∧ st ≠ 0 ∧ cfg s 0x60 0 0 79 72 < m.tries) ∧
    (∃ (node fseq : Nat) (m : TxMsg) (s : State), outFrame s node fseq = some m ∧ lnkUp s = true ∧ m.kind ≠ 5 ∧ m.kind ≠ 1) ∧
    (∃ (node fseq : Nat) (m : TxMsg) (s : State), outFrame s node fseq = some m ∧ lnkUp s = true ∧ m.kind = 1) ∧
    (∃ (node fseq : Nat) (m : TxMsg) (s : State), outFrame s node fseq = some m ∧ lnkUp s = true ∧ m.kind = 5) ∧
    (∃ (node fseq : Nat) (s : State), outFrame s node fseq = none ∨ lnkUp s = false) ∧
    (∃ (node fseq : Nat) (m : TxMsg) (s : State), outFrame s node fseq = some m ∧ lnkUp s = true ∧ m.tries ≤ cfg s 0x60 0 0 79 72) ∧
    (∃ (node fseq : Nat) (m : TxMsg) (s : State), outFrame s node fseq = some m ∧ lnkUp s = true ∧ cfg s 0x60 0 0 79 72 < m.tries) ∧
    (∃ (node fseq : Nat) (s : State), outFrame s node fseq = none ∨ lnkUp s = false) ∧
    (∃ (node : Nat) (s : State), lnkUp s = true ∧ (neighOf s node).isSome = true ∧ refreshDue s node = true ∧ (∀ m ∈ s.lnk.queue, ¬ (m.kind = 3 ∧ m.dst =
      node))) ∧
    (∃ (node : Nat) (s : State), lnkUp s = false ∨ neighOf s node = none ∨ refreshDue s node = false ∨ (∃ m ∈ s.lnk.queue, m.kind = 3 ∧ m.dst = node)) ∧
    (∃ (f : AcFrame) (body : List Nat) (u s : State), msgHere f body s = true ∧ u = exchangeState f.orig false (msgState f s)) ∧
    (∃ (f : AcFrame) (body : List Nat) (r : List Nat × State) (s : State), msgHere f body s = true ∧ r = offerLoaded (offerMaps body) (exchangeState f.orig
      true (msgState f s))) ∧
    (∃ (f : AcFrame) (body : List Nat) (s : State), msgHere f body s = true) :=
  ⟨⟨3, lk, by decide⟩,
    ⟨3, 5, 7, um, cs fun l => {l with backoff := some 7}, by unfold BackoffIs; decide +kernel⟩,
    ⟨3, 9, 7, 3, {um with counted := true, keysel := 1, fctr := 5, tries := 1}, cs fun l => {l with backoff := some 7, queue := [{um with counted := true, keysel := 1, fctr := 5, tries := 1}]}, by unfold BackoffIs; decide +kernel⟩,
    ⟨3, 9, 7, 0, 3, um, cs fun l => {l with backoff := some 7}, by unfold BackoffIs; decide +kernel⟩,
    ⟨2, 7, 2, om 6 2, os 6 2, by decide⟩,
    ⟨2, 7, 2, om 6 3, os 6 3, by decide⟩,
    ⟨2, 7, om 6 2, os 6 2 fun l => {l with neigh := [{n3 with node := 2, fails := 7}]}, by decide⟩,
    ⟨2, 7, om 1 2, os 1 2, by decide⟩,
    ⟨2, 7, am, os 1 2 fun l => {l with out := [am]}, by decide⟩,
    ⟨2, 7, lk, by decide⟩,
    ⟨2, 7, om 6 2, os 6 2, by decide⟩,
    ⟨2, 7, om 6 3, os 6 3 fun l => {l with neigh := [{n3 with node := 2, fails := 7}]}, by decide⟩,
    ⟨2, 7, lk, by decide⟩,
    ⟨2, cs, by decide⟩,
    ⟨2, lk, by decide⟩,
    ⟨fq [], [], exchangeState 2 false (msgState (fq []) rs), rs, by decide⟩,
    ⟨fq (wordsBytes tmA), wordsBytes tmA, offerLoaded (offerMaps (wordsBytes tmA)) (exchangeState 2 true (msgState (fq (wordsBytes tmA)) cs)), cs, by decide⟩,
    ⟨fq (bytesLE 4 17), bytesLE 4 17, rs, by decide⟩⟩

end Sys2Proof.Tests.C18c

/-! Load sharing. -/

namespace Sys2Proof.Tests.C19

/-- A LINK record: TX_KEY_ID 0x501, RELAY, TM_ERR 20 %, RETRIES 2, the default shaping. -/

def recsL : List ImgRec := recsA ++ [{ typ := 0x60, idx := 0, pay := [w [(96, 0x501), (95, 1), (80, 20), (72, 2)], w [(127, 1)]] ++ List.replicate 32 0 }]

def lk (f : Lnk → Lnk := id) : State := (({ run with img := { run.img with recs := recsL } }).modKeys fun k => { k with slots := (k.slots.set 3 { keyId := 0x501, status := .loaded, role := 1 }).set 4 { keyId := 0x602, status := .loaded, role := 1 } }).modLnk f

def n3 : Neigh := { node := 3, depth := 1, relay := true, heard := [true, true, false, true], quality := 9}

def fu : AcFrame := { src := 2, dst := 1, bcast := false, fseq := 7, fctr := 5, keysel := 1, orig := 2, final := 1, msgId := 9, hops := 4, body := [1,2,3,4] }

def fuf : AcFrame := {fu with frag := 1, last := false}

def fdr : ImgRec := { typ := 0x61, idx := 0, pay := [w [(104, 1), (96, 50), (32, 1000), (16, 1000), (0, 1000)], w [(56,1),(48,1),(32,200),(16,60),(0,600)]] }

def ls (f : Lnk → Lnk := id) : State := ({lk with clk := {clkA with count := 960}, img := {lk.img with recs := lk.img.recs ++ [fdr]}}).modLnk fun l => f {l with st := .joined, depth := 2, parent := 2}

def dm : Demand := demandOfBytes 15 [1, 0, 1,0,2,0,3,0]

def sf (fl : Nat) (seen : Nat := 0) : AcFrame := { src := 3, fctr := 5, keysel := 1, orig := 3, bcastFinal := true, body := [1, 2, 0, fl, 0, 0, 9,0,0,0,0,0,0,0, 7,0,0,0] ++ bytesLE 8 seen ++ [3, 0, 1,0,2,0,3,0] }

def full (f : Neigh → Neigh) : State := ls fun l => {l with neigh := (List.range 32).map fun i => f {n3 with node := 10 + i, quality := 100 - i}}

def ll : State := (ls.modShare fun h => {h with llimRun := 4}).modCp 0 fun c => {c with share := some 160}

/-- States and operands that meet the hypotheses of ShareFramesAndLlim, clause by clause. -/
theorem wit_ShareFramesAndLlim :
    (∃ (d : Demand) (x n : Nat) (s : State), (s.share.sent.find? (fun d => d.epoch == s.clk.count / 64) = some d) ∧ lnkUp s = true ∧ s.lnk.st ≠ .listen ∧
      s.lnk.sharedEpoch ≠ some (estCount s / 64) ∧ estCount s % 64 = shareCycle (nodeId s) ∧ txOpen x n s = true) ∧
    (∃ (s : State), (∀ d ∈ s.share.sent, d.epoch ≠ s.clk.count / 64) ∨ lnkUp s = false ∨ s.lnk.st = .listen ∨ s.lnk.sharedEpoch = some (estCount s / 64) ∨
      estCount s % 64 ≠ shareCycle (nodeId s)) ∧
    (∃ (f : AcFrame) (s : State), (lnkAccept f s).1 = true ∧ neighFits f s = true) ∧
    (∃ (f : AcFrame) (x : Neigh) (s : State), (lnkAccept f s).1 = true ∧ neighFits f s = false ∧ x ∈ s.lnk.neigh ∧ silent x = true ∧ (∀ y ∈ s.lnk.neigh,
      silent y = true → y ≠ x → x.quality < y.quality) ∧ (s.lnk.neigh.map (·.node)).Nodup) ∧
    (∃ (f : AcFrame) (s : State), (lnkAccept f s).1 = true ∧ neighFits f s = false ∧ (∀ y ∈ s.lnk.neigh, silent y = false) ∧ aheadBad f s = false ∧
      coordBelow f s = false) ∧
    (∃ (s : State), 4 ≤ s.share.llimRun ∧ s.life.cond = .run ∧ (feederPay s (ownFeeder s)).isSome = true) ∧
    (∃ (s : State), s.share.llimRun < 4 ∨ s.life.cond ≠ .run ∨ feederPay s (ownFeeder s) = none) :=
  ⟨⟨dm, 0, 3, ls.modShare fun h => {h with sent := [dm]}, by decide⟩,
    ⟨ls, by decide⟩,
    ⟨sf 6, ls, by decide⟩,
    ⟨sf 6, {n3 with node := 30, heard := [], quality := 80}, full fun n => if n.node = 30 ∨ n.node = 20 then {n with heard := []} else n, by decide⟩,
    ⟨sf 6, full id, by decide⟩,
    ⟨ll, by decide⟩,
    ⟨ls, by decide⟩⟩

end Sys2Proof.Tests.C19

/-! Board. -/

namespace Sys2Proof.Tests.C20

/-- DISPLAY: 800 x 600, LL_EN, VCOM 2 000 mV, modes 1, 2, 3, R25 10 kΩ, BETA 3 950, FULL_INT 24 h. -/

def dspRec : ImgRec := { typ := 0x90, idx := 0, pay := [w [(116, 800), (104, 600), (100, 1), (32, 2000), (20, 1), (16, 2), (12, 3)], w [(96, 10000), (80, 3950), (40, 50), (32, 24)]] }

/-- WAVEFORM_INDEX: 4 modes, 2 bands, LOW -10.0, HIGH 50.0, UB_0 15.0. -/

def wvRec : ImgRec := { typ := 0x93, idx := 0, pay := [w [(124, 3), (120, 1), (104, 65536 - 100), (88, 500)], w [(0, 150)], 0, 0, w [(0, 0x50A00), (32, 0x60B00), (64, 0x50C00), (96, 0x50D00)], w [(0, 0x70E00), (32, 0x60F00)]] }

def bd (f : Epd → Epd := id) : State := ({run with img := { run.img with recs := recsA ++ [dspRec, wvRec] }}).modEpd fun e => f {e with released := true}

def rA : Rect := {x := 0, y := 0, w := 100, h := 50}

def rB : Rect := {x := 200, y := 0, w := 100, h := 50}

def qd (f : Epd → Epd := id) : State := bd fun e => f {e with queue := [rA, rB]}

def rg (f : Region → Region := id) : Region := f { active := true, rect := rB, mode := 1, band := 0, frames := 12, frame := 11, texts := [{layout := 1, elem := 2, point := 0, text := [65]}] }

def qo (f : Epd → Epd := id) : State := ({run with img := { run.img with recs := recsA ++ [dspRec, { wvRec with pay := [w [(124, 3), (120, 1), (104, 32767), (88, 32768)]] ++ wvRec.pay.drop 1 }] }}).modEpd fun e => f {e with released := true, queue := [rA]}

def ml (s : State) : State := s.modSen fun x => {x with mlSig := true}

def fr (f : Epd → Epd := id) : State := (qd f).modSen fun x => {x with mono := 32768 * 3600 * 25}


theorem every_temperature_is_out (t : Int) : tempOut (qo fun e => {e with readPend := true, band := 1}) t = true := by
  show (decide (t < (32767 : Int)) || decide ((-32768 : Int) < t)) = true
  by_cases h : t < 32767 <;> simp only [Bool.or_eq_true, decide_eq_true_eq] <;> omega

/-- States and operands that meet the hypotheses of BoardUpdates, clause by clause. -/
theorem wit_BoardUpdates :
    (∃ (s : State), epdReady s = false ∨ nextRect s = none ∨ freeRegion s = none) ∧
    (∃ (s : State), epdReady s = true ∧ (nextRect s).isSome = true ∧ (freeRegion s).isSome = true ∧ s.epd.bandFor = none) ∧
    (∃ (r : Rect) (k : Fin 4) (b m : Nat) (s : State), epdReady s = true ∧ nextRect s = some r ∧ freeRegion s = some k ∧ s.epd.bandFor = some b ∧ m = (if
      s.epd.firstWhole then 0 else modeUpdate s)) ∧
    (∃ (r : Nat), thermBad r = true) ∧
    (∃ (r : Nat) (s : State), thermBad r = false ∧ (s.epd.readPend = false ∨ tempOut s (thermTemp r s) = false)) ∧
    (∃ (r : Nat) (s : State), thermBad r = false ∧ s.epd.readPend = true ∧ tempOut s (thermTemp r s) = true) ∧
    (∃ (s : State), s.epd.panel = 3 ∧ s.sen.mlSig = true ∧ s.epd.lastLight = false ∧ running s ≠ []) ∧
    (∃ (s : State), s.epd.panel = 3 ∧ s.sen.mlSig = false ∧ s.epd.lastLight = false ∧ running s = []) ∧
    (∃ (s : State), s.epd.panel = 3 ∧ (s.sen.mlSig = false ∨ s.epd.lastLight = true) ∧ running s ≠ []) ∧
    (∃ (s : State), s.epd.panel ≠ 3 ∨ (running s = [] ∧ (s.sen.mlSig = true ∨ s.epd.lastLight = true))) ∧
    (∃ (s : State), s.epd.panel = 2) ∧
    (∃ (s : State), s.epd.panel ≠ 2) ∧
    (∃ (s : State), s.epd.panel = 2) ∧
    (∃ (s : State), s.epd.panel ≠ 2) ∧
    (∃ (s : State), s.epd.panel = 3) ∧
    (∃ (s : State), s.epd.panel ≠ 3) ∧
    (∃ (r b m : Nat) (s : State), fullDue s = true ∧ freeRegion s = some 0 ∧ thermBad r = false ∧ b = bandOf s (thermTemp r s) ∧ m = modeFull s) ∧
    (∃ (r : Nat) (s : State), fullDue s = true ∧ freeRegion s = some 0 ∧ thermBad r = true) ∧
    (∃ (s : State), fullDue s = false) ∧
    (∃ (s : State), s.epd.retryAt ≠ 0 ∧ s.epd.retryAt ≤ s.clk.bndTot) ∧
    (∃ (s : State), s.epd.retryAt = 0 ∨ s.clk.bndTot < s.epd.retryAt) :=
  ⟨⟨bd, by decide⟩,
    ⟨qd, by decide⟩,
    ⟨rA, 0, 1, 1, qd fun e => {e with bandFor := some 1}, by decide⟩,
    ⟨50, by decide⟩,
    ⟨10000, qd, by decide⟩,
    ⟨900000, qo fun e => {e with readPend := true, band := 1}, by decide, by decide, every_temperature_is_out _⟩,
    ⟨ml (qd fun e => {e with panel := 3, regions := e.regions.set 1 rg, modelB := {seq := 4, good := true}}), by decide⟩,
    ⟨qd fun e => {e with panel := 3, faultRun := 2}, by decide⟩,
    ⟨qd fun e => {e with panel := 3, regions := (e.regions.set 1 rg).set 2 (rg fun r => {r with frame := 3})}, by decide⟩,
    ⟨qd, by decide⟩,
    ⟨qd fun e => {e with panel := 2, regions := e.regions.set 1 rg}, by decide⟩,
    ⟨qd fun e => {e with panel := 3}, by decide⟩,
    ⟨qd fun e => {e with panel := 2, pwrEn := true, regions := e.regions.set 1 rg}, by decide⟩,
    ⟨qd, by decide⟩,
    ⟨qd fun e => {e with panel := 3, regions := e.regions.set 1 rg}, by decide⟩,
    ⟨qd fun e => {e with panel := 4, regions := e.regions.set 1 rg}, by decide⟩,
    ⟨10000, bandOf fr (thermTemp 10000 fr), 2, fr, by decide, by decide, by decide, rfl, by decide⟩,
    ⟨9, fr, by decide⟩,
    ⟨qd, by decide⟩,
    ⟨qd fun e => {e with panel := 5, retryAt := 4000}, by decide⟩,
    ⟨qd, by decide⟩⟩

end Sys2Proof.Tests.C20

/-! Sentinel and journal. -/

namespace Sys2Proof.Tests.C21

def sn (f : Sen → Sen) (s : State := run) : State := s.modSen f

def o0 : OutTimes := { rail := 100, meter := 1200, ledger := 1300, journal := 2000 }

def bnd1 : State := (run.modLed fun l => {l with binds := l.binds.set 0 (some { session := 5, tenant := 33 })}).modPmet 0 fun x => {x with on := true}

def jr (s : State) : State := s.modJrn fun j => {j with secs := [(0,{st := .active}), (1, {st := .erased})], active := some 0}

def outg (f : Sen → Sen := id) (s : State := run) : State := ({s with life := {s.life with cond := .outage}}).modSen fun e => f {e with st := .outage, mlSig := true, seq := 4, steps := 15, level := 1, rtcS := 777}

def dspRec : ImgRec := { typ := 0x90, idx := 0, pay := [w [(116, 800), (104, 600), (100, 1), (32, 2000), (20, 1), (16, 2), (12, 3)], w [(96, 10000), (80, 3950), (40, 50), (32, 24)]] }

def rg : Region := { active := true, rect := {x := 200, y := 0, w := 100, h := 50}, mode := 1, frames := 12, frame := 11}

def bd : State := ({run with img := { run.img with recs := recsA ++ [dspRec] }}).modEpd fun e => {e with released := true}

def snRec : ImgRec := { typ := 0xB0, idx := 0, pay := [w [(112, 1000), (96, 5000), (80, 2000), (72, 80), (71, 1), (70, 1), (69, 1), (68, 1)]] }

def ss (f : Sen → Sen := id) : State := ({run with img := {run.img with recs := recsA ++ [snRec]}}).modSen fun e => f {e with level := 1, rtcS := 0x123456, rtcValid := true}

def tp : State := ss.modTamper fun m => {m with coverArm := true, coverHist := [true, false], termArm := true, termHist := [true]}

/-- States and operands that meet the hypotheses of OutageAndSupplies, clause by clause. -/
theorem wit_OutageAndSupplies :
    (∃ (pf ms : Bool) (s : State), lossOpen s = true ∧ s.life.cond = .run ∧ (pf = true ∨ ms = true)) ∧
    (∃ (pf ms : Bool) (s : State), lossOpen s = true ∧ s.life.cond ≠ .run ∧ (pf = true ∨ ms = true)) ∧
    (∃ (pf ms : Bool) (s : State), lossOpen s = false ∨ (pf = false ∧ ms = false)) ∧
    (∃ (s : State), s.life.cond = .outage ∧ s.sen.seq = 4 ∧ s.elec.supplyOk = true) ∧
    (∃ (s : State), s.life.cond = .outage ∧ s.sen.seq = 4 ∧ s.elec.supplyOk = true ∧ llWhy s = 0) ∧
    (∃ (s : State), s.life.cond = .outage ∧ s.sen.seq = 4 ∧ s.elec.supplyOk = true ∧ llWhy s ≠ 0 ∧ s.epd.lastLight = false) ∧
    (∃ (s : State), s.life.cond ≠ .outage ∨ s.sen.seq ≠ 4 ∨ s.elec.supplyOk = false) ∧
    (∃ (s : State), s.epd.lastLight = true) ∧
    (∃ (s : State), s.epd.lastLight = false) ∧
    (∃ (s : State), s.sen.mlSig = true ∧ s.elec.supplyOk = true ∧ (s.life.cond ≠ .outage ∨ s.epd.lastLight = true)) ∧
    (∃ (s : State), s.sen.mlSig = true ∧ s.elec.supplyOk = true ∧ s.life.cond = .outage ∧ s.epd.lastLight = false) ∧
    (∃ (s : State), s.sen.mlSig = false ∨ s.elec.supplyOk = false) ∧
    (∃ (s : State), s.sen.mlSig = false ∧ s.elec.supplyOk = true) ∧
    (∃ (s : State), s.sen.mlSig = true ∨ s.elec.supplyOk = false) :=
  ⟨⟨true, false, jr run, by decide⟩,
    ⟨false, true, {run with life := {run.life with cond := .noConfig}}, by decide⟩,
    ⟨true, false, sn fun e => {e with mlSig := true}, by decide⟩,
    ⟨outg, by decide⟩,
    ⟨outg id bd, by decide⟩,
    ⟨outg, by decide⟩,
    ⟨run, by decide⟩,
    ⟨(outg (fun e => {e with seq := 5}) bd).modEpd fun e => {e with lastLight := true, llFrames := 12, panel := 3}, by decide⟩,
    ⟨run, by decide⟩,
    ⟨(outg (fun e => {e with seq := 5}) bd).modEpd fun e => {e with lastLight := true, llFrames := 12, panel := 3}, by decide⟩,
    ⟨outg, by decide⟩,
    ⟨run, by decide⟩,
    ⟨run, by decide⟩,
    ⟨outg, by decide⟩⟩

/-- States and operands that meet the hypotheses of SentinelAndJournal, clause by clause. -/
theorem wit_SentinelAndJournal :
    (∃ (v l : Nat) (s : State), s.sen.st ≠ .cold ∧ memWf 0 s.tag.mem = true ∧ l = levelAfter v s) ∧
    (∃ (s : State), s.sen.cellOn = true ∧ s.sen.st ≠ .cold) ∧
    (∃ (s : State), s.sen.cellOn = false ∨ s.sen.st = .cold) ∧
    (∃ (s : State), s.sen.st ≠ .cold) ∧
    (∃ (s : State), s.sen.st ≠ .cold ∧ permits s 3 = true ∧ memWf 0 s.tag.mem = true) ∧
    (∃ (s : State), s.sen.st ≠ .cold ∧ permits s 3 = false) ∧
    (∃ (s : State), s.sen.st ≠ .cold ∧ memWf 0 s.tag.mem = true) ∧
    (∃ (s : State), s.sen.st ≠ .cold ∧ s.sen.xtalFault = false) ∧
    (∃ (s : State), s.sen.st = .cold ∨ s.sen.xtalFault = true) ∧
    (∃ (s : State), s.sen.st ≠ .cold) ∧
    (∃ (s : State), s.sen.st ≠ .cold) ∧
    (∃ (s : State), s.sen.st = .cold) ∧
    (∃ (s : State), s.sen.st = .cold) ∧
    (∃ (s : State), s.sen.st ≠ .cold) ∧
    (∃ (adv v q : Nat) (a b : Bool) (c : Instr) (s : State), c ∈ [Instr.gaugeSample adv v q a, .mpptSample v, .tamperSample adv a b, .gaugeTagUpdate adv,
      .rtcOscRestart] ∧ s.sen.st = .cold) ∧
    (∃ (i : Nat) (s : State), s.jrn.erasing = some i ∧ s.sen.mlSig = false) ∧
    (∃ (s : State), s.jrn.erasing = none ∨ s.sen.mlSig = true) :=
  ⟨⟨4900, 0, ss, by decide⟩,
    ⟨ss fun e => {e with cellOn := true}, by decide⟩,
    ⟨ss, by decide⟩,
    ⟨ss, by decide⟩,
    ⟨tp, by decide⟩,
    ⟨sn (fun e => {e with st := .dormant, level := 4}) tp, by decide⟩,
    ⟨ss, by decide⟩,
    ⟨ss, by decide⟩,
    ⟨ss fun e => {e with st := .cold}, by decide⟩,
    ⟨ss fun e => {e with xtalFault := true, rtcRef := true, rtcValid := false}, by decide⟩,
    ⟨ss fun e => {e with level := 4}, by decide⟩,
    ⟨ss fun e => {e with st := .cold}, by decide⟩,
    ⟨(ss fun e => {e with st := .cold}).modTag fun t => {t with mem := memWriteAll 0 (8*64) (List.replicate 88 3) []}, by decide⟩,
    ⟨ss, by decide⟩,
    ⟨1, 2, 3, true, false, .rtcOscRestart, ss fun e => {e with st := .cold}, by decide⟩,
    ⟨1, (jr run).modJrn fun j => {j with erasing := some 1, marker := some 1, secs := [(1,{})]}, by decide⟩,
    ⟨run, by decide⟩⟩

end Sys2Proof.Tests.C21

/-! Health and events. -/

namespace Sys2Proof.Tests.C22

def fb (f : Fab → Fab) (s : State := run) : State := s.modFab f

/-- lanes 0..15 hold positions, 16 and 17 spare -/

def ln : Vector Lane 18 := (((finList 18).foldl (fun (v : Vector Lane 18) (i : Fin 18) => v.set i (if i.val < 16 then { pos := some i.val } else { st := .spare })) (Vector.replicate 18 {})))

def cnt (n : Nat) (s : State := run) : State := s.modClk fun c => {c with count := n}

def L (f : Fab → Fab := id) (n : Nat := 1024) : State := fb (fun v => f {v with lanes := ln}) (cnt n)

def J (ph : Nat) (st : ModSt := .underTest) : State := L (fun v => {v with step := {pos := 3, lane := 3, spare := 17, at_ := 1024, phase := ph}, lanes := v.lanes.set 3 {st := st, pos := none}}) 1536

def R : State := L (fun v => {v with lanes := v.lanes.set 5 {st := .suspect, retestAt := some 1536, fails := 1}}) 1536

def RT : State := L (fun v => {v with ret := {pos := 3, lane := 3, spare := 17, at_ := 1537, phase := 4}}) 1536

def H (b : Bool) (x : Bool := true) : State := L (fun v => {v with takeDue := [(4, b)], lanes := if x then v.lanes else (v.lanes.set 16 {}).set 17 {}})

def full : List Row := (List.range 8).map fun k => {row := 100 + k, st := .suspect, spare := some k, kind := 1}

def B (f : BankH → BankH) (n : Nat := 1024) : State := (L id n).modFab fun v => {v with banks := v.banks.set 5 (f v.banks[5])}

def K (f : Fab → Fab) (n : Nat := 1024) : State := fb f (cnt n)

def allSp : Vector SpareBlk 64 := Vector.replicate 64 {st := .inService, use := 1, repl := 7}

def E (f : Ev → Ev) : State := run.modEv f

/-- States and operands that meet the hypotheses of FabricIsTestedAndRepaired, clause by clause. -/
theorem wit_FabricIsTestedAndRepaired :
    (∃ (s : State), laneStepDue s = false) ∧
    (∃ (s : State), laneStepDue s = true ∧ (stepSpare s = none ∨ laneAt s (stepPos s) = none)) ∧
    (∃ (l sp : Fin 18) (s : State), laneStepDue s = true ∧ stepSpare s = some sp ∧ laneAt s (stepPos s) = some l) ∧
    (∃ (l sp : Fin 18) (s : State), laneStepDue s = true ∧ stepSpare s = some sp ∧ laneAt s (stepPos s) = some l) ∧
    (∃ (l : Fin 18) (s : State), (stepJudged l s = true ∨ retestDue l s = true) ∧ s.fab.lanes[l].st ≠ .suspect) ∧
    (∃ (l : Fin 18) (s : State), (stepJudged l s = true ∨ retestDue l s = true) ∧ s.fab.lanes[l].st = .suspect) ∧
    (∃ (l : Fin 18) (s : State), stepJudged l s = true ∧ s.fab.step.phase = 2) ∧
    (∃ (l k : Fin 18) (s : State), stepJudged l s = true ∧ s.fab.step.phase = 3 ∧ s.fab.step.lane = k.val) ∧
    (∃ (l : Fin 18) (s : State), retestDue l s = true) ∧
    (∃ (l : Fin 18) (s : State), stepJudged l s = false ∧ retestDue l s = false) ∧
    (∃ (l : Fin 18) (s : State), s.life.cond = .run ∧ s.fab.lanes[l].resCy = 0 ∧ inReturn l s = true) ∧
    (∃ (l : Fin 18) (s : State), s.life.cond = .run ∧ s.fab.lanes[l].resCy = 0 ∧ inReturn l s = false ∧ s.fab.lanes[l].pos ≠ none) ∧
    (∃ (l : Fin 18) (s : State), s.life.cond = .run ∧ 1 ≤ s.fab.lanes[l].resCy ∧ (inReturn l s = true ∨ s.fab.lanes[l].pos ≠ none)) ∧
    (∃ (l : Fin 18) (s : State), s.life.cond ≠ .run ∨ (inReturn l s = false ∧ s.fab.lanes[l].pos = none)) ∧
    (∃ (l sp : Fin 18) (d : Nat × Bool) (s : State), s.fab.takeDue.find? (·.1 == l.val) = some d ∧ (finList 18).find? (laneFree s) = some sp) ∧
    (∃ (l : Fin 18) (n : Nat) (s : State), s.fab.takeDue.find? (·.1 == l.val) = some (n, true) ∧ (finList 18).find? (laneFree s) = none) ∧
    (∃ (l : Fin 18) (n : Nat) (s : State), s.fab.takeDue.find? (·.1 == l.val) = none ∨ (s.fab.takeDue.find? (·.1 == l.val) = some (n, false) ∧ (finList
      18).find? (laneFree s) = none)) ∧
    (∃ (s : State), rowStepDue s = false) ∧
    (∃ (k : Fin 32) (s : State), rowStepDue s = true ∧ freeRow s.fab.banks[k] = none) ∧
    (∃ (k : Fin 32) (r sp : Nat) (s : State), rowStepDue s = true ∧ freeRow s.fab.banks[k] = some sp ∧ r = turnRow s.fab.banks[k] ∧ ((rowOf s.fab.banks[k]
      r).st ≠ .suspect ∨ (rowOf s.fab.banks[k] r).spare = none)) ∧
    (∃ (k : Fin 32) (r sp : Nat) (s : State), rowStepDue s = true ∧ freeRow s.fab.banks[k] = some sp ∧ r = turnRow s.fab.banks[k] ∧ (rowOf s.fab.banks[k]
      r).st = .suspect ∧ (rowOf s.fab.banks[k] r).spare ≠ none) ∧
    (∃ (k : Fin 32) (r sp : Nat) (s : State), r ∈ s.fab.banks[k].moveDue ∧ freeRow s.fab.banks[k] = some sp) ∧
    (∃ (k : Fin 32) (r : Nat) (s : State), r ∈ s.fab.banks[k].moveDue ∧ freeRow s.fab.banks[k] = none) ∧
    (∃ (k : Fin 32) (r : Nat) (s : State), r ∉ s.fab.banks[k].moveDue) ∧
    (∃ (k : Fin 32) (r : Nat) (s : State), (rowOf s.fab.banks[k] r).st ≠ .inService ∨ (rowOf s.fab.banks[k] r).ceRot = 0) ∧
    (∃ (k : Fin 32) (r sp : Nat) (s : State), (rowOf s.fab.banks[k] r).st = .inService ∧ 1 ≤ (rowOf s.fab.banks[k] r).ceRot ∧ freeRow (bankRead r
      s.fab.banks[k]) = some sp) ∧
    (∃ (k : Fin 32) (r : Nat) (s : State), (rowOf s.fab.banks[k] r).st = .inService ∧ 1 ≤ (rowOf s.fab.banks[k] r).ceRot ∧ freeRow (bankRead r
      s.fab.banks[k]) = none) ∧
    (∃ (r : Nat) (s : State), r < 512 ∧ s.elec.supplyOk = true) ∧
    (∃ (r : Nat) (s : State), 512 ≤ r ∨ s.elec.supplyOk = false) ∧
    (∃ (s : State), blkStepDue s = false) ∧
    (∃ (s : State), blkStepDue s = true ∧ freeBlk s = none) ∧
    (∃ (b : Nat) (sp : Fin 64) (s : State), blkStepDue s = true ∧ freeBlk s = some sp ∧ b = turnBlk s ∧ (blkOf s b).st ≠ .suspect) ∧
    (∃ (b : Nat) (sp k : Fin 64) (s : State), blkStepDue s = true ∧ freeBlk s = some sp ∧ b = turnBlk s ∧ (blkOf s b).st = .suspect ∧ spareOf s b = some k) ∧
    (∃ (b : Nat) (sp : Fin 64) (s : State), b ∈ s.fab.blkMove ∧ s.clk.count % 64 = 0 ∧ freeBlk s = some sp) ∧
    (∃ (b : Nat) (s : State), b ∈ s.fab.blkMove ∧ s.clk.count % 64 = 0 ∧ freeBlk s = none) ∧
    (∃ (b : Nat) (s : State), b ∉ s.fab.blkMove ∨ s.clk.count % 64 ≠ 0) ∧
    (∃ (b : Nat) (s : State), (blkOf s b).st = .inService ∧ ((blkOf s b).cePrev = true ∨ 4 ≤ (blkOf s b).ceRot)) ∧
    (∃ (b : Nat) (s : State), (blkOf s b).st ≠ .inService ∨ ((blkOf s b).cePrev = false ∧ (blkOf s b).ceRot < 4)) ∧
    (∃ (s : State), s.elec.supplyOk = true) ∧
    (∃ (s : State), s.elec.supplyOk = false) ∧
    (∃ (b : Nat) (sp : Fin 64) (s : State), blkStepDue s = true ∧ freeBlk s = some sp ∧ b = turnBlk s ∧ (blkOf s b).st = .suspect ∧ spareOf s b = none) :=
  ⟨⟨L id 1025, by decide⟩,
    ⟨fb id (cnt 1024), by decide⟩,
    ⟨2, 16, L, by decide⟩,
    ⟨3, 17, L id 1536, by decide⟩,
    ⟨3, J 2, by decide⟩,
    ⟨3, J 2 .suspect, by decide⟩,
    ⟨3, J 2, by decide⟩,
    ⟨17, 3, J 3, by decide⟩,
    ⟨5, R, by decide⟩,
    ⟨4, R, by decide⟩,
    ⟨17, RT, by decide⟩,
    ⟨4, RT, by decide⟩,
    ⟨4, L fun v => {v with lanes := v.lanes.set 4 {pos := some 4, resCy := 1}}, by decide⟩,
    ⟨17, L, by decide⟩,
    ⟨4, 16, (4,true), H true, by decide⟩,
    ⟨4, 4, H true false, by decide⟩,
    ⟨4, 4, H false false, by decide⟩,
    ⟨L id 1025, by decide⟩,
    ⟨5, B fun b => {b with rows := full, testing := true}, by decide⟩,
    ⟨5, 0, 0, B id, by decide⟩,
    ⟨5, 9, 1, B fun b => {b with testing := true, row := 8, rows := [{row := 3, ceRot := 1}, {row := 9, st := .suspect, spare := some 0}]}, by decide⟩,
    ⟨5, 9, 1, B fun b => {b with moveDue := [7,9], rows := [{row := 3, ceRot := 1}, {row := 9, st := .suspect, ceRot := 2}, {row := 10, st := .suspect, spare := some 0}]}, by decide⟩,
    ⟨5, 9, B fun b => {b with moveDue := [7,9], rows := {row := 9, st := .suspect, ceRot := 2} :: full}, by decide⟩,
    ⟨5, 9, B id, by decide⟩,
    ⟨5, 9, B id, by decide⟩,
    ⟨5, 9, 0, B fun b => {b with rows := [{row := 9, ceRot := 1}]}, by decide⟩,
    ⟨5, 9, B fun b => {b with rows := {row := 9, ceRot := 1} :: full}, by decide⟩,
    ⟨511, run, by decide⟩,
    ⟨512, run, by decide⟩,
    ⟨K id 1025, by decide⟩,
    ⟨K fun v => {v with spares := allSp}, by decide⟩,
    ⟨1, 0, K id, by decide⟩,
    ⟨9, 1, 0, K fun v => {v with block := 8, blks := [{blk := 9, st := .suspect, ceRot := 2}], spares := v.spares.set 0 {st := .inService, use := 1, repl := 9}}, by decide⟩,
    ⟨9, 0, K fun v => {v with blkMove := [9], blks := [{blk := 9, st := .suspect, ceRot := 5}]}, by decide⟩,
    ⟨9, K fun v => {v with blkMove := [9], blks := [{blk := 9, st := .suspect, ceRot := 5}], spares := allSp}, by decide⟩,
    ⟨9, K id, by decide⟩,
    ⟨9, K fun v => {v with blks := [{blk := 9, cePrev := true}]}, by decide⟩,
    ⟨9, K fun v => {v with blks := [{blk := 9, ceRot := 3}]}, by decide⟩,
    ⟨run, by decide⟩,
    ⟨{run with elec := {supplyOk := false}}, by decide⟩,
    ⟨9, 0, K fun v => {v with block := 8, blks := [{blk := 9, st := .suspect, ceRot := 2}]}, by decide⟩⟩

/-- States and operands that meet the hypotheses of EventsAreAcceptedHeldOrDropped, clause by clause. -/
theorem wit_EventsAreAcceptedHeldOrDropped :
    (∃ (c : Nat) (s : State), s.elec.supplyOk = true ∧ s.clk.started = true ∧ (s.ev.acc < 48 ∨ (c / 0x1000 = 1 ∧ s.ev.accSafe < 16))) ∧
    (∃ (c : Nat) (s : State), s.elec.supplyOk = true ∧ s.clk.started = true ∧ 48 ≤ s.ev.acc ∧ (c / 0x1000 ≠ 1 ∨ 16 ≤ s.ev.accSafe)) ∧
    (∃ (s : State), s.elec.supplyOk = true ∧ s.clk.started = false) ∧
    (∃ (s : State), s.elec.supplyOk = false ∧ s.sen.st ≠ .cold) ∧
    (∃ (s : State), s.elec.supplyOk = false ∧ s.sen.st = .cold) :=
  ⟨⟨0x4102, E id, by decide⟩,
    ⟨0x1102, E fun v => {v with acc := 48, accSafe := 16}, by decide⟩,
    ⟨run.modClk fun c => {c with started := false}, by decide⟩,
    ⟨{run with elec := {supplyOk := false}}, by decide⟩,
    ⟨({run with elec := {supplyOk := false}}).modSen fun e => {e with st := .cold}, by decide⟩⟩

end Sys2Proof.Tests.C22

/-! The whole machine. -/

namespace Sys2Proof.Tests

theorem wit_StepRunsFrontCommand :
    (∃ (c : Instr) (q : List Instr) (s : State), s.pending = c :: q) ∧ (∃ s : State, s.pending = []) :=
  ⟨⟨.nresetAssert, [], { State.reset with pending := [.nresetAssert] }, rfl⟩, ⟨State.reset, rfl⟩⟩

theorem wit_StepsKeepTheMemoriesCanonical : ∃ s t : State, MemInv s ∧ step s = .next t :=
  ⟨State.reset, State.reset, by unfold MemInv; decide, rfl⟩

theorem wit_CommunicationCannotReachMetrology :
    (∃ c : Instr, commCommand c = true) ∧
    (∃ (c : Instr) (s t : State), commCommand c = true ∧ keyCommand c = false ∧ exec c s = .next t) :=
  ⟨⟨.driverThermalRestart, rfl⟩, ⟨.driverThermalRestart, run, _, rfl, rfl, rfl⟩⟩

/-- No row of the table gives bits, so no word spells a command and none is put in front of the queue (log entry 8). -/
theorem test_no_word_spells_a_command : decodeTableWord 32 0 = none ∧ State.reset.withFetchWord 32 0 = State.reset := ⟨rfl, rfl⟩

/-- With an empty queue the block idles (log entry 7). -/
theorem test_empty_queue_idles : step State.reset = .next State.reset := rfl

/-- 22 Table 22.9: at B = 1 312 768 step 2 564 is even and tests position 4; step 2 565, after no skip, tests position 5. -/
theorem test_lane_step_position :
    stepPos (C22.L id 1312768) = 4 ∧ stepSpare (C22.L id 1312768) = some 16 ∧ stepPos (C22.L id 1313280) = 5 ∧
      stepSpare (C22.L id 1313280) = some 17 := by decide

/-- 22 Table 22.9: lane 5 fails group 3 with spare 17 shadowing it, event 0x9022 with argument 0x0511_0103. -/
theorem test_lane_failure_argument :
    ((match exec (.laneJudge 5 true 3 false) (C22.L (fun v => { v with
        step := { pos := 5, lane := 5, spare := 17, at_ := 1313280, phase := 2 }, lanes := v.lanes.set 5 { st := .underTest } }) 1313792) with
      | .next t => t.ev.ring.map fun e => (e.2.2.code, e.2.2.arg)
      | _ => []) : List (Nat × Nat)) = [(0x9022, 0x05110103)] := by decide

/-- 17, worked example: a data frame of 4 blocks takes 47 symbols in ROBO. -/
theorem test_robo_symbols : roboSymbols 365 4 = 47 := by decide

end Sys2Proof.Tests


/-! Ill-formed commands: each is refused by the check of its operand. -/

namespace Sys2Proof.Tests

def badOrder : OrderRec := { words := List.replicate 65 0, src := .lnk, orig := 0, tag := 0 }
def frame0 : AcFrame := { src := 0, fctr := 0, keysel := 0, body := [] }
def badFrame : AcFrame := { frame0 with src := 256 }
def chain0 : Chain := ⟨0, false, none, 0, 0, false, 0, [], none⟩
def badChain : Chain := { chain0 with cn := [256] }
def badTimes : OutTimes := { rail := 1 }

theorem test_wf_refuses_1 :
    ([ .crossWorldWrite .ses (2 ^ 64),
      .zeroCrossing .l1 none (2 ^ 16),
      .zeroCrossing .l1 (some 0) 0,
      .cycleBoundary ⟨2 ^ 32, [], 0⟩,
      .tickStart (2 ^ 2) false,
      .countAlignment ⟨2 ^ 32, [], 0⟩,
      .startSequence (.begin (StartObs.mk 4 [] [] [] [] 0 [] [] [] true true [] 0 false false false)),
      .startSequence (.arm []),
      .orderTimeSet badOrder,
      .orderPointService badOrder,
      .orderTenantBlock badOrder,
      .orderTenantUnblock badOrder,
      .orderSeal badOrder,
      .orderUnseal badOrder,
      .orderRetire badOrder,
      .orderRestart badOrder,
      .orderUnknownType badOrder,
      .deliveryBegin badOrder,
      .deliveryData badOrder,
      .deliveryEnd badOrder,
      .deliveryAbandon badOrder,
      .orderReadoutPages badOrder,
      .orderReadoutRecords badOrder,
      .orderReadoutRegister badOrder,
      .orderAuthorise badOrder,
      .slotSign .ses (2 ^ 8) 0 [],
      .slotSign .ses 0 (2 ^ 8) [],
      .slotSign .ses 0 0 [256],
      .slotVerify .ses (2 ^ 8) 0 [],
      .slotVerify .ses 0 (2 ^ 8) [],
      .slotVerify .ses 0 0 [256],
      .slotEncrypt .ses (2 ^ 8) [],
      .slotEncrypt .ses 0 [256],
      .slotDecrypt .ses (2 ^ 8) [],
      .slotDecrypt .ses 0 [256],
      .slotMac .ses (2 ^ 8) [] none,
      .slotMac .ses 0 [] (some (2 ^ 128)),
      .slotMac .ses 0 [256] none,
      .slotDerive .ses (2 ^ 8) false 0,
      .slotDerive .ses 0 false (2 ^ 16) ] : List Instr).all (fun c => !c.wf) = true := by decide

theorem test_wf_refuses_2 :
    ([ .slotKeyAgreement .ses (2 ^ 8) 0 [],
      .slotKeyAgreement .ses 0 (2 ^ 8) [],
      .slotKeyAgreement .ses 0 0 [256],
      .assetFetch (2 ^ 8) 0 0,
      .assetFetch 0 (2 ^ 16) 0,
      .upstreamFrame 0 (List.replicate 65 0) false,
      .headRunFrame 0 (List.replicate 65 0) false 0,
      .headPairFrame 0 [] false (2 ^ 64) 0,
      .headPairFrame 0 [] false 0 (2 ^ 64),
      .headPairFrame 0 (List.replicate 65 0) false 0 0,
      .headCheckFrame 0 (List.replicate 65 0) false none,
      .headCheckFrame 0 [] false (some (true, 2 ^ 16)),
      .headDcTrip 0 (2 ^ 16),
      .headAcTrip 0 (2 ^ 16),
      .haloJudge 0 0 ⟨3, 4, 0, 0, 0⟩,
      .haloConfirmHoldEnd 0 0 ⟨3, 4, 0, 0, 0⟩ false,
      .rstReqFall (2 ^ 32) 0,
      .rstReqFall 0 (2 ^ 32),
      .lockoutReset [],
      .railTest [],
      .headTxMpdu 0 (2 ^ 64) [] false,
      .headTxMpdu 0 0 (List.replicate 4097 0) false,
      .headTxFilter 0 (2 ^ 64) [],
      .headTxFilter 0 0 [256],
      .headNetSet 0 (2 ^ 64),
      .headPipeTestDone 0 0 (2 ^ 16) 0,
      .headPipeTestDone 0 0 0 (2 ^ 16),
      .headMpduReceived 0 (2 ^ 16) 0 0 false 0 0 [] false,
      .headMpduReceived 0 0 (2 ^ 16) 0 false 0 0 [] false,
      .headMpduReceived 0 0 0 (2 ^ 8) false 0 0 [] false,
      .headMpduReceived 0 0 0 0 false (2 ^ 8) 0 [] false,
      .headMpduReceived 0 0 0 0 false 0 (2 ^ 8) [] false,
      .headMpduReceived 0 0 0 0 false 0 0 (List.replicate 4097 0) false,
      .headTxComplete 0 (2 ^ 16) 0 0,
      .rxMpdu 0 (2 ^ 64) [],
      .rxMpdu 0 0 (List.replicate 4097 0),
      .soundReport 0 (2 ^ 16) [],
      .soundReport 0 0 [256],
      .pipeTestReport 0 (2 ^ 64),
      .txReport 0 (2 ^ 64) ] : List Instr).all (fun c => !c.wf) = true := by decide +kernel

theorem test_wf_refuses_3 :
    ([ .cmSlacParmReq 0 (2 ^ 64) 0 0,
      .cmSlacParmReq 0 0 (2 ^ 48) 0,
      .cmSlacParmReq 0 0 0 (2 ^ 8),
      .cmStartAttenCharInd 0 (2 ^ 64),
      .cmAttenCharRsp 0 (2 ^ 64) 0,
      .cmAttenCharRsp 0 0 (2 ^ 8),
      .cmSlacMatchReq 0 (2 ^ 64) 0,
      .cmSlacMatchReq 0 0 (2 ^ 8),
      .slacJoin 0 (2 ^ 8) 0,
      .slacJoin 0 0 (2 ^ 32),
      .tcpConnect 0 (2 ^ 16),
      .tlsClientHello 0 false false false false (2 ^ 8) none,
      .tlsClientHello 0 false false false false 0 (some (2 ^ 16)),
      .tlsClientKeyExchange 0 [256],
      .supportedAppProtocolReq 0 [] (2 ^ 32),
      .supportedAppProtocolReq 0 [(256, 0)] 0,
      .sessionSetupReq 0 (2 ^ 32),
      .serviceSelectionReq 0 (2 ^ 64) 0 0 false 0,
      .serviceSelectionReq 0 0 (2 ^ 16) 0 false 0,
      .serviceSelectionReq 0 0 0 (2 ^ 8) false 0,
      .serviceSelectionReq 0 0 0 0 false (2 ^ 32),
      .paymentDetailsReq 0 (2 ^ 64) chain0 0,
      .paymentDetailsReq 0 0 chain0 (2 ^ 32),
      .paymentDetailsReq 0 0 badChain 0,
      .authorizationReq 0 (2 ^ 64) none false 0,
      .authorizationReq 0 0 none false (2 ^ 32),
      .chargeParameterReq 0 (2 ^ 64) 0 0 0 0,
      .chargeParameterReq 0 0 (2 ^ 16) 0 0 0,
      .chargeParameterReq 0 0 0 (2 ^ 32) 0 0,
      .chargeParameterReq 0 0 0 0 (2 ^ 32) 0,
      .chargeParameterReq 0 0 0 0 0 (2 ^ 32),
      .chargeLoopReq 0 (2 ^ 64) 0 0 0,
      .chargeLoopReq 0 0 (2 ^ 32) 0 0,
      .chargeLoopReq 0 0 0 (2 ^ 32) 0,
      .chargeLoopReq 0 0 0 0 (2 ^ 32),
      .meteringReceiptReq 0 (2 ^ 64) false 0,
      .meteringReceiptReq 0 0 false (2 ^ 32),
      .sessionStopReq 0 (2 ^ 64) false 0,
      .sessionStopReq 0 0 false (2 ^ 32),
      .certificateInstallationReq 0 (2 ^ 64) 0 ] : List Instr).all (fun c => !c.wf) = true := by decide

theorem test_wf_refuses_4 :
    ([ .certificateInstallationReq 0 0 (2 ^ 32),
      .sndUdReadPage 0 ⟨false, false⟩ (2 ^ 16) 0,
      .sndUdReadPage 0 ⟨false, false⟩ 0 (2 ^ 8),
      .sndUdReadRecord 0 ⟨false, false⟩ (2 ^ 64) 0,
      .sndUdReadRecord 0 ⟨false, false⟩ 0 (2 ^ 8),
      .sndUdOrderChunk 0 ⟨false, false⟩ (2 ^ 8) 0 0 [],
      .sndUdOrderChunk 0 ⟨false, false⟩ 0 (2 ^ 8) 0 [],
      .sndUdOrderChunk 0 ⟨false, false⟩ 0 0 (2 ^ 8) [],
      .sndUdOrderChunk 0 ⟨false, false⟩ 0 0 0 [256],
      .sndUdSelect (2 ^ 32) 0 0 0,
      .sndUdSelect 0 (2 ^ 16) 0 0,
      .sndUdSelect 0 0 (2 ^ 8) 0,
      .sndUdSelect 0 0 0 (2 ^ 8),
      .sndUdPrimaryWrite 0 (2 ^ 8),
      .tagInventory (2 ^ 7) 0 none,
      .tagInventory 0 (2 ^ 64) none,
      .tagInventory 0 0 (some (2 ^ 8)),
      .stayQuiet ⟨some (2 ^ 64), false, false⟩,
      .tagSelect (2 ^ 64) false,
      .resetToReady ⟨some (2 ^ 64), false, false⟩,
      .readSingleBlock ⟨some (2 ^ 64), false, false⟩ 0,
      .readMultipleBlocks ⟨none, false, false⟩ 0 (2 ^ 16),
      .readMultipleBlocks ⟨some (2 ^ 64), false, false⟩ 0 0,
      .writeSingleBlock ⟨none, false, false⟩ 0 (2 ^ 64),
      .writeSingleBlock ⟨some (2 ^ 64), false, false⟩ 0 0,
      .extendedReadSingle ⟨some (2 ^ 64), false, false⟩ 0,
      .extendedWriteSingle ⟨none, false, false⟩ 0 (2 ^ 64),
      .extendedWriteSingle ⟨some (2 ^ 64), false, false⟩ 0 0,
      .extendedReadMultiple ⟨none, false, false⟩ 0 (2 ^ 16),
      .extendedReadMultiple ⟨some (2 ^ 64), false, false⟩ 0 0,
      .getSystemInformation ⟨some (2 ^ 64), false, false⟩,
      .extendedGetSystemInfo ⟨some (2 ^ 64), false, false⟩,
      .getBlockSecurityStatus ⟨none, false, false⟩ 0 (2 ^ 16),
      .getBlockSecurityStatus ⟨some (2 ^ 64), false, false⟩ 0 0,
      .extendedGetSecurityStatus ⟨none, false, false⟩ 0 (2 ^ 16),
      .extendedGetSecurityStatus ⟨some (2 ^ 64), false, false⟩ 0 0,
      .tagUnsupportedCommand ⟨some (2 ^ 64), false, false⟩,
      .windowPublish 0 (some (2 ^ 10)),
      .phyTransmit (2 ^ 32),
      .phyFrameReceived (2 ^ 64) false false [] [] ] : List Instr).all (fun c => !c.wf) = true := by decide

theorem test_wf_refuses_5 :
    ([ .toneMapLoad [] false,
      .vldOutOfRange (2 ^ 16),
      .beaconRelay badFrame,
      .beaconRx frame0 (2 ^ 8),
      .beaconRx badFrame 0,
      .shareFrameRx badFrame,
      .tmReq badFrame,
      .tmOffer badFrame,
      .tmAck badFrame 0,
      .toneMapRefresh (2 ^ 8) false,
      .contentionAccess 0 (2 ^ 16),
      .acradAckRx (2 ^ 8) 0 0 0,
      .acradAckRx 0 (2 ^ 8) 0 0,
      .acradAckRx 0 0 (2 ^ 8) 0,
      .acradAckTimeout (2 ^ 8) 0,
      .acradAckTimeout 0 (2 ^ 8),
      .reassemblyTimeout (2 ^ 8) 0,
      .reassemblyTimeout 0 (2 ^ 16),
      .collectMsg badFrame,
      .bundleSeg badFrame,
      .orderMsg badFrame,
      .orderStatus badFrame,
      .readReq badFrame,
      .readRsp badFrame,
      .thermistorResult (2 ^ 32),
      .fullRefresh (2 ^ 32) false false,
      .mainsLoss false false badTimes,
      .gaugeSample (2 ^ 32) 0 0 false,
      .gaugeSample 0 (2 ^ 16) 0 false,
      .gaugeSample 0 0 (2 ^ 16) false,
      .mpptSample (2 ^ 16),
      .tamperSample (2 ^ 32) false false,
      .gaugeTagUpdate (2 ^ 32),
      .laneJudge 0 false (2 ^ 3) false,
      .sramCorrectableError 0 (2 ^ 9),
      .sramRowMove 0 (2 ^ 9),
      .sramUncorrectableError 0 (2 ^ 9),
      .mramCorrectableError (2 ^ 10),
      .mramBlockMove (2 ^ 10),
      .mramUncorrectableError (2 ^ 64) .other ] : List Instr).all (fun c => !c.wf) = true := by decide

theorem test_wf_refuses_6 :
    ([ .eventRaised (2 ^ 16) 0 0 0,
      .eventRaised 0 (2 ^ 8) 0 0,
      .eventRaised 0 0 (2 ^ 8) 0,
      .eventRaised 0 0 0 (2 ^ 32),
      .tlsAlert 0 (2 ^ 8),
      .v2gtpProtocolError 0 (2 ^ 8),
      .neighbourSolicitation 0 [256],
      .orderSeal (OrderRec.mk (List.replicate 65 0) .lnk 0 0),
      .orderSeal (OrderRec.mk [] .lnk 256 0),
      .orderSeal (OrderRec.mk [] .lnk 0 256),
      .tmReq { frame0 with src := 256 },
      .tmReq { frame0 with dst := 256 },
      .tmReq { frame0 with fseq := 256 },
      .tmReq { frame0 with tmi := 256 },
      .tmReq { frame0 with fctr := 2 ^ 64 },
      .tmReq { frame0 with keysel := 256 },
      .tmReq { frame0 with msgId := 65536 },
      .tmReq { frame0 with orig := 256 },
      .tmReq { frame0 with final := 256 },
      .tmReq { frame0 with hops := 256 },
      .tmReq { frame0 with frag := 256 },
      .tmReq { frame0 with stamp := 2 ^ 64 },
      .tmReq { frame0 with body := [256] },
      .tlsClientCertificate 0 (some { chain0 with notBefore := 2 ^ 64 }) false,
      .tlsClientCertificate 0 (some { chain0 with notAfter := 2 ^ 64 }) false,
      .tlsClientCertificate 0 (some { chain0 with cn := [256] }) false,
      .tlsClientCertificate 0 (some { chain0 with badAsset := some 65536 }) false,
      .mainsLoss false false ⟨1, 0, 0, 0, 0⟩,
      .mainsLoss false false ⟨0, 1, 0, 0, 0⟩,
      .mainsLoss false false ⟨0, 0, 1, 0, 0⟩,
      .mainsLoss false false ⟨0, 0, 0, 2 ^ 32, 0⟩ ] : List Instr).all (fun c => !c.wf) = true := by decide

/-- Commands with operands in their widths pass the check. -/
theorem test_wf_passes : ([.crossWorldWrite .ses (2 ^ 64 - 1), .tickStart 3 true, .orderSeal (mkO 4 []), .tmReq frame0, .mainsLoss true false ⟨1, 2, 3, 4, 0⟩] : List Instr).all (·.wf) = true := by decide

end Sys2Proof.Tests
end

section
/-! PROOF. What the communication world may change: the parts that hold what its commands carry, and the keys for those of them that ask an
operation of a key slot (01 R24, R25; 04 R128). -/

namespace Sys2Proof.Machine

/-- The parts of the state that are not of the metrology world and what it lives on, keys apart (01 R24, R25). -/
def commParts : List Part :=
  [.gates, .ports, .safe, .psafe, .cp, .plc, .pipes, .hpipes, .ses, .sesSys, .auth, .authSys, .mbus, .tag, .phy, .lnk,
    .share, .epd, .ev, .sen, .freeCtr]

/-- The parts that a communication command may change. -/
def commMay (c : Instr) : List Part := if keyCommand c then .keys :: commParts else commParts

/-- A command that completes within some parts completes within more. -/
theorem completes_mono {A B : List Part} {s : State} {o : Host.Outcome State Fault Refusal} (h : ∃ t, o = .next t ∧ Upd A s t)
    (hs : subParts A B = true) : ∃ t, o = .next t ∧ Upd B s t := by
  obtain ⟨t, ho, hu⟩ := h
  exact ⟨t, ho, hu.mono hs⟩

/-- The frame of every communication command, from the frame of its meaning; `commCommand` excludes the others. -/
theorem exec_comm_within (c : Instr) (s : State) (hc : commCommand c = true) : ∃ t, exec c s = .next t ∧ Upd (commMay c) s t := by
  cases c
  -- SES: pilot, lock and point state (spec/10)
  case cpStateChange => exact completes_mono (upd_execCpStateChange ..) rfl
  case generatorFault => exact completes_mono (upd_execGeneratorFault ..) rfl
  case generatorFaultClear => exact completes_mono (upd_execGeneratorFaultClear ..) rfl
  case cableCodeAdopt => exact completes_mono (upd_execCableCodeAdopt ..) rfl
  case cableCodeInvalid => exact completes_mono (upd_execCableCodeInvalid ..) rfl
  case lockTargetReached => exact completes_mono (upd_execLockTargetReached ..) rfl
  case lockDriveTimeout => exact completes_mono (upd_execLockDriveTimeout ..) rfl
  case lockRetry => exact completes_mono (upd_execLockRetry ..) rfl
  case lockFaultClear => exact completes_mono (upd_execLockFaultClear ..) rfl
  case pointReturnToService => exact completes_mono (upd_execPointReturnToService ..) rfl
  case ceilingPause => exact completes_mono (upd_execCeilingPause ..) rfl
  -- SES: tunnel and receive pipes (spec/11)
  case rxMpdu => exact completes_mono (upd_execRxMpdu ..) rfl
  case soundReport => exact completes_mono (upd_execSoundReport ..) rfl
  case pipeTestReport => exact completes_mono (upd_execPipeTestReport ..) rfl
  case txReport => exact completes_mono (upd_execTxReport ..) rfl
  case hpgpBeacon => exact completes_mono (upd_execHpgpBeacon ..) rfl
  case pipeStep => exact completes_mono (upd_execPipeStep ..) rfl
  case pipeRetest => exact completes_mono (upd_execPipeRetest ..) rfl
  -- SES: SLAC (spec/11)
  case cmSlacParmReq => exact completes_mono (upd_execCmSlacParmReq ..) rfl
  case cmStartAttenCharInd => exact completes_mono (upd_execCmStartAttenCharInd ..) rfl
  case slacSoundWindowEnd => exact completes_mono (upd_execSlacSoundWindowEnd ..) rfl
  case cmAttenCharRsp => exact completes_mono (upd_execCmAttenCharRsp ..) rfl
  case cmAttenCharResend => exact completes_mono (upd_execCmAttenCharResend ..) rfl
  case cmSlacMatchReq => exact completes_mono (upd_execCmSlacMatchReq ..) rfl
  case cmValidateReq => exact completes_mono (upd_execCmValidateReq ..) rfl
  case slacJoin => exact completes_mono (upd_execSlacJoin ..) rfl
  case ccLeave => exact completes_mono (upd_execCcLeave ..) rfl
  case slacInitTimeout => exact completes_mono (upd_execSlacInitTimeout ..) rfl
  case slacNoSoundingTimeout => exact completes_mono (upd_execSlacNoSoundingTimeout ..) rfl
  case slacMatchTimeout => exact completes_mono (upd_execSlacMatchTimeout ..) rfl
  case slacJoinTimeout => exact completes_mono (upd_execSlacJoinTimeout ..) rfl
  case slacLinkSilence => exact completes_mono (upd_execSlacLinkSilence ..) rfl
  -- SES: connections and session messages (spec/12)
  case sdpRequest => exact completes_mono (upd_execSdpRequest ..) rfl
  case tcpConnect => exact completes_mono (upd_execTcpConnect ..) rfl
  case tcpConnectionLost => exact completes_mono (upd_execTcpConnectionLost ..) rfl
  case tlsClientHello => exact completes_mono (upd_execTlsClientHello ..) rfl
  case tlsClientKeyExchange => exact completes_mono (upd_execTlsClientKeyExchange ..) rfl
  case tlsClientCertificate => exact completes_mono (upd_execTlsClientCertificate ..) rfl
  case tlsClientFinished => exact completes_mono (upd_execTlsClientFinished ..) rfl
  case supportedAppProtocolReq => exact completes_mono (upd_execSupportedAppProtocolReq ..) rfl
  case sessionSetupReq => exact completes_mono (upd_execSessionSetupReq ..) rfl
  case serviceSelectionReq => exact completes_mono (upd_execServiceSelectionReq ..) rfl
  case paymentDetailsReq => exact completes_mono (upd_execPaymentDetailsReq ..) rfl
  case authorizationReq => exact completes_mono (upd_execAuthorizationReq ..) rfl
  case chargeParameterReq => exact completes_mono (upd_execChargeParameterReq ..) rfl
  case chargeLoopReq => exact completes_mono (upd_execChargeLoopReq ..) rfl
  case meteringReceiptReq => exact completes_mono (upd_execMeteringReceiptReq ..) rfl
  case sessionStopReq => exact completes_mono (upd_execSessionStopReq ..) rfl
  case certificateInstallationReq => exact completes_mono (upd_execCertificateInstallationReq ..) rfl
  case connectTimeout => exact completes_mono (upd_execConnectTimeout ..) rfl
  case handshakeTimeout => exact completes_mono (upd_execHandshakeTimeout ..) rfl
  case sequenceTimeout => exact completes_mono (upd_execSequenceTimeout ..) rfl
  case eimWaitExpiry => exact completes_mono (upd_execEimWaitExpiry ..) rfl
  case overdraw => exact completes_mono (upd_execOverdraw ..) rfl
  -- SES: authorisation (spec/13)
  case tokenMessage => exact completes_mono (upd_execTokenMessage ..) rfl
  case windowRequest => exact completes_mono (upd_execWindowRequest ..) rfl
  case pendingLapse => exact completes_mono (upd_execPendingLapse ..) rfl
  -- RDO: M-Bus (spec/15)
  case sndNke => exact completes_mono (upd_execSndNke ..) rfl
  case sndUdReadPage => exact completes_mono (upd_execSndUdReadPage ..) rfl
  case sndUdReadRecord => exact completes_mono (upd_execSndUdReadRecord ..) rfl
  case sndUdOrderChunk => exact completes_mono (upd_execSndUdOrderChunk ..) rfl
  case sndUdStandard => exact completes_mono (upd_execSndUdStandard ..) rfl
  case sndUdSelect => exact completes_mono (upd_execSndUdSelect ..) rfl
  case sndUdAppReset => exact completes_mono (upd_execSndUdAppReset ..) rfl
  case sndUdBaud => exact completes_mono (upd_execSndUdBaud ..) rfl
  case sndUdPrimaryWrite => exact completes_mono (upd_execSndUdPrimaryWrite ..) rfl
  case reqUd2 => exact completes_mono (upd_execReqUd2 ..) rfl
  case reqUd1 => exact completes_mono (upd_execReqUd1 ..) rfl
  case mbusUnsupported => exact completes_mono (upd_execMbusUnsupported ..) rfl
  case baudRevert => exact completes_mono (upd_execBaudRevert ..) rfl
  case mbusLatchExpiry => exact completes_mono (upd_execMbusLatchExpiry ..) rfl
  case orderAssemblyTimeout => exact completes_mono (upd_execOrderAssemblyTimeout ..) rfl
  -- RDO: tag (spec/16)
  case tagInventory => exact completes_mono (upd_execTagInventory ..) rfl
  case stayQuiet => exact completes_mono (upd_execStayQuiet ..) rfl
  case tagSelect => exact completes_mono (upd_execTagSelect ..) rfl
  case resetToReady => exact completes_mono (upd_execResetToReady ..) rfl
  case readSingleBlock => exact completes_mono (upd_execReadSingleBlock ..) rfl
  case readMultipleBlocks => exact completes_mono (upd_execReadMultipleBlocks ..) rfl
  case writeSingleBlock => exact completes_mono (upd_execWriteSingleBlock ..) rfl
  case extendedReadSingle => exact completes_mono (upd_execExtendedReadSingle ..) rfl
  case extendedWriteSingle => exact completes_mono (upd_execExtendedWriteSingle ..) rfl
  case extendedReadMultiple => exact completes_mono (upd_execExtendedReadMultiple ..) rfl
  case getSystemInformation => exact completes_mono (upd_execGetSystemInformation ..) rfl
  case extendedGetSystemInfo => exact completes_mono (upd_execExtendedGetSystemInfo ..) rfl
  case getBlockSecurityStatus => exact completes_mono (upd_execGetBlockSecurityStatus ..) rfl
  case extendedGetSecurityStatus => exact completes_mono (upd_execExtendedGetSecurityStatus ..) rfl
  case tagUnsupportedCommand => exact completes_mono (upd_execTagUnsupportedCommand ..) rfl
  case mailboxTake => exact completes_mono (upd_execMailboxTake ..) rfl
  case frameLatchExpiry => exact completes_mono (upd_execFrameLatchExpiry ..) rfl
  case windowPublish => exact completes_mono (upd_execWindowPublish ..) rfl
  case windowFlip => exact completes_mono (upd_execWindowFlip ..) rfl
  case flipPendingTimeout => exact completes_mono (upd_execFlipPendingTimeout ..) rfl
  case publicAreaUpdate => exact completes_mono (upd_execPublicAreaUpdate ..) rfl
  -- LNK: physical layer (spec/17)
  case phyTransmit => exact completes_mono (upd_execPhyTransmit ..) rfl
  case phyFrameReceived => exact completes_mono (upd_execPhyFrameReceived ..) rfl
  case noiseSlot => exact completes_mono (upd_execNoiseSlot ..) rfl
  case toneMapLoad => exact completes_mono (upd_execToneMapLoad ..) rfl
  case couplerFault => exact completes_mono (upd_execCouplerFault ..) rfl
  case vldOutOfRange => exact completes_mono (upd_execVldOutOfRange ..) rfl
  case vldRecovery => exact completes_mono (upd_execVldRecovery ..) rfl
  case driverThermalShutdown => exact completes_mono (upd_execDriverThermalShutdown ..) rfl
  -- LNK: network and load sharing (spec/18, spec/19)
  case beaconSend => exact completes_mono (upd_execBeaconSend ..) rfl
  case beaconRelay => exact completes_mono (upd_execBeaconRelay ..) rfl
  case beaconRx => exact completes_mono (upd_execBeaconRx ..) rfl
  case coordinatorTakeover => exact completes_mono (upd_execCoordinatorTakeover ..) rfl
  case coordinationHandover => exact completes_mono (upd_execCoordinationHandover ..) rfl
  case islandEntry => exact completes_mono (upd_execIslandEntry ..) rfl
  case parentLost => exact completes_mono (upd_execParentLost ..) rfl
  case shareFrameSend => exact completes_mono (upd_execShareFrameSend ..) rfl
  case shareFrameRx => exact completes_mono (upd_execShareFrameRx ..) rfl
  case tmReq => exact completes_mono (upd_execTmReq ..) rfl
  case tmOffer => exact completes_mono (upd_execTmOffer ..) rfl
  case tmAck => exact completes_mono (upd_execTmAck ..) rfl
  case toneMapRefresh => exact completes_mono (upd_execToneMapRefresh ..) rfl
  case contentionAccess => exact completes_mono (upd_execContentionAccess ..) rfl
  case acradAckRx => exact completes_mono (upd_execAcradAckRx ..) rfl
  case acradAckTimeout => exact completes_mono (upd_execAcradAckTimeout ..) rfl
  case reassemblyTimeout => exact completes_mono (upd_execReassemblyTimeout ..) rfl
  case collectMsg => exact completes_mono (upd_execCollectMsg ..) rfl
  case bundleClose => exact completes_mono (upd_execBundleClose ..) rfl
  case bundleSegmentSend => exact completes_mono (upd_execBundleSegmentSend ..) rfl
  case bundleSeg => exact completes_mono (upd_execBundleSeg ..) rfl
  case orderMsg => exact completes_mono (upd_execOrderMsg ..) rfl
  case orderStatus => exact completes_mono (upd_execOrderStatus ..) rfl
  case readReq => exact completes_mono (upd_execReadReq ..) rfl
  case readRsp => exact completes_mono (upd_execReadRsp ..) rfl
  case proxyReadTimeout => exact completes_mono (upd_execProxyReadTimeout ..) rfl
  case llimChange => exact completes_mono (upd_execLlimChange ..) rfl
  -- DSP: board (spec/20)
  case displayCommit => exact completes_mono (upd_execDisplayCommit ..) rfl
  case thermistorResult => exact completes_mono (upd_execThermistorResult ..) rfl
  case panelFrame => exact completes_mono (upd_execPanelFrame ..) rfl
  case epdPowerGood => exact completes_mono (upd_execEpdPowerGood ..) rfl
  case epdPowerTimeout => exact completes_mono (upd_execEpdPowerTimeout ..) rfl
  case epdPowerLost => exact completes_mono (upd_execEpdPowerLost ..) rfl
  case fullRefresh => exact completes_mono (upd_execFullRefresh ..) rfl
  case displayRetry => exact completes_mono (upd_execDisplayRetry ..) rfl
  -- the rows that stand last in the table (spec/12, spec/15, spec/17)
  case tcpRetransmissionTimeout => exact completes_mono (upd_execTcpRetransmissionTimeout ..) rfl
  case tlsAlert => exact completes_mono (upd_execTlsAlert ..) rfl
  case v2gtpProtocolError => exact completes_mono (upd_execV2gtpProtocolError ..) rfl
  case neighbourSolicitation => exact completes_mono (upd_execNeighbourSolicitation ..) rfl
  case mbusFrameError => exact completes_mono (upd_execMbusFrameError ..) rfl
  case driverThermalRestart => exact completes_mono (upd_execDriverThermalRestart ..) rfl
  all_goals exact absurd hc Bool.false_ne_true

theorem Upd.metrologyStands {s t : State} (h : Upd (.keys :: commParts) s t) : MetrologyStands s t :=
  ⟨h.meas rfl, h.met rfl, h.pmet rfl, h.led rfl, h.recs rfl, h.jrn rfl, h.tamper rfl, h.life rfl, h.img rfl, h.flash rfl, h.dlv rfl, h.clk rfl,
    h.heads rfl, h.eng rfl, h.fab rfl, h.elec rfl⟩

theorem commMay_sub (c : Instr) : subParts (commMay c) (.keys :: commParts) = true := by
  unfold commMay
  split <;> rfl

/-- Settles O60: every communication command completes within `commMay`, and none of those parts but the keys is one that `MetrologyStands` lists. -/
theorem communicationCannotReachMetrology : Obligations.CommunicationCannotReachMetrology := by
  unfold Obligations.CommunicationCannotReachMetrology
  constructor
  · intro c s hc
    obtain ⟨t, he, hu⟩ := exec_comm_within c s hc
    exact ⟨t, he, (hu.mono (commMay_sub c)).metrologyStands⟩
  · intro c s t hc hk he
    obtain ⟨u, he', hu⟩ := exec_comm_within c s hc
    have htu : t = u := by simpa [he] using he'
    have hm : commMay c = commParts := by simp [commMay, hk]
    rw [hm] at hu
    exact htu ▸ hu.keys rfl

end Sys2Proof.Machine
end

section
/-! SUPPORT. What the parts of the reaction to a lost heartbeat leave: the rail opened, a restart of the hub, an engine that restarts alone, and SES
that does so (01 R46, R47). -/

namespace Sys2Proof.Machine

/-! Folds over the points. -/

theorem mem_finList {n : Nat} (i : Fin n) : i ∈ finList n := by
  induction n with
  | zero => exact i.elim0
  | succ n ih =>
    simp only [finList, List.mem_append, List.mem_map, List.mem_singleton]
    induction i using Fin.lastCases with
    | last => exact Or.inr rfl
    | cast j => exact Or.inl ⟨j, ih j, rfl⟩

/-- A step over a list establishes `Q` at the entry `i` and every step keeps it, from a state with `P`, which every step keeps. -/
theorem foldl_reaches {α : Type} {P Q : State → Prop} {F : State → α → State} {l : List α} {i : α} {s : State} (hi : i ∈ l) (hs : P s)
    (hP : ∀ u a, P u → P (F u a)) (hset : ∀ u, P u → Q (F u i)) (hQ : ∀ u a, Q u → Q (F u a)) : Q (l.foldl F s) := by
  induction l generalizing s with
  | nil => exact absurd hi List.not_mem_nil
  | cons a l ih =>
    rcases List.mem_cons.mp hi with rfl | hi
    · exact List.foldlRecOn l F (hset s hs) fun u hu a _ => hQ u a hu
    · exact ih hi (hP s a hs)

/-! The rail is off (09 R293). -/

theorem stopPoint_psafe (i : Fin 32) (s : State) :
    (stopPoint i s).psafe =
      s.psafe.set i { s.psafe[i] with st := if s.psafe[i].st = .lockedOut then .lockedOut else .stopped, testLeft := 0, openDue := false } := rfl

theorem stopPoint_cp (i : Fin 32) (s : State) : (stopPoint i s).cp = s.cp.set i { s.cp[i] with closeReq := false } := rfl

/-- A point as the RAIL reaction leaves it: tokens withdrawn, no close request, STOPPED or locked out (09 R293, Table 9.6). -/
def PointOff (i : Fin 32) (t : State) : Prop :=
  t.safe.a.opinion[i] = false ∧ t.safe.b.opinion[i] = false ∧ t.cp[i].closeReq = false ∧
    (t.psafe[i].st = .stopped ∨ t.psafe[i].st = .lockedOut)

theorem pointOff_stopPoint_same (i : Fin 32) (s : State) : PointOff i (stopPoint i s) := by
  simp only [PointOff, stopPoint_safe, stopPoint_cp, stopPoint_psafe]
  by_cases h : s.psafe[i].st = .lockedOut <;> simp_all

theorem pointOff_stopPoint (i j : Fin 32) (s : State) (h : PointOff i s) : PointOff i (stopPoint j s) := by
  by_cases hj : j = i
  · exact hj ▸ pointOff_stopPoint_same j s
  · have hne : j.val ≠ i.val := fun e => hj (Fin.ext e)
    simpa [PointOff, stopPoint_safe, stopPoint_cp, stopPoint_psafe, Vector.getElem_set, hne] using h

theorem railOff_railOpen (cause : Nat) (s : State) : RailOff (railOpen cause s) := by
  obtain ⟨ha, hb, hoa, hob⟩ := railOpen_off cause s
  refine ⟨ha, hb, hoa, hob, fun i => ?_⟩
  exact foldl_reaches (P := fun _ => True) (Q := PointOff i) (mem_finList i) trivial (fun _ _ _ => trivial)
    (fun u _ => pointOff_stopPoint_same i u) (fun u j => pointOff_stopPoint i j u)

theorem railOpen_pst (cause : Nat) (s : State) (i : Fin 32) : (railOpen cause s).cp[i].pst = s.cp[i].pst := by
  unfold railOpen
  dsimp only
  rw [foldl_same (fun u => u.cp[i].pst)]
  · rw [(upd_raiseIf ..).cp rfl]
    rfl
  · intro u j
    by_cases hj : j = i
    · subst hj; simp [stopPoint_cp]
    · have hne : j.val ≠ i.val := fun e => hj (Fin.ext e)
      simp [stopPoint_cp, hne]

/-- The rail stays off where the safety part and the points' safety states stand and no close request appears. -/
theorem RailOff.of_eq {s t : State} (h : RailOff s) (hsafe : t.safe = s.safe) (hpsafe : t.psafe = s.psafe)
    (hcp : ∀ i : Fin 32, s.cp[i].closeReq = false → t.cp[i].closeReq = false) : RailOff t := by
  obtain ⟨ha, hb, hoa, hob, hp⟩ := h
  simp only [RailOff, hsafe, hpsafe]
  refine ⟨ha, hb, hoa, hob, fun i => ?_⟩
  obtain ⟨h1, h2, h3, h4⟩ := hp i
  exact ⟨h1, h2, hcp i h3, h4⟩

/-- With the rail off an open request has nothing to open. -/
theorem openReq_of_railOff {s : State} (i : Fin 32) (h : RailOff s) : openReq i s = s := by
  obtain ⟨_, _, _, _, hp⟩ := h
  obtain ⟨_, _, _, hst⟩ := hp i
  unfold openReq
  rcases hst with hst | hst
  · rw [hst]; rfl
  · rw [hst]; rfl

theorem sesEnd_psafe (i : Fin 32) (reason : Nat) {s : State} (h : RailOff s) : (sesEnd i reason s).psafe = s.psafe := by
  unfold sesEnd
  dsimp only [State.modSes_psafe]
  generalize (if endWaits s i then none else _ : Option BindNotice) = n
  cases n with
  | none => exact congrArg State.psafe (openReq_of_railOff i h)
  | some n =>
    dsimp only
    rw [openReq_of_railOff i (h.of_eq _ _ _)]
    all_goals simp [pushNotice]

theorem railOff_sesEnd (i : Fin 32) (reason : Nat) {s : State} (h : RailOff s) : RailOff (sesEnd i reason s) :=
  have hu := upd_sesEnd i reason s
  h.of_eq (hu.safe rfl) (sesEnd_psafe i reason h) (fun _ hc => by rwa [hu.cp rfl])

/-! What a restart of the hub leaves (03 R84, R85). -/

theorem upd_halosDown (s : State) : Upd [.meas] s ((finList 8).foldl (fun s (k : Fin 8) => haloDown k s) s) :=
  Upd.foldl (fun u k hu => .comp (upd_haloDown k u) rfl hu) (Upd.refl _ s)

theorem hubDown_parts (cause : Nat) (s : State) :
    (hubDown cause s).life = lifeDown cause s.life ∧ (hubDown cause s).clk = clkDown s.clk ∧ (hubDown cause s).keys = keysDown s.keys ∧
      (hubDown cause s).safe = safeDown s.safe ∧ (hubDown cause s).ses = Vector.replicate 32 {} ∧ (hubDown cause s).gates = {} ∧
      (hubDown cause s).pmet = vmap (fun x => { ({} : PtMet) with copyA := x.copyA, copyB := x.copyB }) s.pmet := by
  have h := upd_halosDown s
  rw [← h.life rfl, ← h.clk rfl, ← h.keys rfl, ← h.safe rfl, ← h.pmet rfl]
  unfold hubDown
  dsimp only
  generalize (finList 8).foldl (fun s (k : Fin 8) => haloDown k s) s = x
  refine ⟨?_, ?_, ?_, ?_, ?_, ?_, ?_⟩
  · exact foldl_same State.life _ _ _ fun _ _ => rfl
  · exact foldl_same State.clk _ _ _ fun _ _ => rfl
  · exact foldl_same State.keys _ _ _ fun _ _ => rfl
  · exact foldl_same State.safe _ _ _ fun _ _ => rfl
  · exact foldl_same State.ses _ _ _ fun _ _ => rfl
  · exact foldl_same State.gates _ _ _ fun _ _ => rfl
  · exact foldl_same State.pmet _ _ _ fun _ _ => rfl

theorem restarted_hubDown (cause : Nat) (s : State) : Restarted cause (hubDown cause s) := by
  obtain ⟨hlife, hclk, _, hsafe, hses, hgates, _⟩ := hubDown_parts cause s
  unfold Restarted
  rw [hlife, hclk, hsafe, hses, hgates]
  refine ⟨rfl, rfl, rfl, rfl, rfl, rfl, rfl, rfl, rfl, fun i => ⟨?_, ?_, ?_⟩, rfl⟩
  · exact Vector.getElem_replicate _
  · exact Vector.getElem_replicate _
  · exact Vector.getElem_replicate _

theorem vmap_getElem {α β : Type} {n : Nat} (f : α → β) (v : Vector α n) (i : Fin n) : (vmap f v)[i] = f v[i] := by
  simp [vmap]

/-! What MRAM holds of keys, life cycle and registers stands (01 R46, R48). -/

/-- The persistent key slots, the life-cycle cells and both copies of the registers of every point stand. -/
structure MramStands (s t : State) : Prop where
  slots : t.keys.slots = s.keys.slots
  cells : t.life.cells = s.life.cells
  copies : ∀ i : Fin 32, t.pmet[i].copyA = s.pmet[i].copyA ∧ t.pmet[i].copyB = s.pmet[i].copyB

theorem MramStands.trans {s t u : State} (h : MramStands s t) (k : MramStands t u) : MramStands s u :=
  ⟨k.slots.trans h.slots, k.cells.trans h.cells,
    fun i => ⟨(k.copies i).1.trans (h.copies i).1, (k.copies i).2.trans (h.copies i).2⟩⟩

theorem MramStands.of_eq {s t : State} (hk : t.keys.slots = s.keys.slots) (hl : t.life = s.life) (hp : t.pmet = s.pmet) : MramStands s t :=
  ⟨hk, by rw [hl], fun i => by rw [hp]; exact ⟨rfl, rfl⟩⟩

theorem Upd.mramStands {P : List Part} {s t : State} (h : Upd P s t) (hk : P.contains .keys = false) (hl : P.contains .life = false)
    (hp : P.contains .pmet = false) : MramStands s t :=
  .of_eq (by rw [h.keys hk]) (h.life hl) (h.pmet hp)

theorem mramStands_hubDown (cause : Nat) (s : State) : MramStands s (hubDown cause s) := by
  obtain ⟨hlife, _, hkeys, _, _, _, hpmet⟩ := hubDown_parts cause s
  exact ⟨by rw [hkeys]; rfl, by rw [hlife]; rfl, fun i => by rw [hpmet, vmap_getElem]; exact ⟨rfl, rfl⟩⟩

/-! An engine restarts alone (01 R47). -/

/-- The boundaries of the restarts alone of an engine within the last 3 000 cy. -/
def recentRestarts (e : EngineId) (s : State) : List Nat := s.eng.sts[engIdx e].restarts.filter fun b => decide (s.clk.bndTot < b + 3000)

/-- The state in which an engine that restarts alone clears its banks: the restart is noted, reported, and its row steps have ended. -/
def restartNoted (e : EngineId) (s : State) : State :=
  endRowSteps e (raise 0x9011 1 255 (srcOf e)
    (s.modEng fun x => { x with sts := x.sts.set (engIdx e) { missed := 0, restarts := s.clk.bndTot :: recentRestarts e s } }))

theorem restartAlone_of_few {e : EngineId} {s : State} (h : (recentRestarts e s).length < 4) :
    restartAlone e s = clearEngine e (restartNoted e s) :=
  if_neg (Nat.not_le.mpr h)

theorem restartAlone_of_four {e : EngineId} {s : State} (h : 4 ≤ (recentRestarts e s).length) : restartAlone e s = hubDown 4 s :=
  if_pos h

theorem upd_restartNoted (e : EngineId) (s : State) : Upd [.eng, .fab, .ev, .sen] s (restartNoted e s) :=
  .comp (upd_endRowSteps ..) rfl (.comp (upd_raise ..) rfl (.mono (upd_modEng ..) rfl))

theorem restartNoted_eng (e : EngineId) (s : State) : (restartNoted e s).eng =
    { s.eng with sts := s.eng.sts.set (engIdx e) { missed := 0, restarts := s.clk.bndTot :: recentRestarts e s } } := by
  unfold restartNoted
  rw [(upd_endRowSteps ..).eng rfl, raise_eng]
  rfl

/-- The engine has restarted alone: its heartbeat counts afresh and the restart is noted. -/
theorem clearEngine_restartNoted_sts (e : EngineId) (s : State) :
    (clearEngine e (restartNoted e s)).eng.sts[engIdx e].missed = 0 ∧
      s.clk.bndTot ∈ (clearEngine e (restartNoted e s)).eng.sts[engIdx e].restarts := by
  rw [(upd_clearEngine ..).eng rfl, restartNoted_eng]
  simp

/-! SES restarts (01 Table 1.11; 10 R368). -/

theorem closeContext_cp (i : Fin 32) (s : State) :
    (closeContext i s).cp = s.cp.set i { s.cp[i] with veh := none } := by
  unfold closeContext closeConn
  dsimp only [State.modCp_cp, State.modSes_cp, State.modSesSys_cp]
  rw [(upd_slacIdle ..).cp rfl]
  dsimp only [State.modCp_cp, State.modSes_cp, State.modSesSys_cp, State.modPlc_cp]
  rw [(upd_dropSesKeys ..).cp rfl, (upd_freeHandshake ..).cp rfl]
  simp

theorem closeContext_slots (i : Fin 32) (s : State) : (closeContext i s).keys.slots = s.keys.slots := by
  unfold closeContext closeConn
  dsimp only [State.modCp_keys, State.modSes_keys, State.modSesSys_keys]
  rw [(upd_slacIdle ..).keys rfl]
  dsimp only [State.modCp_keys, State.modSes_keys, State.modPlc_keys]
  change (freeHandshake i s).keys.slots = s.keys.slots
  rw [(upd_freeHandshake ..).keys rfl]

/-- What a restart of SES does to one point: its context closes, its pilot, link and authorisation are cleared, and it comes back
out-of-service (10 R368). -/
def sesRestartPoint (s : State) (i : Fin 32) : State :=
  let was := s.cp[i].pst
  let s := closeContext i s
  let s := s.modCp i fun x =>
    { ({} : PtCp) with service := x.service, sessions := x.sessions, lockFaults := x.lockFaults, cpFaults := x.cpFaults, returns := x.returns }
  let s := s.modPlc i fun _ => {}
  let s := s.modAuth i fun _ => {}
  if was = .absent then s
  else
    let s := s.modCp i fun x => { x with pst := .outOfService, pstAt := s.clk.count, outSince := s.clk.bndTot }
    raiseIf (was != .outOfService) 0x4102 4 i.val 2 s

/-- A restart of SES goes through the points and then through what SES holds of the hub. -/
theorem sesRestart_eq (s : State) :
    sesRestart s = ((((finList 32).foldl sesRestartPoint s).modSesSys fun y => { y with admission := [], handshakes := [] }).modKeys
      fun k => { k with trans := k.trans.filter fun t => t.owner != EngineId.ses
                        queue := k.queue.filter fun j => j.owner != EngHalf.ses }).modAuthSys fun a => { a with result := [] } := by
  unfold sesRestart sesRestartPoint
  rfl

theorem sesRestart_cp (s : State) : (sesRestart s).cp = ((finList 32).foldl sesRestartPoint s).cp := by
  simp only [sesRestart_eq, State.modAuthSys_cp, State.modKeys_cp, State.modSesSys_cp]

theorem sesRestartPoint_cp_other {i j : Fin 32} (s : State) (h : j ≠ i) : (sesRestartPoint s i).cp[j] = s.cp[j] := by
  have hne : i.val ≠ j.val := fun e => h (Fin.ext e.symm)
  unfold sesRestartPoint
  dsimp only
  split <;> simp [closeContext_cp, hne]

theorem sesRestartPoint_pst_same (s : State) (i : Fin 32) (h : s.cp[i].pst ≠ .absent) : (sesRestartPoint s i).cp[i].pst = .outOfService := by
  unfold sesRestartPoint
  dsimp only
  rw [if_neg h]
  simp

theorem sesRestartPoint_closeReq_same (s : State) (i : Fin 32) : (sesRestartPoint s i).cp[i].closeReq = false := by
  unfold sesRestartPoint
  dsimp only
  split <;> simp

theorem sesRestartPoint_slots (s : State) (i : Fin 32) : (sesRestartPoint s i).keys.slots = s.keys.slots := by
  unfold sesRestartPoint
  dsimp only
  split <;> simp [closeContext_slots]

/-- A property of one point's pilot record that holds after the point's own restart is kept by the restarts of the points. -/
theorem sesRestartPoint_keeps {p : PtCp → Prop} {i : Fin 32} {s : State} (hset : p s.cp[i] → p (sesRestartPoint s i).cp[i]) (j : Fin 32)
    (h : p s.cp[i]) : p (sesRestartPoint s j).cp[i] := by
  by_cases hj : j = i
  · exact hj ▸ hset h
  · rwa [sesRestartPoint_cp_other s (Ne.symm hj)]

theorem sesRestart_pst (s : State) (i : Fin 32) (h : s.cp[i].pst ≠ .absent) : (sesRestart s).cp[i].pst = .outOfService := by
  rw [sesRestart_cp]
  refine foldl_reaches (P := fun u => u.cp[i].pst ≠ .absent) (Q := fun u => u.cp[i].pst = .outOfService) (mem_finList i) h ?_
    (fun u => sesRestartPoint_pst_same u i) ?_
  · exact fun u j => sesRestartPoint_keeps (p := fun x => x.pst ≠ .absent) (fun hu => by rw [sesRestartPoint_pst_same u i hu]; decide) j
  · exact fun u j => sesRestartPoint_keeps (p := fun x => x.pst = .outOfService)
      (fun hu => sesRestartPoint_pst_same u i (by rw [hu]; decide)) j

theorem sesRestart_closeReq (s : State) (i : Fin 32) : (sesRestart s).cp[i].closeReq = false := by
  rw [sesRestart_cp]
  exact foldl_reaches (P := fun _ => True) (Q := fun u => u.cp[i].closeReq = false) (mem_finList i) trivial (fun _ _ _ => trivial)
    (fun u _ => sesRestartPoint_closeReq_same u i)
    (fun u j => sesRestartPoint_keeps (p := fun x => x.closeReq = false) (fun _ => sesRestartPoint_closeReq_same u i) j)

theorem sesRestart_slots (s : State) : (sesRestart s).keys.slots = s.keys.slots := by
  simp only [sesRestart_eq, State.modAuthSys_keys, State.modKeys_keys, State.modSesSys_keys]
  exact foldl_same (fun u => u.keys.slots) sesRestartPoint _ _ fun u i => sesRestartPoint_slots u i

theorem mramStands_sesRestart (s : State) : MramStands s (sesRestart s) :=
  have hu := upd_sesRestart s
  .of_eq (sesRestart_slots s) (hu.life rfl) (hu.pmet rfl)

theorem mramStands_clearEngine (e : EngineId) (s : State) : MramStands s (clearEngine e s) := by
  cases e with
  | ses => exact mramStands_sesRestart s
  | lnk => exact (upd_linkReset s).mramStands rfl rfl rfl
  | dsp =>
    unfold clearEngine
    dsimp only
    split
    · exact (upd_epdRelease ..).mramStands rfl rfl rfl
    · exact (upd_epdRom ..).mramStands rfl rfl rfl
  | boot | met | led | sen | rdo => exact .of_eq rfl rfl rfl

theorem mramStands_restartAlone (e : EngineId) (s : State) : MramStands s (restartAlone e s) := by
  by_cases h : (recentRestarts e s).length < 4
  · rw [restartAlone_of_few h]
    exact ((upd_restartNoted e s).mramStands rfl rfl rfl).trans (mramStands_clearEngine e _)
  · rw [restartAlone_of_four (by omega)]
    exact mramStands_hubDown 4 s

end Sys2Proof.Machine
end

section
/-! PROOF. Lost heartbeats, engine by engine, and cross-world writes (01 R25, R46 to R48, Table 1.11). -/

namespace Sys2Proof.Machine

/-! The reaction to a lost heartbeat, engine by engine (01 Table 1.11). -/

/-- The loss of an engine is reported. -/
def lossNoted (e : EngineId) (s : State) : State := raise 0x9010 0x10 255 (srcOf e) s

/-- BOOT, MET or LED is lost: the rail is off with cause 0x20. -/
def hubLost (e : EngineId) (s : State) : State := railOpen 0x20 ((lossNoted e s).modSafe fun x => { x with railCause := 0x20 })

/-- SES is lost: the rail is off with cause 0x20 and every binding that is open or on its way ends with reason 8. -/
def sesLost (s : State) : State :=
  (finList 32).foldl (fun s (i : Fin 32) => if bound s i || (startWaits s i).isSome then sesEnd i 8 s else s)
    (railOpen 0x20 ((lossNoted .ses s).modSafe fun x => { x with railCause := 0x20, rearm := true }))

theorem engineLost_ses (s : State) : engineLost .ses s = restartAlone .ses (sesLost s) := rfl

theorem engineLost_hub {e : EngineId} (h : e = .boot ∨ e = .met ∨ e = .led) (s : State) : engineLost e s = hubDown 3 (hubLost e s) := by
  rcases h with rfl | rfl | rfl <;> rfl

theorem engineLost_alone {e : EngineId} (h : e = .lnk ∨ e = .rdo ∨ e = .dsp) (s : State) : engineLost e s = restartAlone e (lossNoted e s) := by
  rcases h with rfl | rfl | rfl <;> rfl

theorem upd_lossNoted (e : EngineId) (s : State) : Upd [.ev, .sen] s (lossNoted e s) := upd_raise ..

theorem upd_hubLost (e : EngineId) (s : State) : Upd [.safe, .psafe, .cp, .ev, .sen] s (hubLost e s) :=
  .comp (upd_railOpen ..) rfl (.comp (upd_modSafe ..) rfl (.mono (upd_lossNoted ..) rfl))

theorem upd_sesLost (s : State) : Upd [.safe, .psafe, .cp, .ev, .sen, .gates, .ses] s (sesLost s) := by
  refine Upd.foldl (fun u i hu => .ite (.comp (upd_sesEnd ..) rfl hu) hu) ?_
  exact .comp (upd_railOpen ..) rfl (.comp (upd_modSafe ..) rfl (.mono (upd_lossNoted ..) rfl))

theorem railOff_sesLost (s : State) : RailOff (sesLost s) :=
  List.foldlRecOn _ _ (railOff_railOpen ..) fun u h i _ => by
    split
    · exact railOff_sesEnd i 8 h
    · exact h

theorem sesLost_pst (s : State) (i : Fin 32) : (sesLost s).cp[i].pst = s.cp[i].pst := by
  unfold sesLost
  rw [foldl_same State.cp]
  · rw [railOpen_pst, State.modSafe_cp, (upd_lossNoted ..).cp rfl]
  · intro u j
    split
    · exact (upd_sesEnd ..).cp rfl
    · rfl

theorem sesLost_railCause (s : State) : (sesLost s).safe.railCause = 0x20 := by
  unfold sesLost
  rw [foldl_same State.safe]
  · exact railOpen_keeps (fun x => x.railCause) _ _ (fun _ _ _ => rfl) (fun _ => rfl)
  · intro u j
    split
    · exact (upd_sesEnd ..).safe rfl
    · rfl

theorem mramStands_engineLost (e : EngineId) (s : State) : MramStands s (engineLost e s) := by
  have hnote := (upd_lossNoted e s).mramStands rfl rfl rfl
  cases e with
  | boot | met | led =>
    rw [engineLost_hub (by decide)]
    exact ((upd_hubLost _ s).mramStands rfl rfl rfl).trans (mramStands_hubDown 3 _)
  | ses => exact ((upd_sesLost s).mramStands rfl rfl rfl).trans (mramStands_restartAlone .ses _)
  | lnk | rdo | dsp =>
    rw [engineLost_alone (by decide)]
    exact hnote.trans (mramStands_restartAlone _ _)
  | sen => exact hnote

/-- The heartbeat that an engine missed is taken as lost: it counts afresh. -/
def heartbeatTaken (e : EngineId) (s : State) : State :=
  s.modEng fun x => { x with sts := x.sts.set (engIdx e) { x.sts[engIdx e] with missed := 0 } }

theorem exec_heartbeatLost_due {e : EngineId} {s : State} (hr : engRuns s.life.cond e = true) (hm : 3 ≤ s.eng.sts[engIdx e].missed) :
    exec (.heartbeatLost e) s = .next (engineLost e (heartbeatTaken e s)) := by
  change execHeartbeatLost e s = _
  unfold execHeartbeatLost
  rw [if_pos (by rw [hr, decide_eq_true hm]; rfl)]
  rfl

theorem exec_heartbeatLost_idle {e : EngineId} {s : State} (h : engRuns s.life.cond e = false ∨ s.eng.sts[engIdx e].missed < 3) :
    exec (.heartbeatLost e) s = .next s := by
  change execHeartbeatLost e s = _
  unfold execHeartbeatLost
  rw [if_neg]
  rcases h with h | h
  · simp [h]
  · rw [decide_eq_false (by omega), Bool.and_false]
    exact Bool.false_ne_true

theorem upd_heartbeatTaken (e : EngineId) (s : State) : Upd [.eng] s (heartbeatTaken e s) := upd_modEng ..

theorem recentRestarts_congr {e : EngineId} {s t : State} (he : t.eng.sts[engIdx e].restarts = s.eng.sts[engIdx e].restarts) (hc : t.clk = s.clk) :
    recentRestarts e t = recentRestarts e s := by
  unfold recentRestarts
  rw [he, hc]

theorem heartbeatTaken_restarts (e : EngineId) (s : State) :
    (heartbeatTaken e s).eng.sts[engIdx e].restarts = s.eng.sts[engIdx e].restarts := by
  simp [heartbeatTaken]

theorem recentRestarts_lossNoted (e : EngineId) (s : State) : recentRestarts e (lossNoted e (heartbeatTaken e s)) = recentRestarts e s :=
  recentRestarts_congr (by rw [(upd_lossNoted ..).eng rfl, heartbeatTaken_restarts]) ((upd_lossNoted ..).clk rfl)

theorem recentRestarts_sesLost (s : State) : recentRestarts .ses (sesLost (heartbeatTaken .ses s)) = recentRestarts .ses s :=
  recentRestarts_congr (by rw [(upd_sesLost ..).eng rfl, heartbeatTaken_restarts]) ((upd_sesLost ..).clk rfl)

theorem upd_engineLost_taken (e : EngineId) (s : State) : Upd restartParts s (engineLost e (heartbeatTaken e s)) :=
  .comp (upd_engineLost ..) rfl (.mono (upd_heartbeatTaken ..) rfl)

/-- BOOT, MET or LED is lost: the hub restarts with cause 3, and what MRAM holds stands. -/
theorem heartbeatLost_restarts_hub {e : EngineId} {s : State} (he : e = .boot ∨ e = .met ∨ e = .led) (hr : engRuns s.life.cond e = true)
    (hm : 3 ≤ s.eng.sts[engIdx e].missed) :
    Does (.heartbeatLost e) s restartParts fun t => Restarted 3 t ∧ t.keys.slots = s.keys.slots ∧ t.life.cells = s.life.cells := by
  refine ⟨_, exec_heartbeatLost_due hr hm, upd_engineLost_taken e s, ?_, ?_⟩
  · rw [engineLost_hub he]
    exact restarted_hubDown 3 _
  · have h := ((upd_heartbeatTaken e s).mramStands rfl rfl rfl).trans (mramStands_engineLost e _)
    exact ⟨h.slots, h.cells⟩

/-- LNK, RDO or DSP is lost for the fifth time within 3 000 cy: the hub restarts with cause 4 (01 R47). -/
theorem heartbeatLost_fifth_restarts_hub {e : EngineId} {s : State} (he : e = .lnk ∨ e = .rdo ∨ e = .dsp) (hr : engRuns s.life.cond e = true)
    (hm : 3 ≤ s.eng.sts[engIdx e].missed) (hf : 4 ≤ (recentRestarts e s).length) :
    Does (.heartbeatLost e) s restartParts fun t => Restarted 4 t := by
  refine ⟨_, exec_heartbeatLost_due hr hm, upd_engineLost_taken e s, ?_⟩
  rw [engineLost_alone he, restartAlone_of_four (by rwa [recentRestarts_lossNoted])]
  exact restarted_hubDown 4 _

/-- An engine other than SES is lost for at most the fourth time within 3 000 cy: it restarts alone. -/
theorem exec_heartbeatLost_alone {e : EngineId} {s : State} (he : e = .lnk ∨ e = .rdo ∨ e = .dsp) (hr : engRuns s.life.cond e = true)
    (hm : 3 ≤ s.eng.sts[engIdx e].missed) (hf : (recentRestarts e s).length < 4) :
    exec (.heartbeatLost e) s = .next (clearEngine e (restartNoted e (lossNoted e (heartbeatTaken e s)))) := by
  rw [exec_heartbeatLost_due hr hm, engineLost_alone he, restartAlone_of_few (by rwa [recentRestarts_lossNoted])]

theorem upd_restartNoted_lossNoted (e : EngineId) (s : State) :
    Upd [.eng, .fab, .ev, .sen] s (restartNoted e (lossNoted e (heartbeatTaken e s))) :=
  .comp (upd_restartNoted ..) rfl (.comp (upd_lossNoted ..) rfl (.mono (upd_heartbeatTaken ..) rfl))

/-- The heartbeat of the engine counts afresh and its restart is noted. -/
theorem restartNoted_lossNoted_sts (e : EngineId) (s : State) :
    (clearEngine e (restartNoted e (lossNoted e (heartbeatTaken e s)))).eng.sts[engIdx e].missed = 0 ∧
      s.clk.bndTot ∈ (clearEngine e (restartNoted e (lossNoted e (heartbeatTaken e s)))).eng.sts[engIdx e].restarts := by
  have h := clearEngine_restartNoted_sts e (lossNoted e (heartbeatTaken e s))
  rwa [(upd_lossNoted ..).clk rfl] at h

theorem linkReset_st (s : State) : (linkReset s).lnk.st = .listen := by
  unfold linkReset
  rw [(upd_shareReset ..).lnk rfl]
  rfl

theorem upd_clearEngine_rdo_dsp {e : EngineId} (h : e = .rdo ∨ e = .dsp) (s : State) :
    Upd [.mbus, .tag, .epd, .ev, .sen] s (clearEngine e s) := by
  rcases h with rfl | rfl
  · unfold clearEngine
    exact .comp (upd_modTag _ _ fun _ h => h) rfl (.mono (upd_modMbus ..) rfl)
  · unfold clearEngine
    exact .ite ((upd_epdRelease ..).mono rfl) ((upd_epdRom ..).mono rfl)

theorem heartbeatLost_restarts_lnk {s : State} (hr : engRuns s.life.cond .lnk = true) (hm : 3 ≤ s.eng.sts[engIdx .lnk].missed)
    (hf : (recentRestarts .lnk s).length < 4) :
    Does (.heartbeatLost .lnk) s [.eng, .phy, .lnk, .share, .fab, .ev, .sen] fun t =>
      t.lnk.st = .listen ∧ t.eng.sts[engIdx .lnk].missed = 0 ∧ s.clk.bndTot ∈ t.eng.sts[engIdx .lnk].restarts :=
  ⟨_, exec_heartbeatLost_alone (by decide) hr hm hf, .comp (upd_linkReset _) rfl ((upd_restartNoted_lossNoted .lnk s).mono rfl),
    linkReset_st _, restartNoted_lossNoted_sts .lnk s⟩

theorem heartbeatLost_restarts_rdo_dsp {e : EngineId} {s : State} (he : e = .rdo ∨ e = .dsp) (hr : engRuns s.life.cond e = true)
    (hm : 3 ≤ s.eng.sts[engIdx e].missed) (hf : (recentRestarts e s).length < 4) :
    Does (.heartbeatLost e) s [.eng, .mbus, .tag, .epd, .fab, .ev, .sen] fun t =>
      t.eng.sts[engIdx e].missed = 0 ∧ s.clk.bndTot ∈ t.eng.sts[engIdx e].restarts :=
  ⟨_, exec_heartbeatLost_alone (.inr he) hr hm hf, .comp (upd_clearEngine_rdo_dsp he _) rfl ((upd_restartNoted_lossNoted e s).mono rfl),
    restartNoted_lossNoted_sts e s⟩

/-- SES is lost: the rail is off with cause 0x20, SES restarts alone and its points come back out-of-service. -/
theorem heartbeatLost_restarts_ses {s : State} (hr : engRuns s.life.cond .ses = true) (hm : 3 ≤ s.eng.sts[engIdx .ses].missed)
    (hf : (recentRestarts .ses s).length < 4) :
    Does (.heartbeatLost .ses) s [.eng, .gates, .keys, .ports, .safe, .psafe, .cp, .plc, .ses, .sesSys, .auth, .authSys, .fab, .ev, .sen] fun t =>
      RailOff t ∧ t.safe.railCause = 0x20 ∧ (∀ i : Fin 32, s.cp[i].pst ≠ .absent → t.cp[i].pst = .outOfService) ∧
        t.eng.sts[engIdx .ses].missed = 0 ∧ s.clk.bndTot ∈ t.eng.sts[engIdx .ses].restarts := by
  have hlost := upd_sesLost (heartbeatTaken .ses s)
  have hnote := upd_restartNoted .ses (sesLost (heartbeatTaken .ses s))
  have hclear := upd_sesRestart (restartNoted .ses (sesLost (heartbeatTaken .ses s)))
  refine ⟨clearEngine .ses (restartNoted .ses (sesLost (heartbeatTaken .ses s))), ?_, ?_, ?_, ?_, ?_, ?_⟩
  · rw [exec_heartbeatLost_due hr hm, engineLost_ses, restartAlone_of_few (by rwa [recentRestarts_sesLost])]
  · exact .comp hclear rfl (.comp hnote rfl (.comp hlost rfl (.mono (upd_heartbeatTaken ..) rfl)))
  · exact (railOff_sesLost (heartbeatTaken .ses s)).of_eq ((hclear.safe rfl).trans (hnote.safe rfl)) ((hclear.psafe rfl).trans (hnote.psafe rfl))
      (fun i _ => sesRestart_closeReq _ i)
  · exact (congrArg Safe.railCause ((hclear.safe rfl).trans (hnote.safe rfl))).trans (sesLost_railCause _)
  · intro i hi
    exact sesRestart_pst _ i (by rwa [hnote.cp rfl, sesLost_pst])
  · have h := clearEngine_restartNoted_sts .ses (sesLost (heartbeatTaken .ses s))
    rwa [hlost.clk rfl] at h

/-! A cross-world write (01 R25, R48). -/

/-- The write is blocked, counted and reported with the engine and the low 32 bits of the address. -/
def writeBlocked (e : EngineId) (addr : Nat) (s : State) : State :=
  raise 0x6001 (srcOf e) 255 (addr % 2 ^ 32) (s.modEng fun x => { x with blockedWrites := x.blockedWrites + 1 })

theorem upd_writeBlocked (e : EngineId) (addr : Nat) (s : State) : Upd [.eng, .ev, .sen] s (writeBlocked e addr s) :=
  .comp (upd_raise ..) rfl (.mono (upd_modEng ..) rfl)

theorem exec_crossWorldWrite_comm {e : EngineId} {addr : Nat} {s : State} (he : e = .ses ∨ e = .lnk ∨ e = .rdo ∨ e = .dsp)
    (hr : engRuns s.life.cond e = true) : exec (.crossWorldWrite e addr) s = .next (engineLost e (writeBlocked e addr s)) := by
  change execCrossWorldWrite e addr s = _
  unfold execCrossWorldWrite writeBlocked
  simp only [hr, Bool.not_true, Bool.false_eq_true, if_false]
  rcases he with rfl | rfl | rfl | rfl <;> rfl

theorem exec_crossWorldWrite_idle {e : EngineId} {addr : Nat} {s : State}
    (h : engRuns s.life.cond e = false ∨ e = .boot ∨ e = .met ∨ e = .led) : exec (.crossWorldWrite e addr) s = .next s := by
  change execCrossWorldWrite e addr s = _
  unfold execCrossWorldWrite
  rcases h with h | rfl | rfl | rfl
  · rw [h]; rfl
  all_goals exact congrArg _ (ite_self s)

theorem crossWorldWrite_blocked {e : EngineId} {addr : Nat} {s : State} (he : e = .ses ∨ e = .lnk ∨ e = .rdo ∨ e = .dsp)
    (hr : engRuns s.life.cond e = true) :
    Does (.crossWorldWrite e addr) s restartParts fun t =>
      t = engineLost e (writeBlocked e addr s) ∧ t.keys.slots = s.keys.slots ∧
        ∀ i : Fin 32, t.pmet[i].copyA = s.pmet[i].copyA ∧ t.pmet[i].copyB = s.pmet[i].copyB := by
  have hb := upd_writeBlocked e addr s
  have hm := (hb.mramStands rfl rfl rfl).trans (mramStands_engineLost e _)
  exact ⟨_, exec_crossWorldWrite_comm he hr, .comp (upd_engineLost ..) rfl (hb.mono rfl), rfl, hm.slots, hm.copies⟩

/-- Settles O1: each clause is the reaction of its engines to the loss, or of the write gate to the write. -/
theorem engineErrorsAndBlockedWrites : Obligations.EngineErrorsAndBlockedWrites := by
  unfold Obligations.EngineErrorsAndBlockedWrites
  refine ⟨?_, ?_, ?_, ?_, ?_, ?_, ?_, ?_⟩
  · exact fun _ _ he hr hm => heartbeatLost_restarts_hub he hr hm
  · exact fun _ hr hm hf => heartbeatLost_restarts_ses hr hm hf
  · exact fun _ hr hm hf => heartbeatLost_restarts_lnk hr hm hf
  · exact fun _ _ he hr hm hf => heartbeatLost_restarts_rdo_dsp he hr hm hf
  · exact fun _ _ he hr hm hf => heartbeatLost_fifth_restarts_hub he hr hm hf
  · exact fun _ _ h => exec_heartbeatLost_idle h
  · exact fun _ _ _ he hr => crossWorldWrite_blocked he hr
  · exact fun _ _ _ h => exec_crossWorldWrite_idle h

end Sys2Proof.Machine
end

section
/-! SUPPORT. Events raised beside a change of the clock, and what the end of ACQUIRE leaves (02 R59, Table 2.1). -/

namespace Sys2Proof.Machine

/-- A change of the clock that leaves its start, count and boundaries changes nothing of what an event leaves in the event unit. -/
theorem raise_ev_modClk {code src pt arg : Nat} {f : Clk → Clk} {s : State} (hstarted : (f s.clk).started = s.clk.started)
    (hcount : (f s.clk).count = s.clk.count) (hbnd : (f s.clk).bndTot = s.clk.bndTot) :
    (raise code src pt arg (s.modClk f)).ev = (raise code src pt arg s).ev :=
  raise_ev_congr rfl rfl hstarted hcount hbnd rfl

theorem clockStarted_clk (st : ClkState) (base : Rat) (s : State) : (clockStarted st base s).clk =
    { s.clk with state := st, base, lenCur := base, lenNext := none, slips := 0, good := 0, consistent := 0, err := 0
                 fails := 0, failedN := none, outRun := 0, intervals := [] } := by
  simp [clockStarted]

theorem clockStarted_c0 (st : ClkState) (base : Rat) (s : State) : (clockStarted st base s).life.c0 =
    firstCount s.clk.ckpt s.sen.rtcS s.sen.rtcSub s.sen.rtcValid s.clk.fnom := by
  simp [clockStarted]

theorem clockStarted_ev (st : ClkState) (base : Rat) (s : State) : (clockStarted st base s).ev =
    (raise 0x7118 1 255 ((if st = .locked then 1 else 3) * 16 + srcNum s.clk.src) s).ev :=
  raise_ev_congr rfl rfl rfl rfl rfl rfl

end Sys2Proof.Machine
end

section
/-! PROOF. Qualifying crossings on the source: the steering by the loop law and the runs of eight (02 R53 to R56, Table 2.1). -/

namespace Sys2Proof.Machine

/-! Number and error of a crossing, and the length that it sets (02 R53, R54). -/

/-- The position of a crossing gives back its number and its error (02 R53). -/
theorem crossAt_of_position {pos n e : Int} {o : Nat} (hpos : pos = n * 65536 + o + e) (hlo : -32768 ≤ e) (hhi : e < 32768) :
    crossAt pos o = (n, e) := by
  have hn : (pos - o + 32768) / 65536 = n := by omega
  simp only [crossAt, hn, Prod.mk.injEq, true_and]
  omega

theorem setLen_eq (n : Int) (len : Rat) (c : Clk) : setLen n len c =
    { c with lenNext := if (c.count : Int) < n then some len else c.lenNext
             lenCur := if (c.count : Int) < n then c.lenCur else len } := by
  unfold setLen
  split <;> rfl

theorem steer_eq (n e : Int) (c : Clk) : steer n e c =
    { c with base := loopBase c.base e
             lenNext := if (c.count : Int) < n then some (loopLen c.base e) else c.lenNext
             lenCur := if (c.count : Int) < n then c.lenCur else loopLen c.base e } := by
  rw [steer, setLen_eq]

theorem loopLen_eq (base : Rat) (e : Int) : loopLen base e = base + base * e / (2 * 65536) := by
  rw [loopLen, show (2 * 65536 : Rat) = 131072 by with_unfolding_all decide]

theorem loopBase_eq (base : Rat) (e : Int) : loopBase base e = clampBase (base + base * e / (16 * 65536)) := by
  rw [loopBase, show (16 * 65536 : Rat) = 1048576 by with_unfolding_all decide]

/-! What a crossing does, by the state of the clock (02 Table 2.1). -/

theorem enterLocked_clk (s : State) : (enterLocked s).clk = { s.clk with state := .locked, outRun := 0, slips := 0 } := by
  simp [enterLocked]

theorem enterLocked_ev (s : State) : (enterLocked s).ev = (raise 0x7111 1 255 (min s.clk.outRun (2 ^ 32 - 1)) s).ev :=
  raise_ev_modClk rfl rfl rfl

/-- Whether a crossing on the source is consistent; one without an interval is (02 R55). -/
def consistentCrossing (base : Rat) : Option Rat → Bool
  | some d => consistentIv base d
  | none => true

/-- The state in which the run of consistent crossings has taken a crossing (02 R55). -/
def runNoted (iv : Option Rat) (s : State) : State :=
  s.modClk fun c => { c with consistent := if consistentCrossing s.clk.base iv then min 8 (c.consistent + 1) else 1 }

/-- The state in which crossing n of error e is noted as good (02 R53). -/
def goodNoted (n e : Int) (s : State) : State :=
  s.modClk fun c => { c with expect := (n + 1).toNat, err := e, slips := 0, good := min 8 (c.good + 1), fails := 0, failedN := none }

theorem sourceCrossing_good {iv : Option Rat} {pos n e : Int} {o : Nat} {s : State} (hat : crossAt pos o = (n, e)) (hlo : -2048 ≤ e)
    (hhi : e ≤ 2048) (hn : (s.clk.expect : Int) ≤ n) : sourceCrossing iv pos o s = goodCrossing n e (runNoted iv s) := by
  unfold sourceCrossing
  simp only [hat]
  rw [if_pos (by simp [hlo, hhi])]
  exact if_pos hn

theorem sourceCrossing_outside {iv : Option Rat} {pos n e : Int} {o : Nat} {s : State} (hat : crossAt pos o = (n, e))
    (he : e < -2048 ∨ 2048 < e) :
    sourceCrossing iv pos o s = outsideCrossing n e (consistentCrossing s.clk.base iv) (runNoted iv s) := by
  unfold sourceCrossing
  simp only [hat]
  exact if_neg (by simp; omega)

/-- The state in which a good crossing has steered the clock by the loop law (02 R54). -/
def steered (n e : Int) (s : State) : State := (goodNoted n e s).modClk (steer n e)

theorem steered_clk (n e : Int) (s : State) : (steered n e s).clk =
    { s.clk with
      expect := (n + 1).toNat, err := e, slips := 0, good := min 8 (s.clk.good + 1), fails := 0, failedN := none
      base := loopBase s.clk.base e
      lenNext := if (s.clk.count : Int) < n then some (loopLen s.clk.base e) else s.clk.lenNext
      lenCur := if (s.clk.count : Int) < n then s.clk.lenCur else loopLen s.clk.base e } :=
  steer_eq ..

theorem upd_runNoted (iv : Option Rat) (s : State) : Upd [.clk] s (runNoted iv s) := upd_modClk ..

theorem upd_steered (n e : Int) (s : State) : Upd [.clk] s (steered n e s) := .comp (upd_modClk ..) rfl (upd_modClk ..)

theorem goodCrossing_locked {n e : Int} {s : State} (h : s.clk.state = .locked) : goodCrossing n e s = steered n e s := by
  unfold goodCrossing
  simp only [State.modClk_clk, h]
  rfl

theorem goodCrossing_eighth {n e : Int} {s : State} (h : s.clk.state = .holdover ∨ s.clk.state = .free ∨ s.clk.state = .pullIn)
    (hg : s.clk.good = 7) : goodCrossing n e s = enterLocked (steered n e s) := by
  unfold goodCrossing
  rcases h with h | h | h <;> simp [h, hg, steered, goodNoted, steer_eq]

/-- The state in which crossing n of error e has entered PULL-IN (02 Table 2.1). -/
def pulledIn (n e : Int) (s : State) : State :=
  (s.modClk fun c => { c with state := .pullIn, pullFromFree := c.state == .free, fails := 0, good := 0
                              failedN := some n.toNat }).modClk fun c => setLen n (pullLen c.base e) c

theorem upd_pulledIn (n e : Int) (s : State) : Upd [.clk] s (pulledIn n e s) := .comp (upd_modClk ..) rfl (upd_modClk ..)

theorem pulledIn_clk (n e : Int) (s : State) : (pulledIn n e s).clk =
    { s.clk with
      state := .pullIn, pullFromFree := s.clk.state == .free, fails := 0, good := 0, failedN := some n.toNat
      lenNext := if (s.clk.count : Int) < n then some (pullLen s.clk.base e) else s.clk.lenNext
      lenCur := if (s.clk.count : Int) < n then s.clk.lenCur else pullLen s.clk.base e } :=
  setLen_eq ..

theorem outsideCrossing_eighth {n e : Int} {s : State} (h : s.clk.state = .holdover ∨ s.clk.state = .free) (hc : s.clk.consistent = 8) :
    outsideCrossing n e true s = raise 0x7113 1 255 (twos 32 e) (pulledIn n e s) := by
  unfold outsideCrossing
  rcases h with h | h <;> simp [h, hc, pulledIn]

/-- The eighth consistent interval in ACQUIRE starts the clock in LOCKED on the mean of the last seven (02 R55, R59). -/
theorem acquireCrossing_eighth {d p : Rat} {rest : List Rat} {s : State} (hc : s.clk.consistent = 7) (hi : s.clk.intervals = p :: rest)
    (hin : inLock d = true) (hlo : d - p ≤ p * 2048 / 65536) (hhi : p - d ≤ p * 2048 / 65536) :
    acquireCrossing (some d) s = clockStarted .locked (clampBase (meanLen ((d :: p :: rest).take 7)))
      (s.modClk fun c => { c with consistent := c.consistent + 1, intervals := (d :: p :: rest).take 7 }) := by
  simp [acquireCrossing, hc, hi, hin, hlo, hhi]

/-! A crossing n of error e on the source of a started clock (02 R53). -/

section
variable {inp : MsIn} {iv : Option Rat} {phase : Nat} {n e : Int} {s : State} (hp : s.clk.present inp = true) (hs : s.clk.started = true)
  (hsrc : s.clk.src = inSrc inp)
  (hpos : (s.clk.count : Int) * 65536 + phase + msTrim s inp = n * 65536 + srcOffset s.clk.rotNeg inp + e)
include hp hs hsrc

theorem exec_zeroCrossing_source (hst : s.clk.state ≠ .acquire) :
    exec (.zeroCrossing inp iv phase) s =
      .next (sourceCrossing iv ((s.clk.count : Int) * 65536 + phase + msTrim s inp) (srcOffset s.clk.rotNeg inp) s) := by
  change execZeroCrossing inp iv phase s = _
  simp [execZeroCrossing, hp, hs, hsrc, hst]

include hpos

theorem exec_zeroCrossing_good (hn : (s.clk.expect : Int) ≤ n) (hlo : -2048 ≤ e) (hhi : e ≤ 2048) (hst : s.clk.state ≠ .acquire) :
    exec (.zeroCrossing inp iv phase) s = .next (goodCrossing n e (runNoted iv s)) := by
  rw [exec_zeroCrossing_source hp hs hsrc hst, sourceCrossing_good (crossAt_of_position hpos (by omega) (by omega)) hlo hhi hn]

theorem zeroCrossing_good_locked (hn : (s.clk.expect : Int) ≤ n) (hlo : -2048 ≤ e) (hhi : e ≤ 2048) (hst : s.clk.state = .locked) :
    Does (.zeroCrossing inp iv phase) s [.clk] fun t =>
      t.clk.state = .locked ∧ t.clk.err = e ∧ t.clk.slips = 0 ∧ t.clk.good = min 8 (s.clk.good + 1) ∧
        t.clk.base = clampBase (s.clk.base + s.clk.base * e / (16 * 65536)) ∧
        (if (s.clk.count : Int) < n then
          t.clk.lenNext = some (s.clk.base + s.clk.base * e / (2 * 65536)) ∧ t.clk.lenCur = s.clk.lenCur
        else t.clk.lenCur = s.clk.base + s.clk.base * e / (2 * 65536) ∧ t.clk.lenNext = s.clk.lenNext) := by
  have hexec := exec_zeroCrossing_good (iv := iv) hp hs hsrc hpos hn hlo hhi (by simp [hst])
  rw [goodCrossing_locked (show (runNoted iv s).clk.state = .locked from hst)] at hexec
  refine ⟨_, hexec, .comp (upd_steered ..) rfl (upd_runNoted ..), ?_⟩
  rw [← loopBase_eq, ← loopLen_eq]
  dsimp only
  rw [steered_clk]
  refine ⟨hst, rfl, rfl, rfl, rfl, ?_⟩
  by_cases hcn : (s.clk.count : Int) < n
  · exact (if_pos hcn).mpr ⟨if_pos hcn, if_pos hcn⟩
  · exact (if_neg hcn).mpr ⟨if_neg hcn, if_neg hcn⟩

theorem zeroCrossing_eighth_good (hn : (s.clk.expect : Int) ≤ n) (hlo : -2048 ≤ e) (hhi : e ≤ 2048)
    (hst : s.clk.state = .holdover ∨ s.clk.state = .free ∨ s.clk.state = .pullIn) (hg : s.clk.good = 7) :
    Does (.zeroCrossing inp iv phase) s [.clk, .ev, .sen] fun t =>
      t.clk.state = .locked ∧ t.clk.err = e ∧ t.clk.base = clampBase (s.clk.base + s.clk.base * e / (16 * 65536)) ∧
        t.ev = (raise 0x7111 1 255 (min s.clk.outRun (2 ^ 32 - 1)) s).ev := by
  have hexec := exec_zeroCrossing_good (iv := iv) hp hs hsrc hpos hn hlo hhi (by rcases hst with h | h | h <;> simp [h])
  rw [goodCrossing_eighth (s := runNoted iv s) hst hg] at hexec
  refine ⟨_, hexec, .comp (upd_enterLocked _) rfl (.comp (upd_steered ..) rfl ((upd_runNoted ..).mono rfl)), ?_⟩
  have hclk := steered_clk n e (runNoted iv s)
  rw [← loopBase_eq]
  dsimp only
  rw [enterLocked_clk, enterLocked_ev, hclk]
  refine ⟨rfl, rfl, rfl, raise_ev_congr rfl rfl ?_ ?_ ?_ rfl⟩
  all_goals rw [hclk]; rfl

theorem zeroCrossing_eighth_consistent {d : Rat} (he : e < -2048 ∨ 2048 < e) (hlo : -32768 ≤ e) (hhi : e < 32768)
    (hd : consistentIv s.clk.base d = true) (hc : 7 ≤ s.clk.consistent) (hst : s.clk.state = .holdover ∨ s.clk.state = .free) :
    Does (.zeroCrossing inp (some d) phase) s [.clk, .ev, .sen] fun t =>
      t.clk.state = .pullIn ∧ t.clk.base = s.clk.base ∧ (t.clk.pullFromFree = true ↔ s.clk.state = .free) ∧
        t.ev = (raise 0x7113 1 255 (twos 32 e) s).ev := by
  have hrun : (runNoted (some d) s).clk.consistent = 8 := by
    simp [runNoted, consistentCrossing, hd]
    omega
  have hexec := exec_zeroCrossing_source (iv := some d) (phase := phase) hp hs hsrc (by rcases hst with h | h <;> simp [h])
  rw [sourceCrossing_outside (crossAt_of_position hpos hlo hhi) he, show consistentCrossing s.clk.base (some d) = true from hd,
    outsideCrossing_eighth (s := runNoted (some d) s) hst hrun] at hexec
  refine ⟨_, hexec, .comp (upd_raise ..) rfl (.comp (upd_pulledIn ..) rfl ((upd_runNoted ..).mono rfl)), ?_⟩
  dsimp only
  rw [raise_clk, pulledIn_clk]
  refine ⟨rfl, rfl, beq_iff_eq, raise_ev_congr rfl rfl ?_ ?_ ?_ rfl⟩
  all_goals rw [pulledIn_clk]; rfl

end

theorem zeroCrossing_eighth_in_acquire {inp : MsIn} {d p : Rat} {rest : List Rat} {phase : Nat} {s : State} (hst : s.clk.state = .acquire)
    (hp : s.clk.present inp = true) (hsrc : s.clk.src = inSrc inp) (hc : s.clk.consistent = 7) (hi : s.clk.intervals = p :: rest)
    (hmin : baseMin ≤ d) (hmax : d ≤ baseMax) (hlo : d - p ≤ p * 2048 / 65536) (hhi : p - d ≤ p * 2048 / 65536) :
    Does (.zeroCrossing inp (some d) phase) s [.clk, .life, .ev, .sen] fun t =>
      t.clk.state = .locked ∧ t.clk.base = clampBase (meanLen ((d :: p :: rest).take 7)) ∧ t.clk.started = s.clk.started ∧
        t.life.c0 = firstCount s.clk.ckpt s.sen.rtcS s.sen.rtcSub s.sen.rtcValid s.clk.fnom ∧
        t.ev = (raise 0x7118 1 255 (16 + srcNum (inSrc inp)) s).ev := by
  have hexec : exec (.zeroCrossing inp (some d) phase) s = .next (acquireCrossing (some d) s) := by
    change execZeroCrossing inp (some d) phase s = _
    cases inp <;> simp [execZeroCrossing, hp, hst, hsrc, inSrc]
  rw [acquireCrossing_eighth hc hi (by simp [inLock, hmin, hmax]) hlo hhi] at hexec
  refine ⟨_, hexec, .comp (upd_clockStarted ..) rfl ((upd_modClk ..).mono rfl), ?_⟩
  dsimp only
  rw [clockStarted_clk, clockStarted_c0, clockStarted_ev]
  refine ⟨rfl, rfl, rfl, rfl, ?_⟩
  rw [State.modClk_clk, hsrc]
  exact raise_ev_modClk rfl rfl rfl

/-- Settles O2: a good crossing steers by the loop law, and the eighth of a run, good or consistent, enters the state of Table 2.1. -/
theorem crossingsSteerTheClock : Obligations.CrossingsSteerTheClock := by
  unfold Obligations.CrossingsSteerTheClock
  refine ⟨?_, ?_, ?_⟩
  · exact fun _ _ _ _ _ _ hp hs hsrc hn hlo hhi hpos =>
      ⟨zeroCrossing_good_locked hp hs hsrc hpos hn hlo hhi, zeroCrossing_eighth_good hp hs hsrc hpos hn hlo hhi⟩
  · exact fun _ _ _ _ _ _ hp hs hsrc he hlo hhi hpos hd hc hst =>
      zeroCrossing_eighth_consistent hp hs hsrc hpos he hlo hhi hd hc hst
  · exact fun _ _ _ _ _ _ hst hp hsrc hc hi hmin hmax hlo hhi =>
      zeroCrossing_eighth_in_acquire hst hp hsrc hc hi hmin hmax hlo hhi

end Sys2Proof.Machine
end

section
/-! PROOF. Slips, time-outs, presence of the inputs and choice of the source (02 R51, R56, R59, R60, R74). -/

namespace Sys2Proof.Machine

/-! Slips on the source (02 R53, Table 2.1). -/

/-- The state in which the crossing expected next has slipped (02 R53). -/
def slipNoted (s : State) : State :=
  s.modClk fun c => { c with expect := c.expect + 1, slips := min 3 (c.slips + 1), slipTotal := inc32 c.slipTotal, good := 0 }

theorem exec_crossingSlip_locked {inp : MsIn} {s : State} (hst : s.clk.state = .locked) (hs : s.clk.started = true)
    (hsrc : s.clk.src = inSrc inp) :
    exec (.crossingSlip inp) s = .next (if 2 ≤ s.clk.slips then
      raise 0x7110 1 255 (twos 32 s.clk.err) ((slipNoted s).modClk fun c => { c with state := .holdover, holdBnd := c.bndTot })
      else slipNoted s) := by
  change execCrossingSlip inp s = _
  have hslips : min 3 (s.clk.slips + 1) = 3 ↔ 2 ≤ s.clk.slips := by omega
  simp [execCrossingSlip, slipNoted, hst, hs, hsrc, hslips]

theorem crossingSlip_locked {inp : MsIn} {s : State} (hst : s.clk.state = .locked) (hs : s.clk.started = true) (hsrc : s.clk.src = inSrc inp) :
    Does (.crossingSlip inp) s [.clk, .ev, .sen] fun t =>
      t.clk.expect = s.clk.expect + 1 ∧ t.clk.good = 0 ∧ t.clk.slipTotal = inc32 s.clk.slipTotal ∧ t.clk.base = s.clk.base ∧
        t.clk.lenCur = s.clk.lenCur ∧ t.clk.lenNext = s.clk.lenNext ∧
        (s.clk.slips < 2 → t.clk.state = .locked ∧ t.clk.slips = s.clk.slips + 1 ∧ t.ev = s.ev) ∧
        (s.clk.slips = 2 → t.clk.state = .holdover ∧ t.clk.slips = 3 ∧ t.clk.holdBnd = s.clk.bndTot ∧
          t.ev = (raise 0x7110 1 255 (twos 32 s.clk.err) s).ev) := by
  have hexec := exec_crossingSlip_locked hst hs hsrc
  have hnoted : Upd [.clk, .ev, .sen] s (slipNoted s) := (upd_modClk ..).mono rfl
  by_cases h2 : 2 ≤ s.clk.slips
  · rw [if_pos h2] at hexec
    refine ⟨_, hexec, .comp (upd_raise ..) rfl (.comp (upd_modClk ..) rfl hnoted), ?_⟩
    dsimp only
    rw [raise_clk]
    refine ⟨rfl, rfl, rfl, rfl, rfl, rfl, fun h => absurd h (by omega), fun h => ⟨rfl, ?_, rfl, raise_ev_congr rfl rfl rfl rfl rfl rfl⟩⟩
    simp [slipNoted, h]
  · rw [if_neg h2] at hexec
    refine ⟨_, hexec, hnoted, rfl, rfl, rfl, rfl, rfl, rfl, fun h => ⟨hst, ?_, rfl⟩, fun h => absurd h (by omega)⟩
    simp only [slipNoted, State.modClk_clk]
    omega

/-! Time-outs (02 Table 2.1). -/

theorem acquireTimeout_starts_free {s : State} (hst : s.clk.state = .acquire) (hc : s.life.cond = .start) :
    Does .acquireTimeout s [.clk, .life, .ev, .sen] fun t =>
      t.clk.state = .free ∧ t.clk.base = nomLen s.clk ∧
        t.life.c0 = firstCount s.clk.ckpt s.sen.rtcS s.sen.rtcSub s.sen.rtcValid s.clk.fnom ∧
        t.ev = (raise 0x7118 1 255 (48 + srcNum s.clk.src) s).ev := by
  have hexec : exec .acquireTimeout s = .next (clockStarted .free (nomLen s.clk) s) := by
    change execAcquireTimeout s = _
    simp [execAcquireTimeout, hst, hc]
  refine ⟨_, hexec, upd_clockStarted .., ?_⟩
  dsimp only
  rw [clockStarted_clk, clockStarted_c0, clockStarted_ev]
  exact ⟨rfl, rfl, rfl, rfl⟩

theorem holdoverTimeout_enters_free {s : State} (hst : s.clk.state = .holdover) (hb : s.clk.holdBnd + 51 ≤ s.clk.bndTot) :
    Does .holdoverTimeout s [.clk, .ev, .sen] fun t =>
      t.clk = { s.clk with state := .free, base := nomLen s.clk } ∧ t.ev = (raise 0x7112 1 255 0 s).ev := by
  have hexec : exec .holdoverTimeout s = .next (enterFree s) := by
    change execHoldoverTimeout s = _
    simp [execHoldoverTimeout, hst, hb]
  exact ⟨_, hexec, upd_enterFree s, raise_clk .., raise_ev_modClk rfl rfl rfl⟩

theorem exec_holdoverTimeout_idle {s : State} (h : s.clk.state ≠ .holdover ∨ s.clk.bndTot < s.clk.holdBnd + 51) : Idles .holdoverTimeout s := by
  change execHoldoverTimeout s = _
  rw [execHoldoverTimeout, if_neg]
  rcases h with h | h
  · simp [h]
  · simp [Nat.not_le.mpr h]

/-! Presence of the inputs (02 R51, R59). -/

theorem setPresent_eq (inp : MsIn) (b : Bool) (c : Clk) : setPresent inp b c =
    { c with present1 := if inp = .l1 then b else c.present1
             present2 := if inp = .l2 then b else c.present2
             present3 := if inp = .l3 then b else c.present3 } := by
  cases inp <;> rfl

theorem setPresent_present_same (inp : MsIn) (b : Bool) (c : Clk) : (setPresent inp b c).present inp = b := by cases inp <;> rfl

theorem setPresent_present_other {inp j : MsIn} (b : Bool) (c : Clk) (h : j ≠ inp) : (setPresent inp b c).present j = c.present j := by
  rw [setPresent_eq]
  cases j <;> exact if_neg h.symm

theorem msInputAbsent_clk (inp : MsIn) (s : State) : Does (.msInputAbsent inp) s [.clk] fun t =>
    t.clk.present inp = false ∧ (∀ j, j ≠ inp → t.clk.present j = s.clk.present j) ∧ t.clk.state = s.clk.state ∧ t.clk.base = s.clk.base ∧
      (s.clk.state = .acquire → s.clk.src = inSrc inp → t.clk.src = firstPresent t.clk ∧ t.clk.consistent = 0) ∧
      (s.clk.state ≠ .acquire ∨ s.clk.src ≠ inSrc inp → t.clk.src = s.clk.src ∧ t.clk.consistent = s.clk.consistent) := by
  have hexec : exec (.msInputAbsent inp) s = .next (if s.clk.state = .acquire ∧ s.clk.src = inSrc inp then
      (s.modClk (setPresent inp false)).modClk fun c => { c with src := firstPresent c, consistent := 0, intervals := [] }
      else s.modClk (setPresent inp false)) := by
    change execMsInputAbsent inp s = _
    simp [execMsInputAbsent, setPresent_eq]
  have hpresent := setPresent_present_same inp false s.clk
  have hother (j : MsIn) (hj : j ≠ inp) := setPresent_present_other false s.clk hj
  by_cases hcounted : s.clk.state = .acquire ∧ s.clk.src = inSrc inp
  · rw [if_pos hcounted] at hexec
    obtain ⟨hst, hsrc⟩ := hcounted
    refine ⟨_, hexec, .comp (upd_modClk ..) rfl (upd_modClk ..), hpresent, hother, ?_, ?_, fun _ _ => ⟨rfl, rfl⟩, ?_⟩
    · simp [setPresent_eq]
    · simp [setPresent_eq]
    · simp [hst, hsrc]
  · rw [if_neg hcounted] at hexec
    refine ⟨_, hexec, upd_modClk .., hpresent, hother, ?_, ?_, fun hst hsrc => absurd ⟨hst, hsrc⟩ hcounted, fun _ => ?_⟩
    all_goals simp [setPresent_eq]

theorem msInputPresent_clk (inp : MsIn) (s : State) : Does (.msInputPresent inp) s [.clk] fun t =>
    t.clk.present inp = true ∧ (∀ j, j ≠ inp → t.clk.present j = s.clk.present j) ∧ t.clk.state = s.clk.state ∧ t.clk.base = s.clk.base ∧
      (s.clk.src ≠ .none → t.clk.src = s.clk.src) := by
  have hexec : exec (.msInputPresent inp) s = .next (if s.clk.state = .acquire ∧ s.clk.src = .none then
      (s.modClk (setPresent inp true)).modClk fun c => { c with src := firstPresent c } else s.modClk (setPresent inp true)) := by
    change execMsInputPresent inp s = _
    simp [execMsInputPresent, setPresent_eq]
  have hpresent := setPresent_present_same inp true s.clk
  have hother (j : MsIn) (hj : j ≠ inp) := setPresent_present_other true s.clk hj
  by_cases hcounted : s.clk.state = .acquire ∧ s.clk.src = .none
  · rw [if_pos hcounted] at hexec
    obtain ⟨_, hsrc⟩ := hcounted
    refine ⟨_, hexec, .comp (upd_modClk ..) rfl (upd_modClk ..), hpresent, hother, ?_, ?_, fun h => absurd hsrc h⟩
    all_goals simp [setPresent_eq]
  · rw [if_neg hcounted] at hexec
    refine ⟨_, hexec, upd_modClk .., hpresent, hother, ?_, ?_, fun _ => ?_⟩
    all_goals simp [setPresent_eq]

/-! The choice of the source at a boundary (02 R59, R60, R74). -/

theorem srcIn_inSrc (i : MsIn) : srcIn (inSrc i) = some i := by cases i <;> rfl

/-- The state in which `src` is the source and the crossing numbered `expect` is expected next: the runs that judge L1 and the rotation begin
afresh (02 R74). -/
def sourceSet (src : Source) (expect : Nat) (s : State) : State := s.modClk fun c => { c with src, l1Good := 0, rotRun := 0, expect }

theorem doSourceChange_absent {i : MsIn} {s : State} (hsrc : s.clk.src = inSrc i) (hp : s.clk.present i = false)
    (hst : s.clk.state ≠ .acquire) (hfirst : firstPresent s.clk ≠ .none) :
    doSourceChange s = raise 0x7114 1 255 (srcNum (firstPresent s.clk))
      (sourceSet (firstPresent s.clk) (if firstPresent s.clk = .l1 then s.clk.count + 1 else s.clk.count) s) := by
  unfold doSourceChange
  rw [hsrc, srcIn_inSrc]
  exact if_neg (by simp [hp, hst, hfirst])

theorem doReturnToL1_due {s : State} (hsrc : s.clk.src = .l2 ∨ s.clk.src = .l3) (hg : s.clk.l1Good = 8) (hs : s.clk.started = true) :
    doReturnToL1 s = raise 0x7114 1 255 1 (sourceSet .l1 (s.clk.count + 1) s) := by
  unfold doReturnToL1
  exact if_pos (by simp [hsrc, hg, hs])

theorem sourceChange_absent {i : MsIn} {s : State} (hsrc : s.clk.src = inSrc i) (hp : s.clk.present i = false)
    (hst : s.clk.state ≠ .acquire) (hfirst : firstPresent s.clk ≠ .none) :
    Does .sourceChange s [.gates, .clk, .ev, .sen, .freeCtr] fun t =>
      t.clk.src = firstPresent s.clk ∧ t.clk.state = s.clk.state ∧ t.clk.slips = s.clk.slips ∧ t.clk.good = s.clk.good ∧
        t.ev = (raise 0x7114 1 255 (srcNum (firstPresent s.clk)) s).ev := by
  refine ⟨_, rfl, upd_atBoundary _ _ rfl (.refl ..) ((upd_doSourceChange s).mono rfl), ?_⟩
  dsimp only
  rw [atBoundary_clk, atBoundary_ev, doSourceChange_absent hsrc hp hst hfirst, raise_clk]
  exact ⟨rfl, rfl, rfl, rfl, raise_ev_modClk rfl rfl rfl⟩

theorem returnToL1_due {s : State} (hsrc : s.clk.src = .l2 ∨ s.clk.src = .l3) (hg : s.clk.l1Good = 8) (hs : s.clk.started = true) :
    Does .returnToL1 s [.gates, .clk, .ev, .sen, .freeCtr] fun t =>
      t.clk.src = .l1 ∧ t.clk.l1Good = 0 ∧ t.clk.state = s.clk.state ∧ t.ev = (raise 0x7114 1 255 1 s).ev := by
  refine ⟨_, rfl, upd_atBoundary _ _ rfl (.refl ..) ((upd_doReturnToL1 s).mono rfl), ?_⟩
  dsimp only
  rw [atBoundary_clk, atBoundary_ev, doReturnToL1_due hsrc hg hs, raise_clk]
  exact ⟨rfl, rfl, rfl, raise_ev_modClk rfl rfl rfl⟩

/-- Settles O3: slips, time-outs, the presence of the inputs and the choice of the source, each as Table 2.1 or its rule says. -/
theorem clockStatesAndSources : Obligations.ClockStatesAndSources := by
  unfold Obligations.ClockStatesAndSources
  refine ⟨?_, ?_, ?_, ?_, ?_, ?_, ?_, ?_⟩
  · exact fun _ _ hst hs hsrc => crossingSlip_locked hst hs hsrc
  · exact fun _ hst hc => acquireTimeout_starts_free hst hc
  · exact fun _ hst hb => holdoverTimeout_enters_free hst hb
  · exact fun _ h => exec_holdoverTimeout_idle h
  · exact msInputAbsent_clk
  · exact msInputPresent_clk
  · exact fun _ _ hsrc hp hst hfirst => sourceChange_absent hsrc hp hst hfirst
  · exact fun _ hsrc hg hs => returnToL1_due hsrc hg hs

end Sys2Proof.Machine
end

section
/-! PROOF. Alignments of the count at a boundary (02 R57, R76, R77). -/

namespace Sys2Proof.Machine

/-- What a boundary does after the count has moved and the events of that are noted: it never touches the clock again. -/
def boundaryActions (old : Nat) (o : BndObs) (s : State) : State :=
  let s := heartBoundary o.silent (midnight old (if setDue s then s else rtcActions s))
  if s.sen.mlSig then s
  else
    publishAll (identStatement false
      (if s.life.cond = .run then runBoundary o.jFails s else if s.life.cond = .start then startBoundary s else idleBoundary s))

theorem boundaryActions_clk (old : Nat) (o : BndObs) (s : State) : (boundaryActions old o s).clk = s.clk := by
  have hactions : Upd (boundaryParts.erase .clk) s (heartBoundary o.silent (midnight old (if setDue s then s else rtcActions s))) :=
    .comp (upd_heartBoundary ..) rfl (.comp (upd_midnight ..) rfl (.ite (.refl ..) ((upd_rtcActions s).mono rfl)))
  have hcond (u : State) : Upd (boundaryParts.erase .clk) u
      (if u.life.cond = .run then runBoundary o.jFails u else if u.life.cond = .start then startBoundary u else idleBoundary u) :=
    .ite ((upd_runBoundary ..).mono rfl) (.ite ((upd_startBoundary u).mono rfl) ((upd_idleBoundary u).mono rfl))
  have hall : Upd (boundaryParts.erase .clk) s (boundaryActions old o s) :=
    .ite hactions (.comp (upd_publishAll _) rfl (.comp (upd_identStatement ..) rfl (.comp (hcond _) rfl hactions)))
  exact hall.clk rfl

theorem boundary_eq (k skipped : Nat) (o : BndObs) (s : State) :
    boundary k skipped o s = boundaryActions s.clk.rtcS o
      (if (clkBoundary k (passTime o.adv s)).clk.bndTot = 1 then evBoundary (firstBoundary (clkBoundary k (passTime o.adv s)))
        else noteAlign skipped (evBoundary (clkBoundary k (passTime o.adv s)))) := by
  unfold boundary boundaryActions
  rfl

/-- At the first boundary of a start no skipped count is noted: all that the boundary does to the clock is to open count `k` (02 R57, R76). -/
theorem boundary_first_clk {k skipped : Nat} {o : BndObs} {s : State} (h : s.clk.bndTot = 0) :
    (boundary k skipped o s).clk = (clkBoundary k (passTime o.adv s)).clk := by
  have hfirst : (clkBoundary k (passTime o.adv s)).clk.bndTot = 1 := by
    simp [clkBoundary, (upd_passTime o.adv s).clk rfl, h]
  rw [boundary_eq, if_pos hfirst, boundaryActions_clk, (upd_evBoundary _).clk rfl, (upd_firstBoundary _).clk rfl]

/-- A synchronised hub in RUN, the estate 63 counts ahead, so that an alignment to count 64 is due. Its clock has started and has counted no
boundary: the first boundary of a start sets `started` and counts itself in one, but no premise of the statement says so. -/
def alignDueAtFirst : State :=
  let s := State.reset.modClk fun c => { c with state := .locked, started := true }
  ((s.modLife fun l => { l with cond := .run }).modLnk fun l => { l with st := .synced, countDiff := 63 }).modElec fun e =>
    { e with supplyOk := true }

theorem countAlignment_first_uncounted {t : State} (h : exec (.countAlignment {}) alignDueAtFirst = .next t) : t.clk.alignTotal = 0 := by
  have hdue : (clockRuns alignDueAtFirst && alignDue alignDueAtFirst) = true := by decide
  have hexec : exec (.countAlignment {}) alignDueAtFirst = .next (boundary 64 63 {} alignDueAtFirst) := by
    change execCountAlignment {} alignDueAtFirst = _
    unfold execCountAlignment
    rw [if_pos hdue]
    rfl
  obtain rfl : boundary 64 63 {} alignDueAtFirst = t := by simpa [hexec] using h
  rw [boundary_first_clk rfl]
  rfl

/-- Refutes O4 by its clause on alignments: one that is due in a state whose clock has started with no boundary counted takes the branch of the
first boundary, which does not count the alignment. -/
theorem not_boundariesAndTicks : ¬ Obligations.BoundariesAndTicks := by
  unfold Obligations.BoundariesAndTicks
  rintro ⟨_, halign, _⟩
  obtain ⟨t, hexec, _, _, _, _, _, _, htotal⟩ := halign {} alignDueAtFirst (by decide) (by decide)
  rw [countAlignment_first_uncounted hexec] at htotal
  exact absurd htotal (by decide)

end Sys2Proof.Machine
end

section
/-! PROOF. Every command completes with the queue as it was and nothing gone back, and so a queue of n commands is worked off in n steps (03 R91;
22 R747; 15 R506; 21 Table 21.8; log entry 6). -/

namespace Sys2Proof.Machine

/-- A command that completes within some parts of the state completes with the queue as it was and nothing gone back. -/
theorem completes_of_upd {P : List Part} {s : State} {o : Host.Outcome State Fault Refusal} (h : ∃ t, o = .next t ∧ Upd P s t) :
    ∃ t, o = .next t ∧ t.pending = s.pending ∧ Later s t := by
  obtain ⟨t, ho, hu⟩ := h
  exact ⟨t, ho, hu.pending, hu.later⟩

/-- From the frame of each command's meaning: those of the communication world by `exec_comm_within`, the others one by one. -/
theorem exec_completes (c : Instr) (s : State) : ∃ t, exec c s = .next t ∧ t.pending = s.pending ∧ Later s t := by
  by_cases hc : commCommand c = true
  · exact completes_of_upd (exec_comm_within c s hc)
  cases c
  -- engines and binding notices (spec/01)
  case heartbeatLost => exact completes_of_upd (upd_execHeartbeatLost ..)
  case crossWorldWrite => exact completes_of_upd (upd_execCrossWorldWrite ..)
  case bindingNotice => exact completes_of_upd (upd_execBindingNotice ..)
  -- cycle clock (spec/02)
  case zeroCrossing => exact completes_of_upd (upd_execZeroCrossing ..)
  case crossingSlip => exact completes_of_upd (upd_execCrossingSlip ..)
  case acquireTimeout => exact completes_of_upd (upd_execAcquireTimeout ..)
  case holdoverTimeout => exact completes_of_upd (upd_execHoldoverTimeout ..)
  case msInputAbsent => exact completes_of_upd (upd_execMsInputAbsent ..)
  case msInputPresent => exact completes_of_upd (upd_execMsInputPresent ..)
  case sourceChange => exact completes_of_upd (upd_execSourceChange ..)
  case returnToL1 => exact completes_of_upd (upd_execReturnToL1 ..)
  case cycleBoundary => exact completes_of_upd (upd_execCycleBoundary ..)
  case countCheckpoint => exact completes_of_upd (upd_execCountCheckpoint ..)
  case tickStart => exact completes_of_upd (upd_execTickStart ..)
  case countAlignment => exact completes_of_upd (upd_execCountAlignment ..)
  -- start (spec/03)
  case nresetAssert => exact completes_of_upd (upd_execNresetAssert ..)
  case startSequence => exact completes_of_upd (upd_execStartSequence ..)
  case runEntry => exact completes_of_upd (upd_execRunEntry ..)
  -- orders that wait for their boundary (spec/10, spec/13, spec/21)
  case orderTimeSet => exact completes_of_upd (upd_execOrderTimeSet ..)
  case timeSetApply => exact completes_of_upd (upd_execTimeSetApply ..)
  case orderPointService => exact completes_of_upd (upd_execOrderPointService ..)
  case serviceStateApply => exact completes_of_upd (upd_execServiceStateApply ..)
  case orderTenantBlock => exact completes_of_upd (upd_execOrderTenantBlock ..)
  case orderTenantUnblock => exact completes_of_upd (upd_execOrderTenantUnblock ..)
  case tenantBlockApply => exact completes_of_upd (upd_execTenantBlockApply ..)
  -- life cycle and restart (spec/03)
  case orderSeal => exact completes_of_upd (upd_execOrderSeal ..)
  case orderUnseal => exact completes_of_upd (upd_execOrderUnseal ..)
  case orderRetire => exact completes_of_upd (upd_execOrderRetire ..)
  case lifeCycleChange => exact completes_of_upd (upd_execLifeCycleChange ..)
  case retireSequence => exact completes_of_upd (upd_execRetireSequence ..)
  case retireCellBurn => exact completes_of_upd (upd_execRetireCellBurn ..)
  case orderRestart => exact completes_of_upd (upd_execOrderRestart ..)
  case restartSessionFreeze => exact completes_of_upd (upd_execRestartSessionFreeze ..)
  case restartDue => exact completes_of_upd (upd_execRestartDue ..)
  -- framing of an order, delivery of an image (spec/04, spec/05)
  case orderUnknownType => exact completes_of_upd (upd_execOrderUnknownType ..)
  case deliveryBegin => exact completes_of_upd (upd_execDeliveryBegin ..)
  case deliveryData => exact completes_of_upd (upd_execDeliveryData ..)
  case deliveryEnd => exact completes_of_upd (upd_execDeliveryEnd ..)
  case deliveryAbandon => exact completes_of_upd (upd_execDeliveryAbandon ..)
  case deliveryEraseDone => exact completes_of_upd (upd_execDeliveryEraseDone ..)
  case deliveryVerifyDone => exact completes_of_upd (upd_execDeliveryVerifyDone ..)
  -- readout orders, grants and register readings (spec/15)
  case orderReadoutPages => exact completes_of_upd (upd_execOrderReadoutPages ..)
  case orderReadoutRecords => exact completes_of_upd (upd_execOrderReadoutRecords ..)
  case orderReadoutRegister => exact completes_of_upd (upd_execOrderReadoutRegister ..)
  case grantOpen => exact completes_of_upd (upd_execGrantOpen ..)
  case grantExpiry => exact completes_of_upd (upd_execGrantExpiry ..)
  case registerReadingCompose => exact completes_of_upd (upd_execRegisterReadingCompose ..)
  -- authorisation order (spec/13)
  case orderAuthorise => exact completes_of_upd (upd_execOrderAuthorise ..)
  -- key slots, entropy and assets (spec/04, spec/05)
  case slotSign => exact completes_of_upd (upd_execSlotSign ..)
  case slotVerify => exact completes_of_upd (upd_execSlotVerify ..)
  case slotEncrypt => exact completes_of_upd (upd_execSlotEncrypt ..)
  case slotDecrypt => exact completes_of_upd (upd_execSlotDecrypt ..)
  case slotMac => exact completes_of_upd (upd_execSlotMac ..)
  case slotDerive => exact completes_of_upd (upd_execSlotDerive ..)
  case slotKeyAgreement => exact completes_of_upd (upd_execSlotKeyAgreement ..)
  case cryptoJobDone => exact completes_of_upd (upd_execCryptoJobDone ..)
  case trngHealthFail => exact completes_of_upd (upd_execTrngHealthFail ..)
  case assetFetch => exact completes_of_upd (upd_execAssetFetch ..)
  -- point link, hub side (spec/06)
  case upstreamFrame => exact completes_of_upd (upd_execUpstreamFrame ..)
  case upstreamDeadline => exact completes_of_upd (upd_execUpstreamDeadline ..)
  case slowEnd => exact completes_of_upd (upd_execSlowEnd ..)
  case slowTimeout => exact completes_of_upd (upd_execSlowTimeout ..)
  case headSilenceLoss => exact completes_of_upd (upd_execHeadSilenceLoss ..)
  case statusMissingWithdraw => exact completes_of_upd (upd_execStatusMissingWithdraw ..)
  case pairingTimeout => exact completes_of_upd (upd_execPairingTimeout ..)
  case headSelfTestTimeout => exact completes_of_upd (upd_execHeadSelfTestTimeout ..)
  case checkStepEnd => exact completes_of_upd (upd_execCheckStepEnd ..)
  -- point link, head side (spec/06)
  case headRunFrame => exact completes_of_upd (upd_execHeadRunFrame ..)
  case headPairFrame => exact completes_of_upd (upd_execHeadPairFrame ..)
  case headCheckFrame => exact completes_of_upd (upd_execHeadCheckFrame ..)
  case headFailsafe => exact completes_of_upd (upd_execHeadFailsafe ..)
  case headUnpairTimeout => exact completes_of_upd (upd_execHeadUnpairTimeout ..)
  -- trips and faults that a head finds (spec/07, spec/09, spec/10)
  case headExcDetect => exact completes_of_upd (upd_execHeadExcDetect ..)
  case headDcTrip => exact completes_of_upd (upd_execHeadDcTrip ..)
  case headAcTrip => exact completes_of_upd (upd_execHeadAcTrip ..)
  case fluxgateFault => exact completes_of_upd (upd_execFluxgateFault ..)
  case lowSideDriverFault => exact completes_of_upd (upd_execLowSideDriverFault ..)
  case headLockDriveCap => exact completes_of_upd (upd_execHeadLockDriveCap ..)
  -- halo check and metering (spec/07, spec/08)
  case haloStep => exact completes_of_upd (upd_execHaloStep ..)
  case haloJudge => exact completes_of_upd (upd_execHaloJudge ..)
  case haloConfirmHoldEnd => exact completes_of_upd (upd_execHaloConfirmHoldEnd ..)
  case haloReturn => exact completes_of_upd (upd_execHaloReturn ..)
  case meterCycle => exact completes_of_upd (upd_execMeterCycle ..)
  -- rail, closing and opening of points (spec/09)
  case estopPressed => exact completes_of_upd (upd_execEstopPressed ..)
  case estopReleased => exact completes_of_upd (upd_execEstopReleased ..)
  case estopDiscrepancy => exact completes_of_upd (upd_execEstopDiscrepancy ..)
  case ssmDiscrepancy => exact completes_of_upd (upd_execSsmDiscrepancy ..)
  case ssmClockStop => exact completes_of_upd (upd_execSsmClockStop ..)
  case closeRequest => exact completes_of_upd (upd_execCloseRequest ..)
  case preclosureTestEnd => exact completes_of_upd (upd_execPreclosureTestEnd ..)
  case closingMark => exact completes_of_upd (upd_execClosingMark ..)
  case openRequest => exact completes_of_upd (upd_execOpenRequest ..)
  -- supervision of points and heads (spec/09)
  case feedbackDiscrepancy => exact completes_of_upd (upd_execFeedbackDiscrepancy ..)
  case feedbackAgainstCommand => exact completes_of_upd (upd_execFeedbackAgainstCommand ..)
  case weldDetected => exact completes_of_upd (upd_execWeldDetected ..)
  case ssmDcBackup => exact completes_of_upd (upd_execSsmDcBackup ..)
  case ssmAcTrip => exact completes_of_upd (upd_execSsmAcTrip ..)
  case cpMissingDiode => exact completes_of_upd (upd_execCpMissingDiode ..)
  case cpShortToPe => exact completes_of_upd (upd_execCpShortToPe ..)
  case proximityFault => exact completes_of_upd (upd_execProximityFault ..)
  case lockFeedbackLost => exact completes_of_upd (upd_execLockFeedbackLost ..)
  case npeOvervoltage => exact completes_of_upd (upd_execNpeOvervoltage ..)
  case npeCleared => exact completes_of_upd (upd_execNpeCleared ..)
  case t2Stop => exact completes_of_upd (upd_execT2Stop ..)
  case t2Cleared => exact completes_of_upd (upd_execT2Cleared ..)
  case ptExcitationFault => exact completes_of_upd (upd_execPtExcitationFault ..)
  case ptExcitationClear => exact completes_of_upd (upd_execPtExcitationClear ..)
  -- lock-out reset and rail test (spec/09)
  case rstReqRise => exact completes_of_upd (upd_execRstReqRise ..)
  case rstReqFall => exact completes_of_upd (upd_execRstReqFall ..)
  case lockoutReset => exact completes_of_upd (upd_execLockoutReset ..)
  case railTest => exact completes_of_upd (upd_execRailTest ..)
  case railTestOverdue => exact completes_of_upd (upd_execRailTestOverdue ..)
  case safeMonFault => exact completes_of_upd (upd_execSafeMonFault ..)
  -- tunnel, head side (spec/11)
  case headTxMpdu => exact completes_of_upd (upd_execHeadTxMpdu ..)
  case headTxFilter => exact completes_of_upd (upd_execHeadTxFilter ..)
  case headNetSet => exact completes_of_upd (upd_execHeadNetSet ..)
  case headPipeSwap => exact completes_of_upd (upd_execHeadPipeSwap ..)
  case headPipeReturn => exact completes_of_upd (upd_execHeadPipeReturn ..)
  case headPipeTest => exact completes_of_upd (upd_execHeadPipeTest ..)
  case headPipeHandover => exact completes_of_upd (upd_execHeadPipeHandover ..)
  case headPipeTestDone => exact completes_of_upd (upd_execHeadPipeTestDone ..)
  case headMpduReceived => exact completes_of_upd (upd_execHeadMpduReceived ..)
  case headTxComplete => exact completes_of_upd (upd_execHeadTxComplete ..)
  -- tariffs, ledger and periods (spec/14)
  case tariffSwitch => exact completes_of_upd (upd_execTariffSwitch ..)
  case tariffUnstable => exact completes_of_upd (upd_execTariffUnstable ..)
  case ledgerCommit => exact completes_of_upd (upd_execLedgerCommit ..)
  case periodClose => exact completes_of_upd (upd_execPeriodClose ..)
  case monthlySnapshot => exact completes_of_upd (upd_execMonthlySnapshot ..)
  case statementsSealed => exact completes_of_upd (upd_execStatementsSealed ..)
  -- outage, sentinel and journal (spec/21)
  case mainsLoss => exact completes_of_upd (upd_execMainsLoss ..)
  case outageJournalDone => exact completes_of_upd (upd_execOutageJournalDone ..)
  case lastLightDone => exact completes_of_upd (upd_execLastLightDone ..)
  case sentinelColdStart => exact completes_of_upd (upd_execSentinelColdStart ..)
  case sentinelRailLoss => exact completes_of_upd (upd_execSentinelRailLoss ..)
  case gaugeSample => exact completes_of_upd (upd_execGaugeSample ..)
  case cellLow => exact completes_of_upd (upd_execCellLow ..)
  case mpptSample => exact completes_of_upd (upd_execMpptSample ..)
  case tamperSample => exact completes_of_upd (upd_execTamperSample ..)
  case gaugeTagUpdate => exact completes_of_upd (upd_execGaugeTagUpdate ..)
  case rtcOscStop => exact completes_of_upd (upd_execRtcOscStop ..)
  case rtcOscRestart => exact completes_of_upd (upd_execRtcOscRestart ..)
  case journalEraseDone => exact completes_of_upd (upd_execJournalEraseDone ..)
  -- test and repair of the fabric, events (spec/22)
  case laneStep => exact completes_of_upd (upd_execLaneStep ..)
  case laneJudge => exact completes_of_upd (upd_execLaneJudge ..)
  case laneResidueError => exact completes_of_upd (upd_execLaneResidueError ..)
  case laneHandoff => exact completes_of_upd (upd_execLaneHandoff ..)
  case sramRowStep => exact completes_of_upd (upd_execSramRowStep ..)
  case sramCorrectableError => exact completes_of_upd (upd_execSramCorrectableError ..)
  case sramRowMove => exact completes_of_upd (upd_execSramRowMove ..)
  case sramUncorrectableError => exact completes_of_upd (upd_execSramUncorrectableError ..)
  case mramBlockStep => exact completes_of_upd (upd_execMramBlockStep ..)
  case mramCorrectableError => exact completes_of_upd (upd_execMramCorrectableError ..)
  case mramBlockMove => exact completes_of_upd (upd_execMramBlockMove ..)
  case mramUncorrectableError => exact completes_of_upd (upd_execMramUncorrectableError ..)
  case eventRaised => exact completes_of_upd (upd_execEventRaised ..)
  -- supplies and resets (spec/23), and the rows that stand last in the table
  case supplyBrownout => exact completes_of_upd (upd_execSupplyBrownout ..)
  case xtal25Stop => exact completes_of_upd (upd_execXtal25Stop ..)
  case headSupplyLoss => exact completes_of_upd (upd_execHeadSupplyLoss ..)
  case vsentChange => exact completes_of_upd (upd_execVsentChange ..)
  case supplyFallInOutage => exact completes_of_upd (upd_execSupplyFallInOutage ..)
  case headReset => exact completes_of_upd (upd_execHeadReset ..)
  all_goals exact absurd rfl hc

/-- What the queue held does not count for what may not go back. -/
theorem Later.of_queue {q : List Instr} {s t : State} (h : Later { s with pending := q } t) : Later s t :=
  ⟨h.serial, h.fuse, h.cells, h.eseq, h.recNo, h.jseq, h.tagMem, h.flashMem⟩

theorem step_front_completes {c : Instr} {q : List Instr} {s : State} (h : s.pending = c :: q) :
    ∃ t, step s = .next t ∧ t.pending = q ∧ Later s t := by
  obtain ⟨t, he, hq, hl⟩ := exec_completes c { s with pending := q }
  refine ⟨t, ?_, hq, hl.of_queue⟩
  rw [step, h]
  exact he

theorem steps_work_off {q : List Instr} {s : State} (h : s.pending = q) : ∃ t, steps q.length s = .next t ∧ t.pending = [] ∧ Later s t := by
  induction q generalizing s with
  | nil => exact ⟨s, rfl, h, Later.refl s⟩
  | cons c q ih =>
    obtain ⟨t, hst, hq, hl⟩ := step_front_completes h
    obtain ⟨u, hu, hp, hl'⟩ := ih hq
    refine ⟨u, ?_, hp, hl.trans hl'⟩
    rw [List.length_cons, steps, hst]
    exact hu

/-- Settles O57: no command has a path to a fault or a refusal, and a queue is worked off by induction on its commands. -/
theorem everyCommandCompletesAndNothingGoesBack : Obligations.EveryCommandCompletesAndNothingGoesBack := by
  unfold Obligations.EveryCommandCompletesAndNothingGoesBack
  exact ⟨exec_completes, fun _ => steps_work_off rfl⟩

end Sys2Proof.Machine
end

section
/-! PROOF. The machine that power-on leaves (02 R56, R83; 03 R84, R107; 05 R182; 06 R207; 09 R289). -/

namespace Sys2Proof.Machine

theorem memInv_reset : MemInv State.reset := ⟨rfl, rfl⟩

theorem hubLock_reset : hubLock State.reset = 0 := rfl

theorem reset_ports (k : Fin 8) : State.reset.ports[k] = {} := Vector.getElem_replicate _

theorem reset_ses (i : Fin 32) : State.reset.ses[i] = {} := Vector.getElem_replicate _

theorem reset_cp (i : Fin 32) : State.reset.cp[i] = {} := Vector.getElem_replicate _

theorem lockCause_reset (i : Fin 32) : lockCause State.reset i = 0 := by
  have ha : State.reset.safe.a.lockRec.cause[i] = 0 := Vector.getElem_replicate _
  have hb : State.reset.safe.b.lockRec.cause[i] = 0 := Vector.getElem_replicate _
  simp [lockCause, ha, hb]

/-- Settles O59: the fields one by one, those of ports and points by the entry that every head slot and every point starts with. -/
theorem resetLeavesTheHubInStart : Obligations.ResetLeavesTheHubInStart := by
  unfold Obligations.ResetLeavesTheHubInStart
  refine ⟨memInv_reset, rfl, rfl, rfl, rfl, rfl, rfl, rfl, rfl, rfl, rfl, rfl, rfl, fun k => ?_, rfl, rfl, rfl, rfl, hubLock_reset,
    fun i => ⟨reset_ses i, lockCause_reset i, ?_⟩⟩
  · rw [reset_ports]
  · rw [reset_cp]

end Sys2Proof.Machine
end

section
/-! SUPPORT. An order that is ready, once for every TYPE: with its signature good it is judged by its content, with a wrong one it is refused with
reason 6 (04 R141, R142; 15 R526). -/

namespace Sys2Proof.Machine

/-! The replay window of a signer (04 R142). -/

theorem signerSlot_window {o : OrderRec} {n w : Nat} {s : State} (h : signerSlot s o = some (n, w)) : w < 8 := by
  have hops : (operatorSlots s).length ≤ 4 := List.length_take_le ..
  unfold signerSlot at h
  split at h
  · -- by MAC: the M-Bus key's window
    split at h
    · split at h
      · split at h
        · cases h
          decide
        · cases h
      · cases h
    · cases h
  · split at h
    · -- the commissioner's window
      cases h
      decide
    · split at h
      · -- an operator's window, one of four
        obtain ⟨e, hfind, he⟩ := Option.map_eq_some_iff.mp h
        have hlt := (List.mem_zipIdx (List.mem_of_find?_eq_some hfind)).2.1
        cases he
        omega
      · cases h

theorem win_modWin_same {w : Nat} (hw : w < 8) (f : ReplayWin → ReplayWin) (s : State) : win (modWin w f s) w = f (win s w) := by
  simp [win, modWin, fin?, hw]

/-! What the reporting of an outcome leaves (15 R526). -/

theorem orderDone_ev_rdo {o : OrderRec} (h : o.src = .rdo) (r : Nat) (s : State) : (orderDone o r s).ev = s.ev := by
  simp only [orderDone, h]
  split <;> rfl

theorem orderDone_mbus_rdo {o : OrderRec} (h : o.src = .rdo) (r : Nat) {s : State} (ht : s.mbus.ordTag = o.tag) :
    (orderDone o r s).mbus = { s.mbus with ordResult := if r = 0 then 10 else 11, ordReason := r } := by
  simp only [orderDone, h, ht, if_true, State.modMbus_mbus]

/-! The order out of the inlet, and its SEQ taken. -/

theorem upd_orderOut (o : OrderRec) (s : State) : Upd [.gates] s (orderOut o s) := upd_modGates ..

theorem upd_orderTaken (o : OrderRec) (w : Nat) (s : State) : Upd [.gates, .keys] s (orderTaken o w s) :=
  .comp (upd_modWin ..) rfl ((upd_orderOut o s).mono rfl)

theorem orderTaken_gates (o : OrderRec) (w : Nat) (s : State) :
    (orderTaken o w s).gates = { s.gates with orderInlet := s.gates.orderInlet.erase o } :=
  (upd_modWin w _ (orderOut o s)).gates rfl

theorem win_orderTaken {w : Nat} (hw : w < 8) (o : OrderRec) (s : State) : win (orderTaken o w s) w = replayTake (win s w) (oSeq o) :=
  win_modWin_same hw ..

/-- What an event leaves in the event unit is the same where only parts that the event unit does not read have changed. -/
theorem Upd.raise_ev {P : List Part} {s t : State} (h : Upd P s t) (hev : P.contains .ev = false) (hel : P.contains .elec = false)
    (hclk : P.contains .clk = false) (hsen : P.contains .sen = false) (code src pt arg : Nat) :
    (raise code src pt arg t).ev = (raise code src pt arg s).ev :=
  raise_ev_congr (h.ev hev) (h.elec hel) (by rw [h.clk hclk]) (by rw [h.clk hclk]) (by rw [h.clk hclk]) (by rw [h.sen hsen])

/-! Judged, or refused for its signature (04 R141). -/

section
variable {types : List Nat} {o : OrderRec} {n w : Nat} {s : State} (f : List W128 → State → Nat × State)
  (h : orderReady types o n w s = true)
include h

theorem orderReady_window : w < 8 := by
  simp only [orderReady, Bool.and_eq_true, beq_iff_eq] at h
  obtain ⟨⟨⟨_, hsigner⟩, _⟩, _⟩ := h
  exact signerSlot_window hsigner

theorem ordered_signed (hv : orderSigned o n s = true) : ordered types o f s =
    orderDone o (f (oPayload o) (orderTaken o w s)).1 (f (oPayload o) (orderTaken o w s)).2 := by
  rw [ordered_ready f h, if_pos hv]

/-- An action that leaves inlet, windows and M-Bus answer alone judges the order. -/
theorem judged_orderDone {A : List Part} {r : Nat} {t : State} (hf : Upd A (orderTaken o w s) t) (hg : A.contains .gates = false)
    (hk : A.contains .keys = false) (hm : A.contains .mbus = false) : Judged o w r s (orderDone o r t) := by
  have hd := upd_orderDone o r t
  refine ⟨?_, ?_, fun hsrc htag => ?_⟩
  · rw [← win_orderTaken (orderReady_window h) o s, win, win, hd.keys rfl, hf.keys hk]
  · rw [hd.gates rfl, hf.gates hg, orderTaken_gates]
  · have htag' : t.mbus.ordTag = o.tag := by rw [hf.mbus hm, (upd_orderTaken o w s).mbus rfl, htag]
    rw [orderDone_mbus_rdo hsrc r htag']
    exact ⟨rfl, rfl⟩

theorem orderBad_ordered (hv : orderSigned o n s = false) : OrderBad o s (ordered types o f s) := by
  rw [ordered_ready f h, if_neg (by simp [hv])]
  have ho := upd_orderOut o s
  have hd := upd_orderDone o 6 (raise 0x6120 (oSource o) 255 (6 * 2 ^ 24 + oType o * 2 ^ 16 + oAuth o * 2 ^ 8) (orderOut o s))
  refine ⟨?_, ?_, ?_, fun hsrc htag => ?_, fun hsrc => ?_⟩
  · rw [hd.keys rfl, raise_keys, ho.keys rfl]
  · rw [hd.life rfl, raise_life, ho.life rfl]
  · rw [hd.gates rfl, raise_gates]
    rfl
  · rw [orderDone_mbus_rdo hsrc 6 (by rw [raise_mbus, ho.mbus rfl, htag])]
    exact ⟨rfl, rfl⟩
  · rw [orderDone_ev_rdo hsrc, ho.raise_ev rfl rfl rfl rfl]

end

/-- A command that runs `ordered` with an action `f` acts as an order of its TYPEs: `r` is the reason that `f` answers once the SEQ is taken, and
`Q` holds of what is left when that outcome is reported. -/
theorem orderActs_of_action {c : OrderRec → Instr} {types : List Nat} {ok : OrderRec → Bool} {P A : List Part} {r : OrderRec → State → Nat}
    {Q : OrderRec → State → State → Prop} {f : List W128 → State → Nat × State}
    (hexec : ∀ o s, exec (c o) s = .next (ordered types o f s)) (hupd : ∀ o s, ∃ t, exec (c o) s = .next t ∧ Upd P s t)
    (hf : ∀ p s, Upd A s (f p s).2) (hg : A.contains .gates = false) (hk : A.contains .keys = false) (hm : A.contains .mbus = false)
    (hr : ∀ o w s, (f (oPayload o) (orderTaken o w s)).1 = r o s)
    (hQ : ∀ o w s, ok o = true → Q o s (orderDone o (r o s) (f (oPayload o) (orderTaken o w s)).2)) : OrderActs c types ok P r Q := by
  intro o n w s h hok
  obtain ⟨t, ht, hu⟩ := hupd o s
  refine ⟨t, ht, hu, ?_⟩
  obtain rfl : ordered types o f s = t := by simpa [hexec] using ht
  by_cases hv : orderSigned o n s = true
  · rw [if_pos hv, ordered_signed f h hv, hr]
    exact ⟨judged_orderDone h (hf ..) hg hk hm, hQ o w s hok⟩
  · rw [if_neg hv]
    exact orderBad_ordered f h (by simpa using hv)

end Sys2Proof.Machine
end

section
/-! PROOF. Orders of the life cycle and of a restart (03 R94 to R97, R102 to R104, R112). -/

namespace Sys2Proof.Machine

/-! Seal, unseal and retire (03 Table 3.7). -/

/-- The life-cycle state code reads the life-cycle part alone. -/
theorem lcCode_congr {s t : State} (h : t.life = s.life) : lcCode t = lcCode s := by
  change lcCode (State.reset.modLife fun _ => t.life) = _
  rw [h]
  rfl

/-- So do the checks of Table 3.7. -/
theorem lcReason_congr (typ : Nat) (p : List W128) {s t : State} (h : t.life = s.life) : lcReason typ p t = lcReason typ p s := by
  change lcReason typ p (State.reset.modLife fun _ => t.life) = _
  rw [h]
  rfl

/-- The life-cycle state that an order of TYPE 5, 6 or 7 asks for: SEALED, SERVICE, RETIRED (03 R95). -/
def lcTarget (typ : Nat) : Nat := if typ = 5 then 3 else if typ = 6 then 4 else 5

/-- An order accepted names the state that its TYPE asks for, by check 3 of Table 3.7. -/
theorem toState_of_lcReason_zero {typ : Nat} {p : List W128} {s : State} (h : lcReason typ p s = 0) :
    fld (pWord p 0) 55 48 = lcTarget typ := by
  refine Decidable.byContradiction fun hne => ?_
  have h3 : (!lcRow (lcCode s) (fld (pWord p 0) 55 48) || decide (fld (pWord p 0) 55 48 ≠ lcTarget typ)) = true := by simp [hne]
  unfold lcTarget at h3
  simp only [lcReason, h3, if_true] at h
  -- the form and checks 1, 2 and 3 answer a reason other than 0
  split at h
  · cases h
  · split at h
    · cases h
    · split at h <;> cases h

theorem lcOrder_reason (typ : Nat) (p : List W128) (s : State) : (lcOrder typ p s).1 = lcReason typ p s := by
  unfold lcOrder
  split
  · simp [*]
  · rfl

theorem lcOrder_life_accepted {typ : Nat} {p : List W128} {s : State} (h : lcReason typ p s = 0) : (lcOrder typ p s).2.life =
    { s.life with pend := some { toState := lcTarget typ, effect := effectAt s (fld (pWord p 1) 127 64) } } := by
  simp only [lcOrder, h, State.modLife_life, toState_of_lcReason_zero h]

theorem lcOrder_refused {typ : Nat} {p : List W128} {s : State} (h : lcReason typ p s ≠ 0) : (lcOrder typ p s).2 =
    raise 0x6106 1 255 (lcReason typ p s * 2 ^ 24 + lcCode s * 2 ^ 16 + fld (pWord p 0) 55 48 * 2 ^ 8) s := by
  unfold lcOrder
  split
  · exact absurd ‹_› h
  · rfl

/-- What a life-cycle order leaves: pending for its boundary, or the life cycle as it was and event 0x6106 (03 R96, R97). -/
def LcJudged (typ toState : Nat) (o : OrderRec) (s t : State) : Prop :=
  if lcReason typ (oPayload o) s = 0 then
    t.life = { s.life with pend := some { toState, effect := effectAt s (fld (pWord (oPayload o) 1) 127 64) } }
  else t.life = s.life ∧ (o.src = .rdo → t.ev = (raise 0x6106 1 255
    (lcReason typ (oPayload o) s * 2 ^ 24 + lcCode s * 2 ^ 16 + fld (pWord (oPayload o) 0) 55 48 * 2 ^ 8) s).ev)

theorem lcOrder_judged (typ : Nat) (o : OrderRec) (w : Nat) (s : State) : LcJudged typ (lcTarget typ) o s
    (orderDone o (lcReason typ (oPayload o) s) (lcOrder typ (oPayload o) (orderTaken o w s)).2) := by
  have hu := upd_orderTaken o w s
  have hreason := lcReason_congr typ (oPayload o) (hu.life rfl)
  unfold LcJudged
  rw [(upd_orderDone ..).life rfl]
  split
  · rename_i h
    rw [lcOrder_life_accepted (hreason.trans h), hu.life rfl, effectAt, effectAt, hu.clk rfl]
  · rename_i h
    rw [← hreason] at h
    rw [lcOrder_refused h, raise_life, hu.life rfl, hreason, lcCode_congr (hu.life rfl)]
    refine ⟨rfl, fun hsrc => ?_⟩
    rw [orderDone_ev_rdo hsrc, hu.raise_ev rfl rfl rfl rfl]

/-- A command that runs `lcOrder` of a TYPE acts as a life-cycle order. -/
theorem lifeCycleOrder_acts {c : OrderRec → Instr} {typ : Nat} {P : List Part}
    (hexec : ∀ o s, exec (c o) s = .next (ordered [typ] o (lcOrder typ) s)) (hupd : ∀ o s, ∃ t, exec (c o) s = .next t ∧ Upd P s t) :
    OrderActs c [typ] (fun _ => true) P (fun o s => lcReason typ (oPayload o) s) (LcJudged typ (lcTarget typ)) :=
  orderActs_of_action hexec hupd (upd_lcOrder typ) rfl rfl rfl
    (fun o w s => (lcOrder_reason ..).trans (lcReason_congr _ _ ((upd_orderTaken o w s).life rfl))) fun o w s _ => lcOrder_judged typ o w s

/-! Restart (03 R102 to R104). -/

/-- The restart that a payload asks for is pending, in place of any before it (03 R103). -/
def restartPending (p : List W128) (s : State) : State := s.modLife fun l => { l with freeze := false, rst := some (restartAsked p) }

theorem upd_restartPending (p : List W128) (s : State) : Upd [.life] s (restartPending p s) := upd_modLife _ s fun _ => ⟨rfl, rfl, rfl⟩

/-- What ORDER_RESTART makes of its payload: the restart pending with event 0x7104, or event 0x7105 with the reason (03 R103, R104). -/
def restartOrder (p : List W128) (s : State) : Nat × State :=
  if restartReason p s = 0 then
    (0, raise 0x7104 1 255 (restartArg (restartAsked p)) (restartPending p s))
  else (restartReason p s, raise 0x7105 1 255 (restartReason p s) s)

/-- Argument of event 0x7104 as the order computes it: the low 31 bits of MARK_COUNT, with bit 31 set for AT and else its own (03 R103). -/
theorem restartArg_eq (r : RstPend) :
    restartArg r = r.mark % 2 ^ 31 + (if r.atKind then 2 ^ 31 else (r.mark / 2 ^ 31) % 2 * 2 ^ 31) := by
  unfold restartArg
  split <;> omega

theorem exec_orderRestart (o : OrderRec) (s : State) : exec (.orderRestart o) s = .next (ordered [9] o restartOrder s) := by
  change execOrderRestart o s = _
  unfold execOrderRestart
  congr 2
  funext p s
  unfold restartOrder
  rw [restartArg_eq]
  split
  · rw [if_pos ‹_›]
    rfl
  · rw [if_neg ‹_›]

/-- The checks of R104 read the life cycle, the delivery and the running image alone. -/
theorem restartReason_congr (p : List W128) {s t : State} (hl : t.life = s.life) (hd : t.dlv = s.dlv) (hi : t.img = s.img) :
    restartReason p t = restartReason p s := by
  change restartReason p { State.reset with life := t.life, dlv := t.dlv, img := t.img } = _
  rw [hl, hd, hi]
  rfl

theorem upd_restartOrder (p : List W128) (s : State) : Upd [.life, .ev, .sen] s (restartOrder p s).2 := by
  unfold restartOrder
  split
  · exact .comp (upd_raise ..) rfl ((upd_restartPending p s).mono rfl)
  · exact (upd_raise ..).mono rfl

theorem restartOrder_reason (p : List W128) (s : State) : (restartOrder p s).1 = restartReason p s := by
  unfold restartOrder
  split
  · exact Eq.symm ‹_›
  · rfl

/-- What a restart order leaves: the restart it asks for pending, or the life cycle as it was and event 0x7105 (03 R103, R104). -/
def RestartJudged (o : OrderRec) (s t : State) : Prop :=
  if restartReason (oPayload o) s = 0 then
    t.life = { s.life with freeze := false, rst := some (restartAsked (oPayload o)) } ∧
      (o.src = .rdo → t.ev = (raise 0x7104 1 255 (restartArg (restartAsked (oPayload o))) s).ev)
  else t.life = s.life ∧ (o.src = .rdo → t.ev = (raise 0x7105 1 255 (restartReason (oPayload o) s) s).ev)

theorem restartReason_orderTaken (p : List W128) (o : OrderRec) (w : Nat) (s : State) :
    restartReason p (orderTaken o w s) = restartReason p s :=
  have hu := upd_orderTaken o w s
  restartReason_congr p (hu.life rfl) (hu.dlv rfl) (hu.img rfl)

theorem restartOrder_judged (o : OrderRec) (w : Nat) (s : State) :
    RestartJudged o s (orderDone o (restartReason (oPayload o) s) (restartOrder (oPayload o) (orderTaken o w s)).2) := by
  have hu := upd_orderTaken o w s
  unfold RestartJudged restartOrder
  rw [(upd_orderDone ..).life rfl, restartReason_orderTaken]
  split
  · refine ⟨?_, fun hsrc => ?_⟩
    · rw [raise_life, restartPending, State.modLife_life, hu.life rfl]
    · rw [orderDone_ev_rdo hsrc, (upd_restartPending ..).raise_ev rfl rfl rfl rfl, hu.raise_ev rfl rfl rfl rfl]
  · refine ⟨?_, fun hsrc => ?_⟩
    · rw [raise_life, hu.life rfl]
    · rw [orderDone_ev_rdo hsrc, hu.raise_ev rfl rfl rfl rfl]

theorem restartOrder_acts : OrderActs .orderRestart [9] (fun _ => true) [.gates, .life, .keys, .mbus, .lnk, .ev, .sen]
    (fun o s => restartReason (oPayload o) s) RestartJudged :=
  orderActs_of_action exec_orderRestart upd_execOrderRestart upd_restartOrder rfl rfl rfl
    (fun o w s => (restartOrder_reason ..).trans (restartReason_orderTaken _ o w s)) fun o w s _ => restartOrder_judged o w s

/-- Settles O5: the three life-cycle orders run one action, each for the state its TYPE asks for, and a restart order its own. -/
theorem lifeCycleOrders : Obligations.LifeCycleOrders := by
  unfold Obligations.LifeCycleOrders
  exact ⟨lifeCycleOrder_acts (fun _ _ => rfl) upd_execOrderSeal, lifeCycleOrder_acts (fun _ _ => rfl) upd_execOrderUnseal,
    lifeCycleOrder_acts (fun _ _ => rfl) upd_execOrderRetire, restartOrder_acts⟩

end Sys2Proof.Machine
end

section
/-! SUPPORT. What an event leaves of SEN, and steps over the points that each set their own entry (21 R712). -/

namespace Sys2Proof.Machine

/-! SEN apart from its event buffer (21 R712). -/

/-- A reading of SEN that its event buffer does not touch. -/
def OffBuffer {β : Type} (p : Sen → β) : Prop := ∀ (x : Sen) (l : List EventRec) (n : Nat), p { x with buf := l, bufLost := n } = p x

theorem evBuffer_sen_read {β : Type} {p : Sen → β} (hp : OffBuffer p) (e : EventRec) (s : State) : p (evBuffer e s).sen = p s.sen := by
  unfold evBuffer
  split
  · rfl
  · split
    · exact hp s.sen _ s.sen.bufLost
    · exact hp s.sen s.sen.buf _

theorem evHold_sen (e : EventRec) (s : State) : (evHold e s).sen = s.sen := by
  unfold evHold
  split <;> rfl

theorem evAccept_sen (e : EventRec) (s : State) : (evAccept e s).sen = s.sen := by
  unfold evAccept
  split
  · rfl
  · split <;> rfl

/-- An event reaches SEN at most through its buffer. -/
theorem raise_sen_read {β : Type} {p : Sen → β} (hp : OffBuffer p) (code src pt arg : Nat) (s : State) :
    p (raise code src pt arg s).sen = p s.sen := by
  unfold raise
  dsimp only
  split
  · exact evBuffer_sen_read hp _ s
  · split
    · rw [evHold_sen]
    · rw [evAccept_sen]

theorem raiseIf_sen_read {β : Type} {p : Sen → β} (hp : OffBuffer p) (b : Bool) (code src pt arg : Nat) (s : State) :
    p (raiseIf b code src pt arg s).sen = p s.sen := by
  unfold raiseIf
  split
  · exact raise_sen_read hp ..
  · rfl

/-- Two events leave the same in the event unit where only parts that the event unit does not read have changed. -/
theorem Upd.raise_raise_ev {P : List Part} {s t : State} (h : Upd P s t) (hev : P.contains .ev = false) (hel : P.contains .elec = false)
    (hclk : P.contains .clk = false) (hsen : P.contains .sen = false) (code src pt arg code' src' pt' arg' : Nat) :
    (raise code' src' pt' arg' (raise code src pt arg t)).ev = (raise code' src' pt' arg' (raise code src pt arg s)).ev := by
  have hmono : OffBuffer Sen.mono := fun _ _ _ => rfl
  refine raise_ev_congr (h.raise_ev hev hel hclk hsen ..) ?_ ?_ ?_ ?_ ?_
  · rw [raise_elec, raise_elec, h.elec hel]
  · rw [raise_clk, raise_clk, h.clk hclk]
  · rw [raise_clk, raise_clk, h.clk hclk]
  · rw [raise_clk, raise_clk, h.clk hclk]
  · rw [raise_sen_read hmono, raise_sen_read hmono, h.sen hsen]

theorem lnkSend_sen_read {β : Type} {p : Sen → β} (hp : OffBuffer p) (kind final : Nat) (body : List Nat) (s : State) :
    p (lnkSend kind final body s).sen = p s.sen := by
  unfold lnkSend
  split
  · exact raise_sen_read hp ..
  · rw [(upd_lnkQueue ..).sen rfl]
    rfl

theorem orderDone_sen_read {β : Type} {p : Sen → β} (hp : OffBuffer p) (o : OrderRec) (r : Nat) (s : State) :
    p (orderDone o r s).sen = p s.sen := by
  unfold orderDone
  split
  · split <;> rfl
  · exact lnkSend_sen_read hp ..

/-! Steps that each set their own entry. -/

theorem finList_nodup (n : Nat) : (finList n).Nodup := by
  induction n with
  | zero => exact List.nodup_nil
  | succ n ih =>
    have hmap : ((finList n).map Fin.castSucc).Nodup := List.Pairwise.map _ (fun _ _ hne heq => hne (Fin.castSucc_inj.mp heq)) ih
    have hlast : [Fin.last n].Nodup := List.nodup_cons.mpr ⟨List.not_mem_nil, List.nodup_nil⟩
    refine List.nodup_append.mpr ⟨hmap, hlast, fun i hi j hj => ?_⟩
    obtain ⟨k, _, rfl⟩ := List.mem_map.mp hi
    rw [List.mem_singleton.mp hj]
    exact Fin.ne_of_lt (Fin.castSucc_lt_last k)

/-- Steps over entries without repetition, of which each sets its own entry by `g` and no other, while `K` stands. -/
theorem foldl_entries {β : Type} {n : Nat} {p : State → Fin n → β} {K : State → Prop} {F : State → Fin n → State} {g : β → β}
    (hK : ∀ u j, K u → K (F u j)) (hset : ∀ u j, K u → p (F u j) j = g (p u j)) (hother : ∀ u i j, i ≠ j → p (F u j) i = p u i)
    {l : List (Fin n)} (hl : l.Nodup) {s : State} (hs : K s) (i : Fin n) : p (l.foldl F s) i = if i ∈ l then g (p s i) else p s i := by
  induction l generalizing s with
  | nil => rfl
  | cons j l ih =>
    obtain ⟨hj, hl⟩ := List.nodup_cons.mp hl
    rw [List.foldl_cons, ih hl (hK s j hs)]
    by_cases hij : i = j
    · subst hij
      rw [if_neg hj, if_pos List.mem_cons_self, hset s i hs]
    · simp only [List.mem_cons, hij, false_or, hother s i j hij]

theorem modCp_cp_same (i : Fin 32) (f : PtCp → PtCp) (s : State) : (s.modCp i f).cp[i] = f s.cp[i] := by
  simp

theorem modCp_cp_other {i j : Fin 32} (h : i ≠ j) (f : PtCp → PtCp) (s : State) : (s.modCp j f).cp[i] = s.cp[i] := by
  simp [Fin.val_ne_of_ne (Ne.symm h)]

theorem modSes_ses_other {i j : Fin 32} (h : i ≠ j) (f : PtSes → PtSes) (s : State) : (s.modSes j f).ses[i] = s.ses[i] := by
  simp [Fin.val_ne_of_ne (Ne.symm h)]

end Sys2Proof.Machine
end

section
/-! PROOF. The entropy source: the start-up tests run again after a failed continuous test (04 R146, R155). -/

namespace Sys2Proof.Machine

/-! The reruns: one passes before the third failure in a row, or the third failure stops the generator (04 R155). -/

/-- A rerun has failed (04 R155). -/
def rerunFailed (s : State) : State := s.modKeys fun k => { k with drbgFails := k.drbgFails + 1 }

/-- The generator stops until the next start, with the count of failures at n (04 R155). -/
def generatorStopped (n : Nat) (s : State) : State :=
  raise 0x6131 1 255 0 (s.modKeys fun k => { k with drbgFails := n, drbgStopped := true, drbgHeld := false })

theorem drbgReruns_again {n : Nat} {s : State} (h : s.keys.drbgFails + 1 < 3) : drbgReruns (n + 1) s = drbgReruns n (rerunFailed s) :=
  if_pos h

theorem drbgReruns_stop {n : Nat} {s : State} (h : ¬ s.keys.drbgFails + 1 < 3) :
    drbgReruns (n + 1) s = generatorStopped (s.keys.drbgFails + 1) s :=
  if_neg h

theorem drbgReruns_of_pass {n : Nat} {s : State} (hs : s.keys.drbgStopped = false) (hn : n = 0 ∨ s.keys.drbgFails + n < 3) :
    drbgReruns n s = s.modKeys fun k => { k with drbgHeld := false, drbgFails := 0, drbgReseeds := k.drbgReseeds + 1 } := by
  induction n generalizing s with
  | zero => exact if_neg (Bool.eq_false_iff.mp hs)
  | succ n ih =>
    have hlt : s.keys.drbgFails + (n + 1) < 3 := hn.resolve_left (Nat.succ_ne_zero n)
    have hfails : (rerunFailed s).keys.drbgFails = s.keys.drbgFails + 1 := rfl
    rw [drbgReruns_again (by omega), ih (s := rerunFailed s) hs (.inr (by omega))]
    rfl

theorem drbgReruns_of_third_failure {n : Nat} {s : State} (hn : 0 < n) (h : 3 ≤ s.keys.drbgFails + n) :
    drbgReruns n s = generatorStopped (max 3 (s.keys.drbgFails + 1)) s := by
  induction n generalizing s with
  | zero => exact absurd hn (Nat.lt_irrefl 0)
  | succ n ih =>
    by_cases hf : s.keys.drbgFails + 1 < 3
    · have hfails : (rerunFailed s).keys.drbgFails = s.keys.drbgFails + 1 := rfl
      rw [drbgReruns_again hf, ih (by omega) (by omega), hfails, Nat.max_eq_left (by omega), Nat.max_eq_left (by omega)]
      rfl
    · rw [drbgReruns_stop hf, Nat.max_eq_right (by omega)]

theorem generatorStopped_keys (n : Nat) (s : State) : (generatorStopped n s).keys =
    { s.keys with drbgFails := n, drbgStopped := true, drbgHeld := false } := by
  rw [generatorStopped, raise_keys, State.modKeys_keys]

/-- A continuous test has failed: the generator's output is withheld, event 0x6130 (04 R155). -/
def entropyFailed (a : Bool) (s : State) : State :=
  raise 0x6130 1 255 (if a then 2 else 1) (s.modKeys fun k => { k with drbgHeld := true })

theorem entropyFailed_keys (a : Bool) (s : State) : (entropyFailed a s).keys = { s.keys with drbgHeld := true } := by
  rw [entropyFailed, raise_keys, State.modKeys_keys]

theorem exec_trngHealthFail_running {a : Bool} {n : Nat} {s : State} (hs : s.keys.drbgStopped = false) :
    exec (.trngHealthFail a n) s = .next (drbgReruns n (entropyFailed a s)) := by
  change execTrngHealthFail a n s = _
  rw [execTrngHealthFail, if_neg (by simp [hs])]
  rfl

theorem trngHealthFail_reseeds {a : Bool} {n : Nat} {s : State} (hs : s.keys.drbgStopped = false) (hn : n = 0 ∨ s.keys.drbgFails + n < 3) :
    Does (.trngHealthFail a n) s [.keys, .ev, .sen] fun t =>
      t.keys = { s.keys with drbgHeld := false, drbgFails := 0, drbgReseeds := s.keys.drbgReseeds + 1 } ∧
        t.ev = (raise 0x6130 1 255 (if a then 2 else 1) s).ev := by
  obtain ⟨t, ht, hu⟩ := upd_execTrngHealthFail a n s
  refine ⟨t, ht, hu, ?_⟩
  have hexec := (exec_trngHealthFail_running hs).symm.trans ht
  rw [drbgReruns_of_pass (by rwa [entropyFailed_keys]) (by rwa [entropyFailed_keys])] at hexec
  cases hexec
  refine ⟨?_, (upd_modKeys _ s).raise_ev rfl rfl rfl rfl ..⟩
  rw [State.modKeys_keys, entropyFailed_keys]

theorem trngHealthFail_stops {a : Bool} {n : Nat} {s : State} (hs : s.keys.drbgStopped = false) (hn : 0 < n)
    (h : 3 ≤ s.keys.drbgFails + n) :
    Does (.trngHealthFail a n) s [.keys, .ev, .sen] fun t =>
      t.keys.drbgStopped = true ∧ t.keys.drbgHeld = false ∧ t.keys.drbgReseeds = s.keys.drbgReseeds ∧ t.keys.slots = s.keys.slots ∧
        drbgOk t = false ∧ t.ev = (raise 0x6131 1 255 0 (raise 0x6130 1 255 (if a then 2 else 1) s)).ev := by
  obtain ⟨t, ht, hu⟩ := upd_execTrngHealthFail a n s
  refine ⟨t, ht, hu, ?_⟩
  have hexec := (exec_trngHealthFail_running hs).symm.trans ht
  rw [drbgReruns_of_third_failure hn (by rwa [entropyFailed_keys])] at hexec
  cases hexec
  unfold drbgOk
  dsimp only
  rw [generatorStopped_keys, entropyFailed_keys]
  refine ⟨rfl, rfl, rfl, rfl, rfl, ?_⟩
  rw [generatorStopped, (upd_modKeys ..).raise_ev rfl rfl rfl rfl]
  exact (upd_modKeys _ s).raise_raise_ev rfl rfl rfl rfl ..

/-- Settles O10: before the third failure in a row the reruns end with one that passes, and the third failure stops the generator. -/
theorem entropySourceFailures : Obligations.EntropySourceFailures := by
  unfold Obligations.EntropySourceFailures
  refine ⟨?_, ?_, ?_⟩
  · exact fun _ _ _ hs hn => trngHealthFail_reseeds hs hn
  · exact fun _ _ _ hs hn h => trngHealthFail_stops hs hn h
  · exact fun _ _ _ hs => congrArg _ (if_pos hs)

end Sys2Proof.Machine
end

section
/-! PROOF. Operations of the key slots and the queue of their jobs (04 R128 to R130, R144, R152). -/

namespace Sys2Proof.Machine

/-! A refusal, and the symmetric operations (04 R129, R152). -/

theorem slotRefuse_keys (h : EngHalf) (op : SlotOp) (n cond : Nat) (s : State) : (slotRefuse h op n cond s).keys =
    { s.keys with result := some { owner := h, op, slot := n, reason := cond, data := [] } } := by
  unfold slotRefuse slotAnswer
  rw [State.modKeys_keys, raise_keys]

theorem slotRefuse_ev (h : EngHalf) (op : SlotOp) (n cond : Nat) (s : State) : (slotRefuse h op n cond s).ev =
    (raise 0x6121 (halfId h) 255 (n * 2 ^ 24 + halfId h * 2 ^ 16 + usageBit op * 2 ^ 8 + cond) s).ev :=
  (upd_slotAnswer ..).ev rfl

/-- What a symmetric operation leaves: the result, or the refusal with event 0x6121 (04 R129, R152). -/
def SymAnswered (op : SlotOp) (h : EngHalf) (n : Nat) (data : List Nat) (s t : State) : Prop :=
  if slotCond s h n op = 0 then
    t.ev = s.ev ∧ t.keys = { s.keys with result := some { owner := h, op, slot := n, reason := 0, data } }
  else t.keys = { s.keys with result := some { owner := h, op, slot := n, reason := slotCond s h n op, data := [] } } ∧
    t.ev = (raise 0x6121 (halfId h) 255 (n * 2 ^ 24 + halfId h * 2 ^ 16 + usageBit op * 2 ^ 8 + slotCond s h n op) s).ev

theorem slotSym_answered {op : SlotOp} {h : EngHalf} {n : Nat} {f : Nat → List Nat} {s : State} (hml : s.sen.mlSig = false) :
    SymAnswered op h n (f (slotSecret s n)) s (slotSym op h n f s) := by
  have hheld : ¬ keysHeld s = true := by simp [keysHeld, hml]
  unfold SymAnswered slotSym
  rw [if_neg hheld]
  split
  · rename_i hc
    rw [hc]
    exact ⟨rfl, rfl⟩
  · split
    · rename_i h0
      exact absurd h0 ‹_›
    · exact ⟨slotRefuse_keys .., slotRefuse_ev ..⟩

theorem slotMac_answered {h : EngHalf} {n : Nat} {data : List Nat} {tag : Option Nat} {s : State} (hml : s.sen.mlSig = false) :
    Does (.slotMac h n data tag) s [.keys, .ev, .sen] (SymAnswered .mac h n
      (tag.elim [Config.cmac (slotSecret s n) data] fun m => [b2n (Config.cmac (slotSecret s n) data == m)]) s) := by
  refine ⟨_, rfl, upd_slotSym .., ?_⟩
  cases tag with
  | none => exact slotSym_answered hml
  | some m => exact slotSym_answered hml

theorem slotEncrypt_answered {h : EngHalf} {n : Nat} {data : List Nat} {s : State} (hml : s.sen.mlSig = false) :
    Does (.slotEncrypt h n data) s [.keys, .ev, .sen]
      (SymAnswered .encrypt h n (Config.encrypt (slotSecret s n) (keySlot s n).alg data) s) :=
  ⟨_, rfl, upd_slotSym .., slotSym_answered hml⟩

/-- The result of a decryption: verdict 1 and the text, or verdict 0 alone (04 R128). -/
theorem decryptResult_eq (x : Option (List Nat)) : x.elim [0] (1 :: ·) = match x with
    | some t => 1 :: t
    | none => [0] := by
  cases x <;> rfl

theorem slotDecrypt_answered {h : EngHalf} {n : Nat} {data : List Nat} {s : State} (hml : s.sen.mlSig = false) :
    Does (.slotDecrypt h n data) s [.keys, .ev, .sen]
      (SymAnswered .decrypt h n ((Config.decrypt (slotSecret s n) (keySlot s n).alg data).elim [0] (1 :: ·)) s) := by
  rw [decryptResult_eq]
  exact ⟨_, rfl, upd_slotSym .., slotSym_answered hml⟩

/-! A derivation (04 R130, R144). -/

/-- A key is placed into the transient slot k (04 R130). -/
def transTaken (k : Nat) (e : EngineId) (kind : TransKind) (point key : Nat) (s : State) : State :=
  s.modKeys fun x => { x with trans := x.trans ++ [{ num := k, owner := e, kind, point, key }] }

theorem transAlloc_of_free {e : EngineId} {k : Nat} {s : State} (hq : transHeld s e < transQuota e) (hf : transFree s = some k)
    (kind : TransKind) (point key : Nat) : transAlloc e kind point key s = some (k, transTaken k e kind point key s) := by
  unfold transAlloc
  rw [if_pos hq, hf]
  rfl

theorem transAlloc_keeps {e : EngineId} {kind : TransKind} {point key k : Nat} {s t : State}
    (h : transAlloc e kind point key s = some (k, t)) : t.keys.queue = s.keys.queue ∧ t.keys.slots = s.keys.slots := by
  unfold transAlloc at h
  split at h
  · split at h
    · cases h
      exact ⟨rfl, rfl⟩
    · cases h
  · cases h

theorem exec_slotDerive_of_free {h : EngHalf} {n k : Nat} {s : State} (hml : s.sen.mlSig = false) (hc : slotCond s h n .derive = 0)
    (hq : transHeld s (halfEngine h) < transQuota (halfEngine h)) (hf : transFree s = some k) (ten : Nat) (win : Bool) :
    exec (.slotDerive h n win ten) s = .next (slotAnswer h .derive n 0 [k]
      (transTaken k (halfEngine h) (if win then .derived else .token) 255 (tenantKey (slotSecret s n) win ten) s)) := by
  have hheld : ¬ keysHeld s = true := by simp [keysHeld, hml]
  change execSlotDerive h n win ten s = _
  unfold execSlotDerive
  rw [if_neg hheld, hc, transAlloc_of_free hq hf]
  rfl

theorem slotDerive_takes_transient {h : EngHalf} {n k ten : Nat} {win : Bool} {s : State} (hml : s.sen.mlSig = false)
    (hc : slotCond s h n .derive = 0) (hq : transHeld s (halfEngine h) < transQuota (halfEngine h)) (hf : transFree s = some k) :
    Does (.slotDerive h n win ten) s [.keys] fun t =>
      t.keys.slots = s.keys.slots ∧ t.keys.result = some { owner := h, op := .derive, slot := n, reason := 0, data := [k] } ∧
        t.keys.trans = s.keys.trans ++
          [{ num := k, owner := halfEngine h, kind := if win then .derived else .token, point := 255, key := tenantKey (slotSecret s n) win ten }] :=
  ⟨_, exec_slotDerive_of_free hml hc hq hf ten win, .comp (upd_slotAnswer ..) rfl (upd_modKeys ..), rfl, rfl, rfl⟩

/-! The asymmetric operations, as jobs of the queue (04 R122, R129; 12 R420). -/

/-- The job that an asymmetric operation asks for. -/
def asymJob (op : SlotOp) (h : EngHalf) (p n : Nat) (data : List Nat) : Job := { owner := h, point := p, op, slot := n, data }

/-- The commands of the asymmetric operations. -/
def AsymCommand (op : SlotOp) (c : Instr) (h : EngHalf) (n p : Nat) (data : List Nat) : Prop :=
  (op = .sign ∧ c = .slotSign h p n data) ∨ (op = .verify ∧ c = .slotVerify h p n data) ∨ (op = .agree ∧ c = .slotKeyAgreement h p n data)

theorem AsymCommand.exec_eq {op : SlotOp} {c : Instr} {h : EngHalf} {n p : Nat} {data : List Nat} (hc : AsymCommand op c h n p data)
    (s : State) : exec c s = .next (slotAsym op h p n data s) := by
  rcases hc with ⟨rfl, rfl⟩ | ⟨rfl, rfl⟩ | ⟨rfl, rfl⟩ <;> rfl

theorem slotAsym_accepted {op : SlotOp} {h : EngHalf} {n : Nat} {s : State} (hml : s.sen.mlSig = false) (hc : slotCond s h n op = 0)
    (p : Nat) (data : List Nat) : slotAsym op h p n data s = enqueue (asymJob op h p n data) s := by
  have hheld : ¬ keysHeld s = true := by simp [keysHeld, hml]
  unfold slotAsym
  rw [if_neg hheld, hc]
  rfl

theorem slotAsym_refused {op : SlotOp} {h : EngHalf} {n : Nat} {s : State} (hml : s.sen.mlSig = false) (hc : slotCond s h n op ≠ 0)
    (p : Nat) (data : List Nat) : slotAsym op h p n data s = slotRefuse h op n (slotCond s h n op) s := by
  have hheld : ¬ keysHeld s = true := by simp [keysHeld, hml]
  unfold slotAsym
  rw [if_neg hheld]
  split
  · exact absurd ‹_› hc
  · rfl

theorem enqueue_of_room {j : Job} {s : State} (hroom : s.keys.queue.length < 64) (hcap : j.owner = .ses → jobsOf s j.point < 4) :
    enqueue j s = s.modKeys fun k => { k with queue := queuePut j k.queue } := by
  have hstall : ¬ (decide (j.owner = .ses) && decide (j.point ≠ 255) && wouldStall s j.point) = true := by
    simp only [wouldStall, Bool.and_eq_true, Bool.or_eq_true, decide_eq_true_eq]
    rintro ⟨⟨hses, _⟩, hfull⟩
    have := hcap hses
    omega
  unfold enqueue
  rw [if_neg hstall, if_neg (Nat.not_le.mpr hroom)]

/-- A job beyond the four of its session stalls the session (12 R420). -/
theorem enqueue_beyond_cap {j : Job} {s : State} (hses : j.owner = .ses) (hp : j.point ≠ 255) (hcap : 4 ≤ jobsOf s j.point) :
    enqueue j s = slotAnswer j.owner j.op j.slot 6 [] (stallSession j.point 1 s) := by
  have hstall : (decide (j.owner = .ses) && decide (j.point ≠ 255) && wouldStall s j.point) = true := by
    simp [wouldStall, hses, hp, hcap]
  unfold enqueue
  rw [if_pos hstall, if_pos hcap]

theorem fin?_val {n : Nat} (i : Fin n) : fin? n i.val = some i := by
  simp [fin?]

theorem stallSession_stalled (i : Fin 32) (kind : Nat) (s : State) : (stallSession i.val kind s).ses[i].stalled = true := by
  unfold stallSession
  rw [fin?_val]
  dsimp only
  split
  · assumption
  · simp

section
variable {op : SlotOp} {c : Instr} {h : EngHalf} {n p : Nat} {data : List Nat} {s : State} (hc : AsymCommand op c h n p data)
  (hml : s.sen.mlSig = false)
include hc hml

theorem asymCommand_queued (h0 : slotCond s h n op = 0) (hroom : s.keys.queue.length < 64) (hcap : h = .ses → jobsOf s p < 4) :
    Does c s [.keys] fun t => t.keys = { s.keys with queue := queuePut (asymJob op h p n data) s.keys.queue } := by
  refine ⟨_, hc.exec_eq s, ?_⟩
  rw [slotAsym_accepted hml h0, enqueue_of_room hroom hcap]
  exact ⟨upd_modKeys .., rfl⟩

theorem asymCommand_stalls (h0 : slotCond s h n op = 0) (hses : h = .ses) (hcap : 4 ≤ jobsOf s p) (i : Fin 32) (hi : i.val = p) :
    Does c s [.keys, .ses, .sesSys, .ev, .sen] fun t => t.keys.queue = s.keys.queue ∧ t.ses[i].stalled = true := by
  subst hi
  refine ⟨_, hc.exec_eq s, upd_slotAsym .., ?_⟩
  have hpoint : i.val ≠ 255 := by omega
  rw [slotAsym_accepted hml h0, enqueue_beyond_cap (j := asymJob op h i.val n data) hses hpoint hcap]
  have hqueue : (stallSession i.val 1 s).keys.queue = s.keys.queue := by rw [(upd_stallSession i.val 1 s).keys rfl]
  exact ⟨hqueue, stallSession_stalled i 1 s⟩

theorem asymCommand_refused (h0 : slotCond s h n op ≠ 0) :
    Does c s [.keys, .ev, .sen] fun t => t.keys.queue = s.keys.queue ∧ t.keys.slots = s.keys.slots ∧
      t.ev = (raise 0x6121 (halfId h) 255 (n * 2 ^ 24 + halfId h * 2 ^ 16 + usageBit op * 2 ^ 8 + slotCond s h n op) s).ev := by
  refine ⟨_, hc.exec_eq s, ?_⟩
  rw [slotAsym_refused hml h0]
  refine ⟨upd_slotRefuse .., ?_, ?_, slotRefuse_ev ..⟩
  · rw [slotRefuse_keys]
  · rw [slotRefuse_keys]

end

/-! The front job completes (04 R122, R128). -/

/-- The state in which the front job has left the queue and its result is there. -/
def frontDone (j : Job) (q : List Job) (s : State) : State := jobResult j (s.modKeys fun k => { k with queue := q })

theorem jobResult_keeps (j : Job) (s : State) :
    (jobResult j s).keys.queue = s.keys.queue ∧ (jobResult j s).keys.slots = s.keys.slots := by
  unfold jobResult
  dsimp only
  split
  · exact ⟨rfl, rfl⟩
  · exact ⟨rfl, rfl⟩
  · split
    · rename_i ht
      have hkeeps := transAlloc_keeps ht
      exact hkeeps
    · exact ⟨rfl, rfl⟩
  · exact ⟨rfl, rfl⟩

theorem exec_cryptoJobDone_front {j : Job} {q : List Job} {s : State} (h : s.keys.queue = j :: q) :
    exec .cryptoJobDone s = .next (match fin? 32 j.point with
      | some p => (frontDone j q s).modSes p fun x => { x with stalled := false }
      | none => frontDone j q s) := by
  change execCryptoJobDone s = _
  unfold execCryptoJobDone
  rw [h]
  rfl

theorem cryptoJobDone_front {j : Job} {q : List Job} {s : State} (h : s.keys.queue = j :: q) :
    Does .cryptoJobDone s [.keys, .ses] fun t => t.keys.queue = q ∧ t.keys.slots = s.keys.slots ∧
      (∀ i : Fin 32, i.val = j.point → t.ses[i].stalled = false) ∧
      (j.op = .sign → t.keys.result =
        some { owner := j.owner, op := .sign, slot := j.slot, reason := 0, data := Config.ecdsaSign (slotSecret s j.slot) j.data 0 }) := by
  obtain ⟨t, ht, hu⟩ := upd_execCryptoJobDone s
  refine ⟨t, ht, hu, ?_⟩
  have hexec := (exec_cryptoJobDone_front h).symm.trans ht
  have hkeys : t.keys = (frontDone j q s).keys := by
    split at hexec <;> cases hexec <;> rfl
  obtain ⟨hqueue, hslots⟩ := jobResult_keeps j (s.modKeys fun k => { k with queue := q })
  dsimp only
  rw [hkeys]
  refine ⟨hqueue, hslots, fun i hi => ?_, fun hop => ?_⟩
  · rw [← hi, fin?_val] at hexec
    cases hexec
    rw [State.modSes_ses]
    simp
  · simp only [frontDone, jobResult, hop]
    rfl

/-- Settles O9: symmetric operations answer at once, a derivation takes a transient slot, an asymmetric one is queued, stalled or refused,
and the front job completes. -/
theorem keySlotOperations : Obligations.KeySlotOperations := by
  unfold Obligations.KeySlotOperations
  refine ⟨?_, ?_, ?_, ?_, ?_, ?_, ?_⟩
  · exact fun _ _ _ _ _ hml => slotMac_answered hml
  · exact fun _ _ _ _ hml => slotEncrypt_answered hml
  · exact fun _ _ _ _ hml => slotDecrypt_answered hml
  · exact fun _ _ _ _ _ _ hml hc hq hf => slotDerive_takes_transient hml hc hq hf
  · exact fun _ _ _ _ _ _ _ hml hc => ⟨asymCommand_queued hc hml, asymCommand_stalls hc hml, asymCommand_refused hc hml⟩
  · exact fun _ _ _ h => cryptoJobDone_front h
  · intro s h
    change execCryptoJobDone s = _
    unfold execCryptoJobDone
    rw [h]

end Sys2Proof.Machine
end

section
/-! PROOF. Orders held for their boundary, and what the boundary does with them (02 R69; 04 R139, R141; 10 R357, R358; 12 R431; 13 R457, R458;
21 R698). -/

namespace Sys2Proof.Machine

/-- The event of a refused order is the one that its content alone would raise. -/
theorem orderDone_refusal_ev {o : OrderRec} (hsrc : o.src = .rdo) (w r code src pt arg : Nat) (s : State) :
    (orderDone o r (raise code src pt arg (orderTaken o w s))).ev = (raise code src pt arg s).ev := by
  rw [orderDone_ev_rdo hsrc, (upd_orderTaken o w s).raise_ev rfl rfl rfl rfl]

theorem effectAt_orderTaken (o : OrderRec) (w c : Nat) (s : State) : effectAt (orderTaken o w s) c = effectAt s c := by
  rw [effectAt, effectAt, (upd_orderTaken o w s).clk rfl]

/-! A time set is held for the next boundary (21 R698). -/

theorem offBuffer_pend : OffBuffer Sen.pend := fun _ _ _ => rfl

/-- The set that a payload asks for. -/
def timeSetAsked (p : List W128) (s : State) : TimeSet :=
  { rtcS := fld (pWord p 0) 127 64, sub := fld (pWord p 0) 63 49, refCount := fld (pWord p 1) 127 64, bnd := s.clk.bndTot }

/-- What ORDER_TIME_SET makes of its payload: the set pending, or event 0x7131 with the reason (21 R698). -/
def timeSetOrder (p : List W128) (s : State) : Nat × State :=
  if timeSetReason p s = 0 then (0, s.modSen fun e => { e with pend := some (timeSetAsked p s) })
  else (timeSetReason p s, raise 0x7131 1 255 (timeSetReason p s) s)

theorem exec_orderTimeSet (o : OrderRec) (s : State) : exec (.orderTimeSet o) s = .next (ordered [1] o timeSetOrder s) := by
  change execOrderTimeSet o s = _
  unfold execOrderTimeSet
  congr 2
  funext p s
  unfold timeSetOrder
  split
  · rw [if_pos ‹_›]
    rfl
  · rw [if_neg ‹_›]

/-- The checks of R698 read the clock alone. -/
theorem timeSetReason_congr (p : List W128) {s t : State} (h : t.clk = s.clk) : timeSetReason p t = timeSetReason p s := by
  change timeSetReason p (State.reset.modClk fun _ => t.clk) = _
  rw [h]
  rfl

theorem upd_timeSetOrder (p : List W128) (s : State) : Upd [.ev, .sen] s (timeSetOrder p s).2 := by
  unfold timeSetOrder
  split
  · dsimp only
    exact .comp (upd_modSen ..) rfl (Upd.refl _ s)
  · exact upd_raise ..

theorem timeSetOrder_reason (p : List W128) (s : State) : (timeSetOrder p s).1 = timeSetReason p s := by
  unfold timeSetOrder
  split
  · exact Eq.symm ‹_›
  · rfl

/-- What a time set leaves: pending in SEN, or what SEN held and event 0x7131 (21 R698). -/
def TimeSetJudged (o : OrderRec) (s t : State) : Prop :=
  if timeSetReason (oPayload o) s = 0 then t.sen.pend = some (timeSetAsked (oPayload o) s)
  else t.sen.pend = s.sen.pend ∧ (o.src = .rdo → t.ev = (raise 0x7131 1 255 (timeSetReason (oPayload o) s) s).ev)

theorem timeSetOrder_judged (o : OrderRec) (w : Nat) (s : State) :
    TimeSetJudged o s (orderDone o (timeSetReason (oPayload o) s) (timeSetOrder (oPayload o) (orderTaken o w s)).2) := by
  have hu := upd_orderTaken o w s
  have hreason := timeSetReason_congr (oPayload o) (hu.clk rfl)
  unfold TimeSetJudged timeSetOrder
  rw [orderDone_sen_read offBuffer_pend, hreason]
  split
  · rw [State.modSen_sen, timeSetAsked, timeSetAsked, hu.clk rfl]
  · refine ⟨?_, fun hsrc => orderDone_refusal_ev hsrc ..⟩
    rw [raise_sen_read offBuffer_pend, hu.sen rfl]

theorem timeSetOrder_acts : OrderActs .orderTimeSet [1] (fun _ => true) [.gates, .keys, .mbus, .lnk, .ev, .sen]
    (fun o s => timeSetReason (oPayload o) s) TimeSetJudged :=
  orderActs_of_action exec_orderTimeSet upd_execOrderTimeSet upd_timeSetOrder rfl rfl rfl
    (fun o w s => (timeSetOrder_reason ..).trans (timeSetReason_congr _ ((upd_orderTaken o w s).clk rfl)))
    fun o w s _ => timeSetOrder_judged o w s

/-! The service state of points is held for its count (10 R357, R358). -/

theorem mem_maskPoints {m : Nat} {i : Fin 32} : i ∈ maskPoints m ↔ bitOf m i.val = true := by
  simp [maskPoints, mem_finList]

/-- The service state that a payload asks for, with its effective count. -/
def serviceAsked (p : List W128) (s : State) : Bool × Nat := (fld (pWord p 0) 95 88 == 1, effectAt s (fld (pWord p 0) 63 0))

/-- The service state is pending at every point that the payload names. -/
def servicePending (p : List W128) (s : State) : State :=
  (maskPoints (fld (pWord p 0) 127 96)).foldl (fun u i => u.modCp i fun x => { x with svcPend := some (serviceAsked p s) }) s

theorem servicePending_cp (p : List W128) (s : State) (i : Fin 32) : (servicePending p s).cp[i] =
    if bitOf (fld (pWord p 0) 127 96) i.val then { s.cp[i] with svcPend := some (serviceAsked p s) } else s.cp[i] := by
  have h := foldl_entries (p := fun u (i : Fin 32) => u.cp[i]) (K := fun _ => True)
    (F := fun u i => u.modCp i fun x => { x with svcPend := some (serviceAsked p s) })
    (g := fun x => { x with svcPend := some (serviceAsked p s) }) (fun _ _ _ => trivial) (fun u j _ => by simp)
    (fun u i j hij => modCp_cp_other hij _ u) ((finList_nodup 32).filter _) (s := s) trivial i
      (l := maskPoints (fld (pWord p 0) 127 96))
  simp only [mem_maskPoints] at h
  exact h

theorem upd_servicePending (p : List W128) (s : State) : Upd [.cp] s (servicePending p s) :=
  Upd.foldl (fun _ _ hu => .comp (upd_modCp ..) rfl hu) (Upd.refl _ s)

/-- What ORDER_POINT_SERVICE makes of its payload: the service states pending, or event 0x4103 with the reason (10 R357, R358). -/
def serviceOrder (p : List W128) (s : State) : Nat × State :=
  if svcReason p s = 0 then (0, servicePending p s) else (svcReason p s, raise 0x4103 1 255 (svcReason p s) s)

theorem exec_orderPointService (o : OrderRec) (s : State) : exec (.orderPointService o) s = .next (ordered [2] o serviceOrder s) := by
  change execOrderPointService o s = _
  unfold execOrderPointService
  congr 2
  funext p s
  unfold serviceOrder svcReason
  dsimp only
  split
  · rfl
  · split <;> rfl

/-- The checks of R358 read the running image alone. -/
theorem svcReason_congr (p : List W128) {s t : State} (h : t.img = s.img) : svcReason p t = svcReason p s := by
  change svcReason p (State.reset.modImg fun _ => t.img) = _
  rw [h]
  rfl

theorem upd_serviceOrder (p : List W128) (s : State) : Upd [.cp, .ev, .sen] s (serviceOrder p s).2 := by
  unfold serviceOrder
  split
  · exact (upd_servicePending p s).mono rfl
  · exact (upd_raise ..).mono rfl

theorem serviceOrder_reason (p : List W128) (s : State) : (serviceOrder p s).1 = svcReason p s := by
  unfold serviceOrder
  split
  · exact Eq.symm ‹_›
  · rfl

/-- What a service order leaves: the state pending at the points it names, or the points as they were and event 0x4103 (10 R357, R358). -/
def ServiceJudged (o : OrderRec) (s t : State) : Prop :=
  if svcReason (oPayload o) s = 0 then
    ∀ i : Fin 32, t.cp[i] = if bitOf (fld (pWord (oPayload o) 0) 127 96) i.val then
      { s.cp[i] with svcPend := some (serviceAsked (oPayload o) s) } else s.cp[i]
  else t.cp = s.cp ∧ (o.src = .rdo → t.ev = (raise 0x4103 1 255 (svcReason (oPayload o) s) s).ev)

theorem serviceOrder_judged (o : OrderRec) (w : Nat) (s : State) :
    ServiceJudged o s (orderDone o (svcReason (oPayload o) s) (serviceOrder (oPayload o) (orderTaken o w s)).2) := by
  have hu := upd_orderTaken o w s
  unfold ServiceJudged serviceOrder
  rw [(upd_orderDone ..).cp rfl, svcReason_congr (oPayload o) (hu.img rfl)]
  split
  · intro i
    rw [servicePending_cp, serviceAsked, serviceAsked, effectAt_orderTaken, hu.cp rfl]
  · refine ⟨?_, fun hsrc => orderDone_refusal_ev hsrc ..⟩
    rw [raise_cp, hu.cp rfl]

theorem serviceOrder_acts : OrderActs .orderPointService [2] (fun _ => true) [.gates, .keys, .cp, .mbus, .lnk, .ev, .sen]
    (fun o s => svcReason (oPayload o) s) ServiceJudged :=
  orderActs_of_action exec_orderPointService upd_execOrderPointService upd_serviceOrder rfl rfl rfl
    (fun o w s => (serviceOrder_reason ..).trans (svcReason_congr _ ((upd_orderTaken o w s).img rfl)))
    fun o w s _ => serviceOrder_judged o w s

/-! A block or unblock of a tenant is held for its count (13 R457, R458). -/

/-- The check of R457 reads the payload alone. -/
theorem blockOrder_reason_congr (set : Bool) (p : List W128) (s t : State) : (blockOrder set p t).1 = (blockOrder set p s).1 := by
  unfold blockOrder
  dsimp only
  split <;> rfl

theorem blockOrder_accepted {set : Bool} {p : List W128} {s : State} (h : (blockOrder set p s).1 = 0) : (blockOrder set p s).2 =
    s.modLed fun l => { l with blockPend := l.blockPend ++ [(fld (pWord p 0) 127 112, set, effectAt s (fld (pWord p 0) 63 0))] } := by
  unfold blockOrder at h ⊢
  dsimp only at h ⊢
  split
  · rw [if_pos ‹_›] at h
    cases h
  · rfl

theorem blockOrder_refused {set : Bool} {p : List W128} {s : State} (h : (blockOrder set p s).1 ≠ 0) : (blockOrder set p s).2 =
    raise 0x5022 3 255 (2 ^ 24 + (if set then 3 else 4) * 2 ^ 16 + fld (pWord p 0) 127 112) s := by
  unfold blockOrder at h ⊢
  dsimp only at h ⊢
  split
  · rfl
  · rw [if_neg ‹_›] at h
    exact absurd rfl h

/-- What a block or unblock leaves: the act pending behind those before it, or the ledger as it was and event 0x5022 (13 R457, R458). -/
def BlockJudged (set : Bool) (o : OrderRec) (s t : State) : Prop :=
  if (blockOrder set (oPayload o) s).1 = 0 then
    t.led = { s.led with blockPend := s.led.blockPend ++
      [(fld (pWord (oPayload o) 0) 127 112, set, effectAt s (fld (pWord (oPayload o) 0) 63 0))] }
  else t.led = s.led ∧ (o.src = .rdo →
    t.ev = (raise 0x5022 3 255 (2 ^ 24 + (if set then 3 else 4) * 2 ^ 16 + fld (pWord (oPayload o) 0) 127 112) s).ev)

theorem blockOrder_judged (set : Bool) (o : OrderRec) (w : Nat) (s : State) :
    BlockJudged set o s (orderDone o (blockOrder set (oPayload o) s).1 (blockOrder set (oPayload o) (orderTaken o w s)).2) := by
  have hu := upd_orderTaken o w s
  have hreason := blockOrder_reason_congr set (oPayload o) s (orderTaken o w s)
  unfold BlockJudged
  rw [(upd_orderDone ..).led rfl]
  split
  · rename_i h
    rw [blockOrder_accepted (hreason.trans h), State.modLed_led, effectAt_orderTaken, hu.led rfl]
  · rename_i h
    rw [← hreason] at h
    rw [blockOrder_refused h, raise_led, hu.led rfl]
    exact ⟨rfl, fun hsrc => orderDone_refusal_ev hsrc ..⟩

/-- A command that runs `blockOrder` of a TYPE acts as a block or unblock order. -/
theorem blockOrder_acts {c : OrderRec → Instr} {typ : Nat} {set : Bool} {P : List Part}
    (hexec : ∀ o s, exec (c o) s = .next (ordered [typ] o (blockOrder set) s)) (hupd : ∀ o s, ∃ t, exec (c o) s = .next t ∧ Upd P s t) :
    OrderActs c [typ] (fun _ => true) P (fun o s => (blockOrder set (oPayload o) s).1) (BlockJudged set) :=
  orderActs_of_action hexec hupd (upd_blockOrder set) rfl rfl rfl (fun _ _ _ => blockOrder_reason_congr ..)
    fun o w s _ => blockOrder_judged set o w s

/-! An order of a TYPE that does not exist (04 R141). -/

theorem exec_orderUnknownType {o : OrderRec} {s : State} (ht : knownType (oType o) = false) (hv : validates s = true) :
    exec (.orderUnknownType o) s =
      .next (orderDone o 1 (raise 0x6120 1 255 (2 ^ 24 + oType o * 2 ^ 16 + oAuth o * 2 ^ 8) (orderOut o s))) := by
  change execOrderUnknownType o s = _
  unfold execOrderUnknownType
  rw [if_neg (by simp [ht, hv])]
  rfl

theorem orderUnknownType_refused {o : OrderRec} {s : State} (ht : knownType (oType o) = false) (hv : validates s = true) :
    Does (.orderUnknownType o) s [.gates, .mbus, .lnk, .ev, .sen] fun t =>
      t.gates.orderInlet = s.gates.orderInlet.erase o ∧
        (o.src = .rdo → s.mbus.ordTag = o.tag → t.mbus.ordResult = 11 ∧ t.mbus.ordReason = 1) ∧
        (o.src = .rdo → t.ev = (raise 0x6120 1 255 (2 ^ 24 + oType o * 2 ^ 16 + oAuth o * 2 ^ 8) s).ev) := by
  have ho := upd_orderOut o s
  refine ⟨_, exec_orderUnknownType ht hv, .comp (upd_orderDone ..) rfl (.comp (upd_raise ..) rfl (ho.mono rfl)), ?_, ?_, ?_⟩
  · rw [(upd_orderDone ..).gates rfl, raise_gates]
    rfl
  · intro hsrc htag
    rw [orderDone_mbus_rdo hsrc 1 (by rw [raise_mbus, ho.mbus rfl, htag])]
    exact ⟨rfl, rfl⟩
  · intro hsrc
    rw [orderDone_ev_rdo hsrc, ho.raise_ev rfl rfl rfl rfl]

/-! A time set at its boundary (02 R69; 21 R698). -/

/-- What SEN holds of the time: the set pending, RTC_VALID and the RTC. -/
def senTime (x : Sen) : Option TimeSet × Bool × Nat × Nat := (x.pend, x.rtcValid, x.rtcS, x.rtcSub)

theorem offBuffer_senTime : OffBuffer senTime := fun _ _ _ => rfl

theorem ledDue_sen_read {β : Type} {p : Sen → β} (hp : OffBuffer p) (s : State) : p (ledDue s).sen = p s.sen := by
  unfold ledDue
  extract_lets period
  -- the instants are abstracted first: a reduction of their long runs would exhaust the kernel
  generalize passInstants _ _ 300 _ = closes
  generalize passInstants _ _ 3600 _ = snaps
  split
  · rfl
  · split
    · rw [State.modLed_sen]
    · dsimp only
      split <;> split <;> simp only [State.modLed_sen, raiseIf_sen_read hp]

theorem rtcActions_sen_read {β : Type} {p : Sen → β} (hp : OffBuffer p) (s : State) : p (rtcActions s).sen = p s.sen := by
  unfold rtcActions
  dsimp only
  rw [(upd_replayBoundary _).sen rfl]
  split
  · exact ledDue_sen_read hp s
  · rfl

/-- What follows a set at the boundary leaves the time of SEN. -/
theorem applyTimeSet_senTime (p : TimeSet) (s : State) :
    senTime (applyTimeSet p s).sen = (none, true, setInstant p s / 32768, setInstant p s % 32768) := by
  unfold applyTimeSet
  dsimp only
  rw [rtcActions_sen_read offBuffer_senTime, (upd_midnight ..).sen rfl, raise_sen_read offBuffer_senTime]
  rfl

theorem applyTimeSet_clk (p : TimeSet) (s : State) : (applyTimeSet p s).clk =
    { s.clk with rtcS := setInstant p s / 32768, rtcSub := setInstant p s % 32768 } := by
  unfold applyTimeSet
  dsimp only
  rw [(upd_rtcActions _).clk rfl, (upd_midnight ..).clk rfl, raise_clk]
  rfl

theorem applyTimeSet_tamper (p : TimeSet) (s : State) : (applyTimeSet p s).tamper =
    { s.tamper with clock := s.tamper.clock.hit (p.rtcS % 2 ^ 55, false) } := by
  unfold applyTimeSet
  dsimp only
  rw [(upd_rtcActions _).tamper rfl, (upd_midnight ..).tamper rfl, raise_tamper]
  rfl

theorem exec_timeSetApply_due {p : TimeSet} {s : State} (hp : s.sen.pend = some p) (hst : s.sen.st ≠ .cold) (hdue : setDue s = true)
    (hml : s.sen.mlSig = false) : exec .timeSetApply s = .next (publishAll (applyTimeSet p s)) := by
  change execTimeSetApply s = _
  unfold execTimeSetApply
  rw [hp]
  dsimp only
  rw [if_neg (by simp [hst, hdue, hml])]

theorem timeSetApply_due {p : TimeSet} {s : State} (hp : s.sen.pend = some p) (hst : s.sen.st ≠ .cold) (hdue : setDue s = true)
    (hml : s.sen.mlSig = false) :
    Does .timeSetApply s [.gates, .clk, .safe, .authSys, .led, .ev, .sen, .tamper, .freeCtr] fun t =>
      t.sen.pend = none ∧ t.sen.rtcValid = true ∧ t.sen.rtcS = setInstant p s / 32768 ∧ t.sen.rtcSub = setInstant p s % 32768 ∧
        t.clk.rtcS = t.sen.rtcS ∧ t.clk.rtcSub = t.sen.rtcSub ∧ t.clk.count = s.clk.count ∧
        t.tamper.clock = s.tamper.clock.hit (p.rtcS % 2 ^ 55, false) := by
  have htime := applyTimeSet_senTime p s
  simp only [senTime, Prod.mk.injEq] at htime
  obtain ⟨hpend, hvalid, hs, hsub⟩ := htime
  refine ⟨_, exec_timeSetApply_due hp hst hdue hml, .comp (upd_publishAll _) rfl ((upd_applyTimeSet p s).mono rfl), ?_⟩
  dsimp only
  rw [publishAll_sen, publishAll_clk, publishAll_tamper, applyTimeSet_clk, applyTimeSet_tamper]
  exact ⟨hpend, hvalid, hs, hsub, hs.symm, hsub.symm, rfl, rfl⟩

/-! Service states at their count (10 R357). -/

/-- A point's record once the service state due at a count is in force. -/
def serviceDue (count : Nat) (x : PtCp) : PtCp :=
  match x.svcPend with
  | some (st, c) => if c ≤ count then { x with service := some st, svcPend := none } else x
  | none => x

/-- The step of SERVICE_STATE_APPLY at one point. -/
def serviceStep (s : State) (i : Fin 32) : State :=
  match s.cp[i].svcPend with
  | some (st, c) => if c ≤ s.clk.count then s.modCp i fun x => { x with service := some st, svcPend := none } else s
  | none => s

theorem serviceStep_cp_same (s : State) (i : Fin 32) : (serviceStep s i).cp[i] = serviceDue s.clk.count s.cp[i] := by
  unfold serviceStep serviceDue
  cases s.cp[i].svcPend with
  | none => rfl
  | some x =>
    dsimp only
    split
    · rw [modCp_cp_same]
    · rfl

theorem serviceStep_cp_other {i j : Fin 32} (h : i ≠ j) (s : State) : (serviceStep s j).cp[i] = s.cp[i] := by
  unfold serviceStep
  split
  · split
    · exact modCp_cp_other h ..
    · rfl
  · rfl

theorem serviceStep_clk (s : State) (i : Fin 32) : (serviceStep s i).clk = s.clk := by
  unfold serviceStep
  split
  · split <;> rfl
  · rfl

theorem doServiceStateApply_cp (s : State) (i : Fin 32) : (doServiceStateApply s).cp[i] = serviceDue s.clk.count s.cp[i] := by
  have h := foldl_entries (p := fun u (i : Fin 32) => u.cp[i]) (K := fun u => u.clk = s.clk) (F := serviceStep) (g := serviceDue s.clk.count)
    (fun u j hu => (serviceStep_clk u j).trans hu) (fun u j hu => by rw [serviceStep_cp_same, hu])
    (fun u i j hij => serviceStep_cp_other hij u) (finList_nodup 32) (s := s) rfl i
  rw [if_pos (mem_finList i)] at h
  exact h

theorem serviceStateApply_acts (s : State) :
    Does .serviceStateApply s [.gates, .cp, .freeCtr] fun t => ∀ i : Fin 32, t.cp[i] = serviceDue s.clk.count s.cp[i] := by
  refine ⟨atBoundary s (doServiceStateApply s), rfl, upd_atBoundary s _ rfl (Upd.refl _ s) ((upd_doServiceStateApply s).mono rfl), fun i => ?_⟩
  rw [atBoundary_cp, doServiceStateApply_cp]

/-! The block list at its count (12 R431; 13 R458, R459). -/

/-- The act due leads the list and the others are not due. -/
theorem blockPend_due {e : Nat × Bool × Nat} {rest : List (Nat × Bool × Nat)} {count : Nat} (hdue : e.2.2 ≤ count)
    (hrest : ∀ x ∈ rest, count < x.2.2) :
    (e :: rest).filter (fun x => decide (x.2.2 ≤ count)) = [e] ∧ (e :: rest).filter (fun x => !decide (x.2.2 ≤ count)) = rest := by
  have hnone : rest.filter (fun x => decide (x.2.2 ≤ count)) = [] :=
    List.filter_eq_nil_iff.mpr fun x hx => by simpa using hrest x hx
  have hall : rest.filter (fun x => !decide (x.2.2 ≤ count)) = rest :=
    List.filter_eq_self.mpr fun x hx => by simpa using hrest x hx
  simp [hdue, hnone, hall]

/-- With one act due the boundary applies it and publishes the list. -/
theorem doTenantBlockApply_due {ten c : Nat} {set : Bool} {rest : List (Nat × Bool × Nat)} {s : State}
    (hp : s.led.blockPend = (ten, set, c) :: rest) (hc : c ≤ s.clk.count) (hrest : ∀ e ∈ rest, s.clk.count < e.2.2) :
    doTenantBlockApply s = publishLedger (blockApply ten set (s.modLed fun l => { l with blockPend := rest })) := by
  obtain ⟨hdue, hleft⟩ := blockPend_due (e := (ten, set, c)) hc hrest
  unfold doTenantBlockApply
  rw [hp, hdue]
  simp only [State.modLed, hp, hleft]
  rfl

/-- The block list of one act. -/
def blocksAfter (ten : Nat) (set : Bool) (l : List Nat) : List Nat := if set then insertAsc ten l else l.filter (· != ten)

/-- The list is changed and the act reported (13 R458). -/
def blockNoted (ten : Nat) (set : Bool) (s : State) : State :=
  raise (if set then 0x5020 else 0x5021) 3 255 (ten + (if s.led.blocks.contains ten = set then 2 ^ 31 else 0))
    (s.modLed fun l => { l with blocks := blocksAfter ten set l.blocks })

theorem blockNoted_led (ten : Nat) (set : Bool) (s : State) :
    (blockNoted ten set s).led = { s.led with blocks := blocksAfter ten set s.led.blocks } := by
  rw [blockNoted, raise_led, State.modLed_led]

/-- A blocked tenant's session at one point is to end with reason 12 (13 R459; 12 R431). -/
def blockEnds (ten : Nat) (s : State) (i : Fin 32) : State :=
  match s.led.binds[i] with
  | some b => if b.tenant = ten && b.endReason.isNone then (sesEnd i 12 s).modSes i fun x => { x with ended := some 12 } else s
  | none => s

theorem blockApply_unblock (ten : Nat) (s : State) : blockApply ten false s = blockNoted ten false s := rfl

theorem blockApply_block (ten : Nat) (s : State) : blockApply ten true s = (finList 32).foldl (blockEnds ten) (blockNoted ten true s) := rfl

theorem blockEnds_led (ten : Nat) (s : State) (i : Fin 32) : (blockEnds ten s i).led = s.led := by
  unfold blockEnds
  split
  · split
    · exact (upd_sesEnd ..).led rfl
    · rfl
  · rfl

theorem blockApply_led (ten : Nat) (set : Bool) (s : State) :
    (blockApply ten set s).led = { s.led with blocks := blocksAfter ten set s.led.blocks } := by
  cases set with
  | false => rw [blockApply_unblock, blockNoted_led]
  | true => rw [blockApply_block, foldl_same State.led _ _ _ (blockEnds_led ten), blockNoted_led]

theorem blockEnds_ended_same {ten : Nat} {s : State} {i : Fin 32} {b : Binding} (hb : s.led.binds[i] = some b) (ht : b.tenant = ten)
    (he : b.endReason = none) : (blockEnds ten s i).ses[i].ended = some 12 := by
  simp [blockEnds, hb, ht, he]

theorem sesEnd_ses_other {i j : Fin 32} (h : i ≠ j) (reason : Nat) (s : State) : (sesEnd j reason s).ses[i] = s.ses[i] := by
  unfold sesEnd
  dsimp only
  rw [modSes_ses_other h, (upd_openReq ..).ses rfl]
  split
  · rw [modSes_ses_other h, raise_ses]
    rfl
  · rfl

/-- A session that is to end with reason 12 stays so when other points are gone through, and at its own point. -/
theorem blockEnds_ended_keeps {ten : Nat} {s : State} {i : Fin 32} (j : Fin 32) (h : s.ses[i].ended = some 12) :
    (blockEnds ten s j).ses[i].ended = some 12 := by
  unfold blockEnds
  split
  · split
    · by_cases hij : i = j
      · subst hij
        simp
      · rwa [modSes_ses_other hij, sesEnd_ses_other hij]
    · exact h
  · exact h

theorem blockApply_ends {ten : Nat} {s : State} {i : Fin 32} {b : Binding} (hb : s.led.binds[i] = some b) (ht : b.tenant = ten)
    (he : b.endReason = none) : (blockApply ten true s).ses[i].ended = some 12 := by
  rw [blockApply_block]
  refine foldl_reaches (P := fun u => u.led.binds[i] = some b) (Q := fun u => u.ses[i].ended = some 12) (mem_finList i) ?_
    (fun u j hu => by rwa [blockEnds_led]) (fun u hu => blockEnds_ended_same hu ht he) (fun u j hu => blockEnds_ended_keeps j hu)
  rw [blockNoted_led]
  exact hb

theorem publishLedger_blockSnap (s : State) : (publishLedger s).gates.blockSnap = s.led.blocks := rfl

theorem publishAll_blockSnap (s : State) : (publishAll s).gates.blockSnap = s.led.blocks := rfl

/-- A boundary action that publishes the block list is left with the list published. -/
theorem atBoundary_blockSnap (s : State) {t : State} (h : t.gates.blockSnap = t.led.blocks) :
    (atBoundary s t).gates.blockSnap = t.led.blocks := by
  unfold atBoundary
  split
  · subst t
    exact h
  · split
    · exact h
    · exact publishAll_blockSnap t

section
variable {ten c : Nat} {set : Bool} {rest : List (Nat × Bool × Nat)} {s : State} (hp : s.led.blockPend = (ten, set, c) :: rest)
  (hc : c ≤ s.clk.count) (hrest : ∀ e ∈ rest, s.clk.count < e.2.2)
include hp hc hrest

theorem doTenantBlockApply_led : (doTenantBlockApply s).led = { s.led with blockPend := rest, blocks := blocksAfter ten set s.led.blocks } := by
  rw [doTenantBlockApply_due hp hc hrest, (upd_publishLedger _).led rfl, blockApply_led, State.modLed_led]

theorem doTenantBlockApply_blockSnap : (doTenantBlockApply s).gates.blockSnap = (doTenantBlockApply s).led.blocks := by
  rw [doTenantBlockApply_due hp hc hrest, publishLedger_blockSnap, (upd_publishLedger _).led rfl]

/-- What the boundary leaves of the block list: the act done, the later ones pending, the list published. -/
theorem atBoundary_tenantBlock : (atBoundary s (doTenantBlockApply s)).led.blocks = blocksAfter ten set s.led.blocks ∧
    (atBoundary s (doTenantBlockApply s)).led.blockPend = rest ∧
    (atBoundary s (doTenantBlockApply s)).gates.blockSnap = (atBoundary s (doTenantBlockApply s)).led.blocks := by
  rw [atBoundary_blockSnap s (doTenantBlockApply_blockSnap hp hc hrest), atBoundary_led, doTenantBlockApply_led hp hc hrest]
  exact ⟨rfl, rfl, rfl⟩

end

theorem tenantBlockApply_block {ten c : Nat} {rest : List (Nat × Bool × Nat)} {s : State} (hp : s.led.blockPend = (ten, true, c) :: rest)
    (hc : c ≤ s.clk.count) (hrest : ∀ e ∈ rest, s.clk.count < e.2.2) :
    Does .tenantBlockApply s [.gates, .psafe, .ses, .led, .ev, .sen, .freeCtr] fun t =>
      t.led.blocks = insertAsc ten s.led.blocks ∧ t.led.blockPend = rest ∧ t.gates.blockSnap = t.led.blocks ∧
        ∀ (i : Fin 32) (b : Binding), s.led.binds[i] = some b → b.tenant = ten → b.endReason = none → t.ses[i].ended = some 12 := by
  obtain ⟨hblocks, hpend, hsnap⟩ := atBoundary_tenantBlock hp hc hrest
  refine ⟨atBoundary s (doTenantBlockApply s), rfl, upd_atBoundary s _ rfl (Upd.refl _ s) ((upd_doTenantBlockApply s).mono rfl), hblocks, hpend,
    hsnap, fun i b hb hten hend => ?_⟩
  rw [atBoundary_ses, doTenantBlockApply_due hp hc hrest, (upd_publishLedger _).ses rfl]
  exact blockApply_ends (s := s.modLed fun l => { l with blockPend := rest }) hb hten hend

theorem tenantBlockApply_unblock {ten c : Nat} {rest : List (Nat × Bool × Nat)} {s : State} (hp : s.led.blockPend = (ten, false, c) :: rest)
    (hc : c ≤ s.clk.count) (hrest : ∀ e ∈ rest, s.clk.count < e.2.2) :
    Does .tenantBlockApply s [.gates, .led, .ev, .sen, .freeCtr] fun t =>
      t.led.blocks = s.led.blocks.filter (· != ten) ∧ t.led.blockPend = rest ∧ t.gates.blockSnap = t.led.blocks ∧
        t.ev = (raise 0x5021 3 255 (ten + (if s.led.blocks.contains ten then 0 else 2 ^ 31)) s).ev := by
  obtain ⟨hblocks, hpend, hsnap⟩ := atBoundary_tenantBlock hp hc hrest
  refine ⟨atBoundary s (doTenantBlockApply s), rfl, ?_, hblocks, hpend, hsnap, ?_⟩
  · refine upd_atBoundary s _ rfl (Upd.refl _ s) ?_
    rw [doTenantBlockApply_due hp hc hrest, blockApply_unblock]
    exact .comp (upd_publishLedger _) rfl (.comp (upd_raise ..) rfl (.comp (upd_modLed ..) rfl ((upd_modLed ..).mono rfl)))
  · have hflag : (if s.led.blocks.contains ten = false then 2 ^ 31 else 0) = if s.led.blocks.contains ten then 0 else 2 ^ 31 := by
      cases s.led.blocks.contains ten <;> rfl
    rw [atBoundary_ev, doTenantBlockApply_due hp hc hrest, blockApply_unblock, (upd_publishLedger _).ev rfl, ← hflag]
    exact raise_ev_congr rfl rfl rfl rfl rfl rfl

/-- Settles O8: four orders are held or refused by their content, an unknown TYPE fails its framing check, and each boundary action does what
was held for it. -/
theorem ordersThatWaitAndAct : Obligations.OrdersThatWaitAndAct := by
  unfold Obligations.OrdersThatWaitAndAct
  refine ⟨timeSetOrder_acts, serviceOrder_acts, blockOrder_acts (fun _ _ => rfl) upd_execOrderTenantBlock,
    blockOrder_acts (fun _ _ => rfl) upd_execOrderTenantUnblock, ?_, ?_, ?_, serviceStateApply_acts, ?_, ?_⟩
  · exact fun _ _ ht hv => orderUnknownType_refused ht hv
  · exact fun _ _ hp hst hdue hml => timeSetApply_due hp hst hdue hml
  · intro s hp
    change execTimeSetApply s = _
    unfold execTimeSetApply
    rw [hp]
  · exact fun _ _ _ _ hp hc hrest => tenantBlockApply_block hp hc hrest
  · exact fun _ _ _ _ hp hc hrest => tenantBlockApply_unblock hp hc hrest

end Sys2Proof.Machine
end

section
/-! PROOF. Progress of a delivery and asset fetches (05 R176, R177, R180, R181). -/

namespace Sys2Proof.Machine

/-! The erasure (05 R180). -/

/-- Cells left out by their address read as the default, the others as they did. -/
theorem memRead_filter_addr {d : Byte} (keep : Nat → Bool) (a : Nat) (m : List Host.Cell) :
    memRead d (m.filter fun c => keep c.1) a = if keep a then memRead d m a else d := by
  induction m with
  | nil => exact (ite_self d).symm
  | cons c cs ih =>
    rw [List.filter_cons, memRead_cons]
    by_cases ha : c.1 = a
    · subst ha
      cases hk : keep c.1 <;> simp [ih, hk, memRead_cons]
    · rw [if_neg ha, ← ih]
      split
      · rw [memRead_cons, if_neg ha]
      · rfl

theorem memRead_flashErase (a n : Nat) (s : State) (x : Nat) : memRead 0xFF#8 (flashErase a n s).flash.mem x =
    if a ≤ x ∧ x < a + n then 0xFF#8 else memRead 0xFF#8 s.flash.mem x := by
  have h := memRead_filter_addr (d := 0xFF#8) (fun y => decide (y < a) || decide (a + n ≤ y)) x s.flash.mem
  rw [flashErase, State.modFlash_flash, h]
  by_cases hx : a ≤ x ∧ x < a + n
  · rw [if_pos hx, if_neg (by simp; omega)]
  · rw [if_neg hx, if_pos (by simp; omega)]

/-- The target slot and the write range of the delivery are erased (05 R180). -/
def deliveryErased (s : State) : State :=
  flashErase (assetBase + s.dlv.awOff) s.dlv.awLen (flashErase (slotBase s.dlv.slot) 0x200000 s)

theorem deliveryErased_dlv (s : State) : (deliveryErased s).dlv = s.dlv := rfl

theorem memRead_deliveryErased (s : State) (a : Nat) : memRead 0xFF#8 (deliveryErased s).flash.mem a =
    if (slotBase s.dlv.slot ≤ a ∧ a < slotBase s.dlv.slot + 0x200000) ∨
       (assetBase + s.dlv.awOff ≤ a ∧ a < assetBase + s.dlv.awOff + s.dlv.awLen) then 0xFF#8
    else memRead 0xFF#8 s.flash.mem a := by
  rw [deliveryErased, memRead_flashErase, memRead_flashErase]
  by_cases hasset : assetBase + s.dlv.awOff ≤ a ∧ a < assetBase + s.dlv.awOff + s.dlv.awLen
  · rw [if_pos hasset, if_pos (.inr hasset)]
  · rw [if_neg hasset]
    by_cases hslot : slotBase s.dlv.slot ≤ a ∧ a < slotBase s.dlv.slot + 0x200000
    · rw [if_pos hslot, if_pos (.inl hslot)]
    · rw [if_neg hslot, if_neg (not_or.mpr ⟨hslot, hasset⟩)]

theorem exec_deliveryEraseDone_due {s : State} (hst : s.dlv.state = .erasing) (hml : s.sen.mlSig = false) :
    exec .deliveryEraseDone s = .next
      (((deliveryErased s).modDlv fun d => { d with state := .receiving }).modFlash fun f => { f with busy := none }) := by
  change execDeliveryEraseDone s = _
  unfold execDeliveryEraseDone
  rw [if_neg (by simp [hst, hml])]
  rfl

theorem deliveryEraseDone_due {s : State} (hst : s.dlv.state = .erasing) (hml : s.sen.mlSig = false) :
    Does .deliveryEraseDone s [.flash, .dlv] fun t =>
      t.dlv = { s.dlv with state := .receiving } ∧ t.flash.busy = none ∧
        ∀ a : Nat, memRead 0xFF#8 t.flash.mem a =
          if (slotBase s.dlv.slot ≤ a ∧ a < slotBase s.dlv.slot + 0x200000) ∨
             (assetBase + s.dlv.awOff ≤ a ∧ a < assetBase + s.dlv.awOff + s.dlv.awLen) then 0xFF#8
          else memRead 0xFF#8 s.flash.mem a := by
  have hexec := exec_deliveryEraseDone_due hst hml
  obtain ⟨t, ht, hu⟩ : ∃ t, exec .deliveryEraseDone s = .next t ∧ Upd _ s t := upd_execDeliveryEraseDone s
  cases hexec.symm.trans ht
  exact ⟨_, ht, hu, rfl, rfl, memRead_deliveryErased s⟩

theorem deliveryEraseDone_idles {s : State} (hst : s.dlv.state ≠ .erasing) : Idles .deliveryEraseDone s := by
  change execDeliveryEraseDone s = _
  unfold execDeliveryEraseDone
  rw [if_pos (by simp [hst])]

/-! The verification (05 R180, R181). -/

/-- The check of the target slot, with the GEN and the length that BEGIN announced. -/
def deliveryCheck (f : Bool) (s : State) : SlotCheck :=
  let c := checkSlot s s.dlv.slot f true
  if c.reason ≠ 0 then c
  else if hGen c.hdr ≠ s.dlv.gen then { c with reason := 1 }
  else if hLen c.hdr ≠ s.dlv.len then { c with reason := 3 }
  else c

/-- A slot whose flash fails to read fails check 12. -/
theorem checkSlot_readFail_reason (s : State) (k : Nat) (dlv : Bool) : (checkSlot s k true dlv).reason = 12 := rfl

theorem deliveryCheck_passed {f : Bool} {s : State} (h : (deliveryCheck f s).reason = 0) :
    f = false ∧ (checkSlot s s.dlv.slot f true).reason = 0 ∧ hGen (checkSlot s s.dlv.slot f true).hdr = s.dlv.gen ∧
      hLen (checkSlot s s.dlv.slot f true).hdr = s.dlv.len := by
  unfold deliveryCheck at h
  dsimp only at h
  split at h
  · contradiction
  · rename_i hreason
    have hreason := Decidable.not_not.mp hreason
    split at h
    · cases h
    · split at h
      · cases h
      · refine ⟨?_, hreason, Decidable.not_not.mp ‹_›, Decidable.not_not.mp ‹_›⟩
        cases f with
        | false => rfl
        | true => rw [checkSlot_readFail_reason] at hreason; cases hreason

/-- The flash is free again and the result of the target slot on record (05 R181, R182). -/
def deliveryRecorded (f : Bool) (s : State) : State :=
  slotResult s.dlv.slot (deliveryCheck f s).reason ((s.modFlash fun x => { x with busy := none }).modImg fun i =>
    if s.dlv.slot = 0 then { i with aGen := slotGen s s.dlv.slot } else { i with bGen := slotGen s s.dlv.slot })

/-- The delivery is VERIFIED (05 R180). -/
def deliveryVerified (f : Bool) (s : State) : State := (deliveryRecorded f s).modDlv fun d => { d with state := .verified }

/-- The delivery is FAILED, and the trust event of its check reported (05 R180; 04 Table 4.16). -/
def deliveryFailed (f : Bool) (s : State) : State :=
  checkEvent (deliveryCheck f s) ((deliveryRecorded f s).modDlv fun d => { d with state := .failed, reason := (deliveryCheck f s).reason })

theorem exec_deliveryVerifyDone_due (f : Bool) {s : State} (hst : s.dlv.state = .verifying) (hml : s.sen.mlSig = false) :
    exec (.deliveryVerifyDone f) s = .next (if (deliveryCheck f s).reason = 0 then raise 0x6145 1 255 s.dlv.gen (deliveryVerified f s)
      else raise 0x6146 1 255 ((deliveryCheck f s).reason * 2 ^ 24 + min (deliveryCheck f s).ord 0xFFFF) (deliveryFailed f s)) := by
  change execDeliveryVerifyDone f s = _
  unfold execDeliveryVerifyDone
  rw [if_neg (by simp [hst, hml])]
  rfl

/-- The bytes of flash, what runs of the image and the delivery's own id stand; the flash is free (05 R181). -/
def VerifyKeeps (s t : State) : Prop :=
  t.flash.mem = s.flash.mem ∧ t.flash.busy = none ∧ t.img.recs = s.img.recs ∧ t.img.slot = s.img.slot ∧ t.img.gen = s.img.gen ∧
    t.dlv.id = s.dlv.id

theorem verifyKeeps_recorded (f : Bool) (s : State) : VerifyKeeps s (deliveryRecorded f s) := by
  refine ⟨rfl, rfl, ?_, ?_, ?_, rfl⟩
  all_goals
    simp only [deliveryRecorded, slotResult, State.modImg_img, State.modFlash_img]
    split <;> rfl

/-- What follows keeps all that with flash, image and the id of the delivery. -/
theorem VerifyKeeps.of_eq {s t u : State} (h : VerifyKeeps s t) (hf : u.flash = t.flash) (hi : u.img = t.img) (hd : u.dlv.id = t.dlv.id) :
    VerifyKeeps s u := by
  unfold VerifyKeeps
  rw [hf, hi, hd]
  exact h

theorem deliveryFailed_dlv (f : Bool) (s : State) :
    (deliveryFailed f s).dlv = { s.dlv with state := .failed, reason := (deliveryCheck f s).reason } :=
  (upd_checkEvent ..).dlv rfl

theorem verifyKeeps_verified (f : Bool) (s : State) : VerifyKeeps s (deliveryVerified f s) :=
  (verifyKeeps_recorded f s).of_eq rfl rfl rfl

theorem verifyKeeps_failed (f : Bool) (s : State) : VerifyKeeps s (deliveryFailed f s) :=
  (verifyKeeps_recorded f s).of_eq ((upd_checkEvent ..).flash rfl) ((upd_checkEvent ..).img rfl) (by rw [deliveryFailed_dlv]; rfl)

theorem verifyKeeps_raise {s t : State} (code source point arg : Nat) (h : VerifyKeeps s t) :
    VerifyKeeps s (raise code source point arg t) :=
  h.of_eq (raise_flash ..) (raise_img ..) (by rw [raise_dlv])

theorem raise_ev_deliveryVerified (code source point arg : Nat) (f : Bool) (s : State) :
    (raise code source point arg (deliveryVerified f s)).ev = (raise code source point arg s).ev :=
  raise_ev_congr rfl rfl rfl rfl rfl rfl

theorem deliveryVerifyDone_due (f : Bool) {s : State} (hst : s.dlv.state = .verifying) (hml : s.sen.mlSig = false) :
    Does (.deliveryVerifyDone f) s [.img, .flash, .dlv, .ev, .sen] fun t =>
      (t.dlv.state = .verified ∨ t.dlv.state = .failed) ∧ VerifyKeeps s t ∧
        (t.dlv.state = .verified → (deliveryCheck f s).reason = 0 ∧ t.ev = (raise 0x6145 1 255 s.dlv.gen s).ev) := by
  have hexec := exec_deliveryVerifyDone_due f hst hml
  obtain ⟨t, ht, hu⟩ : ∃ t, exec (.deliveryVerifyDone f) s = .next t ∧ Upd _ s t := upd_execDeliveryVerifyDone f s
  refine ⟨t, ht, hu, ?_⟩
  by_cases hpass : (deliveryCheck f s).reason = 0
  · rw [if_pos hpass] at hexec
    cases hexec.symm.trans ht
    exact ⟨.inl (by rw [raise_dlv]; rfl), verifyKeeps_raise _ _ _ _ (verifyKeeps_verified f s),
      fun _ => ⟨hpass, raise_ev_deliveryVerified ..⟩⟩
  · rw [if_neg hpass] at hexec
    cases hexec.symm.trans ht
    rw [raise_dlv, deliveryFailed_dlv]
    exact ⟨.inr rfl, verifyKeeps_raise _ _ _ _ (verifyKeeps_failed f s), fun h => nomatch h⟩

theorem deliveryVerifyDone_idles (f : Bool) {s : State} (hst : s.dlv.state ≠ .verifying) : Idles (.deliveryVerifyDone f) s := by
  change execDeliveryVerifyDone f s = _
  unfold execDeliveryVerifyDone
  rw [if_pos (by simp [hst])]

/-! Asset blocks (05 R176, R177). -/

/-- The answer to a fetch: the block itself, or the fallback of its kind. -/
def assetServed (block : Nat) (ok : Bool) (s : State) : State := s.modImg fun i => { i with fetched := some (block, ok) }

/-- A block newly faulty and served by its fallback. -/
def assetLost (block : Nat) (s : State) : State :=
  s.modImg fun i => { i with fetched := some (block, false), faulty := insertAsc block i.faulty }

section
variable (kind block fails : Nat) {s : State} (hi : hasImage s = true)
include hi

theorem exec_assetFetch_known (h : block ∈ s.img.faulty) : exec (.assetFetch kind block fails) s = .next (assetServed block false s) := by
  change execAssetFetch kind block fails s = _
  unfold execAssetFetch
  rw [if_neg (by simp [hi]), if_pos (List.contains_iff_mem.mpr h)]
  rfl

theorem exec_assetFetch_good (h : block ∉ s.img.faulty) (hin : assetIn s block = true) (hf : fails < 2) :
    exec (.assetFetch kind block fails) s = .next (assetServed block true s) := by
  change execAssetFetch kind block fails s = _
  unfold execAssetFetch
  rw [if_neg (by simp [hi]), if_neg (by simpa using h), if_neg (by simp [hin]; omega)]
  rfl

theorem exec_assetFetch_lost (h : block ∉ s.img.faulty) (hbad : assetIn s block = false ∨ 2 ≤ fails) :
    exec (.assetFetch kind block fails) s =
      .next (raise 0x6142 1 255 (kind * 2 ^ 24 + (s.img.aOff / 4096 + block) % 65536) (assetLost block s)) := by
  change execAssetFetch kind block fails s = _
  unfold execAssetFetch
  rw [if_neg (by simp [hi]), if_neg (by simpa using h), if_pos (by simpa using hbad)]
  rfl

end

theorem assetFetch_lost {kind block fails : Nat} {s : State} (hi : hasImage s = true) (h : block ∉ s.img.faulty)
    (hbad : assetIn s block = false ∨ 2 ≤ fails) :
    Does (.assetFetch kind block fails) s [.img, .ev, .sen] fun t =>
      t.img = { s.img with fetched := some (block, false), faulty := insertAsc block s.img.faulty } ∧
        t.ev = (raise 0x6142 1 255 (kind * 2 ^ 24 + (s.img.aOff / 4096 + block) % 65536) s).ev := by
  have hu : Upd [.img] s (assetLost block s) := upd_modImg ..
  exact ⟨_, exec_assetFetch_lost kind block fails hi h hbad, .comp (upd_raise ..) rfl (hu.mono rfl), raise_img ..,
    hu.raise_ev rfl rfl rfl rfl ..⟩

/-- Settles O12: the erasure filters the flash by address, the verification writes no byte and applies nothing, and an asset fetch takes
one of three branches. -/
theorem deliveryProgressAndAssets : Obligations.DeliveryProgressAndAssets := by
  unfold Obligations.DeliveryProgressAndAssets
  refine ⟨fun _ => deliveryEraseDone_due, fun _ => deliveryEraseDone_idles, ?_, fun f _ => deliveryVerifyDone_idles f, ?_,
    fun _ _ _ _ => assetFetch_lost, ?_⟩
  · intro f s hst hml
    obtain ⟨t, ht, hu, hend, ⟨hmem, hbusy, hrecs, hslot, hgen, hid⟩, hverified⟩ := deliveryVerifyDone_due f hst hml
    refine ⟨t, ht, hu, hend, hmem, hbusy, hrecs, hslot, hgen, hid, fun hv => ?_⟩
    obtain ⟨hpass, hev⟩ := hverified hv
    obtain ⟨hread, hreason, hg, hl⟩ := deliveryCheck_passed hpass
    exact ⟨hread, hreason, hg, hl, hev⟩
  · exact fun kind block fails s hi h hin hf => ⟨_, exec_assetFetch_good kind block fails hi h hin hf, upd_modImg .., rfl⟩
  · exact fun kind block fails s hi h => ⟨_, exec_assetFetch_known kind block fails hi h, upd_modImg .., rfl⟩

end Sys2Proof.Machine
end

section
/-! SUPPORT. The heads of the other slots, and the four points of a head, under the commands that act on the head of one slot (06 R20). -/

namespace Sys2Proof.Machine

theorem modHead_heads_same (k : Fin 8) (f : Head → Head) (s : State) : (s.modHead k f).heads[k] = f s.heads[k] := by
  simp

theorem modHead_heads_other {j k : Fin 8} (h : j ≠ k) (f : Head → Head) (s : State) : (s.modHead k f).heads[j] = s.heads[j] := by
  simp [Fin.val_ne_of_ne (Ne.symm h)]

/-- An action that leaves the head as it is leaves the state. -/
theorem modHead_of_same {k : Fin 8} {f : Head → Head} {s : State} (h : f s.heads[k] = s.heads[k]) : s.modHead k f = s := by
  rw [State.modHead, h]
  simp

/-- A command that acts on the head of one slot: what it says of that head, with every other head as it was. -/
theorem does_modHead {c : Instr} {k : Fin 8} {f : Head → Head} {s : State} {Q : State → Prop} (hexec : exec c s = .next (s.modHead k f))
    (hQ : ∀ t : State, t.heads[k] = f s.heads[k] → (∀ j : Fin 8, j ≠ k → t.heads[j] = s.heads[j]) → Q t) : Does c s [.heads] Q :=
  ⟨_, hexec, upd_modHead .., hQ _ (modHead_heads_same ..) fun _ hj => modHead_heads_other hj ..⟩

theorem headMap_pts (f : Nat → HeadPt → HeadPt) (h : Head) (p : Fin 4) : (headMap f h).pts[p] = f p.val h.pts[p] := by
  simp [headMap]

theorem dropPermits_pts (h : Head) (p : Fin 4) : (dropPermits h).pts[p] = { h.pts[p] with permit := false, testPassed := false } :=
  headMap_pts ..

theorem mem_insertAsc {x y : Nat} {l : List Nat} : x ∈ insertAsc y l ↔ x = y ∨ x ∈ l := by
  induction l with
  | nil => simp [insertAsc]
  | cons z zs ih =>
    unfold insertAsc
    split
    · simp
    · split
      · simp_all
      · simp [ih, or_left_comm]

end Sys2Proof.Machine
end

section
/-! PROOF. A head without frames, without supply, or in reset (06 R206, R219; 07 R235; 10 R349, R367; 23 R791, R792). -/

namespace Sys2Proof.Machine

section
variable {k : Fin 8} {s : State}

/-! The fail-safe and the end of the pairing (06 R206, R219). -/

theorem headFailsafe_withdraws (hon : s.heads[k].on = true) (hpair : s.heads[k].pair = .paired) (hfs : s.heads[k].failsafe = false) :
    Does (.headFailsafe k) s [.heads] fun t =>
      t.heads[k].failsafe = true ∧ t.heads[k].fsCount = inc16 s.heads[k].fsCount ∧ t.heads[k].pair = .paired ∧
        (∀ j : Fin 8, j ≠ k → t.heads[j] = s.heads[j]) ∧
        ∀ p : Fin 4, t.heads[k].pts[p].permit = false ∧ t.heads[k].pts[p].cpMode = 0 ∧ t.heads[k].pts[p].lock = 0 ∧
          t.heads[k].pts[p].ind = 0 := by
  refine does_modHead rfl fun t ht hother => ?_
  rw [if_neg (by simp [-Fin.getElem_fin, hon, hpair, hfs])] at ht
  rw [ht]
  refine ⟨rfl, rfl, hpair, hother, fun p => ?_⟩
  dsimp only
  rw [headMap_pts]
  exact ⟨rfl, rfl, rfl, rfl⟩

theorem headFailsafe_idles (h : s.heads[k].on = false ∨ s.heads[k].pair ≠ .paired ∨ s.heads[k].failsafe = true) :
    Idles (.headFailsafe k) s :=
  congrArg Host.Outcome.next (modHead_of_same (if_pos (by rcases h with h | h | h <;> simp [-Fin.getElem_fin, h])))

theorem headUnpairTimeout_unpairs (hon : s.heads[k].on = true) (hpair : s.heads[k].pair ≠ .unpaired) :
    Does (.headUnpairTimeout k) s [.heads] fun t =>
      t.heads[k].pair = .unpaired ∧ t.heads[k].step = 0 ∧ (∀ j : Fin 8, j ≠ k → t.heads[j] = s.heads[j]) ∧
        ∀ p : Fin 4, t.heads[k].pts[p].permit = false := by
  refine does_modHead rfl fun t ht hother => ?_
  rw [if_neg (by simp [-Fin.getElem_fin, hon, hpair])] at ht
  rw [ht]
  refine ⟨rfl, rfl, hother, fun p => ?_⟩
  dsimp only
  rw [dropPermits_pts]

/-! The cap of a lock drive (10 R349). -/

theorem headLockDriveCap_caps {i : Fin 32} (hon : s.heads[slotOf i].on = true)
    (hlock : s.heads[slotOf i].pts[posOf i].lock = 1 ∨ s.heads[slotOf i].pts[posOf i].lock = 2) :
    Does (.headLockDriveCap i) s [.heads] fun t =>
      t.heads = s.heads.set (slotOf i) { s.heads[slotOf i] with
        pts := s.heads[slotOf i].pts.set (posOf i) { s.heads[slotOf i].pts[posOf i] with lockCapped := true } } := by
  have hcap : (s.heads[slotOf i].on && (s.heads[slotOf i].pts[posOf i].lock = 1 || s.heads[slotOf i].pts[posOf i].lock = 2)) = true := by
    simp [-Fin.getElem_fin, hon, hlock]
  exact ⟨_, rfl, upd_modHead .., congrArg (s.heads.set (slotOf i) ·) (if_pos hcap)⟩

/-! A head that goes down (23 R791, R792). -/

theorem headSupplyLoss_clears (k : Fin 8) (s : State) : Does (.headSupplyLoss k) s [.heads, .hpipes] fun t =>
    t.heads = s.heads.set k { serial := s.heads[k].serial, pairKey := s.heads[k].pairKey, on := false } ∧ t.hpipes = s.hpipes.set k {} :=
  ⟨_, rfl, upd_dropHead k s, rfl, rfl⟩

theorem headReset_clears (k : Fin 8) (held : Bool) (s : State) : Does (.headReset k held) s [.heads, .hpipes] fun t =>
    t.heads = s.heads.set k { serial := s.heads[k].serial, pairKey := s.heads[k].pairKey, on := !held } ∧ t.hpipes = s.hpipes.set k {} := by
  cases held with
  | true => exact ⟨_, rfl, upd_dropHead k s, rfl, rfl⟩
  | false =>
    have hexec : exec (.headReset k false) s = .next ((dropHead k s).modHead k fun h => { h with on := true }) := rfl
    refine ⟨_, hexec, .comp (upd_modHead ..) rfl (upd_dropHead k s), ?_, rfl⟩
    simp [dropHead, headDown]

/-! The excitation of a channel (07 R235). -/

theorem headExcDetect_marks (c : Fin 28) (fail : Bool) (hon : s.heads[k].on = true) :
    Does (.headExcDetect k c fail) s [.heads] fun t =>
      (c.val ∈ t.heads[k].exc ↔ fail = true) ∧ (∀ d : Nat, d ≠ c.val → (d ∈ t.heads[k].exc ↔ d ∈ s.heads[k].exc)) ∧
        t.heads[k].pts = s.heads[k].pts ∧ ∀ j : Fin 8, j ≠ k → t.heads[j] = s.heads[j] := by
  have hexec : exec (.headExcDetect k c fail) s = .next (s.modHead k fun h =>
      { h with exc := if fail then insertAsc c.val h.exc else h.exc.filter (· != c.val) }) :=
    congrArg _ (if_neg (by simp [-Fin.getElem_fin, hon]))
  refine does_modHead hexec fun t ht hother => ?_
  rw [ht]
  refine ⟨?_, fun d hd => ?_, rfl, hother⟩
  · cases fail <;> simp [mem_insertAsc]
  · cases fail <;> simp [mem_insertAsc, hd]

end

/-- Settles O16: each command acts on the head of its slot alone, or leaves it as it is. -/
theorem headAlone : Obligations.HeadAlone := by
  unfold Obligations.HeadAlone
  exact ⟨fun _ _ => headFailsafe_withdraws, fun _ _ => headFailsafe_idles, fun _ _ => headUnpairTimeout_unpairs,
    fun _ _ => headLockDriveCap_caps, headSupplyLoss_clears, headReset_clears, fun _ c fail _ => headExcDetect_marks c fail⟩

end Sys2Proof.Machine
end

section
/-! PROOF. Frames that reach a head: RUN, CHECK and PAIR frames, and frames that it does not act on (04 R145; 06 R200 to R208, R219). -/

namespace Sys2Proof.Machine

section
variable {k : Fin 8} {ws : List W32} {f : Bool} {s : State}

/-! A frame acts, or counts as missed (06 R203, R219). -/

theorem headTook_headTake (ws : List W32) (h : Head) : HeadTook ws h (headTake ws h) := ⟨rfl, rfl, rfl, rfl, rfl, rfl, rfl⟩

theorem headMissed_headMissed (ws : List W32) (f : Bool) (h : Head) : HeadMissed ws f h (headMissed ws f h) := ⟨rfl, rfl, rfl, rfl, rfl⟩

/-- A valid frame of the TYPE that a command serves: its action on the head that took the frame. -/
theorem does_headFrame_valid {c : Instr} {typ : Nat} {F : Head → Head} {Q : State → Prop} (hon : s.heads[k].on = true)
    (htype : dnType ws = typ) (hvalid : headValid s.heads[k] ws f = true) (hexec : exec c s = .next (headFrame k typ ws f F s))
    (hQ : ∀ t : State, t.heads[k] = F (headTake ws s.heads[k]) → (∀ j : Fin 8, j ≠ k → t.heads[j] = s.heads[j]) → Q t) :
    Does c s [.heads] Q := by
  refine does_modHead hexec fun t ht => hQ t ?_
  rwa [if_neg (by simp [-Fin.getElem_fin, hon]), if_pos (by simp [-Fin.getElem_fin, htype, hvalid])] at ht

/-- A frame of another TYPE, or one that is not valid, counts as missed. -/
theorem does_headFrame_missed {c : Instr} {typ : Nat} {F : Head → Head} (hon : s.heads[k].on = true)
    (h : dnType ws ≠ typ ∨ headValid s.heads[k] ws f = false) (hexec : exec c s = .next (headFrame k typ ws f F s)) :
    Does c s [.heads] fun t => HeadMissed ws f s.heads[k] t.heads[k] ∧ ∀ j : Fin 8, j ≠ k → t.heads[j] = s.heads[j] := by
  refine does_modHead hexec fun t ht hother => ⟨?_, hother⟩
  have hskip : ¬ (dnType ws = typ && headValid s.heads[k] ws f) = true := by rcases h with h | h <;> simp [-Fin.getElem_fin, h]
  rw [if_neg (by simp [-Fin.getElem_fin, hon]), if_neg hskip] at ht
  exact ht ▸ headMissed_headMissed ..

/-! RUN and CHECK frames (06 R200 to R202, R208). -/

theorem evalTokens_permit (ok fg pass : Bool) (x : HeadPt) : (evalTokens ok fg pass x).permit = (ok && !x.localTrip) := by
  cases ok <;> simp [evalTokens]

theorem headRunFrame_acts {g : Fin 16} (hon : s.heads[k].on = true) (hpair : s.heads[k].pair = .paired) (htype : dnType ws = 0)
    (hvalid : headValid s.heads[k] ws f = true) :
    Does (.headRunFrame k ws f g) s [.heads] fun t =>
      HeadTook ws s.heads[k] t.heads[k] ∧ t.heads[k].word9 = ws.getD 9 0 ∧ (∀ j : Fin 8, j ≠ k → t.heads[j] = s.heads[j]) ∧
        ∀ p : Fin 4, t.heads[k].pts[p].permit = (bothPermit ws p.val && !s.heads[k].pts[p].localTrip) ∧
          t.heads[k].pts[p].tokenBad = !bothPermit ws p.val ∧
          t.heads[k].pts[p].duty = bits (fw ws (3 + p.val / 2)) (16 * (p.val % 2) + 15) (16 * (p.val % 2)) ∧
          t.heads[k].pts[p].cpMode = bits (fw ws 5) (4 * p.val + 19) (4 * p.val + 16) ∧
          t.heads[k].pts[p].lock = bits (fw ws 5) (2 * p.val + 9) (2 * p.val + 8) ∧
          t.heads[k].pts[p].ind = bits (fw ws 6) (8 * p.val + 7) (8 * p.val) := by
  refine does_headFrame_valid hon htype hvalid rfl fun t ht hother => ?_
  replace ht := ht.trans (if_neg (Decidable.not_not.mpr hpair))
  rw [ht]
  refine ⟨headTook_headTake .., rfl, hother, fun p => ?_⟩
  rw [headMap_pts]
  exact ⟨evalTokens_permit _ (bitOf (fw ws 8) (4 + p)) (bitOf g p) _, rfl, rfl, rfl, rfl, rfl⟩

/-- The verdict of the self-test, once CHECK_STEP 1 has run it (06 R208). -/
def selfTested (ws : List W32) (r : Option (Bool × Nat)) (h : Head) : Head :=
  match r with
  | some (pass, faults) =>
    if dnStep ws = 1 && h.selftest = 0 then { h with selftest := if pass then 1 else 2, faults := faults % 256 } else h
  | none => h

theorem headTook_selfTested {h g : Head} (r : Option (Bool × Nat)) (hg : HeadTook ws h g) : HeadTook ws h (selfTested ws r g) := by
  cases r with
  | none => exact hg
  | some v =>
    unfold selfTested
    dsimp only
    split <;> exact hg

theorem selfTested_chk_pts (r : Option (Bool × Nat)) (h : Head) :
    (selfTested ws r h).chk = h.chk ∧ (selfTested ws r h).pts = h.pts := by
  cases r with
  | none => exact ⟨rfl, rfl⟩
  | some v =>
    unfold selfTested
    dsimp only
    split <;> exact ⟨rfl, rfl⟩

theorem headCheckFrame_acts {r : Option (Bool × Nat)} (hon : s.heads[k].on = true) (hpair : s.heads[k].pair = .paired)
    (htype : dnType ws = 2) (hvalid : headValid s.heads[k] ws f = true) :
    Does (.headCheckFrame k ws f r) s [.heads] fun t =>
      HeadTook ws s.heads[k] t.heads[k] ∧ t.heads[k].chk = dnStep ws ∧
        (∀ (pass : Bool) (faults : Nat), r = some (pass, faults) → dnStep ws = 1 → s.heads[k].selftest = 0 →
          t.heads[k].selftest = (if pass then 1 else 2) ∧ t.heads[k].faults = faults % 256) ∧
        ∀ p : Fin 4, t.heads[k].pts[p].permit = (bothPermit ws p.val && !s.heads[k].pts[p].localTrip) ∧
          t.heads[k].pts[p].tokenBad = !bothPermit ws p.val := by
  have hexec : exec (.headCheckFrame k ws f r) s = .next (headFrame k 2 ws f (fun h =>
      if h.pair ≠ .paired then h
      else headMap (fun p x => evalTokens (bothPermit ws p) false false x)
        (selfTested ws r { h with chk := dnStep ws, word9 := ws.getD 9 0 })) s) := rfl
  refine does_headFrame_valid hon htype hvalid hexec fun t ht _ => ?_
  replace ht := ht.trans (if_neg (Decidable.not_not.mpr hpair))
  obtain ⟨hchk, hpts⟩ := selfTested_chk_pts (ws := ws) r { headTake ws s.heads[k] with chk := dnStep ws, word9 := ws.getD 9 0 }
  rw [ht]
  refine ⟨headTook_selfTested r (headTook_headTake ..), hchk, ?_, fun p => ?_⟩
  · rintro pass faults rfl hstep hself
    have hruns : (dnStep ws = 1 && s.heads[k].selftest = 0) = true := by simp [-Fin.getElem_fin, hstep, hself]
    exact ⟨congrArg Head.selftest (if_pos hruns), congrArg Head.faults (if_pos hruns)⟩
  · rw [headMap_pts, hpts]
    exact ⟨evalTokens_permit .., rfl⟩

/-! PAIR frames (04 R145; 06 R205, R206). -/

theorem headPairFrame_challenge {nd hub : Nat} (hon : s.heads[k].on = true) (hpair : s.heads[k].pair = .unpaired) (htype : dnType ws = 1)
    (hvalid : headValid s.heads[k] ws f = true) (hstep : dnStep ws = 1) :
    Does (.headPairFrame k ws f nd hub) s [.heads] fun t =>
      HeadTook ws s.heads[k] t.heads[k] ∧ t.heads[k].pair = .challenged ∧ t.heads[k].step = 2 ∧ t.heads[k].slotLearnt = dnSlot ws ∧
        t.heads[k].mac = pairMac2 s.heads[k].pairKey (fw128 ws 4) (nd % 2 ^ 128) s.heads[k].serial (dnSlot ws) ∧
        ∀ p : Fin 4, t.heads[k].pts[p].permit = false := by
  refine does_headFrame_valid hon htype hvalid rfl fun t ht _ => ?_
  have hnew : ¬ (s.heads[k].pair = .challenged && s.heads[k].nonceH = fw128 ws 4) = true := by simp [-Fin.getElem_fin, hpair]
  replace ht := (ht.trans (if_pos hstep)).trans (if_neg hnew)
  rw [ht]
  refine ⟨headTook_headTake .., rfl, rfl, rfl, rfl, fun p => ?_⟩
  dsimp only
  rw [dropPermits_pts]

theorem headPairFrame_confirm {nd hub : Nat} (hon : s.heads[k].on = true) (hpair : s.heads[k].pair = .challenged) (htype : dnType ws = 1)
    (hvalid : headValid s.heads[k] ws f = true) (hstep : dnStep ws = 3) :
    Does (.headPairFrame k ws f nd hub) s [.heads] fun t =>
      HeadTook ws s.heads[k] t.heads[k] ∧ (∀ p : Fin 4, t.heads[k].pts[p].permit = false) ∧
        (if fw128 ws 4 = pairMac3 s.heads[k].pairKey s.heads[k].nonceH s.heads[k].nonceD hub then
          t.heads[k].pair = .paired ∧ t.heads[k].step = 4
        else t.heads[k].pair = .unpaired ∧ t.heads[k].step = 0xEE) := by
  refine does_headFrame_valid hon htype hvalid rfl fun t ht _ => ?_
  have hconfirm : (dnStep ws = 3 && s.heads[k].pair = .challenged) = true := by simp [-Fin.getElem_fin, hstep, hpair]
  have hdrop (p : Fin 4) : (dropPermits (headTake ws s.heads[k])).pts[p].permit = false := by rw [dropPermits_pts]
  replace ht := (ht.trans (if_neg (by omega))).trans (if_pos hconfirm)
  by_cases hmac : fw128 ws 4 = pairMac3 s.heads[k].pairKey s.heads[k].nonceH s.heads[k].nonceD hub
  · rw [if_pos hmac, ht.trans (if_pos hmac)]
    exact ⟨headTook_headTake .., hdrop, rfl, rfl⟩
  · rw [if_neg hmac, ht.trans (if_neg hmac)]
    exact ⟨headTook_headTake .., hdrop, rfl, rfl⟩

end

/-- Settles O15: a valid frame acts on the head that took it, any other counts as missed. -/
theorem headFrames : Obligations.HeadFrames := by
  unfold Obligations.HeadFrames
  exact ⟨fun _ _ _ _ _ => headRunFrame_acts, fun _ _ _ _ _ hon h => does_headFrame_missed hon h rfl,
    fun _ _ _ _ _ => headCheckFrame_acts, fun _ _ _ _ _ _ => headPairFrame_challenge, fun _ _ _ _ _ _ => headPairFrame_confirm⟩

end Sys2Proof.Machine
end

section
/-! SUPPORT. The points of a head slot, steps over them, and ports that only send and count (06 R204, R217, R221). -/

namespace Sys2Proof.Machine

/-- A command's next state is known, and with it what is said of it; what it may change is what its operation may. -/
theorem does_of_exec {c : Instr} {s t : State} {P : List Part} {Q : State → Prop} (hexec : exec c s = .next t)
    (hupd : ∃ u, exec c s = .next u ∧ Upd P s u) (hQ : Q t) : Does c s P Q := by
  obtain ⟨u, hu, hU⟩ := hupd
  cases hexec.symm.trans hu
  exact ⟨_, hexec, hU, hQ⟩

/-! The points of a slot. -/

theorem slotOf_ptIdx (k : Fin 8) (p : Fin 4) : slotOf (ptIdx k p) = k := Fin.ext (by simp only [slotOf, ptIdx]; omega)

theorem ptIdx_mem_headPts (k : Fin 8) (p : Fin 4) : ptIdx k p ∈ headPts k := List.mem_map_of_mem (mem_finList p)

theorem slotOf_of_mem_headPts {k : Fin 8} {i : Fin 32} (h : i ∈ headPts k) : slotOf i = k := by
  obtain ⟨p, _, rfl⟩ := List.mem_map.mp h
  exact slotOf_ptIdx k p

theorem ptIdx_injective {k : Fin 8} {p q : Fin 4} (h : ptIdx k p = ptIdx k q) : p = q :=
  Fin.ext (Nat.add_left_cancel (congrArg Fin.val h))

theorem headPts_nodup (k : Fin 8) : (headPts k).Nodup :=
  List.Pairwise.map (ptIdx k) (fun _ _ hne heq => hne (ptIdx_injective heq)) (finList_nodup 4)

/-- Steps over entries without repetition: the step of `i` establishes `Q` where `P` holds, and the steps of the others keep `P` before it
and `Q` after it. -/
theorem foldl_once {α : Type} {P Q : State → Prop} {F : State → α → State} {l : List α} {i : α} {s : State} (hl : l.Nodup) (hi : i ∈ l)
    (hs : P s) (hP : ∀ u j, j ≠ i → P u → P (F u j)) (hset : ∀ u, P u → Q (F u i)) (hQ : ∀ u j, j ≠ i → Q u → Q (F u j)) :
    Q (l.foldl F s) := by
  induction l generalizing s with
  | nil => exact absurd hi List.not_mem_nil
  | cons a l ih =>
    obtain ⟨ha, hl⟩ := List.nodup_cons.mp hl
    rcases List.mem_cons.mp hi with rfl | hi
    · exact List.foldlRecOn l F (hset s hs) fun u hu j hj => hQ u j (fun e => ha (e ▸ hj)) hu
    · exact ih hl hi (hP s a (fun e => ha (e ▸ hi)) hs)

theorem modPort_ports_same (k : Fin 8) (f : Port → Port) (s : State) : (s.modPort k f).ports[k] = f s.ports[k] := by
  simp

theorem modPort_ports_other {j k : Fin 8} (h : j ≠ k) (f : Port → Port) (s : State) : (s.modPort k f).ports[j] = s.ports[j] := by
  simp [Fin.val_ne_of_ne (Ne.symm h)]

theorem modPort_modPort (k : Fin 8) (f g : Port → Port) (s : State) : (s.modPort k f).modPort k g = s.modPort k fun p => g (f p) := by
  simp [State.modPort]

theorem modPort_congr {k : Fin 8} {f g : Port → Port} {s : State} (h : f s.ports[k] = g s.ports[k]) : s.modPort k f = s.modPort k g := by
  rw [State.modPort, h, State.modPort]

theorem modPmet_pmet_same (i : Fin 32) (f : PtMet → PtMet) (s : State) : (s.modPmet i f).pmet[i] = f s.pmet[i] := by
  simp

theorem modPmet_pmet_other {i j : Fin 32} (h : i ≠ j) (f : PtMet → PtMet) (s : State) : (s.modPmet j f).pmet[i] = s.pmet[i] := by
  simp [Fin.val_ne_of_ne (Ne.symm h)]

/-! Ports that only send and count. -/

/-- A port as it was, but for what waits to be sent and for its counts of bridged and gap ticks. -/
def SentCounted (x y : Port) : Prop :=
  ∃ (q : List W32) (b g n : Nat), y = { x with txQueue := q, bridged := b, gapTicks := g, gaps := n }

/-- Every port is as it was, but that the port of a slot may have messages to send and ticks counted. -/
structure PortSends (k : Fin 8) (s t : State) : Prop where
  same : SentCounted s.ports[k] t.ports[k]
  other : ∀ j : Fin 8, j ≠ k → t.ports[j] = s.ports[j]

variable {k : Fin 8} {s t u : State}

theorem PortSends.of_ports (h : t.ports = s.ports) : PortSends k s t := by
  refine ⟨?_, fun j _ => by rw [h]⟩
  rw [h]
  exact ⟨_, _, _, _, rfl⟩

theorem PortSends.refl (k : Fin 8) (s : State) : PortSends k s s := .of_ports rfl

theorem PortSends.trans (h : PortSends k s t) (g : PortSends k t u) : PortSends k s u := by
  obtain ⟨⟨_, _, _, _, hs⟩, ho⟩ := h
  obtain ⟨⟨q, b, n, m, gs⟩, go⟩ := g
  refine ⟨⟨q, b, n, m, ?_⟩, fun j hj => (go j hj).trans (ho j hj)⟩
  rw [gs, hs]

/-- What a port holds apart from its queue and its counts stands. -/
theorem PortSends.read {β : Type} (h : PortSends k s t) (p : Port → β)
    (hp : ∀ (x : Port) (q : List W32) (b g n : Nat), p { x with txQueue := q, bridged := b, gapTicks := g, gaps := n } = p x) :
    p t.ports[k] = p s.ports[k] := by
  obtain ⟨⟨q, b, g, n, hs⟩, _⟩ := h
  rw [hs, hp]

/-- A change of the port that does not look at its queue and its counts comes before or after. -/
theorem PortSends.modPort {f : Port → Port} (h : PortSends k s t)
    (hf : ∀ (x : Port) (q : List W32) (b g n : Nat),
      f { x with txQueue := q, bridged := b, gapTicks := g, gaps := n } =
        { f x with txQueue := q, bridged := b, gapTicks := g, gaps := n }) :
    PortSends k (s.modPort k f) (t.modPort k f) := by
  obtain ⟨⟨q, b, g, n, hs⟩, ho⟩ := h
  refine ⟨⟨q, b, g, n, ?_⟩, fun j hj => ?_⟩
  · rw [modPort_ports_same, modPort_ports_same, hs, hf]
  · rw [modPort_ports_other hj, modPort_ports_other hj, ho j hj]

theorem PortSends.foldl {α : Type} {F : State → α → State} {l : List α} (hF : ∀ u, ∀ a ∈ l, PortSends k u (F u a)) (s : State) :
    PortSends k s (l.foldl F s) :=
  List.foldlRecOn l F (.refl k s) fun u hu a ha => hu.trans (hF u a ha)

theorem portSends_tunnelMsg {i : Fin 32} (hi : slotOf i = k) (kind : Nat) (bytes : List Nat) (s : State) :
    PortSends k s (tunnelMsg i kind bytes s) := by
  subst hi
  unfold tunnelMsg
  split
  · exact .refl ..
  · refine ⟨?_, fun j hj => modPort_ports_other hj ..⟩
    rw [modPort_ports_same]
    exact ⟨_, _, _, _, rfl⟩

theorem portSends_netClear {i : Fin 32} (hi : slotOf i = k) (s : State) : PortSends k s (netClear i s) := by
  refine .trans (t := if s.plc[i].netValid then tunnelMsg i 0 (bytesLE 8 (netDesc 1 s.plc[i].snid false)) s else s) ?_ (.of_ports rfl)
  split
  · exact portSends_tunnelMsg hi ..
  · exact .refl ..

theorem portSends_slacIdle {i : Fin 32} (hi : slotOf i = k) (s : State) : PortSends k s (slacIdle i s) :=
  (portSends_netClear hi s).trans (.of_ports rfl)

/-- The counts of a port after a tick whose points were missing in these ways (06 R217, R221). -/
def tickCounts (kinds : List Nat) (p : Port) : Port :=
  { p with bridged := if kinds.contains 1 then inc32 p.bridged else p.bridged
           gapTicks := if kinds.contains 2 || kinds.contains 3 then inc32 p.gapTicks else p.gapTicks
           gaps := if kinds.contains 2 then inc32 p.gaps else p.gaps }

theorem tickEvents_ports (k : Fin 8) (tick : Nat) (kinds gs : List Nat) (s : State) :
    (tickEvents k tick kinds gs s).ports = (s.modPort k (tickCounts kinds)).ports := by
  unfold tickEvents
  dsimp only
  rw [foldl_same State.ports _ _ _ fun _ _ => raise_ports .., raiseIf_ports]
  rfl

theorem portSends_tickEvents (k : Fin 8) (tick : Nat) (kinds gs : List Nat) (s : State) : PortSends k s (tickEvents k tick kinds gs s) := by
  refine .trans (t := s.modPort k (tickCounts kinds)) ⟨?_, fun j hj => modPort_ports_other hj ..⟩ (.of_ports (tickEvents_ports ..))
  rw [modPort_ports_same]
  exact ⟨_, _, _, _, rfl⟩

theorem portSends_rxControl {i : Fin 32} (hi : slotOf i = k) (action pipe : Nat) (s : State) : PortSends k s (rxControl i action pipe s) :=
  portSends_tunnelMsg hi ..

theorem portSends_pipeStatus (k : Fin 8) (s : State) : PortSends k s (pipeStatus k s) := by
  unfold pipeStatus
  split
  · exact .refl ..
  · dsimp only
    generalize hu : (finList 4).foldl _ s = u
    have hports : u.ports = s.ports := by
      rw [← hu]
      refine foldl_same State.ports _ _ _ fun v p => ?_
      split
      · exact (upd_pipeLost ..).ports rfl
      · rfl
    split
    · split
      · exact .trans (.of_ports (t := (modPipe ..).modPipes ..) hports) (portSends_rxControl (slotOf_ptIdx ..) ..)
      · exact .of_ports hports
    · exact .of_ports hports

end Sys2Proof.Machine
end

section
/-! SUPPORT. A head is lost: what becomes of its points and of its port (06 R216, R217). -/

namespace Sys2Proof.Machine

/-! Points withdrawn (09 R294). -/

theorem withdrawn_stopPoint_same (i : Fin 32) (s : State) : Withdrawn i (stopPoint i s) := by
  obtain ⟨ha, hb, hc, _⟩ := pointOff_stopPoint_same i s
  exact ⟨ha, hb, hc⟩

theorem withdrawn_stopPoint {i : Fin 32} (j : Fin 32) {s : State} (h : Withdrawn i s) : Withdrawn i (stopPoint j s) := by
  by_cases hj : j = i
  · exact hj ▸ withdrawn_stopPoint_same j s
  · simpa [Withdrawn, stopPoint_safe, stopPoint_cp, Vector.getElem_set, Fin.val_ne_of_ne hj] using h

theorem Withdrawn.of_eq {i : Fin 32} {s t : State} (h : Withdrawn i s) (hsafe : t.safe = s.safe) (hcp : t.cp = s.cp) : Withdrawn i t := by
  unfold Withdrawn
  rwa [hsafe, hcp]

/-! One point of the head (06 R216, R217). -/

/-- What the loss of its head does to a point. -/
def lostPoint (s : State) (i : Fin 32) : State :=
  let u := (slacIdle i (endSes i 6 (withdraw i (lossGap i s).1))).modPmet i fun x => { x with on := false, missRun := 0, lastI := [], lastU := [] }
  if u.psafe[i].st = .opened || u.psafe[i].st = .lockedOut then u else toSafeSt i .opened u

/-- The point is withdrawn, no longer metered, and no gap is open on it. -/
def PointGone (i : Fin 32) (t : State) : Prop := Withdrawn i t ∧ t.pmet[i].on = false ∧ t.pmet[i].gap = none

theorem PointGone.of_upd {i : Fin 32} {P : List Part} {s t : State} (h : PointGone i s) (hu : Upd P s t) (hsafe : P.contains .safe = false)
    (hcp : P.contains .cp = false) (hpmet : P.contains .pmet = false) : PointGone i t := by
  obtain ⟨hw, hon, hgap⟩ := h
  exact ⟨hw.of_eq (hu.safe hsafe) (hu.cp hcp), by rw [hu.pmet hpmet, hon], by rw [hu.pmet hpmet, hgap]⟩

theorem lossGap_gap_same (i : Fin 32) (s : State) : (lossGap i s).1.pmet[i].gap = none := by
  unfold lossGap
  split
  · exact congrArg PtMet.gap (modPmet_pmet_same ..)
  · assumption

theorem lossGap_pmet_other {i j : Fin 32} (h : i ≠ j) (s : State) : (lossGap j s).1.pmet[i] = s.pmet[i] := by
  unfold lossGap
  split
  · exact modPmet_pmet_other h ..
  · rfl

section
variable (s : State) (i : Fin 32)

/-- Of the safety part, the pilots and the metering the loss changes what it withdraws and ends the metering. -/
theorem lostPoint_parts : (lostPoint s i).safe = (stopPoint i s).safe ∧ (lostPoint s i).cp = (stopPoint i s).cp ∧
    (lostPoint s i).pmet = ((lossGap i s).1.modPmet i fun x => { x with on := false, missRun := 0, lastI := [], lastU := [] }).pmet := by
  have hgap := upd_lossGap i s
  have hend := upd_endSes i 6 (withdraw i (lossGap i s).1)
  have hslac := upd_slacIdle i (endSes i 6 (withdraw i (lossGap i s).1))
  have hsafe : (slacIdle i (endSes i 6 (withdraw i (lossGap i s).1))).safe = (stopPoint i s).safe := by
    rw [hslac.safe rfl, hend.safe rfl, stopPoint_safe, ← hgap.safe rfl]
    rfl
  have hcp : (slacIdle i (endSes i 6 (withdraw i (lossGap i s).1))).cp = (stopPoint i s).cp := by
    rw [hslac.cp rfl, hend.cp rfl, stopPoint_cp, ← hgap.cp rfl]
    rfl
  have hpmet : (slacIdle i (endSes i 6 (withdraw i (lossGap i s).1))).pmet = (lossGap i s).1.pmet := by
    rw [hslac.pmet rfl, hend.pmet rfl, (upd_withdraw ..).pmet rfl]
  unfold lostPoint
  generalize slacIdle i (endSes i 6 (withdraw i (lossGap i s).1)) = u at hsafe hcp hpmet
  dsimp only
  split
  · exact ⟨hsafe, hcp, by rw [State.modPmet_pmet, State.modPmet_pmet, hpmet]⟩
  · exact ⟨hsafe, hcp, by rw [(upd_toSafeSt ..).pmet rfl, State.modPmet_pmet, State.modPmet_pmet, hpmet]⟩

theorem pointGone_lostPoint_same : PointGone i (lostPoint s i) := by
  obtain ⟨hsafe, hcp, hpmet⟩ := lostPoint_parts s i
  refine ⟨(withdrawn_stopPoint_same i s).of_eq hsafe hcp, ?_, ?_⟩
  · rw [hpmet, modPmet_pmet_same]
  · rw [hpmet, modPmet_pmet_same, ← lossGap_gap_same i s]

variable {i} in
theorem pointGone_lostPoint (j : Fin 32) (h : PointGone i s) : PointGone i (lostPoint s j) := by
  by_cases hj : i = j
  · exact hj ▸ pointGone_lostPoint_same s i
  · obtain ⟨hw, hon, hgap⟩ := h
    obtain ⟨hsafe, hcp, hpmet⟩ := lostPoint_parts s j
    have hi : (lostPoint s j).pmet[i] = s.pmet[i] := by
      rw [hpmet, modPmet_pmet_other hj, lossGap_pmet_other hj]
    refine ⟨(withdrawn_stopPoint j hw).of_eq hsafe hcp, ?_, ?_⟩
    · rw [hi, hon]
    · rw [hi, hgap]

variable {i} in
theorem portSends_lostPoint {k : Fin 8} (hi : slotOf i = k) : PortSends k s (lostPoint s i) := by
  have hend : (endSes i 6 (withdraw i (lossGap i s).1)).ports = s.ports := by
    rw [(upd_endSes ..).ports rfl, (upd_withdraw ..).ports rfl, (upd_lossGap ..).ports rfl]
  refine ((PortSends.of_ports hend).trans (portSends_slacIdle hi _)).trans (.of_ports ?_)
  unfold lostPoint
  generalize slacIdle i (endSes i 6 (withdraw i (lossGap i s).1)) = u
  dsimp only
  split
  · rfl
  · exact (upd_toSafeSt ..).ports rfl

end

/-! The head (06 R216). -/

/-- The port of a lost head. -/
def portLost (p : Port) : Port :=
  { p with st := .dark, tokensOff := true, lossPending := true, losses := inc32 p.losses, annRun := 0, checkStep := 0, pairStep := 0
           stat := [], lastTick := none, missRun := 0, usableRun := 0, statMiss := 0, silence := 0, slowDone := false, lenRun := false }

/-- The points of the head and its halo check as the loss leaves them, with the gaps closed reported. -/
def pointsLost (k : Fin 8) (gs : List Nat) (s : State) : State :=
  headLost.modHaloOff k (haloDrop k (tickEvents k 0 [] gs ((headPts k).foldl lostPoint s)))

/-- The fold over the points carries the gaps closed beside the state, which does not depend on them. -/
theorem foldl_lostPoint_fst {F : State × List Nat → Fin 32 → State × List Nat} (hF : ∀ a i, (F a i).1 = lostPoint a.1 i) (l : List (Fin 32))
    (s : State) (gs : List Nat) : (l.foldl F (s, gs)).1 = l.foldl lostPoint s :=
  (List.foldl_hom Prod.fst fun a i => (hF a i).symm).symm

section
variable (k : Fin 8) (gs : List Nat) (s : State)

theorem portSends_pointsLost : PortSends k s (pointsLost k gs s) := by
  refine .trans (.foldl (fun v i hi => portSends_lostPoint v (slotOf_of_mem_headPts hi)) s) ?_
  exact (portSends_tickEvents ..).trans (.of_ports rfl)

theorem pointGone_pointsLost (p : Fin 4) : PointGone (ptIdx k p) (pointsLost k gs s) := by
  have hfold : PointGone (ptIdx k p) ((headPts k).foldl lostPoint s) :=
    foldl_reaches (P := fun _ => True) (Q := PointGone (ptIdx k p)) (ptIdx_mem_headPts k p) trivial (fun _ _ _ => trivial)
      (fun u _ => pointGone_lostPoint_same u _) (fun u j => pointGone_lostPoint u j)
  have hupd : Upd [.ports, .ev, .sen, .meas] ((headPts k).foldl lostPoint s) (pointsLost k gs s) :=
    .comp (upd_headLost_modHaloOff ..) rfl (.comp (upd_haloDrop ..) rfl ((upd_tickEvents ..).mono rfl))
  exact hfold.of_upd hupd rfl rfl rfl

end

/-- The head is gone and SEN and the event unit are told. -/
def lossReported (k : Fin 8) (reason : Nat) (s : State) : State :=
  raise 0x3013 1 (4 * k.val) reason (tamperRemoval k ((s.modPort k portLost).modPipes k fun p => { p with on := false }))

theorem headLost_eq (k : Fin 8) (reason : Nat) (s : State) : ∃ gs, headLost k reason s = lossReported k reason (pointsLost k gs s) := by
  unfold headLost pointsLost
  dsimp only
  rw [foldl_lostPoint_fst fun _ _ => rfl]
  exact ⟨_, rfl⟩

theorem upd_lossReported (k : Fin 8) (reason : Nat) (s : State) :
    Upd [.ports, .pipes, .tamper, .ev, .sen] s (lossReported k reason s) :=
  .comp (upd_raise ..) rfl (.comp (upd_tamperRemoval ..) rfl (.comp (upd_modPipes ..) rfl ((upd_modPort ..).mono rfl)))

theorem lossReported_ports (k : Fin 8) (reason : Nat) (s : State) : (lossReported k reason s).ports = (s.modPort k portLost).ports := by
  rw [lossReported, raise_ports, (upd_tamperRemoval ..).ports rfl]
  rfl

theorem headGone_headLost (k : Fin 8) (reason : Nat) (s : State) : HeadGone k s (headLost k reason s) := by
  obtain ⟨gs, heq⟩ := headLost_eq k reason s
  have hsends := portSends_pointsLost k gs s
  have hk : (headLost k reason s).ports[k] = portLost (pointsLost k gs s).ports[k] := by
    rw [heq, lossReported_ports, modPort_ports_same]
  rw [HeadGone, hk]
  refine ⟨rfl, rfl, rfl, congrArg inc32 (hsends.read Port.losses fun _ _ _ _ _ => rfl), rfl, rfl, fun j hj => ?_, fun p => ?_⟩
  · rw [heq, lossReported_ports, modPort_ports_other hj, hsends.other j hj]
  · rw [heq]
    exact (pointGone_pointsLost k gs s p).of_upd (upd_lossReported ..) rfl rfl rfl

end Sys2Proof.Machine
end

section
/-! PROOF. The states of a point-link port (06 R206 to R208, R215 to R218, Table 6.9; 09 R299). -/

namespace Sys2Proof.Machine

section
variable {k : Fin 8} {s : State}

/-- An event after a change of ports alone is the event of the state before. -/
theorem raise_ev_modPort (f : Port → Port) (code src pt arg : Nat) : (raise code src pt arg (s.modPort k f)).ev = (raise code src pt arg s).ev :=
  (upd_modPort k f s).raise_ev rfl rfl rfl rfl ..

theorem raise_modPort_port (f : Port → Port) (code src pt arg : Nat) : (raise code src pt arg (s.modPort k f)).ports[k] = f s.ports[k] := by
  rw [raise_ports, modPort_ports_same]

/-! Silence, SLOW and missing status (06 R215, R218; 09 R299). -/

theorem headSilenceLoss_loses (h : 256 ≤ s.ports[k].silence) (hruns : portRuns s.ports[k] = true) :
    Does (.headSilenceLoss k) s [.ports, .meas, .pmet, .safe, .psafe, .cp, .plc, .pipes, .ses, .ev, .sen, .tamper] fun t => HeadGone k s t := by
  have hexec : exec (.headSilenceLoss k) s = .next (headLost k 1 s) :=
    congrArg Host.Outcome.next ((if_neg (by omega)).trans (if_pos hruns))
  exact ⟨_, hexec, upd_headLost .., headGone_headLost ..⟩

theorem headSilenceLoss_darkens (h : 256 ≤ s.ports[k].silence)
    (hst : s.ports[k].st = .pairing ∨ s.ports[k].st = .testing ∨ s.ports[k].st = .ready) :
    Does (.headSilenceLoss k) s [.ports] fun t => t.ports[k].st = .dark ∧ t.ports[k].pairStep = 0 ∧ t.ports[k].silence = 0 := by
  have hruns : ¬ portRuns s.ports[k] = true := by rcases hst with hst | hst | hst <;> simp [-Fin.getElem_fin, portRuns, hst]
  have hexec : exec (.headSilenceLoss k) s = .next (s.modPort k fun p =>
      { p with st := .dark, annRun := 0, pairStep := 0, checkStep := 0, silence := 0 }) :=
    congrArg Host.Outcome.next
      (((if_neg (by omega)).trans (if_neg hruns)).trans (if_pos (by rcases hst with hst | hst | hst <;> simp [-Fin.getElem_fin, hst])))
  refine ⟨_, hexec, upd_modPort .., ?_⟩
  simp only [modPort_ports_same, and_self]

theorem headSilenceLoss_idles (h : s.ports[k].silence < 256) : Idles (.headSilenceLoss k) s :=
  congrArg Host.Outcome.next (if_pos h)

theorem slowTimeout_loses (hst : s.ports[k].st = .slow) (h : 500 < s.ports[k].slowBnd) :
    Does (.slowTimeout k) s [.ports, .meas, .pmet, .safe, .psafe, .cp, .plc, .pipes, .ses, .ev, .sen, .tamper] fun t => HeadGone k s t := by
  have hexec : exec (.slowTimeout k) s = .next (headLost k 3 s) :=
    congrArg Host.Outcome.next (if_pos (by simp [-Fin.getElem_fin, hst, h]))
  exact ⟨_, hexec, upd_headLost .., headGone_headLost ..⟩

theorem slowEnd_admits (hst : s.ports[k].st = .slow) (hdone : s.ports[k].slowDone = true) :
    Does (.slowEnd k) s [.gates, .ports, .meas, .ev, .sen, .freeCtr] fun t =>
      t.ports[k].st = .admitted ∧ t.ports[k].slowDone = false ∧ t.ev = (raise 0x3012 1 (4 * k.val) s.ports[k].slowBnd s).ev := by
  have hact : doSlowEnd k s = modHalo k haloRestore (raise 0x3012 1 (4 * k.val) s.ports[k].slowBnd
      (s.modPort k fun p => { p with st := .admitted, slowDone := false })) :=
    if_pos (by simp [-Fin.getElem_fin, hst, hdone])
  refine does_of_exec rfl (upd_execSlowEnd k s) ?_
  have hmeas (u : State) := upd_modHalo k haloRestore u
  rw [atBoundary_ports, atBoundary_ev, hact, (hmeas _).ports rfl, (hmeas _).ev rfl, raise_modPort_port, raise_ev_modPort]
  exact ⟨rfl, rfl, rfl⟩

theorem statusMissingWithdraw_stops (h : 16 ≤ s.ports[k].statMiss) (hruns : portRuns s.ports[k] = true) :
    Does (.statusMissingWithdraw k) s [.safe, .psafe, .cp] fun t =>
      ∀ p : Fin 4, Withdrawn (ptIdx k p) t ∧ t.psafe[ptIdx k p].statMiss = true := by
  have hexec : exec (.statusMissingWithdraw k) s = .next (stopHead k (fun x => { x with statMiss := true }) s) :=
    congrArg Host.Outcome.next (if_pos (by simp [-Fin.getElem_fin, h, hruns]))
  refine ⟨_, hexec, upd_stopHead .., fun p => ?_⟩
  refine foldl_reaches (P := fun _ => True) (Q := fun u => Withdrawn (ptIdx k p) u ∧ u.psafe[ptIdx k p].statMiss = true)
    (ptIdx_mem_headPts k p) trivial (fun _ _ _ => trivial) (fun u _ => ⟨withdrawn_stopPoint_same .., ?_⟩) (fun u j hQ => ?_)
  · simp [stopPoint_psafe]
  · obtain ⟨hw, hmiss⟩ := hQ
    refine ⟨withdrawn_stopPoint j (hw.of_eq rfl rfl), ?_⟩
    by_cases hj : j = ptIdx k p
    · subst hj
      simp [stopPoint_psafe]
    · simpa [stopPoint_psafe, Fin.val_ne_of_ne hj] using hmiss

/-! Pairing, the self-test and the check steps (06 R206 to R208). -/

theorem pairingTimeout_fails (hst : s.ports[k].st = .pairing) :
    Does (.pairingTimeout k) s [.ports, .ev, .sen] fun t => t.ports[k].st = .failed ∧ t.ports[k].pairStep = 0 ∧
      t.ev = (raise 0x6132 1 (4 * k.val) (k.val * 2 ^ 24 + (if s.ports[k].pairStep = 3 then 3 else 2) * 2 ^ 16) s).ev := by
  have hexec : exec (.pairingTimeout k) s = .next (pairFail k (if s.ports[k].pairStep = 3 then 3 else 2) s) :=
    congrArg Host.Outcome.next (if_pos hst)
  refine does_of_exec hexec (upd_execPairingTimeout k s) ?_
  rw [pairFail, raise_modPort_port, raise_ev_modPort]
  exact ⟨rfl, rfl, rfl⟩

theorem headSelfTestTimeout_fails (hst : s.ports[k].st = .testing) (hstep : s.ports[k].checkStep = 1) :
    Does (.headSelfTestTimeout k) s [.ports, .ev, .sen] fun t => t.ports[k].st = .failed ∧
      t.ev = (raise 0x3019 (0x20 + k.val) (4 * k.val) (bits (sWord s k 20) 23 16) s).ev := by
  have hexec : exec (.headSelfTestTimeout k) s = .next (raise 0x3019 (0x20 + k.val) (4 * k.val) (bits (sWord s k 20) 23 16)
      (s.modPort k fun p => { p with st := .failed, checkStep := 0 })) :=
    congrArg Host.Outcome.next (if_pos (by simp [-Fin.getElem_fin, hst, hstep]))
  refine does_of_exec hexec (upd_execHeadSelfTestTimeout k s) ?_
  rw [raise_modPort_port, raise_ev_modPort]
  exact ⟨rfl, rfl⟩

/-- The port fails at a check step, with event 0x301A (06 R208). -/
def checkFailed (k : Fin 8) (step : Nat) (s : State) : State :=
  raise 0x301A 1 (4 * k.val) step (s.modPort k fun p => { p with st := .failed, checkStep := 0 })

theorem checkFailed_port_ev (step : Nat) : (checkFailed k step s).ports[k].st = .failed ∧
    (checkFailed k step s).ev = (raise 0x301A 1 (4 * k.val) step s).ev := by
  rw [checkFailed, raise_modPort_port, raise_ev_modPort]
  exact ⟨rfl, rfl⟩

theorem checkStepEnd_judges (hst : s.ports[k].st = .testing) (hlo : 2 ≤ s.ports[k].checkStep) (hhi : s.ports[k].checkStep ≤ 4)
    (htk : 8 ≤ s.ports[k].checkTk) :
    Does (.checkStepEnd k) s [.ports, .ev, .sen] fun t =>
      if checkReport s k s.ports[k].checkStep then
        t.ports[k].st = .testing ∧ t.ports[k].checkStep = s.ports[k].checkStep + 1 ∧ t.ports[k].checkTk = 0 ∧ t.ev = s.ev
      else t.ports[k].st = .failed ∧ t.ev = (raise 0x301A 1 (4 * k.val) s.ports[k].checkStep s).ev := by
  have hexec : exec (.checkStepEnd k) s = .next (if checkReport s k s.ports[k].checkStep then
      s.modPort k fun p => { p with checkStep := p.checkStep + 1, checkTk := 0, fsBefore := bits (sWord s k 22) 15 0 }
      else checkFailed k s.ports[k].checkStep s) :=
    congrArg Host.Outcome.next
      (((if_neg (by simp [-Fin.getElem_fin, hst]; omega)).trans (if_pos hhi)).trans (if_neg (by omega)))
  refine does_of_exec hexec (upd_execCheckStepEnd k s) ?_
  split
  · rw [modPort_ports_same]
    exact ⟨hst, rfl, rfl, rfl⟩
  · exact checkFailed_port_ev ..

theorem checkStepEnd_silence (hst : s.ports[k].st = .testing) (hstep : s.ports[k].checkStep = 5) (htk : 20 ≤ s.ports[k].checkTk) :
    Does (.checkStepEnd k) s [.ports, .ev, .sen] fun t =>
      if (headPts k).all (fun i => safeBit s i 5) && bits (sWord s k 22) 15 0 == satAdd 16 s.ports[k].fsBefore 1 then t.ports[k].st = .ready
      else t.ports[k].st = .failed ∧ t.ev = (raise 0x301A 1 (4 * k.val) 5 s).ev := by
  have hexec : exec (.checkStepEnd k) s = .next
      (if (headPts k).all (fun i => safeBit s i 5) && bits (sWord s k 22) 15 0 == satAdd 16 s.ports[k].fsBefore 1 then
        s.modPort k fun p => { p with st := .ready, checkStep := 6 }
      else checkFailed k 5 s) :=
    congrArg Host.Outcome.next
      (((if_neg (by simp [-Fin.getElem_fin, hst, hstep])).trans (if_neg (by omega))).trans (if_neg (by omega)))
  refine does_of_exec hexec (upd_execCheckStepEnd k s) ?_
  split
  · rw [modPort_ports_same]
  · exact checkFailed_port_ev ..

end

/-- Settles O14: each command acts on the port of its slot as Table 6.9 says; a loss goes through the points of the head, and so does the
withdrawal for missing status. -/
theorem portStates : Obligations.PortStates := by
  unfold Obligations.PortStates
  exact ⟨fun _ _ => headSilenceLoss_loses, fun _ _ => headSilenceLoss_darkens, fun _ _ => headSilenceLoss_idles,
    fun _ _ => slowTimeout_loses, fun _ _ => slowEnd_admits, fun _ _ => statusMissingWithdraw_stops, fun _ _ => pairingTimeout_fails,
    fun _ _ => headSelfTestTimeout_fails, fun _ _ => checkStepEnd_judges, fun _ _ => checkStepEnd_silence⟩

end Sys2Proof.Machine
end

section
/-! SUPPORT. The points of a head over one tick: a tick in the buffer of each metered point, usable, bridged or in a gap (06 R217). -/

namespace Sys2Proof.Machine

/-- What a tick of the head does to one point: nothing where it is not metered, else a usable tick or a missing one. -/
def tickPoint (tick : Nat) (usable : Fin 32 → Option (List Rat × List Rat × Bool)) (s : State) (i : Fin 32) : State :=
  if !metered s i then s
  else
    match usable i with
    | some (cur, vol, ovr) => (pointTick i tick cur vol ovr s).1
    | none => (pointMiss i tick s).1

section
variable (tick : Nat) (usable : Fin 32 → Option (List Rat × List Rat × Bool))

theorem pointTick_pmet_same (i : Fin 32) (cur vol : List Rat) (ovr : Bool) (s : State) :
    ∃ e, (pointTick i tick cur vol ovr s).1.pmet[i].buf = s.pmet[i].buf ++ [e] := by
  unfold pointTick
  exact ⟨_, congrArg PtMet.buf (modPmet_pmet_same ..)⟩

theorem pointTick_pmet_other {i j : Fin 32} (h : i ≠ j) (cur vol : List Rat) (ovr : Bool) (s : State) :
    (pointTick j tick cur vol ovr s).1.pmet[i] = s.pmet[i] := by
  unfold pointTick
  exact modPmet_pmet_other h ..

/-- A missing tick goes into the buffer: bridged up to the fourth in a row, in a gap from the fifth on (06 R217). -/
theorem pointMiss_pmet_same (i : Fin 32) (s : State) : (pointMiss i tick s).1.pmet[i].missRun = s.pmet[i].missRun + 1 ∧
    ∃ e, (pointMiss i tick s).1.pmet[i].buf = s.pmet[i].buf ++ [e] ∧ e.tk = tick ∧
      e.kind = if s.pmet[i].missRun + 1 ≤ 4 then .bridged else .gap := by
  unfold pointMiss
  exact ⟨congrArg PtMet.missRun (modPmet_pmet_same ..), _, congrArg PtMet.buf (modPmet_pmet_same ..), rfl, rfl⟩

theorem pointMiss_pmet_other {i j : Fin 32} (h : i ≠ j) (s : State) : (pointMiss j tick s).1.pmet[i] = s.pmet[i] := by
  unfold pointMiss
  exact modPmet_pmet_other h ..

theorem tickPoint_pmet_other {i j : Fin 32} (h : i ≠ j) (s : State) : (tickPoint tick usable s j).pmet[i] = s.pmet[i] := by
  unfold tickPoint
  split
  · rfl
  · split
    · exact pointTick_pmet_other tick h ..
    · exact pointMiss_pmet_other tick h ..

theorem upd_tickPoint (s : State) (i : Fin 32) : Upd [.pmet] s (tickPoint tick usable s i) := by
  unfold tickPoint
  split
  · exact .refl ..
  · split
    · exact upd_pointTick ..
    · exact upd_pointMiss ..

end

theorem metered_congr {s t : State} {i : Fin 32} (himg : t.img = s.img) (hon : t.pmet[i].on = s.pmet[i].on) :
    metered t i = metered s i := by
  unfold metered hasPoint recOf
  rw [himg, hon]

/-- A fold that carries lists beside the state, which does not depend on them. -/
theorem foldl_tickPoint_fst {tick : Nat} {usable : Fin 32 → Option (List Rat × List Rat × Bool)} {β : Type}
    {F : State × β → Fin 32 → State × β} (hF : ∀ a i, (F a i).1 = tickPoint tick usable a.1 i) (l : List (Fin 32)) (s : State) (b : β) :
    (l.foldl F (s, b)).1 = l.foldl (tickPoint tick usable) s :=
  (List.foldl_hom Prod.fst fun a i => (hF a i).symm).symm

theorem headTick_eq (k : Fin 8) (tick : Nat) (usable : Fin 32 → Option (List Rat × List Rat × Bool)) (s : State) : ∃ kinds gs,
    headTick k tick usable s = tickEvents k tick kinds gs ((headPts k).foldl (tickPoint tick usable) s) := by
  unfold headTick
  dsimp only
  rw [foldl_tickPoint_fst (tick := tick) (usable := usable)]
  · exact ⟨_, _, rfl⟩
  · intro a i
    unfold tickPoint
    split
    · rfl
    · cases usable i with
      | some v => rfl
      | none => rfl

theorem portSends_headTick (k : Fin 8) (tick : Nat) (usable : Fin 32 → Option (List Rat × List Rat × Bool)) (s : State) :
    PortSends k s (headTick k tick usable s) := by
  obtain ⟨kinds, gs, heq⟩ := headTick_eq k tick usable s
  have hpts : ((headPts k).foldl (tickPoint tick usable) s).ports = s.ports :=
    foldl_same State.ports _ _ _ fun u i => (upd_tickPoint tick usable u i).ports rfl
  rw [heq]
  exact (PortSends.of_ports hpts).trans (portSends_tickEvents ..)

/-- What the step of a point does to its own metering, a tick of its head does, as the steps of the other points leave it alone. -/
theorem headTick_pmet {k : Fin 8} {tick : Nat} {usable : Fin 32 → Option (List Rat × List Rat × Bool)} {s : State} {p : Fin 4}
    {Q : PtMet → Prop}
    (hstep : ∀ u : State, u.img = s.img → u.pmet[ptIdx k p] = s.pmet[ptIdx k p] → Q (tickPoint tick usable u (ptIdx k p)).pmet[ptIdx k p]) :
    Q (headTick k tick usable s).pmet[ptIdx k p] := by
  obtain ⟨kinds, gs, heq⟩ := headTick_eq k tick usable s
  rw [heq, (upd_tickEvents ..).pmet rfl]
  refine foldl_once (P := fun u => u.img = s.img ∧ u.pmet[ptIdx k p] = s.pmet[ptIdx k p]) (Q := fun u => Q u.pmet[ptIdx k p])
    (headPts_nodup k) (ptIdx_mem_headPts k p) ⟨rfl, rfl⟩ ?_ (fun u h => hstep u h.1 h.2) ?_
  · rintro u j hj ⟨himg, hpmet⟩
    exact ⟨((upd_tickPoint ..).img rfl).trans himg, (tickPoint_pmet_other tick usable hj.symm u).trans hpmet⟩
  · intro u j hj h
    rwa [tickPoint_pmet_other tick usable hj.symm u]

/-- Every tick of the head puts one tick into the buffer of a metered point. -/
theorem headTick_buf_length {k : Fin 8} {tick : Nat} {usable : Fin 32 → Option (List Rat × List Rat × Bool)} {s : State} {p : Fin 4}
    (hm : metered s (ptIdx k p) = true) :
    (headTick k tick usable s).pmet[ptIdx k p].buf.length = s.pmet[ptIdx k p].buf.length + 1 := by
  refine headTick_pmet (Q := fun x => x.buf.length = s.pmet[ptIdx k p].buf.length + 1) fun u himg hpmet => ?_
  have hmu : metered u (ptIdx k p) = true := (metered_congr himg (by rw [hpmet])).trans hm
  rw [← hpmet, tickPoint, if_neg (by simp [hmu])]
  split
  · obtain ⟨e, he⟩ := pointTick_pmet_same tick (ptIdx k p) _ _ _ u
    rw [he, List.length_append, List.length_singleton]
  · obtain ⟨_, e, he, _⟩ := pointMiss_pmet_same tick (ptIdx k p) u
    rw [he, List.length_append, List.length_singleton]

/-- A tick without a usable sample is one missing tick of every metered point. -/
theorem headTick_missing {k : Fin 8} {tick : Nat} {s : State} {p : Fin 4} (hm : metered s (ptIdx k p) = true) :
    (headTick k tick (fun _ => none) s).pmet[ptIdx k p].missRun = s.pmet[ptIdx k p].missRun + 1 ∧
      ∃ e ∈ (headTick k tick (fun _ => none) s).pmet[ptIdx k p].buf.getLast?, e.tk = tick ∧
        e.kind = if s.pmet[ptIdx k p].missRun + 1 ≤ 4 then .bridged else .gap := by
  refine headTick_pmet (Q := fun x => x.missRun = s.pmet[ptIdx k p].missRun + 1 ∧ ∃ e ∈ x.buf.getLast?, e.tk = tick ∧
    e.kind = if s.pmet[ptIdx k p].missRun + 1 ≤ 4 then .bridged else .gap) fun u himg hpmet => ?_
  have hmu : metered u (ptIdx k p) = true := (metered_congr himg (by rw [hpmet])).trans hm
  rw [← hpmet, tickPoint, if_neg (by simp [hmu])]
  obtain ⟨hrun, e, he, htk, hkind⟩ := pointMiss_pmet_same tick (ptIdx k p) u
  refine ⟨hrun, e, ?_, htk, hkind⟩
  rw [he, List.getLast?_concat]
  rfl

end Sys2Proof.Machine
end

section
/-! SUPPORT. What a missing tick and a usable frame leave of a port and of the points of its head (06 R199, R215, R217, Tables 6.9, 6.10). -/

namespace Sys2Proof.Machine

section
variable {k : Fin 8} {s : State}

/-! A missing tick (06 R215, R217). -/

/-- Every channel of the head repeats its newest value. -/
def chansMissed (k : Fin 8) (s : State) : State :=
  s.modMeas k fun m => { m with chans := ⟨((List.range 28).map fun c => chanMiss s k c (m.chans.toList.getD c {})).toArray, by simp⟩ }

/-- The port after one more missing tick in a row. -/
def portMissing (p : Port) : Port := { p with missRun := p.missRun + 1, usableRun := 0 }

/-- The tick counts as missing on the points of the head and on its port. -/
def tickMissed (k : Fin 8) (tick : Nat) (s : State) : State :=
  let u := headTick k tick (fun _ => none) (chansMissed k s)
  u.modPort k fun p => { p with missRun := u.ports[k].missRun + 1, usableRun := 0 }

theorem tickMissed_eq (k : Fin 8) (tick : Nat) (s : State) :
    tickMissed k tick s = (headTick k tick (fun _ => none) (chansMissed k s)).modPort k portMissing := by
  unfold tickMissed
  generalize headTick k tick (fun _ => none) (chansMissed k s) = u
  exact modPort_congr rfl

/-- The port of an admitted head becomes SLOW. -/
def portSlow (p : Port) : Port := { p with st := .slow, slows := inc32 p.slows, slowBnd := 0, slowDone := false }

/-- A point of a head that becomes SLOW: its session ends, its link leaves its network (06 Table 6.9). -/
def slowPoint (s : State) (i : Fin 32) : State := slacIdle i (endSes i 6 s)

/-- The head becomes SLOW: what its sessions, its links and its halo check do then (06 Table 6.9). -/
def slowEntered (k : Fin 8) (tick : Nat) (s : State) : State :=
  haloDrop k (raise 0x3011 1 (4 * k.val) (tick % 65536)
    ((headPts k).foldl slowPoint (s.modPort k portSlow)))

theorem headMiss_eq (tick : Nat) (hruns : portRuns s.ports[k] = true) : headMiss k tick s =
    if (headTick k tick (fun _ => none) (chansMissed k s)).ports[k].missRun + 1 = 64 && (tickMissed k tick s).ports[k].st = .admitted then
      slowEntered k tick (tickMissed k tick s)
    else tickMissed k tick s :=
  if_neg (by simp [-Fin.getElem_fin, hruns])

theorem portSends_slowEntered (tick : Nat) (s : State) : PortSends k (s.modPort k portSlow) (slowEntered k tick s) := by
  refine .trans (t := (headPts k).foldl slowPoint (s.modPort k portSlow)) (.foldl (fun u i hi => ?_) _) (.of_ports ?_)
  · exact .trans (.of_ports ((upd_endSes ..).ports rfl)) (portSends_slacIdle (slotOf_of_mem_headPts hi) _)
  · exact ((upd_haloDrop ..).ports rfl).trans (raise_ports ..)

theorem upd_slowEntered (tick : Nat) (s : State) : Upd [.ports, .plc, .ses, .ev, .sen, .meas] s (slowEntered k tick s) := by
  refine .comp (upd_haloDrop ..) rfl (.comp (upd_raise ..) rfl (.foldl (fun u i hu => ?_) ((upd_modPort ..).mono rfl)))
  exact .comp (upd_slacIdle ..) rfl (.comp (upd_endSes ..) rfl hu)

/-- The port after a missing tick: one more in a row, and SLOW at the 64th (06 R217, Table 6.9). -/
def portMissed (p : Port) : Port :=
  if p.missRun + 1 = 64 ∧ p.st = .admitted then portSlow (portMissing p) else portMissing p

theorem portMissed_reads (p : Port) : (portMissed p).lastTick = p.lastTick ∧ (portMissed p).silence = p.silence ∧
    (portMissed p).statMiss = p.statMiss ∧ (portMissed p).missRun = p.missRun + 1 ∧ (portMissed p).usableRun = 0 ∧
    (portMissed p).st = if p.missRun + 1 = 64 ∧ p.st = .admitted then .slow else p.st := by
  unfold portMissed
  split
  · exact ⟨rfl, rfl, rfl, rfl, rfl, rfl⟩
  · exact ⟨rfl, rfl, rfl, rfl, rfl, rfl⟩

theorem portSends_tickMissed (k : Fin 8) (tick : Nat) (s : State) : PortSends k (s.modPort k portMissing) (tickMissed k tick s) := by
  rw [tickMissed_eq]
  exact .trans (t := (chansMissed k s).modPort k portMissing) (.of_ports rfl) ((portSends_headTick ..).modPort fun _ _ _ _ _ => rfl)

theorem portSends_headMiss (tick : Nat) (hruns : portRuns s.ports[k] = true) :
    PortSends k (s.modPort k portMissed) (headMiss k tick s) := by
  have hsends := portSends_tickMissed k tick s
  have hrun : (headTick k tick (fun _ => none) (chansMissed k s)).ports[k].missRun = s.ports[k].missRun :=
    (portSends_headTick ..).read Port.missRun fun _ _ _ _ _ => rfl
  have hst : (tickMissed k tick s).ports[k].st = s.ports[k].st := by
    rw [hsends.read Port.st fun _ _ _ _ _ => rfl, modPort_ports_same, portMissing]
  rw [headMiss_eq tick hruns, hrun, hst]
  simp only [Bool.and_eq_true, decide_eq_true_eq]
  by_cases hslow : s.ports[k].missRun + 1 = 64 ∧ s.ports[k].st = .admitted
  · have hport : s.modPort k portMissed = (s.modPort k portMissing).modPort k portSlow := by
      rw [modPort_modPort]
      exact modPort_congr (if_pos hslow)
    rw [if_pos hslow, hport]
    exact (hsends.modPort fun _ _ _ _ _ => rfl).trans (portSends_slowEntered tick _)
  · have hport : s.modPort k portMissed = s.modPort k portMissing := modPort_congr (if_neg hslow)
    rwa [if_neg hslow, hport]

theorem headMiss_pmet (tick : Nat) (hruns : portRuns s.ports[k] = true) :
    (headMiss k tick s).pmet = (headTick k tick (fun _ => none) (chansMissed k s)).pmet := by
  have hticks : (tickMissed k tick s).pmet = (headTick k tick (fun _ => none) (chansMissed k s)).pmet := by
    rw [tickMissed_eq, State.modPort_pmet]
  rw [headMiss_eq tick hruns, ← hticks]
  split
  · rw [(upd_slowEntered ..).pmet rfl]
  · rfl

/-! A usable frame (06 R199, Table 6.10). -/

theorem portSends_takeStatus (k : Fin 8) (st : List W32) (s : State) :
    PortSends k (s.modPort k fun p => { p with stat := st, statMiss := 0 }) (takeStatus k st s) := by
  unfold takeStatus
  dsimp only
  generalize hu : (headPts k).foldl _ _ = u
  have hports : u.ports = (s.modPort k fun p => { p with stat := st, statMiss := 0 }).ports := by
    rw [← hu]
    refine foldl_same State.ports _ _ _ fun v i => ?_
    rw [apply_ite State.ports, (upd_unstop ..).ports rfl]
    exact ite_self _
  refine (PortSends.of_ports hports).trans (.trans ?_ (.of_ports (raiseIf_ports ..)))
  split
  · exact portSends_pipeStatus ..
  · exact .refl ..

/-- The channels as a sample block leaves them, before the ticks of the points. -/
def samplesTaken (k : Fin 8) (blk : List W32) (echo : Nat) (s : State) : State :=
  (finList 28).foldl (fun s (c : Fin 28) =>
    if chanUsable s k c.val (blk.getD c.val 0) echo then
      modChan k c (chanPush s k c.val (chanInput s k.val c.val (blk.getD c.val 0))) s
    else modChan k c (fun x =>
      let y := chanMiss s k c.val x
      { y with sfTicks := x.sfTicks, ovrQuiet := x.ovrQuiet, srcQuiet := x.srcQuiet }) s)
    ((finList 28).foldl (fun s (c : Fin 28) => chanFlags k c (blk.getD c.val 0) echo s) s)

/-- The port after a usable tick. -/
def portSampled (p : Port) : Port :=
  { p with missRun := 0, usableRun := p.usableRun + 1, slowDone := p.slowDone || (p.st == .slow && decide (160 ≤ p.usableRun + 1)) }

theorem takeSamples_eq (k : Fin 8) (tick : Nat) (blk : List W32) (echo : Nat) (s : State) : ∃ usable,
    takeSamples k tick blk echo s = (headTick k tick usable (samplesTaken k blk echo s)).modPort k portSampled := ⟨_, rfl⟩

theorem upd_samplesTaken (k : Fin 8) (blk : List W32) (echo : Nat) (s : State) :
    Upd [.meas, .safe, .psafe, .cp, .ses, .ev, .sen, .tamper] s (samplesTaken k blk echo s) := by
  refine .foldl (fun u c hu => ?_) (.foldl (fun u c hu => .comp (upd_chanFlags ..) rfl hu) (.refl ..))
  exact .ite (.comp (upd_modChan ..) rfl hu) (.comp (upd_modChan ..) rfl hu)

theorem portSends_takeSamples (k : Fin 8) (tick : Nat) (blk : List W32) (echo : Nat) (s : State) :
    PortSends k (s.modPort k portSampled) (takeSamples k tick blk echo s) := by
  obtain ⟨usable, heq⟩ := takeSamples_eq k tick blk echo s
  rw [heq]
  have hports : (samplesTaken k blk echo s).ports = s.ports := (upd_samplesTaken ..).ports rfl
  exact ((PortSends.of_ports hports).trans (portSends_headTick k tick usable _)).modPort fun _ _ _ _ _ => rfl

theorem takeSamples_buf_length {tick : Nat} {blk : List W32} {echo : Nat} {p : Fin 4} (hm : metered s (ptIdx k p) = true) :
    (takeSamples k tick blk echo s).pmet[ptIdx k p].buf.length = s.pmet[ptIdx k p].buf.length + 1 := by
  obtain ⟨usable, heq⟩ := takeSamples_eq k tick blk echo s
  have hu := upd_samplesTaken k blk echo s
  rw [heq, State.modPort_pmet, headTick_buf_length ((metered_congr (hu.img rfl) (by rw [hu.pmet rfl])).trans hm), hu.pmet rfl]

/-- The status block of a frame of the configured length (06 Table 6.10). -/
def frameStatus (k : Fin 8) (ws : List W32) (s : State) : List W32 := (ws.drop (ws.length - 26 - tunWords s k.val)).take 24

/-- The status of a usable frame for a tick is taken. -/
def statusTaken (k : Fin 8) (tick : Nat) (ws : List W32) (s : State) : State :=
  takeStatus k (frameStatus k ws s) (s.modPort k fun p => { p with lastTick := some tick, lenRun := false })

theorem portSends_statusTaken (k : Fin 8) (tick : Nat) (ws : List W32) (s : State) :
    PortSends k (s.modPort k fun p => { p with lastTick := some tick, lenRun := false, stat := frameStatus k ws s, statMiss := 0 })
      (statusTaken k tick ws s) := by
  refine .trans (.of_ports ?_) (portSends_takeStatus ..)
  simp

theorem upd_statusTaken (k : Fin 8) (tick : Nat) (ws : List W32) (s : State) :
    Upd [.ports, .psafe, .cp, .plc, .pipes, .ev, .sen] s (statusTaken k tick ws s) :=
  .comp (upd_takeStatus ..) rfl ((upd_modPort ..).mono rfl)

theorem takeFrame_eq {tick : Nat} {ws : List W32} (hruns : portRuns s.ports[k] = true) (hlen : ws.length = lCfg s k.val) :
    takeFrame k tick ws s =
      takeSamples k tick ((ws.drop 3).take 28) (fw (frameStatus k ws s) 18) (statusTaken k tick ws s) := by
  have hst : (statusTaken k tick ws s).ports[k].st = s.ports[k].st := by
    rw [(portSends_statusTaken ..).read Port.st fun _ _ _ _ _ => rfl, modPort_ports_same]
  have hruns' : portRuns (statusTaken k tick ws s).ports[k] = true := by rwa [portRuns, hst]
  have htest : (statusTaken k tick ws s).ports[k].st ≠ .testing := by
    rw [hst]
    intro h
    simp [-Fin.getElem_fin, portRuns, h] at hruns
  have hstatus : takeStatus k ((ws.drop (ws.length - 26 - tunWords s k.val)).take 24)
      (((s.modPort k fun p => { p with lastTick := some tick })).modPort k fun p => { p with lenRun := false }) = statusTaken k tick ws s := by
    rw [modPort_modPort]
    rfl
  unfold takeFrame
  dsimp only
  refine (if_pos hlen).trans ?_
  rw [hstatus, if_neg htest, if_pos hruns']
  rfl

end

end Sys2Proof.Machine
end

section
/-! PROOF. Upstream frames and deadlines that pass without one (06 R196, R198, R207, R215 to R217, Tables 6.9 to 6.11). -/

namespace Sys2Proof.Machine

section
variable {k : Fin 8} {ws : List W32} {f : Bool} {s : State}

/-! A frame that the hub hears (06 R198, R207, R215). -/

theorem not_deaf (hl : listens k s = true) {n : Nat} (hn : n ≤ s.clk.tickTot) :
    ¬ (!s.clk.started || !hasHead s k.val || decide (s.clk.tickTot < n) || s.met.closedOut) = true := by
  simp only [listens, Bool.and_eq_true, Bool.not_eq_true'] at hl
  obtain ⟨⟨⟨hstart, hhead⟩, _⟩, hclosed⟩ := hl
  simp [hstart, hhead, hclosed, hn]

theorem two_ticks_of_listens (hl : listens k s = true) : 2 ≤ s.clk.tickTot := by
  simp only [listens, Bool.and_eq_true, decide_eq_true_eq] at hl
  obtain ⟨⟨_, hticks⟩, _⟩ := hl
  exact hticks

/-- A frame with good CRC ends the silence of its port. -/
def heard (k : Fin 8) (s : State) : State := s.modPort k fun p => { p with silence := 0 }

theorem heard_port (k : Fin 8) (s : State) : (heard k s).ports[k] = { s.ports[k] with silence := 0 } := modPort_ports_same ..

/-- The reason of event 0x3013 where a frame of TYPE 3 loses an admitted head (06 R216). -/
def announceReason (k : Fin 8) (ws : List W32) (s : State) : Nat :=
  if (upType ws = 3 && upStep ws = 0) && fw ws 4 + fw ws 5 * 2 ^ 32 ≠ headSerial s k.val then 4 else 2

theorem exec_upstreamFrame_bad (hl : listens k s = true) (hg : upGood ws f = false) :
    exec (.upstreamFrame k ws f) s = .next (crcError k s) := by
  refine congrArg Host.Outcome.next ((if_neg (not_deaf hl (two_ticks_of_listens hl))).trans (if_pos ?_))
  simp only [upGood, Bool.and_eq_false_iff, beq_eq_false_iff_ne] at hg
  simpa [or_assoc] using hg

theorem exec_upstreamFrame_runs (hl : listens k s = true) (hg : upGood ws f = true) (hruns : portRuns s.ports[k] = true) :
    exec (.upstreamFrame k ws f) s = .next
      (if upType ws = 3 then headLost k (announceReason k ws s) (heard k s)
       else if seqOk (heard k s) k (s.clk.tickTot - 2) ws then takeFrame k (s.clk.tickTot - 2) ws (heard k s)
       else seqError k (heard k s)) := by
  simp only [upGood, Bool.and_eq_true, beq_iff_eq] at hg
  obtain ⟨⟨hframed, hcrc⟩, hlen⟩ := hg
  refine congrArg Host.Outcome.next ((if_neg (not_deaf hl (two_ticks_of_listens hl))).trans ((if_neg (by simp [hframed, hcrc, hlen])).trans ?_))
  have hst : s.ports[k].st = .admitted ∨ s.ports[k].st = .slow := by simpa [portRuns] using hruns
  dsimp only
  rw [modPort_ports_same]
  dsimp only
  by_cases htype : upType ws = 3
  · rw [if_pos htype]
    rcases hst with hst | hst
    · rw [hst]
      exact (if_pos htype).trans (if_pos rfl)
    · rw [hst]
      exact (if_pos htype).trans (if_pos rfl)
  · rw [if_neg htype]
    rcases hst with hst | hst
    · rw [hst]
      exact if_neg htype
    · rw [hst]
      exact if_neg htype

theorem seqOk_heard (tick : Nat) : seqOk (heard k s) k tick ws = seqOk s k tick ws := by
  unfold seqOk
  rw [heard_port]
  rfl

theorem HeadGone.of_ports {t u : State} (h : HeadGone k u t) (hlosses : u.ports[k].losses = s.ports[k].losses)
    (hother : ∀ j : Fin 8, j ≠ k → u.ports[j] = s.ports[j]) : HeadGone k s t := by
  obtain ⟨hst, htok, hpend, hloss, hstat, hlast, hports, hpts⟩ := h
  exact ⟨hst, htok, hpend, by rw [hloss, hlosses], hstat, hlast, fun j hj => (hports j hj).trans (hother j hj), hpts⟩

theorem upstreamFrame_bad (hl : listens k s = true) (hg : upGood ws f = false) :
    Does (.upstreamFrame k ws f) s [.ports] fun t =>
      t.ports = s.ports.set k { s.ports[k] with crcErr := inc32 s.ports[k].crcErr, crcCy := inc16 s.ports[k].crcCy } :=
  ⟨_, exec_upstreamFrame_bad hl hg, upd_crcError .., rfl⟩

theorem upstreamFrame_outOfSequence (hl : listens k s = true) (hg : upGood ws f = true) (hruns : portRuns s.ports[k] = true)
    (htype : upType ws ≠ 3) (hseq : seqOk s k (s.clk.tickTot - 2) ws = false) :
    Does (.upstreamFrame k ws f) s [.ports] fun t =>
      t.ports = s.ports.set k { s.ports[k] with silence := 0, seqErr := inc32 s.ports[k].seqErr, seqCy := inc16 s.ports[k].seqCy } := by
  have hexec := exec_upstreamFrame_runs hl hg hruns
  rw [if_neg htype, if_neg (by simp [seqOk_heard, hseq]), seqError, heard, modPort_modPort] at hexec
  exact ⟨_, hexec, upd_modPort .., rfl⟩

theorem upstreamFrame_announces (hl : listens k s = true) (hg : upGood ws f = true) (hruns : portRuns s.ports[k] = true)
    (htype : upType ws = 3) :
    Does (.upstreamFrame k ws f) s [.ports, .meas, .pmet, .safe, .psafe, .cp, .plc, .pipes, .ses, .ev, .sen, .tamper]
      fun t => HeadGone k s t := by
  have hexec := exec_upstreamFrame_runs hl hg hruns
  rw [if_pos htype] at hexec
  refine ⟨_, hexec, .comp (upd_headLost ..) rfl ((upd_modPort ..).mono rfl), ?_⟩
  exact (headGone_headLost ..).of_ports (by rw [heard_port]) fun j hj => modPort_ports_other hj ..

theorem upstreamFrame_taken (hl : listens k s = true) (hg : upGood ws f = true) (hruns : portRuns s.ports[k] = true)
    (htype : upType ws ≠ 3) (hseq : seqOk s k (s.clk.tickTot - 2) ws = true) (hlen : ws.length = lCfg s k.val) :
    Does (.upstreamFrame k ws f) s [.ports, .meas, .pmet, .safe, .psafe, .cp, .plc, .pipes, .ses, .ev, .sen, .tamper, .freeCtr] fun t =>
      t.ports[k].st = s.ports[k].st ∧ t.ports[k].silence = 0 ∧ t.ports[k].statMiss = 0 ∧ t.ports[k].missRun = 0 ∧
        t.ports[k].usableRun = s.ports[k].usableRun + 1 ∧ t.ports[k].lastTick = some (s.clk.tickTot - 2) ∧
        t.ports[k].stat = (ws.drop (ws.length - 26 - tunWords s k.val)).take 24 ∧
        ∀ p : Fin 4, metered s (ptIdx k p) = true → t.pmet[ptIdx k p].buf.length = s.pmet[ptIdx k p].buf.length + 1 := by
  have hexec := exec_upstreamFrame_runs hl hg hruns
  rw [if_neg htype, if_pos (by simp [seqOk_heard, hseq]),
    takeFrame_eq (s := heard k s) (by rw [heard_port]; exact hruns) hlen] at hexec
  refine does_of_exec hexec (upd_execUpstreamFrame ..) ?_
  have hu := upd_statusTaken k (s.clk.tickTot - 2) ws (heard k s)
  have hport := ((portSends_statusTaken k (s.clk.tickTot - 2) ws (heard k s)).modPort (f := portSampled) fun _ _ _ _ _ => rfl).trans
    (portSends_takeSamples k (s.clk.tickTot - 2) ((ws.drop 3).take 28) (fw (frameStatus k ws (heard k s)) 18) _)
  have hpts (p : Fin 4) (hm : metered s (ptIdx k p) = true) := takeSamples_buf_length (tick := s.clk.tickTot - 2)
    (blk := (ws.drop 3).take 28) (echo := fw (frameStatus k ws (heard k s)) 18)
    ((metered_congr (s := s) (hu.img rfl) (by rw [hu.pmet rfl]; rfl)).trans hm)
  rw [hu.pmet rfl] at hpts
  generalize takeSamples k _ _ _ _ = t at hport hpts
  obtain ⟨⟨_, _, _, _, hk⟩, _⟩ := hport
  rw [modPort_ports_same, modPort_ports_same, heard_port] at hk
  rw [hk]
  exact ⟨rfl, rfl, rfl, rfl, rfl, rfl, rfl, hpts⟩

/-! A deadline (06 R198, R215, R217). -/

/-- The deadline of a tick passes: it is judged, without a frame and without a status block. -/
def deadlinePassed (k : Fin 8) (s : State) : State :=
  s.modPort k fun p => { p with lastTick := some (s.clk.tickTot - 3), silence := p.silence + 1, statMiss := p.statMiss + 1 }

theorem upstreamDeadline_misses (hl : listens k s = true) (htick : 3 ≤ s.clk.tickTot) (hst : s.ports[k].st = .admitted)
    (hlast : ∀ l, s.ports[k].lastTick = some l → l < s.clk.tickTot - 3) :
    Does (.upstreamDeadline k) s [.ports, .meas, .pmet, .plc, .ses, .ev, .sen] fun t =>
      t.ports[k].lastTick = some (s.clk.tickTot - 3) ∧ t.ports[k].silence = s.ports[k].silence + 1 ∧
        t.ports[k].statMiss = s.ports[k].statMiss + 1 ∧ t.ports[k].missRun = s.ports[k].missRun + 1 ∧ t.ports[k].usableRun = 0 ∧
        t.ports[k].st = (if s.ports[k].missRun + 1 = 64 then .slow else .admitted) ∧
        ∀ p : Fin 4, metered s (ptIdx k p) = true →
          t.pmet[ptIdx k p].missRun = s.pmet[ptIdx k p].missRun + 1 ∧
            ∃ e ∈ t.pmet[ptIdx k p].buf.getLast?, e.tk = s.clk.tickTot - 3 ∧
              e.kind = if s.pmet[ptIdx k p].missRun + 1 ≤ 4 then .bridged else .gap := by
  have hexec : exec (.upstreamDeadline k) s = .next (headMiss k (s.clk.tickTot - 3) (deadlinePassed k s)) := by
    refine congrArg Host.Outcome.next ((if_neg (not_deaf hl htick)).trans (if_neg ?_))
    cases h : s.ports[k].lastTick with
    | none => simp [-Fin.getElem_fin, hst]
    | some l =>
      have hdue := hlast l h
      simp [-Fin.getElem_fin, hst]
      omega
  have hruns : portRuns (deadlinePassed k s).ports[k] = true := by
    rw [deadlinePassed, modPort_ports_same]
    simp [-Fin.getElem_fin, portRuns, hst]
  refine does_of_exec hexec (upd_execUpstreamDeadline k s) ?_
  have hport := portSends_headMiss (s.clk.tickTot - 3) hruns
  have hpmet := headMiss_pmet (s.clk.tickTot - 3) hruns
  generalize headMiss k (s.clk.tickTot - 3) (deadlinePassed k s) = t at hport hpmet
  obtain ⟨⟨_, _, _, _, hk⟩, _⟩ := hport
  have hreads := portMissed_reads (deadlinePassed k s).ports[k]
  rw [modPort_ports_same] at hk
  rw [deadlinePassed, modPort_ports_same] at hk hreads
  obtain ⟨hlastTick, hsilence, hstatMiss, hrun, husable, hslow⟩ := hreads
  rw [hk, hpmet]
  refine ⟨hlastTick, hsilence, hstatMiss, hrun, husable, hslow.trans ?_, fun p hm => ?_⟩
  · simp only [hst, and_true]
  · exact headTick_missing (s := chansMissed k (deadlinePassed k s)) hm

theorem upstreamDeadline_idles {l : Nat} (hlast : s.ports[k].lastTick = some l) (hl : s.clk.tickTot - 3 ≤ l) :
    Idles (.upstreamDeadline k) s := by
  refine congrArg Host.Outcome.next ?_
  split
  · rfl
  · exact if_pos (by simp [-Fin.getElem_fin, hlast, hl])

end

/-- Settles O13: a frame is bad, out of sequence, of TYPE 3, or taken; a deadline misses its tick, or has been judged. -/
theorem upstreamFrames : Obligations.UpstreamFrames := by
  unfold Obligations.UpstreamFrames
  exact ⟨fun _ _ _ _ => upstreamFrame_bad, fun _ _ _ _ => upstreamFrame_outOfSequence, fun _ _ _ _ => upstreamFrame_announces,
    fun _ _ _ _ => upstreamFrame_taken, fun _ _ => upstreamDeadline_misses, fun _ _ _ => upstreamDeadline_idles⟩

end Sys2Proof.Machine
end

section
/-! SUPPORT. What an addition to a register leaves: whole steps added, the truncated remainder carried, saturation (08 R266, R267, R275). -/

namespace Sys2Proof.Machine

/-! One addition, by what becomes of its register. -/

/-- An amount in the steps of its register, with the remainder carried into the addition (08 R267). -/
def exactSteps (r : Fin 14) (a : Rat) (t : RegSet) : Rat := t.rem[r] + a * regUnit r.val

section
variable {r q : Fin 14} {a : Rat} {t : RegSet}

theorem addReg_eq (r : Fin 14) (a : Rat) (t : RegSet) : addReg r a t =
    let inc := (exactSteps r a t).floor.toNat
    let t : RegSet := { t with rem := t.rem.set r (exactSteps r a t - inc) }
    if r.val ∈ t.sat then (t, inc, false)
    else if t.regs[r] + inc ≤ regMax r.val then ({ t with regs := t.regs.set r (t.regs[r] + inc) }, inc, false)
    else ({ t with regs := t.regs.set r (regMax r.val), sat := insertAsc r.val t.sat }, inc, true) := by
  have hx : t.rem[r] + (if regInt r.val then a else a * (2 ^ 32 : Nat)) = exactSteps r a t := by
    unfold exactSteps regUnit
    split
    · rw [Rat.mul_one]
    · rfl
  simp only [addReg, hx, List.contains_iff_mem]

/-- The steps added are the whole ones (08 R267). -/
theorem addReg_steps (r : Fin 14) (a : Rat) (t : RegSet) : (addReg r a t).2.1 = (exactSteps r a t).floor.toNat := by
  rw [addReg_eq]
  dsimp only
  split
  · rfl
  · split <;> rfl

/-- The truncated remainder is carried, also by a saturated register (08 R267). -/
theorem addReg_rem (r : Fin 14) (a : Rat) (t : RegSet) :
    (addReg r a t).1.rem = t.rem.set r (exactSteps r a t - (addReg r a t).2.1) := by
  rw [addReg_steps, addReg_eq]
  dsimp only
  split
  · rfl
  · split <;> rfl

theorem addReg_of_sat (hsat : r.val ∈ t.sat) :
    (addReg r a t).1.regs = t.regs ∧ (addReg r a t).1.sat = t.sat ∧ (addReg r a t).2.2 = false := by
  rw [addReg_eq]
  simp only [if_pos hsat, and_self]

theorem addReg_of_le (hsat : r.val ∉ t.sat) (hle : t.regs[r] + (addReg r a t).2.1 ≤ regMax r.val) :
    (addReg r a t).1.regs = t.regs.set r (t.regs[r] + (addReg r a t).2.1) ∧ (addReg r a t).1.sat = t.sat := by
  rw [addReg_steps] at hle ⊢
  rw [addReg_eq]
  simp only [if_neg hsat, if_pos hle, and_self]

theorem addReg_of_gt (hsat : r.val ∉ t.sat) (hgt : regMax r.val < t.regs[r] + (addReg r a t).2.1) :
    (addReg r a t).1.regs = t.regs.set r (regMax r.val) ∧ (addReg r a t).1.sat = insertAsc r.val t.sat ∧ (addReg r a t).2.2 = true := by
  rw [addReg_steps] at hgt
  rw [addReg_eq]
  simp only [if_neg hsat, if_neg (Nat.not_le.mpr hgt), and_self]

/-- What an addition can do to the registers: it finds its register saturated, adds its steps, or saturates it (08 R267, R275). -/
theorem addReg_cases (r : Fin 14) (a : Rat) (t : RegSet) :
    (r.val ∈ t.sat ∧ (addReg r a t).1.regs = t.regs ∧ (addReg r a t).1.sat = t.sat) ∨
    (r.val ∉ t.sat ∧ t.regs[r] + (addReg r a t).2.1 ≤ regMax r.val ∧
      (addReg r a t).1.regs = t.regs.set r (t.regs[r] + (addReg r a t).2.1) ∧ (addReg r a t).1.sat = t.sat) ∨
    (r.val ∉ t.sat ∧ (addReg r a t).1.regs = t.regs.set r (regMax r.val) ∧ (addReg r a t).1.sat = insertAsc r.val t.sat) := by
  by_cases hsat : r.val ∈ t.sat
  · obtain ⟨hregs, hsats, _⟩ := addReg_of_sat (a := a) hsat
    exact .inl ⟨hsat, hregs, hsats⟩
  · rcases Nat.lt_or_ge (regMax r.val) (t.regs[r] + (addReg r a t).2.1) with hgt | hle
    · obtain ⟨hregs, hsats, _⟩ := addReg_of_gt hsat hgt
      exact .inr (.inr ⟨hsat, hregs, hsats⟩)
    · exact .inr (.inl ⟨hsat, hle, addReg_of_le hsat hle⟩)

theorem regs_set_same {α : Type} (v : Vector α 14) (r : Fin 14) (x : α) : (v.set r x)[r] = x := by
  simp

theorem regs_set_other {α : Type} (v : Vector α 14) (h : q ≠ r) (x : α) : (v.set r x)[q] = v[q] := by
  simp [Fin.val_ne_of_ne h.symm]

theorem addReg_rem_same (r : Fin 14) (a : Rat) (t : RegSet) : (addReg r a t).1.rem[r] = exactSteps r a t - (addReg r a t).2.1 := by
  rw [addReg_rem, regs_set_same]

theorem addReg_rem_other (h : q ≠ r) (a : Rat) (t : RegSet) : (addReg r a t).1.rem[q] = t.rem[q] := by
  rw [addReg_rem, regs_set_other _ h]

theorem addReg_regs_other (h : q ≠ r) (a : Rat) (t : RegSet) : (addReg r a t).1.regs[q] = t.regs[q] := by
  rcases addReg_cases r a t with ⟨_, hregs, _⟩ | ⟨_, _, hregs, _⟩ | ⟨_, hregs, _⟩
  · rw [hregs]
  · rw [hregs, regs_set_other _ h]
  · rw [hregs, regs_set_other _ h]

end

/-! Amounts added in turn. -/

/-- The registers of `t'` have come from those of `t` by additions: none is lower or beyond its largest value, and a saturated one stands
(08 R267, R275). -/
structure OnlyAdded (t t' : RegSet) : Prop where
  rise : ∀ r : Fin 14, t.regs[r] ≤ regMax r.val → t.regs[r] ≤ t'.regs[r] ∧ t'.regs[r] ≤ regMax r.val
  stands : ∀ r : Fin 14, r.val ∈ t.sat → r.val ∈ t'.sat ∧ t'.regs[r] = t.regs[r]

theorem OnlyAdded.refl (t : RegSet) : OnlyAdded t t := ⟨fun _ h => ⟨Nat.le_refl _, h⟩, fun _ h => ⟨h, rfl⟩⟩

theorem OnlyAdded.trans {t u v : RegSet} (h : OnlyAdded t u) (h' : OnlyAdded u v) : OnlyAdded t v := by
  refine ⟨fun r hr => ?_, fun r hr => ?_⟩
  · obtain ⟨hle, hmax⟩ := h.rise r hr
    obtain ⟨hle', hmax'⟩ := h'.rise r hmax
    exact ⟨Nat.le_trans hle hle', hmax'⟩
  · obtain ⟨hsat, hregs⟩ := h.stands r hr
    obtain ⟨hsat', hregs'⟩ := h'.stands r hsat
    exact ⟨hsat', hregs'.trans hregs⟩

theorem onlyAdded_addReg (r : Fin 14) (a : Rat) (t : RegSet) : OnlyAdded t (addReg r a t).1 := by
  refine ⟨fun q hq => ?_, fun q hq => ?_⟩
  · by_cases hqr : q = r
    · subst hqr
      rcases addReg_cases q a t with ⟨_, hregs, _⟩ | ⟨_, hle, hregs, _⟩ | ⟨_, hregs, _⟩
      · rw [hregs]
        exact ⟨Nat.le_refl _, hq⟩
      · rw [hregs, regs_set_same]
        exact ⟨Nat.le_add_right .., hle⟩
      · rw [hregs, regs_set_same]
        exact ⟨hq, Nat.le_refl _⟩
    · rw [addReg_regs_other hqr]
      exact ⟨Nat.le_refl _, hq⟩
  · rcases addReg_cases r a t with ⟨_, hregs, hsats⟩ | ⟨hsat, _, hregs, hsats⟩ | ⟨hsat, hregs, hsats⟩
    · exact ⟨hsats ▸ hq, by rw [hregs]⟩
    all_goals
      have hqr : q ≠ r := fun e => hsat (e ▸ hq)
      refine ⟨?_, addReg_regs_other hqr ..⟩
      simp only [hsats, mem_insertAsc, hq, or_true]

theorem addRegs_cons (r : Fin 14) (a : Rat) (l : List (Fin 14 × Rat)) (t : RegSet) :
    (addRegs ((r, a) :: l) t).1 = (addRegs l (addReg r a t).1).1 ∧
      (addRegs ((r, a) :: l) t).2.1 = (addReg r a t).2.1 :: (addRegs l (addReg r a t).1).2.1 := ⟨rfl, rfl⟩

theorem onlyAdded_addRegs (l : List (Fin 14 × Rat)) (t : RegSet) : OnlyAdded t (addRegs l t).1 := by
  induction l generalizing t with
  | nil => exact .refl t
  | cons e l ih => exact (onlyAdded_addReg e.1 e.2 t).trans (ih _)

theorem addRegs_regs_other {q : Fin 14} {l : List (Fin 14 × Rat)} (h : ∀ e ∈ l, q ≠ e.1) (t : RegSet) :
    (addRegs l t).1.regs[q] = t.regs[q] := by
  induction l generalizing t with
  | nil => rfl
  | cons e l ih =>
    obtain ⟨he, hl⟩ := List.forall_mem_cons.mp h
    exact (ih hl _).trans (addReg_regs_other he ..)

/-- Register `r` has risen by exactly `n` steps where it can take them (08 R267, R275). -/
def RisesBy (r : Fin 14) (n : Nat) (t t' : RegSet) : Prop :=
  r.val ∉ t.sat → t.regs[r] + n ≤ regMax r.val → t'.regs[r] = t.regs[r] + n

theorem risesBy_zero {r : Fin 14} {t t' : RegSet} (h : t'.regs[r] = t.regs[r]) : RisesBy r 0 t t' := fun _ _ => h

/-- Where only the first amount goes to a register, it rises by the first steps answered. -/
theorem addRegs_risesBy_head {r : Fin 14} {l : List (Fin 14 × Rat)} (h : ∀ e ∈ l, r ≠ e.1) (a : Rat) (t : RegSet) :
    RisesBy r ((addRegs ((r, a) :: l) t).2.1.getD 0 0) t (addRegs ((r, a) :: l) t).1 := by
  intro hsat hle
  obtain ⟨hset, hincs⟩ := addRegs_cons r a l t
  rw [hincs, List.getD_cons_zero] at hle ⊢
  rw [hset, addRegs_regs_other h, (addReg_of_le hsat hle).1, regs_set_same]

end Sys2Proof.Machine
end

section
/-! PROOF. A register is the exact sum of its amounts, truncated once (08 R266, R267, R275). -/

namespace Sys2Proof.Machine

/-- Register `r` of a set without saturation holds the whole steps of `x`, and carries the rest of it (08 R267). -/
def HoldsExactly (r : Fin 14) (x : Rat) (t : RegSet) : Prop :=
  t.sat = [] ∧ 0 ≤ t.rem[r] ∧ t.rem[r] < 1 ∧ (t.regs[r] : Rat) + t.rem[r] = x

/-- A whole number and a rest below one: the whole number is what truncation leaves. -/
theorem floor_toNat_of_add {n : Nat} {f x : Rat} (hf : 0 ≤ f) (hf1 : f < 1) (hx : n + f = x) : x.floor.toNat = n := by
  have hle : (n : Int) ≤ x.floor := by
    rw [Rat.le_floor_iff, Rat.intCast_natCast]
    grind
  have hlt : x.floor < (n : Int) + 1 := by
    rw [Rat.floor_lt_iff, Rat.intCast_add, Rat.intCast_natCast]
    grind
  omega

theorem natCast_floor_toNat {x : Rat} (hx : 0 ≤ x) : (x.floor.toNat : Rat) = x.floor := by
  have hfloor : 0 ≤ x.floor := Rat.le_floor_iff.mpr hx
  rw [← Rat.intCast_natCast, Int.toNat_of_nonneg hfloor]

theorem HoldsExactly.regs_eq {r : Fin 14} {x : Rat} {t : RegSet} (h : HoldsExactly r x t) : t.regs[r] = x.floor.toNat := by
  obtain ⟨_, hrem, hrem1, hx⟩ := h
  exact (floor_toNat_of_add hrem hrem1 hx).symm

theorem holdsExactly_empty (r : Fin 14) : HoldsExactly r 0 {} := by
  have hrem : ({} : RegSet).rem[r] = 0 := Vector.getElem_replicate ..
  have hregs : ({} : RegSet).regs[r] = 0 := Vector.getElem_replicate ..
  unfold HoldsExactly
  rw [hrem, hregs]
  exact ⟨rfl, by decide, by decide, Rat.add_zero 0⟩

/-- One addition: the whole steps of amount and remainder go to the register and the rest is carried, so nothing of the amount is lost. -/
theorem holdsExactly_addReg {r : Fin 14} {x a : Rat} {t : RegSet} (h : HoldsExactly r x t) (ha : 0 ≤ a * regUnit r.val)
    (hmax : (x + a * regUnit r.val).floor.toNat ≤ regMax r.val) : HoldsExactly r (x + a * regUnit r.val) (addReg r a t).1 := by
  obtain ⟨hsat, hrem, _, hx⟩ := h
  have hnonneg : 0 ≤ exactSteps r a t := Rat.add_nonneg hrem ha
  have hsteps : ((addReg r a t).2.1 : Rat) = (exactSteps r a t).floor := by
    rw [addReg_steps, natCast_floor_toNat hnonneg]
  have hle := Rat.floor_le (exactSteps r a t)
  have hlt := Rat.lt_floor_add_one (exactSteps r a t)
  rw [Rat.intCast_add] at hlt
  have hrem' : 0 ≤ (addReg r a t).1.rem[r] := by
    rw [addReg_rem_same, hsteps]
    grind
  have hrem1' : (addReg r a t).1.rem[r] < 1 := by
    rw [addReg_rem_same, hsteps]
    grind
  have hsum : ((t.regs[r] + (addReg r a t).2.1 : Nat) : Rat) + (addReg r a t).1.rem[r] = x + a * regUnit r.val := by
    rw [addReg_rem_same, ← hx, exactSteps, Rat.natCast_add]
    grind
  rw [floor_toNat_of_add hrem' hrem1' hsum] at hmax
  obtain ⟨hregs, hsat'⟩ := addReg_of_le (by simp [hsat]) hmax
  refine ⟨hsat'.trans hsat, hrem', hrem1', ?_⟩
  rw [hregs, regs_set_same, hsum]

theorem sumRat_eq_sum (l : List Rat) : sumRat l = l.sum := List.sum_eq_foldl.symm

theorem sum_rat_nonneg {l : List Rat} (hl : ∀ a ∈ l, 0 ≤ a) : 0 ≤ l.sum := by
  induction l with
  | nil => exact Rat.le_refl
  | cons a l ih =>
    obtain ⟨ha, hl⟩ := List.forall_mem_cons.mp hl
    rw [List.sum_cons]
    exact Rat.add_nonneg ha (ih hl)

theorem regUnit_nonneg (r : Nat) : 0 ≤ regUnit r := by
  unfold regUnit
  split
  · decide
  · exact Rat.natCast_nonneg

/-- Additions in turn, while the register does not come beyond its largest value. -/
theorem holdsExactly_foldl {r : Fin 14} {l : List Rat} (hl : ∀ a ∈ l, 0 ≤ a) {x : Rat} {t : RegSet} (h : HoldsExactly r x t)
    (hmax : (x + l.sum * regUnit r.val).floor.toNat ≤ regMax r.val) :
    HoldsExactly r (x + l.sum * regUnit r.val) (l.foldl (fun t a => (addReg r a t).1) t) := by
  induction l generalizing x t with
  | nil => rwa [List.sum_nil, Rat.zero_mul, Rat.add_zero]
  | cons a l ih =>
    obtain ⟨ha, hl⟩ := List.forall_mem_cons.mp hl
    have hrest : 0 ≤ l.sum * regUnit r.val := Rat.mul_nonneg (sum_rat_nonneg hl) (regUnit_nonneg r.val)
    rw [List.sum_cons, Rat.add_mul, ← Rat.add_assoc] at hmax ⊢
    have hfirst : (x + a * regUnit r.val).floor.toNat ≤ regMax r.val := by
      have hle : x + a * regUnit r.val ≤ x + a * regUnit r.val + l.sum * regUnit r.val := by grind
      have hfloor := Rat.floor_monotone hle
      omega
    exact ih hl (holdsExactly_addReg h (Rat.mul_nonneg ha (regUnit_nonneg r.val)) hfirst) hmax

/-- Settles O18: each addition keeps register and carried remainder together at the exact sum, and a saturated register stands. -/
theorem registersAreExactSums : Obligations.RegistersAreExactSums := by
  unfold Obligations.RegistersAreExactSums
  refine ⟨?_, fun r q a t h => ⟨addReg_regs_other h a t, addReg_rem_other h a t⟩, ?_, fun r a t => addReg_of_sat⟩
  · rintro r l t hl hmax rfl
    rw [sumRat_eq_sum] at hmax ⊢
    have h := holdsExactly_foldl hl (holdsExactly_empty r) (by rwa [Rat.zero_add])
    rw [Rat.zero_add] at h
    exact ⟨h.regs_eq, h⟩
  · intro r a t hsat hgt
    obtain ⟨hregs, hsats, hnew⟩ := addReg_of_gt hsat hgt
    exact ⟨by rw [hregs, regs_set_same], hsats ▸ mem_insertAsc.mpr (.inl rfl), hnew⟩

end Sys2Proof.Machine
end

section
/-! PROOF. Metering a cycle takes nothing back: registers, increments, the published snapshot and the MRAM copies (08 R267, R268, R272, R273,
R275, R285). -/

namespace Sys2Proof.Machine

/-! One point (08 R266 to R273, R285). -/

/-- What metering a cycle may make of the metering of a point: `y` for `x`. -/
structure CycleMetered (info : CycInfo) (x y : PtMet) : Prop where
  count : y.res.count = info.count
  pub : y.pub = x.pub
  pubRegs : y.pubRegs = x.pubRegs
  added : OnlyAdded x.set y.set
  imp : RisesBy 0 y.res.incImp x.set y.set
  exp : RisesBy 1 y.res.incExp x.set y.set
  copies : (y.copyA = x.copyA ∧ y.copyB = x.copyB) ∨
    (y.copyA = { count := info.count, written := true, set := y.set } ∧ y.copyB = x.copyB) ∨
    (y.copyB = { count := info.count, written := true, set := y.set } ∧ y.copyA = x.copyA)

/-- The write into MRAM puts what has been metered into one copy (08 R285). -/
theorem CycleMetered.putCopy {info : CycInfo} {x y : PtMet} (h : CycleMetered info x y) (hA : y.copyA = x.copyA) (hB : y.copyB = x.copyB) :
    CycleMetered info x (putCopy info.count y) := by
  have intoA : CycleMetered info x { y with copyA := { count := info.count, written := true, set := y.set } } :=
    { h with copies := .inr (.inl ⟨rfl, hB⟩) }
  have intoB : CycleMetered info x { y with copyB := { count := info.count, written := true, set := y.set } } :=
    { h with copies := .inr (.inr ⟨rfl, hA⟩) }
  unfold Machine.putCopy
  dsimp only
  split
  · exact intoA
  · split
    · exact intoB
    · split
      · exact intoA
      · exact intoB

/-- A register other than ACT_IMP and ACT_EXP. -/
abbrev OffActive (r : Fin 14) : Prop := r ≠ 0 ∧ r ≠ 1

theorem OffActive.ite {c : Prop} [Decidable c] {q r : Fin 14} (hq : OffActive q) (hr : OffActive r) : OffActive (if c then q else r) := by
  split
  · exact hq
  · exact hr

/-- Amounts of which none goes to ACT_IMP or ACT_EXP. -/
def BesideActive (l : List (Fin 14 × Rat)) : Prop := ∀ e ∈ l, OffActive e.1

theorem BesideActive.append {l l' : List (Fin 14 × Rat)} (h : BesideActive l) (h' : BesideActive l') : BesideActive (l ++ l') := by
  intro e he
  rcases List.mem_append.mp he with he | he
  · exact h e he
  · exact h' e he

/-- An estimate goes to EST_IMP or EST_EXP (08 R272). -/
theorem besideActive_est (est : Rat) : BesideActive (if 0 < est then [(11, est)] else if est < 0 then [(12, -est)] else []) := by
  unfold BesideActive
  split
  · exact List.forall_mem_singleton.mpr (show OffActive 11 by decide)
  · split
    · exact List.forall_mem_singleton.mpr (show OffActive 12 by decide)
    · exact List.forall_mem_nil _

/-- The quadrant is one of import (08 Table 8.1). -/
def imports (res : MetRes) : Bool := res.quad = 0 || res.quad = 3

theorem imports_quadrant (imp : Bool) (p : Prop) [Decidable p] {res : MetRes}
    (h : res.quad = if imp then (if p then 0 else 3) else if p then 1 else 2) : imports res = imp := by
  unfold imports
  cases imp <;> by_cases hp : p <;> simp [h, hp]

/-- The active energy of a cycle is its first amount, to ACT_IMP in a quadrant of import and to ACT_EXP else; no other amount goes to either
(08 R265, R266). -/
theorem cycleOf_amounts (s : State) (info : CycInfo) (part lastOn : Bool) (l : List (MTick × Rat)) :
    ∃ a rest, BesideActive rest ∧
      (cycleOf s info part lastOn l).2 = (if imports (cycleOf s info part lastOn l).1 then 0 else 1, a) :: rest := by
  rw [imports_quadrant _ _ rfl]
  refine ⟨_, _, ?_, rfl⟩
  simp only [BesideActive, List.forall_mem_cons]
  exact ⟨.ite (by decide) (.ite (by decide) (.ite (by decide) (by decide))), .ite (by decide) (by decide), by decide,
    .ite (by decide) (by decide), by decide, List.forall_mem_nil _⟩

/-- Where the first amount is that of the active energy and no other goes to ACT_IMP or ACT_EXP, each of the two rises by what INC_IMP or INC_EXP
shows (08 R265, R268). -/
theorem addRegs_risesBy_shown {l rest : List (Fin 14 × Rat)} (imp : Bool) {a : Rat} (hl : l = (if imp then 0 else 1, a) :: rest)
    (hrest : BesideActive rest) (t : RegSet) :
    RisesBy 0 (if imp then (addRegs l t).2.1.getD 0 0 else 0) t (addRegs l t).1 ∧
      RisesBy 1 (if imp then 0 else (addRegs l t).2.1.getD 0 0) t (addRegs l t).1 := by
  have h0 : ∀ e ∈ rest, (0 : Fin 14) ≠ e.1 := fun e he => (hrest e he).1.symm
  have h1 : ∀ e ∈ rest, (1 : Fin 14) ≠ e.1 := fun e he => (hrest e he).2.symm
  subst hl
  cases imp with
  | true =>
    exact ⟨addRegs_risesBy_head h0 a t, risesBy_zero (addRegs_regs_other (List.forall_mem_cons.mpr ⟨Fin.zero_ne_one.symm, h1⟩) t)⟩
  | false =>
    exact ⟨risesBy_zero (addRegs_regs_other (List.forall_mem_cons.mpr ⟨Fin.zero_ne_one, h0⟩) t), addRegs_risesBy_head h1 a t⟩

/-- What metering a point does: it changes the metering of that point, and writes events. -/
theorem meterPoint_eq (info : CycInfo) (part : Bool) (i : Fin 32) (s : State) :
    ∃ sats f, meterPoint info part i s = satEvents i sats (s.modPmet i f) ∧ CycleMetered info s.pmet[i] (f s.pmet[i]) := by
  unfold meterPoint
  extract_lets w x l starts est rest lastOn estAmt
  have hest : BesideActive estAmt := besideActive_est est
  split
  case isTrue =>
    refine ⟨_, _, rfl, ?_⟩
    have hother (r : Fin 14) (h : ∀ e ∈ estAmt, r ≠ e.1) := risesBy_zero (addRegs_regs_other h x.set)
    have himp := hother 0 fun e he => (hest e he).1.symm
    have hexp := hother 1 fun e he => (hest e he).2.symm
    have hmetered : CycleMetered info x { x with buf := rest, est := 0, set := (addRegs estAmt x.set).1, res := { count := info.count } } :=
      ⟨rfl, rfl, rfl, onlyAdded_addRegs .., himp, hexp, .inl ⟨rfl, rfl⟩⟩
    split
    · exact hmetered
    · exact hmetered.putCopy rfl rfl
  case isFalse =>
    obtain ⟨a, others, hothers, hamts⟩ := cycleOf_amounts s info part x.lastOn l
    have hcount : (cycleOf s info part x.lastOn l).1.count = info.count := rfl
    rcases hcyc : cycleOf s info part x.lastOn l with ⟨res, amts⟩
    rw [hcyc] at hamts hcount
    have hall : amts ++ estAmt = (if imports res then 0 else 1, a) :: (others ++ estAmt) := congrArg (· ++ estAmt) hamts
    obtain ⟨himp, hexp⟩ := addRegs_risesBy_shown _ hall (hothers.append hest) x.set
    refine ⟨_, _, rfl, ?_⟩
    exact CycleMetered.putCopy ⟨hcount, rfl, rfl, onlyAdded_addRegs .., himp, hexp, .inl ⟨rfl, rfl⟩⟩ rfl rfl

theorem meterPoint_same (info : CycInfo) (part : Bool) (i : Fin 32) (s : State) :
    CycleMetered info s.pmet[i] (meterPoint info part i s).pmet[i] := by
  obtain ⟨sats, f, heq, h⟩ := meterPoint_eq info part i s
  rwa [heq, (upd_satEvents ..).pmet rfl, modPmet_pmet_same]

theorem meterPoint_other {i j : Fin 32} (h : i ≠ j) (info : CycInfo) (part : Bool) (s : State) :
    (meterPoint info part j s).pmet[i] = s.pmet[i] := by
  obtain ⟨sats, f, heq, _⟩ := meterPoint_eq info part j s
  rw [heq, (upd_satEvents ..).pmet rfl, modPmet_pmet_other h]

/-! Every point (08 R273). -/

theorem meterCycle_point (info : CycInfo) (part : Bool) (s : State) (i : Fin 32) :
    CycleMetered info s.pmet[i] (meterCycle info part s).pmet[i] := by
  unfold meterCycle
  refine foldl_once (P := fun u => u.pmet[i] = s.pmet[i]) (Q := fun u => CycleMetered info s.pmet[i] u.pmet[i])
    (finList_nodup 32) (mem_finList i) rfl ?_ ?_ ?_
  · intro u j hj h
    rw [meterPoint_other hj.symm, h]
  · intro u h
    exact h ▸ meterPoint_same info part i u
  · intro u j hj h
    rwa [meterPoint_other hj.symm]

/-- What LED books of the cycle leaves MET alone (08 R268). -/
theorem meterAndBook_point (info : CycInfo) (part all : Bool) (s : State) (i : Fin 32) :
    CycleMetered info s.pmet[i] (meterAndBook info part all s).pmet[i] := by
  have h := meterCycle_point info part s i
  unfold meterAndBook
  rwa [(upd_bookCycle ..).pmet rfl]

theorem exec_meterCycle_due {info : CycInfo} {rest : List CycInfo} {s : State} (htodo : s.met.todo = info :: rest)
    (hopen : s.met.closedOut = false) (harr : cycleArrived s info = true) :
    exec .meterCycle s = .next (meterAndBook info false false (s.modMet fun m => { m with todo := rest })) := by
  refine congrArg Host.Outcome.next ?_
  simp [htodo, hopen, harr]

theorem exec_meterCycle_idles {s : State} (htodo : s.met.todo = []) : Idles .meterCycle s := by
  refine congrArg Host.Outcome.next ?_
  simp [htodo]

/-- Settles O19: each point's step only adds to its registers, shows the active steps it added and writes one copy at most; the steps of the
other points and the bookings leave its metering alone. -/
theorem meteringNeverTakesBack : Obligations.MeteringNeverTakesBack := by
  unfold Obligations.MeteringNeverTakesBack
  refine ⟨fun info rest s htodo hopen harr => ?_, fun s => exec_meterCycle_idles⟩
  refine does_of_exec (exec_meterCycle_due htodo hopen harr) (upd_execMeterCycle s) ?_
  have hmet := (upd_meterAndBook info false false (s.modMet fun m => { m with todo := rest })).met rfl
  have hpoint := meterAndBook_point info false false (s.modMet fun m => { m with todo := rest })
  generalize meterAndBook info false false _ = t at hmet hpoint ⊢
  refine ⟨congrArg Met.todo hmet, fun i => ?_⟩
  obtain ⟨hcount, hpub, hpubRegs, hadded, himp, hexp, hcopies⟩ := hpoint i
  exact ⟨hcount, hpub, hpubRegs, hadded.rise, hadded.stands, himp, hexp, hcopies⟩

end Sys2Proof.Machine
end

section
/-! SUPPORT. One point under the operations that act on it: what they leave of every other point, and what a lock-out, a stop and the end of a
stop make of it (09 R294, R299, R313, Tables 9.2, 9.3). -/

namespace Sys2Proof.Machine

/-! A point stands. -/

/-- What `OtherPoints` asks of each other point. -/
abbrev PointStands (j : Fin 32) (s t : State) : Prop :=
  t.psafe[j] = s.psafe[j] ∧ t.cp[j] = s.cp[j] ∧ t.ses[j] = s.ses[j] ∧ t.plc[j] = s.plc[j] ∧ t.auth[j] = s.auth[j] ∧
    t.pmet[j] = s.pmet[j] ∧ t.safe.a.opinion[j] = s.safe.a.opinion[j] ∧ t.safe.b.opinion[j] = s.safe.b.opinion[j]

theorem PointStands.trans {j : Fin 32} {s t u : State} (h : PointStands j s t) (k : PointStands j t u) : PointStands j s u := by
  obtain ⟨h1, h2, h3, h4, h5, h6, h7, h8⟩ := h
  obtain ⟨k1, k2, k3, k4, k5, k6, k7, k8⟩ := k
  exact ⟨k1.trans h1, k2.trans h2, k3.trans h3, k4.trans h4, k5.trans h5, k6.trans h6, k7.trans h7, k8.trans h8⟩

theorem PointStands.permitted {j : Fin 32} {s t : State} (h : PointStands j s t) : permitted t j = permitted s j := by
  obtain ⟨_, _, _, _, _, _, ha, hb⟩ := h
  rw [Machine.permitted, Machine.permitted, ha, hb]

/-- The parts that `PointStands` does not read. -/
def offPoint (P : List Part) : Bool :=
  !(P.contains .psafe || P.contains .cp || P.contains .ses || P.contains .plc || P.contains .auth || P.contains .pmet || P.contains .safe)

theorem Upd.pointStands {P : List Part} {s t : State} (h : Upd P s t) (hP : offPoint P = true) (j : Fin 32) : PointStands j s t := by
  simp only [offPoint, Bool.not_eq_true', Bool.or_eq_false_iff] at hP
  obtain ⟨⟨⟨⟨⟨⟨h1, h2⟩, h3⟩, h4⟩, h5⟩, h6⟩, h7⟩ := hP
  simp only [PointStands, h.psafe h1, h.cp h2, h.ses h3, h.plc h4, h.auth h5, h.pmet h6, h.safe h7, and_self]

theorem PointStands.refl (j : Fin 32) (s : State) : PointStands j s s := ⟨rfl, rfl, rfl, rfl, rfl, rfl, rfl, rfl⟩

theorem OtherPoints.trans {i : Fin 32} {s t u : State} (h : OtherPoints i s t) (k : OtherPoints i t u) : OtherPoints i s u :=
  fun j hj => PointStands.trans (h j hj) (k j hj)

theorem Upd.otherPoints {P : List Part} {s t : State} (h : Upd P s t) (hP : offPoint P = true) (i : Fin 32) : OtherPoints i s t :=
  fun j _ => h.pointStands hP j

/-! What acts on one point leaves the others. -/

theorem modPsafe_psafe_same (i : Fin 32) (f : PtSafe → PtSafe) (s : State) : (s.modPsafe i f).psafe[i] = f s.psafe[i] := by
  simp

theorem modPsafe_psafe_other {i j : Fin 32} (h : i ≠ j) (f : PtSafe → PtSafe) (s : State) : (s.modPsafe j f).psafe[i] = s.psafe[i] := by
  simp [Fin.val_ne_of_ne (Ne.symm h)]

theorem otherPoints_modPsafe (i : Fin 32) (f : PtSafe → PtSafe) (s : State) : OtherPoints i s (s.modPsafe i f) :=
  fun _ hj => ⟨modPsafe_psafe_other hj f s, rfl, rfl, rfl, rfl, rfl, rfl, rfl⟩

theorem otherPoints_modCp (i : Fin 32) (f : PtCp → PtCp) (s : State) : OtherPoints i s (s.modCp i f) :=
  fun _ hj => ⟨rfl, modCp_cp_other hj f s, rfl, rfl, rfl, rfl, rfl, rfl⟩

theorem otherPoints_setOpinion (i : Fin 32) (b : Bool) (s : State) : OtherPoints i s (setOpinion i b s) := by
  intro j hj
  have hne := Fin.val_ne_of_ne (Ne.symm hj)
  refine ⟨rfl, rfl, rfl, rfl, rfl, rfl, ?_, ?_⟩
  · simp [setOpinion, modSsms, hne]
  · simp [setOpinion, modSsms, hne]

theorem otherPoints_withdraw (i : Fin 32) (s : State) : OtherPoints i s (withdraw i s) :=
  (otherPoints_setOpinion i false s).trans (otherPoints_modCp i _ _)

theorem otherPoints_stopPoint (i : Fin 32) (s : State) : OtherPoints i s (stopPoint i s) :=
  (otherPoints_withdraw i s).trans (otherPoints_modPsafe i _ _)

theorem otherPoints_unstop (i : Fin 32) (s : State) : OtherPoints i s (unstop i s) := by
  unfold unstop
  split
  · exact otherPoints_modPsafe i _ s
  · exact fun j _ => PointStands.refl j s

theorem otherPoints_setPst (i : Fin 32) (p : PState) (s : State) : OtherPoints i s (setPst i p s) :=
  otherPoints_modCp i _ s

theorem otherPoints_raise (i : Fin 32) (code src pt arg : Nat) (s : State) : OtherPoints i s (raise code src pt arg s) :=
  (upd_raise ..).otherPoints rfl i

/-- Steps over the points of a head that each leave the other points leave the points of the other heads. -/
theorem pointStands_foldl_headPts {F : State → Fin 32 → State} (hF : ∀ u j, OtherPoints j u (F u j)) {k : Fin 8} {i : Fin 32}
    (hi : slotOf i ≠ k) (s : State) : PointStands i s ((headPts k).foldl F s) := by
  refine List.foldlRecOn (headPts k) F (.refl i s) fun u hu j hj => hu.trans (hF u j i ?_)
  rintro rfl
  exact hi (slotOf_of_mem_headPts hj)

/-! A point is withdrawn (09 R294). -/

theorem withdrawn_withdraw (i : Fin 32) (s : State) : Withdrawn i (withdraw i s) :=
  (withdrawn_stopPoint_same i s).of_eq rfl rfl

/-- Withdrawing the tokens of a point changes nothing of the SSMs but the opinions on it. -/
theorem withdraw_safe (i : Fin 32) (s : State) :
    (withdraw i s).safe = { s.safe with a := { s.safe.a with opinion := s.safe.a.opinion.set i false }
                                        b := { s.safe.b with opinion := s.safe.b.opinion.set i false } } := rfl

/-! A point is locked out (09 R299, R313). -/

/-- The record of a lock-out is written and counted, unless one is in force. -/
def lockRecorded (i : Fin 32) (cause : Nat) (s : State) : State :=
  if lockCause s i = 0 then (recPoint i cause s).modSafe fun x => { x with lockouts := inc32 x.lockouts } else s

/-- The condition is noted, its event raised, and 0x1170 where the lock-out is new. -/
def lockReported (i : Fin 32) (cause code source arg : Nat) (s : State) : State :=
  raiseIf (lockCause s i == 0) 0x1170 0x10 i.val (cause * 2 ^ 24) (raise code source i.val arg
    ((lockRecorded i cause s).modPsafe i fun x => { x with condNow := insertAsc cause x.condNow }))

theorem lockPoint_eq (i : Fin 32) (cause code source arg : Nat) (s : State) :
    lockPoint i cause code source arg s =
      (withdraw i (lockReported i cause code source arg s)).modPsafe i fun x => { x with st := .lockedOut, testLeft := 0, openDue := false } :=
  rfl

theorem upd_lockRecorded (i : Fin 32) (cause : Nat) (s : State) : Upd [.safe] s (lockRecorded i cause s) :=
  .ite (.comp (upd_modSafe ..) rfl (upd_recPoint ..)) (.refl ..)

theorem otherPoints_lockRecorded (i : Fin 32) (cause : Nat) (s : State) : OtherPoints i s (lockRecorded i cause s) := by
  unfold lockRecorded
  split
  · exact fun j _ => PointStands.refl j s
  · exact fun j _ => PointStands.refl j s

theorem upd_lockReported (i : Fin 32) (cause code source arg : Nat) (s : State) :
    Upd [.psafe, .ev, .sen] (lockRecorded i cause s) (lockReported i cause code source arg s) :=
  .comp (upd_raiseIf ..) rfl (.comp (upd_raise ..) rfl ((upd_modPsafe ..).mono rfl))

theorem otherPoints_lockReported (i : Fin 32) (cause code source arg : Nat) (s : State) :
    OtherPoints i s (lockReported i cause code source arg s) := by
  unfold lockReported
  refine OtherPoints.trans ?_ (Upd.otherPoints (P := [.ev, .sen]) (.comp (upd_raiseIf ..) rfl (upd_raise ..)) rfl i)
  exact (otherPoints_lockRecorded i cause s).trans (otherPoints_modPsafe i _ _)

/-- The events of a lock-out leave the same in the event unit where only parts that the event unit does not read have changed. -/
theorem Upd.lockEvents {P : List Part} {s t : State} (h : Upd P s t) (hev : P.contains .ev = false) (hel : P.contains .elec = false)
    (hclk : P.contains .clk = false) (hsen : P.contains .sen = false) (new : Bool) (code src pt arg code' src' pt' arg' : Nat) :
    (raiseIf new code' src' pt' arg' (raise code src pt arg t)).ev = (raiseIf new code' src' pt' arg' (raise code src pt arg s)).ev := by
  cases new with
  | true => exact h.raise_raise_ev hev hel hclk hsen ..
  | false => exact h.raise_ev hev hel hclk hsen ..

section
variable (i : Fin 32) (cause code source arg : Nat) (s : State)

theorem lockPoint_safe : (lockPoint i cause code source arg s).safe = (withdraw i (lockRecorded i cause s)).safe := by
  rw [lockPoint_eq, State.modPsafe_safe, withdraw_safe, (upd_lockReported ..).safe rfl, withdraw_safe]

theorem lockPoint_ev : (lockPoint i cause code source arg s).ev =
    (raiseIf (lockCause s i == 0) 0x1170 0x10 i.val (cause * 2 ^ 24) (raise code source i.val arg s)).ev := by
  rw [lockPoint_eq, State.modPsafe_ev, (upd_withdraw ..).ev rfl]
  exact Upd.lockEvents (P := [.psafe, .safe]) (.comp (upd_modPsafe ..) rfl ((upd_lockRecorded ..).mono rfl)) rfl rfl rfl rfl ..

theorem otherPoints_lockPoint : OtherPoints i s (lockPoint i cause code source arg s) := by
  rw [lockPoint_eq]
  exact ((otherPoints_lockReported i cause code source arg s).trans (otherPoints_withdraw i _)).trans (otherPoints_modPsafe i _ _)

theorem lockPoint_psafe : (lockPoint i cause code source arg s).psafe[i] =
    { s.psafe[i] with condNow := insertAsc cause s.psafe[i].condNow, st := .lockedOut, testLeft := 0, openDue := false } := by
  rw [lockPoint_eq, modPsafe_psafe_same, (upd_withdraw ..).psafe rfl, lockReported, raiseIf_psafe, raise_psafe, modPsafe_psafe_same,
    (upd_lockRecorded ..).psafe rfl]

theorem hubLock_lockPoint : hubLock (lockPoint i cause code source arg s) = hubLock s := by
  unfold hubLock
  rw [lockPoint_safe, lockRecorded]
  split
  · rfl
  · rfl

theorem pointLocked_lockPoint : PointLocked i cause code source arg s (lockPoint i cause code source arg s) := by
  refine ⟨?_, ?_, otherPoints_lockPoint i cause code source arg s, hubLock_lockPoint .., lockPoint_ev .., ?_⟩
  · rw [lockPoint_eq]
    exact (withdrawn_withdraw i _).of_eq rfl rfl
  · rw [lockPoint_psafe]
  · split
    case isTrue hnew =>
      rw [lockPoint_safe, lockRecorded, if_pos hnew]
      simp [withdraw_safe, recPoint, modSsms]
    case isFalse hlocked =>
      rw [lockCause, lockCause, lockPoint_safe, lockRecorded, if_neg hlocked]
      exact ⟨rfl, rfl⟩

end

/-- A lock-out after a change of the heads, or of the point's own safety state and pilot, is a lock-out of the state before. -/
theorem PointLocked.of_before {i : Fin 32} {cause code source arg : Nat} {s u t : State} (h : PointLocked i cause code source arg u t)
    (hu : Upd [.heads, .psafe, .cp] s u) (ho : OtherPoints i s u) : PointLocked i cause code source arg s t := by
  obtain ⟨hw, hst, hother, hhub, hev, hrec⟩ := h
  have hsafe := hu.safe rfl
  have hlock : lockCause u i = lockCause s i := by rw [lockCause, lockCause, hsafe]
  rw [hlock] at hev hrec
  rw [hsafe, hu.clk rfl] at hrec
  refine ⟨hw, hst, ho.trans hother, ?_, hev.trans (hu.lockEvents rfl rfl rfl rfl ..), hrec⟩
  rw [hhub, hubLock, hubLock, hsafe]

/-- A command that locks its point out. -/
theorem does_lockPoint {c : Instr} {i : Fin 32} {cause code source arg : Nat} {s : State}
    (hexec : exec c s = .next (lockPoint i cause code source arg s)) :
    Does c s [.safe, .psafe, .cp, .ev, .sen] fun t => PointLocked i cause code source arg s t :=
  ⟨_, hexec, upd_lockPoint .., pointLocked_lockPoint ..⟩

/-- A command by which the head of a point trips it: the head's point is `h` from then on, and the hub locks the point out. -/
theorem does_headTrip {c : Instr} {i : Fin 32} {cause code source arg : Nat} {s : State} {h : HeadPt} {Q : HeadPt → Prop}
    (hexec : exec c s = .next (lockPoint i cause code source arg
      (s.modHead (slotOf i) fun x => { x with pts := x.pts.set (posOf i) h }))) (hQ : Q h) :
    Does c s [.heads, .safe, .psafe, .cp, .ev, .sen] fun t =>
      PointLocked i cause code source arg s t ∧ Q t.heads[slotOf i].pts[posOf i] := by
  have hhead := upd_modHead (slotOf i) (fun x => { x with pts := x.pts.set (posOf i) h }) s
  refine ⟨_, hexec, .comp (upd_lockPoint ..) rfl (hhead.mono rfl), ?_, ?_⟩
  · exact (pointLocked_lockPoint ..).of_before (hhead.mono rfl) (hhead.otherPoints rfl i)
  · rw [(upd_lockPoint ..).heads rfl, modHead_heads_same]
    simpa using hQ

/-! A point is stopped (09 R294, Table 9.2). -/

/-- A condition of a point is noted, its event is raised, and the point is stopped (09 Table 9.3). -/
def stopFor (i : Fin 32) (f : PtSafe → PtSafe) (code arg : Nat) (s : State) : State :=
  stopPoint i (raise code 0x10 i.val arg (s.modPsafe i f))

section
variable {i : Fin 32} {f : PtSafe → PtSafe} {code arg : Nat} {s : State}

theorem stopFor_psafe : (stopFor i f code arg s).psafe[i] =
    { f s.psafe[i] with st := if (f s.psafe[i]).st = .lockedOut then .lockedOut else .stopped, testLeft := 0, openDue := false } := by
  simp [stopFor, stopPoint_psafe]

theorem pointStopped_stopFor (hf : (f s.psafe[i]).st = s.psafe[i].st) : PointStopped i s (stopFor i f code arg s) := by
  refine ⟨withdrawn_stopPoint_same .., by rw [stopFor_psafe, hf], ?_, ?_⟩
  · exact ((otherPoints_modPsafe i f s).trans (otherPoints_raise i _ _ _ _ _)).trans (otherPoints_stopPoint i _)
  · simp [stopFor, stopPoint_safe]

theorem stopFor_ev : (stopFor i f code arg s).ev = (raise code 0x10 i.val arg s).ev := by
  rw [stopFor, (upd_stopPoint ..).ev rfl]
  exact (upd_modPsafe i f s).raise_ev rfl rfl rfl rfl ..

/-- A command that stops its point for a condition, which the flag shows from then on. -/
theorem does_stopFor {c : Instr} {flag : PtSafe → Bool} (hexec : exec c s = .next (stopFor i f code arg s))
    (hf : (f s.psafe[i]).st = s.psafe[i].st)
    (hflag : ∀ st, flag { f s.psafe[i] with st, testLeft := 0, openDue := false } = true) :
    Does c s [.safe, .psafe, .cp, .ev, .sen] fun t =>
      PointStopped i s t ∧ flag t.psafe[i] = true ∧ t.ev = (raise code 0x10 i.val arg s).ev := by
  refine ⟨_, hexec, .comp (upd_stopPoint ..) rfl (.comp (upd_raise ..) rfl ((upd_modPsafe ..).mono rfl)), pointStopped_stopFor hf, ?_, stopFor_ev⟩
  rw [stopFor_psafe, hflag]

end

/-! A condition of a point ends (09 Table 9.2). -/

/-- A reading of a point's safety state that does not look at the state of Table 9.2. -/
def OffSt {β : Type} (p : PtSafe → β) : Prop := ∀ (x : PtSafe) (st : SafeSt), p { x with st } = p x

theorem unstop_psafe_read {β : Type} {p : PtSafe → β} (hp : OffSt p) (i : Fin 32) (s : State) : p (unstop i s).psafe[i] = p s.psafe[i] := by
  unfold unstop
  split
  · rw [modPsafe_psafe_same, hp]
  · rfl

theorem stopped_unstop (i : Fin 32) (s : State) : stopped (unstop i s) i = stopped s i := by
  unfold unstop
  split
  · simp only [stopped, stopBits, modPsafe_psafe_same]
    rfl
  · rfl

theorem unstop_st (i : Fin 32) (s : State) :
    (unstop i s).psafe[i].st = if s.psafe[i].st = .stopped ∧ stopped s i = false then .opened else s.psafe[i].st := by
  unfold unstop
  simp only [Bool.and_eq_true, decide_eq_true_eq, Bool.not_eq_true']
  split
  · rw [modPsafe_psafe_same]
  · rfl

/-- A point that is left where nothing stops it, after a change of its own that keeps its state, has a condition cleared. -/
theorem pointCleared_unstop {i : Fin 32} {s u : State} (hst : u.psafe[i].st = s.psafe[i].st) (ho : OtherPoints i s u) :
    PointCleared i s (unstop i u) :=
  ⟨by rw [stopped_unstop, unstop_st, hst], ho.trans (otherPoints_unstop i u)⟩

end Sys2Proof.Machine
end

section
/-! PROOF. Conditions that lock a point out (09 R299, R301 to R305, R313). -/

namespace Sys2Proof.Machine

section
variable {i : Fin 32} {s : State}

/-! Contactor feedback and weld (09 R301, R302). -/

theorem feedbackDiscrepancy_locks (h : fbNo s i = fbNc s i) :
    Does (.feedbackDiscrepancy i) s [.safe, .psafe, .cp, .ev, .sen] fun t => PointLocked i 0x10 0x1110 0x10 (fbArg s i) s t :=
  does_lockPoint (congrArg Host.Outcome.next (if_pos h))

theorem feedbackDiscrepancy_idles (h : fbNo s i ≠ fbNc s i) : Idles (.feedbackDiscrepancy i) s :=
  congrArg Host.Outcome.next (if_neg h)

theorem feedbackAgainstCommand_locks (h : (lsOn s i = true ∧ ctrOpen s i = true) ∨ (lsOn s i = false ∧ ctrClosed s i = true)) :
    Does (.feedbackAgainstCommand i) s [.safe, .psafe, .cp, .ev, .sen] fun t => PointLocked i 0x11 0x1111 0x10 (fbArg s i) s t :=
  does_lockPoint (congrArg Host.Outcome.next (if_pos (by simpa using h)))

theorem weldDetected_locks (h : 2 ≤ s.psafe[i].weldRun) :
    Does (.weldDetected i) s [.safe, .psafe, .cp, .ev, .sen] fun t =>
      PointLocked i 0x12 0x1112 0x10 (hotVolts s i) s t ∧ t.psafe[i].weldHold = true := by
  have hexec : exec (.weldDetected i) s = .next ((lockPoint i 0x12 0x1112 0x10 (hotVolts s i) s).modPsafe i fun x => { x with weldHold := true }) :=
    congrArg Host.Outcome.next (if_pos h)
  obtain ⟨hw, hst, hother, hhub, hev, hrec⟩ := pointLocked_lockPoint i 0x12 0x1112 0x10 (hotVolts s i) s
  refine does_of_exec hexec (upd_execWeldDetected i s) ⟨⟨hw.of_eq rfl rfl, ?_, ?_, hhub, hev, hrec⟩, ?_⟩
  · rwa [modPsafe_psafe_same]
  · exact hother.trans (otherPoints_modPsafe i _ _)
  · rw [modPsafe_psafe_same]

theorem weldDetected_idles (h : s.psafe[i].weldRun < 2) : Idles (.weldDetected i) s :=
  congrArg Host.Outcome.next (if_neg (Nat.not_le.mpr h))

/-! Residual currents, fluxgate and driver, as the head sees them (09 R299, R303 to R305). -/

theorem headDcTrip_locks {idc : Nat} (hidc : 300 ≤ idc) (htst : s.heads[slotOf i].pts[posOf i].fgTst = false) (hon : s.heads[slotOf i].on = true) :
    Does (.headDcTrip i idc) s [.heads, .safe, .psafe, .cp, .ev, .sen] fun t =>
      PointLocked i 0x13 0x1120 (0x20 + (slotOf i).val) (2 ^ 24 + min idc 65535) s t ∧
        t.heads[slotOf i].pts[posOf i].permit = false ∧ t.heads[slotOf i].pts[posOf i].localTrip = true ∧
        t.heads[slotOf i].pts[posOf i].dcTrip = true :=
  does_headTrip (Q := fun h => h.permit = false ∧ h.localTrip = true ∧ h.dcTrip = true)
    (congrArg Host.Outcome.next (if_neg (by simp [-Fin.getElem_fin, hidc, htst, hon]))) ⟨rfl, rfl, rfl⟩

theorem headDcTrip_idles {idc : Nat} (h : idc < 300 ∨ s.heads[slotOf i].pts[posOf i].fgTst = true) : Idles (.headDcTrip i idc) s :=
  congrArg Host.Outcome.next (if_pos (by rcases h with h | h <;> simp [-Fin.getElem_fin, h]))

theorem headAcTrip_locks {iac : Nat} (hiac : 300 ≤ iac) (hon : s.heads[slotOf i].on = true) :
    Does (.headAcTrip i iac) s [.heads, .safe, .psafe, .cp, .ev, .sen] fun t =>
      PointLocked i 0x14 0x1121 (0x20 + (slotOf i).val) (2 ^ 24 + min iac 65535) s t ∧
        t.heads[slotOf i].pts[posOf i].permit = false ∧ t.heads[slotOf i].pts[posOf i].localTrip = true ∧
        t.heads[slotOf i].pts[posOf i].acTrip = true :=
  does_headTrip (Q := fun h => h.permit = false ∧ h.localTrip = true ∧ h.acTrip = true)
    (congrArg Host.Outcome.next (if_neg (by simp [-Fin.getElem_fin, hiac, hon]))) ⟨rfl, rfl, rfl⟩

theorem fluxgateFault_locks (hfit : bitOf (cfg s 0x30 (slotOf i).val 0 35 32) (posOf i).val = true) (hon : s.heads[slotOf i].on = true) :
    Does (.fluxgateFault i) s [.heads, .safe, .psafe, .cp, .ev, .sen] fun t =>
      PointLocked i 0x15 0x1122 (0x20 + (slotOf i).val) 0 s t ∧
        t.heads[slotOf i].pts[posOf i].permit = false ∧ t.heads[slotOf i].pts[posOf i].fgFault = true :=
  does_headTrip (Q := fun h => h.permit = false ∧ h.fgFault = true)
    (congrArg Host.Outcome.next (if_neg (by simp [-Fin.getElem_fin, hfit, hon]))) ⟨rfl, rfl⟩

theorem lowSideDriverFault_locks (hon : s.heads[slotOf i].on = true) :
    Does (.lowSideDriverFault i) s [.heads, .safe, .psafe, .cp, .ev, .sen] fun t =>
      PointLocked i 0x17 0x1160 (0x20 + (slotOf i).val) 0 s t ∧
        t.heads[slotOf i].pts[posOf i].permit = false ∧ t.heads[slotOf i].pts[posOf i].lsFault = true :=
  does_headTrip (Q := fun h => h.permit = false ∧ h.lsFault = true)
    (congrArg Host.Outcome.next (if_neg (by simp [-Fin.getElem_fin, hon]))) ⟨rfl, rfl⟩

/-! Residual currents, as the SSMs see them (09 R303, R304). -/

theorem ssmDcBackup_locks (hidc : 600 ≤ stIdc s i) (htrip : rcFlag s i 1 = false) :
    Does (.ssmDcBackup i) s [.safe, .psafe, .cp, .ev, .sen] fun t => PointLocked i 0x13 0x1120 0x10 (2 * 2 ^ 24 + stIdc s i) s t :=
  does_lockPoint (congrArg Host.Outcome.next (if_pos (by simp [hidc, htrip])))

theorem ssmAcTrip_locks (hiac : 10 * iacTrip s ≤ stIac s i) (himg : hasImage s = true) :
    Does (.ssmAcTrip i) s [.safe, .psafe, .cp, .ev, .sen] fun t => PointLocked i 0x14 0x1121 0x10 (2 * 2 ^ 24 + stIac s i) s t :=
  does_lockPoint (congrArg Host.Outcome.next (if_pos (by simp [hiac, himg])))

end

/-- Settles O21: each condition runs the one lock-out of 09 R313 on its point, a trip after the head has taken its own permission away. -/
theorem pointLockouts : Obligations.PointLockouts := by
  unfold Obligations.PointLockouts
  exact ⟨fun _ _ => feedbackDiscrepancy_locks, fun _ _ => feedbackDiscrepancy_idles, fun _ _ => feedbackAgainstCommand_locks,
    fun _ _ => weldDetected_locks, fun _ _ => weldDetected_idles, fun _ _ _ => headDcTrip_locks, fun _ _ _ => headDcTrip_idles,
    fun _ _ _ => headAcTrip_locks, fun _ _ => fluxgateFault_locks, fun _ _ => lowSideDriverFault_locks, fun _ _ => ssmDcBackup_locks,
    fun _ _ => ssmAcTrip_locks⟩

end Sys2Proof.Machine
end

section
/-! PROOF. Conditions that stop a point without lock-out, and their end (09 R299, R306 to R311). -/

namespace Sys2Proof.Machine

section
variable {i : Fin 32} {s : State}

/-! Pilot, proximity and lock (09 R306 to R308). -/

theorem cpMissingDiode_stops (hmode : s.cp[i].cpMode = 1) (hhi : s.cp[i].cpHi ≤ 10500) (hlo : -10500 ≤ s.cp[i].cpLo)
    (hnew : s.psafe[i].missDiode = false) :
    Does (.cpMissingDiode i) s [.safe, .psafe, .cp, .ev, .sen] fun t =>
      PointStopped i s t ∧ t.psafe[i].missDiode = true ∧ t.ev = (raise 0x1130 0x10 i.val (cpArg s i) s).ev :=
  does_stopFor (flag := PtSafe.missDiode) (congrArg Host.Outcome.next (if_pos (by simp [-Fin.getElem_fin, hmode, hhi, hlo, hnew]))) rfl fun _ => rfl

theorem cpShortToPe_stops (hmode : s.cp[i].cpMode = 1) (hlo : -1500 ≤ s.cp[i].cpHi) (hhi : s.cp[i].cpHi ≤ 1500)
    (hnew : s.psafe[i].shortPe = false) :
    Does (.cpShortToPe i) s [.safe, .psafe, .cp, .ev, .sen] fun t =>
      PointStopped i s t ∧ t.psafe[i].shortPe = true ∧ t.ev = (raise 0x1131 0x10 i.val (cpArg s i) s).ev :=
  does_stopFor (flag := PtSafe.shortPe) (congrArg Host.Outcome.next (if_pos (by simp [-Fin.getElem_fin, hmode, hhi, hlo, hnew]))) rfl fun _ => rfl

theorem proximityFault_stops (hband : cableBand s.cp[i].pp = none ∨ cableBand s.cp[i].pp = some .none) (hperm : permitted s i = true)
    (hsocket : ptTethered s i.val = false) (hnew : s.psafe[i].proximity = false) :
    Does (.proximityFault i) s [.safe, .psafe, .cp, .ev, .sen] fun t =>
      PointStopped i s t ∧ t.psafe[i].proximity = true ∧ t.ev = (raise 0x1132 0x10 i.val s.cp[i].pp s).ev :=
  does_stopFor (flag := PtSafe.proximity)
    (congrArg Host.Outcome.next (if_pos (by rcases hband with h | h <;> simp [-Fin.getElem_fin, h, hperm, hsocket, hnew]))) rfl fun _ => rfl

theorem lockFeedbackLost_stops (hperm : permitted s i = true) (hsocket : ptTethered s i.val = false) (hlock : lockFb s i = false)
    (hnew : s.psafe[i].lockFb = false) :
    Does (.lockFeedbackLost i) s [.safe, .psafe, .cp, .ev, .sen] fun t =>
      PointStopped i s t ∧ t.psafe[i].lockFb = true ∧ t.ev = (raise 0x1133 0x10 i.val 0 s).ev :=
  does_stopFor (flag := PtSafe.lockFb)
    (congrArg Host.Outcome.next (if_pos (by simp [-Fin.getElem_fin, hperm, hsocket, hlock, hnew]))) rfl fun _ => rfl

theorem socketFaults_idle_tethered (h : ptTethered s i.val = true) : Idles (.proximityFault i) s ∧ Idles (.lockFeedbackLost i) s :=
  ⟨congrArg Host.Outcome.next (if_neg (by simp [h])), congrArg Host.Outcome.next (if_neg (by simp [h]))⟩

/-! Temperature (09 R311). -/

theorem t2Stop_stops (hrun : 2 ≤ s.psafe[i].t2Run) (hnew : s.psafe[i].t2 = false) :
    Does (.t2Stop i) s [.safe, .psafe, .cp, .ev, .sen] fun t =>
      PointStopped i s t ∧ t.psafe[i].t2 = true ∧ t.ev = (raise 0x1152 0x10 i.val (satTwos 32 (s.psafe[i].temp.getD 0)) s).ev :=
  does_stopFor (flag := PtSafe.t2) (congrArg Host.Outcome.next (if_pos (by simp [-Fin.getElem_fin, hrun, hnew]))) rfl fun _ => rfl

theorem t2Cleared_clears (hlow : 3000 ≤ s.psafe[i].t2Low) (hset : s.psafe[i].t2 = true) :
    Does (.t2Cleared i) s [.psafe, .ev, .sen] fun t =>
      PointCleared i s t ∧ t.psafe[i].t2 = false ∧ t.ev = (raise 0x1153 0x10 i.val (satTwos 32 (s.psafe[i].temp.getD 0)) s).ev := by
  have hexec : exec (.t2Cleared i) s = .next (unstop i (raise 0x1153 0x10 i.val (satTwos 32 (s.psafe[i].temp.getD 0))
      (s.modPsafe i fun x => { x with t2 := false }))) :=
    congrArg Host.Outcome.next (if_pos (by simp [-Fin.getElem_fin, hlow, hset]))
  refine does_of_exec hexec (upd_execT2Cleared i s) ⟨pointCleared_unstop ?_ ?_, ?_, ?_⟩
  · rw [raise_psafe, modPsafe_psafe_same]
  · exact (otherPoints_modPsafe i _ s).trans (otherPoints_raise i _ _ _ _ _)
  · rw [unstop_psafe_read (p := PtSafe.t2) fun _ _ => rfl, raise_psafe, modPsafe_psafe_same]
  · rw [(upd_unstop ..).ev rfl, (upd_modPsafe ..).raise_ev rfl rfl rfl rfl]

theorem ptExcitationFault_stops {b : Bool} (hfit : ptFitted s (slotOf i) (2 * (posOf i).val + b2n b) = true)
    (hpt : stPt s (slotOf i) (2 * (posOf i).val + b2n b) = 0x8000) (hnew : s.psafe[i].ptExc = false) :
    Does (.ptExcitationFault i b) s [.safe, .psafe, .cp, .ev, .sen] fun t =>
      PointStopped i s t ∧ t.psafe[i].ptExc = true ∧ t.ev = (raise 0x1154 0x10 i.val (2 * (posOf i).val + b2n b) s).ev :=
  does_stopFor (flag := PtSafe.ptExc) (congrArg Host.Outcome.next (if_pos (by simp [-Fin.getElem_fin, hfit, hpt, hnew]))) rfl fun _ => rfl

theorem ptExcitationClear_clears (hvalid : ∀ k : Fin 2, ptFitted s (slotOf i) (2 * (posOf i).val + k.val) = true →
      stPt s (slotOf i) (2 * (posOf i).val + k.val) ≠ 0x8000) (hset : s.psafe[i].ptExc = true) :
    Does (.ptExcitationClear i) s [.psafe] fun t => PointCleared i s t ∧ t.psafe[i].ptExc = false := by
  have hall : (finList 2).all (fun k : Fin 2 => !ptFitted s (slotOf i) (2 * (posOf i).val + k.val) ||
      stPt s (slotOf i) (2 * (posOf i).val + k.val) != 0x8000) = true := by
    refine List.all_eq_true.mpr fun k _ => ?_
    cases hfit : ptFitted s (slotOf i) (2 * (posOf i).val + k.val) with
    | false => rfl
    | true => exact bne_iff_ne.mpr (hvalid k hfit)
  have hexec : exec (.ptExcitationClear i) s = .next (unstop i (s.modPsafe i fun x => { x with ptExc := false })) :=
    congrArg Host.Outcome.next (if_pos (Bool.and_eq_true_iff.mpr ⟨hall, hset⟩))
  refine does_of_exec hexec (upd_execPtExcitationClear i s) ⟨pointCleared_unstop ?_ (otherPoints_modPsafe i _ s), ?_⟩
  · rw [modPsafe_psafe_same]
  · rw [unstop_psafe_read (p := PtSafe.ptExc) fun _ _ => rfl, modPsafe_psafe_same]

end

/-! N-PE overvoltage of a head (09 R309). -/

section
variable {k : Fin 8} {f : PtSafe → PtSafe} {flag : PtSafe → Bool} {s : State}

/-- Stopping a head withdraws each of its points and leaves the condition noted on it. -/
theorem stopHead_point (hset : ∀ x, flag (f x) = true) (hstop : ∀ (x : PtSafe) st, flag { x with st, testLeft := 0, openDue := false } = flag x)
    (p : Fin 4) : Withdrawn (ptIdx k p) (stopHead k f s) ∧ flag (stopHead k f s).psafe[ptIdx k p] = true := by
  refine foldl_reaches (P := fun _ => True) (Q := fun u => Withdrawn (ptIdx k p) u ∧ flag u.psafe[ptIdx k p] = true)
    (ptIdx_mem_headPts k p) trivial (fun _ _ _ => trivial) (fun u _ => ⟨withdrawn_stopPoint_same .., ?_⟩) (fun u j hQ => ?_)
  · simp [stopPoint_psafe, hstop, hset]
  · obtain ⟨hw, hflag⟩ := hQ
    refine ⟨withdrawn_stopPoint j (hw.of_eq rfl rfl), ?_⟩
    by_cases hj : j = ptIdx k p
    · subst hj
      simp [stopPoint_psafe, hstop, hset]
    · simpa [stopPoint_psafe, Fin.val_ne_of_ne hj] using hflag

/-- Clearing a condition of a head leaves it cleared on each of its points. -/
theorem clearHead_point (hset : ∀ x, flag (f x) = false) (hst : OffSt flag) (p : Fin 4) :
    flag (clearHead k f s).psafe[ptIdx k p] = false := by
  have hsame (j : Fin 32) (u : State) : flag (unstop j (u.modPsafe j f)).psafe[j] = false := by
    rw [unstop_psafe_read hst, modPsafe_psafe_same, hset]
  refine foldl_reaches (P := fun _ => True) (Q := fun u => flag u.psafe[ptIdx k p] = false) (ptIdx_mem_headPts k p) trivial
    (fun _ _ _ => trivial) (fun u _ => hsame _ u) (fun u j hflag => ?_)
  by_cases hj : ptIdx k p = j
  · subst hj
    exact hsame _ u
  · obtain ⟨hpsafe, _⟩ := ((otherPoints_modPsafe j f u).trans (otherPoints_unstop j _)) (ptIdx k p) hj
    rw [hpsafe, hflag]

theorem pointStands_stopHead {i : Fin 32} (hi : slotOf i ≠ k) : PointStands i s (stopHead k f s) := by
  unfold stopHead
  refine pointStands_foldl_headPts (fun u j => ?_) hi s
  exact (otherPoints_modPsafe j f u).trans (otherPoints_stopPoint j _)

theorem pointStands_clearHead {i : Fin 32} (hi : slotOf i ≠ k) : PointStands i s (clearHead k f s) := by
  unfold clearHead
  refine pointStands_foldl_headPts (fun u j => ?_) hi s
  exact (otherPoints_modPsafe j f u).trans (otherPoints_unstop j _)

end

section
variable {k : Fin 8} {s : State}

theorem npeOvervoltage_stops (hhi : 2 ≤ s.safe.npeHi[k]) (hnew : s.psafe[ptIdx k 0].npe = false) :
    Does (.npeOvervoltage k) s [.safe, .psafe, .cp, .ev, .sen] fun t =>
      (∀ p : Fin 4, Withdrawn (ptIdx k p) t ∧ t.psafe[ptIdx k p].npe = true) ∧
        (∀ i : Fin 32, slotOf i ≠ k → t.psafe[i] = s.psafe[i] ∧ t.cp[i] = s.cp[i] ∧ permitted t i = permitted s i) ∧
        t.ev = (raise 0x1140 0x10 (4 * k.val) (unpeV s k) s).ev := by
  have hexec : exec (.npeOvervoltage k) s =
      .next (stopHead k (fun x => { x with npe := true }) (raise 0x1140 0x10 (4 * k.val) (unpeV s k) s)) :=
    congrArg Host.Outcome.next (if_pos (by simp [-Fin.getElem_fin, hhi, hnew]))
  refine does_of_exec hexec (upd_execNpeOvervoltage k s) ⟨?_, fun i hi => ?_, (upd_stopHead ..).ev rfl⟩
  · exact stopHead_point (flag := PtSafe.npe) (fun _ => rfl) fun _ _ => rfl
  · have hraise := (upd_raise 0x1140 0x10 (4 * k.val) (unpeV s k) s).pointStands rfl i
    have hstands := hraise.trans (pointStands_stopHead (f := fun x => { x with npe := true }) hi)
    have hperm := hstands.permitted
    obtain ⟨hpsafe, hcp, _⟩ := hstands
    exact ⟨hpsafe, hcp, hperm⟩

theorem npeCleared_clears (hlo : 250 ≤ s.safe.npeLo[k]) (hset : s.psafe[ptIdx k 0].npe = true) :
    Does (.npeCleared k) s [.psafe, .ev, .sen] fun t =>
      (∀ p : Fin 4, t.psafe[ptIdx k p].npe = false) ∧ (∀ i : Fin 32, slotOf i ≠ k → t.psafe[i] = s.psafe[i]) ∧
        t.ev = (raise 0x1141 0x10 (4 * k.val) 0 s).ev := by
  have hexec : exec (.npeCleared k) s = .next (clearHead k (fun x => { x with npe := false }) (raise 0x1141 0x10 (4 * k.val) 0 s)) :=
    congrArg Host.Outcome.next (if_pos (by simp [-Fin.getElem_fin, hlo, hset]))
  refine does_of_exec hexec (upd_execNpeCleared k s) ⟨?_, fun i hi => ?_, (upd_clearHead ..).ev rfl⟩
  · exact clearHead_point (flag := PtSafe.npe) (fun _ => rfl) fun _ _ => rfl
  · have hraise := (upd_raise 0x1141 0x10 (4 * k.val) 0 s).pointStands rfl i
    obtain ⟨hpsafe, _⟩ := hraise.trans (pointStands_clearHead (f := fun x => { x with npe := false }) hi)
    exact hpsafe

end

/-- Settles O22: each condition notes itself and stops its point, or each point of its head; its end leaves the point stopped only for
another. -/
theorem pointStopsAndTheirEnd : Obligations.PointStopsAndTheirEnd := by
  unfold Obligations.PointStopsAndTheirEnd
  exact ⟨fun _ _ => cpMissingDiode_stops, fun _ _ => cpShortToPe_stops, fun _ _ => proximityFault_stops, fun _ _ => lockFeedbackLost_stops,
    fun _ _ => socketFaults_idle_tethered, fun _ _ => npeOvervoltage_stops, fun _ _ => npeCleared_clears, fun _ _ => t2Stop_stops,
    fun _ _ => t2Cleared_clears, fun _ _ _ => ptExcitationFault_stops, fun _ _ => ptExcitationClear_clears⟩

end Sys2Proof.Machine
end

section
/-! PROOF. How a contactor comes to close and to open (09 R295 to R298; 10 R355, R363). -/

namespace Sys2Proof.Machine

section
variable {i : Fin 32} {s : State}

/-! The close request (09 R295, R296). -/

theorem closeRequest_tests (hask : mayAsk s i = true) (hhold : closeHolds s i = true) (hst : s.psafe[i].st = .opened) :
    Does (.closeRequest i) s [.psafe, .cp] fun t =>
      t.psafe[i].st = .testing ∧ t.psafe[i].testLeft = 40 ∧ t.psafe[i].testAt = s.clk.count ∧ t.psafe[i].idcTest = [] ∧
        t.cp[i].closeReq = true ∧ OtherPoints i s t ∧ permitted t i = permitted s i := by
  have hexec : exec (.closeRequest i) s = .next ((s.modCp i fun x => { x with closeReq := true, closeHold := none }).modPsafe i fun x =>
      { x with st := .testing, testAt := s.clk.count, testLeft := 40, idcTest := [] }) :=
    congrArg Host.Outcome.next (if_pos (by simp [-Fin.getElem_fin, hask, hhold, hst]))
  refine does_of_exec hexec (upd_execCloseRequest i s) ?_
  rw [modPsafe_psafe_same, State.modPsafe_cp, modCp_cp_same]
  exact ⟨rfl, rfl, rfl, rfl, rfl, (otherPoints_modCp i _ s).trans (otherPoints_modPsafe i _ _), rfl⟩

theorem closeRequest_idles (h : mayAsk s i = false ∨ closeHolds s i = false ∨ s.psafe[i].st ≠ .opened) : Idles (.closeRequest i) s :=
  congrArg Host.Outcome.next (if_neg (by rcases h with h | h | h <;> simp [-Fin.getElem_fin, h]))

/-! The end of the pre-closure test (09 R296, R297). -/

/-- The pre-closure test is judged passed (09 R296). -/
def testPassed (s : State) (i : Fin 32) : Bool :=
  decide (700 ≤ meanIdc s.psafe[i].idcTest) && decide (meanIdc s.psafe[i].idcTest ≤ 1300) && !rcFlag s i 3 && rcFlag s i 2

theorem exec_preclosureTestEnd (hst : s.psafe[i].st = .testing) (hleft : s.psafe[i].testLeft = 0) :
    exec (.preclosureTestEnd i) s = .next (if !testPassed s i then testFailed i (meanIdc s.psafe[i].idcTest) s
      else if closeHolds s i then s.modPsafe i fun x => { x with st := .closing, test := 1, attempts := 0 }
      else (withdraw i s).modPsafe i fun x => { x with st := .opened, test := 1 }) :=
  congrArg Host.Outcome.next (if_neg (by simp [-Fin.getElem_fin, hst, hleft]))

theorem preclosureTestEnd_closes (hst : s.psafe[i].st = .testing) (hleft : s.psafe[i].testLeft = 0)
    (hlo : 700 ≤ meanIdc s.psafe[i].idcTest) (hhi : meanIdc s.psafe[i].idcTest ≤ 1300) (hfault : rcFlag s i 3 = false)
    (hok : rcFlag s i 2 = true) (hhold : closeHolds s i = true) :
    Does (.preclosureTestEnd i) s [.psafe] fun t =>
      t.psafe[i].st = .closing ∧ t.psafe[i].test = 1 ∧ t.psafe[i].attempts = 0 ∧ OtherPoints i s t := by
  have hpass : testPassed s i = true := by simp [-Fin.getElem_fin, testPassed, hlo, hhi, hfault, hok]
  have hexec : exec (.preclosureTestEnd i) s = .next (s.modPsafe i fun x => { x with st := .closing, test := 1, attempts := 0 }) := by
    rw [exec_preclosureTestEnd hst hleft, if_neg (by simp [hpass]), if_pos hhold]
  refine does_of_exec hexec ⟨_, hexec, upd_modPsafe ..⟩ ?_
  rw [modPsafe_psafe_same]
  exact ⟨rfl, rfl, rfl, otherPoints_modPsafe i _ s⟩

/-- The point after a failed test, before it is reported: OPEN, the request withdrawn and held off, the failure counted (09 R297). -/
def testUndone (i : Fin 32) (s : State) : State :=
  (s.modPsafe i fun x => { x with st := .opened, test := 2
                                  attempts := if s.psafe[i].attempts + 1 = 2 then 0 else s.psafe[i].attempts + 1
                                  testLeft := 0 }).modCp i fun x => { x with closeReq := false, closeHold := some s.clk.bndTot }

theorem testFailed_eq (i : Fin 32) (mean : Nat) (s : State) :
    testFailed i mean s = if s.psafe[i].attempts + 1 = 2 then lockPoint i 0x16 0x1123 0x10 (2 * 2 ^ 24 + mean % 65536) (testUndone i s)
      else raise 0x1123 0x10 i.val (2 ^ 24 + mean % 65536) (testUndone i s) :=
  rfl

theorem upd_testUndone (i : Fin 32) (s : State) : Upd [.psafe, .cp] s (testUndone i s) :=
  .comp (upd_modCp ..) rfl ((upd_modPsafe ..).mono rfl)

theorem otherPoints_testUndone (i : Fin 32) (s : State) : OtherPoints i s (testUndone i s) :=
  (otherPoints_modPsafe i _ s).trans (otherPoints_modCp i _ _)

theorem testUndone_psafe (i : Fin 32) (s : State) : (testUndone i s).psafe[i] =
    { s.psafe[i] with st := .opened, test := 2
                      attempts := if s.psafe[i].attempts + 1 = 2 then 0 else s.psafe[i].attempts + 1
                      testLeft := 0 } := by
  rw [testUndone, State.modCp_psafe, modPsafe_psafe_same]

theorem testUndone_closeReq (i : Fin 32) (s : State) : (testUndone i s).cp[i].closeReq = false := by
  rw [testUndone, modCp_cp_same]

/-- The second failed test in a row locks the point out. -/
theorem testFailed_second {mean : Nat} (h : s.psafe[i].attempts = 1) :
    PointLocked i 0x16 0x1123 0x10 (2 * 2 ^ 24 + mean % 65536) s (testFailed i mean s) ∧
      (testFailed i mean s).psafe[i].attempts = 0 ∧ (testFailed i mean s).psafe[i].test = 2 := by
  have hn : s.psafe[i].attempts + 1 = 2 := congrArg (· + 1) h
  rw [testFailed_eq, if_pos hn, lockPoint_psafe, testUndone_psafe]
  refine ⟨?_, if_pos hn, rfl⟩
  exact (pointLocked_lockPoint ..).of_before ((upd_testUndone i s).mono rfl) (otherPoints_testUndone i s)

theorem preclosureTestEnd_fails (hst : s.psafe[i].st = .testing) (hleft : s.psafe[i].testLeft = 0)
    (hfail : meanIdc s.psafe[i].idcTest < 700 ∨ 1300 < meanIdc s.psafe[i].idcTest ∨ rcFlag s i 3 = true ∨ rcFlag s i 2 = false) :
    Does (.preclosureTestEnd i) s [.safe, .psafe, .cp, .ev, .sen] fun t =>
      t.cp[i].closeReq = false ∧ t.psafe[i].test = 2 ∧ OtherPoints i s t ∧
        (if s.psafe[i].attempts = 1 then
          PointLocked i 0x16 0x1123 0x10 (2 * 2 ^ 24 + meanIdc s.psafe[i].idcTest % 65536) s t ∧ t.psafe[i].attempts = 0
        else t.psafe[i].st = .opened ∧ t.psafe[i].attempts = s.psafe[i].attempts + 1 ∧
          t.ev = (raise 0x1123 0x10 i.val (2 ^ 24 + meanIdc s.psafe[i].idcTest % 65536) s).ev) := by
  have hpass : testPassed s i = false := by
    rcases hfail with h | h | h | h
    · simp [-Fin.getElem_fin, testPassed, Nat.not_le.mpr h]
    · simp [-Fin.getElem_fin, testPassed, Nat.not_le.mpr h]
    · simp [testPassed, h]
    · simp [testPassed, h]
  have hexec : exec (.preclosureTestEnd i) s = .next (testFailed i (meanIdc s.psafe[i].idcTest) s) := by
    rw [exec_preclosureTestEnd hst hleft, if_pos (by simp [hpass])]
  refine does_of_exec hexec (upd_execPreclosureTestEnd i s) ?_
  generalize meanIdc s.psafe[i].idcTest = mean
  split
  case isTrue h =>
    obtain ⟨hlocked, hatt, htest⟩ := testFailed_second (mean := mean) h
    have ⟨⟨_, _, hreq⟩, _, hother, _⟩ := hlocked
    exact ⟨hreq, htest, hother, hlocked, hatt⟩
  case isFalse h =>
    have hn : ¬ s.psafe[i].attempts + 1 = 2 := fun e => h (Nat.succ.inj e)
    rw [testFailed_eq, if_neg hn, raise_cp, raise_psafe, testUndone_psafe, if_neg hn]
    refine ⟨testUndone_closeReq i s, rfl, ?_, rfl, rfl, (upd_testUndone i s).raise_ev rfl rfl rfl rfl ..⟩
    exact (otherPoints_testUndone i s).trans (otherPoints_raise i _ _ _ _ _)

/-! The closing mark (09 R297; 10 R355). -/

theorem setPst_pst (i : Fin 32) (p : PState) (s : State) : (setPst i p s).cp[i].pst = p := by
  rw [setPst, modCp_cp_same]
  split
  · assumption
  · rfl

theorem setPst_closeReq (i : Fin 32) (p : PState) (s : State) : (setPst i p s).cp[i].closeReq = s.cp[i].closeReq := by
  rw [setPst, modCp_cp_same]
  split
  · rfl
  · rfl

theorem permitted_setOpinion (i : Fin 32) (b : Bool) (s : State) : permitted (setOpinion i b s) i = b := by
  simp [permitted, setOpinion, modSsms]

theorem closingMark_closes (hst : s.psafe[i].st = .closing) (hat : s.psafe[i].testAt + 2 ≤ s.clk.count) (hhold : closeHolds s i = true)
    (hask : mayAsk s i = true) :
    Does (.closingMark i) s [.safe, .psafe, .cp] fun t =>
      permitted t i = true ∧ t.psafe[i].st = .closed ∧ t.cp[i].pst = .charging ∧ OtherPoints i s t := by
  have hexec : exec (.closingMark i) s =
      .next (setPst i .charging ((setOpinion i true s).modPsafe i fun x => { x with st := .closed })) :=
    congrArg Host.Outcome.next ((if_neg (by simp [-Fin.getElem_fin, hst, hat])).trans (if_pos (by simp [hhold, hask])))
  refine does_of_exec hexec (upd_execClosingMark i s) ⟨permitted_setOpinion i true s, ?_, setPst_pst .., ?_⟩
  · rw [(upd_setPst ..).psafe rfl, modPsafe_psafe_same]
  · exact ((otherPoints_setOpinion i true s).trans (otherPoints_modPsafe i _ _)).trans (otherPoints_setPst i _ _)

/-- The request fails: the tokens are withdrawn and the point is OPEN. -/
def markMissed (i : Fin 32) (s : State) : State := (withdraw i s).modPsafe i fun x => { x with st := .opened }

theorem withdrawn_markMissed (i : Fin 32) (s : State) : Withdrawn i (markMissed i s) :=
  (withdrawn_withdraw i s).of_eq rfl rfl

theorem markMissed_st (i : Fin 32) (s : State) : (markMissed i s).psafe[i].st = .opened := by
  rw [markMissed, modPsafe_psafe_same]

theorem otherPoints_markMissed (i : Fin 32) (s : State) : OtherPoints i s (markMissed i s) :=
  (otherPoints_withdraw i s).trans (otherPoints_modPsafe i _ _)

theorem closingMark_fails (hst : s.psafe[i].st = .closing) (hat : s.psafe[i].testAt + 2 ≤ s.clk.count)
    (hfail : closeHolds s i = false ∨ mayAsk s i = false) :
    Does (.closingMark i) s [.safe, .psafe, .cp] fun t => Withdrawn i t ∧ t.psafe[i].st = .opened ∧ OtherPoints i s t := by
  have hexec : exec (.closingMark i) s = .next
      (if (markMissed i s).cp[i].pst = .authorised && decide ((markMissed i s).cp[i].ceil < 60) then setPst i .paused (markMissed i s)
      else markMissed i s) :=
    congrArg Host.Outcome.next
      ((if_neg (by simp [-Fin.getElem_fin, hst, hat])).trans (if_neg (by rcases hfail with h | h <;> simp [h])))
  refine does_of_exec hexec (upd_execClosingMark i s) ?_
  split
  · obtain ⟨ha, hb, hreq⟩ := withdrawn_markMissed i s
    refine ⟨⟨ha, hb, ?_⟩, markMissed_st i s, (otherPoints_markMissed i s).trans (otherPoints_setPst i _ _)⟩
    rw [setPst_closeReq, hreq]
  · exact ⟨withdrawn_markMissed i s, markMissed_st i s, otherPoints_markMissed i s⟩

theorem closingMark_idles (h : s.psafe[i].st ≠ .closing ∨ s.clk.count < s.psafe[i].testAt + 2) : Idles (.closingMark i) s :=
  congrArg Host.Outcome.next (if_pos (by rcases h with h | h <;> simp [-Fin.getElem_fin, h]))

/-! The open request (09 R298). -/

theorem openRequest_due (h : s.psafe[i].st = .testing ∨ s.psafe[i].st = .closing ∨ s.psafe[i].st = .closed) :
    Does (.openRequest i) s [.psafe] fun t => t.psafe = s.psafe.set i { s.psafe[i] with openDue := true } := by
  have hexec : exec (.openRequest i) s = .next (s.modPsafe i fun x => { x with openDue := true }) :=
    congrArg Host.Outcome.next (if_pos (by simpa [-Fin.getElem_fin, or_assoc] using h))
  exact ⟨_, hexec, upd_modPsafe .., rfl⟩

end

/-- Settles O23: the request, the test's end and the mark each take the branch that their conditions choose; only the mark sets the opinions. -/
theorem closingAndOpening : Obligations.ClosingAndOpening := by
  unfold Obligations.ClosingAndOpening
  exact ⟨fun _ _ => closeRequest_tests, fun _ _ => closeRequest_idles, fun _ _ => preclosureTestEnd_closes, fun _ _ => preclosureTestEnd_fails,
    fun _ _ => closingMark_closes, fun _ _ => closingMark_fails, fun _ _ => closingMark_idles, fun _ _ => openRequest_due⟩

end Sys2Proof.Machine
end

section
/-! PROOF. Reports of the pilot, the supplies and the cable code (10 R342, R344, R348, R355, R360). -/

namespace Sys2Proof.Machine

/-! The points of a slot, each changed in its pilot. -/

theorem mem_headPts_iff {k : Fin 8} {i : Fin 32} : i ∈ headPts k ↔ slotOf i = k := by
  refine ⟨slotOf_of_mem_headPts, ?_⟩
  rintro rfl
  have hi : ptIdx (slotOf i) (posOf i) = i := Fin.ext (Nat.div_add_mod i.val 4)
  have hmem := ptIdx_mem_headPts (slotOf i) (posOf i)
  rwa [hi] at hmem

theorem foldl_modCp_headPts_cp (f : PtCp → PtCp) (k : Fin 8) (s : State) (i : Fin 32) :
    ((headPts k).foldl (fun u j => u.modCp j f) s).cp[i] = if slotOf i = k then f s.cp[i] else s.cp[i] := by
  have h := foldl_entries (p := fun u (j : Fin 32) => u.cp[j]) (K := fun _ => True) (F := fun u j => u.modCp j f) (g := f)
    (fun _ _ hu => hu) (fun u j _ => modCp_cp_same j f u) (fun u _ _ hne => modCp_cp_other hne f u) (headPts_nodup k) (s := s) trivial i
  simpa only [mem_headPts_iff] using h

section
variable {i : Fin 32} {k : Fin 8} {s : State}

/-! The control pilot (10 R342, R355). -/

theorem cpStateChange_moves (hmode : s.cp[i].cpMode < 2) (hpst : s.cp[i].pst ≠ .absent) (hnew : cpBand s.cp[i].cpHi ≠ s.cp[i].cp)
    (hleaves : cpLeaves s.cp[i].cp s.cp[i].cpHi = true) :
    Does (.cpStateChange i) s [.cp] fun t =>
      t.cp = s.cp.set i { s.cp[i] with cp := cpBand s.cp[i].cpHi, cpPend := some (cpBand s.cp[i].cpHi) } := by
  have hexec : exec (.cpStateChange i) s =
      .next (s.modCp i fun x => { x with cp := cpBand s.cp[i].cpHi, cpPend := some (cpBand s.cp[i].cpHi) }) :=
    congrArg Host.Outcome.next ((if_neg (by simp [-Fin.getElem_fin, hmode, hpst])).trans (if_pos (by simp [-Fin.getElem_fin, hnew, hleaves])))
  exact ⟨_, hexec, upd_modCp .., rfl⟩

theorem cpStateChange_idles (h : 2 ≤ s.cp[i].cpMode ∨ s.cp[i].pst = .absent ∨ cpBand s.cp[i].cpHi = s.cp[i].cp ∨
    cpLeaves s.cp[i].cp s.cp[i].cpHi = false) : Idles (.cpStateChange i) s := by
  refine congrArg Host.Outcome.next (ite_eq_left_iff.mpr fun hlive => if_neg ?_)
  simp only [Bool.or_eq_true, decide_eq_true_eq, not_or] at hlive
  obtain ⟨hmode, hpst⟩ := hlive
  rcases h with h | h | h | h
  · exact absurd h hmode
  · exact absurd h hpst
  · simp [-Fin.getElem_fin, h]
  · simp [-Fin.getElem_fin, h]

/-! The supplies of the pilot generators (10 R344). -/

theorem generatorFault_sets (hport : portRuns s.ports[k] = true) (hvcp : vcpOk s k = false) :
    Does (.generatorFault k) s [.cp] fun t =>
      ∀ i : Fin 32, t.cp[i] = if slotOf i = k then { s.cp[i] with genFault := true } else s.cp[i] :=
  does_of_exec (congrArg Host.Outcome.next (if_pos (by simp [-Fin.getElem_fin, hport, hvcp]))) (upd_execGeneratorFault k s)
    (foldl_modCp_headPts_cp _ k s)

theorem generatorFaultClear_clears (hport : portRuns s.ports[k] = true) (hvcp : vcpOk s k = true) :
    Does (.generatorFaultClear k) s [.cp] fun t =>
      ∀ i : Fin 32, t.cp[i] = if slotOf i = k then { s.cp[i] with genFault := false } else s.cp[i] :=
  does_of_exec (congrArg Host.Outcome.next (if_pos (by simp [-Fin.getElem_fin, hport, hvcp]))) (upd_execGeneratorFaultClear k s)
    (foldl_modCp_headPts_cp _ k s)

theorem generatorFault_idles (hvcp : vcpOk s k = true) : Idles (.generatorFault k) s :=
  congrArg Host.Outcome.next (if_neg (by simp [hvcp]))

theorem generatorFaultClear_idles (hvcp : vcpOk s k = false) : Idles (.generatorFaultClear k) s :=
  congrArg Host.Outcome.next (if_neg (by simp [hvcp]))

/-! The cable code (10 R348, R360). -/

/-- CABLE_CODE_ADOPT with PP in the band of a code (10 R348). -/
theorem exec_cableCodeAdopt {c : Cable} (hband : cableBand s.cp[i].pp = some c) :
    exec (.cableCodeAdopt i) s = .next
      (if ptTethered s i.val || !hasPoint s i.val || c = s.cp[i].cable then s
      else raiseIf (ctrClosed s i) 0x4109 4 i.val (cableAmps c) (s.modCp i fun x => { x with cable := c })) := by
  show execCableCodeAdopt i s = _
  rw [execCableCodeAdopt, hband]

theorem cableCodeAdopt_adopts {c : Cable} (hsocket : ptTethered s i.val = false) (hfit : hasPoint s i.val = true)
    (hband : cableBand s.cp[i].pp = some c) (hnew : s.cp[i].cable ≠ c) :
    Does (.cableCodeAdopt i) s [.cp, .ev, .sen] fun t =>
      t.cp = s.cp.set i { s.cp[i] with cable := c } ∧ t.ev = (raiseIf (ctrClosed s i) 0x4109 4 i.val (cableAmps c) s).ev := by
  have hexec := (exec_cableCodeAdopt hband).trans
    (congrArg Host.Outcome.next (if_neg (by simp [-Fin.getElem_fin, hsocket, hfit, Ne.symm hnew])))
  refine does_of_exec hexec (upd_execCableCodeAdopt i s) ⟨raiseIf_cp .., ?_⟩
  cases ctrClosed s i with
  | true => exact (upd_modCp ..).raise_ev rfl rfl rfl rfl ..
  | false => rfl

theorem cableCodeInvalid_invalidates (hsocket : ptTethered s i.val = false) (hfit : hasPoint s i.val = true)
    (hband : cableBand s.cp[i].pp = none) :
    Does (.cableCodeInvalid i) s [.cp] fun t => t.cp = s.cp.set i { s.cp[i] with cable := .invalid } := by
  have hexec : exec (.cableCodeInvalid i) s = .next (s.modCp i fun x => { x with cable := .invalid }) :=
    congrArg Host.Outcome.next (if_neg (by simp [-Fin.getElem_fin, hsocket, hfit, hband]))
  exact ⟨_, hexec, upd_modCp .., rfl⟩

/-- A tethered point ignores PP, whatever band it lies in (10 R348). -/
theorem cableCode_idles_tethered (h : ptTethered s i.val = true) : Idles (.cableCodeAdopt i) s ∧ Idles (.cableCodeInvalid i) s := by
  refine ⟨?_, congrArg Host.Outcome.next (if_pos (by simp [h]))⟩
  cases hband : cableBand s.cp[i].pp with
  | none =>
    show execCableCodeAdopt i s = _
    rw [execCableCodeAdopt, hband]
  | some c => exact (exec_cableCodeAdopt hband).trans (congrArg Host.Outcome.next (if_pos (by simp [h])))

end

/-- Settles O25: each report takes the branch of its band or its supplies, and a head's supplies set the flag of its four points alone. -/
theorem pilotReportsMoveThePoint : Obligations.PilotReportsMoveThePoint := by
  unfold Obligations.PilotReportsMoveThePoint
  exact ⟨fun _ _ => cpStateChange_moves, fun _ _ => cpStateChange_idles, fun _ _ => generatorFault_sets, fun _ _ => generatorFaultClear_clears,
    fun _ _ _ => generatorFault_idles, fun _ _ _ => generatorFaultClear_idles, fun _ _ _ => cableCodeAdopt_adopts,
    fun _ _ => cableCodeInvalid_invalidates, fun _ _ => cableCode_idles_tethered⟩

end Sys2Proof.Machine
end

section
/-! PROOF. Lock drives, the return of a point to service, and the pause of a point under 6 A (10 R349, R350, R355, R356, R364). -/

namespace Sys2Proof.Machine

/-! A point that enters a state, and the outputs that the head is sent for it (10 R340, R346, R355). -/

theorem setPst_cp_new {i : Fin 32} {p : PState} {s : State} (h : s.cp[i].pst ≠ p) :
    (setPst i p s).cp[i] = { s.cp[i] with pst := p, pstAt := s.clk.count, indAt := s.clk.bndTot } := by
  rw [setPst, modCp_cp_same, if_neg h]

/-- A reading of a point's pilot that the outputs set at a boundary do not touch. -/
def OffOutputs {β : Type} (p : PtCp → β) : Prop :=
  ∀ (x : PtCp) (cpMode duty ind : Nat) (cp : CpState) (lock : LockSt), p { x with cpMode, duty, ind, cp, lock } = p x

theorem setOutputs_cp_read {β : Type} {p : PtCp → β} (hp : OffOutputs p) (i : Fin 32) (s : State) : p (setOutputs i s).cp[i] = p s.cp[i] := by
  unfold setOutputs
  rw [modCp_cp_same, modCp_cp_same]
  exact hp s.cp[i] _ _ _ _ _

theorem otherPoints_setOutputs (i : Fin 32) (s : State) : OtherPoints i s (setOutputs i s) :=
  (otherPoints_modCp i _ s).trans (otherPoints_modCp i _ _)

section
variable {i : Fin 32} {s : State}

/-! Drives of a socket lock (10 R349, R350). -/

theorem lockTargetReached_brakes (hdrive : driving s.cp[i] = true) (htarget : lockFb s i = decide (s.cp[i].lockDir = 1)) :
    Does (.lockTargetReached i) s [.cp] fun t =>
      t.cp = s.cp.set i { s.cp[i] with lockDir := 0, lockTry := 0, lockPend := 3, lockPendOn := true } := by
  have hexec : exec (.lockTargetReached i) s =
      .next (s.modCp i fun x => { x with lockDir := 0, lockTry := 0, lockPend := 3, lockPendOn := true }) :=
    congrArg Host.Outcome.next (if_pos (by simp [-Fin.getElem_fin, hdrive, htarget]))
  exact ⟨_, hexec, upd_modCp .., rfl⟩

theorem lockTargetReached_idles (h : driving s.cp[i] = false ∨ lockFb s i ≠ decide (s.cp[i].lockDir = 1)) : Idles (.lockTargetReached i) s :=
  congrArg Host.Outcome.next (if_neg (by rcases h with h | h <;> simp [-Fin.getElem_fin, h]))

/-- A drive that has not reached its target in time ends: another may follow, or the point has a lock fault (10 R349, R350). -/
theorem exec_lockDriveTimeout (hdrive : driving s.cp[i] = true) (htarget : lockFb s i ≠ decide (s.cp[i].lockDir = 1)) :
    exec (.lockDriveTimeout i) s = .next
      (if s.cp[i].lockTry < maxDrives s.cp[i].lockDir then
        (raise 0x4104 4 i.val (s.cp[i].lockDir * 2 ^ 24 + s.cp[i].lockTry) s).modCp i fun x => { x with lockPend := 0, lockPendOn := true }
      else (raise 0x4104 4 i.val (s.cp[i].lockDir * 2 ^ 24 + s.cp[i].lockTry) s).modCp i fun x =>
        { x with lockFault := x.lockDir, lockFaultRun := 0, lockDir := 0, lockTry := 0, lockPend := 0, lockPendOn := true }) :=
  congrArg Host.Outcome.next (if_neg (by simp [-Fin.getElem_fin, hdrive, htarget]))

theorem lockDriveTimeout_ends (hdrive : driving s.cp[i] = true) (htarget : lockFb s i ≠ decide (s.cp[i].lockDir = 1))
    (htry : s.cp[i].lockTry < maxDrives s.cp[i].lockDir) :
    Does (.lockDriveTimeout i) s [.cp, .ev, .sen] fun t =>
      t.cp = s.cp.set i { s.cp[i] with lockPend := 0, lockPendOn := true } ∧
        t.ev = (raise 0x4104 4 i.val (s.cp[i].lockDir * 2 ^ 24 + s.cp[i].lockTry) s).ev := by
  have hexec := (exec_lockDriveTimeout hdrive htarget).trans (congrArg Host.Outcome.next (if_pos htry))
  refine does_of_exec hexec (upd_execLockDriveTimeout i s) ⟨?_, rfl⟩
  rw [State.modCp_cp, raise_cp]

theorem lockDriveTimeout_faults (hdrive : driving s.cp[i] = true) (htarget : lockFb s i ≠ decide (s.cp[i].lockDir = 1))
    (htry : maxDrives s.cp[i].lockDir ≤ s.cp[i].lockTry) :
    Does (.lockDriveTimeout i) s [.cp, .ev, .sen] fun t =>
      t.cp[i].lockFault = s.cp[i].lockDir ∧ t.cp[i].lockDir = 0 ∧ t.cp[i].lockPend = 0 ∧ t.cp[i].lockPendOn = true ∧ t.cp[i].pst = s.cp[i].pst ∧
        OtherPoints i s t ∧ t.ev = (raise 0x4104 4 i.val (s.cp[i].lockDir * 2 ^ 24 + s.cp[i].lockTry) s).ev := by
  have hexec := (exec_lockDriveTimeout hdrive htarget).trans (congrArg Host.Outcome.next (if_neg (Nat.not_lt.mpr htry)))
  refine does_of_exec hexec (upd_execLockDriveTimeout i s) ?_
  rw [modCp_cp_same, raise_cp]
  exact ⟨rfl, rfl, rfl, rfl, rfl, (otherPoints_raise i _ _ _ _ s).trans (otherPoints_modCp i _ _), rfl⟩

theorem lockDriveTimeout_idles (h : driving s.cp[i] = false) : Idles (.lockDriveTimeout i) s :=
  congrArg Host.Outcome.next (if_pos (by simp [-Fin.getElem_fin, h]))

theorem lockRetry_drives (hdir : s.cp[i].lockDir ≠ 0) (hcmd : s.cp[i].lockCmd = 0) (hpend : s.cp[i].lockPendOn = false)
    (htry : s.cp[i].lockTry ≠ 0) (hmains : s.sen.mlSig = false) :
    Does (.lockRetry i) s [.cp] fun t => t.cp = s.cp.set i { s.cp[i] with lockPend := s.cp[i].lockDir, lockPendOn := true } := by
  have hexec : exec (.lockRetry i) s = .next (s.modCp i fun x => { x with lockPend := x.lockDir, lockPendOn := true }) :=
    congrArg Host.Outcome.next (if_pos (by simp [-Fin.getElem_fin, hdir, hcmd, hpend, htry, hmains]))
  exact ⟨_, hexec, upd_modCp .., rfl⟩

theorem lockRetry_idles (hmains : s.sen.mlSig = true) : Idles (.lockRetry i) s :=
  congrArg Host.Outcome.next (if_neg (by simp [hmains]))

/-! The end of a lock fault (10 R364). -/

/-- The lock fault of a point is over: nothing of it stops the point, and event 0x4106 says so. -/
def lockFaultOver (i : Fin 32) (s : State) : State :=
  raise 0x4106 4 i.val 0 ((unstop i (s.modPsafe i fun y => { y with lockFb := false })).modCp i fun x =>
    { x with lockFault := 0, lockFaultRun := 0 })

theorem lockFaultOver_cp (i : Fin 32) (s : State) : (lockFaultOver i s).cp[i] = { s.cp[i] with lockFault := 0, lockFaultRun := 0 } := by
  rw [lockFaultOver, raise_cp, modCp_cp_same, (upd_unstop ..).cp rfl, State.modPsafe_cp]

theorem lockFaultOver_lockFb (i : Fin 32) (s : State) : (lockFaultOver i s).psafe[i].lockFb = false := by
  rw [lockFaultOver, raise_psafe, State.modCp_psafe, unstop_psafe_read (p := PtSafe.lockFb) fun _ _ => rfl, modPsafe_psafe_same]

theorem lockFaultOver_ev (i : Fin 32) (s : State) : (lockFaultOver i s).ev = (raise 0x4106 4 i.val 0 s).ev :=
  Upd.raise_ev (P := [.psafe, .cp]) (.comp (upd_modCp ..) rfl (.comp (upd_unstop ..) rfl ((upd_modPsafe ..).mono rfl))) rfl rfl rfl rfl ..

theorem otherPoints_lockFaultOver (i : Fin 32) (s : State) : OtherPoints i s (lockFaultOver i s) :=
  (((otherPoints_modPsafe i _ s).trans (otherPoints_unstop i _)).trans (otherPoints_modCp i _ _)).trans (otherPoints_raise i _ _ _ _ _)

theorem lockFaultClear_clears (hfault : s.cp[i].lockFault ≠ 0) (hrun : 50 ≤ s.cp[i].lockFaultRun) :
    Does (.lockFaultClear i) s [.psafe, .cp, .ev, .sen] fun t =>
      t.cp[i].lockFault = 0 ∧ t.psafe[i].lockFb = false ∧ OtherPoints i s t ∧ t.ev = (raise 0x4106 4 i.val 0 s).ev ∧
        t.cp[i].pst = (if s.cp[i].pst = .fault ∧ s.cp[i].pilotFault = false ∧ s.cp[i].genFault = false then .outOfService else s.cp[i].pst) := by
  have hexec : exec (.lockFaultClear i) s = .next
      (if s.cp[i].pst = .fault && !s.cp[i].pilotFault && !s.cp[i].genFault then
        setPst i .outOfService ((lockFaultOver i s).modCp i fun x => { x with outSince := (lockFaultOver i s).clk.bndTot })
      else lockFaultOver i s) :=
    congrArg Host.Outcome.next (if_neg (by simp [-Fin.getElem_fin, hfault, hrun]))
  refine does_of_exec hexec (upd_execLockFaultClear i s) ?_
  simp only [Bool.and_eq_true, decide_eq_true_eq, Bool.not_eq_true', and_assoc]
  split
  case isTrue hlast =>
    obtain ⟨hpst, _⟩ := hlast
    have hnew : ((lockFaultOver i s).modCp i fun x => { x with outSince := (lockFaultOver i s).clk.bndTot }).cp[i].pst ≠ .outOfService := by
      rw [modCp_cp_same, lockFaultOver_cp, hpst]
      exact nofun
    rw [setPst_cp_new hnew, modCp_cp_same, lockFaultOver_cp]
    refine ⟨rfl, lockFaultOver_lockFb i s, ?_, lockFaultOver_ev i s, rfl⟩
    exact ((otherPoints_lockFaultOver i s).trans (otherPoints_modCp i _ _)).trans (otherPoints_setPst i _ _)
  case isFalse =>
    rw [lockFaultOver_cp]
    exact ⟨rfl, lockFaultOver_lockFb i s, otherPoints_lockFaultOver i s, lockFaultOver_ev i s, rfl⟩

theorem lockFaultClear_idles (h : s.cp[i].lockFault = 0 ∨ s.cp[i].lockFaultRun < 50) : Idles (.lockFaultClear i) s :=
  congrArg Host.Outcome.next (if_pos (by rcases h with h | h <;> simp [-Fin.getElem_fin, h]))

/-! The way back to service (10 R356). -/

/-- The point enters AVAILABLE and its return is counted. -/
def pointBack (i : Fin 32) (s : State) : State := setPst i .available (s.modCp i fun x => { x with returns := inc32 x.returns })

theorem pointBack_cp (h : s.cp[i].pst = .outOfService) : (pointBack i s).cp[i] =
    { s.cp[i] with returns := inc32 s.cp[i].returns, pst := .available, pstAt := s.clk.count, indAt := s.clk.bndTot } := by
  have hnew : (s.modCp i fun x => { x with returns := inc32 x.returns }).cp[i].pst ≠ .available := by
    rw [modCp_cp_same, h]
    exact nofun
  rw [pointBack, setPst_cp_new hnew, modCp_cp_same, State.modCp_clk]

theorem pointReturnToService_returns (hpst : s.cp[i].pst = .outOfService) (hcause : oosCause s i = 0) (hrun : s.cp[i].aRun = 50)
    (hlock : ptTethered s i.val = true ∨ lockFb s i = false) (hpilot : s.cp[i].pilotFault = false) (hgen : s.cp[i].genFault = false)
    (hfault : s.cp[i].lockFault = 0) :
    Does (.pointReturnToService i) s [.cp, .ev, .sen] fun t =>
      t.cp[i].pst = .available ∧ t.cp[i].pstAt = s.clk.count ∧ t.cp[i].returns = inc32 s.cp[i].returns ∧ OtherPoints i s t ∧
        t.ev = (raise 0x4101 4 i.val (min (s.clk.bndTot - s.cp[i].outSince) (2 ^ 32 - 1)) s).ev := by
  have hexec : exec (.pointReturnToService i) s =
      .next (setOutputs i (pointBack i (raise 0x4101 4 i.val (min (s.clk.bndTot - s.cp[i].outSince) (2 ^ 32 - 1)) s))) :=
    congrArg Host.Outcome.next (if_pos (by simp [-Fin.getElem_fin, hpst, hcause, hrun, hlock, hpilot, hgen, hfault]))
  refine does_of_exec hexec (upd_execPointReturnToService i s) ?_
  generalize min (s.clk.bndTot - s.cp[i].outSince) (2 ^ 32 - 1) = away
  have hback := pointBack_cp (s := raise 0x4101 4 i.val away s) (by rw [raise_cp, hpst])
  rw [raise_cp, raise_clk] at hback
  rw [setOutputs_cp_read (p := PtCp.pst) fun _ _ _ _ _ _ => rfl, setOutputs_cp_read (p := PtCp.pstAt) fun _ _ _ _ _ _ => rfl,
    setOutputs_cp_read (p := PtCp.returns) fun _ _ _ _ _ _ => rfl, hback]
  refine ⟨rfl, rfl, rfl, ?_, (upd_setOutputs ..).ev rfl⟩
  have hpoint : OtherPoints i (raise 0x4101 4 i.val away s) (pointBack i (raise 0x4101 4 i.val away s)) :=
    (otherPoints_modCp i _ _).trans (otherPoints_setPst i _ _)
  exact ((otherPoints_raise i _ _ _ _ s).trans hpoint).trans (otherPoints_setOutputs i _)

theorem pointReturnToService_idles (h : s.cp[i].pst ≠ .outOfService ∨ oosCause s i ≠ 0 ∨ s.cp[i].aRun ≠ 50 ∨
    (ptTethered s i.val = false ∧ lockFb s i = true) ∨ s.cp[i].pilotFault = true ∨ s.cp[i].genFault = true ∨ s.cp[i].lockFault ≠ 0) :
    Idles (.pointReturnToService i) s :=
  congrArg Host.Outcome.next (if_neg (by rcases h with h | h | h | h | h | h | h <;> simp [-Fin.getElem_fin, h]))

/-! The pause under 6 A (10 R355; 09 R298). -/

theorem otherPoints_openReq (i : Fin 32) (s : State) : OtherPoints i s (openReq i s) := by
  unfold openReq
  dsimp only
  split
  · exact otherPoints_modPsafe i _ s
  · exact fun j _ => PointStands.refl j s

theorem ceilingPause_pauses (hpst : s.cp[i].pst = .charging) (hceil : s.cp[i].ceil < 60) :
    Does (.ceilingPause i) s [.psafe, .cp] fun t =>
      t.cp[i].pst = .paused ∧ t.cp[i].pstAt = s.clk.count ∧ OtherPoints i s t ∧
        (s.psafe[i].st = .closed → t.psafe = s.psafe.set i { s.psafe[i] with openDue := true }) := by
  have hexec : exec (.ceilingPause i) s = .next (setPst i .paused (openReq i s)) :=
    congrArg Host.Outcome.next (if_pos (by simp [-Fin.getElem_fin, hpst, hceil]))
  have hcp : (openReq i s).cp = s.cp := (upd_openReq i s).cp rfl
  refine does_of_exec hexec (upd_execCeilingPause i s) ⟨setPst_pst .., ?_, (otherPoints_openReq i s).trans (otherPoints_setPst i _ _), ?_⟩
  · rw [setPst_cp_new (by simp [-Fin.getElem_fin, hcp, hpst]), (upd_openReq i s).clk rfl]
  · intro hclosed
    obtain ⟨t, hopen, _, hpsafe⟩ := openRequest_due (i := i) (s := s) (.inr (.inr hclosed))
    cases hopen
    exact hpsafe

theorem ceilingPause_idles (h : s.cp[i].pst ≠ .charging ∨ 60 ≤ s.cp[i].ceil) : Idles (.ceilingPause i) s :=
  congrArg Host.Outcome.next (if_neg (by rcases h with h | h <;> simp [-Fin.getElem_fin, h]))

end

/-- Settles O26: each drive ends at the brake, in another drive or in a lock fault; a point comes back to service by the one branch that asks
for every condition, and a pause goes through the open request of 09 R298. -/
theorem locksReturnAndPause : Obligations.LocksReturnAndPause := by
  unfold Obligations.LocksReturnAndPause
  exact ⟨fun _ _ => lockTargetReached_brakes, fun _ _ => lockTargetReached_idles, fun _ _ => lockDriveTimeout_ends,
    fun _ _ => lockDriveTimeout_faults, fun _ _ => lockDriveTimeout_idles, fun _ _ => lockRetry_drives, fun _ _ => lockRetry_idles,
    fun _ _ => lockFaultClear_clears, fun _ _ => lockFaultClear_idles, fun _ _ => pointReturnToService_returns,
    fun _ _ => pointReturnToService_idles, fun _ _ => ceilingPause_pauses, fun _ _ => ceilingPause_idles⟩

end Sys2Proof.Machine
end

section
/-! SUPPORT. The power-line side of one point inside its head: what a change of it leaves of the other points and of the head's pipes
(11 R371 to R381). -/

namespace Sys2Proof.Machine

theorem modHpipes_hpipes_same (k : Fin 8) (f : HeadPipes → HeadPipes) (s : State) : (s.modHpipes k f).hpipes[k] = f s.hpipes[k] := by
  simp

theorem modHpipes_hpipes_other {j k : Fin 8} (h : j ≠ k) (f : HeadPipes → HeadPipes) (s : State) :
    (s.modHpipes k f).hpipes[j] = s.hpipes[j] := by
  simp [Fin.val_ne_of_ne (Ne.symm h)]

theorem ptIdx_slotOf_posOf (i : Fin 32) : ptIdx (slotOf i) (posOf i) = i := Fin.ext (Nat.div_add_mod i.val 4)

theorem posOf_ptIdx (k : Fin 8) (p : Fin 4) : posOf (ptIdx k p) = p := Fin.ext (by simp only [posOf, ptIdx]; omega)

/-- Two points of one head stand at different places of it. -/
theorem posOf_ne {i j : Fin 32} (h : j ≠ i) (hslot : slotOf j = slotOf i) : posOf j ≠ posOf i := fun hpos =>
  h (by rw [← ptIdx_slotOf_posOf j, hslot, hpos, ptIdx_slotOf_posOf])

theorem headPlc_congr {s t : State} (h : t.hpipes = s.hpipes) (i : Fin 32) : headPlc t i = headPlc s i := by
  rw [headPlc, h, headPlc]

theorem headPlc_modHeadPlc_same (i : Fin 32) (f : HeadPlc → HeadPlc) (s : State) : headPlc (modHeadPlc i f s) i = f (headPlc s i) := by
  simp [headPlc, modHeadPlc]

theorem headPlc_modHeadPlc_other {i j : Fin 32} (h : j ≠ i) (f : HeadPlc → HeadPlc) (s : State) :
    headPlc (modHeadPlc i f s) j = headPlc s j := by
  unfold headPlc modHeadPlc
  by_cases hslot : slotOf j = slotOf i
  · have hpos := Fin.val_ne_of_ne (Ne.symm (posOf_ne h hslot))
    simp [hslot, hpos]
  · rw [modHpipes_hpipes_other hslot]

theorem headPlc_headReport (i : Fin 32) (m : Mpdu) (s : State) :
    headPlc (headReport i m s) i = { headPlc s i with up := (headPlc s i).up ++ [m] } :=
  headPlc_modHeadPlc_same ..

theorem OtherHeadPlc.of_hpipes {s t : State} (h : t.hpipes = s.hpipes) (i : Fin 32) : OtherHeadPlc i s t :=
  ⟨fun j _ => headPlc_congr h j, fun k => by rw [h]⟩

theorem OtherHeadPlc.trans {i : Fin 32} {s t u : State} (h : OtherHeadPlc i s t) (g : OtherHeadPlc i t u) : OtherHeadPlc i s u := by
  obtain ⟨hpts, hpipes⟩ := h
  obtain ⟨gpts, gpipes⟩ := g
  exact ⟨fun j hj => (gpts j hj).trans (hpts j hj),
    fun k => (congrArg (fun x : HeadPipes => { x with pts := s.hpipes[k].pts }) (gpipes k)).trans (hpipes k)⟩

theorem otherHeadPlc_modHeadPlc (i : Fin 32) (f : HeadPlc → HeadPlc) (s : State) : OtherHeadPlc i s (modHeadPlc i f s) := by
  refine ⟨fun _ hj => headPlc_modHeadPlc_other hj f s, fun k => ?_⟩
  by_cases hk : k = slotOf i
  · subst hk
    rw [modHeadPlc, modHpipes_hpipes_same]
  · rw [modHeadPlc, modHpipes_hpipes_other hk]

theorem otherHeadPlc_headReport (i : Fin 32) (m : Mpdu) (s : State) : OtherHeadPlc i s (headReport i m s) := otherHeadPlc_modHeadPlc ..

/-- A command that changes the power-line side of one point inside its head, and nothing else. -/
theorem does_modHeadPlc {c : Instr} {i : Fin 32} {f : HeadPlc → HeadPlc} {s : State} (hexec : exec c s = .next (modHeadPlc i f s)) :
    Does c s [.hpipes] fun t => headPlc t i = f (headPlc s i) ∧ OtherHeadPlc i s t :=
  ⟨_, hexec, upd_modHeadPlc .., headPlc_modHeadPlc_same .., otherHeadPlc_modHeadPlc ..⟩

end Sys2Proof.Machine
end

section
/-! PROOF. What a head does with the messages of its tunnel and with what it hears from the vehicle (11 R371 to R373, R378, R379, R381, R392). -/

namespace Sys2Proof.Machine

section
variable {i : Fin 32} {d : Nat} {b : List (BitVec 8)} {s : State}

/-! A message to send (11 R373, R378, R379, R392). -/

theorem headTxMpdu_buffers (hup : headUp s i = true) (hsize : (pbCount (bits d 33 32) b.length).isSome = true) (hnow : bitOf d 34 = false)
    (hroom : (headPlc s i).tx.length < 8) :
    Does (.headTxMpdu i d b false) s [.hpipes] fun t =>
      headPlc t i = { headPlc s i with tx := (headPlc s i).tx ++ [{ desc := d, body := b }] } ∧ OtherHeadPlc i s t := by
  have hexec : exec (.headTxMpdu i d b false) s = .next (modHeadPlc i (fun x => { x with tx := x.tx ++ [{ desc := d, body := b }] }) s) :=
    congrArg Host.Outcome.next ((if_neg (by simp [hup])).trans ((if_neg (by simp [Option.isSome_iff_ne_none.mp hsize])).trans
      ((if_neg (by simp [hnow])).trans (if_neg (Nat.not_le.mpr hroom)))))
  exact does_modHeadPlc hexec

theorem headTxMpdu_refuses_size {long : Bool} (hup : headUp s i = true) (hsize : long = true ∨ pbCount (bits d 33 32) b.length = none) :
    Does (.headTxMpdu i d b long) s [.hpipes] fun t =>
      headPlc t i = { headPlc s i with up := (headPlc s i).up ++
        [txReport s.heads[slotOf i].rxTick (bits d 47 40) 0 4 (8 - (headPlc s i).tx.length)] } ∧ OtherHeadPlc i s t := by
  have hexec : exec (.headTxMpdu i d b long) s =
      .next (headReport i (txReport s.heads[slotOf i].rxTick (bits d 47 40) 0 4 (8 - (headPlc s i).tx.length)) s) :=
    congrArg Host.Outcome.next ((if_neg (by simp [hup])).trans (if_pos (by simpa using hsize)))
  exact does_modHeadPlc hexec

theorem headTxMpdu_refuses_late (hup : headUp s i = true) (hsize : (pbCount (bits d 33 32) b.length).isSome = true) (hsched : bitOf d 34 = true)
    (hlate : 32768 ≤ (bits d 63 48 + 65536 - s.heads[slotOf i].rxTick) % 65536) :
    Does (.headTxMpdu i d b false) s [.hpipes] fun t =>
      headPlc t i = { headPlc s i with up := (headPlc s i).up ++
        [txReport s.heads[slotOf i].rxTick (bits d 47 40) 0 3 (8 - (headPlc s i).tx.length)] } ∧ OtherHeadPlc i s t := by
  have hne : bits d 63 48 ≠ s.heads[slotOf i].rxTick := by
    intro heq
    rw [heq] at hlate
    omega
  have hexec : exec (.headTxMpdu i d b false) s =
      .next (headReport i (txReport s.heads[slotOf i].rxTick (bits d 47 40) 0 3 (8 - (headPlc s i).tx.length)) s) :=
    congrArg Host.Outcome.next ((if_neg (by simp [hup])).trans ((if_neg (by simp [Option.isSome_iff_ne_none.mp hsize])).trans
      (if_pos (by simp [-Fin.getElem_fin, hsched, hne, hlate]))))
  exact does_modHeadPlc hexec

end

/-! The gain codes (11 R371). -/

/-- The gain codes in force: the built-in ones where none have been loaded. -/
def filtInForce (x : HeadPlc) : List Nat :=
  if x.filt.isEmpty then (List.range 1155).map fun c => if Config.toneMask (74 + c) then 1 else 0 else x.filt

/-- The gain codes of n carriers after codes for the carriers from `first` on have been loaded. Irreducible, for its 1 155 entries are not to be
computed where two terms are compared. -/
@[irreducible] def filtLoaded (n first : Nat) (g old : List Nat) : List Nat :=
  (List.range n).map fun c => if first ≤ 74 + c && 74 + c < first + g.length then g.getD (74 + c - first) 0 else old.getD c 0

section
variable {n first : Nat} {g : List Nat}

theorem filtLoaded_length (n first : Nat) (g old : List Nat) : (filtLoaded n first g old).length = n := by
  rw [filtLoaded, List.length_map, List.length_range]

theorem filtLoaded_getElem? (first : Nat) (g old : List Nat) {c : Nat} (hc : c < n) :
    (filtLoaded n first g old)[c]? = some (if first ≤ 74 + c ∧ 74 + c < first + g.length then g.getD (74 + c - first) 0 else old.getD c 0) := by
  simp [filtLoaded, hc]

theorem filtLoaded_inside (old : List Nat) (hlo : 74 ≤ first) (hhi : first + g.length ≤ 74 + n) {c : Nat} (hc : c < g.length) :
    (filtLoaded n first g old)[first + c - 74]? = g[c]? := by
  have hat : 74 + (first + c - 74) = first + c := by omega
  rw [filtLoaded_getElem? first g old (by omega), hat, if_pos (by omega), Nat.add_sub_cancel_left, List.getD_eq_getElem?_getD,
    List.getElem?_eq_getElem hc, Option.getD_some]

theorem filtLoaded_outside {old : List Nat} (hold : old.length = n) {c : Nat} (hc : c < n)
    (hout : 74 + c < first ∨ first + g.length ≤ 74 + c) : (filtLoaded n first g old)[c]? = old[c]? := by
  rw [filtLoaded_getElem? first g old hc, if_neg (by omega), List.getD_eq_getElem?_getD, List.getElem?_eq_getElem (by omega), Option.getD_some]

end

section
variable {i : Fin 32} {d : Nat} {g : List Nat} {s : State}

theorem headTxFilter_loads (hup : headUp s i = true) (hfirst : 74 ≤ bits d 63 48) (hsome : g ≠ []) (hcount : g.length = bits d 47 32)
    (hlast : bits d 63 48 + bits d 47 32 ≤ 1229) (hcodes : ∀ c ∈ g, c ≤ 81) (htrimlo : -12 ≤ ofTwos 8 (bits d 31 24))
    (htrimhi : ofTwos 8 (bits d 31 24) ≤ 6) :
    Does (.headTxFilter i d g) s [.hpipes] fun t =>
      (headPlc t i).trim = ofTwos 8 (bits d 31 24) ∧ (headPlc t i).filt.length = 1155 ∧
        (∀ c < g.length, (headPlc t i).filt[bits d 63 48 + c - 74]? = g[c]?) ∧
        (∀ c < 1155, (headPlc s i).filt.length = 1155 → 74 + c < bits d 63 48 ∨ bits d 63 48 + g.length ≤ 74 + c →
          (headPlc t i).filt[c]? = (headPlc s i).filt[c]?) ∧ OtherHeadPlc i s t := by
  have hcount0 : bits d 47 32 ≠ 0 := hcount ▸ mt List.length_eq_zero_iff.mp hsome
  have hexec : exec (.headTxFilter i d g) s = .next (modHeadPlc i (fun x =>
      { x with trim := ofTwos 8 (bits d 31 24), filt := filtLoaded 1155 (bits d 63 48) g (filtInForce x) }) s) := by
    unfold filtLoaded
    rw [hcount]
    exact congrArg Host.Outcome.next (if_neg (by simp [hup, hcount, hcount0, hfirst, hlast, htrimlo, htrimhi]; exact hcodes))
  obtain ⟨t, ht, hupd, hplc, hother⟩ := does_modHeadPlc hexec
  refine ⟨t, ht, hupd, ?_⟩
  dsimp only
  rw [hplc]
  refine ⟨rfl, filtLoaded_length .., fun c hc => filtLoaded_inside _ hfirst (hcount ▸ hlast) hc, fun c hc hold hout => ?_, hother⟩
  have hforce : filtInForce (headPlc s i) = (headPlc s i).filt := if_neg fun h => by simp [List.isEmpty_iff.mp h] at hold
  rw [hforce]
  exact filtLoaded_outside hold hc hout

theorem headTxFilter_idles (h : bits d 63 48 < 74 ∨ g.length ≠ bits d 47 32 ∨ 1229 < bits d 63 48 + bits d 47 32) :
    Idles (.headTxFilter i d g) s :=
  congrArg Host.Outcome.next (if_pos (by rcases h with h | h | h <;> simp [h]))

end

/-! The logical network (11 R373, Table 11.3). -/

theorem txReport_tag {tick tag attempts result free : Nat} (htag : tag < 256) (hresult : result < 16) (hfree : free < 16) :
    bits (txReport tick tag attempts result free).desc 47 40 = tag := by
  simp only [bits, txReport]
  omega

theorem txReport_result {tick tag attempts result free : Nat} (hresult : result < 16) (hfree : free < 16) :
    bits (txReport tick tag attempts result free).desc 35 32 = result := by
  simp only [bits, txReport]
  omega

/-- The oldest MPDU `m` leaves the transmit buffers, in which `ms` stay, and is reported with RESULT 5. -/
def txFlushed (i : Fin 32) (m : Mpdu) (ms : List Mpdu) (s : State) : State :=
  headReport i (txReport s.heads[slotOf i].rxTick (bits m.desc 47 40) ((draw s).1 % 8) 5 (8 - ms.length))
    (modHeadPlc i (fun x => { x with tx := ms }) (draw s).2)

theorem flushTx_cons (i : Fin 32) (m : Mpdu) (ms : List Mpdu) (s : State) : flushTx i (m :: ms) s = flushTx i ms (txFlushed i m ms s) := rfl

theorem headPlc_txFlushed (i : Fin 32) (m : Mpdu) (ms : List Mpdu) (s : State) :
    headPlc (txFlushed i m ms s) i = { headPlc s i with
      tx := ms
      up := (headPlc s i).up ++ [txReport s.heads[slotOf i].rxTick (bits m.desc 47 40) ((draw s).1 % 8) 5 (8 - ms.length)] } := by
  rw [txFlushed, headPlc_headReport, headPlc_modHeadPlc_same]
  rfl

theorem otherHeadPlc_txFlushed (i : Fin 32) (m : Mpdu) (ms : List Mpdu) (s : State) : OtherHeadPlc i s (txFlushed i m ms s) :=
  ((OtherHeadPlc.of_hpipes rfl i).trans (otherHeadPlc_modHeadPlc i _ (draw s).2)).trans (otherHeadPlc_headReport ..)

theorem otherHeadPlc_flushTx (i : Fin 32) (l : List Mpdu) (s : State) : OtherHeadPlc i s (flushTx i l s) := by
  induction l generalizing s with
  | nil => exact .of_hpipes rfl i
  | cons m ms ih => exact (otherHeadPlc_txFlushed i m ms s).trans (ih _)

/-- Flushing the transmit buffers reports each MPDU of them with its TAG and RESULT 5. -/
theorem headPlc_flushTx {i : Fin 32} {l : List Mpdu} {s : State} (htx : (headPlc s i).tx = l) :
    ∃ rs : List Mpdu, headPlc (flushTx i l s) i = { headPlc s i with tx := [], up := (headPlc s i).up ++ rs } ∧
      (rs.map fun m => (bits m.desc 47 40, bits m.desc 35 32)) = l.map fun m => (bits m.desc 47 40, 5) := by
  induction l generalizing s with
  | nil => exact ⟨[], by rw [flushTx, List.append_nil, ← htx], rfl⟩
  | cons m ms ih =>
    obtain ⟨rs, hplc, hrs⟩ := ih (s := txFlushed i m ms s) (by rw [headPlc_txFlushed])
    rw [headPlc_txFlushed] at hplc
    refine ⟨_ :: rs, by rw [flushTx_cons, hplc, List.append_assoc]; rfl, ?_⟩
    have htag : bits m.desc 47 40 < 256 := Nat.mod_lt _ (by decide)
    rw [List.map_cons, List.map_cons, hrs, txReport_tag htag (by decide) (by omega), txReport_result (by decide) (by omega)]

section
variable {i : Fin 32} {d : Nat} {s : State}

/-- The network that a NET message names. -/
def netSet (d : Nat) (x : HeadPlc) : HeadPlc := { x with tei := bits d 47 40, snid := bits d 39 36, valid := bitOf d 35 }

theorem headNetSet_sets (hup : headUp s i = true) (hvalid : bitOf d 35 = true) :
    Does (.headNetSet i d) s [.heads, .hpipes, .freeCtr] fun t =>
      headPlc t i = { headPlc s i with tei := bits d 47 40, snid := bits d 39 36, valid := true } ∧ OtherHeadPlc i s t := by
  have hexec : exec (.headNetSet i d) s = .next (modHeadPlc i (netSet d) s) :=
    congrArg Host.Outcome.next ((if_neg (by simp [hup])).trans (if_pos hvalid))
  refine does_of_exec hexec (upd_execHeadNetSet i d s) ⟨?_, otherHeadPlc_modHeadPlc ..⟩
  rw [headPlc_modHeadPlc_same, netSet, hvalid]

theorem headNetSet_clears (hup : headUp s i = true) (hvalid : bitOf d 35 = false) :
    Does (.headNetSet i d) s [.heads, .hpipes, .freeCtr] fun t =>
      (headPlc t i).valid = false ∧ (headPlc t i).tx = [] ∧ OtherHeadPlc i s t ∧
        ((headPlc t i).up.map fun m => (bits m.desc 47 40, bits m.desc 35 32)) =
          ((headPlc s i).up.map fun m => (bits m.desc 47 40, bits m.desc 35 32)) ++ (headPlc s i).tx.map fun m => (bits m.desc 47 40, 5) := by
  have hset := headPlc_modHeadPlc_same i (netSet d) s
  have hexec : exec (.headNetSet i d) s = .next (flushTx i (headPlc s i).tx (modHeadPlc i (netSet d) s)) := by
    have htx : (headPlc s i).tx = (headPlc (modHeadPlc i (netSet d) s) i).tx := by rw [hset, netSet]
    rw [htx]
    exact congrArg Host.Outcome.next ((if_neg (by simp [hup])).trans (if_neg (by simp [hvalid])))
  obtain ⟨rs, hplc, hrs⟩ := headPlc_flushTx (i := i) (l := (headPlc s i).tx) (s := modHeadPlc i (netSet d) s) (by rw [hset, netSet])
  rw [hset] at hplc
  refine does_of_exec hexec (upd_execHeadNetSet i d s) ?_
  rw [hplc, List.map_append, hrs]
  exact ⟨hvalid, rfl, (otherHeadPlc_modHeadPlc i _ s).trans (otherHeadPlc_flushTx ..), rfl⟩

end

/-! An MPDU from the vehicle (11 R372, R378, R379, R381). -/

section
variable {i : Fin 32} {tk lv mode sn te n : Nat} {bc good : Bool} {b : List (BitVec 8)} {s : State}

/-- An MPDU of a size that 11 R378 allows is forwarded, dropped or passed over. -/
theorem exec_headMpduReceived (hsize : pbCount mode b.length = some n) :
    exec (.headMpduReceived i tk lv mode bc sn te b good) s = .next
      (if !headUp s i || (!bc && !((headPlc s i).valid && sn = (headPlc s i).snid && te = (headPlc s i).tei)) then s
      else if !good then modHeadPlc i (fun x => if bc then x else { x with sack := some false }) s
      else if 8 ≤ (headPlc s i).rx.length then
        modHeadPlc i (fun x => { x with drops := satAdd 8 x.drops 1, sack := if bc then x.sack else some false }) s
      else modHeadPlc i (fun x =>
        { x with rx := x.rx ++ [{ desc := rxDesc i tk lv n mode s, body := b }], up := x.up ++ [{ desc := rxDesc i tk lv n mode s, body := b }]
                 drops := 0, sack := if bc then x.sack else some true }) s) := by
  show execHeadMpduReceived i tk lv mode bc sn te b good s = _
  rw [execHeadMpduReceived, hsize]
  rfl

theorem headMpduReceived_forwards (hsize : pbCount mode b.length = some n) (hup : headUp s i = true)
    (hmine : bc = true ∨ ((headPlc s i).valid = true ∧ sn = (headPlc s i).snid ∧ te = (headPlc s i).tei))
    (hroom : (headPlc s i).rx.length < 8) :
    Does (.headMpduReceived i tk lv mode bc sn te b true) s [.hpipes] fun t =>
      headPlc t i = { headPlc s i with
        rx := (headPlc s i).rx ++ [{ desc := rxDesc i tk lv n mode s, body := b }]
        up := (headPlc s i).up ++ [{ desc := rxDesc i tk lv n mode s, body := b }]
        drops := 0
        sack := if bc then (headPlc s i).sack else some true } ∧ OtherHeadPlc i s t := by
  have hforward : ¬ (!headUp s i || (!bc && !((headPlc s i).valid && sn = (headPlc s i).snid && te = (headPlc s i).tei))) = true := by
    rcases hmine with hall | ⟨hvalid, hsn, hte⟩
    · simp [hup, hall]
    · simp [hup, hvalid, hsn, hte]
  have hexec := (exec_headMpduReceived (i := i) (tk := tk) (lv := lv) (sn := sn) (te := te) (bc := bc) (good := true) (s := s) hsize).trans
    (congrArg Host.Outcome.next ((if_neg hforward).trans ((if_neg (by decide)).trans (if_neg (Nat.not_le.mpr hroom)))))
  exact does_modHeadPlc hexec

theorem headMpduReceived_drops (hsize : (pbCount mode b.length).isSome = true) (hup : headUp s i = true) (hvalid : (headPlc s i).valid = true)
    (hsn : sn = (headPlc s i).snid) (hte : te = (headPlc s i).tei) (hfull : 8 ≤ (headPlc s i).rx.length) :
    Does (.headMpduReceived i tk lv mode false sn te b true) s [.hpipes] fun t =>
      headPlc t i = { headPlc s i with drops := satAdd 8 (headPlc s i).drops 1, sack := some false } ∧ OtherHeadPlc i s t := by
  obtain ⟨n, hn⟩ := Option.isSome_iff_exists.mp hsize
  have hexec := (exec_headMpduReceived (i := i) (tk := tk) (lv := lv) (sn := sn) (te := te) (bc := false) (good := true) (s := s) hn).trans
    (congrArg Host.Outcome.next ((if_neg (by simp [hup, hvalid, hsn, hte])).trans ((if_neg (by decide)).trans (if_pos hfull))))
  exact does_modHeadPlc hexec

theorem headMpduReceived_idles (h : (headPlc s i).valid = false ∨ sn ≠ (headPlc s i).snid ∨ te ≠ (headPlc s i).tei) :
    Idles (.headMpduReceived i tk lv mode false sn te b good) s := by
  cases hsize : pbCount mode b.length with
  | none =>
    show execHeadMpduReceived i tk lv mode false sn te b good s = _
    rw [execHeadMpduReceived, hsize]
  | some n =>
    exact (exec_headMpduReceived hsize).trans (congrArg Host.Outcome.next (if_pos (by rcases h with h | h | h <;> simp [h])))

end

/-! A transmission ends (11 R373, R379). -/

section
variable {i : Fin 32} {tk : Nat} {a : Fin 8} {r : Fin 4} {m : Mpdu} {ms : List Mpdu} {s : State}

theorem headTxComplete_reports (hup : headUp s i = true) (htx : (headPlc s i).tx = m :: ms) (hend : r.val < 2 ∨ bits m.desc 39 37 ≤ a.val) :
    Does (.headTxComplete i tk a r) s [.hpipes] fun t =>
      headPlc t i = { headPlc s i with
        tx := ms, up := (headPlc s i).up ++ [txReport tk (bits m.desc 47 40) (a.val + 1) r.val (8 - ms.length)] } ∧ OtherHeadPlc i s t := by
  have hexec : exec (.headTxComplete i tk a r) s = .next (headReport i (txReport tk (bits m.desc 47 40) (a.val + 1) r.val (8 - ms.length))
      (modHeadPlc i (fun x => { x with tx := ms }) s)) := by
    show execHeadTxComplete i tk a r s = _
    rw [execHeadTxComplete, htx]
    exact congrArg Host.Outcome.next (if_neg (by simp [hup]; omega))
  refine does_of_exec hexec (upd_execHeadTxComplete i tk a r s) ⟨?_, (otherHeadPlc_modHeadPlc ..).trans (otherHeadPlc_headReport ..)⟩
  rw [headPlc_headReport, headPlc_modHeadPlc_same]

theorem headTxComplete_idles (htx : (headPlc s i).tx = []) : Idles (.headTxComplete i tk a r) s := by
  show execHeadTxComplete i tk a r s = _
  rw [execHeadTxComplete, htx]

end

/-- Settles O27: each message takes the branch of its conditions, which changes the head's side of one point; a network that is cleared reports
its buffers one by one. -/
theorem headTakesTunnelMessages : Obligations.HeadTakesTunnelMessages := by
  unfold Obligations.HeadTakesTunnelMessages
  exact ⟨fun _ _ _ _ => headTxMpdu_buffers, fun _ _ _ _ _ => headTxMpdu_refuses_size, fun _ _ _ _ => headTxMpdu_refuses_late,
    fun _ _ _ _ => headTxFilter_loads, fun _ _ _ _ _ => headTxFilter_idles, fun _ _ _ => headNetSet_sets, fun _ _ _ => headNetSet_clears,
    fun _ _ _ _ _ _ _ _ _ _ => headMpduReceived_forwards, fun _ _ _ _ _ _ _ _ => headMpduReceived_drops,
    fun _ _ _ _ _ _ _ _ _ => headMpduReceived_idles, fun _ _ _ _ _ _ _ => headTxComplete_reports, fun _ _ _ _ _ => headTxComplete_idles⟩

end Sys2Proof.Machine
end

section
/-! SUPPORT. The receive pipes of one head, as the hub and the head keep them: what a change of them leaves (11 R383 to R387). -/

namespace Sys2Proof.Machine

theorem modPipes_pipes_same (k : Fin 8) (f : Pipes → Pipes) (s : State) : (s.modPipes k f).pipes[k] = f s.pipes[k] := by
  simp

theorem modPipes_pipes_other {j k : Fin 8} (h : j ≠ k) (f : Pipes → Pipes) (s : State) : (s.modPipes k f).pipes[j] = s.pipes[j] := by
  simp [Fin.val_ne_of_ne (Ne.symm h)]

theorem pipeOf_eq (s : State) (k : Fin 8) (p : Fin 5) : pipeOf s k p.val = s.pipes[k].pipes[p] := by
  simp [pipeOf, List.getD_eq_getElem?_getD]

theorem pipeOf_congr {s t : State} (h : t.pipes = s.pipes) (k : Fin 8) (p : Nat) : pipeOf t k p = pipeOf s k p := by
  rw [pipeOf, h, pipeOf]

theorem pipeOf_modPipe_same (k : Fin 8) (p : Fin 5) (f : Pipe → Pipe) (s : State) :
    pipeOf (modPipe k p f s) k p.val = f (pipeOf s k p.val) := by
  rw [pipeOf_eq, pipeOf_eq, modPipe, modPipes_pipes_same]
  simp

/-- A change of a head's rotation that does not look at its pipes leaves them. -/
theorem pipeOf_modPipes {f : Pipes → Pipes} (hf : ∀ x, (f x).pipes = x.pipes) (k : Fin 8) (p : Nat) (s : State) :
    pipeOf (s.modPipes k f) k p = pipeOf s k p := by
  rw [pipeOf, modPipes_pipes_same, hf, pipeOf]

theorem modPipe_pipes_other {j k : Fin 8} (h : j ≠ k) (p : Fin 5) (f : Pipe → Pipe) (s : State) : (modPipe k p f s).pipes[j] = s.pipes[j] :=
  modPipes_pipes_other h ..

/-- A message for the tunnel is queued alike where the ports and SEN are the same. -/
theorem Upd.rxControl_ports {P : List Part} {s t : State} (h : Upd P s t) (hports : P.contains .ports = false) (hsen : P.contains .sen = false)
    (i : Fin 32) (action pipe : Nat) : (rxControl i action pipe t).ports = (rxControl i action pipe s).ports := by
  unfold rxControl tunnelMsg
  rw [h.ports hports, h.sen hsen]
  split
  · exact h.ports hports
  · rw [State.modPort_ports, State.modPort_ports, h.ports hports]

/-- What a head's pipes hold apart from its points is not touched by what changes a point. -/
theorem OtherHeadPlc.read {β : Type} {i : Fin 32} {s t : State} (h : OtherHeadPlc i s t) {p : HeadPipes → β}
    (hp : ∀ (x : HeadPipes) (pts : Vector HeadPlc 4), p { x with pts := pts } = p x) (k : Fin 8) : p t.hpipes[k] = p s.hpipes[k] :=
  (hp ..).symm.trans (congrArg p (h.2 k))

theorem headReport_hpipes_other {i : Fin 32} {j : Fin 8} (h : j ≠ slotOf i) (m : Mpdu) (s : State) :
    (headReport i m s).hpipes[j] = s.hpipes[j] :=
  modHpipes_hpipes_other h ..

/-- A change of a head's pipes that does not look at its points leaves them. -/
theorem headPlc_modHpipes {f : HeadPipes → HeadPipes} (hf : ∀ x, (f x).pts = x.pts) (k : Fin 8) (s : State) (i : Fin 32) :
    headPlc (s.modHpipes k f) i = headPlc s i := by
  by_cases hi : slotOf i = k
  · subst hi
    rw [headPlc, modHpipes_hpipes_same]
    simp only [hf]
    rfl
  · rw [headPlc, modHpipes_hpipes_other hi, headPlc]

theorem does_modHpipes {c : Instr} {k : Fin 8} {f : HeadPipes → HeadPipes} {s : State} (hexec : exec c s = .next (s.modHpipes k f)) :
    Does c s [.hpipes] fun t => t.hpipes = s.hpipes.set k (f s.hpipes[k]) :=
  ⟨_, hexec, upd_modHpipes .., rfl⟩

end Sys2Proof.Machine
end

section
/-! PROOF. Receive pipes: swaps, handovers and tests in the head, the rotation and the reports in the hub (11 R383 to R387). -/

namespace Sys2Proof.Machine

/-! The head (11 R384, R385). -/

section
variable {i : Fin 32} {k : Fin 8} {s : State}

theorem headPipeSwap_shadows (hup : headUp s i = true) (hspare : s.hpipes[slotOf i].spareFor = 7) (hfree : s.hpipes[slotOf i].handTo = none)
    (htest : s.hpipes[slotOf i].testing = none) :
    Does (.headPipeSwap i) s [.hpipes] fun t =>
      t.hpipes = s.hpipes.set (slotOf i) { s.hpipes[slotOf i] with handTo := some 4, handPt := (posOf i).val } := by
  have hexec : exec (.headPipeSwap i) s = .next (s.modHpipes (slotOf i) fun x => { x with handTo := some 4, handPt := (posOf i).val }) :=
    congrArg Host.Outcome.next (if_pos (by simp [-Fin.getElem_fin, hup, hspare, hfree, htest]))
  exact does_modHpipes hexec

theorem headPipeReturn_shadows (hup : headUp s i = true) (hspare : s.hpipes[slotOf i].spareFor = (posOf i).val)
    (hfree : s.hpipes[slotOf i].handTo = none) :
    Does (.headPipeReturn i) s [.hpipes] fun t =>
      t.hpipes = s.hpipes.set (slotOf i) { s.hpipes[slotOf i] with handTo := some (posOf i).val, handPt := (posOf i).val } := by
  have hexec : exec (.headPipeReturn i) s =
      .next (s.modHpipes (slotOf i) fun x => { x with handTo := some (posOf i).val, handPt := (posOf i).val }) :=
    congrArg Host.Outcome.next (if_pos (by simp [-Fin.getElem_fin, hup, hspare, hfree]))
  exact does_modHpipes hexec

theorem headPipeHandover_hands {p : Nat} (hhand : s.hpipes[k].handTo = some p) :
    Does (.headPipeHandover k) s [.hpipes] fun t =>
      t.hpipes = s.hpipes.set k { s.hpipes[k] with spareFor := if p = 4 then s.hpipes[k].handPt else 7, handTo := none, handPt := 7 } := by
  have hexec : exec (.headPipeHandover k) s =
      .next (s.modHpipes k fun x => { x with spareFor := if p = 4 then x.handPt else 7, handTo := none, handPt := 7 }) := by
    show execHeadPipeHandover k s = _
    rw [execHeadPipeHandover, hhand]
  exact does_modHpipes hexec

theorem headPipeTest_starts {p : Fin 5} (hup : headUp s i = true) (hfree : pipeServes s.hpipes[slotOf i] p.val = false)
    (htest : s.hpipes[slotOf i].testing = none) :
    Does (.headPipeTest i p) s [.hpipes] fun t =>
      t.hpipes = s.hpipes.set (slotOf i) { s.hpipes[slotOf i] with testing := some (p.val, (posOf i).val) } := by
  have hexec : exec (.headPipeTest i p) s = .next (s.modHpipes (slotOf i) fun x => { x with testing := some (p.val, (posOf i).val) }) :=
    congrArg Host.Outcome.next (if_pos (by simp [-Fin.getElem_fin, hup, hfree, htest]))
  exact does_modHpipes hexec

theorem headPipeTest_idles {p : Fin 5} (h : pipeServes s.hpipes[slotOf i] p.val = true) : Idles (.headPipeTest i p) s :=
  congrArg Host.Outcome.next (if_neg (by simp [-Fin.getElem_fin, h]))

/-- A test of a pipe passes with all 32 frames and a level within 2 dB of 55 dB below the reference (11 R385). -/
def testPass (n : Fin 33) (lv : Nat) : Bool := n.val = 32 && decide (530 ≤ lv) && decide (lv ≤ 570)

/-- The test of pipe p is over with a result. -/
def testOver (k : Fin 8) (p : Fin 5) (pass : Bool) (s : State) : State :=
  s.modHpipes k fun x => { x with testing := none, ok := x.ok.set p pass }

theorem headPipeTestDone_reports {n : Fin 33} {lv tk : Nat} {p : Fin 5} {q : Fin 4} (htest : s.hpipes[k].testing = some (p.val, q.val)) :
    Does (.headPipeTestDone k n lv tk) s [.hpipes] fun t =>
      t.hpipes[k].testing = none ∧ t.hpipes[k].ok = s.hpipes[k].ok.set p (decide (n.val = 32) && decide (530 ≤ lv) && decide (lv ≤ 570)) ∧
        (headPlc t (ptIdx k q)).up = (headPlc s (ptIdx k q)).up ++
          [{ desc := tk % 65536 * 2 ^ 48 + (if n.val = 32 ∧ 530 ≤ lv ∧ lv ≤ 570 then 1 else 2) * 2 ^ 32 + n.val * 2 ^ 24 + p.val * 2 ^ 8 + 0x12,
             body := [] }] ∧ (∀ j : Fin 8, j ≠ k → t.hpipes[j] = s.hpipes[j]) := by
  have hpass : testPass n lv = true ↔ n.val = 32 ∧ 530 ≤ lv ∧ lv ≤ 570 := by simp [testPass, and_assoc]
  have hexec : exec (.headPipeTestDone k n lv tk) s = .next (headReport (ptIdx k q)
      { desc := tk % 65536 * 2 ^ 48 + (if testPass n lv then 1 else 2) * 2 ^ 32 + n.val * 2 ^ 24 + p.val * 2 ^ 8 + 0x12, body := [] }
      (testOver k p (testPass n lv) s)) := by
    show execHeadPipeTestDone k n lv tk s = _
    rw [execHeadPipeTestDone, htest]
    simp only [fin?_val]
    rfl
  refine does_of_exec hexec (upd_execHeadPipeTestDone ..) ?_
  have hother := otherHeadPlc_headReport (ptIdx k q)
    { desc := tk % 65536 * 2 ^ 48 + (if testPass n lv then 1 else 2) * 2 ^ 32 + n.val * 2 ^ 24 + p.val * 2 ^ 8 + 0x12, body := [] }
    (testOver k p (testPass n lv) s)
  have hover : (testOver k p (testPass n lv) s).hpipes[k] =
      { s.hpipes[k] with testing := none, ok := s.hpipes[k].ok.set p (testPass n lv) } :=
    modHpipes_hpipes_same ..
  refine ⟨?_, ?_, ?_, fun j hj => ?_⟩
  · rw [hother.read (p := HeadPipes.testing) (fun _ _ => rfl), hover]
  · rw [hother.read (p := HeadPipes.ok) (fun _ _ => rfl), hover]
    rfl
  · have hplc : headPlc (testOver k p (testPass n lv) s) (ptIdx k q) = headPlc s (ptIdx k q) := by
      rw [testOver, headPlc_modHpipes]
      exact fun _ => rfl
    rw [headPlc_headReport, hplc]
    simp only [hpass]
  · rw [headReport_hpipes_other (by rwa [slotOf_ptIdx])]
    exact modHpipes_hpipes_other hj ..

end

/-! The rotation (11 R383, R386). -/

section
variable {k : Fin 8} {s : State}

theorem atBoundary_self (s : State) : atBoundary s s = s := if_pos rfl

theorem pipeStep_idles (h : s.pipes[k].on = false ∨ s.pipes[k].stepPipe ≠ 7) : Idles (.pipeStep k) s := by
  have hstep : doPipeStep k s = s := if_pos (by rcases h with h | h <;> simp [-Fin.getElem_fin, h])
  exact congrArg Host.Outcome.next ((congrArg (atBoundary s) hstep).trans (atBoundary_self s))

/-- The rotation goes on with home pipe p, whose point pipe 4 is to take. -/
def swapAsked (k : Fin 8) (p : Fin 4) (s : State) : State :=
  s.modPipes k fun x => { x with idx := (x.idx + 1) % 5, stepPipe := p.val, testSent := false, spareFor := p.val }

/-- The next place of the rotation is a home pipe in service, whose point is not in the middle of a matching (11 R383, R394). -/
theorem doPipeStep_swaps {p : Fin 4} (hon : s.pipes[k].on = true) (hstep : s.pipes[k].stepPipe = 7) (hspare : s.pipes[k].spareFor = 7)
    (hready : spareReady s k = true) (hidx : s.pipes[k].idx = p.val + 1) (hst : (pipeOf s k p.val).st = .inService)
    (hsound : s.plc[ptIdx k p].slac ≠ .sounding) (hatten : s.plc[ptIdx k p].slac ≠ .waitAtten) :
    doPipeStep k s = rxControl (ptIdx k p) 1 0 (swapAsked k p s) := by
  have hplace : rotationPipe s.pipes[k].idx = p.val := by rw [hidx]; rfl
  have hhome : p.val ≠ 4 := Nat.ne_of_lt p.isLt
  have hnone : fin? 4 s.pipes[k].spareFor = none := by rw [hspare]; rfl
  unfold doPipeStep
  dsimp only
  rw [if_neg (by simp [-Fin.getElem_fin, hon, hstep]), hnone]
  dsimp only
  rw [if_neg (by simp [hready]), hplace, if_neg hhome, fin?_val]
  dsimp only
  rw [if_neg (by simp [-Fin.getElem_fin, hsound, hatten]), if_neg (by simp [hst])]
  simp [swapAsked, State.modPipes]

theorem pipeStep_swaps {p : Fin 4} (hon : s.pipes[k].on = true) (hstep : s.pipes[k].stepPipe = 7) (hspare : s.pipes[k].spareFor = 7)
    (hready : spareReady s k = true) (hidx : s.pipes[k].idx = p.val + 1) (hst : (pipeOf s k p.val).st = .inService)
    (hsound : s.plc[ptIdx k p].slac ≠ .sounding) (hatten : s.plc[ptIdx k p].slac ≠ .waitAtten) :
    Does (.pipeStep k) s [.gates, .ports, .pipes, .freeCtr] fun t =>
      t.pipes = s.pipes.set k { s.pipes[k] with idx := (p.val + 2) % 5, stepPipe := p.val, testSent := false, spareFor := p.val } ∧
        t.ports = (rxControl (ptIdx k p) 1 0 s).ports := by
  have hexec : exec (.pipeStep k) s = .next (atBoundary s (rxControl (ptIdx k p) 1 0 (swapAsked k p s))) :=
    congrArg Host.Outcome.next (congrArg (atBoundary s) (doPipeStep_swaps hon hstep hspare hready hidx hst hsound hatten))
  refine does_of_exec hexec (upd_execPipeStep k s) ⟨?_, ?_⟩
  · rw [atBoundary_pipes, (upd_rxControl ..).pipes rfl, swapAsked, State.modPipes_pipes, hidx]
  · rw [atBoundary_ports]
    exact (upd_modPipes ..).rxControl_ports rfl rfl ..

theorem pipeRetest_tests {p : Fin 5} (hon : s.pipes[k].on = true) (hst : (pipeOf s k p.val).st = .retired)
    (hdue : (pipeOf s k p.val).retestAt + 1024 ≤ s.clk.bndTot) (hfree : p.val = 4 ∨ s.pipes[k].spareFor = p.val) :
    Does (.pipeRetest k p) s [.ports, .pipes] fun t =>
      pipeOf t k p.val = { pipeOf s k p.val with retestAt := s.clk.bndTot } ∧
        t.ports = (rxControl (ptIdx k ((fin? 4 p.val).getD 0)) 3 p.val s).ports ∧ (∀ j : Fin 8, j ≠ k → t.pipes[j] = s.pipes[j]) := by
  have hexec : exec (.pipeRetest k p) s = .next (rxControl (ptIdx k ((fin? 4 p.val).getD 0)) 3 p.val
      (modPipe k p (fun y => { y with retestAt := s.clk.bndTot }) s)) :=
    congrArg Host.Outcome.next (if_pos (by simpa [-Fin.getElem_fin, hon, hst, hdue] using hfree))
  refine does_of_exec hexec (upd_execPipeRetest k p s) ⟨?_, (upd_modPipe ..).rxControl_ports rfl rfl .., fun j hj => ?_⟩
  · rw [pipeOf_congr ((upd_rxControl ..).pipes rfl), pipeOf_modPipe_same]
  · rw [(upd_rxControl ..).pipes rfl, modPipe_pipes_other hj]

theorem pipeRetest_idles {p : Fin 5} (h : (pipeOf s k p.val).st ≠ .retired ∨ s.clk.bndTot < (pipeOf s k p.val).retestAt + 1024) :
    Idles (.pipeRetest k p) s :=
  congrArg Host.Outcome.next (if_neg (by rcases h with h | h <;> simp [h]))

end

/-! Reports of tests (11 Table 11.4, R386, R387). -/

/-- The step in which pipe p was tested is over. -/
def reportTaken (k : Fin 8) (p : Fin 5) (s : State) : State :=
  s.modPipes k fun x => { x with stepPipe := if x.stepPipe = p.val then 7 else x.stepPipe, testSent := false }

theorem pipeOf_reportTaken (k : Fin 8) (p : Fin 5) (q : Nat) (s : State) : pipeOf (reportTaken k p s) k q = pipeOf s k q := by
  rw [reportTaken, pipeOf_modPipes]
  exact fun _ => rfl

/-- A pipe returns to service with its counts cleared; where pipe 4 serves its point, the point is to return. -/
theorem pipeBack_pipes (k : Fin 8) (p : Fin 5) (s : State) :
    (pipeBack k p s).pipes = ((modPipe k p (fun y => { y with st := if p = 4 then .spare else .inService, fails := 0, passes := 0 }) s).modPipes k
      fun x => { x with returnDue := x.returnDue || x.spareFor == p.val }).pipes := by
  unfold pipeBack
  dsimp only
  split
  · rfl
  · rfl

theorem pipeOf_pipeBack (k : Fin 8) (p : Fin 5) (s : State) : pipeOf (pipeBack k p s) k p.val =
    { pipeOf s k p.val with st := if p.val = 4 then .spare else .inService, fails := 0, passes := 0 } := by
  have hp : (p = 4) = (p.val = 4) := propext Fin.ext_iff
  rw [pipeOf_congr (pipeBack_pipes k p s), pipeOf_modPipes, pipeOf_modPipe_same]
  · simp only [hp]
  · exact fun _ => rfl

theorem pipeBack_returnDue {k : Fin 8} {p : Fin 5} {s : State} (h : s.pipes[k].spareFor = p.val) : (pipeBack k p s).pipes[k].returnDue = true := by
  rw [pipeBack_pipes, modPipes_pipes_same, modPipe, modPipes_pipes_same, h]
  simp

theorem pipeBack_pipes_other {j k : Fin 8} (h : j ≠ k) (p : Fin 5) (s : State) : (pipeBack k p s).pipes[j] = s.pipes[j] := by
  rw [pipeBack_pipes, modPipes_pipes_other h, modPipe_pipes_other h]

/-- What a report makes of a pipe in a state, as 11 Table 11.4 gives it for all pipes but a spare one. -/
def pipeMoved (k : Fin 8) (d : Nat) (p : Fin 5) (st : PipeSt) (s : State) : State :=
  match st with
  | .underTest =>
    if bits d 39 32 = 1 then pipeBack k p s
    else pipeEvent k 0x9041 (p.val * 2 ^ 24 + bits d 31 24) (modPipe k p (fun y => { y with st := .suspect, fails := 1 }) s)
  | .suspect =>
    if bits d 39 32 = 1 then pipeBack k p s
    else pipeEvent k 0x9042 (p.val * 2 ^ 24)
      (modPipe k p (fun y => { y with st := .retired, fails := 2, passes := 0, retestAt := s.clk.bndTot }) s)
  | .retired =>
    let n := if bits d 39 32 = 1 then (pipeOf s k p.val).passes + 1 else 0
    let s := modPipe k p (fun y => { y with passes := n }) s
    if 3 ≤ n then pipeEvent k 0x9043 (p.val * 2 ^ 24) (pipeBack k p s) else s
  | .inService | .spare => s

section
variable {k : Fin 8} {d : Nat} {p : Fin 5} {s : State}

theorem exec_pipeTestReport {st : PipeSt} (hp : bits d 15 8 = p.val) (hon : s.pipes[k].on = true) (hst : (pipeOf s k p.val).st = st)
    (hspare : st ≠ .spare) : exec (.pipeTestReport k d) s = .next (pipeMoved k d p st (reportTaken k p s)) := by
  have hnow : (pipeOf (reportTaken k p s) k p.val).st = st := (congrArg Pipe.st (pipeOf_reportTaken ..)).trans hst
  show execPipeTestReport k d s = _
  rw [execPipeTestReport, hp, fin?_val]
  dsimp only
  rw [if_neg (by simp [-Fin.getElem_fin, hon]), ← reportTaken, hnow, if_neg (by simp [hspare])]
  cases st with
  | spare => exact absurd rfl hspare
  | underTest | suspect | retired | inService => rfl

theorem upd_reportTaken (k : Fin 8) (p : Fin 5) (s : State) : Upd [.pipes] s (reportTaken k p s) := upd_modPipes ..

/-- A pipe that is under test or suspect passes. -/
theorem pipeTestReport_passes (hp : bits d 15 8 = p.val) (hon : s.pipes[k].on = true)
    (hst : (pipeOf s k p.val).st = .underTest ∨ (pipeOf s k p.val).st = .suspect) (hpass : bits d 39 32 = 1) :
    Does (.pipeTestReport k d) s [.plc, .pipes, .ev, .sen] fun t =>
      (pipeOf t k p.val).st = (if p.val = 4 then .spare else .inService) ∧ (pipeOf t k p.val).fails = 0 ∧ t.ev = s.ev ∧
        (s.pipes[k].spareFor = p.val → t.pipes[k].returnDue = true) ∧ ∀ j : Fin 8, j ≠ k → t.pipes[j] = s.pipes[j] := by
  have hexec : exec (.pipeTestReport k d) s = .next (pipeBack k p (reportTaken k p s)) := by
    rcases hst with hst | hst
    · exact (exec_pipeTestReport hp hon hst (by decide)).trans (congrArg Host.Outcome.next (if_pos hpass))
    · exact (exec_pipeTestReport hp hon hst (by decide)).trans (congrArg Host.Outcome.next (if_pos hpass))
  refine does_of_exec hexec (upd_execPipeTestReport k d s) ?_
  rw [pipeOf_pipeBack]
  refine ⟨rfl, rfl, (upd_pipeBack ..).ev rfl, fun hserves => pipeBack_returnDue ?_, fun j hj => ?_⟩
  · rw [reportTaken, modPipes_pipes_same, hserves]
  · rw [pipeBack_pipes_other hj, reportTaken, modPipes_pipes_other hj]

/-- A change of a pipe with its event, after the step is taken as over. -/
theorem pipeEvent_modPipe_ev (f : Pipe → Pipe) (code arg : Nat) :
    (pipeEvent k code arg (modPipe k p f (reportTaken k p s))).ev = (raise code 4 (4 * k.val) arg s).ev :=
  Upd.raise_ev (P := [.pipes]) (.comp (upd_modPipe ..) rfl (upd_reportTaken ..)) rfl rfl rfl rfl ..

theorem pipeOf_pipeEvent (code arg : Nat) (q : Nat) : pipeOf (pipeEvent k code arg s) k q = pipeOf s k q :=
  pipeOf_congr ((upd_pipeEvent ..).pipes rfl) ..

theorem pipeTestReport_suspects (hp : bits d 15 8 = p.val) (hon : s.pipes[k].on = true) (hst : (pipeOf s k p.val).st = .underTest)
    (hfail : bits d 39 32 ≠ 1) :
    Does (.pipeTestReport k d) s [.plc, .pipes, .ev, .sen] fun t =>
      (pipeOf t k p.val).st = .suspect ∧ (pipeOf t k p.val).fails = 1 ∧ t.plc = s.plc ∧
        t.ev = (raise 0x9041 4 (4 * k.val) (p.val * 2 ^ 24 + bits d 31 24) s).ev := by
  have hexec := (exec_pipeTestReport hp hon hst (by decide)).trans (congrArg Host.Outcome.next (if_neg hfail))
  refine does_of_exec hexec (upd_execPipeTestReport k d s) ?_
  rw [pipeOf_pipeEvent, pipeOf_modPipe_same]
  exact ⟨rfl, rfl, raise_plc .., pipeEvent_modPipe_ev ..⟩

theorem pipeTestReport_retires (hp : bits d 15 8 = p.val) (hon : s.pipes[k].on = true) (hst : (pipeOf s k p.val).st = .suspect)
    (hfail : bits d 39 32 ≠ 1) :
    Does (.pipeTestReport k d) s [.plc, .pipes, .ev, .sen] fun t =>
      (pipeOf t k p.val).st = .retired ∧ (pipeOf t k p.val).retestAt = s.clk.bndTot ∧ t.plc = s.plc ∧
        t.ev = (raise 0x9042 4 (4 * k.val) (p.val * 2 ^ 24) s).ev := by
  have hexec := (exec_pipeTestReport hp hon hst (by decide)).trans (congrArg Host.Outcome.next (if_neg hfail))
  refine does_of_exec hexec (upd_execPipeTestReport k d s) ?_
  rw [pipeOf_pipeEvent, pipeOf_modPipe_same]
  exact ⟨rfl, rfl, raise_plc .., pipeEvent_modPipe_ev ..⟩

/-- A retired pipe passes a test: the third in a row brings it back. -/
theorem pipeTestReport_counts (hp : bits d 15 8 = p.val) (hon : s.pipes[k].on = true) (hst : (pipeOf s k p.val).st = .retired)
    (hpass : bits d 39 32 = 1) :
    Does (.pipeTestReport k d) s [.plc, .pipes, .ev, .sen] fun t =>
      if 2 ≤ (pipeOf s k p.val).passes then
        (pipeOf t k p.val).st = (if p.val = 4 then .spare else .inService) ∧ t.ev = (raise 0x9043 4 (4 * k.val) (p.val * 2 ^ 24) s).ev
      else (pipeOf t k p.val).st = .retired ∧ (pipeOf t k p.val).passes = (pipeOf s k p.val).passes + 1 ∧ t.ev = s.ev := by
  have hpasses : (if bits d 39 32 = 1 then (pipeOf (reportTaken k p s) k p.val).passes + 1 else 0) = (pipeOf s k p.val).passes + 1 := by
    rw [if_pos hpass, pipeOf_reportTaken]
  have hexec := exec_pipeTestReport hp hon hst (by decide)
  rw [pipeMoved, hpasses] at hexec
  refine does_of_exec hexec (upd_execPipeTestReport k d s) ?_
  split
  case isTrue hthird =>
    rw [if_pos (Nat.succ_le_succ hthird), pipeOf_pipeEvent, pipeOf_pipeBack]
    refine ⟨rfl, Upd.raise_ev (P := [.plc, .pipes]) ?_ rfl rfl rfl rfl ..⟩
    exact .comp (upd_pipeBack ..) rfl (.comp (upd_modPipe ..) rfl ((upd_reportTaken ..).mono rfl))
  case isFalse hfewer =>
    rw [if_neg fun h => hfewer (Nat.le_of_succ_le_succ h), pipeOf_modPipe_same, pipeOf_reportTaken]
    exact ⟨hst, rfl, rfl⟩

end

/-- Settles O28: in the head each command changes the pipes of its slot; in the hub a report moves its pipe by 11 Table 11.4. -/
theorem pipesAreTestedInRotation : Obligations.PipesAreTestedInRotation := by
  unfold Obligations.PipesAreTestedInRotation
  exact ⟨fun _ _ => headPipeSwap_shadows, fun _ _ => headPipeReturn_shadows, fun _ _ _ => headPipeHandover_hands,
    fun _ _ _ => headPipeTest_starts, fun _ _ _ => headPipeTest_idles, fun _ _ _ _ _ _ _ => headPipeTestDone_reports,
    fun _ _ _ => pipeStep_swaps, fun _ _ => pipeStep_idles, fun _ _ _ => pipeRetest_tests, fun _ _ _ => pipeRetest_idles,
    fun _ _ _ _ => pipeTestReport_passes, fun _ _ _ _ => pipeTestReport_suspects, fun _ _ _ _ => pipeTestReport_retires,
    fun _ _ _ _ => pipeTestReport_counts⟩

end Sys2Proof.Machine
end

section
/-! SUPPORT. The link of one point under what is sent in its tunnel: messages change at most its count of MPDUs on their way and those that it
holds (11 R380). -/

namespace Sys2Proof.Machine

theorem modPlc_plc_same (i : Fin 32) (f : PtPlc → PtPlc) (s : State) : (s.modPlc i f).plc[i] = f s.plc[i] := by
  simp

theorem modPlc_plc_other {i j : Fin 32} (h : i ≠ j) (f : PtPlc → PtPlc) (s : State) : (s.modPlc j f).plc[i] = s.plc[i] := by
  simp [Fin.val_ne_of_ne (Ne.symm h)]

theorem modSes_ses_same (i : Fin 32) (f : PtSes → PtSes) (s : State) : (s.modSes i f).ses[i] = f s.ses[i] := by
  simp

theorem otherPoints_modPlc (i : Fin 32) (f : PtPlc → PtPlc) (s : State) : OtherPoints i s (s.modPlc i f) :=
  fun _ hj => ⟨rfl, rfl, rfl, modPlc_plc_other hj f s, rfl, rfl, rfl, rfl⟩

theorem otherPoints_modSes (i : Fin 32) (f : PtSes → PtSes) (s : State) : OtherPoints i s (s.modSes i f) :=
  fun _ hj => ⟨rfl, rfl, modSes_ses_other hj f s, rfl, rfl, rfl, rfl, rfl⟩

/-- Perhaps an event leaves the same in the event unit where only parts that the event unit does not read have changed. -/
theorem Upd.raiseIf_ev {P : List Part} {s t : State} (h : Upd P s t) (hev : P.contains .ev = false) (hel : P.contains .elec = false)
    (hclk : P.contains .clk = false) (hsen : P.contains .sen = false) (c : Bool) (code src pt arg : Nat) :
    (raiseIf c code src pt arg t).ev = (raiseIf c code src pt arg s).ev := by
  cases c with
  | true => exact h.raise_ev hev hel hclk hsen ..
  | false => exact h.ev hev

/-- Every link is as it was, but that a point may have other MPDUs on their way and held. -/
def LinkSends (i : Fin 32) (s t : State) : Prop :=
  ∃ (n : Nat) (l : List Mpdu), t.plc = s.plc.set i { s.plc[i] with txCount := n, held := l }

section
variable {i : Fin 32} {s t u : State}

theorem LinkSends.of_plc (h : t.plc = s.plc) : LinkSends i s t := ⟨s.plc[i].txCount, s.plc[i].held, h.trans (Vector.set_getElem_self i.isLt).symm⟩

theorem LinkSends.refl (i : Fin 32) (s : State) : LinkSends i s s := .of_plc rfl

/-- The link of the point itself. -/
theorem LinkSends.same (h : LinkSends i s t) : ∃ (n : Nat) (l : List Mpdu), t.plc[i] = { s.plc[i] with txCount := n, held := l } := by
  obtain ⟨n, l, hplc⟩ := h
  exact ⟨n, l, by rw [hplc]; simp⟩

theorem LinkSends.trans (h : LinkSends i s t) (g : LinkSends i t u) : LinkSends i s u := by
  obtain ⟨n, l, hplc⟩ := h
  obtain ⟨m, k, gplc⟩ := g
  exact ⟨m, k, by rw [gplc, hplc]; simp⟩

theorem LinkSends.modPlc {f : PtPlc → PtPlc} (hf : ∀ x : PtPlc, ∃ (n : Nat) (l : List Mpdu), f x = { x with txCount := n, held := l }) :
    LinkSends i s (s.modPlc i f) := by
  obtain ⟨n, l, hfx⟩ := hf s.plc[i]
  exact ⟨n, l, by rw [State.modPlc_plc, hfx]⟩

theorem LinkSends.foldl {α : Type} {F : State → α → State} (hF : ∀ u a, LinkSends i u (F u a)) (l : List α) (s : State) :
    LinkSends i s (l.foldl F s) :=
  List.foldlRecOn l F (.refl i s) fun u hu a _ => hu.trans (hF u a)

theorem LinkSends.otherPoints (h : LinkSends i s t) (hu : Upd [.ports, .plc] s t) : OtherPoints i s t := by
  obtain ⟨n, l, hplc⟩ := h
  intro j hj
  have hother : t.plc[j] = s.plc[j] := by
    rw [hplc]
    simp [Fin.val_ne_of_ne (Ne.symm hj)]
  simp only [hother, hu.psafe rfl, hu.cp rfl, hu.ses rfl, hu.auth rfl, hu.pmet rfl, hu.safe rfl, and_self]

end

theorem linkSends_sendMpdu (i : Fin 32) (desc : Nat) (body : List Nat) (s : State) : LinkSends i s (sendMpdu i desc body s) := by
  unfold sendMpdu
  dsimp only
  split
  · exact .refl ..
  · split
    · exact .trans (.of_plc ((upd_tunnelMsg ..).plc rfl)) (.modPlc fun _ => ⟨_, _, rfl⟩)
    · exact .modPlc fun _ => ⟨_, _, rfl⟩

theorem linkSends_sendMessage (i : Fin 32) (code : Nat) (fields : List Nat) (s : State) : LinkSends i s (sendMessage i code fields s) :=
  .foldl (fun _ _ => linkSends_sendMpdu ..) _ s

theorem otherPoints_sendMessage (i : Fin 32) (code : Nat) (fields : List Nat) (s : State) : OtherPoints i s (sendMessage i code fields s) :=
  (linkSends_sendMessage ..).otherPoints (upd_sendMessage ..)

theorem otherPoints_slacSend (i : Fin 32) (m : SlacOut) (code : Nat) (fields : List Nat) (s : State) :
    OtherPoints i s (slacSend i m code fields s) :=
  (otherPoints_modPlc i _ s).trans (otherPoints_sendMessage i _ _ _)

/-- An answer of SLAC is noted on the link. -/
theorem slacSend_plc (i : Fin 32) (m : SlacOut) (code : Nat) (fields : List Nat) (s : State) : ∃ (n : Nat) (l : List Mpdu),
    (slacSend i m code fields s).plc[i] = { s.plc[i] with slacMsgs := m :: s.plc[i].slacMsgs, txCount := n, held := l } := by
  obtain ⟨n, l, hplc⟩ := (linkSends_sendMessage i code fields (s.modPlc i fun x => { x with slacMsgs := m :: x.slacMsgs })).same
  rw [modPlc_plc_same] at hplc
  exact ⟨n, l, hplc⟩

theorem sendHeld_of_none {i : Fin 32} {s : State} (h : s.plc[i].held = []) : sendHeld i s = s := by
  rw [sendHeld, h]

theorem headPlc_upTaken (i : Fin 32) (s : State) : headPlc (upTaken i s) i = { headPlc s i with up := (headPlc s i).up.drop 1 } :=
  headPlc_modHeadPlc_same ..

end Sys2Proof.Machine
end

section
/-! PROOF. What SES does with the reports of the tunnel, and the beacon (11 R374, R376, R379, R380, R390). -/

namespace Sys2Proof.Machine

section
variable {i : Fin 32} {d tk : Nat} {b : List (BitVec 8)} {a : List Nat} {s : State}

/-! A received MPDU (11 R376, R379, Table 11.7). -/

/-- The report of a received MPDU and its buffer leave the head. -/
def mpduTaken (i : Fin 32) (s : State) : State := modHeadPlc i (fun x => { x with rx := x.rx.drop 1 }) (upTaken i s)

/-- Event 0x4205 at the first drop of a run. -/
def dropNoted (i : Fin 32) (d : Nat) (s : State) : State :=
  raiseIf (decide (bits d 31 24 ≠ 0) && s.plc[i].dropQuiet.isNone) 0x4205 4 i.val (bits d 31 24) s

theorem upd_mpduTaken (i : Fin 32) (s : State) : Upd [.hpipes] s (mpduTaken i s) := .comp (upd_modHeadPlc ..) rfl (upd_upTaken ..)

theorem headPlc_mpduTaken (i : Fin 32) (s : State) :
    headPlc (mpduTaken i s) i = { headPlc s i with rx := (headPlc s i).rx.drop 1, up := (headPlc s i).up.drop 1 } := by
  rw [mpduTaken, headPlc_modHeadPlc_same, headPlc_upTaken]

theorem rxMpdu_takes (hruns : portRuns s.ports[slotOf i] = true) :
    Does (.rxMpdu i d b) s [.plc, .hpipes, .ev, .sen] fun t =>
      headPlc t i = { headPlc s i with rx := (headPlc s i).rx.drop 1, up := (headPlc s i).up.drop 1 } ∧
        t.plc[i].rx = (if s.ses[i].stalled then s.plc[i].rx ++ [{ desc := d, body := b }] else []) ∧
        t.ev = (raiseIf (decide (bits d 31 24 ≠ 0) && s.plc[i].dropQuiet.isNone) 0x4205 4 i.val (bits d 31 24) s).ev ∧
        OtherHeadPlc i s t ∧ OtherPoints i s t := by
  have hexec : exec (.rxMpdu i d b) s = .next ((dropNoted i d (mpduTaken i s)).modPlc i fun x =>
      { x with dropQuiet := if bits d 31 24 ≠ 0 then some 0 else x.dropQuiet
               rx := if (dropNoted i d (mpduTaken i s)).ses[i].stalled then x.rx ++ [{ desc := d, body := b }] else [] }) :=
    congrArg Host.Outcome.next (if_neg (by simp [-Fin.getElem_fin, hruns]))
  have hhead := (upd_mpduTaken i s).otherPoints rfl i
  have hnote := upd_raiseIf (decide (bits d 31 24 ≠ 0) && s.plc[i].dropQuiet.isNone) 0x4205 4 i.val (bits d 31 24) (mpduTaken i s)
  have hpipes : (dropNoted i d (mpduTaken i s)).hpipes = (mpduTaken i s).hpipes := hnote.hpipes rfl
  refine does_of_exec hexec (upd_execRxMpdu i d b s) ⟨?_, ?_, (upd_mpduTaken i s).raiseIf_ev rfl rfl rfl rfl .., ?_, ?_⟩
  · exact (headPlc_congr hpipes i).trans (headPlc_mpduTaken i s)
  · rw [modPlc_plc_same, dropNoted, raiseIf_ses, raiseIf_plc]
    rfl
  · have hbuf := (otherHeadPlc_modHeadPlc i _ s).trans (otherHeadPlc_modHeadPlc i (fun x => { x with rx := x.rx.drop 1 }) (upTaken i s))
    exact hbuf.trans (.of_hpipes hpipes i)
  · exact (hhead.trans (hnote.otherPoints rfl i)).trans (otherPoints_modPlc i _ _)

theorem rxMpdu_idles (hdown : portRuns s.ports[slotOf i] = false) : Idles (.rxMpdu i d b) s :=
  congrArg Host.Outcome.next (if_pos (by simp [-Fin.getElem_fin, hdown]))

/-! A sound report (11 R390). -/

theorem soundReport_keeps (hslac : s.plc[i].slac = .sounding) (hroom : s.plc[i].sounds.length < 10) :
    Does (.soundReport i tk a) s [.plc, .hpipes] fun t =>
      t.plc = s.plc.set i { s.plc[i] with
        sounds := s.plc[i].sounds ++ [{ tick := tk % 65536, atten := (List.range 58).map fun g => min 255 (a.getD g 0) }] } ∧
        (headPlc t i).up = (headPlc s i).up.drop 1 := by
  have hexec : exec (.soundReport i tk a) s = .next ((upTaken i s).modPlc i fun x =>
      { x with sounds := x.sounds ++ [{ tick := tk % 65536, atten := (List.range 58).map fun g => min 255 (a.getD g 0) }] }) :=
    congrArg Host.Outcome.next (if_pos (by simp [-Fin.getElem_fin, hslac, hroom]))
  exact does_of_exec hexec (upd_execSoundReport i tk a s) ⟨rfl, congrArg HeadPlc.up (headPlc_upTaken i s)⟩

theorem soundReport_drops (h : s.plc[i].slac ≠ .sounding ∨ 10 ≤ s.plc[i].sounds.length) :
    Does (.soundReport i tk a) s [.hpipes] fun t => (headPlc t i).up = (headPlc s i).up.drop 1 := by
  have hexec : exec (.soundReport i tk a) s = .next (upTaken i s) :=
    congrArg Host.Outcome.next (if_neg (by rcases h with h | h <;> simp [-Fin.getElem_fin, h]))
  exact ⟨_, hexec, upd_upTaken .., congrArg HeadPlc.up (headPlc_upTaken i s)⟩

/-! A transmit report (11 R380, Table 11.7). -/

/-- A transmission of the point is over. -/
def txTaken (i : Fin 32) (s : State) : State := (upTaken i s).modPlc i fun x => { x with txCount := x.txCount - 1 }

theorem upd_txTaken (i : Fin 32) (s : State) : Upd [.plc, .hpipes] s (txTaken i s) :=
  .comp (upd_modPlc ..) rfl ((upd_upTaken ..).mono rfl)

/-- Event 0x4206 where the transmission failed. -/
def txFailNoted (i : Fin 32) (d : Nat) (s : State) : State :=
  raiseIf (decide (2 ≤ bits d 35 32)) 0x4206 4 i.val (bits d 35 32 * 2 ^ 24 + bits d 47 40 * 2 ^ 16) s

theorem txFailNoted_plc (i : Fin 32) (d : Nat) (s : State) : (txFailNoted i d s).plc = s.plc := raiseIf_plc ..

theorem txReport_counts (hheld : s.plc[i].held = []) :
    Does (.txReport i d) s [.plc, .hpipes, .ev, .sen] fun t =>
      t.plc = s.plc.set i { s.plc[i] with txCount := s.plc[i].txCount - 1 } ∧ (headPlc t i).up = (headPlc s i).up.drop 1 ∧
        t.ev = (raiseIf (decide (2 ≤ bits d 35 32)) 0x4206 4 i.val (bits d 35 32 * 2 ^ 24 + bits d 47 40 * 2 ^ 16) s).ev := by
  have hnone : (txFailNoted i d (txTaken i s)).plc[i].held = [] := by
    rw [txFailNoted_plc, txTaken, modPlc_plc_same]
    exact hheld
  have hexec : exec (.txReport i d) s = .next (txFailNoted i d (txTaken i s)) := congrArg Host.Outcome.next (sendHeld_of_none hnone)
  have hpipes : (txFailNoted i d (txTaken i s)).hpipes = (upTaken i s).hpipes := raiseIf_hpipes ..
  refine ⟨_, hexec, .comp (upd_raiseIf ..) rfl ((upd_txTaken ..).mono rfl), txFailNoted_plc .., ?_, ?_⟩
  · exact congrArg HeadPlc.up ((headPlc_congr hpipes i).trans (headPlc_upTaken i s))
  · exact (upd_txTaken ..).raiseIf_ev rfl rfl rfl rfl ..

/-! The beacon (11 R374). -/

/-- The beacon of the point has been sent, in the tick at its mark. -/
def beaconSent (i : Fin 32) (s : State) : State :=
  (Config.hpgpFrames 0xBEAC [i.val, s.plc[i].snid, s.clk.count]).foldl
    (fun u b => sendMpdu i (txMpduDesc (tickAtPhase s (16384 * (posOf i).val)) 0xFF 0 0 true 0) b u) s

theorem linkSends_beaconSent (i : Fin 32) (s : State) : LinkSends i s (beaconSent i s) := .foldl (fun _ _ => linkSends_sendMpdu ..) _ s

theorem upd_beaconSent (i : Fin 32) (s : State) : Upd [.ports, .plc] s (beaconSent i s) :=
  .foldl (fun _ _ hu => .comp (upd_sendMpdu ..) rfl hu) (.refl ..)

theorem hpgpBeacon_counts (heven : s.clk.count % 2 = 0) (hnet : s.plc[i].netValid = true) :
    Does (.hpgpBeacon i) s [.ports, .plc] fun t => t.plc[i].beacons = s.plc[i].beacons + 1 ∧ OtherPoints i s t := by
  have hexec : exec (.hpgpBeacon i) s = .next ((beaconSent i s).modPlc i fun x => { x with beacons := x.beacons + 1 }) :=
    congrArg Host.Outcome.next (if_pos (by simp [-Fin.getElem_fin, heven, hnet]))
  have hsends := linkSends_beaconSent i s
  obtain ⟨n, l, hplc⟩ := hsends.same
  refine does_of_exec hexec (upd_execHpgpBeacon i s) ⟨?_, (hsends.otherPoints (upd_beaconSent i s)).trans (otherPoints_modPlc i _ _)⟩
  rw [modPlc_plc_same, hplc]

theorem hpgpBeacon_idles (h : s.clk.count % 2 = 1 ∨ s.plc[i].netValid = false) : Idles (.hpgpBeacon i) s :=
  congrArg Host.Outcome.next (if_neg (by rcases h with h | h <;> simp [-Fin.getElem_fin, h]))

end

/-- Settles O29: each report leaves the head's queue and changes the link of its point; a beacon that is sent changes at most what the point has
on its way. -/
theorem sesTakesTunnelReports : Obligations.SesTakesTunnelReports := by
  unfold Obligations.SesTakesTunnelReports
  exact ⟨fun _ _ _ _ => rxMpdu_takes, fun _ _ _ _ => rxMpdu_idles, fun _ _ _ _ => soundReport_keeps, fun _ _ _ _ => soundReport_drops,
    fun _ _ _ => txReport_counts, fun _ _ => hpgpBeacon_counts, fun _ _ => hpgpBeacon_idles⟩

end Sys2Proof.Machine
end

section
/-! PROOF. SLAC as it should go: from the parameter request to a joined network (11 R375, R388 to R391). -/

namespace Sys2Proof.Machine

section
variable {i : Fin 32} {s : State}

/-! The run and its sounds (11 R388 to R390). -/

/-- The sounding of a run begins. -/
def runStarted (i : Fin 32) (r m : Nat) (s : State) : State :=
  s.modPlc i fun x => { x with slac := .sounding, runId := r, mac := m % 2 ^ 48, sounds := [], startSeen := 0, sends := 0, attenInd := [] }

theorem cmSlacParmReq_starts {r m : Nat} (hserved : slacServed s i = true) (hslac : s.plc[i].slac = .waitParm) :
    Does (.cmSlacParmReq i r m 0) s [.ports, .plc] fun t =>
      t.plc[i].slac = .sounding ∧ t.plc[i].runId = r ∧ t.plc[i].mac = m % 2 ^ 48 ∧ t.plc[i].sounds = [] ∧ t.plc[i].startSeen = 0 ∧
        t.plc[i].slacMsgs = .parmCnf :: s.plc[i].slacMsgs ∧ OtherPoints i s t := by
  have hexec : exec (.cmSlacParmReq i r m 0) s = .next (slacSend i .parmCnf 1 [i.val, r, m, 10, 6, 1] (runStarted i r m s)) :=
    congrArg Host.Outcome.next (if_pos (by simp [-Fin.getElem_fin, hserved, hslac]))
  obtain ⟨n, l, hplc⟩ := slacSend_plc i .parmCnf 1 [i.val, r, m, 10, 6, 1] (runStarted i r m s)
  refine does_of_exec hexec (upd_execCmSlacParmReq i r m 0 s) ?_
  rw [hplc, runStarted, modPlc_plc_same]
  exact ⟨rfl, rfl, rfl, rfl, rfl, rfl, (otherPoints_modPlc i _ s).trans (otherPoints_slacSend i _ _ _ _)⟩

theorem cmSlacParmReq_idles {r m k : Nat} (h : slacServed s i = false ∨ k ≠ 0) : Idles (.cmSlacParmReq i r m k) s :=
  congrArg Host.Outcome.next (if_neg (by rcases h with h | h <;> simp [h]))

theorem cmStartAttenCharInd_counts (hserved : slacServed s i = true) (hslac : s.plc[i].slac = .sounding) :
    Does (.cmStartAttenCharInd i s.plc[i].runId) s [.plc] fun t =>
      t.plc = s.plc.set i { s.plc[i] with startSeen := s.plc[i].startSeen + 1 } := by
  have hexec : exec (.cmStartAttenCharInd i s.plc[i].runId) s = .next (s.modPlc i fun x => { x with startSeen := x.startSeen + 1 }) :=
    congrArg Host.Outcome.next (if_pos (by simp [-Fin.getElem_fin, hserved, hslac]))
  exact ⟨_, hexec, upd_modPlc .., rfl⟩

theorem cmStartAttenCharInd_idles {r : Nat} (h : s.plc[i].slac ≠ .sounding ∨ s.plc[i].runId ≠ r) : Idles (.cmStartAttenCharInd i r) s :=
  congrArg Host.Outcome.next (if_neg (by rcases h with h | h <;> simp [-Fin.getElem_fin, h]))

/-- The group means that go out, drawn where no report came (log entry 4), and the state after them. -/
def groupMeans (i : Fin 32) (s : State) : List Nat × State :=
  if s.plc[i].sounds.isEmpty then ((List.range 58).map fun g => (draw s).1 / 256 ^ g % 256, (draw s).2)
  else ((List.range 58).map fun g => roundMean (s.plc[i].sounds.map fun r => r.atten.getD g 0), s)

/-- SLAC waits for the vehicle's answer to the means, which are kept. -/
def meansKept (i : Fin 32) (means : List Nat) (s : State) : State :=
  s.modPlc i fun x => { x with slac := .waitAtten, attenInd := means, sends := 1 }

/-- The fields of CM_ATTEN_CHAR.IND. -/
def attenFields (i : Fin 32) (means : List Nat) (s : State) : List Nat := [i.val, s.plc[i].runId, s.plc[i].sounds.length] ++ means

theorem exec_slacSoundWindowEnd (hserved : slacServed s i = true) (hslac : s.plc[i].slac = .sounding)
    (hend : s.plc[i].startSeen ≠ 0 ∨ 10 ≤ s.plc[i].sounds.length) :
    exec (.slacSoundWindowEnd i) s = .next (slacSend i .attenInd 2 (attenFields i (groupMeans i s).1 s)
      (meansKept i (groupMeans i s).1 (groupMeans i s).2)) := by
  show execSlacSoundWindowEnd i s = _
  unfold execSlacSoundWindowEnd
  dsimp only
  rw [if_neg (by rcases hend with h | h <;> simp [-Fin.getElem_fin, hserved, hslac, h])]
  rfl

theorem slacSoundWindowEnd_sends (hserved : slacServed s i = true) (hslac : s.plc[i].slac = .sounding) (hsome : s.plc[i].sounds ≠ [])
    (hend : s.plc[i].startSeen ≠ 0 ∨ 10 ≤ s.plc[i].sounds.length) :
    Does (.slacSoundWindowEnd i) s [.ports, .plc] fun t =>
      t.plc[i].slac = .waitAtten ∧ t.plc[i].sends = 1 ∧ t.plc[i].slacMsgs = .attenInd :: s.plc[i].slacMsgs ∧ OtherPoints i s t ∧
        t.plc[i].attenInd = (List.range 58).map fun g => roundMean (s.plc[i].sounds.map fun r => r.atten.getD g 0) := by
  have hmeans : groupMeans i s = ((List.range 58).map fun g => roundMean (s.plc[i].sounds.map fun r => r.atten.getD g 0), s) :=
    if_neg (by simpa [-Fin.getElem_fin] using hsome)
  have hexec := exec_slacSoundWindowEnd hserved hslac hend
  rw [hmeans] at hexec
  refine ⟨_, hexec, .comp (upd_slacSend ..) rfl ((upd_modPlc ..).mono rfl), ?_⟩
  dsimp only
  generalize (List.range 58).map (fun g => roundMean (s.plc[i].sounds.map fun r => r.atten.getD g 0)) = means
  obtain ⟨n, l, hplc⟩ := slacSend_plc i .attenInd 2 (attenFields i means s) (meansKept i means s)
  rw [hplc, meansKept, modPlc_plc_same]
  exact ⟨rfl, rfl, rfl, (otherPoints_modPlc i _ s).trans (otherPoints_slacSend i _ _ _ _), rfl⟩

theorem slacSoundWindowEnd_sends_drawn (hserved : slacServed s i = true) (hslac : s.plc[i].slac = .sounding) (hnone : s.plc[i].sounds = [])
    (hseen : s.plc[i].startSeen ≠ 0) :
    Does (.slacSoundWindowEnd i) s [.ports, .plc, .freeCtr] fun t =>
      t.plc[i].slac = .waitAtten ∧ t.plc[i].sends = 1 ∧ t.plc[i].attenInd.length = 58 ∧ OtherPoints i s t := by
  have hmeans : groupMeans i s = ((List.range 58).map fun g => (draw s).1 / 256 ^ g % 256, (draw s).2) :=
    if_pos (by simp [-Fin.getElem_fin, hnone])
  have hlen : ((List.range 58).map fun g => (draw s).1 / 256 ^ g % 256).length = 58 := (List.length_map ..).trans List.length_range
  have hexec := exec_slacSoundWindowEnd hserved hslac (.inl hseen)
  rw [hmeans] at hexec
  refine does_of_exec hexec (upd_execSlacSoundWindowEnd i s) ?_
  dsimp only
  generalize (List.range 58).map (fun g => (draw s).1 / 256 ^ g % 256) = means at hlen ⊢
  obtain ⟨n, l, hplc⟩ := slacSend_plc i .attenInd 2 (attenFields i means s) (meansKept i means (draw s).2)
  rw [hplc, meansKept, modPlc_plc_same]
  have hdraw := (upd_draw s).otherPoints rfl i
  exact ⟨rfl, rfl, hlen, (hdraw.trans (otherPoints_modPlc i _ _)).trans (otherPoints_slacSend i _ _ _ _)⟩

/-! The answer of the vehicle (11 R388, Table 11.6). -/

theorem cmAttenCharRsp_answers (hserved : slacServed s i = true) (hslac : s.plc[i].slac = .waitAtten) :
    Does (.cmAttenCharRsp i s.plc[i].runId 0) s [.plc] fun t => t.plc = s.plc.set i { s.plc[i] with slac := .waitMatch } := by
  have hexec : exec (.cmAttenCharRsp i s.plc[i].runId 0) s = .next (s.modPlc i fun x => { x with slac := .waitMatch }) :=
    congrArg Host.Outcome.next (if_pos (by simp [-Fin.getElem_fin, hserved, hslac]))
  exact ⟨_, hexec, upd_modPlc .., rfl⟩

theorem cmAttenCharRsp_idles {r k : Nat} (h : s.plc[i].slac ≠ .waitAtten ∨ s.plc[i].runId ≠ r ∨ k ≠ 0) : Idles (.cmAttenCharRsp i r k) s :=
  congrArg Host.Outcome.next (if_neg (by rcases h with h | h | h <;> simp [-Fin.getElem_fin, h]))

/-- One more send of the means. -/
def resendCounted (i : Fin 32) (s : State) : State := s.modPlc i fun x => { x with sends := x.sends + 1 }

theorem cmAttenCharResend_resends (hserved : slacServed s i = true) (hslac : s.plc[i].slac = .waitAtten) (hfew : s.plc[i].sends < 3) :
    Does (.cmAttenCharResend i) s [.ports, .plc] fun t =>
      t.plc[i].sends = s.plc[i].sends + 1 ∧ t.plc[i].slac = .waitAtten ∧ t.plc[i].attenInd = s.plc[i].attenInd ∧
        t.plc[i].slacMsgs = .attenInd :: s.plc[i].slacMsgs ∧ OtherPoints i s t := by
  have hexec : exec (.cmAttenCharResend i) s =
      .next (slacSend i .attenInd 2 (attenFields i s.plc[i].attenInd s) (resendCounted i s)) :=
    congrArg Host.Outcome.next ((if_neg (by simp [-Fin.getElem_fin, hserved, hslac])).trans (if_pos hfew))
  obtain ⟨n, l, hplc⟩ := slacSend_plc i .attenInd 2 (attenFields i s.plc[i].attenInd s) (resendCounted i s)
  refine ⟨_, hexec, .comp (upd_slacSend ..) rfl ((upd_modPlc ..).mono rfl), ?_⟩
  dsimp only
  rw [hplc, resendCounted, modPlc_plc_same]
  exact ⟨rfl, hslac, rfl, rfl, (otherPoints_modPlc i _ s).trans (otherPoints_slacSend i _ _ _ _)⟩

/-! The match (11 R375, R389). -/

/-- The SNID drawn for a match. -/
def snidDrawn (i : Fin 32) (s : State) : Nat := (s.plc[i].snid + 1 + Config.freeValue (s.freeCtr + 1 + 1) % 15) % 16

theorem snidDrawn_ne (i : Fin 32) (s : State) : snidDrawn i s ≠ s.plc[i].snid := by
  unfold snidDrawn
  omega

/-- The point has a network, with the keys drawn for it. -/
def matchMade (i : Fin 32) (s : State) : State :=
  (draw (draw (draw s).2).2).2.modPlc i fun x =>
    { x with slac := .waitJoin, nmk := Config.freeValue s.freeCtr % 2 ^ 128, nek := Config.freeValue (s.freeCtr + 1) % 2 ^ 128
             snid := snidDrawn i s, netValid := true }

/-- The head of the point is told its network. -/
def netSent (i : Fin 32) (s : State) : State := tunnelMsg i 0 (bytesLE 8 (netDesc 1 (snidDrawn i s) true)) (matchMade i s)

theorem netSent_plc (i : Fin 32) (s : State) : (netSent i s).plc[i] =
    { s.plc[i] with
      slac := .waitJoin, nmk := Config.freeValue s.freeCtr % 2 ^ 128, nek := Config.freeValue (s.freeCtr + 1) % 2 ^ 128
      snid := snidDrawn i s, netValid := true } := by
  rw [netSent, (upd_tunnelMsg ..).plc rfl, matchMade, modPlc_plc_same]
  rfl

theorem upd_draws (s : State) : Upd [.freeCtr] s (draw (draw (draw s).2).2).2 := .comp (upd_draw _) rfl (.comp (upd_draw _) rfl (upd_draw s))

theorem upd_netSent (i : Fin 32) (s : State) : Upd [.ports, .plc, .freeCtr] s (netSent i s) :=
  .comp (upd_tunnelMsg ..) rfl (.comp (upd_modPlc ..) rfl ((upd_draws s).mono rfl))

theorem otherPoints_netSent (i : Fin 32) (s : State) : OtherPoints i s (netSent i s) :=
  (((upd_draws s).otherPoints rfl i).trans (otherPoints_modPlc i _ _)).trans ((upd_tunnelMsg ..).otherPoints rfl i)

theorem cmSlacMatchReq_matches (hserved : slacServed s i = true) (hslac : s.plc[i].slac = .waitMatch) (hdrbg : drbgOk s = true) :
    Does (.cmSlacMatchReq i s.plc[i].runId 0) s [.ports, .plc, .freeCtr] fun t =>
      t.plc[i].slac = .waitJoin ∧ t.plc[i].netValid = true ∧ t.plc[i].snid < 16 ∧ (s.plc[i].snid < 16 → t.plc[i].snid ≠ s.plc[i].snid) ∧
        t.plc[i].nmk = Config.freeValue s.freeCtr % 2 ^ 128 ∧ t.plc[i].nek = Config.freeValue (s.freeCtr + 1) % 2 ^ 128 ∧
        t.plc[i].slacMsgs = .matchCnf :: s.plc[i].slacMsgs ∧ OtherPoints i s t := by
  have hexec : exec (.cmSlacMatchReq i s.plc[i].runId 0) s = .next (slacSend i .matchCnf 3
      [i.val, s.plc[i].runId, Config.freeValue s.freeCtr % 2 ^ 128, snidDrawn i s] (netSent i s)) :=
    congrArg Host.Outcome.next ((if_neg (by simp [-Fin.getElem_fin, hserved, hslac])).trans (if_neg (by simp [hdrbg])))
  obtain ⟨n, l, hplc⟩ := slacSend_plc i .matchCnf 3 [i.val, s.plc[i].runId, Config.freeValue s.freeCtr % 2 ^ 128, snidDrawn i s] (netSent i s)
  refine ⟨_, hexec, .comp (upd_slacSend ..) rfl (upd_netSent i s), ?_⟩
  dsimp only
  rw [hplc, netSent_plc]
  exact ⟨rfl, rfl, Nat.mod_lt _ (by decide), fun _ => snidDrawn_ne i s, rfl, rfl, rfl,
    (otherPoints_netSent i s).trans (otherPoints_slacSend i _ _ _ _)⟩

theorem cmSlacMatchReq_idles {r k : Nat} (h : s.plc[i].slac ≠ .waitMatch ∨ s.plc[i].runId ≠ r ∨ k ≠ 0) : Idles (.cmSlacMatchReq i r k) s :=
  congrArg Host.Outcome.next (if_pos (by rcases h with h | h | h <;> simp [-Fin.getElem_fin, h]))

theorem cmValidateReq_answers (hserved : slacServed s i = true) :
    Does (.cmValidateReq i) s [.ports, .plc] fun t =>
      t.plc[i].slac = s.plc[i].slac ∧ t.plc[i].slacMsgs = .validateCnf :: s.plc[i].slacMsgs ∧ OtherPoints i s t := by
  have hexec : exec (.cmValidateReq i) s = .next (slacSend i .validateCnf 4 [i.val] s) := congrArg Host.Outcome.next (if_pos hserved)
  obtain ⟨n, l, hplc⟩ := slacSend_plc i .validateCnf 4 [i.val] s
  refine ⟨_, hexec, upd_slacSend .., ?_⟩
  dsimp only
  rw [hplc]
  exact ⟨rfl, rfl, otherPoints_slacSend i _ _ _ _⟩

/-! The vehicle joins (11 Table 11.6; 12 R406). -/

/-- The vehicle's station is in the network and has its key. -/
def stationJoined (i : Fin 32) (e : Nat) (s : State) : State :=
  slacSend i .nekCnf 5 [i.val, e] (s.modPlc i fun x => { x with slac := .matched, joinTei := e % 256 })

/-- Event 0x4201, and duplicate address detection. -/
def joinNoted (i : Fin 32) (arg : Nat) (s : State) : State :=
  sendMessage i 0x200 (hubAddr (raise 0x4201 4 i.val arg s) i) (raise 0x4201 4 i.val arg s)

theorem upd_stationJoined (i : Fin 32) (e : Nat) (s : State) : Upd [.ports, .plc] s (stationJoined i e s) :=
  .comp (upd_slacSend ..) rfl ((upd_modPlc ..).mono rfl)

theorem joinNoted_plc (i : Fin 32) (e arg : Nat) (s : State) :
    (joinNoted i arg (stationJoined i e s)).plc[i].slac = .matched ∧ (joinNoted i arg (stationJoined i e s)).plc[i].joinTei = e % 256 := by
  obtain ⟨n, l, hplc⟩ := (linkSends_sendMessage i 0x200 (hubAddr (raise 0x4201 4 i.val arg (stationJoined i e s)) i)
    (raise 0x4201 4 i.val arg (stationJoined i e s))).same
  obtain ⟨m, k, hjoin⟩ := slacSend_plc i .nekCnf 5 [i.val, e] (s.modPlc i fun x => { x with slac := .matched, joinTei := e % 256 })
  rw [joinNoted, hplc, raise_plc, stationJoined, hjoin, modPlc_plc_same]
  exact ⟨rfl, rfl⟩

theorem joinNoted_ses (i : Fin 32) (e arg : Nat) (s : State) : (joinNoted i arg (stationJoined i e s)).ses = s.ses := by
  rw [joinNoted, (upd_sendMessage ..).ses rfl, raise_ses, (upd_stationJoined ..).ses rfl]

theorem joinNoted_ev (i : Fin 32) (e arg : Nat) (s : State) : (joinNoted i arg (stationJoined i e s)).ev = (raise 0x4201 4 i.val arg s).ev := by
  rw [joinNoted, (upd_sendMessage ..).ev rfl]
  exact (upd_stationJoined i e s).raise_ev rfl rfl rfl rfl ..

theorem otherPoints_joinNoted (i : Fin 32) (e arg : Nat) (s : State) : OtherPoints i s (joinNoted i arg (stationJoined i e s)) := by
  have hjoin : OtherPoints i s (stationJoined i e s) := (otherPoints_modPlc i _ s).trans (otherPoints_slacSend i _ _ _ _)
  exact (hjoin.trans (otherPoints_raise i _ _ _ _ _)).trans (otherPoints_sendMessage i _ _ _)

theorem slacJoin_joins {e ms : Nat} (hserved : slacServed s i = true) (hslac : s.plc[i].slac = .waitJoin) :
    Does (.slacJoin i e ms) s [.ports, .plc, .ses, .ev, .sen] fun t =>
      t.plc[i].slac = .matched ∧ t.plc[i].joinTei = e % 256 ∧ t.ses[i].dad = true ∧
        t.ses[i].stage = (if s.ses[i].stage = .link then .sdp else s.ses[i].stage) ∧ OtherPoints i s t ∧
        t.ev = (raise 0x4201 4 i.val (s.plc[i].sounds.length * 2 ^ 24 + roundMean s.plc[i].attenInd * 2 ^ 16 + min ms 65535) s).ev := by
  have hexec : exec (.slacJoin i e ms) s = .next
      ((joinNoted i (s.plc[i].sounds.length * 2 ^ 24 + roundMean s.plc[i].attenInd * 2 ^ 16 + min ms 65535) (stationJoined i e s)).modSes i
        fun y => { y with stage := if y.stage = .link then .sdp else y.stage, dad := true }) :=
    congrArg Host.Outcome.next (if_neg (by simp [-Fin.getElem_fin, hserved, hslac]))
  refine does_of_exec hexec (upd_execSlacJoin i e ms s) ?_
  generalize s.plc[i].sounds.length * 2 ^ 24 + roundMean s.plc[i].attenInd * 2 ^ 16 + min ms 65535 = arg
  obtain ⟨hmatched, htei⟩ := joinNoted_plc i e arg s
  rw [modSes_ses_same, joinNoted_ses]
  exact ⟨hmatched, htei, rfl, rfl, (otherPoints_joinNoted i e arg s).trans (otherPoints_modSes i _ _), joinNoted_ev ..⟩

theorem slacJoin_idles {e ms : Nat} (h : s.plc[i].slac ≠ .waitJoin) : Idles (.slacJoin i e ms) s :=
  congrArg Host.Outcome.next (if_pos (by simp [-Fin.getElem_fin, h]))

end

/-- Settles O30: each step of the matching changes the link of its point as 11 Table 11.6 says and answers in its tunnel. -/
theorem slacMatching : Obligations.SlacMatching := by
  unfold Obligations.SlacMatching
  exact ⟨fun _ _ _ _ => cmSlacParmReq_starts, fun _ _ _ _ _ => cmSlacParmReq_idles, fun _ _ => cmStartAttenCharInd_counts,
    fun _ _ _ => cmStartAttenCharInd_idles, fun _ _ => slacSoundWindowEnd_sends, fun _ _ => slacSoundWindowEnd_sends_drawn,
    fun _ _ => cmAttenCharRsp_answers, fun _ _ _ _ => cmAttenCharRsp_idles, fun _ _ => cmAttenCharResend_resends,
    fun _ _ => cmSlacMatchReq_matches, fun _ _ _ _ => cmSlacMatchReq_idles, fun _ _ => cmValidateReq_answers, fun _ _ _ _ => slacJoin_joins,
    fun _ _ _ _ => slacJoin_idles⟩

end Sys2Proof.Machine
end

section
/-! SUPPORT. A point loses its connection, its network or ISO 15118: what stands of its link and its session, and of the other points
(11 R389; 12 R415, R428, R433, Table 12.4). -/

namespace Sys2Proof.Machine

/-! Every other point keeps its link, its pilot and its stage. -/

theorem OtherLinks.trans {i : Fin 32} {s t u : State} (h : OtherLinks i s t) (g : OtherLinks i t u) : OtherLinks i s u := by
  intro j hj
  obtain ⟨hplc, hcp, hstage⟩ := h j hj
  obtain ⟨gplc, gcp, gstage⟩ := g j hj
  exact ⟨gplc.trans hplc, gcp.trans hcp, gstage.trans hstage⟩

theorem OtherPoints.otherLinks {i : Fin 32} {s t : State} (h : OtherPoints i s t) : OtherLinks i s t := by
  intro j hj
  obtain ⟨_, hcp, hses, hplc, _⟩ := h j hj
  exact ⟨hplc, hcp, congrArg PtSes.stage hses⟩

section
variable (i : Fin 32) (s : State)

/-! The connection closes (12 Table 12.4). -/

/-- A handshake slot that is freed goes to another point, whose stage stays. -/
theorem freeHandshake_stage (j : Fin 32) : (freeHandshake i s).ses[j].stage = s.ses[j].stage := by
  unfold freeHandshake
  split
  · rfl
  · dsimp only
    split
    · rfl
    · split
      next p _ =>
        by_cases hj : j = p
        · subst hj
          rw [modSes_ses_same]
          rfl
        · rw [modSes_ses_other hj]
          rfl
      next => rfl

/-- The connection's slot and keys are freed, and what it brought is forgotten. -/
def connFreed : State :=
  ((dropSesKeys i (freeHandshake i s)).modPlc i fun x => { x with rx := [] }).modCp i fun x => { x with veh := none }

theorem connFreed_plc : (connFreed i s).plc[i] = { s.plc[i] with rx := [] } := by
  rw [connFreed, State.modCp_plc, modPlc_plc_same, (upd_dropSesKeys ..).plc rfl, (upd_freeHandshake ..).plc rfl]

theorem connFreed_stage (j : Fin 32) : (connFreed i s).ses[j].stage = s.ses[j].stage := by
  rw [connFreed, State.modCp_ses, State.modPlc_ses, (upd_dropSesKeys ..).ses rfl, freeHandshake_stage]

theorem otherLinks_connFreed : OtherLinks i s (connFreed i s) := by
  refine fun j hj => ⟨?_, ?_, connFreed_stage i s j⟩
  · rw [connFreed, State.modCp_plc, modPlc_plc_other hj, (upd_dropSesKeys ..).plc rfl, (upd_freeHandshake ..).plc rfl]
  · rw [connFreed, modCp_cp_other hj, State.modPlc_cp, (upd_dropSesKeys ..).cp rfl, (upd_freeHandshake ..).cp rfl]

/-- What the end of a connection makes of its session. -/
def sesClosed (matched : Bool) (x : PtSes) : PtSes :=
  { x with tcpOpen := false, retrans := 0, helloRetry := false, tls := 0, stalled := false, authSince := false, chainOk := false
           pnc := false, eim := false, reneg := false, notify := false, hs := 0, idSet := false, authBad := false
           stage := if x.stage = .idle || x.stage = .basic then x.stage else if matched then .sdp else .link }

theorem closeConn_eq : closeConn i s = (connFreed i s).modSes i (sesClosed (decide ((connFreed i s).plc[i].slac = .matched))) := by
  unfold closeConn connFreed sesClosed
  simp only [decide_eq_true_eq]

theorem closeConn_plc : (closeConn i s).plc[i] = { s.plc[i] with rx := [] } := by
  rw [closeConn_eq, State.modSes_plc, connFreed_plc]

theorem closeConn_tcpOpen : (closeConn i s).ses[i].tcpOpen = false := by
  rw [closeConn_eq, modSes_ses_same]
  rfl

theorem closeConn_stage_idle : (closeConn i s).ses[i].stage = .idle ↔ s.ses[i].stage = .idle := by
  rw [closeConn_eq, modSes_ses_same, sesClosed, connFreed_stage]
  dsimp only
  split
  case isTrue => exact Iff.rfl
  case isFalse hlive =>
    refine iff_of_false ?_ fun hidle => hlive (by simp [-Fin.getElem_fin, hidle])
    split
    · exact nofun
    · exact nofun

theorem otherLinks_closeConn : OtherLinks i s (closeConn i s) := by
  rw [closeConn_eq]
  exact (otherLinks_connFreed i s).trans (otherPoints_modSes i _ _).otherLinks

/-! ISO 15118 is withdrawn for the plug-in (12 R411, R436). -/

theorem toBasic_plc : (toBasic i s).plc[i] = { s.plc[i] with rx := [] } := closeConn_plc i s

theorem toBasic_stage : (toBasic i s).ses[i].stage = if s.ses[i].stage = .idle then .idle else .basic := by
  unfold toBasic
  dsimp only
  rw [modSes_ses_same]
  simp only [State.modSesSys_ses, closeConn_stage_idle]

theorem otherLinks_toBasic : OtherLinks i s (toBasic i s) :=
  (otherLinks_closeConn i s).trans (otherPoints_modSes i _ _).otherLinks

/-! The network is left (11 R375, R389; 12 R415). -/

/-- The head of a point that has a network is told that it has none. -/
def netUnset : State := if s.plc[i].netValid then tunnelMsg i 0 (bytesLE 8 (netDesc 1 s.plc[i].snid false)) s else s

theorem netClear_eq : netClear i s = (netUnset i s).modPlc i fun x =>
    { x with nmk := 0, nek := 0, netValid := false, joinTei := 0, beacons := 0, held := [] } := rfl

theorem upd_netUnset : Upd [.ports] s (netUnset i s) := .ite (upd_tunnelMsg ..) (.refl ..)

theorem netClear_plc : (netClear i s).plc[i] =
    { s.plc[i] with nmk := 0, nek := 0, netValid := false, joinTei := 0, beacons := 0, held := [] } := by
  rw [netClear_eq, modPlc_plc_same, (upd_netUnset i s).plc rfl]

theorem otherPoints_netClear : OtherPoints i s (netClear i s) :=
  ((upd_netUnset i s).otherPoints rfl i).trans (otherPoints_modPlc i _ _)

/-- A session that has something to end is to end with a reason. -/
def sesEnding : State := if bound s i || (startWaits s i).isSome || s.ses[i].tcpOpen then endSes i 16 s else s

theorem linkLost_eq : linkLost i s = (closeConn i (sesEnding i s)).modSes i fun x =>
    { x with stage := if x.stage = .idle || x.stage = .basic then x.stage else .link } := rfl

theorem upd_sesEnding : Upd [.ses] s (sesEnding i s) := .ite (upd_endSes ..) (.refl ..)

theorem otherPoints_sesEnding : OtherPoints i s (sesEnding i s) := by
  unfold sesEnding endSes
  split
  · dsimp only
    split
    · exact otherPoints_modSes i _ s
    · exact fun j _ => PointStands.refl j s
  · exact fun j _ => PointStands.refl j s

theorem linkLost_plc : (linkLost i s).plc[i] = { s.plc[i] with rx := [] } := by
  rw [linkLost_eq, State.modSes_plc, closeConn_plc, (upd_sesEnding ..).plc rfl]

theorem linkLost_tcpOpen : (linkLost i s).ses[i].tcpOpen = false := by
  rw [linkLost_eq, modSes_ses_same]
  exact closeConn_tcpOpen ..

theorem otherLinks_linkLost : OtherLinks i s (linkLost i s) :=
  ((otherPoints_sesEnding i s).otherLinks.trans (otherLinks_closeConn i _)).trans (otherPoints_modSes i _ _).otherLinks

end

end Sys2Proof.Machine
end

section
/-! PROOF. How SLAC fails and falls back, and how a matched network is left (11 R388, R389, Table 11.6; 12 R415). -/

namespace Sys2Proof.Machine

/-! FALLBACK. -/

/-- The link is in FALLBACK, with event 0x4203. -/
def fallbackNoted (i : Fin 32) (s : State) : State :=
  raise 0x4203 4 i.val s.plc[i].failures (s.modPlc i fun x => { x with slac := .fallback })

section
variable (i : Fin 32) (s : State)

theorem slacFallback_eq : slacFallback i s = toBasic i (fallbackNoted i s) := rfl

theorem slacFallback_plc : (slacFallback i s).plc[i] = { s.plc[i] with slac := .fallback, rx := [] } := by
  rw [slacFallback_eq, toBasic_plc, fallbackNoted, raise_plc, modPlc_plc_same]

theorem slacFallback_stage : (slacFallback i s).ses[i].stage = if s.ses[i].stage = .idle then .idle else .basic := by
  rw [slacFallback_eq, toBasic_stage, fallbackNoted, raise_ses, State.modPlc_ses]

theorem slacFallback_ev : (slacFallback i s).ev = (raise 0x4203 4 i.val s.plc[i].failures s).ev := by
  rw [slacFallback_eq, (upd_toBasic ..).ev rfl]
  exact (upd_modPlc ..).raise_ev rfl rfl rfl rfl ..

theorem otherLinks_slacFallback : OtherLinks i s (slacFallback i s) := by
  have hnote : OtherPoints i s (fallbackNoted i s) := (otherPoints_modPlc i _ s).trans (otherPoints_raise i _ _ _ _ _)
  exact hnote.otherLinks.trans (otherLinks_toBasic i _)

end

/-! A failure (11 R389). -/

/-- The failure is counted and what the run brought is forgotten. -/
def runFailed (i : Fin 32) (s : State) : State :=
  s.modPlc i fun x => { x with failures := min 3 (x.failures + 1), slac := .waitParm, runId := 0, sounds := [], startSeen := 0, sends := 0 }

/-- The failure is counted, with event 0x4202. -/
def failureNoted (i : Fin 32) (reason : Nat) (s : State) : State := raise 0x4202 4 i.val reason (runFailed i s)

section
variable (i : Fin 32) (reason : Nat) (s : State)

theorem failureNoted_plc : (failureNoted i reason s).plc[i] =
    { s.plc[i] with failures := min 3 (s.plc[i].failures + 1), slac := .waitParm, runId := 0, sounds := [], startSeen := 0, sends := 0 } := by
  rw [failureNoted, raise_plc, runFailed, modPlc_plc_same]

theorem failureNoted_failures : (failureNoted i reason s).plc[i].failures = min 3 (s.plc[i].failures + 1) :=
  congrArg PtPlc.failures (failureNoted_plc ..)

theorem otherLinks_failureNoted : OtherLinks i s (failureNoted i reason s) :=
  ((otherPoints_modPlc i _ s).trans (otherPoints_raise i _ _ _ _ _)).otherLinks

/-- The third failure leads to FALLBACK. -/
theorem slacFail_eq :
    slacFail i reason s = if 2 ≤ s.plc[i].failures then slacFallback i (failureNoted i reason s) else failureNoted i reason s := by
  have hthird : (failureNoted i reason s).plc[i].failures = 3 ↔ 2 ≤ s.plc[i].failures := by
    rw [failureNoted_failures]
    omega
  exact if_congr hthird rfl rfl

/-- The link of the point after a failure. -/
theorem slacFail_plc : (slacFail i reason s).plc[i] = { s.plc[i] with
    failures := min 3 (s.plc[i].failures + 1), slac := if 2 ≤ s.plc[i].failures then .fallback else .waitParm
    runId := 0, sounds := [], startSeen := 0, sends := 0, rx := if 2 ≤ s.plc[i].failures then [] else s.plc[i].rx } := by
  rw [slacFail_eq]
  split
  · rw [slacFallback_plc, failureNoted_plc]
  · rw [failureNoted_plc]

theorem slacFail_stage (h : 2 ≤ s.plc[i].failures) :
    (slacFail i reason s).ses[i].stage = if s.ses[i].stage = .idle then .idle else .basic := by
  rw [slacFail_eq, if_pos h, slacFallback_stage, failureNoted, raise_ses, runFailed, State.modPlc_ses]

theorem slacFail_ev : (slacFail i reason s).ev =
    (raiseIf (decide (2 ≤ s.plc[i].failures)) 0x4203 4 i.val 3 (raise 0x4202 4 i.val reason s)).ev := by
  have hrun : Upd [.plc] s (runFailed i s) := upd_modPlc ..
  rw [slacFail_eq, ← hrun.lockEvents rfl rfl rfl rfl]
  split
  case isTrue h =>
    have hthree : min 3 (s.plc[i].failures + 1) = 3 := by omega
    rw [slacFallback_ev, failureNoted_failures, hthree, decide_eq_true h]
    rfl
  case isFalse h =>
    rw [decide_eq_false h]
    rfl

theorem otherLinks_slacFail : OtherLinks i s (slacFail i reason s) := by
  rw [slacFail_eq]
  split
  · exact (otherLinks_failureNoted i reason s).trans (otherLinks_slacFallback i _)
  · exact otherLinks_failureNoted i reason s

theorem slacFailed_slacFail : SlacFailed i reason s (slacFail i reason s) := by
  unfold SlacFailed
  rw [slacFail_plc]
  exact ⟨rfl, rfl, rfl, rfl, rfl, slacFail_stage i reason s, slacFail_ev i reason s, otherLinks_slacFail i reason s⟩

end

section
variable {i : Fin 32} {reason how : Nat} {s u t : State}

/-- A failure after the network has been left is a failure of the state before. -/
theorem SlacFailed.of_before (h : SlacFailed i reason u t) (hu : Upd [.ports, .plc] s u) (ho : OtherPoints i s u)
    (hfailures : u.plc[i].failures = s.plc[i].failures) : SlacFailed i reason s t := by
  obtain ⟨hcount, hrun, hsounds, hseen, hslac, hstage, hev, hlinks⟩ := h
  rw [hfailures] at hcount hslac hstage hev
  rw [hu.ses rfl] at hstage
  exact ⟨hcount, hrun, hsounds, hseen, hslac, hstage, hev.trans (hu.lockEvents rfl rfl rfl rfl ..), ho.otherLinks.trans hlinks⟩

/-- A command that fails the matching of its point. -/
theorem does_slacFail {c : Instr} (hexec : exec c s = .next (slacFail i reason s)) :
    Does c s [.keys, .cp, .plc, .ses, .sesSys, .ev, .sen] fun t => SlacFailed i reason s t :=
  ⟨_, hexec, upd_slacFail .., slacFailed_slacFail ..⟩

theorem cmAttenCharResend_fails (hserved : slacServed s i = true) (hslac : s.plc[i].slac = .waitAtten) (hsends : 3 ≤ s.plc[i].sends) :
    Does (.cmAttenCharResend i) s [.keys, .cp, .plc, .ses, .sesSys, .ev, .sen] fun t => SlacFailed i 3 s t :=
  does_slacFail (congrArg Host.Outcome.next ((if_neg (by simp [-Fin.getElem_fin, hserved, hslac])).trans (if_neg (Nat.not_lt.mpr hsends))))

theorem cmSlacMatchReq_fails (hserved : slacServed s i = true) (hslac : s.plc[i].slac = .waitMatch) (hdrbg : drbgOk s = false) :
    Does (.cmSlacMatchReq i s.plc[i].runId 0) s [.keys, .cp, .plc, .ses, .sesSys, .ev, .sen] fun t => SlacFailed i 4 s t :=
  does_slacFail (congrArg Host.Outcome.next ((if_neg (by simp [-Fin.getElem_fin, hserved, hslac])).trans (if_pos (by simp [hdrbg]))))

theorem slacNoSoundingTimeout_fails (hslac : s.plc[i].slac = .sounding) (hseen : s.plc[i].startSeen = 0) :
    Does (.slacNoSoundingTimeout i) s [.keys, .cp, .plc, .ses, .sesSys, .ev, .sen] fun t => SlacFailed i 2 s t :=
  does_slacFail (congrArg Host.Outcome.next (if_pos (by simp [-Fin.getElem_fin, hslac, hseen])))

theorem slacMatchTimeout_fails (hslac : s.plc[i].slac = .waitMatch) :
    Does (.slacMatchTimeout i) s [.keys, .cp, .plc, .ses, .sesSys, .ev, .sen] fun t => SlacFailed i 4 s t :=
  does_slacFail (congrArg Host.Outcome.next (if_pos hslac))

theorem slacJoinTimeout_fails (hslac : s.plc[i].slac = .waitJoin) :
    Does (.slacJoinTimeout i) s [.keys, .ports, .cp, .plc, .ses, .sesSys, .ev, .sen] fun t =>
      SlacFailed i 5 s t ∧ t.plc[i].netValid = false ∧ t.plc[i].nmk = 0 ∧ t.plc[i].nek = 0 := by
  have hexec : exec (.slacJoinTimeout i) s = .next (slacFail i 5 (netClear i s)) := congrArg Host.Outcome.next (if_pos hslac)
  have hfailures : (netClear i s).plc[i].failures = s.plc[i].failures := by
    rw [netClear_plc]
  refine does_of_exec hexec (upd_execSlacJoinTimeout i s) ⟨?_, ?_⟩
  · exact (slacFailed_slacFail i 5 _).of_before (upd_netClear i s) (otherPoints_netClear i s) hfailures
  · rw [slacFail_plc, netClear_plc]
    exact ⟨rfl, rfl, rfl⟩

theorem slacInitTimeout_falls_back (hserved : slacServed s i = true) (hslac : s.plc[i].slac = .waitParm) :
    Does (.slacInitTimeout i) s [.keys, .cp, .plc, .ses, .sesSys, .ev, .sen] fun t =>
      t.plc[i].slac = .fallback ∧ t.plc[i].failures = s.plc[i].failures ∧ t.ev = (raise 0x4203 4 i.val s.plc[i].failures s).ev ∧
        t.ses[i].stage = (if s.ses[i].stage = .idle then .idle else .basic) ∧ OtherLinks i s t := by
  have hexec : exec (.slacInitTimeout i) s = .next (slacFallback i s) :=
    congrArg Host.Outcome.next (if_pos (by simp [-Fin.getElem_fin, hserved, hslac]))
  refine does_of_exec hexec (upd_execSlacInitTimeout i s) ?_
  rw [slacFallback_plc]
  exact ⟨rfl, rfl, slacFallback_ev i s, slacFallback_stage i s, otherLinks_slacFallback i s⟩

/-! The network is left (11 Table 11.6). -/

/-- The network of the point is gone and SLAC waits again. -/
def netGone (i : Fin 32) (s : State) : State :=
  (netClear i s).modPlc i fun x => { x with slac := .waitParm, runId := 0, sounds := [], startSeen := 0, sends := 0 }

theorem upd_netGone (i : Fin 32) (s : State) : Upd [.ports, .plc] s (netGone i s) := .comp (upd_modPlc ..) rfl (upd_netClear ..)

theorem netLeft_eq (hslac : s.plc[i].slac = .matched) : netLeft i how s = linkLost i (raise 0x4204 4 i.val how (netGone i s)) :=
  if_neg (not_not.mpr hslac)

theorem slacLeft_netLeft (hslac : s.plc[i].slac = .matched) : SlacLeft i how s (netLeft i how s) := by
  have hgone : OtherPoints i s (netGone i s) := (otherPoints_netClear i s).trans (otherPoints_modPlc i _ _)
  unfold SlacLeft
  rw [netLeft_eq hslac, linkLost_plc, raise_plc, netGone, modPlc_plc_same, netClear_plc, ← netGone, (upd_linkLost ..).ev rfl]
  exact ⟨rfl, rfl, rfl, rfl, rfl, linkLost_tcpOpen .., (upd_netGone i s).raise_ev rfl rfl rfl rfl ..,
    (hgone.trans (otherPoints_raise i _ _ _ _ _)).otherLinks.trans (otherLinks_linkLost i _)⟩

theorem netLeft_of_unmatched (hslac : s.plc[i].slac ≠ .matched) : netLeft i how s = s := if_pos hslac

theorem slacTimeouts_idle_matched (hslac : s.plc[i].slac = .matched) : Idles (.slacNoSoundingTimeout i) s ∧ Idles (.slacMatchTimeout i) s ∧
    Idles (.slacJoinTimeout i) s ∧ Idles (.slacInitTimeout i) s := by
  refine ⟨congrArg Host.Outcome.next (if_neg ?_), congrArg Host.Outcome.next (if_neg ?_), congrArg Host.Outcome.next (if_neg ?_),
    congrArg Host.Outcome.next (if_neg ?_)⟩
  all_goals simp [-Fin.getElem_fin, hslac]

end

/-- Settles O31: each time-out runs the one failure of 11 R389, whose third falls back as the time-out of 40 s does; a network is left in one
way, whether the station leaves or is silent. -/
theorem slacFailures : Obligations.SlacFailures := by
  unfold Obligations.SlacFailures
  exact ⟨fun _ _ => cmAttenCharResend_fails, fun _ _ => cmSlacMatchReq_fails, fun _ _ => slacNoSoundingTimeout_fails,
    fun _ _ => slacMatchTimeout_fails, fun _ _ => slacJoinTimeout_fails, fun _ _ => slacInitTimeout_falls_back,
    fun _ _ h => ⟨_, rfl, upd_netLeft .., slacLeft_netLeft h⟩, fun _ _ h => ⟨_, rfl, upd_netLeft .., slacLeft_netLeft h⟩,
    fun _ _ => slacTimeouts_idle_matched,
    fun _ _ h => ⟨congrArg Host.Outcome.next (netLeft_of_unmatched h), congrArg Host.Outcome.next (netLeft_of_unmatched h)⟩⟩

end Sys2Proof.Machine
end

section
/-! SUPPORT. The event unit under steps that it does not read, and what the end of a connection and a strike make of a session (12 R412, R436,
Tables 12.4, 12.9). -/

namespace Sys2Proof.Machine

/-! The event unit and what it reads (22 R745). -/

/-- Two states agree on the event unit and on what it reads when an event is raised. -/
structure EventsAgree (s t : State) : Prop where
  ev : t.ev = s.ev
  elec : t.elec = s.elec
  clk : t.clk = s.clk
  mono : t.sen.mono = s.sen.mono

section
variable {s t u : State}

theorem EventsAgree.refl (s : State) : EventsAgree s s := ⟨rfl, rfl, rfl, rfl⟩

theorem EventsAgree.trans (h : EventsAgree s t) (g : EventsAgree t u) : EventsAgree s u :=
  ⟨g.ev.trans h.ev, g.elec.trans h.elec, g.clk.trans h.clk, g.mono.trans h.mono⟩

theorem Upd.eventsAgree {P : List Part} (h : Upd P s t) (hev : P.contains .ev = false) (hel : P.contains .elec = false)
    (hclk : P.contains .clk = false) (hsen : P.contains .sen = false) : EventsAgree s t :=
  ⟨h.ev hev, h.elec hel, h.clk hclk, by rw [h.sen hsen]⟩

/-- Agreement outlasts an event. -/
theorem EventsAgree.raise (h : EventsAgree s t) (code src pt arg : Nat) : EventsAgree (raise code src pt arg s) (raise code src pt arg t) := by
  have hmono : OffBuffer Sen.mono := fun _ _ _ => rfl
  refine ⟨raise_ev_congr h.ev h.elec ?_ ?_ ?_ h.mono, ?_, ?_, ?_⟩
  · rw [h.clk]
  · rw [h.clk]
  · rw [h.clk]
  · rw [raise_elec, raise_elec, h.elec]
  · rw [raise_clk, raise_clk, h.clk]
  · rw [raise_sen_read hmono, raise_sen_read hmono, h.mono]

theorem EventsAgree.raiseIf (h : EventsAgree s t) (c : Bool) (code src pt arg : Nat) :
    EventsAgree (raiseIf c code src pt arg s) (raiseIf c code src pt arg t) := by
  cases c with
  | true => exact h.raise ..
  | false => exact h

end

/-! The end of a session is decided (12 R414). -/

section
variable (i : Fin 32) (reason : Nat) (s : State)

/-- The first reason decided stands. -/
theorem endSes_ses : ∃ e, (endSes i reason s).ses[i] = { s.ses[i] with ended := e } ∧ (s.ses[i].ended.isSome → e = s.ses[i].ended) := by
  unfold endSes
  dsimp only
  split
  next h =>
    refine ⟨some reason, modSes_ses_same .., fun hsome => ?_⟩
    rw [Bool.and_eq_true, Option.isNone_iff_eq_none] at h
    rw [h.2] at hsome
    cases hsome
  next => exact ⟨s.ses[i].ended, rfl, fun _ => rfl⟩

theorem endSes_ended (hlive : s.led.binds[i].isSome = true ∨ s.ses[i].tcpOpen = true) : (endSes i reason s).ses[i] =
    { s.ses[i] with ended := if s.ses[i].ended.isSome then s.ses[i].ended else some reason } := by
  have hends : (s.led.binds[i].isSome || s.ses[i].tcpOpen || s.gates.bindInlet.any fun b => b.point == i.val && b.ending.isNone) = true := by
    rcases hlive with h | h <;> simp [-Fin.getElem_fin, h]
  unfold endSes
  dsimp only
  rw [hends, Bool.true_and]
  by_cases hsome : s.ses[i].ended.isSome = true
  · rw [if_neg (by simpa [-Fin.getElem_fin, Option.isSome_iff_ne_none] using hsome), if_pos hsome]
  · rw [if_pos (by simpa [-Fin.getElem_fin] using hsome), if_neg hsome, modSes_ses_same]

theorem otherPoints_endSes : OtherPoints i s (endSes i reason s) := by
  unfold endSes
  dsimp only
  split
  · exact otherPoints_modSes i _ s
  · exact fun j _ => PointStands.refl j s

end

/-! What a session keeps of its last answer (12 R440). -/

/-- The last answer of a session, its times, the answers given and the session's number. -/
def replyOf (x : PtSes) : Option (Nat × Nat) × Nat × Nat × Nat × Nat := (x.answer, x.msgs, x.respLast, x.respMax, x.no)

section
variable {i : Fin 32} {kind code ms : Nat} {s t u : State}

theorem replied_iff : Replied i kind code ms s t ↔ replyOf t.ses[i] =
    (some (kind, code), s.ses[i].msgs + 1, min ms 65535, max s.ses[i].respMax (min ms 65535), s.ses[i].no) := by
  simp only [Replied, replyOf, Prod.mk.injEq]

theorem Replied.later (h : Replied i kind code ms s t) (hr : replyOf u.ses[i] = replyOf t.ses[i]) : Replied i kind code ms s u :=
  replied_iff.mpr (hr.trans (replied_iff.mp h))

theorem Replied.of_before (h : Replied i kind code ms u t) (hr : replyOf u.ses[i] = replyOf s.ses[i]) : Replied i kind code ms s t := by
  simp only [replyOf, Prod.mk.injEq] at hr
  obtain ⟨_, hmsgs, _, hmax, hno⟩ := hr
  rw [replied_iff] at h ⊢
  rw [h, hmsgs, hmax, hno]

end

/-! The session of a closed connection (12 Table 12.4). -/

section
variable (i : Fin 32) (s : State)

/-- A handshake slot that is freed may go to the point's own deferred request. -/
theorem freeHandshake_ses : ∃ d w, (freeHandshake i s).ses[i] = { s.ses[i] with deferred := d, sdpWait := w } := by
  unfold freeHandshake
  split
  · exact ⟨_, _, rfl⟩
  · dsimp only
    split
    · exact ⟨_, _, rfl⟩
    · split
      next p _ =>
        by_cases hp : i = p
        · subst hp
          exact ⟨_, _, modSes_ses_same ..⟩
        · exact ⟨s.ses[i].deferred, s.ses[i].sdpWait, modSes_ses_other hp ..⟩
      next => exact ⟨_, _, rfl⟩

theorem closeConn_ses : ∃ m d w, (closeConn i s).ses[i] = { sesClosed m s.ses[i] with deferred := d, sdpWait := w } := by
  obtain ⟨d, w, hfree⟩ := freeHandshake_ses i s
  refine ⟨decide ((connFreed i s).plc[i].slac = .matched), d, w, ?_⟩
  rw [closeConn_eq, modSes_ses_same, connFreed, State.modCp_ses, State.modPlc_ses, (upd_dropSesKeys ..).ses rfl, hfree]
  rfl

theorem toBasic_ses : ∃ m w, (toBasic i s).ses[i] = { sesClosed m s.ses[i] with
    stage := if s.ses[i].stage = .idle then .idle else .basic, deferred := false, sdpWait := w, proto := 0, mode := 0 } := by
  obtain ⟨m, d, w, hclosed⟩ := closeConn_ses i s
  refine ⟨m, w, ?_⟩
  rw [← toBasic_stage i s]
  unfold toBasic
  dsimp only
  rw [modSes_ses_same, State.modSesSys_ses, hclosed]

/-- ISO 15118 is withdrawn: the session goes on as basic charging, and an open one is to end (12 R436). -/
theorem withdrawHlc_ses : ∃ m w e, (withdrawHlc i s).ses[i] = { sesClosed m s.ses[i] with
      stage := if s.ses[i].stage = .idle then .idle else .basic, deferred := false, sdpWait := w, proto := 0, mode := 0, hlcOff := true
      ended := e } ∧ (s.ses[i].ended.isSome → e = s.ses[i].ended) := by
  obtain ⟨m, w, hbasic⟩ := toBasic_ses i s
  unfold withdrawHlc
  dsimp only
  generalize hu : raise 0x4308 4 i.val _ _ = u
  have huses : u.ses[i] = { (toBasic i s).ses[i] with hlcOff := true } := by
    rw [← hu, raise_ses, modSes_ses_same]
  obtain ⟨e, hends, hfirst⟩ := endSes_ses i 13 u
  rw [huses, hbasic] at hends hfirst
  exact ⟨m, w, e, hends, hfirst⟩

theorem withdrawHlc_events : EventsAgree (raise 0x4308 4 i.val s.ses[i].strikes s) (withdrawHlc i s) := by
  obtain ⟨_, w, hbasic⟩ := toBasic_ses i s
  have hoff : EventsAgree s ((toBasic i s).modSes i fun x => { x with hlcOff := true }) :=
    ((upd_toBasic i s).eventsAgree rfl rfl rfl rfl).trans ((upd_modSes ..).eventsAgree rfl rfl rfl rfl)
  unfold withdrawHlc
  dsimp only
  rw [modSes_ses_same, hbasic]
  exact (hoff.raise ..).trans ((upd_endSes ..).eventsAgree rfl rfl rfl rfl)

end

/-! What a closed connection leaves beside its session (12 Table 12.4; 04 R130). -/

/-- No request of the vehicle, nothing received, no key and no job of the session is left; the network of the point, the key slots and the
links of the other points stand. -/
def LinkCleared (i : Fin 32) (s t : State) : Prop :=
  t.cp[i].veh = none ∧ t.plc[i].rx = [] ∧ t.plc[i].slac = s.plc[i].slac ∧ (∀ x ∈ t.keys.trans, x.owner ≠ .ses ∨ x.point ≠ i.val) ∧
    (∀ j ∈ t.keys.queue, j.owner ≠ .ses ∨ j.point ≠ i.val) ∧ t.keys.slots = s.keys.slots ∧ OtherLinks i s t

section
variable {i : Fin 32} {s t u : State}

theorem LinkCleared.later (h : LinkCleared i s t) (hu : Upd [.ses, .sesSys, .ev, .sen] t u) (ho : OtherLinks i t u) : LinkCleared i s u := by
  obtain ⟨hveh, hrx, hslac, htrans, hqueue, hslots, hothers⟩ := h
  rw [LinkCleared, hu.cp rfl, hu.plc rfl, hu.keys rfl]
  exact ⟨hveh, hrx, hslac, htrans, hqueue, hslots, hothers.trans ho⟩

theorem LinkCleared.of_before (h : LinkCleared i u t) (hslac : u.plc[i].slac = s.plc[i].slac) (hslots : u.keys.slots = s.keys.slots)
    (ho : OtherLinks i s u) : LinkCleared i s t := by
  obtain ⟨hveh, hrx, gslac, htrans, hqueue, gslots, hothers⟩ := h
  exact ⟨hveh, hrx, gslac.trans hslac, htrans, hqueue, gslots.trans hslots, ho.trans hothers⟩

/-- A session without TLS, SessionID, identification and TCP connection. -/
def NoConnection (x : PtSes) : Prop :=
  x.tcpOpen = false ∧ x.tls = 0 ∧ x.idSet = false ∧ x.pnc = false ∧ x.eim = false ∧ x.chainOk = false ∧ x.stalled = false

theorem LinkCleared.connClosed (h : LinkCleared i s t) (hx : NoConnection t.ses[i]) : ConnClosed i s t := by
  obtain ⟨htcp, htls, hid, hpnc, heim, hchain, hstalled⟩ := hx
  exact ⟨htcp, htls, hid, hpnc, heim, hchain, hstalled, h⟩

end

section
variable (i : Fin 32) (s : State)

theorem connFreed_keys : (connFreed i s).keys = (dropSesKeys i s).keys := by
  rw [connFreed, State.modCp_keys, State.modPlc_keys]
  unfold dropSesKeys transDrop
  rw [State.modKeys_keys, State.modKeys_keys, State.modKeys_keys, State.modKeys_keys, (upd_freeHandshake ..).keys rfl]

theorem linkCleared_closeConn : LinkCleared i s (closeConn i s) := by
  refine ⟨?_, ?_, ?_, ?_, ?_, ?_, otherLinks_closeConn i s⟩
  · rw [closeConn_eq, State.modSes_cp, connFreed, modCp_cp_same]
  · rw [closeConn_plc]
  · rw [closeConn_plc]
  all_goals rw [closeConn_eq, State.modSes_keys, connFreed_keys]
  · intro x hx
    have hkept := (List.mem_filter.mp hx).2
    simp only [Bool.not_eq_true', Bool.and_eq_false_iff, beq_eq_false_iff_ne] at hkept
    exact hkept
  · intro j hj
    have hkept := (List.mem_filter.mp hj).2
    simp only [Bool.not_eq_true', Bool.and_eq_false_iff, beq_eq_false_iff_ne] at hkept
    exact hkept
  · rfl

theorem noConnection_closeConn : NoConnection (closeConn i s).ses[i] := by
  obtain ⟨_, _, _, hses⟩ := closeConn_ses i s
  rw [hses]
  exact ⟨rfl, rfl, rfl, rfl, rfl, rfl, rfl⟩

theorem closeConn_replyOf : replyOf (closeConn i s).ses[i] = replyOf s.ses[i] := by
  obtain ⟨_, _, _, hses⟩ := closeConn_ses i s
  rw [hses]
  rfl

theorem linkCleared_withdrawHlc : LinkCleared i s (withdrawHlc i s) := by
  unfold withdrawHlc toBasic
  dsimp only
  refine (linkCleared_closeConn i s).later (.comp (upd_endSes ..) rfl (.comp (upd_raise ..) rfl (.comp (upd_modSes ..) rfl
    (.comp (upd_modSes ..) rfl ((upd_modSesSys ..).mono rfl))))) (OtherPoints.otherLinks ?_)
  have hsys : OtherPoints i (closeConn i s) _ :=
    (upd_modSesSys (fun y => { y with admission := y.admission.filter (·.2 != i.val) }) _).otherPoints rfl i
  exact (((hsys.trans (otherPoints_modSes i _ _)).trans (otherPoints_modSes i _ _)).trans (otherPoints_raise i _ _ _ _ _)).trans
    (otherPoints_endSes i _ _)

theorem noConnection_withdrawHlc : NoConnection (withdrawHlc i s).ses[i] := by
  obtain ⟨_, _, _, hses, _⟩ := withdrawHlc_ses i s
  rw [hses]
  exact ⟨rfl, rfl, rfl, rfl, rfl, rfl, rfl⟩

theorem withdrawHlc_replyOf : replyOf (withdrawHlc i s).ses[i] = replyOf s.ses[i] := by
  obtain ⟨_, _, _, hses, _⟩ := withdrawHlc_ses i s
  rw [hses]
  rfl

/-! A strike (12 R436). -/

/-- The strike is counted. -/
def strikeCounted : State := s.modSes i fun x => { x with strikes := min 3 (x.strikes + 1) }

theorem upd_strikeCounted : Upd [.ses] s (strikeCounted i s) := upd_modSes ..

/-- The third strike withdraws ISO 15118. -/
def thirdStrike (x : PtSes) : Bool := decide (2 ≤ x.strikes) && !x.hlcOff

theorem addStrike_eq : addStrike i s = if thirdStrike s.ses[i] then withdrawHlc i (strikeCounted i s) else strikeCounted i s := by
  have hthird : (decide ((strikeCounted i s).ses[i].strikes = 3) && !(strikeCounted i s).ses[i].hlcOff) = thirdStrike s.ses[i] := by
    rw [strikeCounted, modSes_ses_same, thirdStrike]
    congr 1
    rw [decide_eq_decide]
    dsimp only
    omega
  rw [← hthird]
  rfl

/-- What a strike that closes the connection makes of its session `x`. -/
def SesStruck (x y : PtSes) : Prop :=
  NoConnection y ∧ y.strikes = min 3 (x.strikes + 1) ∧ y.hlcOff = (x.hlcOff || decide (2 ≤ x.strikes)) ∧
    (thirdStrike x = true → y.stage = if x.stage = .idle then .idle else .basic) ∧ replyOf y = replyOf x ∧
    (x.ended.isSome → y.ended = x.ended)

theorem strikeCounted_closeConn_ses : ∃ m d w, (strikeCounted i (closeConn i s)).ses[i] =
    { sesClosed m s.ses[i] with strikes := min 3 (s.ses[i].strikes + 1), deferred := d, sdpWait := w } := by
  obtain ⟨m, d, w, hclosed⟩ := closeConn_ses i s
  refine ⟨m, d, w, ?_⟩
  rw [strikeCounted, modSes_ses_same, hclosed]
  rfl

theorem thirdStrike_closeConn : thirdStrike (closeConn i s).ses[i] = thirdStrike s.ses[i] := by
  obtain ⟨_, _, _, hclosed⟩ := closeConn_ses i s
  rw [hclosed]
  rfl

theorem strike_eq : strike i s =
    if thirdStrike s.ses[i] then withdrawHlc i (strikeCounted i (closeConn i s)) else strikeCounted i (closeConn i s) := by
  rw [strike, addStrike_eq, thirdStrike_closeConn]

theorem sesStruck_strike : SesStruck s.ses[i] (strike i s).ses[i] := by
  obtain ⟨m, d, w, hcount⟩ := strikeCounted_closeConn_ses i s
  rw [strike_eq]
  cases hthird : thirdStrike s.ses[i] with
  | false =>
    rw [if_neg Bool.false_ne_true, hcount]
    have hoff : ∀ two off : Bool, (two && !off) = false → off = (off || two) := by decide
    exact ⟨⟨rfl, rfl, rfl, rfl, rfl, rfl, rfl⟩, rfl, hoff _ _ hthird, fun h => absurd (hthird.symm.trans h) Bool.false_ne_true, rfl,
      fun _ => rfl⟩
  | true =>
    have hstage : (strikeCounted i (closeConn i s)).ses[i].stage = .idle ↔ s.ses[i].stage = .idle := by
      rw [strikeCounted, modSes_ses_same]
      exact closeConn_stage_idle i s
    obtain ⟨_, _, e, hses, hfirst⟩ := withdrawHlc_ses i (strikeCounted i (closeConn i s))
    have hstrikes := (Bool.and_eq_true_iff.mp hthird).1
    rw [if_pos rfl, hses]
    simp only [hstage]
    rw [hcount] at hfirst ⊢
    refine ⟨⟨rfl, rfl, rfl, rfl, rfl, rfl, rfl⟩, rfl, ?_, fun _ => rfl, rfl, hfirst⟩
    rw [hstrikes, Bool.or_true]

theorem linkCleared_strike : LinkCleared i s (strike i s) := by
  rw [strike_eq]
  have hcount : OtherLinks i (closeConn i s) (strikeCounted i (closeConn i s)) := (otherPoints_modSes i _ _).otherLinks
  have hcleared := (linkCleared_closeConn i s).later ((upd_strikeCounted ..).mono rfl) hcount
  split
  · obtain ⟨_, _, hslac, _, _, hslots, hothers⟩ := hcleared
    exact (linkCleared_withdrawHlc i _).of_before hslac hslots hothers
  · exact hcleared

/-- The event of a strike, read from its session. -/
theorem strikeEv_eq (u : State) : strikeEv i s u = raiseIf (thirdStrike s.ses[i]) 0x4308 4 i.val 3 u := rfl

theorem strike_events : EventsAgree (strikeEv i s s) (strike i s) := by
  obtain ⟨_, _, _, hcount⟩ := strikeCounted_closeConn_ses i s
  have hkeep : EventsAgree s (strikeCounted i (closeConn i s)) :=
    ((upd_closeConn i s).eventsAgree rfl rfl rfl rfl).trans ((upd_strikeCounted ..).eventsAgree rfl rfl rfl rfl)
  rw [strike_eq, strikeEv_eq]
  cases hthird : thirdStrike s.ses[i] with
  | false => exact hkeep
  | true =>
    have hstrikes : (strikeCounted i (closeConn i s)).ses[i].strikes = 3 := by
      have htwo := of_decide_eq_true (Bool.and_eq_true_iff.mp hthird).1
      rw [hcount]
      exact Nat.min_eq_left (Nat.succ_le_succ htwo)
    have hwithdraw := withdrawHlc_events i (strikeCounted i (closeConn i s))
    rw [hstrikes] at hwithdraw
    exact (hkeep.raise ..).trans hwithdraw

end

/-! A vehicle fault (12 R436; log entry 32). -/

/-- What a strike reads of a state, and what it leaves as it was, is the same in `u` as in `s`. -/
structure StrikeReads (i : Fin 32) (s u : State) : Prop where
  strikes : u.ses[i].strikes = s.ses[i].strikes
  hlcOff : u.ses[i].hlcOff = s.ses[i].hlcOff
  stage : u.ses[i].stage = s.ses[i].stage
  slac : u.plc[i].slac = s.plc[i].slac
  slots : u.keys.slots = s.keys.slots
  others : OtherLinks i s u

section
variable {i : Fin 32} {s t u : State}

theorem StrikeReads.refl (i : Fin 32) (s : State) : StrikeReads i s s := ⟨rfl, rfl, rfl, rfl, rfl, fun _ _ => ⟨rfl, rfl, rfl⟩⟩

theorem StrikeReads.trans (h : StrikeReads i s t) (g : StrikeReads i t u) : StrikeReads i s u :=
  ⟨g.strikes.trans h.strikes, g.hlcOff.trans h.hlcOff, g.stage.trans h.stage, g.slac.trans h.slac, g.slots.trans h.slots,
    h.others.trans g.others⟩

theorem strikeReads_raise (i : Fin 32) (code src pt arg : Nat) (s : State) : StrikeReads i s (raise code src pt arg s) := by
  refine ⟨?_, ?_, ?_, ?_, ?_, (otherPoints_raise i _ _ _ _ s).otherLinks⟩
  · rw [raise_ses]
  · rw [raise_ses]
  · rw [raise_ses]
  · rw [raise_plc]
  · rw [raise_keys]

theorem strikeReads_endSes (i : Fin 32) (reason : Nat) (s : State) : StrikeReads i s (endSes i reason s) := by
  obtain ⟨_, hses, _⟩ := endSes_ses i reason s
  refine ⟨?_, ?_, ?_, ?_, ?_, (otherPoints_endSes i _ s).otherLinks⟩
  · rw [hses]
  · rw [hses]
  · rw [hses]
  · rw [(upd_endSes ..).plc rfl]
  · rw [(upd_endSes ..).keys rfl]

theorem struck_strike (h : StrikeReads i s u) : Struck i s (strike i u) := by
  obtain ⟨hnone, hstrikes, hoff, hstage, _, _⟩ := sesStruck_strike i u
  refine ⟨((linkCleared_strike i u).of_before h.slac h.slots h.others).connClosed hnone, ?_, ?_, fun htwo hon => ?_⟩
  · rw [hstrikes, h.strikes]
  · rw [hoff, h.strikes, h.hlcOff]
  · rw [hstage (by rw [thirdStrike, h.strikes, h.hlcOff, hon, decide_eq_true htwo]; rfl), h.stage]

/-- The session of a connection past its handshake is to end with reason 13. -/
def faultEnding (i : Fin 32) (s : State) : State := if s.ses[i].stage != .handshake then endSes i 13 s else s

theorem upd_faultEnding (i : Fin 32) (s : State) : Upd [.ses] s (faultEnding i s) := .ite (upd_endSes ..) (.refl ..)

theorem strikeReads_faultEnding (i : Fin 32) (s : State) : StrikeReads i s (faultEnding i s) := by
  unfold faultEnding
  split
  · exact strikeReads_endSes ..
  · exact .refl ..

theorem vehicleFault_eq (i : Fin 32) (s : State) : vehicleFault i s = strike i (faultEnding i s) := rfl

theorem struck_vehicleFault (h : StrikeReads i s u) : Struck i s (vehicleFault i u) :=
  struck_strike (h.trans (strikeReads_faultEnding i u))

theorem vehicleFault_replyOf (i : Fin 32) (s : State) : replyOf (vehicleFault i s).ses[i] = replyOf s.ses[i] := by
  obtain ⟨_, _, _, _, hreply, _⟩ := sesStruck_strike i (faultEnding i s)
  rw [vehicleFault_eq, hreply, faultEnding]
  split
  · obtain ⟨_, hses, _⟩ := endSes_ses i 13 s
    rw [hses]
    rfl
  · rfl

/-- Past the handshake the session of a standing connection is to end with reason 13, unless a reason stands already. -/
theorem vehicleFault_ended (hopen : s.ses[i].tcpOpen = true) (hstage : s.ses[i].stage ≠ .handshake) :
    (vehicleFault i s).ses[i].ended = if s.ses[i].ended.isSome then s.ses[i].ended else some 13 := by
  have hending : (faultEnding i s).ses[i] = { s.ses[i] with ended := if s.ses[i].ended.isSome then s.ses[i].ended else some 13 } := by
    rw [faultEnding, if_pos (bne_iff_ne.mpr hstage), endSes_ended i 13 s (.inr hopen)]
  obtain ⟨_, _, _, _, _, hended⟩ := sesStruck_strike i (faultEnding i s)
  rw [hending] at hended
  rw [vehicleFault_eq, hended]
  dsimp only
  split
  · assumption
  · rfl

/-- The events of a vehicle fault in a state whose event unit is that of `v`. -/
theorem vehicleFault_events {v : State} (h : StrikeReads i s u) (hv : EventsAgree v u) : EventsAgree (strikeEv i s v) (vehicleFault i u) := by
  have hbefore := h.trans (strikeReads_faultEnding i u)
  have hending : EventsAgree v (faultEnding i u) := hv.trans ((upd_faultEnding i u).eventsAgree rfl rfl rfl rfl)
  have hthird : thirdStrike (faultEnding i u).ses[i] = thirdStrike s.ses[i] := by
    rw [thirdStrike, hbefore.strikes, hbefore.hlcOff, thirdStrike]
  rw [vehicleFault_eq, strikeEv_eq, ← hthird, ← strikeEv_eq]
  exact .trans (hending.raiseIf ..) (strike_events ..)

end
end Sys2Proof.Machine
end

section
/-! SUPPORT. The VE jobs, the responses and the requests of a session (12 R420, R421, R436, R440, Tables 12.6, 12.7). -/

namespace Sys2Proof.Machine

/-! VE jobs (12 R420, R421). -/

/-- The jobs of a protocol step stand at the end of the queue. -/
def jobsPlaced (i : Fin 32) (jobs : List (SlotOp × Nat)) (data : List Nat) (s : State) : State :=
  s.modKeys fun k => { k with queue := k.queue ++ jobs.map fun j => { owner := .ses, point := i.val, op := j.1, slot := j.2, data } }

theorem jobsOf_congr {s t : State} (h : t.keys = s.keys) (p : Nat) : jobsOf t p = jobsOf s p := by
  rw [jobsOf, h, jobsOf]

section
variable {i : Fin 32} {s : State}

theorem jobsOf_jobsPlaced (jobs : List (SlotOp × Nat)) (data : List Nat) :
    jobsOf (jobsPlaced i jobs data s) i.val = jobsOf s i.val + jobs.length := by
  simp [jobsOf, jobsPlaced, List.filter_map, Function.comp_def]

theorem enqueue_ses_of_room {op : SlotOp} {n : Nat} {data : List Nat} (hcap : jobsOf s i.val < 4) (hroom : s.keys.queue.length < 64) :
    enqueue { owner := .ses, point := i.val, op, slot := n, data } s = jobsPlaced i [(op, n)] data s :=
  enqueue_of_room hroom fun _ => hcap

theorem placeJobs_of_room {jobs : List (SlotOp × Nat)} {data : List Nat} (hcap : jobsOf s i.val + jobs.length ≤ 4)
    (hroom : s.keys.queue.length + jobs.length ≤ 64) : placeJobs i jobs data s = jobsPlaced i jobs data s := by
  induction jobs generalizing s with
  | nil => simp [placeJobs, jobsPlaced, State.modKeys]
  | cons j js ih =>
    rw [List.length_cons] at hcap hroom
    have hfirst := enqueue_ses_of_room (op := j.1) (n := j.2) (data := data) (s := s) (i := i) (by omega) (by omega)
    have hrest : placeJobs i js data (jobsPlaced i [j] data s) = jobsPlaced i js data (jobsPlaced i [j] data s) := by
      refine ih ?_ ?_
      · rw [jobsOf_jobsPlaced, List.length_singleton]
        omega
      · simp only [jobsPlaced, State.modKeys_keys, List.length_append, List.length_map, List.length_singleton]
        omega
    calc placeJobs i (j :: js) data s = placeJobs i js data (jobsPlaced i [j] data s) := congrArg (placeJobs i js data) hfirst
      _ = jobsPlaced i (j :: js) data s := by
        rw [hrest]
        simp [jobsPlaced, State.modKeys]

theorem jobsFit_iff : jobsFit i s = true ↔ jobsOf s i.val = 0 ∧ s.keys.queue.length + 4 ≤ 64 := by
  simp [jobsFit]

/-- Where jobs of the session fit, up to four are placed, and they are all that the session has. -/
theorem placeJobs_of_fit {jobs : List (SlotOp × Nat)} (hfit : jobsFit i s = true) (hlen : jobs.length ≤ 4) (data : List Nat) :
    placeJobs i jobs data s = jobsPlaced i jobs data s ∧ jobsOf (jobsPlaced i jobs data s) i.val = jobs.length := by
  obtain ⟨hnone, hroom⟩ := jobsFit_iff.mp hfit
  refine ⟨placeJobs_of_room (by omega) (by omega), ?_⟩
  rw [jobsOf_jobsPlaced, hnone, Nat.zero_add]

theorem upd_jobsPlaced (i : Fin 32) (jobs : List (SlotOp × Nat)) (data : List Nat) (s : State) : Upd [.keys] s (jobsPlaced i jobs data s) :=
  upd_modKeys ..

end

/-! A response (12 R440, Table 12.7). -/

/-- The answer as its session keeps it. -/
def sesReplied (kind code ms : Nat) (x : PtSes) : PtSes :=
  { x with respLast := min ms 65535, respMax := max x.respMax (min ms 65535), msgs := x.msgs + 1, answer := some (kind, code) }

/-- A late response is counted, with event 0x430B. -/
def lateNoted (i : Fin 32) (jobs : Bool) (ms : Nat) (s : State) : State :=
  if respLate jobs ms s then raise 0x430B 4 i.val ms (s.modSesSys fun y => { y with late := inc32 y.late }) else s

theorem upd_lateNoted (i : Fin 32) (jobs : Bool) (ms : Nat) (s : State) : Upd [.sesSys, .ev, .sen] s (lateNoted i jobs ms s) :=
  .ite (.comp (upd_raise ..) rfl ((upd_modSesSys ..).mono rfl)) (.refl ..)

theorem lateNoted_events (i : Fin 32) (jobs : Bool) (ms : Nat) (s : State) : EventsAgree (lateEv i jobs ms s) (lateNoted i jobs ms s) := by
  unfold lateEv lateNoted
  cases respLate jobs ms s with
  | true => exact ((upd_modSesSys ..).eventsAgree rfl rfl rfl rfl).raise ..
  | false => exact .refl s

/-- What a response reads of a state, beside the way to the vehicle, is the same in `u` as in `s`. -/
structure RespReads (i : Fin 32) (s u : State) : Prop where
  reply : replyOf u.ses[i] = replyOf s.ses[i]
  events : EventsAgree s u
  led : u.led = s.led

section
variable {i : Fin 32} {s t u : State}

theorem RespReads.refl (i : Fin 32) (s : State) : RespReads i s s := ⟨rfl, .refl s, rfl⟩

theorem RespReads.trans (h : RespReads i s t) (g : RespReads i t u) : RespReads i s u :=
  ⟨g.reply.trans h.reply, h.events.trans g.events, g.led.trans h.led⟩

theorem respReads_modSes {f : PtSes → PtSes} (hf : replyOf (f s.ses[i]) = replyOf s.ses[i]) : RespReads i s (s.modSes i f) := by
  refine ⟨?_, (upd_modSes ..).eventsAgree rfl rfl rfl rfl, rfl⟩
  rw [modSes_ses_same]
  exact hf

theorem strikeReads_jobsPlaced (i : Fin 32) (jobs : List (SlotOp × Nat)) (data : List Nat) (s : State) :
    StrikeReads i s (jobsPlaced i jobs data s) := ⟨rfl, rfl, rfl, rfl, rfl, ((upd_jobsPlaced i jobs data s).otherPoints rfl i).otherLinks⟩

theorem respReads_jobsPlaced (i : Fin 32) (jobs : List (SlotOp × Nat)) (data : List Nat) (s : State) :
    RespReads i s (jobsPlaced i jobs data s) := ⟨rfl, (upd_jobsPlaced ..).eventsAgree rfl rfl rfl rfl, rfl⟩

theorem RespReads.respLate_eq (h : RespReads i s u) (jobs : Bool) (ms : Nat) : respLate jobs ms u = respLate jobs ms s := by
  unfold respLate
  rw [h.led, h.events.clk]

end

section
variable (i : Fin 32) (jobs : Bool) (kind code ms : Nat) (fields : List Nat) (s : State)

theorem respond_eq : respond i jobs kind code ms fields s =
    sendMessage i (0x100 + kind) (code :: fields) (lateNoted i jobs ms (s.modSes i (sesReplied kind code ms))) := rfl

theorem respond_ses : (respond i jobs kind code ms fields s).ses = (s.modSes i (sesReplied kind code ms)).ses := by
  rw [respond_eq, (upd_sendMessage ..).ses rfl, (upd_lateNoted ..).ses rfl]

theorem respond_ses_same : (respond i jobs kind code ms fields s).ses[i] = sesReplied kind code ms s.ses[i] := by
  rw [respond_ses, modSes_ses_same]

theorem otherPoints_respond : OtherPoints i s (respond i jobs kind code ms fields s) :=
  ((otherPoints_modSes i _ s).trans ((upd_lateNoted i jobs ms _).otherPoints rfl i)).trans (otherPoints_sendMessage i _ _ _)

theorem strikeReads_respond : StrikeReads i s (respond i jobs kind code ms fields s) := by
  refine ⟨?_, ?_, ?_, ?_, ?_, (otherPoints_respond i jobs kind code ms fields s).otherLinks⟩
  · rw [respond_ses_same, sesReplied]
  · rw [respond_ses_same, sesReplied]
  · rw [respond_ses_same, sesReplied]
  · obtain ⟨_, _, hplc⟩ := (linkSends_sendMessage i (0x100 + kind) (code :: fields)
      (lateNoted i jobs ms (s.modSes i (sesReplied kind code ms)))).same
    rw [respond_eq, hplc, (upd_lateNoted ..).plc rfl]
    rfl
  · rw [(upd_respond ..).keys rfl]

end

section
variable {i : Fin 32} {jobs : Bool} {kind code ms : Nat} {fields : List Nat} {f : PtSes → PtSes} {s u : State}

theorem RespReads.replied (h : RespReads i s u) : Replied i kind code ms s (respond i jobs kind code ms fields u) := by
  have hreplied : Replied i kind code ms u (respond i jobs kind code ms fields u) := by
    rw [Replied, respond_ses_same]
    exact ⟨rfl, rfl, rfl, rfl, rfl⟩
  exact hreplied.of_before h.reply

theorem RespReads.lateEv_events (h : RespReads i s u) (jobs : Bool) (ms : Nat) : EventsAgree (lateEv i jobs ms s) (lateEv i jobs ms u) := by
  rw [lateEv, lateEv, h.respLate_eq]
  exact h.events.raiseIf ..

theorem RespReads.respond_events (h : RespReads i s u) : EventsAgree (lateEv i jobs ms s) (respond i jobs kind code ms fields u) := by
  have hses : EventsAgree (lateEv i jobs ms u) (lateEv i jobs ms (u.modSes i (sesReplied kind code ms))) :=
    ((upd_modSes i (sesReplied kind code ms) u).eventsAgree rfl rfl rfl rfl).raiseIf (respLate jobs ms u) ..
  rw [respond_eq]
  exact (((h.lateEv_events jobs ms).trans hses).trans (lateNoted_events ..)).trans ((upd_sendMessage ..).eventsAgree rfl rfl rfl rfl)

end

/-! A request (12 R436). -/

/-- The request has been heard: nothing is to be sent again. -/
def requestHeard (i : Fin 32) (s : State) : State := s.modSes i fun x => { x with retrans := 0 }

theorem requestHeard_ses (i : Fin 32) (s : State) : (requestHeard i s).ses[i] = { s.ses[i] with retrans := 0 } := modSes_ses_same ..

theorem requestHeard_sessionId (i : Fin 32) (s : State) : sessionId (requestHeard i s) i = sessionId s i := by
  rw [sessionId, requestHeard_ses, sessionId]

theorem upd_requestHeard (i : Fin 32) (s : State) : Upd [.ses] s (requestHeard i s) := upd_modSes ..

theorem respReads_requestHeard (i : Fin 32) (s : State) : RespReads i s (requestHeard i s) := respReads_modSes rfl

theorem strikeReads_requestHeard (i : Fin 32) (s : State) : StrikeReads i s (requestHeard i s) := by
  refine ⟨?_, ?_, ?_, rfl, rfl, (otherPoints_modSes i _ s).otherLinks⟩
  · rw [requestHeard_ses]
  · rw [requestHeard_ses]
  · rw [requestHeard_ses]

theorem sesAsked_iff {i : Fin 32} {st : Stage} {s : State} :
    sesAsked i st s = true ↔ served s i = true ∧ s.ses[i].stage = st ∧ s.ses[i].idSet = true := by
  simp only [sesAsked, Bool.and_eq_true, beq_iff_eq, and_assoc]

theorem served_tcpOpen {i : Fin 32} {s : State} (h : served s i = true) : s.ses[i].tcpOpen = true := by
  simp only [served, Bool.and_eq_true] at h
  exact h.1.1

theorem requestHeard_tcpOpen {i : Fin 32} {st : Stage} {s : State} (h : sesAsked i st s = true) : (requestHeard i s).ses[i].tcpOpen = true := by
  rw [requestHeard_ses]
  exact served_tcpOpen (sesAsked_iff.mp h).1

section
variable {i : Fin 32} {kind ms n : Nat} {stages : List Stage} {st : Stage} {f : State → State} {s : State}

theorem request_unserved {sid : Option Nat} (h : served s i = false) : request i kind sid stages ms f s = s :=
  if_pos (by simp [h])

/-- A session asked past its handshake: its SessionID is judged first, then its stage. -/
theorem request_past {sid : Option Nat} (hserved : served s i = true) (hpast : s.ses[i].stage ≠ .handshake) :
    request i kind sid stages ms f s =
      if sid.isSome && (!s.ses[i].idSet || sid ≠ some (sessionId (requestHeard i s) i)) then protocolFail i kind 2 ms (requestHeard i s)
      else if !stages.contains s.ses[i].stage then protocolFail i kind 3 ms (requestHeard i s)
      else f (requestHeard i s) :=
  if_neg (by simp [-Fin.getElem_fin, hserved, hpast])

/-- A request that names no session is admitted by its stage. -/
theorem request_first (hserved : served s i = true) (hstage : s.ses[i].stage = st) (hst : st ∈ stages) (hpast : st ≠ .handshake) :
    request i kind none stages ms f s = f (requestHeard i s) := by
  subst hstage
  rw [request_past hserved hpast, if_neg (by simp), if_neg (by simpa [-Fin.getElem_fin] using hst)]

theorem request_of_unknown (hserved : served s i = true) (hpast : s.ses[i].stage ≠ .handshake)
    (hid : n ≠ sessionId s i ∨ s.ses[i].idSet = false) :
    request i kind (some n) stages ms f s = protocolFail i kind 2 ms (requestHeard i s) := by
  rw [request_past hserved hpast, requestHeard_sessionId, if_pos (by simpa [-Fin.getElem_fin, or_comm] using hid)]

/-- A request of the session itself is judged by its stage alone. -/
theorem request_own (hasked : sesAsked i st s = true) (hpast : st ≠ .handshake) : request i kind (some (sessionId s i)) stages ms f s =
    if !stages.contains st then protocolFail i kind 3 ms (requestHeard i s) else f (requestHeard i s) := by
  obtain ⟨hserved, rfl, hid⟩ := sesAsked_iff.mp hasked
  rw [request_past hserved hpast, requestHeard_sessionId, if_neg (by simp [-Fin.getElem_fin, hid])]

theorem request_asked (hasked : sesAsked i st s = true) (hst : st ∈ stages) (hpast : st ≠ .handshake) :
    request i kind (some (sessionId s i)) stages ms f s = f (requestHeard i s) := by
  rw [request_own hasked hpast, if_neg (by simpa using hst)]

theorem request_out_of_stage (hasked : sesAsked i st s = true) (hst : st ∉ stages) (hpast : st ≠ .handshake) :
    request i kind (some (sessionId s i)) stages ms f s = protocolFail i kind 3 ms (requestHeard i s) := by
  rw [request_own hasked hpast, if_pos (by simpa using hst)]

/-- A request that fails is answered so, and closes the connection with a strike (12 Table 12.9). -/
theorem does_protocolFail {c : Instr} {code : Nat} (hexec : exec c s = .next (protocolFail i kind code ms (requestHeard i s))) :
    Does c s [.keys, .ports, .cp, .plc, .ses, .sesSys, .ev, .sen] fun t =>
      Struck i s t ∧ Replied i kind code ms s t ∧ t.ev = (strikeEv i s (lateEv i false ms s)).ev := by
  have hheard := respReads_requestHeard i s
  have hreads := (strikeReads_requestHeard i s).trans (strikeReads_respond i false kind code ms [] (requestHeard i s))
  refine ⟨_, hexec, .comp (upd_protocolFail ..) rfl ((upd_requestHeard i s).mono rfl), struck_vehicleFault hreads, ?_, ?_⟩
  · exact hheard.replied.later (vehicleFault_replyOf ..)
  · exact (vehicleFault_events hreads hheard.respond_events).ev

end
/-! What an answered request leaves (12 R440). -/

/-- t is u with an answer to the vehicle, and x is the session of the point in t; the answer and its event are those of s. -/
structure Answered (i : Fin 32) (jobs : Bool) (kind code ms : Nat) (s u : State) (x : PtSes) (t : State) : Prop where
  ses : t.ses[i] = x
  replied : Replied i kind code ms s t
  ev : t.ev = (lateEv i jobs ms s).ev
  upd : Upd [.ports, .plc, .ses, .sesSys, .ev, .sen] u t

/-- A session is to end with a reason and waits for the end of its connection. -/
def stopping (i : Fin 32) (reason : Nat) (s : State) : State := (endSes i reason s).modSes i fun x => { x with stage := .stopping }

section
variable {i : Fin 32} {jobs : Bool} {kind code ms reason : Nat} {fields : List Nat} {f : PtSes → PtSes} {x : PtSes} {s t u : State}

theorem Answered.later {v : State} {y : PtSes} (h : Answered i jobs kind code ms s u x t) (hu : Upd [.ses] t v) (hses : v.ses[i] = y)
    (hy : replyOf y = replyOf x) : Answered i jobs kind code ms s u y v :=
  ⟨hses, h.replied.later (by rw [hses, hy, h.ses]), (hu.ev rfl).trans h.ev, .comp hu rfl h.upd⟩

theorem RespReads.answered (h : RespReads i s u) :
    Answered i jobs kind code ms s u (sesReplied kind code ms u.ses[i]) (respond i jobs kind code ms fields u) :=
  ⟨respond_ses_same .., h.replied, h.respond_events.ev, upd_respond ..⟩

/-- An answer after which the session changes beside it. -/
theorem RespReads.answered_modSes (h : RespReads i s u) (hf : ∀ x, replyOf (f x) = replyOf x) :
    Answered i jobs kind code ms s u (f (sesReplied kind code ms u.ses[i])) ((respond i jobs kind code ms fields u).modSes i f) :=
  h.answered.later (upd_modSes ..) (by rw [modSes_ses_same, respond_ses_same]) (hf _)

/-- An answer after which the session of a standing connection is to end. -/
theorem RespReads.answered_stopping (h : RespReads i s u) (hopen : u.ses[i].tcpOpen = true) :
    Answered i jobs kind code ms s u { sesReplied kind code ms u.ses[i] with
      ended := if u.ses[i].ended.isSome then u.ses[i].ended else some reason, stage := .stopping }
      (stopping i reason (respond i jobs kind code ms fields u)) := by
  have hreplied : (respond i jobs kind code ms fields u).ses[i] = sesReplied kind code ms u.ses[i] := respond_ses_same ..
  have hends := endSes_ended i reason (respond i jobs kind code ms fields u) (.inr (by rw [hreplied]; exact hopen))
  rw [hreplied] at hends
  refine h.answered.later (.comp (upd_modSes ..) rfl ((upd_endSes ..).mono rfl)) ?_ rfl
  rw [stopping, modSes_ses_same, hends]
  rfl

/-- A command that answers the vehicle. -/
theorem does_of_answered {c : Instr} {P : List Part} {Q : State → Prop} (hexec : exec c s = .next t)
    (h : Answered i jobs kind code ms s u x t) (hu : Upd P s u) (hP : subParts [.ports, .plc, .ses, .sesSys, .ev, .sen] P = true)
    (hQ : ∀ v, Answered i jobs kind code ms s u x v → Q v) : Does c s P Q :=
  ⟨t, hexec, .comp h.upd hP hu, hQ t h⟩

/-- An answer after which the connection is closed. -/
theorem RespReads.closed (h : RespReads i t u) (hk : StrikeReads i s u) :
    ConnClosed i s (closeConn i (respond i jobs kind code ms fields u)) ∧
      Replied i kind code ms t (closeConn i (respond i jobs kind code ms fields u)) ∧
      (closeConn i (respond i jobs kind code ms fields u)).ev = (lateEv i jobs ms t).ev := by
  have hreads := hk.trans (strikeReads_respond i jobs kind code ms fields u)
  have hreplied : Replied i kind code ms t (respond i jobs kind code ms fields u) := h.replied
  have hcleared := (linkCleared_closeConn i _).of_before hreads.slac hreads.slots hreads.others
  exact ⟨hcleared.connClosed (noConnection_closeConn ..), hreplied.later (closeConn_replyOf ..),
    ((upd_closeConn ..).ev rfl).trans h.respond_events.ev⟩

end
end Sys2Proof.Machine
end

section
/-! PROOF. The TLS handshake, its failures and malformed messages (12 R404, R409, R410, R413, R419, R436, R438). -/

namespace Sys2Proof.Machine

/-! The server flight (12 R409, R410, R421). -/

/-- An ephemeral key has been drawn into the transient slot n for the session of a point. -/
def ephemeralDrawn (i : Fin 32) (n : Nat) (s : State) : State :=
  transTaken n .ses .ephemeral i.val (Config.freeValue s.freeCtr % 2 ^ 256) (s.modFreeCtr (· + 1))

/-- The TLS 1.2 flight: its key is generated and its signature made by two jobs. -/
def flightJobs (i : Fin 32) (n sign : Nat) (s : State) : State := jobsPlaced i [(.derive, n), (.sign, sign)] [] (ephemeralDrawn i n s)

section
variable {i : Fin 32} {n role sign : Nat} {s : State}

theorem upd_ephemeralDrawn (i : Fin 32) (n : Nat) (s : State) : Upd [.keys, .freeCtr] s (ephemeralDrawn i n s) := by
  unfold ephemeralDrawn transTaken
  exact .comp (upd_modKeys ..) rfl ((upd_modFreeCtr ..).mono rfl)

theorem upd_flightJobs (i : Fin 32) (n sign : Nat) (s : State) : Upd [.keys, .freeCtr] s (flightJobs i n sign s) :=
  .comp (upd_jobsPlaced ..) rfl (upd_ephemeralDrawn ..)

theorem transHeld_flightJobs : transHeld (flightJobs i n sign s) .ses = transHeld s .ses + 1 := by
  simp [transHeld, flightJobs, jobsPlaced, ephemeralDrawn, transTaken]

/-- The TLS 1.2 server flight goes out where randomness, a transient slot and room for its jobs are there. -/
theorem serverFlight_sent (hrole : roleSlot s role = some sign) (hdrbg : drbgOk s = true) (hquota : transHeld s .ses < 104)
    (hfree : transFree s = some n) (hfit : jobsFit i s = true) :
    serverFlight i 1 role s = (sendMessage i 0x210 [1] (flightJobs i n sign s)).modSes i fun x => { x with hs := 1 } := by
  have halloc : transAlloc .ses .ephemeral i.val (Config.freeValue s.freeCtr % 2 ^ 256) (s.modFreeCtr (· + 1)) =
      some (n, ephemeralDrawn i n s) := transAlloc_of_free (s := s.modFreeCtr (· + 1)) hquota hfree ..
  have hjobs : placeJobs i [(.derive, n), (.sign, sign)] [] (ephemeralDrawn i n s) = flightJobs i n sign s :=
    (placeJobs_of_fit (jobs := [(.derive, n), (.sign, sign)]) (s := ephemeralDrawn i n s) hfit (by simp) []).1
  have hready : ¬ (!drbgOk s) = true := by simp [hdrbg]
  unfold serverFlight
  rw [hrole]
  dsimp only [drbgDraw, draw]
  rw [if_neg hready, if_neg (by decide), halloc]
  dsimp only
  rw [if_neg (by decide), hjobs]

end

section
variable {i : Fin 32} {has12 has13 fits share pf : Bool} {k n : Nat} {a : Option Nat} {p : List Nat} {c : Chain} {s : State}

/-! The hello (12 R404, R409, R410). -/

/-- The version of the handshake is chosen. -/
def tlsChosen (i : Fin 32) (v : Nat) (s : State) : State := s.modSes i fun x => { x with tls := v }

theorem chainBlocks_modSes (f : PtSes → PtSes) : chainBlocks (s.modSes i f) k = chainBlocks s k := rfl

section
variable (hserved : served s i = true) (hwant : s.ses[i].tlsWanted = true) (hstage : s.ses[i].stage = .handshake) (hhs : s.ses[i].hs = 0)
include hserved hwant hstage hhs

theorem exec_tlsClientHello_12 (h1 : v2gProto s 1 = true) (h2 : v2gProto s 2 = false) (h3 : v2gProto s 3 = false)
    (hchain : chainBlocks s 1 ≠ 0) :
    exec (.tlsClientHello i true has13 true share k none) s = .next (serverFlight i 1 6 (tlsChosen i 1 s)) := by
  change execTlsClientHello i true has13 true share k none s = _
  simp [execTlsClientHello, -Fin.getElem_fin, hserved, hwant, hstage, hhs, h1, h2, h3, tlsChosen, chainBlocks_modSes, hchain]

theorem exec_tlsClientHello_retry (h2 : v2gProto s 2 = true) (hk : k = 2 ∨ k = 3) (hchain : chainBlocks s k ≠ 0)
    (hretry : s.ses[i].helloRetry = false) :
    exec (.tlsClientHello i has12 true true false k a) s =
      .next ((sendMessage i 0x211 [] (tlsChosen i 2 s)).modSes i fun x => { x with helloRetry := true }) := by
  change execTlsClientHello i has12 true true false k a s = _
  rcases hk with rfl | rfl <;>
    simp [execTlsClientHello, -Fin.getElem_fin, hserved, hwant, hstage, hhs, h2, tlsChosen, chainBlocks_modSes, hchain, hretry]

theorem exec_tlsClientHello_unfit : exec (.tlsClientHello i false false fits share k a) s = .next (tlsFail i 70 s) := by
  change execTlsClientHello i false false fits share k a s = _
  simp [execTlsClientHello, -Fin.getElem_fin, hserved, hwant, hstage, hhs]

theorem tlsClientHello_flight (h1 : v2gProto s 1 = true) (h2 : v2gProto s 2 = false) (h3 : v2gProto s 3 = false)
    (hchain : chainBlocks s 1 ≠ 0) (hrole : roleSlot s 6 = some n) (hdrbg : drbgOk s = true) (hquota : transHeld s .ses < 104)
    (hfree : (transFree s).isSome = true) (hfit : jobsFit i s = true) :
    Does (.tlsClientHello i true has13 true share k none) s [.keys, .ports, .plc, .ses, .freeCtr] fun t =>
      t.ses = s.ses.set i { s.ses[i] with tls := 1, hs := 1 } ∧ transHeld t .ses = transHeld s .ses + 1 ∧ jobsOf t i.val = 2 ∧
        t.keys.slots = s.keys.slots ∧ OtherPoints i s t := by
  obtain ⟨m, hm⟩ := Option.isSome_iff_exists.mp hfree
  have hexec := exec_tlsClientHello_12 (has13 := has13) (share := share) (k := k) hserved hwant hstage hhs h1 h2 h3 hchain
  rw [serverFlight_sent (s := tlsChosen i 1 s) hrole hdrbg hquota hm hfit] at hexec
  have hflight := upd_flightJobs i m n (tlsChosen i 1 s)
  have hkeys : (sendMessage i 0x210 [1] (flightJobs i m n (tlsChosen i 1 s))).keys = (flightJobs i m n (tlsChosen i 1 s)).keys :=
    (upd_sendMessage ..).keys rfl
  refine ⟨_, hexec, ?_, ?_, ?_, ?_, ?_, ?_⟩
  · exact .comp (upd_modSes ..) rfl (.comp (upd_sendMessage ..) rfl (.comp hflight rfl ((upd_modSes ..).mono rfl)))
  · rw [State.modSes_ses, (upd_sendMessage ..).ses rfl, hflight.ses rfl]
    simp [tlsChosen]
  · rw [← transHeld_flightJobs (i := i) (n := m) (sign := n), transHeld, State.modSes_keys, hkeys]
    rfl
  · have hcount := placeJobs_of_fit (s := ephemeralDrawn i m (tlsChosen i 1 s)) (jobs := [(.derive, m), (.sign, n)]) hfit (by simp) []
    exact (jobsOf_congr hkeys i.val).trans hcount.2
  · rw [State.modSes_keys, hkeys]
    rfl
  · exact (((otherPoints_modSes i _ s).trans (hflight.otherPoints rfl i)).trans (otherPoints_sendMessage i _ _ _)).trans
      (otherPoints_modSes i _ _)

theorem tlsClientHello_retries (h2 : v2gProto s 2 = true) (hk : k = 2 ∨ k = 3) (hchain : chainBlocks s k ≠ 0)
    (hretry : s.ses[i].helloRetry = false) :
    Does (.tlsClientHello i has12 true true false k a) s [.ports, .plc, .ses] fun t =>
      t.ses = s.ses.set i { s.ses[i] with tls := 2, helloRetry := true } := by
  refine ⟨_, exec_tlsClientHello_retry hserved hwant hstage hhs h2 hk hchain hretry, ?_, ?_⟩
  · exact .comp (upd_modSes ..) rfl (.comp (upd_sendMessage ..) rfl ((upd_modSes ..).mono rfl))
  · dsimp only
    rw [State.modSes_ses, (upd_sendMessage ..).ses rfl]
    simp [tlsChosen]

end

/-! What does not fit (12 R436, Table 12.9). -/

/-- A handshake that fails: event 0x4304 with the alert and the version, and a strike. -/
theorem does_tlsFail {c : Instr} {alert : Nat} (hexec : exec c s = .next (tlsFail i alert s)) :
    Does c s [.keys, .cp, .plc, .ses, .sesSys, .ev, .sen] fun t =>
      Struck i s t ∧ t.ev = (strikeEv i s (raise 0x4304 4 i.val (alert * 2 ^ 24 + tlsVer s i * 2 ^ 16) s)).ev :=
  ⟨_, hexec, upd_tlsFail .., struck_vehicleFault (strikeReads_raise ..), (vehicleFault_events (strikeReads_raise ..) (.refl _)).ev⟩

theorem tlsAlert_fails (hopen : s.ses[i].tcpOpen = true) (hwant : s.ses[i].tlsWanted = true) (hml : s.sen.mlSig = false) :
    Does (.tlsAlert i k) s [.keys, .cp, .plc, .ses, .sesSys, .ev, .sen] fun t =>
      Struck i s t ∧ t.ev = (strikeEv i s (raise 0x4304 4 i.val (k % 256 * 2 ^ 24 + tlsVer s i * 2 ^ 16) s)).ev :=
  does_tlsFail (congrArg Host.Outcome.next (if_pos (by simp [-Fin.getElem_fin, hopen, hwant, hml])))

theorem v2gtpProtocolError_fails (hserved : served s i = true) (hstage : s.ses[i].stage ≠ .handshake) (hlow : 1 ≤ k) (hhigh : k ≤ 3) :
    Does (.v2gtpProtocolError i k) s [.keys, .cp, .plc, .ses, .sesSys, .ev, .sen] fun t =>
      Struck i s t ∧ t.ev = (strikeEv i s (raise 0x4307 4 i.val (k * 2 ^ 24) s)).ev ∧
        t.ses[i].ended = (if s.ses[i].ended.isSome then s.ses[i].ended else some 13) := by
  have hexec : exec (.v2gtpProtocolError i k) s = .next (vehicleFault i (raise 0x4307 4 i.val (k * 2 ^ 24) s)) :=
    congrArg Host.Outcome.next (if_pos (by simp [-Fin.getElem_fin, hserved, hstage, hlow, hhigh]))
  refine does_of_exec hexec (upd_execV2gtpProtocolError i k s) ⟨struck_vehicleFault (strikeReads_raise ..),
    (vehicleFault_events (strikeReads_raise ..) (.refl _)).ev, ?_⟩
  have hses : (raise 0x4307 4 i.val (k * 2 ^ 24) s).ses = s.ses := raise_ses ..
  rw [vehicleFault_ended (by rw [hses]; exact served_tcpOpen hserved) (by rwa [hses]), hses]

theorem v2gtpProtocolError_idles (hstage : s.ses[i].stage = .handshake) : Idles (.v2gtpProtocolError i k) s :=
  congrArg Host.Outcome.next (if_neg (by simp [-Fin.getElem_fin, hstage]))

/-! Key exchange, certificate and Finished (12 R409, R410, R413, R419). -/

/-- A point without a handshake slot has none to free. -/
theorem freeHandshake_of_none (h : i.val ∉ s.sesSys.handshakes) : freeHandshake i s = s := if_pos (by simpa using h)

/-- Where no request is deferred, the slot of a point is free. -/
theorem freeHandshake_not_mem (h : s.sesSys.admission = []) : i.val ∉ (freeHandshake i s).sesSys.handshakes := by
  unfold freeHandshake
  split
  next hnone => simpa using hnone
  next => simp [h]

/-- The Finished of the vehicle is answered, and the session goes to APP. -/
def finishedSent (i : Fin 32) (s : State) : State := (sendMessage i 0x212 [] s).modSes i fun x => { x with stage := .app }

theorem upd_finishedSent (i : Fin 32) (s : State) : Upd [.ports, .plc, .ses] s (finishedSent i s) :=
  .comp (upd_modSes ..) rfl ((upd_sendMessage ..).mono rfl)

theorem finishedSent_ses (i : Fin 32) (s : State) : (finishedSent i s).ses = s.ses.set i { s.ses[i] with stage := .app } := by
  rw [finishedSent, State.modSes_ses, (upd_sendMessage ..).ses rfl]

section
variable (hserved : served s i = true) (hstage : s.ses[i].stage = .handshake)
include hserved hstage

theorem tlsClientKeyExchange_agrees (htls : s.ses[i].tls = 1) (hhs : s.ses[i].hs = 1)
    (heph : ephSlot s i = some n) (hcap : jobsOf s i.val < 4) (hroom : s.keys.queue.length < 64) :
    Does (.tlsClientKeyExchange i p) s [.keys, .ses] fun t =>
      t.ses = s.ses.set i { s.ses[i] with hs := 2 } ∧ jobsOf t i.val = jobsOf s i.val + 1 := by
  have hjobs : placeJobs i [(.agree, n)] p s = jobsPlaced i [(.agree, n)] p s := placeJobs_of_room hcap hroom
  have hexec : exec (.tlsClientKeyExchange i p) s = .next ((jobsPlaced i [(.agree, n)] p s).modSes i fun x => { x with hs := 2 }) := by
    change execTlsClientKeyExchange i p s = _
    simp [execTlsClientKeyExchange, -Fin.getElem_fin, hserved, hstage, htls, hhs, heph, hjobs]
  exact ⟨_, hexec, .comp (upd_modSes ..) rfl ((upd_jobsPlaced ..).mono rfl), rfl, jobsOf_jobsPlaced [(.agree, n)] p⟩

theorem tlsClientKeyExchange_fails (h : s.ses[i].tls ≠ 1 ∨ s.ses[i].hs ≠ 1) :
    Does (.tlsClientKeyExchange i p) s [.keys, .cp, .plc, .ses, .sesSys, .ev, .sen] fun t =>
      Struck i s t ∧ t.ev = (strikeEv i s (raise 0x4304 4 i.val (10 * 2 ^ 24 + tlsVer s i * 2 ^ 16) s)).ev := by
  refine does_tlsFail (congrArg Host.Outcome.next ((if_neg ?_).trans (if_pos ?_)))
  · simp [-Fin.getElem_fin, hserved, hstage]
  · simpa [-Fin.getElem_fin] using h

theorem tlsClientCertificate_verifies (htls : s.ses[i].tls = 2) (hhs : s.ses[i].hs = 1)
    (hchain : chainCheck s [3] [2, 3] false c = 0) (hfit : jobsFit i s = true) :
    Does (.tlsClientCertificate i (some c) true) s [.keys, .ses] fun t =>
      t.ses = s.ses.set i { s.ses[i] with hs := 2 } ∧ jobsOf t i.val = 4 := by
  obtain ⟨hjobs, hcount⟩ := placeJobs_of_fit (jobs := List.replicate 4 (.verify, 0xFF)) hfit (by simp) []
  have hplaced : chainCheck (jobsPlaced i (List.replicate 4 (.verify, 0xFF)) [] s) [3] [2, 3] false c = 0 := hchain
  have hexec : exec (.tlsClientCertificate i (some c) true) s =
      .next ((jobsPlaced i (List.replicate 4 (.verify, 0xFF)) [] s).modSes i fun x => { x with hs := 2 }) := by
    change execTlsClientCertificate i (some c) true s = _
    simp only [execTlsClientCertificate, hjobs, hplaced]
    simp [-Fin.getElem_fin, hserved, hstage, htls, hhs]
  exact ⟨_, hexec, .comp (upd_modSes ..) rfl ((upd_jobsPlaced ..).mono rfl), rfl, hcount⟩

theorem tlsClientCertificate_none (htls : s.ses[i].tls = 2) (hhs : s.ses[i].hs = 1) :
    Does (.tlsClientCertificate i none pf) s [.keys, .cp, .plc, .ses, .sesSys, .ev, .sen] fun t =>
      if v2g s 0 117 117 = 1 then
        Struck i s t ∧ t.ev = (strikeEv i s (raise 0x4304 4 i.val (116 * 2 ^ 24 + 3 * 2 ^ 16) s)).ev
      else t.ses = s.ses.set i { s.ses[i] with hs := 2 } ∧ t.keys = s.keys := by
  have hexec : exec (.tlsClientCertificate i none pf) s =
      .next (if v2g s 0 117 117 = 1 then tlsFail i 116 s else s.modSes i fun x => { x with hs := 2 }) := by
    change execTlsClientCertificate i none pf s = _
    simp [execTlsClientCertificate, -Fin.getElem_fin, hserved, hstage, htls, hhs]
  have hver : tlsVer s i = 3 := if_pos htls
  split
  case isTrue hasked =>
    rw [if_pos hasked] at hexec
    rw [← hver]
    exact does_tlsFail hexec
  case isFalse hasked =>
    rw [if_neg hasked] at hexec
    exact ⟨_, hexec, (upd_modSes ..).mono rfl, rfl, rfl⟩

theorem exec_tlsClientFinished (hhs : s.ses[i].hs = 2) :
    exec (.tlsClientFinished i true) s = .next (freeHandshake i (finishedSent i s)) := by
  change execTlsClientFinished i true s = _
  simp [execTlsClientFinished, finishedSent, -Fin.getElem_fin, hserved, hstage, hhs]

theorem tlsClientFinished_opens (hhs : s.ses[i].hs = 2) (hslot : i.val ∉ s.sesSys.handshakes) :
    Does (.tlsClientFinished i true) s [.ports, .plc, .ses, .sesSys] fun t => t.ses = s.ses.set i { s.ses[i] with stage := .app } := by
  have hexec := exec_tlsClientFinished hserved hstage hhs
  rw [freeHandshake_of_none (by rwa [(upd_finishedSent i s).sesSys rfl])] at hexec
  exact ⟨_, hexec, (upd_finishedSent i s).mono rfl, finishedSent_ses i s⟩

theorem tlsClientFinished_frees (hhs : s.ses[i].hs = 2) (hnobody : s.sesSys.admission = []) :
    Does (.tlsClientFinished i true) s [.ports, .plc, .ses, .sesSys] fun t => t.ses[i].stage = .app ∧ i.val ∉ t.sesSys.handshakes := by
  refine ⟨_, exec_tlsClientFinished hserved hstage hhs, .comp (upd_freeHandshake ..) rfl ((upd_finishedSent i s).mono rfl), ?_, ?_⟩
  · rw [freeHandshake_stage, finishedSent_ses]
    simp
  · exact freeHandshake_not_mem (by rwa [(upd_finishedSent i s).sesSys rfl])

theorem tlsClientFinished_fails (hhs : s.ses[i].hs = 2) :
    Does (.tlsClientFinished i false) s [.keys, .cp, .plc, .ses, .sesSys, .ev, .sen] fun t =>
      Struck i s t ∧ t.ev = (strikeEv i s (raise 0x4304 4 i.val (51 * 2 ^ 24 + tlsVer s i * 2 ^ 16) s)).ev := by
  refine does_tlsFail ?_
  change execTlsClientFinished i false s = _
  simp [execTlsClientFinished, -Fin.getElem_fin, hserved, hstage, hhs]

end

theorem tlsMessages_idle_unserved (h : served s i = false) : Idles (.tlsClientFinished i true) s ∧ Idles (.tlsClientCertificate i none true) s ∧
    Idles (.tlsClientKeyExchange i []) s := by
  refine ⟨congrArg Host.Outcome.next (if_pos ?_), congrArg Host.Outcome.next (if_pos ?_), congrArg Host.Outcome.next (if_pos ?_)⟩
  all_goals simp [h]

end

/-- Settles O33: the flight, the key exchange, the certificate and Finished each move their own session, and every failure is one vehicle fault:
the connection closed with a strike. -/
theorem tlsHandshake : Obligations.TlsHandshake := by
  unfold Obligations.TlsHandshake
  exact ⟨fun _ _ _ _ _ _ => tlsClientHello_flight, fun _ _ _ _ _ => tlsClientHello_retries,
    fun _ _ _ _ _ _ hserved hwant hstage hhs => does_tlsFail (exec_tlsClientHello_unfit hserved hwant hstage hhs),
    fun _ _ _ _ => tlsClientKeyExchange_agrees, fun _ _ _ => tlsClientKeyExchange_fails, fun _ _ _ => tlsClientCertificate_verifies,
    fun _ _ _ => tlsClientCertificate_none, fun _ _ => tlsClientFinished_opens, fun _ _ => tlsClientFinished_frees,
    fun _ _ => tlsClientFinished_fails, fun _ _ => tlsMessages_idle_unserved, fun _ _ _ => tlsAlert_fails,
    fun _ _ _ => v2gtpProtocolError_fails, fun _ _ _ => v2gtpProtocolError_idles⟩

end Sys2Proof.Machine
end

section
/-! PROOF. The messages up to authorisation: protocol, SessionID, service, contract and authorisation (12 R402, R411, R412, R416 to R418). -/

namespace Sys2Proof.Machine

section
variable {i : Fin 32} {es : List (Nat × Nat)} {e : Nat × Nat} {v m ms : Nat} {pnc : Bool} {s : State}

/-! The protocol and the SessionID (12 R411, R412). -/

/-- The entries of an offer that the hub supports over the session's TLS version. -/
def entriesServed (i : Fin 32) (es : List (Nat × Nat)) (s : State) : List (Nat × Nat) :=
  es.filter fun e => v2gProto s e.2 && (if s.ses[i].tls == 2 then decide (2 ≤ e.2) else e.2 == 1)

theorem entriesServed_requestHeard : entriesServed i es (requestHeard i s) = entriesServed i es s := by
  unfold entriesServed
  rw [requestHeard_ses]
  rfl

/-- The answer that no entry of the offer is supported; its strikes are used up. -/
def noProtocolAnswered (i : Fin 32) (ms : Nat) (s : State) : State :=
  (respond i false 1 6 ms [] (requestHeard i s)).modSes i fun x => { x with strikes := 3 }

theorem exec_supportedAppProtocolReq (hserved : served s i = true) (hstage : s.ses[i].stage = .app) :
    exec (.supportedAppProtocolReq i es ms) s = .next ((bestEntry (v2g s 0 124 124 == 1) (entriesServed i es s)).elim
      (withdrawHlc i (noProtocolAnswered i ms s))
      fun e => (respond i false 1 0 ms [e.2] (requestHeard i s)).modSes i fun x => { x with proto := e.2, stage := .setup }) := by
  refine congrArg Host.Outcome.next ((request_first hserved hstage (by simp) (by simp)).trans ?_)
  change (match bestEntry (v2g s 0 124 124 == 1) (entriesServed i es (requestHeard i s)) with | some _ => _ | none => _) = _
  rw [entriesServed_requestHeard]
  cases bestEntry (v2g s 0 124 124 == 1) (entriesServed i es s) <;> rfl

theorem supportedAppProtocolReq_chooses (hserved : served s i = true) (hstage : s.ses[i].stage = .app)
    (hbest : bestEntry (v2g s 0 124 124 == 1) (entriesServed i es s) = some e) :
    Does (.supportedAppProtocolReq i es ms) s [.ports, .plc, .ses, .sesSys, .ev, .sen] fun t =>
      t.ses[i].proto = e.2 ∧ t.ses[i].stage = .setup ∧ Replied i 1 0 ms s t ∧ t.ev = (lateEv i false ms s).ev := by
  have hexec := exec_supportedAppProtocolReq (es := es) (ms := ms) hserved hstage
  rw [hbest, Option.elim_some] at hexec
  refine does_of_answered hexec ((respReads_requestHeard i s).answered_modSes fun _ => rfl) ((upd_requestHeard i s).mono rfl) rfl fun t ht => ?_
  refine ⟨?_, ?_, ht.replied, ht.ev⟩
  · rw [ht.ses]
  · rw [ht.ses]

theorem supportedAppProtocolReq_withdraws (hserved : served s i = true) (hstage : s.ses[i].stage = .app)
    (hbest : bestEntry (v2g s 0 124 124 == 1) (entriesServed i es s) = none) :
    Does (.supportedAppProtocolReq i es ms) s [.keys, .ports, .cp, .plc, .ses, .sesSys, .ev, .sen] fun t =>
      ConnClosed i s t ∧ t.ses[i].stage = .basic ∧ t.ses[i].hlcOff = true ∧ Replied i 1 6 ms s t ∧
        t.ev = (raise 0x4308 4 i.val 3 (lateEv i false ms s)).ev := by
  have hexec := exec_supportedAppProtocolReq (es := es) (ms := ms) hserved hstage
  rw [hbest, Option.elim_none] at hexec
  have hresp := (strikeReads_requestHeard i s).trans (strikeReads_respond i false 1 6 ms [] (requestHeard i s))
  have hans : Answered i false 1 6 ms s (requestHeard i s) _ (noProtocolAnswered i ms s) :=
    (respReads_requestHeard i s).answered_modSes fun _ => rfl
  have hsame : EventsAgree (lateEv i false ms s) (noProtocolAnswered i ms s) :=
    (respReads_requestHeard i s).respond_events.trans ((upd_modSes ..).eventsAgree rfl rfl rfl rfl)
  obtain ⟨_, _, _, hses, _⟩ := withdrawHlc_ses i (noProtocolAnswered i ms s)
  have hclosed := (linkCleared_withdrawHlc i (noProtocolAnswered i ms s)).of_before hresp.slac hresp.slots
    (hresp.others.trans (otherPoints_modSes i _ _).otherLinks)
  refine ⟨_, hexec, .comp (upd_withdrawHlc ..) rfl (.comp hans.upd rfl ((upd_requestHeard i s).mono rfl)),
    hclosed.connClosed (noConnection_withdrawHlc ..), ?_, ?_, hans.replied.later (withdrawHlc_replyOf ..), ?_⟩
  · rw [hses, hans.ses, requestHeard_ses]
    simp only [sesReplied, hstage]
    rfl
  · rw [hses]
  · have hevents := withdrawHlc_events i (noProtocolAnswered i ms s)
    rw [hans.ses] at hevents
    exact ((hsame.raise ..).trans hevents).ev

/-- Four bytes of the DRBG complete the SessionID. -/
def idDrawn (i : Fin 32) (s : State) : State :=
  (s.modFreeCtr (· + 1)).modSes i fun x => { x with idTail := Config.freeValue s.freeCtr % 2 ^ 32, idSet := true }

theorem sessionSetupReq_names (hserved : served s i = true) (hstage : s.ses[i].stage = .setup) (hid : s.ses[i].idSet = false)
    (hdrbg : drbgOk s = true) :
    Does (.sessionSetupReq i ms) s [.ports, .plc, .ses, .sesSys, .ev, .sen, .freeCtr] fun t =>
      t.ses[i].idSet = true ∧ sessionId t i = s.ses[i].no * 2 ^ 32 + Config.freeValue s.freeCtr % 2 ^ 32 ∧ Replied i 2 0 ms s t ∧
        t.ses[i].stage = .setup ∧ t.ev = (lateEv i false ms s).ev := by
  have hheard : drbgOk (requestHeard i s) = true := hdrbg
  have hready : ¬ (!drbgOk (requestHeard i s)) = true := by simp [hheard]
  have hexec : exec (.sessionSetupReq i ms) s = .next (respond i false 2 0 ms (bytesBE 8 (sessionId (idDrawn i (requestHeard i s)) i))
      (idDrawn i (requestHeard i s))) :=
    congrArg Host.Outcome.next ((request_first hserved hstage (by simp [-Fin.getElem_fin, hid]) (by simp)).trans (if_neg hready))
  have hdrawn : Upd [.ses, .freeCtr] (requestHeard i s) (idDrawn i (requestHeard i s)) :=
    .comp (upd_modSes ..) rfl ((upd_modFreeCtr ..).mono rfl)
  have hses : (idDrawn i (requestHeard i s)).ses[i] =
      { s.ses[i] with retrans := 0, idTail := Config.freeValue s.freeCtr % 2 ^ 32, idSet := true } := by
    rw [idDrawn, modSes_ses_same, State.modFreeCtr_ses, requestHeard_ses]
    rfl
  have hreads : RespReads i s (idDrawn i (requestHeard i s)) :=
    ⟨by rw [hses]; rfl, (respReads_requestHeard i s).events.trans (hdrawn.eventsAgree rfl rfl rfl rfl), rfl⟩
  refine does_of_answered hexec hreads.answered (.comp hdrawn rfl ((upd_requestHeard i s).mono rfl)) rfl fun t ht => ?_
  have htses := ht.ses
  rw [hses] at htses
  refine ⟨?_, ?_, ht.replied, ?_, ht.ev⟩
  · rw [htses, sesReplied]
  · rw [sessionId, htses, sesReplied]
  · rw [htses]
    exact hstage

/-! The service selection (12 R402, R425). -/

theorem offersService_requestHeard : offersService (requestHeard i s) i v = offersService s i v := by
  unfold offersService
  rw [requestHeard_ses]
  rfl

theorem offersMode_requestHeard : offersMode (requestHeard i s) i m = offersMode s i m := by
  unfold offersMode
  rw [requestHeard_ses]
  rfl

theorem offersPayment_requestHeard : offersPayment (requestHeard i s) i pnc = offersPayment s i pnc := by
  unfold offersPayment
  rw [requestHeard_ses]
  rfl

theorem exec_serviceSelectionReq (hasked : sesAsked i .setup s = true) : exec (.serviceSelectionReq i (sessionId s i) v m pnc ms) s = .next
    (if offersService s i v && offersMode s i m && offersPayment s i pnc then
      (respond i false 3 0 ms [] (requestHeard i s)).modSes i fun x => { x with
        pnc := pnc, eim := !pnc, stage := .auth, mode := if x.proto = 1 then 0 else m
        proto := if x.proto = 1 then 1 else if v = 2 then 3 else 2 }
    else stopping i 13 (respond i false 3 4 ms [] (requestHeard i s))) := by
  rw [← offersService_requestHeard, ← offersMode_requestHeard, ← offersPayment_requestHeard]
  exact congrArg Host.Outcome.next (request_asked hasked (by simp) (by simp))

theorem serviceSelectionReq_selects (hasked : sesAsked i .setup s = true) (hservice : offersService s i v = true)
    (hmode : offersMode s i m = true) (hpay : offersPayment s i pnc = true) :
    Does (.serviceSelectionReq i (sessionId s i) v m pnc ms) s [.ports, .plc, .ses, .sesSys, .ev, .sen] fun t =>
      t.ses[i].pnc = pnc ∧ t.ses[i].eim = !pnc ∧ t.ses[i].stage = .auth ∧ t.ses[i].mode = (if s.ses[i].proto = 1 then 0 else m) ∧
        t.ses[i].proto = (if s.ses[i].proto = 1 then 1 else if v = 2 then 3 else 2) ∧ Replied i 3 0 ms s t ∧
        t.ev = (lateEv i false ms s).ev := by
  have hexec := exec_serviceSelectionReq (v := v) (m := m) (pnc := pnc) (ms := ms) hasked
  rw [if_pos (by simp [hservice, hmode, hpay])] at hexec
  refine does_of_answered hexec ((respReads_requestHeard i s).answered_modSes fun _ => rfl) ((upd_requestHeard i s).mono rfl) rfl fun t ht => ?_
  have hses := ht.ses
  rw [requestHeard_ses] at hses
  rw [hses]
  exact ⟨rfl, rfl, rfl, rfl, rfl, ht.replied, ht.ev⟩

theorem serviceSelectionReq_stops (hasked : sesAsked i .setup s = true)
    (h : offersService s i v = false ∨ offersMode s i m = false ∨ offersPayment s i pnc = false) :
    Does (.serviceSelectionReq i (sessionId s i) v m pnc ms) s [.ports, .plc, .ses, .sesSys, .ev, .sen] fun t =>
      t.ses[i].stage = .stopping ∧ t.ses[i].ended = (if s.ses[i].ended.isSome then s.ses[i].ended else some 13) ∧ Replied i 3 4 ms s t ∧
        t.ev = (lateEv i false ms s).ev := by
  have hexec := exec_serviceSelectionReq (v := v) (m := m) (pnc := pnc) (ms := ms) hasked
  rw [if_neg (by rcases h with h | h | h <;> simp [h])] at hexec
  refine does_of_answered hexec ((respReads_requestHeard i s).answered_stopping (requestHeard_tcpOpen hasked))
    ((upd_requestHeard i s).mono rfl) rfl fun t ht => ?_
  have hses := ht.ses
  rw [requestHeard_ses] at hses
  rw [hses]
  exact ⟨rfl, rfl, ht.replied, ht.ev⟩

theorem serviceSelectionReq_unknown {sid : Nat} (hserved : served s i = true) (hpast : s.ses[i].stage ≠ .handshake)
    (hid : sid ≠ sessionId s i ∨ s.ses[i].idSet = false) :
    Does (.serviceSelectionReq i sid v m pnc ms) s [.keys, .ports, .cp, .plc, .ses, .sesSys, .ev, .sen] fun t =>
      Struck i s t ∧ Replied i 3 2 ms s t ∧ t.ev = (strikeEv i s (lateEv i false ms s)).ev :=
  does_protocolFail (congrArg Host.Outcome.next (request_of_unknown hserved hpast hid))

theorem serviceSelectionReq_out_of_stage (hasked : sesAsked i .loop s = true) :
    Does (.serviceSelectionReq i (sessionId s i) v m pnc ms) s [.keys, .ports, .cp, .plc, .ses, .sesSys, .ev, .sen] fun t =>
      Struck i s t ∧ Replied i 3 3 ms s t ∧ t.ev = (strikeEv i s (lateEv i false ms s)).ev :=
  does_protocolFail (congrArg Host.Outcome.next (request_out_of_stage hasked (by simp) (by simp)))

theorem serviceSelectionReq_idles {sid : Nat} (h : served s i = false) : Idles (.serviceSelectionReq i sid v m pnc ms) s :=
  congrArg Host.Outcome.next (request_unserved h)

end

section
variable {i : Fin 32} {ten ms : Nat} {ok : Bool} {c : Chain} {ch : Option Chain} {b : BindSnap} {s u : State}

/-! The contract (12 R416, R417). -/

/-- The normalised eMAID of a contract chain, without its check character (12 R417). -/
def contractEmaid (c : Chain) : List Nat := (emaidChars c.cn).take 14

/-- The tenant of the running image that an eMAID names (13 R445). -/
def tenantOf (emaid : List Nat) (s : State) : Option Nat := emaidTenant emaid (((recOf s 0x51 0).getD []).drop 1)

/-- The eMAID of a contract is kept. -/
def emaidKept (i : Fin 32) (c : Chain) (s : State) : State := s.modSes i fun x => { x with emaid := contractEmaid c }

/-- A contract stands. -/
def contractTaken (i : Fin 32) (c : Chain) (s : State) : State := (emaidKept i c s).modSes i fun x => { x with chainOk := true }

theorem upd_contractTaken (i : Fin 32) (c : Chain) (s : State) : Upd [.ses] s (contractTaken i c s) := .comp (upd_modSes ..) rfl (upd_modSes ..)

theorem contractTaken_ses (i : Fin 32) (c : Chain) (s : State) :
    (contractTaken i c s).ses[i] = { s.ses[i] with emaid := contractEmaid c, chainOk := true } := by
  rw [contractTaken, modSes_ses_same, emaidKept, modSes_ses_same]

theorem respReads_contractTaken (i : Fin 32) (c : Chain) (s : State) : RespReads i s (contractTaken i c s) :=
  ⟨by rw [contractTaken_ses]; rfl, (upd_contractTaken ..).eventsAgree rfl rfl rfl rfl, rfl⟩

theorem contractCheck_stands (hproto : s.ses[i].proto = 1) (hcheck : chainCheck s [1, 2] [1] true c = 0)
    (hten : tenantOf (contractEmaid c) s = some ten) (hfree : ten ∉ s.gates.blockSnap) :
    contractCheck i c s = (0, contractTaken i c s) := by
  have htenant : tenantOf (contractEmaid c) (emaidKept i c s) = some ten := hten
  have hopen : ¬ (emaidKept i c s).gates.blockSnap.contains ten = true := by simpa [emaidKept] using hfree
  unfold contractCheck
  rw [if_pos hproto]
  dsimp only
  rw [hcheck]
  change (match tenantOf (contractEmaid c) (emaidKept i c s) with
    | none => _
    | some t => if (emaidKept i c s).gates.blockSnap.contains t then _ else _) = _
  rw [htenant]
  exact if_neg hopen

theorem contractCheck_fails (hproto : s.ses[i].proto = 1) (hcheck : chainCheck s [1, 2] [1] true c ≠ 0) :
    contractCheck i c s = (5, raise 0x4305 4 i.val (chainCheck s [1, 2] [1] true c) s) := by
  unfold contractCheck
  rw [if_pos hproto]
  dsimp only
  split
  · exact absurd ‹_› hcheck
  · rfl

/-- The three jobs that a contract chain asks for are placed. -/
def contractJobs (i : Fin 32) (s : State) : State := jobsPlaced i (List.replicate 3 (.verify, 0xFF)) [] (requestHeard i s)

theorem contractJobs_ses (i : Fin 32) (s : State) : (contractJobs i s).ses[i] = { s.ses[i] with retrans := 0 } := requestHeard_ses i s

theorem respReads_contractJobs (i : Fin 32) (s : State) : RespReads i s (contractJobs i s) :=
  (respReads_requestHeard i s).trans (respReads_jobsPlaced ..)

theorem strikeReads_contractJobs (i : Fin 32) (s : State) : StrikeReads i s (contractJobs i s) :=
  (strikeReads_requestHeard i s).trans (strikeReads_jobsPlaced ..)

theorem upd_contractJobs (i : Fin 32) (s : State) : Upd [.keys, .ses] s (contractJobs i s) :=
  .comp (upd_jobsPlaced ..) rfl ((upd_requestHeard i s).mono rfl)

section
variable (hasked : sesAsked i .auth s = true) (hproto : s.ses[i].proto = 1) (hpnc : s.ses[i].pnc = true) (hchain : s.ses[i].chainOk = false)
  (hfit : jobsFit i s = true)
include hasked hproto hpnc hchain hfit

theorem exec_paymentDetailsReq {code : Nat} (hcheck : contractCheck i c (contractJobs i s) = (code, u)) :
    exec (.paymentDetailsReq i (sessionId s i) c ms) s =
      .next (if code = 0 then respond i true 4 0 ms [] u else closeConn i (respond i true 4 code ms [] u)) := by
  have hjobs : placeJobs i (List.replicate 3 (.verify, 0xFF)) [] (requestHeard i s) = contractJobs i s :=
    (placeJobs_of_fit (s := requestHeard i s) hfit (by simp) []).1
  refine congrArg Host.Outcome.next ((request_asked hasked (by simp [-Fin.getElem_fin, hproto, hpnc, hchain]) (by simp)).trans ?_)
  dsimp only
  rw [hjobs, hcheck]
  cases code <;> rfl

theorem paymentDetailsReq_stands (hcheck : chainCheck s [1, 2] [1] true c = 0) (hten : tenantOf (contractEmaid c) s = some ten)
    (hfree : ten ∉ s.gates.blockSnap) :
    Does (.paymentDetailsReq i (sessionId s i) c ms) s [.keys, .ports, .plc, .ses, .sesSys, .ev, .sen] fun t =>
      t.ses[i].chainOk = true ∧ t.ses[i].emaid = contractEmaid c ∧ t.ses[i].stage = .auth ∧ jobsOf t i.val = 3 ∧
        Replied i 4 0 ms s t ∧ t.ev = (lateEv i true ms s).ev := by
  have hprotoJobs : (contractJobs i s).ses[i].proto = 1 := by rw [contractJobs_ses]; exact hproto
  have hstands := contractCheck_stands (s := contractJobs i s) hprotoJobs hcheck hten hfree
  have hexec := exec_paymentDetailsReq (ms := ms) hasked hproto hpnc hchain hfit hstands
  rw [if_pos rfl] at hexec
  have hreads : RespReads i s (contractTaken i c (contractJobs i s)) :=
    (respReads_contractJobs i s).trans (respReads_contractTaken ..)
  have hupd : Upd [.keys, .ses] s (contractTaken i c (contractJobs i s)) :=
    .comp (upd_contractTaken ..) rfl (upd_contractJobs i s)
  have hcount := (placeJobs_of_fit (s := requestHeard i s) (jobs := List.replicate 3 (.verify, 0xFF)) hfit (by simp) []).2
  refine does_of_answered hexec hreads.answered (hupd.mono rfl) rfl fun t ht => ?_
  have hses := ht.ses
  rw [contractTaken_ses, contractJobs_ses] at hses
  rw [hses, jobsOf_congr (ht.upd.keys rfl)]
  exact ⟨rfl, rfl, (sesAsked_iff.mp hasked).2.1, hcount, ht.replied, ht.ev⟩

theorem paymentDetailsReq_fails (hcheck : chainCheck s [1, 2] [1] true c ≠ 0) :
    Does (.paymentDetailsReq i (sessionId s i) c ms) s [.keys, .ports, .cp, .plc, .ses, .sesSys, .ev, .sen] fun t =>
      ConnClosed i s t ∧ Replied i 4 5 ms s t ∧
        t.ev = (lateEv i true ms (raise 0x4305 4 i.val (chainCheck s [1, 2] [1] true c) s)).ev := by
  have hprotoJobs : (contractJobs i s).ses[i].proto = 1 := by rw [contractJobs_ses]; exact hproto
  have hfails := contractCheck_fails (s := contractJobs i s) hprotoJobs hcheck
  have hexec := exec_paymentDetailsReq (ms := ms) hasked hproto hpnc hchain hfit hfails
  rw [if_neg (by simp)] at hexec
  have hreads : RespReads i (raise 0x4305 4 i.val (chainCheck s [1, 2] [1] true c) s)
      (raise 0x4305 4 i.val (chainCheck s [1, 2] [1] true c) (contractJobs i s)) := by
    refine ⟨?_, (respReads_contractJobs i s).events.raise .., ?_⟩
    · rw [raise_ses, raise_ses, (respReads_contractJobs i s).reply]
    · rw [raise_led, raise_led, (respReads_contractJobs i s).led]
  obtain ⟨hclosed, hreplied, hev⟩ :=
    hreads.closed (jobs := true) (kind := 4) (code := 5) (ms := ms) (fields := []) ((strikeReads_contractJobs i s).trans (strikeReads_raise ..))
  refine ⟨_, hexec, ?_, hclosed, hreplied.of_before (by rw [raise_ses]), hev⟩
  exact .comp (upd_closeConn ..) rfl (.comp (upd_respond ..) rfl (.comp (upd_raise ..) rfl ((upd_contractJobs i s).mono rfl)))

end

/-! The authorisation (12 R418). -/

/-- The LEDGER snapshot shows a binding of the point. -/
def snapBound (i : Fin 32) (s : State) : Bool := s.gates.ledgerSnap.any (·.point == i.val)

theorem snapBound_of_mem (hb : b ∈ s.gates.ledgerSnap) (hpoint : b.point = i.val) : snapBound i s = true :=
  List.any_eq_true.mpr ⟨b, hb, by simp [hpoint]⟩

theorem snapBound_of_none (h : ∀ b ∈ s.gates.ledgerSnap, b.point ≠ i.val) : snapBound i s = false := by
  rw [snapBound, List.any_eq_false]
  exact fun b hb => by simpa using h b hb

section
variable (hasked : sesAsked i .auth s = true)
include hasked

theorem authorizationReq_finished (hchain : s.ses[i].chainOk = true) (hb : b ∈ s.gates.ledgerSnap) (hpoint : b.point = i.val) :
    Does (.authorizationReq i (sessionId s i) ch ok ms) s [.ports, .plc, .ses, .sesSys, .ev, .sen] fun t =>
      t.ses[i].stage = .param ∧ Replied i 5 0 ms s t ∧ t.ev = (lateEv i false ms s).ev := by
  have hbound : snapBound i (requestHeard i s) = true := snapBound_of_mem (s := requestHeard i s) hb hpoint
  have hexec : exec (.authorizationReq i (sessionId s i) ch ok ms) s =
      .next ((respond i false 5 0 ms [0] (requestHeard i s)).modSes i fun x => { x with stage := .param }) :=
    congrArg Host.Outcome.next ((request_asked hasked (by simp [-Fin.getElem_fin, hchain]) (by simp)).trans (if_pos hbound))
  refine does_of_answered hexec ((respReads_requestHeard i s).answered_modSes fun _ => rfl) ((upd_requestHeard i s).mono rfl) rfl
    fun t ht => ⟨?_, ht.replied, ht.ev⟩
  rw [ht.ses]

theorem authorizationReq_waits (hpnc : s.ses[i].pnc = false) (hbad : s.ses[i].authBad = false)
    (hfree : ∀ b ∈ s.gates.ledgerSnap, b.point ≠ i.val) :
    Does (.authorizationReq i (sessionId s i) ch ok ms) s [.ports, .plc, .ses, .sesSys, .ev, .sen] fun t =>
      t.ses[i].stage = .auth ∧ t.ses[i].authSince = true ∧ Replied i 5 0 ms s t ∧ t.ev = (lateEv i false ms s).ev := by
  have hunbound : snapBound i (requestHeard i s) = false := snapBound_of_none (s := requestHeard i s) hfree
  have hexec : exec (.authorizationReq i (sessionId s i) ch ok ms) s =
      .next ((respond i false 5 0 ms [1] (requestHeard i s)).modSes i fun x => { x with authSince := true }) := by
    refine congrArg Host.Outcome.next ((request_asked hasked (by simp [-Fin.getElem_fin, hpnc]) (by simp)).trans ?_)
    dsimp only
    rw [requestHeard_ses, ← snapBound, hunbound, if_neg (by simp), if_neg (by simp [-Fin.getElem_fin, hbad]),
      if_pos (by simp [-Fin.getElem_fin, hpnc])]
  refine does_of_answered hexec ((respReads_requestHeard i s).answered_modSes fun _ => rfl) ((upd_requestHeard i s).mono rfl) rfl
    fun t ht => ⟨?_, ?_, ht.replied, ht.ev⟩
  · rw [ht.ses, requestHeard_ses]
    exact (sesAsked_iff.mp hasked).2.1
  · rw [ht.ses]

/-- A contract that the ledger has refused. -/
theorem authorizationReq_refused (hbad : s.ses[i].authBad = true) (hpnc : s.ses[i].pnc = false)
    (hfree : ∀ b ∈ s.gates.ledgerSnap, b.point ≠ i.val) :
    Does (.authorizationReq i (sessionId s i) ch ok ms) s [.keys, .ports, .cp, .plc, .ses, .sesSys, .ev, .sen] fun t =>
      ConnClosed i s t ∧ Replied i 5 1 ms s t ∧ t.ev = (lateEv i false ms s).ev := by
  have hunbound : snapBound i (requestHeard i s) = false := snapBound_of_none (s := requestHeard i s) hfree
  have hexec : exec (.authorizationReq i (sessionId s i) ch ok ms) s = .next (closeConn i (respond i false 5 1 ms [] (requestHeard i s))) := by
    refine congrArg Host.Outcome.next ((request_asked hasked (by simp [-Fin.getElem_fin, hpnc]) (by simp)).trans ?_)
    dsimp only
    rw [requestHeard_ses, ← snapBound, hunbound, if_neg (by simp), if_pos (by simp [-Fin.getElem_fin, hbad])]
  refine ⟨_, hexec, ?_, (respReads_requestHeard i s).closed (strikeReads_requestHeard i s)⟩
  exact .comp (upd_closeConn ..) rfl (.comp (upd_respond ..) rfl ((upd_requestHeard i s).mono rfl))

end

/-- The authorisation of a verified contract becomes ready. -/
theorem contractReady_of_tenant (hten : tenantOf s.ses[i].emaid s = some ten) :
    contractReady i s = authReady i 1 ten 0 (s.modSes i fun x => { x with authSince := true }) := by
  unfold contractReady
  rw [← tenantOf, hten]

/-- The job that verifies the signature of an AuthorizationReq is placed. -/
def signatureJob (i : Fin 32) (s : State) : State := jobsPlaced i [(.verify, 0xFF)] [] (requestHeard i s)

theorem signatureJob_ses (i : Fin 32) (s : State) : (signatureJob i s).ses[i] = { s.ses[i] with retrans := 0 } := requestHeard_ses i s

theorem respReads_signatureJob (i : Fin 32) (s : State) : RespReads i s (signatureJob i s) :=
  (respReads_requestHeard i s).trans (respReads_jobsPlaced ..)

theorem upd_signatureJob (i : Fin 32) (s : State) : Upd [.keys, .ses] s (signatureJob i s) :=
  .comp (upd_jobsPlaced ..) rfl ((upd_requestHeard i s).mono rfl)

theorem signatureJob_placed (hfit : jobsFit i s = true) :
    placeJobs i [(.verify, 0xFF)] [] (requestHeard i s) = signatureJob i s ∧ jobsOf (signatureJob i s) i.val = 1 :=
  placeJobs_of_fit (s := requestHeard i s) (jobs := [(.verify, 0xFF)]) hfit (by simp) []

theorem authorizationReq_readies (hasked : sesAsked i .auth s = true) (hpnc : s.ses[i].pnc = true) (hproto : s.ses[i].proto = 1)
    (hchain : s.ses[i].chainOk = true) (hbad : s.ses[i].authBad = false) (hsince : s.ses[i].authSince = false)
    (hfree : ∀ b ∈ s.gates.ledgerSnap, b.point ≠ i.val) (hfit : jobsFit i s = true) (hten : tenantOf s.ses[i].emaid s = some ten) :
    Does (.authorizationReq i (sessionId s i) none true ms) s [.keys, .ports, .plc, .ses, .sesSys, .auth, .ev, .sen] fun t =>
      t.ses[i].authSince = true ∧ t.auth[i].ready = s.auth[i].ready ++ [(1, ten, 0)] ∧ Replied i 5 0 ms s t ∧ jobsOf t i.val = 1 ∧
        t.ev = (lateEv i true ms s).ev := by
  have hunbound : snapBound i (requestHeard i s) = false := snapBound_of_none (s := requestHeard i s) hfree
  obtain ⟨hjobs, hcount⟩ := signatureJob_placed hfit
  have hready : contractReady i (respond i true 5 0 ms [1] (signatureJob i s)) =
      authReady i 1 ten 0 ((respond i true 5 0 ms [1] (signatureJob i s)).modSes i fun x => { x with authSince := true }) := by
    refine contractReady_of_tenant ?_
    rw [respond_ses_same, signatureJob_ses, tenantOf, recOf, (upd_respond ..).img rfl]
    exact hten
  have hexec : exec (.authorizationReq i (sessionId s i) none true ms) s =
      .next (authReady i 1 ten 0 ((respond i true 5 0 ms [1] (signatureJob i s)).modSes i fun x => { x with authSince := true })) := by
    refine congrArg Host.Outcome.next ((request_asked hasked (by simp [-Fin.getElem_fin, hpnc, hchain]) (by simp)).trans ?_)
    dsimp only
    rw [requestHeard_ses, ← snapBound, hunbound, hjobs, hready]
    simp [-Fin.getElem_fin, hpnc, hproto, hbad, hsince]
  have hans : Answered i true 5 0 ms s (signatureJob i s) _ ((respond i true 5 0 ms [1] (signatureJob i s)).modSes i fun x =>
    { x with authSince := true }) := (respReads_signatureJob i s).answered_modSes fun _ => rfl
  have hupd := Upd.comp (P := [.keys, .ports, .plc, .ses, .sesSys, .ev, .sen]) hans.upd rfl ((upd_signatureJob i s).mono rfl)
  refine ⟨_, hexec, .comp (upd_authReady ..) rfl (hupd.mono rfl), ?_, ?_, hans.replied.later rfl, ?_, hans.ev⟩
  · exact congrArg PtSes.authSince hans.ses
  · rw [← hupd.auth rfl]
    simp [authReady]
  · exact (jobsOf_congr (hans.upd.keys rfl) i.val).trans hcount

end

/-- Settles O34: each request is judged by its session and its stage, and where it is admitted its answer and what it makes of its session
follow. -/
theorem sessionMessagesToAuthorisation : Obligations.SessionMessagesToAuthorisation := by
  unfold Obligations.SessionMessagesToAuthorisation
  exact ⟨fun _ _ _ _ _ => supportedAppProtocolReq_chooses, fun _ _ _ _ => supportedAppProtocolReq_withdraws,
    fun _ _ _ => sessionSetupReq_names, fun _ _ _ _ _ _ => serviceSelectionReq_selects, fun _ _ _ _ _ _ => serviceSelectionReq_stops,
    fun _ _ _ _ _ => paymentDetailsReq_stands, fun _ _ _ _ => paymentDetailsReq_fails, fun _ _ _ _ _ _ => authorizationReq_finished,
    fun _ _ _ _ _ => authorizationReq_waits, fun _ _ _ _ => authorizationReq_readies, fun _ _ _ _ _ => authorizationReq_refused,
    fun _ _ _ _ _ _ _ => serviceSelectionReq_unknown, fun _ _ _ _ _ _ => serviceSelectionReq_out_of_stage,
    fun _ _ _ _ _ _ _ => serviceSelectionReq_idles⟩

end Sys2Proof.Machine
end

section
/-! PROOF. The messages of charging, and overdraw (12 R402, R415, R423 to R427, R430, R437). -/

namespace Sys2Proof.Machine

/-! The vehicle's request and the power of the ceiling (12 R423, R426). -/

section
variable {i : Fin 32} {s : State}

theorem vehRequest_of_proto_1 (h : s.ses[i].proto = 1) : vehRequest s i = some s.ses[i].evMaxI := if_pos h

theorem vehRequest_of_proto_2 (h : s.ses[i].proto = 2) :
    vehRequest s i = some (s.ses[i].evMaxP * 10 / max 1 (v2gUnom s * phasesOf s i)) := by
  simp [vehRequest, -Fin.getElem_fin, h]

theorem setVehRequest_veh (i : Fin 32) (s : State) : (setVehRequest i s).cp[i].veh = vehRequest s i := by
  rw [setVehRequest, modCp_cp_same]

theorem setVehRequest_ses (i : Fin 32) (s : State) : (setVehRequest i s).ses = s.ses := rfl

theorem respReads_setVehRequest (i : Fin 32) (s : State) : RespReads i s (setVehRequest i s) :=
  ⟨rfl, (upd_setVehRequest ..).eventsAgree rfl rfl rfl rfl, rfl⟩

/-- The power of the ceiling does not depend on the vehicle's request. -/
theorem scheduleP_setVehRequest (i : Fin 32) (s : State) : scheduleP (setVehRequest i s) i = scheduleP s i := by
  have hceil : (setVehRequest i s).cp[i].ceil = s.cp[i].ceil := by rw [setVehRequest, modCp_cp_same]
  unfold scheduleP ceilSent
  rw [hceil]
  rfl

end

/-! The parameter exchange (12 R423, R424, R430). -/

section
variable {i : Fin 32} {mi mp md ms : Nat} {s : State}

/-- The limits of a parameter exchange are taken and the loop begins. -/
def limitsTaken (i : Fin 32) (mi mp md : Nat) (s : State) : State :=
  s.modSes i fun x => { x with
    evMaxI := if s.ses[i].proto == 1 then mi else x.evMaxI
    evMaxP := if s.ses[i].proto == 1 then x.evMaxP else min mp (2 ^ 32 - 1)
    evMaxDis := if s.ses[i].proto == 1 then 0 else min md (2 ^ 32 - 1)
    receiptAt := if x.stage = .param then meterReading s i else x.receiptAt
    stage := .loop, reneg := false, notify := false }

/-- The limits of a parameter exchange set the vehicle's request. -/
def loopBegun (i : Fin 32) (mi mp md : Nat) (s : State) : State := setVehRequest i (limitsTaken i mi mp md (requestHeard i s))

theorem exec_chargeParameterReq (hasked : sesAsked i .param s = true) : ∃ fields, exec (.chargeParameterReq i (sessionId s i) mi mp md ms) s =
    .next ((respond i false 6 0 ms fields (loopBegun i mi mp md s)).modSes i fun x =>
      { x with targetP := scheduleP (loopBegun i mi mp md s) i }) :=
  ⟨_, congrArg Host.Outcome.next (request_asked hasked (by simp) (by simp))⟩

theorem limitsTaken_ses (hstage : s.ses[i].stage = .param) : (limitsTaken i mi mp md (requestHeard i s)).ses[i] = { s.ses[i] with
    retrans := 0
    evMaxI := if s.ses[i].proto == 1 then mi else s.ses[i].evMaxI
    evMaxP := if s.ses[i].proto == 1 then s.ses[i].evMaxP else min mp (2 ^ 32 - 1)
    evMaxDis := if s.ses[i].proto == 1 then 0 else min md (2 ^ 32 - 1)
    receiptAt := meterReading s i, stage := .loop, reneg := false, notify := false } := by
  rw [limitsTaken, modSes_ses_same, requestHeard_ses]
  dsimp only
  rw [if_pos hstage]
  rfl

theorem scheduleP_loopBegun : scheduleP (loopBegun i mi mp md s) i = scheduleP s i := by
  rw [loopBegun, scheduleP_setVehRequest]
  rfl

theorem upd_loopBegun (i : Fin 32) (mi mp md : Nat) (s : State) : Upd [.cp, .ses] s (loopBegun i mi mp md s) :=
  .comp (upd_setVehRequest ..) rfl (.comp (A := [.ses]) (upd_modSes ..) rfl ((upd_requestHeard i s).mono rfl))

theorem respReads_loopBegun (hstage : s.ses[i].stage = .param) : RespReads i s (loopBegun i mi mp md s) := by
  refine ⟨?_, (upd_loopBegun i mi mp md s).eventsAgree rfl rfl rfl rfl, (upd_loopBegun i mi mp md s).led rfl⟩
  rw [loopBegun, setVehRequest_ses, limitsTaken_ses hstage]
  rfl

theorem chargeParameterReq_begins (hasked : sesAsked i .param s = true) :
    Does (.chargeParameterReq i (sessionId s i) mi mp md ms) s [.ports, .cp, .plc, .ses, .sesSys, .ev, .sen] fun t =>
      t.ses[i].stage = .loop ∧ t.ses[i].reneg = false ∧ t.ses[i].notify = false ∧ t.ses[i].receiptAt = meterReading s i ∧
        (s.ses[i].proto = 1 → t.ses[i].evMaxI = mi ∧ t.cp[i].veh = some mi) ∧
        (s.ses[i].proto = 2 → t.ses[i].evMaxP = min mp (2 ^ 32 - 1) ∧ t.ses[i].evMaxDis = min md (2 ^ 32 - 1) ∧
          t.cp[i].veh = some (min mp (2 ^ 32 - 1) * 10 / max 1 (v2gUnom s * phasesOf s i))) ∧
        t.ses[i].targetP = scheduleP s i ∧ Replied i 6 0 ms s t ∧ t.ev = (lateEv i false ms s).ev := by
  obtain ⟨_, hexec⟩ := exec_chargeParameterReq (mi := mi) (mp := mp) (md := md) (ms := ms) hasked
  have hstage := (sesAsked_iff.mp hasked).2.1
  have hlimits := limitsTaken_ses (mi := mi) (mp := mp) (md := md) hstage
  refine does_of_answered hexec ((respReads_loopBegun hstage).answered_modSes fun _ => rfl) ((upd_loopBegun ..).mono rfl) rfl fun t ht => ?_
  have hses := ht.ses
  rw [scheduleP_loopBegun, loopBegun, setVehRequest_ses, hlimits] at hses
  rw [ht.upd.cp rfl, loopBegun, setVehRequest_veh, hses]
  refine ⟨rfl, rfl, rfl, rfl, fun hproto => ⟨?_, ?_⟩, fun hproto => ⟨?_, ?_, ?_⟩, rfl, ht.replied, ht.ev⟩
  · simp [sesReplied, -Fin.getElem_fin, hproto]
  · rw [vehRequest_of_proto_1 (by rw [hlimits]; exact hproto), hlimits]
    simp [-Fin.getElem_fin, hproto]
  · simp [sesReplied, -Fin.getElem_fin, hproto]
  · simp [sesReplied, -Fin.getElem_fin, hproto]
  · rw [vehRequest_of_proto_2 (by rw [hlimits]; exact hproto), hlimits]
    simp only [hproto]
    rfl

/-! The loop (12 R423 to R427, R430). -/

/-- The power limits of a loop request are taken. -/
def powerTaken (i : Fin 32) (mp md : Nat) (s : State) : State :=
  s.modSes i fun x => { x with evMaxP := min mp (2 ^ 32 - 1), evMaxDis := min md (2 ^ 32 - 1) }

/-- The notification of a loop response goes out once; `two` under -2, where a contract's response carries the reading that asks a receipt. -/
def loopNoted (i : Fin 32) (two : Bool) (s : State) : State :=
  s.modSes i fun x => { x with
    notify := false
    reneg := x.reneg || (s.ses[i].notify && !(!two && s.ses[i].mode == 2))
    targetP := if !two && s.ses[i].mode == 2 then targetPower s i else x.targetP
    meterSent := if !(two && s.ses[i].pnc && v2gReceipt s) then x.meterSent else meterReading s i }

/-- A loop request is answered after its limits and its notification. -/
theorem exec_chargeLoopReq (hasked : sesAsked i .loop s = true) : ∃ fields, exec (.chargeLoopReq i (sessionId s i) mp md ms) s =
    .next (respond i false 7 0 ms fields (loopNoted i (s.ses[i].proto == 1)
      (if s.ses[i].proto == 1 then requestHeard i s else setVehRequest i (powerTaken i mp md (requestHeard i s))))) := by
  have hproto : (requestHeard i s).ses[i].proto = s.ses[i].proto := by rw [requestHeard_ses]
  have hempty : ∀ (c : Bool) (a b : Nat), (if c then [a, b] else []).isEmpty = !c := by
    intro c _ _
    cases c <;> rfl
  have hexec : exec (.chargeLoopReq i (sessionId s i) mp md ms) s = .next _ :=
    congrArg Host.Outcome.next (request_asked hasked (by simp) (by simp))
  dsimp only at hexec
  rw [hproto, hempty] at hexec
  exact ⟨_, hexec⟩

theorem loopNoted_ses (i : Fin 32) (two : Bool) (s : State) : (loopNoted i two s).ses[i] = { s.ses[i] with
    notify := false
    reneg := s.ses[i].reneg || (s.ses[i].notify && !(!two && s.ses[i].mode == 2))
    targetP := if !two && s.ses[i].mode == 2 then targetPower s i else s.ses[i].targetP
    meterSent := if !(two && s.ses[i].pnc && v2gReceipt s) then s.ses[i].meterSent else meterReading s i } := modSes_ses_same ..

theorem upd_loopNoted (i : Fin 32) (two : Bool) (s : State) : Upd [.ses] s (loopNoted i two s) := upd_modSes ..

theorem respReads_loopNoted (i : Fin 32) (two : Bool) (s : State) : RespReads i s (loopNoted i two s) := respReads_modSes rfl

/-- The power limits of a loop request set the vehicle's request. -/
def powerAsked (i : Fin 32) (mp md : Nat) (s : State) : State := setVehRequest i (powerTaken i mp md (requestHeard i s))

theorem upd_powerAsked (i : Fin 32) (mp md : Nat) (s : State) : Upd [.cp, .ses] s (powerAsked i mp md s) :=
  .comp (upd_setVehRequest ..) rfl (.comp (A := [.ses]) (upd_modSes ..) rfl ((upd_requestHeard i s).mono rfl))

theorem powerTaken_ses : (powerTaken i mp md (requestHeard i s)).ses[i] =
    { s.ses[i] with retrans := 0, evMaxP := min mp (2 ^ 32 - 1), evMaxDis := min md (2 ^ 32 - 1) } := by
  rw [powerTaken, modSes_ses_same, requestHeard_ses]

theorem powerAsked_veh (hproto : s.ses[i].proto = 2) :
    (powerAsked i mp md s).cp[i].veh = some (min mp (2 ^ 32 - 1) * 10 / max 1 (v2gUnom s * phasesOf s i)) := by
  rw [powerAsked, setVehRequest_veh, vehRequest_of_proto_2 (by rw [powerTaken_ses]; exact hproto), powerTaken_ses]
  rfl

theorem respReads_powerAsked (i : Fin 32) (mp md : Nat) (s : State) : RespReads i s (powerAsked i mp md s) :=
  ((respReads_requestHeard i s).trans (respReads_modSes rfl)).trans (respReads_setVehRequest ..)

theorem chargeLoopReq_of_proto_2 (hasked : sesAsked i .loop s = true) (hproto : s.ses[i].proto = 2) :
    Does (.chargeLoopReq i (sessionId s i) mp md ms) s [.ports, .cp, .plc, .ses, .sesSys, .ev, .sen] fun t =>
      t.ses[i].stage = .loop ∧ t.ses[i].notify = false ∧ t.ses[i].evMaxP = min mp (2 ^ 32 - 1) ∧
        t.ses[i].reneg = (s.ses[i].reneg || (s.ses[i].notify && s.ses[i].mode != 2)) ∧
        t.cp[i].veh = some (min mp (2 ^ 32 - 1) * 10 / max 1 (v2gUnom s * phasesOf s i)) ∧
        Replied i 7 0 ms s t ∧ t.ev = (lateEv i false ms s).ev := by
  obtain ⟨_, hexec⟩ := exec_chargeLoopReq (mp := mp) (md := md) (ms := ms) hasked
  rw [hproto, if_neg (by simp), ← powerAsked] at hexec
  have hreads := (respReads_powerAsked i mp md s).trans (respReads_loopNoted i (2 == 1) _)
  refine does_of_answered hexec hreads.answered (.comp (upd_loopNoted ..) rfl ((upd_powerAsked ..).mono rfl)) rfl
    fun t ht => ?_
  have hses := ht.ses
  rw [loopNoted_ses, powerAsked, setVehRequest_ses, powerTaken_ses] at hses
  have hveh : t.cp[i].veh = _ := (congrArg (·[i].veh) (ht.upd.cp rfl)).trans (powerAsked_veh hproto)
  rw [hses, hveh]
  exact ⟨(sesAsked_iff.mp hasked).2.1, rfl, rfl, rfl, rfl, ht.replied, ht.ev⟩

theorem chargeLoopReq_of_proto_1 (hasked : sesAsked i .loop s = true) (hproto : s.ses[i].proto = 1) :
    Does (.chargeLoopReq i (sessionId s i) mp md ms) s [.ports, .plc, .ses, .sesSys, .ev, .sen] fun t =>
      t.ses[i].notify = false ∧ t.ses[i].reneg = (s.ses[i].reneg || s.ses[i].notify) ∧
        t.ses[i].meterSent = (if s.ses[i].pnc = true ∧ v2gReceipt s = true then meterReading s i else s.ses[i].meterSent) ∧
        Replied i 7 0 ms s t ∧ t.ev = (lateEv i false ms s).ev := by
  obtain ⟨_, hexec⟩ := exec_chargeLoopReq (mp := mp) (md := md) (ms := ms) hasked
  rw [hproto, if_pos (by simp)] at hexec
  have hreads := (respReads_requestHeard i s).trans (respReads_loopNoted i (1 == 1) _)
  refine does_of_answered hexec hreads.answered (.comp (upd_loopNoted ..) rfl ((upd_requestHeard i s).mono rfl)) rfl
    fun t ht => ?_
  have hses := ht.ses
  rw [loopNoted_ses, requestHeard_ses] at hses
  have hasks : ∀ a b : Bool, (!((1 == 1) && a && b)) = true ↔ ¬ (a = true ∧ b = true) := by decide
  rw [hses]
  refine ⟨rfl, ?_, ?_, ht.replied, ht.ev⟩
  · simp [sesReplied]
  · exact (if_congr (hasks ..) rfl rfl).trans (ite_not ..)

/-! Receipts, the end of a session, certificates (12 R402, R415, R427). -/

theorem exec_meteringReceiptReq {ok : Bool} (hasked : sesAsked i .loop s = true) (hproto : s.ses[i].proto = 1) (hpnc : s.ses[i].pnc = true)
    (hasks : v2gReceipt s = true) (hfit : jobsFit i s = true) : exec (.meteringReceiptReq i (sessionId s i) ok ms) s = .next
      (if ok then (respond i true 8 0 ms [] (signatureJob i s)).modSes i fun x => { x with receiptAt := x.meterSent }
      else stopping i 13 (respond i true 8 7 ms [] (signatureJob i s))) := by
  rw [← (signatureJob_placed hfit).1]
  exact congrArg Host.Outcome.next (request_asked hasked (by simp [-Fin.getElem_fin, hproto, hpnc, hasks]) (by simp))

theorem meteringReceiptReq_judged {ok : Bool} (hasked : sesAsked i .loop s = true) (hproto : s.ses[i].proto = 1) (hpnc : s.ses[i].pnc = true)
    (hasks : v2gReceipt s = true) (hfit : jobsFit i s = true) :
    Does (.meteringReceiptReq i (sessionId s i) ok ms) s [.keys, .ports, .plc, .ses, .sesSys, .ev, .sen] fun t =>
      jobsOf t i.val = 1 ∧ t.ev = (lateEv i true ms s).ev ∧
        (if ok then t.ses[i].receiptAt = s.ses[i].meterSent ∧ t.ses[i].stage = .loop ∧ Replied i 8 0 ms s t
        else t.ses[i].stage = .stopping ∧ t.ses[i].ended = (if s.ses[i].ended.isSome then s.ses[i].ended else some 13) ∧
          Replied i 8 7 ms s t) := by
  have hexec := exec_meteringReceiptReq (ok := ok) (ms := ms) hasked hproto hpnc hasks hfit
  have hreads := respReads_signatureJob i s
  have hcount := (signatureJob_placed hfit).2
  cases ok with
  | true =>
    rw [if_pos rfl] at hexec
    refine does_of_answered hexec (hreads.answered_modSes fun _ => rfl) ((upd_signatureJob i s).mono rfl) rfl fun t ht => ?_
    have hses := ht.ses
    rw [signatureJob_ses] at hses
    rw [if_pos rfl, jobsOf_congr (ht.upd.keys rfl), hses]
    exact ⟨hcount, ht.ev, rfl, (sesAsked_iff.mp hasked).2.1, ht.replied⟩
  | false =>
    rw [if_neg Bool.false_ne_true] at hexec
    have hopen : (signatureJob i s).ses[i].tcpOpen = true := requestHeard_tcpOpen hasked
    refine does_of_answered hexec (hreads.answered_stopping hopen) ((upd_signatureJob i s).mono rfl) rfl fun t ht => ?_
    have hses := ht.ses
    rw [signatureJob_ses] at hses
    rw [if_neg Bool.false_ne_true, jobsOf_congr (ht.upd.keys rfl), hses]
    exact ⟨hcount, ht.ev, rfl, rfl, ht.replied⟩

section
variable {st : Stage} {pause : Bool} (hasked : sesAsked i st s = true) (hst : st ∈ [Stage.setup, .auth, .param, .loop])
include hasked hst

theorem sessionStopReq_stops :
    Does (.sessionStopReq i (sessionId s i) pause ms) s [.ports, .plc, .ses, .sesSys, .ev, .sen] fun t =>
      t.ses[i].stage = .stopping ∧ t.ses[i].ended = (if s.ses[i].ended.isSome then s.ses[i].ended else some 2) ∧ Replied i 9 0 ms s t ∧
        t.ev = (lateEv i false ms s).ev := by
  have hexec : exec (.sessionStopReq i (sessionId s i) pause ms) s = .next (stopping i 2 (respond i false 9 0 ms [b2n pause] (requestHeard i s))) :=
    congrArg Host.Outcome.next (request_asked hasked hst (by rintro rfl; simp at hst))
  refine does_of_answered hexec ((respReads_requestHeard i s).answered_stopping (requestHeard_tcpOpen hasked))
    ((upd_requestHeard i s).mono rfl) rfl fun t ht => ?_
  have hses := ht.ses
  rw [requestHeard_ses] at hses
  rw [hses]
  exact ⟨rfl, rfl, ht.replied, ht.ev⟩

theorem certificateInstallationReq_fails :
    Does (.certificateInstallationReq i (sessionId s i) ms) s [.ports, .plc, .ses, .sesSys, .ev, .sen] fun t =>
      t.ses[i].stage = st ∧ t.ses[i].ended = s.ses[i].ended ∧ Replied i 10 1 ms s t ∧ t.ev = (lateEv i false ms s).ev := by
  have hexec : exec (.certificateInstallationReq i (sessionId s i) ms) s = .next (respond i false 10 1 ms [] (requestHeard i s)) :=
    congrArg Host.Outcome.next (request_asked hasked hst (by rintro rfl; simp at hst))
  refine does_of_answered hexec (respReads_requestHeard i s).answered ((upd_requestHeard i s).mono rfl) rfl fun t ht => ?_
  have hses := ht.ses
  rw [requestHeard_ses] at hses
  rw [hses]
  exact ⟨(sesAsked_iff.mp hasked).2.1, rfl, ht.replied, ht.ev⟩

end

/-! Overdraw (12 R437). -/

/-- The event of an overdraw, after which its runs begin anew. -/
def overdrawNoted (i : Fin 32) (k : Fin 3) (s : State) : State :=
  (raise 0x430A 4 i.val ((k.val + 1) * 2 ^ 24 + min (s.pmet[i].pub.irms.getD k.val 0 / 100000) 65535) s).modSes i fun x =>
    { x with overRun := Vector.replicate 3 0 }

theorem overdrawNoted_ses (i : Fin 32) (k : Fin 3) (s : State) :
    (overdrawNoted i k s).ses[i] = { s.ses[i] with overRun := Vector.replicate 3 0 } := by
  rw [overdrawNoted, modSes_ses_same, raise_ses]

theorem openReq_of_closed (h : s.psafe[i].st = .closed) : openReq i s = s.modPsafe i fun x => { x with openDue := true } :=
  if_pos (by simp [-Fin.getElem_fin, h])

theorem overdraw_ends {k : Fin 3} (hrun : 250 ≤ s.ses[i].overRun[k]) (hdraws : drawsHeld s.cp[i].pst = true)
    (hclosed : s.psafe[i].st = .closed) (hbound : s.led.binds[i].isSome = true) :
    Does (.overdraw i k) s [.psafe, .ses, .ev, .sen] fun t =>
      t.psafe = s.psafe.set i { s.psafe[i] with openDue := true } ∧ t.ses[i].overRun = Vector.replicate 3 0 ∧
        t.ses[i].ended = (if s.ses[i].ended.isSome then s.ses[i].ended else some 14) ∧
        t.ev = (raise 0x430A 4 i.val ((k.val + 1) * 2 ^ 24 + min (s.pmet[i].pub.irms.getD k.val 0 / 100000) 65535) s).ev := by
  have hpsafe : (overdrawNoted i k s).psafe = s.psafe := by rw [overdrawNoted, State.modSes_psafe, raise_psafe]
  have hopened := openReq_of_closed (i := i) (s := overdrawNoted i k s) (by rwa [hpsafe])
  have hexec : exec (.overdraw i k) s = .next (endSes i 14 (openReq i (overdrawNoted i k s))) :=
    congrArg Host.Outcome.next (if_neg (by simp [-Fin.getElem_fin, hdraws, Nat.not_lt.mpr hrun]))
  rw [hopened] at hexec
  have hled : (overdrawNoted i k s).led = s.led := by rw [overdrawNoted, State.modSes_led, raise_led]
  have hends := endSes_ended i 14 ((overdrawNoted i k s).modPsafe i fun x => { x with openDue := true })
    (.inl (by rw [State.modPsafe_led, hled]; exact hbound))
  rw [State.modPsafe_ses, overdrawNoted_ses] at hends
  refine does_of_exec hexec (upd_execOverdraw i k s) ?_
  rw [hends, (upd_endSes ..).psafe rfl, State.modPsafe_psafe, hpsafe, (upd_endSes ..).ev rfl]
  exact ⟨rfl, rfl, rfl, rfl⟩

theorem overdraw_idles {k : Fin 3} (h : s.ses[i].overRun[k] < 250 ∨ drawsHeld s.cp[i].pst = false) : Idles (.overdraw i k) s :=
  congrArg Host.Outcome.next (if_pos (by simpa [-Fin.getElem_fin] using h))

end

/-- Settles O35: each message of charging answers from the session that asked, after its limits, its notification or its job, and an overdraw
ends the session with its contactor asked to open. -/
theorem sessionMessagesOfCharging : Obligations.SessionMessagesOfCharging := by
  unfold Obligations.SessionMessagesOfCharging
  exact ⟨fun _ _ _ _ _ _ => chargeParameterReq_begins, fun _ _ _ _ _ => chargeLoopReq_of_proto_2, fun _ _ _ _ _ => chargeLoopReq_of_proto_1,
    fun _ _ _ _ => meteringReceiptReq_judged, fun _ _ _ _ _ => sessionStopReq_stops, fun _ _ _ _ => certificateInstallationReq_fails,
    fun _ _ _ => overdraw_ends, fun _ _ _ => overdraw_idles⟩

end Sys2Proof.Machine
end

section
/-! PROOF. The step of the block: the front command, and the canonical form of both byte memories (log entries 2, 7). -/

namespace Sys2Proof.Machine

theorem step_queue_empty {s : State} (h : s.pending = []) : step s = .next s := by
  rw [step, h]

theorem step_queue_front {c : Instr} {q : List Instr} {s : State} (h : s.pending = c :: q) :
    step s = exec c { s with pending := q } := by
  rw [step, h]

/-- Settles O56: the two branches of the step. -/
theorem stepRunsFrontCommand : Obligations.StepRunsFrontCommand := by
  unfold Obligations.StepRunsFrontCommand
  exact ⟨fun _ _ _ h => step_queue_front h, fun _ h => step_queue_empty h⟩

/-- What has not gone back keeps both byte memories in canonical form. -/
theorem Later.memInv {s t : State} (h : Later s t) (hs : MemInv s) : MemInv t := ⟨h.tagMem hs.1, h.flashMem hs.2⟩

/-- Settles O58: an idle step leaves the state, and every command keeps both forms (`step_front_completes`). -/
theorem stepsKeepTheMemoriesCanonical : Obligations.StepsKeepTheMemoriesCanonical := by
  unfold Obligations.StepsKeepTheMemoriesCanonical
  intro s t hs hst
  cases hq : s.pending with
  | nil =>
    cases (step_queue_empty hq).symm.trans hst
    exact hs
  | cons c q =>
    obtain ⟨u, hu, _, hl⟩ := step_front_completes hq
    cases hu.symm.trans hst
    exact hl.memInv hs

end Sys2Proof.Machine
end

section
/-! PROOF. The event unit: numbers, limits of a cycle, events held before C0 and the sentinel buffer (22 R745 to R747; 21 R712; 03 R87). -/

namespace Sys2Proof.Machine

/-- The record of an event as it is raised (22 R745). -/
def eventOf (code source point arg : Nat) (s : State) : EventRec := { count := s.clk.count, code, source, point, arg := arg % 2 ^ 32 }

section
variable (code source point arg : Nat) {s : State}

theorem raise_accepts (hp : s.elec.supplyOk = true) (hc : s.clk.started = true) :
    raise code source point arg s = evAccept (eventOf code source point arg s) s := by
  simp [raise, hp, hc, eventOf]

theorem raise_holds (hp : s.elec.supplyOk = true) (hc : s.clk.started = false) :
    raise code source point arg s = evHold (eventOf code source point arg s) s := by
  simp [raise, hp, hc, eventOf]

theorem raise_buffers (hp : s.elec.supplyOk = false) : raise code source point arg s = evBuffer (eventOf code source point arg s) s := by
  simp [raise, hp, eventOf]

end

/-- The event heads the ring under the next ESEQ: what `EventsAreAcceptedHeldOrDropped` says of an accepted event. -/
def EventNumbered (e : EventRec) (s t : State) : Prop :=
  t.ev.next = s.ev.next + 1 ∧ t.ev.ring = (s.ev.next, s.clk.bndTot, e) :: s.ev.ring.take 1023 ∧
    t.ev.acc + t.ev.accSafe = s.ev.acc + s.ev.accSafe + 1 ∧ t.ev.dropped = s.ev.dropped ∧ t.ev.held = s.ev.held ∧
    (s.ev.next ≤ 1024 ∨ s.ev.next - 1024 ≤ s.ev.journaled → t.ev.lost = s.ev.lost ∧ t.ev.lostDue = s.ev.lostDue) ∧
    (1024 < s.ev.next → s.ev.journaled < s.ev.next - 1024 → t.ev.lost = inc32 s.ev.lost)

/-- The event that leaves the ring has not reached the journal (22 R747). -/
def ringLoses (s : State) : Bool := decide (1024 < s.ev.next) && decide (s.ev.journaled < s.ev.next - 1024)

/-- The event is numbered with the counts of the cycle at a and b. -/
theorem eventNumbered_evPut (e : EventRec) {a b : Nat} {s : State} (hcount : a + b = s.ev.acc + s.ev.accSafe + 1) :
    EventNumbered e s (evPut e (s.modEv fun v => { v with acc := a, accSafe := b })) := by
  refine ⟨rfl, rfl, hcount, rfl, rfl, fun h => ?_, fun hn hj => ?_⟩
  · have hkeeps : ringLoses s = false := by simp [ringLoses]; omega
    constructor
    · change (if ringLoses s then _ else _) = _
      rw [hkeeps]
      rfl
    · change (if ringLoses s && _ then _ else _) = _
      rw [hkeeps]
      rfl
  · exact if_pos (by simp [hn, hj])

theorem eventNumbered_evAccept {e : EventRec} {s : State} (h : s.ev.acc < 48 ∨ (e.code / 0x1000 = 1 ∧ s.ev.accSafe < 16)) :
    EventNumbered e s (evAccept e s) := by
  unfold evAccept
  by_cases hacc : s.ev.acc < 48
  · rw [if_pos hacc]
    exact eventNumbered_evPut e (Nat.add_right_comm ..)
  · rw [if_neg hacc, if_pos (by simpa using h.resolve_left hacc)]
    exact eventNumbered_evPut e (Nat.add_assoc ..).symm

theorem evAccept_drops {e : EventRec} {s : State} (hacc : 48 ≤ s.ev.acc) (h : e.code / 0x1000 ≠ 1 ∨ 16 ≤ s.ev.accSafe) :
    evAccept e s = s.modEv fun v => { v with dropped := v.dropped + 1 } := by
  unfold evAccept
  rw [if_neg (by omega), if_neg (by simp; omega)]

theorem exec_eventRaised (c src p a : Nat) (s : State) : exec (.eventRaised c src p a) s = .next (raise c src p a s) := rfl

/-- Settles O55: an event is accepted, held or buffered by supply and clock, and each of the three by its own limit. -/
theorem eventsAreAcceptedHeldOrDropped : Obligations.EventsAreAcceptedHeldOrDropped := by
  unfold Obligations.EventsAreAcceptedHeldOrDropped
  refine ⟨?_, ?_, ?_, ?_, ?_⟩
  · intro c src p a s hp hc hroom
    refine ⟨_, exec_eventRaised .., ?_, ?_⟩
    · rw [raise_accepts c src p a hp hc]
      exact upd_evAccept ..
    · rw [raise_accepts c src p a hp hc]
      exact eventNumbered_evAccept hroom
  · intro c src p a s hp hc hacc hfull
    refine ⟨_, exec_eventRaised .., ?_, ?_⟩
    · rw [raise_accepts c src p a hp hc]
      exact upd_evAccept ..
    · rw [raise_accepts c src p a hp hc, evAccept_drops hacc hfull]
      rfl
  · intro c src p a s hp hc
    refine ⟨_, exec_eventRaised .., ?_, ?_⟩
    · rw [raise_holds c src p a hp hc]
      exact upd_evHold ..
    · rw [raise_holds c src p a hp hc]
      unfold evHold
      by_cases hroom : s.ev.held.length < 128
      · rw [if_pos hroom]
        exact ⟨rfl, rfl, fun _ => ⟨rfl, rfl⟩, fun h => absurd hroom (by omega)⟩
      · rw [if_neg hroom]
        exact ⟨rfl, rfl, fun h => absurd h hroom, fun _ => ⟨rfl, rfl⟩⟩
  · intro c src p a s hp hwarm
    refine ⟨_, exec_eventRaised .., ?_, ?_⟩
    · rw [raise_buffers c src p a hp]
      exact upd_evBuffer ..
    · rw [raise_buffers c src p a hp]
      unfold evBuffer
      rw [if_neg hwarm]
      by_cases hroom : s.sen.buf.length < 15
      · rw [if_pos hroom]
        exact ⟨fun _ => rfl, fun h => absurd hroom (by omega)⟩
      · rw [if_neg hroom]
        exact ⟨fun h => absurd h hroom, fun _ => rfl⟩
  · intro c src p a s hp hcold
    change exec _ _ = _
    rw [exec_eventRaised, raise_buffers c src p a hp, evBuffer, if_pos hcold]

end Sys2Proof.Machine
end

section
/-! SUPPORT. What a function reads of a state outside the parts that an operation may change is read there as before. -/

namespace Sys2Proof.Machine

/-- The state s with the parts P, and the queue, as in t. -/
def withParts (P : List Part) (s t : State) : State where
  eng := bif P.contains .eng then t.eng else s.eng
  gates := bif P.contains .gates then t.gates else s.gates
  clk := bif P.contains .clk then t.clk else s.clk
  life := bif P.contains .life then t.life else s.life
  keys := bif P.contains .keys then t.keys else s.keys
  img := bif P.contains .img then t.img else s.img
  flash := bif P.contains .flash then t.flash else s.flash
  dlv := bif P.contains .dlv then t.dlv else s.dlv
  ports := bif P.contains .ports then t.ports else s.ports
  heads := bif P.contains .heads then t.heads else s.heads
  meas := bif P.contains .meas then t.meas else s.meas
  met := bif P.contains .met then t.met else s.met
  pmet := bif P.contains .pmet then t.pmet else s.pmet
  safe := bif P.contains .safe then t.safe else s.safe
  psafe := bif P.contains .psafe then t.psafe else s.psafe
  cp := bif P.contains .cp then t.cp else s.cp
  plc := bif P.contains .plc then t.plc else s.plc
  pipes := bif P.contains .pipes then t.pipes else s.pipes
  hpipes := bif P.contains .hpipes then t.hpipes else s.hpipes
  ses := bif P.contains .ses then t.ses else s.ses
  sesSys := bif P.contains .sesSys then t.sesSys else s.sesSys
  auth := bif P.contains .auth then t.auth else s.auth
  authSys := bif P.contains .authSys then t.authSys else s.authSys
  led := bif P.contains .led then t.led else s.led
  recs := bif P.contains .recs then t.recs else s.recs
  mbus := bif P.contains .mbus then t.mbus else s.mbus
  tag := bif P.contains .tag then t.tag else s.tag
  phy := bif P.contains .phy then t.phy else s.phy
  lnk := bif P.contains .lnk then t.lnk else s.lnk
  share := bif P.contains .share then t.share else s.share
  epd := bif P.contains .epd then t.epd else s.epd
  fab := bif P.contains .fab then t.fab else s.fab
  ev := bif P.contains .ev then t.ev else s.ev
  sen := bif P.contains .sen then t.sen else s.sen
  jrn := bif P.contains .jrn then t.jrn else s.jrn
  tamper := bif P.contains .tamper then t.tamper else s.tamper
  elec := bif P.contains .elec then t.elec else s.elec
  freeCtr := bif P.contains .freeCtr then t.freeCtr else s.freeCtr
  pending := t.pending

theorem bif_eq_of_kept {α : Type} {b : Bool} {x y : α} (h : b = false → x = y) : x = bif b then x else y := by
  cases b with
  | true => rfl
  | false => exact h rfl

theorem Upd.eq_withParts {P : List Part} {s t : State} (h : Upd P s t) : t = withParts P s t := by
  cases t
  unfold withParts
  congr 1
  · exact bif_eq_of_kept h.eng
  · exact bif_eq_of_kept h.gates
  · exact bif_eq_of_kept h.clk
  · exact bif_eq_of_kept h.life
  · exact bif_eq_of_kept h.keys
  · exact bif_eq_of_kept h.img
  · exact bif_eq_of_kept h.flash
  · exact bif_eq_of_kept h.dlv
  · exact bif_eq_of_kept h.ports
  · exact bif_eq_of_kept h.heads
  · exact bif_eq_of_kept h.meas
  · exact bif_eq_of_kept h.met
  · exact bif_eq_of_kept h.pmet
  · exact bif_eq_of_kept h.safe
  · exact bif_eq_of_kept h.psafe
  · exact bif_eq_of_kept h.cp
  · exact bif_eq_of_kept h.plc
  · exact bif_eq_of_kept h.pipes
  · exact bif_eq_of_kept h.hpipes
  · exact bif_eq_of_kept h.ses
  · exact bif_eq_of_kept h.sesSys
  · exact bif_eq_of_kept h.auth
  · exact bif_eq_of_kept h.authSys
  · exact bif_eq_of_kept h.led
  · exact bif_eq_of_kept h.recs
  · exact bif_eq_of_kept h.mbus
  · exact bif_eq_of_kept h.tag
  · exact bif_eq_of_kept h.phy
  · exact bif_eq_of_kept h.lnk
  · exact bif_eq_of_kept h.share
  · exact bif_eq_of_kept h.epd
  · exact bif_eq_of_kept h.fab
  · exact bif_eq_of_kept h.ev
  · exact bif_eq_of_kept h.sen
  · exact bif_eq_of_kept h.jrn
  · exact bif_eq_of_kept h.tamper
  · exact bif_eq_of_kept h.elec
  · exact bif_eq_of_kept h.freeCtr

/-- A function that does not tell a state with other parts P from the state reads the same after an operation within P. -/
theorem Upd.read {α : Type} {P : List Part} {s t : State} (h : Upd P s t) (f : State → α) (hf : ∀ u, f (withParts P s u) = f s) : f t = f s := by
  rw [h.eq_withParts]
  exact hf t

end Sys2Proof.Machine
end

section
/-! PROOF. Tokens, authorise orders, and what lapses (13 R450 to R454). -/

namespace Sys2Proof.Machine

/-- An order that acts is validated: what its action leaves may be shown for such a state alone (04 R141). -/
theorem orderActs_of_validates {c : OrderRec → Instr} {types : List Nat} {ok : OrderRec → Bool} {P : List Part} {r : OrderRec → State → Nat}
    {Q : OrderRec → State → State → Prop} (h : OrderActs c types ok P r fun o s t => validates s = true → Q o s t) :
    OrderActs c types ok P r Q := by
  intro o n w s hready hok
  obtain ⟨t, ht, hu, hq⟩ := h o n w s hready hok
  refine ⟨t, ht, hu, ?_⟩
  simp only [orderReady, Bool.and_eq_true] at hready
  obtain ⟨⟨⟨⟨⟨⟨⟨⟨⟨_, hvalid⟩, _⟩, _⟩, _⟩, _⟩, _⟩, _⟩, _⟩, _⟩ := hready
  split at hq
  · rw [if_pos ‹_›]
    exact ⟨hq.1, hq.2 hvalid⟩
  · rw [if_neg ‹_›]
    exact hq

/-! An authorisation acts by the state of its point (13 R452, R454). -/

/-- The refusal reason of an authorisation by token or order; 0 if it is ready or held (13 R452, R454). -/
def authReason (i : Fin 32) (p : PendAuth) (mayHold : Bool) (s : State) : Nat :=
  match s.cp[i].pst with
  | .connected => startCheck s i p.path p.tenant
  | .available => if tenantCheck s i p.path p.tenant = 0 then (if mayHold then 0 else 11) else tenantCheck s i p.path p.tenant
  | _ => 11

theorem applyAuth_eq (i : Fin 32) (p : PendAuth) (mayHold : Bool) (s : State) :
    applyAuth i p mayHold s = (authReason i p mayHold s,
      if authReason i p mayHold s ≠ 0 then refuseAuth i p.path p.tenant p.nonce (authReason i p mayHold s) s
      else if s.cp[i].pst = .connected then authReady i p.path p.tenant p.nonce s
      else holdPending i p s) := by
  unfold applyAuth authReason
  cases s.cp[i].pst with
  | connected =>
    dsimp only
    split
    · simp [*]
    · rename_i h
      rw [if_pos h]
  | available =>
    dsimp only
    split
    · cases mayHold <;> simp [*]
    · rename_i h
      rw [if_neg h, if_pos h]
  | _ => rfl

theorem authReason_connected {i : Fin 32} {p : PendAuth} {mayHold : Bool} {s : State} (hp : s.cp[i].pst = .connected) :
    authReason i p mayHold s = startCheck s i p.path p.tenant := by
  rw [authReason, hp]

theorem authReason_available {i : Fin 32} {p : PendAuth} {s : State} (hp : s.cp[i].pst = .available) : authReason i p true s = tenantCheck s i p.path p.tenant := by
  rw [authReason, hp]
  dsimp only
  split
  · simp [*]
  · rfl

/-- What an operation within these parts leaves of the reason. -/
theorem Upd.authReason {s t : State} (h : Upd [.auth, .authSys, .tag, .ev, .sen, .freeCtr] s t) (i : Fin 32) (p : PendAuth) (mayHold : Bool) :
    authReason i p mayHold t = authReason i p mayHold s :=
  h.read (Machine.authReason i p mayHold) fun _ => rfl

/-- A refusal with its event (13 R447). -/
def authRefused (i : Fin 32) (path tenant reason : Nat) (s : State) : State :=
  raise 0x4401 4 i.val (reason * 2 ^ 24 + path * 2 ^ 20 + tenant) (s.modAuth i fun x => { x with lastReason := reason })

/-- An authorisation held, with its event where none was (13 R452). -/
def authHeld (i : Fin 32) (p : PendAuth) (s : State) : State :=
  raiseIf s.auth[i].pend.isNone 0x4403 4 i.val (p.path * 2 ^ 20 + p.tenant) (s.modAuth i fun x => { x with pend := some p })

section
variable (i : Fin 32) (path tenant nonce reason : Nat) (p : PendAuth) (s : State)

theorem refuseAuth_token : refuseAuth i 2 tenant nonce reason s = tokenResult (macFor reason) i.val tenant nonce reason 0xFF
    ((authRefused i 2 tenant reason s).modAuthSys fun y => { y with tokensRefused := inc32 y.tokensRefused }) := rfl

theorem holdPending_token (u n : Nat) : holdPending i ⟨2, tenant, u, n⟩ s = tokenResult true i.val tenant n 1 0xFF
    ((authHeld i ⟨2, tenant, u, n⟩ s).modAuthSys fun y => { y with tokensOk := inc32 y.tokensOk }) := rfl

theorem authRefused_auth : (authRefused i path tenant reason s).auth = s.auth.set i { s.auth[i] with lastReason := reason } := raise_auth ..

theorem authHeld_auth : (authHeld i p s).auth = s.auth.set i { s.auth[i] with pend := some p } := raiseIf_auth ..

theorem authRefused_ev :
    (authRefused i path tenant reason s).ev = (raise 0x4401 4 i.val (reason * 2 ^ 24 + path * 2 ^ 20 + tenant) s).ev :=
  (upd_modAuth ..).raise_ev rfl rfl rfl rfl ..

theorem upd_authRefused : Upd [.auth, .ev, .sen] s (authRefused i path tenant reason s) := .comp (upd_raise ..) rfl ((upd_modAuth ..).mono rfl)

theorem upd_authHeld : Upd [.auth, .ev, .sen] s (authHeld i p s) := .comp (upd_raiseIf ..) rfl ((upd_modAuth ..).mono rfl)

end

/-! Token messages (13 R450 to R453). -/

/-- RDO has assigned the tenant's window, where the MAC has verified (16 R550). -/
def tokenWindow (ws : List W128) (s : State) : Option Nat × State :=
  if tokenCheck s ws = 0 || (6 ≤ tokenCheck s ws && tokenCheck s ws ≤ 9) then assignWindow (tokTenant ws) s else (none, s)

/-- The token has left its queue. -/
def tokenOut (rest : List (Nat × List W128)) (s : State) : State := s.modTag fun t => { t with tokQ := rest }

/-- The token has left its queue and waits for its result in its cell. -/
def tokenTaken (cell : Nat) (ws : List W128) (rest : List (Nat × List W128)) (s : State) : State :=
  State.modTag (fun t => { t with tokCell := t.tokCell ++
      [(cell, tokTenant ws, tokNonce ws, (tokenWindow ws (tokenOut rest s)).1.getD 0xFF)] })
    (tokenWindow ws (tokenOut rest s)).2

/-- The token's replay entry is written (13 R451). -/
def replayNoted (ws : List W128) (s : State) : State :=
  s.modAuthSys fun y =>
    { y with replay := y.replay ++ [{ tenant := tokTenant ws, nonce := tokNonce ws, expiry := fld (ws.getD 0 0) 63 0 }] }

/-- The authorisation that a token asks for. -/
def tokenPend (ws : List W128) : PendAuth := { path := 2, tenant := tokTenant ws, untilCnt := fld (ws.getD 0 0) 63 0, nonce := tokNonce ws }

/-! Who else has a token waiting, and what a token's result and window change (13 R453; 16 R543, R551). -/

theorem tokenAnswer_tokQ (tenant nonce : Nat) (ws : List W128) (s : State) : (tokenAnswer tenant nonce ws s).tag.tokQ = s.tag.tokQ := by
  unfold tokenAnswer
  split
  · rfl
  · dsimp only
    split
    · rfl
    · exact foldl_same (fun u => u.tag.tokQ) _ _ _ fun _ _ => rfl

theorem tokenResult_tokQ (mac : Bool) (point tenant nonce result slot : Nat) (s : State) :
    (tokenResult mac point tenant nonce result slot s).tag.tokQ = s.tag.tokQ := tokenAnswer_tokQ ..

theorem tokenResult_authSys (mac : Bool) (point tenant nonce result slot : Nat) (s : State) :
    ∃ ws, (tokenResult mac point tenant nonce result slot s).authSys = { s.authSys with result := ws } :=
  ⟨_, (upd_tokenAnswer ..).authSys rfl⟩

theorem modWin8_tokQ (w : Nat) (f : TagWin → TagWin) (s : State) : (modWin8 w f s).tag.tokQ = s.tag.tokQ := by
  unfold modWin8
  split <;> rfl

theorem assignWindow_tokQ (tenant : Nat) (s : State) : (assignWindow tenant s).2.tag.tokQ = s.tag.tokQ := by
  unfold assignWindow
  split
  · rfl
  · split
    · exact modWin8_tokQ ..
    · split
      · rfl
      · exact (congrArg Tag.tokQ (raise_tag ..)).trans (modWin8_tokQ ..)

theorem tokenWindow_tokQ (ws : List W128) (s : State) : (tokenWindow ws s).2.tag.tokQ = s.tag.tokQ := by
  unfold tokenWindow
  split
  · exact assignWindow_tokQ ..
  · rfl

theorem upd_tokenWindow (ws : List W128) (s : State) : Upd [.tag, .ev, .sen, .freeCtr] s (tokenWindow ws s).2 := by
  unfold tokenWindow
  split
  · exact upd_assignWindow ..
  · exact .refl ..

theorem upd_tokenTaken (cell : Nat) (ws : List W128) (rest : List (Nat × List W128)) (s : State) :
    Upd [.tag, .ev, .sen, .freeCtr] s (tokenTaken cell ws rest s) := by
  unfold tokenTaken
  refine .comp (upd_modTag _ _ ?_) rfl (.comp (upd_tokenWindow ..) rfl ((upd_modTag _ _ ?_).mono rfl))
  all_goals exact fun _ h => h

theorem tokenTaken_tokQ (cell : Nat) (ws : List W128) (rest : List (Nat × List W128)) (s : State) :
    (tokenTaken cell ws rest s).tag.tokQ = rest := tokenWindow_tokQ ..

/-- Without windows none is assigned (16 R795), so the event unit is not asked. -/
theorem tokenTaken_eventsAgree (cell : Nat) (ws : List W128) (rest : List (Nat × List W128)) {s : State} (h : nfcWindows s = false) :
    EventsAgree s (tokenTaken cell ws rest s) := by
  have hw : ∀ u, nfcWindows u = false → (tokenWindow ws u).2 = u := by
    intro u hu
    unfold tokenWindow assignWindow
    split <;> simp [hu]
  rw [tokenTaken, hw (tokenOut rest s) h]
  exact ⟨rfl, rfl, rfl, rfl⟩

theorem upd_replayNoted (ws : List W128) (s : State) : Upd [.authSys] s (replayNoted ws s) := upd_modAuthSys ..

section
variable {cell : Nat} {ws : List W128} {rest : List (Nat × List W128)} {i : Fin 32} {s : State}
  (hq : s.tag.tokQ = (cell, ws) :: rest) (hml : s.sen.mlSig = false) (hpt : tokPoint ws = i.val)

theorem exec_tokenMessage (s : State) : exec .tokenMessage s = execTokenMessage s := rfl

include hq hml hpt

theorem exec_tokenMessage_passed (h : tokenCheck s ws = 0) : exec .tokenMessage s =
    .next (applyAuth i (tokenPend ws) true (replayNoted ws (tokenTaken cell ws rest s))).2 := by
  rw [exec_tokenMessage, execTokenMessage, hq]
  dsimp only
  rw [if_neg (by simp [hml]), show fld (ws.getD 0 0) 87 80 = i.val from hpt, fin?_val]
  dsimp only
  rw [if_neg (by simp [h])]
  rfl

theorem exec_tokenMessage_refused (h : tokenCheck s ws ≠ 0) : exec .tokenMessage s =
    .next (refuseAuth i 2 (tokTenant ws) (tokNonce ws) (tokenCheck s ws) (tokenTaken cell ws rest s)) := by
  rw [exec_tokenMessage, execTokenMessage, hq]
  dsimp only
  rw [if_neg (by simp [hml]), show fld (ws.getD 0 0) 87 80 = i.val from hpt, fin?_val]
  dsimp only
  rw [if_pos h]
  rfl


include hq hml hpt

/-- A token that passes every check is ready or held (13 R452). -/
theorem exec_tokenMessage_acts (h : tokenCheck s ws = 0) (hr : authReason i (tokenPend ws) true s = 0) : exec .tokenMessage s = .next
    (if s.cp[i].pst = .connected then authReady i (tokenPend ws).path (tokenPend ws).tenant (tokenPend ws).nonce (replayNoted ws (tokenTaken cell ws rest s))
    else holdPending i (tokenPend ws) (replayNoted ws (tokenTaken cell ws rest s))) := by
  have hu : Upd [.auth, .authSys, .tag, .ev, .sen, .freeCtr] s (replayNoted ws (tokenTaken cell ws rest s)) :=
    .comp (upd_replayNoted ..) rfl ((upd_tokenTaken ..).mono rfl)
  rw [exec_tokenMessage_passed hq hml hpt h, applyAuth_eq, hu.authReason, hr, if_neg (by simp), hu.cp rfl]

theorem tokenMessage_ready (h : tokenCheck s ws = 0) (hp : s.cp[i].pst = .connected) (hs : startCheck s i 2 (tokTenant ws) = 0) :
    Does .tokenMessage s [.auth, .authSys, .tag, .ev, .sen, .freeCtr] fun t =>
      t.tag.tokQ = rest ∧ t.auth = s.auth.set i { s.auth[i] with ready := s.auth[i].ready ++ [(2, tokTenant ws, tokNonce ws)] } ∧
        t.authSys = { s.authSys with
          replay := s.authSys.replay ++ [{ tenant := tokTenant ws, nonce := tokNonce ws, expiry := fld (ws.getD 0 0) 63 0 }] } := by
  have hexec := exec_tokenMessage_acts hq hml hpt h ((authReason_connected hp).trans hs)
  rw [if_pos hp] at hexec
  have ht := upd_tokenTaken cell ws rest s
  refine ⟨_, hexec, .comp (upd_authReady ..) rfl (.comp (upd_replayNoted ..) rfl (ht.mono rfl)), ?_, ?_, ?_⟩
  · rw [(upd_authReady ..).tag rfl, (upd_replayNoted ..).tag rfl, tokenTaken_tokQ]
  · simp only [authReady, State.modAuth, replayNoted, State.modAuthSys, ht.auth rfl, tokenPend]
  · rw [(upd_authReady ..).authSys rfl, replayNoted, State.modAuthSys_authSys, ht.authSys rfl]

theorem tokenMessage_held (h : tokenCheck s ws = 0) (hp : s.cp[i].pst = .available) (hs : tenantCheck s i 2 (tokTenant ws) = 0) :
    Does .tokenMessage s [.auth, .authSys, .tag, .ev, .sen, .freeCtr] fun t =>
      t.tag.tokQ = rest ∧ t.auth = s.auth.set i { s.auth[i] with pend := some (tokenPend ws) } ∧
        t.authSys.tokensOk = inc32 s.authSys.tokensOk ∧
        t.authSys.replay = s.authSys.replay ++ [{ tenant := tokTenant ws, nonce := tokNonce ws, expiry := fld (ws.getD 0 0) 63 0 }] := by
  have hexec := exec_tokenMessage_acts hq hml hpt h ((authReason_available hp).trans hs)
  rw [if_neg (by rw [hp]; decide)] at hexec
  have ht := upd_tokenTaken cell ws rest s
  have hh := upd_authHeld i (tokenPend ws) (replayNoted ws (tokenTaken cell ws rest s))
  obtain ⟨r, hr⟩ := tokenResult_authSys true i.val (tokTenant ws) (tokNonce ws) 1 0xFF
    ((authHeld i (tokenPend ws) (replayNoted ws (tokenTaken cell ws rest s))).modAuthSys fun y => { y with tokensOk := inc32 y.tokensOk })
  refine ⟨_, hexec, .comp (upd_holdPending ..) rfl (.comp (upd_replayNoted ..) rfl (ht.mono rfl)), ?_, ?_, ?_⟩
  · rw [tokenPend, holdPending_token, tokenResult_tokQ, State.modAuthSys_tag, ← tokenPend, hh.tag rfl]
    exact tokenTaken_tokQ ..
  · rw [tokenPend, holdPending_token, (upd_tokenResult ..).auth rfl, State.modAuthSys_auth, authHeld_auth]
    simp only [replayNoted, State.modAuthSys, ht.auth rfl]
  · rw [tokenPend, holdPending_token, ← tokenPend, hr, State.modAuthSys_authSys, hh.authSys rfl, replayNoted, State.modAuthSys_authSys, ht.authSys rfl]
    exact ⟨rfl, rfl⟩

theorem tokenMessage_refused (h : tokenCheck s ws ≠ 0) (hw : nfcWindows s = false) :
    Does .tokenMessage s [.auth, .authSys, .tag, .ev, .sen, .freeCtr] fun t =>
      t.tag.tokQ = rest ∧ t.auth = s.auth.set i { s.auth[i] with lastReason := tokenCheck s ws } ∧ t.authSys.replay = s.authSys.replay ∧
        t.authSys.tokensRefused = inc32 s.authSys.tokensRefused ∧
        t.ev = (raise 0x4401 4 i.val (tokenCheck s ws * 2 ^ 24 + 2 * 2 ^ 20 + tokTenant ws) s).ev := by
  have hexec := exec_tokenMessage_refused hq hml hpt h
  rw [refuseAuth_token] at hexec
  have ht := upd_tokenTaken cell ws rest s
  have hr := upd_authRefused i 2 (tokTenant ws) (tokenCheck s ws) (tokenTaken cell ws rest s)
  obtain ⟨r, hres⟩ := tokenResult_authSys (macFor (tokenCheck s ws)) i.val (tokTenant ws) (tokNonce ws) (tokenCheck s ws) 0xFF
    ((authRefused i 2 (tokTenant ws) (tokenCheck s ws) (tokenTaken cell ws rest s)).modAuthSys fun y =>
      { y with tokensRefused := inc32 y.tokensRefused })
  have hsys := (hr.authSys rfl).trans (ht.authSys rfl)
  refine ⟨_, hexec, .comp (upd_tokenResult ..) rfl (.comp (upd_modAuthSys ..) rfl (.comp hr rfl (ht.mono rfl))), ?_, ?_, ?_, ?_, ?_⟩
  · rw [tokenResult_tokQ, State.modAuthSys_tag, hr.tag rfl, tokenTaken_tokQ]
  · rw [(upd_tokenResult ..).auth rfl, State.modAuthSys_auth, authRefused_auth, ht.auth rfl]
  · rw [hres, State.modAuthSys_authSys, hsys]
  · rw [hres, State.modAuthSys_authSys, hsys]
  · rw [(upd_tokenResult ..).ev rfl, State.modAuthSys_ev, authRefused_ev]
    exact ((tokenTaken_eventsAgree cell ws rest hw).raise ..).ev

end

theorem tokenMessage_idles {s : State} (h : s.tag.tokQ = [] ∨ s.sen.mlSig = true) : Idles .tokenMessage s := by
  change execTokenMessage s = _
  unfold execTokenMessage
  split
  · rfl
  · rename_i hq
    rw [if_pos (h.resolve_left (by simp [hq]))]

/-! Authorise orders (13 R454). -/

/-- The authorisation that an order asks for. -/
def orderPend (p : List W128) : PendAuth := ⟨3, fld (pWord p 0) 111 96, fld (pWord p 0) 63 0, 0⟩

/-- The refusal reason of an authorise order; 0 if it is ready or held (13 R454). -/
def authoriseReason (p : List W128) (s : State) : Nat :=
  if p.length ≠ 1 || fld (pWord p 0) 111 96 = 0 || fld (pWord p 0) 111 96 = 0xFFFF || fld (pWord p 0) 119 112 ≠ 0 || fld (pWord p 0) 95 64 ≠ 0 then 1
  else match fin? 32 (fld (pWord p 0) 127 120) with
    | none => 3
    | some i =>
      if !hasPoint s (fld (pWord p 0) 127 120) then 3
      else if s.sen.mlSig then 11
      else authReason i (orderPend p) (decide (s.clk.count < fld (pWord p 0) 63 0)) s

theorem authoriseAct_reason (p : List W128) (s : State) : (authoriseAct p s).1 = authoriseReason p s := by
  unfold authoriseAct authoriseReason
  dsimp only
  split
  · rfl
  · cases fin? 32 (fld (pWord p 0) 127 120) with
    | none => rfl
    | some i =>
      dsimp only
      split
      · rfl
      · split
        · rfl
        · rw [applyAuth_eq]
          rfl

/-- The reason does not depend on windows and inlet. -/
theorem authoriseReason_orderTaken (p : List W128) (o : OrderRec) (w : Nat) (s : State) :
    authoriseReason p (orderTaken o w s) = authoriseReason p s :=
  (upd_modWin w (replayTake · (oSeq o)) (orderOut o s)).read (authoriseReason p) fun _ => rfl

/-- What a validated authorise order does: refused with its event before or by the point it names, or ready or held there. -/
theorem authoriseAct_eq (p : List W128) {s : State} (hml : s.sen.mlSig = false) :
    ((authoriseAct p s).1 ≠ 0 ∧ (authoriseAct p s).2 = raise 0x4401 4 (min (fld (pWord p 0) 127 120) 255)
      ((authoriseAct p s).1 * 2 ^ 24 + 3 * 2 ^ 20 + fld (pWord p 0) 111 96) s) ∨
    ∃ i : Fin 32, i.val = fld (pWord p 0) 127 120 ∧ (authoriseAct p s).2 =
      if (authoriseAct p s).1 ≠ 0 then authRefused i 3 (orderPend p).tenant (authoriseAct p s).1 s
      else if s.cp[i].pst = .connected then authReady i 3 (orderPend p).tenant 0 s
      else authHeld i (orderPend p) s := by
  unfold authoriseAct
  dsimp only
  split
  · exact .inl ⟨by simp, rfl⟩
  · split
    · exact .inl ⟨by simp, rfl⟩
    · rename_i i hi
      obtain ⟨hlt, rfl⟩ : ∃ hlt : fld (pWord p 0) 127 120 < 32, ⟨_, hlt⟩ = i := by simpa [fin?] using hi
      split
      · exact .inl ⟨by simp, rfl⟩
      · rw [if_neg (by simp [hml]), applyAuth_eq]
        exact .inr ⟨_, rfl, rfl⟩

/-- What an authorise order leaves at every point (13 R454). -/
def AuthoriseJudged (o : OrderRec) (s t : State) : Prop :=
  (∀ i : Fin 32, i.val ≠ fld (pWord (oPayload o) 0) 127 120 → t.auth[i] = s.auth[i]) ∧
    (∀ i : Fin 32, i.val = fld (pWord (oPayload o) 0) 127 120 →
      if (authoriseAct (oPayload o) s).1 ≠ 0 then t.auth[i].pend = s.auth[i].pend ∧ t.auth[i].ready = s.auth[i].ready
      else if s.cp[i].pst = .connected then
        t.auth[i] = { s.auth[i] with ready := s.auth[i].ready ++ [(3, fld (pWord (oPayload o) 0) 111 96, 0)] }
      else t.auth[i] = { s.auth[i] with
        pend := some (PendAuth.mk 3 (fld (pWord (oPayload o) 0) 111 96) (fld (pWord (oPayload o) 0) 63 0) 0) }) ∧
    ((authoriseAct (oPayload o) s).1 ≠ 0 → o.src = .rdo → t.ev = (raise 0x4401 4 (min (fld (pWord (oPayload o) 0) 127 120) 255)
      ((authoriseAct (oPayload o) s).1 * 2 ^ 24 + 3 * 2 ^ 20 + fld (pWord (oPayload o) 0) 111 96) s).ev)

theorem authSet_same (i : Fin 32) (x : PtAuth) (v : Vector PtAuth 32) : (v.set i x)[i] = x := by
  simp

theorem authSet_other {i j : Fin 32} (h : j.val ≠ i.val) (x : PtAuth) (v : Vector PtAuth 32) : (v.set i x)[j] = v[j] := by
  simp [Ne.symm h]

/-- An authorise order's action by its reason changes the entry of its point alone. -/
theorem orderApplied_auth (i : Fin 32) (p : PendAuth) (r : Nat) (c : Bool) (s : State) :
    (if r ≠ 0 then authRefused i 3 p.tenant r s else if c then authReady i 3 p.tenant 0 s else authHeld i p s).auth =
      s.auth.set i (if r ≠ 0 then { s.auth[i] with lastReason := r }
        else if c then { s.auth[i] with ready := s.auth[i].ready ++ [(3, p.tenant, 0)] } else { s.auth[i] with pend := some p }) := by
  split
  · exact authRefused_auth ..
  · cases c with
    | true => rfl
    | false => exact authHeld_auth ..

theorem authorise_judged (o : OrderRec) (w : Nat) {s : State} (hml : s.sen.mlSig = false) :
    AuthoriseJudged o s (orderDone o (authoriseAct (oPayload o) s).1 (authoriseAct (oPayload o) (orderTaken o w s)).2) := by
  have ht := upd_orderTaken o w s
  have hreason : (authoriseAct (oPayload o) (orderTaken o w s)).1 = (authoriseAct (oPayload o) s).1 := by
    rw [authoriseAct_reason, authoriseAct_reason, authoriseReason_orderTaken]
  unfold AuthoriseJudged
  rw [(upd_orderDone ..).auth rfl]
  rcases authoriseAct_eq (oPayload o) (s := orderTaken o w s) (by rw [ht.sen rfl, hml]) with ⟨hne, heq⟩ | ⟨i, hi, heq⟩
  · rw [hreason] at hne heq
    rw [heq, raise_auth, ht.auth rfl]
    exact ⟨fun _ _ => rfl, fun _ _ => by rw [if_pos hne]; exact ⟨rfl, rfl⟩, fun _ hsrc => orderDone_refusal_ev hsrc ..⟩
  · rw [hreason, ht.cp rfl] at heq
    have hauth := orderApplied_auth i (orderPend (oPayload o)) (authoriseAct (oPayload o) s).1 (s.cp[i].pst == .connected) (orderTaken o w s)
    simp only [beq_iff_eq, ht.auth rfl] at hauth
    rw [heq, ← hi]
    refine ⟨fun j hj => ?_, fun j hj => ?_, fun hne hsrc => ?_⟩
    · exact (congrArg (·[j]) hauth).trans (authSet_other hj ..)
    · obtain rfl : j = i := Fin.ext hj
      rw [(congrArg (·[j]) hauth).trans (authSet_same ..)]
      split
      · exact ⟨rfl, rfl⟩
      · split <;> rfl
    · rw [orderDone_ev_rdo hsrc, if_pos hne, authRefused_ev, ht.raise_ev rfl rfl rfl rfl, Nat.min_eq_left (by omega), orderPend]

theorem exec_orderAuthorise (o : OrderRec) (s : State) : exec (.orderAuthorise o) s = .next (ordered [11] o authoriseAct s) := rfl

theorem orderAuthorise_acts : OrderActs .orderAuthorise [11] (fun _ => true) [.gates, .keys, .ses, .auth, .authSys, .mbus, .tag, .lnk, .ev, .sen]
    (fun o s => (authoriseAct (oPayload o) s).1) AuthoriseJudged :=
  orderActs_of_validates <| orderActs_of_action exec_orderAuthorise upd_execOrderAuthorise upd_authoriseAct rfl rfl rfl
    (fun o w s => by rw [authoriseAct_reason, authoriseAct_reason, authoriseReason_orderTaken])
    fun o w s _ hv => authorise_judged o w (by simp only [validates, Bool.and_eq_true] at hv; simpa using hv.2)

/-! What is pending lapses (13 R452, R454). -/

/-- The instant of a pending authorisation has passed. -/
def pendPast (p : PendAuth) (s : State) : Prop := (p.path = 2 ∧ p.untilCnt < s.clk.rtcS) ∨ (p.path ≠ 2 ∧ p.untilCnt ≤ s.clk.count)

section
variable {i : Fin 32} {p : PendAuth} {s : State} (hp : s.auth[i].pend = some p)

theorem exec_pendingLapse (i : Fin 32) (s : State) : exec (.pendingLapse i) s = execPendingLapse i s := rfl

include hp

theorem pendingLapse_lapses (h : pendPast p s) : Does (.pendingLapse i) s [.auth, .ev, .sen] fun t =>
    t.auth = s.auth.set i { s.auth[i] with pend := none } ∧ t.ev = (raise 0x4404 4 i.val (p.path * 2 ^ 20 + p.tenant) s).ev := by
  have hexec : exec (.pendingLapse i) s =
      .next (raise 0x4404 4 i.val (p.path * 2 ^ 20 + p.tenant) (s.modAuth i fun x => { x with pend := none })) := by
    rw [exec_pendingLapse, execPendingLapse, hp]
    dsimp only
    rw [if_pos (by simpa [pendPast] using h)]
  exact ⟨_, hexec, .comp (upd_raise ..) rfl ((upd_modAuth ..).mono rfl), raise_auth .., (upd_modAuth ..).raise_ev rfl rfl rfl rfl ..⟩

theorem pendingLapse_stays (h : ¬ pendPast p s) : Idles (.pendingLapse i) s := by
  change exec _ _ = _
  rw [exec_pendingLapse, execPendingLapse, hp]
  dsimp only
  rw [if_neg (by simpa [pendPast] using h)]

end

/-- Settles O36: a token's check and its point's state choose among ready, held and refused (`applyAuth_eq`), and an order's alike. -/
theorem authorisationsActOrWait : Obligations.AuthorisationsActOrWait := by
  unfold Obligations.AuthorisationsActOrWait
  refine ⟨?_, ?_, ?_, fun _ => tokenMessage_idles, orderAuthorise_acts, ?_, ?_, ?_⟩
  · exact fun _ _ _ _ _ hq hml h hpt hp hs => tokenMessage_ready hq hml hpt h hp hs
  · exact fun _ _ _ _ _ hq hml h hpt hp hs => tokenMessage_held hq hml hpt h hp hs
  · exact fun _ _ _ _ _ hq hml h hpt hw => tokenMessage_refused hq hml hpt h hw
  · exact fun _ _ _ hp h => pendingLapse_lapses hp h
  · exact fun _ _ _ hp h => pendingLapse_stays hp (by unfold pendPast; omega)
  · intro i s hp
    change exec _ _ = _
    rw [exec_pendingLapse, execPendingLapse, hp]

end Sys2Proof.Machine
end

section
/-! SUPPORT. Association lists: what is read after an entry is set or removed (14 R474; 18 R608). -/

namespace Sys2Proof.Machine

theorem kget?_cons {α : Type} (k : Nat) (e : Nat × α) (l : List (Nat × α)) : kget? k (e :: l) = if e.1 = k then some e.2 else kget? k l := by
  simp only [kget?, List.find?_cons]
  by_cases h : e.1 = k
  · simp [h]
  · simp [h, beq_eq_false_iff_ne.mpr h]

theorem kget?_kset_same {α : Type} (k : Nat) (v : α) (l : List (Nat × α)) : kget? k (kset k v l) = some v := by
  induction l with
  | nil => simp [kset, kget?]
  | cons e es ih =>
    rw [kset]
    split
    · simp [kget?_cons]
    · split
      · simp [kget?_cons]
      · rw [kget?_cons, if_neg (by omega), ih]

theorem kset_others {α : Type} (k : Nat) (v : α) (l : List (Nat × α)) : (kset k v l).filter (·.1 != k) = l.filter (·.1 != k) := by
  induction l with
  | nil => simp [kset]
  | cons e es ih =>
    rw [kset]
    split
    · simp
    · split
      · subst k
        simp
      · rw [List.filter_cons, List.filter_cons, ih]

theorem kget?_kdel_same {α : Type} (k : Nat) (l : List (Nat × α)) : kget? k (kdel k l) = none := by
  simp [kget?, kdel]

theorem kdel_others {α : Type} (k : Nat) (l : List (Nat × α)) : (kdel k l).filter (·.1 != k) = l.filter (·.1 != k) := by
  simp [kdel]

end Sys2Proof.Machine
end

section
/-! SUPPORT. Slots of the ledger banks: what is read after a slot is written (14 R474). -/

namespace Sys2Proof.Machine

theorem bankAt_val (s : State) (b : Fin 4) : bankAt s b.val = s.led.banks[b] := by
  simp [bankAt]

section
variable {b : Nat} (hb : b < 4) (f : Bank → Bank) (s : State)
include hb

theorem modBankAt_eq : modBankAt b f s = s.modLed fun l => { l with banks := l.banks.set b (f l.banks[b]) } := by
  simp [modBankAt, fin?, hb]

theorem bankAt_modBankAt_same : bankAt (modBankAt b f s) b = f (bankAt s b) := by
  rw [modBankAt_eq hb]
  simp [bankAt, hb]

theorem modBankAt_other {c : Fin 4} (h : c.val ≠ b) : (modBankAt b f s).led.banks[c] = s.led.banks[c] := by
  rw [modBankAt_eq hb]
  simp [Ne.symm h]

theorem modBankAt_led : (modBankAt b f s).led = { s.led with banks := (modBankAt b f s).led.banks } := by
  rw [modBankAt_eq hb]
  rfl

end

/-- Slot `slot` of bank b was written: no other slot, bank or part of the ledger moved. -/
structure SlotWritten (b slot : Nat) (s t : State) : Prop where
  led : t.led = { s.led with banks := t.led.banks }
  others : (bankAt t b).rows.filter (·.1 != slot) = (bankAt s b).rows.filter (·.1 != slot)
  banks : ∀ c : Fin 4, c.val ≠ b → t.led.banks[c] = s.led.banks[c]

theorem SlotWritten.refl (b slot : Nat) (s : State) : SlotWritten b slot s s := ⟨rfl, rfl, fun _ _ => rfl⟩

theorem SlotWritten.trans {b slot : Nat} {s t u : State} (h : SlotWritten b slot s t) (g : SlotWritten b slot t u) : SlotWritten b slot s u :=
  ⟨by rw [g.led, h.led], g.others.trans h.others, fun c hc => (g.banks c hc).trans (h.banks c hc)⟩

theorem ledRow_putLedRow {b : Nat} (hb : b < 4) (slot : Nat) (r : SlotRow) (s : State) : ledRow (putLedRow b slot r s) b slot = r := by
  unfold ledRow putLedRow
  rw [bankAt_modBankAt_same hb]
  dsimp only
  split
  · rw [kget?_kdel_same]
    simp [*]
  · rw [kget?_kset_same]
    rfl

theorem slotWritten_putLedRow {b : Nat} (hb : b < 4) (slot : Nat) (r : SlotRow) (s : State) : SlotWritten b slot s (putLedRow b slot r s) := by
  refine ⟨modBankAt_led hb .., ?_, fun c hc => modBankAt_other hb _ _ hc⟩
  unfold putLedRow
  rw [bankAt_modBankAt_same hb]
  dsimp only
  split
  · exact kdel_others ..
  · exact kset_others ..

end Sys2Proof.Machine
end

section
/-! PROOF. A ledger commit writes the pending amounts of a slot and nothing else (14 R478, R480, R481, R492). -/

namespace Sys2Proof.Machine

/-! The cells (14 R492). -/

/-- The amount that entries hold for cell c. -/
def amountOf (es : List (Nat × Nat)) (c : Nat) : Nat := ((es.find? (·.1 == c)).map (·.2)).getD 0

/-- Amounts that a slot's cells can take: cells of their own, none of them past its largest value. -/
structure Fits (es : List (Nat × Nat)) (r : SlotRow) : Prop where
  index : ∀ e ∈ es, e.1 < 24
  once : (es.map (·.1)).Nodup
  sat : r.sat = []
  room : ∀ e ∈ es, cellOf r e.1 + e.2 ≤ cellMax e.1

/-- The slot's cells rose by the amounts, its header stands, and nothing else of the ledger moved. -/
structure CellsRaised (b slot : Nat) (es : List (Nat × Nat)) (s t : State) : Prop where
  written : SlotWritten b slot s t
  cells : ∀ c : Fin 24, (ledRow t b slot).cells[c] = (ledRow s b slot).cells[c] + amountOf es c.val
  header : ledRow t b slot = { ledRow s b slot with cells := (ledRow t b slot).cells }
  upd : Upd [.led] s t

theorem cellOf_val (r : SlotRow) (c : Fin 24) : cellOf r c.val = r.cells[c] := by
  simp [cellOf]

theorem cellAdd_fits {b slot point c n : Nat} {s : State} {k : Fin 24} (hk : k.val = c) (hsat : (ledRow s b slot).sat = [])
    (hroom : cellOf (ledRow s b slot) c + n ≤ cellMax c) : cellAdd b slot point c n s =
      putLedRow b slot { ledRow s b slot with cells := (ledRow s b slot).cells.set k ((ledRow s b slot).cells[k] + n) } s := by
  subst c
  rw [cellOf_val] at hroom
  unfold cellAdd
  simp only [fin?_val]
  rw [if_neg (by simp [hsat]), if_neg (by omega)]

theorem cellsRaised_cellAdd {b slot point c n : Nat} {s : State} (hb : b < 4) (hc : c < 24) (hsat : (ledRow s b slot).sat = [])
    (hroom : cellOf (ledRow s b slot) c + n ≤ cellMax c) : CellsRaised b slot [(c, n)] s (cellAdd b slot point c n s) := by
  rw [cellAdd_fits (k := ⟨c, hc⟩) rfl hsat hroom]
  refine ⟨slotWritten_putLedRow hb .., fun j => ?_, ?_, upd_putLedRow ..⟩
  · rw [ledRow_putLedRow hb]
    by_cases hj : c = j.val
    · subst hj
      simp [amountOf]
    · simp [amountOf, hj]
  · rw [ledRow_putLedRow hb]

theorem cellsRaised_fold {b slot point : Nat} (hb : b < 4) {es : List (Nat × Nat)} {s : State} (h : Fits es (ledRow s b slot)) :
    CellsRaised b slot es s (es.foldl (fun s c => cellAdd b slot point c.1 c.2 s) s) := by
  induction es generalizing s with
  | nil => exact ⟨.refl .., fun _ => rfl, rfl, .refl ..⟩
  | cons e es ih =>
    obtain ⟨hindex, honce, hsat, hroom⟩ := h
    obtain ⟨hnew, honce⟩ := List.nodup_cons.mp honce
    have hone := cellsRaised_cellAdd (point := point) hb (hindex e List.mem_cons_self) hsat (hroom e List.mem_cons_self)
    have hrest : Fits es (ledRow (cellAdd b slot point e.1 e.2 s) b slot) := by
      refine ⟨fun x hx => hindex x (List.mem_cons_of_mem _ hx), honce, by rw [hone.header]; exact hsat, fun x hx => ?_⟩
      have hne : e.1 ≠ x.1 := fun he => hnew (List.mem_map.mpr ⟨x, hx, he.symm⟩)
      have hlt := hindex x (List.mem_cons_of_mem _ hx)
      have hcell := hone.cells ⟨x.1, hlt⟩
      rw [← cellOf_val, ← cellOf_val] at hcell
      simp only [amountOf, List.find?_cons, beq_eq_false_iff_ne.mpr hne] at hcell
      rw [hcell]
      exact hroom x (List.mem_cons_of_mem _ hx)
    have hmore := ih hrest
    refine ⟨hone.written.trans hmore.written, fun c => ?_, by rw [List.foldl_cons, hmore.header, hone.header], .comp hmore.upd rfl hone.upd⟩
    rw [List.foldl_cons, hmore.cells, hone.cells, Nat.add_assoc]
    congr 1
    by_cases hc : e.1 = c.val
    · have hnone : es.find? (·.1 == c.val) = none :=
        List.find?_eq_none.mpr fun x hx he => hnew (List.mem_map.mpr ⟨x, hx, (beq_iff_eq.mp he).trans hc.symm⟩)
      simp [amountOf, hc, hnone]
    · simp [amountOf, hc]

theorem fits_pendCells {p : Pend} {r : SlotRow} (ht : p.tariff < 4) (hsat : r.sat = [])
    (hroom : ∀ e ∈ pendCells p, cellOf r e.1 + e.2 ≤ cellMax e.1) : Fits (pendCells p) r := by
  have hsub : ((pendCells p).map (·.1)).Sublist (List.range' (6 * p.tariff) 6) := List.filter_sublist.map _
  refine ⟨fun e he => ?_, hsub.nodup List.nodup_range', hsat, hroom⟩
  have := List.mem_range'_1.mp (hsub.subset (List.mem_map_of_mem he))
  omega

/-! The intent (14 R480, R481). -/

/-- The entries of one bank that differ. -/
def changedIn (a b : State) (slot k : Nat) : List (Nat × Nat) :=
  ((List.range 24).filterMap fun c => if cellOf (ledRow a k slot) c = cellOf (ledRow b k slot) c then none
    else some (intentAddr k slot c, cellOf (ledRow b k slot) c))
    ++ (if slotHeader (ledRow a k slot) = slotHeader (ledRow b k slot) then [] else [(intentAddr k slot 24, (slotHeader (ledRow b k slot)).toNat)])

theorem changedEntries_eq (a b : State) (slot : Nat) : changedEntries a b slot = (List.range 4).flatMap (changedIn a b slot) := rfl

theorem changedIn_same {a b : State} {slot k : Nat} (h : ledRow b k slot = ledRow a k slot) : changedIn a b slot k = [] := by
  simp [changedIn, h]

theorem ledRow_congr {s t : State} {k : Nat} (h : bankAt t k = bankAt s k) (slot : Nat) : ledRow t k slot = ledRow s k slot := by
  rw [ledRow, ledRow, h]

theorem flatMap_range_single {α : Type} {n b : Nat} (hb : b < n) {f : Nat → List α} (h : ∀ k < n, k ≠ b → f k = []) : (List.range n).flatMap f = f b := by
  induction n with
  | zero => omega
  | succ n ih =>
    rw [List.range_succ, List.flatMap_append]
    by_cases hn : b = n
    · subst hn
      have hempty : (List.range b).flatMap f = [] :=
        List.flatMap_eq_nil_iff.mpr fun k hk => have := List.mem_range.mp hk; h k (by omega) (by omega)
      simp [hempty]
    · rw [ih (by omega) fun k hk hne => h k (by omega) hne]
      simp [h n (by omega) (Ne.symm hn)]

section
variable {b slot : Nat} {es : List (Nat × Nat)} {s t : State}

theorem amountOf_mem {c : Nat} (h : amountOf es c ≠ 0) : c ∈ es.map (·.1) := by
  unfold amountOf at h
  cases hf : es.find? (·.1 == c) with
  | none => simp [hf] at h
  | some e => exact List.mem_map.mpr ⟨e, List.mem_of_find?_eq_some hf, by simpa using List.find?_some hf⟩

/-- The entries of the transaction are the cells that take an amount (14 R480). -/
theorem changedEntries_raised (hb : b < 4) (h : CellsRaised b slot es s t) : changedEntries s t slot =
    ((List.range 24).filter fun c => amountOf es c != 0).map fun c => (intentAddr b slot c, cellOf (ledRow t b slot) c) := by
  rw [changedEntries_eq, flatMap_range_single hb]
  · have hheader : slotHeader (ledRow s b slot) = slotHeader (ledRow t b slot) := by rw [h.header]; rfl
    rw [changedIn, if_pos hheader, List.append_nil, ← List.filterMap_eq_map, List.filterMap_filter]
    refine List.filterMap_congr fun c hc => ?_
    have hcell := h.cells ⟨c, List.mem_range.mp hc⟩
    rw [← cellOf_val, ← cellOf_val] at hcell
    dsimp only at hcell
    by_cases hz : amountOf es c = 0
    · simp [hcell, hz]
    · simp [hcell, hz]
  · intro k hk hne
    refine changedIn_same (ledRow_congr ?_ slot)
    rw [bankAt_val t ⟨k, hk⟩, bankAt_val s ⟨k, hk⟩]
    exact h.written.banks ⟨k, hk⟩ hne

theorem changedEntries_length (hb : b < 4) (h : CellsRaised b slot es s t) : (changedEntries s t slot).length ≤ es.length := by
  rw [changedEntries_raised hb h, List.length_map, ← List.length_map (as := es) (·.1)]
  refine (List.subperm_of_subset (List.nodup_range.filter _) fun c hc => ?_).length_le
  exact amountOf_mem (by simpa using (List.mem_filter.mp hc).2)

theorem changedEntries_eq_nil (hb : b < 4) (h : CellsRaised b slot es s t) (hindex : ∀ e ∈ es, e.1 < 24) (hpos : ∀ e ∈ es, e.2 ≠ 0) :
    changedEntries s t slot = [] ↔ es = [] := by
  rw [changedEntries_raised hb h]
  cases es with
  | nil => simp [amountOf]
  | cons e es =>
    simp only [List.map_eq_nil_iff, List.filter_eq_nil_iff, reduceCtorEq, iff_false, not_forall]
    exact ⟨e.1, List.mem_range.mpr (hindex e List.mem_cons_self), by simpa [amountOf] using hpos e List.mem_cons_self⟩

end

theorem putIntents_one (n : Nat) {es : List (Nat × Nat)} (hlen : es.length ≤ 16) (hne : es ≠ []) (s : State) :
    putIntents (n + 2) es s = s.modLed fun l =>
      { l with lastSeq := s.led.lastSeq + 1, intentsNow := l.intentsNow + 1
               intents := l.intents.set ((s.led.lastSeq + 1) % 16) { seq := s.led.lastSeq + 1, entries := es.take 16, done := s.led.lastSeq + 1 }
                 (Nat.mod_lt _ (by decide)) } := by
  rw [putIntents, if_neg (by simp [hne])]
  dsimp only
  rw [List.drop_eq_nil_of_le hlen, putIntents]
  rfl

theorem putIntents_none (n : Nat) (s : State) : putIntents n [] s = s := by
  cases n <;> rfl

/-! One transaction of one pending amount (14 R480, R481; 15 R509). -/

/-- One tied amount is all that waits for the ledger, it ends nothing, and its slot's cells can take it. -/
structure LoneCommit (p : Pend) (s : State) : Prop where
  pends : s.led.pends = [p]
  tied : p.tied = true
  isEnd : p.isEnd = false
  isClose : p.isClose = false
  bank : p.bank < 4
  tariff : p.tariff < 4
  hdrDue : s.led.hdrDue = []
  waiting : s.led.waiting = []
  sealing : s.led.sealing = []
  sealDue : s.recs.sealDue = []
  room : s.led.intentsNow < 16
  sat : (ledRow s p.bank p.slot).sat = []
  fits : ∀ e ∈ pendCells p, cellOf (ledRow s p.bank p.slot) e.1 + e.2 ≤ cellMax e.1

/-- The cells of the transaction. -/
def cellsWritten (p : Pend) (s : State) : State := (pendCells p).foldl (fun s c => cellAdd p.bank p.slot p.point c.1 c.2 s) s

/-- The point of the amount, if there is one. -/
def pendPoints (p : Pend) : List (Fin 32) := (finList 32).filter fun i => [p].any (·.point == i.val)

/-- Saturated cells noted in a session record. -/
def satNoted (p : Pend) (s : State) (i : Fin 32) (q : SesRec) : SesRec :=
  { q with sat := q.sat || [p].any fun p => p.point == i.val && (ledRow s p.bank p.slot).sat.any fun c => c / 6 == p.tariff }

/-- The bindings of the transaction. -/
def bindsNoted (p : Pend) (s : State) : State :=
  (pendPoints p).foldl (fun u (i : Fin 32) => modBind i (fun b => { b with runTied := satNoted p s i b.runTied, run := satNoted p s i b.run }) u) s

/-- The session records of the transaction (15 R509). -/
def copiesPut (p : Pend) (s : State) : State :=
  (pendPoints p).foldl (fun u (i : Fin 32) => match u.led.binds[i] with | some b => putSesCopy i b u | none => u) s

/-- What the transaction has written waits no longer. -/
def slotDone (slot : Nat) (s : State) : State :=
  s.modLed fun l =>
    { l with pends := l.pends.filter fun p => !(p.tied && p.slot == slot)
             hdrDue := l.hdrDue.filter (· != slot), waiting := l.waiting.filter (· != slot) }

/-- The state with the cells, bindings and session records of the transaction. -/
def txnWritten (p : Pend) (s : State) : State := copiesPut p (bindsNoted p (cellsWritten p s))

section
variable {p : Pend} {s : State} (h : LoneCommit p s)
include h

theorem slotTxn_lone : slotTxn p.slot s = slotDone p.slot (putIntents 8 (changedEntries s (cellsWritten p s) p.slot) (txnWritten p s)) := by
  have htied : tiedOf s p.slot = [p] := by simp [tiedOf, h.pends, h.tied]
  have hend : ∀ l : List (Fin 32), (l.filter fun i => [p].any fun q => q.point == i.val && q.isEnd) = [] := by simp [h.isEnd]
  unfold slotTxn
  rw [htied]
  dsimp only
  rw [hend, if_neg (by simp [h.hdrDue])]
  rfl

theorem txnSlots_lone : txnSlots s = [p.slot] := by
  simp [txnSlots, h.pends, h.tied, h.hdrDue, h.waiting, insertAsc, sortBy, insertBy]

end

/-! What the bindings, the session records and the intent leave (14 R481; 15 R509; 01 R26). -/

/-- What the LEDGER gate shows of a binding (01 R26). -/
def bindSnap (i : Fin 32) (o : Option Binding) : Option BindSnap :=
  match o with
  | some b => if b.endReason.isNone then some { point := i.val, tenant := b.tenant, path := b.path, session := b.session } else none
  | none => none

theorem publishLedger_ledgerSnap (s : State) :
    (publishLedger s).gates.ledgerSnap = (finList 32).filterMap fun i => bindSnap i s.led.binds[i] := rfl

theorem bindsNoted_led (p : Pend) (s : State) : (bindsNoted p s).led = { s.led with binds := (bindsNoted p s).led.binds } := by
  unfold bindsNoted
  generalize pendPoints p = l
  suffices h : ∀ u : State, u.led = { s.led with binds := u.led.binds } →
      (l.foldl (fun u (i : Fin 32) => modBind i (fun b => { b with runTied := satNoted p s i b.runTied, run := satNoted p s i b.run }) u) u).led =
        { s.led with binds := (l.foldl (fun u (i : Fin 32) =>
          modBind i (fun b => { b with runTied := satNoted p s i b.runTied, run := satNoted p s i b.run }) u) u).led.binds } from h s rfl
  induction l with
  | nil => exact fun u hu => hu
  | cons i l ih => exact fun u hu => ih _ (by simp only [modBind, State.modLed_led]; rw [hu])

theorem bindSnap_modBind (i j : Fin 32) (f : Binding → Binding) (s : State)
    (hf : ∀ b, bindSnap j (some (f b)) = bindSnap j (some b)) : bindSnap j (modBind i f s).led.binds[j] = bindSnap j s.led.binds[j] := by
  simp only [modBind, State.modLed_led]
  by_cases h : j = i
  · subst h
    have hset : (s.led.binds.set j (s.led.binds[j].map f))[j] = s.led.binds[j].map f := by simp
    rw [hset]
    cases s.led.binds[j] with
    | none => rfl
    | some b => exact hf b
  · simp [Fin.val_ne_of_ne (Ne.symm h)]

theorem bindsNoted_snap (p : Pend) (s : State) (j : Fin 32) : bindSnap j (bindsNoted p s).led.binds[j] = bindSnap j s.led.binds[j] :=
  foldl_same (fun u => bindSnap j u.led.binds[j]) _ _ _ fun u i => bindSnap_modBind i j _ u fun _ => rfl

theorem upd_bindsNoted (p : Pend) (s : State) : Upd [.led] s (bindsNoted p s) :=
  .foldl (fun _ _ hu => .comp (upd_modBind ..) rfl hu) (.refl ..)

theorem upd_copiesPut (p : Pend) (s : State) : Upd [.recs] s (copiesPut p s) := by
  refine .foldl (fun u i hu => ?_) (.refl ..)
  split
  · exact .comp (upd_putSesCopy ..) rfl hu
  · exact hu

theorem copiesPut_sealDue (p : Pend) (s : State) : (copiesPut p s).recs.sealDue = s.recs.sealDue := by
  refine foldl_same (fun u => u.recs.sealDue) _ _ _ fun u i => ?_
  split <;> rfl

/-- What intents leave of the ledger: all but the log and its numbers. -/
theorem putIntents_led (n : Nat) (es : List (Nat × Nat)) (s : State) : (putIntents n es s).led =
    { s.led with lastSeq := (putIntents n es s).led.lastSeq, intentsNow := (putIntents n es s).led.intentsNow
                 intents := (putIntents n es s).led.intents } := by
  induction n generalizing es s with
  | zero => rfl
  | succ n ih =>
    rw [putIntents]
    split
    · rfl
    · dsimp only
      rw [ih]
      rfl

section
variable {p : Pend} {s : State} (h : LoneCommit p s)
include h

theorem cellsRaised_lone : CellsRaised p.bank p.slot (pendCells p) s (cellsWritten p s) :=
  cellsRaised_fold h.bank (fits_pendCells h.tariff h.sat h.fits)

theorem upd_slotTxn_lone : Upd [.led, .recs] s (slotTxn p.slot s) := by
  rw [slotTxn_lone h]
  refine .comp (upd_modLed ..) rfl (.comp (upd_putIntents ..) rfl (.comp (upd_copiesPut ..) rfl (.comp (upd_bindsNoted ..) rfl ?_)))
  exact (cellsRaised_lone h).upd.mono rfl

/-- The ledger after the transaction: the cells, the log, the bindings, and nothing waiting. -/
theorem slotTxn_lone_led : ∃ binds, (slotTxn p.slot s).led = { s.led with
    banks := (cellsWritten p s).led.banks, binds := binds, pends := []
    lastSeq := (slotTxn p.slot s).led.lastSeq, intentsNow := (slotTxn p.slot s).led.intentsNow, intents := (slotTxn p.slot s).led.intents } ∧
    ∀ j : Fin 32, bindSnap j binds[j] = bindSnap j s.led.binds[j] := by
  have hcells := (cellsRaised_lone h).written.led
  refine ⟨(bindsNoted p (cellsWritten p s)).led.binds, ?_, fun j => ?_⟩
  · rw [slotTxn_lone h, slotDone, State.modLed_led, putIntents_led, txnWritten, (upd_copiesPut ..).led rfl, bindsNoted_led, hcells]
    simp [h.pends, h.tied, h.hdrDue, h.waiting]
  · rw [bindsNoted_snap, hcells]

theorem slotTxn_lone_sealDue : (slotTxn p.slot s).recs.sealDue = [] := by
  rw [slotTxn_lone h, slotDone, State.modLed_recs, (upd_putIntents ..).recs rfl, txnWritten, copiesPut_sealDue, (upd_bindsNoted ..).recs rfl,
    (cellsRaised_lone h).upd.recs rfl, h.sealDue]

/-- One intent, done, where a cell takes an amount (14 R481). -/
theorem slotTxn_lone_intent : (slotTxn p.slot s).led.lastSeq = s.led.lastSeq + (if pendCells p = [] then 0 else 1) ∧
    (pendCells p ≠ [] → ((slotTxn p.slot s).led.intents[(slotTxn p.slot s).led.lastSeq % 16]'(Nat.mod_lt _ (by decide))).done =
      (slotTxn p.slot s).led.lastSeq) := by
  have hraised := cellsRaised_lone h
  have hlen : (pendCells p).length ≤ 6 := List.length_filter_le ..
  have hchanged := changedEntries_length h.bank hraised
  have hnil := changedEntries_eq_nil h.bank hraised (fits_pendCells h.tariff h.sat h.fits).index
    fun e he => by simpa using (List.mem_filter.mp he).2
  have hseq : (txnWritten p s).led.lastSeq = s.led.lastSeq := by
    rw [txnWritten, (upd_copiesPut ..).led rfl, bindsNoted_led, hraised.written.led]
  rw [slotTxn_lone h]
  by_cases he : pendCells p = []
  · rw [hnil.mpr he, putIntents_none, if_pos he]
    exact ⟨hseq, fun hne => absurd he hne⟩
  · rw [putIntents_one 6 (by omega) (mt hnil.mp he), if_neg he]
    simp only [slotDone, State.modLed_led, hseq, true_and]
    intro _
    rw [Vector.getElem_set_self]

end

theorem sealSessions_none {s : State} (h : s.recs.sealDue = []) : sealSessions s = s := by
  have hstep : ∀ l : List (Fin 32), l.foldl (fun u (i : Fin 32) => if u.recs.sealDue.contains i.val then sealSession i u else u) s = s := by
    intro l
    induction l with
    | nil => rfl
    | cons i l ih => rw [List.foldl_cons, if_neg (by simp [h]), ih]
  unfold sealSessions
  split
  · rfl
  · exact hstep _

theorem sealStatements_none {s : State} (h : s.led.sealing = []) : sealStatements s = s := if_pos (by simp [h])

/-- The flush is that transaction: nothing is deferred, no session and no statement is sealed (14 R483). -/
theorem ledFlush_lone {p : Pend} {s : State} (h : LoneCommit p s) :
    ledFlush false s = (slotTxn p.slot s).modLed fun l => { l with deferred := 0 } := by
  obtain ⟨binds, hled, _⟩ := slotTxn_lone_led h
  have hwait : (slotTxn p.slot s).led.waiting = [] := by rw [hled]; exact h.waiting
  have hsealing : (slotTxn p.slot s).led.sealing = [] := by rw [hled]; exact h.sealing
  have hraise : ∀ u : State, raiseIf (0 != 0 && !(slotTxn p.slot s).led.defSeen) 0x5033 3 255 0 u = u := fun _ => rfl
  have hseals : ∀ f, (f (slotTxn p.slot s).led).sealing = [] →
      sealStatements (sealSessions (State.modLed f (slotTxn p.slot s))) = State.modLed f (slotTxn p.slot s) := fun f hf => by
    rw [sealSessions_none (s := State.modLed f _) (slotTxn_lone_sealDue h), sealStatements_none hf]
  unfold ledFlush
  rw [txnSlots_lone h]
  simp only [List.foldl_cons, List.foldl_nil, h.room, decide_true, Bool.or_true, if_true, hwait, List.length_nil]
  rw [hraise, hseals _ hsealing]
  simp

/-! The command (14 R478). -/

/-- What the gate shows at the boundary is what the bindings show. -/
theorem atBoundary_ledgerSnap (s : State) {t : State} (h : t.gates.ledgerSnap = (publishLedger t).gates.ledgerSnap) :
    (atBoundary s t).gates.ledgerSnap = (publishLedger t).gates.ledgerSnap := by
  unfold atBoundary
  split
  · subst t
    exact h
  · split
    · exact h
    · rfl

theorem exec_ledgerCommit (s : State) : exec .ledgerCommit s = .next (atBoundary s (doLedgerCommit s)) := rfl

theorem ledgerCommit_idles {s : State} (h : s.sen.mlSig = true ∨ s.clk.started = false) : Idles .ledgerCommit s := by
  have hdo : doLedgerCommit s = s := if_pos (by simpa using h)
  change exec _ _ = _
  rw [exec_ledgerCommit, hdo, atBoundary_self]

theorem ledgerCommit_lone {p : Pend} {s : State} (h : LoneCommit p s) (hml : s.sen.mlSig = false) (hclk : s.clk.started = true) :
    Does .ledgerCommit s [.gates, .led, .recs, .freeCtr] fun t =>
      t.led.pends = [] ∧
        (∀ c : Fin 24, (ledRow t p.bank p.slot).cells[c] =
          (ledRow s p.bank p.slot).cells[c] + (((pendCells p).find? (·.1 == c.val)).map (·.2)).getD 0) ∧
        (bankAt t p.bank).rows.filter (·.1 != p.slot) = (bankAt s p.bank).rows.filter (·.1 != p.slot) ∧
        (∀ (b : Fin 4), b.val ≠ p.bank → t.led.banks[b] = s.led.banks[b]) ∧
        t.led.lastSeq = s.led.lastSeq + (if pendCells p = [] then 0 else 1) ∧
        (pendCells p ≠ [] → (t.led.intents[t.led.lastSeq % 16]'(Nat.mod_lt _ (by decide))).done = t.led.lastSeq) ∧
        t.gates.ledgerSnap = (publishLedger s).gates.ledgerSnap := by
  have hdo : doLedgerCommit s = publishLedger ((slotTxn p.slot s).modLed fun l => { l with deferred := 0 }) := by
    rw [doLedgerCommit, if_neg (by simp [hml, hclk]), ledFlush_lone h]
  have hupd : Upd [.gates, .led, .recs, .freeCtr] s (doLedgerCommit s) := by
    rw [hdo]
    exact .comp (upd_publishLedger ..) rfl (.comp (upd_modLed ..) rfl ((upd_slotTxn_lone h).mono rfl))
  obtain ⟨binds, hled, hsnap⟩ := slotTxn_lone_led h
  have hraised := cellsRaised_lone h
  have htled : (atBoundary s (doLedgerCommit s)).led = { (slotTxn p.slot s).led with deferred := 0 } := by
    rw [atBoundary_led, hdo, (upd_publishLedger _).led rfl, State.modLed_led]
  have hbank : ∀ k, bankAt (atBoundary s (doLedgerCommit s)) k = bankAt (cellsWritten p s) k := by
    intro k
    rw [bankAt, bankAt, htled, hled]
  obtain ⟨hseq, hdone⟩ := slotTxn_lone_intent h
  refine ⟨_, exec_ledgerCommit s, upd_atBoundary _ _ rfl (.refl ..) hupd, ?_, fun c => ?_, ?_, fun b hb => ?_, ?_, fun hne => ?_, ?_⟩
  · rw [htled, hled]
  · rw [ledRow_congr (hbank p.bank)]
    exact hraised.cells c
  · rw [hbank]
    exact hraised.written.others
  · rw [htled, hled]
    exact hraised.written.banks b hb
  · rw [htled]
    exact hseq
  · simp only [htled]
    exact hdone hne
  · rw [atBoundary_ledgerSnap s (by rw [hdo]; rfl), publishLedger_ledgerSnap, publishLedger_ledgerSnap, hdo, (upd_publishLedger _).led rfl,
      State.modLed_led, hled]
    exact List.filterMap_congr fun i _ => hsnap i

/-- Settles O39: the cells by induction on the amounts (`cellsRaised_fold`), the intent from the cells that differ. -/
theorem commitsAddWhatWaits : Obligations.CommitsAddWhatWaits := by
  unfold Obligations.CommitsAddWhatWaits
  refine ⟨?_, fun _ => ledgerCommit_idles⟩
  intro p s hml hclk hpends htied hend hclose hbank htariff hhdr hwait hsealing hdue hroom hsat hfits
  exact ledgerCommit_lone ⟨hpends, htied, hend, hclose, hbank, htariff, hhdr, hwait, hsealing, hdue, hroom, hsat, hfits⟩ hml hclk

end Sys2Proof.Machine
end

section
/-! PROOF. Readout orders, grants and register readings (15 R506, R512, R516 to R518). -/

namespace Sys2Proof.Machine

/-! Readout orders (15 R517). -/

/-- The grant an accepted readout order asks for, with the boundary it was accepted after. -/
def rqEntry (p : List W128) (s : State) : W128 × W128 × Nat := (pWord p 0, pWord p 1, s.clk.bndTot)

/-- The request is held, and one of kind 3 waits for its reading too (15 R517). -/
def rqHeld (p : List W128) (s : State) : State :=
  s.modRecs fun r =>
    { r with
      grantPend := r.grantPend ++ [rqEntry p s]
      readPend := if rqKind (pWord p 0) = 3 then r.readPend ++ [rqEntry p s] else r.readPend }

theorem rqAct_eq (p : List W128) (s : State) : rqAct p s = (rqReason p s,
    if rqReason p s = 0 then rqHeld p s else raise 0x5052 3 255 (rqReason p s * 2 ^ 24 + rqKind (pWord p 0) * 2 ^ 16) s) := by
  unfold rqAct
  split
  · rename_i h
    rw [h, if_pos rfl]
    rfl
  · rename_i n h
    rw [if_neg h]

theorem rqReason_orderTaken (p : List W128) (o : OrderRec) (w : Nat) (s : State) : rqReason p (orderTaken o w s) = rqReason p s :=
  (upd_orderTaken o w s).read (rqReason p) fun _ => rfl

/-- What a readout order leaves of the records: its grant held, or event 0x5052 with the reason (15 R517). -/
def ReadoutJudged (o : OrderRec) (s t : State) : Prop :=
  if rqReason (oPayload o) s = 0 then t.recs = (rqHeld (oPayload o) s).recs
  else t.recs = s.recs ∧ (o.src = .rdo →
    t.ev = (raise 0x5052 3 255 (rqReason (oPayload o) s * 2 ^ 24 + rqKind (pWord (oPayload o) 0) * 2 ^ 16) s).ev)

theorem readout_judged (o : OrderRec) (w : Nat) (s : State) :
    ReadoutJudged o s (orderDone o (rqReason (oPayload o) s) (rqAct (oPayload o) (orderTaken o w s)).2) := by
  have ht := upd_orderTaken o w s
  rw [ReadoutJudged, (upd_orderDone ..).recs rfl, rqAct_eq, rqReason_orderTaken]
  dsimp only
  split
  · rw [rqHeld, State.modRecs_recs, ht.recs rfl, rqEntry, ht.clk rfl]
    rfl
  · exact ⟨(raise_recs ..).trans (ht.recs rfl), fun hsrc => orderDone_refusal_ev hsrc ..⟩

/-- A readout command acts on the orders of its kinds. -/
theorem readout_acts {c : OrderRec → Instr} (kinds : Nat → Bool) (hexec : ∀ o s, exec (c o) s = .next (rqOrder kinds o s)) :
    OrderActs c [10] (fun o => kinds (rqKind (pWord (oPayload o) 0))) [.gates, .keys, .recs, .mbus, .lnk, .ev, .sen]
      (fun o s => rqReason (oPayload o) s) ReadoutJudged := by
  intro o n w s h hok
  refine ⟨_, hexec o s, upd_rqOrder .., ?_⟩
  rw [rqOrder, if_pos hok]
  dsimp only
  by_cases hv : orderSigned o n s = true
  · have hr : (rqAct (oPayload o) (orderTaken o w s)).1 = rqReason (oPayload o) s := by rw [rqAct_eq, rqReason_orderTaken]
    rw [if_pos hv, ordered_signed rqAct h hv, hr]
    exact ⟨judged_orderDone h (upd_rqAct ..) rfl rfl rfl, readout_judged o w s⟩
  · rw [if_neg hv]
    exact orderBad_ordered rqAct h (by simpa using hv)

/-! Grants open and end (15 R518). -/

/-- The oldest request's grant is entered. -/
def grantEntered (a b : W128) (rest : List (W128 × W128 × Nat)) (g : Fin 8) (s : State) : State :=
  s.modRecs fun r => { r with grantPend := rest, grants := r.grants.set g { w0 := a, w1 := b } }

/-- The grant opens, its cursor with it, event 0x5053. -/
def grantOpened (a b : W128) (rest : List (W128 × W128 × Nat)) (g : Fin 8) (s : State) : State :=
  raise 0x5053 3 255 (g.val * 2 ^ 24 + rqKind a * 2 ^ 16 + rqChannel a * 2 ^ 8) (cursorOpen g.val a (grantEntered a b rest g s))

theorem upd_grantEntered (a b : W128) (rest : List (W128 × W128 × Nat)) (g : Fin 8) (s : State) : Upd [.recs] s (grantEntered a b rest g s) := by
  refine upd_modRecs _ _ ?_
  exact fun _ => Nat.le_refl _

theorem cursorOpen_ev_congr (g : Nat) (a : W128) {s t : State} (h : t.ev = s.ev) (hold : evOldest t = evOldest s) :
    (cursorOpen g a t).ev = (cursorOpen g a s).ev := by
  unfold cursorOpen
  split
  · rw [State.modEv_ev, State.modEv_ev, h, hold]
  · exact h

theorem grantOpen_opens {a b : W128} {n : Nat} {rest : List (W128 × W128 × Nat)} {g : Fin 8} {s : State}
    (hp : s.recs.grantPend = (a, b, n) :: rest) (hg : freeGrant s = some g) (hn : n < s.clk.bndTot) (hml : s.sen.mlSig = false) :
    Does .grantOpen s [.gates, .recs, .ev, .sen, .freeCtr] fun t =>
      t.recs = { s.recs with grantPend := rest, grants := s.recs.grants.set g { w0 := a, w1 := b } } ∧
        t.ev = (raise 0x5053 3 255 (g.val * 2 ^ 24 + rqKind a * 2 ^ 16 + rqChannel a * 2 ^ 8) (cursorOpen g.val a s)).ev := by
  have hdo : doGrantOpen s = grantOpened a b rest g s := by
    unfold doGrantOpen
    rw [hp, hg]
    dsimp only
    rw [if_neg (by simp [hml]; omega)]
    rfl
  have hent := upd_grantEntered a b rest g s
  have hcur := upd_cursorOpen g.val a (grantEntered a b rest g s)
  refine ⟨atBoundary s (doGrantOpen s), rfl, upd_atBoundary _ _ rfl (.refl ..) ((upd_doGrantOpen s).mono rfl), ?_, ?_⟩
  · rw [atBoundary_recs, hdo, grantOpened, raise_recs, hcur.recs rfl]
    rfl
  · rw [atBoundary_ev, hdo, grantOpened]
    have hev := cursorOpen_ev_congr g.val a (hent.ev rfl) (hent.read evOldest fun _ => rfl)
    have hs := upd_cursorOpen g.val a s
    refine raise_ev_congr hev ?_ ?_ ?_ ?_ ?_
    · rw [hcur.elec rfl, hs.elec rfl, hent.elec rfl]
    · rw [hcur.clk rfl, hs.clk rfl, hent.clk rfl]
    · rw [hcur.clk rfl, hs.clk rfl, hent.clk rfl]
    · rw [hcur.clk rfl, hs.clk rfl, hent.clk rfl]
    · rw [hcur.sen rfl, hs.sen rfl, hent.sen rfl]

/-- A boundary command that finds nothing due idles. -/
theorem atBoundary_idles {c : Instr} {f : State → State} {s : State} (hexec : exec c s = .next (atBoundary s (f s))) (h : f s = s) : Idles c s := by
  rw [Idles, hexec, h, atBoundary_self]

theorem grantOpen_idles {s : State} (h : s.recs.grantPend = [] ∨ freeGrant s = none ∨ s.sen.mlSig = true) : Idles .grantOpen s := by
  refine atBoundary_idles (f := doGrantOpen) rfl ?_
  unfold doGrantOpen
  split
  · rename_i hp hg
    rw [if_pos (by simp [hp, hg] at h; simp [h])]
  · rfl

theorem grantExpiry_ends (s : State) : Does .grantExpiry s [.gates, .recs, .freeCtr] fun t =>
    (∀ g : Fin 8, t.recs.grants[g] =
      if rqKind s.recs.grants[g].w0 ≠ 0 ∧ rqValid s.recs.grants[g].w0 ≤ s.clk.count then {} else s.recs.grants[g]) ∧
      (∀ g : Fin 8, rqKind s.recs.grants[g].w0 = 3 → rqValid s.recs.grants[g].w0 ≤ s.clk.count →
        ∀ d ∈ t.recs.delivery, d.1 ≠ fld s.recs.grants[g].w1 127 64) ∧
      t.recs.ring = s.recs.ring ∧ t.recs.next = s.recs.next := by
  refine ⟨atBoundary s (doGrantExpiry s), rfl, upd_atBoundary _ _ rfl (.refl ..) ((upd_doGrantExpiry s).mono rfl), ?_, ?_, ?_⟩
  · intro g
    rw [atBoundary_recs]
    simp [doGrantExpiry, vmap]
  · intro g hk hv d hd
    rw [atBoundary_recs] at hd
    simp only [doGrantExpiry, State.modRecs_recs, List.mem_filter] at hd
    obtain ⟨_, hgone⟩ := hd
    intro heq
    rw [heq, Bool.not_eq_true', ← Bool.not_eq_true, List.contains_iff_mem] at hgone
    refine hgone (List.mem_map_of_mem (List.mem_filter.mpr ⟨by simp, ?_⟩))
    change (rqKind s.recs.grants[g].w0 != 0 && _ && _) = true
    rw [hk]
    simpa using hv
  · rw [atBoundary_recs]
    exact ⟨rfl, rfl⟩

/-! Register readings (15 R506, R512). -/

/-- The words of the reading composed. -/
def readingOf (b : W128) (s : State) : List W128 :=
  readingWords s s.recs.next (fld b 127 120) (fld b 119 112) 1 (fld b 63 0)
    (if fld b 127 120 = 1 then lcCode s == 3 else lcCode s == 3 && !s.recs.unsealedPeriod)

/-- The records as a reading composed leaves them: its number drawn, placed for delivery, and noted in its grant. -/
def readingPlaced (a b : W128) (n : Nat) (rest : List (W128 × W128 × Nat)) (s : State) : Recs :=
  { s.recs with
    next := s.recs.next + 1
    readPend := rest
    delivery := s.recs.delivery ++ [(s.recs.next, readingOf b s)]
    grantPend := if s.recs.grantPend.any (· == (a, b, n)) then
      s.recs.grantPend.map (fun x => if x == (a, b, n) then (x.1, withRecNo x.2.1 s.recs.next, x.2.2) else x) else s.recs.grantPend
    grants := if s.recs.grantPend.any (· == (a, b, n)) then s.recs.grants
      else match (finList 8).find? fun g => s.recs.grants[g].w0 == a && s.recs.grants[g].w1 == b with
        | some g => s.recs.grants.set g { w0 := a, w1 := withRecNo b s.recs.next }
        | none => s.recs.grants }

theorem doRegisterReadingCompose_composed {a b : W128} {n : Nat} {rest : List (W128 × W128 × Nat)} {s : State}
    (hp : s.recs.readPend = (a, b, n) :: rest) (hn : n < s.clk.bndTot) (hs : ledSigns s = true) :
    doRegisterReadingCompose s =
      raise 0x5051 3 255 (s.recs.next % 2 ^ 32) ((drawRecNo s).2.modRecs fun _ => readingPlaced a b n rest s) := by
  unfold doRegisterReadingCompose
  rw [hp]
  dsimp only
  rw [if_neg (by simp [hs]; omega)]
  rfl

theorem registerReading_composed {a b : W128} {n : Nat} {rest : List (W128 × W128 × Nat)} {s : State}
    (hp : s.recs.readPend = (a, b, n) :: rest) (hn : n < s.clk.bndTot) (hs : ledSigns s = true) :
    Does .registerReadingCompose s [.gates, .recs, .ev, .sen, .freeCtr] fun t =>
      t.recs.next = s.recs.next + 1 ∧ t.recs.readPend = rest ∧ t.recs.ring = s.recs.ring ∧
        t.recs.delivery = s.recs.delivery ++ [(s.recs.next, readingOf b s)] ∧ t.ev = (raise 0x5051 3 255 (s.recs.next % 2 ^ 32) s).ev := by
  refine ⟨atBoundary s (doRegisterReadingCompose s), rfl, upd_atBoundary _ _ rfl (.refl ..) ((upd_doRegisterReadingCompose s).mono rfl), ?_⟩
  dsimp only
  rw [atBoundary_recs, atBoundary_ev, doRegisterReadingCompose_composed hp hn hs, raise_recs, State.modRecs_recs]
  exact ⟨rfl, rfl, rfl, rfl, raise_ev_congr rfl rfl rfl rfl rfl rfl⟩

theorem registerReading_idles {s : State} (h : s.recs.readPend = [] ∨ ledSigns s = false) : Idles .registerReadingCompose s := by
  refine atBoundary_idles (f := doRegisterReadingCompose) rfl ?_
  unfold doRegisterReadingCompose
  split
  · rfl
  · rename_i hp
    rw [if_pos (by simp [hp] at h; simp [h])]

theorem readoutJudged_of_kind {o : OrderRec} {s t : State} {k : Nat} (hk : rqKind (pWord (oPayload o) 0) = k) (h : ReadoutJudged o s t) :
    if rqReason (oPayload o) s = 0 then
      t.recs = { s.recs with
        grantPend := s.recs.grantPend ++ [rqEntry (oPayload o) s]
        readPend := if k = 3 then s.recs.readPend ++ [rqEntry (oPayload o) s] else s.recs.readPend }
    else t.recs = s.recs ∧ (o.src = .rdo → t.ev = (raise 0x5052 3 255 (rqReason (oPayload o) s * 2 ^ 24 + k * 2 ^ 16) s).ev) := by
  rw [← hk]
  exact h

/-- What holds of every order that acts may be weakened, for the orders the command takes. -/
theorem OrderActs.imp {c : OrderRec → Instr} {types : List Nat} {ok : OrderRec → Bool} {P : List Part} {r : OrderRec → State → Nat}
    {Q Q' : OrderRec → State → State → Prop} (h : OrderActs c types ok P r Q) (hQ : ∀ o s t, ok o = true → Q o s t → Q' o s t) :
    OrderActs c types ok P r Q' := by
  intro o n w s hready hok
  obtain ⟨t, ht, hu, hq⟩ := h o n w s hready hok
  refine ⟨t, ht, hu, ?_⟩
  split at hq
  · rw [if_pos ‹_›]
    exact ⟨hq.1, hQ o s t hok hq.2⟩
  · rw [if_neg ‹_›]
    exact hq

/-- Settles O40: a request is held or refused by its reason (`rqAct_eq`), and what is held opens, is composed and ends at boundaries. -/
theorem readoutUnderGrants : Obligations.ReadoutUnderGrants := by
  unfold Obligations.ReadoutUnderGrants
  refine ⟨?_, ?_, ?_, ?_, fun _ => grantOpen_idles, grantExpiry_ends, ?_, fun _ => registerReading_idles⟩
  · refine OrderActs.imp (readout_acts (fun k => k != 2 && k != 3) fun _ _ => rfl) fun o s t hok h => ?_
    have hk : rqKind (pWord (oPayload o) 0) ≠ 3 := by
      simp only [Bool.and_eq_true, bne_iff_ne] at hok
      exact hok.2
    simpa only [if_neg hk, rqEntry] using readoutJudged_of_kind rfl h
  · refine OrderActs.imp (readout_acts (· == 2) fun _ _ => rfl) fun o s t hok h => ?_
    exact readoutJudged_of_kind (by simpa using hok) h
  · refine OrderActs.imp (readout_acts (· == 3) fun _ _ => rfl) fun o s t hok h => ?_
    exact readoutJudged_of_kind (by simpa using hok) h
  · exact fun _ _ _ _ _ _ hp hg hn hml => grantOpen_opens hp hg hn hml
  · exact fun _ _ _ _ _ hp hn hs => registerReading_composed hp hn hs

end Sys2Proof.Machine
end

section
/-! PROOF. The M-Bus link layer (15 R521, R522, R529). -/

namespace Sys2Proof.Machine

/-! Which telegrams are taken (15 R522). -/

section
variable {a : Fin 256} {s : State}

theorem mbUp_of_here (h : mbHere a s = true) : mbUp s = true := by
  simp only [mbHere, Bool.and_eq_true] at h
  exact h.1

theorem mbHears_of_here (h : mbHere a s = true) : mbHears s a.val = some true := by
  simp only [mbHere, Bool.and_eq_true, beq_iff_eq] at h
  exact h.2

theorem mbTake_here (h : mbHere a s = true) (f : State → State) : mbTake a.val f s = mbAnswer true .ack (f s) := by
  unfold mbTake
  rw [if_neg (by simp [mbUp_of_here h]), mbHears_of_here h]

theorem mbTake_silent (hup : mbUp s = true) (h : mbHears s a.val = none) (f : State → State) : mbTake a.val f s = mbAnswer false .none s := by
  unfold mbTake
  rw [if_neg (by simp [hup]), h]

theorem mbTake_down (hup : mbUp s = false) (n : Nat) (f : State → State) : mbTake n f s = s := by
  unfold mbTake
  rw [if_pos (by simp [hup])]

/-- What a telegram taken does, and its acknowledgement. -/
theorem does_taken {c : Instr} {f : State → State} {P : List Part} {Q : State → Prop} (hexec : exec c s = .next (mbTake a.val f s))
    (h : mbHere a s = true) (hP : P.contains .mbus = true) (hf : Upd P s (f s)) (hQ : Q (mbAnswer true .ack (f s))) : Does c s P Q := by
  refine ⟨_, hexec, ?_, ?_⟩
  all_goals rw [mbTake_here h]
  · exact .comp (upd_modMbus ..) (by simpa [subParts] using hP) hf
  · exact hQ

/-! Telegrams that change M-Bus alone, and their acknowledgement (15 Table 15.9). -/

theorem sndNke_acts (h : mbHere a s = true) : Does (.sndNke a) s [.mbus] fun t =>
    t.mbus = { s.mbus with
      latch := none, cmd := .standard, fcb := none, selected := false, proxy := none, proxyCmd := none, proxyRsp := none, answer := .ack } :=
  does_taken rfl h rfl (upd_modMbus ..) rfl

theorem appReset_acts (h : mbHere a s = true) :
    Does (.sndUdAppReset a) s [.mbus] fun t => t.mbus = { s.mbus with latch := none, cmd := .standard, answer := .ack } :=
  does_taken rfl h rfl (upd_modMbus ..) rfl

theorem reqUd1_acts (h : mbHere a s = true) : Does (.reqUd1 a) s [.mbus] fun t => t.mbus = { s.mbus with answer := .ack } :=
  does_taken rfl h rfl (.refl ..) rfl

theorem unsupported_silent (h : mbHere a s = true) : Does (.mbusUnsupported a) s [.mbus] fun t => t.mbus = { s.mbus with answer := .none } := by
  refine ⟨mbAnswer false .none s, ?_, upd_modMbus .., rfl⟩
  change execMbusUnsupported a s = _
  rw [execMbusUnsupported, if_neg (by simp [mbUp_of_here h, mbHears_of_here h])]

theorem otherAddress_silent {c : Instr} {f : State → State} (hexec : exec c s = .next (mbTake a.val f s)) (hup : mbUp s = true)
    (h : mbHears s a.val = none) : Does c s [.mbus] fun t => t.mbus = { s.mbus with answer := .none } := by
  refine ⟨_, hexec, ?_, ?_⟩
  all_goals rw [mbTake_silent hup h]
  · exact upd_modMbus ..
  · rfl

theorem primaryWrite_acts (h : mbHere a s = true) (n : Nat) : Does (.sndUdPrimaryWrite a n) s [.mbus, .ev, .sen] fun t =>
    t.mbus = { s.mbus with answer := .ack } ∧ t.ev = (raise 0x3043 6 255 n s).ev := by
  refine does_taken rfl h rfl ((upd_raise ..).mono rfl) ⟨?_, rfl⟩
  rw [mbAnswer, State.modMbus_mbus, raise_mbus]
  rfl

/-! Rates (15 R521). -/

theorem baud_acts {c : Fin 256} (h : mbHere a s = true) (hlo : 0xB8 ≤ c.val) (hhi : c.val ≤ 0xBD) :
    Does (.sndUdBaud a c) s [.mbus, .ev, .sen] fun t =>
      t.mbus = { s.mbus with baud := c.val, baudPend := c.val != mbBaud s, answer := .ack } ∧ t.ev = (raise 0x3040 6 255 c.val s).ev := by
  refine does_taken (f := fun s => raise 0x3040 6 255 c (s.modMbus fun m => { m with baud := c, baudPend := c.val != mbBaud s }))
    ?_ h rfl (.comp (upd_raise ..) rfl ((upd_modMbus ..).mono rfl)) ⟨?_, ?_⟩
  · change execSndUdBaud a c s = _
    rw [execSndUdBaud, if_pos ⟨hlo, hhi⟩]
  · rw [mbAnswer, State.modMbus_mbus, raise_mbus]
    rfl
  · rw [mbAnswer, State.modMbus_ev]
    exact (upd_modMbus ..).raise_ev rfl rfl rfl rfl ..

theorem baud_otherCodes {c : Fin 256} (h : c.val < 0xB8 ∨ 0xBD < c.val) : Idles (.sndUdBaud a c) s := by
  change execSndUdBaud a c s = _
  rw [execSndUdBaud, if_neg (by omega)]

theorem baudRevert_reverts (hp : s.mbus.baudPend = true) (hup : mbUp s = true) : Does .baudRevert s [.mbus, .ev, .sen] fun t =>
    t.mbus = { s.mbus with baud := mbBaud s, baudPend := false } ∧ t.ev = (raise 0x3040 6 255 (mbBaud s) s).ev := by
  refine ⟨raise 0x3040 6 255 (mbBaud s) (s.modMbus fun m => { m with baud := mbBaud s, baudPend := false }), ?_,
    .comp (upd_raise ..) rfl ((upd_modMbus ..).mono rfl), raise_mbus .., (upd_modMbus ..).raise_ev rfl rfl rfl rfl ..⟩
  change execBaudRevert s = _
  rw [execBaudRevert, if_neg (by simp [hp, hup])]

/-! Selection by secondary address (15 R522). -/

/-- The selection that a telegram leaves: this hub, a remote node, or none (15 R522, 18 R635). -/
def mbSelected (own : Bool) (far : Option Nat) (s : State) : State :=
  mbAnswer (own || far.isSome) .ack (s.modMbus fun m =>
    { m with selected := own, proxy := if own then none else far, proxyCmd := none, proxyRsp := none })

/-- The secondary address but for the identification fits. -/
def mbFits (m v k : Nat) (s : State) : Bool := byteMatch 2 m mbMan && byteMatch 1 v (mbVersion s) && byteMatch 1 k mbMedium

theorem upd_mbSelected (own : Bool) (far : Option Nat) (s : State) : Upd [.mbus] s (mbSelected own far s) := by
  unfold mbSelected mbAnswer
  exact .comp (upd_modMbus ..) rfl (upd_modMbus ..)

theorem exec_select (d m v k : Nat) (hup : mbUp s = true) (hsec : mbSecondary s = true) : exec (.sndUdSelect d m v k) s =
    .next (mbSelected (bcdMatch d (mbIdent s) && mbFits m v k s)
      (if mbFits m v k s then (s.lnk.neigh.find? fun n => bcdMatch d n.ident).map (·.node) else none) s) := by
  change execSndUdSelect d m v k s = _
  rw [execSndUdSelect, if_neg (by simp [hup, hsec])]
  rfl

theorem select_fits {d m v k : Nat} (hup : mbUp s = true) (hsec : mbSecondary s = true) (hid : bcdMatch d (mbIdent s) = true)
    (hfit : mbFits m v k s = true) : Does (.sndUdSelect d m v k) s [.mbus] fun t =>
      t.mbus = { s.mbus with selected := true, proxy := none, proxyCmd := none, proxyRsp := none, answer := .ack } := by
  refine ⟨_, exec_select d m v k hup hsec, upd_mbSelected .., ?_⟩
  rw [hid, hfit]
  rfl

theorem select_otherHub {d m v k : Nat} (hup : mbUp s = true) (hsec : mbSecondary s = true) (hfit : mbFits m v k s = false) :
    Does (.sndUdSelect d m v k) s [.mbus] fun t =>
      t.mbus = { s.mbus with selected := false, proxy := none, proxyCmd := none, proxyRsp := none, answer := .none } := by
  refine ⟨_, exec_select d m v k hup hsec, upd_mbSelected .., ?_⟩
  rw [hfit, Bool.and_false]
  rfl

/-! Frame errors (15 R529). -/

theorem frameError_counted (hup : mbUp s = true) : Does .mbusFrameError s [.mbus, .ev, .sen] fun t =>
    t.mbus.errors = inc32 s.mbus.errors ∧ t.mbus.errRun.map (·.1) = some (nowS s) ∧ t.mbus.answer = s.mbus.answer ∧
      t.ev = (raiseIf (!runOn (s.mbus.errRun.map (·.1)) (nowS s)) 0x3042 6 255 1 s).ev := by
  obtain ⟨t, ht, hu⟩ := upd_execMbusFrameError s
  refine ⟨t, ht, hu, ?_⟩
  change execMbusFrameError s = _ at ht
  rw [execMbusFrameError, if_neg (by simp [hup])] at ht
  injection ht with ht
  subst ht
  refine ⟨?_, ?_, ?_, ?_⟩
  · rw [raiseIf_mbus]
    rfl
  · rw [raiseIf_mbus]
    rfl
  · rw [raiseIf_mbus]
    rfl
  · cases runOn (s.mbus.errRun.map (·.1)) (nowS s) with
    | true => rfl
    | false => exact (upd_modMbus ..).raise_ev rfl rfl rfl rfl ..

/-! Requests of class 2 data (15 R522, R525). -/

/-- What a request heard does to the M-Bus state before its answer goes out. -/
theorem exec_reqUd2 (b : Bool) (h : mbHere a s = true) : exec (.reqUd2 a true b) s =
    .next (mbAnswer true (.rspUd
      (if s.mbus.fcb == some b && !s.mbus.last.isEmpty then s.modMbus fun m => { m with telegrams := inc32 m.telegrams }
        else mbRespond a.val s).mbus.last)
      (State.modMbus (fun m => { m with fcb := some b })
        (if s.mbus.fcb == some b && !s.mbus.last.isEmpty then s.modMbus fun m => { m with telegrams := inc32 m.telegrams }
          else mbRespond a.val s))) := by
  change execReqUd2 a true b s = _
  rw [execReqUd2, if_neg (by simp [mbUp_of_here h]), mbHears_of_here h]
  rfl

theorem reqUd2_repeats {b : Bool} (h : mbHere a s = true) (hfcb : s.mbus.fcb = some b) (hlast : s.mbus.last ≠ []) :
    Does (.reqUd2 a true b) s [.mbus] fun t =>
      t.mbus = { s.mbus with telegrams := inc32 s.mbus.telegrams, answer := .rspUd s.mbus.last } := by
  refine ⟨_, exec_reqUd2 b h, ?_, ?_⟩
  all_goals rw [if_pos (by simp [hfcb, hlast])]
  · exact .comp (upd_modMbus ..) rfl (.comp (upd_modMbus ..) rfl (upd_modMbus ..))
  · change ({ s.mbus with telegrams := inc32 s.mbus.telegrams, fcb := some b, answer := .rspUd s.mbus.last } : Mbus) = _
    rw [← hfcb]

/-- The telegram begins with its access number and its count. -/
def mbCounted (s : State) : State := s.modMbus fun m => { m with access := (m.access + 1) % 256, telegrams := inc32 m.telegrams }

/-- The response of this hub with the standard records. -/
theorem mbRespond_standard {n : Nat} (hcmd : s.mbus.cmd = .standard) (hfar : s.mbus.proxy = none ∨ n ≠ 253) (hm : mbMode5Only s = false) :
    mbRespond n s = (mbCounted s).modMbus fun m =>
      { m with last := mbFrame (s.modMbus fun m => { m with access := (s.mbus.access + 1) % 256 }) (mbIdent s) (standardRecords s) false } := by
  have hnone : (if n = 253 then (mbCounted s).mbus.proxy else none) = none := by
    split
    · exact hfar.resolve_right (not_not_intro ‹_›)
    · rfl
  have hnext : mbNext (mbCounted s) = (standardRecords s, false, mbCounted s) := by
    unfold mbNext
    rw [show (mbCounted s).mbus.cmd = .standard from hcmd]
    rfl
  have hm' : mbMode5Only (mbCounted s) = false := hm
  unfold mbRespond
  rw [← mbCounted]
  dsimp only
  rw [hnone]
  dsimp only
  rw [hm', hnext, Bool.false_and, if_neg (by decide)]
  rfl

theorem reqUd2_advances {b : Bool} (h : mbHere a s = true) (hfcb : s.mbus.fcb ≠ some b) (hcmd : s.mbus.cmd = .standard)
    (hfar : s.mbus.proxy = none ∨ a.val ≠ 253) (hm : mbMode5Only s = false) : Does (.reqUd2 a true b) s [.mbus] fun t =>
      t.mbus.access = (s.mbus.access + 1) % 256 ∧ t.mbus.fcb = some b ∧ t.mbus.telegrams = inc32 s.mbus.telegrams ∧
        t.mbus.cmd = .standard ∧ t.mbus.latch = s.mbus.latch ∧ t.mbus.answer = .rspUd t.mbus.last ∧
        t.mbus.last = mbFrame (s.modMbus fun m => { m with access := (s.mbus.access + 1) % 256 }) (mbIdent s) (standardRecords s) false := by
  refine ⟨_, exec_reqUd2 b h, ?_, ?_⟩
  all_goals rw [if_neg (by simp [hfcb]), mbRespond_standard hcmd hfar hm]
  · exact .comp (upd_modMbus ..) rfl (.comp (upd_modMbus ..) rfl (.comp (upd_modMbus ..) rfl (upd_modMbus ..)))
  · exact ⟨rfl, rfl, rfl, hcmd, rfl, rfl, rfl⟩

end

/-! What RDO does not take (15 R531). -/

/-- While RDO does not run no telegram, frame error or rate is taken. -/
theorem mbus_down {c : Instr} {s : State} (a : Fin 256)
    (hc : c ∈ [Instr.sndNke a, .sndUdAppReset a, .reqUd1 a, .mbusUnsupported a, .baudRevert, .mbusFrameError]) (hup : mbUp s = false) : Idles c s := by
  have htake : ∀ f, Host.Outcome.next (mbTake a.val f s) = (.next s : Host.Outcome State Fault Refusal) := fun f => by rw [mbTake_down hup]
  simp only [List.mem_cons, List.not_mem_nil, or_false] at hc
  rcases hc with rfl | rfl | rfl | rfl | rfl | rfl
  · exact htake _
  · exact htake _
  · exact htake _
  · change execMbusUnsupported a s = _
    rw [execMbusUnsupported, if_pos (by simp [hup])]
  · change execBaudRevert s = _
    rw [execBaudRevert, if_pos (by simp [hup])]
  · change execMbusFrameError s = _
    rw [execMbusFrameError, if_pos (by simp [hup])]

/-- Settles O41: whether a telegram is for this hub is settled once (`mbTake_here`, `mbTake_silent`, `mbTake_down`), what it does by its kind. -/
theorem mbusLinkLayer : Obligations.MbusLinkLayer := by
  unfold Obligations.MbusLinkLayer
  refine ⟨fun _ _ => sndNke_acts, fun _ _ => appReset_acts, fun _ _ => reqUd1_acts, fun _ _ => unsupported_silent, ?_, ?_, ?_, ?_,
    fun _ _ _ h hlo hhi => baud_acts h hlo hhi, fun _ _ _ => baud_otherCodes, fun _ hp hup => baudRevert_reverts hp hup,
    fun _ n _ h => primaryWrite_acts h n, fun _ => frameError_counted, fun _ _ _ h hf hl => reqUd2_repeats h hf hl,
    fun _ _ _ h hf hc hp hm => reqUd2_advances h hf hc hp hm⟩
  · intro a c s hc hup h
    simp only [List.mem_cons, List.not_mem_nil, or_false] at hc
    rcases hc with rfl | rfl | rfl
    all_goals exact otherAddress_silent rfl hup h
  · exact fun a _ _ hc hup => mbus_down a hc hup
  · intro d m v k s hup hsec hid hm hv hk
    exact select_fits hup hsec hid (by simp [mbFits, hm, hv, hk])
  · intro d m v k s hup hsec h
    refine select_otherHub hup hsec ?_
    rcases h with h | h | h
    all_goals simp [mbFits, h]

end Sys2Proof.Machine
end

section
/-! SUPPORT. What the tag's EEPROM reads as after bytes are written (16 R532, R534). -/

namespace Sys2Proof.Machine

/-! Byte lists. -/

theorem length_bytesLE (n w : Nat) : (bytesLE n w).length = n := by
  induction n generalizing w with
  | zero => rfl
  | succ n ih => rw [bytesLE, List.length_cons, ih]

theorem bytesLE_mod (n w : Nat) : (bytesLE n w).map (· % 256) = bytesLE n w := by
  induction n generalizing w with
  | zero => rfl
  | succ n ih => rw [bytesLE, List.map_cons, ih, Nat.mod_mod]

/-! Reading what was written. -/

theorem memRead_writeAll_out {d : Byte} {bs : List Nat} {a x : Nat} {m : List Host.Cell} (h : memWf d m = true)
    (hx : x < a ∨ a + bs.length ≤ x) : memRead d (memWriteAll d a bs m) x = memRead d m x := by
  induction bs generalizing a m with
  | nil => rfl
  | cons b bs ih =>
    rw [List.length_cons] at hx
    rw [memWriteAll, ih (memWrite_wf h) (by omega), memRead_write h, if_neg (by omega)]

theorem memReadN_writeAll {d : Byte} {bs : List Nat} {a : Nat} {m : List Host.Cell} (h : memWf d m = true) :
    memReadN d (memWriteAll d a bs m) a bs.length = bs.map (· % 256) := by
  induction bs generalizing a m with
  | nil => rfl
  | cons b bs ih =>
    rw [memWriteAll, List.length_cons, memReadN, ih (memWrite_wf h), memRead_writeAll_out (memWrite_wf h) (by omega), memRead_write h,
      if_pos rfl, List.map_cons, BitVec.toNat_ofNat]

theorem memReadN_congr {d : Byte} {n a : Nat} {m m' : List Host.Cell} (h : ∀ x, a ≤ x → x < a + n → memRead d m x = memRead d m' x) :
    memReadN d m a n = memReadN d m' a n := by
  induction n generalizing a with
  | zero => rfl
  | succ n ih => rw [memReadN, memReadN, h a (by omega) (by omega), ih fun x h1 h2 => h x (by omega) (by omega)]

/-! Tag blocks. -/

section
variable {b : Nat} {bs : List Nat} {s : State}

theorem tagPut_mem (hl : bs.length = 8) : (tagPut b bs s).tag = { s.tag with mem := memWriteAll 0 (8 * b) bs s.tag.mem } := by
  rw [tagPut, State.modTag_tag, List.take_append_of_le_length (by omega), List.take_of_length_le (by omega)]

theorem tagBlock_tagPut (h : memWf 0 s.tag.mem = true) (hl : bs.length = 8) : tagBlock (tagPut b bs s) b = bs.map (· % 256) := by
  have hread := memReadN_writeAll (bs := bs) (a := 8 * b) h
  rw [hl] at hread
  rw [tagBlock, tagPut_mem hl]
  exact hread

theorem tagPut_keeps (h : memWf 0 s.tag.mem = true) (hl : bs.length = 8) : TagKeeps b (b + 1) s (tagPut b bs s) := by
  intro a ha
  rw [tagPut_mem hl]
  exact memRead_writeAll_out h (by omega)

end

theorem TagKeeps.of_mem {b c : Nat} {s t u : State} (h : TagKeeps b c s t) (hu : u.tag.mem = t.tag.mem) : TagKeeps b c s u := by
  intro a ha
  rw [hu, h a ha]

/-- Another block reads as before. -/
theorem TagKeeps.block {b c k : Nat} {s t : State} (h : TagKeeps b c s t) (hk : k < b ∨ c ≤ k) : tagBlock t k = tagBlock s k :=
  memReadN_congr fun x h1 h2 => h x (by omega)

end Sys2Proof.Machine
end

section
/-! PROOF. What the tag answers the field (16 R532 to R535, R545, R550, R552, R556). -/

namespace Sys2Proof.Machine

/-! Requests the tag takes (16 R532). -/

section
variable {q : TagReq} {s : State}

theorem tagServe_serves (h : tagHears s q = true) (ho : q.opt = false) (f : State → State) : tagServe q f s = f s := by
  unfold tagServe
  rw [if_neg (by simp [h]), if_neg (by simp [ho])]

theorem tagServe_other (h : tagHears s q = false ∨ q.opt = true) (f : State → State) :
    tagServe q f s = tagSay (if tagHears s q then some [1, 0x03] else none) s := by
  unfold tagServe
  cases hh : tagHears s q with
  | false => rfl
  | true =>
    rw [if_neg (by simp), if_pos (h.resolve_left (by simp [hh]))]
    rfl

/-- What a request served does. -/
theorem does_served {c : Instr} {f : State → State} {P : List Part} {Q : State → Prop} (hexec : exec c s = .next (tagServe q f s))
    (h : tagHears s q = true) (ho : q.opt = false) (hf : Upd P s (f s)) (hQ : Q (f s)) : Does c s P Q := by
  refine ⟨_, hexec, ?_, ?_⟩
  all_goals rw [tagServe_serves h ho]
  · exact hf
  · exact hQ

/-- What a request not served does. -/
theorem does_unserved {c : Instr} {f : State → State} (hexec : exec c s = .next (tagServe q f s)) (h : tagHears s q = false ∨ q.opt = true) :
    Does c s [.tag] fun t => t.tag = { s.tag with answer := if tagHears s q then some [1, 0x03] else none } := by
  refine ⟨_, hexec, ?_, ?_⟩
  all_goals rw [tagServe_other h]
  · exact upd_tagSay ..
  · rfl

end

/-! Reads (16 R535, R545, R552). -/

theorem tagLatch_tag (b : Nat) (s : State) : (tagLatch b s).tag =
    { s.tag with latched := if 128 ≤ b ∧ b < 512 ∧ b % 2 = 0 then insertAsc ((b - 128) / 32) s.tag.latched else s.tag.latched } := by
  unfold tagLatch
  by_cases h : 128 ≤ b ∧ b < 512 ∧ b % 2 = 0
  · rw [if_pos (by simpa [and_assoc] using h), if_pos h]
    rfl
  · rw [if_neg (by simpa [and_assoc] using h), if_neg h]

theorem foldl_tagLatch_tag (b : Nat) (l : List Nat) (s : State) : (l.foldl (fun s i => tagLatch (b + i) s) s).tag =
    { s.tag with latched := l.foldl (fun l j => if 128 ≤ b + j && b + j < 512 && (b + j) % 2 = 0 then insertAsc ((b + j - 128) / 32) l else l) s.tag.latched } := by
  induction l generalizing s with
  | nil => rfl
  | cons i l ih =>
    rw [List.foldl_cons, ih, tagLatch_tag, List.foldl_cons]
    simp only [Bool.and_eq_true, decide_eq_true_eq, and_assoc]

theorem tagReadN_reads (b n last : Nat) (s : State) : TagReads b n last s (tagReadN b n last s) := by
  unfold TagReads tagReadN
  simp only [Bool.or_eq_true, decide_eq_true_eq]
  split
  · rfl
  · split
    · rfl
    · rw [tagSay, State.modTag_tag, foldl_tagLatch_tag]
      rfl

theorem tagSecurity_answers (b n last : Nat) (s : State) : TagSecures b n last s (tagSecurity b n last s) := by
  unfold TagSecures tagSecurity
  simp only [Bool.or_eq_true, Bool.and_eq_true, decide_eq_true_eq]
  split <;> rfl

/-! Writes (16 R534, R550, R556). -/

theorem nowS_raise (code src pt arg : Nat) (s : State) : nowS (raise code src pt arg s) = nowS s :=
  congrArg (· / 32768) (raise_sen_read (p := Sen.mono) (fun _ _ _ => rfl) ..)

theorem nowS_raiseIf (b : Bool) (code src pt arg : Nat) (s : State) : nowS (raiseIf b code src pt arg s) = nowS s :=
  congrArg (· / 32768) (raiseIf_sen_read (p := Sen.mono) (fun _ _ _ => rfl) ..)

theorem tagFieldWrite_refuses {b : Nat} (hb : b < 512 ∨ 768 ≤ b) (d : Nat) (s : State) : TagRefusesWrite b s (tagFieldWrite b d s) := by
  unfold tagFieldWrite
  dsimp only
  rw [if_neg (by simp; omega)]
  exact ⟨by rw [tagSay, State.modTag_tag, State.modTag_tag, raiseIf_tag, nowS_raiseIf], rfl⟩

/-- A header with a TYPE and a new CELL_SEQ rings (16 R550). -/
def rings (b : Nat) (bs : List Nat) (s : State) : Bool :=
  b % 16 = 0 && bs.getD 0 0 != 0 && natLE ((bs.drop 2).take 2) != natLE (((tagBlock s b).drop 2).take 2)

/-- The doorbell list as a header written leaves it. -/
def bellsAfter (b d : Nat) (s : State) : List Nat :=
  if b % 16 = 0 ∧ d % 256 ≠ 0 ∧ natLE (((bytesLE 8 d).drop 2).take 2) ≠ natLE (((tagBlock s b).drop 2).take 2) then
    insertAsc ((b - 512) / 16) s.tag.bells else s.tag.bells

theorem tagFieldWrite_stores {b : Nat} (hlo : 512 ≤ b) (hhi : b < 768) (d : Nat) (s : State) :
    (tagFieldWrite b d s).tag = { (tagPut b (bytesLE 8 d) s).tag with answer := some [0], bells := bellsAfter b d s } := by
  unfold tagFieldWrite bellsAfter
  dsimp only
  rw [if_pos (by simp; omega)]
  have hr : rings b (bytesLE 8 d) s = true ↔
      b % 16 = 0 ∧ d % 256 ≠ 0 ∧ natLE (((bytesLE 8 d).drop 2).take 2) ≠ natLE (((tagBlock s b).drop 2).take 2) := by
    simp only [rings, Bool.and_eq_true, decide_eq_true_eq, bne_iff_ne, and_assoc]
    rfl
  rw [tagSay, State.modTag_tag, ← rings]
  split
  · rw [if_pos (hr.mp ‹_›)]
    rfl
  · rw [if_neg (mt hr.mpr ‹_›)]
    rfl

theorem fieldWrite_stores {q : TagReq} {b : Fin 1024} {s : State} (h : tagHears s q = true) (ho : q.opt = false) (hlo : 512 ≤ b.val)
    (hhi : b.val < 768) (hm : memWf 0 s.tag.mem = true) (d : Nat) : Does (.extendedWriteSingle q b d) s [.tag] fun t =>
      t.tag.answer = some [0] ∧ tagBlock t b.val = bytesLE 8 d ∧ TagKeeps b.val (b.val + 1) s t ∧ t.tag.bells = bellsAfter b.val d s ∧
        t.tag.st = s.tag.st ∧ t.tag.latched = s.tag.latched := by
  have htag := tagFieldWrite_stores hlo hhi d s
  refine does_served rfl h ho ?_ ⟨?_, ?_, ?_, ?_, ?_, ?_⟩
  · unfold tagFieldWrite
    dsimp only
    rw [if_pos (by simp; omega)]
    refine .comp (upd_tagSay ..) rfl ?_
    split
    · refine .comp (upd_modTag _ _ ?_) rfl (upd_tagPut ..)
      exact fun _ h => h
    · exact upd_tagPut ..
  · rw [htag]
  · rw [tagBlock, htag]
    exact (tagBlock_tagPut hm (length_bytesLE 8 d)).trans (bytesLE_mod 8 d)
  · exact (tagPut_keeps hm (length_bytesLE 8 d)).of_mem (by rw [htag])
  · rw [htag]
  · rw [htag]
    rfl
  · rw [htag]
    rfl

/-- Settles O43: a request is served or answered as `tagServe` says, reads by `tagReadN_reads`, writes by the block's owner. -/
theorem tagAnswersTheField : Obligations.TagAnswersTheField := by
  unfold Obligations.TagAnswersTheField
  refine ⟨?_, ?_, ?_, ?_, ?_, ?_, ?_, ?_, ?_, fun q b d s h ho hlo hhi hm => fieldWrite_stores h ho hlo hhi hm d, ?_, ?_⟩
  · intro n m a s
    refine ⟨if s.tag.st = .quiet || tagUid s % 2 ^ n ≠ m % 2 ^ n || a.getD 0 ≠ 0 then tagSay none s else tagSay (some (0 :: 0 :: bytesLE 8 (tagUid s))) s,
      rfl, ?_, ?_⟩
    · split
      · exact upd_tagSay ..
      · exact upd_tagSay ..
    · by_cases hq : s.tag.st ≠ .quiet ∧ tagUid s % 2 ^ n = m % 2 ^ n ∧ a.getD 0 = 0
      · rw [if_pos hq, if_neg (by simp [hq])]
        rfl
      · rw [if_neg hq, if_pos (by simp only [not_and_or, not_not] at hq; simpa [or_assoc] using hq)]
        rfl
  · intro q s
    refine ⟨_, rfl, ?_, ?_⟩
    · refine .comp (upd_tagSay ..) rfl ?_
      split
      · refine upd_modTag _ _ ?_
        exact fun _ h => h
      · exact .refl ..
    · dsimp only
      split <;> rfl
  · intro s
    refine ⟨_, (by change execTagSelect (tagUid s) false s = _; rw [execTagSelect, if_pos rfl, if_neg (by decide)]), ?_, rfl⟩
    refine .comp (upd_tagSay ..) rfl (upd_modTag _ _ ?_)
    exact fun _ h => h
  · intro u o s hu
    refine ⟨_, (by change execTagSelect u o s = _; rw [execTagSelect, if_neg hu]), ?_, rfl⟩
    refine .comp (upd_tagSay ..) rfl (upd_modTag _ _ ?_)
    exact fun _ h => h
  · intro q s h ho
    refine ⟨does_served rfl h ho ?_ rfl, does_served rfl h ho (upd_tagSay ..) rfl, does_served rfl h ho (upd_tagSay ..) rfl⟩
    refine .comp (upd_tagSay ..) rfl (upd_modTag _ _ ?_)
    exact fun _ h => h
  · intro q b n s h ho
    exact ⟨does_served rfl h ho (upd_tagReadN ..) (tagReadN_reads ..), does_served rfl h ho (upd_tagReadN ..) (tagReadN_reads ..),
      does_served rfl h ho (upd_tagSecurity ..) (tagSecurity_answers ..)⟩
  · intro q b n s h ho
    exact ⟨does_served rfl h ho (upd_tagReadN ..) (tagReadN_reads ..), does_served rfl h ho (upd_tagReadN ..) (tagReadN_reads ..),
      does_served rfl h ho (upd_tagSecurity ..) (tagSecurity_answers ..)⟩
  · exact fun q b d s h ho => does_served rfl h ho (upd_tagFieldWrite ..) (tagFieldWrite_refuses (by omega) ..)
  · exact fun q b d s h ho hb => does_served rfl h ho (upd_tagFieldWrite ..) (tagFieldWrite_refuses hb ..)
  · intro q b e n d c s hc h
    simp only [List.mem_cons, List.not_mem_nil, or_false] at hc
    rcases hc with rfl | rfl | rfl | rfl | rfl | rfl | rfl | rfl | rfl | rfl | rfl
    all_goals exact does_unserved rfl h
  · intro q s
    refine ⟨_, rfl, ?_, ?_⟩
    · split
      · exact upd_tagSay ..
      · exact upd_tagSay ..
    · dsimp only
      split <;> rfl

end Sys2Proof.Machine
end

section
/-! SUPPORT. Frames, result cells, directory entries and windows of the tag, as RDO writes them (16 R541, R543, R544, R551). -/

namespace Sys2Proof.Machine

/-! What stands in the tag after several writes. -/

theorem TagKeeps.refl (b c : Nat) (s : State) : TagKeeps b c s s := fun _ _ => rfl

theorem TagKeeps.trans {b c b' c' lo hi : Nat} {s t u : State} (h : TagKeeps b c s t) (h' : TagKeeps b' c' t u) (hb : lo ≤ b) (hb' : lo ≤ b')
    (hc : c ≤ hi) (hc' : c' ≤ hi) : TagKeeps lo hi s u := by
  intro a ha
  rw [h' a (by omega), h a (by omega)]

theorem tagPut_wf {b : Nat} {bs : List Nat} {s : State} (h : memWf 0 s.tag.mem = true) : memWf 0 (tagPut b bs s).tag.mem = true :=
  memWriteAll_wf h

/-- A change of the tag that is none of the EEPROM. -/
theorem upd_modTag_noMem (f : Tag → Tag) (s : State) (h : ∀ t, (f t).mem = t.mem) : Upd [.tag] s (s.modTag f) := by
  refine upd_modTag _ _ ?_
  intro x hx
  rwa [h x]

/-! Frames: word by word, low half then high half (16 R544). -/

/-- One word of a frame at two blocks. -/
def putWord (b c : Nat) (w : W128) (s : State) : State := tagPut c ((wordBytes w).drop 8) (tagPut b ((wordBytes w).take 8) s)

theorem length_wordBytes (w : W128) : (wordBytes w).length = 16 := length_bytesLE ..

section
variable {b c : Nat} {s : State} (h : memWf 0 s.tag.mem = true) (hc : c = b + 1)
include h hc

theorem putWord_reads (w : W128) : tagBlock (putWord b c w s) b ++ tagBlock (putWord b c w s) c = wordBytes w := by
  have hlow : ((wordBytes w).take 8).length = 8 := by rw [List.length_take, length_wordBytes]; rfl
  have hhigh : ((wordBytes w).drop 8).length = 8 := by rw [List.length_drop, length_wordBytes]
  have hmod : (wordBytes w).map (· % 256) = wordBytes w := bytesLE_mod ..
  rw [putWord, tagBlock_tagPut (tagPut_wf h) hhigh, (tagPut_keeps (tagPut_wf h) hhigh).block (by omega), tagBlock_tagPut h hlow,
    ← List.map_append, List.take_append_drop, hmod]

theorem putWord_keeps (w : W128) : TagKeeps b (b + 2) s (putWord b c w s) := by
  have hlow : ((wordBytes w).take 8).length = 8 := by rw [List.length_take, length_wordBytes]; rfl
  have hhigh : ((wordBytes w).drop 8).length = 8 := by rw [List.length_drop, length_wordBytes]
  exact (tagPut_keeps h hlow).trans (tagPut_keeps (tagPut_wf h) hhigh) (by omega) (by omega) (by omega) (by omega)

end

theorem putWord_wf {b c : Nat} {w : W128} {s : State} (h : memWf 0 s.tag.mem = true) : memWf 0 (putWord b c w s).tag.mem = true :=
  tagPut_wf (tagPut_wf h)

/-- A frame from its word n on. -/
def putFrameFrom (f n : Nat) (ws : List W128) (s : State) : State :=
  (ws.zipIdx n).foldl (fun s e => putWord (128 + 32 * f + 2 * e.2) (129 + 32 * f + 2 * e.2) e.1 s) s

theorem putFrame_eq (f : Nat) (ws : List W128) (s : State) : putFrame f ws s = putFrameFrom f 0 ws s := rfl

theorem putFrameFrom_cons (f n : Nat) (w : W128) (ws : List W128) (s : State) :
    putFrameFrom f n (w :: ws) s = putFrameFrom f (n + 1) ws (putWord (128 + 32 * f + 2 * n) (129 + 32 * f + 2 * n) w s) := rfl

theorem putWord_modMem (b c : Nat) (w : W128) (m : List Host.Cell) (s : State) :
    ((putWord b c w s).modTag fun t => { t with mem := m }) = s.modTag fun t => { t with mem := m } := by
  simp only [putWord, tagPut, State.modTag]

/-- A frame changes the EEPROM alone. -/
theorem putFrameFrom_mem (f n : Nat) (ws : List W128) (s : State) : ∃ m, putFrameFrom f n ws s = s.modTag fun t => { t with mem := m } := by
  induction ws generalizing n s with
  | nil => exact ⟨s.tag.mem, rfl⟩
  | cons w ws ih =>
    obtain ⟨m, hm⟩ := ih (n + 1) (putWord (128 + 32 * f + 2 * n) (129 + 32 * f + 2 * n) w s)
    exact ⟨m, by rw [putFrameFrom_cons, hm, putWord_modMem]⟩

theorem putFrameFrom_keeps {f n : Nat} {ws : List W128} {s : State} (h : memWf 0 s.tag.mem = true) :
    TagKeeps (128 + 32 * f + 2 * n) (128 + 32 * f + 2 * (n + ws.length)) s (putFrameFrom f n ws s) := by
  induction ws generalizing n s with
  | nil => exact TagKeeps.refl _ _ _
  | cons w ws ih =>
    rw [putFrameFrom_cons, List.length_cons]
    exact (putWord_keeps h (by omega) w).trans (ih (putWord_wf h)) (by omega) (by omega) (by omega) (by omega)

theorem putFrameFrom_reads {f n : Nat} {ws : List W128} {s : State} (h : memWf 0 s.tag.mem = true) (j : Nat) (hj : j < ws.length) :
    tagBlock (putFrameFrom f n ws s) (128 + 32 * f + 2 * (n + j)) ++ tagBlock (putFrameFrom f n ws s) (129 + 32 * f + 2 * (n + j)) =
      wordBytes (ws.getD j 0) := by
  induction ws generalizing n s j with
  | nil => simp at hj
  | cons w ws ih =>
    rw [putFrameFrom_cons]
    cases j with
    | zero =>
      have hrest := putFrameFrom_keeps (f := f) (n := n + 1) (ws := ws)
        (putWord_wf (b := 128 + 32 * f + 2 * n) (c := 129 + 32 * f + 2 * n) (w := w) h)
      rw [Nat.add_zero, hrest.block (by omega), hrest.block (by omega)]
      exact putWord_reads h (by omega) w
    | succ j =>
      have hnext := ih (n := n + 1) (putWord_wf (b := 128 + 32 * f + 2 * n) (c := 129 + 32 * f + 2 * n) (w := w) h) j (by simpa using hj)
      rw [show n + (j + 1) = n + 1 + j by omega, hnext, List.getD_cons_succ]

/-! Result cells (16 R551). -/

/-- The HANDLE that a result header carries. -/
def winHandle (win : Option Nat) (s : State) : Nat := match win with
  | some w => (tagWin s w).handle
  | none => 0

/-- The bytes of a result header. -/
def resultHeader (typ status seq : Nat) (win : Option Nat) (s : State) : List Nat :=
  [typ, status] ++ bytesLE 2 seq ++ bytesLE 2 (winHandle win s) ++ [win.getD 0xFF, 0]

section
variable (k typ status seq : Nat) (win : Option Nat) (s : State)

theorem length_resultHeader : (resultHeader typ status seq win s).length = 8 := by
  simp only [resultHeader, List.length_append, length_bytesLE, List.length_cons, List.length_nil]

theorem putResultHeader_eq : putResultHeader k typ status seq win s = tagPut (768 + 16 * k) (resultHeader typ status seq win s) s := rfl

variable {s} (h : memWf 0 s.tag.mem = true)
include h

theorem tagBlock_putResultHeader : tagBlock (putResultHeader k typ status seq win s) (768 + 16 * k) =
    [typ % 256, status % 256] ++ bytesLE 2 seq ++ bytesLE 2 (winHandle win s) ++ [win.getD 0xFF % 256, 0] := by
  rw [putResultHeader_eq, tagBlock_tagPut h (length_resultHeader ..), resultHeader]
  simp only [List.map_append, bytesLE_mod]
  rfl

theorem putResultHeader_keeps : TagKeeps (768 + 16 * k) (769 + 16 * k) s (putResultHeader k typ status seq win s) := by
  have hk := tagPut_keeps (b := 768 + 16 * k) h (length_resultHeader typ status seq win s)
  rw [show 768 + 16 * k + 1 = 769 + 16 * k by omega] at hk
  exact hk

end

/-- A field cell's message word stands below the result cells, so a result header leaves it. -/
theorem cellWord_keeps {k j : Nat} {s t : State} (h : TagKeeps (768 + 16 * k) (769 + 16 * k) s t) (hj : j < 3) : cellWord t k j = cellWord s k j := by
  rw [cellWord, cellWord, h.block (by omega), h.block (by omega)]

theorem cellType_keeps {k : Nat} {s t : State} (h : TagKeeps (768 + 16 * k) (769 + 16 * k) s t) : cellType t k = cellType s k := by
  rw [cellType, cellType, h.block (by omega)]

theorem cellType_lt (s : State) (k : Nat) : cellType s k < 256 := BitVec.isLt _

/-! Directory entries (16 R541). -/

theorem dirEntry_putDir {w frame flags handle : Nat} {s : State} (h : memWf 0 s.tag.mem = true) :
    dirEntry (putDir w frame flags handle s) w = [frame % 256, flags % 256] ++ bytesLE 2 handle := by
  have hread := memReadN_writeAll (bs := [frame, flags] ++ bytesLE 2 handle) (a := 8 * 56 + 4 * w) h
  rw [List.map_append, bytesLE_mod] at hread
  exact hread

/-- Only the four bytes of the entry change. -/
theorem putDir_read {w frame flags handle a : Nat} {s : State} (h : memWf 0 s.tag.mem = true) (ha : a < 8 * 56 + 4 * w ∨ 8 * 56 + 4 * w + 4 ≤ a) :
    memRead 0 (putDir w frame flags handle s).tag.mem a = memRead 0 s.tag.mem a :=
  memRead_writeAll_out h (by rw [List.length_append, length_bytesLE]; exact ha)

/-! Windows (16 R543). -/

theorem tagWin_val (s : State) (v : Fin 8) : tagWin s v.val = s.tag.wins[v] := by
  simp [tagWin]

theorem modWin8_val (v : Fin 8) (f : TagWin → TagWin) (s : State) :
    modWin8 v.val f s = s.modTag fun t => { t with wins := t.wins.set v (f t.wins[v]) } := by
  rw [modWin8, fin?_val]

theorem assignWindow_held {tenant v : Nat} {s : State} (hn : nfcWindows s = true) (ht : tenant ≠ 0)
    (hv : ((List.range 8).find? fun v => (tagWin s v).tenant == tenant) = some v) :
    assignWindow tenant s = (some v, modWin8 v (fun x => { x with lastReq := s.clk.bndTot }) s) := by
  have hfind : ((List.range 8).find? fun w => (tagWin s w).tenant == tenant && tenant != 0) = some v := by
    simpa [ht] using hv
  rw [assignWindow, if_neg (by simp [hn]), hfind]

end Sys2Proof.Machine
end

section
/-! PROOF. What RDO does with the tag (16 R539, R541 to R545, R549 to R552, R557). -/

namespace Sys2Proof.Machine

/-! Mailboxes (16 R550, R551). -/

/-- The lowest doorbelled cell is taken. -/
def bellTaken (rest : List Nat) (s : State) : State := s.modTag fun t => { t with bells := rest, takenCy := t.takenCy + 1 }

/-- What becomes of a cell taken. -/
def cellTaken (k : Nat) (rest : List Nat) (s : State) : State :=
  if !cellFormed s k then refuseCell k (bellTaken rest s)
  else if !(s.life.cond == .run && (if cellType s k = 1 then nfcTokens s else nfcWindows s)) then
    putResultHeader k (cellType s k) 5 (cellSeq s k) none (bellTaken rest s)
  else
    State.modTag (fun t =>
        if cellType (putResultHeader k (cellType s k) 1 (cellSeq s k) none (bellTaken rest s)) k = 1 then
          { t with tokQ := t.tokQ ++ [(k, [cellWord (putResultHeader k (cellType s k) 1 (cellSeq s k) none (bellTaken rest s)) k 0,
            cellWord (putResultHeader k (cellType s k) 1 (cellSeq s k) none (bellTaken rest s)) k 1,
            cellWord (putResultHeader k (cellType s k) 1 (cellSeq s k) none (bellTaken rest s)) k 2])] }
        else { t with reqQ := t.reqQ ++ [(k, cellWord (putResultHeader k (cellType s k) 1 (cellSeq s k) none (bellTaken rest s)) k 0)] })
      (putResultHeader k (cellType s k) 1 (cellSeq s k) none (bellTaken rest s))

theorem upd_bellTaken (rest : List Nat) (s : State) : Upd [.tag] s (bellTaken rest s) := upd_modTag_noMem _ _ fun _ => rfl

section
variable {k : Nat} {rest : List Nat} {s : State} (hb : s.tag.bells = k :: rest) (hw : rdoWrites s = true) (ht : s.tag.takenCy < 4)
  (hc : s.life.cond = .run)

include hb hw ht hc in
theorem exec_mailboxTake : exec .mailboxTake s = .next (cellTaken k rest s) := by
  change execMailboxTake s = _
  unfold execMailboxTake
  rw [hb]
  dsimp only
  rw [if_neg (by simp [hw, hc]; omega)]
  rfl

/-- A token cell received: STATUS 1, its message passed on (16 R550). -/
theorem cellTaken_token (hc : s.life.cond = .run) (hf : cellFormed s k = true) (h1 : cellType s k = 1) (hn : nfcTokens s = true)
    (hm : memWf 0 s.tag.mem = true) : cellTaken k rest s =
      State.modTag (fun t => { t with tokQ := t.tokQ ++ [(k, [cellWord s k 0, cellWord s k 1, cellWord s k 2])] })
        (putResultHeader k 1 1 (cellSeq s k) none (bellTaken rest s)) := by
  have hk : TagKeeps (768 + 16 * k) (769 + 16 * k) s (putResultHeader k 1 1 (cellSeq s k) none (bellTaken rest s)) :=
    putResultHeader_keeps (s := bellTaken rest s) k 1 1 (cellSeq s k) none hm
  unfold cellTaken
  rw [if_neg (by simp [hf]), if_neg (by simp [hc, h1, hn]), h1, cellType_keeps hk, cellWord_keeps hk (by omega), cellWord_keeps hk (by omega),
    cellWord_keeps hk (by omega)]
  simp only [h1, if_true]

include hb hw ht hc in
theorem mailbox_token (hf : cellFormed s k = true) (h1 : cellType s k = 1) (hn : nfcTokens s = true) (hm : memWf 0 s.tag.mem = true) :
    Does .mailboxTake s [.tag] fun t =>
      t.tag.bells = rest ∧ t.tag.takenCy = s.tag.takenCy + 1 ∧ t.tag.tokQ = s.tag.tokQ ++ [(k, [cellWord s k 0, cellWord s k 1, cellWord s k 2])] ∧
        (tagBlock t (768 + 16 * k)).take 4 = [1, 1] ++ bytesLE 2 (cellSeq s k) ∧ TagKeeps (768 + 16 * k) (769 + 16 * k) s t := by
  have hexec := exec_mailboxTake hb hw ht hc
  rw [cellTaken_token hc hf h1 hn hm] at hexec
  refine ⟨_, hexec, ?_, rfl, rfl, rfl, ?_, ?_⟩
  · exact .comp (upd_modTag_noMem _ _ fun _ => rfl) rfl (.comp (upd_putResultHeader ..) rfl (upd_bellTaken ..))
  · exact congrArg (List.take 4) (tagBlock_putResultHeader (s := bellTaken rest s) k 1 1 (cellSeq s k) none hm)
  · exact (putResultHeader_keeps (s := bellTaken rest s) k 1 1 (cellSeq s k) none hm).of_mem rfl

include hb hw ht hc in
theorem mailbox_malformed (hf : cellFormed s k = false) (hm : memWf 0 s.tag.mem = true) : Does .mailboxTake s [.tag, .ev, .sen] fun t =>
    t.tag.bells = rest ∧ t.tag.tokQ = s.tag.tokQ ∧ t.tag.reqQ = s.tag.reqQ ∧
      (tagBlock t (768 + 16 * k)).take 2 = [cellType s k, 3] ∧ TagKeeps (768 + 16 * k) (769 + 16 * k) s t ∧
      t.ev = (raise 0x3060 6 255 (k * 2 ^ 24 + cellType s k * 2 ^ 16) s).ev := by
  have hexec := exec_mailboxTake hb hw ht hc
  rw [cellTaken, if_pos (by simp [hf])] at hexec
  have hput := upd_putResultHeader k (cellType s k) 3 (cellSeq s k) none (bellTaken rest s)
  have htag : (refuseCell k (bellTaken rest s)).tag = (putResultHeader k (cellType s k) 3 (cellSeq s k) none (bellTaken rest s)).tag := raise_tag ..
  refine ⟨_, hexec, .comp (upd_refuseCell ..) rfl ((upd_bellTaken ..).mono rfl), ?_, ?_, ?_, ?_, ?_, ?_⟩
  · rw [htag]
    rfl
  · rw [htag]
    rfl
  · rw [htag]
    rfl
  · have hblock := congrArg (List.take 2) (tagBlock_putResultHeader (s := bellTaken rest s) k (cellType s k) 3 (cellSeq s k) none hm)
    rw [Nat.mod_eq_of_lt (cellType_lt s k)] at hblock
    rw [tagBlock, htag]
    exact hblock
  · exact (putResultHeader_keeps (s := bellTaken rest s) k (cellType s k) 3 (cellSeq s k) none hm).of_mem (by rw [htag])
  · exact (hput.raise_ev rfl rfl rfl rfl ..).trans ((upd_bellTaken rest s).raise_ev rfl rfl rfl rfl ..)

theorem mailbox_idles (h : s.tag.bells = [] ∨ rdoWrites s = false ∨ 4 ≤ s.tag.takenCy) : Idles .mailboxTake s := by
  change execMailboxTake s = _
  unfold execMailboxTake
  split
  · rfl
  · rename_i hq
    rw [if_pos (by simp [hq] at h; rcases h with h | h <;> simp [h])]

end

/-! Window requests (16 R543, R549). -/

/-- The oldest request is taken, its tenant's window noted as requested (16 R543). -/
def windowNoted (v : Fin 8) (rest : List (Nat × W128)) (s : State) : State :=
  s.modTag fun t => { t with reqQ := rest, wins := t.wins.set v { t.wins[v] with lastReq := s.clk.bndTot } }

/-- A request answered: STATUS 2 with its window's HANDLE (16 R543, R551). -/
def windowAnswered (k : Nat) (v : Fin 8) (rest : List (Nat × W128)) (s : State) : State :=
  putResultHeader k 2 2 (cellSeq s k) (some v.val) (windowNoted v rest s)

theorem upd_windowNoted (v : Fin 8) (rest : List (Nat × W128)) (s : State) : Upd [.tag] s (windowNoted v rest s) :=
  upd_modTag_noMem _ _ fun _ => rfl

theorem tagWin_windowNoted (v : Fin 8) (rest : List (Nat × W128)) (s : State) :
    tagWin (windowNoted v rest s) v = { tagWin s v with lastReq := s.clk.bndTot } := by
  rw [tagWin_val, tagWin_val]
  exact Vector.getElem_set_self ..

theorem exec_windowRequest {k : Nat} {v : Fin 8} {x : W128} {rest : List (Nat × W128)} {s : State} (hq : s.tag.reqQ = (k, x) :: rest)
    (hw : rdoWrites s = true) (hf : reqFormed s x = true) (hn : nfcWindows s = true) (hten : fld x 111 96 ≠ 0)
    (hfind : ((List.range 8).find? fun v => (tagWin s v).tenant == fld x 111 96) = some v.val) :
    exec .windowRequest s = .next (windowAnswered k v rest s) := by
  have hnf : ¬ (!reqFormed s x) = true := by simp [hf]
  have hassign : assignWindow (fld x 111 96) (s.modTag fun t => { t with reqQ := rest }) = (some v.val, _) := assignWindow_held hn hten hfind
  change execWindowRequest s = _
  unfold execWindowRequest
  rw [hq]
  dsimp only
  rw [if_neg (by simp [hw]), if_neg (by exact hnf), hassign, modWin8_val]
  rfl

theorem windowRequest_answers {k v : Nat} {x : W128} {rest : List (Nat × W128)} {s : State} (hq : s.tag.reqQ = (k, x) :: rest)
    (hw : rdoWrites s = true) (hf : reqFormed s x = true) (hn : nfcWindows s = true) (hten : fld x 111 96 ≠ 0) (hv : v < 8)
    (hfind : ((List.range 8).find? fun v => (tagWin s v).tenant == fld x 111 96) = some v) (hm : memWf 0 s.tag.mem = true) :
    Does .windowRequest s [.tag] fun t =>
      t.tag.reqQ = rest ∧ (tagWin t v) = { tagWin s v with lastReq := s.clk.bndTot } ∧
        (tagBlock t (768 + 16 * k)).take 2 = [2, 2] ∧ (tagBlock t (768 + 16 * k)).drop 4 = bytesLE 2 (tagWin s v).handle ++ [v, 0] ∧
        TagKeeps (768 + 16 * k) (769 + 16 * k) s t := by
  lift v to Fin 8 using hv
  have hwin := tagWin_windowNoted v rest s
  have hblock := tagBlock_putResultHeader (s := windowNoted v rest s) k 2 2 (cellSeq s k) (some v.val) hm
  rw [show winHandle (some v.val) (windowNoted v rest s) = (tagWin s v).handle by rw [winHandle, hwin]] at hblock
  refine ⟨_, exec_windowRequest hq hw hf hn hten hfind, .comp (upd_putResultHeader ..) rfl (upd_windowNoted ..), rfl, hwin,
    congrArg (List.take 2) hblock, ?_, putResultHeader_keeps (s := windowNoted v rest s) k 2 2 (cellSeq s k) (some v.val) hm⟩
  refine (congrArg (List.drop 4) hblock).trans ?_
  have hv' : v.val % 256 = v.val := by omega
  simp [bytesLE, hv']

theorem windowRequest_idles {s : State} (h : s.tag.reqQ = [] ∨ rdoWrites s = false) : Idles .windowRequest s := by
  change execWindowRequest s = _
  unfold execWindowRequest
  split
  · rfl
  · rename_i hq
    rw [if_pos (by simp [hq] at h; simp [h])]

end Sys2Proof.Machine
end

section
/-! PROOF. Windows published and flipped, and the public area (16 R536, R539, R542 to R545, R552, R557). -/

namespace Sys2Proof.Machine

/-! Publications (16 R544, R557). -/

theorem length_bytesWords (n : Nat) (bs : List Nat) : (bytesWords n bs).length ≤ n := by
  induction n generalizing bs with
  | zero => exact Nat.le_refl 0
  | succ n ih =>
    cases bs with
    | nil => exact Nat.zero_le _
    | cons b bs => exact Nat.succ_le_succ (ih _)

theorem length_frameWords (s : State) (m seq tenant handle : Nat) (plain : List W128) : (frameWords s m seq tenant handle plain).length = 16 := by
  have hle := fun bs => length_bytesWords 14 bs
  simp only [frameWords, List.length_append, List.length_cons, List.length_nil, List.length_replicate]
  rw [Nat.add_assoc 1, Nat.add_sub_cancel' (hle _)]

/-- The window as its publication leaves it. -/
def windowPublished (f : Nat) (plain : List W128) (s : State) (x : TagWin) : TagWin :=
  { x with content := plain, lastPub := s.clk.bndTot, flipTo := some f, flipSince := s.clk.bndTot, flipSeen := false }

/-- The words of the frame that a window's publication writes. -/
def publishedWords (v : Fin 8) (m : Nat) (s : State) : List W128 :=
  frameWords s m (s.tag.pubCtr + 1) s.tag.wins[v].tenant s.tag.wins[v].handle (windowWords s s.tag.wins[v].tenant)

/-- The publication counter has risen. -/
def pubCounted (s : State) : State := s.modTag fun t => { t with pubCtr := s.tag.pubCtr + 1 }

/-- The frame written and the window awaiting its flip. -/
def windowWritten (v : Fin 8) (m f : Nat) (s : State) : State :=
  (putFrameFrom f 0 (publishedWords v m s) (pubCounted s)).modTag fun t =>
    { t with wins := t.wins.set v (windowPublished f (windowWords s s.tag.wins[v].tenant) s t.wins[v]) }

theorem windowWritten_mem (v : Fin 8) (m f : Nat) (s : State) :
    (windowWritten v m f s).tag.mem = (putFrameFrom f 0 (publishedWords v m s) (pubCounted s)).tag.mem := by
  rw [windowWritten, State.modTag_tag]

theorem windowWritten_pubCtr (v : Fin 8) (m f : Nat) (s : State) : (windowWritten v m f s).tag.pubCtr = s.tag.pubCtr + 1 := by
  obtain ⟨mem, hput⟩ := putFrameFrom_mem f 0 (publishedWords v m s) (pubCounted s)
  rw [windowWritten, hput]
  simp only [State.modTag_tag, pubCounted]

theorem windowWritten_wins (v : Fin 8) (m f : Nat) (s : State) :
    (windowWritten v m f s).tag.wins = s.tag.wins.set v (windowPublished f (windowWords s s.tag.wins[v].tenant) s s.tag.wins[v]) := by
  obtain ⟨mem, hput⟩ := putFrameFrom_mem f 0 (publishedWords v m s) (pubCounted s)
  rw [windowWritten, hput]
  simp only [State.modTag_tag, pubCounted]

/-- The frame that failed is out of use. -/
def frameOut (f : Nat) (s : State) : State := s.modTag fun t => { t with outFrames := insertAsc f t.outFrames }

theorem upd_pubCounted (s : State) : Upd [.tag] s (pubCounted s) := upd_modTag_noMem _ _ fun _ => rfl

theorem upd_frameOut (f : Nat) (s : State) : Upd [.tag] s (frameOut f s) := upd_modTag_noMem _ _ fun _ => rfl

theorem upd_windowWritten (v : Fin 8) (m f : Nat) (s : State) : Upd [.tag] s (windowWritten v m f s) :=
  .comp (upd_modTag_noMem _ _ fun _ => rfl) rfl (.comp (upd_putFrame ..) rfl (upd_pubCounted s))

section
variable {v : Fin 8} {m f : Nat} {s : State} (hm : roleSlot s 2 = some m) (hf : freeFrame s = some f) (hw : rdoWrites s = true)
  (hc : s.life.cond = .run) (hd : windowDue s (tagWin s v.val) = true)
include hm hf hw hc hd

theorem exec_windowPublish : exec (.windowPublish v none) s = .next (windowWritten v m f s) := by
  change execWindowPublish v none s = _
  unfold execWindowPublish
  dsimp only
  rw [hm, hf]
  dsimp only
  rw [if_neg (by simp [hw, hc, hd]), modWin8_val, tagWin_val]
  rfl

theorem exec_windowPublish_fails (b : Nat) :
    exec (.windowPublish v (some b)) s = .next (raise 0x3065 6 255 (128 + 32 * f + b % 32) (frameOut f (pubCounted s))) := by
  change execWindowPublish v (some b) s = _
  unfold execWindowPublish
  dsimp only
  rw [hm, hf]
  dsimp only
  rw [if_neg (by simp [hw, hc, hd])]
  rfl

theorem windowPublish_writes (hmem : memWf 0 s.tag.mem = true) : Does (.windowPublish v none) s [.tag] fun t =>
    t.tag.pubCtr = s.tag.pubCtr + 1 ∧
      t.tag.wins = s.tag.wins.set v (windowPublished f (windowWords s s.tag.wins[v].tenant) s s.tag.wins[v]) ∧
      TagKeeps (128 + 32 * f) (160 + 32 * f) s t ∧
      (∀ j : Fin 16, tagBlock t (128 + 32 * f + 2 * j.val) ++ tagBlock t (129 + 32 * f + 2 * j.val) =
        wordBytes ((publishedWords v m s).getD j.val 0)) := by
  have hlen : (publishedWords v m s).length = 16 := length_frameWords ..
  have hkeeps := putFrameFrom_keeps (s := pubCounted s) (f := f) (n := 0) (ws := publishedWords v m s) hmem
  rw [hlen] at hkeeps
  refine ⟨_, exec_windowPublish hm hf hw hc hd, upd_windowWritten .., windowWritten_pubCtr .., windowWritten_wins .., ?_, fun j => ?_⟩
  · intro a ha
    rw [windowWritten_mem, hkeeps a (by omega)]
    rfl
  · have hread := putFrameFrom_reads (s := pubCounted s) (f := f) (n := 0) (ws := publishedWords v m s) hmem j (by omega)
    rw [Nat.zero_add] at hread
    rw [tagBlock, tagBlock, windowWritten_mem]
    exact hread

theorem windowPublish_fails (b : Nat) : Does (.windowPublish v (some b)) s [.tag, .ev, .sen] fun t =>
    t.tag.mem = s.tag.mem ∧ t.tag.wins = s.tag.wins ∧ t.tag.outFrames = insertAsc f s.tag.outFrames ∧
      t.ev = (raise 0x3065 6 255 (128 + 32 * f + b % 32) s).ev := by
  have hu : Upd [.tag] s (frameOut f (pubCounted s)) := .comp (upd_frameOut ..) rfl (upd_pubCounted s)
  refine ⟨_, exec_windowPublish_fails hm hf hw hc hd b, .comp (upd_raise ..) rfl (hu.mono rfl), ?_, ?_, ?_, hu.raise_ev rfl rfl rfl rfl ..⟩
  all_goals
    rw [raise_tag]
    rfl

end

theorem windowPublish_idles {v : Fin 8} (x : Option Nat) {s : State}
    (h : roleSlot s 2 = none ∨ freeFrame s = none ∨ rdoWrites s = false ∨ windowDue s (tagWin s v.val) = false) :
    Idles (.windowPublish v x) s := by
  change execWindowPublish v x s = _
  unfold execWindowPublish
  dsimp only
  split
  · rename_i hm hf
    rw [if_pos (by simp only [hm, hf, reduceCtorEq, false_or] at h; rcases h with h | h <;> simp [h])]
  · rfl

/-! Flips (16 R544, R545, R552). -/

/-- No field read latches the frame that a directory entry names. -/
theorem heldFrame_false {v : Fin 8} {s : State} (h : ∀ g ∈ s.tag.latched, dirFrame s v.val ≠ some g) :
    (match dirFrame s v.val with | some g => s.tag.latched.contains g | none => false) = false := by
  split
  · rename_i g hg
    simpa using fun hmem => h g hmem hg
  · rfl

/-- The flip taken off the window. -/
def flipDone (v : Fin 8) (s : State) : State := s.modTag fun t => { t with wins := t.wins.set v { t.wins[v] with flipTo := none } }

section
variable {v : Fin 8} {f : Nat} {s : State} (hf : s.tag.wins[v].flipTo = some f) (hw : rdoWrites s = true)
  (hl : ∀ g ∈ s.tag.latched, dirFrame s v.val ≠ some g)
include hf hw hl

theorem exec_windowFlip (fail : Bool) : exec (.windowFlip v true fail) s = .next (if fail then raise 0x3065 6 255 (56 + v.val / 2) s
    else putDir v.val f 1 s.tag.wins[v].handle (flipDone v s)) := by
  change execWindowFlip v true fail s = _
  unfold execWindowFlip
  dsimp only
  rw [tagWin_val, hf]
  dsimp only
  rw [if_neg (by rw [hw]; exact fun h => Bool.false_ne_true ((heldFrame_false hl).symm.trans h)), modWin8_val]
  rfl

theorem windowFlip_flips (hm : memWf 0 s.tag.mem = true) : Does (.windowFlip v true false) s [.tag] fun t =>
    t.tag.wins = s.tag.wins.set v { s.tag.wins[v] with flipTo := none } ∧
      dirEntry t v.val = [f % 256, 1] ++ bytesLE 2 s.tag.wins[v].handle ∧ (∀ u : Fin 8, u ≠ v → dirEntry t u.val = dirEntry s u.val) ∧
      TagKeeps (56 + v.val / 2) (57 + v.val / 2) s t := by
  have hread := fun a => putDir_read (w := v.val) (frame := f) (flags := 1) (handle := s.tag.wins[v].handle) (a := a) (s := flipDone v s) hm
  refine ⟨_, exec_windowFlip hf hw hl false, .comp (upd_putDir ..) rfl (upd_modTag_noMem _ _ fun _ => rfl), rfl,
    dirEntry_putDir (s := flipDone v s) hm, fun u hu => ?_, ?_⟩
  · have hne : u.val ≠ v.val := Fin.val_ne_of_ne hu
    exact memReadN_congr fun x h1 h2 => hread x (by omega)
  · exact fun a ha => hread a (by omega)

theorem windowFlip_fails : Does (.windowFlip v true true) s [.ev, .sen] fun t => t.ev = (raise 0x3065 6 255 (56 + v.val / 2) s).ev :=
  ⟨_, exec_windowFlip hf hw hl true, upd_raise .., rfl⟩

end

theorem windowFlip_busy (v : Fin 8) (fail : Bool) (s : State) : Idles (.windowFlip v false fail) s := by
  change execWindowFlip v false fail s = _
  unfold execWindowFlip
  dsimp only
  split
  · rfl
  · rw [if_pos (by simp)]

section
variable {v : Fin 8} {s : State}

theorem flipTimeout_raises (hf : s.tag.wins[v].flipTo.isSome = true) (hs : s.tag.wins[v].flipSeen = false)
    (ht : s.tag.wins[v].flipSince + 500 ≤ s.clk.bndTot) (hw : rdoWrites s = true) : Does (.flipPendingTimeout v) s [.tag, .ev, .sen] fun t =>
      t.tag.wins = s.tag.wins.set v { s.tag.wins[v] with flipSeen := true } ∧ t.tag.mem = s.tag.mem ∧
        t.ev = (raise 0x3063 6 255 (v.val * 2 ^ 24) s).ev := by
  have hexec : exec (.flipPendingTimeout v) s =
      .next (raise 0x3063 6 255 (v.val * 2 ^ 24) (modWin8 v (fun x => { x with flipSeen := true }) s)) := by
    change execFlipPendingTimeout v s = _
    unfold execFlipPendingTimeout
    dsimp only
    rw [if_pos (by rw [tagWin_val, hf, hs, hw]; simpa using ht)]
  refine ⟨_, hexec, .comp (upd_raise ..) rfl ((upd_modWin8 ..).mono rfl), ?_, ?_, (upd_modWin8 ..).raise_ev rfl rfl rfl rfl ..⟩
  all_goals
    rw [raise_tag, modWin8_val]
    rfl

theorem flipTimeout_idles (h : s.tag.wins[v].flipTo = none ∨ s.tag.wins[v].flipSeen = true) : Idles (.flipPendingTimeout v) s := by
  change execFlipPendingTimeout v s = _
  unfold execFlipPendingTimeout
  dsimp only
  rw [tagWin_val, if_neg (by rcases h with h | h <;> rw [h] <;> simp)]

end

/-! The public area (16 R536, R539, R557). -/

/-- The block is one that RDO refreshes when it changes. -/
def isFreeBlock (b : Nat) : Prop := b < 8 ∨ (24 ≤ b ∧ b < 56)

theorem length_publicBlock {b : Nat} (hb : isFreeBlock b) (s : State) : (publicBlock s b).length = 8 := by
  have hpad : ∀ bs : List Nat, ((bs ++ List.replicate 8 0).take 8).length = 8 := fun bs => by
    rw [List.length_take, List.length_append, List.length_replicate]
    omega
  have hlabel : ∀ bs : List Nat, ((bs ++ List.replicate 6 0).take 6).length = 6 := fun bs => by
    rw [List.length_take, List.length_append, List.length_replicate]
    omega
  unfold isFreeBlock at hb
  unfold publicBlock
  dsimp only
  split
  · rfl
  · split
    · exact hpad _
    · iterate 6 rw [if_neg (by omega)]
      split
      · exact hpad _
      · split
        · exact hpad _
        · rw [List.length_append, hlabel]
          rfl

/-- The publication count has risen. -/
def publicCounted (s : State) : State := s.modTag fun t => { t with pubN := inc32 t.pubN }

/-- PUB_N stands in block 10 alone. -/
theorem publicBlock_counted {b : Nat} (hb : isFreeBlock b) (s : State) : publicBlock (publicCounted s) b = publicBlock s b := by
  have h10 : b ≠ 10 := by unfold isFreeBlock at hb; omega
  unfold publicBlock
  simp only [h10, if_false]
  rfl

section
variable {b : Fin 64} {s : State} (hw : rdoWrites s = true) (hs : s.clk.started = true) (hb : isFreeBlock b.val)
  (ht : s.tag.pubAt[b] + 50 ≤ s.clk.bndTot) (hne : tagBlock s b.val ≠ publicBlock s b.val)
include hw hs hb ht hne

theorem exec_publicAreaUpdate (fail : Bool) : exec (.publicAreaUpdate b fail) s = .next (putPublic b.val fail (publicCounted s)) := by
  have hfree : (b.val < 8 || (24 ≤ b.val && b.val < 56)) = true := by simpa [isFreeBlock] using hb
  have h56 : b.val < 56 := by unfold isFreeBlock at hb; omega
  change execPublicAreaUpdate b fail s = _
  unfold execPublicAreaUpdate
  dsimp only
  rw [if_neg (by rw [hw, hs, hfree]; simp only [decide_eq_true ht]; simpa using ⟨h56, hne⟩)]
  rfl

theorem publicArea_writes (hm : memWf 0 s.tag.mem = true) : Does (.publicAreaUpdate b false) s [.tag] fun t =>
    tagBlock t b.val = (publicBlock s b.val).map (· % 256) ∧ TagKeeps b.val (b.val + 1) s t ∧ t.tag.pubN = inc32 s.tag.pubN ∧
      t.tag.pubAt[b] = s.clk.bndTot := by
  have hblock := publicBlock_counted hb s
  have hl := length_publicBlock hb s
  have hput : putPublic b.val false (publicCounted s) = State.modTag (fun t =>
      { t with retry := t.retry.filter (· != b.val), pubAt := t.pubAt.set b s.clk.bndTot })
        (tagPut b.val (publicBlock s b.val) (publicCounted s)) := by
    unfold putPublic
    rw [hblock, if_neg (by exact hne), if_neg (by decide), fin?_val]
    rfl
  have hexec := exec_publicAreaUpdate hw hs hb ht hne false
  rw [hput] at hexec
  refine ⟨_, hexec, ?_, ?_, ?_, rfl, ?_⟩
  · exact .comp (upd_modTag_noMem _ _ fun _ => rfl) rfl (.comp (upd_tagPut ..) rfl (upd_modTag_noMem _ _ fun _ => rfl))
  · exact tagBlock_tagPut (s := publicCounted s) hm hl
  · exact (tagPut_keeps (s := publicCounted s) hm hl).of_mem rfl
  · exact Vector.getElem_set_self ..

theorem publicArea_fails : Does (.publicAreaUpdate b true) s [.tag, .ev, .sen] fun t =>
    t.tag.mem = s.tag.mem ∧ t.tag.retry = insertAsc b.val s.tag.retry ∧ t.ev = (raise 0x3065 6 255 b.val s).ev := by
  have hput : putPublic b.val true (publicCounted s) =
      raise 0x3065 6 255 b.val ((publicCounted s).modTag fun t => { t with retry := insertAsc b.val t.retry }) := by
    unfold putPublic
    rw [publicBlock_counted hb, if_neg (by exact hne), if_pos rfl]
  have hexec := exec_publicAreaUpdate hw hs hb ht hne true
  rw [hput] at hexec
  have hu : Upd [.tag] s ((publicCounted s).modTag fun t => { t with retry := insertAsc b.val t.retry }) :=
    .comp (upd_modTag_noMem _ _ fun _ => rfl) rfl (upd_modTag_noMem _ _ fun _ => rfl)
  refine ⟨_, hexec, .comp (upd_raise ..) rfl (hu.mono rfl), ?_, ?_, hu.raise_ev rfl rfl rfl rfl ..⟩
  all_goals
    rw [raise_tag]
    rfl

end

theorem publicArea_idles {b : Fin 64} (fail : Bool) {s : State}
    (h : rdoWrites s = false ∨ 56 ≤ b.val ∨ tagBlock s b.val = publicBlock s b.val) : Idles (.publicAreaUpdate b fail) s := by
  change execPublicAreaUpdate b fail s = _
  unfold execPublicAreaUpdate
  dsimp only
  rw [if_pos (by rcases h with h | h | h <;> simp [h])]

/-- Settles O44: cells, windows, flips and public blocks each write their own blocks (`TagKeeps`), and a program that fails none. -/
theorem rdoServesTheTag : Obligations.RdoServesTheTag := by
  unfold Obligations.RdoServesTheTag
  refine ⟨fun _ _ _ hb _ hw ht hc hf h1 hn hm => mailbox_token hb hw ht hc hf h1 hn hm,
    fun _ _ _ hb _ hw ht hc hf hm => mailbox_malformed hb hw ht hc hf hm, fun _ => mailbox_idles,
    fun _ _ _ _ _ hq hw hf hn hten hv hfind hm => windowRequest_answers hq hw hf hn hten hv hfind hm, fun _ => windowRequest_idles,
    fun _ _ _ _ hr hf hw hc hd hm => windowPublish_writes hr hf hw hc hd hm, fun _ _ _ b _ hr hf hw hc hd => windowPublish_fails hr hf hw hc hd b,
    fun _ x _ => windowPublish_idles x, fun _ _ _ hf hw hl hm => windowFlip_flips hf hw hl hm, fun _ _ _ hf hw hl => windowFlip_fails hf hw hl,
    windowFlip_busy, fun _ _ hf hs ht hw => flipTimeout_raises hf hs ht hw, fun _ _ => flipTimeout_idles,
    fun _ _ hw hs hb ht hne hm => publicArea_writes hw hs hb ht hne hm, fun _ _ hw hs hb ht hne => publicArea_fails hw hs hb ht hne,
    fun _ fail _ => publicArea_idles fail, fun _ _ => ⟨_, rfl, upd_modTag_noMem _ _ fun _ => rfl, rfl⟩⟩

end Sys2Proof.Machine
end

section
/-! PROOF. What the Acrad PHY sends, receives, measures and loads, and what its faults do (17 R562 to R600; 18 R621, R628). -/

namespace Sys2Proof.Machine

/-! Transmissions (17 R562, R564, R593, R597, R598; 18 R621). -/

/-- The request has gone out on coupler c. -/
def txSent (n : Nat) (r : TxReq) (rest : List TxReq) (c : Nat) (s : State) : State :=
  s.modPhy fun p =>
    { p with tx := rest, sel := 0, driver := false, lastTx := some (frameSent r c s), report := some (true, n),
             rxAborts := if p.rxActive then p.rxAborts + 1 else p.rxAborts, rxActive := false,
             limRun := if decide (64 < n) then some (nowS s) else p.limRun }

/-- The request has gone out, with event 0x3080 for the first limited frame of a run. -/
def txReported (n : Nat) (r : TxReq) (rest : List TxReq) (c : Nat) (s : State) : State :=
  raiseIf (decide (64 < n) && !runOn s.phy.limRun (nowS s)) 0x3080 5 255 (c * 2 ^ 24 + n % 2 ^ 24) (txSent n r rest c s)

/-- What becomes of the oldest request, once its coupler is chosen. -/
def txOutcome (n : Nat) (r : TxReq) (rest : List TxReq) (c : Option Nat) (s : State) : State := match c with
  | none => s.modPhy fun p => { p with tx := rest, report := some (false, 0) }
  | some c => txReported n r rest c s

/-- The signal of a frame depends on the carriers' gains and the tone maps alone. -/
theorem frameSent_congr {s t : State} (hg : gainOf t = gainOf s) (hm : mapOf t = mapOf s) (r : TxReq) (c : Nat) :
    frameSent r c t = frameSent r c s := by
  have hon : onCarriers t = onCarriers s := by rw [onCarriers, onCarriers, hg]
  have htones : frameTones t = frameTones s := by
    funext q
    unfold frameTones
    rw [hon, hm]
  rw [frameSent, frameSent, htones]

theorem upd_txReported (n : Nat) (r : TxReq) (rest : List TxReq) (c : Nat) (s : State) : Upd [.phy, .ev, .sen] s (txReported n r rest c s) :=
  .comp (upd_raiseIf ..) rfl ((upd_modPhy ..).mono rfl)

theorem txReported_phy (n : Nat) (r : TxReq) (rest : List TxReq) (c : Nat) (s : State) :
    (txReported n r rest c s).phy = (txSent n r rest c s).phy := raiseIf_phy ..

theorem useCoupler_own {c : Nat} {s : State} (h : couplerOk s c = true) : useCoupler c s = (some c, s) := by
  rw [useCoupler, if_pos h]

/-- The coupler that stands in for one out of use: the next working one (18 R621). -/
def standIn (c : Nat) (s : State) : Option Nat := [nextCoupler c, nextCoupler (nextCoupler c)].find? (couplerOk s)

/-- The stand-in is noted, with event 0x30AD once. -/
def couplerReplaced (c d : Nat) (s : State) : State :=
  raiseIf (!s.lnk.cplSeen) 0x30AD 5 255 (c * 2 ^ 24 + d * 2 ^ 16) (s.modLnk fun l => { l with cplSeen := true })

theorem useCoupler_other {c d : Nat} {s : State} (h : couplerOk s c = false) (hd : standIn c s = some d) :
    useCoupler c s = (some d, couplerReplaced c d s) := by
  rw [useCoupler, if_neg (by simp [h]), ← standIn, hd, couplerReplaced]

theorem useCoupler_none {c : Nat} {s : State} (h : couplerOk s c = false) (hd : standIn c s = none) : useCoupler c s = (none, s) := by
  rw [useCoupler, if_neg (by simp [h]), ← standIn, hd]

section
variable {n : Nat} {r : TxReq} {rest : List TxReq} {s : State} (htx : s.phy.tx = r :: rest) (hup : lnkUp s = true) (hv : s.phy.vldOk = true)
  (ht : s.phy.thermal = false)
include htx hup hv ht

theorem exec_phyTransmit {c : Option Nat} {u : State} (hc : useCoupler r.coupler s = (c, u)) :
    exec (.phyTransmit n) s = .next (txOutcome n r rest c u) := by
  change execPhyTransmit n s = _
  unfold execPhyTransmit
  rw [htx]
  dsimp only
  rw [if_neg (by simp [hup, hv, ht]), hc]
  cases c <;> rfl

theorem transmit_own (hc : couplerOk s r.coupler = true) : Does (.phyTransmit n) s [.phy, .ev, .sen] fun t =>
    t.phy = { s.phy with
      tx := rest, sel := 0, driver := false, report := some (true, n), rxActive := false
      rxAborts := s.phy.rxAborts + (if s.phy.rxActive then 1 else 0), lastTx := some (frameSent r r.coupler s)
      limRun := if 64 < n then some (nowS s) else s.phy.limRun } ∧
    t.ev = (raiseIf (decide (64 < n) && !runOn s.phy.limRun (nowS s)) 0x3080 5 255 (r.coupler * 2 ^ 24 + n % 2 ^ 24) s).ev := by
  refine ⟨_, exec_phyTransmit htx hup hv ht (useCoupler_own hc), upd_txReported .., ?_, (upd_modPhy ..).raiseIf_ev rfl rfl rfl rfl ..⟩
  rw [txOutcome, txReported_phy, txSent, State.modPhy_phy]
  simp only [decide_eq_true_eq]
  cases s.phy.rxActive <;> rfl

theorem transmit_other {c : Nat} (hbad : couplerOk s r.coupler = false) (hc : standIn r.coupler s = some c) (hn : n ≤ 64) :
    Does (.phyTransmit n) s [.phy, .lnk, .ev, .sen] fun t =>
      t.phy.tx = rest ∧ t.phy.report = some (true, n) ∧ t.phy.lastTx = some (frameSent r c s) ∧ t.lnk = { s.lnk with cplSeen := true } ∧
        t.ev = (raiseIf (!s.lnk.cplSeen) 0x30AD 5 255 (r.coupler * 2 ^ 24 + c * 2 ^ 16) s).ev := by
  have hu : Upd [.lnk, .ev, .sen] s (couplerReplaced r.coupler c s) := .comp (upd_raiseIf ..) rfl ((upd_modLnk ..).mono rfl)
  have hquiet : txReported n r rest c (couplerReplaced r.coupler c s) = txSent n r rest c (couplerReplaced r.coupler c s) := by
    rw [txReported, decide_eq_false (by omega), Bool.false_and]
    rfl
  have hexec := exec_phyTransmit (n := n) htx hup hv ht (useCoupler_other hbad hc)
  rw [txOutcome, hquiet] at hexec
  refine ⟨_, hexec, .comp (upd_modPhy ..) rfl (hu.mono rfl), rfl, rfl, ?_, ?_, ?_⟩
  · exact congrArg some (frameSent_congr (hu.read gainOf fun _ => rfl) (hu.read mapOf fun _ => rfl) r c)
  · exact raiseIf_lnk ..
  · exact (upd_modLnk ..).raiseIf_ev rfl rfl rfl rfl ..

theorem transmit_unsent (hall : ∀ c : Nat, c < 4 → couplerOk s c = false) (hr : r.coupler < 4) :
    Does (.phyTransmit n) s [.phy] fun t => t.phy = { s.phy with tx := rest, report := some (false, 0) } := by
  have hnext : ∀ c, couplerOk s (nextCoupler c) = false := fun c => hall _ (by unfold nextCoupler; omega)
  have hnone : standIn r.coupler s = none := by
    simp [standIn, hnext]
  have hexec := exec_phyTransmit (n := n) htx hup hv ht (useCoupler_none (hall _ hr) hnone)
  rw [txOutcome] at hexec
  exact ⟨_, hexec, upd_modPhy .., rfl⟩

end

theorem standIn_eq {c d : Nat} {s : State} (hd : couplerOk s d = true)
    (h : d = nextCoupler c ∨ (couplerOk s (nextCoupler c) = false ∧ d = nextCoupler (nextCoupler c))) : standIn c s = some d := by
  rcases h with rfl | ⟨hno, rfl⟩
  · rw [standIn, List.find?_cons_of_pos hd]
  · rw [standIn, List.find?_cons_of_neg (by simp [hno]), List.find?_cons_of_pos hd]

theorem transmit_idles (n : Nat) {s : State} (h : s.phy.tx = [] ∨ lnkUp s = false ∨ s.phy.vldOk = false ∨ s.phy.thermal = true) :
    Idles (.phyTransmit n) s := by
  change execPhyTransmit n s = _
  unfold execPhyTransmit
  split
  · rfl
  · rename_i htx
    rw [if_pos (by simp only [htx, reduceCtorEq, false_or] at h; rcases h with h | h | h <;> simp [h])]

/-! Receptions (17 R574, R582, R593; 18 R608, R628). -/

theorem neighOf_modNeigh_k (node : Nat) (f : Neigh → Neigh) (hf : ∀ n, (f n).node = n.node ∧ (f n).k = n.k) (k : Nat) (s : State) :
    (neighOf (modNeigh node f s) k).bind (·.k) = (neighOf s k).bind (·.k) := by
  have hmap : ∀ l : List Neigh, ((l.map fun n => if n.node == node then f n else n).find? (·.node == k)).bind (·.k) =
      (l.find? (·.node == k)).bind (·.k) := by
    intro l
    induction l with
    | nil => rfl
    | cons n l ih =>
      have hnode : (if n.node == node then f n else n).node = n.node := by split <;> simp [hf]
      have hk : (if n.node == node then f n else n).k = n.k := by split <;> simp [hf]
      rw [List.map_cons, List.find?_cons, List.find?_cons, hnode]
      split
      · exact hk
      · exact ih
  exact hmap s.lnk.neigh

/-- A frame with a valid frame control has ended: the levels and the time of its sender are kept (17 R582). -/
def frameEnded (fc : Nat) (l : List Int) (s : State) : State :=
  modNeigh (fcSrc fc) (fun n => { n with lastCount := s.clk.count }) (s.modPhy fun p =>
    { p with rxActive := false, levels := kset (fcSrc fc) ((l :: (kget? (fcSrc fc) p.levels).getD []).take 16) p.levels })

theorem upd_frameEnded (fc : Nat) (l : List Int) (s : State) : Upd [.phy, .lnk] s (frameEnded fc l s) := by
  unfold frameEnded modNeigh
  exact .comp (upd_modLnk ..) rfl ((upd_modPhy ..).mono rfl)

theorem frameEnded_lnk (fc : Nat) (l : List Int) (s : State) : (frameEnded fc l s).lnk =
    { s.lnk with neigh := s.lnk.neigh.map fun n => if n.node = fcSrc fc then { n with lastCount := s.clk.count } else n } := by
  simp only [frameEnded, modNeigh, State.modLnk_lnk, State.modPhy_lnk, beq_iff_eq]

theorem couplerFor_frameEnded (fc : Nat) (l : List Int) (s : State) (node super : Nat) :
    couplerFor (frameEnded fc l s) node super = couplerFor s node super := by
  have hk := neighOf_modNeigh_k (fcSrc fc) (fun n => { n with lastCount := s.clk.count }) (fun _ => ⟨rfl, rfl⟩) node
    (s.modPhy fun p => { p with rxActive := false, levels := kset (fcSrc fc) ((l :: (kget? (fcSrc fc) p.levels).getD []).take 16) p.levels })
  rw [couplerFor, frameEnded, hk]
  rfl

/-- The frame that is answered with STATUS 1. -/
def failedFrame (fc : Nat) : AcFrame :=
  { src := fcSrc fc, dst := fcDst fc, bcast := false, fseq := fcMac fc / 256, fctr := 0, keysel := 0, body := [] }

section
variable {fc : Nat} {bs : List Bool} {l : List Int} {s : State}

theorem any_not_eq_contains (bs : List Bool) : bs.any (! ·) = bs.contains false := by
  induction bs with
  | nil => rfl
  | cons b bs ih => cases b <;> simp_all

variable (hh : phyHears s = true)
include hh

theorem received_bad {ok : Bool} (whole : Bool) (h : ok = false ∨ fcValid s fc = false) : Does (.phyFrameReceived fc ok whole bs l) s [.phy] fun t =>
    t.phy = { s.phy with fcBad := s.phy.fcBad + 1, rxActive := false } := by
  simp only [phyHears, Bool.and_eq_true] at hh
  obtain ⟨hsupply, hcond⟩ := hh
  refine ⟨_, ?_, upd_modPhy (fun p => { p with fcBad := p.fcBad + 1, rxActive := false }) s, rfl⟩
  change execPhyFrameReceived fc ok whole bs l s = _
  unfold execPhyFrameReceived
  rw [if_neg (by rw [hsupply, hcond]; decide), if_pos (by rcases h with h | h <;> simp [h])]

theorem received_coming (h : fcValid s fc = true) : Does (.phyFrameReceived fc true false bs l) s [.phy] fun t =>
    t.phy = { s.phy with rxActive := true } := by
  simp only [phyHears, Bool.and_eq_true] at hh
  obtain ⟨hsupply, hcond⟩ := hh
  refine ⟨_, ?_, upd_modPhy (fun p => { p with rxActive := true }) s, rfl⟩
  change execPhyFrameReceived fc true false bs l s = _
  unfold execPhyFrameReceived
  rw [if_neg (by rw [hsupply, hcond]; decide), if_neg (by simp [h]), if_pos (by simp)]

theorem exec_received_whole (h : fcValid s fc = true) : exec (.phyFrameReceived fc true true bs l) s =
    .next (if ackFails fc bs s then sendAck (failedFrame fc) 1 (frameEnded fc l s) else frameEnded fc l s) := by
  simp only [phyHears, Bool.and_eq_true] at hh
  obtain ⟨hsupply, hcond⟩ := hh
  have hack : ackFails fc bs s = (lnkUp (frameEnded fc l s) && fcType fc = 1 && !fcBcast fc && fcDst fc = nodeId (frameEnded fc l s)
      && inNodeMap (frameEnded fc l s) (fcSrc fc) && bs.any (! ·)) := by
    rw [any_not_eq_contains]
    rfl
  change execPhyFrameReceived fc true true bs l s = _
  unfold execPhyFrameReceived
  rw [if_neg (by rw [hsupply, hcond]; decide), if_neg (by simp [h]), if_neg (by simp), hack]
  rfl

theorem received_ended (h : fcValid s fc = true) (ha : ackFails fc bs s = false) : Does (.phyFrameReceived fc true true bs l) s [.phy, .lnk] fun t =>
    t.phy = { s.phy with rxActive := false, levels := kset (fcSrc fc) ((l :: (kget? (fcSrc fc) s.phy.levels).getD []).take 16) s.phy.levels } ∧
      t.lnk = { s.lnk with neigh := s.lnk.neigh.map fun n => if n.node = fcSrc fc then { n with lastCount := s.clk.count } else n } := by
  have hexec := exec_received_whole (bs := bs) (l := l) hh h
  rw [if_neg (by simp [ha])] at hexec
  exact ⟨_, hexec, upd_frameEnded .., rfl, frameEnded_lnk ..⟩

theorem received_failed (h : fcValid s fc = true) (ha : ackFails fc bs s = true) : Does (.phyFrameReceived fc true true bs l) s [.phy, .lnk] fun t =>
    t.phy.rxActive = false ∧ t.lnk.acks = (fcSrc fc, fcMac fc / 256, 1) :: s.lnk.acks.take 7 ∧
      t.phy.tx = s.phy.tx ++ [ackReq (fcSrc fc) (fcMac fc / 256) 1 s] := by
  have hexec := exec_received_whole (bs := bs) (l := l) hh h
  rw [if_pos ha] at hexec
  refine ⟨_, hexec, .comp (upd_sendAck ..) rfl (upd_frameEnded ..), rfl, rfl, ?_⟩
  have hreq : ackReq (fcSrc fc) (fcMac fc / 256) 1 (frameEnded fc l s) = ackReq (fcSrc fc) (fcMac fc / 256) 1 s := by
    have hcount : estCount (frameEnded fc l s) = estCount s := rfl
    have hnode : nodeId (frameEnded fc l s) = nodeId s := rfl
    simp only [ackReq, couplerFor_frameEnded, hcount, hnode]
  rw [← hreq]
  rfl

end

theorem received_deaf {s : State} (hh : phyHears s = false) (fc : Nat) (ok whole : Bool) (bs : List Bool) (l : List Int) :
    Idles (.phyFrameReceived fc ok whole bs l) s := by
  change execPhyFrameReceived fc ok whole bs l s = _
  unfold execPhyFrameReceived
  rw [if_pos]
  simp only [phyHears, Bool.and_eq_false_iff] at hh
  rcases hh with h | h
  · simp [h]
  · rw [h]
    simp

/-! Noise and tone maps (17 R585, R590, R592). -/

section
variable {σ : Fin 6} {mean : List Int} {s : State}

theorem noise_measured (hl : mean.length = 417) (hu : noiseUsable s = true) : Does (.noiseSlot σ mean) s [.phy] fun t =>
    t.phy = { s.phy with
      noise := s.phy.noise.set σ (if s.phy.noise[σ] = [] then mean.map (16 * ·)
        else (s.phy.noise[σ].zip mean).map fun e => e.1 + (16 * e.2 - e.1) / 16) } := by
  simp only [noiseUsable, Bool.and_eq_true, beq_iff_eq, Bool.not_eq_true'] at hu
  obtain ⟨⟨⟨hstate, hstart⟩, htx⟩, hrx⟩ := hu
  refine ⟨_, (by change execNoiseSlot σ mean s = _; rw [execNoiseSlot, if_neg (by simp [hl, hstate, hstart, htx, hrx])]), upd_modPhy .., ?_⟩
  simp only [State.modPhy_phy, List.isEmpty_iff]

theorem noise_unusable (h : mean.length ≠ 417 ∨ noiseUsable s = false) : Idles (.noiseSlot σ mean) s := by
  change execNoiseSlot σ mean s = _
  rw [execNoiseSlot, if_pos]
  rcases h with h | h
  · simp [h]
  · simp only [noiseUsable, Bool.and_eq_false_iff, Bool.not_eq_false', beq_eq_false_iff_ne] at h
    rcases h with ((h | h) | h) | h
    all_goals simp [h]

end

section
variable {m : List W128} {d : Bool} {s : State}

theorem map_loaded (hup : lnkUp s = true) (hr : tmRefusal s m = 0) (hroom : mapRoom s (if d then tmRx m else tmTx m) (tmClass m) d = true) :
    Does (.toneMapLoad m d) s [.phy] fun t =>
      t.phy = { s.phy with maps := s.phy.maps ++ [{ words := m, peer := if d then tmRx m else tmTx m, sending := d }] } := by
  refine ⟨_, ?_, upd_modPhy (fun p => { p with maps := p.maps ++ [{ words := m, peer := if d then tmRx m else tmTx m, sending := d }] }) s, rfl⟩
  change execToneMapLoad m d s = _
  rw [execToneMapLoad, if_neg (by simp [hup]), loadMap, if_neg (by simp [hr, hroom])]

theorem map_refused (hup : lnkUp s = true) (h : tmRefusal s m ≠ 0 ∨ mapRoom s (if d then tmRx m else tmTx m) (tmClass m) d = false) :
    Does (.toneMapLoad m d) s [.ev, .sen] fun t =>
      t.ev = (raise 0x3086 5 255 (tmTx m * 2 ^ 24 + tmTmi m * 2 ^ 20 + tmRefusal s m) s).ev := by
  refine ⟨_, ?_, upd_raise .., rfl⟩
  change execToneMapLoad m d s = _
  rw [execToneMapLoad, if_neg (by simp [hup]), loadMap, if_pos (by rcases h with h | h <;> simp [h])]

theorem map_idles (hup : lnkUp s = false) : Idles (.toneMapLoad m d) s := by
  change execToneMapLoad m d s = _
  rw [execToneMapLoad, if_pos (by simp [hup])]

end

/-! Faults of couplers, driver and supply (17 R562, R565, R597, R598). -/

/-- The coupler is out of use until the next start. -/
def couplerOut (c : Fin 3) (s : State) : State :=
  s.modPhy fun p => { p with cplBad := insertAsc (c.val + 1) p.cplBad, sel := if p.sel = c.val + 1 then 0 else p.sel }

theorem couplerOk_out (c : Fin 3) (s : State) (e : Nat) :
    couplerOk (couplerOut c s) e = (couplerOk s e && e != c.val + 1) := by
  have hmem : (insertAsc (c.val + 1) s.phy.cplBad).contains e = (e == c.val + 1 || s.phy.cplBad.contains e) := by
    rw [Bool.eq_iff_iff]
    simp [mem_insertAsc]
  change (_ && _ && !(insertAsc (c.val + 1) s.phy.cplBad).contains e) = _
  rw [hmem, couplerOk, Bool.not_or, Bool.and_comm (!_), ← Bool.and_assoc]
  rfl

theorem couplerFault_out {c : Fin 3} {d l : Bool} {s : State} (hne : d ≠ l) (hc : c.val + 1 ∉ s.phy.cplBad) :
    Does (.couplerFault c d l) s [.phy, .ev, .sen] fun t =>
      couplerOk t (c.val + 1) = false ∧ (∀ e : Nat, e < 4 → e ≠ c.val + 1 → couplerOk t e = couplerOk s e) ∧ t.phy.tx = s.phy.tx ∧
        t.phy.sel = (if s.phy.sel = c.val + 1 then 0 else s.phy.sel) ∧
        t.ev = (raise 0x3082 5 255 ((c.val + 1) * 2 ^ 24 + b2n d * 2 ^ 16 + b2n l * 2 ^ 8) s).ev := by
  have hexec : exec (.couplerFault c d l) s =
      .next (raise 0x3082 5 255 ((c.val + 1) * 2 ^ 24 + b2n d * 2 ^ 16 + b2n l * 2 ^ 8) (couplerOut c s)) := by
    change execCouplerFault c d l s = _
    rw [execCouplerFault, if_neg (by simp [hne, hc])]
    rfl
  have hok : ∀ e, couplerOk (raise 0x3082 5 255 ((c.val + 1) * 2 ^ 24 + b2n d * 2 ^ 16 + b2n l * 2 ^ 8) (couplerOut c s)) e =
      (couplerOk s e && e != c.val + 1) := fun e => by
    rw [couplerOk, raise_phy, ← couplerOk, couplerOk_out]
  refine ⟨_, hexec, .comp (upd_raise ..) rfl ((upd_modPhy ..).mono rfl), ?_, ?_, ?_, ?_, (upd_modPhy ..).raise_ev rfl rfl rfl rfl ..⟩
  · rw [hok]
    simp
  · intro e _ hne
    rw [hok]
    simp [hne]
  · rw [raise_phy]
    rfl
  · rw [raise_phy]
    rfl

theorem couplerFault_idles {c : Fin 3} {d l : Bool} {s : State} (h : d = l ∨ c.val + 1 ∈ s.phy.cplBad) : Idles (.couplerFault c d l) s := by
  change execCouplerFault c d l s = _
  rw [execCouplerFault, if_pos (by rcases h with h | h <;> simp [h])]

theorem phyAbandon_phy {cause : Nat} (hcause : cause ≠ 2) (s : State) : (phyAbandon cause s).phy =
    { s.phy with tx := s.phy.tx.drop 1, sel := 0, driver := false, report := if s.phy.tx = [] then s.phy.report else some (false, 0) } := by
  simp only [phyAbandon, raiseIf_phy, State.modPhy_phy, if_neg hcause]
  cases s.phy.tx <;> rfl

theorem phyAbandon_ev (cause : Nat) {s t : State} (h : EventsAgree s t) :
    (phyAbandon cause t).ev = (raiseIf (!t.phy.tx.isEmpty) 0x3085 5 255 cause s).ev :=
  (h.trans ((upd_modPhy ..).eventsAgree rfl rfl rfl rfl)).raiseIf _ _ _ _ _ |>.ev

/-- The frame in progress is cut after the driver's permission changed with an event (17 R597). -/
theorem abandon_cuts {cause : Nat} (hcause : cause ≠ 2) (code arg : Nat) {s u : State} (hu : Upd [.phy] s u) (htx : u.phy.tx = s.phy.tx)
    (hrep : u.phy.report = s.phy.report) (hrx : u.phy.rxActive = s.phy.rxActive) (hmaps : u.phy.maps = s.phy.maps) :
    FrameCut s (phyAbandon cause (raise code 5 255 arg u)) ∧
      (phyAbandon cause (raise code 5 255 arg u)).ev = (raiseIf (!s.phy.tx.isEmpty) 0x3085 5 255 cause (raise code 5 255 arg s)).ev := by
  have hagree : EventsAgree (raise code 5 255 arg s) (raise code 5 255 arg u) := (hu.eventsAgree rfl rfl rfl rfl).raise ..
  refine ⟨?_, ?_⟩
  · rw [FrameCut, phyAbandon_phy hcause, raise_phy, htx, hrep, hrx, hmaps]
    exact ⟨rfl, rfl, rfl, rfl, rfl, rfl⟩
  · rw [phyAbandon_ev cause hagree, raise_phy, htx]

theorem vld_lost (mv : Nat) {s : State} (h : s.phy.vldOk = true) : Does (.vldOutOfRange mv) s [.phy, .ev, .sen] fun t =>
    t.phy.vldOk = false ∧ FrameCut s t ∧ t.ev = (raiseIf (!s.phy.tx.isEmpty) 0x3085 5 255 3 (raise 0x3083 5 255 mv s)).ev := by
  have hexec : exec (.vldOutOfRange mv) s = .next (phyAbandon 3 (raise 0x3083 5 255 mv (s.modPhy fun p => { p with vldOk := false }))) := by
    change execVldOutOfRange mv s = _
    rw [execVldOutOfRange, if_neg (by simp [h])]
  have hcut := abandon_cuts (cause := 3) (by decide) 0x3083 mv (upd_modPhy (fun p => { p with vldOk := false }) s) rfl rfl rfl rfl
  refine ⟨_, hexec, .comp (upd_phyAbandon ..) rfl (.comp (upd_raise ..) rfl ((upd_modPhy ..).mono rfl)), ?_, hcut⟩
  rw [phyAbandon_phy (by decide), raise_phy]
  rfl

theorem thermal_shut {s : State} (h : s.phy.thermal = false) : Does .driverThermalShutdown s [.phy, .ev, .sen] fun t =>
    t.phy.thermal = true ∧ FrameCut s t ∧ t.ev = (raiseIf (!s.phy.tx.isEmpty) 0x3085 5 255 1 (raise 0x3081 5 255 0 s)).ev := by
  have hexec : exec .driverThermalShutdown s = .next (phyAbandon 1 (raise 0x3081 5 255 0 (s.modPhy fun p => { p with thermal := true }))) := by
    change execDriverThermalShutdown s = _
    rw [execDriverThermalShutdown, if_neg (by simp [h])]
  have hcut := abandon_cuts (cause := 1) (by decide) 0x3081 0 (upd_modPhy (fun p => { p with thermal := true }) s) rfl rfl rfl rfl
  refine ⟨_, hexec, .comp (upd_phyAbandon ..) rfl (.comp (upd_raise ..) rfl ((upd_modPhy ..).mono rfl)), ?_, hcut⟩
  rw [phyAbandon_phy (by decide), raise_phy]
  rfl

/-- Settles O45: which coupler a request goes out on (`useCoupler_own`, `useCoupler_other`, `useCoupler_none`), how a reception ends
(`exec_received_whole`), and what each fault cuts (`abandon_cuts`). -/
theorem phySendsAndReceives : Obligations.PhySendsAndReceives := by
  unfold Obligations.PhySendsAndReceives
  refine ⟨fun _ _ _ _ htx hup hv ht hc => transmit_own htx hup hv ht hc,
    fun _ _ _ _ _ htx hup hv ht hbad hc hnext hn => transmit_other htx hup hv ht hbad (standIn_eq hc hnext) hn,
    fun _ _ _ _ htx hup hv ht hall hr => transmit_unsent htx hup hv ht hall hr, fun n _ => transmit_idles n,
    fun _ _ whole _ _ _ hh h => received_bad hh whole h, fun _ _ _ _ hh h => received_coming hh h,
    fun _ _ _ _ hh h ha => received_ended hh h ha, fun _ _ _ _ hh h ha => received_failed hh h ha,
    fun fc ok whole bs l _ hh => received_deaf hh fc ok whole bs l, fun _ _ _ hl hu => noise_measured hl hu, fun _ _ _ => noise_unusable,
    fun _ _ _ hup hr hroom => map_loaded hup hr hroom, fun _ _ _ hup h => map_refused hup h, fun _ _ _ => map_idles,
    fun _ _ _ _ hne hc => couplerFault_out hne hc, fun _ _ _ _ => couplerFault_idles, fun mv _ => vld_lost mv, ?_,
    fun _ => ⟨_, rfl, upd_modPhy .., rfl⟩, fun _ => thermal_shut, ?_, fun _ => ⟨_, rfl, upd_modPhy .., rfl⟩⟩
  · intro mv s h
    change execVldOutOfRange mv s = _
    rw [execVldOutOfRange, if_pos (by simp [h])]
  · intro s h
    change execDriverThermalShutdown s = _
    rw [execDriverThermalShutdown, if_pos h]

end Sys2Proof.Machine
end

section
/-! SUPPORT. Frames taken by LNK, and new broadcast frames: what each leaves of the link (18 R602, R607, R608, R610 to R613, R628 to R630). -/

namespace Sys2Proof.Machine

/-! Acknowledgements (18 R608, R628). -/

theorem sendAck_eq (f : AcFrame) (status : Nat) (s : State) : sendAck f status s =
    (s.modLnk fun l => { l with acks := (f.src, f.fseq, status) :: l.acks.take 7 }).modPhy fun p =>
      { p with tx := p.tx ++ [ackReq f.src f.fseq status s] } := rfl

theorem acked_sendAck (f : AcFrame) (status : Nat) (s : State) : Acked f status s (sendAck f status s) := ⟨rfl, rfl⟩

/-! A frame accepted: its window, the map it arrived under, its acknowledgement (18 R611, R625, R628). -/

/-- The state with these windows and acknowledgements of LNK, and these maps and requests of the PHY. -/
def received (w : List FrWin) (a : List (Nat × Nat × Nat)) (m : List ToneMap) (x : List TxReq) (s : State) : State :=
  (s.modLnk fun l => { l with wins := w, acks := a }).modPhy fun p => { p with maps := m, tx := x }

/-- The windows after the frame's counter is accepted. -/
def winsTaken (f : AcFrame) (s : State) : List FrWin :=
  (s.lnk.wins.filter fun x => !(x.src == f.src && x.key == f.keysel)) ++ [fctrTake (frWin s f.src f.keysel) f.fctr]

/-- The frame's counter has entered its window, and its tone map has arrived. -/
def counterTaken (f : AcFrame) (s : State) : State :=
  if f.tmi ≠ 0 then mapArrived f.src f.tmi (s.modLnk fun l => { l with wins := winsTaken f s }) else s.modLnk fun l => { l with wins := winsTaken f s }

/-- A new frame is taken, a unicast one with STATUS 0. -/
def frameTaken (f : AcFrame) (s : State) : State := if f.bcast then counterTaken f s else sendAck f 0 (counterTaken f s)

theorem mapArrived_maps (peer tmi : Nat) (s : State) : ∃ m, mapArrived peer tmi s = s.modPhy fun p => { p with maps := m } := by
  unfold mapArrived State.modPhy
  dsimp only
  cases s.phy.maps.find? fun m => m.peer == peer && !m.sending && m.inUse && tmTmi m.words == tmi with
  | none => exact ⟨s.phy.maps, rfl⟩
  | some n => exact ⟨_, rfl⟩

theorem counterTaken_eq (f : AcFrame) (s : State) : ∃ m, counterTaken f s = received (winsTaken f s) s.lnk.acks m s.phy.tx s := by
  unfold counterTaken
  split
  · obtain ⟨m, hm⟩ := mapArrived_maps f.src f.tmi (s.modLnk fun l => { l with wins := winsTaken f s })
    exact ⟨m, hm⟩
  · exact ⟨s.phy.maps, rfl⟩

/-- The acknowledgements and requests after a new frame. -/
def acksTaken (f : AcFrame) (s : State) : List (Nat × Nat × Nat) := if f.bcast then s.lnk.acks else (f.src, f.fseq, 0) :: s.lnk.acks.take 7

def reqsTaken (f : AcFrame) (s : State) : List TxReq := if f.bcast then s.phy.tx else s.phy.tx ++ [ackReq f.src f.fseq 0 s]

theorem frameTaken_eq (f : AcFrame) (s : State) : ∃ m, frameTaken f s = received (winsTaken f s) (acksTaken f s) m (reqsTaken f s) s := by
  obtain ⟨m, hm⟩ := counterTaken_eq f s
  refine ⟨m, ?_⟩
  unfold frameTaken acksTaken reqsTaken
  cases f.bcast with
  | true => exact hm
  | false =>
    rw [if_neg (by decide), hm]
    rfl

theorem upd_frameTaken (f : AcFrame) (s : State) : Upd [.phy, .lnk] s (frameTaken f s) := by
  obtain ⟨m, hm⟩ := frameTaken_eq f s
  rw [hm]
  exact .comp (upd_modPhy ..) rfl ((upd_modLnk ..).mono rfl)

/-- A function that reads neither windows nor acknowledgements, maps nor requests reads the same after a frame is taken. -/
theorem frameTaken_read {α : Type} (f : AcFrame) {s : State} (g : State → α) (hg : ∀ w a m x, g (received w a m x s) = g s) :
    g (frameTaken f s) = g s := by
  obtain ⟨m, hm⟩ := frameTaken_eq f s
  rw [hm, hg]

/-! The checks on a frame, in their order (18 R602, R610, R611, R628). -/

section
variable {f : AcFrame} {s : State}

theorem lnkAccept_foreign (h : lnkUp s = false ∨ frameForUs s f = false) : lnkAccept f s = (false, s) := by
  rw [lnkAccept, if_pos (by rcases h with h | h <;> simp [h])]

variable (hup : lnkUp s = true) (hfor : frameForUs s f = true)
include hup hfor

theorem lnkAccept_unauth (h : f.mic = false ∨ netKey s f.keysel = none) : lnkAccept f s = (false, authFailed f s) := by
  rw [lnkAccept, if_neg (by simp [hup, hfor]), if_pos (by rcases h with h | h <;> simp [h])]

end

section
variable {f : AcFrame} {s : State} (hup : lnkUp s = true) (hfor : frameForUs s f = true) (hmic : f.mic = true)
  (hkey : (netKey s f.keysel).isSome = true)
include hmic hkey

theorem frame_authentic : ¬ (!f.mic || (netKey s f.keysel).isNone) = true := by
  rw [hmic, Bool.not_true, Bool.false_or, Option.isNone_iff_eq_none]
  exact Option.isSome_iff_ne_none.mp hkey

include hup hfor

theorem lnkAccept_old (hnew : fctrNew (frWin s f.src f.keysel) f.fctr = false) : lnkAccept f s =
    (false, if !f.bcast && fctrSeen (frWin s f.src f.keysel) f.fctr then sendAck f 0 s else s) := by
  rw [lnkAccept, if_neg (by simp [hup, hfor]), if_neg (frame_authentic hmic hkey)]
  dsimp only
  rw [if_neg (by simp [hnew])]

theorem lnkAccept_full (hnew : fctrNew (frWin s f.src f.keysel) f.fctr = true) (hb : f.bcast = false) (hbuf : hasBuffer s f = false) :
    lnkAccept f s = (false, sendAck f 2 s) := by
  rw [lnkAccept, if_neg (by simp [hup, hfor]), if_neg (frame_authentic hmic hkey)]
  dsimp only
  rw [if_pos hnew, if_pos (by simp [hb, hbuf])]

theorem lnkAccept_new (hnew : fctrNew (frWin s f.src f.keysel) f.fctr = true) (hbuf : f.bcast = true ∨ hasBuffer s f = true) :
    lnkAccept f s = (true, frameTaken f s) := by
  rw [lnkAccept, if_neg (by simp [hup, hfor]), if_neg (frame_authentic hmic hkey)]
  dsimp only
  rw [if_pos hnew, if_neg (by rcases hbuf with h | h <;> simp [h])]
  rfl

end

/-- A frame that LNK delivers is new, and leaves the state that a new frame leaves. -/
theorem lnkAccept_true {f : AcFrame} {s : State} (h : (lnkAccept f s).1 = true) : lnkAccept f s = (true, frameTaken f s) := by
  cases hup : lnkUp s with
  | false => simp [lnkAccept_foreign (.inl hup)] at h
  | true =>
    cases hfor : frameForUs s f with
    | false => simp [lnkAccept_foreign (.inr hfor)] at h
    | true =>
      cases hmic : f.mic with
      | false => simp [lnkAccept_unauth hup hfor (.inl hmic)] at h
      | true =>
        cases hkey : (netKey s f.keysel).isSome with
        | false => simp [lnkAccept_unauth hup hfor (.inr (by simpa using hkey))] at h
        | true =>
          cases hnew : fctrNew (frWin s f.src f.keysel) f.fctr with
          | false => simp [lnkAccept_old hup hfor hmic hkey hnew] at h
          | true =>
            by_cases hbuf : f.bcast = true ∨ hasBuffer s f = true
            · exact lnkAccept_new hup hfor hmic hkey hnew hbuf
            · simp only [not_or, Bool.not_eq_true] at hbuf
              simp [lnkAccept_full hup hfor hmic hkey hnew hbuf.1 hbuf.2] at h

/-! New broadcast frames (18 R607, R611 to R613). -/

/-- A request's words depend on the symbols that its payload takes and on the bytes of its blocks. -/
theorem txRequest_congr {s t : State} (hsym : symbolsFor t = symbolsFor s) (hbytes : frameBytes t = frameBytes s) :
    txRequest t = txRequest s := by
  funext typ src tmi coupler slot m
  simp only [txRequest, hsym, hbytes]

theorem frameBytes_congr {s t : State} (he : estateId t = estateId s) (hk : keySlot t = keySlot s) (hs : slotSecret t = slotSecret s) :
    frameBytes t = frameBytes s := by
  funext slot src fc m
  simp only [frameBytes, he, hk, hs]

theorem symbolsFor_congr {s t : State} (hg : gainOf t = gainOf s) (hm : mapOf t = mapOf s) : symbolsFor t = symbolsFor s := by
  have hon : onCarriers t = onCarriers s := by rw [onCarriers, onCarriers, hg]
  funext peer tmi pbs sending
  simp only [symbolsFor, hon, hm]

/-- The network leaves the words of a request alone. -/
theorem Upd.txRequest_lnk {s t : State} (h : Upd [.lnk, .ev, .sen, .freeCtr] s t) : txRequest t = txRequest s :=
  txRequest_congr (symbolsFor_congr (h.read gainOf fun _ => rfl) (h.read mapOf fun _ => rfl))
    (frameBytes_congr (h.read estateId fun _ => rfl) (h.read keySlot fun _ => rfl) (h.read slotSecret fun _ => rfl))

/-- In ROBO the words of a request do not depend on the tone maps. -/
theorem txRequest_robo {s t : State} (h : Upd [.phy, .lnk, .share, .ev, .sen] s t) (typ src coupler slot : Nat) (m : TxMsg) :
    txRequest t typ src 0 coupler slot m = txRequest s typ src 0 coupler slot m := by
  have hgain : gainOf t = gainOf s := h.read gainOf fun _ => rfl
  have hon : onCarriers t = onCarriers s := by rw [onCarriers, onCarriers, hgain]
  have hbytes : frameBytes t = frameBytes s :=
    frameBytes_congr (h.read estateId fun _ => rfl) (h.read keySlot fun _ => rfl) (h.read slotSecret fun _ => rfl)
  simp only [txRequest, symbolsFor, if_true, hon, hbytes]

/-- The next counter of place x is drawn under key slot n. -/
def fctrDrawn (x n : Nat) (s : State) : State :=
  s.modLnk fun l =>
    if x = 0 then
      { l with fctr0 := fctrOf s x + 1, res0 := if fctrOf s x < resOf s x then resOf s x else resOf s x + 65536, fkey0 := (keySlot s n).keyId }
    else
      { l with fctr1 := fctrOf s x + 1, res1 := if fctrOf s x < resOf s x then resOf s x else resOf s x + 65536, fkey1 := (keySlot s n).keyId }

section
variable {x n : Nat} {s : State}

theorem txOpen_iff : txOpen x n s = true ↔ txPlace s = some x ∧ (netSlots s)[x]? = some n ∧ canGive s x = true := by
  simp [txOpen, and_assoc]

theorem drawFctr_open (h : txOpen x n s = true) : drawFctr s = (some (keySelOf s n, n, fctrOf s x), fctrDrawn x n s) := by
  obtain ⟨hplace, hslot, hgive⟩ := txOpen_iff.mp h
  have hstays : fctrExhausted s = s := by
    rw [fctrExhausted, hplace]
    dsimp only
    rw [hslot]
    dsimp only
    rw [if_pos (by simp [hgive])]
  have hsend : sendPlace s = some x := by
    rw [sendPlace, hplace]
    dsimp only
    rw [if_pos hgive]
  rw [drawFctr, hstays, hsend]
  dsimp only
  rw [hslot]
  rfl

theorem upd_fctrDrawn (x n : Nat) (s : State) : Upd [.lnk] s (fctrDrawn x n s) := upd_modLnk ..

/-- Drawing a counter changes the counter, its reservation and its key alone. -/
theorem fctrDrawn_lnk (x n : Nat) (s : State) : ∃ a b c d e g, (fctrDrawn x n s).lnk =
    { s.lnk with fctr0 := a, res0 := b, fkey0 := c, fctr1 := d, res1 := e, fkey1 := g } := by
  unfold fctrDrawn
  rw [State.modLnk_lnk]
  split
  · exact ⟨_, _, _, s.lnk.fctr1, s.lnk.res1, s.lnk.fkey1, rfl⟩
  · exact ⟨s.lnk.fctr0, s.lnk.res0, s.lnk.fkey0, _, _, _, rfl⟩

theorem fctrDrawn_counters (x n : Nat) (s : State) : fctrOf (fctrDrawn x n s) x = fctrOf s x + 1 ∧
    resOf (fctrDrawn x n s) x = (if fctrOf s x < resOf s x then resOf s x else resOf s x + 65536) ∧
    fctrOf (fctrDrawn x n s) (1 - x) = fctrOf s (1 - x) := by
  cases x with
  | zero => exact ⟨rfl, rfl, rfl⟩
  | succ x =>
    rw [show 1 - (x + 1) = 0 by omega]
    exact ⟨rfl, rfl, rfl⟩

/-- A broadcast frame handed to the PHY under the counter drawn. -/
def broadcastSent (typ super x n : Nat) (m : TxMsg) (s : State) : State :=
  phyReq (txRequest s typ (nodeId s) 0 (floodCoupler super) n
    { m with bcast := true, fctr := fctrOf s x, keysel := keySelOf s n, counted := true }) (fctrDrawn x n s)

theorem sendBroadcast_open (h : txOpen x n s = true) (typ super : Nat) (m : TxMsg) :
    sendBroadcast typ super m s = broadcastSent typ super x n m s := by
  rw [sendBroadcast, drawFctr_open h]
  dsimp only
  rw [((upd_fctrDrawn x n s).mono rfl : Upd [.lnk, .ev, .sen, .freeCtr] _ _).txRequest_lnk]
  rfl

theorem upd_broadcastSent (typ super x n : Nat) (m : TxMsg) (s : State) : Upd [.phy, .lnk] s (broadcastSent typ super x n m s) :=
  .comp (upd_phyReq ..) rfl ((upd_fctrDrawn ..).mono rfl)

theorem broadcastSent_holds (typ super x n : Nat) (m : TxMsg) (s : State) : BroadcastSent typ super x n m s (broadcastSent typ super x n m s) :=
  ⟨rfl, fctrDrawn_counters x n s⟩

/-- What else of the link changed before the frame went out does not matter to it. -/
theorem BroadcastSent.of_link {typ super : Nat} {m : TxMsg} {u t : State} (h : BroadcastSent typ super x n m u t) (hu : Upd [.lnk] s u)
    (hf : fctrOf u = fctrOf s) (hr : resOf u = resOf s) : BroadcastSent typ super x n m s t := by
  have hreq : txRequest u = txRequest s := (hu.mono rfl : Upd [.lnk, .ev, .sen, .freeCtr] s u).txRequest_lnk
  have hnode : nodeId u = nodeId s := hu.read nodeId fun _ => rfl
  have hkey : keySelOf u = keySelOf s := hu.read keySelOf fun _ => rfl
  unfold BroadcastSent at h ⊢
  rw [hreq, hnode, hkey, hf, hr, hu.phy rfl] at h
  exact h

end

end Sys2Proof.Machine
end

section
/-! PROOF. Beacons, the coordinator, islands and the choice of a parent (18 R606, R607, R611, R612, R614 to R618, R622). -/

namespace Sys2Proof.Machine

/-! Beacons sent and relayed (18 R606, R607, R612, R614). -/

/-- The beacon of this count is on its way. -/
def beaconNoted (s : State) : State := s.modLnk fun l => { l with beaconCount := estCount s }

theorem upd_beaconNoted (s : State) : Upd [.lnk] s (beaconNoted s) := upd_modLnk ..

/-- The beacon of the coordinator. -/
def beaconMsg (s : State) : TxMsg := { kind := 0, orig := nodeId s, bcastFinal := true, hops := 0, body := beaconBody s }

section
variable {s : State} (hup : lnkUp s = true) (hco : s.lnk.st = .coord) (hslot : estCount s % 4 = 0) (hnew : s.lnk.beaconCount ≠ estCount s)
include hup hco hslot hnew

theorem exec_beaconSend : exec .beaconSend s = .next (sendBroadcast 0 (estCount s / 4) (beaconMsg s) (beaconNoted s)) := by
  change execBeaconSend s = _
  rw [execBeaconSend, if_neg (by simp [hup, hco, hslot, hnew])]
  rfl

theorem beacon_sent {x n : Nat} (hx : txOpen x n s = true) : Does .beaconSend s [.phy, .lnk] fun t =>
    BroadcastSent 0 (estCount s / 4) x n { orig := nodeId s, bcastFinal := true, hops := 0, body := beaconBody s } s t ∧
      t.lnk.beaconCount = estCount s ∧ t.lnk.st = .coord := by
  have hexec := exec_beaconSend hup hco hslot hnew
  rw [sendBroadcast_open (s := beaconNoted s) hx] at hexec
  obtain ⟨a, b, c, d, e, g, hl⟩ := fctrDrawn_lnk x n (beaconNoted s)
  refine ⟨_, hexec, .comp (upd_broadcastSent ..) rfl ((upd_beaconNoted s).mono rfl),
    (broadcastSent_holds 0 (estCount s / 4) x n (beaconMsg s) (beaconNoted s)).of_link (upd_beaconNoted s) rfl rfl, ?_, ?_⟩
  · exact congrArg Lnk.beaconCount hl
  · exact (congrArg Lnk.st hl).trans hco

theorem beacon_exhausted {x n : Nat} (hx : txPlace s = some x) (hn : (netSlots s)[x]? = some n) (hk : (keySlot s n).status = .loaded)
    (h0 : canGive s 0 = false) (h1 : canGive s 1 = false) (he : s.lnk.exhausted = false) : Does .beaconSend s [.lnk, .ev, .sen] fun t =>
      t.lnk = { s.lnk with beaconCount := estCount s, exhausted := true } ∧
        t.ev = (raise 0x30AF 5 255 (keySelOf s n * 2 ^ 24 + 255 * 2 ^ 16) s).ev := by
  have hx2 : x < 2 := by
    obtain ⟨hlt, _⟩ := List.getElem?_eq_some_iff.mp hn
    exact lt_of_lt_of_le hlt (List.length_take_le ..)
  have hgive : ∀ y, y < 2 → canGive s y = false := fun y hy => by
    obtain rfl | rfl : y = 0 ∨ y = 1 := by omega
    · exact h0
    · exact h1
  have hnone : sendPlace s = none := by
    rw [sendPlace, hx]
    dsimp only
    rw [if_neg (by simp [hgive x hx2]), if_neg (by simp [hgive (1 - x) (by omega)])]
  have hout : fctrExhausted (beaconNoted s) = raise 0x30AF 5 255 (keySelOf s n * 2 ^ 24 + 255 * 2 ^ 16)
      ((beaconNoted s).modLnk fun l => { l with exhausted := true }) := by
    rw [fctrExhausted, show txPlace (beaconNoted s) = some x from hx]
    dsimp only
    rw [show (netSlots (beaconNoted s))[x]? = some n from hn]
    dsimp only
    rw [show canGive (beaconNoted s) x = false from hgive x hx2, show (beaconNoted s).lnk.exhausted = false from he,
      show (keySlot (beaconNoted s) n).status = .loaded from hk, show sendPlace (beaconNoted s) = none from hnone]
    rfl
  have hu : Upd [.lnk] s ((beaconNoted s).modLnk fun l => { l with exhausted := true }) := .comp (upd_modLnk ..) rfl (upd_beaconNoted s)
  have hstill : sendPlace (fctrExhausted (beaconNoted s)) = none := by
    rw [hout, (upd_raise ..).read sendPlace fun _ => rfl]
    exact hnone
  have hexec := exec_beaconSend hup hco hslot hnew
  rw [sendBroadcast, drawFctr, hstill, hout] at hexec
  exact ⟨_, hexec, .comp (upd_raise ..) rfl (hu.mono rfl), raise_lnk .., hu.raise_ev rfl rfl rfl rfl ..⟩

end

theorem beaconSend_idles {s : State} (h : lnkUp s = false ∨ s.lnk.st ≠ .coord ∨ estCount s % 4 ≠ 0 ∨ s.lnk.beaconCount = estCount s) :
    Idles .beaconSend s := by
  change execBeaconSend s = _
  rw [execBeaconSend, if_pos (by rcases h with h | h | h | h <;> simp [h])]

theorem beacon_relayed {f : AcFrame} {n : Nat} {s : State} (hup : lnkUp s = true) (hst : s.lnk.st = .joined) (hrel : cfg s 0x60 0 0 95 95 = 1)
    (hlo : 1 ≤ s.lnk.epochDepth) (hhi : s.lnk.epochDepth ≤ 5) (hmic : f.mic = true) (hkey : netKey s f.keysel = some n) :
    Does (.beaconRelay f) s [.phy] fun t =>
      t.phy = { s.phy with
        tx := s.phy.tx ++ [txRequest s 0 f.src 0 (floodCoupler (estCount s / 4)) n
          { bcast := true, msgId := f.msgId, orig := f.orig, final := f.final, bcastFinal := f.bcastFinal, hops := f.hops,
            fctr := f.fctr, keysel := f.keysel, frag := f.frag, last := f.last, body := f.body }] } := by
  refine ⟨relayFrame 0 (estCount s / 4) 0 false f s, ?_, upd_relayFrame .., ?_⟩
  · change execBeaconRelay f s = _
    rw [execBeaconRelay, if_pos (by simp [hup, hst, hrel, hlo, hhi, hmic])]
  · rw [relayFrame, hkey]
    rfl

theorem beaconRelay_idles {f : AcFrame} {s : State} (h : lnkUp s = false ∨ s.lnk.st ≠ .joined ∨ cfg s 0x60 0 0 95 95 ≠ 1 ∨ s.lnk.epochDepth = 0 ∨
    5 < s.lnk.epochDepth ∨ f.mic = false) : Idles (.beaconRelay f) s := by
  change execBeaconRelay f s = _
  rw [execBeaconRelay, if_neg]
  rcases h with h | h | h | h | h | h
  · simp [h]
  · simp [h]
  · simp [h]
  · simp [h]
  · have : ¬ s.lnk.epochDepth ≤ 5 := by omega
    simp [this]
  · simp [h]

/-! Listening and coordinating (18 R615, R616, R618). -/

theorem setIsland_on (s : State) : ∃ e, setIsland true s = s.modLnk fun l => { l with island := true, islandEpochs := e } := by
  unfold setIsland
  by_cases h : s.lnk.island = true
  · rw [if_pos (by simp [h])]
    refine ⟨s.lnk.islandEpochs, ?_⟩
    rw [State.modLnk, ← h]
  · rw [if_neg (by simpa using h), if_pos rfl]
    exact ⟨0, rfl⟩

theorem setIsland_off (s : State) : setIsland false s = raiseIf s.lnk.island 0x30A2 5 255 s.lnk.islandEpochs (s.modLnk fun l => { l with island := false }) := by
  unfold setIsland raiseIf
  by_cases h : s.lnk.island = true
  · rw [if_neg (by simp [h]), if_neg (by decide), if_pos h]
  · simp only [Bool.not_eq_true] at h
    rw [if_pos (by simp [h]), if_neg (by simp [h]), State.modLnk, ← h]

/-- The link out of the tree. -/
def lnkListening (l : Lnk) : Lnk :=
  { l with st := .listen, depth := 255, parent := 255, phis := [], dc := 0, beaconRun := 0, beaconMiss := 0, heardNow := false, tolBad := 0,
           countDiff := 0, handover := none }

theorem toListen_eq (s : State) : ∃ e, toListen s = s.modLnk fun l => { lnkListening l with island := true, islandEpochs := e } := by
  obtain ⟨e, he⟩ := setIsland_on (s.modLnk lnkListening)
  exact ⟨e, he⟩

theorem listens_toListen (s : State) : Listens (toListen s) := by
  obtain ⟨e, he⟩ := toListen_eq s
  rw [he]
  exact ⟨rfl, rfl, rfl, rfl, rfl, rfl⟩

theorem toListen_ev (s : State) : (toListen s).ev = s.ev := by
  obtain ⟨e, he⟩ := toListen_eq s
  rw [he]
  rfl

theorem toListen_kept (s : State) : (toListen s).lnk.beaconCount = s.lnk.beaconCount ∧ (toListen s).lnk.cancelEpoch = s.lnk.cancelEpoch ∧
    (toListen s).lnk.beaconMiss = 0 := by
  obtain ⟨e, he⟩ := toListen_eq s
  rw [he]
  exact ⟨rfl, rfl, rfl⟩

theorem coordStops_listens (new : Nat) (s : State) : Listens (coordStops new s) := listens_toListen _

theorem coordStops_ev (new : Nat) (s : State) : (coordStops new s).ev = (raise 0x30A4 5 255 (nodeId s * 2 ^ 24 + new * 2 ^ 16) s).ev := toListen_ev _

theorem coordStops_kept (new : Nat) (s : State) : (coordStops new s).lnk.beaconCount = s.lnk.beaconCount ∧
    (coordStops new s).lnk.cancelEpoch = s.lnk.cancelEpoch := by
  obtain ⟨hcount, hcancel, _⟩ := toListen_kept (raise 0x30A4 5 255 (nodeId s * 2 ^ 24 + new * 2 ^ 16) s)
  rw [coordStops, hcount, hcancel, raise_lnk]
  exact ⟨rfl, rfl⟩

/-- The link of a coordinator. -/
def lnkCoordinating (s : State) : Lnk :=
  { s.lnk with st := .coord, depth := 0, parent := nodeId s, coord := nodeId s, phis := [], dc := 0, countDiff := 0, handover := none,
               nextCoord := 0, beaconRun := 0, beaconMiss := 0, island := false }

theorem toCoord_eq (s : State) :
    toCoord s = raiseIf s.lnk.island 0x30A2 5 255 s.lnk.islandEpochs (s.modLnk fun _ => lnkCoordinating s) := by
  rw [toCoord, setIsland_off]
  rfl

theorem toCoord_lnk (s : State) : (toCoord s).lnk = lnkCoordinating s := by
  rw [toCoord_eq, raiseIf_lnk]
  rfl

theorem coordinates_toCoord (s : State) : Coordinates (toCoord s) := by
  have hnode : nodeId (toCoord s) = nodeId s := (upd_toCoord s).read nodeId fun _ => rfl
  rw [Coordinates, toCoord_lnk, hnode]
  exact ⟨rfl, rfl, rfl, rfl, rfl, rfl⟩

theorem toCoord_ev {s t : State} (h : EventsAgree s t) : (toCoord t).ev = (raiseIf t.lnk.island 0x30A2 5 255 t.lnk.islandEpochs s).ev := by
  rw [toCoord_eq]
  exact ((h.trans ((upd_modLnk ..).eventsAgree rfl rfl rfl rfl)).raiseIf ..).ev

/-! Beacons heard (18 R604, R614, R615, R617, R618). -/

/-- What a beacon that is taken does. -/
def beaconTaken (f : AcFrame) (hop : Nat) (s : State) : State :=
  if s.lnk.st = .coord then if f.body.getD 0 0 < nodeId s then coordStops (f.body.getD 0 0) s else s
  else if s.lnk.st = .joined && decide (2048 < (wrapPu ((copyPhi s hop f.stamp : Int) - phiC s)).natAbs) then s
  else beaconHeard f hop s

section
variable {f : AcFrame} {hop : Nat} {s : State} (h : (lnkAccept f s).1 = true)

theorem frameTaken_eventsAgree (f : AcFrame) (s : State) : EventsAgree s (frameTaken f s) := (upd_frameTaken f s).eventsAgree rfl rfl rfl rfl

include h

theorem exec_beaconRx : exec (.beaconRx f hop) s = .next (beaconTaken f hop (frameTaken f s)) := by
  change execBeaconRx f hop s = _
  rw [execBeaconRx, lnkAccept_true h]
  rfl

theorem beaconRx_stops (hco : s.lnk.st = .coord) (hlow : f.body.getD 0 0 < nodeId s) :
    Does (.beaconRx f hop) s [.phy, .lnk, .ev, .sen] fun t =>
      Listens t ∧ t.lnk.beaconCount = s.lnk.beaconCount ∧
        t.ev = (raise 0x30A4 5 255 (nodeId s * 2 ^ 24 + f.body.getD 0 0 * 2 ^ 16) s).ev := by
  have hst : (frameTaken f s).lnk.st = s.lnk.st := frameTaken_read f (·.lnk.st) fun _ _ _ _ => rfl
  have hnode : nodeId (frameTaken f s) = nodeId s := frameTaken_read f nodeId fun _ _ _ _ => rfl
  have hexec := exec_beaconRx (hop := hop) h
  rw [beaconTaken, if_pos (hst.trans hco), if_pos (by rw [hnode]; exact hlow)] at hexec
  obtain ⟨hcount, _⟩ := coordStops_kept (f.body.getD 0 0) (frameTaken f s)
  refine ⟨_, hexec, .comp (upd_coordStops ..) rfl ((upd_frameTaken f s).mono rfl), coordStops_listens .., hcount.trans ?_, ?_⟩
  · exact frameTaken_read f (·.lnk.beaconCount) fun _ _ _ _ => rfl
  · rw [coordStops_ev, hnode]
    exact ((frameTaken_eventsAgree f s).raise ..).ev

theorem beaconRx_passes (hpass : (s.lnk.st = .coord ∧ nodeId s ≤ f.body.getD 0 0) ∨
    (s.lnk.st = .joined ∧ 2048 < (wrapPu ((copyPhi s hop f.stamp : Int) - phiC s)).natAbs)) :
    Does (.beaconRx f hop) s [.phy, .lnk] fun t => t.lnk = (lnkAccept f s).2.lnk ∧ t.phy = (lnkAccept f s).2.phy := by
  have hst : (frameTaken f s).lnk.st = s.lnk.st := frameTaken_read f (·.lnk.st) fun _ _ _ _ => rfl
  have hnode : nodeId (frameTaken f s) = nodeId s := frameTaken_read f nodeId fun _ _ _ _ => rfl
  have hcopy : copyPhi (frameTaken f s) hop f.stamp = copyPhi s hop f.stamp := frameTaken_read f (copyPhi · hop f.stamp) fun _ _ _ _ => rfl
  have hphi : phiC (frameTaken f s) = phiC s := frameTaken_read f phiC fun _ _ _ _ => rfl
  have hexec := exec_beaconRx (hop := hop) h
  rw [beaconTaken, hst, hnode, hcopy, hphi] at hexec
  rw [lnkAccept_true h]
  refine ⟨frameTaken f s, ?_, upd_frameTaken f s, rfl, rfl⟩
  rw [hexec]
  rcases hpass with ⟨hco, hhigh⟩ | ⟨hj, hfar⟩
  · rw [if_pos hco, if_neg (by omega)]
  · rw [if_neg (by simp [hj]), if_pos (by simp [hj, hfar])]

end

/-- Phase, counts and handover taken from a copy (18 R604, R614, R617). -/
def lnkHeard (f : AcFrame) (v : Nat) (l : Lnk) : Lnk :=
  { l with
    phis := v :: l.phis.take 7
    coord := f.body.getD 0 0
    nextCoord := f.body.getD 2 0
    handover := if bitOf (f.body.getD 1 0) 0 then some (natLE ((f.body.drop 12).take 4), f.body.getD 2 0) else none
    cancelEpoch := if bitOf (f.body.getD 1 0) 0 then some (natLE ((f.body.drop 12).take 4) - 1) else l.cancelEpoch
    beaconCount := natLE ((f.body.drop 4).take 8)
    beaconRun := if l.heardNow then l.beaconRun else l.beaconRun + 1
    heardNow := true
    beaconMiss := 0 }

/-- The link with the phase of the copy. -/
def lnkPhased (f : AcFrame) (hop : Nat) (s : State) : Lnk :=
  { lnkHeard f (copyPhi s hop f.stamp) s.lnk with dc := dcOf (phiC (s.modLnk (lnkHeard f (copyPhi s hop f.stamp)))) }

theorem beaconHeard_eq (f : AcFrame) (hop : Nat) (s : State) : ∃ (c : Int) (d : Nat), beaconHeard f hop s =
    if s.lnk.st = .listen && (lnkPhased f hop s).beaconRun < 3 then s.modLnk fun _ => lnkPhased f hop s
    else s.modLnk fun _ =>
      { lnkPhased f hop s with st := if s.lnk.st = .listen then .synced else s.lnk.st, countDiff := c, beaconAt := d } := ⟨_, _, rfl⟩

/-- What a copy leaves of the link, with the counts that it aligns once the hub follows the beacons (18 R604, R617, R618). -/
theorem beaconHeard_lnk (f : AcFrame) (hop : Nat) (s : State) : ∃ (c : Int) (d : Nat), beaconHeard f hop s = s.modLnk fun _ =>
    { lnkPhased f hop s with
      st := if s.lnk.st = .listen ∧ 3 ≤ (lnkPhased f hop s).beaconRun then .synced else s.lnk.st, countDiff := c, beaconAt := d } := by
  obtain ⟨c, d, heq⟩ := beaconHeard_eq f hop s
  by_cases h : s.lnk.st = .listen ∧ (lnkPhased f hop s).beaconRun < 3
  · refine ⟨s.lnk.countDiff, s.lnk.beaconAt, ?_⟩
    rw [heq, if_pos (by simp [h]), if_neg fun hn => absurd h.2 (Nat.not_lt.mpr hn.2)]
    rfl
  · refine ⟨c, d, ?_⟩
    rw [heq, if_neg (by simpa using h)]
    congr 2
    by_cases hl : s.lnk.st = .listen
    · rw [if_pos hl, if_pos ⟨hl, Nat.not_lt.mp fun hb => h ⟨hl, hb⟩⟩]
    · rw [if_neg hl, if_neg fun hn => hl hn.1]

theorem beaconRx_hears {f : AcFrame} {hop : Nat} {s : State} (h : (lnkAccept f s).1 = true)
    (hst : s.lnk.st = .listen ∨ s.lnk.st = .synced ∨
      (s.lnk.st = .joined ∧ (wrapPu ((copyPhi s hop f.stamp : Int) - phiC s)).natAbs ≤ 2048)) :
    Does (.beaconRx f hop) s [.phy, .lnk] fun t =>
      t.lnk.phis = copyPhi s hop f.stamp :: s.lnk.phis.take 7 ∧ t.lnk.dc = dcOf (phiC t) ∧ t.lnk.coord = f.body.getD 0 0 ∧
        t.lnk.nextCoord = f.body.getD 2 0 ∧ t.lnk.beaconCount = natLE ((f.body.drop 4).take 8) ∧ t.lnk.beaconMiss = 0 ∧
        t.lnk.beaconRun = s.lnk.beaconRun + (if s.lnk.heardNow then 0 else 1) ∧ t.lnk.heardNow = true ∧
        t.lnk.handover = (if bitOf (f.body.getD 1 0) 0 then some (natLE ((f.body.drop 12).take 4), f.body.getD 2 0) else none) ∧
        t.lnk.st = (if s.lnk.st = .listen ∧ 3 ≤ t.lnk.beaconRun then .synced else s.lnk.st) ∧ t.lnk.neigh = s.lnk.neigh := by
  have hcopy : copyPhi (frameTaken f s) hop f.stamp = copyPhi s hop f.stamp := frameTaken_read f (copyPhi · hop f.stamp) fun _ _ _ _ => rfl
  have hphi : phiC (frameTaken f s) = phiC s := frameTaken_read f phiC fun _ _ _ _ => rfl
  have hst' : (frameTaken f s).lnk.st = s.lnk.st := frameTaken_read f (·.lnk.st) fun _ _ _ _ => rfl
  have hphis : (frameTaken f s).lnk.phis = s.lnk.phis := frameTaken_read f (·.lnk.phis) fun _ _ _ _ => rfl
  have hrun : (frameTaken f s).lnk.beaconRun = s.lnk.beaconRun := frameTaken_read f (·.lnk.beaconRun) fun _ _ _ _ => rfl
  have hnow : (frameTaken f s).lnk.heardNow = s.lnk.heardNow := frameTaken_read f (·.lnk.heardNow) fun _ _ _ _ => rfl
  have hneigh : (frameTaken f s).lnk.neigh = s.lnk.neigh := frameTaken_read f (·.lnk.neigh) fun _ _ _ _ => rfl
  have hexec := exec_beaconRx (hop := hop) h
  rw [beaconTaken, hst', if_neg (by rcases hst with hl | hl | ⟨hl, _⟩ <;> simp [hl]), hcopy, hphi,
    if_neg (by rcases hst with hl | hl | ⟨hl, hnear⟩ <;> simp [hl]; exact hnear)] at hexec
  obtain ⟨c, d, heard⟩ := beaconHeard_lnk f hop (frameTaken f s)
  refine ⟨_, hexec, .comp (upd_beaconHeard ..) rfl ((upd_frameTaken f s).mono rfl), ?_⟩
  rw [heard]
  refine ⟨by rw [← hcopy, ← hphis]; rfl, rfl, rfl, rfl, rfl, rfl, ?_, rfl, rfl, by rw [← hst']; rfl, hneigh⟩
  rw [← hrun, ← hnow]
  cases hn : (frameTaken f s).lnk.heardNow <;> simp [State.modLnk, lnkPhased, lnkHeard, hn]

end Sys2Proof.Machine
end

section
/-! PROOF. Obligation O46 (18 R606, R607, R611, R612, R614 to R618, R622), continued: coordinator, handover, islands and parents. -/

namespace Sys2Proof.Machine

open Host

/-! Coordinator and handover (18 R615, R616). -/

theorem takeover_coordinates {s : State} (hup : lnkUp s = true) (hst : s.lnk.st = .listen) (hcap : coordCapable s = true)
    (hmiss : 3 + nodeId s / 32 ≤ s.lnk.beaconMiss) (hplace : (sendPlace s).isSome = true) :
    Does .coordinatorTakeover s [.lnk, .ev, .sen] fun t =>
      Coordinates t ∧ t.ev = (raiseIf s.lnk.island 0x30A2 5 255 s.lnk.islandEpochs (raise 0x30A3 5 255 (estCount s) s)).ev := by
  have hexec : exec .coordinatorTakeover s = .next (toCoord (raise 0x30A3 5 255 (estCount s) s)) := by
    change execCoordinatorTakeover s = _
    rw [execCoordinatorTakeover, if_pos (by simp [hup, hst, hcap, hmiss, hplace])]
  refine ⟨_, hexec, .comp (upd_toCoord ..) rfl ((upd_raise ..).mono rfl), coordinates_toCoord _, ?_⟩
  rw [toCoord_ev (.refl _), raise_lnk]

theorem takeover_idles {s : State} (h : lnkUp s = false ∨ s.lnk.st ≠ .listen ∨ coordCapable s = false ∨ s.lnk.beaconMiss < 3 + nodeId s / 32 ∨
    sendPlace s = none) : Idles .coordinatorTakeover s := by
  change execCoordinatorTakeover s = _
  rw [execCoordinatorTakeover, if_neg]
  rcases h with h | h | h | h | h <;> simp [h]

section
variable {n : Nat} {s : State}

/-- The bundle of the epoch before is cancelled (18 R616, R637). -/
def epochCancelled (s : State) : State := s.modLnk fun l => { l with cancelEpoch := some (s.clk.count / 64 - 1) }

theorem upd_epochCancelled (s : State) : Upd [.lnk] s (epochCancelled s) := upd_modLnk ..

theorem exec_handover (hup : lnkUp s = true) (hnow : handoverNow s = some n) : exec .coordinationHandover s = .next (
    if s.lnk.st = .coord then if n = nodeId s then (epochCancelled s).modLnk fun l => { l with handover := none } else coordStops n (epochCancelled s)
    else if n = nodeId s then toCoord (raise 0x30A4 5 255 (s.lnk.coord * 2 ^ 24 + n * 2 ^ 16) (epochCancelled s))
    else (epochCancelled s).modLnk fun l => { l with handover := none }) := by
  change execCoordinationHandover s = _
  rw [execCoordinationHandover, if_neg (by simp [hup]), hnow]
  rfl

theorem handover_coordinates (hup : lnkUp s = true) (hnow : handoverNow s = some n) (hst : s.lnk.st ≠ .coord) (hn : n = nodeId s) :
    Does .coordinationHandover s [.lnk, .ev, .sen] fun t =>
      Coordinates t ∧ t.lnk.cancelEpoch = some (s.clk.count / 64 - 1) ∧
        t.ev = (raiseIf s.lnk.island 0x30A2 5 255 s.lnk.islandEpochs (raise 0x30A4 5 255 (s.lnk.coord * 2 ^ 24 + n * 2 ^ 16) s)).ev := by
  have hexec := exec_handover hup hnow
  rw [if_neg hst, if_pos hn] at hexec
  have hagree : EventsAgree (raise 0x30A4 5 255 (s.lnk.coord * 2 ^ 24 + n * 2 ^ 16) s)
      (raise 0x30A4 5 255 (s.lnk.coord * 2 ^ 24 + n * 2 ^ 16) (epochCancelled s)) :=
    ((upd_epochCancelled s).eventsAgree rfl rfl rfl rfl).raise ..
  refine ⟨_, hexec, .comp (upd_toCoord ..) rfl (.comp (upd_raise ..) rfl ((upd_epochCancelled s).mono rfl)), coordinates_toCoord _, ?_, ?_⟩
  · rw [toCoord_lnk, lnkCoordinating, raise_lnk]
    rfl
  · rw [toCoord_ev hagree, raise_lnk]
    rfl

theorem handover_listens (hup : lnkUp s = true) (hnow : handoverNow s = some n) (hst : s.lnk.st = .coord) (hn : n ≠ nodeId s) :
    Does .coordinationHandover s [.lnk, .ev, .sen] fun t =>
      Listens t ∧ t.lnk.cancelEpoch = some (s.clk.count / 64 - 1) ∧ t.ev = (raise 0x30A4 5 255 (nodeId s * 2 ^ 24 + n * 2 ^ 16) s).ev := by
  have hexec := exec_handover hup hnow
  rw [if_pos hst, if_neg hn] at hexec
  obtain ⟨_, hcancel⟩ := coordStops_kept n (epochCancelled s)
  refine ⟨_, hexec, .comp (upd_coordStops ..) rfl ((upd_epochCancelled s).mono rfl), coordStops_listens .., hcancel, ?_⟩
  rw [coordStops_ev]
  exact (((upd_epochCancelled s).eventsAgree rfl rfl rfl rfl).raise ..).ev

theorem handover_passes (hup : lnkUp s = true) (hnow : handoverNow s = some n) (hst : s.lnk.st = .coord ↔ n = nodeId s) :
    Does .coordinationHandover s [.lnk] fun t => t.lnk = { s.lnk with handover := none, cancelEpoch := some (s.clk.count / 64 - 1) } := by
  have hexec : exec .coordinationHandover s = .next ((epochCancelled s).modLnk fun l => { l with handover := none }) := by
    rw [exec_handover hup hnow]
    by_cases hco : s.lnk.st = .coord
    · rw [if_pos hco, if_pos (hst.mp hco)]
    · rw [if_neg hco, if_neg (fun hn => hco (hst.mpr hn))]
  exact ⟨_, hexec, .comp (upd_modLnk ..) rfl (upd_epochCancelled s), rfl⟩

theorem handover_idles (h : lnkUp s = false ∨ handoverNow s = none) : Idles .coordinationHandover s := by
  change execCoordinationHandover s = _
  unfold execCoordinationHandover
  split
  · rfl
  · rename_i hup
    rcases h with h | h
    · simp [h] at hup
    · rw [h]

end

/-! Islands (18 R618). -/

theorem islandEntry_listens {s : State} (hup : lnkUp s = true) (hst : s.lnk.st = .synced ∨ s.lnk.st = .joined) (hmiss : 48 ≤ s.lnk.beaconMiss) :
    Does .islandEntry s [.lnk, .ev, .sen] fun t => Listens t ∧ t.ev = (raise 0x30A1 5 255 s.lnk.beaconMiss s).ev := by
  have hexec : exec .islandEntry s = .next ((toListen (raise 0x30A1 5 255 s.lnk.beaconMiss s)).modLnk fun l =>
      { l with beaconMiss := s.lnk.beaconMiss }) := by
    change execIslandEntry s = _
    rw [execIslandEntry, if_pos (by rcases hst with h | h <;> simp [hup, h, hmiss])]
  refine ⟨_, hexec, .comp (upd_modLnk ..) rfl (.comp (upd_toListen ..) rfl ((upd_raise ..).mono rfl)), ?_, toListen_ev _⟩
  exact listens_toListen (raise 0x30A1 5 255 s.lnk.beaconMiss s)

theorem islandEntry_idles {s : State} (h : lnkUp s = false ∨ s.lnk.st = .listen ∨ s.lnk.st = .coord ∨ s.lnk.beaconMiss < 48) :
    Idles .islandEntry s := by
  change execIslandEntry s = _
  rw [execIslandEntry, if_neg]
  rcases h with h | h | h | h <;> simp [h]

/-! The choice of a parent (18 R618, R622). -/

theorem betterParent_iff (a b : Neigh) : betterParent a b = true ↔
    a.depth < b.depth ∨ (a.depth = b.depth ∧ (b.quality < a.quality ∨ (a.quality = b.quality ∧ a.node < b.node))) := by
  simp [betterParent]

/-- One step of the choice. -/
def betterOf (best : Option Neigh) (n : Neigh) : Option Neigh :=
  match best with
  | some b => if betterParent n b then some n else some b
  | none => some n

/-- The choice from a list onward is of the list or the one held, and none of them is better. -/
theorem foldl_betterOf (l : List Neigh) (b : Neigh) : ∃ r, l.foldl betterOf (some b) = some r ∧ r ∈ b :: l ∧
    ∀ m ∈ b :: l, betterParent m r = false := by
  induction l generalizing b with
  | nil =>
    refine ⟨b, rfl, by simp, fun m hm => ?_⟩
    obtain rfl : m = b := by simpa using hm
    simp [betterParent]
  | cons n l ih =>
    by_cases hn : betterParent n b = true
    · obtain ⟨r, hfold, hmem, hbest⟩ := ih n
      refine ⟨r, by simpa [betterOf, hn] using hfold, List.mem_cons_of_mem _ hmem, fun m hm => ?_⟩
      rcases List.mem_cons.mp hm with rfl | hm
      · have hr := hbest n (by simp)
        rw [← Bool.not_eq_true, betterParent_iff] at hr ⊢
        rw [betterParent_iff] at hn
        omega
      · exact hbest m hm
    · obtain ⟨r, hfold, hmem, hbest⟩ := ih b
      refine ⟨r, by simpa [betterOf, hn] using hfold, ?_, fun m hm => ?_⟩
      · rcases List.mem_cons.mp hmem with rfl | hmem <;> simp [*]
      · rcases List.mem_cons.mp hm with rfl | hm
        · exact hbest _ (by simp)
        · rcases List.mem_cons.mp hm with rfl | hm
          · have hr := hbest b (by simp)
            rw [← Bool.not_eq_true, betterParent_iff] at hr ⊢
            rw [betterParent_iff] at hn
            omega
          · exact hbest m (by simp [hm])

theorem bestParent_of_best {n : Neigh} {s : State} (h : BestParent n s) : ∃ r, bestParent s = some r ∧ r.node = n.node ∧ r.depth = n.depth := by
  obtain ⟨hmem, hel, hbest⟩ := h
  have hn : n ∈ s.lnk.neigh.filter eligible := List.mem_filter.mpr ⟨hmem, hel⟩
  have heq : bestParent s = (s.lnk.neigh.filter eligible).foldl betterOf none := rfl
  cases hl : s.lnk.neigh.filter eligible with
  | nil => simp [hl] at hn
  | cons b l =>
    obtain ⟨r, hfold, hr, hnone⟩ := foldl_betterOf l b
    rw [hl] at heq hn
    refine ⟨r, heq.trans hfold, ?_⟩
    obtain ⟨hrmem, hrel⟩ := List.mem_filter.mp (hl ▸ hr)
    have hnr := hnone n hn
    rw [← Bool.not_eq_true, betterParent_iff] at hnr
    have := hbest r hrmem hrel
    omega

theorem bestParent_none {s : State} (h : ∀ n ∈ s.lnk.neigh, eligible n = false) : bestParent s = none := by
  have hl : s.lnk.neigh.filter eligible = [] := List.filter_eq_nil_iff.mpr fun n hn => by simp [h n hn]
  rw [bestParent, hl]
  rfl

section
variable {s : State} (hup : lnkUp s = true) (hst : s.lnk.st = .joined) (hcount : s.clk.count % 64 = 0) (hgone : parentGone s = true)

theorem exec_parentLost (s : State) : exec .parentLost s = .next (
    if lnkUp s && s.lnk.st = .joined && s.clk.count % 64 = 0 && parentGone s then chooseAgain s else s) := rfl

theorem parentLost_idles (h : lnkUp s = false ∨ s.lnk.st ≠ .joined ∨ s.clk.count % 64 ≠ 0 ∨ parentGone s = false) : Idles .parentLost s := by
  rw [Idles, exec_parentLost, if_neg]
  rcases h with h | h | h | h <;> simp [h]

include hup hst hcount hgone

theorem exec_parentLost_gone : exec .parentLost s = .next (chooseAgain s) := by
  rw [exec_parentLost, if_pos (by simp [hup, hst, hcount, hgone])]

theorem parentLost_follows {n : Neigh} (hbest : BestParent n s) : Does .parentLost s [.lnk, .ev, .sen] fun t =>
    t.lnk = { s.lnk with parent := n.node, depth := n.depth + 1 } ∧
      t.ev = (raise 0x30A5 5 255 (s.lnk.parent * 2 ^ 24 + n.node * 2 ^ 16) s).ev := by
  obtain ⟨r, hr, hnode, hdepth⟩ := bestParent_of_best hbest
  have heq : chooseAgain s = raise 0x30A5 5 255 (s.lnk.parent * 2 ^ 24 + r.node * 2 ^ 16) (followParent r s) := by rw [chooseAgain, hr]
  refine ⟨_, exec_parentLost_gone hup hst hcount hgone, upd_chooseAgain s, ?_, ?_⟩
  · rw [heq, raise_lnk, ← hnode, ← hdepth]
    rfl
  · rw [heq, hnode]
    exact (((upd_followParent r s).eventsAgree rfl rfl rfl rfl).raise ..).ev

theorem parentLost_leaves (hnone : ∀ n ∈ s.lnk.neigh, eligible n = false) : Does .parentLost s [.lnk, .ev, .sen] fun t =>
    t.lnk.st = .synced ∧ t.lnk.parent = 255 ∧ t.lnk.depth = 255 ∧ t.lnk.island = true ∧ t.lnk.neigh = s.lnk.neigh ∧
      t.ev = (raise 0x30A5 5 255 (s.lnk.parent * 2 ^ 24 + 255 * 2 ^ 16) s).ev := by
  have heq : chooseAgain s = setIsland true (raise 0x30A5 5 255 (s.lnk.parent * 2 ^ 24 + 255 * 2 ^ 16)
      (s.modLnk fun l => { l with st := .synced, depth := 255, parent := 255 })) := by rw [chooseAgain, bestParent_none hnone]
  obtain ⟨e, he⟩ := setIsland_on (raise 0x30A5 5 255 (s.lnk.parent * 2 ^ 24 + 255 * 2 ^ 16)
      (s.modLnk fun l => { l with st := .synced, depth := 255, parent := 255 }))
  rw [he] at heq
  refine ⟨_, exec_parentLost_gone hup hst hcount hgone, upd_chooseAgain s, ?_⟩
  rw [heq]
  simp only [State.modLnk_lnk, raise_lnk, true_and]
  exact (((upd_modLnk ..).eventsAgree rfl rfl rfl rfl).raise ..).ev

end

/-- Settles O46, command by command: the coordinator's beacon is a broadcast sent under its own counter; a beacon that is taken stops, passes or is
heard; the choice of a parent is a fold that keeps one none is better than. -/
theorem beaconsAndTheTree : Obligations.BeaconsAndTheTree := by
  unfold Obligations.BeaconsAndTheTree
  exact ⟨fun x n s hup hco hslot hnew hopen => beacon_sent hup hco hslot hnew hopen,
    fun x n s hup hco hslot hnew hplace hn hkey h0 h1 hex => beacon_exhausted hup hco hslot hnew hplace hn hkey h0 h1 hex,
    fun s h => beaconSend_idles h, fun f n s hup hst hrel hlow hhigh hmic hkey => beacon_relayed hup hst hrel hlow hhigh hmic hkey,
    fun f s h => beaconRelay_idles h, fun f hop s h hco hlow => beaconRx_stops h hco hlow,
    fun f hop s h hpass => beaconRx_passes h hpass, fun f hop s h hst => beaconRx_hears h hst,
    fun s hup hst hcap hmiss hplace => takeover_coordinates hup hst hcap hmiss hplace, fun s h => takeover_idles h,
    fun n s hup hnow hst hn => handover_coordinates hup hnow hst hn, fun n s hup hnow hst hn => handover_listens hup hnow hst hn,
    fun n s hup hnow hst => handover_passes hup hnow hst, fun s h => handover_idles h,
    fun s hup hst hmiss => islandEntry_listens hup hst hmiss, fun s h => islandEntry_idles h,
    fun n s hup hst hcount hgone hbest _ => parentLost_follows hup hst hcount hgone hbest,
    fun s hup hst hcount hgone hnone => parentLost_leaves hup hst hcount hgone hnone, fun s h => parentLost_idles h⟩

end Sys2Proof.Machine
end

section
/-! SUPPORT. Messages of the Acrad network: what the commands that take a frame do with it, and what a message leaves of the link
(18 R628 to R630). -/

namespace Sys2Proof.Machine

open Host

/-! What the delivery of each kind of message does (18 Table 18.7). -/

/-- TM_REQ (18 R624). -/
def reqAct (f : AcFrame) (s : State) : State :=
  let a := f.orig
  let s := s.modPhy fun p => { p with maps := p.maps.filter fun m => !(m.peer == a && !m.sending && !m.inUse && m.commitAt == 0) }
  let tmis := freeTmis s a
  let gen := ((neighOf s a).map (·.genLast)).getD 0 + 1
  let loads := (classesUsed s).filterMap fun c => (loadClass s a c).map fun r => (c, r)
  let cm := classMapBits s.phy.classMap
  let maps := (loads.zip tmis).map fun e => tmWords e.2 e.1.2.1 e.1.1 cm gen a (nodeId s) e.1.2.2
  let s := modNeigh a (fun n => { n with genLast := gen }) s
  let s := maps.foldl (fun s m => (loadMap m false s).2) s
  lnkTo 4 a (maps.flatMap wordsBytes) s

/-- TM_OFFER (18 R624). -/
def offerAct (f : AcFrame) (body : List Nat) (s : State) : State :=
  lnkTo 5 f.orig ((offerLoaded (offerMaps body) (exchangeState f.orig true s)).1.flatMap (bytesLE 4))
    (offerLoaded (offerMaps body) (exchangeState f.orig true s)).2

/-- The records of a COLLECT (18 R632). -/
def collectRecs (body : List Nat) (s : State) : List Demand :=
  (List.range (body.getD 9 0)).map fun k => demandOfBytes (nearEpoch s (natLE ((body.drop 10).take 4))) ((body.drop (14 + 8 * k)).take 8)

/-- The descendants and the claimant that a COLLECT brings (18 R616, R623). -/
def childrenTaken (f : AcFrame) (body : List Nat) (ds : List Demand) (s : State) : State :=
  s.modLnk fun l =>
    { l with
      children := ds.foldl (fun cs d => (cs.filter fun c => c.node != d.node) ++ [{ node := d.node, via := f.src, epoch := s.clk.count / 64 }]) l.children
      claimant := min l.claimant (body.getD 8 255) }

/-- COLLECT (18 R616, R617, R623, R632). -/
def collectAct (f : AcFrame) (body : List Nat) (s : State) : State :=
  let u := childrenTaken f body (collectRecs body s) ((collectRecs body s).foldl (fun s d => keepDemand d s) s)
  announceClaim u.lnk.claimant (takeCountSeen f.src (natLE (body.take 8)) u)

/-- ORDER (18 R634). -/
def orderAct (f : AcFrame) (body : List Nat) (s : State) : State :=
  (s.modGates fun g => { g with orderInlet := g.orderInlet ++ [msgOrder f body] }).modLnk fun l =>
    { l with orders := l.orders ++ [(f.orig, f.msgId, f.msgId)] }

/-- ORDER_STATUS (18 R634). -/
def statusAct (body : List Nat) (s : State) : State :=
  if s.mbus.ordMsg = some (natLE (body.take 2)) then s.modMbus fun m => { m with ordResult := body.getD 2 0, ordReason := body.getD 3 0 } else s

/-- The answer to a read command block (18 R635). -/
def readReply (f : AcFrame) (body : List Nat) (s : State) : List Nat × State :=
  if body.getD 0 0 = 1 then readAnswer f.orig false (natLE ((body.drop 4).take 2)) (body.getD 1 0) s
  else if body.getD 0 0 = 2 then readAnswer f.orig true (natLE ((body.drop 8).take 8)) (body.getD 1 0) s
  else (respHeader 4 7 (natLE ((body.drop 4).take 2)) (body.getD 1 0) 0 0 0, s)

/-- READ_REQ (18 R635). -/
def readAct (f : AcFrame) (body : List Nat) (s : State) : State := lnkSend 9 f.orig (readReply f body s).1 (readReply f body s).2

/-- READ_RSP (18 R635). -/
def rspAct (f : AcFrame) (body : List Nat) (s : State) : State :=
  if s.mbus.proxyCmd.isSome && s.mbus.proxy = some f.orig then s.modMbus fun m => { m with proxyRsp := some body } else s

section
variable (f : AcFrame) (q : Fin 48) (s : State)

theorem exec_tmReq : exec (.tmReq f) s = .next (takeMsg 3 f (fun _ => reqAct f) s) := rfl
theorem exec_tmAck : exec (.tmAck f q) s = .next (takeMsg 5 f (fun body => commitWith f.orig q.val false (ackGens body)) s) := rfl
theorem exec_collectMsg : exec (.collectMsg f) s = .next (takeMsg 1 f (collectAct f) s) := rfl
theorem exec_orderMsg : exec (.orderMsg f) s = .next (takeMsg 6 f (orderAct f) s) := rfl
theorem exec_orderStatus : exec (.orderStatus f) s = .next (takeMsg 7 f statusAct s) := rfl
theorem exec_readReq : exec (.readReq f) s = .next (takeMsg 8 f (readAct f) s) := rfl
theorem exec_readRsp : exec (.readRsp f) s = .next (takeMsg 9 f (rspAct f) s) := rfl

theorem exchangeState_sending (b : Nat) (s : State) :
    (s.modPhy fun p => { p with maps := p.maps.filter fun m => !(m.peer == b && m.sending && !m.inUse && m.commitAt == 0) }) =
      exchangeState b true s := by
  simp only [exchangeState, pendOf, beq_true]

/-- One map of an offer. -/
def offerStep (acc : List Nat × State) (m : List W128) : List Nat × State :=
  match loadMap m true acc.2 with
  | (true, s) => (acc.1 ++ [tmGen m], s)
  | (false, s) => (acc.1, s)

theorem offerLoaded_eq (ms : List (List W128)) (u : State) : ms.foldl offerStep ([], u) = offerLoaded ms u := by
  have hstep : offerStep = fun a m => if (loadMap m true a.2).1 then (a.1 ++ [tmGen m], (loadMap m true a.2).2) else (a.1, (loadMap m true a.2).2) := by
    funext a m
    unfold offerStep
    split <;> rename_i h <;> simp [h]
  rw [offerLoaded, hstep]

theorem exec_tmOffer : exec (.tmOffer f) s = .next (takeMsg 4 f (offerAct f) s) := by
  have hact : offerAct f = fun body s =>
      let u := s.modPhy fun p => { p with maps := p.maps.filter fun m => !(m.peer == f.orig && m.sending && !m.inUse && m.commitAt == 0) }
      let r := (offerMaps body).foldl offerStep ([], u)
      lnkTo 5 f.orig (r.1.flatMap (bytesLE 4)) r.2 := by
    funext body s
    dsimp only
    rw [exchangeState_sending, offerLoaded_eq, offerAct]
  rw [hact]
  rfl

end

/-! A message from its last frame on (18 R629, R630). -/

/-- Reassembly changes its buffers alone. -/
theorem reassemble_eq (f : AcFrame) (s : State) : ∃ r, (reassemble f s).2 = s.modLnk fun l => { l with reasm := r } := by
  unfold reassemble
  dsimp only
  split
  · exact ⟨s.lnk.reasm, rfl⟩
  · split
    · split
      · exact ⟨_, rfl⟩
      · exact ⟨_, rfl⟩
    · exact ⟨_, rfl⟩

section
variable {f : AcFrame} {s : State} (h : (lnkAccept f s).1 = true)
include h

theorem msgState_accepted : msgState f s = (reassemble f (frameTaken f s)).2 := by
  rw [msgState, lnkAccept_true h]

/-- A function that reads neither windows, acknowledgements, maps and requests nor reassembly buffers reads the same after the message. -/
theorem msgState_read {α : Type} (g : State → α) (hg : ∀ w a m x r, g ((received w a m x s).modLnk fun l => { l with reasm := r }) = g s) :
    g (msgState f s) = g s := by
  rw [msgState_accepted h]
  obtain ⟨r, hr⟩ := reassemble_eq f (frameTaken f s)
  rw [hr]
  exact frameTaken_read f (fun u => g (u.modLnk fun l => { l with reasm := r })) (fun w a m x => (hg w a m x r).trans
    (hg s.lnk.wins s.lnk.acks s.phy.maps s.phy.tx r).symm) |>.trans (hg s.lnk.wins s.lnk.acks s.phy.maps s.phy.tx r)

theorem upd_msgState : Upd [.phy, .lnk] s (msgState f s) := by
  rw [msgState_accepted h]
  exact .comp (upd_reassemble ..) rfl (upd_frameTaken f s)

end

theorem takeMsg_refused {k : Nat} {f : AcFrame} {s : State} (act : List Nat → State → State) (h : (lnkAccept f s).1 = false) :
    takeMsg k f act s = (lnkAccept f s).2 := by
  rw [takeMsg, show lnkAccept f s = (false, (lnkAccept f s).2) from Prod.ext h rfl]

/-- A message that is whole, to all or to one. -/
def msgWhole (k : Nat) (f : AcFrame) (act : List Nat → State → State) (body : List Nat) (s : State) : State :=
  if f.bcastFinal then
    let now := s.clk.bndTot
    let dup := s.lnk.dup.filter fun d => decide (now < d.2.2 + 3000)
    let seen := f.orig == nodeId s || dup.any fun d => d.1 == f.orig && d.2.1 == f.msgId
    let s := s.modLnk fun l => { l with dup := if seen then dup else dup ++ [(f.orig, f.msgId, now)] }
    if seen then s else act body (((treeHops s).filter (· != f.src)).foldl (fun s d => forwardTo d k f body s) s)
  else if f.final = nodeId s then act body s
  else match nextHop s f.final with
    | some d => forwardTo d k f body s
    | none => lnkDrop 4 f.msgId s

section
variable {k : Nat} {f : AcFrame} {s : State} {body : List Nat} (act : List Nat → State → State)

theorem takeMsg_part (h : (lnkAccept f s).1 = true) (hr : (reassemble f (lnkAccept f s).2).1 = none) : takeMsg k f act s = msgState f s := by
  have hpart : reassemble f (lnkAccept f s).2 = (none, msgState f s) := Prod.ext hr rfl
  rw [takeMsg, show lnkAccept f s = (true, (lnkAccept f s).2) from Prod.ext h rfl]
  dsimp only
  rw [hpart]

theorem takeMsg_whole (h : (lnkAccept f s).1 = true) (hr : (reassemble f (lnkAccept f s).2).1 = some body) :
    takeMsg k f act s = msgWhole k f act body (msgState f s) := by
  have hwhole : reassemble f (lnkAccept f s).2 = (some body, msgState f s) := Prod.ext hr rfl
  rw [takeMsg, show lnkAccept f s = (true, (lnkAccept f s).2) from Prod.ext h rfl]
  dsimp only
  rw [hwhole]
  rfl

theorem msgHere_iff : msgHere f body s = true ↔ (lnkAccept f s).1 = true ∧ (reassemble f (lnkAccept f s).2).1 = some body ∧
    f.bcastFinal = false ∧ f.final = nodeId (msgState f s) := by
  simp [msgHere, and_assoc]

theorem msgAway_iff : msgAway f body s = true ↔ (lnkAccept f s).1 = true ∧ (reassemble f (lnkAccept f s).2).1 = some body ∧
    f.bcastFinal = false ∧ f.final ≠ nodeId s := by
  simp [msgAway, and_assoc]

theorem msgAll_iff : msgAll f body s = true ↔ (lnkAccept f s).1 = true ∧ (reassemble f (lnkAccept f s).2).1 = some body ∧
    f.bcastFinal = true := by
  simp [msgAll, and_assoc]

theorem takeMsg_here (h : msgHere f body s = true) : takeMsg k f act s = act body (msgState f s) := by
  obtain ⟨ha, hr, hone, hfinal⟩ := msgHere_iff.mp h
  rw [takeMsg_whole act ha hr, msgWhole, if_neg (by simp [hone]), if_pos hfinal]

theorem msgState_node (h : (lnkAccept f s).1 = true) : nodeId (msgState f s) = nodeId s := msgState_read h nodeId fun _ _ _ _ _ => rfl

/-- A message for another node goes one hop on, or drops without a hop (18 R630). -/
def msgOnward (k : Nat) (f : AcFrame) (body : List Nat) (hop : Option Nat) (s : State) : State :=
  match hop with
  | some d => forwardTo d k f body s
  | none => lnkDrop 4 f.msgId s

theorem takeMsg_away (h : msgAway f body s = true) : takeMsg k f act s = msgOnward k f body (nextHop s f.final) (msgState f s) := by
  obtain ⟨ha, hr, hone, hfinal⟩ := msgAway_iff.mp h
  have hhop : nextHop (msgState f s) f.final = nextHop s f.final := msgState_read ha (nextHop · f.final) fun _ _ _ _ _ => rfl
  rw [takeMsg_whole act ha hr, msgWhole, if_neg (by simp [hone]), if_neg (by rw [msgState_node ha]; exact hfinal), hhop]
  rfl

/-- The broadcast messages of the last 3 000 cy. -/
def dupKept (s : State) : List (Nat × Nat × Nat) := s.lnk.dup.filter fun d => decide (s.clk.bndTot < d.2.2 + 3000)

theorem msgSeen_eq (f : AcFrame) (s : State) : msgSeen f s =
    (f.orig == nodeId s || (dupKept s).any fun d => d.1 == f.orig && d.2.1 == f.msgId) := by
  rw [msgSeen, dupKept, List.any_filter]
  simp only [Bool.and_assoc]

theorem msgWhole_all (hb : f.bcastFinal = true) : msgWhole k f act body s =
    if msgSeen f s then s.modLnk fun l => { l with dup := dupKept s }
    else act body (((treeHops s).filter (· != f.src)).foldl (fun s d => forwardTo d k f body s)
      (s.modLnk fun l => { l with dup := dupKept s ++ [(f.orig, f.msgId, s.clk.bndTot)] })) := by
  rw [msgSeen_eq, msgWhole, if_pos hb]
  unfold dupKept
  dsimp only
  split <;> rfl

end

/-! Share frames (18 R619, R620). -/

/-- The demand record of a share frame is kept, and its sender has an entry, or not. -/
def shareRoom (f : AcFrame) (s : State) : Bool × State :=
  neighRoom f.src (keepDemand (demandOfBytes (estCount s / 64) ((f.body.drop 26).take 8)) s)

/-- The phase step that a share frame shows. -/
def shareStep (f : AcFrame) (s : State) : Option Nat := phaseStep s (natLE ((f.body.drop 4).take 2))

/-- The entry of a sender with phase step k and quality q, at cycle count c (18 R620). -/
def entryOf (f : AcFrame) (k : Option Nat) (q c : Nat) (n : Neigh) : Neigh :=
  { n with depth := f.body.getD 0 255, parent := f.body.getD 1 0, relay := bitOf (f.body.getD 3 0) 1, phase := natLE ((f.body.drop 4).take 2),
           k, quality := q, serial := natLE ((f.body.drop 6).take 8), ident := natLE ((f.body.drop 14).take 4),
           heard := true :: n.heard.drop 1, lastCount := c }

/-- The sender's entry is written. -/
def entryTaken (f : AcFrame) (s : State) : State := modNeigh f.src (entryOf f (shareStep f s) (qualityOf s f.src) s.clk.count) s

/-- The event of a phase learnt or changed. -/
def phaseNoted (f : AcFrame) (changed : Bool) (k : Option Nat) (s : State) : State :=
  match k with
  | some k => raiseIf changed 0x30A6 5 255 (f.src * 2 ^ 24 + conductorOf (rotPositive s) k * 16 + (k % 2) * 8) s
  | none => s

/-- The count that a share frame reports under AHEAD (18 R617). -/
def countReported (f : AcFrame) (s : State) : State :=
  if bitOf (f.body.getD 3 0) 4 then takeCountSeen f.src (natLE ((f.body.drop 18).take 8)) s else s

/-- The claim that it reports (18 R616). -/
def claimReported (f : AcFrame) (s : State) : State :=
  if bitOf (f.body.getD 3 0) 2 then s.modLnk (fun l => { l with claimant := min l.claimant f.src }) else s

/-- The coordinator that it reports (18 R615). -/
def coordReported (f : AcFrame) (s : State) : State :=
  if s.lnk.st = .coord && decide (f.body.getD 2 255 < nodeId s) then coordStops (f.body.getD 2 255) s else s

/-- What a share frame reports beside its sender's entry. -/
def shareReported (f : AcFrame) (s : State) : State := coordReported f (claimReported f (countReported f s))

/-- A share frame that is taken. -/
def shareTaken (f : AcFrame) (s : State) : State :=
  let u := (shareRoom f s).2
  let k := shareStep f u
  shareReported f (phaseNoted f ((shareRoom f s).1 && (neighOf u f.src).bind (·.k) != k) k (if !(shareRoom f s).1 then u else entryTaken f u))

theorem phaseNoted_eq (f : AcFrame) (room : Bool) (old k : Option Nat) (s : State) : phaseNoted f (room && old != k) k s =
    match k with
    | some k => raiseIf (room && old != some k) 0x30A6 5 255 (f.src * 2 ^ 24 + conductorOf (rotPositive s) k * 16 + (k % 2) * 8) s
    | none => s := by
  cases k <;> rfl

theorem exec_shareFrameRx {f : AcFrame} {s : State} (h : (lnkAccept f s).1 = true) :
    exec (.shareFrameRx f) s = .next (shareTaken f (frameTaken f s)) := by
  change execShareFrameRx f s = _
  rw [execShareFrameRx, lnkAccept_true h]
  unfold shareTaken
  dsimp only
  rw [phaseNoted_eq]
  rfl

/-! Bundle segments (18 R606, R633). -/

/-- A relay of DEPTH 1 to 5 sends the segment on. -/
def segRelayed (f : AcFrame) (s : State) : State :=
  if s.lnk.st = .joined && cfg s 0x60 0 0 95 95 = 1 && decide (1 ≤ s.lnk.epochDepth) && decide (s.lnk.epochDepth ≤ 5) then
    relayFrame 1 (estCount s / 4) 2 true f s
  else s

/-- A segment is taken; the bundle is held when it is whole. -/
def segTaken (f : AcFrame) (s : State) : State :=
  let t := (segRelayed f s).modLnk fun l => { l with bundleIn := segsWith f (segRelayed f s) }
  let b := (segsWith f (segRelayed f s)).flatMap (·.2)
  if segsWhole (segsWith f (segRelayed f s)) then
    holdBundle (nearEpoch t (natLE (b.take 4))) (bundleRecs (nearEpoch t (natLE (b.take 4))) b) (t.modLnk fun l => { l with bundleIn := [] })
  else t

theorem segsWhole_eq (segs : List (Nat × List Nat)) : (decide (segs.head?.map (·.1) = some 0) &&
    decide (36 + 8 * ((((segs.flatMap (·.2)).drop 4).take 32).map fun x => ((List.range 8).filter fun j => bitOf x j).length).sum =
      (segs.flatMap (·.2)).length)) = segsWhole segs := by
  simp only [segsWhole, beq_eq_decide]

theorem exec_bundleSeg {f : AcFrame} {s : State} (h : (lnkAccept f s).1 = true) :
    exec (.bundleSeg f) s = .next (segTaken f (frameTaken f s)) := by
  change execBundleSeg f s = _
  rw [execBundleSeg, lnkAccept_true h]
  dsimp only
  rw [segsWhole_eq]
  rfl

end Sys2Proof.Machine
end

section
/-! PROOF. Obligation O47 (18 R602, R608, R610, R611, R628 to R630). -/

namespace Sys2Proof.Machine

open Host

/-! Windows and acknowledgements stand once a frame is taken. -/

/-- LNK has accepted and acknowledged nothing more. -/
def RxKept (s t : State) : Prop := t.lnk.wins = s.lnk.wins ∧ t.lnk.acks = s.lnk.acks

theorem RxKept.refl (s : State) : RxKept s s := ⟨rfl, rfl⟩

theorem RxKept.trans {s t u : State} (h : RxKept s t) (g : RxKept t u) : RxKept s u := ⟨g.1.trans h.1, g.2.trans h.2⟩

theorem RxKept.of_lnk {s t : State} (h : t.lnk = s.lnk) : RxKept s t := ⟨by rw [h], by rw [h]⟩

theorem RxKept.raise {s t : State} (h : RxKept s t) (code sev subj arg : Nat) : RxKept s (raise code sev subj arg t) :=
  h.trans (.of_lnk (raise_lnk ..))

theorem RxKept.raiseIf {s t : State} (h : RxKept s t) (b : Bool) (code sev subj arg : Nat) : RxKept s (raiseIf b code sev subj arg t) :=
  h.trans (.of_lnk (raiseIf_lnk ..))

theorem RxKept.foldl {α : Type} {f : State → α → State} (hf : ∀ s x, RxKept s (f s x)) (l : List α) (s : State) : RxKept s (l.foldl f s) := by
  induction l generalizing s with
  | nil => exact .refl s
  | cons x l ih => exact (hf s x).trans (ih (f s x))

theorem rxKept_reassemble (f : AcFrame) (s : State) : RxKept s (reassemble f s).2 := by
  obtain ⟨r, hr⟩ := reassemble_eq f s
  rw [hr]
  exact ⟨rfl, rfl⟩

theorem rxKept_lnkQueue (m : TxMsg) (s : State) : RxKept s (lnkQueue m s) :=
  RxKept.foldl (f := fun s x => s.modLnk fun l => { l with queue := insertBy (fun x => kindRank x.kind) x l.queue }) (fun _ _ => ⟨rfl, rfl⟩) _ _

theorem rxKept_lnkDrop (reason id : Nat) (s : State) : RxKept s (lnkDrop reason id s) :=
  RxKept.raise (s := s) (t := s.modLnk fun l => { l with dropped := inc32 l.dropped }) ⟨rfl, rfl⟩ ..

theorem rxKept_lnkTo (kind node : Nat) (body : List Nat) (s : State) : RxKept s (lnkTo kind node body s) :=
  RxKept.trans (t := s.modLnk fun l => { l with msgNext := (s.lnk.msgNext + 1) % 65536 }) ⟨rfl, rfl⟩ (rxKept_lnkQueue ..)

theorem rxKept_lnkSend (kind final : Nat) (body : List Nat) (s : State) : RxKept s (lnkSend kind final body s) := by
  unfold lnkSend
  split
  · exact rxKept_lnkDrop ..
  · exact RxKept.trans (t := s.modLnk fun l => { l with msgNext := (s.lnk.msgNext + 1) % 65536 }) ⟨rfl, rfl⟩ (rxKept_lnkQueue ..)

theorem rxKept_forwardTo (d k : Nat) (f : AcFrame) (body : List Nat) (s : State) : RxKept s (forwardTo d k f body s) := by
  unfold forwardTo
  split
  · exact rxKept_lnkDrop ..
  · exact rxKept_lnkQueue ..

theorem rxKept_commitWith (peer q : Nat) (sending : Bool) (gens : List Nat) (s : State) : RxKept s (commitWith peer q sending gens s) := by
  unfold commitWith
  refine .trans ?_ (.foldl (fun s _ => (RxKept.refl s).raise ..) _ _)
  exact RxKept.trans (.of_lnk ((upd_commitMaps ..).lnk rfl)) ⟨rfl, rfl⟩

theorem rxKept_keepDemand (d : Demand) (s : State) : RxKept s (keepDemand d s) := by
  unfold keepDemand State.modLnk
  dsimp only
  split <;> exact ⟨rfl, rfl⟩

theorem rxKept_takeCountSeen (node seen : Nat) (s : State) : RxKept s (takeCountSeen node seen s) := by
  unfold takeCountSeen
  split
  · exact (RxKept.refl s).raise ..
  · split
    · split
      · exact ⟨rfl, rfl⟩
      · exact .refl s
    · exact ⟨rfl, rfl⟩

theorem rxKept_toListen (s : State) : RxKept s (toListen s) := by
  obtain ⟨e, he⟩ := toListen_eq s
  rw [he]
  exact ⟨rfl, rfl⟩

theorem rxKept_coordStops (new : Nat) (s : State) : RxKept s (coordStops new s) := ((RxKept.refl s).raise ..).trans (rxKept_toListen _)

theorem rxKept_beaconHeard (f : AcFrame) (hop : Nat) (s : State) : RxKept s (beaconHeard f hop s) := by
  obtain ⟨c, d, hc⟩ := beaconHeard_lnk f hop s
  rw [hc]
  exact ⟨rfl, rfl⟩

theorem rxKept_holdBundle (e : Nat) (ds : List Demand) (s : State) : RxKept s (holdBundle e ds s) := by
  unfold holdBundle
  split
  · exact .refl s
  · exact RxKept.trans (t := s.modLnk fun l => { l with bundle := some (e, ds), bundleEpoch := e % 2 ^ 32 }) ⟨rfl, rfl⟩
      (.of_lnk ((upd_allocCompute ..).lnk rfl))

/-! Each kind of message (18 Table 18.7). -/

theorem rxKept_reqAct (f : AcFrame) (s : State) : RxKept s (reqAct f s) := by
  unfold reqAct
  refine .trans (.trans ?_ (.foldl (fun s m => .of_lnk ((upd_loadMap m false s).lnk rfl)) _ _)) (rxKept_lnkTo ..)
  exact ⟨rfl, rfl⟩

theorem upd_offerLoaded (ms : List (List W128)) (u : State) : Upd [.phy, .ev, .sen] u (offerLoaded ms u).2 := by
  rw [offerLoaded]
  refine Upd.foldlR (fun a m h => ?_) (.refl ..)
  split <;> exact .comp (upd_loadMap ..) rfl h

theorem rxKept_offerAct (f : AcFrame) (body : List Nat) (s : State) : RxKept s (offerAct f body s) := by
  have hu : RxKept s (exchangeState f.orig true s) := ⟨rfl, rfl⟩
  exact (hu.trans (.of_lnk ((upd_offerLoaded ..).lnk rfl))).trans (rxKept_lnkTo ..)

theorem rxKept_announceClaim (claimant : Nat) (s : State) : RxKept s (announceClaim claimant s) := by
  unfold announceClaim
  split
  · exact ⟨rfl, rfl⟩
  · exact .refl s

theorem rxKept_collectAct (f : AcFrame) (body : List Nat) (s : State) : RxKept s (collectAct f body s) := by
  have hdemands : RxKept s ((collectRecs body s).foldl (fun s d => keepDemand d s) s) := .foldl (fun s d => rxKept_keepDemand d s) _ _
  have hchildren : ∀ ds t, RxKept t (childrenTaken f body ds t) := fun _ _ => ⟨rfl, rfl⟩
  exact ((hdemands.trans (hchildren ..)).trans (rxKept_takeCountSeen ..)).trans (rxKept_announceClaim ..)

theorem rxKept_orderAct (f : AcFrame) (body : List Nat) (s : State) : RxKept s (orderAct f body s) := ⟨rfl, rfl⟩

theorem rxKept_statusAct (body : List Nat) (s : State) : RxKept s (statusAct body s) := by
  unfold statusAct
  split <;> exact .refl _

theorem rxKept_rspAct (f : AcFrame) (body : List Nat) (s : State) : RxKept s (rspAct f body s) := by
  unfold rspAct
  split <;> exact .refl _

theorem upd_readReply (f : AcFrame) (body : List Nat) (s : State) : Upd [.mbus, .ev, .sen, .freeCtr] s (readReply f body s).2 := by
  unfold readReply
  split
  · exact upd_readAnswer ..
  · split
    · exact upd_readAnswer ..
    · exact .refl ..

theorem rxKept_readAct (f : AcFrame) (body : List Nat) (s : State) : RxKept s (readAct f body s) :=
  RxKept.trans (.of_lnk ((upd_readReply f body s).lnk rfl)) (rxKept_lnkSend ..)

theorem rxKept_msgWhole {act : List Nat → State → State} (hact : ∀ b s, RxKept s (act b s)) (k : Nat) (f : AcFrame) (body : List Nat)
    (s : State) : RxKept s (msgWhole k f act body s) := by
  cases hb : f.bcastFinal with
  | true =>
    rw [msgWhole_all act hb]
    split
    · exact ⟨rfl, rfl⟩
    · refine .trans (.trans ?_ (.foldl (fun s d => rxKept_forwardTo d k f body s) _ _)) (hact ..)
      exact ⟨rfl, rfl⟩
  | false =>
    rw [msgWhole, if_neg (by simp [hb])]
    split
    · exact hact ..
    · split
      · exact rxKept_forwardTo ..
      · exact rxKept_lnkDrop ..

theorem rxKept_takeMsg {act : List Nat → State → State} (hact : ∀ b s, RxKept s (act b s)) {k : Nat} {f : AcFrame} {s : State}
    (h : (lnkAccept f s).1 = true) : RxKept (frameTaken f s) (takeMsg k f act s) := by
  have hmsg : RxKept (frameTaken f s) (msgState f s) := by
    rw [msgState_accepted h]
    exact rxKept_reassemble ..
  cases hr : (reassemble f (lnkAccept f s).2).1 with
  | none =>
    rw [takeMsg_part act h hr]
    exact hmsg
  | some body =>
    rw [takeMsg_whole act h hr]
    exact hmsg.trans (rxKept_msgWhole hact ..)

theorem rxKept_neighRoom (node : Nat) (s : State) : RxKept s (neighRoom node s).2 := by
  unfold neighRoom
  split
  · exact .refl s
  · split
    · exact ⟨rfl, rfl⟩
    · dsimp only
      split
      · exact ⟨rfl, rfl⟩
      · split
        · exact .refl s
        · exact RxKept.raise (s := s) (t := s.modLnk fun l => { l with fullEpoch := s.clk.count / 64 }) ⟨rfl, rfl⟩ ..

theorem rxKept_phaseNoted (f : AcFrame) (b : Bool) (k : Option Nat) (s : State) : RxKept s (phaseNoted f b k s) := by
  cases k with
  | none => exact .refl s
  | some k => exact (RxKept.refl s).raiseIf ..

theorem rxKept_shareReported (f : AcFrame) (s : State) : RxKept s (shareReported f s) := by
  have hcount : RxKept s (countReported f s) := by
    unfold countReported
    split
    · exact rxKept_takeCountSeen ..
    · exact .refl s
  have hclaim : ∀ t, RxKept t (claimReported f t) := by
    intro t
    unfold claimReported
    split
    · exact ⟨rfl, rfl⟩
    · exact .refl t
  have hcoord : ∀ t, RxKept t (coordReported f t) := by
    intro t
    unfold coordReported
    split
    · exact rxKept_coordStops ..
    · exact .refl t
  exact (hcount.trans (hclaim _)).trans (hcoord _)

theorem rxKept_shareTaken (f : AcFrame) (s : State) : RxKept s (shareTaken f s) := by
  have hroom : RxKept s (shareRoom f s).2 := (rxKept_keepDemand ..).trans (rxKept_neighRoom ..)
  have hentry : RxKept s (if !(shareRoom f s).1 then (shareRoom f s).2 else entryTaken f (shareRoom f s).2) := by
    split
    · exact hroom
    · exact hroom.trans ⟨rfl, rfl⟩
  exact (hentry.trans (rxKept_phaseNoted ..)).trans (rxKept_shareReported ..)

theorem rxKept_segTaken (f : AcFrame) (s : State) : RxKept s (segTaken f s) := by
  have hrelay : RxKept s (segRelayed f s) := by
    unfold segRelayed
    split
    · exact .of_lnk ((upd_relayFrame ..).lnk rfl)
    · exact .refl s
  unfold segTaken
  dsimp only
  split
  · refine .trans (.trans hrelay ?_) (rxKept_holdBundle ..)
    exact ⟨rfl, rfl⟩
  · exact .trans hrelay ⟨rfl, rfl⟩

theorem rxKept_beaconTaken (f : AcFrame) (hop : Nat) (s : State) : RxKept s (beaconTaken f hop s) := by
  unfold beaconTaken
  split
  · split
    · exact rxKept_coordStops ..
    · exact .refl s
  · split
    · exact .refl s
    · exact rxKept_beaconHeard ..

/-! The commands that take a frame, and those that take a message. -/

theorem exec_takesMsg {f : AcFrame} {q : Fin 48} {c : Instr} {k : Nat} (h : TakesMsg f q c k) :
    ∃ act, (∀ b s, RxKept s (act b s)) ∧ ∀ s, exec c s = .next (takeMsg k f act s) := by
  simp only [TakesMsg, List.mem_cons, List.not_mem_nil, or_false, Prod.mk.injEq] at h
  rcases h with ⟨rfl, rfl⟩ | ⟨rfl, rfl⟩ | ⟨rfl, rfl⟩ | ⟨rfl, rfl⟩ | ⟨rfl, rfl⟩ | ⟨rfl, rfl⟩ | ⟨rfl, rfl⟩ | ⟨rfl, rfl⟩
  · exact ⟨_, fun _ _ => rxKept_collectAct .., exec_collectMsg f⟩
  · exact ⟨_, fun _ _ => rxKept_reqAct .., exec_tmReq f⟩
  · exact ⟨_, fun _ _ => rxKept_offerAct .., exec_tmOffer f⟩
  · exact ⟨_, fun _ _ => rxKept_commitWith .., exec_tmAck f q⟩
  · exact ⟨_, fun _ _ => rxKept_orderAct .., exec_orderMsg f⟩
  · exact ⟨_, fun _ _ => rxKept_statusAct .., exec_orderStatus f⟩
  · exact ⟨_, fun _ _ => rxKept_readAct .., exec_readReq f⟩
  · exact ⟨_, fun _ _ => rxKept_rspAct .., exec_readRsp f⟩

theorem takesFrame_cases {f : AcFrame} {hop : Nat} {q : Fin 48} {c : Instr} (h : TakesFrame f hop q c) :
    c = .beaconRx f hop ∨ c = .shareFrameRx f ∨ c = .bundleSeg f ∨ ∃ k, TakesMsg f q c k := by
  simp only [TakesFrame, List.mem_cons, List.not_mem_nil, or_false] at h
  rcases h with h | h | rfl | rfl | rfl | rfl | h | rfl | rfl | rfl | rfl
  · exact .inl h
  · exact .inr (.inl h)
  · exact .inr (.inr (.inr ⟨3, by simp [TakesMsg]⟩))
  · exact .inr (.inr (.inr ⟨4, by simp [TakesMsg]⟩))
  · exact .inr (.inr (.inr ⟨5, by simp [TakesMsg]⟩))
  · exact .inr (.inr (.inr ⟨1, by simp [TakesMsg]⟩))
  · exact .inr (.inr (.inl h))
  · exact .inr (.inr (.inr ⟨6, by simp [TakesMsg]⟩))
  · exact .inr (.inr (.inr ⟨7, by simp [TakesMsg]⟩))
  · exact .inr (.inr (.inr ⟨8, by simp [TakesMsg]⟩))
  · exact .inr (.inr (.inr ⟨9, by simp [TakesMsg]⟩))

/-! A frame whose MIC fails (18 R610). -/

/-- The failure is counted, and the first of a run written. -/
def failNoted (f : AcFrame) (s : State) : State :=
  raiseIf (!runOn s.lnk.authRun (nowS s)) 0x30A9 5 255 (f.src * 2 ^ 24 + f.keysel * 2 ^ 16)
    (s.modLnk fun l => { l with authFail := inc32 l.authFail, authRun := some (nowS s) })

theorem authFailed_eq (f : AcFrame) (s : State) : authFailed f s = if f.bcast then failNoted f s else sendAck f 3 (failNoted f s) := rfl

theorem upd_failNoted (f : AcFrame) (s : State) : Upd [.lnk, .ev, .sen] s (failNoted f s) := .comp (upd_raiseIf ..) rfl ((upd_modLnk ..).mono rfl)

theorem failNoted_lnk (f : AcFrame) (s : State) :
    (failNoted f s).lnk = { s.lnk with authFail := inc32 s.lnk.authFail, authRun := some (nowS s) } := raiseIf_lnk ..

theorem failNoted_ev (f : AcFrame) (s : State) :
    (failNoted f s).ev = (raiseIf (!runOn s.lnk.authRun (nowS s)) 0x30A9 5 255 (f.src * 2 ^ 24 + f.keysel * 2 ^ 16) s).ev :=
  (((upd_modLnk ..).eventsAgree rfl rfl rfl rfl).raiseIf ..).ev

theorem acked_failNoted (f : AcFrame) (s : State) : Acked f 3 s (sendAck f 3 (failNoted f s)) := by
  obtain ⟨hacks, htx⟩ := acked_sendAck f 3 (failNoted f s)
  have hreq : ackReq f.src f.fseq 3 (failNoted f s) = ackReq f.src f.fseq 3 s :=
    (upd_raiseIf (!runOn s.lnk.authRun (nowS s)) 0x30A9 5 255 (f.src * 2 ^ 24 + f.keysel * 2 ^ 16)
      (s.modLnk fun l => { l with authFail := inc32 l.authFail, authRun := some (nowS s) })).read (ackReq f.src f.fseq 3) fun _ => rfl
  refine ⟨?_, ?_⟩
  · rw [hacks, failNoted_lnk]
  · rw [htx, hreq, (upd_failNoted f s).phy rfl]

section
variable {f : AcFrame} {hop : Nat} {q : Fin 48} {c : Instr} {s : State} (hc : TakesFrame f hop q c)
include hc

theorem exec_refused (h : (lnkAccept f s).1 = false) : exec c s = .next (lnkAccept f s).2 := by
  have ha : lnkAccept f s = (false, (lnkAccept f s).2) := Prod.ext h rfl
  rcases takesFrame_cases hc with rfl | rfl | rfl | ⟨k, hk⟩
  · change execBeaconRx f hop s = _
    rw [execBeaconRx, ha]
  · change execShareFrameRx f s = _
    rw [execShareFrameRx, ha]
  · change execBundleSeg f s = _
    rw [execBundleSeg, ha]
  · obtain ⟨act, _, hexec⟩ := exec_takesMsg hk
    rw [hexec, takeMsg_refused act h]

theorem exec_taken (h : (lnkAccept f s).1 = true) : ∃ t, exec c s = .next t ∧ RxKept (frameTaken f s) t := by
  rcases takesFrame_cases hc with rfl | rfl | rfl | ⟨k, hk⟩
  · exact ⟨_, exec_beaconRx h, rxKept_beaconTaken ..⟩
  · exact ⟨_, exec_shareFrameRx h, rxKept_shareTaken ..⟩
  · exact ⟨_, exec_bundleSeg h, rxKept_segTaken ..⟩
  · obtain ⟨act, hact, hexec⟩ := exec_takesMsg hk
    exact ⟨_, hexec s, rxKept_takeMsg hact h⟩

theorem upd_takesFrame (s : State) : ∃ u, exec c s = .next u ∧ Upd linkParts s u := by
  simp only [TakesFrame, List.mem_cons, List.not_mem_nil, or_false] at hc
  rcases hc with rfl | rfl | rfl | rfl | rfl | rfl | rfl | rfl | rfl | rfl | rfl
  · exact (upd_execBeaconRx f hop s).imp fun _ h => ⟨h.1, h.2.mono rfl⟩
  · exact (upd_execShareFrameRx f s).imp fun _ h => ⟨h.1, h.2.mono rfl⟩
  · exact (upd_execTmReq f s).imp fun _ h => ⟨h.1, h.2.mono rfl⟩
  · exact (upd_execTmOffer f s).imp fun _ h => ⟨h.1, h.2.mono rfl⟩
  · exact (upd_execTmAck f q s).imp fun _ h => ⟨h.1, h.2.mono rfl⟩
  · exact (upd_execCollectMsg f s).imp fun _ h => ⟨h.1, h.2.mono rfl⟩
  · exact (upd_execBundleSeg f s).imp fun _ h => ⟨h.1, h.2.mono rfl⟩
  · exact (upd_execOrderMsg f s).imp fun _ h => ⟨h.1, h.2.mono rfl⟩
  · exact (upd_execOrderStatus f s).imp fun _ h => ⟨h.1, h.2.mono rfl⟩
  · exact (upd_execReadReq f s).imp fun _ h => ⟨h.1, h.2.mono rfl⟩
  · exact (upd_execReadRsp f s).imp fun _ h => ⟨h.1, h.2.mono rfl⟩

theorem frame_foreign_idles (h : lnkUp s = false ∨ frameForUs s f = false) : Idles c s := by
  have ha := lnkAccept_foreign h
  rw [Idles, exec_refused hc (by rw [ha]), ha]

section
variable (hup : lnkUp s = true) (hfor : frameForUs s f = true)
include hup hfor

theorem frame_unauth (h : f.mic = false ∨ netKey s f.keysel = none) : Does c s [.phy, .lnk, .ev, .sen] fun t =>
    t.lnk.authFail = inc32 s.lnk.authFail ∧ t.lnk.wins = s.lnk.wins ∧ t.lnk.queue = s.lnk.queue ∧
      t.ev = (raiseIf (!runOn s.lnk.authRun (nowS s)) 0x30A9 5 255 (f.src * 2 ^ 24 + f.keysel * 2 ^ 16) s).ev ∧
      if f.bcast then t.lnk.acks = s.lnk.acks ∧ t.phy = s.phy else Acked f 3 s t := by
  have ha := lnkAccept_unauth hup hfor h
  have hexec := exec_refused hc (s := s) (by rw [ha])
  rw [ha] at hexec
  refine ⟨_, hexec, upd_authFailed f s, ?_⟩
  rw [authFailed_eq]
  cases hb : f.bcast with
  | true =>
    rw [if_pos rfl, failNoted_lnk, failNoted_ev]
    exact ⟨rfl, rfl, rfl, rfl, rfl, (upd_failNoted f s).phy rfl⟩
  | false =>
    simp only [Bool.false_eq_true, if_false, sendAck_eq, State.modPhy_lnk, State.modLnk_lnk, State.modPhy_ev, State.modLnk_ev, failNoted_lnk,
      failNoted_ev, true_and]
    exact acked_failNoted f s

theorem frame_old (hmic : f.mic = true) (hkey : (netKey s f.keysel).isSome = true) (hnew : fctrNew (frWin s f.src f.keysel) f.fctr = false) :
    Does c s [.phy, .lnk] fun t =>
      t.lnk = { s.lnk with acks := t.lnk.acks } ∧ t.phy = { s.phy with tx := t.phy.tx } ∧
        if f.bcast = false ∧ fctrSeen (frWin s f.src f.keysel) f.fctr = true then Acked f 0 s t else t.lnk = s.lnk ∧ t.phy = s.phy := by
  have ha := lnkAccept_old hup hfor hmic hkey hnew
  have hexec := exec_refused hc (s := s) (by rw [ha])
  rw [ha] at hexec
  by_cases hseen : f.bcast = false ∧ fctrSeen (frWin s f.src f.keysel) f.fctr = true
  · rw [if_pos (by simp [hseen])] at hexec
    refine ⟨_, hexec, upd_sendAck .., rfl, rfl, ?_⟩
    rw [if_pos hseen]
    exact acked_sendAck ..
  · rw [if_neg (by simpa using hseen)] at hexec
    refine ⟨_, hexec, .refl .., rfl, rfl, ?_⟩
    rw [if_neg hseen]
    exact ⟨rfl, rfl⟩

theorem frame_full (hmic : f.mic = true) (hkey : (netKey s f.keysel).isSome = true) (hnew : fctrNew (frWin s f.src f.keysel) f.fctr = true)
    (hb : f.bcast = false) (hbuf : hasBuffer s f = false) :
    Does c s [.phy, .lnk] fun t => Acked f 2 s t ∧ t.lnk = { s.lnk with acks := t.lnk.acks } := by
  have ha := lnkAccept_full hup hfor hmic hkey hnew hb hbuf
  have hexec := exec_refused hc (s := s) (by rw [ha])
  rw [ha] at hexec
  exact ⟨_, hexec, upd_sendAck .., acked_sendAck .., rfl⟩

end

end

/-! An accepted counter stands in its window (18 R611). -/

theorem fctrTake_src (w : FrWin) (n : Nat) : (fctrTake w n).src = w.src ∧ (fctrTake w n).key = w.key := by
  unfold fctrTake
  split
  · exact ⟨rfl, rfl⟩
  · split <;> exact ⟨rfl, rfl⟩

theorem fctrNew_fctrTake {w : FrWin} {n : Nat} (h : fctrNew w n = true) : fctrNew (fctrTake w n) n = false := by
  unfold fctrTake
  split
  · simp [fctrNew]
  · rename_i hany
    simp only [Bool.not_eq_true', Bool.not_eq_false] at hany
    split
    · simp [fctrNew, hany]
    · rename_i hhigh
      have hold : n < w.high ∧ w.high ≤ n + 64 := by
        simp only [fctrNew, hany, Bool.not_true, Bool.false_or, hhigh, decide_false, Bool.and_eq_true, decide_eq_true_eq] at h
        exact h.1
      have hbit : (w.map ||| 1#64 <<< (w.high - 1 - n)).getLsbD (w.high - 1 - n) = true := by
        simp only [BitVec.getLsbD_or, BitVec.getLsbD_shiftLeft, Nat.sub_self, BitVec.getLsbD_one, Bool.or_eq_true]
        right
        simp
        omega
      simp [fctrNew, hany, hhigh, hbit]

theorem frWin_src (s : State) (src key : Nat) : (frWin s src key).src = src ∧ (frWin s src key).key = key := by
  unfold frWin
  cases hw : s.lnk.wins.find? fun w => w.src == src && w.key == key with
  | none => exact ⟨rfl, rfl⟩
  | some w => simpa using List.find?_some hw

theorem fctrNew_of_wins {f : AcFrame} {s t : State} (h : t.lnk.wins = winsTaken f s)
    (hnew : fctrNew (frWin s f.src f.keysel) f.fctr = true) : fctrNew (frWin t f.src f.keysel) f.fctr = false := by
  have hwin : frWin t f.src f.keysel = fctrTake (frWin s f.src f.keysel) f.fctr := by
    obtain ⟨hsrc, hkey⟩ := fctrTake_src (frWin s f.src f.keysel) f.fctr
    obtain ⟨hsrc', hkey'⟩ := frWin_src s f.src f.keysel
    rw [frWin, h, winsTaken, List.find?_append, List.find?_eq_none.mpr]
    · simp [hsrc, hkey, hsrc', hkey']
    · intro w hw
      simpa only [Bool.not_eq_true', Bool.not_eq_true] using (List.mem_filter.mp hw).2
  rw [hwin]
  exact fctrNew_fctrTake hnew

theorem frame_new {f : AcFrame} {hop : Nat} {q : Fin 48} {c : Instr} {s : State} (hc : TakesFrame f hop q c) (hup : lnkUp s = true)
    (hfor : frameForUs s f = true) (hmic : f.mic = true) (hkey : (netKey s f.keysel).isSome = true)
    (hnew : fctrNew (frWin s f.src f.keysel) f.fctr = true) (hbuf : f.bcast = true ∨ hasBuffer s f = true) :
    Does c s linkParts fun t =>
      t.lnk.wins = (s.lnk.wins.filter fun x => !(x.src == f.src && x.key == f.keysel)) ++ [fctrTake (frWin s f.src f.keysel) f.fctr] ∧
        fctrNew (frWin t f.src f.keysel) f.fctr = false ∧
        t.lnk.acks = if f.bcast then s.lnk.acks else (f.src, f.fseq, 0) :: s.lnk.acks.take 7 := by
  have ha := lnkAccept_new hup hfor hmic hkey hnew hbuf
  obtain ⟨t, hexec, hwins, hacks⟩ := exec_taken hc (s := s) (by rw [ha])
  obtain ⟨u, hu, hupd⟩ := upd_takesFrame hc s
  obtain rfl : t = u := by injection hexec.symm.trans hu
  obtain ⟨m, hm⟩ := frameTaken_eq f s
  rw [hm] at hwins hacks
  exact ⟨t, hexec, hupd, hwins, fctrNew_of_wins hwins hnew, hacks⟩

/-! Messages for another node (18 R630). -/

/-- The queue behind the message's fragments. -/
def queuedTo (m : TxMsg) (q : List TxMsg) : List TxMsg := (fragments m).foldl (fun q x => insertBy (fun y => kindRank y.kind) x q) q

theorem lnkQueue_eq (m : TxMsg) (s : State) : lnkQueue m s = s.modLnk fun l => { l with queue := queuedTo m l.queue } := by
  unfold lnkQueue queuedTo
  generalize fragments m = fs
  induction fs generalizing s with
  | nil => rfl
  | cons x fs ih => rw [List.foldl_cons, ih]; rfl

section
variable {f : AcFrame} {q : Fin 48} {body : List Nat} {c : Instr} {k : Nat} {s : State} (hc : TakesMsg f q c k) (haway : msgAway f body s = true)
include hc haway

theorem exec_away : exec c s = .next (msgOnward k f body (nextHop s f.final) (msgState f s)) := by
  obtain ⟨act, _, hexec⟩ := exec_takesMsg hc
  rw [hexec, takeMsg_away act haway]

theorem away_queued {d : Nat} (hd : nextHop s f.final = some d) (hhops : 2 ≤ f.hops) : Does c s [.phy, .lnk] fun t =>
    Queued { dst := d, kind := k, msgId := f.msgId, orig := f.orig, final := f.final, hops := f.hops - 1, body := body } s t ∧
      t.lnk.dropped = s.lnk.dropped := by
  obtain ⟨ha, _, hone, _⟩ := msgAway_iff.mp haway
  have hexec := exec_away hc haway
  rw [hd] at hexec
  have hqueue : (msgState f s).lnk.queue = s.lnk.queue := msgState_read ha (·.lnk.queue) fun _ _ _ _ _ => rfl
  have hdrop : (msgState f s).lnk.dropped = s.lnk.dropped := msgState_read ha (·.lnk.dropped) fun _ _ _ _ _ => rfl
  have hfwd : forwardTo d k f body (msgState f s) = lnkQueue
      { dst := d, kind := k, msgId := f.msgId, orig := f.orig, final := f.final, hops := f.hops - 1, body := body } (msgState f s) := by
    rw [forwardTo, if_neg (by omega), hone]
  refine ⟨_, hexec, ?_, ?_⟩
  · rw [msgOnward, hfwd]
    exact .comp (upd_lnkQueue ..) rfl (upd_msgState ha)
  · rw [msgOnward, hfwd, lnkQueue_eq]
    unfold Queued
    rw [← hqueue]
    exact ⟨rfl, hdrop⟩

omit hc in
theorem dropped_msgState (reason : Nat) : Upd [.phy, .lnk, .ev, .sen] s (lnkDrop reason f.msgId (msgState f s)) ∧
    (lnkDrop reason f.msgId (msgState f s)).lnk.queue = s.lnk.queue ∧
    (lnkDrop reason f.msgId (msgState f s)).lnk.dropped = inc32 s.lnk.dropped ∧
    (lnkDrop reason f.msgId (msgState f s)).ev = (raise 0x30AA 5 255 (reason * 2 ^ 24 + f.msgId) s).ev := by
  obtain ⟨ha, _⟩ := msgAway_iff.mp haway
  have hqueue : (msgState f s).lnk.queue = s.lnk.queue := msgState_read ha (·.lnk.queue) fun _ _ _ _ _ => rfl
  have hdrop : (msgState f s).lnk.dropped = s.lnk.dropped := msgState_read ha (·.lnk.dropped) fun _ _ _ _ _ => rfl
  have hagree : EventsAgree s (msgState f s) := (upd_msgState ha).eventsAgree rfl rfl rfl rfl
  refine ⟨.comp (upd_lnkDrop ..) rfl ((upd_msgState ha).mono rfl), ?_, ?_, ?_⟩
  · rw [lnkDrop, raise_lnk, ← hqueue]
    rfl
  · rw [lnkDrop, raise_lnk, ← hdrop]
    rfl
  · exact ((hagree.trans ((upd_modLnk ..).eventsAgree rfl rfl rfl rfl)).raise ..).ev

theorem away_hops (hhop : (nextHop s f.final).isSome = true) (hhops : f.hops ≤ 1) : Does c s [.phy, .lnk, .ev, .sen] fun t =>
    t.lnk.queue = s.lnk.queue ∧ t.lnk.dropped = inc32 s.lnk.dropped ∧ t.ev = (raise 0x30AA 5 255 (2 ^ 24 + f.msgId) s).ev := by
  obtain ⟨d, hd⟩ := Option.isSome_iff_exists.mp hhop
  have hexec := exec_away hc haway
  rw [hd] at hexec
  rw [msgOnward, forwardTo, if_pos hhops] at hexec
  have h := dropped_msgState haway 1
  rw [Nat.one_mul] at h
  exact ⟨_, hexec, h⟩

theorem away_lost (hhop : nextHop s f.final = none) : Does c s [.phy, .lnk, .ev, .sen] fun t =>
    t.lnk.queue = s.lnk.queue ∧ t.lnk.dropped = inc32 s.lnk.dropped ∧ t.ev = (raise 0x30AA 5 255 (4 * 2 ^ 24 + f.msgId) s).ev := by
  have hexec := exec_away hc haway
  rw [hhop] at hexec
  exact ⟨_, hexec, dropped_msgState haway 4⟩

end

/-! Reassembly that times out (18 R629). -/

theorem reassembly_timesOut {orig id : Nat} {s : State} (h : ∃ r ∈ s.lnk.reasm, r.orig = orig ∧ r.msgId = id) :
    Does (.reassemblyTimeout orig id) s [.lnk, .ev, .sen] fun t =>
      t.lnk = { s.lnk with
        dropped := inc32 s.lnk.dropped, reasm := s.lnk.reasm.filter fun r => decide (¬ (r.orig = orig ∧ r.msgId = id)) } ∧
        t.ev = (raise 0x30AA 5 255 (3 * 2 ^ 24 + id) s).ev := by
  have hexec : exec (.reassemblyTimeout orig id) s = .next (lnkDrop 3 id (s.modLnk fun l =>
      { l with reasm := l.reasm.filter fun r => !(r.orig == orig && r.msgId == id) })) := by
    change execReassemblyTimeout orig id s = _
    rw [execReassemblyTimeout, if_pos (by simpa using h)]
  refine ⟨_, hexec, .comp (upd_lnkDrop ..) rfl ((upd_modLnk ..).mono rfl), ?_, ?_⟩
  · rw [lnkDrop, raise_lnk]
    have hfilter : (fun r : Reasm => !(r.orig == orig && r.msgId == id)) = fun r => decide (¬ (r.orig = orig ∧ r.msgId = id)) := by
      funext r
      rw [decide_not, Bool.decide_and]
      rfl
    rw [hfilter]
    rfl
  · exact ((((upd_modLnk ..).eventsAgree rfl rfl rfl rfl).trans ((upd_modLnk ..).eventsAgree rfl rfl rfl rfl)).raise ..).ev

theorem reassembly_idles {orig id : Nat} {s : State} (h : ∀ r ∈ s.lnk.reasm, ¬ (r.orig = orig ∧ r.msgId = id)) :
    Idles (.reassemblyTimeout orig id) s := by
  change execReassemblyTimeout orig id s = _
  rw [execReassemblyTimeout, if_neg (by simpa using h)]

/-- Settles O47: every command that takes a frame is refused with the state `lnkAccept` leaves, or goes on from the accepted frame without touching
windows and acknowledgements again. -/
theorem linkFramesAndRouting : Obligations.LinkFramesAndRouting := by
  unfold Obligations.LinkFramesAndRouting
  exact ⟨fun f hop q c s hc h => frame_foreign_idles hc h, fun f hop q c s hc hup hfor h => frame_unauth hc hup hfor h,
    fun f hop q c s hc hup hfor hmic hkey hnew => frame_old hc hup hfor hmic hkey hnew,
    fun f hop q c s hc hup hfor hmic hkey hnew hb hbuf => frame_full hc hup hfor hmic hkey hnew hb hbuf,
    fun f hop q c s hc hup hfor hmic hkey hnew hbuf => frame_new hc hup hfor hmic hkey hnew hbuf,
    fun f q body c k d s hc haway hd hhops => away_queued hc haway hd hhops,
    fun f q body c k s hc haway hhop hhops => away_hops hc haway hhop hhops, fun f q body c k s hc haway hhop => away_lost hc haway hhop,
    fun orig id s h => reassembly_timesOut h, fun orig id s h => reassembly_idles h⟩

end Sys2Proof.Machine
end

section
/-! PROOF. Obligation O48 (18 R616, R617, R623, R632 to R635; 19 R647 to R650). -/

namespace Sys2Proof.Machine

open Host

/-! Orders, their status, and reads over the link (18 R634, R635). -/

section
variable {f : AcFrame} {body : List Nat} {s : State}

theorem msgHere_accepted (h : msgHere f body s = true) : (lnkAccept f s).1 = true := (msgHere_iff.mp h).1

theorem order_delivered (h : msgHere f body s = true) : Does (.orderMsg f) s [.gates, .phy, .lnk] fun t =>
    t.gates = { s.gates with orderInlet := s.gates.orderInlet ++ [msgOrder f body] } ∧
      t.lnk.orders = s.lnk.orders ++ [(f.orig, f.msgId, f.msgId)] ∧ t.lnk.queue = s.lnk.queue := by
  have ha := msgHere_accepted h
  have hexec := exec_orderMsg f s
  rw [takeMsg_here _ h] at hexec
  have hgates : (msgState f s).gates = s.gates := (upd_msgState ha).gates rfl
  have horders : (msgState f s).lnk.orders = s.lnk.orders := msgState_read ha (·.lnk.orders) fun _ _ _ _ _ => rfl
  have hqueue : (msgState f s).lnk.queue = s.lnk.queue := msgState_read ha (·.lnk.queue) fun _ _ _ _ _ => rfl
  refine ⟨_, hexec, .comp (upd_modLnk ..) rfl (.comp (upd_modGates ..) rfl ((upd_msgState ha).mono rfl)), ?_, ?_, hqueue⟩
  · rw [← hgates]
    rfl
  · rw [← horders]
    rfl

/-- The fragments of a broadcast message for these neighbours. -/
def onwardFrags (k : Nat) (f : AcFrame) (body ds : List Nat) : List TxMsg := ds.flatMap fun d =>
  fragments { dst := d, kind := k, msgId := f.msgId, orig := f.orig, final := f.final, bcastFinal := true, hops := f.hops - 1, body := body }

/-- The queue behind these frames. -/
def framesQueued (ms q : List TxMsg) : List TxMsg := ms.foldl (fun q x => insertBy (fun y => kindRank y.kind) x q) q

theorem foldl_forwardTo {k : Nat} (hb : f.bcastFinal = true) (hhops : 2 ≤ f.hops) (ds : List Nat) (s : State) :
    ds.foldl (fun s d => forwardTo d k f body s) s = s.modLnk fun l => { l with queue := framesQueued (onwardFrags k f body ds) l.queue } := by
  induction ds generalizing s with
  | nil => rfl
  | cons d ds ih =>
    rw [List.foldl_cons, ih, forwardTo, if_neg (by omega), lnkQueue_eq, hb]
    simp only [framesQueued, onwardFrags, List.flatMap_cons, List.foldl_append]
    rfl

theorem order_broadcast (h : msgAll f body s = true) (hseen : msgSeen f s = false) (hhops : 2 ≤ f.hops) :
    Does (.orderMsg f) s [.gates, .phy, .lnk] fun t =>
      t.gates = { s.gates with orderInlet := s.gates.orderInlet ++ [msgOrder f body] } ∧ (f.orig, f.msgId, s.clk.bndTot) ∈ t.lnk.dup ∧
        t.lnk.queue = (((treeHops s).filter (· != f.src)).flatMap fun d => fragments
          { dst := d, kind := 6, msgId := f.msgId, orig := f.orig, final := f.final, bcastFinal := true, hops := f.hops - 1, body := body }).foldl
            (fun q x => insertBy (fun y => kindRank y.kind) x q) s.lnk.queue := by
  obtain ⟨ha, hr, hb⟩ := msgAll_iff.mp h
  have hexec := exec_orderMsg f s
  have hgates : (msgState f s).gates = s.gates := (upd_msgState ha).gates rfl
  have hbnd : (msgState f s).clk = s.clk := (upd_msgState ha).clk rfl
  have hqueue : (msgState f s).lnk.queue = s.lnk.queue := msgState_read ha (·.lnk.queue) fun _ _ _ _ _ => rfl
  have hhop : treeHops (msgState f s) = treeHops s := msgState_read ha treeHops fun _ _ _ _ _ => rfl
  have hsame : msgSeen f (msgState f s) = msgSeen f s := msgState_read ha (msgSeen f) fun _ _ _ _ _ => rfl
  rw [takeMsg_whole _ ha hr, msgWhole_all _ hb, hsame, if_neg (by simp [hseen]), foldl_forwardTo hb hhops, hhop] at hexec
  refine ⟨_, hexec, .comp (upd_modLnk ..) rfl (.comp (upd_modGates ..) rfl (.comp (upd_modLnk ..) rfl (.comp (upd_modLnk ..) rfl
    ((upd_msgState ha).mono rfl)))), ?_, ?_, ?_⟩
  · rw [← hgates]
    rfl
  · exact List.mem_append_right _ (by rw [hbnd]; exact List.mem_singleton_self _)
  · rw [← hqueue]
    rfl

theorem message_seen {q : Fin 48} {c : Instr} {k : Nat} (hc : TakesMsg f q c k) (h : msgAll f body s = true) (hseen : msgSeen f s = true) :
    Does c s [.phy, .lnk] fun t => t.lnk.queue = s.lnk.queue ∧ t.lnk.orders = s.lnk.orders ∧ t.lnk.demands = s.lnk.demands := by
  obtain ⟨ha, hr, hb⟩ := msgAll_iff.mp h
  obtain ⟨act, _, hexec⟩ := exec_takesMsg hc
  have hsame : msgSeen f (msgState f s) = msgSeen f s := msgState_read ha (msgSeen f) fun _ _ _ _ _ => rfl
  have hexec := hexec s
  rw [takeMsg_whole _ ha hr, msgWhole_all _ hb, hsame, if_pos hseen] at hexec
  refine ⟨_, hexec, .comp (upd_modLnk ..) rfl (upd_msgState ha), ?_, ?_, ?_⟩
  · exact msgState_read ha (·.lnk.queue) fun _ _ _ _ _ => rfl
  · exact msgState_read ha (·.lnk.orders) fun _ _ _ _ _ => rfl
  · exact msgState_read ha (·.lnk.demands) fun _ _ _ _ _ => rfl

theorem status_delivered (h : msgHere f body s = true) : Does (.orderStatus f) s [.mbus, .phy, .lnk] fun t =>
    t.mbus = if s.mbus.ordMsg = some (natLE (body.take 2)) then { s.mbus with ordResult := body.getD 2 0, ordReason := body.getD 3 0 }
      else s.mbus := by
  have ha := msgHere_accepted h
  have hexec := exec_orderStatus f s
  have hmbus : (msgState f s).mbus = s.mbus := (upd_msgState ha).mbus rfl
  rw [takeMsg_here _ h] at hexec
  unfold statusAct at hexec
  rw [hmbus] at hexec
  split at hexec
  · refine ⟨_, hexec, .comp (upd_modMbus ..) rfl ((upd_msgState ha).mono rfl), ?_⟩
    rw [if_pos (by assumption), ← hmbus]
    rfl
  · refine ⟨_, hexec, (upd_msgState ha).mono rfl, ?_⟩
    rw [if_neg (by assumption)]
    exact hmbus

theorem response_delivered (h : msgHere f body s = true) : Does (.readRsp f) s [.mbus, .phy, .lnk] fun t =>
    t.mbus = if s.mbus.proxyCmd.isSome = true ∧ s.mbus.proxy = some f.orig then { s.mbus with proxyRsp := some body } else s.mbus := by
  have ha := msgHere_accepted h
  have hexec := exec_readRsp f s
  have hmbus : (msgState f s).mbus = s.mbus := (upd_msgState ha).mbus rfl
  rw [takeMsg_here _ h] at hexec
  unfold rspAct at hexec
  rw [hmbus] at hexec
  by_cases hp : s.mbus.proxyCmd.isSome = true ∧ s.mbus.proxy = some f.orig
  · rw [if_pos (by simp [hp])] at hexec
    refine ⟨_, hexec, .comp (upd_modMbus ..) rfl ((upd_msgState ha).mono rfl), ?_⟩
    rw [if_pos hp, ← hmbus]
    rfl
  · rw [if_neg (by simpa using hp)] at hexec
    refine ⟨_, hexec, (upd_msgState ha).mono rfl, ?_⟩
    rw [if_neg hp]
    exact hmbus

theorem readReply_eq {r : List Nat} {u v : State}
    (h : (body.getD 0 0 = 1 ∧ readAnswer f.orig false (natLE ((body.drop 4).take 2)) (body.getD 1 0) v = (r, u)) ∨
      (body.getD 0 0 = 2 ∧ readAnswer f.orig true (natLE ((body.drop 8).take 8)) (body.getD 1 0) v = (r, u)) ∨
      (body.getD 0 0 ≠ 1 ∧ body.getD 0 0 ≠ 2 ∧ respHeader 4 7 (natLE ((body.drop 4).take 2)) (body.getD 1 0) 0 0 0 = r ∧ u = v)) :
    readReply f body v = (r, u) := by
  unfold readReply
  rcases h with ⟨hcmd, hr⟩ | ⟨hcmd, hr⟩ | ⟨h1, h2, hr, hu⟩
  · rw [if_pos hcmd, hr]
  · rw [if_neg (by omega), if_pos hcmd, hr]
  · rw [if_neg h1, if_neg h2, hr, hu]

theorem read_answered {r : List Nat} {d : Nat} {u : State} (h : msgHere f body s = true) (hd : nextHop s f.orig = some d)
    (hr : readReply f body (msgState f s) = (r, u)) : Does (.readReq f) s [.mbus, .phy, .lnk, .ev, .sen, .freeCtr] fun t =>
      Queued { dst := d, kind := 9, msgId := s.lnk.msgNext, orig := nodeId s, final := f.orig, body := r } s t ∧ t.mbus = u.mbus ∧ t.ev = u.ev ∧
        t.lnk.msgNext = (s.lnk.msgNext + 1) % 65536 := by
  have ha := msgHere_accepted h
  have hreply := upd_readReply f body (msgState f s)
  rw [hr] at hreply
  have hhop : nextHop u f.orig = some d := by
    rw [hreply.read (nextHop · f.orig) fun _ => rfl, ← hd]
    exact msgState_read ha (nextHop · f.orig) fun _ _ _ _ _ => rfl
  have hnode : nodeId u = nodeId s := (hreply.read nodeId fun _ => rfl).trans (msgState_node ha)
  have hnext : u.lnk.msgNext = s.lnk.msgNext := by
    rw [hreply.lnk rfl]
    exact msgState_read ha (·.lnk.msgNext) fun _ _ _ _ _ => rfl
  have hqueue : u.lnk.queue = s.lnk.queue := by
    rw [hreply.lnk rfl]
    exact msgState_read ha (·.lnk.queue) fun _ _ _ _ _ => rfl
  have hexec := exec_readReq f s
  rw [takeMsg_here _ h, readAct, hr] at hexec
  dsimp only at hexec
  rw [lnkSend, hhop] at hexec
  dsimp only at hexec
  rw [lnkQueue_eq, hnode, hnext] at hexec
  refine ⟨_, hexec, .comp (upd_modLnk ..) rfl (.comp (upd_modLnk ..) rfl (.comp hreply rfl ((upd_msgState ha).mono rfl))), ?_, rfl, rfl, rfl⟩
  unfold Queued
  rw [← hqueue]
  rfl

theorem proxy_timesOut (hcmd : s.mbus.proxyCmd.isSome = true) (hrsp : s.mbus.proxyRsp = none) : Does .proxyReadTimeout s [.mbus] fun t =>
    t.mbus = { s.mbus with proxyRsp := some (4 :: 6 :: List.replicate 14 0) } := by
  have hexec : exec .proxyReadTimeout s = .next (s.modMbus fun m => { m with proxyRsp := some (respHeader 4 6 0 0 0 0 0) }) := by
    change execProxyReadTimeout s = _
    rw [execProxyReadTimeout, if_pos (by simp [hcmd, hrsp])]
  have hheader : respHeader 4 6 0 0 0 0 0 = 4 :: 6 :: List.replicate 14 0 := by decide
  refine ⟨_, hexec, upd_modMbus .., ?_⟩
  rw [hheader]
  rfl

theorem proxy_idles (h : s.mbus.proxyCmd = none ∨ s.mbus.proxyRsp.isSome = true) : Idles .proxyReadTimeout s := by
  change execProxyReadTimeout s = _
  rw [execProxyReadTimeout, if_neg]
  rcases h with h | h
  · simp [h]
  · obtain ⟨r, hr⟩ := Option.isSome_iff_exists.mp h
    simp [hr]

end

end Sys2Proof.Machine
end

section
/-! PROOF. Obligation O48 (18 R616, R617, R623, R632 to R635; 19 R647 to R650), continued: collection and bundles. -/

namespace Sys2Proof.Machine

open Host

/-! A record kept, a count seen, a claim announced (18 R616, R617, R632). -/

theorem keepDemand_eq (d : Demand) (s : State) : ∃ ds, keepDemand d s = s.modLnk fun l => { l with demands := ds } := by
  unfold keepDemand State.modLnk
  dsimp only
  split
  · exact ⟨s.lnk.demands, rfl⟩
  · exact ⟨_, rfl⟩

theorem keepDemand_held (d : Demand) (hd : d.acked = false) (s : State) :
    ((keepDemand d s).lnk.demands.any fun x => { x with acked := false } == d) = true := by
  unfold keepDemand
  rw [State.modLnk_lnk]
  split
  · rename_i h
    obtain ⟨x, hx, hsame⟩ := List.any_eq_true.mp h
    simp only [Bool.and_eq_true] at hsame
    exact List.any_eq_true.mpr ⟨x, hx, hsame.2⟩
  · refine List.any_eq_true.mpr ⟨d, by simp, ?_⟩
    rw [beq_iff_eq, ← hd]

/-- The counts c and n are those that a node's count leaves (18 R617). -/
def CountTaken (seen : Nat) (s : State) (c : Int) (n : Nat) : Prop :=
  (estCount s + 2 ^ 32 < seen → c = s.lnk.countDiff ∧ n = s.lnk.countSeen) ∧
    (seen ≤ estCount s + 2 ^ 32 → s.lnk.st ≠ .coord → n = max s.lnk.countSeen seen) ∧
    (seen ≤ estCount s + 2 ^ 32 → s.lnk.st = .coord → s.clk.count < seen → c = max s.lnk.countDiff ((seen : Int) - s.clk.count))

theorem takeCountSeen_lnk (node seen : Nat) (s : State) :
    ∃ c n, (takeCountSeen node seen s).lnk = { s.lnk with countDiff := c, countSeen := n } ∧ CountTaken seen s c n := by
  by_cases hfar : estCount s + 2 ^ 32 < seen
  · refine ⟨s.lnk.countDiff, s.lnk.countSeen, ?_, fun _ => ⟨rfl, rfl⟩, fun h => by omega, fun h => by omega⟩
    rw [takeCountSeen, if_pos hfar, raise_lnk]
  · by_cases hst : s.lnk.st = .coord
    · by_cases hcount : s.clk.count < seen
      · refine ⟨max s.lnk.countDiff ((seen : Int) - s.clk.count), s.lnk.countSeen, ?_, fun h => absurd h hfar, fun _ h => absurd hst h,
          fun _ _ _ => rfl⟩
        rw [takeCountSeen, if_neg hfar, if_pos hst, if_pos hcount]
        rfl
      · refine ⟨s.lnk.countDiff, s.lnk.countSeen, ?_, fun h => absurd h hfar, fun _ h => absurd hst h, fun _ _ h => absurd h hcount⟩
        rw [takeCountSeen, if_neg hfar, if_pos hst, if_neg hcount]
    · refine ⟨s.lnk.countDiff, max s.lnk.countSeen seen, ?_, fun h => absurd h hfar, fun _ _ => rfl, fun _ h => absurd h hst⟩
      rw [takeCountSeen, if_neg hfar, if_neg hst]
      rfl

theorem takeCountSeen_agree (node seen : Nat) {s t u : State} (h : EventsAgree s t) (hest : estCount t = estCount u) :
    EventsAgree (raiseIf (decide (estCount u + 2 ^ 32 < seen)) 0x30AC 5 255 (node * 2 ^ 24) s) (takeCountSeen node seen t) := by
  unfold takeCountSeen
  rw [hest]
  have hmod : ∀ f, EventsAgree s (t.modLnk f) := fun f => h.trans ((upd_modLnk f t).eventsAgree rfl rfl rfl rfl)
  by_cases hfar : estCount u + 2 ^ 32 < seen
  · have hevent : raiseIf (decide (estCount u + 2 ^ 32 < seen)) 0x30AC 5 255 (node * 2 ^ 24) s = raise 0x30AC 5 255 (node * 2 ^ 24) s :=
      if_pos (decide_eq_true hfar)
    rw [if_pos hfar, hevent]
    exact h.raise ..
  · have hnone : raiseIf (decide (estCount u + 2 ^ 32 < seen)) 0x30AC 5 255 (node * 2 ^ 24) s = s :=
      if_neg (by simpa using hfar)
    rw [if_neg hfar, hnone]
    split
    · split
      · exact hmod _
      · exact h
    · exact hmod _

theorem announceClaim_eq (claimant : Nat) (s : State) : ∃ n, announceClaim claimant s = s.modLnk fun l =>
    { l with
      handover := if s.lnk.st = .coord ∧ claimant < nodeId s ∧ s.lnk.handover = none then some (s.clk.count / 64 + 2, claimant) else s.lnk.handover
      nextCoord := n } := by
  unfold announceClaim
  by_cases h : s.lnk.st = .coord ∧ claimant < nodeId s ∧ s.lnk.handover = none
  · refine ⟨claimant, ?_⟩
    rw [if_pos (by simp [h]), if_pos h]
  · refine ⟨s.lnk.nextCoord, ?_⟩
    rw [if_neg (by simpa using h), if_neg h]
    rfl

section
variable {f : AcFrame} {body : List Nat} {s : State}

theorem demandOfBytes_new (e : Nat) (bs : List Nat) : (demandOfBytes e bs).acked = false := rfl

theorem nearEpoch_congr {t : State} (h : t.clk = s.clk) : nearEpoch t = nearEpoch s := by
  funext low
  rw [nearEpoch, nearEpoch, h]

/-- What a COLLECT of one record leaves of the link. -/
theorem collectAct_one {d : Demand} (hone : body.getD 9 0 = 1)
    (hd : d = demandOfBytes (nearEpoch s (natLE ((body.drop 10).take 4))) ((body.drop 14).take 8)) : ∃ t ds,
    collectAct f body s = announceClaim (min s.lnk.claimant (body.getD 8 255)) (takeCountSeen f.src (natLE (body.take 8)) t) ∧
    Upd [.lnk] s t ∧ t.lnk = { s.lnk with
      demands := ds, claimant := min s.lnk.claimant (body.getD 8 255)
      children := (s.lnk.children.filter fun c => c.node != d.node) ++ [Child.mk d.node f.src (s.clk.count / 64)] } ∧
    (ds.any fun x => { x with acked := false } == d) = true := by
  have hrecs : collectRecs body s = [d] := by
    rw [collectRecs, hone, hd]
    rfl
  have hheld := keepDemand_held d (by rw [hd]; exact demandOfBytes_new ..) s
  obtain ⟨ds, hds⟩ := keepDemand_eq d s
  rw [hds] at hheld
  refine ⟨childrenTaken f body [d] (s.modLnk fun l => { l with demands := ds }), ds, ?_, .comp (upd_modLnk ..) rfl (upd_modLnk ..), rfl, hheld⟩
  rw [collectAct, hrecs, List.foldl_cons, List.foldl_nil, hds]
  rfl

theorem collect_delivered {d : Demand} {seen : Nat} (h : msgHere f body s = true) (hone : body.getD 9 0 = 1)
    (hd : d = demandOfBytes (nearEpoch s (natLE ((body.drop 10).take 4))) ((body.drop 14).take 8)) (hseen : seen = natLE (body.take 8)) :
    Does (.collectMsg f) s [.phy, .lnk, .ev, .sen] fun t =>
      (t.lnk.demands.any fun x => { x with acked := false } == d) = true ∧
        t.lnk.children = (s.lnk.children.filter fun c => c.node != d.node) ++ [Child.mk d.node f.src (s.clk.count / 64)] ∧
        t.lnk.claimant = min s.lnk.claimant (body.getD 8 255) ∧
        t.lnk.handover = (if s.lnk.st = .coord ∧ min s.lnk.claimant (body.getD 8 255) < nodeId s ∧ s.lnk.handover = none then
          some (s.clk.count / 64 + 2, min s.lnk.claimant (body.getD 8 255)) else s.lnk.handover) ∧
        t.ev = (raiseIf (decide (estCount s + 2 ^ 32 < seen)) 0x30AC 5 255 (f.src * 2 ^ 24) s).ev ∧
        (estCount s + 2 ^ 32 < seen → t.lnk.countDiff = s.lnk.countDiff ∧ t.lnk.countSeen = s.lnk.countSeen) ∧
        (seen ≤ estCount s + 2 ^ 32 → s.lnk.st ≠ .coord → t.lnk.countSeen = max s.lnk.countSeen seen) ∧
        (seen ≤ estCount s + 2 ^ 32 → s.lnk.st = .coord → s.clk.count < seen →
          t.lnk.countDiff = max s.lnk.countDiff ((seen : Int) - s.clk.count)) := by
  have ha := msgHere_accepted h
  have hexec := exec_collectMsg f s
  rw [takeMsg_here _ h] at hexec
  have hm := upd_msgState ha
  have hclk : (msgState f s).clk = s.clk := hm.clk rfl
  have hest : estCount (msgState f s) = estCount s := msgState_read ha estCount fun _ _ _ _ _ => rfl
  have hst : (msgState f s).lnk.st = s.lnk.st := msgState_read ha (·.lnk.st) fun _ _ _ _ _ => rfl
  have hdiff : (msgState f s).lnk.countDiff = s.lnk.countDiff := msgState_read ha (·.lnk.countDiff) fun _ _ _ _ _ => rfl
  have hcs : (msgState f s).lnk.countSeen = s.lnk.countSeen := msgState_read ha (·.lnk.countSeen) fun _ _ _ _ _ => rfl
  have hcl : (msgState f s).lnk.claimant = s.lnk.claimant := msgState_read ha (·.lnk.claimant) fun _ _ _ _ _ => rfl
  have hch : (msgState f s).lnk.children = s.lnk.children := msgState_read ha (·.lnk.children) fun _ _ _ _ _ => rfl
  have hho : (msgState f s).lnk.handover = s.lnk.handover := msgState_read ha (·.lnk.handover) fun _ _ _ _ _ => rfl
  have hnode : nodeId (msgState f s) = nodeId s := msgState_node ha
  have hnear : nearEpoch (msgState f s) = nearEpoch s := nearEpoch_congr hclk
  have hd' : d = demandOfBytes (nearEpoch (msgState f s) (natLE ((body.drop 10).take 4))) ((body.drop 14).take 8) := by rw [hnear]; exact hd
  obtain ⟨t, ds, ht, hupd, hlnk, hheld⟩ := collectAct_one (f := f) (s := msgState f s) hone hd'
  rw [hcl] at ht
  rw [hcl, hch, hclk] at hlnk
  have hest' : estCount t = estCount s := by rw [← hest, estCount, estCount, hupd.clk rfl, hlnk]
  have hagree : EventsAgree s t := (hm.eventsAgree rfl rfl rfl rfl).trans (hupd.eventsAgree rfl rfl rfl rfl)
  obtain ⟨c, n, hcount, htaken⟩ := takeCountSeen_lnk f.src (natLE (body.take 8)) t
  have hseenUpd := upd_takeCountSeen f.src (natLE (body.take 8)) t
  have hnode' : nodeId (takeCountSeen f.src (natLE (body.take 8)) t) = nodeId s :=
    (hseenUpd.read nodeId fun _ => rfl).trans ((hupd.read nodeId fun _ => rfl).trans hnode)
  have hclk' : t.clk = s.clk := (hupd.clk rfl).trans hclk
  obtain ⟨m, hclaim⟩ := announceClaim_eq (min s.lnk.claimant (body.getD 8 255)) (takeCountSeen f.src (natLE (body.take 8)) t)
  rw [ht, hclaim, hcount, hseenUpd.clk rfl, hclk', hnode', hlnk, hst, hho] at hexec
  rw [CountTaken, hest', hclk', hlnk, hst, hdiff, hcs, ← hseen] at htaken
  obtain ⟨hfar, hup, hco⟩ := htaken
  have hev := (takeCountSeen_agree f.src seen hagree hest').ev
  rw [← hseen] at hexec hcount
  refine ⟨_, hexec, .comp (upd_modLnk ..) rfl (.comp (upd_takeCountSeen ..) rfl (.comp hupd rfl (hm.mono rfl))), ?_⟩
  beta_reduce
  rw [State.modLnk_lnk, State.modLnk_ev, hcount, hlnk]
  exact ⟨hheld, rfl, rfl, rfl, hev, hfar, hup, hco⟩

end

/-! The allocation of a bundle held (19 R647 to R650). -/

theorem demandGood_congr {s t : State} (h : feederPay t = feederPay s) : demandGood t = demandGood s := by
  funext r
  rw [demandGood, demandGood, feederOf, feederOf, h]

theorem feederRecs_congr {s t : State} (h : feederPay t = feederPay s) : feederRecs t = feederRecs s := by
  funext k rs
  rw [feederRecs, feederRecs, demandGood_congr h]

theorem allocFeeder_congr {s t : State} (h : feederPay t = feederPay s) : allocFeeder t = allocFeeder s := by
  funext k rs
  unfold allocFeeder
  rw [h, feederRecs_congr h]

/-- The runs of clipped demands of a record change, and the rest of the sharing stands. -/
theorem recordEvents_h (rs : List Demand) (s : State) : (recordEvents rs s).share.h = s.share.h := by
  unfold recordEvents
  refine List.foldlRecOn (motive := fun (t : State) => t.share.h = s.share.h) rs _ rfl fun t ht r _ => ?_
  dsimp only
  split
  · rw [raise_share]
    exact ht
  · refine List.foldlRecOn (motive := fun (t : State) => t.share.h = s.share.h) (List.range 3) _ ht fun t ht x _ => ?_
    split
    · rw [raiseIf_share]
      exact ht
    · exact ht

theorem holdBundle_open {e : Nat} (ds : List Demand) {s : State} (h : s.lnk.cancelEpoch.map (· % 2 ^ 32) ≠ some (e % 2 ^ 32)) :
    holdBundle e ds s = allocCompute e ds (s.modLnk fun l => { l with bundle := some (e, ds), bundleEpoch := e % 2 ^ 32 }) := by
  rw [holdBundle, if_neg h]

theorem holdBundle_segs (e : Nat) (ds : List Demand) (s : State) :
    (holdBundle e ds s).lnk.bundleOut = s.lnk.bundleOut ∧ (holdBundle e ds s).lnk.bundleIn = s.lnk.bundleIn := by
  unfold holdBundle
  split
  · exact ⟨rfl, rfl⟩
  · rw [(upd_allocCompute ..).lnk rfl]
    exact ⟨rfl, rfl⟩

theorem bundleHeld_holdBundle {e : Nat} (ds : List Demand) {s u : State} (hu : Upd [.phy, .lnk] s u)
    (h : u.lnk.cancelEpoch.map (· % 2 ^ 32) ≠ some (e % 2 ^ 32)) : BundleHeld e ds s (holdBundle e ds u) := by
  rw [holdBundle_open ds h]
  generalize hv : (u.modLnk fun l => { l with bundle := some (e, ds), bundleEpoch := e % 2 ^ 32 }) = v
  have huv : Upd [.phy, .lnk] s v := by
    rw [← hv]
    exact .comp (upd_modLnk ..) rfl hu
  have hevents : Upd [.phy, .lnk, .share, .ev, .sen] s (recordEvents ds v) := .comp (upd_recordEvents ..) rfl (huv.mono rfl)
  have hpay : feederPay (recordEvents ds v) = feederPay s := hevents.read feederPay fun _ => rfl
  have hown : ownFeeder (recordEvents ds v) = ownFeeder s := hevents.read ownFeeder fun _ => rfl
  have hlnk : (allocCompute e ds v).lnk = v.lnk := (upd_allocCompute ..).lnk rfl
  refine ⟨?_, ?_, rfl, ?_, ?_, ?_⟩
  · rw [hlnk, ← hv]
    rfl
  · rw [hlnk, ← hv]
    rfl
  · rw [← allocFeeder_congr hpay, ← hown]
    rfl
  · rw [← feederRecs_congr hpay, ← hown]
    rfl
  · exact (recordEvents_h ds v).trans (by rw [huv.share rfl])

/-! The bundle closed and its segments sent (18 R632, R633). -/

section
variable {e : Nat} {ds : List Demand} {b : List Nat} {s : State}

/-- The segments of a bundle. -/
def bundleSegs (b : List Nat) : List (Nat × List Nat) := (List.range ((b.length + 999) / 1000)).map fun g => (g, (b.drop (1000 * g)).take 1000)

/-- The segments of the bundle wait to be sent. -/
def bundleClosed (b : List Nat) (s : State) : State := s.modLnk fun l => { l with bundleOut := bundleSegs b }

theorem bundle_closes (hup : lnkUp s = true) (hst : s.lnk.st = .coord) (hcount : s.clk.count = 64 * (e + 1) + 32)
    (hds : ds = sortBy (·.node) (s.lnk.demands.filter fun d => d.epoch == e)) (hb : b = bundleBytes e ds)
    (hcancel : s.lnk.cancelEpoch.map (· % 2 ^ 32) ≠ some (e % 2 ^ 32)) (hnew : s.lnk.bundle.map (·.1) ≠ some e) :
    Does .bundleClose s [.lnk, .share, .ev, .sen] fun t =>
      BundleHeld e ds s t ∧ t.lnk.bundleOut = (List.range ((b.length + 999) / 1000)).map fun g => (g, (b.drop (1000 * g)).take 1000) := by
  have hepoch : s.clk.count / 64 - 1 = e := by omega
  have hslot : s.clk.count % 64 = 32 := by omega
  have hexec : exec .bundleClose s = .next (holdBundle e ds (bundleClosed b s)) := by
    change execBundleClose s = _
    unfold execBundleClose
    rw [hepoch, if_neg (by simp [hup, hst, hnew, hslot, hcancel, -Option.map_eq_some_iff, -Nat.reducePow]), hb, hds]
    rfl
  have hu : Upd [.lnk] s (bundleClosed b s) := upd_modLnk ..
  refine ⟨_, hexec, .comp (upd_holdBundle ..) rfl (hu.mono rfl), bundleHeld_holdBundle ds (hu.mono rfl) hcancel, ?_⟩
  exact (holdBundle_segs ..).1

theorem bundleClose_idles (h : lnkUp s = false ∨ s.lnk.st ≠ .coord ∨ s.clk.count % 64 ≠ 32 ∨
    s.lnk.cancelEpoch.map (· % 2 ^ 32) = some ((s.clk.count / 64 - 1) % 2 ^ 32) ∨ s.lnk.bundle.map (·.1) = some (s.clk.count / 64 - 1)) :
    Idles .bundleClose s := by
  change execBundleClose s = _
  unfold execBundleClose
  dsimp only
  rw [if_pos]
  rcases h with h | h | h | h | h <;> simp [h, -Option.map_eq_some_iff, -Nat.reducePow]

variable {g : Fin 3}

/-- The segment leaves those to be sent. -/
def segmentOut (g : Fin 3) (s : State) : State := s.modLnk fun l => { l with bundleOut := l.bundleOut.filter fun x => x.1 != g.val }

theorem segment_sent {x n : Nat} (hb : kget? g.val s.lnk.bundleOut = some b) (hup : lnkUp s = true) (hst : s.lnk.st = .coord)
    (hslot : estCount s / 4 % 16 = 8 + g.val) (hopen : txOpen x n s = true) :
    Does (.bundleSegmentSend g) s [.phy, .lnk] fun t =>
      BroadcastSent 1 (estCount s / 4) x n
        { kind := 2, orig := nodeId s, bcastFinal := true, hops := 0, frag := g.val,
          last := s.lnk.bundleOut.all (fun x => decide (x.1 ≤ g.val)), flood := true, body := b } s t ∧
        t.lnk.bundleOut = s.lnk.bundleOut.filter fun x => x.1 != g.val := by
  have hopen' : txOpen x n (segmentOut g s) = true := hopen
  have hexec : exec (.bundleSegmentSend g) s = .next (broadcastSent 1 (estCount s / 4) x n
      { kind := 2, orig := nodeId s, bcastFinal := true, hops := 0, frag := g.val,
        last := s.lnk.bundleOut.all (fun x => decide (x.1 ≤ g.val)), flood := true, body := b } (segmentOut g s)) := by
    rw [← sendBroadcast_open hopen']
    change execBundleSegmentSend g s = _
    unfold execBundleSegmentSend
    rw [hb]
    dsimp only
    rw [if_neg (by simp [hup, hst, hslot])]
    rfl
  have hu : Upd [.lnk] s (segmentOut g s) := upd_modLnk ..
  refine ⟨_, hexec, .comp (upd_broadcastSent ..) rfl (hu.mono rfl), (broadcastSent_holds ..).of_link hu rfl rfl, ?_⟩
  obtain ⟨_, _, _, _, _, _, hdrawn⟩ := fctrDrawn_lnk x n (segmentOut g s)
  exact (congrArg Lnk.bundleOut hdrawn :)

theorem segment_idles (h : kget? g.val s.lnk.bundleOut = none ∨ lnkUp s = false ∨ s.lnk.st ≠ .coord ∨ estCount s / 4 % 16 ≠ 8 + g.val) :
    Idles (.bundleSegmentSend g) s := by
  change execBundleSegmentSend g s = _
  unfold execBundleSegmentSend
  cases hb : kget? g.val s.lnk.bundleOut with
  | none => rfl
  | some b =>
    dsimp only
    rw [if_pos]
    rcases h with h | h | h | h
    · simp [hb] at h
    all_goals simp [h]

end

/-! Bundle segments taken (18 R606, R633). -/

section
variable {f : AcFrame} {s : State}

theorem upd_segRelayed (f : AcFrame) (s : State) : Upd [.phy] s (segRelayed f s) := by
  unfold segRelayed
  split
  · exact upd_relayFrame ..
  · exact .refl ..

/-- The segment is in reception. -/
def segHeld (f : AcFrame) (s : State) : State := (segRelayed f s).modLnk fun l => { l with bundleIn := segsWith f s }

theorem upd_segHeld (f : AcFrame) (s : State) : Upd [.phy, .lnk] s (segHeld f s) := .comp (upd_modLnk ..) rfl ((upd_segRelayed f s).mono rfl)

theorem segTaken_eq (f : AcFrame) (s : State) : segTaken f s =
    let e := nearEpoch s (natLE (((segsWith f s).flatMap (·.2)).take 4))
    if segsWhole (segsWith f s) then
      holdBundle e (bundleRecs e ((segsWith f s).flatMap (·.2))) ((segHeld f s).modLnk fun l => { l with bundleIn := [] })
    else segHeld f s := by
  have hsegs : segsWith f (segRelayed f s) = segsWith f s := by rw [segsWith, segsWith, (upd_segRelayed f s).lnk rfl]
  have hnear : nearEpoch (segHeld f s) = nearEpoch s := nearEpoch_congr ((upd_segHeld f s).clk rfl)
  unfold segTaken
  rw [hsegs]
  dsimp only
  rw [← hnear]
  rfl

variable (h : (lnkAccept f s).1 = true)
include h

omit h in
theorem segsWith_taken : segsWith f (frameTaken f s) = segsWith f s := frameTaken_read f (segsWith f) fun _ _ _ _ => rfl

theorem exec_bundleSeg_eq : exec (.bundleSeg f) s = .next (
    let e := nearEpoch s (natLE (((segsWith f s).flatMap (·.2)).take 4))
    if segsWhole (segsWith f s) then
      holdBundle e (bundleRecs e ((segsWith f s).flatMap (·.2))) ((segHeld f (frameTaken f s)).modLnk fun l => { l with bundleIn := [] })
    else segHeld f (frameTaken f s)) := by
  rw [exec_bundleSeg h, segTaken_eq, segsWith_taken, nearEpoch_congr ((upd_frameTaken f s).clk rfl)]

theorem bundle_taken {e : Nat} {b : List Nat} (hwhole : segsWhole (segsWith f s) = true) (hb : b = (segsWith f s).flatMap (·.2))
    (he : e = nearEpoch s (natLE (b.take 4))) (hcancel : s.lnk.cancelEpoch.map (· % 2 ^ 32) ≠ some (e % 2 ^ 32)) :
    Does (.bundleSeg f) s [.phy, .lnk, .share, .ev, .sen] fun t => BundleHeld e (bundleRecs e b) s t ∧ t.lnk.bundleIn = [] := by
  have hexec := exec_bundleSeg_eq h
  dsimp only at hexec
  rw [if_pos hwhole, ← hb, ← he] at hexec
  have hu : Upd [.phy, .lnk] s ((segHeld f (frameTaken f s)).modLnk fun l => { l with bundleIn := [] }) :=
    .comp (upd_modLnk ..) rfl (.comp (upd_segHeld ..) rfl (upd_frameTaken f s))
  have hheld : (segHeld f (frameTaken f s)).lnk.cancelEpoch = s.lnk.cancelEpoch :=
    (congrArg Lnk.cancelEpoch ((upd_segRelayed ..).lnk rfl)).trans (frameTaken_read f (·.lnk.cancelEpoch) fun _ _ _ _ => rfl)
  refine ⟨_, hexec, .comp (upd_holdBundle ..) rfl (hu.mono rfl), bundleHeld_holdBundle _ hu ?_, (holdBundle_segs ..).2⟩
  rw [State.modLnk_lnk, hheld]
  exact hcancel

theorem segment_taken (hpart : segsWhole (segsWith f s) = false) :
    Does (.bundleSeg f) s [.phy, .lnk] fun t => t.lnk.bundleIn = segsWith f s ∧ t.lnk.bundle = s.lnk.bundle := by
  have hexec := exec_bundleSeg_eq h
  dsimp only at hexec
  rw [if_neg (by simp [hpart])] at hexec
  refine ⟨_, hexec, .comp (upd_segHeld ..) rfl (upd_frameTaken f s), segsWith_taken, ?_⟩
  exact (congrArg Lnk.bundle ((upd_segRelayed ..).lnk rfl)).trans (frameTaken_read f (·.lnk.bundle) fun _ _ _ _ => rfl)

theorem segment_relayed {n : Nat} (hst : s.lnk.st = .joined) (hrelay : cfg s 0x60 0 0 95 95 = 1) (hlow : 1 ≤ s.lnk.epochDepth)
    (hhigh : s.lnk.epochDepth ≤ 5) (hkey : netKey s f.keysel = some n) : Does (.bundleSeg f) s [.phy, .lnk, .share, .ev, .sen] fun t =>
      txRequest s 1 f.src 0 (floodCoupler (estCount s / 4)) n
        { bcast := true, kind := 2, msgId := f.msgId, orig := f.orig, final := f.final, bcastFinal := f.bcastFinal, hops := f.hops,
          fctr := f.fctr, keysel := f.keysel, frag := f.frag, last := f.last, flood := true, body := f.body } ∈ t.phy.tx := by
  have hframe := upd_frameTaken f s
  have hst' : (frameTaken f s).lnk.st = s.lnk.st := frameTaken_read f (·.lnk.st) fun _ _ _ _ => rfl
  have hdepth : (frameTaken f s).lnk.epochDepth = s.lnk.epochDepth := frameTaken_read f (·.lnk.epochDepth) fun _ _ _ _ => rfl
  have hcfg : cfg (frameTaken f s) 0x60 0 0 95 95 = cfg s 0x60 0 0 95 95 := hframe.read (cfg · 0x60 0 0 95 95) fun _ => rfl
  have hest : estCount (frameTaken f s) = estCount s := frameTaken_read f estCount fun _ _ _ _ => rfl
  have hnet : netKey (frameTaken f s) f.keysel = netKey s f.keysel := hframe.read (netKey · f.keysel) fun _ => rfl
  have hsent : segRelayed f (frameTaken f s) = phyReq (txRequest s 1 f.src 0 (floodCoupler (estCount s / 4)) n
      { bcast := true, kind := 2, msgId := f.msgId, orig := f.orig, final := f.final, bcastFinal := f.bcastFinal, hops := f.hops,
        fctr := f.fctr, keysel := f.keysel, frag := f.frag, last := f.last, flood := true, body := f.body }) (frameTaken f s) := by
    rw [segRelayed, hst', hdepth, hcfg, if_pos (by simp [hst, hrelay, hlow, hhigh]), relayFrame, hnet, hkey, hest]
    dsimp only
    rw [txRequest_robo (hframe.mono rfl)]
  have hexec := exec_bundleSeg_eq h
  dsimp only at hexec
  have hin : ∀ u : State, u.phy = (segHeld f (frameTaken f s)).phy → txRequest s 1 f.src 0 (floodCoupler (estCount s / 4)) n
        { bcast := true, kind := 2, msgId := f.msgId, orig := f.orig, final := f.final, bcastFinal := f.bcastFinal, hops := f.hops,
          fctr := f.fctr, keysel := f.keysel, frag := f.frag, last := f.last, flood := true, body := f.body } ∈ u.phy.tx := by
    intro u hu
    rw [hu, segHeld, hsent]
    exact List.mem_append_right _ (List.mem_singleton_self _)
  have hheld : Upd [.phy, .lnk] s (segHeld f (frameTaken f s)) := .comp (upd_segHeld ..) rfl hframe
  split at hexec
  · refine ⟨_, hexec, .comp (upd_holdBundle ..) rfl (.comp (upd_modLnk ..) rfl (hheld.mono rfl)), hin _ ?_⟩
    rw [(upd_holdBundle ..).phy rfl]
    rfl
  · exact ⟨_, hexec, hheld.mono rfl, hin _ rfl⟩

end

/-- Settles O48, kind by kind: a message that has come to its hub acts on the state with its frame accepted and its buffer gone, which reads as the
one before it. -/
theorem linkMessagesAndBundles : Obligations.LinkMessagesAndBundles := by
  unfold Obligations.LinkMessagesAndBundles
  exact ⟨fun f body s h => order_delivered h, fun f body s h hseen hhops => order_broadcast h hseen hhops,
    fun f q body c k s hc h hseen => message_seen hc h hseen, fun f body s h => status_delivered h,
    fun f body r d u s h hd hr => read_answered h hd (readReply_eq hr), fun f body s h => response_delivered h,
    fun s hcmd hrsp => proxy_timesOut hcmd hrsp, fun s h => proxy_idles h,
    fun f body d seen s h hone hd hseen => collect_delivered h hone hd hseen,
    fun e ds b s hup hst hcount hds hb hcancel hnew => bundle_closes hup hst hcount hds hb hcancel hnew, fun s h => bundleClose_idles h,
    fun g b x n s hb hup hst hslot hopen => segment_sent hb hup hst hslot hopen, fun g s h => segment_idles h,
    fun f e b s h hwhole hb he hcancel => bundle_taken h hwhole hb he hcancel, fun f s h hpart => segment_taken h hpart,
    fun f n s h hst hrelay hlow hhigh hkey => segment_relayed h hst hrelay hlow hhigh hkey⟩

end Sys2Proof.Machine
end

section
/-! PROOF. Obligation O49 (18 R608, R611, R621, R624 to R629, R632). -/

namespace Sys2Proof.Machine

open Host

/-! Neighbour entries changed (18 R620). -/

section
variable {node : Nat} {f : Neigh → Neigh} (hf : ∀ n, (f n).node = n.node)
include hf

theorem find?_map_node (l : List Neigh) (k : Nat) : (l.map fun n => if n.node == node then f n else n).find? (·.node == k) =
    (l.find? (·.node == k)).map fun n => if n.node == node then f n else n := by
  rw [List.find?_map]
  congr 2
  funext n
  dsimp only [Function.comp]
  split <;> simp [hf]

theorem neighOf_modNeigh_same (s : State) : neighOf (modNeigh node f s) node = (neighOf s node).map f := by
  refine (find?_map_node hf s.lnk.neigh node).trans ?_
  rw [neighOf]
  cases hn : s.lnk.neigh.find? (·.node == node) with
  | none => rfl
  | some n =>
    have hnode := List.find?_some hn
    simp only [Option.map_some, hnode, if_true]

end

/-! The backoff (18 R627). -/

/-- The state once the backoff is known. -/
def backoffState (s : State) : State := if s.lnk.backoff = none ∧ drbgOk s = true then s.modFreeCtr (· + 1) else s

theorem upd_backoffState (s : State) : Upd [.freeCtr] s (backoffState s) := by
  unfold backoffState
  split
  · exact upd_modFreeCtr ..
  · exact .refl ..

theorem backoffState_freeCtr (s : State) :
    (backoffState s).freeCtr = s.freeCtr + (if s.lnk.backoff = none ∧ drbgOk s = true then 1 else 0) := by
  unfold backoffState
  split <;> rfl

/-- The frozen backoff, or one drawn. -/
def backoffDrawn (s : State) : Nat × State :=
  match s.lnk.backoff with
  | some b => (b, s)
  | none => if drbgOk s then
      let r := drbgDraw 6 s
      (r.1 % s.lnk.cw, r.2)
    else (0, s)

theorem backoffDrawn_eq {b : Nat} {s : State} (h : BackoffIs b s) : backoffDrawn s = (b, backoffState s) := by
  rcases h with hb | ⟨hb, hok, hval⟩ | ⟨hb, hok, hval⟩
  · have hstate : backoffState s = s := if_neg (by simp [hb])
    rw [backoffDrawn, hb, hstate]
  · have hstate : backoffState s = s.modFreeCtr (· + 1) := if_pos ⟨hb, hok⟩
    rw [backoffDrawn, hb, hstate, hval]
    dsimp only
    rw [if_pos hok]
    rfl
  · have hstate : backoffState s = s := if_neg (by simp [hok])
    rw [backoffDrawn, hb, hstate, hval]
    dsimp only
    rw [if_neg (by simp [hok])]

section
variable {j : Fin 12} {units b : Nat} {m : TxMsg} {s : State} (hnext : nextTx s = some m) (hopen : slotOpen j s = true) (hb : BackoffIs b s)

theorem contention_idles (h : nextTx s = none ∨ slotOpen j s = false) : Idles (.contentionAccess j units) s := by
  change execContentionAccess j units s = _
  unfold execContentionAccess
  cases hn : nextTx s with
  | none => rfl
  | some m =>
    rcases h with h | h
    · rw [hn] at h
      cases h
    · dsimp only
      rw [if_pos]
      simp only [slotOpen, Bool.and_eq_false_iff, bne_eq_false_iff_eq] at h
      rcases h with (h | h) | h <;> simp [h]

include hnext hopen hb

theorem exec_contention : exec (.contentionAccess j units) s = .next (
    if b ≤ units && frameFits m b j s then sendFrame m j (backoffState s)
    else (backoffState s).modLnk fun l => { l with backoff := some (b - units) }) := by
  obtain ⟨⟨hup, hleft⟩, hst⟩ : (lnkUp s = true ∧ contentionLeft (slotQ s j) (superOf s j % 16) ≠ 0) ∧ s.lnk.st ≠ .listen := by
    simpa [slotOpen] using hopen
  have hu : Upd [.freeCtr] s (backoffState s) := upd_backoffState s
  have hsym : symbolsFor (backoffState s) = symbolsFor s :=
    symbolsFor_congr (hu.read gainOf fun _ => rfl) (hu.read mapOf fun _ => rfl)
  have htmi : sendTmi (backoffState s) m.dst j = sendTmi s m.dst j := hu.read (sendTmi · m.dst j) fun _ => rfl
  have hlen : (backoffState s).clk = s.clk := hu.clk rfl
  have hexec : exec (.contentionAccess j units) s = .next (
      if (backoffDrawn s).1 ≤ units && accessUs (backoffDrawn s).1 ((symbolsFor (backoffDrawn s).2 m.dst
          (if m.bcast then 0 else sendTmi (backoffDrawn s).2 m.dst j) (frameBlocks m) true).getD 0) ≤
            (contentionLeft (slotQ s j) (superOf s j % 16) : Rat) * (backoffDrawn s).2.clk.lenCur / 12 then sendFrame m j (backoffDrawn s).2
      else (backoffDrawn s).2.modLnk fun l => { l with backoff := some ((backoffDrawn s).1 - units) }) := by
    change execContentionAccess j units s = _
    unfold execContentionAccess
    rw [hnext]
    dsimp only
    rw [if_neg (by simp [hup, hleft, hst])]
    rfl
  rw [hexec, backoffDrawn_eq hb]
  dsimp only
  rw [hsym, htmi, hlen]
  rfl

theorem contention_frozen (h : units < b ∨ frameFits m b j s = false) : Does (.contentionAccess j units) s [.lnk, .freeCtr] fun t =>
    t.lnk = { s.lnk with backoff := some (b - units) } ∧
      t.freeCtr = s.freeCtr + (if s.lnk.backoff = none ∧ drbgOk s = true then 1 else 0) := by
  have hexec := exec_contention (units := units) hnext hopen hb
  rw [if_neg (by rcases h with h | h <;> simp [h])] at hexec
  refine ⟨_, hexec, .comp (upd_modLnk ..) rfl ((upd_backoffState s).mono rfl), ?_, backoffState_freeCtr s⟩
  rw [State.modLnk_lnk, (upd_backoffState s).lnk rfl]

theorem exec_sends (hle : b ≤ units) (hfits : frameFits m b j s = true) :
    exec (.contentionAccess j units) s = .next (sendFrame m j (backoffState s)) := by
  rw [exec_contention hnext hopen hb, if_pos (by simp [hle, hfits])]

end

/-! The pending frame goes out (18 R611, R627, R628). -/

/-- What of the frame o goes out in own slot j: it is tried once more, under the map of the slot. -/
def tried (m o : TxMsg) (j : Nat) (s : State) : TxMsg := { o with tries := m.tries + 1, tmi := frameTmi m j s }

/-- The frame o, which stood in the queue as m, is handed to the PHY from the state u under the key of slot n, as pending in s. -/
def frameHanded (m o : TxMsg) (j n : Nat) (s u : State) : State :=
  phyReq (txRequest u 1 (nodeId u) (frameTmi m j s) (if m.bcast then floodCoupler (superOf s j) else couplerFor s m.dst (superOf s j)) n
      (tried m o j s))
    (u.modLnk fun l => { unqueue m l with backoff := none, out := if m.bcast then l.out else l.out ++ [tried m o j s] })

theorem upd_frameHanded (m o : TxMsg) (j n : Nat) (s u : State) : Upd [.phy, .lnk] u (frameHanded m o j n s u) :=
  .comp (upd_phyReq ..) rfl ((upd_modLnk ..).mono rfl)

theorem frameHanded_fseqs (m o : TxMsg) (j n : Nat) (s u : State) : (frameHanded m o j n s u).lnk.fseqs = u.lnk.fseqs := rfl

theorem frameHanded_counters (m o : TxMsg) (j n : Nat) (s u : State) (x : Nat) :
    fctrOf (frameHanded m o j n s u) x = fctrOf u x ∧ resOf (frameHanded m o j n s u) x = resOf u x := ⟨rfl, rfl⟩

theorem frameOut_frameHanded {m o : TxMsg} {j n : Nat} {s u : State} (hu : Upd [.lnk] s u) (hqueue : u.lnk.queue = s.lnk.queue)
    (hout : u.lnk.out = s.lnk.out) : FrameOut m o j n s (frameHanded m o j n s u) := by
  have hreq : txRequest u = txRequest s := (hu.mono rfl : Upd [.lnk, .ev, .sen, .freeCtr] s u).txRequest_lnk
  have hnode : nodeId u = nodeId s := hu.read nodeId fun _ => rfl
  refine ⟨?_, rfl, ?_, ?_⟩
  · rw [← hqueue]
    rfl
  · rw [← hout]
    rfl
  · rw [← hreq, ← hnode, ← hu.phy rfl]
    rfl

/-- A draw does not matter to what goes out. -/
theorem FrameOut.of_draw {m o : TxMsg} {j n : Nat} {s u t : State} (h : FrameOut m o j n u t) (hu : Upd [.freeCtr] s u) : FrameOut m o j n s t := by
  have hreq : txRequest u = txRequest s := (hu.mono rfl : Upd [.lnk, .ev, .sen, .freeCtr] s u).txRequest_lnk
  have hnode : nodeId u = nodeId s := hu.read nodeId fun _ => rfl
  have htmi : frameTmi m j u = frameTmi m j s := hu.read (frameTmi m j) fun _ => rfl
  have hsuper : superOf u j = superOf s j := hu.read (superOf · j) fun _ => rfl
  have hcoupler : couplerFor u = couplerFor s := hu.read couplerFor fun _ => rfl
  unfold FrameOut at h ⊢
  rw [hreq, hnode, htmi, hsuper, hcoupler, hu.lnk rfl, hu.phy rfl] at h
  exact h

theorem sendFrame_again {m : TxMsg} {n : Nat} {s : State} (hc : m.counted = true) (hn : netKey s m.keysel = some n) (j : Nat) :
    sendFrame m j s = frameHanded m m j n s s := by
  unfold sendFrame
  dsimp only
  rw [if_pos hc, hn]
  rfl

/-- The FSEQ of a new unicast frame is taken (18 R608). -/
def fseqTaken (m : TxMsg) (s : State) : State :=
  if m.bcast then s else s.modLnk fun l => { l with fseqs := kset m.dst (nextFseq m.dst s) l.fseqs }

theorem upd_fseqTaken (m : TxMsg) (s : State) : Upd [.lnk] s (fseqTaken m s) := by
  unfold fseqTaken
  split
  · exact .refl ..
  · exact upd_modLnk ..

theorem fseqTaken_lnk (m : TxMsg) (s : State) : ∃ q, (fseqTaken m s).lnk = { s.lnk with fseqs := q } ∧
    (m.bcast = false → kget? m.dst q = some (nextFseq m.dst s)) := by
  cases hb : m.bcast with
  | true => exact ⟨s.lnk.fseqs, by rw [fseqTaken, if_pos hb], fun h => by cases h⟩
  | false =>
    refine ⟨kset m.dst (nextFseq m.dst s) s.lnk.fseqs, ?_, fun _ => kget?_kset_same ..⟩
    rw [fseqTaken, if_neg (by simp [hb])]
    rfl

/-- A new frame, with its counter and its FSEQ. -/
def frameNumbered (m : TxMsg) (x n : Nat) (s : State) : TxMsg :=
  { m with fctr := fctrOf s x, keysel := keySelOf s n, counted := true, fseq := if m.bcast then 0 else nextFseq m.dst s }

theorem nextFseq_fctrDrawn (x n node : Nat) (s : State) : nextFseq node (fctrDrawn x n s) = nextFseq node s := by
  obtain ⟨_, _, _, _, _, _, hdrawn⟩ := fctrDrawn_lnk x n s
  rw [nextFseq, nextFseq, hdrawn]

theorem sendFrame_new {m : TxMsg} {x n : Nat} {s : State} (hc : m.counted = false) (hopen : txOpen x n s = true) (j : Nat) :
    sendFrame m j s = frameHanded m (frameNumbered m x n s) j n s (fseqTaken m (fctrDrawn x n s)) := by
  have hnext := nextFseq_fctrDrawn x n m.dst s
  unfold sendFrame
  dsimp only
  rw [if_neg (by simp [hc]), drawFctr_open hopen]
  dsimp only
  cases hb : m.bcast with
  | true =>
    rw [fseqTaken, if_pos hb, frameNumbered, hb]
    unfold frameHanded tried frameTmi
    rw [hb]
    rfl
  | false =>
    rw [fseqTaken, if_neg (by simp), frameNumbered, ← hnext]
    unfold frameHanded tried frameTmi
    rw [hb]
    rfl

section
variable {j : Fin 12} {units b n : Nat} {m : TxMsg} {s : State} (hnext : nextTx s = some m) (hopen : slotOpen j s = true) (hb : BackoffIs b s)
  (hle : b ≤ units) (hfits : frameFits m b j s = true)
include hnext hopen hb hle hfits

theorem contention_repeats (hc : m.counted = true) (hn : netKey s m.keysel = some n) :
    Does (.contentionAccess j units) s [.phy, .lnk, .freeCtr] fun t =>
      FrameOut m m j n s t ∧ t.lnk.fctr0 = s.lnk.fctr0 ∧ t.lnk.fctr1 = s.lnk.fctr1 ∧ t.lnk.fseqs = s.lnk.fseqs := by
  have hu := upd_backoffState s
  have hexec := exec_sends hnext hopen hb hle hfits
  rw [sendFrame_again hc ((hu.read (netKey · m.keysel) fun _ => rfl).trans hn)] at hexec
  refine ⟨_, hexec, .comp (upd_frameHanded ..) rfl (hu.mono rfl), (frameOut_frameHanded (.refl ..) rfl rfl).of_draw hu, ?_⟩
  rw [← hu.lnk rfl]
  exact ⟨rfl, rfl, rfl⟩

theorem contention_sends {x : Nat} (hc : m.counted = false) (hx : txOpen x n s = true) :
    Does (.contentionAccess j units) s [.phy, .lnk, .freeCtr] fun t =>
      FrameOut m { m with fctr := fctrOf s x, keysel := keySelOf s n, counted := true, fseq := if m.bcast then 0 else nextFseq m.dst s } j n s t ∧
        fctrOf t x = fctrOf s x + 1 ∧ resOf t x = (if fctrOf s x < resOf s x then resOf s x else resOf s x + 65536) ∧
        (m.bcast = false → kget? m.dst t.lnk.fseqs = some (nextFseq m.dst s)) := by
  have hu := upd_backoffState s
  have hx' : txOpen x n (backoffState s) = true := (hu.read (txOpen x n) fun _ => rfl).trans hx
  have hnumber : frameNumbered m x n (backoffState s) = frameNumbered m x n s := hu.read (frameNumbered m x n) fun _ => rfl
  have hexec := exec_sends hnext hopen hb hle hfits
  rw [sendFrame_new hc hx', hnumber] at hexec
  have hdraw : Upd [.lnk] (backoffState s) (fseqTaken m (fctrDrawn x n (backoffState s))) := .comp (upd_fseqTaken ..) rfl (upd_fctrDrawn ..)
  obtain ⟨q, hseq, hq⟩ := fseqTaken_lnk m (fctrDrawn x n (backoffState s))
  obtain ⟨_, _, _, _, _, _, hdrawn⟩ := fctrDrawn_lnk x n (backoffState s)
  have hcounters : ∀ u : State, u.lnk = { (fctrDrawn x n (backoffState s)).lnk with fseqs := q } →
      fctrOf u x = fctrOf (fctrDrawn x n (backoffState s)) x ∧ resOf u x = resOf (fctrDrawn x n (backoffState s)) x := by
    intro u hlnk
    rw [fctrOf, resOf, hlnk]
    exact ⟨rfl, rfl⟩
  obtain ⟨hfctr, hres⟩ := hcounters _ hseq
  obtain ⟨hup, hreserved, _⟩ := fctrDrawn_counters x n (backoffState s)
  have hfctr0 : fctrOf (backoffState s) = fctrOf s := hu.read fctrOf fun _ => rfl
  have hres0 : resOf (backoffState s) = resOf s := hu.read resOf fun _ => rfl
  have hnextq : nextFseq m.dst (fctrDrawn x n (backoffState s)) = nextFseq m.dst s :=
    (nextFseq_fctrDrawn ..).trans (hu.read (nextFseq m.dst) fun _ => rfl)
  have hseqs (hbc : m.bcast = false) : kget? m.dst (frameHanded m (frameNumbered m x n s) j n (backoffState s)
      (fseqTaken m (fctrDrawn x n (backoffState s)))).lnk.fseqs = some (nextFseq m.dst s) := by
    rw [frameHanded_fseqs, hseq, hq hbc, hnextq]
  obtain ⟨h1, h2⟩ := frameHanded_counters m (frameNumbered m x n s) j n (backoffState s) (fseqTaken m (fctrDrawn x n (backoffState s))) x
  rw [hfctr0] at hup hreserved
  rw [hres0] at hreserved
  refine ⟨_, hexec, .comp (upd_frameHanded ..) rfl (.comp hdraw rfl (hu.mono rfl)), (frameOut_frameHanded hdraw ?_ ?_).of_draw hu,
    h1.trans (hfctr.trans hup), h2.trans (hres.trans hreserved), fun hbc => hseqs hbc⟩
  · rw [hseq, hdrawn]
  · rw [hseq, hdrawn]

end

end Sys2Proof.Machine
end

section
/-! PROOF. Obligation O49 (18 R608, R611, R621, R624 to R629, R632), continued: acknowledgements and tone maps. -/

namespace Sys2Proof.Machine

open Host

/-! A frame that has failed (18 R627, R628). -/

/-- The frame no longer awaits its acknowledgement, and the contention window is doubled. -/
def frameFailed (m : TxMsg) (s : State) : State := s.modLnk fun l => { l with out := l.out.erase m, cw := min 64 (2 * l.cw) }

theorem upd_frameFailed (m : TxMsg) (s : State) : Upd [.lnk] s (frameFailed m s) := upd_modLnk ..

section
variable {m : TxMsg} {s u : State} (hu : Upd [.phy] s u)
include hu

theorem txFailed_again (h : m.tries ≤ cfg s 0x60 0 0 79 72) : Upd [.lnk] u (txFailed m u) ∧ FrameAgain m s (txFailed m u) := by
  have heq : txFailed m u = (frameFailed m u).modLnk fun l => { l with queue := m :: l.queue, retried := inc32 l.retried } := by
    unfold txFailed
    dsimp only
    rw [if_pos]
    · rfl
    · have hcfg : cfg (frameFailed m u) 0x60 0 0 79 72 = cfg s 0x60 0 0 79 72 :=
        ((upd_frameFailed m u).read (cfg · 0x60 0 0 79 72) fun _ => rfl).trans (hu.read (cfg · 0x60 0 0 79 72) fun _ => rfl)
      exact h.trans_eq hcfg.symm
  rw [heq]
  refine ⟨.comp (upd_modLnk ..) rfl (upd_frameFailed m u), ?_⟩
  unfold FrameAgain
  rw [← hu.lnk rfl, ← hu.ev rfl]
  exact ⟨rfl, rfl, rfl, rfl, rfl, rfl⟩

/-- One more failure. -/
def failCounted (n : Neigh) : Neigh := { n with fails := n.fails + 1 }

/-- Served in ROBO. -/
def onRobo (n : Neigh) : Neigh := { n with robo := true }

/-- The frame's message has dropped, and the failure is counted with the neighbour. -/
def frameDropped (m : TxMsg) (s : State) : State :=
  modNeigh m.dst failCounted (lnkDrop 2 m.msgId (frameFailed m s))

theorem frameDropped_facts : Upd [.lnk, .ev, .sen] u (frameDropped m u) ∧
    (frameDropped m u).lnk.queue = s.lnk.queue ∧ (frameDropped m u).lnk.out = s.lnk.out.erase m ∧
    (frameDropped m u).lnk.dropped = inc32 s.lnk.dropped ∧ (frameDropped m u).ev = (raise 0x30AA 5 255 (2 * 2 ^ 24 + m.msgId) s).ev ∧
    neighOf (frameDropped m u) m.dst = (neighOf s m.dst).map failCounted := by
  have hdrop : (lnkDrop 2 m.msgId (frameFailed m u)).lnk = { (frameFailed m s).lnk with dropped := inc32 s.lnk.dropped } := by
    rw [lnkDrop, raise_lnk, frameFailed, frameFailed, State.modLnk_lnk, State.modLnk_lnk, State.modLnk_lnk, hu.lnk rfl]
  have hagree : EventsAgree s (frameFailed m u) :=
    (hu.eventsAgree rfl rfl rfl rfl).trans ((upd_frameFailed m u).eventsAgree rfl rfl rfl rfl)
  refine ⟨.comp (upd_modNeigh ..) rfl (.comp (upd_lnkDrop ..) rfl ((upd_frameFailed m u).mono rfl)), ?_, ?_, ?_, ?_, ?_⟩
  · rw [frameDropped, modNeigh, State.modLnk_lnk, hdrop]
    rfl
  · rw [frameDropped, modNeigh, State.modLnk_lnk, hdrop]
    rfl
  · rw [frameDropped, modNeigh, State.modLnk_lnk, hdrop]
  · exact ((hagree.trans ((upd_modLnk ..).eventsAgree rfl rfl rfl rfl)).raise ..).ev
  · rw [frameDropped, neighOf_modNeigh_same (f := failCounted) (fun _ => rfl), neighOf, hdrop]
    rfl

omit hu in
/-- The 8th failure in a row puts the neighbour on ROBO. -/
def roboFrom (node : Nat) (n : Option Neigh) (s : State) : State :=
  match n with
  | some n => if 8 ≤ n.fails then modNeigh node onRobo (s.modPhy fun p => { p with maps := p.maps.filter fun t => !(t.peer == node) }) else s
  | none => s

theorem txFailed_dropped (h : cfg s 0x60 0 0 79 72 < m.tries) :
    txFailed m u = roboFrom m.dst (neighOf (frameDropped m u) m.dst) (frameDropped m u) := by
  unfold txFailed
  dsimp only
  rw [if_neg]
  · rfl
  · have hcfg : cfg (frameFailed m u) 0x60 0 0 79 72 = cfg s 0x60 0 0 79 72 :=
      ((upd_frameFailed m u).read (cfg · 0x60 0 0 79 72) fun _ => rfl).trans (hu.read (cfg · 0x60 0 0 79 72) fun _ => rfl)
    exact fun hle => absurd (hle.trans_eq hcfg) (Nat.not_le.mpr h)

theorem txFailed_lost (h : cfg s 0x60 0 0 79 72 < m.tries) : FrameLost m u.phy.maps s (txFailed m u) := by
  obtain ⟨hupd, hqueue, hout, hdropped, hev, hneigh⟩ := frameDropped_facts (m := m) hu
  have hphy : (frameDropped m u).phy = u.phy := hupd.phy rfl
  rw [txFailed_dropped hu h]
  cases hn : neighOf s m.dst with
  | none =>
    rw [hn, Option.map_none] at hneigh
    rw [hneigh, roboFrom]
    refine ⟨hqueue, hout, hdropped, hev, fun n hs => ?_, fun _ => by rw [hphy]⟩
    rw [hn] at hs
    cases hs
  | some n =>
    rw [hn, Option.map_some] at hneigh
    rw [hneigh, roboFrom]
    by_cases h8 : 8 ≤ n.fails + 1
    · rw [if_pos (show 8 ≤ (failCounted n).fails from h8)]
      refine ⟨hqueue, hout, hdropped, hev, fun n' hs => ⟨?_, ?_⟩, fun hs => ?_⟩
      · obtain rfl : n = n' := by simpa [hn] using hs
        rw [neighOf_modNeigh_same (f := onRobo) (fun _ => rfl)]
        refine (congrArg (Option.map onRobo) hneigh).trans ?_
        simp [h8, onRobo, failCounted]
      · obtain rfl : n = n' := by simpa [hn] using hs
        rw [if_pos h8, ← hphy]
        rfl
      · rw [hn] at hs
        cases hs
    · rw [if_neg (show ¬ 8 ≤ (failCounted n).fails from h8)]
      refine ⟨hqueue, hout, hdropped, hev, fun n' hs => ⟨?_, ?_⟩, fun hs => ?_⟩
      · obtain rfl : n = n' := by simpa [hn] using hs
        rw [hneigh]
        simp [h8, failCounted]
      · obtain rfl : n = n' := by simpa [hn] using hs
        rw [if_neg h8, hphy]
      · rw [hn] at hs
        cases hs

end

/-! Maps committed (18 R625). -/

theorem foldl_raise_agree {α : Type} (e : α → Nat × Nat × Nat × Nat) (l : List α) {s t : State} (h : EventsAgree s t) :
    EventsAgree (l.foldl (fun s x => raise (e x).1 (e x).2.1 (e x).2.2.1 (e x).2.2.2 s) s)
      (l.foldl (fun s x => raise (e x).1 (e x).2.1 (e x).2.2.1 (e x).2.2.2 s) t) := by
  induction l generalizing s t with
  | nil => exact h
  | cons x l ih => exact ih (h.raise ..)

/-- Event 0x30A8 of a map. -/
def commitEvent (peer : Nat) (x : ToneMap) : Nat × Nat × Nat × Nat :=
  (0x30A8, 5, 255, peer * 2 ^ 24 + tmTmi x.words * 2 ^ 20 + tmClass x.words * 2 ^ 16 + tmGen x.words % 2 ^ 16)

/-- The maps of an exchange that are committed. -/
def mapsTaken (peer : Nat) (sending : Bool) (gens : List Nat) (maps : List ToneMap) : List ToneMap :=
  maps.filter fun x => pendOf peer sending x && gens.contains (tmGen x.words)

theorem mapsPending_filter (peer : Nat) (sending : Bool) (gens : List Nat) (s : State) :
    ((mapsPending s peer sending).filter fun m => gens.contains (tmGen m.words)) = mapsTaken peer sending gens s.phy.maps := by
  rw [mapsPending, List.filter_filter, mapsTaken]
  refine List.filter_congr fun x _ => ?_
  rw [Bool.and_comm]
  rfl

theorem commitWith_maps (peer q : Nat) (sending : Bool) (gens : List Nat) (s : State) :
    (commitWith peer q sending gens s).phy.maps = mapsCommitted peer (commitBnd s q) sending gens s.phy.maps := by
  have hphy : ∀ (l : List ToneMap) (t : State), (l.foldl (fun s m =>
      raise 0x30A8 5 255 (peer * 2 ^ 24 + tmTmi m.words * 2 ^ 20 + tmClass m.words * 2 ^ 16 + tmGen m.words % 2 ^ 16) s) t).phy = t.phy :=
    fun l t => (Upd.foldl (P := [.ev, .sen]) (fun u a hu => .comp (upd_raise ..) rfl hu) (.refl _ t)).phy rfl
  unfold commitWith
  rw [hphy]
  rfl

theorem commitWith_ev (peer q : Nat) (sending : Bool) (gens : List Nat) {s u : State} (h : EventsAgree s u) :
    (commitWith peer q sending gens u).ev = (commitEvents peer sending gens u.phy.maps s).ev := by
  unfold commitWith commitEvents
  rw [mapsPending_filter]
  refine (foldl_raise_agree (commitEvent peer) _ ?_).ev
  exact (h.trans ((upd_commitMaps ..).eventsAgree rfl rfl rfl rfl)).trans ((upd_modNeigh ..).eventsAgree rfl rfl rfl rfl)

theorem ack_commits {f : AcFrame} {q : Fin 48} {body : List Nat} {s : State} (h : msgHere f body s = true) :
    Does (.tmAck f q) s [.phy, .lnk, .ev, .sen] fun t =>
      t.phy.maps = mapsCommitted f.orig (commitBnd s q) false (ackGens body) (msgState f s).phy.maps ∧
        t.ev = (commitEvents f.orig false (ackGens body) (msgState f s).phy.maps s).ev := by
  have ha := msgHere_accepted h
  have hexec := exec_tmAck f q s
  rw [takeMsg_here _ h] at hexec
  have hbnd : commitBnd (msgState f s) q = commitBnd s q := msgState_read ha (commitBnd · q) fun _ _ _ _ _ => rfl
  refine ⟨_, hexec, .comp (upd_commitWith ..) rfl ((upd_msgState ha).mono rfl), ?_, ?_⟩
  · rw [← hbnd]
    exact commitWith_maps ..
  · exact commitWith_ev _ _ _ _ ((upd_msgState ha).eventsAgree rfl rfl rfl rfl)

/-! Acknowledgements (18 R625, R628, R632). -/

section
variable {node fseq : Nat} {st : Nat} {q : Fin 48} {m : TxMsg} {s : State}

theorem ack_idles (h : outFrame s node fseq = none ∨ lnkUp s = false) : Idles (.acradAckRx node fseq st q) s := by
  change execAcradAckRx node fseq st q s = _
  unfold execAcradAckRx
  cases ho : outFrame s node fseq with
  | none => rfl
  | some m =>
    dsimp only
    rw [if_pos]
    rcases h with h | h
    · rw [ho] at h
      cases h
    · simp [h]

theorem timeout_idles (h : outFrame s node fseq = none ∨ lnkUp s = false) : Idles (.acradAckTimeout node fseq) s := by
  change execAcradAckTimeout node fseq s = _
  unfold execAcradAckTimeout
  cases ho : outFrame s node fseq with
  | none => rfl
  | some m =>
    dsimp only
    rw [if_neg]
    rcases h with h | h
    · rw [ho] at h
      cases h
    · simp [h]

variable (ho : outFrame s node fseq = some m) (hup : lnkUp s = true)
include ho hup

theorem exec_ackFails (hst : st ≠ 0) : exec (.acradAckRx node fseq st q) s = .next (txFailed m (blockResults m (st == 1) s)) := by
  change execAcradAckRx node fseq st q s = _
  unfold execAcradAckRx
  rw [ho]
  dsimp only
  rw [if_neg (by simp [hup]), if_pos hst]

theorem exec_timeout : exec (.acradAckTimeout node fseq) s = .next (txFailed m s) := by
  change execAcradAckTimeout node fseq s = _
  unfold execAcradAckTimeout
  rw [ho]
  dsimp only
  rw [if_pos hup]

theorem ack_again (hst : st ≠ 0) (h : m.tries ≤ cfg s 0x60 0 0 79 72) : Does (.acradAckRx node fseq st q) s [.phy, .lnk] fun t =>
    FrameAgain m s t ∧ t.phy = (blockResults m (st == 1) s).phy := by
  have hu := upd_blockResults m (st == 1) s
  obtain ⟨hupd, hagain⟩ := txFailed_again hu h
  exact ⟨_, exec_ackFails ho hup hst, .comp hupd rfl (hu.mono rfl), hagain, hupd.phy rfl⟩

theorem ack_lost (hst : st ≠ 0) (h : cfg s 0x60 0 0 79 72 < m.tries) : Does (.acradAckRx node fseq st q) s [.phy, .lnk, .ev, .sen] fun t =>
    FrameLost m (blockResults m (st == 1) s).phy.maps s t := by
  have hu := upd_blockResults m (st == 1) s
  exact ⟨_, exec_ackFails ho hup hst, .comp (upd_txFailed ..) rfl (hu.mono rfl), txFailed_lost hu h⟩

theorem timeout_again (h : m.tries ≤ cfg s 0x60 0 0 79 72) : Does (.acradAckTimeout node fseq) s [.lnk] fun t => FrameAgain m s t := by
  obtain ⟨hupd, hagain⟩ := txFailed_again (m := m) (.refl _ s) h
  exact ⟨_, exec_timeout ho hup, hupd, hagain⟩

theorem timeout_lost (h : cfg s 0x60 0 0 79 72 < m.tries) : Does (.acradAckTimeout node fseq) s [.phy, .lnk, .ev, .sen] fun t =>
    FrameLost m s.phy.maps s t :=
  ⟨_, exec_timeout ho hup, upd_txFailed .., txFailed_lost (.refl _ s) h⟩

omit ho hup in
/-- The frame is acknowledged. -/
def frameAcked (node : Nat) (m : TxMsg) (s : State) : State :=
  modNeigh node (fun n => { n with fails := 0 }) (blockResults m false (s.modLnk fun l => { l with out := l.out.erase m, cw := 8 }))

omit ho hup in
/-- The nodes of a COLLECT's records. -/
def collectNodes (m : TxMsg) : List Nat := (List.range (m.body.getD 9 0)).map fun k => m.body.getD (14 + 8 * k) 0

omit ho hup in
/-- A record that the parent has. -/
def demandAcked (m : TxMsg) (d : Demand) : Demand :=
  if d.epoch % 2 ^ 32 == natLE ((m.body.drop 10).take 4) && (collectNodes m).contains d.node then { d with acked := true } else d

omit ho hup in
/-- The parent has the records of a COLLECT. -/
def recordsAcked (m : TxMsg) (s : State) : State := s.modLnk fun l => { l with demands := l.demands.map (demandAcked m) }

theorem exec_acked : exec (.acradAckRx node fseq 0 q) s = .next (
    if m.kind = 5 then commitWith node q.val true (ackGens m.body) (frameAcked node m s)
    else if m.kind = 1 then recordsAcked m (frameAcked node m s) else frameAcked node m s) := by
  change execAcradAckRx node fseq 0 q s = _
  unfold execAcradAckRx
  rw [ho]
  dsimp only
  rw [if_neg (by simp [hup]), if_neg (by decide)]
  rfl

omit ho hup in
theorem upd_frameAcked (node : Nat) (m : TxMsg) (s : State) : Upd [.phy, .lnk] s (frameAcked node m s) :=
  .comp (upd_modNeigh ..) rfl (.comp (upd_blockResults ..) rfl ((upd_modLnk ..).mono rfl))

omit ho hup in
theorem frameAcked_lnk (node : Nat) (m : TxMsg) (s : State) : (frameAcked node m s).lnk = { s.lnk with
    out := s.lnk.out.erase m, cw := 8, neigh := s.lnk.neigh.map fun n => if n.node = node then { n with fails := 0 } else n } := by
  rw [frameAcked, modNeigh, State.modLnk_lnk, (upd_blockResults ..).lnk rfl]
  simp only [State.modLnk_lnk, beq_iff_eq]

omit ho hup in
theorem frameAcked_phy (node : Nat) (m : TxMsg) (s : State) : (frameAcked node m s).phy = (blockResults m false s).phy := by
  unfold frameAcked blockResults
  split <;> rfl

theorem acked_completes (h5 : m.kind ≠ 5) (h1 : m.kind ≠ 1) : Does (.acradAckRx node fseq 0 q) s [.phy, .lnk] fun t =>
    t.lnk = { s.lnk with
      out := s.lnk.out.erase m, cw := 8, neigh := s.lnk.neigh.map fun n => if n.node = node then { n with fails := 0 } else n } ∧
      t.phy = (blockResults m false s).phy := by
  have hexec := exec_acked (q := q) ho hup
  rw [if_neg h5, if_neg h1] at hexec
  exact ⟨_, hexec, upd_frameAcked .., frameAcked_lnk .., frameAcked_phy ..⟩

theorem acked_collect (h1 : m.kind = 1) : Does (.acradAckRx node fseq 0 q) s [.phy, .lnk] fun t =>
    t.lnk.out = s.lnk.out.erase m ∧ t.lnk.cw = 8 ∧
      t.lnk.demands = s.lnk.demands.map fun d =>
        if d.epoch % 2 ^ 32 = natLE ((m.body.drop 10).take 4) ∧ (∃ k ∈ List.range (m.body.getD 9 0), m.body.getD (14 + 8 * k) 0 = d.node) then
          { d with acked := true } else d := by
  have hexec := exec_acked (q := q) ho hup
  rw [if_neg (by omega), if_pos h1] at hexec
  refine ⟨_, hexec, .comp (upd_modLnk ..) rfl (upd_frameAcked ..), ?_⟩
  beta_reduce
  rw [recordsAcked, State.modLnk_lnk, frameAcked_lnk]
  refine ⟨rfl, rfl, List.map_congr_left fun d _ => ?_⟩
  simp only [demandAcked, Bool.and_eq_true, beq_iff_eq, List.contains_iff_mem, collectNodes, List.mem_map]

omit ho hup in
/-- The results of a frame under the map that it went out under. -/
def mapResult (m : TxMsg) (failed : Bool) (t : ToneMap) : ToneMap :=
  if t.peer == m.dst && t.sending && t.inUse && tmTmi t.words == m.tmi then
    { t with errWin := (List.replicate (frameBlocks m) failed ++ t.errWin).take 64 }
  else t

omit ho hup in
/-- The results of an acknowledged frame touch no pending map. -/
theorem mapsTaken_blockResults (peer : Nat) (sending failed : Bool) (gens : List Nat) (m : TxMsg) (s : State) :
    mapsTaken peer sending gens (blockResults m failed s).phy.maps = mapsTaken peer sending gens s.phy.maps := by
  have hreads : (fun x => pendOf peer sending x && gens.contains (tmGen x.words)) ∘ mapResult m failed =
      fun x => pendOf peer sending x && gens.contains (tmGen x.words) := by
    funext x
    rw [Function.comp_apply, mapResult]
    split <;> rfl
  have hkeeps : ∀ x, (pendOf peer sending x && gens.contains (tmGen x.words)) = true → mapResult m failed x = x := by
    intro x hx
    have huse : x.inUse = false := by
      simp only [pendOf, Bool.and_eq_true, Bool.not_eq_true'] at hx
      exact hx.1.1.2
    rw [mapResult, if_neg (by simp [huse])]
  unfold blockResults
  split
  · rfl
  · change mapsTaken peer sending gens (s.phy.maps.map (mapResult m failed)) = _
    rw [mapsTaken, mapsTaken, List.filter_map, hreads]
    exact (List.map_congr_left fun x hx => hkeeps x (List.mem_filter.mp hx).2).trans (List.map_id _)

omit ho hup in
theorem commitWith_lnk (peer q : Nat) (sending : Bool) (gens : List Nat) (s : State) : ∃ n,
    (commitWith peer q sending gens s).lnk = { s.lnk with neigh := n } := by
  have hlnk : ∀ (l : List ToneMap) (t : State), (l.foldl (fun s m =>
      raise 0x30A8 5 255 (peer * 2 ^ 24 + tmTmi m.words * 2 ^ 20 + tmClass m.words * 2 ^ 16 + tmGen m.words % 2 ^ 16) s) t).lnk = t.lnk :=
    fun l t => (Upd.foldl (P := [.ev, .sen]) (fun u a hu => .comp (upd_raise ..) rfl hu) (.refl _ t)).lnk rfl
  unfold commitWith
  rw [hlnk]
  exact ⟨_, rfl⟩

theorem acked_commits (h5 : m.kind = 5) : Does (.acradAckRx node fseq 0 q) s [.phy, .lnk, .ev, .sen] fun t =>
    t.lnk.out = s.lnk.out.erase m ∧ t.lnk.cw = 8 ∧
      t.phy.maps = mapsCommitted node (commitBnd s q) true (ackGens m.body) (blockResults m false s).phy.maps ∧
      t.ev = (commitEvents node true (ackGens m.body) s.phy.maps s).ev := by
  have hexec := exec_acked (q := q) ho hup
  rw [if_pos h5] at hexec
  have hupd := upd_frameAcked node m s
  have hbnd : commitBnd (frameAcked node m s) q = commitBnd s q := by
    rw [commitBnd, commitBnd, estCount, estCount, frameAcked_lnk, hupd.clk rfl]
  obtain ⟨n, hlnk⟩ := commitWith_lnk node q.val true (ackGens m.body) (frameAcked node m s)
  have hevents : commitEvents node true (ackGens m.body) (frameAcked node m s).phy.maps s =
      commitEvents node true (ackGens m.body) s.phy.maps s := by
    have htaken := mapsTaken_blockResults node true false (ackGens m.body) m s
    rw [← frameAcked_phy node] at htaken
    unfold mapsTaken at htaken
    rw [commitEvents, commitEvents, htaken]
  refine ⟨_, hexec, .comp (upd_commitWith ..) rfl (hupd.mono rfl), ?_, ?_, ?_, ?_⟩
  · rw [hlnk, frameAcked_lnk]
  · rw [hlnk, frameAcked_lnk]
  · rw [commitWith_maps, hbnd, frameAcked_phy]
  · rw [commitWith_ev node q.val true (ackGens m.body) (hupd.eventsAgree rfl rfl rfl rfl), hevents]

end

/-! Tone maps asked for and offered (18 R624, R626). -/

section
variable {node : Nat} {few : Bool} {s : State}

/-- A sound frame of 8 symbols to a neighbour. -/
def soundReq (node : Nat) (s : State) : TxReq :=
  TxReq.mk (couplerFor s node (estCount s / 4))
    (BitVec.ofNat 128 (fcWord 3 (nodeId s) node false 0 8 0 (couplerFor s node (estCount s / 4)) 0)) []

theorem lnkTo_eq (kind node : Nat) (body : List Nat) (s : State) : lnkTo kind node body s = s.modLnk fun l =>
    { l with
      msgNext := (s.lnk.msgNext + 1) % 65536
      queue := queuedTo { dst := node, kind, msgId := s.lnk.msgNext, orig := nodeId s, final := node, body } l.queue } := by
  rw [lnkTo, lnkQueue_eq]
  rfl

theorem refresh_asks (hup : lnkUp s = true) (hn : (neighOf s node).isSome = true) (hdue : refreshDue s node = true)
    (hq : ∀ m ∈ s.lnk.queue, ¬ (m.kind = 3 ∧ m.dst = node)) : Does (.toneMapRefresh node few) s [.phy, .lnk] fun t =>
      Queued { dst := node, kind := 3, msgId := s.lnk.msgNext, orig := nodeId s, final := node } s t ∧
        t.phy.tx = s.phy.tx ++ (if few then [TxReq.mk (couplerFor s node (estCount s / 4))
          (BitVec.ofNat 128 (fcWord 3 (nodeId s) node false 0 8 0 (couplerFor s node (estCount s / 4)) 0)) []] else []) := by
  have hexec : exec (.toneMapRefresh node few) s = .next (lnkTo 3 node [] (if few then phyReq (soundReq node s) s else s)) := by
    change execToneMapRefresh node few s = _
    rw [execToneMapRefresh, if_neg]
    · rfl
    · obtain ⟨n, hn⟩ := Option.isSome_iff_exists.mp hn
      simpa [hup, hn, hdue] using hq
  cases few with
  | true =>
    refine ⟨_, hexec, .comp (upd_lnkTo ..) rfl ((upd_phyReq ..).mono rfl), ?_⟩
    rw [if_pos rfl, lnkTo_eq]
    exact ⟨rfl, rfl⟩
  | false =>
    refine ⟨_, hexec, (upd_lnkTo ..).mono rfl, ?_⟩
    rw [if_neg (by decide), lnkTo_eq, if_neg (by decide), List.append_nil]
    exact ⟨rfl, rfl⟩

theorem refresh_idles (h : lnkUp s = false ∨ neighOf s node = none ∨ refreshDue s node = false ∨ (∃ m ∈ s.lnk.queue, m.kind = 3 ∧ m.dst = node)) :
    Idles (.toneMapRefresh node few) s := by
  change execToneMapRefresh node few s = _
  rw [execToneMapRefresh, if_pos]
  rcases h with h | h | h | h
  · simp [h]
  · simp [h]
  · simp [h]
  · have : (s.lnk.queue.any fun m => m.kind == 3 && m.dst == node) = true := by simpa using h
    rw [this, Bool.or_true]

end

/-! Offers (18 R624). -/

section
variable {f : AcFrame} {body : List Nat} {s : State} (h : msgHere f body s = true)
include h

theorem offer_taken {r : List Nat × State} (hr : r = offerLoaded (offerMaps body) (exchangeState f.orig true (msgState f s))) :
    Does (.tmOffer f) s [.phy, .lnk, .ev, .sen] fun t =>
      Queued { dst := f.orig, kind := 5, msgId := s.lnk.msgNext, orig := nodeId s, final := f.orig, body := r.1.flatMap (bytesLE 4) } s t ∧
        t.phy.maps = r.2.phy.maps ∧ t.ev = r.2.ev := by
  have ha := msgHere_accepted h
  have hm := upd_msgState ha
  have hexec := exec_tmOffer f s
  rw [takeMsg_here _ h, offerAct, ← hr] at hexec
  have hx : Upd [.phy] (msgState f s) (exchangeState f.orig true (msgState f s)) := upd_modPhy ..
  have hload : Upd [.phy, .ev, .sen] (msgState f s) r.2 := by
    rw [hr]
    exact .comp (upd_offerLoaded ..) rfl (hx.mono rfl)
  have hlnk : r.2.lnk = (msgState f s).lnk := hload.lnk rfl
  have hnode : nodeId r.2 = nodeId s := (hload.read nodeId fun _ => rfl).trans (msgState_node ha)
  have hnext : (msgState f s).lnk.msgNext = s.lnk.msgNext := msgState_read ha (·.lnk.msgNext) fun _ _ _ _ _ => rfl
  have hqueue : (msgState f s).lnk.queue = s.lnk.queue := msgState_read ha (·.lnk.queue) fun _ _ _ _ _ => rfl
  refine ⟨_, hexec, .comp (upd_lnkTo ..) rfl (.comp hload rfl (hm.mono rfl)), ?_, ?_, ?_⟩
  · unfold Queued
    rw [lnkTo_eq, State.modLnk_lnk, hlnk, hnext, hqueue, hnode]
    rfl
  · rw [lnkTo_eq]
    rfl
  · rw [lnkTo_eq]
    rfl

omit h in
theorem loadMap_cases (m : List W128) (s : State) : (∃ arg, (loadMap m false s).2 = raise 0x3086 5 255 arg s) ∨
    (loadMap m false s).2 = s.modPhy fun p => { p with maps := p.maps ++ [{ words := m, peer := tmTx m, sending := false }] } := by
  unfold loadMap
  simp only [Bool.false_eq_true, if_false]
  split
  · exact .inl ⟨_, rfl⟩
  · exact .inr rfl

omit h in
theorem loadMap_maps (m : List W128) (s : State) : ∀ x ∈ (loadMap m false s).2.phy.maps, x ∈ s.phy.maps ∨ x.words = m := by
  intro x hx
  rcases loadMap_cases m s with ⟨arg, h⟩ | h
  · rw [h, raise_phy] at hx
    exact .inl hx
  · rw [h] at hx
    rcases List.mem_append.mp hx with hx | hx
    · exact .inl hx
    · rw [List.mem_singleton.mp hx]
      exact .inr rfl

omit h in
theorem loadMaps_maps (ms : List (List W128)) (s : State) :
    ∀ x ∈ (ms.foldl (fun s m => (loadMap m false s).2) s).phy.maps, x ∈ s.phy.maps ∨ x.words ∈ ms := by
  induction ms generalizing s with
  | nil => exact fun x hx => .inl hx
  | cons m ms ih =>
    intro x hx
    rcases ih _ x hx with hx | hx
    · rcases loadMap_maps m s x hx with hx | hx
      · exact .inl hx
      · exact .inr (by simp [hx])
    · exact .inr (List.mem_cons_of_mem _ hx)

omit h in
theorem exchangeState_receiving (a : Nat) (s : State) :
    (s.modPhy fun p => { p with maps := p.maps.filter fun m => !(m.peer == a && !m.sending && !m.inUse && m.commitAt == 0) }) =
      exchangeState a false s := by
  simp only [exchangeState, pendOf, beq_false]

omit h in
/-- The generation last offered to a neighbour. -/
def genOffered (g : Nat) (n : Neigh) : Neigh := { n with genLast := g }

omit h in
/-- The receiver's next generation for a neighbour. -/
def genTaken (a : Nat) (u : State) : State := modNeigh a (genOffered (((neighOf u a).map (·.genLast)).getD 0 + 1)) u

omit h in
/-- The maps of an offer are pending at their receiver. -/
def mapsOffered (a : Nat) (u : State) : State := (offerFor a u).foldl (fun s m => (loadMap m false s).2) (genTaken a u)

omit h in
theorem reqAct_eq (f : AcFrame) (s : State) : reqAct f s =
    lnkTo 4 f.orig ((offerFor f.orig (exchangeState f.orig false s)).flatMap wordsBytes) (mapsOffered f.orig (exchangeState f.orig false s)) := by
  rw [← exchangeState_receiving]
  rfl

omit h in
theorem upd_mapsOffered (a : Nat) (u : State) : Upd [.phy, .ev, .sen] (genTaken a u) (mapsOffered a u) :=
  Upd.foldl (fun _ m hu => .comp (upd_loadMap m false _) rfl hu) (.refl ..)

theorem request_answered {u : State} (hu : u = exchangeState f.orig false (msgState f s)) : Does (.tmReq f) s [.phy, .lnk, .ev, .sen] fun t =>
    Queued { dst := f.orig, kind := 4, msgId := s.lnk.msgNext, orig := nodeId s, final := f.orig,
             body := (offerFor f.orig u).flatMap wordsBytes } s t ∧
      (∀ m ∈ t.phy.maps, pendOf f.orig false m = true → m.words ∈ offerFor f.orig u) ∧
      (∀ n, neighOf s f.orig = some n → (neighOf t f.orig).map (·.genLast) = some (n.genLast + 1)) := by
  have ha := msgHere_accepted h
  have hm := upd_msgState ha
  have hexec := exec_tmReq f s
  rw [takeMsg_here _ h, reqAct_eq, ← hu] at hexec
  have hx : Upd [.phy] (msgState f s) u := hu ▸ upd_modPhy ..
  have hgen : Upd [.lnk] u (genTaken f.orig u) := upd_modNeigh ..
  have hload := upd_mapsOffered f.orig u
  have hall : Upd [.phy, .lnk, .ev, .sen] s (mapsOffered f.orig u) := .comp hload rfl (.comp hgen rfl (.comp hx rfl (hm.mono rfl)))
  have hlnk : (mapsOffered f.orig u).lnk = (genTaken f.orig u).lnk := hload.lnk rfl
  have hulnk : u.lnk = (msgState f s).lnk := hx.lnk rfl
  have hnode : nodeId (mapsOffered f.orig u) = nodeId s := hall.read nodeId fun _ => rfl
  have hnext : (genTaken f.orig u).lnk.msgNext = s.lnk.msgNext := by
    rw [genTaken, modNeigh, State.modLnk_lnk, hulnk]
    exact msgState_read ha (·.lnk.msgNext) fun _ _ _ _ _ => rfl
  have hqueue : (genTaken f.orig u).lnk.queue = s.lnk.queue := by
    rw [genTaken, modNeigh, State.modLnk_lnk, hulnk]
    exact msgState_read ha (·.lnk.queue) fun _ _ _ _ _ => rfl
  have hneigh : neighOf u = neighOf s := by
    funext k
    rw [neighOf, hulnk]
    exact msgState_read ha (neighOf · k) fun _ _ _ _ _ => rfl
  refine ⟨_, hexec, .comp (upd_lnkTo ..) rfl hall, ?_, fun m hmem hpend => ?_, fun n hn => ?_⟩
  · unfold Queued
    rw [lnkTo_eq, State.modLnk_lnk, hlnk, hnext, hqueue, hnode]
    rfl
  · rw [lnkTo_eq] at hmem
    rcases loadMaps_maps _ _ m hmem with hmem | hmem
    · rw [hgen.phy rfl, hu] at hmem
      have hout := (List.mem_filter.mp hmem).2
      rw [hpend] at hout
      cases hout
    · exact hmem
  · have hsame : neighOf (lnkTo 4 f.orig ((offerFor f.orig u).flatMap wordsBytes) (mapsOffered f.orig u)) f.orig =
        neighOf (genTaken f.orig u) f.orig := by
      rw [lnkTo_eq, neighOf, State.modLnk_lnk, hlnk, neighOf]
    rw [hsame, genTaken, neighOf_modNeigh_same (f := genOffered _) (fun _ => rfl), hneigh, hn]
    rfl

end

/-- Settles O49, command by command: the backoff is known before the frame is judged; a frame that fails is repeated or lost; both ends of an exchange
commit through `commitWith`. -/
theorem accessAndToneMaps : Obligations.AccessAndToneMaps := by
  unfold Obligations.AccessAndToneMaps
  exact ⟨fun j units s h => contention_idles h, fun j units b m s hnext hopen hb h => contention_frozen hnext hopen hb h,
    fun j units b n m s hnext hopen hb hle hfits hc hn => contention_repeats hnext hopen hb hle hfits hc hn,
    fun j units b x n m s hnext hopen hb hle hfits hc hx => contention_sends hnext hopen hb hle hfits hc hx,
    fun node fseq st q m s ho hup hst h => ack_again ho hup hst h, fun node fseq st q m s ho hup hst h => ack_lost ho hup hst h,
    fun node fseq q m s ho hup h5 h1 => acked_completes ho hup h5 h1, fun node fseq q m s ho hup h1 => acked_collect ho hup h1,
    fun node fseq q m s ho hup h5 => acked_commits ho hup h5, fun node fseq st q s h => ack_idles h,
    fun node fseq m s ho hup h => timeout_again ho hup h, fun node fseq m s ho hup h => timeout_lost ho hup h,
    fun node fseq s h => timeout_idles h, fun node few s hup hn hdue hq => refresh_asks hup hn hdue hq,
    fun node few s h => refresh_idles h, fun f body u s h hu => request_answered h hu, fun f body r s h hr => offer_taken h hr,
    fun f q body s h => ack_commits h⟩

end Sys2Proof.Machine
end

section
/-! PROOF. Obligation O50 (18 R615 to R617, R619, R620, R636; 19 R654, R656). -/

namespace Sys2Proof.Machine

open Host

/-! Share frames sent (18 R619). -/

section
variable {s : State}

/-- The share frame of this epoch is on its way. -/
def shareNoted (s : State) : State := s.modLnk fun l => { l with sharedEpoch := some (estCount s / 64) }

theorem share_sent {d : Demand} {x n : Nat} (hd : s.share.sent.find? (fun d => d.epoch == s.clk.count / 64) = some d) (hup : lnkUp s = true)
    (hst : s.lnk.st ≠ .listen) (hnew : s.lnk.sharedEpoch ≠ some (estCount s / 64)) (hslot : estCount s % 64 = shareCycle (nodeId s))
    (hopen : txOpen x n s = true) : Does .shareFrameSend s [.phy, .lnk] fun t =>
      BroadcastSent 1 (estCount s / 4) x n { kind := 11, orig := nodeId s, bcastFinal := true, hops := 0, body := shareBody s d } s t ∧
        t.lnk.sharedEpoch = some (estCount s / 64) := by
  have hopen' : txOpen x n (shareNoted s) = true := hopen
  have hexec : exec .shareFrameSend s = .next (broadcastSent 1 (estCount s / 4) x n
      { kind := 11, orig := nodeId s, bcastFinal := true, hops := 0, body := shareBody s d } (shareNoted s)) := by
    rw [← sendBroadcast_open hopen']
    change execShareFrameSend s = _
    unfold execShareFrameSend
    rw [hd]
    dsimp only
    rw [if_neg (by simp [hup, hst, hnew, hslot])]
    rfl
  have hu : Upd [.lnk] s (shareNoted s) := upd_modLnk ..
  refine ⟨_, hexec, .comp (upd_broadcastSent ..) rfl (hu.mono rfl), (broadcastSent_holds ..).of_link hu rfl rfl, ?_⟩
  obtain ⟨_, _, _, _, _, _, hdrawn⟩ := fctrDrawn_lnk x n (shareNoted s)
  exact (congrArg Lnk.sharedEpoch hdrawn :)

theorem shareSend_idles (h : (∀ d ∈ s.share.sent, d.epoch ≠ s.clk.count / 64) ∨ lnkUp s = false ∨ s.lnk.st = .listen ∨
    s.lnk.sharedEpoch = some (estCount s / 64) ∨ estCount s % 64 ≠ shareCycle (nodeId s)) : Idles .shareFrameSend s := by
  change execShareFrameSend s = _
  unfold execShareFrameSend
  dsimp only
  cases hd : s.share.sent.find? fun d => d.epoch == s.clk.count / 64 with
  | none => rfl
  | some d =>
    dsimp only
    rw [if_pos]
    rcases h with h | h | h | h | h
    · have := List.find?_some hd
      exact absurd (by simpa using this) (h d (List.mem_of_find?_eq_some hd))
    all_goals simp [h]

end

/-! What a share frame reports (18 R615 to R617). -/

section
variable {f : AcFrame} {w : State}

theorem countReported_lnk (f : AcFrame) (w : State) : ∃ c n, (countReported f w).lnk = { w.lnk with countDiff := c, countSeen := n } := by
  unfold countReported
  split
  · obtain ⟨c, n, h, _⟩ := takeCountSeen_lnk f.src (natLE ((f.body.drop 18).take 8)) w
    exact ⟨c, n, h⟩
  · exact ⟨w.lnk.countDiff, w.lnk.countSeen, rfl⟩

theorem claimReported_lnk (f : AcFrame) (w : State) : (claimReported f w).lnk =
    { w.lnk with claimant := if bitOf (f.body.getD 3 0) 2 then min w.lnk.claimant f.src else w.lnk.claimant } := by
  unfold claimReported
  split <;> rfl

theorem upd_claimReported (f : AcFrame) (w : State) : Upd [.lnk] w (claimReported f w) := by
  unfold claimReported
  split
  · exact upd_modLnk ..
  · exact .refl ..

theorem upd_countReported (f : AcFrame) (w : State) : Upd [.lnk, .ev, .sen] w (countReported f w) := by
  unfold countReported
  split
  · exact upd_takeCountSeen ..
  · exact .refl ..

/-- The state before the coordinator that the frame names is looked at. -/
theorem claimed_reads (f : AcFrame) (w : State) :
    coordBelow f (claimReported f (countReported f w)) = coordBelow f w := by
  obtain ⟨c, n, hcount⟩ := countReported_lnk f w
  have hupd : Upd [.lnk, .ev, .sen] w (claimReported f (countReported f w)) := .comp (upd_claimReported ..) rfl (upd_countReported ..)
  have hnode : nodeId (claimReported f (countReported f w)) = nodeId w := hupd.read nodeId fun _ => rfl
  rw [coordBelow, coordBelow, hnode, claimReported_lnk, hcount]

theorem coordReported_eq (f : AcFrame) (w : State) :
    coordReported f w = if coordBelow f w then coordStops (f.body.getD 2 255) w else w := by
  rw [coordReported, coordBelow]
  rfl

/-- What the reports leave of the link: neighbours and records stand, the lowest claimant is kept, and a coordinator that learns of a lower one
stops. -/
theorem shareReported_lnk (f : AcFrame) (w : State) : (shareReported f w).lnk.neigh = w.lnk.neigh ∧
    (shareReported f w).lnk.demands = w.lnk.demands ∧ (shareReported f w).lnk.fullEpoch = w.lnk.fullEpoch ∧
    (shareReported f w).lnk.claimant = (if bitOf (f.body.getD 3 0) 2 then min w.lnk.claimant f.src else w.lnk.claimant) ∧
    if coordBelow f w then Listens (shareReported f w)
    else (shareReported f w).lnk.st = w.lnk.st ∧ (shareReported f w).lnk.parent = w.lnk.parent ∧ (shareReported f w).lnk.depth = w.lnk.depth := by
  obtain ⟨c, n, hcount⟩ := countReported_lnk f w
  have hclaim := claimReported_lnk f (countReported f w)
  rw [hcount] at hclaim
  rw [shareReported, coordReported_eq, claimed_reads]
  cases hb : coordBelow f w with
  | true =>
    rw [if_pos rfl, if_pos rfl]
    obtain ⟨e, hstop⟩ := toListen_eq (raise 0x30A4 5 255 (nodeId (claimReported f (countReported f w)) * 2 ^ 24 + f.body.getD 2 255 * 2 ^ 16)
      (claimReported f (countReported f w)))
    refine ⟨?_, ?_, ?_, ?_, coordStops_listens ..⟩
    all_goals
      rw [coordStops, hstop, State.modLnk_lnk, raise_lnk, hclaim]
      rfl
  | false =>
    rw [if_neg Bool.false_ne_true, if_neg Bool.false_ne_true, hclaim]
    exact ⟨rfl, rfl, rfl, rfl, rfl, rfl, rfl⟩

theorem countReported_agree {v s : State} (h : EventsAgree v w) (hest : estCount w = estCount s) :
    EventsAgree (raiseIf (aheadBad f s) 0x30AC 5 255 (f.src * 2 ^ 24) v) (countReported f w) := by
  unfold aheadBad countReported
  cases hb : bitOf (f.body.getD 3 0) 4 with
  | true =>
    rw [Bool.true_and, if_pos rfl]
    exact takeCountSeen_agree _ _ h hest
  | false =>
    rw [Bool.false_and, if_neg Bool.false_ne_true]
    exact h

/-- The events of the reports (18 R638). -/
theorem shareReported_ev {v s : State} (h : EventsAgree v w) (hest : estCount w = estCount s) (hnode : nodeId w = nodeId s)
    (hst : w.lnk.st = s.lnk.st) : (shareReported f w).ev =
      (raiseIf (coordBelow f s) 0x30A4 5 255 (nodeId s * 2 ^ 24 + f.body.getD 2 255 * 2 ^ 16)
        (raiseIf (aheadBad f s) 0x30AC 5 255 (f.src * 2 ^ 24) v)).ev := by
  have hbelow : coordBelow f w = coordBelow f s := by rw [coordBelow, coordBelow, hst, hnode]
  have hagree : EventsAgree (raiseIf (aheadBad f s) 0x30AC 5 255 (f.src * 2 ^ 24) v) (claimReported f (countReported f w)) :=
    (countReported_agree h hest).trans ((upd_claimReported ..).eventsAgree rfl rfl rfl rfl)
  have hupd : Upd [.lnk, .ev, .sen] w (claimReported f (countReported f w)) := .comp (upd_claimReported ..) rfl (upd_countReported ..)
  have hnode' : nodeId (claimReported f (countReported f w)) = nodeId s := (hupd.read nodeId fun _ => rfl).trans hnode
  rw [shareReported, coordReported_eq, claimed_reads, hbelow]
  cases coordBelow f s with
  | true =>
    rw [if_pos rfl, coordStops_ev, hnode']
    exact (hagree.raise ..).ev
  | false =>
    rw [if_neg Bool.false_ne_true]
    exact hagree.ev

end

/-! The sender's entry (18 R620, R636). -/

theorem qualityOf_congr {s t : State} (hgain : gainOf t = gainOf s) (hlevel : levelOf t = levelOf s) (hnoise : meanNoise t = meanNoise s)
    (hmap : t.phy.classMap = s.phy.classMap) : qualityOf t = qualityOf s := by
  have hon : onCarriers t = onCarriers s := by rw [onCarriers, onCarriers, hgain]
  funext node
  rw [qualityOf, qualityOf, hon, hlevel, hnoise, hmap]

theorem phaseStep_congr {s t : State} (h : phaseP t = phaseP s) : phaseStep t = phaseStep s := by
  funext phase
  rw [phaseStep, phaseStep, h]

section
variable {f : AcFrame} {s : State}

/-- The demand record of a share frame is kept. -/
def recordKept (f : AcFrame) (s : State) : State := keepDemand (demandOfBytes (estCount s / 64) ((f.body.drop 26).take 8)) s

theorem shareRoom_eq (f : AcFrame) (s : State) : shareRoom f s = neighRoom f.src (recordKept f s) := rfl

/-- The entry for the sender is found or made. -/
def neighMade (f : AcFrame) (s : State) : List Neigh := if (neighOf s f.src).isSome then s.lnk.neigh else s.lnk.neigh ++ [{ node := f.src }]

theorem neighRoom_fits (h : neighFits f s = true) : neighRoom f.src s = (true, s.modLnk fun l => { l with neigh := neighMade f s }) := by
  unfold neighRoom neighMade
  by_cases hn : (neighOf s f.src).isSome = true
  · rw [if_pos hn, if_pos hn]
    rfl
  · have hroom : s.lnk.neigh.length < 32 := by
      simpa [neighFits, hn] using h
    rw [if_neg hn, if_pos hroom, if_neg hn]
    rfl

theorem find?_neighMade (f : AcFrame) (s : State) (n : Nat) : (neighMade f s).find? (·.node == n) =
    if n = f.src then some ((neighOf s f.src).getD { node := f.src }) else neighOf s n := by
  unfold neighMade
  by_cases hsome : (neighOf s f.src).isSome = true
  · rw [if_pos hsome]
    obtain ⟨x, hx⟩ := Option.isSome_iff_exists.mp hsome
    by_cases hn : n = f.src
    · rw [if_pos hn, hn, hx]
      exact hx
    · rw [if_neg hn]
      rfl
  · rw [if_neg hsome, List.find?_append]
    have hnone : neighOf s f.src = none := by simpa using hsome
    by_cases hn : n = f.src
    · rw [if_pos hn, hn, hnone, show s.lnk.neigh.find? (·.node == f.src) = none from hnone]
      simp
    · rw [if_neg hn, neighOf]
      cases hx : s.lnk.neigh.find? (·.node == n) with
      | none => simp [Ne.symm hn]
      | some x => rfl

/-- A frame is taken, with these records and entries held. -/
def linked (f : AcFrame) (ds : List Demand) (ns : List Neigh) (s : State) : State :=
  (frameTaken f s).modLnk fun l => { l with demands := ds, neigh := ns }

theorem upd_linked (f : AcFrame) (ds : List Demand) (ns : List Neigh) (s : State) : Upd [.phy, .lnk] s (linked f ds ns s) :=
  .comp (upd_modLnk ..) rfl (upd_frameTaken f s)

/-- A function that reads neither windows, acknowledgements, maps and requests nor records and entries reads the same after them. -/
theorem linked_read {α : Type} (f : AcFrame) (ds : List Demand) (ns : List Neigh) (g : State → α)
    (hg : ∀ w a m x ds ns, g ((received w a m x s).modLnk fun l => { l with demands := ds, neigh := ns }) = g s) : g (linked f ds ns s) = g s :=
  (frameTaken_read f (fun u => g (u.modLnk fun l => { l with demands := ds, neigh := ns })) fun w a m x => (hg w a m x ds ns).trans
    (hg s.lnk.wins s.lnk.acks s.phy.maps s.phy.tx ds ns).symm).trans (hg s.lnk.wins s.lnk.acks s.phy.maps s.phy.tx ds ns)

/-- The entries with the sender's written. -/
def entriesTaken (f : AcFrame) (ns : List Neigh) (s : State) : List Neigh :=
  ns.map fun n => if n.node == f.src then entryOf f (shareStep f s) (qualityOf s f.src) s.clk.count n else n

theorem shareStep_linked (f : AcFrame) (ds : List Demand) (ns : List Neigh) (s : State) : shareStep f (linked f ds ns s) = shareStep f s := by
  have hp : phaseP (linked f ds ns s) = phaseP s := linked_read f ds ns phaseP fun _ _ _ _ _ _ => rfl
  rw [shareStep, shareStep, phaseStep_congr hp]

theorem entryTaken_linked (f : AcFrame) (ds : List Demand) (ns : List Neigh) (s : State) :
    entryTaken f (linked f ds ns s) = linked f ds (entriesTaken f ns s) s := by
  have hq : qualityOf (linked f ds ns s) = qualityOf s :=
    qualityOf_congr (linked_read f ds ns gainOf fun _ _ _ _ _ _ => rfl) (linked_read f ds ns levelOf fun _ _ _ _ _ _ => rfl)
      (linked_read f ds ns meanNoise fun _ _ _ _ _ _ => rfl) (linked_read f ds ns (·.phy.classMap) fun _ _ _ _ _ _ => rfl)
  rw [entryTaken, shareStep_linked, hq, (upd_linked f ds ns s).clk rfl]
  rfl

theorem phaseNoted_agree {v w : State} (h : EventsAgree v w) (hrot : rotPositive w = rotPositive s) (changed : Bool) (k : Option Nat) :
    EventsAgree (raiseIf (k.isSome && changed) 0x30A6 5 255
      (f.src * 2 ^ 24 + conductorOf (rotPositive s) (k.getD 0) * 16 + (k.getD 0 % 2) * 8) v) (phaseNoted f changed k w) := by
  cases k with
  | none => exact h
  | some k =>
    rw [phaseNoted, hrot]
    exact h.raiseIf ..

theorem upd_phaseNoted (f : AcFrame) (changed : Bool) (k : Option Nat) (w : State) : Upd [.ev, .sen] w (phaseNoted f changed k w) := by
  cases k with
  | none => exact .refl ..
  | some k => exact upd_raiseIf ..

/-- The phase step kept for the sender before the frame. -/
def stepKept (f : AcFrame) (ns : List Neigh) : Option Nat := (ns.find? (·.node == f.src)).bind (·.k)

theorem shareTaken_linked {ds : List Demand} {ns : List Neigh} (hroom : shareRoom f (frameTaken f s) = (true, linked f ds ns s)) :
    ∃ w, shareTaken f (frameTaken f s) = shareReported f w ∧ w.lnk = (linked f ds (entriesTaken f ns s) s).lnk ∧
      estCount w = estCount s ∧ nodeId w = nodeId s ∧
      EventsAgree (raiseIf ((shareStep f s).isSome && shareStep f s != stepKept f ns) 0x30A6 5 255
        (f.src * 2 ^ 24 + conductorOf (rotPositive s) ((shareStep f s).getD 0) * 16 + ((shareStep f s).getD 0 % 2) * 8) s) w := by
  refine ⟨phaseNoted f (stepKept f ns != shareStep f s) (shareStep f s) (linked f ds (entriesTaken f ns s) s), ?_, ?_, ?_, ?_, ?_⟩
  · rw [shareTaken, hroom]
    dsimp only
    rw [if_neg (by decide), entryTaken_linked, shareStep_linked, Bool.true_and]
    rfl
  · exact (upd_phaseNoted ..).lnk rfl
  · exact ((upd_phaseNoted ..).read estCount fun _ => rfl).trans (linked_read _ _ _ estCount fun _ _ _ _ _ _ => rfl)
  · exact ((upd_phaseNoted ..).read nodeId fun _ => rfl).trans ((upd_linked ..).read nodeId fun _ => rfl)
  · rw [bne_comm]
    exact phaseNoted_agree ((upd_linked ..).eventsAgree rfl rfl rfl rfl) ((upd_linked ..).read rotPositive fun _ => rfl) ..

theorem recordKept_eq (f : AcFrame) (s : State) : ∃ ds, recordKept f (frameTaken f s) = linked f ds s.lnk.neigh s ∧
    (ds.any fun x => { x with acked := false } == demandOfBytes (estCount s / 64) ((f.body.drop 26).take 8)) = true := by
  have hest : estCount (frameTaken f s) = estCount s := frameTaken_read f estCount fun _ _ _ _ => rfl
  have hneigh : (frameTaken f s).lnk.neigh = s.lnk.neigh := frameTaken_read f (·.lnk.neigh) fun _ _ _ _ => rfl
  have hheld := keepDemand_held (demandOfBytes (estCount s / 64) ((f.body.drop 26).take 8)) (demandOfBytes_new ..) (frameTaken f s)
  obtain ⟨ds, hds⟩ := keepDemand_eq (demandOfBytes (estCount s / 64) ((f.body.drop 26).take 8)) (frameTaken f s)
  rw [hds] at hheld
  refine ⟨ds, ?_, hheld⟩
  rw [recordKept, hest, hds, linked, ← hneigh]
  rfl

theorem find?_entriesTaken (f : AcFrame) (ns : List Neigh) (s : State) (n : Nat) : (entriesTaken f ns s).find? (·.node == n) =
    (ns.find? (·.node == n)).map fun x =>
      if x.node == f.src then entryOf f (shareStep f s) (qualityOf s f.src) s.clk.count x else x :=
  find?_map_node (f := entryOf f _ _ _) (fun _ => rfl) ns n

theorem neighOf_node {n : Nat} {x : Neigh} (h : neighOf s n = some x) : x.node = n := by
  unfold neighOf at h
  simpa using List.find?_some h

theorem neighOf_entriesTaken {t : State} (hneigh : t.lnk.neigh = entriesTaken f (neighMade f s) s) :
    neighOf t f.src = some (neighAfter f s) ∧ ∀ n, n ≠ f.src → neighOf t n = neighOf s n := by
  constructor
  · rw [neighOf, hneigh, find?_entriesTaken, find?_neighMade, if_pos rfl, Option.map_some, if_pos]
    · rfl
    · cases hn : neighOf s f.src with
      | none => simp
      | some x => simp [neighOf_node hn]
  · intro n hn
    rw [neighOf, hneigh, find?_entriesTaken, find?_neighMade, if_neg hn]
    cases hx : neighOf s n with
    | none => rfl
    | some x =>
      simp [neighOf_node hx, hn]

theorem exec_share {t : State} (h : (lnkAccept f s).1 = true) (ht : shareTaken f (frameTaken f s) = t) :
    exec (.shareFrameRx f) s = .next t ∧ Upd [.phy, .lnk, .ev, .sen] s t := by
  have hexec := exec_shareFrameRx h
  obtain ⟨u, hu, hupd⟩ := upd_execShareFrameRx f s
  rw [ht] at hexec
  obtain rfl : t = u := by injection hexec.symm.trans hu
  exact ⟨hexec, hupd⟩

theorem share_taken (h : (lnkAccept f s).1 = true) (hfits : neighFits f s = true) : Does (.shareFrameRx f) s [.phy, .lnk, .ev, .sen] fun t =>
    neighOf t f.src = some (neighAfter f s) ∧ (∀ n : Nat, n < 256 → n ≠ f.src → neighOf t n = neighOf s n) ∧
      (t.lnk.demands.any fun x => { x with acked := false } == demandOfBytes (estCount s / 64) ((f.body.drop 26).take 8)) = true ∧
      t.ev = (shareEvents f s).ev ∧
      t.lnk.claimant = (if bitOf (f.body.getD 3 0) 2 then min s.lnk.claimant f.src else s.lnk.claimant) ∧
      if coordBelow f s then Listens t else t.lnk.st = s.lnk.st ∧ t.lnk.parent = s.lnk.parent ∧ t.lnk.depth = s.lnk.depth := by
  obtain ⟨ds, hkept, hheld⟩ := recordKept_eq f s
  have hfits' : neighFits f (linked f ds s.lnk.neigh s) = true := hfits
  have hroom : shareRoom f (frameTaken f s) = (true, linked f ds (neighMade f s) s) := by
    rw [shareRoom_eq, hkept, neighRoom_fits hfits']
    rfl
  obtain ⟨w, hw, hlnk, hest, hnode, hagree⟩ := shareTaken_linked hroom
  obtain ⟨hexec, hupd⟩ := exec_share h hw
  obtain ⟨hneigh, hdem, _, hclaim, hcoord⟩ := shareReported_lnk f w
  have hst : w.lnk.st = s.lnk.st := by
    rw [hlnk]
    exact linked_read f ds _ (·.lnk.st) fun _ _ _ _ _ _ => rfl
  have hdepth : w.lnk.depth = s.lnk.depth := by
    rw [hlnk]
    exact linked_read f ds _ (·.lnk.depth) fun _ _ _ _ _ _ => rfl
  have hparent : w.lnk.parent = s.lnk.parent := by
    rw [hlnk]
    exact linked_read f ds _ (·.lnk.parent) fun _ _ _ _ _ _ => rfl
  have hclaimant : w.lnk.claimant = s.lnk.claimant := by
    rw [hlnk]
    exact linked_read f ds _ (·.lnk.claimant) fun _ _ _ _ _ _ => rfl
  have hbelow : coordBelow f w = coordBelow f s := by rw [coordBelow, coordBelow, hst, hnode]
  have hstep : stepKept f (neighMade f s) = (neighOf s f.src).bind (·.k) := by
    rw [stepKept, find?_neighMade, if_pos rfl]
    cases neighOf s f.src <;> rfl
  obtain ⟨hown, hothers⟩ := neighOf_entriesTaken (f := f) (s := s) (hneigh.trans (by rw [hlnk]; rfl))
  rw [hbelow, hst, hdepth, hparent] at hcoord
  rw [hclaimant] at hclaim
  refine ⟨_, hexec, hupd, hown, fun n _ hn => hothers n hn, ?_, ?_, hclaim, hcoord⟩
  · rw [hdem, hlnk]
    exact hheld
  · rw [shareReported_ev hagree hest hnode hst, hstep]
    rfl

/-! No free entry (18 R620, R636). -/

/-- The quieter of two silent entries. -/
def lowerQuality (b : Option Neigh) (n : Neigh) : Option Neigh :=
  match b with
  | some x => if n.quality < x.quality then some n else some x
  | none => some n

theorem lowerQuality_cases (b : Option Neigh) (n : Neigh) : lowerQuality b n = some n ∨ lowerQuality b n = b := by
  cases b with
  | none => exact .inl rfl
  | some x =>
    unfold lowerQuality
    dsimp only
    split
    · exact .inl rfl
    · exact .inr rfl

theorem foldl_lowerQuality {x : Neigh} (l : List Neigh) (b : Option Neigh) (hx : x ∈ l ∨ b = some x)
    (hlow : ∀ y, y ∈ l ∨ b = some y → y ≠ x → x.quality < y.quality) : l.foldl lowerQuality b = some x := by
  induction l generalizing b with
  | nil => simpa using hx
  | cons n l ih =>
    rw [List.foldl_cons]
    refine ih _ ?_ fun y hy hne => hlow y ?_ hne
    · by_cases hl : x ∈ l
      · exact .inl hl
      · right
        by_cases hn : n = x
        · subst hn
          cases b with
          | none => rfl
          | some y =>
            by_cases hy : y = n
            · subst hy
              exact (lowerQuality_cases _ _).elim id id
            · exact if_pos (hlow y (.inr rfl) hy)
        · have hb : b = some x := by simpa [hl, Ne.symm hn] using hx
          rw [hb]
          exact if_neg (Nat.not_lt.mpr (hlow n (by simp) hn).le)
    · rcases hy with hy | hy
      · exact .inl (List.mem_cons_of_mem _ hy)
      · rcases lowerQuality_cases b n with hcase | hcase
        · rw [hcase] at hy
          exact .inl (by simpa using Or.inl (Option.some.inj hy).symm)
        · exact .inr (hcase ▸ hy)

/-- The entries that are silent. -/
def silentEntries (s : State) : List Neigh := s.lnk.neigh.filter silent

/-- An entry without room for one more (18 R620). -/
def neighSwap (node : Nat) (x : Option Neigh) (s : State) : Bool × State :=
  match x with
  | some x => (true, s.modLnk fun l => { l with neigh := (l.neigh.filter fun n => n.node != x.node) ++ [{ node }] })
  | none =>
    let e := s.clk.count / 64
    if s.lnk.fullEpoch = e then (false, s) else (false, raise 0x30AE 5 255 node (s.modLnk fun l => { l with fullEpoch := e }))

theorem neighRoom_full (h : neighFits f s = false) :
    neighRoom f.src s = neighSwap f.src ((silentEntries s).foldl lowerQuality none) s := by
  unfold neighRoom
  simp only [neighFits, Bool.or_eq_false_iff, decide_eq_false_iff_not] at h
  obtain ⟨hnone, hfull⟩ := h
  rw [if_neg (by simp [hnone]), if_neg hfull]
  rfl

theorem entriesTaken_nodes (f : AcFrame) (ns : List Neigh) (s : State) : (entriesTaken f ns s).map (·.node) = ns.map (·.node) := by
  rw [entriesTaken, List.map_map]
  refine List.map_congr_left fun n _ => ?_
  rw [Function.comp_apply]
  split <;> rfl

theorem share_replaces {x : Neigh} (h : (lnkAccept f s).1 = true) (hfull : neighFits f s = false) (hx : x ∈ s.lnk.neigh)
    (hquiet : silent x = true) (hlow : ∀ y ∈ s.lnk.neigh, silent y = true → y ≠ x → x.quality < y.quality)
    (hnodup : (s.lnk.neigh.map (·.node)).Nodup) : Does (.shareFrameRx f) s [.phy, .lnk, .ev, .sen] fun t =>
      t.lnk.neigh.map (·.node) = (s.lnk.neigh.map (·.node)).erase x.node ++ [f.src] ∧
        (neighOf t f.src).map (·.serial) = some (natLE ((f.body.drop 6).take 8)) := by
  obtain ⟨ds, hkept, _⟩ := recordKept_eq f s
  have hfull' : neighFits f (linked f ds s.lnk.neigh s) = false := hfull
  have hlowest : (silentEntries s).foldl lowerQuality none = some x := by
    refine foldl_lowerQuality _ _ (.inl (List.mem_filter.mpr ⟨hx, hquiet⟩)) fun y hy hne => ?_
    rcases hy with hy | hy
    · obtain ⟨hmem, hsil⟩ := List.mem_filter.mp hy
      exact hlow y hmem hsil hne
    · cases hy
  have hsilent : silentEntries (linked f ds s.lnk.neigh s) = silentEntries s := rfl
  have hroom : shareRoom f (frameTaken f s) =
      (true, linked f ds ((s.lnk.neigh.filter fun n => n.node != x.node) ++ [{ node := f.src }]) s) := by
    rw [shareRoom_eq, hkept, neighRoom_full hfull', hsilent, hlowest]
    rfl
  obtain ⟨w, hw, hlnk, _⟩ := shareTaken_linked hroom
  obtain ⟨hexec, hupd⟩ := exec_share h hw
  obtain ⟨hneigh, _⟩ := shareReported_lnk f w
  have hentries : (shareReported f w).lnk.neigh =
      entriesTaken f ((s.lnk.neigh.filter fun n => n.node != x.node) ++ [{ node := f.src }]) s := hneigh.trans (by rw [hlnk]; rfl)
  have hnone : neighOf s f.src = none := by
    simp only [neighFits, Bool.or_eq_false_iff] at hfull
    simpa using hfull.1
  refine ⟨_, hexec, hupd, ?_, ?_⟩
  · rw [hentries, entriesTaken_nodes, List.map_append, hnodup.erase_eq_filter, List.filter_map]
    rfl
  · rw [neighOf, hentries, find?_entriesTaken, List.find?_append, List.find?_eq_none.mpr]
    · simp [entryOf]
    · intro y hy
      exact List.find?_eq_none.mp hnone y (List.mem_filter.mp hy).1

/-- The first refusal of an epoch is noted. -/
def neighRefused (node : Nat) (s : State) : State :=
  raiseIf (decide (s.lnk.fullEpoch ≠ s.clk.count / 64)) 0x30AE 5 255 node (s.modLnk fun l => { l with fullEpoch := s.clk.count / 64 })

theorem neighSwap_none (node : Nat) (s : State) : neighSwap node none s = (false, neighRefused node s) := by
  unfold neighSwap neighRefused raiseIf
  dsimp only
  by_cases he : s.lnk.fullEpoch = s.clk.count / 64
  · rw [if_pos he, if_neg (by simp [he]), ← he]
    rfl
  · rw [if_neg he, if_pos (by simp [he])]

theorem phaseNoted_unchanged (f : AcFrame) (k : Option Nat) (w : State) : phaseNoted f false k w = w := by
  cases k <;> rfl

theorem share_full (h : (lnkAccept f s).1 = true) (hfull : neighFits f s = false) (hheard : ∀ y ∈ s.lnk.neigh, silent y = false)
    (hahead : aheadBad f s = false) (hbelow : coordBelow f s = false) : Does (.shareFrameRx f) s [.phy, .lnk, .ev, .sen] fun t =>
      t.lnk.neigh = s.lnk.neigh ∧ t.lnk.fullEpoch = s.clk.count / 64 ∧
        t.ev = (raiseIf (decide (s.lnk.fullEpoch ≠ s.clk.count / 64)) 0x30AE 5 255 f.src s).ev := by
  obtain ⟨ds, hkept, _⟩ := recordKept_eq f s
  have hfull' : neighFits f (linked f ds s.lnk.neigh s) = false := hfull
  have hnone : silentEntries (linked f ds s.lnk.neigh s) = [] := List.filter_eq_nil_iff.mpr fun y hy => by simp [hheard y hy]
  have hroom : shareRoom f (frameTaken f s) = (false, neighRefused f.src (linked f ds s.lnk.neigh s)) := by
    rw [shareRoom_eq, hkept, neighRoom_full hfull', hnone, List.foldl_nil, neighSwap_none]
  have hw : shareTaken f (frameTaken f s) = shareReported f (neighRefused f.src (linked f ds s.lnk.neigh s)) := by
    rw [shareTaken, hroom]
    dsimp only
    rw [Bool.false_and, phaseNoted_unchanged]
    rfl
  obtain ⟨hexec, hupd⟩ := exec_share h hw
  obtain ⟨hneigh, _, hfullEpoch, _⟩ := shareReported_lnk f (neighRefused f.src (linked f ds s.lnk.neigh s))
  have hlinked := upd_linked f ds s.lnk.neigh s
  have hepoch : (linked f ds s.lnk.neigh s).lnk.fullEpoch = s.lnk.fullEpoch := linked_read f _ _ (·.lnk.fullEpoch) fun _ _ _ _ _ _ => rfl
  have hlnk : (neighRefused f.src (linked f ds s.lnk.neigh s)).lnk =
      { (linked f ds s.lnk.neigh s).lnk with fullEpoch := s.clk.count / 64 } := by
    rw [neighRefused, raiseIf_lnk, State.modLnk_lnk, hlinked.clk rfl]
  have hagree : EventsAgree (raiseIf (decide (s.lnk.fullEpoch ≠ s.clk.count / 64)) 0x30AE 5 255 f.src s)
      (neighRefused f.src (linked f ds s.lnk.neigh s)) := by
    rw [neighRefused, hepoch, hlinked.clk rfl]
    exact ((hlinked.eventsAgree rfl rfl rfl rfl).trans ((upd_modLnk ..).eventsAgree rfl rfl rfl rfl)).raiseIf ..
  have hrefused : Upd [.lnk, .ev, .sen] (linked f ds s.lnk.neigh s) (neighRefused f.src (linked f ds s.lnk.neigh s)) :=
    .comp (upd_raiseIf ..) rfl ((upd_modLnk ..).mono rfl)
  have hest : estCount (neighRefused f.src (linked f ds s.lnk.neigh s)) = estCount s := by
    rw [estCount, hrefused.clk rfl, hlnk]
    exact linked_read f ds s.lnk.neigh estCount fun _ _ _ _ _ _ => rfl
  have hnode : nodeId (neighRefused f.src (linked f ds s.lnk.neigh s)) = nodeId s :=
    (hrefused.read nodeId fun _ => rfl).trans (hlinked.read nodeId fun _ => rfl)
  have hst : (neighRefused f.src (linked f ds s.lnk.neigh s)).lnk.st = s.lnk.st := by
    rw [hlnk]
    exact linked_read f ds s.lnk.neigh (·.lnk.st) fun _ _ _ _ _ _ => rfl
  refine ⟨_, hexec, hupd, ?_, ?_, ?_⟩
  · rw [hneigh, hlnk]
    rfl
  · rw [hfullEpoch, hlnk]
  · rw [shareReported_ev hagree hest hnode hst, hahead, hbelow]
    rfl

end

/-! LLIM (19 R654, R656). -/

section
variable {s : State}

/-- The level-3 term of a point. -/
def termOf (on : Bool) (fac : Nat) (x : PtCp) : PtCp := { x with llim := if on then x.share.map fun c => c * fac / 100 else none }

/-- LLIM has taken the other level. -/
def llimTurned (s : State) : State :=
  raise (if s.share.llim then 0x30B4 else 0x30B3) 5 255 (llimFactor (ownPay s))
    (s.modShare fun h => { h with llim := !s.share.llim, llimRun := 0, llimHist := (!s.share.llim) :: h.llimHist.drop 1 })

theorem doLlimChange_turns (hrun : 4 ≤ s.share.llimRun) (hcond : s.life.cond = .run) (hpay : (feederPay s (ownFeeder s)).isSome = true) :
    doLlimChange s = llimTerms (llimTurned s) := by
  obtain ⟨p, hp⟩ := Option.isSome_iff_exists.mp hpay
  unfold doLlimChange llimTurned
  rw [if_neg (by simp [hcond, hp]; omega)]
  cases s.share.llim <;> rfl

theorem llimTerms_eq (s : State) : llimTerms s = (fitted s).foldl
    (fun t i => t.modCp i (termOf (s.share.llim && !s.share.scaled) (llimFactor (ownPay s))))
      (s.modShare fun h => { h with term3 := s.share.llim && !s.share.scaled }) := rfl

theorem llimTerms_cp (s : State) (i : Fin 32) : (llimTerms s).cp[i] =
    if i ∈ fitted s then termOf (s.share.llim && !s.share.scaled) (llimFactor (ownPay s)) s.cp[i] else s.cp[i] := by
  rw [llimTerms_eq]
  exact foldl_entries (p := fun (t : State) (j : Fin 32) => t.cp[j]) (K := fun _ => True) (fun _ _ _ => trivial)
    (fun u j _ => modCp_cp_same j _ u) (fun u i j hij => modCp_cp_other hij _ u) ((finList_nodup 32).filter _) trivial i

theorem upd_llimTermsCp (s : State) : Upd [.cp] (s.modShare fun h => { h with term3 := s.share.llim && !s.share.scaled }) (llimTerms s) := by
  rw [llimTerms_eq]
  exact Upd.foldl (fun _ i hu => .comp (upd_modCp i _ _) rfl hu) (.refl ..)

theorem upd_llimTurned (s : State) : Upd [.share, .ev, .sen] s (llimTurned s) := .comp (upd_raise ..) rfl ((upd_modShare ..).mono rfl)

theorem llim_changes (hrun : 4 ≤ s.share.llimRun) (hcond : s.life.cond = .run) (hpay : (feederPay s (ownFeeder s)).isSome = true) :
    Does .llimChange s [.gates, .cp, .share, .ev, .sen, .freeCtr] fun t =>
      t.share.llim = (!s.share.llim) ∧ t.share.llimRun = 0 ∧ t.share.term3 = (!s.share.llim && !s.share.scaled) ∧ t.share.h = s.share.h ∧
        t.ev = (raise (if s.share.llim then 0x30B4 else 0x30B3) 5 255 (llimFactor (ownPay s)) s).ev ∧
        ∀ i : Fin 32, t.cp[i] = if i ∈ fitted s then
          { s.cp[i] with
            llim := if s.share.llim = false ∧ s.share.scaled = false then s.cp[i].share.map fun c => c * llimFactor (ownPay s) / 100 else none }
          else s.cp[i] := by
  have hturn := doLlimChange_turns hrun hcond hpay
  have hexec : exec .llimChange s = .next (atBoundary s (llimTerms (llimTurned s))) := by
    rw [← hturn]
    rfl
  obtain ⟨u, hu, hupd⟩ := upd_execLlimChange s
  have hterms := upd_llimTermsCp (llimTurned s)
  have hturned := upd_llimTurned s
  have hfitted : fitted (llimTurned s) = fitted s := hturned.read fitted fun _ => rfl
  have hown : ownPay (llimTurned s) = ownPay s := hturned.read ownPay fun _ => rfl
  have hshare : (llimTurned s).share = { s.share with
      llim := !s.share.llim, llimRun := 0, llimHist := (!s.share.llim) :: s.share.llimHist.drop 1 } := raise_share ..
  refine ⟨_, hexec, ?_, ?_⟩
  · obtain rfl : atBoundary s (llimTerms (llimTurned s)) = u := by injection hexec.symm.trans hu
    exact hupd
  · simp only [atBoundary_share, atBoundary_ev, atBoundary_cp, hterms.share rfl, hterms.ev rfl, State.modShare_share, State.modShare_ev, hshare,
      llimTerms_cp, hfitted, hown, hturned.cp rfl, true_and]
    refine ⟨((upd_modShare ..).eventsAgree rfl rfl rfl rfl |>.raise ..).ev, fun i => ?_⟩
    split
    · simp [termOf]
    · rfl

theorem llim_idles (h : s.share.llimRun < 4 ∨ s.life.cond ≠ .run ∨ feederPay s (ownFeeder s) = none) : Idles .llimChange s := by
  refine atBoundary_idles (f := doLlimChange) rfl ?_
  unfold doLlimChange
  rw [if_pos (by rcases h with h | h | h <;> simp [h])]

end

/-- Settles O50: a share frame is taken in stages, record, entry, phase, count, claim and coordinator, each of which says what it leaves; LLIM turns
as a whole. -/
theorem shareFramesAndLlim : Obligations.ShareFramesAndLlim := by
  unfold Obligations.ShareFramesAndLlim
  exact ⟨fun d x n s hd hup hst hnew hslot hopen => share_sent hd hup hst hnew hslot hopen, fun s h => shareSend_idles h,
    fun f s h hfits => share_taken h hfits, fun f x s h hfull hx hquiet hlow hnodup => share_replaces h hfull hx hquiet hlow hnodup,
    fun f s h hfull hheard hahead hbelow => share_full h hfull hheard hahead hbelow,
    fun s hrun hcond hpay => llim_changes hrun hcond hpay, fun s h => llim_idles h⟩

end Sys2Proof.Machine
end

section
/-! PROOF. Obligation O51 (20 R668, R670 to R678, R684 to R688, R691, R694). -/

namespace Sys2Proof.Machine

open Host

/-! The waveform table of an update (20 R671 to R673). -/

/-- A malformed table is reported once. -/
def tableNoted (s : State) (mode band : Nat) (malformed : Bool) : State :=
  if tableBad s mode band malformed then
    raise 0x8005 7 255 (mode * 2 ^ 24 + band * 2 ^ 16) (s.modEpd fun x => { x with badTables := (16 * mode + band) :: x.badTables })
  else s

/-- The entry of WAVEFORM_INDEX for a mode and band. -/
def indexWord (p : List W128) (mode band : Nat) : Nat :=
  payFld p (4 + (mode * (payFld p 0 123 120 + 1) + band) / 4) (32 * ((mode * (payFld p 0 123 120 + 1) + band) % 4) + 31)
    (32 * ((mode * (payFld p 0 123 120 + 1) + band) % 4))

/-- No table of the image is in use. -/
def tableGone (s : State) (p : List W128) (mode band : Nat) : Bool := s.epd.romLayout || s.img.faulty.contains (indexWord p mode band / 2 ^ 16)

section
variable {s : State} {p : List W128} {mode band : Nat} {malformed : Bool} (hp : recOf s 0x93 0 = some p)
include hp

theorem boardTable_some : boardTable s mode band malformed =
    if tableGone s p mode band || malformed then (15, 15, 24) else (mode, band, bits (indexWord p mode band) 15 8) := by
  rw [boardTable, hp]
  rfl

theorem tableBad_some : tableBad s mode band malformed =
    (malformed && !tableGone s p mode band && !s.epd.badTables.contains (16 * mode + band)) := by
  rw [tableBad, hp, tableGone, Bool.not_or, ← Bool.and_assoc]
  rfl

theorem waveTable_some : waveTable s mode band malformed =
    if tableGone s p mode band then (15, 15, 24, s)
    else if malformed then
      if s.epd.badTables.contains (16 * mode + band) then (15, 15, 24, s)
      else (15, 15, 24, raise 0x8005 7 255 (mode * 2 ^ 24 + band * 2 ^ 16)
        (s.modEpd fun x => { x with badTables := (16 * mode + band) :: x.badTables }))
    else (mode, band, bits (indexWord p mode band) 15 8, s) := by
  rw [waveTable, hp]
  rfl

end

theorem waveTable_eq (s : State) (mode band : Nat) (malformed : Bool) : waveTable s mode band malformed =
    ((boardTable s mode band malformed).1, (boardTable s mode band malformed).2.1, (boardTable s mode band malformed).2.2,
      tableNoted s mode band malformed) := by
  cases hp : recOf s 0x93 0 with
  | none => rw [waveTable, boardTable, tableNoted, tableBad, hp]; rfl
  | some p =>
    rw [waveTable_some hp, boardTable_some hp, tableNoted, tableBad_some hp]
    cases tableGone s p mode band with
    | true => cases malformed <;> rfl
    | false => cases malformed <;> cases s.epd.badTables.contains (16 * mode + band) <;> rfl

section
variable (s : State) (m b : Nat) (bad : Bool)

theorem upd_tableNoted : Upd [.epd, .ev, .sen] s (tableNoted s m b bad) := by
  unfold tableNoted
  split
  · exact .comp (upd_raise ..) rfl ((upd_modEpd ..).mono rfl)
  · exact .refl ..

theorem tableNoted_epd : (tableNoted s m b bad).epd =
    { s.epd with badTables := if tableBad s m b bad then (16 * m + b) :: s.epd.badTables else s.epd.badTables } := by
  unfold tableNoted
  split
  · rw [raise_epd]
    rfl
  · rfl

theorem tableNoted_ev : (tableNoted s m b bad).ev = (raiseIf (tableBad s m b bad) 0x8005 7 255 (m * 2 ^ 24 + b * 2 ^ 16) s).ev := by
  unfold tableNoted raiseIf
  split
  · exact (((upd_modEpd ..).eventsAgree rfl rfl rfl rfl).raise ..).ev
  · rfl

theorem nowS_tableNoted : nowS (tableNoted s m b bad) = nowS s := by
  unfold tableNoted
  split
  · rw [nowS_raise]
    rfl
  · rfl

end

/-- What the tables of a board update depend on. -/
theorem boardTable_congr {s t : State} (hrec : recOf t = recOf s) (hrom : t.epd.romLayout = s.epd.romLayout) (himg : t.img = s.img) :
    boardTable t = boardTable s := by
  funext m b bad
  rw [boardTable, boardTable, hrec, hrom, himg]

theorem tableBad_congr {s t : State} (hrec : recOf t = recOf s) (hrom : t.epd.romLayout = s.epd.romLayout) (himg : t.img = s.img)
    (hbad : t.epd.badTables = s.epd.badTables) : tableBad t = tableBad s := by
  funext m b bad
  rw [tableBad, tableBad, hrec, hrom, himg, hbad]

/-- A table that has been reported is not reported again. -/
theorem tableBad_noted {s t : State} {m b : Nat} {bad : Bool} (hrec : recOf t = recOf s) (hrom : t.epd.romLayout = s.epd.romLayout)
    (himg : t.img = s.img) (hbad : t.epd.badTables = (tableNoted s m b bad).epd.badTables) : tableBad t m b bad = false := by
  rw [tableNoted_epd] at hbad
  cases h : tableBad s m b bad with
  | true =>
    rw [h, if_pos rfl] at hbad
    rw [tableBad, hbad]
    cases recOf t 0x93 0 with
    | none => rfl
    | some p => simp
  | false =>
    rw [h, if_neg Bool.false_ne_true] at hbad
    rw [tableBad_congr hrec hrom himg hbad, h]

/-! A region committed (20 R668, R675, R678). -/

theorem committed_of {k : Fin 4} {rect : Rect} {tab : Nat × Nat × Nat} {late full ll : Bool} {texts : List LiveText} {s u t : State}
    (hregions : u.epd.regions = s.epd.regions) (hpanel : u.epd.panel = s.epd.panel) (hpwr : u.epd.pwrEn = s.epd.pwrEn)
    (htr : t.epd.regions = (commitRegion k (mkRegion u rect tab late full ll texts) u).epd.regions)
    (htp : t.epd.panel = (commitRegion k (mkRegion u rect tab late full ll texts) u).epd.panel)
    (hte : t.epd.pwrEn = (commitRegion k (mkRegion u rect tab late full ll texts) u).epd.pwrEn) : Committed k rect tab late s t := by
  have hset : t.epd.regions = s.epd.regions.set k (mkRegion u rect tab late full ll texts) := by rw [htr, ← hregions]; rfl
  have hown : t.epd.regions[k] = mkRegion u rect tab late full ll texts := by
    rw [hset]
    exact Vector.getElem_set_self ..
  have hwait : (mkRegion u rect tab late full ll texts).wait = if s.epd.panel = 3 then (if late then 2 else 1) else 0 := by
    rw [← hpanel]
    rfl
  refine ⟨by rw [hown]; rfl, by rw [hown]; rfl, by rw [hown]; rfl, by rw [hown]; rfl, by rw [hown]; rfl, by rw [hown]; rfl,
    by rw [hown, hwait], fun j hj => ?_, ?_, ?_⟩
  · rw [hset]
    exact Vector.getElem_set_ne _ _ fun h => hj (Fin.ext h.symm)
  · rw [htp, ← hpanel]
    rfl
  · rw [hte, ← hpwr, ← hpanel]
    change (if u.epd.panel = 1 then true else u.epd.pwrEn) = _
    by_cases h1 : u.epd.panel = 1 <;> simp [h1]

/-! DSP commits the next rectangle (20 R676, R677, R684, R685). -/

section
variable {late bad : Bool} {s : State}

theorem running_nil_iff (s : State) : running s = [] ↔ ((epdRegions s).all fun r => !r.active) = true := by
  rw [running, epdRegions, List.filter_eq_nil_iff, List.all_eq_true]
  exact forall₂_congr fun r _ => by rw [Bool.not_eq_true, Bool.not_eq_true']

/-- The whole panel is due, and no region runs. -/
def wholeDue (s : State) : Bool := s.epd.firstWhole && (epdRegions s).all fun r => !r.active

/-- The rectangle that the model commits next. -/
def headRect (s : State) : Option Rect :=
  if wholeDue s then some (wholePanel s)
  else match s.epd.queue with
    | q :: _ => if s.epd.firstWhole || (epdRegions s).any fun r => r.active && r.rect.meets q then none else some q
    | [] => none

theorem headRect_eq (s : State) : headRect s = nextRect s := by
  unfold headRect nextRect wholeDue
  cases hw : s.epd.firstWhole with
  | true =>
    rw [if_pos (rfl : true = true)]
    by_cases hrun : running s = []
    · rw [if_pos hrun, if_pos (by simpa using (running_nil_iff s).mp hrun)]
    · rw [if_neg hrun, if_neg (by rw [Bool.true_and]; exact fun h => hrun ((running_nil_iff s).mpr h))]
      cases s.epd.queue <;> rfl
  | false =>
    rw [Bool.false_and, if_neg Bool.false_ne_true, if_neg Bool.false_ne_true]
    cases s.epd.queue with
    | nil => rfl
    | cons q qs =>
      dsimp only
      rw [Bool.false_or, running, List.any_filter]
      rfl

theorem wholeDue_of_next {r : Rect} (h : nextRect s = some r) : wholeDue s = s.epd.firstWhole := by
  unfold nextRect at h
  unfold wholeDue
  cases hw : s.epd.firstWhole with
  | true =>
    rw [hw, if_pos rfl] at h
    by_cases hrun : running s = []
    · rw [Bool.true_and, (running_nil_iff s).mp hrun]
    · rw [if_neg hrun] at h
      cases h
  | false => rfl

/-- The rectangle is committed under a band, or a reading is asked for. -/
def commitChosen (late bad : Bool) (rect : Option Rect) (place : Option (Fin 4)) (s : State) : State :=
  match rect, place with
  | some rect, some k =>
    match s.epd.bandFor with
    | none => s.modEpd fun e => { e with readPend := true }
    | some band =>
      let mode := if wholeDue s then 0 else modeUpdate s
      let t := waveTable s mode band bad
      let s' := t.2.2.2
      let r := mkRegion s' rect (t.1, t.2.1, t.2.2.1) late false false (liveBoard s')
      (commitRegion k r s').modEpd fun e =>
        { e with queue := if wholeDue s then [] else e.queue.drop 1, bandFor := none, firstWhole := e.firstWhole && !wholeDue s }
  | _, _ => s

theorem exec_commit : exec (.displayCommit late bad) s =
    .next (if !epdReady s then s else commitChosen late bad (nextRect s) (freeRegion s) s) := by
  rw [← headRect_eq]
  rfl

theorem commit_idles (h : epdReady s = false ∨ nextRect s = none ∨ freeRegion s = none) : Idles (.displayCommit late bad) s := by
  rw [Idles, exec_commit]
  rcases h with h | h | h
  · rw [h]
    rfl
  · rw [h]
    split <;> rfl
  · rw [h]
    cases nextRect s <;> split <;> rfl

theorem commit_asks (hready : epdReady s = true) (hrect : (nextRect s).isSome = true) (hfree : (freeRegion s).isSome = true)
    (hband : s.epd.bandFor = none) : Does (.displayCommit late bad) s [.epd] fun t => t.epd = { s.epd with readPend := true } := by
  obtain ⟨r, hr⟩ := Option.isSome_iff_exists.mp hrect
  obtain ⟨k, hk⟩ := Option.isSome_iff_exists.mp hfree
  have hexec := exec_commit (late := late) (bad := bad) (s := s)
  rw [hready, if_neg (by decide), hr, hk, commitChosen, hband] at hexec
  exact ⟨_, hexec, upd_modEpd .., rfl⟩

/-- The update of the queue's head, or of the whole panel. -/
def updateCommitted (late : Bool) (k : Fin 4) (rect : Rect) (tab : Nat × Nat × Nat) (whole : Bool) (u : State) : State :=
  (commitRegion k (mkRegion u rect tab late false false (liveBoard u)) u).modEpd fun e =>
    { e with queue := if whole then [] else e.queue.drop 1, bandFor := none, firstWhole := e.firstWhole && !whole }

theorem commit_commits {r : Rect} {k : Fin 4} {b m : Nat} (hready : epdReady s = true) (hrect : nextRect s = some r)
    (hfree : freeRegion s = some k) (hband : s.epd.bandFor = some b) (hm : m = if s.epd.firstWhole then 0 else modeUpdate s) :
    Does (.displayCommit late bad) s [.epd, .ev, .sen] fun t =>
      Committed k r (boardTable s m b bad) late s t ∧ t.epd.bandFor = none ∧ t.epd.firstWhole = false ∧
        t.epd.queue = (if s.epd.firstWhole then [] else s.epd.queue.drop 1) ∧
        t.ev = (raiseIf (tableBad s m b bad) 0x8005 7 255 (m * 2 ^ 24 + b * 2 ^ 16) s).ev ∧ (tableBad t m b bad = false) := by
  have hexec : exec (.displayCommit late bad) s =
      .next (updateCommitted late k r (boardTable s m b bad) s.epd.firstWhole (tableNoted s m b bad)) := by
    rw [exec_commit, hready, if_neg (by decide), hrect, hfree, commitChosen, hband]
    dsimp only
    rw [wholeDue_of_next hrect, ← hm, waveTable_eq]
    rfl
  have hnoted := upd_tableNoted s m b bad
  have hepd := tableNoted_epd s m b bad
  have hupd : Upd [.epd, .ev, .sen] s (updateCommitted late k r (boardTable s m b bad) s.epd.firstWhole (tableNoted s m b bad)) :=
    .comp (upd_modEpd ..) rfl (.comp (upd_commitRegion ..) rfl hnoted)
  have hfirst : (tableNoted s m b bad).epd.firstWhole = s.epd.firstWhole := by rw [hepd]
  have hqueue : (tableNoted s m b bad).epd.queue = s.epd.queue := by rw [hepd]
  refine ⟨_, hexec, hupd, committed_of (by rw [hepd]) (by rw [hepd]) (by rw [hepd]) rfl rfl rfl, rfl, ?_, ?_, ?_, ?_⟩
  · change ((tableNoted s m b bad).epd.firstWhole && !s.epd.firstWhole) = false
    rw [hfirst, Bool.and_not_self]
  · rw [← hqueue]
    rfl
  · exact tableNoted_ev s m b bad
  · refine tableBad_noted (hupd.read recOf fun _ => rfl) ?_ (hupd.img rfl) rfl
    change (tableNoted s m b bad).epd.romLayout = _
    rw [hepd]

end

/-! The reading of the thermistor (20 R670, R671, R686). -/

section
variable {r : Nat} {s : State}

theorem thermTake_bad (h : thermBad r = true) : thermTake r s =
    raiseIf (!runOn s.epd.thermRun (nowS s)) 0x8003 7 255 (min r (2 ^ 32 - 1))
      (s.modEpd fun e => { e with temp := none, thermRun := some (nowS s) }) := by
  unfold thermTake
  rw [if_pos (by simpa [thermBad] using h)]

theorem thermTake_good (h : thermBad r = false) : thermTake r s =
    s.modEpd fun e => { e with temp := some (thermTemp r s), band := bandOf s (thermTemp r s) } := by
  unfold thermTake
  rw [if_neg (by simpa [thermBad] using h)]
  rfl

/-- The reading arrives. -/
def readingIn (s : State) : State := s.modEpd fun e => { e with readPend := false }

/-- An update that waits for the reading takes its band, or is postponed. -/
def readingActs (asked : Bool) (s : State) : State :=
  if !asked then s
  else match s.epd.temp with
    | some t =>
      if tempOut s t then
        raise 0x8004 7 255 (twos 32 t) (s.modEpd fun e => { e with postponed := true, retryAt := s.clk.bndTot + 3000 })
      else s.modEpd fun e => { e with bandFor := some e.band }
    | none => s.modEpd fun e => { e with bandFor := some e.band }

theorem exec_thermistor : exec (.thermistorResult r) s = .next (readingActs s.epd.readPend (thermTake r (readingIn s))) := rfl

theorem readingActs_none (h : s.epd.temp = none) : readingActs true s = s.modEpd fun e => { e with bandFor := some e.band } := by
  rw [readingActs, h]
  rfl

theorem readingActs_some {t : Int} (h : s.epd.temp = some t) : readingActs true s =
    if tempOut s t then
      raise 0x8004 7 255 (twos 32 t) (s.modEpd fun e => { e with postponed := true, retryAt := s.clk.bndTot + 3000 })
    else s.modEpd fun e => { e with bandFor := some e.band } := by
  rw [readingActs, h]
  rfl

/-- A reading that is a thermistor fault. -/
def faultRead (r : Nat) (s : State) : State :=
  raiseIf (!runOn s.epd.thermRun (nowS s)) 0x8003 7 255 (min r (2 ^ 32 - 1))
    ((readingIn s).modEpd fun e => { e with temp := none, thermRun := some (nowS s) })

theorem faultRead_ev : (faultRead r s).ev = (raiseIf (!runOn s.epd.thermRun (nowS s)) 0x8003 7 255 (min r (2 ^ 32 - 1)) s).ev :=
  ((Upd.eventsAgree (.comp (upd_modEpd ..) rfl (upd_modEpd ..) : Upd [.epd] s _) rfl rfl rfl rfl).raiseIf ..).ev

theorem upd_faultRead : Upd [.epd, .ev, .sen] s (faultRead r s) :=
  .comp (upd_raiseIf ..) rfl (.comp (upd_modEpd ..) rfl ((upd_modEpd ..).mono rfl))

theorem faultRead_epd : (faultRead r s).epd = { s.epd with readPend := false, temp := none, thermRun := some (nowS s) } := by
  rw [faultRead, raiseIf_epd]
  rfl

theorem thermistor_faults (hbad : thermBad r = true) : Does (.thermistorResult r) s [.epd, .ev, .sen] fun t =>
    t.epd = { s.epd with
      temp := none, thermRun := some (nowS s), readPend := false, bandFor := if s.epd.readPend then some s.epd.band else s.epd.bandFor } ∧
      t.ev = (raiseIf (!runOn s.epd.thermRun (nowS s)) 0x8003 7 255 (min r (2 ^ 32 - 1)) s).ev := by
  have htake : thermTake r (readingIn s) = faultRead r s := thermTake_bad hbad
  have hexec := exec_thermistor (r := r) (s := s)
  rw [htake] at hexec
  cases hask : s.epd.readPend with
  | false =>
    rw [hask] at hexec
    exact ⟨_, hexec, upd_faultRead, by rw [show readingActs false (faultRead r s) = faultRead r s from rfl, faultRead_epd]; rfl, faultRead_ev⟩
  | true =>
    rw [hask, readingActs_none (by rw [faultRead_epd])] at hexec
    refine ⟨_, hexec, .comp (upd_modEpd ..) rfl upd_faultRead, ?_, faultRead_ev⟩
    rw [State.modEpd_epd, faultRead_epd]
    rfl

/-- A valid reading. -/
def validRead (r : Nat) (s : State) : State :=
  (readingIn s).modEpd fun e => { e with temp := some (thermTemp r s), band := bandOf s (thermTemp r s) }

theorem thermTake_reading (hgood : thermBad r = false) : thermTake r (readingIn s) = validRead r s := thermTake_good hgood

theorem upd_validRead : Upd [.epd] s (validRead r s) := .comp (upd_modEpd ..) rfl (upd_modEpd ..)

theorem thermistor_reads (hgood : thermBad r = false) (hin : s.epd.readPend = false ∨ tempOut s (thermTemp r s) = false) :
    Does (.thermistorResult r) s [.epd] fun t =>
      t.epd = { s.epd with
        temp := some (thermTemp r s), band := bandOf s (thermTemp r s), readPend := false
        bandFor := if s.epd.readPend then some (bandOf s (thermTemp r s)) else s.epd.bandFor } := by
  have hexec := exec_thermistor (r := r) (s := s)
  rw [thermTake_reading hgood] at hexec
  cases hask : s.epd.readPend with
  | false =>
    rw [hask] at hexec
    exact ⟨_, hexec, upd_validRead, rfl⟩
  | true =>
    have hout : tempOut (validRead r s) (thermTemp r s) = false := by
      rw [show tempOut (validRead r s) (thermTemp r s) = tempOut s (thermTemp r s) from rfl]
      exact hin.resolve_left (by rw [hask]; decide)
    rw [hask, readingActs_some (t := thermTemp r s) rfl, hout, if_neg Bool.false_ne_true] at hexec
    exact ⟨_, hexec, .comp (upd_modEpd ..) rfl upd_validRead, rfl⟩

theorem thermistor_postpones (hgood : thermBad r = false) (hask : s.epd.readPend = true) (hout : tempOut s (thermTemp r s) = true) :
    Does (.thermistorResult r) s [.epd, .ev, .sen] fun t =>
      t.epd = { s.epd with
        temp := some (thermTemp r s), band := bandOf s (thermTemp r s), readPend := false, postponed := true, retryAt := s.clk.bndTot + 3000 } ∧
        t.ev = (raise 0x8004 7 255 (twos 32 (thermTemp r s)) s).ev := by
  have hexec := exec_thermistor (r := r) (s := s)
  rw [thermTake_reading hgood, hask, readingActs_some (t := thermTemp r s) rfl, if_pos (show tempOut (validRead r s) (thermTemp r s) = true from hout)] at hexec
  have hupd : Upd [.epd] s ((validRead r s).modEpd fun e => { e with postponed := true, retryAt := (validRead r s).clk.bndTot + 3000 }) :=
    .comp (upd_modEpd ..) rfl upd_validRead
  refine ⟨_, hexec, .comp (upd_raise ..) rfl (hupd.mono rfl), ?_, ((hupd.eventsAgree rfl rfl rfl rfl).raise ..).ev⟩
  rw [raise_epd]
  rfl

end

/-! A frame of the panel (20 R675, R678, R694). -/

section
variable {s : State}

theorem runningN_zero : runningN s = 0 ↔ running s = [] := List.length_eq_zero_iff

/-- The running regions are abandoned, and the board's content is unknown. -/
def boardLost (s : State) : State :=
  raise 0x8009 7 255 (running s).length ((s.modEpd abandonAll).modEpd fun e => { e with unknown := true })

theorem boardLost_epd : (boardLost s).epd = { abandonAll s.epd with unknown := true } := raise_epd ..

theorem boardLost_ev : (boardLost s).ev = (raise 0x8009 7 255 (running s).length s).ev :=
  ((Upd.eventsAgree (.comp (upd_modEpd ..) rfl (upd_modEpd ..) : Upd [.epd] s _) rfl rfl rfl rfl).raise ..).ev

theorem upd_boardLost : Upd [.epd, .ev, .sen] s (boardLost s) :=
  .comp (upd_raise ..) rfl (.comp (upd_modEpd ..) rfl ((upd_modEpd ..).mono rfl))

theorem epdAbandonLoss_eq (h : running s ≠ []) : epdAbandonLoss s = modelWrite false true false (boardLost s) :=
  if_neg fun h0 => h (runningN_zero.mp h0)

theorem abandonAll_inactive (e : Epd) (j : Fin 4) : (abandonAll e).regions[j].active = false := by
  rw [abandonAll, vmap_getElem]

/-- A model write replaces one copy and nothing else of the display. -/
theorem modelWrite_epd (ll unk prog : Bool) (s : State) : ∃ a b, (modelWrite ll unk prog s).epd = { s.epd with modelA := a, modelB := b } := by
  unfold modelWrite
  dsimp only
  split <;> exact ⟨_, _, rfl⟩

/-- The copy written last is the one a start takes (20 R691, R692). -/
theorem modelWrite_taken (ll unk prog : Bool) (s : State) : (modelTaken (modelWrite ll unk prog s)).map (·.unknown) = some unk := by
  unfold modelWrite
  dsimp only
  cases hold : modelAOlder s with
  | true =>
    rw [if_pos rfl, modelTaken, if_pos]
    · rfl
    · rw [State.modEpd_epd]
      simp only [Bool.true_and, Bool.or_eq_true, decide_eq_true_eq]
      exact .inr (by omega)
  | false =>
    rw [if_neg Bool.false_ne_true, modelTaken, if_neg, if_pos]
    · rfl
    · rfl
    · rw [State.modEpd_epd]
      simp only [Bool.not_true, Bool.false_or, Bool.and_eq_true, decide_eq_true_eq]
      exact fun h => absurd h.2 (by omega)

theorem frame_abandons (hpanel : s.epd.panel = 3) (hloss : s.sen.mlSig = true) (hll : s.epd.lastLight = false) (hrun : running s ≠ []) :
    Does .panelFrame s [.epd, .ev, .sen] fun t =>
      BoardUnknown t ∧ t.epd.panel = 3 ∧ (modelTaken t).map (·.unknown) = some true ∧ t.epd.drawn = s.epd.drawn ∧
        t.ev = (raise 0x8009 7 255 (running s).length s).ev := by
  have hexec : exec .panelFrame s = .next (modelWrite false true false (boardLost s)) := by
    change execPanelFrame s = _
    rw [execPanelFrame, if_neg (not_not.mpr hpanel), if_pos (by rw [hloss, hll]; rfl), epdAbandonLoss_eq hrun]
  obtain ⟨a, b, hepd⟩ := modelWrite_epd false true false (boardLost s)
  rw [boardLost_epd] at hepd
  refine ⟨_, hexec, .comp (upd_modelWrite ..) rfl upd_boardLost, ⟨fun j => ?_, ?_⟩, ?_, modelWrite_taken .., ?_, ?_⟩
  · rw [hepd]
    exact abandonAll_inactive s.epd j
  · rw [hepd]
  · rw [hepd]
    exact hpanel
  · rw [hepd]
    rfl
  · rw [(upd_modelWrite ..).ev rfl, boardLost_ev]

theorem frame_powersDown (hpanel : s.epd.panel = 3) (hloss : s.sen.mlSig = false) (hll : s.epd.lastLight = false) (hrun : running s = []) :
    Does .panelFrame s [.epd] fun t => t.epd = { s.epd with panel := 4, pwrEn := false, vcom := 0, faultRun := 0 } := by
  have hexec : exec .panelFrame s = .next (s.modEpd panelDown) := by
    change execPanelFrame s = _
    rw [execPanelFrame, if_neg (not_not.mpr hpanel), if_neg (by rw [hloss]; exact Bool.false_ne_true), if_pos (runningN_zero.mpr hrun),
      if_neg (by rw [hll]; decide)]
  exact ⟨_, hexec, upd_modEpd .., rfl⟩

theorem frame_idles (h : s.epd.panel ≠ 3 ∨ (running s = [] ∧ (s.sen.mlSig = true ∨ s.epd.lastLight = true))) : Idles .panelFrame s := by
  change execPanelFrame s = _
  rw [execPanelFrame]
  rcases h with h | ⟨hrun, h⟩
  · rw [if_pos h]
  · have hzero := runningN_zero.mpr hrun
    split
    · rfl
    · split
      · rw [epdAbandonLoss, hzero]
        rfl
      next hlit =>
        have hll : s.epd.lastLight = true := h.elim (fun hl => by simpa [hl] using hlit) id
        rw [if_pos hll]

/-- The regions whose last frame this is. -/
def endedRegions (e : Epd) : List Region := e.regions.toList.filter fun r => (regionFrame r).2

/-- Copy-back of regions in order. -/
def copyBacks (rs : List Region) (e : Epd) : Epd := rs.foldl (fun e r => copyBack r e) e

/-- Every region goes one frame on. -/
def regionsOn (e : Epd) : Epd :=
  { e with regions := vmap (fun r => (regionFrame r).1) e.regions, llFrames := if e.lastLight then e.llFrames + 1 else 0 }

theorem zip_map_filter {α β : Type} (f : α → β) (p : β → Bool) (l : List α) :
    ((l.zip (l.map f)).filter fun x => p x.2).map (·.1) = l.filter fun x => p (f x) := by
  induction l with
  | nil => rfl
  | cons a l ih =>
    rw [List.map_cons, List.zip_cons_cons, List.filter_cons, List.filter_cons]
    split
    · rw [List.map_cons, ih]
    · exact ih

theorem exec_frame (hpanel : s.epd.panel = 3) (hlit : s.sen.mlSig = false ∨ s.epd.lastLight = true) (hrun : running s ≠ []) :
    exec .panelFrame s = .next ((s.modEpd regionsOn).modEpd (copyBacks (endedRegions s.epd))) := by
  change execPanelFrame s = _
  rw [execPanelFrame, if_neg (not_not.mpr hpanel), if_neg (by rcases hlit with h | h <;> simp [h]),
    if_neg (mt runningN_zero.mp hrun)]
  dsimp only
  rw [zip_map_filter regionFrame Prod.snd]
  rfl

theorem copyBacks_regions (rs : List Region) (e : Epd) : (copyBacks rs e).regions = e.regions := by
  induction rs generalizing e with
  | nil => rfl
  | cons r rs ih => exact ih (copyBack r e)

theorem copyBacks_updates (rs : List Region) (e : Epd) :
    (copyBacks rs e).updates = if rs = [] then e.updates else satAdd 32 e.updates rs.length := by
  induction rs generalizing e with
  | nil => rfl
  | cons r rs ih =>
    rw [show copyBacks (r :: rs) e = copyBacks rs (copyBack r e) from rfl, ih, if_neg (List.cons_ne_nil r rs), List.length_cons,
      show (copyBack r e).updates = satAdd 32 e.updates 1 from rfl]
    split
    next h => rw [h]; rfl
    · simp only [satAdd]
      omega

theorem copyBacks_drawn {q : Region} {rs : List Region} (hne : rs ≠ []) (hall : ∀ r ∈ rs, r = q) (e : Epd) :
    (copyBacks rs e).copyDue = true ∧ ∀ d ∈ q.texts, d ∈ (copyBacks rs e).drawn := by
  induction rs generalizing e with
  | nil => exact absurd rfl hne
  | cons r rs ih =>
    obtain ⟨rfl, hrest⟩ := List.forall_mem_cons.mp hall
    rw [show copyBacks (r :: rs) e = copyBacks rs (copyBack r e) from rfl]
    by_cases hrs : rs = []
    · rw [hrs]
      exact ⟨rfl, fun d hd => List.mem_append_left _ hd⟩
    · exact ih hrs hrest _

theorem frame_advances (hpanel : s.epd.panel = 3) (hlit : s.sen.mlSig = false ∨ s.epd.lastLight = true) (hrun : running s ≠ []) :
    Does .panelFrame s [.epd] fun t =>
      (∀ k : Fin 4, t.epd.regions[k] = (regionFrame s.epd.regions[k]).1) ∧
        t.epd.updates = (if s.epd.regions.toList.all (fun r => !(regionFrame r).2) then s.epd.updates
          else satAdd 32 s.epd.updates ((s.epd.regions.toList.filter fun r => (regionFrame r).2).length)) ∧
        ((∀ r ∈ s.epd.regions.toList, (regionFrame r).2 = false) → t.epd.drawn = s.epd.drawn ∧ t.epd.copyDue = s.epd.copyDue) ∧
        (∀ k : Fin 4, (regionFrame s.epd.regions[k]).2 = true → (∀ j : Fin 4, j ≠ k → (regionFrame s.epd.regions[j]).2 = false) →
          t.epd.copyDue = true ∧ ∀ d ∈ s.epd.regions[k].texts, d ∈ t.epd.drawn) := by
  have hepd : ((s.modEpd regionsOn).modEpd (copyBacks (endedRegions s.epd))).epd = copyBacks (endedRegions s.epd) (regionsOn s.epd) := rfl
  have hnone : endedRegions s.epd = [] ↔ ∀ r ∈ s.epd.regions.toList, (regionFrame r).2 = false := by
    rw [endedRegions, List.filter_eq_nil_iff]
    exact forall₂_congr fun r _ => by rw [Bool.not_eq_true]
  refine ⟨_, exec_frame hpanel hlit hrun, .comp (upd_modEpd ..) rfl (upd_modEpd ..), fun k => ?_, ?_, fun h => ?_, fun k hk hj => ?_⟩
  · rw [hepd, copyBacks_regions]
    exact vmap_getElem ..
  · rw [hepd, copyBacks_updates]
    refine if_congr (hnone.trans ?_) rfl rfl
    rw [List.all_eq_true]
    exact forall₂_congr fun r _ => by rw [Bool.not_eq_true']
  · rw [hepd, hnone.mpr h]
    exact ⟨rfl, rfl⟩
  · rw [hepd]
    refine copyBacks_drawn (fun h => ?_) (fun r hr => ?_) _
    · rw [hnone.mp h _ (by simp)] at hk
      cases hk
    · obtain ⟨hmem, hend⟩ := List.mem_filter.mp hr
      obtain ⟨i, hi, rfl⟩ := List.getElem_of_mem hmem
      by_cases hik : (⟨i, by simpa using hi⟩ : Fin 4) = k
      · subst hik
        simp
      · have hno := hj _ hik
        rw [show s.epd.regions.toList[i] = s.epd.regions[(⟨i, by simpa using hi⟩ : Fin 4)] by simp, hno] at hend
        cases hend

end

/-! The power of the panel (20 R668, R678, R688). -/

section
variable {s : State}

theorem powerGood_starts (h : s.epd.panel = 2) : Does .epdPowerGood s [.epd] fun t =>
    t.epd.panel = 3 ∧ t.epd.pwrGood = true ∧ t.epd.vcom = dispFld s 0 47 32 * 5 ∧
      ∀ k : Fin 4, t.epd.regions[k] = { s.epd.regions[k] with wait := 0 } := by
  have hexec : exec .epdPowerGood s = .next (s.modEpd fun e =>
      { e with panel := 3, pwrGood := true, vcom := dispFld s 0 47 32 * 5, regions := vmap (fun r => { r with wait := 0 }) e.regions }) := by
    change execEpdPowerGood s = _
    rw [execEpdPowerGood, if_pos h]
  exact ⟨_, hexec, upd_modEpd .., rfl, rfl, rfl, fun k => vmap_getElem ..⟩

theorem powerGood_noted (h : s.epd.panel ≠ 2) : Does .epdPowerGood s [.epd] fun t => t.epd = { s.epd with pwrGood := true } := by
  have hexec : exec .epdPowerGood s = .next (s.modEpd fun e => { e with pwrGood := true }) := by
    change execEpdPowerGood s = _
    rw [execEpdPowerGood, if_neg h]
  exact ⟨_, hexec, upd_modEpd .., rfl⟩

/-- A power fault, whatever its event. -/
theorem epdFault_panel (code arg : Nat) (s : State) :
    Upd [.epd, .ev, .sen] s (epdFault code arg s) ∧ PanelFault s (epdFault code arg s) ∧
      (epdFault code arg s).ev = (raise code 7 255 arg s).ev := by
  have hepd : (epdFault code arg s).epd =
      { abandonAll s.epd with
        pwrEn := false, pwrGood := false, vcom := 0, unknown := true, firstWhole := true, faultRun := min 3 (s.epd.faultRun + 1)
        faults := inc16 s.epd.faults, bandFor := none
        panel := if min 3 (s.epd.faultRun + 1) < 3 then 1 else 5
        retryAt := if min 3 (s.epd.faultRun + 1) < 3 then s.epd.retryAt else s.clk.bndTot + 3000 } := raise_epd ..
  refine ⟨upd_epdFault .., ?_, ((Upd.eventsAgree (.comp (upd_modEpd ..) rfl (upd_modEpd ..) : Upd [.epd] s _) rfl rfl rfl rfl).raise ..).ev⟩
  rw [PanelFault, BoardUnknown, hepd]
  refine ⟨⟨abandonAll_inactive s.epd, rfl⟩, rfl, rfl, rfl, rfl, fun h => ?_, fun h => ?_⟩
  · have hrun : min 3 (s.epd.faultRun + 1) = s.epd.faultRun + 1 := by omega
    dsimp only
    rw [hrun, if_pos (by omega), if_pos (by omega)]
    exact ⟨rfl, rfl, rfl⟩
  · have hrun : min 3 (s.epd.faultRun + 1) = 3 := by omega
    dsimp only
    rw [hrun, if_neg (by omega), if_neg (by omega)]
    exact ⟨rfl, rfl, rfl⟩

theorem powerTimeout_faults (h : s.epd.panel = 2) : Does .epdPowerTimeout s [.epd, .ev, .sen] fun t =>
    PanelFault s t ∧ t.ev = (raise 0x8001 7 255 (min 3 (s.epd.faultRun + 1)) s).ev := by
  have hexec : exec .epdPowerTimeout s = .next (epdFault 0x8001 (min 3 (s.epd.faultRun + 1)) s) := by
    change execEpdPowerTimeout s = _
    rw [execEpdPowerTimeout, if_pos h]
  exact ⟨_, hexec, epdFault_panel ..⟩

theorem powerTimeout_idles (h : s.epd.panel ≠ 2) : Idles .epdPowerTimeout s := by
  change execEpdPowerTimeout s = _
  rw [execEpdPowerTimeout, if_neg h]

theorem powerLost_faults (h : s.epd.panel = 3) : Does .epdPowerLost s [.epd, .ev, .sen] fun t =>
    PanelFault s t ∧ t.ev = (raise 0x8002 7 255 (running s).length s).ev := by
  have hexec : exec .epdPowerLost s = .next (epdFault 0x8002 (running s).length s) := by
    change execEpdPowerLost s = _
    rw [execEpdPowerLost, if_pos h]
    rfl
  exact ⟨_, hexec, epdFault_panel ..⟩

theorem powerLost_noted (h : s.epd.panel ≠ 3) : Does .epdPowerLost s [.epd] fun t =>
    t.epd = { s.epd with
      pwrGood := false, panel := if s.epd.panel = 4 then (if running s = [] then 1 else 2) else s.epd.panel
      pwrEn := if s.epd.panel = 4 then decide (running s ≠ []) else s.epd.pwrEn } := by
  by_cases h4 : s.epd.panel = 4
  · have hexec : exec .epdPowerLost s = .next (s.modEpd fun e =>
        { e with pwrGood := false, panel := if runningN s != 0 then 2 else 1, pwrEn := runningN s != 0 }) := by
      change execEpdPowerLost s = _
      rw [execEpdPowerLost, if_neg h, if_pos h4]
    refine ⟨_, hexec, upd_modEpd .., ?_⟩
    beta_reduce
    rw [State.modEpd_epd, if_pos h4, if_pos h4]
    by_cases hrun : running s = []
    · rw [if_pos hrun, runningN_zero.mpr hrun, decide_eq_false (not_not.mpr hrun)]
      rfl
    · rw [if_neg hrun, decide_eq_true hrun, show (runningN s != 0) = true from bne_iff_ne.mpr (mt runningN_zero.mp hrun)]
      rfl
  · have hexec : exec .epdPowerLost s = .next (s.modEpd fun e => { e with pwrGood := false }) := by
      change execEpdPowerLost s = _
      rw [execEpdPowerLost, if_neg h, if_neg h4]
    exact ⟨_, hexec, upd_modEpd .., by beta_reduce; rw [State.modEpd_epd, if_neg h4, if_neg h4]⟩

theorem retry_tries (h0 : s.epd.retryAt ≠ 0) (hdue : s.epd.retryAt ≤ s.clk.bndTot) : Does .displayRetry s [.epd] fun t =>
    t.epd = { s.epd with retryAt := 0, postponed := false, panel := if s.epd.panel = 5 then 1 else s.epd.panel, readPend := true } := by
  have hexec : exec .displayRetry s = .next (s.modEpd fun e =>
      { e with retryAt := 0, postponed := false, panel := if e.panel = 5 then 1 else e.panel, readPend := true }) := by
    change execDisplayRetry s = _
    rw [execDisplayRetry, if_neg (by simp [h0, hdue])]
  exact ⟨_, hexec, upd_modEpd .., rfl⟩

theorem retry_idles (h : s.epd.retryAt = 0 ∨ s.clk.bndTot < s.epd.retryAt) : Idles .displayRetry s := by
  change execDisplayRetry s = _
  rw [execDisplayRetry, if_pos (by simpa using h)]

end

/-! The full refresh (20 R685, R686). -/

section
variable {r : Nat} {late bad : Bool} {s : State}

/-- The reading that is in force lies outside the limits. -/
def readOut (s : State) : Bool :=
  match s.epd.temp with
  | some t => tempOut s t
  | none => false

/-- The table of a full refresh. -/
def fullTable (bad : Bool) (s : State) : Nat × Nat × Nat × State :=
  if readOut s then (15, 15, 24, s) else waveTable s (modeFull s) s.epd.band bad

/-- The whole panel is committed under a table. -/
def fullCommitted (late : Bool) (k : Fin 4) (tab : Nat × Nat × Nat) (u : State) : State :=
  (commitRegion k (mkRegion u (wholePanel u) tab late true false (liveBoard u)) u).modEpd fun e =>
    { e with queue := [], fullCount := u.clk.count, fullS := nowS u, firstWhole := false, bandFor := none }

/-- The whole panel is committed to the free region, if any. -/
def fullPlaced (late : Bool) (tab : Nat × Nat × Nat) (u : State) : State :=
  match freeRegion u with
  | some k => fullCommitted late k tab u
  | none => u

theorem fullPlaced_some {tab : Nat × Nat × Nat} {u : State} {k : Fin 4} (h : freeRegion u = some k) :
    fullPlaced late tab u = fullCommitted late k tab u := by
  rw [fullPlaced, h]

theorem fullDue_eq (s : State) : fullDue s = !(!epdReady s || decide (dispFld s 1 39 32 = 0) ||
    decide (nowS s < s.epd.fullS + dispFld s 1 39 32 * 3600) || decide (runningN s ≠ 0)) := by
  have hrun : (running s == []) = decide (runningN s = 0) := by
    rw [Bool.eq_iff_iff, beq_iff_eq, decide_eq_true_eq, runningN_zero]
  rw [fullDue, hrun, Bool.eq_iff_iff]
  simp only [Bool.and_eq_true, bne_iff_ne, decide_eq_true_eq, Bool.not_eq_true', Bool.or_eq_false_iff, Bool.not_eq_false', decide_eq_false_iff_not,
    not_lt, not_not, ne_eq]

theorem exec_fullRefresh : exec (.fullRefresh r late bad) s =
    .next (if !fullDue s then s
      else fullPlaced late ((fullTable bad (thermTake r s)).1, (fullTable bad (thermTake r s)).2.1, (fullTable bad (thermTake r s)).2.2.1)
        (fullTable bad (thermTake r s)).2.2.2) := by
  rw [fullDue_eq, Bool.not_not]
  change execFullRefresh r late bad s = _
  rw [execFullRefresh]
  refine congrArg _ (if_congr ?_ rfl rfl)
  simp only [Bool.or_eq_true, decide_eq_true_eq]

theorem full_idles (h : fullDue s = false) : Idles (.fullRefresh r late bad) s := by
  rw [Idles, exec_fullRefresh, h]
  rfl

/-- What a reading and its table leave of the board. -/
structure BoardRead (s u : State) : Prop where
  upd : Upd [.epd, .ev, .sen] s u
  regions : u.epd.regions = s.epd.regions
  panel : u.epd.panel = s.epd.panel
  pwrEn : u.epd.pwrEn = s.epd.pwrEn
  stored : u.epd.stored = s.epd.stored
  romLayout : u.epd.romLayout = s.epd.romLayout
  now : nowS u = nowS s

namespace BoardRead

variable {u : State}

theorem tableNoted (h : BoardRead s u) (m b : Nat) (bad : Bool) : BoardRead s (tableNoted u m b bad) where
  upd := .comp (upd_tableNoted ..) rfl h.upd
  regions := by rw [tableNoted_epd]; exact h.regions
  panel := by rw [tableNoted_epd]; exact h.panel
  pwrEn := by rw [tableNoted_epd]; exact h.pwrEn
  stored := by rw [tableNoted_epd]; exact h.stored
  romLayout := by rw [tableNoted_epd]; exact h.romLayout
  now := (nowS_tableNoted ..).trans h.now

variable (h : BoardRead s u)
include h

theorem recs : recOf u = recOf s := h.upd.read recOf fun _ => rfl

theorem dispFld : dispFld u = dispFld s := by
  funext w hi lo
  rw [Machine.dispFld, Machine.dispFld, dispRec, dispRec, h.recs, h.upd.life rfl, h.stored]

theorem wholePanel : wholePanel u = wholePanel s := by
  simp only [Machine.wholePanel, dispWidth, dispHeight, h.dispFld]

theorem modeFull : modeFull u = modeFull s := by
  rw [Machine.modeFull, h.dispFld]
  rfl

theorem freeRegion : freeRegion u = freeRegion s := by
  rw [Machine.freeRegion, h.regions]
  rfl

theorem boardTable : boardTable u = boardTable s := boardTable_congr h.recs h.romLayout (h.upd.img rfl)

theorem tempOut : tempOut u = tempOut s := by
  funext t
  rw [Machine.tempOut, Machine.tempOut, h.recs]

/-- The whole panel committed after a reading. -/
theorem commits (tab : Nat × Nat × Nat) : Upd [.epd, .ev, .sen] s (fullCommitted late 0 tab u) ∧
    Committed 0 (Machine.wholePanel s) tab late s (fullCommitted late 0 tab u) ∧ (fullCommitted late 0 tab u).epd.queue = [] ∧
      (fullCommitted late 0 tab u).epd.fullCount = s.clk.count ∧ (fullCommitted late 0 tab u).epd.fullS = nowS s ∧
      (fullCommitted late 0 tab u).epd.temp = u.epd.temp ∧ (fullCommitted late 0 tab u).epd.firstWhole = false ∧
      (fullCommitted late 0 tab u).ev = u.ev := by
  refine ⟨.comp (upd_modEpd ..) rfl (.comp (upd_commitRegion ..) rfl h.upd), ?_, rfl, ?_, ?_, rfl, rfl, rfl⟩
  · rw [← h.wholePanel]
    exact committed_of h.regions h.panel h.pwrEn rfl rfl rfl
  · rw [← h.upd.clk rfl]
    rfl
  · rw [← h.now]
    rfl

end BoardRead

theorem boardRead_thermTake (r : Nat) (s : State) : BoardRead s (thermTake r s) ∧ (thermTake r s).epd.badTables = s.epd.badTables := by
  cases hbad : thermBad r with
  | true =>
    rw [thermTake_bad hbad]
    have hepd := raiseIf_epd (!runOn s.epd.thermRun (nowS s)) 0x8003 7 255 (min r (2 ^ 32 - 1))
      (s.modEpd fun e => { e with temp := none, thermRun := some (nowS s) })
    refine ⟨⟨.comp (upd_raiseIf ..) rfl ((upd_modEpd ..).mono rfl), ?_, ?_, ?_, ?_, ?_, nowS_raiseIf ..⟩, ?_⟩ <;> rw [hepd] <;> rfl
  | false =>
    rw [thermTake_good hbad]
    exact ⟨⟨(upd_modEpd ..).mono rfl, rfl, rfl, rfl, rfl, rfl, rfl⟩, rfl⟩

theorem thermTake_good_temp (h : thermBad r = false) : (thermTake r s).epd.temp = some (thermTemp r s) ∧ (thermTake r s).epd.band = bandOf s (thermTemp r s) := by
  rw [thermTake_good h]
  exact ⟨rfl, rfl⟩

theorem thermTake_bad_temp (h : thermBad r = true) : (thermTake r s).epd.temp = none ∧ (thermTake r s).epd.band = s.epd.band := by
  rw [thermTake_bad h, raiseIf_epd]
  exact ⟨rfl, rfl⟩

theorem thermTake_good_ev (h : thermBad r = false) : EventsAgree s (thermTake r s) := by
  rw [thermTake_good h]
  exact (upd_modEpd ..).eventsAgree rfl rfl rfl rfl

theorem tableBad_thermTake (r : Nat) (s : State) : tableBad (thermTake r s) = tableBad s :=
  let ⟨h, hbad⟩ := boardRead_thermTake r s
  tableBad_congr h.recs h.romLayout (h.upd.img rfl) hbad

/-- The full refresh under the table that its mode and band give. -/
theorem full_underTable (hdue : fullDue s = true) (hfree : freeRegion s = some 0) (hin : readOut (thermTake r s) = false) :
    exec (.fullRefresh r late bad) s = .next (fullCommitted late 0 (boardTable s (modeFull s) (thermTake r s).epd.band bad)
      (tableNoted (thermTake r s) (modeFull s) (thermTake r s).epd.band bad)) := by
  obtain ⟨hread, -⟩ := boardRead_thermTake r s
  have htab : fullTable bad (thermTake r s) = ((boardTable s (modeFull s) (thermTake r s).epd.band bad).1,
      (boardTable s (modeFull s) (thermTake r s).epd.band bad).2.1, (boardTable s (modeFull s) (thermTake r s).epd.band bad).2.2,
      tableNoted (thermTake r s) (modeFull s) (thermTake r s).epd.band bad) := by
    rw [fullTable, hin, if_neg Bool.false_ne_true, hread.modeFull, waveTable_eq, hread.boardTable]
  rw [exec_fullRefresh, hdue, if_neg (by decide), htab]
  exact congrArg _ (fullPlaced_some ((hread.tableNoted ..).freeRegion.trans hfree))

/-- The full refresh under the built-in waveform. -/
theorem full_builtin (hdue : fullDue s = true) (hfree : freeRegion s = some 0) (hout : readOut (thermTake r s) = true) :
    exec (.fullRefresh r late bad) s = .next (fullCommitted late 0 (15, 15, 24) (thermTake r s)) := by
  obtain ⟨hread, -⟩ := boardRead_thermTake r s
  have htab : fullTable bad (thermTake r s) = (15, 15, 24, thermTake r s) := by
    rw [fullTable, hout, if_pos rfl]
  rw [exec_fullRefresh, hdue, if_neg (by decide), htab]
  exact congrArg _ (fullPlaced_some (hread.freeRegion.trans hfree))

theorem full_refreshes {b m : Nat} (hdue : fullDue s = true) (hfree : freeRegion s = some 0) (hgood : thermBad r = false)
    (hb : b = bandOf s (thermTemp r s)) (hm : m = modeFull s) :
    Does (.fullRefresh r late bad) s [.epd, .ev, .sen] fun t =>
      Committed 0 (wholePanel s) (if tempOut s (thermTemp r s) then (15, 15, 24) else boardTable s m b bad) late s t ∧ t.epd.queue = [] ∧
        t.epd.fullCount = s.clk.count ∧ t.epd.fullS = nowS s ∧ t.epd.temp = some (thermTemp r s) ∧ t.epd.firstWhole = false ∧
        t.ev = (raiseIf (!tempOut s (thermTemp r s) && tableBad s m b bad) 0x8005 7 255 (m * 2 ^ 24 + b * 2 ^ 16) s).ev := by
  subst hb hm
  obtain ⟨hread, -⟩ := boardRead_thermTake r s
  obtain ⟨htemp, hband⟩ := thermTake_good_temp (s := s) hgood
  have hev := thermTake_good_ev (s := s) hgood
  have hreadOut : readOut (thermTake r s) = tempOut s (thermTemp r s) := by rw [readOut, htemp, ← hread.tempOut]
  cases hout : tempOut s (thermTemp r s) with
  | true =>
    obtain ⟨hupd, hcommitted, hqueue, hcount, hfull, htmp, hfirst, hevs⟩ := hread.commits (late := late) (15, 15, 24)
    exact ⟨_, full_builtin hdue hfree (hreadOut.trans hout), hupd, hcommitted, hqueue, hcount, hfull, htmp.trans htemp, hfirst,
      hevs.trans hev.ev⟩
  | false =>
    have hexec := full_underTable (late := late) (bad := bad) hdue hfree (hreadOut.trans hout)
    rw [hband] at hexec
    obtain ⟨hupd, hcommitted, hqueue, hcount, hfull, htmp, hfirst, hevs⟩ :=
      (hread.tableNoted (modeFull s) (bandOf s (thermTemp r s)) bad).commits (late := late)
        (boardTable s (modeFull s) (bandOf s (thermTemp r s)) bad)
    refine ⟨_, hexec, hupd, hcommitted, hqueue, hcount, hfull, htmp.trans ?_, hfirst, hevs.trans ?_⟩
    · rw [tableNoted_epd, htemp]
    · rw [tableNoted_ev, tableBad_thermTake]
      exact (hev.raiseIf ..).ev

theorem full_faults (hdue : fullDue s = true) (hfree : freeRegion s = some 0) (hbad : thermBad r = true) :
    Does (.fullRefresh r late bad) s [.epd, .ev, .sen] fun t =>
      Committed 0 (wholePanel s) (boardTable s (modeFull s) s.epd.band bad) late s t ∧ t.epd.queue = [] ∧ t.epd.temp = none := by
  obtain ⟨hread, -⟩ := boardRead_thermTake r s
  obtain ⟨htemp, hband⟩ := thermTake_bad_temp (s := s) hbad
  have hexec := full_underTable (late := late) (bad := bad) hdue hfree (by rw [readOut, htemp])
  rw [hband] at hexec
  obtain ⟨hupd, hcommitted, hqueue, -, -, htmp, -⟩ :=
    (hread.tableNoted (modeFull s) s.epd.band bad).commits (late := late) (boardTable s (modeFull s) s.epd.band bad)
  exact ⟨_, hexec, hupd, hcommitted, hqueue, htmp.trans (by rw [tableNoted_epd, htemp])⟩

end

/-- Settles O51, command by command of the board: a commit, a reading, a frame, the panel's power, the full refresh and the retry. -/
theorem boardUpdates : Obligations.BoardUpdates := by
  unfold Obligations.BoardUpdates
  exact ⟨fun _ _ _ => commit_idles, fun _ _ _ => commit_asks, fun _ _ _ _ _ _ _ => commit_commits, fun _ _ => thermistor_faults,
    fun _ _ => thermistor_reads, fun _ _ => thermistor_postpones, fun _ => frame_abandons, fun _ => frame_powersDown, fun _ => frame_advances,
    fun _ => frame_idles, fun _ => powerGood_starts, fun _ => powerGood_noted, fun _ => powerTimeout_faults, fun _ => powerTimeout_idles,
    fun _ => powerLost_faults, fun _ => powerLost_noted, fun _ _ _ _ _ _ => full_refreshes, fun _ _ _ _ => full_faults, fun _ _ _ _ => full_idles,
    fun _ => retry_tries, fun _ => retry_idles⟩

end Sys2Proof.Machine
end

section
/-! PROOF. Obligation O53 (21 R697, R703, R704; 22 R745, R747), refuted. -/

namespace Sys2Proof.Machine

open Host

/-- A powered hub with its ring full of events that no journal holds, so that an event accepted loses the oldest one, and with the gauge at level
CLEAR, so that a sample without a SENTINEL record gives NIGHT and its event 0x7124. -/
def gaugeOverFullRing : State :=
  (((State.reset.modElec fun e => { e with supplyOk := true }).modClk fun c => { c with started := true }).modEv fun v =>
    { v with next := 1026 }).modSen fun e => { e with level := 0 }

/-- The state after one second of the oscillator and a sample, its event not yet raised. -/
def gaugeSecondOn : State :=
  (passTime 32768 gaugeOverFullRing).modSen fun e => { e with vStore := 0, vQuick := 0, field := false, deepChg := false, pct := 0, level := 4 }

theorem gaugeSample_secondOn : exec (.gaugeSample 32768 0 0 false) gaugeOverFullRing = .next (raise 0x7124 8 255 4 gaugeSecondOn) := rfl

/-- The event of the sample loses an unjournaled one in second 1, the second that the sample itself reached. -/
theorem gaugeSecondOn_lostRun : (raise 0x7124 8 255 4 gaugeSecondOn).ev.lostRun = some 1 := by decide

/-- Raised before the time of the sample has passed, it would lose it in second 0. -/
theorem gaugeOverFullRing_lostRun : (raise 0x7124 8 255 4 gaugeOverFullRing).ev.lostRun = some 0 := by decide

/-- Refutes O53 by its clause on gauge samples: the clause wants the event unit as if event 0x7124 were raised before the time of the sample
passes, but the time passes first, and where the event overwrites an unjournaled one the event unit notes the second of that loss (22 R747). -/
theorem not_sentinelAndJournal : ¬ Obligations.SentinelAndJournal := by
  unfold Obligations.SentinelAndJournal
  rintro ⟨hsample, _⟩
  obtain ⟨t, hexec, -, -, -, -, -, -, -, -, -, hev, -⟩ :=
    hsample 32768 0 0 false 4 gaugeOverFullRing (by decide) (by decide) (by decide)
  obtain rfl : raise 0x7124 8 255 4 gaugeSecondOn = t := by injection gaugeSample_secondOn.symm.trans hexec
  have hraised : (raise 0x7124 8 255 4 gaugeSecondOn).ev = (raise 0x7124 8 255 4 gaugeOverFullRing).ev := hev
  have hsame := congrArg Ev.lostRun hraised
  rw [gaugeSecondOn_lostRun, gaugeOverFullRing_lostRun] at hsame
  exact absurd hsame (by decide)

end Sys2Proof.Machine
end

section
/-! SUPPORT. Obligation O54, the lanes (22 R735 to R739, R752, R757, R758). -/

namespace Sys2Proof.Machine

open Host

/-- A command of the fabric at a boundary: what it does shows in the fabric and in the event unit. -/
theorem does_atBoundary {c : Instr} {P : List Part} {s t : State} {Q : State → Prop} (hexec : exec c s = .next (atBoundary s t))
    (hP : subParts [.gates, .freeCtr] P = true) (hupd : Upd P s t) (hQ : ∀ u : State, u.fab = t.fab → u.ev = t.ev → Q u) : Does c s P Q :=
  ⟨_, hexec, upd_atBoundary _ _ hP (.refl ..) hupd, hQ _ (atBoundary_fab ..) (atBoundary_ev ..)⟩

/-! One lane changed. -/

section
variable {l j : Fin 18} {f : Lane → Lane} {s t u : State} {ls ms : List (Fin 18)}

theorem modLane_same : (modLane l f s).fab.lanes[l] = f s.fab.lanes[l] := Vector.getElem_set_self ..

theorem modLane_other (h : j ≠ l) : (modLane l f s).fab.lanes[j] = s.fab.lanes[j] :=
  Vector.getElem_set_ne l.isLt j.isLt fun h' => h (Fin.ext h'.symm)

theorem otherLanes_of (h : t.fab.lanes = s.fab.lanes) : OtherLanes ls s t := fun j _ => by rw [h]

theorem OtherLanes.of_fab (h : OtherLanes ls s t) (hfab : u.fab = t.fab) : OtherLanes ls s u := fun j hj => by rw [hfab, h j hj]

theorem OtherLanes.modLane (h : OtherLanes ls s t) (hl : l ∈ ls) : OtherLanes ls s (modLane l f t) := fun j hj =>
  (modLane_other fun (hjl : j = l) => hj (hjl ▸ hl)).trans (h j hj)

end

/-! A lane step (22 R737, R738). -/

section
variable {m : Bool} {l sp : Fin 18} {s : State}

/-- The step that begins. -/
def stepBegun (m : Bool) (l sp : Fin 18) (s : State) : State := s.modFab fun v =>
  { v with step := { pos := stepPos s, lane := l.val, spare := sp.val, at_ := s.clk.count, phase := if m then 3 else 2 }, steps := inc32 v.steps }

/-- The spare takes the position, and the lane goes under test. -/
def handedOver (l sp : Fin 18) (s : State) : State :=
  modLane l (fun a => { a with st := .underTest, pos := none })
    (modLane sp (fun a => { a with st := .inService, pos := some (stepPos s) }) (stepBegun false l sp s))

/-- After a mismatch the lane keeps its position, and the spare goes under test. -/
def spareTested (sp : Fin 18) (s : State) : State :=
  modLane sp (fun a => { a with st := .underTest }) (s.modFab fun v => { v with mismatch := inc32 v.mismatch })

/-- What a lane step does with the spare and the lane of its position. -/
def laneStepOn (m : Bool) (s : State) : Option (Fin 18) → Option (Fin 18) → State
  | some sp, some l =>
    if m then raise 0x9021 1 255 (l.val * 2 ^ 24 + sp.val * 2 ^ 16 + 2 ^ 8) (spareTested sp (stepBegun true l sp s))
    else handedOver l sp s
  | _, _ => s.modFab fun v => { v with skips := v.skips + 1 }

theorem doLaneStep_due (h : laneStepDue s = true) : doLaneStep m s = laneStepOn m s (stepSpare s) (laneAt s (stepPos s)) := by
  obtain ⟨⟨hroll, hmark⟩, hphase⟩ : (rolling s = true ∧ markHere 512 s = true) ∧ s.fab.step.phase = 0 := by
    simpa [laneStepDue] using h
  have hspare : (if s.clk.count / 512 % 2 = 0 then ((finList 18).filter (laneFree s)).head? else ((finList 18).filter (laneFree s)).getLast?) =
      stepSpare s := by
    rw [List.head?_filter]
    rfl
  unfold doLaneStep
  rw [if_neg (by simp [hroll, hmark, hphase])]
  dsimp only
  rw [hspare, show (s.clk.count / 512 + 16 - s.fab.skips % 16) % 16 = stepPos s from rfl]
  cases stepSpare s <;> cases laneAt s (stepPos s) <;> cases m <;> rfl

theorem laneStep_idles (h : laneStepDue s = false) : Idles (.laneStep m) s := by
  refine atBoundary_idles (f := doLaneStep m) rfl ?_
  unfold doLaneStep
  rw [if_pos]
  simp only [laneStepDue, Bool.and_eq_false_iff] at h
  rcases h with (h | h) | h <;> simp_all

theorem exec_laneStep (h : laneStepDue s = true) : exec (.laneStep m) s = .next (atBoundary s (laneStepOn m s (stepSpare s) (laneAt s (stepPos s)))) :=
  congrArg (fun t => Outcome.next (atBoundary s t)) (doLaneStep_due h)

theorem laneStep_skips (h : laneStepDue s = true) (hnone : stepSpare s = none ∨ laneAt s (stepPos s) = none) :
    Does (.laneStep m) s [.gates, .fab, .freeCtr] fun t => t.fab = { s.fab with skips := s.fab.skips + 1 } := by
  have hskip : laneStepOn m s (stepSpare s) (laneAt s (stepPos s)) = s.modFab fun v => { v with skips := v.skips + 1 } := by
    rcases hnone with h | h <;> rw [h]
    · rfl
    · cases stepSpare s <;> rfl
  have hexec := exec_laneStep (m := m) h
  rw [hskip] at hexec
  exact does_atBoundary hexec rfl ((upd_modFab ..).mono rfl) fun u hfab _ => hfab

/-- The lane that holds a position is not a free one. -/
theorem laneAt_ne_spare {p : Nat} (hl : laneAt s p = some l) (hsp : laneFree s sp = true) : sp ≠ l := by
  rintro rfl
  have hpos : s.fab.lanes[sp].pos = some p := by simpa using List.find?_some hl
  simp only [laneFree, Bool.and_eq_true] at hsp
  rw [hpos] at hsp
  exact Bool.false_ne_true hsp.1.2

theorem laneFree_stepSpare (h : stepSpare s = some sp) : laneFree s sp = true := by
  unfold stepSpare at h
  split at h
  · exact List.find?_some h
  · exact (List.mem_filter.mp (List.mem_of_getLast? h)).2

theorem laneStep_hands (h : laneStepDue s = true) (hsp : stepSpare s = some sp) (hl : laneAt s (stepPos s) = some l) :
    Does (.laneStep false) s [.gates, .fab, .freeCtr] fun t =>
      t.fab.lanes[l] = { s.fab.lanes[l] with st := .underTest, pos := none } ∧
        t.fab.lanes[sp] = { s.fab.lanes[sp] with st := .inService, pos := some (stepPos s) } ∧ OtherLanes [l, sp] s t ∧
        t.fab.step = { pos := stepPos s, lane := l.val, spare := sp.val, at_ := s.clk.count, phase := 2 } ∧
        t.fab.steps = inc32 s.fab.steps ∧ t.fab.banks = s.fab.banks ∧ t.fab.mismatch = s.fab.mismatch := by
  have hne := laneAt_ne_spare hl (laneFree_stepSpare hsp)
  have hexec := exec_laneStep (m := false) h
  rw [hsp, hl] at hexec
  refine does_atBoundary (t := handedOver l sp s) hexec rfl
    ((Upd.comp (upd_modLane ..) rfl (.comp (upd_modLane ..) rfl (upd_modFab ..)) : Upd [.fab] s _).mono rfl) fun u hfab _ => ?_
  have hothers : OtherLanes [l, sp] s (handedOver l sp s) :=
    ((otherLanes_of rfl).modLane (by simp)).modLane (by simp)
  refine ⟨?_, ?_, hothers.of_fab hfab, ?_, ?_, ?_, ?_⟩ <;> rw [hfab]
  · exact modLane_same.trans (by rw [modLane_other hne.symm]; rfl)
  · exact (modLane_other hne).trans modLane_same
  · rfl
  · rfl
  · rfl
  · rfl

theorem laneStep_mismatches (h : laneStepDue s = true) (hsp : stepSpare s = some sp) (hl : laneAt s (stepPos s) = some l) :
    Does (.laneStep true) s [.gates, .fab, .ev, .sen, .freeCtr] fun t =>
      t.fab.lanes[sp] = { s.fab.lanes[sp] with st := .underTest } ∧ OtherLanes [sp] s t ∧
        t.fab.step = { pos := stepPos s, lane := l.val, spare := sp.val, at_ := s.clk.count, phase := 3 } ∧
        t.fab.mismatch = inc32 s.fab.mismatch ∧ t.fab.banks = s.fab.banks ∧
        t.ev = (raise 0x9021 1 255 (l.val * 2 ^ 24 + sp.val * 2 ^ 16 + 2 ^ 8) s).ev := by
  have hexec := exec_laneStep (m := true) h
  rw [hsp, hl] at hexec
  have hupd : Upd [.fab] s (spareTested sp (stepBegun true l sp s)) :=
    .comp (upd_modLane ..) rfl (.comp (upd_modFab ..) rfl (upd_modFab ..))
  refine does_atBoundary hexec rfl ((Upd.comp (upd_raise ..) rfl (hupd.mono rfl) : Upd [.fab, .ev, .sen] s _).mono rfl) fun u hfab hev => ?_
  have hfab' : u.fab = (spareTested sp (stepBegun true l sp s)).fab := hfab.trans (raise_fab ..)
  have hothers : OtherLanes [sp] s (spareTested sp (stepBegun true l sp s)) := (otherLanes_of rfl).modLane (by simp)
  refine ⟨?_, hothers.of_fab hfab', ?_, ?_, ?_, hev.trans ((hupd.eventsAgree rfl rfl rfl rfl).raise ..).ev⟩ <;> rw [hfab']
  · exact modLane_same
  · rfl
  · rfl
  · rfl

end

/-! A lane judged (22 R738, R739). -/

section
variable {l k j : Fin 18} {f : Lane → Lane} {g : Nat} {r : Bool} {s t u : State}

/-- A lane's test is counted, and with it its step, if any, ends. -/
def judgedLane (l : Fin 18) (s : State) : State :=
  modLane l (fun a => { a with tests := inc32 a.tests, last := s.clk.count })
    (if stepJudged l s then s.modFab fun v => { v with step := {} } else s)

theorem laneCounted_judgedLane : LaneCounted l s (judgedLane l s) := by
  unfold LaneCounted judgedLane
  rw [modLane_same]
  cases stepJudged l s <;> exact ⟨rfl, rfl, rfl, rfl⟩

theorem otherLanes_judgedLane : OtherLanes [l] s (judgedLane l s) := by
  unfold judgedLane
  refine OtherLanes.modLane (otherLanes_of ?_) (by simp)
  cases stepJudged l s <;> rfl

theorem upd_judgedLane : Upd [.fab] s (judgedLane l s) := .comp (upd_modLane ..) rfl (.ite (upd_modFab ..) (.refl ..))

/-- What a judgement keeps of the lane. -/
theorem judgedLane_lane : (judgedLane l s).fab.lanes[l] = { s.fab.lanes[l] with tests := inc32 s.fab.lanes[l].tests, last := s.clk.count } := by
  unfold judgedLane
  rw [modLane_same]
  cases stepJudged l s <;> rfl

theorem judgedLane_fails : (judgedLane l s).fab.fails = s.fab.fails := by
  unfold judgedLane
  cases stepJudged l s <;> rfl

/-- What counts a judgement stays through changes of a lane's state. -/
theorem LaneCounted.modLane (h : LaneCounted l s t) (hf : ∀ a, (f a).tests = a.tests ∧ (f a).last = a.last) : LaneCounted l s (modLane k f t) := by
  obtain ⟨hstep, htests, hlast, hbanks⟩ := h
  have hlane : (Machine.modLane k f t).fab.lanes[l].tests = t.fab.lanes[l].tests ∧ (Machine.modLane k f t).fab.lanes[l].last = t.fab.lanes[l].last := by
    by_cases hk : l = k
    · subst hk
      rw [modLane_same]
      exact hf _
    · rw [modLane_other hk]
      exact ⟨rfl, rfl⟩
  exact ⟨hstep, hlane.1.trans htests, hlane.2.trans hlast, hbanks⟩

theorem LaneCounted.agree (h : LaneCounted l s t) (hlanes : u.fab.lanes = t.fab.lanes) (hstep : u.fab.step = t.fab.step)
    (hbanks : u.fab.banks = t.fab.banks) : LaneCounted l s u := by
  unfold LaneCounted
  rw [hlanes, hstep, hbanks]
  exact h

theorem stepJudged_iff : stepJudged l s = true ↔ s.fab.step.at_ + 512 ≤ s.clk.count ∧
    ((s.fab.step.phase = 2 ∧ s.fab.step.lane = l.val) ∨ (s.fab.step.phase = 3 ∧ s.fab.step.spare = l.val)) := by
  simp [stepJudged]

theorem retestDue_iff : retestDue l s = true ↔ (∃ n, s.fab.lanes[l].retestAt = some n ∧ n ≤ s.clk.count) ∧ s.fab.lanes[l].st = .suspect ∧
    s.fab.lanes[l].pos = none ∧ stepJudged l s = false := by
  unfold retestDue
  dsimp only
  cases s.fab.lanes[l].retestAt <;> simp [-Fin.getElem_fin, and_assoc]

/-- A lane whose test begun by a step passes: it comes back by a dual run. -/
def returnBegun (r : Bool) (st : LaneStep) (s : State) : State :=
  s.modFab fun v => { v with ret := { st with at_ := s.clk.count + 1, phase := if r then 5 else 4 } }

theorem returnBegun_lanes {st : LaneStep} : (returnBegun r st s).fab.lanes = s.fab.lanes := rfl

/-- A spare that is good after a handoff mismatch leaves the lane that carried on SUSPECT. -/
def laneBlamed (l : Fin 18) (st : LaneStep) (s : State) : State :=
  match fin? 18 st.lane with
  | some k => (modLane k (fun a => { a with st := .suspect }) (modLane l (fun a => { a with st := .spare }) s)).modFab fun v =>
      { v with takeDue := v.takeDue ++ [(st.lane, false)] }
  | none => modLane l (fun a => { a with st := .spare }) s

/-- The judgement of the step's own lane. -/
theorem exec_judge_step {fails : Bool} (h : stepJudged l s = true) (hphase : s.fab.step.phase = 2) : exec (.laneJudge l fails g r) s =
    .next (if fails then laneFails l s.fab.step.spare g (judgedLane l s) else returnBegun r s.fab.step (judgedLane l s)) := by
  obtain ⟨hat, hlane⟩ := stepJudged_iff.mp h
  have hl : s.fab.step.lane = l.val := by omega
  change execLaneJudge l fails g r s = _
  rw [execLaneJudge, judgedLane, h]
  dsimp only
  rw [if_pos (by simp [hphase, hl, hat])]
  rfl

/-- The judgement of the spare after a handoff mismatch. -/
theorem exec_judge_spare {fails : Bool} (h : stepJudged l s = true) (hphase : s.fab.step.phase = 3) : exec (.laneJudge l fails g r) s =
    .next (if fails then laneFails l 0xFF g (judgedLane l s) else laneBlamed l s.fab.step (judgedLane l s)) := by
  obtain ⟨hat, hlane⟩ := stepJudged_iff.mp h
  have hl : s.fab.step.spare = l.val := by omega
  change execLaneJudge l fails g r s = _
  rw [execLaneJudge, judgedLane, h]
  dsimp only
  rw [if_neg (by simp [hphase]), if_pos (by simp [hphase, hl, hat])]
  rfl

/-- A judgement that belongs to no step. -/
theorem exec_judge_late {fails : Bool} (h : stepJudged l s = false) : exec (.laneJudge l fails g r) s =
    .next (if retestDue l s then
      (if fails then laneFails l 0xFF g (judgedLane l s) else modLane l (fun a => { a with st := .spare, retestAt := none }) (judgedLane l s))
      else s) := by
  have hno := mt stepJudged_iff.mpr (by rw [h]; exact Bool.false_ne_true)
  change execLaneJudge l fails g r s = _
  rw [execLaneJudge, judgedLane, h]
  dsimp only
  rw [if_neg (by simp; omega), if_neg (by simp; omega)]
  cases hr : s.fab.lanes[l].retestAt with
  | none => rw [if_neg (mt retestDue_iff.mp (by rw [hr]; simp))]
  | some n =>
    refine congrArg _ (if_congr ?_ rfl rfl)
    rw [retestDue_iff, hr, h]
    simp [-Fin.getElem_fin, and_assoc]

/-- A lane that fails is judged with the spare of its own step as the carrier, or none. -/
theorem exec_judge_fails (h : stepJudged l s = true ∨ retestDue l s = true) : exec (.laneJudge l true g r) s =
    .next (laneFails l (judgeCarrier l s) g (judgedLane l s)) := by
  unfold judgeCarrier
  cases hj : stepJudged l s with
  | true =>
    obtain ⟨-, ⟨hphase, -⟩ | ⟨hphase, -⟩⟩ := stepJudged_iff.mp hj
    · rw [exec_judge_step hj hphase, hphase]
      rfl
    · rw [exec_judge_spare hj hphase, hphase]
      rfl
  | false =>
    have hretest : retestDue l s = true := h.resolve_left (by rw [hj]; exact Bool.false_ne_true)
    rw [exec_judge_late hj, hretest]
    rfl

/-- A failed test is counted. -/
def laneFailCounted (s : State) : State := s.modFab fun v => { v with fails := inc32 v.fails }

/-- The lane is out until its re-test. -/
def suspectLane (l : Fin 18) (s : State) : State :=
  modLane l (fun a => { a with st := .suspect, fails := min 7 (s.fab.lanes[l].fails + 1), retestAt := some (s.clk.count + 512) }) (laneFailCounted s)

/-- The lane is out for good. -/
def retiredLane (l : Fin 18) (s : State) : State :=
  modLane l (fun a => { a with st := .retired, fails := min 7 (s.fab.lanes[l].fails + 1), retestAt := none, pos := none }) (laneFailCounted s)

theorem laneFails_first {c : Nat} (h : s.fab.lanes[l].st ≠ .suspect) : laneFails l c g s =
    raise 0x9022 1 255 (l.val * 2 ^ 24 + c * 2 ^ 16 + min 7 (s.fab.lanes[l].fails + 1) * 2 ^ 8 + g) (suspectLane l s) := if_neg h

theorem laneFails_again {c : Nat} (h : s.fab.lanes[l].st = .suspect) : laneFails l c g s =
    raise 0x9023 1 255 (l.val * 2 ^ 24) (retiredLane l s) := if_pos h

/-- A judgement's lane as the statement reads it. -/
theorem laneCounted_suspectLane : LaneCounted l s (suspectLane l (judgedLane l s)) :=
  LaneCounted.modLane (laneCounted_judgedLane.agree rfl rfl rfl) fun _ => ⟨rfl, rfl⟩

theorem laneCounted_retiredLane : LaneCounted l s (retiredLane l (judgedLane l s)) :=
  LaneCounted.modLane (laneCounted_judgedLane.agree rfl rfl rfl) fun _ => ⟨rfl, rfl⟩

theorem otherLanes_failed {t : State} (h : OtherLanes [l] s t) : OtherLanes [l] s (modLane l f (laneFailCounted t)) :=
  OtherLanes.modLane (fun j hj => h j hj) (by simp)

theorem laneJudge_suspects (h : stepJudged l s = true ∨ retestDue l s = true) (hst : s.fab.lanes[l].st ≠ .suspect) :
    Does (.laneJudge l true g r) s [.fab, .ev, .sen] fun t =>
      LaneCounted l s t ∧ OtherLanes [l] s t ∧ t.fab.lanes[l].st = .suspect ∧ t.fab.lanes[l].fails = min 7 (s.fab.lanes[l].fails + 1) ∧
        t.fab.lanes[l].retestAt = some (s.clk.count + 512) ∧ t.fab.lanes[l].pos = s.fab.lanes[l].pos ∧ t.fab.fails = inc32 s.fab.fails ∧
        t.ev = (raise 0x9022 1 255 (l.val * 2 ^ 24 + judgeCarrier l s * 2 ^ 16 + min 7 (s.fab.lanes[l].fails + 1) * 2 ^ 8 + g) s).ev := by
  have hexec := exec_judge_fails (g := g) (r := r) h
  rw [laneFails_first (by rw [judgedLane_lane]; exact hst), show (judgedLane l s).fab.lanes[l].fails = s.fab.lanes[l].fails by rw [judgedLane_lane]]
    at hexec
  have hupd : Upd [.fab] s (suspectLane l (judgedLane l s)) := .comp (upd_modLane ..) rfl (.comp (upd_modFab ..) rfl upd_judgedLane)
  have hlane : (suspectLane l (judgedLane l s)).fab.lanes[l] = { s.fab.lanes[l] with
      tests := inc32 s.fab.lanes[l].tests, last := s.clk.count, st := .suspect, fails := min 7 (s.fab.lanes[l].fails + 1)
      retestAt := some (s.clk.count + 512) } := by
    rw [suspectLane, modLane_same, show (laneFailCounted (judgedLane l s)).fab.lanes = (judgedLane l s).fab.lanes from rfl, judgedLane_lane,
      upd_judgedLane.clk rfl]
  refine ⟨_, hexec, .comp (upd_raise ..) rfl (hupd.mono rfl), laneCounted_suspectLane.agree ?_ ?_ ?_,
    (otherLanes_failed otherLanes_judgedLane).of_fab (raise_fab ..), ?_, ?_, ?_, ?_, ?_, ((hupd.eventsAgree rfl rfl rfl rfl).raise ..).ev⟩
  · rw [raise_fab]
  · rw [raise_fab]
  · rw [raise_fab]
  · rw [raise_fab, hlane]
  · rw [raise_fab, hlane]
  · rw [raise_fab, hlane]
  · rw [raise_fab, hlane]
  · rw [raise_fab]
    exact congrArg inc32 judgedLane_fails

theorem laneJudge_retires (h : stepJudged l s = true ∨ retestDue l s = true) (hst : s.fab.lanes[l].st = .suspect) :
    Does (.laneJudge l true g r) s [.fab, .ev, .sen] fun t =>
      LaneCounted l s t ∧ OtherLanes [l] s t ∧ t.fab.lanes[l].st = .retired ∧ t.fab.lanes[l].pos = none ∧
        t.fab.lanes[l].retestAt = none ∧ t.fab.fails = inc32 s.fab.fails ∧ t.ev = (raise 0x9023 1 255 (l.val * 2 ^ 24) s).ev := by
  have hexec := exec_judge_fails (g := g) (r := r) h
  rw [laneFails_again (by rw [judgedLane_lane]; exact hst)] at hexec
  have hupd : Upd [.fab] s (retiredLane l (judgedLane l s)) := .comp (upd_modLane ..) rfl (.comp (upd_modFab ..) rfl upd_judgedLane)
  refine ⟨_, hexec, .comp (upd_raise ..) rfl (hupd.mono rfl), laneCounted_retiredLane.agree ?_ ?_ ?_,
    (otherLanes_failed otherLanes_judgedLane).of_fab (raise_fab ..), ?_, ?_, ?_, ?_, ((hupd.eventsAgree rfl rfl rfl rfl).raise ..).ev⟩
  · rw [raise_fab]
  · rw [raise_fab]
  · rw [raise_fab]
  · rw [raise_fab, retiredLane, modLane_same]
  · rw [raise_fab, retiredLane, modLane_same]
  · rw [raise_fab, retiredLane, modLane_same]
  · rw [raise_fab]
    exact congrArg inc32 judgedLane_fails

theorem laneJudge_returns (h : stepJudged l s = true) (hphase : s.fab.step.phase = 2) :
    Does (.laneJudge l false g r) s [.fab] fun t =>
      LaneCounted l s t ∧ OtherLanes [l] s t ∧ t.fab.lanes[l].st = s.fab.lanes[l].st ∧ t.fab.lanes[l].pos = s.fab.lanes[l].pos ∧
        t.fab.ret = { s.fab.step with at_ := s.clk.count + 1, phase := if r then 5 else 4 } ∧ t.fab.fails = s.fab.fails := by
  have hexec := exec_judge_step (g := g) (r := r) (fails := false) h hphase
  rw [if_neg Bool.false_ne_true] at hexec
  refine ⟨_, hexec, .comp (upd_modFab ..) rfl upd_judgedLane, laneCounted_judgedLane.agree rfl rfl rfl, fun j hj => otherLanes_judgedLane j hj, ?_, ?_, ?_, ?_⟩
  · rw [returnBegun_lanes, judgedLane_lane]
  · rw [returnBegun_lanes, judgedLane_lane]
  · rw [← upd_judgedLane.clk rfl]
    rfl
  · exact judgedLane_fails

/-- The spare is good, the lane SUSPECT. -/
def blamedLanes (l k : Fin 18) (s : State) : State :=
  modLane k (fun a => { a with st := .suspect }) (modLane l (fun a => { a with st := .spare }) s)

/-- The lane is to be handed off. -/
def handoffDue (k : Fin 18) (s : State) : State := s.modFab fun v => { v with takeDue := v.takeDue ++ [(k.val, false)] }

theorem laneBlamed_some {st : LaneStep} (hk : st.lane = k.val) : laneBlamed l st s = handoffDue k (blamedLanes l k s) := by
  rw [laneBlamed, hk, fin?_val]
  rfl

theorem handoffDue_lanes : (handoffDue k s).fab.lanes = s.fab.lanes := rfl

theorem handoffDue_takeDue : (handoffDue k s).fab.takeDue = s.fab.takeDue ++ [(k.val, false)] := rfl

theorem handoffDue_fails : (handoffDue k s).fab.fails = s.fab.fails := rfl

theorem blamedLanes_takeDue : (blamedLanes l k s).fab.takeDue = s.fab.takeDue := rfl

theorem blamedLanes_fails : (blamedLanes l k s).fab.fails = s.fab.fails := rfl

theorem upd_handoffDue : Upd [.fab] s (handoffDue k s) := upd_modFab ..

theorem upd_blamedLanes : Upd [.fab] s (blamedLanes l k s) := .comp (upd_modLane ..) rfl (upd_modLane ..)

theorem blamedLanes_other (hl : j ≠ l) (hk : j ≠ k) : (blamedLanes l k s).fab.lanes[j] = s.fab.lanes[j] := by
  rw [blamedLanes, modLane_other hk, modLane_other hl]

theorem blamedLanes_blamed : (blamedLanes l k s).fab.lanes[k].st = .suspect := by rw [blamedLanes, modLane_same]

theorem blamedLanes_good (h : k ≠ l) : (blamedLanes l k s).fab.lanes[l].st = .spare := by
  rw [blamedLanes, modLane_other h.symm, modLane_same]

theorem LaneCounted.blamed (h : LaneCounted l s t) : LaneCounted l s (blamedLanes l k t) := by
  unfold blamedLanes
  refine LaneCounted.modLane (LaneCounted.modLane h ?_) ?_
  · exact fun _ => ⟨rfl, rfl⟩
  · exact fun _ => ⟨rfl, rfl⟩

theorem judgedLane_takeDue : (judgedLane l s).fab.takeDue = s.fab.takeDue := by
  unfold judgedLane
  cases stepJudged l s <;> rfl

theorem laneJudge_blames (h : stepJudged l s = true) (hphase : s.fab.step.phase = 3) (hk : s.fab.step.lane = k.val) :
    Does (.laneJudge l false g r) s [.fab] fun t =>
      LaneCounted l s t ∧ OtherLanes [l, k] s t ∧ t.fab.lanes[k].st = .suspect ∧ (k ≠ l → t.fab.lanes[l].st = .spare) ∧
        t.fab.takeDue = s.fab.takeDue ++ [(k.val, false)] ∧ t.fab.fails = s.fab.fails := by
  have hexec := exec_judge_spare (g := g) (r := r) (fails := false) h hphase
  rw [if_neg Bool.false_ne_true, laneBlamed_some hk] at hexec
  refine ⟨_, hexec, .comp upd_handoffDue rfl (.comp upd_blamedLanes rfl upd_judgedLane), laneCounted_judgedLane.blamed.agree handoffDue_lanes rfl rfl,
    fun j hj => ?_, ?_, fun hne => ?_, ?_, ?_⟩
  · rw [List.mem_cons, List.mem_singleton, not_or] at hj
    rw [handoffDue_lanes, blamedLanes_other hj.1 hj.2, otherLanes_judgedLane j fun h => hj.1 (List.mem_singleton.mp h)]
  · rw [handoffDue_lanes, blamedLanes_blamed]
  · rw [handoffDue_lanes, blamedLanes_good hne]
  · rw [handoffDue_takeDue, blamedLanes_takeDue, judgedLane_takeDue]
  · rw [handoffDue_fails, blamedLanes_fails, judgedLane_fails]

theorem laneJudge_retested (h : retestDue l s = true) : Does (.laneJudge l false g r) s [.fab] fun t =>
    LaneCounted l s t ∧ OtherLanes [l] s t ∧ t.fab.lanes[l].st = .spare ∧ t.fab.lanes[l].retestAt = none ∧ t.fab.lanes[l].pos = none := by
  obtain ⟨-, -, hpos, hno⟩ := retestDue_iff.mp h
  have hexec := exec_judge_late (g := g) (r := r) (fails := false) hno
  rw [h, if_pos rfl, if_neg Bool.false_ne_true] at hexec
  refine ⟨_, hexec, .comp (upd_modLane ..) rfl upd_judgedLane, laneCounted_judgedLane.modLane fun _ => ⟨rfl, rfl⟩,
    otherLanes_judgedLane.modLane (by simp), ?_, ?_, ?_⟩
  · exact congrArg Lane.st modLane_same
  · exact congrArg Lane.retestAt modLane_same
  · refine (congrArg Lane.pos modLane_same).trans ?_
    exact (congrArg Lane.pos judgedLane_lane).trans hpos

theorem laneJudge_idles {fails : Bool} (hno : stepJudged l s = false) (h : retestDue l s = false) : Idles (.laneJudge l fails g r) s := by
  rw [Idles, exec_judge_late hno, h, if_neg Bool.false_ne_true]

end

/-! A residue error (22 R736). -/

section
variable {l : Fin 18} {s : State}

/-- A residue error is counted. -/
def residueNoted (l : Fin 18) (s : State) : State :=
  (modLane l (fun x => { x with residue := inc16 x.residue, resCy := x.resCy + 1 }) s).modFab fun f => { f with residue := inc32 f.residue }

/-- The lane of a residue error is SUSPECT and to be handed off. -/
def residueSuspect (l : Fin 18) (s : State) : State :=
  (modLane l (fun x => { x with st := .suspect }) s).modFab fun f =>
    { f with takeDue := if f.takeDue.any (·.1 == l.val) then f.takeDue else f.takeDue ++ [(l.val, true)] }

theorem upd_residueNoted : Upd [.fab] s (residueNoted l s) := .comp (upd_modFab ..) rfl (upd_modLane ..)

theorem exec_residue : exec (.laneResidueError l) s =
    .next (if (s.fab.lanes[l].pos.isNone && !inReturn l s) || s.life.cond != .run then s
      else if 2 ≤ s.fab.lanes[l].resCy + 1 then engineLost .met (residueNoted l s)
      else if inReturn l s then (residueNoted l s).modFab fun f => { f with ret := { f.ret with phase := 5 } }
      else residueSuspect l (residueNoted l s)) := by
  have hret : (decide (s.fab.ret.phase = 4) && (decide (s.fab.ret.lane = l.val) || decide (s.fab.ret.spare = l.val))) = inReturn l s := by
    rw [Bool.eq_iff_iff]
    simp [inReturn]
  change execLaneResidueError l s = _
  rw [execLaneResidueError, hret]
  rfl

theorem residueNoted_lanes : (residueNoted l s).fab.lanes =
    (modLane l (fun x => { x with residue := inc16 x.residue, resCy := x.resCy + 1 }) s).fab.lanes := rfl

theorem residueSuspect_lanes : (residueSuspect l s).fab.lanes = (modLane l (fun x => { x with st := .suspect }) s).fab.lanes := rfl

theorem otherLanes_residueNoted : OtherLanes [l] s (residueNoted l s) := fun _ hj => by
  rw [residueNoted_lanes, modLane_other fun h => hj (List.mem_singleton.mpr h)]

theorem residueNoted_lane (h : s.fab.lanes[l].resCy = 0) :
    (residueNoted l s).fab.lanes[l] = { s.fab.lanes[l] with residue := inc16 s.fab.lanes[l].residue, resCy := 1 } := by
  rw [residueNoted_lanes, modLane_same, h]

theorem residue_inReturn (hrun : s.life.cond = .run) (h0 : s.fab.lanes[l].resCy = 0) (hret : inReturn l s = true) :
    Does (.laneResidueError l) s [.fab] fun t =>
      OtherLanes [l] s t ∧ t.fab.lanes[l] = { s.fab.lanes[l] with residue := inc16 s.fab.lanes[l].residue, resCy := 1 } ∧
        t.fab.residue = inc32 s.fab.residue ∧ t.fab.ret = { s.fab.ret with phase := 5 } ∧ t.fab.takeDue = s.fab.takeDue := by
  have hexec := exec_residue (l := l) (s := s)
  rw [if_neg (by simp [hret, hrun]), if_neg (by rw [h0]; decide), if_pos hret] at hexec
  exact ⟨_, hexec, .comp (upd_modFab ..) rfl upd_residueNoted, fun j hj => otherLanes_residueNoted j hj, residueNoted_lane h0, rfl, rfl, rfl⟩

theorem residue_suspects (hrun : s.life.cond = .run) (h0 : s.fab.lanes[l].resCy = 0) (hret : inReturn l s = false) (hpos : s.fab.lanes[l].pos ≠ none) :
    Does (.laneResidueError l) s [.fab] fun t =>
      OtherLanes [l] s t ∧ t.fab.lanes[l] = { s.fab.lanes[l] with residue := inc16 s.fab.lanes[l].residue, resCy := 1, st := .suspect } ∧
        t.fab.residue = inc32 s.fab.residue ∧ t.fab.ret = s.fab.ret ∧ (∃ b, (l.val, b) ∈ t.fab.takeDue) := by
  have hexec := exec_residue (l := l) (s := s)
  rw [if_neg (by simp [-Fin.getElem_fin, hpos, hrun]), if_neg (by rw [h0]; decide), if_neg (by rw [hret]; exact Bool.false_ne_true)] at hexec
  refine ⟨_, hexec, .comp (upd_modFab ..) rfl (.comp (upd_modLane ..) rfl upd_residueNoted), ?_, ?_, rfl, rfl, ?_⟩
  · intro j hj
    rw [residueSuspect_lanes, modLane_other fun h => hj (List.mem_singleton.mpr h), otherLanes_residueNoted j hj]
  · rw [residueSuspect_lanes, modLane_same, residueNoted_lane h0]
  · change ∃ b, (l.val, b) ∈ if s.fab.takeDue.any (·.1 == l.val) then s.fab.takeDue else s.fab.takeDue ++ [(l.val, true)]
    split
    next hany =>
      obtain ⟨⟨n, b⟩, hmem, hn⟩ := List.any_eq_true.mp hany
      obtain rfl : n = l.val := by simpa using hn
      exact ⟨b, hmem⟩
    next => exact ⟨true, List.mem_append_right _ (List.mem_singleton.mpr rfl)⟩

theorem residue_restarts (hrun : s.life.cond = .run) (h1 : 1 ≤ s.fab.lanes[l].resCy) (h : inReturn l s = true ∨ s.fab.lanes[l].pos ≠ none) :
    Does (.laneResidueError l) s restartParts fun t => Restarted 3 t := by
  have hexec := exec_residue (l := l) (s := s)
  rw [if_neg (by rcases h with h | h <;> simp [-Fin.getElem_fin, h, hrun]), if_pos (Nat.succ_le_succ h1), engineLost_hub (.inr (.inl rfl))] at hexec
  obtain ⟨u, hu, hupd⟩ := upd_execLaneResidueError l s
  obtain rfl : _ = u := by injection hexec.symm.trans hu
  exact ⟨_, hexec, hupd.mono rfl, restarted_hubDown 3 _⟩

theorem residue_idles (h : s.life.cond ≠ .run ∨ (inReturn l s = false ∧ s.fab.lanes[l].pos = none)) : Idles (.laneResidueError l) s := by
  rw [Idles, exec_residue, if_pos]
  rcases h with h | ⟨hret, hpos⟩
  · simp [h]
  · rw [hpos, hret]
    rfl

end

/-! A lane handed off without a dual run (22 R736, R738). -/

section
variable {l sp : Fin 18} {s : State}

/-- The hand-off is no longer due. -/
def handoffDone (l : Fin 18) (s : State) : State := s.modFab fun v => { v with takeDue := v.takeDue.filter (·.1 != l.val) }

theorem handoffDone_lanes : (handoffDone l s).fab.lanes = s.fab.lanes := rfl

theorem upd_handoffDone : Upd [.fab] s (handoffDone l s) := upd_modFab ..

/-- The position goes to the spare, and the lane is out until its re-test. -/
def handedOff (l sp : Fin 18) (s : State) : State :=
  handoffDone l (modLane sp (fun a => { a with st := .inService, pos := s.fab.lanes[l].pos })
    (modLane l (fun a => { a with st := .suspect, pos := none, retestAt := some (s.clk.count + 512) }) s))

/-- Without a free spare the lane stays in service. -/
def keptOn (l : Fin 18) (s : State) : State := handoffDone l (modLane l (fun a => { a with st := .inService }) s)

theorem upd_handedOff : Upd [.fab] s (handedOff l sp s) := .comp upd_handoffDone rfl (.comp (upd_modLane ..) rfl (upd_modLane ..))

theorem upd_keptOn : Upd [.fab] s (keptOn l s) := .comp upd_handoffDone rfl (upd_modLane ..)

/-- What a hand-off does with what is due and the free spare. -/
def handoffOn (l : Fin 18) (s : State) : Option (Nat × Bool) → Option (Fin 18) → State
  | some d, some sp => raiseIf d.2 0x9020 1 255 (l.val * 2 ^ 24 + sp.val * 2 ^ 16) (handedOff l sp s)
  | some (_, true), none => raise 0x9020 1 255 (l.val * 2 ^ 24 + 0xFF * 2 ^ 16) (keptOn l s)
  | _, _ => s

theorem doLaneHandoff_eq : doLaneHandoff l s = handoffOn l s (s.fab.takeDue.find? (·.1 == l.val)) ((finList 18).find? (laneFree s)) := by
  unfold doLaneHandoff
  rcases s.fab.takeDue.find? (·.1 == l.val) with _ | ⟨n, _ | _⟩ <;> cases (finList 18).find? (laneFree s) <;> rfl

theorem exec_handoff : exec (.laneHandoff l) s =
    .next (atBoundary s (handoffOn l s (s.fab.takeDue.find? (·.1 == l.val)) ((finList 18).find? (laneFree s)))) :=
  congrArg (fun t => Outcome.next (atBoundary s t)) doLaneHandoff_eq

theorem handoff_hands {d : Nat × Bool} (hdue : s.fab.takeDue.find? (·.1 == l.val) = some d) (hsp : (finList 18).find? (laneFree s) = some sp) :
    Does (.laneHandoff l) s [.gates, .fab, .ev, .sen, .freeCtr] fun t =>
      t.fab.lanes[sp].st = .inService ∧ t.fab.lanes[sp].pos = s.fab.lanes[l].pos ∧ OtherLanes [l, sp] s t ∧
        (sp ≠ l → t.fab.lanes[l] = { s.fab.lanes[l] with st := .suspect, pos := none, retestAt := some (s.clk.count + 512) }) ∧
        t.fab.takeDue = s.fab.takeDue.filter (·.1 != l.val) ∧ t.ev = (raiseIf d.2 0x9020 1 255 (l.val * 2 ^ 24 + sp.val * 2 ^ 16) s).ev := by
  have hexec := exec_handoff (l := l) (s := s)
  rw [hdue, hsp] at hexec
  have hupd := upd_handedOff (l := l) (sp := sp) (s := s)
  refine does_atBoundary (t := raiseIf d.2 0x9020 1 255 (l.val * 2 ^ 24 + sp.val * 2 ^ 16) (handedOff l sp s)) hexec rfl
    ((Upd.comp (upd_raiseIf ..) rfl (hupd.mono rfl) : Upd [.fab, .ev, .sen] s _).mono rfl) fun u hfab hev => ?_
  have hfab' : u.fab = (handedOff l sp s).fab := hfab.trans (raiseIf_fab ..)
  refine ⟨?_, ?_, fun j hj => ?_, fun hne => ?_, ?_, hev.trans ((hupd.eventsAgree rfl rfl rfl rfl).raiseIf ..).ev⟩ <;> rw [hfab']
  · rw [handedOff, handoffDone_lanes, modLane_same]
  · rw [handedOff, handoffDone_lanes, modLane_same]
  · rw [List.mem_cons, List.mem_singleton, not_or] at hj
    rw [handedOff, handoffDone_lanes, modLane_other hj.2, modLane_other hj.1]
  · rw [handedOff, handoffDone_lanes, modLane_other hne.symm, modLane_same]
  · rfl

theorem handoff_keeps {n : Nat} (hdue : s.fab.takeDue.find? (·.1 == l.val) = some (n, true)) (hno : (finList 18).find? (laneFree s) = none) :
    Does (.laneHandoff l) s [.gates, .fab, .ev, .sen, .freeCtr] fun t =>
      t.fab.lanes[l] = { s.fab.lanes[l] with st := .inService } ∧ OtherLanes [l] s t ∧
        t.fab.takeDue = s.fab.takeDue.filter (·.1 != l.val) ∧ t.ev = (raise 0x9020 1 255 (l.val * 2 ^ 24 + 0xFF * 2 ^ 16) s).ev := by
  have hexec := exec_handoff (l := l) (s := s)
  rw [hdue, hno] at hexec
  have hupd := upd_keptOn (l := l) (s := s)
  refine does_atBoundary (t := raise 0x9020 1 255 (l.val * 2 ^ 24 + 0xFF * 2 ^ 16) (keptOn l s)) hexec rfl ((Upd.comp (upd_raise ..) rfl (hupd.mono rfl) : Upd [.fab, .ev, .sen] s _).mono rfl) fun u hfab hev => ?_
  have hfab' : u.fab = (keptOn l s).fab := hfab.trans (raise_fab ..)
  refine ⟨?_, fun j hj => ?_, ?_, hev.trans ((hupd.eventsAgree rfl rfl rfl rfl).raise ..).ev⟩ <;> rw [hfab']
  · rw [keptOn, handoffDone_lanes, modLane_same]
  · rw [keptOn, handoffDone_lanes, modLane_other fun h => hj (List.mem_singleton.mpr h)]
  · rfl

theorem handoff_idles {n : Nat} (h : s.fab.takeDue.find? (·.1 == l.val) = none ∨
    (s.fab.takeDue.find? (·.1 == l.val) = some (n, false) ∧ (finList 18).find? (laneFree s) = none)) : Idles (.laneHandoff l) s := by
  refine atBoundary_idles (f := doLaneHandoff l) rfl (doLaneHandoff_eq.trans ?_)
  rcases h with h | ⟨h, hno⟩
  · rw [h]
    cases (finList 18).find? (laneFree s) <;> rfl
  · rw [h, hno]
    rfl

end

end Sys2Proof.Machine
end

section
/-! SUPPORT. Lists of entries by a key, as the rows of a bank and the blocks of the MRAM keep them (22 R735). -/

namespace Sys2Proof.Machine

section
variable {α : Type} {key : α → Nat} {k q : Nat} {x : α} {l : List α}

theorem find?_without_same : (l.filter fun y => key y != k).find? (fun y => key y == k) = none := by
  rw [List.find?_filter, List.find?_eq_none]
  simp

theorem find?_without_other (h : q ≠ k) : (l.filter fun y => key y != k).find? (fun y => key y == q) = l.find? fun y => key y == q := by
  rw [List.find?_filter]
  congr 1
  funext y
  by_cases hy : key y = q
  · simp [hy, h]
  · simp [hy]

theorem find?_insertBy_other (h : q ≠ key x) : (insertBy key x l).find? (fun y => key y == q) = l.find? fun y => key y == q := by
  have hx : (key x == q) = false := by simpa using h.symm
  induction l with
  | nil => simp [insertBy, hx]
  | cons y ys ih =>
    rw [insertBy]
    split
    · rw [List.find?_cons, hx]
    · rw [List.find?_cons, List.find?_cons, ih]

theorem find?_insertBy_same (hx : key x = k) (hl : l.find? (fun y => key y == k) = none) : (insertBy key x l).find? (fun y => key y == k) = some x := by
  have hk : (key x == k) = true := by simpa using hx
  induction l with
  | nil => simp [insertBy, hk]
  | cons y ys ih =>
    rw [List.find?_cons] at hl
    split at hl
    · cases hl
    next hy =>
      rw [insertBy]
      split
      · rw [List.find?_cons, hk]
      · rw [List.find?_cons, hy, ih hl]

/-- An entry that stands once is found in the list that was rewritten and thinned out, unless it was dropped. -/
theorem find?_thinned {g : α → α} {p : α → Bool} (hg : ∀ y, key (g y) = key y) (h : (l.filter fun y => key y == k).length ≤ 1) :
    ((l.map g).filter p).find? (fun y => key y == k) = ((l.find? fun y => key y == k).map g).filter p := by
  have hfind : ((l.map g).filter p).find? (fun y => key y == k) = ((l.filter fun y => key y == k).find? (p ∘ g)).map g := by
    rw [List.find?_filter, List.find?_map, List.find?_filter]
    congr 2
    funext y
    simp [hg, Bool.and_comm]
  have hfirst : (l.find? fun y => key y == k) = (l.filter fun y => key y == k).head? := (List.head?_filter ..).symm
  rw [hfind, hfirst]
  match hl : l.filter fun y => key y == k with
  | [] => rfl
  | [y] =>
    rw [List.find?_singleton]
    cases hp : p (g y) <;> simp [hp, Option.filter]
  | y :: z :: ys =>
    rw [hl] at h
    simp at h

end

end Sys2Proof.Machine
end

section
/-! SUPPORT. Obligation O54, the rows of the SRAM banks (22 R735, R740, R741). -/

namespace Sys2Proof.Machine

open Host

section
variable {b : BankH} {e : Row} {q r : Nat}

theorem rowOf_row : (rowOf b r).row = r := by
  unfold rowOf
  cases h : b.rows.find? fun x => x.row == r with
  | none => rfl
  | some x => simpa using List.find?_some h

/-- An entry that says something. -/
def rowSays (e : Row) : Bool := !(decide (e.st = .inService) && e.spare.isNone && decide (e.ceRot = 0))

theorem putRow_says (h : rowSays e = true) : putRow e b = { b with rows := insertBy (·.row) e (b.rows.filter fun x => x.row != e.row) } := by
  unfold putRow
  dsimp only
  rw [if_neg (by rw [rowSays, Bool.not_eq_true'] at h; rw [h]; exact Bool.false_ne_true)]

theorem putRow_silent (h : rowSays e = false) : putRow e b = { b with rows := b.rows.filter fun x => x.row != e.row } := by
  unfold putRow
  dsimp only
  rw [if_pos (by simpa [rowSays] using h)]

theorem rowOf_putRow_other (h : q ≠ e.row) : rowOf (putRow e b) q = rowOf b q := by
  unfold rowOf
  cases hs : rowSays e with
  | true => rw [putRow_says hs, find?_insertBy_other h, find?_without_other h]
  | false => rw [putRow_silent hs, find?_without_other h]

theorem rowOf_putRow_says (he : e.row = r) (h : rowSays e = true) : rowOf (putRow e b) r = e := by
  subst he
  unfold rowOf
  rw [putRow_says h, find?_insertBy_same rfl find?_without_same]
  rfl

theorem rowOf_putRow_silent (he : e.row = r) (h : rowSays e = false) : rowOf (putRow e b) r = { row := r } := by
  subst he
  unfold rowOf
  rw [putRow_silent h, find?_without_same]
  rfl

/-- Whatever is kept, the row's state is the one put. -/
theorem rowOf_putRow_st (he : e.row = r) : (rowOf (putRow e b) r).st = e.st := by
  cases h : rowSays e with
  | true => rw [rowOf_putRow_says he h]
  | false =>
    rw [rowOf_putRow_silent he h]
    simp only [rowSays, Bool.not_eq_false', Bool.and_eq_true, decide_eq_true_eq] at h
    exact h.1.1.symm

/-- What a row's entry puts of the bank is its rows alone. -/
theorem putRow_rows : ∃ rows, putRow e b = { b with rows := rows } := by
  cases h : rowSays e with
  | true => exact ⟨_, putRow_says h⟩
  | false => exact ⟨_, putRow_silent h⟩

end

/-! One bank changed. -/

section
variable {k j : Fin 32} {f : BankH → BankH} {s t u : State}

theorem modBank_same : (modBank k f s).fab.banks[k] = f s.fab.banks[k] := Vector.getElem_set_self ..

theorem modBank_other (h : j ≠ k) : (modBank k f s).fab.banks[j] = s.fab.banks[j] :=
  Vector.getElem_set_ne k.isLt j.isLt fun h' => h (Fin.ext h'.symm)

theorem otherBanks_refl : OtherBanks k s s := ⟨fun _ _ => rfl, rfl, rfl, rfl⟩

theorem OtherBanks.modBank (h : OtherBanks k s t) : OtherBanks k s (modBank k f t) :=
  ⟨fun j hj => (modBank_other hj).trans (h.1 j hj), h.2⟩

theorem OtherBanks.of_fab (h : OtherBanks k s t) (hfab : u.fab = t.fab) : OtherBanks k s u := by
  unfold OtherBanks
  rw [hfab]
  exact h

end

/-! A row step (22 R740, R741). -/

section
variable {k : Fin 32} {r sp : Nat} {e : Row} {s t u : State} {fails : Bool}

/-- The bank turns to a row; past the last row the counts of a rotation start anew. -/
def turnBank (wrap : Bool) (r : Nat) (b : BankH) : BankH :=
  { b with
    row := r, testing := true, rotations := if wrap then inc32 b.rotations else b.rotations
    rows := if wrap then (b.rows.map fun x => { x with ceRot := 0 }).filter fun x => x.st != .inService || x.spare.isSome else b.rows }

/-- The bank's step has begun on a row. -/
def rowTurned (k : Fin 32) (r : Nat) (s : State) : State := modBank k (turnBank (decide (r < s.fab.banks[k].row)) r) s

/-- A row step on a row that stands SUSPECT on its spare. -/
def suspectRowStep (k : Fin 32) (r : Nat) (e : Row) (fails : Bool) (s : State) : State :=
  if fails then raise 0x9032 1 255 (k.val * 2 ^ 24 + r * 2 ^ 12) (modBank k (putRow { e with st := .retired, kind := 1 }) s)
  else modBank k (putRow { row := r }) s

/-- A row step on any other row. -/
def otherRowStep (k : Fin 32) (r sp : Nat) (e : Row) (fails : Bool) (s : State) : State :=
  if fails then raise 0x9031 1 255 (k.val * 2 ^ 24 + r * 2 ^ 12 + sp * 2 ^ 8) (modBank k (putRow { e with st := .suspect, spare := some sp, kind := 2 }) s)
  else s

theorem rowStepDue_iff : rowStepDue s = true ↔ rolling s = true ∧ s.clk.count % 16 = 0 := by
  simp [rowStepDue]

theorem doSramRowStep_none (h : rowStepDue s = true) (hfree : freeRow s.fab.banks[k] = none) :
    doSramRowStep k fails s = modBank k (fun b => { b with testing := false }) s := by
  obtain ⟨hroll, hcount⟩ := rowStepDue_iff.mp h
  unfold doSramRowStep
  dsimp only
  rw [if_neg (by simp [hroll, hcount]), hfree]

theorem doSramRowStep_some (h : rowStepDue s = true) (hfree : freeRow s.fab.banks[k] = some sp) (hr : r = turnRow s.fab.banks[k]) :
    doSramRowStep k fails s =
      if decide ((rowOf s.fab.banks[k] r).st = .suspect) && (rowOf s.fab.banks[k] r).spare.isSome then
        suspectRowStep k r (rowOf s.fab.banks[k] r) fails (rowTurned k r s)
      else otherRowStep k r sp (rowOf s.fab.banks[k] r) fails (rowTurned k r s) := by
  obtain ⟨hroll, hcount⟩ := rowStepDue_iff.mp h
  subst hr
  unfold doSramRowStep
  dsimp only
  rw [if_neg (by simp [hroll, hcount]), hfree]
  rfl

theorem rowStep_idles (h : rowStepDue s = false) : Idles (.sramRowStep k fails) s := by
  refine atBoundary_idles (f := doSramRowStep k fails) rfl ?_
  unfold doSramRowStep
  dsimp only
  rw [if_pos]
  rw [rowStepDue, Bool.and_eq_false_iff] at h
  rcases h with h | h
  · rw [h]
    rfl
  · simp_all

theorem rowStep_stops (h : rowStepDue s = true) (hfree : freeRow s.fab.banks[k] = none) :
    Does (.sramRowStep k fails) s [.gates, .fab, .freeCtr] fun t =>
      t.fab.banks[k] = { s.fab.banks[k] with testing := false } ∧ OtherBanks k s t := by
  refine does_atBoundary (t := modBank k (fun b => { b with testing := false }) s)
    (congrArg (fun t => Outcome.next (atBoundary s t)) (doSramRowStep_none h hfree)) rfl ((upd_modBank ..).mono rfl) fun u hfab _ => ?_
  exact ⟨by rw [hfab]; exact modBank_same, otherBanks_refl.modBank.of_fab hfab⟩

theorem rowTurn_rowTurned : RowTurn k r s (rowTurned k r s) := by
  unfold RowTurn rowTurned
  rw [modBank_same]
  refine ⟨rfl, rfl, rfl, rfl, ?_, fun hle q _ => ?_, otherBanks_refl.modBank⟩
  · simp [turnBank]
  · rw [decide_eq_false (by omega)]
    rfl

theorem RowTurn.putRow (h : RowTurn k r s t) (he : e.row = r) : RowTurn k r s (modBank k (putRow e) t) := by
  obtain ⟨hrow, htest, hce, hue, hrot, hrows, hothers⟩ := h
  obtain ⟨rows, hput⟩ := putRow_rows (e := e) (b := t.fab.banks[k])
  unfold RowTurn
  rw [modBank_same]
  refine ⟨by rw [hput]; exact hrow, by rw [hput]; exact htest, by rw [hput]; exact hce, by rw [hput]; exact hue, by rw [hput]; exact hrot,
    fun hle q hq => ?_, hothers.modBank⟩
  rw [rowOf_putRow_other (by rw [he]; exact hq), hrows hle q hq]

theorem RowTurn.of_fab (h : RowTurn k r s t) (hfab : u.fab = t.fab) : RowTurn k r s u := by
  obtain ⟨hrow, htest, hce, hue, hrot, hrows, hothers⟩ := h
  have hothers' := hothers.of_fab hfab
  unfold RowTurn
  rw [hfab]
  exact ⟨hrow, htest, hce, hue, hrot, hrows, hothers'⟩

theorem upd_rowTurned : Upd [.fab] s (rowTurned k r s) := upd_modBank ..

/-- A row that stands once keeps its state through the end of a rotation. -/
theorem rowTurned_st (h : (s.fab.banks[k].rows.filter (·.row == r)).length ≤ 1) :
    (rowOf (rowTurned k r s).fab.banks[k] r).st = (rowOf s.fab.banks[k] r).st := by
  rw [rowTurned, modBank_same]
  generalize s.fab.banks[k] = b at h ⊢
  cases hw : decide (r < b.row) with
  | false => rfl
  | true =>
    unfold rowOf turnBank
    dsimp only
    rw [if_pos rfl, find?_thinned (key := Row.row) (g := fun x => { x with ceRot := 0 }) (fun _ => rfl) h]
    cases b.rows.find? fun x => x.row == r with
    | none => rfl
    | some x =>
      rw [Option.map_some, Option.filter_some]
      split
      · rfl
      next hdrop =>
        simp only [Bool.or_eq_true, bne_iff_ne, not_or, not_not] at hdrop
        exact hdrop.1.symm

theorem exec_rowStep_other (h : rowStepDue s = true) (hfree : freeRow s.fab.banks[k] = some sp) (hr : r = turnRow s.fab.banks[k])
    (hst : (rowOf s.fab.banks[k] r).st ≠ .suspect ∨ (rowOf s.fab.banks[k] r).spare = none) :
    exec (.sramRowStep k fails) s = .next (atBoundary s (otherRowStep k r sp (rowOf s.fab.banks[k] r) fails (rowTurned k r s))) := by
  refine congrArg (fun t => Outcome.next (atBoundary s t)) ((doSramRowStep_some h hfree hr).trans (if_neg ?_))
  rcases hst with h | h <;> simp [-Fin.getElem_fin, h]

theorem exec_rowStep_suspect (h : rowStepDue s = true) (hfree : freeRow s.fab.banks[k] = some sp) (hr : r = turnRow s.fab.banks[k])
    (hst : (rowOf s.fab.banks[k] r).st = .suspect) (hsp : (rowOf s.fab.banks[k] r).spare ≠ none) :
    exec (.sramRowStep k fails) s = .next (atBoundary s (suspectRowStep k r (rowOf s.fab.banks[k] r) fails (rowTurned k r s))) := by
  refine congrArg (fun t => Outcome.next (atBoundary s t)) ((doSramRowStep_some h hfree hr).trans (if_pos ?_))
  simp [-Fin.getElem_fin, hst, Option.isSome_iff_ne_none, hsp]

theorem upd_rowPut : Upd [.fab] s (modBank k (putRow e) (rowTurned k r s)) := .comp (upd_modBank ..) rfl upd_rowTurned

/-- A row put after its turn, with an event. -/
theorem rowPut_holds {c : Instr} {code arg : Nat} {Q : State → Prop}
    (hexec : exec c s = .next (atBoundary s (raise code 1 255 arg (modBank k (putRow e) (rowTurned k r s))))) (he : e.row = r)
    (hsays : rowSays e = true)
    (hQ : ∀ u : State, RowTurn k r s u → rowOf u.fab.banks[k] r = e → u.ev = (raise code 1 255 arg s).ev → Q u) :
    Does c s [.gates, .fab, .ev, .sen, .freeCtr] Q := by
  refine does_atBoundary hexec rfl ((Upd.comp (upd_raise ..) rfl (upd_rowPut.mono rfl) : Upd [.fab, .ev, .sen] s _).mono rfl) fun u hfab hev => ?_
  rw [raise_fab] at hfab
  refine hQ u ((rowTurn_rowTurned.putRow he).of_fab hfab) ?_ (hev.trans ((upd_rowPut.eventsAgree rfl rfl rfl rfl).raise ..).ev)
  rw [hfab, modBank_same, rowOf_putRow_says he hsays]

theorem rowStep_fails (h : rowStepDue s = true) (hfree : freeRow s.fab.banks[k] = some sp) (hr : r = turnRow s.fab.banks[k])
    (hst : (rowOf s.fab.banks[k] r).st ≠ .suspect ∨ (rowOf s.fab.banks[k] r).spare = none) :
    Does (.sramRowStep k true) s [.gates, .fab, .ev, .sen, .freeCtr] fun t =>
      RowTurn k r s t ∧ (rowOf t.fab.banks[k] r).st = .suspect ∧ (rowOf t.fab.banks[k] r).spare = some sp ∧
        t.ev = (raise 0x9031 1 255 (k.val * 2 ^ 24 + r * 2 ^ 12 + sp * 2 ^ 8) s).ev :=
  rowPut_holds (e := { rowOf s.fab.banks[k] r with st := .suspect, spare := some sp, kind := 2 }) (exec_rowStep_other h hfree hr hst) rowOf_row rfl
    fun u hturn hrow hev => ⟨hturn, by rw [hrow], by rw [hrow], hev⟩

theorem rowStep_passes (h : rowStepDue s = true) (hfree : freeRow s.fab.banks[k] = some sp) (hr : r = turnRow s.fab.banks[k])
    (hst : (rowOf s.fab.banks[k] r).st ≠ .suspect ∨ (rowOf s.fab.banks[k] r).spare = none) :
    Does (.sramRowStep k false) s [.gates, .fab, .freeCtr] fun t =>
      RowTurn k r s t ∧ ((s.fab.banks[k].rows.filter (·.row == r)).length ≤ 1 → (rowOf t.fab.banks[k] r).st = (rowOf s.fab.banks[k] r).st) :=
  does_atBoundary (t := rowTurned k r s) (exec_rowStep_other h hfree hr hst) rfl (upd_rowTurned.mono rfl) fun u hfab _ =>
    ⟨rowTurn_rowTurned.of_fab hfab, fun honce => by rw [hfab]; exact rowTurned_st honce⟩

theorem rowStep_retires (h : rowStepDue s = true) (hfree : freeRow s.fab.banks[k] = some sp) (hr : r = turnRow s.fab.banks[k])
    (hst : (rowOf s.fab.banks[k] r).st = .suspect) (hsp : (rowOf s.fab.banks[k] r).spare ≠ none) :
    Does (.sramRowStep k true) s [.gates, .fab, .ev, .sen, .freeCtr] fun t =>
      RowTurn k r s t ∧ (rowOf t.fab.banks[k] r).st = .retired ∧ (rowOf t.fab.banks[k] r).spare = (rowOf s.fab.banks[k] r).spare ∧
        t.ev = (raise 0x9032 1 255 (k.val * 2 ^ 24 + r * 2 ^ 12) s).ev :=
  rowPut_holds (e := { rowOf s.fab.banks[k] r with st := .retired, kind := 1 }) (exec_rowStep_suspect h hfree hr hst hsp) rowOf_row rfl
    fun u hturn hrow hev => ⟨hturn, by rw [hrow], by rw [hrow], hev⟩

theorem rowStep_returns (h : rowStepDue s = true) (hfree : freeRow s.fab.banks[k] = some sp) (hr : r = turnRow s.fab.banks[k])
    (hst : (rowOf s.fab.banks[k] r).st = .suspect) (hsp : (rowOf s.fab.banks[k] r).spare ≠ none) :
    Does (.sramRowStep k false) s [.gates, .fab, .freeCtr] fun t => RowTurn k r s t ∧ rowOf t.fab.banks[k] r = { row := r } :=
  does_atBoundary (t := modBank k (putRow { row := r }) (rowTurned k r s)) (exec_rowStep_suspect h hfree hr hst hsp) rfl (upd_rowPut.mono rfl)
    fun u hfab _ => ⟨(rowTurn_rowTurned.putRow rfl).of_fab hfab, by rw [hfab, modBank_same, rowOf_putRow_silent rfl rfl]⟩

end

/-! A row moved (22 R741). -/

section
variable {k : Fin 32} {r sp : Nat} {s : State}

/-- The move is no longer due. -/
def moveTaken (k : Fin 32) (r : Nat) (s : State) : State := modBank k (fun b => { b with moveDue := b.moveDue.erase r }) s

theorem upd_moveTaken {e : Row} : Upd [.fab] s (modBank k (putRow e) (moveTaken k r s)) := .comp (upd_modBank ..) rfl (upd_modBank ..)

theorem doSramRowMove_some (hdue : r ∈ s.fab.banks[k].moveDue) (hfree : freeRow s.fab.banks[k] = some sp) : doSramRowMove k r s =
    raise 0x9031 1 255 (k.val * 2 ^ 24 + r * 2 ^ 12 + sp * 2 ^ 8)
      (modBank k (putRow { rowOf s.fab.banks[k] r with st := .suspect, spare := some sp, kind := 1 }) (moveTaken k r s)) := by
  unfold doSramRowMove
  dsimp only
  rw [if_neg (by simpa using hdue), hfree]
  rfl

theorem doSramRowMove_none (hdue : r ∈ s.fab.banks[k].moveDue) (hfree : freeRow s.fab.banks[k] = none) : doSramRowMove k r s =
    raise 0x9034 1 255 (k.val * 2 ^ 24) (modBank k (putRow { rowOf s.fab.banks[k] r with st := .inService }) (moveTaken k r s)) := by
  unfold doSramRowMove
  dsimp only
  rw [if_neg (by simpa using hdue), hfree]
  rfl

/-- A row's entry put by a move: the bank's other rows and the other banks stand. -/
theorem rowMove_holds {e : Row} {code arg : Nat} {Q : State → Prop} (he : e.row = r)
    (hdo : doSramRowMove k r s = raise code 1 255 arg (modBank k (putRow e) (moveTaken k r s)))
    (hQ : ∀ u : State, OtherBanks k s u → u.fab.banks[k].moveDue = s.fab.banks[k].moveDue.erase r →
      rowOf u.fab.banks[k] r = rowOf (modBank k (putRow e) (moveTaken k r s)).fab.banks[k] r →
      (∀ q : Fin 512, q.val ≠ r → rowOf u.fab.banks[k] q = rowOf s.fab.banks[k] q) → u.ev = (raise code 1 255 arg s).ev → Q u) :
    Does (.sramRowMove k r) s [.gates, .fab, .ev, .sen, .freeCtr] Q := by
  refine does_atBoundary (congrArg (fun t => Outcome.next (atBoundary s t)) hdo) rfl
    ((Upd.comp (upd_raise ..) rfl (upd_moveTaken.mono rfl) : Upd [.fab, .ev, .sen] s _).mono rfl) fun u hfab hev => ?_
  rw [raise_fab] at hfab
  obtain ⟨rows, hput⟩ := putRow_rows (e := e) (b := (moveTaken k r s).fab.banks[k])
  refine hQ u (otherBanks_refl.modBank.modBank.of_fab hfab) ?_ (by rw [hfab]) (fun q hq => ?_)
    (hev.trans ((upd_moveTaken.eventsAgree rfl rfl rfl rfl).raise ..).ev)
  · rw [hfab, modBank_same, hput]
    exact congrArg BankH.moveDue modBank_same
  · rw [hfab, modBank_same, rowOf_putRow_other (by rw [he]; exact hq), moveTaken, modBank_same]
    rfl

theorem rowMove_moves (hdue : r ∈ s.fab.banks[k].moveDue) (hfree : freeRow s.fab.banks[k] = some sp) :
    Does (.sramRowMove k r) s [.gates, .fab, .ev, .sen, .freeCtr] fun t =>
      OtherBanks k s t ∧ t.fab.banks[k].moveDue = s.fab.banks[k].moveDue.erase r ∧ (rowOf t.fab.banks[k] r).st = .suspect ∧
        (rowOf t.fab.banks[k] r).spare = some sp ∧ (∀ q : Fin 512, q.val ≠ r → rowOf t.fab.banks[k] q = rowOf s.fab.banks[k] q) ∧
        t.ev = (raise 0x9031 1 255 (k.val * 2 ^ 24 + r * 2 ^ 12 + sp * 2 ^ 8) s).ev := by
  refine rowMove_holds (e := { rowOf s.fab.banks[k] r with st := .suspect, spare := some sp, kind := 1 }) rowOf_row (doSramRowMove_some hdue hfree)
    fun u hothers hmove hrow hrest hev => ?_
  rw [modBank_same, rowOf_putRow_says (by exact rowOf_row) rfl] at hrow
  exact ⟨hothers, hmove, by rw [hrow], by rw [hrow], hrest, hev⟩

theorem rowMove_stays (hdue : r ∈ s.fab.banks[k].moveDue) (hfree : freeRow s.fab.banks[k] = none) :
    Does (.sramRowMove k r) s [.gates, .fab, .ev, .sen, .freeCtr] fun t =>
      OtherBanks k s t ∧ t.fab.banks[k].moveDue = s.fab.banks[k].moveDue.erase r ∧ (rowOf t.fab.banks[k] r).st = .inService ∧
        (∀ q : Fin 512, q.val ≠ r → rowOf t.fab.banks[k] q = rowOf s.fab.banks[k] q) ∧ t.ev = (raise 0x9034 1 255 (k.val * 2 ^ 24) s).ev := by
  refine rowMove_holds (e := { rowOf s.fab.banks[k] r with st := .inService }) rowOf_row (doSramRowMove_none hdue hfree)
    fun u hothers hmove hrow hrest hev => ⟨hothers, hmove, ?_, hrest, hev⟩
  rw [hrow, modBank_same, rowOf_putRow_st (by exact rowOf_row)]

theorem rowMove_idles (h : r ∉ s.fab.banks[k].moveDue) : Idles (.sramRowMove k r) s := by
  refine atBoundary_idles (f := doSramRowMove k r) rfl ?_
  unfold doSramRowMove
  dsimp only
  rw [if_pos (by simpa using h)]

end

/-! A correctable read (22 R740, R741). -/

section
variable {k : Fin 32} {r sp : Nat} {s : State}

/-- The row once the read is counted. -/
def readRow (r : Nat) (b : BankH) : Row := { rowOf b r with ceRot := (rowOf b r).ceRot + 1 }

theorem readRow_says {b : BankH} : rowSays (readRow r b) = true := by simp [rowSays, readRow]

theorem bankRead_moveDue {b : BankH} : (bankRead r b).moveDue = b.moveDue := by
  obtain ⟨rows, hput⟩ := putRow_rows (e := readRow r b) (b := b)
  change (putRow (readRow r b) b).moveDue = _
  rw [hput]

theorem bankRead_row {b : BankH} : rowOf (bankRead r b) r = readRow r b := rowOf_putRow_says (e := readRow r b) rowOf_row readRow_says

/-- The read is counted. -/
def readCounted (k : Fin 32) (r : Nat) (s : State) : State := modBank k (bankRead r) s

/-- The row is SUSPECT and moves at the next boundary. -/
def rowSuspected (k : Fin 32) (r : Nat) (e : Row) (s : State) : State :=
  modBank k (fun b => { putRow { e with st := .suspect } b with moveDue := b.moveDue ++ [r] }) s

/-- What a second read of a rotation does, by the free spare row. -/
def secondRead (k : Fin 32) (r : Nat) (e : Row) (s : State) : Option Nat → State
  | some _ => rowSuspected k r e s
  | none => raise 0x9034 1 255 (k.val * 2 ^ 24) s

theorem exec_correctable : exec (.sramCorrectableError k r) s =
    .next (if decide ((rowOf s.fab.banks[k] r).st ≠ .inService) || decide ((rowOf s.fab.banks[k] r).ceRot + 1 < 2) then readCounted k r s
      else secondRead k r (readRow r s.fab.banks[k]) (readCounted k r s) (freeRow (bankRead r s.fab.banks[k]))) := by
  have hbank : freeRow (readCounted k r s).fab.banks[k] = freeRow (bankRead r s.fab.banks[k]) := congrArg freeRow modBank_same
  change execSramCorrectableError k r s = _
  rw [← hbank]
  rfl

theorem upd_readCounted : Upd [.fab] s (readCounted k r s) := upd_modBank ..

theorem correctable_counts (h : (rowOf s.fab.banks[k] r).st ≠ .inService ∨ (rowOf s.fab.banks[k] r).ceRot = 0) :
    Does (.sramCorrectableError k r) s [.fab] fun t =>
      OtherBanks k s t ∧ t.fab.banks[k].ce = inc32 s.fab.banks[k].ce ∧ t.fab.banks[k].moveDue = s.fab.banks[k].moveDue ∧
        rowOf t.fab.banks[k] r = { rowOf s.fab.banks[k] r with ceRot := (rowOf s.fab.banks[k] r).ceRot + 1 } := by
  have hexec := exec_correctable (k := k) (r := r) (s := s)
  rw [if_pos (by rcases h with h | h <;> simp [-Fin.getElem_fin, h])] at hexec
  refine ⟨_, hexec, upd_readCounted, otherBanks_refl.modBank, ?_, ?_, ?_⟩ <;> rw [readCounted, modBank_same]
  · rfl
  · exact bankRead_moveDue
  · exact bankRead_row

theorem secondRead_due (hst : (rowOf s.fab.banks[k] r).st = .inService) (hce : 1 ≤ (rowOf s.fab.banks[k] r).ceRot) :
    exec (.sramCorrectableError k r) s =
      .next (secondRead k r (readRow r s.fab.banks[k]) (readCounted k r s) (freeRow (bankRead r s.fab.banks[k]))) := by
  rw [exec_correctable, if_neg]
  rw [hst]
  simpa using Nat.ne_of_gt hce

theorem correctable_suspects (hst : (rowOf s.fab.banks[k] r).st = .inService) (hce : 1 ≤ (rowOf s.fab.banks[k] r).ceRot)
    (hfree : freeRow (bankRead r s.fab.banks[k]) = some sp) : Does (.sramCorrectableError k r) s [.fab] fun t =>
      OtherBanks k s t ∧ t.fab.banks[k].ce = inc32 s.fab.banks[k].ce ∧ t.fab.banks[k].moveDue = s.fab.banks[k].moveDue ++ [r] ∧
        (rowOf t.fab.banks[k] r).st = .suspect := by
  have hexec := secondRead_due hst hce
  rw [hfree, secondRead] at hexec
  have hrow : (readRow r s.fab.banks[k]).row = r := rowOf_row
  obtain ⟨rows, hput⟩ := putRow_rows (e := { readRow r s.fab.banks[k] with st := .suspect }) (b := bankRead r s.fab.banks[k])
  refine ⟨_, hexec, .comp (upd_modBank ..) rfl upd_readCounted, otherBanks_refl.modBank.modBank, ?_, ?_, ?_⟩ <;>
    rw [rowSuspected, modBank_same, readCounted, modBank_same]
  · exact congrArg BankH.ce hput
  · rw [bankRead_moveDue]
  · exact rowOf_putRow_st (e := { readRow r s.fab.banks[k] with st := .suspect }) hrow

theorem correctable_stays (hst : (rowOf s.fab.banks[k] r).st = .inService) (hce : 1 ≤ (rowOf s.fab.banks[k] r).ceRot)
    (hfree : freeRow (bankRead r s.fab.banks[k]) = none) : Does (.sramCorrectableError k r) s [.fab, .ev, .sen] fun t =>
      OtherBanks k s t ∧ t.fab.banks[k] = bankRead r s.fab.banks[k] ∧ (rowOf t.fab.banks[k] r).st = .inService ∧
        t.ev = (raise 0x9034 1 255 (k.val * 2 ^ 24) s).ev := by
  have hexec := secondRead_due hst hce
  rw [hfree, secondRead] at hexec
  have hbank : (readCounted k r s).fab.banks[k] = bankRead r s.fab.banks[k] := modBank_same
  refine ⟨_, hexec, .comp (upd_raise ..) rfl (upd_readCounted.mono rfl), otherBanks_refl.modBank.of_fab (raise_fab ..), ?_, ?_,
    ((upd_readCounted.eventsAgree rfl rfl rfl rfl).raise ..).ev⟩ <;> rw [raise_fab, hbank]
  rw [bankRead_row]
  exact hst

end

/-! An uncorrectable read (22 R741). -/

section
variable {k : Fin 32} {r : Nat} {s : State}

theorem uncorrectable_lost (hr : r < 512) (hup : s.elec.supplyOk = true) : Does (.sramUncorrectableError k r) s restartParts fun t =>
    t = engineLost (bankOwner k)
        (raise 0x9033 1 255 (k.val * 2 ^ 24 + r * 2 ^ 12 + srcOf (bankOwner k)) (modBank k (fun x => { x with ue := inc32 x.ue }) s)) ∧
      (bankOwner k = .boot ∨ bankOwner k = .met ∨ bankOwner k = .led → Restarted 3 t) := by
  have hexec : exec (.sramUncorrectableError k r) s = .next (engineLost (bankOwner k)
      (raise 0x9033 1 255 (k.val * 2 ^ 24 + r * 2 ^ 12 + srcOf (bankOwner k)) (modBank k (fun x => { x with ue := inc32 x.ue }) s))) := by
    change execSramUncorrectableError k r s = _
    rw [execSramUncorrectableError, if_neg (by simp [hup]; omega)]
    rfl
  obtain ⟨u, hu, hupd⟩ := upd_execSramUncorrectableError k r s
  obtain rfl : _ = u := by injection hexec.symm.trans hu
  exact ⟨_, hexec, hupd.mono rfl, rfl, fun hub => by rw [engineLost_hub hub]; exact restarted_hubDown 3 _⟩

theorem uncorrectable_idles (h : 512 ≤ r ∨ s.elec.supplyOk = false) : Idles (.sramUncorrectableError k r) s := by
  change execSramUncorrectableError k r s = _
  rw [execSramUncorrectableError, if_pos (by rcases h with h | h <;> simp [h])]

end

end Sys2Proof.Machine
end

section
/-! PROOF. Obligation O54 (22 R735 to R743, R752, R757, R758), with the blocks of the MRAM. -/

namespace Sys2Proof.Machine

open Host

/-! The entry of a block, and one spare changed. -/

section
variable {b : Nat} {e : Blk} {k j : Fin 64} {f : SpareBlk → SpareBlk} {s t u : State}

theorem blkOf_blk : (blkOf s b).blk = b := by
  unfold blkOf
  cases h : s.fab.blks.find? fun x => x.blk == b with
  | none => rfl
  | some x => simpa using List.find?_some h

theorem blkOf_congr (h : t.fab.blks = s.fab.blks) : blkOf t b = blkOf s b := by rw [blkOf, blkOf, h]

/-- An entry that says something. -/
def blkSays (e : Blk) : Bool := !(decide (e.st = .inService) && decide (e.ceRot = 0) && !e.cePrev)

theorem putBlk_says (h : blkSays e = true) : (putBlk e s).fab.blks = insertBy (·.blk) e (s.fab.blks.filter fun x => x.blk != e.blk) :=
  if_neg (by rw [blkSays, Bool.not_eq_true'] at h; rw [h]; exact Bool.false_ne_true)

theorem putBlk_silent (h : blkSays e = false) : (putBlk e s).fab.blks = s.fab.blks.filter fun x => x.blk != e.blk :=
  if_pos (by rwa [blkSays, Bool.not_eq_false'] at h)

theorem blkOf_putBlk_says (he : e.blk = b) (h : blkSays e = true) : blkOf (putBlk e s) b = e := by
  subst he
  rw [blkOf, putBlk_says h, find?_insertBy_same rfl find?_without_same]
  rfl

/-- Whatever is kept, the block's state is the one put. -/
theorem blkOf_putBlk_st (he : e.blk = b) : (blkOf (putBlk e s) b).st = e.st := by
  cases h : blkSays e with
  | true => rw [blkOf_putBlk_says he h]
  | false =>
    subst he
    rw [blkOf, putBlk_silent h, find?_without_same]
    simp only [blkSays, Bool.not_eq_false', Bool.and_eq_true, decide_eq_true_eq] at h
    exact h.1.1.symm

theorem modSpare_same : (modSpare k f s).fab.spares[k] = f s.fab.spares[k] := Vector.getElem_set_self ..

theorem modSpare_other (h : j ≠ k) : (modSpare k f s).fab.spares[j] = s.fab.spares[j] :=
  Vector.getElem_set_ne k.isLt j.isLt fun h' => h (Fin.ext h'.symm)

end

/-! A block step (22 R742, R743, R751). -/

section
variable {b : Nat} {e : Blk} {sp k : Fin 64} {s t u : State} {fails : Bool}

/-- The rotation turns to a block; past the last block the counts start anew. -/
def blkTurned (b : Nat) (s : State) : State := s.modFab fun v =>
  { v with
    block := b, brot := if decide (b ≤ s.fab.block) then inc32 v.brot else v.brot
    blks := if decide (b ≤ s.fab.block) then (v.blks.map fun x => { x with ceRot := 0, cePrev := x.ceRot != 0 }).filter fun x =>
        x.st != .inService || x.cePrev
      else v.blks }

/-- A block's content is on a spare. -/
def spareTaken (sp : Fin 64) (b : Nat) (s : State) : State := modSpare sp (fun _ => { st := .inService, use := 1, repl := b }) s

/-- A spare is free again. -/
def spareFreed (k : Fin 64) (s : State) : State :=
  modSpare k (fun x => { x with st := .spare, use := 3, repl := 0 }) (s.modFab fun v => { v with returns := inc32 v.returns })

/-- No spare is free, and it has been said. -/
def sparesOut (s : State) : State := s.modFab fun v => { v with noSpare := true }

/-- A block that passes its test, with the repair map's rolling entry. -/
def blkRolled (b : Nat) (sp : Fin 64) (s : State) : State := s.modFab fun v => { v with rolling := some (b, sp.val) }

/-- What a step does on its block, by the free spare and the spare that holds its content. -/
def blkStepOn (fails : Bool) (b : Nat) (e : Blk) (free held : Option (Fin 64)) (s : State) : State :=
  match free with
  | none => if s.fab.noSpare then s else raise 0x9055 1 255 0 (sparesOut s)
  | some sp =>
    if e.st = .suspect then
      match held with
      | some k =>
        if fails then raise 0x9052 1 255 (b * 2 ^ 22) (putBlk { e with st := .retired } s)
        else raise 0x9053 1 255 (b * 2 ^ 22) (putBlk { blk := b } (spareFreed k s))
      | none => s
    else if fails then raise 0x9051 1 255 (b * 2 ^ 22 + sp.val * 2 ^ 16) (putBlk { e with st := .suspect } (spareTaken sp b s))
    else blkRolled b sp s

theorem blkStepOn_other {held : Option (Fin 64)} (h : e.st ≠ .suspect) : blkStepOn fails b e (some sp) held s =
    if fails then raise 0x9051 1 255 (b * 2 ^ 22 + sp.val * 2 ^ 16) (putBlk { e with st := .suspect } (spareTaken sp b s)) else blkRolled b sp s :=
  if_neg h

theorem blkStepOn_held (h : e.st = .suspect) : blkStepOn fails b e (some sp) (some k) s =
    if fails then raise 0x9052 1 255 (b * 2 ^ 22) (putBlk { e with st := .retired } s)
    else raise 0x9053 1 255 (b * 2 ^ 22) (putBlk { blk := b } (spareFreed k s)) :=
  if_pos h

theorem blkStepOn_unheld (h : e.st = .suspect) : blkStepOn fails b e (some sp) none s = s := if_pos h

theorem doMramBlockStep_due (h : blkStepDue s = true) : doMramBlockStep fails s =
    blkStepOn fails (turnBlk s) (blkOf s (turnBlk s)) (freeBlk s) (spareOf s (turnBlk s)) (blkTurned (turnBlk s) s) := by
  obtain ⟨hroll, hcount⟩ : rolling s = true ∧ s.clk.count % 64 = 0 := by simpa [blkStepDue] using h
  unfold doMramBlockStep
  rw [if_neg (by simp [hroll, hcount])]
  rfl

theorem exec_blkStep (h : blkStepDue s = true) : exec (.mramBlockStep fails) s =
    .next (atBoundary s (blkStepOn fails (turnBlk s) (blkOf s (turnBlk s)) (freeBlk s) (spareOf s (turnBlk s)) (blkTurned (turnBlk s) s))) :=
  congrArg (fun t => Outcome.next (atBoundary s t)) (doMramBlockStep_due h)

theorem blkStep_idles (h : blkStepDue s = false) : Idles (.mramBlockStep fails) s := by
  refine atBoundary_idles (f := doMramBlockStep fails) rfl ?_
  unfold doMramBlockStep
  rw [if_pos]
  rw [blkStepDue, Bool.and_eq_false_iff] at h
  rcases h with h | h
  · rw [h]
    rfl
  · simp_all

theorem upd_blkTurned : Upd [.fab] s (blkTurned b s) := upd_modFab ..

theorem upd_spareTaken : Upd [.fab] s (spareTaken sp b s) := upd_modSpare ..

theorem upd_spareFreed : Upd [.fab] s (spareFreed k s) := .comp (upd_modSpare ..) rfl (upd_modFab ..)

theorem blkTurn_blkTurned : BlkTurn b s (blkTurned b s) := by
  refine ⟨rfl, ?_, rfl, rfl, rfl, rfl⟩
  change (if decide (b ≤ s.fab.block) = true then inc32 s.fab.brot else s.fab.brot) = _
  simp

theorem putBlk_spares : (putBlk e s).fab.spares = s.fab.spares := rfl

theorem spareTaken_same {n : Nat} : (spareTaken sp n s).fab.spares[sp] = { st := .inService, use := 1, repl := n } := modSpare_same

theorem spareTaken_other {n : Nat} {j : Fin 64} (h : j ≠ sp) : (spareTaken sp n s).fab.spares[j] = s.fab.spares[j] := modSpare_other h

theorem spareFreed_same : (spareFreed k s).fab.spares[k] = { st := .spare, use := 3, repl := 0 } := modSpare_same

theorem spareFreed_other {j : Fin 64} (h : j ≠ k) : (spareFreed k s).fab.spares[j] = s.fab.spares[j] := modSpare_other h

/-- A block's entry put at a boundary, with an event. -/
theorem blkPut_holds {c : Instr} {code arg : Nat} {Q : State → Prop} (hexec : exec c s = .next (atBoundary s (raise code 1 255 arg (putBlk e t))))
    (he : e.blk = b) (hupd : Upd [.fab] s t)
    (hQ : ∀ u : State, u.fab = (putBlk e t).fab → (blkOf u b).st = e.st → u.ev = (raise code 1 255 arg s).ev → Q u) :
    Does c s [.gates, .fab, .ev, .sen, .freeCtr] Q := by
  have hput : Upd [.fab] s (putBlk e t) := .comp (upd_putBlk ..) rfl hupd
  refine does_atBoundary hexec rfl ((Upd.comp (upd_raise ..) rfl (hput.mono rfl) : Upd [.fab, .ev, .sen] s _).mono rfl) fun u hfab hev => ?_
  rw [raise_fab] at hfab
  refine hQ u hfab ?_ (hev.trans ((hput.eventsAgree rfl rfl rfl rfl).raise ..).ev)
  rw [blkOf_congr (t := u) (s := putBlk e t) (by rw [hfab]), blkOf_putBlk_st he]

/-- A turn stands through what changes neither the rotation nor lanes, banks and counts. -/
theorem BlkTurn.of_fab (h : BlkTurn b s t) (hfab : u.fab = t.fab) : BlkTurn b s u := by
  unfold BlkTurn
  rw [hfab]
  exact h

theorem BlkTurn.putBlk (h : BlkTurn b s t) : BlkTurn b s (putBlk e t) := h

theorem BlkTurn.spareTaken {n : Nat} (h : BlkTurn b s t) : BlkTurn b s (spareTaken sp n t) := h

theorem BlkTurn.spareFreed (h : BlkTurn b s t) : BlkTurn b s (spareFreed k t) := h

theorem BlkTurn.sparesOut (h : BlkTurn b s t) : BlkTurn b s (sparesOut t) := h

theorem BlkTurn.blkRolled {n : Nat} (h : BlkTurn b s t) : BlkTurn b s (blkRolled n sp t) := h

/-- A block that stands once keeps its state through the end of a rotation. -/
theorem blkTurned_st {n : Nat} (h : (s.fab.blks.filter (·.blk == b)).length ≤ 1) : (blkOf (blkTurned n s) b).st = (blkOf s b).st := by
  have hblks : (blkTurned n s).fab.blks = if decide (n ≤ s.fab.block) then
      (s.fab.blks.map fun x => { x with ceRot := 0, cePrev := x.ceRot != 0 }).filter fun x => x.st != .inService || x.cePrev
    else s.fab.blks := rfl
  rw [blkOf, blkOf, hblks]
  split
  · rw [find?_thinned (key := Blk.blk) (g := fun x => { x with ceRot := 0, cePrev := x.ceRot != 0 }) (fun _ => rfl) h]
    cases s.fab.blks.find? fun x => x.blk == b with
    | none => rfl
    | some x =>
      rw [Option.map_some, Option.filter_some]
      split
      · rfl
      next hdrop =>
        simp only [Bool.or_eq_true, bne_iff_ne, not_or, not_not] at hdrop
        exact hdrop.1.symm
  · rfl

theorem blkStep_stops (h : blkStepDue s = true) (hfree : freeBlk s = none) :
    Does (.mramBlockStep fails) s [.gates, .fab, .ev, .sen, .freeCtr] fun t =>
      BlkTurn (turnBlk s) s t ∧ t.fab.noSpare = true ∧ t.fab.spares = s.fab.spares ∧ t.ev = (raiseIf (!s.fab.noSpare) 0x9055 1 255 0 s).ev := by
  have hexec := exec_blkStep (fails := fails) h
  rw [hfree, blkStepOn, show (blkTurned (turnBlk s) s).fab.noSpare = s.fab.noSpare from rfl] at hexec
  cases hno : s.fab.noSpare with
  | true =>
    rw [hno, if_pos rfl] at hexec
    exact does_atBoundary hexec rfl (upd_blkTurned.mono rfl) fun u hfab hev =>
      ⟨blkTurn_blkTurned.of_fab hfab, by rw [hfab]; exact hno, by rw [hfab]; rfl, hev⟩
  | false =>
    rw [hno, if_neg Bool.false_ne_true] at hexec
    have hupd : Upd [.fab] s (sparesOut (blkTurned (turnBlk s) s)) := .comp (upd_modFab ..) rfl upd_blkTurned
    refine does_atBoundary hexec rfl ((Upd.comp (upd_raise ..) rfl (hupd.mono rfl) : Upd [.fab, .ev, .sen] s _).mono rfl) fun u hfab hev => ?_
    rw [raise_fab] at hfab
    exact ⟨blkTurn_blkTurned.sparesOut.of_fab hfab, by rw [hfab]; rfl, by rw [hfab]; rfl, hev.trans ((hupd.eventsAgree rfl rfl rfl rfl).raise ..).ev⟩

theorem blkStep_fails (h : blkStepDue s = true) (hfree : freeBlk s = some sp) (hb : b = turnBlk s) (hst : (blkOf s b).st ≠ .suspect) :
    Does (.mramBlockStep true) s [.gates, .fab, .ev, .sen, .freeCtr] fun t =>
      BlkTurn b s t ∧ (blkOf t b).st = .suspect ∧ t.fab.spares[sp] = { st := .inService, use := 1, repl := b } ∧ OtherSpares sp s t ∧
        t.ev = (raise 0x9051 1 255 (b * 2 ^ 22 + sp.val * 2 ^ 16) s).ev := by
  subst hb
  have hexec := exec_blkStep (fails := true) h
  rw [hfree, blkStepOn_other hst, if_pos rfl] at hexec
  refine blkPut_holds hexec (by exact blkOf_blk) (.comp upd_spareTaken rfl upd_blkTurned) fun u hfab hblk hev =>
    ⟨blkTurn_blkTurned.spareTaken.putBlk.of_fab hfab, hblk, ?_, fun j hj => ?_, hev⟩
  · rw [hfab, putBlk_spares, spareTaken_same]
  · rw [hfab, putBlk_spares, spareTaken_other hj]
    rfl

theorem blkStep_passes (h : blkStepDue s = true) (hfree : freeBlk s = some sp) (hb : b = turnBlk s) (hst : (blkOf s b).st ≠ .suspect) :
    Does (.mramBlockStep false) s [.gates, .fab, .freeCtr] fun t =>
      BlkTurn b s t ∧ t.fab.spares = s.fab.spares ∧ t.fab.rolling = some (b, sp.val) ∧
        ((s.fab.blks.filter (·.blk == b)).length ≤ 1 → (blkOf t b).st = (blkOf s b).st) := by
  subst hb
  have hexec := exec_blkStep (fails := false) h
  rw [hfree, blkStepOn_other hst, if_neg Bool.false_ne_true] at hexec
  have hupd : Upd [.fab] s (blkRolled (turnBlk s) sp (blkTurned (turnBlk s) s)) := .comp (upd_modFab ..) rfl upd_blkTurned
  refine does_atBoundary hexec rfl (hupd.mono rfl) fun u hfab _ =>
    ⟨blkTurn_blkTurned.blkRolled.of_fab hfab, by rw [hfab]; rfl, by rw [hfab]; rfl, fun honce => ?_⟩
  rw [blkOf_congr (t := u) (s := blkTurned (turnBlk s) s) (by rw [hfab]; rfl)]
  exact blkTurned_st honce

theorem blkStep_retires (h : blkStepDue s = true) (hfree : freeBlk s = some sp) (hb : b = turnBlk s) (hst : (blkOf s b).st = .suspect)
    (hheld : spareOf s b = some k) :
    Does (.mramBlockStep true) s [.gates, .fab, .ev, .sen, .freeCtr] fun t =>
      BlkTurn b s t ∧ (blkOf t b).st = .retired ∧ t.fab.spares = s.fab.spares ∧ t.ev = (raise 0x9052 1 255 (b * 2 ^ 22) s).ev := by
  subst hb
  have hexec := exec_blkStep (fails := true) h
  rw [hfree, hheld, blkStepOn_held hst, if_pos rfl] at hexec
  refine blkPut_holds hexec (by exact blkOf_blk) upd_blkTurned fun u hfab hblk hev => ⟨blkTurn_blkTurned.putBlk.of_fab hfab, hblk, ?_, hev⟩
  rw [hfab, putBlk_spares]
  rfl

theorem blkStep_returns (h : blkStepDue s = true) (hfree : freeBlk s = some sp) (hb : b = turnBlk s) (hst : (blkOf s b).st = .suspect)
    (hheld : spareOf s b = some k) :
    Does (.mramBlockStep false) s [.gates, .fab, .ev, .sen, .freeCtr] fun t =>
      BlkTurn b s t ∧ (blkOf t b).st = .inService ∧ t.fab.spares[k] = { st := .spare, use := 3, repl := 0 } ∧ OtherSpares k s t ∧
        t.fab.returns = inc32 s.fab.returns ∧ t.ev = (raise 0x9053 1 255 (b * 2 ^ 22) s).ev := by
  subst hb
  have hexec := exec_blkStep (fails := false) h
  rw [hfree, hheld, blkStepOn_held hst, if_neg Bool.false_ne_true] at hexec
  refine blkPut_holds hexec rfl (.comp upd_spareFreed rfl upd_blkTurned) fun u hfab hblk hev =>
    ⟨blkTurn_blkTurned.spareFreed.putBlk.of_fab hfab, hblk, ?_, fun j hj => ?_, by rw [hfab]; rfl, hev⟩
  · rw [hfab, putBlk_spares, spareFreed_same]
  · rw [hfab, putBlk_spares, spareFreed_other hj]
    rfl

theorem blkStep_waits (h : blkStepDue s = true) (hfree : freeBlk s = some sp) (hb : b = turnBlk s) (hst : (blkOf s b).st = .suspect)
    (hheld : spareOf s b = none) : Does (.mramBlockStep fails) s [.gates, .fab, .freeCtr] fun t => BlkTurn b s t ∧ t.fab.spares = s.fab.spares := by
  subst hb
  have hexec := exec_blkStep (fails := fails) h
  rw [hfree, hheld, blkStepOn_unheld hst] at hexec
  exact does_atBoundary (t := blkTurned (turnBlk s) s) hexec rfl (upd_blkTurned.mono rfl) fun u hfab _ => ⟨blkTurn_blkTurned.of_fab hfab, by rw [hfab]; rfl⟩

end

/-! A block moved (22 R743). -/

section
variable {b : Nat} {sp : Fin 64} {s : State}

/-- The move is no longer due. -/
def blkMoveTaken (b : Nat) (s : State) : State := s.modFab fun v => { v with blkMove := v.blkMove.erase b }

theorem upd_blkMoveTaken : Upd [.fab] s (blkMoveTaken b s) := upd_modFab ..

/-- What a move does, by the free spare. -/
def blkMoveOn (b : Nat) (e : Blk) (s : State) : Option (Fin 64) → State
  | some sp => raise 0x9051 1 255 (b * 2 ^ 22 + sp.val * 2 ^ 16) (putBlk { e with st := .suspect } (spareTaken sp b s))
  | none => raise 0x9055 1 255 0 (putBlk { e with st := .inService } s)

theorem exec_blkMove (hdue : b ∈ s.fab.blkMove) (hcount : s.clk.count % 64 = 0) : exec (.mramBlockMove b) s =
    .next (atBoundary s (blkMoveOn b (blkOf s b) (blkMoveTaken b s) (freeBlk s))) := by
  refine congrArg (fun t => Outcome.next (atBoundary s t)) ((if_neg (by simp [hdue, hcount]) : doMramBlockMove b s = _).trans ?_)
  rfl

theorem blkMove_moves (hdue : b ∈ s.fab.blkMove) (hcount : s.clk.count % 64 = 0) (hfree : freeBlk s = some sp) :
    Does (.mramBlockMove b) s [.gates, .fab, .ev, .sen, .freeCtr] fun t =>
      t.fab.blkMove = s.fab.blkMove.erase b ∧ (blkOf t b).st = .suspect ∧ t.fab.spares[sp] = { st := .inService, use := 1, repl := b } ∧
        OtherSpares sp s t ∧ t.fab.lanes = s.fab.lanes ∧ t.fab.banks = s.fab.banks ∧
        t.ev = (raise 0x9051 1 255 (b * 2 ^ 22 + sp.val * 2 ^ 16) s).ev := by
  have hexec := exec_blkMove hdue hcount
  rw [hfree, blkMoveOn] at hexec
  refine blkPut_holds hexec (by exact blkOf_blk) (.comp upd_spareTaken rfl upd_blkMoveTaken) fun u hfab hblk hev =>
    ⟨by rw [hfab]; rfl, hblk, ?_, fun j hj => ?_, by rw [hfab]; rfl, by rw [hfab]; rfl, hev⟩
  · rw [hfab, putBlk_spares, spareTaken_same]
  · rw [hfab, putBlk_spares, spareTaken_other hj]
    rfl

theorem blkMove_stays (hdue : b ∈ s.fab.blkMove) (hcount : s.clk.count % 64 = 0) (hfree : freeBlk s = none) :
    Does (.mramBlockMove b) s [.gates, .fab, .ev, .sen, .freeCtr] fun t =>
      t.fab.blkMove = s.fab.blkMove.erase b ∧ (blkOf t b).st = .inService ∧ t.fab.spares = s.fab.spares ∧
        t.ev = (raise 0x9055 1 255 0 s).ev := by
  have hexec := exec_blkMove hdue hcount
  rw [hfree, blkMoveOn] at hexec
  exact blkPut_holds hexec (by exact blkOf_blk) upd_blkMoveTaken fun u hfab hblk hev => ⟨by rw [hfab]; rfl, hblk, by rw [hfab]; rfl, hev⟩

theorem blkMove_idles (h : b ∉ s.fab.blkMove ∨ s.clk.count % 64 ≠ 0) : Idles (.mramBlockMove b) s :=
  atBoundary_idles (f := doMramBlockMove b) rfl (if_pos (by rcases h with h | h <;> simp [h]))

end

/-! Words of the MRAM read with errors (22 R743). -/

section
variable {b a : Nat} {w : MramStruct} {s : State}

/-- The block once the word is counted. -/
def wordRead (e : Blk) : Blk := { e with ceRot := e.ceRot + 1 }

/-- The word is counted. -/
def wordCounted (b : Nat) (s : State) : State := putBlk (wordRead (blkOf s b)) (s.modFab fun v => { v with bce := inc32 v.bce })

/-- The block is SUSPECT and moves at the next epoch boundary. -/
def blkSuspected (b : Nat) (e : Blk) (s : State) : State :=
  (putBlk { e with st := .suspect } s).modFab fun v => { v with blkMove := v.blkMove ++ [b] }

theorem blkOf_blkSuspected {e : Blk} : blkOf (blkSuspected b e s) b = blkOf (putBlk { e with st := .suspect } s) b := rfl

theorem exec_wordRead : exec (.mramCorrectableError b) s =
    .next (if decide ((blkOf s b).st = .inService) && ((blkOf s b).cePrev || decide (4 < (wordRead (blkOf s b)).ceRot)) then
      blkSuspected b (wordRead (blkOf s b)) (wordCounted b s) else wordCounted b s) := rfl

theorem upd_wordCounted : Upd [.fab] s (wordCounted b s) := .comp (upd_putBlk ..) rfl (upd_modFab ..)

theorem wordRead_suspects (hst : (blkOf s b).st = .inService) (h : (blkOf s b).cePrev = true ∨ 4 ≤ (blkOf s b).ceRot) :
    Does (.mramCorrectableError b) s [.fab] fun t =>
      t.fab.bce = inc32 s.fab.bce ∧ (blkOf t b).st = .suspect ∧ t.fab.blkMove = s.fab.blkMove ++ [b] ∧ t.fab.spares = s.fab.spares := by
  have hexec := exec_wordRead (b := b) (s := s)
  rw [if_pos (by rcases h with h | h <;> simp [hst, h, wordRead])] at hexec
  refine ⟨_, hexec, .comp (upd_modFab ..) rfl (.comp (upd_putBlk ..) rfl upd_wordCounted), rfl, ?_, rfl, rfl⟩
  rw [blkOf_blkSuspected, blkOf_putBlk_st (by exact blkOf_blk)]

theorem wordRead_counts (h : (blkOf s b).st ≠ .inService ∨ ((blkOf s b).cePrev = false ∧ (blkOf s b).ceRot < 4)) :
    Does (.mramCorrectableError b) s [.fab] fun t =>
      t.fab.bce = inc32 s.fab.bce ∧ blkOf t b = { blkOf s b with ceRot := (blkOf s b).ceRot + 1 } ∧ t.fab.blkMove = s.fab.blkMove ∧
        t.fab.spares = s.fab.spares := by
  have hexec := exec_wordRead (b := b) (s := s)
  rw [if_neg (by rcases h with h | ⟨hprev, hce⟩ <;> simp [*, wordRead])] at hexec
  exact ⟨_, hexec, upd_wordCounted, rfl, blkOf_putBlk_says blkOf_blk (by simp [blkSays, wordRead]), rfl, rfl⟩

/-- The structure of a lost word is the one that reads as a failure. -/
theorem structLost_structBad {s t : State} (h : Upd [.fab, .ev, .sen] s t) : StructLost w s (structBad w t) := by
  cases w with
  | lockRecA => exact ⟨rfl, by rw [← h.safe rfl]; rfl⟩
  | lockRecB => exact ⟨rfl, by rw [← h.safe rfl]; rfl⟩
  | regsA i =>
    have hsame := modPmet_pmet_same i (fun x => { x with copyA := { x.copyA with written := false } }) t
    exact ⟨(congrArg (·.copyA.written) hsame), (congrArg PtMet.copyB hsame).trans (by rw [← h.pmet rfl])⟩
  | regsB i =>
    have hsame := modPmet_pmet_same i (fun x => { x with copyB := { x.copyB with written := false } }) t
    exact ⟨(congrArg (·.copyB.written) hsame), (congrArg PtMet.copyA hsame).trans (by rw [← h.pmet rfl])⟩
  | rootCopy1 => exact ⟨rfl, by rw [← h.keys rfl]; rfl⟩
  | rootCopy2 => exact ⟨rfl, by rw [← h.keys rfl]; rfl⟩
  | modelA => exact ⟨rfl, by rw [← h.epd rfl]; rfl⟩
  | modelB => exact ⟨rfl, by rw [← h.epd rfl]; rfl⟩
  | keySlot k =>
    refine ⟨congrArg KeySlot.status (Vector.getElem_set_self ..), fun j hj => ?_⟩
    rw [← h.keys rfl]
    exact Vector.getElem_set_ne k.isLt j.isLt fun h' => hj (Fin.ext h'.symm)
  | checkpoint => rfl
  | other => exact ⟨h.safe rfl, h.pmet rfl, h.keys rfl, h.epd rfl, h.clk rfl⟩

theorem wordLost_holds (hup : s.elec.supplyOk = true) : Does (.mramUncorrectableError a w) s [.clk, .keys, .pmet, .safe, .epd, .fab, .ev, .sen] fun t =>
    StructLost w s t ∧ t.fab = { s.fab with bue := inc32 s.fab.bue } ∧ t.ev = (raise 0x9054 1 255 (a % 2 ^ 32) s).ev := by
  have hexec : exec (.mramUncorrectableError a w) s =
      .next (structBad w (raise 0x9054 1 255 (a % 2 ^ 32) (s.modFab fun f => { f with bue := inc32 f.bue }))) := by
    change execMramUncorrectableError a w s = _
    rw [execMramUncorrectableError, hup]
    rfl
  have hraised : Upd [.fab, .ev, .sen] s (raise 0x9054 1 255 (a % 2 ^ 32) (s.modFab fun f => { f with bue := inc32 f.bue })) :=
    .comp (upd_raise ..) rfl ((upd_modFab ..).mono rfl)
  refine ⟨_, hexec, .comp (upd_structBad ..) rfl (hraised.mono rfl), structLost_structBad hraised, ?_, ?_⟩
  · rw [(upd_structBad ..).fab rfl, raise_fab]
    rfl
  · rw [(upd_structBad ..).ev rfl]
    exact (((upd_modFab ..).eventsAgree rfl rfl rfl rfl).raise ..).ev

theorem wordLost_idles (hup : s.elec.supplyOk = false) : Idles (.mramUncorrectableError a w) s := by
  change execMramUncorrectableError a w s = _
  rw [execMramUncorrectableError, hup]
  rfl

end

/-- Settles O54, command by command of the fabric: the lanes' steps, judgements, residue errors and hand-offs, then the rows, then the blocks. -/
theorem fabricIsTestedAndRepaired : Obligations.FabricIsTestedAndRepaired := by
  unfold Obligations.FabricIsTestedAndRepaired
  exact ⟨fun _ _ => laneStep_idles, fun _ _ => laneStep_skips, fun _ _ _ => laneStep_hands, fun _ _ _ => laneStep_mismatches,
    fun _ _ _ _ => laneJudge_suspects, fun _ _ _ _ => laneJudge_retires, fun _ _ _ _ => laneJudge_returns, fun _ _ _ _ _ => laneJudge_blames,
    fun _ _ _ _ => laneJudge_retested, fun _ _ _ _ _ => laneJudge_idles, fun _ _ => residue_inReturn, fun _ _ => residue_suspects,
    fun _ _ => residue_restarts, fun _ _ => residue_idles, fun _ _ _ _ => handoff_hands, fun _ _ _ => handoff_keeps, fun _ _ _ => handoff_idles,
    fun _ _ _ => rowStep_idles, fun _ _ _ => rowStep_stops,
    fun _ _ _ _ hdue hfree hr hst => ⟨rowStep_fails hdue hfree hr hst, rowStep_passes hdue hfree hr hst⟩,
    fun _ _ _ _ hdue hfree hr hst hsp => ⟨rowStep_retires hdue hfree hr hst hsp, rowStep_returns hdue hfree hr hst hsp⟩,
    fun _ _ _ _ => rowMove_moves, fun _ _ _ => rowMove_stays, fun _ _ _ => rowMove_idles, fun _ _ _ => correctable_counts,
    fun _ _ _ _ => correctable_suspects, fun _ _ _ => correctable_stays, fun _ _ _ => uncorrectable_lost, fun _ _ _ => uncorrectable_idles,
    fun _ _ => blkStep_idles, fun _ _ => blkStep_stops,
    fun _ _ _ hdue hfree hb hst => ⟨blkStep_fails hdue hfree hb hst, blkStep_passes hdue hfree hb hst⟩,
    fun _ _ _ _ hdue hfree hb hst hheld => ⟨blkStep_retires hdue hfree hb hst hheld, blkStep_returns hdue hfree hb hst hheld⟩,
    fun _ _ _ => blkMove_moves, fun _ _ => blkMove_stays, fun _ _ => blkMove_idles, fun _ _ => wordRead_suspects, fun _ _ => wordRead_counts,
    fun _ _ _ => wordLost_holds, fun _ _ _ => wordLost_idles, fun _ _ _ _ => blkStep_waits⟩

end Sys2Proof.Machine
end
